-- ==== Sys2Proof/Word.lean ====
section
/-! DEFINITION. The machine word of the KL5120: registers are 32 bits wide (R6), memories are read as bytes and words. -/

namespace Sys2Proof

/-- A register (R6: 32 bits). -/
abbrev Word := BitVec 32

/-- One byte of a frame or of the ring store (R167). -/
abbrev Byte := BitVec 8

end Sys2Proof
end

