-- ==== Sys2Proof/Syntax.lean ====
section
/-! DEFINITION. The commands the block takes: one constructor per row of spec/opcode_table.json, with its operands, and the
records those operands are made of. -/

namespace Sys2Proof

/-- A PTP message other than Sync (R56, R57). -/
inductive PtpKind where
  | announce (grandmaster : Nat)
  | followUp
  | delayResp
  deriving DecidableEq, Repr

/-- A frame as a data port receives it: its bytes from the destination address to the last byte of payload (the FCS apart),
whether the FCS is right, whether RS-FEC corrected every codeword of it, and whether its first cell had already crossed when
its end was checked. -/
structure RxFrame where
  bytes : List Byte
  fcsOk : Bool
  fecOk : Bool
  begun : Bool
  deriving DecidableEq, Repr

/-- What happens to the crossbar in one cell time: per output, the planes whose slice fails its CRC; planes that lose a link to
a crossbar port; a parity error in the matching; free-list or link words that fail in one copy (how many) and in both. -/
structure CellTime where
  sliceErrs : List (Nat × List Nat)
  linkLost : List Nat
  parityErr : Bool
  freeOne : Nat
  freeBoth : Bool
  deriving DecidableEq, Repr

/-- What a snooped message says of a group (R117). -/
inductive SnoopKind where
  /-- A join; no source where it is an any-source join (IGMPv2 and MLDv1 joins among them). -/
  | join (source : Option Nat)
  | leave (source : Option Nat)
  /-- An IGMPv1 report. -/
  | igmpV1
  deriving DecidableEq, Repr

/-- What a pump's accesses to the memory behind a ring give it. For a ring in host memory these are the four software words of
the descriptor, the buffer's bytes and whether each access succeeds; for a ring in the ring store only the failures count
(an uncorrectable word, FS52). -/
structure RingMem where
  desc : List Nat
  buf : List Byte
  descOk : Bool
  bufOk : Bool
  complOk : Bool
  deriving DecidableEq, Repr


/-- What the return input of a chain shows after a command frame (Table 9-2): the command word as it came back, if it did, and
the reply words that followed it. -/
structure CmdReturn where
  word : Option Nat
  replies : List Nat
  deriving DecidableEq, Repr


/-- What a coil channel measures when a command reaches it: current in mA, coil voltage in mV, and the highest current magnitude
and the time with 20 mA or more of the sequence so far. -/
structure CoilMeas where
  ma : Int
  mv : Int
  peak : Nat
  onUs : Nat
  deriving DecidableEq, Repr


/-- A CAN frame (Tables 11-5 and 11-7): identifier in [28:0] as held in a buffer word (a base identifier in [28:18]), and its
data bytes. -/
structure CanFrame where
  id : Nat
  ide : Bool
  rtr : Bool
  fdf : Bool
  brs : Bool
  esi : Bool
  dlc : Nat
  data : List Nat
  deriving DecidableEq, Repr

/-- How an attempt to send a CAN frame ends (R309). -/
inductive CanEnd where
  | ok
  | lost
  | error
  | ackError
  deriving DecidableEq, Repr


/-- What a detection says of itself (Table 15-3): the unit's page, the kind of access, its address, the VI and the engine. -/
structure FaultPlace where
  page : Nat
  access : Nat
  addr : Nat
  vi : Option Nat
  engine : Nat
  kind : Nat
  deriving DecidableEq, Repr

/-- What the engines load from an image (R464), as register words by key, word lists and worker memories; how an image's sections
hold them is left to the tool that builds it (R460). -/
structure ImageItems where
  /-- The bytes that MEAS_LOAD is taken over, in the order of R464. -/
  load : List Byte
  /-- Expected BIST signatures: page, unit and signature. -/
  bist : List (Nat × Nat × Nat)
  /-- Logical worker, instruction words from address 0, and data words from address 0. -/
  workers : List (Nat × List Word × List Word)
  /-- Coil sequences: channel and words. -/
  coils : List (Nat × List Nat)
  /-- Pattern tables, engine colours and inrush profiles: physical byte address, selector and value. -/
  tables : List (Nat × Nat × Nat)
  /-- The start configuration: writes that the keeper makes as VI 0, address and value (R460). -/
  config : List (Nat × Nat)
  deriving DecidableEq, Repr, Inhabited

/-- The external flash (Table 16-1): the two banks and the two copies of the boot record. -/
structure Flash where
  bankA : List Byte
  bankB : List Byte
  rec0 : List Byte
  rec1 : List Byte
  deriving DecidableEq, Repr

/-- Why a start begins (R458). -/
inductive StartCause where
  | porst
  | wakeFromOff
  | rung5
  deriving DecidableEq, Repr

/-- The commands of the block, one constructor per row of spec/opcode_table.json. In every command `dt` is the time since the
previous command, in timebase clocks of 2 ns (assumption log 2). -/
inductive Instr where
  /-- TREF_IN_LOSS (R43). -/
  | trefInLoss (dt : Nat)
  /-- REFCLK_LOSS (R42). -/
  | refclkLoss (dt : Nat)
  /-- PCIE_REFCLK_LOSS (R42). -/
  | pcieRefclkLoss (dt : Nat)
  /-- XTAL32K_LOSS (R42). -/
  | xtal32kLoss (dt : Nat)
  /-- PLL_UNLOCK (R47). -/
  | pllUnlock (dt : Nat) (clk : Nat)
  /-- PLL_STANDBY_RESTORED (R47). -/
  | pllStandbyRestored (dt : Nat) (clk : Nat)
  /-- TIM_NOW_SNAPSHOT (R51). -/
  | timNowSnapshot (dt : Nat) (req : Nat)
  /-- TIM_PPS_CAP_SNAPSHOT (R61). -/
  | timPpsCapSnapshot (dt : Nat) (req : Nat)
  /-- PPS_EDGE (R53). -/
  | ppsEdge (dt : Nat) (rising : Bool)
  /-- PTP_SYNC (R57). -/
  | ptpSync (dt : Nat) (port domain : Nat) (offset : Int)
  /-- PTP_MESSAGE (R56). -/
  | ptpMessage (dt : Nat) (port domain : Nat) (kind : PtpKind)
  /-- PTP_SYNC_TIMEOUT (R57). -/
  | ptpSyncTimeout (dt : Nat)
  /-- PPS_ABSENCE_TIMEOUT (R58). -/
  | ppsAbsenceTimeout (dt : Nat)
  /-- TEB_UPDATE (R59). -/
  | tebUpdate (dt : Nat)
  /-- HOLDOVER_LIMIT_REACHED (R58). -/
  | holdoverLimitReached (dt : Nat)
  /-- ESTEP_HOLD_EXPIRE (R19). -/
  | estepHoldExpire (dt : Nat)
  /-- GPT_INPUT_TICK (R65). -/
  | gptInputTick (dt : Nat) (n src pin : Nat) (rising : Bool)
  /-- GPT_CMP_LO_WRITE (R66). -/
  | gptCmpLoWrite (dt : Nat) (vi n value : Nat)
  /-- GPT_RELOAD_LO_WRITE (R66). -/
  | gptReloadLoWrite (dt : Nat) (vi n value : Nat)
  /-- GPT_CLEAR (R65). -/
  | gptClear (dt : Nat) (vi n : Nat)
  /-- GPT_ENABLE (R70). -/
  | gptEnable (dt : Nat) (vi n ctrl : Nat)
  /-- GPT_CAPTURE (R69). -/
  | gptCapture (dt : Nat) (n src : Nat)
  /-- GPT_CAP_LO_READ (R69). -/
  | gptCapLoRead (dt : Nat) (vi n : Nat) (meets : Bool)
  /-- GPT_AON_UPDATE (R68). -/
  | gptAonUpdate (dt : Nat) (n ticks : Nat)
  /-- REGISTER_WRITE (R83). -/
  | registerWrite (dt : Nat) (vi addr value : Nat)
  /-- POSTED_WRITE_EFFECT (R83). -/
  | postedWriteEffect (dt : Nat) (dom : Nat)
  /-- PAGE_READ_TIMEOUT (R84). -/
  | pageReadTimeout (dt : Nat) (vi addr : Nat)
  /-- PAGE_SRST (R73). -/
  | pageSrst (dt : Nat) (vi page : Nat)
  /-- PAGE_COMMIT (R74). -/
  | pageCommit (dt : Nat) (vi page : Nat)
  /-- PAGE_ENABLE_WRITE (R95). -/
  | pageEnableWrite (dt : Nat) (vi page : Nat) (en : Bool) (slots : List Nat)
  /-- EVT_PEND_CLEAR (R80). -/
  | evtPendClear (dt : Nat) (vi page mask meets : Nat)
  /-- EVT_ENABLE_WRITE (R80). -/
  | evtEnableWrite (dt : Nat) (vi page value : Nat)
  /-- EVT_FORCE (R80). -/
  | evtForce (dt : Nat) (vi page mask : Nat)
  /-- EVQ_ENABLE (R82). -/
  | evqEnable (dt : Nat) (vi : Nat) (en : Bool)
  /-- PCIE_FLR (R87). -/
  | pcieFlr (dt : Nat) (vi : Nat)
  /-- VF_DISABLE (R500). -/
  | vfDisable (dt : Nat)
  /-- NET_SESSION_OPEN (R88). -/
  | netSessionOpen (dt : Nat) (digest : Nat)
  /-- NET_SESSION_IDLE_CLOSE (R88). -/
  | netSessionIdleClose (dt : Nat) (vi : Nat)
  /-- NET_SESSION_CLOSE (R88). -/
  | netSessionClose (dt : Nat) (vi : Nat)
  /-- NET_READ (R89). -/
  | netRead (dt : Nat) (vi tag count addr : Nat)
  /-- NET_WRITE (R89). -/
  | netWrite (dt : Nat) (vi tag addr : Nat) (words : List Nat)
  /-- MDIO_FRAME_START (R125). -/
  | mdioFrameStart (dt : Nat) (vi value : Nat)
  /-- MDIO_FRAME_COMPLETE (R125). -/
  | mdioFrameComplete (dt : Nat) (data : Nat)
  /-- MGT_LINK_CHANGE (R126). -/
  | mgtLinkChange (dt : Nat) (m : Nat) (up : Bool)
  /-- MGT_FRAME_RX (R107). -/
  | mgtFrameRx (dt : Nat) (m : Nat) (frame : List Byte)
  /-- MGT_ENERGY_WAKE (R410). -/
  | mgtEnergyWake (dt : Nat) (m : Nat)
  /-- LINK_UP (R101). -/
  | linkUp (dt : Nat) (port : Nat)
  /-- AN_TRAINING_FAIL (R101). -/
  | anTrainingFail (dt : Nat) (port : Nat)
  /-- LINK_DOWN (R150). -/
  | linkDown (dt : Nat) (port : Nat)
  /-- SERDES_FAILURE (R126). -/
  | serdesFailure (dt : Nat) (port : Nat)
  /-- FRAME_RX (R108). -/
  | frameRx (dt : Nat) (port : Nat) (frame : RxFrame)
  /-- FEC_DEG_WINDOW (R102). -/
  | fecDegWindow (dt : Nat) (port symbols codewords : Nat)
  /-- PFC_PAUSE_EXPIRE (R106). -/
  | pfcPauseExpire (dt : Nat) (port cls : Nat)
  /-- PFC_XOFF_REFRESH (R105). -/
  | pfcXoffRefresh (dt : Nat) (port : Nat)
  /-- SNOOP_REPORT (R117). -/
  | snoopReport (dt : Nat) (port group : Nat) (v6 : Bool) (kind : SnoopKind) (frame : List Byte)
  /-- SNOOP_QUERY (R117). -/
  | snoopQuery (dt : Nat) (port : Nat)
  /-- SNOOP_GMI_EXPIRE (R117). -/
  | snoopGmiExpire (dt : Nat) (port : Nat) (group : Option Nat)
  /-- MERGE_LEG_SILENT (R121). -/
  | mergeLegSilent (dt : Nat) (entry : Nat)
  /-- MERGE_PAIR_SILENT (R121). -/
  | mergePairSilent (dt : Nat) (entry : Nat)
  /-- STR_READ (R114). -/
  | strRead (dt : Nat) (vi page : Nat)
  /-- STR_WRITE (R114). -/
  | strWrite (dt : Nat) (vi page : Nat)
  /-- STR_WRITE_KEEP (R114). -/
  | strWriteKeep (dt : Nat) (vi page : Nat)
  /-- STR_WRITE_SLOT_WAIT_END (R166). -/
  | strWriteSlotWaitEnd (dt : Nat) (vi page : Nat)
  /-- GRP_READ (R117). -/
  | grpRead (dt : Nat) (vi page : Nat)
  /-- GRP_WRITE (R117). -/
  | grpWrite (dt : Nat) (vi page : Nat)
  /-- CROSSBAR_CELL_TIME (R136). -/
  | crossbarCellTime (dt : Nat) (cell : CellTime)
  /-- PLANE_FORCE (R132). -/
  | planeForce (dt : Nat) (vi value : Nat)
  /-- PLANE_ISOLATION_COMPLETE (R132). -/
  | planeIsolationComplete (dt : Nat)
  /-- PACKET_DEQUEUE (R159). -/
  | packetDequeue (dt : Nat) (out k : Nat)
  /-- CIS_PEAK_CLR (R156). -/
  | cisPeakClr (dt : Nat) (vi n : Nat)
  /-- CIS_CNT_CLR (R156). -/
  | cisCntClr (dt : Nat) (vi n : Nat)
  /-- MOVE_TIMEOUT (R165). -/
  | moveTimeout (dt : Nat) (entry : Nat)
  /-- HQR_DOORBELL (R170). -/
  | hqrDoorbell (dt : Nat) (vi ring value : Nat)
  /-- HQR_TX_DESCRIPTOR (R171). -/
  | hqrTxDescriptor (dt : Nat) (pump : Nat) (mem : RingMem)
  /-- HQR_RX_FRAME (R173). -/
  | hqrRxFrame (dt : Nat) (pump : Nat) (mem : RingMem)
  /-- HQR_DISABLE (R175). -/
  | hqrDisable (dt : Nat) (vi ring ctrl : Nat) (ahead : List Bool)
  /-- HQR_STOP_COMPLETE (R175). -/
  | hqrStopComplete (dt : Nat) (ring : Nat)
  /-- HQR_ENABLE (R175). -/
  | hqrEnable (dt : Nat) (vi ring ctrl : Nat)
  /-- HQR_MEM_DATA_ACCESS (R167). -/
  | hqrMemDataAccess (dt : Nat) (vi ring : Nat) (write : Option Nat)
  /-- PCIE_LINK_LOSS (R179). -/
  | pcieLinkLoss (dt : Nat)
  /-- PCIE_LINK_RETRAINED (R179). -/
  | pcieLinkRetrained (dt : Nat)
  /-- PUMP_HANG (R180). -/
  | pumpHang (dt : Nat) (pump : Nat)
  /-- FS_CAPTURE_PACKET (R189). -/
  | fsCapturePacket (dt : Nat) (store : Nat)
  /-- FS_FRAME_COMPLETE (R189). -/
  | fsFrameComplete (dt : Nat) (store : Nat)
  /-- XS_DECODE_COMPLETE (R193). -/
  | xsDecodeComplete (dt : Nat) (store first count : Nat) (ok : Bool)
  /-- FS_ENABLE (R188). -/
  | fsEnable (dt : Nat) (vi store value : Nat)
  /-- FS_DISABLE (R188). -/
  | fsDisable (dt : Nat) (vi store : Nat)
  /-- CANVAS_ENABLE (R194). -/
  | canvasEnable (dt : Nat) (vi canvas : Nat)
  /-- LAYOUT_EPOCH_REQUEST (R209). -/
  | layoutEpochRequest (dt : Nat) (vi canvas : Nat)
  /-- LAYOUT_EPOCH_CHECKED (R210). -/
  | layoutEpochChecked (dt : Nat) (group : Nat)
  /-- CANVAS_FRAME_START (R195). -/
  | canvasFrameStart (dt : Nat) (canvas : Nat)
  /-- BINDING_INSTANT (R203). -/
  | bindingInstant (dt : Nat) (canvas : Nat)
  /-- LINE_DRAW (R203). -/
  | lineDraw (dt : Nat) (canvas tile line : Nat)
  /-- SEGMENT_POST (R203). -/
  | segmentPost (dt : Nat) (canvas : Nat)
  /-- TILE_PACKET_SEND (R197). -/
  | tilePacketSend (dt : Nat) (canvas tile k : Nat) (late : List Nat)
  /-- VALUE_FRAME_ENQUEUE (R225). -/
  | valueFrameEnqueue (dt : Nat)
  /-- VALUE_FRAME_APPLY (R219). -/
  | valueFrameApply (dt : Nat)
  /-- VAL_SRC_SILENT_EXPIRE (R224). -/
  | valSrcSilentExpire (dt : Nat) (slot : Nat)
  /-- VAL_SRC_DEV_WRITE (R224). -/
  | valSrcDevWrite (dt : Nat) (vi value : Nat)
  /-- VAL_EP_READ (R227). -/
  | valEpRead (dt : Nat) (vi : Nat)
  /-- VAL_EP_WRITE (R227). -/
  | valEpWrite (dt : Nat) (vi : Nat)
  /-- VAL_EP_WRITE_CLEAR (R227). -/
  | valEpWriteClear (dt : Nat) (vi : Nat)
  /-- VAL_EP_SET (R227). -/
  | valEpSet (dt : Nat) (vi : Nat)
  /-- VAL_ENGINE_HANG (R234). -/
  | valEngineHang (dt : Nat)
  /-- CHAIN_DATA_FRAME_START (R238). -/
  | chainDataFrameStart (dt : Nat) (chain : Nat)
  /-- CHAIN_LATCH (R237). -/
  | chainLatch (dt : Nat) (chain retBits : Nat) (latchBack : Bool)
  /-- LIT_CMD_PING (R239). -/
  | litCmdPing (dt : Nat) (vi chain hop : Nat) (bcast : Bool)
  /-- LIT_CMD_ENUM (R241). -/
  | litCmdEnum (dt : Nat) (vi chain hop : Nat) (bcast : Bool)
  /-- LIT_CMD_SET_LOSS (R239). -/
  | litCmdSetLoss (dt : Nat) (vi chain hop : Nat) (bcast : Bool)
  /-- LIT_CMD_SET_FAIL (R239). -/
  | litCmdSetFail (dt : Nat) (vi chain hop : Nat) (bcast : Bool)
  /-- LIT_CMD_READ_TEMP (R239). -/
  | litCmdReadTemp (dt : Nat) (vi chain hop : Nat) (bcast : Bool)
  /-- LIT_CMD_READ_ID (R239). -/
  | litCmdReadId (dt : Nat) (vi chain hop : Nat) (bcast : Bool)
  /-- CHAIN_COMMAND_FRAME (R238). -/
  | chainCommandFrame (dt : Nat) (chain : Nat)
  /-- CHAIN_COMMAND_COMPLETE (R241). -/
  | chainCommandComplete (dt : Nat) (chain : Nat) (ret : CmdReturn)
  /-- ENUM_PASS_END (R242). -/
  | enumPassEnd (dt : Nat) (chain : Nat) (tret : Option Nat)
  /-- LIT_DEV_COUNT_WRITE (R244). -/
  | litDevCountWrite (dt : Nat) (vi chain value : Nat)
  /-- LIT_PERIOD_WRITE (R238). -/
  | litPeriodWrite (dt : Nat) (vi chain value : Nat)
  /-- ZONE_TEMP_TIMEOUT (R248). -/
  | zoneTempTimeout (dt : Nat) (chain zone : Nat)
  /-- NTC_MEASURE (R265). -/
  | ntcMeasure (dt : Nat) (n : Nat) (ohms : Option Nat)
  /-- MATRIX_SCAN_READ (R255). -/
  | matrixScanRead (dt : Nat) (m : Nat)
  /-- MATRIX_SCAN_FRAME_START (R255). -/
  | matrixScanFrameStart (dt : Nat) (m : Nat)
  /-- MATRIX_LINE_SLOT (R253). -/
  | matrixLineSlot (dt : Nat) (m : Nat) (cut : List Nat) (oc : Bool)
  /-- STAGE_READ (R258). -/
  | stageRead (dt : Nat) (n vout : Nat)
  /-- STAGE_SETPOINT_EFFECT (R258). -/
  | stageSetpointEffect (dt : Nat) (n : Nat)
  /-- STAGE_OVERVOLTAGE (R259). -/
  | stageOvervoltage (dt : Nat) (n : Nat)
  /-- STAGE_SHORT (R259). -/
  | stageShort (dt : Nat) (n : Nat)
  /-- STAGE_RETRY (R259). -/
  | stageRetry (dt : Nat) (n : Nat)
  /-- CAL_READ (R265). -/
  | calRead (dt : Nat) (vi : Nat)
  /-- CAL_WRITE (R265). -/
  | calWrite (dt : Nat) (vi : Nat)
  /-- CAL_MTX_WRITE (R265). -/
  | calMtxWrite (dt : Nat) (vi value : Nat)
  /-- LDS_OUT_WRITE (R267). -/
  | ldsOutWrite (dt : Nat) (vi ch value : Nat)
  /-- LDS_EVALUATE (R275). -/
  | ldsEvaluate (dt : Nat) (ch ma us : Nat) (tj : Int) (lhIn vfield : Nat) (uv : Bool)
  /-- LDS_INRUSH_END (R268). -/
  | ldsInrushEnd (dt : Nat) (ch : Nat)
  /-- LDS_TRIP (R269). -/
  | ldsTrip (dt : Nat) (ch ma us : Nat)
  /-- LDS_PAUSE_EXPIRE (R269). -/
  | ldsPauseExpire (dt : Nat) (ch : Nat)
  /-- LDS_TRIES_CLEAR (R269). -/
  | ldsTriesClear (dt : Nat) (ch : Nat)
  /-- LDS_THERMAL_SHUTDOWN (R270). -/
  | ldsThermalShutdown (dt : Nat) (ch : Nat) (tj : Int)
  /-- LDS_THERMAL_RECOVER (R270). -/
  | ldsThermalRecover (dt : Nat) (ch : Nat) (tj : Int)
  /-- LDS_OPEN_LOAD (R271). -/
  | ldsOpenLoad (dt : Nat) (ch : Nat) (below : Bool) (vfield : Nat)
  /-- LDS_STUCK_ON (R272). -/
  | ldsStuckOn (dt : Nat) (ch : Nat)
  /-- LDS_AGGREGATE_CHECK (R273). -/
  | ldsAggregateCheck (dt : Nat) (total : Nat)
  /-- VFIELD_UNDERVOLTAGE (R274). -/
  | vfieldUndervoltage (dt : Nat) (vfield : Nat)
  /-- VFIELD_RESTORED (R274). -/
  | vfieldRestored (dt : Nat) (vfield : Nat)
  /-- LDS_RESTORING_EXPIRE (R274). -/
  | ldsRestoringExpire (dt : Nat) (ch : Nat)
  /-- LDS_LATCH_CLR (R275). -/
  | ldsLatchClr (dt : Nat) (vi ch value : Nat)
  /-- LIMP_N_LOW (R276). -/
  | limpNLow (dt : Nat)
  /-- HEARTBEAT_WRITE (R276). -/
  | heartbeatWrite (dt : Nat) (vi : Nat)
  /-- HEARTBEAT_LOSS (R276). -/
  | heartbeatLoss (dt : Nat)
  /-- LIMP_LATCH_CLEAR (R277). -/
  | limpLatchClear (dt : Nat) (ch : Nat)
  /-- LIMP_EXIT (R278). -/
  | limpExit (dt : Nat) (vi value : Nat) (limpHigh : Bool)
  /-- SWI_SAMPLE (R283). -/
  | swiSample (dt : Nat) (mv : List Int) (vfield : Nat)
  /-- SWI_QUEUE_POP (R284). -/
  | swiQueuePop (dt : Nat) (vi : Nat)
  /-- SWI_WATCH_SAMPLE (R285). -/
  | swiWatchSample (dt : Nat) (mv : List Int) (vfield : Nat)
  /-- ENC_EDGE (R287). -/
  | encEdge (dt : Nat) (e : Nat) (a b : Bool)
  /-- ENC_INDEX (R288). -/
  | encIndex (dt : Nat) (e : Nat)
  /-- ENC_POS_WRITE (R287). -/
  | encPosWrite (dt : Nat) (vi e value : Nat)
  /-- COI_FIRE (R295). -/
  | coiFire (dt : Nat) (vi c value : Nat)
  /-- COI_ABORT (R293). -/
  | coiAbort (dt : Nat) (vi c value : Nat)
  /-- COI_OP_END (R294). -/
  | coiOpEnd (dt : Nat) (c : Nat)
  /-- COI_OP_SETI (R294). -/
  | coiOpSeti (dt : Nat) (c : Nat)
  /-- COI_OP_SRC (R294). -/
  | coiOpSrc (dt : Nat) (c : Nat)
  /-- COI_OP_WAITU (R294). -/
  | coiOpWaitu (dt : Nat) (c : Nat)
  /-- COI_OP_WAITM (R294). -/
  | coiOpWaitm (dt : Nat) (c : Nat)
  /-- COI_OP_WAITK (R297). -/
  | coiOpWaitk (dt : Nat) (c : Nat)
  /-- COI_OP_JMP (R294). -/
  | coiOpJmp (dt : Nat) (c : Nat)
  /-- COI_OP_LOOP (R294). -/
  | coiOpLoop (dt : Nat) (c : Nat)
  /-- COI_OP_BK (R294). -/
  | coiOpBk (dt : Nat) (c : Nat)
  /-- COI_OP_BNK (R294). -/
  | coiOpBnk (dt : Nat) (c : Nat)
  /-- COI_OP_BVB (R294). -/
  | coiOpBvb (dt : Nat) (c : Nat)
  /-- COI_OP_FREE (R294). -/
  | coiOpFree (dt : Nat) (c : Nat)
  /-- COI_OP_RECOV (R294). -/
  | coiOpRecov (dt : Nat) (c : Nat)
  /-- COI_OP_EVT (R294). -/
  | coiOpEvt (dt : Nat) (c : Nat)
  /-- COI_OP_RESERVED (R294). -/
  | coiOpReserved (dt : Nat) (c : Nat) (uncorr : Bool)
  /-- COI_WAIT_EXPIRE (R294). -/
  | coiWaitExpire (dt : Nat) (c : Nat) (m : CoilMeas)
  /-- COI_KINK_DETECT (R297). -/
  | coiKinkDetect (dt : Nat) (c maxMv avgMv : Nat) (m : CoilMeas)
  /-- COI_WAITK_TIMEOUT (R297). -/
  | coiWaitkTimeout (dt : Nat) (c : Nat) (m : CoilMeas)
  /-- COI_CURRENT_DECAYED (R294). -/
  | coiCurrentDecayed (dt : Nat) (c : Nat) (m : CoilMeas)
  /-- COI_MINOFF_EXPIRE (R296). -/
  | coiMinoffExpire (dt : Nat) (c : Nat)
  /-- VBOOST_LEVEL_CHANGE (R299). -/
  | vboostLevelChange (dt : Nat) (mv : Nat)
  /-- CAN_TX_REQUEST (R306). -/
  | canTxRequest (dt : Nat) (vi n value : Nat)
  /-- CAN_TX_CANCEL (R308). -/
  | canTxCancel (dt : Nat) (vi n value : Nat)
  /-- CAN_TX_ATTEMPT_START (R306). -/
  | canTxAttemptStart (dt : Nat) (n : Nat)
  /-- CAN_TX_ATTEMPT_END (R309). -/
  | canTxAttemptEnd (dt : Nat) (n : Nat) (how : CanEnd) (setAlone : Bool)
  /-- CAN_ALONE_SELF_SET (R310). -/
  | canAloneSelfSet (dt : Nat) (n : Nat)
  /-- CAN_BOFF_RECOVERY_START (R311). -/
  | canBoffRecoveryStart (dt : Nat) (n : Nat)
  /-- CAN_BOFF_RECOVERED (R311). -/
  | canBoffRecovered (dt : Nat) (n : Nat)
  /-- CAN_RX_FRAME (R313). -/
  | canRxFrame (dt : Nat) (n sofAgo : Nat) (f : CanFrame)
  /-- CAN_HP_WORD0_READ (R315). -/
  | canHpWord0Read (dt : Nat) (vi n b : Nat)
  /-- CAN_HP_WORD20_READ (R315). -/
  | canHpWord20Read (dt : Nat) (vi n b : Nat)
  /-- CAN_HP_LOCK_RELEASE (R315). -/
  | canHpLockRelease (dt : Nat) (vi n value : Nat)
  /-- CAN_RXF_WORD0_READ (R315). -/
  | canRxfWord0Read (dt : Nat) (vi n : Nat)
  /-- CAN_RXF_WORD20_READ (R315). -/
  | canRxfWord20Read (dt : Nat) (vi n : Nat)
  /-- CAN_TT_REFERENCE_SEND (R317). -/
  | canTtReferenceSend (dt : Nat) (n sofAgo : Nat) (how : CanEnd)
  /-- CAN_TT_WINDOW_MARK (R318). -/
  | canTtWindowMark (dt : Nat) (n entry : Nat)
  /-- CAN_TT_WINDOW_END (R319). -/
  | canTtWindowEnd (dt : Nat) (n entry : Nat)
  /-- CAN_TT_REF_TIMEOUT (R321). -/
  | canTtRefTimeout (dt : Nat) (n : Nat)
  /-- WAK_MODE_NORMAL (R322). -/
  | wakModeNormal (dt : Nat) (vi n : Nat)
  /-- WAK_MODE_STANDBY (R322). -/
  | wakModeStandby (dt : Nat) (vi n value : Nat)
  /-- WAK_MODE_SLEEP (R322). -/
  | wakModeSleep (dt : Nat) (vi n : Nat)
  /-- WAK_SLEEP_COMMIT (R324). -/
  | wakSleepCommit (dt : Nat) (n : Nat)
  /-- WAKE_UP_PATTERN (R323). -/
  | wakeUpPattern (dt : Nat) (n us : Nat)
  /-- SELECTIVE_WAKE_FRAME (R323). -/
  | selectiveWakeFrame (dt : Nat) (n : Nat) (f : CanFrame)
  /-- FRAME_ERROR_COUNTER_WAKE (R323). -/
  | frameErrorCounterWake (dt : Nat) (n : Nat)
  /-- WAK_FAILSAFE_EXPIRE (R325). -/
  | wakFailsafeExpire (dt : Nat) (n : Nat)
  /-- TXD_DOMINANT_TIMEOUT (R322). -/
  | txdDominantTimeout (dt : Nat) (n : Nat)
  /-- XCVR_THERMAL (R322). -/
  | xcvrThermal (dt : Nat) (n : Nat)
  /-- EXT_CAN_WAKE (R326). -/
  | extCanWake (dt : Nat) (n : Nat)
  /-- ZWK_START (R364). -/
  | zwkStart (dt : Nat) (vi w : Nat)
  /-- ZWK_STOP (R365). -/
  | zwkStop (dt : Nat) (vi w : Nat)
  /-- CORE_STOP_COMPLETE (R365). -/
  | coreStopComplete (dt : Nat) (core : Nat)
  /-- ZWK_IMEM_DATA_ACCESS (R366). -/
  | zwkImemDataAccess (dt : Nat) (vi w : Nat) (write : Option Nat)
  /-- ZWK_DMEM_DATA_ACCESS (R366). -/
  | zwkDmemDataAccess (dt : Nat) (vi w : Nat) (write : Option Nat)
  /-- ZWK_DOORBELL (R355). -/
  | zwkDoorbell (dt : Nat) (vi w value : Nat)
  /-- ZWK_TIMER_WRITE (R368). -/
  | zwkTimerWrite (dt : Nat) (vi core value : Nat)
  /-- CORE_TIMER_EXPIRE (R355). -/
  | coreTimerExpire (dt : Nat) (core : Nat)
  /-- ZWK_ROUTE_WRITE (R358). -/
  | zwkRouteWrite (dt : Nat) (vi w route value : Nat)
  /-- WAIT_RESUME (R357). -/
  | waitResume (dt : Nat) (core : Nat)
  /-- REMOTE_COMMAND_COMPLETE (R361). -/
  | remoteCommandComplete (dt : Nat) (core slot : Nat) (timeout : Bool)
  /-- ZW_PAIR_WORD (R336). -/
  | zwPairWord (dt : Nat) (core : Nat)
  /-- ZW_NOP (R342). -/
  | zwNop (dt : Nat) (core : Nat)
  /-- ZW_ADD (R342). -/
  | zwAdd (dt : Nat) (core : Nat)
  /-- ZW_ADDI (R342). -/
  | zwAddi (dt : Nat) (core : Nat)
  /-- ZW_SUB (R342). -/
  | zwSub (dt : Nat) (core : Nat)
  /-- ZW_ADC (R342). -/
  | zwAdc (dt : Nat) (core : Nat)
  /-- ZW_SBC (R342). -/
  | zwSbc (dt : Nat) (core : Nat)
  /-- ZW_AND (R342). -/
  | zwAnd (dt : Nat) (core : Nat)
  /-- ZW_ANDI (R342). -/
  | zwAndi (dt : Nat) (core : Nat)
  /-- ZW_OR (R342). -/
  | zwOr (dt : Nat) (core : Nat)
  /-- ZW_ORI (R342). -/
  | zwOri (dt : Nat) (core : Nat)
  /-- ZW_XOR (R342). -/
  | zwXor (dt : Nat) (core : Nat)
  /-- ZW_XORI (R342). -/
  | zwXori (dt : Nat) (core : Nat)
  /-- ZW_SHL (R343). -/
  | zwShl (dt : Nat) (core : Nat)
  /-- ZW_SHLI (R343). -/
  | zwShli (dt : Nat) (core : Nat)
  /-- ZW_SHR (R343). -/
  | zwShr (dt : Nat) (core : Nat)
  /-- ZW_SHRI (R343). -/
  | zwShri (dt : Nat) (core : Nat)
  /-- ZW_SAR (R343). -/
  | zwSar (dt : Nat) (core : Nat)
  /-- ZW_SARI (R343). -/
  | zwSari (dt : Nat) (core : Nat)
  /-- ZW_CMP (R343). -/
  | zwCmp (dt : Nat) (core : Nat)
  /-- ZW_CMPI (R343). -/
  | zwCmpi (dt : Nat) (core : Nat)
  /-- ZW_MIN (R342). -/
  | zwMin (dt : Nat) (core : Nat)
  /-- ZW_MAX (R342). -/
  | zwMax (dt : Nat) (core : Nat)
  /-- ZW_ABS (R343). -/
  | zwAbs (dt : Nat) (core : Nat)
  /-- ZW_NEG (R342). -/
  | zwNeg (dt : Nat) (core : Nat)
  /-- ZW_MOVI (R342). -/
  | zwMovi (dt : Nat) (core : Nat)
  /-- ZW_MOVHI (R342). -/
  | zwMovhi (dt : Nat) (core : Nat)
  /-- ZW_EXT (R342). -/
  | zwExt (dt : Nat) (core : Nat)
  /-- ZW_INS (R342). -/
  | zwIns (dt : Nat) (core : Nat)
  /-- ZW_CLZ (R342). -/
  | zwClz (dt : Nat) (core : Nat)
  /-- ZW_POPC (R342). -/
  | zwPopc (dt : Nat) (core : Nat)
  /-- ZW_MUL (R344). -/
  | zwMul (dt : Nat) (core : Nat)
  /-- ZW_MULHS (R342). -/
  | zwMulhs (dt : Nat) (core : Nat)
  /-- ZW_MULHU (R342). -/
  | zwMulhu (dt : Nat) (core : Nat)
  /-- ZW_MAC (R339). -/
  | zwMac (dt : Nat) (core : Nat)
  /-- ZW_MSU (R339). -/
  | zwMsu (dt : Nat) (core : Nat)
  /-- ZW_MOVAD (R342). -/
  | zwMovad (dt : Nat) (core : Nat)
  /-- ZW_MOVDA (R342). -/
  | zwMovda (dt : Nat) (core : Nat)
  /-- ZW_MOVAI (R342). -/
  | zwMovai (dt : Nat) (core : Nat)
  /-- ZW_ADDAI (R342). -/
  | zwAddai (dt : Nat) (core : Nat)
  /-- ZW_ADDA (R342). -/
  | zwAdda (dt : Nat) (core : Nat)
  /-- ZW_MOVSR (R333). -/
  | zwMovsr (dt : Nat) (core : Nat)
  /-- ZW_MOVRS (R333). -/
  | zwMovrs (dt : Nat) (core : Nat)
  /-- ZW_LD (R345). -/
  | zwLd (dt : Nat) (core : Nat)
  /-- ZW_ST (R345). -/
  | zwSt (dt : Nat) (core : Nat)
  /-- ZW_LDX (R345). -/
  | zwLdx (dt : Nat) (core : Nat)
  /-- ZW_STX (R345). -/
  | zwStx (dt : Nat) (core : Nat)
  /-- ZW_LDP (R345). -/
  | zwLdp (dt : Nat) (core : Nat)
  /-- ZW_STP (R345). -/
  | zwStp (dt : Nat) (core : Nat)
  /-- ZW_LDA (R345). -/
  | zwLda (dt : Nat) (core : Nat)
  /-- ZW_STA (R345). -/
  | zwSta (dt : Nat) (core : Nat)
  /-- ZW_BR (R349). -/
  | zwBr (dt : Nat) (core : Nat)
  /-- ZW_JR (R349). -/
  | zwJr (dt : Nat) (core : Nat)
  /-- ZW_CALL (R351). -/
  | zwCall (dt : Nat) (core : Nat)
  /-- ZW_CALLR (R351). -/
  | zwCallr (dt : Nat) (core : Nat)
  /-- ZW_RET (R351). -/
  | zwRet (dt : Nat) (core : Nat)
  /-- ZW_LOOP (R353). -/
  | zwLoop (dt : Nat) (core : Nat)
  /-- ZW_LOOPI (R353). -/
  | zwLoopi (dt : Nat) (core : Nat)
  /-- ZW_WAIT (R357). -/
  | zwWait (dt : Nat) (core : Nat)
  /-- ZW_WAITI (R357). -/
  | zwWaiti (dt : Nat) (core : Nat)
  /-- ZW_POLL (R357). -/
  | zwPoll (dt : Nat) (core : Nat)
  /-- ZW_EVCLR (R355). -/
  | zwEvclr (dt : Nat) (core : Nat)
  /-- ZW_HALT (R352). -/
  | zwHalt (dt : Nat) (core : Nat)
  /-- ZW_GET (R360). -/
  | zwGet (dt : Nat) (core : Nat)
  /-- ZW_PUT (R361). -/
  | zwPut (dt : Nat) (core : Nat)
  /-- ZW_PUTR (R361). -/
  | zwPutr (dt : Nat) (core : Nat)
  /-- DKY_OPEN (R376). -/
  | dkyOpen (dt : Nat) (vi : Nat)
  /-- DKY_SEAL (R376). -/
  | dkySeal (dt : Nat) (vi : Nat)
  /-- DKY_ABORT (R376). -/
  | dkyAbort (dt : Nat) (vi : Nat)
  /-- DKY_SEAL_COMPLETE (R378). -/
  | dkySealComplete (dt : Nat)
  /-- DKY_SIG_SUBMIT (R377). -/
  | dkySigSubmit (dt : Nat) (vi value : Nat)
  /-- DKY_SIG_VERIFIED (R377). -/
  | dkySigVerified (dt : Nat) (check : Bool)
  /-- DKY_WINDOW_EXPIRE (R376). -/
  | dkyWindowExpire (dt : Nat)
  /-- WAKE_N_PRESENCE_HOLD (R380). -/
  | wakeNPresenceHold (dt : Nat) (low : Bool)
  /-- PRESENCE_EXPIRE (R380). -/
  | presenceExpire (dt : Nat)
  /-- IDN_REPORT_REQUEST (R385). -/
  | idnReportRequest (dt : Nat) (vi value : Nat)
  /-- IDN_REPORT_READY (R385). -/
  | idnReportReady (dt : Nat)
  /-- IDENTITY_KEYGEN (R384). -/
  | identityKeygen (dt : Nat)
  /-- TOK_POLL (R391). -/
  | tokPoll (dt : Nat) (n : Nat) (card : Bool)
  /-- TOK_SELECT (R387). -/
  | tokSelect (dt : Nat) (n : Nat) (uid : List Nat)
  /-- TOK_AUTH1_REPLY (R388). -/
  | tokAuth1Reply (dt : Nat) (n : Nat) (bytes : List Nat)
  /-- TOK_AUTH2_REPLY (R388). -/
  | tokAuth2Reply (dt : Nat) (n : Nat) (bytes : List Nat)
  /-- TOK_READ_REPLY (R389). -/
  | tokReadReply (dt : Nat) (n : Nat) (bytes : List Nat)
  /-- TOK_REPLY_TIMEOUT (R388). -/
  | tokReplyTimeout (dt : Nat) (n : Nat)
  /-- TOK_PING (R391). -/
  | tokPing (dt : Nat) (n : Nat) (reply : List Nat)
  /-- TOK_PING_RETRY (R391). -/
  | tokPingRetry (dt : Nat) (n : Nat) (reply : List Nat)
  /-- TOK_LOCKOUT_EXPIRE (R390). -/
  | tokLockoutExpire (dt : Nat) (n : Nat)
  /-- TOK_IDLE_STOP (R391). -/
  | tokIdleStop (dt : Nat) (n : Nat)
  /-- TOK_POLL_ENABLE (R391). -/
  | tokPollEnable (dt : Nat) (vi n value : Nat)
  /-- TOK_RELAY_TIME_EXPIRE (R392). -/
  | tokRelayTimeExpire (dt : Nat) (n : Nat)
  /-- TOK_FRONTEND_FAULT (R394). -/
  | tokFrontendFault (dt : Nat) (n : Nat)
  /-- PWR_TARGET_RUN (R401). -/
  | pwrTargetRun (dt : Nat) (vi : Nat)
  /-- PWR_TARGET_IDLE (R402). -/
  | pwrTargetIdle (dt : Nat) (vi : Nat)
  /-- PWR_TARGET_SLEEP (R402). -/
  | pwrTargetSleep (dt : Nat) (vi : Nat)
  /-- PWR_TARGET_DEEP (R402). -/
  | pwrTargetDeep (dt : Nat) (vi : Nat)
  /-- PWR_TARGET_OFF (R402). -/
  | pwrTargetOff (dt : Nat) (vi : Nat)
  /-- DOMAIN_DRAIN_COMPLETE (R406). -/
  | domainDrainComplete (dt : Nat) (domain : Nat)
  /-- DOMAIN_DRAIN_ABORT (R406). -/
  | domainDrainAbort (dt : Nat) (domain : Nat)
  /-- LADDER_STATE_REACHED (R401). -/
  | ladderStateReached (dt : Nat) (domain : Option Nat)
  /-- PWR_D_REQUEST (R400). -/
  | pwrDRequest (dt : Nat) (vi domain value : Nat)
  /-- DOMAIN_WAKE_TIMEOUT (R400). -/
  | domainWakeTimeout (dt : Nat) (domain : Nat)
  /-- PAD_RELEASE (R407). -/
  | padRelease (dt : Nat) (vi value : Nat)
  /-- WATCH_REQUEST (R409). -/
  | watchRequest (dt : Nat) (vi value : Nat)
  /-- WATCH_ENTRY (R409). -/
  | watchEntry (dt : Nat) (sec : Nat)
  /-- WATCH_WAKE (R409). -/
  | watchWake (dt : Nat) (sec : Nat)
  /-- WATCH_RUN_REACHED (R409). -/
  | watchRunReached (dt : Nat) (sec : Nat)
  /-- WAKE_N_ASSERT (R410). -/
  | wakeNAssert (dt : Nat)
  /-- PCIE_L1_EXIT (R410). -/
  | pcieL1Exit (dt : Nat)
  /-- BUDGET_TICK (R411). -/
  | budgetTick (dt : Nat) (temps : List (Option Int)) (activity : Nat)
  /-- PMBUS_POLL (R412). -/
  | pmbusPoll (dt : Nat) (rail : Nat) (power : Nat) (activity : Nat)
  /-- RAIL_INVALID (R412). -/
  | railInvalid (dt : Nat) (rail : Nat) (valid : Bool)
  /-- THERMAL_TRIP (R417). -/
  | thermalTrip (dt : Nat) (sensor : Nat) (temp : Int)
  /-- FAULT_DETECTION (R424). -/
  | faultDetection (dt : Nat) (source : Nat) (place : FaultPlace) (held : Bool)
  /-- FAULT_FORCE (R426). -/
  | faultForce (dt : Nat) (vi page value : Nat)
  /-- FAULT_ACK (R431). -/
  | faultAck (dt : Nat) (vi page value : Nat)
  /-- FAULT_RECORD_CLEAR (R428). -/
  | faultRecordClear (dt : Nat) (vi value : Nat)
  /-- CORR_WINDOW (R425). -/
  | corrWindow (dt : Nat) (source : Nat)
  /-- FAULT_GRACE_EXPIRE (R430). -/
  | faultGraceExpire (dt : Nat) (source : Nat) (held : Bool)
  /-- ESCALATION_RUNG_COMPLETE (R430). -/
  | escalationRungComplete (dt : Nat) (source : Nat) (held : Bool)
  /-- LADDER_END_TIMEOUT (R430). -/
  | ladderEndTimeout (dt : Nat) (source : Nat)
  /-- SPARE_TAKEOVER (R434). -/
  | spareTakeover (dt : Nat) (source : Nat)
  /-- DOMAIN_RESET_REAPPLY (R437). -/
  | domainResetReapply (dt : Nat) (domain : Nat)
  /-- DEVICE_RESET (R430). -/
  | deviceReset (dt : Nat)
  /-- BIST_START (R441). -/
  | bistStart (dt : Nat) (vi page value : Nat)
  /-- BIST_PERIOD_DUE (R441). -/
  | bistPeriodDue (dt : Nat) (page : Nat)
  /-- BIST_DEFERRED_START (R441). -/
  | bistDeferredStart (dt : Nat) (page : Nat)
  /-- BIST_COMPLETE (R439). -/
  | bistComplete (dt : Nat) (page unit misr : Nat)
  /-- JOIN_STATE_TAKEN (R442). -/
  | joinStateTaken (dt : Nat) (page : Nat)
  /-- JOIN_TAKEOVER (R442). -/
  | joinTakeover (dt : Nat) (page : Nat)
  /-- JOIN_ABORT (R442). -/
  | joinAbort (dt : Nat) (page : Nat)
  /-- EPOCH_REQUEST (R445). -/
  | epochRequest (dt : Nat) (vi value : Nat)
  /-- EPOCH_AUTO_EXPIRE (R445). -/
  | epochAutoExpire (dt : Nat)
  /-- GLOBAL_EPOCH_START (R446). -/
  | globalEpochStart (dt : Nat)
  /-- GLOBAL_EPOCH_DURABLE (R446). -/
  | globalEpochDurable (dt : Nat)
  /-- GLOBAL_EPOCH_AON_APPLY (R446). -/
  | globalEpochAonApply (dt : Nat)
  /-- GLOBAL_EPOCH_ABORT (R446). -/
  | globalEpochAbort (dt : Nat)
  /-- JOURNAL_LOG_ROOM (R448). -/
  | journalLogRoom (dt : Nat) (records : Nat)
  /-- JOURNAL_RECORD_DURABLE (R448). -/
  | journalRecordDurable (dt : Nat) (pos : Nat)
  /-- POWER_FAIL_WARNING (R451). -/
  | powerFailWarning (dt : Nat)
  /-- POWER_FAIL_FLUSHED (R451). -/
  | powerFailFlushed (dt : Nat)
  /-- POWER_FAIL_RELEASE (R451). -/
  | powerFailRelease (dt : Nat)
  /-- PORST_ASSERT (R276). -/
  | porstAssert (dt : Nat)
  /-- SUPPLY_UNDERVOLTAGE (R490). -/
  | supplyUndervoltage (dt : Nat) (below : Bool)
  /-- START_SEQUENCE (R462). -/
  | startSequence (dt : Nat) (cause : StartCause) (flash : Option Flash) (straps : Nat) (failed : List (Nat × Nat))
  /-- SERVICE_READY (R465). -/
  | serviceReady (dt : Nat)
  /-- RNG_READY (R469). -/
  | rngReady (dt : Nat)
  /-- RNG_HEALTH_FAIL (R470). -/
  | rngHealthFail (dt : Nat)
  /-- RNG_RESEED (R469). -/
  | rngReseed (dt : Nat)
  /-- RNG_DATA_READ (R471). -/
  | rngDataRead (dt : Nat) (vi : Nat)
  /-- UPD_OPEN (R472). -/
  | updOpen (dt : Nat) (vi : Nat)
  /-- UPD_BLOCK (R473). -/
  | updBlock (dt : Nat) (vi : Nat)
  /-- UPD_BLOCK_DMA (R473). -/
  | updBlockDma (dt : Nat) (vi : Nat) (bytes : List Byte)
  /-- UPD_BLOCK_WRITTEN (R473). -/
  | updBlockWritten (dt : Nat)
  /-- UPD_VERIFY (R474). -/
  | updVerify (dt : Nat) (vi : Nat)
  /-- UPD_VERIFY_COMPLETE (R474). -/
  | updVerifyComplete (dt : Nat)
  /-- UPD_ABORT (R482). -/
  | updAbort (dt : Nat) (vi : Nat)
  /-- UPD_CONFIRM (R479). -/
  | updConfirm (dt : Nat) (vi : Nat)
  /-- UPD_REVERSE (R480). -/
  | updReverse (dt : Nat) (vi : Nat)
  /-- UPD_RECOVER (R468). -/
  | updRecover (dt : Nat) (vi : Nat)
  /-- ACTIVATION_STANDBY_READY (R477). -/
  | activationStandbyReady (dt : Nat)
  /-- UNIT_IMAGE_SWAP (R478). -/
  | unitImageSwap (dt : Nat) (unit : Nat)
  /-- TRIAL_WARN (R479). -/
  | trialWarn (dt : Nat)
  /-- TRIAL_TIMEOUT (R480). -/
  | trialTimeout (dt : Nat)
  /-- REVERSE_HANDOVER (R480). -/
  | reverseHandover (dt : Nat)
  /-- REVERSE_COMPLETE (R480). -/
  | reverseComplete (dt : Nat)
  /-- KEEPER_DEBUG_HALT (R369). -/
  | keeperDebugHalt (dt : Nat) (enter : Bool)
  /-- VAON_POWER_UP (R458). -/
  | vaonPowerUp (dt : Nat)
  /-- TREF_IN_RESTORED (R43). -/
  | trefInRestored (dt : Nat)
  /-- XCVR_THERMAL_RECOVER (R322). -/
  | xcvrThermalRecover (dt : Nat) (n : Nat)
  /-- CAN_ERROR_DETECTED (R311). -/
  | canErrorDetected (dt : Nat) (n inc : Nat)
  /-- ZW_RESERVED_LONG_WORD (R335). -/
  | zwReservedLongWord (dt : Nat) (core : Nat)
  deriving DecidableEq, Repr

end Sys2Proof
end

