-- ==== Sys2Proof/Decode.lean ====
section
/-! DEFINITION. Reading a command from table bits. The rows of spec/opcode_table.json give no bits, so no word spells a command
(assumption log 1). -/

namespace Sys2Proof

/-- The command that a word of `nbits` bits spells by the table's bits: none, since no row of the table gives any. -/
def decodeTableWord (_nbits _w : Nat) : Option Instr := none

end Sys2Proof
end

