-- ==== Sys2Proof/Config.lean ====
section
/-! DEFINITION. What the spec leaves open: constants with no body, so that no proof can see a value of them (assumption log 4). -/

namespace Sys2Proof

/-- A value the spec states no result for, drawn by number. -/
opaque Config.freeValue : Nat → BitVec 32

/-- The addend the phase-locked loop sets (Table 2-5, "adjust the addend by the phase-locked loop"): a function of the phase
error in 250 ps units and of the addend before, limited afterwards to 200 ppm from nominal. -/
opaque Config.pllAddend : Int → Nat → Nat

/-- The temperature in 1/16 °C that the Beta equation gives (R265): of the resistance in ohms, the resistance at 25 °C in 10 ohms
and Beta in K. The spec states neither its precision nor its rounding (assumption log 16). -/
opaque Config.ntcTemp : Nat → Nat → Nat → Int

/-- The pixel that a window's polyphase filter gives (R200, R212), in the 32-bit form of R187: of the geometry, the filter, the
number of taps and the source format, and of the bytes of the source lines its vertical taps read. The spec gives neither the
coefficient sets, nor the upsampling, nor the rounding of the colour matrices (assumption log 20). -/
opaque Config.scaledPixel : List Nat → List (List Byte) → BitVec 32

/-- The chroma sample that two neighbouring 4:4:4 pixels with different chroma share in a 4:2:2 tile stream (R196; assumption
log 20). -/
opaque Config.chroma : Nat → Nat → BitVec 10

/-- What the engines load from an image (R464): the layout of its section directory is left to the tool that builds it (R460). -/
opaque Config.imageItems : List Byte → ImageItems

/-- The Lanip keys held in the boot ROM and not revoked in OTP (R461), as points of the curve. -/
opaque Config.lanipKeys : List (Nat × Nat)

end Sys2Proof
end

