-- ==== Sys2Proof/Machine/Bits.lean ====
section
/-! DEFINITION. Bit-field, saturation and two's-complement helpers over register values read as naturals. -/

namespace Sys2Proof.Machine

/-- Bits [lo + w - 1 : lo] of a value. -/
def fieldOf (lo w v : Nat) : Nat := v / 2 ^ lo % 2 ^ w

/-- A value with bits [lo + w - 1 : lo] replaced by `x`. -/
def setFieldOf (lo w x v : Nat) : Nat := v - fieldOf lo w v * 2 ^ lo + (x % 2 ^ w) * 2 ^ lo

/-- Bit `i` of a value. -/
def bitOf (i v : Nat) : Bool := v / 2 ^ i % 2 == 1

/-- A flag as a number. -/
def b2n (b : Bool) : Nat := if b then 1 else 0

/-- A value with bit `i` set to `b`. -/
def setBitOf (i : Nat) (b : Bool) (v : Nat) : Nat := setFieldOf i 1 (b2n b) v

/-- Keep only the bits of `mask`. -/
def maskOf (mask v : Nat) : Nat := v &&& mask

/-- The largest 32-bit value; saturating counters stop there. -/
def maxWord : Nat := 0xFFFFFFFF

/-- Saturating increment of a counter of `w` bits. -/
def satInc (w v : Nat) : Nat := if v + 1 < 2 ^ w then v + 1 else 2 ^ w - 1

/-- Saturating addition at `w` bits. -/
def satAdd (w v n : Nat) : Nat := min (v + n) (2 ^ w - 1)

/-- The signed reading of a `w`-bit value. -/
def signedOf (w v : Nat) : Int := if v % 2 ^ w < 2 ^ (w - 1) then (v % 2 ^ w : Nat) else (v % 2 ^ w : Nat) - (2 ^ w : Nat)

/-- The `w`-bit code of a signed value, wrapping. -/
def ofSigned (w : Nat) (i : Int) : Nat := (i % ((2 ^ w : Nat) : Int)).toNat

/-- The `w`-bit code of a signed value, saturating. -/
def ofSignedSat (w : Nat) (i : Int) : Nat :=
  ofSigned w (max (-((2 ^ (w - 1) : Nat) : Int)) (min (((2 ^ (w - 1) : Nat) : Int) - 1) i))

/-- The magnitude of a signed value. -/
def absInt (i : Int) : Nat := i.natAbs

/-- Division rounded up. -/
def ceilDiv (a b : Nat) : Nat := (a + b - 1) / b

/-- The number of 1 bits among the low `n` bits. -/
def popCount : Nat → Nat → Nat
  | 0, _ => 0
  | n + 1, v => b2n (bitOf n v) + popCount n v

end Sys2Proof.Machine
end

