-- ==== Sys2Proof/Machine/SMap.lean ====
section
/-! DEFINITION. Sparse data by key: a list of (key, value) pairs in one canonical form (keys strictly rising), so that equal
contents are equal data. Registers, tables behind indirect registers, buffers and timers are held in it. -/

namespace Sys2Proof.Machine

/-- A sparse table from natural-number keys. -/
structure SMap (α : Type) where
  cells : List (Nat × α) := []
  deriving DecidableEq, Repr

/-- The value at the first pair that bears the key. -/
def SMap.findIn {α : Type} : List (Nat × α) → Nat → Option α
  | [], _ => none
  | (k', v) :: t, k => if k' = k then some v else SMap.findIn t k

/-- Sorted insertion into a list that has no pair with the key. -/
def SMap.insertIn {α : Type} (k : Nat) (v : α) : List (Nat × α) → List (Nat × α)
  | [] => [(k, v)]
  | (k', v') :: t => if k < k' then (k, v) :: (k', v') :: t else (k', v') :: SMap.insertIn k v t

/-- Whether the keys rise strictly. -/
def SMap.rising {α : Type} : List (Nat × α) → Bool
  | [] => true
  | [_] => true
  | (k, _) :: (k', v') :: t => decide (k < k') && SMap.rising ((k', v') :: t)

/-- The empty table. -/
def SMap.empty {α : Type} : SMap α := ⟨[]⟩

/-- The value held at a key, if any. -/
def SMap.find? {α : Type} (m : SMap α) (k : Nat) : Option α := SMap.findIn m.cells k

/-- The value at a key, `d` where none is held. -/
def SMap.find {α : Type} (m : SMap α) (d : α) (k : Nat) : α := (m.find? k).getD d

/-- Remove a key. -/
def SMap.erase {α : Type} (m : SMap α) (k : Nat) : SMap α := ⟨m.cells.filter (fun p => p.1 != k)⟩

/-- Hold `v` at `k`. -/
def SMap.set {α : Type} (m : SMap α) (k : Nat) (v : α) : SMap α := ⟨SMap.insertIn k v (m.erase k).cells⟩

/-- Hold `v` at `k`, where a key that is not held reads as `d`: writing `d` removes the key. -/
def SMap.put {α : Type} [DecidableEq α] (m : SMap α) (d : α) (k : Nat) (v : α) : SMap α :=
  if v = d then m.erase k else m.set k v

/-- Change the value at a key that reads as `d` where it is not held. -/
def SMap.modify {α : Type} [DecidableEq α] (m : SMap α) (d : α) (k : Nat) (f : α → α) : SMap α :=
  m.put d k (f (m.find d k))

/-- The canonical form: strictly rising keys, and no pair equal to what its key reads as when it is not held. -/
def SMap.wf {α : Type} [DecidableEq α] (m : SMap α) (d : Nat → α) : Bool :=
  SMap.rising m.cells && m.cells.all (fun p => decide (p.2 ≠ d p.1))

end Sys2Proof.Machine
end

