-- ==== Sys2Proof/Machine/Pages.lean ====
section
/-! DEFINITION. The block map of Table 3-4 (R76): the blocks, their pages, type codes, clock and power domains and event
numbers; and the form of a register row. -/

namespace Sys2Proof.Machine

/-- The blocks of Table 3-4, one per row. -/
inductive Block where
  | dev | vim | dky | idn | rng | upd | pwr | pwrD | bud | flt | fltSrc | bst | tim | gpt | pin | keeper | zwk | vi
  | prt | str | fab | cis | egq | hqr | pmp | cmp | cnv | win | val | lit | mtx | stg | pat | cal | lds | swi | enc
  | coi | tok | can | wak
  deriving DecidableEq, Repr

/-- How the resources of a block are granted to VIs (Grant column of Table 3-4, R91). -/
inductive GrantKind where
  /-- Granted by page. -/
  | page
  /-- Granted by entry: how many entries stand on one page (R91), and where slot 0 and the next slots lie; a stride of 0
  means that entries are reached through a selector only. -/
  | entry (perPage slotBase slotStride : Nat)
  /-- Fixed: seen by VI 0 alone. -/
  | vi0
  /-- Fixed: read by every VI. -/
  | every
  /-- Fixed: the VI page, seen by its own VI as local page 0. -/
  | ownPage
  deriving DecidableEq, Repr

/-- One row of Table 3-4. `page` is the base address divided by 4 KiB. -/
structure BlockRow where
  block : Block
  page : Nat
  type : Nat
  pages : Nat
  clk : Nat
  evBase : Nat
  evCount : Nat
  grant : GrantKind
  deriving DecidableEq, Repr

/-- The first half of Table 3-4 (R76): the control-die blocks. TIM and GPT stand before BST (log 39). -/
def blockTableA : List BlockRow := [
  ⟨.dev, 0x0000, 0x0001, 1, 4, 0, 4, .every⟩,
  ⟨.vim, 0x0001, 0x0002, 1, 4, 4, 8, .vi0⟩,
  ⟨.dky, 0x0002, 0x0003, 1, 4, 12, 8, .every⟩,
  ⟨.idn, 0x0003, 0x0004, 1, 4, 20, 4, .every⟩,
  ⟨.rng, 0x0004, 0x0005, 1, 4, 24, 4, .page⟩,
  ⟨.upd, 0x0005, 0x0006, 1, 4, 28, 8, .page⟩,
  ⟨.pwr, 0x0006, 0x0007, 1, 4, 36, 16, .page⟩,
  ⟨.pwrD, 0x0008, 0x0008, 22, 4, 36, 16, .every⟩,
  ⟨.bud, 0x0007, 0x0009, 1, 4, 52, 8, .page⟩,
  ⟨.flt, 0x0020, 0x000A, 1, 4, 60, 4, .page⟩,
  ⟨.fltSrc, 0x0021, 0x000B, 12, 4, 320, 192, .page⟩,
  ⟨.tim, 0x0040, 0x000D, 1, 4, 64, 8, .page⟩,
  ⟨.gpt, 0x0041, 0x000E, 32, 4, 96, 64, .page⟩,
  ⟨.bst, 0x0030, 0x000C, 64, 4, 72, 8, .page⟩,
  ⟨.pin, 0x0070, 0x000F, 1, 4, 80, 4, .vi0⟩,
  ⟨.keeper, 0x0080, 0x0010, 2, 4, 84, 4, .vi0⟩,
  ⟨.zwk, 0x0090, 0x0011, 96, 4, 88, 8, .page⟩,
  ⟨.vi, 0x0100, 0x0012, 1024, 4, 0, 0, .ownPage⟩]

/-- The second half of Table 3-4 (R76): fabric, composition and field blocks. -/
def blockTableB : List BlockRow := [
  ⟨.prt, 0x1000, 0x0016, 512, 1, 160, 16, .page⟩,
  ⟨.str, 0x1200, 0x0018, 16, 0, 176, 4, .entry 4096 0 0⟩,
  ⟨.fab, 0x1400, 0x0019, 1, 0, 180, 8, .page⟩,
  ⟨.cis, 0x1401, 0x001A, 72, 0, 180, 8, .page⟩,
  ⟨.egq, 0x1600, 0x001B, 64, 0, 188, 4, .entry 256 0 0⟩,
  ⟨.hqr, 0x1800, 0x001C, 1024, 4, 192, 8, .entry 16 0x100 0x40⟩,
  ⟨.pmp, 0x1C00, 0x0020, 16, 4, 200, 16, .page⟩,
  ⟨.cmp, 0x2000, 0x0021, 18, 2, 216, 8, .page⟩,
  ⟨.cnv, 0x2100, 0x0022, 16, 2, 224, 16, .page⟩,
  ⟨.win, 0x2200, 0x0023, 256, 2, 240, 4, .entry 4 0x100 0x80⟩,
  ⟨.val, 0x3000, 0x0024, 1, 0, 244, 8, .entry 262144 0 0⟩,
  ⟨.lit, 0x3800, 0x0025, 64, 9, 252, 8, .page⟩,
  ⟨.mtx, 0x3840, 0x0026, 2, 7, 260, 4, .page⟩,
  ⟨.stg, 0x3850, 0x0027, 12, 7, 264, 4, .page⟩,
  ⟨.pat, 0x3860, 0x0028, 16, 7, 268, 4, .page⟩,
  ⟨.cal, 0x3870, 0x0029, 1, 7, 272, 2, .entry 262144 0 0⟩,
  ⟨.lds, 0x3C00, 0x002A, 24, 7, 274, 8, .page⟩,
  ⟨.swi, 0x3C80, 0x002B, 1, 7, 282, 4, .page⟩,
  ⟨.enc, 0x3C90, 0x002C, 8, 7, 286, 4, .page⟩,
  ⟨.coi, 0x3CA0, 0x002D, 8, 7, 290, 8, .page⟩,
  ⟨.tok, 0x3CB0, 0x002E, 8, 7, 298, 8, .page⟩,
  ⟨.can, 0x3E00, 0x002F, 16, 8, 306, 8, .page⟩,
  ⟨.wak, 0x3F00, 0x0030, 8, 10, 314, 6, .page⟩]

/-- Table 3-4. -/
def blockTable : List BlockRow := blockTableA ++ blockTableB

/-- The row of a block. -/
def Block.row (b : Block) : BlockRow :=
  (blockTable.find? (fun r => decide (r.block = b))).getD ⟨b, 0, 0, 0, 0, 0, 0, .vi0⟩

/-- The first page of a block. -/
def Block.base : Block → Nat
  | .dev => 0x0000 | .vim => 0x0001 | .dky => 0x0002 | .idn => 0x0003 | .rng => 0x0004 | .upd => 0x0005 | .pwr => 0x0006
  | .pwrD => 0x0008 | .bud => 0x0007 | .flt => 0x0020 | .fltSrc => 0x0021 | .bst => 0x0030 | .tim => 0x0040
  | .gpt => 0x0041 | .pin => 0x0070 | .keeper => 0x0080 | .zwk => 0x0090 | .vi => 0x0100 | .prt => 0x1000
  | .str => 0x1200 | .fab => 0x1400 | .cis => 0x1401 | .egq => 0x1600 | .hqr => 0x1800 | .pmp => 0x1C00
  | .cmp => 0x2000 | .cnv => 0x2100 | .win => 0x2200 | .val => 0x3000 | .lit => 0x3800 | .mtx => 0x3840
  | .stg => 0x3850 | .pat => 0x3860 | .cal => 0x3870 | .lds => 0x3C00 | .swi => 0x3C80 | .enc => 0x3C90
  | .coi => 0x3CA0 | .tok => 0x3CB0 | .can => 0x3E00 | .wak => 0x3F00

/-- Where the model keeps BST pages 16 to 48. Table 3-4 puts them on the addresses of TIM and GPT, which R76 places at 0x004_0000
to 0x006_0000 in words; those blocks answer there, and the BST pages stand at a page number that no address of the map names
and that no VI reaches. DEDUCED (log 39). -/
def bstAside : Nat := 0x0530

/-- Whether a page number is one of the BST pages that the model keeps aside (log 39). -/
def asidePage (page : Nat) : Bool := decide (bstAside + 16 ≤ page) && decide (page ≤ bstAside + 48)

/-- Page `i` of a block: pages follow the base at a stride of 4 KiB (R76); the BST pages 16 to 48 stand aside (log 39). -/
def Block.pg (b : Block) (i : Nat) : Nat :=
  match b with
  | .bst => if 16 ≤ i ∧ i ≤ 48 then bstAside + i else Block.bst.base + i
  | _ => b.base + i

/-- The row whose pages hold a page number, if any: TIM and GPT stand before BST (log 39). -/
def rowOfPage (page : Nat) : Option BlockRow :=
  if asidePage page then some ⟨.bst, bstAside, 0x000C, 64, 4, 72, 8, .page⟩
  else blockTable.find? (fun r => decide (r.page ≤ page) && decide (page < r.page + r.pages))

/-- The block a page belongs to. -/
def blockOfPage (page : Nat) : Option Block := (rowOfPage page).map (·.block)

/-- The index of a page within its block. -/
def pageIndex (page : Nat) : Nat :=
  match rowOfPage page with
  | some r => page - r.page
  | none => 0

/-- The global number of a page's local event bit (R78, R79): the block's base plus the bit, except that GPT n takes
96 + 2n and fault-source page k takes 320 + 16k. -/
def eventNumber (page bit : Nat) : Nat :=
  match rowOfPage page with
  | some r =>
    match r.block with
    | .gpt => r.evBase + 2 * (page - r.page) + bit
    | .fltSrc => r.evBase + 16 * (page - r.page) + bit
    | _ => r.evBase + bit
  | none => 0

/-- Whether the resources of the page's block are granted by entry (R80, R91). -/
def entryGranted (page : Nat) : Bool :=
  match rowOfPage page with
  | some r => (match r.grant with | .entry _ _ _ => true | _ => false)
  | none => false

/-- The power domain of a page, coded as in Table 3-3 (R72, R399): the die that carries the block. The CNV and WIN pages
are handled apart (R499). -/
def pwrDomain (page : Nat) : Nat :=
  match rowOfPage page with
  | some r =>
    let i := page - r.page
    match r.block with
    | .keeper => 3
    | .zwk => 4 + i / 16
    | .prt => 11 + i / 64
    | .str | .fab | .cis | .egq | .val => 10
    | .cmp => if i < 9 then 19 else 20
    | .cnv | .win => 19
    | .lit | .mtx | .stg | .pat | .cal | .lds | .swi | .enc | .coi | .tok | .can => 1
    | .wak => 0
    | _ => 2
  | none => 2

/-- One register row: its first offset, how many times it repeats and at which stride, its reset value, and its bits by
access code (R8): plain writable, write-1-to-clear, shadowed (RWS) and double-key (RWL); then the ranges a write is
clamped to, as (lowest bit, width, least, greatest). `counter` marks the counters, which a soft reset clears (R73). -/
structure RegDef where
  off : Nat
  count : Nat
  stride : Nat
  reset : Nat
  rw : Nat
  w1c : Nat
  rws : Nat
  rwl : Nat
  clamps : List (Nat × Nat × Nat × Nat)
  counter : Bool
  deriving DecidableEq, Repr

/-- Whether the row covers an offset. -/
def RegDef.covers (d : RegDef) (off : Nat) : Bool :=
  decide (d.off ≤ off) && decide ((off - d.off) % d.stride = 0) && decide ((off - d.off) / d.stride < d.count)

/-- Header offsets (Table 3-1). -/
def hdrPageId : Nat := 0x000
def hdrPageCtrl : Nat := 0x008
def hdrPageStatus : Nat := 0x00C
def hdrEvtPend : Nat := 0x010
def hdrEvtEnable : Nat := 0x014
def hdrEvtForce : Nat := 0x018
def hdrFaultFirst : Nat := 0x01C
def hdrOwner : Nat := 0x020
def hdrPageDomain : Nat := 0x024
def hdrShadowCtrl : Nat := 0x028

/-- The key of a register of a page: its physical byte address. -/
def rk (page off : Nat) : Nat := page * 4096 + off

/-- The key of a VI's own copy of a register (R80, R501). -/
def rkVi (page off vi : Nat) : Nat := page * 4096 + off + (vi + 1) * 2 ^ 26

/-- The key of a register reached through a selector, for the selected index (R501). -/
def rkSel (page off sel : Nat) : Nat := page * 4096 + off + (sel + 1) * 2 ^ 37

/-- The physical byte address a key stands for. -/
def keyAddr (k : Nat) : Nat := k % 2 ^ 26

/-- The page of a key. -/
def keyPage (k : Nat) : Nat := keyAddr k / 4096

/-- The offset of a key. -/
def keyOff (k : Nat) : Nat := keyAddr k % 4096

end Sys2Proof.Machine
end

