-- ==== Sys2Proof/Machine/RegTable.lean ====
section
/-! DEFINITION. The register tables of spec/: every register of every block, its offset in its page, its reset value,
its writable bits by access code (R8) and the ranges a write is clamped to (R41, R62, R75). -/

namespace Sys2Proof.Machine

namespace R

/-! Offsets of the tim registers. -/
abbrev TIM_CTRL : Nat := 0x040
abbrev TIM_STATE : Nat := 0x044
abbrev TIM_NOW_S_HI : Nat := 0x048
abbrev TIM_NOW_S_LO : Nat := 0x04C
abbrev TIM_NOW_NS : Nat := 0x050
abbrev TIM_NOW_FRAC : Nat := 0x054
abbrev TIM_TEB : Nat := 0x058
abbrev TIM_REF_UNC : Nat := 0x05C
abbrev TIM_HOLD_STAB : Nat := 0x060
abbrev TIM_HOLD_LIMIT : Nat := 0x064
abbrev TIM_STEP_HOLD : Nat := 0x068
abbrev TIM_STEP_THR : Nat := 0x06C
abbrev TIM_AGREE : Nat := 0x070
abbrev TIM_FREQ_ADJ : Nat := 0x074
abbrev TIM_PPS_NEXT_S : Nat := 0x078
abbrev TIM_PPS_CAP_S : Nat := 0x07C
abbrev TIM_PPS_CAP_NS : Nat := 0x080
abbrev TIM_PPS_PHASE : Nat := 0x084
abbrev TIM_PPS_REJECTS : Nat := 0x088
abbrev TIM_LAST_STEP_S : Nat := 0x08C
abbrev TIM_LAST_STEP_NS : Nat := 0x090
abbrev TIM_PTP_CTRL : Nat := 0x094
abbrev TIM_PTP_OFFSET : Nat := 0x098
abbrev TIM_TEB_WARN : Nat := 0x09C
/-! Offsets of the gpt registers. -/
abbrev GPT_CTRL : Nat := 0x040
abbrev GPT_STATUS : Nat := 0x044
abbrev GPT_PRESCALE : Nat := 0x048
abbrev GPT_RELOAD_LO : Nat := 0x04C
abbrev GPT_RELOAD_HI : Nat := 0x050
abbrev GPT_COUNT_LO : Nat := 0x054
abbrev GPT_COUNT_HI : Nat := 0x058
abbrev GPT_CMP_LO : Nat := 0x05C
abbrev GPT_CMP_HI : Nat := 0x060
abbrev GPT_CAP_LO : Nat := 0x064
abbrev GPT_CAP_HI : Nat := 0x068
/-! Offsets of the vim registers. -/
abbrev VIM_GRANT_SEL : Nat := 0x040
abbrev VIM_GRANT_D0 : Nat := 0x044
abbrev VIM_GRANT_D1 : Nat := 0x048
abbrev VIM_GRANT_D2 : Nat := 0x04C
abbrev VIM_VEC_SEL : Nat := 0x050
abbrev VIM_VEC_DATA : Nat := 0x054
abbrev VIM_NETID_SEL : Nat := 0x058
abbrev VIM_NETID_DATA : Nat := 0x05C
abbrev VIM_NET_CTRL : Nat := 0x060
abbrev VIM_DENIED : Nat := 0x064
abbrev VIM_SESSIONS : Nat := 0x068
abbrev MGT_CTRL : Nat := 0x100
abbrev MGT_STATUS : Nat := 0x104
abbrev MGT_VLAN : Nat := 0x108
abbrev MGT_MAC_LO : Nat := 0x10C
abbrev MGT_MAC_HI : Nat := 0x110
abbrev MGT_ADDR_SEL : Nat := 0x114
abbrev MGT_ADDR_DATA : Nat := 0x118
abbrev MGT_MDIO : Nat := 0x11C
abbrev MGT_DROPS : Nat := 0x120
/-! Offsets of the pin registers. -/
abbrev PIN_SEL : Nat := 0x040
abbrev PIN_CLAIM : Nat := 0x044
abbrev PIN_LOCK : Nat := 0x048
/-! Offsets of the vi registers. -/
abbrev VI_CTRL : Nat := 0x040
abbrev VI_STATUS : Nat := 0x044
abbrev VI_EVQ_BASE_LO : Nat := 0x048
abbrev VI_EVQ_BASE_HI : Nat := 0x04C
abbrev VI_EVQ_SIZE : Nat := 0x050
abbrev VI_EVQ_TAIL : Nat := 0x054
abbrev VI_EVQ_HEAD : Nat := 0x058
abbrev VI_EVQ_LOST : Nat := 0x05C
abbrev VI_VEC_BASE : Nat := 0x060
abbrev VI_VEC_COUNT : Nat := 0x064
abbrev VI_EVMAP_SEL : Nat := 0x068
abbrev VI_EVMAP_DATA : Nat := 0x06C
abbrev VI_EVMOD : Nat := 0x070
/-! Offsets of the prt registers. -/
abbrev PRT_CTRL : Nat := 0x040
abbrev PRT_GROUP : Nat := 0x044
abbrev PRT_STATUS : Nat := 0x048
abbrev PRT_PVID : Nat := 0x04C
abbrev PRT_PCP_MAP : Nat := 0x050
abbrev PRT_MTU : Nat := 0x054
abbrev PRT_PFC : Nat := 0x058
abbrev PRT_MAC_LO : Nat := 0x05C
abbrev PRT_MAC_HI : Nat := 0x060
abbrev PRT_TS_RX_LAT : Nat := 0x064
abbrev PRT_TS_TX_LAT : Nat := 0x068
abbrev PRT_TRAP_RING : Nat := 0x06C
abbrev PRT_SNOOP : Nat := 0x070
abbrev PRT_FEC_DEG : Nat := 0x074
abbrev PRT_RX_FRAMES_LO : Nat := 0x080
abbrev PRT_RX_FRAMES_HI : Nat := 0x084
abbrev PRT_RX_BYTES_LO : Nat := 0x088
abbrev PRT_RX_BYTES_HI : Nat := 0x08C
abbrev PRT_TX_FRAMES_LO : Nat := 0x090
abbrev PRT_TX_FRAMES_HI : Nat := 0x094
abbrev PRT_TX_BYTES_LO : Nat := 0x098
abbrev PRT_TX_BYTES_HI : Nat := 0x09C
abbrev PRT_FCS_ERR : Nat := 0x0A0
abbrev PRT_FEC_CORR : Nat := 0x0A4
abbrev PRT_FEC_UNCORR : Nat := 0x0A8
abbrev PRT_RUNT : Nat := 0x0AC
abbrev PRT_OVERSIZE : Nat := 0x0B0
abbrev PRT_VLAN_DROP : Nat := 0x0B4
abbrev PRT_PAUSE_IGN : Nat := 0x0B8
abbrev PRT_PARSE_DROP : Nat := 0x0BC
abbrev PRT_MISS : Nat := 0x0C0
abbrev PRT_BOOT_DROP : Nat := 0x0C4
abbrev PRT_TRAP_LOST : Nat := 0x0C8
abbrev PRT_VLAN_IN : Nat := 0x400
abbrev PRT_VLAN_OUT : Nat := 0x600
/-! Offsets of the str registers. -/
abbrev STR_SEL : Nat := 0x040
abbrev STR_CMD : Nat := 0x044
abbrev STR_STATUS : Nat := 0x048
abbrev STR_D : Nat := 0x080
abbrev STR_CNT_MATCH : Nat := 0x0C0
abbrev STR_CNT_RED : Nat := 0x0C4
abbrev STR_CNT_DUP : Nat := 0x0C8
abbrev STR_CNT_CHECK : Nat := 0x0CC
abbrev STR_EV_SLOT : Nat := 0x0D0
abbrev GRP_SEL : Nat := 0x100
abbrev GRP_CMD : Nat := 0x104
abbrev GRP_LOCAL : Nat := 0x108
abbrev GRP_STATIC : Nat := 0x140
abbrev GRP_DYN : Nat := 0x180
/-! Offsets of the fab registers. -/
abbrev FAB_CTRL : Nat := 0x040
abbrev FAB_STATUS : Nat := 0x044
abbrev FAB_PLANE_FORCE : Nat := 0x048
abbrev FAB_POOL_USED : Nat := 0x04C
abbrev FAB_POOL_SIZED : Nat := 0x050
abbrev FAB_SLICE_CORR : Nat := 0x054
abbrev FAB_CELL_UNCORR : Nat := 0x058
abbrev FAB_STAGE_SEL : Nat := 0x05C
abbrev FAB_STAGE_OCC : Nat := 0x060
abbrev FAB_STAGE_DROP : Nat := 0x064
abbrev FAB_RED : Nat := 0x400
abbrev FAB_RED_1 : Nat := 0x404
abbrev FAB_RED_2 : Nat := 0x408
abbrev FAB_RED_3 : Nat := 0x40C
abbrev FAB_RED_4 : Nat := 0x410
abbrev FAB_RED_5 : Nat := 0x414
abbrev FAB_RED_6 : Nat := 0x418
abbrev FAB_RED_7 : Nat := 0x41C
/-! Offsets of the cis registers. -/
abbrev CIS_CTRL : Nat := 0x040
abbrev CIS_SIZE : Nat := 0x044
abbrev CIS_FRSV : Nat := 0x048
abbrev CIS_USED : Nat := 0x04C
abbrev CIS_FUSED : Nat := 0x050
abbrev CIS_PEAK : Nat := 0x054
abbrev CIS_WARN : Nat := 0x058
abbrev CIS_CNT_SEL : Nat := 0x060
abbrev CIS_OCC : Nat := 0x064
abbrev CIS_AVG : Nat := 0x068
abbrev CIS_CNT_ADMIT : Nat := 0x06C
abbrev CIS_CNT_RED_G : Nat := 0x070
abbrev CIS_CNT_RED_Y : Nat := 0x074
abbrev CIS_CNT_RED_R : Nat := 0x078
abbrev CIS_CNT_TAIL : Nat := 0x07C
abbrev CIS_CNT_STALE : Nat := 0x080
abbrev CIS_CNT_CUT : Nat := 0x084
abbrev CIS_CNT_BAD : Nat := 0x088
abbrev CIS_CNT_FLUSH : Nat := 0x08C
abbrev CIS_PLIM : Nat := 0x100
abbrev CIS_RED_SEL : Nat := 0x120
abbrev CIS_QLIM : Nat := 0x200
/-! Offsets of the egq registers. -/
abbrev EGQ_SEL : Nat := 0x040
abbrev EGQ_WCFG : Nat := 0x044
abbrev EGQ_WSTAT : Nat := 0x048
abbrev EGQ_WPKTS : Nat := 0x04C
abbrev EGQ_WCNT_TX : Nat := 0x050
abbrev EGQ_WCNT_MOVE_DROP : Nat := 0x054
abbrev EGQ_PORT_SEL : Nat := 0x060
abbrev EGQ_PSCHED : Nat := 0x064
abbrev EGQ_PWEIGHT0 : Nat := 0x068
abbrev EGQ_PWEIGHT1 : Nat := 0x06C
abbrev EGQ_PSHAPE : Nat := 0x070
abbrev EGQ_PBURST : Nat := 0x074
abbrev EGQ_PBUD : Nat := 0x078
abbrev EGQ_PMOVE_TMO : Nat := 0x07C
abbrev EGQ_PMOVES : Nat := 0x080
/-! Offsets of the pmp registers. -/
abbrev PMP_CTRL : Nat := 0x040
abbrev PMP_RATE_TX : Nat := 0x044
abbrev PMP_RATE_RX : Nat := 0x048
abbrev PMP_STATUS : Nat := 0x04C
abbrev PMP_TX_PKTS : Nat := 0x050
abbrev PMP_TX_BYTES_LO : Nat := 0x054
abbrev PMP_TX_BYTES_HI : Nat := 0x058
abbrev PMP_RX_PKTS : Nat := 0x05C
abbrev PMP_RX_BYTES_LO : Nat := 0x060
abbrev PMP_RX_BYTES_HI : Nat := 0x064
abbrev PMP_ADDR_ERRS : Nat := 0x068
abbrev PMP_ERR_ADDR_LO : Nat := 0x06C
abbrev PMP_ERR_ADDR_HI : Nat := 0x070
abbrev PMP_ERR_RING : Nat := 0x074
/-! Offsets of the cmp registers. -/
abbrev CMP_CTRL : Nat := 0x040
abbrev CMP_STATUS : Nat := 0x044
abbrev CMP_LOAD_OUT : Nat := 0x048
abbrev CMP_LOAD_IN : Nat := 0x04C
abbrev CMP_CNT_STALE : Nat := 0x050
abbrev CMP_CNT_LATE : Nat := 0x054
abbrev CMP_CNT_FAILOVER : Nat := 0x058
abbrev CMP_POOL_FREE : Nat := 0x05C
/-! Offsets of the cnv registers. -/
abbrev CNV_CTRL : Nat := 0x040
abbrev CNV_RASTER : Nat := 0x044
abbrev CNV_VTOTAL : Nat := 0x048
abbrev CNV_GRID : Nat := 0x04C
abbrev CNV_PHASE : Nat := 0x050
abbrev CNV_BG : Nat := 0x054
abbrev CNV_HATCH : Nat := 0x058
abbrev CNV_HATCH_COLOUR : Nat := 0x05C
abbrev CNV_UNBOUND_COLOUR : Nat := 0x060
abbrev CNV_DOWN_ALLOW : Nat := 0x064
abbrev CNV_EPOCH_REQ : Nat := 0x068
abbrev CNV_EPOCH : Nat := 0x06C
abbrev CNV_EPOCH_TIME : Nat := 0x070
abbrev CNV_EPOCH_STATUS : Nat := 0x07C
abbrev CNV_SRC_MAC_LO : Nat := 0x080
abbrev CNV_SRC_MAC_HI : Nat := 0x084
abbrev CNV_SRC_IP : Nat := 0x088
abbrev CNV_TILE_SEL : Nat := 0x098
abbrev CNV_CELL_SEL : Nat := 0x09C
abbrev CNV_CNT_FRAMES : Nat := 0x0A0
abbrev CNV_CNT_LATE_DROP : Nat := 0x0A4
abbrev CNV_TILE_D : Nat := 0x100
abbrev CNV_CELL_D : Nat := 0x140
/-! Offsets of the val registers. -/
abbrev VAL_SRC_SEL : Nat := 0x060
abbrev VAL_SRC_DEV : Nat := 0x064
abbrev VAL_SRC_PATH : Nat := 0x068
abbrev VAL_SRC_SILENT : Nat := 0x06C
abbrev VAL_SRC_SEQ : Nat := 0x070
abbrev VAL_SRC_STAT : Nat := 0x074
abbrev VAL_SRC_CNT_OK : Nat := 0x078
abbrev VAL_SRC_CNT_REJ : Nat := 0x07C
abbrev VAL_SRC_CNT_GAP : Nat := 0x080
abbrev VAL_SRC_CNT_OLDREC : Nat := 0x084
abbrev VAL_SRC_LAST_TA : Nat := 0x088
abbrev VAL_EP_SEL : Nat := 0x0C0
abbrev VAL_EP_CMD : Nat := 0x0C4
abbrev VAL_EP_STATUS : Nat := 0x0C8
abbrev VAL_EP_D : Nat := 0x0D0
abbrev VAL_MAP_SEL : Nat := 0x100
abbrev VAL_MAP_CTRL : Nat := 0x104
abbrev VAL_MAP_THR : Nat := 0x108
abbrev VAL_MAP_ROW_CH01 : Nat := 0x124
abbrev VAL_MAP_ROW_CH2 : Nat := 0x128
abbrev VAL_MAP_ROW_CELL : Nat := 0x12C
abbrev VAL_CNT_FRAMES : Nat := 0x140
abbrev VAL_CNT_RECORDS : Nat := 0x144
abbrev VAL_CNT_REJECT : Nat := 0x148
abbrev VAL_CNT_UNKNOWN : Nat := 0x14C
abbrev VAL_CNT_OVF : Nat := 0x150
abbrev VAL_UNKNOWN_DEV : Nat := 0x154
/-! Offsets of the lit registers. -/
abbrev LIT_CTRL : Nat := 0x040
abbrev LIT_STATUS : Nat := 0x044
abbrev LIT_DEV_COUNT : Nat := 0x048
abbrev LIT_LEN : Nat := 0x04C
abbrev LIT_PERIOD : Nat := 0x050
abbrev LIT_ENUM_CAL : Nat := 0x054
abbrev LIT_ENUM_LAST : Nat := 0x058
abbrev LIT_PROP : Nat := 0x05C
abbrev LIT_CMD : Nat := 0x060
abbrev LIT_CMD_DATA : Nat := 0x064
abbrev LIT_CMD_STATUS : Nat := 0x068
abbrev LIT_CMD_REPLY : Nat := 0x06C
abbrev LIT_RET_EXTRA : Nat := 0x070
abbrev LIT_DERATE : Nat := 0x074
abbrev LIT_ZONE : Nat := 0x080
abbrev LIT_ZONE_TEMP : Nat := 0x0A0
abbrev LIT_CNT_FRAMES : Nat := 0x0C0
abbrev LIT_CNT_CMD_ERR : Nat := 0x0C4
/-! Offsets of the mtx registers. -/
abbrev MTX_CTRL : Nat := 0x040
abbrev MTX_PRECHARGE : Nat := 0x044
abbrev MTX_STATUS : Nat := 0x048
abbrev MTX_OPEN_LO : Nat := 0x04C
abbrev MTX_OPEN_HI : Nat := 0x050
abbrev MTX_LINE_OC : Nat := 0x054
abbrev MTX_CNT_SCANS : Nat := 0x058
/-! Offsets of the stg registers. -/
abbrev STG_CTRL : Nat := 0x040
abbrev STG_FSW : Nat := 0x044
abbrev STG_PWM : Nat := 0x048
abbrev STG_IFS : Nat := 0x04C
abbrev STG_RAMP : Nat := 0x050
abbrev STG_OV : Nat := 0x054
abbrev STG_DERATE : Nat := 0x058
abbrev STG_STATUS : Nat := 0x05C
abbrev STG_VOUT : Nat := 0x060
abbrev STG_IOUT : Nat := 0x064
abbrev STG_SETPOINT : Nat := 0x068
abbrev STG_CNT_OPEN : Nat := 0x06C
abbrev STG_CNT_SHORT : Nat := 0x070
/-! Offsets of the pat registers. -/
abbrev PAT_CTRL : Nat := 0x040
abbrev PAT_STATUS : Nat := 0x044
abbrev PAT_COLOUR_CH01 : Nat := 0x048
abbrev PAT_COLOUR_CH2 : Nat := 0x04C
abbrev PAT_COLOUR_CELL : Nat := 0x050
abbrev PAT_TBL_SEL : Nat := 0x054
abbrev PAT_TBL_DATA : Nat := 0x058
abbrev PAT_PERIOD : Nat := 0x060
/-! Offsets of the cal registers. -/
abbrev CAL_SEL : Nat := 0x040
abbrev CAL_CMD : Nat := 0x044
abbrev CAL_STATUS : Nat := 0x048
abbrev CAL_D0 : Nat := 0x04C
abbrev CAL_D1 : Nat := 0x050
abbrev CAL_MTX_SEL : Nat := 0x060
abbrev CAL_MTX_DATA : Nat := 0x064
abbrev CAL_NTC_SEL : Nat := 0x070
abbrev CAL_NTC_CFG : Nat := 0x074
abbrev CAL_NTC_TEMP : Nat := 0x078
/-! Offsets of the lds registers. -/
abbrev LDS_OUT : Nat := 0x040
abbrev LDS_CFG : Nat := 0x044
abbrev LDS_STATUS : Nat := 0x048
abbrev LDS_IMEAS : Nat := 0x04C
abbrev LDS_TJ : Nat := 0x050
abbrev LDS_CLASS : Nat := 0x054
abbrev LDS_OL_THR : Nat := 0x058
abbrev LDS_CLR : Nat := 0x05C
abbrev LDS_CNT_OC : Nat := 0x060
abbrev LDS_CNT_THERM : Nat := 0x064
abbrev LDS_CNT_UV : Nat := 0x068
abbrev LDS_G_STATUS : Nat := 0x100
abbrev LDS_G_HB : Nat := 0x104
abbrev LDS_G_LIMP_EXIT : Nat := 0x108
abbrev LDS_G_VFIELD : Nat := 0x10C
abbrev LDS_G_ITOTAL : Nat := 0x110
abbrev LDS_G_AGG : Nat := 0x114
abbrev LDS_G_STAGGER : Nat := 0x118
abbrev LDS_G_PROF_SEL : Nat := 0x11C
abbrev LDS_G_PROF_PEAK : Nat := 0x120
abbrev LDS_G_PROF_TIME : Nat := 0x124
abbrev LDS_G_PROF_RUN : Nat := 0x128
/-! Offsets of the swi registers. -/
abbrev SWI_SEL : Nat := 0x040
abbrev SWI_CFG : Nat := 0x044
abbrev SWI_PERIOD : Nat := 0x048
abbrev SWI_STATE_LO : Nat := 0x04C
abbrev SWI_STATE_HI : Nat := 0x050
abbrev SWI_RISE_LO : Nat := 0x054
abbrev SWI_RISE_HI : Nat := 0x058
abbrev SWI_FALL_LO : Nat := 0x05C
abbrev SWI_FALL_HI : Nat := 0x060
abbrev SWI_EVMASK_LO : Nat := 0x064
abbrev SWI_EVMASK_HI : Nat := 0x068
abbrev SWI_WAKE_MASK_LO : Nat := 0x06C
abbrev SWI_WAKE_MASK_HI : Nat := 0x070
abbrev SWI_WAKE_REF_LO : Nat := 0x074
abbrev SWI_WAKE_REF_HI : Nat := 0x078
abbrev SWI_FAULT_LO : Nat := 0x07C
abbrev SWI_FAULT_HI : Nat := 0x080
abbrev SWI_Q0 : Nat := 0x084
abbrev SWI_Q1 : Nat := 0x088
abbrev SWI_Q_LOST : Nat := 0x094
/-! Offsets of the enc registers. -/
abbrev ENC_CTRL : Nat := 0x040
abbrev ENC_PPR : Nat := 0x044
abbrev ENC_POS : Nat := 0x048
abbrev ENC_IDX_POS : Nat := 0x04C
abbrev ENC_MISMATCH : Nat := 0x050
abbrev ENC_STATUS : Nat := 0x054
abbrev ENC_CNT_MISMATCH : Nat := 0x058
abbrev ENC_CNT_QERR : Nat := 0x05C
abbrev ENC_CNT_INDEX : Nat := 0x060
/-! Offsets of the coi registers. -/
abbrev COI_CTRL : Nat := 0x040
abbrev COI_FIRE : Nat := 0x044
abbrev COI_ABORT : Nat := 0x048
abbrev COI_STATUS : Nat := 0x04C
abbrev COI_MINOFF : Nat := 0x050
abbrev COI_KINK : Nat := 0x054
abbrev COI_KINK_T : Nat := 0x058
abbrev COI_IMEAS : Nat := 0x05C
abbrev COI_VMEAS : Nat := 0x060
abbrev COI_PEAK_I : Nat := 0x064
abbrev COI_ON_T : Nat := 0x068
abbrev COI_CNT_FIRE : Nat := 0x06C
abbrev COI_CNT_REFUSED : Nat := 0x070
abbrev COI_G_VBOOST_SET : Nat := 0x100
abbrev COI_G_VBOOST : Nat := 0x104
abbrev COI_G_STATUS : Nat := 0x108
abbrev COI_SEQ : Nat := 0x400
/-! Offsets of the can registers. -/
abbrev CAN_CTRL : Nat := 0x040
abbrev CAN_STATUS : Nat := 0x044
abbrev CAN_NBT : Nat := 0x048
abbrev CAN_DBT : Nat := 0x04C
abbrev CAN_TDC : Nat := 0x050
abbrev CAN_ECR : Nat := 0x054
abbrev CAN_TX_REQ : Nat := 0x058
abbrev CAN_TX_CANCEL : Nat := 0x05C
abbrev CAN_TX_STAT : Nat := 0x060
abbrev CAN_ACKERR_RUN : Nat := 0x064
abbrev CAN_TX_TRIES : Nat := 0x068
abbrev CAN_ALONE_GAP : Nat := 0x074
abbrev CAN_BOFF_DLY : Nat := 0x078
abbrev CAN_FLAGS : Nat := 0x07C
abbrev CAN_HP_PEND : Nat := 0x080
abbrev CAN_HP_LOCK : Nat := 0x084
abbrev CAN_RX_FILL : Nat := 0x088
abbrev CAN_CNT_TX : Nat := 0x08C
abbrev CAN_CNT_RX : Nat := 0x090
abbrev CAN_CNT_NOMATCH : Nat := 0x094
abbrev CAN_CNT_FIFO_OVF : Nat := 0x098
abbrev CAN_CNT_SPILL : Nat := 0x09C
abbrev CAN_CNT_BUSERR : Nat := 0x0A0
abbrev CAN_CNT_BOFF : Nat := 0x0A4
abbrev CAN_FLT_SEL : Nat := 0x0A8
abbrev CAN_FLT_D : Nat := 0x0AC
abbrev CAN_TT_CTRL : Nat := 0x0B8
abbrev CAN_TT_CYCLE : Nat := 0x0BC
abbrev CAN_TT_BACKUP : Nat := 0x0C0
abbrev CAN_TT_SEL : Nat := 0x0C4
abbrev CAN_TT_D : Nat := 0x0C8
abbrev CAN_TT_CNT_MISS : Nat := 0x0D0
abbrev CAN_TT_CNT_LATE : Nat := 0x0D4
abbrev CAN_TT_CNT_ABSENT : Nat := 0x0D8
abbrev CAN_RXF : Nat := 0x800
abbrev CAN_TXBUF : Nat := 0x200
abbrev CAN_TXBUF1 : Nat := 0x280
abbrev CAN_TXBUF2 : Nat := 0x300
abbrev CAN_HPBUF : Nat := 0x400
abbrev CAN_HPBUF1 : Nat := 0x480
abbrev CAN_HPBUF2 : Nat := 0x500
abbrev CAN_HPBUF3 : Nat := 0x580
abbrev CAN_HPBUF4 : Nat := 0x600
abbrev CAN_HPBUF5 : Nat := 0x680
abbrev CAN_HPBUF6 : Nat := 0x700
abbrev CAN_HPBUF7 : Nat := 0x780
/-! Offsets of the wak registers. -/
abbrev WAK_CMD : Nat := 0x040
abbrev WAK_STATUS : Nat := 0x044
abbrev WAK_CFG : Nat := 0x048
abbrev WAK_FAILSAFE : Nat := 0x04C
abbrev WAK_WUF_ID : Nat := 0x050
abbrev WAK_WUF_MASK : Nat := 0x054
abbrev WAK_WUF_DLC : Nat := 0x058
abbrev WAK_WUF_DATA_LO : Nat := 0x05C
abbrev WAK_WUF_DATA_HI : Nat := 0x060
abbrev WAK_FEC : Nat := 0x064
abbrev WAK_CNT_WAKE : Nat := 0x068
abbrev WAK_CNT_ABORT : Nat := 0x06C
abbrev WAK_G_EXTWAKE : Nat := 0x100
/-! Offsets of the zwk registers. -/
abbrev ZWK_CTRL : Nat := 0x040
abbrev ZWK_STATUS : Nat := 0x044
abbrev ZWK_PC : Nat := 0x048
abbrev ZWK_ENTRY : Nat := 0x04C
abbrev ZWK_VI : Nat := 0x050
abbrev ZWK_EVT : Nat := 0x054
abbrev ZWK_DOORBELL : Nat := 0x058
abbrev ZWK_TIMER : Nat := 0x05C
abbrev ZWK_ROUTE_SEL : Nat := 0x060
abbrev ZWK_ROUTE : Nat := 0x064
abbrev ZWK_CMD_ERR : Nat := 0x068
abbrev ZWK_CMD_ERR_ADDR : Nat := 0x06C
abbrev ZWK_IMEM_ADDR : Nat := 0x070
abbrev ZWK_IMEM_DATA : Nat := 0x074
abbrev ZWK_DMEM_ADDR : Nat := 0x078
abbrev ZWK_DMEM_DATA : Nat := 0x07C
abbrev ZWK_CNT_CMD : Nat := 0x080
/-! Offsets of the keeper registers. -/
abbrev KPR_STATUS : Nat := 0x040
abbrev KPR_PC : Nat := 0x044
abbrev KPR_EVT : Nat := 0x048
abbrev KPR_TIMER : Nat := 0x04C
abbrev KPR_EVQ_BASE : Nat := 0x050
abbrev KPR_EVQ_TAIL : Nat := 0x054
abbrev KPR_EVQ_HEAD : Nat := 0x058
abbrev KPR_EVQ_LOST : Nat := 0x05C
/-! Offsets of the dky registers. -/
abbrev DKY_CMD : Nat := 0x040
abbrev DKY_STATUS : Nat := 0x044
abbrev DKY_EPOCH : Nat := 0x048
abbrev DKY_SEAL_EPOCH : Nat := 0x04C
abbrev DKY_TIME_LEFT : Nat := 0x050
abbrev DKY_STAGE_HDR : Nat := 0x054
abbrev DKY_STAGE_SEL : Nat := 0x058
abbrev DKY_STAGE_ADDR : Nat := 0x05C
abbrev DKY_STAGE_SELV : Nat := 0x060
abbrev DKY_STAGE_VALUE : Nat := 0x064
abbrev DKY_DIGEST : Nat := 0x080
abbrev DKY_NONCE : Nat := 0x0B0
abbrev DKY_SIG_PRIN : Nat := 0x0D0
abbrev DKY_SIG_CMD : Nat := 0x0D4
abbrev DKY_SIG_STATUS : Nat := 0x0D8
abbrev DKY_SIG_R : Nat := 0x100
abbrev DKY_SIG_S : Nat := 0x130
abbrev DKY_PRIN_SEL : Nat := 0x180
abbrev DKY_PRIN_D : Nat := 0x184
abbrev DKY_TOKKEY : Nat := 0x200
abbrev DKY_REVOKE_SEL : Nat := 0x210
abbrev DKY_REVOKE : Nat := 0x214
abbrev DKY_BIND0 : Nat := 0x218
abbrev DKY_BIND1 : Nat := 0x21C
abbrev DKY_PRIN_COUNT : Nat := 0x224
/-! Offsets of the idn registers. -/
abbrev IDN_STATUS : Nat := 0x040
abbrev IDN_CMD : Nat := 0x044
abbrev IDN_SERIAL_LO : Nat := 0x048
abbrev IDN_SERIAL_HI : Nat := 0x04C
abbrev IDN_KEYID : Nat := 0x080
abbrev IDN_PUB : Nat := 0x0C0
abbrev IDN_CHAL : Nat := 0x140
abbrev IDN_REPORT_SEL : Nat := 0x160
abbrev IDN_REPORT_DATA : Nat := 0x164
abbrev IDN_CERT_LEN : Nat := 0x168
abbrev IDN_CERT_SEL : Nat := 0x16C
abbrev IDN_CERT_DATA : Nat := 0x170
/-! Offsets of the tok registers. -/
abbrev TOK_CTRL : Nat := 0x040
abbrev TOK_CFG : Nat := 0x044
abbrev TOK_STATUS : Nat := 0x048
abbrev TOK_UID_LO : Nat := 0x04C
abbrev TOK_UID_HI : Nat := 0x050
abbrev TOK_HOLDER : Nat := 0x054
abbrev TOK_GROUPS : Nat := 0x058
abbrev TOK_FAILS : Nat := 0x05C
abbrev TOK_LOCK_LEFT : Nat := 0x060
abbrev TOK_IDLE : Nat := 0x064
abbrev TOK_RELAY : Nat := 0x068
abbrev TOK_RELAY_GROUPS : Nat := 0x06C
abbrev TOK_CNT_OK : Nat := 0x070
abbrev TOK_CNT_FAIL : Nat := 0x074
abbrev TOK_CNT_LOCKOUT : Nat := 0x078
/-! Offsets of the pwr registers. -/
abbrev PWR_CTRL : Nat := 0x040
abbrev PWR_STATUS : Nat := 0x044
abbrev PWR_WAKE_EN : Nat := 0x048
abbrev PWR_WAKE_SRC : Nat := 0x04C
abbrev PWR_WAKE_GPT : Nat := 0x050
abbrev PWR_PAD_HELD : Nat := 0x054
abbrev PWR_PAD_RELEASE : Nat := 0x058
abbrev PWR_WATCH_REQ : Nat := 0x05C
abbrev PWR_WATCH_STATE : Nat := 0x060
abbrev PWR_CNT_ABORT : Nat := 0x064
abbrev PWR_CNT_LATE : Nat := 0x068
abbrev PWR_CNT_WAKE : Nat := 0x06C
/-! Offsets of the pwrD registers. -/
abbrev PWR_D_CTRL : Nat := 0x040
abbrev PWR_D_STATUS : Nat := 0x044
abbrev PWR_D_DRAIN : Nat := 0x048
abbrev PWR_D_POWER : Nat := 0x04C
abbrev PWR_D_CNT_ABORT : Nat := 0x050
/-! Offsets of the bud registers. -/
abbrev BUD_CTRL : Nat := 0x040
abbrev BUD_STATUS : Nat := 0x044
abbrev BUD_CAP : Nat := 0x048
abbrev BUD_TJ : Nat := 0x04C
abbrev BUD_HYST : Nat := 0x050
abbrev BUD_SHED_GAP : Nat := 0x054
abbrev BUD_RESTORE_HOLD : Nat := 0x058
abbrev BUD_MAX_LEVEL : Nat := 0x05C
abbrev BUD_P_EST : Nat := 0x060
abbrev BUD_TJ_MAX : Nat := 0x064
abbrev BUD_SENS_SEL : Nat := 0x068
abbrev BUD_SENS_DATA : Nat := 0x06C
abbrev BUD_PMBUS_CTRL : Nat := 0x070
abbrev BUD_RAIL_SEL : Nat := 0x074
abbrev BUD_RAIL_CFG : Nat := 0x078
abbrev BUD_RAIL_DATA : Nat := 0x07C
abbrev BUD_CNT_SHED : Nat := 0x080
abbrev BUD_CNT_RESTORE : Nat := 0x084
/-! Offsets of the flt registers. -/
abbrev FLT_CTRL : Nat := 0x040
abbrev FLT_STATUS : Nat := 0x044
abbrev FLT_EPOCH : Nat := 0x048
abbrev FLT_EPOCH_REQ : Nat := 0x04C
abbrev FLT_EPOCH_AUTO : Nat := 0x050
abbrev FLT_EPOCH_TIME : Nat := 0x054
abbrev FLT_EPOCH_LOG : Nat := 0x060
abbrev FLT_REC_SEL : Nat := 0x064
abbrev FLT_REC_D : Nat := 0x068
abbrev FLT_REC_CLR : Nat := 0x084
abbrev FLT_REC_USED : Nat := 0x088
abbrev FLT_JRN_SEL : Nat := 0x08C
abbrev FLT_JRN_DATA : Nat := 0x090
abbrev FLT_JRN_HEAD : Nat := 0x094
abbrev FLT_HOME_EPOCH : Nat := 0x098
abbrev FLT_JRN_REPLAY : Nat := 0x09C
abbrev FLT_CNT_ESC : Nat := 0x0A0
abbrev FLT_CNT_SPARE : Nat := 0x0A4
/-! Offsets of the fltSrc registers. -/
abbrev FLT_SRC_SEL : Nat := 0x040
abbrev FLT_SRC_CFG : Nat := 0x044
abbrev FLT_SRC_STATUS : Nat := 0x048
abbrev FLT_SRC_ACK : Nat := 0x04C
abbrev FLT_SRC_FORCE : Nat := 0x050
abbrev FLT_SRC_CNT : Nat := 0x054
abbrev FLT_SRC_GRACE_LEFT : Nat := 0x058
/-! Offsets of the bst registers. -/
abbrev BST_CTRL : Nat := 0x040
abbrev BST_STATUS : Nat := 0x044
abbrev BST_PERIOD : Nat := 0x048
abbrev BST_UNIT : Nat := 0x04C
abbrev BST_UNUSABLE : Nat := 0x050
abbrev BST_SIG_EXP : Nat := 0x054
abbrev BST_SIG_GOT : Nat := 0x058
abbrev BST_CNT_RUN : Nat := 0x05C
abbrev BST_CNT_FAIL : Nat := 0x060
/-! Offsets of the rng registers. -/
abbrev RNG_STATUS : Nat := 0x040
abbrev RNG_DATA : Nat := 0x044
abbrev RNG_ENT_BITS : Nat := 0x048
abbrev RNG_READY_T : Nat := 0x04C
abbrev RNG_CNT_HEALTH : Nat := 0x050
abbrev RNG_CNT_RESEED : Nat := 0x054
/-! Offsets of the upd registers. -/
abbrev UPD_CMD : Nat := 0x040
abbrev UPD_STATUS : Nat := 0x044
abbrev UPD_HDR : Nat := 0x048
abbrev UPD_BUF_ADDR : Nat := 0x068
abbrev UPD_BUF_DATA : Nat := 0x06C
abbrev UPD_DMA_LO : Nat := 0x070
abbrev UPD_DMA_HI : Nat := 0x074
abbrev UPD_SESSION : Nat := 0x078
abbrev UPD_BLOCKS : Nat := 0x07C
abbrev UPD_IMG_DIGEST : Nat := 0x080
abbrev UPD_IMG_INFO : Nat := 0x0B0
abbrev UPD_CONFIRM_TMO : Nat := 0x0B4
abbrev UPD_CONFIRM_LEFT : Nat := 0x0B8
abbrev UPD_CNT_REFUSED : Nat := 0x0BC
abbrev UPD_AUTH_DIGEST : Nat := 0x0C0
abbrev UPD_AUTH : Nat := 0x0F0
abbrev UPD_CUST_QX : Nat := 0x100
abbrev UPD_CUST_QY : Nat := 0x130
/-! Offsets of the dev registers. -/
abbrev DEV_ID : Nat := 0x040
abbrev DEV_STEPPING : Nat := 0x044
/-! Offsets of the hqr registers. -/
abbrev HQR_CTRL : Nat := 0x100
abbrev HQR_BASE_LO : Nat := 0x104
abbrev HQR_BASE_HI : Nat := 0x108
abbrev HQR_BUFSZ : Nat := 0x10C
abbrev HQR_DB : Nat := 0x110
abbrev HQR_IDX : Nat := 0x114
abbrev HQR_STATUS : Nat := 0x118
abbrev HQR_CNT_DONE : Nat := 0x11C
abbrev HQR_CNT_ERR : Nat := 0x120
abbrev HQR_CNT_TRUNC : Nat := 0x124
abbrev HQR_CNT_NOBUF : Nat := 0x128
abbrev HQR_CNT_MOVE_DROP : Nat := 0x12C
abbrev HQR_LWIN : Nat := 0x130
abbrev HQR_MEM_ADDR : Nat := 0x134
abbrev HQR_MEM_DATA : Nat := 0x138
abbrev HQR_PEND : Nat := 0x040
abbrev HQR_ERR_PEND : Nat := 0x044
/-! Offsets of the win registers. -/
abbrev WIN_CTRL : Nat := 0x100
abbrev WIN_SRC : Nat := 0x104
abbrev WIN_POS : Nat := 0x108
abbrev WIN_SIZE : Nat := 0x10C
abbrev WIN_CROP_POS : Nat := 0x110
abbrev WIN_CROP_SIZE : Nat := 0x114
abbrev WIN_Z : Nat := 0x118
abbrev WIN_DEADLINE : Nat := 0x11C
abbrev WIN_DIM : Nat := 0x120
abbrev WIN_PLAIN : Nat := 0x124
abbrev WIN_STATUS : Nat := 0x128
abbrev WIN_BIND_TC0 : Nat := 0x12C
abbrev WIN_BIND_TC1 : Nat := 0x130
abbrev WIN_BIND_TC2 : Nat := 0x134
abbrev WIN_CNT_STALE : Nat := 0x138
abbrev FS_CTRL : Nat := 0x400
abbrev FS_RASTER : Nat := 0x404
abbrev FS_RATE : Nat := 0x408
abbrev FS_CODED_MAX : Nat := 0x40C
abbrev FS_STATUS : Nat := 0x410
abbrev FS_LAST_TC0 : Nat := 0x414
abbrev FS_LAST_TC1 : Nat := 0x418
abbrev FS_LAST_TC2 : Nat := 0x41C
abbrev FS_CNT_FRAMES : Nat := 0x420
abbrev FS_CNT_FILLED : Nat := 0x424
abbrev FS_CNT_BROKEN : Nat := 0x428
abbrev FS_CNT_DROPPED : Nat := 0x42C
abbrev FS_CNT_XS_ERR : Nat := 0x430

end R

/-- Register rows of the tim page as the spec's table gives them. -/
def timRegs : List RegDef := [
  ⟨0x040, 1, 4, 0, 0x1f, 0, 0, 0, [], false⟩,
  ⟨0x044, 1, 4, 0, 0, 0, 0, 0, [], false⟩,
  ⟨0x048, 1, 4, 0, 0, 0, 0, 0, [], false⟩,
  ⟨0x04C, 1, 4, 0, 0, 0, 0, 0, [], false⟩,
  ⟨0x050, 1, 4, 0, 0, 0, 0, 0, [], false⟩,
  ⟨0x054, 1, 4, 0, 0, 0, 0, 0, [], false⟩,
  ⟨0x058, 1, 4, 0xffffffff, 0, 0, 0, 0, [], false⟩,
  ⟨0x05C, 1, 4, 0xfa, 0xffffffff, 0, 0, 0, [(0, 32, 0, 1000000)], false⟩,
  ⟨0x060, 1, 4, 0x3e8, 0xffffffff, 0, 0, 0, [(0, 32, 1, 2000000)], false⟩,
  ⟨0x064, 1, 4, 0x3e8, 0xffffffff, 0, 0, 0, [(0, 32, 1, 4000)], false⟩,
  ⟨0x068, 1, 4, 0x258, 0xffffffff, 0, 0, 0, [(0, 32, 1, 16383)], false⟩,
  ⟨0x06C, 1, 4, 0x3e8, 0xffffffff, 0, 0, 0, [(0, 32, 10, 1000000)], false⟩,
  ⟨0x070, 1, 4, 0x7d0, 0xffffffff, 0, 0, 0, [(0, 32, 10, 200000)], false⟩,
  ⟨0x074, 1, 4, 0, 0, 0, 0, 0, [], false⟩,
  ⟨0x078, 1, 4, 0, 0xffffffff, 0, 0, 0, [], false⟩,
  ⟨0x07C, 1, 4, 0, 0, 0, 0, 0, [], false⟩,
  ⟨0x080, 1, 4, 0, 0, 0, 0, 0, [], false⟩,
  ⟨0x084, 1, 4, 0, 0, 0, 0, 0, [], true⟩,
  ⟨0x088, 1, 4, 0, 0, 0, 0, 0, [], true⟩,
  ⟨0x08C, 1, 4, 0, 0, 0, 0, 0, [], true⟩,
  ⟨0x090, 1, 4, 0, 0, 0, 0, 0, [], false⟩,
  ⟨0x094, 1, 4, 0x7f, 0x7ffff, 0, 0, 0, [(8, 10, 0, 513)], false⟩,
  ⟨0x098, 1, 4, 0, 0, 0, 0, 0, [], true⟩,
  ⟨0x09C, 1, 4, 0xf4240, 0xffffffff, 0, 0, 0, [], false⟩]
/-- Register rows of the gpt page as the spec's table gives them. -/
def gptRegs : List RegDef := [
  ⟨0x040, 1, 4, 0, 0xfffffd, 0, 0, 0, [], false⟩,
  ⟨0x044, 1, 4, 0, 0, 5, 0, 0, [], false⟩,
  ⟨0x048, 1, 4, 0x10000, 0xffffffff, 0, 0, 0, [(0, 32, 65536, 4294967295)], false⟩,
  ⟨0x04C, 1, 4, 0xffffffff, 0xffffffff, 0, 0, 0, [], false⟩,
  ⟨0x050, 1, 4, 0xffff, 0xffff, 0, 0, 0, [], false⟩,
  ⟨0x054, 1, 4, 0, 0, 0, 0, 0, [], false⟩,
  ⟨0x058, 1, 4, 0, 0, 0, 0, 0, [], false⟩,
  ⟨0x05C, 1, 4, 0, 0xffffffff, 0, 0, 0, [], false⟩,
  ⟨0x060, 1, 4, 0, 0xffff, 0, 0, 0, [], false⟩,
  ⟨0x064, 1, 4, 0, 0, 0, 0, 0, [], false⟩,
  ⟨0x068, 1, 4, 0, 0, 0, 0, 0, [], false⟩]
/-- Register rows of the vim page as the spec's table gives them. -/
def vimRegs : List RegDef := [
  ⟨0x040, 1, 4, 0, 0x1fff, 0, 0, 0, [], false⟩,
  ⟨0x044, 1, 4, 0, 0, 0, 0, 0xffffffff, [], false⟩,
  ⟨0x048, 1, 4, 0, 0, 0, 0, 0x3ffff, [], false⟩,
  ⟨0x04C, 1, 4, 0, 0, 0, 0, 0x7ffff, [], false⟩,
  ⟨0x050, 1, 4, 1, 0x1ff, 0, 0, 0, [(0, 9, 1, 256)], false⟩,
  ⟨0x054, 1, 4, 0, 0, 0, 0, 0xfff7ff, [], false⟩,
  ⟨0x058, 1, 4, 0x101, 0xf03ff, 0, 0, 0, [(0, 10, 257, 1023), (16, 4, 0, 11)], false⟩,
  ⟨0x05C, 1, 4, 0, 0, 0, 0, 0xffffffff, [], false⟩,
  ⟨0x060, 1, 4, 0xa1400, 0, 0, 0, 0xffffff, [], false⟩,
  ⟨0x064, 1, 4, 0, 0, 0, 0, 0, [], true⟩,
  ⟨0x068, 1, 4, 0, 0, 0, 0, 0, [], false⟩,
  ⟨0x100, 1, 4, 0, 3, 0, 0, 0, [], false⟩,
  ⟨0x104, 1, 4, 0, 0, 0, 0, 0, [], false⟩,
  ⟨0x108, 1, 4, 0xffe, 0xfff, 0, 0, 0, [], false⟩,
  ⟨0x10C, 1, 4, 0, 0xffffffff, 0, 0, 0, [], false⟩,
  ⟨0x110, 1, 4, 0, 0xffff, 0, 0, 0, [], false⟩,
  ⟨0x114, 1, 4, 0, 0x1f, 0, 0, 0, [], false⟩,
  ⟨0x118, 1, 4, 0, 0xffffffff, 0, 0, 0, [], false⟩,
  ⟨0x11C, 1, 4, 0, 0, 0, 0, 0, [], false⟩,
  ⟨0x120, 1, 4, 0, 0, 0, 0, 0, [], true⟩]
/-- Register rows of the pin page as the spec's table gives them. -/
def pinRegs : List RegDef := [
  ⟨0x040, 1, 4, 0, 0x7ff, 0, 0, 0, [], false⟩,
  ⟨0x044, 1, 4, 0, 0, 0, 0, 0, [], true⟩,
  ⟨0x048, 1, 4, 0, 0, 0, 0, 0xffff, [], false⟩]
/-- Register rows of the vi page as the spec's table gives them. -/
def viRegs : List RegDef := [
  ⟨0x040, 1, 4, 0, 1, 0, 0, 0, [], false⟩,
  ⟨0x044, 1, 4, 0, 0, 8, 0, 0, [], false⟩,
  ⟨0x048, 1, 4, 0, 0xfffffff0, 0, 0, 0, [], false⟩,
  ⟨0x04C, 1, 4, 0, 0xffffffff, 0, 0, 0, [], false⟩,
  ⟨0x050, 1, 4, 4, 0x1f, 0, 0, 0, [(0, 5, 4, 16)], false⟩,
  ⟨0x054, 1, 4, 0, 0, 0, 0, 0, [], false⟩,
  ⟨0x058, 1, 4, 0, 0xffffffff, 0, 0, 0, [], false⟩,
  ⟨0x05C, 1, 4, 0, 0, 0, 0, 0, [], true⟩,
  ⟨0x060, 1, 4, 0, 0, 0, 0, 0, [], false⟩,
  ⟨0x064, 1, 4, 0, 0, 0, 0, 0, [], false⟩,
  ⟨0x068, 1, 4, 0, 0x1ff, 0, 0, 0, [], false⟩,
  ⟨0x06C, 1, 4, 0, 0x107ff, 0, 0, 0, [], false⟩,
  ⟨0x070, 1, 4, 0, 0x3ff, 0, 0, 0, [(0, 10, 0, 1000)], false⟩]
/-- Register rows of the prt page as the spec's table gives them. -/
def prtRegs0 : List RegDef := [
  ⟨0x040, 1, 4, 4, 0x7ff, 0, 0, 0, [], false⟩,
  ⟨0x044, 1, 4, 0, 0xffff03, 0, 0, 0, [], false⟩,
  ⟨0x048, 1, 4, 0, 0, 0, 0, 0, [], false⟩,
  ⟨0x04C, 1, 4, 1, 0x7fff, 0, 0, 0, [], false⟩,
  ⟨0x050, 1, 4, 0xdac688, 0xffffff, 0, 0, 0, [], false⟩,
  ⟨0x054, 1, 4, 0x2400, 0x3fff, 0, 0, 0, [(0, 14, 64, 9216)], false⟩,
  ⟨0x058, 1, 4, 0xffff0000, 0xffff7f7f, 0, 0, 0, [], false⟩,
  ⟨0x05C, 1, 4, 0, 0xffffffff, 0, 0, 0, [], false⟩,
  ⟨0x060, 1, 4, 0, 0xffff, 0, 0, 0, [], false⟩,
  ⟨0x064, 1, 4, 0, 0xffff, 0, 0, 0, [], false⟩,
  ⟨0x068, 1, 4, 0, 0xffff, 0, 0, 0, [], false⟩,
  ⟨0x06C, 1, 4, 0, 0xffff, 0, 0, 0, [], false⟩,
  ⟨0x070, 1, 4, 0x104, 0xffff, 0, 0, 0, [(0, 16, 1, 65535)], false⟩,
  ⟨0x074, 1, 4, 0x1000, 0xffffff, 0, 0, 0, [], false⟩,
  ⟨0x080, 1, 4, 0, 0, 0, 0, 0, [], true⟩,
  ⟨0x084, 1, 4, 0, 0, 0, 0, 0, [], true⟩,
  ⟨0x088, 1, 4, 0, 0, 0, 0, 0, [], true⟩,
  ⟨0x08C, 1, 4, 0, 0, 0, 0, 0, [], true⟩,
  ⟨0x090, 1, 4, 0, 0, 0, 0, 0, [], true⟩,
  ⟨0x094, 1, 4, 0, 0, 0, 0, 0, [], true⟩,
  ⟨0x098, 1, 4, 0, 0, 0, 0, 0, [], true⟩,
  ⟨0x09C, 1, 4, 0, 0, 0, 0, 0, [], true⟩,
  ⟨0x0A0, 1, 4, 0, 0, 0, 0, 0, [], true⟩,
  ⟨0x0A4, 1, 4, 0, 0, 0, 0, 0, [], true⟩,
  ⟨0x0A8, 1, 4, 0, 0, 0, 0, 0, [], true⟩]
/-- Register rows of the prt page as the spec's table gives them. -/
def prtRegs1 : List RegDef := [
  ⟨0x0AC, 1, 4, 0, 0, 0, 0, 0, [], true⟩,
  ⟨0x0B0, 1, 4, 0, 0, 0, 0, 0, [], true⟩,
  ⟨0x0B4, 1, 4, 0, 0, 0, 0, 0, [], true⟩,
  ⟨0x0B8, 1, 4, 0, 0, 0, 0, 0, [], true⟩,
  ⟨0x0BC, 1, 4, 0, 0, 0, 0, 0, [], true⟩,
  ⟨0x0C0, 1, 4, 0, 0, 0, 0, 0, [], true⟩,
  ⟨0x0C4, 1, 4, 0, 0, 0, 0, 0, [], true⟩,
  ⟨0x0C8, 1, 4, 0, 0, 0, 0, 0, [], true⟩,
  ⟨0x400, 128, 4, 0, 0xffffffff, 0, 0, 0, [], false⟩,
  ⟨0x600, 1, 4, 2, 0xffffffff, 0, 0, 0, [], false⟩,
  ⟨0x604, 127, 4, 0, 0xffffffff, 0, 0, 0, [], false⟩]
/-- Register rows of the prt page. -/
def prtRegs : List RegDef := prtRegs0 ++ prtRegs1
/-- Register rows of the str page as the spec's table gives them. -/
def strRegs : List RegDef := [
  ⟨0x040, 1, 4, 0, 0xfff, 0, 0, 0, [], false⟩,
  ⟨0x044, 1, 4, 0, 0, 0, 0, 0, [], false⟩,
  ⟨0x048, 1, 4, 0, 0, 0, 0, 0, [], false⟩,
  ⟨0x080, 16, 4, 0, 0xffffffff, 0, 0, 0, [], false⟩,
  ⟨0x0C0, 1, 4, 0, 0, 0, 0, 0, [], true⟩,
  ⟨0x0C4, 1, 4, 0, 0, 0, 0, 0, [], true⟩,
  ⟨0x0C8, 1, 4, 0, 0, 0, 0, 0, [], true⟩,
  ⟨0x0CC, 1, 4, 0, 0, 0, 0, 0, [], true⟩,
  ⟨0x0D0, 1, 4, 0, 0, 0, 0, 0, [], false⟩,
  ⟨0x100, 1, 4, 0, 0x1fff, 0, 0, 0, [], false⟩,
  ⟨0x104, 1, 4, 0, 0, 0, 0, 0, [], false⟩,
  ⟨0x108, 1, 4, 0, 0x7ffff, 0, 0, 0, [], false⟩,
  ⟨0x140, 16, 4, 0, 0xffffffff, 0, 0, 0, [], false⟩,
  ⟨0x180, 16, 4, 0, 0, 0, 0, 0, [], false⟩]
/-- Register rows of the fab page as the spec's table gives them. -/
def fabRegs : List RegDef := [
  ⟨0x040, 1, 4, 0x1003, 0xff03, 0, 0, 0, [(8, 8, 1, 255)], false⟩,
  ⟨0x044, 1, 4, 0x41ff, 0, 0, 0, 0, [], false⟩,
  ⟨0x048, 1, 4, 0, 0, 0, 0, 0, [], false⟩,
  ⟨0x04C, 1, 4, 0, 0, 0, 0, 0, [], false⟩,
  ⟨0x050, 1, 4, 0xfffd8, 0, 0, 0, 0, [], false⟩,
  ⟨0x054, 1, 4, 0, 0, 0, 0, 0, [], false⟩,
  ⟨0x058, 1, 4, 0, 0, 0, 0, 0, [], false⟩,
  ⟨0x05C, 1, 4, 0, 0x7f, 0, 0, 0, [(0, 7, 0, 71)], false⟩,
  ⟨0x060, 1, 4, 0, 0, 0, 0, 0, [], false⟩,
  ⟨0x064, 1, 4, 0, 0, 0, 0, 0, [], false⟩,
  ⟨0x400, 16, 0x20, 0x1fffff, 0x1fffff, 0, 0, 0, [], false⟩,
  ⟨0x404, 16, 0x20, 0x1fffff, 0xff1fffff, 0, 0, 0, [], false⟩,
  ⟨0x408, 16, 0x20, 0x1fffff, 0x1fffff, 0, 0, 0, [], false⟩,
  ⟨0x40C, 16, 0x20, 0x1fffff, 0xff1fffff, 0, 0, 0, [], false⟩,
  ⟨0x410, 16, 0x20, 0x1fffff, 0x1fffff, 0, 0, 0, [], false⟩,
  ⟨0x414, 16, 0x20, 0x1fffff, 0xff1fffff, 0, 0, 0, [], false⟩,
  ⟨0x418, 16, 0x20, 0, 0xf, 0, 0, 0, [], false⟩,
  ⟨0x41C, 16, 0x20, 0, 0, 0, 0, 0, [], false⟩]
/-- Register rows of the cis page as the spec's table gives them. -/
def cisRegs : List RegDef := [
  ⟨0x040, 1, 4, 1, 1, 0, 0, 0, [], false⟩,
  ⟨0x044, 1, 4, 0x38e3, 0, 0, 0x1fffff, 0, [], false⟩,
  ⟨0x048, 1, 4, 0x100, 0, 0, 0, 0, [], false⟩,
  ⟨0x04C, 1, 4, 0, 0, 0, 0, 0, [], false⟩,
  ⟨0x050, 1, 4, 0, 0, 0, 0, 0, [], false⟩,
  ⟨0x054, 1, 4, 0, 0, 0, 0, 0, [], false⟩,
  ⟨0x058, 1, 4, 0xe6, 0xff, 0, 0, 0, [], false⟩,
  ⟨0x060, 1, 4, 0, 0x3f, 0, 0, 0, [], true⟩,
  ⟨0x064, 1, 4, 0, 0, 0, 0, 0, [], false⟩,
  ⟨0x068, 1, 4, 0, 0, 0, 0, 0, [], false⟩,
  ⟨0x06C, 1, 4, 0, 0, 0, 0, 0, [], true⟩,
  ⟨0x070, 1, 4, 0, 0, 0, 0, 0, [], true⟩,
  ⟨0x074, 1, 4, 0, 0, 0, 0, 0, [], true⟩,
  ⟨0x078, 1, 4, 0, 0, 0, 0, 0, [], true⟩,
  ⟨0x07C, 1, 4, 0, 0, 0, 0, 0, [], true⟩,
  ⟨0x080, 1, 4, 0, 0, 0, 0, 0, [], true⟩,
  ⟨0x084, 1, 4, 0, 0, 0, 0, 0, [], true⟩,
  ⟨0x088, 1, 4, 0, 0, 0, 0, 0, [], true⟩,
  ⟨0x08C, 1, 4, 0, 0, 0, 0, 0, [], true⟩,
  ⟨0x100, 1, 4, 0x2000, 0, 0, 0x1fffff, 0, [], false⟩,
  ⟨0x104, 7, 4, 0, 0, 0, 0x1fffff, 0, [], false⟩,
  ⟨0x120, 8, 4, 0, 0, 0, 0xfffffff, 0, [], false⟩,
  ⟨0x200, 7, 4, 0x400, 0, 0, 0x1fffff, 0, [], false⟩,
  ⟨0x21C, 1, 4, 0x100, 0, 0, 0x1fffff, 0, [], false⟩,
  ⟨0x220, 56, 4, 0, 0, 0, 0x1fffff, 0, [], false⟩]
/-- Register rows of the egq page as the spec's table gives them. -/
def egqRegs : List RegDef := [
  ⟨0x040, 1, 4, 0, 0xff, 0, 0, 0, [], false⟩,
  ⟨0x044, 1, 4, 1, 0xff, 0, 0, 0, [(0, 8, 1, 255)], false⟩,
  ⟨0x048, 1, 4, 0, 0, 0, 0, 0, [], false⟩,
  ⟨0x04C, 1, 4, 0, 0, 0, 0, 0, [], false⟩,
  ⟨0x050, 1, 4, 0, 0, 0, 0, 0, [], true⟩,
  ⟨0x054, 1, 4, 0, 0, 0, 0, 0, [], true⟩,
  ⟨0x060, 1, 4, 0, 0x3ff, 0, 0, 0, [], false⟩,
  ⟨0x064, 1, 4, 0, 0x7f, 0, 0, 0, [], false⟩,
  ⟨0x068, 1, 4, 0x1010101, 0xffffffff, 0, 0, 0, [(0, 8, 1, 255), (8, 8, 1, 255), (16, 8, 1, 255), (24, 8, 1, 255)], false⟩,
  ⟨0x06C, 1, 4, 0x10101, 0xffffff, 0, 0, 0, [(0, 8, 1, 255), (8, 8, 1, 255), (16, 8, 1, 255)], false⟩,
  ⟨0x070, 1, 4, 0, 0xffffff, 0, 0, 0, [], false⟩,
  ⟨0x074, 1, 4, 0x4800, 0xffffff, 0, 0, 0, [(0, 24, 64, 16777215)], false⟩,
  ⟨0x078, 1, 4, 0, 0, 0, 0, 0, [], false⟩,
  ⟨0x07C, 1, 4, 0x3e8, 0x1ffff, 0, 0, 0, [(0, 17, 10, 100000)], false⟩,
  ⟨0x080, 1, 4, 0, 0, 0, 0, 0, [], false⟩]
/-- Register rows of the pmp page as the spec's table gives them. -/
def pmpRegs : List RegDef := [
  ⟨0x040, 1, 4, 0x4000, 0xff03, 0, 0, 0, [(8, 8, 1, 128)], false⟩,
  ⟨0x044, 1, 4, 0, 0xffffff, 0, 0, 0, [], false⟩,
  ⟨0x048, 1, 4, 0, 0xffffff, 0, 0, 0, [], false⟩,
  ⟨0x04C, 1, 4, 0, 0, 0, 0, 0, [], false⟩,
  ⟨0x050, 1, 4, 0, 0, 0, 0, 0, [], true⟩,
  ⟨0x054, 1, 4, 0, 0, 0, 0, 0, [], true⟩,
  ⟨0x058, 1, 4, 0, 0, 0, 0, 0, [], false⟩,
  ⟨0x05C, 1, 4, 0, 0, 0, 0, 0, [], true⟩,
  ⟨0x060, 1, 4, 0, 0, 0, 0, 0, [], true⟩,
  ⟨0x064, 1, 4, 0, 0, 0, 0, 0, [], false⟩,
  ⟨0x068, 1, 4, 0, 0, 0, 0, 0, [], true⟩,
  ⟨0x06C, 1, 4, 0, 0, 0, 0, 0, [], false⟩,
  ⟨0x070, 1, 4, 0, 0, 0, 0, 0, [], false⟩,
  ⟨0x074, 1, 4, 0, 0, 0, 0, 0, [], false⟩]
/-- Register rows of the cmp page as the spec's table gives them. -/
def cmpRegs : List RegDef := [
  ⟨0x040, 1, 4, 1, 1, 0, 0, 0, [], false⟩,
  ⟨0x044, 1, 4, 0, 0, 0, 0, 0, [], false⟩,
  ⟨0x048, 1, 4, 0, 0, 0, 0, 0, [], false⟩,
  ⟨0x04C, 1, 4, 0, 0, 0, 0, 0, [], false⟩,
  ⟨0x050, 1, 4, 0, 0, 0, 0, 0, [], true⟩,
  ⟨0x054, 1, 4, 0, 0, 0, 0, 0, [], true⟩,
  ⟨0x058, 1, 4, 0, 0, 0, 0, 0, [], true⟩,
  ⟨0x05C, 1, 4, 0x2e00, 0, 0, 0, 0, [], false⟩]
/-- Register rows of the cnv page as the spec's table gives them. -/
def cnvRegs : List RegDef := [
  ⟨0x040, 1, 4, 0x104, 0x3fff, 0, 0, 0, [(8, 6, 1, 63)], false⟩,
  ⟨0x044, 1, 4, 0x8700f00, 0x1fff1fff, 0, 0, 0, [(0, 13, 64, 4096), (16, 13, 64, 2160)], false⟩,
  ⟨0x048, 1, 4, 0x5608ca, 0x1fff1fff, 0, 0, 0, [], false⟩,
  ⟨0x04C, 1, 4, 0x101, 0xff1f1f, 0, 0, 0, [(0, 5, 1, 16), (8, 5, 1, 16)], false⟩,
  ⟨0x050, 1, 4, 0, 0x3ffffff, 0, 0, 0, [], false⟩,
  ⟨0x054, 1, 4, 0x4080200, 0x3fffffff, 0, 0, 0, [], false⟩,
  ⟨0x058, 1, 4, 0x40818, 0, 0, 0xffffff, 0, [(0, 8, 2, 255)], false⟩,
  ⟨0x05C, 1, 4, 0x3ac80200, 0, 0, 0x3fffffff, 0, [], false⟩,
  ⟨0x060, 1, 4, 0x20040300, 0x3fffffff, 0, 0, 0, [], false⟩,
  ⟨0x064, 1, 4, 0, 0xfffff, 0, 0, 0, [(0, 20, 0, 1000000)], false⟩,
  ⟨0x068, 1, 4, 0, 0, 0, 0, 0, [], false⟩,
  ⟨0x06C, 1, 4, 0, 0, 0, 0, 0, [], false⟩,
  ⟨0x070, 3, 4, 0, 0, 0, 0, 0, [], false⟩,
  ⟨0x07C, 1, 4, 0, 0, 0, 0, 0, [], false⟩,
  ⟨0x080, 1, 4, 0, 0xffffffff, 0, 0, 0, [], false⟩,
  ⟨0x084, 1, 4, 0, 0xffff, 0, 0, 0, [], false⟩,
  ⟨0x088, 4, 4, 0, 0xffffffff, 0, 0, 0, [], false⟩,
  ⟨0x098, 1, 4, 0, 0xff, 0, 0, 0, [], false⟩,
  ⟨0x09C, 1, 4, 0, 0xfff, 0, 0, 0, [], false⟩,
  ⟨0x0A0, 1, 4, 0, 0, 0, 0, 0, [], true⟩,
  ⟨0x0A4, 1, 4, 0, 0, 0, 0, 0, [], true⟩,
  ⟨0x100, 10, 4, 0, 0, 0, 0xffffffff, 0, [], false⟩,
  ⟨0x140, 3, 4, 0, 0, 0, 0xffffffff, 0, [], false⟩]
/-- Register rows of the val page as the spec's table gives them. -/
def valRegs0 : List RegDef := [
  ⟨0x060, 1, 4, 0, 0x3ff, 0, 0, 0, [], false⟩,
  ⟨0x064, 1, 4, 0, 0xa003ffff, 0, 0, 0, [], false⟩,
  ⟨0x068, 1, 4, 0, 0x1ffff, 0, 0, 0, [], false⟩,
  ⟨0x06C, 1, 4, 0, 0xffff, 0, 0, 0, [], false⟩,
  ⟨0x070, 1, 4, 0, 0, 0, 0, 0, [], false⟩,
  ⟨0x074, 1, 4, 0, 0, 0, 0, 0, [], false⟩,
  ⟨0x078, 1, 4, 0, 0, 0, 0, 0, [], true⟩,
  ⟨0x07C, 1, 4, 0, 0, 0, 0, 0, [], true⟩,
  ⟨0x080, 1, 4, 0, 0, 0, 0, 0, [], true⟩,
  ⟨0x084, 1, 4, 0, 0, 0, 0, 0, [], true⟩,
  ⟨0x088, 3, 4, 0, 0, 0, 0, 0, [], false⟩,
  ⟨0x0C0, 1, 4, 0, 0x3ffff, 0, 0, 0, [], false⟩,
  ⟨0x0C4, 1, 4, 0, 0, 0, 0, 0, [], false⟩,
  ⟨0x0C8, 1, 4, 0, 0, 0, 0, 0, [], false⟩,
  ⟨0x0D0, 8, 4, 0, 0xffffffff, 0, 0, 0, [], false⟩,
  ⟨0x100, 1, 4, 0, 0xf03ff, 0, 0, 0, [], false⟩,
  ⟨0x104, 1, 4, 0, 0xffff0001, 0, 0, 0, [], false⟩,
  ⟨0x108, 6, 4, 0xffffffff, 0xffffffff, 0, 0, 0, [], false⟩,
  ⟨0x120, 1, 4, 0xffffffff, 0xffff, 0, 0, 0, [], false⟩,
  ⟨0x124, 1, 4, 0, 0xffffffff, 0, 0, 0, [], false⟩,
  ⟨0x128, 1, 4, 0, 0xffff, 0, 0, 0, [], false⟩,
  ⟨0x12C, 1, 4, 0x4080200, 0x3fffffff, 0, 0, 0, [], false⟩,
  ⟨0x140, 1, 4, 0, 0, 0, 0, 0, [], true⟩,
  ⟨0x144, 1, 4, 0, 0, 0, 0, 0, [], true⟩,
  ⟨0x148, 1, 4, 0, 0, 0, 0, 0, [], true⟩]
/-- Register rows of the val page as the spec's table gives them. -/
def valRegs1 : List RegDef := [
  ⟨0x14C, 1, 4, 0, 0, 0, 0, 0, [], true⟩,
  ⟨0x150, 1, 4, 0, 0, 0, 0, 0, [], true⟩,
  ⟨0x154, 1, 4, 0, 0, 0, 0, 0, [], false⟩]
/-- Register rows of the val page. -/
def valRegs : List RegDef := valRegs0 ++ valRegs1
/-- Register rows of the lit page as the spec's table gives them. -/
def litRegs : List RegDef := [
  ⟨0x040, 1, 4, 0xa, 0xf, 0, 0, 0, [], false⟩,
  ⟨0x044, 1, 4, 0, 0, 0, 0, 0, [], false⟩,
  ⟨0x048, 1, 4, 0, 0x1fff, 0, 0, 0, [], false⟩,
  ⟨0x04C, 1, 4, 0, 0, 0, 0, 0, [], false⟩,
  ⟨0x050, 1, 4, 0x2710, 0x3fff, 0, 0, 0, [(0, 14, 1000, 12500)], false⟩,
  ⟨0x054, 1, 4, 0, 0xffff, 0, 0, 0, [], false⟩,
  ⟨0x058, 1, 4, 0, 0, 0, 0, 0, [], false⟩,
  ⟨0x05C, 1, 4, 0, 0, 0, 0, 0, [], false⟩,
  ⟨0x060, 1, 4, 0, 0, 0, 0, 0, [], false⟩,
  ⟨0x064, 1, 4, 0, 0xffff, 0, 0, 0, [], false⟩,
  ⟨0x068, 1, 4, 0, 0, 0, 0, 0, [], false⟩,
  ⟨0x06C, 1, 4, 0, 0, 0, 0, 0, [], false⟩,
  ⟨0x070, 1, 4, 0, 0, 0, 0, 0, [], false⟩,
  ⟨0x074, 1, 4, 0x55, 0xffffff, 0, 0, 0, [], false⟩,
  ⟨0x080, 8, 4, 0, 0x7fffffff, 0, 0, 0, [], false⟩,
  ⟨0x0A0, 8, 4, 0, 0, 0, 0, 0, [], false⟩,
  ⟨0x0C0, 1, 4, 0, 0, 0, 0, 0, [], true⟩,
  ⟨0x0C4, 1, 4, 0, 0, 0, 0, 0, [], true⟩]
/-- Register rows of the mtx page as the spec's table gives them. -/
def mtxRegs : List RegDef := [
  ⟨0x040, 1, 4, 0xa0503c, 0xffffff, 0, 0, 0, [(0, 10, 10, 640), (10, 10, 5, 1000), (20, 4, 1, 15)], false⟩,
  ⟨0x044, 1, 4, 0, 0x1ff, 0, 0, 0, [], false⟩,
  ⟨0x048, 1, 4, 0, 0, 0, 0, 0, [], false⟩,
  ⟨0x04C, 1, 4, 0, 0, 0xffffffff, 0, 0, [], false⟩,
  ⟨0x050, 1, 4, 0, 0, 0xffffffff, 0, 0, [], false⟩,
  ⟨0x054, 1, 4, 0, 0, 0xffff, 0, 0, [], false⟩,
  ⟨0x058, 1, 4, 0, 0, 0, 0, 0, [], true⟩]
/-- Register rows of the stg page as the spec's table gives them. -/
def stgRegs : List RegDef := [
  ⟨0x040, 1, 4, 0, 7, 0, 0, 0, [], false⟩,
  ⟨0x044, 1, 4, 0x1f4, 0xfff, 0, 0, 0, [(0, 12, 200, 2000)], false⟩,
  ⟨0x048, 1, 4, 0x3e8, 0x7fff, 0, 0, 0, [(0, 15, 100, 25000)], false⟩,
  ⟨0x04C, 1, 4, 0, 0xfff, 0, 0, 0, [], false⟩,
  ⟨0x050, 1, 4, 0x800, 0xffff, 0, 0, 0, [], false⟩,
  ⟨0x054, 1, 4, 0xc0, 0xff, 0, 0, 0, [(0, 8, 4, 240)], false⟩,
  ⟨0x058, 1, 4, 0x10000055, 0x1fffffff, 0, 0, 0, [], false⟩,
  ⟨0x05C, 1, 4, 0, 0, 0, 0, 0, [], false⟩,
  ⟨0x060, 1, 4, 0, 0, 0, 0, 0, [], false⟩,
  ⟨0x064, 1, 4, 0, 0, 0, 0, 0, [], false⟩,
  ⟨0x068, 1, 4, 0, 0, 0, 0, 0, [], false⟩,
  ⟨0x06C, 1, 4, 0, 0, 0, 0, 0, [], true⟩,
  ⟨0x070, 1, 4, 0, 0, 0, 0, 0, [], true⟩]
/-- Register rows of the pat page as the spec's table gives them. -/
def patRegs : List RegDef := [
  ⟨0x040, 1, 4, 0, 0xffff, 0, 0, 0, [], false⟩,
  ⟨0x044, 1, 4, 0, 0, 0, 0, 0, [], false⟩,
  ⟨0x048, 1, 4, 0, 0xffffffff, 0, 0, 0, [], false⟩,
  ⟨0x04C, 1, 4, 0, 0xffff, 0, 0, 0, [], false⟩,
  ⟨0x050, 1, 4, 0, 0x3fffffff, 0, 0, 0, [], false⟩,
  ⟨0x054, 1, 4, 0, 0xf3, 0, 0, 0, [], false⟩,
  ⟨0x058, 1, 4, 0, 0, 0, 0, 0, [], false⟩,
  ⟨0x060, 4, 4, 0, 0, 0, 0, 0, [], false⟩]
/-- Register rows of the cal page as the spec's table gives them. -/
def calRegs : List RegDef := [
  ⟨0x040, 1, 4, 0, 0x3ffff, 0, 0, 0, [], false⟩,
  ⟨0x044, 1, 4, 0, 0, 0, 0, 0, [], false⟩,
  ⟨0x048, 1, 4, 0, 0, 0, 0, 0, [], false⟩,
  ⟨0x04C, 1, 4, 0, 0xffffff, 0, 0, 0, [], false⟩,
  ⟨0x050, 1, 4, 0, 0xfffff, 0, 0, 0, [], false⟩,
  ⟨0x060, 1, 4, 0, 0xfff, 0, 0, 0, [], false⟩,
  ⟨0x064, 1, 4, 0, 0, 0, 0, 0, [], false⟩,
  ⟨0x070, 1, 4, 0, 0xf, 0, 0, 0, [], false⟩,
  ⟨0x074, 1, 4, 0xf8b03e8, 0xffffffff, 0, 0, 0, [], false⟩,
  ⟨0x078, 1, 4, 0, 0, 0, 0, 0, [], false⟩]
/-- Register rows of the lds page as the spec's table gives them. -/
def ldsRegs : List RegDef := [
  ⟨0x040, 1, 4, 0, 1, 0, 0, 0, [], false⟩,
  ⟨0x044, 1, 4, 0x14010a30, 0x3f3fffff, 0, 0, 0, [(4, 4, 1, 15), (8, 8, 1, 255), (24, 6, 10, 40)], false⟩,
  ⟨0x048, 1, 4, 0, 0, 0, 0, 0, [], false⟩,
  ⟨0x04C, 1, 4, 0, 0, 0, 0, 0, [], true⟩,
  ⟨0x050, 1, 4, 0, 0, 0, 0, 0, [], false⟩,
  ⟨0x054, 1, 4, 0, 0, 0, 0, 0x7f, [], false⟩,
  ⟨0x058, 1, 4, 0x32, 0xfff, 0, 0, 0, [(0, 12, 1, 4095)], false⟩,
  ⟨0x05C, 1, 4, 0, 0, 0, 0, 0, [], false⟩,
  ⟨0x060, 1, 4, 0, 0, 0, 0, 0, [], true⟩,
  ⟨0x064, 1, 4, 0, 0, 0, 0, 0, [], true⟩,
  ⟨0x068, 1, 4, 0, 0, 0, 0, 0, [], true⟩,
  ⟨0x100, 1, 4, 0, 0, 0, 0, 0, [], false⟩,
  ⟨0x104, 1, 4, 0, 0, 0, 0, 0, [], false⟩,
  ⟨0x108, 1, 4, 0, 0, 0, 0, 0, [], false⟩,
  ⟨0x10C, 1, 4, 0, 0, 0, 0, 0, [], false⟩,
  ⟨0x110, 1, 4, 0, 0, 0, 0, 0, [], false⟩,
  ⟨0x114, 1, 4, 0xe10, 0xfff, 0, 0, 0, [(0, 12, 100, 3600)], false⟩,
  ⟨0x118, 1, 4, 0x14, 0xff, 0, 0, 0, [(0, 8, 1, 255)], false⟩,
  ⟨0x11C, 1, 4, 0, 7, 0, 0, 0, [(0, 3, 0, 5)], false⟩,
  ⟨0x120, 1, 4, 0, 0xffff, 0, 0, 0, [(0, 16, 2500, 25000)], false⟩,
  ⟨0x124, 1, 4, 0, 0xffffffff, 0, 0, 0, [], false⟩,
  ⟨0x128, 1, 4, 0, 0xff0fff, 0, 0, 0, [(0, 12, 100, 2500)], false⟩]
/-- Register rows of the swi page as the spec's table gives them. -/
def swiRegs : List RegDef := [
  ⟨0x040, 1, 4, 0, 0x3f, 0, 0, 0, [], false⟩,
  ⟨0x044, 1, 4, 0x10, 0x1fff, 0, 0, 0, [(4, 8, 1, 255)], false⟩,
  ⟨0x048, 1, 4, 0x14000a, 0xff007f, 0, 0, 0, [(0, 7, 1, 100), (16, 8, 1, 255)], false⟩,
  ⟨0x04C, 1, 4, 0, 0, 0, 0, 0, [], false⟩,
  ⟨0x050, 1, 4, 0, 0, 0, 0, 0, [], false⟩,
  ⟨0x054, 1, 4, 0, 0, 0xffffffff, 0, 0, [], false⟩,
  ⟨0x058, 1, 4, 0, 0, 0xffffffff, 0, 0, [], false⟩,
  ⟨0x05C, 1, 4, 0, 0, 0xffffffff, 0, 0, [], false⟩,
  ⟨0x060, 1, 4, 0, 0, 0xffffffff, 0, 0, [], false⟩,
  ⟨0x064, 1, 4, 0, 0xffffffff, 0, 0, 0, [], false⟩,
  ⟨0x068, 1, 4, 0, 0xffffffff, 0, 0, 0, [], false⟩,
  ⟨0x06C, 1, 4, 0, 0xffffffff, 0, 0, 0, [], false⟩,
  ⟨0x070, 1, 4, 0, 0xffffffff, 0, 0, 0, [], false⟩,
  ⟨0x074, 1, 4, 0, 0xffffffff, 0, 0, 0, [], false⟩,
  ⟨0x078, 1, 4, 0, 0xffffffff, 0, 0, 0, [], false⟩,
  ⟨0x07C, 1, 4, 0, 0, 0, 0, 0, [], false⟩,
  ⟨0x080, 1, 4, 0, 0, 0, 0, 0, [], false⟩,
  ⟨0x084, 1, 4, 0, 0, 0, 0, 0, [], false⟩,
  ⟨0x088, 3, 4, 0, 0, 0, 0, 0, [], false⟩,
  ⟨0x094, 1, 4, 0, 0, 0, 0, 0, [], true⟩]
/-- Register rows of the enc page as the spec's table gives them. -/
def encRegs : List RegDef := [
  ⟨0x040, 1, 4, 8, 0x3fb, 0, 0, 0, [], false⟩,
  ⟨0x044, 1, 4, 0, 0xffffff, 0, 0, 0, [], false⟩,
  ⟨0x048, 1, 4, 0, 0xffffffff, 0, 0, 0, [], false⟩,
  ⟨0x04C, 1, 4, 0, 0, 0, 0, 0, [], false⟩,
  ⟨0x050, 1, 4, 0, 0, 0, 0, 0, [], false⟩,
  ⟨0x054, 1, 4, 0, 0, 6, 0, 0, [], false⟩,
  ⟨0x058, 1, 4, 0, 0, 0, 0, 0, [], true⟩,
  ⟨0x05C, 1, 4, 0, 0, 0, 0, 0, [], true⟩,
  ⟨0x060, 1, 4, 0, 0, 0, 0, 0, [], true⟩]
/-- Register rows of the coi page as the spec's table gives them. -/
def coiRegs : List RegDef := [
  ⟨0x040, 1, 4, 1, 1, 0, 0, 0, [], false⟩,
  ⟨0x044, 1, 4, 0, 0, 0, 0, 0, [], false⟩,
  ⟨0x048, 1, 4, 0, 0, 0, 0, 0, [], false⟩,
  ⟨0x04C, 1, 4, 0, 0, 0, 0, 0, [], false⟩,
  ⟨0x050, 1, 4, 0x64, 0xffff, 0, 0, 0, [(0, 16, 1, 65535)], false⟩,
  ⟨0x054, 1, 4, 0x640a, 0xffffff, 0, 0, 0, [(0, 8, 1, 255)], false⟩,
  ⟨0x058, 1, 4, 0, 0, 0, 0, 0, [], false⟩,
  ⟨0x05C, 1, 4, 0, 0, 0, 0, 0, [], false⟩,
  ⟨0x060, 1, 4, 0, 0, 0, 0, 0, [], false⟩,
  ⟨0x064, 1, 4, 0, 0, 0, 0, 0, [], false⟩,
  ⟨0x068, 1, 4, 0, 0, 0, 0, 0, [], false⟩,
  ⟨0x06C, 1, 4, 0, 0, 0, 0, 0, [], true⟩,
  ⟨0x070, 1, 4, 0, 0, 0, 0, 0, [], true⟩,
  ⟨0x100, 1, 4, 0x960, 0xfff, 0, 0, 0, [(0, 12, 1200, 3250)], false⟩,
  ⟨0x104, 1, 4, 0, 0, 0, 0, 0, [], false⟩,
  ⟨0x108, 1, 4, 0, 0, 0, 0, 0, [], false⟩,
  ⟨0x400, 64, 4, 0, 0xffff, 0, 0, 0, [], false⟩]
/-- Register rows of the can page as the spec's table gives them. -/
def canRegs0 : List RegDef := [
  ⟨0x040, 1, 4, 0x100, 0x17f, 0, 0, 0, [], false⟩,
  ⟨0x044, 1, 4, 3, 0, 0, 0, 0, [], false⟩,
  ⟨0x048, 1, 4, 0xf1e7c1, 0x7ffffff, 0, 0, 0, [], false⟩,
  ⟨0x04C, 1, 4, 0x26780, 0x3ffff, 0, 0, 0, [], false⟩,
  ⟨0x050, 1, 4, 0x1e01, 0x7f01, 0, 0, 0, [], false⟩,
  ⟨0x054, 1, 4, 0, 0, 0, 0, 0, [], false⟩,
  ⟨0x058, 1, 4, 0, 0, 0, 0, 0, [], false⟩,
  ⟨0x05C, 1, 4, 0, 0, 0, 0, 0, [], false⟩,
  ⟨0x060, 1, 4, 0, 0, 0, 0, 0, [], false⟩,
  ⟨0x064, 1, 4, 0, 0, 0, 0, 0, [], true⟩,
  ⟨0x068, 3, 4, 0, 0, 0, 0, 0, [], true⟩,
  ⟨0x074, 1, 4, 0x64, 0xffff, 0, 0, 0, [(0, 16, 1, 65535)], false⟩,
  ⟨0x078, 1, 4, 0x64, 0xffff, 0, 0, 0, [], false⟩,
  ⟨0x07C, 1, 4, 0, 0, 0x3f, 0, 0, [], false⟩,
  ⟨0x080, 1, 4, 0, 0, 0, 0, 0, [], false⟩,
  ⟨0x084, 1, 4, 0, 0, 0xff, 0, 0, [], false⟩,
  ⟨0x088, 1, 4, 0, 0, 0, 0, 0, [], false⟩,
  ⟨0x08C, 1, 4, 0, 0, 0, 0, 0, [], true⟩,
  ⟨0x090, 1, 4, 0, 0, 0, 0, 0, [], true⟩,
  ⟨0x094, 1, 4, 0, 0, 0, 0, 0, [], true⟩,
  ⟨0x098, 1, 4, 0, 0, 0, 0, 0, [], true⟩,
  ⟨0x09C, 1, 4, 0, 0, 0, 0, 0, [], true⟩,
  ⟨0x0A0, 1, 4, 0, 0, 0, 0, 0, [], true⟩,
  ⟨0x0A4, 1, 4, 0, 0, 0, 0, 0, [], true⟩,
  ⟨0x0A8, 1, 4, 0, 0x3f, 0, 0, 0, [], false⟩]
/-- Register rows of the can page as the spec's table gives them. -/
def canRegs1 : List RegDef := [
  ⟨0x0AC, 3, 4, 0, 0xffffffff, 0, 0, 0, [], false⟩,
  ⟨0x0B8, 1, 4, 0, 0xffffffff, 0, 0, 0, [], false⟩,
  ⟨0x0BC, 1, 4, 0x3e8, 0x7ffff, 0, 0, 0, [(0, 16, 64, 65535)], false⟩,
  ⟨0x0C0, 1, 4, 0x40, 0xffff, 0, 0, 0, [], false⟩,
  ⟨0x0C4, 1, 4, 0, 0x3f, 0, 0, 0, [], false⟩,
  ⟨0x0C8, 2, 4, 0, 0xffffffff, 0, 0, 0, [], false⟩,
  ⟨0x0D0, 1, 4, 0, 0, 0, 0, 0, [], true⟩,
  ⟨0x0D4, 1, 4, 0, 0, 0, 0, 0, [], true⟩,
  ⟨0x0D8, 1, 4, 0, 0, 0, 0, 0, [], true⟩,
  ⟨0x800, 1, 4, 0, 0, 0, 0, 0, [], false⟩,
  ⟨0x200, 18, 4, 0, 0xffffffff, 0, 0, 0, [], false⟩,
  ⟨0x280, 18, 4, 0, 0xffffffff, 0, 0, 0, [], false⟩,
  ⟨0x300, 18, 4, 0, 0xffffffff, 0, 0, 0, [], false⟩,
  ⟨0x400, 21, 4, 0, 0, 0, 0, 0, [], false⟩,
  ⟨0x480, 21, 4, 0, 0, 0, 0, 0, [], false⟩,
  ⟨0x500, 21, 4, 0, 0, 0, 0, 0, [], false⟩,
  ⟨0x580, 21, 4, 0, 0, 0, 0, 0, [], false⟩,
  ⟨0x600, 21, 4, 0, 0, 0, 0, 0, [], false⟩,
  ⟨0x680, 21, 4, 0, 0, 0, 0, 0, [], false⟩,
  ⟨0x700, 21, 4, 0, 0, 0, 0, 0, [], false⟩,
  ⟨0x780, 21, 4, 0, 0, 0, 0, 0, [], false⟩]
/-- Register rows of the can page. -/
def canRegs : List RegDef := canRegs0 ++ canRegs1
/-- Register rows of the wak page as the spec's table gives them. -/
def wakRegs : List RegDef := [
  ⟨0x040, 1, 4, 1, 3, 0, 0, 0, [], false⟩,
  ⟨0x044, 1, 4, 0, 0, 0x384, 0, 0, [], false⟩,
  ⟨0x048, 1, 4, 1, 0xffff, 0, 0, 0, [], false⟩,
  ⟨0x04C, 1, 4, 0x3e8, 0xffff, 0, 0, 0, [(0, 16, 10, 60000)], false⟩,
  ⟨0x050, 1, 4, 0, 0x3fffffff, 0, 0, 0, [], false⟩,
  ⟨0x054, 1, 4, 0x1fffffff, 0x1fffffff, 0, 0, 0, [], false⟩,
  ⟨0x058, 1, 4, 0, 0xf, 0, 0, 0, [(0, 4, 0, 8)], false⟩,
  ⟨0x05C, 1, 4, 0, 0xffffffff, 0, 0, 0, [], false⟩,
  ⟨0x060, 1, 4, 0, 0xffffffff, 0, 0, 0, [], false⟩,
  ⟨0x064, 1, 4, 0, 0, 0, 0, 0, [], false⟩,
  ⟨0x068, 1, 4, 0, 0, 0, 0, 0, [], true⟩,
  ⟨0x06C, 1, 4, 0, 0, 0, 0, 0, [], true⟩,
  ⟨0x100, 1, 4, 0, 0xff, 0xff00, 0, 0, [], false⟩]
/-- Register rows of the zwk page as the spec's table gives them. -/
def zwkRegs : List RegDef := [
  ⟨0x040, 1, 4, 0, 1, 0, 0, 0, [], false⟩,
  ⟨0x044, 1, 4, 0, 0, 0, 0, 0, [], false⟩,
  ⟨0x048, 1, 4, 0, 0, 0, 0, 0, [], false⟩,
  ⟨0x04C, 1, 4, 0, 0x3fff, 0, 0, 0, [], false⟩,
  ⟨0x050, 1, 4, 0, 0, 0, 0, 0x3ff, [], false⟩,
  ⟨0x054, 1, 4, 0, 0, 0, 0, 0, [], false⟩,
  ⟨0x058, 1, 4, 0, 0, 0, 0, 0, [], false⟩,
  ⟨0x05C, 1, 4, 0, 0x80ffffff, 0, 0, 0, [], false⟩,
  ⟨0x060, 1, 4, 0, 0xf, 0, 0, 0, [], false⟩,
  ⟨0x064, 1, 4, 0, 0x83ff01ff, 0, 0, 0, [], false⟩,
  ⟨0x068, 1, 4, 0, 0, 0, 0, 0, [], true⟩,
  ⟨0x06C, 1, 4, 0, 0, 0, 0, 0, [], false⟩,
  ⟨0x070, 1, 4, 0, 0x3fff, 0, 0, 0, [], false⟩,
  ⟨0x074, 1, 4, 0, 0, 0, 0, 0, [], false⟩,
  ⟨0x078, 1, 4, 0, 0x7fff, 0, 0, 0, [], false⟩,
  ⟨0x07C, 1, 4, 0, 0, 0, 0, 0, [], false⟩,
  ⟨0x080, 1, 4, 0, 0, 0, 0, 0, [], true⟩]
/-- Register rows of the keeper page as the spec's table gives them. -/
def keeperRegs : List RegDef := [
  ⟨0x040, 1, 4, 0, 0, 0x10, 0, 0, [], false⟩,
  ⟨0x044, 1, 4, 0, 0, 0, 0, 0, [], false⟩,
  ⟨0x048, 1, 4, 0, 0, 0, 0, 0, [], false⟩,
  ⟨0x04C, 1, 4, 0, 0x80ffffff, 0, 0, 0, [], false⟩,
  ⟨0x050, 1, 4, 0, 0x1fffc, 0, 0, 0, [], false⟩,
  ⟨0x054, 1, 4, 0, 0, 0, 0, 0, [], false⟩,
  ⟨0x058, 1, 4, 0, 0xffffffff, 0, 0, 0, [], false⟩,
  ⟨0x05C, 1, 4, 0, 0, 0, 0, 0, [], true⟩]
/-- Register rows of the dky page as the spec's table gives them. -/
def dkyRegs : List RegDef := [
  ⟨0x040, 1, 4, 0, 0, 0, 0, 0, [], false⟩,
  ⟨0x044, 1, 4, 0, 0, 0, 0, 0, [], false⟩,
  ⟨0x048, 1, 4, 0, 0, 0, 0, 0, [], false⟩,
  ⟨0x04C, 1, 4, 0, 0, 0, 0, 0, [], false⟩,
  ⟨0x050, 1, 4, 0, 0, 0, 0, 0, [], false⟩,
  ⟨0x054, 1, 4, 0, 0x3ff013f, 0, 0, 0, [], false⟩,
  ⟨0x058, 1, 4, 0, 0x1ff, 0, 0, 0, [], false⟩,
  ⟨0x05C, 1, 4, 0, 0xffffffff, 0, 0, 0, [], false⟩,
  ⟨0x060, 1, 4, 0, 0xffffffff, 0, 0, 0, [], false⟩,
  ⟨0x064, 1, 4, 0, 0xffffffff, 0, 0, 0, [], false⟩,
  ⟨0x080, 12, 4, 0, 0, 0, 0, 0, [], false⟩,
  ⟨0x0B0, 8, 4, 0, 0, 0, 0, 0, [], false⟩,
  ⟨0x0D0, 1, 4, 0, 0x3f, 0, 0, 0, [], false⟩,
  ⟨0x0D4, 1, 4, 0, 0, 0, 0, 0, [], false⟩,
  ⟨0x0D8, 1, 4, 0, 0, 0, 0, 0, [], false⟩,
  ⟨0x100, 12, 4, 0, 0xffffffff, 0, 0, 0, [], false⟩,
  ⟨0x130, 12, 4, 0, 0xffffffff, 0, 0, 0, [], false⟩,
  ⟨0x180, 1, 4, 0, 0x3f, 0, 0, 0, [], false⟩,
  ⟨0x184, 26, 4, 0, 0, 0, 0, 0xffffffff, [], false⟩,
  ⟨0x200, 4, 4, 0, 0, 0, 0, 0xffffffff, [], false⟩,
  ⟨0x210, 1, 4, 0, 0xff, 0, 0, 0, [], false⟩,
  ⟨0x214, 1, 4, 0, 0, 0, 0, 0x80ffffff, [], false⟩,
  ⟨0x218, 1, 4, 0, 0, 0, 0, 1, [], false⟩,
  ⟨0x21C, 2, 4, 0, 0, 0, 0, 0xffffffff, [], false⟩,
  ⟨0x224, 1, 4, 0, 0, 0, 0, 0, [], true⟩]
/-- Register rows of the idn page as the spec's table gives them. -/
def idnRegs : List RegDef := [
  ⟨0x040, 1, 4, 0, 0, 0, 0, 0, [], false⟩,
  ⟨0x044, 1, 4, 0, 0, 0, 0, 0, [], false⟩,
  ⟨0x048, 1, 4, 0, 0, 0, 0, 0, [], false⟩,
  ⟨0x04C, 1, 4, 0, 0, 0, 0, 0, [], false⟩,
  ⟨0x080, 12, 4, 0, 0, 0, 0, 0, [], false⟩,
  ⟨0x0C0, 24, 4, 0, 0, 0, 0, 0, [], false⟩,
  ⟨0x140, 8, 4, 0, 0xffffffff, 0, 0, 0, [], false⟩,
  ⟨0x160, 1, 4, 0, 0x7f, 0, 0, 0, [(0, 7, 0, 106)], false⟩,
  ⟨0x164, 1, 4, 0, 0, 0, 0, 0, [], false⟩,
  ⟨0x168, 1, 4, 0, 0, 0, 0, 0, [], false⟩,
  ⟨0x16C, 1, 4, 0, 0x3ff, 0, 0, 0, [], false⟩,
  ⟨0x170, 1, 4, 0, 0, 0, 0, 0, [], false⟩]
/-- Register rows of the tok page as the spec's table gives them. -/
def tokRegs : List RegDef := [
  ⟨0x040, 1, 4, 1, 1, 0, 0, 0, [], false⟩,
  ⟨0x044, 1, 4, 0x54a5, 0x7fffffff, 0, 0, 0, [(0, 4, 1, 15), (4, 6, 1, 60)], false⟩,
  ⟨0x048, 1, 4, 0, 0, 0, 0, 0, [], false⟩,
  ⟨0x04C, 1, 4, 0, 0, 0, 0, 0, [], false⟩,
  ⟨0x050, 1, 4, 0, 0, 0, 0, 0, [], false⟩,
  ⟨0x054, 1, 4, 0, 0, 0, 0, 0, [], false⟩,
  ⟨0x058, 1, 4, 0, 0, 0, 0, 0, [], false⟩,
  ⟨0x05C, 1, 4, 0, 0, 0, 0, 0, [], false⟩,
  ⟨0x060, 1, 4, 0, 0, 0, 0, 0, [], false⟩,
  ⟨0x064, 1, 4, 0, 0, 0, 0, 0, [], false⟩,
  ⟨0x068, 1, 4, 0, 0, 0, 0, 0xffff3fff, [], false⟩,
  ⟨0x06C, 1, 4, 0, 0, 0, 0, 0xffff, [], false⟩,
  ⟨0x070, 1, 4, 0, 0, 0, 0, 0, [], true⟩,
  ⟨0x074, 1, 4, 0, 0, 0, 0, 0, [], true⟩,
  ⟨0x078, 1, 4, 0, 0, 0, 0, 0, [], true⟩]
/-- Register rows of the pwr page as the spec's table gives them. -/
def pwrRegs : List RegDef := [
  ⟨0x040, 1, 4, 0, 7, 0, 0, 0, [], false⟩,
  ⟨0x044, 1, 4, 0, 0, 0, 0, 0, [], false⟩,
  ⟨0x048, 1, 4, 1, 0xff, 0, 0, 0, [], false⟩,
  ⟨0x04C, 1, 4, 0, 0, 0xff, 0, 0, [], false⟩,
  ⟨0x050, 1, 4, 0, 0xffffffff, 0, 0, 0, [], false⟩,
  ⟨0x054, 1, 4, 0, 0, 0, 0, 0, [], false⟩,
  ⟨0x058, 1, 4, 0, 0, 0, 0, 0, [], false⟩,
  ⟨0x05C, 1, 4, 0, 0x3ffffff, 0, 0, 0, [], false⟩,
  ⟨0x060, 1, 4, 0, 0, 0, 0, 0, [], false⟩,
  ⟨0x064, 1, 4, 0, 0, 0, 0, 0, [], true⟩,
  ⟨0x068, 1, 4, 0, 0, 0, 0, 0, [], true⟩,
  ⟨0x06C, 1, 4, 0, 0, 0, 0, 0, [], true⟩]
/-- Register rows of the pwrD page as the spec's table gives them. -/
def pwrDRegs : List RegDef := [
  ⟨0x040, 1, 4, 0, 7, 0, 0, 0, [], false⟩,
  ⟨0x044, 1, 4, 0, 0, 0, 0, 0, [], false⟩,
  ⟨0x048, 1, 4, 0, 0, 0, 0, 0, [], false⟩,
  ⟨0x04C, 1, 4, 0, 0, 0, 0, 0, [], false⟩,
  ⟨0x050, 1, 4, 0, 0, 0, 0, 0, [], true⟩]
/-- Register rows of the bud page as the spec's table gives them. -/
def budRegs : List RegDef := [
  ⟨0x040, 1, 4, 1, 1, 0, 0, 0, [], false⟩,
  ⟨0x044, 1, 4, 0, 0, 0, 0, 0, [], false⟩,
  ⟨0x048, 1, 4, 0x280, 0x3ff, 0, 0, 0, [(0, 10, 300, 640)], false⟩,
  ⟨0x04C, 1, 4, 0x55035f, 0xffffff, 0, 0, 0, [(0, 8, 60, 100), (8, 8, 1, 20), (16, 8, 60, 95)], false⟩,
  ⟨0x050, 1, 4, 0xa, 0x7f, 0, 0, 0, [(0, 7, 1, 100)], false⟩,
  ⟨0x054, 1, 4, 0x7d0, 0x3fff, 0, 0, 0, [(0, 14, 1, 10000)], false⟩,
  ⟨0x058, 1, 4, 0x1f4, 0xffff, 0, 0, 0, [(0, 16, 10, 60000)], false⟩,
  ⟨0x05C, 1, 4, 0x21, 0x3f, 0, 0, 0, [(0, 6, 0, 33)], false⟩,
  ⟨0x060, 1, 4, 0, 0, 0, 0, 0, [], false⟩,
  ⟨0x064, 1, 4, 0, 0, 0, 0, 0, [], false⟩,
  ⟨0x068, 1, 4, 0, 0x7f, 0, 0, 0, [], false⟩,
  ⟨0x06C, 1, 4, 0, 0, 0, 0, 0, [], false⟩,
  ⟨0x070, 1, 4, 0x100, 0xff03, 0, 0, 0, [(8, 8, 1, 255)], false⟩,
  ⟨0x074, 1, 4, 0, 0xf, 0, 0, 0, [], false⟩,
  ⟨0x078, 1, 4, 0, 0xffff01ff, 0, 0, 0, [], false⟩,
  ⟨0x07C, 1, 4, 0, 0, 0, 0, 0, [], false⟩,
  ⟨0x080, 1, 4, 0, 0, 0, 0, 0, [], true⟩,
  ⟨0x084, 1, 4, 0, 0, 0, 0, 0, [], true⟩]
/-- Register rows of the flt page as the spec's table gives them. -/
def fltRegs : List RegDef := [
  ⟨0x040, 1, 4, 1, 1, 0, 0, 0, [], false⟩,
  ⟨0x044, 1, 4, 0, 0, 0, 0, 0, [], false⟩,
  ⟨0x048, 1, 4, 0, 0, 0, 0, 0, [], false⟩,
  ⟨0x04C, 1, 4, 0, 0, 0, 0, 0, [], false⟩,
  ⟨0x050, 1, 4, 0, 0xffff, 0, 0, 0, [], false⟩,
  ⟨0x054, 3, 4, 0, 0, 0, 0, 0, [], false⟩,
  ⟨0x060, 1, 4, 0, 0, 0, 0, 0, [], false⟩,
  ⟨0x064, 1, 4, 1, 0xff, 0, 0, 0, [(0, 8, 1, 255)], false⟩,
  ⟨0x068, 7, 4, 0, 0, 0, 0, 0, [], false⟩,
  ⟨0x084, 1, 4, 0, 0, 0, 0, 0, [], false⟩,
  ⟨0x088, 1, 4, 0, 0, 0, 0, 0, [], true⟩,
  ⟨0x08C, 1, 4, 0, 0xffff, 0, 0, 0, [], false⟩,
  ⟨0x090, 1, 4, 0, 0, 0, 0, 0, [], false⟩,
  ⟨0x094, 1, 4, 0, 0, 0, 0, 0, [], false⟩,
  ⟨0x098, 1, 4, 0, 0, 0, 0, 0, [], false⟩,
  ⟨0x09C, 1, 4, 0, 0, 0, 0, 0, [], false⟩,
  ⟨0x0A0, 1, 4, 0, 0, 0, 0, 0, [], true⟩,
  ⟨0x0A4, 1, 4, 0, 0, 0, 0, 0, [], true⟩]
/-- Register rows of the fltSrc page as the spec's table gives them. -/
def fltSrcRegs : List RegDef := [
  ⟨0x040, 1, 4, 0, 0xf, 0, 0, 0, [], false⟩,
  ⟨0x044, 1, 4, 0, 0, 0, 0, 0xffffffff, [], false⟩,
  ⟨0x048, 1, 4, 0, 0, 0, 0, 0, [], false⟩,
  ⟨0x04C, 1, 4, 0, 0, 0, 0, 0, [], false⟩,
  ⟨0x050, 1, 4, 0, 0, 0, 0, 0, [], false⟩,
  ⟨0x054, 1, 4, 0, 0, 0, 0, 0, [], true⟩,
  ⟨0x058, 1, 4, 0, 0, 0, 0, 0, [], false⟩]
/-- Register rows of the bst page as the spec's table gives them. -/
def bstRegs : List RegDef := [
  ⟨0x040, 1, 4, 1, 1, 0, 0, 0, [], false⟩,
  ⟨0x044, 1, 4, 0, 0, 0, 0, 0, [], false⟩,
  ⟨0x048, 1, 4, 0x5a0, 0xffff, 0, 0, 0, [], false⟩,
  ⟨0x04C, 1, 4, 0, 0xf, 0, 0, 0, [], false⟩,
  ⟨0x050, 1, 4, 0, 0, 0, 0, 0, [], false⟩,
  ⟨0x054, 1, 4, 0, 0, 0, 0, 0, [], false⟩,
  ⟨0x058, 1, 4, 0, 0, 0, 0, 0, [], false⟩,
  ⟨0x05C, 1, 4, 0, 0, 0, 0, 0, [], true⟩,
  ⟨0x060, 1, 4, 0, 0, 0, 0, 0, [], true⟩]
/-- Register rows of the rng page as the spec's table gives them. -/
def rngRegs : List RegDef := [
  ⟨0x040, 1, 4, 0, 0, 0, 0, 0, [], false⟩,
  ⟨0x044, 1, 4, 0, 0, 0, 0, 0, [], false⟩,
  ⟨0x048, 1, 4, 0, 0, 0, 0, 0, [], false⟩,
  ⟨0x04C, 1, 4, 0, 0, 0, 0, 0, [], false⟩,
  ⟨0x050, 1, 4, 0, 0, 0, 0, 0, [], true⟩,
  ⟨0x054, 1, 4, 0, 0, 0, 0, 0, [], true⟩]
/-- Register rows of the upd page as the spec's table gives them. -/
def updRegs : List RegDef := [
  ⟨0x040, 1, 4, 0, 0, 0, 0, 0, [], false⟩,
  ⟨0x044, 1, 4, 0, 0, 0, 0, 0, [], false⟩,
  ⟨0x048, 8, 4, 0, 0xffffffff, 0, 0, 0, [], false⟩,
  ⟨0x068, 1, 4, 0, 0xfffc, 0, 0, 0, [], false⟩,
  ⟨0x06C, 1, 4, 0, 0, 0, 0, 0, [], false⟩,
  ⟨0x070, 1, 4, 0, 0xffffffff, 0, 0, 0, [], false⟩,
  ⟨0x074, 1, 4, 0, 0xffffffff, 0, 0, 0, [], false⟩,
  ⟨0x078, 1, 4, 0, 0, 0, 0, 0, [], false⟩,
  ⟨0x07C, 1, 4, 0, 0, 0, 0, 0, [], false⟩,
  ⟨0x080, 12, 4, 0, 0, 0, 0, 0, [], false⟩,
  ⟨0x0B0, 1, 4, 0, 0, 0, 0, 0, [], false⟩,
  ⟨0x0B4, 1, 4, 0x258, 0x1ffff, 0, 0, 0, [(0, 17, 60, 86400)], false⟩,
  ⟨0x0B8, 1, 4, 0, 0, 0, 0, 0, [], false⟩,
  ⟨0x0BC, 1, 4, 0, 0, 0, 0, 0, [], true⟩,
  ⟨0x0C0, 12, 4, 0, 0, 0, 0, 0xffffffff, [], false⟩,
  ⟨0x0F0, 1, 4, 0, 0, 0, 0, 0x1ff, [], false⟩,
  ⟨0x100, 12, 4, 0, 0, 0, 0, 0xffffffff, [], false⟩,
  ⟨0x130, 12, 4, 0, 0, 0, 0, 0xffffffff, [], false⟩]
/-- Register rows of the dev page as the spec's table gives them. -/
def devRegs : List RegDef := [
  ⟨0x040, 1, 4, 0x4b4c5120, 0, 0, 0, 0, [], false⟩,
  ⟨0x044, 1, 4, 0xb1, 0, 0, 0, 0, [], false⟩]
/-- Register rows of the hqr page as the spec's table gives them. -/
def hqrRegs : List RegDef := [
  ⟨0x100, 16, 0x40, 0x40, 0xf7, 0, 0, 0, [(4, 4, 4, 15)], false⟩,
  ⟨0x104, 16, 0x40, 0, 0xffffffe0, 0, 0, 0, [], false⟩,
  ⟨0x108, 16, 0x40, 0, 0xffffffff, 0, 0, 0, [], false⟩,
  ⟨0x10C, 16, 0x40, 0x23fc, 0x3fff, 0, 0, 0, [(0, 14, 60, 9212)], false⟩,
  ⟨0x110, 16, 0x40, 0, 0, 0, 0, 0, [], false⟩,
  ⟨0x114, 16, 0x40, 0, 0, 0, 0, 0, [], false⟩,
  ⟨0x118, 16, 0x40, 0, 0, 0x28, 0, 0, [], false⟩,
  ⟨0x11C, 16, 0x40, 0, 0, 0, 0, 0, [], true⟩,
  ⟨0x120, 16, 0x40, 0, 0, 0, 0, 0, [], true⟩,
  ⟨0x124, 16, 0x40, 0, 0, 0, 0, 0, [], true⟩,
  ⟨0x128, 16, 0x40, 0, 0, 0, 0, 0, [], true⟩,
  ⟨0x12C, 16, 0x40, 0, 0, 0, 0, 0, [], true⟩,
  ⟨0x130, 16, 0x40, 0, 0xffff, 0, 0, 0, [], false⟩,
  ⟨0x134, 16, 0x40, 0, 0xfffffc, 0, 0, 0, [], false⟩,
  ⟨0x138, 16, 0x40, 0, 0, 0, 0, 0, [], false⟩,
  ⟨0x040, 1, 4, 0, 0, 0xffff, 0, 0, [], false⟩,
  ⟨0x044, 1, 4, 0, 0, 0xffff, 0, 0, [], false⟩]
/-- Register rows of the win page as the spec's table gives them. -/
def winRegs0 : List RegDef := [
  ⟨0x100, 4, 0x80, 0, 0, 0, 0xfff, 0, [], false⟩,
  ⟨0x104, 4, 0x80, 0, 0, 0, 0x3ff, 0, [], false⟩,
  ⟨0x108, 4, 0x80, 0, 0, 0, 0xffffffff, 0, [], false⟩,
  ⟨0x10C, 4, 0x80, 0x10001, 0, 0, 0xffffffff, 0, [], false⟩,
  ⟨0x110, 4, 0x80, 0, 0, 0, 0x1fff1fff, 0, [], false⟩,
  ⟨0x114, 4, 0x80, 0x10001, 0, 0, 0x1fff1fff, 0, [], false⟩,
  ⟨0x118, 4, 0x80, 0, 0, 0, 0x3ff, 0, [], false⟩,
  ⟨0x11C, 4, 0x80, 0, 0, 0, 0xffff, 0, [], false⟩,
  ⟨0x120, 4, 0x80, 0x40, 0, 0, 0xff, 0, [], false⟩,
  ⟨0x124, 4, 0x80, 0x20080200, 0, 0, 0x3fffffff, 0, [], false⟩,
  ⟨0x128, 4, 0x80, 0, 0, 0, 0, 0, [], false⟩,
  ⟨0x12C, 4, 0x80, 0, 0, 0, 0, 0, [], false⟩,
  ⟨0x130, 4, 0x80, 0, 0, 0, 0, 0, [], false⟩,
  ⟨0x134, 4, 0x80, 0, 0, 0, 0, 0, [], false⟩,
  ⟨0x138, 4, 0x80, 0, 0, 0, 0, 0, [], true⟩,
  ⟨0x400, 4, 0x80, 0x1030, 0xff7f, 0, 0, 0, [], false⟩,
  ⟨0x404, 4, 0x80, 0x4380780, 0x1fff1fff, 0, 0, 0, [(0, 13, 16, 4096), (16, 13, 16, 2160)], false⟩,
  ⟨0x408, 4, 0x80, 0xea60, 0x3ffff, 0, 0, 0, [(0, 18, 1, 120000)], false⟩,
  ⟨0x40C, 4, 0x80, 0x200000, 0xffffff, 0, 0, 0, [], false⟩,
  ⟨0x410, 4, 0x80, 0, 0, 0, 0, 0, [], false⟩,
  ⟨0x414, 4, 0x80, 0, 0, 0, 0, 0, [], false⟩,
  ⟨0x418, 4, 0x80, 0, 0, 0, 0, 0, [], false⟩,
  ⟨0x41C, 4, 0x80, 0, 0, 0, 0, 0, [], false⟩,
  ⟨0x420, 4, 0x80, 0, 0, 0, 0, 0, [], true⟩,
  ⟨0x424, 4, 0x80, 0, 0, 0, 0, 0, [], true⟩]
/-- Register rows of the win page as the spec's table gives them. -/
def winRegs1 : List RegDef := [
  ⟨0x428, 4, 0x80, 0, 0, 0, 0, 0, [], true⟩,
  ⟨0x42C, 4, 0x80, 0, 0, 0, 0, 0, [], true⟩,
  ⟨0x430, 4, 0x80, 0, 0, 0, 0, 0, [], true⟩]
/-- Register rows of the win page. -/
def winRegs : List RegDef := winRegs0 ++ winRegs1

/-- The register rows of a page of block `b` (blocks with header registers alone have none). -/
def Block.regs : Block → List RegDef
  | .tim => timRegs
  | .gpt => gptRegs
  | .vim => vimRegs
  | .pin => pinRegs
  | .vi => viRegs
  | .prt => prtRegs
  | .str => strRegs
  | .fab => fabRegs
  | .cis => cisRegs
  | .egq => egqRegs
  | .pmp => pmpRegs
  | .cmp => cmpRegs
  | .cnv => cnvRegs
  | .val => valRegs
  | .lit => litRegs
  | .mtx => mtxRegs
  | .stg => stgRegs
  | .pat => patRegs
  | .cal => calRegs
  | .lds => ldsRegs
  | .swi => swiRegs
  | .enc => encRegs
  | .coi => coiRegs
  | .can => canRegs
  | .wak => wakRegs
  | .zwk => zwkRegs
  | .keeper => keeperRegs
  | .dky => dkyRegs
  | .idn => idnRegs
  | .tok => tokRegs
  | .pwr => pwrRegs
  | .pwrD => pwrDRegs
  | .bud => budRegs
  | .flt => fltRegs
  | .fltSrc => fltSrcRegs
  | .bst => bstRegs
  | .rng => rngRegs
  | .upd => updRegs
  | .dev => devRegs
  | .hqr => hqrRegs
  | .win => winRegs

end Sys2Proof.Machine
end

