-- ==== Sys2Proof/Machine/RegReset.lean ====
section
/-! DEFINITION. The value every register holds at reset: the spec's reset column (Machine/RegTable.lean), the rows whose
reset the spec gives per unit, and 0 where the spec gives none (assumption log 3). -/

namespace Sys2Proof.Machine

/-- The register row that covers an offset of a page. -/
def regDefAt (page off : Nat) : Option RegDef :=
  match blockOfPage page with
  | some b => b.regs.find? (fun d => d.covers off)
  | none => none

/-- VI_STATUS.kind of VI v (Table 3-7, Table 3-11). -/
def viKind (v : Nat) : Nat := if v = 0 then 0 else if v = 1 then 1 else if v ≤ 256 then 2 else 3

/-- Reset values the spec gives per unit rather than in the reset column: VI_STATUS by kind of VI (Table 3-11),
PRT_STATUS.ACTIVE by breakout (R99: at reset BREAKOUT is 0, one port per group), CMP_STATUS by lane (R185, Table 7-4: 8 active
lanes and one spare per die, 8 taps), ZWK_STATUS by worker (R330, Table 12-11: 14 logical workers and two spares per
cluster; before the start every worker is stopped), KPR_STATUS by keeper pair (R369: pair 0 active, pair 1 standby, both in lockstep;
assumption log 3). -/
def resetSpecial (page off : Nat) : Option Nat :=
  match rowOfPage page with
  | none => none
  | some r =>
    let i := page - r.page
    match r.block with
    | .vi => if off = R.VI_STATUS then some (viKind i) else none
    | .prt => if off = R.PRT_STATUS ∧ i % 8 = 0 then some 8 else none
    | .cmp =>
      if off = R.CMP_STATUS then
        (if i % 9 = 8 then some (2 + 31 * 4 + 8 * 256) else some (1 + (8 * (i / 9) + i % 9) * 4 + 8 * 256))
      else none
    | .zwk =>
      if off = R.ZWK_STATUS then
        (if i % 16 < 14 then some (1 * 64 + (14 * (i / 16) + i % 16) * 256) else some (2 * 64 + 255 * 256))
      else none
    | .keeper => if off = R.KPR_STATUS then some (if i = 0 then 5 else 6) else none
    | _ => none

/-- The reset value of the register a key stands for. -/
def resetNat (k : Nat) : Nat :=
  match resetSpecial (keyPage k) (keyOff k) with
  | some v => v
  | none => match regDefAt (keyPage k) (keyOff k) with
    | some d => d.reset
    | none => 0

/-- The reset value as a register word. -/
def resetWord (k : Nat) : Word := BitVec.ofNat 32 (resetNat k)

end Sys2Proof.Machine
end

