-- ==== Sys2Proof/Machine/State.lean ====
section
/-! DEFINITION. The state of the KL5120 as plain data: every register in one sparse table (Machine/RegTable.lean names them),
the hidden state of every block in records, what the block has handed to the outside world, and the queue of commands that
wait. `State.reset` is the machine right after reset. -/

namespace Sys2Proof.Machine

/-- The reasons a step can stop with a fault. No meaning of this model stops so: the conditions the spec calls faults are
taken as its fault sources FS0 to FS191 (R422), which are effects on the state. -/
inductive Fault where
  /-- Raised by no meaning; it keeps the type inhabited. Safe. -/
  | none
  deriving DecidableEq, Repr

/-- The reasons a step can be refused. -/
inductive Refusal where
  /-- The command has no meaning yet; raised by `exec` alone. Safe: the model says nothing about it. -/
  | notModelled (mnemonic : String)
  deriving DecidableEq, Repr

/-- What the device hands to the outside world. -/
inductive Out where
  /-- A word written to host memory over PCIe. -/
  | hostWord (addr : Nat) (value : Nat)
  /-- Bytes written to a receive buffer in host memory over PCIe. -/
  | hostBytes (addr : Nat) (bytes : List Byte)
  /-- An MSI-X message of a physical vector, sent no earlier than the named clock (VI_EVMOD). -/
  | msix (vector : Nat) (notBefore : Nat)
  /-- An EVENT message to a network VI: the record's four words (R89). -/
  | netEvent (vi w0 w1 w2 w3 : Nat)
  /-- A RESP message to a network VI (R89): status and payload words. -/
  | netResp (vi tag status : Nat) (words : List Nat)
  /-- A network session of the VI was closed by the device (R88). -/
  | netClosed (vi : Nat)
  /-- A read completion to a PCIe VI or a core (R84, R85). -/
  | readData (vi value : Nat)
  /-- A frame sent by a data port, its FCS apart. -/
  | frame (port : Nat) (bytes : List Byte)
  /-- The frame in transmission at a data port was ended with its FCS inverted (R131). -/
  | frameAborted (port : Nat) (bytes : List Byte)
  /-- A frame handed to the keeper's own protocol software (R107, R108): the logical port it came in by. -/
  | keeperFrame (port : Nat) (bytes : List Byte)
  /-- An MDIO frame put on the management bus: the word of MGT_MDIO (R125). -/
  | mdio (value : Nat)
  /-- A frame put on a CAN bus by its controller (R306, R317). -/
  | canFrame (channel : Nat) (frame : CanFrame)
  /-- A frame that a reader port sent to the token in its field, without its CRC_A (Table 13-8). -/
  | tokFrame (port : Nat) (bytes : List Nat)
  deriving DecidableEq, Repr

/-! ## The page network, events and faults -/

/-- An event record, four words in the layout of Table 3-5 (R81). -/
structure EvRec where
  w0 : Word
  w1 : Word
  w2 : Word
  w3 : Word
  deriving DecidableEq, Repr

/-- A grant-table entry (R90, Table 3-10): `access` 1 is read, 2 is own. -/
structure Grant where
  type : Nat
  vi : Nat
  access : Nat
  first : Nat
  count : Nat
  deriving DecidableEq, Repr

/-- A network session (R88): when it last received a message, and whether it is an enrolment session. -/
structure Session where
  lastRx : Nat
  enrol : Bool
  deriving DecidableEq, Repr

/-- A first-error record (Table 15-3): its seven words. -/
structure FaultRec where
  d0 : Nat
  d1 : Nat
  d2 : Nat
  d3 : Nat
  d4 : Nat
  d5 : Nat
  d6 : Nat
  deriving DecidableEq, Repr

/-- The page network, the wall-time counter, event delivery, fault bookkeeping and timers. -/
structure Bus where
  /-- Timebase clocks of 2 ns since the device was powered. -/
  now : Nat
  /-- The wall-time counter W of R49 in units of 2^-48 ns: seconds, nanoseconds, fraction and the carried bits. -/
  wall : Nat
  /-- The addend of R49 in units of 2^-48 ns per 2 ns clock. -/
  addend : Nat
  /-- Every register, by key (Machine/Pages.lean), where it differs from its reset value. -/
  regs : SMap Word
  /-- Staged values of RWS registers, by key, where they differ from the active value (R8, R74). -/
  shadow : SMap Word
  /-- Running timers: the instant, in timebase clocks, at which each is due. -/
  timers : SMap Nat
  /-- The model's own counter for free values (assumption log 4). -/
  free : Nat
  /-- What the device has handed to the outside world, newest first (assumption log 5). -/
  out : List Out
  /-- SEQ of each VI's next record (R82). -/
  seq : SMap Nat
  /-- The grant table (R90). -/
  grants : SMap Grant
  /-- Network sessions by VI (R88). -/
  sessions : SMap Session
  /-- Records held for a network VI that has no session, oldest first (R88). -/
  netHold : SMap (List EvRec)
  /-- SR-IOV VF Enable and NumVFs (R500). -/
  vfEnable : Bool
  numVfs : Nat
  /-- PCIe VIs have access (FS10, FS18, R179). -/
  pcieUp : Bool
  /-- Power domains halted by a halt-domain fault (R85). -/
  halted : List Nat
  /-- EVT of each core (R355): workers 0 to 95, keeper pairs 96 and 97. -/
  evt : SMap Word
  /-- Data memory of the active keeper (R359), by word address. -/
  kdmem : SMap Word
  /-- The active keeper pair, which is VI 0. -/
  keeper : Nat
  /-- The first-error records in use (R427). -/
  recs : SMap FaultRec
  /-- The unit of the detection that started a source's reaction: its page and the address named (R430). -/
  units : SMap (Nat × Nat)
  /-- Grants are in force and every page is present (step 7 of Table 16-4); before that a VI sees the DEV page alone (Table 16-5). -/
  grantsOn : Bool
  /-- Instants, in timebase clocks, at which each correctable fault source was detected within the last second, newest first (R425). -/
  corr : SMap (List Nat)
  /-- When each MSI-X vector last sent a message (VI_EVMOD), in timebase clocks. -/
  msixLast : SMap Nat
  deriving DecidableEq, Repr

/-! ## The timebase and the general timers -/

/-- A requester's snapshot of TIM_NOW and of TIM_PPS_CAP_NS (R51, R61). -/
structure TimSnap where
  sHi : Nat
  sLo : Nat
  ns : Nat
  frac : Nat
  capNs : Nat
  deriving DecidableEq, Repr

/-- The last accepted PPS edge (R53, R71): its capture in 250 ps units, its label in seconds, and its phase error. -/
structure Edge where
  cap : Nat
  label : Option Nat
  err : Option Int
  deriving DecidableEq, Repr

/-- The discipline of the wall-time counter (R52 to R58) and the clocks' hidden state. -/
structure TimState where
  /-- Capture of the last edge seen on the pin, in 250 ps units (R53). -/
  lastSeen : Option Nat
  /-- The last accepted edge. -/
  lastAcc : Option Edge
  /-- No other edge was seen since the last accepted one (R54). -/
  consecutive : Bool
  /-- TIM_PPS_NEXT_S was written and labels the next accepted edge (R52). -/
  nextValid : Bool
  /-- A step is armed by PPS, by PTP (Table 2-5, R57). -/
  armed : Bool
  ptpArmed : Bool
  /-- The phase errors at the last 16 accepted edges or Syncs, newest first, in 250 ps units (R19, R55). -/
  hist : List Nat
  /-- Emeas without its 1 ns, frozen on entry to HOLDOVER, in 250 ps units (R19). -/
  frozen : Nat
  /-- W in 250 ps units on entry to HOLDOVER (R19). -/
  holdStart : Nat
  /-- Estep in 250 ps units, and the W at which it ends (R19). -/
  estep : Nat
  estepEnd : Nat
  /-- PTP: Syncs below the threshold in a row, lock, last offset, grandmaster (R57). -/
  ptpCount : Nat
  ptpLocked : Bool
  ptpLast : Option Int
  ptpCap : Nat
  ptpGm : Option Nat
  /-- The addends used, newest first, each with the clock from which it ran (R58: average over the last 16 s). -/
  addends : List (Nat × Nat)
  /-- Clock domains whose standby PLL is not locked (R47). -/
  noStandby : List Nat
  /-- XTAL32K is lost and AON runs from CTL (FS11); REFCLK is lost (FS9). -/
  xtalLost : Bool
  refLost : Bool
  /-- Snapshots by requester (R51). -/
  snaps : SMap TimSnap
  deriving DecidableEq, Repr

/-- The hidden state of a general timer (R64 to R70): prescaler accumulator, committed RELOAD and CMP, capture. -/
structure Gpt where
  acc : Nat
  reload : Nat
  cmp : Nat
  cap : Nat
  deriving DecidableEq, Repr

/-- A GPT after reset (Table 2-11). -/
def Gpt.init : Gpt := ⟨0, 0xFFFFFFFFFFFF, 0, 0⟩

/-! ## Posted writes -/

/-- A posted write (R83): who wrote which register with what. -/
structure Posted where
  vi : Nat
  key : Nat
  value : Nat
  deriving DecidableEq, Repr

/-- Register-page state: the posted-write queue of each clock domain in order of acceptance, the writes the page network
holds back while a queue is full (R83), and snapshots of GPT_CAP_HI (R69). -/
structure PageState where
  posted : SMap (List Posted)
  held : SMap (List Posted)
  deriving DecidableEq, Repr

/-- The nominal addend: 2.0 ns per clock (R49), in units of 2^-48 ns. -/
def nominalAddend : Nat := 2 * 2 ^ 48

/-- The page network at reset: the counter and every register at reset, no grants committed, no sessions, keeper pair 0 the
active one (assumption log 3). -/
def Bus.init : Bus :=
  { now := 0, wall := 0, addend := nominalAddend, regs := SMap.empty, shadow := SMap.empty, timers := SMap.empty, free := 0,
    out := [], seq := SMap.empty, grants := SMap.empty, sessions := SMap.empty, netHold := SMap.empty, vfEnable := false,
    numVfs := 0, pcieUp := true, halted := [], evt := SMap.empty, kdmem := SMap.empty, keeper := 0, recs := SMap.empty,
    units := SMap.empty, grantsOn := false, corr := SMap.empty, msixLast := SMap.empty }

/-- The timebase at reset: STARTING, no edge seen (R53, R58). -/
def TimState.init : TimState :=
  { lastSeen := none, lastAcc := none, consecutive := false, nextValid := false, armed := false, ptpArmed := false, hist := [],
    frozen := 0, holdStart := 0, estep := 0, estepEnd := 0, ptpCount := 0, ptpLocked := false, ptpLast := none, ptpCap := 0, ptpGm := none,
    addends := [(0, nominalAddend)], noStandby := [], xtalLost := false, refLost := false, snaps := SMap.empty }

/-- No posted write waits at reset. -/
def PageState.init : PageState := { posted := SMap.empty, held := SMap.empty }

/-! ## Streams, the switch core and the rings -/

/-- Where a copy of a packet goes. -/
inductive Dest where
  | port (p : Nat)
  | ring (r : Nat)
  | store (j : Nat)
  | val
  | keeper
  /-- Back to ingress processing through recirculation (R128). -/
  | lookup
  deriving DecidableEq, Repr

/-- A packet inside the device. Times are in units of 250 ps. -/
structure Pkt where
  id : Nat
  /-- From the destination address to the last byte of payload. -/
  bytes : List Byte
  /-- Ingress logical port, 0 to 515; 516 for a packet that no port received. -/
  inPort : Nat
  /-- Ta, whether it was stamped outside STARTING (R16), and the capture time (R11). -/
  ta : Nat
  taKnown : Bool
  tc : Option Nat
  /-- The VLAN and the PCP of the outermost tag or of the port (R104, R109). -/
  vlan : Nat
  pcp : Nat
  /-- 0 green, 1 yellow, 2 red (R116). -/
  colour : Nat
  /-- The matching stream-table entry, and its deadline code (R17). -/
  stream : Option Nat
  deadline : Nat
  /-- A tile packet's scheduled time and canvas (R197). -/
  tile : Option (Nat × Nat)
  /-- Rate of the ingress port in units of 100 Gbit/s (R147). -/
  rate : Nat
  /-- The owner of the transmit ring it came from, if any (R171). -/
  txRing : Option Nat
  /-- It was looked up during a move of its stream (R164). -/
  hold : Bool
  deriving DecidableEq, Repr

/-- One copy: its crossbar output, the local port, the class, the stream group and the destination. -/
structure Copy where
  out : Nat
  k : Nat
  cls : Nat
  sgrp : Nat
  dest : Dest
  deriving DecidableEq, Repr

/-- A copy's progress through the crossbar. -/
inductive Leg where
  | waiting
  | admitted
  | dead
  /-- Its transmission has begun under cut-through (flag K of R137). -/
  | sending
  deriving DecidableEq, Repr

/-- A copy of a packet in a transit stage: how many of its cells have crossed. -/
structure TCopy where
  copy : Copy
  sent : Nat
  leg : Leg
  deriving DecidableEq, Repr

/-- A packet in the transit stage of a crossbar input (R134): its cells, the charge of its admission (R142), the cells it took
from the class F reserve and from the general 88, and whether it failed the checks at its end. -/
structure Transit where
  pkt : Pkt
  cells : Nat
  charge : Nat
  fres : Nat
  gen : Nat
  bad : Bool
  copies : List TCopy
  deriving DecidableEq, Repr

/-- A packet in a well or class queue: its order of admission, the cells charged, those written to the cistern so far, and the
move that holds it, if any (R164). -/
structure Queued where
  pkt : Pkt
  copy : Copy
  seq : Nat
  charge : Nat
  got : Nat
  cut : Bool
  held : Option Nat
  deriving DecidableEq, Repr

/-- A RED average, num / 2^exp cells, kept exactly (R146). -/
structure Avg where
  num : Nat
  exp : Nat
  deriving DecidableEq, Repr

/-- What a port or cistern output sends: until when, in ps, and the class. -/
structure Sending where
  till : Nat
  cls : Nat
  deriving DecidableEq, Repr

/-- A token bucket: tokens in units of 1/62,500 byte and the clock at which they were counted. -/
structure Bucket where
  tok : Int
  last : Nat
  deriving DecidableEq, Repr

/-- The DWRR state of a data port (R160): the class whose turn it is, whether it has had its quantum, the deficit of each
class; and by class the stream group whose turn it is, whether it has had its quantum, and the deficit of each well. -/
structure Drr where
  cls : Nat
  fed : Bool
  def7 : SMap Nat
  sg : SMap Nat
  sgFed : SMap Bool
  sgDef : SMap Nat
  deriving DecidableEq, Repr

def Drr.init : Drr := ⟨0, false, SMap.empty, SMap.empty, SMap.empty, SMap.empty⟩

/-- The hidden state of the switch core. -/
structure Fab where
  nextId : Nat
  nextSeq : Nat
  /-- Transit stages by crossbar input, in order of admission. -/
  stage : SMap (List Transit)
  /-- Round-robin pointers of the outputs' grants and of the inputs' accepts (R137). -/
  grantPtr : SMap Nat
  acceptPtr : SMap Nat
  /-- Wells 0 to 16,383, and the class queues of cisterns 64 to 71 from 16,384 on. -/
  wells : SMap (List Queued)
  avg : SMap Avg
  /-- Instants of slice errors by plane (R132), in clocks, newest first. -/
  sliceErr : SMap (List Nat)
  /-- The plane whose isolation is decided and not complete. -/
  isoPend : Option Nat
  sending : SMap Sending
  shaper : SMap Bucket
  drr : SMap Drr
  /-- Classes for which the budget scheduler asks the partner to pause, by port (R105). -/
  pfcReq : SMap Nat
  /-- Packets delivered to the composition dies, to the pumps and to the value-frame engine, oldest first. -/
  storeIn : SMap (List Pkt)
  pumpIn : SMap (List (Nat × Queued))
  valIn : List Pkt
  deriving DecidableEq, Repr

def Fab.init : Fab :=
  { nextId := 0, nextSeq := 0, stage := SMap.empty, grantPtr := SMap.empty, acceptPtr := SMap.empty, wells := SMap.empty,
    avg := SMap.empty, sliceErr := SMap.empty, isoPend := none, sending := SMap.empty, shaper := SMap.empty, drr := SMap.empty,
    pfcReq := SMap.empty, storeIn := SMap.empty, pumpIn := SMap.empty, valIn := [] }

/-- A stream-table entry (R113): its 16 words as written, the physical destination and peer its local indices named, its
counters and its meter's buckets (R116). -/
structure StrEntry where
  w : List Nat
  destPhys : Nat
  peerPhys : Option Nat
  matched : Nat
  red : Nat
  dup : Nat
  check : Nat
  cBucket : Bucket
  pBucket : Bucket
  deriving DecidableEq, Repr

/-- A multicast group (R117): the local delivery's kind and its index, local and physical, and the port bitmaps. -/
structure Grp where
  kind : Nat
  index : Nat
  phys : Nat
  static : Nat
  dyn : Nat
  deriving DecidableEq, Repr

def Grp.init : Grp := ⟨0, 0, 0, 0, 0⟩

/-- A merge pair (R120, R121), held under the lower entry: the other entry, the newest sequence number delivered and those of
the last 32,768 seen; by leg when it last had a packet and whether EV176 was raised; when the pair last delivered. -/
structure Pair where
  other : Nat
  newest : Option Nat
  seen : List Nat
  lastA : Nat
  lastB : Nat
  lostA : Bool
  lostB : Bool
  lastOut : Nat
  deriving DecidableEq, Repr

/-- A move in progress (R164): the marked packet and the old and new queues, and the old and new host rings where the
destination is one. -/
structure Move where
  marked : Nat
  old : Nat
  new : Nat
  oldRing : Option Nat
  deriving DecidableEq, Repr

/-- A WRITE kept BUSY (R166). -/
structure StrWait where
  vi : Nat
  page : Nat
  entry : Nat
  words : List Nat
  keep : Bool
  deriving DecidableEq, Repr

/-- The stream table, groups, pairs and moves. -/
structure Streams where
  entries : SMap StrEntry
  groups : SMap Grp
  /-- Router ports, as a bitmap (R117). -/
  routers : Nat
  pairs : SMap Pair
  moves : SMap Move
  waits : List StrWait
  /-- The ring store (R167), by byte address. -/
  rstore : SMap Byte
  deriving DecidableEq, Repr

/-- Every entry is invalid after a device reset (R113); the ring store reads 0 (assumption log 3). -/
def Streams.init : Streams :=
  { entries := SMap.empty, groups := SMap.empty, routers := 0, pairs := SMap.empty, moves := SMap.empty, waits := [],
    rstore := SMap.empty }

/-- The pumps (R177): the ring served last on transmit, when each may transmit and deliver next (in ps), and the descriptors of
disabled rings that were fetched and not completed, with their IRQ bits (R175). -/
structure Pumps where
  rr : SMap Nat
  txFree : SMap Nat
  rxFree : SMap Nat
  fetched : SMap (List Bool)
  deriving DecidableEq, Repr

def Pumps.init : Pumps := ⟨SMap.empty, SMap.empty, SMap.empty, SMap.empty⟩

/-! ## Endpoints and the journal -/

/-- An endpoint-table entry (Table 8-4): its configuration words as written, the physical target, pattern engine and map they
name, and its state; no capture time is age unknown (R16). -/
structure Ep where
  w0 : Nat
  w1 : Nat
  w2 : Nat
  /-- Physical chain, port, stage or canvas, and the place within it. -/
  unit : Nat
  sub : Nat
  pat : Nat
  map : Nat
  value : Nat
  quality : Nat
  flags : Nat
  stale : Bool
  tc : Option Nat
  inherit : Nat
  slot : Option Nat
  bySet : Bool
  deriving DecidableEq, Repr

/-- An entry at first power (R226). -/
def Ep.init : Ep := ⟨0, 0, 0, 0, 0, 0, 0, 0, 0, 0, false, none, 0, none, false⟩

/-- The value-frame engine and the endpoint table. -/
structure Val where
  /-- Frames that wait (R225), oldest first. -/
  queue : List Pkt
  eps : SMap Ep
  deriving DecidableEq, Repr

def Val.init : Val := { queue := [], eps := SMap.empty }

/-- A journal record (Table 15-13): its fields, its entries (address and selector as one key, and value), and whether it is
durable. -/
structure JRec where
  kind : Nat
  epoch : Nat
  group : Nat
  /-- TIME, in 250 ps units. -/
  time : Nat
  entries : List (Nat × Nat)
  durable : Bool
  /-- When it became durable, in timebase clocks. -/
  durAt : Nat
  /-- Word offset of the record in the log. -/
  pos : Nat
  deriving DecidableEq, Repr

/-- A command whose record waits for room in the log (R448): what it is, who gave it, the entry and the words. -/
structure JWait where
  kind : Nat
  vi : Nat
  index : Nat
  words : List Nat
  deriving DecidableEq, Repr

/-- The journal: records not yet copied into the home copy, oldest first; where the next record goes; the home copy, by key;
commands that wait; whether MRAM writing has ended on PWR_FAIL_N (R451). -/
structure Journal where
  log : List JRec
  next : Nat
  home : SMap Nat
  waits : List JWait
  closed : Bool
  deriving DecidableEq, Repr

def Journal.init : Journal := { log := [], next := 0, home := SMap.empty, waits := [], closed := false }

/-! ## Composition -/

/-- A line in a frame store buffer: the pieces received (pixel offset, bytes as the source sent them) and the capture time of the
frame that supplied it; black fill has none of the former and 0 for the latter (R189, R190). -/
structure SLine where
  chunks : List (Nat × List Byte)
  tc : Option Nat
  deriving DecidableEq, Repr

/-- A frame store buffer (R191): whether a frame is being written, the frame's number and capture time, its lines by number, and
bands whose capture time an uncorrectable word has set to 0 (R190). -/
structure Buf where
  writing : Bool
  id : Nat
  tc : Option Nat
  lines : SMap SLine
  zero : List Nat
  deriving DecidableEq, Repr

def Buf.init : Buf := ⟨false, 0, none, SMap.empty, []⟩

/-- A packet of a coded frame (RFC 9134): its packet counter, its slice mode bit and its bytes. -/
structure XsPart where
  counter : Nat
  slice : Bool
  bytes : List Byte
  deriving DecidableEq, Repr

/-- A frame whose end has been seen and that is not complete: its buffer, whether a coded frame lost a packet or broke a limit,
whether it has been decoded, and its coded packets. -/
structure Ended where
  buf : Nat
  bad : Bool
  decoded : Bool
  xs : List XsPart
  deriving DecidableEq, Repr

/-- A frame store: its four buffers; the frame being received (RTP timestamp, buffer, its earliest Ta with the capture time, its
coded packets); frames ended, oldest first; the newest complete buffer; frame numbers; frames skipped by RATE_DIV; blocks
reserved, the decode engine, and whether a disabled store still waits for a hold to end (R188). -/
structure Store where
  bufs : List Buf
  ts : Option Nat
  cur : Option Nat
  ta : Nat
  tc : Option Nat
  xs : List XsPart
  ended : List Ended
  newest : Option Nat
  nextId : Nat
  skip : Nat
  blocks : Nat
  engine : Option Nat
  closing : Bool
  deriving DecidableEq, Repr

def Store.init : Store :=
  { bufs := [Buf.init, Buf.init, Buf.init, Buf.init], ts := none, cur := none, ta := 0, tc := none, xs := [], ended := [],
    newest := none, nextId := 0, skip := 0, blocks := 0, engine := none, closing := false }

/-- A window's binding to a buffer (R203): window, store, buffer and the frame's capture time. -/
structure Bind where
  win : Nat
  store : Nat
  buf : Nat
  tc : Option Nat
  deriving DecidableEq, Repr

/-- A posted segment (R203): tile slot, tile line, whether it is a cell's and of which window or cell; its measurement point in
units of its canvas, its capture time; for a cell the endpoint as read at the post, and the colour it is drawn in; the judge's
verdict (stale), and whether its pixels were late (R206). -/
structure Seg where
  tile : Nat
  line : Nat
  cell : Bool
  idx : Nat
  tm : Nat
  tc : Option Nat
  ep : Option (Nat × Ep)
  colour : Nat
  verdict : Option Bool
  late : Bool
  deriving DecidableEq, Repr

/-- A canvas frame from its binding instant on: its start, the frame count f of R204, whether the device was unbound, the taps in
use, the bindings, lines drawn, segments posted, windows latched stale (R30), and where a jump cuts it (R199). Times are in
units of 250 ps ÷ (rate numerator × VTOTAL × NPL), in which Tframe, Tline and TRS are whole. -/
structure CFrame where
  start : Nat
  f : Nat
  unbound : Bool
  taps : Nat
  binds : List Bind
  drawn : List (Nat × Nat)
  segs : List Seg
  latched : List Nat
  cut : Option Nat
  deriving DecidableEq, Repr

/-- A running canvas: the start of its next frame, the start at which alignment is reached, the frame in progress and the one
bound next; by tile slot the sequence number (R196) and the next packet of the frame in progress. -/
structure Canvas where
  nextF : Option Nat
  alignF : Option Nat
  cur : Option CFrame
  nxt : Option CFrame
  seqs : SMap Nat
  sent : SMap Nat
  deriving DecidableEq, Repr

def Canvas.init : Canvas := ⟨none, none, none, none, SMap.empty, SMap.empty⟩

/-- A layout epoch in progress for a group (R209): the pages and window slots it takes, and the place in the log of its record. -/
structure Epoch where
  pages : List Nat
  slots : List Nat
  jpos : Option Nat
  deriving DecidableEq, Repr

/-- Composition: stores, canvases, last good frames by window, windows whose last canvas frame had a stale segment, layout
epochs by group, PENDING and WR_LOST by window slot (R208), by logical lane the clock from which a spare serves it (R211), and
decode engines that failed (die × 4 + engine, FS60). -/
structure Comp where
  stores : SMap Store
  canvases : SMap Canvas
  good : SMap Bind
  wasStale : List Nat
  epochs : SMap Epoch
  wpend : List Nat
  wlost : List Nat
  laneReady : SMap Nat
  engDown : List Nat
  deriving DecidableEq, Repr

def Comp.init : Comp := ⟨SMap.empty, SMap.empty, SMap.empty, [], SMap.empty, [], [], SMap.empty, []⟩

/-! ## Light output -/

/-- A command word for a chain (Table 9-2). -/
structure LitCmd where
  op : Nat
  hop : Nat
  bcast : Bool
  data : Nat
  deriving DecidableEq, Repr

/-- A command frame on the line: software's, the temperature read of a zone, or the tail check. -/
inductive Flight where
  | software (c : LitCmd)
  | temp (zone : Nat)
  | tail
  deriving DecidableEq, Repr

/-- The hidden state of a bucket chain. Instants are in timebase clocks. -/
structure Chain where
  /-- Start of the next data frame: the rising edge of its first bit. -/
  start : Option Nat
  /-- LIT_PERIOD in use, and the length and period of the next data frame. -/
  per : Nat
  nLen : Nat
  nPer : Nat
  /-- Changes accepted and not yet bound to a frame, with the instant of acceptance (R238). -/
  pendLen : Option (Nat × Nat)
  pendPer : Option (Nat × Nat)
  /-- The frame being sent: device and bucket; its latch at the pin and at the last device (R237). -/
  frame : List (Nat × Nat)
  pinAt : Option Nat
  latchAt : Option Nat
  /-- The buckets the chain shows since its last latch, by device. -/
  shown : List (Nat × Nat)
  /-- An enumeration is asked for, runs, was asked for by LIT_CMD; its passes, newest first; a LIT_DEV_COUNT write made in it. -/
  enumReq : Bool
  enumRun : Bool
  enumCmd : Bool
  passes : List (Option Nat × Nat)
  devPend : Option Nat
  /-- The software command that waits, the data-frame intervals it has waited, and the command on the line. -/
  cmd : Option LitCmd
  waits : Nat
  flight : Option Flight
  /-- From when the line is free for a command frame. -/
  lineFree : Nat
  /-- Latches missed at the return in a row; PINGs whose count differed in a row; a PING was sent in this interval (R245). -/
  missed : Nat
  tailBad : Nat
  tailSent : Bool
  /-- By zone: the temperature its sense device last gave, and when it was asked; zones whose temperature is invalid (R248). -/
  sense : SMap Nat
  asked : SMap Nat
  zinv : List Nat
  deriving DecidableEq, Repr

def Chain.init : Chain :=
  { start := none, per := 10000, nLen := 0, nPer := 10000, pendLen := none, pendPer := none, frame := [], pinAt := none,
    latchAt := none, shown := [], enumReq := false, enumRun := false, enumCmd := false, passes := [], devPend := none,
    cmd := none, waits := 0, flight := none, lineFree := 0, missed := 0, tailBad := 0, tailSent := false, sense := SMap.empty,
    asked := SMap.empty, zinv := [] }

/-- A matrix port: the start of the scan frame, the duties read for the next one and those in effect (point and channel 0), and
what the line being driven does: on times of its columns in 5 ns clocks, the precharge level of its dead time, and whether the
line was switched off (R253 to R256). -/
structure Mtx where
  start : Option Nat
  next : List (Nat × Nat)
  duty : List (Nat × Nat)
  cols : List (Nat × Nat)
  pre : Option Nat
  off : Bool
  deriving DecidableEq, Repr

def Mtx.init : Mtx := ⟨none, [], [], [], none, false⟩

/-- A string stage: the setpoint read, the one in effect, the derating factor; the PWM duty in 1/65,535; the current it moves
from and to, in 1/(65,535 × 65,536) of IFS, and since when (R258). -/
structure Stage where
  read : Nat
  eff : Nat
  d : Nat
  duty : Nat
  src : Nat
  dst : Nat
  since : Nat
  deriving DecidableEq, Repr

def Stage.init : Stage := ⟨0, 0, 256, 0, 0, 0, 0⟩

/-- Light output: chains, matrix ports, stages; by held pattern engine the W in milliseconds at the hold (R252); calibration
entries (CAL_D0 and CAL_D1) by endpoint and matrix entries by row and entry (R247), and valid NTC temperatures (R265). -/
structure Light where
  chains : SMap Chain
  mtx : SMap Mtx
  stg : SMap Stage
  hold : SMap Nat
  cal : SMap (Nat × Nat)
  rows : SMap Nat
  ntc : SMap Nat
  deriving DecidableEq, Repr

def Light.init : Light := ⟨SMap.empty, SMap.empty, SMap.empty, SMap.empty, SMap.empty, SMap.empty, SMap.empty⟩

/-! ## Console inputs and outputs -/

/-- Load channels (R267 to R279): by channel in inrush, the clock at which it started and the length of its peak phase in clocks;
channels whose demand was on when limp-home began, and those in PAUSE then (Table 10-4); channels that RESTORE 0 keeps off until
their demand goes off (R274); whether every demand is off on the way into Off (R403). -/
structure Loads where
  inrush : SMap (Nat × Nat)
  hold : List Nat
  limpPause : List Nat
  needLow : List Nat
  allOff : Bool
  deriving DecidableEq, Repr

def Loads.init : Loads := ⟨SMap.empty, [], [], [], false⟩

/-- An entry of the switch change queue (R284): input, new level and the W of the first agreeing sample, in 250 ps units. -/
structure SwiEntry where
  input : Nat
  level : Bool
  stamp : Nat
  deriving DecidableEq, Repr

/-- Switch inputs (R282 to R285): by input the level of the last sample and the debounced level, before INV; how many samples in a
row differed from it and the W of the first; the change queue; the stamp snapshot of SWI_Q1 to SWI_Q3. -/
structure Switches where
  sample : SMap Bool
  level : SMap Bool
  agree : SMap (Nat × Nat)
  queue : List SwiEntry
  snap : Nat
  deriving DecidableEq, Repr

def Switches.init : Switches := ⟨SMap.empty, SMap.empty, SMap.empty, [], 0⟩

/-- What the bridge of a coil channel does (R291, R293, R298). -/
inductive CoilDrive where
  /-- Off, no current. -/
  | off
  /-- Regulating to a target in mA. -/
  | regulate (ma : Nat)
  /-- Fully on. -/
  | full
  /-- Freewheeling through the low side. -/
  | freewheel
  /-- Decaying into VBOOST. -/
  | recover
  /-- Decaying through the bridge diodes. -/
  | diodes
  deriving DecidableEq, Repr

/-- What the word in progress of a coil sequence waits for. -/
inductive CoilWait where
  | none
  /-- WAITU or WAITM. -/
  | time
  /-- WAITK: its start and its end, in timebase clocks. -/
  | kink (start stop : Nat)
  /-- The current to fall below 20 mA, in RECOV. -/
  | decay
  /-- The current to fall below 20 mA, which ends the sequence. -/
  | ending
  deriving DecidableEq, Repr

/-- The sequencer and bridge of a coil channel: when the next word can run, in timebase clocks. -/
structure Coil where
  ready : Nat
  wait : CoilWait
  drive : CoilDrive
  vboost : Bool
  dir : Bool
  full : Bool
  target : Nat
  deriving DecidableEq, Repr

def Coil.init : Coil := ⟨0, .none, .off, false, false, false, 0⟩

/-- Console sections on their way out of Watch, and the requests of the device held for them: fires of coil channels by authority
relays (coil channel and word), and reader ports with a poll (R409). -/
structure Watch where
  leaving : List Nat
  fires : List (Nat × Nat)
  polls : List Nat
  deriving DecidableEq, Repr

def Watch.init : Watch := ⟨[], [], []⟩

/-! ## CAN controllers -/

/-- A stored CAN frame (Table 11-7): the filter it matched, its marks and its stamp in 250 ps units. -/
structure CanRx where
  frame : CanFrame
  filter : Nat
  spill : Bool
  late : Bool
  hpOvr : Bool
  stamp : Nat
  deriving DecidableEq, Repr

/-- The hidden state of a CAN controller: the buffer whose frame is on the bus; a started frame marked for cancellation; requests
that have had a failed attempt; when the last attempt ended; bus-off recovery in progress; stored frames and whether the head is
locked; and of time-triggered operation the clock at which the cycle time was 0, whether a cycle count was set, whether a backup
master acts as the master, the schedule entries whose window is open, those in whose window the exclusive frame has started, and
those whose watched frame has come. -/
structure Can where
  inProg : Option Nat
  cancel : Bool
  failed : List Nat
  endAt : Nat
  recovering : Bool
  hp : SMap CanRx
  fifo : List CanRx
  headLocked : Bool
  cycle0 : Nat
  counted : Bool
  acting : Bool
  windows : List Nat
  used : List Nat
  seen : List Nat
  deriving DecidableEq, Repr

def Can.init : Can := ⟨none, false, [], 0, false, SMap.empty, [], false, 0, false, false, [], [], []⟩

/-! ## Zugrim cores -/

/-- Where a result lands (R337). -/
inductive LandAt where
  | d (i : Nat)
  | a (i : Nat)
  | m (i : Nat)
  | lc (l : Nat)
  | st
  deriving DecidableEq, Repr

/-- A result in flight: the word to which it is first visible, the word and slot that produced it, its place and value (R337,
R338). -/
structure Land where
  due : Nat
  word : Nat
  slot : Nat
  dst : LandAt
  value : Word
  deriving DecidableEq, Repr

/-- A store in flight (R337). -/
structure PendStore where
  due : Nat
  addr : Nat
  value : Word
  deriving DecidableEq, Repr

/-- A MAC or MSU whose accumulator has not been read (R339): its word and slot, accumulator, whether it subtracts and saturates,
and its product. -/
structure LateMac where
  word : Nat
  slot : Nat
  acc : Nat
  sub : Bool
  sat : Bool
  p : Int
  deriving DecidableEq, Repr

/-- A loop level (R353): whether it is active, its start and its end. -/
structure LoopLevel where
  active : Bool
  start : Nat
  stop : Nat
  deriving DecidableEq, Repr

/-- A queued command (R360, R361): whether it is a GET, its group, remote byte address, local word address (GET), the source words
(PUT, PUTR) and the number of words. -/
structure RemoteCmd where
  get : Bool
  group : Nat
  addr : Nat
  dest : Nat
  words : List Word
  count : Nat
  deriving DecidableEq, Repr

/-- A core (R330 to R333): its registers as visible to the next word, the index of that word, the results in flight, the return
stack (top first), the next word's address, loop levels, delay slots left with the target of a taken branch, whether it runs and
whether it stops with which REASON, the mask and destination of a blocked WAIT, the clock at which it was started, its command
queue and its memories. The data memory of the active keeper is `Bus.kdmem`. -/
structure ZwCore where
  d : SMap Word
  a : SMap Word
  m : SMap Word
  lc0 : Word
  lc1 : Word
  st : Nat
  stack : List Nat
  pc : Nat
  n : Nat
  lands : List Land
  stores : List PendStore
  macs : List LateMac
  loop0 : LoopLevel
  loop1 : LoopLevel
  delay : Option (Nat × Option Nat)
  running : Bool
  stopping : Option Nat
  waiting : Option (Word × Nat)
  started : Nat
  queue : List RemoteCmd
  imem : SMap Word
  dmem : SMap Word
  deriving DecidableEq, Repr

def ZwCore.init : ZwCore :=
  { d := SMap.empty, a := SMap.empty, m := SMap.empty, lc0 := 0, lc1 := 0, st := 0, stack := [], pc := 0, n := 0, lands := [],
    stores := [], macs := [], loop0 := ⟨false, 0, 0⟩, loop1 := ⟨false, 0, 0⟩, delay := none, running := false, stopping := none,
    waiting := none, started := 0, queue := [], imem := SMap.empty, dmem := SMap.empty }

/-! ## Power -/

/-- The device ladder (R401 to R405): what the transition in progress, if any, is doing. -/
structure Ladder where
  /-- 0 none; 1 entering, before the commit point; 2 past the commit point; 3 returning to Run. -/
  phase : Nat
  /-- The state being entered. -/
  target : Nat
  /-- The rank that drains now, 1 to 4. -/
  rank : Nat
  /-- Domains that drain, and domains already down by this entry. -/
  draining : List Nat
  down : List Nat
  /-- A wake was latched at or after the commit point (Table 14-3). -/
  latched : Bool
  /-- A wake has been recorded in WAKE_FIRST since Run was left. -/
  woken : Bool
  deriving DecidableEq, Repr

/-- No transition. -/
def Ladder.init : Ladder :=
  { phase := 0, target := 0, rank := 0, draining := [], down := [], latched := false, woken := false }

/-! ## Double key, identity and key tokens -/

/-- A key principal's signature being verified (R375, R377): the principal, r and s, the principal's words at the submission, and the
proposal that was SEALED then, by number. -/
structure DkySig where
  prin : Nat
  r : Nat
  s : Nat
  words : List Nat
  prop : Option Nat
  deriving DecidableEq, Repr

/-- The double-key engine beside its registers (R376): proposals opened, the signature being verified, the principals whose
signatures are held, whether the window ended during a verification, whether WAKE_N has been held low for 2 s, and the sealed
operations (address, selector value, word). -/
structure Dky where
  prop : Nat
  sig : Option DkySig
  psig : Option Nat
  csig : Option Nat
  expiring : Bool
  wakeHeld : Bool
  ops : List (Nat × Nat × Nat)
  deriving DecidableEq, Repr

def Dky.init : Dky := ⟨0, none, none, none, false, false, []⟩

/-- Identity (R384, R385): the request being served (VI and challenge words), the VI that reads the report, the report's 107 words,
the certificate's words, what the running image measures to (the digest of the image, that of everything loaded), and whether the
identity key pair exists. -/
structure Idn where
  req : Option (Nat × List Nat)
  reader : Option Nat
  report : List Nat
  cert : List Nat
  measImage : List Nat
  measLoad : List Nat
  keyed : Bool
  deriving DecidableEq, Repr

/-- At first power: no certificate, nothing loaded (assumption log 3). -/
def Idn.init : Idn := ⟨none, none, [], [], [], [], false⟩

/-- A reader port (R388 to R391): the reply awaited (1 AUTH1, 2 AUTH2, 3 READ, 4 PING, 5 its repetition; 0 none), RA and RB, UID,
K and KS as bytes, the record's NOT_AFTER, the PING counter, and when a token last
answered a selection, in timebase clocks. -/
structure Tok where
  awaits : Nat
  ra : List Nat
  rb : List Nat
  uid : List Nat
  k : List Nat
  ks : List Nat
  notAfter : Nat
  counter : Nat
  answered : Nat
  deriving DecidableEq, Repr

def Tok.init : Tok := ⟨0, [], [], [], [], [], 0, 0, 0⟩

/-! ## Global configuration epochs -/

/-- A global epoch in progress (Table 15-12): t0 in timebase clocks, the entries of its record, the pages bound to it, the operations
of the proposal it applies, the place of its record in the log, and whether tE has passed. -/
structure EpochRun where
  t0 : Nat
  entries : List (Nat × Nat)
  pages : List Nat
  ops : List (Nat × Nat × Nat)
  pos : Nat
  live : Bool
  deriving DecidableEq, Repr

/-- Global epochs (R445, R446): the open staging log, the pages whose COMMIT it holds, a request of VI 0 or of the double-key engine, a
request that is automatic or for a join, and the epoch in progress. -/
structure Epochs where
  log : List (Nat × Nat)
  pages : List Nat
  asked : Bool
  auto : Bool
  run : Option EpochRun
  deriving DecidableEq, Repr

def Epochs.init : Epochs := ⟨[], [], false, false, none⟩

/-! ## Fault reaction, self-test and warm join -/

/-- The ladder of a fault source (R430, R431): the count of its detections when the last rung was taken, whether that rung has
completed, and whether the source was acknowledged meanwhile. -/
structure Esc where
  seen : Nat
  complete : Bool
  acked : Bool
  deriving DecidableEq, Repr

def Esc.init : Esc := ⟨0, false, false⟩

/-- An in-service run of a BIST group (R441, R442), by the group's page: what it does (1 the joining unit is tested, 2 it takes the
carrier's state, 3 it shadow-runs, 4 the unit is tested, 5 deferred), the unit under test and the unit that takes its place, since
when it shadow-runs, in timebase clocks, and the global epoch at that time. -/
structure BistRun where
  phase : Nat
  unit : Nat
  spare : Nat
  since : Nat
  epoch : Nat
  deriving DecidableEq, Repr

/-- Self-test: runs by page, and expected signatures by page × 16 + unit, from the running image. -/
structure Bist where
  runs : SMap BistRun
  sigs : SMap Nat
  deriving DecidableEq, Repr

def Bist.init : Bist := ⟨SMap.empty, SMap.empty⟩

/-! ## Power and budget beside the ladder -/

/-- The budget scheduler (R411 to R417): when the level last changed; since when the restore conditions have held at every tick;
sensors above their target, and sensors that read invalid; rails that are invalid; by rail the activity estimate at its last
reading, in 10 mW, and the clock of that reading. By domain taken down on its own: the state it drains towards, or that it wakes
from, and when that began. Whether a thermal trip still refuses wakes. -/
structure Power where
  changed : Nat
  good : Option Nat
  hot : List Nat
  badSens : List Nat
  badRails : List Nat
  act : SMap Nat
  readAt : SMap Nat
  target : SMap Nat
  since : SMap Nat
  tripped : Bool
  /-- Domains that came back from Off and whose journaled configuration is still to be re-applied (R400). -/
  blank : List Nat
  deriving DecidableEq, Repr

def Power.init : Power := ⟨0, none, [], [], [], SMap.empty, SMap.empty, SMap.empty, SMap.empty, false, []⟩

/-! ## Start-up and update -/

/-- Nothing in an image. -/
def noItems : ImageItems := ⟨[], [], [], [], [], []⟩

/-- Update (R472 to R482): the flash; the block buffer by byte offset; IMAGE_LEN of the session's first block; block numbers written;
the block being written (offset and bytes); the step of Table 16-9 reached; units still to take the other image; what the running
image and the image on trial (or, in a reverse handover, the image returned to) hold; whether the hinge standby has failed; the OTP
security version. -/
structure Upd where
  flash : Flash
  buf : SMap Byte
  len : Option Nat
  blocks : List Nat
  writing : Option (Nat × List Byte)
  step : Nat
  units : List Nat
  items : ImageItems
  other : ImageItems
  hingeDown : Bool
  otp : Nat
  deriving DecidableEq, Repr

/-- A blank flash, and an OTP security version of 0 (assumption log 3). -/
def Upd.init : Upd := ⟨⟨[], [], [], []⟩, SMap.empty, none, [], none, 0, [], noItems, noItems, false, 0⟩

/-- Start-up (R458, R463): PORST_N is asserted, or a supply is low; the pair last active, in AON; the straps as sampled; keeper pairs
that failed their self-test; the clock at which the entropy source started (R469). -/
structure Boot where
  porst : Bool
  lastPair : Nat
  straps : Nat
  badPairs : List Nat
  entropyAt : Nat
  deriving DecidableEq, Repr

def Boot.init : Boot := ⟨false, 0, 0, [], 0⟩

/-! ## The state -/

/-- The state of the KL5120. -/
structure State where
  /-- The commands that wait, first in, first out. -/
  pending : List Instr
  /-- The page network, wall time, events, faults and timers. -/
  bus : Bus
  /-- The timebase. -/
  tim : TimState
  /-- The general timers, by number. -/
  gpt : SMap Gpt
  /-- Posted writes. -/
  page : PageState
  /-- The switch core. -/
  fab : Fab
  /-- Streams, groups, moves and the ring store. -/
  str : Streams
  /-- The pumps. -/
  pumps : Pumps
  /-- The value-frame engine and the endpoint table. -/
  val : Val
  /-- The journal. -/
  jrn : Journal
  /-- Light output. -/
  lit : Light
  /-- Composition. -/
  comp : Comp
  /-- Load channels. -/
  lds : Loads
  /-- Switch inputs. -/
  swi : Switches
  /-- Coil channels, by number. -/
  coils : SMap Coil
  /-- CAN controllers, by number. -/
  can : SMap Can
  /-- Zugrim cores: workers 0 to 95, keeper pairs 96 and 97. -/
  cores : SMap ZwCore
  /-- The double-key engine. -/
  dky : Dky
  /-- Identity and attestation. -/
  idn : Idn
  /-- Reader ports, by number. -/
  toks : SMap Tok
  /-- Global configuration epochs. -/
  epochs : Epochs
  /-- The ladders of fault sources. -/
  esc : SMap Esc
  /-- In-service self-test and warm joins. -/
  bist : Bist
  /-- Power domains on their own, and the budget scheduler. -/
  power : Power
  /-- Firmware update. -/
  upd : Upd
  /-- Start-up. -/
  boot : Boot
  /-- Console sections leaving Watch. -/
  watch : Watch
  /-- The device power ladder. -/
  ladder : Ladder
  deriving DecidableEq, Repr

/-- The machine right after reset, with no command waiting: every register at its reset value, every table empty. -/
def State.reset : State :=
  { pending := [],
    bus := Bus.init,
    tim := TimState.init,
    gpt := SMap.empty,
    page := PageState.init,
    fab := Fab.init,
    str := Streams.init,
    pumps := Pumps.init,
    val := Val.init,
    jrn := Journal.init,
    lit := Light.init,
    comp := Comp.init,
    lds := Loads.init,
    swi := Switches.init,
    coils := SMap.empty,
    can := SMap.empty,
    cores := SMap.empty,
    dky := Dky.init,
    idn := Idn.init,
    toks := SMap.empty,
    epochs := Epochs.init,
    esc := SMap.empty,
    bist := Bist.init,
    power := Power.init,
    upd := Upd.init,
    boot := Boot.init,
    watch := Watch.init,
    ladder := Ladder.init }

end Sys2Proof.Machine
end

