-- ==== Sys2Proof/Machine/Ops.lean ====
section
/-! DEFINITION. The named operations over the page network: time, registers, grants, event records, configuration errors and
fault detection. Every meaning is made of them. -/

namespace Sys2Proof.Machine

/-! ## Time (R49, R50) -/

/-- Timebase clocks in n microseconds, milliseconds, seconds; the timebase clock is 500 MHz (R49). -/
def clkUs (n : Nat) : Nat := n * 500
def clkMs (n : Nat) : Nat := n * 500000
def clkS (n : Nat) : Nat := n * 500000000

/-- The counter wraps after 2^48 seconds (R49). -/
def wallModulus : Nat := 2 ^ 48 * 1000000000 * 2 ^ 48

/-- `dt` timebase clocks pass: the counter advances by the addend at each (R49). -/
def Bus.tick (b : Bus) (dt : Nat) : Bus :=
  { b with now := b.now + dt, wall := (b.wall + dt * b.addend) % wallModulus }

/-- W in units of 250 ps, the resolution of a stamp (R50). -/
def Bus.w250 (b : Bus) : Nat := b.wall / 2 ^ 46

/-- The words of a wall-time stamp given in 250 ps units (Table 2-4). -/
def stampW0 (t : Nat) : Nat := t / 4 % 1000000000 + (t % 4) * 2 ^ 30
def stampW1 (t : Nat) : Nat := t / 4000000000 % 2 ^ 32
def stampW2 (t : Nat) : Nat := t / 4000000000 / 2 ^ 32 % 2 ^ 16

/-! ## Registers (R8) -/

/-- The active value of a register. -/
def Bus.rdW (b : Bus) (k : Nat) : Word := b.regs.find (resetWord k) k

/-- The active value of a register, as a number. -/
def Bus.rd (b : Bus) (k : Nat) : Nat := (b.rdW k).toNat

/-- Give a register a value; a value equal to reset is not listed (canonical form). -/
def Bus.wr (b : Bus) (k v : Nat) : Bus := { b with regs := b.regs.put (resetWord k) k (BitVec.ofNat 32 v) }

/-- The value an RWS register reads: the staged one where there is one (R8). -/
def Bus.rdShadow (b : Bus) (k : Nat) : Nat := (b.shadow.find (b.rdW k) k).toNat

/-- Stage a value of an RWS register. -/
def Bus.wrShadow (b : Bus) (k v : Nat) : Bus := { b with shadow := b.shadow.put (b.rdW k) k (BitVec.ofNat 32 v) }

/-- A field of a register. -/
def Bus.fld (b : Bus) (k lo w : Nat) : Nat := fieldOf lo w (b.rd k)

/-- A bit of a register. -/
def Bus.bit (b : Bus) (k i : Nat) : Bool := bitOf i (b.rd k)

/-- Set a field of a register. -/
def Bus.setFld (b : Bus) (k lo w v : Nat) : Bus := b.wr k (setFieldOf lo w v (b.rd k))

/-- Set or clear a bit of a register. -/
def Bus.setBit (b : Bus) (k i : Nat) (v : Bool) : Bus := b.wr k (setBitOf i v (b.rd k))

/-- A saturating counter register counts `n`. -/
def Bus.addSat (b : Bus) (k n : Nat) : Bus := b.wr k (satAdd 32 (b.rd k) n)

/-- A wrapping counter register counts `n`. -/
def Bus.addWrap (b : Bus) (k n : Nat) : Bus := b.wr k (b.rd k + n)

/-- A saturating counter held in a field counts one. -/
def Bus.incFldSat (b : Bus) (k lo w : Nat) : Bus := b.setFld k lo w (satInc w (b.fld k lo w))

/-- Hand something to the outside world. -/
def Bus.emit (b : Bus) (o : Out) : Bus := { b with out := o :: b.out }

/-- A free value: a word about which nothing is known (assumption log 4). -/
def Bus.fresh (b : Bus) : Word := Config.freeValue b.free

/-- Move on to the next free value. -/
def Bus.nextFree (b : Bus) : Bus := { b with free := b.free + 1 }

/-! ## Timers -/

/-- Start timer `t`, due in `clks` timebase clocks. -/
def Bus.arm (b : Bus) (t clks : Nat) : Bus := { b with timers := b.timers.set t (b.now + clks) }

/-- Stop timer `t`. -/
def Bus.disarm (b : Bus) (t : Nat) : Bus := { b with timers := b.timers.erase t }

/-- Whether timer `t` runs. -/
def Bus.running (b : Bus) (t : Nat) : Bool := (b.timers.find? t).isSome

/-- Whether timer `t` runs and its time has come. -/
def Bus.due (b : Bus) (t : Nat) : Bool :=
  match b.timers.find? t with
  | some at' => decide (at' ≤ b.now)
  | none => false

/-- The clocks left on timer `t`. -/
def Bus.left (b : Bus) (t : Nat) : Nat :=
  match b.timers.find? t with
  | some at' => at' - b.now
  | none => 0

/-- The identifier of timer `i` of a kind. -/
def timerId (kind i : Nat) : Nat := kind * 2 ^ 20 + i

/-! ## Grants and ownership (R90, R91) -/

/-- The block whose grants govern a block's entries: CAL follows VAL (R247). -/
def grantBlock (blk : Block) : Block := if blk = .cal then .val else blk

/-- The owner VI of a resource: the VI of the entry that owns it, or VI 0 (R90). -/
def Bus.ownerOf (b : Bus) (blk : Block) (i : Nat) : Nat :=
  match b.grants.cells.find? (fun p => decide (p.2.type = (grantBlock blk).row.type) && decide (p.2.access = 2)
      && decide (p.2.first ≤ i) && decide (i < p.2.first + p.2.count)) with
  | some p => p.2.vi
  | none => 0

/-- The owner VI of a page: of a page-granted block by the grant table, of a VI page its own VI, else VI 0. -/
def Bus.ownerOfPage (b : Bus) (page : Nat) : Nat :=
  match rowOfPage page with
  | some r =>
    match r.grant with
    | .page => b.ownerOf r.block (page - r.page)
    | .ownPage => page - r.page
    | _ => 0
  | none => 0

/-- Whether the grant table gives VI `vi` access `acc` to a resource. -/
def Bus.granted (b : Bus) (blk : Block) (i vi acc : Nat) : Bool :=
  b.grants.cells.any (fun p => decide (p.2.type = (grantBlock blk).row.type) && decide (p.2.access = acc)
    && decide (p.2.vi = vi) && decide (p.2.first ≤ i) && decide (i < p.2.first + p.2.count))

/-- RECOVERY of DEV PAGE_STATUS (R468, Table 16-3). -/
def Bus.recovery (b : Bus) : Bool := b.bit (rk 0 hdrPageStatus) 19

/-- Whether a VI sees a block at all, its grants apart: before step 7 of a start the DEV page alone (Table 16-5); in recovery VI 1
sees DEV, IDN and UPD alone (R468); an enrolment session sees DEV, DKY and IDN alone (R383). -/
def Bus.sees (b : Bus) (blk : Block) (vi : Nat) : Bool :=
  if vi = 0 then true
  else if b.recovery then decide (vi = 1) && (decide (blk = .dev) || decide (blk = .idn) || decide (blk = .upd))
  else if !b.grantsOn then decide (blk = .dev)
  else match b.sessions.find? vi with
    | some x => !x.enrol || decide (blk = .dev) || decide (blk = .dky) || decide (blk = .idn)
    | none => true

/-- The access of a VI to a resource: 0 none, 1 read, 2 owner (R90). VI 0 has the access of an owner everywhere. -/
def Bus.access (b : Bus) (blk : Block) (i vi : Nat) : Nat :=
  if vi = 0 then 2
  else if !b.sees blk vi then 0
  else if b.recovery && decide (blk = .upd) then 2
  else match blk.row.grant with
    | .ownPage => if i = vi then 2 else 0
    | .every => 1
    | .vi0 => 0
    | _ => if b.granted blk i vi 2 then 2 else if b.granted blk i vi 1 || decide (blk = .tim) then 1 else 0

/-- The access of a VI to a page of a page-granted or fixed block; on a page granted by entry, the access to any entry of it. -/
def Bus.pageAccess (b : Bus) (page vi : Nat) : Nat :=
  match rowOfPage page with
  | none => 0
  | some r =>
    match r.grant with
    | .entry per _ _ =>
      if vi = 0 then 2
      else if !b.sees r.block vi then 0
      else
        let hits := fun (acc : Nat) => b.grants.cells.any (fun p => decide (p.2.type = (grantBlock r.block).row.type)
          && decide (p.2.access = acc) && decide (p.2.vi = vi)
          && decide (p.2.first < (page - r.page + 1) * per) && decide ((page - r.page) * per < p.2.first + p.2.count))
        if hits 2 then 2 else if hits 1 then 1 else 0
    | _ => b.access r.block (page - r.page) vi

/-- The ranges of a block granted to a VI, owned or readable, in ascending physical order (R91). -/
def insertRange (x : Nat × Nat) : List (Nat × Nat) → List (Nat × Nat)
  | [] => [x]
  | y :: t => if x.1 ≤ y.1 then x :: y :: t else y :: insertRange x t

def Bus.ranges (b : Bus) (blk : Block) (vi : Nat) : List (Nat × Nat) :=
  (b.grants.cells.filter (fun p => decide (p.2.type = (grantBlock blk).row.type) && decide (p.2.vi = vi)
    && (decide (p.2.access = 1) || decide (p.2.access = 2)))).foldl
      (fun l p => insertRange (p.2.first, p.2.first + p.2.count) l) []

/-- How many granted resources lie below physical index `i`; `cur` is the index up to which resources were counted. -/
def countBelow : List (Nat × Nat) → Nat → Nat → Nat
  | [], _, _ => 0
  | (lo, hi) :: t, cur, i =>
    let a := max lo cur
    (min hi i - a) + countBelow t (max cur hi) i

/-- The physical index of local resource `j`, if the VI has that many (R91). -/
def nthOf : List (Nat × Nat) → Nat → Nat → Option Nat
  | [], _, _ => none
  | (lo, hi) :: t, cur, j =>
    let a := max lo cur
    if j < hi - a then some (a + j) else nthOf t (max cur hi) (j - (hi - a))

/-- The local number of a physical resource as a VI sees it; VI 0 sees physical numbering (R91). -/
def Bus.localOf (b : Bus) (blk : Block) (vi i : Nat) : Option Nat :=
  if vi = 0 then some i
  else match blk.row.grant with
    | .ownPage => if i = vi then some 0 else none
    | .every => some i
    | .vi0 => none
    | _ => if b.access blk i vi = 0 then none
           else if blk = .tim then some 0 else some (countBelow (b.ranges blk vi) 0 i)

/-- The physical resource behind a VI's local number (R91). -/
def Bus.physOf (b : Bus) (blk : Block) (vi j : Nat) : Option Nat :=
  if vi = 0 then (match blk.row.grant with
      | .entry per _ _ => if j < per * blk.row.pages then some j else none
      | _ => if j < blk.row.pages then some j else none)
  else match blk.row.grant with
    | .ownPage => if j = 0 then some vi else none
    | .every => if j < blk.row.pages then some j else none
    | .vi0 => none
    | _ => if blk = .tim then (if j = 0 then some 0 else none) else nthOf (b.ranges blk vi) 0 j

/-! ## Event records (R80 to R82, R97, R98, R359) -/

/-- The page of VI `v`, of the VIM and of the active keeper. -/
def viPage (v : Nat) : Nat := Block.vi.pg v
def vimPage : Nat := Block.vim.pg 0
def Bus.keeperPage (b : Bus) : Nat := Block.keeper.pg b.keeper

/-- The PAGE field and PHYS bit of a record sent to a VI (R81). `entry` is the entry that caused the event, on a page granted
by entry; without one, `page` is already the page as the VI sees it. -/
def Bus.recordPage (b : Bus) (vi page : Nat) (entry : Option Nat) : Nat × Nat :=
  match rowOfPage page with
  | none => (0, 1)
  | some r =>
    match r.grant, entry with
    | .entry per _ _, some e =>
      (match b.localOf r.block vi e with
       | some j => (j / per, 0)
       | none => (page - r.page, 1))
    | .entry _ _ _, none => (page - r.page, 0)
    | _, _ =>
      (match b.localOf r.block vi (page - r.page) with
       | some j => (j, 0)
       | none => (page - r.page, 1))

/-- The record of an event for a VI, under its next SEQ (Table 3-5). -/
def Bus.record (b : Bus) (vi page bit evn : Nat) (entry : Option Nat) : EvRec :=
  let pp := b.recordPage vi page entry
  let ty := match rowOfPage page with | some r => r.type | none => 0
  let t := b.w250
  ⟨BitVec.ofNat 32 (evn + bit % 32 * 2 ^ 9 + (if 320 ≤ evn then 2 ^ 14 else 0) + pp.2 * 2 ^ 15 + b.seq.find 0 vi % 65536 * 2 ^ 16),
   BitVec.ofNat 32 (pp.1 % 65536 + ty * 65536), BitVec.ofNat 32 (stampW1 t), BitVec.ofNat 32 (stampW0 t)⟩

/-- The VI's SEQ moves on, modulo 65,536 (R82). -/
def Bus.stepSeq (b : Bus) (vi : Nat) : Bus := { b with seq := b.seq.put 0 vi ((b.seq.find 0 vi + 1) % 65536) }

/-- Set event bit `i` of core `c` (R355). -/
def Bus.setEvt (b : Bus) (c i : Nat) : Bus :=
  { b with evt := b.evt.put 0 c (b.evt.find 0 c ||| BitVec.ofNat 32 (2 ^ i)) }

/-- The routes that name the event and the page set their bit of their worker's EVT (R358). An enabled route is found in its
ZWK_ROUTE register, held per route selected. -/
def Bus.fireRoutes (b : Bus) (page evn : Nat) : Bus :=
  (b.regs.cells.filter (fun p => decide (keyOff p.1 = R.ZWK_ROUTE) && decide (blockOfPage (keyPage p.1) = some Block.zwk)
      && bitOf 31 p.2.toNat && decide (fieldOf 0 9 p.2.toNat = evn) && decide (fieldOf 16 10 p.2.toNat = pageIndex page))).foldl
    (fun acc p => acc.setEvt (pageIndex (keyPage p.1)) (p.1 / 2 ^ 37 - 1)) b

/-- The key of a page's EVT_PEND, EVT_ENABLE or PAGE_STATUS bits for a VI: a page granted by entry holds them for each VI
that owns entries on it (R80, R75). -/
def evKey (page off who : Nat) : Nat := if entryGranted page then rkVi page off who else rk page off

/-- Write a record into the active keeper's queue, if it is not full; the flag says whether it was lost (R359). -/
def Bus.keeperStore (b : Bus) (r : EvRec) : Bus × Bool :=
  let p := b.keeperPage
  let tail := b.rd (rk p R.KPR_EVQ_TAIL)
  let head := b.rd (rk p R.KPR_EVQ_HEAD)
  if 1024 ≤ (tail + 2 ^ 32 - head) % 2 ^ 32 then
    (((b.addSat (rk p R.KPR_EVQ_LOST) 1).setBit (rk p R.KPR_STATUS) 4 true), true)
  else
    let a := fun i => (b.rd (rk p R.KPR_EVQ_BASE) + 4 * (tail % 1024) + i) % 131072
    let m := (((b.kdmem.put 0 (a 0) r.w0).put 0 (a 1) r.w1).put 0 (a 2) r.w2).put 0 (a 3) r.w3
    ((({ b with kdmem := m }).addWrap (rk p R.KPR_EVQ_TAIL) 1).setEvt (96 + b.keeper) 30, false)

/-- EV7 is raised: a VI's event queue overflowed; its record to VI 0 meets the keeper's queue under the same rule (R97, R359). -/
def Bus.raiseOverflow (b : Bus) : Bus :=
  if b.bit (rk vimPage hdrEvtPend) 3 then b
  else
    let b1 := (b.setBit (rk vimPage hdrEvtPend) 3 true).fireRoutes vimPage 7
    if b1.bit (rk vimPage hdrEvtEnable) 3 then
      ((b1.stepSeq 0).keeperStore (b1.record 0 vimPage 3 7 none)).1
    else b1

/-- VI 0's record goes to the active keeper (R359). -/
def Bus.toKeeper (b : Bus) (r : EvRec) : Bus :=
  let q := (b.stepSeq 0).keeperStore r
  if q.2 then q.1.raiseOverflow else q.1

/-- Whether a PCIe VI receives records: EVQ_EN is 1 and, for a VF, it is enabled in its SR-IOV capability (R98, R500). -/
def Bus.pcieReceives (b : Bus) (vi : Nat) : Bool :=
  b.bit (rk (viPage vi) R.VI_CTRL) 0 && (decide (vi = 1) || (b.vfEnable && decide (vi - 1 ≤ b.numVfs)))

/-- Write a record to the host queue of a PCIe VI, or lose it when the queue is full (R97); the flag says whether it was
written. -/
def Bus.hostStore (b : Bus) (vi : Nat) (r : EvRec) : Bus × Bool :=
  let p := viPage vi
  let tail := b.rd (rk p R.VI_EVQ_TAIL)
  let size := 2 ^ b.fld (rk p R.VI_EVQ_SIZE) 0 5
  if size ≤ (tail + 2 ^ 32 - b.rd (rk p R.VI_EVQ_HEAD)) % 2 ^ 32 then
    ((((b.addSat (rk p R.VI_EVQ_LOST) 1).setBit (rk p R.VI_STATUS) 3 true).raiseOverflow), false)
  else
    let a := b.rd (rk p R.VI_EVQ_BASE_HI) * 2 ^ 32 + b.rd (rk p R.VI_EVQ_BASE_LO) + tail % size * 16
    (((((b.emit (.hostWord a r.w0.toNat)).emit (.hostWord (a + 4) r.w1.toNat)).emit (.hostWord (a + 8) r.w2.toNat)).emit
      (.hostWord (a + 12) r.w3.toNat)).addWrap (rk p R.VI_EVQ_TAIL) 1, true)

/-- Send the MSI-X message of a VI's mapped vector, no earlier than VI_EVMOD after the last on that vector (Table 3-11). -/
def Bus.sendMsix (b : Bus) (vi vec : Nat) : Bus :=
  let p := viPage vi
  let v := b.rd (rk p R.VI_VEC_BASE) + vec
  let at' := match b.msixLast.find? v with
    | some l => max b.now (l + clkUs (b.fld (rk p R.VI_EVMOD) 0 10))
    | none => b.now
  { (b.emit (.msix v at')) with msixLast := b.msixLast.set v at' }

/-- The MSI-X message that follows a record, if the VI maps the event to a vector it has (R97); the flag says that the local
vector lies at or above VI_VEC_COUNT, which is a configuration error. -/
def Bus.msixFor (b : Bus) (vi evn : Nat) : Bus × Bool :=
  let m := b.rd (rkSel (viPage vi) R.VI_EVMAP_DATA evn)
  if bitOf 16 m then
    (if fieldOf 0 11 m < b.rd (rk (viPage vi) R.VI_VEC_COUNT) then (b.sendMsix vi (fieldOf 0 11 m), false) else (b, true))
  else (b, false)

/-- A configuration error on the VI page of a PCIe VI, met while one of its records was delivered (R97, R75): the EV5 record
goes the same way, and its own mapping can raise no second error because CFG_ERR is already 1. -/
def Bus.viVectorError (b : Bus) (vi : Nat) : Bus :=
  let k := rk (viPage vi) hdrPageStatus
  if b.bit k 2 then b
  else
    let b1 := b.setBit k 2 true
    let q := (b1.stepSeq vi).hostStore vi (b1.record vi (viPage vi) 1 5 none)
    if q.2 then (q.1.msixFor vi 5).1 else q.1

/-- Deliver a record to a PCIe VI (R97, R98). -/
def Bus.toHost (b : Bus) (vi evn : Nat) (r : EvRec) : Bus :=
  if b.pcieReceives vi then
    let q := (b.stepSeq vi).hostStore vi r
    if q.2 then
      let q2 := q.1.msixFor vi evn
      if q2.2 then q2.1.viVectorError vi else q2.1
    else q.1
  else b

/-- Deliver a record to a network VI: an EVENT message, or the queue of 64 held until a session exists (R88, R97). -/
def Bus.toNet (b : Bus) (vi : Nat) (r : EvRec) : Bus :=
  let b1 := b.stepSeq vi
  match b1.sessions.find? vi with
  | some _ => b1.emit (.netEvent vi r.w0.toNat r.w1.toNat r.w2.toNat r.w3.toNat)
  | none =>
    let q := b1.netHold.find [] vi
    if q.length < 64 then { b1 with netHold := b1.netHold.put [] vi (q ++ [r]) }
    else ((b1.addSat (rk (viPage vi) R.VI_EVQ_LOST) 1).setBit (rk (viPage vi) R.VI_STATUS) 3 true).raiseOverflow

/-- Deliver the record of an event to a VI (R97). -/
def Bus.deliver (b : Bus) (vi page bit evn : Nat) (entry : Option Nat) : Bus :=
  let r := b.record vi page bit evn entry
  if vi = 0 then b.toKeeper r else if vi ≤ 256 then b.toHost vi evn r else b.toNet vi r

/-- Deliver to each VI of a list, each once. -/
def Bus.deliverAll (b : Bus) (vis : List Nat) (page bit evn : Nat) (entry : Option Nat) : Bus :=
  vis.eraseDups.foldl (fun acc vi => acc.deliver vi page bit evn entry) b

/-- An occurrence of local event `bit` (R80): nothing while the bit is pending; else the bit becomes pending, routes to the
physical page `phys` fire (R358), and a record goes to `who`, and to the further recipients, if the bit is enabled. `page` is
the page on which `who` sees the bits. -/
def Bus.raiseAt (b : Bus) (page phys bit who : Nat) (extra : List Nat) (entry : Option Nat) : Bus :=
  let k := evKey page hdrEvtPend who
  if b.bit k bit then b
  else
    let evn := eventNumber page bit
    let b1 := (b.setBit k bit true).fireRoutes phys evn
    if b1.bit (evKey page hdrEvtEnable who) bit then b1.deliverAll (who :: extra) phys bit evn entry else b1

/-- An occurrence on a page for a given VI with further recipients. -/
def Bus.raiseFor (b : Bus) (page bit who : Nat) (extra : List Nat) : Bus := b.raiseAt page page bit who extra none

/-- An occurrence of a page's event, for the page's owner (R80). -/
def Bus.raise (b : Bus) (page bit : Nat) : Bus := b.raiseFor page bit (b.ownerOfPage page) []

/-- An occurrence with further recipients (Table 3-11). -/
def Bus.raiseAlso (b : Bus) (page bit : Nat) (extra : List Nat) : Bus := b.raiseFor page bit (b.ownerOfPage page) extra

/-- How many entries of a block stand on one page (R91). -/
def entriesPerPage (blk : Block) : Nat := match blk.row.grant with | .entry per _ _ => per | _ => 1

/-- The page of a block on which VI `vi` sees an entry: by its local numbering (R80, R91). -/
def Bus.entryPage (b : Bus) (blk : Block) (vi entry : Nat) : Nat :=
  blk.pg ((b.localOf blk vi entry).getD entry / entriesPerPage blk)

/-- An occurrence caused by an entry of a block granted by entry, for that entry's owner (R80). -/
def Bus.raiseEntry (b : Bus) (blk : Block) (bit entry : Nat) : Bus :=
  let o := b.ownerOf blk entry
  b.raiseAt (b.entryPage blk o entry) (blk.pg (entry / entriesPerPage blk)) bit o [] (some entry)

/-! ## Configuration errors and denied or late accesses (R75, R85, R92) -/

/-- A configuration error on a page, for the VI `who`: CFG_ERR is set, and EV5 goes to that VI each time it goes from 0 to 1
(R75). -/
def Bus.cfgErrFor (b : Bus) (page who : Nat) : Bus :=
  let k := evKey page hdrPageStatus who
  if b.bit k 2 then b else (b.setBit k 2 true).deliver who page 1 5 none

/-- A configuration error about an entry of a block granted by entry, told to the entry's owner (R75). -/
def Bus.cfgErrEntry (b : Bus) (blk : Block) (entry : Nat) : Bus :=
  let o := b.ownerOf blk entry
  b.cfgErrFor (b.entryPage blk o entry) o

/-- A configuration error on a page, told to its owner (R75). -/
def Bus.cfgErr (b : Bus) (page : Nat) : Bus := b.cfgErrFor page (b.ownerOfPage page)

/-- A denied write: dropped, counted in VIM_DENIED, EV6 to VI 0 (R92). -/
def Bus.denied (b : Bus) : Bus := (b.addSat (rk vimPage R.VIM_DENIED) 1).raise vimPage 2

/-- The state of a power domain: PWR_D_STATUS.STATE (Table 14-10). -/
def Bus.domState (b : Bus) (d : Nat) : Nat := b.fld (rk (Block.pwrD.pg d) R.PWR_D_STATUS) 0 4

/-- Whether a power domain accepts accesses: in Run or Idle, and not halted (R85, Table 3-6). -/
def Bus.domUp (b : Bus) (d : Nat) : Bool := decide (b.domState d ≤ 1) && !b.halted.contains d

/-- Whether a power domain works: in Run, and not halted (R403, R405, Table 14-2). -/
def Bus.domRuns (b : Bus) (d : Nat) : Bool := decide (b.domState d = 0) && !b.halted.contains d

/-- The console section of a page, if its block has one (Table 14-4). -/
def sectionOf (page : Nat) : Option Nat :=
  match rowOfPage page with
  | some r => (match r.block with
    | .can => some (page - r.page) | .swi => some 16 | .tok => some (17 + (page - r.page)) | .coi => some 25 | _ => none)
  | none => none

/-- Whether a console section is in Watch (R408). -/
def Bus.inWatch (b : Bus) (sec : Nat) : Bool := b.bit (rk (Block.pwr.pg 0) R.PWR_WATCH_STATE) sec

/-- Whether a page accepts accesses; the CNV and WIN pages do while either composition die is up (R499), the PWR and PWR_D pages also
in Sleep (Table 14-2). -/
def Bus.pageUp (b : Bus) (page : Nat) : Bool :=
  match blockOfPage page with
  | some .cnv => b.domUp 19 || b.domUp 20
  | some .win => b.domUp 19 || b.domUp 20
  | some .pwr => b.domUp 2 || decide (b.domState 2 = 2)
  | some .pwrD => b.domUp 2 || decide (b.domState 2 = 2)
  | _ => b.domUp (pwrDomain page) && !(match sectionOf page with | some sec => b.inWatch sec | none => false)

/-- A late access: counted, EV36 to VI 0 and to the accessing VI (R85). -/
def Bus.late (b : Bus) (vi : Nat) : Bus :=
  (b.addSat (rk (Block.pwr.pg 0) R.PWR_CNT_LATE) 1).raiseAlso (Block.pwr.pg 0) 0 [0, vi]

/-- What becomes of a write by a VI to a page: ignored where the page is absent, late where the domain is not up, denied with
read access alone, else `f` (R85, R91, R92). -/
def Bus.guardWrite (b : Bus) (vi page : Nat) (f : Bus → Bus) : Bus :=
  if b.pageAccess page vi = 0 then b
  else if !b.pageUp page then b.late vi
  else if b.pageAccess page vi = 1 then b.denied
  else f b

/-! ## Fault detection (R424 to R432) -/

/-- The class of each fault source: 0 correctable, 1 degrade, 2 contain, 3 halt-domain (R423 and the tables it names). -/
def fsClass (fs : Nat) : Nat :=
  if [0, 7, 13, 14, 17, 33, 34, 41, 44, 47, 48, 50, 51, 57, 58, 64, 72, 76, 77, 82, 83, 88, 98, 101, 107].contains fs then 0
  else if [3, 4, 6, 8, 11, 12, 32, 40, 61, 80, 85, 91, 105, 112, 114, 115, 116].contains fs then 1
  else if [5, 9, 15, 39, 43, 62, 100, 102, 117].contains fs then 3
  else 2

/-- The sources of Table 15-1; every other number is reserved (R422). -/
def fsKnown (fs : Nat) : Bool :=
  [(0, 18), (32, 35), (39, 53), (56, 62), (64, 66), (72, 77), (80, 85), (88, 91), (96, 102), (104, 107), (112, 117)].any
    (fun p => decide (p.1 ≤ fs) && decide (fs ≤ p.2))

/-- The sources whose grace is fixed at 0 and whose first rung is the spare (Table 15-7). -/
def fsFixed (fs : Nat) : Bool := [40, 56, 99, 100, 102].contains fs

/-- The page of a fault source, and the key of one of its registers for the selected source (R455). -/
def fsPage (fs : Nat) : Nat := Block.fltSrc.pg (fs / 16)
def fsKey (fs off : Nat) : Nat := rkSel (fsPage fs) off (fs % 16)

/-- GRACE in 10 µs units, ESC_MAX and CORR_THR of a source (R429, Table 15-2). -/
def Bus.fsGrace (b : Bus) (fs : Nat) : Nat :=
  if fsFixed fs then 0
  else if b.bit (fsKey fs R.FLT_SRC_CFG) 0 then b.fld (fsKey fs R.FLT_SRC_CFG) 1 11
  else match fsClass fs with | 1 => 1000 | 2 => 100 | _ => 0

def Bus.fsEscMax (b : Bus) (fs : Nat) : Nat :=
  if fsFixed fs then 2
  else if b.bit (fsKey fs R.FLT_SRC_CFG) 0 then b.fld (fsKey fs R.FLT_SRC_CFG) 12 3
  else match fsClass fs with | 2 => 1 | 3 => 4 | _ => 0

def Bus.fsCorrThr (b : Bus) (fs : Nat) : Nat :=
  if b.bit (fsKey fs R.FLT_SRC_CFG) 0 then b.fld (fsKey fs R.FLT_SRC_CFG) 25 7 else 16

/-- The owner of a source: OWNER_VI, or the owner of the unit's page when OWNER_VI is 0 (R429). -/
def Bus.fsOwner (b : Bus) (fs unitPage : Nat) : Nat :=
  let o := b.fld (fsKey fs R.FLT_SRC_CFG) 15 10
  if o = 0 then b.ownerOfPage unitPage else o

/-- The lowest record number not in use, if any (R427, R428). -/
def freeRec (m : SMap FaultRec) : Nat → Nat → Option Nat
  | 0, _ => none
  | n + 1, i => if (m.find? i).isSome then freeRec m n (i + 1) else some i

/-- The timers of a fault source: its grace, and the 1 ms after a rung (R430). -/
def tGrace (fs : Nat) : Nat := timerId 1 fs
def tRung (fs : Nat) : Nat := timerId 2 fs

/-- What a detection says of itself (Table 15-3): the unit's page, the kind of access, its address, the VI and the engine. -/
structure FaultAt where
  page : Nat
  access : Nat := 0
  addr : Nat := 0
  vi : Option Nat := none
  engine : Nat := 0
  kind : Nat := 0
  deriving DecidableEq, Repr

/-- Capture a first-error record, or count the repeat, or the fault without a record (R427). -/
def Bus.capture (b : Bus) (fs : Nat) (u : FaultAt) : Bus :=
  let held := b.rd (rk u.page hdrFaultFirst)
  if held ≠ 0 then
    (match b.recs.find? held with
     | some r => { b with recs := b.recs.set held { r with d1 := setFieldOf 24 8 (satInc 8 (fieldOf 24 8 r.d1)) r.d1 } }
     | none => b)
  else match freeRec b.recs 255 1 with
    | none => (b.setBit (rk (Block.flt.pg 0) R.FLT_STATUS) 4 true).incFldSat (rk (Block.flt.pg 0) R.FLT_REC_USED) 16 16
    | some i =>
      let ty := match rowOfPage u.page with | some r => r.type | none => 0
      let r : FaultRec := ⟨fs + ty * 65536, pageIndex u.page + u.access * 65536, u.addr,
        (match u.vi with | some v => v + 1024 | none => 0) + u.engine % 256 * 65536 + u.kind * 2 ^ 24,
        stampW0 b.w250, stampW1 b.w250, stampW2 b.w250⟩
      let b1 := ({ b with recs := b.recs.set i r }).wr (rk u.page hdrFaultFirst) i
      let b2 := if b1.rd (rk (fsPage fs) hdrFaultFirst) = 0 then b1.wr (rk (fsPage fs) hdrFaultFirst) i else b1
      b2.setFld (rk (Block.flt.pg 0) R.FLT_REC_USED) 0 8 (b2.fld (rk (Block.flt.pg 0) R.FLT_REC_USED) 0 8 + 1)

/-- Grace starts for a source that is not correctable, unless the source is already in GRACE or LADDER (R424, R432); the unit of this
detection is the one that the reaction is about. -/
def Bus.startGrace (b : Bus) (fs page addr : Nat) : Bus :=
  let k := fsKey fs R.FLT_SRC_STATUS
  if fsClass fs = 0 ∨ b.fld k 2 2 ≠ 0 then b
  else
    let b1 := { b with units := b.units.set fs (page, addr) }
    (b1.setFld k 2 2 1).arm (tGrace fs) (clkUs (10 * b.fsGrace fs))

/-- A detection of a correctable source is kept for its 1 s window (R425). -/
def Bus.noteCorr (b : Bus) (fs : Nat) : Bus :=
  if fsClass fs = 0 then
    { b with corr := b.corr.set fs (b.now :: (b.corr.find [] fs).filter (fun t => decide (b.now ≤ t + clkS 1))) }
  else b

/-- A detection of a fault source (R424): counted, recorded, its event raised to VI 0 and the source's owner, grace started. A
reserved source is never detected (R422). -/
def Bus.fault (b : Bus) (fs : Nat) (u : FaultAt) : Bus :=
  if fsKnown fs then
    let b0 := (b.addSat (fsKey fs R.FLT_SRC_CNT) 1).noteCorr fs
    let b1 := (b0.setBit (fsKey fs R.FLT_SRC_STATUS) 10 (decide (fsClass fs ≠ 0))).capture fs u
    let b2 := b1.raiseFor (fsPage fs) (fs % 16) 0 [b1.fsOwner fs u.page]
    b2.startGrace fs u.page u.addr
  else b

/-- Halt power domains: their work stops until rung 4 has reset them, and posted writes to them are dropped (R85). -/
def Bus.haltDoms (b : Bus) (ds : List Nat) : Bus := { b with halted := (ds ++ b.halted).eraseDups }

/-! ## Claims (R95, R96) -/

/-- The function code by which a page's block claims a resource (assumption log 6). -/
def fnCode (page : Nat) : Nat := page + 1

/-- The key of PIN_CLAIM and PIN_LOCK of a claim slot. -/
def claimKey (slot : Nat) : Nat := rkSel (Block.pin.pg 0) R.PIN_CLAIM slot
def lockKey (slot : Nat) : Nat := rkSel (Block.pin.pg 0) R.PIN_LOCK slot

/-- Whether a function may take a slot: free or already its own, and not locked to another (R95, R96). -/
def Bus.mayClaim (b : Bus) (slot fn : Nat) : Bool :=
  (decide (b.fld (claimKey slot) 0 16 = 0) || decide (b.fld (claimKey slot) 0 16 = fn))
    && (decide (b.fld (lockKey slot) 0 16 = 0) || decide (b.fld (lockKey slot) 0 16 = fn))

/-- A function takes a slot it may take; else the conflict is counted and EV80 goes to VI 0 and to the owner of the refused
function (R95). -/
def Bus.claim (b : Bus) (page slot : Nat) : Bus :=
  if b.mayClaim slot (fnCode page) then b.setFld (claimKey slot) 0 16 (fnCode page)
  else (b.incFldSat (claimKey slot) 24 8).raiseAlso (Block.pin.pg 0) 0 [b.ownerOfPage page]

/-- A function releases every slot it holds (R95). -/
def Bus.releaseClaims (b : Bus) (page : Nat) : Bus :=
  (b.regs.cells.filter (fun p => decide (keyAddr p.1 = rk (Block.pin.pg 0) R.PIN_CLAIM)
      && decide (fieldOf 0 16 p.2.toNat = fnCode page))).foldl (fun acc p => acc.setFld p.1 0 16 0) b

/-! ## The same operations on the whole state -/

/-- The outcome of a meaning. -/
abbrev Res := Host.Outcome State Fault Refusal

/-- Act on the page network. -/
def State.on (s : State) (f : Bus → Bus) : State := { s with bus := f s.bus }

/-- `dt` timebase clocks pass. -/
def State.tick (s : State) (dt : Nat) : State := s.on (·.tick dt)

def State.rd (s : State) (k : Nat) : Nat := s.bus.rd k
def State.fld (s : State) (k lo w : Nat) : Nat := s.bus.fld k lo w
def State.bit (s : State) (k i : Nat) : Bool := s.bus.bit k i
def State.wr (s : State) (k v : Nat) : State := s.on (·.wr k v)
def State.setFld (s : State) (k lo w v : Nat) : State := s.on (·.setFld k lo w v)
def State.setBit (s : State) (k i : Nat) (v : Bool) : State := s.on (·.setBit k i v)
def State.addSat (s : State) (k n : Nat) : State := s.on (·.addSat k n)
def State.addWrap (s : State) (k n : Nat) : State := s.on (·.addWrap k n)
def State.raise (s : State) (page bit : Nat) : State := s.on (·.raise page bit)
def State.raiseAlso (s : State) (page bit : Nat) (extra : List Nat) : State := s.on (·.raiseAlso page bit extra)
def State.raiseEntry (s : State) (blk : Block) (bit entry : Nat) : State := s.on (·.raiseEntry blk bit entry)
def State.cfgErrEntry (s : State) (blk : Block) (entry : Nat) : State := s.on (·.cfgErrEntry blk entry)
def State.cfgErr (s : State) (page : Nat) : State := s.on (·.cfgErr page)
def State.fault (s : State) (fs : Nat) (u : FaultAt) : State := s.on (·.fault fs u)
def State.arm (s : State) (t clks : Nat) : State := s.on (·.arm t clks)
def State.disarm (s : State) (t : Nat) : State := s.on (·.disarm t)
def State.due (s : State) (t : Nat) : Bool := s.bus.due t
def State.emit (s : State) (o : Out) : State := s.on (·.emit o)

/-- `f` if the condition holds, else nothing. -/
def State.ifThen (s : State) (c : Bool) (f : State → State) : State := if c then f s else s

/-- An expiry: if timer `t` is due it stops and `f` follows; a timer that is not due expires with no effect (assumption
log 2). -/
def State.onExpiry (s : State) (t : Nat) (f : State → State) : State := if s.due t then f (s.disarm t) else s

/-- What becomes of a write by a VI to a page (R85, R91, R92), over the whole state. -/
def State.guardWrite (s : State) (vi page : Nat) (f : State → State) : State :=
  if s.bus.pageAccess page vi = 0 then s
  else if !s.bus.pageUp page then s.on (·.late vi)
  else if s.bus.pageAccess page vi = 1 then s.on (·.denied)
  else f s

/-- What becomes of a write by a VI to an entry of a block granted by entry (R85, R91, R92). -/
def State.guardEntry (s : State) (vi : Nat) (blk : Block) (page entry : Nat) (f : State → State) : State :=
  if s.bus.access blk entry vi = 0 then s
  else if !s.bus.pageUp page then s.on (·.late vi)
  else if s.bus.access blk entry vi = 1 then s.on (·.denied)
  else f s

/-- A read by a VI that changes state: the value is returned to every VI with access, and `f` follows for the owner alone (R85,
R92). -/
def State.readBy (s : State) (vi page value : Nat) (f : State → State) : State :=
  if s.bus.pageAccess page vi = 0 then s.emit (.readData vi 0)
  else if !s.bus.pageUp page then (s.on (·.late vi)).emit (.readData vi 0xFFFFFFFF)
  else
    let s1 := s.emit (.readData vi value)
    if s.bus.pageAccess page vi = 1 then s1 else f s1

end Sys2Proof.Machine
end

