-- ==== Sys2Proof/Machine/Fresh.lean ====
section
/-! DEFINITION. The freshness contract (R10 to R41): capture times, deadline codes, the time error bound and the stale test. -/

namespace Sys2Proof.Machine

/-- The pages of the timebase and of the general timers. -/
def timPage : Nat := Block.tim.pg 0
def gptPage (n : Nat) : Nat := Block.gpt.pg n
def timKey (off : Nat) : Nat := rk timPage off

/-- TIM_STATE: 0 STARTING, 1 LOCKED, 2 HOLDOVER, 3 FREERUN (Table 1-6). -/
def State.timState (s : State) : Nat := s.fld (timKey R.TIM_STATE) 0 2

/-- A capture time in 250 ps units; `none` is "age unknown" (R16). -/
abbrev CapTime := Option Nat

/-- The stamp of an arrival: its W, or age unknown while the timebase is STARTING (R16). -/
def State.arrival (s : State) : CapTime := if s.timState = 0 then none else some s.bus.w250

/-- Tc = min(Tm, Ta) (R11); a Ta stamped in STARTING makes the capture time age unknown (R16). -/
def capMin (tm : Nat) (ta : CapTime) : CapTime := ta.map (fun a => min tm a)

/-- The instant of an RTP timestamp nearest to `ta` among those that share its value modulo 2^32 ticks of 90 kHz; the
earlier of two equally near ones (R13). `ta` and the result are in 250 ps units; one tick is 4,000,000,000 / 90,000 of them. -/
def rtpResolve (rtp ta : Nat) : Nat :=
  -- Work in units of 1/90,000 of a 250 ps unit, so that a tick is exactly 4,000,000,000.
  let tick := 4000000000
  let span := 2 ^ 32 * tick
  let t := ta * 90000
  let k := t / span
  let cands := [(k - 1) * span + rtp * tick, k * span + rtp * tick, (k + 1) * span + rtp * tick]
  let dist := fun c => if c ≤ t then t - c else c - t
  let best := cands.foldl (fun acc c => if dist c < dist acc then c else acc) ((k - 1) * span + rtp * tick)
  best / 90000

/-- Whether an endpoint's record with capture time `new` replaces one with `old` (R15, R16). -/
def tcReplaces (new old : CapTime) : Bool :=
  match new, old with
  | none, none => true
  | none, some _ => false
  | some _, none => true
  | some n, some o => decide (o ≤ n)

/-- The time a deadline code denotes, in ns (R17). -/
def deadlineNs (code : Nat) : Nat :=
  fieldOf 0 14 code * (match fieldOf 14 2 code with | 0 => 1000 | 1 => 100000 | 2 => 10000000 | _ => 1000000000)

/-- The deadline of a window: untimed at 0xFFFF (Table 1-4). -/
def windowDeadline (code : Nat) : Option Nat := if code = 0xFFFF then none else some (deadlineNs code)

/-- The deadline an endpoint inherits: 0x0000 and 0xFFFF give 0 s (Table 1-4). -/
def inheritDeadline (inherit : Nat) : Nat := if inherit = 0xFFFF then 0 else deadlineNs inherit

/-- The deadline of an endpoint: 0x0000 inherits, 0xFFFF is untimed (Table 1-4). -/
def endpointDeadline (code inherit : Nat) : Option Nat :=
  if code = 0xFFFF then none else if code = 0 then some (inheritDeadline inherit) else some (deadlineNs code)

/-- The deadline of a stream-table entry: none where stale-first discard is off (Table 1-4). -/
def streamDeadline (code : Nat) : Option Nat := if code = 0 ∨ code = 0xFFFF then none else some (deadlineNs code)

/-- Emeas without its 1 ns, in 250 ps units: the largest magnitude of the history in LOCKED, frozen elsewhere (R19). -/
def State.emeas250 (s : State) : Nat := if s.timState = 1 then s.tim.hist.foldl max 0 else s.tim.frozen

/-- E in ns, rounded up, at the instant W = `w` (250 ps units), if the timebase state does not change before (R19, R23);
`none` is unbounded (R21). The sum is formed in units of 1/(4 × 10^10) ns, in which every term is whole. -/
def State.tebAt (s : State) (w : Nat) : Option Nat :=
  if s.timState = 0 ∨ s.timState = 3 then none
  else
    let hold := if s.timState = 2 then s.rd (timKey R.TIM_HOLD_STAB) * (w - s.tim.holdStart) else 0
    let est := if w ≤ s.tim.estepEnd then s.tim.estep else 0
    let sum := s.rd (timKey R.TIM_REF_UNC) * 40000000000 + s.emeas250 * 10000000000 + 40000000000 + hold + est * 10000000000
    let e := ceilDiv sum 40000000000
    if e < 0xFFFFFFFF then some e else none

/-- E now. -/
def State.teb (s : State) : Option Nat := s.tebAt s.bus.w250

/-- The stale test of R24 at the measurement point W = `tm` (250 ps units), with the allowances in ns; a deadline of `none` is
untimed. Content of unknown age is stale (R16). -/
def State.stale (s : State) (tm : Nat) (tc : CapTime) (deadline : Option Nat) (allow : Nat) : Bool :=
  match deadline with
  | none => false
  | some d =>
    match s.tebAt tm, tc with
    | none, _ => true
    | _, none => true
    | some e, some c => decide (d < (tm - c) / 4 + e + allow)

/-- Three stamp words of a capture time; age unknown reads as 0 (assumption log 7). -/
def tcWord (i : Nat) (tc : CapTime) : Nat :=
  match tc with
  | none => 0
  | some t => if i = 0 then stampW0 t else if i = 1 then stampW1 t else stampW2 t

end Sys2Proof.Machine
end

