-- ==== Sys2Proof/Machine/Frames.lean ====
section
/-! DEFINITION. Reading frames: tags, IP and UDP headers, RTP, and the frames the device writes itself (R103 to R110, R119). -/

namespace Sys2Proof.Machine

/-- `n` bytes from `off`, big-endian. Bytes past the end read as nothing. -/
def beAt (l : List Byte) (off n : Nat) : Nat := ((l.drop off).take n).foldl (fun a b => a * 256 + b.toNat) 0

/-- A number as `n` bytes, big-endian. -/
def beBytes : Nat → Nat → List Byte
  | 0, _ => []
  | n + 1, v => BitVec.ofNat 8 (v / 256 ^ n) :: beBytes n v

/-- A number as `n` bytes, little-endian. -/
def leBytes : Nat → Nat → List Byte
  | 0, _ => []
  | n + 1, v => BitVec.ofNat 8 v :: leBytes n (v / 256)

/-- The value of bytes read little-endian. -/
def leVal : List Byte → Nat
  | [] => 0
  | b :: t => b.toNat + 256 * leVal t

/-- The one's-complement sum of a list read as 16-bit words, reduced modulo 65,535: 0 where a checksum is right. -/
def ones16 : List Byte → Nat
  | [] => 0
  | [a] => a.toNat * 256 % 65535
  | a :: b :: t => (a.toNat * 256 + b.toNat + ones16 t) % 65535

/-- The length of a frame, its FCS included (R103). -/
def frameLen (l : List Byte) : Nat := l.length + 4

/-- The cells a frame of `len` bytes occupies (R129). -/
def cellsOf (len : Nat) : Nat := ceilDiv len 256

/-- What the parser reads from a frame's head (R109): at most two tags, the outermost one's fields, the EtherType after them
and where what follows it begins. -/
structure Parsed where
  dst : Nat
  src : Nat
  tagged : Bool
  vid : Nat
  pcp : Nat
  dei : Bool
  etype : Nat
  l3 : Nat
  deriving DecidableEq, Repr

/-- Both 0x88A8 and 0x8100 are tags (R109). -/
def isTag (t : Nat) : Bool := decide (t = 0x88A8) || decide (t = 0x8100)

/-- Parse a frame's head. -/
def parseFrame (l : List Byte) : Parsed :=
  let t0 := beAt l 12 2
  let tci := beAt l 14 2
  let t1 := beAt l 16 2
  if isTag t0 then
    (if isTag t1 then ⟨beAt l 0 6, beAt l 6 6, true, tci % 4096, tci / 8192, bitOf 12 tci, beAt l 20 2, 22⟩
     else ⟨beAt l 0 6, beAt l 6 6, true, tci % 4096, tci / 8192, bitOf 12 tci, t1, 18⟩)
  else ⟨beAt l 0 6, beAt l 6 6, false, 0, 0, false, t0, 14⟩

/-- The UDP key of a datagram (R110), where its UDP header begins, and whether its UDP checksum is right. -/
structure UdpKey where
  v6 : Bool
  src : Nat
  dst : Nat
  port : Nat
  udp : Nat
  sumOk : Bool
  deriving DecidableEq, Repr

/-- Whether the UDP checksum passes: over the pseudo-header and the datagram; an IPv4 checksum of 0 passes and an IPv6 one
fails (R110). -/
def udpSumOk (l : List Byte) (v6 : Bool) (addrs : List Byte) (udp : Nat) : Bool :=
  let len := beAt l (udp + 4) 2
  if beAt l (udp + 6) 2 = 0 then !v6
  else decide ((ones16 addrs + ones16 (beBytes 2 17 ++ beBytes 2 len) + ones16 ((l.drop udp).take len)) % 65535 = 0)

/-- Walk the extension headers of an IPv6 datagram from `off`, where `left` bytes of them may still come; the offset of the UDP
header, if one is reached (R110). -/
def v6Udp (l : List Byte) : Nat → Nat → Nat → Nat → Option Nat
  | 0, _, _, _ => none
  | fuel + 1, nh, off, left =>
    if nh = 17 then some off
    else if nh = 0 ∨ nh = 43 ∨ nh = 60 then
      let sz := (beAt l (off + 1) 1 + 1) * 8
      if sz ≤ left then v6Udp l fuel (beAt l off 1) (off + sz) (left - sz) else none
    else none

/-- The UDP key of a frame, if it yields one (R110). -/
def udpKey (l : List Byte) : Option UdpKey :=
  let p := parseFrame l
  if p.etype = 0x0800 then
    let ihl := beAt l p.l3 1 % 16
    if beAt l p.l3 1 / 16 = 4 ∧ 5 ≤ ihl ∧ ones16 ((l.drop p.l3).take (4 * ihl)) = 0 ∧ beAt l (p.l3 + 6) 2 % 0x4000 = 0
        ∧ beAt l (p.l3 + 9) 1 = 17 ∧ p.l3 + 4 * ihl + 8 ≤ l.length then
      let u := p.l3 + 4 * ihl
      some ⟨false, beAt l (p.l3 + 12) 4, beAt l (p.l3 + 16) 4, beAt l (u + 2) 2, u,
        udpSumOk l false ((l.drop (p.l3 + 12)).take 8) u⟩
    else none
  else if p.etype = 0x86DD then
    match v6Udp l 9 (beAt l (p.l3 + 6) 1) (p.l3 + 40) 64 with
    | some u =>
      if u + 8 ≤ l.length then
        some ⟨true, beAt l (p.l3 + 8) 16, beAt l (p.l3 + 24) 16, beAt l (u + 2) 2, u,
          udpSumOk l true ((l.drop (p.l3 + 8)).take 32) u⟩
      else none
    | none => none
  else none

/-- The payload of a UDP datagram whose header begins at `u`. -/
def udpPayload (l : List Byte) (u : Nat) : List Byte := (l.drop (u + 8)).take (beAt l (u + 4) 2 - 8)

/-- The RTP header at the start of a UDP payload (R118, R119): payload type, marker, sequence number, timestamp, and where the
payload proper begins. -/
structure Rtp where
  pt : Nat
  marker : Bool
  seq : Nat
  ts : Nat
  body : Nat
  deriving DecidableEq, Repr

/-- Read an RTP header. -/
def rtpOf (pl : List Byte) : Rtp :=
  let b0 := beAt pl 0 1
  let cc := b0 % 16
  let ext := if bitOf 4 b0 then 4 + 4 * beAt pl (12 + 4 * cc + 2) 2 else 0
  ⟨beAt pl 1 1 % 128, bitOf 7 (beAt pl 1 1), beAt pl 2 2, beAt pl 4 4, 12 + 4 * cc + ext⟩

/-- Whether a frame is IGMP, or MLD: ICMPv6 of type 130, 131, 132 or 143, with or without a Hop-by-Hop header (Table 4-3,
step 7). -/
def isSnooped (l : List Byte) : Bool :=
  let p := parseFrame l
  if p.etype = 0x0800 then decide (beAt l (p.l3 + 9) 1 = 2)
  else if p.etype = 0x86DD then
    let nh := beAt l (p.l3 + 6) 1
    let at' := if nh = 0 then p.l3 + 40 + (beAt l (p.l3 + 41) 1 + 1) * 8 else p.l3 + 40
    let nh' := if nh = 0 then beAt l (p.l3 + 40) 1 else nh
    decide (nh' = 58) && [130, 131, 132, 143].contains (beAt l at' 1)
  else false

/-- Whether a frame is a PTP message over UDP port 319 or 320 of the given domain (Table 4-3, step 6). -/
def isPtp (l : List Byte) (domain : Nat) : Bool :=
  match udpKey l with
  | some u => (decide (u.port = 319) || decide (u.port = 320)) && decide (beAt l (u.udp + 8 + 4) 1 = domain)
  | none => false

/-- A frame without its outermost tag. -/
def untagFrame (l : List Byte) : List Byte := l.take 12 ++ l.drop 16

/-- A frame with an outermost tag for a VLAN (R109): an untagged frame gains one, a priority tag takes the VLAN. -/
def tagFrame (l : List Byte) (vlan pcp : Nat) : List Byte :=
  let p := parseFrame l
  if p.tagged then
    (if p.vid = 0 then l.take 14 ++ beBytes 2 (beAt l 14 2 / 4096 * 4096 + vlan % 4096) ++ l.drop 16 else l)
  else l.take 12 ++ beBytes 2 0x8100 ++ beBytes 2 (pcp % 8 * 8192 + vlan % 4096) ++ l.drop 12

/-- The frame as a port sends it: TAG_MODE 1 removes the tag of frames in the port's PVID (R109). -/
def egressFrame (l : List Byte) (vlan pcp pvid : Nat) (tagMode : Bool) : List Byte :=
  if tagMode && decide (vlan = pvid) then (if (parseFrame l).tagged then untagFrame l else l) else tagFrame l vlan pcp

/-- Pad a frame with zero bytes to 60 bytes (R171). -/
def padFrame (l : List Byte) : List Byte := l ++ List.replicate (60 - l.length) 0

/-- An IEEE 802.1Qbb frame that names the classes of `mask` with one quanta value (R105). -/
def pfcFrame (mac mask quanta : Nat) : List Byte :=
  padFrame (beBytes 6 0x0180C2000001 ++ beBytes 6 mac ++ beBytes 2 0x8808 ++ beBytes 2 0x0101 ++ beBytes 2 mask
    ++ (List.range 8).flatMap (fun i => beBytes 2 (if bitOf i mask then quanta else 0)))

end Sys2Proof.Machine
end

