-- ==== Sys2Proof/Machine/Journal.lean ====
section
/-! DEFINITION. The journal in MRAM (R444 to R450): records, their words, and room in the log. -/

namespace Sys2Proof.Machine

def fltPage : Nat := Block.flt.pg 0
def fltKey (off : Nat) : Nat := rk fltPage off

/-- The key of a journaled field: its physical byte address and its selector value (R449). -/
def jkey (addr sel : Nat) : Nat := addr + sel * 2 ^ 26
def jAddr (k : Nat) : Nat := k % 2 ^ 26
def jSel (k : Nat) : Nat := k / 2 ^ 26

/-- Words of the log region (Table 15-11). -/
def logWords : Nat := 65536

/-- LEN of a record with `n` entries (Table 15-13). -/
def recLen (n : Nat) : Nat := 9 + 3 * n
def JRec.len (r : JRec) : Nat := recLen r.entries.length

/-- One byte through the CRC-32 of IEEE 802.3, bit by bit. -/
def crcBits : Nat → BitVec 32 → BitVec 32
  | 0, c => c
  | n + 1, c => crcBits n (if c.getLsbD 0 then (c >>> 1) ^^^ 0xEDB88320#32 else c >>> 1)
def crc32 (l : List Byte) : Nat :=
  ((l.foldl (fun (c : BitVec 32) b => crcBits 8 (c ^^^ b.setWidth 32)) 0xFFFFFFFF#32) ^^^ 0xFFFFFFFF#32).toNat

/-- The words of a record, COMMIT last (Table 15-13). FORMAT is 0: the settings format of the running image (assumption log 15). -/
def JRec.words (r : JRec) : List Nat :=
  let head := [0x4A4B + r.kind * 2 ^ 16, r.len, r.epoch % 2 ^ 32, r.group, stampW0 r.time, stampW1 r.time, stampW2 r.time]
  let body := head ++ r.entries.flatMap (fun e => [jAddr e.1, jSel e.1, e.2])
  body ++ [crc32 (body.flatMap (leBytes 4)), Nat.xor (r.epoch % 2 ^ 32) 0x5A5A5A5A]

/-- The words of the log in use. -/
def State.logUsed (s : State) : Nat := s.jrn.log.foldl (fun n r => n + r.len) 0

/-- Whether a record with `n` entries finds room. -/
def State.logRoom (s : State) (n : Nat) : Bool := decide (s.logUsed + recLen n ≤ logWords)

/-- Write a record: it enters the log, and is durable later (JOURNAL_RECORD_DURABLE). -/
def State.jwrite (s : State) (kind epoch group : Nat) (entries : List (Nat × Nat)) : State :=
  let r : JRec := ⟨kind, epoch, group, s.bus.w250, entries, false, 0, s.jrn.next⟩
  { s.setFld (fltKey R.FLT_JRN_HEAD) 0 16 s.jrn.next with
    jrn := { s.jrn with log := s.jrn.log ++ [r], next := (s.jrn.next + r.len) % logWords } }

/-- The record of a change that no epoch binds carries the global epoch in force (R448, R449). -/
def State.jconfig (s : State) (kind : Nat) (entries : List (Nat × Nat)) : State :=
  s.jwrite kind (s.rd (fltKey R.FLT_EPOCH)) 0 entries

/-- The KIND of the record of a change: 3 for a write to LDS_OUT, 4 for a configuration write (Table 15-13). -/
def jwaitKind (w : JWait) : Nat := if w.kind = 4 then 3 else 4

/-- A change that R448 journals: dropped as a late access once MRAM writing has ended (R451), kept waiting while its record finds
no room, else done and recorded. -/
def State.journaled (s : State) (w : JWait) (entries : List (Nat × Nat)) (busy f : State → State) : State :=
  if s.jrn.closed then s.on (·.late w.vi)
  else if s.logRoom entries.length then (f s).jconfig (jwaitKind w) entries
  else busy { s with jrn := { s.jrn with waits := s.jrn.waits ++ [w] } }

end Sys2Proof.Machine
end

