-- ==== Sys2Proof/Machine/Fabric.lean ====
section
/-! DEFINITION. The stores of the switch core: transit stages, cisterns, wells, RED and moves (R127 to R166), as operations the
commands of chapters 04 to 07 share. -/

namespace Sys2Proof.Machine

def fabPage : Nat := Block.fab.pg 0
def fabKey (off : Nat) : Nat := rk fabPage off
def cisPage (n : Nat) : Nat := Block.cis.pg n
def prtPage (p : Nat) : Nat := Block.prt.pg p
def prtKey (p off : Nat) : Nat := rk (prtPage p) off

/-- The key of a cistern's counter for local port k and class c (CIS_CNT_SEL). -/
def cisKey (n off k c : Nat) : Nat := rkSel (cisPage n) off (k + 8 * c)

/-- The key of a well's register (EGQ_SEL). -/
def wellReg (w off : Nat) : Nat := rkSel (Block.egq.pg (w / 256)) off (w % 256)

/-- The key of a port register of the EGQ pages (EGQ_PORT_SEL). -/
def egqPort (p off : Nat) : Nat := rkSel (Block.egq.pg (p / 8)) off p

/-- The registers of a host ring (Table 6-7). -/
def ringPage (r : Nat) : Nat := Block.hqr.pg (r / 16)
def ringKey (r off : Nat) : Nat := rk (ringPage r) (off + 0x40 * (r % 16))
def pmpPage (p : Nat) : Nat := Block.pmp.pg p

/-- DEV PAGE_STATUS.SERVICE_READY (R465). -/
def State.serviceReady (s : State) : Bool := s.bit (rk 0 hdrPageStatus) 16

/-- The pump of a ring, and its host port (R177). -/
def pumpOf (r : Nat) : Nat := r / 1024
def hostPort (pump : Nat) : Nat := 68 + pump % 2

/-- The domain of a port's lane die (R72). -/
def laneDom (p : Nat) : Nat := 11 + p / 64

/-- Whether a data port can take copies: active, link up, its lane die up (R143, R178). -/
def State.portUp (s : State) (p : Nat) : Bool :=
  s.bit (prtKey p R.PRT_STATUS) 3 && s.bit (prtKey p R.PRT_STATUS) 0 && s.bus.domUp (laneDom p)

/-- A port's rate in units of 100 Gbit/s by its breakout (Table 4-1). -/
def State.portRate (s : State) (p : Nat) : Nat :=
  match s.fld (prtKey (p / 8 * 8) R.PRT_GROUP) 0 2 with | 0 => 8 | 1 => 4 | 2 => 2 | _ => 1

/-- The rate of an output side (Table 5-1). -/
def State.outRate (s : State) (out k : Nat) : Nat := if out < 64 then s.portRate (out * 8 + k) else 8

/-- The queue of a copy: its well (R115, R158), or its class queue at cisterns 64 to 71 (R148). -/
def queueOf (c : Copy) : Nat :=
  if c.out < 64 then ((c.out * 8 + c.k) * 8 + c.cls) * 4 + c.sgrp else 16384 + (c.out - 64) * 8 + c.cls

/-! ## Where copies go -/

/-- A copy for a logical data port. -/
def copyPort (p cls sgrp : Nat) : Copy := ⟨p / 8, p % 8, cls, sgrp, .port p⟩
/-- A copy for a host ring: the host port of its pump (R177). -/
def copyRing (r cls : Nat) : Copy := ⟨hostPort (pumpOf r), 0, cls, 0, .ring r⟩
/-- A copy for the value-frame engine, always class 7 (R104), at host port 1 (Table 5-1). -/
def copyVal : Copy := ⟨69, 0, 7, 0, .val⟩
/-- A copy for the keepers, at host port 0 (Table 5-1). -/
def copyKeeper (cls : Nat) : Copy := ⟨68, 0, cls, 0, .keeper⟩
/-- The key of a frame store's register. -/
def fsReg (j off : Nat) : Nat := rk (Block.win.pg (j / 4)) (off + 0x80 * (j % 4))
/-- A copy for frame store j on its die d: port 64 + 2d + (j mod 2) (R186). -/
def State.copyStore (s : State) (j cls : Nat) : Copy :=
  ⟨64 + 2 * s.fld (fsReg j R.FS_CTRL) 1 1 + j % 2, 0, cls, 0, .store j⟩
/-- A copy for lookup, by recirculation port 70 or 71 (R128, R171). -/
def copyLookup (pump cls : Nat) : Copy := ⟨70 + pump % 2, 0, cls, 0, .lookup⟩

/-! ## Occupancy -/

/-- Change the cells charged to local port k and class c of cistern n (R143); CIS_USED, CIS_FUSED and CIS_PEAK follow, and EV186
tells of CIS_USED rising through its threshold (R151). -/
def State.chargeCis (s : State) (n k c : Nat) (d : Int) : State :=
  let upd := fun (v : Nat) => ((v : Int) + d).toNat
  let used := s.rd (rk (cisPage n) R.CIS_USED)
  let thr := s.rd (rk (cisPage n) R.CIS_WARN) * s.rd (rk (cisPage n) R.CIS_SIZE)
  let s1 := (s.wr (cisKey n R.CIS_OCC k c) (upd (s.rd (cisKey n R.CIS_OCC k c)))).wr (rk (cisPage n) R.CIS_USED) (upd used)
  let s2 := if c = 7 then s1.wr (rk (cisPage n) R.CIS_FUSED) (upd (s1.rd (rk (cisPage n) R.CIS_FUSED))) else s1
  let s3 := if s2.rd (rk (cisPage n) R.CIS_PEAK) < upd used then s2.wr (rk (cisPage n) R.CIS_PEAK) (upd used) else s2
  if used * 256 < thr ∧ thr ≤ upd used * 256 then s3.raise (cisPage n) 6 else s3

/-- Count on a cistern's counter. -/
def State.cisCount (s : State) (n off k c : Nat) : State := s.addSat (cisKey n off k c) 1

/-- The queue held under a key. -/
def State.queue (s : State) (q : Nat) : List Queued := s.fab.wells.find [] q

/-- The well registers follow the queue (R181): packets queued, BACKLOG, MOVE_OLD, HOLDING. -/
def State.refreshWell (s : State) (q : Nat) : State :=
  if q < 16384 then
    let l := s.queue q
    let old := s.str.moves.cells.any (fun p => decide (p.2.old = q))
    let holding := l.any (fun x => x.held.isSome)
    (s.wr (wellReg q R.EGQ_WPKTS) (l.length % 2 ^ 24)).wr (wellReg q R.EGQ_WSTAT)
      (b2n (!l.isEmpty) + 2 * b2n old + 4 * b2n holding)
  else s

/-- Replace a queue. -/
def State.setQueue (s : State) (q : Nat) (l : List Queued) : State :=
  ({ s with fab := { s.fab with wells := s.fab.wells.put [] q l } }).refreshWell q

/-- Whether another queue entry of the same packet shares its cells in the same cistern (R144). -/
def State.sharedCells (s : State) (x : Queued) : Bool :=
  s.fab.wells.cells.any (fun p => p.2.any (fun y => decide (y.pkt.id = x.pkt.id) && decide (y.copy.out = x.copy.out)
    && decide (y.copy ≠ x.copy)))

/-- The packet leaves its queue: its charge and, unless another copy shares them, its cells are free. -/
def State.takeOut (s : State) (x : Queued) : State :=
  let q := queueOf x.copy
  let s1 := s.setQueue q ((s.queue q).filter (fun y => decide (y.seq ≠ x.seq)))
  let s2 := s1.chargeCis x.copy.out x.copy.k x.copy.cls (-(x.charge : Int))
  if s.sharedCells x then s2 else s2.wr (fabKey R.FAB_POOL_USED) (s2.rd (fabKey R.FAB_POOL_USED) - x.got)

/-! ## Moves (R163 to R166) -/

def tMove (entry : Nat) : Nat := timerId 7 entry

/-- The hang watch of a pump (R180). -/
def tHang (pump : Nat) : Nat := timerId 9 pump

/-- A pump has work: its watch runs from here unless it already does. -/
def State.watchPump (s : State) (pump : Nat) : State := if s.bus.running (tHang pump) then s else s.arm (tHang pump) (clkMs 10)

/-- Port of a well. -/
def wellPort (w : Nat) : Nat := w / 32

/-- EGQ_PMOVES of a port: the moves whose old queue is one of its wells. -/
def State.refreshMoves (s : State) (q : Nat) : State :=
  let s1 := s.refreshWell q
  if q < 16384 then
    s1.wr (egqPort (wellPort q) R.EGQ_PMOVES)
      ((s1.str.moves.cells.filter (fun p => decide (p.2.old < 16384) && decide (wellPort p.2.old = wellPort q))).length % 2048)
  else s1

/-- An EGQ event of a queue: for the owner of the well; of a ring-to-ring move, on EGQ page 0 (assumption log 9). -/
def State.raiseWell (s : State) (bit old new : Nat) : State :=
  if old < 16384 then s.raiseEntry .egq bit old
  else if new < 16384 then s.raiseEntry .egq bit new
  else s.raise (Block.egq.pg 0) bit

/-- A move ends: the held packets become ready in the order of their admission, and the event tells how (R164, R165). -/
def State.endMove (s : State) (entry bit : Nat) : State :=
  match s.str.moves.find? entry with
  | none => s
  | some m =>
    let s1 := { s with str := { s.str with moves := s.str.moves.erase entry },
                       fab := { s.fab with wells := ⟨s.fab.wells.cells.map (fun (p : Nat × List Queued) =>
                         (p.1, p.2.map (fun (x : Queued) => if x.held = some entry then { x with held := none } else x)))⟩ } }
    ((((s1.disarm (tMove entry)).refreshMoves m.old).refreshWell m.new)).raiseWell bit m.old m.new

/-- A packet has left a queue, whether sent or discarded: if it is the marked packet of its stream's move, the move is done
(R164). -/
def State.gone (s : State) (p : Pkt) (q : Nat) : State :=
  match p.stream with
  | none => s
  | some e => match s.str.moves.find? e with
    | some m => if m.marked = p.id ∧ m.old = q then s.endMove e 0 else s
    | none => s

/-! ## Admission to a cistern (R141 to R147) -/

/-- One step of the average: AVG + (OCC - AVG) × 2^-W (R146). -/
def Avg.step (a : Avg) (occ w : Nat) : Avg := ⟨a.num * (2 ^ w - 1) + occ * 2 ^ a.exp, a.exp + w⟩

/-- Whether RED discards a copy of colour `col` at average `a` for random number `r` of 16 bits under profile `i` (R146). -/
def State.redDrops (s : State) (i col r : Nat) (a : Avg) : Bool :=
  let at' := fun (w : Nat) => s.rd (fabKey (R.FAB_RED + 0x20 * i + 4 * w))
  let mn := fieldOf 0 21 (at' (2 * col))
  let mx := fieldOf 0 21 (at' (2 * col + 1))
  let p := fieldOf 24 8 (at' (2 * col + 1))
  let u := 2 ^ a.exp
  if mx * u ≤ a.num then true
  else if mx ≤ mn ∨ a.num < mn * u then false
  else decide (r * 256 * (mx - mn) * u < 65536 * p * (a.num - mn * u))

/-- The tests of R143 for a copy whose charge is `charge`; those that fail count, and so does an admission. RED's average moves
at the test (R146); its random number is a free value (assumption log 4). -/
def State.admitTests (s : State) (p : Pkt) (c : Copy) (charge : Nat) : State × Bool :=
  let n := c.out
  let up := match c.dest with | .port q => s.portUp q | _ => true
  let tooLong := match c.dest with
    | .port q => p.txRing.isSome && decide (s.fld (prtKey q R.PRT_MTU) 0 14 - 4 < p.bytes.length)
    | _ => false
  if !up then (s.cisCount n R.CIS_CNT_FLUSH c.k c.cls, false)
  else if tooLong then (s.cisCount n R.CIS_CNT_BAD c.k c.cls, false)
  else if c.cls = 7 then
    (if s.rd (cisKey n R.CIS_OCC c.k 7) + charge ≤ s.rd (rk (cisPage n) (R.CIS_QLIM + 0x20 * c.k + 28)) then
       (s.cisCount n R.CIS_CNT_ADMIT c.k 7, true)
     else ((s.cisCount n R.CIS_CNT_TAIL c.k 7).raise (cisPage n) 4, false))
  else
    let sel := fieldOf (4 * c.cls) 4 (s.rd (rk (cisPage n) (R.CIS_RED_SEL + 4 * c.k)))
    let occ := s.rd (cisKey n R.CIS_OCC c.k c.cls)
    let a := (s.fab.avg.find ⟨0, 0⟩ (n * 64 + c.k * 8 + c.cls)).step occ (s.fld (fabKey (R.FAB_RED + 0x20 * sel + 0x18)) 0 4)
    let s1 := { s with fab := { s.fab with avg := s.fab.avg.put ⟨0, 0⟩ (n * 64 + c.k * 8 + c.cls) a } }
    let s2 := (s1.wr (cisKey n R.CIS_AVG c.k c.cls) (a.num / 2 ^ a.exp)).on (·.nextFree)
    if s.redDrops sel p.colour (s.bus.fresh.toNat % 65536) a then
      (s2.cisCount n (match p.colour with | 0 => R.CIS_CNT_RED_G | 1 => R.CIS_CNT_RED_Y | _ => R.CIS_CNT_RED_R) c.k c.cls, false)
    else
      let all := (List.range 7).foldl (fun t i => t + s.rd (cisKey n R.CIS_OCC c.k i)) 0
      if occ + charge ≤ s.rd (rk (cisPage n) (R.CIS_QLIM + 0x20 * c.k + 4 * c.cls))
          ∧ all + charge ≤ s.rd (rk (cisPage n) (R.CIS_PLIM + 4 * c.k)) then
        (s2.cisCount n R.CIS_CNT_ADMIT c.k c.cls, true)
      else ((s2.cisCount n R.CIS_CNT_TAIL c.k c.cls).raise (cisPage n) 3, false)

/-- Admit a copy at its first cell: on success it stands in its queue, charged its length in cells, since a data-port packet is
whole by then (R142), held if its stream moves (R164), ready at once if cut-through takes it (R147). -/
def State.admitCopy (s : State) (p : Pkt) (c : Copy) (charge cells : Nat) (unicast : Bool) : State × Bool :=
  let r := s.admitTests p c charge
  let q := queueOf c
  if r.2 then
    let s1 := r.1
    let held := match p.stream with
      | some e => if p.hold && (s1.str.moves.find? e).isSome then some e else none
      | none => none
    let cut := s1.bit (rk (cisPage c.out) R.CIS_CTRL) 0 && (s1.queue q).isEmpty
      && decide (s1.outRate c.out c.k ≤ p.rate) && unicast && held.isNone
    let x : Queued := ⟨p, c, s1.fab.nextSeq, cells, 0, cut, held⟩
    let s2 := { s1 with fab := { s1.fab with nextSeq := s1.fab.nextSeq + 1 } }
    ((s2.setQueue q (s2.queue q ++ [x])).chargeCis c.out c.k c.cls cells, true)
  else (r.1.gone p q, false)

/-! ## The transit stage (R134, R135) -/

/-- Cells of a transit packet that have reached all their outputs. -/
def Transit.freed (t : Transit) : Nat := t.copies.foldl (fun m c => min m c.sent) t.cells

/-- Cells a packet holds now, of the general 88 and of the class F reserve: freed cells leave the general ones first
(assumption log 10). -/
def Transit.genNow (t : Transit) : Nat := t.gen - t.freed
def Transit.fresNow (t : Transit) : Nat := t.fres - (t.freed - t.gen)

/-- FAB_STAGE_OCC of an input follows its stage. -/
def State.refreshStage (s : State) (inp : Nat) : State :=
  let used := (s.fab.stage.find [] inp).foldl (fun n t => n + t.genNow + t.fresNow) 0
  let k := rkSel fabPage R.FAB_STAGE_OCC inp
  s.wr k (used % 256 + 256 * max used (s.fld k 8 8) % 65536)

/-- Replace the stage of an input. -/
def State.setStage (s : State) (inp : Nat) (l : List Transit) : State :=
  ({ s with fab := { s.fab with stage := s.fab.stage.put [] inp l } }).refreshStage inp

/-- Hand a packet to the transit stage of a crossbar input: room for its charge, or the packet is discarded, counted and EV182
raised (R135). The whole packet is there, so it then holds its own cells (R142). -/
def State.stagePut (s : State) (inp : Nat) (p : Pkt) (cls charge : Nat) (bad : Bool) (copies : List Copy) : State :=
  if copies.isEmpty then s
  else
    let l := s.fab.stage.find [] inp
    let gen := 88 - l.foldl (fun n t => n + t.genNow) 0
    let res := if cls = 7 then 40 - l.foldl (fun n t => n + t.fresNow) 0 else 0
    let cells := cellsOf (frameLen p.bytes)
    if charge ≤ gen + res then
      let fr := min cells res
      s.setStage inp (l ++ [⟨p, cells, charge, fr, cells - fr, bad, copies.map (fun c => ⟨c, 0, .waiting⟩)⟩])
    else (s.addSat (rkSel fabPage R.FAB_STAGE_DROP inp) 1).raise fabPage 2

/-- A new packet's number. -/
def State.newId (s : State) : State × Nat := ({ s with fab := { s.fab with nextId := s.fab.nextId + 1 } }, s.fab.nextId)

/-! ## Sending -/

/-- Count on a 64-bit counter whose low word is at `k` and high word at `k + 4`. -/
def State.add64 (s : State) (k n : Nat) : State :=
  let v := s.rd k + s.rd (k + 4) * 2 ^ 32 + n
  (s.wr k (v % 2 ^ 32)).wr (k + 4) (v / 2 ^ 32 % 2 ^ 32)

/-- A data port sends a frame. -/
def State.sendFrame (s : State) (p : Nat) (l : List Byte) : State :=
  ((s.emit (.frame p l)).add64 (prtKey p R.PRT_TX_FRAMES_LO) 1).add64 (prtKey p R.PRT_TX_BYTES_LO) (frameLen l)

/-- A port's own MAC address. -/
def State.portMac (s : State) (p : Nat) : Nat :=
  s.fld (prtKey p R.PRT_MAC_HI) 0 16 * 2 ^ 32 + s.rd (prtKey p R.PRT_MAC_LO)

end Sys2Proof.Machine
end

