-- ==== Sys2Proof/Machine/Streams.lean ====
section
/-! DEFINITION. The stream table, multicast groups, snooping and merge pairs (R111 to R121, R163 to R166): lookup, the table
commands, and the way of a packet from lookup into the switch core. -/

namespace Sys2Proof.Machine

/-! ## Entries (Table 4-4) -/

def StrEntry.f (e : StrEntry) (i lo w : Nat) : Nat := fieldOf lo w (e.w.getD i 0)
def StrEntry.valid (e : StrEntry) : Bool := decide (e.f 0 0 1 = 1)
def StrEntry.key (e : StrEntry) : Nat := e.f 0 1 2
def StrEntry.v6 (e : StrEntry) : Bool := decide (e.f 0 3 1 = 1)
def StrEntry.vid (e : StrEntry) : Nat := e.f 0 4 12
def StrEntry.udpPort (e : StrEntry) : Nat := e.f 0 16 16
def StrEntry.kind (e : StrEntry) : Nat := e.f 9 3 3
/-- The class; the value-frame engine is always class 7 (R104). -/
def StrEntry.cls (e : StrEntry) : Nat := if e.kind = 4 then 7 else e.f 9 0 3
def StrEntry.tsmap (e : StrEntry) : Nat := e.f 9 22 2
def StrEntry.sgrp (e : StrEntry) : Nat := e.f 9 24 2
def StrEntry.deadline (e : StrEntry) : Nat := e.f 10 0 16
def StrEntry.media (e : StrEntry) : Nat := e.f 10 19 2
/-- The leg-silence time in clocks; 0 is treated as 100 ms. -/
def StrEntry.silent (e : StrEntry) : Nat := clkMs (if e.f 11 17 8 = 0 then 100 else e.f 11 17 8)

/-- An address of four words, or of one for IPv4. -/
def addrOf (w : List Nat) (v6 : Bool) : Nat :=
  if v6 then w.getD 0 0 + w.getD 1 0 * 2 ^ 32 + w.getD 2 0 * 2 ^ 64 + w.getD 3 0 * 2 ^ 96 else w.getD 0 0
def StrEntry.dst (e : StrEntry) : Nat :=
  if e.key = 0 then e.w.getD 1 0 + e.f 2 0 16 * 2 ^ 32 else addrOf (e.w.drop 1) e.v6
def StrEntry.src (e : StrEntry) : Nat := addrOf (e.w.drop 5) e.v6

/-- Whether two valid entries have the same key (R111). -/
def sameKey (a b : StrEntry) : Bool :=
  decide (a.key = b.key) && decide (a.vid = b.vid) && decide (a.dst = b.dst)
    && (decide (a.key = 0) || (decide (a.v6 = b.v6) && decide (a.udpPort = b.udpPort)))
    && (decide (a.key ≠ 2) || decide (a.src = b.src))

/-- Exact-match lookup in the three key kinds in order (R111). -/
def State.lookup (s : State) (l : List Byte) (vlan : Nat) : Option (Nat × StrEntry) :=
  let p := parseFrame l
  let hit := fun (k : Nat) (f : StrEntry → Bool) => s.str.entries.cells.find? (fun (x : Nat × StrEntry) =>
    x.2.valid && decide (x.2.key = k) && decide (x.2.vid = vlan) && f x.2)
  let udp := match udpKey l with
    | some u =>
      let m := fun (e : StrEntry) => decide (e.v6 = u.v6) && decide (e.dst = u.dst) && decide (e.udpPort = u.port)
      (match hit 2 (fun e => m e && decide (e.src = u.src)) with
       | some x => some x
       | none => hit 1 m)
    | none => none
  match udp with
  | some x => some x
  | none => hit 0 (fun e => decide (e.dst = p.dst))

/-- Change an entry. -/
def State.setEntry (s : State) (i : Nat) (e : StrEntry) : State :=
  { s with str := { s.str with entries := s.str.entries.set i e } }

/-- An event of an entry: STR_EV_SLOT names it (R121, R123). -/
def State.strEvent (s : State) (i bit : Nat) : State :=
  let o := s.bus.ownerOf .str i
  let pg := s.bus.entryPage .str o i
  (s.wr (evKey pg R.STR_EV_SLOT o) ((s.bus.localOf .str o i).getD i % 4096)).raiseEntry .str bit i

/-! ## The colour meter (R116) -/

/-- A bucket refilled at `rate` (64 kbit/s units) up to `depth` bytes. -/
def Bucket.fill (b : Bucket) (rate depth now : Nat) : Bucket :=
  ⟨min ((depth * 62500 : Nat) : Int) (b.tok + ((rate * (now - b.last) : Nat) : Int)), now⟩

/-- Take bytes out of a bucket. -/
def Bucket.take (b : Bucket) (bytes : Nat) : Bucket := { b with tok := b.tok - ((bytes * 62500 : Nat) : Int) }

/-- The two-rate three-colour meter of RFC 2698 for a frame of `len` bytes; `dei` counts in colour-aware mode. -/
def StrEntry.meter (e : StrEntry) (now len : Nat) (dei : Bool) : StrEntry × Nat :=
  if e.f 10 16 1 = 0 then (e, 0)
  else
    let c := e.cBucket.fill (e.f 12 0 24) (e.f 14 0 24) now
    let p := e.pBucket.fill (e.f 13 0 24) (e.f 15 0 24) now
    let n : Int := ((len * 62500 : Nat) : Int)
    let yellowIn := decide (e.f 10 17 1 = 1) && dei
    if p.tok < n then ({ e with cBucket := c, pBucket := p }, 2)
    else if yellowIn ∨ c.tok < n then ({ e with cBucket := c, pBucket := p.take len }, 1)
    else ({ e with cBucket := c.take len, pBucket := p.take len }, 0)

/-! ## Merge pairs (R120, R121) -/

/-- The pair an entry belongs to: its key and itself. -/
def State.pairOf (s : State) (e : Nat) : Option (Nat × Pair) :=
  s.str.pairs.cells.find? (fun (x : Nat × Pair) => decide (x.1 = e) || decide (x.2.other = e))

def State.setPair (s : State) (k : Nat) (p : Pair) : State := { s with str := { s.str with pairs := s.str.pairs.set k p } }

/-- The 32-bit sequence number of a packet: extended by the packet's own extension under ST 2110-20, by counting roll-overs
from the newest one delivered under ST 2110-22 (R120). -/
def seq32 (media : Nat) (pl : List Byte) (newest : Option Nat) : Nat :=
  let r := rtpOf pl
  if media = 1 then r.seq + beAt pl r.body 2 * 65536
  else match newest with
    | none => r.seq
    | some n =>
      let d := (r.seq + 65536 - n % 65536) % 65536
      if d < 32768 then (n + d) % 2 ^ 32 else (n + 2 ^ 32 + d - 65536) % 2 ^ 32

/-- A packet of a pair's leg: delivered, or a later or too old copy (R120, R121). The leg has shown itself; EV177 if it was
silent. -/
def State.mergeStep (s : State) (i : Nat) (e : StrEntry) (pl : List Byte) : State × Bool :=
  match s.pairOf i with
  | none => (s, true)
  | some (k, p) =>
    let legA := decide (k = i)
    let back := if legA then p.lostA else p.lostB
    let p1 := if legA then { p with lastA := s.bus.now, lostA := false } else { p with lastB := s.bus.now, lostB := false }
    let s1 := if back then s.strEvent i 1 else s
    let n := seq32 e.media pl p.newest
    let deliver := fun (newest : Nat) (seen : List Nat) =>
      (s1.setPair k { p1 with newest := some newest, seen := seen, lastOut := s.bus.now }, true)
    let drop := fun (_ : Unit) =>
      ((s1.setPair k p1).setEntry i { e with dup := satAdd 32 e.dup 1 }, false)
    match p.newest with
    | none => deliver n [n]
    | some nw =>
      let ahead := (n + 2 ^ 32 - nw) % 2 ^ 32
      if ahead = 0 then drop ()
      else if ahead < 2 ^ 31 then
        (if 32768 < ahead then deliver n [n]
         else deliver n (n :: p.seen.filter (fun x => decide ((n + 2 ^ 32 - x) % 2 ^ 32 < 32768))))
      else if 32768 ≤ 2 ^ 32 - ahead then drop ()
      else if p.seen.contains n then drop ()
      else deliver nw (n :: p.seen)

/-! ## From lookup to the switch core -/

/-- The capture time of a packet by its entry's mapping (R11 to R13): Ta, the RTP timestamp or the value-frame header. -/
def captureTime (tsmap ta : Nat) (known : Bool) (pl : List Byte) : CapTime :=
  let a : CapTime := if known then some ta else none
  if tsmap = 1 then capMin (rtpResolve (rtpOf pl).ts ta) a
  else if tsmap = 2 ∧ 28 ≤ pl.length then
    capMin ((beAt pl 14 2 * 2 ^ 32 + beAt pl 16 4) * 4000000000 + beAt pl 20 4 % 2 ^ 30 * 4 + beAt pl 20 4 / 2 ^ 30) a
  else a

/-- The group content. -/
def State.grp (s : State) (g : Nat) : Grp := s.str.groups.find Grp.init g
def State.setGrp (s : State) (g : Nat) (x : Grp) : State := { s with str := { s.str with groups := s.str.groups.put Grp.init g x } }

/-- The ports a group delivers to: STATIC or DYNAMIC, router ports among the latter, less the ingress port (R117). -/
def State.grpPorts (s : State) (g inPort : Nat) : List Nat :=
  let x := s.grp g
  (List.range 512).filter (fun p => (bitOf p x.static || bitOf p x.dyn || bitOf p s.str.routers) && decide (p ≠ inPort))

/-- The copies for a group's ports and, where it is allowed, for its local delivery. -/
def State.grpCopies (s : State) (g inPort cls sgrp : Nat) (localOk : Bool) : List Copy :=
  let x := s.grp g
  (s.grpPorts g inPort).map (fun p => copyPort p cls sgrp)
    ++ (if localOk then
          (if x.kind = 3 then [s.copyStore x.phys cls] else if x.kind = 4 then [copyVal]
           else if x.kind = 5 then [copyRing x.phys cls] else [])
        else [])

/-- A frame as ingress processing holds it. -/
structure InFrame where
  bytes : List Byte
  /-- Logical port, and the crossbar input. -/
  port : Nat
  inp : Nat
  ta : Nat
  known : Bool
  /-- Kept over recirculation (R128). -/
  tcKeep : Option (Option Nat)
  vlan : Nat
  pcp : Nat
  dei : Bool
  /-- The class from the port's map (R104), the charge (R142), the port's rate. -/
  cls : Nat
  charge : Nat
  rate : Nat
  bad : Bool
  deriving DecidableEq, Repr

/-- The packet of a frame. -/
def InFrame.pkt (f : InFrame) (id : Nat) (tc : Option Nat) (colour : Nat) (stream : Option Nat) (deadline : Nat) (hold : Bool) :
    Pkt :=
  ⟨id, f.bytes, f.port, f.ta, f.known, tc, f.vlan, f.pcp, colour, stream, deadline, none, f.rate, none, hold⟩

/-- A frame without an entry goes out in class `f.cls`, stream group 0 (R158). -/
def State.plainCopies (s : State) (f : InFrame) (copies : List Copy) : State :=
  let r := s.newId
  r.1.stagePut f.inp (f.pkt r.2 (match f.tcKeep with | some t => t | none => if f.known then some f.ta else none) 0 none 0 false)
    f.cls f.charge f.bad copies

/-- A trapped frame goes to the port's trap ring, or is lost where the ring is off, absent or full (R112). -/
def State.trap (s : State) (f : InFrame) : State :=
  let t := if f.port < 512 then s.rd (prtKey f.port R.PRT_TRAP_RING) else 0
  let lost := if f.port < 512 then (s.addSat (prtKey f.port R.PRT_TRAP_LOST) 1).raise (prtPage f.port) 8 else s
  if bitOf 15 t then
    match s.bus.physOf .hqr (s.bus.ownerOfPage (prtPage f.port)) (fieldOf 0 15 t) with
    | some r =>
      if s.bit (ringKey r R.HQR_CTRL) 0 && decide (s.fld (ringKey r R.HQR_DB) 0 16 = s.fld (ringKey r R.HQR_IDX) 0 16) then lost
      else s.plainCopies f [copyRing r f.cls]
    | none => lost
  else lost

/-- The miss action (R112). Ports 514 and 515 have no page: they flood, as PRT_CTRL does at reset (assumption log 11). -/
def State.missAction (s : State) (f : InFrame) : State :=
  let s1 := if f.port < 512 then s.addSat (prtKey f.port R.PRT_MISS) 1 else s
  let ctrl := if f.port < 512 then s.rd (prtKey f.port R.PRT_CTRL) else 0
  let multi := bitOf 40 (parseFrame f.bytes).dst
  let ports := (List.range 512).filter (fun p => decide (p ≠ f.port)
    && s.bit (prtKey p (R.PRT_VLAN_OUT + 4 * (f.vlan / 32))) (f.vlan % 32))
  let flood := fun (_ : Unit) => s1.plainCopies f (ports.map (fun p => copyPort p f.cls 0))
  if multi then (if bitOf 8 ctrl then s1 else flood ())
  else match fieldOf 6 2 ctrl with
    | 0 => flood ()
    | 1 => s1.trap f
    | _ => s1

/-- A frame that an entry matches (R110, R113 to R121): counted, checked, metered, deduplicated, given its capture time, and
handed to the transit stage for the entry's destination. -/
def State.matched (s : State) (f : InFrame) (i : Nat) (e0 : StrEntry) : State :=
  let e1 := { e0 with matched := (e0.matched + 1) % 2 ^ 32 }
  let u := udpKey f.bytes
  let pl := match u with | some u => udpPayload f.bytes u.udp | none => []
  let sumOk := match u with | some u => u.sumOk | none => true
  let g := s.grp e1.destPhys
  let ptBad := decide (e1.f 10 28 1 = 1) && u.isSome && decide ((rtpOf pl).pt ≠ e1.f 10 21 7)
  let sumBad := (decide (e1.kind = 3) || decide (e1.kind = 4)) && !sumOk
  let localBad := decide (e1.kind = 2) && (decide (g.kind = 3) || decide (g.kind = 4)) && !sumOk
  let checked := fun (s : State) => s.strEvent i 2
  if ptBad || sumBad then checked (s.setEntry i { e1 with check := satAdd 32 e1.check 1 })
  else
    let e2 : StrEntry := if localBad then { e1 with check := satAdd 32 e1.check 1 } else e1
    let m := e2.meter s.bus.now (frameLen f.bytes) f.dei
    let e3 : StrEntry := if m.2 = 2 then { m.1 with red := satAdd 32 m.1.red 1 } else m.1
    let s1 := s.setEntry i e3
    let s2 := if localBad then checked s1 else s1
    if m.2 = 2 ∧ e3.f 10 18 1 = 1 then s2
    else
      let r := if f.bad then (s2, true) else s2.mergeStep i e3 pl
      if r.2 then
        let tc := match f.tcKeep with | some t => t | none => captureTime e3.tsmap f.ta f.known pl
        let n := r.1.newId
        let p := f.pkt n.2 tc m.2 (some i) e3.deadline (r.1.str.moves.find? i).isSome
        let copies := match e3.kind with
          | 1 => [copyPort e3.destPhys e3.cls e3.sgrp]
          | 2 => n.1.grpCopies e3.destPhys f.port e3.cls e3.sgrp (!localBad)
          | 3 => [n.1.copyStore e3.destPhys e3.cls]
          | 4 => [copyVal]
          | 5 => [copyRing e3.destPhys e3.cls]
          | _ => []
        n.1.stagePut f.inp p e3.cls f.charge f.bad copies
      else r.1

/-- Steps 9 and 10 of Table 4-3: the stream table, or the miss action. -/
def State.forward (s : State) (f : InFrame) : State :=
  match s.lookup f.bytes f.vlan with
  | some (i, e) => s.matched f i e
  | none => s.missAction f

/-! ## The table commands (R114, R115) -/

/-- A VI's own copy of a register of an STR page, as the VI numbers its pages (R501). -/
def strReg (vi page off : Nat) : Nat := rkVi (Block.str.pg page) off vi

/-- The physical entry a VI's STR_SEL names on a page. -/
def State.strSel (s : State) (vi page : Nat) : Option Nat :=
  s.bus.physOf .str vi (page * 4096 + s.fld (strReg vi page R.STR_SEL) 0 12)

/-- A command is refused with a REASON (R114). -/
def State.strRefuse (s : State) (vi page reason : Nat) : State :=
  (s.wr (strReg vi page R.STR_STATUS) (2 + reason * 16)).on (·.cfgErrFor (Block.str.pg page) vi)

/-- What becomes of a command of a VI on an STR page: ignored on an absent page, late while FAB is not up. -/
def State.strGuard (s : State) (vi page : Nat) (f : State → State) : State :=
  if (s.bus.physOf .str vi (page * 4096)).isNone then s
  else if !s.bus.pageUp (Block.str.pg page) then s.on (·.late vi)
  else f s

/-- STR_READ (R114): the entry into STR_D0 to STR_D15, its counters into the STR_CNT registers. A VI with read access reads too
(assumption log 12). -/
def execStrRead (dt vi page : Nat) (s : State) : Res :=
  let s := s.tick dt
  .next (s.strGuard vi page (fun s =>
    match s.strSel vi page with
    | none => s.strRefuse vi page 5
    | some i =>
      let e := s.str.entries.find ⟨List.replicate 16 0, 0, none, 0, 0, 0, 0, ⟨0, 0⟩, ⟨0, 0⟩⟩ i
      let s1 := (List.range 16).foldl (fun a k => a.wr (strReg vi page (R.STR_D + 4 * k)) (e.w.getD k 0)) s
      ((((s1.wr (strReg vi page R.STR_CNT_MATCH) e.matched).wr (strReg vi page R.STR_CNT_RED) e.red).wr
        (strReg vi page R.STR_CNT_DUP) e.dup).wr (strReg vi page R.STR_CNT_CHECK) e.check).wr (strReg vi page R.STR_STATUS) 0))

/-- The block of a destination kind (R115): port, group, frame store, host ring. -/
def destBlock (kind : Nat) : Option Block :=
  match kind with | 1 => some .prt | 2 => some .str | 3 => some .win | 5 => some .hqr | _ => none

/-- The physical destination of an entry's words, where the VI owns it (REASON 2). -/
def State.ownedDest (s : State) (vi kind index : Nat) : Option Nat :=
  match destBlock kind with
  | none => some 0
  | some b => match s.bus.physOf b vi index with
    | some x => if s.bus.access b x vi = 2 ∧ (kind ≠ 2 ∨ x < 8192) then some x else none
    | none => none

/-- The entry that a VI's words make, its destination and peer translated. -/
def State.makeEntry (s : State) (vi : Nat) (w : List Nat) : StrEntry :=
  let e : StrEntry := ⟨w, 0, none, 0, 0, 0, 0, ⟨0, 0⟩, ⟨0, 0⟩⟩
  { e with destPhys := (s.ownedDest vi e.kind (e.f 9 6 16)).getD 0, peerPhys := s.bus.physOf .str vi (e.f 11 1 16),
           cBucket := ⟨((e.f 14 0 24 * 62500 : Nat) : Int), s.bus.now⟩, pBucket := ⟨((e.f 15 0 24 * 62500 : Nat) : Int), s.bus.now⟩ }

/-- The REASON for which a WRITE is refused, 0 where it is not (R111, R115): the first of 7, 1, 2, 3 and 6. -/
def State.strReason (s : State) (vi i : Nat) (e : StrEntry) : Nat :=
  let dup := e.valid && s.str.entries.cells.any (fun (x : Nat × StrEntry) =>
    decide (x.1 ≠ i) && x.2.valid && sameKey x.2 e)
  let mapBad := (decide (e.tsmap = 1) && decide (e.media = 0))
    || (decide (e.tsmap = 2) && !(decide (e.kind = 4) || (decide (e.kind = 2) && decide ((s.grp e.destPhys).kind = 4))))
  if e.key = 3 ∨ 6 ≤ e.kind ∨ e.tsmap = 3 ∨ e.media = 3 then 7
  else if dup then 1
  else if (s.ownedDest vi e.kind (e.f 9 6 16)).isNone then 2
  else if mapBad then 3
  else if e.f 13 0 24 < e.f 12 0 24 then 6
  else 0

/-- The queue an entry's unicast packets enter, and its ring, for destinations that move (R163). -/
def StrEntry.path (e : StrEntry) : Option (Nat × Option Nat) :=
  if !e.valid then none
  else if e.kind = 1 then some (queueOf (copyPort e.destPhys e.cls e.sgrp), none)
  else if e.kind = 5 then some (queueOf (copyRing e.destPhys e.cls), some e.destPhys)
  else none

/-- The packet of stream `i` that went last to queue `q`: in the queue, or in a transit stage on the way to it (R164). -/
def State.lastOf (s : State) (i q : Nat) : Option Nat :=
  let inQ := (s.queue q).filterMap (fun x => if x.pkt.stream = some i then some x.pkt.id else none)
  let inS := s.fab.stage.cells.flatMap (fun (c : Nat × List Transit) => c.2.filterMap (fun t =>
    if t.pkt.stream = some i ∧ t.copies.any (fun c => decide (queueOf c.copy = q) && decide (c.leg = .waiting)) = true
    then some t.pkt.id else none))
  (inQ ++ inS).max?

/-- EGQ_PMOVE_TMO of the old port, or 1 ms for a host ring (R165). -/
def State.moveTmo (s : State) (old : Nat) : Nat :=
  if old < 16384 then clkUs (s.fld (egqPort (wellPort old) R.EGQ_PMOVE_TMO) 0 17) else clkMs 1

/-- Form or dissolve the merge pairs of an entry after a WRITE (R120); the flag says that no pair was left. -/
def State.repair (s : State) (i : Nat) (e : StrEntry) : State × Bool :=
  let s1 := { s with str := { s.str with pairs := ⟨s.str.pairs.cells.filter (fun (x : Nat × Pair) =>
    decide (x.1 ≠ i) && decide (x.2.other ≠ i))⟩ } }
  match e.peerPhys with
  | none => (s1, false)
  | some j =>
    match s1.str.entries.find? j with
    | none => (s1, false)
    | some p =>
      if i ≠ j ∧ e.valid ∧ p.valid ∧ e.f 11 0 1 = 1 ∧ p.f 11 0 1 = 1 ∧ p.peerPhys = some i ∧ e.w.getD 9 0 = p.w.getD 9 0
          ∧ e.media = p.media ∧ e.media ≠ 0 then
        (if 1024 ≤ s1.str.pairs.cells.length then (s1, true)
         else (s1.setPair (min i j) ⟨max i j, none, [], s.bus.now, s.bus.now, false, false, s.bus.now⟩, false))
      else (s1, false)

/-- Install an entry (R114): it replaces all 16 words; its meter is full (R116); WRITE clears its counters; a changed path
starts a move, marked at the last packet on the old path (R163, R164). -/
def State.strInstall (s : State) (w : StrWait) : State :=
  let old := s.str.entries.find? w.entry
  let new := s.makeEntry w.vi w.words
  let new1 := match old with
    | some o => if w.keep then { new with matched := o.matched, red := o.red, dup := o.dup, check := o.check } else new
    | none => new
  let r := (s.setEntry w.entry new1).repair w.entry new1
  let s1 := r.1
  let s2 := match (match old with | some o => o.path | none => none), new1.path with
    | some (q, ring), some (q', ring') =>
      if q = q' ∧ ring = ring' then s1
      else (match s1.lastOf w.entry q with
        | none => s1
        | some id => (({ s1 with str := { s1.str with moves := s1.str.moves.set w.entry ⟨id, q, q', ring⟩ } }).arm
            (tMove w.entry) (s1.moveTmo q)).refreshMoves q)
    | _, _ => s1
  let s3 := s2.wr (strReg w.vi w.page R.STR_STATUS) (if r.2 then 4 * 16 else 0)
  if r.2 then s3.on (·.cfgErrFor (Block.str.pg w.page) w.vi) else s3

/-- Whether a WRITE has to wait (R166): its entry moves, or it would start a move with all 1,024 slots in use. -/
def State.strWaits (s : State) (w : StrWait) : Bool :=
  (s.str.moves.find? w.entry).isSome
    || (decide (1024 ≤ s.str.moves.cells.length)
        && (match (s.str.entries.find? w.entry).bind StrEntry.path, (s.makeEntry w.vi w.words).path with
            | some a, some b => decide (a ≠ b)
            | _, _ => false))

/-- A WRITE or WRITE_KEEP: refused, kept BUSY, or applied. -/
def State.strWriteCmd (s : State) (vi page : Nat) (keep : Bool) : State :=
  s.strGuard vi page (fun s =>
    match s.strSel vi page with
    | none => s.strRefuse vi page 5
    | some i =>
      if s.bus.access .str i vi < 2 then s.on (·.denied)
      else
        let words := (List.range 16).map (fun k => s.rd (strReg vi page (R.STR_D + 4 * k)))
        let w : StrWait := ⟨vi, page, i, words, keep⟩
        let reason := s.strReason vi i (s.makeEntry vi words)
        if reason ≠ 0 then s.strRefuse vi page reason
        else if s.strWaits w || s.str.waits.any (fun x => decide (x.vi = vi) && decide (x.page = page)) then
          { s.setBit (strReg vi page R.STR_STATUS) 0 true with str := { s.str with waits := s.str.waits ++ [w] } }
        else s.strInstall w)

/-- STR_WRITE (R114): installs the entry and clears its counters, or is refused. -/
def execStrWrite (dt vi page : Nat) (s : State) : Res := .next ((s.tick dt).strWriteCmd vi page false)

/-- STR_WRITE_KEEP (R114): as WRITE, keeping the counters. -/
def execStrWriteKeep (dt vi page : Nat) (s : State) : Res := .next ((s.tick dt).strWriteCmd vi page true)

/-- STR_WRITE_SLOT_WAIT_END (R166): the oldest WRITE the VI's page keeps BUSY is applied once nothing holds it. -/
def execStrWriteSlotWaitEnd (dt vi page : Nat) (s : State) : Res :=
  let s := s.tick dt
  .next (match s.str.waits.find? (fun x => decide (x.vi = vi) && decide (x.page = page)) with
    | none => s
    | some w =>
      if s.strWaits w then s
      else
        let s1 := ({ s with str := { s.str with waits := s.str.waits.erase w } }).strInstall w
        if s1.str.waits.any (fun x => decide (x.vi = vi) && decide (x.page = page))
        then s1.setBit (strReg vi page R.STR_STATUS) 0 true else s1)

/-- The physical group a VI's GRP_SEL names (R117). -/
def State.grpSel (s : State) (vi page : Nat) : Option Nat :=
  match s.bus.physOf .str vi (s.fld (strReg vi page R.GRP_SEL) 0 13) with
  | some g => if g < 8192 then some g else none
  | none => none

/-- GRP_READ (R117): the group's local delivery and STATIC bitmap; DYNAMIC is read through the selector. -/
def execGrpRead (dt vi page : Nat) (s : State) : Res :=
  let s := s.tick dt
  .next (s.strGuard vi page (fun s =>
    match s.grpSel vi page with
    | none => s.strRefuse vi page 5
    | some g =>
      let x := s.grp g
      let s1 := (List.range 16).foldl (fun a k => a.wr (strReg vi page (R.GRP_STATIC + 4 * k)) (fieldOf (32 * k) 32 x.static)) s
      (s1.wr (strReg vi page R.GRP_LOCAL) (x.kind + x.index * 8)).wr (strReg vi page R.STR_STATUS) 0))

/-- GRP_WRITE (R117): installs the local delivery and the STATIC bitmap, or is refused: REASON 5 for a group the VI does not
hold, 7 for a local delivery of no listed kind (assumption log 12), 2 for one the VI does not own. -/
def execGrpWrite (dt vi page : Nat) (s : State) : Res :=
  let s := s.tick dt
  .next (s.strGuard vi page (fun s =>
    match s.grpSel vi page with
    | none => s.strRefuse vi page 5
    | some g =>
      if s.bus.access .str g vi < 2 then s.on (·.denied)
      else
        let loc := s.rd (strReg vi page R.GRP_LOCAL)
        let kind := fieldOf 0 3 loc
        let index := fieldOf 3 16 loc
        if !([0, 3, 4, 5].contains kind) then s.strRefuse vi page 7
        else match s.ownedDest vi kind index with
          | none => s.strRefuse vi page 2
          | some ph =>
            let st := (List.range 16).foldl (fun a k => a + s.rd (strReg vi page (R.GRP_STATIC + 4 * k)) * 2 ^ (32 * k)) 0
            (s.setGrp g { s.grp g with kind := kind, index := index, phys := ph, static := st }).wr
              (strReg vi page R.STR_STATUS) 0))

/-! ## Leg and pair silence (R121) -/

/-- MERGE_LEG_SILENT (R121): a leg that has had no packet for SILENT ms while the other delivered raises EV176, once. -/
def execMergeLegSilent (dt entry : Nat) (s : State) : Res :=
  let s := s.tick dt
  .next (match s.pairOf entry, s.str.entries.find? entry with
    | some (k, p), some e =>
      let legA := decide (k = entry)
      let mine := if legA then p.lastA else p.lastB
      let other := if legA then p.lastB else p.lastA
      let lost := if legA then p.lostA else p.lostB
      if lost ∨ s.bus.now < mine + e.silent ∨ other ≤ mine then s
      else (s.setPair k (if legA then { p with lostA := true } else { p with lostB := true })).strEvent entry 0
    | _, _ => s)

/-- MERGE_PAIR_SILENT (R121): a pair that has delivered nothing for SILENT ms forgets its history. -/
def execMergePairSilent (dt entry : Nat) (s : State) : Res :=
  let s := s.tick dt
  .next (match s.pairOf entry, s.str.entries.find? entry with
    | some (k, p), some e =>
      if s.bus.now < p.lastOut + e.silent then s else s.setPair k { p with newest := none, seen := [] }
    | _, _ => s)

/-! ## Snooping (R117) -/

/-- The GMI timers: of a group's port, and of a router port. -/
def tGmi (g port : Nat) : Nat := timerId 64 (g * 512 + port)
def tRouter (port : Nat) : Nat := timerId 5 port

/-- PRT_SNOOP.GMI of a port, in clocks. -/
def State.gmi (s : State) (port : Nat) : Nat := clkS (s.fld (prtKey port R.PRT_SNOOP) 0 16)

/-- The group that a report for a group address, and a source where one is named, is about: that of the KEY = 2 entry, else of
the KEY = 1 entry, among the entries that name a group. -/
def State.snoopGroup (s : State) (group : Nat) (v6 : Bool) (source : Option Nat) : Option Nat :=
  let hit := fun (k : Nat) (f : StrEntry → Bool) => (s.str.entries.cells.find? (fun (x : Nat × StrEntry) =>
    x.2.valid && decide (x.2.key = k) && decide (x.2.v6 = v6) && decide (x.2.dst = group) && decide (x.2.kind = 2) && f x.2)).map
      (fun x => x.2.destPhys)
  match source with
  | some src => (match hit 2 (fun e => decide (e.src = src)) with
      | some g => some g
      | none => hit 1 (fun _ => true))
  | none => hit 1 (fun _ => true)

/-- A port's DYNAMIC bit of a group. -/
def State.setDyn (s : State) (g port : Nat) (v : Bool) : State := s.setGrp g { s.grp g with dyn := setBitOf port v (s.grp g).dyn }

/-- Every report goes to the router ports (R117). -/
def State.toRouters (s : State) (port : Nat) (frame : List Byte) : State :=
  ((List.range 512).filter (fun p => bitOf p s.str.routers && decide (p ≠ port) && s.portUp p)).foldl
    (fun a p => a.sendFrame p frame) s

/-- SNOOP_REPORT (R117): on a port with SNOOP = 1 a join sets the port's DYNAMIC bit and starts its GMI anew, a leave clears it at
once under FAST_LEAVE; no entry raises EV179. IGMPv1 reports are ignored. -/
def execSnoopReport (dt port group : Nat) (v6 : Bool) (kind : SnoopKind) (frame : List Byte) (s : State) : Res :=
  let s := s.tick dt
  .next (if port < 512 ∧ s.bit (prtKey port R.PRT_CTRL) 4 = true then
    (match kind with
     | .igmpV1 => s
     | .join src => (match s.snoopGroup group v6 src with
        | some g => ((s.setDyn g port true).arm (tGmi g port) (s.gmi port)).toRouters port frame
        | none => (s.raise (Block.str.pg 0) 3).toRouters port frame)
     | .leave src => (match s.snoopGroup group v6 src with
        | some g =>
          if s.bit (prtKey port R.PRT_CTRL) 5 then ((s.setDyn g port false).disarm (tGmi g port)).toRouters port frame
          else s.toRouters port frame
        | none => (s.raise (Block.str.pg 0) 3).toRouters port frame))
  else s)

/-- SNOOP_QUERY (R117): the port is a router port for GMI seconds. -/
def execSnoopQuery (dt port : Nat) (s : State) : Res :=
  let s := s.tick dt
  .next (if port < 512 ∧ s.bit (prtKey port R.PRT_CTRL) 4 = true then
    ({ s with str := { s.str with routers := setBitOf port true s.str.routers } }).arm (tRouter port) (s.gmi port)
  else s)

/-- SNOOP_GMI_EXPIRE (R117): GMI seconds without a report clear the port's DYNAMIC bit, and without a query its router state. -/
def execSnoopGmiExpire (dt port : Nat) (group : Option Nat) (s : State) : Res :=
  let s := s.tick dt
  .next (match group with
    | some g => s.onExpiry (tGmi g port) (fun s => s.setDyn g port false)
    | none => s.onExpiry (tRouter port) (fun s => { s with str := { s.str with routers := setBitOf port false s.str.routers } }))

end Sys2Proof.Machine
end

