-- ==== Sys2Proof/Machine/Value.lean ====
section
/-! DEFINITION. Value frames and endpoints (R217 to R234): the meanings of the commands of chapter 08. -/

namespace Sys2Proof.Machine

def valPage : Nat := Block.val.pg 0
def valReg (vi off : Nat) : Nat := rkVi valPage off vi

/-- The device is bound (R382). -/
def State.bound (s : State) : Bool := s.bit (rk (Block.dky.pg 0) R.DKY_BIND0) 0

/-! ## Slots and maps (R223, R233) -/

/-- A register of a source slot, by its physical number. -/
def slotReg (k off : Nat) : Nat := rkSel valPage off k

/-- A register of a map, and of one of its rows. -/
def mapReg (m off : Nat) : Nat := rkSel valPage off m
def rowReg (m row off : Nat) : Nat := rkSel valPage off (m + 1024 * row)

/-- Slot k and map k share their grant with endpoint 256k (R223). -/
def State.slotAccess (s : State) (k vi : Nat) : Nat := s.bus.access .val (256 * k) vi
def State.slotOwner (s : State) (k : Nat) : Nat := s.bus.ownerOf .val (256 * k)

/-- The physical slot or map behind a VI's number: numbered from 0 in ascending physical order (R223). -/
def State.physSlot (s : State) (vi j : Nat) : Option Nat :=
  if vi = 0 then (if j < 1024 then some j else none)
  else ((List.range 1024).filter (fun k => decide (s.slotAccess k vi ≠ 0)))[j]?

/-- An event of a slot, for its owner (R234). -/
def State.slotEvent (s : State) (k bit : Nat) : State := s.raiseEntry .val bit (256 * k)

/-- An event of the engine for VI 0. -/
def State.valEvent0 (s : State) (bit : Nat) : State := s.on (·.raiseFor valPage bit 0 [])

def tSilent (k : Nat) : Nat := timerId 10 k
def tValHang : Nat := timerId 4 2

/-! ## The endpoint table -/

def State.ep (s : State) (i : Nat) : Ep := s.val.eps.find Ep.init i
def State.setEp (s : State) (i : Nat) (e : Ep) : State := { s with val := { s.val with eps := s.val.eps.put Ep.init i e } }
def Ep.valid (e : Ep) : Bool := bitOf 0 e.w0
def Ep.kind (e : Ep) : Nat := fieldOf 1 2 e.w0
def Ep.pattern (e : Ep) : Bool := bitOf 3 e.w0
def Ep.deadlineCode (e : Ep) : Nat := e.w2 % 65536
def Ep.alert (e : Ep) : Bool := bitOf 0 e.flags

/-- The valid endpoint that names a target (R227: there is at most one). -/
def State.epFor (s : State) (kind unit sub : Nat) : Option (Nat × Ep) :=
  s.val.eps.cells.find? (fun (x : Nat × Ep) =>
    x.2.valid && decide (x.2.kind = kind) && decide (x.2.unit = unit) && decide (x.2.sub = sub))

/-- Apply a record to an endpoint (R15, R16, R221); the flag says that it had an effect. -/
def State.applyRecord (s : State) (i value quality flags : Nat) (tc : CapTime) (inherit : Nat) (slot : Option Nat) : State × Bool :=
  let e := s.ep i
  if tcReplaces tc e.tc then
    (s.setEp i { e with value := value, quality := quality, flags := flags, tc := tc, inherit := inherit, slot := slot,
                        bySet := slot.isNone }, true)
  else (s, false)

/-! ## Value frames (R217 to R225) -/

/-- A record of a frame: endpoint, value, quality and flags (Table 8-2). -/
def valRecord (pl : List Byte) (i : Nat) : Nat × Nat × Nat × Nat :=
  let r := beAt pl (28 + 6 * i) 6
  (fieldOf 30 18 r, fieldOf 14 16 r, fieldOf 10 4 r, fieldOf 6 4 r)

/-- VALUE_FRAME_ENQUEUE (R225): the next frame that reached the engine enters its queue, or is rejected with reason 8. -/
def execValueFrameEnqueue (dt : Nat) (s : State) : Res :=
  let s := s.tick dt
  .next (match s.fab.valIn with
    | [] => s
    | p :: rest =>
      let s1 := { s with fab := { s.fab with valIn := rest } }
      if 1024 ≤ s1.val.queue.length then (s1.addSat (rk valPage R.VAL_CNT_OVF) 1).valEvent0 3
      else
        let s2 := { s1 with val := { s1.val with queue := s1.val.queue ++ [p] } }
        if s.val.queue.isEmpty then s2.arm tValHang (clkMs 1) else s2)

/-- The lowest valid slot that holds a source device (R224). -/
def State.slotOf (s : State) (dev : Nat) : Option Nat :=
  (List.range 1024).find? (fun k => s.bit (slotReg k R.VAL_SRC_DEV) 31 && decide (s.fld (slotReg k R.VAL_SRC_DEV) 0 18 = dev))

/-- Whether a RESTART is accepted: the slot allows it and the frame says it (R222). -/
def State.restarts (s : State) (k : Nat) (pl : List Byte) : Bool := s.bit (slotReg k R.VAL_SRC_DEV) 29 && bitOf 31 (beAt pl 4 4)

/-- The stream entry a slot's path names (R224). -/
def State.slotPath (s : State) (k : Nat) : Option Nat := s.bus.physOf .str (s.slotOwner k) (s.fld (slotReg k R.VAL_SRC_PATH) 0 16)

/-- Whether the slot's owner owns the endpoint a record names; its physical number (R224). -/
def State.recordTarget (s : State) (k j : Nat) : Option Nat :=
  let o := s.slotOwner k
  match s.bus.physOf .val o j with
  | some i => if s.bus.access .val i o = 2 then some i else none
  | none => none

/-- The reason a frame is rejected with once its slot is known, 0 where it is accepted (Table 8-3, tests 4 to 7). -/
def State.frameReason (s : State) (k : Nat) (p : Pkt) (pl : List Byte) : Nat :=
  let n := beAt pl 3 1
  let d := (beAt pl 8 4 + 2 ^ 32 - s.rd (slotReg k R.VAL_SRC_SEQ)) % 2 ^ 32
  let free := s.restarts k pl || !s.bit (slotReg k R.VAL_SRC_STAT) 0
  if s.bit (slotReg k R.VAL_SRC_PATH) 16 && decide (p.stream ≠ s.slotPath k) then 4
  else if (List.range n).any (fun i => (s.recordTarget k (valRecord pl i).1).isNone) then 5
  else if free then 0
  else if d = 0 then 6
  else if 2 ^ 31 ≤ d then 7
  else 0

/-- Apply the records of an accepted frame in order (R220, R221). -/
def State.applyFrame (s : State) (k : Nat) (p : Pkt) (pl : List Byte) : State :=
  (List.range (beAt pl 3 1)).foldl (fun a i =>
    let r := valRecord pl i
    match s.recordTarget k r.1 with
    | none => a
    | some e =>
      let q := a.applyRecord e r.2.1 r.2.2.1 r.2.2.2 p.tc (beAt pl 24 2) (some k)
      if q.2 then q.1.addWrap (rk valPage R.VAL_CNT_RECORDS) 1 else q.1.addSat (slotReg k R.VAL_SRC_CNT_OLDREC) 1) s

/-- Accept a frame: sequence state, gap, restart, silence, counters, then its records (R219 to R224). -/
def State.acceptFrame (s : State) (k : Nat) (p : Pkt) (pl : List Byte) : State :=
  let seen := s.bit (slotReg k R.VAL_SRC_STAT) 0
  let restart := s.restarts k pl
  let gap := (beAt pl 8 4 + 2 ^ 32 - s.rd (slotReg k R.VAL_SRC_SEQ) - 1) % 2 ^ 32
  let s1 := if seen && !restart && decide (gap ≠ 0) then (s.addSat (slotReg k R.VAL_SRC_CNT_GAP) gap).slotEvent k 2 else s
  let s2 := if restart then s1.slotEvent k 6 else s1
  let s3 := if s2.bit (slotReg k R.VAL_SRC_STAT) 1 then (s2.setBit (slotReg k R.VAL_SRC_STAT) 1 false).slotEvent k 5 else s2
  let s4 := (((((s3.wr (slotReg k R.VAL_SRC_SEQ) (beAt pl 8 4)).setBit (slotReg k R.VAL_SRC_STAT) 0 true).addWrap
    (slotReg k R.VAL_SRC_CNT_OK) 1).wr (slotReg k R.VAL_SRC_LAST_TA) (stampW0 p.ta)).wr (slotReg k (R.VAL_SRC_LAST_TA + 4))
      (stampW1 p.ta)).wr (slotReg k (R.VAL_SRC_LAST_TA + 8)) (stampW2 p.ta)
  let ms := s.fld (slotReg k R.VAL_SRC_SILENT) 0 16
  let s5 := if ms = 0 then s4.disarm (tSilent k) else s4.arm (tSilent k) (clkMs ms)
  (s5.addWrap (rk valPage R.VAL_CNT_FRAMES) 1).applyFrame k p pl

/-- Test a frame by Table 8-3 and reject or accept it. -/
def State.valFrame (s : State) (p : Pkt) : State :=
  let pl := match udpKey p.bytes with | some u => udpPayload p.bytes u.udp | none => []
  let reject := fun (s : State) => (s.addSat (rk valPage R.VAL_CNT_REJECT) 1)
  if pl.length < 28 ∨ beAt pl 0 2 ≠ 0x4B56 ∨ beAt pl 2 1 ≠ 1 then (reject s).valEvent0 1
  else if pl.length - 28 < beAt pl 3 1 * 6 then (reject s).valEvent0 1
  else match s.slotOf (beAt pl 4 4 % 2 ^ 18) with
    | none =>
      ((s.addSat (rk valPage R.VAL_CNT_UNKNOWN) 1).wr (rk valPage R.VAL_UNKNOWN_DEV) (beAt pl 4 4 % 2 ^ 18)).valEvent0 1
    | some k =>
      let r := s.frameReason k p pl
      if r = 0 then s.acceptFrame k p pl
      else ((((reject s).addSat (slotReg k R.VAL_SRC_CNT_REJ) 1).setFld (slotReg k R.VAL_SRC_STAT) 4 4 r)).slotEvent k 0

/-- VALUE_FRAME_APPLY (R219): the oldest queued frame is tested whole and rejected, or applied as one step. -/
def execValueFrameApply (dt : Nat) (s : State) : Res :=
  let s := s.tick dt
  .next (match s.val.queue with
    | [] => s
    | p :: rest =>
      let s1 := ({ s with val := { s.val with queue := rest } }).valFrame p
      if rest.isEmpty then s1.disarm tValHang else s1.arm tValHang (clkMs 1))

/-- VAL_SRC_SILENT_EXPIRE (R224): SILENT, EV248. -/
def execValSrcSilentExpire (dt slot : Nat) (s : State) : Res :=
  .next ((s.tick dt).onExpiry (tSilent slot) (fun s => (s.setBit (slotReg slot R.VAL_SRC_STAT) 1 true).slotEvent slot 4))

/-- What becomes of an access by a VI to the VAL page: ignored where it holds no endpoint, late while FAB is not up. -/
def State.valGuard (s : State) (vi : Nat) (f : State → State) : State :=
  if (s.bus.physOf .val vi 0).isNone then s
  else if !s.bus.pageUp valPage then s.on (·.late vi)
  else f s

/-- VAL_SRC_DEV_WRITE (R224): a write of VAL_SRC_DEV of the slot the VI selects resets the slot's sequence state and counters. -/
def execValSrcDevWrite (dt vi value : Nat) (s : State) : Res :=
  let s := s.tick dt
  .next (s.valGuard vi (fun s =>
    match s.physSlot vi (s.fld (valReg vi R.VAL_SRC_SEL) 0 10) with
    | none => s
    | some k =>
      if s.slotAccess k vi < 2 then s.on (·.denied)
      else
        let s1 := s.wr (slotReg k R.VAL_SRC_DEV) (maskOf 0xA003FFFF value)
        ([R.VAL_SRC_SEQ, R.VAL_SRC_STAT, R.VAL_SRC_CNT_OK, R.VAL_SRC_CNT_REJ, R.VAL_SRC_CNT_GAP, R.VAL_SRC_CNT_OLDREC].foldl
          (fun a off => a.wr (slotReg k off) 0) s1).disarm (tSilent k)))

/-! ## Endpoint commands (R227) -/

/-- The physical endpoint a VI's VAL_EP_SEL names. -/
def State.epSel (s : State) (vi : Nat) : Option Nat := s.bus.physOf .val vi (s.fld (valReg vi R.VAL_EP_SEL) 0 18)

/-- A command is refused. -/
def State.epRefuse (s : State) (vi reason : Nat) : State :=
  (s.wr (valReg vi R.VAL_EP_STATUS) (2 + 16 * reason)).on (·.cfgErrFor valPage vi)

/-- The block that drives a kind of endpoint, and the unit and the place within it that TARGET names (Table 8-4). -/
def targetOf (kind w1 : Nat) : Block × Nat × Nat :=
  match kind with
  | 0 => (.lit, fieldOf 12 6 w1, w1 % 4096)
  | 1 => (.mtx, fieldOf 10 1 w1, w1 % 1024)
  | 2 => (.stg, w1 % 16, 0)
  | _ => (.cnv, fieldOf 12 4 w1, w1 % 4096)

/-- TARGET for a unit and a place within it. -/
def targetWord (kind unit sub : Nat) : Nat :=
  match kind with
  | 1 => unit * 1024 + sub
  | 2 => unit
  | _ => unit * 4096 + sub

/-- The number by which a VI knows a slot or map (R223). -/
def State.localSlot (s : State) (vi k : Nat) : Nat :=
  if vi = 0 then k else ((List.range k).filter (fun x => decide (s.slotAccess x vi ≠ 0))).length

/-- Words 0 and 1 as a VI reads them: target, engine and map in its own numbering (R91); 0 for one that it does not reach. -/
def State.epLocal (s : State) (vi : Nat) (e : Ep) : Nat × Nat :=
  let l := fun (b : Block) (i : Nat) => (s.bus.localOf b vi i).getD 0
  (setFieldOf 4 4 (l .pat e.pat) (setFieldOf 8 10 (s.localSlot vi e.map) e.w0),
   targetWord e.kind (l (targetOf e.kind 0).1 e.unit) e.sub)

/-- The words of an entry as a VI reads them (Table 8-4). -/
def State.epWords (s : State) (vi i : Nat) : List Nat :=
  let e := s.ep i
  let sl := match e.slot with
    | some k => if s.slotAccess k vi = 0 then 0
                else ((List.range k).filter (fun x => decide (s.slotAccess x vi ≠ 0))).length % 1024 * 2 ^ 16 + 2 ^ 26
    | none => 0
  let w := s.epLocal vi e
  [w.1, w.2, e.w2,
   e.value % 65536 + e.quality % 16 * 2 ^ 16 + e.flags % 16 * 2 ^ 20 + b2n e.stale * 2 ^ 24 + b2n e.tc.isNone * 2 ^ 25,
   e.inherit % 65536 + sl + b2n e.bySet * 2 ^ 27, tcWord 0 e.tc, tcWord 1 e.tc, tcWord 2 e.tc]

/-- VAL_EP_READ (R227): all eight words of the selected endpoint; a VI with read access may read. -/
def execValEpRead (dt vi : Nat) (s : State) : Res :=
  let s := s.tick dt
  .next (s.valGuard vi (fun s =>
    match s.epSel vi with
    | none => s.epRefuse vi 5
    | some i =>
      let w := s.epWords vi i
      ((List.range 8).foldl (fun a k => a.wr (valReg vi (R.VAL_EP_D + 4 * k)) (w.getD k 0)) s).wr (valReg vi R.VAL_EP_STATUS) 0))

/-- The entry that a VI's configuration words make, its target, engine and map translated; none where one lies outside the VI's
grants. -/
def State.epConfig (s : State) (vi : Nat) (w : List Nat) : Option (Nat × Nat) × Option Nat × Option Nat :=
  let w0 := w.getD 0 0
  let t := targetOf (fieldOf 1 2 w0) (w.getD 1 0)
  let unit := match s.bus.physOf t.1 vi t.2.1 with
    | some u => if s.bus.access t.1 u vi = 2 then some (u, t.2.2) else none
    | none => none
  (unit, s.bus.physOf .pat vi (fieldOf 4 4 w0), s.physSlot vi (fieldOf 8 10 w0))

/-- The REASON for which a WRITE is refused, 0 where it is not: the first of 4, 1, 3 and 2 (R227). -/
def State.epReason (s : State) (vi i : Nat) (w : List Nat) : Nat :=
  let w0 := w.getD 0 0
  let c := s.epConfig vi w
  if fieldOf 1 2 w0 = 2 ∧ 11 < w.getD 1 0 % 16 then 4
  else match c.1 with
    | none => 1
    | some (u, sub) =>
      if c.2.1.isNone ∨ c.2.2.isNone then 3
      else if bitOf 0 w0 ∧ (match s.epFor (fieldOf 1 2 w0) u sub with | some (j, _) => decide (j ≠ i) | none => false) = true then 2
      else 0

/-- The configuration words of a VI in physical numbering. -/
def State.epPhys (s : State) (vi : Nat) (w : List Nat) : List Nat :=
  let c := s.epConfig vi w
  let us := c.1.getD (0, 0)
  let w0 := maskOf 0x3FFFF (w.getD 0 0)
  [setFieldOf 4 4 (c.2.1.getD 0) (setFieldOf 8 10 (c.2.2.getD 0) w0), targetWord (fieldOf 1 2 w0) us.1 us.2, w.getD 2 0 % 65536]

/-- The journal entries of an endpoint's configuration, in physical numbering (R448, R449). -/
def epEntries (i : Nat) (w : List Nat) : List (Nat × Nat) :=
  (List.range 3).map (fun k => (jkey (rk valPage (R.VAL_EP_D + 4 * k)) i, w.getD k 0))

/-- Install configuration words of a VI (R227); `clear` sets the state words to their reset values. -/
def State.epInstall (s : State) (vi i : Nat) (w : List Nat) (clear : Bool) : State :=
  let c := s.epConfig vi w
  let e := if clear then Ep.init else s.ep i
  let us := c.1.getD (0, 0)
  let p := s.epPhys vi w
  s.setEp i { e with w0 := p.getD 0 0, w1 := p.getD 1 0, w2 := p.getD 2 0,
                     unit := us.1, sub := us.2, pat := c.2.1.getD 0, map := c.2.2.getD 0 }

/-- Carry out a WRITE or WRITE_CLEAR whose record waited for room (R448). -/
def State.epApply (s : State) (w : JWait) : State :=
  ((s.epInstall w.vi w.index w.words (decide (w.kind = 1))).setBit (valReg w.vi R.VAL_EP_STATUS) 0 false)

/-- A WRITE (kind 0) or WRITE_CLEAR (kind 1). -/
def State.epWriteCmd (s : State) (vi kind : Nat) : State :=
  s.valGuard vi (fun s =>
    match s.epSel vi with
    | none => s.epRefuse vi 5
    | some i =>
      if s.bus.access .val i vi < 2 then s.on (·.denied)
      else
        let w := (List.range 3).map (fun k => s.rd (valReg vi (R.VAL_EP_D + 4 * k)))
        let r := s.epReason vi i w
        if r ≠ 0 then s.epRefuse vi r
        else (s.wr (valReg vi R.VAL_EP_STATUS) 0).journaled ⟨kind, vi, i, w⟩ (epEntries i (s.epPhys vi w))
          (fun a => a.setBit (valReg vi R.VAL_EP_STATUS) 0 true) (fun a => a.epApply ⟨kind, vi, i, w⟩))

/-- VAL_EP_WRITE (R227): installs words 0 to 2 and keeps the state words, or is refused; journaled (R448). -/
def execValEpWrite (dt vi : Nat) (s : State) : Res := .next ((s.tick dt).epWriteCmd vi 0)

/-- VAL_EP_WRITE_CLEAR (R227): installs words 0 to 2 and resets the state words, age unknown included. -/
def execValEpWriteClear (dt vi : Nat) (s : State) : Res := .next ((s.tick dt).epWriteCmd vi 1)

/-- VAL_EP_SET (R227): value, quality, flags and INHERIT with Tc := W, subject to R15. -/
def execValEpSet (dt vi : Nat) (s : State) : Res :=
  let s := s.tick dt
  .next (s.valGuard vi (fun s =>
    match s.epSel vi with
    | none => s.epRefuse vi 5
    | some i =>
      if s.bus.access .val i vi < 2 then s.on (·.denied)
      else
        let d3 := s.rd (valReg vi (R.VAL_EP_D + 12))
        ((s.applyRecord i (d3 % 65536) (fieldOf 16 4 d3) (fieldOf 20 4 d3) s.arrival (s.fld (valReg vi (R.VAL_EP_D + 16)) 0 16)
          none).1).wr (valReg vi R.VAL_EP_STATUS) 0))

/-- VAL_ENGINE_HANG (R234): no progress for 1 ms with frames queued: FS66; the engine is reset and the queued frames are rejected
as OVERFLOW. -/
def execValEngineHang (dt : Nat) (s : State) : Res :=
  .next ((s.tick dt).onExpiry tValHang (fun s =>
    if s.val.queue.isEmpty then s
    else
      let s1 := (s.fault 66 { page := valPage }).addSat (rk valPage R.VAL_CNT_OVF) s.val.queue.length
      ({ s1 with val := { s1.val with queue := [] } }).valEvent0 3))

/-! ## Value-to-colour maps (R230) -/

/-- The row of a map an endpoint's value and quality choose. -/
def State.mapRow (s : State) (e : Ep) : Nat :=
  let ctrl := s.rd (mapReg e.map R.VAL_MAP_CTRL)
  if e.quality ≠ 0 ∧ bitOf (16 + e.quality) ctrl then 14
  else if bitOf 0 ctrl then
    ((List.range 13).filter (fun i => decide (s.fld (mapReg e.map (R.VAL_MAP_THR + 4 * (i / 2))) (16 * (i % 2)) 16 ≤ e.value))).length
  else min e.value 13

/-- The colour of a map's row: three channels and a cell colour. -/
structure Colour where
  c0 : Nat
  c1 : Nat
  c2 : Nat
  cell : Nat
  deriving DecidableEq, Repr
def State.rowColour (s : State) (m row : Nat) : Colour :=
  ⟨s.fld (rowReg m row R.VAL_MAP_ROW_CH01) 0 16, s.fld (rowReg m row R.VAL_MAP_ROW_CH01) 16 16,
   s.fld (rowReg m row R.VAL_MAP_ROW_CH2) 0 16, s.rd (rowReg m row R.VAL_MAP_ROW_CELL)⟩

end Sys2Proof.Machine
end

