-- ==== Sys2Proof/Machine/Pattern.lean ====
section
/-! DEFINITION. The pattern engines and the presentation of an endpoint (R229, R230, R249 to R252). -/

namespace Sys2Proof.Machine

def patPage (p : Nat) : Nat := Block.pat.pg p
def patKey (p off : Nat) : Nat := rk (patPage p) off

/-- Step `i` of table `t` of an engine, reached through PAT_TBL_SEL. -/
def patStepKey (p t i : Nat) : Nat := rkSel (patPage p) R.PAT_TBL_DATA (t + 16 * i)

/-- A step of a table (Table 9-6). -/
structure PatStep where
  dur : Nat
  src : Nat
  level : Nat
  ramp : Bool
  deriving DecidableEq, Repr

/-- A step word read as a step. -/
def patStep (w : Nat) : PatStep := ⟨fieldOf 0 12 w, fieldOf 12 3 w, fieldOf 15 8 w, bitOf 23 w⟩

/-- The steps of a table: those before the first with DUR = 0 (R249). -/
def State.patSteps (s : State) (p t : Nat) : List PatStep :=
  ((List.range 16).map (fun i => patStep (s.rd (patStepKey p t i)))).takeWhile (fun x => x.dur != 0)

/-- The period of a table (R249). -/
def patPeriod (l : List PatStep) : Nat := l.foldl (fun n x => n + x.dur) 0

/-- The step at phase `ph` of a list of steps: its index and the phase within it. -/
def stepAt : List PatStep → Nat → Nat → Nat × Nat
  | [], i, ph => (i, ph)
  | x :: t, i, ph => if ph < x.dur then (i, ph) else stepAt t (i + 1) (ph - x.dur)

/-- The source and the level a table shows at phase `ph` (R249, R250). -/
def patShow (l : List PatStep) (ph : Nat) : Nat × Nat :=
  let at' := stepAt l 0 ph
  match l[at'.1]? with
  | none => (0, 255)
  | some x =>
    let next := ((l[at'.1 + 1]?).getD (l.headD x)).level
    (x.src, if x.ramp then ((x.level : Int) + (((next : Int) - x.level) * at'.2).tdiv x.dur).toNat else x.level)

/-- A cell colour scaled by `num` / `den`: Y' about 64 and C about 512, rounded down (R204, R250). -/
def scaleCell (w num den : Nat) : Nat :=
  let sc := fun (c mid : Nat) => ((mid : Int) + (((c : Int) - mid) * num).fdiv den).toNat
  sc (fieldOf 20 10 w) 64 * 2 ^ 20 + sc (fieldOf 10 10 w) 512 * 2 ^ 10 + sc (fieldOf 0 10 w) 512

/-- A colour scaled by a level in 1/255 (R250). -/
def Colour.scale (c : Colour) (level : Nat) : Colour :=
  ⟨c.c0 * level / 255, c.c1 * level / 255, c.c2 * level / 255, scaleCell c.cell level 255⟩

/-- Off: all channels 0, black for a cell (R250). -/
def Colour.off : Colour := ⟨0, 0, 0, 0x04080200⟩

/-- The engine colour. -/
def State.patColour (s : State) (p : Nat) : Colour :=
  ⟨s.fld (patKey p R.PAT_COLOUR_CH01) 0 16, s.fld (patKey p R.PAT_COLOUR_CH01) 16 16, s.fld (patKey p R.PAT_COLOUR_CH2) 0 16,
   s.rd (patKey p R.PAT_COLOUR_CELL)⟩

/-- The milliseconds of W an engine's table runs on: those of the hold for a held run or alert table (R250, R252). -/
def State.patMs (s : State) (p t w : Nat) : Nat :=
  match s.lit.hold.find? p with
  | some ms => if t < 2 then ms else w / 4000000
  | none => w / 4000000

/-- The colour table `t` of engine `p` gives an endpoint at W = `w` (250 ps units) for position `pos` (R250, R251). -/
def State.patDraw (s : State) (p t w pos : Nat) (e : Ep) : Colour :=
  let l := s.patSteps p t
  let per := patPeriod l
  let ph := if per = 0 then 0 else (s.patMs p t w + pos * s.fld (patKey p R.PAT_CTRL) 0 16) % per
  let x := patShow l ph
  let src := if t = 3 ∧ x.1 < 2 then 3 else x.1
  let base : Colour := match src with
    | 0 => s.rowColour e.map (s.mapRow e)
    | 1 => s.rowColour e.map 15
    | 3 => s.patColour p
    | _ => Colour.off
  base.scale x.2

/-- How an endpoint is shown (Table 8-5): the starting table, the run table, the stale table, the alert table, or the map
colour. -/
inductive Shown where
  | starting
  | run
  | stale
  | alert
  | map
  deriving DecidableEq, Repr

/-- The first row of Table 8-5 that applies, for the measurement point W = `w` and allowances of `allow` ns (R229, R232). -/
def State.shownAs (s : State) (e : Ep) (w allow : Nat) : Shown :=
  if s.bound = false ∨ s.timState = 0 then .starting
  else if e.pattern then .run
  else if s.stale w e.tc (endpointDeadline e.deadlineCode e.inherit) allow then .stale
  else if e.alert then .alert
  else .map

/-- The colour an endpoint shows at W = `w` for position `pos` (R229, R251). -/
def State.present (s : State) (e : Ep) (pos w : Nat) (how : Shown) : Colour :=
  match how with
  | .starting => s.patDraw e.pat 3 w pos e
  | .run => s.patDraw e.pat 0 w pos e
  | .stale => s.patDraw e.pat 2 w pos e
  | .alert => s.patDraw e.pat 1 w pos e
  | .map => s.rowColour e.map (s.mapRow e)

/-- Record on an endpoint whether it is shown stale (Table 8-4, STALE). -/
def State.markStale (s : State) (i : Nat) (how : Shown) : State :=
  s.setEp i { s.ep i with stale := decide (how = .stale) || decide (how = .starting) }

/-- The budget scheduler holds or releases an engine (R252): HELD and EV268 at each change. -/
def State.patHold (s : State) (p : Nat) (held : Bool) : State :=
  if (s.lit.hold.find? p).isSome = held then s
  else
    let h := if held then s.lit.hold.set p (s.bus.w250 / 4000000) else s.lit.hold.erase p
    (({ s with lit := { s.lit with hold := h } }).setBit (patKey p R.PAT_STATUS) 0 held).raise (patPage p) 0

end Sys2Proof.Machine
end

