-- ==== Sys2Proof/Machine/Light.lean ====
section
/-! DEFINITION. Light output: bucket chains, matrix ports, string stages and calibration (R235 to R266): the meanings of the
commands of chapter 09. -/

namespace Sys2Proof.Machine

/-! ## Keys and records -/

def litPage (c : Nat) : Nat := Block.lit.pg c
def litKey (c off : Nat) : Nat := rk (litPage c) off
def calPage : Nat := Block.cal.pg 0
def calReg (vi off : Nat) : Nat := rkVi calPage off vi
def mtxPage (m : Nat) : Nat := Block.mtx.pg m
def mtxKey (m off : Nat) : Nat := rk (mtxPage m) off
def stgPage (n : Nat) : Nat := Block.stg.pg n
def stgKey (n off : Nat) : Nat := rk (stgPage n) off

def State.chain (s : State) (c : Nat) : Chain := s.lit.chains.find Chain.init c
def State.setChain (s : State) (c : Nat) (x : Chain) : State :=
  { s with lit := { s.lit with chains := s.lit.chains.put Chain.init c x } }
def State.modChain (s : State) (c : Nat) (f : Chain → Chain) : State := s.setChain c (f (s.chain c))
def State.mtx (s : State) (m : Nat) : Mtx := s.lit.mtx.find Mtx.init m
def State.setMtx (s : State) (m : Nat) (x : Mtx) : State := { s with lit := { s.lit with mtx := s.lit.mtx.put Mtx.init m x } }
def State.stage (s : State) (n : Nat) : Stage := s.lit.stg.find Stage.init n
def State.setStage' (s : State) (n : Nat) (x : Stage) : State := { s with lit := { s.lit with stg := s.lit.stg.put Stage.init n x } }

/-- Whether the block of a page runs: PAGE_STATUS.ENABLED (Table 3-2). It follows PAGE_CTRL.EN, but for a function that lost its claim
(R95). -/
def State.pageEn (s : State) (page : Nat) : Bool := s.bit (rk page hdrPageStatus) 0

/-- The chain length in use. -/
def State.litLen (s : State) (c : Nat) : Nat := s.fld (litKey c R.LIT_LEN) 0 13

/-- LIT_PROP in timebase clocks, rounded up. -/
def State.litProp (s : State) (c : Nat) : Nat := ceilDiv (s.fld (litKey c R.LIT_PROP) 0 16) 2

def tZone (c z : Nat) : Nat := timerId 11 (c * 8 + z)
def tStgRead (n : Nat) : Nat := timerId 12 n
def tStgEff (n : Nat) : Nat := timerId 13 n
def tStgRetry (n : Nat) : Nat := timerId 14 n
def tEnumPass (c : Nat) : Nat := timerId 15 c

/-! ## Temperatures and derating (R248, R260, R265) -/

/-- The derating factor for a temperature in 1/16 °C; none is invalid (R248). -/
def derate (t : Option Int) (knee slope floor : Nat) : Nat :=
  match t with
  | none => floor
  | some t =>
    if t ≤ 16 * (knee : Int) then 256
    else max floor (256 - (((slope : Int) * (t - 16 * knee)) / 16).toNat)

/-- The temperature of an NTC input in 1/16 °C; none while it reports invalid. -/
def State.ntcTemp (s : State) (n : Nat) : Option Int := (s.lit.ntc.find? n).map (signedOf 16)

/-- Where zone `z` of a chain starts, if it is in use, given the greatest start below it (R248). -/
def State.zoneStart (s : State) (c z : Nat) (last : Nat) : Option Nat :=
  let zs := s.fld (litKey c (R.LIT_ZONE + 4 * z)) 0 13
  if z = 0 then some 0 else if last < zs then some zs else none

/-- The zones in use with their starts, in order (R248). -/
def State.zones (s : State) (c : Nat) : List (Nat × Nat) :=
  ((List.range 8).foldl (fun (a : List (Nat × Nat) × Nat) z =>
    match s.zoneStart c z a.2 with
    | some st => (a.1 ++ [(z, st)], st)
    | none => a) ([], 0)).1

/-- The source of a zone's temperature: 0 none, 1 an NTC input, 2 its sense device. -/
def State.zoneSrc (s : State) (c z : Nat) : Nat := let v := s.fld (litKey c (R.LIT_ZONE + 4 * z)) 13 2; if v = 3 then 0 else v
def State.zoneDev (s : State) (c z : Nat) : Nat := s.fld (litKey c (R.LIT_ZONE + 4 * z)) 19 12

/-- The temperature of a zone that has a source; none is invalid (R248). A sense device that has given none yet is invalid
(assumption log 17). -/
def State.zoneTemp (s : State) (c z : Nat) : Option Int :=
  if s.zoneSrc c z = 1 then s.ntcTemp (s.fld (litKey c (R.LIT_ZONE + 4 * z)) 15 4)
  else if s.litLen c ≤ s.zoneDev c z then none
  else ((s.chain c).sense.find? z).map (signedOf 16)

/-- The derating factor of a zone. -/
def State.zoneD (s : State) (c z : Nat) : Nat :=
  let k := litKey c R.LIT_DERATE
  if s.zoneSrc c z = 0 then 256 else derate (s.zoneTemp c z) (s.fld k 0 8) (s.fld k 8 8) (s.fld k 16 8)

/-- LIT_ZONE_TEMP of a zone in use follows its temperature; EV259 as it becomes invalid (R248). -/
def State.zoneRefresh (s : State) (c z : Nat) : State :=
  if s.zoneSrc c z = 0 then
    (s.wr (litKey c (R.LIT_ZONE_TEMP + 4 * z)) (2 ^ 16 + 256 * 2 ^ 17)).modChain c (fun x => { x with zinv := x.zinv.filter (· != z) })
  else match s.zoneTemp c z with
    | some t =>
      (s.wr (litKey c (R.LIT_ZONE_TEMP + 4 * z)) (ofSigned 16 t + 2 ^ 16 + s.zoneD c z * 2 ^ 17)).modChain c
        (fun x => { x with zinv := x.zinv.filter (· != z) })
    | none =>
      let s1 := s.wr (litKey c (R.LIT_ZONE_TEMP + 4 * z)) (s.zoneD c z * 2 ^ 17)
      if (s.chain c).zinv.contains z then s1
      else (s1.modChain c (fun x => { x with zinv := z :: x.zinv })).raise (litPage c) 7

def State.zonesRefresh (s : State) (c : Nat) : State := (s.zones c).foldl (fun a z => a.zoneRefresh c z.1) s

/-- The derating factor of a device of a chain: that of the in-use zone with the greatest start at or below it. -/
def State.deviceD (s : State) (c d : Nat) : Nat :=
  match ((s.zones c).filter (fun (z : Nat × Nat) => decide (z.2 ≤ d))).getLast? with
  | some z => s.zoneD c z.1
  | none => 256

/-! ## Calibration (R246, R247) -/

/-- Entry `e` of the identity matrix: 8,192 stands for 1.0. -/
def identityEntry (e : Nat) : Nat := if e % 4 = 0 then 8192 else 0

/-- Entry `e` = 3i + j of matrix row `k`. -/
def State.mtxEntry (s : State) (k e : Nat) : Nat := s.lit.rows.find (identityEntry e) (9 * k + e)
def State.setMtxEntry (s : State) (k e v : Nat) : State :=
  { s with lit := { s.lit with rows := s.lit.rows.put (identityEntry e) (9 * k + e) (v % 65536) } }

/-- Calibration at first power: every gain 2,048, bin 0. -/
def calDefault : Nat × Nat := (2048 + 2048 * 4096, 2048)
def State.calEntry (s : State) (j : Nat) : Nat × Nat := s.lit.cal.find calDefault j
def State.setCal (s : State) (j : Nat) (d : Nat × Nat) : State := { s with lit := { s.lit with cal := s.lit.cal.put calDefault j d } }

/-- Round a signed fraction to the nearest integer, a half away from zero. -/
def roundHalf (n : Int) (d : Nat) : Int :=
  if 0 ≤ n then (2 * n + d) / (2 * d) else -((2 * (-n) + d) / (2 * d))

/-- One channel of a bucket (R246). -/
def calChannel (m0 m1 m2 : Int) (c : Colour) (gain d : Nat) : Nat :=
  let v := max 0 (min 65535 (roundHalf (m0 * c.c0 + m1 * c.c1 + m2 * c.c2) 8192))
  min 65535 (v.toNat * gain / 2048) * d / 256

/-- The 48-bit bucket of a lamp (R236, R246). -/
def State.bucket (s : State) (j : Nat) (c : Colour) (d : Nat) : Nat :=
  let e := s.calEntry j
  let m := fun (i : Nat) => signedOf 16 (s.mtxEntry (fieldOf 12 8 e.2) i)
  calChannel (m 0) (m 1) (m 2) c (fieldOf 0 12 e.1) d * 2 ^ 32 + calChannel (m 3) (m 4) (m 5) c (fieldOf 12 12 e.1) d * 2 ^ 16
    + calChannel (m 6) (m 7) (m 8) c (fieldOf 0 12 e.2) d

/-! ## Chains: commands -/

/-- CRC-8 of a 48-bit word, polynomial 0x07, initial value 0, over [47:8], from bit 47 (Table 9-2). -/
def crc8Step (w : Nat) (c i : Nat) : Nat :=
  let b := (b2n (bitOf (47 - i) w) + c / 128) % 2
  let c1 := c * 2 % 256
  if b = 1 then Nat.xor c1 7 else c1
def crc8 (w : Nat) : Nat := (List.range 40).foldl (crc8Step w) 0

/-- Whether a word's CRC is good. -/
def crc8Ok (w : Nat) : Bool := decide (crc8 w = w % 256)

/-- A software command ends with a result (R241). -/
def State.cmdDone (s : State) (c res : Nat) : State :=
  let k := litKey c R.LIT_CMD_STATUS
  let s1 := (((s.modChain c (fun x => { x with cmd := none, waits := 0, enumCmd := false })).setBit k 0 false).setFld k 1 3 res).raise
    (litPage c) 5
  if res = 0 then s1 else (s1.addSat (litKey c R.LIT_CNT_CMD_ERR) 1).raise (litPage c) 6

/-- Whether a software command is in progress on a chain. -/
def Chain.busyCmd (x : Chain) : Bool :=
  x.cmd.isSome || x.enumCmd || (match x.flight with | some (.software _) => true | _ => false)

/-- A write of LIT_CMD (R241): dropped with a configuration error while BUSY is 1 or the chain is disabled; an ENUM asks for an
enumeration at the end of a latch (R243), any other opcode waits for the slack. -/
def State.litCmd (s : State) (vi c op hop : Nat) (bcast : Bool) : State :=
  s.guardWrite vi (litPage c) (fun s =>
    let k := litKey c R.LIT_CMD_STATUS
    if s.bit k 0 ∨ s.pageEn (litPage c) = false then s.cfgErr (litPage c)
    else
      let s1 := s.setBit k 0 true
      if op = 1 then s1.modChain c (fun x => { x with enumReq := true, enumCmd := true })
      else s1.modChain c (fun x => { x with cmd := some ⟨op, hop, bcast, s.fld (litKey c R.LIT_CMD_DATA) 0 16⟩, waits := 0 }))

/-- LIT_CMD_PING (R239). -/
def execLitCmdPing (dt vi chain hop : Nat) (bcast : Bool) (s : State) : Res := .next ((s.tick dt).litCmd vi chain 0x00 hop bcast)
/-- LIT_CMD_ENUM (R241, R243). -/
def execLitCmdEnum (dt vi chain hop : Nat) (bcast : Bool) (s : State) : Res := .next ((s.tick dt).litCmd vi chain 0x01 hop bcast)
/-- LIT_CMD_SET_LOSS (R239). -/
def execLitCmdSetLoss (dt vi chain hop : Nat) (bcast : Bool) (s : State) : Res := .next ((s.tick dt).litCmd vi chain 0x02 hop bcast)
/-- LIT_CMD_SET_FAIL (R239). -/
def execLitCmdSetFail (dt vi chain hop : Nat) (bcast : Bool) (s : State) : Res := .next ((s.tick dt).litCmd vi chain 0x03 hop bcast)
/-- LIT_CMD_READ_TEMP (R239). -/
def execLitCmdReadTemp (dt vi chain hop : Nat) (bcast : Bool) (s : State) : Res := .next ((s.tick dt).litCmd vi chain 0x10 hop bcast)
/-- LIT_CMD_READ_ID (R239). -/
def execLitCmdReadId (dt vi chain hop : Nat) (bcast : Bool) (s : State) : Res := .next ((s.tick dt).litCmd vi chain 0x11 hop bcast)

/-- The reply words a command expects: none unless it is READ_TEMP or READ_ID, one from an addressed device, one from each
device of a broadcast (R239, R241). -/
def replyCount (len : Nat) (c : LitCmd) : Nat := if c.op = 0x10 ∨ c.op = 0x11 then (if c.bcast then len else 1) else 0

/-- The length of a command frame in clocks: gap, mark, command word, expected replies, the return through LIT_PROP and the
closing gap (R235, R238). -/
def State.cmdTime (s : State) (c replies : Nat) : Nat := clkUs (4 + 2 + 3 + 3 * replies + 4) + s.litProp c

/-- The zone whose sense device is to be asked next: one in use, its device within the chain, not asked for 50 ms (R248; half the
longest interval allowed: assumption log 18). -/
def State.zoneDue (s : State) (c : Nat) : Option Nat :=
  let x := s.chain c
  ((s.zones c).find? (fun (z : Nat × Nat) => decide (s.zoneSrc c z.1 = 2) && decide (s.zoneDev c z.1 < s.litLen c)
    && (match x.asked.find? z.1 with | some at' => decide (at' + clkMs 50 ≤ s.bus.now) | none => true))).map (·.1)

/-- What the next command frame would be: software's command, then a zone's temperature read, then the tail check (R238). -/
def State.nextCmd (s : State) (c : Nat) : Option Flight :=
  let x := s.chain c
  match x.cmd with
  | some m => some (.software m)
  | none => match s.zoneDue c with
    | some z => some (.temp z)
    | none => if s.bit (litKey c R.LIT_CTRL) 0 ∧ x.tailSent = false then some .tail else none

def State.flightReplies (s : State) (c : Nat) (f : Flight) : Nat :=
  match f with
  | .software m => replyCount (s.litLen c) m
  | .temp _ => 1
  | .tail => 0

/-- CHAIN_COMMAND_FRAME (R238): in the slack, the waiting command of the highest order is sent if it ends at least 4 µs before
the next data frame starts. -/
def execChainCommandFrame (dt chain : Nat) (s : State) : Res :=
  let s := s.tick dt
  let x := s.chain chain
  .next (match x.start, s.nextCmd chain with
    | some st, some f =>
      let t := s.cmdTime chain (s.flightReplies chain f)
      if x.flight.isNone ∧ x.enumRun = false ∧ x.enumReq = false ∧ x.lineFree ≤ s.bus.now ∧ s.bus.now + t + clkUs 4 ≤ st
          ∧ s.bit (litKey chain R.LIT_STATUS) 0 then
        s.setChain chain { x with
          flight := some f, lineFree := s.bus.now + t, cmd := none
          tailSent := x.tailSent || decide (f = .tail)
          asked := (match f with | .temp z => x.asked.set z s.bus.now | _ => x.asked) }
      else s
    | _, _ => s)

/-- LENGTH is set and EV255 raised; with AUTO_ENUM an enumeration is asked for (R245). -/
def State.litLength (s : State) (c : Nat) : State :=
  let s1 := (s.setBit (litKey c R.LIT_STATUS) 4 true).raise (litPage c) 3
  if s1.bit (litKey c R.LIT_CTRL) 2 then
    (s1.modChain c (fun x => { x with enumReq := true })).setBit (litKey c R.LIT_CMD_STATUS) 0 true
  else s1

/-- The result of a software command and its first reply (R241): the command word lost or its reply missing gives NOREPLY. -/
def cmdResult (m : LitCmd) (want : Nat) (ret : CmdReturn) : Nat :=
  match ret.word with
  | none => 1
  | some w =>
    if !crc8Ok w then 2
    else if !m.bcast && !bitOf 26 w then 3
    else if (ret.replies.take want).any (fun r => !crc8Ok r) then 2
    else if ret.replies.length < want then 1
    else 0

/-- The reply fields (Table 9-2): DATA in [39:24], STATUS in [23:8]. -/
def replyData (r : Nat) : Nat := fieldOf 24 16 r
def replyStatus (r : Nat) : Nat := fieldOf 8 16 r

/-- LIT_CMD_STATUS and LIT_CMD_REPLY take the reply; which of several replies to a broadcast read they take is free. -/
def State.takeReply (s : State) (c want : Nat) (ret : CmdReturn) : State :=
  match want, ret.replies with
  | 0, _ => s
  | 1, r :: _ => (s.setFld (litKey c R.LIT_CMD_STATUS) 16 16 (replyData r)).wr (litKey c R.LIT_CMD_REPLY) (replyStatus r)
  | _, _ =>
    let v := s.bus.fresh.toNat
    ((s.setFld (litKey c R.LIT_CMD_STATUS) 16 16 (v / 65536)).wr (litKey c R.LIT_CMD_REPLY) (v % 65536)).on Bus.nextFree

/-- The tail check's PING returned: a count that differs from L twice in a row sets LENGTH (R245). -/
def State.tailBack (s : State) (c : Nat) (w : Nat) : State :=
  if !crc8Ok w then s
  else
    let n := if bitOf 26 w then 4096 else 4095 - fieldOf 28 12 w
    if n = s.litLen c then s.modChain c (fun x => { x with tailBad := 0 })
    else
      let bad := (s.chain c).tailBad + 1
      let s1 := s.modChain c (fun x => { x with tailBad := bad })
      if 2 ≤ bad then s1.litLength c else s1

/-- CHAIN_COMMAND_COMPLETE (R241, R245, R248): what returned ends the command on the line. -/
def execChainCommandComplete (dt chain : Nat) (ret : CmdReturn) (s : State) : Res :=
  let s := s.tick dt
  let x := s.chain chain
  .next (match x.flight with
    | none => s
    | some f =>
      let s1 := s.setChain chain { x with flight := none }
      match f with
      | .software m =>
        let want := replyCount (s.litLen chain) m
        let r := cmdResult m want ret
        (if r = 0 then s1.takeReply chain want ret else s1).cmdDone chain r
      | .temp z =>
        (match ret.word, ret.replies with
         | some w, r :: _ =>
           if crc8Ok w ∧ bitOf 26 w ∧ crc8Ok r then
             ((s1.modChain chain (fun x => { x with sense := x.sense.set z (replyData r) })).arm (tZone chain z) (clkS 1)).zoneRefresh
               chain z
           else s1
         | _, _ => s1)
      | .tail => (match ret.word with | some w => s1.tailBack chain w | none => s1))

/-- ZONE_TEMP_TIMEOUT (R248): no good reply for 1 s. -/
def execZoneTempTimeout (dt chain zone : Nat) (s : State) : Res :=
  .next ((s.tick dt).onExpiry (tZone chain zone) (fun s =>
    (s.modChain chain (fun x => { x with sense := x.sense.erase zone })).zoneRefresh chain zone))

/-! ## Chains: data frames -/

/-- P of a length and period, in clocks (R238). -/
def frameInterval (len per : Nat) : Nat := max (clkUs per) (clkUs (3 * len + 12))

/-- The bucket of every device of the frame that a valid endpoint names (R232, R236, R246), judged for the latch at W = `w`,
and the endpoints' STALE bits. -/
def State.readChain (s : State) (c len w : Nat) : State × List (Nat × Nat) :=
  (s.val.eps.cells.filter (fun (x : Nat × Ep) => x.2.valid && decide (x.2.kind = 0) && decide (x.2.unit = c)
      && decide (x.2.sub < len))).foldl
    (fun (a : State × List (Nat × Nat)) x =>
      let how := s.shownAs x.2 w 0
      (a.1.markStale x.1 how, (x.2.sub, s.bucket x.1 (s.present x.2 x.2.sub w how) (s.deviceD c x.2.sub)) :: a.2)) (s, [])

/-- The start of the frame after the one that starts now, for its length and period: one interval P on, or earlier where the
longer frame would put more than 12.5 ms between the latches (R238). -/
def nextStart (now pin len nLen per : Nat) : Nat :=
  let sched := now + frameInterval len per
  if len < nLen then min sched (pin + clkUs 12500 - clkUs (3 * nLen + 8)) else sched

/-- CHAIN_DATA_FRAME_START (R236 to R238, R241): the frame's length and period come into use, every endpoint of it is read and
judged for its latch, and the next start is set; a software command that still waits has waited one interval more. -/
def execChainDataFrameStart (dt chain : Nat) (s : State) : Res :=
  let s := s.tick dt
  let x := s.chain chain
  .next (match x.start with
    | none => s
    | some st =>
      if s.bus.now < st ∨ x.enumRun ∨ s.bus.domRuns 1 = false then s
      else
        let len := x.nLen
        let per := x.nPer
        let s1 := (s.wr (litKey chain R.LIT_LEN) len).zonesRefresh chain
        let pin := s1.bus.now + clkUs (3 * len + 8)
        let tm := pin + s1.litProp chain
        let r := s1.readChain chain len (s1.bus.w250 + 8 * (tm - s1.bus.now))
        let y := r.1.chain chain
        -- a change accepted at or before this start takes effect at the next one
        let takeLen := match y.pendLen with | some (v, at') => if at' ≤ st then some v else none | none => none
        let takePer := match y.pendPer with | some (v, at') => if at' ≤ st then some v else none | none => none
        let nLen := takeLen.getD len
        let nPer := takePer.getD per
        let s2 := r.1.setChain chain { y with
          per := per, nLen := nLen, nPer := nPer
          pendLen := if takeLen.isSome then none else y.pendLen
          pendPer := if takePer.isSome then none else y.pendPer
          frame := r.2, pinAt := some pin, latchAt := some tm, lineFree := pin
          start := some (nextStart s1.bus.now pin len nLen per)
          tailSent := false, waits := if y.cmd.isSome then y.waits + 1 else 0 }
        if y.cmd.isSome ∧ 16 ≤ y.waits + 1 then s2.cmdDone chain 4 else s2)

/-- The pass of an enumeration opens: its marker times out 34 ms after it is sent, 10 µs from here (R242, Table 9-5). -/
def State.enumPass (s : State) (c : Nat) : State := s.arm (tEnumPass c) (clkUs 34010)

/-- An enumeration starts (R243): the chain is out of service. BUSY is 1 while it runs (R241). -/
def State.enumStart (s : State) (c : Nat) : State :=
  let s1 := s.modChain c (fun x => { x with
    start := none, latchAt := none, pinAt := none, enumReq := false, enumRun := true, passes := []
    devPend := x.pendLen.map (·.1), pendLen := none })
  (((s1.setBit (litKey c R.LIT_STATUS) 0 false).setBit (litKey c R.LIT_STATUS) 1 true).setBit (litKey c R.LIT_CMD_STATUS) 0
    true).enumPass c

/-- What the return input shows of a data frame (R245): surplus buckets, and latches that did not come back. -/
def State.returnCheck (s : State) (c retBits : Nat) (latchBack : Bool) : State :=
  if s.bit (litKey c R.LIT_CTRL) 3 then
    let s1 := if 48 ≤ retBits then (s.wr (litKey c R.LIT_RET_EXTRA) (retBits / 48 % 8192)).litLength c else s
    let missed := if latchBack then 0 else (s1.chain c).missed + 1
    let s2 := s1.modChain c (fun x => { x with missed := missed })
    if 2 ≤ missed then (s2.setBit (litKey c R.LIT_STATUS) 3 true).raise (litPage c) 2 else s2
  else s

/-- CHAIN_LATCH (R237): the latch reaches the last device and the frame's buckets are shown; the return check of R245; an
enumeration that is asked for starts (R243). -/
def execChainLatch (dt chain retBits : Nat) (latchBack : Bool) (s : State) : Res :=
  let s := s.tick dt
  let x := s.chain chain
  .next (match x.latchAt with
    | none => s
    | some at' =>
      if s.bus.now < at' then s
      else
        let s1 := s.setChain chain { x with shown := x.frame, latchAt := none }
        let s2 := ((s1.setBit (litKey chain R.LIT_STATUS) 0 true).addWrap (litKey chain R.LIT_CNT_FRAMES) 1).returnCheck chain retBits
          latchBack
        if (s2.chain chain).enumReq then s2.enumStart chain else s2)

/-- An enumeration ends (R243, R244): a LIT_DEV_COUNT write made during it is applied, then the outcome of its last passes;
EV252; data frames start at the end of the closing gap. -/
def State.enumEnd (s : State) (c : Nat) (l : List (Option Nat × Nat)) (agreed : Bool) : State :=
  let x := s.chain c
  let k := litKey c R.LIT_STATUS
  let s1 := match x.devPend with | some v => s.wr (litKey c R.LIT_LEN) v | none => s
  let s2 := ((((s1.setBit k 1 false).setBit k 2 false).setBit k 3 false).setBit k 5 false).setFld k 8 4 l.length
  let s3 :=
    if !agreed then (s2.setBit k 2 true).raise (litPage c) 1
    else match l.headD (none, 0) with
      | (none, _) => (s2.setBit k 3 true).raise (litPage c) 2
      | (some n, prop) =>
        if n ≤ 4096 then
          ((s2.wr (litKey c R.LIT_LEN) n).wr (litKey c R.LIT_PROP) (min 65535 prop)).setBit k 6
            (decide (n ≠ s.fld (litKey c R.LIT_DEV_COUNT) 0 13))
        else ((s2.wr (litKey c R.LIT_LEN) 4096).setBit k 5 true).raise (litPage c) 4
  let per := s.fld (litKey c R.LIT_PERIOD) 0 14
  let s4 := (s3.modChain c (fun x => { x with
    enumRun := false, passes := [], devPend := none, start := some (s.bus.now + clkUs 4), per := per
    nPer := per, nLen := s3.litLen c, pendPer := none, pendLen := none, missed := 0, tailBad := 0 })).raise (litPage c) 0
  (if x.enumCmd then s4.cmdDone c 0 else s4.setBit (litKey c R.LIT_CMD_STATUS) 0 false).disarm (tEnumPass c)

/-- The count and the propagation of a pass whose marker came back after `tret` ns (R242, R243). -/
def passResult (cal tret : Nat) : Nat × Nat :=
  let n := (tret - cal) / 8000
  (n, tret - n * 8000 - cal)

/-- ENUM_PASS_END (R242, R243): the marker came back after `tret` ns, or 34 ms passed; two passes that agree, or eight, end the
enumeration. -/
def execEnumPassEnd (dt chain : Nat) (tret : Option Nat) (s : State) : Res :=
  let s := s.tick dt
  let x := s.chain chain
  let back := match tret with | some t => if t ≤ 34000000 then some t else none | none => none
  .next (if x.enumRun = false ∨ (back = none ∧ s.due (tEnumPass chain) = false) then s
    else
      let r : Option Nat × Nat := match back with
        | some t => let p := passResult (s.fld (litKey chain R.LIT_ENUM_CAL) 0 16) t; (some p.1, p.2)
        | none => (none, 0)
      let s1 := s.wr (litKey chain R.LIT_ENUM_LAST) (match r.1 with | some n => min 8191 n | none => 2 ^ 13)
      let agreed : Bool := match x.passes with | p :: _ => decide (p.1 = r.1) | [] => false
      let l := r :: x.passes
      if agreed ∨ 8 ≤ l.length then s1.enumEnd chain l agreed
      else (s1.setChain chain { x with passes := l }).enumPass chain)

/-- A new configured length (R238, R244): bound to a later frame in service, kept until an enumeration ends, at once on a chain
that does not run. -/
def State.litSetLen (s : State) (c v : Nat) : State :=
  let x := s.chain c
  if x.enumRun then s.setChain c { x with devPend := some v }
  else if x.start.isSome then s.setChain c { x with pendLen := some (v, s.bus.now) }
  else (s.setChain c { x with nLen := v, pendLen := none }).wr (litKey c R.LIT_LEN) v

/-- A new LIT_PERIOD (R238). -/
def State.litSetPer (s : State) (c v : Nat) : State :=
  let x := s.chain c
  if x.start.isSome then s.setChain c { x with pendPer := some (v, s.bus.now) }
  else s.setChain c { x with per := v, nPer := v }

/-- A write of LIT_DEV_COUNT (R244). -/
def State.litDevCount (s : State) (c value : Nat) : State :=
  let v := min 4096 (value % 8192)
  let s1 := (s.wr (litKey c R.LIT_DEV_COUNT) v).ifThen (decide (4096 < value % 8192)) (·.cfgErr (litPage c))
  s1.litSetLen c v

/-- A write of LIT_PERIOD (R238, R41). -/
def State.litPeriod (s : State) (c value : Nat) : State :=
  let u := value % 16384
  let v := max 1000 (min 12500 u)
  ((s.wr (litKey c R.LIT_PERIOD) v).ifThen (decide (v ≠ u)) (·.cfgErr (litPage c))).litSetPer c v

/-- LIT_DEV_COUNT_WRITE (R244). -/
def execLitDevCountWrite (dt vi chain value : Nat) (s : State) : Res :=
  .next ((s.tick dt).guardWrite vi (litPage chain) (fun s => s.litDevCount chain value))

/-- LIT_PERIOD_WRITE (R238). -/
def execLitPeriodWrite (dt vi chain value : Nat) (s : State) : Res :=
  .next ((s.tick dt).guardWrite vi (litPage chain) (fun s => s.litPeriod chain value))

/-- The chain stops driving: its line goes low, a command in progress ends ABORTED, and an enumeration ends with L and LIT_PROP
unchanged (R241). -/
def State.litStop (s : State) (c : Nat) : State :=
  let x := s.chain c
  let s1 := if x.busyCmd then s.cmdDone c 5 else s.setBit (litKey c R.LIT_CMD_STATUS) 0 false
  let len := match x.devPend with | some v => v | none => (match x.pendLen with | some (v, _) => v | none => if x.start.isSome then x.nLen else s.litLen c)
  let per := s.fld (litKey c R.LIT_PERIOD) 0 14
  let s2 := (s1.setChain c { Chain.init with
    per := per, nPer := per, nLen := len, sense := x.sense, asked := x.asked, zinv := x.zinv }).wr (litKey c R.LIT_LEN) len
  ((s2.setBit (litKey c R.LIT_STATUS) 0 false).setBit (litKey c R.LIT_STATUS) 1 false).disarm (tEnumPass c)

/-- Data frames start 4 µs from now, their opening gap (R235, R238). -/
def State.litOpen (s : State) (c : Nat) : State := s.modChain c (fun x => { x with start := some (s.bus.now + clkUs 4) })

/-- The chain is enabled (R238, R244): with ENUM_ON_EN an enumeration comes first. -/
def State.litStart (s : State) (c : Nat) : State :=
  if s.bit (litKey c R.LIT_CTRL) 1 then s.enumStart c else s.litOpen c

/-- A soft reset of a LIT page (R241, R244), after its registers have returned to reset. -/
def State.litSrst (s : State) (c : Nat) : State :=
  let x := s.chain c
  let s1 :=
    if x.enumRun then (s.litStop c).litOpen c
    else if x.busyCmd then (s.cmdDone c 5).modChain c (fun x => { x with enumReq := false, flight := none })
    else (s.modChain c (fun x => { x with enumReq := false }))
  (s1.litSetLen c 0).litSetPer c 10000

/-! ## NTC inputs, matrix ports and string stages -/

/-- The derating factor of a string stage (R260). -/
def State.stageD (s : State) (n : Nat) : Nat :=
  let k := stgKey n R.STG_DERATE
  let i := s.fld k 24 5
  if 16 ≤ i then 256 else derate (s.ntcTemp i) (s.fld k 0 8) (s.fld k 8 8) (s.fld k 16 8)

/-- EV267 when D of a stage leaves 256 and when it returns (R260). -/
def State.stageRefresh (s : State) (n : Nat) : State :=
  let d := s.stageD n
  let old := (s.stage n).d
  let s1 := s.setStage' n { s.stage n with d := d }
  if decide (old = 256) = decide (d = 256) then s1 else s1.raise (stgPage n) 3

/-- The temperature an NTC input computes from its resistance; none is invalid (R265). -/
def ntcReading (cfg : Nat) (ohms : Option Nat) : Option Nat :=
  match ohms with
  | none => none
  | some r =>
    if r < 50 ∨ 2000000 < r ∨ cfg % 65536 = 0 ∨ cfg / 65536 % 65536 = 0 then none
    else some (ofSignedSat 16 (Config.ntcTemp r (cfg % 65536) (cfg / 65536 % 65536)))

/-- NTC_MEASURE (R265): an input measures its resistance (none where it reads open); an invalid reading raises EV272 to VI 0, and
zones and stages that use the input follow. -/
def execNtcMeasure (dt n : Nat) (ohms : Option Nat) (s : State) : Res :=
  let s := s.tick dt
  let t := ntcReading (s.rd (rkSel calPage R.CAL_NTC_CFG n)) ohms
  let m := match t with | some v => s.lit.ntc.set n v | none => s.lit.ntc.erase n
  let s1 := ({ s with lit := { s.lit with ntc := m } }).wr (rkSel calPage R.CAL_NTC_TEMP n)
    (match t with | some v => v + 2 ^ 16 | none => 0)
  let s2 := if t.isNone then s1.on (·.raiseFor calPage 0 0 []) else s1
  let s3 := (List.range 12).foldl (fun a i => if a.fld (stgKey i R.STG_DERATE) 24 5 = n ∧ a.pageEn (stgPage i) then a.stageRefresh i else a) s2
  .next ((List.range 64).foldl (fun a c => if a.pageEn (litPage c) then
    (a.zones c).foldl (fun b (z : Nat × Nat) =>
      if b.zoneSrc c z.1 = 1 ∧ b.fld (litKey c (R.LIT_ZONE + 4 * z.1)) 15 4 = n then b.zoneRefresh c z.1 else b) a else a) s3)

/-- A line slot of a matrix port in clocks: DEAD and LINE_T (R253). -/
def State.mtxSlot (s : State) (m : Nat) : Nat :=
  s.fld (mtxKey m R.MTX_CTRL) 10 10 * 50 + clkUs (s.fld (mtxKey m R.MTX_CTRL) 0 10)

/-- A matrix port starts scanning: no point is lit until a scan frame's state has been read (R255). -/
def State.mtxStart (s : State) (m : Nat) : State :=
  (s.setMtx m { Mtx.init with start := some s.bus.now }).wr (mtxKey m R.MTX_STATUS) 1

/-- A matrix port stops with all lines off. -/
def State.mtxStop (s : State) (m : Nat) : State := (s.setMtx m Mtx.init).wr (mtxKey m R.MTX_STATUS) 0

/-- MATRIX_SCAN_READ (R255): in the last line slot of a scan frame every point is read and judged for the next frame's start. -/
def execMatrixScanRead (dt m : Nat) (s : State) : Res :=
  let s := s.tick dt
  let x := s.mtx m
  .next (match x.start with
    | none => s
    | some st =>
      if s.bus.now < st + 15 * s.mtxSlot m ∨ s.bus.domRuns 1 = false then s
      else
        let w := s.bus.w250 + 8 * (st + 16 * s.mtxSlot m - s.bus.now)
        let r := (s.val.eps.cells.filter (fun (x : Nat × Ep) => x.2.valid && decide (x.2.kind = 1) && decide (x.2.unit = m))).foldl
          (fun (a : State × List (Nat × Nat)) x =>
            let how := s.shownAs x.2 w 0
            (a.1.markStale x.1 how, (x.2.sub, (s.present x.2 x.2.sub w how).c0) :: a.2)) (s, [])
        r.1.setMtx m { x with next := r.2 })

/-- MATRIX_SCAN_FRAME_START (R255): the state read takes effect. -/
def execMatrixScanFrameStart (dt m : Nat) (s : State) : Res :=
  let s := s.tick dt
  let x := s.mtx m
  .next (match x.start with
    | none => s
    | some st =>
      if s.bus.now < st + 16 * s.mtxSlot m then s
      else ((s.setMtx m { x with start := some (st + 16 * s.mtxSlot m), duty := x.next, cols := [], off := false }).addWrap
        (mtxKey m R.MTX_CNT_SCANS) 1).setFld (mtxKey m R.MTX_STATUS) 1 4 0)

/-- The on time of a column for a duty, in 5 ns clocks, rounded to the nearest (R253). -/
def onClocks (lineUs duty : Nat) : Nat := (duty * lineUs * 200 + 32768) / 65536

/-- MATRIX_LINE_SLOT (R253, R254, R256): the line whose slot runs is driven after its dead time; `cut` are the columns that cannot
hold their current, `oc` says that the line exceeds 1.2 A. -/
def execMatrixLineSlot (dt m : Nat) (cut : List Nat) (oc : Bool) (s : State) : Res :=
  let s := s.tick dt
  let x := s.mtx m
  .next (match x.start with
    | none => s
    | some st =>
      let l := min 15 ((s.bus.now - st) / max 1 (s.mtxSlot m))
      let cols := ((x.duty.filter (fun (p : Nat × Nat) => decide (p.1 / 64 = l))).map (fun (p : Nat × Nat) =>
        (p.1 % 64, onClocks (s.fld (mtxKey m R.MTX_CTRL) 0 10) p.2))).filter (fun p => p.2 != 0)
      let pre := if s.bit (mtxKey m R.MTX_PRECHARGE) 8 then some (s.fld (mtxKey m R.MTX_PRECHARGE) 0 8) else none
      let s1 := (s.setMtx m { x with cols := cols, pre := pre, off := oc }).setFld (mtxKey m R.MTX_STATUS) 1 4 l
      let bad := cut.filter (fun c => cols.any (fun (p : Nat × Nat) => decide (p.1 = c)))
      let s2 := bad.foldl (fun a c => a.setBit (mtxKey m (if c < 32 then R.MTX_OPEN_LO else R.MTX_OPEN_HI)) (c % 32) true) s1
      let s3 := if bad.isEmpty then s2 else s2.raise (mtxPage m) 0
      if oc then (s3.setBit (mtxKey m R.MTX_LINE_OC) l true).raise (mtxPage m) 1 else s3)

/-- The current of a stage now, in 1/(65,535 × 65,536) of IFS: it moves by STG_RAMP ÷ 65,536 of IFS per millisecond (R258). -/
def State.stageCur (s : State) (n : Nat) : Nat :=
  let x := s.stage n
  let ramp := s.fld (stgKey n R.STG_RAMP) 0 16
  let step := (s.bus.now - x.since) * ramp * 65535 / 500000
  if ramp = 0 then x.dst
  else if x.src ≤ x.dst then min x.dst (x.src + step) else max x.dst (x.src - step)

/-- The current and the PWM duty a setpoint asks for (R258): analog, PWM, or hybrid. -/
def stageLight (dim sp : Nat) : Nat × Nat :=
  let full := 65535 * 65536
  if sp = 0 then (0, 0)
  else match dim with
    | 1 => (full, sp)
    | 2 => if 65535 ≤ 8 * sp then (sp * 65536, 65535) else (full / 8, 8 * sp)
    | _ => (sp * 65536, 65535)

/-- Whether a stage has stopped with OPEN or SHORT. -/
def State.stageStopped (s : State) (n : Nat) : Bool := decide (3 ≤ s.fld (stgKey n R.STG_STATUS) 0 3)

/-- STG_STATUS and STG_IOUT follow the current. -/
def State.stageReport (s : State) (n : Nat) : State :=
  let cur := s.stageCur n
  let st := if (s.stage n).dst = 0 then 0 else if cur = (s.stage n).dst then 2 else 1
  (s.ifThen (!s.stageStopped n) (·.wr (stgKey n R.STG_STATUS) st)).wr (stgKey n R.STG_IOUT) (cur * 4095 / (65535 * 65536))

/-- The stage moves to what its setpoint asks for, from its present current; a setpoint of 0 stops switching (R257, R258). -/
def State.stageGo (s : State) (n : Nat) : State :=
  let x := s.stage n
  let t := stageLight (s.fld (stgKey n R.STG_CTRL) 0 2) x.eff
  (s.setStage' n { x with src := if t.1 = 0 then 0 else s.stageCur n, dst := t.1, duty := t.2, since := s.bus.now }).stageReport n

/-- A stage is enabled: it reads its endpoint at once and then every 10 ms. -/
def State.stageStart (s : State) (n : Nat) : State := (s.wr (stgKey n R.STG_STATUS) 0).arm (tStgRead n) 0

/-- A stage stops with its FET off. -/
def State.stageOff (s : State) (n : Nat) : State :=
  (((s.setStage' n { Stage.init with d := (s.stage n).d }).disarm (tStgRead n)).disarm (tStgEff n)).disarm (tStgRetry n)

/-- A stage is disabled: idle. -/
def State.stageDisable (s : State) (n : Nat) : State := ((s.stageOff n).wr (stgKey n R.STG_STATUS) 0).wr (stgKey n R.STG_IOUT) 0

/-- STAGE_READ (R258, R260): the endpoint is read and judged for the instant 20 µs on; `vout` is the output voltage measured, in
20 mV (assumption log 19). -/
def execStageRead (dt n vout : Nat) (s : State) : Res :=
  .next ((s.tick dt).onExpiry (tStgRead n) (fun s =>
    if s.bus.domRuns 1 then
      let s1 := (s.stageRefresh n).arm (tStgRead n) (clkMs 10)
      let w := s1.bus.w250 + 8 * clkUs 20
      let r : State × Nat := match s1.epFor 2 n 0 with
        | some (i, e) =>
          let how := s1.shownAs e w 0
          (s1.markStale i how, (s1.present e n w how).c0)
        | none => (s1, 0)
      let sp := r.2 * s1.stageD n / 256
      (((r.1.setStage' n { r.1.stage n with read := sp }).wr (stgKey n R.STG_SETPOINT) (sp + s1.stageD n * 65536)).wr
        (stgKey n R.STG_VOUT) (vout % 4096)).arm (tStgEff n) (clkUs 20)
    else s.arm (tStgRead n) (clkMs 10)))

/-- STAGE_SETPOINT_EFFECT (R258): the setpoint takes effect and the current moves. -/
def execStageSetpointEffect (dt n : Nat) (s : State) : Res :=
  .next ((s.tick dt).onExpiry (tStgEff n) (fun s =>
    let x := s.stage n
    let s1 := s.setStage' n { x with eff := x.read }
    if s1.stageStopped n then s1
    else if stageLight (s1.fld (stgKey n R.STG_CTRL) 0 2) x.read = (x.dst, x.duty) then s1.stageReport n
    else s1.stageGo n))

/-- A running stage stops with OPEN (3) or SHORT (4); it is tried again after 1 s where RETRY is 1 (R259). -/
def State.stageTrip (s : State) (n st cnt bit : Nat) : State :=
  if s.pageEn (stgPage n) = false ∨ s.stageStopped n = true then s
  else
    let s1 := (s.setStage' n { s.stage n with src := 0, dst := 0, duty := 0, since := s.bus.now }).wr (stgKey n R.STG_STATUS) st
    (((s1.wr (stgKey n R.STG_IOUT) 0).addSat (stgKey n cnt) 1).raise (stgPage n) bit).arm (tStgRetry n) (clkS 1)

/-- STAGE_OVERVOLTAGE (R259): the output voltage has reached STG_OV. -/
def execStageOvervoltage (dt n : Nat) (s : State) : Res := .next ((s.tick dt).stageTrip n 3 R.STG_CNT_OPEN 0)

/-- STAGE_SHORT (R259): the output has stayed below VIN + 1 V for 10 ms at a non-zero setpoint. -/
def execStageShort (dt n : Nat) (s : State) : Res :=
  let s := s.tick dt
  .next (if (s.stage n).eff = 0 then s else s.stageTrip n 4 R.STG_CNT_SHORT 1)

/-- STAGE_RETRY (R259): once per second a stopped stage with RETRY = 1 restarts from 0 along the ramp. -/
def execStageRetry (dt n : Nat) (s : State) : Res :=
  .next ((s.tick dt).onExpiry (tStgRetry n) (fun s =>
    if s.stageStopped n then
      (if s.bit (stgKey n R.STG_CTRL) 2 then ((s.wr (stgKey n R.STG_STATUS) 0).stageGo n).raise (stgPage n) 2
       else s.arm (tStgRetry n) (clkS 1))
    else s))

/-! ## The CAL page (R265) -/

/-- The physical endpoint a VI's CAL_SEL names: calibration entry j follows VAL endpoint j (R247). -/
def State.calSel (s : State) (vi : Nat) : Option Nat := s.bus.physOf .val vi (s.fld (calReg vi R.CAL_SEL) 0 18)

/-- Whether a VI sees the CAL page: it holds at least one VAL endpoint (R247). -/
def State.calGuard (s : State) (vi : Nat) (f : State → State) : State :=
  if (s.bus.physOf .val vi 0).isNone then s
  else if !s.bus.pageUp calPage then s.on (·.late vi)
  else f s

/-- A command that names an absent endpoint (R265). -/
def State.calRefuse (s : State) (vi : Nat) : State := (s.wr (calReg vi R.CAL_STATUS) 2).on (·.cfgErrFor calPage vi)

/-- CAL_READ (R265): loads the entry of the endpoint selected. -/
def execCalRead (dt vi : Nat) (s : State) : Res :=
  .next ((s.tick dt).calGuard vi (fun s =>
    match s.calSel vi with
    | none => s.calRefuse vi
    | some j => ((s.wr (calReg vi R.CAL_D0) (s.calEntry j).1).wr (calReg vi R.CAL_D1) (s.calEntry j).2).wr (calReg vi R.CAL_STATUS) 0))

/-- Carry out a CAL WRITE whose record waited for room (R448). -/
def State.calApply (s : State) (w : JWait) : State :=
  (s.setCal w.index (w.words.getD 0 0, w.words.getD 1 0)).setBit (calReg w.vi R.CAL_STATUS) 0 false

/-- CAL_WRITE (R265): installs gains and bin; journaled (R247, R448). -/
def execCalWrite (dt vi : Nat) (s : State) : Res :=
  .next ((s.tick dt).calGuard vi (fun s =>
    match s.calSel vi with
    | none => s.calRefuse vi
    | some j =>
      if s.bus.access .val j vi < 2 then s.on (·.denied)
      else
        let d0 := s.fld (calReg vi R.CAL_D0) 0 24
        let d1 := s.fld (calReg vi R.CAL_D1) 0 20
        (s.wr (calReg vi R.CAL_STATUS) 0).journaled ⟨2, vi, j, [d0, d1]⟩
          [(jkey (rk calPage R.CAL_D0) j, d0), (jkey (rk calPage R.CAL_D1) j, d1)]
          (fun a => a.setBit (calReg vi R.CAL_STATUS) 0 true) (fun a => a.calApply ⟨2, vi, j, [d0, d1]⟩)))

/-- The physical matrix row behind a VI's row number: row k follows the grant of VAL endpoint 1,024k (R247). -/
def State.physRow (s : State) (vi j : Nat) : Option Nat :=
  if vi = 0 then (if j < 256 then some j else none)
  else ((List.range 256).filter (fun k => decide (s.bus.access .val (1024 * k) vi ≠ 0)))[j]?

/-- Carry out a matrix write whose record waited for room (R448); `index` is row + 256 × entry. -/
def State.mtxApply (s : State) (w : JWait) : State := s.setMtxEntry (w.index % 256) (w.index / 256) (w.words.getD 0 0)

/-- CAL_MTX_WRITE (R265): sets the selected entry and journals it; an entry of 9 to 15 names none. -/
def execCalMtxWrite (dt vi value : Nat) (s : State) : Res :=
  .next ((s.tick dt).calGuard vi (fun s =>
    let sel := s.rd (calReg vi R.CAL_MTX_SEL)
    if 9 ≤ fieldOf 8 4 sel then s.on (·.cfgErrFor calPage vi)
    else match s.physRow vi (sel % 256) with
      | none => s
      | some k =>
        if s.bus.access .val (1024 * k) vi < 2 then s.on (·.denied)
        else
          let e := fieldOf 8 4 sel
          s.journaled ⟨3, vi, k + 256 * e, [value % 65536]⟩ [(jkey (rk calPage R.CAL_MTX_DATA) (k + 256 * e), value % 65536)] id
            (fun a => a.mtxApply ⟨3, vi, k + 256 * e, [value % 65536]⟩)))

end Sys2Proof.Machine
end

