-- ==== Sys2Proof/Machine/Wake.lean ====
section
/-! DEFINITION. Detection of a wake source by the power ladder (R410, Table 14-3, Table 14-5). -/

namespace Sys2Proof.Machine

def pwrPage : Nat := Block.pwr.pg 0
def pwrKey (off : Nat) : Nat := rk pwrPage off
def pwrDKey (d off : Nat) : Nat := rk (Block.pwrD.pg d) off

/-- PWR_STATUS.STATE (Table 14-2): 0 Run, 1 Idle, 2 Sleep, 3 Deep, 4 Off. -/
def State.pwrState (s : State) : Nat := s.fld (pwrKey R.PWR_STATUS) 0 3

/-- The exit time of a ladder state to Run (Table 14-2), in timebase clocks; Off starts up as after PORST_N. -/
def exitTime (st : Nat) : Nat := match st with | 1 => clkUs 1 | 2 => clkUs 200 | 3 => clkMs 2 | _ => 0

/-- The timer of the ladder's own transition. -/
def tLadder : Nat := timerId 3 0

/-- Set PWR_D_STATUS.STATE of a domain; EV38 tells of a change (Table 14-12). -/
def State.setDom (s : State) (d st : Nat) : State :=
  if s.bus.domState d = st then s
  else (s.setFld (pwrDKey d R.PWR_D_STATUS) 0 4 st).raise (Block.pwrD.pg d) 2

/-- Whether a source can wake the device from a state (Table 14-5), its enable apart. -/
def wakesFrom (i st : Nat) : Bool :=
  match st with
  | 0 => true
  | 4 => decide (i = 0)
  | 3 => decide (i ≠ 7)
  | _ => true

/-- The exit to Run begins: it takes the exit time of the state the device is in (R401), and the domains that the ladder took down are
WAKING. The exit from Off is a start (START_SEQUENCE). -/
def State.beginExit (s : State) : State :=
  let st := s.pwrState
  let s1 := if st = 4 then s else s.ladder.down.foldl (fun a d => a.setDom d 6) (s.arm tLadder (exitTime st))
  { s1.setBit (pwrKey R.PWR_STATUS) 3 true with ladder := { s1.ladder with phase := 3, target := 0 } }

/-- Run is reached again: the heartbeat restarts with a full 100 ms (R403), the pumps' paths are up, and demands count again. -/
def State.runAgain (s : State) : State :=
  let s1 := (s.setBit (pwrKey R.PWR_STATUS) 16 false).arm (timerId 20 0) (clkMs 100)
  let s2 := (List.range 16).foldl (fun a p => a.setBit (rk (Block.pmp.pg p) R.PMP_STATUS) 2 false) s1
  { s2 with ladder := Ladder.init, lds := { s2.lds with allOff := false } }

/-- Entry ends before the commit point: the domains already down, or draining, return to Run, and EV37 is raised (R402,
Table 14-3). -/
def State.endEntry (s : State) (reason : Nat) : State :=
  let s1 := (s.ladder.draining ++ s.ladder.down).foldl (fun a d => a.setDom d 0) s
  let s2 := ((s1.setFld (pwrKey R.PWR_STATUS) 0 3 0).setBit (pwrKey R.PWR_STATUS) 3 false).setFld (pwrKey R.PWR_STATUS) 4 4 reason
  s2.runAgain.raise pwrPage 1

/-- A wake reaches a console section that is in Watch, or on its way into it: it starts back to Run (R409). -/
def State.sectionWake (s : State) (sec : Nat) : State :=
  if (s.bus.inWatch sec || s.bit (pwrKey R.PWR_WATCH_REQ) sec) && !s.watch.leaving.contains sec then
    { s with watch := { s.watch with leaving := sec :: s.watch.leaving } }
  else s

/-- Wake source `i` is detected (R410): recorded while the device is not settled in Run, the first one in WAKE_FIRST, and, if
it is enabled and wakes from this state, acting as Table 14-3 sets out; after a thermal trip it is refused with REASON 6 until the
sensors are cool (R417). -/
def State.wake (s : State) (i : Nat) : State :=
  if s.ladder.phase = 0 ∧ s.pwrState = 0 then s
  else
    let s1 := s.setBit (pwrKey R.PWR_WAKE_SRC) i true
    let s2 := if s1.ladder.woken then s1
      else { s1.setFld (pwrKey R.PWR_STATUS) 8 4 i with ladder := { s1.ladder with woken := true } }
    if (s2.bit (pwrKey R.PWR_WAKE_EN) i || (decide (i = 0) && decide (s2.pwrState = 4)))
        && wakesFrom i (if s2.ladder.phase = 0 then s2.pwrState else 0) then
      (match s2.ladder.phase with
       | 1 => s2.endEntry 0
       | 2 => { s2 with ladder := { s2.ladder with latched := true } }
       | 3 => s2
       | _ => if s2.power.tripped then s2.setFld (pwrKey R.PWR_STATUS) 4 4 6 else s2.beginExit)
    else s2

end Sys2Proof.Machine
end

