-- ==== Sys2Proof/Machine/Loads.lean ====
section
/-! DEFINITION. Load channels (R267 to R281): demand, inrush, trips, heat, supply dips and limp-home. -/

namespace Sys2Proof.Machine

/-! ## Keys, fields and timers -/

def ldsPage (ch : Nat) : Nat := Block.lds.pg ch
def ldsKey (ch off : Nat) : Nat := rk (ldsPage ch) off
/-- The LDS globals, which every LDS page shows (R280). -/
def ldsG (off : Nat) : Nat := rk (Block.lds.pg 0) off

def tInrush (ch : Nat) : Nat := timerId 16 ch
def tPause (ch : Nat) : Nat := timerId 17 ch
def tTries (ch : Nat) : Nat := timerId 18 ch
def tRestore (ch : Nat) : Nat := timerId 19 ch
def tHeartbeat : Nat := timerId 20 0

/-- LDS_STATUS.STATE (Table 10-3). -/
def State.ldsState (s : State) (ch : Nat) : Nat := s.fld (ldsKey ch R.LDS_STATUS) 0 4
def State.ldsTries (s : State) (ch : Nat) : Nat := s.fld (ldsKey ch R.LDS_STATUS) 8 4
def State.setTries (s : State) (ch n : Nat) : State := s.setFld (ldsKey ch R.LDS_STATUS) 8 4 n
def State.limp (s : State) : Bool := s.bit (ldsG R.LDS_G_STATUS) 0
def State.modLds (s : State) (f : Loads → Loads) : State := { s with lds := f s.lds }

/-! ## Demand (R267, R277, R279) -/

/-- The reader port that holds a channel of a kind (1 load, 2 coil) as its authority relay (R392). -/
def State.relayReader (s : State) (kind ch : Nat) : Option Nat :=
  (List.range 8).find? (fun n => s.pageEn (Block.tok.pg n) && !s.bit (rk (Block.tok.pg n) R.TOK_STATUS) 6
    && decide (s.fld (rk (Block.tok.pg n) R.TOK_RELAY) 0 2 = kind) && decide (s.fld (rk (Block.tok.pg n) R.TOK_RELAY) 2 5 = ch))

/-- The demand of a LIMP channel: LH_IN[LH_SEL] XOR LH_INV (R277). -/
def State.limpInput (s : State) (ch : Nat) : Bool :=
  let c := ldsKey ch R.LDS_CLASS
  s.bit (ldsG R.LDS_G_STATUS) (8 + s.fld c 2 3) != s.bit c 5

/-- Demand and source by Table 10-1. While COPY_VALID reads 0 every channel acts as class OFF with its demand off (R279); on the way
into Off every demand is off (R403). -/
def State.ldsDemand (s : State) (ch : Nat) : Bool × Nat :=
  let c := ldsKey ch R.LDS_CLASS
  let valid := s.bit (ldsG R.LDS_G_STATUS) 5 && !s.lds.allOff
  if s.limp then
    (valid && (match s.fld c 0 2 with | 1 => s.lds.hold.contains ch | 2 => s.limpInput ch | _ => false), 3)
  else if !s.bound then (valid && s.bit c 6, 2)
  else match s.relayReader 1 ch with
    | some n => (valid && s.bit (rk (Block.tok.pg n) R.TOK_STATUS) 3, 1)
    | none => (valid && s.bit (ldsKey ch R.LDS_OUT) 0, 0)

/-- LDS_STATUS shows demand and source. A channel that RESTORE 0 keeps off is free again once its demand is off (R274). -/
def State.ldsRefresh (s : State) (ch : Nat) : State :=
  let d := s.ldsDemand ch
  let s1 := (s.setBit (ldsKey ch R.LDS_STATUS) 5 d.1).setFld (ldsKey ch R.LDS_STATUS) 12 2 d.2
  s1.ifThen (!d.1) (fun t => t.modLds (fun l => { l with needLow := l.needLow.filter (· != ch) }))

/-! ## States (Table 10-3) -/

/-- Enter a state with the output off. -/
def State.ldsEnter (s : State) (ch st : Nat) : State :=
  let s1 := (s.setFld (ldsKey ch R.LDS_STATUS) 0 4 st).setBit (ldsKey ch R.LDS_STATUS) 4 false
  let s2 := (((s1.disarm (tInrush ch)).disarm (tPause ch)).disarm (tTries ch)).disarm (tRestore ch)
  s2.modLds (fun l => { l with inrush := l.inrush.erase ch, limpPause := l.limpPause.filter (· != ch) })

/-- OFF, with TRIES 0. -/
def State.ldsOff (s : State) (ch : Nat) : State := (s.ldsEnter ch 0).setTries ch 0

/-- LATCHED, with EV275 (Table 10-7). -/
def State.ldsLatch (s : State) (ch : Nat) : State := (s.ldsEnter ch 4).raise (ldsPage ch) 1

/-- THERMAL, counted, with EV276 (R270). -/
def State.ldsThermal (s : State) (ch : Nat) : State :=
  ((s.ldsEnter ch 5).addSat (ldsKey ch R.LDS_CNT_THERM) 1).raise (ldsPage ch) 2

/-- A field of the inrush profile of a load type (R268). -/
def State.profile (s : State) (ty off lo w : Nat) : Nat := s.fld (rkSel (Block.lds.pg 0) off ty) lo w

/-- The length of the peak phase in clocks, if it starts now: PEAK_T, or until the output reaches VFIELD − 1 V if that comes first
(R268). -/
def State.peakClocks (s : State) (ty : Nat) : Nat :=
  let pt := s.profile ty R.LDS_G_PROF_TIME 0 16 * 50000
  let slew := s.profile ty R.LDS_G_PROF_RUN 16 8
  if slew = 0 then pt else min pt (ceilDiv (500 * (20 * s.fld (ldsG R.LDS_G_VFIELD) 0 12 - 1000)) slew)

/-- LDS_INRUSH_START (R268): INRUSH, output on. The inrush ends at PEAK_T + TAPER. -/
def State.ldsStart (s : State) (ch : Nat) : State :=
  let ty := s.fld (ldsKey ch R.LDS_CFG) 0 3
  let s1 := s.ldsEnter ch 1
  let s2 := s1.setBit (ldsKey ch R.LDS_STATUS) 4 true
  let s3 := s2.modLds (fun l => { l with inrush := l.inrush.set ch (s.bus.now, s.peakClocks ty) })
  s3.arm (tInrush ch) (s.profile ty R.LDS_G_PROF_TIME 0 16 * 50000 + clkMs (s.profile ty R.LDS_G_PROF_TIME 16 16))

/-- INRUSH if the demand is on, else OFF (Table 10-3). -/
def State.ldsGo (s : State) (ch : Nat) : State := if (s.ldsDemand ch).1 then s.ldsStart ch else s.ldsOff ch

/-- Whether a current exceeds I(t) (R268). -/
def State.overCurrent (s : State) (ch ma : Nat) : Bool :=
  let ty := s.fld (ldsKey ch R.LDS_CFG) 0 3
  let run := s.profile ty R.LDS_G_PROF_RUN 0 12
  match s.lds.inrush.find? ch with
  | none => decide (run < ma)
  | some (start, pe) =>
    let peak := s.profile ty R.LDS_G_PROF_PEAK 0 16
    let taper := clkMs (s.profile ty R.LDS_G_PROF_TIME 16 16)
    let t := s.bus.now - start
    if t < pe then decide (peak < ma)
    else if t < pe + taper then decide ((peak : Int) * taper - ((peak : Int) - run) * (t - pe : Nat) < ma * taper)
    else decide (run < ma)

/-- Whether a driven channel trips: above I(t) for more than 20 µs, or above 30 A (R269). -/
def State.ldsTrips (s : State) (ch ma us : Nat) : Bool :=
  let st := s.ldsState ch
  (decide (st = 1) || decide (st = 2)) && (decide (30000 < ma) || (s.overCurrent ch ma && decide (20 < us)))

/-- TJ in 1/16 °C; 170 °C is the shutdown level and 170 °C − THYST the restart level (R270). -/
def State.ldsTj (s : State) (ch : Nat) : Int := signedOf 16 (s.rd (ldsKey ch R.LDS_TJ))
def tjTrip : Int := 2720
def State.tjRestart (s : State) (ch : Nat) : Int := 2720 - 16 * (s.fld (ldsKey ch R.LDS_CFG) 24 6 : Nat)

/-- What a trip does beside switching off: counted in LDS_CNT_OC, EV274 (R269). -/
def State.ldsTripCount (s : State) (ch : Nat) : State := (s.addSat (ldsKey ch R.LDS_CNT_OC) 1).raise (ldsPage ch) 0

/-- A trip alone: one more try, then LATCHED at LATCH_N, else a pause of RETRY_BASE × 2^min(TRIES − 1, 7) ms (R269). -/
def State.ldsTripAlone (s : State) (ch : Nat) : State :=
  let tries := satInc 4 (s.ldsTries ch)
  let s1 := s.setTries ch tries
  if s.fld (ldsKey ch R.LDS_CFG) 4 4 ≤ tries then s1.ldsLatch ch
  else (s1.ldsEnter ch 3).arm (tPause ch) (clkMs (s.fld (ldsKey ch R.LDS_CFG) 8 8 * 2 ^ min (tries - 1) 7))

/-- A channel not latched enters UV (R274). -/
def State.ldsUv (s : State) (ch : Nat) : State :=
  if s.ldsState ch = 4 ∨ s.ldsState ch = 6 then s
  else (((s.ldsEnter ch 6).setTries ch 0).addSat (ldsKey ch R.LDS_CNT_UV) 1).raise (ldsPage ch) 4

/-- The happenings that meet in one evaluation, resolved by Tables 10-3 and 10-4: UV before everything; a trip with the demand off
ends in OFF and a trip at 170 °C in THERMAL, each counted but not tried; the demand going off before heat (assumption log 24). -/
def State.ldsResolve (s : State) (ch : Nat) (trip hot uv : Bool) : State :=
  let d := (s.ldsDemand ch).1
  let st := s.ldsState ch
  if uv then s.ldsUv ch
  else match st with
    | 0 => if d && !s.lds.needLow.contains ch then s.ldsStart ch else s
    | 1 | 2 =>
      if trip then
        let s1 := s.ldsTripCount ch
        if !d then s1.ldsOff ch else if hot then s1.ldsThermal ch else s1.ldsTripAlone ch
      else if !d then s.ldsOff ch
      else if hot then s.ldsThermal ch
      else s
    | 3 => if !d && !s.lds.limpPause.contains ch then s.ldsOff ch else if hot then s.ldsThermal ch else s
    | 5 => if s.ldsTj ch < s.tjRestart ch then s.ldsGo ch else s
    | 7 => if !d then s.ldsOff ch else s
    | _ => s

/-! ## Limp-home (R276 to R279) -/

/-- EV280 on every LDS page, for its owner and for VI 0 (R276). -/
def State.limpEvent (s : State) : State := (List.range 24).foldl (fun a ch => a.raiseAlso (ldsPage ch) 6 [0]) s

/-- LIMP_HOME_BEGIN (R276, R277): the demands of that moment are held, and channels in PAUSE keep their pause (Table 10-4). -/
def State.limpBegin (s : State) : State :=
  if s.limp then s
  else
    let on := (List.range 24).filter (fun ch => (s.ldsDemand ch).1)
    let paused := (List.range 24).filter (fun ch => decide (s.ldsState ch = 3))
    ((s.modLds (fun l => { l with hold := on, limpPause := paused })).setBit (ldsG R.LDS_G_STATUS) 0 true).limpEvent

/-- The end of limp-home (R278). -/
def State.limpEnd (s : State) : State :=
  ((s.modLds (fun l => { l with hold := [], limpPause := [] })).setBit (ldsG R.LDS_G_STATUS) 0 false).limpEvent

/-! ## Meanings -/

/-- The stored demand of LDS_OUT and its journal entry. -/
def ldsOutEntry (ch v : Nat) : Nat × Nat := (jkey (ldsKey ch R.LDS_OUT) 0, v)
def State.ldsOutApply (s : State) (w : JWait) : State := (s.setFld (ldsKey w.index R.LDS_OUT) 0 1 (w.words.getD 0 0)).ldsRefresh w.index

/-- LDS_OUT is written: journaled under KIND 3 (R267, R448). -/
def State.ldsOutWrite (s : State) (vi ch value : Nat) : State :=
  let w : JWait := ⟨4, vi, ch, [value % 2]⟩
  s.journaled w [ldsOutEntry ch (value % 2)] id (·.ldsOutApply w)

/-- LDS_OUT_WRITE (R267). -/
def execLdsOutWrite (dt vi ch value : Nat) (s : State) : Res :=
  .next ((s.tick dt).guardWrite vi (ldsPage ch) (·.ldsOutWrite vi ch value))

/-- LDS_EVALUATE (R275): measurements, demand, and what follows. -/
def execLdsEvaluate (dt ch ma us : Nat) (tj : Int) (lhIn vfield : Nat) (uv : Bool) (s : State) : Res :=
  let s0 := s.tick dt
  let s1 := ((((s0.wr (ldsKey ch R.LDS_IMEAS) (min ma 65535)).wr (ldsKey ch R.LDS_TJ) (ofSignedSat 16 tj)).setFld
    (ldsG R.LDS_G_STATUS) 8 8 lhIn).wr (ldsG R.LDS_G_VFIELD) (min vfield 4095)).ldsRefresh ch
  .next (s1.ldsResolve ch (s1.ldsTrips ch ma us) (decide (tjTrip ≤ tj)) uv)

/-- LDS_INRUSH_END (R268): ON; TRIES is cleared after a second without a trip (R269). -/
def execLdsInrushEnd (dt ch : Nat) (s : State) : Res :=
  .next ((s.tick dt).onExpiry (tInrush ch) (fun s =>
    if s.ldsState ch = 1 then
      ((s.setFld (ldsKey ch R.LDS_STATUS) 0 4 2).modLds (fun l => { l with inrush := l.inrush.erase ch })).arm (tTries ch) (clkS 1)
    else s))

/-- LDS_TRIP (R269), with TJ as last measured. -/
def execLdsTrip (dt ch ma us : Nat) (s : State) : Res :=
  let s1 := (s.tick dt).wr (ldsKey ch R.LDS_IMEAS) (min ma 65535)
  .next (if s1.ldsTrips ch ma us then s1.ldsResolve ch true (decide (tjTrip ≤ s1.ldsTj ch)) false else s1)

/-- LDS_PAUSE_EXPIRE (R269, Table 10-3). -/
def execLdsPauseExpire (dt ch : Nat) (s : State) : Res :=
  .next ((s.tick dt).onExpiry (tPause ch) (fun s => if s.ldsState ch = 3 then s.ldsGo ch else s))

/-- LDS_TRIES_CLEAR (R269). -/
def execLdsTriesClear (dt ch : Nat) (s : State) : Res := .next ((s.tick dt).onExpiry (tTries ch) (·.setTries ch 0))

/-- LDS_THERMAL_SHUTDOWN (R270, Table 10-3). -/
def execLdsThermalShutdown (dt ch : Nat) (tj : Int) (s : State) : Res :=
  let s1 := (s.tick dt).wr (ldsKey ch R.LDS_TJ) (ofSignedSat 16 tj)
  .next (if tjTrip ≤ tj ∧ 1 ≤ s1.ldsState ch ∧ s1.ldsState ch ≤ 3 then s1.ldsThermal ch else s1)

/-- LDS_THERMAL_RECOVER (R270). -/
def execLdsThermalRecover (dt ch : Nat) (tj : Int) (s : State) : Res :=
  let s1 := (s.tick dt).wr (ldsKey ch R.LDS_TJ) (ofSignedSat 16 tj)
  .next (if s1.ldsState ch = 5 ∧ tj < s1.tjRestart ch then s1.ldsGo ch else s1)

/-- LDS_OPEN_LOAD (R271): the current has been below the threshold, or not below it, for 10 ms; `vfield` in units of 20 mV. -/
def execLdsOpenLoad (dt ch : Nat) (below : Bool) (vfield : Nat) (s : State) : Res :=
  let s1 := (s.tick dt).wr (ldsG R.LDS_G_VFIELD) (min vfield 4095)
  let k := ldsKey ch R.LDS_STATUS
  .next (if s1.bit (ldsKey ch R.LDS_CFG) 3 ∧ s1.ldsState ch = 2 ∧ 900 ≤ vfield ∧ s1.bit k 6 ≠ below then
      (s1.setBit k 6 below).ifThen below (·.raise (ldsPage ch) 3)
    else s1)

/-- LDS_STUCK_ON (R272): FS81. -/
def execLdsStuckOn (dt ch : Nat) (s : State) : Res :=
  let s1 := s.tick dt
  .next (if s1.bit (ldsKey ch R.LDS_STATUS) 4 then s1 else s1.fault 81 { page := ldsPage ch })

/-- Among channels in INRUSH or ON, the one with the lowest PRIO, and among equals the highest number (R273). -/
def State.shedChoice (s : State) : Option Nat :=
  (List.range 24).foldl (fun (best : Option Nat) ch =>
    if s.ldsState ch = 1 ∨ s.ldsState ch = 2 then
      match best with
      | none => some ch
      | some b => if s.fld (ldsKey ch R.LDS_CFG) 18 4 ≤ s.fld (ldsKey b R.LDS_CFG) 18 4 then some ch else some b
    else best) none

/-- LDS_AGGREGATE_CHECK (R273): the 100 ms average in units of 10 mA. -/
def execLdsAggregateCheck (dt total : Nat) (s : State) : Res :=
  let s1 := (s.tick dt).wr (ldsG R.LDS_G_ITOTAL) (min total 65535)
  let high := decide (s1.fld (ldsG R.LDS_G_AGG) 0 12 < total)
  let s2 := s1.setBit (ldsG R.LDS_G_STATUS) 4 high
  .next (if high then
      (match s2.shedChoice with
       | some ch => ((s2.ldsLatch ch).setBit (ldsKey ch R.LDS_STATUS) 7 true).raise (ldsPage ch) 5
       | none => s2)
    else s2)

/-- The delay elapsed, or VFIELD returned: the channel starts if its demand is on, but goes to THERMAL where TJ is still at or above
its restart level (R274). -/
def State.ldsRestart (s : State) (ch : Nat) : State :=
  if (s.ldsDemand ch).1 && decide (s.tjRestart ch ≤ s.ldsTj ch) then s.ldsThermal ch else s.ldsGo ch

/-- A channel in UV follows RESTORE (R274). -/
def State.ldsRelease (s : State) (ch : Nat) : State :=
  if s.ldsState ch ≠ 6 then s
  else
    let s1 := match s.fld (ldsKey ch R.LDS_CFG) 16 2 with
      | 0 =>
        let d := s.ldsDemand ch
        let s1 := if d.1 then s.modLds (fun l => { l with needLow := ch :: l.needLow }) else s
        let s2 := if d.2 = 0 then s1.journaled ⟨4, 0, ch, [0]⟩ [ldsOutEntry ch 0] id (·.ldsOutApply ⟨4, 0, ch, [0]⟩) else s1
        s2.ldsOff ch
      | 2 => (s.ldsEnter ch 7).arm (tRestore ch) (clkMs (ch * s.fld (ldsG R.LDS_G_STAGGER) 0 8))
      | _ => s.ldsRestart ch
    s1.raise (ldsPage ch) 7

/-- LDS_RESTORING_EXPIRE (R274). -/
def execLdsRestoringExpire (dt ch : Nat) (s : State) : Res :=
  .next ((s.tick dt).onExpiry (tRestore ch) (fun s => if s.ldsState ch = 7 then s.ldsRestart ch else s))

/-- VFIELD_RESTORED (R274). -/
def execVfieldRestored (dt vfield : Nat) (s : State) : Res :=
  let s1 := ((s.tick dt).wr (ldsG R.LDS_G_VFIELD) (min vfield 4095)).setBit (ldsG R.LDS_G_STATUS) 3 false
  .next ((List.range 24).foldl State.ldsRelease s1)

/-- A latch is cleared: OFF, TRIES and AGG 0, and a channel whose demand is on starts (Tables 10-3 and 10-4). -/
def State.ldsUnlatch (s : State) (ch : Nat) : State :=
  if s.ldsState ch = 4 then
    ((s.ldsOff ch).setBit (ldsKey ch R.LDS_STATUS) 7 false).ldsResolve ch false false false
  else s

/-- LDS_LATCH_CLR (R275). -/
def execLdsLatchClr (dt vi ch value : Nat) (s : State) : Res :=
  .next ((s.tick dt).guardWrite vi (ldsPage ch) (fun s => s.ifThen (bitOf 0 value) (·.ldsUnlatch ch)))

/-- LIMP_N_LOW (R276). -/
def execLimpNLow (dt : Nat) (s : State) : Res := .next (((s.tick dt).setBit (ldsG R.LDS_G_STATUS) 1 true).limpBegin)

/-- A write to an LDS global by a VI other than VI 0 is dropped (R280). -/
def State.ldsGlobal (s : State) (vi : Nat) (f : State → State) : State :=
  s.guardWrite vi (Block.lds.pg 0) (fun s => if vi = 0 then f s else s.on (·.denied))

/-- HEARTBEAT_WRITE (R276); the timer is suspended outside Run (R403). -/
def execHeartbeatWrite (dt vi : Nat) (s : State) : Res :=
  .next ((s.tick dt).ldsGlobal vi (fun s =>
    let s1 := s.setBit (ldsG R.LDS_G_STATUS) 2 false
    if s.bit (rk (Block.pwr.pg 0) R.PWR_STATUS) 16 then s1 else s1.arm tHeartbeat (clkMs 100)))

/-- HEARTBEAT_LOSS (R276): limp-home and FS80. -/
def execHeartbeatLoss (dt : Nat) (s : State) : Res :=
  .next ((s.tick dt).onExpiry tHeartbeat (fun s =>
    ((s.setBit (ldsG R.LDS_G_STATUS) 2 true).limpBegin).fault 80 { page := Block.lds.pg 0 }))

/-- LIMP_LATCH_CLEAR (R277). -/
def execLimpLatchClear (dt ch : Nat) (s : State) : Res :=
  let s1 := s.tick dt
  .next (if s1.limp ∧ s1.bit (ldsG R.LDS_G_STATUS) 5 ∧ s1.fld (ldsKey ch R.LDS_CLASS) 0 2 = 2 ∧ !s1.limpInput ch then s1.ldsUnlatch ch else s1)

/-- LIMP_EXIT (R278): `limpHigh` is the level of LIMP_N. -/
def execLimpExit (dt vi value : Nat) (limpHigh : Bool) (s : State) : Res :=
  .next (((s.tick dt).setBit (ldsG R.LDS_G_STATUS) 1 (!limpHigh)).ldsGlobal vi (fun s =>
    if !bitOf 0 value then s
    else if limpHigh && s.bus.running tHeartbeat && !s.due tHeartbeat then (if s.limp then s.limpEnd else s)
    else s.cfgErr (Block.lds.pg 0)))

end Sys2Proof.Machine
end

