-- ==== Sys2Proof/Machine/Coils.lean ====
section
/-! DEFINITION. Coil drivers (R291 to R302): firing, the sequencer's words, waits, the end of a sequence, VBOOST; and what a dip of
VFIELD does to loads and coils (R274, R298). -/

namespace Sys2Proof.Machine

def coiPage (c : Nat) : Nat := Block.coi.pg c
def coiKey (c off : Nat) : Nat := rk (coiPage c) off
/-- The coil globals, which every COI page shows (R300). -/
def coiG (off : Nat) : Nat := rk (Block.coi.pg 0) off
def tMinoff (c : Nat) : Nat := timerId 21 c

def State.coil (s : State) (c : Nat) : Coil := s.coils.find Coil.init c
def State.setCoil (s : State) (c : Nat) (x : Coil) : State := { s with coils := s.coils.put Coil.init c x }
def State.modCoil (s : State) (c : Nat) (f : Coil → Coil) : State := s.setCoil c (f (s.coil c))

/-- COI_STATUS[1:0]: 0 idle, 1 running, 2 off-time. -/
def State.coiPhase (s : State) (c : Nat) : Nat := s.fld (coiKey c R.COI_STATUS) 0 2
/-- The word in progress, and its 16 bits (R294). -/
def State.coiAt (s : State) (c : Nat) : Nat := s.fld (coiKey c R.COI_STATUS) 2 6
def State.coiWord (s : State) (c : Nat) : Nat := s.fld (coiKey c (R.COI_SEQ + 4 * s.coiAt c)) 0 16

/-- The sequencer goes on at a word; the next can run `clks` later. Word 0 follows word 63 (R294). -/
def State.coiGo (s : State) (c word clks : Nat) : State :=
  (s.setFld (coiKey c R.COI_STATUS) 2 6 (word % 64)).modCoil c (fun x => { x with ready := s.bus.now + clks, wait := .none })

/-- The word ran for 1 µs and the next follows. -/
def State.coiNext (s : State) (c : Nat) : State := s.coiGo c (s.coiAt c + 1) (clkUs 1)
def State.coiJump (s : State) (c word : Nat) : State := s.coiGo c word (clkUs 1)

/-- The bridge goes off: recovery into VBOOST with RECOVER_EN, else freewheel (Table 10-13). -/
def State.coiOffDrive (s : State) (c : Nat) : CoilDrive := if s.bit (coiKey c R.COI_CTRL) 0 then .recover else .freewheel

/-- The sequence ends once the current has decayed: REASON is recorded, and for any but END EV295 is raised (R293, R294, R298). -/
def State.coiEnd (s : State) (c reason : Nat) (drive : CoilDrive) : State :=
  ((s.setFld (coiKey c R.COI_STATUS) 11 3 reason).modCoil c (fun x => { x with drive := drive, wait := .ending })).ifThen
    (decide (reason ≠ 0)) (·.raise (coiPage c) 5)

/-- A running sequence, not already at its end, stops for a reason. -/
def State.coiStop (s : State) (c reason : Nat) (drive : CoilDrive) : State :=
  if s.coiPhase c = 1 ∧ (s.coil c).wait ≠ .ending then s.coiEnd c reason drive else s

/-- COI_ABORT acts as END at once (R293, R295). -/
def State.coiAbort (s : State) (c : Nat) : State := s.coiStop c 1 (s.coiOffDrive c)

/-- What a fire does, or its refusal: counted, with EV291 (R295). -/
def State.coiFire (s : State) (c entry : Nat) (byOwner : Bool) : State :=
  if s.coiPhase c ≠ 0 ∨ !s.pageEn (coiPage c) ∨ (byOwner ∧ (s.relayReader 2 c).isSome) then
    (s.addSat (coiKey c R.COI_CNT_REFUSED) 1).raise (coiPage c) 1
  else
    let k := coiKey c R.COI_STATUS
    let s1 := ((((s.setFld k 0 2 1).setFld k 24 6 0).setBit k 8 false).setBit k 9 false).addWrap (coiKey c R.COI_CNT_FIRE) 1
    (s1.setCoil c Coil.init).coiGo c entry 0

/-- What a channel measures is shown (R300). -/
def State.coiMeasure (s : State) (c : Nat) (m : CoilMeas) : State :=
  (((s.wr (coiKey c R.COI_IMEAS) (ofSignedSat 16 m.ma)).wr (coiKey c R.COI_VMEAS) (ofSignedSat 16 (m.mv / 20))).wr
    (coiKey c R.COI_PEAK_I) (min m.peak 65535)).wr (coiKey c R.COI_ON_T) (min m.onUs 0xFFFFFF)

/-- Whether the sequencer can run its next word now, and it bears one of the opcodes. -/
def State.coiRuns (s : State) (c : Nat) (ops : List Nat) : Bool :=
  s.bus.pageUp (coiPage c) && decide (s.coiPhase c = 1) && decide ((s.coil c).wait = .none) && decide ((s.coil c).ready ≤ s.bus.now)
    && ops.contains (s.coiWord c / 4096)

/-- A word of the sequencer runs: `f` is given its operand [11:0]. -/
def State.coiOp (s : State) (dt c op : Nat) (f : State → Nat → State) : Res :=
  let s1 := s.tick dt
  .next (if s1.coiRuns c [op] then f s1 (s1.coiWord c % 4096) else s1)

/-- A wait word starts. -/
def State.coiWait (s : State) (c clks : Nat) (w : CoilWait) : State :=
  s.modCoil c (fun x => { x with ready := s.bus.now + clks, wait := w })

/-! ## Meanings -/

/-- COI_FIRE (R295). -/
def execCoiFire (dt vi c value : Nat) (s : State) : Res :=
  .next ((s.tick dt).guardWrite vi (coiPage c) (fun s => s.coiFire c (value % 64) true))

/-- COI_ABORT (R293, R295). -/
def execCoiAbort (dt vi c value : Nat) (s : State) : Res :=
  .next ((s.tick dt).guardWrite vi (coiPage c) (fun s => s.ifThen (bitOf 0 value) (·.coiAbort c)))

/-- COI_OP_END (R294). -/
def execCoiOpEnd (dt c : Nat) (s : State) : Res := s.coiOp dt c 0 (fun s _ => s.coiEnd c 0 (s.coiOffDrive c))

/-- COI_OP_SETI (R294): a target of 0 decays as END does and keeps running. -/
def execCoiOpSeti (dt c : Nat) (s : State) : Res := s.coiOp dt c 1 (fun s n =>
  let d := if n = 0 then s.coiOffDrive c else .regulate (2 * n)
  (s.modCoil c (fun x => { x with target := 2 * n, full := false, drive := d })).coiNext c)

/-- COI_OP_SRC (R294): supply, direction, and full or regulated drive. -/
def execCoiOpSrc (dt c : Nat) (s : State) : Res := s.coiOp dt c 2 (fun s n =>
  let x := s.coil c
  let d := if bitOf 2 n then .full else if x.target ≠ 0 then .regulate x.target
    else if x.drive = .full then s.coiOffDrive c else x.drive
  (s.setCoil c { x with vboost := bitOf 0 n, dir := bitOf 1 n, full := bitOf 2 n, drive := d }).coiNext c)

/-- COI_OP_WAITU (R294). -/
def execCoiOpWaitu (dt c : Nat) (s : State) : Res := s.coiOp dt c 3 (fun s n => s.coiWait c (clkUs n) .time)

/-- COI_OP_WAITM (R294). -/
def execCoiOpWaitm (dt c : Nat) (s : State) : Res := s.coiOp dt c 4 (fun s n => s.coiWait c (clkMs n) .time)

/-- COI_OP_WAITK (R297): the timeout is in units of 100 µs. -/
def execCoiOpWaitk (dt c : Nat) (s : State) : Res := s.coiOp dt c 5 (fun s n =>
  s.coiWait c (clkUs (100 * n)) (.kink s.bus.now (s.bus.now + clkUs (100 * n))))

/-- COI_OP_JMP (R294). -/
def execCoiOpJmp (dt c : Nat) (s : State) : Res := s.coiOp dt c 6 (fun s n => s.coiJump c (n % 64))

/-- COI_OP_LOOP (R294): a LOOP with count 0 falls through. -/
def execCoiOpLoop (dt c : Nat) (s : State) : Res := s.coiOp dt c 7 (fun s n =>
  let k := coiKey c R.COI_STATUS
  let lc := if s.fld k 24 6 = 0 then n / 64 else s.fld k 24 6
  if lc = 0 then s.coiNext c
  else
    let s1 := s.setFld k 24 6 (lc - 1)
    if lc - 1 ≠ 0 then s1.coiJump c (n % 64) else s1.coiNext c)

/-- COI_OP_BK (R294). -/
def execCoiOpBk (dt c : Nat) (s : State) : Res := s.coiOp dt c 8 (fun s n =>
  if s.bit (coiKey c R.COI_STATUS) 8 then s.coiJump c (n % 64) else s.coiNext c)

/-- COI_OP_BNK (R294). -/
def execCoiOpBnk (dt c : Nat) (s : State) : Res := s.coiOp dt c 9 (fun s n =>
  if s.bit (coiKey c R.COI_STATUS) 9 then s.coiJump c (n % 64) else s.coiNext c)

/-- COI_OP_BVB (R294). -/
def execCoiOpBvb (dt c : Nat) (s : State) : Res := s.coiOp dt c 10 (fun s n =>
  if s.bit (coiG R.COI_G_STATUS) 0 then s.coiNext c else s.coiJump c (n % 64))

/-- COI_OP_FREE (R294). -/
def execCoiOpFree (dt c : Nat) (s : State) : Res := s.coiOp dt c 11 (fun s _ =>
  (s.modCoil c (fun x => { x with drive := .freewheel })).coiNext c)

/-- COI_OP_RECOV (R294). -/
def execCoiOpRecov (dt c : Nat) (s : State) : Res := s.coiOp dt c 12 (fun s _ =>
  s.modCoil c (fun x => { x with drive := .recover, wait := .decay }))

/-- COI_OP_EVT (R294). -/
def execCoiOpEvt (dt c : Nat) (s : State) : Res := s.coiOp dt c 13 (fun s n =>
  ((s.setFld (coiKey c R.COI_STATUS) 16 8 n).raise (coiPage c) 4).coiNext c)

/-- COI_OP_RESERVED (R294): opcodes 0xE and 0xF set BADOP; a word that reads uncorrectable raises FS84; both act as END. -/
def execCoiOpReserved (dt c : Nat) (uncorr : Bool) (s : State) : Res :=
  let s1 := s.tick dt
  .next (
    if uncorr then
      if s1.coiRuns c (List.range 16) then (s1.fault 84 { page := coiPage c }).coiEnd c 4 (s1.coiOffDrive c) else s1
    else if s1.coiRuns c [14, 15] then (s1.setBit (coiKey c R.COI_STATUS) 10 true).coiEnd c 4 (s1.coiOffDrive c)
    else s1)

/-- COI_WAIT_EXPIRE (R294). -/
def execCoiWaitExpire (dt c : Nat) (m : CoilMeas) (s : State) : Res :=
  let s1 := s.tick dt
  .next (if s1.coiPhase c = 1 ∧ (s1.coil c).wait = .time ∧ (s1.coil c).ready ≤ s1.bus.now then
      (s1.coiMeasure c m).coiGo c (s1.coiAt c + 1) 0
    else s1)

/-- COI_KINK_DETECT (R297): the maximum of the averaged voltage since the blanking time, and the average now, in mV. Closing shows
only while the current is regulated. -/
def execCoiKinkDetect (dt c maxMv avgMv : Nat) (m : CoilMeas) (s : State) : Res :=
  let s1 := s.tick dt
  let k := coiKey c R.COI_STATUS
  .next (match (s1.coil c).wait, (s1.coil c).drive with
    | .kink start stop, .regulate _ =>
      if s1.coiPhase c = 1 ∧ start + clkUs (s1.fld (coiKey c R.COI_KINK) 8 16) ≤ s1.bus.now ∧ s1.bus.now < stop
          ∧ avgMv + 100 * s1.fld (coiKey c R.COI_KINK) 0 8 ≤ maxMv then
        (((s1.coiMeasure c m).setBit k 8 true).wr (coiKey c R.COI_KINK_T) (min ((s1.bus.now - start) / 500) 0xFFFFFF)).raise (coiPage c) 2
          |>.coiGo c (s1.coiAt c + 1) 0
      else s1
    | _, _ => s1)

/-- COI_WAITK_TIMEOUT (R297). -/
def execCoiWaitkTimeout (dt c : Nat) (m : CoilMeas) (s : State) : Res :=
  let s1 := s.tick dt
  .next (match (s1.coil c).wait with
    | .kink _ stop =>
      if s1.coiPhase c = 1 ∧ stop ≤ s1.bus.now then
        (((s1.coiMeasure c m).setBit (coiKey c R.COI_STATUS) 9 true).raise (coiPage c) 3).coiGo c (s1.coiAt c + 1) 0
      else s1
    | _ => s1)

/-- COI_CURRENT_DECAYED (R294, R296): the current is below 20 mA. RECOV goes on; an ending sequence ends, with EV290 if it ended by
END, and the minimum off-time starts. -/
def execCoiCurrentDecayed (dt c : Nat) (m : CoilMeas) (s : State) : Res :=
  let s1 := s.tick dt
  .next (
    if s1.coiPhase c = 1 ∧ m.ma.natAbs < 20 then
      match (s1.coil c).wait with
      | .decay => (s1.coiMeasure c m).coiNext c
      | .ending =>
        let s2 := ((s1.coiMeasure c m).setFld (coiKey c R.COI_STATUS) 0 2 2).setCoil c Coil.init
        (s2.arm (tMinoff c) (clkMs (max 1 (s1.fld (coiKey c R.COI_MINOFF) 0 16)))).ifThen
          (decide (s1.fld (coiKey c R.COI_STATUS) 11 3 = 0)) (·.raise (coiPage c) 0)
      | _ => s1
    else s1)

/-- COI_MINOFF_EXPIRE (R296). -/
def execCoiMinoffExpire (dt c : Nat) (s : State) : Res :=
  .next ((s.tick dt).onExpiry (tMinoff c) (·.setFld (coiKey c R.COI_STATUS) 0 2 0))

/-- VBOOST_LEVEL_CHANGE (R299): the measured voltage in mV. EV296 goes to every coil page. -/
def execVboostLevelChange (dt mv : Nat) (s : State) : Res :=
  let s1 := (s.tick dt).wr (coiG R.COI_G_VBOOST) (min (mv / 20) 4095)
  let set := 20 * s1.fld (coiG R.COI_G_VBOOST_SET) 0 12
  let ready := decide (mv ≤ set + 1000) && decide (set ≤ mv + 1000)
  let full := decide (65000 ≤ mv)
  let was := s1.bit (coiG R.COI_G_STATUS) 0
  let wasFull := s1.bit (coiG R.COI_G_STATUS) 1
  let s2 := (s1.setBit (coiG R.COI_G_STATUS) 0 ready).setBit (coiG R.COI_G_STATUS) 1 full
  .next (if was ≠ ready ∨ (full ∧ !wasFull) then (List.range 8).foldl (fun a c => a.raise (coiPage c) 6) s2 else s2)

/-- VFIELD_UNDERVOLTAGE (R274, R298). -/
def execVfieldUndervoltage (dt vfield : Nat) (s : State) : Res :=
  let s1 := ((s.tick dt).wr (ldsG R.LDS_G_VFIELD) (min vfield 4095)).setBit (ldsG R.LDS_G_STATUS) 3 true
  let s2 := (List.range 24).foldl State.ldsUv s1
  .next ((List.range 8).foldl (fun a c => a.coiStop c 2 .diodes) s2)

end Sys2Proof.Machine
end

