-- ==== Sys2Proof/Machine/Crypto.lean ====
section
/-! DEFINITION. The cryptographic functions the spec names by their standards: SHA-384 (FIPS 180-4, R374), ECDSA P-384 verification
(FIPS 186-5, R375), AES-128 (FIPS 197) and AES-CMAC (R388). Their constants are derived from the standards' own definitions where
these give one. -/

namespace Sys2Proof.Machine

/-- Bytes of a big-endian number, and the number of big-endian bytes. -/
def octets : Nat → Nat → List Nat
  | 0, _ => []
  | n + 1, v => octets n (v / 256) ++ [v % 256]
def natOf (l : List Nat) : Nat := l.foldl (fun a b => a * 256 + b % 256) 0

/-! ## SHA-384 -/

/-- The first 80 primes. -/
def primes80 : List Nat :=
  [2, 3, 5, 7, 11, 13, 17, 19, 23, 29, 31, 37, 41, 43, 47, 53, 59, 61, 67, 71, 73, 79, 83, 89, 97, 101, 103, 107, 109, 113]
  ++ [127, 131, 137, 139, 149, 151, 157, 163, 167, 173, 179, 181, 191, 193, 197, 199, 211, 223, 227, 229, 233, 239, 241, 251, 257]
  ++ [263, 269, 271, 277, 281, 283, 293, 307, 311, 313, 317, 331, 337, 347, 349, 353, 359, 367, 373, 379, 383, 389, 397, 401, 409]

/-- The greatest x below 2^n with x^e ≤ v, bit by bit from the top. -/
def rootBelow (e v : Nat) : Nat → Nat → Nat
  | 0, acc => acc
  | n + 1, acc => if (acc + 2 ^ n) ^ e ≤ v then rootBelow e v n (acc + 2 ^ n) else rootBelow e v n acc

/-- The first 64 bits of the fractional part of the cube root, and of the square root, of a prime (FIPS 180-4). -/
def cubeFraction (p : Nat) : Nat := rootBelow 3 (p * 2 ^ 192) 68 0 % 2 ^ 64
def squareFraction (p : Nat) : Nat := rootBelow 2 (p * 2 ^ 128) 70 0 % 2 ^ 64

abbrev W64 := BitVec 64

/-- The initial hash value of SHA-384: the ninth to sixteenth primes. -/
def sha384Init : List W64 := ((primes80.drop 8).take 8).map (fun p => BitVec.ofNat 64 (squareFraction p))

def rotr64 (x : W64) (n : Nat) : W64 := (x >>> n) ||| (x <<< (64 - n))

/-- The message schedule: 16 words of the block extended to 80; held newest first. -/
def shaSchedule : Nat → List W64 → List W64
  | 0, w => w
  | n + 1, w =>
    let at' := fun (i : Nat) => w.getD i 0
    let s0 := rotr64 (at' 14) 1 ^^^ rotr64 (at' 14) 8 ^^^ (at' 14 >>> 7)
    let s1 := rotr64 (at' 1) 19 ^^^ rotr64 (at' 1) 61 ^^^ (at' 1 >>> 6)
    shaSchedule n ((at' 15 + s0 + at' 6 + s1) :: w)

/-- One round of SHA-512. -/
def shaRound (h : List W64) (kw : W64) : List W64 :=
  match h with
  | [a, b, c, d, e, f, g, h'] =>
    let t1 := h' + (rotr64 e 14 ^^^ rotr64 e 18 ^^^ rotr64 e 41) + ((e &&& f) ^^^ (~~~e &&& g)) + kw
    let t2 := (rotr64 a 28 ^^^ rotr64 a 34 ^^^ rotr64 a 39) + ((a &&& b) ^^^ (a &&& c) ^^^ (b &&& c))
    [t1 + t2, a, b, c, d + t1, e, f, g]
  | l => l

/-- Sixteen words of a block of 128 bytes, newest first. -/
def blockWords : Nat → List Nat → List W64
  | 0, _ => []
  | n + 1, l => blockWords n (l.drop 8) ++ [BitVec.ofNat 64 (natOf (l.take 8))]

/-- One block of SHA-512. -/
def shaBlock (ks : List W64) (h : List W64) (block : List Nat) : List W64 :=
  let w := (shaSchedule 64 (blockWords 16 block)).reverse
  let r := (List.zipWith (· + ·) ks w).foldl shaRound h
  List.zipWith (· + ·) h r

def shaBlocks (ks : List W64) : Nat → List W64 → List Nat → List W64
  | 0, h, _ => h
  | n + 1, h, l => shaBlocks ks n (shaBlock ks h (l.take 128)) (l.drop 128)

/-- SHA-384 of a string of bytes: 48 bytes. -/
def sha384 (m : List Nat) : List Nat :=
  let zeros := (128 - (m.length + 17) % 128) % 128
  let padded := m ++ [0x80] ++ List.replicate zeros 0 ++ octets 16 (8 * m.length)
  let ks := primes80.map (fun p => BitVec.ofNat 64 (cubeFraction p))
  ((shaBlocks ks (padded.length / 128) sha384Init padded).take 6).flatMap (fun w => octets 8 w.toNat)

/-! ## ECDSA P-384 -/

def p384 : Nat := 2 ^ 384 - 2 ^ 128 - 2 ^ 96 + 2 ^ 32 - 1
def b384 : Nat := 0xb3312fa7e23ee7e4988e056be3f82d19181d9c6efe8141120314088f5013875ac656398d8a2ed19d2a85c8edd3ec2aef
def n384 : Nat := 0xffffffffffffffffffffffffffffffffffffffffffffffffc7634d81f4372ddf581a0db248b0a77aecec196accc52973
def g384 : Nat × Nat :=
  (0xaa87ca22be8b05378eb1c71ef320ad746e1d3b628ba79b9859f741e082542a385502f25dbf55296c3a545e3872760ab7,
   0x3617de4a96262c6f5d9e98bf9292dc29f8f41dbd289a147ce9da3113b5f0b8c00a60b1ce1d7e819d7a431d7c90ea0e5f)

/-- x^e mod m, by the bits of e. -/
def powMod (m : Nat) : Nat → Nat → Nat → Nat
  | 0, _, _ => 1 % m
  | n + 1, x, e =>
    let r := powMod m n (x * x % m) (e / 2)
    if e % 2 = 1 then r * x % m else r

/-- The inverse modulo a prime of 384 bits. -/
def invMod (m x : Nat) : Nat := powMod m 384 (x % m) (m - 2)

/-- A point of the curve; none is the point at infinity. -/
abbrev Pt := Option (Nat × Nat)

/-- Whether (x, y) is a point on the P-384 curve (R372). -/
def onCurve (x y : Nat) : Bool :=
  decide (x < p384) && decide (y < p384) && decide (y * y % p384 = (x * x * x + (p384 - 3) * x + b384) % p384)

def ptAdd (a b : Pt) : Pt :=
  match a, b with
  | none, q => q
  | q, none => q
  | some (x1, y1), some (x2, y2) =>
    if x1 = x2 ∧ (y1 + y2) % p384 = 0 then none
    else
      let l := if x1 = x2 then (3 * x1 * x1 + (p384 - 3)) * invMod p384 (2 * y1) % p384
        else (y2 + p384 - y1) * invMod p384 (x2 + p384 - x1) % p384
      let x3 := (l * l + 2 * p384 - x1 - x2) % p384
      some (x3, (l * (x1 + p384 - x3) + p384 - y1) % p384)

def ptMul : Nat → Nat → Pt → Pt
  | 0, _, _ => none
  | n + 1, k, q =>
    let r := ptMul n (k / 2) (ptAdd q q)
    if k % 2 = 1 then ptAdd r q else r

/-- Verification of a signature (r, s) over a hash value by a public key (R375). -/
def ecdsaVerify (hash r s qx qy : Nat) : Bool :=
  if r = 0 ∨ n384 ≤ r ∨ s = 0 ∨ n384 ≤ s ∨ !onCurve qx qy then false
  else
    let w := invMod n384 s
    match ptAdd (ptMul 384 (hash * w % n384) (some g384)) (ptMul 384 (r * w % n384) (some (qx, qy))) with
    | none => false
    | some (x, _) => decide (x % n384 = r)

/-! ## AES-128 -/

/-- Multiplication by x and by a constant in GF(2^8). -/
def xtime (b : Nat) : Nat := if b < 128 then 2 * b else Nat.xor (2 * b) 0x11B
def gmul : Nat → Nat → Nat → Nat
  | 0, _, _ => 0
  | n + 1, a, b => Nat.xor (if b % 2 = 1 then a else 0) (gmul n (xtime a) (b / 2))

/-- The inverse in GF(2^8): a^254. -/
def gpow : Nat → Nat → Nat → Nat
  | 0, _, _ => 1
  | n + 1, a, e =>
    let r := gpow n (gmul 8 a a) (e / 2)
    if e % 2 = 1 then gmul 8 r a else r
def rotl8 (b n : Nat) : Nat := (b * 2 ^ n) % 256 + b / 2 ^ (8 - n)

/-- The S-box and its inverse. -/
def sbox (b : Nat) : Nat :=
  let i := gpow 8 (b % 256) 254
  [1, 2, 3, 4].foldl (fun a n => Nat.xor a (rotl8 i n)) (Nat.xor i 0x63)
def invSbox (b : Nat) : Nat := gpow 8 (Nat.xor (Nat.xor (rotl8 b 1) (Nat.xor (rotl8 b 3) (rotl8 b 6))) 0x05) 254

def xorBytes (a b : List Nat) : List Nat := List.zipWith Nat.xor a b

/-- The eleven round keys, the first being the key. -/
def roundKeys : Nat → Nat → List Nat → List (List Nat)
  | 0, _, k => [k]
  | n + 1, rcon, k =>
    let t := [Nat.xor (sbox (k.getD 13 0)) rcon, sbox (k.getD 14 0), sbox (k.getD 15 0), sbox (k.getD 12 0)]
    let w0 := xorBytes (k.take 4) t
    let w1 := xorBytes ((k.drop 4).take 4) w0
    let w2 := xorBytes ((k.drop 8).take 4) w1
    let w3 := xorBytes (k.drop 12) w2
    k :: roundKeys n (xtime rcon) (w0 ++ w1 ++ w2 ++ w3)

/-- Byte `i` of the state stands in row i mod 4 and column i ÷ 4. -/
def shiftRows (s : List Nat) : List Nat := (List.range 16).map (fun i => s.getD ((i + 4 * (i % 4)) % 16) 0)
def invShiftRows (s : List Nat) : List Nat := (List.range 16).map (fun i => s.getD ((i + 12 * (i % 4)) % 16) 0)

/-- A column is multiplied by a circulant matrix given by its first row. -/
def mixBy (c : List Nat) (s : List Nat) : List Nat :=
  (List.range 16).map (fun i => (List.range 4).foldl (fun a j =>
    Nat.xor a (gmul 8 (s.getD (4 * (i / 4) + (i + j) % 4) 0) (c.getD j 0))) 0)

def aesRounds : List (List Nat) → List Nat → List Nat
  | [], s => s
  | [k], s => xorBytes (shiftRows (s.map sbox)) k
  | k :: t, s => aesRounds t (xorBytes (mixBy [2, 3, 1, 1] (shiftRows (s.map sbox))) k)

/-- AES-128 encryption of a block of 16 bytes. -/
def aesEncrypt (key block : List Nat) : List Nat :=
  match roundKeys 10 1 key with
  | k :: t => aesRounds t (xorBytes block k)
  | [] => block

def aesBack : List (List Nat) → List Nat → List Nat
  | [], s => s
  | [k], s => xorBytes s k
  | k :: t, s => aesBack t ((invShiftRows (mixBy [14, 11, 13, 9] (xorBytes s k))).map invSbox)

/-- AES-128 decryption of a block of 16 bytes. -/
def aesDecrypt (key block : List Nat) : List Nat :=
  match (roundKeys 10 1 key).reverse with
  | k :: t => aesBack t ((invShiftRows (xorBytes block k)).map invSbox)
  | [] => block

/-- Doubling in GF(2^128), for the subkeys of AES-CMAC. -/
def cmacDouble (l : List Nat) : List Nat :=
  let v := natOf l
  octets 16 (if v < 2 ^ 127 then 2 * v else Nat.xor (2 * v % 2 ^ 128) 0x87)

def cmacChain (key : List Nat) : Nat → List Nat → List Nat → List Nat
  | 0, x, _ => x
  | n + 1, x, m => cmacChain key n (aesEncrypt key (xorBytes x (m.take 16))) (m.drop 16)

/-- AES-CMAC of a string of bytes. -/
def aesCmac (key m : List Nat) : List Nat :=
  let k1 := cmacDouble (aesEncrypt key (List.replicate 16 0))
  let n := (m.length - 1) / 16
  let last := m.drop (16 * n)
  let tail := if last.length = 16 then xorBytes last k1
    else xorBytes (last ++ [0x80] ++ List.replicate (15 - last.length) 0) (cmacDouble k1)
  cmacChain key (n + 1) (List.replicate 16 0) (m.take (16 * n) ++ tail)

end Sys2Proof.Machine
end

