-- ==== Sys2Proof/Machine/Protect.lean ====
section
/-! DEFINITION. The protection set-up (R371, R378): which registers a proposal names, what it may put there, and how a committed word
takes effect; grants, vectors and network keys among them (R90, R93, R94). -/

namespace Sys2Proof.Machine

def dkyPage : Nat := Block.dky.pg 0
def dkyKey (off : Nat) : Nat := rk dkyPage off

/-- An operation of a proposal: ADDR, SELV and VALUE (Table 13-4). -/
abbrev ProtOp := Nat × Nat × Nat

/-! ## Targets -/

/-- Whether SELV lies in the range of the selector that Table 13-1 names for a register; 0 alone where it names none. -/
def selvOk (page off selv : Nat) : Bool :=
  match blockOfPage page with
  | some .vim =>
    if off = R.VIM_GRANT_D0 ∨ off = R.VIM_GRANT_D1 ∨ off = R.VIM_GRANT_D2 then decide (selv ≤ 8191)
    else if off = R.VIM_VEC_DATA then decide (1 ≤ selv) && decide (selv ≤ 256)
    else if off = R.VIM_NETID_DATA then
      decide (257 ≤ selv % 1024) && decide (fieldOf 16 4 selv ≤ 11) && decide (selv = selv % 1024 + fieldOf 16 4 selv * 65536)
    else decide (selv = 0)
  | some .pin => decide (selv ≤ 2047)
  | some .fltSrc => decide (selv ≤ 15)
  | some .dky => if off < R.DKY_TOKKEY then decide (selv ≤ 63) else if off = R.DKY_REVOKE then decide (selv ≤ 255) else decide (selv = 0)
  | _ => decide (selv = 0)

/-- Whether Table 13-1 names a selector for a register. -/
def protSelected (page off : Nat) : Bool :=
  match blockOfPage page with
  | some .vim => decide (off ≠ R.VIM_NET_CTRL)
  | some .pin => true
  | some .fltSrc => true
  | some .dky => decide (off < R.DKY_TOKKEY) || decide (off = R.DKY_REVOKE)
  | _ => false

/-- The register an operation names. -/
def protKey (addr selv : Nat) : Nat :=
  if protSelected (addr / 4096) (addr % 4096) then rkSel (addr / 4096) (addr % 4096) selv else addr

/-- The RWL bits of a register. -/
def rwlMask (addr : Nat) : Nat := match regDefAt (addr / 4096) (addr % 4096) with | some d => d.rwl | none => 0

/-- Whether a TYPE may be granted: the first type code of a block, and none whose access Table 3-4 fixes (R94). -/
def grantable (ty : Nat) : Bool :=
  blockTable.any (fun r => decide (r.type = ty) && (match r.grant with
    | .page => true
    | .entry _ _ _ => decide (r.block ≠ .cal)
    | _ => false))

/-- The ranges of Table 15-2 and of FLT_SRC_CFG (R429). -/
def fltCfgOk (fs v : Nat) : Bool :=
  let esc := fieldOf 12 3 v
  decide (fieldOf 1 11 v ≤ 1000) && (!bitOf 0 v || (match fsClass fs with
    | 0 => decide (esc = 0)
    | 3 => decide (esc = 4) || decide (esc = 5)
    | _ => decide (esc ≤ 5)))

/-- Whether VALUE keeps within the ranges that the register tables state (Table 13-6, R94, R429). -/
def valueOk (addr selv v : Nat) : Bool :=
  let page := addr / 4096
  let off := addr % 4096
  match blockOfPage page with
  | some .vim =>
    if off = R.VIM_GRANT_D0 then
      (if fieldOf 26 2 v = 1 ∨ fieldOf 26 2 v = 2 then grantable (fieldOf 0 16 v) else true)
    else if off = R.VIM_GRANT_D2 then decide (1 ≤ fieldOf 0 19 v) && decide (fieldOf 0 19 v ≤ 262144)
    else if off = R.VIM_VEC_DATA then decide (fieldOf 12 12 v ≤ 2048)
    else if off = R.VIM_NET_CTRL then decide (1 ≤ fieldOf 16 8 v)
    else true
  | some .fltSrc => fltCfgOk (16 * pageIndex page + selv) v
  | _ => true

/-- Check 2 of Table 13-6. -/
def targetOk (o : ProtOp) : Bool :=
  decide (o.1 % 4 = 0) && decide (rwlMask o.1 ≠ 0) && selvOk (o.1 / 4096) (o.1 % 4096) o.2.1 && valueOk o.1 o.2.1 o.2.2

/-! ## Grants, vectors and pins behind the words -/

/-- The grant entry that the words D0 to D2 of an entry spell (Table 3-10): ACCESS 3 is an unused entry. -/
def Bus.grantWords (b : Bus) (i : Nat) : Grant :=
  let k := fun (off : Nat) => b.rd (rkSel vimPage off i)
  let d0 := k R.VIM_GRANT_D0
  ⟨fieldOf 0 16 d0, fieldOf 16 10 d0, if fieldOf 26 2 d0 = 3 then 0 else fieldOf 26 2 d0, fieldOf 0 18 (k R.VIM_GRANT_D1),
    fieldOf 0 19 (k R.VIM_GRANT_D2)⟩

/-- The grant table holds the entries in use. -/
def Bus.setGrant (b : Bus) (i : Nat) : Bus :=
  let g := b.grantWords i
  { b with grants := if g.access = 0 then b.grants.erase i else b.grants.set i g }

/-- A committed word takes its place, with what follows at once from it (R371, R93, Table 3-11, R96). -/
def Bus.protWrite (b : Bus) (o : ProtOp) : Bus :=
  let page := o.1 / 4096
  let off := o.1 % 4096
  let b1 := b.wr (protKey o.1 o.2.1) (maskOf (rwlMask o.1) o.2.2)
  match blockOfPage page with
  | some .vim =>
    if off = R.VIM_GRANT_D0 ∨ off = R.VIM_GRANT_D1 ∨ off = R.VIM_GRANT_D2 then b1.setGrant o.2.1
    else if off = R.VIM_VEC_DATA then
      (b1.wr (rk (viPage o.2.1) R.VI_VEC_BASE) (fieldOf 0 11 o.2.2)).wr (rk (viPage o.2.1) R.VI_VEC_COUNT) (fieldOf 12 12 o.2.2)
    else b1
  | some .pin => b1.setBit (claimKey o.2.1) 16 (decide (fieldOf 0 16 o.2.2 ≠ 0))
  | _ => b1

/-- The set-up as it would stand after a proposal (R378). -/
def Bus.preview (b : Bus) (ops : List ProtOp) : Bus := ops.foldl Bus.protWrite b

/-- Whether one resource would have two owners (R90). -/
def Bus.twoOwners (b : Bus) : Bool :=
  b.grants.cells.any (fun p => b.grants.cells.any (fun q => decide (p.2.access = 2) && decide (q.2.access = 2)
    && decide (p.2.type = q.2.type) && decide (p.2.vi ≠ q.2.vi) && decide (p.2.first < q.2.first + q.2.count)
    && decide (q.2.first < p.2.first + p.2.count)))

/-- The vector range of PCIe VI `v`. -/
def Bus.vectors (b : Bus) (v : Nat) : Nat × Nat :=
  let d := b.rd (rkSel vimPage R.VIM_VEC_DATA v)
  (fieldOf 0 11 d, fieldOf 12 12 d)

/-- Whether vector ranges overlap or exceed 2,048 (R94). -/
def Bus.vectorsClash (b : Bus) : Bool :=
  let l := ((List.range 256).map (fun i => b.vectors (i + 1))).filter (fun p => decide (p.2 ≠ 0))
  decide (2048 < l.foldl (fun n p => n + p.2) 0) || l.any (fun p => decide (2048 < p.1 + p.2))
    || (List.range l.length).any (fun i => (l.drop (i + 1)).any (fun q =>
      let p := l.getD i (0, 0)
      decide (p.1 < q.1 + q.2) && decide (q.1 < p.1 + p.2)))

/-- TOK_RELAY of a reader port: KIND and CHANNEL (Table 13-13). -/
def tokPage (n : Nat) : Nat := Block.tok.pg n
def tokKey (n off : Nat) : Nat := rk (tokPage n) off
def Bus.relay (b : Bus) (n : Nat) : Nat × Nat := (b.fld (tokKey n R.TOK_RELAY) 0 2, b.fld (tokKey n R.TOK_RELAY) 2 5)

/-- Whether two authority relays name one channel, or one names a channel that KIND does not have (Table 13-6). -/
def Bus.relaysClash (b : Bus) : Bool :=
  let l := ((List.range 8).map b.relay).filter (fun p => decide (p.1 ≠ 0))
  l.any (fun p => decide (p.1 = 3) || decide ((if p.1 = 1 then 24 else 8) ≤ p.2))
    || (List.range l.length).any (fun i => (l.drop (i + 1)).contains (l.getD i (0, 0)))

/-! ## Principals (R372) -/

/-- The words of principal `i`. -/
def Bus.prinWords (b : Bus) (i : Nat) : List Nat :=
  (List.range 26).map (fun w => b.rd (rkSel dkyPage (R.DKY_PRIN_D + 4 * w) i))

def prinKind (w : List Nat) : Nat := fieldOf 0 2 (w.getD 0 0)
def prinRole (w : List Nat) : Nat := fieldOf 4 4 (w.getD 0 0)
def prinPorts (w : List Nat) : Nat := fieldOf 8 8 (w.getD 0 0)
def prinToken (w : List Nat) : Nat := fieldOf 0 24 (w.getD 1 0)

/-- A number held big-endian in words, its first bits in the first word. -/
def wordsNat (l : List Nat) : Nat := l.foldl (fun a w => a * 2 ^ 32 + w % 2 ^ 32) 0
def prinX (w : List Nat) : Nat := wordsNat ((w.drop 2).take 12)
def prinY (w : List Nat) : Nat := wordsNat ((w.drop 14).take 12)

/-- Whether a principal is valid (R372). -/
def prinValid (w : List Nat) : Bool :=
  decide (1 ≤ prinRole w) && (match prinKind w with
    | 1 => onCurve (prinX w) (prinY w)
    | 2 => decide (prinToken w ≠ 0) && decide (prinPorts w ≠ 0)
    | _ => false)

/-- The valid principals' words. -/
def Bus.validPrins (b : Bus) : List (List Nat) := ((List.range 64).map b.prinWords).filter prinValid

/-- The different roles of the valid principals. -/
def Bus.prinRoles (b : Bus) : List Nat := (b.validPrins.map prinRole).eraseDups

/-- DKY_STATUS.BOOTSTRAP: fewer than two valid principals of different roles (R381). -/
def Bus.bootstrap (b : Bus) : Bool := decide (b.prinRoles.length < 2)

/-- Whether R381 permits a bootstrap proposal: it writes DKY_PRIN words of one principal, its proposer, and DKY_TOKKEY alone, and that
principal's role differs from that of a valid principal the table holds. -/
def Bus.bootOk (b : Bus) (proposer : Nat) (ops : List ProtOp) : Bool :=
  let isPrin := fun (o : ProtOp) => decide (dkyKey R.DKY_PRIN_D ≤ o.1) && decide (o.1 < dkyKey R.DKY_PRIN_D + 104)
  let isKey := fun (o : ProtOp) => decide (dkyKey R.DKY_TOKKEY ≤ o.1) && decide (o.1 < dkyKey R.DKY_TOKKEY + 16)
  b.bootstrap && ops.all (fun o => (isPrin o && decide (o.2.1 = proposer)) || isKey o) && ops.any isPrin
    && (List.range 64).all (fun i => decide (i = proposer) || !prinValid (b.prinWords i)
      || decide (prinRole (b.prinWords i) ≠ prinRole ((b.preview ops).prinWords proposer)))

/-- The checks of Table 13-6: the REASON of the first that fails, 0 where none does. -/
def Bus.sealCheck (b : Bus) (proposer : Nat) (boot : Bool) (count : Nat) (ops : List ProtOp) (rng : Bool) : Nat :=
  let a := b.preview ops
  if count = 0 ∨ 512 < count then 1
  else if !ops.all targetOk then 2
  else if a.twoOwners || a.vectorsClash || a.relaysClash then 3
  else if (List.range 64).any (fun i => decide (prinKind (a.prinWords i) ≠ 0) && !prinValid (a.prinWords i))
    || (!boot && a.bootstrap) then 4
  else if !prinValid (a.prinWords proposer) || (!boot && !prinValid (b.prinWords proposer)) then 5
  else if !rng then 6
  else if boot && !b.bootOk proposer ops then 7
  else 0

/-! ## Sessions and what a change of the set-up brings with it -/

/-- A network session is closed (R88): EV4 to VI 0. -/
def State.closeSession (s : State) (vi : Nat) : State :=
  match s.bus.sessions.find? vi with
  | none => s
  | some _ =>
    let s1 := s.on (fun b => { b with sessions := b.sessions.erase vi })
    let s2 := (s1.wr (rk vimPage R.VIM_SESSIONS) (s.rd (rk vimPage R.VIM_SESSIONS) - 1)).setBit (rk (viPage vi) R.VI_STATUS) 2 false
    (s2.emit (.netClosed vi)).raise vimPage 0

/-- The entries of a grant table for a VI. -/
def grantsOf (m : SMap Grant) (vi : Nat) : List Grant := (m.cells.map (·.2)).filter (fun g => decide (g.vi = vi))

/-- The VIs whose window a change of the grant table changes (R93). -/
def changedVis (old new : SMap Grant) : List Nat :=
  (((old.cells ++ new.cells).map (·.2.vi)).eraseDups).filter (fun v =>
    !((grantsOf old v).all (grantsOf new v).contains && (grantsOf new v).all (grantsOf old v).contains))

/-- EV8 to every VI whose window changed (R93). -/
def State.grantEvent (s : State) (old : SMap Grant) : State :=
  match changedVis old s.bus.grants with
  | [] => s
  | v :: t => s.on (·.raiseFor vimPage 4 v t)

/-- BOUND has changed (R382, R383): EV18; a device that is bound has no enrolment session. -/
def State.boundChanged (s : State) (holder : Nat) : State :=
  let s1 := s.on (·.raiseFor dkyPage 6 0 [holder])
  let s2 := s1.ifThen s1.bound (fun s =>
    (s.bus.sessions.cells.filter (fun p => p.2.enrol)).foldl (fun a p => a.closeSession p.1) s)
  (List.range 24).foldl State.ldsRefresh s2

/-! ## Requests for a global configuration epoch (R445) -/

def State.modEpochs (s : State) (f : Epochs → Epochs) : State := { s with epochs := f s.epochs }

/-- VI 0 or the double-key engine requests an epoch. -/
def State.epochAsk (s : State) : State := s.modEpochs (fun e => { e with asked := true })

/-- FLT_EPOCH_AUTO or a join requests an epoch. -/
def State.epochAuto (s : State) : State := s.modEpochs (fun e => { e with auto := true })

end Sys2Proof.Machine
end

