-- ==== Sys2Proof/Machine/DoubleKey.lean ====
section
/-! DEFINITION. The double-key engine (R373 to R383): a proposal from OPEN to APPLYING, signatures, and physical presence. What a global
epoch does with an applying proposal is in Machine/Epochs.lean. -/

namespace Sys2Proof.Machine

/-! ## Keys and small operations -/

def tWindow : Nat := timerId 27 0
def tPresence : Nat := timerId 28 0

def State.modDky (s : State) (f : Dky → Dky) : State := { s with dky := f s.dky }
/-- DKY_STATUS.STATE: 0 IDLE, 1 STAGING, 2 SEALING, 3 SEALED, 4 APPLYING (Table 13-5). -/
def State.dkyState (s : State) : Nat := s.fld (dkyKey R.DKY_STATUS) 0 3
def State.dkyHolder (s : State) : Nat := s.fld (dkyKey R.DKY_STATUS) 8 10
def State.dkyPresence (s : State) : Bool := s.bit (dkyKey R.DKY_STATUS) 3
/-- DKY_STAGE_HDR: PROPOSER, BOOTSTRAP and OPCOUNT. -/
def State.dkyProposer (s : State) : Nat := s.fld (dkyKey R.DKY_STAGE_HDR) 0 6
def State.dkyBoot (s : State) : Bool := s.bit (dkyKey R.DKY_STAGE_HDR) 8
def State.dkyCount (s : State) : Nat := s.fld (dkyKey R.DKY_STAGE_HDR) 16 10

def State.setDkyState (s : State) (st : Nat) : State := s.setFld (dkyKey R.DKY_STATUS) 0 3 st

/-- DKY events are recorded for VI 0 and for the holder (R376). -/
def State.dkyEvent (s : State) (bit : Nat) : State := s.on (·.raiseFor dkyPage bit 0 [s.dkyHolder])

/-- A configuration error on the DKY page (R376, R377). -/
def State.dkyErr (s : State) : State := s.cfgErr dkyPage

/-- The proposal ends with a result (Table 13-5). -/
def State.dkyIdle (s : State) (result : Nat) : State :=
  ((s.setDkyState 0).setFld (dkyKey R.DKY_STATUS) 20 4 result).disarm tWindow

/-- The operations as staged: those of the first OPCOUNT indices (R373). -/
def State.dkyStaged (s : State) : List ProtOp :=
  (List.range s.dkyCount).map (fun i => (s.rd (rkSel dkyPage R.DKY_STAGE_ADDR i), s.rd (rkSel dkyPage R.DKY_STAGE_SELV i),
    s.rd (rkSel dkyPage R.DKY_STAGE_VALUE i)))

/-- Draw `n` words from the random number generator: free values (assumption log 4). -/
def State.draw (s : State) : Nat → State × List Nat
  | 0 => (s, [])
  | n + 1 =>
    let r := (s.on Bus.nextFree).draw n
    (r.1, s.bus.fresh.toNat :: r.2)

/-- Write consecutive registers. -/
def State.wrList (s : State) (k : Nat) : List Nat → State
  | [] => s
  | v :: t => (s.wr k v).wrList (k + 4) t

/-- RNG_STATUS.READY (R469). -/
def State.rngReady (s : State) : Bool := s.bit (rk (Block.rng.pg 0) R.RNG_STATUS) 0

/-- Big-endian words of a string of bytes. -/
def bytesWords : Nat → List Nat → List Nat
  | 0, _ => []
  | n + 1, l => natOf (l.take 4) :: bytesWords n (l.drop 4)

/-- The bytes of a proposal (Tables 13-3 and 13-4). -/
def proposalBytes (proposer : Nat) (boot : Bool) (ops : List ProtOp) : List Nat :=
  octets 4 0x4B4C444B ++ [1, proposer, b2n boot, 0] ++ octets 2 ops.length ++ octets 6 0
    ++ ops.flatMap (fun o => octets 4 o.1 ++ octets 4 o.2.1 ++ octets 4 o.2.2)

/-- The proposal enters APPLYING and asks for an epoch; if the epoch has moved on since the seal it is STALE, EV15 (R379, Table 13-5). -/
def State.dkyApply (s : State) : State :=
  if s.rd (fltKey R.FLT_EPOCH) ≠ s.rd (dkyKey R.DKY_SEAL_EPOCH) then (s.dkyIdle 8).dkyEvent 3
  else ((s.setDkyState 4).disarm tWindow).epochAsk

/-! ## Commands (Table 13-5) -/

/-- Every VI reads the DKY page and may write what this chapter names; a command reaches the page while the control die is up. -/
def State.dkyWrite (s : State) (vi : Nat) (f : State → State) : State := if s.bus.pageUp dkyPage then f s else s.on (·.late vi)

/-- DKY_OPEN (R376): a new proposal starts with its staging words and signatures empty. -/
def execDkyOpen (dt vi : Nat) (s : State) : Res :=
  .next ((s.tick dt).dkyWrite vi (fun s =>
    if s.dkyState ≠ 0 then s.dkyErr
    else
      let s1 := s.wr (dkyKey R.DKY_STATUS) (1 + 8 * b2n s.dkyPresence + 256 * (vi % 1024))
      let isStage := fun (k : Nat) => decide (keyPage k = dkyPage) && decide (R.DKY_STAGE_HDR ≤ keyOff k) && decide (keyOff k ≤ R.DKY_STAGE_VALUE)
      let s2 := s1.on (fun b => { b with regs := ⟨b.regs.cells.filter (fun p => !isStage p.1)⟩ })
      s2.modDky (fun d => { d with prop := d.prop + 1, psig := none, csig := none, expiring := false, ops := [] })))

/-- DKY_SEAL (R376): the holder's. -/
def execDkySeal (dt vi : Nat) (s : State) : Res :=
  .next ((s.tick dt).dkyWrite vi (fun s =>
    if s.dkyState = 1 ∧ s.dkyHolder = vi then s.setDkyState 2 else s.dkyErr))

/-- DKY_ABORT (R376): the holder's or VI 0's. -/
def execDkyAbort (dt vi : Nat) (s : State) : Res :=
  .next ((s.tick dt).dkyWrite vi (fun s =>
    if (s.dkyState = 1 ∨ s.dkyState = 3) ∧ (s.dkyHolder = vi ∨ vi = 0) then s.dkyIdle 10 else s.dkyErr))

/-- The seal is granted (R374): EPOCH, NONCE and D are published, EV12, and the window of 300 s starts; a bootstrap proposal applies at
once where presence is valid. -/
def State.dkySealed (s : State) : State :=
  let ops := s.dkyStaged
  let epoch := s.rd (fltKey R.FLT_EPOCH)
  let n := s.draw 8
  let d := sha384 (proposalBytes s.dkyProposer s.dkyBoot ops ++ octets 4 epoch ++ n.2.flatMap (octets 4))
  let s1 := ((n.1.wr (dkyKey R.DKY_SEAL_EPOCH) epoch).wrList (dkyKey R.DKY_NONCE) n.2).wrList (dkyKey R.DKY_DIGEST) (bytesWords 12 d)
  let s2 := ((((s1.setDkyState 3).modDky (fun d => { d with ops := ops })).arm tWindow (clkS 300)).dkyEvent 0)
  if s.dkyBoot && s.dkyPresence then s2.dkyApply else s2

/-- DKY_SEAL_COMPLETE (R378). -/
def execDkySealComplete (dt : Nat) (s : State) : Res :=
  let s1 := s.tick dt
  .next (if s1.dkyState ≠ 2 then s1
    else
      let r := s1.bus.sealCheck s1.dkyProposer s1.dkyBoot s1.dkyCount s1.dkyStaged s1.rngReady
      if r ≠ 0 then (s1.dkyIdle r).dkyEvent 3 else s1.dkySealed)

/-! ## Signatures (R375, R377) -/

/-- What becomes of a signature: 0 accepted, 1 bad, 2 not valid, 3 same principal, 4 same role, 5 no proposal (Table 13-11). `w` holds
the principal's words as they stood at the submission; the refusals are tested in the order 5, 2, 1, 3, 4. -/
def State.judgeSig (s : State) (prin : Nat) (w : List Nat) (prop : Option Nat) (good : Bool) : Nat :=
  if s.dkyState ≠ 3 ∨ prop ≠ some s.dky.prop then 5
  else if !prinValid w then 2
  else if !good then 1
  else
    let mine := if prin = s.dkyProposer then s.dky.psig else s.dky.csig
    let other := if prin = s.dkyProposer then s.dky.csig else s.dky.psig
    if mine.isSome then 3
    else match other with
      | some q => if prinRole (s.bus.prinWords q) = prinRole w then 4 else 0
      | none => 0

/-- A signature is accepted, EV13, or refused, EV19; two that hold move the proposal to APPLYING (R377). -/
def State.takeSig (s : State) (prin result : Nat) : State :=
  let s1 := s.setFld (dkyKey R.DKY_SIG_STATUS) 1 3 result
  if result ≠ 0 then s1.dkyEvent 7
  else
    let own := decide (prin = s.dkyProposer)
    let s2 := if own then ((s1.modDky (fun d => { d with psig := some prin })).setBit (dkyKey R.DKY_STATUS) 6 true).setFld
        (dkyKey R.DKY_SIG_STATUS) 8 6 prin
      else ((s1.modDky (fun d => { d with csig := some prin })).setBit (dkyKey R.DKY_STATUS) 7 true).setFld
        (dkyKey R.DKY_SIG_STATUS) 16 6 prin
    let s3 := s2.dkyEvent 1
    if s3.dky.psig.isSome && s3.dky.csig.isSome then s3.dkyApply else s3

/-- A list of consecutive registers. -/
def State.rdList (s : State) (k : Nat) (n : Nat) : List Nat := (List.range n).map (fun i => s.rd (k + 4 * i))

/-- DKY_SIG_SUBMIT (R377): any VI may submit. -/
def execDkySigSubmit (dt vi value : Nat) (s : State) : Res :=
  .next ((s.tick dt).dkyWrite vi (fun s =>
    if !bitOf 0 value then s
    else if s.bit (dkyKey R.DKY_SIG_STATUS) 0 then s.dkyErr
    else
      let p := s.fld (dkyKey R.DKY_SIG_PRIN) 0 6
      let g : DkySig := ⟨p, wordsNat (s.rdList (dkyKey R.DKY_SIG_R) 12), wordsNat (s.rdList (dkyKey R.DKY_SIG_S) 12), s.bus.prinWords p,
        if s.dkyState = 3 ∧ !s.dky.expiring then some s.dky.prop else none⟩
      (s.modDky (fun d => { d with sig := some g })).setBit (dkyKey R.DKY_SIG_STATUS) 0 true))

/-- Whether a key principal's signature verifies over D (R375). -/
def State.sigGood (s : State) (g : DkySig) : Bool :=
  decide (prinKind g.words = 1)
    && ecdsaVerify (wordsNat (s.rdList (dkyKey R.DKY_DIGEST) 12)) g.r g.s (prinX g.words) (prinY g.words)

/-- The window ends: EXPIRED, EV16. -/
def State.dkyExpire (s : State) : State := (s.dkyIdle 9).dkyEvent 4

/-- DKY_SIG_VERIFIED (R377): `check` is the verifier's self-check; where it fails FS104 is raised and the signature is refused. A window
that ended during the verification of a signature submitted within it ends now. -/
def execDkySigVerified (dt : Nat) (check : Bool) (s : State) : Res :=
  let s1 := s.tick dt
  .next (match s1.dky.sig with
    | none => s1
    | some g =>
      let s2 := (s1.modDky (fun d => { d with sig := none })).setBit (dkyKey R.DKY_SIG_STATUS) 0 false
      let s3 := if check then s2 else s2.fault 104 { page := dkyPage }
      let s4 := s3.takeSig g.prin (s3.judgeSig g.prin g.words g.prop (check && s3.sigGood g))
      if s4.dky.expiring && decide (s4.dkyState = 3) then (s4.modDky (fun d => { d with expiring := false })).dkyExpire else s4)

/-- DKY_WINDOW_EXPIRE (R376). -/
def execDkyWindowExpire (dt : Nat) (s : State) : Res :=
  .next ((s.tick dt).onExpiry tWindow (fun s =>
    if s.dkyState ≠ 3 then s
    else match s.dky.sig with
      | some g => if g.prop = some s.dky.prop then s.modDky (fun d => { d with expiring := true }) else s.dkyExpire
      | none => s.dkyExpire))

/-! ## Presence (R380) -/

/-- WAKE_N_PRESENCE_HOLD (R380): WAKE_N has been held low for 2 s without a break, or is released. -/
def execWakeNPresenceHold (dt : Nat) (low : Bool) (s : State) : Res :=
  .next ((s.tick dt).modDky (fun d => { d with wakeHeld := low }))

/-- Presence is shown: EV17, valid for 300 s; a sealed bootstrap proposal applies (R380, R381). -/
def State.showPresence (s : State) : State :=
  let s1 := ((s.setBit (dkyKey R.DKY_STATUS) 3 true).dkyEvent 5).arm tPresence (clkS 300)
  if s1.dkyState = 3 ∧ s1.dkyBoot then s1.dkyApply else s1

/-- PRESENCE_EXPIRE (R380). -/
def execPresenceExpire (dt : Nat) (s : State) : Res :=
  .next ((s.tick dt).onExpiry tPresence (·.setBit (dkyKey R.DKY_STATUS) 3 false))

end Sys2Proof.Machine
end

