-- ==== Sys2Proof/Machine/Identity.lean ====
section
/-! DEFINITION. Device identity and attestation (R384, R385). -/

namespace Sys2Proof.Machine

def idnPage : Nat := Block.idn.pg 0
def idnKey (off : Nat) : Nat := rk idnPage off
def updPage : Nat := Block.upd.pg 0
def updKey (off : Nat) : Nat := rk updPage off

def State.modIdn (s : State) (f : Idn → Idn) : State := { s with idn := f s.idn }

/-- IDN_STATUS.READY (R384). -/
def State.idnReady (s : State) : Bool := s.bit (idnKey R.IDN_STATUS) 0

/-- The keys of a selected register for a list of selector values. -/
def selKeys (page off : Nat) (l : List Nat) : List Nat := l.map (fun i => rkSel page off i)

/-- The words of the protection set-up in the order of Table 13-1, selector values ascending (R385; assumption log 31). -/
def protKeys : List Nat :=
  (List.range 8192).flatMap (fun i => [rkSel vimPage R.VIM_GRANT_D0 i, rkSel vimPage R.VIM_GRANT_D1 i, rkSel vimPage R.VIM_GRANT_D2 i])
  ++ selKeys vimPage R.VIM_VEC_DATA ((List.range 256).map (· + 1))
  ++ (List.range 12).flatMap (fun w => selKeys vimPage R.VIM_NETID_DATA ((List.range 767).map (fun i => 257 + i + w * 65536)))
  ++ [rk vimPage R.VIM_NET_CTRL]
  ++ selKeys (Block.pin.pg 0) R.PIN_LOCK (List.range 2048)
  ++ (List.range 96).map (fun i => rk (Block.zwk.pg i) R.ZWK_VI)
  ++ (List.range 24).map (fun i => rk (Block.lds.pg i) R.LDS_CLASS)
  ++ (List.range 12).flatMap (fun i => selKeys (Block.fltSrc.pg i) R.FLT_SRC_CFG (List.range 16))
  ++ (List.range 12).map (fun i => updKey (R.UPD_AUTH_DIGEST + 4 * i)) ++ [updKey R.UPD_AUTH]
  ++ (List.range 12).map (fun i => updKey (R.UPD_CUST_QX + 4 * i)) ++ (List.range 12).map (fun i => updKey (R.UPD_CUST_QY + 4 * i))
  ++ (List.range 64).flatMap (fun i => (List.range 26).map (fun w => rkSel dkyPage (R.DKY_PRIN_D + 4 * w) i))
  ++ (List.range 4).map (fun i => dkyKey (R.DKY_TOKKEY + 4 * i)) ++ selKeys dkyPage R.DKY_REVOKE (List.range 256)
  ++ (List.range 8).flatMap (fun n => [tokKey n R.TOK_RELAY, tokKey n R.TOK_RELAY_GROUPS])
  ++ [dkyKey R.DKY_BIND0, dkyKey R.DKY_BIND1, dkyKey (R.DKY_BIND1 + 4)]

/-- SHA-384 over words, each big-endian. -/
def shaWords (l : List Nat) : List Nat := sha384 (l.flatMap (octets 4))

/-- Forty-eight bytes, zeros where nothing has been measured. -/
def digestBytes (l : List Nat) : List Nat := if l.isEmpty then List.replicate 48 0 else l

/-- Bytes 0 to 331 of the report of Table 13-7 for a challenge. -/
def State.reportBody (s : State) (chal : List Nat) : List Nat :=
  let flags := b2n s.bound + 2 * b2n (s.bit (idnKey R.IDN_STATUS) 1) + 4 * b2n s.bus.bootstrap + 16 * s.timState
  let w := s.bus.w250
  octets 4 0x4B4C4154 ++ [1, flags] ++ octets 2 428
    ++ octets 4 (s.rd (idnKey R.IDN_SERIAL_HI)) ++ octets 4 (s.rd (idnKey R.IDN_SERIAL_LO))
    ++ (s.rdList (idnKey R.IDN_KEYID) 12).flatMap (octets 4)
    ++ octets 4 0x4B4C5120 ++ octets 4 0x000000B1 ++ octets 4 (s.rd (fltKey R.FLT_EPOCH))
    ++ [s.fld (updKey R.UPD_IMG_INFO) 16 8, b2n (s.bit (rk 0 hdrPageStatus) 17), 0, 0]
    ++ digestBytes s.idn.measImage ++ digestBytes s.idn.measLoad
    ++ shaWords (protKeys.map s.rd)
    ++ shaWords ((List.range 64).flatMap s.bus.prinWords)
    ++ octets 4 (s.rd (dkyKey (R.DKY_BIND1 + 4))) ++ octets 4 (s.rd (dkyKey R.DKY_BIND1))
    ++ octets 2 (stampW2 w) ++ octets 4 (stampW1 w) ++ octets 4 (stampW0 w) ++ octets 6 0
    ++ chal.flatMap (octets 4) ++ octets 4 0

/-- IDN_REPORT_REQUEST (R385): any VI may request; refused as a configuration error while BUSY, or while the key is unusable. -/
def execIdnReportRequest (dt vi value : Nat) (s : State) : Res :=
  let s1 := s.tick dt
  .next (if !s1.bus.pageUp idnPage then s1.on (·.late vi)
    else if !bitOf 0 value then s1
    else if s1.bit (idnKey R.IDN_STATUS) 3 || !s1.idnReady then s1.cfgErr idnPage
    else (s1.setBit (idnKey R.IDN_STATUS) 3 true).modIdn (fun i =>
      { i with req := some (vi, s1.rdList (idnKey R.IDN_CHAL) 8), reader := none }))

/-- IDN_REPORT_READY (R385): the report is signed with the private key, which nothing reads: its signature is free (assumption
log 4). -/
def execIdnReportReady (dt : Nat) (s : State) : Res :=
  let s1 := s.tick dt
  .next (match s1.idn.req with
    | none => s1
    | some (vi, chal) =>
      let g := s1.draw 24
      let r := bytesWords 83 (s1.reportBody chal) ++ g.2
      let s2 := (g.1.setBit (idnKey R.IDN_STATUS) 3 false).modIdn (fun i => { i with req := none, reader := some vi, report := r })
      s2.on (·.raiseFor idnPage 0 vi []))

/-- IDENTITY_KEYGEN (R384): once, when the random number generator is ready; the key pair is free, and KEYID follows from it. -/
def execIdentityKeygen (dt : Nat) (s : State) : Res :=
  let s1 := s.tick dt
  .next (if s1.idn.keyed || !s1.rngReady then s1
    else
      let g := s1.draw 24
      let s2 := (g.1.wrList (idnKey R.IDN_PUB) g.2).wrList (idnKey R.IDN_KEYID)
        (bytesWords 12 (sha384 (4 :: g.2.flatMap (octets 4))))
      (s2.setBit (idnKey R.IDN_STATUS) 0 true).modIdn (fun i => { i with keyed := true }))

end Sys2Proof.Machine
end

