-- ==== Sys2Proof/Machine/Rng.lean ====
section
/-! DEFINITION. The random number generator (R469 to R471). -/

namespace Sys2Proof.Machine

def rngPage : Nat := Block.rng.pg 0
def rngKey (off : Nat) : Nat := rk rngPage off

/-- Whether the generator is in FAILED (R470). -/
def State.rngFailed (s : State) : Bool := s.bit (rngKey R.RNG_STATUS) 1

/-- RNG_READY (R469): 512 bits are conditioned and the DRBG is instantiated; EV24. -/
def execRngReady (dt : Nat) (s : State) : Res :=
  let s1 := s.tick dt
  .next (if s1.rngReady ∨ s1.rngFailed then s1
    else ((((s1.wr (rngKey R.RNG_STATUS) 1).wr (rngKey R.RNG_READY_T) (min (2 ^ 18 - 1) ((s1.bus.now - s1.boot.entropyAt) / 500))).wr
      (rngKey R.RNG_ENT_BITS) 0)).raise rngPage 0)

/-- RNG_HEALTH_FAIL (R470): the bits collected are discarded; at the third failure with no conditioning between, FAILED with EV26, and the
identity key is unusable under FS105. -/
def execRngHealthFail (dt : Nat) (s : State) : Res :=
  let s1 := s.tick dt
  .next (if s1.rngFailed then s1
    else
      let n := s1.fld (rngKey R.RNG_STATUS) 2 2 + 1
      let s2 := (((s1.addSat (rngKey R.RNG_CNT_HEALTH) 1).wr (rngKey R.RNG_ENT_BITS) 0).setFld (rngKey R.RNG_STATUS) 2 2 n).raise rngPage 1
      if n < 3 then s2
      else (((s2.setFld (rngKey R.RNG_STATUS) 0 2 2).raise rngPage 2).setBit (idnKey R.IDN_STATUS) 0 false).fault 105 { page := idnPage })

/-- RNG_RESEED (R469): 512 fresh bits reseed the DRBG. -/
def execRngReseed (dt : Nat) (s : State) : Res :=
  let s1 := s.tick dt
  .next (if s1.rngReady then
    ((s1.addWrap (rngKey R.RNG_CNT_RESEED) 1).setFld (rngKey R.RNG_STATUS) 2 2 0).wr (rngKey R.RNG_ENT_BITS) 0
  else s1)

/-- RNG_DATA_READ (Table 16-7): fresh bits for the owner; 0 while not READY, and for a VI with read access alone (R92). -/
def execRngDataRead (dt vi : Nat) (s : State) : Res :=
  let s1 := s.tick dt
  let some' := s1.rngReady && decide (s1.bus.pageAccess rngPage vi = 2)
  .next (s1.readBy vi rngPage (if some' then s1.bus.fresh.toNat else 0) (fun s => if some' then s.on (·.nextFree) else s))

end Sys2Proof.Machine
end

