-- ==== Sys2Proof/Machine/Can.lean ====
section
/-! DEFINITION. CAN controllers (R303 to R321): transmission, error states, reception and time-triggered operation. -/

namespace Sys2Proof.Machine

/-! ## Keys and records -/

def canPage (n : Nat) : Nat := Block.can.pg n
def canKey (n off : Nat) : Nat := rk (canPage n) off
def wakPage (n : Nat) : Nat := Block.wak.pg n
def wakKey (n off : Nat) : Nat := rk (wakPage n) off
def tAlone (n : Nat) : Nat := timerId 22 n
def tBoff (n : Nat) : Nat := timerId 23 n

def State.ctl (s : State) (n : Nat) : Can := s.can.find Can.init n
def State.setCtl (s : State) (n : Nat) (c : Can) : State := { s with can := s.can.put Can.init n c }
def State.modCtl (s : State) (n : Nat) (f : Can → Can) : State := s.setCtl n (f (s.ctl n))

/-- The status of buffer `b` in CAN_TX_STAT: 0 idle, 1 pending, 2 in progress, 3 OK, 4 CANCELLED, 5 SUPPRESSED, 6 HELD. -/
def State.txStat (s : State) (n b : Nat) : Nat := s.fld (canKey n R.CAN_TX_STAT) (4 * b) 4
def State.setTxStat (s : State) (n b st : Nat) : State := s.setFld (canKey n R.CAN_TX_STAT) (4 * b) 4 st

/-- A request that waits: pending, suppressed or HELD (R309). -/
def State.txWaits (s : State) (n b : Nat) : Bool := let st := s.txStat n b; decide (st = 1) || decide (st = 5) || decide (st = 6)

/-- Word `w` of transmit buffer `b` (Table 11-5). -/
def txWord (n b w : Nat) : Nat := canKey n (R.CAN_TXBUF + 0x80 * b + 4 * w)

/-- The data bytes a DLC stands for: 8 in a classical frame at most (R307). -/
def dlcBytes (fdf : Bool) (dlc : Nat) : Nat :=
  if dlc ≤ 8 then dlc
  else if fdf then (match dlc with | 9 => 12 | 10 => 16 | 11 => 20 | 12 => 24 | 13 => 32 | 14 => 48 | _ => 64) else 8

/-- The frame in a transmit buffer; RTR is ignored when FDF is 1 (Table 11-5). -/
def State.canTxFrame (s : State) (n b : Nat) : CanFrame :=
  let w0 := s.rd (txWord n b 0)
  let w1 := s.rd (txWord n b 1)
  let fdf := bitOf 4 w1
  let rtr := bitOf 30 w0 && !fdf
  let len := if rtr then 0 else dlcBytes fdf (fieldOf 0 4 w1)
  ⟨fieldOf 0 29 w0, bitOf 29 w0, rtr, fdf, bitOf 5 w1, s.fld (canKey n R.CAN_STATUS) 0 2 == 1, fieldOf 0 4 w1,
    (List.range len).map (fun k => fieldOf (8 * (k % 4)) 8 (s.rd (txWord n b (2 + k / 4))))⟩

/-- The arbitration field of a frame as it appears on the bus, as a number: lower wins (R306). -/
def arbitration (f : CanFrame) : Nat :=
  let id11 := f.id / 2 ^ 18
  if f.ide then id11 * 2 ^ 21 + 2 ^ 20 + 2 ^ 19 + f.id % 2 ^ 18 * 2 + b2n f.rtr
  else id11 * 2 ^ 21 + b2n f.rtr * 2 ^ 20

/-! ## Bus state (R310, R311) -/

/-- CAN_STATUS.BUS changes, with EV310 (Table 11-11). -/
def State.setBusState (s : State) (n st : Nat) : State :=
  if s.fld (canKey n R.CAN_STATUS) 0 2 = st then s else (s.setFld (canKey n R.CAN_STATUS) 0 2 st).raise (canPage n) 4

/-- Bus-off: transmission stops, the event is counted, and with BOFF_AUTO recovery is due after CAN_BOFF_DLY (R311). -/
def State.busOff (s : State) (n : Nat) : State :=
  let s1 := (s.setBusState n 2).addSat (canKey n R.CAN_CNT_BOFF) 1
  let s2 := s1.modCtl n (fun c => { c with recovering := false })
  s2.ifThen (s2.bit (canKey n R.CAN_CTRL) 8) (·.arm (tBoff n) (clkMs (s2.fld (canKey n R.CAN_BOFF_DLY) 0 16)))

/-- The error counters take new values and the bus state follows: passive from 128, off beyond 255 (ISO 11898-1, assumption
log 28). -/
def State.setEcr (s : State) (n tec rec' : Nat) : State :=
  let s1 := s.wr (canKey n R.CAN_ECR) (min tec 255 + min rec' 255 * 256)
  if s1.fld (canKey n R.CAN_STATUS) 0 2 = 2 then s1
  else if 255 < tec then s1.busOff n
  else s1.setBusState n (if 127 < tec ∨ 127 < rec' then 1 else 0)

def State.tec (s : State) (n : Nat) : Nat := s.fld (canKey n R.CAN_ECR) 0 8
def State.recErr (s : State) (n : Nat) : Nat := s.fld (canKey n R.CAN_ECR) 8 8

/-- A controller that takes part in bus traffic has integrated (assumption log 28). -/
def State.integrate (s : State) (n : Nat) : State :=
  if s.fld (canKey n R.CAN_STATUS) 0 2 = 3 then s.setEcr n (s.tec n) (s.recErr n) else s

/-- CAN_ALONE_SET (R310): CAN_CTRL.ALONE changes, with EV310; CAN_STATUS mirrors it. -/
def State.setAlone (s : State) (n : Nat) (on : Bool) : State :=
  if s.bit (canKey n R.CAN_CTRL) 4 = on then s
  else ((((s.setBit (canKey n R.CAN_CTRL) 4 on).setBit (canKey n R.CAN_STATUS) 3 on).disarm (tAlone n)).raise (canPage n) 4)

/-! ## Time (R317) -/

/-- One nominal bit time in units of 0.5 ns: 12.5 ns × BRP × (1 + TSEG1 + TSEG2) (R304). -/
def State.ntu (s : State) (n : Nat) : Nat :=
  let k := canKey n R.CAN_NBT
  25 * ((s.fld k 0 5 + 1) * (3 + s.fld k 5 8 + s.fld k 13 7))

/-- The cycle time at a clock, in NTU. -/
def State.cycleTime (s : State) (n clk : Nat) : Nat := 4 * (clk - (s.ctl n).cycle0) / s.ntu n

/-- The schedule entries (Table 11-8) of a controller. -/
def ttD0 (n e : Nat) : Nat := rkSel (canPage n) R.CAN_TT_D e
def ttD1 (n e : Nat) : Nat := rkSel (canPage n) (R.CAN_TT_D + 4) e
def State.ttType (s : State) (n e : Nat) : Nat := s.fld (ttD0 n e) 25 2
def State.ttMark (s : State) (n e : Nat) : Nat := s.fld (ttD0 n e) 0 16
def State.ttBuf (s : State) (n e : Nat) : Nat := s.fld (ttD0 n e) 27 2
/-- Its window ends at this cycle time. -/
def State.ttLast (s : State) (n e : Nat) : Nat := s.ttMark n e + s.fld (ttD1 n e) 0 16

/-- Whether an entry is used and applies in the current basic cycle (R318). -/
def State.ttApplies (s : State) (n e : Nat) : Bool :=
  decide (s.ttType n e ≠ 0)
    && decide (s.fld (canKey n R.CAN_STATUS) 6 6 % 2 ^ s.fld (ttD0 n e) 22 3 = s.fld (ttD0 n e) 16 6)

/-- Time-triggered operation is enabled; the cycle is synchronised and its reference not lost (R317, R321). -/
def State.ttEn (s : State) (n : Nat) : Bool := s.bit (canKey n R.CAN_CTRL) 5
def State.ttSync (s : State) (n : Nat) : Bool := s.bit (canKey n R.CAN_STATUS) 5 && !s.bit (canKey n R.CAN_FLAGS) 5

/-- Whether some exclusive entry names a buffer. -/
def State.ttNamed (s : State) (n b : Nat) : Bool :=
  (List.range 64).any (fun e => decide (s.ttType n e = 1) && decide (s.ttBuf n e = b))

/-- The open window that lets buffer `b` start now, if any (R318, R319). -/
def State.ttWindow (s : State) (n b : Nat) : Option Nat :=
  let c := s.ctl n
  c.windows.find? (fun e => decide (s.cycleTime n s.bus.now ≤ s.ttLast n e)
    && ((decide (s.ttType n e = 1) && decide (s.ttBuf n e = b) && !c.used.contains e)
      || (decide (s.ttType n e = 3) && !s.ttNamed n b)))

/-- A transmission is suppressed for this cycle (R319). -/
def State.suppress (s : State) (n b : Nat) : State :=
  (((s.setTxStat n b 5).setBit (canKey n R.CAN_FLAGS) 3 true).addSat (canKey n R.CAN_TT_CNT_MISS) 1).raise (canPage n) 5

/-! ## Requests (R305 to R308) -/

/-- The exclusive entries that name a buffer and apply in this cycle. -/
def State.ttExclusive (s : State) (n b : Nat) : List Nat :=
  (List.range 64).filter (fun e => decide (s.ttType n e = 1) && decide (s.ttBuf n e = b) && s.ttApplies n e)

/-- A request made after the latest start of its windows of this cycle is suppressed in it (R319). -/
def State.lateRequest (s : State) (n b : Nat) : Bool :=
  s.ttEn n && s.ttSync n && !(s.ttExclusive n b).isEmpty
    && (s.ttExclusive n b).all (fun e => decide (s.ttLast n e < s.cycleTime n s.bus.now))

/-- A buffer is requested, or its request refused (R305 to R307). -/
def State.txRequest (s : State) (n b : Nat) : State :=
  if s.txWaits n b ∨ s.txStat n b = 2 then s
  else if (s.bit (txWord n b 1) 4 ∧ !s.bit (canKey n R.CAN_CTRL) 2) ∨ (s.bit (txWord n b 1) 5 ∧ !s.bit (txWord n b 1) 4) then
    s.cfgErr (canPage n)
  else
    let s1 := (s.wr (canKey n (R.CAN_TX_TRIES + 4 * b)) 0).modCtl n (fun c => { c with failed := c.failed.filter (· != b) })
    if !s.serviceReady then s1.setTxStat n b 6
    else if s1.lateRequest n b then s1.suppress n b
    else s1.setTxStat n b 1

/-- The buffers a register write names. -/
def buffersOf (value : Nat) : List Nat := (List.range 3).filter (fun b => bitOf b value)

/-- CAN_TX_REQUEST (R306). -/
def execCanTxRequest (dt vi n value : Nat) (s : State) : Res :=
  .next ((s.tick dt).guardWrite vi (canPage n) (fun s => (buffersOf value).foldl (fun a b => a.txRequest n b) s))

/-- A request ends CANCELLED, with EV309 (R308). -/
def State.txCancelled (s : State) (n b : Nat) : State := (s.setTxStat n b 4).raise (canPage n) 3

/-- A buffer is cancelled (R308). -/
def State.txCancel (s : State) (n b : Nat) : State :=
  if s.txWaits n b then s.txCancelled n b
  else if s.txStat n b = 2 then s.modCtl n (fun c => { c with cancel := true })
  else s

/-- CAN_TX_CANCEL (R308). -/
def execCanTxCancel (dt vi n value : Nat) (s : State) : Res :=
  .next ((s.tick dt).guardWrite vi (canPage n) (fun s => (buffersOf value).foldl (fun a b => a.txCancel n b) s))

/-! ## Attempts (R306, R309 to R312) -/

/-- A controller is at work: enabled, its domain and section up. -/
def State.canUp (s : State) (n : Nat) : Bool := s.pageEn (canPage n) && s.bus.pageUp (canPage n)

/-- The integrated transceiver of a channel is in NORMAL; channels 8 to 15 have none (R312, R326). -/
def State.xcvrNormal (s : State) (n : Nat) : Bool := decide (8 ≤ n) || decide (s.fld (wakKey n R.WAK_STATUS) 0 2 = 1)

/-- Whether the controller may start an attempt of its own now (R305, R306, R310 to R312). -/
def State.mayAttempt (s : State) (n : Nat) : Bool :=
  s.canUp n && s.serviceReady && decide (s.fld (canKey n R.CAN_CTRL) 0 2 ≠ 1) && decide (s.fld (canKey n R.CAN_STATUS) 0 2 ≠ 2)
    && decide ((s.ctl n).inProg = none) && s.xcvrNormal n
    && (if s.bit (canKey n R.CAN_CTRL) 4
        then decide ((s.ctl n).endAt + clkMs (max 1 (s.fld (canKey n R.CAN_ALONE_GAP) 0 16)) ≤ s.bus.now)
        else decide (s.fld (canKey n R.CAN_ACKERR_RUN) 0 8 < 16))

/-- The buffers that could be sent now: they wait, and a window permits them in time-triggered operation (R318, R321). -/
def State.txReady (s : State) (n : Nat) : List Nat :=
  (List.range 3).filter (fun b => s.txWaits n b && (!s.ttEn n || (s.ttSync n && (s.ttWindow n b).isSome)))

/-- The buffer chosen by TXORD (R306). -/
def State.txChoice (s : State) (n : Nat) : Option Nat :=
  if s.bit (canKey n R.CAN_CTRL) 3 then (s.txReady n).head?
  else (s.txReady n).foldl (fun (best : Option Nat) b =>
    match best with
    | none => some b
    | some a => if arbitration (s.canTxFrame n b) < arbitration (s.canTxFrame n a) then some b else some a) none

/-- CAN_TX_TRIES of a buffer counts an attempt (R309). -/
def State.incTries (s : State) (n b : Nat) : State :=
  s.setFld (canKey n (R.CAN_TX_TRIES + 4 * b)) 0 16 (satInc 16 (s.fld (canKey n (R.CAN_TX_TRIES + 4 * b)) 0 16))

/-- A frame of a buffer starts. -/
def State.txStart (s : State) (n b : Nat) : State :=
  let w := if s.ttEn n then s.ttWindow n b else none
  let s1 := (s.setTxStat n b 2).incTries n b
  let s2 := s1.modCtl n (fun c => { c with
    inProg := some b, cancel := false,
    used := match w with | some e => if s.ttType n e = 1 then e :: c.used else c.used | none => c.used })
  s2.emit (.canFrame n (s.canTxFrame n b))

/-- CAN_TX_ATTEMPT_START (R306): the bus is free for an attempt. -/
def execCanTxAttemptStart (dt n : Nat) (s : State) : Res :=
  let s1 := s.tick dt
  .next (if s1.mayAttempt n then
      (match s1.txChoice n with
       | some b => (s1.integrate n).txStart n b
       | none => s1)
    else s1)

/-- An attempt failed: the request waits on, or ends CANCELLED if a cancel came after its start of frame (R308, R309). -/
def State.txAgain (s : State) (n b : Nat) : State :=
  let s1 := s.modCtl n (fun c => { c with inProg := none, cancel := false, endAt := s.bus.now })
  if (s.ctl n).cancel then s1.txCancelled n b else s1.setTxStat n b 1

/-- The first failed attempt of a request raises EV313 (Table 11-11). -/
def State.txFirstError (s : State) (n b : Nat) : State :=
  if (s.ctl n).failed.contains b then s
  else (s.modCtl n (fun c => { c with failed := b :: c.failed })).raise (canPage n) 7

/-- An error frame on an attempt: counted, the transmit error counter raised by 8, except for an ACK error of a passive node. -/
def State.txErrorFrame (s : State) (n : Nat) (ack : Bool) : State :=
  let s1 := s.addSat (canKey n R.CAN_CNT_BUSERR) 1
  if ack && decide (s1.fld (canKey n R.CAN_STATUS) 0 2 = 1) then s1 else s1.setEcr n (s1.tec n + 8) (s1.recErr n)

/-- An attempt of buffer `b` ends (R308 to R311). -/
def State.txEnd (s : State) (n b : Nat) (how : CanEnd) (setAlone : Bool) : State :=
  let run := canKey n R.CAN_ACKERR_RUN
  match how with
  | .ok =>
    let s1 := (((s.setTxStat n b 3).addWrap (canKey n R.CAN_CNT_TX) 1).wr run 0).setEcr n (s.tec n - 1) (s.recErr n)
    let s2 := (s1.raise (canPage n) 0).setAlone n false
    let s3 := s2.ifThen (s.ctl n).cancel (fun t => (t.setBit (canKey n R.CAN_FLAGS) 2 true).raise (canPage n) 3)
    (s3.disarm (tAlone n)).modCtl n (fun c => { c with inProg := none, cancel := false, endAt := s.bus.now })
  | .lost => ((s.wr run 0).disarm (tAlone n)).txAgain n b
  | .error => ((((s.wr run 0).disarm (tAlone n)).txFirstError n b).txErrorFrame n false).txAgain n b
  | .ackError =>
    let s1 := (((s.setFld run 0 8 (satInc 8 (s.fld run 0 8))).txFirstError n b).txErrorFrame n true).txAgain n b
    if s1.fld run 0 8 = 16 ∧ !s1.bit (canKey n R.CAN_CTRL) 4 then
      if setAlone then s1.setAlone n true else s1.arm (tAlone n) (clkMs 1)
    else s1

/-- CAN_TX_ATTEMPT_END (R309): `setAlone` tells that the message manager sets ALONE after 16 ACK errors (R310). -/
def execCanTxAttemptEnd (dt n : Nat) (how : CanEnd) (setAlone : Bool) (s : State) : Res :=
  let s1 := s.tick dt
  .next (match (s1.ctl n).inProg with
    | some b => s1.txEnd n b how setAlone
    | none => s1)

/-- CAN_ALONE_SELF_SET (R310): FS90. -/
def execCanAloneSelfSet (dt n : Nat) (s : State) : Res :=
  .next ((s.tick dt).onExpiry (tAlone n) (fun s => (s.setAlone n true).fault 90 { page := canPage n }))

/-- CAN_BOFF_RECOVERY_START (R311). -/
def execCanBoffRecoveryStart (dt n : Nat) (s : State) : Res :=
  .next ((s.tick dt).onExpiry (tBoff n) (fun s =>
    if s.fld (canKey n R.CAN_STATUS) 0 2 = 2 then s.modCtl n (fun c => { c with recovering := true }) else s))

/-- CAN_BOFF_RECOVERED (R311). -/
def execCanBoffRecovered (dt n : Nat) (s : State) : Res :=
  let s1 := s.tick dt
  .next (if s1.fld (canKey n R.CAN_STATUS) 0 2 = 2 ∧ (s1.ctl n).recovering then
      ((s1.wr (canKey n R.CAN_ECR) 0).modCtl n (fun c => { c with recovering := false })).setBusState n 0
    else s1)

/-- CAN_ERROR_DETECTED (R311): an error seen while receiving raises the receive error counter by `inc` (assumption log 28). -/
def execCanErrorDetected (dt n inc : Nat) (s : State) : Res :=
  let s1 := s.tick dt
  .next (if s1.canUp n ∧ s1.fld (canKey n R.CAN_STATUS) 0 2 ≠ 2 then
      (s1.addSat (canKey n R.CAN_CNT_BUSERR) 1).setEcr n (s1.tec n) (s1.recErr n + inc)
    else s1)

/-! ## Reception (R313 to R316) -/

/-- Word `i` of filter `f` (Table 11-6). -/
def filterKey (n f i : Nat) : Nat := rkSel (canPage n) (R.CAN_FLT_D + 4 * i) f

/-- Whether a filter matches a frame (R313). -/
def State.filterMatch (s : State) (n f : Nat) (x : CanFrame) : Bool :=
  let d0 := s.rd (filterKey n f 0)
  let d2 := s.rd (filterKey n f 2)
  let mask := s.fld (filterKey n f 1) 0 29
  bitOf 0 d2 && decide (bitOf 29 d0 = x.ide) && decide (x.id &&& mask = fieldOf 0 29 d0 &&& mask)
    && (match fieldOf 1 2 d2 with | 1 => !x.fdf | 2 => x.fdf | _ => true) && (!x.rtr || bitOf 3 d2)

/-- The wall time `ago` clocks before now, at 12.5 ns resolution, in 250 ps units (R313). -/
def State.canStamp (s : State) (ago : Nat) : Nat := (s.bus.wall - ago * s.bus.addend) / 2 ^ 46 / 50 * 50

/-- A frame goes into the FIFO, or is discarded as an overflow (R314). -/
def State.canFifo (s : State) (n : Nat) (x : CanRx) : State :=
  if (s.ctl n).fifo.length < 32 then
    let s1 := s.modCtl n (fun c => { c with fifo := c.fifo ++ [x] })
    ((s1.wr (canKey n R.CAN_RX_FILL) (s1.ctl n).fifo.length).addWrap (canKey n R.CAN_CNT_RX) 1).raise (canPage n) 1
  else ((s.addSat (canKey n R.CAN_CNT_FIFO_OVF) 1).setBit (canKey n R.CAN_FLAGS) 0 true).raise (canPage n) 6

/-- A frame goes to a high-priority buffer, or to the FIFO while the buffer is locked (R314). -/
def State.canHp (s : State) (n i : Nat) (x : CanRx) : State :=
  if s.bit (canKey n R.CAN_HP_LOCK) i then
    (((s.setBit (canKey n R.CAN_FLAGS) 1 true).addSat (canKey n R.CAN_CNT_SPILL) 1).raise (canPage n) 6).canFifo n { x with spill := true }
  else
    let y := { x with hpOvr := s.bit (canKey n R.CAN_HP_PEND) i }
    (((s.modCtl n (fun c => { c with hp := c.hp.set i y })).setBit (canKey n R.CAN_HP_PEND) i true).addWrap
      (canKey n R.CAN_CNT_RX) 1).raise (canPage n) 2

/-- The receive checks of this cycle that watch a filter (R318). -/
def State.ttChecks (s : State) (n f : Nat) : List Nat :=
  (List.range 64).filter (fun e => decide (s.ttType n e = 2) && s.ttApplies n e && decide (s.fld (ttD1 n e) 16 6 = f))

/-- The checks of a filter within whose window a start of frame lies (R320). -/
def State.ttInside (s : State) (n f sof : Nat) : List Nat :=
  (s.ttChecks n f).filter (fun e => decide (s.ttMark n e ≤ s.cycleTime n sof) && decide (s.cycleTime n sof ≤ s.ttLast n e))

/-- Whether a frame is a valid reference message for the controller (R317, R321; assumption log 29). -/
def State.isReference (s : State) (n : Nat) (x : CanFrame) : Bool :=
  let k := canKey n R.CAN_TT_CTRL
  let ref := s.fld k 2 29
  let low := if x.ide then 8 else 8 * 2 ^ 18
  s.ttEn n && decide (x.ide = s.bit k 31) && decide (1 ≤ x.dlc) && !x.rtr
    && (match s.fld k 0 2 with
        | 1 => false
        | 2 => decide (x.id / low = ref / low) && (if (s.ctl n).acting then decide (x.id < ref) else decide (x.id ≤ ref))
        | _ => decide (x.id = ref))

/-- A reference restarts the cycle: cycle time 0 at a clock, the cycle count, and synchronisation (R317, R321). -/
def State.ttRestart (s : State) (n clk count : Nat) : State :=
  (((s.modCtl n (fun c => { c with cycle0 := clk, counted := true, windows := [], used := [], seen := [] })).setFld
    (canKey n R.CAN_STATUS) 6 6 count).setBit (canKey n R.CAN_STATUS) 5 true).setBit (canKey n R.CAN_FLAGS) 5 false

/-- CAN_TT_REFERENCE_RX (R317): a backup master that acts as the master is a slave again (R321). -/
def State.ttReference (s : State) (n sof : Nat) (x : CanFrame) : State :=
  if s.isReference n x then (s.modCtl n (fun c => { c with acting := false })).ttRestart n sof (x.data.headD 0 % 64) else s

/-- A received frame is filtered and stored, or discarded (R313, R314, R320). -/
def State.canReceive (s : State) (n ago : Nat) (x : CanFrame) : State :=
  match (List.range 64).find? (fun f => s.filterMatch n f x) with
  | none => s.addSat (canKey n R.CAN_CNT_NOMATCH) 1
  | some f =>
    let sof := s.bus.now - ago
    let checked := s.ttEn n && !(s.ttChecks n f).isEmpty
    let late := checked && (s.ttInside n f sof).isEmpty
    let s1 := s.ifThen checked (·.modCtl n (fun c => { c with seen := s.ttInside n f sof ++ c.seen }))
    let s2 := s1.ifThen late (fun t =>
      ((t.addSat (canKey n R.CAN_TT_CNT_LATE) 1).setBit (canKey n R.CAN_FLAGS) 4 true).raise (canPage n) 5)
    let y : CanRx := ⟨x, f, false, late, false, s.canStamp ago⟩
    if s.bit (filterKey n f 2) 4 then s2.canHp n (s.fld (filterKey n f 2) 5 3) y else s2.canFifo n y

/-- CAN_RX_FRAME (R313): `sofAgo` clocks have passed since the sample point of its start-of-frame bit. -/
def execCanRxFrame (dt n sofAgo : Nat) (f : CanFrame) (s : State) : Res :=
  let s1 := s.tick dt
  .next (if s1.canUp n ∧ s1.fld (canKey n R.CAN_STATUS) 0 2 ≠ 2 then
      let s2 := s1.integrate n
      let s3 := s2.setEcr n (s2.tec n) (if 127 < s2.recErr n then 127 else s2.recErr n - 1)
      (s3.ttReference n (s3.bus.now - sofAgo) f).canReceive n sofAgo f
    else s1)

/-- Words 0 to 20 of a stored frame (Table 11-7). -/
def CanRx.word (x : CanRx) (w : Nat) : Nat :=
  let f := x.frame
  match w with
  | 0 => f.id % 2 ^ 29 + b2n f.ide * 2 ^ 29 + b2n f.rtr * 2 ^ 30 + 2 ^ 31
  | 1 => f.dlc % 16 + b2n f.fdf * 16 + b2n f.brs * 32 + b2n f.esi * 64 + x.filter % 64 * 256 + b2n x.spill * 2 ^ 14
      + b2n x.late * 2 ^ 15 + b2n x.hpOvr * 2 ^ 16
  | 2 => stampW0 x.stamp
  | 3 => stampW1 x.stamp
  | 4 => stampW2 x.stamp
  | w => ((List.range 4).map (fun k => f.data.getD (4 * (w - 5) + k) 0 % 256 * 2 ^ (8 * k))).foldl (· + ·) 0

/-- Word `w` of high-priority buffer `i`, and of the FIFO head window. -/
def State.hpWord (s : State) (n i w : Nat) : Nat := match (s.ctl n).hp.find? i with | some x => x.word w | none => 0
def State.rxfWord (s : State) (n w : Nat) : Nat := match (s.ctl n).fifo with | x :: _ => x.word w | [] => 0

/-- CAN_HP_WORD0_READ (R315). -/
def execCanHpWord0Read (dt vi n i : Nat) (s : State) : Res :=
  let s1 := s.tick dt
  .next (s1.readBy vi (canPage n) (s1.hpWord n i 0) (·.setBit (canKey n R.CAN_HP_LOCK) i true))

/-- CAN_HP_WORD20_READ (R315). -/
def execCanHpWord20Read (dt vi n i : Nat) (s : State) : Res :=
  let s1 := s.tick dt
  .next (s1.readBy vi (canPage n) (s1.hpWord n i 20) (fun s =>
    (s.setBit (canKey n R.CAN_HP_LOCK) i false).setBit (canKey n R.CAN_HP_PEND) i false))

/-- CAN_HP_LOCK_RELEASE (R315). -/
def execCanHpLockRelease (dt vi n value : Nat) (s : State) : Res :=
  .next ((s.tick dt).guardWrite vi (canPage n) (fun s =>
    (List.range 8).foldl (fun a i => if bitOf i value then a.setBit (canKey n R.CAN_HP_LOCK) i false else a) s))

/-- CAN_RXF_WORD0_READ (R315). -/
def execCanRxfWord0Read (dt vi n : Nat) (s : State) : Res :=
  let s1 := s.tick dt
  .next (s1.readBy vi (canPage n) (s1.rxfWord n 0) (·.modCtl n (fun c => { c with headLocked := !c.fifo.isEmpty })))

/-- CAN_RXF_WORD20_READ (R315). -/
def execCanRxfWord20Read (dt vi n : Nat) (s : State) : Res :=
  let s1 := s.tick dt
  .next (s1.readBy vi (canPage n) (s1.rxfWord n 20) (fun s =>
    let s2 := s.modCtl n (fun c => { c with fifo := c.fifo.drop 1, headLocked := false })
    s2.wr (canKey n R.CAN_RX_FILL) (s2.ctl n).fifo.length))

/-! ## Time-triggered operation (R317 to R321) -/

/-- CYCLES, 7 being treated as 6 (R317). -/
def State.ttCycles (s : State) (n : Nat) : Nat := min 6 (s.fld (canKey n R.CAN_TT_CYCLE) 16 3)

/-- Whether the controller sends reference messages: the master, or a backup master that acts as one. -/
def State.ttMaster (s : State) (n : Nat) : Bool :=
  s.ttEn n && (decide (s.fld (canKey n R.CAN_TT_CTRL) 0 2 = 1)
    || (decide (s.fld (canKey n R.CAN_TT_CTRL) 0 2 = 2) && (s.ctl n).acting))

/-- The cycle count of the next reference (R317). -/
def State.ttNextCount (s : State) (n : Nat) : Nat :=
  if (s.ctl n).counted then (s.fld (canKey n R.CAN_STATUS) 6 6 + 1) % 2 ^ s.ttCycles n else 0

/-- CAN_TT_REFERENCE_SEND (R317): the reference is due when the cycle time reaches CAN_TT_CYCLE, or at once where none was sent; a
failed one is retransmitted. -/
def execCanTtReferenceSend (dt n sofAgo : Nat) (how : CanEnd) (s : State) : Res :=
  let s1 := s.tick dt
  .next (if s1.ttMaster n ∧ s1.canUp n ∧ s1.serviceReady ∧ s1.fld (canKey n R.CAN_STATUS) 0 2 ≠ 2 ∧ s1.xcvrNormal n
      ∧ s1.fld (canKey n R.CAN_CTRL) 0 2 ≠ 1
      ∧ (!(s1.ctl n).counted ∨ (s1.ctl n).acting ∨ s1.fld (canKey n R.CAN_TT_CYCLE) 0 16 ≤ s1.cycleTime n (s1.bus.now - sofAgo)) then
      let k := canKey n R.CAN_TT_CTRL
      let count := s1.ttNextCount n
      let s2 := (s1.integrate n).emit (.canFrame n ⟨s1.fld k 2 29, s1.bit k 31, false, false, false, false, 1, [count]⟩)
      match how with
      | .ok => ((s2.addWrap (canKey n R.CAN_CNT_TX) 1).setEcr n (s2.tec n - 1) (s2.recErr n)).ttRestart n (s1.bus.now - sofAgo) count
      | .lost => s2
      | .error => s2.txErrorFrame n false
      | .ackError => s2.txErrorFrame n true
    else s1)

/-- CAN_TT_WINDOW_MARK (R318). -/
def execCanTtWindowMark (dt n entry : Nat) (s : State) : Res :=
  let s1 := s.tick dt
  .next (if s1.canUp n ∧ s1.ttEn n ∧ s1.ttSync n ∧ s1.ttApplies n entry ∧ s1.ttMark n entry ≤ s1.cycleTime n s1.bus.now
      ∧ !(s1.ctl n).windows.contains entry then
      s1.modCtl n (fun c => { c with windows := c.windows ++ [entry] })
    else s1)

/-- CAN_TT_WINDOW_END (R319, R320). -/
def execCanTtWindowEnd (dt n entry : Nat) (s : State) : Res :=
  let s1 := s.tick dt
  .next (if (s1.ctl n).windows.contains entry ∧ s1.ttLast n entry ≤ s1.cycleTime n s1.bus.now then
      let c := s1.ctl n
      let s2 := s1.modCtl n (fun c => { c with windows := c.windows.filter (· != entry) })
      match s1.ttType n entry with
      | 1 =>
        let b := s1.ttBuf n entry
        if s1.txWaits n b && !c.used.contains entry then s2.suppress n b else s2
      | 2 => if c.seen.contains entry then s2 else s2.addSat (canKey n R.CAN_TT_CNT_ABSENT) 1
      | _ => s2
    else s1)

/-- CAN_TT_REF_TIMEOUT (R317, R321). -/
def execCanTtRefTimeout (dt n : Nat) (s : State) : Res :=
  let s1 := s.tick dt
  .next (if s1.canUp n ∧ s1.ttEn n ∧ !s1.ttMaster n ∧ !s1.bit (canKey n R.CAN_FLAGS) 5
      ∧ s1.fld (canKey n R.CAN_TT_CYCLE) 0 16 + s1.fld (canKey n R.CAN_TT_BACKUP) 0 16 < s1.cycleTime n s1.bus.now then
      let s2 := ((s1.setBit (canKey n R.CAN_FLAGS) 5 true).setBit (canKey n R.CAN_STATUS) 5 false).raise (canPage n) 5
      s2.modCtl n (fun c => { c with
        acting := decide (s1.fld (canKey n R.CAN_TT_CTRL) 0 2 = 2), windows := [] })
    else s1)

end Sys2Proof.Machine
end

