-- ==== Sys2Proof/Machine/Transceiver.lean ====
section
/-! DEFINITION. Integrated CAN transceivers, their sleep and wake (R322 to R328). -/

namespace Sys2Proof.Machine

def tCommit (n : Nat) : Nat := timerId 24 n
def tFailsafe (n : Nat) : Nat := timerId 25 n

/-- WAK_STATUS.STATE: 0 STANDBY, 1 NORMAL, 2 GO_SLEEP, 3 SLEEP (Table 11-10). -/
def State.wakState (s : State) (n : Nat) : Nat := s.fld (wakKey n R.WAK_STATUS) 0 2

/-- A change of state, with EV317. CAN_STATUS.XCVR_NOT_NORMAL follows, and a frame in progress fails as NORMAL is left (R312,
R322). -/
def State.setWak (s : State) (n st : Nat) : State :=
  if s.wakState n = st then s
  else
    let s1 := ((s.setFld (wakKey n R.WAK_STATUS) 0 2 st).raise (wakPage n) 3).setBit (canKey n R.CAN_STATUS) 4 (decide (st ≠ 1))
    match (s1.ctl n).inProg with
    | some b => if st = 1 then s1 else s1.txEnd n b .error false
    | none => s1

/-- The fail-safe timer stops. -/
def State.stopFailsafe (s : State) (n : Nat) : State := (s.disarm (tFailsafe n)).setBit (wakKey n R.WAK_STATUS) 6 false

/-- GO_SLEEP, whose commit point comes after 50 µs (Table 11-2). -/
def State.goSleep (s : State) (n : Nat) : State := (s.setWak n 2).arm (tCommit n) (clkUs 50)

/-- A wake is detected from a source (R322 to R325): recorded and counted; GO_SLEEP is aborted; SLEEP is left for STANDBY with the
fail-safe timer running. It wakes the console section and is wake source 1 (Tables 14-4, 14-5). -/
def State.wakDetect (s : State) (n src : Nat) : State :=
  let st := s.wakState n
  let k := wakKey n R.WAK_STATUS
  if st = 1 then s
  else
    let s1 := if s.bit k 2 then s else s.setFld k 3 3 src
    let s2 := (s1.setBit k 2 true).addSat (wakKey n R.WAK_CNT_WAKE) 1
    let s3 := match st with
      | 2 => ((((s2.disarm (tCommit n)).setWak n 0).setBit k 7 true).addSat (wakKey n R.WAK_CNT_ABORT) 1).raise (wakPage n) 1
      | 3 => ((((s2.setWak n 0).setBit k 6 true).arm (tFailsafe n)
          (clkMs (s.fld (wakKey n R.WAK_FAILSAFE) 0 16)))).raise (wakPage n) 0
      | _ => s2
    (s3.sectionWake n).wake 1

/-! ## Meanings -/

/-- WAK_MODE_NORMAL (R322): from STANDBY; the confirmation. -/
def execWakModeNormal (dt vi n : Nat) (s : State) : Res :=
  .next ((s.tick dt).guardWrite vi (wakPage n) (fun s =>
    if s.wakState n = 0 then ((s.setFld (wakKey n R.WAK_CMD) 0 2 0).stopFailsafe n).setWak n 1 else s))

/-- WAK_MODE_STANDBY (R322, R325). -/
def execWakModeStandby (dt vi n value : Nat) (s : State) : Res :=
  .next ((s.tick dt).guardWrite vi (wakPage n) (fun s =>
    if s.wakState n ≤ 1 then ((s.setFld (wakKey n R.WAK_CMD) 0 2 value).stopFailsafe n).setWak n 0 else s))

/-- WAK_MODE_SLEEP (R322): refused while controller n has a request pending, HELD or in progress. -/
def execWakModeSleep (dt vi n : Nat) (s : State) : Res :=
  .next ((s.tick dt).guardWrite vi (wakPage n) (fun s =>
    if (List.range 3).any (fun b => s.txWaits n b || decide (s.txStat n b = 2)) then s.cfgErr (wakPage n)
    else if s.wakState n ≤ 1 then (s.setFld (wakKey n R.WAK_CMD) 0 2 2).goSleep n else s))

/-- WAK_SLEEP_COMMIT (R324). -/
def execWakSleepCommit (dt n : Nat) (s : State) : Res :=
  .next ((s.tick dt).onExpiry (tCommit n) (fun s => if s.wakState n = 2 then s.setWak n 3 else s))

/-- The longest wake-up pattern, in µs, by WUP_TMO (Table 11-10). -/
def wupTmo (v : Nat) : Nat := match v with | 0 => 1000 | 1 => 2000 | 2 => 5000 | _ => 10000

/-- WAKE_UP_PATTERN (R323): a pattern of phases past the filter time, `us` microseconds long. -/
def execWakeUpPattern (dt n us : Nat) (s : State) : Res :=
  let s1 := s.tick dt
  .next (if s1.bit (wakKey n R.WAK_CFG) 0 ∧ us ≤ wupTmo (s1.fld (wakKey n R.WAK_CFG) 13 3) then s1.wakDetect n 1 else s1)

/-- Whether a frame is the selective wake frame (R323). -/
def State.wakeFrame (s : State) (n : Nat) (f : CanFrame) : Bool :=
  let id := s.rd (wakKey n R.WAK_WUF_ID)
  let mask := s.fld (wakKey n R.WAK_WUF_MASK) 0 29
  let dlc := s.fld (wakKey n R.WAK_WUF_DLC) 0 4
  !f.fdf && decide (bitOf 29 id = f.ide) && decide (f.id &&& mask = fieldOf 0 29 id &&& mask)
    && (decide (dlc = 0) || (decide (f.dlc = dlc)
      && (List.range (min dlc 8)).any (fun k =>
        decide (f.data.getD k 0 &&& s.fld (wakKey n (R.WAK_WUF_DATA_LO + 4 * (k / 4))) (8 * (k % 4)) 8 ≠ 0))))

/-- SELECTIVE_WAKE_FRAME (R323): a frame whose CRC delimiter ends now. -/
def execSelectiveWakeFrame (dt n : Nat) (f : CanFrame) (s : State) : Res :=
  let s1 := s.tick dt
  .next (if s1.bit (wakKey n R.WAK_CFG) 1 ∧ s1.wakeFrame n f then s1.wakDetect n 2 else s1)

/-- FRAME_ERROR_COUNTER_WAKE (R323): the counter reaches 32. -/
def execFrameErrorCounterWake (dt n : Nat) (s : State) : Res :=
  let s1 := s.tick dt
  .next (if s1.bit (wakKey n R.WAK_CFG) 1 ∧ s1.bit (wakKey n R.WAK_CFG) 3 ∧ s1.wakState n ≠ 1 then
      ((s1.setFld (wakKey n R.WAK_FEC) 0 6 32).setBit (wakKey n R.WAK_STATUS) 8 true).wakDetect n 3
    else s1)

/-- WAK_FAILSAFE_EXPIRE (R325, Table 11-2). -/
def execWakFailsafeExpire (dt n : Nat) (s : State) : Res :=
  .next ((s.tick dt).onExpiry (tFailsafe n) (fun s =>
    let s1 := s.setBit (wakKey n R.WAK_STATUS) 6 false
    if s1.wakState n = 0 then (s1.goSleep n).raise (wakPage n) 2 else s1))

/-- TXD_DOMINANT_TIMEOUT (R322). -/
def execTxdDominantTimeout (dt n : Nat) (s : State) : Res :=
  let s1 := s.tick dt
  .next (if s1.wakState n = 1 then (s1.setBit (wakKey n R.WAK_STATUS) 9 true).raise (wakPage n) 4 else s1)

/-- XCVR_THERMAL (R322): FS91. -/
def execXcvrThermal (dt n : Nat) (s : State) : Res :=
  .next (((s.tick dt).setBit (wakKey n R.WAK_STATUS) 10 true).fault 91 { page := wakPage n })

/-- XCVR_THERMAL_RECOVER (R322). -/
def execXcvrThermalRecover (dt n : Nat) (s : State) : Res := .next ((s.tick dt).setBit (wakKey n R.WAK_STATUS) 10 false)

/-- EXT_CAN_WAKE (R326): channel 8 to 15; EV319 on every WAK page, each of which shows the register (assumption log 30). -/
def execExtCanWake (dt n : Nat) (s : State) : Res :=
  let s1 := s.tick dt
  let k := rk (wakPage 0) R.WAK_G_EXTWAKE
  .next (if 8 ≤ n ∧ n < 16 ∧ s1.bit k (n - 8) then
      (((List.range 8).foldl (fun a i => a.raise (wakPage i) 5) (s1.setBit k n true)).sectionWake n).wake 1
    else s1)

end Sys2Proof.Machine
end

