-- ==== Sys2Proof/Machine/Canvas.lean ====
section
/-! DEFINITION. Canvases: their schedule (R195), the frame in progress, and realignment after a step of the timebase (R199). -/

namespace Sys2Proof.Machine

def cnvPage (c : Nat) : Nat := Block.cnv.pg c
def cnvKey (c off : Nat) : Nat := rk (cnvPage c) off
/-- A register of window w's slot (R215). -/
def winReg (w off : Nat) : Nat := rk (Block.win.pg (w / 4)) (off + 0x80 * (w % 4))

def State.canvas (s : State) (c : Nat) : Canvas := s.comp.canvases.find Canvas.init c
def State.setCanvas (s : State) (c : Nat) (x : Canvas) : State :=
  { s with comp := { s.comp with canvases := s.comp.canvases.put Canvas.init c x } }

/-- Whether a canvas is enabled. -/
def State.cnvEn (s : State) (c : Nat) : Bool := s.bit (cnvKey c hdrPageCtrl) 0

/-- The rate of a canvas in frames per `den` seconds (Table 7-6); 7 is refused. -/
def rateNum (r : Nat) : Nat := match r with | 0 => 60 | 1 => 50 | 2 => 30 | 3 => 25 | 4 => 24 | 5 => 60000 | _ => 30000
def rateDen (r : Nat) : Nat := if r < 5 then 1 else 1001

/-- The geometry and schedule of a canvas. -/
structure Geo where
  num : Nat
  den : Nat
  vtotal : Nat
  tro : Nat
  tileW : Nat
  tileH : Nat
  cols : Nat
  rows : Nat
  tbase : Nat
  phase : Nat
  deriving DecidableEq, Repr

def State.geo (s : State) (c : Nat) : Geo :=
  let r := s.fld (cnvKey c R.CNV_CTRL) 4 3
  ⟨rateNum r, rateDen r, s.fld (cnvKey c R.CNV_VTOTAL) 0 13, s.fld (cnvKey c R.CNV_VTOTAL) 16 13, s.fld (cnvKey c R.CNV_RASTER) 0 13,
   s.fld (cnvKey c R.CNV_RASTER) 16 13, s.fld (cnvKey c R.CNV_GRID) 0 5, s.fld (cnvKey c R.CNV_GRID) 8 5,
   s.fld (cnvKey c R.CNV_GRID) 16 8, s.fld (cnvKey c R.CNV_PHASE) 0 26⟩

/-- Packets per tile line (R195). -/
def Geo.npl (g : Geo) : Nat := ceilDiv (g.tileW * 5) 2400

/-- Canvas time counts units of 250 ps ÷ `Geo.q`, in which every period of R195 is whole. -/
def Geo.q (g : Geo) : Nat := g.num * g.vtotal * g.npl
def Geo.tframe (g : Geo) : Nat := g.den * 4000000000 * g.vtotal * g.npl
def Geo.tline (g : Geo) : Nat := g.den * 4000000000 * g.npl
def Geo.trs (g : Geo) : Nat := g.den * 4000000000
def Geo.phaseU (g : Geo) : Nat := g.phase * 4 * g.q

/-- W in the units of a canvas. -/
def State.cnvNow (s : State) (g : Geo) : Nat := s.bus.w250 * g.q

/-- The first aligned instant at or after `t`: F_n = n × Tframe + CNV_PHASE (R195). -/
def Geo.alignedFrom (g : Geo) (t : Nat) : Nat := g.phaseU + ceilDiv (t - g.phaseU) g.tframe * g.tframe

/-- How far `t` lies after the nearest aligned instant, negative before it. -/
def Geo.alignErr (g : Geo) (t : Nat) : Int :=
  let r := ((t : Int) - g.phaseU) % (g.tframe : Int)
  if 2 * r ≤ g.tframe then r else r - g.tframe

/-- The start of the frame after one that starts at `f` (R195, R199): a Tframe on; while a slip realigns the canvas, whole lines
earlier or later, at most SLIP, and the last fraction of a line when within half a line. The flag says that alignment is reached
there. -/
def Geo.following (g : Geo) (f slip : Nat) (aligned : Bool) : Nat × Bool :=
  let nom := f + g.tframe
  let e := g.alignErr nom
  if aligned then (nom, false)
  else if 2 * e.natAbs ≤ g.tline then ((nom - e).toNat, true)
  else
    let n := min slip (max 1 ((2 * e.natAbs + g.tline) / (2 * g.tline)))
    (if 0 ≤ e then nom - n * g.tline else nom + n * g.tline, false)

/-- The step of the timebase by `d` units of 250 ps, as a canvas meets it (R199): its frames keep their true instants, so their
labels move with W; ALIGNED reads 0 and EV226 is raised; with REALIGN = 1 the frame in progress ends at the next aligned instant
at least TRO lines on. -/
def State.canvasStep (s : State) (d : Int) (c : Nat) : State :=
  let x := s.canvas c
  match x.nextF with
  | none => s
  | some nf =>
    let g := s.geo c
    let mv := fun (t : Nat) => ((t : Int) + d * g.q).toNat
    let shift := fun (f : CFrame) => { f with start := mv f.start, cut := f.cut.map mv,
                                              segs := f.segs.map (fun (y : Seg) => { y with tm := mv y.tm }) }
    let y : Canvas := { x with nextF := some (mv nf), alignF := none, cur := x.cur.map shift, nxt := x.nxt.map shift }
    let s1 := ((s.setCanvas c y).setBit (cnvKey c hdrPageStatus) 17 false).raise (cnvPage c) 2
    if s1.bit (cnvKey c R.CNV_CTRL) 7 then
      let a := g.alignedFrom (s1.cnvNow g + g.tro * g.tline)
      s1.setCanvas c { y with nextF := some a, alignF := some a, nxt := none,
                              cur := y.cur.map (fun f => { f with cut := some a }) }
    else s1

/-- A step of the timebase as every running canvas meets it. -/
def State.canvasesStep (s : State) (d : Int) : State := (List.range 16).foldl (fun a c => a.canvasStep d c) s

end Sys2Proof.Machine
end

