-- ==== Sys2Proof/Machine/Stores.lean ====
section
/-! DEFINITION. Frame stores and JPEG XS decode (R187 to R193, R212): the meanings of the FS and XS commands of chapter 07. -/

namespace Sys2Proof.Machine

def winPage (w : Nat) : Nat := Block.win.pg (w / 4)

def State.store (s : State) (j : Nat) : Store := s.comp.stores.find Store.init j
def State.setStore (s : State) (j : Nat) (x : Store) : State :=
  { s with comp := { s.comp with stores := s.comp.stores.put Store.init j x } }

def State.fsEn (s : State) (j : Nat) : Bool := s.bit (fsReg j R.FS_CTRL) 0
def State.fsDie (s : State) (j : Nat) : Nat := s.fld (fsReg j R.FS_CTRL) 1 1
def State.fsCoded (s : State) (j : Nat) : Bool := s.bit (fsReg j R.FS_CTRL) 2
def State.fsW (s : State) (j : Nat) : Nat := s.fld (fsReg j R.FS_RASTER) 0 13
def State.fsH (s : State) (j : Nat) : Nat := s.fld (fsReg j R.FS_RASTER) 16 13

/-- Pixels per 1,000 seconds a store declares: FS_W × FS_H × FS_RATE in mHz. -/
def State.fsLoad (s : State) (j : Nat) : Nat := s.fsW j * s.fsH j * s.fld (fsReg j R.FS_RATE) 0 18

/-! ## Windows that show a store -/

/-- The physical store a window shows, by its owner's numbering (R185, R215). -/
def State.winStore (s : State) (w src : Nat) : Option Nat := s.bus.physOf .win (s.bus.ownerOf .win w) src

/-- Whether a window is enabled by its active settings. -/
def State.winEn (s : State) (w : Nat) : Bool := s.bit (winReg w R.WIN_CTRL) 0

/-- The enabled windows whose active source is store j. -/
def State.showing (s : State) (j : Nat) : List Nat :=
  (List.range 1024).filter (fun w => s.winEn w && decide (s.winStore w (s.fld (winReg w R.WIN_SRC) 0 10) = some j))

/-- The RATE_DIV of a store: the smallest among the enabled windows that show it, 1 when none does (R212). -/
def State.fsDiv (s : State) (j : Nat) : Nat :=
  match s.showing j with
  | [] => 1
  | w :: l => l.foldl (fun m v => min m (s.fld (winReg v R.WIN_STATUS) 3 3 + 1)) (s.fld (winReg w R.WIN_STATUS) 3 3 + 1)

/-- Whether a buffer is held: bound by a canvas frame in progress, or the last good frame of a window (R191). -/
def State.bufHeld (s : State) (j b : Nat) : Bool :=
  let hit := fun (x : Bind) => decide (x.store = j) && decide (x.buf = b)
  s.comp.canvases.cells.any (fun (c : Nat × Canvas) =>
    (match c.2.cur with | some f => f.binds.any hit | none => false) || (match c.2.nxt with | some f => f.binds.any hit | none => false))
  || s.comp.good.cells.any (fun (g : Nat × Bind) => hit g.2)

/-- The state of a buffer: 3 held, 1 writing, 2 complete, 0 free (R191). -/
def State.bufState (s : State) (j b : Nat) : Nat :=
  let x := s.store j
  if s.bufHeld j b then 3 else if (x.bufs.getD b Buf.init).writing then 1 else if x.newest = some b then 2 else 0

/-- FS_STATUS follows the store's buffers, engine and RATE_DIV. -/
def State.fsReport (s : State) (j : Nat) : State :=
  let k := fsReg j R.FS_STATUS
  let s1 := (List.range 4).foldl (fun a b => a.setFld k (8 + 2 * b) 2 (s.bufState j b)) s
  (s1.setFld k 4 3 ((s.store j).engine.getD 0)).setFld k 16 4 (s.fsDiv j - 1)

/-- A frame store's event, for its owner. -/
def State.fsEvent (s : State) (j bit : Nat) : State := s.raiseEntry .win bit j

/-! ## The pool and the decode engines (R188, R192) -/

def poolBlocks : Nat := 11776
def blockBytes : Nat := 2097152

/-- The blocks a store needs (R188). -/
def State.fsBlocks (s : State) (j : Nat) : Nat :=
  4 * ceilDiv (s.fsW j * s.fsH j * 4) blockBytes
    + (if s.fsCoded j then 2 * ceilDiv (s.fld (fsReg j R.FS_CODED_MAX) 0 24) blockBytes else 0)

/-- The free blocks of a die's pool. -/
def State.poolFree (s : State) (d : Nat) : Nat :=
  poolBlocks - s.comp.stores.cells.foldl (fun n (x : Nat × Store) => if s.fsDie x.1 = d then n + x.2.blocks else n) 0

/-- CMP_POOL_FREE of a die's lanes. -/
def State.poolReport (s : State) (d : Nat) : State :=
  (List.range 9).foldl (fun a i => a.wr (rk (Block.cmp.pg (9 * d + i)) R.CMP_POOL_FREE) (s.poolFree d)) s

/-- The other enabled stores of a die. -/
def State.storesOn (s : State) (d j : Nat) : List Nat :=
  (List.range 1024).filter (fun i => decide (i ≠ j) && s.fsEn i && decide (s.fsDie i = d))

/-- A decode engine of a die with room for a store: 4 Gpixel/s and 16 streams each (R192); the lowest is taken. -/
def State.engineFor (s : State) (d j : Nat) : Option Nat :=
  (List.range 4).find? (fun e =>
    let on := (s.storesOn d j).filter (fun i => decide ((s.store i).engine = some e))
    !s.comp.engDown.contains (4 * d + e) && decide (on.length < 16)
      && decide (on.foldl (fun n i => n + s.fsLoad i) 0 + s.fsLoad j ≤ 4000000000000))

/-- Give back the blocks of a disabled store once nothing holds its buffers (R188). -/
def State.fsReturn (s : State) (j : Nat) : State :=
  let x := s.store j
  if x.closing ∧ (List.range 4).all (fun b => !s.bufHeld j b) then
    ((s.setStore j Store.init).poolReport (s.fsDie j)).fsReport j
  else s

/-- A frame store is enabled, or refused with NOSPACE, NOENGINE or OVERLOAD (R188). -/
def State.fsEnable (s : State) (j : Nat) : State :=
  let d := s.fsDie j
  let old := (s.store j).blocks
  let need := s.fsBlocks j
  let k := fsReg j R.FS_STATUS
  let eng := s.engineFor d j
  let noSpace := decide (s.poolFree d + old < need)
  let noEngine := s.fsCoded j && eng.isNone
  let tooFast := decide (64000000000000 < (s.storesOn d j).foldl (fun n i => n + s.fsLoad i) 0 + s.fsLoad j)
  let s1 := ((s.setBit k 1 noSpace).setBit k 2 noEngine).setBit k 3 tooFast
  if noSpace || noEngine || tooFast then (s1.setBit (fsReg j R.FS_CTRL) 0 false).cfgErrEntry .win j
  else
    (((s1.setStore j { s1.store j with
        ts := none, cur := none, xs := [], ended := [], newest := none, skip := 0, blocks := need, closing := false
        engine := if s1.fsCoded j then eng else none
        bufs := (s1.store j).bufs.map (fun b => { b with writing := false }) }).setBit k 0 true).poolReport d).fsReport j

/-- A frame store is disabled: its frames are lost, and its blocks return now or when the last hold ends (R188). -/
def State.fsDisable (s : State) (j : Nat) : State :=
  let x := s.store j
  let s1 := (s.setStore j { x with
    ts := none, cur := none, xs := [], ended := [], newest := none, engine := none, closing := true
    bufs := x.bufs.map (fun b => { b with writing := false }) }).setBit (fsReg j R.FS_STATUS) 0 false
  ((((s1.wr (fsReg j R.FS_LAST_TC0) 0).wr (fsReg j R.FS_LAST_TC1) 0).wr (fsReg j R.FS_LAST_TC2) 0).fsReport j).fsReturn j

/-- A write of FS_CTRL (R188): while EN is 1 a change of another field is refused whole. -/
def State.fsCtrlWrite (s : State) (j value : Nat) : State :=
  let k := fsReg j R.FS_CTRL
  let v := maskOf 0x0000FF7F value
  let was := s.rd k
  if bitOf 0 was then
    (if v / 2 ≠ was / 2 then s.cfgErrEntry .win j
     else if bitOf 0 v then s else (s.setBit k 0 false).fsDisable j)
  else if bitOf 0 v then (s.wr k v).fsEnable j
  else s.wr k v

/-- FS_ENABLE (R188): a write of FS_CTRL with EN = 1. -/
def execFsEnable (dt vi store value : Nat) (s : State) : Res :=
  .next ((s.tick dt).guardEntry vi .win (winPage store) store (fun s => s.fsCtrlWrite store (value / 2 * 2 + 1)))

/-- FS_DISABLE (R188): a write of FS_CTRL with EN = 0. -/
def execFsDisable (dt vi store : Nat) (s : State) : Res :=
  .next ((s.tick dt).guardEntry vi .win (winPage store) store (fun s =>
    s.fsCtrlWrite store (s.rd (fsReg store R.FS_CTRL) / 2 * 2)))

/-! ## Receiving frames (R119, R189, R191, R193) -/

/-- The buffer a new frame takes: the lowest free one, else the complete one if it is not held (R191). -/
def State.takeBuf (s : State) (j : Nat) : Option Nat :=
  match (List.range 4).find? (fun b => decide (s.bufState j b = 0)) with
  | some b => some b
  | none => (List.range 4).find? (fun b => decide (s.bufState j b = 2))

/-- A frame begins (R191, R212): it takes a buffer, or is discarded; RATE_DIV takes one frame in n. -/
def State.frameBegin (s : State) (j ts : Nat) : State :=
  let x := s.store j
  let n := s.fsDiv j
  let skipped := decide (x.skip % n ≠ 0)
  let x1 := { x with ts := some ts, cur := none, xs := [], skip := (x.skip + 1) % n }
  if skipped then (s.setStore j x1).addSat (fsReg j R.FS_CNT_DROPPED) 1
  else match s.takeBuf j with
    | none => (s.setStore j x1).addSat (fsReg j R.FS_CNT_DROPPED) 1
    | some b =>
      let lost := decide (x.newest = some b)
      let s1 := s.setStore j { x1 with
        cur := some b, newest := if lost then none else x.newest, nextId := x.nextId + 1
        bufs := x.bufs.set b ⟨true, x.nextId, none, SMap.empty, []⟩ }
      s1.ifThen lost (·.addSat (fsReg j R.FS_CNT_DROPPED) 1)

/-- A coded frame is broken when a packet is missing or it exceeds FS_CODED_MAX (R192, R193): its counters, in codestream mode,
run from 0 without a gap. -/
def xsBroken (l : List XsPart) (max' : Nat) : Bool :=
  let slice := l.any (·.slice)
  decide (max' < l.foldl (fun n p => n + p.bytes.length) 0)
    || (!slice && !(List.range l.length).all (fun i => l.any (fun p => decide (p.counter = i))))
    || l.isEmpty

/-- The frame being received has ended (R189): its buffer waits for the check. -/
def State.frameEnd (s : State) (j : Nat) : State :=
  let x := s.store j
  match x.cur with
  | none => s.setStore j { x with cur := none }
  | some b =>
    let bad := s.fsCoded j && xsBroken x.xs (s.fld (fsReg j R.FS_CODED_MAX) 0 24)
    s.setStore j { x with
      cur := none, xs := [], ended := x.ended ++ [⟨b, bad, false, x.xs⟩]
      bufs := x.bufs.modify b (fun y => { y with tc := x.tc }) }

/-- A piece of a line is written into the buffer (RFC 4175: row number, pixel offset, samples). -/
def Buf.put (b : Buf) (row off : Nat) (l : List Byte) : Buf :=
  let old := b.lines.find ⟨[], none⟩ row
  { b with lines := b.lines.set row ⟨(off, l) :: old.chunks.filter (fun c => c.1 != off), none⟩ }

/-- The sample row data headers of an RFC 4175 payload from `at'`: length, row and offset of each. -/
def srds (pl : List Byte) : Nat → Nat → List (Nat × Nat × Nat)
  | 0, _ => []
  | n + 1, at' =>
    (beAt pl at' 2, beAt pl (at' + 2) 2 % 32768, beAt pl (at' + 4) 2 % 32768)
      :: (if bitOf 15 (beAt pl (at' + 4) 2) then srds pl n (at' + 6) else [])

/-- The pieces of lines in a payload: row, offset and bytes. -/
def pieces (pl : List Byte) (at' : Nat) : List (Nat × Nat × Nat) → List (Nat × Nat × List Byte)
  | [] => []
  | (len, row, off) :: t => (row, off, (pl.drop at').take len) :: pieces pl (at' + len) t

/-- Write a packet's content into the frame being received. -/
def State.frameWrite (s : State) (j : Nat) (pl : List Byte) (p : Pkt) : State :=
  let x := s.store j
  match x.cur with
  | none => s
  | some b =>
    let r := rtpOf pl
    let first := decide ((x.bufs.getD b Buf.init).lines.cells = []) && x.xs.isEmpty
    let x1 := if first || decide (p.ta < x.ta) then { x with ta := p.ta, tc := p.tc } else x
    if s.fsCoded j then
      let h := beAt pl r.body 4
      let slice := bitOf 30 h
      s.setStore j { x1 with xs := x1.xs ++ [⟨fieldOf 11 11 h * 2048 + fieldOf 0 11 h, slice, pl.drop (r.body + 4)⟩] }
    else
      let hs := srds pl 16 (r.body + 2)
      let ps := pieces pl (r.body + 2 + 6 * hs.length) hs
      s.setStore j { x1 with bufs := x1.bufs.modify b (fun y => ps.foldl (fun y q => y.put q.1 q.2.1 q.2.2) y) }

/-- FS_CAPTURE_PACKET (R189): the oldest packet delivered to the store is written; a packet of a later frame, or the marker, ends
a frame; packets of a frame already ended are late and are not written. -/
def execFsCapturePacket (dt store : Nat) (s : State) : Res :=
  let s := s.tick dt
  .next (match s.fab.storeIn.find [] store with
    | [] => s
    | p :: rest =>
      let s1 := { s with fab := { s.fab with storeIn := s.fab.storeIn.put [] store rest } }
      if s1.fsEn store = false ∨ s1.bus.domRuns (19 + s1.fsDie store) = false then s1
      else
        let pl := match udpKey p.bytes with | some u => udpPayload p.bytes u.udp | none => []
        let r := rtpOf pl
        let s2 := match (s1.store store).ts with
          | some ts => if r.ts = ts then s1 else if (r.ts + 2 ^ 32 - ts) % 2 ^ 32 < 2 ^ 31 then (s1.frameEnd store).frameBegin store r.ts
                       else s1
          | none => s1.frameBegin store r.ts
        if (s2.store store).ts = some r.ts then
          let s3 := s2.frameWrite store pl p
          (if r.marker then s3.frameEnd store else s3).fsReport store
        else s2)

/-- How many pixels of a line its pieces cover. -/
def coverage (bpg ppg : Nat) (l : List (Nat × List Byte)) : Nat := l.foldl (fun n c => n + c.2.length * ppg / max 1 bpg) 0

/-- Bytes and pixels per pixel group of a store's format (RFC 4175): sampling and depth. -/
def pgroup (sampling : Nat) (ten : Bool) : Nat × Nat :=
  match sampling, ten with
  | 0, false => (4, 2) | 0, true => (5, 2) | _, false => (3, 1) | _, true => (15, 4)

/-- Whether a line has been received in full. -/
def State.lineFull (s : State) (j : Nat) (l : SLine) : Bool :=
  let c := s.rd (fsReg j R.FS_CTRL)
  let g := pgroup (fieldOf 3 2 c) (bitOf 5 c)
  if s.fsCoded j then !l.chunks.isEmpty else decide (s.fsW j ≤ coverage g.1 g.2 l.chunks)

/-- A buffer's frame is given up: the buffer is free again. -/
def State.frameDrop (s : State) (j b : Nat) : State :=
  let x := s.store j
  s.setStore j { x with ended := x.ended.filter (fun e => e.buf != b), bufs := x.bufs.modify b (fun y => { y with writing := false }) }

/-- A coded frame is discarded (R192, R193). -/
def State.xsError (s : State) (j b : Nat) : State := ((s.frameDrop j b).addSat (fsReg j R.FS_CNT_XS_ERR) 1).fsEvent j 3

/-- XS_DECODE_COMPLETE (R192, R193): the oldest ended coded frame, or a slice of the one being received, finishes decoding into
`count` lines from `first`; `ok` is false where it fails to parse or its header breaks the limits. -/
def execXsDecodeComplete (dt store first count : Nat) (ok : Bool) (s : State) : Res :=
  let s := s.tick dt
  let x := s.store store
  let fill := fun (b : Nat) (bytes : List Byte) (x : Store) =>
    { x with bufs := x.bufs.modify b (fun y => (List.range count).foldl (fun y i =>
        if first + i < s.fsH store then { y with lines := y.lines.set (first + i) ⟨[(0, bytes)], none⟩ } else y) y) }
  .next (if s.fsEn store = false ∨ s.fsCoded store = false then s
    else match x.ended with
    | e :: t =>
      if e.bad then s
      else if !ok || x.engine.isNone then (s.xsError store e.buf).fsReport store
      else s.setStore store (fill e.buf (e.xs.flatMap (·.bytes)) { x with ended := { e with decoded := true } :: t })
    | [] => match x.cur with
      | some b =>
        if x.xs.any (·.slice) then
          (if ok && x.engine.isSome then s.setStore store (fill b (x.xs.flatMap (·.bytes)) x)
           else ((s.setStore store { x with cur := none }).xsError store b).fsReport store)
        else s
      | none => s)

/-- FS_FRAME_COMPLETE (R189, R190): the oldest ended frame is checked line by line: discarded as broken, or completed with the
missing lines copied from the newest complete frame, or filled with black. -/
def execFsFrameComplete (dt store : Nat) (s : State) : Res :=
  let s := s.tick dt
  let x := s.store store
  .next (match x.ended with
    | [] => s
    | e :: t =>
      let h := s.fsH store
      let b := x.bufs.getD e.buf Buf.init
      if s.fsCoded store ∧ e.bad then (s.xsError store e.buf).fsReport store
      else if s.fsCoded store ∧ e.decoded = false ∧ e.xs.any (·.slice) = false then s
      else
        let missing := (List.range h).filter (fun r => match b.lines.find? r with | some l => !s.lineFull store l | none => true)
        if s.fld (fsReg store R.FS_CTRL) 8 8 * h < missing.length * 256 then
          (((s.frameDrop store e.buf).addSat (fsReg store R.FS_CNT_BROKEN) 1).fsEvent store 2).fsReport store
        else
          let src := match x.newest with | some n => some (x.bufs.getD n Buf.init) | none => none
          let own : SMap SLine := ⟨b.lines.cells.map (fun (l : Nat × SLine) => (l.1, { l.2 with tc := b.tc }))⟩
          let lines := missing.foldl (fun (m : SMap SLine) r =>
            m.set r (match src with | some n => n.lines.find ⟨[], some 0⟩ r | none => ⟨[], some 0⟩)) own
          let s1 := s.setStore store { x with
            ended := t, newest := some e.buf
            bufs := x.bufs.set e.buf { b with writing := false, lines := lines } }
          let s2 := s1.ifThen (!missing.isEmpty) (·.addSat (fsReg store R.FS_CNT_FILLED) 1)
          ((((s2.wr (fsReg store R.FS_LAST_TC0) (tcWord 0 b.tc)).wr (fsReg store R.FS_LAST_TC1) (tcWord 1 b.tc)).wr
            (fsReg store R.FS_LAST_TC2) (tcWord 2 b.tc)).addWrap (fsReg store R.FS_CNT_FRAMES) 1).fsReport store)

/-- The earliest of two capture times; age unknown counts as the earliest. -/
def tcMin (a b : Option Nat) : Option Nat :=
  match a, b with
  | some x, some y => some (min x y)
  | _, _ => none

/-- The band capture time of band `i` of a buffer: the earliest of the frames that supplied its lines (R190). -/
def Buf.bandTc (b : Buf) (i : Nat) : Option Nat :=
  if b.zero.contains i then some 0
  else match b.lines.cells.filter (fun (l : Nat × SLine) => decide (l.1 / 16 = i)) with
    | [] => b.tc
    | l :: t => t.foldl (fun m y => tcMin m y.2.tc) l.2.tc

/-- An uncorrectable HBM word in a band of a buffer (FS59, R190). -/
def State.hbmUncorr (s : State) (j b band : Nat) : State :=
  let x := s.store j
  s.setStore j { x with bufs := x.bufs.modify b (fun y => { y with zero := band :: y.zero }) }

/-- A decode engine fails (FS60): its streams move to another engine of the die, and a stream that finds none loses its frames
until the engine rejoins. -/
def State.engineFail (s : State) (d e : Nat) : State :=
  let s1 := { s with comp := { s.comp with engDown := (4 * d + e) :: s.comp.engDown } }
  ((List.range 1024).filter (fun j => s.fsEn j && s.fsCoded j && decide (s.fsDie j = d) && decide ((s.store j).engine = some e))).foldl
    (fun a j => (a.setStore j { a.store j with engine := a.engineFor d j }).fsReport j) s1

end Sys2Proof.Machine
end

