-- ==== Sys2Proof/Machine/Layout.lean ====
section
/-! DEFINITION. Layouts: tiles, windows and cells, their visible parts, lane loads and layout epochs (R194, R198, R200 to R202,
R208 to R211): the meanings of the layout commands of chapter 07. -/

namespace Sys2Proof.Machine

/-! ## Reading a layout -/

/-- How a layout's words are read: the active value of a key, or the staged one. -/
abbrev Reading := Nat → Nat

/-- A rectangle of a canvas in the order of R200 and R201. -/
structure Item where
  cell : Bool
  idx : Nat
  z : Nat
  x : Nat
  y : Nat
  w : Nat
  h : Nat
  deriving DecidableEq, Repr

/-- The physical canvas a window's CANVAS field names, in its owner's numbering (R185). -/
def State.winCanvas (s : State) (w v : Nat) : Nat := (s.bus.physOf .cnv (s.bus.ownerOf .win w) v).getD v

/-- A window as read: enabled, its canvas, its rectangle. -/
def winEnR (r : Reading) (w : Nat) : Bool := bitOf 0 (r (winReg w R.WIN_CTRL))
def State.winCnvR (s : State) (r : Reading) (w : Nat) : Nat := s.winCanvas w (fieldOf 1 4 (r (winReg w R.WIN_CTRL)))
def winItem (r : Reading) (w : Nat) : Item :=
  ⟨false, w, fieldOf 0 10 (r (winReg w R.WIN_Z)), fieldOf 0 16 (r (winReg w R.WIN_POS)), fieldOf 16 16 (r (winReg w R.WIN_POS)),
   max 1 (fieldOf 0 16 (r (winReg w R.WIN_SIZE))), max 1 (fieldOf 16 16 (r (winReg w R.WIN_SIZE)))⟩

/-- A word of a tile or cell entry. -/
def tileKey (c t i : Nat) : Nat := rkSel (cnvPage c) (R.CNV_TILE_D + 4 * i) t
def cellKey (c n i : Nat) : Nat := rkSel (cnvPage c) (R.CNV_CELL_D + 4 * i) n
def cellItem (r : Reading) (c n : Nat) : Item :=
  ⟨true, n, fieldOf 0 10 (r (cellKey c n 2)), fieldOf 0 16 (r (cellKey c n 0)), fieldOf 16 16 (r (cellKey c n 0)),
   fieldOf 0 12 (r (cellKey c n 1)), fieldOf 12 12 (r (cellKey c n 1))⟩

/-- Whether `a` is in front of `b`: the higher Z; a cell before a window; the higher number (R200, R201; between cells of equal Z
assumption log 21). -/
def inFront (a b : Item) : Bool :=
  decide (b.z < a.z) || (decide (a.z = b.z) && ((a.cell && !b.cell) || (decide (a.cell = b.cell) && decide (b.idx < a.idx))))

def insertItem (a : Item) : List Item → List Item
  | [] => [a]
  | b :: t => if inFront a b then a :: b :: t else b :: insertItem a t

/-- The windows of a canvas that a reading enables. -/
def State.canvasWins (s : State) (r : Reading) (c : Nat) : List Nat :=
  (List.range 1024).filter (fun w => winEnR r w && decide (s.winCnvR r w = c))

/-- The windows and valid cells of a canvas, front first. -/
def State.items (s : State) (r : Reading) (c : Nat) : List Item :=
  ((s.canvasWins r c).map (winItem r) ++ ((List.range 4096).filter (fun n => bitOf 10 (r (cellKey c n 2)))).map (cellItem r c)).foldl
    (fun l a => insertItem a l) []

/-- The parts of [lo, hi) that none of the intervals covers. -/
def uncovered (lo hi : Nat) : List (Nat × Nat) → List (Nat × Nat)
  | [] => if lo < hi then [(lo, hi)] else []
  | (a, b) :: t => uncovered lo (min hi a) t ++ uncovered (max lo b) hi t

/-- The items with visible pixels on canvas line `y` between `x0` and `x1`, front first, each with its leftmost visible pixel and
its number of visible pixels. -/
def visibleOn (l : List Item) (y x0 x1 : Nat) : List (Item × Nat × Nat) :=
  (l.foldl (fun (a : List (Item × Nat × Nat) × List (Nat × Nat)) i =>
    if i.y ≤ y ∧ y < i.y + i.h then
      let lo := max x0 i.x
      let hi := min x1 (i.x + i.w)
      let v := (uncovered lo hi a.2).filter (fun p => decide (p.1 < p.2))
      let n : Nat := v.foldl (fun k p => k + (p.2 - p.1)) 0
      let first : Nat := v.foldl (fun k p => min k p.1) x1
      (if n = 0 then a.1 else a.1 ++ [(i, first, n)], (lo, max lo hi) :: a.2)
    else a) ([], [])).1

/-- The valid tile slots of a canvas: those in its grid (Table 7-7). -/
def State.tiles (s : State) (r : Reading) (c : Nat) : List Nat :=
  let g := s.geo c
  (List.range (g.cols * g.rows)).filter (fun t => bitOf 0 (r (tileKey c t 0)))
def tileLane (r : Reading) (c t : Nat) : Nat := fieldOf 1 4 (r (tileKey c t 0))

/-- The top left canvas pixel of a tile slot (R194). -/
def Geo.tileX (g : Geo) (t : Nat) : Nat := t % max 1 g.cols * g.tileW
def Geo.tileY (g : Geo) (t : Nat) : Nat := t / max 1 g.cols * g.tileH

/-! ## Lanes (R185, R211, R213) -/

def cmpPage (n : Nat) : Nat := Block.cmp.pg n
def cmpKey (n off : Nat) : Nat := rk (cmpPage n) off
def State.laneRole (s : State) (n : Nat) : Nat := s.fld (cmpKey n R.CMP_STATUS) 0 2
def State.laneLl (s : State) (n : Nat) : Nat := s.fld (cmpKey n R.CMP_STATUS) 2 5
def laneDie (n : Nat) : Nat := n / 9

/-- The physical lane that serves a logical lane. -/
def State.laneOf (s : State) (l : Nat) : Option Nat :=
  (List.range 18).find? (fun n => decide (s.laneRole n = 1) && decide (s.laneLl n = l))

def State.canvases (s : State) : List Nat := (List.range 16).filter s.cnvEn
def State.cnvGroup (s : State) (c : Nat) : Nat := s.fld (cnvKey c R.CNV_CTRL) 0 4
def State.groupCanvases (s : State) (g : Nat) : List Nat := s.canvases.filter (fun c => decide (s.cnvGroup c = g))

/-- The lowest logical lane that has a tile of a canvas; its lane runs the judge (R203). -/
def State.judgeLane (s : State) (c : Nat) : Option Nat :=
  match (s.tiles s.rd c).map (tileLane s.rd c) with
  | [] => none
  | l :: t => some (t.foldl min l)

/-- Output of a logical lane in pixels per second (Table 7-3, 1). -/
def State.laneOut (s : State) (r : Reading) (l : Nat) : Rat :=
  s.canvases.foldl (fun (n : Rat) c =>
    let g := s.geo c
    n + (((s.tiles r c).filter (fun t => decide (tileLane r c t = l))).length * (g.tileW * g.tileH * g.num) : Nat) / (g.den : Rat)) 0

/-- The length of the overlap of two intervals. -/
def overlap (a la b lb : Nat) : Nat := min (a + la) (b + lb) - max a b

/-- The crop of a window as read, clipped to its store's raster (Table 7-8). -/
def State.cropR (s : State) (r : Reading) (w : Nat) (j : Option Nat) : Nat × Nat × Nat × Nat :=
  let cx := fieldOf 0 13 (r (winReg w R.WIN_CROP_POS))
  let cy := fieldOf 16 13 (r (winReg w R.WIN_CROP_POS))
  let cw := max 1 (fieldOf 0 13 (r (winReg w R.WIN_CROP_SIZE)))
  let ch := max 1 (fieldOf 16 13 (r (winReg w R.WIN_CROP_SIZE)))
  match j with
  | some j => (cx, cy, max 1 (min cw (s.fsW j - cx)), max 1 (min ch (s.fsH j - cy)))
  | none => (cx, cy, cw, ch)

def State.winStoreR (s : State) (r : Reading) (w : Nat) : Option Nat := s.winStore w (fieldOf 0 10 (r (winReg w R.WIN_SRC)))

/-- Reads of a logical lane in pixels per second (Table 7-3, 2). -/
def State.laneIn (s : State) (r : Reading) (l : Nat) : Rat :=
  s.canvases.foldl (fun (n : Rat) c =>
    let g := s.geo c
    let ts := (s.tiles r c).filter (fun t => decide (tileLane r c t = l))
    (s.canvasWins r c).foldl (fun (n : Rat) w =>
      let i := winItem r w
      let k := s.cropR r w (s.winStoreR r w)
      let area := ts.foldl (fun a t => a + overlap i.x i.w (g.tileX t) g.tileW * overlap i.y i.h (g.tileY t) g.tileH) 0
      n + ((k.2.2.1 * k.2.2.2 * g.num * area : Nat) : Rat) / ((g.den * i.w * i.h : Nat) : Rat)) n) 0

/-- Pixels per second in Mpixel/s, rounded up. -/
def mpix (n : Rat) : Nat := (n / 1000000).ceil.toNat

/-- CMP_STATUS.JUDGE and the committed loads of every lane follow the active layout (R203, R213). -/
def State.lanesReport (s : State) : State :=
  let judges := s.canvases.filterMap (fun c => s.judgeLane c)
  (List.range 18).foldl (fun a n =>
    let ll := s.laneLl n
    let serves := decide (s.laneRole n = 1)
    ((a.setBit (cmpKey n R.CMP_STATUS) 7 (serves && judges.contains ll)).wr (cmpKey n R.CMP_LOAD_OUT)
      (if serves then min 8191 (mpix (s.laneOut s.rd ll)) else 0)).wr (cmpKey n R.CMP_LOAD_IN)
        (if serves then min 8191 (mpix (s.laneIn s.rd ll)) else 0)) s

/-- A lane fails (FS56, R211): its logical lane moves to the spare of its die, else to that of the other die, within 40 µs
(the whole of it is taken: assumption log 22); with no spare free its tiles carry no packets, FS62. -/
def State.laneFail (s : State) (n : Nat) : State :=
  let ll := s.laneLl n
  let served := decide (s.laneRole n = 1)
  let s1 := (s.setFld (cmpKey n R.CMP_STATUS) 0 2 0).setFld (cmpKey n R.CMP_STATUS) 2 5 31
  let spare := fun (d : Nat) => (List.range 18).find? (fun m => decide (laneDie m = d) && decide (s1.laneRole m = 2)
    && s1.bit (cmpKey m R.CMP_CTRL) 0)
  if !served then s1.lanesReport
  else match (match spare (laneDie n) with | some m => some m | none => spare (1 - laneDie n)) with
    | some m =>
      let s2 := (s1.setFld (cmpKey m R.CMP_STATUS) 0 2 1).setFld (cmpKey m R.CMP_STATUS) 2 5 ll
      let s3 := { s2 with comp := { s2.comp with laneReady := s2.comp.laneReady.set ll (s.bus.now + clkUs 40) } }
      ((s3.addSat (cmpKey m R.CMP_CNT_FAILOVER) 1).raise (cmpPage m) 1).lanesReport
    | none => (s1.fault 62 { page := cmpPage n, addr := ll }).lanesReport

/-- The lane takes part again (R211): it serves a logical lane that no lane serves, on its die first, else it is a spare; EV218. -/
def State.laneJoin (s : State) (n : Nat) : State :=
  let orphans := (List.range 16).filter (fun l => (s.laneOf l).isNone)
  let mine := match orphans.find? (fun l => decide (l / 8 = laneDie n)) with | some l => some l | none => orphans.head?
  let s1 := match mine with
    | some l => (s.setFld (cmpKey n R.CMP_STATUS) 0 2 1).setFld (cmpKey n R.CMP_STATUS) 2 5 l
    | none => (s.setFld (cmpKey n R.CMP_STATUS) 0 2 2).setFld (cmpKey n R.CMP_STATUS) 2 5 31
  (s1.raise (cmpPage n) 2).lanesReport

/-- The RATE_DIV less 1 that a budget level gives a window of a SHED_PRI (Table 14-7). -/
def rateDivAt (level pri : Nat) : Nat := if level < 2 + 3 * pri then 0 else 2 ^ (min 2 (level - (2 + 3 * pri)) + 1) - 1

/-- RATE_DIV less 1 of an enabled window (R414). -/
def State.rateDiv (s : State) (w : Nat) : Nat :=
  rateDivAt (s.fld (rk (Block.bud.pg 0) R.BUD_STATUS) 0 6) (s.fld (winReg w R.WIN_CTRL) 9 3)

/-! ## Layout epochs (R208 to R210, R447) -/

/-- The registers of a window slot that a layout epoch binds, and those of a CNV page (R214, R215). -/
def winRws (w : Nat) : List Nat := (List.range 10).map (fun i => winReg w (R.WIN_CTRL + 4 * i))

/-- Whether a key is bound by an epoch: of a page it takes, or of a window slot. -/
def Epoch.takes (e : Epoch) (k : Nat) : Bool :=
  (e.pages.any (fun c => decide (keyPage k = cnvPage c))) || e.slots.any (fun w => (winRws w).contains k)

/-- The layout as the epoch stages it. -/
def State.staged (s : State) (e : Epoch) : Reading := fun k => if e.takes k then s.bus.rdShadow k else s.rd k

/-- The shadow values an epoch takes. -/
def State.epochEntries (s : State) (e : Epoch) : List (Nat × Nat) :=
  (s.bus.shadow.cells.filter (fun (p : Nat × Word) => e.takes p.1)).map (fun (p : Nat × Word) =>
    (jkey (keyAddr p.1) (if p.1 < 2 ^ 37 then 0 else p.1 / 2 ^ 37 - 1), p.2.toNat))

/-- Set STATE, REASON and OBJECT on every canvas of a group. -/
def State.epochStatus (s : State) (g v : Nat) : State :=
  (s.groupCanvases g).foldl (fun a c => a.wr (cnvKey c R.CNV_EPOCH_STATUS) v) s

def State.epochState (s : State) (g : Nat) : Nat :=
  match s.groupCanvases g with | c :: _ => s.fld (cnvKey c R.CNV_EPOCH_STATUS) 0 2 | [] => 0

def State.setEpoch (s : State) (g : Nat) (e : Option Epoch) : State :=
  { s with comp := { s.comp with epochs := match e with | some e => s.comp.epochs.set g e | none => s.comp.epochs.erase g } }

/-- A layout epoch is requested for a group (R209): it takes what is PENDING now; no effect while one is in progress. -/
def State.epochRequest (s : State) (g : Nat) : State :=
  if (s.comp.epochs.find? g).isSome ∨ (s.groupCanvases g).isEmpty then s
  else
    let pages := (s.groupCanvases g).filter (fun c => s.bit (cnvKey c hdrShadowCtrl) 2)
    let slots := s.comp.wpend.filter (fun w => decide (s.cnvGroup (s.winCnvR s.bus.rdShadow w) = g))
    (s.setEpoch g (some ⟨pages, slots, none⟩)).epochStatus g 1

/-- PENDING clears on what an epoch took (R209). -/
def State.epochClear (s : State) (g : Nat) (e : Epoch) : State :=
  let s1 := e.pages.foldl (fun a c => a.setBit (cnvKey c hdrShadowCtrl) 2 false) s
  ({ s1 with comp := { s1.comp with wpend := s1.comp.wpend.filter (fun w => !e.slots.contains w) } }).setEpoch g none

/-- The first object of a list that a check refuses. -/
def firstBad (l : List Nat) (bad : Nat → Bool) : Option Nat := l.find? bad

/-- Whether a tile line of a tile carries more than 32 windows and cells (R202). -/
def State.crowded (s : State) (r : Reading) (c t : Nat) : Bool :=
  let g := s.geo c
  let l := s.items r c
  (List.range g.tileH).any (fun y => decide (32 < (visibleOn l (g.tileY t + y) (g.tileX t) (g.tileX t + g.tileW)).length))

/-- Whether the stream entry a tile names is one a tile may use (R197, R198): valid, to a port or group, mapped ARRIVAL, owned by
the canvas owner; its physical number. -/
def State.tileStream (s : State) (r : Reading) (c t : Nat) : Option Nat :=
  let o := s.bus.ownerOfPage (cnvPage c)
  match s.bus.physOf .str o (fieldOf 5 16 (r (tileKey c t 0))) with
  | none => none
  | some i =>
    match s.str.entries.find? i with
    | some e => if e.valid ∧ (e.kind = 1 ∨ e.kind = 2) ∧ e.tsmap = 0 ∧ s.bus.access .str i o = 2 then some i else none
    | none => none

/-- The result of the checks of Table 7-3 over the staged layout of a group: the lowest REASON with its lowest OBJECT. -/
def State.epochCheck (s : State) (g : Nat) (e : Epoch) : Option (Nat × Nat) :=
  let r := s.staged e
  let cs := s.groupCanvases g
  let wins := (List.range 1024).filter (fun w => winEnR r w && cs.contains (s.winCnvR r w))
  let tilesOf := cs.flatMap (fun c => (s.tiles r c).map (fun t => ((s.geo c).tbase + t, c, t)))
  let lowest := fun (l : List Nat) => match l with | [] => none | x :: t => some (t.foldl min x)
  let chk := fun (n : Nat) (o : Option Nat) => o.map (fun x => (n, x))
  let lanes := (List.range 16).filter (fun l => cs.any (fun c => (s.tiles r c).any (fun t => decide (tileLane r c t = l))))
  let c1 := chk 1 (firstBad lanes (fun l => decide (4000000000 < s.laneOut r l)))
  let c2 := chk 2 (firstBad lanes (fun l => decide (6000000000 < s.laneIn r l)))
  let c3 := chk 3 (lowest ((tilesOf.filter (fun x => s.crowded r x.2.1 x.2.2)).map (·.1)))
  let c4 := chk 4 (firstBad wins (fun w =>
    let k := s.cropR r w (s.winStoreR r w)
    let i := winItem r w
    decide (8 * i.w < k.2.2.1) || decide (8 * i.h < k.2.2.2) || decide (16 * k.2.2.1 < i.w) || decide (16 * k.2.2.2 < i.h)))
  let c5 := chk 5 (firstBad wins (fun w =>
    let o := s.bus.ownerOf .win w
    (match s.winStoreR r w with | some j => !s.fsEn j || decide (s.bus.access .win j o = 0) | none => true)
      || decide (s.bus.access .cnv (s.winCnvR r w) o = 0)))
  let c6 := chk 6 (firstBad wins (fun w => s.winEn w && decide (s.cnvGroup (s.winCnvR s.rd w) ≠ g)))
  let c7 := chk 7 (lowest ((tilesOf.filter (fun x =>
    (s.laneOf (tileLane r x.2.1 x.2.2)).isNone || (s.tileStream r x.2.1 x.2.2).isNone)).map (·.1)))
  let c8 := if 245760 < 4 * recLen (s.epochEntries e).length then some (8, 0) else none
  [c1, c2, c3, c4, c5, c6, c7, c8].findSome? id

/-- LAYOUT_EPOCH_REQUEST (R209): a write of 1 to CNV_EPOCH_REQ on the page of an enabled canvas. -/
def execLayoutEpochRequest (dt vi canvas : Nat) (s : State) : Res :=
  .next ((s.tick dt).guardWrite vi (cnvPage canvas) (fun s =>
    if s.cnvEn canvas then s.epochRequest (s.cnvGroup canvas) else s))

/-- Write the record of a layout epoch, if the log has room (R447). -/
def State.epochRecord (s : State) (g : Nat) (e : Epoch) : State :=
  let l := s.epochEntries e
  let n := match s.groupCanvases g with | c :: _ => s.rd (cnvKey c R.CNV_EPOCH) + 1 | [] => 0
  if s.logRoom l.length then
    (s.jwrite 2 n g l).setEpoch g (some { e with jpos := some s.jrn.next })
  else s

/-- LAYOUT_EPOCH_CHECKED (R209, R210): the checks are complete: refused with REASON and OBJECT and EV225, or waiting for the
binding instant. A window with deadline code 0 raises a configuration error on its canvas page. -/
def execLayoutEpochChecked (dt group : Nat) (s : State) : Res :=
  let s := s.tick dt
  .next (match s.comp.epochs.find? group with
    | none => s
    | some e =>
      if s.epochState group ≠ 1 then s
      else match s.epochCheck group e with
        | some (reason, object) =>
          let s1 := (s.epochClear group e).epochStatus group (reason * 16 + object % 1024 * 65536)
          (s1.groupCanvases group).foldl (fun a c => a.raise (cnvPage c) 1) s1
        | none =>
          let r := s.staged e
          let zero := e.slots.filter (fun w => winEnR r w && decide (fieldOf 0 16 (r (winReg w R.WIN_DEADLINE)) = 0))
          let s1 := zero.foldl (fun a w => a.cfgErr (cnvPage (s.winCnvR r w))) s
          (s1.epochStatus group 2).epochRecord group e)

/-- Make one key's staged value active. -/
def State.commitKey (s : State) (k : Nat) : State :=
  s.on (fun b => let v := b.rdShadow k; { b.wr k v with shadow := b.shadow.erase k })

/-- Make every staged value that `take` selects active. -/
def State.commitKeys (s : State) (take : Nat → Bool) : State :=
  (s.bus.shadow.cells.filter (fun (p : Nat × Word) => take p.1)).foldl (fun a p => a.commitKey p.1) s

/-- A window's last good frame is forgotten. -/
def State.dropGood (s : State) (w : Nat) : State := { s with comp := { s.comp with good := s.comp.good.erase w } }

/-- LAYOUT_EPOCH_APPLY (R209, Table 7-2 steps 3 and 4): every staged value becomes active at once in the group; a window newly
enabled or whose source changed has no last good frame (R205). -/
def State.epochApply (s : State) (g : Nat) (e : Epoch) : State :=
  let w := s.bus.w250
  let fresh := e.slots.filter (fun x => winEnR (s.staged e) x && (!s.winEn x || decide (s.winStoreR (s.staged e) x ≠ s.winStoreR s.rd x)))
  let s1 := (s.commitKeys e.takes).epochClear g e
  let s2 := fresh.foldl (fun a x => a.dropGood x) s1
  let s3 := e.slots.foldl (fun a x =>
    let k := winReg x R.WIN_STATUS
    if a.winEn x then ((a.setBit k 0 true).setFld k 3 3 (a.rateDiv x)).ifThen (fresh.contains x) (·.setBit k 2 false)
    else a.wr k (fieldOf 3 3 (a.rd k) * 8)) s2
  let s4 := (s3.groupCanvases g).foldl (fun a c =>
    (((((a.addWrap (cnvKey c R.CNV_EPOCH) 1).wr (cnvKey c R.CNV_EPOCH_TIME) (stampW0 w)).wr (cnvKey c (R.CNV_EPOCH_TIME + 4)) (stampW1 w)).wr
      (cnvKey c (R.CNV_EPOCH_TIME + 8)) (stampW2 w)).wr (cnvKey c R.CNV_EPOCH_STATUS) 0).raise (cnvPage c) 0) s3
  s4.lanesReport

/-- Whether the record of an epoch has been durable for 10 µs (R447). -/
def State.epochDurable (s : State) (e : Epoch) : Bool :=
  match e.jpos with
  | none => false
  | some p => match s.jrn.log.find? (fun r => decide (r.pos = p) && decide (r.kind = 2)) with
    | some r => r.durable && decide (r.durAt + clkUs 10 ≤ s.bus.now)
    | none => true

/-- What a binding instant of a group does for its layout epoch: a waiting one is applied, or waits for the next where its record
is not durable (R209, R447). -/
def State.epochBind (s : State) (g : Nat) : State :=
  match s.comp.epochs.find? g with
  | none => s
  | some e =>
    if s.epochState g ≠ 2 then s
    else if s.epochDurable e then s.epochApply g e
    else if e.jpos.isNone then s.epochRecord g e
    else s

/-! ## Canvas enable (R194) -/

/-- Whether a canvas that is about to be enabled meets the checks of R194 and Table 7-6. -/
def State.cnvChecks (s : State) (c : Nat) : Bool :=
  let g := s.geo c
  let others := s.canvases.filter (fun d => d != c)
  decide (s.fld (cnvKey c R.CNV_CTRL) 4 3 ≠ 7) && decide (g.tbase + g.cols * g.rows ≤ 256)
    && others.all (fun d => let h := s.geo d
         decide (g.tbase + g.cols * g.rows ≤ h.tbase) || decide (h.tbase + h.cols * h.rows ≤ g.tbase))
    && (others.filter (fun d => decide (s.cnvGroup d = s.cnvGroup c))).all (fun d =>
         decide (s.fld (cnvKey d R.CNV_CTRL) 4 3 = s.fld (cnvKey c R.CNV_CTRL) 4 3) && decide ((s.geo d).phase = g.phase))

/-- A canvas is enabled or refused (R194); it runs from the first aligned instant whose binding instant is still to come, on the
counter as it stands (R195, R199), and a layout epoch is requested (R209). -/
def State.cnvEnable (s : State) (c : Nat) : State :=
  if s.cnvEn c then s
  else if !s.cnvChecks c then s.cfgErr (cnvPage c)
  else
    let g := s.geo c
    let s1 := (s.setBit (cnvKey c hdrPageCtrl) 0 true).setFld (cnvKey c hdrPageStatus) 16 3 3
    let s2 := (s1.setBit (cnvKey c hdrPageStatus) 0 true).setCanvas c { Canvas.init with
      nextF := some (g.alignedFrom (s.cnvNow g + 4 * g.tline)) }
    s2.lanesReport.epochRequest (s.cnvGroup c)

/-- CANVAS_ENABLE (R194). -/
def execCanvasEnable (dt vi canvas : Nat) (s : State) : Res :=
  .next ((s.tick dt).guardWrite vi (cnvPage canvas) (fun s => s.cnvEnable canvas))

end Sys2Proof.Machine
end

