-- ==== Sys2Proof/Machine/Compose.lean ====
section
/-! DEFINITION. Canvas frames, the judge and tile packets (R195 to R207): the meanings of the canvas commands of chapter 07. -/

namespace Sys2Proof.Machine

/-! ## Canvas frames (R195, R199, R203) -/

/-- Ae and Ad of a canvas in ns (Table 1-10). -/
def State.cnvAllow (s : State) (c : Nat) : Nat := 20000 + 1000 * s.fld (cnvKey c R.CNV_DOWN_ALLOW) 0 20

/-- A canvas frame ends: windows whose last frame was stale and that had no stale segment in this one raise EV241; windows no
longer enabled release their last good frame (R205), and disabled stores their blocks (R188). -/
def State.closeFrame (s : State) (c : Nat) (f : CFrame) : State :=
  let back := s.comp.wasStale.filter (fun w => decide (s.winCnvR s.rd w = c) && !f.latched.contains w && !f.unbound)
  let s1 := back.foldl (fun a w => a.raiseEntry .win 1 w)
    { s with comp := { s.comp with wasStale := s.comp.wasStale.filter (fun w => !back.contains w) } }
  let s2 := (s1.comp.good.cells.filter (fun (g : Nat × Bind) => !s1.winEn g.1)).foldl (fun a g => a.dropGood g.1) s1
  let js := (f.binds.map (·.store)).eraseDups
  let s3 := (s2.comp.stores.cells.filter (fun (x : Nat × Store) => x.2.closing)).foldl (fun a x => a.fsReturn x.1) s2
  js.foldl (fun a j => a.fsReport j) s3

/-- Bind an enabled window to the newest complete frame of its store (R203). -/
def State.bindWindow (s : State) (w : Nat) : State × Option Bind :=
  let none' := (((s.wr (winReg w R.WIN_BIND_TC0) 0).wr (winReg w R.WIN_BIND_TC1) 0).wr (winReg w R.WIN_BIND_TC2) 0)
  match s.winStoreR s.rd w with
  | none => (none', none)
  | some j =>
    match (s.store j).newest with
    | none => (none', none)
    | some b =>
      let tc := ((s.store j).bufs.getD b Buf.init).tc
      ((((s.wr (winReg w R.WIN_BIND_TC0) (tcWord 0 tc)).wr (winReg w R.WIN_BIND_TC1) (tcWord 1 tc)).wr (winReg w R.WIN_BIND_TC2)
        (tcWord 2 tc)).setFld (winReg w R.WIN_STATUS) 6 2 b, some ⟨w, j, b, tc⟩)

/-- The physical lanes that serve the tiles of a canvas. -/
def State.canvasLanes (s : State) (c : Nat) : List Nat :=
  (((s.tiles s.rd c).map (tileLane s.rd c)).eraseDups).filterMap (fun l => s.laneOf l)

/-- BINDING_INSTANT (R203, R209, R212): 4 line times before the next frame starts, a waiting layout epoch is applied, and every window
is bound for the whole of that frame. A frame whose start has passed unbound, as after a stop of both dies, is not sent: the canvas goes
on from the next aligned start (DEDUCED from R195, R403). -/
def execBindingInstant (dt canvas : Nat) (s : State) : Res :=
  let s := s.tick dt
  let x := s.canvas canvas
  .next (match x.nextF with
    | none => s
    | some nf =>
      let g := s.geo canvas
      if x.nxt.isSome ∨ s.cnvNow g + 4 * g.tline < nf ∨ (s.bus.domRuns 19 || s.bus.domRuns 20) = false then s
      else if nf < s.cnvNow g then
        let f' := g.alignedFrom (s.cnvNow g + 4 * g.tline)
        s.setCanvas canvas { x with nextF := some f', alignF := if s.bit (cnvKey canvas hdrPageStatus) 17 then none else some f' }
      else
        let s1 := s.epochBind (s.cnvGroup canvas)
        let unb := !s1.bound
        let r := (if unb then [] else s1.canvasWins s1.rd canvas).foldl (fun (a : State × List Bind) w =>
          let q := a.1.bindWindow w
          (q.1, match q.2 with | some b => b :: a.2 | none => a.2)) (s1, [])
        let f : CFrame :=
          { start := nf, f := s1.rd (cnvKey canvas R.CNV_CNT_FRAMES), unbound := unb,
            taps := s1.fld (cmpKey 0 R.CMP_STATUS) 8 4, binds := r.2, drawn := [], segs := [], latched := [], cut := none }
        let s2 := (r.1.setCanvas canvas { r.1.canvas canvas with nxt := some f }).setBit (cnvKey canvas hdrPageStatus) 18 unb
        let s3 := match x.cur with
          | some old => s2.ifThen (decide (old.taps ≠ f.taps)) (fun t => (t.canvasLanes canvas).foldl (fun a n => a.raise (cmpPage n) 3) t)
          | none => s2
        ((r.2.map (·.store)).eraseDups).foldl (fun a j => a.fsReport j) s3)

/-- CANVAS_FRAME_START (R195, R199): the bound frame starts and is counted; the start of the one after it is set, moved by whole
lines while a slip realigns the canvas; EV227 as alignment is reached. -/
def execCanvasFrameStart (dt canvas : Nat) (s : State) : Res :=
  let s := s.tick dt
  let x := s.canvas canvas
  .next (match x.nxt with
    | none => s
    | some f =>
      let g := s.geo canvas
      if s.cnvNow g < f.start then s
      else
        let reached := decide (x.alignF = some f.start)
        let aligned := s.bit (cnvKey canvas hdrPageStatus) 17 || reached
        let nx := g.following f.start (s.fld (cnvKey canvas R.CNV_CTRL) 8 6) aligned
        let total := g.npl * g.tileH
        let seqs := (List.range 256).foldl (fun (m : SMap Nat) t =>
          let left := total - x.sent.find 0 t
          if x.cur.isSome ∧ (s.tiles s.rd canvas).contains t then m.put 0 t ((m.find 0 t + left) % 2 ^ 32) else m) x.seqs
        let y : Canvas := { nextF := some nx.1, alignF := if nx.2 then some nx.1 else none, cur := some f, nxt := none,
                            seqs := seqs, sent := SMap.empty }
        let s1 := (s.setCanvas canvas y).addWrap (cnvKey canvas R.CNV_CNT_FRAMES) 1
        let s2 := match x.cur with | some old => s1.closeFrame canvas old | none => s1
        let s3 := (s2.canvasWins s2.rd canvas).foldl (fun a w => a.setBit (winReg w R.WIN_STATUS) 1 false) s2
        if reached then (s3.setBit (cnvKey canvas hdrPageStatus) 17 true).raise (cnvPage canvas) 3 else s3)

/-- A canvas is disabled: its frames end. -/
def State.cnvDisable (s : State) (c : Nat) : State :=
  let x := s.canvas c
  let s1 := ((s.setBit (cnvKey c hdrPageCtrl) 0 false).setFld (cnvKey c hdrPageStatus) 16 3 0).setBit (cnvKey c hdrPageStatus) 0 false
  let s2 := s1.setCanvas c { Canvas.init with seqs := x.seqs }
  let s3 := match x.cur with | some f => s2.closeFrame c f | none => s2
  let s4 := match x.nxt with | some f => s3.closeFrame c { f with latched := s3.comp.wasStale } | none => s3
  s4.lanesReport

/-! ## Lines and the judge (R203 to R206) -/

/-- The scheduled time of packet k of a frame (R195). -/
def Geo.packetAt (g : Geo) (start k : Nat) : Nat := start + g.tro * g.tline + k * g.trs

/-- The source line on which the vertical filter of a window is centred for its line `oy`, and the lines its taps read, clipped to
the raster (R190, R200; assumption log 20). -/
def tapRows (oy h cy ch fsH taps : Nat) : List Nat :=
  let base := (((2 * oy + 1) * ch : Nat) - (h : Int)) / (2 * (h : Int))
  let n := if taps = 2 then 2 else 8
  let lo := base - (if taps = 2 then 0 else 3)
  (List.range n).map (fun i => (max 0 (min ((fsH : Int) - 1) ((cy : Int) + lo + i))).toNat)

/-- The lines of a store a window's line reads. -/
def State.rowsFor (s : State) (f : CFrame) (w j oy : Nat) : List Nat :=
  let k := s.cropR s.rd w (some j)
  tapRows oy (winItem s.rd w).h k.2.1 k.2.2.2 (s.fsH j) f.taps

/-- The capture time of a window's segment: the earliest band capture time its taps read (R14, R190). -/
def State.segTc (s : State) (f : CFrame) (w oy : Nat) : Option Nat :=
  match f.binds.find? (fun b => decide (b.win = w)) with
  | none => none
  | some b =>
    let buf := (s.store b.store).bufs.getD b.buf Buf.init
    (s.rowsFor f w b.store oy).foldl (fun t r => tcMin t (buf.bandTc (r / 16))) b.tc

/-- Change the frame of a canvas that `sel` selects: the one in progress or the one bound next. -/
def Canvas.modFrame (x : Canvas) (next : Bool) (g : CFrame → CFrame) : Canvas :=
  if next then { x with nxt := x.nxt.map g } else { x with cur := x.cur.map g }
def Canvas.frame (x : Canvas) (next : Bool) : Option CFrame := if next then x.nxt else x.cur

/-- The posts of a tile line: every window and cell with visible pixels, with the measurement point of the first packet that
carries its segment (R203). -/
def State.posts (s : State) (c : Nat) (g : Geo) (f : CFrame) (tile line : Nat) : List Seg :=
  if f.unbound then []
  else (visibleOn (s.items s.rd c) (g.tileY tile + line) (g.tileX tile) (g.tileX tile + g.tileW)).map (fun v =>
    let p := (v.2.1 - g.tileX tile) / 480
    let ep := if v.1.cell then s.epFor 3 c v.1.idx else none
    { tile := tile, line := line, cell := v.1.cell, idx := v.1.idx, tm := g.packetAt f.start (line * g.npl + p),
      tc := if v.1.cell then (match ep with | some e => e.2.tc | none => none) else s.segTc f v.1.idx (g.tileY tile + line - v.1.y),
      ep := ep, colour := 0, verdict := none, late := false })

/-- LINE_DRAW (R203): the lane that serves the tile draws a tile line, no earlier than 4 line times before its first packet, and
posts its segments to the judge. The line is of the frame in progress, or of the one bound next where that line is past. -/
def execLineDraw (dt canvas tile line : Nat) (s : State) : Res :=
  let s := s.tick dt
  let x := s.canvas canvas
  let g := s.geo canvas
  let ok := fun (f : CFrame) => decide (s.cnvNow g ≤ g.packetAt f.start (line * g.npl)) && !f.drawn.contains (tile, line)
  let next : Bool := match x.cur with | some f => !ok f | none => true
  .next (match x.frame next with
    | none => s
    | some f =>
      if ok f ∧ g.packetAt f.start (line * g.npl) ≤ s.cnvNow g + 4 * g.tline ∧ line < g.tileH ∧ (s.tiles s.rd canvas).contains tile
          ∧ (s.laneOf (tileLane s.rd canvas tile)).isSome then
        s.setCanvas canvas (x.modFrame next (fun f =>
          { f with drawn := (tile, line) :: f.drawn, segs := f.segs ++ s.posts canvas g f tile line }))
      else s)

/-- The earliest undecided post of a frame. -/
def earliest (l : List Seg) : Option Seg :=
  (l.filter (fun y => y.verdict.isNone)).foldl (fun (m : Option Seg) y =>
    match m with | none => some y | some z => if y.tm < z.tm then some y else some z) none

/-- Whether two posts are of one segment. -/
def Seg.same (a b : Seg) : Bool :=
  decide (a.tile = b.tile) && decide (a.line = b.line) && decide (a.cell = b.cell) && decide (a.idx = b.idx)

/-- The judge's verdict on a window's segment (R24, R30): stale where the test holds at its measurement point or the window is
latched. -/
def State.winVerdict (s : State) (c : Nat) (g : Geo) (f : CFrame) (y : Seg) : Bool :=
  f.latched.contains y.idx
    || s.stale (y.tm / max 1 g.q) y.tc (windowDeadline (s.fld (winReg y.idx R.WIN_DEADLINE) 0 16)) (s.cnvAllow c)

/-- CMP_CNT_STALE of the lane that draws a tile counts a segment drawn with stale presentation. -/
def State.countStale (s : State) (c tile : Nat) : State :=
  match s.laneOf (tileLane s.rd c tile) with
  | some n => s.addWrap (cmpKey n R.CMP_CNT_STALE) 1
  | none => s

/-- What a stale verdict does to a window: latched for the frame, WIN_CNT_STALE once a frame, EV240 after a fresh frame. -/
def State.windowStale (s : State) (f : CFrame) (w : Nat) : State :=
  if f.latched.contains w then s
  else
    let s1 := (s.setBit (winReg w R.WIN_STATUS) 1 true).addSat (winReg w R.WIN_CNT_STALE) 1
    if s1.comp.wasStale.contains w then s1
    else ({ s1 with comp := { s1.comp with wasStale := w :: s1.comp.wasStale } }).raiseEntry .win 0 w

/-- What a fresh verdict does to a window: the bound frame is its last good frame (R205). -/
def State.windowFresh (s : State) (f : CFrame) (w : Nat) : State :=
  match f.binds.find? (fun b => decide (b.win = w)) with
  | none => s
  | some b =>
    let old := s.comp.good.find? w
    let s1 := ({ s with comp := { s.comp with good := s.comp.good.set w b } }).setFld (winReg w R.WIN_STATUS) 8 2 b.buf
    let s2 := s1.setBit (winReg w R.WIN_STATUS) 2 true
    if old = some b then s2
    else (match old with | some o => (s2.fsReport o.store).fsReport b.store | none => s2.fsReport b.store)

/-- SEGMENT_POST (R203, R204, R201): the judge decides the earliest post that waits: for a window by R24 and R30, for a cell as its
endpoint is shown, without a latch. A cell that no endpoint names is age unknown. -/
def execSegmentPost (dt canvas : Nat) (s : State) : Res :=
  let s := s.tick dt
  let x := s.canvas canvas
  let g := s.geo canvas
  let of := fun (n : Bool) => match x.frame n with | some f => earliest f.segs | none => none
  let next : Bool := (of false).isNone
  .next (match x.frame next, of next with
    | some f, some y =>
      if y.cell then
        let how := match y.ep with | some e => s.shownAs e.2 (y.tm / max 1 g.q) (s.cnvAllow canvas) | none => .stale
        let st := decide (how = .stale) || decide (how = .starting)
        let col := match y.ep with
          | some e => (s.present e.2 y.idx (y.tm / max 1 g.q) how).cell
          | none => s.rd (cnvKey canvas R.CNV_BG)
        let s1 := s.setCanvas canvas (x.modFrame next (fun f =>
          { f with segs := f.segs.map (fun z => if z.same y then { z with verdict := some st, colour := col } else z) }))
        let s2 := match y.ep with | some e => s1.markStale e.1 how | none => s1
        if st then s2.countStale canvas y.tile else s2
      else
        let st := s.winVerdict canvas g f y
        let s1 := s.setCanvas canvas (x.modFrame next (fun f =>
          { f with segs := f.segs.map (fun z => if z.same y then { z with verdict := some st } else z),
                   latched := if st && !f.latched.contains y.idx then y.idx :: f.latched else f.latched }))
        if st then (s1.windowStale f y.idx).countStale canvas y.tile else s1.windowFresh f y.idx
    | _, _ => s)

/-! ## Pixels (R200, R201, R204, R207) -/

/-- Whether a canvas pixel takes the hatch colour (R204). -/
def State.hatched (s : State) (c f x y : Nat) : Bool :=
  let h := s.rd (cnvKey c R.CNV_HATCH)
  let p := max 1 (fieldOf 0 8 h)
  decide ((x + y + f * fieldOf 16 8 h % p) % p < fieldOf 8 8 h)

/-- A window's pixel scaled from a buffer (R200, R212). -/
def State.scaled (s : State) (f : CFrame) (b : Bind) (i : Item) (x y : Nat) : Nat :=
  let k := s.cropR s.rd b.win (some b.store)
  let buf := (s.store b.store).bufs.getD b.buf Buf.init
  let rows := s.rowsFor f b.win b.store (y - i.y)
  (Config.scaledPixel
    ([x - i.x, y - i.y, i.w, i.h, k.1, k.2.1, k.2.2.1, k.2.2.2, s.fld (winReg b.win R.WIN_CTRL) 6 3, f.taps,
      s.rd (fsReg b.store R.FS_CTRL), s.rd (fsReg b.store R.FS_RASTER)] ++ rows)
    (rows.map (fun r => (buf.lines.find ⟨[], none⟩ r).chunks.flatMap (·.2)))).toNat

/-- The pixel of a window's segment by its verdict (R204, R206): WIN_PLAIN where its pixels are late or there is no frame. -/
def State.winPixel (s : State) (c : Nat) (f : CFrame) (i : Item) (seg : Option Seg) (x y : Nat) : Nat :=
  let plain := s.rd (winReg i.idx R.WIN_PLAIN)
  match seg with
  | none => plain
  | some g =>
    match g.verdict with
    | none => plain
    | some st =>
      if g.late then plain
      else if !st then (match f.binds.find? (fun b => decide (b.win = i.idx)) with | some b => s.scaled f b i x y | none => plain)
      else if s.bit (winReg i.idx R.WIN_CTRL) 5 then plain
      else if s.hatched c f.f x y then s.rd (cnvKey c R.CNV_HATCH_COLOUR)
      else match s.comp.good.find? i.idx with
        | some b => scaleCell (s.scaled f b i x y) (s.fld (winReg i.idx R.WIN_DIM) 0 8) 256
        | none => plain

/-- The pixel of a cell's segment (R201): the hatch over its colour where it is stale; a segment not ready is drawn as a cell that
no endpoint names (assumption log 23). -/
def State.cellPixel (s : State) (c : Nat) (f : CFrame) (seg : Option Seg) (x y : Nat) : Nat :=
  let bare := if s.hatched c f.f x y then s.rd (cnvKey c R.CNV_HATCH_COLOUR) else s.rd (cnvKey c R.CNV_BG)
  match seg with
  | none => bare
  | some g =>
    match g.verdict with
    | none => bare
    | some st => if st ∧ s.hatched c f.f x y then s.rd (cnvKey c R.CNV_HATCH_COLOUR) else g.colour

/-- The pixel at column `px` of a tile line (R200, R201, R204, R207). -/
def State.pixel (s : State) (c : Nat) (g : Geo) (f : CFrame) (l : List Item) (tile line px : Nat) : Nat :=
  let x := g.tileX tile + px
  let y := g.tileY tile + line
  if f.unbound then (if s.hatched c f.f x y then s.rd (cnvKey c R.CNV_UNBOUND_COLOUR) else s.rd (cnvKey c R.CNV_BG))
  else match l.find? (fun i => decide (i.x ≤ x) && decide (x < i.x + i.w) && decide (i.y ≤ y) && decide (y < i.y + i.h)) with
    | none => s.rd (cnvKey c R.CNV_BG)
    | some i =>
      let seg := f.segs.find? (fun z => decide (z.tile = tile) && decide (z.line = line) && decide (z.cell = i.cell) && decide (z.idx = i.idx))
      if i.cell then s.cellPixel c f seg x y else s.winPixel c f i seg x y

/-- The chroma of a pixel group: that of its pixels where they agree (R196). -/
def chroma (a b : Nat) : Nat := if a = b then a else (Config.chroma a b).toNat

/-- A 4:2:2 10-bit pixel group: Cb, Y0, Cr, Y1 in 40 bits (R196). -/
def pgroup422 (a b : Nat) : List Byte :=
  beBytes 5 (((chroma (fieldOf 10 10 a) (fieldOf 10 10 b) * 1024 + fieldOf 20 10 a) * 1024 + chroma (fieldOf 0 10 a) (fieldOf 0 10 b)) * 1024
    + fieldOf 20 10 b)

/-! ## Tile packets (R195 to R198) -/

/-- The RTP payload of packet k of a frame: RTP header, extended sequence number, one sample row data header, samples (R196). -/
def State.tilePayload (s : State) (c : Nat) (g : Geo) (f : CFrame) (tile k seq : Nat) : List Byte :=
  let r := s.rd
  let line := k / max 1 g.npl
  let p := k % max 1 g.npl
  let n := min 480 (g.tileW - 480 * p)
  let l := s.items r c
  let ts := f.start * 90000 / (4000000000 * g.q) % 2 ^ 32
  let last := decide (k + 1 = g.npl * g.tileH)
  beBytes 2 (0x8000 + b2n last * 128 + fieldOf 0 7 (r (tileKey c tile 9))) ++ beBytes 2 seq ++ beBytes 4 ts ++ beBytes 4 (r (tileKey c tile 8))
    ++ beBytes 2 (seq / 65536) ++ beBytes 2 (n / 2 * 5) ++ beBytes 2 line ++ beBytes 2 (480 * p)
    ++ (List.range (n / 2)).flatMap (fun i =>
        pgroup422 (s.pixel c g f l tile line (480 * p + 2 * i)) (s.pixel c g f l tile line (480 * p + 2 * i + 1)))

/-- The checksum field that makes a list sum to 0 in one's complement. -/
def checksum (l : List Byte) : Nat := let v := (65535 - ones16 l) % 65535; if v = 0 then 65535 else v

/-- The UDP datagram of a payload; its checksum is 0 under IPv4 and computed under IPv6 (R196). -/
def udpOf (src dst : Nat) (pseudo : Option (List Byte)) (pl : List Byte) : List Byte :=
  let head := beBytes 2 src ++ beBytes 2 dst ++ beBytes 2 (pl.length + 8)
  let sum := match pseudo with
    | some a => checksum (a ++ beBytes 4 (pl.length + 8) ++ beBytes 4 17 ++ head ++ beBytes 2 0 ++ pl)
    | none => 0
  head ++ beBytes 2 sum ++ pl

/-- A 128-bit address held in four words, [31:0] first. -/
def addr128 (r : Reading) (k : Nat → Nat) : Nat := r (k 0) + r (k 1) * 2 ^ 32 + r (k 2) * 2 ^ 64 + r (k 3) * 2 ^ 96

/-- The frame that carries a tile's RTP payload, by its tile entry (R196, Table 7-7). -/
def State.tileFrame (s : State) (c tile : Nat) (pl : List Byte) : List Byte :=
  let d := fun i => s.rd (tileKey c tile i)
  let mac := beBytes 6 (d 1 + d 2 % 65536 * 2 ^ 32)
    ++ beBytes 6 (s.rd (cnvKey c R.CNV_SRC_MAC_LO) + s.rd (cnvKey c R.CNV_SRC_MAC_HI) % 65536 * 2 ^ 32)
  let tag := if bitOf 31 (d 2) then beBytes 2 0x8100 ++ beBytes 2 (fieldOf 28 3 (d 2) * 8192 + fieldOf 16 12 (d 2)) else []
  let dscp := fieldOf 8 6 (d 9)
  let ttl := fieldOf 14 8 (d 9)
  if bitOf 21 (d 0) then
    let src := beBytes 16 (addr128 s.rd (fun i => cnvKey c (R.CNV_SRC_IP + 4 * i)))
    let dst := beBytes 16 (addr128 s.rd (fun i => tileKey c tile (3 + i)))
    let u := udpOf (d 7 / 65536) (d 7 % 65536) (some (src ++ dst)) pl
    mac ++ tag ++ beBytes 2 0x86DD ++ beBytes 4 (6 * 2 ^ 28 + dscp * 4 * 2 ^ 20) ++ beBytes 2 u.length ++ beBytes 1 17 ++ beBytes 1 ttl
      ++ src ++ dst ++ u
  else
    let u := udpOf (d 7 / 65536) (d 7 % 65536) none pl
    let h0 := beBytes 2 (0x4500 + dscp * 4) ++ beBytes 2 (u.length + 20) ++ beBytes 2 0 ++ beBytes 2 0x4000 ++ beBytes 1 ttl ++ beBytes 1 17
    let h1 := beBytes 4 (s.rd (cnvKey c R.CNV_SRC_IP)) ++ beBytes 4 (d 3)
    mac ++ tag ++ beBytes 2 0x0800 ++ h0 ++ beBytes 2 (checksum (h0 ++ beBytes 2 0 ++ h1) % 65535) ++ h1 ++ u

/-- Hand a tile packet to its crossbar input under the entry its tile names (R197): no lookup, Ta the handover. -/
def State.tileHand (s : State) (c tile lane sched : Nat) (bytes : List Byte) : State :=
  match s.tileStream s.rd c tile with
  | none => s
  | some i =>
    match s.str.entries.find? i with
    | none => s
    | some e =>
      let n := s.newId
      let known := decide (s.timState ≠ 0)
      let w2 := s.rd (tileKey c tile 2)
      let vlan := if bitOf 31 w2 then fieldOf 16 12 w2 else 1
      let p : Pkt := ⟨n.2, bytes, 516, s.bus.w250, known, if known then some s.bus.w250 else none, vlan, fieldOf 28 3 w2, 0, some i,
        e.deadline, some (sched, c), 8, none, (s.str.moves.find? i).isSome⟩
      let copies := if e.kind = 1 then [copyPort e.destPhys e.cls e.sgrp] else n.1.grpCopies e.destPhys 516 e.cls e.sgrp true
      n.1.stagePut (64 + 2 * laneDie lane + tileLane s.rd c tile % 2) p e.cls (cellsOf (frameLen bytes)) false copies

/-- Segments whose first packet this is and whose pixels are not ready are late (R206): WIN_PLAIN, CMP_CNT_LATE, EV216. -/
def State.lateSegs (s : State) (c : Nat) (g : Geo) (f : CFrame) (lane tile k : Nat) (late : List Nat) : State :=
  let line := k / max 1 g.npl
  let here := (s.posts c g f tile line).filter (fun y => decide (y.tm = g.packetAt f.start k))
  let bad := here.filter (fun y => !y.cell && (late.contains y.idx
    || (match f.segs.find? (fun z => z.same y) with | some z => z.verdict.isNone | none => true)))
  bad.foldl (fun a y =>
    ((a.setCanvas c ((a.canvas c).modFrame false (fun f =>
      { f with segs := f.segs.map (fun z => if z.same y then { z with late := true } else z) }))).addSat (cmpKey lane R.CMP_CNT_LATE) 1).raise
        (cmpPage lane) 0) s

/-- Whether the lane that took a logical lane over is ready for a tile line (R211). -/
def State.lineReady (s : State) (ll : Nat) (g : Geo) (first : Nat) : Bool :=
  match s.comp.laneReady.find? ll with
  | none => true
  | some at' =>
    decide (at' ≤ s.bus.now) && decide ((s.bus.w250 : Int) - 8 * ((s.bus.now : Int) - at') ≤ ((first / max 1 g.q : Nat) : Int))

/-- TILE_PACKET_SEND (R195 to R198, R206): at its scheduled time packet k of the frame in progress of a tile is handed to the
crossbar; packets passed over keep their sequence numbers (R211); `late` are the windows whose pixels are not ready. -/
def execTilePacketSend (dt canvas tile k : Nat) (late : List Nat) (s : State) : Res :=
  let s := s.tick dt
  let x := s.canvas canvas
  let g := s.geo canvas
  let ll := tileLane s.rd canvas tile
  .next (match x.cur, s.laneOf ll with
    | some f, some lane =>
      let at' := g.packetAt f.start k
      if (s.tiles s.rd canvas).contains tile ∧ k < g.npl * g.tileH ∧ x.sent.find 0 tile ≤ k ∧ at' ≤ s.cnvNow g
          ∧ (match f.cut with | some t => decide (at' < t) | none => true) = true
          ∧ s.lineReady ll g (g.packetAt f.start (k / max 1 g.npl * g.npl)) = true ∧ s.bus.domRuns (19 + laneDie lane) = true then
        let s1 := s.lateSegs canvas g f lane tile k late
        let y := s1.canvas canvas
        let f1 := y.cur.getD f
        let seq := (y.seqs.find 0 tile + (k - y.sent.find 0 tile)) % 2 ^ 32
        let pl := s1.tilePayload canvas g f1 tile k seq
        (s1.setCanvas canvas { y with seqs := y.seqs.put 0 tile ((seq + 1) % 2 ^ 32), sent := y.sent.put 0 tile (k + 1) }).tileHand canvas
          tile lane (at' / max 1 g.q) (s1.tileFrame canvas tile pl)
      else s
    | _, _ => s)

end Sys2Proof.Machine
end

