-- ==== Sys2Proof/Machine/Tokens.lean ====
section
/-! DEFINITION. Key tokens and reader ports (R387 to R394). -/

namespace Sys2Proof.Machine

/-! ## Keys, timers and small operations -/

def tReply (n : Nat) : Nat := timerId 30 n
def tLockout (n : Nat) : Nat := timerId 31 n
def tPing (n : Nat) : Nat := timerId 32 n
def tPingRetry (n : Nat) : Nat := timerId 33 n
def tRelay (n : Nat) : Nat := timerId 34 n

/-- TOK_STATUS.STATE: 0 OFF, 1 POLLING, 2 AUTH, 3 PRESENT, 4 LOCKOUT, 5 STOPPED (Table 13-10). -/
def State.tokState (s : State) (n : Nat) : Nat := s.fld (tokKey n R.TOK_STATUS) 0 3
def State.tok (s : State) (n : Nat) : Tok := s.toks.find Tok.init n
def State.modTok (s : State) (n : Nat) (f : Tok → Tok) : State := { s with toks := s.toks.put Tok.init n (f (s.tok n)) }
def State.tokRelayOn (s : State) (n : Nat) : Bool := s.bit (tokKey n R.TOK_STATUS) 3
/-- TOK_RELAY.KIND, CHANNEL, MODE, COIL_ENTRY and TIME in clocks. -/
def State.tokKind (s : State) (n : Nat) : Nat := s.fld (tokKey n R.TOK_RELAY) 0 2
def State.tokChannel (s : State) (n : Nat) : Nat := s.fld (tokKey n R.TOK_RELAY) 2 5
def State.tokPulse (s : State) (n : Nat) : Bool := s.bit (tokKey n R.TOK_RELAY) 7
def State.tokTime (s : State) (n : Nat) : Nat := clkMs (s.fld (tokKey n R.TOK_RELAY) 16 16)

/-- The relay demand of a load channel changes, EV303; the channel's demand follows (R392, Table 10-1). -/
def State.setRelay (s : State) (n : Nat) (on : Bool) : State :=
  if s.tokRelayOn n = on then s
  else ((s.setBit (tokKey n R.TOK_STATUS) 3 on).ldsRefresh (s.tokChannel n)).raise (tokPage n) 5

/-- The relay demand goes off. -/
def State.relayOff (s : State) (n : Nat) : State := (s.disarm (tRelay n)).setRelay n false

/-- Enter a state with no exchange in progress; the UID is valid while a token is selected. -/
def State.tokEnter (s : State) (n st : Nat) : State :=
  let s1 := ((s.setFld (tokKey n R.TOK_STATUS) 0 3 st).setBit (tokKey n R.TOK_UID_HI) 31 (decide (st = 2 ∨ st = 3))).modTok n
    (fun t => { t with awaits := 0 })
  let s2 := ((s1.disarm (tReply n)).disarm (tPing n)).disarm (tPingRetry n)
  s2.ifThen (decide (st = 0 ∨ st = 4 ∨ st = 5)) (·.relayOff n)

/-- A frame to the token; its reply must come within 10 ms (R388). -/
def State.tokSend (s : State) (n awaits : Nat) (bytes : List Nat) : State :=
  ((s.emit (.tokFrame n bytes)).modTok n (fun t => { t with awaits := awaits })).arm (tReply n) (clkMs 10)

/-- The claim slots of the load channels and coil channels that authority relays take (R392, R95; assumption log 6). -/
def relaySlot (kind ch : Nat) : Nat := if kind = 1 then 1024 + ch else 1048 + ch

/-- An enabled port with a relay claims its channel, or shows CLAIM_CONFLICT (R392, R95). -/
def State.tokClaim (s : State) (n : Nat) : State :=
  let s1 := s.on (·.releaseClaims (tokPage n))
  let kind := s.tokKind n
  if !s.pageEn (tokPage n) ∨ (kind ≠ 1 ∧ kind ≠ 2) then s1.setBit (tokKey n R.TOK_STATUS) 6 false
  else
    let slot := relaySlot kind (s.tokChannel n)
    (s1.on (·.claim (tokPage n) slot)).setBit (tokKey n R.TOK_STATUS) 6 (!s1.bus.mayClaim slot (fnCode (tokPage n)))

/-- A port that polls again from OFF: in LOCKOUT while the lock-out time held in the AON island still runs (R390), else in POLLING if
POLL_EN is 1. -/
def State.tokOn (s : State) (n : Nat) : State :=
  if s.bus.running (tLockout n) then s.tokEnter n 4
  else if s.bit (tokKey n R.TOK_CTRL) 0 then s.tokEnter n 1 else s

/-- PAGE_CTRL.EN of a reader page goes to 1 (Table 13-10). -/
def State.tokEnable (s : State) (n : Nat) : State :=
  let s1 := s.tokClaim n
  let s2 := if s1.tokState n = 0 then s1.tokOn n else s1
  (List.range 24).foldl State.ldsRefresh s2

/-- PAGE_CTRL.EN of a reader page goes to 0, or FS106: the port is OFF and its relay demand off (Table 13-10). -/
def State.tokDisable (s : State) (n : Nat) : State :=
  let s1 := (s.tokEnter n 0).tokClaim n
  (List.range 24).foldl State.ldsRefresh s1

/-- A port in STOPPED returns to POLLING with EV304, and its idle time restarts (R391). -/
def State.tokResume (s : State) (n : Nat) : State :=
  if s.tokState n ≠ 5 then s
  else ((s.tokEnter n 1).modTok n (fun t => { t with answered := s.bus.now })).raise (tokPage n) 6

/-- The debounced state of switch input `i` has changed: ports stopped with WAKE_SI naming it poll again, in Watch as well (R391,
Table 14-4). -/
def State.tokSwitch (s : State) (i : Nat) : State :=
  (List.range 8).foldl (fun a n =>
    if a.tokState n = 5 ∧ a.fld (tokKey n R.TOK_CFG) 18 6 = i then (a.tokResume n).sectionWake (17 + n) else a) s

/-- The clocks of STOP_DAYS. -/
def State.stopClocks (s : State) (n : Nat) : Nat := clkS (86400 * s.fld (tokKey n R.TOK_CFG) 10 8)

/-- Whether no token has answered a selection for STOP_DAYS; 0 never stops polling (R391). -/
def State.tokIdle (s : State) (n : Nat) : Bool :=
  decide (s.fld (tokKey n R.TOK_CFG) 10 8 ≠ 0) && decide ((s.tok n).answered + s.stopClocks n ≤ s.bus.now)

/-! ## Authorisation (R389, R392, R393) -/

/-- Whether a TOKEN_NO is in the revocation table. -/
def State.revoked (s : State) (no : Nat) : Bool :=
  (List.range 256).any (fun i =>
    let v := s.rd (rkSel dkyPage R.DKY_REVOKE i)
    bitOf 31 v && decide (fieldOf 0 24 v = no))

/-- Whether W is past NOT_AFTER, or E is unbounded (R389). -/
def State.expired (s : State) (notAfter : Nat) : Bool :=
  (decide (notAfter ≠ 0) && decide (notAfter * 4000000000 < s.bus.w250)) || s.teb.isNone

/-- REVOKED and EXPIRED follow the tables as they stand; EV305 as REVOKED is set (R389). -/
def State.tokJudge (s : State) (n : Nat) : State :=
  let k := tokKey n R.TOK_STATUS
  let rev := s.revoked (s.fld (tokKey n R.TOK_HOLDER) 0 24)
  let was := s.bit k 5
  ((s.setBit k 4 (s.expired (s.tok n).notAfter)).setBit k 5 rev).ifThen (rev && !was) (·.raise (tokPage n) 7)

/-- Authorised apart from the relay groups and the binding (R393). -/
def State.tokValid (s : State) (n : Nat) : Bool := !s.bit (tokKey n R.TOK_STATUS) 4 && !s.bit (tokKey n R.TOK_STATUS) 5

/-- Whether the token releases the relay: authorised, the device bound, and a group in common (R389, R392). -/
def State.tokReleases (s : State) (n : Nat) : Bool :=
  s.tokValid n && s.bound && !s.bit (tokKey n R.TOK_STATUS) 6
    && decide (maskOf (s.fld (tokKey n R.TOK_GROUPS) 0 16) (s.fld (tokKey n R.TOK_RELAY_GROUPS) 0 16) ≠ 0)

/-- A success releases the relay (R392): a load demand held or pulsed, or one fire of a coil, which waits while the coils are in
Watch (R409). -/
def State.tokRelease (s : State) (n : Nat) : State :=
  match s.tokKind n with
  | 1 =>
    let s1 := s.setRelay n true
    if s.tokPulse n then s1.arm (tRelay n) (s.tokTime n) else s1.disarm (tRelay n)
  | 2 =>
    let c := s.tokChannel n
    let entry := s.fld (tokKey n R.TOK_RELAY) 8 6
    if s.bus.inWatch 25 then ({ s with watch := { s.watch with fires := s.watch.fires ++ [(c, entry)] } }).sectionWake 25
    else s.coiFire c entry false
  | _ => s

/-- TOK_TOKEN_SIGNATURE (R393): the first valid token principal that bears the token's number and allows the port signs the sealed
proposal, if the confirm input is set. -/
def State.tokSign (s : State) (n : Nat) : State :=
  let cfg := s.rd (tokKey n R.TOK_CFG)
  let si := fieldOf 24 6 cfg
  let level := s.bit (rk (Block.swi.pg 0) (R.SWI_STATE_LO + 4 * (si / 32))) (si % 32)
  let fits := fun (i : Nat) =>
    let w := s.bus.prinWords i
    prinValid w && decide (prinKind w = 2) && decide (prinToken w = s.fld (tokKey n R.TOK_HOLDER) 0 24) && bitOf n (prinPorts w)
  if s.dkyState ≠ 3 ∨ s.dky.expiring ∨ !s.tokValid n ∨ !bitOf 30 cfg ∨ !level then s
  else match (List.range 64).find? fits with
    | some i => s.takeSig i (s.judgeSig i (s.bus.prinWords i) (some s.dky.prop) true)
    | none => s

/-! ## The exchange (R388, R389) -/

/-- Eight bytes drawn from the random number generator. -/
def State.drawRa (s : State) : State × List Nat :=
  let g := s.draw 2
  (g.1, g.2.flatMap (octets 4))

/-- K_site (DKY_TOKKEY), and K of a UID (R388). -/
def State.siteKey (s : State) : List Nat := (s.rdList (dkyKey R.DKY_TOKKEY) 4).flatMap (octets 4)
def State.tokenKey (s : State) (uid : List Nat) : List Nat := aesEncrypt s.siteKey (uid ++ [0x4B, 0x4C] ++ List.replicate 7 0)

/-- The first 8 bytes of AES-CMAC. -/
def mac8 (ks m : List Nat) : List Nat := (aesCmac ks m).take 8

/-- An authentication fails (R389, R390). -/
def State.tokFail (s : State) (n : Nat) : State :=
  let fails := satInc 4 (s.fld (tokKey n R.TOK_FAILS) 0 4)
  let s1 := (((s.setFld (tokKey n R.TOK_FAILS) 0 4 fails).addSat (tokKey n R.TOK_CNT_FAIL) 1).raise (tokPage n) 1)
  if fails < s.fld (tokKey n R.TOK_CFG) 0 4 then s1.tokEnter n 1
  else
    let s2 := (s1.tokEnter n 4).arm (tLockout n) (clkS (60 * s.fld (tokKey n R.TOK_CFG) 4 6))
    (s2.addSat (tokKey n R.TOK_CNT_LOCKOUT) 1).raise (tokPage n) 2

/-- An authentication succeeds (R389, R394): the record is stored, EV298, EV301; the token is authorised, releases the relay and may
sign. -/
def State.tokSucceed (s : State) (n : Nat) (r : List Nat) : State :=
  let s1 := ((s.setFld (tokKey n R.TOK_FAILS) 0 4 0).wr (tokKey n R.TOK_HOLDER) (natOf (r.take 3) + (r.getD 3 0) % 16 * 2 ^ 24)).wr
    (tokKey n R.TOK_GROUPS) (natOf ((r.drop 4).take 2))
  let c := s1.draw 1
  let s2 := (c.1.tokEnter n 3).modTok n (fun t => { t with notAfter := natOf ((r.drop 6).take 6), counter := c.2.headD 0 })
  let s3 := ((s2.addWrap (tokKey n R.TOK_CNT_OK) 1).setBit (tokKey n R.TOK_STATUS) 5 false).tokJudge n
  let s4 := ((s3.raise (tokPage n) 0).raise (tokPage n) 3).arm (tPing n) (clkMs 250)
  (s4.ifThen (s4.tokReleases n) (·.tokRelease n)).tokSign n

/-! ## Meanings -/

/-- TOK_POLL (R391, R408, R410): a card in the field is wake source 4; it wakes a port in Watch, whose poll is held until the section
runs. -/
def execTokPoll (dt n : Nat) (card : Bool) (s : State) : Res :=
  let s1 := s.tick dt
  .next (if s1.tokState n = 1 ∧ card = true then
      let s2 := if s1.bus.inWatch (17 + n) then
          ({ s1 with watch := { s1.watch with polls := (n :: s1.watch.polls).eraseDups } }).sectionWake (17 + n)
        else s1
      s2.wake 4
    else s1)

/-- TOK_SELECT (R387, R388, R380): a token is selected by its UID. A 4-byte UID is refused, and authentication waits for the random
number generator (Table 16-5); a selection at port 0 with WAKE_N held low shows presence, except in LOCKOUT. -/
def execTokSelect (dt n : Nat) (uid : List Nat) (s : State) : Res :=
  let s1 := s.tick dt
  .next (if !s1.bus.pageUp (tokPage n) then s1
    else
      let s2 := s1.ifThen (decide (n = 0) && s1.dky.wakeHeld && decide (s1.tokState 0 ≠ 4)) State.showPresence
      if s2.tokState n ≠ 1 then s2
      else
        let s3 := s2.modTok n (fun t => { t with answered := s2.bus.now })
        if uid.length ≠ 7 ∨ !s3.rngReady then s3
        else
          let g := s3.drawRa
          let u := natOf uid
          let s4 := (g.1.wr (tokKey n R.TOK_UID_LO) (u % 2 ^ 32)).wr (tokKey n R.TOK_UID_HI) (u / 2 ^ 32 % 2 ^ 24)
          let s5 := (s4.tokEnter n 2).modTok n (fun t => { t with uid := uid, ra := g.2, k := s4.tokenKey uid })
          s5.tokSend n 1 ([0xA1, 0x01] ++ g.2))

/-- A reply to the command awaited, while the port is in AUTH. -/
def State.tokReply (s : State) (n awaits : Nat) (f : State → State) : State :=
  if s.tokState n = 2 ∧ (s.tok n).awaits = awaits then f (s.disarm (tReply n)) else s

/-- TOK_AUTH1_REPLY (R388, R389): RA must come back. -/
def execTokAuth1Reply (dt n : Nat) (bytes : List Nat) (s : State) : Res :=
  .next ((s.tick dt).tokReply n 1 (fun s =>
    let t := s.tok n
    let p := aesDecrypt t.k (bytes.drop 1)
    if bytes.length = 17 ∧ bytes.headD 0 = 0xA1 ∧ p.take 8 = t.ra then
      let rb := p.drop 8
      (s.modTok n (fun t => { t with rb := rb })).tokSend n 2 (0xA2 :: aesEncrypt t.k (rb ++ t.ra))
    else s.tokFail n))

/-- TOK_AUTH2_REPLY (R388, R389): the token must accept. -/
def execTokAuth2Reply (dt n : Nat) (bytes : List Nat) (s : State) : Res :=
  .next ((s.tick dt).tokReply n 2 (fun s =>
    if bytes = [0xA2, 0x00] then
      let t := s.tok n
      let ks := aesEncrypt t.k (t.ra.take 4 ++ t.rb.take 4 ++ t.ra.drop 4 ++ t.rb.drop 4)
      (s.modTok n (fun t => { t with ks := ks })).tokSend n 3 [0xB0]
    else s.tokFail n))

/-- TOK_READ_REPLY (R388, R389): the MAC of the record must be correct. -/
def execTokReadReply (dt n : Nat) (bytes : List Nat) (s : State) : Res :=
  .next ((s.tick dt).tokReply n 3 (fun s =>
    let ks := (s.tok n).ks
    let c := (bytes.drop 1).take 16
    if bytes.length = 25 ∧ bytes.headD 0 = 0xB0 ∧ bytes.drop 17 = mac8 ks c then s.tokSucceed n (aesDecrypt ks c) else s.tokFail n))

/-- TOK_REPLY_TIMEOUT (R388, R389): no reply to AUTH1 is not counted; after AUTH1 the authentication fails. -/
def execTokReplyTimeout (dt n : Nat) (s : State) : Res :=
  .next ((s.tick dt).onExpiry (tReply n) (fun s =>
    if s.tokState n ≠ 2 then s else if (s.tok n).awaits = 1 then s.tokEnter n 1 else s.tokFail n))

/-- The PING of the port's counter, and the reply it wants (Table 13-8). -/
def Tok.ping (t : Tok) : List Nat := [0xC0] ++ octets 4 t.counter ++ mac8 t.ks (0xC0 :: octets 4 t.counter)
def Tok.pong (t : Tok) : List Nat := 0xC0 :: mac8 t.ks (0xC1 :: octets 4 t.counter)

/-- A correct reply: a revocation or expiry now takes effect, the relay demand going off (R394), and the next PING follows. -/
def State.tokStays (s : State) (n clks : Nat) : State :=
  let s1 := ((s.modTok n (fun t => { t with counter := (t.counter + 1) % 2 ^ 32 })).arm (tPing n) clks).tokJudge n
  s1.ifThen (!s1.tokValid n) (·.relayOff n)

/-- TOK_PING (R391). -/
def execTokPing (dt n : Nat) (reply : List Nat) (s : State) : Res :=
  .next ((s.tick dt).onExpiry (tPing n) (fun s =>
    if s.tokState n ≠ 3 then s
    else
      let s1 := s.emit (.tokFrame n (s.tok n).ping)
      if reply = (s.tok n).pong then s1.tokStays n (clkMs 250) else s1.arm (tPingRetry n) (clkMs 5)))

/-- The token has left (R391, R392): EV302; a held relay goes off TIME ms later. -/
def State.tokLeaves (s : State) (n : Nat) : State :=
  let s1 := (s.tokEnter n 1).raise (tokPage n) 4
  if s1.tokRelayOn n && !s1.tokPulse n then
    (if s1.tokTime n = 0 then s1.relayOff n else s1.arm (tRelay n) (s1.tokTime n))
  else s1

/-- TOK_PING_RETRY (R391): the PING is repeated. -/
def execTokPingRetry (dt n : Nat) (reply : List Nat) (s : State) : Res :=
  .next ((s.tick dt).onExpiry (tPingRetry n) (fun s =>
    if s.tokState n ≠ 3 then s
    else
      let s1 := s.emit (.tokFrame n (s.tok n).ping)
      if reply = (s.tok n).pong then s1.tokStays n (clkMs 245) else s1.tokLeaves n))

/-- TOK_LOCKOUT_EXPIRE (R390, R394): TOK_FAILS is 0; the port polls, and where a STOPPED condition is met at that moment its idle time
restarts. -/
def execTokLockoutExpire (dt n : Nat) (s : State) : Res :=
  .next ((s.tick dt).onExpiry (tLockout n) (fun s =>
    let s1 := s.setFld (tokKey n R.TOK_FAILS) 0 4 0
    if s1.tokState n ≠ 4 then s1
    else (s1.tokEnter n 1).ifThen (s1.tokIdle n) (·.modTok n (fun t => { t with answered := s.bus.now }))))

/-- TOK_IDLE_STOP (R391). -/
def execTokIdleStop (dt n : Nat) (s : State) : Res :=
  let s1 := s.tick dt
  .next (if s1.tokState n = 1 ∧ s1.tokIdle n then (s1.tokEnter n 5).raise (tokPage n) 6 else s1)

/-- TOK_CTRL is written (R391, Table 13-10). -/
def State.tokCtrl (s : State) (n value : Nat) : State :=
  let was := s.bit (tokKey n R.TOK_CTRL) 0
  let s1 := s.wr (tokKey n R.TOK_CTRL) (value % 2)
  if was || !bitOf 0 value then s1
  else if s1.tokState n = 0 then (if s1.pageEn (tokPage n) then s1.tokOn n else s1)
  else s1.tokResume n

/-- TOK_POLL_ENABLE (R391): a write of TOK_CTRL. -/
def execTokPollEnable (dt vi n value : Nat) (s : State) : Res :=
  .next ((s.tick dt).guardWrite vi (tokPage n) (·.tokCtrl n value))

/-- TOK_RELAY_TIME_EXPIRE (R392). -/
def execTokRelayTimeExpire (dt n : Nat) (s : State) : Res :=
  .next ((s.tick dt).onExpiry (tRelay n) (·.setRelay n false))

/-- TOK_FRONTEND_FAULT (R394, FS106). -/
def execTokFrontendFault (dt n : Nat) (s : State) : Res :=
  .next (((s.tick dt).tokEnter n 0).fault 106 { page := tokPage n })

end Sys2Proof.Machine
end

