-- ==== Sys2Proof/Machine/Inputs.lean ====
section
/-! DEFINITION. Switch inputs (R282 to R286, R496) and encoders (R287 to R290). -/

namespace Sys2Proof.Machine

/-! ## Switch inputs -/

def swiPage : Nat := Block.swi.pg 0
def swiKey (off : Nat) : Nat := rk swiPage off
/-- A setting of input `i`, in SWI_CFG of the selected input. -/
def swiCfg (i : Nat) : Nat := rkSel swiPage R.SWI_CFG i
/-- The bit of input `i` in a pair of _LO and _HI registers. -/
def State.swiBit (s : State) (lo i : Nat) : Bool := s.bit (swiKey (lo + 4 * (i / 32))) (i % 32)
def State.setSwiBit (s : State) (lo i : Nat) (b : Bool) : State := s.setBit (swiKey (lo + 4 * (i / 32))) (i % 32) b
def State.modSwi (s : State) (f : Switches → Switches) : State := { s with swi := f s.swi }

/-- The level of a sample in mV: closed is 1; between the thresholds a sample repeats the previous level (R496). -/
def switchLevel (toSupply : Bool) (mv : Int) (prev : Bool) : Bool :=
  if toSupply then (if 10000 < mv then true else if mv < 7000 then false else prev)
  else (if mv < 4000 then true else if 7000 < mv then false else prev)

/-- Outside the valid range: below −0.5 V or above VFIELD + 0.5 V (R496). -/
def switchInvalid (mv : Int) (vfield : Nat) : Bool := decide (mv < -500) || decide ((vfield : Int) + 500 < mv)

/-- The change queue takes an entry, or counts it lost with EV283 (R284). -/
def State.swiQueue (s : State) (e : SwiEntry) : State :=
  if s.swi.queue.length < 256 then s.modSwi (fun w => { w with queue := w.queue ++ [e] })
  else (s.addSat (swiKey R.SWI_Q_LOST) 1).raise swiPage 1

/-- The debounced state of input `i` changes to `level` (before INV), first seen at `since` (R283). -/
def State.swiChange (s : State) (i : Nat) (level : Bool) (since : Nat) : State :=
  let new := level != s.bit (swiCfg i) 12
  let s1 := (s.modSwi (fun w => { w with level := w.level.put false i level, agree := w.agree.erase i })).setSwiBit R.SWI_STATE_LO i new
  let s2 := s1.setSwiBit (if new then R.SWI_RISE_LO else R.SWI_FALL_LO) i true
  let s3 := s2.ifThen (s2.swiBit R.SWI_EVMASK_LO i) (·.raise swiPage 0)
  (s3.swiQueue ⟨i, new, since⟩).tokSwitch i

/-- SWI_INPUT_FAULT (R282): SWI_FAULT follows the input; EV283 as it is set; the debounced state is held meanwhile. -/
def State.swiInvalid (s : State) (i : Nat) : State :=
  let s1 := s.modSwi (fun w => { w with agree := w.agree.erase i })
  if s1.swiBit R.SWI_FAULT_LO i then s1 else (s1.setSwiBit R.SWI_FAULT_LO i true).raise swiPage 1

/-- One input is sampled, with a debounce of `n` samples; `stamp` is the W of the sample (R283). -/
def State.swiInput (s : State) (i : Nat) (mv : Int) (vfield n stamp : Nat) : State :=
  if !s.bit (swiCfg i) 0 then s
  else if switchInvalid mv vfield then s.swiInvalid i
  else
    let s0 := s.setSwiBit R.SWI_FAULT_LO i false
    let lv := switchLevel (s.bit (swiCfg i) 1) mv (s.swi.sample.find false i)
    let s1 := s0.modSwi (fun w => { w with sample := w.sample.put false i lv })
    if lv = s.swi.level.find false i then s1.modSwi (fun w => { w with agree := w.agree.erase i })
    else
      let a := match s.swi.agree.find? i with | some (c, t) => (c + 1, t) | none => (1, stamp)
      if n ≤ a.1 then s1.swiChange i lv a.2
      else s1.modSwi (fun w => { w with agree := w.agree.set i a })

/-- The inputs of a list of readings, from input `i` on. -/
def State.swiInputs (s : State) (vfield stamp : Nat) (debounce : Option Nat) : List Int → Nat → State
  | [], _ => s
  | mv :: t, i =>
    let n := match debounce with | some n => n | none => max 1 (s.fld (swiCfg i) 4 8)
    (s.swiInput i mv vfield n stamp).swiInputs vfield stamp debounce t (i + 1)

/-- SWI_SAMPLE (R283): the voltages at the inputs and VFIELD, in mV. -/
def execSwiSample (dt : Nat) (mv : List Int) (vfield : Nat) (s : State) : Res :=
  let s1 := s.tick dt
  .next (if s1.pageEn swiPage ∧ s1.bus.pageUp swiPage then s1.swiInputs vfield s1.bus.w250 none (mv.take 64) 0 else s1)

/-- The wall time at the 32.768 kHz edge at or before it: stamps have a resolution of 30.5 µs in Watch (R285). -/
def aonStamp (w : Nat) : Nat := w * 32768 / 4000000000 * 4000000000 / 32768

/-- The wake condition: (SWI_STATE XOR SWI_WAKE_REF) AND SWI_WAKE_MASK ≠ 0 (R285). -/
def State.swiWakes (s : State) : Bool :=
  (List.range 64).any (fun i => (s.swiBit R.SWI_STATE_LO i != s.swiBit R.SWI_WAKE_REF_LO i) && s.swiBit R.SWI_WAKE_MASK_LO i)

/-- The transceivers whose local input meets the wake condition detect a wake (R323). -/
def State.localWakes (s : State) : State :=
  (List.range 8).foldl (fun a n =>
    let i := s.fld (wakKey n R.WAK_CFG) 7 6
    if s.bit (wakKey n R.WAK_CFG) 6 && (s.swiBit R.SWI_STATE_LO i != s.swiBit R.SWI_WAKE_REF_LO i) && s.swiBit R.SWI_WAKE_MASK_LO i
    then a.wakDetect n 4 else a) s

/-- SWI_WATCH_SAMPLE (R285): sampling by the AON island, with a debounce of 2; the wake condition raises EV284, wakes the section
(R409) and is wake source 5 (Table 14-5). -/
def execSwiWatchSample (dt : Nat) (mv : List Int) (vfield : Nat) (s : State) : Res :=
  let s1 := s.tick dt
  .next (if s1.pageEn swiPage ∧ (s1.bus.inWatch 16 ∨ !s1.bus.domUp 1) then
      let s2 := s1.swiInputs vfield (aonStamp s1.bus.w250) (some 2) (mv.take 64) 0
      if s2.swiWakes then (((s2.raise swiPage 2).sectionWake 16).wake 5).localWakes else s2
    else s1)

/-- What SWI_Q0 reads: the head of the queue (R284). -/
def State.swiHead (s : State) : Nat :=
  match s.swi.queue with
  | [] => 0
  | e :: _ => e.input + b2n e.level * 64 + 2 ^ 31

/-- SWI_QUEUE_POP (R284, R85, R92): the owner removes the head and its stamp is kept for SWI_Q1 to SWI_Q3; a reader sees it. -/
def execSwiQueuePop (dt vi : Nat) (s : State) : Res :=
  let s1 := s.tick dt
  .next (s1.readBy vi swiPage s1.swiHead (fun s =>
    match s.swi.queue with
    | [] => s
    | e :: t => s.modSwi (fun w => { w with queue := t, snap := e.stamp })))

/-! ## Encoders -/

def encPage (e : Nat) : Nat := Block.enc.pg e
def encKey (e off : Nat) : Nat := rk (encPage e) off

/-- ENC_POS moves on by a signed number of counts, and wraps (R287). -/
def State.encCount (s : State) (e : Nat) (d : Int) : State :=
  s.wr (encKey e R.ENC_POS) (ofSigned 32 (signedOf 32 (s.rd (encKey e R.ENC_POS)) + d))

/-- The direction of a change of one of A and B: A leading B counts up (assumption log 26). -/
def quadrature (a b a' b' : Bool) : Int :=
  if a ≠ a' then (if a' ≠ b then 1 else -1) else if b ≠ b' then (if a = b' then 1 else -1) else 0

/-- ENC_EDGE (R287): the accepted levels of A and B. -/
def execEncEdge (dt e : Nat) (a b : Bool) (s : State) : Res :=
  let s1 := s.tick dt
  let k := encKey e R.ENC_STATUS
  .next (if s1.pageEn (encPage e) ∧ s1.bus.pageUp (encPage e) then
      let a0 := s1.bit k 3
      let b0 := s1.bit k 4
      let s2 := (s1.setBit k 3 a).setBit k 4 b
      if a ≠ a0 ∧ b ≠ b0 then ((s2.addSat (encKey e R.ENC_CNT_QERR) 1).setBit k 2 true).raise (encPage e) 2
      else
        let d := quadrature a0 b0 a b
        s2.encCount e (if s1.bit (encKey e R.ENC_CTRL) 1 then -d else d)
    else s1)

/-- ENC_IDX_POS takes a count. -/
def State.encIdx (s : State) (e v : Nat) : State := s.wr (encKey e R.ENC_IDX_POS) v

/-- An accepted index, handled by the first row of Table 10-10 that applies (R288). -/
def State.encIndex (s : State) (e : Nat) : State :=
  let pos := s.rd (encKey e R.ENC_POS)
  let old := s.rd (encKey e R.ENC_IDX_POS)
  let d := signedOf 32 (pos + 2 ^ 32 - old)
  let ppr := s.fld (encKey e R.ENC_PPR) 0 24
  let k := encKey e R.ENC_STATUS
  if !s.bit k 0 then (s.encIdx e pos).setBit k 0 true
  else if d = 0 then s
  else if ppr = 0 ∨ d.natAbs = ppr then s.encIdx e pos
  else
    let s1 := ((((s.wr (encKey e R.ENC_MISMATCH) (ofSigned 32 d)).setBit k 1 true).raise (encPage e) 1).addSat
      (encKey e R.ENC_CNT_MISMATCH) 1).encIdx e pos
    if s.bit (encKey e R.ENC_CTRL) 0 then
      let n := ofSigned 32 (signedOf 32 old + d.sign * (ppr * max 1 ((2 * d.natAbs + ppr) / (2 * ppr)) : Nat))
      (s1.wr (encKey e R.ENC_POS) n).encIdx e n
    else s1

/-- ENC_INDEX (R288): the active edge of I. -/
def execEncIndex (dt e : Nat) (s : State) : Res :=
  let s1 := s.tick dt
  let k := encKey e R.ENC_STATUS
  let c := encKey e R.ENC_CTRL
  .next (if s1.pageEn (encPage e) ∧ s1.bus.pageUp (encPage e) then
      let s2 := s1.setBit k 5 (!s1.bit c 8)
      if s1.bit c 3 ∧ (!s1.bit c 9 ∨ (s1.bit k 3 ∧ s1.bit k 4)) then
        ((s2.addWrap (encKey e R.ENC_CNT_INDEX) 1).raise (encPage e) 0).encIndex e
      else s2
    else s1)

/-- ENC_POS_WRITE (R287): the count is set and REF cleared. -/
def execEncPosWrite (dt vi e value : Nat) (s : State) : Res :=
  .next ((s.tick dt).guardWrite vi (encPage e) (fun s =>
    (s.wr (encKey e R.ENC_POS) value).setBit (encKey e R.ENC_STATUS) 0 false))

end Sys2Proof.Machine
end

