-- ==== Sys2Proof/Machine/Clocks.lean ====
section
/-! DEFINITION. Clocks, the timebase and the general timers (R42 to R71): the meanings of the commands of chapter 02. -/

namespace Sys2Proof.Machine

/-! ## The timebase -/

def tPpsAbs : Nat := timerId 4 0
def tPtpSync : Nat := timerId 4 1

/-- 1.5 s in timebase clocks (R57, R58). -/
def clk1500ms : Nat := 750000000

/-- TIM_TEB is recomputed; EV69 each time E rises through TIM_TEB_WARN and when it becomes unbounded (R21, R59). -/
def State.updateTeb (s : State) : State :=
  let old := s.rd (timKey R.TIM_TEB)
  let warn := s.rd (timKey R.TIM_TEB_WARN)
  let new := match s.teb with | some e => e | none => 0xFFFFFFFF
  let s1 := s.wr (timKey R.TIM_TEB) new
  if (decide (old < warn) && decide (warn ≤ new)) || (decide (new = 0xFFFFFFFF) && decide (old ≠ 0xFFFFFFFF))
  then s1.raise timPage 5 else s1

/-- The ±200 ppm limit on the addend (Table 2-5). -/
def clampAddend (a : Nat) : Nat :=
  max (nominalAddend - nominalAddend * 200 / 1000000) (min (nominalAddend + nominalAddend * 200 / 1000000) a)

/-- The addend offset from nominal in 0.1 ppb units, rounded to the nearest (R49). -/
def freqAdj (a : Nat) : Int :=
  let d : Int := ((a : Int) - (nominalAddend : Int)) * 10000000000
  (2 * d + (nominalAddend : Int)) / (2 * (nominalAddend : Int))

/-- Set the addend; TIM_FREQ_ADJ reports it (R49). -/
def State.setAddend (s : State) (a : Nat) : State :=
  let s1 := s.on (fun b => { b with addend := a })
  { s1.wr (timKey R.TIM_FREQ_ADJ) (ofSigned 32 (freqAdj a)) with tim := { s1.tim with addends := (s.bus.now, a) :: s1.tim.addends } }

/-- The time-weighted sum of the addends over the window that ends at `hi` and began at `lo`, newest first. -/
def addendSum : List (Nat × Nat) → Nat → Nat → Nat
  | [], _, _ => 0
  | (st, a) :: t, lo, hi => a * (hi - max st lo) + (if st ≤ lo then 0 else addendSum t lo (min st hi))

/-- The average addend over the last 16 s in LOCKED (R58); the addend list starts anew when LOCKED is entered. -/
def State.avgAddend (s : State) : Nat :=
  let start := (s.tim.addends.getLast?.map (·.1)).getD s.bus.now
  let lo := max start (s.bus.now - clkS 16)
  if s.bus.now ≤ lo then s.bus.addend else addendSum s.tim.addends lo s.bus.now / (s.bus.now - lo)

/-- TIM_STATE takes a new value; each change raises EV67 (R58). -/
def State.setTimState (s : State) (st : Nat) : State :=
  if s.timState = st then s else (s.wr (timKey R.TIM_STATE) st).raise timPage 3

/-- LOCKED is left: HOLDOVER, or FREERUN while TREF_IN is lost (R43, R58); Emeas is frozen, Ehold starts from here and the
addend holds its average (R19, R58). -/
def State.leaveLocked (s : State) : State :=
  if s.timState = 1 then
    let fz := s.tim.hist.foldl max 0
    let s1 := { s with tim := { s.tim with frozen := fz, holdStart := s.bus.w250 } }
    let s2 := s1.setAddend s1.avgAddend
    (s2.setTimState (if s2.bit (timKey R.TIM_CTRL) 5 then 3 else 2)).updateTeb
  else s

/-- LOCKED is entered (R58). The addend average starts anew. -/
def State.enterLocked (s : State) : State :=
  ({ s with tim := { s.tim with addends := [(s.bus.now, s.bus.addend)] } }).setTimState 1

/-- A step by `d` units of 250 ps (R54, R55): W is rewritten, the captures held move with it, the history holds the residual
of the step alone, Estep and TIM_LAST_STEP take the step unless it leads out of STARTING; EV66; LOCKED; canvases lose alignment
(R199). -/
def State.stepBy (s : State) (d : Int) : State :=
  let sh := fun (x : Nat) => ((x : Int) + d).toNat
  let w := ((s.bus.wall : Int) + d * (2 ^ 46 : Nat)).toNat % wallModulus
  let wasStarting := decide (s.timState = 0)
  let s1 := s.on (fun b => { b with wall := w })
  let t := s1.tim
  let prev := if s.bus.w250 ≤ t.estepEnd then t.estep else 0
  let t1 := { t with
    lastSeen := t.lastSeen.map sh
    lastAcc := t.lastAcc.map (fun e => { e with cap := sh e.cap, err := e.err.map (· + d) })
    ptpCap := sh t.ptpCap, ptpLast := t.ptpLast.map (· + d)
    hist := [1], armed := false, ptpArmed := false
    estep := if wasStarting then 0 else max prev d.natAbs
    estepEnd := if wasStarting then t.estepEnd else s1.bus.w250 + s.rd (timKey R.TIM_STEP_HOLD) * 4000000000 }
  let s2 := { s1 with tim := t1 }
  let s3 := if wasStarting then s2 else
    (s2.wr (timKey R.TIM_LAST_STEP_S) (ofSigned 32 (max (-2147483647) (min 2147483647 (d.tdiv 4000000000))))).wr
      (timKey R.TIM_LAST_STEP_NS) (ofSigned 32 ((d.tmod 4000000000).tdiv 4))
  (((s3.raise timPage 2).enterLocked).updateTeb).canvasesStep d

/-- Record a phase error in the history of the last 16 (R19). -/
def State.pushHist (s : State) (e : Int) : State :=
  { s with tim := { s.tim with hist := (e.natAbs :: s.tim.hist).take 16 } }

/-- The threshold of a step and the agreement limit, in 250 ps units (R54). -/
def State.stepThr (s : State) : Nat := 4 * s.rd (timKey R.TIM_STEP_THR)
def State.agreeLim (s : State) : Nat := 4 * s.rd (timKey R.TIM_AGREE)

/-- The slew of Table 2-5: the loop adjusts the addend, within ±200 ppm of nominal. The loop's law is open (assumption
log 8). -/
def State.slew (s : State) (e : Int) : State := s.setAddend (clampAddend (Config.pllAddend e s.bus.addend))

/-- The action of Table 2-5 and of the relock rows of Table 2-6 for error `e` after error `prev`; `agree` says that the two
agree (and, for edges, are consecutive), `armed` that a step was armed, `meas` the addend the agreeing pair measures, and
`arm` sets or clears the arming. -/
def State.discipline (s : State) (prev : Option Int) (e : Int) (agree armed : Bool) (meas : Nat) (arm : Bool → State → State) :
    State :=
  let thr := s.stepThr
  let big := decide (thr ≤ e.natAbs)
  let prevBig := match prev with | some p => decide (thr ≤ p.natAbs) | none => false
  let prevSmall := match prev with | some p => decide (p.natAbs < thr) | none => false
  if armed then
    (if agree then (s.setAddend (clampAddend meas)).stepBy (-e) else arm false s)
  else if s.timState = 0 then (if agree then arm true s else s)
  else if agree && big && prevBig then arm true s
  else if s.timState = 1 then (if big then s else s.slew e)
  else if agree && !big && prevSmall then ((s.enterLocked).slew e).updateTeb
  else s

/-- The addend a pair measures: the labels' difference over the counter's (Table 2-5). -/
def measAddend (addend truth counted : Nat) : Nat := if counted = 0 then addend else addend * truth / counted

def State.timSrc (s : State) : Nat := let v := s.fld (timKey R.TIM_CTRL) 0 2; if v = 3 then 0 else v

/-- PTP lock counts where the discipline uses PTP (R52). -/
def State.ptpCounts (s : State) : Bool := s.tim.ptpLocked && decide (s.timSrc ≠ 0)

/-- The label of an accepted edge in seconds (R52, R71): from PTP under source 2 once it is locked; else TIM_PPS_NEXT_S if it
was written since the last accepted edge, with the upper seconds of the counter; else the label of the previous accepted edge
plus the whole seconds since. -/
def State.edgeLabel (s : State) (cap : Nat) : Option Nat :=
  if s.timSrc = 2 ∧ s.tim.ptpLocked then
    some ((((cap : Int) - s.tim.ptpLast.getD 0).toNat + 2000000000) / 4000000000)
  else if s.tim.nextValid then
    some (cap / 4000000000 / 2 ^ 32 * 2 ^ 32 + s.rd (timKey R.TIM_PPS_NEXT_S))
  else match s.tim.lastAcc with
    | some p => p.label.map (fun l => l + (cap - p.cap + 2000000000) / 4000000000)
    | none => none

/-- An accepted PPS edge (R53, R54): EV64, its label and phase error, and the action of Table 2-5. -/
def State.acceptEdge (s : State) (cap : Nat) : State :=
  let label := s.edgeLabel cap
  let e : Option Int := label.map (fun l => (cap : Int) - (l * 4000000000 : Nat))
  let prev := s.tim.lastAcc
  let consec := s.tim.consecutive
  let prevErr := match prev with | some p => p.err | none => none
  let s1 := (s.raise timPage 0).arm tPpsAbs clk1500ms
  let s2 := { s1 with tim := { s1.tim with lastSeen := some cap, lastAcc := some ⟨cap, label, e⟩, consecutive := true,
                                           nextValid := if label.isSome then false else s1.tim.nextValid } }
  match e with
  | none => s2
  | some e =>
    let s3 := (s2.wr (timKey R.TIM_PPS_PHASE) (ofSignedSat 32 e)).pushHist e
    let agree := consec && (match prevErr with | some p => decide ((e - p).natAbs ≤ s.agreeLim) | none => false)
    let meas := match prev, label with
      | some p, some l => (match p.label with
          | some l' => measAddend s.bus.addend ((l - l') * 4000000000) (cap - p.cap)
          | none => s.bus.addend)
      | _, _ => s.bus.addend
    if s.timSrc = 1 then s3
    else (s3.discipline prevErr e agree s.tim.armed meas
            (fun a st => { st with tim := { st.tim with armed := a } })).updateTeb

/-- PPS_EDGE (R53): an edge of the polarity TIM_CTRL.PPS_EDGE selects is captured; the first is the reference; one 0.999 s to
1.001 s after the previous edge seen is accepted; any other is rejected. -/
def execPpsEdge (dt : Nat) (rising : Bool) (s : State) : Res :=
  let s := s.tick dt
  .next (if s.bit (timKey R.TIM_CTRL) 3 = rising then s
    else
      let cap := s.bus.w250
      let s1 := (s.wr (timKey R.TIM_PPS_CAP_S) (stampW1 cap)).wr (timKey R.TIM_PPS_CAP_NS) (stampW0 cap)
      match s.tim.lastSeen with
      | none => { s1 with tim := { s1.tim with lastSeen := some cap } }
      | some p =>
        if 3996000000 ≤ cap - p ∧ cap - p ≤ 4004000000 then s1.acceptEdge cap
        else
          let s2 := { s1 with tim := { s1.tim with lastSeen := some cap, consecutive := false, armed := false } }
          (s2.addSat (timKey R.TIM_PPS_REJECTS) 1).raise timPage 1)

/-- PTP lock is lost: EV68; under source 1, and wherever more than 1.5 s have passed since the last accepted edge, LOCKED is
left (R57, R58). -/
def State.losePtpLock (s : State) : State :=
  if s.tim.ptpLocked then
    let s1 := ({ s with tim := { s.tim with ptpLocked := false, ptpCount := 0, ptpArmed := false } }).raise timPage 4
    if s1.timSrc = 1 ∨ (s1.timSrc = 2 ∧ (!s1.bus.running tPpsAbs || s1.due tPpsAbs) = true) then s1.leaveLocked else s1
  else { s with tim := { s.tim with ptpCount := 0, ptpArmed := false } }

/-- Whether a message is for the servo: PTP_EN, the selected port and domain (Table 2-9). -/
def State.ptpFor (s : State) (port domain : Nat) : Bool :=
  s.bit (timKey R.TIM_CTRL) 4 && decide (s.fld (timKey R.TIM_PTP_CTRL) 0 8 = domain)
    && decide (s.fld (timKey R.TIM_PTP_CTRL) 8 10 = port)

/-- PTP_SYNC (R57): the offset from master, corrected for the path delay, counts towards lock (8 in a row below TIM_STEP_THR)
and, where PTP disciplines the counter (source 1, or source 2 without PPS), acts by Table 2-5. PTP lock relocks HOLDOVER and
FREERUN (Table 2-6). -/
def execPtpSync (dt port domain : Nat) (offset : Int) (s : State) : Res :=
  let s := s.tick dt
  .next (if s.ptpFor port domain then
    let s1 := (s.wr (timKey R.TIM_PTP_OFFSET) (ofSignedSat 32 offset)).arm tPtpSync clk1500ms
    let below := decide (offset.natAbs < s.stepThr)
    let cnt := if below then min 8 (s.tim.ptpCount + 1) else 0
    let gained := decide (cnt = 8) && !s.tim.ptpLocked
    let prev := s.tim.ptpLast
    let cap := s.bus.w250
    let s2 := { s1 with tim := { s1.tim with ptpCount := cnt, ptpLocked := s.tim.ptpLocked || gained,
                                             ptpLast := some offset, ptpCap := cap } }
    let s3 := if gained then s2.raise timPage 4 else s2
    let agree := match prev with | some p => decide ((offset - p).natAbs ≤ s.agreeLim) | none => false
    let disc := decide (s.timSrc = 1) || (decide (s.timSrc = 2) && (!s.bus.running tPpsAbs || s.due tPpsAbs))
    if disc then
      let truth := ((cap : Int) - (s.tim.ptpCap : Int) - (offset - prev.getD offset)).toNat
      let s4 := (s3.pushHist offset).discipline prev offset agree s.tim.ptpArmed
        (measAddend s.bus.addend truth (cap - s.tim.ptpCap)) (fun a st => { st with tim := { st.tim with ptpArmed := a } })
      (if s4.tim.ptpLocked ∧ 2 ≤ s4.timState then s4.enterLocked else s4).updateTeb
    else (if s3.ptpCounts ∧ 2 ≤ s3.timState then s3.enterLocked.updateTeb else s3)
  else s)

/-- PTP_MESSAGE (R56, R57): an Announce with another grandmasterIdentity loses PTP lock; Follow_Up and Delay_Resp feed the
servo's offsets, which PTP_SYNC carries. -/
def execPtpMessage (dt port domain : Nat) (kind : PtpKind) (s : State) : Res :=
  let s := s.tick dt
  .next (match kind with
    | .announce gm =>
      if s.ptpFor port domain then
        let s1 := { s with tim := { s.tim with ptpGm := some gm } }
        if s.tim.ptpGm = some gm ∨ s.tim.ptpGm = none then s1 else s1.losePtpLock
      else s
    | .followUp => s
    | .delayResp => s)

/-- PTP_SYNC_TIMEOUT (R57): no Sync for 1.5 s; PTP lock is lost. -/
def execPtpSyncTimeout (dt : Nat) (s : State) : Res :=
  let s := s.tick dt
  .next (s.onExpiry tPtpSync State.losePtpLock)

/-- PPS_ABSENCE_TIMEOUT (R58): more than 1.5 s since the last accepted edge while PTP is not locked; LOCKED is left. Under
source 1 edges do not discipline the counter. -/
def execPpsAbsenceTimeout (dt : Nat) (s : State) : Res :=
  let s := s.tick dt
  .next (s.onExpiry tPpsAbs (fun s1 => if s1.timSrc = 1 ∨ s1.ptpCounts then s1 else s1.leaveLocked))

/-- TEB_UPDATE (R59). -/
def execTebUpdate (dt : Nat) (s : State) : Res := .next (s.tick dt).updateTeb

/-- HOLDOVER_LIMIT_REACHED (Table 2-6): E in HOLDOVER has reached TIM_HOLD_LIMIT (ms); FREERUN. -/
def execHoldoverLimitReached (dt : Nat) (s : State) : Res :=
  let s := s.tick dt
  let e := match s.teb with | some e => e | none => 0xFFFFFFFF
  .next (if s.timState = 2 ∧ s.rd (timKey R.TIM_HOLD_LIMIT) * 1000000 ≤ e then (s.setTimState 3).updateTeb else s)

/-- ESTEP_HOLD_EXPIRE (R19): W has passed the step instant plus TIM_STEP_HOLD; Estep is 0. -/
def execEstepHoldExpire (dt : Nat) (s : State) : Res :=
  let s := s.tick dt
  .next (if s.tim.estepEnd < s.bus.w250 then ({ s with tim := { s.tim with estep := 0 } }).updateTeb else s)

/-- TIM_NOW_SNAPSHOT (R51): the four TIM_NOW values are held for the requester. Requesters are VIs 0 to 1023, keepers from
1024 and workers from 2048. -/
def execTimNowSnapshot (dt req : Nat) (s : State) : Res :=
  let s := s.tick dt
  let w := s.bus.wall
  let sec := w / (2 ^ 48 * 1000000000)
  let old := s.tim.snaps.find ⟨0, 0, 0, 0, 0⟩ req
  let new : TimSnap :=
    { old with sHi := sec / 2 ^ 32 % 2 ^ 16, sLo := sec % 2 ^ 32, ns := w / 2 ^ 48 % 1000000000, frac := w / 2 ^ 32 % 65536 }
  .next { s with tim := { s.tim with snaps := s.tim.snaps.set req new } }

/-- TIM_PPS_CAP_SNAPSHOT (Table 2-8): TIM_PPS_CAP_NS is held for the requester. -/
def execTimPpsCapSnapshot (dt req : Nat) (s : State) : Res :=
  let s := s.tick dt
  let old := s.tim.snaps.find ⟨0, 0, 0, 0, 0⟩ req
  .next { s with tim := { s.tim with snaps := s.tim.snaps.set req { old with capNs := s.rd (timKey R.TIM_PPS_CAP_NS) } } }

/-! ## Reference inputs and PLLs -/

/-- The power domains whose work stops with a clock domain (Table 2-2). -/
def domsOfClk (clk : Nat) : List Nat :=
  match clk with
  | 0 => [10] | 1 => [11, 12, 13, 14, 15, 16, 17, 18] | 2 => [19, 20] | 3 => [21]
  | 4 => [2, 3, 4, 5, 6, 7, 8, 9] | 7 => [1] | 8 => [1] | 9 => [1] | _ => []

/-- TREF_IN_LOSS (R43): the PLL runs from REFCLK, FS8; HOLDOVER becomes FREERUN (Table 2-6). -/
def execTrefInLoss (dt : Nat) (s : State) : Res :=
  let s := s.tick dt
  let s1 := (s.setBit (timKey R.TIM_CTRL) 5 true).fault 8 { page := timPage }
  .next (if s1.timState = 2 then (s1.setTimState 3).updateTeb else s1)

/-- TREF_IN_RESTORED (R43): TREF_LOST reads 0 again. -/
def execTrefInRestored (dt : Nat) (s : State) : Res := .next ((s.tick dt).setBit (timKey R.TIM_CTRL) 5 false)

/-- REFCLK_LOSS (Table 2-1, Table 2-10): FS9; every REFCLK-derived domain stops. -/
def execRefclkLoss (dt : Nat) (s : State) : Res :=
  let s := s.tick dt
  let s1 := s.on (·.haltDoms [10, 11, 12, 13, 14, 15, 16, 17, 18, 19, 20, 21, 2, 3, 4, 5, 6, 7, 8, 9])
  .next (({ s1 with tim := { s1.tim with refLost := true } }).fault 9 { page := timPage })

/-- PCIE_REFCLK_LOSS (Table 2-10): FS10; the PCIe VIs lose access. -/
def execPcieRefclkLoss (dt : Nat) (s : State) : Res :=
  let s := s.tick dt
  .next ((s.on (fun b => { b with pcieUp := false })).fault 10 { page := timPage })

/-- XTAL32K_LOSS (Table 2-10): FS11; AON runs from CTL ÷ 30,518 while CTL runs. -/
def execXtal32kLoss (dt : Nat) (s : State) : Res :=
  let s := s.tick dt
  .next (({ s with tim := { s.tim with xtalLost := true } }).fault 11 { page := timPage })

/-- PLL_UNLOCK (R47): the domain runs on its standby with FS12, or, with no standby locked, stops with FS15. -/
def execPllUnlock (dt clk : Nat) (s : State) : Res :=
  let s := s.tick dt
  .next (if s.tim.noStandby.contains clk
    then (s.on (·.haltDoms (domsOfClk clk))).fault 15 { page := timPage, addr := clk }
    else ({ s with tim := { s.tim with noStandby := clk :: s.tim.noStandby } }).fault 12 { page := timPage, addr := clk })

/-- PLL_STANDBY_RESTORED (R47): the recalibrated PLL is the standby again; EV70. -/
def execPllStandbyRestored (dt clk : Nat) (s : State) : Res :=
  let s := s.tick dt
  .next (if s.tim.noStandby.contains clk
    then ({ s with tim := { s.tim with noStandby := s.tim.noStandby.filter (· != clk) } }).raise timPage 6
    else s)

/-! ## General timers -/

def gptKey (n off : Nat) : Nat := rk (gptPage n) off
def State.gptAt (s : State) (n : Nat) : Gpt := s.gpt.find Gpt.init n
def State.setGpt (s : State) (n : Nat) (g : Gpt) : State := { s with gpt := s.gpt.put Gpt.init n g }

/-- The count of GPT n (Table 2-11). -/
def State.gptCount (s : State) (n : Nat) : Nat := s.rd (gptKey n R.GPT_COUNT_LO) + s.rd (gptKey n R.GPT_COUNT_HI) * 2 ^ 32

def State.setGptCount (s : State) (n c : Nat) : State :=
  (s.wr (gptKey n R.GPT_COUNT_LO) (c % 2 ^ 32)).wr (gptKey n R.GPT_COUNT_HI) (c / 2 ^ 32)

/-- Whether a count lies in the compare window [CMP, CMP + H) modulo N (R67); a CMP above RELOAD never matches (R66). -/
def inWindow (reload cmp c : Nat) : Bool :=
  decide (cmp ≤ reload) && decide ((c + (reload + 1) - cmp) % (reload + 1) < (reload + 1) / 2) && decide (c ≤ reload)

/-- `k` increments of a count that wraps after RELOAD; a count above RELOAD goes to 0 at its next increment (R65, R66). -/
def countOn (reload c k : Nat) : Nat :=
  if k = 0 then c else if reload < c then (k - 1) % (reload + 1) else (c + k) % (reload + 1)

/-- The compare fires: CMP_HIT, EV96 + 2n, and a wake where PWR_WAKE_GPT names the timer (R67, R410). -/
def State.gptFire (s : State) (n : Nat) : State :=
  let s1 := (s.setBit (gptKey n R.GPT_STATUS) 0 true).raise (gptPage n) 0
  if s1.bit (pwrKey R.PWR_WAKE_GPT) n then s1.wake 6 else s1

/-- `ticks` input ticks reach the prescaler (R65); the compare fires when the count enters its window (R67). -/
def State.gptAdvance (s : State) (n ticks : Nat) : State :=
  let g := s.gptAt n
  let p := max 1 (s.rd (gptKey n R.GPT_PRESCALE))
  let acc := g.acc + ticks * 0x10000
  let c := s.gptCount n
  let c' := countOn g.reload c (acc / p)
  let s1 := (s.setGpt n { g with acc := acc % p }).setGptCount n c'
  if inWindow g.reload g.cmp c' && !inWindow g.reload g.cmp c then s1.gptFire n else s1

/-- Whether the timers run from AON: debug halt of the active keeper, or the CTL domain in Sleep or Deep (R68, R404). -/
def State.gptCoarse (s : State) : Bool :=
  s.bit (rk s.bus.keeperPage R.KPR_STATUS) 3 || decide (s.pwrState = 2) || decide (s.pwrState = 3)

/-- GPT_CTRL.SRC, with 5 to 7 treated as 0 (Table 2-12). -/
def State.gptSrc (s : State) (n : Nat) : Nat := let v := s.fld (gptKey n R.GPT_CTRL) 2 3; if 4 < v then 0 else v

/-- LOWRES and HELD follow the coarse mode as R68 sets out. -/
def State.gptModes (s : State) : State :=
  (List.range 32).foldl (fun a n =>
    let k := gptKey n R.GPT_STATUS
    if s.gptCoarse ∧ a.bit (gptKey n R.GPT_CTRL) 0 then
      (if a.gptSrc n = 4 then a.setBit k 4 true else a.setBit k 3 true)
    else (a.setBit k 3 false).setBit k 4 false) s

/-- GPT_INPUT_TICK (R65): a tick of source `src` reaches an enabled timer that selects it; for SRC = 4 the pin and edge must
be the selected ones and the pin's claim held (R70). In the coarse mode no tick counts (R68). -/
def execGptInputTick (dt n src pin : Nat) (rising : Bool) (s : State) : Res :=
  let s := s.tick dt
  let k := gptKey n R.GPT_CTRL
  let edge := s.fld k 8 2
  let pinOk := decide (s.fld k 5 3 = pin) && !s.bit (gptKey n R.GPT_STATUS) 5
    && (decide (2 ≤ edge) || (decide (edge = 0) && rising) || (decide (edge = 1) && !rising))
  .next (if s.bit k 0 ∧ s.gptSrc n = src ∧ s.gptCoarse = false ∧ (src ≠ 4 ∨ pinOk = true) then s.gptAdvance n 1 else s)

/-- A commit of CMP or RELOAD: a CMP above RELOAD is a configuration error; a count already in the window fires at once
(R66, R67). -/
def State.gptCommit (s : State) (n : Nat) (g : Gpt) : State :=
  let s1 := s.setGpt n g
  if g.reload < g.cmp then s1.cfgErr (gptPage n)
  else if inWindow g.reload g.cmp (s1.gptCount n) then s1.gptFire n else s1

/-- GPT_CMP_LO_WRITE (R66, R67). -/
def execGptCmpLoWrite (dt vi n value : Nat) (s : State) : Res :=
  .next ((s.tick dt).guardWrite vi (gptPage n) (fun s =>
    let s1 := s.wr (gptKey n R.GPT_CMP_LO) value
    s1.gptCommit n { s1.gptAt n with cmp := value % 2 ^ 32 + s1.rd (gptKey n R.GPT_CMP_HI) * 2 ^ 32 }))

/-- GPT_RELOAD_LO_WRITE (R65, R66): a RELOAD of 0 is clamped to 1. -/
def execGptReloadLoWrite (dt vi n value : Nat) (s : State) : Res :=
  .next ((s.tick dt).guardWrite vi (gptPage n) (fun s =>
    let r := value % 2 ^ 32 + s.rd (gptKey n R.GPT_RELOAD_HI) * 2 ^ 32
    let lo := if r = 0 then 1 else value
    let s1 := s.wr (gptKey n R.GPT_RELOAD_LO) lo
    let s2 := if r = 0 then s1.cfgErr (gptPage n) else s1
    s2.gptCommit n { s2.gptAt n with reload := max 1 r }))

/-- GPT_CLEAR (Table 2-12): the count and the prescaler accumulator go to 0. -/
def execGptClear (dt vi n : Nat) (s : State) : Res :=
  .next ((s.tick dt).guardWrite vi (gptPage n) (fun s => (s.setGpt n { s.gptAt n with acc := 0 }).setGptCount n 0))

/-- The claim slot of GPT_IN pin i (assumption log 6). -/
def gptInSlot (i : Nat) : Nat := i

/-- A write of GPT_CTRL (R70, Table 2-12): enabling a timer that uses a GPT_IN pin claims it, or sets CLAIM_CONFLICT; disabling
releases. -/
def State.writeGptCtrl (s : State) (n ctrl : Nat) : State :=
  let k := gptKey n R.GPT_CTRL
  let was := s.bit k 0
  let s1 := s.wr k (maskOf 0x00FFFFFD ctrl)
  let s2 := if bitOf 1 ctrl then (s1.setGpt n { s1.gptAt n with acc := 0 }).setGptCount n 0 else s1
  if !bitOf 0 ctrl then
    (if was then (s2.on (·.releaseClaims (gptPage n))).setBit (gptKey n R.GPT_STATUS) 5 false else s2)
  else if was then s2
  else
    let need := (if s2.gptSrc n = 4 then [gptInSlot (fieldOf 5 3 ctrl)] else [])
      ++ (if bitOf 10 ctrl ∧ bitOf 11 ctrl = false then [gptInSlot (fieldOf 12 3 ctrl)] else [])
    let ok := need.all (fun sl => s2.bus.mayClaim sl (fnCode (gptPage n)))
    (need.foldl (fun a sl => a.on (·.claim (gptPage n) sl)) s2).setBit (gptKey n R.GPT_STATUS) 5 (!ok)

/-- GPT_ENABLE (R70): a write of GPT_CTRL. -/
def execGptEnable (dt vi n ctrl : Nat) (s : State) : Res :=
  .next ((s.tick dt).guardWrite vi (gptPage n) (fun s => s.writeGptCtrl n ctrl))

/-- A capture loads the count, sets CAP_NEW and raises EV97 + 2n; `ovr` says it replaced an unread one (R69). -/
def State.gptCapture (s : State) (n : Nat) (ovr : Bool) : State :=
  let c := s.gptCount n
  let s1 := (s.setGpt n { s.gptAt n with cap := c }).wr (gptKey n R.GPT_CAP_LO) (c % 2 ^ 32)
  let s2 := if ovr then s1.setBit (gptKey n R.GPT_STATUS) 2 true else s1
  (s2.setBit (gptKey n R.GPT_STATUS) 1 true).raise (gptPage n) 1

/-- GPT_CAPTURE (R69): the capture source is GPT_IN pin `src`, or event `src - 8`. -/
def execGptCapture (dt n src : Nat) (s : State) : Res :=
  let s := s.tick dt
  let k := gptKey n R.GPT_CTRL
  let hit := if s.bit k 11 then decide (s.fld k 15 9 + 8 = src)
    else decide (s.fld k 12 3 = src) && !s.bit (gptKey n R.GPT_STATUS) 5
  .next (if s.bit k 10 ∧ hit = true then s.gptCapture n (s.bit (gptKey n R.GPT_STATUS) 1) else s)

/-- GPT_CAP_LO_READ (R69): the low word is returned; for an owner the high word is snapshot and CAP_NEW cleared. `meets` says
that a capture falls in the same cycle: it goes into the next value and CAP_NEW stays set. -/
def execGptCapLoRead (dt vi n : Nat) (meets : Bool) (s : State) : Res :=
  let s := s.tick dt
  .next (if s.bus.pageAccess (gptPage n) vi = 0 then s.emit (.readData vi 0)
    else if !s.bus.pageUp (gptPage n) then (s.on (·.late vi)).emit (.readData vi 0xFFFFFFFF)
    else
      let g := s.gptAt n
      let s1 := s.emit (.readData vi (g.cap % 2 ^ 32))
      if s.bus.pageAccess (gptPage n) vi = 1 then s1
      else
        let s2 := (s1.wr (gptKey n R.GPT_CAP_HI) (g.cap / 2 ^ 32)).setBit (gptKey n R.GPT_STATUS) 1 false
        if meets then s2.gptCapture n false else s2)

/-- GPT_AON_UPDATE (R68): in the coarse mode an enabled timer with SRC 0 to 3 takes the ticks of one AON period, with LOWRES
set; with SRC = 4 it holds, with HELD set. -/
def execGptAonUpdate (dt n ticks : Nat) (s : State) : Res :=
  let s := s.tick dt
  .next (if s.gptCoarse ∧ s.bit (gptKey n R.GPT_CTRL) 0 then
    (if s.gptSrc n = 4 then s.setBit (gptKey n R.GPT_STATUS) 4 true
     else (s.setBit (gptKey n R.GPT_STATUS) 3 true).gptAdvance n ticks)
  else s)

end Sys2Proof.Machine
end

