-- ==== Sys2Proof/Machine/Ports.lean ====
section
/-! DEFINITION. Ports (R99 to R110, R122 to R126, R150): the data ports' links, their ingress order and priority flow control, and
the management ports. -/

namespace Sys2Proof.Machine

def vimKey (off : Nat) : Nat := rk vimPage off

/-! ## Management ports (R107, R125, R126) -/

/-- MDIO_FRAME_START (R125): a write of MGT_MDIO puts the frame on the bus and sets MDIO_BUSY. -/
def execMdioFrameStart (dt vi value : Nat) (s : State) : Res :=
  let s := s.tick dt
  .next (s.guardWrite vi vimPage (fun s =>
    ((s.wr (vimKey R.MGT_MDIO) (value % 2 ^ 32)).setBit (vimKey R.MGT_STATUS) 2 true).emit (.mdio (value % 2 ^ 32))))

/-- Whether an MDIO operation reads: Clause 22 operation 2, Clause 45 operations 2 and 3 (assumption log 13). -/
def mdioReads (w : Nat) : Bool := decide (fieldOf 10 2 w = 2) || (bitOf 12 w && decide (fieldOf 10 2 w = 3))

/-- MDIO_FRAME_COMPLETE (R125): the frame ends; read data is stored and MDIO_BUSY clears. -/
def execMdioFrameComplete (dt data : Nat) (s : State) : Res :=
  let s := s.tick dt
  .next (if s.bit (vimKey R.MGT_STATUS) 2 then
    (if mdioReads (s.rd (vimKey R.MGT_MDIO)) then s.setFld (vimKey R.MGT_MDIO) 16 16 data else s).setBit (vimKey R.MGT_STATUS) 2 false
  else s)

/-- MGT_LINK_CHANGE (R126): a management port's link goes up or down; EV10. -/
def execMgtLinkChange (dt m : Nat) (up : Bool) (s : State) : Res :=
  let s := s.tick dt
  .next (if m < 2 ∧ s.bit (vimKey R.MGT_STATUS) m ≠ up then (s.setBit (vimKey R.MGT_STATUS) m up).raise vimPage 6 else s)

/-- MGT_ENERGY_WAKE (R410): energy on a management receive pair is wake source 3 (Table 14-5). -/
def execMgtEnergyWake (dt m : Nat) (s : State) : Res :=
  let s := s.tick dt
  .next (if m < 2 then s.wake 3 else s)

/-- The base MAC address, and the IPv4 and IPv6 addresses of management port 0 or 1 or of the in-band address, 2 (Table 4-8). -/
def State.mgtMac (s : State) (i : Nat) : Nat :=
  (s.fld (vimKey R.MGT_MAC_HI) 0 16 * 2 ^ 32 + s.rd (vimKey R.MGT_MAC_LO) + i) % 2 ^ 48
def State.mgtIp4 (s : State) (i : Nat) : Nat := s.rd (rkSel vimPage R.MGT_ADDR_DATA i)
def State.mgtIp6 (s : State) (i : Nat) : Nat :=
  (List.range 4).foldl (fun a w => a + s.rd (rkSel vimPage R.MGT_ADDR_DATA (i + 4 * w + 16)) * 2 ^ (32 * w)) 0

/-- Whether a frame is ARP or neighbour discovery for one of the device's own addresses (R107). -/
def State.isResolve (s : State) (i : Nat) (l : List Byte) : Bool :=
  let p := parseFrame l
  if p.etype = 0x0806 then decide (s.mgtIp4 i ≠ 0) && decide (beAt l (p.l3 + 24) 4 = s.mgtIp4 i)
  else if p.etype = 0x86DD then
    decide (beAt l (p.l3 + 6) 1 = 58) && [135, 136].contains (beAt l (p.l3 + 40) 1) && decide (s.mgtIp6 i ≠ 0)
      && decide (beAt l (p.l3 + 48) 16 = s.mgtIp6 i)
  else false

/-- Whether a frame is IP for one of the device's own addresses, and is echo, PTP or TCP to the session port (R107). -/
def State.isOwnIp (s : State) (i : Nat) (l : List Byte) : Bool :=
  let p := parseFrame l
  let v4 := decide (p.etype = 0x0800) && decide (s.mgtIp4 i ≠ 0) && decide (beAt l (p.l3 + 16) 4 = s.mgtIp4 i)
  let v6 := decide (p.etype = 0x86DD) && decide (s.mgtIp6 i ≠ 0) && decide (beAt l (p.l3 + 24) 16 = s.mgtIp6 i)
  let proto := if v4 then beAt l (p.l3 + 9) 1 else beAt l (p.l3 + 6) 1
  let l4 := if v4 then p.l3 + 4 * (beAt l p.l3 1 % 16) else p.l3 + 40
  (v4 || v6) && ((v4 && decide (proto = 1) && decide (beAt l l4 1 = 8)) || (v6 && decide (proto = 58) && decide (beAt l l4 1 = 128))
    || (decide (proto = 6) && decide (beAt l (l4 + 2) 2 = s.fld (vimKey R.VIM_NET_CTRL) 0 16)))

/-- Whether a frame is one that the management ports terminate (R107). -/
def State.mgtAccepts (s : State) (m : Nat) (l : List Byte) : Bool :=
  let p := parseFrame l
  (!p.tagged || decide (p.vid = s.fld (vimKey R.MGT_VLAN) 0 12))
    && (decide (p.etype = 0x88CC) || s.isResolve m l || s.isOwnIp m l
        || (match udpKey l with | some u => decide (u.port = 319) || decide (u.port = 320) | none => false))

/-- MGT_FRAME_RX (R107): a frame on an enabled management port with link terminates in the device, handed to the keeper, or is
discarded and counted. -/
def execMgtFrameRx (dt m : Nat) (frame : List Byte) (s : State) : Res :=
  let s := s.tick dt
  .next (if m < 2 ∧ s.bit (vimKey R.MGT_CTRL) m = true ∧ s.bit (vimKey R.MGT_STATUS) m = true then
    (if s.mgtAccepts m frame then s.emit (.keeperFrame (512 + m) frame) else s.addSat (vimKey R.MGT_DROPS) 1)
  else s)

/-! ## Links (R99 to R102, R126, R150) -/

/-- SPEED of a rate in units of 100 Gbit/s (Table 4-6). -/
def speedCode (rate : Nat) : Nat := match rate with | 1 => 1 | 2 => 2 | 4 => 3 | _ => 4

/-- LINK_UP (R101): an active, enabled port whose lane die is up completes what its PMD asks for; EV160. -/
def execLinkUp (dt port : Nat) (s : State) : Res :=
  let s := s.tick dt
  let k := prtKey port R.PRT_STATUS
  .next (if port < 512 ∧ s.bit (prtKey port hdrPageStatus) 0 = true ∧ s.bit k 3 = true ∧ s.bit k 0 = false
      ∧ s.bus.domUp (laneDom port) = true then
    (((s.setBit k 0 true).setBit k 1 (decide (s.fld (prtKey port R.PRT_CTRL) 0 2 < 2) && s.bit (prtKey port R.PRT_CTRL) 2)).setFld
      k 4 3 (speedCode (s.portRate port))).raise (prtPage port) 0
  else s)

/-- AN_TRAINING_FAIL (R101): EV164. -/
def execAnTrainingFail (dt port : Nat) (s : State) : Res :=
  let s := s.tick dt
  .next (if port < 512 ∧ s.bit (prtKey port hdrPageStatus) 0 = true ∧ s.bit (prtKey port R.PRT_STATUS) 3 = true
    then s.raise (prtPage port) 4 else s)

/-- Pause timers (R106), and the refresh of a requested XOFF (R105). -/
def tPfc (port cls : Nat) : Nat := timerId 6 (port * 8 + cls)
def tXoff (port : Nat) : Nat := timerId 8 port

/-- Discard everything in a port's wells: counted per class, EV187 (R150). -/
def State.flushPort (s : State) (p : Nat) : State :=
  let l := (List.range 32).flatMap (fun i => s.queue (p * 32 + i))
  let s1 := l.foldl (fun a x => ((a.takeOut x).cisCount x.copy.out R.CIS_CNT_FLUSH x.copy.k x.copy.cls).gone x.pkt (queueOf x.copy)) s
  let s2 := match s1.fab.sending.find? p with
    | some t =>
      let s3 := { s1 with fab := { s1.fab with sending := s1.fab.sending.erase p } }
      if s.bus.now * 2000 < t.till then s3.cisCount (p / 8) R.CIS_CNT_FLUSH (p % 8) t.cls else s3
    | none => s1
  s2.raise (cisPage (p / 8)) 7

/-- Copies that have left their queue do not take the rest of their cells. -/
def State.killLegs (s : State) (f : Copy → Nat → Bool) : State :=
  { s with fab := { s.fab with stage := ⟨s.fab.stage.cells.map (fun (x : Nat × List Transit) => (x.1, x.2.map (fun (t : Transit) =>
    { t with copies := t.copies.map (fun (c : TCopy) =>
        if decide (c.leg ≠ .waiting) && f c.copy t.pkt.id then { c with leg := .dead } else c) })))⟩ } }

/-- A link goes down: EV161, the wells are flushed (R150), pauses end, and PTP lock on this port is lost (R57). -/
def State.linkDown (s : State) (p : Nat) : State :=
  let k := prtKey p R.PRT_STATUS
  if s.bit k 0 then
    let s1 := (((s.setBit k 0 false).setBit k 1 false).setFld k 4 3 0).raise (prtPage p) 1
    let s2 := (s1.flushPort p).killLegs (fun c _ => decide (c.dest = .port p))
    let s3 := (List.range 7).foldl (fun a c => a.disarm (tPfc p c)) s2
    if s3.fld (timKey R.TIM_PTP_CTRL) 8 10 = p then s3.losePtpLock else s3
  else s

/-- LINK_DOWN (R150). -/
def execLinkDown (dt port : Nat) (s : State) : Res :=
  let s := s.tick dt
  .next (if port < 512 then s.linkDown port else s)

/-- SERDES_FAILURE (R126): FS32, and the port's link goes down. -/
def execSerdesFailure (dt port : Nat) (s : State) : Res :=
  let s := s.tick dt
  .next (if port < 512 then (s.fault 32 { page := prtPage port }).linkDown port else s)

/-- FEC_DEG_WINDOW (R102): the end of a 1 ms window with `symbols` corrected symbols in `codewords` codewords. -/
def execFecDegWindow (dt port symbols codewords : Nat) (s : State) : Res :=
  let s := s.tick dt
  let k := prtKey port R.PRT_STATUS
  .next (if port < 512 ∧ s.bit k 0 = true then
    let s1 := s.addSat (prtKey port R.PRT_FEC_CORR) codewords
    if s.fld (prtKey port R.PRT_FEC_DEG) 0 24 < symbols then (s1.setBit k 2 true).raise (prtPage port) 2 else s1.setBit k 2 false
  else s)

/-! ## Priority flow control (R105, R106) -/

/-- Quanta in clocks, rounded up, at the port's rate: one is 512 bit times. -/
def State.quantaClk (s : State) (p q : Nat) : Nat := ceilDiv (q * 5120) (2000 * s.portRate p)

/-- PFC_PAUSE_EXPIRE (R106): the class resumes. -/
def execPfcPauseExpire (dt port cls : Nat) (s : State) : Res :=
  .next ((s.tick dt).onExpiry (tPfc port cls) (fun s => s))

/-- Send an XOFF for the classes the budget scheduler asks for and TX_EN admits, and start the half of its pause (R105); none
before SERVICE_READY (R122). -/
def State.sendXoff (s : State) (p : Nat) : State :=
  let mask := s.fab.pfcReq.find 0 p &&& s.fld (prtKey p R.PRT_PFC) 8 7
  let q := s.fld (prtKey p R.PRT_PFC) 16 16
  if mask = 0 ∨ s.portUp p = false ∨ s.serviceReady = false then s
  else (s.sendFrame p (pfcFrame (s.portMac p) mask q)).arm (tXoff p) (s.quantaClk p q / 2)

/-- PFC_XOFF_REFRESH (R105): while a request stands the port repeats XOFF. -/
def execPfcXoffRefresh (dt port : Nat) (s : State) : Res :=
  .next ((s.tick dt).onExpiry (tXoff port) (fun s => s.sendXoff port))

/-- The budget scheduler's request for a port changes (R105): an XOFF for what is asked, quanta 0 for what is lifted. -/
def State.setPfcReq (s : State) (p req : Nat) : State :=
  let old := s.fab.pfcReq.find 0 p
  let lifted := (old &&& s.fld (prtKey p R.PRT_PFC) 8 7) &&& (127 - req % 128)
  let s1 := { s with fab := { s.fab with pfcReq := s.fab.pfcReq.put 0 p (req % 128) } }
  let s2 := if lifted = 0 ∨ s1.portUp p = false ∨ s1.serviceReady = false then s1
    else s1.sendFrame p (pfcFrame (s1.portMac p) lifted 0)
  if req % 128 = 0 then s2.disarm (tXoff p) else if req % 128 = old then s2 else s2.sendXoff p

/-- A received MAC control frame (R106): PFC pauses the named classes with RX_EN; one that names none of them, and every PAUSE,
is counted and raises EV165. None is forwarded. -/
def State.pfcRx (s : State) (p : Nat) (l : List Byte) : State :=
  let vec := beAt l 16 2
  let named := (List.range 7).filter (fun c => bitOf c vec && s.bit (prtKey p R.PRT_PFC) c)
  if beAt l 14 2 = 0x0101 ∧ named ≠ [] then
    named.foldl (fun a c =>
      let q := beAt l (18 + 2 * c) 2
      if q = 0 then a.disarm (tPfc p c) else a.arm (tPfc p c) (s.quantaClk p q)) s
  else (s.addSat (prtKey p R.PRT_PAUSE_IGN) 1).raise (prtPage p) 5

/-! ## Ingress (R108 to R110, R122) -/

/-- What the ingress order makes of a frame (Table 4-3). -/
inductive Ingress where
  | bootDrop | pfc | lldp | reserved | vlanDrop | ptp | snoop | inBand | lookup
  deriving DecidableEq, Repr

/-- The VLAN and the PCP of a frame at a port (R104, R109). -/
def State.frameVlan (s : State) (port : Nat) (p : Parsed) : Nat :=
  if p.tagged ∧ p.vid ≠ 0 then p.vid else s.fld (prtKey port R.PRT_PVID) 0 12
def State.framePcp (s : State) (port : Nat) (p : Parsed) : Nat :=
  if p.tagged then p.pcp else s.fld (prtKey port R.PRT_PVID) 12 3

/-- Whether a frame is for the in-band address on MGT_VLAN (step 8). -/
def State.isInBand (s : State) (vlan : Nat) (l : List Byte) : Bool :=
  decide (vlan = s.fld (vimKey R.MGT_VLAN) 0 12) && (decide ((parseFrame l).dst = s.mgtMac 2) || s.isResolve 2 l)

/-- The first step of Table 4-3 that disposes of a frame. Before SERVICE_READY the port admits only what R122 lists; frames on
MGT_VLAN are then handled at steps 8 to 10. -/
def State.classify (s : State) (port : Nat) (l : List Byte) : Ingress :=
  let p := parseFrame l
  let vlan := s.frameVlan port p
  let ptp := s.bit (prtKey port R.PRT_CTRL) 3 && isPtp l (s.fld (timKey R.TIM_PTP_CTRL) 0 8)
  let onMgt := decide (vlan = s.fld (vimKey R.MGT_VLAN) 0 12)
  let toVal := match s.lookup l vlan with | some (_, e) => decide (e.kind = 4) | none => false
  let late := fun (_ : Unit) => if s.isInBand vlan l then Ingress.inBand else .lookup
  if !s.serviceReady && !(ptp || decide (p.etype = 0x88CC) || onMgt || toVal) then .bootDrop
  else if !s.serviceReady && onMgt then late ()
  else if p.dst = 0x0180C2000001 ∧ p.etype = 0x8808 then .pfc
  else if p.etype = 0x88CC then .lldp
  else if 0x0180C2000000 ≤ p.dst ∧ p.dst ≤ 0x0180C200000F then .reserved
  else if s.bit (prtKey port R.PRT_CTRL) 10 && !s.bit (prtKey port (R.PRT_VLAN_IN + 4 * (vlan / 32))) (vlan % 32) then .vlanDrop
  else if ptp then .ptp
  else if s.bit (prtKey port R.PRT_CTRL) 4 && isSnooped l then .snoop
  else late ()

/-- The ingress stamp Ta: the raw stamp less PRT_TS_RX_LAT (R60). -/
def State.rxStamp (s : State) (port : Nat) : Nat :=
  ((s.bus.w250 : Int) - signedOf 16 (s.fld (prtKey port R.PRT_TS_RX_LAT) 0 16)).toNat

/-- A frame as a data port hands it on, charged PRT_MTU in cells (R142). -/
def State.inFrame (s : State) (port : Nat) (l : List Byte) (bad : Bool) : InFrame :=
  let p := parseFrame l
  let pcp := s.framePcp port p
  { bytes := l, port := port, inp := port / 8, ta := s.rxStamp port, known := decide (s.timState ≠ 0), tcKeep := none,
    vlan := s.frameVlan port p, pcp := pcp, dei := p.tagged && p.dei, cls := s.fld (prtKey port R.PRT_PCP_MAP) (3 * pcp) 3,
    charge := ceilDiv (s.fld (prtKey port R.PRT_MTU) 0 14) 256, rate := s.portRate port, bad := bad }

/-- Carry out what `classify` found (R108). Snooped frames and PTP go to engines whose own commands follow. -/
def State.ingress (s : State) (port : Nat) (l : List Byte) : State :=
  let f := s.inFrame port l false
  match s.classify port l with
  | .bootDrop => (s.addSat (prtKey port R.PRT_BOOT_DROP) 1).raise (prtPage port) 7
  | .pfc => s.pfcRx port l
  | .lldp => s.trap f
  | .reserved => s.addSat (prtKey port R.PRT_PARSE_DROP) 1
  | .vlanDrop => (s.addSat (prtKey port R.PRT_VLAN_DROP) 1).raise (prtPage port) 6
  | .ptp => s
  | .snoop => s
  | .inBand => s.plainCopies f [copyKeeper f.cls]
  | .lookup => s.forward f

/-- FRAME_RX (R102, R103, R108): a frame that fails a check is counted and discarded, freeing the cells its first part may
already hold (R142); every other frame goes through the ingress order. -/
def execFrameRx (dt port : Nat) (frame : RxFrame) (s : State) : Res :=
  let s := s.tick dt
  let len := frameLen frame.bytes
  let begun := fun (s : State) =>
    if frame.begun ∧ s.classify port frame.bytes = .lookup then s.forward (s.inFrame port frame.bytes true) else s
  .next (if port < 512 ∧ s.portUp port = true then
    (if !frame.fecOk then begun ((s.addSat (prtKey port R.PRT_FEC_UNCORR) 1).raise (prtPage port) 3)
     else if len < 64 then s.addSat (prtKey port R.PRT_RUNT) 1
     else if s.fld (prtKey port R.PRT_MTU) 0 14 < len then begun (s.addSat (prtKey port R.PRT_OVERSIZE) 1)
     else if !frame.fcsOk then begun (s.addSat (prtKey port R.PRT_FCS_ERR) 1)
     else ((s.add64 (prtKey port R.PRT_RX_FRAMES_LO) 1).add64 (prtKey port R.PRT_RX_BYTES_LO) len).ingress port frame.bytes)
  else s)

end Sys2Proof.Machine
end

