-- ==== Sys2Proof/Machine/Switch.lean ====
section
/-! DEFINITION. The crossbar, its planes and the ports' schedulers (R127 to R165): the meanings of the commands of chapter 05 and
of the wells' side of chapter 06. -/

namespace Sys2Proof.Machine

/-! ## Planes (R130 to R133) -/

/-- The isolated plane, if any. -/
def State.isoPlane (s : State) : Option Nat :=
  if s.bit (fabKey R.FAB_STATUS) 9 then some (s.fld (fabKey R.FAB_STATUS) 10 4) else none

/-- A plane meets an isolation condition: its isolation is decided, or, with another plane isolated or about to be, FS43 halts
the fabric (R132, R133). -/
def State.planeCondition (s : State) (p : Nat) : State :=
  if s.isoPlane = some p ∨ s.fab.isoPend = some p then s
  else match s.isoPlane, s.fab.isoPend with
    | none, none => { s with fab := { s.fab with isoPend := some p } }
    | _, _ => (s.fault 43 { page := fabPage, engine := p }).on (·.haltDoms [10])

/-- A slice error on a plane: with PLANE_AUTO, SLICE_THR of them within 1 ms decide its isolation (R132). -/
def State.sliceError (s : State) (p : Nat) : State :=
  let l := s.bus.now :: (s.fab.sliceErr.find [] p).filter (fun t => decide (s.bus.now < t + clkMs 1))
  let s1 := { s with fab := { s.fab with sliceErr := s.fab.sliceErr.put [] p l } }
  if s1.bit (fabKey R.FAB_CTRL) 1 && decide (s1.fld (fabKey R.FAB_CTRL) 8 8 ≤ l.length) then s1.planeCondition p else s1

/-- What slice failures do to a cell (R131): 0 intact, 1 rebuilt, 2 lost. -/
def cellFate (iso : Option Nat) (bad : List Nat) : Nat :=
  let b := (bad.filter (fun p => decide (p < 9) && decide (iso ≠ some p))).eraseDups
  if b = [] then 0 else if iso = none ∧ b.length = 1 then 1 else 2

/-- PLANE_FORCE (R132): a write of FAB_PLANE_FORCE with ISOLATE isolates the named plane. -/
def execPlaneForce (dt vi value : Nat) (s : State) : Res :=
  let s := s.tick dt
  .next (s.guardWrite vi fabPage (fun s =>
    if bitOf 8 value ∧ value % 16 < 9 then s.planeCondition (value % 16) else s))

/-- PLANE_ISOLATION_COMPLETE (R132): every output treats the plane as erased; FS40, EV180. -/
def execPlaneIsolationComplete (dt : Nat) (s : State) : Res :=
  let s := s.tick dt
  .next (match s.fab.isoPend with
    | none => s
    | some p =>
      let k := fabKey R.FAB_STATUS
      let s1 := { s with fab := { s.fab with isoPend := none } }
      ((((((s1.setBit k p false).setBit k 9 true).setFld k 10 4 p).setBit k 14 false).fault 40
        { page := fabPage, engine := p }).raise fabPage 0))

/-! ## Matching (R136 to R138) -/

/-- A request: input, output, flags F and K, and the packet whose next cell it is for. -/
structure Req where
  inp : Nat
  out : Nat
  f : Bool
  k : Bool
  id : Nat
  cell : Nat
  deriving DecidableEq, Repr

/-- A packet's next cell for an output, if it has one left. -/
def Transit.reqFor (t : Transit) (inp out : Nat) (wantF : Bool) : Option Req :=
  match t.copies.find? (fun c => decide (c.copy.out = out) && decide (c.sent < t.cells) && decide ((c.copy.cls = 7) = (wantF = true))) with
  | some c => some ⟨inp, out, wantF, t.copies.any (fun x => decide (x.copy.out = out) && decide (x.leg = .sending)), t.pkt.id, c.sent⟩
  | none => none

/-- The request of an input for an output: its oldest class F cell for it, else its oldest other cell (R134, R137). -/
def reqOf (l : List Transit) (inp out : Nat) : Option Req :=
  match l.findSome? (fun t => t.reqFor inp out true) with
  | some r => some r
  | none => l.findSome? (fun t => t.reqFor inp out false)

/-- Every request of a cell time. -/
def State.requests (s : State) : List Req :=
  s.fab.stage.cells.flatMap (fun (x : Nat × List Transit) =>
    ((x.2.flatMap (fun t => t.copies.map (fun c => c.copy.out))).eraseDups).filterMap (fun o => reqOf x.2 x.1 o))

/-- Choose among requests: those with F first, then those with K where `useK`, each time the next after a pointer. -/
def pickReq (l : List Req) (useK : Bool) (ptr : Nat) (by' : Req → Nat) : Option Req :=
  let c := if l.any (·.f) then l.filter (·.f) else if useK && l.any (·.k) then l.filter (·.k) else l
  let d := fun (r : Req) => (by' r + 72 - ptr % 72) % 72
  c.foldl (fun acc r => match acc with | none => some r | some a => if d r < d a then some r else some a) none

/-- One iteration of request, grant and accept among the unmatched (R137); a multicast cell takes every grant offered for it
(R138). `first` moves the pointers. -/
def matchIter (reqs : List Req) (first : Bool) (st : List Req × SMap Nat × SMap Nat) : List Req × SMap Nat × SMap Nat :=
  let done := st.1
  let openReqs := reqs.filter (fun r => !done.any (fun m => decide (m.inp = r.inp) || decide (m.out = r.out)))
  let outs := (openReqs.map (·.out)).eraseDups
  let grants := outs.filterMap (fun o => pickReq (openReqs.filter (fun r => decide (r.out = o))) true (st.2.1.find 0 o) (·.inp))
  let inps := (grants.map (·.inp)).eraseDups
  inps.foldl (fun acc i =>
    let mine := grants.filter (fun r => decide (r.inp = i))
    match pickReq mine false (acc.2.2.find 0 i) (·.out) with
    | none => acc
    | some g =>
      let taken := mine.filter (fun r => decide (r.id = g.id) && decide (r.cell = g.cell))
      if first then
        (acc.1 ++ taken, taken.foldl (fun m r => m.put 0 r.out ((i + 1) % 72)) acc.2.1, acc.2.2.put 0 i ((g.out + 1) % 72))
      else (acc.1 ++ taken, acc.2.1, acc.2.2)) st

/-- The three iterations (R136). -/
def State.matching (s : State) : List Req × SMap Nat × SMap Nat :=
  let reqs := s.requests
  matchIter reqs false (matchIter reqs false (matchIter reqs true ([], s.fab.grantPtr, s.fab.acceptPtr)))

/-! ## Cells cross -/

/-- Change a packet of a stage. -/
def updTransit (l : List Transit) (id : Nat) (f : Transit → Transit) : List Transit :=
  l.map (fun t => if t.pkt.id = id then f t else t)

/-- Change the copies of a packet at an output. -/
def Transit.at' (t : Transit) (out : Nat) (f : TCopy → TCopy) : Transit :=
  { t with copies := t.copies.map (fun c => if c.copy.out = out then f c else c) }

/-- The queue entry of a packet's copy. -/
def State.findQueued (s : State) (id : Nat) (c : Copy) : Option Queued :=
  (s.queue (queueOf c)).find? (fun x => decide (x.pkt.id = id) && decide (x.copy = c))

/-- A copy's packet is lost in the crossbar or failed its checks at its end: its queue entry goes, or a frame in transmission is
ended with its FCS inverted; counted in CIS_CNT_BAD (R131, R142). -/
def State.loseCopy (s : State) (t : Transit) (c : TCopy) : State :=
  match c.leg with
  | .admitted => (match s.findQueued t.pkt.id c.copy with
      | some x => (((s.takeOut x).cisCount c.copy.out R.CIS_CNT_BAD c.copy.k c.copy.cls)).gone t.pkt (queueOf c.copy)
      | none => s)
  | .sending => (s.cisCount c.copy.out R.CIS_CNT_BAD c.copy.k c.copy.cls).emit
      (.frameAborted (c.copy.out * 8 + c.copy.k) t.pkt.bytes)
  | _ => s

/-- Admit the copies of a packet at an output at its first cell, each by its own test (R143, R144). -/
def State.admitAt (s : State) (t : Transit) (out : Nat) : State × Transit :=
  let uni := decide (t.copies.length = 1)
  t.copies.foldl (fun (acc : State × Transit) c =>
    if c.copy.out = out ∧ c.leg = .waiting then
      let r := acc.1.admitCopy t.pkt c.copy t.charge t.cells uni
      (r.1, { acc.2 with copies := acc.2.copies.map (fun x =>
        if x.copy = c.copy then { x with leg := if r.2 then .admitted else .dead } else x) })
    else acc) (s, t)

/-- The cell is written to the cistern: every admitted copy at the output has one more, and the pool one fewer free. -/
def State.writeCell (s : State) (t : Transit) (out : Nat) : State :=
  let live := t.copies.filter (fun c => decide (c.copy.out = out) && decide (c.leg = .admitted))
  let s1 := live.foldl (fun a c =>
    a.setQueue (queueOf c.copy) ((a.queue (queueOf c.copy)).map (fun (x : Queued) =>
      if x.pkt.id = t.pkt.id ∧ x.copy = c.copy then { x with got := x.got + 1 } else x))) s
  if live.isEmpty then s1 else s1.wr (fabKey R.FAB_POOL_USED) (s1.rd (fabKey R.FAB_POOL_USED) + 1)

/-- A matched cell crosses (R129 to R131, R143): admission at the first cell, the slice checks, and the write. -/
def State.crossCell (s : State) (r : Req) (bad : List Nat) : State :=
  match (s.fab.stage.find [] r.inp).find? (fun t => decide (t.pkt.id = r.id)) with
  | none => s
  | some t0 =>
    let a := if r.cell = 0 then s.admitAt t0 r.out else (s, t0)
    let t := a.2.at' r.out (fun c => { c with sent := c.sent + 1 })
    let fate := cellFate s.isoPlane bad
    let errs := (bad.filter (fun p => decide (p < 9) && decide (s.isoPlane ≠ some p))).eraseDups
    let s1 := errs.foldl (fun x p => x.sliceError p) a.1
    let s2 := if fate = 1 then (s1.addSat (fabKey R.FAB_SLICE_CORR) 1).fault 41 { page := fabPage } else s1
    let lost := decide (fate = 2) || t.bad
    let live := t.copies.filter (fun c => decide (c.copy.out = r.out) && (decide (c.leg = .admitted) || decide (c.leg = .sending)))
    let s3 := if lost then live.foldl (fun x c => x.loseCopy t c) s2 else s2.writeCell t r.out
    let s4 := if fate = 2 ∧ !live.isEmpty then (s3.addSat (fabKey R.FAB_CELL_UNCORR) 1).fault 42 { page := fabPage } else s3
    let t1 := if lost then t.at' r.out (fun c => { c with leg := .dead }) else t
    let l := (updTransit (s4.fab.stage.find [] r.inp) r.id (fun _ => t1)).filter (fun x => decide (x.freed < x.cells))
    s4.setStage r.inp l

/-- CROSSBAR_CELL_TIME (R136): a matching completes and the matched cells cross; a parity error discards it, to be repeated in the
next cell time (FS46); free-list words that fail in one copy are restored (FS47), in both they halt FAB (FS39, R140). -/
def execCrossbarCellTime (dt : Nat) (cell : CellTime) (s : State) : Res :=
  let s := s.tick dt
  .next (if s.bus.domRuns 10 then
    let s1 := (cell.linkLost.filter (fun p => decide (p < 9))).foldl (fun a p => a.planeCondition p) s
    let s2 := if cell.freeOne = 0 then s1 else s1.fault 47 { page := fabPage }
    if cell.freeBoth then (s2.fault 39 { page := fabPage }).on (·.haltDoms [10])
    else if cell.parityErr then s2.fault 46 { page := fabPage }
    else
      let m := s2.matching
      let s3 := { s2 with fab := { s2.fab with grantPtr := m.2.1, acceptPtr := m.2.2 } }
      m.1.foldl (fun a r => a.crossCell r ((cell.sliceErrs.filter (fun e => decide (e.1 = r.out))).flatMap (·.2))) s3
  else s)

/-! ## The scheduler of a data port (R147 to R149, R159 to R161) -/

/-- Whether a queued packet is ready for dequeue (R147, R164). -/
def Queued.ready (x : Queued) : Bool := x.held.isNone && (x.cut || decide (cellsOf (frameLen x.pkt.bytes) ≤ x.got))

/-- The next ready packet of a queue. -/
def State.headOf (s : State) (q : Nat) : Option Queued := (s.queue q).find? Queued.ready

/-- The older of two packets. -/
def older (a b : Option Queued) : Option Queued :=
  match a, b with
  | some x, some y => if y.seq < x.seq then some y else some x
  | none, y => y
  | x, none => x

/-- The shaper's rate: the lower of EGQ_PSHAPE and EGQ_PBUD of those that are not 0; 0 is none (R161). -/
def State.shapeRate (s : State) (p : Nat) : Nat :=
  let a := s.fld (egqPort p R.EGQ_PSHAPE) 0 24
  let b := s.fld (egqPort p R.EGQ_PBUD) 0 24
  if a = 0 then b else if b = 0 then a else min a b

/-- The shaper's bucket now: full while nothing shapes. -/
def State.shaperNow (s : State) (p : Nat) : Bucket :=
  let depth := s.fld (egqPort p R.EGQ_PBURST) 0 24
  let full : Bucket := ⟨((depth * 62500 : Nat) : Int), s.bus.now⟩
  if s.shapeRate p = 0 then full
  else match s.fab.shaper.find? p with
    | some b => b.fill (s.shapeRate p) depth s.bus.now
    | none => full

/-- The packet at the head of a well as the scheduler may take it: its class not paused, the shaper holding tokens or the packet
a tile packet (R159, R161). -/
def State.wellHead (s : State) (p c g : Nat) : Option Queued :=
  if s.bus.running (tPfc p c) && !s.due (tPfc p c) then none
  else match s.headOf (p * 32 + c * 4 + g) with
    | some x => if x.pkt.tile.isSome ∨ 0 ≤ (s.shaperNow p).tok then some x else none
    | none => none

/-- A weight of 0 counts as 1 (R160). -/
def weight (w : Nat) : Nat := if w = 0 then 1 else w

/-- EGQ_PWEIGHT of a class. -/
def State.clsWeight (s : State) (p c : Nat) : Nat :=
  weight (if c < 4 then s.fld (egqPort p R.EGQ_PWEIGHT0) (8 * c) 8 else s.fld (egqPort p R.EGQ_PWEIGHT1) (8 * (c - 4)) 8)

/-- DWRR among the stream groups of one class (R160): the chosen packet and the state after it. -/
def State.pickSg (s : State) (p c : Nat) : Nat → Drr → Option (Queued × Drr)
  | 0, _ => none
  | fuel + 1, d =>
    let g := d.sg.find 0 c % 4
    let next := { d with sg := d.sg.put 0 c ((g + 1) % 4), sgFed := d.sgFed.put false c false }
    match s.wellHead p c g with
    | none =>
      let d' := if (s.queue (p * 32 + c * 4 + g)).isEmpty then { next with sgDef := next.sgDef.put 0 (c * 4 + g) 0 } else next
      s.pickSg p c fuel d'
    | some x =>
      let q := weight (s.fld (wellReg (p * 32 + c * 4 + g) R.EGQ_WCFG) 0 8) * 2048
      let def' := d.sgDef.find 0 (c * 4 + g) + (if d.sgFed.find false c then 0 else q)
      let len := frameLen x.pkt.bytes
      if len ≤ def' then some (x, { d with sgFed := d.sgFed.put false c true, sgDef := d.sgDef.put 0 (c * 4 + g) (def' - len) })
      else s.pickSg p c fuel { next with sgDef := next.sgDef.put 0 (c * 4 + g) def' }

/-- DWRR among the classes that are not strict (R160). -/
def State.pickCls (s : State) (p strict : Nat) : Nat → Drr → Option (Queued × Drr)
  | 0, _ => none
  | fuel + 1, d =>
    let c := d.cls % 7
    let next := { d with cls := (c + 1) % 7, fed := false }
    if bitOf c strict then s.pickCls p strict fuel next
    else match s.pickSg p c 64 d with
      | none =>
        let none' := (List.range 4).all (fun g => (s.queue (p * 32 + c * 4 + g)).isEmpty)
        s.pickCls p strict fuel (if none' then { next with def7 := next.def7.put 0 c 0 } else next)
      | some (x, d1) =>
        let def' := d.def7.find 0 c + (if d.fed then 0 else s.clsWeight p c * 2048)
        let len := frameLen x.pkt.bytes
        if len ≤ def' then some (x, { d1 with cls := c, fed := true, def7 := d.def7.put 0 c (def' - len) })
        else s.pickCls p strict fuel { next with def7 := next.def7.put 0 c def' }

/-- The scheduler's choice at a data port (Table 6-1). -/
def State.schedule (s : State) (p : Nat) : Option (Queued × Drr) :=
  let d := s.fab.drr.find Drr.init p
  let f := (List.range 4).foldl (fun a g => older a (s.headOf (p * 32 + 28 + g))) none
  match f with
  | some x => some (x, d)
  | none =>
    let strict := s.fld (egqPort p R.EGQ_PSCHED) 0 7
    match [6, 5, 4, 3, 2, 1, 0].findSome? (fun c => if bitOf c strict then s.pickSg p c 64 d else none) with
    | some r => some r
    | none => s.pickCls p strict 64 d

/-- The choice at cisterns 64 to 71: strict priority from class 7 down (R148). -/
def State.pickStrict (s : State) (out : Nat) : Option Queued :=
  [7, 6, 5, 4, 3, 2, 1, 0].findSome? (fun c => s.headOf (16384 + (out - 64) * 8 + c))

/-- Whether a packet is discarded at dequeue: a tile packet more than 19 µs late (R197), any other by the stale test (R149). -/
def State.dequeueStale (s : State) (p : Pkt) : Bool :=
  match p.tile with
  | some (sched, _) => decide (sched + 76000 < s.bus.w250)
  | none =>
    s.bit (fabKey R.FAB_CTRL) 0 && p.stream.isSome && s.teb.isSome && s.stale s.bus.w250 p.tc (streamDeadline p.deadline) 0

/-- Discard a stale packet: counted, EV185; a late tile packet is counted at its canvas too, with EV228 (R149, R197). -/
def State.dropStale (s : State) (x : Queued) : State :=
  let s1 := (((s.takeOut x).cisCount x.copy.out R.CIS_CNT_STALE x.copy.k x.copy.cls).killLegs
    (fun c id => decide (id = x.pkt.id) && decide (c = x.copy))).gone x.pkt (queueOf x.copy)
  match x.pkt.tile with
  | some (_, cnv) => (s1.addSat (rk (Block.cnv.pg cnv) R.CNV_CNT_LATE_DROP) 1).raise (Block.cnv.pg cnv) 4
  | none => s1.raise (cisPage x.copy.out) 5

/-- Choose the next packet, discarding stale ones as if they had never been queued. -/
def State.choose (s : State) (out k : Nat) : Nat → State × Option (Queued × Drr)
  | 0 => (s, none)
  | fuel + 1 =>
    let c := if out < 64 then s.schedule (out * 8 + k) else (s.pickStrict out).map (fun x => (x, Drr.init))
    match c with
    | none => (s, none)
    | some (x, d) => if s.dequeueStale x.pkt then State.choose (s.dropStale x) out k fuel else (s, some (x, d))

/-- Deliver a dequeued packet: out of a data port, to the composition dies, to a pump, to the value-frame engine, to the keeper,
or back to lookup (R128). A data port sends only frames whose VLAN it is a member of (R109). -/
def State.deliver (s : State) (x : Queued) : State :=
  match x.copy.dest with
  | .port p =>
    if s.bit (prtKey p (R.PRT_VLAN_OUT + 4 * (x.pkt.vlan / 32))) (x.pkt.vlan % 32) then
      s.sendFrame p (egressFrame x.pkt.bytes x.pkt.vlan x.pkt.pcp (s.fld (prtKey p R.PRT_PVID) 0 12)
        (s.bit (prtKey p R.PRT_CTRL) 9))
    else s.addSat (prtKey p R.PRT_VLAN_DROP) 1
  | .store j => { s with fab := { s.fab with storeIn := s.fab.storeIn.put [] j (s.fab.storeIn.find [] j ++ [x.pkt]) } }
  | .ring r =>
    ({ s with fab := { s.fab with pumpIn := s.fab.pumpIn.put [] (pumpOf r) (s.fab.pumpIn.find [] (pumpOf r) ++ [(r, x)]) } }).watchPump
      (pumpOf r)
  | .val => { s with fab := { s.fab with valIn := s.fab.valIn ++ [x.pkt] } }
  | .keeper => s.emit (.keeperFrame x.pkt.inPort x.pkt.bytes)
  | .lookup =>
    let p := parseFrame x.pkt.bytes
    s.forward { bytes := x.pkt.bytes, port := 514 + x.copy.out % 2, inp := x.copy.out, ta := x.pkt.ta, known := x.pkt.taKnown,
                tcKeep := some x.pkt.tc, vlan := x.pkt.vlan, pcp := x.pkt.pcp, dei := p.tagged && p.dei, cls := x.copy.cls,
                charge := cellsOf (frameLen x.pkt.bytes), rate := 8, bad := false }

/-- The output an index names for the record of what it sends: the port, or 512 and the cistern. -/
def sendIdx (out k : Nat) : Nat := if out < 64 then out * 8 + k else 512 + out

/-- PACKET_DEQUEUE (R159): when the output can start a frame its scheduler takes the next ready packet. A frame takes its length
and 20 bytes at the output's rate, in ps. -/
def execPacketDequeue (dt out k : Nat) (s : State) : Res :=
  let s := s.tick dt
  let t0 := s.bus.now * 2000
  let free := match s.fab.sending.find? (sendIdx out k) with | some t => decide (t.till < t0 + 2000) | none => true
  .next (if out < 72 ∧ k < 8 ∧ (out < 64 ∨ k = 0) ∧ free = true ∧ s.bus.domRuns 10 = true ∧ (64 ≤ out ∨ s.portUp (out * 8 + k) = true)
    then
      let total := s.fab.wells.cells.foldl (fun n (c : Nat × List Queued) => n + c.2.length) 0
      match s.choose out k (total + 1) with
      | (s1, none) => s1
      | (s1, some (x, d)) =>
        let len := frameLen x.pkt.bytes
        let start := match s1.fab.sending.find? (sendIdx out k) with | some t => max t.till t0 | none => t0
        let full := decide (cellsOf len ≤ x.got)
        let s2 := s1.takeOut x
        let s3 := { s2 with fab := { s2.fab with
          sending := s2.fab.sending.set (sendIdx out k) ⟨start + (len + 20) * 80 / s1.outRate out k, x.copy.cls⟩,
          drr := if out < 64 then s2.fab.drr.put Drr.init (out * 8 + k) d else s2.fab.drr } }
        let s4 := if full then s3 else
          { s3 with fab := { s3.fab with stage := ⟨s3.fab.stage.cells.map (fun (c : Nat × List Transit) =>
            (c.1, updTransit c.2 x.pkt.id (fun t => { t with copies := t.copies.map (fun (y : TCopy) =>
              if y.copy = x.copy then { y with leg := .sending } else y) })))⟩ } }
        let s5 := if x.cut then s4.cisCount out R.CIS_CNT_CUT k x.copy.cls else s4
        let shaped := decide (out < 64) && decide (x.copy.cls ≠ 7) && x.pkt.tile.isNone
        let s6 := if shaped then
            { s5 with fab := { s5.fab with shaper := s5.fab.shaper.set (out * 8 + k) ((s1.shaperNow (out * 8 + k)).take (len + 20)) } }
          else s5
        let s7 := if out < 64 then s6.addWrap (wellReg (queueOf x.copy) R.EGQ_WCNT_TX) 1 else s6
        (s7.gone x.pkt (queueOf x.copy)).deliver x
    else s)

/-! ## Counters and moves (R156, R165) -/

/-- CIS_PEAK_CLR (R156): CIS_PEAK takes CIS_USED. -/
def execCisPeakClr (dt vi n : Nat) (s : State) : Res :=
  let s := s.tick dt
  .next (if n < 72 then s.guardWrite vi (cisPage n) (fun s => s.wr (rk (cisPage n) R.CIS_PEAK) (s.rd (rk (cisPage n) R.CIS_USED)))
    else s)

/-- CIS_CNT_CLR (R156): clears the counters of the port and class the VI's CIS_CNT_SEL selects. -/
def execCisCntClr (dt vi n : Nat) (s : State) : Res :=
  let s := s.tick dt
  .next (if n < 72 then s.guardWrite vi (cisPage n) (fun s =>
      let sel := s.fld (rkVi (cisPage n) R.CIS_CNT_SEL vi) 0 6
      [R.CIS_CNT_ADMIT, R.CIS_CNT_RED_G, R.CIS_CNT_RED_Y, R.CIS_CNT_RED_R, R.CIS_CNT_TAIL, R.CIS_CNT_STALE, R.CIS_CNT_CUT,
        R.CIS_CNT_BAD, R.CIS_CNT_FLUSH].foldl (fun a off => a.wr (rkSel (cisPage n) off sel) 0) s)
    else s)

/-- MOVE_TIMEOUT (R165): the stream's packets still in the old queue are freed and counted, the held packets released, EV189. -/
def execMoveTimeout (dt entry : Nat) (s : State) : Res :=
  .next ((s.tick dt).onExpiry (tMove entry) (fun s =>
    match s.str.moves.find? entry with
    | none => s
    | some m =>
      let l := (s.queue m.old).filter (fun x => decide (x.pkt.stream = some entry))
      let s1 := l.foldl (fun a x =>
        let a1 := (a.takeOut x).killLegs (fun c id => decide (id = x.pkt.id) && decide (c = x.copy))
        match m.oldRing with
        | some r => a1.addSat (ringKey r R.HQR_CNT_MOVE_DROP) 1
        | none => a1.addSat (wellReg m.old R.EGQ_WCNT_MOVE_DROP) 1) s
      s1.endMove entry 1))

end Sys2Proof.Machine
end

