-- ==== Sys2Proof/Machine/Rings.lean ====
section
/-! DEFINITION. Host rings and pumps (R167 to R184): the meanings of the ring and pump commands of chapter 06. -/

namespace Sys2Proof.Machine

/-! ## A ring's registers and memory -/

def State.ringEn (s : State) (r : Nat) : Bool := s.bit (ringKey r R.HQR_CTRL) 0
def State.ringRx (s : State) (r : Nat) : Bool := s.bit (ringKey r R.HQR_CTRL) 1
def State.ringLocal (s : State) (r : Nat) : Bool := s.bit (ringKey r R.HQR_CTRL) 2
def State.ringSize (s : State) (r : Nat) : Nat := 2 ^ s.fld (ringKey r R.HQR_CTRL) 4 4
def State.pOld (s : State) (r : Nat) : Nat := s.fld (ringKey r R.HQR_DB) 0 16
def State.cons (s : State) (r : Nat) : Nat := s.fld (ringKey r R.HQR_IDX) 0 16
def State.ringComp (s : State) (r : Nat) : Nat := s.fld (ringKey r R.HQR_IDX) 16 16
def State.ringBase (s : State) (r : Nat) : Nat := s.rd (ringKey r R.HQR_BASE_LO) + s.rd (ringKey r R.HQR_BASE_HI) * 2 ^ 32
def State.ringOwner (s : State) (r : Nat) : Nat := s.bus.ownerOf .hqr r

/-- Whether the ring fetches: enabled, running, not stopped. -/
def State.ringRuns (s : State) (r : Nat) : Bool :=
  s.ringEn r && s.bit (ringKey r R.HQR_STATUS) 0 && !s.bit (ringKey r R.HQR_STATUS) 1

/-- Whether `n` bytes from an offset lie in the ring's window of the ring store (R167). -/
def State.inWindow (s : State) (r off n : Nat) : Bool := decide (off + n ≤ s.fld (ringKey r R.HQR_LWIN) 8 8 * 65536)

/-- The ring-store address of a window offset. -/
def State.storeAddr (s : State) (r off : Nat) : Nat := s.fld (ringKey r R.HQR_LWIN) 0 8 * 65536 + off

/-- Bytes of the ring store. -/
def State.storeRead (s : State) (a n : Nat) : List Byte := (List.range n).map (fun i => s.str.rstore.find 0 (a + i))

/-- Write bytes to the ring store. -/
def storePut (m : SMap Byte) (a : Nat) : List Byte → SMap Byte
  | [] => m
  | b :: t => storePut (m.put 0 a b) (a + 1) t
def State.storeWrite (s : State) (a : Nat) (l : List Byte) : State :=
  { s with str := { s.str with rstore := storePut s.str.rstore a l } }

/-- The memory address of the descriptor of index `i`. -/
def State.descAddr (s : State) (r i : Nat) : Nat := s.ringBase r + 32 * (i % s.ringSize r)

/-- The software words of the next descriptor, if the fetch succeeds. -/
def State.fetchDesc (s : State) (r : Nat) (mem : RingMem) : Option (List Nat) :=
  let a := s.descAddr r (s.cons r)
  if !mem.descOk then none
  else if s.ringLocal r then
    (if s.inWindow r a 32 then some ((List.range 4).map (fun i => leVal (s.storeRead (s.storeAddr r (a + 4 * i)) 4))) else none)
  else some mem.desc

/-- Write a word of a descriptor, or bytes of a buffer, where the ring's memory is. -/
def State.ringWord (s : State) (r a v : Nat) : State :=
  if s.ringLocal r then (if s.inWindow r a 4 then s.storeWrite (s.storeAddr r a) (leBytes 4 v) else s)
  else s.emit (.hostWord a (v % 2 ^ 32))
def State.ringBytes (s : State) (r a : Nat) (l : List Byte) : State :=
  if s.ringLocal r then s.storeWrite (s.storeAddr r a) l else s.emit (.hostBytes a l)

/-! ## Completions (R169) and failures (R174) -/

/-- Whether a pump has work pending: a posted descriptor on a running transmit ring, or a frame to deliver. -/
def State.ringsPosted (s : State) (pump : Nat) : List Nat :=
  ((s.bus.regs.cells.filterMap (fun (p : Nat × Word) =>
    let o := keyOff p.1
    if blockOfPage (keyPage p.1) = some Block.hqr ∧ 0x100 ≤ o ∧ ((o - 0x100) % 0x40 = 0x10 ∨ (o - 0x100) % 0x40 = 0x14)
    then some (pageIndex (keyPage p.1) * 16 + (o - 0x100) / 0x40) else none)).eraseDups).filter (fun r =>
      decide (pumpOf r = pump) && s.ringRuns r && !s.ringRx r && decide (s.pOld r ≠ s.cons r))

/-- A completion restarts the pump's watch, or ends it when nothing is left to do (R180). -/
def State.rewatch (s : State) (pump : Nat) : State :=
  let s1 := s.disarm (tHang pump)
  if !(s1.ringsPosted pump).isEmpty ∨ !(s1.fab.pumpIn.find [] pump).isEmpty then s1.watchPump pump else s1

/-- Complete the oldest fetched descriptor (R168, R169): words 3 to 6 as given, then word 7; the counters and events follow. -/
def State.completeDesc (s : State) (r status len : Nat) (irq : Bool) (w3 : Option Nat) (time : Option Nat) (write : Bool) : State :=
  let a := s.descAddr r (s.ringComp r)
  let s1 := if write then
      let x1 := match w3 with | some v => s.ringWord r (a + 12) v | none => s
      let x2 := match time with
        | some t => ((x1.ringWord r (a + 16) (stampW0 t)).ringWord r (a + 20) (stampW1 t)).ringWord r (a + 24) (stampW2 t)
        | none => x1
      x2.ringWord r (a + 28) (len % 65536 + status * 65536 + 2 ^ 31)
    else s
  let s2 := (((s1.setFld (ringKey r R.HQR_IDX) 16 16 (s1.ringComp r + 1)).addWrap (ringKey r R.HQR_CNT_DONE) 1).setFld
    (ringKey r R.HQR_STATUS) 8 8 status)
  let s3 := if status = 0 then s2 else s2.setBit (rk (ringPage r) R.HQR_ERR_PEND) (r % 16) true
  let s4 := if status = 1 then (s3.addSat (ringKey r R.HQR_CNT_TRUNC) 1).raiseEntry .hqr 2 r
    else if status = 0 then s3 else (s3.addSat (ringKey r R.HQR_CNT_ERR) 1).raiseEntry .hqr 1 r
  let s5 := if irq then (s4.setBit (rk (ringPage r) R.HQR_PEND) (r % 16) true).raiseEntry .hqr 0 r else s4
  s5.rewatch (pumpOf r)

/-- The fetch index moves on. -/
def State.takeDesc (s : State) (r : Nat) : State := s.setFld (ringKey r R.HQR_IDX) 0 16 (s.cons r + 1)

/-- An access to a ring's memory failed (R174): the ring stops, EV197; the pump records the address, EV200. -/
def State.ringFail (s : State) (r addr : Nat) : State :=
  let p := pmpPage (pumpOf r)
  let s1 := ((s.setBit (ringKey r R.HQR_STATUS) 1 true).setBit (ringKey r R.HQR_STATUS) 0 false).raiseEntry .hqr 5 r
  ((((s1.addSat (rk p R.PMP_ADDR_ERRS) 1).wr (rk p R.PMP_ERR_ADDR_LO) (addr % 2 ^ 32)).wr (rk p R.PMP_ERR_ADDR_HI)
    (addr / 2 ^ 32 % 2 ^ 32)).wr (rk p R.PMP_ERR_RING) (r + 2 ^ 15)).raise p 0

/-- A frame finds no descriptor (R173). -/
def State.noBuf (s : State) (r : Nat) : State := (s.addSat (ringKey r R.HQR_CNT_NOBUF) 1).raiseEntry .hqr 3 r

/-- A pump's time for `len` bytes at a rate of 64 kbit/s units, 0 being 200 Gbit/s, in ps. -/
def pumpTime (len rate : Nat) : Nat := if rate = 0 then len * 40 else max (len * 40) (len * 125000000 / rate)

/-- Whether a pump works: enabled, CTL up. -/
def State.pumpUp (s : State) (pump : Nat) : Bool := s.bit (rk (pmpPage pump) R.PMP_CTRL) 0 && s.bus.domUp 2

/-! ## The owner's commands -/

/-- HQR_DOORBELL (R170): a producer index is accepted, ignored with DB_ERR, or refused. -/
def execHqrDoorbell (dt vi ring value : Nat) (s : State) : Res :=
  let s := s.tick dt
  .next (s.guardEntry vi .hqr (ringPage ring) ring (fun s =>
    let p := value % 65536
    if (!s.serviceReady && decide (s.ringOwner ring ≠ 0)) || !s.ringEn ring then s.raiseEntry .hqr 4 ring
    else if (p + 65536 - s.pOld ring) % 65536 ≤ (s.ringComp ring + s.ringSize ring + 65536 - s.pOld ring) % 65536 then
      let s1 := s.setFld (ringKey ring R.HQR_DB) 0 16 p
      if s1.ringRx ring then s1 else s1.watchPump (pumpOf ring)
    else ((s.setBit (ringKey ring R.HQR_STATUS) 3 true).setBit (rk (ringPage ring) R.HQR_ERR_PEND) (ring % 16) true).raiseEntry
      .hqr 1 ring))

/-- HQR_ENABLE (R167, R175): a write of HQR_CTRL with EN = 1. Ignored with a configuration error while RUN is 1; refused for a ring
in host memory that no PCIe VI owns; LOG2SIZE below 4 is clamped (R41). -/
def execHqrEnable (dt vi ring ctrl : Nat) (s : State) : Res :=
  let s := s.tick dt
  .next (s.guardEntry vi .hqr (ringPage ring) ring (fun s =>
    let o := s.ringOwner ring
    if s.bit (ringKey ring R.HQR_STATUS) 0 then s.cfgErrEntry .hqr ring
    else if bitOf 2 ctrl = false ∧ ¬(1 ≤ o ∧ o ≤ 256) then s.cfgErrEntry .hqr ring
    else
      let c := setFieldOf 0 1 1 (maskOf 0xF7 ctrl)
      let s1 := if fieldOf 4 4 c < 4 then (s.wr (ringKey ring R.HQR_CTRL) (setFieldOf 4 4 4 c)).cfgErrEntry .hqr ring
        else s.wr (ringKey ring R.HQR_CTRL) c
      (((s1.wr (ringKey ring R.HQR_DB) 0).wr (ringKey ring R.HQR_IDX) 0).setBit (ringKey ring R.HQR_STATUS) 1 false).setBit
        (ringKey ring R.HQR_STATUS) 0 true))

/-- HQR_DISABLE (R175): a write of HQR_CTRL with EN = 0 stops fetching at once. `ahead` are the IRQ bits of the descriptors the pump
had fetched and not finished; without any, RUN reads 0 at once. -/
def execHqrDisable (dt vi ring ctrl : Nat) (ahead : List Bool) (s : State) : Res :=
  let s := s.tick dt
  .next (s.guardEntry vi .hqr (ringPage ring) ring (fun s =>
    let c := setFieldOf 0 1 0 (maskOf 0xF7 ctrl)
    let s1 := if fieldOf 4 4 c < 4 then (s.wr (ringKey ring R.HQR_CTRL) (setFieldOf 4 4 4 c)).cfgErrEntry .hqr ring
      else s.wr (ringKey ring R.HQR_CTRL) c
    let l := if s.ringRuns ring then ahead.take ((s.pOld ring + 65536 - s.cons ring) % 65536) else []
    if l.isEmpty then s1.setBit (ringKey ring R.HQR_STATUS) 0 false
    else { s1.setFld (ringKey ring R.HQR_IDX) 0 16 (s.cons ring + l.length) with
           pumps := { s1.pumps with fetched := s1.pumps.fetched.set ring l } }))

/-- Complete every fetched descriptor with FLUSHED. -/
def State.flushFetched (s : State) (r : Nat) : State :=
  let s1 := (s.pumps.fetched.find [] r).foldl (fun a irq => a.completeDesc r 6 0 irq none none true) s
  { s1 with pumps := { s1.pumps with fetched := s1.pumps.fetched.erase r } }

/-- HQR_STOP_COMPLETE (R175): the fetched descriptors of a disabled ring have completed, with FLUSHED, and RUN reads 0. -/
def execHqrStopComplete (dt ring : Nat) (s : State) : Res :=
  let s := s.tick dt
  .next (if ring < 16384 ∧ s.ringEn ring = false ∧ s.bit (ringKey ring R.HQR_STATUS) 0 = true then
    (s.flushFetched ring).setBit (ringKey ring R.HQR_STATUS) 0 false
  else s)

/-- HQR_MEM_DATA_ACCESS (R167): a read, or a write of a value, at HQR_MEM_ADDR of the ring's window; outside it reads 0, writes
nothing and sets MEM_ERR. An owner's access moves the address on by 4; a reader's does not, and its write is denied (R92). -/
def execHqrMemDataAccess (dt vi ring : Nat) (write : Option Nat) (s : State) : Res :=
  let s := s.tick dt
  let acc := s.bus.access .hqr ring vi
  .next (if ring < 16384 ∧ acc ≠ 0 then
    (if !s.bus.pageUp (ringPage ring) then
       (match write with | none => (s.on (·.late vi)).emit (.readData vi maxWord) | some _ => s.on (·.late vi))
     else if acc = 1 ∧ write.isSome then s.on (·.denied)
     else
       let off := s.fld (ringKey ring R.HQR_MEM_ADDR) 2 22 * 4
       let ok := s.inWindow ring off 4
       let s1 := match write with
         | some v => if ok then s.storeWrite (s.storeAddr ring off) (leBytes 4 v) else s
         | none => s.emit (.readData vi (if ok then leVal (s.storeRead (s.storeAddr ring off) 4) else 0))
       let s2 := if ok then s1 else s1.setBit (ringKey ring R.HQR_STATUS) 5 true
       if acc = 2 then s2.setFld (ringKey ring R.HQR_MEM_ADDR) 2 22 (off / 4 + 1) else s2)
  else s)

/-! ## The pumps' work -/

/-- The ring a pump serves next on transmit: the next after the last one served that has a posted descriptor (R177). -/
def State.nextTx (s : State) (pump : Nat) : Option Nat :=
  let ptr := s.pumps.rr.find 0 pump
  let d := fun (r : Nat) => (r % 1024 + 1024 - ptr % 1024) % 1024
  (s.ringsPosted pump).foldl (fun acc r =>
    if !s.ringLocal r && !s.bus.pcieUp then acc
    else match acc with | none => some r | some a => if d r < d a then some r else some a) none

/-- Whether a path domain is down for a descriptor (R178). -/
def State.pathDown (s : State) (r kind dest : Nat) : Bool :=
  !s.bus.domUp 10 || (decide (kind = 1) && !s.bus.domUp (laneDom dest)) || (s.ringLocal r && !s.bus.domUp 2)

/-- Hand a transmitted frame to the fabric (R171). An untagged frame counts as VLAN 1 (assumption log 14). -/
def State.txFrame (s : State) (r pump kind dest cls sgrp : Nat) (bytes : List Byte) : State :=
  let l := padFrame bytes
  let p := parseFrame l
  let n := s.newId
  let c := if kind = 0 then 0 else cls
  let pkt : Pkt := ⟨n.2, l, 514 + pump % 2, s.bus.w250, decide (s.timState ≠ 0),
    if s.timState = 0 then none else some s.bus.w250, if p.tagged ∧ p.vid ≠ 0 then p.vid else 1, if p.tagged then p.pcp else 0,
    0, none, 0, none, 8, some r, false⟩
  n.1.stagePut (hostPort pump) pkt c (cellsOf (frameLen l)) false (match kind with
    | 0 => [copyLookup pump c]
    | 1 => [copyPort dest c sgrp]
    | _ => (n.1.grpPorts dest 516).map (fun q => copyPort q c 0))

/-- HQR_TX_DESCRIPTOR (R171): the pump takes the next ring's descriptor through the tests of Table 6-5; the first that fails
completes it; a frame that passes is padded and handed to the fabric. -/
def execHqrTxDescriptor (dt pump : Nat) (mem : RingMem) (s : State) : Res :=
  let s := s.tick dt
  .next (if pump < 16 ∧ s.pumpUp pump = true ∧ s.pumps.txFree.find 0 pump < s.bus.now * 2000 + 2000 then
    (match s.nextTx pump with
     | none => s
     | some r =>
       let s0 := { s with pumps := { s.pumps with rr := s.pumps.rr.put 0 pump ((r + 1) % 1024) } }
       match s0.fetchDesc r mem with
       | none => s0.ringFail r (s0.descAddr r (s0.cons r))
       | some w =>
         let s1 := s0.takeDesc r
         let w2 := w.getD 2 0
         let w3 := w.getD 3 0
         let len := w2 % 65536
         let irq := bitOf 16 w2
         let kind := fieldOf 0 2 w3
         let cls := fieldOf 2 3 w3
         let dest := s1.ownedDest (s1.ringOwner r) kind (fieldOf 7 16 w3)
         let buf := w.getD 0 0 + w.getD 1 0 * 2 ^ 32
         if len = 0 ∨ w2 / 2 ^ 17 ≠ 0 ∨ w3 / 2 ^ 23 ≠ 0 ∨ kind = 3 ∨ cls = 7 then s1.completeDesc r 2 0 irq none none true
         else match dest with
           | none => s1.completeDesc r 3 0 irq none none true
           | some ph =>
             if s1.pathDown r kind ph then s1.completeDesc r 5 0 irq none none true
             else if s1.fld (ringKey r R.HQR_BUFSZ) 0 14 < len then s1.completeDesc r 1 0 irq none none true
             else if !mem.bufOk ∨ (s1.ringLocal r = true ∧ s1.inWindow r buf len = false) then
               (s1.completeDesc r 4 0 irq none none mem.complOk).ringFail r buf
             else
               let bytes := if s1.ringLocal r then s1.storeRead (s1.storeAddr r buf) len else mem.buf.take len
               let s2 := s1.txFrame r pump kind ph cls (fieldOf 5 2 w3) bytes
               let s3 := (s2.addWrap (rk (pmpPage pump) R.PMP_TX_PKTS) 1).add64 (rk (pmpPage pump) R.PMP_TX_BYTES_LO) len
               let free := max (s.pumps.txFree.find 0 pump) (s.bus.now * 2000)
                 + pumpTime len (s.fld (rk (pmpPage pump) R.PMP_RATE_TX) 0 24)
               ({ s3 with pumps := { s3.pumps with txFree := s3.pumps.txFree.put 0 pump free } }).completeDesc r 0 len irq none
                 (some s.bus.w250) true)
  else s)

/-- Word 3 of a receive completion (Table 6-3). -/
def State.rxWord3 (s : State) (r : Nat) (x : Queued) : Nat :=
  let o := s.ringOwner r
  let st := match x.pkt.stream with
    | some e => if s.bus.access .str e o = 0 then none else s.bus.localOf .str o e
    | none => none
  x.pkt.inPort % 1024 + x.copy.cls * 2 ^ 10 + (match st with | some j => 2 ^ 13 + j % 65536 * 2 ^ 14 | none => 0)

/-- HQR_RX_FRAME (R172, R173): the pump's next frame is written into its ring's next descriptor, truncated where it is too long, or
discarded where the ring has none. -/
def execHqrRxFrame (dt pump : Nat) (mem : RingMem) (s : State) : Res :=
  let s := s.tick dt
  .next (if pump < 16 ∧ s.pumpUp pump = true ∧ s.pumps.rxFree.find 0 pump < s.bus.now * 2000 + 2000 then
    (match s.fab.pumpIn.find [] pump with
     | [] => s
     | (r, x) :: rest =>
       let s0 := { s with fab := { s.fab with pumpIn := s.fab.pumpIn.put [] pump rest } }
       if !(s.ringRuns r && s.ringRx r && decide (s.pOld r ≠ s.cons r) && (s.ringLocal r || s.bus.pcieUp)) then
         (s0.noBuf r).rewatch pump
       else match s.fetchDesc r mem with
         | none => ((s0.ringFail r (s.descAddr r (s.cons r))).noBuf r).rewatch pump
         | some w =>
           let w2 := w.getD 2 0
           let irq := bitOf 16 w2
           let buf := w.getD 0 0 + w.getD 1 0 * 2 ^ 32
           let n := min (w2 % 65536) (s.fld (ringKey r R.HQR_BUFSZ) 0 14)
           let l := x.pkt.bytes
           let put := l.take n
           if w2 % 65536 = 0 then (s.takeDesc r).completeDesc r 2 0 irq none none true
           else
             let s1 := s0.takeDesc r
             if !mem.bufOk ∨ (s.ringLocal r = true ∧ s.inWindow r buf put.length = false) then
               (s1.completeDesc r 4 0 irq (some (s.rxWord3 r x)) (some x.pkt.ta) mem.complOk).ringFail r buf
             else
               let s2 := s1.ringBytes r buf put
               let s3 := (s2.addWrap (rk (pmpPage pump) R.PMP_RX_PKTS) 1).add64 (rk (pmpPage pump) R.PMP_RX_BYTES_LO) put.length
               let free := max (s.pumps.rxFree.find 0 pump) (s.bus.now * 2000)
                 + pumpTime put.length (s.fld (rk (pmpPage pump) R.PMP_RATE_RX) 0 24)
               ({ s3 with pumps := { s3.pumps with rxFree := s3.pumps.rxFree.put 0 pump free } }).completeDesc r
                 (if n < l.length then 1 else 0) put.length irq (some (s.rxWord3 r x)) (some x.pkt.ta) true)
  else s)

/-- PCIE_LINK_LOSS (R179): every ring in host memory stops without further completions, each pump raises EV201, and PCIe VIs have no
access. -/
def execPcieLinkLoss (dt : Nat) (s : State) : Res :=
  let s := s.tick dt
  let rings := (s.bus.regs.cells.filterMap (fun (p : Nat × Word) =>
    let o := keyOff p.1
    if blockOfPage (keyPage p.1) = some Block.hqr ∧ 0x100 ≤ o ∧ (o - 0x100) % 0x40 = 0x18
    then some (pageIndex (keyPage p.1) * 16 + (o - 0x100) / 0x40) else none)).filter (fun r =>
      s.bit (ringKey r R.HQR_STATUS) 0 && !s.ringLocal r)
  let s1 := rings.foldl (fun a r => (a.setBit (ringKey r R.HQR_STATUS) 1 true).setBit (ringKey r R.HQR_STATUS) 0 false) s
  let s2 := (List.range 16).foldl (fun a p => (a.setBit (rk (pmpPage p) R.PMP_STATUS) 1 true).raise (pmpPage p) 1) s1
  .next (s2.on (fun b => { b with pcieUp := false }))

/-- PCIE_LINK_RETRAINED (R179): PCIe VIs have access again. -/
def execPcieLinkRetrained (dt : Nat) (s : State) : Res :=
  let s := s.tick dt
  .next (((List.range 16).foldl (fun a p => a.setBit (rk (pmpPage p) R.PMP_STATUS) 1 false) s).on (fun b => { b with pcieUp := true }))

/-- PUMP_HANG (R180): a pump with work pending has completed nothing for 10 ms: FS53, and it is reset; descriptors it had fetched
complete with FLUSHED. -/
def execPumpHang (dt pump : Nat) (s : State) : Res :=
  .next ((s.tick dt).onExpiry (tHang pump) (fun s =>
    if (s.ringsPosted pump).isEmpty ∧ (s.fab.pumpIn.find [] pump).isEmpty then s
    else
      let s1 := s.fault 53 { page := pmpPage pump, engine := pump }
      let rings := (s1.pumps.fetched.cells.map (·.1)).filter (fun r => decide (pumpOf r = pump))
      (rings.foldl (fun a r => a.flushFetched r) s1).watchPump pump))

/-- FAB enters DRAINING or goes down (R178, Table 6-10): the pumps show it, EV202. -/
def State.pumpsFab (s : State) (down : Bool) : State :=
  (List.range 16).foldl (fun a p =>
    let b := a.setBit (rk (pmpPage p) R.PMP_STATUS) 2 down
    if down then b.raise (pmpPage p) 2 else b) s

end Sys2Proof.Machine
end

