-- ==== Sys2Proof/Machine/ZwAlu.lean ====
section
/-! DEFINITION. The arithmetic of the Zugrim instruction set: results and flags (R341 to R344), multiplication, and the updates of
address registers (R346, R347). -/

namespace Sys2Proof.Machine

/-- A result with the flags after it: st as [0] Z, [1] N, [2] C, [3] V (R332). -/
structure AluOut where
  value : Word
  st : Nat
  deriving DecidableEq, Repr

/-- st with Z and N from a result; C and V unchanged (R343). -/
def stZN (r : Word) (st : Nat) : Nat := setBitOf 1 r.msb (setBitOf 0 (r == 0) st)

/-- st with C and V given as well. -/
def stZNCV (r : Word) (c v : Bool) (st : Nat) : Nat := setBitOf 3 v (setBitOf 2 c (stZN r st))

/-- An operation that sets Z and N alone. -/
def aluZN (r : Word) (st : Nat) : AluOut := ⟨r, stZN r st⟩

/-- Addition with a carry in (R343). -/
def aluAdd (a b : Word) (cin : Bool) (st : Nat) : AluOut :=
  let sum := a.toNat + b.toNat + b2n cin
  let r := BitVec.ofNat 32 sum
  ⟨r, stZNCV r (decide (2 ^ 32 ≤ sum)) (a.msb == b.msb && r.msb != a.msb) st⟩

/-- Subtraction with a borrow in; C is 1 when no borrow occurs (R343). -/
def aluSub (a b : Word) (borrow : Bool) (st : Nat) : AluOut :=
  let r := BitVec.ofNat 32 (a.toNat + 2 ^ 33 - b.toNat - b2n borrow)
  ⟨r, stZNCV r (decide (b.toNat + b2n borrow ≤ a.toNat)) (a.msb != b.msb && r.msb != a.msb) st⟩

/-- The flags of a shift by `n`: Z and N, and C the last bit shifted out; a shift by 0 leaves C (R343). -/
def aluShift (r : Word) (n : Nat) (out : Bool) (st : Nat) : AluOut :=
  ⟨r, if n = 0 then stZN r st else setBitOf 2 out (stZN r st)⟩

def aluShl (a : Word) (n : Nat) (st : Nat) : AluOut :=
  aluShift (if n < 32 then a <<< n else 0) n (decide (n ≤ 32) && a.getLsbD (32 - n)) st
def aluShr (a : Word) (n : Nat) (st : Nat) : AluOut :=
  aluShift (if n < 32 then a >>> n else 0) n (a.getLsbD (n - 1)) st
def aluSar (a : Word) (n : Nat) (st : Nat) : AluOut :=
  aluShift (if n < 32 then a.sshiftRight n else (if a.msb then BitVec.ofNat 32 maxWord else 0)) n
    (if n ≤ 32 then a.getLsbD (n - 1) else a.msb) st

/-- Signed minimum and maximum. -/
def minSigned (a b : Word) : Word := if a.toInt ≤ b.toInt then a else b
def maxSigned (a b : Word) : Word := if a.toInt ≤ b.toInt then b else a

/-- ABS: V is 1 exactly for 0x8000_0000, whose result it is (R343). -/
def aluAbs (a : Word) (st : Nat) : AluOut :=
  let r := if a.msb then 0 - a else a
  ⟨r, setBitOf 3 (a == 0x80000000#32) (stZN r st)⟩

/-- Leading zeros, from bit `n - 1` down, and 1 bits. -/
def leadingZeros : Nat → Word → Nat
  | 0, _ => 0
  | n + 1, a => if a.getLsbD n then 0 else 1 + leadingZeros n a

/-- The product of R344. -/
def product (q : Bool) (a b : Word) : Int :=
  if q then (a.setWidth 16).toInt * (b.setWidth 16).toInt * 2 else a.toInt * b.toInt

/-- Bits [31:0] of an exact value, or the value saturated (R344). -/
def narrow (sat : Bool) (v : Int) : Word := BitVec.ofNat 32 (if sat then ofSignedSat 32 v else ofSigned 32 v)

/-- BASE and LEN of a modulo register (Table 12-2). -/
def mBase (m : Word) : Nat := fieldOf 0 17 m.toNat
def mLen (m : Word) : Nat := fieldOf 17 15 m.toNat

/-- Modulo update (R346). -/
def moduloStep (m a : Word) (step : Int) : Word :=
  if mLen m = 0 then BitVec.ofNat 32 (ofSigned 32 ((a.toNat : Int) + step))
  else BitVec.ofNat 32 (mBase m + ((((a.toNat : Int) - mBase m + step) % (mLen m : Int)).toNat))

/-- The exponent k of R347: 2^k ≤ LEN < 2^(k+1), and 0 for LEN ≤ 1. -/
def log2Len (len : Nat) : Nat := Nat.log2 len

/-- Reverse the low `k` bits. -/
def revBits : Nat → Nat → Nat
  | 0, _ => 0
  | k + 1, v => v % 2 * 2 ^ k + revBits k (v / 2)

/-- Bit-reversed update (R347). -/
def reversedStep (m a : Word) (step : Int) : Word :=
  let k := log2Len (mLen m)
  let n : Nat := 2 ^ k
  let off := (((a.toNat : Int) - mBase m) % (n : Int)).toNat
  BitVec.ofNat 32 (mBase m + revBits k ((revBits k off + revBits k (step % (n : Int)).toNat) % n))

/-- The step of a short bit-reversed operation, N ÷ 2 (Table 12-6). -/
def reversedHalf (m : Word) : Int := ((2 ^ log2Len (mLen m) / 2 : Nat) : Int)

/-- Whether a branch condition holds (R342). -/
def condHolds (c st : Nat) : Bool :=
  let z := bitOf 0 st
  let n := bitOf 1 st
  let cy := bitOf 2 st
  let v := bitOf 3 st
  match c with
  | 0 => true | 1 => z | 2 => !z | 3 => n | 4 => !n | 5 => cy | 6 => !cy | 7 => v | 8 => !v
  | 9 => cy && !z | 10 => !cy || z | 11 => n == v | 12 => n != v | 13 => !z && n == v | 14 => z || n != v
  | _ => false

end Sys2Proof.Machine
end

