-- ==== Sys2Proof/Machine/ZwCore.lean ====
section
/-! DEFINITION. What every Zugrim word shares (R330 to R340, R348 to R354): the core's registers and memories, the landing of
results, delay slots and loops, stopping, and the issue of a word. -/

namespace Sys2Proof.Machine

/-! ## Keys, records and memories -/

def zwkPage (w : Nat) : Nat := Block.zwk.pg w
def zwkKey (w off : Nat) : Nat := rk (zwkPage w) off
def kprPage (k : Nat) : Nat := Block.keeper.pg k
def kprKey (k off : Nat) : Nat := rk (kprPage k) off
/-- The page of a core: workers 0 to 95, keeper pairs 96 and 97. -/
def corePage (c : Nat) : Nat := if c < 96 then zwkPage c else kprPage (c - 96)
def tCore (c : Nat) : Nat := timerId 26 c

def State.zw (s : State) (c : Nat) : ZwCore := s.cores.find ZwCore.init c
def State.setZw (s : State) (c : Nat) (k : ZwCore) : State := { s with cores := s.cores.put ZwCore.init c k }
def State.modZw (s : State) (c : Nat) (f : ZwCore → ZwCore) : State := s.setZw c (f (s.zw c))

/-- Memory sizes in words (Table 12-1). -/
def imemWords (c : Nat) : Nat := if c < 96 then 16384 else 65536
def dmemWords (c : Nat) : Nat := if c < 96 then 32768 else 131072

/-- A core's data memory; that of the active keeper stands with the page network. Addresses are taken modulo its size (R348). -/
def State.dmemRd (s : State) (c addr : Nat) : Word :=
  if c = 96 + s.bus.keeper then s.bus.kdmem.find 0 (addr % dmemWords c) else (s.zw c).dmem.find 0 (addr % dmemWords c)
def State.dmemWr (s : State) (c addr : Nat) (v : Word) : State :=
  if c = 96 + s.bus.keeper then s.on (fun b => { b with kdmem := b.kdmem.put 0 (addr % dmemWords c) v })
  else s.modZw c (fun k => { k with dmem := k.dmem.put 0 (addr % dmemWords c) v })

def State.imemRd (s : State) (c addr : Nat) : Word := (s.zw c).imem.find 0 (addr % imemWords c)
def State.imemWr (s : State) (c addr : Nat) (v : Word) : State :=
  s.modZw c (fun k => { k with imem := k.imem.put 0 (addr % imemWords c) v })

/-- STATE of a worker: 0 stopped, 1 running, 2 waiting, 3 frozen (Table 12-11). -/
def State.setRun (s : State) (c st : Nat) : State := s.ifThen (decide (c < 96)) (·.setFld (zwkKey c R.ZWK_STATUS) 0 2 st)

/-- EVT of a core; bits 0 to 15 read 0 on a keeper, bit 30 on a worker, bit 31 on both (Table 12-7). -/
def State.evtOf (s : State) (c : Nat) : Word :=
  s.bus.evt.find 0 c &&& (if c < 96 then 0x3FFFFFFF#32 else 0x7FFF0000#32)
def State.clearEvt (s : State) (c : Nat) (mask : Word) : State :=
  s.on (fun b => { b with evt := b.evt.put 0 c (b.evt.find 0 c &&& ~~~mask) })

/-- Registers as visible to the word that issues now. -/
def ZwCore.dR (k : ZwCore) (i : Nat) : Word := k.d.find 0 i
def ZwCore.aR (k : ZwCore) (i : Nat) : Word := k.a.find 0 (i % 8)
def ZwCore.mR (k : ZwCore) (i : Nat) : Word := k.m.find 0 (i % 8)
def ZwCore.level (k : ZwCore) (l : Nat) : LoopLevel := if l = 0 then k.loop0 else k.loop1
def ZwCore.setLevel (k : ZwCore) (l : Nat) (x : LoopLevel) : ZwCore := if l = 0 then { k with loop0 := x } else { k with loop1 := x }
def ZwCore.lc (k : ZwCore) (l : Nat) : Word := if l = 0 then k.lc0 else k.lc1
def ZwCore.setLc (k : ZwCore) (l : Nat) (v : Word) : ZwCore := if l = 0 then { k with lc0 := v } else { k with lc1 := v }

/-! ## Landing (R337 to R339) -/

/-- A result lands. A write of 0 to a loop counter makes its level inactive (R353). -/
def ZwCore.land (k : ZwCore) (x : Land) : ZwCore :=
  match x.dst with
  | .d i => { k with d := k.d.put 0 i x.value }
  | .a i => { k with a := k.a.put 0 (i % 8) x.value }
  | .m i => { k with m := k.m.put 0 (i % 8) x.value }
  | .lc l => if x.value = 0 then (k.setLc l 0).setLevel l ⟨false, 0, 0⟩ else k.setLc l x.value
  | .st => { k with st := x.value.toNat % 16 }

/-- The order of landing: by landing word, then by issuing word, then by slot (R338). -/
def Land.before (x y : Land) : Bool :=
  decide (x.due < y.due) || (decide (x.due = y.due) && (decide (x.word < y.word) || (decide (x.word = y.word) && decide (x.slot ≤ y.slot))))

def insertLand (x : Land) : List Land → List Land
  | [] => [x]
  | y :: t => if y.before x then y :: insertLand x t else x :: y :: t

/-- The value of a late multiply-accumulate, its accumulator read now (R339, R344). -/
def LateMac.value (x : LateMac) (k : ZwCore) : Word :=
  narrow x.sat (if x.sub then (k.dR x.acc).toInt - x.p else (k.dR x.acc).toInt + x.p)

/-- The results visible to the next word land, and the accumulators read by that word are read. -/
def ZwCore.settle (k : ZwCore) : ZwCore :=
  let due := k.lands.filter (fun x => decide (x.due ≤ k.n))
  let k1 := (due.foldr insertLand []).foldl ZwCore.land { k with lands := k.lands.filter (fun x => !decide (x.due ≤ k.n)) }
  let read := k1.macs.filter (fun x => decide (x.word + 2 ≤ k1.n))
  { k1 with
    lands := k1.lands ++ read.map (fun x => ⟨x.word + 3, x.word, x.slot, .d x.acc, x.value k1⟩)
    macs := k1.macs.filter (fun x => !decide (x.word + 2 ≤ k1.n)) }

/-- Stores visible to the next word reach data memory. -/
def State.settleStores (s : State) (c : Nat) : State :=
  let k := s.zw c
  let due := k.stores.filter (fun x => decide (x.due ≤ k.n))
  due.foldl (fun a x => a.dmemWr c x.addr x.value) (s.setZw c { k with stores := k.stores.filter (fun x => !decide (x.due ≤ k.n)) })

def State.settle (s : State) (c : Nat) : State := (s.settleStores c).modZw c ZwCore.settle

/-- `i` words pass in which nothing issues. -/
def State.drainWords (s : State) (c : Nat) : Nat → State
  | 0 => s
  | i + 1 => ((s.settle c).modZw c (fun k => { k with n := k.n + 1 })).drainWords c i

/-- Every result of earlier words becomes visible (R357, R365): the longest latency is 4 words. -/
def State.drain (s : State) (c : Nat) : State := (s.drainWords c 5).settle c

/-! ## Stopping (R365) -/

/-- A core stops with a REASON: no further word issues, a pending WAIT ends, results in flight land. Queued commands complete
before STATE reads 0. -/
def State.zwStop (s : State) (c reason : Nat) : State :=
  (s.drain c).modZw c (fun k => { k with running := false, stopping := some reason, waiting := none })

/-- ZW_ILLEGAL_WORD (R335): the word does not execute; FS97 and REASON 2. The record names the core and the word's address. -/
def State.zwIllegal (s : State) (c : Nat) : State :=
  (s.fault 97 { page := corePage c, addr := (s.zw c).pc, engine := c }).zwStop c 2

/-- FS96 and REASON 3 (R351). -/
def State.zwStackFault (s : State) (c : Nat) : State :=
  (s.fault 96 { page := corePage c, addr := (s.zw c).pc, engine := c }).zwStop c 3

/-! ## The next word (R349, R353, R354) -/

/-- ZW_LOOP_END_TEST (R353): a level whose end word issues is tested; the next word is its start while it loops. -/
def ZwCore.loopTest (k : ZwCore) (l : Nat) : ZwCore × Option Nat :=
  let x := k.level l
  if x.active && decide (x.stop = k.pc) then
    if 2 ≤ (k.lc l).toNat then (k.setLc l (k.lc l - 1), some x.start)
    else ((k.setLc l 0).setLevel l { x with active := false }, none)
  else (k, none)

/-- Both levels, level 1 first; level 0 only when level 1 falls through (R354). -/
def ZwCore.loopNext (k : ZwCore) (size : Nat) : ZwCore :=
  let r1 := k.loopTest 1
  match r1.2 with
  | some t => { r1.1 with pc := t }
  | none =>
    let r0 := r1.1.loopTest 0
    match r0.2 with
    | some t => { r0.1 with pc := t }
    | none => { r0.1 with pc := (k.pc + 1) % size }

/-- The word has issued: the next word follows by delay slots, loops or order. In the delay slots of a taken branch the branch
decides and no level is tested (R349, R354). -/
def ZwCore.advance (k : ZwCore) (size : Nat) : ZwCore :=
  let k1 := { k with n := k.n + 1 }
  match k.delay with
  | none => k1.loopNext size
  | some (left, some t) =>
    if left ≤ 1 then { k1 with delay := none, pc := t } else { k1 with delay := some (left - 1, some t), pc := (k.pc + 1) % size }
  | some (left, none) =>
    (if left ≤ 1 then { k1 with delay := none } else { k1 with delay := some (left - 1, none) }).loopNext size

def State.advance (s : State) (c : Nat) : State := s.modZw c (fun k => k.advance (imemWords c))

/-- Whether the next word is at the end of an active loop, where a control word is illegal (R335). -/
def ZwCore.atLoopEnd (k : ZwCore) : Bool :=
  (k.loop0.active && decide (k.loop0.stop = k.pc)) || (k.loop1.active && decide (k.loop1.stop = k.pc))

/-! ## Effects of a word -/

/-- What an operation leaves behind: results with their latencies, stores, a late multiply-accumulate. -/
structure ZwEff where
  lands : List (Nat × LandAt × Word) := []
  stores : List (Nat × Word) := []
  macs : List (Nat × Bool × Bool × Int) := []
  deriving DecidableEq, Repr

/-- The effects of the word that issues, of one slot, are put in flight (R337). -/
def ZwCore.put (k : ZwCore) (slot : Nat) (e : ZwEff) : ZwCore :=
  { k with
    lands := k.lands ++ e.lands.map (fun x => ⟨k.n + x.1, k.n, slot, x.2.1, x.2.2⟩)
    stores := k.stores ++ e.stores.map (fun x => ⟨k.n + 2, x.1, x.2⟩)
    macs := k.macs ++ e.macs.map (fun x => ⟨k.n, slot, x.1, x.2.1, x.2.2.1, x.2.2.2⟩) }

/-- Fields of a long word (R334). -/
def wOp (w : Nat) : Nat := fieldOf 24 7 w
def wD (w : Nat) : Nat := fieldOf 20 4 w
def wA (w : Nat) : Nat := fieldOf 16 4 w
def wB (w : Nat) : Nat := fieldOf 12 4 w
def wImm (w : Nat) : Nat := fieldOf 0 16 w
def wExt (w : Nat) : Nat := fieldOf 0 12 w
def s16 (w : Nat) : Word := BitVec.ofNat 32 (ofSigned 32 (signedOf 16 (wImm w)))
def u16 (w : Nat) : Word := BitVec.ofNat 32 (wImm w)

/-- The word a core issues next. -/
def State.nextWord (s : State) (c : Nat) : Nat := (s.imemRd c (s.zw c).pc).toNat

/-- Whether a core issues a word now: it runs, does not wait, is not in a debug halt (R369), and its domain is up. -/
def State.issues (s : State) (c : Nat) : Bool :=
  (s.zw c).running && decide ((s.zw c).waiting = none) && s.bus.domRuns (pwrDomain (corePage c))
    && !(decide (96 ≤ c) && s.bit (kprKey (c - 96) R.KPR_STATUS) 3)

/-- A long word of an opcode issues: `f` makes its effects from the registers it sees and its word. -/
def State.zwData (s : State) (dt c op : Nat) (f : State → ZwCore → Nat → ZwEff) : Res :=
  let s1 := s.tick dt
  let w := s1.nextWord c
  .next (if s1.issues c && !bitOf 31 w && decide (wOp w = op) then
      let s2 := s1.settle c
      (s2.modZw c (fun k => k.put 0 (f s2 k w))).advance c
    else s1)

/-- A control word of an opcode issues; it is illegal in a delay slot and at the end of an active loop (R335). -/
def State.zwControl (s : State) (dt c op : Nat) (f : State → ZwCore → Nat → State) : Res :=
  let s1 := s.tick dt
  let w := s1.nextWord c
  .next (if s1.issues c && !bitOf 31 w && decide (wOp w = op) then
      let s2 := s1.settle c
      let k := s2.zw c
      if k.delay.isSome || k.atLoopEnd then s2.zwIllegal c else f s2 k w
    else s1)

/-- One result of latency 1 in a d register with the flags after it. -/
def effAlu (d : Nat) (r : AluOut) : ZwEff := { lands := [(1, .d d, r.value), (1, .st, BitVec.ofNat 32 r.st)] }
/-- One result of latency 1. -/
def effReg (dst : LandAt) (v : Word) : ZwEff := { lands := [(1, dst, v)] }

end Sys2Proof.Machine
end

