-- ==== Sys2Proof/Machine/Zugrim.lean ====
section
/-! DEFINITION. The Zugrim instruction set (R330 to R367): starting and stopping cores, events, pair words and the long words of
Table 12-5. Each command issues the core's next word if that word is the one it names. -/

namespace Sys2Proof.Machine

/-! ## Starting, stopping and events (R355 to R358, R364 to R366) -/

/-- Whether a worker is stopped. -/
def State.zwStopped (s : State) (w : Nat) : Bool := !(s.zw w).running && decide ((s.zw w).stopping = none)

/-- A worker starts at an address: registers 0, the stack empty, loops inactive, EVT cleared (R364). -/
def State.zwStart (s : State) (c entry : Nat) : State :=
  let k := s.zw c
  let k1 := { ZwCore.init with imem := k.imem, dmem := k.dmem, pc := entry % imemWords c, running := true, started := s.bus.now }
  ((s.setZw c k1).on (fun b => { b with evt := b.evt.put 0 c 0 })).setRun c 1

/-- ZWK_START (R364). -/
def execZwkStart (dt vi w : Nat) (s : State) : Res :=
  .next ((s.tick dt).guardWrite vi (zwkPage w) (fun s =>
    let s1 := s.setBit (zwkKey w R.ZWK_CTRL) 0 true
    if s.zwStopped w then s1.zwStart w (s.fld (zwkKey w R.ZWK_ENTRY) 0 14) else s1))

/-- ZWK_STOP (R365). -/
def execZwkStop (dt vi w : Nat) (s : State) : Res :=
  .next ((s.tick dt).guardWrite vi (zwkPage w) (fun s =>
    let s1 := s.setBit (zwkKey w R.ZWK_CTRL) 0 false
    if (s.zw w).running then s1.zwStop w 0 else s1))

/-- CORE_STOP_COMPLETE (R365): STATE 0 and EV88 with the REASON. -/
def execCoreStopComplete (dt core : Nat) (s : State) : Res :=
  let s1 := s.tick dt
  .next (match (s1.zw core).stopping with
    | some r =>
      if (s1.zw core).queue.isEmpty then
        let s2 := s1.modZw core (fun k => { k with stopping := none })
        if core < 96 then ((s2.setRun core 0).setFld (zwkKey core R.ZWK_STATUS) 2 4 r).raise (zwkPage core) 0 else s2
      else s1
    | none => s1)

/-- An access of one of a worker's memories through its address and data registers (R366): while it is stopped alone, and each
access moves the address on. -/
def State.memAccess (s : State) (vi w addrOff : Nat) (rdF : State → Nat → Word) (wrF : State → Nat → Word → State)
    (size : Nat) (write : Option Nat) : State :=
  let k := zwkKey w addrOff
  let step := fun (t : State) => t.wr k ((t.rd k + 1) % size)
  match write with
  | some v => s.guardWrite vi (zwkPage w) (fun s =>
      if s.zwStopped w then step (wrF s (s.rd k) (BitVec.ofNat 32 v)) else s.cfgErr (zwkPage w))
  | none => s.readBy vi (zwkPage w) (if s.zwStopped w then (rdF s (s.rd k)).toNat else 0)
      (fun s => if s.zwStopped w then step s else s)

/-- ZWK_IMEM_DATA_ACCESS (R366). -/
def execZwkImemDataAccess (dt vi w : Nat) (write : Option Nat) (s : State) : Res :=
  .next ((s.tick dt).memAccess vi w R.ZWK_IMEM_ADDR (fun s a => s.imemRd w a) (fun s a v => s.imemWr w a v) 16384 write)

/-- ZWK_DMEM_DATA_ACCESS (R366). -/
def execZwkDmemDataAccess (dt vi w : Nat) (write : Option Nat) (s : State) : Res :=
  .next ((s.tick dt).memAccess vi w R.ZWK_DMEM_ADDR (fun s a => s.dmemRd w a) (fun s a v => s.dmemWr w a v) 32768 write)

/-- Doorbell bits set event bits 24 to 27 (R355). -/
def State.doorbell (s : State) (c value : Nat) : State :=
  (List.range 4).foldl (fun a i => if bitOf i value then a.on (·.setEvt c (24 + i)) else a) s

/-- ZWK_DOORBELL (R355). -/
def execZwkDoorbell (dt vi w value : Nat) (s : State) : Res :=
  .next ((s.tick dt).guardWrite vi (zwkPage w) (·.doorbell w value))

/-- The timer register of a core. -/
def timerKey (c : Nat) : Nat := if c < 96 then zwkKey c R.ZWK_TIMER else kprKey (c - 96) R.KPR_TIMER

/-- ZWK_TIMER_WRITE (R368): a write restarts the count; 0 stops it. -/
def execZwkTimerWrite (dt vi core value : Nat) (s : State) : Res :=
  .next ((s.tick dt).guardWrite vi (corePage core) (fun s =>
    let us := fieldOf 0 24 value
    let s1 := s.wr (timerKey core) (us + b2n (bitOf 31 value) * 2 ^ 31)
    if us = 0 then s1.disarm (tCore core) else s1.arm (tCore core) (clkUs us)))

/-- CORE_TIMER_EXPIRE (R355). -/
def execCoreTimerExpire (dt core : Nat) (s : State) : Res :=
  .next ((s.tick dt).onExpiry (tCore core) (fun s =>
    let s1 := s.on (·.setEvt core 28)
    if s.bit (timerKey core) 31 then s1.arm (tCore core) (clkUs (s.fld (timerKey core) 0 24)) else s1))

/-- The physical pages that have an event number at a page index of the event's block (R79, R358). -/
def eventPages (evn idx : Nat) : List Nat :=
  (blockTable.filter (fun r => decide (idx < r.pages) && decide (0 < r.evCount) && (match r.block with
    | .gpt => decide (96 + 2 * idx ≤ evn) && decide (evn < 98 + 2 * idx)
    | .fltSrc => decide (320 + 16 * idx ≤ evn) && decide (evn < 336 + 16 * idx)
    | _ => decide (r.evBase ≤ evn) && decide (evn < r.evBase + r.evCount)))).map (fun r => r.block.pg idx)

/-- ZWK_ROUTE_WRITE (R358): refused where the worker's VI does not hold the page. -/
def execZwkRouteWrite (dt vi w route value : Nat) (s : State) : Res :=
  .next ((s.tick dt).guardWrite vi (zwkPage w) (fun s =>
    let v := maskOf 0x83FF01FF value
    let rvi := s.fld (zwkKey w R.ZWK_VI) 0 10
    if bitOf 31 v && !(eventPages (fieldOf 0 9 v) (fieldOf 16 10 v)).any (fun p => decide (1 ≤ s.bus.pageAccess p rvi)) then
      s.cfgErr (zwkPage w)
    else s.wr (rkSel (zwkPage w) R.ZWK_ROUTE (route % 16)) v))

/-- WAIT_RESUME (R357). -/
def execWaitResume (dt core : Nat) (s : State) : Res :=
  let s1 := s.tick dt
  .next (match (s1.zw core).waiting with
    | some (mask, d) =>
      let v := s1.evtOf core &&& mask
      if v = 0 then s1
      else ((s1.modZw core (fun k => { k with d := k.d.put 0 d v, waiting := none })).clearEvt core v).setRun core 1
    | none => s1)

/-! ## Pair words (R336, R341, R345) -/

/-- The address register after a short access (Table 12-6). -/
def shortUpdate (k : ZwCore) (y mode : Nat) : List (Nat × LandAt × Word) :=
  match mode with
  | 0 => []
  | 1 => [(1, .a (y % 8), k.aR y + 1)]
  | 2 => [(1, .a (y % 8), moduloStep (k.mR y) (k.aR y) 1)]
  | _ => [(1, .a (y % 8), reversedStep (k.mR y) (k.aR y) (reversedHalf (k.mR y)))]

/-- A short ALU operation: st only with F. -/
def shortAlu (x mode : Nat) (r : AluOut) : ZwEff :=
  if 2 ≤ mode then effAlu x r else effReg (.d x) r.value

/-- One slot of a pair (Table 12-4); none for a reserved opcode. `rd` reads data memory. -/
def shortEff (k : ZwCore) (rd : Nat → Word) (v : Nat) : Option ZwEff :=
  let x := fieldOf 6 4 v
  let y := fieldOf 2 4 v
  let mode := fieldOf 0 2 v
  let dx := k.dR x
  let yv := if mode % 2 = 1 then BitVec.ofNat 32 y else k.dR y
  let q := mode % 2 == 1
  let sat := decide (2 ≤ mode)
  match fieldOf 10 5 v with
  | 0x00 => some {}
  | 0x01 => some (shortAlu x mode (aluZN yv k.st))
  | 0x02 => some (shortAlu x mode (aluAdd dx yv false k.st))
  | 0x03 => some (shortAlu x mode (aluSub dx yv false k.st))
  | 0x04 => some (shortAlu x mode (aluZN (dx &&& yv) k.st))
  | 0x05 => some (shortAlu x mode (aluZN (dx ||| yv) k.st))
  | 0x06 => some (shortAlu x mode (aluZN (dx ^^^ yv) k.st))
  | 0x07 => some (shortAlu x mode (aluShl dx yv.toNat k.st))
  | 0x08 => some (shortAlu x mode (aluShr dx yv.toNat k.st))
  | 0x09 => some (shortAlu x mode (aluSar dx yv.toNat k.st))
  | 0x0A => some (effReg .st (BitVec.ofNat 32 (aluSub dx yv false k.st).st))
  | 0x0B => some (shortAlu x mode (aluSub 0 yv false k.st))
  | 0x0C => some (shortAlu x mode (aluZN (~~~yv) k.st))
  | 0x0D => some (shortAlu x mode (aluZN (minSigned dx yv) k.st))
  | 0x0E => some (shortAlu x mode (aluZN (maxSigned dx yv) k.st))
  | 0x0F => some (shortAlu x mode (aluAbs yv k.st))
  | 0x10 => some (effReg (.a (x % 8)) yv)
  | 0x11 => some (effReg (.d x) (k.aR y))
  | 0x12 => some (effReg (.a (x % 8)) (k.aR x + yv))
  | 0x13 => some (effReg (.a (x % 8)) (k.aR x - yv))
  | 0x14 => some { lands := (4, .d x, rd (k.aR y).toNat) :: shortUpdate k y mode }
  | 0x15 => some { lands := shortUpdate k y mode, stores := [((k.aR y).toNat, dx)] }
  | 0x16 => some { lands := (4, .a (x % 8), rd (k.aR y).toNat) :: shortUpdate k y mode }
  | 0x17 => some { lands := shortUpdate k y mode, stores := [((k.aR y).toNat, k.aR x)] }
  | 0x18 => some { lands := [(3, .d x, narrow sat (product q (k.dR y) (k.dR (Nat.xor y 8))))] }
  | 0x19 => some { macs := [(x, false, sat, product q (k.dR y) (k.dR (Nat.xor y 8)))] }
  | 0x1A => some { macs := [(x, true, sat, product q (k.dR y) (k.dR (Nat.xor y 8)))] }
  | _ => none

/-- ZW_PAIR_WORD (R336): both slots read before either writes; slot B's write stands. -/
def execZwPairWord (dt core : Nat) (s : State) : Res :=
  let s1 := s.tick dt
  let w := s1.nextWord core
  .next (if s1.issues core && bitOf 31 w then
      let s2 := s1.settle core
      let k := s2.zw core
      let rd := fun a => s2.dmemRd core a
      match shortEff k rd (fieldOf 16 15 w), shortEff k rd (fieldOf 1 15 w) with
      | some a, some b => if bitOf 0 w then s2.zwIllegal core else (s2.setZw core ((k.put 0 a).put 1 b)).advance core
      | _, _ => s2.zwIllegal core
    else s1)

/-! ## Long words: arithmetic (R342 to R344) -/

/-- ZW_NOP (R342). -/
def execZwNop (dt core : Nat) (s : State) : Res := s.zwData dt core 0x00 (fun _ _ _ =>
  {})

/-- ZW_ADD (R342). -/
def execZwAdd (dt core : Nat) (s : State) : Res := s.zwData dt core 0x01 (fun _ k w =>
  effAlu (wD w) (aluAdd (k.dR (wA w)) (k.dR (wB w)) false k.st))

/-- ZW_ADDI (R342). -/
def execZwAddi (dt core : Nat) (s : State) : Res := s.zwData dt core 0x02 (fun _ k w =>
  effAlu (wD w) (aluAdd (k.dR (wA w)) (s16 w) false k.st))

/-- ZW_SUB (R342). -/
def execZwSub (dt core : Nat) (s : State) : Res := s.zwData dt core 0x03 (fun _ k w =>
  effAlu (wD w) (aluSub (k.dR (wA w)) (k.dR (wB w)) false k.st))

/-- ZW_ADC (R342). -/
def execZwAdc (dt core : Nat) (s : State) : Res := s.zwData dt core 0x04 (fun _ k w =>
  effAlu (wD w) (aluAdd (k.dR (wA w)) (k.dR (wB w)) (bitOf 2 k.st) k.st))

/-- ZW_SBC (R342): D := A − B − (1 − C). -/
def execZwSbc (dt core : Nat) (s : State) : Res := s.zwData dt core 0x05 (fun _ k w =>
  effAlu (wD w) (aluSub (k.dR (wA w)) (k.dR (wB w)) (!bitOf 2 k.st) k.st))

/-- ZW_AND (R342). -/
def execZwAnd (dt core : Nat) (s : State) : Res := s.zwData dt core 0x06 (fun _ k w =>
  effAlu (wD w) (aluZN ((k.dR (wA w)) &&& (k.dR (wB w))) k.st))

/-- ZW_ANDI (R342). -/
def execZwAndi (dt core : Nat) (s : State) : Res := s.zwData dt core 0x07 (fun _ k w =>
  effAlu (wD w) (aluZN ((k.dR (wA w)) &&& u16 w) k.st))

/-- ZW_OR (R342). -/
def execZwOr (dt core : Nat) (s : State) : Res := s.zwData dt core 0x08 (fun _ k w =>
  effAlu (wD w) (aluZN ((k.dR (wA w)) ||| (k.dR (wB w))) k.st))

/-- ZW_ORI (R342). -/
def execZwOri (dt core : Nat) (s : State) : Res := s.zwData dt core 0x09 (fun _ k w =>
  effAlu (wD w) (aluZN ((k.dR (wA w)) ||| u16 w) k.st))

/-- ZW_XOR (R342). -/
def execZwXor (dt core : Nat) (s : State) : Res := s.zwData dt core 0x0A (fun _ k w =>
  effAlu (wD w) (aluZN ((k.dR (wA w)) ^^^ (k.dR (wB w))) k.st))

/-- ZW_XORI (R342). -/
def execZwXori (dt core : Nat) (s : State) : Res := s.zwData dt core 0x0B (fun _ k w =>
  effAlu (wD w) (aluZN ((k.dR (wA w)) ^^^ u16 w) k.st))

/-- ZW_SHL (R342, R343). -/
def execZwShl (dt core : Nat) (s : State) : Res := s.zwData dt core 0x0C (fun _ k w =>
  effAlu (wD w) (aluShl (k.dR (wA w)) (fieldOf 0 6 (k.dR (wB w)).toNat) k.st))

/-- ZW_SHLI (R342, R343). -/
def execZwShli (dt core : Nat) (s : State) : Res := s.zwData dt core 0x0D (fun _ k w =>
  effAlu (wD w) (aluShl (k.dR (wA w)) (fieldOf 0 6 w) k.st))

/-- ZW_SHR (R342, R343). -/
def execZwShr (dt core : Nat) (s : State) : Res := s.zwData dt core 0x0E (fun _ k w =>
  effAlu (wD w) (aluShr (k.dR (wA w)) (fieldOf 0 6 (k.dR (wB w)).toNat) k.st))

/-- ZW_SHRI (R342, R343). -/
def execZwShri (dt core : Nat) (s : State) : Res := s.zwData dt core 0x0F (fun _ k w =>
  effAlu (wD w) (aluShr (k.dR (wA w)) (fieldOf 0 6 w) k.st))

/-- ZW_SAR (R342, R343). -/
def execZwSar (dt core : Nat) (s : State) : Res := s.zwData dt core 0x10 (fun _ k w =>
  effAlu (wD w) (aluSar (k.dR (wA w)) (fieldOf 0 6 (k.dR (wB w)).toNat) k.st))

/-- ZW_SARI (R342, R343). -/
def execZwSari (dt core : Nat) (s : State) : Res := s.zwData dt core 0x11 (fun _ k w =>
  effAlu (wD w) (aluSar (k.dR (wA w)) (fieldOf 0 6 w) k.st))

/-- ZW_CMP (R342, R343). -/
def execZwCmp (dt core : Nat) (s : State) : Res := s.zwData dt core 0x12 (fun _ k w =>
  effReg .st (BitVec.ofNat 32 (aluSub (k.dR (wA w)) (k.dR (wB w)) false k.st).st))

/-- ZW_CMPI (R342, R343). -/
def execZwCmpi (dt core : Nat) (s : State) : Res := s.zwData dt core 0x13 (fun _ k w =>
  effReg .st (BitVec.ofNat 32 (aluSub (k.dR (wA w)) (s16 w) false k.st).st))

/-- ZW_MIN (R342). -/
def execZwMin (dt core : Nat) (s : State) : Res := s.zwData dt core 0x14 (fun _ k w =>
  effAlu (wD w) (aluZN (minSigned (k.dR (wA w)) (k.dR (wB w))) k.st))

/-- ZW_MAX (R342). -/
def execZwMax (dt core : Nat) (s : State) : Res := s.zwData dt core 0x15 (fun _ k w =>
  effAlu (wD w) (aluZN (maxSigned (k.dR (wA w)) (k.dR (wB w))) k.st))

/-- ZW_ABS (R342, R343). -/
def execZwAbs (dt core : Nat) (s : State) : Res := s.zwData dt core 0x16 (fun _ k w =>
  effAlu (wD w) (aluAbs (k.dR (wA w)) k.st))

/-- ZW_NEG (R342). -/
def execZwNeg (dt core : Nat) (s : State) : Res := s.zwData dt core 0x17 (fun _ k w =>
  effAlu (wD w) (aluSub 0 (k.dR (wA w)) false k.st))

/-- ZW_MOVI (R342). -/
def execZwMovi (dt core : Nat) (s : State) : Res := s.zwData dt core 0x18 (fun _ k w =>
  effAlu (wD w) (aluZN (s16 w) k.st))

/-- ZW_MOVHI (R342). -/
def execZwMovhi (dt core : Nat) (s : State) : Res := s.zwData dt core 0x19 (fun _ k w =>
  effAlu (wD w) (aluZN (BitVec.ofNat 32 (wImm w * 65536 + (k.dR (wD w)).toNat % 65536)) k.st))

/-- ZW_EXT (R342): lo = ext[9:5], w = ext[4:0] + 1. -/
def execZwExt (dt core : Nat) (s : State) : Res := s.zwData dt core 0x1A (fun _ k w =>
  effAlu (wD w) (aluZN (BitVec.ofNat 32 (fieldOf (fieldOf 5 5 w) (fieldOf 0 5 w + 1) (k.dR (wA w)).toNat)) k.st))

/-- ZW_INS (R342): bits above 31 are dropped. -/
def execZwIns (dt core : Nat) (s : State) : Res := s.zwData dt core 0x1B (fun _ k w =>
  effAlu (wD w) (aluZN (BitVec.ofNat 32 (setFieldOf (fieldOf 5 5 w) (fieldOf 0 5 w + 1) (k.dR (wA w)).toNat (k.dR (wD w)).toNat)) k.st))

/-- ZW_CLZ (R342). -/
def execZwClz (dt core : Nat) (s : State) : Res := s.zwData dt core 0x1C (fun _ k w =>
  effAlu (wD w) (aluZN (BitVec.ofNat 32 (leadingZeros 32 (k.dR (wA w)))) k.st))

/-- ZW_POPC (R342). -/
def execZwPopc (dt core : Nat) (s : State) : Res := s.zwData dt core 0x1D (fun _ k w =>
  effAlu (wD w) (aluZN (BitVec.ofNat 32 (popCount 32 (k.dR (wA w)).toNat)) k.st))

/-- ZW_MUL (R344). -/
def execZwMul (dt core : Nat) (s : State) : Res := s.zwData dt core 0x20 (fun _ k w =>
  { lands := [(3, .d (wD w), narrow (bitOf 1 w) (product (bitOf 0 w) (k.dR (wA w)) (k.dR (wB w))))] })

/-- ZW_MULHS (R342). -/
def execZwMulhs (dt core : Nat) (s : State) : Res := s.zwData dt core 0x21 (fun _ k w =>
  { lands := [(3, .d (wD w), BitVec.ofNat 32 (ofSigned 64 ((k.dR (wA w)).toInt * (k.dR (wB w)).toInt) / 2 ^ 32))] })

/-- ZW_MULHU (R342). -/
def execZwMulhu (dt core : Nat) (s : State) : Res := s.zwData dt core 0x22 (fun _ k w =>
  { lands := [(3, .d (wD w), BitVec.ofNat 32 ((k.dR (wA w)).toNat * (k.dR (wB w)).toNat / 2 ^ 32))] })

/-- ZW_MAC (R339, R344). -/
def execZwMac (dt core : Nat) (s : State) : Res := s.zwData dt core 0x23 (fun _ k w =>
  { macs := [(wD w, false, bitOf 1 w, product (bitOf 0 w) (k.dR (wA w)) (k.dR (wB w)))] })

/-- ZW_MSU (R339, R344). -/
def execZwMsu (dt core : Nat) (s : State) : Res := s.zwData dt core 0x24 (fun _ k w =>
  { macs := [(wD w, true, bitOf 1 w, product (bitOf 0 w) (k.dR (wA w)) (k.dR (wB w)))] })

/-! ## Long words: address registers, special registers, memory (R333, R345) -/

/-- ZW_MOVAD (R342). -/
def execZwMovad (dt core : Nat) (s : State) : Res := s.zwData dt core 0x28 (fun _ k w =>
  effReg (.a (wD w % 8)) (k.dR (wA w)))

/-- ZW_MOVDA (R342). -/
def execZwMovda (dt core : Nat) (s : State) : Res := s.zwData dt core 0x29 (fun _ k w =>
  effReg (.d (wD w)) (k.aR (wA w)))

/-- ZW_MOVAI (R342). -/
def execZwMovai (dt core : Nat) (s : State) : Res := s.zwData dt core 0x2A (fun _ _ w =>
  effReg (.a (wD w % 8)) (u16 w))

/-- ZW_ADDAI (R342). -/
def execZwAddai (dt core : Nat) (s : State) : Res := s.zwData dt core 0x2B (fun _ k w =>
  effReg (.a (wD w % 8)) (k.aR (wA w) + s16 w))

/-- ZW_ADDA (R342). -/
def execZwAdda (dt core : Nat) (s : State) : Res := s.zwData dt core 0x2C (fun _ k w =>
  effReg (.a (wD w % 8)) (k.aR (wA w) + (k.dR (wB w))))

/-- The special register of a code (Table 12-2a). -/
def State.special (s : State) (c : Nat) (k : ZwCore) (code : Nat) : Word :=
  if code < 8 then k.aR code
  else if code < 16 then k.mR code
  else match code with
    | 16 => k.lc0
    | 17 => k.lc1
    | 18 => BitVec.ofNat 32 k.st
    | 19 => BitVec.ofNat 32 k.stack.length
    | 20 => s.evtOf c
    | 21 => BitVec.ofNat 32 (if c < 96 then s.fld (zwkKey c R.ZWK_STATUS) 8 8 else 0xFF)
    | 22 => BitVec.ofNat 32 (2 * (s.bus.now - k.started))
    | 23 => BitVec.ofNat 32 (16 - k.queue.length)
    | _ => 0

/-- What a write of a special register does: read-only codes and codes 24 to 31 ignore it (R333). -/
def specialWrite (code : Nat) (v : Word) : ZwEff :=
  if code < 8 then effReg (.a code) v
  else if code < 16 then effReg (.m (code - 8)) v
  else match code with
    | 16 => effReg (.lc 0) v
    | 17 => effReg (.lc 1) v
    | 18 => effReg .st v
    | _ => {}

/-- ZW_MOVSR (R333). -/
def execZwMovsr (dt core : Nat) (s : State) : Res := s.zwData dt core 0x2D (fun s k w =>
  effReg (.d (wD w)) (s.special core k (fieldOf 0 5 w)))

/-- ZW_MOVRS (R333). -/
def execZwMovrs (dt core : Nat) (s : State) : Res := s.zwData dt core 0x2E (fun _ k w =>
  specialWrite (fieldOf 0 5 w) (k.dR (wA w)))

/-- ZW_LD (R345). -/
def execZwLd (dt core : Nat) (s : State) : Res := s.zwData dt core 0x30 (fun s k w =>
  { lands := [(4, .d (wD w), s.dmemRd core (k.aR (wA w) + s16 w).toNat)] })

/-- ZW_ST (R345). -/
def execZwSt (dt core : Nat) (s : State) : Res := s.zwData dt core 0x31 (fun _ k w =>
  { stores := [((k.aR (wA w) + s16 w).toNat, (k.dR (wD w)))] })

/-- ZW_LDX (R345). -/
def execZwLdx (dt core : Nat) (s : State) : Res := s.zwData dt core 0x32 (fun s k w =>
  { lands := [(4, .d (wD w), s.dmemRd core (k.aR (wA w) + (k.dR (wB w))).toNat)] })

/-- ZW_STX (R345). -/
def execZwStx (dt core : Nat) (s : State) : Res := s.zwData dt core 0x33 (fun _ k w =>
  { stores := [((k.aR (wA w) + (k.dR (wB w))).toNat, (k.dR (wD w)))] })

/-- The address register after LDP and STP, by ext[11:10] (Table 12-6). -/
def longUpdate (k : ZwCore) (w : Nat) : Nat × LandAt × Word :=
  let a := k.aR (wA w)
  let m := k.mR (wA w)
  let step := signedOf 10 (fieldOf 0 10 w)
  (1, .a (wA w % 8), match fieldOf 10 2 w with
    | 0 => a + BitVec.ofNat 32 (ofSigned 32 step)
    | 1 => moduloStep m a step
    | 2 => reversedStep m a step
    | _ => a + k.dR (wB w))

/-- ZW_LDP (R345). -/
def execZwLdp (dt core : Nat) (s : State) : Res := s.zwData dt core 0x34 (fun s k w =>
  { lands := [(4, .d (wD w), s.dmemRd core (k.aR (wA w)).toNat), longUpdate k w] })

/-- ZW_STP (R345). -/
def execZwStp (dt core : Nat) (s : State) : Res := s.zwData dt core 0x35 (fun _ k w =>
  { lands := [longUpdate k w], stores := [((k.aR (wA w)).toNat, (k.dR (wD w)))] })

/-- ZW_LDA (R345). -/
def execZwLda (dt core : Nat) (s : State) : Res := s.zwData dt core 0x36 (fun s k w =>
  { lands := [(4, .a (wD w % 8), s.dmemRd core (k.aR (wA w) + s16 w).toNat)] })

/-- ZW_STA (R345). -/
def execZwSta (dt core : Nat) (s : State) : Res := s.zwData dt core 0x37 (fun _ k w =>
  { stores := [((k.aR (wA w) + s16 w).toNat, k.aR (wD w))] })

/-! ## Long words: control flow (R349 to R354) -/

/-- A control word has issued and execution goes on at an address. -/
def State.ctlGo (s : State) (c pc : Nat) : State := s.modZw c (fun k => { k with n := k.n + 1, pc := pc % imemWords c })

/-- A branch: two delay slots, then the target if it is taken (R349). -/
def State.branch (s : State) (c : Nat) (target : Option Nat) : State :=
  (s.ctlGo c ((s.zw c).pc + 1)).modZw c (fun k => { k with delay := some (2, target.map (· % imemWords c)) })

/-- A call pushes the address of the word after the second delay slot (R351). -/
def State.call (s : State) (c target : Nat) : State :=
  let k := s.zw c
  if 64 ≤ k.stack.length then s.zwStackFault c
  else (s.modZw c (fun k => { k with stack := (k.pc + 3) % imemWords c :: k.stack })).branch c (some target)

/-- A loop level is set (R353). -/
def State.loopSet (s : State) (c l : Nat) (count : Word) (body : Nat) : State :=
  let pc := (s.zw c).pc
  let stop := (pc + body) % imemWords c
  if count = 0 then (s.modZw c (fun k => (k.setLc l 0).setLevel l ⟨false, 0, 0⟩)).ctlGo c (pc + body + 1)
  else (s.modZw c (fun k => (k.setLc l count).setLevel l ⟨true, (pc + 1) % imemWords c, stop⟩)).ctlGo c (pc + 1)

/-- ZW_BR (R349). -/
def execZwBr (dt core : Nat) (s : State) : Res := s.zwControl dt core 0x40 (fun s k w =>
  s.branch core (if condHolds (wD w) k.st then some (wImm w) else none))

/-- ZW_JR (R349): the target is read at issue. -/
def execZwJr (dt core : Nat) (s : State) : Res := s.zwControl dt core 0x41 (fun s k w =>
  s.branch core (if condHolds (wD w) k.st then some (fieldOf 0 16 (k.dR (wA w)).toNat) else none))

/-- ZW_CALL (R351). -/
def execZwCall (dt core : Nat) (s : State) : Res := s.zwControl dt core 0x42 (fun s _ w => s.call core (wImm w))

/-- ZW_CALLR (R351). -/
def execZwCallr (dt core : Nat) (s : State) : Res := s.zwControl dt core 0x43 (fun s k w =>
  s.call core (fieldOf 0 16 (k.dR (wA w)).toNat))

/-- ZW_RET (R351). -/
def execZwRet (dt core : Nat) (s : State) : Res := s.zwControl dt core 0x44 (fun s k _ =>
  match k.stack with
  | [] => s.zwStackFault core
  | t :: rest => (s.modZw core (fun k => { k with stack := rest })).branch core (some t))

/-- ZW_LOOP (R353). -/
def execZwLoop (dt core : Nat) (s : State) : Res := s.zwControl dt core 0x45 (fun s k w =>
  s.loopSet core (wD w % 2) (k.dR (wA w)) (wExt w + 1))

/-- ZW_LOOPI (R353). -/
def execZwLoopi (dt core : Nat) (s : State) : Res := s.zwControl dt core 0x46 (fun s _ w =>
  s.loopSet core (wD w % 2) (BitVec.ofNat 32 (fieldOf 6 10 w)) (fieldOf 0 6 w + 1))

/-! ## Long words: events (R355 to R357, R365) -/

/-- A WAIT that has drained: it continues with the masked bits in D, or blocks (R357). -/
def State.waitFor (s : State) (c d : Nat) (mask : Word) : State :=
  let v := s.evtOf c &&& mask
  let s1 := s.ctlGo c ((s.zw c).pc + 1)
  if v ≠ 0 then (s1.modZw c (fun k => { k with d := k.d.put 0 d v })).clearEvt c v
  else (s1.modZw c (fun k => { k with waiting := some (mask, d) })).setRun c 2

/-- ZW_WAIT (R357): the mask is read once every earlier result is visible. -/
def execZwWait (dt core : Nat) (s : State) : Res := s.zwControl dt core 0x47 (fun s _ w =>
  let s1 := s.drain core
  s1.waitFor core (wD w) ((s1.zw core).dR (wA w)))

/-- ZW_WAITI (R357). -/
def execZwWaiti (dt core : Nat) (s : State) : Res := s.zwControl dt core 0x48 (fun s _ w =>
  (s.drain core).waitFor core (wD w) (BitVec.ofNat 32 (if wA w % 2 = 1 then wImm w * 65536 else wImm w)))

/-- ZW_POLL (R357). -/
def execZwPoll (dt core : Nat) (s : State) : Res := s.zwData dt core 0x49 (fun s _ w =>
  effReg (.d (wD w)) (s.evtOf core))

/-- ZW_EVCLR (R355). -/
def execZwEvclr (dt core : Nat) (s : State) : Res :=
  let s1 := s.tick dt
  let w := s1.nextWord core
  .next (if s1.issues core && !bitOf 31 w && decide (wOp w = 0x4A) then
      let s2 := s1.settle core
      (s2.clearEvt core ((s2.zw core).dR (wA w))).advance core
    else s1)

/-- ZW_HALT (R352). -/
def execZwHalt (dt core : Nat) (s : State) : Res := s.zwControl dt core 0x4B (fun s _ _ => s.zwStop core 1)

/-! ## Long words: remote commands (R340, R360, R361) -/

/-- A command enters the queue; with the queue full the core freezes until an entry is free, and the word issues then (R340). -/
def State.remote (s : State) (dt c op : Nat) (f : State → ZwCore → Nat → RemoteCmd) : Res :=
  let s1 := s.tick dt
  let w := s1.nextWord c
  .next (if s1.issues c && !bitOf 31 w && decide (wOp w = op) then
      if 16 ≤ (s1.zw c).queue.length then s1.setRun c 3
      else
        let s2 := (s1.settle c).setRun c 1
        (s2.modZw c (fun k => { k with queue := k.queue ++ [f s2 k w] })).advance c
    else s1)

/-- ZW_GET (R360). -/
def execZwGet (dt core : Nat) (s : State) : Res := s.remote dt core 0x50 (fun _ k w =>
  ⟨true, fieldOf 8 3 w, (k.dR (wA w)).toNat, (k.aR (wD w)).toNat, [], fieldOf 0 8 w + 1⟩)

/-- ZW_PUT (R361): the source words are read at issue. -/
def execZwPut (dt core : Nat) (s : State) : Res := s.remote dt core 0x51 (fun s k w =>
  ⟨false, fieldOf 8 3 w, (k.dR (wA w)).toNat, 0,
    (List.range (fieldOf 0 8 w + 1)).map (fun i => s.dmemRd core ((k.aR (wD w)).toNat + i)), fieldOf 0 8 w + 1⟩)

/-- ZW_PUTR (R361). -/
def execZwPutr (dt core : Nat) (s : State) : Res := s.remote dt core 0x52 (fun _ k w =>
  ⟨false, fieldOf 8 3 w, (k.dR (wA w)).toNat, 0, [k.dR (wD w)], 1⟩)

/-- Whether a long opcode is one of Table 12-5. -/
def longKnown (op : Nat) : Bool :=
  decide (op ≤ 0x1D) || (decide (0x20 ≤ op) && decide (op ≤ 0x24)) || (decide (0x28 ≤ op) && decide (op ≤ 0x2E))
    || (decide (0x30 ≤ op) && decide (op ≤ 0x37)) || (decide (0x40 ≤ op) && decide (op ≤ 0x4B))
    || (decide (0x50 ≤ op) && decide (op ≤ 0x52))

/-- ZW_RESERVED_LONG_WORD (R335): FS97, and the core stops with REASON 2. -/
def execZwReservedLongWord (dt core : Nat) (s : State) : Res :=
  let s1 := s.tick dt
  let w := s1.nextWord core
  .next (if s1.issues core && !bitOf 31 w && !longKnown (wOp w) then (s1.settle core).zwIllegal core else s1)

end Sys2Proof.Machine
end

