-- ==== Sys2Proof/Machine/Reset.lean ====
section
/-! DEFINITION. What a power domain loses and keeps when it is reset or has been Off (R400, R437), and the journaled set (R450). -/

namespace Sys2Proof.Machine

/-! ## The journaled set -/

/-- The home copy with the durable records of the log applied, in log order (R444, R450). -/
def State.homeNow (s : State) : SMap Nat :=
  (s.jrn.log.filter (·.durable)).foldl (fun m r => r.entries.foldl (fun m e => m.set e.1 e.2) m) s.jrn.home

/-- The register that a journal entry names: an indirect table's by its selector (R449). -/
def homeKey (k : Nat) : Nat :=
  let a := jAddr k
  let off := a % 4096
  if blockOfPage (a / 4096) = some .cnv ∧ ((R.CNV_TILE_D ≤ off ∧ off < R.CNV_TILE_D + 40) ∨ (R.CNV_CELL_D ≤ off ∧ off < R.CNV_CELL_D + 12)) then
    rkSel (a / 4096) off (jSel k)
  else protKey a (jSel k)

/-! ## Registers of a domain -/

/-- Whether a page's registers stand in a domain. The CNV and WIN pages are held on both composition dies (R499): they go with a die
only while the other one is Off. -/
def Bus.inDomain (b : Bus) (d page : Nat) : Bool :=
  match blockOfPage page with
  | some .cnv => (decide (d = 19) && decide (b.domState 20 = 4)) || (decide (d = 20) && decide (b.domState 19 = 4))
  | some .win => (decide (d = 19) && decide (b.domState 20 = 4)) || (decide (d = 20) && decide (b.domState 19 = 4))
  | _ => decide (pwrDomain page = d)

/-- What is left of a register: nothing of it, the bits in `keep`, or all of it where it names a first-error record or is the role of a
worker or lane. -/
def keptValue (k v keep : Nat) : Nat :=
  maskOf keep v + maskOf (maxWord - keep) (resetNat k)

/-- The bits of a register that the mirror holds: RW, RWS and RWL; with the mirror lost those bound to an epoch or a proposal
(R437). -/
def mirrorBits (page off : Nat) (lost : Bool) : Nat :=
  if off = hdrFaultFirst then maxWord
  else match regDefAt page off with
    | some d => if lost then d.rws ||| d.rwl else d.rw ||| d.rws ||| d.rwl
    | none => if lost then 0 else if off = hdrPageCtrl ∨ off = hdrShadowCtrl then 3 else if off = hdrPageStatus then 1 else if off = hdrEvtEnable then maxWord else 0

/-- The registers of a domain go to reset; `bits` says which bits of each are kept. -/
def Bus.regsReset (b : Bus) (d : Nat) (bits : Nat → Nat → Nat) : Bus :=
  let ks := b.regs.cells.filter (fun p => b.inDomain d (keyPage p.1))
  let b1 := ks.foldl (fun a p => a.wr p.1 (keptValue p.1 p.2.toNat (bits (keyPage p.1) (keyOff p.1)))) b
  { b1 with shadow := ⟨b1.shadow.cells.filter (fun p => !b.inDomain d (keyPage p.1) || decide (bits (keyPage p.1) (keyOff p.1) ≠ 0))⟩ }

/-! ## Units of a domain -/

/-- The sparse memory that holds words from address 0 on. -/
def memOf (l : List Word) : SMap Word :=
  (l.foldl (fun (a : SMap Word × Nat) w => (a.1.put 0 a.2 w, a.2 + 1)) (SMap.empty, 0)).1

/-- A core's memories as the running image gives them to a logical worker (R434, R464). -/
def State.workerLoad (s : State) (c logical : Nat) : State :=
  match s.upd.items.workers.find? (fun x => decide (x.1 = logical)) with
  | some x => s.modZw c (fun k => { k with imem := memOf x.2.1, dmem := memOf x.2.2 })
  | none => s

/-- The logical worker of a worker page, if it is assigned one (Table 12-11). -/
def State.lworker (s : State) (c : Nat) : Option Nat :=
  let k := zwkKey c R.ZWK_STATUS
  if s.fld k 6 2 = 1 ∧ s.fld k 8 8 ≠ 255 then some (s.fld k 8 8) else none

/-- Everything a store received is gone; its blocks, engine and frame numbers stay. -/
def State.storeBlank (s : State) (j : Nat) : State :=
  let x := s.store j
  s.setStore j { Store.init with blocks := x.blocks, engine := x.engine, nextId := x.nextId, closing := x.closing }

/-- The work of a domain is gone (R85, R438): queues are empty, cores stop, links go down. -/
def State.unitsReset (s : State) (d : Nat) : State :=
  if 4 ≤ d ∧ d ≤ 9 then
    (List.range 16).foldl (fun a i =>
      let c := 16 * (d - 4) + i
      ({ a with cores := a.cores.erase c }.on (fun b => { b with evt := b.evt.erase c })).disarm (tCore c)) s
  else if d = 10 then
    { s with
      fab := { Fab.init with pfcReq := s.fab.pfcReq, nextId := s.fab.nextId, nextSeq := s.fab.nextSeq }
      str := { s.str with pairs := ⟨s.str.pairs.cells.map (fun p => (p.1, { p.2 with newest := none, seen := [] }))⟩, moves := SMap.empty, waits := [] }
      val := { s.val with queue := [] } }
  else if 11 ≤ d ∧ d ≤ 18 then (List.range 64).foldl (fun a i => a.linkDown (64 * (d - 11) + i)) s
  else if d = 19 ∨ d = 20 then ((List.range 1024).filter (fun j => decide (s.fsDie j = d - 19))).foldl State.storeBlank s
  else if d = 21 then (s.comp.stores.cells.map (·.1)).foldl State.storeBlank s
  else if d = 1 then
    let s1 := (List.range 64).foldl State.litStop s
    let s2 := (List.range 2).foldl State.mtxStop s1
    let s3 := (List.range 12).foldl State.stageDisable s2
    { (List.range 8).foldl State.tokDisable s3 with coils := SMap.empty, can := SMap.empty, swi := Switches.init }
  else s

/-- A domain that has been Off: its registers are at reset and its work is gone; its configuration is still to be re-applied (R400). -/
def State.domOff (s : State) (d : Nat) : State :=
  let s1 := (s.unitsReset d).on (·.regsReset d (fun _ _ => 0))
  { s1 with power := { s1.power with blank := d :: s1.power.blank } }

/-- The keeper re-applies the journaled configuration of a domain (R400, R437). -/
def State.reapply (s : State) (d : Nat) : State :=
  (s.homeNow.cells.filter (fun e => decide (keyPage (homeKey e.1) ≠ 0) && (decide (pwrDomain (keyPage (homeKey e.1)) = d)
      || (decide (d = 20) && decide (pwrDomain (keyPage (homeKey e.1)) = 19))))).foldl (fun a e => a.wr (homeKey e.1) e.2) s

/-- The units of a domain that are enabled start again after rung 4 (R437). -/
def State.unitsStart (s : State) (d : Nat) : State :=
  if 4 ≤ d ∧ d ≤ 9 then
    (List.range 16).foldl (fun a i =>
      let c := 16 * (d - 4) + i
      match a.lworker c with
      | some l => if a.bit (zwkKey c R.ZWK_CTRL) 0 then (a.workerLoad c l).zwStart c (a.fld (zwkKey c R.ZWK_ENTRY) 0 14) else a.workerLoad c l
      | none => a) s
  else if d = 1 then
    let s1 := ((List.range 64).filter (fun c => s.pageEn (litPage c))).foldl State.litStart s
    let s2 := ((List.range 2).filter (fun m => s.pageEn (mtxPage m))).foldl State.mtxStart s1
    let s3 := ((List.range 12).filter (fun n => s.pageEn (stgPage n))).foldl State.stageStart s2
    let s4 := ((List.range 8).filter (fun n => s.pageEn (tokPage n))).foldl State.tokEnable s3
    ((List.range 16).filter (fun n => s.pageEn (canPage n))).foldl State.integrate s4
  else s.lanesReport

/-- Rung 4 (Table 15-4, R437): a domain is reset and its configuration re-applied from the mirror, or the journaled set alone where the
mirror is lost; workers keep the roles they have. -/
def State.domReset (s : State) (d : Nat) : State :=
  let lost := s.bit (fltKey R.FLT_STATUS) 8
  let bits := fun page off => if blockOfPage page = some .zwk ∧ off = R.ZWK_STATUS then 0xFFC0
    else if blockOfPage page = some .cmp ∧ off = R.CMP_STATUS then maxWord else mirrorBits page off lost
  let s1 := ((s.unitsReset d).on (·.regsReset d bits)).on (fun b => { b with halted := b.halted.filter (· != d) })
  let s2 := if lost then s1.reapply d else s1
  s2.unitsStart d

/-- Work in flight is lost as the device goes into Deep at once (R417). -/
def State.dropWork (s : State) : State :=
  { s with
    page := PageState.init
    fab := { s.fab with stage := SMap.empty, sending := SMap.empty, storeIn := SMap.empty, pumpIn := SMap.empty, valIn := [] }
    val := { s.val with queue := [] }
    coils := ⟨s.coils.cells.map (fun p => (p.1, { p.2 with drive := CoilDrive.off }))⟩ }

end Sys2Proof.Machine
end

