-- ==== Sys2Proof/Machine/Power.lean ====
section
/-! DEFINITION. Power domains, the device ladder, Watch and the budget scheduler (R399 to R421): the meanings of the commands of
chapter 14. -/

namespace Sys2Proof.Machine

def budPage : Nat := Block.bud.pg 0
def budKey (off : Nat) : Nat := rk budPage off

/-- A write to the PWR or BUD page, or to a PWR_D page: VI 0 alone (R418, R419). -/
def State.pwrWrite (s : State) (vi page : Nat) (f : State → State) : State :=
  s.guardWrite vi page (fun s => if vi = 0 then f s else s.on (·.denied))

/-! ## Domains (R399, R400, R406, R407) -/

/-- Whether the outputs of a domain that loses power are latched: Deep and Off (R407). -/
def latches (st : Nat) : Bool := decide (3 ≤ st)

/-- A domain enters DRAINING (R406): FAB tells the pumps (R178). -/
def State.drainDom (s : State) (d : Nat) : State :=
  let s1 := { s.setDom d 5 with power := { s.power with since := s.power.since.set d s.bus.now } }
  if d = 10 then s1.pumpsFab true else s1

/-- Stages carry zero current and matrix lines are off while FIELD is out of Run (R403). -/
def State.fieldDark (s : State) : State :=
  let s1 := (List.range 12).foldl (fun a n =>
    (a.setStage' n { a.stage n with src := 0, dst := 0, duty := 0, since := a.bus.now }).wr (stgKey n R.STG_IOUT) 0) s
  (List.range 2).foldl (fun a m => a.setMtx m { a.mtx m with cols := [], off := true }) s1

/-- A domain leaves Run for a state: its pad latches engage in Deep and Off (R407). -/
def State.domDown (s : State) (d st : Nat) : State :=
  let s1 := s.setDom d st
  let s2 := if latches st && decide (1 ≤ d) then
      (s1.setBit (pwrKey R.PWR_PAD_HELD) d true).setBit (pwrDKey d R.PWR_D_STATUS) 8 true
    else s1
  let s3 := if d = 1 then s2.fieldDark else s2
  { s3 with power := { s3.power with since := s3.power.since.erase d } }

/-- The states a domain may take on its own (Table 14-1). -/
def ownStates (d : Nat) : List Nat :=
  if (4 ≤ d ∧ d ≤ 9) ∨ (11 ≤ d ∧ d ≤ 20) then [1, 2, 3, 4] else if d = 21 then [3, 4] else []

/-- Whether a composition die has no work: no enabled canvas has a tile on a logical lane it serves, and no enabled store stands on
it (Table 14-1). -/
def State.dieFree (s : State) (die : Nat) : Bool :=
  s.canvases.all (fun c => (s.canvasLanes c).all (fun n => decide (laneDie n ≠ die)))
    && (List.range 1024).all (fun j => !s.fsEn j || decide (s.fsDie j ≠ die))

/-- The condition of Table 14-1 for a domain to leave Run on its own. -/
def State.mayLeave (s : State) (d st : Nat) : Bool :=
  if d ≤ 9 then (List.range 16).all (fun i => decide (s.fld (zwkKey (16 * (d - 4) + i) R.ZWK_STATUS) 0 2 = 0))
  else if d ≤ 18 then (List.range 64).all (fun i => !s.bit (prtKey (64 * (d - 11) + i) hdrPageCtrl) 0)
  else if d ≤ 20 then s.dieFree (d - 19)
  else decide (s.bus.domState 19 ≠ 0) && decide (s.bus.domState 20 ≠ 0)
    && (decide (st = 3) || (List.range 1024).all (fun j => !s.fsEn j))

/-- A refused request on a domain (R400): REASON, a configuration error, EV42. -/
def State.domRefuse (s : State) (d reason : Nat) : State :=
  ((s.setFld (pwrDKey d R.PWR_D_STATUS) 4 4 reason).cfgErr (Block.pwrD.pg d)).raise (Block.pwrD.pg d) 6

/-- PWR_D_CTRL.REQ (R400, R419, Table 14-3). -/
def State.domRequest (s : State) (d req : Nat) : State :=
  if s.ladder.phase ≠ 0 then s.setFld (pwrDKey d R.PWR_D_STATUS) 4 4 1
  else if req = 0 then
    (if s.bit (pwrDKey d R.PWR_D_STATUS) 9 ∧ s.bus.domState d ≠ 5 ∧ s.bus.domState d ≠ 6 then
      let st := s.bus.domState d
      let s1 := (s.wr (pwrDKey d R.PWR_D_CTRL) 0).setDom d 6
      { s1 with power := { s1.power with target := s1.power.target.set d st, since := s1.power.since.set d s.bus.now } }
    else if (ownStates d).isEmpty then s.domRefuse d 5
    else s)
  else if !(ownStates d).contains req || decide (s.bus.domState d ≠ 0) || decide (s.pwrState ≠ 0) || !s.mayLeave d req then s.domRefuse d 5
  else
    let s1 := (((s.wr (pwrDKey d R.PWR_D_CTRL) req).setFld (pwrDKey d R.PWR_D_STATUS) 4 4 0).setBit (pwrDKey d R.PWR_D_STATUS) 9 true).drainDom d
    { s1 with power := { s1.power with target := s1.power.target.set d req } }

/-- PWR_D_REQUEST (R400). -/
def execPwrDRequest (dt vi domain value : Nat) (s : State) : Res :=
  .next ((s.tick dt).pwrWrite vi (Block.pwrD.pg domain) (·.domRequest domain (value % 8)))

/-! ## The device ladder (R401 to R405) -/

/-- The ranks of R402. -/
def ranks : List (List Nat) := [[19, 20, 11, 12, 13, 14, 15, 16, 17, 18, 4, 5, 6, 7, 8, 9], [10, 21], [1], [3, 2]]

/-- Every demand goes off on the way into Off, before rank 3 drains (R403). -/
def State.demandsOff (s : State) : State :=
  (List.range 24).foldl State.ldsRefresh { s with lds := { s.lds with allOff := true } }

/-- The commit point: the ladder waits for its state to be reached. A domain down on its own follows into a deeper state. -/
def State.ladderCommit (s : State) : State :=
  let t := s.ladder.target
  let s1 := (List.range 22).foldl (fun a d =>
    if a.bit (pwrDKey d R.PWR_D_STATUS) 9 ∧ a.bus.domState d < t ∧ a.bus.domState d ≠ 0 then a.domDown d t else a) s
  { s1 with ladder := { s1.ladder with phase := 2, draining := [] } }

/-- The next rank that holds a domain in Run drains; after the last one comes the commit point (R402). -/
def State.startRanks (s : State) (r : Nat) : List (List Nat) → State
  | [] => s.ladderCommit
  | ds :: t =>
    let s0 := if r = 3 ∧ s.ladder.target = 4 then s.demandsOff else s
    let l := ds.filter (fun d => decide (s0.bus.domState d = 0))
    if l.isEmpty then s0.startRanks (r + 1) t
    else l.foldl State.drainDom { s0 with ladder := { s0.ladder with rank := r, draining := l } }

/-- Entry to a state other than Run begins (R402, R403). -/
def State.ladderEnter (s : State) (t : Nat) : State :=
  let s1 := ((s.wr (pwrKey R.PWR_CTRL) t).setBit (pwrKey R.PWR_STATUS) 3 true).setFld (pwrKey R.PWR_STATUS) 4 4 0
  let s2 := ((s1.setBit (pwrKey R.PWR_STATUS) 16 true).setFld (pwrKey R.PWR_STATUS) 8 4 0).disarm tHeartbeat
  ({ s2 with ladder := { Ladder.init with phase := 1, target := t } }).startRanks 1 ranks

/-- REASON of a refused write of PWR_CTRL, with EV42 (R402). -/
def State.pwrRefuse (s : State) (reason : Nat) : State := (s.setFld (pwrKey R.PWR_STATUS) 4 4 reason).raise pwrPage 6

/-- PWR_CTRL.TARGET (R401, R402, Table 14-3, R417). -/
def State.pwrTarget (s : State) (t : Nat) : State :=
  if s.ladder.phase ≠ 0 then (if t = 0 then s.setFld (pwrKey R.PWR_STATUS) 4 4 1 else s.pwrRefuse 1)
  else if t = 0 then
    (if s.pwrState = 0 then s.wr (pwrKey R.PWR_CTRL) 0
     else if s.power.tripped then s.setFld (pwrKey R.PWR_STATUS) 4 4 6
     else (s.wr (pwrKey R.PWR_CTRL) 0).beginExit)
  else if (List.range 8).any (fun c => decide (s.coiPhase c = 1)) then s.pwrRefuse 2
  else if s.dkyState = 4 ∨ s.fld (updKey R.UPD_STATUS) 0 3 = 5 then s.pwrRefuse 3
  else if s.pwrState ≠ 0 then s.pwrRefuse 5
  else s.ladderEnter t

/-- PWR_TARGET_RUN (R401). -/
def execPwrTargetRun (dt vi : Nat) (s : State) : Res := .next ((s.tick dt).pwrWrite vi pwrPage (·.pwrTarget 0))
/-- PWR_TARGET_IDLE (R401, R402). -/
def execPwrTargetIdle (dt vi : Nat) (s : State) : Res := .next ((s.tick dt).pwrWrite vi pwrPage (·.pwrTarget 1))
/-- PWR_TARGET_SLEEP (R401, R402). -/
def execPwrTargetSleep (dt vi : Nat) (s : State) : Res := .next ((s.tick dt).pwrWrite vi pwrPage (·.pwrTarget 2))
/-- PWR_TARGET_DEEP (R401, R402). -/
def execPwrTargetDeep (dt vi : Nat) (s : State) : Res := .next ((s.tick dt).pwrWrite vi pwrPage (·.pwrTarget 3))
/-- PWR_TARGET_OFF (R401, R402, R403). -/
def execPwrTargetOff (dt vi : Nat) (s : State) : Res := .next ((s.tick dt).pwrWrite vi pwrPage (·.pwrTarget 4))

/-- Whether a write accepted before a domain drained has not taken effect yet (R86, R406). -/
def State.postedIn (s : State) (d : Nat) : Bool :=
  s.page.posted.cells.any (fun q => q.2.any (fun w => decide (pwrDomain (keyPage w.key) = d)))

/-- Microseconds since a domain began to drain, or to wake, rounded up. -/
def State.domUs (s : State) (d : Nat) : Nat := ceilDiv (s.bus.now - s.power.since.find s.bus.now d) 500

/-- DOMAIN_DRAIN_COMPLETE (R402, R406, R407): no request accepted before the drain is left. -/
def execDomainDrainComplete (dt domain : Nat) (s : State) : Res :=
  let s := s.tick dt
  let us := s.domUs domain
  .next (if s.bus.domState domain ≠ 5 ∨ s.postedIn domain = true ∨ 200 < us then s
    else
      let k := pwrDKey domain R.PWR_D_DRAIN
      let s1 := s.wr k (us + 256 * max us (s.fld k 8 8))
      if s.ladder.draining.contains domain then
        let s2 := s1.domDown domain s.ladder.target
        let rest := s.ladder.draining.filter (· != domain)
        let s3 := { s2 with ladder := { s2.ladder with draining := rest, down := domain :: s2.ladder.down } }
        if rest.isEmpty then s3.startRanks (s.ladder.rank + 1) (ranks.drop s.ladder.rank) else s3
      else s1.domDown domain (s.power.target.find 0 domain))

/-- DOMAIN_DRAIN_ABORT (R402, R406): not drained within 200 µs; the domain returns to Run, and with it every domain that this entry to
the ladder took down. -/
def execDomainDrainAbort (dt domain : Nat) (s : State) : Res :=
  let s := s.tick dt
  .next (if s.bus.domState domain ≠ 5 ∨ s.bus.now < s.power.since.find 0 domain + clkUs 200 then s
    else
      let s1 := (s.addSat (pwrDKey domain R.PWR_D_CNT_ABORT) 1).addSat (pwrKey R.PWR_CNT_ABORT) 1
      let s2 := (s1.fault 112 { page := Block.pwrD.pg domain }).raise (Block.pwrD.pg domain) 3
      let s3 := { s2 with power := { s2.power with since := s2.power.since.erase domain } }
      if s.ladder.draining.contains domain then s3.endEntry 4
      else
        let s4 := (s3.setDom domain 0).setBit (pwrDKey domain R.PWR_D_STATUS) 9 false
        (s4.wr (pwrDKey domain R.PWR_D_CTRL) 0).setFld (pwrDKey domain R.PWR_D_STATUS) 4 4 4)

/-- A ladder state is reached (Table 14-2): links go down from Sleep on, in Deep PCIe goes down and network sessions are closed; EV37.
A wake latched at or after the commit point begins the exit (Table 14-3). -/
def State.ladderReached (s : State) : State :=
  let t := s.ladder.target
  let s1 := (s.setFld (pwrKey R.PWR_STATUS) 0 3 t).setBit (pwrKey R.PWR_STATUS) 3 false
  let s2 := if 2 ≤ t then (List.range 512).foldl State.linkDown s1 else s1
  let s3 := if 3 ≤ t then
      ((s2.bus.sessions.cells.map (·.1)).foldl State.closeSession s2).on (fun b => { b with pcieUp := false })
    else s2
  let s4 := ({ s3 with ladder := { s3.ladder with phase := 0 } }).gptModes.raise pwrPage 1
  if s.ladder.latched && !s4.power.tripped then s4.beginExit else s4

/-- Run is reached (R401 to R405, R410): domains down on their own go back to the states asked for. -/
def State.ladderRun (s : State) : State :=
  let s1 := s.ladder.down.foldl (fun a d => a.setDom d 0) s
  let s2 := (List.range 22).foldl (fun a d =>
    if a.bit (pwrDKey d R.PWR_D_STATUS) 9 then a.setDom d (a.fld (pwrDKey d R.PWR_D_CTRL) 0 3) else a) s1
  let s3 := (s2.setFld (pwrKey R.PWR_STATUS) 0 3 0).setBit (pwrKey R.PWR_STATUS) 3 false
  let s4 := s3.runAgain.gptModes.raise pwrPage 1
  if s.ladder.woken then (s4.addWrap (pwrKey R.PWR_CNT_WAKE) 1).raise pwrPage 4 else s4

/-- A domain on its own reaches Run (R400); one that was Off has every register at its reset value. -/
def State.domRun (s : State) (d : Nat) : State :=
  let st := s.power.target.find 0 d
  let s1 := if st = 4 then s.domOff d else s
  let s2 := ((s1.setDom d 0).setBit (pwrDKey d R.PWR_D_STATUS) 9 false).setFld (pwrDKey d R.PWR_D_STATUS) 4 4 0
  { s2 with power := { s2.power with since := s2.power.since.erase d, target := s2.power.target.erase d } }

/-- LADDER_STATE_REACHED (R401, R400): the device reaches its ladder state or Run, or a domain on its own reaches Run, once the exit
time has passed. -/
def execLadderStateReached (dt : Nat) (domain : Option Nat) (s : State) : Res :=
  let s := s.tick dt
  .next (match domain with
    | none =>
      if s.ladder.phase = 2 then s.ladderReached
      else if s.ladder.phase = 3 then s.onExpiry tLadder State.ladderRun
      else s
    | some d =>
      if s.bus.domState d = 6 ∧ s.bit (pwrDKey d R.PWR_D_STATUS) 9 = true
          ∧ s.power.since.find 0 d + exitTime (s.power.target.find 0 d) ≤ s.bus.now then s.domRun d
      else s)

/-- DOMAIN_WAKE_TIMEOUT (R400): not in Run within twice the exit time: FS113, and the domain stays down. -/
def execDomainWakeTimeout (dt domain : Nat) (s : State) : Res :=
  let s := s.tick dt
  let st := s.power.target.find 0 domain
  .next (if s.bus.domState domain = 6 ∧ s.bit (pwrDKey domain R.PWR_D_STATUS) 9 = true
      ∧ s.power.since.find 0 domain + 2 * exitTime st ≤ s.bus.now then
      let s1 := (s.setDom domain st).fault 113 { page := Block.pwrD.pg domain }
      { s1 with power := { s1.power with since := s1.power.since.erase domain } }
    else s)

/-- PWR_PAD_RELEASE (R407, R400): a bit of a domain in Run releases its latches, after the keeper has re-applied the domain's journaled
configuration where it was Off; a bit of another domain is ignored with a configuration error. -/
def State.padRelease (s : State) (value : Nat) : State :=
  (List.range 22).foldl (fun a d =>
    if d = 0 ∨ !bitOf d value then a
    else if a.bus.domState d ≠ 0 then a.cfgErr pwrPage
    else
      let b := if a.power.blank.contains d then a.reapply d else a
      ({ b with power := { b.power with blank := b.power.blank.filter (· != d) } }.setBit (pwrKey R.PWR_PAD_HELD) d false).setBit
        (pwrDKey d R.PWR_D_STATUS) 8 false) s

/-- PAD_RELEASE (R407). -/
def execPadRelease (dt vi value : Nat) (s : State) : Res := .next ((s.tick dt).pwrWrite vi pwrPage (·.padRelease value))

/-! ## Watch (R408, R409) -/

/-- Whether a section is idle (Table 14-4). -/
def State.sectionIdle (s : State) (sec : Nat) : Bool :=
  if sec < 16 then
    !s.pageEn (canPage sec) || ((s.ctl sec).inProg.isNone && (List.range 3).all (fun b => !s.txWaits sec b))
  else if sec = 16 then true
  else if sec < 25 then (let st := s.tokState (sec - 17)
    decide (st = 0) || decide (st = 5) || decide (st = 1))
  else (List.range 8).all (fun c => decide (s.coiPhase c ≠ 1))

/-- WATCH_REQUEST (R409): a request, or a write of 0 that brings a section back. -/
def State.watchRequest (s : State) (value : Nat) : State :=
  let old := s.rd (pwrKey R.PWR_WATCH_REQ)
  let back := (List.range 26).filter (fun i => bitOf i old && !bitOf i value)
  let s1 := s.wr (pwrKey R.PWR_WATCH_REQ) (value % 2 ^ 26)
  back.foldl (fun a i => if a.bus.inWatch i && !a.watch.leaving.contains i then
    { a with watch := { a.watch with leaving := i :: a.watch.leaving } } else a) s1

/-- WATCH_REQUEST (R409). -/
def execWatchRequest (dt vi value : Nat) (s : State) : Res := .next ((s.tick dt).pwrWrite vi pwrPage (·.watchRequest value))

/-- Whether a write to a section's pages accepted before has not taken effect yet (R406, R409). -/
def State.sectionPosted (s : State) (sec : Nat) : Bool :=
  s.page.posted.cells.any (fun q => q.2.any (fun w => decide (sectionOf (keyPage w.key) = some sec)))

/-- WATCH_ENTRY (R408, R409): a requested section that is idle, and drained, enters Watch. -/
def execWatchEntry (dt sec : Nat) (s : State) : Res :=
  let s := s.tick dt
  .next (if sec < 26 ∧ s.bit (pwrKey R.PWR_WATCH_REQ) sec = true ∧ s.bus.inWatch sec = false ∧ s.watch.leaving.contains sec = false
      ∧ s.sectionIdle sec = true ∧ s.sectionPosted sec = false ∧ s.bus.domUp 1 = true then
      (s.setBit (pwrKey R.PWR_WATCH_STATE) sec true).raise pwrPage 5
    else s)

/-- WATCH_WAKE (R409). -/
def execWatchWake (dt sec : Nat) (s : State) : Res :=
  let s := s.tick dt
  .next (if sec < 26 then s.sectionWake sec else s)

/-- WATCH_RUN_REACHED (R409): the request bit clears, held fires apply, a held poll goes on with the selection of its card
(TOK_SELECT), EV41. -/
def execWatchRunReached (dt sec : Nat) (s : State) : Res :=
  let s := s.tick dt
  .next (if !s.watch.leaving.contains sec then s
    else
      let was := s.bus.inWatch sec
      let s1 := (s.setBit (pwrKey R.PWR_WATCH_REQ) sec false).setBit (pwrKey R.PWR_WATCH_STATE) sec false
      let s2 := { s1 with watch := { s1.watch with leaving := s1.watch.leaving.filter (· != sec) } }
      let s3 := if was then s2.raise pwrPage 5 else s2
      if sec = 25 then s.watch.fires.foldl (fun a f => a.coiFire f.1 f.2 false) { s3 with watch := { s3.watch with fires := [] } }
      else { s3 with watch := { s3.watch with polls := s3.watch.polls.filter (fun n => decide (n + 17 ≠ sec)) } })

/-! ## Wake sources (R410) -/

/-- WAKE_N_ASSERT (R410, R417): WAKE_N has been low for 1 ms. -/
def execWakeNAssert (dt : Nat) (s : State) : Res := .next ((s.tick dt).wake 0)

/-- PCIE_L1_EXIT (R410): the host asks to leave L1; there is no link in Deep. -/
def execPcieL1Exit (dt : Nat) (s : State) : Res :=
  let s := s.tick dt
  .next (if s.pwrState ≤ 2 then s.wake 7 else s)

/-! ## The budget scheduler (R411 to R417) -/

def State.budLevel (s : State) : Nat := s.fld (budKey R.BUD_STATUS) 0 6

/-- EGQ_PBUD of a port at a level: b eighths of the port rate withdrawn, in whole units of 64 kbit/s; 0 is no limit (Table 14-7,
R161). -/
def State.pbudAt (s : State) (p level : Nat) : Nat :=
  if level < 26 then 0 else (8 - min 7 (level - 25)) * (s.portRate p * 1562500) / 8

/-- The actions of a level (Table 14-7): those of all lower levels and its own. -/
def State.budActions (s : State) (level : Nat) : State :=
  let s1 := (List.range 16).foldl (fun a p => a.patHold p (decide (1 ≤ level))) s
  let s2 := (List.range 18).foldl (fun a n => a.setFld (cmpKey n R.CMP_STATUS) 8 4 (if 1 ≤ level then 2 else 8)) s1
  let s3 := (List.range 1024).foldl (fun a w => if a.winEn w then a.setFld (winReg w R.WIN_STATUS) 3 3 (a.rateDiv w) else a) s2
  (List.range 512).foldl (fun a p =>
    let b := if a.bit (prtKey p R.PRT_STATUS) 3 ∧ a.fld (egqPort p R.EGQ_PBUD) 0 24 ≠ a.pbudAt p level then
        (a.setFld (egqPort p R.EGQ_PBUD) 0 24 (a.pbudAt p level)).raiseEntry .egq 2 (32 * p)
      else a
    b.setPfcReq p (if level = 33 ∧ b.bit (prtKey p R.PRT_STATUS) 3 then b.fld (prtKey p R.PRT_PFC) 8 7 else 0)) s3

/-- LEVEL changes by one step (R415): EV52 or EV53, and the steps are counted. -/
def State.budStep (s : State) (up : Bool) : State :=
  let l := if up then s.budLevel + 1 else s.budLevel - 1
  let s1 := (s.setFld (budKey R.BUD_STATUS) 0 6 l).budActions l
  let s2 := { s1 with power := { s1.power with changed := s.bus.now, good := none } }
  if up then (s2.addWrap (budKey R.BUD_CNT_SHED) 1).raise budPage 0 else (s2.addWrap (budKey R.BUD_CNT_RESTORE) 1).raise budPage 1

/-- The target of a sensor in °C: the HBM stacks have their own (R413, Table 14-6). -/
def State.senTarget (s : State) (i : Nat) : Int :=
  (if 104 ≤ i ∧ i < 108 then s.fld (budKey R.BUD_TJ) 16 8 else s.fld (budKey R.BUD_TJ) 0 8 : Nat)

/-- A rail as configured, and its power in 10 mW: an invalid one counts at its RAIL_MAX (R412). -/
def railKey (r off : Nat) : Nat := rkSel budPage off r
def State.railEn (s : State) (r : Nat) : Bool := s.bit (railKey r R.BUD_RAIL_CFG) 7
def State.railPower (s : State) (r : Nat) : Nat :=
  if s.bit (railKey r R.BUD_RAIL_DATA) 16 then s.fld (railKey r R.BUD_RAIL_DATA) 0 16 else 10 * s.fld (railKey r R.BUD_RAIL_CFG) 16 16

/-- P in 10 mW (R412): the rails, and the change of the on-die estimate since the oldest of their readings; without rails the
estimate alone. -/
def State.powerEst (s : State) (activity : Nat) : Nat :=
  let l := (List.range 16).filter s.railEn
  let read := l.filterMap (fun r => (s.power.readAt.find? r).map (fun t => (t, s.power.act.find 0 r)))
  let oldest := read.foldl (fun (m : Option (Nat × Nat)) x => match m with | none => some x | some y => some (if x.1 < y.1 then x else y)) none
  if l.isEmpty then activity
  else
    let base := l.foldl (fun n r => n + s.railPower r) 0
    match oldest with
    | some x => base + activity - x.2
    | none => base

/-- The readings in 1/16 °C: an invalid sensor is taken at the highest valid one, and at a free value where none is valid (R413,
assumption log 4). -/
def State.sensors (s : State) (temps : List (Option Int)) : List Int :=
  let l := (List.range 128).map (fun i => (temps.getD i none))
  let top := l.foldl (fun (m : Option Int) x => match m, x with | none, y => y | y, none => y | some a, some b => some (max a b)) none
  l.map (fun x => match x with | some v => v | none => top.getD (signedOf 16 s.bus.fresh.toNat))

/-- The sensors' registers, BUD_TJ_MAX, FS115 for a sensor that becomes invalid, EV54 for one that rises above its target. -/
def State.budSense (s : State) (temps : List (Option Int)) : State :=
  let v := s.sensors temps
  let bad := (List.range 128).filter (fun i => (temps.getD i none).isNone)
  let hot := (List.range 128).filter (fun i => decide (16 * s.senTarget i < v.getD i 0))
  let best := (List.range 128).foldl (fun (m : Nat) i => if v.getD m 0 < v.getD i 0 then i else m) 0
  let s1 := (List.range 128).foldl (fun a i => a.wr (rkSel budPage R.BUD_SENS_DATA i)
    (ofSigned 16 (v.getD i 0) + 65536 * b2n (temps.getD i none).isSome)) s
  let s2 := (s1.wr (budKey R.BUD_TJ_MAX) (ofSigned 16 (v.getD best 0) + best * 65536)).on (fun b =>
    if bad.length = 128 then b.nextFree else b)
  let s3 := (bad.filter (fun i => !s.power.badSens.contains i)).foldl (fun a i => a.fault 115 { page := budPage, addr := i }) s2
  let s4 := (hot.filter (fun i => !s.power.hot.contains i)).foldl (fun a _ => a.raise budPage 2) s3
  { s4.setBit (budKey R.BUD_STATUS) 7 (!hot.isEmpty) with power := { s4.power with hot := hot, badSens := bad } }

/-- Whether every sensor is at or below its target minus THYST (R415, R417). -/
def State.coolEnough (s : State) (v : List Int) : Bool :=
  (List.range 128).all (fun i => decide (v.getD i 0 ≤ 16 * (s.senTarget i - (s.fld (budKey R.BUD_TJ) 8 8 : Nat))))

/-- What the scheduler does at a tick with P and the readings (R415, R416): shedding wins; MAX_LEVEL below LEVEL restores at once. -/
def State.budDecide (s : State) (p : Nat) (v : List Int) : State :=
  let cap := 100 * s.fld (budKey R.BUD_CAP) 0 10
  let hyst := 100 * s.fld (budKey R.BUD_HYST) 0 7
  let top := s.fld (budKey R.BUD_MAX_LEVEL) 0 6
  let s1 := s.setBit (budKey R.BUD_STATUS) 6 (decide (cap < p))
  let good := decide (p + hyst ≤ cap) && s.coolEnough v
  let s2 := { s1 with power := { s1.power with good := if good then some (s1.power.good.getD s.bus.now) else none } }
  let gap := decide (s.power.changed + clkUs (10 * s.fld (budKey R.BUD_SHED_GAP) 0 14) ≤ s.bus.now)
  let shed := (decide (cap < p) || !s.power.hot.isEmpty) && gap
  let s3 := if shed then s2 else s2.setBit (budKey R.BUD_STATUS) 8 false
  if top < s3.budLevel then s3.budStep false
  else if shed then
    (if s3.budLevel < top then s3.budStep true
     else if s3.bit (budKey R.BUD_STATUS) 8 then s3
     else ((s3.setBit (budKey R.BUD_STATUS) 8 true).raise budPage 3).fault 116 { page := budPage })
  else
    match s3.power.good with
    | some t => if 0 < s3.budLevel ∧ t + clkMs (s.fld (budKey R.BUD_RESTORE_HOLD) 0 16) ≤ s.bus.now then s3.budStep false else s3
    | none => s3

/-- With EN = 0 the level is 0 and every action is withdrawn. -/
def State.budOff (s : State) : State :=
  let s1 := (s.setFld (budKey R.BUD_STATUS) 0 6 0).budActions 0
  { s1 with power := { s1.power with changed := s1.bus.now, good := none } }

/-- BUDGET_TICK (R411 to R416): `temps` are the sensors' readings in 1/16 °C, `activity` the on-die estimate in 10 mW. With EN = 0 the
level is 0. A thermal trip ends once every sensor has cooled down (R417). -/
def execBudgetTick (dt : Nat) (temps : List (Option Int)) (activity : Nat) (s : State) : Res :=
  let s0 := s.tick dt
  let v := s0.sensors temps
  let s1 := s0.budSense temps
  let s2 := if s1.power.tripped && s1.coolEnough v then { s1 with power := { s1.power with tripped := false } } else s1
  let p := s2.powerEst activity
  let s3 := s2.wr (budKey R.BUD_P_EST) (min 65535 p)
  .next (if s3.bus.domUp 2 then
      (if s3.bit (budKey R.BUD_CTRL) 0 then s3.budDecide p v
       else
         let s4 := s3.setBit (budKey R.BUD_STATUS) 8 false
         if s4.budLevel = 0 then s4 else s4.budOff)
    else s2)

/-- A rail's validity changes: FS114 and EV56, and BUD_STATUS.RAIL_INVALID (R412). -/
def State.railValid (s : State) (r : Nat) (valid : Bool) : State :=
  let bad := s.power.badRails.contains r
  if bad != valid then s
  else
    let s1 := { s with power := { s.power with badRails := if valid then s.power.badRails.filter (· != r) else r :: s.power.badRails } }
    let s2 := (s1.setBit (railKey r R.BUD_RAIL_DATA) 16 valid).setBit (budKey R.BUD_STATUS) 9 (!s1.power.badRails.isEmpty)
    (s2.fault 114 { page := budPage, addr := r }).raise budPage 4

/-- PMBUS_POLL (R412): an enabled rail answers with its power in 10 mW; `activity` is the on-die estimate then. -/
def execPmbusPoll (dt rail power activity : Nat) (s : State) : Res :=
  let s := s.tick dt
  .next (if rail < 16 ∧ s.railEn rail = true ∧ s.bit (budKey R.BUD_PMBUS_CTRL) 0 = true then
      let s1 := if s.power.badRails.contains rail then s.railValid rail true else s.setBit (railKey rail R.BUD_RAIL_DATA) 16 true
      let s2 := s1.setFld (railKey rail R.BUD_RAIL_DATA) 0 16 (min 65535 power)
      { s2 with power := { s2.power with act := s2.power.act.set rail activity, readAt := s2.power.readAt.set rail s.bus.now } }
    else s)

/-- RAIL_INVALID (R412): a rail fails PEC or is silent for 10 ms, or is valid again. -/
def execRailInvalid (dt rail : Nat) (valid : Bool) (s : State) : Res :=
  let s := s.tick dt
  .next (if rail < 16 ∧ s.railEn rail = true then s.railValid rail valid else s)

/-- THERMAL_TRIP (R417): a sensor at or above 115 °C for 100 µs: FS117, and Deep at once without draining; work in flight is lost,
and load channels keep their states. -/
def execThermalTrip (dt sensor : Nat) (temp : Int) (s : State) : Res :=
  let s := s.tick dt
  .next (if temp < 16 * 115 ∨ 128 ≤ sensor ∨ 3 ≤ s.pwrState then s
    else
      let s1 := s.fault 117 { page := budPage, addr := sensor }
      let s2 := (List.range 21).foldl (fun a i => if a.bus.domState (i + 1) < 3 ∨ 5 ≤ a.bus.domState (i + 1) then a.domDown (i + 1) 3 else a) s1
      let s3 := (s2.setBit (pwrKey R.PWR_STATUS) 16 true).disarm tHeartbeat
      let s4 := { s3.dropWork with power := { s3.power with tripped := true } }
      ({ s4 with ladder := { Ladder.init with phase := 2, target := 3, down := (List.range 21).map (· + 1) } }).ladderReached)

end Sys2Proof.Machine
end

