-- ==== Sys2Proof/Machine/Window.lean ====
section
/-! DEFINITION. A VI's window (R91): which register an address of it names, which registers stand in the VI's own copy (R501), and which
are reached through a selector. -/

namespace Sys2Proof.Machine

/-- What an address of a VI's window names: the physical page and the offset in it (for an entry's slot, that of the physical slot); the
page as the VI numbers it, on which its own copies and event bits stand; its access (R90); and the entry, where the address lies in an
entry's slot. -/
structure Spot where
  page : Nat
  off : Nat
  view : Nat
  acc : Nat
  entry : Option Nat
  deriving DecidableEq, Repr

/-- The slot of an entry that an offset lies in, if any: rings, windows and frame stores (R182, R215). -/
def slotAt (blk : Block) (off : Nat) : Option (Nat × Nat) :=
  match blk with
  | .hqr => if 0x100 ≤ off ∧ off < 0x500 then some ((off - 0x100) / 0x40, 0x40) else none
  | .win =>
    if 0x100 ≤ off ∧ off < 0x300 then some ((off - 0x100) / 0x80, 0x80)
    else if 0x400 ≤ off ∧ off < 0x600 then some ((off - 0x400) / 0x80, 0x80)
    else none
  | _ => none

/-- What an address names for a VI; none where the page or the slot is absent (R91). -/
def Bus.resolve (b : Bus) (vi addr : Nat) : Option Spot :=
  let page := addr / 4096
  let off := addr % 4096 / 4 * 4
  match if asidePage page then none else rowOfPage page with
  | none => none
  | some r =>
    let i := page - r.page
    if !b.sees r.block vi then none
    else match r.grant with
    | .entry per _ _ =>
      (match slotAt r.block off with
       | some (slot, stride) =>
         (match b.physOf r.block vi (i * per + slot) with
          | some p => some ⟨r.page + p / per, off - slot * stride + p % per * stride, page, b.access r.block p vi, some p⟩
          | none => none)
       | none =>
         (match b.physOf (grantBlock r.block) vi (i * per) with
          | some p => some ⟨r.page + (if r.block = .cal then 0 else p / per), off, page,
              if vi = 0 then 2 else if b.grants.cells.any (fun g => decide (g.2.type = (grantBlock r.block).row.type)
                && decide (g.2.vi = vi) && decide (g.2.access = 2)) then 2 else 1, none⟩
          | none => none))
    | _ =>
      (match b.physOf r.block vi i with
       | some p => some ⟨r.block.pg p, off, r.block.pg p, b.access r.block p vi, none⟩
       | none => none)

/-- The block of a spot. -/
def Spot.block (sp : Spot) : Block := (blockOfPage sp.page).getD .dev

/-- The index of the spot's physical page in its block. -/
def Spot.idx (sp : Spot) : Nat := pageIndex sp.page

/-- The registers that each VI holds for itself (R501): selectors, the data words through which a selected entry is staged or read
back, counter snapshots and command status. -/
def ownCopy (blk : Block) (off : Nat) : Bool :=
  match blk with
  | .vim => [R.VIM_GRANT_SEL, R.VIM_VEC_SEL, R.VIM_NETID_SEL, R.MGT_ADDR_SEL].contains off
  | .pin => decide (off = R.PIN_SEL)
  | .vi => decide (off = R.VI_EVMAP_SEL)
  | .str => decide (0x040 ≤ off) && decide (off ≠ R.STR_CMD) && decide (off ≠ R.GRP_CMD) && decide (off < R.GRP_DYN)
  | .fab => decide (off = R.FAB_STAGE_SEL)
  | .cis => decide (off = R.CIS_CNT_SEL)
  | .egq => decide (off = R.EGQ_SEL) || decide (off = R.EGQ_PORT_SEL)
  | .cnv => decide (off = R.CNV_TILE_SEL) || decide (off = R.CNV_CELL_SEL) || (decide (R.CNV_TILE_D ≤ off) && decide (off < R.CNV_CELL_D + 12))
  | .val => decide (off = R.VAL_SRC_SEL) || decide (off = R.VAL_EP_SEL) || decide (off = R.VAL_EP_STATUS) || decide (off = R.VAL_MAP_SEL)
      || (decide (R.VAL_EP_D ≤ off) && decide (off < R.VAL_EP_D + 32))
  | .pat => decide (off = R.PAT_TBL_SEL)
  | .cal => [R.CAL_SEL, R.CAL_STATUS, R.CAL_D0, R.CAL_D1, R.CAL_MTX_SEL, R.CAL_NTC_SEL].contains off
  | .lds => decide (off = R.LDS_G_PROF_SEL)
  | .swi => decide (off = R.SWI_SEL)
  | .can => decide (off = R.CAN_FLT_SEL) || decide (off = R.CAN_TT_SEL) || (decide (R.CAN_FLT_D ≤ off) && decide (off < R.CAN_FLT_D + 12))
      || (decide (R.CAN_TT_D ≤ off) && decide (off < R.CAN_TT_D + 8))
  | .zwk => decide (off = R.ZWK_ROUTE_SEL)
  | .dky => [R.DKY_STAGE_SEL, R.DKY_PRIN_SEL, R.DKY_REVOKE_SEL].contains off
  | .idn => decide (off = R.IDN_REPORT_SEL) || decide (off = R.IDN_CERT_SEL)
  | .bud => decide (off = R.BUD_SENS_SEL) || decide (off = R.BUD_RAIL_SEL)
  | .flt => decide (off = R.FLT_REC_SEL) || decide (off = R.FLT_JRN_SEL)
  | .fltSrc => decide (off = R.FLT_SRC_SEL)
  | _ => false

/-- The key of a VI's own copy of a register. -/
def Spot.own (sp : Spot) (off vi : Nat) : Nat := rkVi sp.view off vi

/-- What a VI's own selector holds. -/
def Bus.sel (b : Bus) (sp : Spot) (off vi : Nat) : Nat := b.rd (sp.own off vi)

/-- A register reached through the reader's selector: its key and the VI's access to what is selected; `some none` where the selected
resource is absent, none where the register is no such register (R501). -/
def Bus.selected (b : Bus) (sp : Spot) (vi : Nat) : Option (Option (Nat × Nat)) :=
  let off := sp.off
  let pick := fun (s : Nat) => some (some (rkSel sp.page off s, sp.acc))
  match sp.block with
  | .vim =>
    if R.VIM_GRANT_D0 ≤ off ∧ off ≤ R.VIM_GRANT_D2 then pick (b.sel sp R.VIM_GRANT_SEL vi)
    else if off = R.VIM_VEC_DATA then pick (b.sel sp R.VIM_VEC_SEL vi)
    else if off = R.VIM_NETID_DATA then pick (b.sel sp R.VIM_NETID_SEL vi)
    else if off = R.MGT_ADDR_DATA then pick (b.sel sp R.MGT_ADDR_SEL vi)
    else none
  | .pin => if off = R.PIN_CLAIM ∨ off = R.PIN_LOCK then pick (b.sel sp R.PIN_SEL vi) else none
  | .vi => if off = R.VI_EVMAP_DATA then pick (b.sel sp R.VI_EVMAP_SEL vi) else none
  | .fab => if off = R.FAB_STAGE_OCC ∨ off = R.FAB_STAGE_DROP then pick (b.sel sp R.FAB_STAGE_SEL vi) else none
  | .cis => if R.CIS_OCC ≤ off ∧ off ≤ R.CIS_CNT_FLUSH then pick (b.sel sp R.CIS_CNT_SEL vi % 64) else none
  | .egq =>
    if R.EGQ_WCFG ≤ off ∧ off < R.EGQ_PORT_SEL then
      some ((b.physOf .egq vi (256 * (sp.view - Block.egq.base) + b.sel sp R.EGQ_SEL vi % 256)).map (fun w => (wellReg w off, b.access .egq w vi)))
    else if R.EGQ_PSCHED ≤ off ∧ off ≤ R.EGQ_PMOVES then
      some ((b.physOf .prt vi (b.sel sp R.EGQ_PORT_SEL vi)).map (fun p => (egqPort p off, b.access .prt p vi)))
    else none
  | .val =>
    if R.VAL_SRC_DEV ≤ off ∧ off < R.VAL_EP_SEL then
      some (((List.range 1024).filter (fun k => decide (b.access .val (256 * k) vi ≠ 0)))[b.sel sp R.VAL_SRC_SEL vi % 1024]?.map
        (fun k => (slotReg k off, b.access .val (256 * k) vi)))
    else if R.VAL_MAP_CTRL ≤ off ∧ off ≤ R.VAL_MAP_ROW_CELL then
      let s := b.sel sp R.VAL_MAP_SEL vi
      some (((List.range 1024).filter (fun k => decide (b.access .val (256 * k) vi ≠ 0)))[s % 1024]?.map
        (fun k => (if off < R.VAL_MAP_ROW_CH01 then mapReg k off else rowReg k (fieldOf 16 4 s) off, b.access .val (256 * k) vi)))
    else none
  | .pat => if off = R.PAT_TBL_DATA then pick (b.sel sp R.PAT_TBL_SEL vi) else none
  | .cal => if off = R.CAL_NTC_CFG ∨ off = R.CAL_NTC_TEMP then pick (b.sel sp R.CAL_NTC_SEL vi) else none
  | .lds =>
    if R.LDS_G_PROF_PEAK ≤ off ∧ off ≤ R.LDS_G_PROF_RUN then some (some (rkSel (Block.lds.pg 0) off (b.sel sp R.LDS_G_PROF_SEL vi), sp.acc))
    else none
  | .swi => if off = R.SWI_CFG then pick (b.sel sp R.SWI_SEL vi) else none
  | .zwk => if off = R.ZWK_ROUTE then pick (b.sel sp R.ZWK_ROUTE_SEL vi) else none
  | .dky =>
    if R.DKY_STAGE_ADDR ≤ off ∧ off ≤ R.DKY_STAGE_VALUE then pick (b.sel sp R.DKY_STAGE_SEL vi)
    else if R.DKY_PRIN_D ≤ off ∧ off < R.DKY_PRIN_D + 104 then pick (b.sel sp R.DKY_PRIN_SEL vi)
    else if off = R.DKY_REVOKE then pick (b.sel sp R.DKY_REVOKE_SEL vi)
    else none
  | .bud =>
    if off = R.BUD_SENS_DATA then pick (b.sel sp R.BUD_SENS_SEL vi)
    else if off = R.BUD_RAIL_CFG ∨ off = R.BUD_RAIL_DATA then pick (b.sel sp R.BUD_RAIL_SEL vi)
    else none
  | .fltSrc =>
    if [R.FLT_SRC_CFG, R.FLT_SRC_STATUS, R.FLT_SRC_CNT, R.FLT_SRC_GRACE_LEFT].contains off then pick (b.sel sp R.FLT_SRC_SEL vi) else none
  | _ => none

/-- The page that holds a register which several pages of a block show: load, coil and transceiver globals, the breakout of a port
group (R280, R300, R328, R100). -/
def Spot.home (sp : Spot) : Nat :=
  match sp.block with
  | .lds => if R.LDS_G_STATUS ≤ sp.off ∧ sp.off ≤ R.LDS_G_PROF_RUN then Block.lds.pg 0 else sp.page
  | .coi => if R.COI_G_VBOOST_SET ≤ sp.off ∧ sp.off ≤ R.COI_G_STATUS then Block.coi.pg 0 else sp.page
  | .wak => if sp.off = R.WAK_G_EXTWAKE then Block.wak.pg 0 else sp.page
  | .prt => if sp.off = R.PRT_GROUP then prtPage (sp.idx / 8 * 8) else sp.page
  | _ => sp.page

/-- The key of the register that a spot names, and the VI's access to it; none where what is selected is absent. -/
def Bus.keyOf (b : Bus) (sp : Spot) (vi : Nat) : Option (Nat × Nat) :=
  if ownCopy sp.block sp.off then some (sp.own sp.off vi, 2)
  else match b.selected sp vi with
    | some r => r
    | none => some (rk sp.home sp.off, sp.acc)

/-- The registers that VI 0 alone writes whoever owns the page (R168, R265, R280, R294, R300, R310, R328, R418, R419, R426, R454, R456). -/
def viZeroOnly (blk : Block) (off : Nat) : Bool :=
  match blk with
  | .pwr => decide (0x040 ≤ off)
  | .pwrD => decide (0x040 ≤ off)
  | .flt => decide (0x040 ≤ off) && decide (off ≠ R.FLT_REC_CLR)
  | .fltSrc => decide (off = R.FLT_SRC_FORCE)
  | .bst => decide (0x040 ≤ off)
  | .hqr => decide (0x100 ≤ off) && decide ((off - 0x100) % 0x40 = 0x30)
  | .cal => decide (off = R.CAL_NTC_CFG)
  | .lds => decide (R.LDS_G_STATUS ≤ off) && decide (off ≤ R.LDS_G_PROF_RUN) && decide (off ≠ R.LDS_G_PROF_SEL)
  | .coi => (decide (R.COI_G_VBOOST_SET ≤ off) && decide (off ≤ R.COI_G_STATUS)) || decide (R.COI_SEQ ≤ off)
  | .wak => decide (off = R.WAK_G_EXTWAKE)
  | _ => false

/-- The registers that a VI may write with read access (R376, R377, R385, R428, R431). -/
def openToReaders (blk : Block) (off : Nat) : Bool :=
  match blk with
  | .dky => [R.DKY_CMD, R.DKY_STAGE_HDR, R.DKY_STAGE_ADDR, R.DKY_STAGE_SELV, R.DKY_STAGE_VALUE, R.DKY_SIG_PRIN, R.DKY_SIG_CMD].contains off
      || (decide (R.DKY_SIG_R ≤ off) && decide (off < R.DKY_SIG_S + 48))
  | .idn => decide (off = R.IDN_CMD) || (decide (R.IDN_CHAL ≤ off) && decide (off < R.IDN_CHAL + 32))
  | .flt => decide (off = R.FLT_REC_CLR)
  | .fltSrc => decide (off = R.FLT_SRC_ACK)
  | _ => false

/-- A register with RWL bits alone (R92). -/
def rwlOnly (page off : Nat) : Bool :=
  match regDefAt page off with
  | some d => decide (d.rwl ≠ 0) && decide (d.rw = 0) && decide (d.rws = 0) && decide (d.w1c = 0)
  | none => false

/-- Whether a write of a register is dropped under R92: with read access alone, where VI 0 alone writes it, or to an RWL field. A VI's own
copies are its to write (R501, assumption log 12). -/
def Bus.deniesWrite (b : Bus) (sp : Spot) (vi : Nat) : Bool :=
  if ownCopy sp.block sp.off then false
  else if rwlOnly sp.page sp.off then true
  else if viZeroOnly sp.block sp.off then decide (vi ≠ 0)
  else if openToReaders sp.block sp.off then false
  else match b.keyOf sp vi with
    | some k => decide (k.2 < 2)
    | none => false

end Sys2Proof.Machine
end

