-- ==== Sys2Proof/Machine/View.lean ====
section
/-! DEFINITION. What a register reads as (R72, R8, R85, R92, R501): the header, the registers whose value the device works out when they are
read, and the reads that change state. -/

namespace Sys2Proof.Machine

/-! ## The header (Tables 3-1 and 3-2) -/

/-- The double-key operations that wait for the next global epoch (Table 13-5). -/
def State.opsStaged (s : State) : List ProtOp := if s.dkyState = 4 then s.dky.ops else []

/-- PAGE_DOMAIN of a page for a VI (R72, R85, R408, R499). -/
def State.pageDomain (s : State) (vi page : Nat) : Nat :=
  let row := rowOfPage page
  let clk := match row with | some r => r.clk | none => 4
  let both := decide (blockOfPage page = some .cnv) || decide (blockOfPage page = some .win)
  let d := if both then (if s.bus.domState 19 = 0 then 19 else 20) else pwrDomain page
  let ready := s.bus.pageUp page
  let posted := ((s.page.posted.find [] clk).filter (fun w => decide (w.vi = vi))).length
  d + clk * 2 ^ 5 + b2n ready * 2 ^ 9 + b2n (decide (s.bus.domState d = 5) && !s.bus.halted.contains d) * 2 ^ 10
    + b2n (!ready && decide (s.bus.domState d = 4) && !s.bus.halted.contains d) * 2 ^ 11 + min 255 posted * 2 ^ 16

/-- OWNER of a page for a VI. -/
def State.ownerWord (s : State) (vi : Nat) (sp : Spot) : Nat :=
  let own := fun (b : Bus) => match rowOfPage sp.page with
    | some r => (match r.grant with
      | .entry per _ _ => b.ownerOf r.block (sp.idx * per)
      | _ => b.ownerOfPage sp.page)
    | none => 0
  let o := own s.bus
  o + b2n (decide (o = vi)) * 2 ^ 10 + sp.acc * 2 ^ 11 + b2n (decide (own (s.bus.preview s.opsStaged) ≠ o)) * 2 ^ 13

/-- PAGE_ID of a page: its type, and its index as the reading VI numbers it (R91). -/
def pageIdWord (sp : Spot) (loc : Nat) : Nat :=
  match rowOfPage sp.page with
  | some r => (r.type + (loc - r.page) / 256) * 2 ^ 16 + (loc - r.page) % 256 * 2 ^ 8 + 1
  | none => 0

/-- The window slots that a VI holds on a WIN page (R208). -/
def State.heldSlots (s : State) (vi : Nat) (sp : Spot) : List Nat :=
  let i := sp.view - Block.win.base
  (List.range 4).filterMap (fun k => s.bus.physOf .win vi (4 * i + k))

/-- SHADOW_CTRL of a page for a VI (R74, R208). -/
def State.shadowWord (s : State) (vi : Nat) (sp : Spot) : Nat :=
  match sp.block with
  | .cnv => setFieldOf 0 2 2 (s.rd (rk sp.page hdrShadowCtrl))
  | .win => 2 + b2n ((s.heldSlots vi sp).any s.comp.wpend.contains) * 4 + b2n ((s.heldSlots vi sp).any s.comp.wlost.contains) * 8
  | _ => s.rd (rk sp.page hdrShadowCtrl)

/-- A header register. -/
def State.headerView (s : State) (vi : Nat) (sp : Spot) : Nat :=
  if sp.off = hdrPageStatus then
    (if entryGranted sp.page then setFieldOf 2 1 (s.fld (evKey sp.view hdrPageStatus vi) 2 1) (s.rd (rk sp.page hdrPageStatus))
     else s.rd (rk sp.page hdrPageStatus))
  else if sp.off = hdrEvtPend ∨ sp.off = hdrEvtEnable then
    (let v := s.rd (evKey sp.view sp.off vi)
     if sp.page = vimPage then setBitOf 1 false v else v)
  else if sp.off = hdrShadowCtrl then s.shadowWord vi sp
  else if sp.off = hdrEvtForce then 0
  else s.rd (rk sp.page sp.off)

/-! ## Registers whose value is worked out -/

/-- Ring bits of a page, of the rings that the VI holds on it (R176, R182). -/
def State.ringBits (s : State) (vi off : Nat) (sp : Spot) : Nat :=
  (List.range 16).foldl (fun a k =>
    match s.bus.physOf .hqr vi (16 * (sp.view - Block.hqr.base) + k) with
    | some r => if s.bit (rk (ringPage r) off) (r % 16) then a + 2 ^ k else a
    | none => a) 0

/-- The log region word by word (Table 15-16): a word of a record in the log, else 0. -/
def State.jrnWord (s : State) (a : Nat) : Nat :=
  match s.jrn.log.find? (fun r => decide ((a + logWords - r.pos) % logWords < r.len)) with
  | some r => r.words.getD ((a + logWords - r.pos) % logWords) 0
  | none => 0

/-- Seconds, or another unit of `clks` clocks, left on a timer, rounded up (assumption log 32). -/
def State.leftIn (s : State) (t clks : Nat) : Nat := ceilDiv (s.bus.left t) clks

/-- Word `i` of a first-error record (Table 15-3). -/
def FaultRec.word (r : FaultRec) (i : Nat) : Nat := [r.d0, r.d1, r.d2, r.d3, r.d4, r.d5, r.d6].getD i 0

/-- The word of the update buffer at a byte offset, big-endian (Table 16-13). -/
def State.updWord (s : State) (off : Nat) : Nat :=
  (List.range 4).foldl (fun n i => n * 256 + (s.upd.buf.find 0 (off + i)).toNat) 0

/-- The blocks of the image being received, and the first that is missing (Table 16-13). -/
def State.updTotal (s : State) : Nat := match s.upd.len with | some n => ceilDiv n 65536 | none => 0
def State.updMissing (s : State) : Option Nat := (List.range s.updTotal).find? (fun b => !s.upd.blocks.contains b)

def tTrial : Nat := timerId 37 0

/-- FLT_SRC_STATUS of a source (Table 15-17). -/
def State.srcStatus (s : State) (fs : Nat) : Nat :=
  let v := s.rd (fsKey fs R.FLT_SRC_STATUS)
  (if fsKnown fs then fsClass fs else 0) + fieldOf 2 5 v * 4 + b2n (fsFixed fs) * 2 ^ 7 + b2n (!fsKnown fs) * 2 ^ 8 + fieldOf 9 2 v * 2 ^ 9

/-- The registers of a block whose value is worked out when they are read; none for a register that is stored as it reads. -/
def State.special' (s : State) (vi : Nat) (sp : Spot) (req : Nat) : Option Nat :=
  let i := sp.idx
  let off := sp.off
  let snap := s.tim.snaps.find ⟨0, 0, 0, 0, 0⟩ req
  match sp.block with
  | .tim =>
    if off = R.TIM_NOW_S_HI then some snap.sHi else if off = R.TIM_NOW_S_LO then some snap.sLo
    else if off = R.TIM_NOW_NS then some snap.ns else if off = R.TIM_NOW_FRAC then some snap.frac
    else if off = R.TIM_PPS_CAP_NS then some snap.capNs else none
  | .gpt => if off = R.GPT_CAP_LO then some ((s.gptAt i).cap % 2 ^ 32) else none
  | .vim => if off = R.VIM_SESSIONS then some s.bus.sessions.cells.length else none
  | .pin =>
    if off = R.PIN_CLAIM then
      (let slot := s.bus.sel sp R.PIN_SEL vi
       some (setBitOf 17 (s.limp && decide (1024 ≤ slot) && decide (slot < 1048)) (s.rd (claimKey slot))))
    else none
  | .vi => if off = R.VI_STATUS then some (setBitOf 2 (s.bus.sessions.find? i).isSome (s.rd (rk sp.page off))) else none
  | .str =>
    if R.GRP_DYN ≤ off ∧ off < R.GRP_DYN + 64 then
      (match s.bus.physOf .str vi (fieldOf 0 13 (s.rd (sp.own R.GRP_SEL vi))) with
       | some g => some (fieldOf (8 * (off - R.GRP_DYN)) 32 (s.grp g).dyn)
       | none => some 0)
    else none
  | .hqr =>
    if off = R.HQR_PEND ∨ off = R.HQR_ERR_PEND then some (s.ringBits vi off sp)
    else match sp.entry with
      | some r =>
        if off = R.HQR_DB + 0x40 * (r % 16) then some (s.pOld r + b2n (s.bit (ringKey r R.HQR_STATUS) 2) * 2 ^ 31)
        else if off = R.HQR_MEM_DATA + 0x40 * (r % 16) then
          (let a := s.fld (ringKey r R.HQR_MEM_ADDR) 2 22 * 4
           some (if s.inWindow r a 4 then leVal (s.storeRead (s.storeAddr r a) 4) else 0))
        else none
      | none => none
  | .pmp =>
    if off = R.PMP_STATUS then some (setBitOf 0 (s.pumpUp i) (s.rd (rk sp.page off)))
    else if off = R.PMP_ERR_RING then
      (let v := s.rd (rk sp.page off)
       some (if bitOf 15 v then (match s.bus.localOf .hqr vi (v % 2 ^ 14) with | some j => j + 2 ^ 15 | none => 0) else 0))
    else none
  | .val => if R.VAL_CNT_FRAMES ≤ off ∧ vi ≠ 0 then some 0 else none
  | .pat => if R.PAT_PERIOD ≤ off ∧ off < R.PAT_PERIOD + 16 then some (patPeriod (s.patSteps i ((off - R.PAT_PERIOD) / 4))) else none
  | .cal =>
    if off = R.CAL_MTX_DATA then
      (let sel := s.rd (calReg vi R.CAL_MTX_SEL)
       match s.physRow vi (sel % 256) with
       | some k => some (if fieldOf 8 4 sel < 9 then s.mtxEntry k (fieldOf 8 4 sel) else 0)
       | none => some 0)
    else none
  | .swi =>
    if off = R.SWI_Q0 then some s.swiHead
    else if off = R.SWI_Q0 + 4 then some (stampW0 s.swi.snap) else if off = R.SWI_Q0 + 8 then some (stampW1 s.swi.snap)
    else if off = R.SWI_Q0 + 12 then some (stampW2 s.swi.snap) else none
  | .can =>
    if 0x400 ≤ off ∧ off < 0x800 then some (if (off - 0x400) % 0x80 / 4 < 21 then s.hpWord i ((off - 0x400) / 0x80) ((off - 0x400) % 0x80 / 4) else 0)
    else if 0x800 ≤ off ∧ off < 0x800 + 84 then some (s.rxfWord i ((off - 0x800) / 4))
    else none
  | .zwk =>
    if off = R.ZWK_PC then some (s.zw i).pc
    else if off = R.ZWK_EVT then some (s.evtOf i).toNat
    else if off = R.ZWK_IMEM_DATA then some (if s.zwStopped i then (s.imemRd i (s.rd (zwkKey i R.ZWK_IMEM_ADDR))).toNat else 0)
    else if off = R.ZWK_DMEM_DATA then some (if s.zwStopped i then (s.dmemRd i (s.rd (zwkKey i R.ZWK_DMEM_ADDR))).toNat else 0)
    else none
  | .keeper => if off = R.KPR_PC then some (s.zw (96 + i)).pc else if off = R.KPR_EVT then some (s.evtOf (96 + i)).toNat else none
  | .dky =>
    if off = R.DKY_STATUS then some (setBitOf 5 s.bound (setBitOf 4 s.bus.bootstrap (s.rd (dkyKey off))))
    else if off = R.DKY_EPOCH then some (s.rd (fltKey R.FLT_EPOCH))
    else if off = R.DKY_TIME_LEFT then some (s.leftIn tWindow (clkS 1))
    else if R.DKY_TOKKEY ≤ off ∧ off < R.DKY_TOKKEY + 16 then some 0
    else if off = R.DKY_PRIN_COUNT then some (s.bus.validPrins.length + min 15 s.bus.prinRoles.length * 2 ^ 8)
    else none
  | .idn =>
    if off = R.IDN_STATUS then some (setBitOf 2 s.bound (s.rd (idnKey off)))
    else if off = R.IDN_REPORT_DATA then
      some (if s.idn.reader = some vi then s.idn.report.getD (s.bus.sel sp R.IDN_REPORT_SEL vi) 0 else 0)
    else if off = R.IDN_CERT_DATA then some (s.idn.cert.getD (s.bus.sel sp R.IDN_CERT_SEL vi) 0)
    else none
  | .tok =>
    if off = R.TOK_LOCK_LEFT then some (min 4095 (s.leftIn (tLockout i) (clkS 1)))
    else if off = R.TOK_IDLE then some (min 65535 ((s.bus.now - (s.tok i).answered) / clkS 3600))
    else none
  | .flt =>
    if R.FLT_REC_D ≤ off ∧ off < R.FLT_REC_D + 28 then
      some (match s.bus.recs.find? (s.bus.sel sp R.FLT_REC_SEL vi % 256) with
        | some r => r.word ((off - R.FLT_REC_D) / 4)
        | none => 0)
    else if off = R.FLT_JRN_DATA then some (s.jrnWord (s.bus.sel sp R.FLT_JRN_SEL vi % logWords))
    else if off = R.FLT_EPOCH_LOG then some (setFieldOf 0 14 s.epochs.log.length (s.rd (fltKey off)))
    else none
  | .fltSrc =>
    let fs := 16 * i + s.bus.sel sp R.FLT_SRC_SEL vi % 16
    if off = R.FLT_SRC_STATUS then some (s.srcStatus fs)
    else if off = R.FLT_SRC_GRACE_LEFT then some (s.leftIn (tGrace fs) (clkUs 10))
    else none
  | .rng => if off = R.RNG_DATA then some (if s.rngReady && decide (sp.acc = 2) then s.bus.fresh.toNat else 0) else none
  | .upd =>
    if off = R.UPD_BUF_DATA then some (s.updWord (s.fld (updKey R.UPD_BUF_ADDR) 2 14 * 4))
    else if off = R.UPD_BLOCKS then some (s.upd.blocks.length % 1024 + s.updMissing.getD s.updTotal % 1024 * 2 ^ 16)
    else if off = R.UPD_CONFIRM_LEFT then some (s.leftIn tTrial (clkS 1))
    else none
  | _ => none

/-- The value a register reads as, side effects apart; a register that a VI does not hold reads 0. -/
def State.view (s : State) (vi req loc : Nat) (sp : Spot) : Nat :=
  if sp.off = hdrPageId then pageIdWord sp loc
  else if sp.off = hdrOwner then s.ownerWord vi sp
  else if sp.off = hdrPageDomain then s.pageDomain vi sp.page
  else if sp.off < 0x040 then s.headerView vi sp
  else match s.special' vi sp req with
    | some v => v
    | none => match s.bus.keyOf sp vi with
      | some k => if k.2 = 0 then 0 else s.bus.rdShadow k.1
      | none => 0

/-! ## Reads that change state -/

/-- A meaning that answers a next state, as a function of the state. -/
def Res.get (r : Res) (s : State) : State := match r with | .next t => t | _ => s

/-- What a read does besides (R51, R69, R92, R167, R284, R315, R366, Table 5-8, Table 16-7, Table 16-13): to the snapshots of the
requester, and, for a VI with the access of an owner, to the register's block. -/
def State.readEffect (s : State) (vi req : Nat) (sp : Spot) : State :=
  let i := sp.idx
  let off := sp.off
  let keep := fun (t : State) => t.on (fun b => { b with out := s.bus.out })
  match sp.block with
  | .tim =>
    if off = R.TIM_NOW_S_HI then (execTimNowSnapshot 0 req s).get s
    else if off = R.TIM_PPS_CAP_S then (execTimPpsCapSnapshot 0 req s).get s else s
  | .gpt => if off = R.GPT_CAP_LO then keep ((execGptCapLoRead 0 vi i false s).get s) else s
  | .fab =>
    if off = R.FAB_STAGE_OCC ∧ sp.acc = 2 then
      (let k := rkSel sp.page off (s.bus.sel sp R.FAB_STAGE_SEL vi)
       s.setFld k 8 8 (s.fld k 0 8))
    else s
  | .hqr =>
    (match sp.entry with
     | some r => if off = R.HQR_MEM_DATA + 0x40 * (r % 16) then keep ((execHqrMemDataAccess 0 vi r none s).get s) else s
     | none => s)
  | .swi => if off = R.SWI_Q0 then keep ((execSwiQueuePop 0 vi s).get s) else s
  | .can =>
    if 0x400 ≤ off ∧ off < 0x800 then
      (if (off - 0x400) % 0x80 = 0 then keep ((execCanHpWord0Read 0 vi i ((off - 0x400) / 0x80) s).get s)
       else if (off - 0x400) % 0x80 = 80 then keep ((execCanHpWord20Read 0 vi i ((off - 0x400) / 0x80) s).get s) else s)
    else if off = 0x800 then keep ((execCanRxfWord0Read 0 vi i s).get s)
    else if off = 0x850 then keep ((execCanRxfWord20Read 0 vi i s).get s)
    else s
  | .zwk =>
    if off = R.ZWK_IMEM_DATA then keep ((execZwkImemDataAccess 0 vi i none s).get s)
    else if off = R.ZWK_DMEM_DATA then keep ((execZwkDmemDataAccess 0 vi i none s).get s)
    else s
  | .rng => if off = R.RNG_DATA then keep ((execRngDataRead 0 vi s).get s) else s
  | .upd =>
    if off = R.UPD_BUF_DATA ∧ sp.acc = 2 then s.setFld (updKey R.UPD_BUF_ADDR) 2 14 (s.fld (updKey R.UPD_BUF_ADDR) 2 14 + 1) else s
  | _ => s

/-- A read of a window address by a requester with the rights of a VI (R84, R85, R91): the state after it, the value, and the status of
Table 3-8. -/
def State.readReg (s : State) (vi req addr : Nat) : State × Nat × Nat :=
  match s.bus.resolve vi addr with
  | none => (s, 0, 0)
  | some sp =>
    if sp.acc = 0 then (s, 0, 0)
    else if sp.off = hdrPageId ∨ sp.off = hdrOwner ∨ sp.off = hdrPageDomain then (s, s.view vi req (addr / 4096) sp, 0)
    else if !s.bus.pageUp sp.page then (s.on (·.late vi), maxWord, 1)
    else if blockOfPage sp.page = some .tim then
      (let s1 := s.readEffect vi req sp
       (s1, s1.view vi req (addr / 4096) sp, 0))
    else (s.readEffect vi req sp, s.view vi req (addr / 4096) sp, 0)

end Sys2Proof.Machine
end

