-- ==== Sys2Proof/Machine/PageOps.lean ====
section
/-! DEFINITION. What a write of the page header does (R73, R74, R80, R95, R141, R208): enable, soft reset, commit and event bits; and the
resets of a PCIe function (R87, R500). -/

namespace Sys2Proof.Machine

/-! ## Which page a command names -/

/-- The spot of a page for a VI: a page granted by page or fixed by its physical number, one granted by entry as the VI numbers it
(R91). -/
def Bus.spotOf (b : Bus) (vi page off : Nat) : Option Spot :=
  if entryGranted page then b.resolve vi (page * 4096 + off)
  else if b.pageAccess page vi = 0 then none else some ⟨page, off, page, b.pageAccess page vi, none⟩

/-- A write of a page's header by a VI (R85, R91, R92). -/
def State.pageWrite (s : State) (vi page : Nat) (f : Spot → State → State) : State :=
  match s.bus.spotOf vi page hdrPageCtrl with
  | none => s
  | some sp =>
    if !s.bus.pageUp sp.page then s.on (·.late vi)
    else if sp.acc < 2 then s.on (·.denied)
    else f sp s

/-! ## Enable (R95, Table 3-2) -/

/-- A controller leaves bus traffic: a frame in progress fails and its request stays pending (R309); bus-off lasts (R311). -/
def State.canDisable (s : State) (n : Nat) : State :=
  let s1 := match (s.ctl n).inProg with | some b => s.setTxStat n b 1 | none => s
  let s2 := s1.modCtl n (fun c => { c with inProg := none, cancel := false, windows := [] })
  let s3 := (s2.setBit (canKey n R.CAN_STATUS) 5 false).disarm (tBoff n)
  if s3.fld (canKey n R.CAN_STATUS) 0 2 = 2 then s3 else s3.setFld (canKey n R.CAN_STATUS) 0 2 3

/-- A controller is enabled: bus monitoring is forced before SERVICE_READY (R305); one that is bus-off starts its recovery (R311). -/
def State.canEnable (s : State) (n : Nat) : State :=
  let s1 := s.setBit (canKey n R.CAN_STATUS) 2 (!s.serviceReady)
  if s1.fld (canKey n R.CAN_STATUS) 0 2 = 2 then (s1.disarm (tBoff n)).modCtl n (fun c => { c with recovering := true })
  else s1.integrate n

/-- What starts when a block is enabled. -/
def State.blockStart (s : State) (page : Nat) : State :=
  let i := pageIndex page
  match blockOfPage page with
  | some .lit => s.litStart i
  | some .mtx => s.mtxStart i
  | some .stg => s.stageStart i
  | some .tok => s.tokEnable i
  | some .can => s.canEnable i
  | _ => s

/-- A load channel is disabled: off, and off until its demand has been off (R274; assumption log 24). -/
def State.ldsDisable (s : State) (ch : Nat) : State :=
  (s.ldsOff ch).modLds (fun l => { l with needLow := (ch :: l.needLow).eraseDups })

/-- What stops when a block is disabled (R150, R241, R293, R309). -/
def State.blockStop (s : State) (page : Nat) : State :=
  let i := pageIndex page
  match blockOfPage page with
  | some .lit => s.litStop i
  | some .mtx => s.mtxStop i
  | some .stg => s.stageDisable i
  | some .tok => s.tokDisable i
  | some .prt => s.linkDown i
  | some .can => s.canDisable i
  | some .coi => s.coiAbort i
  | some .lds => s.ldsDisable i
  | _ => s

/-- A page's block is disabled, its claims released (R95). -/
def State.pageDisable (s : State) (page : Nat) : State :=
  if blockOfPage page = some .cnv then s.cnvDisable (pageIndex page)
  else if s.bit (rk page hdrPageCtrl) 0 then
    ((((s.setBit (rk page hdrPageCtrl) 0 false).setBit (rk page hdrPageStatus) 0 false).on (·.releaseClaims page)).blockStop page)
  else s

/-- Whether a port may be enabled: active under its group's breakout, and its lane die has passed BIST (R99, R440). -/
def State.prtAllowed (s : State) (p : Nat) : Bool :=
  s.bit (prtKey p R.PRT_STATUS) 3 && !s.bit (rk (Block.bst.pg (35 + p / 64)) R.BST_UNUSABLE) 0

/-- A page's block is enabled: it claims its slots first, and drives nothing where one is held or locked (R95, R96); a reader port claims
its relay's channel on its own (R392). -/
def State.pageEnable (s : State) (page : Nat) (slots : List Nat) : State :=
  let i := pageIndex page
  if blockOfPage page = some .cnv then s.cnvEnable i
  else if s.bit (rk page hdrPageCtrl) 0 then s
  else if blockOfPage page = some .prt ∧ s.prtAllowed i = false then s.cfgErr page
  else
    let want := if blockOfPage page = some .tok then [] else slots
    let ok := want.all (fun sl => s.bus.mayClaim sl (fnCode page))
    let s1 := (want.filter (fun sl => ok || !s.bus.mayClaim sl (fnCode page))).foldl (fun a sl => a.on (·.claim page sl)) s
    let s2 := s1.setBit (rk page hdrPageCtrl) 0 true
    if ok then (s2.setBit (rk page hdrPageStatus) 0 true).blockStart page else s2

/-- A write of PAGE_CTRL.EN. -/
def State.enWrite (s : State) (page : Nat) (en : Bool) (slots : List Nat) : State :=
  if en then s.pageEnable page slots else s.pageDisable page

/-! ## Cistern limits (R141) -/

/-- FRSV and the sum of PLIM of a cistern as read; cisterns 64 to 71 have port 0 alone. -/
def cisPorts (n : Nat) : List Nat := if n < 64 then List.range 8 else [0]
def cisFrsv (r : Nat → Nat) (n : Nat) : Nat := (cisPorts n).foldl (fun a k => a + r (rk (cisPage n) (R.CIS_QLIM + 0x20 * k + 28))) 0
def cisPlim (r : Nat → Nat) (n : Nat) : Nat := (cisPorts n).foldl (fun a k => a + r (rk (cisPage n) (R.CIS_PLIM + 4 * k))) 0
def cisFits (r : Nat → Nat) (n : Nat) : Bool := decide (cisFrsv r n + cisPlim r n ≤ r (rk (cisPage n) R.CIS_SIZE))

/-- The sum of SIZE over all cisterns, with the staged values of those in `l`. -/
def State.cisTotal (s : State) (l : List Nat) : Nat :=
  (List.range 72).foldl (fun a n => a + (if l.contains n then s.bus.rdShadow (rk (cisPage n) R.CIS_SIZE) else s.rd (rk (cisPage n) R.CIS_SIZE))) 0

/-- CIS_FRSV and FAB_POOL_SIZED follow the active limits. -/
def State.cisReport (s : State) (n : Nat) : State :=
  (s.wr (rk (cisPage n) R.CIS_FRSV) (cisFrsv s.rd n)).wr (fabKey R.FAB_POOL_SIZED) (s.cisTotal [])

/-- Every staged value of a page becomes active. -/
def State.pageCopy (s : State) (page : Nat) : State :=
  let s1 := (s.commitKeys (fun k => decide (keyPage k = page))).setBit (rk page hdrShadowCtrl) 2 false
  if blockOfPage page = some .cis then s1.cisReport (pageIndex page) else s1

/-- The cistern pages of a commit that R141 refuses: all of them where the total fails, else those whose own limits fail. -/
def State.cisRefused (s : State) (pages : List Nat) : List Nat :=
  let cs := (pages.filter (fun p => decide (blockOfPage p = some .cis))).map pageIndex
  if 1048576 < s.cisTotal cs then cs.map cisPage else (cs.filter (fun n => !cisFits s.bus.rdShadow n)).map cisPage

/-- The commit of a cistern page is refused whole (R141). -/
def State.cisRefuse (s : State) (page : Nat) : State := (s.setBit (rk page hdrShadowCtrl) 2 false).cfgErr page

/-- The pages of a commit, copied or refused. -/
def State.commitPages (s : State) (pages : List Nat) : State :=
  let bad := s.cisRefused pages
  pages.foldl (fun a p => if bad.contains p then a.cisRefuse p else a.pageCopy p) s

/-! ## Commit (R74, R208, R446) -/

/-- The offsets of a page's RWS registers reached without a selector. -/
def rwsOffsets (page : Nat) : List Nat :=
  match blockOfPage page with
  | some b => (b.regs.filter (fun d => decide (d.rws ≠ 0))).flatMap (fun d => (List.range d.count).map (fun i => d.off + i * d.stride))
  | none => []

/-- The automatic epoch of FLT_EPOCH_AUTO (R445). -/
def tEpochAuto : Nat := timerId 36 0

/-- SHADOW_CTRL.MODE: 2 on the CNV and WIN pages (R208); 3 is treated as 0. -/
def State.shadowMode (s : State) (page : Nat) : Nat :=
  match blockOfPage page with
  | some .cnv => 2
  | some .win => 2
  | _ => let m := s.fld (rk page hdrShadowCtrl) 0 2; if m = 3 then 0 else m

/-- A COMMIT with MODE 1: every RWS word of the page enters the staging log, which holds 8,192 (R446). -/
def State.commitStage (s : State) (page : Nat) : State :=
  let l := (rwsOffsets page).map (fun off => (jkey (rk page off) 0, s.bus.rdShadow (rk page off)))
  if 8192 < s.epochs.log.length + l.length then s.cfgErr page
  else
    let s1 := (s.setBit (rk page hdrShadowCtrl) 2 true).modEpochs (fun e => { e with log := e.log ++ l, pages := e.pages ++ [page] })
    let ms := s1.fld (fltKey R.FLT_EPOCH_AUTO) 0 16
    if ms = 0 ∨ s1.bus.running tEpochAuto then s1 else s1.arm tEpochAuto (clkMs ms)

/-- A write of 1 to PAGE_CTRL.COMMIT: on a WIN page for the slots that the VI owns (R208). -/
def State.pageCommit (s : State) (vi : Nat) (sp : Spot) : State :=
  if sp.block = .win then
    let mine := (s.heldSlots vi sp).filter (fun w => decide (s.bus.access .win w vi = 2))
    { s with comp := { s.comp with wpend := (mine ++ s.comp.wpend).eraseDups } }
  else if s.bit (rk sp.page hdrShadowCtrl) 2 then s
  else match s.shadowMode sp.page with
    | 0 => s.commitPages [sp.page]
    | 1 => s.commitStage sp.page
    | _ => s.setBit (rk sp.page hdrShadowCtrl) 2 true

/-- A write of SHADOW_CTRL: MODE, and WR_LOST by a 1; on a WIN page WR_LOST of the slots held (R208). -/
def State.shadowWrite (s : State) (vi : Nat) (sp : Spot) (v : Nat) : State :=
  let clear := bitOf 3 v
  match sp.block with
  | .win => { s with comp := { s.comp with wlost := if clear then s.comp.wlost.filter (fun w => !(s.heldSlots vi sp).contains w) else s.comp.wlost } }
  | .cnv => s.ifThen clear (·.setBit (rk sp.page hdrShadowCtrl) 3 false)
  | _ => (s.setFld (rk sp.page hdrShadowCtrl) 0 2 v).ifThen clear (·.setBit (rk sp.page hdrShadowCtrl) 3 false)

/-! ## Event bits (R80) -/

/-- The local event bits of a page (R78, R79); bit 1 of the VIM page is not used (R75). -/
def eventMask (page : Nat) : Nat :=
  match rowOfPage page with
  | some r => (match r.block with
    | .gpt => 3 | .fltSrc => 0xFFFF | .vim => 0xFD
    | _ => 2 ^ r.evCount - 1)
  | none => 0

/-- Who receives the record of a page's event bit: the VI itself on a page granted by entry, VI 0 and the source's owner on a fault
source page (R424), else the owner of the page; VI 0 as well for the rows of Table 3-11 and the UPD page that say so. -/
def Bus.recipients (b : Bus) (sp : Spot) (vi bit : Nat) : Nat × List Nat :=
  if entryGranted sp.page then (vi, [])
  else match sp.block with
    | .fltSrc => let fs := 16 * sp.idx + bit
        (0, [b.fsOwner fs (match b.units.find? fs with | some u => u.1 | none => sp.page)])
    | .upd => (b.ownerOfPage sp.page, [0])
    | .pwr => (b.ownerOfPage sp.page, if bit = 0 then [0] else [])
    | _ => (b.ownerOfPage sp.page, [])

/-- An occurrence of an event bit on the page of a spot. -/
def Bus.raiseSpot (b : Bus) (sp : Spot) (vi bit : Nat) : Bus :=
  b.raiseAt sp.view sp.page bit (b.recipients sp vi bit).1 (b.recipients sp vi bit).2 none

/-- The bits of a mask, lowest first. -/
def bitsOf (v : Nat) : List Nat := (List.range 32).filter (fun i => bitOf i v)

/-- The key of the VI's event bits on a spot's page. -/
def Spot.ev (sp : Spot) (off vi : Nat) : Nat := evKey sp.view off vi

/-- EVT_PEND is written: each 1 clears; `meets` are the bits that occur in the same clock, and win. -/
def State.pendClear (s : State) (vi : Nat) (sp : Spot) (mask meets : Nat) : State :=
  let k := sp.ev hdrEvtPend vi
  (bitsOf (maskOf (eventMask sp.page) meets)).foldl (fun a i => a.on (·.raiseSpot sp vi i))
    (s.wr k (maskOf (maxWord - mask % 2 ^ 32) (s.rd k)))

/-- EVT_ENABLE is written: a bit that goes to 1 while its event is pending produces a record. -/
def State.evtEnable (s : State) (vi : Nat) (sp : Spot) (value : Nat) : State :=
  let k := sp.ev hdrEvtEnable vi
  let was := s.rd k
  let v := maskOf (eventMask sp.page) value
  let rose := (bitsOf v).filter (fun i => !bitOf i was && s.bit (sp.ev hdrEvtPend vi) i)
  rose.foldl (fun a i => a.on (fun b =>
    b.deliverAll ((b.recipients sp vi i).1 :: (b.recipients sp vi i).2) sp.page i (eventNumber sp.page i) none)) (s.wr k v)

/-- EVT_FORCE is written: the matching EVT_PEND bits are set, as an occurrence sets them. -/
def State.evtForce (s : State) (vi : Nat) (sp : Spot) (mask : Nat) : State :=
  (bitsOf (maskOf (eventMask sp.page) mask)).foldl (fun a i => a.on (·.raiseSpot sp vi i)) s

/-! ## Soft reset (R73) -/

/-- A register as a soft reset leaves it: its RW, RWS and W1C bits at reset, a counter wholly. -/
def srstValue (d : RegDef) (k v : Nat) : Nat :=
  if d.counter then resetNat k
  else
    let m := d.rw ||| d.rws ||| d.w1c
    maskOf (maxWord - m) v + maskOf m (resetNat k)

/-- The registers whose return to reset is a write with an effect of its own; they are left to that effect. -/
def srstApart (blk : Block) (off : Nat) : Bool :=
  match blk with
  | .gpt => decide (off = R.GPT_CTRL)
  | .prt => decide (off = R.PRT_GROUP)
  | .hqr => decide (0x100 ≤ off) && decide ((off - 0x100) % 0x40 = R.HQR_CTRL)
  | .lds => decide (off = R.LDS_OUT)
  | .tok => decide (off = R.TOK_CTRL)
  | .wak => decide (off = R.WAK_CMD)
  | .zwk => decide (off = R.ZWK_CTRL) || decide (off = R.ZWK_IMEM_DATA) || decide (off = R.ZWK_DMEM_DATA)
  | .pwr => decide (off = R.PWR_CTRL) || decide (off = R.PWR_WATCH_REQ)
  | .pwrD => decide (off = R.PWR_D_CTRL)
  | .bud => decide (off = R.BUD_CAP) || decide (off = R.BUD_TJ) || decide (off = R.BUD_MAX_LEVEL)
  | _ => false

/-- Whether a soft reset by a VI reaches a register of a page: on a page granted by entry the slots that the VI owns, and what every
entry shares for VI 0 alone; a register that VI 0 alone writes for VI 0 alone. -/
def Bus.srstReaches (b : Bus) (sp : Spot) (vi off : Nat) : Bool :=
  (!viZeroOnly sp.block off || decide (vi = 0)) && (match rowOfPage sp.page with
    | some r => (match r.grant with
      | .entry per _ _ => (match slotAt r.block off with
        | some (slot, _) => decide (b.access r.block (sp.idx * per + slot) vi = 2)
        | none => decide (vi = 0))
      | _ => true)
    | none => false)

/-- The registers of a page return to reset (R73): its own, the counters behind its selectors, and the VI's copies (R501). -/
def Bus.srstRegs (b : Bus) (sp : Spot) (vi : Nat) : Bus :=
  let b1 := (b.regs.cells.filter (fun p => decide (keyPage p.1 = sp.page) && decide (0x040 ≤ keyOff p.1))).foldl (fun a p =>
    match regDefAt sp.page (keyOff p.1) with
    | none => a
    | some d =>
      if p.1 < 2 ^ 26 then
        (if srstApart sp.block (keyOff p.1) || ownCopy sp.block (keyOff p.1) || !b.srstReaches sp vi (keyOff p.1) then a
         else a.wr p.1 (srstValue d p.1 p.2.toNat))
      else if 2 ^ 37 ≤ p.1 ∧ d.counter ∧ !entryGranted sp.page then a.wr p.1 (resetNat p.1)
      else a) b
  let b2 := (b1.regs.cells.filter (fun p => decide (2 ^ 26 ≤ p.1) && decide (p.1 < 2 ^ 37) && decide (p.1 / 2 ^ 26 = vi + 1)
    && decide (keyPage p.1 = sp.view) && ownCopy sp.block (keyOff p.1))).foldl (fun a p => a.wr p.1 (resetNat p.1)) b1
  { b2 with shadow := ⟨b2.shadow.cells.filter (fun p => !(decide (p.1 < 2 ^ 26) && decide (keyPage p.1 = sp.page)
      && b.srstReaches sp vi (keyOff p.1)))⟩ }

/-- PRT_STATUS.ACTIVE of the ports of a group follows BREAKOUT (R99). -/
def State.activeReport (s : State) (g : Nat) : State :=
  let n := match s.fld (prtKey (8 * g) R.PRT_GROUP) 0 2 with | 0 => 1 | 1 => 2 | 2 => 4 | _ => 8
  (List.range 8).foldl (fun a i => a.setBit (prtKey (8 * g + i) R.PRT_STATUS) 3 (decide (i % (8 / n) = 0))) s

/-- Whether any port of a group is enabled (R100). -/
def State.groupEnabled (s : State) (g : Nat) : Bool := (List.range 8).any (fun i => s.bit (rk (prtPage (8 * g + i)) hdrPageCtrl) 0)

/-- A write of PRT_GROUP on the page of port 8g (R100): refused where it changes BREAKOUT while a port of the group is enabled. -/
def State.prtGroup (s : State) (g value : Nat) : State :=
  let k := prtKey (8 * g) R.PRT_GROUP
  if value % 4 ≠ s.fld k 0 2 ∧ s.groupEnabled g then s.cfgErr (prtPage (8 * g))
  else (s.wr k (maskOf 0x00FFFF03 value)).activeReport g

/-- One of BUD_CAP, BUD_TJ and BUD_MAX_LEVEL is written: journaled (R420, R448). -/
def State.budApply (s : State) (w : JWait) : State := s.wr (budKey w.index) (w.words.getD 0 0)
def State.budWrite (s : State) (vi off value : Nat) : State :=
  s.journaled ⟨5, vi, off, [value]⟩ [(jkey (budKey off) 0, value)] id (·.budApply ⟨5, vi, off, [value]⟩)

/-- What the block does as its registers return to reset (R73: as if each reset value had been written). -/
def State.srstActs (s : State) (vi : Nat) (sp : Spot) : State :=
  let i := sp.idx
  match sp.block with
  | .gpt => let s1 := s.writeGptCtrl i 0
      s1.setGpt i { s1.gptAt i with reload := 0xFFFFFFFFFFFF, cmp := 0 }
  | .tim => s.updateTeb
  | .prt => if i % 8 = 0 then
      (if s.groupEnabled (i / 8) then s.setFld (prtKey i R.PRT_GROUP) 8 16 0 else s.prtGroup (i / 8) 0)
    else s
  | .lit => s.litSrst i
  | .hqr => ((List.range 16).filter (fun k => decide (s.bus.access .hqr (16 * i + k) vi = 2))).foldl (fun a k =>
      (execHqrDisable 0 vi (16 * i + k) 0x40 [] a).get a) s
  | .lds => s.ldsOutWrite vi i 0
  | .tok => s.tokCtrl i 1
  | .enc => s.setBit (encKey i R.ENC_STATUS) 0 false
  | .wak => (execWakModeStandby 0 vi i 1 s).get s
  | .zwk => ((execZwkStop 0 vi i s).get s).disarm (tCore i)
  | .keeper => s.disarm (tCore (96 + i))
  | .can => (s.modCtl i (fun c => { c with windows := [] })).setBit (canKey i R.CAN_STATUS) 5 false
  | .cis => s.cisReport i
  | .cnv => s.lanesReport
  | .pwr => if vi = 0 then (s.pwrTarget 0).watchRequest 0 else s
  | .pwrD => if vi = 0 then s.domRequest i 0 else s
  | .bud => ((s.budWrite vi R.BUD_CAP 0x280).budWrite vi R.BUD_TJ 0x0055035F).budWrite vi R.BUD_MAX_LEVEL 0x21
  | .flt => if vi = 0 then s.disarm tEpochAuto else s
  | _ => s

/-- What ends before the registers return to reset: frame stores and window slots of the VI, the alone mark and locked buffers of a
controller. -/
def State.srstEnds (s : State) (vi : Nat) (sp : Spot) : State :=
  let i := sp.idx
  match sp.block with
  | .win =>
    let mine := ((List.range 4).map (fun k => 4 * i + k)).filter (fun j => decide (s.bus.access .win j vi = 2))
    mine.foldl (fun a j =>
      let a1 := if a.fsEn j then (a.setBit (fsReg j R.FS_CTRL) 0 false).fsDisable j else a
      if a1.winEn j then (a1.dropGood j).wr (winReg j R.WIN_STATUS) (fieldOf 3 3 (a1.rd (winReg j R.WIN_STATUS)) * 8) else a1) s
  | .can => ((s.setAlone i false).wr (canKey i R.CAN_HP_LOCK) 0).modCtl i (fun c => { c with headLocked := false })
  | _ => s

/-- The page's soft reset (R73). -/
def State.pageSrst (s : State) (vi : Nat) (sp : Spot) : State :=
  let s1 := (s.srstEnds vi sp).on (fun b => (b.srstRegs sp vi).wr (sp.ev hdrEvtPend vi) 0)
  s1.srstActs vi sp

/-- A write of PAGE_CTRL: EN, SRST and COMMIT (Table 3-2). -/
def State.pageCtrlWrite (s : State) (vi : Nat) (sp : Spot) (v : Nat) : State :=
  let s1 := s.enWrite sp.page (bitOf 0 v) []
  let s2 := s1.ifThen (bitOf 1 v) (·.pageSrst vi sp)
  s2.ifThen (bitOf 2 v) (·.pageCommit vi sp)

/-! ## PCIe functions (R82, R87, R98, R500) -/

/-- A write of VI_CTRL.EVQ_EN: SEQ of a PCIe VI returns to 0 as it goes to 1 (R82). -/
def State.evqEnable (s : State) (v : Nat) (en : Bool) : State :=
  let s1 := s.setBit (rk (viPage v) R.VI_CTRL) 0 en
  if en && !s.bit (rk (viPage v) R.VI_CTRL) 0 && decide (1 ≤ v) && decide (v ≤ 256) then
    s1.on (fun b => { b with seq := b.seq.erase v })
  else s1

/-- The VI page of a function returns to reset, its vector allocation apart, and its snapshots are gone (R87, R500). -/
def State.flr (s : State) (v : Nat) : State :=
  let s1 := s.on (fun b => { b with
    regs := ⟨b.regs.cells.filter (fun p => decide (keyPage p.1 ≠ viPage v) || decide (keyOff p.1 = R.VI_VEC_BASE) || decide (keyOff p.1 = R.VI_VEC_COUNT))⟩
    seq := b.seq.erase v })
  { s1 with tim := { s1.tim with snaps := s1.tim.snaps.erase v } }

/-- The VIs of the VFs that are enabled (R500). -/
def Bus.enabledVfs (b : Bus) : List Nat := if b.vfEnable then (List.range (min 255 b.numVfs)).map (· + 2) else []

end Sys2Proof.Machine
end

