-- ==== Sys2Proof/Machine/DeviceReset.lean ====
section
/-! DEFINITION. A device reset (R430, R458): everything but the AON island, the MRAM, the flash and what is burnt into the device goes to
reset; limp-home begins (R276). -/

namespace Sys2Proof.Machine

/-- The registers that a device reset leaves as they are: those of the AON island (Domain columns of chapters 10, 11, 13 and 14; R279,
R390, R458), and the device's own identity (R384). -/
def survivesReset (k : Nat) : Bool :=
  let off := keyOff k
  match blockOfPage (keyPage k) with
  | some .wak => true
  | some .lds => [R.LDS_STATUS, R.LDS_CLASS, R.LDS_G_STATUS].contains off
  | some .swi => decide (R.SWI_WAKE_MASK_LO ≤ off) && decide (off ≤ R.SWI_WAKE_REF_HI)
  | some .tok => decide (off = R.TOK_FAILS)
  | some .flt => decide (off = R.FLT_HOME_EPOCH)
  | some .pwr => [R.PWR_WAKE_EN, R.PWR_WAKE_SRC, R.PWR_WAKE_GPT, R.PWR_PAD_HELD, R.PWR_WATCH_REQ, R.PWR_WATCH_STATE, R.PWR_CNT_WAKE].contains off
  | some .idn => [R.IDN_SERIAL_LO, R.IDN_SERIAL_HI, R.IDN_CERT_LEN].contains off || (decide (R.IDN_KEYID ≤ off) && decide (off < R.IDN_CHAL))
  | _ => false

/-- The timers of the AON island: the load-channel machines, the transceivers and the token lock-outs. -/
def timerSurvives (t : Nat) : Bool := [16, 17, 18, 19, 24, 25, 31].contains (t / 2 ^ 20)

/-- The pad latches that hold show in their domains. -/
def State.padsShown (s : State) : State :=
  (List.range 22).foldl (fun a d => if s.bit (pwrKey R.PWR_PAD_HELD) d then a.setBit (pwrDKey d R.PWR_D_STATUS) 8 true else a) s

/-- A device reset. Records of the journal that were not durable are lost. -/
def State.deviceReset (s : State) : State :=
  let s0 := s.limpBegin
  let b := { Bus.init with
    now := s0.bus.now, out := s0.bus.out, free := s0.bus.free
    regs := ⟨s0.bus.regs.cells.filter (fun p => survivesReset p.1)⟩
    timers := ⟨s0.bus.timers.cells.filter (fun p => timerSurvives p.1)⟩ }
  let log := s0.jrn.log.takeWhile (·.durable)
  { State.reset with
    pending := s0.pending
    bus := b
    jrn := { Journal.init with log := log, home := s0.jrn.home, next := (match log.getLast? with | some r => (r.pos + r.len) % logWords | none => s0.jrn.next) }
    lds := { s0.lds with allOff := false }
    toks := ⟨s0.toks.cells.map (fun (p : Nat × Tok) => (p.1, { Tok.init with answered := p.2.answered }))⟩
    idn := { Idn.init with cert := s0.idn.cert, keyed := s0.idn.keyed }
    upd := { Upd.init with flash := s0.upd.flash, otp := s0.upd.otp }
    boot := { s0.boot with badPairs := [], entropyAt := 0 } }.padsShown

end Sys2Proof.Machine
end

