-- ==== Sys2Proof/Machine/Image.lean ====
section
/-! DEFINITION. The flash, the boot record and images (R459 to R461, R473). -/

namespace Sys2Proof.Machine

/-- A byte of a region of the flash; a byte that nothing has written reads 0 (assumption log 3). -/
def byteOf (l : List Byte) (i : Nat) : Nat := (l.getD i 0).toNat

/-- A big-endian word of 32 bits at a byte offset. -/
def be32 (l : List Byte) (i : Nat) : Nat := ((byteOf l i * 256 + byteOf l (i + 1)) * 256 + byteOf l (i + 2)) * 256 + byteOf l (i + 3)

/-- The bytes of a range, as numbers. -/
def bytesAt (l : List Byte) (i n : Nat) : List Nat := (List.range n).map (fun k => byteOf l (i + k))

/-- A 384-bit number in 48 bytes. -/
def be384 (l : List Byte) (i : Nat) : Nat := natOf (bytesAt l i 48)

/-! ## The boot record (R459) -/

/-- SEQ and CONFIRMED of a copy of the boot record whose MAGIC and CRC are right. -/
def recordOf (l : List Byte) : Option (Nat × Nat) :=
  if be32 l 0 = 0x4B4C4252 ∧ be32 l 12 = crc32 ((List.range 9).map (fun i => l.getD i 0)) then some (be32 l 4, byteOf l 8) else none

/-- Whether copy 1 counts rather than copy 0, and the SEQ and CONFIRMED that count: the higher SEQ; none valid counts as bank A. -/
def flashRecord (f : Flash) : Bool × Nat × Nat :=
  match recordOf f.rec0, recordOf f.rec1 with
  | some a, some b => if a.1 < b.1 then (true, b.1, b.2) else (false, a.1, a.2)
  | some a, none => (false, a.1, a.2)
  | none, some b => (true, b.1, b.2)
  | none, none => (true, 0, 0)

/-- The bank that counts as CONFIRMED: 0 A, 1 B. -/
def flashConfirmed (f : Flash) : Nat := (flashRecord f).2.2 % 2

/-- The bytes of a boot record copy. -/
def recordBytes (seq bank : Nat) : List Byte :=
  let head := (octets 4 0x4B4C4252 ++ octets 4 seq ++ [bank]).map (BitVec.ofNat 8)
  head ++ [0, 0, 0] ++ (octets 4 (crc32 head)).map (BitVec.ofNat 8)

/-- The boot record names a bank: the copy that does not count is overwritten with SEQ + 1. -/
def flashConfirm (f : Flash) (bank : Nat) : Flash :=
  let r := flashRecord f
  let l := recordBytes ((r.2.1 + 1) % 2 ^ 32) bank
  if r.1 then { f with rec0 := l } else { f with rec1 := l }

/-! ## Banks and images (R460, R461) -/

def flashBank (f : Flash) (n : Nat) : List Byte := if n = 0 then f.bankA else f.bankB

/-- Bytes written into a bank at an offset. -/
def writeAt (l : List Byte) (off : Nat) (data : List Byte) : List Byte :=
  (l ++ List.replicate (off - l.length) 0).take off ++ data ++ l.drop (off + data.length)

def flashWrite (f : Flash) (n off : Nat) (data : List Byte) : Flash :=
  if n = 0 then { f with bankA := writeAt f.bankA off data } else { f with bankB := writeAt f.bankB off data }

/-- The fields of an image header (Table 16-2). -/
def imgSecver (l : List Byte) : Nat := byteOf l 5
def imgFormat (l : List Byte) : Nat := byteOf l 6
def imgHformat (l : List Byte) : Nat := byteOf l 7
def imgLen (l : List Byte) : Nat := be32 l 8
def imgAccept (l : List Byte) : List Nat := bytesAt l 12 4

/-- The image digest: SHA-384 of bytes 0 to IMAGE_LEN − 1. -/
def imgDigest (l : List Byte) : List Nat := sha384 (bytesAt l 0 (imgLen l))

/-- Whether the signature at a byte offset verifies over the bytes before `n` against a key. -/
def sigOk (l : List Byte) (n off : Nat) (q : Nat × Nat) : Bool :=
  ecdsaVerify (natOf (sha384 (bytesAt l 0 n))) (be384 l off) (be384 l (off + 48)) q.1 q.2

/-- The first condition of R461 that an image fails, as LAST codes it (Table 16-13): 1 header, 3 length, 6 signature, 7 SECVER; 0 where it
is valid. `cust` is the customer key where REQUIRE_CUST is 1. -/
def imgCheck (l : List Byte) (cust : Option (Nat × Nat)) (otp : Nat) : Nat :=
  let n := imgLen l
  if be32 l 0 ≠ 0x4B4C494D ∨ byteOf l 4 ≠ 1 then 1
  else if n < 4096 ∨ 50331648 < n then 3
  else if !Config.lanipKeys.any (sigOk l (n - 192) (n - 192)) then 6
  else if !(match cust with | some q => sigOk l (n - 96) (n - 96) q | none => true) then 6
  else if imgSecver l < otp then 7
  else 0

/-- The customer key, where UPD_AUTH.REQUIRE_CUST is 1 (R461), from a reading of the UPD fields. -/
def custKey (r : Nat → Nat) : Option (Nat × Nat) :=
  if bitOf 8 (r (updKey R.UPD_AUTH)) then
    some (wordsNat ((List.range 12).map (fun i => r (updKey (R.UPD_CUST_QX + 4 * i)))), wordsNat ((List.range 12).map (fun i => r (updKey (R.UPD_CUST_QY + 4 * i)))))
  else none

end Sys2Proof.Machine
end

