-- ==== Sys2Proof/Machine/Units.lean ====
section
/-! DEFINITION. Units that trade places (R211, R434, R435, R442, R478): workers, lanes and keeper pairs; and what an image puts into
them (R464). -/

namespace Sys2Proof.Machine

/-! ## Workers -/

/-- The worker that carries a logical worker. -/
def State.workerOf (s : State) (l : Nat) : Option Nat := (List.range 96).find? (fun c => decide (s.lworker c = some l))

/-- ROLE of a worker: 0 unusable, 1 assigned, 2 spare, 3 joining (Table 12-11). -/
def State.workerRole (s : State) (c : Nat) : Nat := s.fld (zwkKey c R.ZWK_STATUS) 6 2

/-- Give a worker its ROLE and logical worker; a worker that carries none reads 0xFF. -/
def State.setWorker (s : State) (c role l : Nat) : State :=
  (s.setFld (zwkKey c R.ZWK_STATUS) 6 2 role).setFld (zwkKey c R.ZWK_STATUS) 8 8 l

/-- A spare of a worker's cluster. -/
def State.workerSpare (s : State) (c : Nat) : Option Nat :=
  (List.range 16).findSome? (fun i => let n := c / 16 * 16 + i; if s.workerRole n = 2 then some n else none)

/-- ZWK_VI, ZWK_ENTRY, the routes and RUN pass from one worker to another (R434). -/
def State.workerRegs (s : State) (c n : Nat) : State :=
  let ks := [(zwkKey c R.ZWK_VI, zwkKey n R.ZWK_VI), (zwkKey c R.ZWK_ENTRY, zwkKey n R.ZWK_ENTRY), (zwkKey c R.ZWK_CTRL, zwkKey n R.ZWK_CTRL)]
    ++ (List.range 16).map (fun i => (rkSel (zwkPage c) R.ZWK_ROUTE i, rkSel (zwkPage n) R.ZWK_ROUTE i))
  ks.foldl (fun a p => (a.wr p.2 (s.rd p.1)).wr p.1 0) s

/-- Worker `n` takes over the logical worker of `c` with the memories of the image, and starts at ZWK_ENTRY if `c` had been started;
`c` stops with a REASON and is left with a ROLE (R434, R478). -/
def State.workerMove (s : State) (c n l reason role : Nat) : State :=
  let run := s.bit (zwkKey c R.ZWK_CTRL) 0
  let s1 := if (s.zw c).running then s.zwStop c reason else s
  let s2 := (((s1.workerRegs c n).setWorker c role 255).setWorker n 1 l).workerLoad n l
  if run then s2.zwStart n (s2.fld (zwkKey n R.ZWK_ENTRY) 0 14) else s2

/-! ## Lanes -/

/-- The spare of a composition die. -/
def State.laneSpare (s : State) (d : Nat) : Option Nat :=
  (List.range 18).find? (fun m => decide (laneDie m = d) && decide (s.laneRole m = 2))

/-- Lane `m` serves logical lane `l` and lane `n` is left with a ROLE. -/
def State.laneMove (s : State) (n m l role : Nat) : State :=
  ((((s.setFld (cmpKey m R.CMP_STATUS) 0 2 1).setFld (cmpKey m R.CMP_STATUS) 2 5 l).setFld (cmpKey n R.CMP_STATUS) 0 2 role).setFld
    (cmpKey n R.CMP_STATUS) 2 5 31).lanesReport

/-! ## Keeper pairs -/

/-- ROLE of a keeper pair: 0 unusable, 1 active, 2 standby, 3 starting; a change raises EV84 (Table 12-13). -/
def State.kprRole (s : State) (p : Nat) : Nat := s.fld (kprKey p R.KPR_STATUS) 0 2
def State.setKpr (s : State) (p role : Nat) : State :=
  if s.kprRole p = role then s else (s.setFld (kprKey p R.KPR_STATUS) 0 2 role).raise (kprPage p) 0

/-- The other pair becomes VI 0 and carries on the work of the active one: its core, its event queue and its timer (R435, Table 16-9); the
former pair is left with a ROLE. The pair last active is kept in AON (R463). -/
def State.keeperMove (s : State) (role : Nat) : State :=
  let a := s.bus.keeper
  let n := 1 - a
  let s1 := [R.KPR_TIMER, R.KPR_EVQ_BASE, R.KPR_EVQ_TAIL, R.KPR_EVQ_HEAD, R.KPR_EVQ_LOST].foldl
    (fun x off => x.wr (kprKey n off) (s.rd (kprKey a off))) s
  let s2 := ((s1.setBit (kprKey n R.KPR_STATUS) 4 (s.bit (kprKey a R.KPR_STATUS) 4)).setZw (96 + n) (s.zw (96 + a))).setZw (96 + a) ZwCore.init
  let s3 := s2.on (fun b => { b with
    keeper := n
    evt := (b.evt.put 0 (96 + n) (b.evt.find 0 (96 + a))).put 0 (96 + a) 0
    timers := match b.timers.find? (tCore (96 + a)) with
      | some t => (b.timers.erase (tCore (96 + a))).set (tCore (96 + n)) t
      | none => b.timers.erase (tCore (96 + n)) })
  { ((s3.setKpr n 1).setKpr a role) with boot := { s3.boot with lastPair := n } }

/-- The BST page of a keeper pair (Table 15-8). -/
def kprBst (p : Nat) : Nat := Block.bst.pg (33 + p)

def State.modBist (s : State) (f : Bist → Bist) : State := { s with bist := f s.bist }

/-- BST_STATUS.STATE of a group: 0 idle, 1 testing, 2 joining, 3 deferred; and the unit (Table 15-18). -/
def State.bstShow (s : State) (page st unit : Nat) : State :=
  (s.setFld (rk page R.BST_STATUS) 0 3 st).setFld (rk page R.BST_STATUS) 8 8 unit

/-- A unit of a group's run begins its shadow-run: EV74 (R442). One that takes over at a global epoch asks for one (R445). -/
def State.shadowRun (s : State) (page unit spare : Nat) (epoch : Bool) : State :=
  let s1 := s.modBist (fun b => { b with runs := b.runs.set page ⟨3, unit, spare, s.bus.now, s.rd (fltKey R.FLT_EPOCH)⟩ })
  ((s1.setFld (rk page R.BST_STATUS) 0 3 2).raise page 2).ifThen epoch (·.epochAuto)

/-- A keeper pair joins as standby by warm join: it shadow-runs from now (R442, Table 15-9). -/
def State.keeperJoin (s : State) (p : Nat) : State := (s.setKpr p 3).shadowRun (kprBst p) p p true

/-! ## What an image puts into the engines (R464) -/

/-- The key of a register of an image's tables: pattern steps and inrush profiles stand behind selectors. -/
def tableKey (addr sel : Nat) : Nat :=
  let page := addr / 4096
  let off := addr % 4096
  match blockOfPage page with
  | some .pat => if off = R.PAT_TBL_DATA then rkSel page off sel else rk page off
  | some .lds => if R.LDS_G_PROF_PEAK ≤ off ∧ off ≤ R.LDS_G_PROF_RUN then rkSel page off sel else rk page off
  | _ => rk page off

/-- Pattern tables, engine colours and inrush profiles (R464, items 6 and 7), the committed configuration applied over them. -/
def State.loadTables (s : State) : State :=
  let s1 := s.upd.items.tables.foldl (fun a t => a.wr (tableKey t.1 t.2.1) t.2.2) s
  let isTable := fun (k : Nat) => match blockOfPage (keyPage k) with | some .pat => true | some .lds => decide (0x100 ≤ keyOff k) | _ => false
  (s.homeNow.cells.filter (fun e => isTable (homeKey e.1))).foldl (fun a e => a.wr (homeKey e.1) e.2) s1

/-- The sequence of a coil channel (R464, item 5). -/
def State.loadCoil (s : State) (c : Nat) : State :=
  match s.upd.items.coils.find? (fun x => decide (x.1 = c)) with
  | some x => ((List.range 64).foldl (fun a i => a.wr (coiKey c (R.COI_SEQ + 4 * i)) (x.2.getD i 0 % 65536)) s)
  | none => s

/-- The expected signatures of the running image (R456), by page × 16 + unit. -/
def sigMap (l : List (Nat × Nat × Nat)) : SMap Nat := l.foldl (fun m x => m.set (x.1 * 16 + x.2.1) x.2.2) SMap.empty

/-- The bank of the running image: DEV PAGE_STATUS.BOOT_BANK. -/
def State.bootBank (s : State) : Nat := s.fld (rk 0 hdrPageStatus) 17 1

/-- The image of a bank is the running one: its items, its signatures, what it measures to, its bank and security version (R456, R460,
R464, Table 16-3, Table 16-13). -/
def State.runImage (s : State) (bank : Nat) (items : ImageItems) : State :=
  let l := flashBank s.upd.flash bank
  let s1 := (s.setFld (rk 0 hdrPageStatus) 17 1 bank).setFld (updKey R.UPD_IMG_INFO) 16 8 (imgSecver l)
  { (s1.modBist (fun b => { b with sigs := sigMap items.bist })) with
    upd := { s1.upd with items := items }
    idn := { s1.idn with measImage := imgDigest l, measLoad := sha384 (items.load.map (·.toNat)) } }

end Sys2Proof.Machine
end

