-- ==== Sys2Proof/Machine/Update.lean ====
section
/-! DEFINITION. Firmware update (R472 to R484): the meanings of the update commands of chapter 16. -/

namespace Sys2Proof.Machine

/-! ## States and refusals (Table 16-10, Table 16-13) -/

def State.modUpd (s : State) (f : Upd → Upd) : State := { s with upd := f s.upd }

/-- UPD_STATUS: STATE 0 NOT_READY, 1 IDLE, 2 RECEIVING, 3 VERIFYING, 4 VERIFIED, 5 ACTIVATING, 6 TRIAL, 7 REVERSING; BUSY; TARGET; LAST. -/
def State.updState (s : State) : Nat := s.fld (updKey R.UPD_STATUS) 0 3
def State.setUpd (s : State) (st : Nat) : State := s.setFld (updKey R.UPD_STATUS) 0 3 st
def State.updBusy (s : State) : Bool := s.bit (updKey R.UPD_STATUS) 3
def State.updTarget (s : State) : Nat := s.fld (updKey R.UPD_STATUS) 4 1
def State.setLast (s : State) (code : Nat) : State := s.setFld (updKey R.UPD_STATUS) 8 4 code

/-- UPD events are recorded for the owner of the page and for VI 0 (R484). -/
def State.updEvent (s : State) (bit : Nat) : State := s.raiseAlso updPage bit [0]

/-- A refusal (R473): LAST, UPD_CNT_REFUSED and EV30. A command that the state does not allow is refused with LAST 5 (assumption
log 33). -/
def State.updRefuse (s : State) (code : Nat) : State := ((s.setLast code).addSat (updKey R.UPD_CNT_REFUSED) 1).updEvent 2

/-- A command of the owner, accepted in some states (R482, R484). -/
def State.updCmd (s : State) (vi : Nat) (ok : State → Bool) (f : State → State) : State :=
  s.guardWrite vi updPage (fun s => if ok s then f s else s.updRefuse 5)

/-! ## Transfer (R472, R473) -/

/-- UPD_OPEN (R472): a new session into the bank that is not running; in recovery either bank may be the target (R468), and the spec does
not say how it is chosen: a free value (assumption log 34). -/
def execUpdOpen (dt vi : Nat) (s : State) : Res :=
  .next ((s.tick dt).updCmd vi (fun s => decide (s.updState = 1) || decide (s.updState = 4)) (fun s =>
    let bank := if s.bus.recovery then s.bus.fresh.toNat % 2 else 1 - s.bootBank
    let s1 := (if s.bus.recovery then s.on Bus.nextFree else s).addWrap (updKey R.UPD_SESSION) 1
    ((s1.setUpd 2).setFld (updKey R.UPD_STATUS) 4 1 bank).modUpd (fun u => { u with len := none, blocks := [], writing := none })))

/-- Field `i` of the block header (Table 16-8), a word. -/
def State.updHdr (s : State) (i : Nat) : Nat := s.rd (updKey (R.UPD_HDR + 4 * i))

/-- The refusal of a block (R473), 0 where there is none. -/
def State.blockCheck (s : State) (data : List Byte) : Nat :=
  let off := s.updHdr 2
  let len := s.updHdr 3
  let total := s.updHdr 5
  if s.updHdr 0 ≠ 0x4B4C5550 ∨ s.updHdr 1 ≠ 0x01000000 ∨ s.updHdr 7 ≠ 0 ∨ s.updHdr 6 ≠ s.rd (updKey R.UPD_SESSION) then 1
  else if off % 65536 ≠ 0 ∨ total < off + len then 2
  else if len = 0 ∨ 65536 < len ∨ (len < 65536 ∧ off + 65536 < total) ∨ 50331648 < total
      ∨ (match s.upd.len with | some n => decide (n ≠ total) | none => false) = true then 3
  else if crc32 data ≠ s.updHdr 4 then 4
  else if s.updBusy then 5
  else 0

/-- A block is taken for writing, or refused. -/
def State.takeBlock (s : State) (bytes : List Byte) : State :=
  let data := (List.range (min 65536 (s.updHdr 3))).map (fun i => bytes.getD i 0)
  match s.blockCheck data with
  | 0 => (s.setBit (updKey R.UPD_STATUS) 3 true).modUpd (fun u => { u with len := some (s.updHdr 5), writing := some (s.updHdr 2, data) })
  | code => s.updRefuse code

/-- UPD_BLOCK (R472, R473): the data are those of the 64 KiB buffer. -/
def execUpdBlock (dt vi : Nat) (s : State) : Res :=
  .next ((s.tick dt).updCmd vi (fun s => decide (s.updState = 2)) (fun s =>
    s.takeBlock ((List.range (min 65536 (s.updHdr 3))).map (fun i => s.upd.buf.find 0 i))))

/-- UPD_BLOCK_DMA (R472, R473): a PCIe VI's block is fetched at the host address in UPD_DMA; `bytes` are what stands there. -/
def execUpdBlockDma (dt vi : Nat) (bytes : List Byte) (s : State) : Res :=
  .next ((s.tick dt).updCmd vi (fun s => decide (s.updState = 2) && decide (1 ≤ vi) && decide (vi ≤ 256)) (fun s => s.takeBlock bytes))

/-- UPD_BLOCK_WRITTEN (R473): the block stands in the target bank; EV28. -/
def execUpdBlockWritten (dt : Nat) (s : State) : Res :=
  let s1 := s.tick dt
  .next (match s1.upd.writing with
    | none => s1
    | some w =>
      ((s1.setBit (updKey R.UPD_STATUS) 3 false).modUpd (fun u => { u with
        writing := none
        blocks := (w.1 / 65536 :: u.blocks).eraseDups
        flash := flashWrite u.flash s1.updTarget w.1 w.2 })).updEvent 0)

/-- UPD_ABORT (Table 16-10). -/
def execUpdAbort (dt vi : Nat) (s : State) : Res :=
  .next ((s.tick dt).updCmd vi (fun s => decide (s.updState = 2) || decide (s.updState = 4)) (fun s =>
    ((s.setUpd 1).setBit (updKey R.UPD_STATUS) 3 false).modUpd (fun u => { u with writing := none })))

/-! ## Verification (R474) -/

/-- UPD_VERIFY (R474): accepted when no block of the session is missing. -/
def execUpdVerify (dt vi : Nat) (s : State) : Res :=
  .next ((s.tick dt).updCmd vi (fun s => decide (s.updState = 2) && !s.updBusy) (fun s =>
    if s.updTotal = 0 ∨ s.updMissing.isSome then s.updRefuse 3 else s.setUpd 3))

/-- What R474 finds wrong with the target bank, as LAST codes it; 0 where nothing is. In recovery no image runs whose handover format
could be read. -/
def State.targetCheck (s : State) : Nat :=
  let l := flashBank s.upd.flash s.updTarget
  match imgCheck l (custKey s.rd) s.upd.otp with
  | 0 => if s.bus.recovery || (imgAccept l).contains (imgHformat (flashBank s.upd.flash s.bootBank)) then 0 else 8
  | code => code

/-- UPD_VERIFY_COMPLETE (R474). -/
def execUpdVerifyComplete (dt : Nat) (s : State) : Res :=
  let s1 := s.tick dt
  .next (if s1.updState ≠ 3 then s1
    else match s1.targetCheck with
      | 0 =>
        let l := flashBank s1.upd.flash s1.updTarget
        let s2 := s1.wrList (updKey R.UPD_IMG_DIGEST) (bytesWords 12 (imgDigest l))
        (((s2.setFld (updKey R.UPD_IMG_INFO) 0 8 (imgSecver l)).setFld (updKey R.UPD_IMG_INFO) 24 8 (imgFormat l)).setUpd 4).updEvent 1
      | code => ((s1.setUpd 2).setLast code).updEvent 2)

/-! ## Activation (R475 to R478) -/

/-- The hinge standby of an activation: the pair that is not active. -/
def State.otherPair (s : State) : Nat := 1 - s.bus.keeper

/-- The words that authorise, as a list. -/
def State.authDigest (s : State) : List Nat := s.rdList (updKey R.UPD_AUTH_DIGEST) 12
def State.ticket (s : State) : Nat := s.fld (updKey R.UPD_AUTH) 0 8

/-- Whether operations write a TICKET other than `before`, or a word of UPD_AUTH_DIGEST (R475). -/
def State.authorises (s : State) (before : Nat) (ops : List ProtOp) : Bool :=
  ops.any (fun o => decide (updKey R.UPD_AUTH_DIGEST ≤ o.1) && decide (o.1 < updKey R.UPD_AUTH_DIGEST + 48))
    || (ops.any (fun o => decide (o.1 = updKey R.UPD_AUTH)) && decide (s.ticket ≠ before))

/-- The authorising epoch (R475): the activation starts, EV31, and the standby pair runs its boot ROM; or LAST MISMATCH and EV30. -/
def State.updAuthorise (s : State) (before : Nat) (ops : List ProtOp) : State :=
  if !s.authorises before ops then s
  else if s.ticket ≠ before ∧ s.updState = 4 ∧ s.authDigest = s.rdList (updKey R.UPD_IMG_DIGEST) 12 then
    (((s.setUpd 5).setKpr s.otherPair 3).modUpd (fun u => { u with step := 1, hingeDown := false })).updEvent 3
  else (s.setLast 9).updEvent 2

/-- An activation ends before its step 4 (Table 16-10): IDLE, LAST ABANDONED. -/
def State.updAbandon (s : State) : State :=
  if s.updState = 5 ∧ s.upd.step < 4 then ((s.setUpd 1).setLast 10).modUpd (fun u => { u with step := 0 }) else s

/-- ACTIVATION_STANDBY_READY (Table 16-9, steps 2 and 3): the standby pair has verified and loaded the image; one that is not valid
after all is a failure of the standby. -/
def execActivationStandbyReady (dt : Nat) (s : State) : Res :=
  let s1 := s.tick dt
  let l := flashBank s1.upd.flash s1.updTarget
  .next (if s1.updState ≠ 5 ∨ s1.upd.step ≠ 1 then s1
    else if imgCheck l (custKey s1.rd) s1.upd.otp ≠ 0 then s1.updAbandon.keeperJoin s1.otherPair
    else s1.modUpd (fun u => { u with step := 3, other := Config.imageItems l }))

/-- The units that take another image, in order: logical workers 0 to 83, logical lanes as 84 to 99, coil channels as 100 to 107. -/
def swapUnits : List Nat := List.range 108

/-- VI 0 passes to the other pair with the image of the other bank; the units follow one at a time (Table 16-9 step 4, R480). -/
def State.updSwitch (s : State) (bank role step : Nat) : State :=
  let old := s.upd.items
  let s1 := (s.keeperMove role).runImage bank s.upd.other
  s1.modUpd (fun u => { u with other := old, units := swapUnits, step := step })

/-- What a global epoch does for an activation (Table 16-9, steps 4 and 6). -/
def State.updEpoch (s : State) : State :=
  if s.updState ≠ 5 then s
  else match s.upd.step with
    | 3 => (s.updSwitch s.updTarget 2 4).updEvent 4
    | 5 => ((s.loadTables.setUpd 6).modUpd (fun u => { u with step := 6 })).arm tTrial (clkS (s.fld (updKey R.UPD_CONFIRM_TMO) 0 17))
    | _ => s

/-- Whether a unit's turn has come: workers, then lanes, then coil sequences (Table 16-9). -/
def unitTurn (units : List Nat) (u : Nat) : Bool :=
  units.contains u && (if u < 84 then true else if u < 100 then units.all (84 ≤ ·) else units.all (100 ≤ ·))

/-- A unit takes the running image by exchange with its spare (R478); none where there is no spare, or a coil channel is not at rest. -/
def State.unitTake (s : State) (u : Nat) : Option State :=
  if u < 84 then
    match s.workerOf u with
    | none => some s
    | some c => (s.workerSpare c).map (fun n => s.workerMove c n u 0 2)
  else if u < 100 then
    match s.laneOf (u - 84) with
    | none => some s
    | some n => (s.laneSpare (laneDie n)).map (fun m => s.laneMove n m (u - 84) 2)
  else if s.coiPhase (u - 100) = 0 then some (s.loadCoil (u - 100)) else none

/-- UNIT_IMAGE_SWAP (R478). -/
def execUnitImageSwap (dt unit : Nat) (s : State) : Res :=
  let s1 := s.tick dt
  .next (if (s1.upd.step ≠ 4 ∧ s1.upd.step ≠ 8) ∨ unitTurn s1.upd.units unit = false then s1
    else match s1.unitTake unit with
      | none => s1
      | some s2 => s2.modUpd (fun u =>
          let left := u.units.filter (· != unit)
          { u with units := left, step := if left.isEmpty ∧ u.step = 4 then 5 else u.step }))

/-! ## Trial, confirmation and the reverse handover (R479 to R481) -/

/-- UPD_CONFIRM (R479): VI 0's. -/
def execUpdConfirm (dt vi : Nat) (s : State) : Res :=
  .next ((s.tick dt).guardWrite vi updPage (fun s =>
    if vi ≠ 0 then s.on (·.denied)
    else if s.updState ≠ 6 then s.updRefuse 5
    else
      let bank := s.bootBank
      let otp := max s.upd.otp (imgSecver (flashBank s.upd.flash bank))
      let s1 := (s.setFld (updKey R.UPD_IMG_INFO) 8 8 otp).setFld (updKey R.UPD_STATUS) 5 1 bank
      let s2 := s1.modUpd (fun u => { u with otp := otp, flash := flashConfirm u.flash bank, step := 0, other := noItems })
      let s3 := if s.upd.hingeDown then s2 else s2.keeperJoin s2.otherPair
      (((s3.disarm tTrial).setUpd 1).setLast 11).updEvent 5))

/-- A reverse handover starts (R480); without a hinge standby it is a device reset (R481). -/
def State.updReverse (s : State) : State :=
  if s.upd.hingeDown then s.deviceReset
  else ((s.disarm tTrial).setUpd 7).modUpd (fun u => { u with step := 7, units := [] })

/-- UPD_REVERSE (R480, R482): VI 0's, after step 4 of an activation or in TRIAL. -/
def execUpdReverse (dt vi : Nat) (s : State) : Res :=
  .next ((s.tick dt).guardWrite vi updPage (fun s =>
    if vi ≠ 0 then s.on (·.denied)
    else if s.updState = 6 ∨ (s.updState = 5 ∧ 4 ≤ s.upd.step) then s.updReverse
    else s.updRefuse 5))

/-- TRIAL_WARN (R479): 60 s of TRIAL remain. -/
def execTrialWarn (dt : Nat) (s : State) : Res :=
  let s1 := s.tick dt
  .next (if s1.updState = 6 ∧ s1.bus.running tTrial = true ∧ s1.bus.left tTrial ≤ clkS 60 then s1.updEvent 7 else s1)

/-- TRIAL_TIMEOUT (R480). -/
def execTrialTimeout (dt : Nat) (s : State) : Res :=
  .next ((s.tick dt).onExpiry tTrial (fun s => if s.updState = 6 then s.updReverse else s))

/-- The hinge standby becomes VI 0 with the old image (R480); the pair that leaves is left with a ROLE. -/
def State.reverseHandover (s : State) (role : Nat) : State := s.updSwitch (1 - s.bootBank) role 8

/-- REVERSE_HANDOVER (R480): the pair that leaves joins again as standby. -/
def execReverseHandover (dt : Nat) (s : State) : Res :=
  let s1 := s.tick dt
  .next (if s1.updState ≠ 7 ∨ s1.upd.step ≠ 7 then s1
    else
      let s2 := s1.reverseHandover 3
      s2.keeperJoin s2.otherPair)

/-- REVERSE_COMPLETE (R480): pattern tables and inrush profiles are the old image's again; IDLE, LAST REVERSED, EV34. -/
def execReverseComplete (dt : Nat) (s : State) : Res :=
  let s1 := s.tick dt
  .next (if s1.updState ≠ 7 ∨ s1.upd.step ≠ 8 ∨ s1.upd.units ≠ [] then s1
    else (((s1.loadTables.setUpd 1).setLast 12).modUpd (fun u => { u with step := 0, other := noItems })).updEvent 6)

/-- UPD_RECOVER (R468): VI 1's, in recovery: the bank verified is CONFIRMED and the device starts anew. -/
def execUpdRecover (dt vi : Nat) (s : State) : Res :=
  .next ((s.tick dt).guardWrite vi updPage (fun s =>
    if vi ≠ 1 then s.on (·.denied)
    else if !s.bus.recovery ∨ s.updState ≠ 4 then s.updRefuse 5
    else (s.modUpd (fun u => { u with flash := flashConfirm u.flash s.updTarget })).deviceReset))

end Sys2Proof.Machine
end

