-- ==== Sys2Proof/Machine/Epochs.lean ====
section
/-! DEFINITION. Global configuration epochs and the journal's room (R445, R446, R448, R451). -/

namespace Sys2Proof.Machine

/-! ## Requests (R445) -/

/-- FLT_STATUS.PWR_FAIL. -/
def State.pwrFail (s : State) : Bool := s.bit (fltKey R.FLT_STATUS) 1

/-- A write of the FLT page, or of a BST page, that VI 0 alone makes (R454, R456). -/
def State.vi0Write (s : State) (vi page : Nat) (f : State → State) : State :=
  s.guardWrite vi page (fun s => if vi = 0 then f s else s.on (·.denied))

/-- EPOCH_REQUEST (R445). -/
def execEpochRequest (dt vi value : Nat) (s : State) : Res :=
  .next ((s.tick dt).vi0Write vi fltPage (fun s => s.ifThen (bitOf 0 value) (·.epochAsk)))

/-- EPOCH_AUTO_EXPIRE (R445). -/
def execEpochAutoExpire (dt : Nat) (s : State) : Res := .next ((s.tick dt).onExpiry tEpochAuto (·.epochAuto))

/-- LAST_EPOCH of FLT_STATUS: 0 none, 1 applied, 2 aborted, 3 refused after PWR_FAIL_N. -/
def State.setLastEpoch (s : State) (v : Nat) : State := s.setFld (fltKey R.FLT_STATUS) 5 3 v

/-- Whether an epoch is asked for: automatic and join requests are held while a proposal is SEALED (R445). -/
def State.epochWanted (s : State) : Bool := s.epochs.asked || (s.epochs.auto && decide (s.dkyState ≠ 3))

/-- The journal entries of operations of a proposal. -/
def opEntries (ops : List ProtOp) : List (Nat × Nat) := ops.map (fun o => (jkey o.1 o.2.1, maskOf (rwlMask o.1) o.2.2))

/-- The request is accepted (Table 15-12 step 1): the staging log closes and its record is written. -/
def State.epochOpen (s : State) : State :=
  let ops := s.opsStaged
  let es := s.epochs.log ++ opEntries ops
  let run : EpochRun := ⟨s.bus.now, s.epochs.log, s.epochs.pages, ops, s.jrn.next, false⟩
  let s1 := (s.modEpochs (fun _ => ⟨[], [], false, false, some run⟩)).jwrite 1 (s.rd (fltKey R.FLT_EPOCH) + 1) 0 es
  ((s1.setBit (fltKey R.FLT_STATUS) 3 true).setFld (fltKey R.FLT_EPOCH_LOG) 16 14 es.length).disarm tEpochAuto

/-- GLOBAL_EPOCH_START (R445, R451): no effect while an epoch runs or the log lacks room; refused after PWR_FAIL_N. -/
def execGlobalEpochStart (dt : Nat) (s : State) : Res :=
  let s1 := s.tick dt
  .next (if s1.epochs.run.isSome || !s1.epochWanted then s1
    else if s1.pwrFail then (s1.modEpochs (fun e => { e with asked := false, auto := false })).setLastEpoch 3
    else if s1.logRoom (s1.epochs.log.length + s1.opsStaged.length) then s1.epochOpen
    else s1)

/-! ## Step 3: the epoch takes effect -/

/-- Whether an operation's register stands in the AON domain: LDS_CLASS (Table 15-12 step 4). -/
def aonOp (o : ProtOp) : Bool := decide (blockOfPage (o.1 / 4096) = some .lds)

/-- Every record up to a place in the log is durable; the record of the epoch bears tE (Table 15-12 step 2, Table 15-13). -/
def durableTo (now w pos : Nat) : List JRec → List JRec
  | [] => []
  | r :: t =>
    let r1 := { r with durable := true, durAt := if r.durable then r.durAt else now }
    if r.pos = pos then { r1 with time := if r.kind = 1 then w else r.time } :: t else r1 :: durableTo now w pos t

def State.logDurable (s : State) (pos : Nat) : State :=
  { s with jrn := { s.jrn with log := durableTo s.bus.now s.bus.w250 pos s.jrn.log } }

/-- What follows from a committed set-up besides the words themselves (R93, R382, R392, Table 11-3). -/
def State.setupFollows (s : State) (old : SMap Grant) (wasBound : Bool) : State :=
  let s1 := s.grantEvent old
  let s2 := if s1.bound = wasBound then s1 else s1.boundChanged s1.dkyHolder
  (List.range 8).foldl State.tokClaim s2

/-- tE (Table 15-12 step 3): every staged value outside the AON domain becomes active, FLT_EPOCH moves on and PENDING clears; a proposal
that this epoch does not carry is STALE (Table 13-5); an update takes its next step. -/
def State.epochLive (s : State) (r : EpochRun) : State :=
  let w := s.bus.w250
  let s1 := (s.logDurable r.pos).addWrap (fltKey R.FLT_EPOCH) 1
  let s2 := ((s1.wr (fltKey R.FLT_EPOCH_TIME) (stampW0 w)).wr (fltKey (R.FLT_EPOCH_TIME + 4)) (stampW1 w)).wr
    (fltKey (R.FLT_EPOCH_TIME + 8)) (stampW2 w)
  let s3 := s2.commitPages r.pages
  let s4 := s3.on (fun b => (r.ops.filter (fun o => !aonOp o)).foldl Bus.protWrite b)
  let s5 := if r.ops.isEmpty then s4 else s4.setupFollows s.bus.grants s.bound
  let s6 := if s5.dkyState = 4 ∧ r.ops = [] then (s5.dkyIdle 8).dkyEvent 3 else s5
  ((s6.updAuthorise s.ticket r.ops).updEpoch).modEpochs (fun e => { e with run := some { r with live := true } })

/-- The epoch in progress, if its record may still become durable (R446, R451): by t0 + 60 µs, and not after PWR_FAIL_N. -/
def State.epochReady (s : State) : Option EpochRun :=
  match s.epochs.run with
  | some r => if !r.live && decide (s.bus.now ≤ r.t0 + clkUs 60) && !s.pwrFail then some r else none
  | none => none

/-! ## Steps 4 and 5, and abort -/

/-- A proposal has been applied (Table 13-5): APPLIED, EV14; presence is used up by a bootstrap proposal (R380). -/
def State.dkyApplied (s : State) (ops : List ProtOp) : State :=
  if ops.isEmpty then s
  else
    let s1 := (s.dkyIdle 11).dkyEvent 2
    s1.ifThen s.dkyBoot (fun a => (a.setBit (dkyKey R.DKY_STATUS) 3 false).disarm tPresence)

/-- GLOBAL_EPOCH_AON_APPLY (Table 15-12 steps 4 and 5). -/
def execGlobalEpochAonApply (dt : Nat) (s : State) : Res :=
  let s1 := s.tick dt
  .next (match s1.epochs.run with
    | none => s1
    | some r =>
      if !r.live then s1
      else
        let s2 := s1.on (fun b => (r.ops.filter aonOp).foldl Bus.protWrite b)
        let s3 := if r.ops.any aonOp then (List.range 24).foldl State.ldsRefresh s2 else s2
        let s4 := ((s3.modEpochs (fun e => { e with run := none })).setBit (fltKey R.FLT_STATUS) 3 false).setLastEpoch 1
        (s4.raise fltPage 1).dkyApplied r.ops)

/-- GLOBAL_EPOCH_ABORT (R446): 60 µs have passed without a durable record: nothing becomes active, PENDING stays, FS2; what was staged
is staged again, and the record is withdrawn. -/
def execGlobalEpochAbort (dt : Nat) (s : State) : Res :=
  let s1 := s.tick dt
  .next (match s1.epochs.run with
    | none => s1
    | some r =>
      if r.live || decide (s1.bus.now < r.t0 + clkUs 60) then s1
      else
        let s2 := s1.modEpochs (fun e => { e with run := none, log := r.entries ++ e.log, pages := r.pages ++ e.pages })
        let s3 := { s2 with jrn := { s2.jrn with log := s2.jrn.log.filter (fun x => decide (x.pos ≠ r.pos)) } }
        ((s3.setBit (fltKey R.FLT_STATUS) 3 false).setLastEpoch 2).fault 2 { page := fltPage })

/-! ## The journal's room and durable records (R448) -/

/-- The entries of a change that waits for room. -/
def State.waitEntries (s : State) (w : JWait) : List (Nat × Nat) :=
  match w.kind with
  | 2 => [(jkey (rk calPage R.CAL_D0) w.index, w.words.getD 0 0), (jkey (rk calPage R.CAL_D1) w.index, w.words.getD 1 0)]
  | 3 => [(jkey (rk calPage R.CAL_MTX_DATA) w.index, w.words.getD 0 0)]
  | 4 => [ldsOutEntry w.index (w.words.getD 0 0)]
  | 5 => [(jkey (budKey w.index) 0, w.words.getD 0 0)]
  | _ => epEntries w.index (s.epPhys w.vi w.words)

/-- A change whose record found room takes effect. -/
def State.waitApply (s : State) (w : JWait) : State :=
  match w.kind with
  | 2 => s.calApply w
  | 3 => s.mtxApply w
  | 4 => s.ldsOutApply w
  | 5 => s.budApply w
  | _ => s.epApply w

/-- The changes that wait are served in order while there is room. -/
def State.serveWaits (s : State) : Nat → State
  | 0 => s
  | n + 1 =>
    match s.jrn.waits with
    | [] => s
    | w :: t =>
      let es := s.waitEntries w
      if s.logRoom es.length then
        (({ s with jrn := { s.jrn with waits := t } }.waitApply w).jconfig (jwaitKind w) es).serveWaits n
      else s

/-- The home copy absorbs a record (R444). -/
def State.absorb (s : State) (r : JRec) : State :=
  let s1 := { s with jrn := { s.jrn with home := r.entries.foldl (fun m e => m.set e.1 e.2) s.jrn.home } }
  if r.kind = 1 then s1.wr (fltKey R.FLT_HOME_EPOCH) r.epoch else s1

/-- JOURNAL_LOG_ROOM (R444, R448): the home copy absorbs the oldest durable records, at most as many as named, and the changes held for
room take effect. -/
def execJournalLogRoom (dt records : Nat) (s : State) : Res :=
  let s1 := s.tick dt
  let old := (s1.jrn.log.takeWhile (·.durable)).take records
  let s2 := old.foldl State.absorb s1
  let s3 := { s2 with jrn := { s2.jrn with log := s2.jrn.log.drop old.length } }
  .next (s3.serveWaits s3.jrn.waits.length)

/-- JOURNAL_RECORD_DURABLE (R448): a record of KIND 2, 3 or 4 is durable, and with it those before it, unless the record of a global
epoch stands before it and is not. -/
def execJournalRecordDurable (dt pos : Nat) (s : State) : Res :=
  let s1 := s.tick dt
  let before := s1.jrn.log.takeWhile (fun r => decide (r.pos ≠ pos))
  .next (match s1.jrn.log.find? (fun r => decide (r.pos = pos)) with
    | none => s1
    | some r => if r.kind = 1 ∨ before.any (fun x => decide (x.kind = 1) && !x.durable) = true then s1 else s1.logDurable pos)

/-! ## Power failure (Table 15-14) -/

/-- A change that still waits for room is dropped as Table 3-6 gives for DRAINING; a command's BUSY clears. -/
def State.dropWait (s : State) (w : JWait) : State :=
  let s1 := s.on (·.late w.vi)
  match w.kind with
  | 0 => s1.setBit (valReg w.vi R.VAL_EP_STATUS) 0 false
  | 1 => s1.setBit (valReg w.vi R.VAL_EP_STATUS) 0 false
  | 2 => s1.setBit (calReg w.vi R.CAL_STATUS) 0 false
  | _ => s1

/-- POWER_FAIL_FLUSHED (Table 15-14 step 3): every record of a change that took effect is durable, and MRAM writing ends; the
record of an epoch that was not durable is withdrawn. -/
def execPowerFailFlushed (dt : Nat) (s : State) : Res :=
  let s1 := s.tick dt
  .next (if !s1.pwrFail then s1
    else
      let s2 := s1.jrn.waits.foldl State.dropWait s1
      { s2 with jrn := { s2.jrn with
          waits := [], closed := true
          log := (s2.jrn.log.filter (fun r => r.durable || decide (r.kind ≠ 1))).map (fun r =>
            if r.durable then r else { r with durable := true, durAt := s2.bus.now }) } })

/-- POWER_FAIL_RELEASE (R451): 1 ms after PWR_FAIL_N was released epochs and writes are accepted again, and FS6 clears. -/
def execPowerFailRelease (dt : Nat) (s : State) : Res :=
  let s1 := s.tick dt
  let s2 := (s1.setBit (fltKey R.FLT_STATUS) 1 false).setBit (fsKey 6 R.FLT_SRC_STATUS) 10 false
  .next { s2 with jrn := { s2.jrn with closed := false } }

end Sys2Proof.Machine
end

