-- ==== Sys2Proof/Machine/Bist.lean ====
section
/-! DEFINITION. In-service self-test and warm join (R439 to R443). A group's run stands under the page of the unit that it tests; for a lane
or a worker its spare joins first, on the spare's own page. -/

namespace Sys2Proof.Machine

/-! ## Groups and units (Table 15-8) -/

/-- A unit that self-test covers while the device is in service. -/
inductive Unit' where
  | plane (p : Nat)
  | lane (n : Nat)
  | worker (c : Nat)
  | keeper (p : Nat)
  deriving DecidableEq, Repr

/-- The BST page of a unit and its number within the page. -/
def Unit'.page (u : Unit') : Nat :=
  Block.bst.pg (match u with | .plane p => p | .lane n => 9 + n | .worker c => 27 + c / 16 | .keeper p => 33 + p)
def Unit'.sub (u : Unit') : Nat := match u with | .worker c => c % 16 | _ => 0

/-- The unit of a number in the group of a page, if the group runs in service; numbers count within the kind. -/
def unitAt (page n : Nat) : Option Unit' :=
  let b := pageIndex page
  if blockOfPage page ≠ some .bst then none
  else if b < 9 then some (.plane n) else if b < 27 then some (.lane n) else if b < 33 then some (.worker n)
  else if b < 35 then some (.keeper n) else none

/-- The number of the unit that a run of a group tests: BST_UNIT names the worker (R441). -/
def State.dueUnit (s : State) (page : Nat) : Nat :=
  let b := pageIndex page
  if b < 9 then b else if b < 27 then b - 9 else if b < 33 then 16 * (b - 27) + s.fld (rk page R.BST_UNIT) 0 4 else b - 33

def State.run (s : State) (page : Nat) : Option BistRun := s.bist.runs.find? page
def State.setBistRun (s : State) (page : Nat) (r : BistRun) : State := s.modBist (fun b => { b with runs := b.runs.set page r })

/-- ROLE of a unit goes to a value: 0 unusable or under test, 2 spare, 3 joining; a plane has none. -/
def State.setRole (s : State) (u : Unit') (role : Nat) : State :=
  match u with
  | .plane _ => s
  | .lane n => ((s.setFld (cmpKey n R.CMP_STATUS) 0 2 role).setFld (cmpKey n R.CMP_STATUS) 2 5 31).lanesReport
  | .worker c => s.setWorker c role 255
  | .keeper p => s.setKpr p role

/-- BUD_STATUS.BIST_DEFERRED follows the deferred runs. -/
def State.deferReport (s : State) : State :=
  s.setBit (budKey R.BUD_STATUS) 10 (s.bist.runs.cells.any (fun p => decide (p.2.phase = 5)))

/-- The run of a group ends. -/
def State.runEnd (s : State) (page : Nat) : State :=
  ((s.modBist (fun b => { b with runs := b.runs.erase page })).setFld (rk page R.BST_STATUS) 0 3 0).deferReport

/-- Self-test of a unit begins: BST_STATUS of its page (Table 15-18). -/
def State.testShow (s : State) (u : Unit') : State := s.bstShow u.page 1 u.sub

/-! ## Start of a run (R441) -/

/-- The spare that joins a unit's work first; none where the unit carries no work. -/
def State.joiner (s : State) (u : Unit') : Option Unit' :=
  match u with
  | .lane n => if s.laneRole n = 1 then (s.laneSpare (laneDie n)).map .lane else none
  | .worker c => if s.workerRole c = 1 then (s.workerSpare c).map .worker else none
  | .keeper p => if p = s.bus.keeper then (if s.kprRole (1 - p) = 2 then some (.keeper (1 - p)) else none) else none
  | .plane _ => none

/-- Whether a unit carries work now. -/
def State.carries (s : State) (u : Unit') : Bool :=
  match u with
  | .lane n => decide (s.laneRole n = 1)
  | .worker c => decide (s.workerRole c = 1)
  | .keeper p => decide (p = s.bus.keeper)
  | .plane _ => false

/-- Whether a run of a unit is deferred (R441). -/
def State.deferred (s : State) (u : Unit') : Bool :=
  (s.carries u && (s.joiner u).isNone)
    || (match u with | .plane p => (match s.isoPlane with | some q => decide (q ≠ p) | none => s.fab.isoPend.isSome) | _ => false)
    || decide (1 ≤ s.fld (budKey R.BUD_STATUS) 0 6) || s.pwrFail
    || (match u with | .keeper _ => decide (5 ≤ s.updState) | _ => false)

def Unit'.num (u : Unit') : Nat := match u with | .plane p => p | .lane n => n | .worker c => c | .keeper p => p

/-- The unit itself is under test, out of the work that it did: a plane is isolated (R132). -/
def State.testUnit (s : State) (page : Nat) (u : Unit') : State :=
  let s1 := match u with
    | .plane p => (match s.isoPlane with
      | some _ => s
      | none =>
        let k := fabKey R.FAB_STATUS
        ((((s.setBit k p false).setBit k 9 true).setFld k 10 4 p).setBit k 14 false).raise fabPage 0)
    | .keeper p => s.setKpr p 3
    | u => s.setRole u 0
  (s1.setBistRun page ⟨4, u.num, u.num, s.bus.now, 0⟩).testShow u

/-- A run of a group begins with the joining unit's own test, or at once with the unit's where it carries nothing, or it is deferred:
EV77. -/
def State.runBegin (s : State) (page : Nat) : State :=
  match unitAt page (s.dueUnit page) with
  | none => s
  | some u =>
    if s.deferred u then ((s.setBistRun page ⟨5, u.num, u.num, s.bus.now, 0⟩).bstShow page 3 u.sub).deferReport.raise page 5
    else
      let s1 := match u with | .worker c => s.setFld (rk page R.BST_UNIT) 0 4 (c % 16 + 1) | _ => s
      match s1.joiner u with
      | some (.keeper q) => (s1.modBist (fun b => { b with runs := b.runs.erase page })).deferReport.shadowRun page u.num q true
      | some j => (((s1.setBistRun page ⟨1, u.num, j.num, s.bus.now, 0⟩).setRole j 3).testShow j).deferReport
      | none => (s1.testUnit page u).deferReport

/-- Whether a group may begin a run: BIST_EN, and no run of it in progress. -/
def State.runFree (s : State) (page : Nat) : Bool :=
  s.bit (fltKey R.FLT_CTRL) 0 && (match s.run page with | none => true | some r => decide (r.phase = 5))

/-- A write of BST_CTRL: AUTO, and START. -/
def State.bstCtrl (s : State) (page value : Nat) : State :=
  (s.setBit (rk page R.BST_CTRL) 0 (bitOf 0 value)).ifThen (bitOf 1 value && s.runFree page) (·.runBegin page)

/-- BIST_START (R441): VI 0's. -/
def execBistStart (dt vi page value : Nat) (s : State) : Res :=
  .next ((s.tick dt).vi0Write vi page (fun s => if blockOfPage page = some .bst then s.bstCtrl page value else s))

/-- BIST_PERIOD_DUE (R441): AUTO is 1 and BST_PERIOD minutes have passed. -/
def execBistPeriodDue (dt page : Nat) (s : State) : Res :=
  let s1 := s.tick dt
  .next (if s1.bit (rk page R.BST_CTRL) 0 && decide (s1.fld (rk page R.BST_PERIOD) 0 16 ≠ 0) && s1.runFree page && (s1.run page).isNone
    then s1.runBegin page else s1)

/-- BIST_DEFERRED_START (R441): a deferred run starts when nothing defers it. -/
def execBistDeferredStart (dt page : Nat) (s : State) : Res :=
  let s1 := s.tick dt
  .next (match s1.run page, unitAt page (s1.dueUnit page) with
    | some r, some u => if r.phase = 5 ∧ s1.deferred u = false ∧ s1.bit (fltKey R.FLT_CTRL) 0 = true then s1.runBegin page else s1
    | _, _ => s1)

/-! ## The end of a test (R439) -/

/-- The run that tests a unit now, by its group's page. -/
def State.testing (s : State) (page unit : Nat) : Option (Nat × BistRun × Unit') :=
  s.bist.runs.cells.findSome? (fun p =>
    match unitAt p.1 (if p.2.phase = 1 then p.2.spare else p.2.unit) with
    | some u => if (p.2.phase = 1 ∨ p.2.phase = 4) ∧ u.page = page ∧ u.sub = unit then some (p.1, p.2, u) else none
    | none => none)

/-- The result of a unit's test is recorded: EV72, or FS3 and EV73 with the unit marked unusable (R439, R440). -/
def State.testResult (s : State) (u : Unit') (exp misr : Nat) : State :=
  let k := fun (off : Nat) => rk u.page off
  let ok := decide (exp = misr)
  let s1 := (((s.wr (k R.BST_SIG_EXP) exp).wr (k R.BST_SIG_GOT) misr).addWrap (k R.BST_CNT_RUN) 1).setBit (k R.BST_STATUS) 3 ok
  let s2 := (s1.setBit (k R.BST_UNUSABLE) u.sub (!ok)).setFld (k R.BST_STATUS) 0 3 0
  if ok then s2.raise u.page 0
  else ((s2.addSat (k R.BST_CNT_FAIL) 1).fault 3 { page := u.page, access := 7, engine := u.num }).raise u.page 1

/-- A unit that has passed becomes the spare, or joins again: a plane after 1 ms of slices, a keeper pair as standby (R441, Table 15-9). -/
def State.unitPassed (s : State) (page : Nat) (u : Unit') : State :=
  match u with
  | .plane p => s.shadowRun page p p true
  | .keeper p => (s.runEnd page).keeperJoin p
  | u => (s.setRole u 2).runEnd page

/-- BIST_COMPLETE (R439): the MISR of a unit under test is compared with the running image's signature. -/
def execBistComplete (dt page unit misr : Nat) (s : State) : Res :=
  let s1 := s.tick dt
  .next (match s1.testing page unit with
    | none => s1
    | some (g, r, u) =>
      let exp := s1.bist.sigs.find 0 (pageIndex page * 16 + unit)
      let s2 := s1.testResult u exp misr
      if exp ≠ misr then
        (let s3 := (s2.setRole u 0).runEnd g
         match u with | .plane p => s3.fault 40 { page := fabPage, engine := p, access := 7, kind := 5 } | _ => s3)
      else if r.phase = 1 then (s2.setBistRun g { r with phase := 2 }).bstShow g 2 0
      else s2.unitPassed g u)

/-! ## Warm join (R442, R443, Table 15-9) -/

/-- A worker whose state can be copied: it blocks in WAIT with no command queued, or is stopped. -/
def State.atWait (s : State) (c : Nat) : Bool := s.zwStopped c || ((s.zw c).waiting.isSome && (s.zw c).queue.isEmpty)

/-- JOIN_STATE_TAKEN (R442): a lane from the mirror of R211 at a binding instant, a worker while its carrier blocks; EV74. -/
def execJoinStateTaken (dt page : Nat) (s : State) : Res :=
  let s1 := s.tick dt
  .next (match s1.run page with
    | none => s1
    | some r =>
      if r.phase ≠ 2 then s1
      else match unitAt page r.unit with
        | some (.worker c) => if s1.atWait c then s1.shadowRun page r.unit r.spare false else s1
        | _ => s1.shadowRun page r.unit r.spare false)

/-- A worker takes over the work of another with its state as it stands; the other stops with a REASON and a ROLE. -/
def State.workerPass (s : State) (c n reason role : Nat) : State :=
  let l := s.fld (zwkKey c R.ZWK_STATUS) 8 8
  let st := s.fld (zwkKey c R.ZWK_STATUS) 0 2
  let s1 := ((s.workerRegs c n).setZw n (s.zw c)).setZw c ZwCore.init
  let s2 := s1.on (fun b => { b with
    evt := (b.evt.put 0 n (b.evt.find 0 c)).put 0 c 0
    timers := match b.timers.find? (tCore c) with
      | some t => (b.timers.erase (tCore c)).set (tCore n) t
      | none => b.timers.erase (tCore n) })
  let s3 := ((s2.setWorker n 1 l).setRun n st).wr (zwkKey n R.ZWK_TIMER) (s.rd (zwkKey c R.ZWK_TIMER))
  ((s3.setWorker c role 255).setRun c 0).setFld (zwkKey c R.ZWK_STATUS) 2 4 reason

/-- A plane carries slices again: EV181 (R133). -/
def State.planeJoin (s : State) (p : Nat) : State :=
  let k := fabKey R.FAB_STATUS
  ((((s.setBit k p true).setBit k 9 false).setFld k 10 4 0).setBit k 14 true).raise fabPage 1

/-- Whether a shadow-run may end now: 1 ms for a plane, a worker and a keeper pair; at a global epoch for a plane and a keeper pair; at a
WAIT for a worker. -/
def State.joinReady (s : State) (r : BistRun) (u : Unit') : Bool :=
  let ms := decide (r.since + clkMs 1 ≤ s.bus.now)
  let epoch := decide (s.rd (fltKey R.FLT_EPOCH) ≠ r.epoch)
  match u with
  | .lane _ => decide (r.since < s.bus.now)
  | .plane _ => ms && epoch
  | .worker c => ms && s.atWait c
  | .keeper _ => ms && epoch

/-- JOIN_TAKEOVER (R442): the joining unit takes over, EV75, and the unit that it relieved is tested; a unit that had been tested itself is
in service. -/
def execJoinTakeover (dt page : Nat) (s : State) : Res :=
  let s1 := s.tick dt
  .next (match s1.run page with
    | none => s1
    | some r => match unitAt page r.unit with
      | none => s1
      | some u =>
        if r.phase ≠ 3 ∨ s1.joinReady r u = false then s1
        else
          let s2 := s1.raise page 3
          match u with
          | .plane p => (s2.planeJoin p).runEnd page
          | .lane n => (s2.laneMove n r.spare (s2.laneLl n) 0).testUnit page u
          | .worker c => (s2.workerPass c r.spare 5 0).testUnit page u
          | .keeper p =>
            if r.spare = p then ((s2.setKpr p 2).setBit (kprKey p R.KPR_STATUS) 2 true).runEnd page
            else (s2.keeperMove 3).testUnit page u)

/-- The unit that joins in a run. -/
def BistRun.joining (page : Nat) (r : BistRun) : Option Unit' := unitAt page r.spare

/-- JOIN_ABORT (R442): a mismatch, or a fault of the joining unit: FS4, EV76, and the joining unit is unusable until it passes BIST. -/
def execJoinAbort (dt page : Nat) (s : State) : Res :=
  let s1 := s.tick dt
  .next (match s1.run page with
    | none => s1
    | some r =>
      if r.phase ≠ 2 ∧ r.phase ≠ 3 then s1
      else match r.joining page with
        | none => s1
        | some j =>
          let s2 := ((s1.setRole j 0).setBit (rk j.page R.BST_UNUSABLE) j.sub true).runEnd page
          (s2.fault 4 { page := j.page, access := 7, engine := j.num }).raise page 4)

/-- A run stops without fault of its units (R443): a unit that was joining is a spare again, one under test too. -/
def State.runStop (s : State) (page : Nat) : State :=
  match s.run page with
  | none => s
  | some r =>
    let s1 := s.runEnd page
    match r.phase, unitAt page (if r.phase = 4 then r.unit else r.spare) with
    | 5, _ => s1
    | 4, some (.keeper _) => s1
    | 4, some j => s1.setRole j 2
    | 3, some (.keeper p) => (s1.setKpr p (if r.spare = r.unit then 3 else 2)).raise page 4
    | _, some j => (s1.setRole j 2).raise page 4
    | _, none => s1

/-- The run in which a unit is the carrier, if its spare joins. -/
def State.joinOf (s : State) (u : Unit') : Option (Nat × BistRun) :=
  s.bist.runs.cells.find? (fun p => decide (p.2.phase ≤ 3) && decide (unitAt p.1 p.2.unit = some u) && decide (p.2.spare ≠ p.2.unit))

/-- A fault of the carrier aborts the join, and its spare is free (R443). -/
def State.carrierFault (s : State) (u : Unit') : State :=
  match s.joinOf u with
  | some p => s.runStop p.1
  | none => s

/-- Shadow-runs that an epoch found shorter than 1 ms wait for the next one (Table 15-9). -/
def State.joinsWait (s : State) : State :=
  (s.bist.runs.cells.filter (fun p => decide (p.2.phase = 3) && decide (s.bus.now < p.2.since + clkMs 1))).foldl (fun a p =>
    match unitAt p.1 p.2.unit with
    | some (.lane _) => a
    | some (.worker _) => a
    | _ => (a.setBistRun p.1 { p.2 with epoch := s.rd (fltKey R.FLT_EPOCH) }).epochAuto) s

/-- POWER_FAIL_WARNING (Table 15-14 step 1): FS6; self-test and joins stop, a layout epoch in STATE 2 is abandoned, and an activation before
its step 4 is given up. -/
def execPowerFailWarning (dt : Nat) (s : State) : Res :=
  let s1 := (s.tick dt).setBit (fltKey R.FLT_STATUS) 1 true
  let s2 := s1.fault 6 { page := fltPage }
  let s3 := (s2.bist.runs.cells.map (·.1)).foldl State.runStop s2
  let gs := (s3.comp.epochs.cells.map (·.1)).filter (fun g => decide (s3.epochState g = 2))
  let s4 := gs.foldl (fun a g => (a.setEpoch g none).epochStatus g 0) s3
  .next (if s4.updState = 5 ∧ s4.upd.step < 4 then s4.updAbandon.keeperJoin s4.otherPair else s4)

end Sys2Proof.Machine
end

