-- ==== Sys2Proof/Machine/Faults.lean ====
section
/-! DEFINITION. Fault reaction (R422 to R438): immediate effects, records, acknowledgement, the escalation ladder, spares and the reset of a
domain or of the device. -/

namespace Sys2Proof.Machine

/-! ## Immediate effects (R423 and the tables it names) -/

/-- A plane is isolated (R132), unless one already is. -/
def State.planeIsolate (s : State) (p : Nat) : State :=
  match s.isoPlane with
  | some _ => s
  | none =>
    let k := fabKey R.FAB_STATUS
    (((((s.setBit k p false).setBit k 9 true).setFld k 10 4 p).setBit k 14 false).raise fabPage 0)

/-- A well with uncorrectable state restarts empty, its packets counted in CIS_CNT_BAD (FS49). -/
def State.wellBad (s : State) (q : Nat) : State :=
  (s.queue q).foldl (fun a x => ((a.takeOut x).cisCount x.copy.out R.CIS_CNT_BAD x.copy.k x.copy.cls).gone x.pkt (queueOf x.copy)) s

/-- An uncorrectable endpoint entry (FS65): its configuration comes from its journaled copy, its state is age unknown. -/
def State.epRestore (s : State) (i : Nat) : State :=
  s.epInstall 0 i ((List.range 3).map (fun k => s.homeNow.find 0 (jkey (rk valPage (R.VAL_EP_D + 4 * k)) i))) true

/-- An uncorrectable word of a CAN controller (FS89): a filter or schedule entry is the configuration's again, as the mirror holds it; a
transmit request ends CANCELLED; the receive frame at the head is discarded. `addr` is the offset of the word in the page. -/
def State.canBad (s : State) (n addr : Nat) : State :=
  if R.CAN_TXBUF ≤ addr ∧ addr < R.CAN_TXBUF + 0x200 then
    (let b := (addr - R.CAN_TXBUF) / 0x80
     if s.txWaits n b || decide (s.txStat n b = 2) then s.setTxStat n b 4 else s)
  else if 0x400 ≤ addr ∧ addr < 0x800 then s
  else if 0x800 ≤ addr then s.modCtl n (fun c => { c with fifo := c.fifo.drop 1, headLocked := false })
  else s

/-- A spare has taken over: FLT_CNT_SPARE, EV62. -/
def State.spareTaken (s : State) : State := (s.addSat (fltKey R.FLT_CNT_SPARE) 1).raise fltPage 2

/-- A fault of a worker whose spare joins (R443): a spare that shadow-runs takes over at once with the state it has; one that has not
copied it yet is a spare again. -/
def State.carrierStop (s : State) (c : Nat) : State :=
  match s.joinOf (.worker c) with
  | some p => if p.2.phase = 3 then ((s.runEnd p.1).raise p.1 4).workerPass c p.2.spare 5 0 |>.spareTaken else s.runStop p.1
  | none => s

/-- The effect that a source has at its detection, before any grace (R423), on the unit that the detection names (assumption log 36 says
how ADDR and ENGINE name one). -/
def State.faultEffect (s : State) (fs : Nat) (u : FaultAt) : State :=
  let i := pageIndex u.page
  match fs with
  | 8 => s.setBit (timKey R.TIM_CTRL) 5 true
  | 9 => s.on (·.haltDoms [10, 11, 12, 13, 14, 15, 16, 17, 18, 19, 20, 21, 2, 3, 4, 5, 6, 7, 8, 9])
  | 10 => s.on (fun b => { b with pcieUp := false })
  | 11 => { s with tim := { s.tim with xtalLost := true } }
  | 12 => { s with tim := { s.tim with noStandby := (u.addr :: s.tim.noStandby).eraseDups } }
  | 15 => s.on (·.haltDoms (domsOfClk u.addr))
  | 18 => s.on (fun b => { b with pcieUp := false })
  | 32 => s.linkDown i
  | 35 => (match s.str.entries.find? u.addr with | some e => s.setEntry u.addr { e with w := e.w.set 0 (e.w.getD 0 0 / 2 * 2) } | none => s)
  | 39 => s.on (·.haltDoms [10])
  | 40 => s.planeIsolate (u.engine % 9)
  | 43 => s.on (·.haltDoms [10])
  | 49 => s.wellBad u.addr
  | 52 => s.ringFail (u.addr % 16384) u.addr
  | 56 => (s.carrierFault (.lane i)).laneFail i
  | 59 => s.hbmUncorr (u.addr / 4096) (u.addr / 1024 % 4) (u.addr % 1024)
  | 60 => s.engineFail (u.engine / 4) (u.engine % 4)
  | 65 => s.epRestore u.addr
  | 66 => ({ s.addSat (rk valPage R.VAL_CNT_OVF) s.val.queue.length with val := { s.val with queue := [] } })
  | 73 => s.litStop i
  | 74 => s.mtxStop i
  | 75 => s.stageOff i
  | 80 => (s.setBit (ldsG R.LDS_G_STATUS) 2 true).limpBegin
  | 84 => s.coiEnd i 4 (s.coiOffDrive i)
  | 85 => s.setBit (ldsG R.LDS_G_STATUS) 5 false
  | 89 => s.canBad i u.addr
  | 90 => s.setAlone i true
  | 91 => s.setBit (wakKey i R.WAK_STATUS) 10 true
  | 96 => (s.carrierStop i).zwStop i 3
  | 97 => (s.carrierStop i).zwStop i 2
  | 99 => (s.carrierStop i).zwStop i 4
  | 100 => (s.carrierFault (.keeper i)).setBit (kprKey i R.KPR_STATUS) 2 false
  | 102 => s.carrierFault (.keeper i)
  | 105 => s.setBit (idnKey R.IDN_STATUS) 0 false
  | 106 => s.tokEnter i 0
  | _ => s

/-! ## Rungs that apply (Table 15-4) -/

def State.modEsc (s : State) (fs : Nat) (f : Esc → Esc) : State := { s with esc := s.esc.put Esc.init fs (f (s.esc.find Esc.init fs)) }
def State.escOf (s : State) (fs : Nat) : Esc := s.esc.find Esc.init fs

/-- The unit of a source: its page and the address that the record bears. -/
def State.unitOf (s : State) (fs : Nat) : Nat × Nat := s.bus.units.find (fsPage fs, 0) fs

/-- The power domains that rung 4 resets: that of the unit's page, for FS15 those of the clock it names (R47, R436). -/
def unitDoms (fs : Nat) (u : Nat × Nat) : List Nat := if fs = 15 then domsOfClk u.2 else [pwrDomain u.1]

/-- Whether rung 1 applies: the units that Table 15-4 names. -/
def isolates (b : Option Block) : Bool :=
  match b with
  | some .prt => true | some .cmp => true | some .zwk => true | some .fab => true | some .pmp => true | some .hqr => true
  | some .can => true | some .tok => true | some .lit => true | some .mtx => true | some .stg => true | some .lds => true
  | some .coi => true | _ => false

/-- Whether rung 2 applies: the units of Table 15-7. -/
def spared (b : Option Block) : Bool :=
  match b with | some .fab => true | some .cmp => true | some .zwk => true | some .keeper => true | _ => false

/-- Whether rung 3 applies: the domains whose outputs R403 gives a state outside Run. -/
def failsafes (doms : List Nat) : Bool := doms.any (fun d => [1, 19, 20].contains d)

/-- Whether rung 4 is taken as rung 5: the CTL and KEEP domains. The AON island is not reset, so rung 4 does not apply to it. -/
def ctlLike (doms : List Nat) : Bool := doms.any (fun d => d == 2 || d == 3)

/-- The rungs of a source in order (R429, R430): the spare first for the sources with grace fixed at 0, and for FS96 and FS97, which take
the spare after their grace (Table 15-7). -/
def State.rungs (s : State) (fs : Nat) : List Nat :=
  let u := s.unitOf fs
  let blk := blockOfPage u.1
  let doms := unitDoms fs u
  let esc := s.bus.fsEscMax fs
  let order := if fsFixed fs then [2, 1]
    else if (fs = 96 ∨ fs = 97) ∧ 1 ≤ esc then [2, 1] ++ (List.range (esc - 2)).map (· + 3)
    else (List.range esc).map (· + 1)
  (order.filterMap (fun n =>
    match n with
    | 1 => if isolates blk then some 1 else none
    | 2 => if spared blk then some 2 else none
    | 3 => if failsafes doms then some 3 else none
    | 4 => if ctlLike doms then some 5 else if doms = [0] then none else some 4
    | n => some n)).eraseDups

/-- The rung after the one taken last. -/
def after (l : List Nat) (n : Nat) : Option Nat := (l.dropWhile (· != n)).tail.head?

/-! ## What a rung does -/

/-- Rung 1 (Table 15-4): the unit stops taking part. -/
def State.isolateUnit (s : State) (u : Nat × Nat) : State :=
  let i := pageIndex u.1
  match blockOfPage u.1 with
  | some .prt => (s.linkDown i).pageDisable u.1
  | some .cmp => ((s.setFld (cmpKey i R.CMP_STATUS) 0 2 0).setFld (cmpKey i R.CMP_STATUS) 2 5 31).lanesReport
  | some .zwk => if (s.zw i).running then s.zwStop i 0 else s
  | some .fab => s.planeIsolate (u.2 % 9)
  | some .hqr => (execHqrDisable 0 0 (u.2 % 16384) 0 [] s).get s
  | some _ => s.pageDisable u.1
  | none => s

/-- The logical lanes that a composition die serves. -/
def State.dieLanes (s : State) (die : Nat) : List Nat :=
  ((List.range 9).map (· + 9 * die)).filterMap (fun n => if s.laneRole n = 1 then some (s.laneLl n) else none)

/-- Rung 3 (Table 15-4, R403): chain lines are low, matrix lines off and stages without current; the lanes of a die send no tiles until
rung 4 has reset it. Load channels keep their states. -/
def State.failsafe (s : State) (d : Nat) : State :=
  if d = 1 then
    let s1 := (List.range 64).foldl State.litStop s
    let s2 := (List.range 2).foldl State.mtxStop s1
    (List.range 12).foldl State.stageDisable s2
  else if d = 19 ∨ d = 20 then
    { s with comp := { s.comp with laneReady := (s.dieLanes (d - 19)).foldl (fun m l => m.set l (s.bus.now + 2 ^ 62)) s.comp.laneReady } }
  else s

/-- STATE and RUNG of a source. -/
def State.setSrc (s : State) (fs st : Nat) : State := s.setFld (fsKey fs R.FLT_SRC_STATUS) 2 2 st
def State.srcState (s : State) (fs : Nat) : Nat := s.fld (fsKey fs R.FLT_SRC_STATUS) 2 2
def State.srcRung (s : State) (fs : Nat) : Nat := s.fld (fsKey fs R.FLT_SRC_STATUS) 4 3
def State.srcCount (s : State) (fs : Nat) : Nat := s.rd (fsKey fs R.FLT_SRC_CNT)

/-- The ladder of a source ends. -/
def State.ladderEnd (s : State) (fs : Nat) : State := ((s.setSrc fs 0).disarm (tRung fs)).modEsc fs (fun _ => Esc.init)

/-- Whether another source has a higher rung in progress on the same unit (Table 15-5): the lower one counts as taken. -/
def State.outranked (s : State) (fs n : Nat) : Bool :=
  (List.range 192).any (fun x => decide (x ≠ fs) && decide (s.srcState x = 2) && decide (n < s.srcRung x) && !(s.escOf x).complete
    && decide (s.unitOf x = s.unitOf fs))

/-- A rung is taken (R430): counted, recorded, EV60. Rungs 1 and 3 act at once; a spare, a domain reset and a device reset follow by their
own commands. -/
def State.takeRung (s : State) (fs n : Nat) : State :=
  let s1 := ((s.addSat (fltKey R.FLT_CNT_ESC) 1).setFld (fsKey fs R.FLT_SRC_STATUS) 4 3 n).setSrc fs 2
  let low := s.outranked fs n
  let s2 := ((s1.disarm (tRung fs)).modEsc fs (fun _ => ⟨s.srcCount fs, low || decide (n = 1) || decide (n = 3), false⟩)).raise fltPage 0
  if low then s2
  else match n with
    | 1 => s2.isolateUnit (s.unitOf fs)
    | 3 => (unitDoms fs (s.unitOf fs)).foldl State.failsafe s2
    | _ => s2

/-- The next rung, or the end of the ladder. -/
def State.ladderNext (s : State) (fs : Nat) : State :=
  match after (s.rungs fs) (s.srcRung fs) with
  | some n => s.takeRung fs n
  | none => s.ladderEnd fs

/-- A source begins its ladder with its first rung; with none it is IDLE again. -/
def State.ladderStart (s : State) (fs : Nat) : State :=
  match s.rungs fs with
  | n :: _ => s.takeRung fs n
  | [] => s.ladderEnd fs

/-! ## Detection, force, acknowledgement (R424 to R431) -/

/-- A detection: its immediate effect, the steps of R424, and, in the 1 ms after a rung, the next rung (R430). -/
def State.detect (s : State) (fs : Nat) (u : FaultAt) (held : Bool) : State :=
  if !fsKnown fs then s
  else
    let s1 := ((s.faultEffect fs u).fault fs u).ifThen (!held) (·.setBit (fsKey fs R.FLT_SRC_STATUS) 10 false)
    if s1.srcState fs = 2 ∧ s1.bus.running (tRung fs) = true then s1.ladderNext fs else s1

/-- FAULT_DETECTION (R424). -/
def execFaultDetection (dt source : Nat) (place : FaultPlace) (held : Bool) (s : State) : Res :=
  .next ((s.tick dt).detect source ⟨place.page, place.access, place.addr, place.vi, place.engine, place.kind⟩ held)

/-- The unit that a forced detection is about: the first of the source's kind, and of the keepers the active one (assumption log 37). -/
def State.forceUnit (s : State) (fs : Nat) : FaultAt :=
  let p := match fs with
    | 3 => Block.bst.pg 0 | 4 => Block.bst.pg 0 | 5 => zwkPage 0 | 17 => vimPage | 32 => prtPage 0 | 33 => prtPage 0 | 34 => Block.str.pg 0
    | 35 => Block.str.pg 0 | 44 => cisPage 0 | 45 => cisPage 0 | 48 => Block.egq.pg 0 | 49 => Block.egq.pg 0 | 50 => Block.hqr.pg 0
    | 51 => pmpPage 0 | 52 => Block.hqr.pg 0 | 53 => pmpPage 0 | 56 => cmpPage 0 | 57 => cmpPage 0 | 62 => cmpPage 0 | 58 => Block.win.pg 0
    | 59 => Block.win.pg 0 | 60 => cmpPage 0 | 61 => cmpPage 0 | 64 => valPage | 65 => valPage | 66 => valPage | 72 => litPage 0 | 73 => litPage 0
    | 74 => mtxPage 0 | 75 => stgPage 0 | 76 => patPage 0 | 77 => calPage | 80 => ldsPage 0 | 81 => ldsPage 0 | 82 => ldsPage 0 | 85 => ldsPage 0
    | 83 => Block.swi.pg 0 | 84 => coiPage 0 | 88 => canPage 0 | 89 => canPage 0 | 90 => canPage 0 | 91 => wakPage 0
    | 96 => zwkPage 0 | 97 => zwkPage 0 | 98 => zwkPage 0 | 99 => zwkPage 0 | 104 => dkyPage | 107 => dkyPage | 105 => idnPage | 106 => tokPage 0
    | 112 => Block.pwrD.pg 0 | 113 => Block.pwrD.pg 0
    | n => if n ≤ 7 then fltPage else if n ≤ 15 then timPage else if n = 16 ∨ n = 18 then vimPage else if n ≤ 47 then fabPage
      else if 100 ≤ n ∧ n ≤ 102 then kprPage s.bus.keeper else budPage
  { page := p, access := 6 }

/-- FAULT_FORCE (R426): VI 0's. -/
def execFaultForce (dt vi page value : Nat) (s : State) : Res :=
  .next ((s.tick dt).vi0Write vi page (fun s =>
    if blockOfPage page ≠ some .fltSrc then s
    else ((List.range 16).filter (fun i => bitOf i value)).foldl (fun a i => a.detect (16 * pageIndex page + i) (a.forceUnit (16 * pageIndex page + i)) false) s))

/-- A source is acknowledged (R431). -/
def State.ackSource (s : State) (fs : Nat) : State :=
  match s.srcState fs with
  | 1 => (s.disarm (tGrace fs)).setSrc fs 0
  | 2 => if s.bus.running (tRung fs) then s.ladderEnd fs else s.modEsc fs (fun e => { e with acked := true })
  | _ => s

/-- FAULT_ACK (R431): from VI 0, or from the owner of a source with at least a read grant to the page. -/
def execFaultAck (dt vi page value : Nat) (s : State) : Res :=
  let s1 := s.tick dt
  let fss := (((List.range 16).filter (fun i => bitOf i value)).map (16 * pageIndex page + ·)).filter fsKnown
  let mine := fun (fs : Nat) => decide (vi = 0) || decide (vi = s1.bus.fsOwner fs (s1.unitOf fs).1)
  .next (if blockOfPage page ≠ some .fltSrc ∨ s1.bus.pageAccess page vi = 0 then s1
    else if !s1.bus.pageUp page then s1.on (·.late vi)
    else
      let s2 := if fss.all mine then s1 else s1.on (·.denied)
      (fss.filter mine).foldl State.ackSource s2)

/-- The page that a record names (Table 15-3). -/
def FaultRec.page (r : FaultRec) : Nat :=
  match blockTable.find? (fun x => decide (x.type = r.d0 / 65536)) with
  | some x => x.page + r.d1 % 65536
  | none => 0

/-- FAULT_RECORD_CLEAR (R428). -/
def execFaultRecordClear (dt vi value : Nat) (s : State) : Res :=
  let s1 := s.tick dt
  let i := value % 256
  .next (if s1.bus.pageAccess fltPage vi = 0 then s1
    else if !s1.bus.pageUp fltPage then s1.on (·.late vi)
    else match s1.bus.recs.find? i with
      | none => if vi = 0 then s1 else s1.on (·.denied)
      | some r =>
        if vi ≠ 0 ∧ vi ≠ s1.bus.ownerOfPage r.page then s1.on (·.denied)
        else
          let s2 := s1.on (fun b => { b with recs := b.recs.erase i })
          let ks := (s2.bus.regs.cells.filter (fun p => decide (keyOff p.1 = hdrFaultFirst) && decide (p.2.toNat = i))).map (·.1)
          let s3 := ks.foldl (fun a k => a.wr k 0) s2
          (s3.setFld (fltKey R.FLT_REC_USED) 0 8 (s3.fld (fltKey R.FLT_REC_USED) 0 8 - 1)).setBit (fltKey R.FLT_STATUS) 4 false)

/-- CORR_WINDOW (R425): the detections of a correctable source in the 1 s up to now reach CORR_THR, or do not; a worker is scheduled as the
next of its cluster. -/
def execCorrWindow (dt source : Nat) (s : State) : Res :=
  let s1 := s.tick dt
  let thr := s1.bus.fsCorrThr source
  let n := ((s1.bus.corr.find [] source).filter (fun t => decide (s1.bus.now ≤ t + clkS 1))).length
  let k := fsKey source R.FLT_SRC_STATUS
  .next (if fsClass source ≠ 0 ∨ !fsKnown source then s1
    else if thr ≠ 0 ∧ thr ≤ n then
      (if s1.bit k 9 then s1
       else
         let u := (s1.unitOf source).1
         let s2 := (s1.setBit k 9 true).raise fltPage 0
         if blockOfPage u = some .zwk then s2.setFld (rk (Block.bst.pg (27 + pageIndex u / 16)) R.BST_UNIT) 0 4 (pageIndex u % 16) else s2)
    else s1.setBit k 9 false)

/-! ## The ladder (R430) -/

/-- FAULT_GRACE_EXPIRE (R430): the first rung is taken; `held` says whether the source is still asserted. -/
def execFaultGraceExpire (dt source : Nat) (held : Bool) (s : State) : Res :=
  .next ((s.tick dt).onExpiry (tGrace source) (fun s =>
    let s1 := s.setBit (fsKey source R.FLT_SRC_STATUS) 10 held
    if s1.srcState source = 1 then s1.ladderStart source else s1))

/-- ESCALATION_RUNG_COMPLETE (R430, R431): the rung in progress, its action done, completes: the ladder ends if the source was acknowledged,
goes on if it is asserted or was detected again, else waits 1 ms for a detection. -/
def execEscalationRungComplete (dt source : Nat) (held : Bool) (s : State) : Res :=
  let s1 := s.tick dt
  let e := s1.escOf source
  .next (if s1.srcState source ≠ 2 ∨ !e.complete then s1
    else
      let s2 := s1.setBit (fsKey source R.FLT_SRC_STATUS) 10 held
      if e.acked then s2.ladderEnd source
      else if held || decide (s2.srcCount source ≠ e.seen) then s2.ladderNext source
      else if (after (s2.rungs source) (s2.srcRung source)).isNone then s2.ladderEnd source
      else if s2.bus.running (tRung source) then s2 else s2.arm (tRung source) (clkMs 1))

/-- LADDER_END_TIMEOUT (R430). -/
def execLadderEndTimeout (dt source : Nat) (s : State) : Res :=
  .next ((s.tick dt).onExpiry (tRung source) (fun s =>
    if s.srcState source ≠ 2 then s
    else if s.srcCount source ≠ (s.escOf source).seen then s.ladderNext source
    else s.ladderEnd source))

/-! ## Spares (R433 to R435) -/

/-- No spare is free: FS5; for a keeper rung 5 is taken (R434, R435). -/
def State.noSpare (s : State) (page : Nat) : State :=
  let s1 := s.fault 5 { page := page }
  if blockOfPage page = some .keeper then (s1.disarm (tGrace 5)).takeRung 5 5 else s1

/-- A spare of the cluster takes over a failed worker (R434); while units change images it takes the image of the worker's side
(Table 16-11). -/
def State.spareWorker (s : State) (c : Nat) : State :=
  match s.lworker c with
  | none => s
  | some l => match s.workerSpare c with
    | none => s.noSpare (zwkPage c)
    | some n =>
      let now := s.upd.items
      let side := if s.upd.units.contains l then s.upd.other else now
      let s1 := (s.modUpd (fun u => { u with items := side })).workerMove c n l 5 0
      ((s1.modUpd (fun u => { u with items := now })).setFld (zwkKey c R.ZWK_STATUS) 2 4 5).spareTaken

/-- A keeper pair has failed (R435, R480, R481): during a hinge handover the standby is no spare. -/
def State.spareKeeper (s : State) (p : Nat) : State :=
  let hinge := 4 ≤ s.upd.step ∧ (s.updState = 5 ∨ s.updState = 6)
  if p ≠ s.bus.keeper then
    let s1 := s.setKpr p 0
    if hinge then s1.modUpd (fun u => { u with hingeDown := true }) else s1.updAbandon
  else if hinge then
    if s.upd.hingeDown then s.noSpare (kprPage p)
    else (((s.updReverse).reverseHandover 0).spareTaken)
  else if s.kprRole (1 - p) = 2 then (s.keeperMove 0).spareTaken
  else if s.kprRole (1 - p) = 3 ∧ (s.run (kprBst (1 - p))).isSome = true then
    (((s.runEnd (kprBst (1 - p))).raise (kprBst (1 - p)) 4).keeperMove 0).spareTaken
  else s.noSpare (kprPage p)

/-- SPARE_TAKEOVER (R433 to R435): the spare rung of a source acts. A lane and a plane have been replaced at the detection (R211, R132). -/
def execSpareTakeover (dt source : Nat) (s : State) : Res :=
  let s1 := s.tick dt
  let u := (s1.unitOf source).1
  .next (if s1.srcState source ≠ 2 ∨ s1.srcRung source ≠ 2 ∨ (s1.escOf source).complete = true then s1
    else
      let s2 := s1.modEsc source (fun e => { e with complete := true })
      match blockOfPage u with
      | some .zwk => s2.spareWorker (pageIndex u)
      | some .keeper => s2.spareKeeper (pageIndex u)
      | _ => s2.spareTaken)

/-! ## Rungs 4 and 5 (R437, R430) -/

/-- The sources whose rung 4 is in progress on a domain. -/
def State.domSources (s : State) (d : Nat) : List Nat :=
  (List.range 192).filter (fun fs => decide (s.srcState fs = 2) && decide (s.srcRung fs = 4) && !(s.escOf fs).complete
    && (unitDoms fs (s.unitOf fs)).contains d)

/-- DOMAIN_RESET_REAPPLY (R437): waits while a global epoch is in progress (Table 15-5). -/
def execDomainResetReapply (dt domain : Nat) (s : State) : Res :=
  let s1 := s.tick dt
  let fss := s1.domSources domain
  .next (if fss.isEmpty || s1.epochs.run.isSome then s1
    else
      let ready := if domain = 19 ∨ domain = 20 then (s1.dieLanes (domain - 19)).foldl (fun m l => m.erase l) s1.comp.laneReady else s1.comp.laneReady
      let s2 := { s1 with comp := { s1.comp with laneReady := ready } }
      let s3 := s2.domReset domain
      let done := fun (a : State) (fs : Nat) => (unitDoms fs (s1.unitOf fs)).all (fun d => decide (d = domain) || !a.bus.halted.contains d)
      fss.foldl (fun a fs => if done a fs then a.modEsc fs (fun e => { e with complete := true }) else a) s3)

/-- Whether some source has taken rung 5. -/
def State.rung5 (s : State) : Bool := (List.range 192).any (fun fs => decide (s.srcState fs = 2) && decide (s.srcRung fs = 5))

/-- DEVICE_RESET (R430): rung 5 of any source; one device reset for all of them. -/
def execDeviceReset (dt : Nat) (s : State) : Res :=
  let s1 := s.tick dt
  .next (if s1.rung5 then s1.deviceReset else s1)

end Sys2Proof.Machine
end

