-- ==== Sys2Proof/Machine/RegWrite.lean ====
section
/-! DEFINITION. What a write of a register does (R8, R41, R74, R75, R92) and the posted writes of the page network (R83 to R86): every
register has the effect that its chapter gives a write of it. -/

namespace Sys2Proof.Machine

/-! ## The plain write -/

/-- A configuration error about a write: to the entry's owner, to the writing VI's bit on a page granted by entry, else to the owner of
the page (R75). -/
def State.cfgErrAt (s : State) (vi : Nat) (sp : Spot) : State :=
  match sp.entry with
  | some e => s.cfgErrEntry sp.block e
  | none => if entryGranted sp.page then s.on (·.cfgErrFor sp.view vi) else s.cfgErr sp.page

/-- A value with every clamped field within its range, and whether one lay outside it (R41, R75). -/
def clampAll (l : List (Nat × Nat × Nat × Nat)) (v : Nat) : Nat × Bool :=
  l.foldl (fun (a : Nat × Bool) (c : Nat × Nat × Nat × Nat) =>
    let x := fieldOf c.1 c.2.1 a.1
    if x < c.2.2.1 then (setFieldOf c.1 c.2.1 c.2.2.1 a.1, true)
    else if c.2.2.2 < x then (setFieldOf c.1 c.2.1 c.2.2.2 a.1, true)
    else a) (v, false)

/-- Whether the shadow of a spot's page, or of its window slot, is frozen (R74, R208). -/
def State.shadowFrozen (s : State) (sp : Spot) : Bool :=
  match sp.block, sp.entry with
  | .win, some w => s.comp.wpend.contains w
  | _, _ => s.bit (rk sp.page hdrShadowCtrl) 2

/-- A write to a frozen shadow is dropped and sets WR_LOST. -/
def State.writeLost (s : State) (sp : Spot) : State :=
  match sp.block, sp.entry with
  | .win, some w => { s with comp := { s.comp with wlost := (w :: s.comp.wlost).eraseDups } }
  | _, _ => s.setBit (rk sp.page hdrShadowCtrl) 3 true

/-- A write of an RWS register sets the shadow (R8, R74). -/
def State.shadowSet (s : State) (sp : Spot) (d : RegDef) (k v : Nat) : State :=
  if s.shadowFrozen sp then s.writeLost sp
  else s.on (·.wrShadow k (maskOf d.rws v ||| maskOf (maxWord - d.rws) (s.bus.rdShadow k)))

/-- A write of a register by its access codes: RW bits take the value, clamped where it lies outside its range, each 1 clears a W1C bit,
and every other bit stays. -/
def State.codedWrite (s : State) (vi : Nat) (sp : Spot) (d : RegDef) (k v : Nat) : State :=
  if d.rws ≠ 0 then s.shadowSet sp d k v
  else
    let old := s.rd k
    let c := clampAll d.clamps (maskOf d.rw v)
    let s1 := s.wr k (c.1 ||| maskOf d.w1c (maskOf (maxWord - v % 2 ^ 32) old) ||| maskOf (maxWord - (d.rw ||| d.w1c)) old)
    if c.2 then s1.cfgErrAt vi sp else s1

/-- A write with no effect beyond the register, of the register that the spot names for the VI (R92, R501). -/
def State.plainWrite (s : State) (vi : Nat) (sp : Spot) (v : Nat) : State :=
  match s.bus.keyOf sp vi, regDefAt sp.page sp.off with
  | some k, some d => if k.2 < 2 ∧ !openToReaders sp.block sp.off then s.on (·.denied) else s.codedWrite vi sp d k.1 v
  | _, _ => s

/-- A write of EN or of another field that needs the access of an owner. -/
def State.ownWrite (s : State) (sp : Spot) (f : State → State) : State := if sp.acc < 2 then s.on (·.denied) else f s

/-! ## The header (Tables 3-1 and 3-2) -/

/-- A write of a header register. -/
def State.headerWrite (s : State) (vi : Nat) (sp : Spot) (v : Nat) : State :=
  s.ownWrite sp (fun s =>
    if sp.off = hdrPageCtrl then s.pageCtrlWrite vi sp v
    else if sp.off = hdrPageStatus then s.ifThen (bitOf 2 v) (·.setBit (sp.ev hdrPageStatus vi) 2 false)
    else if sp.off = hdrEvtPend then s.pendClear vi sp v 0
    else if sp.off = hdrEvtEnable then s.evtEnable vi sp v
    else if sp.off = hdrEvtForce then s.evtForce vi sp v
    else if sp.off = hdrShadowCtrl then s.shadowWrite vi sp v
    else s)

/-! ## Timers, VIs, ports, fabric -/

/-- A write of a timebase register: TIM_PPS_NEXT_S labels the next pulse (R57). -/
def State.timWrite (s : State) (vi : Nat) (sp : Spot) (v : Nat) : State :=
  let s1 := s.plainWrite vi sp v
  if sp.off = R.TIM_PPS_NEXT_S then { s1 with tim := { s1.tim with nextValid := true } } else s1

/-- A write of a GPT register (R66 to R70). -/
def State.gptWrite (s : State) (vi : Nat) (sp : Spot) (v : Nat) : State :=
  if sp.off = R.GPT_CTRL then s.ownWrite sp (·.writeGptCtrl sp.idx v)
  else if sp.off = R.GPT_RELOAD_LO then (execGptReloadLoWrite 0 vi sp.idx v s).get s
  else if sp.off = R.GPT_CMP_LO then (execGptCmpLoWrite 0 vi sp.idx v s).get s
  else s.plainWrite vi sp v

/-- A write of a port register (R100). -/
def State.prtWrite (s : State) (vi : Nat) (sp : Spot) (v : Nat) : State :=
  if sp.off = R.PRT_GROUP then (if sp.idx % 8 = 0 then s.ownWrite sp (·.prtGroup (sp.idx / 8) v) else s)
  else s.plainWrite vi sp v

/-- A write of a stream or group register (R114, R117). -/
def State.strWrite (s : State) (vi : Nat) (sp : Spot) (v : Nat) : State :=
  let page := sp.view - Block.str.base
  if sp.off = R.STR_CMD then
    (match v % 4 with
     | 1 => (execStrRead 0 vi page s).get s
     | 2 => (execStrWrite 0 vi page s).get s
     | 3 => (execStrWriteKeep 0 vi page s).get s
     | _ => s)
  else if sp.off = R.GRP_CMD then
    (match v % 4 with
     | 1 => (execGrpRead 0 vi page s).get s
     | 2 => (execGrpWrite 0 vi page s).get s
     | _ => s)
  else s.plainWrite vi sp v

/-- A write of a cistern register (Table 5-11). -/
def State.cisWrite (s : State) (vi : Nat) (sp : Spot) (v : Nat) : State :=
  let s1 := s.plainWrite vi sp v
  if sp.off = R.CIS_CTRL then
    let s2 := if bitOf 1 v then (execCisPeakClr 0 vi sp.idx s1).get s1 else s1
    if bitOf 2 v then (execCisCntClr 0 vi sp.idx s2).get s2 else s2
  else s1

/-- HQR_PEND and HQR_ERR_PEND: each 1 clears the bit of a ring that the VI holds on the page (R176, R182). -/
def State.ringBitsClear (s : State) (vi : Nat) (sp : Spot) (v : Nat) : State :=
  (List.range 16).foldl (fun a k =>
    if bitOf k v then
      (match a.bus.physOf .hqr vi (16 * (sp.view - Block.hqr.base) + k) with
       | some r => if a.bus.access .hqr r vi = 2 then a.setBit (rk (ringPage r) sp.off) (r % 16) false else a.on (·.denied)
       | none => a)
    else a) s

/-- A write of a ring register (R167, R170, R175 to R177). -/
def State.hqrWrite (s : State) (vi : Nat) (sp : Spot) (v : Nat) : State :=
  if sp.off = R.HQR_PEND ∨ sp.off = R.HQR_ERR_PEND then s.ringBitsClear vi sp v
  else match sp.entry with
    | none => s.plainWrite vi sp v
    | some r =>
      let o := sp.off - 0x40 * (r % 16)
      if o = R.HQR_CTRL then
        (if bitOf 0 v then (execHqrEnable 0 vi r v s).get s else (execHqrDisable 0 vi r v [] s).get s)
      else if o = R.HQR_DB then (execHqrDoorbell 0 vi r v s).get s
      else if o = R.HQR_MEM_DATA then (execHqrMemDataAccess 0 vi r (some v) s).get s
      else s.plainWrite vi sp v

/-! ## Composition (R188, R194, R208, R209) -/

/-- The tile or cell that a VI's selector names, its staged words brought into the VI's data words. -/
def State.entryLoad (s : State) (vi : Nat) (sp : Spot) (base n sel : Nat) : State :=
  (List.range n).foldl (fun a i => a.wr (sp.own (base + 4 * i) vi) (a.bus.rdShadow (rkSel sp.page (base + 4 * i) sel))) s

/-- The last data word is written: the entry is stored in the shadow table (R208). -/
def State.entryStage (s : State) (vi : Nat) (sp : Spot) (base n sel : Nat) : State :=
  (List.range n).foldl (fun a i => a.on (·.wrShadow (rkSel sp.page (base + 4 * i) sel) (a.rd (sp.own (base + 4 * i) vi)))) s

/-- A write of a data word of a tile or cell entry. -/
def State.entryWord (s : State) (vi : Nat) (sp : Spot) (base n sel v : Nat) : State :=
  s.ownWrite sp (fun s =>
    if s.shadowFrozen sp then s.writeLost sp
    else
      let s1 := s.wr (sp.own sp.off vi) v
      if sp.off = base + 4 * (n - 1) then s1.entryStage vi sp base n sel else s1)

/-- A write of a canvas register. -/
def State.cnvWrite (s : State) (vi : Nat) (sp : Spot) (v : Nat) : State :=
  let c := sp.idx
  let tile := s.bus.sel sp R.CNV_TILE_SEL vi
  let cell := s.bus.sel sp R.CNV_CELL_SEL vi
  if sp.off = R.CNV_TILE_SEL then (s.plainWrite vi sp v).entryLoad vi sp R.CNV_TILE_D 10 (v % 256)
  else if sp.off = R.CNV_CELL_SEL then (s.plainWrite vi sp v).entryLoad vi sp R.CNV_CELL_D 3 (v % 4096)
  else if R.CNV_TILE_D ≤ sp.off ∧ sp.off < R.CNV_TILE_D + 40 then s.entryWord vi sp R.CNV_TILE_D 10 tile v
  else if R.CNV_CELL_D ≤ sp.off ∧ sp.off < R.CNV_CELL_D + 12 then s.entryWord vi sp R.CNV_CELL_D 3 cell v
  else if sp.off = R.CNV_EPOCH_REQ then (if bitOf 0 v then (execLayoutEpochRequest 0 vi c s).get s else s)
  else if sp.off = R.CNV_CTRL ∧ fieldOf 4 3 v = 7 then s.ownWrite sp (·.cfgErr sp.page)
  else if s.cnvEn c ∧ sp.off = R.CNV_CTRL then
    s.ownWrite sp (fun s =>
      let w := maskOf 0xFF (s.rd (cnvKey c R.CNV_CTRL))
      let s1 := s.plainWrite vi sp (setFieldOf 0 8 w v)
      if v % 256 = w then s1 else s1.cfgErr sp.page)
  else if s.cnvEn c ∧ [R.CNV_RASTER, R.CNV_VTOTAL, R.CNV_GRID, R.CNV_PHASE].contains sp.off then s.ownWrite sp (·.cfgErr sp.page)
  else s.plainWrite vi sp v

/-- A write of a window or frame store register (R188, R208). -/
def State.winWrite (s : State) (vi : Nat) (sp : Spot) (v : Nat) : State :=
  match sp.entry with
  | none => s.plainWrite vi sp v
  | some j =>
    let o := sp.off - 0x80 * (j % 4)
    if o = R.FS_CTRL then s.ownWrite sp (·.fsCtrlWrite j v)
    else if s.fsEn j ∧ [R.FS_RASTER, R.FS_RATE, R.FS_CODED_MAX].contains o then s.ownWrite sp (·.cfgErrEntry .win j)
    else s.plainWrite vi sp v

/-! ## Endpoints and light (R224, R228, R244, R246, R262, R265) -/

/-- A write of a value register. -/
def State.valWrite (s : State) (vi : Nat) (sp : Spot) (v : Nat) : State :=
  if sp.off = R.VAL_SRC_DEV then (execValSrcDevWrite 0 vi v s).get s
  else if sp.off = R.VAL_EP_CMD then
    (match v % 8 with
     | 1 => (execValEpRead 0 vi s).get s
     | 2 => (execValEpWrite 0 vi s).get s
     | 3 => (execValEpWriteClear 0 vi s).get s
     | 4 => (execValEpSet 0 vi s).get s
     | _ => s)
  else s.plainWrite vi sp v

/-- A write of LIT_CMD sends the command of its OP (R246, Table 9-4). -/
def State.litWrite (s : State) (vi : Nat) (sp : Spot) (v : Nat) : State :=
  if sp.off = R.LIT_DEV_COUNT then s.ownWrite sp (·.litDevCount sp.idx v)
  else if sp.off = R.LIT_PERIOD then s.ownWrite sp (·.litPeriod sp.idx v)
  else if sp.off = R.LIT_CMD then s.litCmd vi sp.idx (v % 256) (fieldOf 8 12 v) (bitOf 20 v)
  else s.plainWrite vi sp v

/-- A write of a matrix register: MTX_CTRL and MTX_PRECHARGE only while the port is off (R262). -/
def State.mtxWrite (s : State) (vi : Nat) (sp : Spot) (v : Nat) : State :=
  if (sp.off = R.MTX_CTRL ∨ sp.off = R.MTX_PRECHARGE) ∧ s.bit (rk sp.page hdrPageCtrl) 0 then s.ownWrite sp (·.cfgErr sp.page)
  else s.plainWrite vi sp v

/-- A write of a calibration register (R247, R265). -/
def State.calWrite (s : State) (vi : Nat) (sp : Spot) (v : Nat) : State :=
  if sp.off = R.CAL_CMD then
    (match v % 4 with
     | 1 => (execCalRead 0 vi s).get s
     | 2 => (execCalWrite 0 vi s).get s
     | _ => s)
  else if sp.off = R.CAL_MTX_DATA then (execCalMtxWrite 0 vi v s).get s
  else s.plainWrite vi sp v

/-! ## Console (R272 to R300) -/

/-- A write of a load register. -/
def State.ldsWrite (s : State) (vi : Nat) (sp : Spot) (v : Nat) : State :=
  let ch := sp.idx
  if sp.off = R.LDS_OUT then s.ownWrite sp (·.ldsOutWrite vi ch v)
  else if sp.off = R.LDS_CFG ∧ 6 ≤ v % 8 then s.ownWrite sp (·.cfgErr sp.page)
  else if sp.off = R.LDS_CLR then (execLdsLatchClr 0 vi ch v s).get s
  else if sp.off = R.LDS_G_HB then (execHeartbeatWrite 0 vi s).get s
  else if sp.off = R.LDS_G_LIMP_EXIT then (execLimpExit 0 vi v (!s.bit (ldsG R.LDS_G_STATUS) 1) s).get s
  else s.plainWrite vi sp v

/-- A write of an encoder register. -/
def State.encWrite (s : State) (vi : Nat) (sp : Spot) (v : Nat) : State :=
  if sp.off = R.ENC_POS then (execEncPosWrite 0 vi sp.idx v s).get s else s.plainWrite vi sp v

/-- A write of a coil register. -/
def State.coiWrite (s : State) (vi : Nat) (sp : Spot) (v : Nat) : State :=
  if sp.off = R.COI_FIRE then (execCoiFire 0 vi sp.idx v s).get s
  else if sp.off = R.COI_ABORT then (execCoiAbort 0 vi sp.idx v s).get s
  else s.plainWrite vi sp v

/-! ## Message buses (R303 to R328) -/

/-- Whether bit timings stand within R304: the nominal rate at most 1 Mbit/s, the data rate at most that of R303 for the channel, and each
SJW at most its TSEG2. -/
def canTimingOk (n nbt dbt : Nat) : Bool :=
  decide (80 ≤ (fieldOf 0 5 nbt + 1) * (3 + fieldOf 5 8 nbt + fieldOf 13 7 nbt))
    && decide (80 ≤ (if n < 8 then 5 else 8) * ((fieldOf 0 5 dbt + 1) * (3 + fieldOf 5 5 dbt + fieldOf 10 4 dbt)))
    && decide (fieldOf 20 7 nbt ≤ fieldOf 13 7 nbt) && decide (fieldOf 14 4 dbt ≤ fieldOf 10 4 dbt)

/-- A write of CAN_CTRL: ALONE for VI 0 alone (Table 11-4); TT_EN off ends the cycle. -/
def State.canCtrlWrite (s : State) (vi n v : Nat) : State :=
  if !canTimingOk n (s.rd (canKey n R.CAN_NBT)) (s.rd (canKey n R.CAN_DBT)) then s.cfgErr (canPage n)
  else
    let k := canKey n R.CAN_CTRL
    let s1 := s.wr k (setFieldOf 4 1 (s.fld k 4 1) (maskOf 0x17F v))
    let s2 := if bitOf 5 v then s1 else (s1.setBit (canKey n R.CAN_STATUS) 5 false).modCtl n (fun c => { c with windows := [] })
    if vi = 0 then s2.setAlone n (bitOf 4 v) else s2

/-- A write of a bit timing register (R304). -/
def State.canTimingWrite (s : State) (vi : Nat) (sp : Spot) (v : Nat) : State :=
  let n := sp.idx
  let nbt := if sp.off = R.CAN_NBT then v else s.rd (canKey n R.CAN_NBT)
  let dbt := if sp.off = R.CAN_DBT then v else s.rd (canKey n R.CAN_DBT)
  if s.bit (rk sp.page hdrPageCtrl) 0 || (decide (sp.off ≠ R.CAN_TDC) && !canTimingOk n nbt dbt) then s.cfgErr sp.page
  else s.plainWrite vi sp v

/-- The selected filter or schedule entry, brought into the VI's data words. -/
def State.canLoad (s : State) (vi : Nat) (sp : Spot) (base n sel : Nat) : State :=
  (List.range n).foldl (fun a i => a.wr (sp.own (base + 4 * i) vi) (a.rd (rkSel sp.page (base + 4 * i) sel))) s

/-- A VI's data words are stored in the selected filter or schedule entry. -/
def State.canStore (s : State) (vi : Nat) (sp : Spot) (base n sel : Nat) : State :=
  (List.range n).foldl (fun a i => a.wr (rkSel sp.page (base + 4 * i) sel) (a.rd (sp.own (base + 4 * i) vi))) s

/-- Whether a schedule entry is refused (R318, Table 11-8). -/
def ttRefused (d0 : Nat) : Bool :=
  decide (2 ^ fieldOf 22 3 d0 ≤ fieldOf 16 6 d0) || decide (fieldOf 22 3 d0 = 7) || decide (fieldOf 27 2 d0 = 3)

/-- The transmit buffer that an offset lies in, if any (Table 11-5). -/
def txBufferOf (off : Nat) : Option Nat :=
  if R.CAN_TXBUF ≤ off ∧ off < R.CAN_TXBUF + 0x180 then some ((off - R.CAN_TXBUF) / 0x80) else none

/-- A write of a bus controller register. -/
def State.canWrite (s : State) (vi : Nat) (sp : Spot) (v : Nat) : State :=
  let n := sp.idx
  if sp.off = R.CAN_CTRL then s.ownWrite sp (·.canCtrlWrite vi n v)
  else if [R.CAN_NBT, R.CAN_DBT, R.CAN_TDC].contains sp.off then s.ownWrite sp (·.canTimingWrite vi sp v)
  else if sp.off = R.CAN_TX_REQ then (execCanTxRequest 0 vi n v s).get s
  else if sp.off = R.CAN_TX_CANCEL then (execCanTxCancel 0 vi n v s).get s
  else if sp.off = R.CAN_HP_LOCK then (execCanHpLockRelease 0 vi n v s).get s
  else if sp.off = R.CAN_FLT_SEL then (s.plainWrite vi sp v).canLoad vi sp R.CAN_FLT_D 3 (v % 64)
  else if sp.off = R.CAN_TT_SEL then (s.plainWrite vi sp v).canLoad vi sp R.CAN_TT_D 2 (v % 64)
  else if sp.off = R.CAN_FLT_D + 8 then
    s.ownWrite sp (fun s => (s.plainWrite vi sp v).canStore vi sp R.CAN_FLT_D 3 (s.bus.sel sp R.CAN_FLT_SEL vi))
  else if sp.off = R.CAN_TT_D + 4 then
    s.ownWrite sp (fun s =>
      if ttRefused (s.rd (sp.own R.CAN_TT_D vi)) then (s.plainWrite vi sp v).cfgErr sp.page
      else (s.plainWrite vi sp v).canStore vi sp R.CAN_TT_D 2 (s.bus.sel sp R.CAN_TT_SEL vi))
  else match txBufferOf sp.off with
    | some b =>
      if s.txWaits n b || decide (s.txStat n b = 2) then s.ownWrite sp (·.cfgErr sp.page) else s.plainWrite vi sp v
    | none => s.plainWrite vi sp v

/-- A write of a transceiver register (R322). -/
def State.wakWrite (s : State) (vi : Nat) (sp : Spot) (v : Nat) : State :=
  if sp.off = R.WAK_CMD then
    (match v % 4 with
     | 0 => (execWakModeNormal 0 vi sp.idx s).get s
     | 2 => (execWakModeSleep 0 vi sp.idx s).get s
     | m => (execWakModeStandby 0 vi sp.idx m s).get s)
  else s.plainWrite vi sp v

/-! ## Workers and keepers (R358, R364 to R369) -/

/-- A write of a worker register. -/
def State.zwkWrite (s : State) (vi : Nat) (sp : Spot) (v : Nat) : State :=
  let w := sp.idx
  if sp.off = R.ZWK_CTRL then (if bitOf 0 v then (execZwkStart 0 vi w s).get s else (execZwkStop 0 vi w s).get s)
  else if sp.off = R.ZWK_DOORBELL then (execZwkDoorbell 0 vi w v s).get s
  else if sp.off = R.ZWK_TIMER then (execZwkTimerWrite 0 vi w v s).get s
  else if sp.off = R.ZWK_ROUTE then (execZwkRouteWrite 0 vi w (s.bus.sel sp R.ZWK_ROUTE_SEL vi) v s).get s
  else if sp.off = R.ZWK_IMEM_DATA then (execZwkImemDataAccess 0 vi w (some v) s).get s
  else if sp.off = R.ZWK_DMEM_DATA then (execZwkDmemDataAccess 0 vi w (some v) s).get s
  else s.plainWrite vi sp v

/-- A write of a keeper register. -/
def State.keeperWrite (s : State) (vi : Nat) (sp : Spot) (v : Nat) : State :=
  if sp.off = R.KPR_TIMER then (execZwkTimerWrite 0 vi (96 + sp.idx) v s).get s else s.plainWrite vi sp v

/-! ## Double key, identity, tokens (R376, R377, R385, R391) -/

/-- A write of a double-key register: the staging words are the holder's while a proposal is staged (R376). -/
def State.dkyRegWrite (s : State) (vi : Nat) (sp : Spot) (v : Nat) : State :=
  if sp.off = R.DKY_CMD then
    (match v % 4 with
     | 1 => (execDkyOpen 0 vi s).get s
     | 2 => (execDkySeal 0 vi s).get s
     | 3 => (execDkyAbort 0 vi s).get s
     | _ => s)
  else if sp.off = R.DKY_SIG_CMD then (execDkySigSubmit 0 vi v s).get s
  else if R.DKY_STAGE_HDR ≤ sp.off ∧ sp.off ≤ R.DKY_STAGE_VALUE ∧ ¬(s.dkyState = 1 ∧ s.dkyHolder = vi) then s.on (·.denied)
  else s.plainWrite vi sp v

/-- A write of an identity register. -/
def State.idnWrite (s : State) (vi : Nat) (sp : Spot) (v : Nat) : State :=
  if sp.off = R.IDN_CMD then (execIdnReportRequest 0 vi v s).get s else s.plainWrite vi sp v

/-- A write of a reader port register. -/
def State.tokWrite (s : State) (vi : Nat) (sp : Spot) (v : Nat) : State :=
  if sp.off = R.TOK_CTRL then s.ownWrite sp (·.tokCtrl sp.idx v) else s.plainWrite vi sp v

/-! ## Power, faults, start-up (R400 to R420, R424 to R445, R472) -/

/-- A write of a power register. -/
def State.pwrRegWrite (s : State) (vi : Nat) (sp : Spot) (v : Nat) : State :=
  if sp.off = R.PWR_CTRL then (if v % 8 ≤ 4 then s.pwrTarget (v % 8) else s)
  else if sp.off = R.PWR_WATCH_REQ then s.watchRequest v
  else if sp.off = R.PWR_PAD_RELEASE then s.padRelease v
  else s.plainWrite vi sp v

/-- A write of a budget register: three of them are journaled (R420). -/
def State.budRegWrite (s : State) (vi : Nat) (sp : Spot) (v : Nat) : State :=
  if [R.BUD_CAP, R.BUD_TJ, R.BUD_MAX_LEVEL].contains sp.off then
    s.ownWrite sp (fun s => match regDefAt sp.page sp.off with
      | some d =>
        let c := clampAll d.clamps (maskOf d.rw v)
        let s1 := s.budWrite vi sp.off c.1
        if c.2 then s1.cfgErr sp.page else s1
      | none => s)
  else s.plainWrite vi sp v

/-- A write of a register of the fault block. -/
def State.fltWrite (s : State) (vi : Nat) (sp : Spot) (v : Nat) : State :=
  if sp.off = R.FLT_EPOCH_REQ then (execEpochRequest 0 vi v s).get s
  else if sp.off = R.FLT_REC_CLR then (execFaultRecordClear 0 vi v s).get s
  else s.plainWrite vi sp v

/-- A write of a register of a fault source page. -/
def State.fltSrcWrite (s : State) (vi : Nat) (sp : Spot) (v : Nat) : State :=
  if sp.off = R.FLT_SRC_ACK then (execFaultAck 0 vi sp.page v s).get s
  else if sp.off = R.FLT_SRC_FORCE then (execFaultForce 0 vi sp.page v s).get s
  else s.plainWrite vi sp v

/-- A buffer word is written, big-endian, and UPD_BUF_ADDR moves on by 4 (Table 16-13). -/
def State.updBufWrite (s : State) (v : Nat) : State :=
  let a := s.fld (updKey R.UPD_BUF_ADDR) 2 14 * 4
  let s1 := s.modUpd (fun u => { u with
    buf := (List.range 4).foldl (fun m i => m.put 0 (a + i) (BitVec.ofNat 8 (fieldOf (8 * (3 - i)) 8 v))) u.buf })
  s1.setFld (updKey R.UPD_BUF_ADDR) 2 14 (a / 4 + 1)

/-- Bytes of host memory that no command brings: free values (assumption log 4). -/
def Bus.hostFree (b : Bus) (n : Nat) : List Byte := (List.range n).map (fun i => (Config.freeValue (b.free + i)).setWidth 8)

/-- A write of UPD_CMD.BLOCK_DMA: the block that the command UPD_BLOCK_DMA brings from host memory. -/
def State.updDmaWrite (s : State) (vi : Nat) : State :=
  let n := min 65536 (s.updHdr 3)
  let bytes := s.bus.hostFree n
  (execUpdBlockDma 0 vi bytes (s.on (fun b => { b with free := b.free + n }))).get s

/-- A write of an update register. -/
def State.updRegWrite (s : State) (vi : Nat) (sp : Spot) (v : Nat) : State :=
  if sp.off = R.UPD_CMD then
    (match v % 16 with
     | 1 => (execUpdOpen 0 vi s).get s
     | 2 => (execUpdBlock 0 vi s).get s
     | 3 => s.updDmaWrite vi
     | 4 => (execUpdVerify 0 vi s).get s
     | 5 => (execUpdAbort 0 vi s).get s
     | 6 => (execUpdConfirm 0 vi s).get s
     | 7 => (execUpdReverse 0 vi s).get s
     | 8 => (execUpdRecover 0 vi s).get s
     | _ => s)
  else if sp.off = R.UPD_BUF_DATA then s.ownWrite sp (·.updBufWrite v)
  else s.plainWrite vi sp v

/-! ## A write takes effect -/

/-- The effect of a write on a block register. -/
def State.blockWrite (s : State) (vi : Nat) (sp : Spot) (v : Nat) : State :=
  match sp.block with
  | .tim => s.timWrite vi sp v
  | .gpt => s.gptWrite vi sp v
  | .vim => if sp.off = R.MGT_MDIO then (execMdioFrameStart 0 vi v s).get s else s.plainWrite vi sp v
  | .vi => if sp.off = R.VI_CTRL then s.ownWrite sp (·.evqEnable sp.idx (bitOf 0 v)) else s.plainWrite vi sp v
  | .prt => s.prtWrite vi sp v
  | .str => s.strWrite vi sp v
  | .fab => if sp.off = R.FAB_PLANE_FORCE then (execPlaneForce 0 vi v s).get s else s.plainWrite vi sp v
  | .cis => s.cisWrite vi sp v
  | .hqr => s.hqrWrite vi sp v
  | .cnv => s.cnvWrite vi sp v
  | .win => s.winWrite vi sp v
  | .val => s.valWrite vi sp v
  | .lit => s.litWrite vi sp v
  | .mtx => s.mtxWrite vi sp v
  | .cal => s.calWrite vi sp v
  | .lds => s.ldsWrite vi sp v
  | .enc => s.encWrite vi sp v
  | .coi => s.coiWrite vi sp v
  | .can => s.canWrite vi sp v
  | .wak => s.wakWrite vi sp v
  | .zwk => s.zwkWrite vi sp v
  | .keeper => s.keeperWrite vi sp v
  | .dky => s.dkyRegWrite vi sp v
  | .idn => s.idnWrite vi sp v
  | .tok => s.tokWrite vi sp v
  | .pwr => s.pwrRegWrite vi sp v
  | .pwrD => if sp.off = R.PWR_D_CTRL then s.domRequest sp.idx (v % 8) else s.plainWrite vi sp v
  | .bud => s.budRegWrite vi sp v
  | .flt => s.fltWrite vi sp v
  | .fltSrc => s.fltSrcWrite vi sp v
  | .bst => if sp.off = R.BST_CTRL then s.bstCtrl sp.page v else s.plainWrite vi sp v
  | .upd => s.updRegWrite vi sp v
  | _ => s.plainWrite vi sp v

/-- The effect of a write of any register by a VI. -/
def State.regEffect (s : State) (vi : Nat) (sp : Spot) (v : Nat) : State :=
  if sp.off < 0x040 then s.headerWrite vi sp v else s.blockWrite vi sp v

/-! ## Posted writes (R83 to R86) -/

/-- The power domains whose state decides whether a page accepts writes (R85, R499). -/
def pageDoms (page : Nat) : List Nat :=
  match blockOfPage page with
  | some .cnv => [19, 20]
  | some .win => [19, 20]
  | _ => [pwrDomain page]

/-- `f` with a domain that is DRAINING taken as in Run: a write accepted before takes effect (R86). -/
def State.asUp (s : State) (ds : List Nat) (f : State → State) : State :=
  let drain := ds.filter (fun d => decide (s.bus.domState d = 5))
  let up := drain.foldl (fun a d => a.setFld (pwrDKey d R.PWR_D_STATUS) 0 4 0) s
  drain.foldl (fun a d => if a.bus.domState d = 0 then a.setFld (pwrDKey d R.PWR_D_STATUS) 0 4 5 else a) (f up)

/-- The clock domain whose queue takes the writes to a page (R83, Table 3-4). -/
def clkDomain (page : Nat) : Nat := match rowOfPage page with | some r => r.clk | none => 0

/-- The key under which an accepted write is queued: the register and the page as the VI numbers it. -/
def Spot.postKey (sp : Spot) : Nat := rk sp.page sp.off + sp.view * 2 ^ 26

/-- The access of a VI to what a queued write names, as the grants stand. -/
def Bus.postAcc (b : Bus) (vi page : Nat) (entry : Option Nat) : Nat :=
  match entry, rowOfPage page with
  | some e, some r => b.access r.block e vi
  | none, some r => if entryGranted page then (if vi = 0 ∨ b.grants.cells.any (fun g => decide (g.2.type = (grantBlock r.block).row.type)
      && decide (g.2.vi = vi) && decide (g.2.access = 2)) then 2 else 1) else b.access r.block (page - r.page) vi
  | _, none => 0

/-- What a queued write names. -/
def Bus.postSpot (b : Bus) (w : Posted) : Spot :=
  let page := keyPage w.key
  let off := keyOff w.key
  let entry := match rowOfPage page with
    | some r => (match r.grant with
      | .entry per _ _ => (slotAt r.block off).map (fun p => pageIndex page * per + p.1)
      | _ => none)
    | none => none
  ⟨page, off, w.key / 2 ^ 26, b.postAcc w.vi page entry, entry⟩

/-- A queued write takes effect; to a domain that is halted or down it is dropped (R85). -/
def State.postedEffect (s : State) (w : Posted) : State :=
  s.asUp (pageDoms (keyPage w.key)) (fun s =>
    let sp := s.bus.postSpot w
    if s.bus.pageUp sp.page then s.regEffect w.vi sp w.value else s)

/-- The writes that a clock domain's queue may take again: those that the page network holds back go in in order, while there is room
(R83). -/
def admitHeld (p : PageState) : PageState :=
  p.held.cells.foldl (fun a (h : Nat × List Posted) =>
    let fit := fun (q : PageState × Bool) (w : Posted) =>
      let c := clkDomain (keyPage w.key)
      if q.2 || decide (64 ≤ (q.1.posted.find [] c).length) then
        ({ q.1 with held := q.1.held.put [] h.1 (q.1.held.find [] h.1 ++ [w]) }, true)
      else ({ q.1 with posted := q.1.posted.put [] c (q.1.posted.find [] c ++ [w]) }, false)
    (h.2.foldl fit ({ a with held := a.held.erase h.1 }, false)).1) p

/-- A write is accepted: into the queue of its clock domain, or held back behind the requester's earlier writes (R83). -/
def State.post (s : State) (w : Posted) : State :=
  let c := clkDomain (keyPage w.key)
  let p := s.page
  if (p.held.find [] w.vi).isEmpty ∧ (p.posted.find [] c).length < 64 then
    { s with page := { p with posted := p.posted.put [] c (p.posted.find [] c ++ [w]) } }
  else { s with page := { p with held := p.held.put [] w.vi (p.held.find [] w.vi ++ [w]) } }

/-- The oldest write of a clock domain's queue takes effect. -/
def State.postedNext (s : State) (c : Nat) : State :=
  match s.page.posted.find [] c with
  | [] => s
  | w :: rest =>
    let s1 := { s with page := admitHeld { s.page with posted := s.page.posted.put [] c rest } }
    s1.postedEffect w

/-- Whether a clock domain's queue is empty. -/
def State.postedEmpty (s : State) (c : Nat) : Bool := (s.page.posted.find [] c).isEmpty

/-- Every write in a clock domain's queue takes effect, in order of acceptance: `n` of them. -/
def State.flushN (s : State) (c : Nat) : Nat → State
  | 0 => s
  | n + 1 => (if s.postedEmpty c then s else s.postedNext c).flushN c n

/-- How many writes wait for the page network. -/
def State.postedCount (s : State) : Nat :=
  s.page.posted.cells.foldl (fun a q => a + q.2.length) 0 + s.page.held.cells.foldl (fun a q => a + q.2.length) 0

/-- The writes accepted for a clock domain take effect before what follows (R83). -/
def State.flushDomain (s : State) (c : Nat) : State := s.flushN c s.postedCount

/-- Every write accepted takes effect, domain by domain (R93). -/
def State.flushAll (s : State) : State :=
  let ds := s.page.posted.cells.map (·.1)
  ds.foldl (fun a c => a.flushN c s.postedCount) s

/-- A write of a window address by a requester with the rights of a VI: the status of Table 3-8 (R84, R85, R91, R92). -/
def State.writeReg (s : State) (vi addr value : Nat) : State × Nat :=
  match s.bus.resolve vi addr with
  | none => (s, 0)
  | some sp =>
    if sp.acc = 0 then (s, 0)
    else if !s.bus.pageUp sp.page then (s.on (·.late vi), 1)
    else if s.bus.deniesWrite sp vi then (s.on (·.denied), 2)
    else (s.post ⟨vi, sp.postKey, value % 2 ^ 32⟩, 0)

/-- REGISTER_WRITE (R83): the write is posted. -/
def execRegisterWrite (dt vi addr value : Nat) (s : State) : Res := .next ((s.tick dt).writeReg vi addr value).1

/-- POSTED_WRITE_EFFECT (R83, R86): the oldest accepted write of a clock domain takes effect. -/
def execPostedWriteEffect (dt dom : Nat) (s : State) : Res := .next ((s.tick dt).postedNext dom)

end Sys2Proof.Machine
end

