-- ==== Sys2Proof/Machine/Requests.lean ====
section
/-! DEFINITION. What a VI does to pages at once (R73, R74, R80, R82, R84, R95), PCIe functions (R87, R500), network sessions and their
messages (R88, R89), and the epoch that takes effect (R446). -/

namespace Sys2Proof.Machine

/-! ## Pages -/

/-- A VI's access to a page follows its own earlier writes to the page's clock domain (R83). -/
def State.after (s : State) (vi page : Nat) : State :=
  if !(s.page.held.find [] vi).isEmpty then s.flushAll
  else if (s.page.posted.find [] (clkDomain page)).any (fun w => decide (w.vi = vi)) then s.flushDomain (clkDomain page)
  else s

/-- PAGE_READ_TIMEOUT (R84): 0xFFFF_FFFF and FS16; R84 does not apply to a domain that is halted (R85). -/
def execPageReadTimeout (dt vi addr : Nat) (s : State) : Res :=
  let s1 := s.tick dt
  .next (match s1.bus.resolve vi addr with
    | none => s1
    | some sp =>
      if sp.acc = 0 ∨ (pageDoms sp.page).any s1.bus.halted.contains = true then s1
      else (s1.fault 16 { page := sp.page, addr := addr % 2 ^ 26, vi := some vi }).emit (.readData vi maxWord))

/-- PAGE_SRST (R73). -/
def execPageSrst (dt vi page : Nat) (s : State) : Res :=
  .next (((s.tick dt).after vi page).pageWrite vi page (fun sp t => t.pageSrst vi sp))

/-- PAGE_COMMIT (R74, R208). -/
def execPageCommit (dt vi page : Nat) (s : State) : Res :=
  .next (((s.tick dt).after vi page).pageWrite vi page (fun sp t => t.pageCommit vi sp))

/-- PAGE_ENABLE_WRITE (R95): the block of the page claims the slots named. -/
def execPageEnableWrite (dt vi page : Nat) (en : Bool) (slots : List Nat) (s : State) : Res :=
  .next (((s.tick dt).after vi page).pageWrite vi page (fun sp t => t.enWrite sp.page en slots))

/-- EVT_PEND_CLEAR (R80). -/
def execEvtPendClear (dt vi page mask meets : Nat) (s : State) : Res :=
  .next (((s.tick dt).after vi page).pageWrite vi page (fun sp t => t.pendClear vi sp mask meets))

/-- EVT_ENABLE_WRITE (R80). -/
def execEvtEnableWrite (dt vi page value : Nat) (s : State) : Res :=
  .next (((s.tick dt).after vi page).pageWrite vi page (fun sp t => t.evtEnable vi sp value))

/-- EVT_FORCE (R80). -/
def execEvtForce (dt vi page mask : Nat) (s : State) : Res :=
  .next (((s.tick dt).after vi page).pageWrite vi page (fun sp t => t.evtForce vi sp mask))

/-- EVQ_ENABLE (R82, R98): a write of VI_CTRL by the VI. -/
def execEvqEnable (dt vi : Nat) (en : Bool) (s : State) : Res :=
  .next (((s.tick dt).after vi (viPage vi)).guardWrite vi (viPage vi) (·.evqEnable vi en))

/-! ## PCIe functions (R87, R500) -/

/-- A function-level reset of one VI: EV9 to VI 0. -/
def State.flrOne (s : State) (v : Nat) : State := (s.flr v).raise vimPage 5

/-- PCIE_FLR (R87, R500): of an enabled VF, or of the PF, which acts on VI 1 and on every enabled VF. -/
def execPcieFlr (dt vi : Nat) (s : State) : Res :=
  let s1 := s.tick dt
  .next (if vi = 1 then (1 :: s1.bus.enabledVfs).foldl State.flrOne s1
    else if s1.bus.enabledVfs.contains vi then s1.flrOne vi
    else s1)

/-- VF_DISABLE (R500): VF Enable is cleared. -/
def execVfDisable (dt : Nat) (s : State) : Res :=
  let s1 := s.tick dt
  .next ((s1.bus.enabledVfs.foldl State.flrOne s1).on (fun b => { b with vfEnable := false }))

/-! ## Network sessions (R87, R88, R383) -/

/-- The digest that VIM_NETID holds for a VI, words 0 to 11. -/
def Bus.netId (b : Bus) (v : Nat) : Nat :=
  wordsNat ((List.range 12).map (fun w => b.rd (rkSel vimPage R.VIM_NETID_DATA (v + w * 2 ^ 16))))

/-- The network VI that a client's digest names. -/
def Bus.clientVi (b : Bus) (digest : Nat) : Option Nat :=
  if digest = 0 then none else ((List.range 767).map (· + 257)).find? (fun v => decide (b.netId v = digest))

/-- Whether handshakes can succeed (Table 16-5, Table 13-14 FS105): after step 7 of a start, with the random number generator READY
and the identity key usable. -/
def State.tlsReady (s : State) : Bool := s.bus.grantsOn && !s.bus.recovery && s.rngReady && s.idnReady

/-- A session opens: EV4 to VI 0, and the records held for the VI are delivered in order (R88). -/
def State.openSession (s : State) (vi : Nat) (enrol : Bool) : State :=
  let held := s.bus.netHold.find [] vi
  let s1 := s.on (fun b => { b with sessions := b.sessions.set vi ⟨b.now, enrol⟩, netHold := b.netHold.erase vi })
  let s2 := (s1.wr (rk vimPage R.VIM_SESSIONS) (s.rd (rk vimPage R.VIM_SESSIONS) + 1)).setBit (rk (viPage vi) R.VI_STATUS) 2 true
  (held.foldl (fun a r => a.emit (.netEvent vi r.w0.toNat r.w1.toNat r.w2.toNat r.w3.toNat)) s2).raise vimPage 0

/-- NET_SESSION_OPEN (R87, R88, R382, R383): the client's digest selects the VI, whose older session closes; while the device is unbound
a client that matches no entry is given the one enrolment session, as VI 1023. -/
def execNetSessionOpen (dt digest : Nat) (s : State) : Res :=
  let s1 := s.tick dt
  .next (if !s1.tlsReady then s1
    else match s1.bus.clientVi digest with
      | some v => if s1.bound then (s1.closeSession v).openSession v false else s1
      | none =>
        if s1.bound || s1.bus.sessions.cells.any (fun p => p.2.enrol) then s1
        else s1.openSession 1023 true)

/-- NET_SESSION_IDLE_CLOSE (R88): nothing received for VIM_NET_CTRL.IDLE seconds. -/
def execNetSessionIdleClose (dt vi : Nat) (s : State) : Res :=
  let s1 := s.tick dt
  .next (match s1.bus.sessions.find? vi with
    | some x => if x.lastRx + clkS (s1.fld (rk vimPage R.VIM_NET_CTRL) 16 8) ≤ s1.bus.now then s1.closeSession vi else s1
    | none => s1)

/-- NET_SESSION_CLOSE (R88). -/
def execNetSessionClose (dt vi : Nat) (s : State) : Res := .next ((s.tick dt).closeSession vi)

/-! ## Messages (R89) -/

/-- A message of a session: with none there is none to receive it. -/
def State.message (s : State) (vi tag count addr : Nat) (f : State → State) : State :=
  match s.bus.sessions.find? vi with
  | none => s
  | some x =>
    let s1 := s.on (fun b => { b with sessions := b.sessions.set vi { x with lastRx := b.now } })
    if count = 0 ∨ 256 < count ∨ addr % 4 ≠ 0 ∨ 2 ^ 26 < addr + 4 * count then s1.emit (.netResp vi tag 4 [])
    else f s1

/-- The first failure of a message's words. -/
def firstFail (a b : Nat) : Nat := if a = 0 then b else a

/-- Words read one by one, in address order, each after the requester's earlier writes (R83): the state, the words and the first failure. -/
def State.readWords (s : State) (vi req : Nat) : List Nat → State × List Nat × Nat
  | [] => (s, [], 0)
  | a :: t =>
    let r := (s.after vi (match s.bus.resolve vi a with | some sp => sp.page | none => 0)).readReg vi req a
    let q := r.1.readWords vi req t
    (q.1, r.2.1 :: q.2.1, firstFail r.2.2 q.2.2)

/-- Words written one by one, in address order: the state and the first failure. -/
def State.writeWords (s : State) (vi : Nat) : List (Nat × Nat) → State × Nat
  | [] => (s, 0)
  | p :: t =>
    let r := s.writeReg vi p.1 p.2
    let q := r.1.writeWords vi t
    (q.1, firstFail r.2 q.2)

/-- NET_READ (R89): one RESP with COUNT words. -/
def execNetRead (dt vi tag count addr : Nat) (s : State) : Res :=
  .next ((s.tick dt).message vi tag count addr (fun s =>
    let q := s.readWords vi vi ((List.range count).map (fun i => addr + 4 * i))
    q.1.emit (.netResp vi tag q.2.2 q.2.1)))

/-- NET_WRITE (R89): the words are posted, and one RESP follows. -/
def execNetWrite (dt vi tag addr : Nat) (words : List Nat) (s : State) : Res :=
  .next ((s.tick dt).message vi tag words.length addr (fun s =>
    let q := s.writeWords vi ((List.range words.length).map (fun i => (addr + 4 * i, words.getD i 0)))
    q.1.emit (.netResp vi tag q.2 [])))

/-! ## The global configuration epoch takes effect (R446) -/

/-- GLOBAL_EPOCH_DURABLE (Table 15-12 steps 2 and 3): the record is durable by t0 + 60 µs; writes accepted before a change of the
protection set-up take effect first (R93), and a join that waits asks for an epoch of its own (R442). -/
def execGlobalEpochDurable (dt : Nat) (s : State) : Res :=
  let s1 := s.tick dt
  .next (match s1.epochReady with
    | none => s1
    | some r => ((if r.ops.isEmpty then s1 else s1.flushAll).epochLive r).joinsWait)

end Sys2Proof.Machine
end

