-- ==== Sys2Proof/Machine/Remote.lean ====
section
/-! DEFINITION. PUT, PUTR and GET of the cores (R360 to R363): the remote address space, the words of a command and its completion. -/

namespace Sys2Proof.Machine

/-- What a remote word reaches (Table 12-8). -/
inductive RemoteAt where
  | reg (addr : Nat)
  | store (addr : Nat)
  | dmem (l word : Nat)
  | imem (l word : Nat)
  | bell (l : Nat)
  | kmem (word : Nat)
  | kbell
  | nothing
  deriving DecidableEq, Repr

/-- The target of a remote byte address, whose bits [1:0] are ignored. -/
def remoteAt (addr : Nat) : RemoteAt :=
  let a := addr / 4 * 4
  if a < 0x04000000 then .reg a
  else if 0x10000000 ≤ a ∧ a < 0x11000000 then .store (a - 0x10000000)
  else if 0x20000000 ≤ a ∧ a < 0x20000000 + 84 * 0x40000 then
    let l := (a - 0x20000000) / 0x40000
    let o := (a - 0x20000000) % 0x40000
    if o < 0x20000 then .dmem l (o / 4)
    else if o < 0x30000 then .imem l ((o - 0x20000) / 4)
    else if o = 0x30000 then .bell l
    else .nothing
  else if 0x30000000 ≤ a ∧ a < 0x30080000 then .kmem ((a - 0x30000000) / 4)
  else if a = 0x30080000 then .kbell
  else .nothing

/-- The acting VI of a core: ZWK_VI of a worker, VI 0 for a keeper; and the requester its snapshots are held under (R51). -/
def State.actingVi (s : State) (c : Nat) : Nat := if c < 96 then s.fld (zwkKey c R.ZWK_VI) 0 10 else 0
def coreReq (c : Nat) : Nat := if c < 96 then 2048 + c else 1024 + (c - 96)

/-- The status of a word that is no register access, before it is carried out (Table 12-9): ADDR without a target, DENIED, DOMAIN_DOWN. -/
def State.remoteStatus (s : State) (vi : Nat) (t : RemoteAt) : Nat :=
  let at' := fun (l : Nat) (need : Bool) (f : Nat → Bool) => match s.workerOf l with
    | none => 4
    | some c => if need && decide (vi ≠ 0) then 2 else if !f c then 2 else if !s.bus.domUp (4 + c / 16) then 1 else 0
  match t with
  | .reg _ => 0
  | .store _ => if vi ≠ 0 then 2 else if s.bus.domUp 2 then 0 else 1
  | .dmem l _ => at' l true (fun _ => true)
  | .imem l _ => at' l true s.zwStopped
  | .bell l => at' l false (fun _ => true)
  | .kmem _ => if vi ≠ 0 then 2 else if s.bus.domUp 3 then 0 else 1
  | .kbell => if s.bus.domUp 3 then 0 else 1
  | .nothing => 4

/-- A remote word is read: the state, the word and its status; a register read that times out has status TIMEOUT (R84). -/
def State.remoteRead (s : State) (c addr : Nat) (timeout : Bool) : State × Nat × Nat :=
  let vi := s.actingVi c
  let t := remoteAt addr
  let st := s.remoteStatus vi t
  if st ≠ 0 then (s, maxWord, st)
  else match t with
    | .reg a =>
      if timeout then ((execPageReadTimeout 0 vi a s).get s, maxWord, 3)
      else
        let r := (s.after vi (match s.bus.resolve vi a with | some sp => sp.page | none => 0)).readReg vi (coreReq c) a
        (r.1, if r.2.2 = 0 then r.2.1 else maxWord, r.2.2)
    | .store a => (s, leVal (s.storeRead a 4), 0)
    | .dmem l w => (s, (s.dmemRd ((s.workerOf l).getD 0) w).toNat, 0)
    | .imem l w => (s, (s.imemRd ((s.workerOf l).getD 0) w).toNat, 0)
    | .kmem w => (s, (s.bus.kdmem.find 0 w).toNat, 0)
    | _ => (s, 0, 0)

/-- A remote word is written and takes effect: the state and the status. -/
def State.remoteWrite (s : State) (c addr value : Nat) : State × Nat :=
  let vi := s.actingVi c
  let t := remoteAt addr
  let st := s.remoteStatus vi t
  if st ≠ 0 then (s, st)
  else match t with
    | .reg a =>
      let r := s.writeReg vi a value
      (r.1.after vi (match s.bus.resolve vi a with | some sp => sp.page | none => 0), r.2)
    | .store a => (s.storeWrite a (leBytes 4 value), 0)
    | .dmem l w => (s.dmemWr ((s.workerOf l).getD 0) w (BitVec.ofNat 32 value), 0)
    | .imem l w => (s.imemWr ((s.workerOf l).getD 0) w (BitVec.ofNat 32 value), 0)
    | .bell l => (s.doorbell ((s.workerOf l).getD 0) value, 0)
    | .kmem w => (s.on (fun b => { b with kdmem := b.kdmem.put 0 w (BitVec.ofNat 32 value) }), 0)
    | .kbell => (s.doorbell (96 + s.bus.keeper) value, 0)
    | .nothing => (s, 4)

/-- A GET word is written into the core's data memory, and stands against a store of the core that meets it (R363). -/
def State.getWord (s : State) (c dest value : Nat) : State :=
  let d := dest % dmemWords c
  (s.modZw c (fun k => { k with stores := k.stores.filter (fun x => decide (x.addr % dmemWords c ≠ d)) })).dmemWr c d (BitVec.ofNat 32 value)

/-- The words of a GET, from word `i` on: the state, and the status and address of the first failure. -/
def State.getWords (s : State) (c : Nat) (m : RemoteCmd) (timeout : Bool) : List Nat → State × Nat × Nat
  | [] => (s, 0, 0)
  | i :: t =>
    let a := (m.addr + 4 * i) % 2 ^ 32
    let r := s.remoteRead c a timeout
    let q := (r.1.getWord c (m.dest + i) r.2.1).getWords c m timeout t
    if r.2.2 = 0 then q else (q.1, r.2.2, a / 4 * 4)

/-- The words of a PUT or PUTR. -/
def State.putWords (s : State) (c : Nat) (m : RemoteCmd) : List Nat → State × Nat × Nat
  | [] => (s, 0, 0)
  | i :: t =>
    let a := (m.addr + 4 * i) % 2 ^ 32
    let r := s.remoteWrite c a (m.words.getD i 0).toNat
    let q := r.1.putWords c m t
    if r.2 = 0 then q else (q.1, r.2, a / 4 * 4)

/-- What of a command's targets is kept in issue order: a register domain, or a memory (R361). -/
def State.orderOf (s : State) (c addr : Nat) : Nat :=
  match remoteAt addr with
  | .reg a => (match s.bus.resolve (s.actingVi c) a with | some sp => clkDomain sp.page | none => 100)
  | .store _ => 101
  | .dmem l _ => 1000 + l
  | .imem l _ => 2000 + l
  | .bell l => 3000 + l
  | .kmem _ => 102
  | .kbell => 103
  | .nothing => 104

/-- Whether two commands of a core have a target in common. -/
def State.meets (s : State) (c : Nat) (m n : RemoteCmd) : Bool :=
  let ts := fun (x : RemoteCmd) => ((List.range x.count).map (fun i => s.orderOf c ((x.addr + 4 * i) % 2 ^ 32))).eraseDups
  (ts m).any (ts n).contains

/-- A failed command: event bit 29, ZWK_CMD_ERR, ZWK_CMD_ERR_ADDR and EV89 (R362). -/
def State.remoteFailed (s : State) (c group st addr : Nat) : State :=
  let s1 := s.on (·.setEvt c 29)
  if c < 96 then
    let k := zwkKey c R.ZWK_CMD_ERR
    let s2 := s1.wr k (st + group * 16 + satInc 16 (s1.fld k 16 16) * 2 ^ 16)
    (s2.wr (zwkKey c R.ZWK_CMD_ERR_ADDR) addr).raise (zwkPage c) 1
  else s1

/-- A command leaves the queue: its group's bit when the group is empty, and a core that waited for an entry goes on (R340, R361). -/
def State.remoteDone (s : State) (c i group : Nat) : State :=
  let q := (s.zw c).queue.eraseIdx i
  let s1 := s.modZw c (fun k => { k with queue := q })
  let s2 := if q.any (fun m => decide (m.group = group)) then s1 else s1.on (·.setEvt c (16 + group))
  let s3 := if c < 96 ∧ s2.fld (zwkKey c R.ZWK_STATUS) 0 2 = 3 then s2.setRun c 1 else s2
  if c < 96 then s3.addWrap (zwkKey c R.ZWK_CNT_CMD) 1 else s3

/-- REMOTE_COMMAND_COMPLETE (R361, R362): command `i` of the core's queue completes, unless an earlier one has a target in common with
it. -/
def execRemoteCommandComplete (dt core i : Nat) (timeout : Bool) (s : State) : Res :=
  let s1 := s.tick dt
  .next (match (s1.zw core).queue[i]? with
    | none => s1
    | some m =>
      if ((s1.zw core).queue.take i).any (s1.meets core m) then s1
      else
        let r := if m.get then s1.getWords core m timeout (List.range m.count) else s1.putWords core m (List.range m.count)
        let s2 := if r.2.1 = 0 then r.1 else r.1.remoteFailed core m.group r.2.1 r.2.2
        s2.remoteDone core i m.group)

end Sys2Proof.Machine
end

