-- ==== Sys2Proof/Machine/Start.lean ====
section
/-! DEFINITION. Starts (R458, R462 to R468, R490): the sequence of Table 16-4, recovery, SERVICE_READY, and what brings a start about. -/

namespace Sys2Proof.Machine

/-! ## Straps (R493) -/

def State.strap (s : State) (i : Nat) : Bool := bitOf i s.boot.straps

/-! ## Self-test at the start (R440) -/

/-- The unit of a group's page and its number within the page, where it is one with a role of its own. -/
def bootUnit (page sub : Nat) : Option Unit' :=
  let b := pageIndex page
  if blockOfPage page ≠ some .bst then none
  else if b < 9 then some (.plane b) else if b < 27 then some (.lane (b - 9)) else if b < 33 then some (.worker (16 * (b - 27) + sub))
  else if b < 35 then some (.keeper (b - 33)) else none

/-- A unit that failed is marked: BST_UNUSABLE, FS3 and EV73. -/
def State.bootMark (s : State) (page sub : Nat) : State :=
  let num := match bootUnit page sub with | some u => u.num | none => sub
  ((s.setBit (rk page R.BST_UNUSABLE) sub true).fault 3 { page := page, access := 7, engine := num }).raise page 1

/-- What becomes of a unit that failed: a spare takes its role; a plane is isolated; an engine is unusable. -/
def State.bootRole (s : State) (page sub : Nat) : State :=
  match bootUnit page sub with
  | some (.plane p) => s.planeIsolate p
  | some (.lane n) =>
    (match s.laneSpare (laneDie n) with
     | some m => if s.laneRole n = 1 then s.laneMove n m (s.laneLl n) 0 else s.setRole (.lane n) 0
     | none => s.setRole (.lane n) 0)
  | some (.worker c) =>
    (match s.workerSpare c, s.lworker c with
     | some m, some l => if m = c then s.setWorker c 0 255 else (s.setWorker c 0 255).setWorker m 1 l
     | _, _ => s.setWorker c 0 255)
  | some (.keeper p) => s.setKpr p 0
  | none =>
    let b := pageIndex page
    if b = 44 ∨ b = 45 then s.engineFail (b - 44) (sub % 4) else s

/-- One failure of the self-test of a start. -/
def State.bootFail (s : State) (f : Nat × Nat) : State := (s.bootMark f.1 f.2).bootRole f.1 f.2

/-- Whether failures set BOOT_FAIL: of pages 43, 46 or 47. -/
def fatalGroups (failed : List (Nat × Nat)) : Bool :=
  failed.any (fun f => decide (blockOfPage f.1 = some .bst) && [43, 46, 47].contains (pageIndex f.1))

/-- The start stops, and limp-home stays in force. -/
def State.stopStart (s : State) : State := s.setBit (fltKey R.FLT_STATUS) 0 true

/-! ## Steps 1 to 3 -/

/-- Steps 1 and 2: the straps are sampled, the flash is as the board holds it, the entropy source starts, and limp-home holds. -/
def State.startBegin (s : State) (flash : Option Flash) (straps : Nat) : State :=
  let s1 := (s.ifThen (!s.limp) (·.limpBegin)).modUpd (fun u => { u with flash := flash.getD u.flash })
  { s1 with boot := { s1.boot with porst := false, straps := straps % 16, entropyAt := s1.bus.now + clkMs 2 } }

/-- The keeper pair that is to be active, where one passed its self-test: the pair last active, else the other (R463). -/
def State.startPair (s : State) (failed : List (Nat × Nat)) : Option Nat :=
  let ok := fun (p : Nat) => !failed.any (fun f => decide (f.1 = kprBst p))
  let p := s.boot.lastPair
  if ok p then some p else if ok (1 - p) then some (1 - p) else none

/-- The roles of the pairs (R463, R435). -/
def State.keeperRoles (s : State) (p : Nat) : State :=
  let s1 := s.on (fun b => { b with keeper := p })
  let s2 := { s1 with boot := { s1.boot with lastPair := p } }
  let s3 := s2.setKpr p 1
  if s3.kprRole (1 - p) = 0 then s3 else s3.setKpr (1 - p) 2

/-- The journal is replayed into the home copy (R450): EV63, FLT_JRN_REPLAY and FLT_EPOCH. -/
def State.replay (s : State) : State :=
  let l := s.jrn.log.filter (·.durable)
  let s1 := l.foldl State.absorb s
  let s2 := { s1 with jrn := { s1.jrn with log := [] } }
  (((s2.wr (fltKey R.FLT_JRN_REPLAY) l.length).setFld (fltKey R.FLT_JRN_HEAD) 0 16 s2.jrn.next).wr (fltKey R.FLT_EPOCH)
    (s2.rd (fltKey R.FLT_HOME_EPOCH))).raise fltPage 3

/-! ## Step 5: the image (R459 to R463) -/

/-- A field of the home copy. -/
def State.homeField (s : State) (k : Nat) : Nat := s.jrn.home.find 0 (jkey k 0)

/-- Whether a bank holds a valid image, with the UPD fields of the home copy. -/
def State.bankValid (s : State) (bank : Nat) : Bool :=
  decide (imgCheck (flashBank s.upd.flash bank) (custKey s.homeField) s.upd.otp = 0)

/-- The bank to boot: the one confirmed, else the other; none in recovery. -/
def State.bankToBoot (s : State) : Option Nat :=
  let c := flashConfirmed s.upd.flash
  if s.strap 0 then none
  else if s.bankValid c then some c
  else if s.bankValid (1 - c) then some (1 - c)
  else none

/-- The fields of the protection set-up as the home copy holds them are in force, those of one page or of every page. -/
def State.homeProt (s : State) (sel : Nat → Bool) : State :=
  s.on (fun b => (s.jrn.home.cells.filter (fun e => decide (rwlMask (jAddr e.1) ≠ 0) && sel (jAddr e.1 / 4096))).foldl
    (fun a e => a.protWrite (jAddr e.1, jSel e.1, e.2)) b)

/-- Recovery (R468): RECOVERY and EV1 to VI 1; the UPD page takes an image under the UPD fields of the home copy. -/
def State.enterRecovery (s : State) : State :=
  let s1 := ((s.homeProt (fun p => decide (p = updPage))).setBit (rk 0 hdrPageStatus) 19 true).setUpd 1
  (s1.setFld (updKey R.UPD_STATUS) 5 1 (flashConfirmed s.upd.flash)).on (·.raiseFor 0 1 1 [])

/-! ## Step 7: the home copy is loaded (R450, R462) -/

/-- Loads a field of the home copy that is no field of the protection set-up. -/
def State.homeLoad (s : State) (e : Nat × Nat) : State :=
  let a := jAddr e.1
  let i := jSel e.1
  if a = rk valPage R.VAL_EP_D then
    s.epInstall 0 i ((List.range 3).map (fun k => s.jrn.home.find 0 (jkey (rk valPage (R.VAL_EP_D + 4 * k)) i))) true
  else if blockOfPage (a / 4096) = some .val then s
  else if a = rk calPage R.CAL_D0 then s.setCal i (e.2, s.jrn.home.find 0 (jkey (rk calPage R.CAL_D1) i))
  else if a = rk calPage R.CAL_MTX_DATA then s.setMtxEntry (i % 256) (i / 256) e.2
  else if blockOfPage (a / 4096) = some .cal then s
  else s.wr (homeKey e.1) e.2

/-- The home copy goes into registers, tables and the AON copy; grants are in force. -/
def State.homeInForce (s : State) : State :=
  let s1 := s.homeProt (fun _ => true)
  let s2 := (s.jrn.home.cells.filter (fun e => decide (rwlMask (jAddr e.1) = 0))).foldl State.homeLoad s1
  let s3 := ((List.range 72).foldl State.cisReport s2).lanesReport
  let s4 := (s3.on (fun b => { b with grantsOn := true })).setBit (ldsG R.LDS_G_STATUS) 5 true
  (List.range 24).foldl State.ldsRefresh s4

/-! ## Step 8: engines and the start configuration (R460, R464) -/

/-- Every worker is loaded and starts at its ZWK_ENTRY; the keeper runs its own part of the image (assumption log 38). -/
def State.startWorkers (s : State) : State :=
  let s1 := (List.range 96).foldl (fun a c => match a.lworker c with
    | some l => (((a.workerLoad c l).setBit (zwkKey c R.ZWK_CTRL) 0 true).zwStart c (a.fld (zwkKey c R.ZWK_ENTRY) 0 14))
    | none => a) s
  let k := 96 + s1.bus.keeper
  let s2 := s1.workerLoad k 84
  (s2.on (fun b => { b with kdmem := (s2.zw k).dmem })).zwStart k 0

/-- The start configuration, written as software writes it. -/
def State.startConfig (s : State) : State := s.upd.items.config.foldl (fun a w => (a.writeReg 0 w.1 w.2).1.flushAll) s

/-- The identity key is usable where it exists, but for a device strapped for keeper debug (R384, R493). -/
def State.startIdentity (s : State) : State :=
  let s1 := (s.setBit (idnKey R.IDN_STATUS) 0 s.idn.keyed).setBit (idnKey R.IDN_STATUS) 1 (!s.idn.cert.isEmpty)
  s1.ifThen (s.strap 3) (fun s => (s.setBit (idnKey R.IDN_STATUS) 0 false).fault 105 { page := idnPage })

/-- Steps 5 to 9 with a bank to boot. -/
def State.startImage (s : State) (bank : Nat) (failed : List (Nat × Nat)) : State :=
  let c := flashConfirmed s.upd.flash
  let l := flashBank s.upd.flash bank
  let s1 := (s.runImage bank (Config.imageItems l)).setBit (rk 0 hdrPageStatus) 18 (decide (bank ≠ c))
  let s2 := ((s1.setFld (updKey R.UPD_STATUS) 5 1 c).setFld (updKey R.UPD_IMG_INFO) 8 8 s.upd.otp).setFld (updKey R.UPD_IMG_INFO) 24 8 (imgFormat l)
  let s3 := (failed.filter (fun f => decide (f.1 ≠ kprBst 0) && decide (f.1 ≠ kprBst 1))).foldl State.bootFail s2
  if fatalGroups failed then s3.stopStart
  else
    let s4 := s3.homeInForce.startIdentity
    let s5 := (List.range 8).foldl State.loadCoil s4
    (s5.loadTables.startWorkers).startConfig

/-- The sequence of Table 16-4 up to step 9. -/
def State.start (s : State) (flash : Option Flash) (straps : Nat) (failed : List (Nat × Nat)) : State :=
  let s1 := s.startBegin flash straps
  let kf := failed.filter (fun f => decide (f.1 = kprBst 0) || decide (f.1 = kprBst 1))
  let s2 := kf.foldl State.bootFail s1
  match s2.startPair failed with
  | none => s2.stopStart
  | some p =>
    let s3 := (s2.keeperRoles p).replay
    match s3.bankToBoot with
    | none => s3.startIdentity.enterRecovery
    | some bank => s3.startImage bank failed

/-! ## The commands -/

/-- Whether a start has already run since the last reset. -/
def State.begun (s : State) : Bool := s.bus.grantsOn || s.bus.recovery || s.bit (fltKey R.FLT_STATUS) 0

/-- START_SEQUENCE (R458, R462): the release of PORST_N, the wake from Off or rung 5; with none of these there is no start. -/
def execStartSequence (dt : Nat) (cause : StartCause) (flash : Option Flash) (straps : Nat) (failed : List (Nat × Nat)) (s : State) : Res :=
  let s1 := s.tick dt
  .next (match cause with
    | .porst => if s1.boot.porst || !s1.begun then s1.start flash straps failed else s1
    | .wakeFromOff => if s1.pwrState = 4 then s1.deviceReset.start flash straps failed else s1
    | .rung5 =>
      if s1.rung5 then s1.deviceReset.start flash straps failed
      else if !s1.begun then s1.start flash straps failed else s1)

/-- The VIs that EV0 is recorded for: those with an event queue or a session (R465). -/
def Bus.readyVis (b : Bus) : List Nat :=
  ((List.range 256).map (· + 1)).filter b.pcieReceives ++ b.sessions.cells.map (·.1)

/-- The controllers enter their configured modes, and HELD requests go forward (R305). -/
def State.canReady (s : State) (n : Nat) : State :=
  let s1 := s.setBit (canKey n R.CAN_STATUS) 2 false
  (List.range 3).foldl (fun a b => if a.txStat n b = 6 then a.setTxStat n b 1 else a) s1

/-- SERVICE_READY (R465): after the steps of a start, with the random number generator READY or FAILED. -/
def execServiceReady (dt : Nat) (s : State) : Res :=
  let s1 := s.tick dt
  .next (if s1.serviceReady || !s1.bus.grantsOn || s1.bus.recovery || !(s1.rngReady || s1.rngFailed) then s1
    else
      let s2 := s1.setBit (rk 0 hdrPageStatus) 16 true
      let s3 := (List.range 16).foldl State.canReady s2
      let s4 := s3.ifThen (decide (s3.updState = 0)) (·.setUpd 1)
      s4.on (fun b => b.raiseFor 0 0 0 b.readyVis))

/-- PORST_ASSERT (R276, R458): the device is reset and limp-home begins. -/
def execPorstAssert (dt : Nat) (s : State) : Res :=
  let s1 := (s.tick dt).deviceReset
  .next { s1 with boot := { s1.boot with porst := true } }

/-- SUPPLY_UNDERVOLTAGE (R490): below its minimum for 2 µs a rail acts as PORST_N while that is released; with all back for 1 ms a start
may follow. -/
def execSupplyUndervoltage (dt : Nat) (below : Bool) (s : State) : Res :=
  let s1 := s.tick dt
  .next (if below then
      (if s1.boot.porst then s1
       else
         let s2 := s1.deviceReset
         { s2 with boot := { s2.boot with porst := true } })
    else { s1 with boot := { s1.boot with porst := false } })

/-- KEEPER_DEBUG_HALT (R369, R276, R493): through the debug port of a device strapped for it; EV85, and the timers follow R68. -/
def execKeeperDebugHalt (dt : Nat) (enter : Bool) (s : State) : Res :=
  let s1 := s.tick dt
  let k := rk s1.bus.keeperPage R.KPR_STATUS
  .next (if !s1.strap 3 || decide (s1.bit k 3 = enter) then s1
    else ((s1.setBit k 3 enter).raise s1.bus.keeperPage 1).gptModes)

/-- VAON_POWER_UP (R458, R279, R322, R463): what the AON island held is gone: transceivers in STANDBY, COPY_VALID 0, the pair last active
forgotten. -/
def execVaonPowerUp (dt : Nat) (s : State) : Res :=
  let s1 := (s.tick dt).deviceReset
  .next { s1 with
    bus := { s1.bus with
      regs := ⟨s1.bus.regs.cells.filter (fun p => decide (blockOfPage (keyPage p.1) = some .idn) || decide (keyOff p.1 = R.FLT_HOME_EPOCH ∧ keyPage p.1 = fltPage))⟩
      timers := SMap.empty }
    lds := State.reset.lds
    toks := SMap.empty
    boot := Boot.init }

end Sys2Proof.Machine
end

