-- ==== Sys2Proof/Machine/Dispatch.lean ====
section
/-! DEFINITION. The dispatch: one arm per command, each one direct call of its meaning. -/

namespace Sys2Proof.Machine

def exec (i : Instr) (s : State) : Host.Outcome State Fault Refusal :=
  match i with
  | .trefInLoss dt => Sys2Proof.Machine.execTrefInLoss dt s
  | .refclkLoss dt => Sys2Proof.Machine.execRefclkLoss dt s
  | .pcieRefclkLoss dt => Sys2Proof.Machine.execPcieRefclkLoss dt s
  | .xtal32kLoss dt => Sys2Proof.Machine.execXtal32kLoss dt s
  | .pllUnlock dt clk => Sys2Proof.Machine.execPllUnlock dt clk s
  | .pllStandbyRestored dt clk => Sys2Proof.Machine.execPllStandbyRestored dt clk s
  | .timNowSnapshot dt req => Sys2Proof.Machine.execTimNowSnapshot dt req s
  | .timPpsCapSnapshot dt req => Sys2Proof.Machine.execTimPpsCapSnapshot dt req s
  | .ppsEdge dt rising => Sys2Proof.Machine.execPpsEdge dt rising s
  | .ptpSync dt port domain offset => Sys2Proof.Machine.execPtpSync dt port domain offset s
  | .ptpMessage dt port domain kind => Sys2Proof.Machine.execPtpMessage dt port domain kind s
  | .ptpSyncTimeout dt => Sys2Proof.Machine.execPtpSyncTimeout dt s
  | .ppsAbsenceTimeout dt => Sys2Proof.Machine.execPpsAbsenceTimeout dt s
  | .tebUpdate dt => Sys2Proof.Machine.execTebUpdate dt s
  | .holdoverLimitReached dt => Sys2Proof.Machine.execHoldoverLimitReached dt s
  | .estepHoldExpire dt => Sys2Proof.Machine.execEstepHoldExpire dt s
  | .gptInputTick dt n src pin rising => Sys2Proof.Machine.execGptInputTick dt n src pin rising s
  | .gptCmpLoWrite dt vi n value => Sys2Proof.Machine.execGptCmpLoWrite dt vi n value s
  | .gptReloadLoWrite dt vi n value => Sys2Proof.Machine.execGptReloadLoWrite dt vi n value s
  | .gptClear dt vi n => Sys2Proof.Machine.execGptClear dt vi n s
  | .gptEnable dt vi n ctrl => Sys2Proof.Machine.execGptEnable dt vi n ctrl s
  | .gptCapture dt n src => Sys2Proof.Machine.execGptCapture dt n src s
  | .gptCapLoRead dt vi n meets => Sys2Proof.Machine.execGptCapLoRead dt vi n meets s
  | .gptAonUpdate dt n ticks => Sys2Proof.Machine.execGptAonUpdate dt n ticks s
  | .registerWrite dt vi addr value => Sys2Proof.Machine.execRegisterWrite dt vi addr value s
  | .postedWriteEffect dt dom => Sys2Proof.Machine.execPostedWriteEffect dt dom s
  | .pageReadTimeout dt vi addr => Sys2Proof.Machine.execPageReadTimeout dt vi addr s
  | .pageSrst dt vi page => Sys2Proof.Machine.execPageSrst dt vi page s
  | .pageCommit dt vi page => Sys2Proof.Machine.execPageCommit dt vi page s
  | .pageEnableWrite dt vi page en slots => Sys2Proof.Machine.execPageEnableWrite dt vi page en slots s
  | .evtPendClear dt vi page mask meets => Sys2Proof.Machine.execEvtPendClear dt vi page mask meets s
  | .evtEnableWrite dt vi page value => Sys2Proof.Machine.execEvtEnableWrite dt vi page value s
  | .evtForce dt vi page mask => Sys2Proof.Machine.execEvtForce dt vi page mask s
  | .evqEnable dt vi en => Sys2Proof.Machine.execEvqEnable dt vi en s
  | .pcieFlr dt vi => Sys2Proof.Machine.execPcieFlr dt vi s
  | .vfDisable dt => Sys2Proof.Machine.execVfDisable dt s
  | .netSessionOpen dt digest => Sys2Proof.Machine.execNetSessionOpen dt digest s
  | .netSessionIdleClose dt vi => Sys2Proof.Machine.execNetSessionIdleClose dt vi s
  | .netSessionClose dt vi => Sys2Proof.Machine.execNetSessionClose dt vi s
  | .netRead dt vi tag count addr => Sys2Proof.Machine.execNetRead dt vi tag count addr s
  | .netWrite dt vi tag addr words => Sys2Proof.Machine.execNetWrite dt vi tag addr words s
  | .mdioFrameStart dt vi value => Sys2Proof.Machine.execMdioFrameStart dt vi value s
  | .mdioFrameComplete dt data => Sys2Proof.Machine.execMdioFrameComplete dt data s
  | .mgtLinkChange dt m up => Sys2Proof.Machine.execMgtLinkChange dt m up s
  | .mgtFrameRx dt m frame => Sys2Proof.Machine.execMgtFrameRx dt m frame s
  | .mgtEnergyWake dt m => Sys2Proof.Machine.execMgtEnergyWake dt m s
  | .linkUp dt port => Sys2Proof.Machine.execLinkUp dt port s
  | .anTrainingFail dt port => Sys2Proof.Machine.execAnTrainingFail dt port s
  | .linkDown dt port => Sys2Proof.Machine.execLinkDown dt port s
  | .serdesFailure dt port => Sys2Proof.Machine.execSerdesFailure dt port s
  | .frameRx dt port frame => Sys2Proof.Machine.execFrameRx dt port frame s
  | .fecDegWindow dt port symbols codewords => Sys2Proof.Machine.execFecDegWindow dt port symbols codewords s
  | .pfcPauseExpire dt port cls => Sys2Proof.Machine.execPfcPauseExpire dt port cls s
  | .pfcXoffRefresh dt port => Sys2Proof.Machine.execPfcXoffRefresh dt port s
  | .snoopReport dt port group v6 kind frame => Sys2Proof.Machine.execSnoopReport dt port group v6 kind frame s
  | .snoopQuery dt port => Sys2Proof.Machine.execSnoopQuery dt port s
  | .snoopGmiExpire dt port group => Sys2Proof.Machine.execSnoopGmiExpire dt port group s
  | .mergeLegSilent dt entry => Sys2Proof.Machine.execMergeLegSilent dt entry s
  | .mergePairSilent dt entry => Sys2Proof.Machine.execMergePairSilent dt entry s
  | .strRead dt vi page => Sys2Proof.Machine.execStrRead dt vi page s
  | .strWrite dt vi page => Sys2Proof.Machine.execStrWrite dt vi page s
  | .strWriteKeep dt vi page => Sys2Proof.Machine.execStrWriteKeep dt vi page s
  | .strWriteSlotWaitEnd dt vi page => Sys2Proof.Machine.execStrWriteSlotWaitEnd dt vi page s
  | .grpRead dt vi page => Sys2Proof.Machine.execGrpRead dt vi page s
  | .grpWrite dt vi page => Sys2Proof.Machine.execGrpWrite dt vi page s
  | .crossbarCellTime dt cell => Sys2Proof.Machine.execCrossbarCellTime dt cell s
  | .planeForce dt vi value => Sys2Proof.Machine.execPlaneForce dt vi value s
  | .planeIsolationComplete dt => Sys2Proof.Machine.execPlaneIsolationComplete dt s
  | .packetDequeue dt out k => Sys2Proof.Machine.execPacketDequeue dt out k s
  | .cisPeakClr dt vi n => Sys2Proof.Machine.execCisPeakClr dt vi n s
  | .cisCntClr dt vi n => Sys2Proof.Machine.execCisCntClr dt vi n s
  | .moveTimeout dt entry => Sys2Proof.Machine.execMoveTimeout dt entry s
  | .hqrDoorbell dt vi ring value => Sys2Proof.Machine.execHqrDoorbell dt vi ring value s
  | .hqrTxDescriptor dt pump mem => Sys2Proof.Machine.execHqrTxDescriptor dt pump mem s
  | .hqrRxFrame dt pump mem => Sys2Proof.Machine.execHqrRxFrame dt pump mem s
  | .hqrDisable dt vi ring ctrl ahead => Sys2Proof.Machine.execHqrDisable dt vi ring ctrl ahead s
  | .hqrStopComplete dt ring => Sys2Proof.Machine.execHqrStopComplete dt ring s
  | .hqrEnable dt vi ring ctrl => Sys2Proof.Machine.execHqrEnable dt vi ring ctrl s
  | .hqrMemDataAccess dt vi ring write => Sys2Proof.Machine.execHqrMemDataAccess dt vi ring write s
  | .pcieLinkLoss dt => Sys2Proof.Machine.execPcieLinkLoss dt s
  | .pcieLinkRetrained dt => Sys2Proof.Machine.execPcieLinkRetrained dt s
  | .pumpHang dt pump => Sys2Proof.Machine.execPumpHang dt pump s
  | .fsCapturePacket dt store => Sys2Proof.Machine.execFsCapturePacket dt store s
  | .fsFrameComplete dt store => Sys2Proof.Machine.execFsFrameComplete dt store s
  | .xsDecodeComplete dt store first count ok => Sys2Proof.Machine.execXsDecodeComplete dt store first count ok s
  | .fsEnable dt vi store value => Sys2Proof.Machine.execFsEnable dt vi store value s
  | .fsDisable dt vi store => Sys2Proof.Machine.execFsDisable dt vi store s
  | .canvasEnable dt vi canvas => Sys2Proof.Machine.execCanvasEnable dt vi canvas s
  | .layoutEpochRequest dt vi canvas => Sys2Proof.Machine.execLayoutEpochRequest dt vi canvas s
  | .layoutEpochChecked dt group => Sys2Proof.Machine.execLayoutEpochChecked dt group s
  | .canvasFrameStart dt canvas => Sys2Proof.Machine.execCanvasFrameStart dt canvas s
  | .bindingInstant dt canvas => Sys2Proof.Machine.execBindingInstant dt canvas s
  | .lineDraw dt canvas tile line => Sys2Proof.Machine.execLineDraw dt canvas tile line s
  | .segmentPost dt canvas => Sys2Proof.Machine.execSegmentPost dt canvas s
  | .tilePacketSend dt canvas tile k late => Sys2Proof.Machine.execTilePacketSend dt canvas tile k late s
  | .valueFrameEnqueue dt => Sys2Proof.Machine.execValueFrameEnqueue dt s
  | .valueFrameApply dt => Sys2Proof.Machine.execValueFrameApply dt s
  | .valSrcSilentExpire dt slot => Sys2Proof.Machine.execValSrcSilentExpire dt slot s
  | .valSrcDevWrite dt vi value => Sys2Proof.Machine.execValSrcDevWrite dt vi value s
  | .valEpRead dt vi => Sys2Proof.Machine.execValEpRead dt vi s
  | .valEpWrite dt vi => Sys2Proof.Machine.execValEpWrite dt vi s
  | .valEpWriteClear dt vi => Sys2Proof.Machine.execValEpWriteClear dt vi s
  | .valEpSet dt vi => Sys2Proof.Machine.execValEpSet dt vi s
  | .valEngineHang dt => Sys2Proof.Machine.execValEngineHang dt s
  | .chainDataFrameStart dt chain => Sys2Proof.Machine.execChainDataFrameStart dt chain s
  | .chainLatch dt chain retBits latchBack => Sys2Proof.Machine.execChainLatch dt chain retBits latchBack s
  | .litCmdPing dt vi chain hop bcast => Sys2Proof.Machine.execLitCmdPing dt vi chain hop bcast s
  | .litCmdEnum dt vi chain hop bcast => Sys2Proof.Machine.execLitCmdEnum dt vi chain hop bcast s
  | .litCmdSetLoss dt vi chain hop bcast => Sys2Proof.Machine.execLitCmdSetLoss dt vi chain hop bcast s
  | .litCmdSetFail dt vi chain hop bcast => Sys2Proof.Machine.execLitCmdSetFail dt vi chain hop bcast s
  | .litCmdReadTemp dt vi chain hop bcast => Sys2Proof.Machine.execLitCmdReadTemp dt vi chain hop bcast s
  | .litCmdReadId dt vi chain hop bcast => Sys2Proof.Machine.execLitCmdReadId dt vi chain hop bcast s
  | .chainCommandFrame dt chain => Sys2Proof.Machine.execChainCommandFrame dt chain s
  | .chainCommandComplete dt chain ret => Sys2Proof.Machine.execChainCommandComplete dt chain ret s
  | .enumPassEnd dt chain tret => Sys2Proof.Machine.execEnumPassEnd dt chain tret s
  | .litDevCountWrite dt vi chain value => Sys2Proof.Machine.execLitDevCountWrite dt vi chain value s
  | .litPeriodWrite dt vi chain value => Sys2Proof.Machine.execLitPeriodWrite dt vi chain value s
  | .zoneTempTimeout dt chain zone => Sys2Proof.Machine.execZoneTempTimeout dt chain zone s
  | .ntcMeasure dt n ohms => Sys2Proof.Machine.execNtcMeasure dt n ohms s
  | .matrixScanRead dt m => Sys2Proof.Machine.execMatrixScanRead dt m s
  | .matrixScanFrameStart dt m => Sys2Proof.Machine.execMatrixScanFrameStart dt m s
  | .matrixLineSlot dt m cut oc => Sys2Proof.Machine.execMatrixLineSlot dt m cut oc s
  | .stageRead dt n vout => Sys2Proof.Machine.execStageRead dt n vout s
  | .stageSetpointEffect dt n => Sys2Proof.Machine.execStageSetpointEffect dt n s
  | .stageOvervoltage dt n => Sys2Proof.Machine.execStageOvervoltage dt n s
  | .stageShort dt n => Sys2Proof.Machine.execStageShort dt n s
  | .stageRetry dt n => Sys2Proof.Machine.execStageRetry dt n s
  | .calRead dt vi => Sys2Proof.Machine.execCalRead dt vi s
  | .calWrite dt vi => Sys2Proof.Machine.execCalWrite dt vi s
  | .calMtxWrite dt vi value => Sys2Proof.Machine.execCalMtxWrite dt vi value s
  | .ldsOutWrite dt vi ch value => Sys2Proof.Machine.execLdsOutWrite dt vi ch value s
  | .ldsEvaluate dt ch ma us tj lhIn vfield uv => Sys2Proof.Machine.execLdsEvaluate dt ch ma us tj lhIn vfield uv s
  | .ldsInrushEnd dt ch => Sys2Proof.Machine.execLdsInrushEnd dt ch s
  | .ldsTrip dt ch ma us => Sys2Proof.Machine.execLdsTrip dt ch ma us s
  | .ldsPauseExpire dt ch => Sys2Proof.Machine.execLdsPauseExpire dt ch s
  | .ldsTriesClear dt ch => Sys2Proof.Machine.execLdsTriesClear dt ch s
  | .ldsThermalShutdown dt ch tj => Sys2Proof.Machine.execLdsThermalShutdown dt ch tj s
  | .ldsThermalRecover dt ch tj => Sys2Proof.Machine.execLdsThermalRecover dt ch tj s
  | .ldsOpenLoad dt ch below vfield => Sys2Proof.Machine.execLdsOpenLoad dt ch below vfield s
  | .ldsStuckOn dt ch => Sys2Proof.Machine.execLdsStuckOn dt ch s
  | .ldsAggregateCheck dt total => Sys2Proof.Machine.execLdsAggregateCheck dt total s
  | .vfieldUndervoltage dt vfield => Sys2Proof.Machine.execVfieldUndervoltage dt vfield s
  | .vfieldRestored dt vfield => Sys2Proof.Machine.execVfieldRestored dt vfield s
  | .ldsRestoringExpire dt ch => Sys2Proof.Machine.execLdsRestoringExpire dt ch s
  | .ldsLatchClr dt vi ch value => Sys2Proof.Machine.execLdsLatchClr dt vi ch value s
  | .limpNLow dt => Sys2Proof.Machine.execLimpNLow dt s
  | .heartbeatWrite dt vi => Sys2Proof.Machine.execHeartbeatWrite dt vi s
  | .heartbeatLoss dt => Sys2Proof.Machine.execHeartbeatLoss dt s
  | .limpLatchClear dt ch => Sys2Proof.Machine.execLimpLatchClear dt ch s
  | .limpExit dt vi value limpHigh => Sys2Proof.Machine.execLimpExit dt vi value limpHigh s
  | .swiSample dt mv vfield => Sys2Proof.Machine.execSwiSample dt mv vfield s
  | .swiQueuePop dt vi => Sys2Proof.Machine.execSwiQueuePop dt vi s
  | .swiWatchSample dt mv vfield => Sys2Proof.Machine.execSwiWatchSample dt mv vfield s
  | .encEdge dt e a b => Sys2Proof.Machine.execEncEdge dt e a b s
  | .encIndex dt e => Sys2Proof.Machine.execEncIndex dt e s
  | .encPosWrite dt vi e value => Sys2Proof.Machine.execEncPosWrite dt vi e value s
  | .coiFire dt vi c value => Sys2Proof.Machine.execCoiFire dt vi c value s
  | .coiAbort dt vi c value => Sys2Proof.Machine.execCoiAbort dt vi c value s
  | .coiOpEnd dt c => Sys2Proof.Machine.execCoiOpEnd dt c s
  | .coiOpSeti dt c => Sys2Proof.Machine.execCoiOpSeti dt c s
  | .coiOpSrc dt c => Sys2Proof.Machine.execCoiOpSrc dt c s
  | .coiOpWaitu dt c => Sys2Proof.Machine.execCoiOpWaitu dt c s
  | .coiOpWaitm dt c => Sys2Proof.Machine.execCoiOpWaitm dt c s
  | .coiOpWaitk dt c => Sys2Proof.Machine.execCoiOpWaitk dt c s
  | .coiOpJmp dt c => Sys2Proof.Machine.execCoiOpJmp dt c s
  | .coiOpLoop dt c => Sys2Proof.Machine.execCoiOpLoop dt c s
  | .coiOpBk dt c => Sys2Proof.Machine.execCoiOpBk dt c s
  | .coiOpBnk dt c => Sys2Proof.Machine.execCoiOpBnk dt c s
  | .coiOpBvb dt c => Sys2Proof.Machine.execCoiOpBvb dt c s
  | .coiOpFree dt c => Sys2Proof.Machine.execCoiOpFree dt c s
  | .coiOpRecov dt c => Sys2Proof.Machine.execCoiOpRecov dt c s
  | .coiOpEvt dt c => Sys2Proof.Machine.execCoiOpEvt dt c s
  | .coiOpReserved dt c uncorr => Sys2Proof.Machine.execCoiOpReserved dt c uncorr s
  | .coiWaitExpire dt c m => Sys2Proof.Machine.execCoiWaitExpire dt c m s
  | .coiKinkDetect dt c maxMv avgMv m => Sys2Proof.Machine.execCoiKinkDetect dt c maxMv avgMv m s
  | .coiWaitkTimeout dt c m => Sys2Proof.Machine.execCoiWaitkTimeout dt c m s
  | .coiCurrentDecayed dt c m => Sys2Proof.Machine.execCoiCurrentDecayed dt c m s
  | .coiMinoffExpire dt c => Sys2Proof.Machine.execCoiMinoffExpire dt c s
  | .vboostLevelChange dt mv => Sys2Proof.Machine.execVboostLevelChange dt mv s
  | .canTxRequest dt vi n value => Sys2Proof.Machine.execCanTxRequest dt vi n value s
  | .canTxCancel dt vi n value => Sys2Proof.Machine.execCanTxCancel dt vi n value s
  | .canTxAttemptStart dt n => Sys2Proof.Machine.execCanTxAttemptStart dt n s
  | .canTxAttemptEnd dt n how setAlone => Sys2Proof.Machine.execCanTxAttemptEnd dt n how setAlone s
  | .canAloneSelfSet dt n => Sys2Proof.Machine.execCanAloneSelfSet dt n s
  | .canBoffRecoveryStart dt n => Sys2Proof.Machine.execCanBoffRecoveryStart dt n s
  | .canBoffRecovered dt n => Sys2Proof.Machine.execCanBoffRecovered dt n s
  | .canRxFrame dt n sofAgo f => Sys2Proof.Machine.execCanRxFrame dt n sofAgo f s
  | .canHpWord0Read dt vi n b => Sys2Proof.Machine.execCanHpWord0Read dt vi n b s
  | .canHpWord20Read dt vi n b => Sys2Proof.Machine.execCanHpWord20Read dt vi n b s
  | .canHpLockRelease dt vi n value => Sys2Proof.Machine.execCanHpLockRelease dt vi n value s
  | .canRxfWord0Read dt vi n => Sys2Proof.Machine.execCanRxfWord0Read dt vi n s
  | .canRxfWord20Read dt vi n => Sys2Proof.Machine.execCanRxfWord20Read dt vi n s
  | .canTtReferenceSend dt n sofAgo how => Sys2Proof.Machine.execCanTtReferenceSend dt n sofAgo how s
  | .canTtWindowMark dt n entry => Sys2Proof.Machine.execCanTtWindowMark dt n entry s
  | .canTtWindowEnd dt n entry => Sys2Proof.Machine.execCanTtWindowEnd dt n entry s
  | .canTtRefTimeout dt n => Sys2Proof.Machine.execCanTtRefTimeout dt n s
  | .wakModeNormal dt vi n => Sys2Proof.Machine.execWakModeNormal dt vi n s
  | .wakModeStandby dt vi n value => Sys2Proof.Machine.execWakModeStandby dt vi n value s
  | .wakModeSleep dt vi n => Sys2Proof.Machine.execWakModeSleep dt vi n s
  | .wakSleepCommit dt n => Sys2Proof.Machine.execWakSleepCommit dt n s
  | .wakeUpPattern dt n us => Sys2Proof.Machine.execWakeUpPattern dt n us s
  | .selectiveWakeFrame dt n f => Sys2Proof.Machine.execSelectiveWakeFrame dt n f s
  | .frameErrorCounterWake dt n => Sys2Proof.Machine.execFrameErrorCounterWake dt n s
  | .wakFailsafeExpire dt n => Sys2Proof.Machine.execWakFailsafeExpire dt n s
  | .txdDominantTimeout dt n => Sys2Proof.Machine.execTxdDominantTimeout dt n s
  | .xcvrThermal dt n => Sys2Proof.Machine.execXcvrThermal dt n s
  | .extCanWake dt n => Sys2Proof.Machine.execExtCanWake dt n s
  | .zwkStart dt vi w => Sys2Proof.Machine.execZwkStart dt vi w s
  | .zwkStop dt vi w => Sys2Proof.Machine.execZwkStop dt vi w s
  | .coreStopComplete dt core => Sys2Proof.Machine.execCoreStopComplete dt core s
  | .zwkImemDataAccess dt vi w write => Sys2Proof.Machine.execZwkImemDataAccess dt vi w write s
  | .zwkDmemDataAccess dt vi w write => Sys2Proof.Machine.execZwkDmemDataAccess dt vi w write s
  | .zwkDoorbell dt vi w value => Sys2Proof.Machine.execZwkDoorbell dt vi w value s
  | .zwkTimerWrite dt vi core value => Sys2Proof.Machine.execZwkTimerWrite dt vi core value s
  | .coreTimerExpire dt core => Sys2Proof.Machine.execCoreTimerExpire dt core s
  | .zwkRouteWrite dt vi w route value => Sys2Proof.Machine.execZwkRouteWrite dt vi w route value s
  | .waitResume dt core => Sys2Proof.Machine.execWaitResume dt core s
  | .remoteCommandComplete dt core slot timeout => Sys2Proof.Machine.execRemoteCommandComplete dt core slot timeout s
  | .zwPairWord dt core => Sys2Proof.Machine.execZwPairWord dt core s
  | .zwNop dt core => Sys2Proof.Machine.execZwNop dt core s
  | .zwAdd dt core => Sys2Proof.Machine.execZwAdd dt core s
  | .zwAddi dt core => Sys2Proof.Machine.execZwAddi dt core s
  | .zwSub dt core => Sys2Proof.Machine.execZwSub dt core s
  | .zwAdc dt core => Sys2Proof.Machine.execZwAdc dt core s
  | .zwSbc dt core => Sys2Proof.Machine.execZwSbc dt core s
  | .zwAnd dt core => Sys2Proof.Machine.execZwAnd dt core s
  | .zwAndi dt core => Sys2Proof.Machine.execZwAndi dt core s
  | .zwOr dt core => Sys2Proof.Machine.execZwOr dt core s
  | .zwOri dt core => Sys2Proof.Machine.execZwOri dt core s
  | .zwXor dt core => Sys2Proof.Machine.execZwXor dt core s
  | .zwXori dt core => Sys2Proof.Machine.execZwXori dt core s
  | .zwShl dt core => Sys2Proof.Machine.execZwShl dt core s
  | .zwShli dt core => Sys2Proof.Machine.execZwShli dt core s
  | .zwShr dt core => Sys2Proof.Machine.execZwShr dt core s
  | .zwShri dt core => Sys2Proof.Machine.execZwShri dt core s
  | .zwSar dt core => Sys2Proof.Machine.execZwSar dt core s
  | .zwSari dt core => Sys2Proof.Machine.execZwSari dt core s
  | .zwCmp dt core => Sys2Proof.Machine.execZwCmp dt core s
  | .zwCmpi dt core => Sys2Proof.Machine.execZwCmpi dt core s
  | .zwMin dt core => Sys2Proof.Machine.execZwMin dt core s
  | .zwMax dt core => Sys2Proof.Machine.execZwMax dt core s
  | .zwAbs dt core => Sys2Proof.Machine.execZwAbs dt core s
  | .zwNeg dt core => Sys2Proof.Machine.execZwNeg dt core s
  | .zwMovi dt core => Sys2Proof.Machine.execZwMovi dt core s
  | .zwMovhi dt core => Sys2Proof.Machine.execZwMovhi dt core s
  | .zwExt dt core => Sys2Proof.Machine.execZwExt dt core s
  | .zwIns dt core => Sys2Proof.Machine.execZwIns dt core s
  | .zwClz dt core => Sys2Proof.Machine.execZwClz dt core s
  | .zwPopc dt core => Sys2Proof.Machine.execZwPopc dt core s
  | .zwMul dt core => Sys2Proof.Machine.execZwMul dt core s
  | .zwMulhs dt core => Sys2Proof.Machine.execZwMulhs dt core s
  | .zwMulhu dt core => Sys2Proof.Machine.execZwMulhu dt core s
  | .zwMac dt core => Sys2Proof.Machine.execZwMac dt core s
  | .zwMsu dt core => Sys2Proof.Machine.execZwMsu dt core s
  | .zwMovad dt core => Sys2Proof.Machine.execZwMovad dt core s
  | .zwMovda dt core => Sys2Proof.Machine.execZwMovda dt core s
  | .zwMovai dt core => Sys2Proof.Machine.execZwMovai dt core s
  | .zwAddai dt core => Sys2Proof.Machine.execZwAddai dt core s
  | .zwAdda dt core => Sys2Proof.Machine.execZwAdda dt core s
  | .zwMovsr dt core => Sys2Proof.Machine.execZwMovsr dt core s
  | .zwMovrs dt core => Sys2Proof.Machine.execZwMovrs dt core s
  | .zwLd dt core => Sys2Proof.Machine.execZwLd dt core s
  | .zwSt dt core => Sys2Proof.Machine.execZwSt dt core s
  | .zwLdx dt core => Sys2Proof.Machine.execZwLdx dt core s
  | .zwStx dt core => Sys2Proof.Machine.execZwStx dt core s
  | .zwLdp dt core => Sys2Proof.Machine.execZwLdp dt core s
  | .zwStp dt core => Sys2Proof.Machine.execZwStp dt core s
  | .zwLda dt core => Sys2Proof.Machine.execZwLda dt core s
  | .zwSta dt core => Sys2Proof.Machine.execZwSta dt core s
  | .zwBr dt core => Sys2Proof.Machine.execZwBr dt core s
  | .zwJr dt core => Sys2Proof.Machine.execZwJr dt core s
  | .zwCall dt core => Sys2Proof.Machine.execZwCall dt core s
  | .zwCallr dt core => Sys2Proof.Machine.execZwCallr dt core s
  | .zwRet dt core => Sys2Proof.Machine.execZwRet dt core s
  | .zwLoop dt core => Sys2Proof.Machine.execZwLoop dt core s
  | .zwLoopi dt core => Sys2Proof.Machine.execZwLoopi dt core s
  | .zwWait dt core => Sys2Proof.Machine.execZwWait dt core s
  | .zwWaiti dt core => Sys2Proof.Machine.execZwWaiti dt core s
  | .zwPoll dt core => Sys2Proof.Machine.execZwPoll dt core s
  | .zwEvclr dt core => Sys2Proof.Machine.execZwEvclr dt core s
  | .zwHalt dt core => Sys2Proof.Machine.execZwHalt dt core s
  | .zwGet dt core => Sys2Proof.Machine.execZwGet dt core s
  | .zwPut dt core => Sys2Proof.Machine.execZwPut dt core s
  | .zwPutr dt core => Sys2Proof.Machine.execZwPutr dt core s
  | .dkyOpen dt vi => Sys2Proof.Machine.execDkyOpen dt vi s
  | .dkySeal dt vi => Sys2Proof.Machine.execDkySeal dt vi s
  | .dkyAbort dt vi => Sys2Proof.Machine.execDkyAbort dt vi s
  | .dkySealComplete dt => Sys2Proof.Machine.execDkySealComplete dt s
  | .dkySigSubmit dt vi value => Sys2Proof.Machine.execDkySigSubmit dt vi value s
  | .dkySigVerified dt check => Sys2Proof.Machine.execDkySigVerified dt check s
  | .dkyWindowExpire dt => Sys2Proof.Machine.execDkyWindowExpire dt s
  | .wakeNPresenceHold dt low => Sys2Proof.Machine.execWakeNPresenceHold dt low s
  | .presenceExpire dt => Sys2Proof.Machine.execPresenceExpire dt s
  | .idnReportRequest dt vi value => Sys2Proof.Machine.execIdnReportRequest dt vi value s
  | .idnReportReady dt => Sys2Proof.Machine.execIdnReportReady dt s
  | .identityKeygen dt => Sys2Proof.Machine.execIdentityKeygen dt s
  | .tokPoll dt n card => Sys2Proof.Machine.execTokPoll dt n card s
  | .tokSelect dt n uid => Sys2Proof.Machine.execTokSelect dt n uid s
  | .tokAuth1Reply dt n bytes => Sys2Proof.Machine.execTokAuth1Reply dt n bytes s
  | .tokAuth2Reply dt n bytes => Sys2Proof.Machine.execTokAuth2Reply dt n bytes s
  | .tokReadReply dt n bytes => Sys2Proof.Machine.execTokReadReply dt n bytes s
  | .tokReplyTimeout dt n => Sys2Proof.Machine.execTokReplyTimeout dt n s
  | .tokPing dt n reply => Sys2Proof.Machine.execTokPing dt n reply s
  | .tokPingRetry dt n reply => Sys2Proof.Machine.execTokPingRetry dt n reply s
  | .tokLockoutExpire dt n => Sys2Proof.Machine.execTokLockoutExpire dt n s
  | .tokIdleStop dt n => Sys2Proof.Machine.execTokIdleStop dt n s
  | .tokPollEnable dt vi n value => Sys2Proof.Machine.execTokPollEnable dt vi n value s
  | .tokRelayTimeExpire dt n => Sys2Proof.Machine.execTokRelayTimeExpire dt n s
  | .tokFrontendFault dt n => Sys2Proof.Machine.execTokFrontendFault dt n s
  | .pwrTargetRun dt vi => Sys2Proof.Machine.execPwrTargetRun dt vi s
  | .pwrTargetIdle dt vi => Sys2Proof.Machine.execPwrTargetIdle dt vi s
  | .pwrTargetSleep dt vi => Sys2Proof.Machine.execPwrTargetSleep dt vi s
  | .pwrTargetDeep dt vi => Sys2Proof.Machine.execPwrTargetDeep dt vi s
  | .pwrTargetOff dt vi => Sys2Proof.Machine.execPwrTargetOff dt vi s
  | .domainDrainComplete dt domain => Sys2Proof.Machine.execDomainDrainComplete dt domain s
  | .domainDrainAbort dt domain => Sys2Proof.Machine.execDomainDrainAbort dt domain s
  | .ladderStateReached dt domain => Sys2Proof.Machine.execLadderStateReached dt domain s
  | .pwrDRequest dt vi domain value => Sys2Proof.Machine.execPwrDRequest dt vi domain value s
  | .domainWakeTimeout dt domain => Sys2Proof.Machine.execDomainWakeTimeout dt domain s
  | .padRelease dt vi value => Sys2Proof.Machine.execPadRelease dt vi value s
  | .watchRequest dt vi value => Sys2Proof.Machine.execWatchRequest dt vi value s
  | .watchEntry dt sec => Sys2Proof.Machine.execWatchEntry dt sec s
  | .watchWake dt sec => Sys2Proof.Machine.execWatchWake dt sec s
  | .watchRunReached dt sec => Sys2Proof.Machine.execWatchRunReached dt sec s
  | .wakeNAssert dt => Sys2Proof.Machine.execWakeNAssert dt s
  | .pcieL1Exit dt => Sys2Proof.Machine.execPcieL1Exit dt s
  | .budgetTick dt temps activity => Sys2Proof.Machine.execBudgetTick dt temps activity s
  | .pmbusPoll dt rail power activity => Sys2Proof.Machine.execPmbusPoll dt rail power activity s
  | .railInvalid dt rail valid => Sys2Proof.Machine.execRailInvalid dt rail valid s
  | .thermalTrip dt sensor temp => Sys2Proof.Machine.execThermalTrip dt sensor temp s
  | .faultDetection dt source place held => Sys2Proof.Machine.execFaultDetection dt source place held s
  | .faultForce dt vi page value => Sys2Proof.Machine.execFaultForce dt vi page value s
  | .faultAck dt vi page value => Sys2Proof.Machine.execFaultAck dt vi page value s
  | .faultRecordClear dt vi value => Sys2Proof.Machine.execFaultRecordClear dt vi value s
  | .corrWindow dt source => Sys2Proof.Machine.execCorrWindow dt source s
  | .faultGraceExpire dt source held => Sys2Proof.Machine.execFaultGraceExpire dt source held s
  | .escalationRungComplete dt source held => Sys2Proof.Machine.execEscalationRungComplete dt source held s
  | .ladderEndTimeout dt source => Sys2Proof.Machine.execLadderEndTimeout dt source s
  | .spareTakeover dt source => Sys2Proof.Machine.execSpareTakeover dt source s
  | .domainResetReapply dt domain => Sys2Proof.Machine.execDomainResetReapply dt domain s
  | .deviceReset dt => Sys2Proof.Machine.execDeviceReset dt s
  | .bistStart dt vi page value => Sys2Proof.Machine.execBistStart dt vi page value s
  | .bistPeriodDue dt page => Sys2Proof.Machine.execBistPeriodDue dt page s
  | .bistDeferredStart dt page => Sys2Proof.Machine.execBistDeferredStart dt page s
  | .bistComplete dt page unit misr => Sys2Proof.Machine.execBistComplete dt page unit misr s
  | .joinStateTaken dt page => Sys2Proof.Machine.execJoinStateTaken dt page s
  | .joinTakeover dt page => Sys2Proof.Machine.execJoinTakeover dt page s
  | .joinAbort dt page => Sys2Proof.Machine.execJoinAbort dt page s
  | .epochRequest dt vi value => Sys2Proof.Machine.execEpochRequest dt vi value s
  | .epochAutoExpire dt => Sys2Proof.Machine.execEpochAutoExpire dt s
  | .globalEpochStart dt => Sys2Proof.Machine.execGlobalEpochStart dt s
  | .globalEpochDurable dt => Sys2Proof.Machine.execGlobalEpochDurable dt s
  | .globalEpochAonApply dt => Sys2Proof.Machine.execGlobalEpochAonApply dt s
  | .globalEpochAbort dt => Sys2Proof.Machine.execGlobalEpochAbort dt s
  | .journalLogRoom dt records => Sys2Proof.Machine.execJournalLogRoom dt records s
  | .journalRecordDurable dt pos => Sys2Proof.Machine.execJournalRecordDurable dt pos s
  | .powerFailWarning dt => Sys2Proof.Machine.execPowerFailWarning dt s
  | .powerFailFlushed dt => Sys2Proof.Machine.execPowerFailFlushed dt s
  | .powerFailRelease dt => Sys2Proof.Machine.execPowerFailRelease dt s
  | .porstAssert dt => Sys2Proof.Machine.execPorstAssert dt s
  | .supplyUndervoltage dt below => Sys2Proof.Machine.execSupplyUndervoltage dt below s
  | .startSequence dt cause flash straps failed => Sys2Proof.Machine.execStartSequence dt cause flash straps failed s
  | .serviceReady dt => Sys2Proof.Machine.execServiceReady dt s
  | .rngReady dt => Sys2Proof.Machine.execRngReady dt s
  | .rngHealthFail dt => Sys2Proof.Machine.execRngHealthFail dt s
  | .rngReseed dt => Sys2Proof.Machine.execRngReseed dt s
  | .rngDataRead dt vi => Sys2Proof.Machine.execRngDataRead dt vi s
  | .updOpen dt vi => Sys2Proof.Machine.execUpdOpen dt vi s
  | .updBlock dt vi => Sys2Proof.Machine.execUpdBlock dt vi s
  | .updBlockDma dt vi bytes => Sys2Proof.Machine.execUpdBlockDma dt vi bytes s
  | .updBlockWritten dt => Sys2Proof.Machine.execUpdBlockWritten dt s
  | .updVerify dt vi => Sys2Proof.Machine.execUpdVerify dt vi s
  | .updVerifyComplete dt => Sys2Proof.Machine.execUpdVerifyComplete dt s
  | .updAbort dt vi => Sys2Proof.Machine.execUpdAbort dt vi s
  | .updConfirm dt vi => Sys2Proof.Machine.execUpdConfirm dt vi s
  | .updReverse dt vi => Sys2Proof.Machine.execUpdReverse dt vi s
  | .updRecover dt vi => Sys2Proof.Machine.execUpdRecover dt vi s
  | .activationStandbyReady dt => Sys2Proof.Machine.execActivationStandbyReady dt s
  | .unitImageSwap dt unit => Sys2Proof.Machine.execUnitImageSwap dt unit s
  | .trialWarn dt => Sys2Proof.Machine.execTrialWarn dt s
  | .trialTimeout dt => Sys2Proof.Machine.execTrialTimeout dt s
  | .reverseHandover dt => Sys2Proof.Machine.execReverseHandover dt s
  | .reverseComplete dt => Sys2Proof.Machine.execReverseComplete dt s
  | .keeperDebugHalt dt enter => Sys2Proof.Machine.execKeeperDebugHalt dt enter s
  | .vaonPowerUp dt => Sys2Proof.Machine.execVaonPowerUp dt s
  | .trefInRestored dt => Sys2Proof.Machine.execTrefInRestored dt s
  | .xcvrThermalRecover dt n => Sys2Proof.Machine.execXcvrThermalRecover dt n s
  | .canErrorDetected dt n inc => Sys2Proof.Machine.execCanErrorDetected dt n inc s
  | .zwReservedLongWord dt core => Sys2Proof.Machine.execZwReservedLongWord dt core s

end Sys2Proof.Machine
end

