-- ==== Sys2Proof/Machine/Step.lean ====
section
/-! DEFINITION. One step of the block: the command at the front of the queue, or one timebase clock of 2 ns where none waits
(assumption log 2). -/

namespace Sys2Proof.Machine

/-- The step: the front command runs with the queue's rest; on an empty queue one timebase clock passes. -/
def step (s : State) : Host.Outcome State Fault Refusal :=
  match s.pending with
  | [] => .next (s.tick 1)
  | c :: rest => exec c { s with pending := rest }

/-- A state with the command a table word spells put at the front of its queue; unchanged where the word spells none. -/
def State.withFetchWord (s : State) (nbits w : Nat) : State :=
  match decodeTableWord nbits w with
  | some c => { s with pending := c :: s.pending }
  | none => s

end Sys2Proof.Machine
end

