-- ==== Sys2Proof/Safety.lean ====
section
/-! DEFINITION. What counts as a safe run, what the reporting of an event may change beside the event's own bit, and what a command
leaves as it was: the terms the statements use. -/

namespace Sys2Proof.Machine

/-- A step is safe where it answers a next state: it neither faults nor is refused. -/
def Safe (s : State) : Prop := ∃ t, step s = .next t

/-- A run of `n` steps is safe where it reaches a state. -/
def SafeRun (n : Nat) (s : State) : Prop := ∃ t, Sys2Proof.core.run n s = .next t

/-- The registers in which the delivery of event records is booked (R97, R359): EVQ_TAIL, EVQ_LOST, VI_STATUS and CFG_ERR of a VI
page; EVQ_TAIL, EVQ_LOST and STATUS of a keeper pair; and EV7 in EVT_PEND of the VIM page. -/
def reportKey (k : Nat) : Bool :=
  (decide (0x100 ≤ keyPage k) && decide (keyPage k < 0x500)
    && [R.VI_EVQ_TAIL, R.VI_EVQ_LOST, R.VI_STATUS, hdrPageStatus].contains (keyOff k))
  || (decide (0x80 ≤ keyPage k) && decide (keyPage k < 0x82) && [R.KPR_EVQ_TAIL, R.KPR_EVQ_LOST, R.KPR_STATUS].contains (keyOff k))
  || (decide (keyPage k = 1) && decide (keyOff k = hdrEvtPend))

/-- The page network `c` is `b` but for what the reporting of events changes and for the registers of `ks`: the records themselves (in
host memory, in messages, in the keeper's queue), their SEQ, the EVT bits that routes set, and the registers of `reportKey`. -/
structure Bus.Reported (b c : Bus) (ks : List Nat) : Prop where
  now : c.now = b.now
  wall : c.wall = b.wall
  addend : c.addend = b.addend
  shadow : c.shadow = b.shadow
  timers : c.timers = b.timers
  free : c.free = b.free
  grants : c.grants = b.grants
  sessions : c.sessions = b.sessions
  vfEnable : c.vfEnable = b.vfEnable
  numVfs : c.numVfs = b.numVfs
  pcieUp : c.pcieUp = b.pcieUp
  halted : c.halted = b.halted
  keeper : c.keeper = b.keeper
  recs : c.recs = b.recs
  units : c.units = b.units
  grantsOn : c.grantsOn = b.grantsOn
  corr : c.corr = b.corr
  regs : ∀ k, k ∉ ks → reportKey k = false → c.rd k = b.rd k

/-- The state `t` is `t0` but for the registers of `ks` and for what the reporting of events changes: the frame of a command that
raises events or configuration errors. -/
def State.After (t0 t : State) (ks : List Nat) : Prop := t = { t0 with bus := t.bus } ∧ t0.bus.Reported t.bus ks

/-- The key of a page's EVT_PEND, and a bit of it. -/
def pendKey (page : Nat) : Nat := rk page hdrEvtPend
def State.pend (s : State) (page bit : Nat) : Bool := s.bit (pendKey page) bit

/-- A core issues its next word now, and it is a long word of an opcode (R335). -/
def State.zwRuns (s : State) (c op : Nat) : Prop := s.issues c = true ∧ bitOf 31 (s.nextWord c) = false ∧ wOp (s.nextWord c) = op

/-- A core that issues a word with these effects: the results that are due land first, the effects are put in flight, and the next word
follows (R337). -/
def State.zwPut (s : State) (c : Nat) (e : ZwEff) : State := ((s.settle c).modZw c (fun k => k.put 0 e)).advance c

/-- The flags of a result: Z and N of it, C and V as before (R343). -/
def FlagsZN (r : Word) (old new : Nat) : Prop :=
  bitOf 0 new = decide (r = 0) ∧ bitOf 1 new = r.msb ∧ bitOf 2 new = bitOf 2 old ∧ bitOf 3 new = bitOf 3 old

/-- The flags of a result: Z and N of it, C and V as given (R343). -/
def FlagsZNCV (r : Word) (c v : Prop) (new : Nat) : Prop :=
  bitOf 0 new = decide (r = 0) ∧ bitOf 1 new = r.msb ∧ (bitOf 2 new = true ↔ c) ∧ (bitOf 3 new = true ↔ v)

/-- The flags of a shift by `n`: Z and N of the result, C as given unless `n` is 0, V as before (R343). -/
def FlagsShift (r : Word) (n : Nat) (c : Prop) (old new : Nat) : Prop :=
  bitOf 0 new = decide (r = 0) ∧ bitOf 1 new = r.msb ∧ (bitOf 2 new = true ↔ if n = 0 then bitOf 2 old = true else c) ∧
    bitOf 3 new = bitOf 3 old

/-- Every VI that the grant table names is one of the 1,024, and the active keeper pair is one of the two. -/
def Bus.Ranged (b : Bus) : Prop := (∀ p ∈ b.grants.cells, p.2.vi < 1024) ∧ b.keeper < 2

/-- The invariant of the block: the registers keep their canonical form (addresses rising, none at its reset value), every grant names one
of the 1,024 VIs, the active keeper pair and the pair last active are two of two, and first-error records are numbered 1 to 255 (R427). -/
structure State.Sound (s : State) : Prop where
  regs : s.bus.regs.wf resetWord = true
  ranged : s.bus.Ranged
  recs : ∀ p ∈ s.bus.recs.cells, 1 ≤ p.1 ∧ p.1 ≤ 255
  pair : s.boot.lastPair < 2

/-- The commands that are a write by a VI to one physical page: the time since the command before, the VI and the page (R85, R91, R92). -/
def pageCommand : Instr → Option (Nat × Nat × Nat)
  | .gptCmpLoWrite dt vi n _ => some (dt, vi, gptPage n)
  | .gptReloadLoWrite dt vi n _ => some (dt, vi, gptPage n)
  | .gptClear dt vi n => some (dt, vi, gptPage n)
  | .gptEnable dt vi n _ => some (dt, vi, gptPage n)
  | .mdioFrameStart dt vi _ => some (dt, vi, vimPage)
  | .planeForce dt vi _ => some (dt, vi, fabPage)
  | .layoutEpochRequest dt vi c => some (dt, vi, cnvPage c)
  | .canvasEnable dt vi c => some (dt, vi, cnvPage c)
  | .litDevCountWrite dt vi c _ => some (dt, vi, litPage c)
  | .litPeriodWrite dt vi c _ => some (dt, vi, litPage c)
  | .ldsOutWrite dt vi ch _ => some (dt, vi, ldsPage ch)
  | .ldsLatchClr dt vi ch _ => some (dt, vi, ldsPage ch)
  | .encPosWrite dt vi e _ => some (dt, vi, encPage e)
  | .coiFire dt vi c _ => some (dt, vi, coiPage c)
  | .coiAbort dt vi c _ => some (dt, vi, coiPage c)
  | .canTxRequest dt vi n _ => some (dt, vi, canPage n)
  | .canTxCancel dt vi n _ => some (dt, vi, canPage n)
  | .canHpLockRelease dt vi n _ => some (dt, vi, canPage n)
  | .wakModeNormal dt vi n => some (dt, vi, wakPage n)
  | .wakModeStandby dt vi n _ => some (dt, vi, wakPage n)
  | .wakModeSleep dt vi n => some (dt, vi, wakPage n)
  | .zwkStart dt vi w => some (dt, vi, zwkPage w)
  | .zwkStop dt vi w => some (dt, vi, zwkPage w)
  | .zwkDoorbell dt vi w _ => some (dt, vi, zwkPage w)
  | .zwkTimerWrite dt vi c _ => some (dt, vi, corePage c)
  | .zwkRouteWrite dt vi w _ _ => some (dt, vi, zwkPage w)
  | .tokPollEnable dt vi n _ => some (dt, vi, tokPage n)
  | .pwrTargetRun dt vi => some (dt, vi, pwrPage)
  | .pwrTargetIdle dt vi => some (dt, vi, pwrPage)
  | .pwrTargetSleep dt vi => some (dt, vi, pwrPage)
  | .pwrTargetDeep dt vi => some (dt, vi, pwrPage)
  | .pwrTargetOff dt vi => some (dt, vi, pwrPage)
  | .pwrDRequest dt vi d _ => some (dt, vi, Block.pwrD.pg d)
  | .padRelease dt vi _ => some (dt, vi, pwrPage)
  | .watchRequest dt vi _ => some (dt, vi, pwrPage)
  | .faultForce dt vi p _ => some (dt, vi, p)
  | .bistStart dt vi p _ => some (dt, vi, p)
  | .epochRequest dt vi _ => some (dt, vi, fltPage)
  | .updOpen dt vi => some (dt, vi, updPage)
  | .updBlock dt vi => some (dt, vi, updPage)
  | .updBlockDma dt vi _ => some (dt, vi, updPage)
  | .updVerify dt vi => some (dt, vi, updPage)
  | .updAbort dt vi => some (dt, vi, updPage)
  | .updConfirm dt vi => some (dt, vi, updPage)
  | .updReverse dt vi => some (dt, vi, updPage)
  | .updRecover dt vi => some (dt, vi, updPage)
  | _ => none

end Sys2Proof.Machine
end

