-- ==== Sys2Proof/Certificates/Slice0/Obligations.lean ====
section
/-! DEFINITION. The statements for the provers, family by family of the opcode table. -/

open Sys2Proof Sys2Proof.Machine

/-! ## The block as a whole -/

/-- A step runs the command at the front of the queue, with the queue's rest. On an empty queue one timebase clock of 2 ns passes: that
clause is the model's own choice (assumption log 2). -/
def Obligations.AStepRunsTheFrontCommand : Prop :=
  (∀ (c : Instr) (rest : List Instr) (s : State), s.pending = c :: rest → step s = exec c { s with pending := rest }) ∧
  (∀ (s : State), s.pending = [] → step s = .next (s.tick 1))

/-- What reset leaves by the reset columns of the register tables, R40, R77, R82 and R113: every register at its reset value, the timebase
in STARTING, every SEQ at 0, no stream entry valid, nothing queued or counted before. The reset values of registers whose table gives none
are the model's choice (log 3). -/
def Obligations.ResetLeavesWhatTheSpecStates : Prop :=
  (∀ k, State.reset.rd k = resetNat k % 2 ^ 32) ∧
  State.reset.rd (rk 0 0x040) = 0x4B4C5120 ∧ State.reset.rd (rk 0 0x044) = 0xB1 ∧
  State.reset.timState = 0 ∧ (∀ v, State.reset.bus.seq.find 0 v = 0) ∧ (∀ i, State.reset.str.entries.find? i = none) ∧
  State.reset.pwrState = 0 ∧ State.reset.dkyState = 0 ∧ State.reset.updState = 0 ∧ State.reset.serviceReady = false ∧
  State.reset.pending = [] ∧ State.reset.bus.out = []

/-- The reset state is sound. -/
def Obligations.ResetIsSound : Prop :=
  State.reset.Sound

/-- Whatever the command, a step from a sound state that answers a next state leaves a sound state; it never moves time backwards. The
invariant is the model's own (log 2). -/
def Obligations.EveryStepKeepsTheBlockSound : Prop :=
  ∀ s t : State, s.Sound → step s = .next t → t.Sound ∧ s.bus.now ≤ t.bus.now

/-- R85, R91, R92: for every command that is a write by a VI to one page: a page that the VI does not see is left alone, a page whose
domain is not up makes the access late, and with read access alone the write is denied. -/
def Obligations.APageOutOfReachIsLeftAlone : Prop :=
  ∀ (c : Instr) (dt vi page : Nat) (s : State), pageCommand c = some (dt, vi, page) →
    (s.bus.pageAccess page vi = 0 → exec c s = .next (s.tick dt)) ∧
    (s.bus.pageAccess page vi ≠ 0 → s.bus.pageUp page = false → exec c s = .next ((s.tick dt).on (·.late vi))) ∧
    (s.bus.pageAccess page vi = 1 → s.bus.pageUp page = true → exec c s = .next ((s.tick dt).on (·.denied)))

/-- R75, R80 to R82, R88, R97, R98, R359, Table 3-5: when an event becomes pending and when it is recorded; the record's fields; its way to
a PCIe VI, to a network VI and to the active keeper; and the configuration error. -/
def Obligations.EventsPendAndTheirRecordsAreDelivered : Prop :=
  (∀ (b : Bus) (page i : Nat), entryGranted page = false → b.bit (pendKey page) i = true → b.raise page i = b) ∧
  (∀ (b : Bus) (page i : Nat), entryGranted page = false → i < 32 → b.bit (pendKey page) i = false →
    b.bit (rk page hdrEvtEnable) i = false → (b.raise page i).bit (pendKey page) i = true ∧ (b.raise page i).out = b.out ∧
      (b.raise page i).seq = b.seq ∧ (b.raise page i).kdmem = b.kdmem ∧ (b.raise page i).netHold = b.netHold) ∧
  (∀ (b : Bus) (page i : Nat), entryGranted page = false → i < 32 → b.bit (pendKey page) i = false →
    b.bit (rk page hdrEvtEnable) i = true → page < 2 ^ 14 → b.raise page i = ((b.setBit (pendKey page) i true).fireRoutes page
      (eventNumber page i)).deliver (b.ownerOfPage page) page i (eventNumber page i) none) ∧
  (∀ (b : Bus) (vi page i evn : Nat) (entry : Option Nat), evn < 512 → i < 32 →
    fieldOf 0 9 (b.record vi page i evn entry).w0.toNat = evn ∧ fieldOf 9 5 (b.record vi page i evn entry).w0.toNat = i ∧
    bitOf 14 (b.record vi page i evn entry).w0.toNat = decide (320 ≤ evn) ∧
    fieldOf 16 16 (b.record vi page i evn entry).w0.toNat = b.seq.find 0 vi % 65536 ∧
    (b.record vi page i evn entry).w2 = BitVec.ofNat 32 (stampW1 b.w250) ∧
    (b.record vi page i evn entry).w3 = BitVec.ofNat 32 (stampW0 b.w250)) ∧
  (∀ (b : Bus) (vi : Nat), (b.stepSeq vi).seq.find 0 vi = (b.seq.find 0 vi + 1) % 65536 ∧
    ∀ v, v ≠ vi → (b.stepSeq vi).seq.find 0 v = b.seq.find 0 v) ∧
  (∀ (b : Bus) (vi evn : Nat) (r : EvRec), b.pcieReceives vi = false → b.toHost vi evn r = b) ∧
  (∀ (b : Bus) (vi evn tail head size a : Nat) (r : EvRec), 1 ≤ vi → vi ≤ 256 → b.pcieReceives vi = true →
    b.rd (rk (viPage vi) R.VI_EVQ_TAIL) = tail → b.rd (rk (viPage vi) R.VI_EVQ_HEAD) = head →
    size = 2 ^ b.fld (rk (viPage vi) R.VI_EVQ_SIZE) 0 5 → (tail + 2 ^ 32 - head) % 2 ^ 32 < size →
    a = b.rd (rk (viPage vi) R.VI_EVQ_BASE_HI) * 2 ^ 32 + b.rd (rk (viPage vi) R.VI_EVQ_BASE_LO) + tail % size * 16 →
    bitOf 16 (b.rd (rkSel (viPage vi) R.VI_EVMAP_DATA evn)) = false →
    (b.toHost vi evn r).out = .hostWord (a + 12) r.w3.toNat :: .hostWord (a + 8) r.w2.toNat :: .hostWord (a + 4) r.w1.toNat ::
      .hostWord a r.w0.toNat :: b.out ∧
    (b.toHost vi evn r).rd (rk (viPage vi) R.VI_EVQ_TAIL) = (tail + 1) % 2 ^ 32 ∧
    (b.toHost vi evn r).seq.find 0 vi = (b.seq.find 0 vi + 1) % 65536) ∧
  (∀ (b : Bus) (vi evn v : Nat), bitOf 16 (b.rd (rkSel (viPage vi) R.VI_EVMAP_DATA evn)) = true →
    fieldOf 0 11 (b.rd (rkSel (viPage vi) R.VI_EVMAP_DATA evn)) = v →
    (v < b.rd (rk (viPage vi) R.VI_VEC_COUNT) → (b.msixFor vi evn).2 = false ∧
      ∃ m, (b.msixFor vi evn).1.out = .msix (b.rd (rk (viPage vi) R.VI_VEC_BASE) + v) m :: b.out ∧ b.now ≤ m) ∧
    (b.rd (rk (viPage vi) R.VI_VEC_COUNT) ≤ v → b.msixFor vi evn = (b, true))) ∧
  (∀ (b : Bus) (vi evn : Nat) (r : EvRec), 1 ≤ vi → vi ≤ 256 → b.Ranged → b.pcieReceives vi = true →
    2 ^ b.fld (rk (viPage vi) R.VI_EVQ_SIZE) 0 5 ≤
      (b.rd (rk (viPage vi) R.VI_EVQ_TAIL) + 2 ^ 32 - b.rd (rk (viPage vi) R.VI_EVQ_HEAD)) % 2 ^ 32 →
    (b.toHost vi evn r).out = b.out ∧ (b.toHost vi evn r).bit (rk (viPage vi) R.VI_STATUS) 3 = true ∧
    (b.toHost vi evn r).bit (pendKey vimPage) 3 = true ∧
    (b.toHost vi evn r).rd (rk (viPage vi) R.VI_EVQ_LOST) = min (b.rd (rk (viPage vi) R.VI_EVQ_LOST) + 1) 0xFFFFFFFF ∧
    (b.toHost vi evn r).rd (rk (viPage vi) R.VI_EVQ_TAIL) = b.rd (rk (viPage vi) R.VI_EVQ_TAIL)) ∧
  (∀ (b : Bus) (vi : Nat) (r : EvRec) (x : Session), b.sessions.find? vi = some x →
    b.toNet vi r = (b.stepSeq vi).emit (.netEvent vi r.w0.toNat r.w1.toNat r.w2.toNat r.w3.toNat)) ∧
  (∀ (b : Bus) (vi : Nat) (r : EvRec), b.sessions.find? vi = none → (b.netHold.find [] vi).length < 64 →
    (b.toNet vi r).netHold.find [] vi = b.netHold.find [] vi ++ [r] ∧ (b.toNet vi r).out = b.out ∧ (b.toNet vi r).regs = b.regs) ∧
  (∀ (b : Bus) (r : EvRec) (p tail head base : Nat), b.keeper < 2 → p = b.keeperPage → b.rd (rk p R.KPR_EVQ_TAIL) = tail →
    b.rd (rk p R.KPR_EVQ_HEAD) = head → b.rd (rk p R.KPR_EVQ_BASE) = base →
    ((tail + 2 ^ 32 - head) % 2 ^ 32 < 1024 → (b.toKeeper r).rd (rk p R.KPR_EVQ_TAIL) = (tail + 1) % 2 ^ 32 ∧
      (b.toKeeper r).kdmem.find 0 ((base + 4 * (tail % 1024)) % 131072) = r.w0 ∧
      (b.toKeeper r).kdmem.find 0 ((base + 4 * (tail % 1024) + 3) % 131072) = r.w3 ∧
      ((b.toKeeper r).evt.find 0 (96 + b.keeper)).getLsbD 30 = true) ∧
    (1024 ≤ (tail + 2 ^ 32 - head) % 2 ^ 32 → (b.toKeeper r).kdmem = b.kdmem ∧ (b.toKeeper r).bit (rk p R.KPR_STATUS) 4 = true ∧
      (b.toKeeper r).bit (pendKey vimPage) 3 = true)) ∧
  (∀ (b : Bus) (page : Nat), entryGranted page = false →
    (b.bit (rk page hdrPageStatus) 2 = true → b.cfgErr page = b) ∧
    (b.bit (rk page hdrPageStatus) 2 = false → b.cfgErr page =
      (b.setBit (rk page hdrPageStatus) 2 true).deliver (b.ownerOfPage page) page 1 5 none))

/-- R8, R41, R74, Table 0-5: what a write does to each bit of a register by its access codes; a field out of its range is clamped with a
configuration error; an RWS register takes the write into its shadow, or loses it while the shadow is frozen. -/
def Obligations.RegisterBitsFollowTheirAccessCodes : Prop :=
  (∀ (s : State) (vi k v : Nat) (sp : Spot) (d : RegDef), d.rws = 0 → d.clamps = [] → d.rw &&& d.w1c = 0 → d.rw < 2 ^ 32 → d.w1c < 2 ^ 32 →
    (∀ i, i < 32 → (s.codedWrite vi sp d k v).bit k i =
      if bitOf i d.rw then bitOf i v else if bitOf i d.w1c then s.bit k i && !bitOf i v else s.bit k i) ∧
    (∀ j, j ≠ k → (s.codedWrite vi sp d k v).rd j = s.rd j)) ∧
  (∀ (s : State) (vi k v lo w a b : Nat) (sp : Spot) (d : RegDef), d.rws = 0 → d.clamps = [(lo, w, a, b)] → d.w1c = 0 →
    d.rw = (2 ^ w - 1) * 2 ^ lo → lo + w ≤ 32 → a ≤ b → b < 2 ^ w →
    ((fieldOf lo w v < a ∨ b < fieldOf lo w v) → ∃ u : State, s.codedWrite vi sp d k v = u.cfgErrAt vi sp ∧
      u.fld k lo w = (if fieldOf lo w v < a then a else b) ∧ ∀ j, j ≠ k → u.rd j = s.rd j) ∧
    (a ≤ fieldOf lo w v → fieldOf lo w v ≤ b → (s.codedWrite vi sp d k v).fld k lo w = fieldOf lo w v ∧
      ∀ j, j ≠ k → (s.codedWrite vi sp d k v).rd j = s.rd j)) ∧
  (∀ (s : State) (vi k v : Nat) (sp : Spot) (d : RegDef), d.rws ≠ 0 → d.rws < 2 ^ 32 → s.shadowFrozen sp = false →
    (s.codedWrite vi sp d k v).bus.regs = s.bus.regs ∧ ∀ i, i < 32 → bitOf i ((s.codedWrite vi sp d k v).bus.rdShadow k) =
      if bitOf i d.rws then bitOf i v else bitOf i (s.bus.rdShadow k)) ∧
  (∀ (s : State) (vi k v : Nat) (sp : Spot) (d : RegDef), d.rws ≠ 0 → s.shadowFrozen sp = true →
    s.codedWrite vi sp d k v = s.writeLost sp ∧ (s.writeLost sp).bus.shadow = s.bus.shadow)

/-! ## Clocks, the timebase and the general timers (chapter 2) -/

/-- R43, R47, Table 2-1, Table 2-10: what the loss and the return of a reference and of a PLL do. A fault acts as `State.fault`, whose
effect `FaultDetectionIsCountedRecordedAndReported` states. -/
def Obligations.ReferencesAndPllsFailAndReturn : Prop :=
  (∀ (dt : Nat) (s : State), s.timState ≠ 2 →
    exec (.trefInLoss dt) s = .next (((s.tick dt).setBit (timKey R.TIM_CTRL) 5 true).fault 8 { page := timPage })) ∧
  (∀ (dt : Nat) (s : State), ∃ t, exec (.trefInRestored dt) s = .next t ∧ t.bit (timKey R.TIM_CTRL) 5 = false ∧
    (∀ i, i ≠ 5 → t.bit (timKey R.TIM_CTRL) i = s.bit (timKey R.TIM_CTRL) i) ∧ (s.tick dt).After t [timKey R.TIM_CTRL]) ∧
  (∀ (dt : Nat) (s : State), exec (.refclkLoss dt) s =
    .next (({ s.tick dt with
              tim := { s.tim with refLost := true }
              bus := (s.bus.tick dt).haltDoms [10, 11, 12, 13, 14, 15, 16, 17, 18, 19, 20, 21, 2, 3, 4, 5, 6, 7, 8, 9] } : State).fault 9
            { page := timPage })) ∧
  (∀ (dt : Nat) (s : State), exec (.pcieRefclkLoss dt) s =
    .next (((s.tick dt).on (fun b => { b with pcieUp := false })).fault 10 { page := timPage })) ∧
  (∀ (dt : Nat) (s : State), exec (.xtal32kLoss dt) s =
    .next (({ s.tick dt with tim := { s.tim with xtalLost := true } } : State).fault 11 { page := timPage })) ∧
  (∀ (dt clk : Nat) (s : State), clk ∉ s.tim.noStandby → exec (.pllUnlock dt clk) s =
    .next (({ s.tick dt with tim := { s.tim with noStandby := clk :: s.tim.noStandby } } : State).fault 12
      { page := timPage, addr := clk })) ∧
  (∀ (dt clk : Nat) (s : State), clk ∈ s.tim.noStandby → exec (.pllUnlock dt clk) s =
    .next (((s.tick dt).on (·.haltDoms (domsOfClk clk))).fault 15 { page := timPage, addr := clk })) ∧
  (∀ (dt clk : Nat) (s : State), s.bus.Ranged → clk ∈ s.tim.noStandby → ∃ t, exec (.pllStandbyRestored dt clk) s = .next t ∧
    clk ∉ t.tim.noStandby ∧ (∀ c, c ≠ clk → (c ∈ t.tim.noStandby ↔ c ∈ s.tim.noStandby)) ∧ t.pend timPage 6 = true ∧
    ({ s.tick dt with tim := { s.tim with noStandby := t.tim.noStandby } } : State).After t [pendKey timPage]) ∧
  (∀ (dt clk : Nat) (s : State), clk ∉ s.tim.noStandby → exec (.pllStandbyRestored dt clk) s = .next (s.tick dt))

/-- R51, R59, Table 2-6, Table 2-8, R19: a snapshot holds the counter for its requester, and TIM_TEB follows E. R53, R57, R58, Table 2-6:
edges and PTP messages. The first edge seen is the reference; an edge of the other polarity has no effect; an edge at the wrong distance is
rejected; PTP lock is lost after 1.5 s without a Sync; LOCKED ends 1.5 s after the last accepted edge. What the phase-locked loop adds is a
free value (log 8). -/
def Obligations.TheTimebaseIsDisciplinedAndItsErrorBounded : Prop :=
  (∀ (dt req : Nat) (s : State), ∃ t x, exec (.timNowSnapshot dt req) s = .next t ∧ t.tim.snaps.find? req = some x ∧
    x.sHi * 2 ^ 32 + x.sLo = (s.tick dt).bus.wall / (2 ^ 48 * 1000000000) % 2 ^ 48 ∧
    x.ns = (s.tick dt).bus.wall / 2 ^ 48 % 1000000000 ∧ x.frac = (s.tick dt).bus.wall / 2 ^ 32 % 65536 ∧
    (∀ r, r ≠ req → t.tim.snaps.find? r = s.tim.snaps.find? r) ∧
    t = { s.tick dt with tim := { s.tim with snaps := t.tim.snaps } }) ∧
  (∀ (dt req : Nat) (s : State), ∃ t x, exec (.timPpsCapSnapshot dt req) s = .next t ∧ t.tim.snaps.find? req = some x ∧
    x.capNs = s.rd (timKey R.TIM_PPS_CAP_NS) ∧ (∀ r, r ≠ req → t.tim.snaps.find? r = s.tim.snaps.find? r) ∧
    t = { s.tick dt with tim := { s.tim with snaps := t.tim.snaps } }) ∧
  (∀ (dt : Nat) (s : State), s.bus.Ranged → ∃ t, exec (.tebUpdate dt) s = .next t ∧
    t.rd (timKey R.TIM_TEB) = (s.tick dt).teb.getD 0xFFFFFFFF % 2 ^ 32 ∧
    (s.rd (timKey R.TIM_TEB) < s.rd (timKey R.TIM_TEB_WARN) → s.rd (timKey R.TIM_TEB_WARN) ≤ (s.tick dt).teb.getD 0xFFFFFFFF →
      t.pend timPage 5 = true) ∧
    (s.tick dt).After t [timKey R.TIM_TEB, pendKey timPage]) ∧
  (∀ (dt : Nat) (s : State), s.bus.Ranged → s.timState = 2 →
    s.rd (timKey R.TIM_HOLD_LIMIT) * 1000000 ≤ (s.tick dt).teb.getD 0xFFFFFFFF →
    ∃ t, exec (.holdoverLimitReached dt) s = .next t ∧ t.timState = 3 ∧ t.rd (timKey R.TIM_TEB) = 0xFFFFFFFF ∧
      t.pend timPage 3 = true ∧ (s.tick dt).After t [timKey R.TIM_STATE, timKey R.TIM_TEB, pendKey timPage]) ∧
  (∀ (dt : Nat) (s : State), s.bus.Ranged → s.tim.estepEnd < (s.tick dt).bus.w250 →
    ∃ t, exec (.estepHoldExpire dt) s = .next t ∧ t.tim = { s.tim with estep := 0 } ∧
      t.rd (timKey R.TIM_TEB) = t.teb.getD 0xFFFFFFFF % 2 ^ 32 ∧
      ({ s.tick dt with tim := t.tim } : State).After t [timKey R.TIM_TEB, pendKey timPage]) ∧
(∀ (dt : Nat) (rising : Bool) (s : State), s.bit (timKey R.TIM_CTRL) 3 = rising → exec (.ppsEdge dt rising) s = .next (s.tick dt)) ∧
  (∀ (dt : Nat) (rising : Bool) (s : State), s.bit (timKey R.TIM_CTRL) 3 ≠ rising → s.tim.lastSeen = none →
    ∃ t, exec (.ppsEdge dt rising) s = .next t ∧ t.tim = { s.tim with lastSeen := some (s.tick dt).bus.w250 } ∧
      t.rd (timKey R.TIM_PPS_CAP_S) = stampW1 (s.tick dt).bus.w250 ∧
      ({ s.tick dt with tim := t.tim } : State).After t [timKey R.TIM_PPS_CAP_S, timKey R.TIM_PPS_CAP_NS]) ∧
  (∀ (dt : Nat) (rising : Bool) (s : State) (p : Nat), s.bus.Ranged → s.bit (timKey R.TIM_CTRL) 3 ≠ rising → s.tim.lastSeen = some p →
    (s.tick dt).bus.w250 - p < 3996000000 ∨ 4004000000 < (s.tick dt).bus.w250 - p →
    ∃ t, exec (.ppsEdge dt rising) s = .next t ∧
      t.tim = { s.tim with lastSeen := some (s.tick dt).bus.w250, consecutive := false, armed := false } ∧
      t.rd (timKey R.TIM_PPS_REJECTS) = min (s.rd (timKey R.TIM_PPS_REJECTS) + 1) 0xFFFFFFFF ∧ t.pend timPage 1 = true ∧
      ({ s.tick dt with tim := t.tim } : State).After t
        [timKey R.TIM_PPS_CAP_S, timKey R.TIM_PPS_CAP_NS, timKey R.TIM_PPS_REJECTS, pendKey timPage]) ∧
  (∀ (dt port domain : Nat) (offset : Int) (s : State), s.ptpFor port domain = false →
    exec (.ptpSync dt port domain offset) s = .next (s.tick dt)) ∧
  (∀ (dt port domain : Nat) (offset : Int) (s : State), s.ptpFor port domain = true → s.timSrc = 0 → s.tim.ptpLocked = false →
    s.tim.ptpCount < 7 → ∃ t, exec (.ptpSync dt port domain offset) s = .next t ∧
      t.rd (timKey R.TIM_PTP_OFFSET) = ofSignedSat 32 offset % 2 ^ 32 ∧
      t.tim.ptpCount = (if offset.natAbs < s.stepThr then s.tim.ptpCount + 1 else 0) ∧ t.tim.ptpLocked = false ∧
      (({ s.tick dt with tim := t.tim } : State).arm tPtpSync 750000000).After t [timKey R.TIM_PTP_OFFSET]) ∧
  (∀ (dt port domain gm old : Nat) (s : State), s.bus.Ranged → s.ptpFor port domain = true → s.tim.ptpLocked = true →
    s.tim.ptpGm = some old → old ≠ gm → s.timSrc = 0 →
    ∃ t, exec (.ptpMessage dt port domain (.announce gm)) s = .next t ∧ t.pend timPage 4 = true ∧
      t.tim = { s.tim with ptpGm := some gm, ptpLocked := false, ptpCount := 0, ptpArmed := false } ∧
      ({ s.tick dt with tim := t.tim } : State).After t [pendKey timPage]) ∧
  (∀ (dt port domain : Nat) (s : State), exec (.ptpMessage dt port domain .followUp) s = .next (s.tick dt) ∧
    exec (.ptpMessage dt port domain .delayResp) s = .next (s.tick dt)) ∧
  (∀ (dt : Nat) (s : State), s.bus.Ranged → (s.tick dt).due tPtpSync = true → s.tim.ptpLocked = true → s.timSrc = 0 →
    ∃ t, exec (.ptpSyncTimeout dt) s = .next t ∧ t.tim = { s.tim with ptpLocked := false, ptpCount := 0, ptpArmed := false } ∧
      t.pend timPage 4 = true ∧ (({ s.tick dt with tim := t.tim } : State).disarm tPtpSync).After t [pendKey timPage]) ∧
  (∀ (dt : Nat) (s : State), s.bus.Ranged → (s.tick dt).due tPpsAbs = true → s.timSrc = 0 → s.timState = 1 →
    s.bit (timKey R.TIM_CTRL) 5 = false →
    ∃ t, exec (.ppsAbsenceTimeout dt) s = .next t ∧ t.timState = 2 ∧ t.pend timPage 3 = true ∧
      t.tim.frozen = s.tim.hist.foldl max 0 ∧ t.tim.holdStart = (s.tick dt).bus.w250)

/-- R65 to R70, Table 2-12: the general timers. A timer counts ticks of the source it selects and fires when its count enters [CMP, CMP +
H); a capture takes the count; a write by the owner commits a compare or a reload value; in the coarse mode the timer runs from AON. -/
def Obligations.GeneralTimersCountFireAndCapture : Prop :=
  (∀ (dt n src pin : Nat) (rising : Bool) (s : State), s.bit (gptKey n R.GPT_CTRL) 0 = true → s.gptSrc n = src → src ≠ 4 →
    s.gptCoarse = false → exec (.gptInputTick dt n src pin rising) s = .next ((s.tick dt).gptAdvance n 1)) ∧
  (∀ (dt n src pin : Nat) (rising : Bool) (s : State), s.bit (gptKey n R.GPT_CTRL) 0 = false ∨ s.gptSrc n ≠ src ∨ s.gptCoarse = true →
    exec (.gptInputTick dt n src pin rising) s = .next (s.tick dt)) ∧
  (∀ (dt vi n : Nat) (s : State), n < 32 → s.bus.pageAccess (gptPage n) vi = 2 → s.bus.pageUp (gptPage n) = true →
    ∃ t, exec (.gptClear dt vi n) s = .next t ∧ t.gptCount n = 0 ∧ t.gptAt n = { s.gptAt n with acc := 0 } ∧
      (∀ m, m ≠ n → t.gptAt m = s.gptAt m) ∧
      ({ s.tick dt with gpt := t.gpt } : State).After t [gptKey n R.GPT_COUNT_LO, gptKey n R.GPT_COUNT_HI]) ∧
  (∀ (dt vi n value cmp : Nat) (s : State), n < 32 → s.bus.pageAccess (gptPage n) vi = 2 → s.bus.pageUp (gptPage n) = true →
    cmp = value % 2 ^ 32 + s.rd (gptKey n R.GPT_CMP_HI) * 2 ^ 32 → cmp ≤ (s.gptAt n).reload →
    inWindow (s.gptAt n).reload cmp (s.gptCount n) = false →
    ∃ t, exec (.gptCmpLoWrite dt vi n value) s = .next t ∧ t.gptAt n = { s.gptAt n with cmp := cmp } ∧
      (∀ m, m ≠ n → t.gptAt m = s.gptAt m) ∧ ({ s.tick dt with gpt := t.gpt } : State).After t [gptKey n R.GPT_CMP_LO]) ∧
  (∀ (dt vi n value rel : Nat) (s : State), n < 32 → s.bus.pageAccess (gptPage n) vi = 2 → s.bus.pageUp (gptPage n) = true →
    rel = value % 2 ^ 32 + s.rd (gptKey n R.GPT_RELOAD_HI) * 2 ^ 32 → 0 < rel → (s.gptAt n).cmp ≤ rel →
    inWindow rel (s.gptAt n).cmp (s.gptCount n) = false →
    ∃ t, exec (.gptReloadLoWrite dt vi n value) s = .next t ∧ t.gptAt n = { s.gptAt n with reload := rel } ∧
      (∀ m, m ≠ n → t.gptAt m = s.gptAt m) ∧ ({ s.tick dt with gpt := t.gpt } : State).After t [gptKey n R.GPT_RELOAD_LO]) ∧
  (∀ (dt vi n ctrl : Nat) (s : State), n < 32 → s.bus.pageAccess (gptPage n) vi = 2 → s.bus.pageUp (gptPage n) = true →
    bitOf 0 ctrl = true → bitOf 1 ctrl = false → s.bit (gptKey n R.GPT_CTRL) 0 = true →
    ∃ t, exec (.gptEnable dt vi n ctrl) s = .next t ∧ t.rd (gptKey n R.GPT_CTRL) = ctrl &&& 0x00FFFFFD ∧
      (s.tick dt).After t [gptKey n R.GPT_CTRL]) ∧
  (∀ (dt n src : Nat) (s : State), s.bus.Ranged → n < 32 → s.bit (gptKey n R.GPT_CTRL) 10 = true →
    s.bit (gptKey n R.GPT_CTRL) 11 = true → src = s.fld (gptKey n R.GPT_CTRL) 15 9 + 8 →
    ∃ t, exec (.gptCapture dt n src) s = .next t ∧ t.gptAt n = { s.gptAt n with cap := s.gptCount n } ∧
      t.bit (gptKey n R.GPT_STATUS) 1 = true ∧
      (s.bit (gptKey n R.GPT_STATUS) 1 = true → t.bit (gptKey n R.GPT_STATUS) 2 = true) ∧ t.pend (gptPage n) 1 = true ∧
      ({ s.tick dt with gpt := t.gpt } : State).After t [gptKey n R.GPT_CAP_LO, gptKey n R.GPT_STATUS, pendKey (gptPage n)]) ∧
  (∀ (dt vi n : Nat) (s : State), n < 32 → s.bus.pageAccess (gptPage n) vi = 2 → s.bus.pageUp (gptPage n) = true →
    ∃ t, exec (.gptCapLoRead dt vi n false) s = .next t ∧ t.bus.out = .readData vi ((s.gptAt n).cap % 2 ^ 32) :: s.bus.out ∧
      t.rd (gptKey n R.GPT_CAP_HI) = (s.gptAt n).cap / 2 ^ 32 % 2 ^ 32 ∧ t.bit (gptKey n R.GPT_STATUS) 1 = false ∧
      (s.tick dt).After t [gptKey n R.GPT_CAP_HI, gptKey n R.GPT_STATUS]) ∧
  (∀ (dt n ticks : Nat) (s : State), s.gptCoarse = true → s.bit (gptKey n R.GPT_CTRL) 0 = true → s.gptSrc n = 4 →
    ∃ t, exec (.gptAonUpdate dt n ticks) s = .next t ∧ t.bit (gptKey n R.GPT_STATUS) 4 = true ∧
      (s.tick dt).After t [gptKey n R.GPT_STATUS]) ∧
  (∀ (dt n ticks : Nat) (s : State), s.gptCoarse = true → s.bit (gptKey n R.GPT_CTRL) 0 = true → s.gptSrc n ≠ 4 →
    exec (.gptAonUpdate dt n ticks) s = .next (((s.tick dt).setBit (gptKey n R.GPT_STATUS) 3 true).gptAdvance n ticks))

/-! ## Register pages, virtual interfaces and events (chapter 3) -/

/-- R83 to R85, R91, R92, Table 3-8: a register write is accepted into the queue of its clock domain, or waits behind it while it holds 64;
it is counted late where the domain is not up, denied where the VI may not write, ignored where nothing is there; the oldest accepted write
of a domain takes effect; a read that times out answers 0xFFFF_FFFF with FS16. -/
def Obligations.RegisterWritesArePostedLateDeniedOrIgnored : Prop :=
  (∀ (dt vi addr value c : Nat) (s : State) (sp : Spot), s.bus.resolve vi addr = some sp → sp.acc ≠ 0 → s.bus.pageUp sp.page = true →
    s.bus.deniesWrite sp vi = false → s.page.held.find [] vi = [] → c = clkDomain (keyPage sp.postKey) →
    (s.page.posted.find [] c).length < 64 →
    ∃ t, exec (.registerWrite dt vi addr value) s = .next t ∧
      t.page.posted.find [] c = s.page.posted.find [] c ++ [⟨vi, sp.postKey, value % 2 ^ 32⟩] ∧
      (∀ d, d ≠ c → t.page.posted.find [] d = s.page.posted.find [] d) ∧ t.page.held = s.page.held ∧
      t = { s.tick dt with page := t.page }) ∧
  (∀ (dt vi addr value c : Nat) (s : State) (sp : Spot), s.bus.resolve vi addr = some sp → sp.acc ≠ 0 → s.bus.pageUp sp.page = true →
    s.bus.deniesWrite sp vi = false → c = clkDomain (keyPage sp.postKey) → 64 ≤ (s.page.posted.find [] c).length →
    ∃ t, exec (.registerWrite dt vi addr value) s = .next t ∧ t.page.posted = s.page.posted ∧
      t.page.held.find [] vi = s.page.held.find [] vi ++ [⟨vi, sp.postKey, value % 2 ^ 32⟩] ∧ t = { s.tick dt with page := t.page }) ∧
  (∀ (dt vi addr value : Nat) (s : State), s.bus.resolve vi addr = none → exec (.registerWrite dt vi addr value) s = .next (s.tick dt)) ∧
  (∀ (dt vi addr value : Nat) (s : State) (sp : Spot), s.bus.resolve vi addr = some sp → sp.acc ≠ 0 → s.bus.pageUp sp.page = false →
    exec (.registerWrite dt vi addr value) s = .next ((s.tick dt).on (·.late vi))) ∧
  (∀ (dt vi addr value : Nat) (s : State) (sp : Spot), s.bus.resolve vi addr = some sp → sp.acc ≠ 0 → s.bus.pageUp sp.page = true →
    s.bus.deniesWrite sp vi = true → exec (.registerWrite dt vi addr value) s = .next ((s.tick dt).on (·.denied))) ∧
  (∀ (dt c : Nat) (s : State) (w : Posted) (rest : List Posted), s.page.posted.find [] c = w :: rest → s.page.held.cells = [] →
    ∃ s1, exec (.postedWriteEffect dt c) s = .next (s1.postedEffect w) ∧ s1.page.posted.find [] c = rest ∧
      s1 = { s.tick dt with page := { s.page with posted := s.page.posted.put [] c rest } }) ∧
  (∀ (dt c : Nat) (s : State), s.page.posted.find [] c = [] → exec (.postedWriteEffect dt c) s = .next (s.tick dt)) ∧
  (∀ (dt vi addr : Nat) (s : State) (sp : Spot), s.bus.resolve vi addr = some sp → sp.acc ≠ 0 →
    (pageDoms sp.page).any s.bus.halted.contains = false →
    exec (.pageReadTimeout dt vi addr) s =
      .next (((s.tick dt).fault 16 { page := sp.page, addr := addr % 2 ^ 26, vi := some vi }).emit (.readData vi 0xFFFFFFFF)))

/-- R73, R74, R95: soft reset, commit and enable, by the owner of a page, while none of its writes waits. The soft reset is stated on the
RNG page, whose block does nothing of its own when its registers return to reset. R80, R82: the event bits of a page granted by page, in
the hands of its owner while none of its writes waits. -/
def Obligations.PagesAndTheirEventBitsAreCommanded : Prop :=
  (∀ (dt vi : Nat) (s : State), s.page = PageState.init → s.bus.pageAccess (Block.rng.pg 0) vi = 2 →
    s.bus.pageUp (Block.rng.pg 0) = true →
    ∃ t, exec (.pageSrst dt vi (Block.rng.pg 0)) s = .next t ∧ t.rd (pendKey (Block.rng.pg 0)) = 0 ∧
      (∀ off, off < 0x040 → off ≠ hdrEvtPend → t.rd (rk (Block.rng.pg 0) off) = s.rd (rk (Block.rng.pg 0) off)) ∧
      (∀ off d, 0x040 ≤ off → off < 4096 → regDefAt (Block.rng.pg 0) off = some d →
        t.rd (rk (Block.rng.pg 0) off) = srstValue d (rk (Block.rng.pg 0) off) (s.rd (rk (Block.rng.pg 0) off)) % 2 ^ 32) ∧
      t = { s.tick dt with bus := t.bus }) ∧
  (∀ (dt vi page : Nat) (s : State), s.page = PageState.init → page < 2 ^ 14 → entryGranted page = false →
    blockOfPage page ≠ some .win → blockOfPage page ≠ some .cnv → blockOfPage page ≠ some .cis →
    s.bus.pageAccess page vi = 2 → s.bus.pageUp page = true → s.bit (rk page hdrShadowCtrl) 2 = false →
    (s.fld (rk page hdrShadowCtrl) 0 2 = 0 ∨ s.fld (rk page hdrShadowCtrl) 0 2 = 3) →
    exec (.pageCommit dt vi page) s = .next ((s.tick dt).pageCopy page)) ∧
  (∀ (dt vi page : Nat) (s : State), s.page = PageState.init → entryGranted page = false → blockOfPage page ≠ some .win →
    s.bus.pageAccess page vi = 2 → s.bus.pageUp page = true → s.bit (rk page hdrShadowCtrl) 2 = true →
    exec (.pageCommit dt vi page) s = .next (s.tick dt)) ∧
  (∀ (dt vi page : Nat) (s : State), s.page = PageState.init → entryGranted page = false → blockOfPage page ≠ some .win →
    blockOfPage page ≠ some .cnv → s.bus.pageAccess page vi = 2 → s.bus.pageUp page = true → s.bit (rk page hdrShadowCtrl) 2 = false →
    s.fld (rk page hdrShadowCtrl) 0 2 = 2 →
    ∃ t, exec (.pageCommit dt vi page) s = .next t ∧ t.bit (rk page hdrShadowCtrl) 2 = true ∧
      (s.tick dt).After t [rk page hdrShadowCtrl]) ∧
  (∀ (dt vi page : Nat) (s : State), s.page = PageState.init → entryGranted page = false →
    (∀ b ∈ [Block.cnv, .lit, .mtx, .stg, .tok, .can, .prt], blockOfPage page ≠ some b) →
    s.bus.pageAccess page vi = 2 → s.bus.pageUp page = true → s.bit (rk page hdrPageCtrl) 0 = false →
    ∃ t, exec (.pageEnableWrite dt vi page true []) s = .next t ∧ t.bit (rk page hdrPageCtrl) 0 = true ∧
      t.bit (rk page hdrPageStatus) 0 = true ∧ (s.tick dt).After t [rk page hdrPageCtrl, rk page hdrPageStatus]) ∧
  (∀ (dt vi page slot : Nat) (s : State), s.page = PageState.init → entryGranted page = false →
    (∀ b ∈ [Block.cnv, .lit, .mtx, .stg, .tok, .can, .prt], blockOfPage page ≠ some b) →
    s.bus.pageAccess page vi = 2 → s.bus.pageUp page = true → s.bit (rk page hdrPageCtrl) 0 = false →
    s.bus.mayClaim slot (fnCode page) = false →
    exec (.pageEnableWrite dt vi page true [slot]) s =
      .next (((s.tick dt).on (·.claim page slot)).setBit (rk page hdrPageCtrl) 0 true)) ∧
  (∀ (dt vi page : Nat) (s : State), s.page = PageState.init → entryGranted page = false →
    (∀ b ∈ [Block.cnv, .lit, .mtx, .stg, .tok, .can, .prt, .coi, .lds], blockOfPage page ≠ some b) →
    s.bus.pageAccess page vi = 2 → s.bus.pageUp page = true → s.bit (rk page hdrPageCtrl) 0 = true →
    exec (.pageEnableWrite dt vi page false []) s =
      .next ((((s.tick dt).setBit (rk page hdrPageCtrl) 0 false).setBit (rk page hdrPageStatus) 0 false).on (·.releaseClaims page))) ∧
(∀ (dt vi page mask : Nat) (s : State), s.page = PageState.init → entryGranted page = false → s.bus.pageAccess page vi = 2 →
    s.bus.pageUp page = true → ∃ t, exec (.evtPendClear dt vi page mask 0) s = .next t ∧
      (∀ i, i < 32 → t.pend page i = (s.pend page i && !bitOf i mask)) ∧ (s.tick dt).After t [pendKey page]) ∧
  (∀ (dt vi page mask i : Nat) (s : State), s.bus.Ranged → s.page = PageState.init → entryGranted page = false →
    (∀ b ∈ [Block.fltSrc, .upd, .pwr], blockOfPage page ≠ some b) → s.bus.pageAccess page vi = 2 → s.bus.pageUp page = true →
    i < 32 → bitOf i (eventMask page) = true → reportKey (pendKey page) = false →
    ∃ t, exec (.evtPendClear dt vi page mask (2 ^ i)) s = .next t ∧ t.pend page i = true ∧ (s.tick dt).After t [pendKey page]) ∧
  (∀ (dt vi page value : Nat) (s : State), s.page = PageState.init → entryGranted page = false → s.bus.pageAccess page vi = 2 →
    s.bus.pageUp page = true → s.rd (pendKey page) = 0 →
    ∃ t, exec (.evtEnableWrite dt vi page value) s = .next t ∧ t.rd (rk page hdrEvtEnable) = eventMask page &&& value % 2 ^ 32 ∧
      (s.tick dt).After t [rk page hdrEvtEnable]) ∧
  (∀ (dt vi page i : Nat) (s : State), s.page = PageState.init → entryGranted page = false →
    (∀ b ∈ [Block.fltSrc, .upd, .pwr], blockOfPage page ≠ some b) → s.bus.pageAccess page vi = 2 → s.bus.pageUp page = true →
    i < 32 → bitOf i (eventMask page) = true → s.rd (rk page hdrEvtEnable) = 0 → s.pend page i = true →
    exec (.evtEnableWrite dt vi page (2 ^ i)) s = .next (((s.tick dt).wr (rk page hdrEvtEnable) (2 ^ i)).on
      (fun b => b.deliverAll [s.bus.ownerOfPage page] page i (eventNumber page i) none))) ∧
  (∀ (dt vi page i : Nat) (s : State), s.page = PageState.init → entryGranted page = false →
    (∀ b ∈ [Block.fltSrc, .upd, .pwr], blockOfPage page ≠ some b) → s.bus.pageAccess page vi = 2 → s.bus.pageUp page = true →
    i < 32 → bitOf i (eventMask page) = true →
    exec (.evtForce dt vi page (2 ^ i)) s = .next ((s.tick dt).raise page i)) ∧
  (∀ (dt vi : Nat) (s : State), s.page = PageState.init → 1 ≤ vi → vi ≤ 256 → s.bus.pageAccess (viPage vi) vi = 2 →
    s.bus.pageUp (viPage vi) = true → s.bit (rk (viPage vi) R.VI_CTRL) 0 = false →
    ∃ t, exec (.evqEnable dt vi true) s = .next t ∧ t.bit (rk (viPage vi) R.VI_CTRL) 0 = true ∧ t.bus.seq.find 0 vi = 0 ∧
      (∀ v, v ≠ vi → t.bus.seq.find 0 v = s.bus.seq.find 0 v) ∧ (s.tick dt).After t [rk (viPage vi) R.VI_CTRL])

/-- R87 to R89, R383, R500: function-level resets, and the sessions and messages of network VIs. -/
def Obligations.FunctionsResetAndSessionsCarryMessages : Prop :=
  (∀ (dt v : Nat) (s : State), v ≠ 1 → v < 1024 → v ∈ s.bus.enabledVfs → ∃ u : State, exec (.pcieFlr dt v) s = .next (u.raise vimPage 5) ∧
    u.bus.seq.find 0 v = 0 ∧ u.tim.snaps.find? v = none ∧
    (∀ off, off < 4096 → off ≠ R.VI_VEC_BASE → off ≠ R.VI_VEC_COUNT → u.rd (rk (viPage v) off) = resetNat (rk (viPage v) off) % 2 ^ 32) ∧
    (∀ k, keyPage k ≠ viPage v → u.rd k = s.rd k)) ∧
  (∀ (dt v : Nat) (s : State), v ≠ 1 → v ∉ s.bus.enabledVfs → exec (.pcieFlr dt v) s = .next (s.tick dt)) ∧
  (∀ (dt : Nat) (s : State), ∃ t, exec (.vfDisable dt) s = .next t ∧ t.bus.vfEnable = false ∧ t.bus.enabledVfs = []) ∧
  (∀ (dt digest v : Nat) (s : State), s.tlsReady = true → s.bound = true → s.bus.clientVi digest = some v → s.bus.sessions.find? v = none →
    s.bus.netHold.find [] v = [] →
    ∃ u : State, exec (.netSessionOpen dt digest) s = .next (u.raise vimPage 0) ∧ u.bus.sessions.find? v = some ⟨s.bus.now + dt, false⟩ ∧
      (∀ x, x ≠ v → u.bus.sessions.find? x = s.bus.sessions.find? x) ∧
      u.rd (rk vimPage R.VIM_SESSIONS) = (s.rd (rk vimPage R.VIM_SESSIONS) + 1) % 2 ^ 32 ∧
      (∀ k, k ≠ rk vimPage R.VIM_SESSIONS → k ≠ rk (viPage v) R.VI_STATUS → u.rd k = s.rd k)) ∧
  (∀ (dt digest : Nat) (s : State), s.tlsReady = false → exec (.netSessionOpen dt digest) s = .next (s.tick dt)) ∧
  (∀ (dt vi : Nat) (s : State) (x : Session), s.bus.sessions.find? vi = some x →
    ∃ u : State, exec (.netSessionClose dt vi) s = .next (u.raise vimPage 0) ∧ u.bus.sessions.find? vi = none ∧
      (∀ y, y ≠ vi → u.bus.sessions.find? y = s.bus.sessions.find? y) ∧ u.bus.out = .netClosed vi :: s.bus.out ∧
      u.rd (rk vimPage R.VIM_SESSIONS) = s.rd (rk vimPage R.VIM_SESSIONS) - 1) ∧
  (∀ (dt vi : Nat) (s : State) (x : Session), s.bus.sessions.find? vi = some x →
    x.lastRx + clkS (s.fld (rk vimPage R.VIM_NET_CTRL) 16 8) ≤ s.bus.now + dt →
    exec (.netSessionIdleClose dt vi) s = .next ((s.tick dt).closeSession vi)) ∧
  (∀ (dt vi : Nat) (s : State) (x : Session), s.bus.sessions.find? vi = some x →
    s.bus.now + dt < x.lastRx + clkS (s.fld (rk vimPage R.VIM_NET_CTRL) 16 8) →
    exec (.netSessionIdleClose dt vi) s = .next (s.tick dt)) ∧
  (∀ (dt vi tag count addr : Nat) (s : State) (x : Session), s.bus.sessions.find? vi = some x →
    count = 0 ∨ 256 < count ∨ addr % 4 ≠ 0 ∨ 2 ^ 26 < addr + 4 * count →
    ∃ t, exec (.netRead dt vi tag count addr) s = .next t ∧ t.bus.out = .netResp vi tag 4 [] :: s.bus.out ∧
      t.bus.sessions.find? vi = some { x with lastRx := s.bus.now + dt } ∧ ∀ k, t.rd k = s.rd k) ∧
  (∀ (dt vi tag addr : Nat) (s : State) (x : Session), s.page = PageState.init → s.bus.sessions.find? vi = some x → addr % 4 = 0 →
    addr + 4 ≤ 2 ^ 26 →
    ∃ u : State, u = (s.tick dt).on (fun b => { b with sessions := b.sessions.set vi { x with lastRx := s.bus.now + dt } }) ∧
      exec (.netRead dt vi tag 1 addr) s =
        .next ((u.readReg vi vi addr).1.emit (.netResp vi tag (u.readReg vi vi addr).2.2 [(u.readReg vi vi addr).2.1]))) ∧
  (∀ (dt vi tag addr value : Nat) (s : State) (x : Session), s.bus.sessions.find? vi = some x → addr % 4 = 0 → addr + 4 ≤ 2 ^ 26 →
    ∃ u : State, u = (s.tick dt).on (fun b => { b with sessions := b.sessions.set vi { x with lastRx := s.bus.now + dt } }) ∧
      exec (.netWrite dt vi tag addr [value]) s =
        .next ((u.writeReg vi addr value).1.emit (.netResp vi tag (u.writeReg vi addr value).2 [])))

/-! ## Ports and streams (chapter 4) -/

/-- R107, R125, R126, R410: MDIO frames, the links of the management ports and the frames they terminate. R101, R102, R105, R106, R126: the
link of a data port and its pauses. The MDIO opcodes are read as IEEE 802.3 numbers them (log 13). -/
def Obligations.PortsTerminateFramesLinkAndPause : Prop :=
  (∀ (dt vi value : Nat) (s : State), s.bus.pageAccess vimPage vi = 2 → s.bus.pageUp vimPage = true →
    ∃ t, exec (.mdioFrameStart dt vi value) s = .next t ∧ t.rd (vimKey R.MGT_MDIO) = value % 2 ^ 32 ∧
      t.bit (vimKey R.MGT_STATUS) 2 = true ∧ t.bus.out = .mdio (value % 2 ^ 32) :: s.bus.out ∧
      (s.tick dt).After t [vimKey R.MGT_MDIO, vimKey R.MGT_STATUS]) ∧
  (∀ (dt data : Nat) (s : State), s.bit (vimKey R.MGT_STATUS) 2 = true →
    ∃ t, exec (.mdioFrameComplete dt data) s = .next t ∧ t.bit (vimKey R.MGT_STATUS) 2 = false ∧
      t.fld (vimKey R.MGT_MDIO) 16 16 = (if mdioReads (s.rd (vimKey R.MGT_MDIO)) then data % 2 ^ 16 else s.fld (vimKey R.MGT_MDIO) 16 16) ∧
      t.fld (vimKey R.MGT_MDIO) 0 16 = s.fld (vimKey R.MGT_MDIO) 0 16 ∧
      (s.tick dt).After t [vimKey R.MGT_MDIO, vimKey R.MGT_STATUS]) ∧
  (∀ (dt m : Nat) (up : Bool) (s : State), m < 2 → s.bit (vimKey R.MGT_STATUS) m ≠ up →
    exec (.mgtLinkChange dt m up) s = .next (((s.tick dt).setBit (vimKey R.MGT_STATUS) m up).raise vimPage 6)) ∧
  (∀ (dt m : Nat) (frame : List Byte) (s : State), m < 2 → s.bit (vimKey R.MGT_CTRL) m = true → s.bit (vimKey R.MGT_STATUS) m = true →
    s.mgtAccepts m frame = true → exec (.mgtFrameRx dt m frame) s = .next ((s.tick dt).emit (.keeperFrame (512 + m) frame))) ∧
  (∀ (dt m : Nat) (frame : List Byte) (s : State), m < 2 → s.bit (vimKey R.MGT_CTRL) m = true → s.bit (vimKey R.MGT_STATUS) m = true →
    s.mgtAccepts m frame = false → ∃ t, exec (.mgtFrameRx dt m frame) s = .next t ∧
      t.rd (vimKey R.MGT_DROPS) = min (s.rd (vimKey R.MGT_DROPS) + 1) 0xFFFFFFFF ∧ t.bus.out = s.bus.out ∧
      (s.tick dt).After t [vimKey R.MGT_DROPS]) ∧
  (∀ (dt m : Nat) (s : State), m < 2 → exec (.mgtEnergyWake dt m) s = .next ((s.tick dt).wake 3)) ∧
(∀ (dt p : Nat) (s : State), s.bus.Ranged → p < 512 → s.bit (prtKey p hdrPageStatus) 0 = true → s.bit (prtKey p R.PRT_STATUS) 3 = true →
    s.bit (prtKey p R.PRT_STATUS) 0 = false → s.bus.domUp (laneDom p) = true →
    ∃ t, exec (.linkUp dt p) s = .next t ∧ t.bit (prtKey p R.PRT_STATUS) 0 = true ∧
      t.fld (prtKey p R.PRT_STATUS) 4 3 = speedCode (s.portRate p) ∧ t.pend (prtPage p) 0 = true ∧
      (s.tick dt).After t [prtKey p R.PRT_STATUS, pendKey (prtPage p)]) ∧
  (∀ (dt p : Nat) (s : State), p < 512 → s.bit (prtKey p hdrPageStatus) 0 = true → s.bit (prtKey p R.PRT_STATUS) 3 = true →
    exec (.anTrainingFail dt p) s = .next ((s.tick dt).raise (prtPage p) 4)) ∧
  (∀ (dt p : Nat) (s : State), s.bit (prtKey p R.PRT_STATUS) 0 = false → exec (.linkDown dt p) s = .next (s.tick dt)) ∧
  (∀ (dt p : Nat) (s : State), p < 512 → s.bit (prtKey p R.PRT_STATUS) 0 = true →
    ∃ u v : State, u = ((((s.tick dt).setBit (prtKey p R.PRT_STATUS) 0 false).setBit (prtKey p R.PRT_STATUS) 1 false).setFld
        (prtKey p R.PRT_STATUS) 4 3 0).raise (prtPage p) 1 ∧
      v = ((u.flushPort p).killLegs (fun c _ => decide (c.dest = .port p))) ∧
      (v.fld (timKey R.TIM_PTP_CTRL) 8 10 ≠ p →
        exec (.linkDown dt p) s = .next ((List.range 7).foldl (fun a c => a.disarm (tPfc p c)) v))) ∧
  (∀ (dt p : Nat) (s : State), p < 512 →
    exec (.serdesFailure dt p) s = .next (((s.tick dt).fault 32 { page := prtPage p }).linkDown p)) ∧
  (∀ (dt p symbols codewords : Nat) (s : State), s.bus.Ranged → p < 512 → s.bit (prtKey p R.PRT_STATUS) 0 = true →
    s.fld (prtKey p R.PRT_FEC_DEG) 0 24 < symbols →
    ∃ t, exec (.fecDegWindow dt p symbols codewords) s = .next t ∧ t.bit (prtKey p R.PRT_STATUS) 2 = true ∧
      t.rd (prtKey p R.PRT_FEC_CORR) = min (s.rd (prtKey p R.PRT_FEC_CORR) + codewords) 0xFFFFFFFF ∧ t.pend (prtPage p) 2 = true ∧
      (s.tick dt).After t [prtKey p R.PRT_STATUS, prtKey p R.PRT_FEC_CORR, pendKey (prtPage p)]) ∧
  (∀ (dt p symbols codewords : Nat) (s : State), p < 512 → s.bit (prtKey p R.PRT_STATUS) 0 = true →
    symbols ≤ s.fld (prtKey p R.PRT_FEC_DEG) 0 24 →
    ∃ t, exec (.fecDegWindow dt p symbols codewords) s = .next t ∧ t.bit (prtKey p R.PRT_STATUS) 2 = false ∧
      (s.tick dt).After t [prtKey p R.PRT_STATUS, prtKey p R.PRT_FEC_CORR]) ∧
  (∀ (dt p c : Nat) (s : State), (s.tick dt).due (tPfc p c) = true → ∃ t, exec (.pfcPauseExpire dt p c) s = .next t ∧
    t.bus.running (tPfc p c) = false ∧ t = (s.tick dt).disarm (tPfc p c)) ∧
  (∀ (dt p mask : Nat) (s : State), (s.tick dt).due (tXoff p) = true → s.serviceReady = true → s.portUp p = true →
    mask = s.fab.pfcReq.find 0 p &&& s.fld (prtKey p R.PRT_PFC) 8 7 → mask ≠ 0 →
    exec (.pfcXoffRefresh dt p) s = .next (((((s.tick dt).disarm (tXoff p)).sendFrame p
      (pfcFrame (s.portMac p) mask (s.fld (prtKey p R.PRT_PFC) 16 16))).arm (tXoff p)
      (s.quantaClk p (s.fld (prtKey p R.PRT_PFC) 16 16) / 2))))

/-- R102, R103, R108, R122, Table 4-3: a frame that fails a check is counted and discarded; every other frame is counted and takes the
first step of the ingress order that disposes of it. -/
def Obligations.FramesAreCheckedInOrder : Prop :=
  (∀ (dt p : Nat) (f : RxFrame) (s : State), p < 512 → s.portUp p = true → f.fecOk = true → frameLen f.bytes < 64 →
    ∃ t, exec (.frameRx dt p f) s = .next t ∧ t.rd (prtKey p R.PRT_RUNT) = min (s.rd (prtKey p R.PRT_RUNT) + 1) 0xFFFFFFFF ∧
      (s.tick dt).After t [prtKey p R.PRT_RUNT]) ∧
  (∀ (dt p : Nat) (f : RxFrame) (s : State), p < 512 → s.portUp p = true → f.fecOk = true → 64 ≤ frameLen f.bytes → f.begun = false →
    s.fld (prtKey p R.PRT_MTU) 0 14 < frameLen f.bytes →
    ∃ t, exec (.frameRx dt p f) s = .next t ∧ t.rd (prtKey p R.PRT_OVERSIZE) = min (s.rd (prtKey p R.PRT_OVERSIZE) + 1) 0xFFFFFFFF ∧
      (s.tick dt).After t [prtKey p R.PRT_OVERSIZE]) ∧
  (∀ (dt p : Nat) (f : RxFrame) (s : State), p < 512 → s.portUp p = true → f.fecOk = true → 64 ≤ frameLen f.bytes → f.begun = false →
    frameLen f.bytes ≤ s.fld (prtKey p R.PRT_MTU) 0 14 → f.fcsOk = false →
    ∃ t, exec (.frameRx dt p f) s = .next t ∧ t.rd (prtKey p R.PRT_FCS_ERR) = min (s.rd (prtKey p R.PRT_FCS_ERR) + 1) 0xFFFFFFFF ∧
      (s.tick dt).After t [prtKey p R.PRT_FCS_ERR]) ∧
  (∀ (dt p : Nat) (f : RxFrame) (s : State), s.bus.Ranged → p < 512 → s.portUp p = true → f.fecOk = false → f.begun = false →
    ∃ t, exec (.frameRx dt p f) s = .next t ∧ t.rd (prtKey p R.PRT_FEC_UNCORR) = min (s.rd (prtKey p R.PRT_FEC_UNCORR) + 1) 0xFFFFFFFF ∧
      t.pend (prtPage p) 3 = true ∧ (s.tick dt).After t [prtKey p R.PRT_FEC_UNCORR, pendKey (prtPage p)]) ∧
  (∀ (dt p : Nat) (f : RxFrame) (s : State), p < 512 → s.portUp p = true → f.fecOk = true → f.fcsOk = true → 64 ≤ frameLen f.bytes →
    frameLen f.bytes ≤ s.fld (prtKey p R.PRT_MTU) 0 14 →
    exec (.frameRx dt p f) s = .next ((((s.tick dt).add64 (prtKey p R.PRT_RX_FRAMES_LO) 1).add64 (prtKey p R.PRT_RX_BYTES_LO)
      (frameLen f.bytes)).ingress p f.bytes)) ∧
  (∀ (dt p : Nat) (f : RxFrame) (s : State), s.portUp p = false → exec (.frameRx dt p f) s = .next (s.tick dt)) ∧
  (∀ (p : Nat) (l : List Byte) (s : State), s.serviceReady = true → (parseFrame l).dst = 0x0180C2000001 → (parseFrame l).etype = 0x8808 →
    s.classify p l = .pfc) ∧
  (∀ (p : Nat) (l : List Byte) (s : State), s.classify p l = .bootDrop →
    s.ingress p l = (s.addSat (prtKey p R.PRT_BOOT_DROP) 1).raise (prtPage p) 7) ∧
  (∀ (p : Nat) (l : List Byte) (s : State), s.classify p l = .vlanDrop →
    s.ingress p l = (s.addSat (prtKey p R.PRT_VLAN_DROP) 1).raise (prtPage p) 6) ∧
  (∀ (p : Nat) (l : List Byte) (s : State), s.classify p l = .reserved →
    s.ingress p l = s.addSat (prtKey p R.PRT_PARSE_DROP) 1)

/-- R114, R115, R117, R166, R501: the commands of the stream table and of the groups, on a page whose domain is up. A READ copies the
selected entry, a WRITE that nothing refuses installs the staged words, a refused one says why, one that must wait stays BUSY. The reading
of who may READ is the model's (log 12). -/
def Obligations.StreamTableCommandsReadInstallAndRefuse : Prop :=
  (∀ (dt vi page i : Nat) (s : State) (e : StrEntry), page < 16 → vi < 1024 → (s.bus.physOf .str vi (page * 4096)).isSome = true →
    s.bus.pageUp (Block.str.pg page) = true → s.strSel vi page = some i → s.str.entries.find? i = some e →
    ∃ t, exec (.strRead dt vi page) s = .next t ∧
      (∀ k, k < 16 → t.rd (strReg vi page (R.STR_D + 4 * k)) = e.w.getD k 0 % 2 ^ 32) ∧
      t.rd (strReg vi page R.STR_CNT_MATCH) = e.matched % 2 ^ 32 ∧ t.rd (strReg vi page R.STR_CNT_RED) = e.red % 2 ^ 32 ∧
      t.rd (strReg vi page R.STR_CNT_DUP) = e.dup % 2 ^ 32 ∧ t.rd (strReg vi page R.STR_CNT_CHECK) = e.check % 2 ^ 32 ∧
      t.rd (strReg vi page R.STR_STATUS) = 0 ∧ t.str = s.str) ∧
  (∀ (dt vi page : Nat) (s : State), page < 16 → (s.bus.physOf .str vi (page * 4096)).isSome = true →
    s.bus.pageUp (Block.str.pg page) = true → s.strSel vi page = none →
    exec (.strRead dt vi page) s = .next ((s.tick dt).strRefuse vi page 5) ∧
    exec (.strWrite dt vi page) s = .next ((s.tick dt).strRefuse vi page 5) ∧
    exec (.strWriteKeep dt vi page) s = .next ((s.tick dt).strRefuse vi page 5)) ∧
  (∀ (dt vi page i : Nat) (s : State) (w : List Nat), page < 16 → (s.bus.physOf .str vi (page * 4096)).isSome = true →
    s.bus.pageUp (Block.str.pg page) = true → s.strSel vi page = some i → s.bus.access .str i vi = 2 →
    w = (List.range 16).map (fun k => s.rd (strReg vi page (R.STR_D + 4 * k))) →
    s.strReason vi i ((s.tick dt).makeEntry vi w) = 0 → s.str.moves.cells = [] → s.str.waits = [] →
    exec (.strWrite dt vi page) s = .next ((s.tick dt).strInstall ⟨vi, page, i, w, false⟩) ∧
    exec (.strWriteKeep dt vi page) s = .next ((s.tick dt).strInstall ⟨vi, page, i, w, true⟩)) ∧
  (∀ (dt vi page i : Nat) (s : State) (w : List Nat), page < 16 → (s.bus.physOf .str vi (page * 4096)).isSome = true →
    s.bus.pageUp (Block.str.pg page) = true → s.strSel vi page = some i → s.bus.access .str i vi = 2 →
    w = (List.range 16).map (fun k => s.rd (strReg vi page (R.STR_D + 4 * k))) →
    s.strReason vi i ((s.tick dt).makeEntry vi w) = 0 → (s.str.moves.find? i).isSome = true →
    ∃ t, exec (.strWrite dt vi page) s = .next t ∧ t.bit (strReg vi page R.STR_STATUS) 0 = true ∧
      t.str = { s.str with waits := s.str.waits ++ [⟨vi, page, i, w, false⟩] } ∧
      ({ s.tick dt with str := t.str } : State).After t [strReg vi page R.STR_STATUS]) ∧
  (∀ (dt vi page i : Nat) (s : State) (w : StrWait), s.str.waits = [w] → w.vi = vi → w.page = page → w.entry = i →
    s.str.moves.cells = [] →
    exec (.strWriteSlotWaitEnd dt vi page) s = .next (({ s.tick dt with str := { s.str with waits := [] } } : State).strInstall w)) ∧
  (∀ (dt vi page i : Nat) (s : State) (w : StrWait), s.str.waits = [w] → w.vi = vi → w.page = page → w.entry = i →
    (s.str.moves.find? i).isSome = true → exec (.strWriteSlotWaitEnd dt vi page) s = .next (s.tick dt)) ∧
  (∀ (dt vi page g : Nat) (s : State), page < 16 → vi < 1024 → (s.bus.physOf .str vi (page * 4096)).isSome = true →
    s.bus.pageUp (Block.str.pg page) = true → s.grpSel vi page = some g →
    ∃ t, exec (.grpRead dt vi page) s = .next t ∧
      (∀ k, k < 16 → t.rd (strReg vi page (R.GRP_STATIC + 4 * k)) = fieldOf (32 * k) 32 (s.grp g).static) ∧
      t.rd (strReg vi page R.GRP_LOCAL) = ((s.grp g).kind + (s.grp g).index * 8) % 2 ^ 32 ∧ t.str = s.str) ∧
  (∀ (dt vi page g : Nat) (s : State), page < 16 → (s.bus.physOf .str vi (page * 4096)).isSome = true →
    s.bus.pageUp (Block.str.pg page) = true → s.grpSel vi page = some g → s.bus.access .str g vi = 2 →
    s.fld (strReg vi page R.GRP_LOCAL) 0 3 = 0 →
    ∃ t, exec (.grpWrite dt vi page) s = .next t ∧ (t.grp g).kind = 0 ∧ (t.grp g).dyn = (s.grp g).dyn ∧
      (t.grp g).static = (List.range 16).foldl (fun a k => a + s.rd (strReg vi page (R.GRP_STATIC + 4 * k)) * 2 ^ (32 * k)) 0 ∧
      (∀ h, h ≠ g → t.grp h = s.grp h) ∧
      ({ s.tick dt with str := { s.str with groups := t.str.groups } } : State).After t [strReg vi page R.STR_STATUS])

/-- R117, R121: reports, queries and time on a snooping port, and the silence of a merge pair's leg and of the pair. -/
def Obligations.SnoopingAndMergePairsFollowTraffic : Prop :=
  (∀ (dt p group g : Nat) (v6 : Bool) (src : Option Nat) (frame : List Byte) (s : State), p < 512 → s.bit (prtKey p R.PRT_CTRL) 4 = true →
    s.snoopGroup group v6 src = some g →
    exec (.snoopReport dt p group v6 (.join src) frame) s =
      .next ((((s.tick dt).setGrp g { s.grp g with dyn := setBitOf p true (s.grp g).dyn }).arm (tGmi g p) (s.gmi p)).toRouters p frame)) ∧
  (∀ (dt p group g : Nat) (v6 : Bool) (src : Option Nat) (frame : List Byte) (s : State), p < 512 → s.bit (prtKey p R.PRT_CTRL) 4 = true →
    s.bit (prtKey p R.PRT_CTRL) 5 = true → s.snoopGroup group v6 src = some g →
    exec (.snoopReport dt p group v6 (.leave src) frame) s =
      .next ((((s.tick dt).setGrp g { s.grp g with dyn := setBitOf p false (s.grp g).dyn }).disarm (tGmi g p)).toRouters p frame)) ∧
  (∀ (dt p group : Nat) (v6 : Bool) (src : Option Nat) (frame : List Byte) (s : State), p < 512 → s.bit (prtKey p R.PRT_CTRL) 4 = true →
    s.snoopGroup group v6 src = none →
    exec (.snoopReport dt p group v6 (.join src) frame) s = .next (((s.tick dt).raise (Block.str.pg 0) 3).toRouters p frame)) ∧
  (∀ (dt p group : Nat) (v6 : Bool) (kind : SnoopKind) (frame : List Byte) (s : State), s.bit (prtKey p R.PRT_CTRL) 4 = false →
    exec (.snoopReport dt p group v6 kind frame) s = .next (s.tick dt)) ∧
  (∀ (dt p : Nat) (s : State), p < 512 → s.bit (prtKey p R.PRT_CTRL) 4 = true → ∃ t, exec (.snoopQuery dt p) s = .next t ∧
    bitOf p t.str.routers = true ∧ t.bus.timers.find? (tRouter p) = some (s.bus.now + dt + s.gmi p) ∧
    t = ({ s.tick dt with str := { s.str with routers := t.str.routers } } : State).arm (tRouter p) (s.gmi p)) ∧
  (∀ (dt p g : Nat) (s : State), (s.tick dt).due (tGmi g p) = true → ∃ t, exec (.snoopGmiExpire dt p (some g)) s = .next t ∧
    bitOf p (t.grp g).dyn = false ∧ (∀ q, q ≠ p → bitOf q (t.grp g).dyn = bitOf q (s.grp g).dyn) ∧
    t = ({ s.tick dt with str := { s.str with groups := t.str.groups } } : State).disarm (tGmi g p)) ∧
  (∀ (dt p : Nat) (s : State), (s.tick dt).due (tRouter p) = true → ∃ t, exec (.snoopGmiExpire dt p none) s = .next t ∧
    bitOf p t.str.routers = false ∧ t = ({ s.tick dt with str := { s.str with routers := t.str.routers } } : State).disarm (tRouter p)) ∧
  (∀ (dt i : Nat) (s : State) (p : Pair) (e : StrEntry), s.pairOf i = some (i, p) → s.str.entries.find? i = some e → p.lostA = false →
    p.lastA + e.silent ≤ s.bus.now + dt → p.lastA < p.lastB →
    exec (.mergeLegSilent dt i) s = .next (((s.tick dt).setPair i { p with lostA := true }).strEvent i 0)) ∧
  (∀ (dt i k : Nat) (s : State) (p : Pair) (e : StrEntry), s.pairOf i = some (k, p) → s.str.entries.find? i = some e →
    s.bus.now + dt < p.lastOut + e.silent → exec (.mergePairSilent dt i) s = .next (s.tick dt)) ∧
  (∀ (dt i k : Nat) (s : State) (p : Pair) (e : StrEntry), s.pairOf i = some (k, p) → s.str.entries.find? i = some e →
    p.lastOut + e.silent ≤ s.bus.now + dt → ∃ t, exec (.mergePairSilent dt i) s = .next t ∧
      t.str.pairs.find? k = some { p with newest := none, seen := [] } ∧
      (∀ j, j ≠ k → t.str.pairs.find? j = s.str.pairs.find? j) ∧ t = { s.tick dt with str := { s.str with pairs := t.str.pairs } })

/-! ## The switch core, wells and rings (chapters 5 and 6) -/

/-- R136 to R138: what a matching is: every match is a request of this cell time, no output is matched twice, and the outputs that one
input serves take one and the same cell. -/
def Obligations.CrossbarMatchingIsConflictFree : Prop :=
  ∀ s : State, (∀ r ∈ s.matching.1, r ∈ s.requests) ∧ s.matching.1.Pairwise (fun a b => a.out ≠ b.out) ∧
    (∀ a ∈ s.matching.1, ∀ b ∈ s.matching.1, a.inp = b.inp → a.id = b.id ∧ a.cell = b.cell)

/-- R131, R132, R136, R140, R148, R156, R165: a cell time, the isolation of planes, a dequeue at a host port, the cisterns' counters and
the end of a move that timed out. -/
def Obligations.SwitchCoreMovesCellsAndIsolatesPlanes : Prop :=
  (∀ (dt : Nat) (cell : CellTime) (s : State), s.bus.domRuns 10 = true → cell.linkLost = [] → cell.freeOne = 0 → cell.freeBoth = false →
    cell.parityErr = false →
    ∃ s1, s1 = { s.tick dt with fab := { s.fab with grantPtr := s.matching.2.1, acceptPtr := s.matching.2.2 } } ∧
      exec (.crossbarCellTime dt cell) s = .next (s.matching.1.foldl
        (fun a r => a.crossCell r ((cell.sliceErrs.filter (fun e => decide (e.1 = r.out))).flatMap (·.2))) s1)) ∧
  (∀ (dt : Nat) (cell : CellTime) (s : State), s.bus.domRuns 10 = true → cell.linkLost = [] → cell.freeOne = 0 → cell.freeBoth = false →
    cell.parityErr = true → exec (.crossbarCellTime dt cell) s = .next ((s.tick dt).fault 46 { page := fabPage })) ∧
  (∀ (dt : Nat) (cell : CellTime) (s : State), s.bus.domRuns 10 = true → cell.linkLost = [] → cell.freeOne = 0 → cell.freeBoth = true →
    exec (.crossbarCellTime dt cell) s = .next (((s.tick dt).fault 39 { page := fabPage }).on (·.haltDoms [10]))) ∧
  (∀ (dt : Nat) (cell : CellTime) (s : State), s.bus.domRuns 10 = false → exec (.crossbarCellTime dt cell) s = .next (s.tick dt)) ∧
  (∀ (iso : Option Nat) (p : Nat), p < 9 → iso ≠ some p → cellFate iso [p] = (if iso = none then 1 else 2)) ∧
  (∀ (dt vi value : Nat) (s : State), s.bus.pageAccess fabPage vi = 2 → s.bus.pageUp fabPage = true → bitOf 8 value = true →
    value % 16 < 9 → s.isoPlane = none → s.fab.isoPend = none →
    exec (.planeForce dt vi value) s = .next { s.tick dt with fab := { s.fab with isoPend := some (value % 16) } }) ∧
  (∀ (dt vi value q : Nat) (s : State), s.bus.pageAccess fabPage vi = 2 → s.bus.pageUp fabPage = true → bitOf 8 value = true →
    value % 16 < 9 → s.isoPlane = some q → q ≠ value % 16 → s.fab.isoPend = none →
    exec (.planeForce dt vi value) s =
      .next (((s.tick dt).fault 43 { page := fabPage, engine := value % 16 }).on (·.haltDoms [10]))) ∧
  (∀ (dt p : Nat) (s : State), s.fab.isoPend = some p → p < 9 →
    ∃ s1 : State, exec (.planeIsolationComplete dt) s = .next ((s1.fault 40 { page := fabPage, engine := p }).raise fabPage 0) ∧
      s1.isoPlane = some p ∧ s1.bit (fabKey R.FAB_STATUS) p = false ∧
      ({ s.tick dt with fab := { s.fab with isoPend := none } } : State).After s1 [fabKey R.FAB_STATUS]) ∧
  (∀ (dt out : Nat) (s : State) (x : Queued), 64 ≤ out → out < 72 → s.bus.domRuns 10 = true → s.fab.sending.find? (512 + out) = none →
    s.pickStrict out = some x → (s.tick dt).dequeueStale x.pkt = false → x.pkt.stream = none → x.copy.dest = .val → x.cut = false →
    cellsOf (frameLen x.pkt.bytes) ≤ x.got →
    ∃ s2, s2 = (s.tick dt).takeOut x ∧ exec (.packetDequeue dt out 0) s = .next { s2 with fab := { s2.fab with
      sending := s2.fab.sending.set (512 + out)
        ⟨(s.bus.now + dt) * 2000 + (frameLen x.pkt.bytes + 20) * 80 / 8, x.copy.cls⟩
      valIn := s2.fab.valIn ++ [x.pkt] } }) ∧
  (∀ (dt vi n : Nat) (s : State), n < 72 → s.bus.pageAccess (cisPage n) vi = 2 → s.bus.pageUp (cisPage n) = true →
    ∃ t, exec (.cisPeakClr dt vi n) s = .next t ∧ t.rd (rk (cisPage n) R.CIS_PEAK) = s.rd (rk (cisPage n) R.CIS_USED) ∧
      (s.tick dt).After t [rk (cisPage n) R.CIS_PEAK]) ∧
  (∀ (dt vi n sel : Nat) (s : State), n < 72 → s.bus.pageAccess (cisPage n) vi = 2 → s.bus.pageUp (cisPage n) = true →
    sel = s.fld (rkVi (cisPage n) R.CIS_CNT_SEL vi) 0 6 →
    ∃ t, exec (.cisCntClr dt vi n) s = .next t ∧
      (∀ off ∈ [R.CIS_CNT_ADMIT, R.CIS_CNT_RED_G, R.CIS_CNT_RED_Y, R.CIS_CNT_RED_R, R.CIS_CNT_TAIL, R.CIS_CNT_STALE, R.CIS_CNT_CUT,
        R.CIS_CNT_BAD, R.CIS_CNT_FLUSH], t.rd (rkSel (cisPage n) off sel) = 0) ∧
      (s.tick dt).After t ([R.CIS_CNT_ADMIT, R.CIS_CNT_RED_G, R.CIS_CNT_RED_Y, R.CIS_CNT_RED_R, R.CIS_CNT_TAIL, R.CIS_CNT_STALE,
        R.CIS_CNT_CUT, R.CIS_CNT_BAD, R.CIS_CNT_FLUSH].map (fun off => rkSel (cisPage n) off sel))) ∧
  (∀ (dt i : Nat) (s : State) (m : Move), (s.tick dt).due (tMove i) = true → s.str.moves.find? i = some m →
    (s.queue m.old).filter (fun x => decide (x.pkt.stream = some i)) = [] →
    exec (.moveTimeout dt i) s = .next (((s.tick dt).disarm (tMove i)).endMove i 1))

/-- R167, R170, R175: the owner's commands to a host ring while CTL is up. A producer index within the ring is accepted, one beyond it sets
DB_ERR, one for a disabled ring is ignored with EV196; enabling resets the indices and starts the ring, disabling stops it. R168, R171 to
R173, R179, R180, Table 6-5: the pumps' work and the loss of the PCIe link. -/
def Obligations.RingsArePostedAndPumpsComplete : Prop :=
  (∀ (dt vi r value p : Nat) (s : State), r < 16384 → s.bus.access .hqr r vi = 2 → s.bus.pageUp (ringPage r) = true →
    s.serviceReady = true → s.ringEn r = true → s.ringRx r = true → p = value % 65536 →
    (p + 65536 - s.pOld r) % 65536 ≤ (s.ringComp r + s.ringSize r + 65536 - s.pOld r) % 65536 →
    ∃ t, exec (.hqrDoorbell dt vi r value) s = .next t ∧ t.pOld r = p ∧ (s.tick dt).After t [ringKey r R.HQR_DB]) ∧
  (∀ (dt vi r value p : Nat) (s : State), r < 16384 → s.bus.access .hqr r vi = 2 → s.bus.pageUp (ringPage r) = true →
    s.serviceReady = true → s.ringEn r = true → p = value % 65536 →
    (s.ringComp r + s.ringSize r + 65536 - s.pOld r) % 65536 < (p + 65536 - s.pOld r) % 65536 →
    exec (.hqrDoorbell dt vi r value) s = .next ((((s.tick dt).setBit (ringKey r R.HQR_STATUS) 3 true).setBit
      (rk (ringPage r) R.HQR_ERR_PEND) (r % 16) true).raiseEntry .hqr 1 r)) ∧
  (∀ (dt vi r value : Nat) (s : State), r < 16384 → s.bus.access .hqr r vi = 2 → s.bus.pageUp (ringPage r) = true → s.ringEn r = false →
    exec (.hqrDoorbell dt vi r value) s = .next ((s.tick dt).raiseEntry .hqr 4 r)) ∧
  (∀ (dt vi r ctrl : Nat) (s : State), r < 16384 → s.bus.access .hqr r vi = 2 → s.bus.pageUp (ringPage r) = true →
    s.bit (ringKey r R.HQR_STATUS) 0 = false → bitOf 2 ctrl = true ∨ (1 ≤ s.ringOwner r ∧ s.ringOwner r ≤ 256) → 4 ≤ fieldOf 4 4 ctrl →
    ∃ t, exec (.hqrEnable dt vi r ctrl) s = .next t ∧ t.ringEn r = true ∧ t.pOld r = 0 ∧ t.cons r = 0 ∧ t.ringComp r = 0 ∧
      t.ringRuns r = true ∧ t.ringSize r = 2 ^ fieldOf 4 4 ctrl ∧
      (s.tick dt).After t [ringKey r R.HQR_CTRL, ringKey r R.HQR_DB, ringKey r R.HQR_IDX, ringKey r R.HQR_STATUS]) ∧
  (∀ (dt vi r ctrl : Nat) (s : State), r < 16384 → s.bus.access .hqr r vi = 2 → s.bus.pageUp (ringPage r) = true →
    s.bit (ringKey r R.HQR_STATUS) 0 = true → exec (.hqrEnable dt vi r ctrl) s = .next ((s.tick dt).cfgErrEntry .hqr r)) ∧
  (∀ (dt vi r ctrl : Nat) (s : State), r < 16384 → s.bus.access .hqr r vi = 2 → s.bus.pageUp (ringPage r) = true → 4 ≤ fieldOf 4 4 ctrl →
    ∃ t, exec (.hqrDisable dt vi r ctrl []) s = .next t ∧ t.ringEn r = false ∧ t.bit (ringKey r R.HQR_STATUS) 0 = false ∧
      (s.tick dt).After t [ringKey r R.HQR_CTRL, ringKey r R.HQR_STATUS]) ∧
  (∀ (dt r : Nat) (s : State), r < 16384 → s.ringEn r = false → s.bit (ringKey r R.HQR_STATUS) 0 = true →
    s.pumps.fetched.find? r = none → ∃ t, exec (.hqrStopComplete dt r) s = .next t ∧ t.bit (ringKey r R.HQR_STATUS) 0 = false ∧
      ({ s.tick dt with pumps := { s.pumps with fetched := s.pumps.fetched.erase r } } : State).After t [ringKey r R.HQR_STATUS]) ∧
  (∀ (dt vi r v off : Nat) (s : State), r < 16384 → s.bus.access .hqr r vi = 2 → s.bus.pageUp (ringPage r) = true →
    off = s.fld (ringKey r R.HQR_MEM_ADDR) 2 22 * 4 → s.inWindow r off 4 = true →
    ∃ t, exec (.hqrMemDataAccess dt vi r (some v)) s = .next t ∧ t.storeRead (s.storeAddr r off) 4 = leBytes 4 v ∧
      (∀ a, a < s.storeAddr r off ∨ s.storeAddr r off + 4 ≤ a → t.str.rstore.find 0 a = s.str.rstore.find 0 a) ∧
      t.fld (ringKey r R.HQR_MEM_ADDR) 2 22 = (off / 4 + 1) % 2 ^ 22 ∧
      ({ s.tick dt with str := { s.str with rstore := t.str.rstore } } : State).After t [ringKey r R.HQR_MEM_ADDR]) ∧
  (∀ (dt vi r off : Nat) (s : State), r < 16384 → s.bus.access .hqr r vi = 2 → s.bus.pageUp (ringPage r) = true →
    off = s.fld (ringKey r R.HQR_MEM_ADDR) 2 22 * 4 → s.inWindow r off 4 = false →
    ∃ t, exec (.hqrMemDataAccess dt vi r none) s = .next t ∧ t.bus.out = .readData vi 0 :: s.bus.out ∧
      t.bit (ringKey r R.HQR_STATUS) 5 = true ∧ (s.tick dt).After t [ringKey r R.HQR_MEM_ADDR, ringKey r R.HQR_STATUS]) ∧
(∀ (dt pump r len : Nat) (mem : RingMem) (s s0 s1 : State) (w : List Nat), pump < 16 → s.pumpUp pump = true →
    s.pumps.txFree.find 0 pump < (s.bus.now + dt) * 2000 + 2000 → s.nextTx pump = some r →
    s0 = { s.tick dt with pumps := { s.pumps with rr := s.pumps.rr.put 0 pump ((r + 1) % 1024) } } → s0.fetchDesc r mem = some w →
    s1 = s0.takeDesc r → len = w.getD 2 0 % 65536 → len = 0 →
    exec (.hqrTxDescriptor dt pump mem) s = .next (s1.completeDesc r 2 0 (bitOf 16 (w.getD 2 0)) none none true)) ∧
  (∀ (dt pump r len ph cls free : Nat) (mem : RingMem) (s s0 s1 s2 s3 : State) (w : List Nat), pump < 16 → s.pumpUp pump = true →
    s.pumps.txFree.find 0 pump < (s.bus.now + dt) * 2000 + 2000 → s.nextTx pump = some r →
    s0 = { s.tick dt with pumps := { s.pumps with rr := s.pumps.rr.put 0 pump ((r + 1) % 1024) } } → s0.fetchDesc r mem = some w →
    s1 = s0.takeDesc r → len = w.getD 2 0 % 65536 → len ≠ 0 → w.getD 2 0 / 2 ^ 17 = 0 → w.getD 3 0 / 2 ^ 23 = 0 →
    fieldOf 0 2 (w.getD 3 0) = 1 → cls = fieldOf 2 3 (w.getD 3 0) → cls ≠ 7 →
    s1.ownedDest (s1.ringOwner r) 1 (fieldOf 7 16 (w.getD 3 0)) = some ph → s1.pathDown r 1 ph = false →
    len ≤ s1.fld (ringKey r R.HQR_BUFSZ) 0 14 → mem.bufOk = true → s1.ringLocal r = false →
    s2 = s1.txFrame r pump 1 ph cls (fieldOf 5 2 (w.getD 3 0)) (mem.buf.take len) →
    s3 = (s2.addWrap (rk (pmpPage pump) R.PMP_TX_PKTS) 1).add64 (rk (pmpPage pump) R.PMP_TX_BYTES_LO) len →
    free = max (s.pumps.txFree.find 0 pump) ((s.bus.now + dt) * 2000) + pumpTime len (s.fld (rk (pmpPage pump) R.PMP_RATE_TX) 0 24) →
    exec (.hqrTxDescriptor dt pump mem) s =
      .next (({ s3 with pumps := { s3.pumps with txFree := s3.pumps.txFree.put 0 pump free } } : State).completeDesc r 0 len (bitOf 16 (w.getD 2 0)) none (some (s.tick dt).bus.w250) true)) ∧
  (∀ (dt pump : Nat) (mem : RingMem) (s : State), s.nextTx pump = none → exec (.hqrTxDescriptor dt pump mem) s = .next (s.tick dt)) ∧
  (∀ (dt pump r : Nat) (mem : RingMem) (s : State) (x : Queued) (rest : List (Nat × Queued)), pump < 16 → s.pumpUp pump = true →
    s.pumps.rxFree.find 0 pump < (s.bus.now + dt) * 2000 + 2000 → s.fab.pumpIn.find [] pump = (r, x) :: rest → s.ringRuns r = false →
    exec (.hqrRxFrame dt pump mem) s = .next ((({ s.tick dt with
      fab := { s.fab with pumpIn := s.fab.pumpIn.put [] pump rest } } : State).noBuf r).rewatch pump)) ∧
  (∀ (dt pump r n free : Nat) (mem : RingMem) (s s1 s2 s3 : State) (x : Queued) (rest : List (Nat × Queued)) (w : List Nat), pump < 16 →
    s.pumpUp pump = true → s.pumps.rxFree.find 0 pump < (s.bus.now + dt) * 2000 + 2000 →
    s.fab.pumpIn.find [] pump = (r, x) :: rest → s.ringRuns r = true → s.ringRx r = true → s.pOld r ≠ s.cons r →
    s.ringLocal r = false → s.bus.pcieUp = true → s.fetchDesc r mem = some w → w.getD 2 0 % 65536 ≠ 0 → mem.bufOk = true →
    n = min (w.getD 2 0 % 65536) (s.fld (ringKey r R.HQR_BUFSZ) 0 14) →
    s1 = ({ s.tick dt with fab := { s.fab with pumpIn := s.fab.pumpIn.put [] pump rest } } : State).takeDesc r →
    s2 = s1.ringBytes r (w.getD 0 0 + w.getD 1 0 * 2 ^ 32) (x.pkt.bytes.take n) →
    s3 = (s2.addWrap (rk (pmpPage pump) R.PMP_RX_PKTS) 1).add64 (rk (pmpPage pump) R.PMP_RX_BYTES_LO) (x.pkt.bytes.take n).length →
    free = max (s.pumps.rxFree.find 0 pump) ((s.bus.now + dt) * 2000)
      + pumpTime (x.pkt.bytes.take n).length (s.fld (rk (pmpPage pump) R.PMP_RATE_RX) 0 24) →
    exec (.hqrRxFrame dt pump mem) s =
      .next (({ s3 with pumps := { s3.pumps with rxFree := s3.pumps.rxFree.put 0 pump free } } : State).completeDesc r
      (if n < x.pkt.bytes.length then 1 else 0) (x.pkt.bytes.take n).length (bitOf 16 (w.getD 2 0)) (some (s.rxWord3 r x))
      (some x.pkt.ta) true)) ∧
  (∀ (dt : Nat) (s : State), s.bus.Ranged → ∃ t, exec (.pcieLinkLoss dt) s = .next t ∧ t.bus.pcieUp = false ∧
    (∀ p, p < 16 → t.bit (rk (pmpPage p) R.PMP_STATUS) 1 = true) ∧ t = { s.tick dt with bus := t.bus }) ∧
  (∀ (dt : Nat) (s : State), ∃ t, exec (.pcieLinkRetrained dt) s = .next t ∧ t.bus.pcieUp = true ∧
    (∀ p, p < 16 → t.bit (rk (pmpPage p) R.PMP_STATUS) 1 = false) ∧
    (∀ k, (∀ p, p < 16 → k ≠ rk (pmpPage p) R.PMP_STATUS) → t.rd k = s.rd k) ∧ t = { s.tick dt with bus := t.bus }) ∧
  (∀ (dt pump : Nat) (s : State), (s.tick dt).due (tHang pump) = true → s.ringsPosted pump ≠ [] → s.pumps.fetched.cells = [] →
    exec (.pumpHang dt pump) s =
      .next ((((s.tick dt).disarm (tHang pump)).fault 53 { page := pmpPage pump, engine := pump }).watchPump pump))

/-! ## Frame stores, canvases and tiles (chapter 7) -/

/-- R188, R191: enabling a frame store reserves its blocks or is refused with NOSPACE, NOENGINE or OVERLOAD; an enabled store's FS_CTRL
fields are refused; a disabled store's blocks return once no buffer of it is held. R189, R192, R193: what a packet, the end of a frame and
a decode do to a frame store. The layout of an RTP payload is that of RFC 4175 and RFC 9134 (log 55). -/
def Obligations.FrameStoresReserveCaptureAndDecode : Prop :=
  (∀ (dt vi j value : Nat) (s s1 : State), j < 1024 → s.bus.access .win j vi = 2 → s.bus.pageUp (winPage j) = true → s.fsEn j = false →
    s1 = (s.tick dt).wr (fsReg j R.FS_CTRL) (maskOf 0x0000FF7F (value / 2 * 2 + 1)) →
    s1.fsBlocks j ≤ s1.poolFree (s1.fsDie j) + (s1.store j).blocks → (s1.fsCoded j = true → (s1.engineFor (s1.fsDie j) j).isSome) →
    (s1.storesOn (s1.fsDie j) j).foldl (fun n i => n + s1.fsLoad i) 0 + s1.fsLoad j ≤ 64000000000000 →
    ∃ t, exec (.fsEnable dt vi j value) s = .next t ∧ t.fsEn j = true ∧ t.bit (fsReg j R.FS_STATUS) 0 = true ∧
      t.bit (fsReg j R.FS_STATUS) 1 = false ∧ t.bit (fsReg j R.FS_STATUS) 2 = false ∧ t.bit (fsReg j R.FS_STATUS) 3 = false ∧
      (t.store j).blocks = s1.fsBlocks j ∧ (t.store j).newest = none ∧ (t.store j).cur = none ∧
      (t.store j).engine = (if s1.fsCoded j then s1.engineFor (s1.fsDie j) j else none) ∧
      (∀ i, i ≠ j → t.store i = s.store i)) ∧
  (∀ (dt vi j value : Nat) (s s1 : State), j < 1024 → s.bus.access .win j vi = 2 → s.bus.pageUp (winPage j) = true → s.fsEn j = false →
    s1 = (s.tick dt).wr (fsReg j R.FS_CTRL) (maskOf 0x0000FF7F (value / 2 * 2 + 1)) →
    s1.poolFree (s1.fsDie j) + (s1.store j).blocks < s1.fsBlocks j ∨ (s1.fsCoded j = true ∧ s1.engineFor (s1.fsDie j) j = none) ∨
      64000000000000 < (s1.storesOn (s1.fsDie j) j).foldl (fun n i => n + s1.fsLoad i) 0 + s1.fsLoad j →
    ∃ u : State, exec (.fsEnable dt vi j value) s = .next (u.cfgErrEntry .win j) ∧ u.fsEn j = false ∧
      (u.bit (fsReg j R.FS_STATUS) 1 = true ↔ s1.poolFree (s1.fsDie j) + (s1.store j).blocks < s1.fsBlocks j) ∧
      (u.bit (fsReg j R.FS_STATUS) 2 = true ↔ s1.fsCoded j = true ∧ s1.engineFor (s1.fsDie j) j = none) ∧
      u.comp = s.comp ∧ (s.tick dt).After u [fsReg j R.FS_CTRL, fsReg j R.FS_STATUS]) ∧
  (∀ (dt vi j value : Nat) (s : State), j < 1024 → s.bus.access .win j vi = 2 → s.bus.pageUp (winPage j) = true → s.fsEn j = true →
    maskOf 0x0000FF7F (value / 2 * 2 + 1) / 2 ≠ s.rd (fsReg j R.FS_CTRL) / 2 →
    exec (.fsEnable dt vi j value) s = .next ((s.tick dt).cfgErrEntry .win j)) ∧
  (∀ (dt vi j : Nat) (s : State), j < 1024 → s.bus.access .win j vi = 2 → s.bus.pageUp (winPage j) = true → s.fsEn j = true →
    s.rd (fsReg j R.FS_CTRL) &&& 0x0000FF7F = s.rd (fsReg j R.FS_CTRL) → (∀ b, b < 4 → s.bufHeld j b = false) →
    ∃ t, exec (.fsDisable dt vi j) s = .next t ∧ t.fsEn j = false ∧ t.bit (fsReg j R.FS_STATUS) 0 = false ∧ t.store j = Store.init ∧
      (∀ i, i ≠ j → t.store i = s.store i)) ∧
  (∀ (dt vi j b : Nat) (s : State), j < 1024 → s.bus.access .win j vi = 2 → s.bus.pageUp (winPage j) = true → s.fsEn j = true →
    s.rd (fsReg j R.FS_CTRL) &&& 0x0000FF7F = s.rd (fsReg j R.FS_CTRL) → b < 4 → s.bufHeld j b = true →
    ∃ t, exec (.fsDisable dt vi j) s = .next t ∧ t.fsEn j = false ∧ (t.store j).closing = true ∧
      (t.store j).blocks = (s.store j).blocks ∧ (∀ i, i ≠ j → t.store i = s.store i)) ∧
(∀ (dt j : Nat) (s s1 : State) (p : Pkt) (rest : List Pkt) (pl : List Byte), s.fab.storeIn.find [] j = p :: rest → s.fsEn j = true →
    s.bus.domRuns (19 + s.fsDie j) = true → pl = (match udpKey p.bytes with | some u => udpPayload p.bytes u.udp | none => []) →
    (s.store j).ts = some (rtpOf pl).ts →
    s1 = { s.tick dt with fab := { s.fab with storeIn := s.fab.storeIn.put [] j rest } } →
    exec (.fsCapturePacket dt j) s = .next ((if (rtpOf pl).marker then (s1.frameWrite j pl p).frameEnd j else s1.frameWrite j pl p).fsReport j)) ∧
  (∀ (dt j : Nat) (s : State) (p : Pkt) (rest : List Pkt) (pl : List Byte) (ts : Nat), s.fab.storeIn.find [] j = p :: rest →
    s.fsEn j = true → s.bus.domRuns (19 + s.fsDie j) = true →
    pl = (match udpKey p.bytes with | some u => udpPayload p.bytes u.udp | none => []) → (s.store j).ts = some ts → (rtpOf pl).ts ≠ ts →
    2 ^ 31 ≤ ((rtpOf pl).ts + 2 ^ 32 - ts) % 2 ^ 32 →
    exec (.fsCapturePacket dt j) s = .next { s.tick dt with fab := { s.fab with storeIn := s.fab.storeIn.put [] j rest } }) ∧
  (∀ (dt j : Nat) (s : State) (p : Pkt) (rest : List Pkt), s.fab.storeIn.find [] j = p :: rest → s.fsEn j = false →
    exec (.fsCapturePacket dt j) s = .next { s.tick dt with fab := { s.fab with storeIn := s.fab.storeIn.put [] j rest } }) ∧
  (∀ (dt j n : Nat) (s : State) (e : Ended) (rest : List Ended) (b : Buf) (missing : List Nat), (s.store j).ended = e :: rest →
    s.fsCoded j = false → b = (s.store j).bufs.getD e.buf Buf.init → n = s.fld (fsReg j R.FS_CTRL) 8 8 * s.fsH j →
    missing = (List.range (s.fsH j)).filter (fun r => match b.lines.find? r with | some l => !s.lineFull j l | none => true) →
    n < missing.length * 256 →
    exec (.fsFrameComplete dt j) s = .next (((((s.tick dt).frameDrop j e.buf).addSat (fsReg j R.FS_CNT_BROKEN) 1).fsEvent j 2).fsReport j)) ∧
  (∀ (dt j n : Nat) (s : State) (e : Ended) (rest : List Ended) (b : Buf) (missing : List Nat), (s.store j).ended = e :: rest →
    j < 1024 → s.fsCoded j = false → b = (s.store j).bufs.getD e.buf Buf.init → n = s.fld (fsReg j R.FS_CTRL) 8 8 * s.fsH j →
    missing = (List.range (s.fsH j)).filter (fun r => match b.lines.find? r with | some l => !s.lineFull j l | none => true) →
    missing.length * 256 ≤ n →
    ∃ t, exec (.fsFrameComplete dt j) s = .next t ∧ (t.store j).newest = some e.buf ∧ (t.store j).ended = rest ∧
      t.rd (fsReg j R.FS_CNT_FRAMES) = (s.rd (fsReg j R.FS_CNT_FRAMES) + 1) % 2 ^ 32 ∧
      t.rd (fsReg j R.FS_CNT_FILLED) =
        (if missing = [] then s.rd (fsReg j R.FS_CNT_FILLED) else min (s.rd (fsReg j R.FS_CNT_FILLED) + 1) 0xFFFFFFFF) ∧
      (∀ i, i ≠ j → t.store i = s.store i)) ∧
  (∀ (dt j first count : Nat) (s : State) (e : Ended) (rest : List Ended), (s.store j).ended = e :: rest → s.fsEn j = true →
    s.fsCoded j = true → e.bad = false →
    exec (.xsDecodeComplete dt j first count false) s = .next (((s.tick dt).xsError j e.buf).fsReport j)) ∧
  (∀ (dt j first count : Nat) (s : State) (e : Ended) (rest : List Ended), (s.store j).ended = e :: rest → s.fsEn j = true →
    s.fsCoded j = true → e.bad = false → (s.store j).engine.isSome → ∃ t, exec (.xsDecodeComplete dt j first count true) s = .next t ∧
      (t.store j).ended = { e with decoded := true } :: rest ∧ t.bus = s.bus.tick dt ∧ (∀ i, i ≠ j → t.store i = s.store i))

/-- R194, R209, R210, Table 7-2: a canvas is enabled only where the checks hold; a layout epoch is requested, refused with REASON and
OBJECT, or waits for the binding instant. -/
def Obligations.CanvasesEnableAndEpochsAreChecked : Prop :=
  (∀ (dt vi c : Nat) (s : State), c < 16 → s.bus.pageAccess (cnvPage c) vi = 2 → s.bus.pageUp (cnvPage c) = true → s.cnvEn c = false →
    (s.tick dt).cnvChecks c = true → ∃ t, exec (.canvasEnable dt vi c) s = .next t ∧ t.cnvEn c = true ∧
      t.bit (cnvKey c hdrPageStatus) 0 = true ∧ t.fld (cnvKey c hdrPageStatus) 16 3 = 3 ∧
      t.canvas c = { Canvas.init with nextF := some ((s.geo c).alignedFrom ((s.tick dt).cnvNow (s.geo c) + 4 * (s.geo c).tline)) } ∧
      (∀ d, d ≠ c → t.canvas d = s.canvas d)) ∧
  (∀ (dt vi c : Nat) (s : State), c < 16 → s.bus.pageAccess (cnvPage c) vi = 2 → s.bus.pageUp (cnvPage c) = true → s.cnvEn c = false →
    (s.tick dt).cnvChecks c = false → exec (.canvasEnable dt vi c) s = .next ((s.tick dt).cfgErr (cnvPage c))) ∧
  (∀ (s : State) (c : Nat), s.cnvChecks c = true → s.fld (cnvKey c R.CNV_CTRL) 4 3 ≠ 7 ∧
    (s.geo c).tbase + (s.geo c).cols * (s.geo c).rows ≤ 256 ∧
    ∀ d, d < 16 → d ≠ c → s.cnvEn d = true →
      ((s.geo c).tbase + (s.geo c).cols * (s.geo c).rows ≤ (s.geo d).tbase ∨ (s.geo d).tbase + (s.geo d).cols * (s.geo d).rows ≤ (s.geo c).tbase) ∧
      (s.cnvGroup d = s.cnvGroup c → s.fld (cnvKey d R.CNV_CTRL) 4 3 = s.fld (cnvKey c R.CNV_CTRL) 4 3 ∧ (s.geo d).phase = (s.geo c).phase)) ∧
  (∀ (dt vi c g : Nat) (s : State), c < 16 → s.bus.pageAccess (cnvPage c) vi = 2 → s.bus.pageUp (cnvPage c) = true → s.cnvEn c = true →
    g = s.cnvGroup c → s.comp.epochs.find? g = none →
    ∃ t e, exec (.layoutEpochRequest dt vi c) s = .next t ∧ t.comp.epochs.find? g = some e ∧ e.jpos = none ∧
      (∀ d, d ∈ e.pages ↔ d ∈ s.groupCanvases g ∧ s.bit (cnvKey d hdrShadowCtrl) 2 = true) ∧
      (∀ d, d ∈ s.groupCanvases g → t.rd (cnvKey d R.CNV_EPOCH_STATUS) = 1)) ∧
  (∀ (dt vi c : Nat) (s : State), c < 16 → s.bus.pageAccess (cnvPage c) vi = 2 → s.bus.pageUp (cnvPage c) = true → s.cnvEn c = true →
    (s.comp.epochs.find? (s.cnvGroup c)).isSome → exec (.layoutEpochRequest dt vi c) s = .next (s.tick dt)) ∧
  (∀ (dt g reason object : Nat) (s s1 : State) (e : Epoch), s.comp.epochs.find? g = some e → s.epochState g = 1 →
    (s.tick dt).epochCheck g e = some (reason, object) →
    s1 = ((s.tick dt).epochClear g e).epochStatus g (reason * 16 + object % 1024 * 65536) →
    exec (.layoutEpochChecked dt g) s = .next ((s1.groupCanvases g).foldl (fun a c => a.raise (cnvPage c) 1) s1)) ∧
  (∀ (dt g : Nat) (s : State) (e : Epoch), s.comp.epochs.find? g = some e → s.epochState g = 1 → (s.tick dt).epochCheck g e = none →
    (∀ w ∈ e.slots, winEnR (s.staged e) w = true → fieldOf 0 16 (s.staged e (winReg w R.WIN_DEADLINE)) ≠ 0) →
    exec (.layoutEpochChecked dt g) s = .next (((s.tick dt).epochStatus g 2).epochRecord g e))

/-- R195, R203, R209: the frame of a canvas is bound four line times before it starts, starts at its time, and its lines are drawn by the
lane that serves their tile. -/
def Obligations.CanvasFramesBindStartAndDraw : Prop :=
  (∀ (dt c nf : Nat) (s : State), (s.canvas c).nextF = some nf → (s.tick dt).cnvNow (s.geo c) + 4 * (s.geo c).tline < nf →
    exec (.bindingInstant dt c) s = .next (s.tick dt)) ∧
  (∀ (dt c nf : Nat) (s : State) (g : Geo), g = s.geo c → (s.canvas c).nextF = some nf → (s.canvas c).nxt = none →
    nf ≤ (s.tick dt).cnvNow g + 4 * g.tline → s.bus.domRuns 19 = true ∨ s.bus.domRuns 20 = true → nf < (s.tick dt).cnvNow g →
    ∃ t f', exec (.bindingInstant dt c) s = .next t ∧ (t.canvas c).nextF = some f' ∧
      f' = g.alignedFrom ((s.tick dt).cnvNow g + 4 * g.tline) ∧ t.bus = s.bus.tick dt ∧ (∀ d, d ≠ c → t.canvas d = s.canvas d)) ∧
  (∀ (dt c nf : Nat) (s : State) (g : Geo), c < 16 → g = s.geo c → (s.canvas c).nextF = some nf → (s.canvas c).nxt = none →
    nf ≤ (s.tick dt).cnvNow g + 4 * g.tline → s.bus.domRuns 19 = true ∨ s.bus.domRuns 20 = true → (s.tick dt).cnvNow g ≤ nf →
    s.comp.epochs.find? (s.cnvGroup c) = none → (s.tick dt).bound = true → s.canvasWins s.rd c = [] → (s.canvas c).cur = none →
    ∃ t f, exec (.bindingInstant dt c) s = .next t ∧ (t.canvas c).nxt = some f ∧ f.start = nf ∧ f.binds = [] ∧ f.unbound = false ∧
      f.f = s.rd (cnvKey c R.CNV_CNT_FRAMES) ∧ t.bit (cnvKey c hdrPageStatus) 18 = false ∧
      (∀ d, d ≠ c → t.canvas d = s.canvas d)) ∧
  (∀ (dt c : Nat) (s : State) (f : CFrame), (s.canvas c).nxt = some f → (s.tick dt).cnvNow (s.geo c) < f.start →
    exec (.canvasFrameStart dt c) s = .next (s.tick dt)) ∧
  (∀ (dt c : Nat) (s : State) (f : CFrame) (g : Geo), c < 16 → g = s.geo c → (s.canvas c).nxt = some f → (s.canvas c).cur = none →
    f.start ≤ (s.tick dt).cnvNow g → s.bit (cnvKey c hdrPageStatus) 17 = true → (s.canvas c).alignF = none →
    ∃ t, exec (.canvasFrameStart dt c) s = .next t ∧ (t.canvas c).cur = some f ∧ (t.canvas c).nxt = none ∧
      (t.canvas c).nextF = some (f.start + g.tframe) ∧
      t.rd (cnvKey c R.CNV_CNT_FRAMES) = (s.rd (cnvKey c R.CNV_CNT_FRAMES) + 1) % 2 ^ 32 ∧ (∀ d, d ≠ c → t.canvas d = s.canvas d)) ∧
  (∀ (dt c tile line : Nat) (s : State) (f : CFrame) (g : Geo), g = s.geo c → (s.canvas c).cur = some f →
    (s.tick dt).cnvNow g ≤ g.packetAt f.start (line * g.npl) → g.packetAt f.start (line * g.npl) ≤ (s.tick dt).cnvNow g + 4 * g.tline →
    (tile, line) ∉ f.drawn → line < g.tileH → tile ∈ s.tiles s.rd c → (s.laneOf (tileLane s.rd c tile)).isSome →
    exec (.lineDraw dt c tile line) s = .next ((s.tick dt).setCanvas c { s.canvas c with
      cur := some { f with drawn := (tile, line) :: f.drawn, segs := f.segs ++ (s.tick dt).posts c g f tile line } })) ∧
  (∀ (dt c tile line : Nat) (s : State) (f : CFrame) (g : Geo), g = s.geo c → (s.canvas c).cur = some f →
    (s.tick dt).cnvNow g ≤ g.packetAt f.start (line * g.npl) → (tile, line) ∉ f.drawn → tile ∉ s.tiles s.rd c →
    exec (.lineDraw dt c tile line) s = .next (s.tick dt)) ∧
  (∀ (s : State) (c : Nat) (g : Geo) (f : CFrame) (tile line : Nat), ∀ y ∈ s.posts c g f tile line,
    y.tile = tile ∧ y.line = line ∧ y.verdict = none ∧ y.late = false)

/-- R24, R203 to R206, R197, R211: the judge's verdict on a window, and a tile packet at its scheduled time. -/
def Obligations.SegmentsAreJudgedAndTilePacketsSent : Prop :=
  (∀ (dt c : Nat) (s : State) (f : CFrame) (y : Seg), (s.canvas c).cur = some f → earliest f.segs = some y → y.cell = false →
    (s.tick dt).winVerdict c (s.geo c) f y = false →
    exec (.segmentPost dt c) s = .next (((s.tick dt).setCanvas c { s.canvas c with cur := some { f with
      segs := f.segs.map (fun z => if z.same y then { z with verdict := some false } else z) } }).windowFresh f y.idx)) ∧
  (∀ (dt c : Nat) (s : State) (f : CFrame) (y : Seg), (s.canvas c).cur = some f → earliest f.segs = some y → y.cell = false →
    (s.tick dt).winVerdict c (s.geo c) f y = true →
    exec (.segmentPost dt c) s = .next ((((s.tick dt).setCanvas c { s.canvas c with cur := some { f with
      segs := f.segs.map (fun z => if z.same y then { z with verdict := some true } else z)
      latched := if f.latched.contains y.idx then f.latched else y.idx :: f.latched } }).windowStale f y.idx).countStale c y.tile)) ∧
  (∀ (s : State) (c : Nat) (g : Geo) (f : CFrame) (y : Seg), y.idx ∈ f.latched → s.winVerdict c g f y = true) ∧
  (∀ (s : State) (f : CFrame) (w : Nat), s.bus.Ranged → w < 1024 → w ∉ f.latched → w ∉ s.comp.wasStale →
    w ∈ (s.windowStale f w).comp.wasStale ∧
    (s.windowStale f w).rd (winReg w R.WIN_CNT_STALE) = min (s.rd (winReg w R.WIN_CNT_STALE) + 1) 0xFFFFFFFF) ∧
  (∀ (dt c tile k lane : Nat) (s : State) (f : CFrame) (g : Geo) (y : Canvas), g = s.geo c → y = s.canvas c → y.cur = some f →
    s.laneOf (tileLane s.rd c tile) = some lane → tile ∈ s.tiles s.rd c → k < g.npl * g.tileH → y.sent.find 0 tile ≤ k →
    g.packetAt f.start k ≤ (s.tick dt).cnvNow g → f.cut = none →
    (s.tick dt).lineReady (tileLane s.rd c tile) g (g.packetAt f.start (k / max 1 g.npl * g.npl)) = true →
    s.bus.domRuns (19 + laneDie lane) = true → (s.tick dt).posts c g f tile (k / max 1 g.npl) = [] →
    exec (.tilePacketSend dt c tile k []) s = .next
      (((s.tick dt).setCanvas c { y with
          seqs := y.seqs.put 0 tile (((y.seqs.find 0 tile + (k - y.sent.find 0 tile)) % 2 ^ 32 + 1) % 2 ^ 32)
          sent := y.sent.put 0 tile (k + 1) }).tileHand c tile lane (g.packetAt f.start k / max 1 g.q)
        ((s.tick dt).tileFrame c tile ((s.tick dt).tilePayload c g f tile k
          ((y.seqs.find 0 tile + (k - y.sent.find 0 tile)) % 2 ^ 32))))) ∧
  (∀ (dt c tile k : Nat) (late : List Nat) (s : State) (f : CFrame), (s.canvas c).cur = some f →
    s.laneOf (tileLane s.rd c tile) = none → exec (.tilePacketSend dt c tile k late) s = .next (s.tick dt)) ∧
  (∀ (dt c tile k : Nat) (late : List Nat) (s : State) (f : CFrame), (s.canvas c).cur = some f → k < (s.canvas c).sent.find 0 tile →
    exec (.tilePacketSend dt c tile k late) s = .next (s.tick dt))

/-! ## Value frames and endpoints (chapter 8) -/

/-- R219 to R225, R234: frames queue, are tested whole and rejected or applied as one step; silence; a hang rejects what waits. -/
def Obligations.ValueFramesQueueAreTestedAndApply : Prop :=
  (∀ (dt : Nat) (s : State) (p : Pkt) (rest : List Pkt), s.fab.valIn = p :: rest → s.val.queue.length < 1024 → s.val.queue ≠ [] →
    exec (.valueFrameEnqueue dt) s = .next { s.tick dt with
      fab := { s.fab with valIn := rest }
      val := { s.val with queue := s.val.queue ++ [p] } }) ∧
  (∀ (dt : Nat) (s : State) (p : Pkt) (rest : List Pkt), s.bus.Ranged → s.fab.valIn = p :: rest → 1024 ≤ s.val.queue.length →
    ∃ t, exec (.valueFrameEnqueue dt) s = .next t ∧ t.val = s.val ∧ t.fab = { s.fab with valIn := rest } ∧
      t.rd (rk valPage R.VAL_CNT_OVF) = min (s.rd (rk valPage R.VAL_CNT_OVF) + 1) 0xFFFFFFFF ∧ t.bit (rkVi valPage hdrEvtPend 0) 3 = true ∧
      ({ s.tick dt with fab := t.fab } : State).After t [rk valPage R.VAL_CNT_OVF, rkVi valPage hdrEvtPend 0]) ∧
  (∀ (dt : Nat) (s : State) (p : Pkt) (rest : List Pkt), s.val.queue = p :: rest →
    ∃ s1 : State, s1 = ({ s.tick dt with val := { s.val with queue := rest } } : State).valFrame p ∧
      exec (.valueFrameApply dt) s = .next (if rest.isEmpty then s1.disarm tValHang else s1.arm tValHang (clkMs 1))) ∧
  (∀ (dt : Nat) (s : State), s.val.queue = [] → exec (.valueFrameApply dt) s = .next (s.tick dt)) ∧
  (∀ (s : State) (p : Pkt) (pl : List Byte) (u : UdpKey), udpKey p.bytes = some u → pl = udpPayload p.bytes u.udp →
    pl.length < 28 ∨ beAt pl 0 2 ≠ 0x4B56 ∨ beAt pl 2 1 ≠ 1 ∨ pl.length - 28 < beAt pl 3 1 * 6 →
    s.valFrame p = (s.addSat (rk valPage R.VAL_CNT_REJECT) 1).valEvent0 1) ∧
  (∀ (s : State) (p : Pkt) (pl : List Byte) (u : UdpKey), udpKey p.bytes = some u → pl = udpPayload p.bytes u.udp → 28 ≤ pl.length →
    beAt pl 0 2 = 0x4B56 → beAt pl 2 1 = 1 → beAt pl 3 1 * 6 ≤ pl.length - 28 → s.slotOf (beAt pl 4 4 % 2 ^ 18) = none →
    s.valFrame p = ((s.addSat (rk valPage R.VAL_CNT_UNKNOWN) 1).wr (rk valPage R.VAL_UNKNOWN_DEV) (beAt pl 4 4 % 2 ^ 18)).valEvent0 1) ∧
  (∀ (s : State) (p : Pkt) (pl : List Byte) (u : UdpKey) (k : Nat), s.bus.Ranged → udpKey p.bytes = some u →
    pl = udpPayload p.bytes u.udp → 28 ≤ pl.length → beAt pl 0 2 = 0x4B56 → beAt pl 2 1 = 1 → beAt pl 3 1 * 6 ≤ pl.length - 28 →
    s.slotOf (beAt pl 4 4 % 2 ^ 18) = some k → s.frameReason k p pl ≠ 0 →
    (s.valFrame p).val = s.val ∧ (s.valFrame p).rd (slotReg k R.VAL_SRC_SEQ) = s.rd (slotReg k R.VAL_SRC_SEQ) ∧
    (s.valFrame p).fld (slotReg k R.VAL_SRC_STAT) 4 4 = s.frameReason k p pl ∧
    (s.valFrame p).rd (slotReg k R.VAL_SRC_CNT_REJ) = min (s.rd (slotReg k R.VAL_SRC_CNT_REJ) + 1) 0xFFFFFFFF) ∧
  (∀ (s : State) (k : Nat) (p : Pkt) (pl : List Byte), s.restarts k pl = false → s.bit (slotReg k R.VAL_SRC_STAT) 0 = true →
    (s.bit (slotReg k R.VAL_SRC_PATH) 16 = true → p.stream = s.slotPath k) →
    (∀ i, i < beAt pl 3 1 → (s.recordTarget k (valRecord pl i).1).isSome) →
    (s.frameReason k p pl = 6 ↔ beAt pl 8 4 % 2 ^ 32 = s.rd (slotReg k R.VAL_SRC_SEQ)) ∧
    (s.frameReason k p pl = 7 ↔ 2 ^ 31 ≤ (beAt pl 8 4 + 2 ^ 32 - s.rd (slotReg k R.VAL_SRC_SEQ)) % 2 ^ 32)) ∧
  (∀ (dt k : Nat) (s : State), (s.tick dt).due (tSilent k) = true →
    exec (.valSrcSilentExpire dt k) s = .next ((((s.tick dt).disarm (tSilent k)).setBit (slotReg k R.VAL_SRC_STAT) 1 true).slotEvent k 4)) ∧
  (∀ (dt vi value k : Nat) (s : State), s.bus.physOf .val vi 0 ≠ none → s.bus.pageUp valPage = true →
    s.physSlot vi (s.fld (valReg vi R.VAL_SRC_SEL) 0 10) = some k → s.slotAccess k vi = 2 →
    ∃ t, exec (.valSrcDevWrite dt vi value) s = .next t ∧ t.rd (slotReg k R.VAL_SRC_DEV) = value &&& 0xA003FFFF ∧
      (∀ off ∈ [R.VAL_SRC_SEQ, R.VAL_SRC_STAT, R.VAL_SRC_CNT_OK, R.VAL_SRC_CNT_REJ, R.VAL_SRC_CNT_GAP, R.VAL_SRC_CNT_OLDREC],
        t.rd (slotReg k off) = 0) ∧ t.val = s.val ∧
      ((s.tick dt).disarm (tSilent k)).After t ([R.VAL_SRC_DEV, R.VAL_SRC_SEQ, R.VAL_SRC_STAT, R.VAL_SRC_CNT_OK, R.VAL_SRC_CNT_REJ,
        R.VAL_SRC_CNT_GAP, R.VAL_SRC_CNT_OLDREC].map (fun off => slotReg k off))) ∧
  (∀ (dt : Nat) (s s1 : State), (s.tick dt).due tValHang = true → s.val.queue ≠ [] →
    s1 = (((s.tick dt).disarm tValHang).fault 66 { page := valPage }).addSat (rk valPage R.VAL_CNT_OVF) s.val.queue.length →
    exec (.valEngineHang dt) s = .next (({ s1 with val := { s1.val with queue := [] } } : State).valEvent0 3))

/-- R15, R16, R221: a record replaces an endpoint's value where its capture time is not earlier, and otherwise changes nothing. -/
def Obligations.RecordsNeverMoveAnEndpointBackwards : Prop :=
  (∀ (s : State) (i v q f inh old new : Nat) (slot : Option Nat), (s.ep i).tc = some old → new < old →
    s.applyRecord i v q f (some new) inh slot = (s, false)) ∧
  (∀ (s : State) (i v q f inh old : Nat) (slot : Option Nat), (s.ep i).tc = some old →
    s.applyRecord i v q f none inh slot = (s, false)) ∧
  (∀ (s : State) (i v q f inh new : Nat) (slot : Option Nat), (∀ old, (s.ep i).tc = some old → old ≤ new) →
    (s.applyRecord i v q f (some new) inh slot).2 = true ∧
    (s.applyRecord i v q f (some new) inh slot).1.ep i =
      { s.ep i with value := v, quality := q, flags := f, tc := some new, inherit := inh, slot := slot, bySet := slot.isNone } ∧
    (∀ j, j ≠ i → (s.applyRecord i v q f (some new) inh slot).1.ep j = s.ep j)) ∧
  (∀ (s : State) (k : Nat) (p : Pkt) (pl : List Byte) (i old : Nat), (s.ep i).tc = some old →
    ∃ new, ((s.applyFrame k p pl).ep i).tc = some new ∧ old ≤ new)

/-- R227, R448: the endpoint commands of an owner. READ copies the words; a WRITE is refused with the first of its reasons, or its record
is written to the journal and its words are installed; SET acts with Tc = W. -/
def Obligations.EndpointCommandsReadWriteAndSet : Prop :=
  (∀ (dt vi i : Nat) (s : State), s.bus.physOf .val vi 0 ≠ none → s.bus.pageUp valPage = true → (s.tick dt).epSel vi = some i →
    ∃ t, exec (.valEpRead dt vi) s = .next t ∧ t.rd (valReg vi R.VAL_EP_STATUS) = 0 ∧
      (∀ n, n < 8 → t.rd (valReg vi (R.VAL_EP_D + 4 * n)) = ((s.tick dt).epWords vi i).getD n 0 % 2 ^ 32) ∧ t.val = s.val ∧
      (s.tick dt).After t (valReg vi R.VAL_EP_STATUS :: (List.range 8).map (fun n => valReg vi (R.VAL_EP_D + 4 * n)))) ∧
  (∀ (dt vi : Nat) (s : State), s.bus.physOf .val vi 0 ≠ none → s.bus.pageUp valPage = true → (s.tick dt).epSel vi = none →
    exec (.valEpRead dt vi) s = .next ((s.tick dt).epRefuse vi 5) ∧ exec (.valEpWrite dt vi) s = .next ((s.tick dt).epRefuse vi 5) ∧
    exec (.valEpWriteClear dt vi) s = .next ((s.tick dt).epRefuse vi 5) ∧ exec (.valEpSet dt vi) s = .next ((s.tick dt).epRefuse vi 5)) ∧
  (∀ (dt vi i : Nat) (s : State) (w : List Nat), s.bus.physOf .val vi 0 ≠ none → s.bus.pageUp valPage = true →
    (s.tick dt).epSel vi = some i → s.bus.access .val i vi = 2 →
    w = (List.range 3).map (fun n => s.rd (valReg vi (R.VAL_EP_D + 4 * n))) → (s.tick dt).epReason vi i w ≠ 0 →
    exec (.valEpWrite dt vi) s = .next ((s.tick dt).epRefuse vi ((s.tick dt).epReason vi i w)) ∧
    exec (.valEpWriteClear dt vi) s = .next ((s.tick dt).epRefuse vi ((s.tick dt).epReason vi i w))) ∧
  (∀ (dt vi i : Nat) (s : State) (w : List Nat), s.bus.physOf .val vi 0 ≠ none → s.bus.pageUp valPage = true →
    (s.tick dt).epSel vi = some i → s.bus.access .val i vi = 2 →
    w = (List.range 3).map (fun n => s.rd (valReg vi (R.VAL_EP_D + 4 * n))) → (s.tick dt).epReason vi i w = 0 → s.jrn.closed = false →
    s.logRoom 3 = true →
    (∃ t, exec (.valEpWrite dt vi) s = .next t ∧ (t.ep i).value = (s.ep i).value ∧ (t.ep i).tc = (s.ep i).tc ∧
      (t.ep i).w0 = ((s.tick dt).epPhys vi w).getD 0 0 ∧ (t.ep i).w1 = ((s.tick dt).epPhys vi w).getD 1 0 ∧
      (t.ep i).w2 = ((s.tick dt).epPhys vi w).getD 2 0 ∧ (∀ j, j ≠ i → t.ep j = s.ep j) ∧ t.rd (valReg vi R.VAL_EP_STATUS) = 0) ∧
    (∃ t, exec (.valEpWriteClear dt vi) s = .next t ∧ (t.ep i).value = 0 ∧ (t.ep i).tc = none ∧
      (t.ep i).w0 = ((s.tick dt).epPhys vi w).getD 0 0 ∧ (t.ep i).w1 = ((s.tick dt).epPhys vi w).getD 1 0 ∧
      (t.ep i).w2 = ((s.tick dt).epPhys vi w).getD 2 0 ∧ (∀ j, j ≠ i → t.ep j = s.ep j) ∧ t.rd (valReg vi R.VAL_EP_STATUS) = 0)) ∧
  (∀ (dt vi i : Nat) (s : State), s.bus.physOf .val vi 0 ≠ none → s.bus.pageUp valPage = true → (s.tick dt).epSel vi = some i →
    s.bus.access .val i vi = 1 → exec (.valEpWrite dt vi) s = .next ((s.tick dt).on (·.denied)) ∧
    exec (.valEpSet dt vi) s = .next ((s.tick dt).on (·.denied))) ∧
  (∀ (dt vi i : Nat) (s : State), s.bus.physOf .val vi 0 ≠ none → s.bus.pageUp valPage = true → (s.tick dt).epSel vi = some i →
    s.bus.access .val i vi = 2 → s.timState ≠ 0 → (∀ old, (s.ep i).tc = some old → old ≤ (s.tick dt).bus.w250) →
    ∃ t, exec (.valEpSet dt vi) s = .next t ∧ t.ep i = { s.ep i with
        value := s.rd (valReg vi (R.VAL_EP_D + 12)) % 65536
        quality := s.fld (valReg vi (R.VAL_EP_D + 12)) 16 4
        flags := s.fld (valReg vi (R.VAL_EP_D + 12)) 20 4
        tc := some (s.tick dt).bus.w250
        inherit := s.fld (valReg vi (R.VAL_EP_D + 16)) 0 16
        slot := none
        bySet := true } ∧ (∀ j, j ≠ i → t.ep j = s.ep j) ∧ t.rd (valReg vi R.VAL_EP_STATUS) = 0)

/-! ## Light output (chapter 9) -/

/-- R238, R239, R241, Table 9-2: a write of LIT_CMD takes one software command, or is refused; a command frame is sent only where it ends 4
µs before the next data frame; what returns ends it. R236 to R238, R242 to R245: data frames start, latch and repeat; an enumeration counts
a chain in passes; a new length or period binds to a later frame. A reply to a broadcast read is a free value (log 4). -/
def Obligations.ChainsTakeCommandsLatchAndEnumerate : Prop :=
  (∀ (dt vi c hop : Nat) (b : Bool) (s : State) (put : Nat → State), c < 64 → s.bus.pageAccess (litPage c) vi = 2 →
    s.bus.pageUp (litPage c) = true → s.bit (litKey c R.LIT_CMD_STATUS) 0 = false → s.pageEn (litPage c) = true →
    (∀ op, put op = ((s.tick dt).setBit (litKey c R.LIT_CMD_STATUS) 0 true).setChain c { s.chain c with
      cmd := some ⟨op, hop, b, s.fld (litKey c R.LIT_CMD_DATA) 0 16⟩
      waits := 0 }) →
    exec (.litCmdPing dt vi c hop b) s = .next (put 0x00) ∧ exec (.litCmdSetLoss dt vi c hop b) s = .next (put 0x02) ∧
    exec (.litCmdSetFail dt vi c hop b) s = .next (put 0x03) ∧ exec (.litCmdReadTemp dt vi c hop b) s = .next (put 0x10) ∧
    exec (.litCmdReadId dt vi c hop b) s = .next (put 0x11) ∧
    exec (.litCmdEnum dt vi c hop b) s = .next (((s.tick dt).setBit (litKey c R.LIT_CMD_STATUS) 0 true).setChain c { s.chain c with
      enumReq := true
      enumCmd := true })) ∧
  (∀ (dt vi c hop : Nat) (b : Bool) (s : State), c < 64 → s.bus.pageAccess (litPage c) vi = 2 → s.bus.pageUp (litPage c) = true →
    s.bit (litKey c R.LIT_CMD_STATUS) 0 = true ∨ s.pageEn (litPage c) = false →
    exec (.litCmdPing dt vi c hop b) s = .next ((s.tick dt).cfgErr (litPage c)) ∧
    exec (.litCmdEnum dt vi c hop b) s = .next ((s.tick dt).cfgErr (litPage c)) ∧
    exec (.litCmdSetLoss dt vi c hop b) s = .next ((s.tick dt).cfgErr (litPage c)) ∧
    exec (.litCmdSetFail dt vi c hop b) s = .next ((s.tick dt).cfgErr (litPage c)) ∧
    exec (.litCmdReadTemp dt vi c hop b) s = .next ((s.tick dt).cfgErr (litPage c)) ∧
    exec (.litCmdReadId dt vi c hop b) s = .next ((s.tick dt).cfgErr (litPage c))) ∧
  (∀ (dt c st n : Nat) (s : State) (m : LitCmd), (s.chain c).start = some st → (s.chain c).cmd = some m → (s.chain c).flight = none →
    (s.chain c).enumRun = false → (s.chain c).enumReq = false → n = (s.tick dt).cmdTime c (replyCount (s.litLen c) m) →
    (s.chain c).lineFree ≤ s.bus.now + dt → s.bus.now + dt + n + clkUs 4 ≤ st → s.bit (litKey c R.LIT_STATUS) 0 = true →
    ∃ t, exec (.chainCommandFrame dt c) s = .next t ∧
      t = (s.tick dt).setChain c { s.chain c with flight := some (.software m), lineFree := s.bus.now + dt + n, cmd := none }) ∧
  (∀ (dt c st : Nat) (s : State) (m : LitCmd), (s.chain c).start = some st → (s.chain c).cmd = some m →
    st < s.bus.now + dt + (s.tick dt).cmdTime c (replyCount (s.litLen c) m) + clkUs 4 →
    exec (.chainCommandFrame dt c) s = .next (s.tick dt)) ∧
  (∀ (dt c : Nat) (s : State) (m : LitCmd) (ret : CmdReturn), (s.chain c).flight = some (.software m) →
    cmdResult m (replyCount (s.litLen c) m) ret ≠ 0 →
    exec (.chainCommandComplete dt c ret) s = .next
      (((s.tick dt).setChain c { s.chain c with flight := none }).cmdDone c (cmdResult m (replyCount (s.litLen c) m) ret))) ∧
  (∀ (dt c r w : Nat) (s : State) (m : LitCmd) (ret : CmdReturn) (rest : List Nat), s.bus.Ranged → c < 64 →
    (s.chain c).flight = some (.software m) → m.op = 0x10 ∨ m.op = 0x11 → m.bcast = false → ret.word = some w → crc8Ok w = true →
    bitOf 26 w = true → ret.replies = r :: rest → crc8Ok r = true →
    ∃ t, exec (.chainCommandComplete dt c ret) s = .next t ∧ t.fld (litKey c R.LIT_CMD_STATUS) 1 3 = 0 ∧
      t.bit (litKey c R.LIT_CMD_STATUS) 0 = false ∧ t.fld (litKey c R.LIT_CMD_STATUS) 16 16 = replyData r ∧
      t.rd (litKey c R.LIT_CMD_REPLY) = replyStatus r ∧ t.pend (litPage c) 5 = true ∧ (t.chain c).flight = none ∧ (t.chain c).cmd = none) ∧
  (∀ (m : LitCmd) (want : Nat) (l : List Nat), cmdResult m want ⟨none, l⟩ = 1) ∧
  (∀ (m : LitCmd) (want w : Nat) (l : List Nat), crc8Ok w = false → cmdResult m want ⟨some w, l⟩ = 2) ∧
  (∀ (m : LitCmd) (want w : Nat) (l : List Nat), crc8Ok w = true → m.bcast = false → bitOf 26 w = false →
    cmdResult m want ⟨some w, l⟩ = 3) ∧
  (∀ (m : LitCmd) (want w : Nat) (l : List Nat), crc8Ok w = true → m.bcast = true ∨ bitOf 26 w = true →
    (∀ r ∈ l, crc8Ok r = true) → (cmdResult m want ⟨some w, l⟩ = 0 ↔ want ≤ l.length)) ∧
(∀ (dt c st : Nat) (s : State), (s.chain c).start = some st → s.bus.now + dt < st →
    exec (.chainDataFrameStart dt c) s = .next (s.tick dt)) ∧
  (∀ (dt c st pin tm : Nat) (s s1 : State), s.bus.Ranged → c < 64 → (s.chain c).start = some st → st ≤ s.bus.now + dt → (s.chain c).enumRun = false →
    s.bus.domRuns 1 = true → (s.chain c).pendLen = none → (s.chain c).pendPer = none → (s.chain c).cmd = none →
    s1 = ((s.tick dt).wr (litKey c R.LIT_LEN) (s.chain c).nLen).zonesRefresh c →
    pin = s.bus.now + dt + clkUs (3 * (s.chain c).nLen + 8) → tm = pin + s.litProp c →
    ∃ t, exec (.chainDataFrameStart dt c) s = .next t ∧
      (t.chain c).frame = (s1.readChain c (s.chain c).nLen (s1.bus.w250 + 8 * (tm - (s.bus.now + dt)))).2 ∧
      (t.chain c).pinAt = some pin ∧ (t.chain c).latchAt = some tm ∧ (t.chain c).shown = (s.chain c).shown ∧
      (t.chain c).start = some (s.bus.now + dt + max (clkUs (s.chain c).nPer) (clkUs (3 * (s.chain c).nLen + 12)))) ∧
  (∀ (dt c n at' : Nat) (b : Bool) (s : State), (s.chain c).latchAt = some at' → s.bus.now + dt < at' →
    exec (.chainLatch dt c n b) s = .next (s.tick dt)) ∧
  (∀ (dt c n at' : Nat) (b : Bool) (s : State), (s.chain c).latchAt = some at' → at' ≤ s.bus.now + dt →
    s.bit (litKey c R.LIT_CTRL) 3 = false → (s.chain c).enumReq = false →
    ∃ t, exec (.chainLatch dt c n b) s = .next t ∧ (t.chain c).shown = (s.chain c).frame ∧ (t.chain c).latchAt = none ∧
      t.bit (litKey c R.LIT_STATUS) 0 = true ∧ t.rd (litKey c R.LIT_CNT_FRAMES) = (s.rd (litKey c R.LIT_CNT_FRAMES) + 1) % 2 ^ 32 ∧
      ({ s.tick dt with lit := t.lit } : State).After t [litKey c R.LIT_STATUS, litKey c R.LIT_CNT_FRAMES]) ∧
  (∀ (dt c n t2 : Nat) (s : State), (s.chain c).enumRun = true → (s.chain c).passes = [] → t2 ≤ 34000000 →
    n = (t2 - s.fld (litKey c R.LIT_ENUM_CAL) 0 16) / 8000 →
    ∃ t, exec (.enumPassEnd dt c (some t2)) s = .next t ∧ t.rd (litKey c R.LIT_ENUM_LAST) = min 8191 n ∧
      (t.chain c).passes = [(some n, (passResult (s.fld (litKey c R.LIT_ENUM_CAL) 0 16) t2).2)] ∧
      (t.chain c).enumRun = true ∧ t.rd (litKey c R.LIT_LEN) = s.rd (litKey c R.LIT_LEN)) ∧
  (∀ (dt c n t2 prop p2 : Nat) (rest : List (Option Nat × Nat)) (s : State), s.bus.Ranged → c < 64 → (s.chain c).enumRun = true →
    (s.chain c).passes = (some n, p2) :: rest → t2 ≤ 34000000 → passResult (s.fld (litKey c R.LIT_ENUM_CAL) 0 16) t2 = (n, prop) →
    n ≤ 4096 → (s.chain c).devPend = none → (s.chain c).enumCmd = false →
    ∃ t, exec (.enumPassEnd dt c (some t2)) s = .next t ∧ t.rd (litKey c R.LIT_LEN) = n ∧
      t.rd (litKey c R.LIT_PROP) = min 65535 prop ∧ (t.chain c).enumRun = false ∧
      (t.chain c).start = some (s.bus.now + dt + clkUs 4) ∧ t.pend (litPage c) 0 = true ∧ t.bit (litKey c R.LIT_STATUS) 1 = false ∧
      t.bit (litKey c R.LIT_STATUS) 2 = false) ∧
  (∀ (dt c : Nat) (rest : List (Option Nat × Nat)) (s : State) (p : Nat), s.bus.Ranged → c < 64 → (s.chain c).enumRun = true →
    (s.chain c).passes = (none, p) :: rest → (s.tick dt).due (tEnumPass c) = true → (s.chain c).devPend = none →
    (s.chain c).enumCmd = false →
    ∃ t, exec (.enumPassEnd dt c none) s = .next t ∧ t.rd (litKey c R.LIT_LEN) = s.rd (litKey c R.LIT_LEN) ∧
      t.rd (litKey c R.LIT_PROP) = s.rd (litKey c R.LIT_PROP) ∧ t.bit (litKey c R.LIT_STATUS) 3 = true ∧ t.pend (litPage c) 2 = true) ∧
  (∀ (dt vi c v : Nat) (s : State), c < 64 → s.bus.pageAccess (litPage c) vi = 2 → s.bus.pageUp (litPage c) = true →
    (s.chain c).enumRun = false → (s.chain c).start.isSome → v ≤ 4096 →
    ∃ t, exec (.litDevCountWrite dt vi c v) s = .next t ∧ t.rd (litKey c R.LIT_DEV_COUNT) = v ∧
      (t.chain c).pendLen = some (v, s.bus.now + dt) ∧ t.rd (litKey c R.LIT_LEN) = s.rd (litKey c R.LIT_LEN) ∧
      ({ s.tick dt with lit := t.lit } : State).After t [litKey c R.LIT_DEV_COUNT]) ∧
  (∀ (dt vi c v : Nat) (s : State), c < 64 → s.bus.pageAccess (litPage c) vi = 2 → s.bus.pageUp (litPage c) = true →
    1000 ≤ v → v ≤ 12500 → (s.chain c).start.isSome →
    ∃ t, exec (.litPeriodWrite dt vi c v) s = .next t ∧ t.rd (litKey c R.LIT_PERIOD) = v ∧
      (t.chain c).pendPer = some (v, s.bus.now + dt) ∧ ({ s.tick dt with lit := t.lit } : State).After t [litKey c R.LIT_PERIOD]) ∧
  (∀ (dt vi c v : Nat) (s : State), s.bus.Ranged → c < 64 → s.bus.pageAccess (litPage c) vi = 2 → s.bus.pageUp (litPage c) = true → v < 1000 →
    (s.chain c).start = none → ∃ t, exec (.litPeriodWrite dt vi c v) s = .next t ∧ t.rd (litKey c R.LIT_PERIOD) = 1000 ∧
      t.bit (rk (litPage c) hdrPageStatus) 2 = true ∧ (t.chain c).per = 1000 ∧ (t.chain c).nPer = 1000)

/-- R248, R265: NTC inputs, sense devices and the derating they give. R246, R247, R265: calibration entries and matrix entries are read and
written through the CAL page of a VI. The temperature that the Beta equation gives is a free value (log 16); a sense zone without a reading
is invalid (log 17). -/
def Obligations.TemperaturesDerateAndCalibrationIsKept : Prop :=
  (∀ (knee slope floor : Nat), derate none knee slope floor = floor) ∧
  (∀ (t : Int) (knee slope floor : Nat), t ≤ 16 * (knee : Int) → derate (some t) knee slope floor = 256) ∧
  (∀ (t : Int) (knee slope floor : Nat), floor ≤ 256 → floor ≤ derate (some t) knee slope floor ∧ derate (some t) knee slope floor ≤ 256) ∧
  (∀ (dt c z : Nat) (s : State), (s.tick dt).due (tZone c z) = true →
    exec (.zoneTempTimeout dt c z) s = .next (((((s.tick dt).disarm (tZone c z)).modChain c
      (fun x => { x with sense := x.sense.erase z })).zoneRefresh c z))) ∧
  (∀ (c z : Nat) (s : State), s.bus.Ranged → c < 64 → z < 8 → s.zoneSrc c z ≠ 0 → s.zoneTemp c z = none → z ∉ (s.chain c).zinv →
    s.zoneD c z = s.fld (litKey c R.LIT_DERATE) 16 8 ∧
    (s.zoneRefresh c z).rd (litKey c (R.LIT_ZONE_TEMP + 4 * z)) = s.zoneD c z * 2 ^ 17 ∧
    (s.zoneRefresh c z).pend (litPage c) 7 = true ∧ ((s.zoneRefresh c z).chain c).zinv = z :: (s.chain c).zinv) ∧
  (∀ (dt n : Nat) (s : State), n < 16 → (∀ i, i < 12 → s.pageEn (stgPage i) = false) → (∀ c, c < 64 → s.pageEn (litPage c) = false) →
    s.bus.Ranged → ∃ t, exec (.ntcMeasure dt n none) s = .next t ∧ t.ntcTemp n = none ∧ (∀ m, m ≠ n → t.ntcTemp m = s.ntcTemp m) ∧
      t.rd (rkSel calPage R.CAL_NTC_TEMP n) = 0 ∧ t.bit (rkVi calPage hdrEvtPend 0) 0 = true) ∧
  (∀ (dt n r v : Nat) (s : State), n < 16 → (∀ i, i < 12 → s.pageEn (stgPage i) = false) → (∀ c, c < 64 → s.pageEn (litPage c) = false) →
    ntcReading (s.rd (rkSel calPage R.CAL_NTC_CFG n)) (some r) = some v →
    ∃ t, exec (.ntcMeasure dt n (some r)) s = .next t ∧ t.ntcTemp n = some (signedOf 16 v) ∧
      (∀ m, m ≠ n → t.ntcTemp m = s.ntcTemp m) ∧ t.rd (rkSel calPage R.CAL_NTC_TEMP n) = v + 2 ^ 16 ∧
      ({ s.tick dt with lit := t.lit } : State).After t [rkSel calPage R.CAL_NTC_TEMP n]) ∧
  (∀ (cfg r : Nat), r < 50 ∨ 2000000 < r → ntcReading cfg (some r) = none) ∧
(∀ (dt vi j : Nat) (s : State), s.bus.physOf .val vi 0 ≠ none → s.bus.pageUp calPage = true → s.calSel vi = some j →
    ∃ t, exec (.calRead dt vi) s = .next t ∧ t.rd (calReg vi R.CAL_D0) = (s.calEntry j).1 % 2 ^ 32 ∧
      t.rd (calReg vi R.CAL_D1) = (s.calEntry j).2 % 2 ^ 32 ∧ t.rd (calReg vi R.CAL_STATUS) = 0 ∧
      (s.tick dt).After t [calReg vi R.CAL_D0, calReg vi R.CAL_D1, calReg vi R.CAL_STATUS]) ∧
  (∀ (dt vi : Nat) (s : State), s.bus.physOf .val vi 0 ≠ none → s.bus.pageUp calPage = true → s.calSel vi = none →
    exec (.calRead dt vi) s = .next ((s.tick dt).calRefuse vi) ∧ exec (.calWrite dt vi) s = .next ((s.tick dt).calRefuse vi)) ∧
  (∀ (dt vi j : Nat) (s : State), s.bus.physOf .val vi 0 ≠ none → s.bus.pageUp calPage = true → s.calSel vi = some j →
    s.bus.access .val j vi = 2 → s.jrn.closed = false → s.logRoom 2 = true →
    ∃ t, exec (.calWrite dt vi) s = .next t ∧ t.calEntry j = (s.fld (calReg vi R.CAL_D0) 0 24, s.fld (calReg vi R.CAL_D1) 0 20) ∧
      (∀ i, i ≠ j → t.calEntry i = s.calEntry i) ∧ t.rd (calReg vi R.CAL_STATUS) = 0) ∧
  (∀ (dt vi j : Nat) (s : State), s.bus.physOf .val vi 0 ≠ none → s.bus.pageUp calPage = true → s.calSel vi = some j →
    s.bus.access .val j vi = 1 → exec (.calWrite dt vi) s = .next ((s.tick dt).on (·.denied))) ∧
  (∀ (dt vi value k e : Nat) (s : State), s.bus.physOf .val vi 0 ≠ none → s.bus.pageUp calPage = true →
    e = s.fld (calReg vi R.CAL_MTX_SEL) 8 4 → e < 9 → s.physRow vi (s.rd (calReg vi R.CAL_MTX_SEL) % 256) = some k →
    s.bus.access .val (1024 * k) vi = 2 → s.jrn.closed = false → s.logRoom 1 = true → k < 256 →
    ∃ t, exec (.calMtxWrite dt vi value) s = .next t ∧ t.mtxEntry k e = value % 65536 ∧
      (∀ k' e', e' < 9 → (k', e') ≠ (k, e) → t.mtxEntry k' e' = s.mtxEntry k' e')) ∧
  (∀ (dt vi value : Nat) (s : State), s.bus.physOf .val vi 0 ≠ none → s.bus.pageUp calPage = true →
    9 ≤ s.fld (calReg vi R.CAL_MTX_SEL) 8 4 →
    exec (.calMtxWrite dt vi value) s = .next ((s.tick dt).on (·.cfgErrFor calPage vi)))

/-- R253 to R256: a matrix port reads its points in the last slot of a scan frame, shows them in the next, and drives a line a slot. -/
def Obligations.MatrixPortsScanAndDrive : Prop :=
  (∀ (dt m st : Nat) (s : State), (s.mtx m).start = some st → s.bus.now + dt < st + 15 * s.mtxSlot m →
    exec (.matrixScanRead dt m) s = .next (s.tick dt)) ∧
  (∀ (dt m st : Nat) (s : State), (s.mtx m).start = some st → st + 15 * s.mtxSlot m ≤ s.bus.now + dt → s.bus.domRuns 1 = true →
    s.val.eps.cells.filter (fun (x : Nat × Ep) => x.2.valid && decide (x.2.kind = 1) && decide (x.2.unit = m)) = [] →
    exec (.matrixScanRead dt m) s = .next ((s.tick dt).setMtx m { s.mtx m with next := [] })) ∧
  (∀ (dt m st i d w : Nat) (s : State) (e : Ep), (s.mtx m).start = some st → st + 15 * s.mtxSlot m ≤ s.bus.now + dt →
    s.bus.domRuns 1 = true →
    s.val.eps.cells.filter (fun (x : Nat × Ep) => x.2.valid && decide (x.2.kind = 1) && decide (x.2.unit = m)) = [(i, e)] →
    w = (s.tick dt).bus.w250 + 8 * (st + 16 * s.mtxSlot m - (s.bus.now + dt)) →
    d = ((s.tick dt).present e e.sub w ((s.tick dt).shownAs e w 0)).c0 →
    exec (.matrixScanRead dt m) s =
      .next (((s.tick dt).markStale i ((s.tick dt).shownAs e w 0)).setMtx m { s.mtx m with next := [(e.sub, d)] })) ∧
  (∀ (dt m st : Nat) (s : State), (s.mtx m).start = some st → st + 16 * s.mtxSlot m ≤ s.bus.now + dt →
    ∃ t, exec (.matrixScanFrameStart dt m) s = .next t ∧ (t.mtx m).duty = (s.mtx m).next ∧ (t.mtx m).cols = [] ∧
      (t.mtx m).start = some (st + 16 * s.mtxSlot m) ∧
      t.rd (mtxKey m R.MTX_CNT_SCANS) = (s.rd (mtxKey m R.MTX_CNT_SCANS) + 1) % 2 ^ 32 ∧ t.fld (mtxKey m R.MTX_STATUS) 1 4 = 0 ∧
      ({ s.tick dt with lit := t.lit } : State).After t [mtxKey m R.MTX_CNT_SCANS, mtxKey m R.MTX_STATUS]) ∧
  (∀ (dt m st l : Nat) (s : State), (s.mtx m).start = some st → l = min 15 ((s.bus.now + dt - st) / max 1 (s.mtxSlot m)) →
    ∃ t, exec (.matrixLineSlot dt m [] false) s = .next t ∧ t.fld (mtxKey m R.MTX_STATUS) 1 4 = l ∧ (t.mtx m).off = false ∧
      (t.mtx m).duty = (s.mtx m).duty ∧
      (∀ p, p ∈ (t.mtx m).cols ↔ p.2 ≠ 0 ∧ ∃ q ∈ (s.mtx m).duty, q.1 / 64 = l ∧ q.1 % 64 = p.1 ∧
        onClocks (s.fld (mtxKey m R.MTX_CTRL) 0 10) q.2 = p.2) ∧
      ({ s.tick dt with lit := t.lit } : State).After t [mtxKey m R.MTX_STATUS]) ∧
  (∀ (dt m st l : Nat) (s : State), s.bus.Ranged → m < 2 → (s.mtx m).start = some st →
    l = min 15 ((s.bus.now + dt - st) / max 1 (s.mtxSlot m)) →
    ∃ t, exec (.matrixLineSlot dt m [] true) s = .next t ∧ (t.mtx m).off = true ∧ t.bit (mtxKey m R.MTX_LINE_OC) l = true ∧
      t.pend (mtxPage m) 1 = true ∧
      ({ s.tick dt with lit := t.lit } : State).After t [mtxKey m R.MTX_STATUS, mtxKey m R.MTX_LINE_OC, pendKey (mtxPage m)])

/-- R257 to R260: a string stage reads its endpoint every 10 ms, moves to its setpoint, and stops on an open or a short. -/
def Obligations.StringStagesFollowTheirEndpointAndTrip : Prop :=
  (∀ (dt n vout : Nat) (s s1 : State), n < 12 → (s.tick dt).due (tStgRead n) = true → s.bus.domRuns 1 = true →
    s1 = (((s.tick dt).disarm (tStgRead n)).stageRefresh n).arm (tStgRead n) (clkMs 10) → s1.epFor 2 n 0 = none →
    ∃ t, exec (.stageRead dt n vout) s = .next t ∧ t.rd (stgKey n R.STG_SETPOINT) = s1.stageD n * 65536 ∧
      t.rd (stgKey n R.STG_VOUT) = vout % 4096 ∧ (t.stage n).read = 0 ∧ (t.stage n).eff = (s.stage n).eff ∧
      t.bus.timers.find? (tStgEff n) = some (s.bus.now + dt + clkUs 20)) ∧
  (∀ (dt n vout i sp w : Nat) (e : Ep) (s s1 : State), n < 12 → (s.tick dt).due (tStgRead n) = true → s.bus.domRuns 1 = true →
    s1 = (((s.tick dt).disarm (tStgRead n)).stageRefresh n).arm (tStgRead n) (clkMs 10) → s1.epFor 2 n 0 = some (i, e) →
    w = s1.bus.w250 + 8 * clkUs 20 → sp = (s1.present e n w (s1.shownAs e w 0)).c0 * s1.stageD n / 256 →
    ∃ t, exec (.stageRead dt n vout) s = .next t ∧ (t.stage n).read = sp ∧ (t.stage n).eff = (s.stage n).eff ∧
      t.rd (stgKey n R.STG_SETPOINT) = (sp + s1.stageD n * 65536) % 2 ^ 32 ∧ t.rd (stgKey n R.STG_VOUT) = vout % 4096) ∧
  (∀ (dt n : Nat) (s : State), (s.tick dt).due (tStgEff n) = true → s.stageStopped n = false →
    stageLight (s.fld (stgKey n R.STG_CTRL) 0 2) (s.stage n).read ≠ ((s.stage n).dst, (s.stage n).duty) →
    ∃ t, exec (.stageSetpointEffect dt n) s = .next t ∧ (t.stage n).eff = (s.stage n).read ∧
      ((t.stage n).dst, (t.stage n).duty) = stageLight (s.fld (stgKey n R.STG_CTRL) 0 2) (s.stage n).read ∧
      (t.stage n).since = s.bus.now + dt) ∧
  (∀ (dt n : Nat) (s : State), s.bus.Ranged → n < 12 → s.pageEn (stgPage n) = true → s.stageStopped n = false →
    ∃ t, exec (.stageOvervoltage dt n) s = .next t ∧ t.rd (stgKey n R.STG_STATUS) = 3 ∧ t.rd (stgKey n R.STG_IOUT) = 0 ∧
      t.rd (stgKey n R.STG_CNT_OPEN) = min (s.rd (stgKey n R.STG_CNT_OPEN) + 1) 0xFFFFFFFF ∧ t.pend (stgPage n) 0 = true ∧
      (t.stage n).dst = 0 ∧ (t.stage n).duty = 0 ∧ t.bus.timers.find? (tStgRetry n) = some (s.bus.now + dt + clkS 1)) ∧
  (∀ (dt n : Nat) (s : State), s.bus.Ranged → n < 12 → s.pageEn (stgPage n) = true → s.stageStopped n = false → (s.stage n).eff ≠ 0 →
    ∃ t, exec (.stageShort dt n) s = .next t ∧ t.rd (stgKey n R.STG_STATUS) = 4 ∧ t.rd (stgKey n R.STG_IOUT) = 0 ∧
      t.rd (stgKey n R.STG_CNT_SHORT) = min (s.rd (stgKey n R.STG_CNT_SHORT) + 1) 0xFFFFFFFF ∧ t.pend (stgPage n) 1 = true ∧
      (t.stage n).dst = 0 ∧ (t.stage n).duty = 0) ∧
  (∀ (dt n : Nat) (s : State), (s.stage n).eff = 0 → exec (.stageShort dt n) s = .next (s.tick dt)) ∧
  (∀ (dt n : Nat) (s : State), s.bus.Ranged → n < 12 → (s.tick dt).due (tStgRetry n) = true → s.stageStopped n = true →
    s.bit (stgKey n R.STG_CTRL) 2 = true → ∃ t, exec (.stageRetry dt n) s = .next t ∧ t.pend (stgPage n) 2 = true ∧
      ((t.stage n).dst, (t.stage n).duty) = stageLight (s.fld (stgKey n R.STG_CTRL) 0 2) (s.stage n).eff ∧ t.stageStopped n = false) ∧
  (∀ (dt n : Nat) (s : State), (s.tick dt).due (tStgRetry n) = true → s.stageStopped n = true → s.bit (stgKey n R.STG_CTRL) 2 = false →
    exec (.stageRetry dt n) s = .next (((s.tick dt).disarm (tStgRetry n)).arm (tStgRetry n) (clkS 1)))

/-! ## Load channels, switch inputs, encoders and coils (chapter 10) -/

/-- R267 to R275, Tables 10-3 and 10-4: how a load channel follows its demand, trips, cools, latches, and rides a dip of VFIELD. R273,
R274, R298: the whole field supply: the aggregate limit sheds the lowest priority, undervoltage takes every load and every coil, and the
loads come back by their RESTORE. That a demand that goes off wins over the heat is the model's choice (log 24). -/
def Obligations.LoadChannelsAndTheirSupplyFollowDemandAndTrip : Prop :=
  (∀ (dt vi ch v : Nat) (s : State), ch < 24 → s.bus.pageAccess (ldsPage ch) vi = 2 → s.bus.pageUp (ldsPage ch) = true →
    s.jrn.closed = false → s.logRoom 1 = true → ∃ t, exec (.ldsOutWrite dt vi ch v) s = .next t ∧
      t.fld (ldsKey ch R.LDS_OUT) 0 1 = v % 2 ∧ (∀ c, c < 24 → c ≠ ch → t.rd (ldsKey c R.LDS_OUT) = s.rd (ldsKey c R.LDS_OUT)) ∧
      t.ldsState ch = s.ldsState ch) ∧
  (∀ (dt ch ma us lh vf : Nat) (tj : Int) (uv : Bool) (s s1 : State),
    s1 = (((((s.tick dt).wr (ldsKey ch R.LDS_IMEAS) (min ma 65535)).wr (ldsKey ch R.LDS_TJ) (ofSignedSat 16 tj)).setFld
      (ldsG R.LDS_G_STATUS) 8 8 lh).wr (ldsG R.LDS_G_VFIELD) (min vf 4095)).ldsRefresh ch →
    exec (.ldsEvaluate dt ch ma us tj lh vf uv) s =
      .next (s1.ldsResolve ch (s1.ldsTrips ch ma us) (decide (2720 ≤ tj)) uv)) ∧
  (∀ (s : State) (ch : Nat), s.ldsState ch = 0 → (s.ldsDemand ch).1 = true → ch ∉ s.lds.needLow →
    s.ldsResolve ch false false false = s.ldsStart ch) ∧
  (∀ (s : State) (ch : Nat), ch < 24 → s.ldsState ch = 0 ∨ s.ldsState ch = 4 → (s.ldsStart ch).ldsState ch = 1 ∧
    (s.ldsStart ch).bit (ldsKey ch R.LDS_STATUS) 4 = true ∧ (s.ldsOff ch).ldsState ch = 0 ∧
    (s.ldsOff ch).bit (ldsKey ch R.LDS_STATUS) 4 = false ∧ (s.ldsOff ch).ldsTries ch = 0) ∧
  (∀ (dt ch ma us n : Nat) (s s1 : State), s.bus.Ranged → ch < 24 → s1 = (s.tick dt).wr (ldsKey ch R.LDS_IMEAS) (min ma 65535) →
    s1.ldsTrips ch ma us = true → (s1.ldsDemand ch).1 = true → s1.ldsTj ch < 2720 → n = min (s.ldsTries ch + 1) 15 →
    ∃ t, exec (.ldsTrip dt ch ma us) s = .next t ∧ t.ldsState ch = (if s.fld (ldsKey ch R.LDS_CFG) 4 4 ≤ n then 4 else 3) ∧
      t.bit (ldsKey ch R.LDS_STATUS) 4 = false ∧ t.ldsTries ch = n ∧ t.pend (ldsPage ch) 0 = true ∧
      t.rd (ldsKey ch R.LDS_CNT_OC) = min (s.rd (ldsKey ch R.LDS_CNT_OC) + 1) 0xFFFFFFFF ∧
      (n < s.fld (ldsKey ch R.LDS_CFG) 4 4 →
        t.bus.timers.find? (tPause ch) = some (s.bus.now + dt + clkMs (s.fld (ldsKey ch R.LDS_CFG) 8 8 * 2 ^ min (n - 1) 7)))) ∧
  (∀ (dt ch : Nat) (s : State), ch < 24 → (s.tick dt).due (tInrush ch) = true → s.ldsState ch = 1 →
    ∃ t, exec (.ldsInrushEnd dt ch) s = .next t ∧ t.ldsState ch = 2 ∧ t.lds.inrush.find? ch = none ∧
      t.bus.timers.find? (tTries ch) = some (s.bus.now + dt + clkS 1)) ∧
  (∀ (dt ch : Nat) (s : State), (s.tick dt).due (tPause ch) = true → s.ldsState ch = 3 →
    exec (.ldsPauseExpire dt ch) s = .next (((s.tick dt).disarm (tPause ch)).ldsGo ch)) ∧
  (∀ (dt ch : Nat) (s : State), (s.tick dt).due (tTries ch) = true →
    ∃ t, exec (.ldsTriesClear dt ch) s = .next t ∧ t.ldsTries ch = 0 ∧
      ((s.tick dt).disarm (tTries ch)).After t [ldsKey ch R.LDS_STATUS]) ∧
  (∀ (dt ch : Nat) (tj : Int) (s : State), 2720 ≤ tj → 1 ≤ s.ldsState ch → s.ldsState ch ≤ 3 →
    exec (.ldsThermalShutdown dt ch tj) s = .next (((s.tick dt).wr (ldsKey ch R.LDS_TJ) (ofSignedSat 16 tj)).ldsThermal ch)) ∧
  (∀ (dt ch : Nat) (tj : Int) (s : State), tj < 2720 →
    exec (.ldsThermalShutdown dt ch tj) s = .next ((s.tick dt).wr (ldsKey ch R.LDS_TJ) (ofSignedSat 16 tj))) ∧
  (∀ (dt ch : Nat) (tj : Int) (s : State), s.ldsState ch = 5 → tj < 2720 - 16 * (s.fld (ldsKey ch R.LDS_CFG) 24 6 : Nat) →
    exec (.ldsThermalRecover dt ch tj) s = .next (((s.tick dt).wr (ldsKey ch R.LDS_TJ) (ofSignedSat 16 tj)).ldsGo ch)) ∧
  (∀ (s : State) (ch : Nat), s.bus.Ranged → ch < 24 → (s.ldsThermal ch).ldsState ch = 5 ∧
    (s.ldsThermal ch).bit (ldsKey ch R.LDS_STATUS) 4 = false ∧ (s.ldsThermal ch).pend (ldsPage ch) 2 = true ∧
    (s.ldsThermal ch).rd (ldsKey ch R.LDS_CNT_THERM) = min (s.rd (ldsKey ch R.LDS_CNT_THERM) + 1) 0xFFFFFFFF) ∧
  (∀ (dt ch vf : Nat) (s : State), s.bus.Ranged → ch < 24 → s.bit (ldsKey ch R.LDS_CFG) 3 = true → s.ldsState ch = 2 → 900 ≤ vf →
    s.bit (ldsKey ch R.LDS_STATUS) 6 = false → ∃ t, exec (.ldsOpenLoad dt ch true vf) s = .next t ∧
      t.bit (ldsKey ch R.LDS_STATUS) 6 = true ∧ t.pend (ldsPage ch) 3 = true ∧
      (s.tick dt).After t [ldsG R.LDS_G_VFIELD, ldsKey ch R.LDS_STATUS, pendKey (ldsPage ch)]) ∧
  (∀ (dt ch : Nat) (s : State), s.bit (ldsKey ch R.LDS_STATUS) 4 = false →
    exec (.ldsStuckOn dt ch) s = .next ((s.tick dt).fault 81 { page := ldsPage ch })) ∧
  (∀ (dt ch vi v : Nat) (s : State), ch < 24 → s.bus.pageAccess (ldsPage ch) vi = 2 → s.bus.pageUp (ldsPage ch) = true →
    bitOf 0 v = true → s.ldsState ch = 4 → exec (.ldsLatchClr dt vi ch v) s =
      .next ((((s.tick dt).ldsOff ch).setBit (ldsKey ch R.LDS_STATUS) 7 false).ldsResolve ch false false false)) ∧
  (∀ (dt ch vi v : Nat) (s : State), ch < 24 → s.bus.pageAccess (ldsPage ch) vi = 2 → s.bus.pageUp (ldsPage ch) = true →
    bitOf 0 v = false ∨ s.ldsState ch ≠ 4 → exec (.ldsLatchClr dt vi ch v) s = .next (s.tick dt)) ∧
(∀ (dt total : Nat) (s : State), total ≤ s.fld (ldsG R.LDS_G_AGG) 0 12 → ∃ t, exec (.ldsAggregateCheck dt total) s = .next t ∧
    t.rd (ldsG R.LDS_G_ITOTAL) = min total 65535 ∧ t.bit (ldsG R.LDS_G_STATUS) 4 = false ∧
    (s.tick dt).After t [ldsG R.LDS_G_ITOTAL, ldsG R.LDS_G_STATUS]) ∧
  (∀ (dt total ch : Nat) (s : State), s.bus.Ranged → s.fld (ldsG R.LDS_G_AGG) 0 12 < total → s.shedChoice = some ch →
    ∃ t, exec (.ldsAggregateCheck dt total) s = .next t ∧ t.ldsState ch = 4 ∧ t.bit (ldsKey ch R.LDS_STATUS) 7 = true ∧
      t.bit (ldsKey ch R.LDS_STATUS) 4 = false ∧ t.pend (ldsPage ch) 5 = true ∧ t.pend (ldsPage ch) 1 = true ∧
      (∀ c, c < 24 → c ≠ ch → t.ldsState c = s.ldsState c)) ∧
  (∀ (s : State) (ch : Nat), s.shedChoice = some ch → ch < 24 ∧ (s.ldsState ch = 1 ∨ s.ldsState ch = 2) ∧
    ∀ c, c < 24 → s.ldsState c = 1 ∨ s.ldsState c = 2 →
      s.fld (ldsKey ch R.LDS_CFG) 18 4 < s.fld (ldsKey c R.LDS_CFG) 18 4 ∨
        (s.fld (ldsKey ch R.LDS_CFG) 18 4 = s.fld (ldsKey c R.LDS_CFG) 18 4 ∧ c ≤ ch)) ∧
  (∀ (dt vf : Nat) (s : State), s.bus.Ranged → ∃ t, exec (.vfieldUndervoltage dt vf) s = .next t ∧
    t.bit (ldsG R.LDS_G_STATUS) 3 = true ∧ t.rd (ldsG R.LDS_G_VFIELD) = min vf 4095 ∧
    (∀ ch, ch < 24 → t.ldsState ch = (if s.ldsState ch = 4 then 4 else 6)) ∧
    (∀ ch, ch < 24 → s.ldsState ch ≠ 4 → s.ldsState ch ≠ 6 → t.bit (ldsKey ch R.LDS_STATUS) 4 = false ∧ t.ldsTries ch = 0) ∧
    (∀ c, c < 8 → s.coiPhase c = 1 → (s.coil c).wait ≠ .ending →
      (t.coil c).wait = .ending ∧ (t.coil c).drive = .diodes ∧ t.fld (coiKey c R.COI_STATUS) 11 3 = 2)) ∧
  (∀ (dt vf : Nat) (s s1 : State), s1 = ((s.tick dt).wr (ldsG R.LDS_G_VFIELD) (min vf 4095)).setBit (ldsG R.LDS_G_STATUS) 3 false →
    exec (.vfieldRestored dt vf) s = .next ((List.range 24).foldl State.ldsRelease s1)) ∧
  (∀ (s : State) (ch : Nat), s.ldsState ch ≠ 6 → s.ldsRelease ch = s) ∧
  (∀ (s : State) (ch : Nat), ch < 24 → s.ldsState ch = 6 → s.fld (ldsKey ch R.LDS_CFG) 16 2 = 2 →
    s.ldsRelease ch = ((s.ldsEnter ch 7).arm (tRestore ch) (clkMs (ch * s.fld (ldsG R.LDS_G_STAGGER) 0 8))).raise (ldsPage ch) 7) ∧
  (∀ (dt ch : Nat) (s : State), (s.tick dt).due (tRestore ch) = true → s.ldsState ch = 7 →
    exec (.ldsRestoringExpire dt ch) s = .next (((s.tick dt).disarm (tRestore ch)).ldsRestart ch))

/-- R276 to R279: limp-home begins on LIMP_N and on the loss of the heartbeat, holds the demands of that moment, and ends by command. -/
def Obligations.LimpHomeBeginsHoldsAndEnds : Prop :=
  (∀ (dt : Nat) (s : State), s.bus.Ranged → s.limp = false → ∃ t, exec (.limpNLow dt) s = .next t ∧ t.limp = true ∧
    t.bit (ldsG R.LDS_G_STATUS) 1 = true ∧
    (∀ ch, ch ∈ t.lds.hold ↔ ch < 24 ∧ (((s.tick dt).setBit (ldsG R.LDS_G_STATUS) 1 true).ldsDemand ch).1 = true) ∧
    (∀ ch, ch ∈ t.lds.limpPause ↔ ch < 24 ∧ s.ldsState ch = 3) ∧ (∀ ch, ch < 24 → t.pend (ldsPage ch) 6 = true)) ∧
  (∀ (dt : Nat) (s : State), s.limp = true → exec (.limpNLow dt) s = .next ((s.tick dt).setBit (ldsG R.LDS_G_STATUS) 1 true)) ∧
  (∀ (dt : Nat) (s : State), s.bus.pageUp (ldsPage 0) = true →
    s.bit (rk (Block.pwr.pg 0) R.PWR_STATUS) 16 = false →
    exec (.heartbeatWrite dt 0) s = .next (((s.tick dt).setBit (ldsG R.LDS_G_STATUS) 2 false).arm tHeartbeat (clkMs 100))) ∧
  (∀ (dt vi : Nat) (s : State), vi ≠ 0 → s.bus.pageAccess (ldsPage 0) vi = 2 → s.bus.pageUp (ldsPage 0) = true →
    exec (.heartbeatWrite dt vi) s = .next ((s.tick dt).on (·.denied))) ∧
  (∀ (dt : Nat) (s : State), (s.tick dt).due tHeartbeat = true → exec (.heartbeatLoss dt) s =
    .next (((((s.tick dt).disarm tHeartbeat).setBit (ldsG R.LDS_G_STATUS) 2 true).limpBegin).fault 80 { page := ldsPage 0 })) ∧
  (∀ (dt ch : Nat) (s : State), s.limp = true → s.bit (ldsG R.LDS_G_STATUS) 5 = true → s.fld (ldsKey ch R.LDS_CLASS) 0 2 = 2 →
    s.limpInput ch = false → exec (.limpLatchClear dt ch) s = .next ((s.tick dt).ldsUnlatch ch)) ∧
  (∀ (dt ch : Nat) (s : State), s.limp = false → exec (.limpLatchClear dt ch) s = .next (s.tick dt)) ∧
  (∀ (dt v : Nat) (s : State), s.bus.Ranged → s.bus.pageUp (ldsPage 0) = true → bitOf 0 v = true → s.bus.running tHeartbeat = true →
    (s.tick dt).due tHeartbeat = false → s.limp = true → ∃ t, exec (.limpExit dt 0 v true) s = .next t ∧ t.limp = false ∧
      t.lds.hold = [] ∧ t.bit (ldsG R.LDS_G_STATUS) 1 = false ∧ (∀ ch, ch < 24 → t.pend (ldsPage ch) 6 = true)) ∧
  (∀ (dt v : Nat) (s : State), s.bus.pageUp (ldsPage 0) = true → bitOf 0 v = true →
    exec (.limpExit dt 0 v false) s = .next (((s.tick dt).setBit (ldsG R.LDS_G_STATUS) 1 true).cfgErr (ldsPage 0)))

/-- R282 to R285, R496: an input's sample is invalid outside its range, keeps its level between the thresholds, changes the state after its
debounce, and enters the queue; the owner takes entries from the queue. R287 to R289, Table 10-10: encoders count edges, flag a step on
both channels, and judge an index against PPR. Which direction counts up is the model's choice (log 26). -/
def Obligations.SwitchesAndEncodersAreRead : Prop :=
  (∀ (prev : Bool) (mv : Int), (10000 < mv → switchLevel true mv prev = true) ∧ (mv < 7000 → switchLevel true mv prev = false) ∧
    (7000 ≤ mv → mv ≤ 10000 → switchLevel true mv prev = prev) ∧ (mv < 4000 → switchLevel false mv prev = true) ∧
    (7000 < mv → switchLevel false mv prev = false) ∧ (4000 ≤ mv → mv ≤ 7000 → switchLevel false mv prev = prev)) ∧
  (∀ (dt vf : Nat) (mv : List Int) (s : State), s.pageEn swiPage = true → s.bus.pageUp swiPage = true →
    exec (.swiSample dt mv vf) s = .next ((s.tick dt).swiInputs vf (s.tick dt).bus.w250 none (mv.take 64) 0)) ∧
  (∀ (dt vf : Nat) (mv : List Int) (s : State), s.pageEn swiPage = false → exec (.swiSample dt mv vf) s = .next (s.tick dt) ∧
    exec (.swiWatchSample dt mv vf) s = .next (s.tick dt)) ∧
  (∀ (dt vf : Nat) (mv : List Int) (s s1 : State), s.pageEn swiPage = true → s.bus.inWatch 16 = true →
    s1 = (s.tick dt).swiInputs vf (aonStamp (s.tick dt).bus.w250) (some 2) (mv.take 64) 0 →
    exec (.swiWatchSample dt mv vf) s = .next (if s1.swiWakes then (((s1.raise swiPage 2).sectionWake 16).wake 5).localWakes else s1)) ∧
  (∀ (s : State) (i vf n stamp : Nat) (mv : Int), s.bit (swiCfg i) 0 = true → mv < -500 ∨ (vf : Int) + 500 < mv →
    s.swiInput i mv vf n stamp = s.swiInvalid i) ∧
  (∀ (s : State) (i vf n stamp c st : Nat) (mv : Int) (lv : Bool), s.bit (swiCfg i) 0 = true → -500 ≤ mv → mv ≤ (vf : Int) + 500 →
    lv = switchLevel (s.bit (swiCfg i) 1) mv (s.swi.sample.find false i) → lv ≠ s.swi.level.find false i →
    s.swi.agree.find? i = some (c, st) → c + 1 < n →
    ((s.swiInput i mv vf n stamp).swi.agree.find? i = some (c + 1, st)) ∧
      (s.swiInput i mv vf n stamp).swi.level = s.swi.level ∧ (s.swiInput i mv vf n stamp).swi.queue = s.swi.queue) ∧
  (∀ (dt vi : Nat) (s : State) (e : SwiEntry) (rest : List SwiEntry), s.bus.pageAccess swiPage vi = 2 → s.bus.pageUp swiPage = true →
    s.swi.queue = e :: rest → ∃ t, exec (.swiQueuePop dt vi) s = .next t ∧ t.swi = { s.swi with queue := rest, snap := e.stamp } ∧
      t.bus.out = .readData vi (e.input + b2n e.level * 64 + 2 ^ 31) :: s.bus.out ∧
      t = { (s.tick dt).emit (.readData vi (e.input + b2n e.level * 64 + 2 ^ 31)) with swi := t.swi }) ∧
  (∀ (dt vi : Nat) (s : State), s.bus.pageAccess swiPage vi = 1 → s.bus.pageUp swiPage = true →
    exec (.swiQueuePop dt vi) s = .next ((s.tick dt).emit (.readData vi s.swiHead))) ∧
(∀ (dt e : Nat) (a b : Bool) (d : Int) (s : State), s.pageEn (encPage e) = true → s.bus.pageUp (encPage e) = true →
    s.bit (encKey e R.ENC_STATUS) 3 = a ∨ s.bit (encKey e R.ENC_STATUS) 4 = b →
    d = quadrature (s.bit (encKey e R.ENC_STATUS) 3) (s.bit (encKey e R.ENC_STATUS) 4) a b →
    ∃ t, exec (.encEdge dt e a b) s = .next t ∧
      t.rd (encKey e R.ENC_POS) = ofSigned 32 (signedOf 32 (s.rd (encKey e R.ENC_POS)) + (if s.bit (encKey e R.ENC_CTRL) 1 then -d else d)) ∧
      t.bit (encKey e R.ENC_STATUS) 3 = a ∧ t.bit (encKey e R.ENC_STATUS) 4 = b ∧
      (s.tick dt).After t [encKey e R.ENC_STATUS, encKey e R.ENC_POS]) ∧
  (∀ (dt e : Nat) (a b : Bool) (s : State), s.bus.Ranged → e < 8 → s.pageEn (encPage e) = true → s.bus.pageUp (encPage e) = true →
    s.bit (encKey e R.ENC_STATUS) 3 ≠ a → s.bit (encKey e R.ENC_STATUS) 4 ≠ b →
    ∃ t, exec (.encEdge dt e a b) s = .next t ∧ t.bit (encKey e R.ENC_STATUS) 2 = true ∧ t.pend (encPage e) 2 = true ∧
      t.rd (encKey e R.ENC_CNT_QERR) = min (s.rd (encKey e R.ENC_CNT_QERR) + 1) 0xFFFFFFFF ∧
      (s.tick dt).After t [encKey e R.ENC_STATUS, encKey e R.ENC_CNT_QERR, pendKey (encPage e)]) ∧
  (∀ a b : Bool, quadrature a b a b = 0 ∧ quadrature a b a (!b) = - quadrature a (!b) a b ∧ quadrature a b (!a) b = - quadrature (!a) b a b) ∧
  (∀ (dt e : Nat) (s s1 : State), s.pageEn (encPage e) = true → s.bus.pageUp (encPage e) = true → s.bit (encKey e R.ENC_CTRL) 3 = true →
    s.bit (encKey e R.ENC_CTRL) 9 = false →
    s1 = ((s.tick dt).setBit (encKey e R.ENC_STATUS) 5 (!s.bit (encKey e R.ENC_CTRL) 8)).addWrap (encKey e R.ENC_CNT_INDEX) 1 →
    exec (.encIndex dt e) s = .next ((s1.raise (encPage e) 0).encIndex e)) ∧
  (∀ (s : State) (e : Nat), s.bit (encKey e R.ENC_STATUS) 0 = false →
    s.encIndex e = (s.wr (encKey e R.ENC_IDX_POS) (s.rd (encKey e R.ENC_POS))).setBit (encKey e R.ENC_STATUS) 0 true) ∧
  (∀ (s : State) (e : Nat), s.bus.Ranged → e < 8 → s.bit (encKey e R.ENC_STATUS) 0 = true → s.fld (encKey e R.ENC_PPR) 0 24 ≠ 0 →
    s.rd (encKey e R.ENC_POS) ≠ s.rd (encKey e R.ENC_IDX_POS) →
    (signedOf 32 (s.rd (encKey e R.ENC_POS) + 2 ^ 32 - s.rd (encKey e R.ENC_IDX_POS))).natAbs ≠ s.fld (encKey e R.ENC_PPR) 0 24 →
    s.bit (encKey e R.ENC_CTRL) 0 = false →
    (s.encIndex e).bit (encKey e R.ENC_STATUS) 1 = true ∧ (s.encIndex e).pend (encPage e) 1 = true ∧
    (s.encIndex e).rd (encKey e R.ENC_IDX_POS) = s.rd (encKey e R.ENC_POS) ∧
    (s.encIndex e).rd (encKey e R.ENC_POS) = s.rd (encKey e R.ENC_POS) ∧
    (s.encIndex e).rd (encKey e R.ENC_CNT_MISMATCH) = min (s.rd (encKey e R.ENC_CNT_MISMATCH) + 1) 0xFFFFFFFF) ∧
  (∀ (dt vi e v : Nat) (s : State), s.bus.pageAccess (encPage e) vi = 2 → s.bus.pageUp (encPage e) = true →
    ∃ t, exec (.encPosWrite dt vi e v) s = .next t ∧ t.rd (encKey e R.ENC_POS) = v % 2 ^ 32 ∧ t.bit (encKey e R.ENC_STATUS) 0 = false ∧
      (s.tick dt).After t [encKey e R.ENC_POS, encKey e R.ENC_STATUS])

/-- R291 to R299, Tables 10-11 to 10-13: a coil fires when idle and enabled, its sequencer runs one word at a time, and a sequence ends
when its current has decayed. What a FIRE does to the bridge, SRC and target, and that BADOP stays, is the model's choice (log 27). -/
def Obligations.CoilsFireRunAndEnd : Prop :=
  (∀ (dt vi c v : Nat) (s : State), c < 8 → s.bus.pageAccess (coiPage c) vi = 2 → s.bus.pageUp (coiPage c) = true → s.coiPhase c = 0 →
    s.pageEn (coiPage c) = true → s.relayReader 2 c = none → ∃ t, exec (.coiFire dt vi c v) s = .next t ∧ t.coiPhase c = 1 ∧
      t.coiAt c = v % 64 ∧ t.coil c = { Coil.init with ready := s.bus.now + dt, wait := .none } ∧
      t.rd (coiKey c R.COI_CNT_FIRE) = (s.rd (coiKey c R.COI_CNT_FIRE) + 1) % 2 ^ 32 ∧ (∀ d, d ≠ c → t.coil d = s.coil d) ∧
      ({ s.tick dt with coils := t.coils } : State).After t [coiKey c R.COI_STATUS, coiKey c R.COI_CNT_FIRE]) ∧
  (∀ (dt vi c v : Nat) (s : State), c < 8 → s.bus.pageAccess (coiPage c) vi = 2 → s.bus.pageUp (coiPage c) = true →
    s.coiPhase c ≠ 0 ∨ s.pageEn (coiPage c) = false ∨ (s.relayReader 2 c).isSome →
    exec (.coiFire dt vi c v) s = .next (((s.tick dt).addSat (coiKey c R.COI_CNT_REFUSED) 1).raise (coiPage c) 1)) ∧
  (∀ (dt vi c v : Nat) (s : State), c < 8 → s.bus.pageAccess (coiPage c) vi = 2 → s.bus.pageUp (coiPage c) = true → bitOf 0 v = true →
    s.coiPhase c = 1 → (s.coil c).wait ≠ .ending →
    exec (.coiAbort dt vi c v) s = .next ((s.tick dt).coiEnd c 1 (s.coiOffDrive c))) ∧
  (∀ (s : State) (c reason : Nat) (d : CoilDrive), c < 8 → s.bus.Ranged → reason < 8 → reason ≠ 0 →
    ((s.coiEnd c reason d).coil c).drive = d ∧ ((s.coiEnd c reason d).coil c).wait = .ending ∧
    (s.coiEnd c reason d).fld (coiKey c R.COI_STATUS) 11 3 = reason ∧ (s.coiEnd c reason d).pend (coiPage c) 5 = true ∧
    (s.coiEnd c reason d).coiPhase c = s.coiPhase c) ∧
  (∀ (dt c n : Nat) (s s0 : State), s0 = s.tick dt → n = s.coiWord c % 4096 →
    (s0.coiRuns c [0] = true → exec (.coiOpEnd dt c) s = .next (s0.coiEnd c 0 (s.coiOffDrive c))) ∧
    (s0.coiRuns c [1] = true → 0 < n → exec (.coiOpSeti dt c) s =
      .next ((s0.setCoil c { s.coil c with target := 2 * n, full := false, drive := .regulate (2 * n) }).coiNext c)) ∧
    (s0.coiRuns c [1] = true → n = 0 → exec (.coiOpSeti dt c) s =
      .next ((s0.setCoil c { s.coil c with target := 0, full := false, drive := s.coiOffDrive c }).coiNext c)) ∧
    (s0.coiRuns c [2] = true → bitOf 2 n = true → exec (.coiOpSrc dt c) s =
      .next ((s0.setCoil c { s.coil c with vboost := bitOf 0 n, dir := bitOf 1 n, full := true, drive := .full }).coiNext c)) ∧
    (s0.coiRuns c [3] = true → exec (.coiOpWaitu dt c) s = .next (s0.coiWait c (clkUs n) .time)) ∧
    (s0.coiRuns c [4] = true → exec (.coiOpWaitm dt c) s = .next (s0.coiWait c (clkMs n) .time)) ∧
    (s0.coiRuns c [5] = true → exec (.coiOpWaitk dt c) s =
      .next (s0.coiWait c (clkUs (100 * n)) (.kink s0.bus.now (s0.bus.now + clkUs (100 * n))))) ∧
    (s0.coiRuns c [6] = true → exec (.coiOpJmp dt c) s = .next (s0.coiJump c (n % 64))) ∧
    (s0.coiRuns c [7] = true → s.fld (coiKey c R.COI_STATUS) 24 6 = 0 → n / 64 = 0 → exec (.coiOpLoop dt c) s = .next (s0.coiNext c)) ∧
    (s0.coiRuns c [7] = true → s.fld (coiKey c R.COI_STATUS) 24 6 = 0 → 2 ≤ n / 64 → exec (.coiOpLoop dt c) s =
      .next ((s0.setFld (coiKey c R.COI_STATUS) 24 6 (n / 64 - 1)).coiJump c (n % 64))) ∧
    (s0.coiRuns c [7] = true → s.fld (coiKey c R.COI_STATUS) 24 6 = 1 → exec (.coiOpLoop dt c) s =
      .next ((s0.setFld (coiKey c R.COI_STATUS) 24 6 0).coiNext c)) ∧
    (s0.coiRuns c [8] = true → exec (.coiOpBk dt c) s =
      .next (if s.bit (coiKey c R.COI_STATUS) 8 then s0.coiJump c (n % 64) else s0.coiNext c)) ∧
    (s0.coiRuns c [9] = true → exec (.coiOpBnk dt c) s =
      .next (if s.bit (coiKey c R.COI_STATUS) 9 then s0.coiJump c (n % 64) else s0.coiNext c)) ∧
    (s0.coiRuns c [10] = true → exec (.coiOpBvb dt c) s =
      .next (if s.bit (coiG R.COI_G_STATUS) 0 then s0.coiNext c else s0.coiJump c (n % 64))) ∧
    (s0.coiRuns c [11] = true → exec (.coiOpFree dt c) s = .next ((s0.setCoil c { s.coil c with drive := .freewheel }).coiNext c)) ∧
    (s0.coiRuns c [12] = true → exec (.coiOpRecov dt c) s = .next (s0.setCoil c { s.coil c with drive := .recover, wait := .decay })) ∧
    (s0.coiRuns c [13] = true → exec (.coiOpEvt dt c) s =
      .next (((s0.setFld (coiKey c R.COI_STATUS) 16 8 n).raise (coiPage c) 4).coiNext c)) ∧
    (s0.coiRuns c [14, 15] = true → exec (.coiOpReserved dt c false) s =
      .next ((s0.setBit (coiKey c R.COI_STATUS) 10 true).coiEnd c 4 (s.coiOffDrive c))) ∧
    (s0.coiRuns c (List.range 16) = true → exec (.coiOpReserved dt c true) s =
      .next ((s0.fault 84 { page := coiPage c }).coiEnd c 4 (s.coiOffDrive c)))) ∧
  (∀ (dt c : Nat) (s : State), s.coiPhase c ≠ 1 → exec (.coiOpEnd dt c) s = .next (s.tick dt) ∧ exec (.coiOpLoop dt c) s = .next (s.tick dt) ∧
    exec (.coiOpReserved dt c true) s = .next (s.tick dt)) ∧
  (∀ (dt c : Nat) (m : CoilMeas) (s : State), s.coiPhase c = 1 → (s.coil c).wait = .time → (s.coil c).ready ≤ s.bus.now + dt →
    exec (.coiWaitExpire dt c m) s = .next (((s.tick dt).coiMeasure c m).coiGo c (s.coiAt c + 1) 0)) ∧
  (∀ (dt c maxMv avg start stop i : Nat) (m : CoilMeas) (s : State), s.bus.Ranged → c < 8 → s.coiPhase c = 1 →
    (s.coil c).wait = .kink start stop → (s.coil c).drive = .regulate i →
    start + clkUs (s.fld (coiKey c R.COI_KINK) 8 16) ≤ s.bus.now + dt → s.bus.now + dt < stop →
    avg + 100 * s.fld (coiKey c R.COI_KINK) 0 8 ≤ maxMv → ∃ t, exec (.coiKinkDetect dt c maxMv avg m) s = .next t ∧
      t.bit (coiKey c R.COI_STATUS) 8 = true ∧ t.rd (coiKey c R.COI_KINK_T) = min ((s.bus.now + dt - start) / 500) 0xFFFFFF ∧
      t.pend (coiPage c) 2 = true ∧ t.coiAt c = (s.coiAt c + 1) % 64 ∧ (t.coil c).wait = .none) ∧
  (∀ (dt c start stop : Nat) (m : CoilMeas) (s : State), s.bus.Ranged → c < 8 → s.coiPhase c = 1 → (s.coil c).wait = .kink start stop →
    stop ≤ s.bus.now + dt → ∃ t, exec (.coiWaitkTimeout dt c m) s = .next t ∧ t.bit (coiKey c R.COI_STATUS) 9 = true ∧
      t.pend (coiPage c) 3 = true ∧ t.coiAt c = (s.coiAt c + 1) % 64 ∧ (t.coil c).wait = .none) ∧
  (∀ (dt c : Nat) (m : CoilMeas) (s : State), s.bus.Ranged → c < 8 → s.coiPhase c = 1 → (s.coil c).wait = .ending → m.ma.natAbs < 20 →
    s.fld (coiKey c R.COI_STATUS) 11 3 = 0 → ∃ t, exec (.coiCurrentDecayed dt c m) s = .next t ∧ t.coiPhase c = 2 ∧ t.coil c = Coil.init ∧
      t.pend (coiPage c) 0 = true ∧
      t.bus.timers.find? (tMinoff c) = some (s.bus.now + dt + clkMs (max 1 (s.fld (coiKey c R.COI_MINOFF) 0 16)))) ∧
  (∀ (dt c : Nat) (m : CoilMeas) (s : State), s.coiPhase c = 1 → (s.coil c).wait = .decay → m.ma.natAbs < 20 →
    exec (.coiCurrentDecayed dt c m) s = .next (((s.tick dt).coiMeasure c m).coiNext c)) ∧
  (∀ (dt c : Nat) (s : State), (s.tick dt).due (tMinoff c) = true → ∃ t, exec (.coiMinoffExpire dt c) s = .next t ∧ t.coiPhase c = 0 ∧
    ((s.tick dt).disarm (tMinoff c)).After t [coiKey c R.COI_STATUS]) ∧
  (∀ (dt mv set : Nat) (s : State), s.bus.Ranged → set = 20 * s.fld (coiG R.COI_G_VBOOST_SET) 0 12 → mv ≤ set + 1000 → set ≤ mv + 1000 →
    s.bit (coiG R.COI_G_STATUS) 0 = false → ∃ t, exec (.vboostLevelChange dt mv) s = .next t ∧ t.bit (coiG R.COI_G_STATUS) 0 = true ∧
      (t.bit (coiG R.COI_G_STATUS) 1 = true ↔ 65000 ≤ mv) ∧ (∀ c, c < 8 → t.pend (coiPage c) 6 = true))

/-! ## CAN controllers and transceivers (chapter 11) -/

/-- R305 to R312: requests, cancels, attempts, ALONE and bus-off. The steps of the error counters are those of ISO 11898-1, which the spec
names and does not repeat (log 28). -/
def Obligations.CanTransmitsAndConfinesErrors : Prop :=
  (∀ (dt vi n : Nat) (s : State), n < 16 → s.bus.pageAccess (canPage n) vi = 2 → s.bus.pageUp (canPage n) = true → s.txStat n 0 = 0 →
    s.bit (txWord n 0 1) 4 = false → s.bit (txWord n 0 1) 5 = false → s.serviceReady = true → s.ttEn n = false →
    ∃ t, exec (.canTxRequest dt vi n 1) s = .next t ∧ t.txStat n 0 = 1 ∧ t.rd (canKey n R.CAN_TX_TRIES) = 0 ∧ t.txStat n 1 = s.txStat n 1 ∧
      t.txStat n 2 = s.txStat n 2 ∧
      ({ s.tick dt with can := t.can } : State).After t [canKey n R.CAN_TX_STAT, canKey n R.CAN_TX_TRIES]) ∧
  (∀ (dt vi n : Nat) (s : State), n < 16 → s.bus.pageAccess (canPage n) vi = 2 → s.bus.pageUp (canPage n) = true → s.txStat n 0 = 0 →
    s.bit (txWord n 0 1) 4 = false → s.bit (txWord n 0 1) 5 = false → s.serviceReady = false →
    ∃ t, exec (.canTxRequest dt vi n 1) s = .next t ∧ t.txStat n 0 = 6) ∧
  (∀ (dt vi n : Nat) (s : State), n < 16 → s.bus.pageAccess (canPage n) vi = 2 → s.bus.pageUp (canPage n) = true → s.txStat n 0 = 0 →
    s.bit (txWord n 0 1) 4 = true → s.bit (canKey n R.CAN_CTRL) 2 = false →
    exec (.canTxRequest dt vi n 1) s = .next ((s.tick dt).cfgErr (canPage n))) ∧
  (∀ (dt vi n : Nat) (s : State), s.bus.Ranged → n < 16 → s.bus.pageAccess (canPage n) vi = 2 → s.bus.pageUp (canPage n) = true →
    s.txWaits n 0 = true → ∃ t, exec (.canTxCancel dt vi n 1) s = .next t ∧ t.txStat n 0 = 4 ∧ t.pend (canPage n) 3 = true ∧
      (s.tick dt).After t [canKey n R.CAN_TX_STAT, pendKey (canPage n)]) ∧
  (∀ (dt vi n : Nat) (s : State), s.bus.pageAccess (canPage n) vi = 2 → s.bus.pageUp (canPage n) = true → s.txStat n 0 = 2 →
    exec (.canTxCancel dt vi n 1) s = .next ((s.tick dt).setCtl n { s.ctl n with cancel := true })) ∧
  (∀ (dt n b : Nat) (s : State), (s.tick dt).mayAttempt n = true → (s.tick dt).txChoice n = some b →
    exec (.canTxAttemptStart dt n) s = .next (((s.tick dt).integrate n).txStart n b)) ∧
  (∀ (dt n : Nat) (s : State), (s.tick dt).mayAttempt n = false → exec (.canTxAttemptStart dt n) s = .next (s.tick dt)) ∧
  (∀ (s : State) (n b : Nat), n < 16 → b < 3 → s.ttEn n = false → (s.txStart n b).txStat n b = 2 ∧
    ((s.txStart n b).ctl n).inProg = some b ∧ (s.txStart n b).bus.out = .canFrame n (s.canTxFrame n b) :: s.bus.out ∧
    (s.txStart n b).fld (canKey n (R.CAN_TX_TRIES + 4 * b)) 0 16 = min (s.fld (canKey n (R.CAN_TX_TRIES + 4 * b)) 0 16 + 1) 65535) ∧
  (∀ (dt n b : Nat) (c : Bool) (s : State), s.bus.Ranged → n < 16 → b < 3 → (s.ctl n).inProg = some b → (s.ctl n).cancel = false →
    ∃ t, exec (.canTxAttemptEnd dt n .ok c) s = .next t ∧ t.txStat n b = 3 ∧ (t.ctl n).inProg = none ∧ (t.ctl n).endAt = s.bus.now + dt ∧
      t.rd (canKey n R.CAN_CNT_TX) = (s.rd (canKey n R.CAN_CNT_TX) + 1) % 2 ^ 32 ∧ t.rd (canKey n R.CAN_ACKERR_RUN) = 0 ∧
      t.tec n = s.tec n - 1 ∧ t.bit (canKey n R.CAN_CTRL) 4 = false ∧ t.pend (canPage n) 0 = true) ∧
  (∀ (dt n b : Nat) (c : Bool) (s : State), n < 16 → b < 3 → (s.ctl n).inProg = some b → (s.ctl n).cancel = false →
    ∃ t, exec (.canTxAttemptEnd dt n .lost c) s = .next t ∧ t.txStat n b = 1 ∧ (t.ctl n).inProg = none ∧ t.tec n = s.tec n ∧
      t.rd (canKey n R.CAN_ACKERR_RUN) = 0) ∧
  (∀ (dt n b : Nat) (s : State), s.bus.Ranged → n < 16 → b < 3 → (s.ctl n).inProg = some b → s.fld (canKey n R.CAN_ACKERR_RUN) 0 8 = 15 →
    s.bit (canKey n R.CAN_CTRL) 4 = false → ∃ t, exec (.canTxAttemptEnd dt n .ackError true) s = .next t ∧
      t.fld (canKey n R.CAN_ACKERR_RUN) 0 8 = 16 ∧ t.bit (canKey n R.CAN_CTRL) 4 = true ∧ t.bit (canKey n R.CAN_STATUS) 3 = true) ∧
  (∀ (dt n : Nat) (s : State), (s.tick dt).due (tAlone n) = true → exec (.canAloneSelfSet dt n) s =
    .next ((((s.tick dt).disarm (tAlone n)).setAlone n true).fault 90 { page := canPage n })) ∧
  (∀ (dt n : Nat) (s : State), (s.tick dt).due (tBoff n) = true → s.fld (canKey n R.CAN_STATUS) 0 2 = 2 →
    exec (.canBoffRecoveryStart dt n) s = .next (((s.tick dt).disarm (tBoff n)).setCtl n { s.ctl n with recovering := true })) ∧
  (∀ (dt n : Nat) (s : State), s.bus.Ranged → n < 16 → s.fld (canKey n R.CAN_STATUS) 0 2 = 2 → (s.ctl n).recovering = true →
    ∃ t, exec (.canBoffRecovered dt n) s = .next t ∧ t.fld (canKey n R.CAN_STATUS) 0 2 = 0 ∧ t.tec n = 0 ∧ t.recErr n = 0 ∧
      t.pend (canPage n) 4 = true ∧ (t.ctl n).recovering = false) ∧
  (∀ (dt n inc : Nat) (s : State), s.bus.Ranged → n < 16 → s.canUp n = true → s.fld (canKey n R.CAN_STATUS) 0 2 ≠ 2 →
    ∃ t, exec (.canErrorDetected dt n inc) s = .next t ∧ t.recErr n = min (s.recErr n + inc) 255 ∧ t.tec n = s.tec n ∧
      t.rd (canKey n R.CAN_CNT_BUSERR) = min (s.rd (canKey n R.CAN_CNT_BUSERR) + 1) 0xFFFFFFFF)

/-- R313 to R316, R320: a received frame goes where the first filter that matches sends it; reads of the first and the last word lock and
release; a full FIFO counts an overflow. -/
def Obligations.CanReceivesFiltersAndReleases : Prop :=
  (∀ (dt n ago : Nat) (f : CanFrame) (s : State), s.canUp n = false → exec (.canRxFrame dt n ago f) s = .next (s.tick dt)) ∧
  (∀ (dt n ago : Nat) (f : CanFrame) (s s2 s3 : State), s.canUp n = true → s.fld (canKey n R.CAN_STATUS) 0 2 ≠ 2 →
    s2 = (s.tick dt).integrate n → s3 = s2.setEcr n (s2.tec n) (if 127 < s2.recErr n then 127 else s2.recErr n - 1) →
    exec (.canRxFrame dt n ago f) s = .next ((s3.ttReference n (s3.bus.now - ago) f).canReceive n ago f)) ∧
  (∀ (s : State) (n ago : Nat) (f : CanFrame), (∀ i, i < 64 → s.filterMatch n i f = false) →
    s.canReceive n ago f = s.addSat (canKey n R.CAN_CNT_NOMATCH) 1) ∧
  (∀ (s : State) (n ago i : Nat) (f : CanFrame), i < 64 → s.filterMatch n i f = true → (∀ j, j < i → s.filterMatch n j f = false) →
    s.ttEn n = false → s.canReceive n ago f = (if s.bit (filterKey n i 2) 4
      then s.canHp n (s.fld (filterKey n i 2) 5 3) ⟨f, i, false, false, false, s.canStamp ago⟩
      else s.canFifo n ⟨f, i, false, false, false, s.canStamp ago⟩)) ∧
  (∀ (s : State) (n : Nat) (x : CanRx), s.bus.Ranged → n < 16 → (s.ctl n).fifo.length < 32 →
    ((s.canFifo n x).ctl n).fifo = (s.ctl n).fifo ++ [x] ∧ (s.canFifo n x).rd (canKey n R.CAN_RX_FILL) = (s.ctl n).fifo.length + 1 ∧
    (s.canFifo n x).pend (canPage n) 1 = true) ∧
  (∀ (s : State) (n : Nat) (x : CanRx), s.bus.Ranged → n < 16 → 32 ≤ (s.ctl n).fifo.length →
    (s.canFifo n x).can = s.can ∧ (s.canFifo n x).bit (canKey n R.CAN_FLAGS) 0 = true ∧ (s.canFifo n x).pend (canPage n) 6 = true ∧
    (s.canFifo n x).rd (canKey n R.CAN_CNT_FIFO_OVF) = min (s.rd (canKey n R.CAN_CNT_FIFO_OVF) + 1) 0xFFFFFFFF) ∧
  (∀ (dt vi n i : Nat) (s : State), i < 8 → s.bus.pageAccess (canPage n) vi = 2 → s.bus.pageUp (canPage n) = true →
    exec (.canHpWord0Read dt vi n i) s =
      .next (((s.tick dt).emit (.readData vi (s.hpWord n i 0))).setBit (canKey n R.CAN_HP_LOCK) i true)) ∧
  (∀ (dt vi n i : Nat) (s : State), i < 8 → s.bus.pageAccess (canPage n) vi = 2 → s.bus.pageUp (canPage n) = true →
    exec (.canHpWord20Read dt vi n i) s = .next ((((s.tick dt).emit (.readData vi (s.hpWord n i 20))).setBit
      (canKey n R.CAN_HP_LOCK) i false).setBit (canKey n R.CAN_HP_PEND) i false)) ∧
  (∀ (dt vi n i : Nat) (s : State), i < 8 → s.bus.pageAccess (canPage n) vi = 1 → s.bus.pageUp (canPage n) = true →
    exec (.canHpWord0Read dt vi n i) s = .next ((s.tick dt).emit (.readData vi (s.hpWord n i 0)))) ∧
  (∀ (dt vi n v : Nat) (s : State), s.bus.pageAccess (canPage n) vi = 2 → s.bus.pageUp (canPage n) = true →
    ∃ t, exec (.canHpLockRelease dt vi n v) s = .next t ∧
      (∀ i, i < 8 → t.bit (canKey n R.CAN_HP_LOCK) i = (s.bit (canKey n R.CAN_HP_LOCK) i && !bitOf i v)) ∧
      (s.tick dt).After t [canKey n R.CAN_HP_LOCK]) ∧
  (∀ (dt vi n : Nat) (s : State), s.bus.pageAccess (canPage n) vi = 2 → s.bus.pageUp (canPage n) = true → (s.ctl n).fifo ≠ [] →
    exec (.canRxfWord0Read dt vi n) s =
      .next (((s.tick dt).emit (.readData vi (s.rxfWord n 0))).setCtl n { s.ctl n with headLocked := true })) ∧
  (∀ (dt vi n : Nat) (s : State) (x : CanRx) (rest : List CanRx), s.bus.pageAccess (canPage n) vi = 2 → s.bus.pageUp (canPage n) = true →
    (s.ctl n).fifo = x :: rest → rest.length < 32 → ∃ t, exec (.canRxfWord20Read dt vi n) s = .next t ∧ (t.ctl n).fifo = rest ∧
      (t.ctl n).headLocked = false ∧ t.rd (canKey n R.CAN_RX_FILL) = rest.length ∧ t.bus.out = .readData vi (x.word 20) :: s.bus.out)

/-- R317 to R321: the reference message, windows and their checks. The identity of a reference frame is the model's reading (log 29). -/
def Obligations.CanTimeTriggeredWindows : Prop :=
  (∀ (dt n ago : Nat) (s : State), s.bus.Ranged → n < 16 → (s.tick dt).ttMaster n = true → s.canUp n = true → s.serviceReady = true →
    s.fld (canKey n R.CAN_STATUS) 0 2 = 0 → s.xcvrNormal n = true → s.fld (canKey n R.CAN_CTRL) 0 2 ≠ 1 → (s.ctl n).counted = false →
    s.tec n ≤ 128 → s.recErr n ≤ 127 →
    ∃ t, exec (.canTtReferenceSend dt n ago .ok) s = .next t ∧ t.fld (canKey n R.CAN_STATUS) 6 6 = 0 ∧
      t.bit (canKey n R.CAN_STATUS) 5 = true ∧ (t.ctl n).cycle0 = s.bus.now + dt - ago ∧ (t.ctl n).counted = true ∧
      (t.ctl n).windows = [] ∧ t.rd (canKey n R.CAN_CNT_TX) = (s.rd (canKey n R.CAN_CNT_TX) + 1) % 2 ^ 32) ∧
  (∀ (dt n ago : Nat) (how : CanEnd) (s : State), s.ttMaster n = false → exec (.canTtReferenceSend dt n ago how) s = .next (s.tick dt)) ∧
  (∀ (dt n e : Nat) (s : State), s.canUp n = true → s.ttEn n = true → s.ttSync n = true → s.ttApplies n e = true →
    s.ttMark n e ≤ (s.tick dt).cycleTime n (s.bus.now + dt) → e ∉ (s.ctl n).windows →
    exec (.canTtWindowMark dt n e) s = .next ((s.tick dt).setCtl n { s.ctl n with windows := (s.ctl n).windows ++ [e] })) ∧
  (∀ (dt n e : Nat) (s : State), e ∉ (s.ctl n).windows → exec (.canTtWindowEnd dt n e) s = .next (s.tick dt)) ∧
  (∀ (dt n e : Nat) (s : State), e ∈ (s.ctl n).windows → s.ttLast n e ≤ (s.tick dt).cycleTime n (s.bus.now + dt) → s.ttType n e = 1 →
    s.txWaits n (s.ttBuf n e) = true → e ∉ (s.ctl n).used → exec (.canTtWindowEnd dt n e) s =
      .next (((s.tick dt).setCtl n { s.ctl n with windows := (s.ctl n).windows.filter (· != e) }).suppress n (s.ttBuf n e))) ∧
  (∀ (dt n e : Nat) (s : State), e ∈ (s.ctl n).windows → s.ttLast n e ≤ (s.tick dt).cycleTime n (s.bus.now + dt) → s.ttType n e = 2 →
    e ∉ (s.ctl n).seen → exec (.canTtWindowEnd dt n e) s =
      .next (((s.tick dt).setCtl n { s.ctl n with windows := (s.ctl n).windows.filter (· != e) }).addSat
        (canKey n R.CAN_TT_CNT_ABSENT) 1)) ∧
  (∀ (dt n : Nat) (s : State), s.bus.Ranged → n < 16 → s.canUp n = true → s.ttEn n = true → s.ttMaster n = false →
    s.bit (canKey n R.CAN_FLAGS) 5 = false →
    s.fld (canKey n R.CAN_TT_CYCLE) 0 16 + s.fld (canKey n R.CAN_TT_BACKUP) 0 16 < (s.tick dt).cycleTime n (s.bus.now + dt) →
    ∃ t, exec (.canTtRefTimeout dt n) s = .next t ∧ t.bit (canKey n R.CAN_FLAGS) 5 = true ∧ t.bit (canKey n R.CAN_STATUS) 5 = false ∧
      t.pend (canPage n) 5 = true ∧ (t.ctl n).acting = decide (s.fld (canKey n R.CAN_TT_CTRL) 0 2 = 2) ∧ (t.ctl n).windows = [])

/-- R322 to R326, Tables 11-2 and 11-10: the transceiver's modes, its wake sources and its protection. -/
def Obligations.TransceiversSleepAndWake : Prop :=
  (∀ (dt vi n : Nat) (s : State), s.bus.Ranged → n < 8 → s.bus.pageAccess (wakPage n) vi = 2 → s.bus.pageUp (wakPage n) = true →
    s.wakState n = 0 → (s.ctl n).inProg = none → ∃ t, exec (.wakModeNormal dt vi n) s = .next t ∧ t.wakState n = 1 ∧
      t.bit (canKey n R.CAN_STATUS) 4 = false ∧ t.bit (wakKey n R.WAK_STATUS) 6 = false ∧ t.pend (wakPage n) 3 = true ∧
      ((s.tick dt).disarm (tFailsafe n)).After t
        [wakKey n R.WAK_CMD, wakKey n R.WAK_STATUS, canKey n R.CAN_STATUS, pendKey (wakPage n)]) ∧
  (∀ (dt vi n : Nat) (s : State), s.bus.pageAccess (wakPage n) vi = 2 → s.bus.pageUp (wakPage n) = true → s.wakState n ≠ 0 →
    exec (.wakModeNormal dt vi n) s = .next (s.tick dt)) ∧
  (∀ (dt vi n v : Nat) (s : State), s.bus.Ranged → n < 8 → s.bus.pageAccess (wakPage n) vi = 2 → s.bus.pageUp (wakPage n) = true →
    s.wakState n ≤ 1 → ∃ t, exec (.wakModeStandby dt vi n v) s = .next t ∧ t.wakState n = 0 ∧ t.bit (wakKey n R.WAK_STATUS) 6 = false ∧
      t.fld (wakKey n R.WAK_CMD) 0 2 = v % 4) ∧
  (∀ (dt vi n : Nat) (s : State), s.bus.Ranged → n < 8 → s.bus.pageAccess (wakPage n) vi = 2 → s.bus.pageUp (wakPage n) = true →
    (∀ b, b < 3 → s.txWaits n b = false ∧ s.txStat n b ≠ 2) → s.wakState n ≤ 1 → (s.ctl n).inProg = none →
    ∃ t, exec (.wakModeSleep dt vi n) s = .next t ∧ t.wakState n = 2 ∧
      t.bus.timers.find? (tCommit n) = some (s.bus.now + dt + clkUs 50) ∧ t.bit (canKey n R.CAN_STATUS) 4 = true) ∧
  (∀ (dt vi n b : Nat) (s : State), s.bus.pageAccess (wakPage n) vi = 2 → s.bus.pageUp (wakPage n) = true → b < 3 →
    s.txWaits n b = true ∨ s.txStat n b = 2 → exec (.wakModeSleep dt vi n) s = .next ((s.tick dt).cfgErr (wakPage n))) ∧
  (∀ (dt n : Nat) (s : State), (s.tick dt).due (tCommit n) = true → s.wakState n = 2 →
    exec (.wakSleepCommit dt n) s = .next (((s.tick dt).disarm (tCommit n)).setWak n 3)) ∧
  (∀ (dt n us : Nat) (f : CanFrame) (s : State),
    (s.bit (wakKey n R.WAK_CFG) 0 = true → us ≤ wupTmo (s.fld (wakKey n R.WAK_CFG) 13 3) →
      exec (.wakeUpPattern dt n us) s = .next ((s.tick dt).wakDetect n 1)) ∧
    (wupTmo (s.fld (wakKey n R.WAK_CFG) 13 3) < us → exec (.wakeUpPattern dt n us) s = .next (s.tick dt)) ∧
    (s.bit (wakKey n R.WAK_CFG) 1 = true → s.wakeFrame n f = true →
      exec (.selectiveWakeFrame dt n f) s = .next ((s.tick dt).wakDetect n 2)) ∧
    (s.bit (wakKey n R.WAK_CFG) 1 = true → s.bit (wakKey n R.WAK_CFG) 3 = true → s.wakState n ≠ 1 →
      exec (.frameErrorCounterWake dt n) s =
        .next ((((s.tick dt).setFld (wakKey n R.WAK_FEC) 0 6 32).setBit (wakKey n R.WAK_STATUS) 8 true).wakDetect n 3))) ∧
  (∀ (s : State) (n src : Nat), s.wakState n = 1 → s.wakDetect n src = s) ∧
  (∀ (s : State) (n src : Nat), s.bus.Ranged → n < 8 → src < 8 → s.wakState n = 0 → s.bit (wakKey n R.WAK_STATUS) 2 = false →
    (s.wakDetect n src).fld (wakKey n R.WAK_STATUS) 3 3 = src ∧ (s.wakDetect n src).bit (wakKey n R.WAK_STATUS) 2 = true ∧
    (s.wakDetect n src).rd (wakKey n R.WAK_CNT_WAKE) = min (s.rd (wakKey n R.WAK_CNT_WAKE) + 1) 0xFFFFFFFF) ∧
  (∀ (dt n : Nat) (s : State), s.bus.Ranged → n < 8 → (s.tick dt).due (tFailsafe n) = true → s.wakState n = 0 → (s.ctl n).inProg = none →
    ∃ t, exec (.wakFailsafeExpire dt n) s = .next t ∧ t.wakState n = 2 ∧ t.bit (wakKey n R.WAK_STATUS) 6 = false ∧
      t.pend (wakPage n) 2 = true ∧ t.bus.timers.find? (tCommit n) = some (s.bus.now + dt + clkUs 50)) ∧
  (∀ (dt n : Nat) (s : State), s.bus.Ranged → n < 8 → s.wakState n = 1 → ∃ t, exec (.txdDominantTimeout dt n) s = .next t ∧
    t.bit (wakKey n R.WAK_STATUS) 9 = true ∧ t.pend (wakPage n) 4 = true ∧
    (s.tick dt).After t [wakKey n R.WAK_STATUS, pendKey (wakPage n)]) ∧
  (∀ (dt n : Nat) (s : State), exec (.xcvrThermal dt n) s =
    .next (((s.tick dt).setBit (wakKey n R.WAK_STATUS) 10 true).fault 91 { page := wakPage n })) ∧
  (∀ (dt n : Nat) (s : State), exec (.xcvrThermalRecover dt n) s = .next ((s.tick dt).setBit (wakKey n R.WAK_STATUS) 10 false)) ∧
  (∀ (dt n : Nat) (s s1 : State), 8 ≤ n → n < 16 → s.bit (rk (wakPage 0) R.WAK_G_EXTWAKE) (n - 8) = true →
    s1 = (List.range 8).foldl (fun a i => a.raise (wakPage i) 5) ((s.tick dt).setBit (rk (wakPage 0) R.WAK_G_EXTWAKE) n true) →
    exec (.extCanWake dt n) s = .next ((s1.sectionWake n).wake 1))

/-! ## Zugrim cores (chapter 12) -/

/-- R341 to R343, Table 12-5: what every arithmetic long word writes, and the flags after it. A word issues from a core that runs: its
result and its flags land one word later. -/
def Obligations.ZwArithmeticWordsWriteResultAndFlags : Prop :=
  ∀ (dt c w : Nat) (s s0 : State) (k : ZwCore) (A B I : Word), s0 = s.tick dt → k = (s0.settle c).zw c → w = s0.nextWord c →
    A = k.dR (wA w) → B = k.dR (wB w) → I = (BitVec.ofNat 16 (wImm w)).signExtend 32 →
    (s0.zwRuns c 0x00 → exec (.zwNop dt c) s = .next (s0.zwPut c {})) ∧
    (s0.zwRuns c 0x01 → ∃ st, exec (.zwAdd dt c) s = .next (s0.zwPut c (effAlu (wD w) ⟨A + B, st⟩)) ∧ FlagsZNCV (A + B) (2 ^ 32 ≤ A.toNat + B.toNat) ((A + B).toInt ≠ A.toInt + B.toInt) st) ∧
    (s0.zwRuns c 0x02 → ∃ st, exec (.zwAddi dt c) s = .next (s0.zwPut c (effAlu (wD w) ⟨A + I, st⟩)) ∧ FlagsZNCV (A + I) (2 ^ 32 ≤ A.toNat + I.toNat) ((A + I).toInt ≠ A.toInt + I.toInt) st) ∧
    (s0.zwRuns c 0x03 → ∃ st, exec (.zwSub dt c) s = .next (s0.zwPut c (effAlu (wD w) ⟨A - B, st⟩)) ∧ FlagsZNCV (A - B) (B.toNat ≤ A.toNat) ((A - B).toInt ≠ A.toInt - B.toInt) st) ∧
    (s0.zwRuns c 0x04 → ∃ st, exec (.zwAdc dt c) s = .next (s0.zwPut c (effAlu (wD w) ⟨A + B + BitVec.ofNat 32 (b2n (bitOf 2 k.st)), st⟩)) ∧
      FlagsZNCV (A + B + BitVec.ofNat 32 (b2n (bitOf 2 k.st)))
      (2 ^ 32 ≤ A.toNat + B.toNat + b2n (bitOf 2 k.st))
      ((A + B + BitVec.ofNat 32 (b2n (bitOf 2 k.st))).toInt ≠ A.toInt + B.toInt + (b2n (bitOf 2 k.st) : Nat)) st) ∧
    (s0.zwRuns c 0x05 → ∃ st, exec (.zwSbc dt c) s = .next (s0.zwPut c (effAlu (wD w) ⟨A - B - BitVec.ofNat 32 (b2n (!bitOf 2 k.st)), st⟩)) ∧
      FlagsZNCV (A - B - BitVec.ofNat 32 (b2n (!bitOf 2 k.st)))
      (B.toNat + b2n (!bitOf 2 k.st) ≤ A.toNat)
      ((A - B - BitVec.ofNat 32 (b2n (!bitOf 2 k.st))).toInt ≠ A.toInt - B.toInt - (b2n (!bitOf 2 k.st) : Nat)) st) ∧
    (s0.zwRuns c 0x06 → ∃ st, exec (.zwAnd dt c) s = .next (s0.zwPut c (effAlu (wD w) ⟨A &&& B, st⟩)) ∧ FlagsZN (A &&& B) k.st st) ∧
    (s0.zwRuns c 0x07 → ∃ st, exec (.zwAndi dt c) s = .next (s0.zwPut c (effAlu (wD w) ⟨A &&& BitVec.ofNat 32 (wImm w), st⟩)) ∧ FlagsZN (A &&& BitVec.ofNat 32 (wImm w)) k.st st) ∧
    (s0.zwRuns c 0x08 → ∃ st, exec (.zwOr dt c) s = .next (s0.zwPut c (effAlu (wD w) ⟨A ||| B, st⟩)) ∧ FlagsZN (A ||| B) k.st st) ∧
    (s0.zwRuns c 0x09 → ∃ st, exec (.zwOri dt c) s = .next (s0.zwPut c (effAlu (wD w) ⟨A ||| BitVec.ofNat 32 (wImm w), st⟩)) ∧ FlagsZN (A ||| BitVec.ofNat 32 (wImm w)) k.st st) ∧
    (s0.zwRuns c 0x0A → ∃ st, exec (.zwXor dt c) s = .next (s0.zwPut c (effAlu (wD w) ⟨A ^^^ B, st⟩)) ∧ FlagsZN (A ^^^ B) k.st st) ∧
    (s0.zwRuns c 0x0B → ∃ st, exec (.zwXori dt c) s = .next (s0.zwPut c (effAlu (wD w) ⟨A ^^^ BitVec.ofNat 32 (wImm w), st⟩)) ∧ FlagsZN (A ^^^ BitVec.ofNat 32 (wImm w)) k.st st) ∧
    (s0.zwRuns c 0x0C → ∃ st r, exec (.zwShl dt c) s = .next (s0.zwPut c (effAlu (wD w) ⟨r, st⟩)) ∧ r = BitVec.ofNat 32 (A.toNat * 2 ^ (B.toNat % 64)) ∧
      FlagsShift r (B.toNat % 64) (A.toNat * 2 ^ (B.toNat % 64) / 2 ^ 32 % 2 = 1) k.st st) ∧
    (s0.zwRuns c 0x0D → ∃ st r, exec (.zwShli dt c) s = .next (s0.zwPut c (effAlu (wD w) ⟨r, st⟩)) ∧ r = BitVec.ofNat 32 (A.toNat * 2 ^ (w % 64)) ∧
      FlagsShift r (w % 64) (A.toNat * 2 ^ (w % 64) / 2 ^ 32 % 2 = 1) k.st st) ∧
    (s0.zwRuns c 0x0E → ∃ st r, exec (.zwShr dt c) s = .next (s0.zwPut c (effAlu (wD w) ⟨r, st⟩)) ∧ r = BitVec.ofNat 32 (A.toNat / 2 ^ (B.toNat % 64)) ∧
      FlagsShift r (B.toNat % 64) (A.toNat / 2 ^ (B.toNat % 64 - 1) % 2 = 1) k.st st) ∧
    (s0.zwRuns c 0x0F → ∃ st r, exec (.zwShri dt c) s = .next (s0.zwPut c (effAlu (wD w) ⟨r, st⟩)) ∧ r = BitVec.ofNat 32 (A.toNat / 2 ^ (w % 64)) ∧
      FlagsShift r (w % 64) (A.toNat / 2 ^ (w % 64 - 1) % 2 = 1) k.st st) ∧
    (s0.zwRuns c 0x10 → ∃ st r, exec (.zwSar dt c) s = .next (s0.zwPut c (effAlu (wD w) ⟨r, st⟩)) ∧ r = BitVec.ofInt 32 (A.toInt / (2 ^ (B.toNat % 64) : Nat)) ∧
      FlagsShift r (B.toNat % 64) (A.toInt / (2 ^ (B.toNat % 64 - 1) : Nat) % 2 = 1) k.st st) ∧
    (s0.zwRuns c 0x11 → ∃ st r, exec (.zwSari dt c) s = .next (s0.zwPut c (effAlu (wD w) ⟨r, st⟩)) ∧ r = BitVec.ofInt 32 (A.toInt / (2 ^ (w % 64) : Nat)) ∧
      FlagsShift r (w % 64) (A.toInt / (2 ^ (w % 64 - 1) : Nat) % 2 = 1) k.st st) ∧
    (s0.zwRuns c 0x12 → ∃ st, exec (.zwCmp dt c) s = .next (s0.zwPut c (effReg .st (BitVec.ofNat 32 st))) ∧
      FlagsZNCV (A - B) (B.toNat ≤ A.toNat) ((A - B).toInt ≠ A.toInt - B.toInt) st) ∧
    (s0.zwRuns c 0x13 → ∃ st, exec (.zwCmpi dt c) s = .next (s0.zwPut c (effReg .st (BitVec.ofNat 32 st))) ∧
      FlagsZNCV (A - I) (I.toNat ≤ A.toNat) ((A - I).toInt ≠ A.toInt - I.toInt) st) ∧
    (s0.zwRuns c 0x14 → ∃ st r, exec (.zwMin dt c) s = .next (s0.zwPut c (effAlu (wD w) ⟨r, st⟩)) ∧ r.toInt = min A.toInt B.toInt ∧ FlagsZN r k.st st) ∧
    (s0.zwRuns c 0x15 → ∃ st r, exec (.zwMax dt c) s = .next (s0.zwPut c (effAlu (wD w) ⟨r, st⟩)) ∧ r.toInt = max A.toInt B.toInt ∧ FlagsZN r k.st st) ∧
    (s0.zwRuns c 0x16 → ∃ st r, exec (.zwAbs dt c) s = .next (s0.zwPut c (effAlu (wD w) ⟨r, st⟩)) ∧ r = BitVec.ofNat 32 A.toInt.natAbs ∧ 
      FlagsZNCV r (bitOf 2 k.st = true) (A = 0x80000000#32) st) ∧
    (s0.zwRuns c 0x17 → ∃ st, exec (.zwNeg dt c) s = .next (s0.zwPut c (effAlu (wD w) ⟨-A, st⟩)) ∧ FlagsZNCV (-A) (A = 0) (A = 0x80000000#32) st) ∧
    (s0.zwRuns c 0x18 → ∃ st, exec (.zwMovi dt c) s = .next (s0.zwPut c (effAlu (wD w) ⟨I, st⟩)) ∧ FlagsZN (I) k.st st) ∧
    (s0.zwRuns c 0x19 → ∃ st r, exec (.zwMovhi dt c) s = .next (s0.zwPut c (effAlu (wD w) ⟨r, st⟩)) ∧ 
      r = (BitVec.ofNat 16 (wImm w) ++ (k.dR (wD w)).setWidth 16) ∧ FlagsZN r k.st st) ∧
    (s0.zwRuns c 0x1A → ∃ st r, exec (.zwExt dt c) s = .next (s0.zwPut c (effAlu (wD w) ⟨r, st⟩)) ∧ 
      r.toNat = A.toNat / 2 ^ (w / 32 % 32) % 2 ^ (w % 32 + 1) ∧ FlagsZN r k.st st) ∧
    (s0.zwRuns c 0x1B → ∃ st r, exec (.zwIns dt c) s = .next (s0.zwPut c (effAlu (wD w) ⟨r, st⟩)) ∧ 
      (∀ i, i < 32 → r.getLsbD i = (if w / 32 % 32 ≤ i ∧ i ≤ w / 32 % 32 + w % 32 then A.getLsbD (i - w / 32 % 32) else (k.dR (wD w)).getLsbD i)) ∧ FlagsZN r k.st st) ∧
    (s0.zwRuns c 0x1C → ∃ st r, exec (.zwClz dt c) s = .next (s0.zwPut c (effAlu (wD w) ⟨r, st⟩)) ∧ r.toNat ≤ 32 ∧ A.toNat < 2 ^ (32 - r.toNat) ∧
      (r.toNat < 32 → 2 ^ (31 - r.toNat) ≤ A.toNat) ∧ FlagsZN r k.st st) ∧
    (s0.zwRuns c 0x1D → ∃ st r, exec (.zwPopc dt c) s = .next (s0.zwPut c (effAlu (wD w) ⟨r, st⟩)) ∧ r.toNat = ((List.range 32).filter (fun i => A.getLsbD i)).length ∧ FlagsZN r k.st st)

/-- R339, R344: the multiplications, whole, high, fractional (Q) and saturating, land three words later; a multiply-accumulate reads its
accumulator late. R333, R345 to R348, R355: moves between register files, special registers, loads, stores and their address updates, and
events. -/
def Obligations.ZwMultiplicationsMovesLoadsAndStores : Prop :=
  (∀ (dt c w : Nat) (p : Int) (s s0 : State) (k : ZwCore) (A B : Word), s0 = s.tick dt → k = (s0.settle c).zw c → w = s0.nextWord c →
    A = k.dR (wA w) → B = k.dR (wB w) → (p = if bitOf 0 w then 2 * ((A.setWidth 16).toInt * (B.setWidth 16).toInt) else A.toInt * B.toInt) →
    (s0.zwRuns c 0x20 → ∃ v, exec (.zwMul dt c) s = .next (s0.zwPut c { lands := [(3, .d (wD w), v)] }) ∧
      (bitOf 1 w = false → v = BitVec.ofInt 32 p) ∧ (bitOf 1 w = true → v.toInt = max (-2 ^ 31) (min (2 ^ 31 - 1) p))) ∧
    (s0.zwRuns c 0x21 → ∃ v, exec (.zwMulhs dt c) s = .next (s0.zwPut c { lands := [(3, .d (wD w), v)] }) ∧
      v.toInt = A.toInt * B.toInt / 2 ^ 32) ∧
    (s0.zwRuns c 0x22 → ∃ v, exec (.zwMulhu dt c) s = .next (s0.zwPut c { lands := [(3, .d (wD w), v)] }) ∧
      v.toNat = A.toNat * B.toNat / 2 ^ 32) ∧
    (s0.zwRuns c 0x23 → exec (.zwMac dt c) s = .next (s0.zwPut c { macs := [(wD w, false, bitOf 1 w, p)] })) ∧
    (s0.zwRuns c 0x24 → exec (.zwMsu dt c) s = .next (s0.zwPut c { macs := [(wD w, true, bitOf 1 w, p)] }))) ∧
  (∀ (k : ZwCore) (x : LateMac), k.macs = [x] → k.lands = [] → x.word + 2 ≤ k.n → k.settle.macs = [] ∧
    k.settle.lands = [⟨x.word + 3, x.word, x.slot, .d x.acc,
      if x.sat then BitVec.ofInt 32 (max (-2 ^ 31) (min (2 ^ 31 - 1) ((k.dR x.acc).toInt + (if x.sub then -x.p else x.p))))
      else BitVec.ofInt 32 ((k.dR x.acc).toInt + (if x.sub then -x.p else x.p))⟩]) ∧
  (∀ (dt c w : Nat) (s s0 u : State) (k : ZwCore) (A B D I a m : Word) (step : Int) (after : Word → Prop), s0 = s.tick dt →
    u = s0.settle c → k = u.zw c → w = s0.nextWord c → A = k.dR (wA w) → B = k.dR (wB w) → D = k.dR (wD w) →
    I = (BitVec.ofNat 16 (wImm w)).signExtend 32 → a = k.aR (wA w) → m = k.mR (wA w) → step = signedOf 10 (w % 1024) →
    (∀ a', after a' ↔ (w / 1024 % 4 = 0 → a' = a + BitVec.ofInt 32 step) ∧ (w / 1024 % 4 = 3 → a' = a + B) ∧
      (w / 1024 % 4 = 1 → mLen m = 0 → a' = a + BitVec.ofInt 32 step) ∧
      (w / 1024 % 4 = 1 → 0 < mLen m → mBase m + mLen m ≤ 2 ^ 32 → mBase m ≤ a'.toNat ∧ a'.toNat < mBase m + mLen m ∧
        ((a'.toNat : Int) - mBase m) % (mLen m : Int) = ((a.toNat : Int) - mBase m + step) % (mLen m : Int))) →
    (s0.zwRuns c 0x28 → exec (.zwMovad dt c) s = .next (s0.zwPut c (effReg (.a (wD w % 8)) A))) ∧
    (s0.zwRuns c 0x29 → exec (.zwMovda dt c) s = .next (s0.zwPut c (effReg (.d (wD w)) a))) ∧
    (s0.zwRuns c 0x2A → exec (.zwMovai dt c) s = .next (s0.zwPut c (effReg (.a (wD w % 8)) (BitVec.ofNat 32 (wImm w))))) ∧
    (s0.zwRuns c 0x2B → exec (.zwAddai dt c) s = .next (s0.zwPut c (effReg (.a (wD w % 8)) (a + I)))) ∧
    (s0.zwRuns c 0x2C → exec (.zwAdda dt c) s = .next (s0.zwPut c (effReg (.a (wD w % 8)) (a + B)))) ∧
    (s0.zwRuns c 0x2D → exec (.zwMovsr dt c) s = .next (s0.zwPut c (effReg (.d (wD w)) (u.special c k (w % 32))))) ∧
    (s0.zwRuns c 0x2E → exec (.zwMovrs dt c) s = .next (s0.zwPut c (specialWrite (w % 32) A))) ∧
    (s0.zwRuns c 0x30 → exec (.zwLd dt c) s = .next (s0.zwPut c { lands := [(4, .d (wD w), u.dmemRd c (a + I).toNat)] })) ∧
    (s0.zwRuns c 0x31 → exec (.zwSt dt c) s = .next (s0.zwPut c { stores := [((a + I).toNat, D)] })) ∧
    (s0.zwRuns c 0x32 → exec (.zwLdx dt c) s = .next (s0.zwPut c { lands := [(4, .d (wD w), u.dmemRd c (a + B).toNat)] })) ∧
    (s0.zwRuns c 0x33 → exec (.zwStx dt c) s = .next (s0.zwPut c { stores := [((a + B).toNat, D)] })) ∧
    (s0.zwRuns c 0x34 → ∃ a', exec (.zwLdp dt c) s = .next (s0.zwPut c
      { lands := [(4, .d (wD w), u.dmemRd c a.toNat), (1, .a (wA w % 8), a')] }) ∧ after a') ∧
    (s0.zwRuns c 0x35 → ∃ a', exec (.zwStp dt c) s = .next (s0.zwPut c
      { lands := [(1, .a (wA w % 8), a')], stores := [(a.toNat, D)] }) ∧ after a') ∧
    (s0.zwRuns c 0x36 → exec (.zwLda dt c) s = .next (s0.zwPut c { lands := [(4, .a (wD w % 8), u.dmemRd c (a + I).toNat)] })) ∧
    (s0.zwRuns c 0x37 → exec (.zwSta dt c) s = .next (s0.zwPut c { stores := [((a + I).toNat, k.aR (wD w))] })) ∧
    (s0.zwRuns c 0x49 → exec (.zwPoll dt c) s = .next (s0.zwPut c (effReg (.d (wD w)) (u.evtOf c)))) ∧
    (s0.zwRuns c 0x4A → exec (.zwEvclr dt c) s = .next ((u.clearEvt c A).advance c)))

/-- R341, Table 12-4: a pair word issues both its slots, A first, or is illegal; a word that is none of Table 12-5 is illegal. R349, R353,
R354: which word follows: in order, at the end of a loop its start until the count is 1, and a branch target after two delay slots. -/
def Obligations.ZwPairsLoopsAndDelaySlots : Prop :=
  (∀ (dt c w : Nat) (s s0 u : State) (a b : ZwEff), s0 = s.tick dt → u = s0.settle c → w = s0.nextWord c → s0.issues c = true →
    bitOf 31 w = true → bitOf 0 w = false → shortEff (u.zw c) (fun x => u.dmemRd c x) (fieldOf 16 15 w) = some a →
    shortEff (u.zw c) (fun x => u.dmemRd c x) (fieldOf 1 15 w) = some b →
    exec (.zwPairWord dt c) s = .next ((u.setZw c (((u.zw c).put 0 a).put 1 b)).advance c)) ∧
  (∀ (dt c w : Nat) (s s0 u : State), s0 = s.tick dt → u = s0.settle c → w = s0.nextWord c → s0.issues c = true → bitOf 31 w = true →
    0x1B ≤ fieldOf 26 5 w ∨ 0x1B ≤ fieldOf 11 5 w ∨ bitOf 0 w = true → exec (.zwPairWord dt c) s = .next (u.zwIllegal c)) ∧
  (∀ (dt c : Nat) (s s0 : State), s0 = s.tick dt → s0.issues c = true → bitOf 31 (s0.nextWord c) = false →
    longKnown (wOp (s0.nextWord c)) = false → exec (.zwReservedLongWord dt c) s = .next ((s0.settle c).zwIllegal c)) ∧
  (∀ (dt c : Nat) (s : State), (s.tick dt).issues c = false → exec (.zwPairWord dt c) s = .next (s.tick dt) ∧
    exec (.zwReservedLongWord dt c) s = .next (s.tick dt) ∧ exec (.zwAdd dt c) s = .next (s.tick dt) ∧
    exec (.zwBr dt c) s = .next (s.tick dt) ∧ exec (.zwPut dt c) s = .next (s.tick dt)) ∧
  (∀ (s : State) (c : Nat), ((s.zwIllegal c).zw c).running = false ∧ ((s.zwIllegal c).zw c).stopping = some 2 ∧
    ((s.zwIllegal c).zw c).waiting = none) ∧
  (∀ (k : ZwCore) (rd : Nat → Word) (v : Nat), (∀ x y, fieldOf 10 5 v = 2 → x = fieldOf 6 4 v → y = fieldOf 2 4 v → v % 4 = 0 →
      shortEff k rd v = some { lands := [(1, .d x, k.dR x + k.dR y)] }) ∧
    (∀ x y, fieldOf 10 5 v = 3 → x = fieldOf 6 4 v → y = fieldOf 2 4 v → v % 4 = 1 →
      shortEff k rd v = some { lands := [(1, .d x, k.dR x - BitVec.ofNat 32 y)] }) ∧
    (∀ x y, fieldOf 10 5 v = 0x14 → x = fieldOf 6 4 v → y = fieldOf 2 4 v → v % 4 = 1 →
      shortEff k rd v = some { lands := [(4, .d x, rd (k.aR y).toNat), (1, .a (y % 8), k.aR y + 1)] }) ∧
    (∀ x y, fieldOf 10 5 v = 0x15 → x = fieldOf 6 4 v → y = fieldOf 2 4 v → v % 4 = 0 →
      shortEff k rd v = some { stores := [((k.aR y).toNat, k.dR x)] })) ∧
(∀ (k : ZwCore) (size : Nat), k.delay = none → k.loop0.active = false → k.loop1.active = false →
    k.advance size = { k with n := k.n + 1, pc := (k.pc + 1) % size }) ∧
  (∀ (k : ZwCore) (size : Nat), k.delay = none → k.loop1.active = true → k.loop1.stop = k.pc → 2 ≤ k.lc1.toNat →
    k.advance size = { k with n := k.n + 1, pc := k.loop1.start, lc1 := k.lc1 - 1 }) ∧
  (∀ (k : ZwCore) (size : Nat), k.delay = none → k.loop1.active = true → k.loop1.stop = k.pc → k.lc1.toNat < 2 →
    k.loop0.active = true → k.loop0.stop = k.pc → 2 ≤ k.lc0.toNat →
    k.advance size = { k with n := k.n + 1, pc := k.loop0.start, lc1 := 0, loop1 := { k.loop1 with active := false }, lc0 := k.lc0 - 1 }) ∧
  (∀ (k : ZwCore) (size : Nat), k.delay = none → k.loop1.active = false → k.loop0.active = true → k.loop0.stop = k.pc →
    k.lc0.toNat < 2 →
    k.advance size = { k with n := k.n + 1, pc := (k.pc + 1) % size, lc0 := 0, loop0 := { k.loop0 with active := false } }) ∧
  (∀ (k : ZwCore) (size t : Nat), k.delay = some (2, some t) →
    k.advance size = { k with n := k.n + 1, pc := (k.pc + 1) % size, delay := some (1, some t) }) ∧
  (∀ (k : ZwCore) (size t : Nat), k.delay = some (1, some t) → k.advance size = { k with n := k.n + 1, pc := t, delay := none })

/-- R337 to R339: when a result becomes visible, and which of two stands. -/
def Obligations.ZwResultsLandInOrder : Prop :=
  (∀ (k : ZwCore) (x : Land) (i : Nat), k.lands = [x] → k.macs = [] → x.dst = .d i →
    k.settle.dR i = (if x.due ≤ k.n then x.value else k.dR i) ∧ (∀ j, j ≠ i → k.settle.dR j = k.dR j) ∧
    k.settle.lands = (if x.due ≤ k.n then [] else [x]) ∧ k.settle.pc = k.pc ∧ k.settle.n = k.n) ∧
  (∀ (k : ZwCore) (x y : Land), k.lands = [x, y] ∨ k.lands = [y, x] → k.macs = [] → x.dst = y.dst → x.due ≤ k.n → y.due ≤ k.n →
    x.due < y.due ∨ (x.due = y.due ∧ (x.word < y.word ∨ (x.word = y.word ∧ x.slot < y.slot))) →
    (∀ i, y.dst = .d i → k.settle.dR i = y.value) ∧ (∀ i, i < 8 → y.dst = .a i → k.settle.aR i = y.value) ∧
    (∀ i, i < 8 → y.dst = .m i → k.settle.mR i = y.value) ∧ (y.dst = .lc 0 → k.settle.lc0 = y.value) ∧
    (y.dst = .lc 1 → k.settle.lc1 = y.value) ∧ (y.dst = .st → k.settle.st = y.value.toNat % 16)) ∧
  (∀ (k : ZwCore) (slot : Nat) (lat i : Nat) (v : Word), k.lands = [] → k.macs = [] → 1 ≤ lat → lat ≤ 4 →
    ∀ n, (k.put slot { lands := [(lat, .d i, v)] }).lands = [⟨k.n + lat, k.n, slot, .d i, v⟩] ∧
      (({ k.put slot { lands := [(lat, .d i, v)] } with n := k.n + n } : ZwCore).settle.dR i = if lat ≤ n then v else k.dR i))

/-- R335, R349 to R353, R357, R365, Table 12-5: the control words: branches and calls take two delay slots, returns use the stack of 64,
loops set a level, waits block until an event, HALT stops; a control word in a delay slot or at a loop end is illegal. -/
def Obligations.ZwControlWordsIssue : Prop :=
  (∀ (dt c w size : Nat) (s s0 u : State) (k : ZwCore) (goes : State → ZwCore → Prop), s0 = s.tick dt → u = s0.settle c → k = u.zw c →
    w = s0.nextWord c → size = imemWords c → k.delay = none → k.atLoopEnd = false →
    (∀ t x, goes t x ↔ t.zw c = x ∧ (∀ d, d ≠ c → t.zw d = s.zw d) ∧ t.bus = u.bus) →
    (s0.zwRuns c 0x40 → ∃ t, exec (.zwBr dt c) s = .next t ∧ goes t { k with
      n := k.n + 1
      pc := (k.pc + 1) % size
      delay := some (2, if condHolds (wD w) k.st then some (wImm w % size) else none) }) ∧
    (s0.zwRuns c 0x41 → ∃ t, exec (.zwJr dt c) s = .next t ∧ goes t { k with
      n := k.n + 1
      pc := (k.pc + 1) % size
      delay := some (2, if condHolds (wD w) k.st then some ((k.dR (wA w)).toNat % 65536 % size) else none) }) ∧
    (s0.zwRuns c 0x42 → k.stack.length < 64 → ∃ t, exec (.zwCall dt c) s = .next t ∧ goes t { k with
      n := k.n + 1
      pc := (k.pc + 1) % size
      stack := (k.pc + 3) % size :: k.stack
      delay := some (2, some (wImm w % size)) }) ∧
    (s0.zwRuns c 0x43 → k.stack.length < 64 → ∃ t, exec (.zwCallr dt c) s = .next t ∧ goes t { k with
      n := k.n + 1
      pc := (k.pc + 1) % size
      stack := (k.pc + 3) % size :: k.stack
      delay := some (2, some ((k.dR (wA w)).toNat % 65536 % size)) }) ∧
    (∀ top rest, s0.zwRuns c 0x44 → k.stack = top :: rest → ∃ t, exec (.zwRet dt c) s = .next t ∧ goes t { k with
      n := k.n + 1
      pc := (k.pc + 1) % size
      stack := rest
      delay := some (2, some (top % size)) }) ∧
    (s0.zwRuns c 0x42 → k.stack.length = 64 → exec (.zwCall dt c) s = .next (u.zwStackFault c)) ∧
    (s0.zwRuns c 0x44 → k.stack = [] → exec (.zwRet dt c) s = .next (u.zwStackFault c)) ∧
    (s0.zwRuns c 0x45 → wD w % 2 = 1 → k.dR (wA w) ≠ 0 → ∃ t, exec (.zwLoop dt c) s = .next t ∧ goes t { k with
      n := k.n + 1
      pc := (k.pc + 1) % size
      lc1 := k.dR (wA w)
      loop1 := ⟨true, (k.pc + 1) % size, (k.pc + (w % 4096 + 1)) % size⟩ }) ∧
    (s0.zwRuns c 0x45 → wD w % 2 = 1 → k.dR (wA w) = 0 → ∃ t, exec (.zwLoop dt c) s = .next t ∧ goes t { k with
      n := k.n + 1
      pc := (k.pc + (w % 4096 + 1) + 1) % size
      lc1 := 0
      loop1 := ⟨false, 0, 0⟩ }) ∧
    (s0.zwRuns c 0x46 → wD w % 2 = 0 → 0 < w / 64 % 1024 → ∃ t, exec (.zwLoopi dt c) s = .next t ∧ goes t { k with
      n := k.n + 1
      pc := (k.pc + 1) % size
      lc0 := BitVec.ofNat 32 (w / 64 % 1024)
      loop0 := ⟨true, (k.pc + 1) % size, (k.pc + (w % 64 + 1)) % size⟩ }) ∧
    (s0.zwRuns c 0x47 → exec (.zwWait dt c) s =
      .next ((u.drain c).waitFor c (wD w) (((u.drain c).zw c).dR (wA w)))) ∧
    (s0.zwRuns c 0x48 → exec (.zwWaiti dt c) s = .next ((u.drain c).waitFor c (wD w)
      (BitVec.ofNat 32 (if wA w % 2 = 1 then wImm w * 65536 else wImm w)))) ∧
    (s0.zwRuns c 0x4B → exec (.zwHalt dt c) s = .next (u.zwStop c 1))) ∧
  (∀ (dt c : Nat) (s s0 : State), s0 = s.tick dt → ((s0.settle c).zw c).delay.isSome ∨ ((s0.settle c).zw c).atLoopEnd = true →
    (s0.zwRuns c 0x40 → exec (.zwBr dt c) s = .next ((s0.settle c).zwIllegal c)) ∧
    (s0.zwRuns c 0x44 → exec (.zwRet dt c) s = .next ((s0.settle c).zwIllegal c)) ∧
    (s0.zwRuns c 0x45 → exec (.zwLoop dt c) s = .next ((s0.settle c).zwIllegal c)) ∧
    (s0.zwRuns c 0x4B → exec (.zwHalt dt c) s = .next ((s0.settle c).zwIllegal c))) ∧
  (∀ (s : State) (c d : Nat) (mask : Word), s.evtOf c &&& mask = 0 → ((s.waitFor c d mask).zw c).waiting = some (mask, d) ∧
    ((s.waitFor c d mask).zw c).pc = ((s.zw c).pc + 1) % imemWords c ∧ (s.waitFor c d mask).bus.evt = s.bus.evt) ∧
  (∀ (s : State) (c d : Nat) (mask : Word), s.evtOf c &&& mask ≠ 0 → ((s.waitFor c d mask).zw c).waiting = (s.zw c).waiting ∧
    ((s.waitFor c d mask).zw c).dR d = s.evtOf c &&& mask ∧ (s.waitFor c d mask).evtOf c = s.evtOf c &&& ~~~mask) ∧
  (∀ (dt c d : Nat) (mask v : Word) (s : State), ((s.tick dt).zw c).waiting = some (mask, d) → v = s.evtOf c &&& mask → v ≠ 0 →
    ∃ t, exec (.waitResume dt c) s = .next t ∧ (t.zw c).waiting = none ∧ (t.zw c).dR d = v ∧ t.evtOf c = s.evtOf c &&& ~~~mask) ∧
  (∀ (dt c d : Nat) (mask : Word) (s : State), (s.zw c).waiting = some (mask, d) → s.evtOf c &&& mask = 0 →
    exec (.waitResume dt c) s = .next (s.tick dt))

/-- R355, R358, R364 to R366, Table 12-11: how the owner of a worker starts, stops and reaches it. A read of a memory of a worker that runs
does not step the address (log 43). -/
def Obligations.WorkersStartStopAndAreReached : Prop :=
  (∀ (dt vi w : Nat) (s : State), w < 96 → s.bus.pageAccess (zwkPage w) vi = 2 → s.bus.pageUp (zwkPage w) = true → s.zwStopped w = true →
    ∃ t, exec (.zwkStart dt vi w) s = .next t ∧ t.zw w = { ZwCore.init with
        imem := (s.zw w).imem
        dmem := (s.zw w).dmem
        pc := s.fld (zwkKey w R.ZWK_ENTRY) 0 14
        running := true
        started := s.bus.now + dt } ∧
      t.fld (zwkKey w R.ZWK_STATUS) 0 2 = 1 ∧ t.bit (zwkKey w R.ZWK_CTRL) 0 = true ∧ t.bus.evt.find 0 w = 0 ∧
      (∀ d, d ≠ w → t.zw d = s.zw d)) ∧
  (∀ (dt vi w : Nat) (s : State), w < 96 → s.bus.pageAccess (zwkPage w) vi = 2 → s.bus.pageUp (zwkPage w) = true →
    (s.zw w).running = true → ∃ t, exec (.zwkStop dt vi w) s = .next t ∧ (t.zw w).running = false ∧ (t.zw w).stopping = some 0 ∧
      (t.zw w).waiting = none ∧ (t.zw w).queue = (s.zw w).queue ∧ t.bit (zwkKey w R.ZWK_CTRL) 0 = false ∧
      (∀ d, d ≠ w → t.zw d = s.zw d)) ∧
  (∀ (dt w r : Nat) (s : State), s.bus.Ranged → w < 96 → (s.zw w).stopping = some r → (s.zw w).queue = [] → r < 16 →
    ∃ t, exec (.coreStopComplete dt w) s = .next t ∧ (t.zw w).stopping = none ∧ t.fld (zwkKey w R.ZWK_STATUS) 0 2 = 0 ∧
      t.fld (zwkKey w R.ZWK_STATUS) 2 4 = r ∧ t.pend (zwkPage w) 0 = true ∧
      ({ s.tick dt with cores := t.cores } : State).After t [zwkKey w R.ZWK_STATUS, pendKey (zwkPage w)]) ∧
  (∀ (dt w r : Nat) (s : State), (s.zw w).stopping = some r → (s.zw w).queue ≠ [] → exec (.coreStopComplete dt w) s = .next (s.tick dt)) ∧
  (∀ (dt vi w v a : Nat) (s : State), w < 96 → s.bus.pageAccess (zwkPage w) vi = 2 → s.bus.pageUp (zwkPage w) = true →
    s.zwStopped w = true → a = s.rd (zwkKey w R.ZWK_IMEM_ADDR) → ∃ t, exec (.zwkImemDataAccess dt vi w (some v)) s = .next t ∧
      t.imemRd w a = BitVec.ofNat 32 v ∧ (∀ b, b % 16384 ≠ a % 16384 → t.imemRd w b = s.imemRd w b) ∧
      t.rd (zwkKey w R.ZWK_IMEM_ADDR) = (a + 1) % 16384 ∧
      ({ s.tick dt with cores := t.cores } : State).After t [zwkKey w R.ZWK_IMEM_ADDR]) ∧
  (∀ (dt vi w v a : Nat) (s : State), w < 96 → s.bus.pageAccess (zwkPage w) vi = 2 → s.bus.pageUp (zwkPage w) = true →
    s.zwStopped w = true → a = s.rd (zwkKey w R.ZWK_DMEM_ADDR) → ∃ t, exec (.zwkDmemDataAccess dt vi w (some v)) s = .next t ∧
      t.dmemRd w a = BitVec.ofNat 32 v ∧ (∀ b, b % 32768 ≠ a % 32768 → t.dmemRd w b = s.dmemRd w b) ∧
      t.rd (zwkKey w R.ZWK_DMEM_ADDR) = (a + 1) % 32768) ∧
  (∀ (dt vi w : Nat) (s : State), w < 96 → s.bus.pageAccess (zwkPage w) vi = 2 → s.bus.pageUp (zwkPage w) = true → s.zwStopped w = true →
    ∃ t, exec (.zwkImemDataAccess dt vi w none) s = .next t ∧ t.cores = s.cores ∧
      t.bus.out = .readData vi (s.imemRd w (s.rd (zwkKey w R.ZWK_IMEM_ADDR))).toNat :: s.bus.out ∧
      t.rd (zwkKey w R.ZWK_IMEM_ADDR) = (s.rd (zwkKey w R.ZWK_IMEM_ADDR) + 1) % 16384) ∧
  (∀ (dt vi w : Nat) (s : State), w < 96 → s.bus.pageAccess (zwkPage w) vi = 2 → s.bus.pageUp (zwkPage w) = true → s.zwStopped w = true →
    ∃ t, exec (.zwkDmemDataAccess dt vi w none) s = .next t ∧ t.cores = s.cores ∧
      t.bus.out = .readData vi (s.dmemRd w (s.rd (zwkKey w R.ZWK_DMEM_ADDR))).toNat :: s.bus.out ∧
      t.rd (zwkKey w R.ZWK_DMEM_ADDR) = (s.rd (zwkKey w R.ZWK_DMEM_ADDR) + 1) % 32768) ∧
  (∀ (dt vi w : Nat) (s : State), w < 96 → s.bus.pageAccess (zwkPage w) vi = 2 → s.bus.pageUp (zwkPage w) = true → s.zwStopped w = false →
    exec (.zwkImemDataAccess dt vi w none) s = .next ((s.tick dt).emit (.readData vi 0)) ∧
    exec (.zwkDmemDataAccess dt vi w none) s = .next ((s.tick dt).emit (.readData vi 0))) ∧
  (∀ (dt vi w v : Nat) (s : State), w < 96 → s.bus.pageAccess (zwkPage w) vi = 2 → s.bus.pageUp (zwkPage w) = true →
    s.zwStopped w = false → exec (.zwkImemDataAccess dt vi w (some v)) s = .next ((s.tick dt).cfgErr (zwkPage w)) ∧
    exec (.zwkDmemDataAccess dt vi w (some v)) s = .next ((s.tick dt).cfgErr (zwkPage w))) ∧
  (∀ (dt vi w v : Nat) (s : State), w < 96 → s.bus.pageAccess (zwkPage w) vi = 2 → s.bus.pageUp (zwkPage w) = true →
    ∃ t, exec (.zwkDoorbell dt vi w v) s = .next t ∧
      (∀ i, i < 32 → (t.bus.evt.find 0 w).getLsbD i =
        ((s.bus.evt.find 0 w).getLsbD i || (decide (24 ≤ i) && decide (i < 28) && bitOf (i - 24) v))) ∧
      (∀ d, d ≠ w → t.bus.evt.find 0 d = s.bus.evt.find 0 d) ∧ t = { s.tick dt with bus := t.bus }) ∧
  (∀ (dt vi w v : Nat) (s : State), w < 96 → s.bus.pageAccess (zwkPage w) vi = 2 → s.bus.pageUp (zwkPage w) = true → 0 < v → v < 2 ^ 24 →
    ∃ t, exec (.zwkTimerWrite dt vi w v) s = .next t ∧ t.rd (zwkKey w R.ZWK_TIMER) = v ∧
      t.bus.timers.find? (tCore w) = some (s.bus.now + dt + clkUs v)) ∧
  (∀ (dt w : Nat) (s : State), (s.tick dt).due (tCore w) = true → w < 96 → s.bit (zwkKey w R.ZWK_TIMER) 31 = true →
    exec (.coreTimerExpire dt w) s = .next ((((s.tick dt).disarm (tCore w)).on (·.setEvt w 28)).arm (tCore w)
      (clkUs (s.fld (zwkKey w R.ZWK_TIMER) 0 24)))) ∧
  (∀ (dt vi w r v : Nat) (s : State), w < 96 → s.bus.pageAccess (zwkPage w) vi = 2 → s.bus.pageUp (zwkPage w) = true → bitOf 31 v = false →
    ∃ t, exec (.zwkRouteWrite dt vi w r v) s = .next t ∧ t.rd (rkSel (zwkPage w) R.ZWK_ROUTE (r % 16)) = v &&& 0x83FF01FF ∧
      (s.tick dt).After t [rkSel (zwkPage w) R.ZWK_ROUTE (r % 16)]) ∧
  (∀ (dt vi w r v : Nat) (s : State), w < 96 → s.bus.pageAccess (zwkPage w) vi = 2 → s.bus.pageUp (zwkPage w) = true → bitOf 31 v = true →
    (∀ p ∈ eventPages (fieldOf 0 9 v) (fieldOf 16 10 v), s.bus.pageAccess p (s.fld (zwkKey w R.ZWK_VI) 0 10) = 0) →
    exec (.zwkRouteWrite dt vi w r v) s = .next ((s.tick dt).cfgErr (zwkPage w)))

/-- R340, R360 to R363: remote commands enter a queue of 16, complete in issue order where they have a target in common, and report their
first failure. That order binds commands with a target in common is the model's reading of R361 (log 43). -/
def Obligations.RemoteCommandsQueueAndComplete : Prop :=
  (∀ (dt c w : Nat) (s s0 u : State) (k : ZwCore), s0 = s.tick dt → u = (s0.settle c).setRun c 1 → k = u.zw c → w = s0.nextWord c →
    ((s0.zw c).queue.length < 16 → s0.zwRuns c 0x50 → exec (.zwGet dt c) s = .next ((u.setZw c { k with
      queue := k.queue ++ [⟨true, fieldOf 8 3 w, (k.dR (wA w)).toNat, (k.aR (wD w)).toNat, [], w % 256 + 1⟩] }).advance c)) ∧
    ((s0.zw c).queue.length < 16 → s0.zwRuns c 0x51 → exec (.zwPut dt c) s = .next ((u.setZw c { k with
      queue := k.queue ++ [⟨false, fieldOf 8 3 w, (k.dR (wA w)).toNat, 0,
        (List.range (w % 256 + 1)).map (fun i => u.dmemRd c ((k.aR (wD w)).toNat + i)), w % 256 + 1⟩] }).advance c)) ∧
    ((s0.zw c).queue.length < 16 → s0.zwRuns c 0x52 → exec (.zwPutr dt c) s = .next ((u.setZw c { k with
      queue := k.queue ++ [⟨false, fieldOf 8 3 w, (k.dR (wA w)).toNat, 0, [k.dR (wD w)], 1⟩] }).advance c)) ∧
    (16 ≤ (s0.zw c).queue.length → s0.zwRuns c 0x52 → exec (.zwPutr dt c) s = .next (s0.setRun c 3))) ∧
  (∀ (dt c i : Nat) (b : Bool) (s : State), (s.zw c).queue[i]? = none → exec (.remoteCommandComplete dt c i b) s = .next (s.tick dt)) ∧
  (∀ (dt c i : Nat) (b : Bool) (s : State) (m : RemoteCmd), (s.zw c).queue[i]? = some m →
    ((s.zw c).queue.take i).any ((s.tick dt).meets c m) = true → exec (.remoteCommandComplete dt c i b) s = .next (s.tick dt)) ∧
  (∀ (dt c l x v g : Nat) (b : Bool) (s : State), c < 96 → s.actingVi c = 0 → l < 84 → s.workerOf l = some x → x ≠ c → x < 96 →
    s.bus.domUp (4 + x / 16) = true → v < 32768 →
    (s.zw c).queue = [⟨false, g, 0x20000000 + l * 0x40000 + 4 * v, 0, [7], 1⟩] →
    ∃ t, exec (.remoteCommandComplete dt c 0 b) s = .next t ∧ t.dmemRd x v = 7 ∧ (t.zw c).queue = []) ∧
  (∀ (dt c g : Nat) (b : Bool) (s : State), s.bus.Ranged → c < 96 → g < 8 → (s.zw c).queue = [⟨false, g, 0x40000000, 0, [7], 1⟩] →
    ∃ t, exec (.remoteCommandComplete dt c 0 b) s = .next t ∧ (t.zw c).queue = [] ∧ t.rd (zwkKey c R.ZWK_CMD_ERR_ADDR) = 0x40000000 ∧
      t.fld (zwkKey c R.ZWK_CMD_ERR) 0 4 = 4 ∧ t.fld (zwkKey c R.ZWK_CMD_ERR) 4 4 = g ∧ t.pend (zwkPage c) 1 = true ∧
      (t.bus.evt.find 0 c).getLsbD 29 = true ∧ (t.bus.evt.find 0 c).getLsbD (16 + g) = true)

/-! ## The double key, identity and tokens (chapter 13) -/

/-- R374, R376, R378, R379, Table 13-5: a proposal is opened, sealed or refused by the first check that fails, aborted, expires, and enters
APPLYING or is stale; commands that the state does not allow are configuration errors. R377, R380, R381: signatures are taken, verified,
accepted or refused by name; two that hold apply the proposal; presence lasts 300 s and applies a sealed bootstrap proposal. The order in
which a signature's refusals are tried is the model's reading (log 45). -/
def Obligations.ProposalsAreSealedSignedAndApplied : Prop :=
  (∀ (dt vi : Nat) (s : State), vi < 1024 → s.bus.pageUp dkyPage = true → s.dkyState = 0 → ∃ t, exec (.dkyOpen dt vi) s = .next t ∧
    t.dkyState = 1 ∧ t.dkyHolder = vi ∧ t.rd (dkyKey R.DKY_STAGE_HDR) = 0 ∧ t.dky.psig = none ∧ t.dky.csig = none ∧
    (∀ i, i < 512 → t.rd (rkSel dkyPage R.DKY_STAGE_ADDR i) = 0 ∧ t.rd (rkSel dkyPage R.DKY_STAGE_SELV i) = 0 ∧
      t.rd (rkSel dkyPage R.DKY_STAGE_VALUE i) = 0) ∧
    (∀ k, k ≠ dkyKey R.DKY_STATUS → keyPage k ≠ dkyPage ∨ keyOff k < R.DKY_STAGE_HDR ∨ R.DKY_STAGE_VALUE < keyOff k →
      t.rd k = s.rd k)) ∧
  (∀ (dt vi : Nat) (s : State), s.bus.pageUp dkyPage = true → s.dkyState ≠ 0 →
    exec (.dkyOpen dt vi) s = .next ((s.tick dt).cfgErr dkyPage)) ∧
  (∀ (dt vi : Nat) (s : State), s.bus.pageUp dkyPage = true → s.dkyState = 1 → s.dkyHolder = vi →
    ∃ t, exec (.dkySeal dt vi) s = .next t ∧ t.dkyState = 2 ∧ (s.tick dt).After t [dkyKey R.DKY_STATUS]) ∧
  (∀ (dt vi : Nat) (s : State), s.bus.pageUp dkyPage = true → s.dkyState ≠ 1 ∨ s.dkyHolder ≠ vi →
    exec (.dkySeal dt vi) s = .next ((s.tick dt).cfgErr dkyPage)) ∧
  (∀ (dt vi : Nat) (s : State), s.bus.pageUp dkyPage = true → s.dkyState = 1 ∨ s.dkyState = 3 → s.dkyHolder = vi ∨ vi = 0 →
    ∃ t, exec (.dkyAbort dt vi) s = .next t ∧ t.dkyState = 0 ∧ t.fld (dkyKey R.DKY_STATUS) 20 4 = 10 ∧ t.bus.running tWindow = false ∧
      ((s.tick dt).disarm tWindow).After t [dkyKey R.DKY_STATUS]) ∧
  (∀ (dt vi : Nat) (s : State), s.bus.pageUp dkyPage = true → (s.dkyState ≠ 1 ∧ s.dkyState ≠ 3) ∨ (s.dkyHolder ≠ vi ∧ vi ≠ 0) →
    exec (.dkyAbort dt vi) s = .next ((s.tick dt).cfgErr dkyPage)) ∧
  (∀ (dt r : Nat) (s : State), s.bus.Ranged → s.dkyState = 2 →
    (s.tick dt).bus.sealCheck s.dkyProposer s.dkyBoot s.dkyCount s.dkyStaged s.rngReady = r → 0 < r → r < 8 →
    ∃ t, exec (.dkySealComplete dt) s = .next t ∧ t.dkyState = 0 ∧ t.fld (dkyKey R.DKY_STATUS) 20 4 = r ∧ t.pend dkyPage 3 = true ∧
      ((s.tick dt).disarm tWindow).After t [dkyKey R.DKY_STATUS, pendKey dkyPage]) ∧
  (∀ (dt : Nat) (s : State), s.bus.Ranged → s.dkyState = 2 → s.dkyBoot = false ∨ s.dkyPresence = false →
    (s.tick dt).bus.sealCheck s.dkyProposer s.dkyBoot s.dkyCount s.dkyStaged s.rngReady = 0 →
    ∃ t, exec (.dkySealComplete dt) s = .next t ∧ t.dkyState = 3 ∧ t.rd (dkyKey R.DKY_SEAL_EPOCH) = s.rd (fltKey R.FLT_EPOCH) ∧
      t.dky.ops = s.dkyStaged ∧ t.pend dkyPage 0 = true ∧ t.bus.timers.find? tWindow = some (s.bus.now + dt + clkS 300) ∧
      (∀ i, i < 12 → t.rd (dkyKey (R.DKY_DIGEST + 4 * i)) = (bytesWords 12 (sha384 (proposalBytes s.dkyProposer s.dkyBoot s.dkyStaged ++
        octets 4 (s.rd (fltKey R.FLT_EPOCH)) ++ (t.rdList (dkyKey R.DKY_NONCE) 8).flatMap (octets 4)))).getD i 0 % 2 ^ 32)) ∧
  (∀ (dt : Nat) (s : State), s.bus.Ranged → (s.tick dt).due tWindow = true → s.dkyState = 3 → s.dky.sig = none →
    ∃ t, exec (.dkyWindowExpire dt) s = .next t ∧ t.dkyState = 0 ∧ t.fld (dkyKey R.DKY_STATUS) 20 4 = 9 ∧ t.pend dkyPage 4 = true ∧
      ((s.tick dt).disarm tWindow).After t [dkyKey R.DKY_STATUS, pendKey dkyPage]) ∧
  (∀ (s : State), s.bus.Ranged → s.rd (fltKey R.FLT_EPOCH) ≠ s.rd (dkyKey R.DKY_SEAL_EPOCH) →
    s.dkyApply.dkyState = 0 ∧ s.dkyApply.fld (dkyKey R.DKY_STATUS) 20 4 = 8 ∧ s.dkyApply.pend dkyPage 3 = true ∧
    s.dkyApply.epochs = s.epochs) ∧
  (∀ (s : State), s.rd (fltKey R.FLT_EPOCH) = s.rd (dkyKey R.DKY_SEAL_EPOCH) →
    s.dkyApply.dkyState = 4 ∧ s.dkyApply.epochs.asked = true ∧ s.dkyApply.bus.running tWindow = false ∧ s.dkyApply.dky = s.dky) ∧
(∀ (dt vi v p : Nat) (s : State), s.bus.pageUp dkyPage = true → bitOf 0 v = true → s.bit (dkyKey R.DKY_SIG_STATUS) 0 = false →
    s.fld (dkyKey R.DKY_SIG_PRIN) 0 6 = p → s.dkyState = 3 → s.dky.expiring = false →
    ∃ t, exec (.dkySigSubmit dt vi v) s = .next t ∧ t.bit (dkyKey R.DKY_SIG_STATUS) 0 = true ∧
      t.dky.sig = some ⟨p, wordsNat (s.rdList (dkyKey R.DKY_SIG_R) 12), wordsNat (s.rdList (dkyKey R.DKY_SIG_S) 12),
        s.bus.prinWords p, some s.dky.prop⟩ ∧ (∀ k, k ≠ dkyKey R.DKY_SIG_STATUS → t.rd k = s.rd k)) ∧
  (∀ (dt vi v : Nat) (s : State), s.bus.pageUp dkyPage = true → bitOf 0 v = true → s.bit (dkyKey R.DKY_SIG_STATUS) 0 = true →
    exec (.dkySigSubmit dt vi v) s = .next ((s.tick dt).cfgErr dkyPage)) ∧
  (∀ (dt vi v : Nat) (s : State), s.bus.pageUp dkyPage = true → bitOf 0 v = false → exec (.dkySigSubmit dt vi v) s = .next (s.tick dt)) ∧
  (∀ (dt : Nat) (s s2 : State) (g : DkySig), s.dky.sig = some g → s.dky.expiring = false →
    s2 = ((s.tick dt).modDky (fun d => { d with sig := none })).setBit (dkyKey R.DKY_SIG_STATUS) 0 false →
    exec (.dkySigVerified dt true) s = .next (s2.takeSig g.prin (s2.judgeSig g.prin g.words g.prop (s2.sigGood g)))) ∧
  (∀ (dt : Nat) (check : Bool) (s : State), s.dky.sig = none → exec (.dkySigVerified dt check) s = .next (s.tick dt)) ∧
  (∀ (s : State) (p : Nat) (w : List Nat) (prop : Option Nat) (good : Bool),
    (s.judgeSig p w prop good = 0 ↔ s.dkyState = 3 ∧ prop = some s.dky.prop ∧ prinValid w = true ∧ good = true ∧
      (if p = s.dkyProposer then s.dky.psig else s.dky.csig) = none ∧
      ∀ q, (if p = s.dkyProposer then s.dky.csig else s.dky.psig) = some q → prinRole (s.bus.prinWords q) ≠ prinRole w)) ∧
  (∀ (s : State) (p r : Nat), s.bus.Ranged → 0 < r → r < 8 → (s.takeSig p r).fld (dkyKey R.DKY_SIG_STATUS) 1 3 = r ∧
    (s.takeSig p r).pend dkyPage 7 = true ∧ (s.takeSig p r).dky = s.dky ∧
    s.After (s.takeSig p r) [dkyKey R.DKY_SIG_STATUS, pendKey dkyPage]) ∧
  (∀ (s : State) (p : Nat), s.bus.Ranged → p < 64 → p = s.dkyProposer → s.dky.csig = none →
    (s.takeSig p 0).dky = { s.dky with psig := some p } ∧ (s.takeSig p 0).bit (dkyKey R.DKY_STATUS) 6 = true ∧
    (s.takeSig p 0).fld (dkyKey R.DKY_SIG_STATUS) 8 6 = p ∧ (s.takeSig p 0).pend dkyPage 1 = true ∧
    (s.takeSig p 0).dkyState = s.dkyState) ∧
  (∀ (s : State) (p : Nat), s.bus.Ranged → p < 64 → p ≠ s.dkyProposer → s.dky.psig ≠ none →
    ∃ u : State, s.takeSig p 0 = u.dkyApply ∧ u.dky = { s.dky with csig := some p } ∧ u.bit (dkyKey R.DKY_STATUS) 7 = true ∧
      u.fld (dkyKey R.DKY_SIG_STATUS) 16 6 = p ∧ u.pend dkyPage 1 = true) ∧
  (∀ (dt : Nat) (low : Bool) (s : State), exec (.wakeNPresenceHold dt low) s =
    .next { s.tick dt with dky := { s.dky with wakeHeld := low } }) ∧
  (∀ (s : State), s.bus.Ranged → s.dkyState ≠ 3 ∨ s.dkyBoot = false → s.showPresence.dkyPresence = true ∧
    s.showPresence.pend dkyPage 5 = true ∧ s.showPresence.bus.timers.find? tPresence = some (s.bus.now + clkS 300) ∧
    s.showPresence.dkyState = s.dkyState) ∧
  (∀ (s : State), s.dkyState = 3 → s.dkyBoot = true → s.rd (fltKey R.FLT_EPOCH) = s.rd (dkyKey R.DKY_SEAL_EPOCH) → s.bus.Ranged →
    s.showPresence.dkyState = 4 ∧ s.showPresence.epochs.asked = true) ∧
  (∀ (dt : Nat) (s : State), (s.tick dt).due tPresence = true → ∃ t, exec (.presenceExpire dt) s = .next t ∧ t.dkyPresence = false ∧
    ((s.tick dt).disarm tPresence).After t [dkyKey R.DKY_STATUS])

/-- R384, R385: the identity key is generated once and KEYID is its digest; a report takes the challenge, and the VI that asked reads it.
-/
def Obligations.IdentityIsMadeOnceAndReported : Prop :=
  (∀ (dt vi v : Nat) (s : State), s.bus.pageUp idnPage = true → bitOf 0 v = true → s.bit (idnKey R.IDN_STATUS) 3 = false →
    s.idnReady = true → ∃ t, exec (.idnReportRequest dt vi v) s = .next t ∧ t.bit (idnKey R.IDN_STATUS) 3 = true ∧
      t.idn = { s.idn with req := some (vi, s.rdList (idnKey R.IDN_CHAL) 8), reader := none } ∧
      (∀ k, k ≠ idnKey R.IDN_STATUS → t.rd k = s.rd k)) ∧
  (∀ (dt vi v : Nat) (s : State), s.bus.pageUp idnPage = true → bitOf 0 v = true → s.bit (idnKey R.IDN_STATUS) 3 = true →
    exec (.idnReportRequest dt vi v) s = .next ((s.tick dt).cfgErr idnPage)) ∧
  (∀ (dt vi : Nat) (chal : List Nat) (s : State), s.bus.Ranged → vi < 1024 → s.idn.req = some (vi, chal) →
    ∃ t, exec (.idnReportReady dt) s = .next t ∧ t.bit (idnKey R.IDN_STATUS) 3 = false ∧ t.idn.req = none ∧ t.idn.reader = some vi ∧
      t.idn.report.take 83 = bytesWords 83 ((s.tick dt).reportBody chal) ∧ t.idn.report.length = 107 ∧ t.pend idnPage 0 = true) ∧
  (∀ (dt : Nat) (s : State), s.idn.req = none → exec (.idnReportReady dt) s = .next (s.tick dt)) ∧
  (∀ (dt : Nat) (s : State), s.idn.keyed = false → s.rngReady = true → ∃ t, exec (.identityKeygen dt) s = .next t ∧
    t.idn.keyed = true ∧ t.idnReady = true ∧ (∀ i, i < 12 → t.rd (idnKey (R.IDN_KEYID + 4 * i)) =
      (bytesWords 12 (sha384 (4 :: (t.rdList (idnKey R.IDN_PUB) 24).flatMap (octets 4)))).getD i 0 % 2 ^ 32)) ∧
  (∀ (dt : Nat) (s : State), s.idn.keyed = true ∨ s.rngReady = false → exec (.identityKeygen dt) s = .next (s.tick dt))

/-- R387 to R390, Tables 13-8 to 13-10: selection, AUTH1, AUTH2 and READ; what a success and a failure do, and the lock-out. R391 to R394:
PING and its repetition, the token leaving, the idle stop and its end, the relay and its time, the signature. The order of the bytes of a
UID and of a challenge is the model's choice (log 46). -/
def Obligations.TokensAuthenticateStayReleaseAndSign : Prop :=
  (∀ (dt n : Nat) (s : State), s.tokState n = 1 → s.bus.inWatch (17 + n) = false → exec (.tokPoll dt n true) s = .next ((s.tick dt).wake 4)) ∧
  (∀ (dt n : Nat) (card : Bool) (s : State), s.tokState n ≠ 1 ∨ card = false → exec (.tokPoll dt n card) s = .next (s.tick dt)) ∧
  (∀ (dt n : Nat) (uid : List Nat) (s : State), n < 8 → s.bus.pageUp (tokPage n) = true → n ≠ 0 ∨ s.dky.wakeHeld = false →
    s.tokState n = 1 → uid.length = 7 → s.rngReady = true → ∃ t, exec (.tokSelect dt n uid) s = .next t ∧ t.tokState n = 2 ∧
      (t.tok n).uid = uid ∧ (t.tok n).awaits = 1 ∧ (t.tok n).k = s.tokenKey uid ∧ (t.tok n).ra.length = 8 ∧
      t.bus.out = .tokFrame n ([0xA1, 0x01] ++ (t.tok n).ra) :: s.bus.out ∧
      t.bus.timers.find? (tReply n) = some (s.bus.now + dt + clkMs 10) ∧ (t.tok n).answered = s.bus.now + dt) ∧
  (∀ (dt n : Nat) (uid : List Nat) (s : State), s.bus.pageUp (tokPage n) = true → n ≠ 0 ∨ s.dky.wakeHeld = false →
    s.tokState n = 1 → uid.length ≠ 7 → ∃ t, exec (.tokSelect dt n uid) s = .next t ∧ t.tokState n = 1 ∧ t.bus = (s.tick dt).bus) ∧
  (∀ (dt : Nat) (uid : List Nat) (s : State), s.bus.pageUp (tokPage 0) = true → s.dky.wakeHeld = true → s.tokState 0 = 0 →
    s.dkyState ≠ 3 → exec (.tokSelect dt 0 uid) s = .next (s.tick dt).showPresence) ∧
  (∀ (dt n : Nat) (bytes : List Nat) (s : State), s.tokState n = 2 → (s.tok n).awaits = 1 → bytes.length = 17 → bytes.headD 0 = 0xA1 →
    (aesDecrypt (s.tok n).k (bytes.drop 1)).take 8 = (s.tok n).ra → ∃ t, exec (.tokAuth1Reply dt n bytes) s = .next t ∧ t.tokState n = 2 ∧
      (t.tok n).rb = (aesDecrypt (s.tok n).k (bytes.drop 1)).drop 8 ∧ (t.tok n).awaits = 2 ∧
      t.bus.out = .tokFrame n (0xA2 :: aesEncrypt (s.tok n).k ((t.tok n).rb ++ (s.tok n).ra)) :: s.bus.out ∧
      t.bus.timers.find? (tReply n) = some (s.bus.now + dt + clkMs 10)) ∧
  (∀ (dt n : Nat) (bytes : List Nat) (s : State), s.tokState n = 2 → (s.tok n).awaits = 1 →
    bytes.length ≠ 17 ∨ (aesDecrypt (s.tok n).k (bytes.drop 1)).take 8 ≠ (s.tok n).ra →
    exec (.tokAuth1Reply dt n bytes) s = .next (((s.tick dt).disarm (tReply n)).tokFail n)) ∧
  (∀ (dt n : Nat) (s : State), s.tokState n = 2 → (s.tok n).awaits = 2 → ∃ t, exec (.tokAuth2Reply dt n [0xA2, 0x00]) s = .next t ∧
    t.tokState n = 2 ∧ (t.tok n).awaits = 3 ∧ t.bus.out = .tokFrame n [0xB0] :: s.bus.out ∧
    (t.tok n).ks = aesEncrypt (s.tok n).k ((s.tok n).ra.take 4 ++ (s.tok n).rb.take 4 ++ (s.tok n).ra.drop 4 ++ (s.tok n).rb.drop 4)) ∧
  (∀ (dt n : Nat) (bytes : List Nat) (s : State), s.tokState n = 2 → (s.tok n).awaits = 2 → bytes ≠ [0xA2, 0x00] →
    exec (.tokAuth2Reply dt n bytes) s = .next (((s.tick dt).disarm (tReply n)).tokFail n)) ∧
  (∀ (dt n : Nat) (c : List Nat) (s : State), s.tokState n = 2 → (s.tok n).awaits = 3 → c.length = 16 →
    (mac8 (s.tok n).ks c).length = 8 → exec (.tokReadReply dt n (0xB0 :: c ++ mac8 (s.tok n).ks c)) s =
      .next (((s.tick dt).disarm (tReply n)).tokSucceed n (aesDecrypt (s.tok n).ks c))) ∧
  (∀ (dt n : Nat) (bytes : List Nat) (s : State), s.tokState n = 2 → (s.tok n).awaits = 3 →
    bytes.drop 17 ≠ mac8 (s.tok n).ks ((bytes.drop 1).take 16) →
    exec (.tokReadReply dt n bytes) s = .next (((s.tick dt).disarm (tReply n)).tokFail n)) ∧
  (∀ (dt n : Nat) (s : State), (s.tick dt).due (tReply n) = true → s.tokState n = 2 → (s.tok n).awaits = 1 →
    ∃ t, exec (.tokReplyTimeout dt n) s = .next t ∧ t.tokState n = 1 ∧ t.rd (tokKey n R.TOK_FAILS) = s.rd (tokKey n R.TOK_FAILS)) ∧
  (∀ (dt n : Nat) (s : State), (s.tick dt).due (tReply n) = true → s.tokState n = 2 → (s.tok n).awaits ≠ 1 →
    exec (.tokReplyTimeout dt n) s = .next (((s.tick dt).disarm (tReply n)).tokFail n)) ∧
  (∀ (s : State) (n f : Nat), s.bus.Ranged → n < 8 → f = min (s.fld (tokKey n R.TOK_FAILS) 0 4 + 1) 15 →
    (s.tokFail n).fld (tokKey n R.TOK_FAILS) 0 4 = f ∧ (s.tokFail n).pend (tokPage n) 1 = true ∧
    (s.tokFail n).rd (tokKey n R.TOK_CNT_FAIL) = min (s.rd (tokKey n R.TOK_CNT_FAIL) + 1) 0xFFFFFFFF ∧
    (f < s.fld (tokKey n R.TOK_CFG) 0 4 → (s.tokFail n).tokState n = 1) ∧
    (s.fld (tokKey n R.TOK_CFG) 0 4 ≤ f → (s.tokFail n).tokState n = 4 ∧ (s.tokFail n).pend (tokPage n) 2 = true ∧
      (s.tokFail n).bus.timers.find? (tLockout n) = some (s.bus.now + clkS (60 * s.fld (tokKey n R.TOK_CFG) 4 6)))) ∧
  (∀ (s : State) (n : Nat) (r : List Nat), s.bus.Ranged → n < 8 → (∀ b ∈ r, b < 256) → ∃ u : State,
    s.tokSucceed n r = (u.ifThen (u.tokReleases n) (·.tokRelease n)).tokSign n ∧ u.tokState n = 3 ∧
    u.fld (tokKey n R.TOK_FAILS) 0 4 = 0 ∧ u.fld (tokKey n R.TOK_HOLDER) 0 24 = natOf (r.take 3) ∧
    u.fld (tokKey n R.TOK_HOLDER) 24 4 = r.getD 3 0 % 16 ∧ u.rd (tokKey n R.TOK_GROUPS) = natOf ((r.drop 4).take 2) ∧
    u.bit (tokKey n R.TOK_STATUS) 5 = s.revoked (natOf (r.take 3)) ∧
    u.bit (tokKey n R.TOK_STATUS) 4 = s.expired (natOf ((r.drop 6).take 6)) ∧
    u.pend (tokPage n) 0 = true ∧ u.pend (tokPage n) 3 = true ∧ u.bus.timers.find? (tPing n) = some (s.bus.now + clkMs 250) ∧
    u.rd (tokKey n R.TOK_CNT_OK) = (s.rd (tokKey n R.TOK_CNT_OK) + 1) % 2 ^ 32) ∧
  (∀ (dt n : Nat) (s : State), s.bus.Ranged → n < 8 → (s.tick dt).due (tLockout n) = true → s.tokState n = 4 →
    ∃ t, exec (.tokLockoutExpire dt n) s = .next t ∧ t.tokState n = 1 ∧ t.fld (tokKey n R.TOK_FAILS) 0 4 = 0) ∧
(∀ (dt n : Nat) (s s1 : State), s1 = ((s.tick dt).disarm (tPing n)).emit (.tokFrame n (s.tok n).ping) →
    (s.tick dt).due (tPing n) = true → s.tokState n = 3 →
    exec (.tokPing dt n (s.tok n).pong) s = .next (s1.tokStays n (clkMs 250)) ∧
    (∀ reply, reply ≠ (s.tok n).pong → exec (.tokPing dt n reply) s = .next (s1.arm (tPingRetry n) (clkMs 5)))) ∧
  (∀ (dt n : Nat) (s s1 : State), s1 = ((s.tick dt).disarm (tPingRetry n)).emit (.tokFrame n (s.tok n).ping) →
    (s.tick dt).due (tPingRetry n) = true → s.tokState n = 3 →
    exec (.tokPingRetry dt n (s.tok n).pong) s = .next (s1.tokStays n (clkMs 245)) ∧
    (∀ reply, reply ≠ (s.tok n).pong → exec (.tokPingRetry dt n reply) s = .next (s1.tokLeaves n))) ∧
  (∀ (s : State) (n clks : Nat), s.bus.Ranged → n < 8 → s.tokState n = 3 → (s.tokStays n clks).tokState n = 3 ∧
    (s.tokStays n clks).bus.timers.find? (tPing n) = some (s.bus.now + clks) ∧
    ((s.tokStays n clks).tokValid n = false → (s.tokStays n clks).tokRelayOn n = false)) ∧
  (∀ (s : State) (n : Nat), s.bus.Ranged → n < 8 → (s.tokLeaves n).tokState n = 1 ∧ (s.tokLeaves n).pend (tokPage n) 4 = true ∧
    (s.tokRelayOn n = true → s.tokPulse n = false → 0 < s.tokTime n → (s.tokLeaves n).tokRelayOn n = true ∧
      (s.tokLeaves n).bus.timers.find? (tRelay n) = some (s.bus.now + s.tokTime n))) ∧
  (∀ (dt n : Nat) (s : State), s.bus.Ranged → n < 8 → s.tokState n = 1 → (s.tick dt).tokIdle n = true → s.tokRelayOn n = false →
    ∃ t, exec (.tokIdleStop dt n) s = .next t ∧ t.tokState n = 5 ∧ t.pend (tokPage n) 6 = true) ∧
  (∀ (dt n : Nat) (s : State), s.tokState n ≠ 1 ∨ (s.tick dt).tokIdle n = false → exec (.tokIdleStop dt n) s = .next (s.tick dt)) ∧
  (∀ (dt vi n v : Nat) (s : State), s.bus.Ranged → n < 8 → s.bus.pageAccess (tokPage n) vi = 2 → s.bus.pageUp (tokPage n) = true →
    s.bit (tokKey n R.TOK_CTRL) 0 = false → bitOf 0 v = true → s.tokState n = 5 → ∃ t, exec (.tokPollEnable dt vi n v) s = .next t ∧
      t.tokState n = 1 ∧ t.pend (tokPage n) 6 = true ∧ t.bit (tokKey n R.TOK_CTRL) 0 = true ∧ (t.tok n).answered = s.bus.now + dt) ∧
  (∀ (dt vi n v : Nat) (s : State), n < 8 → s.bus.pageAccess (tokPage n) vi = 2 → s.bus.pageUp (tokPage n) = true →
    bitOf 0 v = false → ∃ t, exec (.tokPollEnable dt vi n v) s = .next t ∧ t.bit (tokKey n R.TOK_CTRL) 0 = false ∧
      (s.tick dt).After t [tokKey n R.TOK_CTRL]) ∧
  (∀ (dt vi n v : Nat) (s : State), n < 8 → s.bus.pageAccess (tokPage n) vi = 2 → s.bus.pageUp (tokPage n) = true →
    s.bit (tokKey n R.TOK_CTRL) 0 = false → bitOf 0 v = true → s.tokState n = 0 → s.pageEn (tokPage n) = true →
    s.bus.running (tLockout n) = false → ∃ t, exec (.tokPollEnable dt vi n v) s = .next t ∧ t.tokState n = 1) ∧
  (∀ (dt n : Nat) (s : State), (s.tick dt).due (tRelay n) = true →
    exec (.tokRelayTimeExpire dt n) s = .next (((s.tick dt).disarm (tRelay n)).setRelay n false)) ∧
  (∀ (s : State) (n : Nat) (on : Bool), s.bus.Ranged → n < 8 → (s.setRelay n on).tokRelayOn n = on ∧
    (s.tokRelayOn n = on → s.setRelay n on = s) ∧ (s.tokRelayOn n ≠ on → (s.setRelay n on).pend (tokPage n) 5 = true)) ∧
  (∀ (s : State) (n : Nat), s.bus.Ranged → n < 8 → s.tokKind n = 1 → (s.tokRelease n).tokRelayOn n = true ∧
    (s.tokRelease n).bus.timers.find? (tRelay n) = if s.tokPulse n then some (s.bus.now + s.tokTime n) else none) ∧
  (∀ (s : State) (n : Nat), s.tokKind n = 2 → s.bus.inWatch 25 = false →
    s.tokRelease n = s.coiFire (s.tokChannel n) (s.fld (tokKey n R.TOK_RELAY) 8 6) false) ∧
  (∀ (s : State) (n i : Nat) (w : List Nat), s.dkyState = 3 → s.dky.expiring = false → s.tokValid n = true →
    s.bit (tokKey n R.TOK_CFG) 30 = true → i < 64 → s.bus.prinWords i = w → prinValid w = true → prinKind w = 2 →
    prinToken w = s.fld (tokKey n R.TOK_HOLDER) 0 24 → bitOf n (prinPorts w) = true →
    (∀ j, j < i → prinToken (s.bus.prinWords j) ≠ s.fld (tokKey n R.TOK_HOLDER) 0 24) →
    s.bit (rk (Block.swi.pg 0) (R.SWI_STATE_LO + 4 * (s.fld (tokKey n R.TOK_CFG) 24 6 / 32))) (s.fld (tokKey n R.TOK_CFG) 24 6 % 32) = true →
    s.tokSign n = s.takeSig i (s.judgeSig i w (some s.dky.prop) true)) ∧
  (∀ (s : State) (n : Nat), s.dkyState ≠ 3 → s.tokSign n = s) ∧
  (∀ (dt n : Nat) (s : State), exec (.tokFrontendFault dt n) s =
    .next (((s.tick dt).tokEnter n 0).fault 106 { page := tokPage n }))

/-! ## Power states, Watch and the budget (chapter 14) -/

/-- R401 to R403, Tables 14-2 and 14-3: a ladder target is entered, exited or refused by its reason; entry drains the ranks in order, ends
in its state, or is given up. -/
def Obligations.LadderStatesAreEnteredLeftOrRefused : Prop :=
  (∀ (dt : Nat) (s : State), s.bus.pageAccess pwrPage 0 = 2 → s.bus.pageUp pwrPage = true → s.ladder.phase = 0 →
    (∀ c, c < 8 → s.coiPhase c ≠ 1) → s.dkyState ≠ 4 → s.fld (updKey R.UPD_STATUS) 0 3 ≠ 5 → s.pwrState = 0 →
    exec (.pwrTargetIdle dt 0) s = .next ((s.tick dt).ladderEnter 1) ∧ exec (.pwrTargetSleep dt 0) s = .next ((s.tick dt).ladderEnter 2) ∧
    exec (.pwrTargetDeep dt 0) s = .next ((s.tick dt).ladderEnter 3) ∧ exec (.pwrTargetOff dt 0) s = .next ((s.tick dt).ladderEnter 4) ∧
    exec (.pwrTargetRun dt 0) s = .next ((s.tick dt).wr (pwrKey R.PWR_CTRL) 0)) ∧
  (∀ (s : State) (t d0 : Nat), s.bus.Ranged → 1 ≤ t → t ≤ 4 → d0 ∈ ranks.headD [] → s.bus.domState d0 = 0 →
    (s.ladderEnter t).ladder.phase = 1 ∧ (s.ladderEnter t).ladder.target = t ∧
    (s.ladderEnter t).ladder.draining = (ranks.headD []).filter (fun d => decide (s.bus.domState d = 0)) ∧
    (s.ladderEnter t).rd (pwrKey R.PWR_CTRL) = t ∧ (s.ladderEnter t).bit (pwrKey R.PWR_STATUS) 3 = true ∧
    (s.ladderEnter t).bit (pwrKey R.PWR_STATUS) 16 = true ∧ (s.ladderEnter t).bus.running tHeartbeat = false ∧
    ∀ d, d < 22 → (s.ladderEnter t).bus.domState d =
      if d ∈ ranks.headD [] ∧ s.bus.domState d = 0 then 5 else s.bus.domState d) ∧
  (∀ (s : State) (t : Nat), 1 ≤ t → (s.ladder.phase ≠ 0 → s.pwrTarget t = s.pwrRefuse 1) ∧
    (s.ladder.phase = 0 → (∃ c, c < 8 ∧ s.coiPhase c = 1) → s.pwrTarget t = s.pwrRefuse 2) ∧
    (s.ladder.phase = 0 → (∀ c, c < 8 → s.coiPhase c ≠ 1) → s.dkyState = 4 ∨ s.fld (updKey R.UPD_STATUS) 0 3 = 5 →
      s.pwrTarget t = s.pwrRefuse 3) ∧
    (s.ladder.phase = 0 → (∀ c, c < 8 → s.coiPhase c ≠ 1) → s.dkyState ≠ 4 → s.fld (updKey R.UPD_STATUS) 0 3 ≠ 5 → s.pwrState ≠ 0 →
      s.pwrTarget t = s.pwrRefuse 5)) ∧
  (∀ (s : State) (r : Nat), s.bus.Ranged → r < 16 → (s.pwrRefuse r).fld (pwrKey R.PWR_STATUS) 4 4 = r ∧
    (s.pwrRefuse r).pend pwrPage 6 = true ∧ s.After (s.pwrRefuse r) [pwrKey R.PWR_STATUS, pendKey pwrPage]) ∧
  (∀ (dt vi : Nat) (s : State), vi ≠ 0 → s.bus.pageAccess pwrPage vi = 2 → s.bus.pageUp pwrPage = true →
    exec (.pwrTargetOff dt vi) s = .next ((s.tick dt).on (·.denied))) ∧
  (∀ (dt : Nat) (s : State), s.bus.pageAccess pwrPage 0 = 2 → s.bus.pageUp pwrPage = true → s.ladder.phase = 0 → s.pwrState ≠ 0 →
    s.power.tripped = false → exec (.pwrTargetRun dt 0) s = .next (((s.tick dt).wr (pwrKey R.PWR_CTRL) 0).beginExit)) ∧
  (∀ (s : State), s.bus.Ranged → 1 ≤ s.pwrState → s.pwrState ≤ 3 → s.beginExit.ladder.phase = 3 ∧
    s.beginExit.bit (pwrKey R.PWR_STATUS) 3 = true ∧ (∀ d ∈ s.ladder.down, d < 22 → s.beginExit.bus.domState d = 6) ∧
    s.beginExit.bus.timers.find? tLadder = some (s.bus.now + exitTime s.pwrState)) ∧
  (∀ (dt d us : Nat) (s s2 : State), (s.tick dt).domUs d = us → us ≤ 200 → s.bus.domState d = 5 → s.postedIn d = false →
    d ∈ s.ladder.draining → s.ladder.draining.filter (· != d) ≠ [] →
    s2 = ((s.tick dt).wr (pwrDKey d R.PWR_D_DRAIN) (us + 256 * max us (s.fld (pwrDKey d R.PWR_D_DRAIN) 8 8))).domDown d s.ladder.target →
    exec (.domainDrainComplete dt d) s = .next { s2 with ladder :=
      { s2.ladder with draining := s.ladder.draining.filter (· != d), down := d :: s2.ladder.down } }) ∧
  (∀ (dt d us : Nat) (s : State), (s.tick dt).domUs d = us → us ≤ 200 → s.bus.domState d = 5 → s.postedIn d = false →
    d ∉ s.ladder.draining → exec (.domainDrainComplete dt d) s = .next (((s.tick dt).wr (pwrDKey d R.PWR_D_DRAIN)
      (us + 256 * max us (s.fld (pwrDKey d R.PWR_D_DRAIN) 8 8))).domDown d (s.power.target.find 0 d))) ∧
  (∀ (s : State) (d st : Nat), s.bus.Ranged → d < 22 → st < 16 → (s.domDown d st).bus.domState d = st ∧
    (1 ≤ d → 3 ≤ st → (s.domDown d st).bit (pwrKey R.PWR_PAD_HELD) d = true ∧ (s.domDown d st).bit (pwrDKey d R.PWR_D_STATUS) 8 = true) ∧
    (s.bus.domState d ≠ st → (s.domDown d st).pend (Block.pwrD.pg d) 2 = true)) ∧
  (∀ (dt d : Nat) (s : State), s.bus.Ranged → d < 22 → s.bus.domState d = 5 → s.power.since.find 0 d + clkUs 200 ≤ s.bus.now + dt →
    d ∉ s.ladder.draining → ∃ t, exec (.domainDrainAbort dt d) s = .next t ∧ t.bus.domState d = 0 ∧ t.pend (Block.pwrD.pg d) 3 = true ∧
      t.fld (pwrDKey d R.PWR_D_STATUS) 4 4 = 4 ∧ t.bit (pwrDKey d R.PWR_D_STATUS) 9 = false ∧
      t.rd (pwrDKey d R.PWR_D_CNT_ABORT) = min (s.rd (pwrDKey d R.PWR_D_CNT_ABORT) + 1) 0xFFFFFFFF) ∧
  (∀ (dt d : Nat) (s : State), s.bus.Ranged → d < 22 → s.bus.domState d = 5 → s.power.since.find 0 d + clkUs 200 ≤ s.bus.now + dt →
    d ∈ s.ladder.draining → ∃ u : State, exec (.domainDrainAbort dt d) s = .next (u.endEntry 4) ∧ u.ladder = s.ladder ∧
      u.pend (Block.pwrD.pg d) 3 = true) ∧
  (∀ (s : State) (r : Nat), s.bus.Ranged → r < 16 → (s.endEntry r).pwrState = 0 ∧ (s.endEntry r).bit (pwrKey R.PWR_STATUS) 3 = false ∧
    (s.endEntry r).fld (pwrKey R.PWR_STATUS) 4 4 = r ∧ (s.endEntry r).pend pwrPage 1 = true ∧ (s.endEntry r).ladder = Ladder.init ∧
    (∀ d, d < 22 → d ∈ s.ladder.draining ∨ d ∈ s.ladder.down → (s.endEntry r).bus.domState d = 0) ∧
    (s.endEntry r).bus.timers.find? tHeartbeat = some (s.bus.now + clkMs 100)) ∧
  (∀ (dt : Nat) (s : State), s.ladder.phase = 2 → exec (.ladderStateReached dt none) s = .next (s.tick dt).ladderReached) ∧
  (∀ (s : State), s.bus.Ranged → s.ladder.target = 1 → s.ladder.latched = false → s.ladderReached.pwrState = 1 ∧
    s.ladderReached.bit (pwrKey R.PWR_STATUS) 3 = false ∧ s.ladderReached.pend pwrPage 1 = true ∧ s.ladderReached.ladder.phase = 0) ∧
  (∀ (s : State), s.bus.Ranged → 3 ≤ s.ladder.target → s.ladder.latched = false → s.ladderReached.bus.pcieUp = false) ∧
  (∀ (dt : Nat) (s : State), s.ladder.phase = 3 → (s.tick dt).due tLadder = true →
    exec (.ladderStateReached dt none) s = .next ((s.tick dt).disarm tLadder).ladderRun) ∧
  (∀ (s : State), s.bus.Ranged → s.ladderRun.pwrState = 0 ∧ s.ladderRun.bit (pwrKey R.PWR_STATUS) 3 = false ∧
    s.ladderRun.pend pwrPage 1 = true ∧ s.ladderRun.ladder = Ladder.init ∧
    (s.ladder.woken = true → s.ladderRun.pend pwrPage 4 = true ∧
      s.ladderRun.rd (pwrKey R.PWR_CNT_WAKE) = (s.rd (pwrKey R.PWR_CNT_WAKE) + 1) % 2 ^ 32))

/-- R400, R407, Table 14-1: a domain on its own is drained, wakes, returns or stays down; its pad latches are released by request. R408 to
R410, Tables 14-3 to 14-5: a console section enters Watch when it is idle, wakes and is back; a wake source is recorded and acts as the
state of the ladder has it. -/
def Obligations.DomainsAndSectionsLeaveAndReturn : Prop :=
  (∀ (dt d req v : Nat) (s : State), s.bus.Ranged → d < 22 → s.bus.pageAccess (Block.pwrD.pg d) 0 = 2 →
    s.bus.pageUp (Block.pwrD.pg d) = true → s.ladder.phase = 0 → v % 8 = req → req ≠ 0 → req ∈ ownStates d → s.bus.domState d = 0 →
    s.pwrState = 0 → s.mayLeave d req = true → ∃ t, exec (.pwrDRequest dt 0 d v) s = .next t ∧ t.bus.domState d = 5 ∧
      t.rd (pwrDKey d R.PWR_D_CTRL) = req ∧ t.fld (pwrDKey d R.PWR_D_STATUS) 4 4 = 0 ∧ t.bit (pwrDKey d R.PWR_D_STATUS) 9 = true ∧
      t.power.target.find 0 d = req ∧ t.power.since.find 0 d = s.bus.now + dt ∧ t.pend (Block.pwrD.pg d) 2 = true) ∧
  (∀ (dt d v : Nat) (s : State), s.bus.pageAccess (Block.pwrD.pg d) 0 = 2 → s.bus.pageUp (Block.pwrD.pg d) = true →
    s.ladder.phase = 0 → v % 8 ≠ 0 → v % 8 ∉ ownStates d ∨ s.bus.domState d ≠ 0 ∨ s.pwrState ≠ 0 ∨ s.mayLeave d (v % 8) = false →
    exec (.pwrDRequest dt 0 d v) s = .next ((s.tick dt).domRefuse d 5)) ∧
  (∀ (s : State) (d r : Nat), s.bus.Ranged → d < 22 → r < 16 → (s.domRefuse d r).fld (pwrDKey d R.PWR_D_STATUS) 4 4 = r ∧
    (s.domRefuse d r).pend (Block.pwrD.pg d) 6 = true ∧ (s.domRefuse d r).bus.domState d = s.bus.domState d) ∧
  (∀ (dt d v : Nat) (s : State), s.bus.pageAccess (Block.pwrD.pg d) 0 = 2 → s.bus.pageUp (Block.pwrD.pg d) = true →
    s.ladder.phase ≠ 0 → exec (.pwrDRequest dt 0 d v) s = .next ((s.tick dt).setFld (pwrDKey d R.PWR_D_STATUS) 4 4 1)) ∧
  (∀ (dt d v : Nat) (s : State), s.bus.Ranged → d < 22 → s.bus.pageAccess (Block.pwrD.pg d) 0 = 2 →
    s.bus.pageUp (Block.pwrD.pg d) = true → s.ladder.phase = 0 → v % 8 = 0 → s.bit (pwrDKey d R.PWR_D_STATUS) 9 = true →
    s.bus.domState d ≠ 5 → s.bus.domState d ≠ 6 → ∃ t, exec (.pwrDRequest dt 0 d v) s = .next t ∧ t.bus.domState d = 6 ∧
      t.power.target.find 0 d = s.bus.domState d ∧ t.power.since.find 0 d = s.bus.now + dt) ∧
  (∀ (dt d st : Nat) (s : State), s.bus.Ranged → d < 22 → s.power.target.find 0 d = st → st ≠ 4 → s.bus.domState d = 6 →
    s.bit (pwrDKey d R.PWR_D_STATUS) 9 = true → s.power.since.find 0 d + exitTime st ≤ s.bus.now + dt →
    ∃ t, exec (.ladderStateReached dt (some d)) s = .next t ∧ t.bus.domState d = 0 ∧ t.bit (pwrDKey d R.PWR_D_STATUS) 9 = false ∧
      t.pend (Block.pwrD.pg d) 2 = true ∧ (s.tick dt).bus.Reported t.bus [pwrDKey d R.PWR_D_STATUS, pendKey (Block.pwrD.pg d)]) ∧
  (∀ (dt d st : Nat) (s : State), s.power.target.find 0 d = st → s.bus.domState d = 6 → s.bit (pwrDKey d R.PWR_D_STATUS) 9 = true →
    s.power.since.find 0 d + 2 * exitTime st ≤ s.bus.now + dt → ∃ u : State,
      u = ((s.tick dt).setDom d st).fault 113 { page := Block.pwrD.pg d } ∧ exec (.domainWakeTimeout dt d) s =
        .next { u with power := { u.power with since := u.power.since.erase d } }) ∧
  (∀ (dt d : Nat) (s : State), s.bus.domState d ≠ 6 → exec (.domainWakeTimeout dt d) s = .next (s.tick dt)) ∧
  (∀ (dt d : Nat) (s : State), s.bus.pageAccess pwrPage 0 = 2 → s.bus.pageUp pwrPage = true → 1 ≤ d → d < 22 → s.bus.domState d = 0 →
    d ∉ s.power.blank → ∃ t, exec (.padRelease dt 0 (2 ^ d)) s = .next t ∧ t.bit (pwrKey R.PWR_PAD_HELD) d = false ∧
      t.bit (pwrDKey d R.PWR_D_STATUS) 8 = false ∧ (∀ i, i < 32 → i ≠ d → t.bit (pwrKey R.PWR_PAD_HELD) i = s.bit (pwrKey R.PWR_PAD_HELD) i) ∧
      (s.tick dt).bus.Reported t.bus [pwrKey R.PWR_PAD_HELD, pwrDKey d R.PWR_D_STATUS]) ∧
  (∀ (dt d : Nat) (s : State), s.bus.pageAccess pwrPage 0 = 2 → s.bus.pageUp pwrPage = true → 1 ≤ d → d < 22 → s.bus.domState d ≠ 0 →
    exec (.padRelease dt 0 (2 ^ d)) s = .next ((s.tick dt).cfgErr pwrPage)) ∧
(∀ (dt v : Nat) (s : State), s.bus.pageAccess pwrPage 0 = 2 → s.bus.pageUp pwrPage = true → ∃ t, exec (.watchRequest dt 0 v) s = .next t ∧
    t.rd (pwrKey R.PWR_WATCH_REQ) = v % 2 ^ 26 ∧ t.bus = ((s.tick dt).wr (pwrKey R.PWR_WATCH_REQ) (v % 2 ^ 26)).bus ∧
    (∀ i, i < 26 → (i ∈ t.watch.leaving ↔ i ∈ s.watch.leaving ∨
      (s.bit (pwrKey R.PWR_WATCH_REQ) i = true ∧ bitOf i v = false ∧ s.bus.inWatch i = true)))) ∧
  (∀ (dt sec : Nat) (s : State), s.bus.Ranged → sec < 26 → s.bit (pwrKey R.PWR_WATCH_REQ) sec = true → s.bus.inWatch sec = false →
    sec ∉ s.watch.leaving → s.sectionIdle sec = true → s.sectionPosted sec = false → s.bus.domUp 1 = true →
    ∃ t, exec (.watchEntry dt sec) s = .next t ∧ t.bit (pwrKey R.PWR_WATCH_STATE) sec = true ∧ t.pend pwrPage 5 = true ∧
      (s.tick dt).After t [pwrKey R.PWR_WATCH_STATE, pendKey pwrPage]) ∧
  (∀ (dt sec : Nat) (s : State), s.sectionIdle sec = false ∨ s.sectionPosted sec = true ∨ s.bit (pwrKey R.PWR_WATCH_REQ) sec = false →
    exec (.watchEntry dt sec) s = .next (s.tick dt)) ∧
  (∀ (dt sec : Nat) (s : State), sec < 26 → s.bus.inWatch sec = true → sec ∉ s.watch.leaving → exec (.watchWake dt sec) s =
    .next { s.tick dt with watch := { s.watch with leaving := sec :: s.watch.leaving } }) ∧
  (∀ (dt sec : Nat) (s : State), s.bus.inWatch sec = false → s.bit (pwrKey R.PWR_WATCH_REQ) sec = false →
    exec (.watchWake dt sec) s = .next (s.tick dt)) ∧
  (∀ (dt sec : Nat) (s : State), s.bus.Ranged → sec < 25 → sec ∈ s.watch.leaving → s.bus.inWatch sec = true →
    ∃ t, exec (.watchRunReached dt sec) s = .next t ∧ t.bit (pwrKey R.PWR_WATCH_REQ) sec = false ∧ t.bus.inWatch sec = false ∧
      sec ∉ t.watch.leaving ∧ t.pend pwrPage 5 = true ∧
      (s.tick dt).bus.Reported t.bus [pwrKey R.PWR_WATCH_REQ, pwrKey R.PWR_WATCH_STATE, pendKey pwrPage]) ∧
  (∀ (dt sec : Nat) (s : State), sec ∉ s.watch.leaving → exec (.watchRunReached dt sec) s = .next (s.tick dt)) ∧
  (∀ (dt : Nat) (s : State), s.ladder.phase = 0 → s.pwrState = 0 → exec (.wakeNAssert dt) s = .next (s.tick dt) ∧
    exec (.pcieL1Exit dt) s = .next (s.tick dt)) ∧
  (∀ (dt : Nat) (s : State), s.ladder.phase ≠ 0 ∨ s.pwrState ≠ 0 → s.ladder.phase ≠ 1 →
    ∃ t, exec (.wakeNAssert dt) s = .next t ∧ t.bit (pwrKey R.PWR_WAKE_SRC) 0 = true) ∧
  (∀ (dt : Nat) (s : State), 1 ≤ s.pwrState → s.pwrState ≤ 2 → s.ladder.phase = 0 → s.bit (pwrKey R.PWR_WAKE_EN) 7 = true →
    s.power.tripped = false → s.ladder.woken = false → ∃ u : State, exec (.pcieL1Exit dt) s = .next u.beginExit ∧
      u.bit (pwrKey R.PWR_WAKE_SRC) 7 = true ∧ u.fld (pwrKey R.PWR_STATUS) 8 4 = 7 ∧ u.ladder.woken = true ∧ u.pwrState = s.pwrState) ∧
  (∀ (dt : Nat) (s : State), 3 ≤ s.pwrState → exec (.pcieL1Exit dt) s = .next (s.tick dt)) ∧
  (∀ (s : State) (i : Nat), s.ladder.phase = 2 → i < 16 → s.bit (pwrKey R.PWR_WAKE_EN) i = true →
    (s.wake i).ladder.latched = true ∧ (s.wake i).ladder.phase = 2) ∧
  (∀ (s : State) (i : Nat), s.ladder.phase = 1 → i < 16 → s.bit (pwrKey R.PWR_WAKE_EN) i = true → s.bus.Ranged →
    (s.wake i).ladder = Ladder.init ∧ (s.wake i).pwrState = 0 ∧ (s.wake i).pend pwrPage 1 = true) ∧
  (∀ (s : State) (i : Nat), s.ladder.phase = 0 → 1 ≤ s.pwrState → s.pwrState ≤ 3 → i < 16 → i ≠ 7 →
    s.bit (pwrKey R.PWR_WAKE_EN) i = true → s.power.tripped = true →
    (s.wake i).fld (pwrKey R.PWR_STATUS) 4 4 = 6 ∧ (s.wake i).ladder.phase = 0)

/-- R411 to R417, Tables 14-6 and 14-7: the estimate, the level's steps and their actions, an invalid rail, and the thermal trip. -/
def Obligations.BudgetShedsRestoresAndTrips : Prop :=
  (∀ (dt act p : Nat) (temps : List (Option Int)) (s s1 s3 : State), s1 = (s.tick dt).budSense temps → s1.power.tripped = false →
    s1.powerEst act = p → s3 = s1.wr (budKey R.BUD_P_EST) (min 65535 p) → s3.bus.domUp 2 = true →
    (s3.bit (budKey R.BUD_CTRL) 0 = true → exec (.budgetTick dt temps act) s = .next (s3.budDecide p ((s.tick dt).sensors temps))) ∧
    (s3.bit (budKey R.BUD_CTRL) 0 = false → s3.budLevel = 0 → exec (.budgetTick dt temps act) s = .next (s3.setBit (budKey R.BUD_STATUS) 8 false))) ∧
  (∀ (dt act : Nat) (temps : List (Option Int)) (s s1 : State), s1 = (s.tick dt).budSense temps → s1.power.tripped = true →
    s1.coolEnough ((s.tick dt).sensors temps) = true → s1.bus.domUp 2 = false →
    exec (.budgetTick dt temps act) s = .next { s1 with power := { s1.power with tripped := false } }) ∧
  (∀ (s : State) (temps : List (Option Int)) (i : Nat) (v : Int), s.bus.Ranged → i < 128 → temps.getD i none = some v →
    (s.budSense temps).fld (rkSel budPage R.BUD_SENS_DATA i) 0 16 = ofSigned 16 v ∧
    (s.budSense temps).bit (rkSel budPage R.BUD_SENS_DATA i) 16 = true ∧
    (i ∈ (s.budSense temps).power.hot ↔ 16 * s.senTarget i < v)) ∧
  (∀ (s : State) (p : Nat) (v : List Int), 100 * s.fld (budKey R.BUD_CAP) 0 10 < p → s.budLevel < s.fld (budKey R.BUD_MAX_LEVEL) 0 6 →
    s.power.changed + clkUs (10 * s.fld (budKey R.BUD_SHED_GAP) 0 14) ≤ s.bus.now →
    ∃ u : State, s.budDecide p v = u.budStep true ∧ u.bit (budKey R.BUD_STATUS) 6 = true ∧
      u.bit (budKey R.BUD_STATUS) 8 = s.bit (budKey R.BUD_STATUS) 8 ∧
      u.budLevel = s.budLevel) ∧
  (∀ (s : State) (p : Nat) (v : List Int), 100 * s.fld (budKey R.BUD_CAP) 0 10 < p ∨ s.power.hot ≠ [] → s.budLevel = s.fld (budKey R.BUD_MAX_LEVEL) 0 6 →
    s.power.changed + clkUs (10 * s.fld (budKey R.BUD_SHED_GAP) 0 14) ≤ s.bus.now → s.bit (budKey R.BUD_STATUS) 8 = false →
    ∃ u : State, s.budDecide p v = (u.raise budPage 3).fault 116 { page := budPage } ∧ u.bit (budKey R.BUD_STATUS) 8 = true ∧
      u.budLevel = s.budLevel) ∧
  (∀ (s : State) (p : Nat) (v : List Int), s.bus.Ranged →
    (p ≤ 100 * s.fld (budKey R.BUD_CAP) 0 10 ∧ s.power.hot = []) ∨
      s.bus.now < s.power.changed + clkUs (10 * s.fld (budKey R.BUD_SHED_GAP) 0 14) → (s.budDecide p v).bit (budKey R.BUD_STATUS) 8 = false) ∧
  (∀ (s : State) (p : Nat) (v : List Int), s.fld (budKey R.BUD_MAX_LEVEL) 0 6 < s.budLevel →
    ∃ u : State, s.budDecide p v = u.budStep false ∧ u.budLevel = s.budLevel) ∧
  (∀ (s : State) (p t : Nat) (v : List Int), p + 100 * s.fld (budKey R.BUD_HYST) 0 7 ≤ 100 * s.fld (budKey R.BUD_CAP) 0 10 →
    s.coolEnough v = true → s.power.hot = [] → s.power.good = some t → 0 < s.budLevel →
    s.budLevel ≤ s.fld (budKey R.BUD_MAX_LEVEL) 0 6 → t + clkMs (s.fld (budKey R.BUD_RESTORE_HOLD) 0 16) ≤ s.bus.now →
    ∃ u : State, s.budDecide p v = u.budStep false ∧ u.budLevel = s.budLevel) ∧
  (∀ (s : State), s.bus.Ranged → s.budLevel < 63 → (s.budStep true).budLevel = s.budLevel + 1 ∧
    (s.budStep true).rd (budKey R.BUD_CNT_SHED) = (s.rd (budKey R.BUD_CNT_SHED) + 1) % 2 ^ 32 ∧ (s.budStep true).pend budPage 0 = true ∧
    (s.budStep true).power = { s.power with changed := s.bus.now, good := none }) ∧
  (∀ (s : State), s.bus.Ranged → 0 < s.budLevel → (s.budStep false).budLevel = s.budLevel - 1 ∧
    (s.budStep false).rd (budKey R.BUD_CNT_RESTORE) = (s.rd (budKey R.BUD_CNT_RESTORE) + 1) % 2 ^ 32 ∧
    (s.budStep false).pend budPage 1 = true) ∧
  (∀ (dt r p act : Nat) (s : State), r < 16 → s.railEn r = true → s.bit (budKey R.BUD_PMBUS_CTRL) 0 = true → r ∉ s.power.badRails →
    ∃ t, exec (.pmbusPoll dt r p act) s = .next t ∧ t.fld (railKey r R.BUD_RAIL_DATA) 0 16 = min 65535 p ∧
      t.bit (railKey r R.BUD_RAIL_DATA) 16 = true ∧ t.power =
        { s.power with act := s.power.act.set r act, readAt := s.power.readAt.set r (s.bus.now + dt) } ∧ (s.tick dt).bus.Reported t.bus [railKey r R.BUD_RAIL_DATA]) ∧
  (∀ (dt r p act : Nat) (s : State), s.railEn r = false → exec (.pmbusPoll dt r p act) s = .next (s.tick dt) ∧
    ∀ valid, exec (.railInvalid dt r valid) s = .next (s.tick dt)) ∧
  (∀ (dt r : Nat) (s : State), s.bus.Ranged → r < 16 → s.railEn r = true → r ∉ s.power.badRails →
    ∃ t, exec (.railInvalid dt r false) s = .next t ∧ t.bit (railKey r R.BUD_RAIL_DATA) 16 = false ∧
      t.bit (budKey R.BUD_STATUS) 9 = true ∧ t.pend budPage 4 = true ∧ t.power = { s.power with badRails := r :: s.power.badRails } ∧
      t.railPower r = 10 * s.fld (railKey r R.BUD_RAIL_CFG) 16 16) ∧
  (∀ (dt i : Nat) (temp : Int) (s : State), temp < 16 * 115 → exec (.thermalTrip dt i temp) s = .next (s.tick dt)) ∧
  (∀ (dt i : Nat) (temp : Int) (s : State), s.bus.Ranged → 16 * 115 ≤ temp → i < 128 → s.pwrState < 3 → ∃ u : State,
    exec (.thermalTrip dt i temp) s = .next u.ladderReached ∧ u.ladder.phase = 2 ∧ u.ladder.target = 3 ∧ u.power.tripped = true ∧
    u.bit (pwrKey R.PWR_STATUS) 16 = true ∧ u.page = PageState.init ∧ u.lds = s.lds ∧
    ∀ d, 1 ≤ d → d < 22 → u.bus.domState d = if s.bus.domState d = 3 ∨ s.bus.domState d = 4 then s.bus.domState d else 3)

/-! ## Faults, self-test, epochs and the journal (chapter 15) -/

/-- R422 to R428, R431, R432: a detection is counted, recorded, told to VI 0, and starts the grace; a reserved source is never detected;
what FORCE, ACK, the record's release and the 1 s window of a correctable source do. Which unit a FORCE acts on is the model's reading (log
37). -/
def Obligations.FaultDetectionIsCountedRecordedAndReported : Prop :=
  (∀ (b : Bus) (fs : Nat) (u : FaultAt), fsKnown fs = false → b.fault fs u = b) ∧
  (∀ (b : Bus) (fs : Nat) (u : FaultAt), b.Ranged → fs < 192 → fsKnown fs = true →
    (b.fault fs u).rd (fsKey fs R.FLT_SRC_CNT) = min (b.rd (fsKey fs R.FLT_SRC_CNT) + 1) 0xFFFFFFFF ∧
    (b.fault fs u).bit (fsKey fs R.FLT_SRC_STATUS) 10 = decide (fsClass fs ≠ 0) ∧
    (b.fault fs u).bit (pendKey (fsPage fs)) (fs % 16) = true ∧
    (fsClass fs ≠ 0 → b.fld (fsKey fs R.FLT_SRC_STATUS) 2 2 = 0 → (b.fault fs u).fld (fsKey fs R.FLT_SRC_STATUS) 2 2 = 1 ∧
      (b.fault fs u).timers.find? (tGrace fs) = some (b.now + clkUs (10 * b.fsGrace fs)) ∧
      (b.fault fs u).units.find? fs = some (u.page, u.addr)) ∧
    (fsClass fs = 0 ∨ b.fld (fsKey fs R.FLT_SRC_STATUS) 2 2 ≠ 0 →
      (b.fault fs u).fld (fsKey fs R.FLT_SRC_STATUS) 2 2 = b.fld (fsKey fs R.FLT_SRC_STATUS) 2 2 ∧
      (b.fault fs u).timers = b.timers ∧ (b.fault fs u).units = b.units)) ∧
  (∀ (b : Bus) (fs i : Nat) (u : FaultAt), b.rd (rk u.page hdrFaultFirst) = 0 → 1 ≤ i → i ≤ 255 → b.recs.find? i = none →
    (∀ j, 1 ≤ j → j < i → (b.recs.find? j).isSome = true) →
    (b.capture fs u).rd (rk u.page hdrFaultFirst) = i ∧
    (b.rd (rk (fsPage fs) hdrFaultFirst) = 0 → (b.capture fs u).rd (rk (fsPage fs) hdrFaultFirst) = i) ∧
    (∃ r, (b.capture fs u).recs.find? i = some r ∧ r.d0 % 256 = fs % 256 ∧ r.d2 = u.addr ∧
      r.d4 = stampW0 b.w250 ∧ r.d5 = stampW1 b.w250 ∧ r.d6 = stampW2 b.w250) ∧
    (∀ j, j ≠ i → (b.capture fs u).recs.find? j = b.recs.find? j)) ∧
  (∀ (b : Bus) (fs i : Nat) (u : FaultAt) (r : FaultRec), b.rd (rk u.page hdrFaultFirst) = i → i ≠ 0 → b.recs.find? i = some r →
    (b.capture fs u).regs = b.regs ∧
    (b.capture fs u).recs.find? i = some { r with d1 := setFieldOf 24 8 (min (fieldOf 24 8 r.d1 + 1) 255) r.d1 }) ∧
  (∀ (b : Bus) (fs : Nat) (u : FaultAt), b.rd (rk u.page hdrFaultFirst) = 0 →
    (∀ j, 1 ≤ j → j ≤ 255 → (b.recs.find? j).isSome = true) →
    (b.capture fs u).recs = b.recs ∧ (b.capture fs u).bit (fltKey R.FLT_STATUS) 4 = true ∧
    (b.capture fs u).fld (fltKey R.FLT_REC_USED) 16 16 = min (b.fld (fltKey R.FLT_REC_USED) 16 16 + 1) 65535) ∧
  (∀ (dt fs : Nat) (p : FaultPlace) (held : Bool) (s : State), exec (.faultDetection dt fs p held) s =
    .next ((s.tick dt).detect fs ⟨p.page, p.access, p.addr, p.vi, p.engine, p.kind⟩ held)) ∧
  (∀ (s s1 : State) (fs : Nat) (u : FaultAt), fsKnown fs = true → s1 = (s.faultEffect fs u).fault fs u →
    s1.srcState fs ≠ 2 ∨ s1.bus.running (tRung fs) = false → s.detect fs u true = s1) ∧
  (∀ (s s1 : State) (fs : Nat) (u : FaultAt), fsKnown fs = true → s1 = (s.faultEffect fs u).fault fs u →
    s1.srcState fs = 2 → s1.bus.running (tRung fs) = true → s.detect fs u true = s1.ladderNext fs) ∧
  (∀ (dt p i : Nat) (s : State), p < 12 → i < 16 → s.bus.pageAccess (Block.fltSrc.pg p) 0 = 2 →
    s.bus.pageUp (Block.fltSrc.pg p) = true → exec (.faultForce dt 0 (Block.fltSrc.pg p) (2 ^ i)) s =
      .next ((s.tick dt).detect (16 * p + i) ((s.tick dt).forceUnit (16 * p + i)) false)) ∧
  (∀ (dt p vi v : Nat) (s : State), vi ≠ 0 → s.bus.pageAccess (Block.fltSrc.pg p) vi = 2 → s.bus.pageUp (Block.fltSrc.pg p) = true →
    exec (.faultForce dt vi (Block.fltSrc.pg p) v) s = .next ((s.tick dt).on (·.denied))) ∧
  (∀ (dt p i fs : Nat) (s : State), p < 12 → i < 16 → fs = 16 * p + i → fsKnown fs = true → s.bus.pageAccess (Block.fltSrc.pg p) 0 ≠ 0 →
    s.bus.pageUp (Block.fltSrc.pg p) = true →
    (s.srcState fs = 0 → exec (.faultAck dt 0 (Block.fltSrc.pg p) (2 ^ i)) s = .next (s.tick dt)) ∧
    (s.srcState fs = 1 → ∃ t, exec (.faultAck dt 0 (Block.fltSrc.pg p) (2 ^ i)) s = .next t ∧ t.srcState fs = 0 ∧
      t.bus.running (tGrace fs) = false ∧ ((s.tick dt).disarm (tGrace fs)).After t [fsKey fs R.FLT_SRC_STATUS]) ∧
    (s.srcState fs = 2 → s.bus.running (tRung fs) = true → ∃ t, exec (.faultAck dt 0 (Block.fltSrc.pg p) (2 ^ i)) s = .next t ∧
      t.srcState fs = 0 ∧ t.bus.running (tRung fs) = false) ∧
    (s.srcState fs = 2 → s.bus.running (tRung fs) = false → ∃ t, exec (.faultAck dt 0 (Block.fltSrc.pg p) (2 ^ i)) s = .next t ∧
      t.bus = (s.tick dt).bus ∧ t.escOf fs = { s.escOf fs with acked := true })) ∧
  (∀ (dt v : Nat) (s : State) (r : FaultRec), s.bus.pageAccess fltPage 0 ≠ 0 → s.bus.pageAccess fltPage (s.bus.ownerOfPage r.page) ≠ 0 → s.bus.pageUp fltPage = true →
    s.bus.recs.find? (v % 256) = some r → exec (.faultRecordClear dt (s.bus.ownerOfPage r.page) v) s = exec (.faultRecordClear dt 0 v) s ∧
    ∃ t, exec (.faultRecordClear dt 0 v) s = .next t ∧ t.bus.recs = s.bus.recs.erase (v % 256) ∧
      (∀ p, s.rd (rk p hdrFaultFirst) = v % 256 → t.rd (rk p hdrFaultFirst) = 0) ∧
      (∀ k, keyOff k ≠ hdrFaultFirst → k ≠ fltKey R.FLT_REC_USED → k ≠ fltKey R.FLT_STATUS → t.rd k = s.rd k) ∧
      t.fld (fltKey R.FLT_REC_USED) 0 8 = s.fld (fltKey R.FLT_REC_USED) 0 8 - 1 ∧ t.bit (fltKey R.FLT_STATUS) 4 = false) ∧
  (∀ (dt vi v : Nat) (s : State) (r : FaultRec), s.bus.pageAccess fltPage vi ≠ 0 → s.bus.pageUp fltPage = true →
    s.bus.recs.find? (v % 256) = some r → vi ≠ 0 → vi ≠ s.bus.ownerOfPage r.page →
    exec (.faultRecordClear dt vi v) s = .next ((s.tick dt).on (·.denied))) ∧
  (∀ (dt fs n : Nat) (s : State), s.bus.Ranged → fs < 192 → fsKnown fs = true → fsClass fs = 0 →
    n = ((s.bus.corr.find [] fs).filter (fun t => decide (s.bus.now + dt ≤ t + clkS 1))).length →
    (0 < s.bus.fsCorrThr fs → s.bus.fsCorrThr fs ≤ n → s.bit (fsKey fs R.FLT_SRC_STATUS) 9 = false →
      ∃ t, exec (.corrWindow dt fs) s = .next t ∧ t.bit (fsKey fs R.FLT_SRC_STATUS) 9 = true ∧ t.pend fltPage 0 = true) ∧
    (n < s.bus.fsCorrThr fs → ∃ t, exec (.corrWindow dt fs) s = .next t ∧ t.bit (fsKey fs R.FLT_SRC_STATUS) 9 = false ∧
      (s.tick dt).After t [fsKey fs R.FLT_SRC_STATUS]))

/-- R430 to R435, R437, Table 15-4: the rungs in order, each counted and told; a spare takes over; a domain and the device are reset. -/
def Obligations.TheLadderTakesItsRungs : Prop :=
  (∀ (dt fs n : Nat) (held : Bool) (l : List Nat) (s s1 : State), (s.tick dt).due (tGrace fs) = true →
    s1 = ((s.tick dt).disarm (tGrace fs)).setBit (fsKey fs R.FLT_SRC_STATUS) 10 held → s.srcState fs = 1 →
    (s1.rungs fs = n :: l → exec (.faultGraceExpire dt fs held) s = .next (s1.takeRung fs n)) ∧
    (s1.rungs fs = [] → exec (.faultGraceExpire dt fs held) s = .next (s1.ladderEnd fs))) ∧
  (∀ (s : State) (fs n : Nat), s.bus.Ranged → fs < 192 → n = 2 ∨ n = 4 ∨ n = 5 → (s.takeRung fs n).srcState fs = 2 ∧
    (s.takeRung fs n).srcRung fs = n ∧ (s.takeRung fs n).pend fltPage 0 = true ∧
    (s.takeRung fs n).rd (fltKey R.FLT_CNT_ESC) = min (s.rd (fltKey R.FLT_CNT_ESC) + 1) 0xFFFFFFFF ∧
    (s.takeRung fs n).bus.running (tRung fs) = false ∧ (s.takeRung fs n).escOf fs = ⟨s.srcCount fs, s.outranked fs n, false⟩) ∧
  (∀ (s : State) (fs : Nat), s.bus.Ranged → fs < 192 → s.outranked fs 1 = false → ∃ u : State,
    s.takeRung fs 1 = u.isolateUnit (s.unitOf fs) ∧ u.srcRung fs = 1 ∧ u.srcState fs = 2 ∧ u.pend fltPage 0 = true ∧
    u.escOf fs = ⟨s.srcCount fs, true, false⟩) ∧
  (∀ (s : State) (fs : Nat), s.bus.Ranged → fs < 192 → s.outranked fs 3 = false → ∃ u : State,
    s.takeRung fs 3 = (unitDoms fs (s.unitOf fs)).foldl State.failsafe u ∧ u.srcRung fs = 3 ∧ u.srcState fs = 2 ∧
    u.pend fltPage 0 = true ∧ u.escOf fs = ⟨s.srcCount fs, true, false⟩) ∧
  (∀ (s : State) (fs : Nat), fs < 192 → (s.ladderEnd fs).srcState fs = 0 ∧ (s.ladderEnd fs).bus.running (tRung fs) = false ∧
    (s.ladderEnd fs).escOf fs = Esc.init) ∧
  (∀ (dt fs : Nat) (held : Bool) (s s2 : State), s.srcState fs = 2 → (s.escOf fs).complete = true →
    s2 = (s.tick dt).setBit (fsKey fs R.FLT_SRC_STATUS) 10 held →
    ((s.escOf fs).acked = true → exec (.escalationRungComplete dt fs held) s = .next (s2.ladderEnd fs)) ∧
    ((s.escOf fs).acked = false → held = true ∨ s2.srcCount fs ≠ (s.escOf fs).seen →
      exec (.escalationRungComplete dt fs held) s = .next (s2.ladderNext fs)) ∧
    ((s.escOf fs).acked = false → held = false → s2.srcCount fs = (s.escOf fs).seen → s2.bus.running (tRung fs) = false →
      ∀ n, after (s2.rungs fs) (s2.srcRung fs) = some n →
        exec (.escalationRungComplete dt fs held) s = .next (s2.arm (tRung fs) (clkMs 1)))) ∧
  (∀ (dt fs : Nat) (held : Bool) (s : State), s.srcState fs ≠ 2 ∨ (s.escOf fs).complete = false →
    exec (.escalationRungComplete dt fs held) s = .next (s.tick dt)) ∧
  (∀ (s : State) (fs n : Nat), (after (s.rungs fs) (s.srcRung fs) = some n → s.ladderNext fs = s.takeRung fs n) ∧
    (after (s.rungs fs) (s.srcRung fs) = none → s.ladderNext fs = s.ladderEnd fs)) ∧
  (∀ (dt fs : Nat) (s s1 : State), s1 = (s.tick dt).disarm (tRung fs) → (s.tick dt).due (tRung fs) = true → s.srcState fs = 2 →
    (s.srcCount fs = (s.escOf fs).seen → exec (.ladderEndTimeout dt fs) s = .next (s1.ladderEnd fs)) ∧
    (s.srcCount fs ≠ (s.escOf fs).seen → exec (.ladderEndTimeout dt fs) s = .next (s1.ladderNext fs))) ∧
  (∀ (dt fs c : Nat) (s s2 : State), s.srcState fs = 2 → s.srcRung fs = 2 → (s.escOf fs).complete = false →
    s2 = (s.tick dt).modEsc fs (fun e => { e with complete := true }) →
    (c < 96 → (s.unitOf fs).1 = zwkPage c → exec (.spareTakeover dt fs) s = .next (s2.spareWorker c)) ∧
    (c < 2 → (s.unitOf fs).1 = kprPage c → exec (.spareTakeover dt fs) s = .next (s2.spareKeeper c)) ∧
    ((s.unitOf fs).1 = fabPage → exec (.spareTakeover dt fs) s = .next s2.spareTaken) ∧
    (c < 18 → (s.unitOf fs).1 = cmpPage c → exec (.spareTakeover dt fs) s = .next s2.spareTaken)) ∧
  (∀ (s : State) (c l n : Nat), s.bus.Ranged → c < 96 → s.lworker c = some l → s.workerSpare c = some n →
    (s.spareWorker c).lworker n = some l ∧ (s.spareWorker c).lworker c = none ∧
    (s.spareWorker c).fld (zwkKey c R.ZWK_STATUS) 2 4 = 5 ∧
    (s.spareWorker c).rd (zwkKey n R.ZWK_VI) = s.rd (zwkKey c R.ZWK_VI) ∧
    (s.spareWorker c).rd (zwkKey n R.ZWK_ENTRY) = s.rd (zwkKey c R.ZWK_ENTRY) ∧ (s.spareWorker c).pend fltPage 2 = true) ∧
  (∀ (s : State) (c l : Nat), s.lworker c = some l → s.workerSpare c = none → c < 96 →
    s.spareWorker c = s.fault 5 { page := zwkPage c }) ∧
  (∀ (s : State) (p : Nat), p < 2 → s.kprRole (1 - p) = 2 → p = s.bus.keeper → s.updState ≠ 5 → s.updState ≠ 6 →
    s.spareKeeper p = (s.keeperMove 0).spareTaken) ∧
  (∀ (s : State) (r : Nat), s.bus.Ranged → r < 4 → (s.keeperMove r).bus.keeper = 1 - s.bus.keeper ∧
    (s.keeperMove r).kprRole (1 - s.bus.keeper) = 1 ∧ (s.keeperMove r).kprRole s.bus.keeper = r ∧
    (s.keeperMove r).boot.lastPair = 1 - s.bus.keeper) ∧
  (∀ (dt d : Nat) (s : State), s.domSources d ≠ [] → s.epochs.run = none → d ≠ 19 → d ≠ 20 →
    exec (.domainResetReapply dt d) s = .next ((s.domSources d).foldl (fun a fs =>
      if (unitDoms fs (s.unitOf fs)).all (fun e => decide (e = d) || !a.bus.halted.contains e) then
        a.modEsc fs (fun e => { e with complete := true }) else a) ((s.tick dt).domReset d))) ∧
  (∀ (dt d : Nat) (s : State), s.domSources d = [] ∨ s.epochs.run ≠ none → exec (.domainResetReapply dt d) s = .next (s.tick dt)) ∧
  (∀ (b : Bus) (d k : Nat), (b.regsReset d (fun _ _ => 0)).rd k = if b.inDomain d (keyPage k) then Bus.init.rd k else b.rd k) ∧
  (∀ (dt : Nat) (s : State), (s.rung5 = true → exec (.deviceReset dt) s = .next (s.tick dt).deviceReset) ∧
    (s.rung5 = false → exec (.deviceReset dt) s = .next (s.tick dt))) ∧
  (∀ (s : State), (∀ k, survivesReset k = false → (∀ d, d < 22 → k ≠ pwrDKey d R.PWR_D_STATUS) → s.deviceReset.rd k = Bus.init.rd k) ∧
    s.deviceReset.upd.flash = s.upd.flash ∧ s.deviceReset.jrn.home = s.jrn.home ∧ s.deviceReset.pending = s.pending ∧
    s.deviceReset.jrn.log = s.jrn.log.takeWhile (·.durable) ∧ s.deviceReset.bus.now = s.bus.now)

/-- R439 to R443, Tables 15-8 and 15-9: a run begins, is deferred or refused; its test passes or fails; the spare joins, takes over or is
given up. -/
def Obligations.SelfTestsRunAndUnitsJoin : Prop :=
  (∀ (dt b v : Nat) (s : State), b < 48 → s.bus.pageAccess (Block.bst.pg b) 0 = 2 → s.bus.pageUp (Block.bst.pg b) = true →
    exec (.bistStart dt 0 (Block.bst.pg b) v) s = .next ((s.tick dt).bstCtrl (Block.bst.pg b) v)) ∧
  (∀ (dt b vi v : Nat) (s : State), vi ≠ 0 → s.bus.pageAccess (Block.bst.pg b) vi = 2 → s.bus.pageUp (Block.bst.pg b) = true →
    exec (.bistStart dt vi (Block.bst.pg b) v) s = .next ((s.tick dt).on (·.denied))) ∧
  (∀ (s : State) (p v : Nat), bitOf 1 v = false ∨ s.runFree p = false → s.bstCtrl p v = s.setBit (rk p R.BST_CTRL) 0 (bitOf 0 v)) ∧
  (∀ (dt p : Nat) (s : State), (s.bit (rk p R.BST_CTRL) 0 = true → s.fld (rk p R.BST_PERIOD) 0 16 ≠ 0 → s.bit (fltKey R.FLT_CTRL) 0 = true →
      s.run p = none → exec (.bistPeriodDue dt p) s = .next ((s.tick dt).runBegin p)) ∧
    (s.bit (rk p R.BST_CTRL) 0 = false ∨ s.fld (rk p R.BST_PERIOD) 0 16 = 0 ∨ s.bit (fltKey R.FLT_CTRL) 0 = false →
      exec (.bistPeriodDue dt p) s = .next (s.tick dt))) ∧
  (∀ (dt p : Nat) (s : State) (r : BistRun) (u : Unit'), s.run p = some r → r.phase = 5 → unitAt p (s.dueUnit p) = some u →
    (s.tick dt).deferred u = false → s.bit (fltKey R.FLT_CTRL) 0 = true →
    exec (.bistDeferredStart dt p) s = .next ((s.tick dt).runBegin p)) ∧
  (∀ (dt p : Nat) (s : State), s.run p = none → exec (.bistDeferredStart dt p) s = .next (s.tick dt) ∧
    exec (.joinStateTaken dt p) s = .next (s.tick dt) ∧ exec (.joinTakeover dt p) s = .next (s.tick dt) ∧
    exec (.joinAbort dt p) s = .next (s.tick dt)) ∧
  (∀ (s : State) (b : Nat) (u : Unit'), s.bus.Ranged → b < 35 → unitAt (Block.bst.pg b) (s.dueUnit (Block.bst.pg b)) = some u →
    s.deferred u = true → (s.runBegin (Block.bst.pg b)).pend (Block.bst.pg b) 5 = true ∧
      (s.runBegin (Block.bst.pg b)).fld (rk (Block.bst.pg b) R.BST_STATUS) 0 3 = 3 ∧
      (s.runBegin (Block.bst.pg b)).bit (budKey R.BUD_STATUS) 10 = true) ∧
  (∀ (s : State) (n m : Nat), s.bus.Ranged → n < 18 → s.deferred (.lane n) = false → s.laneRole n = 1 → s.laneSpare (laneDie n) = some m →
    m ≠ n → ∃ r, (s.runBegin (Block.bst.pg (9 + n))).run (Block.bst.pg (9 + n)) = some r ∧ r.phase = 1 ∧ r.unit = n ∧ r.spare = m ∧
      (s.runBegin (Block.bst.pg (9 + n))).laneRole m = 3 ∧ (s.runBegin (Block.bst.pg (9 + n))).laneRole n = 1) ∧
  (∀ (dt p unit misr : Nat) (s : State), s.testing p unit = none → exec (.bistComplete dt p unit misr) s = .next (s.tick dt)) ∧
  (∀ (dt p unit misr g exp : Nat) (s s2 : State) (r : BistRun) (u : Unit'), s.testing p unit = some (g, r, u) →
    exp = s.bist.sigs.find 0 (pageIndex p * 16 + unit) → s2 = (s.tick dt).testResult u exp misr →
    (exp = misr → r.phase = 1 → exec (.bistComplete dt p unit misr) s = .next ((s2.setBistRun g { r with phase := 2 }).bstShow g 2 0)) ∧
    (exp = misr → r.phase = 4 → exec (.bistComplete dt p unit misr) s = .next (s2.unitPassed g u)) ∧
    (exp ≠ misr → (∀ q, u ≠ .plane q) → exec (.bistComplete dt p unit misr) s = .next ((s2.setRole u 0).runEnd g))) ∧
  (∀ (s : State) (u : Unit') (b exp misr : Nat), s.bus.Ranged → b < 35 → u.page = Block.bst.pg b → u.sub < 32 → exp < 2 ^ 32 →
    misr < 2 ^ 32 → (s.testResult u exp misr).rd (rk u.page R.BST_SIG_EXP) = exp ∧
      (s.testResult u exp misr).rd (rk u.page R.BST_SIG_GOT) = misr ∧
      (s.testResult u exp misr).rd (rk u.page R.BST_CNT_RUN) = (s.rd (rk u.page R.BST_CNT_RUN) + 1) % 2 ^ 32 ∧
      (s.testResult u exp misr).bit (rk u.page R.BST_UNUSABLE) u.sub = decide (exp ≠ misr) ∧
      (s.testResult u exp misr).pend u.page (if exp = misr then 0 else 1) = true ∧
      (exp ≠ misr → (s.testResult u exp misr).rd (rk u.page R.BST_CNT_FAIL) = min (s.rd (rk u.page R.BST_CNT_FAIL) + 1) 0xFFFFFFFF)) ∧
  (∀ (dt p : Nat) (s : State) (r : BistRun), s.run p = some r → r.phase = 2 →
    (∀ n, unitAt p r.unit = some (.lane n) → exec (.joinStateTaken dt p) s = .next ((s.tick dt).shadowRun p r.unit r.spare false)) ∧
    (∀ c, unitAt p r.unit = some (.worker c) → s.atWait c = true →
      exec (.joinStateTaken dt p) s = .next ((s.tick dt).shadowRun p r.unit r.spare false)) ∧
    (∀ c, unitAt p r.unit = some (.worker c) → s.atWait c = false → exec (.joinStateTaken dt p) s = .next (s.tick dt))) ∧
  (∀ (s : State) (b unit spare : Nat) (epoch : Bool), s.bus.Ranged → b < 35 →
    (s.shadowRun (Block.bst.pg b) unit spare epoch).run (Block.bst.pg b) =
      some ⟨3, unit, spare, s.bus.now, s.rd (fltKey R.FLT_EPOCH)⟩ ∧
    (s.shadowRun (Block.bst.pg b) unit spare epoch).fld (rk (Block.bst.pg b) R.BST_STATUS) 0 3 = 2 ∧
    (s.shadowRun (Block.bst.pg b) unit spare epoch).pend (Block.bst.pg b) 2 = true ∧
    (epoch = true → (s.shadowRun (Block.bst.pg b) unit spare epoch).epochs.auto = true)) ∧
  (∀ (dt p : Nat) (s s2 : State) (r : BistRun) (u : Unit'), s.run p = some r → unitAt p r.unit = some u → r.phase = 3 →
    s2 = (s.tick dt).raise p 3 →
    ((s.tick dt).joinReady r u = false → exec (.joinTakeover dt p) s = .next (s.tick dt)) ∧
    ((s.tick dt).joinReady r u = true →
      (∀ q, u = .plane q → exec (.joinTakeover dt p) s = .next ((s2.planeJoin q).runEnd p)) ∧
      (∀ n, u = .lane n → exec (.joinTakeover dt p) s = .next ((s2.laneMove n r.spare (s2.laneLl n) 0).testUnit p u)) ∧
      (∀ c, u = .worker c → exec (.joinTakeover dt p) s = .next ((s2.workerPass c r.spare 5 0).testUnit p u)) ∧
      (∀ k, u = .keeper k → r.spare ≠ k → exec (.joinTakeover dt p) s = .next ((s2.keeperMove 3).testUnit p u)))) ∧
  (∀ (dt p : Nat) (s : State) (r : BistRun) (j : Unit'), s.run p = some r → r.phase = 2 ∨ r.phase = 3 → r.joining p = some j →
    exec (.joinAbort dt p) s = .next ((((((s.tick dt).setRole j 0).setBit (rk j.page R.BST_UNUSABLE) j.sub true).runEnd p).fault 4
      { page := j.page, access := 7, engine := j.num }).raise p 4))

/-- R445, R446, R451, Table 15-12: an epoch is asked for, opens with a record of what is staged, takes effect once that is durable, and is
given up after 60 µs without. R444, R448, R451, R458, R490, Table 15-14: the home copy absorbs the oldest records, records become durable
in order, and what the power fail signal, PORST_N and the rails do. -/
def Obligations.EpochsAndTheJournalKeepWhatIsDurable : Prop :=
  (∀ (dt v : Nat) (s : State), s.bus.pageAccess fltPage 0 = 2 → s.bus.pageUp fltPage = true →
    exec (.epochRequest dt 0 v) s = .next (if bitOf 0 v then { s.tick dt with epochs := { s.epochs with asked := true } } else s.tick dt)) ∧
  (∀ (dt vi v : Nat) (s : State), vi ≠ 0 → s.bus.pageAccess fltPage vi = 2 → s.bus.pageUp fltPage = true →
    exec (.epochRequest dt vi v) s = .next ((s.tick dt).on (·.denied))) ∧
  (∀ (dt : Nat) (s : State), (s.tick dt).due tEpochAuto = true → exec (.epochAutoExpire dt) s =
    .next { (s.tick dt).disarm tEpochAuto with epochs := { s.epochs with auto := true } }) ∧
  (∀ (dt : Nat) (es : List (Nat × Nat)) (s : State), s.epochs.run = none → s.epochWanted = true → s.pwrFail = false →
    s.logRoom (s.epochs.log.length + s.opsStaged.length) = true → es = s.epochs.log ++ opEntries s.opsStaged →
    ∃ t, exec (.globalEpochStart dt) s = .next t ∧
      t.epochs = ⟨[], [], false, false, some ⟨s.bus.now + dt, s.epochs.log, s.epochs.pages, s.opsStaged, s.jrn.next, false⟩⟩ ∧
      t.bit (fltKey R.FLT_STATUS) 3 = true ∧ t.bus.running tEpochAuto = false ∧
      (∃ r, t.jrn.log = s.jrn.log ++ [r] ∧ r.kind = 1 ∧ r.epoch = s.rd (fltKey R.FLT_EPOCH) + 1 ∧ r.entries = es ∧ r.durable = false ∧
        r.pos = s.jrn.next)) ∧
  (∀ (dt : Nat) (s : State), s.epochs.run ≠ none ∨ s.epochWanted = false → exec (.globalEpochStart dt) s = .next (s.tick dt)) ∧
  (∀ (dt : Nat) (s : State), s.epochs.run = none → s.epochWanted = true → s.pwrFail = true → ∃ t, exec (.globalEpochStart dt) s = .next t ∧
    t.epochs = { s.epochs with asked := false, auto := false } ∧ t.fld (fltKey R.FLT_STATUS) 5 3 = 3 ∧
    (s.tick dt).bus.Reported t.bus [fltKey R.FLT_STATUS]) ∧
  (∀ (s : State), s.dkyState = 3 → s.epochs.asked = false → s.epochWanted = false) ∧
  (∀ (dt : Nat) (s : State) (r : EpochRun), s.epochs.run = some r → r.live = false → s.bus.now + dt ≤ r.t0 + clkUs 60 →
    s.pwrFail = false → r.ops = [] → exec (.globalEpochDurable dt) s = .next ((s.tick dt).epochLive r).joinsWait) ∧
  (∀ (dt : Nat) (s : State) (r : EpochRun), s.epochs.run = some r → r.live = false → s.bus.now + dt ≤ r.t0 + clkUs 60 →
    s.pwrFail = false → r.ops ≠ [] → exec (.globalEpochDurable dt) s = .next ((s.tick dt).flushAll.epochLive r).joinsWait) ∧
  (∀ (dt : Nat) (s : State) (r : EpochRun), s.epochs.run = some r → r.live = true ∨ r.t0 + clkUs 60 < s.bus.now + dt ∨ s.pwrFail = true →
    exec (.globalEpochDurable dt) s = .next (s.tick dt)) ∧
  (∀ (s : State) (r : EpochRun), s.bus.Ranged → r.ops = [] → r.pages = [] → s.updState ≠ 5 →
    (s.epochLive r).rd (fltKey R.FLT_EPOCH) = (s.rd (fltKey R.FLT_EPOCH) + 1) % 2 ^ 32 ∧
    (s.epochLive r).rd (fltKey R.FLT_EPOCH_TIME) = stampW0 s.bus.w250 ∧ (s.epochLive r).epochs.run = some { r with live := true } ∧
    (s.dkyState = 4 → (s.epochLive r).dkyState = 0 ∧ (s.epochLive r).fld (dkyKey R.DKY_STATUS) 20 4 = 8)) ∧
  (∀ (dt : Nat) (s : State) (r : EpochRun), s.bus.Ranged → s.epochs.run = some r → r.live = true → ∃ u : State,
    exec (.globalEpochAonApply dt) s = .next ((u.raise fltPage 1).dkyApplied r.ops) ∧ u.epochs.run = none ∧
    u.bit (fltKey R.FLT_STATUS) 3 = false ∧ u.fld (fltKey R.FLT_STATUS) 5 3 = 1 ∧ (r.ops = [] → ∀ k, k ≠ fltKey R.FLT_STATUS → u.rd k = s.rd k)) ∧
  (∀ (s : State) (ops : List ProtOp), s.bus.Ranged → ops ≠ [] → (s.dkyApplied ops).dkyState = 0 ∧
    (s.dkyApplied ops).fld (dkyKey R.DKY_STATUS) 20 4 = 11 ∧ (s.dkyApplied ops).pend dkyPage 2 = true ∧
    (s.dkyBoot = true → (s.dkyApplied ops).dkyPresence = false)) ∧
  (∀ (dt : Nat) (s : State) (r : EpochRun), s.epochs.run = none ∨ (s.epochs.run = some r ∧ r.live = false) →
    exec (.globalEpochAonApply dt) s = .next (s.tick dt)) ∧
  (∀ (dt : Nat) (s : State) (r : EpochRun), s.bus.Ranged → s.epochs.run = some r → r.live = false → r.t0 + clkUs 60 ≤ s.bus.now + dt →
    ∃ t, exec (.globalEpochAbort dt) s = .next t ∧
      t.epochs = { s.epochs with run := none, log := r.entries ++ s.epochs.log, pages := r.pages ++ s.epochs.pages } ∧
      t.jrn = { s.jrn with log := s.jrn.log.filter (fun x => decide (x.pos ≠ r.pos)) } ∧ t.bit (fltKey R.FLT_STATUS) 3 = false ∧
      t.fld (fltKey R.FLT_STATUS) 5 3 = 2 ∧
      t.rd (fsKey 2 R.FLT_SRC_CNT) = min (s.rd (fsKey 2 R.FLT_SRC_CNT) + 1) 0xFFFFFFFF ∧
      t.rd (fltKey R.FLT_EPOCH) = s.rd (fltKey R.FLT_EPOCH)) ∧
  (∀ (dt : Nat) (s : State) (r : EpochRun), s.epochs.run = some r → r.live = true ∨ s.bus.now + dt < r.t0 + clkUs 60 →
    exec (.globalEpochAbort dt) s = .next (s.tick dt)) ∧
(∀ (dt : Nat) (s : State) (r : JRec) (rest : List JRec), s.jrn.log = r :: rest → r.durable = true → s.jrn.waits = [] →
    ∃ t, exec (.journalLogRoom dt 1) s = .next t ∧
      t.jrn = { s.jrn with log := rest, home := r.entries.foldl (fun m e => m.set e.1 e.2) s.jrn.home } ∧
      t.rd (fltKey R.FLT_HOME_EPOCH) = (if r.kind = 1 then r.epoch % 2 ^ 32 else s.rd (fltKey R.FLT_HOME_EPOCH))) ∧
  (∀ (dt n : Nat) (s : State) (r : JRec) (rest : List JRec), s.jrn.log = r :: rest → r.durable = false → s.jrn.waits = [] →
    exec (.journalLogRoom dt n) s = .next (s.tick dt)) ∧
  (∀ (dt pos : Nat) (s : State) (pre post : List JRec) (r : JRec), s.jrn.log = pre ++ r :: post → (∀ x ∈ pre, x.pos ≠ pos) →
    r.pos = pos → (r.kind ≠ 1 → (∀ x ∈ pre, x.kind = 1 → x.durable = true) → ∃ t, exec (.journalRecordDurable dt pos) s = .next t ∧
        t.bus = (s.tick dt).bus ∧ ∃ pre2 r2, t.jrn.log = pre2 ++ r2 :: post ∧ pre2.length = pre.length ∧ r2.durable = true ∧
          r2.entries = r.entries ∧ (∀ x ∈ pre2, x.durable = true) ∧ pre2.map (·.entries) = pre.map (·.entries)) ∧
      (r.kind = 1 → exec (.journalRecordDurable dt pos) s = .next (s.tick dt))) ∧
  (∀ (dt pos : Nat) (s : State), (∀ x ∈ s.jrn.log, x.pos ≠ pos) → exec (.journalRecordDurable dt pos) s = .next (s.tick dt)) ∧
  (∀ (dt : Nat) (s s2 : State), s2 = ((s.tick dt).setBit (fltKey R.FLT_STATUS) 1 true).fault 6 { page := fltPage } →
    s.bist.runs = SMap.empty → s.comp.epochs = SMap.empty → s.updState ≠ 5 ∨ 4 ≤ s.upd.step →
    exec (.powerFailWarning dt) s = .next s2 ∧ s2.pwrFail = true) ∧
  (∀ (dt : Nat) (s : State), s.pwrFail = true → s.jrn.waits = [] → ∃ t, exec (.powerFailFlushed dt) s = .next t ∧ t.jrn.closed = true ∧
    (∀ r ∈ t.jrn.log, r.durable = true) ∧
    t.jrn.log.map (·.entries) = (s.jrn.log.filter (fun r => r.durable || decide (r.kind ≠ 1))).map (·.entries) ∧ t.bus = (s.tick dt).bus) ∧
  (∀ (dt : Nat) (s : State), s.pwrFail = false → exec (.powerFailFlushed dt) s = .next (s.tick dt)) ∧
  (∀ (dt : Nat) (s : State), ∃ t, exec (.powerFailRelease dt) s = .next t ∧ t.pwrFail = false ∧ t.jrn.closed = false ∧
    t.bit (fsKey 6 R.FLT_SRC_STATUS) 10 = false ∧ (s.tick dt).bus.Reported t.bus [fltKey R.FLT_STATUS, fsKey 6 R.FLT_SRC_STATUS]) ∧
  (∀ (dt : Nat) (s : State), ∃ t, exec (.porstAssert dt) s = .next t ∧ t.boot.porst = true ∧ t.bus = (s.tick dt).deviceReset.bus) ∧
  (∀ (dt : Nat) (s : State), (s.boot.porst = true → exec (.supplyUndervoltage dt true) s = .next (s.tick dt)) ∧
    (s.boot.porst = false → exec (.supplyUndervoltage dt true) s =
      .next { (s.tick dt).deviceReset with boot := { (s.tick dt).deviceReset.boot with porst := true } }) ∧
    exec (.supplyUndervoltage dt false) s = .next { s.tick dt with boot := { s.boot with porst := false } })

/-! ## Start-up, the random number generator and update (chapter 16) -/

/-- R468, R472 to R474, Table 16-10: an update is opened, its blocks are taken or refused by code, and the image is verified. R475 to R481,
Tables 16-9 and 16-10: the authorising epoch starts an activation, units change images one at a time, a trial is confirmed or reversed. A
command that the state does not allow answers LAST 5, and the target bank of a recovery is free (logs 33 and 34). -/
def Obligations.UpdatesAreVerifiedTriedConfirmedOrReversed : Prop :=
  (∀ (dt vi : Nat) (s : State), s.bus.pageAccess updPage vi = 2 → s.bus.pageUp updPage = true → s.updState = 1 ∨ s.updState = 4 →
    ∃ t, exec (.updOpen dt vi) s = .next t ∧ t.updState = 2 ∧
      t.updTarget = (if s.bus.recovery then (s.tick dt).bus.fresh.toNat % 2 else 1 - s.bootBank) ∧
      t.rd (updKey R.UPD_SESSION) = (s.rd (updKey R.UPD_SESSION) + 1) % 2 ^ 32 ∧
      t.upd = { s.upd with len := none, blocks := [], writing := none }) ∧
  (∀ (dt vi : Nat) (bytes : List Byte) (s : State), s.bus.pageAccess updPage vi = 2 → s.bus.pageUp updPage = true →
    (s.updState ≠ 1 → s.updState ≠ 4 → exec (.updOpen dt vi) s = .next ((s.tick dt).updRefuse 5)) ∧
    (s.updState ≠ 2 → exec (.updBlock dt vi) s = .next ((s.tick dt).updRefuse 5) ∧
      exec (.updBlockDma dt vi bytes) s = .next ((s.tick dt).updRefuse 5) ∧ exec (.updVerify dt vi) s = .next ((s.tick dt).updRefuse 5)) ∧
    (s.updState ≠ 2 → s.updState ≠ 4 → exec (.updAbort dt vi) s = .next ((s.tick dt).updRefuse 5)) ∧
    (s.updState = 2 → s.updBusy = true → exec (.updVerify dt vi) s = .next ((s.tick dt).updRefuse 5)) ∧
    (s.updState = 2 → s.updBusy = false → s.updTotal = 0 ∨ s.updMissing.isSome = true →
      exec (.updVerify dt vi) s = .next ((s.tick dt).updRefuse 3))) ∧
  (∀ (s : State) (code : Nat), s.bus.Ranged → code < 16 → (s.updRefuse code).fld (updKey R.UPD_STATUS) 8 4 = code ∧
    (s.updRefuse code).rd (updKey R.UPD_CNT_REFUSED) = min (s.rd (updKey R.UPD_CNT_REFUSED) + 1) 0xFFFFFFFF ∧
    (s.updRefuse code).pend updPage 2 = true ∧
    s.After (s.updRefuse code) [updKey R.UPD_STATUS, updKey R.UPD_CNT_REFUSED, pendKey updPage]) ∧
  (∀ (dt vi : Nat) (bytes : List Byte) (s : State), s.bus.pageAccess updPage vi = 2 → s.bus.pageUp updPage = true → s.updState = 2 →
    exec (.updBlock dt vi) s = .next ((s.tick dt).takeBlock
      ((List.range (min 65536 (s.updHdr 3))).map (fun i => s.upd.buf.find 0 i))) ∧
    (1 ≤ vi → vi ≤ 256 → exec (.updBlockDma dt vi bytes) s = .next ((s.tick dt).takeBlock bytes))) ∧
  (∀ (s : State) (bytes data : List Byte), data = (List.range (min 65536 (s.updHdr 3))).map (fun i => bytes.getD i 0) →
    (s.blockCheck data ≠ 0 → s.takeBlock bytes = s.updRefuse (s.blockCheck data)) ∧
    (s.blockCheck data = 0 → (s.takeBlock bytes).updBusy = true ∧ (s.takeBlock bytes).upd =
      { s.upd with len := some (s.updHdr 5), writing := some (s.updHdr 2, data) } ∧ s.After { s.takeBlock bytes with upd := s.upd }
        [updKey R.UPD_STATUS])) ∧
  (∀ (s : State) (data : List Byte),
    (s.blockCheck data = 0 ↔ s.updHdr 0 = 0x4B4C5550 ∧ s.updHdr 1 = 0x01000000 ∧ s.updHdr 7 = 0 ∧
      s.updHdr 6 = s.rd (updKey R.UPD_SESSION) ∧ s.updHdr 2 % 65536 = 0 ∧ s.updHdr 2 + s.updHdr 3 ≤ s.updHdr 5 ∧ 0 < s.updHdr 3 ∧
      s.updHdr 3 ≤ 65536 ∧ (s.updHdr 3 = 65536 ∨ s.updHdr 5 ≤ s.updHdr 2 + 65536) ∧ s.updHdr 5 ≤ 48 * 2 ^ 20 ∧
      (∀ n, s.upd.len = some n → n = s.updHdr 5) ∧ crc32 data = s.updHdr 4 ∧ s.updBusy = false) ∧
    (s.blockCheck data = 1 ↔ s.updHdr 0 ≠ 0x4B4C5550 ∨ s.updHdr 1 ≠ 0x01000000 ∨ s.updHdr 7 ≠ 0 ∨
      s.updHdr 6 ≠ s.rd (updKey R.UPD_SESSION))) ∧
  (∀ (dt off : Nat) (data : List Byte) (s : State), s.bus.Ranged → s.upd.writing = some (off, data) →
    ∃ t, exec (.updBlockWritten dt) s = .next t ∧ t.updBusy = false ∧ t.upd.writing = none ∧ off / 65536 ∈ t.upd.blocks ∧
      (∀ b ∈ s.upd.blocks, b ∈ t.upd.blocks) ∧ t.upd.flash = flashWrite s.upd.flash s.updTarget off data ∧ t.pend updPage 0 = true) ∧
  (∀ (dt : Nat) (s : State), s.upd.writing = none → exec (.updBlockWritten dt) s = .next (s.tick dt)) ∧
  (∀ (dt vi : Nat) (s : State), s.bus.pageAccess updPage vi = 2 → s.bus.pageUp updPage = true → s.updState = 2 → s.updBusy = false →
    s.updTotal ≠ 0 → s.updMissing = none → ∃ t, exec (.updVerify dt vi) s = .next t ∧ t.updState = 3 ∧
      (s.tick dt).After t [updKey R.UPD_STATUS]) ∧
  (∀ (dt code : Nat) (s : State), s.bus.Ranged → s.updState = 3 → s.targetCheck = code →
    (code = 0 → ∃ t, exec (.updVerifyComplete dt) s = .next t ∧ t.updState = 4 ∧ t.pend updPage 1 = true ∧
      (∀ i, i < 12 → t.rd (updKey (R.UPD_IMG_DIGEST + 4 * i)) =
        (bytesWords 12 (imgDigest (flashBank s.upd.flash s.updTarget))).getD i 0 % 2 ^ 32) ∧
      t.fld (updKey R.UPD_IMG_INFO) 0 8 = imgSecver (flashBank s.upd.flash s.updTarget) % 256) ∧
    (0 < code → code < 16 → ∃ t, exec (.updVerifyComplete dt) s = .next t ∧ t.updState = 2 ∧ t.fld (updKey R.UPD_STATUS) 8 4 = code ∧
      t.pend updPage 2 = true)) ∧
  (∀ (dt : Nat) (s : State), s.updState ≠ 3 → exec (.updVerifyComplete dt) s = .next (s.tick dt)) ∧
  (∀ (dt vi : Nat) (s : State), s.bus.pageAccess updPage vi = 2 → s.bus.pageUp updPage = true → s.updState = 2 ∨ s.updState = 4 →
    ∃ t, exec (.updAbort dt vi) s = .next t ∧ t.updState = 1 ∧ t.updBusy = false ∧ t.upd = { s.upd with writing := none }) ∧
  (∀ (dt : Nat) (s : State), s.bus.pageAccess updPage 1 = 2 → s.bus.pageUp updPage = true → s.bus.recovery = true → s.updState = 4 →
    ∃ u : State, u = { s.tick dt with upd := { s.upd with flash := flashConfirm s.upd.flash s.updTarget } } ∧
      exec (.updRecover dt 1) s = .next u.deviceReset) ∧
  (∀ (dt : Nat) (s : State), s.bus.pageAccess updPage 1 = 2 → s.bus.pageUp updPage = true → s.bus.recovery = false ∨ s.updState ≠ 4 →
    exec (.updRecover dt 1) s = .next ((s.tick dt).updRefuse 5)) ∧
(∀ (s : State) (before : Nat) (ops : List ProtOp), s.authorises before ops = false → s.updAuthorise before ops = s) ∧
  (∀ (s : State) (before : Nat) (ops : List ProtOp), s.bus.Ranged → s.authorises before ops = true →
    (s.ticket ≠ before → s.updState = 4 → s.authDigest = s.rdList (updKey R.UPD_IMG_DIGEST) 12 →
      (s.updAuthorise before ops).updState = 5 ∧ (s.updAuthorise before ops).upd.step = 1 ∧
      (s.updAuthorise before ops).kprRole s.otherPair = 3 ∧ (s.updAuthorise before ops).pend updPage 3 = true) ∧
    (s.ticket = before ∨ s.updState ≠ 4 ∨ s.authDigest ≠ s.rdList (updKey R.UPD_IMG_DIGEST) 12 →
      (s.updAuthorise before ops).updState = s.updState ∧ (s.updAuthorise before ops).fld (updKey R.UPD_STATUS) 8 4 = 9 ∧
      (s.updAuthorise before ops).pend updPage 2 = true)) ∧
  (∀ (dt : Nat) (l : List Byte) (s : State), l = flashBank s.upd.flash s.updTarget → s.updState = 5 → s.upd.step = 1 →
    (imgCheck l (custKey s.rd) s.upd.otp = 0 → exec (.activationStandbyReady dt) s =
      .next { s.tick dt with upd := { s.upd with step := 3, other := Config.imageItems l } }) ∧
    (imgCheck l (custKey s.rd) s.upd.otp ≠ 0 → exec (.activationStandbyReady dt) s =
      .next ((s.tick dt).updAbandon.keeperJoin s.otherPair))) ∧
  (∀ (dt : Nat) (s : State), s.updState ≠ 5 ∨ s.upd.step ≠ 1 → exec (.activationStandbyReady dt) s = .next (s.tick dt)) ∧
  (∀ (s : State), s.bus.Ranged → s.updState = 5 → s.upd.step = 3 → s.updEpoch.bus.keeper = s.otherPair ∧
    s.updEpoch.bootBank = s.updTarget ∧ s.updEpoch.upd.step = 4 ∧ s.updEpoch.upd.units = List.range 108 ∧
    s.updEpoch.upd.items = s.upd.other ∧ s.updEpoch.upd.other = s.upd.items ∧ s.updEpoch.pend updPage 4 = true) ∧
  (∀ (dt u : Nat) (s s2 : State), s.upd.step = 4 ∨ s.upd.step = 8 → unitTurn s.upd.units u = true → (s.tick dt).unitTake u = some s2 →
    exec (.unitImageSwap dt u) s = .next { s2 with upd := { s2.upd with units := s2.upd.units.filter (· != u)
                                                                        step := if (s2.upd.units.filter (· != u)).isEmpty ∧ s2.upd.step = 4 then 5 else s2.upd.step } }) ∧
  (∀ (dt u : Nat) (s : State), (s.upd.step ≠ 4 ∧ s.upd.step ≠ 8) ∨ unitTurn s.upd.units u = false →
    exec (.unitImageSwap dt u) s = .next (s.tick dt)) ∧
  (∀ (dt : Nat) (s : State), s.bus.Ranged → s.bus.pageAccess updPage 0 = 2 → s.bus.pageUp updPage = true → s.updState = 6 →
    ∃ t, exec (.updConfirm dt 0) s = .next t ∧ t.updState = 1 ∧ t.fld (updKey R.UPD_STATUS) 8 4 = 11 ∧ t.pend updPage 5 = true ∧
      t.upd.otp = max s.upd.otp (imgSecver (flashBank s.upd.flash s.bootBank)) ∧ t.upd.flash = flashConfirm s.upd.flash s.bootBank ∧
      t.bus.running tTrial = false ∧ (s.upd.hingeDown = false → t.kprRole s.otherPair = 3)) ∧
  (∀ (dt : Nat) (s : State), s.bus.pageAccess updPage 0 = 2 → s.bus.pageUp updPage = true →
    (s.updState ≠ 6 → exec (.updConfirm dt 0) s = .next ((s.tick dt).updRefuse 5)) ∧
    (s.updState = 6 ∨ (s.updState = 5 ∧ 4 ≤ s.upd.step) → exec (.updReverse dt 0) s = .next (s.tick dt).updReverse) ∧
    (s.updState ≠ 6 → s.updState ≠ 5 ∨ s.upd.step < 4 → exec (.updReverse dt 0) s = .next ((s.tick dt).updRefuse 5))) ∧
  (∀ (dt vi : Nat) (s : State), vi ≠ 0 → s.bus.pageAccess updPage vi = 2 → s.bus.pageUp updPage = true →
    exec (.updConfirm dt vi) s = .next ((s.tick dt).on (·.denied)) ∧ exec (.updReverse dt vi) s = .next ((s.tick dt).on (·.denied))) ∧
  (∀ (s : State), (s.upd.hingeDown = false → s.updReverse.updState = 7 ∧ s.updReverse.upd.step = 7 ∧
      s.updReverse.bus.running tTrial = false) ∧ (s.upd.hingeDown = true → s.updReverse = s.deviceReset)) ∧
  (∀ (dt at' : Nat) (s : State), s.bus.Ranged → s.updState = 6 → s.bus.timers.find? tTrial = some at' → at' ≤ s.bus.now + dt + clkS 60 →
    ∃ t, exec (.trialWarn dt) s = .next t ∧ t.pend updPage 7 = true ∧ (s.tick dt).After t [pendKey updPage]) ∧
  (∀ (dt : Nat) (s : State), s.updState ≠ 6 → exec (.trialWarn dt) s = .next (s.tick dt)) ∧
  (∀ (dt : Nat) (s : State), (s.tick dt).due tTrial = true → s.updState = 6 →
    exec (.trialTimeout dt) s = .next ((s.tick dt).disarm tTrial).updReverse) ∧
  (∀ (dt : Nat) (s : State), s.bus.Ranged → s.updState = 7 → s.upd.step = 7 → ∃ t, exec (.reverseHandover dt) s = .next t ∧
    t.bus.keeper = s.otherPair ∧ t.bootBank = 1 - s.bootBank ∧ t.upd.step = 8 ∧ t.upd.units = List.range 108 ∧
    t.upd.items = s.upd.other ∧ t.kprRole s.bus.keeper = 3) ∧
  (∀ (dt : Nat) (s : State), s.updState ≠ 7 → exec (.reverseHandover dt) s = .next (s.tick dt) ∧
    exec (.reverseComplete dt) s = .next (s.tick dt)) ∧
  (∀ (dt : Nat) (s : State), s.bus.Ranged → s.updState = 7 → s.upd.step = 8 → s.upd.units = [] →
    ∃ t, exec (.reverseComplete dt) s = .next t ∧ t.updState = 1 ∧ t.fld (updKey R.UPD_STATUS) 8 4 = 12 ∧ t.upd.step = 0 ∧
      t.pend updPage 6 = true)

/-- R458, R462 to R471, R369: what starts the device and in which order, service ready, the generator's states, the keeper's debug halt and
a power-up of the AON supply. That a start is one step, and what brings it about, is the model's choice (log 41). -/
def Obligations.StartsRunInOrderAndTheGeneratorServes : Prop :=
  (∀ (dt straps : Nat) (flash : Option Flash) (failed : List (Nat × Nat)) (s : State),
    (s.boot.porst = true ∨ s.begun = false → exec (.startSequence dt .porst flash straps failed) s =
      .next ((s.tick dt).start flash straps failed)) ∧
    (s.boot.porst = false → s.begun = true → exec (.startSequence dt .porst flash straps failed) s = .next (s.tick dt)) ∧
    (s.pwrState = 4 → exec (.startSequence dt .wakeFromOff flash straps failed) s =
      .next ((s.tick dt).deviceReset.start flash straps failed)) ∧
    (s.pwrState ≠ 4 → exec (.startSequence dt .wakeFromOff flash straps failed) s = .next (s.tick dt)) ∧
    (s.rung5 = true → exec (.startSequence dt .rung5 flash straps failed) s =
      .next ((s.tick dt).deviceReset.start flash straps failed))) ∧
  (∀ (straps : Nat) (flash : Option Flash) (s s3 : State), s3 = ((s.startBegin flash straps).keeperRoles s.boot.lastPair).replay →
    (s3.bankToBoot = none → s.start flash straps [] = s3.startIdentity.enterRecovery) ∧
    (∀ bank, s3.bankToBoot = some bank → s.start flash straps [] = s3.startImage bank [])) ∧
  (∀ (straps : Nat) (flash : Option Flash) (s : State), s.bus.Ranged → s.boot.lastPair < 2 →
    (s.start flash straps [(kprBst 0, 0), (kprBst 1, 0)]).bit (fltKey R.FLT_STATUS) 0 = true ∧
    (s.start flash straps [(kprBst 0, 0), (kprBst 1, 0)]).bus.grantsOn = s.bus.grantsOn) ∧
  (∀ (s : State) (c : Nat), c = flashConfirmed s.upd.flash → (s.strap 0 = true → s.bankToBoot = none) ∧
    (s.strap 0 = false → s.bankValid c = true → s.bankToBoot = some c) ∧
    (s.strap 0 = false → s.bankValid c = false → s.bankValid (1 - c) = true → s.bankToBoot = some (1 - c)) ∧
    (s.bankValid c = false → s.bankValid (1 - c) = false → s.bankToBoot = none)) ∧
  (∀ (s : State), s.bus.Ranged → s.replay.jrn.log = [] ∧ s.replay.pend fltPage 3 = true ∧
    s.replay.rd (fltKey R.FLT_EPOCH) = s.replay.rd (fltKey R.FLT_HOME_EPOCH) ∧
    s.replay.jrn.home = (s.jrn.log.filter (·.durable)).foldl (fun m r => r.entries.foldl (fun m e => m.set e.1 e.2) m) s.jrn.home) ∧
  (∀ (s : State) (bank : Nat) (failed : List (Nat × Nat)), fatalGroups failed = true →
    (s.startImage bank failed).bit (fltKey R.FLT_STATUS) 0 = true) ∧
  (∀ (dt : Nat) (s : State), s.bus.Ranged → (∀ p ∈ s.bus.sessions.cells, p.1 < 1024) → s.serviceReady = false → s.bus.grantsOn = true →
    s.bus.recovery = false → s.rngReady = true ∨ s.rngFailed = true → ∃ t, exec (.serviceReady dt) s = .next t ∧ t.serviceReady = true ∧
      (∀ n, n < 16 → t.bit (canKey n R.CAN_STATUS) 2 = false) ∧ t.updState = (if s.updState = 0 then 1 else s.updState)) ∧
  (∀ (dt : Nat) (s : State), s.serviceReady = true ∨ s.bus.grantsOn = false ∨ s.bus.recovery = true ∨
    (s.rngReady = false ∧ s.rngFailed = false) → exec (.serviceReady dt) s = .next (s.tick dt)) ∧
  (∀ (dt : Nat) (s : State), s.bus.Ranged → s.rngReady = false → s.rngFailed = false → ∃ t, exec (.rngReady dt) s = .next t ∧
    t.rngReady = true ∧ t.rngFailed = false ∧ t.pend rngPage 0 = true ∧
    (s.tick dt).After t [rngKey R.RNG_STATUS, rngKey R.RNG_READY_T, rngKey R.RNG_ENT_BITS, pendKey rngPage]) ∧
  (∀ (dt : Nat) (s : State), s.rngReady = true ∨ s.rngFailed = true → exec (.rngReady dt) s = .next (s.tick dt)) ∧
  (∀ (dt : Nat) (s : State), s.bus.Ranged → s.rngFailed = false → s.fld (rngKey R.RNG_STATUS) 2 2 < 2 →
    ∃ t, exec (.rngHealthFail dt) s = .next t ∧ t.rngReady = s.rngReady ∧ t.rngFailed = false ∧ t.pend rngPage 1 = true ∧
      t.fld (rngKey R.RNG_STATUS) 2 2 = s.fld (rngKey R.RNG_STATUS) 2 2 + 1 ∧
      t.rd (rngKey R.RNG_CNT_HEALTH) = min (s.rd (rngKey R.RNG_CNT_HEALTH) + 1) 0xFFFFFFFF) ∧
  (∀ (dt : Nat) (s : State), s.bus.Ranged → s.rngFailed = false → s.fld (rngKey R.RNG_STATUS) 2 2 = 2 →
    ∃ t, exec (.rngHealthFail dt) s = .next t ∧ t.rngReady = false ∧ t.rngFailed = true ∧ t.pend rngPage 2 = true ∧ t.idnReady = false ∧
      t.rd (fsKey 105 R.FLT_SRC_CNT) = min (s.rd (fsKey 105 R.FLT_SRC_CNT) + 1) 0xFFFFFFFF) ∧
  (∀ (dt : Nat) (s : State), s.rngReady = true → ∃ t, exec (.rngReseed dt) s = .next t ∧ t.fld (rngKey R.RNG_STATUS) 2 2 = 0 ∧
    t.rd (rngKey R.RNG_CNT_RESEED) = (s.rd (rngKey R.RNG_CNT_RESEED) + 1) % 2 ^ 32 ∧
    (s.tick dt).After t [rngKey R.RNG_STATUS, rngKey R.RNG_CNT_RESEED, rngKey R.RNG_ENT_BITS]) ∧
  (∀ (dt : Nat) (s : State), s.rngReady = false → exec (.rngReseed dt) s = .next (s.tick dt)) ∧
  (∀ (dt vi : Nat) (s : State), s.bus.pageAccess rngPage vi = 2 → s.bus.pageUp rngPage = true → s.rngReady = true →
    exec (.rngDataRead dt vi) s = .next (((s.tick dt).on Bus.nextFree).emit (.readData vi (s.tick dt).bus.fresh.toNat))) ∧
  (∀ (dt vi : Nat) (s : State), s.bus.pageUp rngPage = true → s.bus.pageAccess rngPage vi = 1 ∨
    (s.bus.pageAccess rngPage vi = 2 ∧ s.rngReady = false) → exec (.rngDataRead dt vi) s = .next ((s.tick dt).emit (.readData vi 0))) ∧
  (∀ (dt : Nat) (enter : Bool) (s : State), s.bus.Ranged → s.strap 3 = true → s.bit (rk s.bus.keeperPage R.KPR_STATUS) 3 ≠ enter →
    ∃ t, exec (.keeperDebugHalt dt enter) s = .next t ∧ t.bit (rk s.bus.keeperPage R.KPR_STATUS) 3 = enter ∧
      t.pend s.bus.keeperPage 1 = true) ∧
  (∀ (dt : Nat) (enter : Bool) (s : State), s.strap 3 = false → exec (.keeperDebugHalt dt enter) s = .next (s.tick dt)) ∧
  (∀ (dt : Nat) (s : State), ∃ t, exec (.vaonPowerUp dt) s = .next t ∧ t.bus.timers = SMap.empty ∧ t.boot = Boot.init ∧
    t.toks = SMap.empty ∧ t.jrn = (s.tick dt).deviceReset.jrn ∧ t.upd = (s.tick dt).deviceReset.upd ∧
    ∀ k, blockOfPage (keyPage k) ≠ some .idn → keyPage k ≠ fltPage ∨ keyOff k ≠ R.FLT_HOME_EPOCH → t.rd k = Bus.init.rd k)
end

