-- ==== Sys2Proof/Laws/Bits.lean ====
section
/-! SUPPORT. Reading a field or a bit of a value in which a field or a bit was replaced. -/

namespace Sys2Proof.Machine

theorem testBit_fieldOf (lo w v i : Nat) : (fieldOf lo w v).testBit i = (decide (i < w) && v.testBit (lo + i)) := by
  simp [fieldOf, Nat.testBit_mod_two_pow, Nat.testBit_div_two_pow, Nat.add_comm]

theorem bitOf_eq_testBit (i v : Nat) : bitOf i v = v.testBit i := by
  simp only [bitOf, Nat.testBit, Nat.shiftRight_eq_div_pow, Nat.one_and_eq_mod_two]
  rcases Nat.mod_two_eq_zero_or_one (v / 2 ^ i) with h | h <;> simp [h]

theorem setFieldOf_eq (lo w x v : Nat) :
    setFieldOf lo w x v = 2 ^ lo * (2 ^ w * (v / 2 ^ lo / 2 ^ w) + x % 2 ^ w) + v % 2 ^ lo := by
  have h1 := Nat.div_add_mod v (2 ^ lo)
  have h2 := Nat.div_add_mod (v / 2 ^ lo) (2 ^ w)
  unfold setFieldOf fieldOf
  have h3 : v = 2 ^ lo * (2 ^ w * (v / 2 ^ lo / 2 ^ w)) + (v / 2 ^ lo % 2 ^ w) * 2 ^ lo + v % 2 ^ lo := by
    conv_lhs => rw [← h1]
    conv_lhs => rw [← h2]
    ring
  have h4 : v - v / 2 ^ lo % 2 ^ w * 2 ^ lo = 2 ^ lo * (2 ^ w * (v / 2 ^ lo / 2 ^ w)) + v % 2 ^ lo := by
    generalize v / 2 ^ lo % 2 ^ w * 2 ^ lo = m at *
    generalize 2 ^ lo * (2 ^ w * (v / 2 ^ lo / 2 ^ w)) = n at *
    omega
  rw [h4]; ring

theorem testBit_setFieldOf (lo w x v i : Nat) :
    (setFieldOf lo w x v).testBit i = if lo ≤ i ∧ i < lo + w then x.testBit (i - lo) else v.testBit i := by
  rw [setFieldOf_eq]
  by_cases h1 : i < lo
  · rw [Nat.testBit_two_pow_mul_add _ (Nat.mod_lt _ (Nat.two_pow_pos lo)), if_pos h1, if_neg (by omega)]
    simp [Nat.testBit_mod_two_pow, h1]
  · rw [Nat.testBit_two_pow_mul_add _ (Nat.mod_lt _ (Nat.two_pow_pos lo)), if_neg h1]
    rw [Nat.testBit_two_pow_mul_add _ (Nat.mod_lt _ (Nat.two_pow_pos w))]
    by_cases h2 : i - lo < w
    · rw [if_pos h2, if_pos (by omega)]
      simp [Nat.testBit_mod_two_pow, h2]
    · rw [if_neg h2, if_neg (by omega)]
      simp only [Nat.testBit_div_two_pow]
      congr 1; omega

@[simp] theorem fieldOf_setFieldOf (lo w x v : Nat) : fieldOf lo w (setFieldOf lo w x v) = x % 2 ^ w := by
  apply Nat.eq_of_testBit_eq; intro i
  rw [testBit_fieldOf, testBit_setFieldOf, Nat.testBit_mod_two_pow]
  by_cases h : i < w <;> simp [h]

theorem fieldOf_setFieldOf_of_disjoint (lo w lo' w' x v : Nat) (h : lo + w ≤ lo' ∨ lo' + w' ≤ lo) :
    fieldOf lo w (setFieldOf lo' w' x v) = fieldOf lo w v := by
  apply Nat.eq_of_testBit_eq; intro i
  rw [testBit_fieldOf, testBit_fieldOf, testBit_setFieldOf]
  by_cases hi : i < w
  · simp only [hi, decide_true, Bool.true_and]; rw [if_neg (by omega)]
  · simp [hi]

@[simp] theorem bitOf_setBitOf (i : Nat) (b : Bool) (v : Nat) : bitOf i (setBitOf i b v) = b := by
  rw [bitOf_eq_testBit, setBitOf, testBit_setFieldOf, if_pos (by omega)]
  cases b <;> simp [b2n]

theorem bitOf_setBitOf_ne (i j : Nat) (b : Bool) (v : Nat) (h : i ≠ j) : bitOf i (setBitOf j b v) = bitOf i v := by
  rw [bitOf_eq_testBit, bitOf_eq_testBit, setBitOf, testBit_setFieldOf, if_neg (by omega)]

theorem bitOf_setFieldOf_of_disjoint (i lo w x v : Nat) (h : i < lo ∨ lo + w ≤ i) :
    bitOf i (setFieldOf lo w x v) = bitOf i v := by
  rw [bitOf_eq_testBit, bitOf_eq_testBit, testBit_setFieldOf, if_neg (by omega)]

theorem fieldOf_setBitOf_of_disjoint (lo w i : Nat) (b : Bool) (v : Nat) (h : i < lo ∨ lo + w ≤ i) :
    fieldOf lo w (setBitOf i b v) = fieldOf lo w v := by
  exact fieldOf_setFieldOf_of_disjoint _ _ _ _ _ _ (by omega)

theorem setFieldOf_lt (lo w x v n : Nat) (hv : v < 2 ^ n) (h : lo + w ≤ n) : setFieldOf lo w x v < 2 ^ n := by
  apply Nat.lt_pow_two_of_testBit
  intro i hi
  rw [testBit_setFieldOf, if_neg (by omega)]
  exact Nat.testBit_lt_two_pow (lt_of_lt_of_le hv (Nat.pow_le_pow_right (by omega) hi))

theorem setBitOf_lt (i : Nat) (b : Bool) (v n : Nat) (hv : v < 2 ^ n) (h : i < n) : setBitOf i b v < 2 ^ n :=
  setFieldOf_lt i 1 (b2n b) v n hv (by omega)

theorem fieldOf_lt (lo w v : Nat) : fieldOf lo w v < 2 ^ w := Nat.mod_lt _ (Nat.two_pow_pos w)

end Sys2Proof.Machine
end

