-- ==== Sys2Proof/Laws/SMap.lean ====
section
/-! SUPPORT. Sparse tables: reading after a write, and the canonical form that every operation keeps. -/

namespace Sys2Proof.Machine

variable {α : Type}

theorem SMap.findIn_insertIn (k : Nat) (v : α) (l : List (Nat × α)) (h : ∀ p ∈ l, p.1 ≠ k) :
    SMap.findIn (SMap.insertIn k v l) k = some v := by
  induction l with
  | nil => simp [SMap.insertIn, SMap.findIn]
  | cons p t ih =>
    obtain ⟨k', v'⟩ := p
    have h1 : k' ≠ k := h (k', v') (by simp)
    simp only [SMap.insertIn]
    split
    · simp [SMap.findIn]
    · simp only [SMap.findIn, if_neg h1]
      exact ih (fun q hq => h q (by simp [hq]))

theorem SMap.findIn_insertIn_ne (k j : Nat) (v : α) (l : List (Nat × α)) (h : j ≠ k) :
    SMap.findIn (SMap.insertIn k v l) j = SMap.findIn l j := by
  induction l with
  | nil => simp [SMap.insertIn, SMap.findIn, Ne.symm h]
  | cons p t ih =>
    obtain ⟨k', v'⟩ := p
    simp only [SMap.insertIn]
    split
    · simp [SMap.findIn, Ne.symm h]
    · simp only [SMap.findIn, ih]

theorem SMap.findIn_filter_ne (k j : Nat) (l : List (Nat × α)) (h : j ≠ k) :
    SMap.findIn (l.filter (fun p => p.1 != k)) j = SMap.findIn l j := by
  induction l with
  | nil => rfl
  | cons p t ih =>
    obtain ⟨k', v'⟩ := p
    by_cases h1 : k' = k
    · subst h1
      simp [List.filter_cons, SMap.findIn, Ne.symm h, ih]
    · simp [List.filter_cons, SMap.findIn, h1, ih]

theorem SMap.findIn_filter_self (k : Nat) (l : List (Nat × α)) :
    SMap.findIn (l.filter (fun p => p.1 != k)) k = none := by
  induction l with
  | nil => rfl
  | cons p t ih =>
    obtain ⟨k', v'⟩ := p
    by_cases h1 : k' = k
    · subst h1
      simpa [List.filter_cons] using ih
    · simp [List.filter_cons, SMap.findIn, h1, ih]

@[simp] theorem SMap.find?_erase (m : SMap α) (k : Nat) : (m.erase k).find? k = none :=
  SMap.findIn_filter_self k m.cells

theorem SMap.find?_erase_ne (m : SMap α) (k j : Nat) (h : j ≠ k) : (m.erase k).find? j = m.find? j :=
  SMap.findIn_filter_ne k j m.cells h

@[simp] theorem SMap.find?_set (m : SMap α) (k : Nat) (v : α) : (m.set k v).find? k = some v :=
  SMap.findIn_insertIn k v _ (by intro p hp; simpa using (List.mem_filter.mp hp).2)

theorem SMap.find?_set_ne (m : SMap α) (k j : Nat) (v : α) (h : j ≠ k) : (m.set k v).find? j = m.find? j := by
  unfold SMap.set SMap.find?
  rw [SMap.findIn_insertIn_ne k j v _ h]
  exact SMap.findIn_filter_ne k j m.cells h

@[simp] theorem SMap.find_set (m : SMap α) (d v : α) (k : Nat) : (m.set k v).find d k = v := by simp [SMap.find]

theorem SMap.find_set_ne (m : SMap α) (d v : α) (k j : Nat) (h : j ≠ k) : (m.set k v).find d j = m.find d j := by
  simp [SMap.find, SMap.find?_set_ne m k j v h]

@[simp] theorem SMap.find_erase (m : SMap α) (d : α) (k : Nat) : (m.erase k).find d k = d := by simp [SMap.find]

theorem SMap.find_erase_ne (m : SMap α) (d : α) (k j : Nat) (h : j ≠ k) : (m.erase k).find d j = m.find d j := by
  simp [SMap.find, SMap.find?_erase_ne m k j h]

@[simp] theorem SMap.find_put [DecidableEq α] (m : SMap α) (d v : α) (k : Nat) : (m.put d k v).find d k = v := by
  unfold SMap.put
  split
  · next h => simp [h]
  · simp

theorem SMap.find_put_ne [DecidableEq α] (m : SMap α) (d e v : α) (k j : Nat) (h : j ≠ k) :
    (m.put d k v).find e j = m.find e j := by
  unfold SMap.put
  split
  · exact SMap.find_erase_ne m e k j h
  · exact SMap.find_set_ne m e v k j h

theorem SMap.find?_put_ne [DecidableEq α] (m : SMap α) (d v : α) (k j : Nat) (h : j ≠ k) :
    (m.put d k v).find? j = m.find? j := by
  unfold SMap.put
  split
  · exact SMap.find?_erase_ne m k j h
  · exact SMap.find?_set_ne m k j v h

/-! ## The canonical form -/

theorem SMap.rising_iff (l : List (Nat × α)) : SMap.rising l = true ↔ l.Pairwise (fun a b => a.1 < b.1) := by
  induction l with
  | nil => simp [SMap.rising]
  | cons p t ih =>
    obtain ⟨k, v⟩ := p
    cases t with
    | nil => simp [SMap.rising]
    | cons q u =>
      obtain ⟨k', v'⟩ := q
      simp only [SMap.rising, Bool.and_eq_true, decide_eq_true_eq, ih]
      constructor
      · rintro ⟨h, hp⟩
        refine List.Pairwise.cons ?_ hp
        intro a ha
        rcases List.mem_cons.mp ha with rfl | ha
        · exact h
        · exact lt_trans h ((List.pairwise_cons.mp hp).1 a ha)
      · intro hp
        have h2 := List.pairwise_cons.mp hp
        exact ⟨h2.1 (k', v') (by simp), h2.2⟩

theorem SMap.mem_insertIn (k : Nat) (v : α) (l : List (Nat × α)) (p : Nat × α) :
    p ∈ SMap.insertIn k v l ↔ p = (k, v) ∨ p ∈ l := by
  induction l with
  | nil => simp [SMap.insertIn]
  | cons q t ih =>
    obtain ⟨k', v'⟩ := q
    simp only [SMap.insertIn]
    split
    · simp
    · simp only [List.mem_cons, ih]; tauto

theorem SMap.pairwise_insertIn (k : Nat) (v : α) (l : List (Nat × α)) (hl : l.Pairwise (fun a b => a.1 < b.1))
    (h : ∀ p ∈ l, p.1 ≠ k) : (SMap.insertIn k v l).Pairwise (fun a b => a.1 < b.1) := by
  induction l with
  | nil => simp [SMap.insertIn]
  | cons q t ih =>
    obtain ⟨k', v'⟩ := q
    have h1 : k' ≠ k := h (k', v') (by simp)
    have h2 := List.pairwise_cons.mp hl
    simp only [SMap.insertIn]
    split
    · next hk =>
      refine List.Pairwise.cons ?_ hl
      intro a ha
      rcases List.mem_cons.mp ha with rfl | ha
      · exact hk
      · exact lt_trans hk (h2.1 a ha)
    · next hk =>
      refine List.Pairwise.cons ?_ (ih h2.2 (fun p hp => h p (by simp [hp])))
      intro a ha
      rcases (SMap.mem_insertIn k v t a).mp ha with rfl | ha
      · simp only; omega
      · exact h2.1 a ha

/-- Removing pairs keeps the canonical form. -/
theorem SMap.wf_filter [DecidableEq α] (m : SMap α) (d : Nat → α) (p : Nat × α → Bool) (h : m.wf d = true) :
    (SMap.mk (m.cells.filter p)).wf d = true := by
  simp only [SMap.wf, Bool.and_eq_true, List.all_eq_true, SMap.rising_iff] at *
  exact ⟨h.1.filter p, fun x hx => h.2 x (List.mem_filter.mp hx).1⟩

theorem SMap.wf_erase [DecidableEq α] (m : SMap α) (d : Nat → α) (k : Nat) (h : m.wf d = true) : (m.erase k).wf d = true :=
  SMap.wf_filter m d _ h

theorem SMap.wf_set [DecidableEq α] (m : SMap α) (d : Nat → α) (k : Nat) (v : α) (h : m.wf d = true) (hv : v ≠ d k) :
    (m.set k v).wf d = true := by
  have h1 := SMap.wf_erase m d k h
  simp only [SMap.wf, Bool.and_eq_true, List.all_eq_true, SMap.rising_iff, decide_eq_true_eq] at *
  refine ⟨SMap.pairwise_insertIn k v _ h1.1 (by intro p hp; simpa using (List.mem_filter.mp hp).2), ?_⟩
  intro x hx
  rcases (SMap.mem_insertIn k v _ x).mp hx with rfl | hx
  · exact hv
  · exact h1.2 x hx

/-- Writing, where the value a key reads as when it is not held removes the key, keeps the canonical form. -/
theorem SMap.wf_put [DecidableEq α] (m : SMap α) (d : Nat → α) (k : Nat) (v : α) (h : m.wf d = true) :
    (m.put (d k) k v).wf d = true := by
  unfold SMap.put
  split
  · exact SMap.wf_erase m d k h
  · next hv => exact SMap.wf_set m d k v h hv

theorem SMap.mem_erase (m : SMap α) (k : Nat) (p : Nat × α) : p ∈ (m.erase k).cells ↔ p ∈ m.cells ∧ p.1 ≠ k := by
  simp [SMap.erase]

theorem SMap.mem_set (m : SMap α) (k : Nat) (v : α) (p : Nat × α) :
    p ∈ (m.set k v).cells ↔ p = (k, v) ∨ (p ∈ m.cells ∧ p.1 ≠ k) := by
  simp [SMap.set, SMap.mem_insertIn, SMap.mem_erase]

/-- What stands in a table after a write stood there before, or is the value written. -/
theorem SMap.of_mem_put [DecidableEq α] (m : SMap α) (d v : α) (k : Nat) (p : Nat × α) (h : p ∈ (m.put d k v).cells) :
    p = (k, v) ∨ p ∈ m.cells := by
  unfold SMap.put at h
  split at h
  · exact Or.inr ((SMap.mem_erase m k p).mp h).1
  · rcases (SMap.mem_set m k v p).mp h with h | h
    · exact Or.inl h
    · exact Or.inr h.1

theorem SMap.mem_of_find? (m : SMap α) (k : Nat) (v : α) (h : m.find? k = some v) : (k, v) ∈ m.cells := by
  obtain ⟨l⟩ := m
  unfold SMap.find? at h
  induction l with
  | nil => simp [SMap.findIn] at h
  | cons q t ih =>
    obtain ⟨k', v'⟩ := q
    simp only [SMap.findIn] at h
    split at h
    · next hk => simp at h; subst hk; subst h; simp
    · exact List.mem_cons_of_mem _ (ih h)

end Sys2Proof.Machine
end

