-- ==== Sys2Proof/Laws/Report.lean ====
section
/-! SUPPORT. Registers after a write, and what the reporting of an event can change: one lemma per operation of Machine/Ops.lean. -/

namespace Sys2Proof.Machine

/-! ## Registers -/

theorem Bus.rd_lt (b : Bus) (k : Nat) : b.rd k < 2 ^ 32 := (b.rdW k).isLt

@[simp] theorem Bus.rd_wr (b : Bus) (k v : Nat) : (b.wr k v).rd k = v % 2 ^ 32 := by
  simp [Bus.wr, Bus.rd, Bus.rdW]

theorem Bus.rd_wr_ne (b : Bus) (k v j : Nat) (h : j ≠ k) : (b.wr k v).rd j = b.rd j := by
  simp [Bus.wr, Bus.rd, Bus.rdW, SMap.find_put_ne _ _ _ _ _ _ h]

theorem Bus.rd_setBit (b : Bus) (k i : Nat) (v : Bool) (h : i < 32) : (b.setBit k i v).rd k = setBitOf i v (b.rd k) := by
  rw [Bus.setBit, Bus.rd_wr, Nat.mod_eq_of_lt (setBitOf_lt i v _ 32 (b.rd_lt k) h)]

theorem Bus.rd_setFld (b : Bus) (k lo w v : Nat) (h : lo + w ≤ 32) : (b.setFld k lo w v).rd k = setFieldOf lo w v (b.rd k) := by
  rw [Bus.setFld, Bus.rd_wr, Nat.mod_eq_of_lt (setFieldOf_lt lo w v _ 32 (b.rd_lt k) h)]

theorem Bus.rd_setBit_ne (b : Bus) (k i : Nat) (v : Bool) (j : Nat) (h : j ≠ k) : (b.setBit k i v).rd j = b.rd j :=
  b.rd_wr_ne k _ j h

theorem Bus.rd_setFld_ne (b : Bus) (k lo w v j : Nat) (h : j ≠ k) : (b.setFld k lo w v).rd j = b.rd j := b.rd_wr_ne k _ j h

theorem Bus.rd_addSat (b : Bus) (k n : Nat) : (b.addSat k n).rd k = min (b.rd k + n) (2 ^ 32 - 1) := by
  rw [Bus.addSat, Bus.rd_wr, satAdd]
  exact Nat.mod_eq_of_lt (by omega)

theorem Bus.rd_addSat_ne (b : Bus) (k n j : Nat) (h : j ≠ k) : (b.addSat k n).rd j = b.rd j := b.rd_wr_ne k _ j h

theorem Bus.rd_addWrap (b : Bus) (k n : Nat) : (b.addWrap k n).rd k = (b.rd k + n) % 2 ^ 32 := by
  rw [Bus.addWrap, Bus.rd_wr]

theorem Bus.rd_addWrap_ne (b : Bus) (k n j : Nat) (h : j ≠ k) : (b.addWrap k n).rd j = b.rd j := b.rd_wr_ne k _ j h

@[simp] theorem Bus.bit_setBit (b : Bus) (k i : Nat) (v : Bool) (h : i < 32) : (b.setBit k i v).bit k i = v := by
  rw [Bus.bit, b.rd_setBit k i v h, bitOf_setBitOf]

@[simp] theorem Bus.fld_setFld (b : Bus) (k lo w v : Nat) (h : lo + w ≤ 32) : (b.setFld k lo w v).fld k lo w = v % 2 ^ w := by
  rw [Bus.fld, b.rd_setFld k lo w v h, fieldOf_setFieldOf]

/-! ## Keys -/

theorem keyPage_rk (page off : Nat) (hp : page < 2 ^ 14) (ho : off < 4096) : keyPage (rk page off) = page := by
  unfold keyPage keyAddr rk; omega

theorem keyOff_rk (page off : Nat) (ho : off < 4096) : keyOff (rk page off) = off := by
  unfold keyOff keyAddr rk; omega

theorem rk_inj (p o p' o' : Nat) (ho : o < 4096) (ho' : o' < 4096) : rk p o = rk p' o' ↔ p = p' ∧ o = o' := by
  unfold rk; omega

/-- A register of a page that is neither a VI page, nor a keeper page, nor VIM is no register of the reporting. -/
theorem reportKey_rk (page off : Nat) (hp : page < 2 ^ 14) (ho : off < 4096)
    (h : (page < 0x100 ∨ 0x500 ≤ page) ∧ (page < 0x80 ∨ 0x82 ≤ page) ∧ (page ≠ 1 ∨ off ≠ hdrEvtPend)) :
    reportKey (rk page off) = false := by
  simp only [reportKey, keyPage_rk page off hp ho, keyOff_rk page off ho]
  obtain ⟨h1, h2, h3⟩ := h
  have e1 : (decide (0x100 ≤ page) && decide (page < 0x500)) = false := by
    rcases h1 with h1 | h1 <;> simp <;> omega
  have e2 : (decide (0x80 ≤ page) && decide (page < 0x82)) = false := by
    rcases h2 with h2 | h2 <;> simp <;> omega
  have e3 : (decide (page = 1) && decide (off = hdrEvtPend)) = false := by
    rcases h3 with h3 | h3 <;> simp [h3]
  simp [e1, e2, e3]

theorem reportKey_vi (v off : Nat) (hv : v < 1024) (ho : off < 4096)
    (h : off = R.VI_EVQ_TAIL ∨ off = R.VI_EVQ_LOST ∨ off = R.VI_STATUS ∨ off = hdrPageStatus) : reportKey (rk (viPage v) off) = true := by
  have hp : viPage v = 0x100 + v := rfl
  simp only [reportKey, hp, keyPage_rk (0x100 + v) off (by omega) ho, keyOff_rk (0x100 + v) off ho]
  have h1 : decide (0x100 ≤ 0x100 + v) = true := by simp
  have h2 : decide (0x100 + v < 0x500) = true := by simp; omega
  rcases h with rfl | rfl | rfl | rfl <;> simp [h2]

theorem reportKey_kpr (q off : Nat) (hq : q < 2) (ho : off < 4096)
    (h : off = R.KPR_EVQ_TAIL ∨ off = R.KPR_EVQ_LOST ∨ off = R.KPR_STATUS) : reportKey (rk (Block.keeper.pg q) off) = true := by
  have hp : Block.keeper.pg q = 0x80 + q := rfl
  simp only [reportKey, hp, keyPage_rk (0x80 + q) off (by omega) ho, keyOff_rk (0x80 + q) off ho]
  have h1 : decide (0x80 ≤ 0x80 + q) = true := by simp
  have h2 : decide (0x80 + q < 0x82) = true := by simp; omega
  rcases h with rfl | rfl | rfl <;> simp [h2]

theorem reportKey_vim : reportKey (rk vimPage hdrEvtPend) = true := by decide

/-! ## What reporting changes -/

theorem Bus.Reported.refl (b : Bus) (ks : List Nat) : b.Reported b ks :=
  ⟨rfl, rfl, rfl, rfl, rfl, rfl, rfl, rfl, rfl, rfl, rfl, rfl, rfl, rfl, rfl, rfl, rfl, fun _ _ _ => rfl⟩

theorem Bus.Reported.trans {b c d : Bus} {ks : List Nat} (h1 : b.Reported c ks) (h2 : c.Reported d ks) : b.Reported d ks :=
  ⟨h2.now.trans h1.now, h2.wall.trans h1.wall, h2.addend.trans h1.addend, h2.shadow.trans h1.shadow, h2.timers.trans h1.timers,
    h2.free.trans h1.free, h2.grants.trans h1.grants, h2.sessions.trans h1.sessions, h2.vfEnable.trans h1.vfEnable,
    h2.numVfs.trans h1.numVfs, h2.pcieUp.trans h1.pcieUp, h2.halted.trans h1.halted, h2.keeper.trans h1.keeper,
    h2.recs.trans h1.recs, h2.units.trans h1.units, h2.grantsOn.trans h1.grantsOn, h2.corr.trans h1.corr,
    fun k hk hr => (h2.regs k hk hr).trans (h1.regs k hk hr)⟩

theorem Bus.Reported.mono {b c : Bus} {ks ls : List Nat} (h : b.Reported c ks) (hs : ∀ k ∈ ks, k ∈ ls) : b.Reported c ls :=
  ⟨h.now, h.wall, h.addend, h.shadow, h.timers, h.free, h.grants, h.sessions, h.vfEnable, h.numVfs, h.pcieUp, h.halted, h.keeper,
    h.recs, h.units, h.grantsOn, h.corr, fun k hk hr => h.regs k (fun hm => hk (hs k hm)) hr⟩

theorem Bus.Reported.of_nil {b c : Bus} {ks : List Nat} (h : b.Reported c []) : b.Reported c ks := h.mono (by simp)

theorem Bus.Ranged.of_reported {b c : Bus} {ks : List Nat} (h : b.Ranged) (hr : b.Reported c ks) : c.Ranged := by
  unfold Bus.Ranged; rw [hr.grants, hr.keeper]; exact h

theorem Bus.wr_reported (b : Bus) (k v : Nat) (ks : List Nat) (h : k ∈ ks ∨ reportKey k = true) : b.Reported (b.wr k v) ks :=
  ⟨rfl, rfl, rfl, rfl, rfl, rfl, rfl, rfl, rfl, rfl, rfl, rfl, rfl, rfl, rfl, rfl, rfl, fun j hj hr =>
    b.rd_wr_ne k v j (by rintro rfl; rcases h with h | h; exacts [hj h, by simp [h] at hr])⟩

theorem Bus.setBit_reported (b : Bus) (k i : Nat) (v : Bool) (ks : List Nat) (h : k ∈ ks ∨ reportKey k = true) :
    b.Reported (b.setBit k i v) ks := b.wr_reported k _ ks h

theorem Bus.setFld_reported (b : Bus) (k lo w v : Nat) (ks : List Nat) (h : k ∈ ks ∨ reportKey k = true) :
    b.Reported (b.setFld k lo w v) ks := b.wr_reported k _ ks h

theorem Bus.addSat_reported (b : Bus) (k n : Nat) (ks : List Nat) (h : k ∈ ks ∨ reportKey k = true) :
    b.Reported (b.addSat k n) ks := b.wr_reported k _ ks h

theorem Bus.addWrap_reported (b : Bus) (k n : Nat) (ks : List Nat) (h : k ∈ ks ∨ reportKey k = true) :
    b.Reported (b.addWrap k n) ks := b.wr_reported k _ ks h

/-- A change of the fields that reporting may change. -/
theorem Bus.Reported.fields (b : Bus) (evt : SMap Word) (kd : SMap Word) (out : List Out) (seq : SMap Nat) (hold : SMap (List EvRec))
    (mx : SMap Nat) (ks : List Nat) :
    b.Reported { b with evt := evt, kdmem := kd, out := out, seq := seq, netHold := hold, msixLast := mx } ks :=
  ⟨rfl, rfl, rfl, rfl, rfl, rfl, rfl, rfl, rfl, rfl, rfl, rfl, rfl, rfl, rfl, rfl, rfl, fun _ _ _ => rfl⟩

theorem Bus.stepSeq_reported (b : Bus) (vi : Nat) (ks : List Nat) : b.Reported (b.stepSeq vi) ks := by
  unfold Bus.stepSeq
  exact Bus.Reported.fields b b.evt b.kdmem b.out _ b.netHold b.msixLast ks

theorem Bus.emit_reported (b : Bus) (o : Out) (ks : List Nat) : b.Reported (b.emit o) ks :=
  Bus.Reported.fields b b.evt b.kdmem (o :: b.out) b.seq b.netHold b.msixLast ks

theorem Bus.setEvt_reported (b : Bus) (c i : Nat) (ks : List Nat) : b.Reported (b.setEvt c i) ks := by
  unfold Bus.setEvt
  exact Bus.Reported.fields b _ b.kdmem b.out b.seq b.netHold b.msixLast ks

theorem Bus.foldl_reported {β : Type} (l : List β) (f : Bus → β → Bus) (ks : List Nat) (b : Bus) (hb : b.Ranged)
    (h : ∀ (c : Bus) (x : β), c.Ranged → x ∈ l → c.Reported (f c x) ks) : b.Reported (l.foldl f b) ks := by
  induction l generalizing b with
  | nil => exact Bus.Reported.refl b ks
  | cons x t ih =>
    have h1 := h b x hb (by simp)
    exact h1.trans (ih (f b x) (hb.of_reported h1) (fun c y hc hy => h c y hc (by simp [hy])))

theorem Bus.fireRoutes_reported (b : Bus) (hb : b.Ranged) (page evn : Nat) (ks : List Nat) : b.Reported (b.fireRoutes page evn) ks := by
  unfold Bus.fireRoutes
  exact Bus.foldl_reported _ _ ks b hb (fun c x _ _ => c.setEvt_reported _ _ ks)

theorem Bus.keeperStore_reported (b : Bus) (hb : b.Ranged) (r : EvRec) (ks : List Nat) : b.Reported (b.keeperStore r).1 ks := by
  have hk := hb.2
  unfold Bus.keeperStore
  extract_lets p tail head a m
  have hp : p = Block.keeper.pg b.keeper := rfl
  rw [hp]
  clear_value tail head a m
  split
  · exact (b.addSat_reported _ _ ks (Or.inr (reportKey_kpr _ _ hk (by decide) (by simp)))).trans
      (Bus.setBit_reported _ _ _ _ ks (Or.inr (reportKey_kpr _ _ hk (by decide) (by simp))))
  · refine Bus.Reported.trans (c := Bus.addWrap _ _ _) ?_ (Bus.setEvt_reported _ _ _ ks)
    refine Bus.Reported.trans ?_ (Bus.addWrap_reported _ _ _ ks (Or.inr (reportKey_kpr _ _ hk (by decide) (by simp))))
    exact Bus.Reported.fields b b.evt _ b.out b.seq b.netHold b.msixLast ks

theorem Bus.raiseOverflow_reported (b : Bus) (hb : b.Ranged) (ks : List Nat) : b.Reported b.raiseOverflow ks := by
  unfold Bus.raiseOverflow
  dsimp only
  have h1 := b.setBit_reported (rk vimPage hdrEvtPend) 3 true ks (Or.inr reportKey_vim)
  have h2 := h1.trans (Bus.fireRoutes_reported _ (hb.of_reported h1) vimPage 7 ks)
  split
  · exact Bus.Reported.refl b ks
  · split
    · refine h2.trans (Bus.Reported.trans (Bus.stepSeq_reported _ 0 ks) (Bus.keeperStore_reported _ ?_ _ ks))
      exact (hb.of_reported h2).of_reported (Bus.stepSeq_reported _ 0 ks)
    · exact h2

theorem Bus.toKeeper_reported (b : Bus) (hb : b.Ranged) (r : EvRec) (ks : List Nat) : b.Reported (b.toKeeper r) ks := by
  unfold Bus.toKeeper
  have h0 := b.stepSeq_reported 0 ks
  have h1 := h0.trans (Bus.keeperStore_reported _ (hb.of_reported h0) r ks)
  dsimp only
  split
  · exact h1.trans (Bus.raiseOverflow_reported _ (hb.of_reported h1) ks)
  · exact h1

theorem Bus.hostStore_reported (b : Bus) (hb : b.Ranged) (vi : Nat) (hv : vi < 1024) (r : EvRec) (ks : List Nat) :
    b.Reported (b.hostStore vi r).1 ks := by
  unfold Bus.hostStore
  extract_lets p tail size a
  have hp : p = viPage vi := rfl
  rw [hp]
  clear_value tail size a
  split
  · have h1 := (b.addSat_reported (rk (viPage vi) R.VI_EVQ_LOST) 1 ks (Or.inr (reportKey_vi _ _ hv (by decide) (by simp)))).trans
      (Bus.setBit_reported _ (rk (viPage vi) R.VI_STATUS) 3 true ks (Or.inr (reportKey_vi _ _ hv (by decide) (by simp))))
    exact h1.trans (Bus.raiseOverflow_reported _ (hb.of_reported h1) ks)
  · refine Bus.Reported.trans ?_ (Bus.addWrap_reported _ _ _ ks (Or.inr (reportKey_vi _ _ hv (by decide) (by simp))))
    exact (((b.emit_reported _ ks).trans (Bus.emit_reported _ _ ks)).trans (Bus.emit_reported _ _ ks)).trans (Bus.emit_reported _ _ ks)

theorem Bus.sendMsix_reported (b : Bus) (vi vec : Nat) (ks : List Nat) : b.Reported (b.sendMsix vi vec) ks := by
  unfold Bus.sendMsix
  exact Bus.Reported.fields b b.evt b.kdmem _ b.seq b.netHold _ ks

theorem Bus.msixFor_reported (b : Bus) (vi evn : Nat) (ks : List Nat) : b.Reported (b.msixFor vi evn).1 ks := by
  unfold Bus.msixFor
  dsimp only
  split
  · split
    · exact b.sendMsix_reported _ _ ks
    · exact Bus.Reported.refl b ks
  · exact Bus.Reported.refl b ks

theorem Bus.viVectorError_reported (b : Bus) (hb : b.Ranged) (vi : Nat) (hv : vi < 1024) (ks : List Nat) :
    b.Reported (b.viVectorError vi) ks := by
  unfold Bus.viVectorError
  dsimp only
  split
  · exact Bus.Reported.refl b ks
  · have h1 := b.setBit_reported (rk (viPage vi) hdrPageStatus) 2 true ks (Or.inr (reportKey_vi _ _ hv (by decide) (by simp)))
    have h2 := h1.trans (Bus.stepSeq_reported _ vi ks)
    have h3 := h2.trans (Bus.hostStore_reported _ (hb.of_reported h2) vi hv
      ((b.setBit (rk (viPage vi) hdrPageStatus) 2 true).record vi (viPage vi) 1 5 none) ks)
    split
    · exact h3.trans (Bus.msixFor_reported _ _ _ ks)
    · exact h3

theorem Bus.toHost_reported (b : Bus) (hb : b.Ranged) (vi : Nat) (hv : vi < 1024) (evn : Nat) (r : EvRec) (ks : List Nat) :
    b.Reported (b.toHost vi evn r) ks := by
  unfold Bus.toHost
  have h1 := b.stepSeq_reported vi ks
  have h2 := h1.trans (Bus.hostStore_reported _ (hb.of_reported h1) vi hv r ks)
  have h3 := h2.trans (Bus.msixFor_reported _ vi evn ks)
  dsimp only
  split
  · split
    · split
      · exact h3.trans (Bus.viVectorError_reported _ (hb.of_reported h3) vi hv ks)
      · exact h3
    · exact h2
  · exact Bus.Reported.refl b ks

theorem Bus.toNet_reported (b : Bus) (hb : b.Ranged) (vi : Nat) (hv : vi < 1024) (r : EvRec) (ks : List Nat) :
    b.Reported (b.toNet vi r) ks := by
  unfold Bus.toNet
  have h1 := b.stepSeq_reported vi ks
  dsimp only
  split
  · exact h1.trans (Bus.emit_reported _ _ ks)
  · split
    · exact h1.trans (Bus.Reported.fields (b.stepSeq vi) (b.stepSeq vi).evt (b.stepSeq vi).kdmem (b.stepSeq vi).out (b.stepSeq vi).seq
        ((b.stepSeq vi).netHold.put [] vi ((b.stepSeq vi).netHold.find [] vi ++ [r])) (b.stepSeq vi).msixLast ks)
    · have h2 := (h1.trans (Bus.addSat_reported _ (rk (viPage vi) R.VI_EVQ_LOST) 1 ks
        (Or.inr (reportKey_vi _ _ hv (by decide) (by simp))))).trans
        (Bus.setBit_reported _ (rk (viPage vi) R.VI_STATUS) 3 true ks (Or.inr (reportKey_vi _ _ hv (by decide) (by simp))))
      exact h2.trans (Bus.raiseOverflow_reported _ (hb.of_reported h2) ks)

/-- The delivery of a record changes nothing but what reporting changes. -/
theorem Bus.deliver_reported (b : Bus) (hb : b.Ranged) (vi : Nat) (hv : vi < 1024) (page bit evn : Nat) (entry : Option Nat)
    (ks : List Nat) : b.Reported (b.deliver vi page bit evn entry) ks := by
  unfold Bus.deliver
  dsimp only
  split
  · exact b.toKeeper_reported hb _ ks
  · split
    · exact b.toHost_reported hb vi hv _ _ ks
    · exact b.toNet_reported hb vi hv _ ks

theorem Bus.deliverAll_reported (b : Bus) (hb : b.Ranged) (vis : List Nat) (hv : ∀ v ∈ vis, v < 1024) (page bit evn : Nat)
    (entry : Option Nat) (ks : List Nat) : b.Reported (b.deliverAll vis page bit evn entry) ks := by
  unfold Bus.deliverAll
  refine Bus.foldl_reported _ _ ks b hb (fun c x hc hx => c.deliver_reported hc x (hv x ?_) page bit evn entry ks)
  exact List.mem_eraseDups.mp hx

/-- An occurrence of an event changes its EVT_PEND, and what reporting changes. -/
theorem Bus.raiseAt_reported (b : Bus) (hb : b.Ranged) (page phys bit who : Nat) (extra : List Nat) (hw : ∀ v ∈ who :: extra, v < 1024)
    (entry : Option Nat) (ks : List Nat) (hk : evKey page hdrEvtPend who ∈ ks ∨ reportKey (evKey page hdrEvtPend who) = true) :
    b.Reported (b.raiseAt page phys bit who extra entry) ks := by
  unfold Bus.raiseAt
  dsimp only
  split
  · exact Bus.Reported.refl b ks
  · have h1 := b.setBit_reported (evKey page hdrEvtPend who) bit true ks hk
    have h2 := h1.trans (Bus.fireRoutes_reported _ (hb.of_reported h1) phys (eventNumber page bit) ks)
    split
    · exact h2.trans (Bus.deliverAll_reported _ (hb.of_reported h2) _ hw _ _ _ _ ks)
    · exact h2

/-- After an occurrence the event is pending (R80). -/
theorem Bus.raiseAt_pend (b : Bus) (hb : b.Ranged) (page phys bit who : Nat) (extra : List Nat) (hw : ∀ v ∈ who :: extra, v < 1024)
    (entry : Option Nat) (hi : bit < 32) (hk : reportKey (evKey page hdrEvtPend who) = false) :
    (b.raiseAt page phys bit who extra entry).bit (evKey page hdrEvtPend who) bit = true := by
  unfold Bus.raiseAt
  dsimp only
  split
  · assumption
  · have h1 := b.setBit_reported (evKey page hdrEvtPend who) bit true [evKey page hdrEvtPend who] (Or.inl (by simp))
    have h2 := Bus.fireRoutes_reported _ (hb.of_reported h1) phys (eventNumber page bit) []
    have e : ∀ c : Bus, (Bus.fireRoutes (b.setBit (evKey page hdrEvtPend who) bit true) phys (eventNumber page bit)).Reported c [] →
        c.bit (evKey page hdrEvtPend who) bit = true := by
      intro c hc
      rw [Bus.bit, hc.regs _ (by simp) hk, h2.regs _ (by simp) hk]
      exact b.bit_setBit _ _ _ hi
    split
    · exact e _ (Bus.deliverAll_reported _ ((hb.of_reported h1).of_reported h2) _ hw _ _ _ _ [])
    · exact e _ (Bus.Reported.refl _ [])

theorem Bus.ownerOf_lt (b : Bus) (hb : b.Ranged) (blk : Block) (i : Nat) : b.ownerOf blk i < 1024 := by
  unfold Bus.ownerOf
  split
  · next p h => exact hb.1 p (List.mem_of_find?_eq_some h)
  · omega

theorem Bus.ownerOfPage_lt (b : Bus) (hb : b.Ranged) (page : Nat) : b.ownerOfPage page < 1024 := by
  unfold Bus.ownerOfPage
  split
  · next r h =>
    split
    · exact b.ownerOf_lt hb _ _
    · next hg =>
      have : page - r.page < 1024 := by
        unfold rowOfPage at h
        split at h
        · simp at h; subst h; simp at hg
        · have hm := List.mem_of_find?_eq_some h
          have hp := List.find?_some h
          simp only [Bool.and_eq_true, decide_eq_true_eq] at hp
          have : r.pages ≤ 1024 := by
            have hall : ∀ x ∈ blockTable, x.pages ≤ 1024 := by decide
            exact hall r hm
          omega
      exact this
    · omega
  · omega

/-- `raise` changes the event's EVT_PEND bit, and what reporting changes. -/
theorem Bus.raise_reported (b : Bus) (hb : b.Ranged) (page bit : Nat) (ks : List Nat)
    (hk : evKey page hdrEvtPend (b.ownerOfPage page) ∈ ks) : b.Reported (b.raise page bit) ks :=
  b.raiseAt_reported hb page page bit _ [] (by simpa using b.ownerOfPage_lt hb page) none ks (Or.inl hk)

theorem Bus.raiseAlso_reported (b : Bus) (hb : b.Ranged) (page bit : Nat) (extra : List Nat) (hx : ∀ v ∈ extra, v < 1024) (ks : List Nat)
    (hk : evKey page hdrEvtPend (b.ownerOfPage page) ∈ ks) : b.Reported (b.raiseAlso page bit extra) ks :=
  b.raiseAt_reported hb page page bit _ extra (by
    intro v hv; rcases List.mem_cons.mp hv with rfl | hv
    · exact b.ownerOfPage_lt hb page
    · exact hx v hv) none ks (Or.inl hk)

theorem Bus.raiseEntry_reported (b : Bus) (hb : b.Ranged) (blk : Block) (bit entry : Nat) (ks : List Nat)
    (hk : evKey (b.entryPage blk (b.ownerOf blk entry) entry) hdrEvtPend (b.ownerOf blk entry) ∈ ks) :
    b.Reported (b.raiseEntry blk bit entry) ks :=
  b.raiseAt_reported hb _ _ bit _ [] (by simpa using b.ownerOf_lt hb blk entry) _ ks (Or.inl hk)

theorem Bus.cfgErrFor_reported (b : Bus) (hb : b.Ranged) (page who : Nat) (hw : who < 1024) (ks : List Nat)
    (hk : evKey page hdrPageStatus who ∈ ks) : b.Reported (b.cfgErrFor page who) ks := by
  unfold Bus.cfgErrFor
  dsimp only
  split
  · exact Bus.Reported.refl b ks
  · have h1 := b.setBit_reported (evKey page hdrPageStatus who) 2 true ks (Or.inl hk)
    exact h1.trans (Bus.deliver_reported _ (hb.of_reported h1) who hw _ _ _ _ ks)

theorem Bus.cfgErr_reported (b : Bus) (hb : b.Ranged) (page : Nat) (ks : List Nat)
    (hk : evKey page hdrPageStatus (b.ownerOfPage page) ∈ ks) : b.Reported (b.cfgErr page) ks :=
  b.cfgErrFor_reported hb page _ (b.ownerOfPage_lt hb page) ks hk

end Sys2Proof.Machine
end

