-- ==== Sys2Proof/Laws/State.lean ====
section
/-! SUPPORT. Each field of the state after each named operation, and each field of the page network after each write: true by
rfl, so that no proof unfolds a record update. -/

namespace Sys2Proof.Machine

/-! State.on -/

@[simp] theorem State.on_pending (s : State) (f : Bus → Bus) : (s.on f).pending = s.pending := rfl
@[simp] theorem State.on_bus (s : State) (f : Bus → Bus) : (s.on f).bus = f s.bus := rfl
@[simp] theorem State.on_tim (s : State) (f : Bus → Bus) : (s.on f).tim = s.tim := rfl
@[simp] theorem State.on_gpt (s : State) (f : Bus → Bus) : (s.on f).gpt = s.gpt := rfl
@[simp] theorem State.on_page (s : State) (f : Bus → Bus) : (s.on f).page = s.page := rfl
@[simp] theorem State.on_fab (s : State) (f : Bus → Bus) : (s.on f).fab = s.fab := rfl
@[simp] theorem State.on_str (s : State) (f : Bus → Bus) : (s.on f).str = s.str := rfl
@[simp] theorem State.on_pumps (s : State) (f : Bus → Bus) : (s.on f).pumps = s.pumps := rfl
@[simp] theorem State.on_val (s : State) (f : Bus → Bus) : (s.on f).val = s.val := rfl
@[simp] theorem State.on_jrn (s : State) (f : Bus → Bus) : (s.on f).jrn = s.jrn := rfl
@[simp] theorem State.on_lit (s : State) (f : Bus → Bus) : (s.on f).lit = s.lit := rfl
@[simp] theorem State.on_comp (s : State) (f : Bus → Bus) : (s.on f).comp = s.comp := rfl
@[simp] theorem State.on_lds (s : State) (f : Bus → Bus) : (s.on f).lds = s.lds := rfl
@[simp] theorem State.on_swi (s : State) (f : Bus → Bus) : (s.on f).swi = s.swi := rfl
@[simp] theorem State.on_coils (s : State) (f : Bus → Bus) : (s.on f).coils = s.coils := rfl
@[simp] theorem State.on_can (s : State) (f : Bus → Bus) : (s.on f).can = s.can := rfl
@[simp] theorem State.on_cores (s : State) (f : Bus → Bus) : (s.on f).cores = s.cores := rfl
@[simp] theorem State.on_dky (s : State) (f : Bus → Bus) : (s.on f).dky = s.dky := rfl
@[simp] theorem State.on_idn (s : State) (f : Bus → Bus) : (s.on f).idn = s.idn := rfl
@[simp] theorem State.on_toks (s : State) (f : Bus → Bus) : (s.on f).toks = s.toks := rfl
@[simp] theorem State.on_epochs (s : State) (f : Bus → Bus) : (s.on f).epochs = s.epochs := rfl
@[simp] theorem State.on_esc (s : State) (f : Bus → Bus) : (s.on f).esc = s.esc := rfl
@[simp] theorem State.on_bist (s : State) (f : Bus → Bus) : (s.on f).bist = s.bist := rfl
@[simp] theorem State.on_power (s : State) (f : Bus → Bus) : (s.on f).power = s.power := rfl
@[simp] theorem State.on_upd (s : State) (f : Bus → Bus) : (s.on f).upd = s.upd := rfl
@[simp] theorem State.on_boot (s : State) (f : Bus → Bus) : (s.on f).boot = s.boot := rfl
@[simp] theorem State.on_watch (s : State) (f : Bus → Bus) : (s.on f).watch = s.watch := rfl
@[simp] theorem State.on_ladder (s : State) (f : Bus → Bus) : (s.on f).ladder = s.ladder := rfl

/-! State.tick -/

@[simp] theorem State.tick_pending (s : State) (dt : Nat) : (s.tick dt).pending = s.pending := rfl
@[simp] theorem State.tick_bus (s : State) (dt : Nat) : (s.tick dt).bus = s.bus.tick dt := rfl
@[simp] theorem State.tick_tim (s : State) (dt : Nat) : (s.tick dt).tim = s.tim := rfl
@[simp] theorem State.tick_gpt (s : State) (dt : Nat) : (s.tick dt).gpt = s.gpt := rfl
@[simp] theorem State.tick_page (s : State) (dt : Nat) : (s.tick dt).page = s.page := rfl
@[simp] theorem State.tick_fab (s : State) (dt : Nat) : (s.tick dt).fab = s.fab := rfl
@[simp] theorem State.tick_str (s : State) (dt : Nat) : (s.tick dt).str = s.str := rfl
@[simp] theorem State.tick_pumps (s : State) (dt : Nat) : (s.tick dt).pumps = s.pumps := rfl
@[simp] theorem State.tick_val (s : State) (dt : Nat) : (s.tick dt).val = s.val := rfl
@[simp] theorem State.tick_jrn (s : State) (dt : Nat) : (s.tick dt).jrn = s.jrn := rfl
@[simp] theorem State.tick_lit (s : State) (dt : Nat) : (s.tick dt).lit = s.lit := rfl
@[simp] theorem State.tick_comp (s : State) (dt : Nat) : (s.tick dt).comp = s.comp := rfl
@[simp] theorem State.tick_lds (s : State) (dt : Nat) : (s.tick dt).lds = s.lds := rfl
@[simp] theorem State.tick_swi (s : State) (dt : Nat) : (s.tick dt).swi = s.swi := rfl
@[simp] theorem State.tick_coils (s : State) (dt : Nat) : (s.tick dt).coils = s.coils := rfl
@[simp] theorem State.tick_can (s : State) (dt : Nat) : (s.tick dt).can = s.can := rfl
@[simp] theorem State.tick_cores (s : State) (dt : Nat) : (s.tick dt).cores = s.cores := rfl
@[simp] theorem State.tick_dky (s : State) (dt : Nat) : (s.tick dt).dky = s.dky := rfl
@[simp] theorem State.tick_idn (s : State) (dt : Nat) : (s.tick dt).idn = s.idn := rfl
@[simp] theorem State.tick_toks (s : State) (dt : Nat) : (s.tick dt).toks = s.toks := rfl
@[simp] theorem State.tick_epochs (s : State) (dt : Nat) : (s.tick dt).epochs = s.epochs := rfl
@[simp] theorem State.tick_esc (s : State) (dt : Nat) : (s.tick dt).esc = s.esc := rfl
@[simp] theorem State.tick_bist (s : State) (dt : Nat) : (s.tick dt).bist = s.bist := rfl
@[simp] theorem State.tick_power (s : State) (dt : Nat) : (s.tick dt).power = s.power := rfl
@[simp] theorem State.tick_upd (s : State) (dt : Nat) : (s.tick dt).upd = s.upd := rfl
@[simp] theorem State.tick_boot (s : State) (dt : Nat) : (s.tick dt).boot = s.boot := rfl
@[simp] theorem State.tick_watch (s : State) (dt : Nat) : (s.tick dt).watch = s.watch := rfl
@[simp] theorem State.tick_ladder (s : State) (dt : Nat) : (s.tick dt).ladder = s.ladder := rfl

/-! State.wr -/

@[simp] theorem State.wr_pending (s : State) (k v : Nat) : (s.wr k v).pending = s.pending := rfl
@[simp] theorem State.wr_bus (s : State) (k v : Nat) : (s.wr k v).bus = s.bus.wr k v := rfl
@[simp] theorem State.wr_tim (s : State) (k v : Nat) : (s.wr k v).tim = s.tim := rfl
@[simp] theorem State.wr_gpt (s : State) (k v : Nat) : (s.wr k v).gpt = s.gpt := rfl
@[simp] theorem State.wr_page (s : State) (k v : Nat) : (s.wr k v).page = s.page := rfl
@[simp] theorem State.wr_fab (s : State) (k v : Nat) : (s.wr k v).fab = s.fab := rfl
@[simp] theorem State.wr_str (s : State) (k v : Nat) : (s.wr k v).str = s.str := rfl
@[simp] theorem State.wr_pumps (s : State) (k v : Nat) : (s.wr k v).pumps = s.pumps := rfl
@[simp] theorem State.wr_val (s : State) (k v : Nat) : (s.wr k v).val = s.val := rfl
@[simp] theorem State.wr_jrn (s : State) (k v : Nat) : (s.wr k v).jrn = s.jrn := rfl
@[simp] theorem State.wr_lit (s : State) (k v : Nat) : (s.wr k v).lit = s.lit := rfl
@[simp] theorem State.wr_comp (s : State) (k v : Nat) : (s.wr k v).comp = s.comp := rfl
@[simp] theorem State.wr_lds (s : State) (k v : Nat) : (s.wr k v).lds = s.lds := rfl
@[simp] theorem State.wr_swi (s : State) (k v : Nat) : (s.wr k v).swi = s.swi := rfl
@[simp] theorem State.wr_coils (s : State) (k v : Nat) : (s.wr k v).coils = s.coils := rfl
@[simp] theorem State.wr_can (s : State) (k v : Nat) : (s.wr k v).can = s.can := rfl
@[simp] theorem State.wr_cores (s : State) (k v : Nat) : (s.wr k v).cores = s.cores := rfl
@[simp] theorem State.wr_dky (s : State) (k v : Nat) : (s.wr k v).dky = s.dky := rfl
@[simp] theorem State.wr_idn (s : State) (k v : Nat) : (s.wr k v).idn = s.idn := rfl
@[simp] theorem State.wr_toks (s : State) (k v : Nat) : (s.wr k v).toks = s.toks := rfl
@[simp] theorem State.wr_epochs (s : State) (k v : Nat) : (s.wr k v).epochs = s.epochs := rfl
@[simp] theorem State.wr_esc (s : State) (k v : Nat) : (s.wr k v).esc = s.esc := rfl
@[simp] theorem State.wr_bist (s : State) (k v : Nat) : (s.wr k v).bist = s.bist := rfl
@[simp] theorem State.wr_power (s : State) (k v : Nat) : (s.wr k v).power = s.power := rfl
@[simp] theorem State.wr_upd (s : State) (k v : Nat) : (s.wr k v).upd = s.upd := rfl
@[simp] theorem State.wr_boot (s : State) (k v : Nat) : (s.wr k v).boot = s.boot := rfl
@[simp] theorem State.wr_watch (s : State) (k v : Nat) : (s.wr k v).watch = s.watch := rfl
@[simp] theorem State.wr_ladder (s : State) (k v : Nat) : (s.wr k v).ladder = s.ladder := rfl

/-! State.setFld -/

@[simp] theorem State.setFld_pending (s : State) (k lo w v : Nat) : (s.setFld k lo w v).pending = s.pending := rfl
@[simp] theorem State.setFld_bus (s : State) (k lo w v : Nat) : (s.setFld k lo w v).bus = s.bus.setFld k lo w v := rfl
@[simp] theorem State.setFld_tim (s : State) (k lo w v : Nat) : (s.setFld k lo w v).tim = s.tim := rfl
@[simp] theorem State.setFld_gpt (s : State) (k lo w v : Nat) : (s.setFld k lo w v).gpt = s.gpt := rfl
@[simp] theorem State.setFld_page (s : State) (k lo w v : Nat) : (s.setFld k lo w v).page = s.page := rfl
@[simp] theorem State.setFld_fab (s : State) (k lo w v : Nat) : (s.setFld k lo w v).fab = s.fab := rfl
@[simp] theorem State.setFld_str (s : State) (k lo w v : Nat) : (s.setFld k lo w v).str = s.str := rfl
@[simp] theorem State.setFld_pumps (s : State) (k lo w v : Nat) : (s.setFld k lo w v).pumps = s.pumps := rfl
@[simp] theorem State.setFld_val (s : State) (k lo w v : Nat) : (s.setFld k lo w v).val = s.val := rfl
@[simp] theorem State.setFld_jrn (s : State) (k lo w v : Nat) : (s.setFld k lo w v).jrn = s.jrn := rfl
@[simp] theorem State.setFld_lit (s : State) (k lo w v : Nat) : (s.setFld k lo w v).lit = s.lit := rfl
@[simp] theorem State.setFld_comp (s : State) (k lo w v : Nat) : (s.setFld k lo w v).comp = s.comp := rfl
@[simp] theorem State.setFld_lds (s : State) (k lo w v : Nat) : (s.setFld k lo w v).lds = s.lds := rfl
@[simp] theorem State.setFld_swi (s : State) (k lo w v : Nat) : (s.setFld k lo w v).swi = s.swi := rfl
@[simp] theorem State.setFld_coils (s : State) (k lo w v : Nat) : (s.setFld k lo w v).coils = s.coils := rfl
@[simp] theorem State.setFld_can (s : State) (k lo w v : Nat) : (s.setFld k lo w v).can = s.can := rfl
@[simp] theorem State.setFld_cores (s : State) (k lo w v : Nat) : (s.setFld k lo w v).cores = s.cores := rfl
@[simp] theorem State.setFld_dky (s : State) (k lo w v : Nat) : (s.setFld k lo w v).dky = s.dky := rfl
@[simp] theorem State.setFld_idn (s : State) (k lo w v : Nat) : (s.setFld k lo w v).idn = s.idn := rfl
@[simp] theorem State.setFld_toks (s : State) (k lo w v : Nat) : (s.setFld k lo w v).toks = s.toks := rfl
@[simp] theorem State.setFld_epochs (s : State) (k lo w v : Nat) : (s.setFld k lo w v).epochs = s.epochs := rfl
@[simp] theorem State.setFld_esc (s : State) (k lo w v : Nat) : (s.setFld k lo w v).esc = s.esc := rfl
@[simp] theorem State.setFld_bist (s : State) (k lo w v : Nat) : (s.setFld k lo w v).bist = s.bist := rfl
@[simp] theorem State.setFld_power (s : State) (k lo w v : Nat) : (s.setFld k lo w v).power = s.power := rfl
@[simp] theorem State.setFld_upd (s : State) (k lo w v : Nat) : (s.setFld k lo w v).upd = s.upd := rfl
@[simp] theorem State.setFld_boot (s : State) (k lo w v : Nat) : (s.setFld k lo w v).boot = s.boot := rfl
@[simp] theorem State.setFld_watch (s : State) (k lo w v : Nat) : (s.setFld k lo w v).watch = s.watch := rfl
@[simp] theorem State.setFld_ladder (s : State) (k lo w v : Nat) : (s.setFld k lo w v).ladder = s.ladder := rfl

/-! State.setBit -/

@[simp] theorem State.setBit_pending (s : State) (k i : Nat) (v : Bool) : (s.setBit k i v).pending = s.pending := rfl
@[simp] theorem State.setBit_bus (s : State) (k i : Nat) (v : Bool) : (s.setBit k i v).bus = s.bus.setBit k i v := rfl
@[simp] theorem State.setBit_tim (s : State) (k i : Nat) (v : Bool) : (s.setBit k i v).tim = s.tim := rfl
@[simp] theorem State.setBit_gpt (s : State) (k i : Nat) (v : Bool) : (s.setBit k i v).gpt = s.gpt := rfl
@[simp] theorem State.setBit_page (s : State) (k i : Nat) (v : Bool) : (s.setBit k i v).page = s.page := rfl
@[simp] theorem State.setBit_fab (s : State) (k i : Nat) (v : Bool) : (s.setBit k i v).fab = s.fab := rfl
@[simp] theorem State.setBit_str (s : State) (k i : Nat) (v : Bool) : (s.setBit k i v).str = s.str := rfl
@[simp] theorem State.setBit_pumps (s : State) (k i : Nat) (v : Bool) : (s.setBit k i v).pumps = s.pumps := rfl
@[simp] theorem State.setBit_val (s : State) (k i : Nat) (v : Bool) : (s.setBit k i v).val = s.val := rfl
@[simp] theorem State.setBit_jrn (s : State) (k i : Nat) (v : Bool) : (s.setBit k i v).jrn = s.jrn := rfl
@[simp] theorem State.setBit_lit (s : State) (k i : Nat) (v : Bool) : (s.setBit k i v).lit = s.lit := rfl
@[simp] theorem State.setBit_comp (s : State) (k i : Nat) (v : Bool) : (s.setBit k i v).comp = s.comp := rfl
@[simp] theorem State.setBit_lds (s : State) (k i : Nat) (v : Bool) : (s.setBit k i v).lds = s.lds := rfl
@[simp] theorem State.setBit_swi (s : State) (k i : Nat) (v : Bool) : (s.setBit k i v).swi = s.swi := rfl
@[simp] theorem State.setBit_coils (s : State) (k i : Nat) (v : Bool) : (s.setBit k i v).coils = s.coils := rfl
@[simp] theorem State.setBit_can (s : State) (k i : Nat) (v : Bool) : (s.setBit k i v).can = s.can := rfl
@[simp] theorem State.setBit_cores (s : State) (k i : Nat) (v : Bool) : (s.setBit k i v).cores = s.cores := rfl
@[simp] theorem State.setBit_dky (s : State) (k i : Nat) (v : Bool) : (s.setBit k i v).dky = s.dky := rfl
@[simp] theorem State.setBit_idn (s : State) (k i : Nat) (v : Bool) : (s.setBit k i v).idn = s.idn := rfl
@[simp] theorem State.setBit_toks (s : State) (k i : Nat) (v : Bool) : (s.setBit k i v).toks = s.toks := rfl
@[simp] theorem State.setBit_epochs (s : State) (k i : Nat) (v : Bool) : (s.setBit k i v).epochs = s.epochs := rfl
@[simp] theorem State.setBit_esc (s : State) (k i : Nat) (v : Bool) : (s.setBit k i v).esc = s.esc := rfl
@[simp] theorem State.setBit_bist (s : State) (k i : Nat) (v : Bool) : (s.setBit k i v).bist = s.bist := rfl
@[simp] theorem State.setBit_power (s : State) (k i : Nat) (v : Bool) : (s.setBit k i v).power = s.power := rfl
@[simp] theorem State.setBit_upd (s : State) (k i : Nat) (v : Bool) : (s.setBit k i v).upd = s.upd := rfl
@[simp] theorem State.setBit_boot (s : State) (k i : Nat) (v : Bool) : (s.setBit k i v).boot = s.boot := rfl
@[simp] theorem State.setBit_watch (s : State) (k i : Nat) (v : Bool) : (s.setBit k i v).watch = s.watch := rfl
@[simp] theorem State.setBit_ladder (s : State) (k i : Nat) (v : Bool) : (s.setBit k i v).ladder = s.ladder := rfl

/-! State.addSat -/

@[simp] theorem State.addSat_pending (s : State) (k n : Nat) : (s.addSat k n).pending = s.pending := rfl
@[simp] theorem State.addSat_bus (s : State) (k n : Nat) : (s.addSat k n).bus = s.bus.addSat k n := rfl
@[simp] theorem State.addSat_tim (s : State) (k n : Nat) : (s.addSat k n).tim = s.tim := rfl
@[simp] theorem State.addSat_gpt (s : State) (k n : Nat) : (s.addSat k n).gpt = s.gpt := rfl
@[simp] theorem State.addSat_page (s : State) (k n : Nat) : (s.addSat k n).page = s.page := rfl
@[simp] theorem State.addSat_fab (s : State) (k n : Nat) : (s.addSat k n).fab = s.fab := rfl
@[simp] theorem State.addSat_str (s : State) (k n : Nat) : (s.addSat k n).str = s.str := rfl
@[simp] theorem State.addSat_pumps (s : State) (k n : Nat) : (s.addSat k n).pumps = s.pumps := rfl
@[simp] theorem State.addSat_val (s : State) (k n : Nat) : (s.addSat k n).val = s.val := rfl
@[simp] theorem State.addSat_jrn (s : State) (k n : Nat) : (s.addSat k n).jrn = s.jrn := rfl
@[simp] theorem State.addSat_lit (s : State) (k n : Nat) : (s.addSat k n).lit = s.lit := rfl
@[simp] theorem State.addSat_comp (s : State) (k n : Nat) : (s.addSat k n).comp = s.comp := rfl
@[simp] theorem State.addSat_lds (s : State) (k n : Nat) : (s.addSat k n).lds = s.lds := rfl
@[simp] theorem State.addSat_swi (s : State) (k n : Nat) : (s.addSat k n).swi = s.swi := rfl
@[simp] theorem State.addSat_coils (s : State) (k n : Nat) : (s.addSat k n).coils = s.coils := rfl
@[simp] theorem State.addSat_can (s : State) (k n : Nat) : (s.addSat k n).can = s.can := rfl
@[simp] theorem State.addSat_cores (s : State) (k n : Nat) : (s.addSat k n).cores = s.cores := rfl
@[simp] theorem State.addSat_dky (s : State) (k n : Nat) : (s.addSat k n).dky = s.dky := rfl
@[simp] theorem State.addSat_idn (s : State) (k n : Nat) : (s.addSat k n).idn = s.idn := rfl
@[simp] theorem State.addSat_toks (s : State) (k n : Nat) : (s.addSat k n).toks = s.toks := rfl
@[simp] theorem State.addSat_epochs (s : State) (k n : Nat) : (s.addSat k n).epochs = s.epochs := rfl
@[simp] theorem State.addSat_esc (s : State) (k n : Nat) : (s.addSat k n).esc = s.esc := rfl
@[simp] theorem State.addSat_bist (s : State) (k n : Nat) : (s.addSat k n).bist = s.bist := rfl
@[simp] theorem State.addSat_power (s : State) (k n : Nat) : (s.addSat k n).power = s.power := rfl
@[simp] theorem State.addSat_upd (s : State) (k n : Nat) : (s.addSat k n).upd = s.upd := rfl
@[simp] theorem State.addSat_boot (s : State) (k n : Nat) : (s.addSat k n).boot = s.boot := rfl
@[simp] theorem State.addSat_watch (s : State) (k n : Nat) : (s.addSat k n).watch = s.watch := rfl
@[simp] theorem State.addSat_ladder (s : State) (k n : Nat) : (s.addSat k n).ladder = s.ladder := rfl

/-! State.addWrap -/

@[simp] theorem State.addWrap_pending (s : State) (k n : Nat) : (s.addWrap k n).pending = s.pending := rfl
@[simp] theorem State.addWrap_bus (s : State) (k n : Nat) : (s.addWrap k n).bus = s.bus.addWrap k n := rfl
@[simp] theorem State.addWrap_tim (s : State) (k n : Nat) : (s.addWrap k n).tim = s.tim := rfl
@[simp] theorem State.addWrap_gpt (s : State) (k n : Nat) : (s.addWrap k n).gpt = s.gpt := rfl
@[simp] theorem State.addWrap_page (s : State) (k n : Nat) : (s.addWrap k n).page = s.page := rfl
@[simp] theorem State.addWrap_fab (s : State) (k n : Nat) : (s.addWrap k n).fab = s.fab := rfl
@[simp] theorem State.addWrap_str (s : State) (k n : Nat) : (s.addWrap k n).str = s.str := rfl
@[simp] theorem State.addWrap_pumps (s : State) (k n : Nat) : (s.addWrap k n).pumps = s.pumps := rfl
@[simp] theorem State.addWrap_val (s : State) (k n : Nat) : (s.addWrap k n).val = s.val := rfl
@[simp] theorem State.addWrap_jrn (s : State) (k n : Nat) : (s.addWrap k n).jrn = s.jrn := rfl
@[simp] theorem State.addWrap_lit (s : State) (k n : Nat) : (s.addWrap k n).lit = s.lit := rfl
@[simp] theorem State.addWrap_comp (s : State) (k n : Nat) : (s.addWrap k n).comp = s.comp := rfl
@[simp] theorem State.addWrap_lds (s : State) (k n : Nat) : (s.addWrap k n).lds = s.lds := rfl
@[simp] theorem State.addWrap_swi (s : State) (k n : Nat) : (s.addWrap k n).swi = s.swi := rfl
@[simp] theorem State.addWrap_coils (s : State) (k n : Nat) : (s.addWrap k n).coils = s.coils := rfl
@[simp] theorem State.addWrap_can (s : State) (k n : Nat) : (s.addWrap k n).can = s.can := rfl
@[simp] theorem State.addWrap_cores (s : State) (k n : Nat) : (s.addWrap k n).cores = s.cores := rfl
@[simp] theorem State.addWrap_dky (s : State) (k n : Nat) : (s.addWrap k n).dky = s.dky := rfl
@[simp] theorem State.addWrap_idn (s : State) (k n : Nat) : (s.addWrap k n).idn = s.idn := rfl
@[simp] theorem State.addWrap_toks (s : State) (k n : Nat) : (s.addWrap k n).toks = s.toks := rfl
@[simp] theorem State.addWrap_epochs (s : State) (k n : Nat) : (s.addWrap k n).epochs = s.epochs := rfl
@[simp] theorem State.addWrap_esc (s : State) (k n : Nat) : (s.addWrap k n).esc = s.esc := rfl
@[simp] theorem State.addWrap_bist (s : State) (k n : Nat) : (s.addWrap k n).bist = s.bist := rfl
@[simp] theorem State.addWrap_power (s : State) (k n : Nat) : (s.addWrap k n).power = s.power := rfl
@[simp] theorem State.addWrap_upd (s : State) (k n : Nat) : (s.addWrap k n).upd = s.upd := rfl
@[simp] theorem State.addWrap_boot (s : State) (k n : Nat) : (s.addWrap k n).boot = s.boot := rfl
@[simp] theorem State.addWrap_watch (s : State) (k n : Nat) : (s.addWrap k n).watch = s.watch := rfl
@[simp] theorem State.addWrap_ladder (s : State) (k n : Nat) : (s.addWrap k n).ladder = s.ladder := rfl

/-! State.raise -/

@[simp] theorem State.raise_pending (s : State) (page bit : Nat) : (s.raise page bit).pending = s.pending := rfl
@[simp] theorem State.raise_bus (s : State) (page bit : Nat) : (s.raise page bit).bus = s.bus.raise page bit := rfl
@[simp] theorem State.raise_tim (s : State) (page bit : Nat) : (s.raise page bit).tim = s.tim := rfl
@[simp] theorem State.raise_gpt (s : State) (page bit : Nat) : (s.raise page bit).gpt = s.gpt := rfl
@[simp] theorem State.raise_page (s : State) (page bit : Nat) : (s.raise page bit).page = s.page := rfl
@[simp] theorem State.raise_fab (s : State) (page bit : Nat) : (s.raise page bit).fab = s.fab := rfl
@[simp] theorem State.raise_str (s : State) (page bit : Nat) : (s.raise page bit).str = s.str := rfl
@[simp] theorem State.raise_pumps (s : State) (page bit : Nat) : (s.raise page bit).pumps = s.pumps := rfl
@[simp] theorem State.raise_val (s : State) (page bit : Nat) : (s.raise page bit).val = s.val := rfl
@[simp] theorem State.raise_jrn (s : State) (page bit : Nat) : (s.raise page bit).jrn = s.jrn := rfl
@[simp] theorem State.raise_lit (s : State) (page bit : Nat) : (s.raise page bit).lit = s.lit := rfl
@[simp] theorem State.raise_comp (s : State) (page bit : Nat) : (s.raise page bit).comp = s.comp := rfl
@[simp] theorem State.raise_lds (s : State) (page bit : Nat) : (s.raise page bit).lds = s.lds := rfl
@[simp] theorem State.raise_swi (s : State) (page bit : Nat) : (s.raise page bit).swi = s.swi := rfl
@[simp] theorem State.raise_coils (s : State) (page bit : Nat) : (s.raise page bit).coils = s.coils := rfl
@[simp] theorem State.raise_can (s : State) (page bit : Nat) : (s.raise page bit).can = s.can := rfl
@[simp] theorem State.raise_cores (s : State) (page bit : Nat) : (s.raise page bit).cores = s.cores := rfl
@[simp] theorem State.raise_dky (s : State) (page bit : Nat) : (s.raise page bit).dky = s.dky := rfl
@[simp] theorem State.raise_idn (s : State) (page bit : Nat) : (s.raise page bit).idn = s.idn := rfl
@[simp] theorem State.raise_toks (s : State) (page bit : Nat) : (s.raise page bit).toks = s.toks := rfl
@[simp] theorem State.raise_epochs (s : State) (page bit : Nat) : (s.raise page bit).epochs = s.epochs := rfl
@[simp] theorem State.raise_esc (s : State) (page bit : Nat) : (s.raise page bit).esc = s.esc := rfl
@[simp] theorem State.raise_bist (s : State) (page bit : Nat) : (s.raise page bit).bist = s.bist := rfl
@[simp] theorem State.raise_power (s : State) (page bit : Nat) : (s.raise page bit).power = s.power := rfl
@[simp] theorem State.raise_upd (s : State) (page bit : Nat) : (s.raise page bit).upd = s.upd := rfl
@[simp] theorem State.raise_boot (s : State) (page bit : Nat) : (s.raise page bit).boot = s.boot := rfl
@[simp] theorem State.raise_watch (s : State) (page bit : Nat) : (s.raise page bit).watch = s.watch := rfl
@[simp] theorem State.raise_ladder (s : State) (page bit : Nat) : (s.raise page bit).ladder = s.ladder := rfl

/-! State.raiseAlso -/

@[simp] theorem State.raiseAlso_pending (s : State) (page bit : Nat) (extra : List Nat) : (s.raiseAlso page bit extra).pending = s.pending := rfl
@[simp] theorem State.raiseAlso_bus (s : State) (page bit : Nat) (extra : List Nat) : (s.raiseAlso page bit extra).bus = s.bus.raiseAlso page bit extra := rfl
@[simp] theorem State.raiseAlso_tim (s : State) (page bit : Nat) (extra : List Nat) : (s.raiseAlso page bit extra).tim = s.tim := rfl
@[simp] theorem State.raiseAlso_gpt (s : State) (page bit : Nat) (extra : List Nat) : (s.raiseAlso page bit extra).gpt = s.gpt := rfl
@[simp] theorem State.raiseAlso_page (s : State) (page bit : Nat) (extra : List Nat) : (s.raiseAlso page bit extra).page = s.page := rfl
@[simp] theorem State.raiseAlso_fab (s : State) (page bit : Nat) (extra : List Nat) : (s.raiseAlso page bit extra).fab = s.fab := rfl
@[simp] theorem State.raiseAlso_str (s : State) (page bit : Nat) (extra : List Nat) : (s.raiseAlso page bit extra).str = s.str := rfl
@[simp] theorem State.raiseAlso_pumps (s : State) (page bit : Nat) (extra : List Nat) : (s.raiseAlso page bit extra).pumps = s.pumps := rfl
@[simp] theorem State.raiseAlso_val (s : State) (page bit : Nat) (extra : List Nat) : (s.raiseAlso page bit extra).val = s.val := rfl
@[simp] theorem State.raiseAlso_jrn (s : State) (page bit : Nat) (extra : List Nat) : (s.raiseAlso page bit extra).jrn = s.jrn := rfl
@[simp] theorem State.raiseAlso_lit (s : State) (page bit : Nat) (extra : List Nat) : (s.raiseAlso page bit extra).lit = s.lit := rfl
@[simp] theorem State.raiseAlso_comp (s : State) (page bit : Nat) (extra : List Nat) : (s.raiseAlso page bit extra).comp = s.comp := rfl
@[simp] theorem State.raiseAlso_lds (s : State) (page bit : Nat) (extra : List Nat) : (s.raiseAlso page bit extra).lds = s.lds := rfl
@[simp] theorem State.raiseAlso_swi (s : State) (page bit : Nat) (extra : List Nat) : (s.raiseAlso page bit extra).swi = s.swi := rfl
@[simp] theorem State.raiseAlso_coils (s : State) (page bit : Nat) (extra : List Nat) : (s.raiseAlso page bit extra).coils = s.coils := rfl
@[simp] theorem State.raiseAlso_can (s : State) (page bit : Nat) (extra : List Nat) : (s.raiseAlso page bit extra).can = s.can := rfl
@[simp] theorem State.raiseAlso_cores (s : State) (page bit : Nat) (extra : List Nat) : (s.raiseAlso page bit extra).cores = s.cores := rfl
@[simp] theorem State.raiseAlso_dky (s : State) (page bit : Nat) (extra : List Nat) : (s.raiseAlso page bit extra).dky = s.dky := rfl
@[simp] theorem State.raiseAlso_idn (s : State) (page bit : Nat) (extra : List Nat) : (s.raiseAlso page bit extra).idn = s.idn := rfl
@[simp] theorem State.raiseAlso_toks (s : State) (page bit : Nat) (extra : List Nat) : (s.raiseAlso page bit extra).toks = s.toks := rfl
@[simp] theorem State.raiseAlso_epochs (s : State) (page bit : Nat) (extra : List Nat) : (s.raiseAlso page bit extra).epochs = s.epochs := rfl
@[simp] theorem State.raiseAlso_esc (s : State) (page bit : Nat) (extra : List Nat) : (s.raiseAlso page bit extra).esc = s.esc := rfl
@[simp] theorem State.raiseAlso_bist (s : State) (page bit : Nat) (extra : List Nat) : (s.raiseAlso page bit extra).bist = s.bist := rfl
@[simp] theorem State.raiseAlso_power (s : State) (page bit : Nat) (extra : List Nat) : (s.raiseAlso page bit extra).power = s.power := rfl
@[simp] theorem State.raiseAlso_upd (s : State) (page bit : Nat) (extra : List Nat) : (s.raiseAlso page bit extra).upd = s.upd := rfl
@[simp] theorem State.raiseAlso_boot (s : State) (page bit : Nat) (extra : List Nat) : (s.raiseAlso page bit extra).boot = s.boot := rfl
@[simp] theorem State.raiseAlso_watch (s : State) (page bit : Nat) (extra : List Nat) : (s.raiseAlso page bit extra).watch = s.watch := rfl
@[simp] theorem State.raiseAlso_ladder (s : State) (page bit : Nat) (extra : List Nat) : (s.raiseAlso page bit extra).ladder = s.ladder := rfl

/-! State.raiseEntry -/

@[simp] theorem State.raiseEntry_pending (s : State) (blk : Block) (bit entry : Nat) : (s.raiseEntry blk bit entry).pending = s.pending := rfl
@[simp] theorem State.raiseEntry_bus (s : State) (blk : Block) (bit entry : Nat) : (s.raiseEntry blk bit entry).bus = s.bus.raiseEntry blk bit entry := rfl
@[simp] theorem State.raiseEntry_tim (s : State) (blk : Block) (bit entry : Nat) : (s.raiseEntry blk bit entry).tim = s.tim := rfl
@[simp] theorem State.raiseEntry_gpt (s : State) (blk : Block) (bit entry : Nat) : (s.raiseEntry blk bit entry).gpt = s.gpt := rfl
@[simp] theorem State.raiseEntry_page (s : State) (blk : Block) (bit entry : Nat) : (s.raiseEntry blk bit entry).page = s.page := rfl
@[simp] theorem State.raiseEntry_fab (s : State) (blk : Block) (bit entry : Nat) : (s.raiseEntry blk bit entry).fab = s.fab := rfl
@[simp] theorem State.raiseEntry_str (s : State) (blk : Block) (bit entry : Nat) : (s.raiseEntry blk bit entry).str = s.str := rfl
@[simp] theorem State.raiseEntry_pumps (s : State) (blk : Block) (bit entry : Nat) : (s.raiseEntry blk bit entry).pumps = s.pumps := rfl
@[simp] theorem State.raiseEntry_val (s : State) (blk : Block) (bit entry : Nat) : (s.raiseEntry blk bit entry).val = s.val := rfl
@[simp] theorem State.raiseEntry_jrn (s : State) (blk : Block) (bit entry : Nat) : (s.raiseEntry blk bit entry).jrn = s.jrn := rfl
@[simp] theorem State.raiseEntry_lit (s : State) (blk : Block) (bit entry : Nat) : (s.raiseEntry blk bit entry).lit = s.lit := rfl
@[simp] theorem State.raiseEntry_comp (s : State) (blk : Block) (bit entry : Nat) : (s.raiseEntry blk bit entry).comp = s.comp := rfl
@[simp] theorem State.raiseEntry_lds (s : State) (blk : Block) (bit entry : Nat) : (s.raiseEntry blk bit entry).lds = s.lds := rfl
@[simp] theorem State.raiseEntry_swi (s : State) (blk : Block) (bit entry : Nat) : (s.raiseEntry blk bit entry).swi = s.swi := rfl
@[simp] theorem State.raiseEntry_coils (s : State) (blk : Block) (bit entry : Nat) : (s.raiseEntry blk bit entry).coils = s.coils := rfl
@[simp] theorem State.raiseEntry_can (s : State) (blk : Block) (bit entry : Nat) : (s.raiseEntry blk bit entry).can = s.can := rfl
@[simp] theorem State.raiseEntry_cores (s : State) (blk : Block) (bit entry : Nat) : (s.raiseEntry blk bit entry).cores = s.cores := rfl
@[simp] theorem State.raiseEntry_dky (s : State) (blk : Block) (bit entry : Nat) : (s.raiseEntry blk bit entry).dky = s.dky := rfl
@[simp] theorem State.raiseEntry_idn (s : State) (blk : Block) (bit entry : Nat) : (s.raiseEntry blk bit entry).idn = s.idn := rfl
@[simp] theorem State.raiseEntry_toks (s : State) (blk : Block) (bit entry : Nat) : (s.raiseEntry blk bit entry).toks = s.toks := rfl
@[simp] theorem State.raiseEntry_epochs (s : State) (blk : Block) (bit entry : Nat) : (s.raiseEntry blk bit entry).epochs = s.epochs := rfl
@[simp] theorem State.raiseEntry_esc (s : State) (blk : Block) (bit entry : Nat) : (s.raiseEntry blk bit entry).esc = s.esc := rfl
@[simp] theorem State.raiseEntry_bist (s : State) (blk : Block) (bit entry : Nat) : (s.raiseEntry blk bit entry).bist = s.bist := rfl
@[simp] theorem State.raiseEntry_power (s : State) (blk : Block) (bit entry : Nat) : (s.raiseEntry blk bit entry).power = s.power := rfl
@[simp] theorem State.raiseEntry_upd (s : State) (blk : Block) (bit entry : Nat) : (s.raiseEntry blk bit entry).upd = s.upd := rfl
@[simp] theorem State.raiseEntry_boot (s : State) (blk : Block) (bit entry : Nat) : (s.raiseEntry blk bit entry).boot = s.boot := rfl
@[simp] theorem State.raiseEntry_watch (s : State) (blk : Block) (bit entry : Nat) : (s.raiseEntry blk bit entry).watch = s.watch := rfl
@[simp] theorem State.raiseEntry_ladder (s : State) (blk : Block) (bit entry : Nat) : (s.raiseEntry blk bit entry).ladder = s.ladder := rfl

/-! State.cfgErrEntry -/

@[simp] theorem State.cfgErrEntry_pending (s : State) (blk : Block) (entry : Nat) : (s.cfgErrEntry blk entry).pending = s.pending := rfl
@[simp] theorem State.cfgErrEntry_bus (s : State) (blk : Block) (entry : Nat) : (s.cfgErrEntry blk entry).bus = s.bus.cfgErrEntry blk entry := rfl
@[simp] theorem State.cfgErrEntry_tim (s : State) (blk : Block) (entry : Nat) : (s.cfgErrEntry blk entry).tim = s.tim := rfl
@[simp] theorem State.cfgErrEntry_gpt (s : State) (blk : Block) (entry : Nat) : (s.cfgErrEntry blk entry).gpt = s.gpt := rfl
@[simp] theorem State.cfgErrEntry_page (s : State) (blk : Block) (entry : Nat) : (s.cfgErrEntry blk entry).page = s.page := rfl
@[simp] theorem State.cfgErrEntry_fab (s : State) (blk : Block) (entry : Nat) : (s.cfgErrEntry blk entry).fab = s.fab := rfl
@[simp] theorem State.cfgErrEntry_str (s : State) (blk : Block) (entry : Nat) : (s.cfgErrEntry blk entry).str = s.str := rfl
@[simp] theorem State.cfgErrEntry_pumps (s : State) (blk : Block) (entry : Nat) : (s.cfgErrEntry blk entry).pumps = s.pumps := rfl
@[simp] theorem State.cfgErrEntry_val (s : State) (blk : Block) (entry : Nat) : (s.cfgErrEntry blk entry).val = s.val := rfl
@[simp] theorem State.cfgErrEntry_jrn (s : State) (blk : Block) (entry : Nat) : (s.cfgErrEntry blk entry).jrn = s.jrn := rfl
@[simp] theorem State.cfgErrEntry_lit (s : State) (blk : Block) (entry : Nat) : (s.cfgErrEntry blk entry).lit = s.lit := rfl
@[simp] theorem State.cfgErrEntry_comp (s : State) (blk : Block) (entry : Nat) : (s.cfgErrEntry blk entry).comp = s.comp := rfl
@[simp] theorem State.cfgErrEntry_lds (s : State) (blk : Block) (entry : Nat) : (s.cfgErrEntry blk entry).lds = s.lds := rfl
@[simp] theorem State.cfgErrEntry_swi (s : State) (blk : Block) (entry : Nat) : (s.cfgErrEntry blk entry).swi = s.swi := rfl
@[simp] theorem State.cfgErrEntry_coils (s : State) (blk : Block) (entry : Nat) : (s.cfgErrEntry blk entry).coils = s.coils := rfl
@[simp] theorem State.cfgErrEntry_can (s : State) (blk : Block) (entry : Nat) : (s.cfgErrEntry blk entry).can = s.can := rfl
@[simp] theorem State.cfgErrEntry_cores (s : State) (blk : Block) (entry : Nat) : (s.cfgErrEntry blk entry).cores = s.cores := rfl
@[simp] theorem State.cfgErrEntry_dky (s : State) (blk : Block) (entry : Nat) : (s.cfgErrEntry blk entry).dky = s.dky := rfl
@[simp] theorem State.cfgErrEntry_idn (s : State) (blk : Block) (entry : Nat) : (s.cfgErrEntry blk entry).idn = s.idn := rfl
@[simp] theorem State.cfgErrEntry_toks (s : State) (blk : Block) (entry : Nat) : (s.cfgErrEntry blk entry).toks = s.toks := rfl
@[simp] theorem State.cfgErrEntry_epochs (s : State) (blk : Block) (entry : Nat) : (s.cfgErrEntry blk entry).epochs = s.epochs := rfl
@[simp] theorem State.cfgErrEntry_esc (s : State) (blk : Block) (entry : Nat) : (s.cfgErrEntry blk entry).esc = s.esc := rfl
@[simp] theorem State.cfgErrEntry_bist (s : State) (blk : Block) (entry : Nat) : (s.cfgErrEntry blk entry).bist = s.bist := rfl
@[simp] theorem State.cfgErrEntry_power (s : State) (blk : Block) (entry : Nat) : (s.cfgErrEntry blk entry).power = s.power := rfl
@[simp] theorem State.cfgErrEntry_upd (s : State) (blk : Block) (entry : Nat) : (s.cfgErrEntry blk entry).upd = s.upd := rfl
@[simp] theorem State.cfgErrEntry_boot (s : State) (blk : Block) (entry : Nat) : (s.cfgErrEntry blk entry).boot = s.boot := rfl
@[simp] theorem State.cfgErrEntry_watch (s : State) (blk : Block) (entry : Nat) : (s.cfgErrEntry blk entry).watch = s.watch := rfl
@[simp] theorem State.cfgErrEntry_ladder (s : State) (blk : Block) (entry : Nat) : (s.cfgErrEntry blk entry).ladder = s.ladder := rfl

/-! State.cfgErr -/

@[simp] theorem State.cfgErr_pending (s : State) (page : Nat) : (s.cfgErr page).pending = s.pending := rfl
@[simp] theorem State.cfgErr_bus (s : State) (page : Nat) : (s.cfgErr page).bus = s.bus.cfgErr page := rfl
@[simp] theorem State.cfgErr_tim (s : State) (page : Nat) : (s.cfgErr page).tim = s.tim := rfl
@[simp] theorem State.cfgErr_gpt (s : State) (page : Nat) : (s.cfgErr page).gpt = s.gpt := rfl
@[simp] theorem State.cfgErr_page (s : State) (page : Nat) : (s.cfgErr page).page = s.page := rfl
@[simp] theorem State.cfgErr_fab (s : State) (page : Nat) : (s.cfgErr page).fab = s.fab := rfl
@[simp] theorem State.cfgErr_str (s : State) (page : Nat) : (s.cfgErr page).str = s.str := rfl
@[simp] theorem State.cfgErr_pumps (s : State) (page : Nat) : (s.cfgErr page).pumps = s.pumps := rfl
@[simp] theorem State.cfgErr_val (s : State) (page : Nat) : (s.cfgErr page).val = s.val := rfl
@[simp] theorem State.cfgErr_jrn (s : State) (page : Nat) : (s.cfgErr page).jrn = s.jrn := rfl
@[simp] theorem State.cfgErr_lit (s : State) (page : Nat) : (s.cfgErr page).lit = s.lit := rfl
@[simp] theorem State.cfgErr_comp (s : State) (page : Nat) : (s.cfgErr page).comp = s.comp := rfl
@[simp] theorem State.cfgErr_lds (s : State) (page : Nat) : (s.cfgErr page).lds = s.lds := rfl
@[simp] theorem State.cfgErr_swi (s : State) (page : Nat) : (s.cfgErr page).swi = s.swi := rfl
@[simp] theorem State.cfgErr_coils (s : State) (page : Nat) : (s.cfgErr page).coils = s.coils := rfl
@[simp] theorem State.cfgErr_can (s : State) (page : Nat) : (s.cfgErr page).can = s.can := rfl
@[simp] theorem State.cfgErr_cores (s : State) (page : Nat) : (s.cfgErr page).cores = s.cores := rfl
@[simp] theorem State.cfgErr_dky (s : State) (page : Nat) : (s.cfgErr page).dky = s.dky := rfl
@[simp] theorem State.cfgErr_idn (s : State) (page : Nat) : (s.cfgErr page).idn = s.idn := rfl
@[simp] theorem State.cfgErr_toks (s : State) (page : Nat) : (s.cfgErr page).toks = s.toks := rfl
@[simp] theorem State.cfgErr_epochs (s : State) (page : Nat) : (s.cfgErr page).epochs = s.epochs := rfl
@[simp] theorem State.cfgErr_esc (s : State) (page : Nat) : (s.cfgErr page).esc = s.esc := rfl
@[simp] theorem State.cfgErr_bist (s : State) (page : Nat) : (s.cfgErr page).bist = s.bist := rfl
@[simp] theorem State.cfgErr_power (s : State) (page : Nat) : (s.cfgErr page).power = s.power := rfl
@[simp] theorem State.cfgErr_upd (s : State) (page : Nat) : (s.cfgErr page).upd = s.upd := rfl
@[simp] theorem State.cfgErr_boot (s : State) (page : Nat) : (s.cfgErr page).boot = s.boot := rfl
@[simp] theorem State.cfgErr_watch (s : State) (page : Nat) : (s.cfgErr page).watch = s.watch := rfl
@[simp] theorem State.cfgErr_ladder (s : State) (page : Nat) : (s.cfgErr page).ladder = s.ladder := rfl

/-! State.fault -/

@[simp] theorem State.fault_pending (s : State) (fs : Nat) (u : FaultAt) : (s.fault fs u).pending = s.pending := rfl
@[simp] theorem State.fault_bus (s : State) (fs : Nat) (u : FaultAt) : (s.fault fs u).bus = s.bus.fault fs u := rfl
@[simp] theorem State.fault_tim (s : State) (fs : Nat) (u : FaultAt) : (s.fault fs u).tim = s.tim := rfl
@[simp] theorem State.fault_gpt (s : State) (fs : Nat) (u : FaultAt) : (s.fault fs u).gpt = s.gpt := rfl
@[simp] theorem State.fault_page (s : State) (fs : Nat) (u : FaultAt) : (s.fault fs u).page = s.page := rfl
@[simp] theorem State.fault_fab (s : State) (fs : Nat) (u : FaultAt) : (s.fault fs u).fab = s.fab := rfl
@[simp] theorem State.fault_str (s : State) (fs : Nat) (u : FaultAt) : (s.fault fs u).str = s.str := rfl
@[simp] theorem State.fault_pumps (s : State) (fs : Nat) (u : FaultAt) : (s.fault fs u).pumps = s.pumps := rfl
@[simp] theorem State.fault_val (s : State) (fs : Nat) (u : FaultAt) : (s.fault fs u).val = s.val := rfl
@[simp] theorem State.fault_jrn (s : State) (fs : Nat) (u : FaultAt) : (s.fault fs u).jrn = s.jrn := rfl
@[simp] theorem State.fault_lit (s : State) (fs : Nat) (u : FaultAt) : (s.fault fs u).lit = s.lit := rfl
@[simp] theorem State.fault_comp (s : State) (fs : Nat) (u : FaultAt) : (s.fault fs u).comp = s.comp := rfl
@[simp] theorem State.fault_lds (s : State) (fs : Nat) (u : FaultAt) : (s.fault fs u).lds = s.lds := rfl
@[simp] theorem State.fault_swi (s : State) (fs : Nat) (u : FaultAt) : (s.fault fs u).swi = s.swi := rfl
@[simp] theorem State.fault_coils (s : State) (fs : Nat) (u : FaultAt) : (s.fault fs u).coils = s.coils := rfl
@[simp] theorem State.fault_can (s : State) (fs : Nat) (u : FaultAt) : (s.fault fs u).can = s.can := rfl
@[simp] theorem State.fault_cores (s : State) (fs : Nat) (u : FaultAt) : (s.fault fs u).cores = s.cores := rfl
@[simp] theorem State.fault_dky (s : State) (fs : Nat) (u : FaultAt) : (s.fault fs u).dky = s.dky := rfl
@[simp] theorem State.fault_idn (s : State) (fs : Nat) (u : FaultAt) : (s.fault fs u).idn = s.idn := rfl
@[simp] theorem State.fault_toks (s : State) (fs : Nat) (u : FaultAt) : (s.fault fs u).toks = s.toks := rfl
@[simp] theorem State.fault_epochs (s : State) (fs : Nat) (u : FaultAt) : (s.fault fs u).epochs = s.epochs := rfl
@[simp] theorem State.fault_esc (s : State) (fs : Nat) (u : FaultAt) : (s.fault fs u).esc = s.esc := rfl
@[simp] theorem State.fault_bist (s : State) (fs : Nat) (u : FaultAt) : (s.fault fs u).bist = s.bist := rfl
@[simp] theorem State.fault_power (s : State) (fs : Nat) (u : FaultAt) : (s.fault fs u).power = s.power := rfl
@[simp] theorem State.fault_upd (s : State) (fs : Nat) (u : FaultAt) : (s.fault fs u).upd = s.upd := rfl
@[simp] theorem State.fault_boot (s : State) (fs : Nat) (u : FaultAt) : (s.fault fs u).boot = s.boot := rfl
@[simp] theorem State.fault_watch (s : State) (fs : Nat) (u : FaultAt) : (s.fault fs u).watch = s.watch := rfl
@[simp] theorem State.fault_ladder (s : State) (fs : Nat) (u : FaultAt) : (s.fault fs u).ladder = s.ladder := rfl

/-! State.arm -/

@[simp] theorem State.arm_pending (s : State) (t clks : Nat) : (s.arm t clks).pending = s.pending := rfl
@[simp] theorem State.arm_bus (s : State) (t clks : Nat) : (s.arm t clks).bus = s.bus.arm t clks := rfl
@[simp] theorem State.arm_tim (s : State) (t clks : Nat) : (s.arm t clks).tim = s.tim := rfl
@[simp] theorem State.arm_gpt (s : State) (t clks : Nat) : (s.arm t clks).gpt = s.gpt := rfl
@[simp] theorem State.arm_page (s : State) (t clks : Nat) : (s.arm t clks).page = s.page := rfl
@[simp] theorem State.arm_fab (s : State) (t clks : Nat) : (s.arm t clks).fab = s.fab := rfl
@[simp] theorem State.arm_str (s : State) (t clks : Nat) : (s.arm t clks).str = s.str := rfl
@[simp] theorem State.arm_pumps (s : State) (t clks : Nat) : (s.arm t clks).pumps = s.pumps := rfl
@[simp] theorem State.arm_val (s : State) (t clks : Nat) : (s.arm t clks).val = s.val := rfl
@[simp] theorem State.arm_jrn (s : State) (t clks : Nat) : (s.arm t clks).jrn = s.jrn := rfl
@[simp] theorem State.arm_lit (s : State) (t clks : Nat) : (s.arm t clks).lit = s.lit := rfl
@[simp] theorem State.arm_comp (s : State) (t clks : Nat) : (s.arm t clks).comp = s.comp := rfl
@[simp] theorem State.arm_lds (s : State) (t clks : Nat) : (s.arm t clks).lds = s.lds := rfl
@[simp] theorem State.arm_swi (s : State) (t clks : Nat) : (s.arm t clks).swi = s.swi := rfl
@[simp] theorem State.arm_coils (s : State) (t clks : Nat) : (s.arm t clks).coils = s.coils := rfl
@[simp] theorem State.arm_can (s : State) (t clks : Nat) : (s.arm t clks).can = s.can := rfl
@[simp] theorem State.arm_cores (s : State) (t clks : Nat) : (s.arm t clks).cores = s.cores := rfl
@[simp] theorem State.arm_dky (s : State) (t clks : Nat) : (s.arm t clks).dky = s.dky := rfl
@[simp] theorem State.arm_idn (s : State) (t clks : Nat) : (s.arm t clks).idn = s.idn := rfl
@[simp] theorem State.arm_toks (s : State) (t clks : Nat) : (s.arm t clks).toks = s.toks := rfl
@[simp] theorem State.arm_epochs (s : State) (t clks : Nat) : (s.arm t clks).epochs = s.epochs := rfl
@[simp] theorem State.arm_esc (s : State) (t clks : Nat) : (s.arm t clks).esc = s.esc := rfl
@[simp] theorem State.arm_bist (s : State) (t clks : Nat) : (s.arm t clks).bist = s.bist := rfl
@[simp] theorem State.arm_power (s : State) (t clks : Nat) : (s.arm t clks).power = s.power := rfl
@[simp] theorem State.arm_upd (s : State) (t clks : Nat) : (s.arm t clks).upd = s.upd := rfl
@[simp] theorem State.arm_boot (s : State) (t clks : Nat) : (s.arm t clks).boot = s.boot := rfl
@[simp] theorem State.arm_watch (s : State) (t clks : Nat) : (s.arm t clks).watch = s.watch := rfl
@[simp] theorem State.arm_ladder (s : State) (t clks : Nat) : (s.arm t clks).ladder = s.ladder := rfl

/-! State.disarm -/

@[simp] theorem State.disarm_pending (s : State) (t : Nat) : (s.disarm t).pending = s.pending := rfl
@[simp] theorem State.disarm_bus (s : State) (t : Nat) : (s.disarm t).bus = s.bus.disarm t := rfl
@[simp] theorem State.disarm_tim (s : State) (t : Nat) : (s.disarm t).tim = s.tim := rfl
@[simp] theorem State.disarm_gpt (s : State) (t : Nat) : (s.disarm t).gpt = s.gpt := rfl
@[simp] theorem State.disarm_page (s : State) (t : Nat) : (s.disarm t).page = s.page := rfl
@[simp] theorem State.disarm_fab (s : State) (t : Nat) : (s.disarm t).fab = s.fab := rfl
@[simp] theorem State.disarm_str (s : State) (t : Nat) : (s.disarm t).str = s.str := rfl
@[simp] theorem State.disarm_pumps (s : State) (t : Nat) : (s.disarm t).pumps = s.pumps := rfl
@[simp] theorem State.disarm_val (s : State) (t : Nat) : (s.disarm t).val = s.val := rfl
@[simp] theorem State.disarm_jrn (s : State) (t : Nat) : (s.disarm t).jrn = s.jrn := rfl
@[simp] theorem State.disarm_lit (s : State) (t : Nat) : (s.disarm t).lit = s.lit := rfl
@[simp] theorem State.disarm_comp (s : State) (t : Nat) : (s.disarm t).comp = s.comp := rfl
@[simp] theorem State.disarm_lds (s : State) (t : Nat) : (s.disarm t).lds = s.lds := rfl
@[simp] theorem State.disarm_swi (s : State) (t : Nat) : (s.disarm t).swi = s.swi := rfl
@[simp] theorem State.disarm_coils (s : State) (t : Nat) : (s.disarm t).coils = s.coils := rfl
@[simp] theorem State.disarm_can (s : State) (t : Nat) : (s.disarm t).can = s.can := rfl
@[simp] theorem State.disarm_cores (s : State) (t : Nat) : (s.disarm t).cores = s.cores := rfl
@[simp] theorem State.disarm_dky (s : State) (t : Nat) : (s.disarm t).dky = s.dky := rfl
@[simp] theorem State.disarm_idn (s : State) (t : Nat) : (s.disarm t).idn = s.idn := rfl
@[simp] theorem State.disarm_toks (s : State) (t : Nat) : (s.disarm t).toks = s.toks := rfl
@[simp] theorem State.disarm_epochs (s : State) (t : Nat) : (s.disarm t).epochs = s.epochs := rfl
@[simp] theorem State.disarm_esc (s : State) (t : Nat) : (s.disarm t).esc = s.esc := rfl
@[simp] theorem State.disarm_bist (s : State) (t : Nat) : (s.disarm t).bist = s.bist := rfl
@[simp] theorem State.disarm_power (s : State) (t : Nat) : (s.disarm t).power = s.power := rfl
@[simp] theorem State.disarm_upd (s : State) (t : Nat) : (s.disarm t).upd = s.upd := rfl
@[simp] theorem State.disarm_boot (s : State) (t : Nat) : (s.disarm t).boot = s.boot := rfl
@[simp] theorem State.disarm_watch (s : State) (t : Nat) : (s.disarm t).watch = s.watch := rfl
@[simp] theorem State.disarm_ladder (s : State) (t : Nat) : (s.disarm t).ladder = s.ladder := rfl

/-! State.emit -/

@[simp] theorem State.emit_pending (s : State) (o : Out) : (s.emit o).pending = s.pending := rfl
@[simp] theorem State.emit_bus (s : State) (o : Out) : (s.emit o).bus = s.bus.emit o := rfl
@[simp] theorem State.emit_tim (s : State) (o : Out) : (s.emit o).tim = s.tim := rfl
@[simp] theorem State.emit_gpt (s : State) (o : Out) : (s.emit o).gpt = s.gpt := rfl
@[simp] theorem State.emit_page (s : State) (o : Out) : (s.emit o).page = s.page := rfl
@[simp] theorem State.emit_fab (s : State) (o : Out) : (s.emit o).fab = s.fab := rfl
@[simp] theorem State.emit_str (s : State) (o : Out) : (s.emit o).str = s.str := rfl
@[simp] theorem State.emit_pumps (s : State) (o : Out) : (s.emit o).pumps = s.pumps := rfl
@[simp] theorem State.emit_val (s : State) (o : Out) : (s.emit o).val = s.val := rfl
@[simp] theorem State.emit_jrn (s : State) (o : Out) : (s.emit o).jrn = s.jrn := rfl
@[simp] theorem State.emit_lit (s : State) (o : Out) : (s.emit o).lit = s.lit := rfl
@[simp] theorem State.emit_comp (s : State) (o : Out) : (s.emit o).comp = s.comp := rfl
@[simp] theorem State.emit_lds (s : State) (o : Out) : (s.emit o).lds = s.lds := rfl
@[simp] theorem State.emit_swi (s : State) (o : Out) : (s.emit o).swi = s.swi := rfl
@[simp] theorem State.emit_coils (s : State) (o : Out) : (s.emit o).coils = s.coils := rfl
@[simp] theorem State.emit_can (s : State) (o : Out) : (s.emit o).can = s.can := rfl
@[simp] theorem State.emit_cores (s : State) (o : Out) : (s.emit o).cores = s.cores := rfl
@[simp] theorem State.emit_dky (s : State) (o : Out) : (s.emit o).dky = s.dky := rfl
@[simp] theorem State.emit_idn (s : State) (o : Out) : (s.emit o).idn = s.idn := rfl
@[simp] theorem State.emit_toks (s : State) (o : Out) : (s.emit o).toks = s.toks := rfl
@[simp] theorem State.emit_epochs (s : State) (o : Out) : (s.emit o).epochs = s.epochs := rfl
@[simp] theorem State.emit_esc (s : State) (o : Out) : (s.emit o).esc = s.esc := rfl
@[simp] theorem State.emit_bist (s : State) (o : Out) : (s.emit o).bist = s.bist := rfl
@[simp] theorem State.emit_power (s : State) (o : Out) : (s.emit o).power = s.power := rfl
@[simp] theorem State.emit_upd (s : State) (o : Out) : (s.emit o).upd = s.upd := rfl
@[simp] theorem State.emit_boot (s : State) (o : Out) : (s.emit o).boot = s.boot := rfl
@[simp] theorem State.emit_watch (s : State) (o : Out) : (s.emit o).watch = s.watch := rfl
@[simp] theorem State.emit_ladder (s : State) (o : Out) : (s.emit o).ladder = s.ladder := rfl

/-! Bus.wr -/

@[simp] theorem Bus.wr_now (b : Bus) (k v : Nat) : (b.wr k v).now = b.now := rfl
@[simp] theorem Bus.wr_wall (b : Bus) (k v : Nat) : (b.wr k v).wall = b.wall := rfl
@[simp] theorem Bus.wr_addend (b : Bus) (k v : Nat) : (b.wr k v).addend = b.addend := rfl
@[simp] theorem Bus.wr_shadow (b : Bus) (k v : Nat) : (b.wr k v).shadow = b.shadow := rfl
@[simp] theorem Bus.wr_timers (b : Bus) (k v : Nat) : (b.wr k v).timers = b.timers := rfl
@[simp] theorem Bus.wr_free (b : Bus) (k v : Nat) : (b.wr k v).free = b.free := rfl
@[simp] theorem Bus.wr_out (b : Bus) (k v : Nat) : (b.wr k v).out = b.out := rfl
@[simp] theorem Bus.wr_seq (b : Bus) (k v : Nat) : (b.wr k v).seq = b.seq := rfl
@[simp] theorem Bus.wr_grants (b : Bus) (k v : Nat) : (b.wr k v).grants = b.grants := rfl
@[simp] theorem Bus.wr_sessions (b : Bus) (k v : Nat) : (b.wr k v).sessions = b.sessions := rfl
@[simp] theorem Bus.wr_netHold (b : Bus) (k v : Nat) : (b.wr k v).netHold = b.netHold := rfl
@[simp] theorem Bus.wr_vfEnable (b : Bus) (k v : Nat) : (b.wr k v).vfEnable = b.vfEnable := rfl
@[simp] theorem Bus.wr_numVfs (b : Bus) (k v : Nat) : (b.wr k v).numVfs = b.numVfs := rfl
@[simp] theorem Bus.wr_pcieUp (b : Bus) (k v : Nat) : (b.wr k v).pcieUp = b.pcieUp := rfl
@[simp] theorem Bus.wr_halted (b : Bus) (k v : Nat) : (b.wr k v).halted = b.halted := rfl
@[simp] theorem Bus.wr_evt (b : Bus) (k v : Nat) : (b.wr k v).evt = b.evt := rfl
@[simp] theorem Bus.wr_kdmem (b : Bus) (k v : Nat) : (b.wr k v).kdmem = b.kdmem := rfl
@[simp] theorem Bus.wr_keeper (b : Bus) (k v : Nat) : (b.wr k v).keeper = b.keeper := rfl
@[simp] theorem Bus.wr_recs (b : Bus) (k v : Nat) : (b.wr k v).recs = b.recs := rfl
@[simp] theorem Bus.wr_units (b : Bus) (k v : Nat) : (b.wr k v).units = b.units := rfl
@[simp] theorem Bus.wr_grantsOn (b : Bus) (k v : Nat) : (b.wr k v).grantsOn = b.grantsOn := rfl
@[simp] theorem Bus.wr_corr (b : Bus) (k v : Nat) : (b.wr k v).corr = b.corr := rfl
@[simp] theorem Bus.wr_msixLast (b : Bus) (k v : Nat) : (b.wr k v).msixLast = b.msixLast := rfl

/-! Bus.setFld -/

@[simp] theorem Bus.setFld_now (b : Bus) (k lo w v : Nat) : (b.setFld k lo w v).now = b.now := rfl
@[simp] theorem Bus.setFld_wall (b : Bus) (k lo w v : Nat) : (b.setFld k lo w v).wall = b.wall := rfl
@[simp] theorem Bus.setFld_addend (b : Bus) (k lo w v : Nat) : (b.setFld k lo w v).addend = b.addend := rfl
@[simp] theorem Bus.setFld_shadow (b : Bus) (k lo w v : Nat) : (b.setFld k lo w v).shadow = b.shadow := rfl
@[simp] theorem Bus.setFld_timers (b : Bus) (k lo w v : Nat) : (b.setFld k lo w v).timers = b.timers := rfl
@[simp] theorem Bus.setFld_free (b : Bus) (k lo w v : Nat) : (b.setFld k lo w v).free = b.free := rfl
@[simp] theorem Bus.setFld_out (b : Bus) (k lo w v : Nat) : (b.setFld k lo w v).out = b.out := rfl
@[simp] theorem Bus.setFld_seq (b : Bus) (k lo w v : Nat) : (b.setFld k lo w v).seq = b.seq := rfl
@[simp] theorem Bus.setFld_grants (b : Bus) (k lo w v : Nat) : (b.setFld k lo w v).grants = b.grants := rfl
@[simp] theorem Bus.setFld_sessions (b : Bus) (k lo w v : Nat) : (b.setFld k lo w v).sessions = b.sessions := rfl
@[simp] theorem Bus.setFld_netHold (b : Bus) (k lo w v : Nat) : (b.setFld k lo w v).netHold = b.netHold := rfl
@[simp] theorem Bus.setFld_vfEnable (b : Bus) (k lo w v : Nat) : (b.setFld k lo w v).vfEnable = b.vfEnable := rfl
@[simp] theorem Bus.setFld_numVfs (b : Bus) (k lo w v : Nat) : (b.setFld k lo w v).numVfs = b.numVfs := rfl
@[simp] theorem Bus.setFld_pcieUp (b : Bus) (k lo w v : Nat) : (b.setFld k lo w v).pcieUp = b.pcieUp := rfl
@[simp] theorem Bus.setFld_halted (b : Bus) (k lo w v : Nat) : (b.setFld k lo w v).halted = b.halted := rfl
@[simp] theorem Bus.setFld_evt (b : Bus) (k lo w v : Nat) : (b.setFld k lo w v).evt = b.evt := rfl
@[simp] theorem Bus.setFld_kdmem (b : Bus) (k lo w v : Nat) : (b.setFld k lo w v).kdmem = b.kdmem := rfl
@[simp] theorem Bus.setFld_keeper (b : Bus) (k lo w v : Nat) : (b.setFld k lo w v).keeper = b.keeper := rfl
@[simp] theorem Bus.setFld_recs (b : Bus) (k lo w v : Nat) : (b.setFld k lo w v).recs = b.recs := rfl
@[simp] theorem Bus.setFld_units (b : Bus) (k lo w v : Nat) : (b.setFld k lo w v).units = b.units := rfl
@[simp] theorem Bus.setFld_grantsOn (b : Bus) (k lo w v : Nat) : (b.setFld k lo w v).grantsOn = b.grantsOn := rfl
@[simp] theorem Bus.setFld_corr (b : Bus) (k lo w v : Nat) : (b.setFld k lo w v).corr = b.corr := rfl
@[simp] theorem Bus.setFld_msixLast (b : Bus) (k lo w v : Nat) : (b.setFld k lo w v).msixLast = b.msixLast := rfl

/-! Bus.setBit -/

@[simp] theorem Bus.setBit_now (b : Bus) (k i : Nat) (v : Bool) : (b.setBit k i v).now = b.now := rfl
@[simp] theorem Bus.setBit_wall (b : Bus) (k i : Nat) (v : Bool) : (b.setBit k i v).wall = b.wall := rfl
@[simp] theorem Bus.setBit_addend (b : Bus) (k i : Nat) (v : Bool) : (b.setBit k i v).addend = b.addend := rfl
@[simp] theorem Bus.setBit_shadow (b : Bus) (k i : Nat) (v : Bool) : (b.setBit k i v).shadow = b.shadow := rfl
@[simp] theorem Bus.setBit_timers (b : Bus) (k i : Nat) (v : Bool) : (b.setBit k i v).timers = b.timers := rfl
@[simp] theorem Bus.setBit_free (b : Bus) (k i : Nat) (v : Bool) : (b.setBit k i v).free = b.free := rfl
@[simp] theorem Bus.setBit_out (b : Bus) (k i : Nat) (v : Bool) : (b.setBit k i v).out = b.out := rfl
@[simp] theorem Bus.setBit_seq (b : Bus) (k i : Nat) (v : Bool) : (b.setBit k i v).seq = b.seq := rfl
@[simp] theorem Bus.setBit_grants (b : Bus) (k i : Nat) (v : Bool) : (b.setBit k i v).grants = b.grants := rfl
@[simp] theorem Bus.setBit_sessions (b : Bus) (k i : Nat) (v : Bool) : (b.setBit k i v).sessions = b.sessions := rfl
@[simp] theorem Bus.setBit_netHold (b : Bus) (k i : Nat) (v : Bool) : (b.setBit k i v).netHold = b.netHold := rfl
@[simp] theorem Bus.setBit_vfEnable (b : Bus) (k i : Nat) (v : Bool) : (b.setBit k i v).vfEnable = b.vfEnable := rfl
@[simp] theorem Bus.setBit_numVfs (b : Bus) (k i : Nat) (v : Bool) : (b.setBit k i v).numVfs = b.numVfs := rfl
@[simp] theorem Bus.setBit_pcieUp (b : Bus) (k i : Nat) (v : Bool) : (b.setBit k i v).pcieUp = b.pcieUp := rfl
@[simp] theorem Bus.setBit_halted (b : Bus) (k i : Nat) (v : Bool) : (b.setBit k i v).halted = b.halted := rfl
@[simp] theorem Bus.setBit_evt (b : Bus) (k i : Nat) (v : Bool) : (b.setBit k i v).evt = b.evt := rfl
@[simp] theorem Bus.setBit_kdmem (b : Bus) (k i : Nat) (v : Bool) : (b.setBit k i v).kdmem = b.kdmem := rfl
@[simp] theorem Bus.setBit_keeper (b : Bus) (k i : Nat) (v : Bool) : (b.setBit k i v).keeper = b.keeper := rfl
@[simp] theorem Bus.setBit_recs (b : Bus) (k i : Nat) (v : Bool) : (b.setBit k i v).recs = b.recs := rfl
@[simp] theorem Bus.setBit_units (b : Bus) (k i : Nat) (v : Bool) : (b.setBit k i v).units = b.units := rfl
@[simp] theorem Bus.setBit_grantsOn (b : Bus) (k i : Nat) (v : Bool) : (b.setBit k i v).grantsOn = b.grantsOn := rfl
@[simp] theorem Bus.setBit_corr (b : Bus) (k i : Nat) (v : Bool) : (b.setBit k i v).corr = b.corr := rfl
@[simp] theorem Bus.setBit_msixLast (b : Bus) (k i : Nat) (v : Bool) : (b.setBit k i v).msixLast = b.msixLast := rfl

/-! Bus.addSat -/

@[simp] theorem Bus.addSat_now (b : Bus) (k n : Nat) : (b.addSat k n).now = b.now := rfl
@[simp] theorem Bus.addSat_wall (b : Bus) (k n : Nat) : (b.addSat k n).wall = b.wall := rfl
@[simp] theorem Bus.addSat_addend (b : Bus) (k n : Nat) : (b.addSat k n).addend = b.addend := rfl
@[simp] theorem Bus.addSat_shadow (b : Bus) (k n : Nat) : (b.addSat k n).shadow = b.shadow := rfl
@[simp] theorem Bus.addSat_timers (b : Bus) (k n : Nat) : (b.addSat k n).timers = b.timers := rfl
@[simp] theorem Bus.addSat_free (b : Bus) (k n : Nat) : (b.addSat k n).free = b.free := rfl
@[simp] theorem Bus.addSat_out (b : Bus) (k n : Nat) : (b.addSat k n).out = b.out := rfl
@[simp] theorem Bus.addSat_seq (b : Bus) (k n : Nat) : (b.addSat k n).seq = b.seq := rfl
@[simp] theorem Bus.addSat_grants (b : Bus) (k n : Nat) : (b.addSat k n).grants = b.grants := rfl
@[simp] theorem Bus.addSat_sessions (b : Bus) (k n : Nat) : (b.addSat k n).sessions = b.sessions := rfl
@[simp] theorem Bus.addSat_netHold (b : Bus) (k n : Nat) : (b.addSat k n).netHold = b.netHold := rfl
@[simp] theorem Bus.addSat_vfEnable (b : Bus) (k n : Nat) : (b.addSat k n).vfEnable = b.vfEnable := rfl
@[simp] theorem Bus.addSat_numVfs (b : Bus) (k n : Nat) : (b.addSat k n).numVfs = b.numVfs := rfl
@[simp] theorem Bus.addSat_pcieUp (b : Bus) (k n : Nat) : (b.addSat k n).pcieUp = b.pcieUp := rfl
@[simp] theorem Bus.addSat_halted (b : Bus) (k n : Nat) : (b.addSat k n).halted = b.halted := rfl
@[simp] theorem Bus.addSat_evt (b : Bus) (k n : Nat) : (b.addSat k n).evt = b.evt := rfl
@[simp] theorem Bus.addSat_kdmem (b : Bus) (k n : Nat) : (b.addSat k n).kdmem = b.kdmem := rfl
@[simp] theorem Bus.addSat_keeper (b : Bus) (k n : Nat) : (b.addSat k n).keeper = b.keeper := rfl
@[simp] theorem Bus.addSat_recs (b : Bus) (k n : Nat) : (b.addSat k n).recs = b.recs := rfl
@[simp] theorem Bus.addSat_units (b : Bus) (k n : Nat) : (b.addSat k n).units = b.units := rfl
@[simp] theorem Bus.addSat_grantsOn (b : Bus) (k n : Nat) : (b.addSat k n).grantsOn = b.grantsOn := rfl
@[simp] theorem Bus.addSat_corr (b : Bus) (k n : Nat) : (b.addSat k n).corr = b.corr := rfl
@[simp] theorem Bus.addSat_msixLast (b : Bus) (k n : Nat) : (b.addSat k n).msixLast = b.msixLast := rfl

/-! Bus.addWrap -/

@[simp] theorem Bus.addWrap_now (b : Bus) (k n : Nat) : (b.addWrap k n).now = b.now := rfl
@[simp] theorem Bus.addWrap_wall (b : Bus) (k n : Nat) : (b.addWrap k n).wall = b.wall := rfl
@[simp] theorem Bus.addWrap_addend (b : Bus) (k n : Nat) : (b.addWrap k n).addend = b.addend := rfl
@[simp] theorem Bus.addWrap_shadow (b : Bus) (k n : Nat) : (b.addWrap k n).shadow = b.shadow := rfl
@[simp] theorem Bus.addWrap_timers (b : Bus) (k n : Nat) : (b.addWrap k n).timers = b.timers := rfl
@[simp] theorem Bus.addWrap_free (b : Bus) (k n : Nat) : (b.addWrap k n).free = b.free := rfl
@[simp] theorem Bus.addWrap_out (b : Bus) (k n : Nat) : (b.addWrap k n).out = b.out := rfl
@[simp] theorem Bus.addWrap_seq (b : Bus) (k n : Nat) : (b.addWrap k n).seq = b.seq := rfl
@[simp] theorem Bus.addWrap_grants (b : Bus) (k n : Nat) : (b.addWrap k n).grants = b.grants := rfl
@[simp] theorem Bus.addWrap_sessions (b : Bus) (k n : Nat) : (b.addWrap k n).sessions = b.sessions := rfl
@[simp] theorem Bus.addWrap_netHold (b : Bus) (k n : Nat) : (b.addWrap k n).netHold = b.netHold := rfl
@[simp] theorem Bus.addWrap_vfEnable (b : Bus) (k n : Nat) : (b.addWrap k n).vfEnable = b.vfEnable := rfl
@[simp] theorem Bus.addWrap_numVfs (b : Bus) (k n : Nat) : (b.addWrap k n).numVfs = b.numVfs := rfl
@[simp] theorem Bus.addWrap_pcieUp (b : Bus) (k n : Nat) : (b.addWrap k n).pcieUp = b.pcieUp := rfl
@[simp] theorem Bus.addWrap_halted (b : Bus) (k n : Nat) : (b.addWrap k n).halted = b.halted := rfl
@[simp] theorem Bus.addWrap_evt (b : Bus) (k n : Nat) : (b.addWrap k n).evt = b.evt := rfl
@[simp] theorem Bus.addWrap_kdmem (b : Bus) (k n : Nat) : (b.addWrap k n).kdmem = b.kdmem := rfl
@[simp] theorem Bus.addWrap_keeper (b : Bus) (k n : Nat) : (b.addWrap k n).keeper = b.keeper := rfl
@[simp] theorem Bus.addWrap_recs (b : Bus) (k n : Nat) : (b.addWrap k n).recs = b.recs := rfl
@[simp] theorem Bus.addWrap_units (b : Bus) (k n : Nat) : (b.addWrap k n).units = b.units := rfl
@[simp] theorem Bus.addWrap_grantsOn (b : Bus) (k n : Nat) : (b.addWrap k n).grantsOn = b.grantsOn := rfl
@[simp] theorem Bus.addWrap_corr (b : Bus) (k n : Nat) : (b.addWrap k n).corr = b.corr := rfl
@[simp] theorem Bus.addWrap_msixLast (b : Bus) (k n : Nat) : (b.addWrap k n).msixLast = b.msixLast := rfl

/-! Bus.arm -/

@[simp] theorem Bus.arm_now (b : Bus) (t clks : Nat) : (b.arm t clks).now = b.now := rfl
@[simp] theorem Bus.arm_wall (b : Bus) (t clks : Nat) : (b.arm t clks).wall = b.wall := rfl
@[simp] theorem Bus.arm_addend (b : Bus) (t clks : Nat) : (b.arm t clks).addend = b.addend := rfl
@[simp] theorem Bus.arm_regs (b : Bus) (t clks : Nat) : (b.arm t clks).regs = b.regs := rfl
@[simp] theorem Bus.arm_shadow (b : Bus) (t clks : Nat) : (b.arm t clks).shadow = b.shadow := rfl
@[simp] theorem Bus.arm_timers (b : Bus) (t clks : Nat) : (b.arm t clks).timers = b.timers.set t (b.now + clks) := rfl
@[simp] theorem Bus.arm_free (b : Bus) (t clks : Nat) : (b.arm t clks).free = b.free := rfl
@[simp] theorem Bus.arm_out (b : Bus) (t clks : Nat) : (b.arm t clks).out = b.out := rfl
@[simp] theorem Bus.arm_seq (b : Bus) (t clks : Nat) : (b.arm t clks).seq = b.seq := rfl
@[simp] theorem Bus.arm_grants (b : Bus) (t clks : Nat) : (b.arm t clks).grants = b.grants := rfl
@[simp] theorem Bus.arm_sessions (b : Bus) (t clks : Nat) : (b.arm t clks).sessions = b.sessions := rfl
@[simp] theorem Bus.arm_netHold (b : Bus) (t clks : Nat) : (b.arm t clks).netHold = b.netHold := rfl
@[simp] theorem Bus.arm_vfEnable (b : Bus) (t clks : Nat) : (b.arm t clks).vfEnable = b.vfEnable := rfl
@[simp] theorem Bus.arm_numVfs (b : Bus) (t clks : Nat) : (b.arm t clks).numVfs = b.numVfs := rfl
@[simp] theorem Bus.arm_pcieUp (b : Bus) (t clks : Nat) : (b.arm t clks).pcieUp = b.pcieUp := rfl
@[simp] theorem Bus.arm_halted (b : Bus) (t clks : Nat) : (b.arm t clks).halted = b.halted := rfl
@[simp] theorem Bus.arm_evt (b : Bus) (t clks : Nat) : (b.arm t clks).evt = b.evt := rfl
@[simp] theorem Bus.arm_kdmem (b : Bus) (t clks : Nat) : (b.arm t clks).kdmem = b.kdmem := rfl
@[simp] theorem Bus.arm_keeper (b : Bus) (t clks : Nat) : (b.arm t clks).keeper = b.keeper := rfl
@[simp] theorem Bus.arm_recs (b : Bus) (t clks : Nat) : (b.arm t clks).recs = b.recs := rfl
@[simp] theorem Bus.arm_units (b : Bus) (t clks : Nat) : (b.arm t clks).units = b.units := rfl
@[simp] theorem Bus.arm_grantsOn (b : Bus) (t clks : Nat) : (b.arm t clks).grantsOn = b.grantsOn := rfl
@[simp] theorem Bus.arm_corr (b : Bus) (t clks : Nat) : (b.arm t clks).corr = b.corr := rfl
@[simp] theorem Bus.arm_msixLast (b : Bus) (t clks : Nat) : (b.arm t clks).msixLast = b.msixLast := rfl
@[simp] theorem Bus.arm_rd (b : Bus) (t clks : Nat) (j : Nat) : (b.arm t clks).rd j = b.rd j := rfl

/-! Bus.disarm -/

@[simp] theorem Bus.disarm_now (b : Bus) (t : Nat) : (b.disarm t).now = b.now := rfl
@[simp] theorem Bus.disarm_wall (b : Bus) (t : Nat) : (b.disarm t).wall = b.wall := rfl
@[simp] theorem Bus.disarm_addend (b : Bus) (t : Nat) : (b.disarm t).addend = b.addend := rfl
@[simp] theorem Bus.disarm_regs (b : Bus) (t : Nat) : (b.disarm t).regs = b.regs := rfl
@[simp] theorem Bus.disarm_shadow (b : Bus) (t : Nat) : (b.disarm t).shadow = b.shadow := rfl
@[simp] theorem Bus.disarm_timers (b : Bus) (t : Nat) : (b.disarm t).timers = b.timers.erase t := rfl
@[simp] theorem Bus.disarm_free (b : Bus) (t : Nat) : (b.disarm t).free = b.free := rfl
@[simp] theorem Bus.disarm_out (b : Bus) (t : Nat) : (b.disarm t).out = b.out := rfl
@[simp] theorem Bus.disarm_seq (b : Bus) (t : Nat) : (b.disarm t).seq = b.seq := rfl
@[simp] theorem Bus.disarm_grants (b : Bus) (t : Nat) : (b.disarm t).grants = b.grants := rfl
@[simp] theorem Bus.disarm_sessions (b : Bus) (t : Nat) : (b.disarm t).sessions = b.sessions := rfl
@[simp] theorem Bus.disarm_netHold (b : Bus) (t : Nat) : (b.disarm t).netHold = b.netHold := rfl
@[simp] theorem Bus.disarm_vfEnable (b : Bus) (t : Nat) : (b.disarm t).vfEnable = b.vfEnable := rfl
@[simp] theorem Bus.disarm_numVfs (b : Bus) (t : Nat) : (b.disarm t).numVfs = b.numVfs := rfl
@[simp] theorem Bus.disarm_pcieUp (b : Bus) (t : Nat) : (b.disarm t).pcieUp = b.pcieUp := rfl
@[simp] theorem Bus.disarm_halted (b : Bus) (t : Nat) : (b.disarm t).halted = b.halted := rfl
@[simp] theorem Bus.disarm_evt (b : Bus) (t : Nat) : (b.disarm t).evt = b.evt := rfl
@[simp] theorem Bus.disarm_kdmem (b : Bus) (t : Nat) : (b.disarm t).kdmem = b.kdmem := rfl
@[simp] theorem Bus.disarm_keeper (b : Bus) (t : Nat) : (b.disarm t).keeper = b.keeper := rfl
@[simp] theorem Bus.disarm_recs (b : Bus) (t : Nat) : (b.disarm t).recs = b.recs := rfl
@[simp] theorem Bus.disarm_units (b : Bus) (t : Nat) : (b.disarm t).units = b.units := rfl
@[simp] theorem Bus.disarm_grantsOn (b : Bus) (t : Nat) : (b.disarm t).grantsOn = b.grantsOn := rfl
@[simp] theorem Bus.disarm_corr (b : Bus) (t : Nat) : (b.disarm t).corr = b.corr := rfl
@[simp] theorem Bus.disarm_msixLast (b : Bus) (t : Nat) : (b.disarm t).msixLast = b.msixLast := rfl
@[simp] theorem Bus.disarm_rd (b : Bus) (t : Nat) (j : Nat) : (b.disarm t).rd j = b.rd j := rfl

/-! Bus.emit -/

@[simp] theorem Bus.emit_now (b : Bus) (o : Out) : (b.emit o).now = b.now := rfl
@[simp] theorem Bus.emit_wall (b : Bus) (o : Out) : (b.emit o).wall = b.wall := rfl
@[simp] theorem Bus.emit_addend (b : Bus) (o : Out) : (b.emit o).addend = b.addend := rfl
@[simp] theorem Bus.emit_regs (b : Bus) (o : Out) : (b.emit o).regs = b.regs := rfl
@[simp] theorem Bus.emit_shadow (b : Bus) (o : Out) : (b.emit o).shadow = b.shadow := rfl
@[simp] theorem Bus.emit_timers (b : Bus) (o : Out) : (b.emit o).timers = b.timers := rfl
@[simp] theorem Bus.emit_free (b : Bus) (o : Out) : (b.emit o).free = b.free := rfl
@[simp] theorem Bus.emit_out (b : Bus) (o : Out) : (b.emit o).out = o :: b.out := rfl
@[simp] theorem Bus.emit_seq (b : Bus) (o : Out) : (b.emit o).seq = b.seq := rfl
@[simp] theorem Bus.emit_grants (b : Bus) (o : Out) : (b.emit o).grants = b.grants := rfl
@[simp] theorem Bus.emit_sessions (b : Bus) (o : Out) : (b.emit o).sessions = b.sessions := rfl
@[simp] theorem Bus.emit_netHold (b : Bus) (o : Out) : (b.emit o).netHold = b.netHold := rfl
@[simp] theorem Bus.emit_vfEnable (b : Bus) (o : Out) : (b.emit o).vfEnable = b.vfEnable := rfl
@[simp] theorem Bus.emit_numVfs (b : Bus) (o : Out) : (b.emit o).numVfs = b.numVfs := rfl
@[simp] theorem Bus.emit_pcieUp (b : Bus) (o : Out) : (b.emit o).pcieUp = b.pcieUp := rfl
@[simp] theorem Bus.emit_halted (b : Bus) (o : Out) : (b.emit o).halted = b.halted := rfl
@[simp] theorem Bus.emit_evt (b : Bus) (o : Out) : (b.emit o).evt = b.evt := rfl
@[simp] theorem Bus.emit_kdmem (b : Bus) (o : Out) : (b.emit o).kdmem = b.kdmem := rfl
@[simp] theorem Bus.emit_keeper (b : Bus) (o : Out) : (b.emit o).keeper = b.keeper := rfl
@[simp] theorem Bus.emit_recs (b : Bus) (o : Out) : (b.emit o).recs = b.recs := rfl
@[simp] theorem Bus.emit_units (b : Bus) (o : Out) : (b.emit o).units = b.units := rfl
@[simp] theorem Bus.emit_grantsOn (b : Bus) (o : Out) : (b.emit o).grantsOn = b.grantsOn := rfl
@[simp] theorem Bus.emit_corr (b : Bus) (o : Out) : (b.emit o).corr = b.corr := rfl
@[simp] theorem Bus.emit_msixLast (b : Bus) (o : Out) : (b.emit o).msixLast = b.msixLast := rfl
@[simp] theorem Bus.emit_rd (b : Bus) (o : Out) (j : Nat) : (b.emit o).rd j = b.rd j := rfl

/-! Bus.tick -/

@[simp] theorem Bus.tick_now (b : Bus) (dt : Nat) : (b.tick dt).now = b.now + dt := rfl
@[simp] theorem Bus.tick_wall (b : Bus) (dt : Nat) : (b.tick dt).wall = (b.wall + dt * b.addend) % wallModulus := rfl
@[simp] theorem Bus.tick_addend (b : Bus) (dt : Nat) : (b.tick dt).addend = b.addend := rfl
@[simp] theorem Bus.tick_regs (b : Bus) (dt : Nat) : (b.tick dt).regs = b.regs := rfl
@[simp] theorem Bus.tick_shadow (b : Bus) (dt : Nat) : (b.tick dt).shadow = b.shadow := rfl
@[simp] theorem Bus.tick_timers (b : Bus) (dt : Nat) : (b.tick dt).timers = b.timers := rfl
@[simp] theorem Bus.tick_free (b : Bus) (dt : Nat) : (b.tick dt).free = b.free := rfl
@[simp] theorem Bus.tick_out (b : Bus) (dt : Nat) : (b.tick dt).out = b.out := rfl
@[simp] theorem Bus.tick_seq (b : Bus) (dt : Nat) : (b.tick dt).seq = b.seq := rfl
@[simp] theorem Bus.tick_grants (b : Bus) (dt : Nat) : (b.tick dt).grants = b.grants := rfl
@[simp] theorem Bus.tick_sessions (b : Bus) (dt : Nat) : (b.tick dt).sessions = b.sessions := rfl
@[simp] theorem Bus.tick_netHold (b : Bus) (dt : Nat) : (b.tick dt).netHold = b.netHold := rfl
@[simp] theorem Bus.tick_vfEnable (b : Bus) (dt : Nat) : (b.tick dt).vfEnable = b.vfEnable := rfl
@[simp] theorem Bus.tick_numVfs (b : Bus) (dt : Nat) : (b.tick dt).numVfs = b.numVfs := rfl
@[simp] theorem Bus.tick_pcieUp (b : Bus) (dt : Nat) : (b.tick dt).pcieUp = b.pcieUp := rfl
@[simp] theorem Bus.tick_halted (b : Bus) (dt : Nat) : (b.tick dt).halted = b.halted := rfl
@[simp] theorem Bus.tick_evt (b : Bus) (dt : Nat) : (b.tick dt).evt = b.evt := rfl
@[simp] theorem Bus.tick_kdmem (b : Bus) (dt : Nat) : (b.tick dt).kdmem = b.kdmem := rfl
@[simp] theorem Bus.tick_keeper (b : Bus) (dt : Nat) : (b.tick dt).keeper = b.keeper := rfl
@[simp] theorem Bus.tick_recs (b : Bus) (dt : Nat) : (b.tick dt).recs = b.recs := rfl
@[simp] theorem Bus.tick_units (b : Bus) (dt : Nat) : (b.tick dt).units = b.units := rfl
@[simp] theorem Bus.tick_grantsOn (b : Bus) (dt : Nat) : (b.tick dt).grantsOn = b.grantsOn := rfl
@[simp] theorem Bus.tick_corr (b : Bus) (dt : Nat) : (b.tick dt).corr = b.corr := rfl
@[simp] theorem Bus.tick_msixLast (b : Bus) (dt : Nat) : (b.tick dt).msixLast = b.msixLast := rfl
@[simp] theorem Bus.tick_rd (b : Bus) (dt : Nat) (j : Nat) : (b.tick dt).rd j = b.rd j := rfl

/-! Bus.nextFree -/

@[simp] theorem Bus.nextFree_now (b : Bus) : (b.nextFree).now = b.now := rfl
@[simp] theorem Bus.nextFree_wall (b : Bus) : (b.nextFree).wall = b.wall := rfl
@[simp] theorem Bus.nextFree_addend (b : Bus) : (b.nextFree).addend = b.addend := rfl
@[simp] theorem Bus.nextFree_regs (b : Bus) : (b.nextFree).regs = b.regs := rfl
@[simp] theorem Bus.nextFree_shadow (b : Bus) : (b.nextFree).shadow = b.shadow := rfl
@[simp] theorem Bus.nextFree_timers (b : Bus) : (b.nextFree).timers = b.timers := rfl
@[simp] theorem Bus.nextFree_free (b : Bus) : (b.nextFree).free = b.free + 1 := rfl
@[simp] theorem Bus.nextFree_out (b : Bus) : (b.nextFree).out = b.out := rfl
@[simp] theorem Bus.nextFree_seq (b : Bus) : (b.nextFree).seq = b.seq := rfl
@[simp] theorem Bus.nextFree_grants (b : Bus) : (b.nextFree).grants = b.grants := rfl
@[simp] theorem Bus.nextFree_sessions (b : Bus) : (b.nextFree).sessions = b.sessions := rfl
@[simp] theorem Bus.nextFree_netHold (b : Bus) : (b.nextFree).netHold = b.netHold := rfl
@[simp] theorem Bus.nextFree_vfEnable (b : Bus) : (b.nextFree).vfEnable = b.vfEnable := rfl
@[simp] theorem Bus.nextFree_numVfs (b : Bus) : (b.nextFree).numVfs = b.numVfs := rfl
@[simp] theorem Bus.nextFree_pcieUp (b : Bus) : (b.nextFree).pcieUp = b.pcieUp := rfl
@[simp] theorem Bus.nextFree_halted (b : Bus) : (b.nextFree).halted = b.halted := rfl
@[simp] theorem Bus.nextFree_evt (b : Bus) : (b.nextFree).evt = b.evt := rfl
@[simp] theorem Bus.nextFree_kdmem (b : Bus) : (b.nextFree).kdmem = b.kdmem := rfl
@[simp] theorem Bus.nextFree_keeper (b : Bus) : (b.nextFree).keeper = b.keeper := rfl
@[simp] theorem Bus.nextFree_recs (b : Bus) : (b.nextFree).recs = b.recs := rfl
@[simp] theorem Bus.nextFree_units (b : Bus) : (b.nextFree).units = b.units := rfl
@[simp] theorem Bus.nextFree_grantsOn (b : Bus) : (b.nextFree).grantsOn = b.grantsOn := rfl
@[simp] theorem Bus.nextFree_corr (b : Bus) : (b.nextFree).corr = b.corr := rfl
@[simp] theorem Bus.nextFree_msixLast (b : Bus) : (b.nextFree).msixLast = b.msixLast := rfl
@[simp] theorem Bus.nextFree_rd (b : Bus) (j : Nat) : (b.nextFree).rd j = b.rd j := rfl

/-! Register reads of the state -/

theorem State.rd_eq (s : State) (k : Nat) : s.rd k = s.bus.rd k := rfl
theorem State.bit_eq (s : State) (k i : Nat) : s.bit k i = s.bus.bit k i := rfl
theorem State.fld_eq (s : State) (k lo w : Nat) : s.fld k lo w = s.bus.fld k lo w := rfl
theorem Bus.bit_eq (b : Bus) (k i : Nat) : b.bit k i = bitOf i (b.rd k) := rfl
theorem Bus.fld_eq (b : Bus) (k lo w : Nat) : b.fld k lo w = fieldOf lo w (b.rd k) := rfl

@[simp] theorem State.ifThen_true (s : State) (f : State → State) : s.ifThen true f = f s := rfl
@[simp] theorem State.ifThen_false (s : State) (f : State → State) : s.ifThen false f = s := rfl
theorem State.onExpiry_due (s : State) (t : Nat) (f : State → State) (h : s.due t = true) : s.onExpiry t f = f (s.disarm t) := by
  simp [State.onExpiry, h]
theorem State.onExpiry_not_due (s : State) (t : Nat) (f : State → State) (h : s.due t = false) : s.onExpiry t f = s := by
  simp [State.onExpiry, h]

/-- An owner's write to a page whose domain is up takes effect (R85, R91, R92). -/
theorem State.guardWrite_owner (s : State) (vi page : Nat) (f : State → State) (ha : s.bus.pageAccess page vi = 2)
    (hu : s.bus.pageUp page = true) : s.guardWrite vi page f = f s := by
  simp [State.guardWrite, ha, hu]

/-- A write to a page that the VI has no access to is ignored (R91). -/
theorem State.guardWrite_none (s : State) (vi page : Nat) (f : State → State) (ha : s.bus.pageAccess page vi = 0) :
    s.guardWrite vi page f = s := by
  simp [State.guardWrite, ha]

/-- A write to a domain that is not up is counted late (R85). -/
theorem State.guardWrite_late (s : State) (vi page : Nat) (f : State → State) (ha : s.bus.pageAccess page vi ≠ 0)
    (hu : s.bus.pageUp page = false) : s.guardWrite vi page f = s.on (·.late vi) := by
  simp [State.guardWrite, ha, hu]

/-- A write with read access alone is denied (R92). -/
theorem State.guardWrite_denied (s : State) (vi page : Nat) (f : State → State) (ha : s.bus.pageAccess page vi = 1)
    (hu : s.bus.pageUp page = true) : s.guardWrite vi page f = s.on (·.denied) := by
  simp [State.guardWrite, ha, hu]

end Sys2Proof.Machine
end

