-- ==== Sys2Proof/Laws/After.lean ====
section
/-! SUPPORT. The frame of a command (`State.After`): how it composes, and that every named operation keeps it. -/

namespace Sys2Proof.Machine

theorem State.After.refl (s : State) (ks : List Nat) : s.After s ks := ⟨rfl, Bus.Reported.refl _ _⟩

theorem State.After.trans {s t u : State} {ks : List Nat} (h1 : s.After t ks) (h2 : t.After u ks) : s.After u ks := by
  refine ⟨?_, h1.2.trans h2.2⟩
  have e := h2.1
  rw [h1.1] at e
  exact e

theorem State.After.mono {s t : State} {ks ls : List Nat} (h : s.After t ks) (hs : ∀ k ∈ ks, k ∈ ls) : s.After t ls :=
  ⟨h.1, h.2.mono hs⟩

/-- A change of the page network that keeps the frame of reporting. -/
theorem State.After.on {s t : State} {ks : List Nat} {f : Bus → Bus} (h : s.After t ks) (hf : t.bus.Reported (f t.bus) ks) :
    s.After (t.on f) ks := h.trans ⟨rfl, hf⟩

theorem Bus.Ranged.of_after {s t : State} {ks : List Nat} (hr : s.bus.Ranged) (h : s.After t ks) : t.bus.Ranged :=
  hr.of_reported h.2

theorem State.After.wr {s t : State} {ks : List Nat} (h : s.After t ks) (k v : Nat) (hk : k ∈ ks) : s.After (t.wr k v) ks :=
  h.on (Bus.wr_reported _ _ _ _ (Or.inl hk))

theorem State.After.setBit {s t : State} {ks : List Nat} (h : s.After t ks) (k i : Nat) (v : Bool) (hk : k ∈ ks) :
    s.After (t.setBit k i v) ks := h.on (Bus.setBit_reported _ _ _ _ _ (Or.inl hk))

theorem State.After.setFld {s t : State} {ks : List Nat} (h : s.After t ks) (k lo w v : Nat) (hk : k ∈ ks) :
    s.After (t.setFld k lo w v) ks := h.on (Bus.setFld_reported _ _ _ _ _ _ (Or.inl hk))

theorem State.After.addSat {s t : State} {ks : List Nat} (h : s.After t ks) (k n : Nat) (hk : k ∈ ks) :
    s.After (t.addSat k n) ks := h.on (Bus.addSat_reported _ _ _ _ (Or.inl hk))

theorem State.After.addWrap {s t : State} {ks : List Nat} (h : s.After t ks) (k n : Nat) (hk : k ∈ ks) :
    s.After (t.addWrap k n) ks := h.on (Bus.addWrap_reported _ _ _ _ (Or.inl hk))

theorem State.After.emit {s t : State} {ks : List Nat} (h : s.After t ks) (o : Out) : s.After (t.emit o) ks :=
  h.on (Bus.emit_reported _ _ _)

theorem evKey_page (page off who : Nat) (h : entryGranted page = false) : evKey page off who = rk page off := by
  simp [evKey, h]

theorem State.After.raise {s t : State} {ks : List Nat} (h : s.After t ks) (hr : s.bus.Ranged) (page bit : Nat)
    (he : entryGranted page = false) (hk : pendKey page ∈ ks) : s.After (t.raise page bit) ks :=
  h.on (Bus.raise_reported _ (hr.of_after h) _ _ _ (by rw [evKey_page _ _ _ he]; exact hk))

theorem State.After.raiseAlso {s t : State} {ks : List Nat} (h : s.After t ks) (hr : s.bus.Ranged) (page bit : Nat) (extra : List Nat)
    (hx : ∀ v ∈ extra, v < 1024) (he : entryGranted page = false) (hk : pendKey page ∈ ks) : s.After (t.raiseAlso page bit extra) ks :=
  h.on (Bus.raiseAlso_reported _ (hr.of_after h) _ _ _ hx _ (by rw [evKey_page _ _ _ he]; exact hk))

theorem State.After.cfgErr {s t : State} {ks : List Nat} (h : s.After t ks) (hr : s.bus.Ranged) (page : Nat)
    (he : entryGranted page = false) (hk : rk page hdrPageStatus ∈ ks) : s.After (t.cfgErr page) ks :=
  h.on (Bus.cfgErr_reported _ (hr.of_after h) _ _ (by rw [evKey_page _ _ _ he]; exact hk))

/-- After an occurrence of a page's event, the event is pending (R80). -/
theorem State.pend_raise (s : State) (hr : s.bus.Ranged) (page bit : Nat) (hb : bit < 32) (he : entryGranted page = false)
    (hk : reportKey (pendKey page) = false) : (s.raise page bit).pend page bit = true := by
  have h := Bus.raiseAt_pend s.bus hr page page bit (s.bus.ownerOfPage page) [] (by simpa using s.bus.ownerOfPage_lt hr page) none hb
    (by rw [evKey_page _ _ _ he]; exact hk)
  rw [evKey_page _ _ _ he] at h
  exact h

/-- A register outside the frame reads as before. -/
theorem State.After.rd {s t : State} {ks : List Nat} (h : s.After t ks) (k : Nat) (hk : k ∉ ks) (hr : reportKey k = false) :
    t.rd k = s.rd k := h.2.regs k hk hr

theorem State.After.bit {s t : State} {ks : List Nat} (h : s.After t ks) (k i : Nat) (hk : k ∉ ks) (hr : reportKey k = false) :
    t.bit k i = s.bit k i := by
  show bitOf i (t.rd k) = bitOf i (s.rd k)
  rw [h.rd k hk hr]

theorem State.After.fld {s t : State} {ks : List Nat} (h : s.After t ks) (k lo w : Nat) (hk : k ∉ ks) (hr : reportKey k = false) :
    t.fld k lo w = s.fld k lo w := by
  show fieldOf lo w (t.rd k) = fieldOf lo w (s.rd k)
  rw [h.rd k hk hr]

/-- An occurrence changes no register but EVT_PEND of its page and those of the reporting. -/
theorem State.rd_raise (s : State) (hr : s.bus.Ranged) (page bit k : Nat) (he : entryGranted page = false) (hk : k ≠ pendKey page)
    (hq : reportKey k = false) : (s.raise page bit).rd k = s.rd k :=
  ((State.After.refl s [pendKey page]).raise hr page bit he (by simp)).rd k (by simpa using hk) hq

end Sys2Proof.Machine
end

