-- ==== Sys2Proof/WellFormed.lean ====
section
/-! DEFINITION. Which commands are well-formed: every VI, page, unit number, register value and address within the range the spec gives it. -/

namespace Sys2Proof

/-- A unit number, address or value within its range. -/
def within (n lim : Nat) : Bool := decide (n < lim)

/-- Whether a command is well-formed. -/
def Instr.wf (i : Instr) : Bool :=
  match i with
  | .trefInLoss _ => true
  | .refclkLoss _ => true
  | .pcieRefclkLoss _ => true
  | .xtal32kLoss _ => true
  | .pllUnlock _ clk => within clk 16
  | .pllStandbyRestored _ clk => within clk 16
  | .timNowSnapshot _ req => within req 4096
  | .timPpsCapSnapshot _ req => within req 4096
  | .ppsEdge _ _ => true
  | .ptpSync _ port domain _ => within port 516 && within domain 256
  | .ptpMessage _ port domain _ => within port 516 && within domain 256
  | .ptpSyncTimeout _ => true
  | .ppsAbsenceTimeout _ => true
  | .tebUpdate _ => true
  | .holdoverLimitReached _ => true
  | .estepHoldExpire _ => true
  | .gptInputTick _ n src pin _ => within n 32 && within src 8 && within pin 8
  | .gptCmpLoWrite _ vi n value => within vi 1024 && within n 32 && within value (2 ^ 32)
  | .gptReloadLoWrite _ vi n value => within vi 1024 && within n 32 && within value (2 ^ 32)
  | .gptClear _ vi n => within vi 1024 && within n 32
  | .gptEnable _ vi n ctrl => within vi 1024 && within n 32 && within ctrl (2 ^ 32)
  | .gptCapture _ n src => within n 32 && within src 8
  | .gptCapLoRead _ vi n _ => within vi 1024 && within n 32
  | .gptAonUpdate _ n _ => within n 32
  | .registerWrite _ vi addr value => within vi 1024 && within addr (2 ^ 26) && within value (2 ^ 32)
  | .postedWriteEffect _ dom => within dom 16
  | .pageReadTimeout _ vi addr => within vi 1024 && within addr (2 ^ 26)
  | .pageSrst _ vi page => within vi 1024 && within page 16384
  | .pageCommit _ vi page => within vi 1024 && within page 16384
  | .pageEnableWrite _ vi page _ _ => within vi 1024 && within page 16384
  | .evtPendClear _ vi page mask meets => within vi 1024 && within page 16384 && within mask (2 ^ 32) && within meets (2 ^ 32)
  | .evtEnableWrite _ vi page value => within vi 1024 && within page 16384 && within value (2 ^ 32)
  | .evtForce _ vi page mask => within vi 1024 && within page 16384 && within mask (2 ^ 32)
  | .evqEnable _ vi _ => within vi 1024
  | .pcieFlr _ vi => within vi 1024
  | .vfDisable _ => true
  | .netSessionOpen _ digest => within digest (2 ^ 384)
  | .netSessionIdleClose _ vi => within vi 1024
  | .netSessionClose _ vi => within vi 1024
  | .netRead _ vi tag count addr => within vi 1024 && within tag (2 ^ 32) && within count (2 ^ 16) && within addr (2 ^ 32)
  | .netWrite _ vi tag addr words => within vi 1024 && within tag (2 ^ 32) && within addr (2 ^ 32) && words.all (within · (2 ^ 32))
  | .mdioFrameStart _ vi value => within vi 1024 && within value (2 ^ 32)
  | .mdioFrameComplete _ data => within data (2 ^ 32)
  | .mgtLinkChange _ m _ => within m 2
  | .mgtFrameRx _ m _ => within m 2
  | .mgtEnergyWake _ m => within m 2
  | .linkUp _ port => within port 516
  | .anTrainingFail _ port => within port 516
  | .linkDown _ port => within port 516
  | .serdesFailure _ port => within port 516
  | .frameRx _ port _ => within port 516
  | .fecDegWindow _ port _ _ => within port 516
  | .pfcPauseExpire _ port cls => within port 516 && within cls 8
  | .pfcXoffRefresh _ port => within port 516
  | .snoopReport _ port group _ _ _ => within port 516 && within group 8192
  | .snoopQuery _ port => within port 516
  | .snoopGmiExpire _ port _ => within port 516
  | .mergeLegSilent _ entry => within entry 65536
  | .mergePairSilent _ entry => within entry 65536
  | .strRead _ vi page => within vi 1024 && within page 16
  | .strWrite _ vi page => within vi 1024 && within page 16
  | .strWriteKeep _ vi page => within vi 1024 && within page 16
  | .strWriteSlotWaitEnd _ vi page => within vi 1024 && within page 16
  | .grpRead _ vi page => within vi 1024 && within page 16
  | .grpWrite _ vi page => within vi 1024 && within page 16
  | .crossbarCellTime _ _ => true
  | .planeForce _ vi value => within vi 1024 && within value (2 ^ 32)
  | .planeIsolationComplete _ => true
  | .packetDequeue _ _ _ => true
  | .cisPeakClr _ vi n => within vi 1024 && within n 72
  | .cisCntClr _ vi n => within vi 1024 && within n 72
  | .moveTimeout _ entry => within entry 65536
  | .hqrDoorbell _ vi ring value => within vi 1024 && within ring 16384 && within value (2 ^ 32)
  | .hqrTxDescriptor _ pump _ => within pump 16
  | .hqrRxFrame _ pump _ => within pump 16
  | .hqrDisable _ vi ring ctrl _ => within vi 1024 && within ring 16384 && within ctrl (2 ^ 32)
  | .hqrStopComplete _ ring => within ring 16384
  | .hqrEnable _ vi ring ctrl => within vi 1024 && within ring 16384 && within ctrl (2 ^ 32)
  | .hqrMemDataAccess _ vi ring write => within vi 1024 && within ring 16384 && write.all (within · (2 ^ 32))
  | .pcieLinkLoss _ => true
  | .pcieLinkRetrained _ => true
  | .pumpHang _ pump => within pump 16
  | .fsCapturePacket _ store => within store 1024
  | .fsFrameComplete _ store => within store 1024
  | .xsDecodeComplete _ store _ count _ => within store 1024 && within count (2 ^ 16)
  | .fsEnable _ vi store value => within vi 1024 && within store 1024 && within value (2 ^ 32)
  | .fsDisable _ vi store => within vi 1024 && within store 1024
  | .canvasEnable _ vi canvas => within vi 1024 && within canvas 16
  | .layoutEpochRequest _ vi canvas => within vi 1024 && within canvas 16
  | .layoutEpochChecked _ group => within group 16
  | .canvasFrameStart _ canvas => within canvas 16
  | .bindingInstant _ canvas => within canvas 16
  | .lineDraw _ canvas tile line => within canvas 16 && within tile 256 && within line 8192
  | .segmentPost _ canvas => within canvas 16
  | .tilePacketSend _ canvas tile _ _ => within canvas 16 && within tile 256
  | .valueFrameEnqueue _ => true
  | .valueFrameApply _ => true
  | .valSrcSilentExpire _ slot => within slot 1024
  | .valSrcDevWrite _ vi value => within vi 1024 && within value (2 ^ 32)
  | .valEpRead _ vi => within vi 1024
  | .valEpWrite _ vi => within vi 1024
  | .valEpWriteClear _ vi => within vi 1024
  | .valEpSet _ vi => within vi 1024
  | .valEngineHang _ => true
  | .chainDataFrameStart _ chain => within chain 64
  | .chainLatch _ chain _ _ => within chain 64
  | .litCmdPing _ vi chain _ _ => within vi 1024 && within chain 64
  | .litCmdEnum _ vi chain _ _ => within vi 1024 && within chain 64
  | .litCmdSetLoss _ vi chain _ _ => within vi 1024 && within chain 64
  | .litCmdSetFail _ vi chain _ _ => within vi 1024 && within chain 64
  | .litCmdReadTemp _ vi chain _ _ => within vi 1024 && within chain 64
  | .litCmdReadId _ vi chain _ _ => within vi 1024 && within chain 64
  | .chainCommandFrame _ chain => within chain 64
  | .chainCommandComplete _ chain _ => within chain 64
  | .enumPassEnd _ chain _ => within chain 64
  | .litDevCountWrite _ vi chain value => within vi 1024 && within chain 64 && within value (2 ^ 32)
  | .litPeriodWrite _ vi chain value => within vi 1024 && within chain 64 && within value (2 ^ 32)
  | .zoneTempTimeout _ chain zone => within chain 64 && within zone 8
  | .ntcMeasure _ n _ => within n 16
  | .matrixScanRead _ m => within m 2
  | .matrixScanFrameStart _ m => within m 2
  | .matrixLineSlot _ m _ _ => within m 2
  | .stageRead _ n _ => within n 12
  | .stageSetpointEffect _ n => within n 12
  | .stageOvervoltage _ n => within n 12
  | .stageShort _ n => within n 12
  | .stageRetry _ n => within n 12
  | .calRead _ vi => within vi 1024
  | .calWrite _ vi => within vi 1024
  | .calMtxWrite _ vi value => within vi 1024 && within value (2 ^ 32)
  | .ldsOutWrite _ vi ch value => within vi 1024 && within ch 24 && within value (2 ^ 32)
  | .ldsEvaluate _ ch _ _ _ _ _ _ => within ch 24
  | .ldsInrushEnd _ ch => within ch 24
  | .ldsTrip _ ch _ _ => within ch 24
  | .ldsPauseExpire _ ch => within ch 24
  | .ldsTriesClear _ ch => within ch 24
  | .ldsThermalShutdown _ ch _ => within ch 24
  | .ldsThermalRecover _ ch _ => within ch 24
  | .ldsOpenLoad _ ch _ _ => within ch 24
  | .ldsStuckOn _ ch => within ch 24
  | .ldsAggregateCheck _ _ => true
  | .vfieldUndervoltage _ _ => true
  | .vfieldRestored _ _ => true
  | .ldsRestoringExpire _ ch => within ch 24
  | .ldsLatchClr _ vi ch value => within vi 1024 && within ch 24 && within value (2 ^ 32)
  | .limpNLow _ => true
  | .heartbeatWrite _ vi => within vi 1024
  | .heartbeatLoss _ => true
  | .limpLatchClear _ ch => within ch 24
  | .limpExit _ vi value _ => within vi 1024 && within value (2 ^ 32)
  | .swiSample _ _ _ => true
  | .swiQueuePop _ vi => within vi 1024
  | .swiWatchSample _ _ _ => true
  | .encEdge _ e _ _ => within e 8
  | .encIndex _ e => within e 8
  | .encPosWrite _ vi e value => within vi 1024 && within e 8 && within value (2 ^ 32)
  | .coiFire _ vi c value => within vi 1024 && within c 8 && within value (2 ^ 32)
  | .coiAbort _ vi c value => within vi 1024 && within c 8 && within value (2 ^ 32)
  | .coiOpEnd _ c => within c 8
  | .coiOpSeti _ c => within c 8
  | .coiOpSrc _ c => within c 8
  | .coiOpWaitu _ c => within c 8
  | .coiOpWaitm _ c => within c 8
  | .coiOpWaitk _ c => within c 8
  | .coiOpJmp _ c => within c 8
  | .coiOpLoop _ c => within c 8
  | .coiOpBk _ c => within c 8
  | .coiOpBnk _ c => within c 8
  | .coiOpBvb _ c => within c 8
  | .coiOpFree _ c => within c 8
  | .coiOpRecov _ c => within c 8
  | .coiOpEvt _ c => within c 8
  | .coiOpReserved _ c _ => within c 8
  | .coiWaitExpire _ c _ => within c 8
  | .coiKinkDetect _ c _ _ _ => within c 8
  | .coiWaitkTimeout _ c _ => within c 8
  | .coiCurrentDecayed _ c _ => within c 8
  | .coiMinoffExpire _ c => within c 8
  | .vboostLevelChange _ _ => true
  | .canTxRequest _ vi n value => within vi 1024 && within n 16 && within value (2 ^ 32)
  | .canTxCancel _ vi n value => within vi 1024 && within n 16 && within value (2 ^ 32)
  | .canTxAttemptStart _ n => within n 16
  | .canTxAttemptEnd _ n _ _ => within n 16
  | .canAloneSelfSet _ n => within n 16
  | .canBoffRecoveryStart _ n => within n 16
  | .canBoffRecovered _ n => within n 16
  | .canRxFrame _ n _ _ => within n 16
  | .canHpWord0Read _ vi n b => within vi 1024 && within n 16 && within b 8
  | .canHpWord20Read _ vi n b => within vi 1024 && within n 16 && within b 8
  | .canHpLockRelease _ vi n value => within vi 1024 && within n 16 && within value (2 ^ 32)
  | .canRxfWord0Read _ vi n => within vi 1024 && within n 16
  | .canRxfWord20Read _ vi n => within vi 1024 && within n 16
  | .canTtReferenceSend _ n _ _ => within n 16
  | .canTtWindowMark _ n entry => within n 16 && within entry 64
  | .canTtWindowEnd _ n entry => within n 16 && within entry 64
  | .canTtRefTimeout _ n => within n 16
  | .wakModeNormal _ vi n => within vi 1024 && within n 8
  | .wakModeStandby _ vi n value => within vi 1024 && within n 8 && within value (2 ^ 32)
  | .wakModeSleep _ vi n => within vi 1024 && within n 8
  | .wakSleepCommit _ n => within n 8
  | .wakeUpPattern _ n _ => within n 8
  | .selectiveWakeFrame _ n _ => within n 8
  | .frameErrorCounterWake _ n => within n 8
  | .wakFailsafeExpire _ n => within n 8
  | .txdDominantTimeout _ n => within n 8
  | .xcvrThermal _ n => within n 8
  | .extCanWake _ n => within n 8
  | .zwkStart _ vi w => within vi 1024 && within w 96
  | .zwkStop _ vi w => within vi 1024 && within w 96
  | .coreStopComplete _ core => within core 98
  | .zwkImemDataAccess _ vi w write => within vi 1024 && within w 96 && write.all (within · (2 ^ 32))
  | .zwkDmemDataAccess _ vi w write => within vi 1024 && within w 96 && write.all (within · (2 ^ 32))
  | .zwkDoorbell _ vi w value => within vi 1024 && within w 96 && within value (2 ^ 32)
  | .zwkTimerWrite _ vi core value => within vi 1024 && within core 98 && within value (2 ^ 32)
  | .coreTimerExpire _ core => within core 98
  | .zwkRouteWrite _ vi w route value => within vi 1024 && within w 96 && within route 16 && within value (2 ^ 32)
  | .waitResume _ core => within core 98
  | .remoteCommandComplete _ core slot _ => within core 98 && within slot 16
  | .zwPairWord _ core => within core 98
  | .zwNop _ core => within core 98
  | .zwAdd _ core => within core 98
  | .zwAddi _ core => within core 98
  | .zwSub _ core => within core 98
  | .zwAdc _ core => within core 98
  | .zwSbc _ core => within core 98
  | .zwAnd _ core => within core 98
  | .zwAndi _ core => within core 98
  | .zwOr _ core => within core 98
  | .zwOri _ core => within core 98
  | .zwXor _ core => within core 98
  | .zwXori _ core => within core 98
  | .zwShl _ core => within core 98
  | .zwShli _ core => within core 98
  | .zwShr _ core => within core 98
  | .zwShri _ core => within core 98
  | .zwSar _ core => within core 98
  | .zwSari _ core => within core 98
  | .zwCmp _ core => within core 98
  | .zwCmpi _ core => within core 98
  | .zwMin _ core => within core 98
  | .zwMax _ core => within core 98
  | .zwAbs _ core => within core 98
  | .zwNeg _ core => within core 98
  | .zwMovi _ core => within core 98
  | .zwMovhi _ core => within core 98
  | .zwExt _ core => within core 98
  | .zwIns _ core => within core 98
  | .zwClz _ core => within core 98
  | .zwPopc _ core => within core 98
  | .zwMul _ core => within core 98
  | .zwMulhs _ core => within core 98
  | .zwMulhu _ core => within core 98
  | .zwMac _ core => within core 98
  | .zwMsu _ core => within core 98
  | .zwMovad _ core => within core 98
  | .zwMovda _ core => within core 98
  | .zwMovai _ core => within core 98
  | .zwAddai _ core => within core 98
  | .zwAdda _ core => within core 98
  | .zwMovsr _ core => within core 98
  | .zwMovrs _ core => within core 98
  | .zwLd _ core => within core 98
  | .zwSt _ core => within core 98
  | .zwLdx _ core => within core 98
  | .zwStx _ core => within core 98
  | .zwLdp _ core => within core 98
  | .zwStp _ core => within core 98
  | .zwLda _ core => within core 98
  | .zwSta _ core => within core 98
  | .zwBr _ core => within core 98
  | .zwJr _ core => within core 98
  | .zwCall _ core => within core 98
  | .zwCallr _ core => within core 98
  | .zwRet _ core => within core 98
  | .zwLoop _ core => within core 98
  | .zwLoopi _ core => within core 98
  | .zwWait _ core => within core 98
  | .zwWaiti _ core => within core 98
  | .zwPoll _ core => within core 98
  | .zwEvclr _ core => within core 98
  | .zwHalt _ core => within core 98
  | .zwGet _ core => within core 98
  | .zwPut _ core => within core 98
  | .zwPutr _ core => within core 98
  | .dkyOpen _ vi => within vi 1024
  | .dkySeal _ vi => within vi 1024
  | .dkyAbort _ vi => within vi 1024
  | .dkySealComplete _ => true
  | .dkySigSubmit _ vi value => within vi 1024 && within value (2 ^ 32)
  | .dkySigVerified _ _ => true
  | .dkyWindowExpire _ => true
  | .wakeNPresenceHold _ _ => true
  | .presenceExpire _ => true
  | .idnReportRequest _ vi value => within vi 1024 && within value (2 ^ 32)
  | .idnReportReady _ => true
  | .identityKeygen _ => true
  | .tokPoll _ n _ => within n 8
  | .tokSelect _ n _ => within n 8
  | .tokAuth1Reply _ n _ => within n 8
  | .tokAuth2Reply _ n _ => within n 8
  | .tokReadReply _ n _ => within n 8
  | .tokReplyTimeout _ n => within n 8
  | .tokPing _ n _ => within n 8
  | .tokPingRetry _ n _ => within n 8
  | .tokLockoutExpire _ n => within n 8
  | .tokIdleStop _ n => within n 8
  | .tokPollEnable _ vi n value => within vi 1024 && within n 8 && within value (2 ^ 32)
  | .tokRelayTimeExpire _ n => within n 8
  | .tokFrontendFault _ n => within n 8
  | .pwrTargetRun _ vi => within vi 1024
  | .pwrTargetIdle _ vi => within vi 1024
  | .pwrTargetSleep _ vi => within vi 1024
  | .pwrTargetDeep _ vi => within vi 1024
  | .pwrTargetOff _ vi => within vi 1024
  | .domainDrainComplete _ domain => within domain 22
  | .domainDrainAbort _ domain => within domain 22
  | .ladderStateReached _ domain => domain.all (within · 22)
  | .pwrDRequest _ vi domain value => within vi 1024 && within domain 22 && within value (2 ^ 32)
  | .domainWakeTimeout _ domain => within domain 22
  | .padRelease _ vi value => within vi 1024 && within value (2 ^ 32)
  | .watchRequest _ vi value => within vi 1024 && within value (2 ^ 32)
  | .watchEntry _ sec => within sec 26
  | .watchWake _ sec => within sec 26
  | .watchRunReached _ sec => within sec 26
  | .wakeNAssert _ => true
  | .pcieL1Exit _ => true
  | .budgetTick _ _ _ => true
  | .pmbusPoll _ rail _ _ => within rail 16
  | .railInvalid _ rail _ => within rail 16
  | .thermalTrip _ sensor _ => within sensor 128
  | .faultDetection _ source _ _ => within source 192
  | .faultForce _ vi page value => within vi 1024 && within page 16384 && within value (2 ^ 32)
  | .faultAck _ vi page value => within vi 1024 && within page 16384 && within value (2 ^ 32)
  | .faultRecordClear _ vi value => within vi 1024 && within value (2 ^ 32)
  | .corrWindow _ source => within source 192
  | .faultGraceExpire _ source _ => within source 192
  | .escalationRungComplete _ source _ => within source 192
  | .ladderEndTimeout _ source => within source 192
  | .spareTakeover _ source => within source 192
  | .domainResetReapply _ domain => within domain 22
  | .deviceReset _ => true
  | .bistStart _ vi page value => within vi 1024 && within page 16384 && within value (2 ^ 32)
  | .bistPeriodDue _ page => within page 16384
  | .bistDeferredStart _ page => within page 16384
  | .bistComplete _ page unit misr => within page 16384 && within unit 16 && within misr (2 ^ 32)
  | .joinStateTaken _ page => within page 16384
  | .joinTakeover _ page => within page 16384
  | .joinAbort _ page => within page 16384
  | .epochRequest _ vi value => within vi 1024 && within value (2 ^ 32)
  | .epochAutoExpire _ => true
  | .globalEpochStart _ => true
  | .globalEpochDurable _ => true
  | .globalEpochAonApply _ => true
  | .globalEpochAbort _ => true
  | .journalLogRoom _ _ => true
  | .journalRecordDurable _ _ => true
  | .powerFailWarning _ => true
  | .powerFailFlushed _ => true
  | .powerFailRelease _ => true
  | .porstAssert _ => true
  | .supplyUndervoltage _ _ => true
  | .startSequence _ _ _ straps failed => within straps 16 && failed.all (fun f => within f.1 16384 && within f.2 16)
  | .serviceReady _ => true
  | .rngReady _ => true
  | .rngHealthFail _ => true
  | .rngReseed _ => true
  | .rngDataRead _ vi => within vi 1024
  | .updOpen _ vi => within vi 1024
  | .updBlock _ vi => within vi 1024
  | .updBlockDma _ vi _ => within vi 1024
  | .updBlockWritten _ => true
  | .updVerify _ vi => within vi 1024
  | .updVerifyComplete _ => true
  | .updAbort _ vi => within vi 1024
  | .updConfirm _ vi => within vi 1024
  | .updReverse _ vi => within vi 1024
  | .updRecover _ vi => within vi 1024
  | .activationStandbyReady _ => true
  | .unitImageSwap _ unit => within unit 108
  | .trialWarn _ => true
  | .trialTimeout _ => true
  | .reverseHandover _ => true
  | .reverseComplete _ => true
  | .keeperDebugHalt _ _ => true
  | .vaonPowerUp _ => true
  | .trefInRestored _ => true
  | .xcvrThermalRecover _ n => within n 8
  | .canErrorDetected _ n _ => within n 16
  | .zwReservedLongWord _ core => within core 98

end Sys2Proof
end

section
/-! SUPPORT. The plain write of a register (R8, R41, R74): what the active value and the shadow hold after it, bit by bit. -/

namespace Sys2Proof.Machine

/-! ## Words and masks -/

theorem testBit_mod_word (v i : Nat) (h : i < 32) : (v % 2 ^ 32).testBit i = v.testBit i := by
  rw [Nat.testBit_mod_two_pow, decide_eq_true h, Bool.true_and]

theorem testBit_maskOf (m v i : Nat) : (maskOf m v).testBit i = (v.testBit i && m.testBit i) := Nat.testBit_and v m i

/-- `maxWord - m` is the complement of a word. -/
theorem testBit_maxWord_sub (m i : Nat) (hm : m < 2 ^ 32) (hi : i < 32) : (maxWord - m).testBit i = !m.testBit i := by
  have h : maxWord - m = 2 ^ 32 - (m + 1) := by
    simp only [maxWord]
    omega
  rw [h, Nat.testBit_two_pow_sub_succ hm, decide_eq_true hi, Bool.true_and]

theorem fieldMask_lt (lo w n : Nat) (h : lo + w ≤ n) : (2 ^ w - 1) * 2 ^ lo < 2 ^ n :=
  calc (2 ^ w - 1) * 2 ^ lo < 2 ^ w * 2 ^ lo := Nat.mul_lt_mul_of_pos_right (Nat.sub_lt (Nat.two_pow_pos w) one_pos) (Nat.two_pow_pos lo)
    _ = 2 ^ (lo + w) := by ring
    _ ≤ 2 ^ n := Nat.pow_le_pow_right two_pos h

theorem testBit_fieldMask (lo w i : Nat) (h : i < w) : ((2 ^ w - 1) * 2 ^ lo).testBit (lo + i) = true := by
  simp [Nat.testBit_mul_two_pow, h]

/-- Two values hold the same in a field when they agree on its bits. -/
theorem fieldOf_congr (lo w u v : Nat) (h : ∀ i, i < w → u.testBit (lo + i) = v.testBit (lo + i)) :
    fieldOf lo w u = fieldOf lo w v := by
  apply Nat.eq_of_testBit_eq
  intro i
  rw [testBit_fieldOf, testBit_fieldOf]
  by_cases hi : i < w
  · rw [h i hi]
  · simp [hi]

/-! ## Registers of the state after a write -/

@[simp] theorem State.rd_wr (s : State) (k v : Nat) : (s.wr k v).rd k = v % 2 ^ 32 := s.bus.rd_wr k v

theorem State.rd_wr_ne (s : State) (k v j : Nat) (h : j ≠ k) : (s.wr k v).rd j = s.rd j := s.bus.rd_wr_ne k v j h

theorem State.bit_wr (s : State) (k v i : Nat) (h : i < 32) : (s.wr k v).bit k i = bitOf i v := by
  show bitOf i ((s.wr k v).rd k) = bitOf i v
  rw [State.rd_wr, bitOf_eq_testBit, bitOf_eq_testBit, testBit_mod_word v i h]

theorem State.fld_wr (s : State) (k v lo w : Nat) (h : lo + w ≤ 32) : (s.wr k v).fld k lo w = fieldOf lo w v := by
  show fieldOf lo w ((s.wr k v).rd k) = fieldOf lo w v
  rw [State.rd_wr]
  exact fieldOf_congr lo w _ _ fun i hi => testBit_mod_word v (lo + i) (by omega)

@[simp] theorem Bus.wrShadow_regs (b : Bus) (k v : Nat) : (b.wrShadow k v).regs = b.regs := rfl

@[simp] theorem Bus.rdShadow_wrShadow (b : Bus) (k v : Nat) : (b.wrShadow k v).rdShadow k = v % 2 ^ 32 := by
  have h : (b.wrShadow k v).rdShadow k = ((b.shadow.put (b.rdW k) k (BitVec.ofNat 32 v)).find (b.rdW k) k).toNat := rfl
  rw [h, SMap.find_put, BitVec.toNat_ofNat]

/-! ## Clamping (R41) -/

theorem clampAll_outside (lo w a b v : Nat) (h : fieldOf lo w v < a ∨ b < fieldOf lo w v) :
    clampAll [(lo, w, a, b)] v = (setFieldOf lo w (if fieldOf lo w v < a then a else b) v, true) := by
  by_cases ha : fieldOf lo w v < a
  · simp [clampAll, ha]
  · simp [clampAll, ha, h.resolve_left ha]

theorem clampAll_inside (lo w a b v : Nat) (ha : a ≤ fieldOf lo w v) (hb : fieldOf lo w v ≤ b) :
    clampAll [(lo, w, a, b)] v = (v, false) := by
  simp [clampAll, Nat.not_lt.mpr ha, Nat.not_lt.mpr hb]

/-! ## The word that a plain write leaves -/

/-- What a write of `v` leaves in a register that held `old`, where its RW bits take `x`: a 1 clears a W1C bit, and every bit with
neither code stays (Table 0-5). -/
def RegDef.merge (d : RegDef) (old v x : Nat) : Nat :=
  x ||| maskOf d.w1c (maskOf (maxWord - v % 2 ^ 32) old) ||| maskOf (maxWord - (d.rw ||| d.w1c)) old

theorem RegDef.testBit_merge (d : RegDef) (old v x i : Nat) (hrw : d.rw < 2 ^ 32) (hw : d.w1c < 2 ^ 32) (hi : i < 32) :
    (d.merge old v x).testBit i = (x.testBit i || (old.testBit i && !v.testBit i && d.w1c.testBit i)
      || (old.testBit i && !(d.rw.testBit i || d.w1c.testBit i))) := by
  simp only [RegDef.merge, Nat.testBit_or, testBit_maskOf, testBit_maxWord_sub _ i (Nat.or_lt_two_pow hrw hw) hi,
    testBit_maxWord_sub _ i (Nat.mod_lt v (Nat.two_pow_pos 32)) hi, testBit_mod_word v i hi]

theorem RegDef.bitOf_merge (d : RegDef) (old v i : Nat) (hd : d.rw &&& d.w1c = 0) (hrw : d.rw < 2 ^ 32) (hw : d.w1c < 2 ^ 32)
    (hi : i < 32) : bitOf i (d.merge old v (maskOf d.rw v)) =
      if bitOf i d.rw then bitOf i v else if bitOf i d.w1c then bitOf i old && !bitOf i v else bitOf i old := by
  have hapart : (d.rw.testBit i && d.w1c.testBit i) = false := by rw [← Nat.testBit_and, hd, Nat.zero_testBit]
  simp only [bitOf_eq_testBit, d.testBit_merge old v _ i hrw hw hi, testBit_maskOf]
  cases hr : d.rw.testBit i
  · cases d.w1c.testBit i <;> simp
  · have hc : d.w1c.testBit i = false := by simpa [hr] using hapart
    simp [hc]

/-- A register whose RW bits are one field, and that has no W1C bit, holds in that field what the field takes. -/
theorem RegDef.fieldOf_merge (d : RegDef) (old v x lo w : Nat) (hc : d.w1c = 0) (hrw : d.rw = (2 ^ w - 1) * 2 ^ lo)
    (hl : lo + w ≤ 32) : fieldOf lo w (d.merge old v x) = fieldOf lo w x := by
  refine fieldOf_congr lo w _ _ fun i hi => ?_
  rw [d.testBit_merge old v x (lo + i) (hrw ▸ fieldMask_lt lo w 32 hl) (by omega) (by omega), hrw, hc, testBit_fieldMask lo w i hi]
  simp

/-- The mask of a field keeps the field. -/
theorem fieldOf_maskOf_fieldMask (lo w v : Nat) : fieldOf lo w (maskOf ((2 ^ w - 1) * 2 ^ lo) v) = fieldOf lo w v :=
  fieldOf_congr lo w _ _ fun i hi => by rw [testBit_maskOf, testBit_fieldMask lo w i hi, Bool.and_true]

/-! ## The plain write -/

/-- A write of a register without shadowed bits merges the clamped value, and reports a configuration error where it clamped. -/
theorem State.codedWrite_of_clampAll (s : State) (vi k v x : Nat) (c : Bool) (sp : Spot) (d : RegDef) (hs : d.rws = 0)
    (hx : clampAll d.clamps (maskOf d.rw v) = (x, c)) : s.codedWrite vi sp d k v =
      if c then (s.wr k (d.merge (s.rd k) v x)).cfgErrAt vi sp else s.wr k (d.merge (s.rd k) v x) := by
  simp [State.codedWrite, hs, hx, RegDef.merge]

theorem State.codedWrite_shadowed (s : State) (vi k v : Nat) (sp : Spot) (d : RegDef) (hs : d.rws ≠ 0)
    (hf : s.shadowFrozen sp = false) : s.codedWrite vi sp d k v =
      s.on (·.wrShadow k (maskOf d.rws v ||| maskOf (maxWord - d.rws) (s.bus.rdShadow k))) := by
  simp [State.codedWrite, State.shadowSet, hs, hf]

theorem State.codedWrite_frozen (s : State) (vi k v : Nat) (sp : Spot) (d : RegDef) (hs : d.rws ≠ 0)
    (hf : s.shadowFrozen sp = true) : s.codedWrite vi sp d k v = s.writeLost sp := by
  simp [State.codedWrite, State.shadowSet, hs, hf]

/-- A lost write sets a bit of the page's header or of the window, and no shadow. -/
@[simp] theorem State.writeLost_shadow (s : State) (sp : Spot) : (s.writeLost sp).bus.shadow = s.bus.shadow := by
  unfold State.writeLost
  split <;> rfl

/-- RW bits take the value, each 1 clears a W1C bit, and the rest stays (R8). -/
theorem State.codedWrite_bits (s : State) (vi k v : Nat) (sp : Spot) (d : RegDef) (hs : d.rws = 0) (hcl : d.clamps = [])
    (hd : d.rw &&& d.w1c = 0) (hrw : d.rw < 2 ^ 32) (hw : d.w1c < 2 ^ 32) :
    (∀ i, i < 32 → (s.codedWrite vi sp d k v).bit k i =
      if bitOf i d.rw then bitOf i v else if bitOf i d.w1c then s.bit k i && !bitOf i v else s.bit k i) ∧
    (∀ j, j ≠ k → (s.codedWrite vi sp d k v).rd j = s.rd j) := by
  have hx : clampAll d.clamps (maskOf d.rw v) = (maskOf d.rw v, false) := by rw [hcl]; rfl
  rw [s.codedWrite_of_clampAll vi k v _ _ sp d hs hx, if_neg Bool.false_ne_true]
  exact ⟨fun i hi => (s.bit_wr k _ i hi).trans (d.bitOf_merge (s.rd k) v i hd hrw hw hi), s.rd_wr_ne k _⟩

section OneField
variable (s : State) (vi k v lo w a b : Nat) (sp : Spot) (d : RegDef) (hs : d.rws = 0) (hcl : d.clamps = [(lo, w, a, b)])
  (hc : d.w1c = 0) (hrw : d.rw = (2 ^ w - 1) * 2 ^ lo) (hl : lo + w ≤ 32)
include hs hcl hc hrw hl

/-- A field outside its range takes the nearer end, and the write is a configuration error (R41). -/
theorem State.codedWrite_outside (ha : a ≤ b) (hb : b < 2 ^ w) (h : fieldOf lo w v < a ∨ b < fieldOf lo w v) :
    ∃ u : State, s.codedWrite vi sp d k v = u.cfgErrAt vi sp ∧
      u.fld k lo w = (if fieldOf lo w v < a then a else b) ∧ ∀ j, j ≠ k → u.rd j = s.rd j := by
  have hm : fieldOf lo w (maskOf d.rw v) = fieldOf lo w v := by rw [hrw, fieldOf_maskOf_fieldMask]
  have hx : clampAll d.clamps (maskOf d.rw v) =
      (setFieldOf lo w (if fieldOf lo w v < a then a else b) (maskOf d.rw v), true) := by
    rw [hcl, clampAll_outside lo w a b _ (by rwa [hm]), hm]
  have hend : (if fieldOf lo w v < a then a else b) < 2 ^ w := by
    split <;> omega
  refine ⟨_, (s.codedWrite_of_clampAll vi k v _ _ sp d hs hx).trans (if_pos rfl), ?_, s.rd_wr_ne k _⟩
  rw [State.fld_wr _ _ _ _ _ hl, d.fieldOf_merge _ _ _ lo w hc hrw hl, fieldOf_setFieldOf, Nat.mod_eq_of_lt hend]

/-- A field within its range takes the value written. -/
theorem State.codedWrite_inside (ha : a ≤ fieldOf lo w v) (hb : fieldOf lo w v ≤ b) :
    (s.codedWrite vi sp d k v).fld k lo w = fieldOf lo w v ∧ ∀ j, j ≠ k → (s.codedWrite vi sp d k v).rd j = s.rd j := by
  have hm : fieldOf lo w (maskOf d.rw v) = fieldOf lo w v := by rw [hrw, fieldOf_maskOf_fieldMask]
  have hx : clampAll d.clamps (maskOf d.rw v) = (maskOf d.rw v, false) := by
    rw [hcl, clampAll_inside lo w a b _ (by rwa [hm]) (by rwa [hm])]
  rw [s.codedWrite_of_clampAll vi k v _ _ sp d hs hx, if_neg Bool.false_ne_true]
  exact ⟨by rw [State.fld_wr _ _ _ _ _ hl, d.fieldOf_merge _ _ _ lo w hc hrw hl, hm], s.rd_wr_ne k _⟩

end OneField

/-- A write of an RWS register sets the shadow bits and leaves every active value (R8, R74). -/
theorem State.codedWrite_shadow_bits (s : State) (vi k v : Nat) (sp : Spot) (d : RegDef) (hs : d.rws ≠ 0) (hlt : d.rws < 2 ^ 32)
    (hf : s.shadowFrozen sp = false) : (s.codedWrite vi sp d k v).bus.regs = s.bus.regs ∧
      ∀ i, i < 32 → bitOf i ((s.codedWrite vi sp d k v).bus.rdShadow k) =
        if bitOf i d.rws then bitOf i v else bitOf i (s.bus.rdShadow k) := by
  rw [s.codedWrite_shadowed vi k v sp d hs hf, State.on_bus]
  refine ⟨Bus.wrShadow_regs _ _ _, fun i hi => ?_⟩
  rw [Bus.rdShadow_wrShadow]
  simp only [bitOf_eq_testBit, testBit_mod_word _ i hi, Nat.testBit_or, testBit_maskOf, testBit_maxWord_sub d.rws i hlt hi]
  cases d.rws.testBit i <;> simp

/-- Settles O7: each access code by the law of the write that it allows. -/
theorem registerBitsFollowTheirAccessCodes : Obligations.RegisterBitsFollowTheirAccessCodes := by
  unfold Obligations.RegisterBitsFollowTheirAccessCodes
  refine ⟨State.codedWrite_bits, ?_, ?_, ?_⟩
  · intro s vi k v lo w a b sp d hs hcl hc hrw hl ha hb
    exact ⟨s.codedWrite_outside vi k v lo w a b sp d hs hcl hc hrw hl ha hb, s.codedWrite_inside vi k v lo w a b sp d hs hcl hc hrw hl⟩
  · exact State.codedWrite_shadow_bits
  · intro s vi k v sp d hs hf
    exact ⟨s.codedWrite_frozen vi k v sp d hs hf, s.writeLost_shadow sp⟩

end Sys2Proof.Machine
end

section
/-! SUPPORT. Endpoint records (R15, R16, R221): the endpoint table after a write, and what applying a record does to it. -/

namespace Sys2Proof.Machine

/-! ## The endpoint table -/

@[simp] theorem State.ep_setEp (s : State) (i : Nat) (e : Ep) : (s.setEp i e).ep i = e :=
  SMap.find_put s.val.eps Ep.init e i

theorem State.ep_setEp_ne (s : State) (i j : Nat) (e : Ep) (h : j ≠ i) : (s.setEp i e).ep j = s.ep j :=
  SMap.find_put_ne s.val.eps Ep.init Ep.init e i j h

@[simp] theorem State.ep_addWrap (s : State) (k n i : Nat) : (s.addWrap k n).ep i = s.ep i := rfl

@[simp] theorem State.ep_addSat (s : State) (k n i : Nat) : (s.addSat k n).ep i = s.ep i := rfl

/-! ## One record -/

/-- A record replaces a value unless it is older than one of known age; age unknown replaces age unknown alone (R15, R16). -/
theorem tcReplaces_iff (new old : CapTime) : tcReplaces new old = true ↔ ∀ o, old = some o → ∃ n, new = some n ∧ o ≤ n := by
  cases new <;> cases old <;> simp [tcReplaces]

theorem State.applyRecord_of_replaces (s : State) (i v q f inh : Nat) (tc : CapTime) (slot : Option Nat)
    (h : tcReplaces tc (s.ep i).tc = true) : s.applyRecord i v q f tc inh slot =
      (s.setEp i { s.ep i with value := v, quality := q, flags := f, tc := tc, inherit := inh, slot := slot, bySet := slot.isNone }, true) :=
  if_pos h

theorem State.applyRecord_of_older (s : State) (i v q f inh : Nat) (tc : CapTime) (slot : Option Nat)
    (h : ¬ tcReplaces tc (s.ep i).tc = true) : s.applyRecord i v q f tc inh slot = (s, false) :=
  if_neg h

/-! ## The records of a frame -/

/-- The value of endpoint `i` has a known capture time, not earlier than `old`. -/
def State.TcFrom (s : State) (i old : Nat) : Prop := ∃ new, (s.ep i).tc = some new ∧ old ≤ new

/-- Whatever endpoint a record names, no endpoint's capture time moves backwards. -/
theorem State.TcFrom.applyRecord {s : State} {i old : Nat} (h : s.TcFrom i old) (j v q f inh : Nat) (tc : CapTime)
    (slot : Option Nat) : (s.applyRecord j v q f tc inh slot).1.TcFrom i old := by
  by_cases hr : tcReplaces tc (s.ep j).tc = true
  · rw [s.applyRecord_of_replaces j v q f inh tc slot hr]
    by_cases hij : i = j
    · subst hij
      obtain ⟨cur, hcur, hle⟩ := h
      obtain ⟨new, hnew, hle'⟩ := (tcReplaces_iff _ _).mp hr cur hcur
      exact ⟨new, by simpa using hnew, hle.trans hle'⟩
    · rw [State.TcFrom, State.ep_setEp_ne _ _ _ _ hij]
      exact h
  · rwa [s.applyRecord_of_older j v q f inh tc slot hr]

/-- A frame's records are applied one after the other, so that none moves an endpoint backwards (R220, R221). -/
theorem State.TcFrom.applyFrame {s : State} {i old : Nat} (h : s.TcFrom i old) (k : Nat) (p : Pkt) (pl : List Byte) :
    (s.applyFrame k p pl).TcFrom i old := by
  unfold State.applyFrame
  refine List.foldlRecOn (motive := fun a : State => a.TcFrom i old) _ _ h fun a ha n _ => ?_
  dsimp only
  split
  · exact ha
  · have hrec := fun e => ha.applyRecord e (valRecord pl n).2.1 (valRecord pl n).2.2.1 (valRecord pl n).2.2.2 (beAt pl 24 2) p.tc (some k)
    split <;> exact hrec _

/-- Settles O26: a record acts exactly where `tcReplaces` holds, and a frame is a sequence of records. -/
theorem recordsNeverMoveAnEndpointBackwards : Obligations.RecordsNeverMoveAnEndpointBackwards := by
  unfold Obligations.RecordsNeverMoveAnEndpointBackwards
  refine ⟨?_, ?_, ?_, ?_⟩
  · intro s i v q f inh old new slot hold hlt
    refine s.applyRecord_of_older i v q f inh _ slot fun hr => ?_
    obtain ⟨n, hn, hle⟩ := (tcReplaces_iff _ _).mp hr old hold
    cases hn
    omega
  · intro s i v q f inh old slot hold
    refine s.applyRecord_of_older i v q f inh _ slot fun hr => ?_
    obtain ⟨n, hn, -⟩ := (tcReplaces_iff _ _).mp hr old hold
    cases hn
  · intro s i v q f inh new slot hle
    have hr : tcReplaces (some new) (s.ep i).tc = true := (tcReplaces_iff _ _).mpr fun o ho => ⟨new, rfl, hle o ho⟩
    rw [s.applyRecord_of_replaces i v q f inh _ slot hr]
    exact ⟨rfl, s.ep_setEp i _, fun j hj => s.ep_setEp_ne i j _ hj⟩
  · intro s k p pl i old hold
    exact State.TcFrom.applyFrame ⟨old, hold, le_rfl⟩ k p pl

end Sys2Proof.Machine
end

section
/-! SUPPORT. The judge and the tile packets (R24, R195 to R206): SEGMENT_POST on a window's segment, the count of a stale window, and
TILE_PACKET_SEND where it sends and where it does not. -/

namespace Sys2Proof.Machine

/-! ## The judge -/

theorem Canvas.modFrame_cur (x : Canvas) (f : CFrame) (g : CFrame → CFrame) (h : x.cur = some f) :
    x.modFrame false g = { x with cur := some (g f) } := by
  simp [Canvas.modFrame, h]

/-- The frame after the verdict `st` on the segment of the post `y` (R203): a stale verdict latches the window. -/
def CFrame.judged (f : CFrame) (y : Seg) (st : Bool) : CFrame :=
  { f with
    segs := f.segs.map (fun z => if z.same y then { z with verdict := some st } else z)
    latched := if st && !f.latched.contains y.idx then y.idx :: f.latched else f.latched }

theorem CFrame.judged_true (f : CFrame) (y : Seg) : f.judged y true = { f with
    segs := f.segs.map (fun z => if z.same y then { z with verdict := some true } else z)
    latched := if f.latched.contains y.idx then f.latched else y.idx :: f.latched } := by
  cases h : f.latched.contains y.idx <;> simp only [CFrame.judged, h] <;> rfl

/-- SEGMENT_POST on the segment of a window in the frame in progress: the verdict is recorded, and the window is told (R203 to R205). -/
theorem execSegmentPost_window (dt c : Nat) (s : State) (f : CFrame) (y : Seg) (hf : (s.canvas c).cur = some f)
    (hy : earliest f.segs = some y) (hc : y.cell = false) :
    execSegmentPost dt c s = .next
      (let s1 := (s.tick dt).setCanvas c { s.canvas c with cur := some (f.judged y ((s.tick dt).winVerdict c (s.geo c) f y)) }
       if (s.tick dt).winVerdict c (s.geo c) f y then (s1.windowStale f y.idx).countStale c y.tile else s1.windowFresh f y.idx) := by
  have hx : (s.tick dt).canvas c = s.canvas c := rfl
  have hg : (s.tick dt).geo c = s.geo c := rfl
  simp only [execSegmentPost, hx, hg, Canvas.frame, hf, hy, hc, Option.isNone_some, Bool.false_eq_true, if_false,
    Canvas.modFrame_cur _ f _ hf]
  rfl

/-- A window latched in a frame stays stale in it (R30). -/
theorem State.winVerdict_of_latched (s : State) (c : Nat) (g : Geo) (f : CFrame) (y : Seg) (h : y.idx ∈ f.latched) :
    s.winVerdict c g f y = true := by
  simp [State.winVerdict, h]

/-! ## The count of a stale window -/

theorem keyOff_rkVi (page off vi : Nat) (ho : off < 4096) : keyOff (rkVi page off vi) = off := by
  unfold keyOff keyAddr rkVi; omega

theorem keyOff_evKey (page off who : Nat) (ho : off < 4096) : keyOff (evKey page off who) = off := by
  unfold evKey
  split
  · exact keyOff_rkVi page off who ho
  · exact keyOff_rk page off ho

/-- An occurrence caused by an entry changes no register but an EVT_PEND and those of the reporting. -/
theorem State.rd_raiseEntry (s : State) (hr : s.bus.Ranged) (blk : Block) (bit entry k : Nat) (hk : keyOff k ≠ hdrEvtPend)
    (hq : reportKey k = false) : (s.raiseEntry blk bit entry).rd k = s.rd k := by
  refine (Bus.raiseEntry_reported s.bus hr blk bit entry [_] (List.mem_singleton_self _)).regs k (fun hm => hk ?_) hq
  rw [List.mem_singleton.mp hm, keyOff_evKey _ _ _ (by decide)]

/-- The registers of a window's slot stand apart from the page header and from the registers of the reporting. -/
theorem winReg_apart (w off : Nat) (hw : w < 1024) (h1 : 0x100 ≤ off) (h2 : off < 0x180) :
    keyOff (winReg w off) ≠ hdrEvtPend ∧ reportKey (winReg w off) = false := by
  have hp : Block.win.pg (w / 4) = 0x2200 + w / 4 := rfl
  unfold winReg
  rw [hp]
  refine ⟨?_, reportKey_rk _ _ (by omega) (by omega) (by omega)⟩
  rw [keyOff_rk _ _ (by omega), hdrEvtPend]
  omega

theorem winReg_ne (w off off' : Nat) (h : off ≠ off') : winReg w off ≠ winReg w off' := by
  unfold winReg rk
  omega

/-- The first stale verdict on a window after a fresh frame is counted once, and remembered for EV241 (R205). -/
theorem State.windowStale_counted (s : State) (f : CFrame) (w : Nat) (hr : s.bus.Ranged) (hw : w < 1024) (hl : w ∉ f.latched)
    (hs : w ∉ s.comp.wasStale) : w ∈ (s.windowStale f w).comp.wasStale ∧
      (s.windowStale f w).rd (winReg w R.WIN_CNT_STALE) = min (s.rd (winReg w R.WIN_CNT_STALE) + 1) 0xFFFFFFFF := by
  obtain ⟨hk, hq⟩ := winReg_apart w R.WIN_CNT_STALE hw (by decide) (by decide)
  have hl' : f.latched.contains w = false := by simpa using hl
  have hs' : s.comp.wasStale.contains w = false := by simpa using hs
  have h1 := Bus.setBit_reported s.bus (winReg w R.WIN_STATUS) 1 true [winReg w R.WIN_STATUS, winReg w R.WIN_CNT_STALE] (.inl (by simp))
  have h2 := h1.trans (Bus.addSat_reported _ (winReg w R.WIN_CNT_STALE) 1 _ (.inl (by simp)))
  simp only [State.windowStale, hl', hs', State.addSat_comp, State.setBit_comp, State.raiseEntry_comp, Bool.false_eq_true, if_false]
  refine ⟨List.mem_cons_self, ?_⟩
  rw [State.rd_raiseEntry _ (hr.of_reported h2) _ _ _ _ hk hq]
  calc _ = ((s.bus.setBit (winReg w R.WIN_STATUS) 1 true).addSat (winReg w R.WIN_CNT_STALE) 1).rd (winReg w R.WIN_CNT_STALE) := rfl
    _ = _ := by rw [Bus.rd_addSat, Bus.rd_setBit_ne _ _ _ _ _ (winReg_ne w _ _ (by decide))]; rfl

/-! ## Tile packets -/

/-- A tile line without segments has none that is late (R206). -/
theorem State.lateSegs_of_posts_nil (s : State) (c : Nat) (g : Geo) (f : CFrame) (lane tile k : Nat) (late : List Nat)
    (h : s.posts c g f tile (k / max 1 g.npl) = []) : s.lateSegs c g f lane tile k late = s := by
  simp [State.lateSegs, h]

/-- TILE_PACKET_SEND of a tile whose logical lane no lane serves (R211). -/
theorem execTilePacketSend_of_no_lane (dt c tile k : Nat) (late : List Nat) (s : State)
    (h : s.laneOf (tileLane s.rd c tile) = none) : execTilePacketSend dt c tile k late s = .next (s.tick dt) := by
  have hl : (s.tick dt).laneOf (tileLane (s.tick dt).rd c tile) = none := h
  unfold execTilePacketSend
  dsimp only
  rw [hl]
  cases ((s.tick dt).canvas c).cur <;> rfl

/-- TILE_PACKET_SEND of a packet that was sent or passed over (R195, R211). -/
theorem execTilePacketSend_of_sent (dt c tile k : Nat) (late : List Nat) (s : State)
    (h : k < (s.canvas c).sent.find 0 tile) : execTilePacketSend dt c tile k late s = .next (s.tick dt) := by
  have hs : ¬ ((s.tick dt).canvas c).sent.find 0 tile ≤ k := Nat.not_le_of_lt h
  unfold execTilePacketSend
  dsimp only
  split
  · rw [if_neg fun hc => hs hc.2.2.1]
  · rfl

/-- TILE_PACKET_SEND of a packet that is due, on a line without segments: packets passed over keep their sequence numbers, and the
packet is handed to the crossbar at its scheduled time (R195 to R197, R211). -/
theorem execTilePacketSend_of_due (dt c tile k lane : Nat) (s : State) (f : CFrame) (hf : (s.canvas c).cur = some f)
    (hl : s.laneOf (tileLane s.rd c tile) = some lane) (ht : tile ∈ s.tiles s.rd c) (hk : k < (s.geo c).npl * (s.geo c).tileH)
    (hs : (s.canvas c).sent.find 0 tile ≤ k) (hn : (s.geo c).packetAt f.start k ≤ (s.tick dt).cnvNow (s.geo c)) (hcut : f.cut = none)
    (hr : (s.tick dt).lineReady (tileLane s.rd c tile) (s.geo c)
      ((s.geo c).packetAt f.start (k / max 1 (s.geo c).npl * (s.geo c).npl)) = true)
    (hd : s.bus.domRuns (19 + laneDie lane) = true) (hp : (s.tick dt).posts c (s.geo c) f tile (k / max 1 (s.geo c).npl) = []) :
    execTilePacketSend dt c tile k [] s = .next
      (((s.tick dt).setCanvas c { s.canvas c with
          seqs := (s.canvas c).seqs.put 0 tile
            ((((s.canvas c).seqs.find 0 tile + (k - (s.canvas c).sent.find 0 tile)) % 2 ^ 32 + 1) % 2 ^ 32)
          sent := (s.canvas c).sent.put 0 tile (k + 1) }).tileHand c tile lane ((s.geo c).packetAt f.start k / max 1 (s.geo c).q)
        ((s.tick dt).tileFrame c tile ((s.tick dt).tilePayload c (s.geo c) f tile k
          (((s.canvas c).seqs.find 0 tile + (k - (s.canvas c).sent.find 0 tile)) % 2 ^ 32)))) := by
  have hx : (s.tick dt).canvas c = s.canvas c := rfl
  have hg : (s.tick dt).geo c = s.geo c := rfl
  have hrd : (s.tick dt).rd = s.rd := rfl
  have hl' : (s.tick dt).laneOf (tileLane s.rd c tile) = some lane := hl
  have ht' : ((s.tick dt).tiles s.rd c).contains tile = true := List.contains_iff_mem.mpr ht
  have hd' : (s.tick dt).bus.domRuns (19 + laneDie lane) = true := hd
  unfold execTilePacketSend
  simp only [hx, hg, hrd, hf, hl', hcut, State.lateSegs_of_posts_nil _ _ _ _ _ _ _ _ hp, Option.getD_some]
  rw [if_pos ⟨ht', hk, hs, hn, trivial, hr, hd'⟩]

/-- Settles O24: the judge's verdict by `execSegmentPost_window`, the count of a stale window, and the cases of TILE_PACKET_SEND. -/
theorem segmentsAreJudgedAndTilePacketsSent : Obligations.SegmentsAreJudgedAndTilePacketsSent := by
  unfold Obligations.SegmentsAreJudgedAndTilePacketsSent
  refine ⟨?_, ?_, ?_, ?_, ?_, ?_, ?_⟩
  · intro dt c s f y hf hy hc hv
    refine (execSegmentPost_window dt c s f y hf hy hc).trans ?_
    rw [hv]
    rfl
  · intro dt c s f y hf hy hc hv
    refine (execSegmentPost_window dt c s f y hf hy hc).trans ?_
    rw [hv, f.judged_true]
    rfl
  · exact State.winVerdict_of_latched
  · exact State.windowStale_counted
  · rintro dt c tile k lane s f _ _ rfl rfl hf hl ht hk hs hn hcut hr hd hp
    exact execTilePacketSend_of_due dt c tile k lane s f hf hl ht hk hs hn hcut hr hd hp
  · intro dt c tile k late s f _ h
    exact execTilePacketSend_of_no_lane dt c tile k late s h
  · intro dt c tile k late s f _ h
    exact execTilePacketSend_of_sent dt c tile k late s h

end Sys2Proof.Machine
end

section
/-! SUPPORT. The state right after reset (R8, R40, R77, R82, R113). -/

namespace Sys2Proof.Machine

/-- Every register holds its reset value (R8). -/
theorem State.rd_reset (k : Nat) : State.reset.rd k = resetNat k % 2 ^ 32 := BitVec.toNat_ofNat (resetNat k) 32

/-- Settles O2: every register by `State.rd_reset`; the single registers and the states of the engines are read from their rows. -/
theorem resetLeavesWhatTheSpecStates : Obligations.ResetLeavesWhatTheSpecStates := by
  unfold Obligations.ResetLeavesWhatTheSpecStates
  refine ⟨State.rd_reset, ?_, ?_, ?_, fun _ => rfl, fun _ => rfl, ?_, ?_, ?_, ?_, rfl, rfl⟩ <;> decide

end Sys2Proof.Machine
end

section
/-! SUPPORT. Registers below the keeper pages (Table 3-4) under the reporting of an event and under a fault detection. Reporting books
into the pages of keepers and VIs and into EVT_PEND of VIM, so the frame needs nothing of the grant table (compare `Bus.Reported`). -/

namespace Sys2Proof.Machine

/-- What is not a register leaves every register. -/
theorem Bus.rd_of_regs {b c : Bus} (h : c.regs = b.regs) (k : Nat) : c.rd k = b.rd k := by
  simp only [Bus.rd, Bus.rdW, h]

@[simp] theorem Bus.setEvt_rd (b : Bus) (c i k : Nat) : (b.setEvt c i).rd k = b.rd k := Bus.rd_of_regs rfl k

@[simp] theorem Bus.stepSeq_rd (b : Bus) (vi k : Nat) : (b.stepSeq vi).rd k = b.rd k := Bus.rd_of_regs rfl k

@[simp] theorem Bus.sendMsix_rd (b : Bus) (vi vec k : Nat) : (b.sendMsix vi vec).rd k = b.rd k := Bus.rd_of_regs rfl k

section
variable {k : Nat} (hk : k < rk (Block.keeper.pg 0) 0)
include hk

theorem ne_keeperKey_of_lt (b : Bus) (off : Nat) : k ≠ rk b.keeperPage off := by
  simp only [Bus.keeperPage, Block.pg, Block.base, rk] at hk ⊢
  omega

theorem ne_viKey_of_lt (vi off : Nat) : k ≠ rk (viPage vi) off := by
  simp only [viPage, Block.pg, Block.base, rk] at hk ⊢
  omega

theorem ne_rkSel_of_lt (page off sel : Nat) : k ≠ rkSel page off sel := by
  simp only [Block.pg, Block.base, rk, rkSel] at hk ⊢
  omega

/-- EVT_PEND is one register of the page, or the copy of a VI (R80). -/
theorem ne_evKey_of_lt (page off who : Nat) (h : k ≠ rk page off) : k ≠ evKey page off who := by
  simp only [Block.pg, Block.base, rk] at hk
  unfold evKey
  split
  · unfold rkVi
    omega
  · exact h

theorem Bus.rd_keeperStore (b : Bus) (r : EvRec) : (b.keeperStore r).1.rd k = b.rd k := by
  have hne := ne_keeperKey_of_lt hk b
  unfold Bus.keeperStore
  extract_lets p tail head a m
  clear_value tail head a m
  split
  · exact (Bus.rd_setBit_ne _ _ _ _ _ (hne _)).trans (b.rd_addSat_ne _ _ _ (hne _))
  · rw [Bus.setEvt_rd, Bus.rd_addWrap_ne _ _ _ _ (hne _)]
    exact Bus.rd_of_regs rfl k

theorem Bus.rd_viLost (b : Bus) (vi : Nat) :
    ((b.addSat (rk (viPage vi) R.VI_EVQ_LOST) 1).setBit (rk (viPage vi) R.VI_STATUS) 3 true).rd k = b.rd k :=
  (Bus.rd_setBit_ne _ _ _ _ _ (ne_viKey_of_lt hk vi _)).trans (b.rd_addSat_ne _ _ _ (ne_viKey_of_lt hk vi _))

end

theorem Bus.rd_foldl {β : Type} {k : Nat} (l : List β) (f : Bus → β → Bus) (h : ∀ c x, (f c x).rd k = c.rd k) (b : Bus) :
    (l.foldl f b).rd k = b.rd k := by
  induction l generalizing b with
  | nil => rfl
  | cons x t ih => exact (ih (f b x)).trans (h b x)

@[simp] theorem Bus.rd_fireRoutes (b : Bus) (page evn k : Nat) : (b.fireRoutes page evn).rd k = b.rd k := by
  unfold Bus.fireRoutes
  exact Bus.rd_foldl _ _ (fun c _ => c.setEvt_rd _ _ k) b

@[simp] theorem Bus.rd_msixFor (b : Bus) (vi evn k : Nat) : (b.msixFor vi evn).1.rd k = b.rd k := by
  unfold Bus.msixFor
  dsimp only
  split
  · split
    · exact b.sendMsix_rd vi _ k
    · rfl
  · rfl

/-! ## The delivery of a record -/

section
variable {k : Nat} (hk : k < rk (Block.keeper.pg 0) 0) (hv : k ≠ rk vimPage hdrEvtPend)
include hk hv

theorem Bus.rd_raiseOverflow (b : Bus) : b.raiseOverflow.rd k = b.rd k := by
  have hp : ((b.setBit (rk vimPage hdrEvtPend) 3 true).fireRoutes vimPage 7).rd k = b.rd k :=
    (Bus.rd_fireRoutes _ _ _ _).trans (b.rd_setBit_ne _ _ _ _ hv)
  unfold Bus.raiseOverflow
  dsimp only
  split
  · rfl
  · split
    · rw [Bus.rd_keeperStore hk, Bus.stepSeq_rd, hp]
    · exact hp

theorem Bus.rd_toKeeper (b : Bus) (r : EvRec) : (b.toKeeper r).rd k = b.rd k := by
  have hs : ((b.stepSeq 0).keeperStore r).1.rd k = b.rd k := by
    rw [Bus.rd_keeperStore hk, Bus.stepSeq_rd]
  unfold Bus.toKeeper
  dsimp only
  split
  · exact (Bus.rd_raiseOverflow hk hv _).trans hs
  · exact hs

theorem Bus.rd_hostStore (b : Bus) (vi : Nat) (r : EvRec) : (b.hostStore vi r).1.rd k = b.rd k := by
  unfold Bus.hostStore
  dsimp only
  split
  · exact (Bus.rd_raiseOverflow hk hv _).trans (Bus.rd_viLost hk b vi)
  · rw [Bus.rd_addWrap_ne _ _ _ _ (ne_viKey_of_lt hk vi _)]
    simp only [Bus.emit_rd]

theorem Bus.rd_viVectorError (b : Bus) (vi : Nat) : (b.viVectorError vi).rd k = b.rd k := by
  have hs : ∀ r, (((b.setBit (rk (viPage vi) hdrPageStatus) 2 true).stepSeq vi).hostStore vi r).1.rd k = b.rd k := fun r => by
    rw [Bus.rd_hostStore hk hv, Bus.stepSeq_rd, b.rd_setBit_ne _ _ _ _ (ne_viKey_of_lt hk vi _)]
  unfold Bus.viVectorError
  dsimp only
  split
  · rfl
  · split
    · exact (Bus.rd_msixFor _ _ _ _).trans (hs _)
    · exact hs _

theorem Bus.rd_toHost (b : Bus) (vi evn : Nat) (r : EvRec) : (b.toHost vi evn r).rd k = b.rd k := by
  have hs : ((b.stepSeq vi).hostStore vi r).1.rd k = b.rd k := by
    rw [Bus.rd_hostStore hk hv, Bus.stepSeq_rd]
  have hm := (Bus.rd_msixFor ((b.stepSeq vi).hostStore vi r).1 vi evn k).trans hs
  unfold Bus.toHost
  dsimp only
  split
  · split
    · split
      · exact (Bus.rd_viVectorError hk hv _ vi).trans hm
      · exact hm
    · exact hs
  · rfl

theorem Bus.rd_toNet (b : Bus) (vi : Nat) (r : EvRec) : (b.toNet vi r).rd k = b.rd k := by
  unfold Bus.toNet
  dsimp only
  split
  · rw [Bus.emit_rd, Bus.stepSeq_rd]
  · split
    · exact Bus.rd_of_regs rfl k
    · rw [Bus.rd_raiseOverflow hk hv, Bus.rd_viLost hk, Bus.stepSeq_rd]

theorem Bus.rd_deliver (b : Bus) (vi page bit evn : Nat) (entry : Option Nat) : (b.deliver vi page bit evn entry).rd k = b.rd k := by
  unfold Bus.deliver
  dsimp only
  split
  · exact Bus.rd_toKeeper hk hv b _
  · split
    · exact Bus.rd_toHost hk hv b vi evn _
    · exact Bus.rd_toNet hk hv b vi _

/-- An occurrence of an event changes no register below the keeper pages but EVT_PEND of its page and of VIM. -/
theorem Bus.rd_raiseAt (b : Bus) (page phys bit who : Nat) (extra : List Nat) (entry : Option Nat) (hp : k ≠ rk page hdrEvtPend) :
    (b.raiseAt page phys bit who extra entry).rd k = b.rd k := by
  have hs : ((b.setBit (evKey page hdrEvtPend who) bit true).fireRoutes phys (eventNumber page bit)).rd k = b.rd k :=
    (Bus.rd_fireRoutes _ _ _ _).trans (b.rd_setBit_ne _ _ _ _ (ne_evKey_of_lt hk page hdrEvtPend who hp))
  unfold Bus.raiseAt
  dsimp only
  split
  · rfl
  · split
    · exact (Bus.rd_foldl _ _ (fun c vi => Bus.rd_deliver hk hv c vi _ _ _ _) _).trans hs
    · exact hs

end

/-! ## The detection of a fault -/

/-- The sources of Table 15-1 stand on the pages below BST (Table 3-4). -/
theorem fsPage_lt_bst (fs : Nat) (h : fsKnown fs = true) : fsPage fs < Block.bst.pg 0 := by
  have hf : fs < 240 := by
    simp only [fsKnown, List.any_cons, List.any_nil, Bool.or_false, Bool.or_eq_true, Bool.and_eq_true, decide_eq_true_eq] at h
    omega
  show 0x21 + fs / 16 < 0x30
  omega

@[simp] theorem Bus.rd_noteCorr (b : Bus) (fs k : Nat) : (b.noteCorr fs).rd k = b.rd k := by
  unfold Bus.noteCorr
  split
  · exact Bus.rd_of_regs rfl k
  · rfl

/-- The record of a fault is booked in FLT and in FAULT_FIRST of the unit's page and of the source's page (R427). -/
theorem Bus.rd_capture (b : Bus) (fs : Nat) (u : FaultAt) (k : Nat) (hf : ∀ off, off < 4096 → k ≠ rk (Block.flt.pg 0) off)
    (hs : k ≠ rk (fsPage fs) hdrFaultFirst) (hu : k ≠ rk u.page hdrFaultFirst) : (b.capture fs u).rd k = b.rd k := by
  unfold Bus.capture
  extract_lets held ty r
  split
  · split
    · exact Bus.rd_of_regs rfl k
    · rfl
  · split
    · rw [Bus.incFldSat, Bus.rd_setFld_ne _ _ _ _ _ _ (hf _ (by decide)), b.rd_setBit_ne _ _ _ _ (hf _ (by decide))]
    · extract_lets b1 b2
      have h1 : b1.rd k = b.rd k := (Bus.rd_wr_ne _ _ _ _ hu).trans (Bus.rd_of_regs rfl k)
      have h2 : b2.rd k = b1.rd k := by
        unfold b2
        split
        · exact Bus.rd_wr_ne _ _ _ _ hs
        · rfl
      exact ((Bus.rd_setFld_ne _ _ _ _ _ _ (hf _ (by decide))).trans h2).trans h1

theorem Bus.rd_startGrace (b : Bus) (fs page addr k : Nat) (h : k ≠ fsKey fs R.FLT_SRC_STATUS) :
    (b.startGrace fs page addr).rd k = b.rd k := by
  unfold Bus.startGrace
  dsimp only
  split
  · rfl
  · rw [Bus.arm_rd, Bus.rd_setFld_ne _ _ _ _ _ _ h]
    exact Bus.rd_of_regs rfl k

/-- A detection changes no register of the pages between the fault sources and the keepers (BST, TIM, GPT and PIN, Table 3-4) but
FAULT_FIRST of the unit's page. -/
theorem Bus.rd_fault (b : Bus) (fs : Nat) (u : FaultAt) {k : Nat} (hl : rk (Block.bst.pg 0) 0 ≤ k) (hk : k < rk (Block.keeper.pg 0) 0)
    (hu : k ≠ rk u.page hdrFaultFirst) : (b.fault fs u).rd k = b.rd k := by
  unfold Bus.fault
  dsimp only
  split
  · next hfs =>
    have hlow : ∀ page off, page < Block.bst.pg 0 → off < 4096 → k ≠ rk page off := by
      intro page off hp ho
      simp only [rk] at hl ⊢
      omega
    have hsrc : ∀ off, k ≠ fsKey fs off := fun off => ne_rkSel_of_lt hk _ off _
    have hpage := fun off (ho : off < 4096) => hlow (fsPage fs) off (fsPage_lt_bst fs hfs) ho
    refine (Bus.rd_startGrace _ _ _ _ _ (hsrc _)).trans ?_
    refine (Bus.rd_raiseAt hk (hlow _ _ (by decide) (by decide)) _ _ _ _ _ _ _ (hpage _ (by decide))).trans ?_
    refine (Bus.rd_capture _ fs u k (fun off ho => hlow _ off (by decide) ho) (hpage _ (by decide)) hu).trans ?_
    refine (Bus.rd_setBit_ne _ _ _ _ _ (hsrc _)).trans ?_
    rw [Bus.rd_noteCorr]
    exact b.rd_addSat_ne _ _ _ (hsrc _)
  · rfl

end Sys2Proof.Machine
end

section
/-! SUPPORT. The references and the PLLs (R43, R47, Table 2-1, Table 2-10). -/

namespace Sys2Proof.Machine

theorem State.rd_setBit_ne (s : State) (k i : Nat) (v : Bool) (j : Nat) (h : j ≠ k) : (s.setBit k i v).rd j = s.rd j :=
  s.bus.rd_setBit_ne k i v j h

theorem State.bit_setBit (s : State) (k i : Nat) (v : Bool) (h : i < 32) : (s.setBit k i v).bit k i = v := s.bus.bit_setBit k i v h

theorem State.bit_setBit_ne (s : State) (k i : Nat) (v : Bool) (j : Nat) (hi : i < 32) (h : j ≠ i) :
    (s.setBit k i v).bit k j = s.bit k j := by
  show bitOf j ((s.bus.setBit k i v).rd k) = bitOf j (s.bus.rd k)
  rw [s.bus.rd_setBit k i v hi, bitOf_setBitOf_ne j i v _ h]

/-- TIM_STATE does not change with TREF_LOST, nor with the detection of a fault of the timebase. -/
theorem State.timState_trefLost_fault (s : State) (v : Bool) (fs : Nat) :
    ((s.setBit (timKey R.TIM_CTRL) 5 v).fault fs { page := timPage }).timState = s.timState := by
  have h : ((s.setBit (timKey R.TIM_CTRL) 5 v).fault fs { page := timPage }).rd (timKey R.TIM_STATE) = s.rd (timKey R.TIM_STATE) :=
    (Bus.rd_fault _ fs _ (by decide) (by decide) (by decide)).trans (s.rd_setBit_ne _ _ _ _ (by decide))
  exact congrArg (fieldOf 0 2) h

theorem execTrefInLoss_of_not_holdover (dt : Nat) (s : State) (h : s.timState ≠ 2) :
    exec (.trefInLoss dt) s = .next (((s.tick dt).setBit (timKey R.TIM_CTRL) 5 true).fault 8 { page := timPage }) := by
  have hs : (((s.tick dt).setBit (timKey R.TIM_CTRL) 5 true).fault 8 { page := timPage }).timState ≠ 2 := by
    rw [State.timState_trefLost_fault]
    exact h
  exact congrArg Host.Outcome.next (if_neg hs)

theorem execTrefInRestored_clears (dt : Nat) (s : State) :
    ∃ t, exec (.trefInRestored dt) s = .next t ∧ t.bit (timKey R.TIM_CTRL) 5 = false ∧
      (∀ i, i ≠ 5 → t.bit (timKey R.TIM_CTRL) i = s.bit (timKey R.TIM_CTRL) i) ∧ (s.tick dt).After t [timKey R.TIM_CTRL] :=
  ⟨(s.tick dt).setBit (timKey R.TIM_CTRL) 5 false, rfl, (s.tick dt).bit_setBit _ 5 false (by decide),
    fun i hi => (s.tick dt).bit_setBit_ne _ 5 false i (by decide) hi, (State.After.refl _ _).setBit _ _ _ (List.mem_singleton_self _)⟩

/-- The first loss of lock takes the standby (R47). -/
theorem execPllUnlock_of_standby (dt clk : Nat) (s : State) (h : clk ∉ s.tim.noStandby) : exec (.pllUnlock dt clk) s =
    .next (({ s.tick dt with tim := { s.tim with noStandby := clk :: s.tim.noStandby } } : State).fault 12
      { page := timPage, addr := clk }) :=
  congrArg Host.Outcome.next (if_neg (mt List.contains_iff_mem.mp h))

/-- A loss of lock with no standby stops the domains of the clock (R47). -/
theorem execPllUnlock_of_no_standby (dt clk : Nat) (s : State) (h : clk ∈ s.tim.noStandby) : exec (.pllUnlock dt clk) s =
    .next (((s.tick dt).on (·.haltDoms (domsOfClk clk))).fault 15 { page := timPage, addr := clk }) :=
  congrArg Host.Outcome.next (if_pos (List.contains_iff_mem.mpr h))

/-- The clock `clk` has its standby again. -/
def State.standbyBack (s : State) (clk : Nat) : State :=
  { s with tim := { s.tim with noStandby := s.tim.noStandby.filter (· != clk) } }

theorem State.mem_standbyBack (s : State) (clk c : Nat) :
    c ∈ (s.standbyBack clk).tim.noStandby ↔ c ∈ s.tim.noStandby ∧ c ≠ clk := by
  simp [State.standbyBack]

theorem execPllStandbyRestored_of_mem (dt clk : Nat) (s : State) (h : clk ∈ s.tim.noStandby) :
    exec (.pllStandbyRestored dt clk) s = .next (((s.tick dt).standbyBack clk).raise timPage 6) :=
  congrArg Host.Outcome.next (if_pos (List.contains_iff_mem.mpr h))

theorem execPllStandbyRestored_of_not_mem (dt clk : Nat) (s : State) (h : clk ∉ s.tim.noStandby) :
    exec (.pllStandbyRestored dt clk) s = .next (s.tick dt) :=
  congrArg Host.Outcome.next (if_neg (mt List.contains_iff_mem.mp h))

/-- The recalibrated PLL is the standby of its clock alone, and EV70 is pending (R47). -/
theorem execPllStandbyRestored_returns (dt clk : Nat) (s : State) (hr : s.bus.Ranged) (h : clk ∈ s.tim.noStandby) :
    ∃ t, exec (.pllStandbyRestored dt clk) s = .next t ∧ clk ∉ t.tim.noStandby ∧
      (∀ c, c ≠ clk → (c ∈ t.tim.noStandby ↔ c ∈ s.tim.noStandby)) ∧ t.pend timPage 6 = true ∧
      ({ s.tick dt with tim := { s.tim with noStandby := t.tim.noStandby } } : State).After t [pendKey timPage] := by
  have hmem := (s.tick dt).mem_standbyBack clk
  have hb : ((s.tick dt).standbyBack clk).bus.Ranged := hr
  refine ⟨_, execPllStandbyRestored_of_mem dt clk s h, ?_, ?_, ?_, ?_⟩
  · exact fun hc => ((hmem clk).mp hc).2 rfl
  · exact fun c hc => (hmem c).trans (and_iff_left hc)
  · exact State.pend_raise _ hb timPage 6 (by decide) (by decide) (by decide)
  · exact (State.After.refl _ _).raise hb timPage 6 (by decide) (List.mem_singleton_self _)

/-- Settles O8: the loss of TREF_IN by the frame `Bus.rd_fault`, which keeps TIM_STATE; the losses of the other references as the
commands give them; the PLLs by whether the clock has a standby. -/
theorem referencesAndPllsFailAndReturn : Obligations.ReferencesAndPllsFailAndReturn := by
  unfold Obligations.ReferencesAndPllsFailAndReturn
  refine ⟨execTrefInLoss_of_not_holdover, execTrefInRestored_clears, ?refclk, ?pcie, ?xtal, execPllUnlock_of_standby,
    execPllUnlock_of_no_standby, execPllStandbyRestored_returns, execPllStandbyRestored_of_not_mem⟩
  case refclk => exact fun _ _ => rfl
  case pcie => exact fun _ _ => rfl
  case xtal => exact fun _ _ => rfl

end Sys2Proof.Machine
end

section
/-! SUPPORT. The step on the queue of commands; the reset state; a write by a VI to one page (R85, R91, R92). -/

namespace Sys2Proof.Machine

theorem step_of_cons (c : Instr) (rest : List Instr) (s : State) (h : s.pending = c :: rest) :
    step s = exec c { s with pending := rest } := by
  simp only [step, h]

theorem step_of_nil (s : State) (h : s.pending = []) : step s = .next (s.tick 1) := by
  simp only [step, h]

/-- Settles O1: the two cases of the queue. -/
theorem aStepRunsTheFrontCommand : Obligations.AStepRunsTheFrontCommand :=
  ⟨step_of_cons, step_of_nil⟩

/-- Settles O3: every table that the invariant speaks of is empty at reset. -/
theorem resetIsSound : Obligations.ResetIsSound where
  regs := rfl
  ranged := ⟨fun _ hp => (List.not_mem_nil hp).elim, Nat.zero_lt_two⟩
  recs := fun _ hp => (List.not_mem_nil hp).elim
  pair := Nat.zero_lt_two

/-- Every command of `pageCommand` is a guarded write to its page. -/
theorem exec_of_pageCommand (c : Instr) (dt vi page : Nat) (s : State) (h : pageCommand c = some (dt, vi, page)) :
    ∃ f, exec c s = .next ((s.tick dt).guardWrite vi page f) := by
  unfold pageCommand at h
  split at h <;> cases h <;> exact ⟨_, rfl⟩

/-- Settles O5: the three refusals of a guarded write. -/
theorem aPageOutOfReachIsLeftAlone : Obligations.APageOutOfReachIsLeftAlone := by
  intro c dt vi page s h
  obtain ⟨f, hf⟩ := exec_of_pageCommand c dt vi page s h
  rw [hf]
  refine ⟨fun ha => ?_, fun ha hu => ?_, fun ha hu => ?_⟩
  · rw [State.guardWrite_none (s.tick dt) vi page f ha]
  · rw [State.guardWrite_late (s.tick dt) vi page f ha hu]
  · rw [State.guardWrite_denied (s.tick dt) vi page f ha hu]

end Sys2Proof.Machine
end

section
/-! SUPPORT. The invariant of the block (`State.Sound`) under every operation of the model (R90, R427, R463). What it speaks of is written by
a few operations alone: `Bus.tick`, `Bus.wr`, the resets that drop registers, `Bus.setGrant`, the first-error records and the moves of the
keeper pair. Each operation has one lemma, named after it: `Bus.SoundFrom.foo` and `State.SoundFrom.foo` say that `foo` keeps the invariant,
`execFoo_ends` that the command does. They stand in the order of the model's files, and each proof follows the body of its operation. -/

namespace Sys2Proof.Machine

/-- What the invariant of the block says of the page network, at a time no earlier than `τ`. -/
structure Bus.SoundFrom (τ : Nat) (b : Bus) : Prop where
  regs : b.regs.wf resetWord = true
  ranged : b.Ranged
  recs : ∀ p ∈ b.recs.cells, 1 ≤ p.1 ∧ p.1 ≤ 255
  now : τ ≤ b.now

/-- The invariant of the block, at a time no earlier than `τ`. -/
structure State.SoundFrom (τ : Nat) (s : State) : Prop where
  bus : s.bus.SoundFrom τ
  pair : s.boot.lastPair < 2

/-- A command that answers a next state leaves the invariant at a time no earlier than `τ`. -/
def Ends (τ : Nat) (r : Res) : Prop := ∀ t, r = .next t → t.SoundFrom τ

theorem Ends.next {τ : Nat} {t : State} (h : t.SoundFrom τ) : Ends τ (.next t) := by
  rintro _ ⟨⟩
  exact h

theorem State.Sound.soundFrom {s : State} (h : s.Sound) : s.SoundFrom s.bus.now := ⟨⟨h.regs, h.ranged, h.recs, le_rfl⟩, h.pair⟩

theorem State.SoundFrom.sound {τ : Nat} {s : State} (h : s.SoundFrom τ) : s.Sound ∧ τ ≤ s.bus.now := by
  obtain ⟨⟨hregs, hranged, hrecs, hnow⟩, hpair⟩ := h
  exact ⟨⟨hregs, hranged, hrecs, hpair⟩, hnow⟩

section
variable {τ : Nat} {β : Type}

theorem Bus.SoundFrom.ite {p : Prop} [Decidable p] {b c : Bus} (hb : b.SoundFrom τ) (hc : c.SoundFrom τ) :
    (if p then b else c).SoundFrom τ := by
  split <;> assumption

theorem Bus.SoundFrom.foldl {b : Bus} {l : List β} {f : Bus → β → Bus} (h : b.SoundFrom τ)
    (hf : ∀ c x, c.SoundFrom τ → (f c x).SoundFrom τ) : (l.foldl f b).SoundFrom τ :=
  List.foldlRecOn l f h fun c hc x _ => hf c x hc

theorem Bus.SoundFrom.fst_ite {p : Prop} [Decidable p] {b c : Bus × β} (hb : b.1.SoundFrom τ) (hc : c.1.SoundFrom τ) :
    (if p then b else c).1.SoundFrom τ := by
  split <;> assumption

theorem State.SoundFrom.ite {p : Prop} [Decidable p] {s t : State} (hs : s.SoundFrom τ) (ht : t.SoundFrom τ) :
    (if p then s else t).SoundFrom τ := by
  split <;> assumption

theorem State.SoundFrom.foldl {s : State} {l : List β} {f : State → β → State} (h : s.SoundFrom τ)
    (hf : ∀ t x, t.SoundFrom τ → (f t x).SoundFrom τ) : (l.foldl f s).SoundFrom τ :=
  List.foldlRecOn l f h fun t ht x _ => hf t x ht

theorem State.SoundFrom.fst_ite {p : Prop} [Decidable p] {s t : State × β} (hs : s.1.SoundFrom τ) (ht : t.1.SoundFrom τ) :
    (if p then s else t).1.SoundFrom τ := by
  split <;> assumption

theorem State.SoundFrom.fst_foldl {α : Type} {s : State} {a : α} {l : List β} {f : State × α → β → State × α}
    (h : s.SoundFrom τ) (hf : ∀ t x, t.1.SoundFrom τ → (f t x).1.SoundFrom τ) : (l.foldl f (s, a)).1.SoundFrom τ :=
  List.foldlRecOn (motive := fun t => t.1.SoundFrom τ) l f h fun t ht x _ => hf t x ht

/-- A refused command leaves the state it was given. -/
theorem State.SoundFrom.get {s : State} {r : Res} (h : s.SoundFrom τ) (hr : Ends τ r) : (r.get s).SoundFrom τ := by
  unfold Res.get
  split
  · exact hr _ rfl
  · exact h

/-- The pair last active apart, the invariant speaks of the page network alone. -/
theorem State.SoundFrom.of_bus {s t : State} (h : s.SoundFrom τ) (hb : t.bus.SoundFrom τ)
    (hp : t.boot.lastPair = s.boot.lastPair := by rfl) : t.SoundFrom τ := ⟨hb, hp ▸ h.pair⟩

/-- What the invariant does not speak of may change. -/
theorem Bus.SoundFrom.frame {b c : Bus} (h : b.SoundFrom τ)
    (hc : (c.regs, c.grants, c.keeper, c.recs, c.now) = (b.regs, b.grants, b.keeper, b.recs, b.now)) : c.SoundFrom τ := by
  simp only [Prod.mk.injEq] at hc
  obtain ⟨hregs, hgrants, hkeeper, hrecs, hnow⟩ := hc
  exact ⟨hregs ▸ h.regs, by simpa only [Bus.Ranged, hgrants, hkeeper] using h.ranged, hrecs ▸ h.recs, hnow ▸ h.now⟩

/-- What the invariant does not speak of may change. -/
theorem State.SoundFrom.frame {s t : State} (h : s.SoundFrom τ) (ht : (t.bus, t.boot.lastPair) = (s.bus, s.boot.lastPair)) :
    t.SoundFrom τ := by
  simp only [Prod.mk.injEq] at ht
  obtain ⟨hb, hp⟩ := ht
  exact ⟨hb ▸ h.bus, hp ▸ h.pair⟩

end

/-! ### Sys2Proof/Machine/Ops.lean -/

section
variable {τ : Nat} {b : Bus}

theorem Bus.SoundFrom.tick {dt} (h : b.SoundFrom τ) : (b.tick dt).SoundFrom τ := by
  obtain ⟨hregs, hranged, hrecs, hnow⟩ := h
  exact ⟨hregs, hranged, hrecs, hnow.trans (Nat.le_add_right _ dt)⟩

theorem Bus.SoundFrom.wr {k v} (h : b.SoundFrom τ) : (b.wr k v).SoundFrom τ := by
  obtain ⟨hregs, hranged, hrecs, hnow⟩ := h
  exact ⟨SMap.wf_put _ _ _ _ hregs, hranged, hrecs, hnow⟩

/-- Registers that are dropped return to reset. -/
theorem Bus.SoundFrom.filterRegs {p} (h : b.SoundFrom τ) : ({ b with regs := ⟨b.regs.cells.filter p⟩ } : Bus).SoundFrom τ := by
  obtain ⟨hregs, hranged, hrecs, hnow⟩ := h
  exact ⟨SMap.wf_filter _ _ _ hregs, hranged, hrecs, hnow⟩

/-- A first-error record takes a number of R427. -/
theorem Bus.SoundFrom.setRec {i r} (h : b.SoundFrom τ) (hi : 1 ≤ i ∧ i ≤ 255) :
    ({ b with recs := b.recs.set i r } : Bus).SoundFrom τ := by
  obtain ⟨hregs, hranged, hrecs, hnow⟩ := h
  refine ⟨hregs, hranged, fun p hp => ?_, hnow⟩
  rcases (SMap.mem_set _ _ _ _).mp hp with rfl | ⟨hp, -⟩
  · exact hi
  · exact hrecs p hp

theorem Bus.SoundFrom.eraseRec {i} (h : b.SoundFrom τ) : ({ b with recs := b.recs.erase i } : Bus).SoundFrom τ := by
  obtain ⟨hregs, hranged, hrecs, hnow⟩ := h
  exact ⟨hregs, hranged, fun p hp => hrecs p ((SMap.mem_erase _ _ _).mp hp).1, hnow⟩

theorem Bus.SoundFrom.recs_range {i r} (h : b.SoundFrom τ) (hi : b.recs.find? i = some r) : 1 ≤ i ∧ i ≤ 255 := by
  obtain ⟨-, -, hrecs, -⟩ := h
  exact hrecs _ (SMap.mem_of_find? _ _ _ hi)

theorem Bus.SoundFrom.setKeeper {a} (h : b.SoundFrom τ) (ha : a < 2) : ({ b with keeper := a } : Bus).SoundFrom τ := by
  obtain ⟨hregs, ⟨hgrants, -⟩, hrecs, hnow⟩ := h
  exact ⟨hregs, ⟨hgrants, ha⟩, hrecs, hnow⟩

theorem Bus.SoundFrom.keeper_lt (h : b.SoundFrom τ) : b.keeper < 2 := by
  obtain ⟨-, ⟨-, hkeeper⟩, -, -⟩ := h
  exact hkeeper

theorem Bus.SoundFrom.wrShadow {k v} (h : b.SoundFrom τ) : (b.wrShadow k v).SoundFrom τ := h.frame rfl

theorem Bus.SoundFrom.setFld {k lo w v} (h : b.SoundFrom τ) : (b.setFld k lo w v).SoundFrom τ := h.wr

theorem Bus.SoundFrom.setBit {k i v} (h : b.SoundFrom τ) : (b.setBit k i v).SoundFrom τ := h.wr

theorem Bus.SoundFrom.addSat {k n} (h : b.SoundFrom τ) : (b.addSat k n).SoundFrom τ := h.wr

theorem Bus.SoundFrom.addWrap {k n} (h : b.SoundFrom τ) : (b.addWrap k n).SoundFrom τ := h.wr

theorem Bus.SoundFrom.incFldSat {k lo w} (h : b.SoundFrom τ) : (b.incFldSat k lo w).SoundFrom τ := h.setFld

theorem Bus.SoundFrom.emit {o} (h : b.SoundFrom τ) : (b.emit o).SoundFrom τ := h.frame rfl

theorem Bus.SoundFrom.nextFree (h : b.SoundFrom τ) : (b.nextFree).SoundFrom τ := h.frame rfl

theorem Bus.SoundFrom.arm {t clks} (h : b.SoundFrom τ) : (b.arm t clks).SoundFrom τ := h.frame rfl

theorem Bus.SoundFrom.disarm {t} (h : b.SoundFrom τ) : (b.disarm t).SoundFrom τ := h.frame rfl

theorem Bus.SoundFrom.stepSeq {vi} (h : b.SoundFrom τ) : (b.stepSeq vi).SoundFrom τ := h.frame rfl

theorem Bus.SoundFrom.setEvt {c i} (h : b.SoundFrom τ) : (b.setEvt c i).SoundFrom τ := h.frame rfl

theorem Bus.SoundFrom.fireRoutes {page evn} (h : b.SoundFrom τ) : (b.fireRoutes page evn).SoundFrom τ :=
  h.foldl fun _ _ ha => ha.setEvt

theorem Bus.SoundFrom.keeperStore {r} (h : b.SoundFrom τ) : (b.keeperStore r).1.SoundFrom τ :=
  .fst_ite h.addSat.setBit (.frame (Bus.SoundFrom.addWrap (.frame h rfl)) rfl)

theorem Bus.SoundFrom.raiseOverflow (h : b.SoundFrom τ) : (b.raiseOverflow).SoundFrom τ :=
  .ite h (.ite h.setBit.fireRoutes.stepSeq.keeperStore h.setBit.fireRoutes)

theorem Bus.SoundFrom.toKeeper {r} (h : b.SoundFrom τ) : (b.toKeeper r).SoundFrom τ :=
  .ite h.stepSeq.keeperStore.raiseOverflow h.stepSeq.keeperStore

theorem Bus.SoundFrom.hostStore {vi r} (h : b.SoundFrom τ) : (b.hostStore vi r).1.SoundFrom τ :=
  .fst_ite h.addSat.setBit.raiseOverflow h.emit.emit.emit.emit.addWrap

theorem Bus.SoundFrom.sendMsix {vi vec} (h : b.SoundFrom τ) : (b.sendMsix vi vec).SoundFrom τ := h.frame rfl

theorem Bus.SoundFrom.msixFor {vi evn} (h : b.SoundFrom τ) : (b.msixFor vi evn).1.SoundFrom τ :=
  .fst_ite (.fst_ite h.sendMsix h) h

theorem Bus.SoundFrom.viVectorError {vi} (h : b.SoundFrom τ) : (b.viVectorError vi).SoundFrom τ :=
  .ite h (.ite h.setBit.stepSeq.hostStore.msixFor h.setBit.stepSeq.hostStore)

theorem Bus.SoundFrom.toHost {vi evn r} (h : b.SoundFrom τ) : (b.toHost vi evn r).SoundFrom τ :=
  .ite (.ite (.ite h.stepSeq.hostStore.msixFor.viVectorError h.stepSeq.hostStore.msixFor) h.stepSeq.hostStore) h

theorem Bus.SoundFrom.toNet {vi r} (h : b.SoundFrom τ) : (b.toNet vi r).SoundFrom τ := by
  unfold Bus.toNet
  extract_lets b1
  have h1 : b1.SoundFrom τ := h.stepSeq
  split
  · exact h1.emit
  · exact .ite (h1.frame rfl) h1.addSat.setBit.raiseOverflow

theorem Bus.SoundFrom.deliver {vi page bit evn entry} (h : b.SoundFrom τ) : (b.deliver vi page bit evn entry).SoundFrom τ :=
  .ite h.toKeeper (.ite h.toHost h.toNet)

theorem Bus.SoundFrom.deliverAll {vis page bit evn entry} (h : b.SoundFrom τ) :
    (b.deliverAll vis page bit evn entry).SoundFrom τ :=
  h.foldl fun _ _ ha => ha.deliver

theorem Bus.SoundFrom.raiseAt {page phys bit who extra entry} (h : b.SoundFrom τ) :
    (b.raiseAt page phys bit who extra entry).SoundFrom τ :=
  .ite h (.ite h.setBit.fireRoutes.deliverAll h.setBit.fireRoutes)

theorem Bus.SoundFrom.raiseFor {page bit who extra} (h : b.SoundFrom τ) : (b.raiseFor page bit who extra).SoundFrom τ := h.raiseAt

theorem Bus.SoundFrom.raise {page bit} (h : b.SoundFrom τ) : (b.raise page bit).SoundFrom τ := h.raiseFor

theorem Bus.SoundFrom.raiseAlso {page bit extra} (h : b.SoundFrom τ) : (b.raiseAlso page bit extra).SoundFrom τ := h.raiseFor

theorem Bus.SoundFrom.raiseEntry {blk bit entry} (h : b.SoundFrom τ) : (b.raiseEntry blk bit entry).SoundFrom τ := h.raiseAt

theorem Bus.SoundFrom.cfgErrFor {page who} (h : b.SoundFrom τ) : (b.cfgErrFor page who).SoundFrom τ := .ite h h.setBit.deliver

theorem Bus.SoundFrom.cfgErrEntry {blk entry} (h : b.SoundFrom τ) : (b.cfgErrEntry blk entry).SoundFrom τ := h.cfgErrFor

theorem Bus.SoundFrom.cfgErr {page} (h : b.SoundFrom τ) : (b.cfgErr page).SoundFrom τ := h.cfgErrFor

theorem Bus.SoundFrom.denied (h : b.SoundFrom τ) : (b.denied).SoundFrom τ := h.addSat.raise

theorem Bus.SoundFrom.late {vi} (h : b.SoundFrom τ) : (b.late vi).SoundFrom τ := h.addSat.raiseAlso

/-- The number of a free record lies in the range searched. -/
theorem freeRec_range {m : SMap FaultRec} {k i j : Nat} (hj : freeRec m k i = some j) : i ≤ j ∧ j < i + k := by
  induction k generalizing i with
  | zero => cases hj
  | succ k ih =>
    unfold freeRec at hj
    split at hj
    · have := ih hj
      omega
    · cases hj
      omega

theorem Bus.SoundFrom.capture {fs u} (h : b.SoundFrom τ) : (b.capture fs u).SoundFrom τ := by
  unfold Bus.capture
  refine .ite ?_ ?_
  · split
    · next r hr => exact h.setRec (h.recs_range hr)
    · exact h
  · split
    · exact h.setBit.incFldSat
    · next i hi =>
      have hrec := fun r => h.setRec (i := i) (r := r) (by have := freeRec_range hi; omega)
      exact .setFld (.ite (.wr (.wr (hrec _))) (.wr (hrec _)))

theorem Bus.SoundFrom.startGrace {fs page addr} (h : b.SoundFrom τ) : (b.startGrace fs page addr).SoundFrom τ :=
  .ite h (.frame (Bus.SoundFrom.setFld (.frame h rfl)) rfl)

theorem Bus.SoundFrom.noteCorr {fs} (h : b.SoundFrom τ) : (b.noteCorr fs).SoundFrom τ := .ite (h.frame rfl) h

theorem Bus.SoundFrom.fault {fs u} (h : b.SoundFrom τ) : (b.fault fs u).SoundFrom τ :=
  .ite h.addSat.noteCorr.setBit.capture.raiseFor.startGrace h

theorem Bus.SoundFrom.haltDoms {ds} (h : b.SoundFrom τ) : (b.haltDoms ds).SoundFrom τ := h.frame rfl

theorem Bus.SoundFrom.claim {page slot} (h : b.SoundFrom τ) : (b.claim page slot).SoundFrom τ :=
  .ite h.setFld h.incFldSat.raiseAlso

theorem Bus.SoundFrom.releaseClaims {page} (h : b.SoundFrom τ) : (b.releaseClaims page).SoundFrom τ :=
  h.foldl fun _ _ ha => ha.setFld

end

section
variable {τ : Nat} {s : State}

theorem State.SoundFrom.on {f : Bus → Bus} (h : s.SoundFrom τ) (hf : ∀ c, c.SoundFrom τ → (f c).SoundFrom τ) :
    (s.on f).SoundFrom τ :=
  .of_bus h (hf _ h.bus)

theorem State.SoundFrom.tick {dt} (h : s.SoundFrom τ) : (s.tick dt).SoundFrom τ := h.on (fun _ ha => ha.tick)

theorem State.SoundFrom.wr {k v} (h : s.SoundFrom τ) : (s.wr k v).SoundFrom τ := h.on (fun _ ha => ha.wr)

theorem State.SoundFrom.setFld {k lo w v} (h : s.SoundFrom τ) : (s.setFld k lo w v).SoundFrom τ := h.on (fun _ ha => ha.setFld)

theorem State.SoundFrom.setBit {k i v} (h : s.SoundFrom τ) : (s.setBit k i v).SoundFrom τ := h.on (fun _ ha => ha.setBit)

theorem State.SoundFrom.addSat {k n} (h : s.SoundFrom τ) : (s.addSat k n).SoundFrom τ := h.on (fun _ ha => ha.addSat)

theorem State.SoundFrom.addWrap {k n} (h : s.SoundFrom τ) : (s.addWrap k n).SoundFrom τ := h.on (fun _ ha => ha.addWrap)

theorem State.SoundFrom.raise {page bit} (h : s.SoundFrom τ) : (s.raise page bit).SoundFrom τ := h.on (fun _ ha => ha.raise)

theorem State.SoundFrom.raiseAlso {page bit extra} (h : s.SoundFrom τ) : (s.raiseAlso page bit extra).SoundFrom τ :=
  h.on (fun _ ha => ha.raiseAlso)

theorem State.SoundFrom.raiseEntry {blk bit entry} (h : s.SoundFrom τ) : (s.raiseEntry blk bit entry).SoundFrom τ :=
  h.on (fun _ ha => ha.raiseEntry)

theorem State.SoundFrom.cfgErrEntry {blk entry} (h : s.SoundFrom τ) : (s.cfgErrEntry blk entry).SoundFrom τ :=
  h.on (fun _ ha => ha.cfgErrEntry)

theorem State.SoundFrom.cfgErr {page} (h : s.SoundFrom τ) : (s.cfgErr page).SoundFrom τ := h.on (fun _ ha => ha.cfgErr)

theorem State.SoundFrom.fault {fs u} (h : s.SoundFrom τ) : (s.fault fs u).SoundFrom τ := h.on (fun _ ha => ha.fault)

theorem State.SoundFrom.arm {t clks} (h : s.SoundFrom τ) : (s.arm t clks).SoundFrom τ := h.on (fun _ ha => ha.arm)

theorem State.SoundFrom.disarm {t} (h : s.SoundFrom τ) : (s.disarm t).SoundFrom τ := h.on (fun _ ha => ha.disarm)

theorem State.SoundFrom.emit {o} (h : s.SoundFrom τ) : (s.emit o).SoundFrom τ := h.on (fun _ ha => ha.emit)

theorem State.SoundFrom.ifThen {c} {f : State → State} (h : s.SoundFrom τ) (hf : ∀ t, t.SoundFrom τ → (f t).SoundFrom τ) :
    (s.ifThen c f).SoundFrom τ :=
  .ite (hf _ h) h

theorem State.SoundFrom.onExpiry {t} {f : State → State} (h : s.SoundFrom τ) (hf : ∀ t, t.SoundFrom τ → (f t).SoundFrom τ) :
    (s.onExpiry t f).SoundFrom τ :=
  .ite (hf _ h.disarm) h

theorem State.SoundFrom.guardWrite {vi page} {f : State → State} (h : s.SoundFrom τ)
    (hf : ∀ t, t.SoundFrom τ → (f t).SoundFrom τ) :
    (s.guardWrite vi page f).SoundFrom τ :=
  .ite h (.ite (h.on (fun _ ha => ha.late)) (.ite (h.on (fun _ ha => ha.denied)) (hf _ h)))

theorem State.SoundFrom.guardEntry {vi blk page entry} {f : State → State} (h : s.SoundFrom τ)
    (hf : ∀ t, t.SoundFrom τ → (f t).SoundFrom τ) :
    (s.guardEntry vi blk page entry f).SoundFrom τ :=
  .ite h (.ite (h.on (fun _ ha => ha.late)) (.ite (h.on (fun _ ha => ha.denied)) (hf _ h)))

theorem State.SoundFrom.readBy {vi page value} {f : State → State} (h : s.SoundFrom τ)
    (hf : ∀ t, t.SoundFrom τ → (f t).SoundFrom τ) :
    (s.readBy vi page value f).SoundFrom τ :=
  .ite h.emit (.ite (.emit (h.on (fun _ ha => ha.late))) (.ite h.emit (hf _ h.emit)))

end

/-! ### Sys2Proof/Machine/Journal.lean -/

section
variable {τ : Nat} {s : State}

theorem State.SoundFrom.jwrite {kind epoch group entries} (h : s.SoundFrom τ) : (s.jwrite kind epoch group entries).SoundFrom τ :=
  h.setFld.frame rfl

theorem State.SoundFrom.jconfig {kind entries} (h : s.SoundFrom τ) : (s.jconfig kind entries).SoundFrom τ := h.jwrite

theorem State.SoundFrom.journaled {w entries} {busy f : State → State} (h : s.SoundFrom τ)
    (hbusy : ∀ t, t.SoundFrom τ → (busy t).SoundFrom τ) (hf : ∀ t, t.SoundFrom τ → (f t).SoundFrom τ) :
    (s.journaled w entries busy f).SoundFrom τ :=
  .ite (h.on (fun _ ha => ha.late)) (.ite (.jconfig (hf _ h)) (hbusy _ (h.frame rfl)))

end

/-! ### Sys2Proof/Machine/Fabric.lean -/

section
variable {τ : Nat} {s : State}

theorem State.SoundFrom.chargeCis {n k c d} (h : s.SoundFrom τ) : (s.chargeCis n k c d).SoundFrom τ := by
  unfold State.chargeCis
  extract_lets _ _ _ _ s2 s3
  have h2 : s2.SoundFrom τ := .ite h.wr.wr.wr h.wr.wr
  have h3 : s3.SoundFrom τ := .ite h2.wr h2
  exact .ite h3.raise h3

theorem State.SoundFrom.cisCount {n off k c} (h : s.SoundFrom τ) : (s.cisCount n off k c).SoundFrom τ := h.addSat

theorem State.SoundFrom.refreshWell {q} (h : s.SoundFrom τ) : (s.refreshWell q).SoundFrom τ := .ite h.wr.wr h

theorem State.SoundFrom.setQueue {q l} (h : s.SoundFrom τ) : (s.setQueue q l).SoundFrom τ := by
  unfold State.setQueue
  exact .refreshWell (h.frame rfl)

theorem State.SoundFrom.takeOut {x} (h : s.SoundFrom τ) : (s.takeOut x).SoundFrom τ :=
  .ite h.setQueue.chargeCis h.setQueue.chargeCis.wr

theorem State.SoundFrom.watchPump {pump} (h : s.SoundFrom τ) : (s.watchPump pump).SoundFrom τ := .ite h h.arm

theorem State.SoundFrom.refreshMoves {q} (h : s.SoundFrom τ) : (s.refreshMoves q).SoundFrom τ :=
  .ite h.refreshWell.wr h.refreshWell

theorem State.SoundFrom.raiseWell {bit old new} (h : s.SoundFrom τ) : (s.raiseWell bit old new).SoundFrom τ :=
  .ite h.raiseEntry (.ite h.raiseEntry h.raise)

theorem State.SoundFrom.endMove {entry bit} (h : s.SoundFrom τ) : (s.endMove entry bit).SoundFrom τ := by
  unfold State.endMove
  split
  · exact h
  · exact .raiseWell (.refreshWell (.refreshMoves (.disarm (h.frame rfl))))

theorem State.SoundFrom.gone {p q} (h : s.SoundFrom τ) : (s.gone p q).SoundFrom τ := by
  unfold State.gone
  split
  · exact h
  · split
    · exact .ite h.endMove h
    · exact h

theorem State.SoundFrom.admitTests {p c charge} (h : s.SoundFrom τ) : (s.admitTests p c charge).1.SoundFrom τ := by
  unfold State.admitTests
  extract_lets _ _ _ _ _ _ _ s1 s2
  have h1 : s1.SoundFrom τ := h.frame rfl
  have h2 : s2.SoundFrom τ := h1.wr.on (fun _ ha => ha.nextFree)
  refine .fst_ite h.cisCount ?_
  refine .fst_ite h.cisCount ?_
  refine .fst_ite (.fst_ite h.cisCount h.cisCount.raise) ?_
  exact .fst_ite h2.cisCount (.fst_ite h2.cisCount h2.cisCount.raise)

theorem State.SoundFrom.admitCopy {p c charge cells unicast} (h : s.SoundFrom τ) :
    (s.admitCopy p c charge cells unicast).1.SoundFrom τ :=
  .fst_ite (.chargeCis (.setQueue (h.admitTests.frame rfl))) h.admitTests.gone

theorem State.SoundFrom.refreshStage {inp} (h : s.SoundFrom τ) : (s.refreshStage inp).SoundFrom τ := h.wr

theorem State.SoundFrom.setStage {inp l} (h : s.SoundFrom τ) : (s.setStage inp l).SoundFrom τ := by
  unfold State.setStage
  exact .refreshStage (h.frame rfl)

theorem State.SoundFrom.stagePut {inp p cls charge bad copies} (h : s.SoundFrom τ) :
    (s.stagePut inp p cls charge bad copies).SoundFrom τ :=
  .ite h (.ite h.setStage h.addSat.raise)

theorem State.SoundFrom.newId (h : s.SoundFrom τ) : (s.newId).1.SoundFrom τ := h.frame rfl

theorem State.SoundFrom.add64 {k n} (h : s.SoundFrom τ) : (s.add64 k n).SoundFrom τ := h.wr.wr

theorem State.SoundFrom.sendFrame {p l} (h : s.SoundFrom τ) : (s.sendFrame p l).SoundFrom τ := h.emit.add64.add64

end

/-! ### Sys2Proof/Machine/Streams.lean -/

section
variable {τ : Nat} {s : State}

theorem State.SoundFrom.setEntry {i e} (h : s.SoundFrom τ) : (s.setEntry i e).SoundFrom τ := h.frame rfl

theorem State.SoundFrom.strEvent {i bit} (h : s.SoundFrom τ) : (s.strEvent i bit).SoundFrom τ := h.wr.raiseEntry

theorem State.SoundFrom.setPair {k p} (h : s.SoundFrom τ) : (s.setPair k p).SoundFrom τ := h.frame rfl

theorem State.SoundFrom.mergeStep {i e pl} (h : s.SoundFrom τ) : (s.mergeStep i e pl).1.SoundFrom τ := by
  unfold State.mergeStep
  split
  · exact h
  · extract_lets _ _ _ s1
    have h1 : s1.SoundFrom τ := .ite h.strEvent h
    split
    · exact h1.setPair
    · refine .fst_ite h1.setPair.setEntry ?_
      refine .fst_ite (.fst_ite h1.setPair h1.setPair) ?_
      exact .fst_ite h1.setPair.setEntry (.fst_ite h1.setPair.setEntry h1.setPair)

theorem State.SoundFrom.setGrp {g x} (h : s.SoundFrom τ) : (s.setGrp g x).SoundFrom τ := h.frame rfl

theorem State.SoundFrom.plainCopies {f copies} (h : s.SoundFrom τ) : (s.plainCopies f copies).SoundFrom τ := h.newId.stagePut

theorem State.SoundFrom.trap {f} (h : s.SoundFrom τ) : (s.trap f).SoundFrom τ := by
  unfold State.trap
  extract_lets _ lost
  have hlost : lost.SoundFrom τ := .ite h.addSat.raise h
  refine .ite ?_ hlost
  split
  · exact .ite hlost h.plainCopies
  · exact hlost

theorem State.SoundFrom.missAction {f} (h : s.SoundFrom τ) : (s.missAction f).SoundFrom τ := by
  unfold State.missAction
  extract_lets s1
  have h1 : s1.SoundFrom τ := .ite h.addSat h
  refine .ite (.ite h1 h1.plainCopies) ?_
  split
  · exact h1.plainCopies
  · exact h1.trap
  · exact h1

theorem State.SoundFrom.matched {f i e0} (h : s.SoundFrom τ) : (s.matched f i e0).SoundFrom τ := by
  unfold State.matched
  extract_lets _ _ _ _ _ _ _ _ _ _ _ _ _ _ s2
  have h2 : s2.SoundFrom τ := .ite h.setEntry.strEvent h.setEntry
  refine .ite h.setEntry.strEvent ?_
  refine .ite h2 ?_
  refine .ite (.stagePut ((.newId ((.fst_ite h2 h2.mergeStep))))) ?_
  exact (.fst_ite h2 h2.mergeStep)

theorem State.SoundFrom.forward {f} (h : s.SoundFrom τ) : (s.forward f).SoundFrom τ := by
  unfold State.forward
  split
  · exact h.matched
  · exact h.missAction

theorem State.SoundFrom.strRefuse {vi page reason} (h : s.SoundFrom τ) : (s.strRefuse vi page reason).SoundFrom τ :=
  h.wr.on (fun _ ha => ha.cfgErrFor)

theorem State.SoundFrom.strGuard {vi page} {f : State → State} (h : s.SoundFrom τ) (hf : ∀ t, t.SoundFrom τ → (f t).SoundFrom τ) :
    (s.strGuard vi page f).SoundFrom τ :=
  .ite h (.ite (h.on (fun _ ha => ha.late)) (hf _ h))

theorem execStrRead_ends {dt vi page} (h : s.SoundFrom τ) : Ends τ (execStrRead dt vi page s) := by
  refine .next ?_
  refine h.tick.strGuard fun _ ha => ?_
  split
  · exact ha.strRefuse
  · exact .wr (.wr (.wr (.wr (.wr (ha.foldl fun _ _ hb => hb.wr)))))

theorem State.SoundFrom.repair {i e} (h : s.SoundFrom τ) : (s.repair i e).1.SoundFrom τ := by
  unfold State.repair
  extract_lets _ s1
  have h1 : s1.SoundFrom τ := h.frame rfl
  split
  · exact h1
  · split
    · exact h1
    · exact .fst_ite (.fst_ite h1 h1.setPair) h1

theorem State.SoundFrom.strInstall {w} (h : s.SoundFrom τ) : (s.strInstall w).SoundFrom τ := by
  unfold State.strInstall
  extract_lets _ _ _ _ s1 _ s2
  have h1 : s1.SoundFrom τ := (h.setEntry.repair)
  have h2 : s2.SoundFrom τ := by
    unfold s2
    split
    · refine .ite h1 ?_
      split
      · exact h1
      · exact .refreshMoves (.arm (h1.frame rfl))
    · exact h1
  exact .ite (h2.wr.on (fun _ ha => ha.cfgErrFor)) h2.wr

theorem State.SoundFrom.strWriteCmd {vi page keep} (h : s.SoundFrom τ) : (s.strWriteCmd vi page keep).SoundFrom τ := by
  unfold State.strWriteCmd
  refine h.strGuard fun _ ha => ?_
  split
  · exact ha.strRefuse
  · refine .ite (ha.on (fun _ hb => hb.denied)) ?_
    exact .ite ha.strRefuse (.ite (ha.setBit.frame rfl) ha.strInstall)

theorem execStrWrite_ends {dt vi page} (h : s.SoundFrom τ) : Ends τ (execStrWrite dt vi page s) := .next h.tick.strWriteCmd

theorem execStrWriteKeep_ends {dt vi page} (h : s.SoundFrom τ) : Ends τ (execStrWriteKeep dt vi page s) :=
  .next h.tick.strWriteCmd

theorem execStrWriteSlotWaitEnd_ends {dt vi page} (h : s.SoundFrom τ) : Ends τ (execStrWriteSlotWaitEnd dt vi page s) := by
  refine .next ?_
  split
  · exact h.tick
  · refine .ite h.tick ?_
    exact .ite (.setBit (.strInstall (h.tick.frame rfl))) (.strInstall (h.tick.frame rfl))

theorem execGrpRead_ends {dt vi page} (h : s.SoundFrom τ) : Ends τ (execGrpRead dt vi page s) := by
  refine .next ?_
  refine h.tick.strGuard fun _ ha => ?_
  split
  · exact ha.strRefuse
  · exact .wr (.wr (ha.foldl fun _ _ hb => hb.wr))

theorem execGrpWrite_ends {dt vi page} (h : s.SoundFrom τ) : Ends τ (execGrpWrite dt vi page s) := by
  refine .next ?_
  refine h.tick.strGuard fun _ ha => ?_
  split
  · exact ha.strRefuse
  · refine .ite (ha.on (fun _ hb => hb.denied)) ?_
    extract_lets
    refine .ite ha.strRefuse ?_
    split
    · exact ha.strRefuse
    · exact ha.setGrp.wr

theorem execMergeLegSilent_ends {dt entry} (h : s.SoundFrom τ) : Ends τ (execMergeLegSilent dt entry s) := by
  refine .next ?_
  split
  · exact .ite h.tick h.tick.setPair.strEvent
  · exact h.tick

theorem execMergePairSilent_ends {dt entry} (h : s.SoundFrom τ) : Ends τ (execMergePairSilent dt entry s) := by
  refine .next ?_
  split
  · exact .ite h.tick h.tick.setPair
  · exact h.tick

theorem State.SoundFrom.setDyn {g port v} (h : s.SoundFrom τ) : (s.setDyn g port v).SoundFrom τ := h.setGrp

theorem State.SoundFrom.toRouters {port frame} (h : s.SoundFrom τ) : (s.toRouters port frame).SoundFrom τ :=
  h.foldl fun _ _ ha => ha.sendFrame

theorem execSnoopReport_ends {dt port group v6 kind frame} (h : s.SoundFrom τ) :
    Ends τ (execSnoopReport dt port group v6 kind frame s) := by
  refine .next ?_
  refine .ite ?_ h.tick
  split
  · exact h.tick
  · split
    · exact h.tick.setDyn.arm.toRouters
    · exact h.tick.raise.toRouters
  · split
    · exact .ite h.tick.setDyn.disarm.toRouters h.tick.toRouters
    · exact h.tick.raise.toRouters

theorem execSnoopQuery_ends {dt port} (h : s.SoundFrom τ) : Ends τ (execSnoopQuery dt port s) :=
  .next (.ite (.arm (h.tick.frame rfl)) h.tick)

theorem execSnoopGmiExpire_ends {dt port group} (h : s.SoundFrom τ) : Ends τ (execSnoopGmiExpire dt port group s) := by
  refine .next ?_
  split
  · exact h.tick.onExpiry (fun _ ha => ha.setDyn)
  · exact h.tick.onExpiry (fun _ ha => ha.frame rfl)

end

/-! ### Sys2Proof/Machine/Value.lean -/

section
variable {τ : Nat} {s : State}

theorem State.SoundFrom.slotEvent {k bit} (h : s.SoundFrom τ) : (s.slotEvent k bit).SoundFrom τ := h.raiseEntry

theorem State.SoundFrom.valEvent0 {bit} (h : s.SoundFrom τ) : (s.valEvent0 bit).SoundFrom τ := h.on (fun _ ha => ha.raiseFor)

theorem State.SoundFrom.setEp {i e} (h : s.SoundFrom τ) : (s.setEp i e).SoundFrom τ := h.frame rfl

theorem State.SoundFrom.applyRecord {i value quality flags tc inherit slot} (h : s.SoundFrom τ) :
    (s.applyRecord i value quality flags tc inherit slot).1.SoundFrom τ :=
  .fst_ite h.setEp h

theorem execValueFrameEnqueue_ends {dt} (h : s.SoundFrom τ) : Ends τ (execValueFrameEnqueue dt s) := by
  refine .next ?_
  split
  · exact h.tick
  · extract_lets _ s1 _ s2
    have h1 : s1.SoundFrom τ := h.tick.frame rfl
    have h2 : s2.SoundFrom τ := h1.frame rfl
    exact .ite h1.addSat.valEvent0 (.ite h2.arm h2)

theorem State.SoundFrom.applyFrame {k p pl} (h : s.SoundFrom τ) : (s.applyFrame k p pl).SoundFrom τ := by
  unfold State.applyFrame
  refine .foldl h fun _ _ ha => ?_
  extract_lets
  split
  · exact ha
  · exact .ite ha.applyRecord.addWrap ha.applyRecord.addSat

theorem State.SoundFrom.acceptFrame {k p pl} (h : s.SoundFrom τ) : (s.acceptFrame k p pl).SoundFrom τ := by
  unfold State.acceptFrame
  extract_lets _ _ _ s1 s2 s3 s4 _ s5
  have h1 : s1.SoundFrom τ := .ite h.addSat.slotEvent h
  have h2 : s2.SoundFrom τ := .ite h1.slotEvent h1
  have h3 : s3.SoundFrom τ := .ite h2.setBit.slotEvent h2
  have h4 : s4.SoundFrom τ := h3.wr.setBit.addWrap.wr.wr.wr
  have h5 : s5.SoundFrom τ := .ite h4.disarm h4.arm
  exact h5.addWrap.applyFrame

theorem State.SoundFrom.valFrame {p} (h : s.SoundFrom τ) : (s.valFrame p).SoundFrom τ := by
  unfold State.valFrame
  extract_lets
  refine .ite h.addSat.valEvent0 ?_
  refine .ite h.addSat.valEvent0 ?_
  split
  · exact h.addSat.wr.valEvent0
  · exact .ite h.acceptFrame h.addSat.addSat.setFld.slotEvent

theorem execValueFrameApply_ends {dt} (h : s.SoundFrom τ) : Ends τ (execValueFrameApply dt s) := by
  refine .next ?_
  split
  · exact h.tick
  · extract_lets _ s1
    have h1 : s1.SoundFrom τ := .valFrame (h.tick.frame rfl)
    exact .ite h1.disarm h1.arm

theorem execValSrcSilentExpire_ends {dt slot} (h : s.SoundFrom τ) : Ends τ (execValSrcSilentExpire dt slot s) :=
  .next (h.tick.onExpiry (fun _ ha => ha.setBit.slotEvent))

theorem State.SoundFrom.valGuard {vi} {f : State → State} (h : s.SoundFrom τ) (hf : ∀ t, t.SoundFrom τ → (f t).SoundFrom τ) :
    (s.valGuard vi f).SoundFrom τ :=
  .ite h (.ite (h.on (fun _ ha => ha.late)) (hf _ h))

theorem execValSrcDevWrite_ends {dt vi value} (h : s.SoundFrom τ) : Ends τ (execValSrcDevWrite dt vi value s) := by
  refine .next ?_
  refine h.tick.valGuard fun _ ha => ?_
  split
  · exact ha
  · exact .ite (ha.on (fun _ hb => hb.denied)) (.disarm (ha.wr.foldl fun _ _ hb => hb.wr))

theorem State.SoundFrom.epRefuse {vi reason} (h : s.SoundFrom τ) : (s.epRefuse vi reason).SoundFrom τ :=
  h.wr.on (fun _ ha => ha.cfgErrFor)

theorem execValEpRead_ends {dt vi} (h : s.SoundFrom τ) : Ends τ (execValEpRead dt vi s) := by
  refine .next ?_
  refine h.tick.valGuard fun _ ha => ?_
  split
  · exact ha.epRefuse
  · exact .wr (ha.foldl fun _ _ hb => hb.wr)

theorem State.SoundFrom.epInstall {vi i w clear} (h : s.SoundFrom τ) : (s.epInstall vi i w clear).SoundFrom τ := h.setEp

theorem State.SoundFrom.epApply {w} (h : s.SoundFrom τ) : (s.epApply w).SoundFrom τ := h.epInstall.setBit

theorem State.SoundFrom.epWriteCmd {vi kind} (h : s.SoundFrom τ) : (s.epWriteCmd vi kind).SoundFrom τ := by
  unfold State.epWriteCmd
  refine h.valGuard fun _ ha => ?_
  split
  · exact ha.epRefuse
  · refine .ite (ha.on (fun _ hb => hb.denied)) ?_
    refine .ite ha.epRefuse ?_
    exact ha.wr.journaled (fun _ hb => hb.setBit) (fun _ hb => hb.epApply)

theorem execValEpWrite_ends {dt vi} (h : s.SoundFrom τ) : Ends τ (execValEpWrite dt vi s) := .next h.tick.epWriteCmd

theorem execValEpWriteClear_ends {dt vi} (h : s.SoundFrom τ) : Ends τ (execValEpWriteClear dt vi s) := .next h.tick.epWriteCmd

theorem execValEpSet_ends {dt vi} (h : s.SoundFrom τ) : Ends τ (execValEpSet dt vi s) := by
  refine .next ?_
  refine h.tick.valGuard fun _ ha => ?_
  split
  · exact ha.epRefuse
  · exact .ite (ha.on (fun _ hb => hb.denied)) ha.applyRecord.wr

theorem execValEngineHang_ends {dt} (h : s.SoundFrom τ) : Ends τ (execValEngineHang dt s) :=
  .next (h.tick.onExpiry (fun _ ha => .ite ha (.valEvent0 (ha.fault.addSat.frame rfl))))

end

/-! ### Sys2Proof/Machine/Pattern.lean -/

section
variable {τ : Nat} {s : State}

theorem State.SoundFrom.markStale {i how} (h : s.SoundFrom τ) : (s.markStale i how).SoundFrom τ := h.setEp

theorem State.SoundFrom.patHold {p held} (h : s.SoundFrom τ) : (s.patHold p held).SoundFrom τ :=
  .ite h (.raise (.setBit (h.frame rfl)))

end

/-! ### Sys2Proof/Machine/Light.lean -/

section
variable {τ : Nat} {s : State}

theorem State.SoundFrom.setChain {c x} (h : s.SoundFrom τ) : (s.setChain c x).SoundFrom τ := h.frame rfl

theorem State.SoundFrom.modChain {c} {f : Chain → Chain} (h : s.SoundFrom τ) : (s.modChain c f).SoundFrom τ := h.setChain

theorem State.SoundFrom.setMtx {m x} (h : s.SoundFrom τ) : (s.setMtx m x).SoundFrom τ := h.frame rfl

theorem State.SoundFrom.setStage' {n x} (h : s.SoundFrom τ) : (s.setStage' n x).SoundFrom τ := h.frame rfl

theorem State.SoundFrom.zoneRefresh {c z} (h : s.SoundFrom τ) : (s.zoneRefresh c z).SoundFrom τ := by
  unfold State.zoneRefresh
  refine .ite h.wr.modChain ?_
  split
  · exact h.wr.modChain
  · exact .ite h.wr h.wr.modChain.raise

theorem State.SoundFrom.zonesRefresh {c} (h : s.SoundFrom τ) : (s.zonesRefresh c).SoundFrom τ :=
  h.foldl fun _ _ ha => ha.zoneRefresh

theorem State.SoundFrom.setMtxEntry {k e v} (h : s.SoundFrom τ) : (s.setMtxEntry k e v).SoundFrom τ := h.frame rfl

theorem State.SoundFrom.setCal {j d} (h : s.SoundFrom τ) : (s.setCal j d).SoundFrom τ := h.frame rfl

theorem State.SoundFrom.cmdDone {c res} (h : s.SoundFrom τ) : (s.cmdDone c res).SoundFrom τ :=
  .ite h.modChain.setBit.setFld.raise h.modChain.setBit.setFld.raise.addSat.raise

theorem State.SoundFrom.litCmd {vi c op hop bcast} (h : s.SoundFrom τ) : (s.litCmd vi c op hop bcast).SoundFrom τ :=
  h.guardWrite (fun _ ha => .ite ha.cfgErr (.ite ha.setBit.modChain ha.setBit.modChain))

theorem execLitCmdPing_ends {dt vi chain hop bcast} (h : s.SoundFrom τ) : Ends τ (execLitCmdPing dt vi chain hop bcast s) :=
  .next h.tick.litCmd

theorem execLitCmdEnum_ends {dt vi chain hop bcast} (h : s.SoundFrom τ) : Ends τ (execLitCmdEnum dt vi chain hop bcast s) :=
  .next h.tick.litCmd

theorem execLitCmdSetLoss_ends {dt vi chain hop bcast} (h : s.SoundFrom τ) : Ends τ (execLitCmdSetLoss dt vi chain hop bcast s) :=
  .next h.tick.litCmd

theorem execLitCmdSetFail_ends {dt vi chain hop bcast} (h : s.SoundFrom τ) : Ends τ (execLitCmdSetFail dt vi chain hop bcast s) :=
  .next h.tick.litCmd

theorem execLitCmdReadTemp_ends {dt vi chain hop bcast} (h : s.SoundFrom τ) :
    Ends τ (execLitCmdReadTemp dt vi chain hop bcast s) :=
  .next h.tick.litCmd

theorem execLitCmdReadId_ends {dt vi chain hop bcast} (h : s.SoundFrom τ) : Ends τ (execLitCmdReadId dt vi chain hop bcast s) :=
  .next h.tick.litCmd

theorem execChainCommandFrame_ends {dt chain} (h : s.SoundFrom τ) : Ends τ (execChainCommandFrame dt chain s) := by
  refine .next ?_
  split
  · exact .ite h.tick.setChain h.tick
  · exact h.tick

theorem State.SoundFrom.litLength {c} (h : s.SoundFrom τ) : (s.litLength c).SoundFrom τ :=
  .ite h.setBit.raise.modChain.setBit h.setBit.raise

theorem State.SoundFrom.takeReply {c want ret} (h : s.SoundFrom τ) : (s.takeReply c want ret).SoundFrom τ := by
  unfold State.takeReply
  split
  · exact h
  · exact h.setFld.wr
  · exact h.setFld.wr.on (fun _ ha => ha.nextFree)

theorem State.SoundFrom.tailBack {c w} (h : s.SoundFrom τ) : (s.tailBack c w).SoundFrom τ :=
  .ite h (.ite h.modChain (.ite h.modChain.litLength h.modChain))

theorem execChainCommandComplete_ends {dt chain ret} (h : s.SoundFrom τ) : Ends τ (execChainCommandComplete dt chain ret s) := by
  refine .next ?_
  split
  · exact h.tick
  · extract_lets s1
    have h1 : s1.SoundFrom τ := h.tick.setChain
    split
    · exact .cmdDone (.ite h1.takeReply h1)
    · split
      · exact .ite h1.modChain.arm.zoneRefresh h1
      · exact h1
    · split
      · exact h1.tailBack
      · exact h1

theorem execZoneTempTimeout_ends {dt chain zone} (h : s.SoundFrom τ) : Ends τ (execZoneTempTimeout dt chain zone s) :=
  .next (h.tick.onExpiry (fun _ ha => ha.modChain.zoneRefresh))

theorem State.SoundFrom.readChain {c len w} (h : s.SoundFrom τ) : (s.readChain c len w).1.SoundFrom τ :=
  h.fst_foldl fun _ _ ha => ha.markStale

theorem execChainDataFrameStart_ends {dt chain} (h : s.SoundFrom τ) : Ends τ (execChainDataFrameStart dt chain s) := by
  refine .next ?_
  split
  · exact h.tick
  · refine .ite h.tick ?_
    extract_lets _ _ _ _ _ _ _ _ _ _ _ s2
    have h2 : s2.SoundFrom τ := .setChain ((h.tick.wr.zonesRefresh.readChain))
    exact .ite h2.cmdDone h2

theorem State.SoundFrom.enumPass {c} (h : s.SoundFrom τ) : (s.enumPass c).SoundFrom τ := h.arm

theorem State.SoundFrom.enumStart {c} (h : s.SoundFrom τ) : (s.enumStart c).SoundFrom τ :=
  h.modChain.setBit.setBit.setBit.enumPass

theorem State.SoundFrom.returnCheck {c retBits latchBack} (h : s.SoundFrom τ) : (s.returnCheck c retBits latchBack).SoundFrom τ :=
  .ite (.ite (.raise (.setBit (.modChain (.ite h.wr.litLength h)))) (.modChain (.ite h.wr.litLength h))) h

theorem execChainLatch_ends {dt chain retBits latchBack} (h : s.SoundFrom τ) :
    Ends τ (execChainLatch dt chain retBits latchBack s) := by
  refine .next ?_
  split
  · exact h.tick
  · refine .ite h.tick ?_
    extract_lets _ s2
    have h2 : s2.SoundFrom τ := h.tick.setChain.setBit.addWrap.returnCheck
    exact .ite h2.enumStart h2

theorem State.SoundFrom.enumEnd {c l agreed} (h : s.SoundFrom τ) : (s.enumEnd c l agreed).SoundFrom τ := by
  unfold State.enumEnd
  extract_lets _ _ s1 s2 s3 _ s4
  have h1 : s1.SoundFrom τ := by
    unfold s1
    split
    · exact h.wr
    · exact h
  have h2 : s2.SoundFrom τ := h1.setBit.setBit.setBit.setBit.setFld
  have h3 : s3.SoundFrom τ := by
    unfold s3
    refine .ite h2.setBit.raise ?_
    split
    · exact h2.setBit.raise
    · exact .ite h2.wr.wr.setBit h2.wr.setBit.raise
  have h4 : s4.SoundFrom τ := h3.modChain.raise
  exact .disarm (.ite h4.cmdDone h4.setBit)

theorem execEnumPassEnd_ends {dt chain tret} (h : s.SoundFrom τ) : Ends τ (execEnumPassEnd dt chain tret s) :=
  .next (.ite h.tick (.ite h.tick.wr.enumEnd h.tick.wr.setChain.enumPass))

theorem State.SoundFrom.litSetLen {c v} (h : s.SoundFrom τ) : (s.litSetLen c v).SoundFrom τ :=
  .ite h.setChain (.ite h.setChain h.setChain.wr)

theorem State.SoundFrom.litSetPer {c v} (h : s.SoundFrom τ) : (s.litSetPer c v).SoundFrom τ := .ite h.setChain h.setChain

theorem State.SoundFrom.litDevCount {c value} (h : s.SoundFrom τ) : (s.litDevCount c value).SoundFrom τ := by
  unfold State.litDevCount
  exact .litSetLen (h.wr.ifThen (fun _ ha => ha.cfgErr))

theorem State.SoundFrom.litPeriod {c value} (h : s.SoundFrom τ) : (s.litPeriod c value).SoundFrom τ := by
  unfold State.litPeriod
  exact .litSetPer (h.wr.ifThen (fun _ ha => ha.cfgErr))

theorem execLitDevCountWrite_ends {dt vi chain value} (h : s.SoundFrom τ) : Ends τ (execLitDevCountWrite dt vi chain value s) :=
  .next (h.tick.guardWrite (fun _ ha => ha.litDevCount))

theorem execLitPeriodWrite_ends {dt vi chain value} (h : s.SoundFrom τ) : Ends τ (execLitPeriodWrite dt vi chain value s) :=
  .next (h.tick.guardWrite (fun _ ha => ha.litPeriod))

theorem State.SoundFrom.litStop {c} (h : s.SoundFrom τ) : (s.litStop c).SoundFrom τ := by
  unfold State.litStop
  exact .disarm (.setBit (.setBit (.wr (.setChain (.ite h.cmdDone h.setBit)))))

theorem State.SoundFrom.litOpen {c} (h : s.SoundFrom τ) : (s.litOpen c).SoundFrom τ := h.modChain

theorem State.SoundFrom.litStart {c} (h : s.SoundFrom τ) : (s.litStart c).SoundFrom τ := .ite h.enumStart h.litOpen

theorem State.SoundFrom.litSrst {c} (h : s.SoundFrom τ) : (s.litSrst c).SoundFrom τ := by
  unfold State.litSrst
  exact .litSetPer (.litSetLen (.ite h.litStop.litOpen (.ite h.cmdDone.modChain h.modChain)))

theorem State.SoundFrom.stageRefresh {n} (h : s.SoundFrom τ) : (s.stageRefresh n).SoundFrom τ :=
  .ite (h.setStage') (h.setStage'.raise)

theorem execNtcMeasure_ends {dt n ohms} (h : s.SoundFrom τ) : Ends τ (execNtcMeasure dt n ohms s) := by
  refine .next ?_
  refine .foldl ?_ fun _ _ ha => .ite (ha.foldl fun _ _ hb => .ite hb.zoneRefresh hb) ha
  refine .foldl ?_ fun _ _ ha => .ite ha.stageRefresh ha
  refine .ite (.on (.wr (h.tick.frame rfl)) (fun _ ha => ha.raiseFor)) ?_
  exact .wr (h.tick.frame rfl)

theorem State.SoundFrom.mtxStart {m} (h : s.SoundFrom τ) : (s.mtxStart m).SoundFrom τ := h.setMtx.wr

theorem State.SoundFrom.mtxStop {m} (h : s.SoundFrom τ) : (s.mtxStop m).SoundFrom τ := h.setMtx.wr

theorem execMatrixScanRead_ends {dt m} (h : s.SoundFrom τ) : Ends τ (execMatrixScanRead dt m s) := by
  refine .next ?_
  split
  · exact h.tick
  · exact .ite h.tick (.setMtx (h.tick.fst_foldl fun _ _ ha => ha.markStale))

theorem execMatrixScanFrameStart_ends {dt m} (h : s.SoundFrom τ) : Ends τ (execMatrixScanFrameStart dt m s) := by
  refine .next ?_
  split
  · exact h.tick
  · exact .ite h.tick h.tick.setMtx.addWrap.setFld

theorem execMatrixLineSlot_ends {dt m cut oc} (h : s.SoundFrom τ) : Ends τ (execMatrixLineSlot dt m cut oc s) := by
  refine .next ?_
  split
  · exact h.tick
  · extract_lets _ _ _ _ _ s2 s3
    have h2 : s2.SoundFrom τ := h.tick.setMtx.setFld.foldl fun _ _ ha => ha.setBit
    have h3 : s3.SoundFrom τ := .ite h2 h2.raise
    exact .ite h3.setBit.raise h3

theorem State.SoundFrom.stageReport {n} (h : s.SoundFrom τ) : (s.stageReport n).SoundFrom τ := by
  unfold State.stageReport
  exact .wr (h.ifThen (fun _ ha => ha.wr))

theorem State.SoundFrom.stageGo {n} (h : s.SoundFrom τ) : (s.stageGo n).SoundFrom τ := h.setStage'.stageReport

theorem State.SoundFrom.stageStart {n} (h : s.SoundFrom τ) : (s.stageStart n).SoundFrom τ := h.wr.arm

theorem State.SoundFrom.stageOff {n} (h : s.SoundFrom τ) : (s.stageOff n).SoundFrom τ := h.setStage'.disarm.disarm.disarm

theorem State.SoundFrom.stageDisable {n} (h : s.SoundFrom τ) : (s.stageDisable n).SoundFrom τ := h.stageOff.wr.wr

theorem execStageRead_ends {dt n vout} (h : s.SoundFrom τ) : Ends τ (execStageRead dt n vout s) := by
  refine .next (h.tick.onExpiry fun _ ha => .ite ?_ ha.arm)
  refine .arm (.wr (.wr (.setStage' ?_)))
  split
  · exact ha.stageRefresh.arm.markStale
  · exact ha.stageRefresh.arm

theorem execStageSetpointEffect_ends {dt n} (h : s.SoundFrom τ) : Ends τ (execStageSetpointEffect dt n s) := by
  refine .next ?_
  exact h.tick.onExpiry fun _ ha => .ite (ha.setStage') (.ite (ha.setStage'.stageReport) (ha.setStage'.stageGo))

theorem State.SoundFrom.stageTrip {n st cnt bit} (h : s.SoundFrom τ) : (s.stageTrip n st cnt bit).SoundFrom τ :=
  .ite h (h.setStage'.wr.wr.addSat.raise.arm)

theorem execStageOvervoltage_ends {dt n} (h : s.SoundFrom τ) : Ends τ (execStageOvervoltage dt n s) := .next h.tick.stageTrip

theorem execStageShort_ends {dt n} (h : s.SoundFrom τ) : Ends τ (execStageShort dt n s) := .next (.ite h.tick h.tick.stageTrip)

theorem execStageRetry_ends {dt n} (h : s.SoundFrom τ) : Ends τ (execStageRetry dt n s) :=
  .next (h.tick.onExpiry (fun _ ha => .ite (.ite ha.wr.stageGo.raise ha.arm) ha))

theorem State.SoundFrom.calGuard {vi} {f : State → State} (h : s.SoundFrom τ) (hf : ∀ t, t.SoundFrom τ → (f t).SoundFrom τ) :
    (s.calGuard vi f).SoundFrom τ :=
  .ite h (.ite (h.on (fun _ ha => ha.late)) (hf _ h))

theorem State.SoundFrom.calRefuse {vi} (h : s.SoundFrom τ) : (s.calRefuse vi).SoundFrom τ := h.wr.on (fun _ ha => ha.cfgErrFor)

theorem execCalRead_ends {dt vi} (h : s.SoundFrom τ) : Ends τ (execCalRead dt vi s) := by
  refine .next ?_
  refine h.tick.calGuard fun _ ha => ?_
  split
  · exact ha.calRefuse
  · exact ha.wr.wr.wr

theorem State.SoundFrom.calApply {w} (h : s.SoundFrom τ) : (s.calApply w).SoundFrom τ := h.setCal.setBit

theorem execCalWrite_ends {dt vi} (h : s.SoundFrom τ) : Ends τ (execCalWrite dt vi s) := by
  refine .next ?_
  refine h.tick.calGuard fun _ ha => ?_
  split
  · exact ha.calRefuse
  · refine .ite (ha.on (fun _ hb => hb.denied)) ?_
    exact ha.wr.journaled (fun _ hb => hb.setBit) (fun _ hb => hb.calApply)

theorem State.SoundFrom.mtxApply {w} (h : s.SoundFrom τ) : (s.mtxApply w).SoundFrom τ := h.setMtxEntry

theorem execCalMtxWrite_ends {dt vi value} (h : s.SoundFrom τ) : Ends τ (execCalMtxWrite dt vi value s) := by
  refine .next ?_
  refine h.tick.calGuard fun _ ha => ?_
  extract_lets
  refine .ite (ha.on (fun _ hb => hb.cfgErrFor)) ?_
  split
  · exact ha
  · refine .ite (ha.on (fun _ hb => hb.denied)) ?_
    exact ha.journaled (fun _ hb => hb) (fun _ hb => hb.mtxApply)

end

/-! ### Sys2Proof/Machine/Wake.lean -/

section
variable {τ : Nat} {s : State}

theorem State.SoundFrom.setDom {d st} (h : s.SoundFrom τ) : (s.setDom d st).SoundFrom τ := .ite h h.setFld.raise

theorem State.SoundFrom.beginExit (h : s.SoundFrom τ) : (s.beginExit).SoundFrom τ := by
  unfold State.beginExit
  exact .frame (.setBit (.ite h (h.arm.foldl fun _ _ ha => ha.setDom))) rfl

theorem State.SoundFrom.runAgain (h : s.SoundFrom τ) : (s.runAgain).SoundFrom τ := by
  unfold State.runAgain
  exact .frame (h.setBit.arm.foldl fun _ _ ha => ha.setBit) rfl

theorem State.SoundFrom.endEntry {reason} (h : s.SoundFrom τ) : (s.endEntry reason).SoundFrom τ := by
  unfold State.endEntry
  exact .raise (.runAgain (.setFld (.setBit (.setFld (h.foldl fun _ _ ha => ha.setDom)))))

theorem State.SoundFrom.sectionWake {sec} (h : s.SoundFrom τ) : (s.sectionWake sec).SoundFrom τ := .ite (h.frame rfl) h

theorem State.SoundFrom.wake {i} (h : s.SoundFrom τ) : (s.wake i).SoundFrom τ := by
  unfold State.wake
  refine .ite h ?_
  extract_lets s1 _ _ s2
  have h1 : s1.SoundFrom τ := h.setBit
  have h2 : s2.SoundFrom τ := .ite h1 (.frame (h1.setFld (k := pwrKey R.PWR_STATUS) (lo := 8) (w := 4) (v := i)) rfl)
  refine .ite ?_ h2
  split
  · exact h2.endEntry
  · exact h2.frame rfl
  · exact h2
  · exact .ite h2.setFld h2.beginExit

end

/-! ### Sys2Proof/Machine/Loads.lean -/

section
variable {τ : Nat} {s : State}

theorem State.SoundFrom.setTries {ch n} (h : s.SoundFrom τ) : (s.setTries ch n).SoundFrom τ := h.setFld

theorem State.SoundFrom.modLds {f : Loads → Loads} (h : s.SoundFrom τ) : (s.modLds f).SoundFrom τ := h.frame rfl

theorem State.SoundFrom.ldsRefresh {ch} (h : s.SoundFrom τ) : (s.ldsRefresh ch).SoundFrom τ :=
  h.setBit.setFld.ifThen (fun _ ha => ha.modLds)

theorem State.SoundFrom.ldsEnter {ch st} (h : s.SoundFrom τ) : (s.ldsEnter ch st).SoundFrom τ := by
  unfold State.ldsEnter
  exact .modLds (.disarm (.disarm (.disarm (.disarm h.setFld.setBit))))

theorem State.SoundFrom.ldsOff {ch} (h : s.SoundFrom τ) : (s.ldsOff ch).SoundFrom τ := h.ldsEnter.setTries

theorem State.SoundFrom.ldsLatch {ch} (h : s.SoundFrom τ) : (s.ldsLatch ch).SoundFrom τ := h.ldsEnter.raise

theorem State.SoundFrom.ldsThermal {ch} (h : s.SoundFrom τ) : (s.ldsThermal ch).SoundFrom τ := h.ldsEnter.addSat.raise

theorem State.SoundFrom.ldsStart {ch} (h : s.SoundFrom τ) : (s.ldsStart ch).SoundFrom τ := h.ldsEnter.setBit.modLds.arm

theorem State.SoundFrom.ldsGo {ch} (h : s.SoundFrom τ) : (s.ldsGo ch).SoundFrom τ := .ite h.ldsStart h.ldsOff

theorem State.SoundFrom.ldsTripCount {ch} (h : s.SoundFrom τ) : (s.ldsTripCount ch).SoundFrom τ := h.addSat.raise

theorem State.SoundFrom.ldsTripAlone {ch} (h : s.SoundFrom τ) : (s.ldsTripAlone ch).SoundFrom τ :=
  .ite h.setTries.ldsLatch h.setTries.ldsEnter.arm

theorem State.SoundFrom.ldsUv {ch} (h : s.SoundFrom τ) : (s.ldsUv ch).SoundFrom τ := .ite h h.ldsEnter.setTries.addSat.raise

theorem State.SoundFrom.ldsResolve {ch trip hot uv} (h : s.SoundFrom τ) : (s.ldsResolve ch trip hot uv).SoundFrom τ := by
  have h1 : (s.ldsTripCount ch).SoundFrom τ := h.ldsTripCount
  have hlow : ∀ d, (if (!d) = true then s.ldsOff ch else if hot then s.ldsThermal ch else s).SoundFrom τ :=
    fun _ => .ite h.ldsOff (.ite h.ldsThermal h)
  unfold State.ldsResolve
  refine .ite h.ldsUv ?_
  split
  · exact .ite h.ldsStart h
  · exact .ite (.ite h1.ldsOff (.ite h1.ldsThermal h1.ldsTripAlone)) (hlow _)
  · exact .ite (.ite h1.ldsOff (.ite h1.ldsThermal h1.ldsTripAlone)) (hlow _)
  · exact .ite h.ldsOff (.ite h.ldsThermal h)
  · exact .ite h.ldsGo h
  · exact .ite h.ldsOff h
  · exact h

theorem State.SoundFrom.limpEvent (h : s.SoundFrom τ) : (s.limpEvent).SoundFrom τ := h.foldl fun _ _ ha => ha.raiseAlso

theorem State.SoundFrom.limpBegin (h : s.SoundFrom τ) : (s.limpBegin).SoundFrom τ := .ite h h.modLds.setBit.limpEvent

theorem State.SoundFrom.limpEnd (h : s.SoundFrom τ) : (s.limpEnd).SoundFrom τ := h.modLds.setBit.limpEvent

theorem State.SoundFrom.ldsOutApply {w} (h : s.SoundFrom τ) : (s.ldsOutApply w).SoundFrom τ := h.setFld.ldsRefresh

theorem State.SoundFrom.ldsOutWrite {vi ch value} (h : s.SoundFrom τ) : (s.ldsOutWrite vi ch value).SoundFrom τ :=
  h.journaled (fun _ ha => ha) (fun _ ha => ha.ldsOutApply)

theorem execLdsOutWrite_ends {dt vi ch value} (h : s.SoundFrom τ) : Ends τ (execLdsOutWrite dt vi ch value s) :=
  .next (h.tick.guardWrite (fun _ ha => ha.ldsOutWrite))

theorem execLdsEvaluate_ends {dt ch ma us tj lhIn vfield uv} (h : s.SoundFrom τ) :
    Ends τ (execLdsEvaluate dt ch ma us tj lhIn vfield uv s) :=
  .next h.tick.wr.wr.setFld.wr.ldsRefresh.ldsResolve

theorem execLdsInrushEnd_ends {dt ch} (h : s.SoundFrom τ) : Ends τ (execLdsInrushEnd dt ch s) :=
  .next (h.tick.onExpiry (fun _ ha => .ite ha.setFld.modLds.arm ha))

theorem execLdsTrip_ends {dt ch ma us} (h : s.SoundFrom τ) : Ends τ (execLdsTrip dt ch ma us s) :=
  .next (.ite h.tick.wr.ldsResolve h.tick.wr)

theorem execLdsPauseExpire_ends {dt ch} (h : s.SoundFrom τ) : Ends τ (execLdsPauseExpire dt ch s) :=
  .next (h.tick.onExpiry (fun _ ha => .ite ha.ldsGo ha))

theorem execLdsTriesClear_ends {dt ch} (h : s.SoundFrom τ) : Ends τ (execLdsTriesClear dt ch s) :=
  .next (h.tick.onExpiry (fun _ ha => ha.setTries))

theorem execLdsThermalShutdown_ends {dt ch tj} (h : s.SoundFrom τ) : Ends τ (execLdsThermalShutdown dt ch tj s) :=
  .next (.ite h.tick.wr.ldsThermal h.tick.wr)

theorem execLdsThermalRecover_ends {dt ch tj} (h : s.SoundFrom τ) : Ends τ (execLdsThermalRecover dt ch tj s) :=
  .next (.ite h.tick.wr.ldsGo h.tick.wr)

theorem execLdsOpenLoad_ends {dt ch below vfield} (h : s.SoundFrom τ) : Ends τ (execLdsOpenLoad dt ch below vfield s) :=
  .next (.ite (h.tick.wr.setBit.ifThen (fun _ ha => ha.raise)) h.tick.wr)

theorem execLdsStuckOn_ends {dt ch} (h : s.SoundFrom τ) : Ends τ (execLdsStuckOn dt ch s) := .next (.ite h.tick h.tick.fault)

theorem execLdsAggregateCheck_ends {dt total} (h : s.SoundFrom τ) : Ends τ (execLdsAggregateCheck dt total s) := by
  refine .next ?_
  refine .ite ?_ h.tick.wr.setBit
  split
  · exact h.tick.wr.setBit.ldsLatch.setBit.raise
  · exact h.tick.wr.setBit

theorem State.SoundFrom.ldsRestart {ch} (h : s.SoundFrom τ) : (s.ldsRestart ch).SoundFrom τ := .ite h.ldsThermal h.ldsGo

theorem State.SoundFrom.ldsRelease {ch} (h : s.SoundFrom τ) : (s.ldsRelease ch).SoundFrom τ := by
  unfold State.ldsRelease
  refine .ite h ?_
  extract_lets _ s1 s2 s1'
  have h1 : s1.SoundFrom τ := .ite h.modLds h
  have h2 : s2.SoundFrom τ := .ite (h1.journaled (fun _ ha => ha) (fun _ ha => ha.ldsOutApply)) h1
  have h1' : s1'.SoundFrom τ := by
    unfold s1'
    split
    · exact h2.ldsOff
    · exact h.ldsEnter.arm
    · exact h.ldsRestart
  exact h1'.raise

theorem execLdsRestoringExpire_ends {dt ch} (h : s.SoundFrom τ) : Ends τ (execLdsRestoringExpire dt ch s) :=
  .next (h.tick.onExpiry (fun _ ha => .ite ha.ldsRestart ha))

theorem execVfieldRestored_ends {dt vfield} (h : s.SoundFrom τ) : Ends τ (execVfieldRestored dt vfield s) :=
  .next (h.tick.wr.setBit.foldl fun _ _ ha => ha.ldsRelease)

theorem State.SoundFrom.ldsUnlatch {ch} (h : s.SoundFrom τ) : (s.ldsUnlatch ch).SoundFrom τ := .ite h.ldsOff.setBit.ldsResolve h

theorem execLdsLatchClr_ends {dt vi ch value} (h : s.SoundFrom τ) : Ends τ (execLdsLatchClr dt vi ch value s) :=
  .next (h.tick.guardWrite (fun _ ha => ha.ifThen (fun _ hb => hb.ldsUnlatch)))

theorem execLimpNLow_ends {dt} (h : s.SoundFrom τ) : Ends τ (execLimpNLow dt s) := .next h.tick.setBit.limpBegin

theorem State.SoundFrom.ldsGlobal {vi} {f : State → State} (h : s.SoundFrom τ) (hf : ∀ t, t.SoundFrom τ → (f t).SoundFrom τ) :
    (s.ldsGlobal vi f).SoundFrom τ :=
  h.guardWrite (fun _ ha => .ite (hf _ ha) (ha.on (fun _ hb => hb.denied)))

theorem execHeartbeatWrite_ends {dt vi} (h : s.SoundFrom τ) : Ends τ (execHeartbeatWrite dt vi s) :=
  .next (h.tick.ldsGlobal (fun _ ha => .ite ha.setBit ha.setBit.arm))

theorem execHeartbeatLoss_ends {dt} (h : s.SoundFrom τ) : Ends τ (execHeartbeatLoss dt s) :=
  .next (h.tick.onExpiry (fun _ ha => ha.setBit.limpBegin.fault))

theorem execLimpLatchClear_ends {dt ch} (h : s.SoundFrom τ) : Ends τ (execLimpLatchClear dt ch s) :=
  .next (.ite h.tick.ldsUnlatch h.tick)

theorem execLimpExit_ends {dt vi value limpHigh} (h : s.SoundFrom τ) : Ends τ (execLimpExit dt vi value limpHigh s) :=
  .next (h.tick.setBit.ldsGlobal (fun _ ha => .ite ha (.ite (.ite ha.limpEnd ha) ha.cfgErr)))

end

/-! ### Sys2Proof/Machine/Coils.lean -/

section
variable {τ : Nat} {s : State}

theorem State.SoundFrom.setCoil {c x} (h : s.SoundFrom τ) : (s.setCoil c x).SoundFrom τ := h.frame rfl

theorem State.SoundFrom.modCoil {c} {f : Coil → Coil} (h : s.SoundFrom τ) : (s.modCoil c f).SoundFrom τ := h.setCoil

theorem State.SoundFrom.coiGo {c word clks} (h : s.SoundFrom τ) : (s.coiGo c word clks).SoundFrom τ := h.setFld.modCoil

theorem State.SoundFrom.coiNext {c} (h : s.SoundFrom τ) : (s.coiNext c).SoundFrom τ := h.coiGo

theorem State.SoundFrom.coiJump {c word} (h : s.SoundFrom τ) : (s.coiJump c word).SoundFrom τ := h.coiGo

theorem State.SoundFrom.coiEnd {c reason drive} (h : s.SoundFrom τ) : (s.coiEnd c reason drive).SoundFrom τ :=
  h.setFld.modCoil.ifThen (fun _ ha => ha.raise)

theorem State.SoundFrom.coiStop {c reason drive} (h : s.SoundFrom τ) : (s.coiStop c reason drive).SoundFrom τ := .ite h.coiEnd h

theorem State.SoundFrom.coiAbort {c} (h : s.SoundFrom τ) : (s.coiAbort c).SoundFrom τ := h.coiStop

theorem State.SoundFrom.coiFire {c entry byOwner} (h : s.SoundFrom τ) : (s.coiFire c entry byOwner).SoundFrom τ :=
  .ite h.addSat.raise h.setFld.setFld.setBit.setBit.addWrap.setCoil.coiGo

theorem State.SoundFrom.coiMeasure {c m} (h : s.SoundFrom τ) : (s.coiMeasure c m).SoundFrom τ := h.wr.wr.wr.wr

theorem State.SoundFrom.coiOp {dt c op} {f : State → Nat → State} (h : s.SoundFrom τ)
    (hf : ∀ t x, t.SoundFrom τ → (f t x).SoundFrom τ) :
    Ends τ (s.coiOp dt c op f) :=
  .next (.ite (hf _ _ h.tick) h.tick)

theorem State.SoundFrom.coiWait {c clks w} (h : s.SoundFrom τ) : (s.coiWait c clks w).SoundFrom τ := h.modCoil

theorem execCoiFire_ends {dt vi c value} (h : s.SoundFrom τ) : Ends τ (execCoiFire dt vi c value s) :=
  .next (h.tick.guardWrite (fun _ ha => ha.coiFire))

theorem execCoiAbort_ends {dt vi c value} (h : s.SoundFrom τ) : Ends τ (execCoiAbort dt vi c value s) :=
  .next (h.tick.guardWrite (fun _ ha => ha.ifThen (fun _ hb => hb.coiAbort)))

theorem execCoiOpEnd_ends {dt c} (h : s.SoundFrom τ) : Ends τ (execCoiOpEnd dt c s) := h.coiOp (fun _ _ ha => ha.coiEnd)

theorem execCoiOpSeti_ends {dt c} (h : s.SoundFrom τ) : Ends τ (execCoiOpSeti dt c s) :=
  h.coiOp (fun _ _ ha => ha.modCoil.coiNext)

theorem execCoiOpSrc_ends {dt c} (h : s.SoundFrom τ) : Ends τ (execCoiOpSrc dt c s) := h.coiOp (fun _ _ ha => ha.setCoil.coiNext)

theorem execCoiOpWaitu_ends {dt c} (h : s.SoundFrom τ) : Ends τ (execCoiOpWaitu dt c s) := h.coiOp (fun _ _ ha => ha.coiWait)

theorem execCoiOpWaitm_ends {dt c} (h : s.SoundFrom τ) : Ends τ (execCoiOpWaitm dt c s) := h.coiOp (fun _ _ ha => ha.coiWait)

theorem execCoiOpWaitk_ends {dt c} (h : s.SoundFrom τ) : Ends τ (execCoiOpWaitk dt c s) := h.coiOp (fun _ _ ha => ha.coiWait)

theorem execCoiOpJmp_ends {dt c} (h : s.SoundFrom τ) : Ends τ (execCoiOpJmp dt c s) := h.coiOp (fun _ _ ha => ha.coiJump)

theorem execCoiOpLoop_ends {dt c} (h : s.SoundFrom τ) : Ends τ (execCoiOpLoop dt c s) :=
  h.coiOp (fun _ _ ha => .ite ha.coiNext (.ite ha.setFld.coiJump ha.setFld.coiNext))

theorem execCoiOpBk_ends {dt c} (h : s.SoundFrom τ) : Ends τ (execCoiOpBk dt c s) :=
  h.coiOp (fun _ _ ha => .ite ha.coiJump ha.coiNext)

theorem execCoiOpBnk_ends {dt c} (h : s.SoundFrom τ) : Ends τ (execCoiOpBnk dt c s) :=
  h.coiOp (fun _ _ ha => .ite ha.coiJump ha.coiNext)

theorem execCoiOpBvb_ends {dt c} (h : s.SoundFrom τ) : Ends τ (execCoiOpBvb dt c s) :=
  h.coiOp (fun _ _ ha => .ite ha.coiNext ha.coiJump)

theorem execCoiOpFree_ends {dt c} (h : s.SoundFrom τ) : Ends τ (execCoiOpFree dt c s) :=
  h.coiOp (fun _ _ ha => ha.modCoil.coiNext)

theorem execCoiOpRecov_ends {dt c} (h : s.SoundFrom τ) : Ends τ (execCoiOpRecov dt c s) := h.coiOp (fun _ _ ha => ha.modCoil)

theorem execCoiOpEvt_ends {dt c} (h : s.SoundFrom τ) : Ends τ (execCoiOpEvt dt c s) :=
  h.coiOp (fun _ _ ha => ha.setFld.raise.coiNext)

theorem execCoiOpReserved_ends {dt c uncorr} (h : s.SoundFrom τ) : Ends τ (execCoiOpReserved dt c uncorr s) :=
  .next (.ite (.ite h.tick.fault.coiEnd h.tick) (.ite h.tick.setBit.coiEnd h.tick))

theorem execCoiWaitExpire_ends {dt c m} (h : s.SoundFrom τ) : Ends τ (execCoiWaitExpire dt c m s) :=
  .next (.ite h.tick.coiMeasure.coiGo h.tick)

theorem execCoiKinkDetect_ends {dt c maxMv avgMv m} (h : s.SoundFrom τ) : Ends τ (execCoiKinkDetect dt c maxMv avgMv m s) := by
  refine .next ?_
  split
  · exact .ite h.tick.coiMeasure.setBit.wr.raise.coiGo h.tick
  · exact h.tick

theorem execCoiWaitkTimeout_ends {dt c m} (h : s.SoundFrom τ) : Ends τ (execCoiWaitkTimeout dt c m s) := by
  refine .next ?_
  split
  · exact .ite h.tick.coiMeasure.setBit.raise.coiGo h.tick
  · exact h.tick

theorem execCoiCurrentDecayed_ends {dt c m} (h : s.SoundFrom τ) : Ends τ (execCoiCurrentDecayed dt c m s) := by
  refine .next ?_
  refine .ite ?_ h.tick
  split
  · exact h.tick.coiMeasure.coiNext
  · exact h.tick.coiMeasure.setFld.setCoil.arm.ifThen (fun _ ha => ha.raise)
  · exact h.tick

theorem execCoiMinoffExpire_ends {dt c} (h : s.SoundFrom τ) : Ends τ (execCoiMinoffExpire dt c s) :=
  .next (h.tick.onExpiry (fun _ ha => ha.setFld))

theorem execVboostLevelChange_ends {dt mv} (h : s.SoundFrom τ) : Ends τ (execVboostLevelChange dt mv s) :=
  .next (.ite (h.tick.wr.setBit.setBit.foldl fun _ _ ha => ha.raise) h.tick.wr.setBit.setBit)

theorem execVfieldUndervoltage_ends {dt vfield} (h : s.SoundFrom τ) : Ends τ (execVfieldUndervoltage dt vfield s) :=
  .next (.foldl (h.tick.wr.setBit.foldl fun _ _ ha => ha.ldsUv) fun _ _ ha => ha.coiStop)

end

/-! ### Sys2Proof/Machine/Protect.lean -/

section
variable {τ : Nat} {b : Bus}

/-- The VI field of a grant has 10 bits (Table 3-10). -/
theorem Bus.SoundFrom.setGrant {i} (h : b.SoundFrom τ) : (b.setGrant i).SoundFrom τ := by
  obtain ⟨hregs, ⟨hgrants, hkeeper⟩, hrecs, hnow⟩ := h
  refine ⟨hregs, ⟨fun p hp => ?_, hkeeper⟩, hrecs, hnow⟩
  unfold Bus.setGrant at hp
  dsimp only at hp
  split at hp
  · exact hgrants p ((SMap.mem_erase _ _ _).mp hp).1
  · rcases (SMap.mem_set _ _ _ _).mp hp with rfl | ⟨hp, -⟩
    · exact fieldOf_lt 16 10 _
    · exact hgrants p hp

theorem Bus.SoundFrom.protWrite {o} (h : b.SoundFrom τ) : (b.protWrite o).SoundFrom τ := by
  unfold Bus.protWrite
  extract_lets _ _ b1
  have h1 : b1.SoundFrom τ := h.wr
  split
  · exact .ite h1.setGrant (.ite h1.wr.wr h1)
  · exact h1.setBit
  · exact h1

theorem Bus.SoundFrom.preview {ops} (h : b.SoundFrom τ) : (b.preview ops).SoundFrom τ := h.foldl fun _ _ ha => ha.protWrite

end

section
variable {τ : Nat} {s : State}

theorem State.SoundFrom.closeSession {vi} (h : s.SoundFrom τ) : (s.closeSession vi).SoundFrom τ := by
  unfold State.closeSession
  split
  · exact h
  · exact .raise (.emit (.setBit (.wr (h.on (fun _ ha => ha.frame rfl)))))

theorem State.SoundFrom.grantEvent {old} (h : s.SoundFrom τ) : (s.grantEvent old).SoundFrom τ := by
  unfold State.grantEvent
  split
  · exact h
  · exact h.on (fun _ ha => ha.raiseFor)

theorem State.SoundFrom.boundChanged {holder} (h : s.SoundFrom τ) : (s.boundChanged holder).SoundFrom τ := by
  unfold State.boundChanged
  extract_lets s1 s2
  have h1 : s1.SoundFrom τ := h.on (fun _ ha => ha.raiseFor)
  have h2 : s2.SoundFrom τ := h1.ifThen (fun _ ha => ha.foldl fun _ _ hb => hb.closeSession)
  exact h2.foldl fun _ _ ha => ha.ldsRefresh

theorem State.SoundFrom.modEpochs {f : Epochs → Epochs} (h : s.SoundFrom τ) : (s.modEpochs f).SoundFrom τ := h.frame rfl

theorem State.SoundFrom.epochAsk (h : s.SoundFrom τ) : (s.epochAsk).SoundFrom τ := h.modEpochs

theorem State.SoundFrom.epochAuto (h : s.SoundFrom τ) : (s.epochAuto).SoundFrom τ := h.modEpochs

end

/-! ### Sys2Proof/Machine/DoubleKey.lean -/

section
variable {τ : Nat} {s : State}

theorem State.SoundFrom.modDky {f : Dky → Dky} (h : s.SoundFrom τ) : (s.modDky f).SoundFrom τ := h.frame rfl

theorem State.SoundFrom.setDkyState {st} (h : s.SoundFrom τ) : (s.setDkyState st).SoundFrom τ := h.setFld

theorem State.SoundFrom.dkyEvent {bit} (h : s.SoundFrom τ) : (s.dkyEvent bit).SoundFrom τ := h.on (fun _ ha => ha.raiseFor)

theorem State.SoundFrom.dkyErr (h : s.SoundFrom τ) : (s.dkyErr).SoundFrom τ := h.cfgErr

theorem State.SoundFrom.dkyIdle {result} (h : s.SoundFrom τ) : (s.dkyIdle result).SoundFrom τ := h.setDkyState.setFld.disarm

theorem State.SoundFrom.draw {i} (h : s.SoundFrom τ) : (s.draw i).1.SoundFrom τ := by
  induction i generalizing s with
  | zero => exact h
  | succ i ih => exact ih (h.on fun _ ha => ha.nextFree)

theorem State.SoundFrom.wrList {k l} (h : s.SoundFrom τ) : (s.wrList k l).SoundFrom τ := by
  induction l generalizing s k with
  | nil => exact h
  | cons v l ih => exact ih h.wr

theorem State.SoundFrom.dkyApply (h : s.SoundFrom τ) : (s.dkyApply).SoundFrom τ :=
  .ite h.dkyIdle.dkyEvent h.setDkyState.disarm.epochAsk

theorem State.SoundFrom.dkyWrite {vi} {f : State → State} (h : s.SoundFrom τ) (hf : ∀ t, t.SoundFrom τ → (f t).SoundFrom τ) :
    (s.dkyWrite vi f).SoundFrom τ :=
  .ite (hf _ h) (h.on (fun _ ha => ha.late))

theorem execDkyOpen_ends {dt vi} (h : s.SoundFrom τ) : Ends τ (execDkyOpen dt vi s) := by
  refine .next (h.tick.dkyWrite fun t ht => ?_)
  refine .ite ht.dkyErr (.modDky (ht.wr.on fun _ hb => hb.filterRegs))

theorem execDkySeal_ends {dt vi} (h : s.SoundFrom τ) : Ends τ (execDkySeal dt vi s) :=
  .next (h.tick.dkyWrite (fun _ ha => .ite ha.setDkyState ha.dkyErr))

theorem execDkyAbort_ends {dt vi} (h : s.SoundFrom τ) : Ends τ (execDkyAbort dt vi s) :=
  .next (h.tick.dkyWrite (fun _ ha => .ite ha.dkyIdle ha.dkyErr))

theorem State.SoundFrom.dkySealed (h : s.SoundFrom τ) : (s.dkySealed).SoundFrom τ := by
  unfold State.dkySealed
  extract_lets _ _ _ _ s1 s2
  have h1 : s1.SoundFrom τ := .wrList (.wrList (.wr ((h.draw))))
  have h2 : s2.SoundFrom τ := h1.setDkyState.modDky.arm.dkyEvent
  exact .ite h2.dkyApply h2

theorem execDkySealComplete_ends {dt} (h : s.SoundFrom τ) : Ends τ (execDkySealComplete dt s) :=
  .next (.ite h.tick (.ite h.tick.dkyIdle.dkyEvent h.tick.dkySealed))

theorem State.SoundFrom.takeSig {prin result} (h : s.SoundFrom τ) : (s.takeSig prin result).SoundFrom τ := by
  unfold State.takeSig
  extract_lets s1 _ s2
  have h1 : s1.SoundFrom τ := h.setFld
  have h2 : s2.SoundFrom τ := .ite h1.modDky.setBit.setFld h1.modDky.setBit.setFld
  exact .ite h1.dkyEvent (.ite h2.dkyEvent.dkyApply h2.dkyEvent)

theorem execDkySigSubmit_ends {dt vi value} (h : s.SoundFrom τ) : Ends τ (execDkySigSubmit dt vi value s) :=
  .next (h.tick.dkyWrite (fun _ ha => .ite ha (.ite ha.dkyErr ha.modDky.setBit)))

theorem State.SoundFrom.dkyExpire (h : s.SoundFrom τ) : (s.dkyExpire).SoundFrom τ := h.dkyIdle.dkyEvent

theorem execDkySigVerified_ends {dt check} (h : s.SoundFrom τ) : Ends τ (execDkySigVerified dt check s) := by
  refine .next ?_
  split
  · exact h.tick
  · extract_lets s2 s3
    have h2 : s2.SoundFrom τ := h.tick.modDky.setBit
    have h3 : s3.SoundFrom τ := .ite h2 h2.fault
    exact .ite h3.takeSig.modDky.dkyExpire h3.takeSig

theorem execDkyWindowExpire_ends {dt} (h : s.SoundFrom τ) : Ends τ (execDkyWindowExpire dt s) := by
  refine .next ?_
  refine h.tick.onExpiry fun _ ha => ?_
  refine .ite ha ?_
  split
  · exact .ite ha.modDky ha.dkyExpire
  · exact ha.dkyExpire

theorem execWakeNPresenceHold_ends {dt low} (h : s.SoundFrom τ) : Ends τ (execWakeNPresenceHold dt low s) := .next h.tick.modDky

theorem State.SoundFrom.showPresence (h : s.SoundFrom τ) : (s.showPresence).SoundFrom τ :=
  .ite h.setBit.dkyEvent.arm.dkyApply h.setBit.dkyEvent.arm

theorem execPresenceExpire_ends {dt} (h : s.SoundFrom τ) : Ends τ (execPresenceExpire dt s) :=
  .next (h.tick.onExpiry (fun _ ha => ha.setBit))

end

/-! ### Sys2Proof/Machine/Identity.lean -/

section
variable {τ : Nat} {s : State}

theorem State.SoundFrom.modIdn {f : Idn → Idn} (h : s.SoundFrom τ) : (s.modIdn f).SoundFrom τ := h.frame rfl

theorem execIdnReportRequest_ends {dt vi value} (h : s.SoundFrom τ) : Ends τ (execIdnReportRequest dt vi value s) :=
  .next (.ite (h.tick.on (fun _ ha => ha.late)) (.ite h.tick (.ite h.tick.cfgErr h.tick.setBit.modIdn)))

theorem execIdnReportReady_ends {dt} (h : s.SoundFrom τ) : Ends τ (execIdnReportReady dt s) := by
  refine .next ?_
  split
  · exact h.tick
  · exact h.tick.draw.setBit.modIdn.on (fun _ ha => ha.raiseFor)

theorem execIdentityKeygen_ends {dt} (h : s.SoundFrom τ) : Ends τ (execIdentityKeygen dt s) :=
  .next (.ite h.tick h.tick.draw.wrList.wrList.setBit.modIdn)

end

/-! ### Sys2Proof/Machine/Rng.lean -/

section
variable {τ : Nat} {s : State}

theorem execRngReady_ends {dt} (h : s.SoundFrom τ) : Ends τ (execRngReady dt s) := .next (.ite h.tick h.tick.wr.wr.wr.raise)

theorem execRngHealthFail_ends {dt} (h : s.SoundFrom τ) : Ends τ (execRngHealthFail dt s) := by
  refine .next ?_
  refine .ite h.tick ?_
  extract_lets _ s2
  have h2 : s2.SoundFrom τ := h.tick.addSat.wr.setFld.raise
  exact .ite h2 h2.setFld.raise.setBit.fault

theorem execRngReseed_ends {dt} (h : s.SoundFrom τ) : Ends τ (execRngReseed dt s) := .next (.ite h.tick.addWrap.setFld.wr h.tick)

theorem execRngDataRead_ends {dt vi} (h : s.SoundFrom τ) : Ends τ (execRngDataRead dt vi s) :=
  .next (h.tick.readBy (fun _ ha => .ite (ha.on (fun _ hb => hb.nextFree)) ha))

end

/-! ### Sys2Proof/Machine/Can.lean -/

section
variable {τ : Nat} {s : State}

theorem State.SoundFrom.setCtl {n c} (h : s.SoundFrom τ) : (s.setCtl n c).SoundFrom τ := h.frame rfl

theorem State.SoundFrom.modCtl {n} {f : Can → Can} (h : s.SoundFrom τ) : (s.modCtl n f).SoundFrom τ := h.setCtl

theorem State.SoundFrom.setTxStat {n b st} (h : s.SoundFrom τ) : (s.setTxStat n b st).SoundFrom τ := h.setFld

theorem State.SoundFrom.setBusState {n st} (h : s.SoundFrom τ) : (s.setBusState n st).SoundFrom τ := .ite h h.setFld.raise

theorem State.SoundFrom.busOff {n} (h : s.SoundFrom τ) : (s.busOff n).SoundFrom τ :=
  h.setBusState.addSat.modCtl.ifThen (fun _ ha => ha.arm)

theorem State.SoundFrom.setEcr {n tec rec'} (h : s.SoundFrom τ) : (s.setEcr n tec rec').SoundFrom τ :=
  .ite h.wr (.ite h.wr.busOff h.wr.setBusState)

theorem State.SoundFrom.integrate {n} (h : s.SoundFrom τ) : (s.integrate n).SoundFrom τ := .ite h.setEcr h

theorem State.SoundFrom.setAlone {n on} (h : s.SoundFrom τ) : (s.setAlone n on).SoundFrom τ := .ite h h.setBit.setBit.disarm.raise

theorem State.SoundFrom.suppress {n b} (h : s.SoundFrom τ) : (s.suppress n b).SoundFrom τ := h.setTxStat.setBit.addSat.raise

theorem State.SoundFrom.txRequest {n b} (h : s.SoundFrom τ) : (s.txRequest n b).SoundFrom τ :=
  .ite h (.ite h.cfgErr (.ite h.wr.modCtl.setTxStat (.ite h.wr.modCtl.suppress h.wr.modCtl.setTxStat)))

theorem execCanTxRequest_ends {dt vi n value} (h : s.SoundFrom τ) : Ends τ (execCanTxRequest dt vi n value s) :=
  .next (h.tick.guardWrite (fun _ ha => ha.foldl fun _ _ hb => hb.txRequest))

theorem State.SoundFrom.txCancelled {n b} (h : s.SoundFrom τ) : (s.txCancelled n b).SoundFrom τ := h.setTxStat.raise

theorem State.SoundFrom.txCancel {n b} (h : s.SoundFrom τ) : (s.txCancel n b).SoundFrom τ := .ite h.txCancelled (.ite h.modCtl h)

theorem execCanTxCancel_ends {dt vi n value} (h : s.SoundFrom τ) : Ends τ (execCanTxCancel dt vi n value s) :=
  .next (h.tick.guardWrite (fun _ ha => ha.foldl fun _ _ hb => hb.txCancel))

theorem State.SoundFrom.incTries {n b} (h : s.SoundFrom τ) : (s.incTries n b).SoundFrom τ := h.setFld

theorem State.SoundFrom.txStart {n b} (h : s.SoundFrom τ) : (s.txStart n b).SoundFrom τ := h.setTxStat.incTries.modCtl.emit

theorem execCanTxAttemptStart_ends {dt n} (h : s.SoundFrom τ) : Ends τ (execCanTxAttemptStart dt n s) := by
  refine .next ?_
  refine .ite ?_ h.tick
  split
  · exact h.tick.integrate.txStart
  · exact h.tick

theorem State.SoundFrom.txAgain {n b} (h : s.SoundFrom τ) : (s.txAgain n b).SoundFrom τ :=
  .ite h.modCtl.txCancelled h.modCtl.setTxStat

theorem State.SoundFrom.txFirstError {n b} (h : s.SoundFrom τ) : (s.txFirstError n b).SoundFrom τ := .ite h h.modCtl.raise

theorem State.SoundFrom.txErrorFrame {n ack} (h : s.SoundFrom τ) : (s.txErrorFrame n ack).SoundFrom τ :=
  .ite h.addSat h.addSat.setEcr

theorem State.SoundFrom.txEnd {n b how setAlone} (h : s.SoundFrom τ) : (s.txEnd n b how setAlone).SoundFrom τ := by
  unfold State.txEnd
  extract_lets _ _ _ s3 s1'
  have h3 : s3.SoundFrom τ := h.setTxStat.addWrap.wr.setEcr.raise.setAlone.ifThen (fun _ ha => ha.setBit.raise)
  have h1' : s1'.SoundFrom τ := h.setFld.txFirstError.txErrorFrame.txAgain
  split
  · exact h3.disarm.modCtl
  · exact h.wr.disarm.txAgain
  · exact h.wr.disarm.txFirstError.txErrorFrame.txAgain
  · exact .ite (.ite (h1'.setAlone) (h1'.arm)) (h1')

theorem execCanTxAttemptEnd_ends {dt n how setAlone} (h : s.SoundFrom τ) : Ends τ (execCanTxAttemptEnd dt n how setAlone s) := by
  refine .next ?_
  split
  · exact h.tick.txEnd
  · exact h.tick

theorem execCanAloneSelfSet_ends {dt n} (h : s.SoundFrom τ) : Ends τ (execCanAloneSelfSet dt n s) :=
  .next (h.tick.onExpiry (fun _ ha => ha.setAlone.fault))

theorem execCanBoffRecoveryStart_ends {dt n} (h : s.SoundFrom τ) : Ends τ (execCanBoffRecoveryStart dt n s) :=
  .next (h.tick.onExpiry (fun _ ha => .ite ha.modCtl ha))

theorem execCanBoffRecovered_ends {dt n} (h : s.SoundFrom τ) : Ends τ (execCanBoffRecovered dt n s) :=
  .next (.ite h.tick.wr.modCtl.setBusState h.tick)

theorem execCanErrorDetected_ends {dt n inc} (h : s.SoundFrom τ) : Ends τ (execCanErrorDetected dt n inc s) :=
  .next (.ite h.tick.addSat.setEcr h.tick)

theorem State.SoundFrom.canFifo {n x} (h : s.SoundFrom τ) : (s.canFifo n x).SoundFrom τ :=
  .ite h.modCtl.wr.addWrap.raise h.addSat.setBit.raise

theorem State.SoundFrom.canHp {n i x} (h : s.SoundFrom τ) : (s.canHp n i x).SoundFrom τ :=
  .ite h.setBit.addSat.raise.canFifo h.modCtl.setBit.addWrap.raise

theorem State.SoundFrom.ttRestart {n clk count} (h : s.SoundFrom τ) : (s.ttRestart n clk count).SoundFrom τ :=
  h.modCtl.setFld.setBit.setBit

theorem State.SoundFrom.ttReference {n sof x} (h : s.SoundFrom τ) : (s.ttReference n sof x).SoundFrom τ :=
  .ite h.modCtl.ttRestart h

theorem State.SoundFrom.canReceive {n ago x} (h : s.SoundFrom τ) : (s.canReceive n ago x).SoundFrom τ := by
  unfold State.canReceive
  split
  · exact h.addSat
  · extract_lets _ _ _ s1 s2
    have h1 : s1.SoundFrom τ := h.ifThen (fun _ ha => ha.modCtl)
    have h2 : s2.SoundFrom τ := h1.ifThen (fun _ ha => ha.addSat.setBit.raise)
    exact .ite h2.canHp h2.canFifo

theorem execCanRxFrame_ends {dt n sofAgo f} (h : s.SoundFrom τ) : Ends τ (execCanRxFrame dt n sofAgo f s) :=
  .next (.ite h.tick.integrate.setEcr.ttReference.canReceive h.tick)

theorem execCanHpWord0Read_ends {dt vi n i} (h : s.SoundFrom τ) : Ends τ (execCanHpWord0Read dt vi n i s) :=
  .next (h.tick.readBy (fun _ ha => ha.setBit))

theorem execCanHpWord20Read_ends {dt vi n i} (h : s.SoundFrom τ) : Ends τ (execCanHpWord20Read dt vi n i s) :=
  .next (h.tick.readBy (fun _ ha => ha.setBit.setBit))

theorem execCanHpLockRelease_ends {dt vi n value} (h : s.SoundFrom τ) : Ends τ (execCanHpLockRelease dt vi n value s) :=
  .next (h.tick.guardWrite (fun _ ha => ha.foldl fun _ _ hb => .ite hb.setBit hb))

theorem execCanRxfWord0Read_ends {dt vi n} (h : s.SoundFrom τ) : Ends τ (execCanRxfWord0Read dt vi n s) :=
  .next (h.tick.readBy (fun _ ha => ha.modCtl))

theorem execCanRxfWord20Read_ends {dt vi n} (h : s.SoundFrom τ) : Ends τ (execCanRxfWord20Read dt vi n s) :=
  .next (h.tick.readBy (fun _ ha => ha.modCtl.wr))

theorem execCanTtReferenceSend_ends {dt n sofAgo how} (h : s.SoundFrom τ) :
    Ends τ (execCanTtReferenceSend dt n sofAgo how s) := by
  refine .next ?_
  refine .ite ?_ h.tick
  extract_lets _ _ s2
  have h2 : s2.SoundFrom τ := h.tick.integrate.emit
  split
  · exact h2.addWrap.setEcr.ttRestart
  · exact h2
  · exact h2.txErrorFrame
  · exact h2.txErrorFrame

theorem execCanTtWindowMark_ends {dt n entry} (h : s.SoundFrom τ) : Ends τ (execCanTtWindowMark dt n entry s) :=
  .next (.ite h.tick.modCtl h.tick)

theorem execCanTtWindowEnd_ends {dt n entry} (h : s.SoundFrom τ) : Ends τ (execCanTtWindowEnd dt n entry s) := by
  refine .next ?_
  refine .ite ?_ h.tick
  extract_lets _ s2
  have h2 : s2.SoundFrom τ := h.tick.modCtl
  split
  · exact .ite h2.suppress h2
  · exact .ite h2 h2.addSat
  · exact h2

theorem execCanTtRefTimeout_ends {dt n} (h : s.SoundFrom τ) : Ends τ (execCanTtRefTimeout dt n s) :=
  .next (.ite h.tick.setBit.setBit.raise.modCtl h.tick)

end

/-! ### Sys2Proof/Machine/Transceiver.lean -/

section
variable {τ : Nat} {s : State}

theorem State.SoundFrom.setWak {n st} (h : s.SoundFrom τ) : (s.setWak n st).SoundFrom τ := by
  unfold State.setWak
  refine .ite h ?_
  extract_lets s1
  have h1 : s1.SoundFrom τ := h.setFld.raise.setBit
  split
  · exact .ite h1 h1.txEnd
  · exact h1

theorem State.SoundFrom.stopFailsafe {n} (h : s.SoundFrom τ) : (s.stopFailsafe n).SoundFrom τ := h.disarm.setBit

theorem State.SoundFrom.goSleep {n} (h : s.SoundFrom τ) : (s.goSleep n).SoundFrom τ := h.setWak.arm

theorem State.SoundFrom.wakDetect {n src} (h : s.SoundFrom τ) : (s.wakDetect n src).SoundFrom τ := by
  unfold State.wakDetect
  refine .ite h (.wake (.sectionWake ?_))
  split
  · exact .raise (.addSat (.setBit (.setWak (.disarm (.addSat (.setBit (.ite h h.setFld)))))))
  · exact .raise (.arm (.setBit (.setWak (.addSat (.setBit (.ite h h.setFld))))))
  · exact .addSat (.setBit (.ite h h.setFld))

theorem execWakModeNormal_ends {dt vi n} (h : s.SoundFrom τ) : Ends τ (execWakModeNormal dt vi n s) :=
  .next (h.tick.guardWrite (fun _ ha => .ite ha.setFld.stopFailsafe.setWak ha))

theorem execWakModeStandby_ends {dt vi n value} (h : s.SoundFrom τ) : Ends τ (execWakModeStandby dt vi n value s) :=
  .next (h.tick.guardWrite (fun _ ha => .ite ha.setFld.stopFailsafe.setWak ha))

theorem execWakModeSleep_ends {dt vi n} (h : s.SoundFrom τ) : Ends τ (execWakModeSleep dt vi n s) :=
  .next (h.tick.guardWrite (fun _ ha => .ite ha.cfgErr (.ite ha.setFld.goSleep ha)))

theorem execWakSleepCommit_ends {dt n} (h : s.SoundFrom τ) : Ends τ (execWakSleepCommit dt n s) :=
  .next (h.tick.onExpiry (fun _ ha => .ite ha.setWak ha))

theorem execWakeUpPattern_ends {dt n us} (h : s.SoundFrom τ) : Ends τ (execWakeUpPattern dt n us s) :=
  .next (.ite h.tick.wakDetect h.tick)

theorem execSelectiveWakeFrame_ends {dt n f} (h : s.SoundFrom τ) : Ends τ (execSelectiveWakeFrame dt n f s) :=
  .next (.ite h.tick.wakDetect h.tick)

theorem execFrameErrorCounterWake_ends {dt n} (h : s.SoundFrom τ) : Ends τ (execFrameErrorCounterWake dt n s) :=
  .next (.ite h.tick.setFld.setBit.wakDetect h.tick)

theorem execWakFailsafeExpire_ends {dt n} (h : s.SoundFrom τ) : Ends τ (execWakFailsafeExpire dt n s) :=
  .next (h.tick.onExpiry (fun _ ha => .ite ha.setBit.goSleep.raise ha.setBit))

theorem execTxdDominantTimeout_ends {dt n} (h : s.SoundFrom τ) : Ends τ (execTxdDominantTimeout dt n s) :=
  .next (.ite h.tick.setBit.raise h.tick)

theorem execXcvrThermal_ends {dt n} (h : s.SoundFrom τ) : Ends τ (execXcvrThermal dt n s) := .next h.tick.setBit.fault

theorem execXcvrThermalRecover_ends {dt n} (h : s.SoundFrom τ) : Ends τ (execXcvrThermalRecover dt n s) := .next h.tick.setBit

theorem execExtCanWake_ends {dt n} (h : s.SoundFrom τ) : Ends τ (execExtCanWake dt n s) :=
  .next (.ite (.wake (.sectionWake (h.tick.setBit.foldl fun _ _ ha => ha.raise))) h.tick)

end

/-! ### Sys2Proof/Machine/Canvas.lean -/

section
variable {τ : Nat} {s : State}

theorem State.SoundFrom.setCanvas {c x} (h : s.SoundFrom τ) : (s.setCanvas c x).SoundFrom τ := h.frame rfl

theorem State.SoundFrom.canvasStep {d c} (h : s.SoundFrom τ) : (s.canvasStep d c).SoundFrom τ := by
  unfold State.canvasStep
  extract_lets
  split
  · exact h
  · exact .ite h.setCanvas.setBit.raise.setCanvas h.setCanvas.setBit.raise

theorem State.SoundFrom.canvasesStep {d} (h : s.SoundFrom τ) : (s.canvasesStep d).SoundFrom τ :=
  h.foldl fun _ _ ha => ha.canvasStep

end

/-! ### Sys2Proof/Machine/Stores.lean -/

section
variable {τ : Nat} {s : State}

theorem State.SoundFrom.setStore {j x} (h : s.SoundFrom τ) : (s.setStore j x).SoundFrom τ := h.frame rfl

theorem State.SoundFrom.fsReport {j} (h : s.SoundFrom τ) : (s.fsReport j).SoundFrom τ := by
  unfold State.fsReport
  exact .setFld (.setFld (h.foldl fun _ _ ha => ha.setFld))

theorem State.SoundFrom.fsEvent {j bit} (h : s.SoundFrom τ) : (s.fsEvent j bit).SoundFrom τ := h.raiseEntry

theorem State.SoundFrom.poolReport {d} (h : s.SoundFrom τ) : (s.poolReport d).SoundFrom τ := h.foldl fun _ _ ha => ha.wr

theorem State.SoundFrom.fsReturn {j} (h : s.SoundFrom τ) : (s.fsReturn j).SoundFrom τ := .ite h.setStore.poolReport.fsReport h

theorem State.SoundFrom.fsEnable {j} (h : s.SoundFrom τ) : (s.fsEnable j).SoundFrom τ :=
  .ite h.setBit.setBit.setBit.setBit.cfgErrEntry h.setBit.setBit.setBit.setStore.setBit.poolReport.fsReport

theorem State.SoundFrom.fsDisable {j} (h : s.SoundFrom τ) : (s.fsDisable j).SoundFrom τ :=
  h.setStore.setBit.wr.wr.wr.fsReport.fsReturn

theorem State.SoundFrom.fsCtrlWrite {j value} (h : s.SoundFrom τ) : (s.fsCtrlWrite j value).SoundFrom τ :=
  .ite (.ite h.cfgErrEntry (.ite h h.setBit.fsDisable)) (.ite h.wr.fsEnable h.wr)

theorem execFsEnable_ends {dt vi store value} (h : s.SoundFrom τ) : Ends τ (execFsEnable dt vi store value s) :=
  .next (h.tick.guardEntry (fun _ ha => ha.fsCtrlWrite))

theorem execFsDisable_ends {dt vi store} (h : s.SoundFrom τ) : Ends τ (execFsDisable dt vi store s) :=
  .next (h.tick.guardEntry (fun _ ha => ha.fsCtrlWrite))

theorem State.SoundFrom.frameBegin {j ts} (h : s.SoundFrom τ) : (s.frameBegin j ts).SoundFrom τ := by
  unfold State.frameBegin
  extract_lets
  refine .ite h.setStore.addSat ?_
  split
  · exact h.setStore.addSat
  · exact h.setStore.ifThen (fun _ ha => ha.addSat)

theorem State.SoundFrom.frameEnd {j} (h : s.SoundFrom τ) : (s.frameEnd j).SoundFrom τ := by
  unfold State.frameEnd
  extract_lets
  split <;> exact h.setStore

theorem State.SoundFrom.frameWrite {j pl p} (h : s.SoundFrom τ) : (s.frameWrite j pl p).SoundFrom τ := by
  unfold State.frameWrite
  extract_lets
  split
  · exact h
  · exact .ite h.setStore h.setStore

theorem execFsCapturePacket_ends {dt store} (h : s.SoundFrom τ) : Ends τ (execFsCapturePacket dt store s) := by
  refine .next ?_
  split
  · exact h.tick
  · extract_lets _ s1 _ _ s2
    have h1 : s1.SoundFrom τ := h.tick.frame rfl
    have h2 : s2.SoundFrom τ := by
      unfold s2
      split
      · exact .ite h1 (.ite h1.frameEnd.frameBegin h1)
      · exact h1.frameBegin
    exact .ite h1 (.ite (.fsReport (.ite h2.frameWrite.frameEnd h2.frameWrite)) h2)

theorem State.SoundFrom.frameDrop {j b} (h : s.SoundFrom τ) : (s.frameDrop j b).SoundFrom τ := h.setStore

theorem State.SoundFrom.xsError {j b} (h : s.SoundFrom τ) : (s.xsError j b).SoundFrom τ := h.frameDrop.addSat.fsEvent

theorem execXsDecodeComplete_ends {dt store first count ok} (h : s.SoundFrom τ) :
    Ends τ (execXsDecodeComplete dt store first count ok s) := by
  refine .next ?_
  refine .ite h.tick ?_
  split
  · exact .ite h.tick (.ite h.tick.xsError.fsReport h.tick.setStore)
  · split
    · exact .ite (.ite h.tick.setStore h.tick.setStore.xsError.fsReport) h.tick
    · exact h.tick

theorem execFsFrameComplete_ends {dt store} (h : s.SoundFrom τ) : Ends τ (execFsFrameComplete dt store s) := by
  refine .next ?_
  split
  · exact h.tick
  · extract_lets _ _ _ _ _ _ _ s2
    have h2 : s2.SoundFrom τ := h.tick.setStore.ifThen (fun _ ha => ha.addSat)
    refine .ite h.tick.xsError.fsReport ?_
    refine .ite h.tick ?_
    exact .ite h.tick.frameDrop.addSat.fsEvent.fsReport h2.wr.wr.wr.addWrap.fsReport

theorem State.SoundFrom.hbmUncorr {j b band} (h : s.SoundFrom τ) : (s.hbmUncorr j b band).SoundFrom τ := h.setStore

theorem State.SoundFrom.engineFail {d e} (h : s.SoundFrom τ) : (s.engineFail d e).SoundFrom τ := by
  unfold State.engineFail
  exact .foldl (.frame h rfl) fun _ _ ha => ha.setStore.fsReport

end

/-! ### Sys2Proof/Machine/Layout.lean -/

section
variable {τ : Nat} {s : State}

theorem State.SoundFrom.lanesReport (h : s.SoundFrom τ) : (s.lanesReport).SoundFrom τ := h.foldl fun _ _ ha => ha.setBit.wr.wr

theorem State.SoundFrom.laneFail {n} (h : s.SoundFrom τ) : (s.laneFail n).SoundFrom τ := by
  unfold State.laneFail
  extract_lets _ _ s1
  have h1 : s1.SoundFrom τ := h.setFld.setFld
  refine .ite h1.lanesReport ?_
  split
  · extract_lets s2 _ s3
    have h2 : s2.SoundFrom τ := h1.setFld.setFld
    have h3 : s3.SoundFrom τ := h2.frame rfl
    exact h3.addSat.raise.lanesReport
  · exact h1.fault.lanesReport

theorem State.SoundFrom.epochStatus {g v} (h : s.SoundFrom τ) : (s.epochStatus g v).SoundFrom τ := h.foldl fun _ _ ha => ha.wr

theorem State.SoundFrom.setEpoch {g e} (h : s.SoundFrom τ) : (s.setEpoch g e).SoundFrom τ := h.frame rfl

theorem State.SoundFrom.epochRequest {g} (h : s.SoundFrom τ) : (s.epochRequest g).SoundFrom τ := .ite h h.setEpoch.epochStatus

theorem State.SoundFrom.epochClear {g e} (h : s.SoundFrom τ) : (s.epochClear g e).SoundFrom τ := by
  unfold State.epochClear
  exact .setEpoch (.frame (h.foldl fun _ _ ha => ha.setBit) rfl)

theorem execLayoutEpochRequest_ends {dt vi canvas} (h : s.SoundFrom τ) : Ends τ (execLayoutEpochRequest dt vi canvas s) :=
  .next (h.tick.guardWrite (fun _ ha => .ite ha.epochRequest ha))

theorem State.SoundFrom.epochRecord {g e} (h : s.SoundFrom τ) : (s.epochRecord g e).SoundFrom τ := .ite h.jwrite.setEpoch h

theorem execLayoutEpochChecked_ends {dt group} (h : s.SoundFrom τ) : Ends τ (execLayoutEpochChecked dt group s) := by
  refine .next ?_
  split
  · exact h.tick
  · refine .ite h.tick ?_
    split
    · exact h.tick.epochClear.epochStatus.foldl fun _ _ ha => ha.raise
    · exact .epochRecord (.epochStatus (h.tick.foldl fun _ _ ha => ha.cfgErr))

theorem State.SoundFrom.commitKey {k} (h : s.SoundFrom τ) : (s.commitKey k).SoundFrom τ := h.on (fun _ ha => ha.wr.frame rfl)

theorem State.SoundFrom.commitKeys {take : Nat → Bool} (h : s.SoundFrom τ) : (s.commitKeys take).SoundFrom τ :=
  h.foldl fun _ _ ha => ha.commitKey

theorem State.SoundFrom.dropGood {w} (h : s.SoundFrom τ) : (s.dropGood w).SoundFrom τ := h.frame rfl

theorem State.SoundFrom.epochApply {g e} (h : s.SoundFrom τ) : (s.epochApply g e).SoundFrom τ := by
  unfold State.epochApply
  extract_lets _ _ _ s2 s3 s4
  have h2 : s2.SoundFrom τ := h.commitKeys.epochClear.foldl fun _ _ ha => ha.dropGood
  have h3 : s3.SoundFrom τ := by
    unfold s3
    refine .foldl h2 fun _ _ ha => ?_
    exact .ite (ha.setBit.setFld.ifThen (fun _ hb => hb.setBit)) ha.wr
  have h4 : s4.SoundFrom τ := h3.foldl fun _ _ ha => ha.addWrap.wr.wr.wr.wr.raise
  exact h4.lanesReport

theorem State.SoundFrom.epochBind {g} (h : s.SoundFrom τ) : (s.epochBind g).SoundFrom τ := by
  unfold State.epochBind
  split
  · exact h
  · exact .ite h (.ite h.epochApply (.ite h.epochRecord h))

theorem State.SoundFrom.cnvEnable {c} (h : s.SoundFrom τ) : (s.cnvEnable c).SoundFrom τ :=
  .ite h (.ite h.cfgErr h.setBit.setFld.setBit.setCanvas.lanesReport.epochRequest)

theorem execCanvasEnable_ends {dt vi canvas} (h : s.SoundFrom τ) : Ends τ (execCanvasEnable dt vi canvas s) :=
  .next (h.tick.guardWrite (fun _ ha => ha.cnvEnable))

end

/-! ### Sys2Proof/Machine/Compose.lean -/

section
variable {τ : Nat} {s : State}

theorem State.SoundFrom.closeFrame {c f} (h : s.SoundFrom τ) : (s.closeFrame c f).SoundFrom τ := by
  unfold State.closeFrame
  extract_lets _ _ s1 s2 _ s3
  have h1 : s1.SoundFrom τ := .foldl (.frame h rfl) fun _ _ ha => ha.raiseEntry
  have h2 : s2.SoundFrom τ := h1.foldl fun _ _ ha => ha.dropGood
  have h3 : s3.SoundFrom τ := h2.foldl fun _ _ ha => ha.fsReturn
  exact h3.foldl fun _ _ ha => ha.fsReport

theorem State.SoundFrom.bindWindow {w} (h : s.SoundFrom τ) : (s.bindWindow w).1.SoundFrom τ := by
  unfold State.bindWindow
  extract_lets
  split
  · exact h.wr.wr.wr
  · split
    · exact h.wr.wr.wr
    · exact h.wr.wr.wr.setFld

theorem execBindingInstant_ends {dt canvas} (h : s.SoundFrom τ) : Ends τ (execBindingInstant dt canvas s) := by
  refine .next ?_
  split
  · exact h.tick
  · extract_lets _ _ _ _ _ _ _ s2 s3
    have h2 : s2.SoundFrom τ := .setBit (.setCanvas ((h.tick.epochBind.fst_foldl fun _ _ ha => ha.bindWindow)))
    have h3 : s3.SoundFrom τ := by
      unfold s3
      split
      · exact h2.ifThen (fun _ ha => ha.foldl fun _ _ hb => hb.raise)
      · exact h2
    exact .ite h.tick (.ite h.tick.setCanvas (h3.foldl fun _ _ ha => ha.fsReport))

theorem execCanvasFrameStart_ends {dt canvas} (h : s.SoundFrom τ) : Ends τ (execCanvasFrameStart dt canvas s) := by
  refine .next ?_
  split
  · exact h.tick
  · extract_lets _ _ _ _ _ _ _ s1 s2 s3
    have h1 : s1.SoundFrom τ := h.tick.setCanvas.addWrap
    have h2 : s2.SoundFrom τ := by
      unfold s2
      split
      · exact h1.closeFrame
      · exact h1
    have h3 : s3.SoundFrom τ := h2.foldl fun _ _ ha => ha.setBit
    exact .ite h.tick (.ite h3.setBit.raise h3)

theorem State.SoundFrom.cnvDisable {c} (h : s.SoundFrom τ) : (s.cnvDisable c).SoundFrom τ := by
  unfold State.cnvDisable
  extract_lets _ s1 _ _ s3 s4
  have h1 : s1.SoundFrom τ := h.setBit.setFld.setBit
  have h3 : s3.SoundFrom τ := by
    unfold s3
    split
    · exact h1.setCanvas.closeFrame
    · exact h1.setCanvas
  have h4 : s4.SoundFrom τ := by
    unfold s4
    split
    · exact h3.closeFrame
    · exact h3
  exact h4.lanesReport

theorem execLineDraw_ends {dt canvas tile line} (h : s.SoundFrom τ) : Ends τ (execLineDraw dt canvas tile line s) := by
  refine .next ?_
  split
  · exact h.tick
  · exact .ite h.tick.setCanvas h.tick

theorem State.SoundFrom.countStale {c tile} (h : s.SoundFrom τ) : (s.countStale c tile).SoundFrom τ := by
  unfold State.countStale
  split
  · exact h.addWrap
  · exact h

theorem State.SoundFrom.windowStale {f w} (h : s.SoundFrom τ) : (s.windowStale f w).SoundFrom τ :=
  .ite h (.ite h.setBit.addSat (.raiseEntry (h.setBit.addSat.frame rfl)))

theorem State.SoundFrom.windowFresh {f w} (h : s.SoundFrom τ) : (s.windowFresh f w).SoundFrom τ := by
  unfold State.windowFresh
  split
  · exact h
  · extract_lets old _ s1 s2
    have h1 : s1.SoundFrom τ := .setFld (.frame h rfl)
    have h2 : s2.SoundFrom τ := h1.setBit
    refine .ite h2 ?_
    cases old
    · exact h2.fsReport
    · exact h2.fsReport.fsReport

theorem execSegmentPost_ends {dt canvas} (h : s.SoundFrom τ) : Ends τ (execSegmentPost dt canvas s) := by
  refine .next ?_
  split
  · refine .ite ?_ (.ite h.tick.setCanvas.windowStale.countStale h.tick.setCanvas.windowFresh)
    extract_lets _ _ _ s1 s2
    have h1 : s1.SoundFrom τ := h.tick.setCanvas
    have h2 : s2.SoundFrom τ := by
      unfold s2
      split
      · exact h1.markStale
      · exact h1
    exact .ite h2.countStale h2
  · exact h.tick

theorem State.SoundFrom.tileHand {c tile lane sched bytes} (h : s.SoundFrom τ) :
    (s.tileHand c tile lane sched bytes).SoundFrom τ := by
  unfold State.tileHand
  split
  · exact h
  · split
    · exact h
    · exact h.newId.stagePut

theorem State.SoundFrom.lateSegs {c g f lane tile k late} (h : s.SoundFrom τ) : (s.lateSegs c g f lane tile k late).SoundFrom τ :=
  h.foldl fun _ _ ha => ha.setCanvas.addSat.raise

theorem execTilePacketSend_ends {dt canvas tile k late} (h : s.SoundFrom τ) :
    Ends τ (execTilePacketSend dt canvas tile k late s) := by
  refine .next ?_
  split
  · exact .ite h.tick.lateSegs.setCanvas.tileHand h.tick
  · exact h.tick

end

/-! ### Sys2Proof/Machine/Tokens.lean -/

section
variable {τ : Nat} {s : State}

theorem State.SoundFrom.modTok {n} {f : Tok → Tok} (h : s.SoundFrom τ) : (s.modTok n f).SoundFrom τ := h.frame rfl

theorem State.SoundFrom.setRelay {n on} (h : s.SoundFrom τ) : (s.setRelay n on).SoundFrom τ := .ite h h.setBit.ldsRefresh.raise

theorem State.SoundFrom.relayOff {n} (h : s.SoundFrom τ) : (s.relayOff n).SoundFrom τ := h.disarm.setRelay

theorem State.SoundFrom.tokEnter {n st} (h : s.SoundFrom τ) : (s.tokEnter n st).SoundFrom τ :=
  h.setFld.setBit.modTok.disarm.disarm.disarm.ifThen (fun _ ha => ha.relayOff)

theorem State.SoundFrom.tokSend {n awaits bytes} (h : s.SoundFrom τ) : (s.tokSend n awaits bytes).SoundFrom τ := h.emit.modTok.arm

theorem State.SoundFrom.tokClaim {n} (h : s.SoundFrom τ) : (s.tokClaim n).SoundFrom τ := by
  unfold State.tokClaim
  extract_lets s1
  have h1 : s1.SoundFrom τ := h.on (fun _ ha => ha.releaseClaims)
  exact .ite h1.setBit (.setBit (h1.on (fun _ ha => ha.claim)))

theorem State.SoundFrom.tokOn {n} (h : s.SoundFrom τ) : (s.tokOn n).SoundFrom τ := .ite h.tokEnter (.ite h.tokEnter h)

theorem State.SoundFrom.tokEnable {n} (h : s.SoundFrom τ) : (s.tokEnable n).SoundFrom τ :=
  .foldl (.ite h.tokClaim.tokOn h.tokClaim) fun _ _ ha => ha.ldsRefresh

theorem State.SoundFrom.tokDisable {n} (h : s.SoundFrom τ) : (s.tokDisable n).SoundFrom τ :=
  h.tokEnter.tokClaim.foldl fun _ _ ha => ha.ldsRefresh

theorem State.SoundFrom.tokResume {n} (h : s.SoundFrom τ) : (s.tokResume n).SoundFrom τ := .ite h h.tokEnter.modTok.raise

theorem State.SoundFrom.tokSwitch {i} (h : s.SoundFrom τ) : (s.tokSwitch i).SoundFrom τ :=
  h.foldl fun _ _ ha => .ite ha.tokResume.sectionWake ha

theorem State.SoundFrom.tokJudge {n} (h : s.SoundFrom τ) : (s.tokJudge n).SoundFrom τ :=
  h.setBit.setBit.ifThen (fun _ ha => ha.raise)

theorem State.SoundFrom.tokRelease {n} (h : s.SoundFrom τ) : (s.tokRelease n).SoundFrom τ := by
  unfold State.tokRelease
  split
  · exact .ite h.setRelay.arm h.setRelay.disarm
  · exact .ite (.sectionWake (h.frame rfl)) h.coiFire
  · exact h

theorem State.SoundFrom.tokSign {n} (h : s.SoundFrom τ) : (s.tokSign n).SoundFrom τ := by
  unfold State.tokSign
  extract_lets
  refine .ite h ?_
  split
  · exact h.takeSig
  · exact h

theorem State.SoundFrom.drawRa (h : s.SoundFrom τ) : (s.drawRa).1.SoundFrom τ := h.draw

theorem State.SoundFrom.tokFail {n} (h : s.SoundFrom τ) : (s.tokFail n).SoundFrom τ :=
  .ite h.setFld.addSat.raise.tokEnter h.setFld.addSat.raise.tokEnter.arm.addSat.raise

theorem State.SoundFrom.tokSucceed {n r} (h : s.SoundFrom τ) : (s.tokSucceed n r).SoundFrom τ := by
  unfold State.tokSucceed
  extract_lets _ _ s2
  have h2 : s2.SoundFrom τ := .modTok (.tokEnter ((h.setFld.wr.wr.draw)))
  exact .tokSign (h2.addWrap.setBit.tokJudge.raise.raise.arm.ifThen (fun _ ha => ha.tokRelease))

theorem execTokPoll_ends {dt n card} (h : s.SoundFrom τ) : Ends τ (execTokPoll dt n card s) :=
  .next (.ite (.wake (.ite (.sectionWake (h.tick.frame rfl)) h.tick)) h.tick)

theorem execTokSelect_ends {dt n uid} (h : s.SoundFrom τ) : Ends τ (execTokSelect dt n uid s) := by
  refine .next ?_
  refine .ite h.tick ?_
  extract_lets s2 _ _ _ s4
  have h2 : s2.SoundFrom τ := h.tick.ifThen (fun _ ha => ha.showPresence)
  have h4 : s4.SoundFrom τ := .wr (.wr ((h2.modTok.drawRa)))
  exact .ite h2 (.ite h2.modTok h4.tokEnter.modTok.tokSend)

theorem State.SoundFrom.tokReply {n awaits} {f : State → State} (h : s.SoundFrom τ)
    (hf : ∀ t, t.SoundFrom τ → (f t).SoundFrom τ) :
    (s.tokReply n awaits f).SoundFrom τ :=
  .ite (hf _ h.disarm) h

theorem execTokAuth1Reply_ends {dt n bytes} (h : s.SoundFrom τ) : Ends τ (execTokAuth1Reply dt n bytes s) :=
  .next (h.tick.tokReply (fun _ ha => .ite ha.modTok.tokSend ha.tokFail))

theorem execTokAuth2Reply_ends {dt n bytes} (h : s.SoundFrom τ) : Ends τ (execTokAuth2Reply dt n bytes s) :=
  .next (h.tick.tokReply (fun _ ha => .ite ha.modTok.tokSend ha.tokFail))

theorem execTokReadReply_ends {dt n bytes} (h : s.SoundFrom τ) : Ends τ (execTokReadReply dt n bytes s) :=
  .next (h.tick.tokReply (fun _ ha => .ite ha.tokSucceed ha.tokFail))

theorem execTokReplyTimeout_ends {dt n} (h : s.SoundFrom τ) : Ends τ (execTokReplyTimeout dt n s) :=
  .next (h.tick.onExpiry (fun _ ha => .ite ha (.ite ha.tokEnter ha.tokFail)))

theorem State.SoundFrom.tokStays {n clks} (h : s.SoundFrom τ) : (s.tokStays n clks).SoundFrom τ :=
  h.modTok.arm.tokJudge.ifThen (fun _ ha => ha.relayOff)

theorem execTokPing_ends {dt n reply} (h : s.SoundFrom τ) : Ends τ (execTokPing dt n reply s) :=
  .next (h.tick.onExpiry (fun _ ha => .ite ha (.ite ha.emit.tokStays ha.emit.arm)))

theorem State.SoundFrom.tokLeaves {n} (h : s.SoundFrom τ) : (s.tokLeaves n).SoundFrom τ :=
  .ite (.ite h.tokEnter.raise.relayOff h.tokEnter.raise.arm) h.tokEnter.raise

theorem execTokPingRetry_ends {dt n reply} (h : s.SoundFrom τ) : Ends τ (execTokPingRetry dt n reply s) :=
  .next (h.tick.onExpiry (fun _ ha => .ite ha (.ite ha.emit.tokStays ha.emit.tokLeaves)))

theorem execTokLockoutExpire_ends {dt n} (h : s.SoundFrom τ) : Ends τ (execTokLockoutExpire dt n s) :=
  .next (h.tick.onExpiry (fun _ ha => .ite ha.setFld (ha.setFld.tokEnter.ifThen (fun _ hb => hb.modTok))))

theorem execTokIdleStop_ends {dt n} (h : s.SoundFrom τ) : Ends τ (execTokIdleStop dt n s) :=
  .next (.ite h.tick.tokEnter.raise h.tick)

theorem State.SoundFrom.tokCtrl {n value} (h : s.SoundFrom τ) : (s.tokCtrl n value).SoundFrom τ :=
  .ite h.wr (.ite (.ite h.wr.tokOn h.wr) h.wr.tokResume)

theorem execTokPollEnable_ends {dt vi n value} (h : s.SoundFrom τ) : Ends τ (execTokPollEnable dt vi n value s) :=
  .next (h.tick.guardWrite (fun _ ha => ha.tokCtrl))

theorem execTokRelayTimeExpire_ends {dt n} (h : s.SoundFrom τ) : Ends τ (execTokRelayTimeExpire dt n s) :=
  .next (h.tick.onExpiry (fun _ ha => ha.setRelay))

theorem execTokFrontendFault_ends {dt n} (h : s.SoundFrom τ) : Ends τ (execTokFrontendFault dt n s) := .next h.tick.tokEnter.fault

end

/-! ### Sys2Proof/Machine/Inputs.lean -/

section
variable {τ : Nat} {s : State}

theorem State.SoundFrom.setSwiBit {lo i b} (h : s.SoundFrom τ) : (s.setSwiBit lo i b).SoundFrom τ := h.setBit

theorem State.SoundFrom.modSwi {f : Switches → Switches} (h : s.SoundFrom τ) : (s.modSwi f).SoundFrom τ := h.frame rfl

theorem State.SoundFrom.swiQueue {e} (h : s.SoundFrom τ) : (s.swiQueue e).SoundFrom τ := .ite h.modSwi h.addSat.raise

theorem State.SoundFrom.swiChange {i level since} (h : s.SoundFrom τ) : (s.swiChange i level since).SoundFrom τ := by
  unfold State.swiChange
  exact .tokSwitch (.swiQueue (h.modSwi.setSwiBit.setSwiBit.ifThen (fun _ ha => ha.raise)))

theorem State.SoundFrom.swiInvalid {i} (h : s.SoundFrom τ) : (s.swiInvalid i).SoundFrom τ :=
  .ite h.modSwi h.modSwi.setSwiBit.raise

theorem State.SoundFrom.swiInput {i mv vfield n stamp} (h : s.SoundFrom τ) : (s.swiInput i mv vfield n stamp).SoundFrom τ := by
  unfold State.swiInput
  refine .ite h ?_
  refine .ite h.swiInvalid ?_
  extract_lets _ _ s1
  have h1 : s1.SoundFrom τ := h.setSwiBit.modSwi
  exact .ite h1.modSwi (.ite h1.swiChange h1.modSwi)

theorem State.SoundFrom.swiInputs {vfield stamp debounce l i} (h : s.SoundFrom τ) :
    (s.swiInputs vfield stamp debounce l i).SoundFrom τ := by
  induction l generalizing s i with
  | nil => exact h
  | cons mv l ih => exact ih h.swiInput

theorem execSwiSample_ends {dt mv vfield} (h : s.SoundFrom τ) : Ends τ (execSwiSample dt mv vfield s) :=
  .next (.ite h.tick.swiInputs h.tick)

theorem State.SoundFrom.localWakes (h : s.SoundFrom τ) : (s.localWakes).SoundFrom τ := h.foldl fun _ _ ha => .ite ha.wakDetect ha

theorem execSwiWatchSample_ends {dt mv vfield} (h : s.SoundFrom τ) : Ends τ (execSwiWatchSample dt mv vfield s) :=
  .next (.ite (.ite h.tick.swiInputs.raise.sectionWake.wake.localWakes h.tick.swiInputs) h.tick)

theorem execSwiQueuePop_ends {dt vi} (h : s.SoundFrom τ) : Ends τ (execSwiQueuePop dt vi s) := by
  refine .next ?_
  refine h.tick.readBy fun _ ha => ?_
  split
  · exact ha
  · exact ha.modSwi

theorem State.SoundFrom.encCount {e d} (h : s.SoundFrom τ) : (s.encCount e d).SoundFrom τ := h.wr

theorem execEncEdge_ends {dt e a b} (h : s.SoundFrom τ) : Ends τ (execEncEdge dt e a b s) :=
  .next (.ite (.ite h.tick.setBit.setBit.addSat.setBit.raise h.tick.setBit.setBit.encCount) h.tick)

theorem State.SoundFrom.encIdx {e v} (h : s.SoundFrom τ) : (s.encIdx e v).SoundFrom τ := h.wr

theorem State.SoundFrom.encIndex {e} (h : s.SoundFrom τ) : (s.encIndex e).SoundFrom τ := by
  unfold State.encIndex
  extract_lets _ _ _ _ _ s1
  have h1 : s1.SoundFrom τ := h.wr.setBit.raise.addSat.encIdx
  exact .ite h.encIdx.setBit (.ite h (.ite h.encIdx (.ite h1.wr.encIdx h1)))

theorem execEncIndex_ends {dt e} (h : s.SoundFrom τ) : Ends τ (execEncIndex dt e s) :=
  .next (.ite (.ite h.tick.setBit.addWrap.raise.encIndex h.tick.setBit) h.tick)

theorem execEncPosWrite_ends {dt vi e value} (h : s.SoundFrom τ) : Ends τ (execEncPosWrite dt vi e value s) :=
  .next (h.tick.guardWrite (fun _ ha => ha.wr.setBit))

end

/-! ### Sys2Proof/Machine/Clocks.lean -/

section
variable {τ : Nat} {s : State}

theorem State.SoundFrom.updateTeb (h : s.SoundFrom τ) : (s.updateTeb).SoundFrom τ := .ite h.wr.raise h.wr

theorem State.SoundFrom.setAddend {a} (h : s.SoundFrom τ) : (s.setAddend a).SoundFrom τ := by
  unfold State.setAddend
  extract_lets s1
  have h1 : s1.SoundFrom τ := h.on fun _ ha => ha.frame rfl
  exact .frame (h1.wr (k := timKey R.TIM_FREQ_ADJ) (v := ofSigned 32 (freqAdj a))) rfl

theorem State.SoundFrom.setTimState {st} (h : s.SoundFrom τ) : (s.setTimState st).SoundFrom τ := .ite h h.wr.raise

theorem State.SoundFrom.leaveLocked (h : s.SoundFrom τ) : (s.leaveLocked).SoundFrom τ :=
  .ite (.updateTeb (.setTimState (.setAddend (h.frame rfl)))) h

theorem State.SoundFrom.enterLocked (h : s.SoundFrom τ) : (s.enterLocked).SoundFrom τ := by
  unfold State.enterLocked
  exact .setTimState (h.frame rfl)

theorem State.SoundFrom.stepBy {d} (h : s.SoundFrom τ) : (s.stepBy d).SoundFrom τ := by
  unfold State.stepBy
  extract_lets _ _ _ s1 _ _ _ s2 s3
  have h1 : s1.SoundFrom τ := h.on (fun _ ha => ha.frame rfl)
  have h2 : s2.SoundFrom τ := h1.frame rfl
  have h3 : s3.SoundFrom τ := .ite h2 h2.wr.wr
  exact h3.raise.enterLocked.updateTeb.canvasesStep

theorem State.SoundFrom.pushHist {e} (h : s.SoundFrom τ) : (s.pushHist e).SoundFrom τ := h.frame rfl

theorem State.SoundFrom.slew {e} (h : s.SoundFrom τ) : (s.slew e).SoundFrom τ := h.setAddend

theorem State.SoundFrom.discipline {prev e agree armed meas} {arm : Bool → State → State} (h : s.SoundFrom τ)
    (harm : ∀ x t, t.SoundFrom τ → (arm x t).SoundFrom τ) :
    (s.discipline prev e agree armed meas arm).SoundFrom τ := by
  unfold State.discipline
  refine .ite (.ite h.setAddend.stepBy (harm _ _ h)) ?_
  refine .ite (.ite (harm _ _ h) h) ?_
  exact .ite (harm _ _ h) (.ite (.ite h h.slew) (.ite h.enterLocked.slew.updateTeb h))

theorem State.SoundFrom.acceptEdge {cap} (h : s.SoundFrom τ) : (s.acceptEdge cap).SoundFrom τ := by
  unfold State.acceptEdge
  extract_lets _ e _ _ _ s1 _ s2
  have h1 : s1.SoundFrom τ := h.raise.arm
  have h2 : s2.SoundFrom τ := h1.frame rfl
  cases e
  · exact h2
  · exact .ite h2.wr.pushHist (.updateTeb (h2.wr.pushHist.discipline fun _ _ ha => ha.frame rfl))

theorem execPpsEdge_ends {dt rising} (h : s.SoundFrom τ) : Ends τ (execPpsEdge dt rising s) := by
  refine .next ?_
  refine .ite h.tick ?_
  extract_lets _ s1 _ s2
  have h1 : s1.SoundFrom τ := h.tick.wr.wr
  have h2 : s2.SoundFrom τ := h1.frame rfl
  split
  · exact h1.frame rfl
  · exact .ite h1.acceptEdge h2.addSat.raise

theorem State.SoundFrom.losePtpLock (h : s.SoundFrom τ) : (s.losePtpLock).SoundFrom τ :=
  .ite (.ite (.leaveLocked (.raise (h.frame rfl))) (.raise (h.frame rfl))) (h.frame rfl)

theorem execPtpSync_ends {dt port domain offset} (h : s.SoundFrom τ) : Ends τ (execPtpSync dt port domain offset s) := by
  refine .next ?_
  refine .ite ?_ h.tick
  extract_lets _ _ _ _ _ _ _ s2 s3 _ _ _ s4
  have h2 : s2.SoundFrom τ := h.tick.wr.arm.frame rfl
  have h3 : s3.SoundFrom τ := .ite h2.raise h2
  have h4 : s4.SoundFrom τ := h3.pushHist.discipline (fun _ _ ha => ha.frame rfl)
  exact .ite (.updateTeb (.ite h4.enterLocked h4)) (.ite h3.enterLocked.updateTeb h3)

theorem execPtpMessage_ends {dt port domain kind} (h : s.SoundFrom τ) : Ends τ (execPtpMessage dt port domain kind s) := by
  refine .next ?_
  split
  · exact .ite (.ite (h.tick.frame rfl) (.losePtpLock (h.tick.frame rfl))) h.tick
  · exact h.tick
  · exact h.tick

theorem execPtpSyncTimeout_ends {dt} (h : s.SoundFrom τ) : Ends τ (execPtpSyncTimeout dt s) :=
  .next (h.tick.onExpiry (fun _ ha => ha.losePtpLock))

theorem execPpsAbsenceTimeout_ends {dt} (h : s.SoundFrom τ) : Ends τ (execPpsAbsenceTimeout dt s) :=
  .next (h.tick.onExpiry (fun _ ha => .ite ha ha.leaveLocked))

theorem execTebUpdate_ends {dt} (h : s.SoundFrom τ) : Ends τ (execTebUpdate dt s) := .next h.tick.updateTeb

theorem execHoldoverLimitReached_ends {dt} (h : s.SoundFrom τ) : Ends τ (execHoldoverLimitReached dt s) :=
  .next (.ite h.tick.setTimState.updateTeb h.tick)

theorem execEstepHoldExpire_ends {dt} (h : s.SoundFrom τ) : Ends τ (execEstepHoldExpire dt s) :=
  .next (.ite (.updateTeb (h.tick.frame rfl)) h.tick)

theorem execTimNowSnapshot_ends {dt req} (h : s.SoundFrom τ) : Ends τ (execTimNowSnapshot dt req s) := .next (h.tick.frame rfl)

theorem execTimPpsCapSnapshot_ends {dt req} (h : s.SoundFrom τ) : Ends τ (execTimPpsCapSnapshot dt req s) :=
  .next (h.tick.frame rfl)

theorem execTrefInLoss_ends {dt} (h : s.SoundFrom τ) : Ends τ (execTrefInLoss dt s) :=
  .next (.ite h.tick.setBit.fault.setTimState.updateTeb h.tick.setBit.fault)

theorem execTrefInRestored_ends {dt} (h : s.SoundFrom τ) : Ends τ (execTrefInRestored dt s) := .next h.tick.setBit

theorem execRefclkLoss_ends {dt} (h : s.SoundFrom τ) : Ends τ (execRefclkLoss dt s) :=
  .next (.fault (.frame (h.tick.on (fun _ ha => ha.haltDoms)) rfl))

theorem execPcieRefclkLoss_ends {dt} (h : s.SoundFrom τ) : Ends τ (execPcieRefclkLoss dt s) :=
  .next (.fault (h.tick.on (fun _ ha => ha.frame rfl)))

theorem execXtal32kLoss_ends {dt} (h : s.SoundFrom τ) : Ends τ (execXtal32kLoss dt s) := .next (.fault (h.tick.frame rfl))

theorem execPllUnlock_ends {dt clk} (h : s.SoundFrom τ) : Ends τ (execPllUnlock dt clk s) :=
  .next (.ite (.fault (h.tick.on (fun _ ha => ha.haltDoms))) (.fault (h.tick.frame rfl)))

theorem execPllStandbyRestored_ends {dt clk} (h : s.SoundFrom τ) : Ends τ (execPllStandbyRestored dt clk s) :=
  .next (.ite (.raise (h.tick.frame rfl)) h.tick)

theorem State.SoundFrom.setGpt {n g} (h : s.SoundFrom τ) : (s.setGpt n g).SoundFrom τ := h.frame rfl

theorem State.SoundFrom.setGptCount {n c} (h : s.SoundFrom τ) : (s.setGptCount n c).SoundFrom τ := h.wr.wr

theorem State.SoundFrom.gptFire {n} (h : s.SoundFrom τ) : (s.gptFire n).SoundFrom τ := .ite h.setBit.raise.wake h.setBit.raise

theorem State.SoundFrom.gptAdvance {n ticks} (h : s.SoundFrom τ) : (s.gptAdvance n ticks).SoundFrom τ :=
  .ite h.setGpt.setGptCount.gptFire h.setGpt.setGptCount

theorem State.SoundFrom.gptModes (h : s.SoundFrom τ) : (s.gptModes).SoundFrom τ :=
  h.foldl fun _ _ ha => .ite (.ite ha.setBit ha.setBit) ha.setBit.setBit

theorem execGptInputTick_ends {dt n src pin rising} (h : s.SoundFrom τ) : Ends τ (execGptInputTick dt n src pin rising s) :=
  .next (.ite h.tick.gptAdvance h.tick)

theorem State.SoundFrom.gptCommit {n g} (h : s.SoundFrom τ) : (s.gptCommit n g).SoundFrom τ :=
  .ite h.setGpt.cfgErr (.ite h.setGpt.gptFire h.setGpt)

theorem execGptCmpLoWrite_ends {dt vi n value} (h : s.SoundFrom τ) : Ends τ (execGptCmpLoWrite dt vi n value s) :=
  .next (h.tick.guardWrite (fun _ ha => ha.wr.gptCommit))

theorem execGptReloadLoWrite_ends {dt vi n value} (h : s.SoundFrom τ) : Ends τ (execGptReloadLoWrite dt vi n value s) :=
  .next (h.tick.guardWrite (fun _ ha => .gptCommit (.ite ha.wr.cfgErr ha.wr)))

theorem execGptClear_ends {dt vi n} (h : s.SoundFrom τ) : Ends τ (execGptClear dt vi n s) :=
  .next (h.tick.guardWrite (fun _ ha => ha.setGpt.setGptCount))

theorem State.SoundFrom.writeGptCtrl {n ctrl} (h : s.SoundFrom τ) : (s.writeGptCtrl n ctrl).SoundFrom τ := by
  unfold State.writeGptCtrl
  extract_lets _ _ _ _ s2
  have h2 : s2.SoundFrom τ := .ite h.wr.setGpt.setGptCount h.wr
  refine .ite (.ite (.setBit (h2.on (fun _ ha => ha.releaseClaims))) h2) ?_
  exact .ite h2 (.setBit (h2.foldl fun _ _ ha => ha.on (fun _ hb => hb.claim)))

theorem execGptEnable_ends {dt vi n ctrl} (h : s.SoundFrom τ) : Ends τ (execGptEnable dt vi n ctrl s) :=
  .next (h.tick.guardWrite (fun _ ha => ha.writeGptCtrl))

theorem State.SoundFrom.gptCapture {n ovr} (h : s.SoundFrom τ) : (s.gptCapture n ovr).SoundFrom τ := by
  unfold State.gptCapture
  exact .raise (.setBit (.ite h.setGpt.wr.setBit h.setGpt.wr))

theorem execGptCapture_ends {dt n src} (h : s.SoundFrom τ) : Ends τ (execGptCapture dt n src s) :=
  .next (.ite h.tick.gptCapture h.tick)

theorem execGptCapLoRead_ends {dt vi n meets} (h : s.SoundFrom τ) : Ends τ (execGptCapLoRead dt vi n meets s) := by
  refine .next ?_
  refine .ite h.tick.emit ?_
  refine .ite (.emit (h.tick.on (fun _ ha => ha.late))) ?_
  exact .ite h.tick.emit (.ite h.tick.emit.wr.setBit.gptCapture h.tick.emit.wr.setBit)

theorem execGptAonUpdate_ends {dt n ticks} (h : s.SoundFrom τ) : Ends τ (execGptAonUpdate dt n ticks s) :=
  .next (.ite (.ite h.tick.setBit h.tick.setBit.gptAdvance) h.tick)

end

/-! ### Sys2Proof/Machine/Ports.lean -/

section
variable {τ : Nat} {s : State}

theorem execMdioFrameStart_ends {dt vi value} (h : s.SoundFrom τ) : Ends τ (execMdioFrameStart dt vi value s) :=
  .next (h.tick.guardWrite (fun _ ha => ha.wr.setBit.emit))

theorem execMdioFrameComplete_ends {dt data} (h : s.SoundFrom τ) : Ends τ (execMdioFrameComplete dt data s) :=
  .next (.ite (.setBit (.ite h.tick.setFld h.tick)) h.tick)

theorem execMgtLinkChange_ends {dt m up} (h : s.SoundFrom τ) : Ends τ (execMgtLinkChange dt m up s) :=
  .next (.ite h.tick.setBit.raise h.tick)

theorem execMgtEnergyWake_ends {dt m} (h : s.SoundFrom τ) : Ends τ (execMgtEnergyWake dt m s) := .next (.ite h.tick.wake h.tick)

theorem execMgtFrameRx_ends {dt m frame} (h : s.SoundFrom τ) : Ends τ (execMgtFrameRx dt m frame s) :=
  .next (.ite (.ite h.tick.emit h.tick.addSat) h.tick)

theorem execLinkUp_ends {dt port} (h : s.SoundFrom τ) : Ends τ (execLinkUp dt port s) :=
  .next (.ite h.tick.setBit.setBit.setFld.raise h.tick)

theorem execAnTrainingFail_ends {dt port} (h : s.SoundFrom τ) : Ends τ (execAnTrainingFail dt port s) :=
  .next (.ite h.tick.raise h.tick)

theorem State.SoundFrom.flushPort {p} (h : s.SoundFrom τ) : (s.flushPort p).SoundFrom τ := by
  unfold State.flushPort
  extract_lets _ s1 _ s3 s2
  have h1 : s1.SoundFrom τ := h.foldl fun _ _ ha => ha.takeOut.cisCount.gone
  have h3 : s3.SoundFrom τ := h1.frame rfl
  have h2 : s2.SoundFrom τ := by
    unfold s2
    split
    · exact .ite h3.cisCount h3
    · exact h1
  exact h2.raise

theorem State.SoundFrom.killLegs {f : Copy → Nat → Bool} (h : s.SoundFrom τ) : (s.killLegs f).SoundFrom τ := h.frame rfl

theorem State.SoundFrom.linkDown {p} (h : s.SoundFrom τ) : (s.linkDown p).SoundFrom τ := by
  unfold State.linkDown
  extract_lets _ _ _ s3
  have h3 : s3.SoundFrom τ := h.setBit.setBit.setFld.raise.flushPort.killLegs.foldl fun _ _ ha => ha.disarm
  exact .ite (.ite h3.losePtpLock h3) h

theorem execLinkDown_ends {dt port} (h : s.SoundFrom τ) : Ends τ (execLinkDown dt port s) := .next (.ite h.tick.linkDown h.tick)

theorem execSerdesFailure_ends {dt port} (h : s.SoundFrom τ) : Ends τ (execSerdesFailure dt port s) :=
  .next (.ite h.tick.fault.linkDown h.tick)

theorem execFecDegWindow_ends {dt port symbols codewords} (h : s.SoundFrom τ) :
    Ends τ (execFecDegWindow dt port symbols codewords s) :=
  .next (.ite (.ite h.tick.addSat.setBit.raise h.tick.addSat.setBit) h.tick)

theorem execPfcPauseExpire_ends {dt port cls} (h : s.SoundFrom τ) : Ends τ (execPfcPauseExpire dt port cls s) :=
  .next (h.tick.onExpiry (fun _ ha => ha))

theorem State.SoundFrom.sendXoff {p} (h : s.SoundFrom τ) : (s.sendXoff p).SoundFrom τ := .ite h h.sendFrame.arm

theorem execPfcXoffRefresh_ends {dt port} (h : s.SoundFrom τ) : Ends τ (execPfcXoffRefresh dt port s) :=
  .next (h.tick.onExpiry (fun _ ha => ha.sendXoff))

theorem State.SoundFrom.setPfcReq {p req} (h : s.SoundFrom τ) : (s.setPfcReq p req).SoundFrom τ := by
  unfold State.setPfcReq
  extract_lets _ _ _ s1 s2
  have h1 : s1.SoundFrom τ := h.frame rfl
  have h2 : s2.SoundFrom τ := .ite h1 h1.sendFrame
  exact .ite h2.disarm (.ite h2 h2.sendXoff)

theorem State.SoundFrom.pfcRx {p l} (h : s.SoundFrom τ) : (s.pfcRx p l).SoundFrom τ :=
  .ite (h.foldl fun _ _ ha => .ite ha.disarm ha.arm) h.addSat.raise

theorem State.SoundFrom.ingress {port l} (h : s.SoundFrom τ) : (s.ingress port l).SoundFrom τ := by
  unfold State.ingress
  extract_lets
  split
  · exact h.addSat.raise
  · exact h.pfcRx
  · exact h.trap
  · exact h.addSat
  · exact h.addSat.raise
  · exact h
  · exact h
  · exact h.plainCopies
  · exact h.forward

theorem execFrameRx_ends {dt port frame} (h : s.SoundFrom τ) : Ends τ (execFrameRx dt port frame s) := by
  refine .next ?_
  refine .ite ?_ h.tick
  refine .ite (.ite h.tick.addSat.raise.forward h.tick.addSat.raise) ?_
  refine .ite h.tick.addSat ?_
  refine .ite (.ite h.tick.addSat.forward h.tick.addSat) ?_
  exact .ite (.ite h.tick.addSat.forward h.tick.addSat) h.tick.add64.add64.ingress

end

/-! ### Sys2Proof/Machine/Switch.lean -/

section
variable {τ : Nat} {s : State}

theorem State.SoundFrom.planeCondition {p} (h : s.SoundFrom τ) : (s.planeCondition p).SoundFrom τ := by
  unfold State.planeCondition
  refine .ite h ?_
  split
  · exact h.frame rfl
  · exact h.fault.on (fun _ ha => ha.haltDoms)

theorem State.SoundFrom.sliceError {p} (h : s.SoundFrom τ) : (s.sliceError p).SoundFrom τ :=
  .ite (.planeCondition (h.frame rfl)) (h.frame rfl)

theorem execPlaneForce_ends {dt vi value} (h : s.SoundFrom τ) : Ends τ (execPlaneForce dt vi value s) :=
  .next (h.tick.guardWrite (fun _ ha => .ite ha.planeCondition ha))

theorem execPlaneIsolationComplete_ends {dt} (h : s.SoundFrom τ) : Ends τ (execPlaneIsolationComplete dt s) := by
  refine .next ?_
  split
  · exact h.tick
  · exact .raise (.fault (.setBit (.setFld (.setBit (.setBit (h.tick.frame rfl))))))

theorem State.SoundFrom.loseCopy {t c} (h : s.SoundFrom τ) : (s.loseCopy t c).SoundFrom τ := by
  unfold State.loseCopy
  split
  · split
    · exact h.takeOut.cisCount.gone
    · exact h
  · exact h.cisCount.emit
  · exact h

theorem State.SoundFrom.admitAt {t out} (h : s.SoundFrom τ) : (s.admitAt t out).1.SoundFrom τ :=
  h.fst_foldl fun _ _ ha => .fst_ite ha.admitCopy ha

theorem State.SoundFrom.writeCell {t out} (h : s.SoundFrom τ) : (s.writeCell t out).SoundFrom τ :=
  .ite (h.foldl fun _ _ ha => ha.setQueue) (.wr (h.foldl fun _ _ ha => ha.setQueue))

theorem State.SoundFrom.crossCell {r bad} (h : s.SoundFrom τ) : (s.crossCell r bad).SoundFrom τ := by
  unfold State.crossCell
  split
  · exact h
  · extract_lets _ _ _ _ s1 s2 _ _ s3 s4
    have h1 : s1.SoundFrom τ := .foldl ((.fst_ite h.admitAt h)) fun _ _ ha => ha.sliceError
    have h2 : s2.SoundFrom τ := .ite h1.addSat.fault h1
    have h3 : s3.SoundFrom τ := .ite (h2.foldl fun _ _ ha => ha.loseCopy) h2.writeCell
    have h4 : s4.SoundFrom τ := .ite h3.addSat.fault h3
    exact h4.setStage

theorem execCrossbarCellTime_ends {dt cell} (h : s.SoundFrom τ) : Ends τ (execCrossbarCellTime dt cell s) := by
  refine .next ?_
  refine .ite ?_ h.tick
  extract_lets s1 s2 _ _ s3
  have h1 : s1.SoundFrom τ := h.tick.foldl fun _ _ ha => ha.planeCondition
  have h2 : s2.SoundFrom τ := .ite h1 h1.fault
  have h3 : s3.SoundFrom τ := h2.frame rfl
  refine .ite (h2.fault.on (fun _ ha => ha.haltDoms)) ?_
  exact .ite h2.fault (h3.foldl fun _ _ ha => ha.crossCell)

theorem State.SoundFrom.dropStale {x} (h : s.SoundFrom τ) : (s.dropStale x).SoundFrom τ := by
  unfold State.dropStale
  extract_lets s1
  have h1 : s1.SoundFrom τ := h.takeOut.cisCount.killLegs.gone
  split
  · exact h1.addSat.raise
  · exact h1.raise

theorem State.SoundFrom.choose {out k i} (h : s.SoundFrom τ) : (s.choose out k i).1.SoundFrom τ := by
  induction i generalizing s with
  | zero => exact h
  | succ i ih =>
    unfold State.choose
    dsimp only
    split
    · exact h
    · exact .fst_ite (ih h.dropStale) h

theorem State.SoundFrom.deliver {x} (h : s.SoundFrom τ) : (s.deliver x).SoundFrom τ := by
  unfold State.deliver
  split
  · exact .ite h.sendFrame h.addSat
  · exact h.frame rfl
  · exact .watchPump (h.frame rfl)
  · exact h.frame rfl
  · exact h.emit
  · exact h.forward

theorem State.SoundFrom.choose_eq {out k i t x} (h : s.SoundFrom τ) (hc : s.choose out k i = (t, x)) : t.SoundFrom τ := by
  have h1 : (s.choose out k i).1.SoundFrom τ := h.choose
  rwa [hc] at h1

theorem execPacketDequeue_ends {dt out k} (h : s.SoundFrom τ) : Ends τ (execPacketDequeue dt out k s) := by
  refine .next (.ite ?_ h.tick)
  extract_lets total
  split
  · next hc => exact h.tick.choose_eq hc
  · next s1 x d hc =>
    have h1 : s1.SoundFrom τ := h.tick.choose_eq hc
    extract_lets len start full s2 _ s3 _ s4 s5 shaped _ s6 s7
    have h2 : s2.SoundFrom τ := h1.takeOut
    have h3 : s3.SoundFrom τ := h2.frame rfl
    have h4 : s4.SoundFrom τ := .ite h3 (h3.frame rfl)
    have h5 : s5.SoundFrom τ := .ite h4.cisCount h4
    have h6 : s6.SoundFrom τ := .ite (h5.frame rfl) h5
    have h7 : s7.SoundFrom τ := .ite h6.addWrap h6
    exact h7.gone.deliver

theorem execCisPeakClr_ends {dt vi n} (h : s.SoundFrom τ) : Ends τ (execCisPeakClr dt vi n s) :=
  .next (.ite (h.tick.guardWrite (fun _ ha => ha.wr)) h.tick)

theorem execCisCntClr_ends {dt vi n} (h : s.SoundFrom τ) : Ends τ (execCisCntClr dt vi n s) :=
  .next (.ite (h.tick.guardWrite (fun _ ha => ha.foldl fun _ _ hb => hb.wr)) h.tick)

theorem execMoveTimeout_ends {dt entry} (h : s.SoundFrom τ) : Ends τ (execMoveTimeout dt entry s) := by
  refine .next ?_
  refine h.tick.onExpiry fun _ ha => ?_
  split
  · exact ha
  · extract_lets _ s1
    have h1 : s1.SoundFrom τ := by
      unfold s1
      refine .foldl ha fun _ _ hb => ?_
      extract_lets
      split <;> exact hb.takeOut.killLegs.addSat
    exact h1.endMove

end

/-! ### Sys2Proof/Machine/Rings.lean -/

section
variable {τ : Nat} {s : State}

theorem State.SoundFrom.storeWrite {a l} (h : s.SoundFrom τ) : (s.storeWrite a l).SoundFrom τ := h.frame rfl

theorem State.SoundFrom.ringWord {r a v} (h : s.SoundFrom τ) : (s.ringWord r a v).SoundFrom τ := .ite (.ite h.storeWrite h) h.emit

theorem State.SoundFrom.ringBytes {r a l} (h : s.SoundFrom τ) : (s.ringBytes r a l).SoundFrom τ := .ite h.storeWrite h.emit

theorem State.SoundFrom.rewatch {pump} (h : s.SoundFrom τ) : (s.rewatch pump).SoundFrom τ := .ite h.disarm.watchPump h.disarm

theorem State.SoundFrom.completeDesc {r status len irq w3 time write} (h : s.SoundFrom τ) :
    (s.completeDesc r status len irq w3 time write).SoundFrom τ := by
  unfold State.completeDesc
  extract_lets _ x1 x2 s1 s2 s3 s4 s5
  have hx1 : x1.SoundFrom τ := by
    unfold x1
    split
    · exact h.ringWord
    · exact h
  have hx2 : x2.SoundFrom τ := by
    unfold x2
    split
    · exact hx1.ringWord.ringWord.ringWord
    · exact hx1
  have h1 : s1.SoundFrom τ := .ite hx2.ringWord h
  have h2 : s2.SoundFrom τ := h1.setFld.addWrap.setFld
  have h3 : s3.SoundFrom τ := .ite h2 h2.setBit
  have h4 : s4.SoundFrom τ := .ite h3.addSat.raiseEntry (.ite h3 h3.addSat.raiseEntry)
  have h5 : s5.SoundFrom τ := .ite h4.setBit.raiseEntry h4
  exact h5.rewatch

theorem State.SoundFrom.takeDesc {r} (h : s.SoundFrom τ) : (s.takeDesc r).SoundFrom τ := h.setFld

theorem State.SoundFrom.ringFail {r addr} (h : s.SoundFrom τ) : (s.ringFail r addr).SoundFrom τ :=
  h.setBit.setBit.raiseEntry.addSat.wr.wr.wr.raise

theorem State.SoundFrom.noBuf {r} (h : s.SoundFrom τ) : (s.noBuf r).SoundFrom τ := h.addSat.raiseEntry

theorem execHqrDoorbell_ends {dt vi ring value} (h : s.SoundFrom τ) : Ends τ (execHqrDoorbell dt vi ring value s) := by
  refine .next ?_
  exact h.tick.guardEntry fun _ ha => .ite ha.raiseEntry (.ite (.ite ha.setFld ha.setFld.watchPump) ha.setBit.setBit.raiseEntry)

theorem execHqrEnable_ends {dt vi ring ctrl} (h : s.SoundFrom τ) : Ends τ (execHqrEnable dt vi ring ctrl s) := by
  refine .next ?_
  refine h.tick.guardEntry fun _ ha => ?_
  extract_lets _ _ s1
  have h1 : s1.SoundFrom τ := .ite ha.wr.cfgErrEntry ha.wr
  exact .ite ha.cfgErrEntry (.ite ha.cfgErrEntry h1.wr.wr.setBit.setBit)

theorem execHqrDisable_ends {dt vi ring ctrl ahead} (h : s.SoundFrom τ) : Ends τ (execHqrDisable dt vi ring ctrl ahead s) := by
  refine .next ?_
  refine h.tick.guardEntry fun _ ha => ?_
  extract_lets _ s1
  have h1 : s1.SoundFrom τ := .ite ha.wr.cfgErrEntry ha.wr
  exact .ite h1.setBit (h1.setFld.frame rfl)

theorem State.SoundFrom.flushFetched {r} (h : s.SoundFrom τ) : (s.flushFetched r).SoundFrom τ := by
  unfold State.flushFetched
  exact .frame (h.foldl fun _ _ ha => ha.completeDesc) rfl

theorem execHqrStopComplete_ends {dt ring} (h : s.SoundFrom τ) : Ends τ (execHqrStopComplete dt ring s) :=
  .next (.ite h.tick.flushFetched.setBit h.tick)

theorem execHqrMemDataAccess_ends {dt vi ring write} (h : s.SoundFrom τ) : Ends τ (execHqrMemDataAccess dt vi ring write s) := by
  refine .next ?_
  refine .ite ?_ h.tick
  refine .ite ?_ ?_
  · split
    · exact .emit (h.tick.on (fun _ ha => ha.late))
    · exact h.tick.on (fun _ ha => ha.late)
  · refine .ite (h.tick.on (fun _ ha => ha.denied)) ?_
    extract_lets _ _ s1 s2
    have h1 : s1.SoundFrom τ := by
      unfold s1
      split
      · exact .ite h.tick.storeWrite h.tick
      · exact h.tick.emit
    have h2 : s2.SoundFrom τ := .ite h1 h1.setBit
    exact .ite h2.setFld h2

theorem State.SoundFrom.txFrame {r pump kind dest cls sgrp bytes} (h : s.SoundFrom τ) :
    (s.txFrame r pump kind dest cls sgrp bytes).SoundFrom τ :=
  h.newId.stagePut

theorem execHqrTxDescriptor_ends {dt pump mem} (h : s.SoundFrom τ) : Ends τ (execHqrTxDescriptor dt pump mem s) := by
  refine .next (.ite ?_ h.tick)
  split
  · exact h.tick
  · next r _ =>
    extract_lets _ s0
    have h0 : s0.SoundFrom τ := h.tick.frame rfl
    have h1 : (s0.takeDesc r).SoundFrom τ := h0.takeDesc
    cases s0.fetchDesc r mem with
    | none => exact h0.ringFail
    | some w =>
      refine .ite h1.completeDesc ?_
      split
      · exact h1.completeDesc
      · refine .ite h1.completeDesc (.ite h1.completeDesc (.ite h1.completeDesc.ringFail ?_))
        extract_lets _ _ s3
        have h3 : s3.SoundFrom τ := h1.txFrame.addWrap.add64
        exact .completeDesc (h3.frame rfl)

theorem execHqrRxFrame_ends {dt pump mem} (h : s.SoundFrom τ) : Ends τ (execHqrRxFrame dt pump mem s) := by
  refine .next (.ite ?_ h.tick)
  split
  · exact h.tick
  · extract_lets _ s0
    have h0 : s0.SoundFrom τ := h.tick.frame rfl
    refine .ite h0.noBuf.rewatch ?_
    split
    · exact h0.ringFail.noBuf.rewatch
    · refine .ite h.tick.takeDesc.completeDesc (.ite h0.takeDesc.completeDesc.ringFail ?_)
      extract_lets s2 s3
      have h3 : s3.SoundFrom τ := h0.takeDesc.ringBytes.addWrap.add64
      exact .completeDesc (h3.frame rfl)

theorem execPcieLinkLoss_ends {dt} (h : s.SoundFrom τ) : Ends τ (execPcieLinkLoss dt s) := by
  refine .next ?_
  refine .on ?_ fun _ ha => ha.frame rfl
  refine .foldl (h.tick.foldl fun _ _ ha => ha.setBit.setBit) fun _ _ ha => ?_
  exact ha.setBit.raise

theorem execPcieLinkRetrained_ends {dt} (h : s.SoundFrom τ) : Ends τ (execPcieLinkRetrained dt s) :=
  .next (.on (h.tick.foldl fun _ _ ha => ha.setBit) (fun _ ha => ha.frame rfl))

theorem execPumpHang_ends {dt pump} (h : s.SoundFrom τ) : Ends τ (execPumpHang dt pump s) :=
  .next (h.tick.onExpiry (fun _ ha => .ite ha (.watchPump (ha.fault.foldl fun _ _ hb => hb.flushFetched))))

theorem State.SoundFrom.pumpsFab {down} (h : s.SoundFrom τ) : (s.pumpsFab down).SoundFrom τ :=
  h.foldl fun _ _ ha => .ite ha.setBit.raise ha.setBit

end

/-! ### Sys2Proof/Machine/ZwCore.lean -/

section
variable {τ : Nat} {s : State}

theorem State.SoundFrom.setZw {c k} (h : s.SoundFrom τ) : (s.setZw c k).SoundFrom τ := h.frame rfl

theorem State.SoundFrom.modZw {c} {f : ZwCore → ZwCore} (h : s.SoundFrom τ) : (s.modZw c f).SoundFrom τ := h.setZw

theorem State.SoundFrom.dmemWr {c addr v} (h : s.SoundFrom τ) : (s.dmemWr c addr v).SoundFrom τ :=
  .ite (h.on (fun _ ha => ha.frame rfl)) h.modZw

theorem State.SoundFrom.imemWr {c addr v} (h : s.SoundFrom τ) : (s.imemWr c addr v).SoundFrom τ := h.modZw

theorem State.SoundFrom.setRun {c st} (h : s.SoundFrom τ) : (s.setRun c st).SoundFrom τ := h.ifThen (fun _ ha => ha.setFld)

theorem State.SoundFrom.clearEvt {c mask} (h : s.SoundFrom τ) : (s.clearEvt c mask).SoundFrom τ := h.on (fun _ ha => ha.frame rfl)

theorem State.SoundFrom.settleStores {c} (h : s.SoundFrom τ) : (s.settleStores c).SoundFrom τ :=
  h.setZw.foldl fun _ _ ha => ha.dmemWr

theorem State.SoundFrom.settle {c} (h : s.SoundFrom τ) : (s.settle c).SoundFrom τ := h.settleStores.modZw

theorem State.SoundFrom.drainWords {c i} (h : s.SoundFrom τ) : (s.drainWords c i).SoundFrom τ := by
  induction i generalizing s with
  | zero => exact h
  | succ i ih => exact ih h.settle.modZw

theorem State.SoundFrom.drain {c} (h : s.SoundFrom τ) : (s.drain c).SoundFrom τ := h.drainWords.settle

theorem State.SoundFrom.zwStop {c reason} (h : s.SoundFrom τ) : (s.zwStop c reason).SoundFrom τ := h.drain.modZw

theorem State.SoundFrom.zwIllegal {c} (h : s.SoundFrom τ) : (s.zwIllegal c).SoundFrom τ := h.fault.zwStop

theorem State.SoundFrom.zwStackFault {c} (h : s.SoundFrom τ) : (s.zwStackFault c).SoundFrom τ := h.fault.zwStop

theorem State.SoundFrom.advance {c} (h : s.SoundFrom τ) : (s.advance c).SoundFrom τ := h.modZw

theorem State.SoundFrom.zwData {dt c op} {f : State → ZwCore → Nat → ZwEff} (h : s.SoundFrom τ) : Ends τ (s.zwData dt c op f) :=
  .next (.ite h.tick.settle.modZw.advance h.tick)

theorem State.SoundFrom.zwControl {dt c op} {f : State → ZwCore → Nat → State} (h : s.SoundFrom τ)
    (hf : ∀ t x y, t.SoundFrom τ → (f t x y).SoundFrom τ) :
    Ends τ (s.zwControl dt c op f) :=
  .next (.ite (.ite h.tick.settle.zwIllegal (hf _ _ _ h.tick.settle)) h.tick)

end

/-! ### Sys2Proof/Machine/Zugrim.lean -/

section
variable {τ : Nat} {s : State}

theorem State.SoundFrom.zwStart {c entry} (h : s.SoundFrom τ) : (s.zwStart c entry).SoundFrom τ := by
  unfold State.zwStart
  exact .setRun (h.setZw.on (fun _ ha => ha.frame rfl))

theorem execZwkStart_ends {dt vi w} (h : s.SoundFrom τ) : Ends τ (execZwkStart dt vi w s) :=
  .next (h.tick.guardWrite (fun _ ha => .ite ha.setBit.zwStart ha.setBit))

theorem execZwkStop_ends {dt vi w} (h : s.SoundFrom τ) : Ends τ (execZwkStop dt vi w s) :=
  .next (h.tick.guardWrite (fun _ ha => .ite ha.setBit.zwStop ha.setBit))

theorem execCoreStopComplete_ends {dt core} (h : s.SoundFrom τ) : Ends τ (execCoreStopComplete dt core s) := by
  refine .next ?_
  split
  · exact .ite (.ite h.tick.modZw.setRun.setFld.raise h.tick.modZw) h.tick
  · exact h.tick

theorem State.SoundFrom.memAccess {vi w addrOff} {rdF : State → Nat → Word} {wrF : State → Nat → Word → State} {size write}
    (h : s.SoundFrom τ) (hwrF : ∀ t x y, t.SoundFrom τ → (wrF t x y).SoundFrom τ) :
    (s.memAccess vi w addrOff rdF wrF size write).SoundFrom τ := by
  unfold State.memAccess
  extract_lets
  split
  · exact h.guardWrite (fun _ ha => .ite (.wr (hwrF _ _ _ ha)) ha.cfgErr)
  · exact h.readBy (fun _ ha => .ite ha.wr ha)

theorem execZwkImemDataAccess_ends {dt vi w write} (h : s.SoundFrom τ) : Ends τ (execZwkImemDataAccess dt vi w write s) :=
  .next (h.tick.memAccess (fun _ _ _ ha => ha.imemWr))

theorem execZwkDmemDataAccess_ends {dt vi w write} (h : s.SoundFrom τ) : Ends τ (execZwkDmemDataAccess dt vi w write s) :=
  .next (h.tick.memAccess (fun _ _ _ ha => ha.dmemWr))

theorem State.SoundFrom.doorbell {c value} (h : s.SoundFrom τ) : (s.doorbell c value).SoundFrom τ :=
  h.foldl fun _ _ ha => .ite (ha.on (fun _ hb => hb.setEvt)) ha

theorem execZwkDoorbell_ends {dt vi w value} (h : s.SoundFrom τ) : Ends τ (execZwkDoorbell dt vi w value s) :=
  .next (h.tick.guardWrite (fun _ ha => ha.doorbell))

theorem execZwkTimerWrite_ends {dt vi core value} (h : s.SoundFrom τ) : Ends τ (execZwkTimerWrite dt vi core value s) :=
  .next (h.tick.guardWrite (fun _ ha => .ite ha.wr.disarm ha.wr.arm))

theorem execCoreTimerExpire_ends {dt core} (h : s.SoundFrom τ) : Ends τ (execCoreTimerExpire dt core s) := by
  refine .next ?_
  exact h.tick.onExpiry fun _ ha => .ite (.arm (ha.on (fun _ hb => hb.setEvt))) (ha.on (fun _ hb => hb.setEvt))

theorem execZwkRouteWrite_ends {dt vi w route value} (h : s.SoundFrom τ) : Ends τ (execZwkRouteWrite dt vi w route value s) :=
  .next (h.tick.guardWrite (fun _ ha => .ite ha.cfgErr ha.wr))

theorem execWaitResume_ends {dt core} (h : s.SoundFrom τ) : Ends τ (execWaitResume dt core s) := by
  refine .next ?_
  split
  · exact .ite h.tick h.tick.modZw.clearEvt.setRun
  · exact h.tick

theorem execZwPairWord_ends {dt core} (h : s.SoundFrom τ) : Ends τ (execZwPairWord dt core s) := by
  refine .next ?_
  refine .ite ?_ h.tick
  extract_lets s2
  have h2 : s2.SoundFrom τ := h.tick.settle
  split
  · exact .ite h2.zwIllegal h2.setZw.advance
  · exact h2.zwIllegal

theorem execZwNop_ends {dt core} (h : s.SoundFrom τ) : Ends τ (execZwNop dt core s) := h.zwData

theorem execZwAdd_ends {dt core} (h : s.SoundFrom τ) : Ends τ (execZwAdd dt core s) := h.zwData

theorem execZwAddi_ends {dt core} (h : s.SoundFrom τ) : Ends τ (execZwAddi dt core s) := h.zwData

theorem execZwSub_ends {dt core} (h : s.SoundFrom τ) : Ends τ (execZwSub dt core s) := h.zwData

theorem execZwAdc_ends {dt core} (h : s.SoundFrom τ) : Ends τ (execZwAdc dt core s) := h.zwData

theorem execZwSbc_ends {dt core} (h : s.SoundFrom τ) : Ends τ (execZwSbc dt core s) := h.zwData

theorem execZwAnd_ends {dt core} (h : s.SoundFrom τ) : Ends τ (execZwAnd dt core s) := h.zwData

theorem execZwAndi_ends {dt core} (h : s.SoundFrom τ) : Ends τ (execZwAndi dt core s) := h.zwData

theorem execZwOr_ends {dt core} (h : s.SoundFrom τ) : Ends τ (execZwOr dt core s) := h.zwData

theorem execZwOri_ends {dt core} (h : s.SoundFrom τ) : Ends τ (execZwOri dt core s) := h.zwData

theorem execZwXor_ends {dt core} (h : s.SoundFrom τ) : Ends τ (execZwXor dt core s) := h.zwData

theorem execZwXori_ends {dt core} (h : s.SoundFrom τ) : Ends τ (execZwXori dt core s) := h.zwData

theorem execZwShl_ends {dt core} (h : s.SoundFrom τ) : Ends τ (execZwShl dt core s) := h.zwData

theorem execZwShli_ends {dt core} (h : s.SoundFrom τ) : Ends τ (execZwShli dt core s) := h.zwData

theorem execZwShr_ends {dt core} (h : s.SoundFrom τ) : Ends τ (execZwShr dt core s) := h.zwData

theorem execZwShri_ends {dt core} (h : s.SoundFrom τ) : Ends τ (execZwShri dt core s) := h.zwData

theorem execZwSar_ends {dt core} (h : s.SoundFrom τ) : Ends τ (execZwSar dt core s) := h.zwData

theorem execZwSari_ends {dt core} (h : s.SoundFrom τ) : Ends τ (execZwSari dt core s) := h.zwData

theorem execZwCmp_ends {dt core} (h : s.SoundFrom τ) : Ends τ (execZwCmp dt core s) := h.zwData

theorem execZwCmpi_ends {dt core} (h : s.SoundFrom τ) : Ends τ (execZwCmpi dt core s) := h.zwData

theorem execZwMin_ends {dt core} (h : s.SoundFrom τ) : Ends τ (execZwMin dt core s) := h.zwData

theorem execZwMax_ends {dt core} (h : s.SoundFrom τ) : Ends τ (execZwMax dt core s) := h.zwData

theorem execZwAbs_ends {dt core} (h : s.SoundFrom τ) : Ends τ (execZwAbs dt core s) := h.zwData

theorem execZwNeg_ends {dt core} (h : s.SoundFrom τ) : Ends τ (execZwNeg dt core s) := h.zwData

theorem execZwMovi_ends {dt core} (h : s.SoundFrom τ) : Ends τ (execZwMovi dt core s) := h.zwData

theorem execZwMovhi_ends {dt core} (h : s.SoundFrom τ) : Ends τ (execZwMovhi dt core s) := h.zwData

theorem execZwExt_ends {dt core} (h : s.SoundFrom τ) : Ends τ (execZwExt dt core s) := h.zwData

theorem execZwIns_ends {dt core} (h : s.SoundFrom τ) : Ends τ (execZwIns dt core s) := h.zwData

theorem execZwClz_ends {dt core} (h : s.SoundFrom τ) : Ends τ (execZwClz dt core s) := h.zwData

theorem execZwPopc_ends {dt core} (h : s.SoundFrom τ) : Ends τ (execZwPopc dt core s) := h.zwData

theorem execZwMul_ends {dt core} (h : s.SoundFrom τ) : Ends τ (execZwMul dt core s) := h.zwData

theorem execZwMulhs_ends {dt core} (h : s.SoundFrom τ) : Ends τ (execZwMulhs dt core s) := h.zwData

theorem execZwMulhu_ends {dt core} (h : s.SoundFrom τ) : Ends τ (execZwMulhu dt core s) := h.zwData

theorem execZwMac_ends {dt core} (h : s.SoundFrom τ) : Ends τ (execZwMac dt core s) := h.zwData

theorem execZwMsu_ends {dt core} (h : s.SoundFrom τ) : Ends τ (execZwMsu dt core s) := h.zwData

theorem execZwMovad_ends {dt core} (h : s.SoundFrom τ) : Ends τ (execZwMovad dt core s) := h.zwData

theorem execZwMovda_ends {dt core} (h : s.SoundFrom τ) : Ends τ (execZwMovda dt core s) := h.zwData

theorem execZwMovai_ends {dt core} (h : s.SoundFrom τ) : Ends τ (execZwMovai dt core s) := h.zwData

theorem execZwAddai_ends {dt core} (h : s.SoundFrom τ) : Ends τ (execZwAddai dt core s) := h.zwData

theorem execZwAdda_ends {dt core} (h : s.SoundFrom τ) : Ends τ (execZwAdda dt core s) := h.zwData

theorem execZwMovsr_ends {dt core} (h : s.SoundFrom τ) : Ends τ (execZwMovsr dt core s) := h.zwData

theorem execZwMovrs_ends {dt core} (h : s.SoundFrom τ) : Ends τ (execZwMovrs dt core s) := h.zwData

theorem execZwLd_ends {dt core} (h : s.SoundFrom τ) : Ends τ (execZwLd dt core s) := h.zwData

theorem execZwSt_ends {dt core} (h : s.SoundFrom τ) : Ends τ (execZwSt dt core s) := h.zwData

theorem execZwLdx_ends {dt core} (h : s.SoundFrom τ) : Ends τ (execZwLdx dt core s) := h.zwData

theorem execZwStx_ends {dt core} (h : s.SoundFrom τ) : Ends τ (execZwStx dt core s) := h.zwData

theorem execZwLdp_ends {dt core} (h : s.SoundFrom τ) : Ends τ (execZwLdp dt core s) := h.zwData

theorem execZwStp_ends {dt core} (h : s.SoundFrom τ) : Ends τ (execZwStp dt core s) := h.zwData

theorem execZwLda_ends {dt core} (h : s.SoundFrom τ) : Ends τ (execZwLda dt core s) := h.zwData

theorem execZwSta_ends {dt core} (h : s.SoundFrom τ) : Ends τ (execZwSta dt core s) := h.zwData

theorem State.SoundFrom.ctlGo {c pc} (h : s.SoundFrom τ) : (s.ctlGo c pc).SoundFrom τ := h.modZw

theorem State.SoundFrom.branch {c target} (h : s.SoundFrom τ) : (s.branch c target).SoundFrom τ := h.ctlGo.modZw

theorem State.SoundFrom.call {c target} (h : s.SoundFrom τ) : (s.call c target).SoundFrom τ := .ite h.zwStackFault h.modZw.branch

theorem State.SoundFrom.loopSet {c l count body} (h : s.SoundFrom τ) : (s.loopSet c l count body).SoundFrom τ :=
  .ite h.modZw.ctlGo h.modZw.ctlGo

theorem execZwBr_ends {dt core} (h : s.SoundFrom τ) : Ends τ (execZwBr dt core s) := h.zwControl (fun _ _ _ ha => ha.branch)

theorem execZwJr_ends {dt core} (h : s.SoundFrom τ) : Ends τ (execZwJr dt core s) := h.zwControl (fun _ _ _ ha => ha.branch)

theorem execZwCall_ends {dt core} (h : s.SoundFrom τ) : Ends τ (execZwCall dt core s) := h.zwControl (fun _ _ _ ha => ha.call)

theorem execZwCallr_ends {dt core} (h : s.SoundFrom τ) : Ends τ (execZwCallr dt core s) := h.zwControl (fun _ _ _ ha => ha.call)

theorem execZwRet_ends {dt core} (h : s.SoundFrom τ) : Ends τ (execZwRet dt core s) := by
  refine h.zwControl fun _ _ _ ha => ?_
  split
  · exact ha.zwStackFault
  · exact ha.modZw.branch

theorem execZwLoop_ends {dt core} (h : s.SoundFrom τ) : Ends τ (execZwLoop dt core s) := h.zwControl (fun _ _ _ ha => ha.loopSet)

theorem execZwLoopi_ends {dt core} (h : s.SoundFrom τ) : Ends τ (execZwLoopi dt core s) :=
  h.zwControl (fun _ _ _ ha => ha.loopSet)

theorem State.SoundFrom.waitFor {c d mask} (h : s.SoundFrom τ) : (s.waitFor c d mask).SoundFrom τ :=
  .ite h.ctlGo.modZw.clearEvt h.ctlGo.modZw.setRun

theorem execZwWait_ends {dt core} (h : s.SoundFrom τ) : Ends τ (execZwWait dt core s) :=
  h.zwControl (fun _ _ _ ha => ha.drain.waitFor)

theorem execZwWaiti_ends {dt core} (h : s.SoundFrom τ) : Ends τ (execZwWaiti dt core s) :=
  h.zwControl (fun _ _ _ ha => ha.drain.waitFor)

theorem execZwPoll_ends {dt core} (h : s.SoundFrom τ) : Ends τ (execZwPoll dt core s) := h.zwData

theorem execZwEvclr_ends {dt core} (h : s.SoundFrom τ) : Ends τ (execZwEvclr dt core s) :=
  .next (.ite h.tick.settle.clearEvt.advance h.tick)

theorem execZwHalt_ends {dt core} (h : s.SoundFrom τ) : Ends τ (execZwHalt dt core s) := h.zwControl (fun _ _ _ ha => ha.zwStop)

theorem State.SoundFrom.remote {dt c op} {f : State → ZwCore → Nat → RemoteCmd} (h : s.SoundFrom τ) :
    Ends τ (s.remote dt c op f) :=
  .next (.ite (.ite h.tick.setRun h.tick.settle.setRun.modZw.advance) h.tick)

theorem execZwGet_ends {dt core} (h : s.SoundFrom τ) : Ends τ (execZwGet dt core s) := h.remote

theorem execZwPut_ends {dt core} (h : s.SoundFrom τ) : Ends τ (execZwPut dt core s) := h.remote

theorem execZwPutr_ends {dt core} (h : s.SoundFrom τ) : Ends τ (execZwPutr dt core s) := h.remote

theorem execZwReservedLongWord_ends {dt core} (h : s.SoundFrom τ) : Ends τ (execZwReservedLongWord dt core s) :=
  .next (.ite h.tick.settle.zwIllegal h.tick)

end

/-! ### Sys2Proof/Machine/Reset.lean -/

section
variable {τ : Nat} {b : Bus}

theorem Bus.SoundFrom.regsReset {d} {bits : Nat → Nat → Nat} (h : b.SoundFrom τ) : (b.regsReset d bits).SoundFrom τ := by
  unfold Bus.regsReset
  exact .frame (h.foldl fun _ _ ha => ha.wr) rfl

end

section
variable {τ : Nat} {s : State}

theorem State.SoundFrom.workerLoad {c logical} (h : s.SoundFrom τ) : (s.workerLoad c logical).SoundFrom τ := by
  unfold State.workerLoad
  split
  · exact h.modZw
  · exact h

theorem State.SoundFrom.storeBlank {j} (h : s.SoundFrom τ) : (s.storeBlank j).SoundFrom τ := h.setStore

theorem State.SoundFrom.setCabin {x y z} (h : s.SoundFrom τ) : ({ s with coils := x, can := y, swi := z } : State).SoundFrom τ :=
  h.frame rfl

theorem State.SoundFrom.unitsReset {d} (h : s.SoundFrom τ) : (s.unitsReset d).SoundFrom τ := by
  unfold State.unitsReset
  refine .ite (h.foldl fun a i ha => .disarm ?_) ?_
  · exact .on (.frame ha rfl) fun _ hb => hb.frame rfl
  refine .ite (h.frame rfl) ?_
  refine .ite (h.foldl fun _ _ ha => ha.linkDown) ?_
  refine .ite (h.foldl fun _ _ ha => ha.storeBlank) ?_
  refine .ite (h.foldl fun _ _ ha => ha.storeBlank) ?_
  refine .ite ?_ h
  extract_lets s1 s2 s3 s4
  have h1 : s1.SoundFrom τ := h.foldl fun _ _ ha => ha.litStop
  have h2 : s2.SoundFrom τ := h1.foldl fun _ _ ha => ha.mtxStop
  have h3 : s3.SoundFrom τ := h2.foldl fun _ _ ha => ha.stageDisable
  have h4 : s4.SoundFrom τ := h3.foldl fun _ _ ha => ha.tokDisable
  exact h4.setCabin

theorem State.SoundFrom.domOff {d} (h : s.SoundFrom τ) : (s.domOff d).SoundFrom τ := by
  unfold State.domOff
  extract_lets s1 _
  have h1 : s1.SoundFrom τ := h.unitsReset.on fun _ ha => ha.regsReset
  exact h1.frame rfl

theorem State.SoundFrom.reapply {d} (h : s.SoundFrom τ) : (s.reapply d).SoundFrom τ := h.foldl fun _ _ ha => ha.wr

theorem State.SoundFrom.unitsStart {d} (h : s.SoundFrom τ) : (s.unitsStart d).SoundFrom τ := by
  unfold State.unitsStart
  refine .ite ?_ ?_
  · refine .foldl h fun _ _ ha => ?_
    extract_lets
    split
    · exact .ite ha.workerLoad.zwStart ha.workerLoad
    · exact ha
  · refine .ite ?_ h.lanesReport
    extract_lets s1 s2 s3 s4
    have h1 : s1.SoundFrom τ := h.foldl fun _ _ ha => ha.litStart
    have h2 : s2.SoundFrom τ := h1.foldl fun _ _ ha => ha.mtxStart
    have h3 : s3.SoundFrom τ := h2.foldl fun _ _ ha => ha.stageStart
    have h4 : s4.SoundFrom τ := h3.foldl fun _ _ ha => ha.tokEnable
    exact h4.foldl fun _ _ ha => ha.integrate

theorem State.SoundFrom.domReset {d} (h : s.SoundFrom τ) : (s.domReset d).SoundFrom τ := by
  unfold State.domReset
  extract_lets _ _ s1 s2
  have h1 : s1.SoundFrom τ := .on (h.unitsReset.on (fun _ ha => ha.regsReset)) (fun _ ha => ha.frame rfl)
  have h2 : s2.SoundFrom τ := .ite h1.reapply h1
  exact h2.unitsStart

theorem State.SoundFrom.dropWork (h : s.SoundFrom τ) : (s.dropWork).SoundFrom τ := h.frame rfl

end

/-! ### Sys2Proof/Machine/Power.lean -/

section
variable {τ : Nat} {s : State}

theorem State.SoundFrom.pwrWrite {vi page} {f : State → State} (h : s.SoundFrom τ) (hf : ∀ t, t.SoundFrom τ → (f t).SoundFrom τ) :
    (s.pwrWrite vi page f).SoundFrom τ :=
  h.guardWrite (fun _ ha => .ite (hf _ ha) (ha.on (fun _ hb => hb.denied)))

theorem State.SoundFrom.drainDom {d} (h : s.SoundFrom τ) : (s.drainDom d).SoundFrom τ :=
  .ite (.pumpsFab (h.setDom.frame rfl)) (h.setDom.frame rfl)

theorem State.SoundFrom.fieldDark (h : s.SoundFrom τ) : (s.fieldDark).SoundFrom τ :=
  .foldl (h.foldl fun _ _ ha => ha.setStage'.wr) fun _ _ ha => ha.setMtx

theorem State.SoundFrom.domDown {d st} (h : s.SoundFrom τ) : (s.domDown d st).SoundFrom τ := by
  unfold State.domDown
  exact .frame (.ite (.fieldDark (.ite h.setDom.setBit.setBit h.setDom)) (.ite h.setDom.setBit.setBit h.setDom)) rfl

theorem State.SoundFrom.domRefuse {d reason} (h : s.SoundFrom τ) : (s.domRefuse d reason).SoundFrom τ := h.setFld.cfgErr.raise

theorem State.SoundFrom.domRequest {d req} (h : s.SoundFrom τ) : (s.domRequest d req).SoundFrom τ := by
  unfold State.domRequest
  refine .ite h.setFld ?_
  refine .ite (.ite (h.wr.setDom.frame rfl) (.ite h.domRefuse h)) ?_
  exact .ite h.domRefuse (h.wr.setFld.setBit.drainDom.frame rfl)

theorem execPwrDRequest_ends {dt vi domain value} (h : s.SoundFrom τ) : Ends τ (execPwrDRequest dt vi domain value s) :=
  .next (h.tick.pwrWrite (fun _ ha => ha.domRequest))

theorem State.SoundFrom.demandsOff (h : s.SoundFrom τ) : s.demandsOff.SoundFrom τ := by
  unfold State.demandsOff
  exact .foldl (.frame h rfl) fun _ _ ha => ha.ldsRefresh

theorem State.SoundFrom.ladderCommit (h : s.SoundFrom τ) : (s.ladderCommit).SoundFrom τ := by
  unfold State.ladderCommit
  exact .frame (h.foldl fun _ _ ha => .ite ha.domDown ha) rfl

theorem State.SoundFrom.startRanks {r l} (h : s.SoundFrom τ) : (s.startRanks r l).SoundFrom τ := by
  induction l generalizing s r with
  | nil => exact h.ladderCommit
  | cons ds l ih =>
    unfold State.startRanks
    extract_lets s0
    have h0 : s0.SoundFrom τ := .ite h.demandsOff h
    exact .ite (ih h0) (.foldl (.frame h0 rfl) fun _ _ ha => ha.drainDom)

theorem State.SoundFrom.ladderEnter {t} (h : s.SoundFrom τ) : (s.ladderEnter t).SoundFrom τ := by
  unfold State.ladderEnter
  extract_lets s1 s2
  have h2 : s2.SoundFrom τ := h.wr.setBit.setFld.setBit.setFld.disarm
  exact .startRanks (h2.frame rfl)

theorem State.SoundFrom.pwrRefuse {reason} (h : s.SoundFrom τ) : (s.pwrRefuse reason).SoundFrom τ := h.setFld.raise

theorem State.SoundFrom.pwrTarget {t} (h : s.SoundFrom τ) : (s.pwrTarget t).SoundFrom τ := by
  unfold State.pwrTarget
  refine .ite (.ite h.setFld h.pwrRefuse) ?_
  refine .ite (.ite h.wr (.ite h.setFld h.wr.beginExit)) ?_
  exact .ite h.pwrRefuse (.ite h.pwrRefuse (.ite h.pwrRefuse h.ladderEnter))

theorem execPwrTargetRun_ends {dt vi} (h : s.SoundFrom τ) : Ends τ (execPwrTargetRun dt vi s) :=
  .next (h.tick.pwrWrite (fun _ ha => ha.pwrTarget))

theorem execPwrTargetIdle_ends {dt vi} (h : s.SoundFrom τ) : Ends τ (execPwrTargetIdle dt vi s) :=
  .next (h.tick.pwrWrite (fun _ ha => ha.pwrTarget))

theorem execPwrTargetSleep_ends {dt vi} (h : s.SoundFrom τ) : Ends τ (execPwrTargetSleep dt vi s) :=
  .next (h.tick.pwrWrite (fun _ ha => ha.pwrTarget))

theorem execPwrTargetDeep_ends {dt vi} (h : s.SoundFrom τ) : Ends τ (execPwrTargetDeep dt vi s) :=
  .next (h.tick.pwrWrite (fun _ ha => ha.pwrTarget))

theorem execPwrTargetOff_ends {dt vi} (h : s.SoundFrom τ) : Ends τ (execPwrTargetOff dt vi s) :=
  .next (h.tick.pwrWrite (fun _ ha => ha.pwrTarget))

theorem execDomainDrainComplete_ends {dt domain} (h : s.SoundFrom τ) : Ends τ (execDomainDrainComplete dt domain s) := by
  refine .next ?_
  refine .ite h.tick ?_
  extract_lets _ _ _ _ _ s3
  have h3 : s3.SoundFrom τ := h.tick.wr.domDown.frame rfl
  exact .ite (.ite h3.startRanks h3) h.tick.wr.domDown

theorem execDomainDrainAbort_ends {dt domain} (h : s.SoundFrom τ) : Ends τ (execDomainDrainAbort dt domain s) := by
  refine .next (.ite h.tick ?_)
  extract_lets _ s2 _ s3
  have h2 : s2.SoundFrom τ := h.tick.addSat.addSat.fault.raise
  have h3 : s3.SoundFrom τ := h2.frame rfl
  exact .ite h3.endEntry h3.setDom.setBit.wr.setFld

theorem State.SoundFrom.ladderReached (h : s.SoundFrom τ) : (s.ladderReached).SoundFrom τ := by
  unfold State.ladderReached
  extract_lets _ s1 s2 s3 _ s4
  have h1 : s1.SoundFrom τ := h.setFld.setBit
  have h2 : s2.SoundFrom τ := .ite (h1.foldl fun _ _ ha => ha.linkDown) h1
  have h3 : s3.SoundFrom τ := by
    unfold s3
    refine .ite (.on (h2.foldl fun _ _ ha => ha.closeSession) (fun _ ha => ha.frame rfl)) ?_
    exact h2
  have h4 : s4.SoundFrom τ := .raise (.gptModes (h3.frame rfl))
  exact .ite h4.beginExit h4

theorem State.SoundFrom.ladderRun (h : s.SoundFrom τ) : (s.ladderRun).SoundFrom τ := by
  unfold State.ladderRun
  extract_lets s1 s2 _ s4
  have h1 : s1.SoundFrom τ := h.foldl fun _ _ ha => ha.setDom
  have h2 : s2.SoundFrom τ := h1.foldl fun _ _ ha => .ite ha.setDom ha
  have h4 : s4.SoundFrom τ := h2.setFld.setBit.runAgain.gptModes.raise
  exact .ite h4.addWrap.raise h4

theorem State.SoundFrom.domRun {d} (h : s.SoundFrom τ) : (s.domRun d).SoundFrom τ := by
  unfold State.domRun
  extract_lets _ s1 s2
  have h1 : s1.SoundFrom τ := .ite h.domOff h
  have h2 : s2.SoundFrom τ := h1.setDom.setBit.setFld
  exact h2.frame rfl

theorem execLadderStateReached_ends {dt domain} (h : s.SoundFrom τ) : Ends τ (execLadderStateReached dt domain s) := by
  refine .next ?_
  split
  · refine .ite h.tick.ladderReached ?_
    exact .ite (h.tick.onExpiry (fun _ ha => ha.ladderRun)) h.tick
  · exact .ite h.tick.domRun h.tick

theorem execDomainWakeTimeout_ends {dt domain} (h : s.SoundFrom τ) : Ends τ (execDomainWakeTimeout dt domain s) := by
  refine .next (.ite ?_ h.tick)
  extract_lets s1
  have h1 : s1.SoundFrom τ := h.tick.setDom.fault
  exact h1.frame rfl

theorem State.SoundFrom.padRelease {value} (h : s.SoundFrom τ) : (s.padRelease value).SoundFrom τ :=
  h.foldl fun _ _ ha => .ite ha (.ite ha.cfgErr (.setBit (.setBit (.frame (.ite ha.reapply ha) rfl))))

theorem execPadRelease_ends {dt vi value} (h : s.SoundFrom τ) : Ends τ (execPadRelease dt vi value s) :=
  .next (h.tick.pwrWrite (fun _ ha => ha.padRelease))

theorem State.SoundFrom.watchRequest {value} (h : s.SoundFrom τ) : (s.watchRequest value).SoundFrom τ :=
  h.wr.foldl fun _ _ ha => .ite (ha.frame rfl) ha

theorem execWatchRequest_ends {dt vi value} (h : s.SoundFrom τ) : Ends τ (execWatchRequest dt vi value s) :=
  .next (h.tick.pwrWrite (fun _ ha => ha.watchRequest))

theorem execWatchEntry_ends {dt sec} (h : s.SoundFrom τ) : Ends τ (execWatchEntry dt sec s) :=
  .next (.ite h.tick.setBit.raise h.tick)

theorem execWatchWake_ends {dt sec} (h : s.SoundFrom τ) : Ends τ (execWatchWake dt sec s) :=
  .next (.ite h.tick.sectionWake h.tick)

theorem execWatchRunReached_ends {dt sec} (h : s.SoundFrom τ) : Ends τ (execWatchRunReached dt sec s) := by
  refine .next (.ite h.tick ?_)
  extract_lets _ s1 _ s2 s3
  have h1 : s1.SoundFrom τ := h.tick.setBit.setBit
  have h2 : s2.SoundFrom τ := h1.frame rfl
  have h3 : s3.SoundFrom τ := .ite h2.raise h2
  exact .ite (.foldl (.frame h3 rfl) fun _ _ ha => ha.coiFire) (h3.frame rfl)

theorem execWakeNAssert_ends {dt} (h : s.SoundFrom τ) : Ends τ (execWakeNAssert dt s) := .next h.tick.wake

theorem execPcieL1Exit_ends {dt} (h : s.SoundFrom τ) : Ends τ (execPcieL1Exit dt s) := .next (.ite h.tick.wake h.tick)

theorem State.SoundFrom.budActions {level} (h : s.SoundFrom τ) : (s.budActions level).SoundFrom τ := by
  unfold State.budActions
  extract_lets s1 s2 s3
  have h1 : s1.SoundFrom τ := h.foldl fun _ _ ha => ha.patHold
  have h2 : s2.SoundFrom τ := h1.foldl fun _ _ ha => ha.setFld
  have h3 : s3.SoundFrom τ := h2.foldl fun _ _ ha => .ite ha.setFld ha
  exact h3.foldl fun _ _ ha => .setPfcReq (.ite ha.setFld.raiseEntry ha)

theorem State.SoundFrom.setPower {p} (h : s.SoundFrom τ) : ({ s with power := p } : State).SoundFrom τ := h.frame rfl

theorem State.SoundFrom.budStep {up} (h : s.SoundFrom τ) : (s.budStep up).SoundFrom τ := by
  unfold State.budStep
  extract_lets _ s1 _ s2
  have h2 : s2.SoundFrom τ := h.setFld.budActions.setPower
  exact .ite h2.addWrap.raise h2.addWrap.raise

theorem State.SoundFrom.budSense {temps} (h : s.SoundFrom τ) : (s.budSense temps).SoundFrom τ := by
  unfold State.budSense
  extract_lets _ _ _ _ s1 s2 s3 s4
  have h1 : s1.SoundFrom τ := h.foldl fun _ _ ha => ha.wr
  have h2 : s2.SoundFrom τ := h1.wr.on (fun _ ha => .ite ha.nextFree ha)
  have h3 : s3.SoundFrom τ := h2.foldl fun _ _ ha => ha.fault
  have h4 : s4.SoundFrom τ := h3.foldl fun _ _ ha => ha.raise
  exact h4.setBit.frame rfl

theorem State.SoundFrom.budDecide {p v} (h : s.SoundFrom τ) : (s.budDecide p v).SoundFrom τ := by
  unfold State.budDecide
  extract_lets _ _ _ s1 _ _ s2 _ _ s3
  have h1 : s1.SoundFrom τ := h.setBit
  have h2 : s2.SoundFrom τ := h1.frame rfl
  have h3 : s3.SoundFrom τ := .ite h2 h2.setBit
  refine .ite h3.budStep (.ite (.ite h3.budStep (.ite h3 h3.setBit.raise.fault)) ?_)
  split
  · exact .ite h3.budStep h3
  · exact h3

theorem State.SoundFrom.budOff (h : s.SoundFrom τ) : s.budOff.SoundFrom τ := by
  unfold State.budOff
  exact .setPower (.budActions (.setFld h))

theorem execBudgetTick_ends {dt temps activity} (h : s.SoundFrom τ) : Ends τ (execBudgetTick dt temps activity s) := by
  unfold execBudgetTick
  extract_lets s0 v s1 _ s2 p s3
  have h1 : s1.SoundFrom τ := h.tick.budSense
  have h2 : s2.SoundFrom τ := .ite (h1.frame rfl) h1
  have h3 : s3.SoundFrom τ := h2.wr
  refine .next (.ite ?_ h2)
  refine .ite h3.budDecide ?_
  exact .ite (.setBit h3) (.budOff (.setBit h3))

theorem State.SoundFrom.railValid {r valid} (h : s.SoundFrom τ) : (s.railValid r valid).SoundFrom τ :=
  .ite h (.raise (.fault (.setBit (.setBit (h.frame rfl)))))

theorem execPmbusPoll_ends {dt rail power activity} (h : s.SoundFrom τ) : Ends τ (execPmbusPoll dt rail power activity s) :=
  .next (.ite (.frame (.setFld (.ite h.tick.railValid h.tick.setBit)) rfl) h.tick)

theorem execRailInvalid_ends {dt rail valid} (h : s.SoundFrom τ) : Ends τ (execRailInvalid dt rail valid s) :=
  .next (.ite h.tick.railValid h.tick)

theorem execThermalTrip_ends {dt sensor temp} (h : s.SoundFrom τ) : Ends τ (execThermalTrip dt sensor temp s) := by
  refine .next (.ite h.tick ?_)
  extract_lets _ s2 s3 _ _ s4
  have h2 : s2.SoundFrom τ := h.tick.fault.foldl fun _ _ ha => .ite ha.domDown ha
  have h3 : s3.SoundFrom τ := h2.setBit.disarm
  have h4 : s4.SoundFrom τ := .frame h3.dropWork rfl
  exact .ladderReached (h4.frame rfl)

end

/-! ### Sys2Proof/Machine/View.lean -/

section
variable {τ : Nat} {s : State}

theorem State.SoundFrom.readEffect {vi req sp} (h : s.SoundFrom τ) : (s.readEffect vi req sp).SoundFrom τ := by
  unfold State.readEffect
  extract_lets
  split
  · refine .ite (h.get (execTimNowSnapshot_ends h)) ?_
    exact .ite (h.get (execTimPpsCapSnapshot_ends h)) h
  · exact .ite (.on (h.get (execGptCapLoRead_ends h)) (fun _ ha => ha.frame rfl)) h
  · exact .ite h.setFld h
  · split
    · exact .ite (.on (h.get (execHqrMemDataAccess_ends h)) (fun _ ha => ha.frame rfl)) h
    · exact h
  · exact .ite (.on (h.get (execSwiQueuePop_ends h)) (fun _ ha => ha.frame rfl)) h
  · refine .ite ?_ ?_
    · refine .ite (.on (h.get (execCanHpWord0Read_ends h)) (fun _ ha => ha.frame rfl)) ?_
      exact .ite (.on (h.get (execCanHpWord20Read_ends h)) (fun _ ha => ha.frame rfl)) h
    · refine .ite (.on (h.get (execCanRxfWord0Read_ends h)) (fun _ ha => ha.frame rfl)) ?_
      exact .ite (.on (h.get (execCanRxfWord20Read_ends h)) (fun _ ha => ha.frame rfl)) h
  · refine .ite (.on (h.get (execZwkImemDataAccess_ends h)) (fun _ ha => ha.frame rfl)) ?_
    exact .ite (.on (h.get (execZwkDmemDataAccess_ends h)) (fun _ ha => ha.frame rfl)) h
  · exact .ite (.on (h.get (execRngDataRead_ends h)) (fun _ ha => ha.frame rfl)) h
  · exact .ite h.setFld h
  · exact h

theorem State.SoundFrom.readReg {vi req addr} (h : s.SoundFrom τ) : (s.readReg vi req addr).1.SoundFrom τ := by
  unfold State.readReg
  split
  · exact h
  · refine .fst_ite h ?_
    refine .fst_ite h ?_
    exact .fst_ite (h.on (fun _ ha => ha.late)) (.fst_ite h.readEffect h.readEffect)

end

/-! ### Sys2Proof/Machine/PageOps.lean -/

section
variable {τ : Nat} {s : State}

theorem State.SoundFrom.pageWrite {vi page} {f : Spot → State → State} (h : s.SoundFrom τ)
    (hf : ∀ x t, t.SoundFrom τ → (f x t).SoundFrom τ) :
    (s.pageWrite vi page f).SoundFrom τ := by
  unfold State.pageWrite
  split
  · exact h
  · refine .ite (h.on (fun _ ha => ha.late)) ?_
    exact .ite (h.on (fun _ ha => ha.denied)) (hf _ _ h)

theorem State.SoundFrom.canDisable {n} (h : s.SoundFrom τ) : (s.canDisable n).SoundFrom τ := by
  unfold State.canDisable
  extract_lets s1 _ s3
  have h1 : s1.SoundFrom τ := by
    unfold s1
    split
    · exact h.setTxStat
    · exact h
  have h3 : s3.SoundFrom τ := h1.modCtl.setBit.disarm
  exact .ite h3 h3.setFld

theorem State.SoundFrom.canEnable {n} (h : s.SoundFrom τ) : (s.canEnable n).SoundFrom τ :=
  .ite h.setBit.disarm.modCtl h.setBit.integrate

theorem State.SoundFrom.blockStart {page} (h : s.SoundFrom τ) : (s.blockStart page).SoundFrom τ := by
  unfold State.blockStart
  extract_lets
  split
  · exact h.litStart
  · exact h.mtxStart
  · exact h.stageStart
  · exact h.tokEnable
  · exact h.canEnable
  · exact h

theorem State.SoundFrom.ldsDisable {ch} (h : s.SoundFrom τ) : (s.ldsDisable ch).SoundFrom τ := h.ldsOff.modLds

theorem State.SoundFrom.blockStop {page} (h : s.SoundFrom τ) : (s.blockStop page).SoundFrom τ := by
  unfold State.blockStop
  extract_lets
  split
  · exact h.litStop
  · exact h.mtxStop
  · exact h.stageDisable
  · exact h.tokDisable
  · exact h.linkDown
  · exact h.canDisable
  · exact h.coiAbort
  · exact h.ldsDisable
  · exact h

theorem State.SoundFrom.pageDisable {page} (h : s.SoundFrom τ) : (s.pageDisable page).SoundFrom τ :=
  .ite h.cnvDisable (.ite (.blockStop (h.setBit.setBit.on (fun _ ha => ha.releaseClaims))) h)

theorem State.SoundFrom.pageEnable {page slots} (h : s.SoundFrom τ) : (s.pageEnable page slots).SoundFrom τ := by
  unfold State.pageEnable
  extract_lets _ _ _ s1
  have h1 : s1.SoundFrom τ := h.foldl fun _ _ ha => ha.on (fun _ hb => hb.claim)
  exact .ite h.cnvEnable (.ite h (.ite h.cfgErr (.ite h1.setBit.setBit.blockStart h1.setBit)))

theorem State.SoundFrom.enWrite {page en slots} (h : s.SoundFrom τ) : (s.enWrite page en slots).SoundFrom τ :=
  .ite h.pageEnable h.pageDisable

theorem State.SoundFrom.cisReport {n} (h : s.SoundFrom τ) : (s.cisReport n).SoundFrom τ := h.wr.wr

theorem State.SoundFrom.pageCopy {page} (h : s.SoundFrom τ) : (s.pageCopy page).SoundFrom τ :=
  .ite h.commitKeys.setBit.cisReport h.commitKeys.setBit

theorem State.SoundFrom.cisRefuse {page} (h : s.SoundFrom τ) : (s.cisRefuse page).SoundFrom τ := h.setBit.cfgErr

theorem State.SoundFrom.commitPages {pages} (h : s.SoundFrom τ) : (s.commitPages pages).SoundFrom τ :=
  h.foldl fun _ _ ha => .ite ha.cisRefuse ha.pageCopy

theorem State.SoundFrom.commitStage {page} (h : s.SoundFrom τ) : (s.commitStage page).SoundFrom τ :=
  .ite h.cfgErr (.ite h.setBit.modEpochs h.setBit.modEpochs.arm)

theorem State.SoundFrom.pageCommit {vi sp} (h : s.SoundFrom τ) : (s.pageCommit vi sp).SoundFrom τ := by
  unfold State.pageCommit
  refine .ite (h.frame rfl) ?_
  refine .ite h ?_
  split
  · exact h.commitPages
  · exact h.commitStage
  · exact h.setBit

theorem State.SoundFrom.shadowWrite {vi sp v} (h : s.SoundFrom τ) : (s.shadowWrite vi sp v).SoundFrom τ := by
  unfold State.shadowWrite
  extract_lets
  split
  · exact h.frame rfl
  · exact h.ifThen (fun _ ha => ha.setBit)
  · exact h.setFld.ifThen (fun _ ha => ha.setBit)

end

section
variable {τ : Nat} {b : Bus}

theorem Bus.SoundFrom.raiseSpot {sp vi bit} (h : b.SoundFrom τ) : (b.raiseSpot sp vi bit).SoundFrom τ := h.raiseAt

end

section
variable {τ : Nat} {s : State}

theorem State.SoundFrom.pendClear {vi sp mask meets} (h : s.SoundFrom τ) : (s.pendClear vi sp mask meets).SoundFrom τ :=
  h.wr.foldl fun _ _ ha => ha.on (fun _ hb => hb.raiseSpot)

theorem State.SoundFrom.evtEnable {vi sp value} (h : s.SoundFrom τ) : (s.evtEnable vi sp value).SoundFrom τ :=
  h.wr.foldl fun _ _ ha => ha.on (fun _ hb => hb.deliverAll)

theorem State.SoundFrom.evtForce {vi sp mask} (h : s.SoundFrom τ) : (s.evtForce vi sp mask).SoundFrom τ :=
  h.foldl fun _ _ ha => ha.on (fun _ hb => hb.raiseSpot)

end

section
variable {τ : Nat} {b : Bus}

theorem Bus.SoundFrom.srstRegs {sp vi} (h : b.SoundFrom τ) : (b.srstRegs sp vi).SoundFrom τ := by
  unfold Bus.srstRegs
  extract_lets b1 b2
  have h1 : b1.SoundFrom τ := by
    unfold b1
    refine .foldl h fun _ _ ha => ?_
    split
    · exact ha
    · exact .ite (.ite ha ha.wr) (.ite ha.wr ha)
  have h2 : b2.SoundFrom τ := h1.foldl fun _ _ ha => ha.wr
  exact h2.frame rfl

end

section
variable {τ : Nat} {s : State}

theorem State.SoundFrom.activeReport {g} (h : s.SoundFrom τ) : (s.activeReport g).SoundFrom τ := h.foldl fun _ _ ha => ha.setBit

theorem State.SoundFrom.prtGroup {g value} (h : s.SoundFrom τ) : (s.prtGroup g value).SoundFrom τ :=
  .ite h.cfgErr h.wr.activeReport

theorem State.SoundFrom.budApply {w} (h : s.SoundFrom τ) : (s.budApply w).SoundFrom τ := h.wr

theorem State.SoundFrom.budWrite {vi off value} (h : s.SoundFrom τ) : (s.budWrite vi off value).SoundFrom τ :=
  h.journaled (fun _ ha => ha) (fun _ ha => ha.budApply)

theorem State.SoundFrom.srstActs {vi sp} (h : s.SoundFrom τ) : (s.srstActs vi sp).SoundFrom τ := by
  unfold State.srstActs
  extract_lets
  split
  · exact h.writeGptCtrl.setGpt
  · exact h.updateTeb
  · exact .ite (.ite h.setFld h.prtGroup) h
  · exact h.litSrst
  · exact h.foldl fun _ _ ha => ha.get (execHqrDisable_ends ha)
  · exact h.ldsOutWrite
  · exact h.tokCtrl
  · exact h.setBit
  · exact h.get (execWakModeStandby_ends h)
  · exact .disarm (h.get (execZwkStop_ends h))
  · exact h.disarm
  · exact h.modCtl.setBit
  · exact h.cisReport
  · exact h.lanesReport
  · exact .ite h.pwrTarget.watchRequest h
  · exact .ite h.domRequest h
  · exact h.budWrite.budWrite.budWrite
  · exact .ite h.disarm h
  · exact h

theorem State.SoundFrom.srstEnds {vi sp} (h : s.SoundFrom τ) : (s.srstEnds vi sp).SoundFrom τ := by
  unfold State.srstEnds
  extract_lets
  split
  · refine .foldl h fun _ _ ha => ?_
    extract_lets a1
    have ha1 : a1.SoundFrom τ := .ite ha.setBit.fsDisable ha
    exact .ite ha1.dropGood.wr ha1
  · exact h.setAlone.wr.modCtl
  · exact h

theorem State.SoundFrom.pageSrst {vi sp} (h : s.SoundFrom τ) : (s.pageSrst vi sp).SoundFrom τ := by
  unfold State.pageSrst
  exact .srstActs (h.srstEnds.on (fun _ ha => ha.srstRegs.wr))

theorem State.SoundFrom.pageCtrlWrite {vi sp v} (h : s.SoundFrom τ) : (s.pageCtrlWrite vi sp v).SoundFrom τ := by
  unfold State.pageCtrlWrite
  exact .ifThen (h.enWrite.ifThen (fun _ ha => ha.pageSrst)) (fun _ ha => ha.pageCommit)

theorem State.SoundFrom.evqEnable {v en} (h : s.SoundFrom τ) : (s.evqEnable v en).SoundFrom τ :=
  .ite (h.setBit.on (fun _ ha => ha.frame rfl)) h.setBit

theorem State.SoundFrom.flr {v} (h : s.SoundFrom τ) : (s.flr v).SoundFrom τ := by
  unfold State.flr
  extract_lets s1
  have h1 : s1.SoundFrom τ := h.on fun _ ha => .frame ha.filterRegs rfl
  exact h1.frame rfl

end

/-! ### Sys2Proof/Machine/DeviceReset.lean -/

section
variable {τ : Nat} {s : State}

theorem State.SoundFrom.padsShown (h : s.SoundFrom τ) : (s.padsShown).SoundFrom τ := h.foldl fun _ _ ha => .ite ha.setBit ha

theorem State.SoundFrom.deviceReset (h : s.SoundFrom τ) : (s.deviceReset).SoundFrom τ := by
  obtain ⟨⟨hregs, -, -, hnow⟩, hpair⟩ := h.limpBegin
  refine .padsShown ⟨⟨SMap.wf_filter _ _ _ hregs, ⟨fun _ hp => ?_, Nat.zero_lt_two⟩, fun _ hp => ?_, hnow⟩, hpair⟩
  · exact (List.not_mem_nil hp).elim
  · exact (List.not_mem_nil hp).elim

end

/-! ### Sys2Proof/Machine/Units.lean -/

section
variable {τ : Nat} {s : State}

theorem State.SoundFrom.setWorker {c role l} (h : s.SoundFrom τ) : (s.setWorker c role l).SoundFrom τ := h.setFld.setFld

theorem State.SoundFrom.workerRegs {c n} (h : s.SoundFrom τ) : (s.workerRegs c n).SoundFrom τ := h.foldl fun _ _ ha => ha.wr.wr

theorem State.SoundFrom.workerMove {c n l reason role} (h : s.SoundFrom τ) : (s.workerMove c n l reason role).SoundFrom τ := by
  unfold State.workerMove
  extract_lets _ s1 s2
  have h1 : s1.SoundFrom τ := .ite h.zwStop h
  have h2 : s2.SoundFrom τ := h1.workerRegs.setWorker.setWorker.workerLoad
  exact .ite h2.zwStart h2

theorem State.SoundFrom.laneMove {n m l role} (h : s.SoundFrom τ) : (s.laneMove n m l role).SoundFrom τ :=
  h.setFld.setFld.setFld.setFld.lanesReport

theorem State.SoundFrom.setKpr {p role} (h : s.SoundFrom τ) : (s.setKpr p role).SoundFrom τ := .ite h h.setFld.raise

theorem State.SoundFrom.keeperMove {role} (h : s.SoundFrom τ) : (s.keeperMove role).SoundFrom τ := by
  unfold State.keeperMove
  extract_lets a n s1 s2 s3
  have hn : n < 2 := by omega
  have h2 : s2.SoundFrom τ := .setZw (.setZw (.setBit (h.foldl fun _ _ ha => ha.wr)))
  have h3 : s3.SoundFrom τ := h2.on fun _ hb => .frame (hb.setKeeper hn) rfl
  exact ⟨h3.setKpr.setKpr.bus, hn⟩

theorem State.SoundFrom.modBist {f : Bist → Bist} (h : s.SoundFrom τ) : (s.modBist f).SoundFrom τ := h.frame rfl

theorem State.SoundFrom.bstShow {page st unit} (h : s.SoundFrom τ) : (s.bstShow page st unit).SoundFrom τ := h.setFld.setFld

theorem State.SoundFrom.shadowRun {page unit spare epoch} (h : s.SoundFrom τ) : (s.shadowRun page unit spare epoch).SoundFrom τ :=
  h.modBist.setFld.raise.ifThen (fun _ ha => ha.epochAuto)

theorem State.SoundFrom.keeperJoin {p} (h : s.SoundFrom τ) : (s.keeperJoin p).SoundFrom τ := h.setKpr.shadowRun

theorem State.SoundFrom.loadTables (h : s.SoundFrom τ) : (s.loadTables).SoundFrom τ :=
  .foldl (h.foldl fun _ _ ha => ha.wr) fun _ _ ha => ha.wr

theorem State.SoundFrom.loadCoil {c} (h : s.SoundFrom τ) : (s.loadCoil c).SoundFrom τ := by
  unfold State.loadCoil
  split
  · exact h.foldl fun _ _ ha => ha.wr
  · exact h

theorem State.SoundFrom.runImage {bank items} (h : s.SoundFrom τ) : (s.runImage bank items).SoundFrom τ := by
  unfold State.runImage
  extract_lets _ s1
  have h1 : s1.SoundFrom τ := h.setFld.setFld
  exact .frame (h1.modBist (f := fun b => { b with sigs := sigMap items.bist })) rfl

end

/-! ### Sys2Proof/Machine/Update.lean -/

section
variable {τ : Nat} {s : State}

theorem State.SoundFrom.modUpd {f : Upd → Upd} (h : s.SoundFrom τ) : (s.modUpd f).SoundFrom τ := h.frame rfl

theorem State.SoundFrom.setUpd {st} (h : s.SoundFrom τ) : (s.setUpd st).SoundFrom τ := h.setFld

theorem State.SoundFrom.setLast {code} (h : s.SoundFrom τ) : (s.setLast code).SoundFrom τ := h.setFld

theorem State.SoundFrom.updEvent {bit} (h : s.SoundFrom τ) : (s.updEvent bit).SoundFrom τ := h.raiseAlso

theorem State.SoundFrom.updRefuse {code} (h : s.SoundFrom τ) : (s.updRefuse code).SoundFrom τ := h.setLast.addSat.updEvent

theorem State.SoundFrom.updCmd {vi} {ok : State → Bool} {f : State → State} (h : s.SoundFrom τ)
    (hf : ∀ t, t.SoundFrom τ → (f t).SoundFrom τ) :
    (s.updCmd vi ok f).SoundFrom τ :=
  h.guardWrite (fun _ ha => .ite (hf _ ha) ha.updRefuse)

theorem execUpdOpen_ends {dt vi} (h : s.SoundFrom τ) : Ends τ (execUpdOpen dt vi s) := by
  refine .next ?_
  refine h.tick.updCmd fun _ ha => ?_
  extract_lets _ s1
  have h1 : s1.SoundFrom τ := .addWrap (.ite (ha.on (fun _ hb => hb.nextFree)) ha)
  exact h1.setUpd.setFld.modUpd

theorem State.SoundFrom.takeBlock {bytes} (h : s.SoundFrom τ) : (s.takeBlock bytes).SoundFrom τ := by
  unfold State.takeBlock
  extract_lets
  split
  · exact h.setBit.modUpd
  · exact h.updRefuse

theorem execUpdBlock_ends {dt vi} (h : s.SoundFrom τ) : Ends τ (execUpdBlock dt vi s) :=
  .next (h.tick.updCmd (fun _ ha => ha.takeBlock))

theorem execUpdBlockDma_ends {dt vi bytes} (h : s.SoundFrom τ) : Ends τ (execUpdBlockDma dt vi bytes s) :=
  .next (h.tick.updCmd (fun _ ha => ha.takeBlock))

theorem execUpdBlockWritten_ends {dt} (h : s.SoundFrom τ) : Ends τ (execUpdBlockWritten dt s) := by
  refine .next ?_
  split
  · exact h.tick
  · exact h.tick.setBit.modUpd.updEvent

theorem execUpdAbort_ends {dt vi} (h : s.SoundFrom τ) : Ends τ (execUpdAbort dt vi s) :=
  .next (h.tick.updCmd (fun _ ha => ha.setUpd.setBit.modUpd))

theorem execUpdVerify_ends {dt vi} (h : s.SoundFrom τ) : Ends τ (execUpdVerify dt vi s) :=
  .next (h.tick.updCmd (fun _ ha => .ite ha.updRefuse ha.setUpd))

theorem execUpdVerifyComplete_ends {dt} (h : s.SoundFrom τ) : Ends τ (execUpdVerifyComplete dt s) := by
  refine .next ?_
  refine .ite h.tick ?_
  split
  · exact h.tick.wrList.setFld.setFld.setUpd.updEvent
  · exact h.tick.setUpd.setLast.updEvent

theorem State.SoundFrom.updAuthorise {before ops} (h : s.SoundFrom τ) : (s.updAuthorise before ops).SoundFrom τ :=
  .ite h (.ite h.setUpd.setKpr.modUpd.updEvent h.setLast.updEvent)

theorem State.SoundFrom.updAbandon (h : s.SoundFrom τ) : (s.updAbandon).SoundFrom τ := .ite h.setUpd.setLast.modUpd h

theorem execActivationStandbyReady_ends {dt} (h : s.SoundFrom τ) : Ends τ (execActivationStandbyReady dt s) :=
  .next (.ite h.tick (.ite h.tick.updAbandon.keeperJoin h.tick.modUpd))

theorem State.SoundFrom.updSwitch {bank role step} (h : s.SoundFrom τ) : (s.updSwitch bank role step).SoundFrom τ := by
  unfold State.updSwitch
  exact .modUpd (.runImage (.keeperMove h))

theorem State.SoundFrom.updEpoch (h : s.SoundFrom τ) : (s.updEpoch).SoundFrom τ := by
  unfold State.updEpoch
  refine .ite h ?_
  split
  · exact h.updSwitch.updEvent
  · exact h.loadTables.setUpd.modUpd.arm
  · exact h

theorem State.SoundFrom.unitTake {u t} (h : s.SoundFrom τ) (ht : s.unitTake u = some t) : t.SoundFrom τ := by
  unfold State.unitTake at ht
  split at ht
  · split at ht
    · cases ht
      exact h
    · obtain ⟨n, -, rfl⟩ := Option.map_eq_some_iff.mp ht
      exact h.workerMove
  · split at ht
    · split at ht
      · cases ht
        exact h
      · obtain ⟨m, -, rfl⟩ := Option.map_eq_some_iff.mp ht
        exact h.laneMove
    · split at ht
      · cases ht
        exact h.loadCoil
      · cases ht

theorem execUnitImageSwap_ends {dt unit} (h : s.SoundFrom τ) : Ends τ (execUnitImageSwap dt unit s) := by
  refine .next (.ite h.tick ?_)
  split
  · exact h.tick
  · next s2 hs2 => exact State.SoundFrom.modUpd (h.tick.unitTake hs2)

theorem execUpdConfirm_ends {dt vi} (h : s.SoundFrom τ) : Ends τ (execUpdConfirm dt vi s) := by
  refine .next ?_
  refine h.tick.guardWrite fun _ ha => ?_
  refine .ite (ha.on (fun _ hb => hb.denied)) ?_
  refine .ite ha.updRefuse ?_
  extract_lets _ _ s1 _ s3
  have h1 : s1.SoundFrom τ := ha.setFld.setFld
  have h3 : s3.SoundFrom τ := .ite h1.modUpd h1.modUpd.keeperJoin
  exact h3.disarm.setUpd.setLast.updEvent

theorem State.SoundFrom.updReverse (h : s.SoundFrom τ) : (s.updReverse).SoundFrom τ := .ite h.deviceReset h.disarm.setUpd.modUpd

theorem execUpdReverse_ends {dt vi} (h : s.SoundFrom τ) : Ends τ (execUpdReverse dt vi s) :=
  .next (h.tick.guardWrite (fun _ ha => .ite (ha.on (fun _ hb => hb.denied)) (.ite ha.updReverse ha.updRefuse)))

theorem execTrialWarn_ends {dt} (h : s.SoundFrom τ) : Ends τ (execTrialWarn dt s) := .next (.ite h.tick.updEvent h.tick)

theorem execTrialTimeout_ends {dt} (h : s.SoundFrom τ) : Ends τ (execTrialTimeout dt s) :=
  .next (h.tick.onExpiry (fun _ ha => .ite ha.updReverse ha))

theorem State.SoundFrom.reverseHandover {role} (h : s.SoundFrom τ) : (s.reverseHandover role).SoundFrom τ := h.updSwitch

theorem execReverseHandover_ends {dt} (h : s.SoundFrom τ) : Ends τ (execReverseHandover dt s) :=
  .next (.ite h.tick h.tick.reverseHandover.keeperJoin)

theorem execReverseComplete_ends {dt} (h : s.SoundFrom τ) : Ends τ (execReverseComplete dt s) :=
  .next (.ite h.tick h.tick.loadTables.setUpd.setLast.modUpd.updEvent)

theorem execUpdRecover_ends {dt vi} (h : s.SoundFrom τ) : Ends τ (execUpdRecover dt vi s) := by
  refine .next ?_
  exact h.tick.guardWrite fun _ ha => .ite (ha.on (fun _ hb => hb.denied)) (.ite ha.updRefuse ha.modUpd.deviceReset)

end

/-! ### Sys2Proof/Machine/Epochs.lean -/

section
variable {τ : Nat} {s : State}

theorem State.SoundFrom.vi0Write {vi page} {f : State → State} (h : s.SoundFrom τ) (hf : ∀ t, t.SoundFrom τ → (f t).SoundFrom τ) :
    (s.vi0Write vi page f).SoundFrom τ :=
  h.guardWrite (fun _ ha => .ite (hf _ ha) (ha.on (fun _ hb => hb.denied)))

theorem execEpochRequest_ends {dt vi value} (h : s.SoundFrom τ) : Ends τ (execEpochRequest dt vi value s) :=
  .next (h.tick.vi0Write (fun _ ha => ha.ifThen (fun _ hb => hb.epochAsk)))

theorem execEpochAutoExpire_ends {dt} (h : s.SoundFrom τ) : Ends τ (execEpochAutoExpire dt s) :=
  .next (h.tick.onExpiry (fun _ ha => ha.epochAuto))

theorem State.SoundFrom.setLastEpoch {v} (h : s.SoundFrom τ) : (s.setLastEpoch v).SoundFrom τ := h.setFld

theorem State.SoundFrom.epochOpen (h : s.SoundFrom τ) : (s.epochOpen).SoundFrom τ := h.modEpochs.jwrite.setBit.setFld.disarm

theorem execGlobalEpochStart_ends {dt} (h : s.SoundFrom τ) : Ends τ (execGlobalEpochStart dt s) :=
  .next (.ite h.tick (.ite h.tick.modEpochs.setLastEpoch (.ite h.tick.epochOpen h.tick)))

theorem State.SoundFrom.logDurable {pos} (h : s.SoundFrom τ) : (s.logDurable pos).SoundFrom τ := h.frame rfl

theorem State.SoundFrom.setupFollows {old wasBound} (h : s.SoundFrom τ) : (s.setupFollows old wasBound).SoundFrom τ :=
  .foldl (.ite h.grantEvent h.grantEvent.boundChanged) fun _ _ ha => ha.tokClaim

theorem State.SoundFrom.epochLive {r} (h : s.SoundFrom τ) : (s.epochLive r).SoundFrom τ := by
  unfold State.epochLive
  extract_lets _ _ _ _ s4 s5 s6
  have h4 : s4.SoundFrom τ := h.logDurable.addWrap.wr.wr.wr.commitPages.on (fun _ ha => ha.foldl fun _ _ hb => hb.protWrite)
  have h5 : s5.SoundFrom τ := .ite h4 h4.setupFollows
  have h6 : s6.SoundFrom τ := .ite h5.dkyIdle.dkyEvent h5
  exact h6.updAuthorise.updEpoch.modEpochs

theorem State.SoundFrom.dkyApplied {ops} (h : s.SoundFrom τ) : (s.dkyApplied ops).SoundFrom τ :=
  .ite h (h.dkyIdle.dkyEvent.ifThen (fun _ ha => ha.setBit.disarm))

theorem execGlobalEpochAonApply_ends {dt} (h : s.SoundFrom τ) : Ends τ (execGlobalEpochAonApply dt s) := by
  refine .next ?_
  split
  · exact h.tick
  · refine .ite h.tick ?_
    extract_lets s2 s3
    have h2 : s2.SoundFrom τ := h.tick.on (fun _ ha => ha.foldl fun _ _ hb => hb.protWrite)
    have h3 : s3.SoundFrom τ := .ite (h2.foldl fun _ _ ha => ha.ldsRefresh) h2
    exact h3.modEpochs.setBit.setLastEpoch.raise.dkyApplied

theorem execGlobalEpochAbort_ends {dt} (h : s.SoundFrom τ) : Ends τ (execGlobalEpochAbort dt s) := by
  refine .next ?_
  split
  · exact h.tick
  · exact .ite h.tick (.fault (.setLastEpoch (.setBit (h.tick.frame rfl))))

theorem State.SoundFrom.waitApply {w} (h : s.SoundFrom τ) : (s.waitApply w).SoundFrom τ := by
  unfold State.waitApply
  split
  · exact h.calApply
  · exact h.mtxApply
  · exact h.ldsOutApply
  · exact h.budApply
  · exact h.epApply

theorem State.SoundFrom.serveWaits {i} (h : s.SoundFrom τ) : (s.serveWaits i).SoundFrom τ := by
  induction i generalizing s with
  | zero => exact h
  | succ i ih =>
    unfold State.serveWaits
    split
    · exact h
    · exact .ite (ih (.jconfig (.waitApply (h.frame rfl)))) h

theorem State.SoundFrom.absorb {r} (h : s.SoundFrom τ) : (s.absorb r).SoundFrom τ := .ite (.wr (h.frame rfl)) (h.frame rfl)

theorem execJournalLogRoom_ends {dt records} (h : s.SoundFrom τ) : Ends τ (execJournalLogRoom dt records s) :=
  .next (.serveWaits (.frame (h.tick.foldl fun _ _ ha => ha.absorb) rfl))

theorem execJournalRecordDurable_ends {dt pos} (h : s.SoundFrom τ) : Ends τ (execJournalRecordDurable dt pos s) := by
  refine .next ?_
  split
  · exact h.tick
  · exact .ite h.tick h.tick.logDurable

theorem State.SoundFrom.dropWait {w} (h : s.SoundFrom τ) : (s.dropWait w).SoundFrom τ := by
  unfold State.dropWait
  extract_lets s1
  have h1 : s1.SoundFrom τ := h.on (fun _ ha => ha.late)
  split
  · exact h1.setBit
  · exact h1.setBit
  · exact h1.setBit
  · exact h1

theorem execPowerFailFlushed_ends {dt} (h : s.SoundFrom τ) : Ends τ (execPowerFailFlushed dt s) :=
  .next (.ite h.tick (.frame (h.tick.foldl fun _ _ ha => ha.dropWait) rfl))

theorem execPowerFailRelease_ends {dt} (h : s.SoundFrom τ) : Ends τ (execPowerFailRelease dt s) := by
  unfold execPowerFailRelease
  extract_lets _ s2
  have h2 : s2.SoundFrom τ := h.tick.setBit.setBit
  exact .next (h2.frame rfl)

end

/-! ### Sys2Proof/Machine/Bist.lean -/

section
variable {τ : Nat} {s : State}

theorem State.SoundFrom.setBistRun {page r} (h : s.SoundFrom τ) : (s.setBistRun page r).SoundFrom τ := h.modBist

theorem State.SoundFrom.setRole {u role} (h : s.SoundFrom τ) : (s.setRole u role).SoundFrom τ := by
  unfold State.setRole
  split
  · exact h
  · exact h.setFld.setFld.lanesReport
  · exact h.setWorker
  · exact h.setKpr

theorem State.SoundFrom.deferReport (h : s.SoundFrom τ) : (s.deferReport).SoundFrom τ := h.setBit

theorem State.SoundFrom.runEnd {page} (h : s.SoundFrom τ) : (s.runEnd page).SoundFrom τ := h.modBist.setFld.deferReport

theorem State.SoundFrom.testShow {u} (h : s.SoundFrom τ) : (s.testShow u).SoundFrom τ := h.bstShow

theorem State.SoundFrom.testUnit {page u} (h : s.SoundFrom τ) : (s.testUnit page u).SoundFrom τ := by
  unfold State.testUnit
  extract_lets _ s1
  have h1 : s1.SoundFrom τ := by
    unfold s1
    split
    · split
      · exact h
      · exact h.setBit.setBit.setFld.setBit.raise
    · exact h.setKpr
    · exact h.setRole
  exact h1.setBistRun.testShow

theorem State.SoundFrom.runBegin {page} (h : s.SoundFrom τ) : (s.runBegin page).SoundFrom τ := by
  unfold State.runBegin
  split
  · exact h
  · refine .ite h.setBistRun.bstShow.deferReport.raise ?_
    extract_lets s1
    have h1 : s1.SoundFrom τ := by
      unfold s1
      split
      · exact h.setFld
      · exact h
    split
    · exact h1.modBist.deferReport.shadowRun
    · exact h1.setBistRun.setRole.testShow.deferReport
    · exact h1.testUnit.deferReport

theorem State.SoundFrom.bstCtrl {page value} (h : s.SoundFrom τ) : (s.bstCtrl page value).SoundFrom τ :=
  h.setBit.ifThen (fun _ ha => ha.runBegin)

theorem execBistStart_ends {dt vi page value} (h : s.SoundFrom τ) : Ends τ (execBistStart dt vi page value s) :=
  .next (h.tick.vi0Write (fun _ ha => .ite ha.bstCtrl ha))

theorem execBistPeriodDue_ends {dt page} (h : s.SoundFrom τ) : Ends τ (execBistPeriodDue dt page s) :=
  .next (.ite h.tick.runBegin h.tick)

theorem execBistDeferredStart_ends {dt page} (h : s.SoundFrom τ) : Ends τ (execBistDeferredStart dt page s) := by
  refine .next ?_
  split
  · exact .ite h.tick.runBegin h.tick
  · exact h.tick

theorem State.SoundFrom.testResult {u exp misr} (h : s.SoundFrom τ) : (s.testResult u exp misr).SoundFrom τ :=
  .ite h.wr.wr.addWrap.setBit.setBit.setFld.raise h.wr.wr.addWrap.setBit.setBit.setFld.addSat.fault.raise

theorem State.SoundFrom.unitPassed {page u} (h : s.SoundFrom τ) : (s.unitPassed page u).SoundFrom τ := by
  unfold State.unitPassed
  split
  · exact h.shadowRun
  · exact h.runEnd.keeperJoin
  · exact h.setRole.runEnd

theorem execBistComplete_ends {dt page unit misr} (h : s.SoundFrom τ) : Ends τ (execBistComplete dt page unit misr s) := by
  refine .next ?_
  split
  · exact h.tick
  · extract_lets _ s2 s3
    have h2 : s2.SoundFrom τ := h.tick.testResult
    have h3 : s3.SoundFrom τ := h2.setRole.runEnd
    refine .ite ?_ (.ite h2.setBistRun.bstShow h2.unitPassed)
    split
    · exact h3.fault
    · exact h3

theorem execJoinStateTaken_ends {dt page} (h : s.SoundFrom τ) : Ends τ (execJoinStateTaken dt page s) := by
  refine .next ?_
  split
  · exact h.tick
  · refine .ite h.tick ?_
    split
    · exact .ite h.tick.shadowRun h.tick
    · exact h.tick.shadowRun

theorem State.SoundFrom.workerPass {c n reason role} (h : s.SoundFrom τ) : (s.workerPass c n reason role).SoundFrom τ := by
  unfold State.workerPass
  extract_lets _ _ _ s2
  have h2 : s2.SoundFrom τ := h.workerRegs.setZw.setZw.on (fun _ ha => ha.frame rfl)
  exact h2.setWorker.setRun.wr.setWorker.setRun.setFld

theorem State.SoundFrom.planeJoin {p} (h : s.SoundFrom τ) : (s.planeJoin p).SoundFrom τ := h.setBit.setBit.setFld.setBit.raise

theorem execJoinTakeover_ends {dt page} (h : s.SoundFrom τ) : Ends τ (execJoinTakeover dt page s) := by
  refine .next ?_
  split
  · exact h.tick
  · split
    · exact h.tick
    · refine .ite h.tick ?_
      extract_lets s2
      have h2 : s2.SoundFrom τ := h.tick.raise
      split
      · exact h2.planeJoin.runEnd
      · exact h2.laneMove.testUnit
      · exact h2.workerPass.testUnit
      · exact .ite h2.setKpr.setBit.runEnd h2.keeperMove.testUnit

theorem execJoinAbort_ends {dt page} (h : s.SoundFrom τ) : Ends τ (execJoinAbort dt page s) := by
  refine .next ?_
  split
  · exact h.tick
  · refine .ite h.tick ?_
    split
    · exact h.tick
    · exact h.tick.setRole.setBit.runEnd.fault.raise

theorem State.SoundFrom.runStop {page} (h : s.SoundFrom τ) : (s.runStop page).SoundFrom τ := by
  unfold State.runStop
  split
  · exact h
  · extract_lets s1
    have h1 : s1.SoundFrom τ := h.runEnd
    split
    · exact h1
    · exact h1
    · exact h1.setRole
    · exact h1.setKpr.raise
    · exact h1.setRole.raise
    · exact h1

theorem State.SoundFrom.carrierFault {u} (h : s.SoundFrom τ) : (s.carrierFault u).SoundFrom τ := by
  unfold State.carrierFault
  split
  · exact h.runStop
  · exact h

theorem State.SoundFrom.joinsWait (h : s.SoundFrom τ) : (s.joinsWait).SoundFrom τ := by
  unfold State.joinsWait
  refine .foldl h fun _ _ ha => ?_
  split
  · exact ha
  · exact ha
  · exact ha.setBistRun.epochAuto

theorem execPowerFailWarning_ends {dt} (h : s.SoundFrom τ) : Ends τ (execPowerFailWarning dt s) := by
  refine .next ?_
  refine .ite ?_ ?_
  · refine .keeperJoin ?_
    refine .updAbandon ?_
    refine .foldl (h.tick.setBit.fault.foldl fun _ _ ha => ha.runStop) fun _ _ ha => ?_
    exact ha.setEpoch.epochStatus
  · refine .foldl (h.tick.setBit.fault.foldl fun _ _ ha => ha.runStop) fun _ _ ha => ?_
    exact ha.setEpoch.epochStatus

end

/-! ### Sys2Proof/Machine/Faults.lean -/

section
variable {τ : Nat} {s : State}

theorem State.SoundFrom.planeIsolate {p} (h : s.SoundFrom τ) : (s.planeIsolate p).SoundFrom τ := by
  unfold State.planeIsolate
  split
  · exact h
  · exact h.setBit.setBit.setFld.setBit.raise

theorem State.SoundFrom.wellBad {q} (h : s.SoundFrom τ) : (s.wellBad q).SoundFrom τ :=
  h.foldl fun _ _ ha => ha.takeOut.cisCount.gone

theorem State.SoundFrom.epRestore {i} (h : s.SoundFrom τ) : (s.epRestore i).SoundFrom τ := h.epInstall

theorem State.SoundFrom.canBad {n addr} (h : s.SoundFrom τ) : (s.canBad n addr).SoundFrom τ :=
  .ite (.ite h.setTxStat h) (.ite h (.ite h.modCtl h))

theorem State.SoundFrom.spareTaken (h : s.SoundFrom τ) : (s.spareTaken).SoundFrom τ := h.addSat.raise

theorem State.SoundFrom.carrierStop {c} (h : s.SoundFrom τ) : (s.carrierStop c).SoundFrom τ := by
  unfold State.carrierStop
  split
  · exact .ite h.runEnd.raise.workerPass.spareTaken h.runStop
  · exact h

theorem State.SoundFrom.faultEffect {fs u} (h : s.SoundFrom τ) : (s.faultEffect fs u).SoundFrom τ := by
  unfold State.faultEffect
  extract_lets
  split
  · exact h.setBit
  · exact h.on (fun _ ha => ha.haltDoms)
  · exact h.on (fun _ ha => ha.frame rfl)
  · exact h.frame rfl
  · exact h.frame rfl
  · exact h.on (fun _ ha => ha.haltDoms)
  · exact h.on (fun _ ha => ha.frame rfl)
  · exact h.linkDown
  · split
    · exact h.setEntry
    · exact h
  · exact h.on (fun _ ha => ha.haltDoms)
  · exact h.planeIsolate
  · exact h.on (fun _ ha => ha.haltDoms)
  · exact h.wellBad
  · exact h.ringFail
  · exact h.carrierFault.laneFail
  · exact h.hbmUncorr
  · exact h.engineFail
  · exact h.epRestore
  · exact h.addSat.frame rfl
  · exact h.litStop
  · exact h.mtxStop
  · exact h.stageOff
  · exact h.setBit.limpBegin
  · exact h.coiEnd
  · exact h.setBit
  · exact h.canBad
  · exact h.setAlone
  · exact h.setBit
  · exact h.carrierStop.zwStop
  · exact h.carrierStop.zwStop
  · exact h.carrierStop.zwStop
  · exact h.carrierFault.setBit
  · exact h.carrierFault
  · exact h.setBit
  · exact h.tokEnter
  · exact h

theorem State.SoundFrom.modEsc {fs} {f : Esc → Esc} (h : s.SoundFrom τ) : (s.modEsc fs f).SoundFrom τ := h.frame rfl

theorem State.SoundFrom.isolateUnit {u} (h : s.SoundFrom τ) : (s.isolateUnit u).SoundFrom τ := by
  unfold State.isolateUnit
  extract_lets
  split
  · exact h.linkDown.pageDisable
  · exact h.setFld.setFld.lanesReport
  · exact .ite h.zwStop h
  · exact h.planeIsolate
  · exact h.get (execHqrDisable_ends h)
  · exact h.pageDisable
  · exact h

theorem State.SoundFrom.failsafe {d} (h : s.SoundFrom τ) : (s.failsafe d).SoundFrom τ := by
  unfold State.failsafe
  refine .ite ?_ (.ite (h.frame rfl) h)
  extract_lets s1 s2
  have h1 : s1.SoundFrom τ := h.foldl fun _ _ ha => ha.litStop
  have h2 : s2.SoundFrom τ := h1.foldl fun _ _ ha => ha.mtxStop
  exact h2.foldl fun _ _ ha => ha.stageDisable

theorem State.SoundFrom.setSrc {fs st} (h : s.SoundFrom τ) : (s.setSrc fs st).SoundFrom τ := h.setFld

theorem State.SoundFrom.ladderEnd {fs} (h : s.SoundFrom τ) : (s.ladderEnd fs).SoundFrom τ := h.setSrc.disarm.modEsc

theorem State.SoundFrom.takeRung {fs n} (h : s.SoundFrom τ) : (s.takeRung fs n).SoundFrom τ := by
  unfold State.takeRung
  extract_lets _ _ s2
  have h2 : s2.SoundFrom τ := h.addSat.setFld.setSrc.disarm.modEsc.raise
  refine .ite h2 ?_
  split
  · exact h2.isolateUnit
  · exact h2.foldl fun _ _ ha => ha.failsafe
  · exact h2

theorem State.SoundFrom.ladderNext {fs} (h : s.SoundFrom τ) : (s.ladderNext fs).SoundFrom τ := by
  unfold State.ladderNext
  split
  · exact h.takeRung
  · exact h.ladderEnd

theorem State.SoundFrom.ladderStart {fs} (h : s.SoundFrom τ) : (s.ladderStart fs).SoundFrom τ := by
  unfold State.ladderStart
  split
  · exact h.takeRung
  · exact h.ladderEnd

theorem State.SoundFrom.detect {fs u held} (h : s.SoundFrom τ) : (s.detect fs u held).SoundFrom τ := by
  unfold State.detect
  refine .ite h ?_
  extract_lets s1
  have h1 : s1.SoundFrom τ := h.faultEffect.fault.ifThen (fun _ ha => ha.setBit)
  exact .ite h1.ladderNext h1

theorem execFaultDetection_ends {dt source place held} (h : s.SoundFrom τ) : Ends τ (execFaultDetection dt source place held s) :=
  .next h.tick.detect

theorem execFaultForce_ends {dt vi page value} (h : s.SoundFrom τ) : Ends τ (execFaultForce dt vi page value s) :=
  .next (h.tick.vi0Write (fun _ ha => .ite ha (ha.foldl fun _ _ hb => hb.detect)))

theorem State.SoundFrom.ackSource {fs} (h : s.SoundFrom τ) : (s.ackSource fs).SoundFrom τ := by
  unfold State.ackSource
  split
  · exact h.disarm.setSrc
  · exact .ite h.ladderEnd h.modEsc
  · exact h

theorem execFaultAck_ends {dt vi page value} (h : s.SoundFrom τ) : Ends τ (execFaultAck dt vi page value s) := by
  refine .next ?_
  refine .ite h.tick ?_
  refine .ite (h.tick.on (fun _ ha => ha.late)) ?_
  extract_lets s2
  have h2 : s2.SoundFrom τ := .ite h.tick (h.tick.on (fun _ ha => ha.denied))
  exact h2.foldl fun _ _ ha => ha.ackSource

theorem execFaultRecordClear_ends {dt vi value} (h : s.SoundFrom τ) : Ends τ (execFaultRecordClear dt vi value s) := by
  have hs := h.tick (dt := dt)
  refine .next (.ite hs (.ite (hs.on fun _ hb => hb.late) ?_))
  split
  · exact .ite hs (hs.on fun _ hb => hb.denied)
  · refine .ite (hs.on fun _ hb => hb.denied) (.setBit (.setFld ?_))
    exact (hs.on fun _ hb => hb.eraseRec).foldl fun _ _ ha => ha.wr

theorem execCorrWindow_ends {dt source} (h : s.SoundFrom τ) : Ends τ (execCorrWindow dt source s) :=
  .next (.ite h.tick (.ite (.ite h.tick (.ite h.tick.setBit.raise.setFld h.tick.setBit.raise)) h.tick.setBit))

theorem execFaultGraceExpire_ends {dt source held} (h : s.SoundFrom τ) : Ends τ (execFaultGraceExpire dt source held s) :=
  .next (h.tick.onExpiry (fun _ ha => .ite ha.setBit.ladderStart ha.setBit))

theorem execEscalationRungComplete_ends {dt source held} (h : s.SoundFrom τ) :
    Ends τ (execEscalationRungComplete dt source held s) := by
  refine .next ?_
  refine .ite h.tick ?_
  extract_lets s2
  have h2 : s2.SoundFrom τ := h.tick.setBit
  exact .ite h2.ladderEnd (.ite h2.ladderNext (.ite h2.ladderEnd (.ite h2 h2.arm)))

theorem execLadderEndTimeout_ends {dt source} (h : s.SoundFrom τ) : Ends τ (execLadderEndTimeout dt source s) :=
  .next (h.tick.onExpiry (fun _ ha => .ite ha (.ite ha.ladderNext ha.ladderEnd)))

theorem State.SoundFrom.noSpare {page} (h : s.SoundFrom τ) : (s.noSpare page).SoundFrom τ := .ite h.fault.disarm.takeRung h.fault

theorem State.SoundFrom.spareWorker {c} (h : s.SoundFrom τ) : (s.spareWorker c).SoundFrom τ := by
  unfold State.spareWorker
  split
  · exact h
  · split
    · exact h.noSpare
    · exact h.modUpd.workerMove.modUpd.setFld.spareTaken

theorem State.SoundFrom.spareKeeper {p} (h : s.SoundFrom τ) : (s.spareKeeper p).SoundFrom τ := by
  unfold State.spareKeeper
  refine .ite (.ite h.setKpr.modUpd h.setKpr.updAbandon) ?_
  refine .ite (.ite h.noSpare h.updReverse.reverseHandover.spareTaken) ?_
  refine .ite h.keeperMove.spareTaken ?_
  exact .ite h.runEnd.raise.keeperMove.spareTaken h.noSpare

theorem execSpareTakeover_ends {dt source} (h : s.SoundFrom τ) : Ends τ (execSpareTakeover dt source s) := by
  refine .next ?_
  refine .ite h.tick ?_
  extract_lets s2
  have h2 : s2.SoundFrom τ := h.tick.modEsc
  split
  · exact h2.spareWorker
  · exact h2.spareKeeper
  · exact h2.spareTaken

theorem execDomainResetReapply_ends {dt domain} (h : s.SoundFrom τ) : Ends τ (execDomainResetReapply dt domain s) := by
  refine .next (.ite h.tick ?_)
  extract_lets _ _ s2 s3
  have h2 : s2.SoundFrom τ := h.tick.frame rfl
  have h3 : s3.SoundFrom τ := h2.domReset
  exact .foldl h3 fun _ _ ha => .ite ha.modEsc ha

theorem execDeviceReset_ends {dt} (h : s.SoundFrom τ) : Ends τ (execDeviceReset dt s) := .next (.ite h.tick.deviceReset h.tick)

end

/-! ### Sys2Proof/Machine/RegWrite.lean -/

section
variable {τ : Nat} {s : State}

theorem State.SoundFrom.cfgErrAt {vi sp} (h : s.SoundFrom τ) : (s.cfgErrAt vi sp).SoundFrom τ := by
  unfold State.cfgErrAt
  split
  · exact h.cfgErrEntry
  · exact .ite (h.on (fun _ ha => ha.cfgErrFor)) h.cfgErr

theorem State.SoundFrom.writeLost {sp} (h : s.SoundFrom τ) : (s.writeLost sp).SoundFrom τ := by
  unfold State.writeLost
  split
  · exact h.frame rfl
  · exact h.setBit

theorem State.SoundFrom.shadowSet {sp d k v} (h : s.SoundFrom τ) : (s.shadowSet sp d k v).SoundFrom τ :=
  .ite h.writeLost (h.on (fun _ ha => ha.wrShadow))

theorem State.SoundFrom.codedWrite {vi sp d k v} (h : s.SoundFrom τ) : (s.codedWrite vi sp d k v).SoundFrom τ :=
  .ite h.shadowSet (.ite h.wr.cfgErrAt h.wr)

theorem State.SoundFrom.plainWrite {vi sp v} (h : s.SoundFrom τ) : (s.plainWrite vi sp v).SoundFrom τ := by
  unfold State.plainWrite
  split
  · exact .ite (h.on (fun _ ha => ha.denied)) h.codedWrite
  · exact h

theorem State.SoundFrom.ownWrite {sp} {f : State → State} (h : s.SoundFrom τ) (hf : ∀ t, t.SoundFrom τ → (f t).SoundFrom τ) :
    (s.ownWrite sp f).SoundFrom τ :=
  .ite (h.on (fun _ ha => ha.denied)) (hf _ h)

theorem State.SoundFrom.headerWrite {vi sp v} (h : s.SoundFrom τ) : (s.headerWrite vi sp v).SoundFrom τ := by
  unfold State.headerWrite
  refine h.ownWrite fun _ ha => ?_
  refine .ite ha.pageCtrlWrite ?_
  refine .ite (ha.ifThen (fun _ hb => hb.setBit)) ?_
  refine .ite ha.pendClear ?_
  exact .ite ha.evtEnable (.ite ha.evtForce (.ite ha.shadowWrite ha))

theorem State.SoundFrom.timWrite {vi sp v} (h : s.SoundFrom τ) : (s.timWrite vi sp v).SoundFrom τ :=
  .ite (h.plainWrite.frame rfl) h.plainWrite

theorem State.SoundFrom.gptWrite {vi sp v} (h : s.SoundFrom τ) : (s.gptWrite vi sp v).SoundFrom τ := by
  unfold State.gptWrite
  refine .ite (h.ownWrite (fun _ ha => ha.writeGptCtrl)) ?_
  refine .ite (h.get (execGptReloadLoWrite_ends h)) ?_
  exact .ite (h.get (execGptCmpLoWrite_ends h)) h.plainWrite

theorem State.SoundFrom.prtWrite {vi sp v} (h : s.SoundFrom τ) : (s.prtWrite vi sp v).SoundFrom τ :=
  .ite (.ite (h.ownWrite (fun _ ha => ha.prtGroup)) h) h.plainWrite

theorem State.SoundFrom.strWrite {vi sp v} (h : s.SoundFrom τ) : (s.strWrite vi sp v).SoundFrom τ := by
  unfold State.strWrite
  extract_lets
  refine .ite ?_ ?_
  · split
    · exact h.get (execStrRead_ends h)
    · exact h.get (execStrWrite_ends h)
    · exact h.get (execStrWriteKeep_ends h)
    · exact h
  · refine .ite ?_ h.plainWrite
    split
    · exact h.get (execGrpRead_ends h)
    · exact h.get (execGrpWrite_ends h)
    · exact h

theorem State.SoundFrom.cisWrite {vi sp v} (h : s.SoundFrom τ) : (s.cisWrite vi sp v).SoundFrom τ := by
  unfold State.cisWrite
  extract_lets s1 s2
  have h1 : s1.SoundFrom τ := h.plainWrite
  have h2 : s2.SoundFrom τ := .ite (h1.get (execCisPeakClr_ends h1)) h1
  exact .ite (.ite (h2.get (execCisCntClr_ends h2)) h2) h1

theorem State.SoundFrom.ringBitsClear {vi sp v} (h : s.SoundFrom τ) : (s.ringBitsClear vi sp v).SoundFrom τ := by
  unfold State.ringBitsClear
  refine .foldl h fun _ _ ha => ?_
  refine .ite ?_ ha
  split
  · exact .ite ha.setBit (ha.on (fun _ hb => hb.denied))
  · exact ha

theorem State.SoundFrom.hqrWrite {vi sp v} (h : s.SoundFrom τ) : (s.hqrWrite vi sp v).SoundFrom τ := by
  unfold State.hqrWrite
  refine .ite h.ringBitsClear ?_
  split
  · exact h.plainWrite
  · refine .ite (.ite (h.get (execHqrEnable_ends h)) (h.get (execHqrDisable_ends h))) ?_
    refine .ite (h.get (execHqrDoorbell_ends h)) ?_
    exact .ite (h.get (execHqrMemDataAccess_ends h)) h.plainWrite

theorem State.SoundFrom.entryLoad {vi sp base n sel} (h : s.SoundFrom τ) : (s.entryLoad vi sp base n sel).SoundFrom τ :=
  h.foldl fun _ _ ha => ha.wr

theorem State.SoundFrom.entryStage {vi sp base n sel} (h : s.SoundFrom τ) : (s.entryStage vi sp base n sel).SoundFrom τ :=
  h.foldl fun _ _ ha => ha.on (fun _ hb => hb.wrShadow)

theorem State.SoundFrom.entryWord {vi sp base n sel v} (h : s.SoundFrom τ) : (s.entryWord vi sp base n sel v).SoundFrom τ :=
  h.ownWrite (fun _ ha => .ite ha.writeLost (.ite ha.wr.entryStage ha.wr))

theorem State.SoundFrom.cnvWrite {vi sp v} (h : s.SoundFrom τ) : (s.cnvWrite vi sp v).SoundFrom τ := by
  unfold State.cnvWrite
  refine .ite h.plainWrite.entryLoad ?_
  refine .ite h.plainWrite.entryLoad ?_
  refine .ite h.entryWord ?_
  refine .ite h.entryWord ?_
  refine .ite (.ite (h.get (execLayoutEpochRequest_ends h)) h) ?_
  refine .ite (h.ownWrite (fun _ ha => ha.cfgErr)) ?_
  refine .ite (h.ownWrite (fun _ ha => .ite ha.plainWrite ha.plainWrite.cfgErr)) ?_
  exact .ite (h.ownWrite (fun _ ha => ha.cfgErr)) h.plainWrite

theorem State.SoundFrom.winWrite {vi sp v} (h : s.SoundFrom τ) : (s.winWrite vi sp v).SoundFrom τ := by
  unfold State.winWrite
  split
  · exact h.plainWrite
  · refine .ite (h.ownWrite (fun _ ha => ha.fsCtrlWrite)) ?_
    exact .ite (h.ownWrite (fun _ ha => ha.cfgErrEntry)) h.plainWrite

theorem State.SoundFrom.valWrite {vi sp v} (h : s.SoundFrom τ) : (s.valWrite vi sp v).SoundFrom τ := by
  unfold State.valWrite
  refine .ite (h.get (execValSrcDevWrite_ends h)) ?_
  refine .ite ?_ h.plainWrite
  split
  · exact h.get (execValEpRead_ends h)
  · exact h.get (execValEpWrite_ends h)
  · exact h.get (execValEpWriteClear_ends h)
  · exact h.get (execValEpSet_ends h)
  · exact h

theorem State.SoundFrom.litWrite {vi sp v} (h : s.SoundFrom τ) : (s.litWrite vi sp v).SoundFrom τ := by
  unfold State.litWrite
  refine .ite (h.ownWrite (fun _ ha => ha.litDevCount)) ?_
  exact .ite (h.ownWrite (fun _ ha => ha.litPeriod)) (.ite h.litCmd h.plainWrite)

theorem State.SoundFrom.mtxWrite {vi sp v} (h : s.SoundFrom τ) : (s.mtxWrite vi sp v).SoundFrom τ :=
  .ite (h.ownWrite (fun _ ha => ha.cfgErr)) h.plainWrite

theorem State.SoundFrom.calWrite {vi sp v} (h : s.SoundFrom τ) : (s.calWrite vi sp v).SoundFrom τ := by
  unfold State.calWrite
  refine .ite ?_ (.ite (h.get (execCalMtxWrite_ends h)) h.plainWrite)
  split
  · exact h.get (execCalRead_ends h)
  · exact h.get (execCalWrite_ends h)
  · exact h

theorem State.SoundFrom.ldsWrite {vi sp v} (h : s.SoundFrom τ) : (s.ldsWrite vi sp v).SoundFrom τ := by
  unfold State.ldsWrite
  refine .ite (h.ownWrite (fun _ ha => ha.ldsOutWrite)) ?_
  refine .ite (h.ownWrite (fun _ ha => ha.cfgErr)) ?_
  refine .ite (h.get (execLdsLatchClr_ends h)) ?_
  refine .ite (h.get (execHeartbeatWrite_ends h)) ?_
  exact .ite (h.get (execLimpExit_ends h)) h.plainWrite

theorem State.SoundFrom.encWrite {vi sp v} (h : s.SoundFrom τ) : (s.encWrite vi sp v).SoundFrom τ :=
  .ite (h.get (execEncPosWrite_ends h)) h.plainWrite

theorem State.SoundFrom.coiWrite {vi sp v} (h : s.SoundFrom τ) : (s.coiWrite vi sp v).SoundFrom τ :=
  .ite (h.get (execCoiFire_ends h)) (.ite (h.get (execCoiAbort_ends h)) h.plainWrite)

theorem State.SoundFrom.canCtrlWrite {vi n v} (h : s.SoundFrom τ) : (s.canCtrlWrite vi n v).SoundFrom τ :=
  .ite h.cfgErr (.ite (.setAlone (.ite h.wr h.wr.setBit.modCtl)) (.ite h.wr h.wr.setBit.modCtl))

theorem State.SoundFrom.canTimingWrite {vi sp v} (h : s.SoundFrom τ) : (s.canTimingWrite vi sp v).SoundFrom τ :=
  .ite h.cfgErr h.plainWrite

theorem State.SoundFrom.canLoad {vi sp base n sel} (h : s.SoundFrom τ) : (s.canLoad vi sp base n sel).SoundFrom τ :=
  h.foldl fun _ _ ha => ha.wr

theorem State.SoundFrom.canStore {vi sp base n sel} (h : s.SoundFrom τ) : (s.canStore vi sp base n sel).SoundFrom τ :=
  h.foldl fun _ _ ha => ha.wr

theorem State.SoundFrom.canWrite {vi sp v} (h : s.SoundFrom τ) : (s.canWrite vi sp v).SoundFrom τ := by
  unfold State.canWrite
  extract_lets
  refine .ite (h.ownWrite (fun _ ha => ha.canCtrlWrite)) ?_
  refine .ite (h.ownWrite (fun _ ha => ha.canTimingWrite)) ?_
  refine .ite (h.get (execCanTxRequest_ends h)) ?_
  refine .ite (h.get (execCanTxCancel_ends h)) ?_
  refine .ite (h.get (execCanHpLockRelease_ends h)) ?_
  refine .ite h.plainWrite.canLoad ?_
  refine .ite h.plainWrite.canLoad ?_
  refine .ite (h.ownWrite (fun _ ha => ha.plainWrite.canStore)) ?_
  refine .ite (h.ownWrite (fun _ ha => .ite ha.plainWrite.cfgErr ha.plainWrite.canStore)) ?_
  split
  · exact .ite (h.ownWrite (fun _ ha => ha.cfgErr)) h.plainWrite
  · exact h.plainWrite

theorem State.SoundFrom.wakWrite {vi sp v} (h : s.SoundFrom τ) : (s.wakWrite vi sp v).SoundFrom τ := by
  unfold State.wakWrite
  refine .ite ?_ h.plainWrite
  split
  · exact h.get (execWakModeNormal_ends h)
  · exact h.get (execWakModeSleep_ends h)
  · exact h.get (execWakModeStandby_ends h)

theorem State.SoundFrom.zwkWrite {vi sp v} (h : s.SoundFrom τ) : (s.zwkWrite vi sp v).SoundFrom τ := by
  unfold State.zwkWrite
  refine .ite (.ite (h.get (execZwkStart_ends h)) (h.get (execZwkStop_ends h))) ?_
  refine .ite (h.get (execZwkDoorbell_ends h)) ?_
  refine .ite (h.get (execZwkTimerWrite_ends h)) ?_
  refine .ite (h.get (execZwkRouteWrite_ends h)) ?_
  refine .ite (h.get (execZwkImemDataAccess_ends h)) ?_
  exact .ite (h.get (execZwkDmemDataAccess_ends h)) h.plainWrite

theorem State.SoundFrom.keeperWrite {vi sp v} (h : s.SoundFrom τ) : (s.keeperWrite vi sp v).SoundFrom τ :=
  .ite (h.get (execZwkTimerWrite_ends h)) h.plainWrite

theorem State.SoundFrom.dkyRegWrite {vi sp v} (h : s.SoundFrom τ) : (s.dkyRegWrite vi sp v).SoundFrom τ := by
  unfold State.dkyRegWrite
  refine .ite ?_ ?_
  · split
    · exact h.get (execDkyOpen_ends h)
    · exact h.get (execDkySeal_ends h)
    · exact h.get (execDkyAbort_ends h)
    · exact h
  · refine .ite (h.get (execDkySigSubmit_ends h)) ?_
    exact .ite (h.on (fun _ ha => ha.denied)) h.plainWrite

theorem State.SoundFrom.idnWrite {vi sp v} (h : s.SoundFrom τ) : (s.idnWrite vi sp v).SoundFrom τ :=
  .ite (h.get (execIdnReportRequest_ends h)) h.plainWrite

theorem State.SoundFrom.tokWrite {vi sp v} (h : s.SoundFrom τ) : (s.tokWrite vi sp v).SoundFrom τ :=
  .ite (h.ownWrite (fun _ ha => ha.tokCtrl)) h.plainWrite

theorem State.SoundFrom.pwrRegWrite {vi sp v} (h : s.SoundFrom τ) : (s.pwrRegWrite vi sp v).SoundFrom τ :=
  .ite (.ite h.pwrTarget h) (.ite h.watchRequest (.ite h.padRelease h.plainWrite))

theorem State.SoundFrom.budRegWrite {vi sp v} (h : s.SoundFrom τ) : (s.budRegWrite vi sp v).SoundFrom τ := by
  unfold State.budRegWrite
  refine .ite ?_ h.plainWrite
  refine h.ownWrite fun _ ha => ?_
  split
  · exact .ite ha.budWrite.cfgErr ha.budWrite
  · exact ha

theorem State.SoundFrom.fltWrite {vi sp v} (h : s.SoundFrom τ) : (s.fltWrite vi sp v).SoundFrom τ :=
  .ite (h.get (execEpochRequest_ends h)) (.ite (h.get (execFaultRecordClear_ends h)) h.plainWrite)

theorem State.SoundFrom.fltSrcWrite {vi sp v} (h : s.SoundFrom τ) : (s.fltSrcWrite vi sp v).SoundFrom τ :=
  .ite (h.get (execFaultAck_ends h)) (.ite (h.get (execFaultForce_ends h)) h.plainWrite)

theorem State.SoundFrom.updBufWrite {v} (h : s.SoundFrom τ) : (s.updBufWrite v).SoundFrom τ := h.modUpd.setFld

theorem State.SoundFrom.updDmaWrite {vi} (h : s.SoundFrom τ) : (s.updDmaWrite vi).SoundFrom τ := by
  unfold State.updDmaWrite
  extract_lets n _
  exact h.get (execUpdBlockDma_ends (h.on fun _ ha => ha.frame rfl))

theorem State.SoundFrom.updRegWrite {vi sp v} (h : s.SoundFrom τ) : (s.updRegWrite vi sp v).SoundFrom τ := by
  unfold State.updRegWrite
  refine .ite ?_ (.ite (h.ownWrite (fun _ ha => ha.updBufWrite)) h.plainWrite)
  split
  · exact h.get (execUpdOpen_ends h)
  · exact h.get (execUpdBlock_ends h)
  · exact h.updDmaWrite
  · exact h.get (execUpdVerify_ends h)
  · exact h.get (execUpdAbort_ends h)
  · exact h.get (execUpdConfirm_ends h)
  · exact h.get (execUpdReverse_ends h)
  · exact h.get (execUpdRecover_ends h)
  · exact h

theorem State.SoundFrom.blockWrite {vi sp v} (h : s.SoundFrom τ) : (s.blockWrite vi sp v).SoundFrom τ := by
  unfold State.blockWrite
  split
  · exact h.timWrite
  · exact h.gptWrite
  · exact .ite (h.get (execMdioFrameStart_ends h)) h.plainWrite
  · exact .ite (h.ownWrite (fun _ ha => ha.evqEnable)) h.plainWrite
  · exact h.prtWrite
  · exact h.strWrite
  · exact .ite (h.get (execPlaneForce_ends h)) h.plainWrite
  · exact h.cisWrite
  · exact h.hqrWrite
  · exact h.cnvWrite
  · exact h.winWrite
  · exact h.valWrite
  · exact h.litWrite
  · exact h.mtxWrite
  · exact h.calWrite
  · exact h.ldsWrite
  · exact h.encWrite
  · exact h.coiWrite
  · exact h.canWrite
  · exact h.wakWrite
  · exact h.zwkWrite
  · exact h.keeperWrite
  · exact h.dkyRegWrite
  · exact h.idnWrite
  · exact h.tokWrite
  · exact h.pwrRegWrite
  · exact .ite h.domRequest h.plainWrite
  · exact h.budRegWrite
  · exact h.fltWrite
  · exact h.fltSrcWrite
  · exact .ite h.bstCtrl h.plainWrite
  · exact h.updRegWrite
  · exact h.plainWrite

theorem State.SoundFrom.regEffect {vi sp v} (h : s.SoundFrom τ) : (s.regEffect vi sp v).SoundFrom τ :=
  .ite h.headerWrite h.blockWrite

theorem State.SoundFrom.asUp {ds} {f : State → State} (h : s.SoundFrom τ) (hf : ∀ t, t.SoundFrom τ → (f t).SoundFrom τ) :
    (s.asUp ds f).SoundFrom τ :=
  .foldl (hf _ (h.foldl fun _ _ ha => ha.setFld)) fun _ _ ha => .ite ha.setFld ha

theorem State.SoundFrom.postedEffect {w} (h : s.SoundFrom τ) : (s.postedEffect w).SoundFrom τ :=
  h.asUp (fun _ ha => .ite ha.regEffect ha)

theorem State.SoundFrom.post {w} (h : s.SoundFrom τ) : (s.post w).SoundFrom τ := .ite (h.frame rfl) (h.frame rfl)

theorem State.SoundFrom.postedNext {c} (h : s.SoundFrom τ) : (s.postedNext c).SoundFrom τ := by
  unfold State.postedNext
  split
  · exact h
  · exact .postedEffect (h.frame rfl)

theorem State.SoundFrom.flushN {c i} (h : s.SoundFrom τ) : (s.flushN c i).SoundFrom τ := by
  induction i generalizing s with
  | zero => exact h
  | succ i ih => exact ih (.ite h h.postedNext)

theorem State.SoundFrom.flushDomain {c} (h : s.SoundFrom τ) : (s.flushDomain c).SoundFrom τ := h.flushN

theorem State.SoundFrom.flushAll (h : s.SoundFrom τ) : (s.flushAll).SoundFrom τ := h.foldl fun _ _ ha => ha.flushN

theorem State.SoundFrom.writeReg {vi addr value} (h : s.SoundFrom τ) : (s.writeReg vi addr value).1.SoundFrom τ := by
  unfold State.writeReg
  split
  · exact h
  · refine .fst_ite h ?_
    refine .fst_ite (h.on (fun _ ha => ha.late)) ?_
    exact .fst_ite (h.on (fun _ ha => ha.denied)) h.post

theorem execRegisterWrite_ends {dt vi addr value} (h : s.SoundFrom τ) : Ends τ (execRegisterWrite dt vi addr value s) :=
  .next h.tick.writeReg

theorem execPostedWriteEffect_ends {dt dom} (h : s.SoundFrom τ) : Ends τ (execPostedWriteEffect dt dom s) :=
  .next h.tick.postedNext

end

/-! ### Sys2Proof/Machine/Requests.lean -/

section
variable {τ : Nat} {s : State}

theorem State.SoundFrom.after {vi page} (h : s.SoundFrom τ) : (s.after vi page).SoundFrom τ :=
  .ite h.flushAll (.ite h.flushDomain h)

theorem execPageReadTimeout_ends {dt vi addr} (h : s.SoundFrom τ) : Ends τ (execPageReadTimeout dt vi addr s) := by
  refine .next ?_
  split
  · exact h.tick
  · exact .ite h.tick h.tick.fault.emit

theorem execPageSrst_ends {dt vi page} (h : s.SoundFrom τ) : Ends τ (execPageSrst dt vi page s) :=
  .next (h.tick.after.pageWrite (fun _ _ ha => ha.pageSrst))

theorem execPageCommit_ends {dt vi page} (h : s.SoundFrom τ) : Ends τ (execPageCommit dt vi page s) :=
  .next (h.tick.after.pageWrite (fun _ _ ha => ha.pageCommit))

theorem execPageEnableWrite_ends {dt vi page en slots} (h : s.SoundFrom τ) : Ends τ (execPageEnableWrite dt vi page en slots s) :=
  .next (h.tick.after.pageWrite (fun _ _ ha => ha.enWrite))

theorem execEvtPendClear_ends {dt vi page mask meets} (h : s.SoundFrom τ) : Ends τ (execEvtPendClear dt vi page mask meets s) :=
  .next (h.tick.after.pageWrite (fun _ _ ha => ha.pendClear))

theorem execEvtEnableWrite_ends {dt vi page value} (h : s.SoundFrom τ) : Ends τ (execEvtEnableWrite dt vi page value s) :=
  .next (h.tick.after.pageWrite (fun _ _ ha => ha.evtEnable))

theorem execEvtForce_ends {dt vi page mask} (h : s.SoundFrom τ) : Ends τ (execEvtForce dt vi page mask s) :=
  .next (h.tick.after.pageWrite (fun _ _ ha => ha.evtForce))

theorem execEvqEnable_ends {dt vi en} (h : s.SoundFrom τ) : Ends τ (execEvqEnable dt vi en s) :=
  .next (h.tick.after.guardWrite (fun _ ha => ha.evqEnable))

theorem State.SoundFrom.flrOne {v} (h : s.SoundFrom τ) : (s.flrOne v).SoundFrom τ := h.flr.raise

theorem execPcieFlr_ends {dt vi} (h : s.SoundFrom τ) : Ends τ (execPcieFlr dt vi s) :=
  .next (.ite (h.tick.foldl fun _ _ ha => ha.flrOne) (.ite h.tick.flrOne h.tick))

theorem execVfDisable_ends {dt} (h : s.SoundFrom τ) : Ends τ (execVfDisable dt s) :=
  .next (.on (h.tick.foldl fun _ _ ha => ha.flrOne) (fun _ ha => ha.frame rfl))

theorem State.SoundFrom.openSession {vi enrol} (h : s.SoundFrom τ) : (s.openSession vi enrol).SoundFrom τ := by
  unfold State.openSession
  extract_lets _ s1 s2
  have h1 : s1.SoundFrom τ := h.on fun _ ha => ha.frame rfl
  have h2 : s2.SoundFrom τ := h1.wr.setBit
  exact (h2.foldl fun _ _ ha => ha.emit).raise

theorem execNetSessionOpen_ends {dt digest} (h : s.SoundFrom τ) : Ends τ (execNetSessionOpen dt digest s) := by
  refine .next ?_
  refine .ite h.tick ?_
  split
  · exact .ite h.tick.closeSession.openSession h.tick
  · exact .ite h.tick h.tick.openSession

theorem execNetSessionIdleClose_ends {dt vi} (h : s.SoundFrom τ) : Ends τ (execNetSessionIdleClose dt vi s) := by
  refine .next ?_
  split
  · exact .ite h.tick.closeSession h.tick
  · exact h.tick

theorem execNetSessionClose_ends {dt vi} (h : s.SoundFrom τ) : Ends τ (execNetSessionClose dt vi s) := .next h.tick.closeSession

theorem State.SoundFrom.message {vi tag count addr} {f : State → State} (h : s.SoundFrom τ)
    (hf : ∀ t, t.SoundFrom τ → (f t).SoundFrom τ) :
    (s.message vi tag count addr f).SoundFrom τ := by
  unfold State.message
  split
  · exact h
  · extract_lets s1
    have h1 : s1.SoundFrom τ := h.on (fun _ ha => ha.frame rfl)
    exact .ite h1.emit (hf _ h1)

theorem State.SoundFrom.readWords {vi req l} (h : s.SoundFrom τ) : (s.readWords vi req l).1.SoundFrom τ := by
  induction l generalizing s with
  | nil => exact h
  | cons a l ih => exact ih h.after.readReg

theorem State.SoundFrom.writeWords {vi l} (h : s.SoundFrom τ) : (s.writeWords vi l).1.SoundFrom τ := by
  induction l generalizing s with
  | nil => exact h
  | cons p l ih => exact ih h.writeReg

theorem execNetRead_ends {dt vi tag count addr} (h : s.SoundFrom τ) : Ends τ (execNetRead dt vi tag count addr s) :=
  .next (h.tick.message (fun _ ha => ha.readWords.emit))

theorem execNetWrite_ends {dt vi tag addr words} (h : s.SoundFrom τ) : Ends τ (execNetWrite dt vi tag addr words s) :=
  .next (h.tick.message (fun _ ha => ha.writeWords.emit))

theorem execGlobalEpochDurable_ends {dt} (h : s.SoundFrom τ) : Ends τ (execGlobalEpochDurable dt s) := by
  refine .next ?_
  split
  · exact h.tick
  · exact .joinsWait (.epochLive (.ite h.tick h.tick.flushAll))

end

/-! ### Sys2Proof/Machine/Remote.lean -/

section
variable {τ : Nat} {s : State}

theorem State.SoundFrom.remoteRead {c addr timeout} (h : s.SoundFrom τ) : (s.remoteRead c addr timeout).1.SoundFrom τ := by
  unfold State.remoteRead
  refine .fst_ite h ?_
  split
  · exact .fst_ite (h.get (execPageReadTimeout_ends h)) h.after.readReg
  · exact h
  · exact h
  · exact h
  · exact h
  · exact h

theorem State.SoundFrom.remoteWrite {c addr value} (h : s.SoundFrom τ) : (s.remoteWrite c addr value).1.SoundFrom τ := by
  unfold State.remoteWrite
  refine .fst_ite h ?_
  split
  · exact h.writeReg.after
  · exact h.storeWrite
  · exact h.dmemWr
  · exact h.imemWr
  · exact h.doorbell
  · dsimp only
    exact h.on fun _ ha => ha.frame rfl
  · exact h.doorbell
  · exact h

theorem State.SoundFrom.getWord {c dest value} (h : s.SoundFrom τ) : (s.getWord c dest value).SoundFrom τ := h.modZw.dmemWr

theorem State.SoundFrom.getWords {c m timeout l} (h : s.SoundFrom τ) : (s.getWords c m timeout l).1.SoundFrom τ := by
  induction l generalizing s with
  | nil => exact h
  | cons i l ih => exact .fst_ite (ih h.remoteRead.getWord) (ih h.remoteRead.getWord)

theorem State.SoundFrom.putWords {c m l} (h : s.SoundFrom τ) : (s.putWords c m l).1.SoundFrom τ := by
  induction l generalizing s with
  | nil => exact h
  | cons i l ih => exact .fst_ite (ih h.remoteWrite) (ih h.remoteWrite)

theorem State.SoundFrom.remoteFailed {c group st addr} (h : s.SoundFrom τ) : (s.remoteFailed c group st addr).SoundFrom τ :=
  .ite (.raise (.wr (.wr (h.on (fun _ ha => ha.setEvt))))) (h.on (fun _ ha => ha.setEvt))

theorem State.SoundFrom.remoteDone {c i group} (h : s.SoundFrom τ) : (s.remoteDone c i group).SoundFrom τ := by
  unfold State.remoteDone
  extract_lets _ _ s2 s3
  have h2 : s2.SoundFrom τ := .ite h.modZw (h.modZw.on (fun _ ha => ha.setEvt))
  have h3 : s3.SoundFrom τ := .ite h2.setRun h2
  exact .ite h3.addWrap h3

theorem execRemoteCommandComplete_ends {dt core i timeout} (h : s.SoundFrom τ) :
    Ends τ (execRemoteCommandComplete dt core i timeout s) := by
  refine .next ?_
  split
  · exact h.tick
  · refine .ite h.tick ?_
    extract_lets _ s2
    have h2 : s2.SoundFrom τ := by
      unfold s2
      refine .ite ((.fst_ite h.tick.getWords h.tick.putWords)) ?_
      exact .remoteFailed ((.fst_ite h.tick.getWords h.tick.putWords))
    exact h2.remoteDone

end

/-! ### Sys2Proof/Machine/Start.lean -/

section
variable {τ : Nat} {s : State}

theorem State.SoundFrom.bootMark {page sub} (h : s.SoundFrom τ) : (s.bootMark page sub).SoundFrom τ := h.setBit.fault.raise

theorem State.SoundFrom.bootRole {page sub} (h : s.SoundFrom τ) : (s.bootRole page sub).SoundFrom τ := by
  unfold State.bootRole
  split
  · exact h.planeIsolate
  · split
    · exact .ite h.laneMove h.setRole
    · exact h.setRole
  · split
    · exact .ite h.setWorker h.setWorker.setWorker
    · exact h.setWorker
  · exact h.setKpr
  · exact .ite h.engineFail h

theorem State.SoundFrom.bootFail {f} (h : s.SoundFrom τ) : (s.bootFail f).SoundFrom τ := h.bootMark.bootRole

theorem State.SoundFrom.stopStart (h : s.SoundFrom τ) : (s.stopStart).SoundFrom τ := h.setBit

theorem State.SoundFrom.startBegin {flash straps} (h : s.SoundFrom τ) : (s.startBegin flash straps).SoundFrom τ := by
  unfold State.startBegin
  extract_lets s1
  have h1 : s1.SoundFrom τ := .modUpd (h.ifThen fun _ ha => ha.limpBegin)
  exact h1.frame rfl

theorem State.SoundFrom.startPair_lt {failed p} (h : s.SoundFrom τ) (hp : s.startPair failed = some p) : p < 2 := by
  have hl : s.boot.lastPair < 2 := h.pair
  unfold State.startPair at hp
  dsimp only at hp
  split at hp
  · cases hp
    exact hl
  · split at hp
    · cases hp
      omega
    · cases hp

theorem State.SoundFrom.keeperRoles {p} (h : s.SoundFrom τ) (hp : p < 2) : (s.keeperRoles p).SoundFrom τ := by
  have hs : State.SoundFrom τ { s.on (fun b => { b with keeper := p }) with boot := { s.boot with lastPair := p } } :=
    ⟨h.bus.setKeeper hp, hp⟩
  exact .ite hs.setKpr hs.setKpr.setKpr

theorem State.SoundFrom.replay (h : s.SoundFrom τ) : (s.replay).SoundFrom τ := by
  unfold State.replay
  exact .raise (.wr (.setFld (.wr (.frame (h.foldl fun _ _ ha => ha.absorb) rfl))))

theorem State.SoundFrom.homeProt {sel : Nat → Bool} (h : s.SoundFrom τ) : (s.homeProt sel).SoundFrom τ :=
  h.on (fun _ ha => ha.foldl fun _ _ hb => hb.protWrite)

theorem State.SoundFrom.enterRecovery (h : s.SoundFrom τ) : (s.enterRecovery).SoundFrom τ :=
  h.homeProt.setBit.setUpd.setFld.on (fun _ ha => ha.raiseFor)

theorem State.SoundFrom.homeLoad {e} (h : s.SoundFrom τ) : (s.homeLoad e).SoundFrom τ :=
  .ite h.epInstall (.ite h (.ite h.setCal (.ite h.setMtxEntry (.ite h h.wr))))

theorem State.SoundFrom.homeInForce (h : s.SoundFrom τ) : (s.homeInForce).SoundFrom τ := by
  unfold State.homeInForce
  extract_lets _ s2 s3 s4
  have h2 : s2.SoundFrom τ := h.homeProt.foldl fun _ _ ha => ha.homeLoad
  have h3 : s3.SoundFrom τ := .lanesReport (h2.foldl fun _ _ ha => ha.cisReport)
  have h4 : s4.SoundFrom τ := .setBit (h3.on (fun _ ha => ha.frame rfl))
  exact h4.foldl fun _ _ ha => ha.ldsRefresh

theorem State.SoundFrom.startWorkers (h : s.SoundFrom τ) : (s.startWorkers).SoundFrom τ := by
  unfold State.startWorkers
  extract_lets s1
  have h1 : s1.SoundFrom τ := by
    unfold s1
    refine .foldl h fun _ _ ha => ?_
    split
    · exact ha.workerLoad.setBit.zwStart
    · exact ha
  exact .zwStart (h1.workerLoad.on (fun _ ha => ha.frame rfl))

theorem State.SoundFrom.startConfig (h : s.SoundFrom τ) : (s.startConfig).SoundFrom τ :=
  h.foldl fun _ _ ha => ha.writeReg.flushAll

theorem State.SoundFrom.startIdentity (h : s.SoundFrom τ) : (s.startIdentity).SoundFrom τ :=
  h.setBit.setBit.ifThen (fun _ ha => ha.setBit.fault)

theorem State.SoundFrom.startImage {bank failed} (h : s.SoundFrom τ) : (s.startImage bank failed).SoundFrom τ := by
  unfold State.startImage
  extract_lets _ _ _ _ s3 _ s5
  have h3 : s3.SoundFrom τ := h.runImage.setBit.setFld.setFld.setFld.foldl fun _ _ ha => ha.bootFail
  have h5 : s5.SoundFrom τ := h3.homeInForce.startIdentity.foldl fun _ _ ha => ha.loadCoil
  exact .ite h3.stopStart h5.loadTables.startWorkers.startConfig

theorem State.SoundFrom.start {flash straps failed} (h : s.SoundFrom τ) : (s.start flash straps failed).SoundFrom τ := by
  unfold State.start
  extract_lets s1 kf s2
  have h2 : s2.SoundFrom τ := h.startBegin.foldl fun _ _ ha => ha.bootFail
  split
  · exact h2.stopStart
  · next p hp =>
    extract_lets s3
    have h3 : s3.SoundFrom τ := (h2.keeperRoles (h2.startPair_lt hp)).replay
    split
    · exact h3.startIdentity.enterRecovery
    · exact h3.startImage

theorem execStartSequence_ends {dt cause flash straps failed} (h : s.SoundFrom τ) :
    Ends τ (execStartSequence dt cause flash straps failed s) := by
  refine .next ?_
  split
  · exact .ite h.tick.start h.tick
  · exact .ite h.tick.deviceReset.start h.tick
  · exact .ite h.tick.deviceReset.start (.ite h.tick.start h.tick)

theorem State.SoundFrom.canReady {n} (h : s.SoundFrom τ) : (s.canReady n).SoundFrom τ :=
  h.setBit.foldl fun _ _ ha => .ite ha.setTxStat ha

theorem execServiceReady_ends {dt} (h : s.SoundFrom τ) : Ends τ (execServiceReady dt s) := by
  refine .next ?_
  refine .ite h.tick ?_
  extract_lets _ s3 s4
  have h3 : s3.SoundFrom τ := h.tick.setBit.foldl fun _ _ ha => ha.canReady
  have h4 : s4.SoundFrom τ := h3.ifThen (fun _ ha => ha.setUpd)
  exact h4.on (fun _ ha => ha.raiseFor)

theorem execPorstAssert_ends {dt} (h : s.SoundFrom τ) : Ends τ (execPorstAssert dt s) := .next (h.tick.deviceReset.frame rfl)

theorem execSupplyUndervoltage_ends {dt below} (h : s.SoundFrom τ) : Ends τ (execSupplyUndervoltage dt below s) :=
  .next (.ite (.ite h.tick (h.tick.deviceReset.frame rfl)) (h.tick.frame rfl))

theorem execKeeperDebugHalt_ends {dt enter} (h : s.SoundFrom τ) : Ends τ (execKeeperDebugHalt dt enter s) :=
  .next (.ite h.tick h.tick.setBit.raise.gptModes)

theorem execVaonPowerUp_ends {dt} (h : s.SoundFrom τ) : Ends τ (execVaonPowerUp dt s) :=
  .next ⟨.frame h.tick.deviceReset.bus.filterRegs rfl, Nat.zero_lt_two⟩

end

/-! ### Every command, and the step -/

section
variable {τ : Nat} {s : State}

theorem exec_ends (h : s.SoundFrom τ) : ∀ i, Ends τ (exec i s)
  | .trefInLoss .. => execTrefInLoss_ends h
  | .refclkLoss .. => execRefclkLoss_ends h
  | .pcieRefclkLoss .. => execPcieRefclkLoss_ends h
  | .xtal32kLoss .. => execXtal32kLoss_ends h
  | .pllUnlock .. => execPllUnlock_ends h
  | .pllStandbyRestored .. => execPllStandbyRestored_ends h
  | .timNowSnapshot .. => execTimNowSnapshot_ends h
  | .timPpsCapSnapshot .. => execTimPpsCapSnapshot_ends h
  | .ppsEdge .. => execPpsEdge_ends h
  | .ptpSync .. => execPtpSync_ends h
  | .ptpMessage .. => execPtpMessage_ends h
  | .ptpSyncTimeout .. => execPtpSyncTimeout_ends h
  | .ppsAbsenceTimeout .. => execPpsAbsenceTimeout_ends h
  | .tebUpdate .. => execTebUpdate_ends h
  | .holdoverLimitReached .. => execHoldoverLimitReached_ends h
  | .estepHoldExpire .. => execEstepHoldExpire_ends h
  | .gptInputTick .. => execGptInputTick_ends h
  | .gptCmpLoWrite .. => execGptCmpLoWrite_ends h
  | .gptReloadLoWrite .. => execGptReloadLoWrite_ends h
  | .gptClear .. => execGptClear_ends h
  | .gptEnable .. => execGptEnable_ends h
  | .gptCapture .. => execGptCapture_ends h
  | .gptCapLoRead .. => execGptCapLoRead_ends h
  | .gptAonUpdate .. => execGptAonUpdate_ends h
  | .registerWrite .. => execRegisterWrite_ends h
  | .postedWriteEffect .. => execPostedWriteEffect_ends h
  | .pageReadTimeout .. => execPageReadTimeout_ends h
  | .pageSrst .. => execPageSrst_ends h
  | .pageCommit .. => execPageCommit_ends h
  | .pageEnableWrite .. => execPageEnableWrite_ends h
  | .evtPendClear .. => execEvtPendClear_ends h
  | .evtEnableWrite .. => execEvtEnableWrite_ends h
  | .evtForce .. => execEvtForce_ends h
  | .evqEnable .. => execEvqEnable_ends h
  | .pcieFlr .. => execPcieFlr_ends h
  | .vfDisable .. => execVfDisable_ends h
  | .netSessionOpen .. => execNetSessionOpen_ends h
  | .netSessionIdleClose .. => execNetSessionIdleClose_ends h
  | .netSessionClose .. => execNetSessionClose_ends h
  | .netRead .. => execNetRead_ends h
  | .netWrite .. => execNetWrite_ends h
  | .mdioFrameStart .. => execMdioFrameStart_ends h
  | .mdioFrameComplete .. => execMdioFrameComplete_ends h
  | .mgtLinkChange .. => execMgtLinkChange_ends h
  | .mgtFrameRx .. => execMgtFrameRx_ends h
  | .mgtEnergyWake .. => execMgtEnergyWake_ends h
  | .linkUp .. => execLinkUp_ends h
  | .anTrainingFail .. => execAnTrainingFail_ends h
  | .linkDown .. => execLinkDown_ends h
  | .serdesFailure .. => execSerdesFailure_ends h
  | .frameRx .. => execFrameRx_ends h
  | .fecDegWindow .. => execFecDegWindow_ends h
  | .pfcPauseExpire .. => execPfcPauseExpire_ends h
  | .pfcXoffRefresh .. => execPfcXoffRefresh_ends h
  | .snoopReport .. => execSnoopReport_ends h
  | .snoopQuery .. => execSnoopQuery_ends h
  | .snoopGmiExpire .. => execSnoopGmiExpire_ends h
  | .mergeLegSilent .. => execMergeLegSilent_ends h
  | .mergePairSilent .. => execMergePairSilent_ends h
  | .strRead .. => execStrRead_ends h
  | .strWrite .. => execStrWrite_ends h
  | .strWriteKeep .. => execStrWriteKeep_ends h
  | .strWriteSlotWaitEnd .. => execStrWriteSlotWaitEnd_ends h
  | .grpRead .. => execGrpRead_ends h
  | .grpWrite .. => execGrpWrite_ends h
  | .crossbarCellTime .. => execCrossbarCellTime_ends h
  | .planeForce .. => execPlaneForce_ends h
  | .planeIsolationComplete .. => execPlaneIsolationComplete_ends h
  | .packetDequeue .. => execPacketDequeue_ends h
  | .cisPeakClr .. => execCisPeakClr_ends h
  | .cisCntClr .. => execCisCntClr_ends h
  | .moveTimeout .. => execMoveTimeout_ends h
  | .hqrDoorbell .. => execHqrDoorbell_ends h
  | .hqrTxDescriptor .. => execHqrTxDescriptor_ends h
  | .hqrRxFrame .. => execHqrRxFrame_ends h
  | .hqrDisable .. => execHqrDisable_ends h
  | .hqrStopComplete .. => execHqrStopComplete_ends h
  | .hqrEnable .. => execHqrEnable_ends h
  | .hqrMemDataAccess .. => execHqrMemDataAccess_ends h
  | .pcieLinkLoss .. => execPcieLinkLoss_ends h
  | .pcieLinkRetrained .. => execPcieLinkRetrained_ends h
  | .pumpHang .. => execPumpHang_ends h
  | .fsCapturePacket .. => execFsCapturePacket_ends h
  | .fsFrameComplete .. => execFsFrameComplete_ends h
  | .xsDecodeComplete .. => execXsDecodeComplete_ends h
  | .fsEnable .. => execFsEnable_ends h
  | .fsDisable .. => execFsDisable_ends h
  | .canvasEnable .. => execCanvasEnable_ends h
  | .layoutEpochRequest .. => execLayoutEpochRequest_ends h
  | .layoutEpochChecked .. => execLayoutEpochChecked_ends h
  | .canvasFrameStart .. => execCanvasFrameStart_ends h
  | .bindingInstant .. => execBindingInstant_ends h
  | .lineDraw .. => execLineDraw_ends h
  | .segmentPost .. => execSegmentPost_ends h
  | .tilePacketSend .. => execTilePacketSend_ends h
  | .valueFrameEnqueue .. => execValueFrameEnqueue_ends h
  | .valueFrameApply .. => execValueFrameApply_ends h
  | .valSrcSilentExpire .. => execValSrcSilentExpire_ends h
  | .valSrcDevWrite .. => execValSrcDevWrite_ends h
  | .valEpRead .. => execValEpRead_ends h
  | .valEpWrite .. => execValEpWrite_ends h
  | .valEpWriteClear .. => execValEpWriteClear_ends h
  | .valEpSet .. => execValEpSet_ends h
  | .valEngineHang .. => execValEngineHang_ends h
  | .chainDataFrameStart .. => execChainDataFrameStart_ends h
  | .chainLatch .. => execChainLatch_ends h
  | .litCmdPing .. => execLitCmdPing_ends h
  | .litCmdEnum .. => execLitCmdEnum_ends h
  | .litCmdSetLoss .. => execLitCmdSetLoss_ends h
  | .litCmdSetFail .. => execLitCmdSetFail_ends h
  | .litCmdReadTemp .. => execLitCmdReadTemp_ends h
  | .litCmdReadId .. => execLitCmdReadId_ends h
  | .chainCommandFrame .. => execChainCommandFrame_ends h
  | .chainCommandComplete .. => execChainCommandComplete_ends h
  | .enumPassEnd .. => execEnumPassEnd_ends h
  | .litDevCountWrite .. => execLitDevCountWrite_ends h
  | .litPeriodWrite .. => execLitPeriodWrite_ends h
  | .zoneTempTimeout .. => execZoneTempTimeout_ends h
  | .ntcMeasure .. => execNtcMeasure_ends h
  | .matrixScanRead .. => execMatrixScanRead_ends h
  | .matrixScanFrameStart .. => execMatrixScanFrameStart_ends h
  | .matrixLineSlot .. => execMatrixLineSlot_ends h
  | .stageRead .. => execStageRead_ends h
  | .stageSetpointEffect .. => execStageSetpointEffect_ends h
  | .stageOvervoltage .. => execStageOvervoltage_ends h
  | .stageShort .. => execStageShort_ends h
  | .stageRetry .. => execStageRetry_ends h
  | .calRead .. => execCalRead_ends h
  | .calWrite .. => execCalWrite_ends h
  | .calMtxWrite .. => execCalMtxWrite_ends h
  | .ldsOutWrite .. => execLdsOutWrite_ends h
  | .ldsEvaluate .. => execLdsEvaluate_ends h
  | .ldsInrushEnd .. => execLdsInrushEnd_ends h
  | .ldsTrip .. => execLdsTrip_ends h
  | .ldsPauseExpire .. => execLdsPauseExpire_ends h
  | .ldsTriesClear .. => execLdsTriesClear_ends h
  | .ldsThermalShutdown .. => execLdsThermalShutdown_ends h
  | .ldsThermalRecover .. => execLdsThermalRecover_ends h
  | .ldsOpenLoad .. => execLdsOpenLoad_ends h
  | .ldsStuckOn .. => execLdsStuckOn_ends h
  | .ldsAggregateCheck .. => execLdsAggregateCheck_ends h
  | .vfieldUndervoltage .. => execVfieldUndervoltage_ends h
  | .vfieldRestored .. => execVfieldRestored_ends h
  | .ldsRestoringExpire .. => execLdsRestoringExpire_ends h
  | .ldsLatchClr .. => execLdsLatchClr_ends h
  | .limpNLow .. => execLimpNLow_ends h
  | .heartbeatWrite .. => execHeartbeatWrite_ends h
  | .heartbeatLoss .. => execHeartbeatLoss_ends h
  | .limpLatchClear .. => execLimpLatchClear_ends h
  | .limpExit .. => execLimpExit_ends h
  | .swiSample .. => execSwiSample_ends h
  | .swiQueuePop .. => execSwiQueuePop_ends h
  | .swiWatchSample .. => execSwiWatchSample_ends h
  | .encEdge .. => execEncEdge_ends h
  | .encIndex .. => execEncIndex_ends h
  | .encPosWrite .. => execEncPosWrite_ends h
  | .coiFire .. => execCoiFire_ends h
  | .coiAbort .. => execCoiAbort_ends h
  | .coiOpEnd .. => execCoiOpEnd_ends h
  | .coiOpSeti .. => execCoiOpSeti_ends h
  | .coiOpSrc .. => execCoiOpSrc_ends h
  | .coiOpWaitu .. => execCoiOpWaitu_ends h
  | .coiOpWaitm .. => execCoiOpWaitm_ends h
  | .coiOpWaitk .. => execCoiOpWaitk_ends h
  | .coiOpJmp .. => execCoiOpJmp_ends h
  | .coiOpLoop .. => execCoiOpLoop_ends h
  | .coiOpBk .. => execCoiOpBk_ends h
  | .coiOpBnk .. => execCoiOpBnk_ends h
  | .coiOpBvb .. => execCoiOpBvb_ends h
  | .coiOpFree .. => execCoiOpFree_ends h
  | .coiOpRecov .. => execCoiOpRecov_ends h
  | .coiOpEvt .. => execCoiOpEvt_ends h
  | .coiOpReserved .. => execCoiOpReserved_ends h
  | .coiWaitExpire .. => execCoiWaitExpire_ends h
  | .coiKinkDetect .. => execCoiKinkDetect_ends h
  | .coiWaitkTimeout .. => execCoiWaitkTimeout_ends h
  | .coiCurrentDecayed .. => execCoiCurrentDecayed_ends h
  | .coiMinoffExpire .. => execCoiMinoffExpire_ends h
  | .vboostLevelChange .. => execVboostLevelChange_ends h
  | .canTxRequest .. => execCanTxRequest_ends h
  | .canTxCancel .. => execCanTxCancel_ends h
  | .canTxAttemptStart .. => execCanTxAttemptStart_ends h
  | .canTxAttemptEnd .. => execCanTxAttemptEnd_ends h
  | .canAloneSelfSet .. => execCanAloneSelfSet_ends h
  | .canBoffRecoveryStart .. => execCanBoffRecoveryStart_ends h
  | .canBoffRecovered .. => execCanBoffRecovered_ends h
  | .canRxFrame .. => execCanRxFrame_ends h
  | .canHpWord0Read .. => execCanHpWord0Read_ends h
  | .canHpWord20Read .. => execCanHpWord20Read_ends h
  | .canHpLockRelease .. => execCanHpLockRelease_ends h
  | .canRxfWord0Read .. => execCanRxfWord0Read_ends h
  | .canRxfWord20Read .. => execCanRxfWord20Read_ends h
  | .canTtReferenceSend .. => execCanTtReferenceSend_ends h
  | .canTtWindowMark .. => execCanTtWindowMark_ends h
  | .canTtWindowEnd .. => execCanTtWindowEnd_ends h
  | .canTtRefTimeout .. => execCanTtRefTimeout_ends h
  | .wakModeNormal .. => execWakModeNormal_ends h
  | .wakModeStandby .. => execWakModeStandby_ends h
  | .wakModeSleep .. => execWakModeSleep_ends h
  | .wakSleepCommit .. => execWakSleepCommit_ends h
  | .wakeUpPattern .. => execWakeUpPattern_ends h
  | .selectiveWakeFrame .. => execSelectiveWakeFrame_ends h
  | .frameErrorCounterWake .. => execFrameErrorCounterWake_ends h
  | .wakFailsafeExpire .. => execWakFailsafeExpire_ends h
  | .txdDominantTimeout .. => execTxdDominantTimeout_ends h
  | .xcvrThermal .. => execXcvrThermal_ends h
  | .extCanWake .. => execExtCanWake_ends h
  | .zwkStart .. => execZwkStart_ends h
  | .zwkStop .. => execZwkStop_ends h
  | .coreStopComplete .. => execCoreStopComplete_ends h
  | .zwkImemDataAccess .. => execZwkImemDataAccess_ends h
  | .zwkDmemDataAccess .. => execZwkDmemDataAccess_ends h
  | .zwkDoorbell .. => execZwkDoorbell_ends h
  | .zwkTimerWrite .. => execZwkTimerWrite_ends h
  | .coreTimerExpire .. => execCoreTimerExpire_ends h
  | .zwkRouteWrite .. => execZwkRouteWrite_ends h
  | .waitResume .. => execWaitResume_ends h
  | .remoteCommandComplete .. => execRemoteCommandComplete_ends h
  | .zwPairWord .. => execZwPairWord_ends h
  | .zwNop .. => execZwNop_ends h
  | .zwAdd .. => execZwAdd_ends h
  | .zwAddi .. => execZwAddi_ends h
  | .zwSub .. => execZwSub_ends h
  | .zwAdc .. => execZwAdc_ends h
  | .zwSbc .. => execZwSbc_ends h
  | .zwAnd .. => execZwAnd_ends h
  | .zwAndi .. => execZwAndi_ends h
  | .zwOr .. => execZwOr_ends h
  | .zwOri .. => execZwOri_ends h
  | .zwXor .. => execZwXor_ends h
  | .zwXori .. => execZwXori_ends h
  | .zwShl .. => execZwShl_ends h
  | .zwShli .. => execZwShli_ends h
  | .zwShr .. => execZwShr_ends h
  | .zwShri .. => execZwShri_ends h
  | .zwSar .. => execZwSar_ends h
  | .zwSari .. => execZwSari_ends h
  | .zwCmp .. => execZwCmp_ends h
  | .zwCmpi .. => execZwCmpi_ends h
  | .zwMin .. => execZwMin_ends h
  | .zwMax .. => execZwMax_ends h
  | .zwAbs .. => execZwAbs_ends h
  | .zwNeg .. => execZwNeg_ends h
  | .zwMovi .. => execZwMovi_ends h
  | .zwMovhi .. => execZwMovhi_ends h
  | .zwExt .. => execZwExt_ends h
  | .zwIns .. => execZwIns_ends h
  | .zwClz .. => execZwClz_ends h
  | .zwPopc .. => execZwPopc_ends h
  | .zwMul .. => execZwMul_ends h
  | .zwMulhs .. => execZwMulhs_ends h
  | .zwMulhu .. => execZwMulhu_ends h
  | .zwMac .. => execZwMac_ends h
  | .zwMsu .. => execZwMsu_ends h
  | .zwMovad .. => execZwMovad_ends h
  | .zwMovda .. => execZwMovda_ends h
  | .zwMovai .. => execZwMovai_ends h
  | .zwAddai .. => execZwAddai_ends h
  | .zwAdda .. => execZwAdda_ends h
  | .zwMovsr .. => execZwMovsr_ends h
  | .zwMovrs .. => execZwMovrs_ends h
  | .zwLd .. => execZwLd_ends h
  | .zwSt .. => execZwSt_ends h
  | .zwLdx .. => execZwLdx_ends h
  | .zwStx .. => execZwStx_ends h
  | .zwLdp .. => execZwLdp_ends h
  | .zwStp .. => execZwStp_ends h
  | .zwLda .. => execZwLda_ends h
  | .zwSta .. => execZwSta_ends h
  | .zwBr .. => execZwBr_ends h
  | .zwJr .. => execZwJr_ends h
  | .zwCall .. => execZwCall_ends h
  | .zwCallr .. => execZwCallr_ends h
  | .zwRet .. => execZwRet_ends h
  | .zwLoop .. => execZwLoop_ends h
  | .zwLoopi .. => execZwLoopi_ends h
  | .zwWait .. => execZwWait_ends h
  | .zwWaiti .. => execZwWaiti_ends h
  | .zwPoll .. => execZwPoll_ends h
  | .zwEvclr .. => execZwEvclr_ends h
  | .zwHalt .. => execZwHalt_ends h
  | .zwGet .. => execZwGet_ends h
  | .zwPut .. => execZwPut_ends h
  | .zwPutr .. => execZwPutr_ends h
  | .dkyOpen .. => execDkyOpen_ends h
  | .dkySeal .. => execDkySeal_ends h
  | .dkyAbort .. => execDkyAbort_ends h
  | .dkySealComplete .. => execDkySealComplete_ends h
  | .dkySigSubmit .. => execDkySigSubmit_ends h
  | .dkySigVerified .. => execDkySigVerified_ends h
  | .dkyWindowExpire .. => execDkyWindowExpire_ends h
  | .wakeNPresenceHold .. => execWakeNPresenceHold_ends h
  | .presenceExpire .. => execPresenceExpire_ends h
  | .idnReportRequest .. => execIdnReportRequest_ends h
  | .idnReportReady .. => execIdnReportReady_ends h
  | .identityKeygen .. => execIdentityKeygen_ends h
  | .tokPoll .. => execTokPoll_ends h
  | .tokSelect .. => execTokSelect_ends h
  | .tokAuth1Reply .. => execTokAuth1Reply_ends h
  | .tokAuth2Reply .. => execTokAuth2Reply_ends h
  | .tokReadReply .. => execTokReadReply_ends h
  | .tokReplyTimeout .. => execTokReplyTimeout_ends h
  | .tokPing .. => execTokPing_ends h
  | .tokPingRetry .. => execTokPingRetry_ends h
  | .tokLockoutExpire .. => execTokLockoutExpire_ends h
  | .tokIdleStop .. => execTokIdleStop_ends h
  | .tokPollEnable .. => execTokPollEnable_ends h
  | .tokRelayTimeExpire .. => execTokRelayTimeExpire_ends h
  | .tokFrontendFault .. => execTokFrontendFault_ends h
  | .pwrTargetRun .. => execPwrTargetRun_ends h
  | .pwrTargetIdle .. => execPwrTargetIdle_ends h
  | .pwrTargetSleep .. => execPwrTargetSleep_ends h
  | .pwrTargetDeep .. => execPwrTargetDeep_ends h
  | .pwrTargetOff .. => execPwrTargetOff_ends h
  | .domainDrainComplete .. => execDomainDrainComplete_ends h
  | .domainDrainAbort .. => execDomainDrainAbort_ends h
  | .ladderStateReached .. => execLadderStateReached_ends h
  | .pwrDRequest .. => execPwrDRequest_ends h
  | .domainWakeTimeout .. => execDomainWakeTimeout_ends h
  | .padRelease .. => execPadRelease_ends h
  | .watchRequest .. => execWatchRequest_ends h
  | .watchEntry .. => execWatchEntry_ends h
  | .watchWake .. => execWatchWake_ends h
  | .watchRunReached .. => execWatchRunReached_ends h
  | .wakeNAssert .. => execWakeNAssert_ends h
  | .pcieL1Exit .. => execPcieL1Exit_ends h
  | .budgetTick .. => execBudgetTick_ends h
  | .pmbusPoll .. => execPmbusPoll_ends h
  | .railInvalid .. => execRailInvalid_ends h
  | .thermalTrip .. => execThermalTrip_ends h
  | .faultDetection .. => execFaultDetection_ends h
  | .faultForce .. => execFaultForce_ends h
  | .faultAck .. => execFaultAck_ends h
  | .faultRecordClear .. => execFaultRecordClear_ends h
  | .corrWindow .. => execCorrWindow_ends h
  | .faultGraceExpire .. => execFaultGraceExpire_ends h
  | .escalationRungComplete .. => execEscalationRungComplete_ends h
  | .ladderEndTimeout .. => execLadderEndTimeout_ends h
  | .spareTakeover .. => execSpareTakeover_ends h
  | .domainResetReapply .. => execDomainResetReapply_ends h
  | .deviceReset .. => execDeviceReset_ends h
  | .bistStart .. => execBistStart_ends h
  | .bistPeriodDue .. => execBistPeriodDue_ends h
  | .bistDeferredStart .. => execBistDeferredStart_ends h
  | .bistComplete .. => execBistComplete_ends h
  | .joinStateTaken .. => execJoinStateTaken_ends h
  | .joinTakeover .. => execJoinTakeover_ends h
  | .joinAbort .. => execJoinAbort_ends h
  | .epochRequest .. => execEpochRequest_ends h
  | .epochAutoExpire .. => execEpochAutoExpire_ends h
  | .globalEpochStart .. => execGlobalEpochStart_ends h
  | .globalEpochDurable .. => execGlobalEpochDurable_ends h
  | .globalEpochAonApply .. => execGlobalEpochAonApply_ends h
  | .globalEpochAbort .. => execGlobalEpochAbort_ends h
  | .journalLogRoom .. => execJournalLogRoom_ends h
  | .journalRecordDurable .. => execJournalRecordDurable_ends h
  | .powerFailWarning .. => execPowerFailWarning_ends h
  | .powerFailFlushed .. => execPowerFailFlushed_ends h
  | .powerFailRelease .. => execPowerFailRelease_ends h
  | .porstAssert .. => execPorstAssert_ends h
  | .supplyUndervoltage .. => execSupplyUndervoltage_ends h
  | .startSequence .. => execStartSequence_ends h
  | .serviceReady .. => execServiceReady_ends h
  | .rngReady .. => execRngReady_ends h
  | .rngHealthFail .. => execRngHealthFail_ends h
  | .rngReseed .. => execRngReseed_ends h
  | .rngDataRead .. => execRngDataRead_ends h
  | .updOpen .. => execUpdOpen_ends h
  | .updBlock .. => execUpdBlock_ends h
  | .updBlockDma .. => execUpdBlockDma_ends h
  | .updBlockWritten .. => execUpdBlockWritten_ends h
  | .updVerify .. => execUpdVerify_ends h
  | .updVerifyComplete .. => execUpdVerifyComplete_ends h
  | .updAbort .. => execUpdAbort_ends h
  | .updConfirm .. => execUpdConfirm_ends h
  | .updReverse .. => execUpdReverse_ends h
  | .updRecover .. => execUpdRecover_ends h
  | .activationStandbyReady .. => execActivationStandbyReady_ends h
  | .unitImageSwap .. => execUnitImageSwap_ends h
  | .trialWarn .. => execTrialWarn_ends h
  | .trialTimeout .. => execTrialTimeout_ends h
  | .reverseHandover .. => execReverseHandover_ends h
  | .reverseComplete .. => execReverseComplete_ends h
  | .keeperDebugHalt .. => execKeeperDebugHalt_ends h
  | .vaonPowerUp .. => execVaonPowerUp_ends h
  | .trefInRestored .. => execTrefInRestored_ends h
  | .xcvrThermalRecover .. => execXcvrThermalRecover_ends h
  | .canErrorDetected .. => execCanErrorDetected_ends h
  | .zwReservedLongWord .. => execZwReservedLongWord_ends h

theorem step_ends (h : s.SoundFrom τ) : Ends τ (step s) := by
  cases hp : s.pending with
  | nil =>
    rw [step_of_nil s hp]
    exact .next h.tick
  | cons c rest =>
    rw [step_of_cons c rest s hp]
    have hrest : ({ s with pending := rest } : State).SoundFrom τ := h.frame rfl
    exact exec_ends hrest c

end

/-- Settles O4: every command keeps the invariant at a time no earlier than the present one. -/
theorem everyStepKeepsTheBlockSound : Obligations.EveryStepKeepsTheBlockSound :=
  fun _ t hs ht => (step_ends hs.soundFrom t ht).sound

end Sys2Proof.Machine
end

section
/-! SUPPORT. Event bits and event records, one lemma for each outcome of an operation (R75, R80 to R82, R88, R97, R98, R359). -/

namespace Sys2Proof.Machine

/-! ### Keys -/

theorem rk_ne_off {o o' : Nat} (page : Nat) (h : o ≠ o') : rk page o ≠ rk page o' := by
  unfold rk
  omega

theorem rk_ne_page {p p' : Nat} (o o' : Nat) (h : p ≠ p') (ho : o < 4096 := by decide) (ho' : o' < 4096 := by decide) :
    rk p o ≠ rk p' o' := by
  unfold rk
  omega

/-- A register held for each value of a selector is no register held once (R501). -/
theorem rkSel_ne_rk (page o sel : Nat) {o' : Nat} (h : o' < 4096 := by decide) : rkSel page o sel ≠ rk page o' := by
  unfold rk rkSel
  omega

theorem vimPage_ne_keeperPage (b : Bus) : vimPage ≠ b.keeperPage := by
  simp only [vimPage, Bus.keeperPage, Block.pg, Block.base]
  omega

theorem viPage_ne_keeperPage (b : Bus) (vi : Nat) (h : b.keeper < 2) : viPage vi ≠ b.keeperPage := by
  simp only [viPage, Bus.keeperPage, Block.pg, Block.base]
  omega

theorem viPage_ne_vimPage (vi : Nat) : viPage vi ≠ vimPage := by
  simp only [viPage, vimPage, Block.pg, Block.base]
  omega

/-! ### Routes and pending bits -/

/-- Routes set event bits of workers and nothing else (R358). -/
theorem Bus.fireRoutes_eq (b : Bus) (page evn : Nat) : ∃ e, b.fireRoutes page evn = { b with evt := e } := by
  unfold Bus.fireRoutes
  refine List.foldlRecOn (motive := fun c : Bus => ∃ e, c = { b with evt := e }) _ _ ⟨b.evt, rfl⟩ ?_
  rintro _ ⟨e, rfl⟩ p -
  exact ⟨_, rfl⟩

@[simp] theorem Bus.fireRoutes_out (b : Bus) (page evn : Nat) : (b.fireRoutes page evn).out = b.out := by
  obtain ⟨e, he⟩ := b.fireRoutes_eq page evn
  rw [he]

@[simp] theorem Bus.fireRoutes_seq (b : Bus) (page evn : Nat) : (b.fireRoutes page evn).seq = b.seq := by
  obtain ⟨e, he⟩ := b.fireRoutes_eq page evn
  rw [he]

@[simp] theorem Bus.fireRoutes_kdmem (b : Bus) (page evn : Nat) : (b.fireRoutes page evn).kdmem = b.kdmem := by
  obtain ⟨e, he⟩ := b.fireRoutes_eq page evn
  rw [he]

@[simp] theorem Bus.fireRoutes_netHold (b : Bus) (page evn : Nat) : (b.fireRoutes page evn).netHold = b.netHold := by
  obtain ⟨e, he⟩ := b.fireRoutes_eq page evn
  rw [he]

@[simp] theorem Bus.fireRoutes_keeper (b : Bus) (page evn : Nat) : (b.fireRoutes page evn).keeper = b.keeper := by
  obtain ⟨e, he⟩ := b.fireRoutes_eq page evn
  rw [he]

/-- An occurrence of an event of a page not granted by entry, by its bits in EVT_PEND and EVT_ENABLE (R80). -/
theorem Bus.raise_eq (b : Bus) (page i : Nat) (he : entryGranted page = false) :
    b.raise page i =
      if b.bit (pendKey page) i then b
      else if b.bit (rk page hdrEvtEnable) i then
        ((b.setBit (pendKey page) i true).fireRoutes page (eventNumber page i)).deliver (b.ownerOfPage page) page i
          (eventNumber page i) none
      else (b.setBit (pendKey page) i true).fireRoutes page (eventNumber page i) := by
  have hen : ((b.setBit (pendKey page) i true).fireRoutes page (eventNumber page i)).bit (rk page hdrEvtEnable) i =
      b.bit (rk page hdrEvtEnable) i := by
    have hne : rk page hdrEvtEnable ≠ pendKey page := rk_ne_off page (by decide)
    rw [Bus.bit_eq, Bus.rd_fireRoutes, Bus.rd_setBit_ne _ _ _ _ _ hne, Bus.bit_eq]
  simp only [Bus.raise, Bus.raiseFor, Bus.raiseAt, evKey_page page _ _ he]
  rw [show rk page hdrEvtPend = pendKey page from rfl, hen]
  simp [Bus.deliverAll, List.eraseDups_cons]

/-! ### Records -/

theorem Bus.recordPage_phys_le (b : Bus) (vi page : Nat) (entry : Option Nat) : (b.recordPage vi page entry).2 ≤ 1 := by
  unfold Bus.recordPage
  split
  · exact le_rfl
  · split
    · split <;> simp
    · simp
    · split <;> simp

/-- Word 0 of a record: the event, its bit, the fault flag, PHYS and SEQ (Table 3-5). -/
theorem Bus.record_w0 (b : Bus) (vi page i evn : Nat) (entry : Option Nat) (he : evn < 512) (hi : i < 32) :
    (b.record vi page i evn entry).w0.toNat =
      evn + i * 2 ^ 9 + (if 320 ≤ evn then 2 ^ 14 else 0) + (b.recordPage vi page entry).2 * 2 ^ 15 + b.seq.find 0 vi % 65536 * 2 ^ 16 := by
  have hp := b.recordPage_phys_le vi page entry
  simp only [Bus.record, BitVec.toNat_ofNat, Nat.mod_eq_of_lt hi]
  refine Nat.mod_eq_of_lt ?_
  split <;> omega

theorem Bus.record_fields (b : Bus) (vi page i evn : Nat) (entry : Option Nat) (he : evn < 512) (hi : i < 32) :
    fieldOf 0 9 (b.record vi page i evn entry).w0.toNat = evn ∧ fieldOf 9 5 (b.record vi page i evn entry).w0.toNat = i ∧
    bitOf 14 (b.record vi page i evn entry).w0.toNat = decide (320 ≤ evn) ∧
    fieldOf 16 16 (b.record vi page i evn entry).w0.toNat = b.seq.find 0 vi % 65536 ∧
    (b.record vi page i evn entry).w2 = BitVec.ofNat 32 (stampW1 b.w250) ∧
    (b.record vi page i evn entry).w3 = BitVec.ofNat 32 (stampW0 b.w250) := by
  have hp := b.recordPage_phys_le vi page entry
  rw [b.record_w0 vi page i evn entry he hi]
  simp only [fieldOf, bitOf]
  by_cases hf : 320 ≤ evn
  · simp only [hf, if_true, decide_true, beq_iff_eq]
    refine ⟨?_, ?_, ?_, ?_, rfl, rfl⟩ <;> omega
  · simp only [hf, if_false, decide_false, beq_eq_false_iff_ne]
    refine ⟨?_, ?_, ?_, ?_, rfl, rfl⟩ <;> omega

theorem Bus.stepSeq_seq (b : Bus) (vi : Nat) : (b.stepSeq vi).seq.find 0 vi = (b.seq.find 0 vi + 1) % 65536 := SMap.find_put _ _ _ _

theorem Bus.stepSeq_seq_ne (b : Bus) {vi v : Nat} (h : v ≠ vi) : (b.stepSeq vi).seq.find 0 v = b.seq.find 0 v :=
  SMap.find_put_ne _ _ _ _ _ _ h

/-! ### The queue of the active keeper -/

/-- Whether the active keeper's queue is full: it holds 1024 records (R359). -/
def Bus.keeperFull (b : Bus) : Prop :=
  1024 ≤ (b.rd (rk b.keeperPage R.KPR_EVQ_TAIL) + 2 ^ 32 - b.rd (rk b.keeperPage R.KPR_EVQ_HEAD)) % 2 ^ 32

theorem Bus.keeperPage_congr {b c : Bus} (h : c.keeper = b.keeper) : c.keeperPage = b.keeperPage := congrArg Block.keeper.pg h

theorem Bus.keeperFull_congr {b c : Bus} (hk : c.keeper = b.keeper)
    (ht : c.rd (rk b.keeperPage R.KPR_EVQ_TAIL) = b.rd (rk b.keeperPage R.KPR_EVQ_TAIL))
    (hh : c.rd (rk b.keeperPage R.KPR_EVQ_HEAD) = b.rd (rk b.keeperPage R.KPR_EVQ_HEAD)) : c.keeperFull ↔ b.keeperFull := by
  unfold Bus.keeperFull
  rw [Bus.keeperPage_congr hk, ht, hh]

/-- The address of word `i` of the record at the queue's tail. -/
def Bus.keeperSlot (b : Bus) (i : Nat) : Nat :=
  (b.rd (rk b.keeperPage R.KPR_EVQ_BASE) + 4 * (b.rd (rk b.keeperPage R.KPR_EVQ_TAIL) % 1024) + i) % 131072

theorem Bus.keeperStore_of_full (b : Bus) (r : EvRec) (h : b.keeperFull) :
    b.keeperStore r = ((b.addSat (rk b.keeperPage R.KPR_EVQ_LOST) 1).setBit (rk b.keeperPage R.KPR_STATUS) 4 true, true) :=
  if_pos h

/-- The keeper's memory once the record lies at the queue's tail. -/
def Bus.keeperWrite (b : Bus) (r : EvRec) : SMap Word :=
  (((b.kdmem.put 0 (b.keeperSlot 0) r.w0).put 0 (b.keeperSlot 1) r.w1).put 0 (b.keeperSlot 2) r.w2).put 0 (b.keeperSlot 3) r.w3

theorem Bus.keeperStore_of_room (b : Bus) (r : EvRec) (h : ¬ b.keeperFull) :
    b.keeperStore r =
      ((({ b with kdmem := b.keeperWrite r }).addWrap (rk b.keeperPage R.KPR_EVQ_TAIL) 1).setEvt (96 + b.keeper) 30, false) :=
  if_neg h

theorem Bus.keeperSlot_inj (b : Bus) {i j : Nat} (hi : i < 4) (hj : j < 4) (h : i ≠ j) : b.keeperSlot i ≠ b.keeperSlot j := by
  unfold Bus.keeperSlot
  omega

theorem Bus.keeperWrite_first (b : Bus) (r : EvRec) : (b.keeperWrite r).find 0 (b.keeperSlot 0) = r.w0 := by
  have hne := fun {j} (hj : j < 4) => b.keeperSlot_inj (i := 0) (by decide) hj
  rw [Bus.keeperWrite, SMap.find_put_ne _ _ _ _ _ _ (hne (by decide) (by decide)),
    SMap.find_put_ne _ _ _ _ _ _ (hne (by decide) (by decide)), SMap.find_put_ne _ _ _ _ _ _ (hne (by decide) (by decide)),
    SMap.find_put]

theorem Bus.keeperWrite_last (b : Bus) (r : EvRec) : (b.keeperWrite r).find 0 (b.keeperSlot 3) = r.w3 := SMap.find_put _ _ _ _

@[simp] theorem Bus.keeperStore_out (b : Bus) (r : EvRec) : (b.keeperStore r).1.out = b.out := by
  by_cases h : b.keeperFull
  · rw [b.keeperStore_of_full r h]; rfl
  · rw [b.keeperStore_of_room r h]; rfl

theorem Bus.keeperStore_rd_ne (b : Bus) (r : EvRec) {k : Nat} (hk : ∀ off, off < 4096 → k ≠ rk b.keeperPage off) :
    (b.keeperStore r).1.rd k = b.rd k := by
  by_cases h : b.keeperFull
  · rw [b.keeperStore_of_full r h]
    exact (Bus.rd_setBit_ne _ _ _ _ _ (hk _ (by decide))).trans (b.rd_addSat_ne _ _ _ (hk _ (by decide)))
  · rw [b.keeperStore_of_room r h, Bus.setEvt_rd, Bus.rd_addWrap_ne _ _ _ _ (hk _ (by decide))]
    exact Bus.rd_of_regs rfl k

/-- The mark of a lost record stays until it is cleared (R359). -/
theorem Bus.keeperStore_lost (b : Bus) (r : EvRec) (h : b.bit (rk b.keeperPage R.KPR_STATUS) 4 = true) :
    (b.keeperStore r).1.bit (rk b.keeperPage R.KPR_STATUS) 4 = true := by
  by_cases hf : b.keeperFull
  · rw [b.keeperStore_of_full r hf]
    exact Bus.bit_setBit _ _ _ _ (by decide)
  · have hne : rk b.keeperPage R.KPR_STATUS ≠ rk b.keeperPage R.KPR_EVQ_TAIL := rk_ne_off _ (by decide)
    rw [b.keeperStore_of_room r hf, Bus.bit_eq, Bus.setEvt_rd, Bus.rd_addWrap_ne _ _ _ _ hne]
    exact h

/-! ### The overflow event EV7 of VIM -/

/-- A second occurrence of EV7 changes nothing; the first makes it pending and may send VI 0 a record. -/
theorem Bus.raiseOverflow_cases (b : Bus) :
    (b.bit (pendKey vimPage) 3 = true ∧ b.raiseOverflow = b) ∨
    ∃ c : Bus, (∀ k, c.rd k = (b.setBit (pendKey vimPage) 3 true).rd k) ∧ c.kdmem = b.kdmem ∧ c.out = b.out ∧ c.keeper = b.keeper ∧
      (b.raiseOverflow = c ∨ ∃ r, b.raiseOverflow = (c.keeperStore r).1) := by
  obtain ⟨e, he⟩ := (b.setBit (pendKey vimPage) 3 true).fireRoutes_eq vimPage 7
  have hb : b.raiseOverflow = if b.bit (pendKey vimPage) 3 then b
      else if ({ b.setBit (pendKey vimPage) 3 true with evt := e } : Bus).bit (rk vimPage hdrEvtEnable) 3 then
        (({ b.setBit (pendKey vimPage) 3 true with evt := e } : Bus).stepSeq 0 |>.keeperStore
          (({ b.setBit (pendKey vimPage) 3 true with evt := e } : Bus).record 0 vimPage 3 7 none)).1
      else { b.setBit (pendKey vimPage) 3 true with evt := e } := by
    rw [← he]
    rfl
  split at hb
  · next hp => exact .inl ⟨hp, hb⟩
  · split at hb
    · refine .inr ⟨_, fun k => ?_, ?_, ?_, ?_, .inr ⟨_, hb⟩⟩
      · rw [Bus.stepSeq_rd]
        exact Bus.rd_of_regs rfl k
      all_goals simp [Bus.stepSeq]
    · refine .inr ⟨_, fun k => ?_, ?_, ?_, ?_, .inl hb⟩
      · exact Bus.rd_of_regs rfl k
      all_goals simp

@[simp] theorem Bus.raiseOverflow_out (b : Bus) : b.raiseOverflow.out = b.out := by
  obtain ⟨-, h⟩ | ⟨c, -, -, hout, -, h | ⟨r, h⟩⟩ := b.raiseOverflow_cases <;> rw [h]
  · exact hout
  · rw [Bus.keeperStore_out, hout]

theorem Bus.raiseOverflow_rd_ne (b : Bus) {k : Nat} (hv : k ≠ pendKey vimPage) (hk : ∀ off, off < 4096 → k ≠ rk b.keeperPage off) :
    b.raiseOverflow.rd k = b.rd k := by
  obtain ⟨-, h⟩ | ⟨c, hrd, -, -, hkeeper, h | ⟨r, h⟩⟩ := b.raiseOverflow_cases <;> rw [h]
  · rw [hrd, Bus.rd_setBit_ne _ _ _ _ _ hv]
  · rw [Bus.keeperStore_rd_ne c r (Bus.keeperPage_congr hkeeper ▸ hk), hrd, Bus.rd_setBit_ne _ _ _ _ _ hv]

theorem Bus.raiseOverflow_pend (b : Bus) : b.raiseOverflow.bit (pendKey vimPage) 3 = true := by
  have hset : (b.setBit (pendKey vimPage) 3 true).bit (pendKey vimPage) 3 = true := Bus.bit_setBit _ _ _ _ (by decide)
  obtain ⟨hp, h⟩ | ⟨c, hrd, -, -, -, h | ⟨r, h⟩⟩ := b.raiseOverflow_cases <;> rw [h]
  · exact hp
  · rw [Bus.bit_eq, hrd]
    exact hset
  · have hne : ∀ off, off < 4096 → pendKey vimPage ≠ rk c.keeperPage off :=
      fun off ho => rk_ne_page _ off (vimPage_ne_keeperPage c) (by decide) ho
    rw [Bus.bit_eq, Bus.keeperStore_rd_ne c r hne, hrd]
    exact hset

/-- A queue that is full stays full, so the record of the overflow is lost too. -/
theorem Bus.raiseOverflow_kdmem_of_full (b : Bus) (hf : b.keeperFull) : b.raiseOverflow.kdmem = b.kdmem := by
  obtain ⟨-, h⟩ | ⟨c, hrd, hkd, -, hkeeper, h | ⟨r, h⟩⟩ := b.raiseOverflow_cases <;> rw [h]
  · exact hkd
  · have hne : ∀ off, off < 4096 → rk b.keeperPage off ≠ pendKey vimPage :=
      fun off ho => (rk_ne_page _ off (vimPage_ne_keeperPage b) (by decide) ho).symm
    have hc : ∀ off, off < 4096 → c.rd (rk b.keeperPage off) = b.rd (rk b.keeperPage off) :=
      fun off ho => (hrd _).trans (b.rd_setBit_ne _ _ _ _ (hne off ho))
    have hfull : c.keeperFull := (Bus.keeperFull_congr hkeeper (hc _ (by decide)) (hc _ (by decide))).mpr hf
    rw [c.keeperStore_of_full r hfull]
    exact hkd

theorem Bus.raiseOverflow_lost (b : Bus) (hl : b.bit (rk b.keeperPage R.KPR_STATUS) 4 = true) :
    b.raiseOverflow.bit (rk b.keeperPage R.KPR_STATUS) 4 = true := by
  obtain ⟨-, h⟩ | ⟨c, hrd, -, -, hkeeper, h⟩ := b.raiseOverflow_cases
  · rwa [h]
  · have hne : rk b.keeperPage R.KPR_STATUS ≠ pendKey vimPage := (rk_ne_page _ _ (vimPage_ne_keeperPage b)).symm
    have hc : c.bit (rk b.keeperPage R.KPR_STATUS) 4 = true := by
      rw [Bus.bit_eq, hrd, Bus.rd_setBit_ne _ _ _ _ _ hne]
      exact hl
    obtain h | ⟨r, h⟩ := h <;> rw [h]
    · exact hc
    · rw [← Bus.keeperPage_congr hkeeper] at hc ⊢
      exact c.keeperStore_lost r hc

/-! ### Delivery -/

theorem Bus.toHost_of_deaf (b : Bus) (vi evn : Nat) (r : EvRec) (h : b.pcieReceives vi = false) : b.toHost vi evn r = b := by
  simp [Bus.toHost, h]

/-- Whether the host queue of a PCIe VI is full (R97). -/
def Bus.hostFull (b : Bus) (vi : Nat) : Prop :=
  2 ^ b.fld (rk (viPage vi) R.VI_EVQ_SIZE) 0 5 ≤
    (b.rd (rk (viPage vi) R.VI_EVQ_TAIL) + 2 ^ 32 - b.rd (rk (viPage vi) R.VI_EVQ_HEAD)) % 2 ^ 32

/-- The host address of the record at the tail of the queue of a PCIe VI. -/
def Bus.hostSlot (b : Bus) (vi : Nat) : Nat :=
  b.rd (rk (viPage vi) R.VI_EVQ_BASE_HI) * 2 ^ 32 + b.rd (rk (viPage vi) R.VI_EVQ_BASE_LO) +
    b.rd (rk (viPage vi) R.VI_EVQ_TAIL) % 2 ^ b.fld (rk (viPage vi) R.VI_EVQ_SIZE) 0 5 * 16

/-- The record stands at the tail of the host queue of a PCIe VI, and the tail has moved on. -/
def Bus.hostWrite (b : Bus) (vi : Nat) (r : EvRec) : Bus :=
  ((((b.emit (.hostWord (b.hostSlot vi) r.w0.toNat)).emit (.hostWord (b.hostSlot vi + 4) r.w1.toNat)).emit
    (.hostWord (b.hostSlot vi + 8) r.w2.toNat)).emit (.hostWord (b.hostSlot vi + 12) r.w3.toNat)).addWrap (rk (viPage vi) R.VI_EVQ_TAIL) 1

theorem Bus.hostStore_of_room (b : Bus) (vi : Nat) (r : EvRec) (h : ¬ b.hostFull vi) :
    b.hostStore vi r = (b.hostWrite vi r, true) := if_neg h

theorem Bus.hostStore_of_full (b : Bus) (vi : Nat) (r : EvRec) (h : b.hostFull vi) :
    b.hostStore vi r =
      (((b.addSat (rk (viPage vi) R.VI_EVQ_LOST) 1).setBit (rk (viPage vi) R.VI_STATUS) 3 true).raiseOverflow, false) := if_pos h

theorem Bus.msixFor_of_unmapped (b : Bus) (vi evn : Nat) (h : bitOf 16 (b.rd (rkSel (viPage vi) R.VI_EVMAP_DATA evn)) = false) :
    b.msixFor vi evn = (b, false) := by
  simp [Bus.msixFor, h]

/-- A record that finds room, of an event without a vector, is written and nothing more. -/
theorem Bus.toHost_of_room (b : Bus) (vi evn : Nat) (r : EvRec) (hr : b.pcieReceives vi = true) (hf : ¬ b.hostFull vi)
    (hm : bitOf 16 (b.rd (rkSel (viPage vi) R.VI_EVMAP_DATA evn)) = false) : b.toHost vi evn r = (b.stepSeq vi).hostWrite vi r := by
  have hstore : (b.stepSeq vi).hostStore vi r = _ := (b.stepSeq vi).hostStore_of_room vi r hf
  have hmsix : ((b.stepSeq vi).hostWrite vi r).msixFor vi evn = ((b.stepSeq vi).hostWrite vi r, false) := by
    refine Bus.msixFor_of_unmapped _ vi evn ?_
    rw [Bus.hostWrite, Bus.rd_addWrap_ne _ _ _ _ (rkSel_ne_rk _ _ _)]
    simp only [Bus.emit_rd, Bus.stepSeq_rd]
    exact hm
  simp [Bus.toHost, hr, hstore, hmsix]

theorem Bus.toHost_of_full (b : Bus) (vi evn : Nat) (r : EvRec) (hr : b.pcieReceives vi = true) (hf : b.hostFull vi) :
    b.toHost vi evn r =
      (((b.stepSeq vi).addSat (rk (viPage vi) R.VI_EVQ_LOST) 1).setBit (rk (viPage vi) R.VI_STATUS) 3 true).raiseOverflow := by
  have hstore : (b.stepSeq vi).hostStore vi r = _ := (b.stepSeq vi).hostStore_of_full vi r hf
  simp [Bus.toHost, hr, hstore]

theorem Bus.toKeeper_of_room (b : Bus) (r : EvRec) (h : ¬ b.keeperFull) : b.toKeeper r = ((b.stepSeq 0).keeperStore r).1 := by
  simp [Bus.toKeeper, (b.stepSeq 0).keeperStore_of_room r h]

theorem Bus.toKeeper_of_full (b : Bus) (r : EvRec) (h : b.keeperFull) :
    b.toKeeper r =
      (((b.stepSeq 0).addSat (rk b.keeperPage R.KPR_EVQ_LOST) 1).setBit (rk b.keeperPage R.KPR_STATUS) 4 true).raiseOverflow := by
  have hstore : (b.stepSeq 0).keeperStore r = _ := (b.stepSeq 0).keeperStore_of_full r h
  simp only [Bus.toKeeper, hstore]
  rfl

theorem Bus.toNet_of_session (b : Bus) (vi : Nat) (r : EvRec) (x : Session) (h : b.sessions.find? vi = some x) :
    b.toNet vi r = (b.stepSeq vi).emit (.netEvent vi r.w0.toNat r.w1.toNat r.w2.toNat r.w3.toNat) := by
  have hs : (b.stepSeq vi).sessions.find? vi = some x := h
  simp [Bus.toNet, hs]

theorem Bus.toNet_of_held (b : Bus) (vi : Nat) (r : EvRec) (h : b.sessions.find? vi = none) (hl : (b.netHold.find [] vi).length < 64) :
    b.toNet vi r = { b.stepSeq vi with netHold := b.netHold.put [] vi (b.netHold.find [] vi ++ [r]) } := by
  have hs : (b.stepSeq vi).sessions.find? vi = none := h
  have hh : ((b.stepSeq vi).netHold.find [] vi).length < 64 := hl
  simp only [Bus.toNet, hs, hh, if_true]
  rfl

theorem Bus.hostWrite_out (b : Bus) (vi : Nat) (r : EvRec) : (b.hostWrite vi r).out =
    .hostWord (b.hostSlot vi + 12) r.w3.toNat :: .hostWord (b.hostSlot vi + 8) r.w2.toNat :: .hostWord (b.hostSlot vi + 4) r.w1.toNat ::
      .hostWord (b.hostSlot vi) r.w0.toNat :: b.out := by
  simp [Bus.hostWrite]

theorem Bus.hostWrite_tail (b : Bus) (vi : Nat) (r : EvRec) :
    (b.hostWrite vi r).rd (rk (viPage vi) R.VI_EVQ_TAIL) = (b.rd (rk (viPage vi) R.VI_EVQ_TAIL) + 1) % 2 ^ 32 := by
  simp only [Bus.hostWrite, Bus.rd_addWrap, Bus.emit_rd]

theorem Bus.hostWrite_seq (b : Bus) (vi : Nat) (r : EvRec) : (b.hostWrite vi r).seq = b.seq := by
  simp [Bus.hostWrite]

/-- What a PCIe VI sees of a record that its full queue loses: the count, the mark and the queue as it was (R97). -/
theorem Bus.toHost_lost (b : Bus) (vi evn : Nat) (r : EvRec) (hk : b.keeper < 2) (hr : b.pcieReceives vi = true) (hf : b.hostFull vi) :
    (b.toHost vi evn r).out = b.out ∧ (b.toHost vi evn r).bit (rk (viPage vi) R.VI_STATUS) 3 = true ∧
    (b.toHost vi evn r).bit (pendKey vimPage) 3 = true ∧
    (b.toHost vi evn r).rd (rk (viPage vi) R.VI_EVQ_LOST) = min (b.rd (rk (viPage vi) R.VI_EVQ_LOST) + 1) 0xFFFFFFFF ∧
    (b.toHost vi evn r).rd (rk (viPage vi) R.VI_EVQ_TAIL) = b.rd (rk (viPage vi) R.VI_EVQ_TAIL) := by
  have hrd : ∀ off, off < 4096 → (b.toHost vi evn r).rd (rk (viPage vi) off) =
      (((b.stepSeq vi).addSat (rk (viPage vi) R.VI_EVQ_LOST) 1).setBit (rk (viPage vi) R.VI_STATUS) 3 true).rd (rk (viPage vi) off) := by
    intro off ho
    rw [b.toHost_of_full vi evn r hr hf]
    exact Bus.raiseOverflow_rd_ne _ (rk_ne_page _ _ (viPage_ne_vimPage vi) ho)
      fun off' ho' => rk_ne_page _ _ (viPage_ne_keeperPage _ vi hk) ho ho'
  have hne : ∀ off, off ≠ R.VI_STATUS → rk (viPage vi) off ≠ rk (viPage vi) R.VI_STATUS := fun _ => rk_ne_off _
  refine ⟨?_, ?_, ?_, ?_, ?_⟩
  · rw [b.toHost_of_full vi evn r hr hf, Bus.raiseOverflow_out]
    rfl
  · rw [Bus.bit_eq, hrd _ (by decide)]
    exact Bus.bit_setBit _ _ _ _ (by decide)
  · rw [b.toHost_of_full vi evn r hr hf]
    exact Bus.raiseOverflow_pend _
  · rw [hrd _ (by decide), Bus.rd_setBit_ne _ _ _ _ _ (hne _ (by decide)), Bus.rd_addSat, Bus.stepSeq_rd]
    norm_num
  · rw [hrd _ (by decide), Bus.rd_setBit_ne _ _ _ _ _ (hne _ (by decide)), Bus.rd_addSat_ne _ _ _ _ (rk_ne_off _ (by decide)),
      Bus.stepSeq_rd]

/-- A record that the active keeper's queue takes (R359). -/
theorem Bus.toKeeper_written (b : Bus) (r : EvRec) (hf : ¬ b.keeperFull) :
    (b.toKeeper r).rd (rk b.keeperPage R.KPR_EVQ_TAIL) = (b.rd (rk b.keeperPage R.KPR_EVQ_TAIL) + 1) % 2 ^ 32 ∧
    (b.toKeeper r).kdmem.find 0 (b.keeperSlot 0) = r.w0 ∧ (b.toKeeper r).kdmem.find 0 (b.keeperSlot 3) = r.w3 ∧
    ((b.toKeeper r).evt.find 0 (96 + b.keeper)).getLsbD 30 = true := by
  have hs : (b.toKeeper r) = _ := (b.toKeeper_of_room r hf).trans (congrArg Prod.fst ((b.stepSeq 0).keeperStore_of_room r hf))
  rw [hs]
  refine ⟨?_, b.keeperWrite_first r, b.keeperWrite_last r, ?_⟩
  · rw [Bus.setEvt_rd]
    exact (Bus.rd_addWrap _ _ _).trans (congrArg (fun n => (n + 1) % 2 ^ 32) (Bus.rd_of_regs rfl _))
  · simp [Bus.setEvt, Bus.stepSeq]

/-- A record that the active keeper's full queue loses (R359). -/
theorem Bus.toKeeper_lost (b : Bus) (r : EvRec) (hf : b.keeperFull) :
    (b.toKeeper r).kdmem = b.kdmem ∧ (b.toKeeper r).bit (rk b.keeperPage R.KPR_STATUS) 4 = true ∧
      (b.toKeeper r).bit (pendKey vimPage) 3 = true := by
  have hne : ∀ off, off ≠ R.KPR_STATUS → off ≠ R.KPR_EVQ_LOST →
      (((b.stepSeq 0).addSat (rk b.keeperPage R.KPR_EVQ_LOST) 1).setBit (rk b.keeperPage R.KPR_STATUS) 4 true).rd (rk b.keeperPage off) =
        b.rd (rk b.keeperPage off) := by
    intro off h1 h2
    rw [Bus.rd_setBit_ne _ _ _ _ _ (rk_ne_off _ h1), Bus.rd_addSat_ne _ _ _ _ (rk_ne_off _ h2), Bus.stepSeq_rd]
  have hfull : (((b.stepSeq 0).addSat (rk b.keeperPage R.KPR_EVQ_LOST) 1).setBit (rk b.keeperPage R.KPR_STATUS) 4 true).keeperFull := by
    refine (Bus.keeperFull_congr ?_ (hne _ (by decide) (by decide)) (hne _ (by decide) (by decide))).mpr hf
    simp [Bus.stepSeq]
  rw [b.toKeeper_of_full r hf]
  exact ⟨Bus.raiseOverflow_kdmem_of_full _ hfull, Bus.raiseOverflow_lost _ (Bus.bit_setBit _ _ _ _ (by decide)), Bus.raiseOverflow_pend _⟩

/-- The vector of a mapped event: an MSI-X message, no earlier than now, or a configuration error beyond VI_VEC_COUNT (R97). -/
theorem Bus.msixFor_of_mapped (b : Bus) (vi evn : Nat) (hm : bitOf 16 (b.rd (rkSel (viPage vi) R.VI_EVMAP_DATA evn)) = true) :
    b.msixFor vi evn =
      if fieldOf 0 11 (b.rd (rkSel (viPage vi) R.VI_EVMAP_DATA evn)) < b.rd (rk (viPage vi) R.VI_VEC_COUNT) then
        (b.sendMsix vi (fieldOf 0 11 (b.rd (rkSel (viPage vi) R.VI_EVMAP_DATA evn))), false)
      else (b, true) :=
  if_pos hm

theorem Bus.sendMsix_out (b : Bus) (vi vec : Nat) :
    ∃ m, (b.sendMsix vi vec).out = .msix (b.rd (rk (viPage vi) R.VI_VEC_BASE) + vec) m :: b.out ∧ b.now ≤ m := by
  refine ⟨_, rfl, ?_⟩
  split
  · exact le_max_left _ _
  · exact le_rfl

/-- Settles O6: an occurrence by its two bits, a record field by field, and one lemma for each way and outcome of a delivery. -/
theorem eventsPendAndTheirRecordsAreDelivered : Obligations.EventsPendAndTheirRecordsAreDelivered := by
  refine ⟨?_, ?_, ?_, ?_, ?_, Bus.toHost_of_deaf, ?_, ?_, ?_, Bus.toNet_of_session, ?_, ?_, ?_⟩
  · intro b page i he hp
    rw [b.raise_eq page i he, if_pos hp]
  · intro b page i he hi hp hen
    rw [b.raise_eq page i he, hp, hen]
    refine ⟨?_, ?_, ?_, ?_, ?_⟩
    · rw [if_neg Bool.false_ne_true, if_neg Bool.false_ne_true, Bus.bit_eq, Bus.rd_fireRoutes]
      exact Bus.bit_setBit _ _ _ _ hi
    all_goals simp
  · intro b page i he _ hp hen _
    simp [b.raise_eq page i he, hp, hen]
  · exact fun b vi page i evn entry he hi => b.record_fields vi page i evn entry he hi
  · exact fun b vi => ⟨b.stepSeq_seq vi, fun v hv => b.stepSeq_seq_ne hv⟩
  · rintro b vi evn _ _ _ _ r - - hr rfl rfl rfl hroom rfl hm
    rw [b.toHost_of_room vi evn r hr (not_le.mpr hroom) hm]
    refine ⟨Bus.hostWrite_out _ _ _, (Bus.hostWrite_tail _ _ _).trans (by rw [Bus.stepSeq_rd]), ?_⟩
    rw [Bus.hostWrite_seq, Bus.stepSeq_seq]
  · rintro b vi evn _ hm rfl
    rw [b.msixFor_of_mapped vi evn hm]
    refine ⟨fun hlt => ?_, fun hle => if_neg (not_lt.mpr hle)⟩
    rw [if_pos hlt]
    exact ⟨rfl, b.sendMsix_out vi _⟩
  · intro b vi evn r _ _ hb hr hf
    exact b.toHost_lost vi evn r hb.2 hr hf
  · intro b vi r hs hl
    rw [b.toNet_of_held vi r hs hl]
    exact ⟨SMap.find_put _ _ _ _, rfl, rfl⟩
  · rintro b r _ _ _ _ - rfl rfl rfl rfl
    exact ⟨fun h => b.toKeeper_written r (not_le.mpr h), b.toKeeper_lost r⟩
  · intro b page he
    simp only [Bus.cfgErr, Bus.cfgErrFor, evKey_page page _ _ he]
    exact ⟨fun h => if_pos h, fun h => if_neg (by simp [h])⟩

end Sys2Proof.Machine
end

section
/-! SUPPORT. Posted register writes, by outcome (R83 to R85, R91, R92, Table 3-8). -/

namespace Sys2Proof.Machine

section
variable {s : State} {vi addr value : Nat} {sp : Spot} (hsp : s.bus.resolve vi addr = some sp) (hacc : sp.acc ≠ 0)
include hsp hacc

theorem State.writeReg_of_late (hup : s.bus.pageUp sp.page = false) : (s.writeReg vi addr value).1 = s.on (·.late vi) := by
  simp [State.writeReg, hsp, hacc, hup]

theorem State.writeReg_of_denied (hup : s.bus.pageUp sp.page = true) (hd : s.bus.deniesWrite sp vi = true) :
    (s.writeReg vi addr value).1 = s.on (·.denied) := by
  simp [State.writeReg, hsp, hacc, hup, hd]

theorem State.writeReg_of_accepted (hup : s.bus.pageUp sp.page = true) (hd : s.bus.deniesWrite sp vi = false) :
    (s.writeReg vi addr value).1 = s.post ⟨vi, sp.postKey, value % 2 ^ 32⟩ := by
  simp [State.writeReg, hsp, hacc, hup, hd]

end

theorem State.writeReg_of_nothing {s : State} {vi addr value : Nat} (h : s.bus.resolve vi addr = none) :
    (s.writeReg vi addr value).1 = s := by
  simp [State.writeReg, h]

theorem State.post_of_room (s : State) (w : Posted) (hh : s.page.held.find [] w.vi = [])
    (hl : (s.page.posted.find [] (clkDomain (keyPage w.key))).length < 64) :
    s.post w = { s with page := { s.page with
      posted := s.page.posted.put [] (clkDomain (keyPage w.key)) (s.page.posted.find [] (clkDomain (keyPage w.key)) ++ [w]) } } := by
  simp [State.post, hh, hl]

theorem State.post_of_full (s : State) (w : Posted) (hl : 64 ≤ (s.page.posted.find [] (clkDomain (keyPage w.key))).length) :
    s.post w = { s with page := { s.page with held := s.page.held.put [] w.vi (s.page.held.find [] w.vi ++ [w]) } } := by
  simp [State.post, not_lt.mpr hl]

theorem admitHeld_of_nil (p : PageState) (h : p.held.cells = []) : admitHeld p = p := by
  simp [admitHeld, h]

theorem State.postedNext_of_nil (s : State) (c : Nat) (h : s.page.posted.find [] c = []) : s.postedNext c = s := by
  simp [State.postedNext, h]

theorem State.postedNext_of_cons (s : State) (c : Nat) (w : Posted) (rest : List Posted) (h : s.page.posted.find [] c = w :: rest)
    (hh : s.page.held.cells = []) :
    s.postedNext c = ({ s with page := { s.page with posted := s.page.posted.put [] c rest } } : State).postedEffect w := by
  have hp := admitHeld_of_nil { s.page with posted := s.page.posted.put [] c rest } hh
  simp only [State.postedNext, h, hp]

theorem exec_registerWrite (dt vi addr value : Nat) (s : State) :
    exec (.registerWrite dt vi addr value) s = .next ((s.tick dt).writeReg vi addr value).1 := rfl

theorem exec_postedWriteEffect (dt c : Nat) (s : State) : exec (.postedWriteEffect dt c) s = .next ((s.tick dt).postedNext c) := rfl

/-- A read that times out on a page whose domains run (R84, R85). -/
theorem exec_pageReadTimeout_of_stuck (dt vi addr : Nat) (s : State) (sp : Spot) (hsp : s.bus.resolve vi addr = some sp) (hacc : sp.acc ≠ 0)
    (hh : (pageDoms sp.page).any s.bus.halted.contains = false) :
    exec (.pageReadTimeout dt vi addr) s =
      .next (((s.tick dt).fault 16 { page := sp.page, addr := addr % 2 ^ 26, vi := some vi }).emit (.readData vi 0xFFFFFFFF)) := by
  have hsp' : (s.tick dt).bus.resolve vi addr = some sp := hsp
  have hh' : (pageDoms sp.page).any (s.tick dt).bus.halted.contains = false := hh
  have hruns : ¬ (sp.acc = 0 ∨ (pageDoms sp.page).any (s.tick dt).bus.halted.contains = true) := by
    rw [hh']
    simp [hacc]
  show execPageReadTimeout dt vi addr s = _
  simp only [execPageReadTimeout]
  rw [hsp']
  exact congrArg _ (if_neg hruns)

/-- Settles O11: one lemma for each outcome of a write, and the two cases of a queue. -/
theorem registerWritesArePostedLateDeniedOrIgnored : Obligations.RegisterWritesArePostedLateDeniedOrIgnored := by
  refine ⟨?_, ?_, ?_, ?_, ?_, ?_, ?_, ?_⟩
  · rintro dt vi addr value _ s sp hsp hacc hup hd hh rfl hl
    rw [exec_registerWrite, State.writeReg_of_accepted (s := s.tick dt) hsp hacc hup hd,
      State.post_of_room (s.tick dt) ⟨vi, sp.postKey, value % 2 ^ 32⟩ hh hl]
    exact ⟨_, rfl, SMap.find_put _ _ _ _, fun d hne => SMap.find_put_ne _ _ _ _ _ _ hne, rfl, rfl⟩
  · rintro dt vi addr value _ s sp hsp hacc hup hd rfl hl
    rw [exec_registerWrite, State.writeReg_of_accepted (s := s.tick dt) hsp hacc hup hd,
      State.post_of_full (s.tick dt) ⟨vi, sp.postKey, value % 2 ^ 32⟩ hl]
    exact ⟨_, rfl, rfl, SMap.find_put _ _ _ _, rfl⟩
  · intro dt vi addr value s h
    rw [exec_registerWrite, State.writeReg_of_nothing (s := s.tick dt) h]
  · intro dt vi addr value s sp hsp hacc hup
    rw [exec_registerWrite, State.writeReg_of_late (s := s.tick dt) hsp hacc hup]
  · intro dt vi addr value s sp hsp hacc hup hd
    rw [exec_registerWrite, State.writeReg_of_denied (s := s.tick dt) hsp hacc hup hd]
  · intro dt c s w rest h hh
    rw [exec_postedWriteEffect, (s.tick dt).postedNext_of_cons c w rest h hh]
    exact ⟨_, rfl, SMap.find_put _ _ _ _, rfl⟩
  · intro dt c s h
    rw [exec_postedWriteEffect, (s.tick dt).postedNext_of_nil c h]
  · exact fun dt vi addr s sp hsp hacc hh => exec_pageReadTimeout_of_stuck dt vi addr s sp hsp hacc hh

end Sys2Proof.Machine
end

section
/-! SUPPORT. The soft reset of a page (R73) on a register table that names a register twice. -/

namespace Sys2Proof.Machine

/-- The device at reset, but for a register table that names RNG offset 0x40, a read-only register, twice: reads find the value 1, and a
soft reset, which goes through the table in order, writes back 1 and then 2. Tables of sound states name no register twice. -/
def rngNamedTwice : State :=
  { State.reset with bus := { State.reset.bus with regs := ⟨[(rk (Block.rng.pg 0) 0x40, 1), (rk (Block.rng.pg 0) 0x40, 2)]⟩ } }

/-- Refutes O12: the statement asks of every state, sound or not, that a soft reset of the RNG page leave its read-only registers; from
`rngNamedTwice` VI 0's soft reset turns the one at 0x40 from 1 to 2. -/
theorem not_pagesAndTheirEventBitsAreCommanded : ¬ Obligations.PagesAndTheirEventBitsAreCommanded := by
  rintro ⟨hsrst, -⟩
  obtain ⟨t, ht, -, -, hreg, -⟩ := hsrst 0 0 rngNamedTwice rfl (by decide) (by decide)
  have hrd := hreg 0x40 _ (by decide) (by decide) rfl
  obtain rfl := Host.Outcome.next.inj ht
  revert hrd
  decide

end Sys2Proof.Machine
end

section
/-! SUPPORT. Function-level resets, network sessions and their messages (R87 to R89, R383, R500). -/

namespace Sys2Proof.Machine

/-! ### Function-level resets -/

theorem SMap.findIn_filter_key {α : Type} (p : Nat → Bool) (l : List (Nat × α)) (k : Nat) :
    SMap.findIn (l.filter fun x => p x.1) k = if p k then SMap.findIn l k else none := by
  induction l with
  | nil => simp [SMap.findIn]
  | cons x l ih =>
    obtain ⟨j, v⟩ := x
    by_cases hj : j = k
    · subst hj
      cases hp : p j <;> simp [SMap.findIn, hp, ih]
    · cases hp : p j <;> simp [SMap.findIn, hp, hj, ih]

/-- Whether a function-level reset of VI `v` leaves a register (R87, R500). -/
def flrKeeps (v k : Nat) : Bool := decide (keyPage k ≠ viPage v) || decide (keyOff k = R.VI_VEC_BASE) || decide (keyOff k = R.VI_VEC_COUNT)

theorem State.rd_flr (s : State) (v k : Nat) : (s.flr v).rd k = if flrKeeps v k then s.rd k else resetNat k % 2 ^ 32 := by
  show ((SMap.findIn (s.bus.regs.cells.filter fun p => flrKeeps v p.1) k).getD (resetWord k)).toNat = _
  rw [SMap.findIn_filter_key]
  cases flrKeeps v k
  · exact BitVec.toNat_ofNat _ _
  · rfl

theorem flrKeeps_of_page (v k : Nat) (h : keyPage k ≠ viPage v) : flrKeeps v k = true := by
  simp [flrKeeps, h]

theorem flrKeeps_vi (v off : Nat) (hv : v < 1024) (ho : off < 4096) (hb : off ≠ R.VI_VEC_BASE) (hc : off ≠ R.VI_VEC_COUNT) :
    flrKeeps v (rk (viPage v) off) = false := by
  have hp : viPage v < 2 ^ 14 := by
    simp only [viPage, Block.pg, Block.base]
    omega
  simp [flrKeeps, keyPage_rk _ off hp ho, keyOff_rk _ off ho, hb, hc]

theorem exec_pcieFlr_of_vf (dt v : Nat) (s : State) (h1 : v ≠ 1) :
    exec (.pcieFlr dt v) s = .next (if s.bus.enabledVfs.contains v then (s.tick dt).flrOne v else s.tick dt) :=
  congrArg _ (if_neg h1)

/-! ### Sessions -/

/-- The books of VI `v`'s session: the sessions, their count in VIM_SESSIONS and the flag in VI_STATUS. -/
def State.bookSession (s : State) (v n : Nat) (up : Bool) (m : SMap Session) (q : SMap (List EvRec)) : State :=
  ((s.on fun b => { b with sessions := m, netHold := q }).wr (rk vimPage R.VIM_SESSIONS) n).setBit (rk (viPage v) R.VI_STATUS) 2 up

section
variable (s : State) (v n : Nat) (up : Bool) (m : SMap Session) (q : SMap (List EvRec))

theorem State.bookSession_sessions : (s.bookSession v n up m q).bus.sessions = m := rfl

theorem State.bookSession_out : (s.bookSession v n up m q).bus.out = s.bus.out := rfl

theorem State.bookSession_rd_ne {k : Nat} (h1 : k ≠ rk vimPage R.VIM_SESSIONS) (h2 : k ≠ rk (viPage v) R.VI_STATUS) :
    (s.bookSession v n up m q).rd k = s.rd k :=
  (Bus.rd_setBit_ne _ _ _ _ _ h2).trans ((Bus.rd_wr_ne _ _ _ _ h1).trans (Bus.rd_of_regs rfl k))

theorem State.bookSession_count : (s.bookSession v n up m q).rd (rk vimPage R.VIM_SESSIONS) = n % 2 ^ 32 :=
  (Bus.rd_setBit_ne _ _ _ _ _ (rk_ne_page _ _ (viPage_ne_vimPage v).symm)).trans (Bus.rd_wr _ _ _)

end

theorem State.openSession_of_nothing_held (s : State) (v : Nat) (enrol : Bool) (h : s.bus.netHold.find [] v = []) :
    s.openSession v enrol = (s.bookSession v (s.rd (rk vimPage R.VIM_SESSIONS) + 1) true (s.bus.sessions.set v ⟨s.bus.now, enrol⟩)
      (s.bus.netHold.erase v)).raise vimPage 0 := by
  simp only [State.openSession, h]
  rfl

theorem State.closeSession_of_some (s : State) (v : Nat) (x : Session) (h : s.bus.sessions.find? v = some x) :
    s.closeSession v = ((s.bookSession v (s.rd (rk vimPage R.VIM_SESSIONS) - 1) false (s.bus.sessions.erase v) s.bus.netHold).emit
      (.netClosed v)).raise vimPage 0 := by
  simp only [State.closeSession, h]
  rfl

theorem State.closeSession_of_none (s : State) (v : Nat) (h : s.bus.sessions.find? v = none) : s.closeSession v = s := by
  simp only [State.closeSession, h]

theorem exec_netSessionOpen_of_client (dt digest v : Nat) (s : State) (ht : s.tlsReady = true) (hb : s.bound = true)
    (hc : s.bus.clientVi digest = some v) (hs : s.bus.sessions.find? v = none) :
    exec (.netSessionOpen dt digest) s = .next ((s.tick dt).openSession v false) := by
  have ht' : (s.tick dt).tlsReady = true := ht
  have hb' : (s.tick dt).bound = true := hb
  have hc' : (s.tick dt).bus.clientVi digest = some v := hc
  show execNetSessionOpen dt digest s = _
  simp only [execNetSessionOpen, ht', hb', hc', (s.tick dt).closeSession_of_none v hs]
  rfl

theorem exec_netSessionOpen_of_not_ready (dt digest : Nat) (s : State) (ht : s.tlsReady = false) :
    exec (.netSessionOpen dt digest) s = .next (s.tick dt) := by
  have ht' : (s.tick dt).tlsReady = false := ht
  show execNetSessionOpen dt digest s = _
  simp only [execNetSessionOpen, ht']
  rfl

theorem exec_netSessionClose_of_some (dt v : Nat) (s : State) (x : Session) (hs : s.bus.sessions.find? v = some x) :
    exec (.netSessionClose dt v) s =
      .next (((((s.tick dt).bookSession v (s.rd (rk vimPage R.VIM_SESSIONS) - 1) false (s.bus.sessions.erase v) s.bus.netHold).emit
        (.netClosed v)).raise vimPage 0)) :=
  congrArg Host.Outcome.next ((s.tick dt).closeSession_of_some v x hs)

/-- A session idle for VIM_NET_CTRL.IDLE seconds closes (R88). -/
theorem exec_netSessionIdleClose (dt v : Nat) (s : State) (x : Session) (hs : s.bus.sessions.find? v = some x) :
    exec (.netSessionIdleClose dt v) s =
      .next (if x.lastRx + clkS (s.fld (rk vimPage R.VIM_NET_CTRL) 16 8) ≤ s.bus.now + dt then (s.tick dt).closeSession v
        else s.tick dt) := by
  have hs' : (s.tick dt).bus.sessions.find? v = some x := hs
  show execNetSessionIdleClose dt v s = _
  simp only [execNetSessionIdleClose]
  rw [hs']
  rfl

/-! ### Messages -/

/-- VI `v`'s session `x` has received something now. -/
def State.heard (s : State) (v : Nat) (x : Session) : State :=
  s.on fun b => { b with sessions := b.sessions.set v { x with lastRx := b.now } }

theorem State.message_of_malformed (s : State) (v tag count addr : Nat) (f : State → State) (x : Session)
    (hs : s.bus.sessions.find? v = some x) (hm : count = 0 ∨ 256 < count ∨ addr % 4 ≠ 0 ∨ 2 ^ 26 < addr + 4 * count) :
    s.message v tag count addr f = (s.heard v x).emit (.netResp v tag 4 []) := by
  simp only [State.message, hs]
  exact if_pos hm

theorem exec_netRead_of_malformed (dt v tag count addr : Nat) (s : State) (x : Session) (hs : s.bus.sessions.find? v = some x)
    (hm : count = 0 ∨ 256 < count ∨ addr % 4 ≠ 0 ∨ 2 ^ 26 < addr + 4 * count) :
    exec (.netRead dt v tag count addr) s = .next (((s.tick dt).heard v x).emit (.netResp v tag 4 [])) :=
  congrArg Host.Outcome.next ((s.tick dt).message_of_malformed v tag count addr _ x hs hm)

theorem State.message_of_word (s : State) (v tag addr : Nat) (f : State → State) (x : Session) (hs : s.bus.sessions.find? v = some x)
    (ha : addr % 4 = 0) (hl : addr + 4 ≤ 2 ^ 26) : s.message v tag 1 addr f = f (s.heard v x) := by
  simp only [State.message, hs]
  exact if_neg (by omega)

theorem firstFail_zero (a : Nat) : firstFail a 0 = a := by
  unfold firstFail
  split <;> simp_all

theorem State.after_of_init (s : State) (v page : Nat) (h : s.page = PageState.init) : s.after v page = s := by
  simp [State.after, h, PageState.init, SMap.find, SMap.find?, SMap.findIn, SMap.empty]

theorem State.readWords_one (s : State) (v req addr : Nat) (h : s.page = PageState.init) :
    s.readWords v req [addr] = ((s.readReg v req addr).1, [(s.readReg v req addr).2.1], (s.readReg v req addr).2.2) := by
  simp only [State.readWords, s.after_of_init v _ h, firstFail_zero]

theorem State.writeWords_one (s : State) (v addr value : Nat) : s.writeWords v [(addr, value)] = s.writeReg v addr value := by
  simp only [State.writeWords, firstFail_zero]

theorem exec_netRead_one (dt v tag addr : Nat) (s : State) (x : Session) (hp : s.page = PageState.init)
    (hs : s.bus.sessions.find? v = some x) (ha : addr % 4 = 0) (hl : addr + 4 ≤ 2 ^ 26) :
    exec (.netRead dt v tag 1 addr) s = .next (((((s.tick dt).heard v x).readReg v v addr).1.emit
      (.netResp v tag (((s.tick dt).heard v x).readReg v v addr).2.2 [(((s.tick dt).heard v x).readReg v v addr).2.1]))) := by
  have hone : (List.range 1).map (fun i => addr + 4 * i) = [addr] := rfl
  show execNetRead dt v tag 1 addr s = _
  rw [execNetRead, (s.tick dt).message_of_word v tag addr _ x hs ha hl, hone, ((s.tick dt).heard v x).readWords_one v v addr hp]

theorem exec_netWrite_one (dt v tag addr value : Nat) (s : State) (x : Session) (hs : s.bus.sessions.find? v = some x) (ha : addr % 4 = 0)
    (hl : addr + 4 ≤ 2 ^ 26) :
    exec (.netWrite dt v tag addr [value]) s = .next ((((s.tick dt).heard v x).writeReg v addr value).1.emit
      (.netResp v tag (((s.tick dt).heard v x).writeReg v addr value).2 [])) := by
  have hone : (List.range [value].length).map (fun i => (addr + 4 * i, [value].getD i 0)) = [(addr, value)] := rfl
  show execNetWrite dt v tag addr [value] s = _
  rw [execNetWrite, List.length_singleton, (s.tick dt).message_of_word v tag addr _ x hs ha hl]
  rw [List.length_singleton] at hone
  rw [hone, State.writeWords_one]

/-- Settles O13: what a reset keeps of the register table, and the books of a session as it opens and closes. -/
theorem functionsResetAndSessionsCarryMessages : Obligations.FunctionsResetAndSessionsCarryMessages := by
  refine ⟨?_, ?_, ?_, ?_, ?_, ?_, ?_, ?_, ?_, ?_, ?_⟩
  · intro dt v s h1 hv hmem
    refine ⟨(s.tick dt).flr v, ?_, SMap.find_erase _ _ _, SMap.find?_erase _ _, fun off ho hb hc => ?_, fun k hk => ?_⟩
    · rw [exec_pcieFlr_of_vf dt v s h1, if_pos (List.contains_iff_mem.mpr hmem)]
      rfl
    · rw [State.rd_flr, flrKeeps_vi v off hv ho hb hc, if_neg Bool.false_ne_true]
    · rw [State.rd_flr, flrKeeps_of_page v k hk, if_pos rfl]
      rfl
  · intro dt v s h1 hmem
    rw [exec_pcieFlr_of_vf dt v s h1, if_neg (mt List.contains_iff_mem.mp hmem)]
  · exact fun dt s => ⟨_, rfl, rfl, rfl⟩
  · intro dt digest v s ht hb hc hs hq
    rw [exec_netSessionOpen_of_client dt digest v s ht hb hc hs, (s.tick dt).openSession_of_nothing_held v false hq]
    refine ⟨_, rfl, ?_, fun y hy => ?_, State.bookSession_count _ _ _ _ _ _, fun k h1 h2 => State.bookSession_rd_ne _ _ _ _ _ _ h1 h2⟩
    · rw [State.bookSession_sessions, SMap.find?_set]
      rfl
    · rw [State.bookSession_sessions, SMap.find?_set_ne _ _ _ _ hy]
      rfl
  · exact exec_netSessionOpen_of_not_ready
  · intro dt v s x hs
    rw [exec_netSessionClose_of_some dt v s x hs]
    refine ⟨_, rfl, SMap.find?_erase _ _, fun y hy => SMap.find?_erase_ne _ _ _ hy, rfl, ?_⟩
    have hlt := lt_of_le_of_lt (Nat.sub_le _ 1) (s.bus.rd_lt (rk vimPage R.VIM_SESSIONS))
    rw [State.rd_eq, State.emit_bus, Bus.emit_rd, ← State.rd_eq, State.bookSession_count]
    exact Nat.mod_eq_of_lt hlt
  · intro dt v s x hs hidle
    rw [exec_netSessionIdleClose dt v s x hs, if_pos hidle]
  · intro dt v s x hs hidle
    rw [exec_netSessionIdleClose dt v s x hs, if_neg (not_le.mpr hidle)]
  · intro dt v tag count addr s x hs hm
    rw [exec_netRead_of_malformed dt v tag count addr s x hs hm]
    exact ⟨_, rfl, rfl, SMap.find?_set _ _ _, fun k => Bus.rd_of_regs rfl k⟩
  · exact fun dt v tag addr s x hp hs ha hl => ⟨_, rfl, exec_netRead_one dt v tag addr s x hp hs ha hl⟩
  · exact fun dt v tag addr value s x hs ha hl => ⟨_, rfl, exec_netWrite_one dt v tag addr value s x hs ha hl⟩

end Sys2Proof.Machine
end

section
/-! SUPPORT. Registers of the state after a bit, a field or a count was written, and the registers of a data port (Table 4-6). -/

namespace Sys2Proof.Machine

/-! ### Registers -/

theorem State.rd_addSat (s : State) (k n : Nat) : (s.addSat k n).rd k = min (s.rd k + n) 0xFFFFFFFF := s.bus.rd_addSat k n

theorem State.fld_setFld (s : State) (k lo w v : Nat) (h : lo + w ≤ 32) : (s.setFld k lo w v).fld k lo w = v % 2 ^ w :=
  s.bus.fld_setFld k lo w v h

theorem State.fld_setFld_of_disjoint (s : State) (k lo w v lo' w' : Nat) (h : lo + w ≤ 32) (hd : lo' + w' ≤ lo ∨ lo + w ≤ lo') :
    (s.setFld k lo w v).fld k lo' w' = s.fld k lo' w' := by
  show fieldOf lo' w' ((s.bus.setFld k lo w v).rd k) = fieldOf lo' w' (s.bus.rd k)
  rw [s.bus.rd_setFld k lo w v h, fieldOf_setFieldOf_of_disjoint lo' w' lo w v _ hd]

theorem State.bit_setFld_of_disjoint (s : State) (k lo w v i : Nat) (h : lo + w ≤ 32) (hd : i < lo ∨ lo + w ≤ i) :
    (s.setFld k lo w v).bit k i = s.bit k i := by
  show bitOf i ((s.bus.setFld k lo w v).rd k) = bitOf i (s.bus.rd k)
  rw [s.bus.rd_setFld k lo w v h, bitOf_setFieldOf_of_disjoint i lo w v _ hd]

/-- A bit of another register leaves the fields of a register. -/
theorem State.fld_setBit_ne (s : State) (k i : Nat) (v : Bool) (j lo w : Nat) (h : j ≠ k) :
    (s.setBit k i v).fld j lo w = s.fld j lo w :=
  congrArg (fieldOf lo w) (s.rd_setBit_ne k i v j h)

theorem State.rd_emit (s : State) (o : Out) (k : Nat) : (s.emit o).rd k = s.rd k := rfl

theorem State.bit_emit (s : State) (o : Out) (k i : Nat) : (s.emit o).bit k i = s.bit k i := rfl

/-- Stopping timers writes no register. -/
theorem State.fld_foldl_disarm (t : Nat → Nat) (l : List Nat) (s : State) (k lo w : Nat) :
    (l.foldl (fun a c => a.disarm (t c)) s).fld k lo w = s.fld k lo w := by
  induction l generalizing s with
  | nil => rfl
  | cons c l ih => exact ih (s.disarm (t c))

/-- A counter that counts changes nothing but itself. -/
theorem State.after_addSat (s : State) (k n : Nat) : s.After (s.addSat k n) [k] :=
  (State.After.refl _ _).addSat _ _ (List.mem_singleton_self _)

/-! ### Pages of the data ports -/

/-- No block granted by entry has a page among those of the data ports (Table 3-4). -/
theorem blockTable_entry_apart_prt : ∀ r ∈ blockTable, (match r.grant with | .entry _ _ _ => true | _ => false) = true →
    r.page + r.pages ≤ Block.prt.base ∨ Block.prt.base + 512 ≤ r.page := by
  decide

section
variable {p : Nat} (hp : p < 512)
include hp

theorem entryGranted_prtPage : entryGranted (prtPage p) = false := by
  have hpage : prtPage p = Block.prt.base + p := rfl
  have haside : asidePage (prtPage p) = false := by
    simp only [asidePage, hpage, bstAside, Block.base, Bool.and_eq_false_iff, decide_eq_false_iff_not]
    omega
  unfold entryGranted rowOfPage
  rw [haside, if_neg Bool.false_ne_true]
  split
  · next r hr =>
    have hin := List.find?_some hr
    simp only [Bool.and_eq_true, decide_eq_true_eq] at hin
    rw [← Bool.not_eq_true]
    intro hg
    have happ := blockTable_entry_apart_prt r (List.mem_of_find?_eq_some hr) hg
    omega
  · rfl

theorem reportKey_prtKey {off : Nat} (ho : off < 4096 := by decide) : reportKey (prtKey p off) = false := by
  have hpage : prtPage p = 0x1000 + p := rfl
  exact reportKey_rk (prtPage p) off (by omega) ho ⟨by omega, by omega, by omega⟩

variable {s t : State} {ks : List Nat}

/-- An occurrence of an event of a data port keeps the frame of reporting. -/
theorem State.After.raisePrt (h : s.After t ks) (hr : s.bus.Ranged) (i : Nat) (hk : pendKey (prtPage p) ∈ ks) :
    s.After (t.raise (prtPage p) i) ks :=
  h.raise hr (prtPage p) i (entryGranted_prtPage hp) hk

theorem State.pend_raisePrt (hr : s.bus.Ranged) (i : Nat) (hi : i < 32) : (s.raise (prtPage p) i).pend (prtPage p) i = true :=
  s.pend_raise hr (prtPage p) i hi (entryGranted_prtPage hp) (reportKey_prtKey hp)

theorem State.rd_raisePrt (hr : s.bus.Ranged) (i : Nat) {off : Nat} (hne : off ≠ hdrEvtPend := by decide)
    (ho : off < 4096 := by decide) : (s.raise (prtPage p) i).rd (prtKey p off) = s.rd (prtKey p off) :=
  s.rd_raise hr (prtPage p) i (prtKey p off) (entryGranted_prtPage hp) (rk_ne_off _ hne) (reportKey_prtKey hp ho)

end

end Sys2Proof.Machine
end

section
/-! SUPPORT. The commands of the management ports and of a data port's link and pauses, by outcome (R101, R102, R105 to R107, R125, R126,
R150, R410). -/

namespace Sys2Proof.Machine

/-! ### MDIO (R125) -/

theorem vimKey_mdio_ne_status : vimKey R.MGT_MDIO ≠ vimKey R.MGT_STATUS := by decide

/-- A frame that an owner of VIM starts is on the bus, and MDIO_BUSY is set. -/
theorem exec_mdioFrameStart_of_owner (dt vi value : Nat) (s : State) (ha : s.bus.pageAccess vimPage vi = 2)
    (hu : s.bus.pageUp vimPage = true) : exec (.mdioFrameStart dt vi value) s =
      .next ((((s.tick dt).wr (vimKey R.MGT_MDIO) (value % 2 ^ 32)).setBit (vimKey R.MGT_STATUS) 2 true).emit (.mdio (value % 2 ^ 32))) :=
  congrArg _ ((s.tick dt).guardWrite_owner vi vimPage _ ha hu)

theorem mdioFrameStart_writes (dt vi value : Nat) (s : State) (ha : s.bus.pageAccess vimPage vi = 2)
    (hu : s.bus.pageUp vimPage = true) :
    ∃ t, exec (.mdioFrameStart dt vi value) s = .next t ∧ t.rd (vimKey R.MGT_MDIO) = value % 2 ^ 32 ∧
      t.bit (vimKey R.MGT_STATUS) 2 = true ∧ t.bus.out = .mdio (value % 2 ^ 32) :: s.bus.out ∧
      (s.tick dt).After t [vimKey R.MGT_MDIO, vimKey R.MGT_STATUS] := by
  refine ⟨_, exec_mdioFrameStart_of_owner dt vi value s ha hu, ?_, ?_, rfl, ?_⟩
  · rw [State.rd_emit, State.rd_setBit_ne _ _ _ _ _ vimKey_mdio_ne_status, State.rd_wr, Nat.mod_mod]
  · rw [State.bit_emit, State.bit_setBit _ _ 2 _ (by decide)]
  · exact (((State.After.refl _ _).wr _ _ (by simp)).setBit _ _ _ (by simp)).emit _

/-- The read data of a frame that reads stand in MGT_MDIO. -/
def State.mdioData (s : State) (data : Nat) : State :=
  if mdioReads (s.rd (vimKey R.MGT_MDIO)) then s.setFld (vimKey R.MGT_MDIO) 16 16 data else s

theorem State.mdioData_high (s : State) (data : Nat) : (s.mdioData data).fld (vimKey R.MGT_MDIO) 16 16 =
    if mdioReads (s.rd (vimKey R.MGT_MDIO)) then data % 2 ^ 16 else s.fld (vimKey R.MGT_MDIO) 16 16 := by
  unfold State.mdioData
  split
  · exact s.fld_setFld _ 16 16 data (by decide)
  · rfl

theorem State.mdioData_low (s : State) (data : Nat) :
    (s.mdioData data).fld (vimKey R.MGT_MDIO) 0 16 = s.fld (vimKey R.MGT_MDIO) 0 16 := by
  unfold State.mdioData
  split
  · exact s.fld_setFld_of_disjoint _ 16 16 data 0 16 (by decide) (by decide)
  · rfl

theorem State.after_mdioData (s : State) (data : Nat) {ks : List Nat} (hk : vimKey R.MGT_MDIO ∈ ks) : s.After (s.mdioData data) ks := by
  unfold State.mdioData
  split
  · exact (State.After.refl _ _).setFld _ _ _ _ hk
  · exact State.After.refl _ _

theorem exec_mdioFrameComplete_of_busy (dt data : Nat) (s : State) (h : s.bit (vimKey R.MGT_STATUS) 2 = true) :
    exec (.mdioFrameComplete dt data) s = .next (((s.tick dt).mdioData data).setBit (vimKey R.MGT_STATUS) 2 false) :=
  congrArg _ (if_pos h)

theorem mdioFrameComplete_stores (dt data : Nat) (s : State) (h : s.bit (vimKey R.MGT_STATUS) 2 = true) :
    ∃ t, exec (.mdioFrameComplete dt data) s = .next t ∧ t.bit (vimKey R.MGT_STATUS) 2 = false ∧
      t.fld (vimKey R.MGT_MDIO) 16 16 = (if mdioReads (s.rd (vimKey R.MGT_MDIO)) then data % 2 ^ 16 else s.fld (vimKey R.MGT_MDIO) 16 16) ∧
      t.fld (vimKey R.MGT_MDIO) 0 16 = s.fld (vimKey R.MGT_MDIO) 0 16 ∧
      (s.tick dt).After t [vimKey R.MGT_MDIO, vimKey R.MGT_STATUS] :=
  ⟨_, exec_mdioFrameComplete_of_busy dt data s h, State.bit_setBit _ _ _ _ (by decide),
    (State.fld_setBit_ne _ _ _ _ _ _ _ vimKey_mdio_ne_status).trans ((s.tick dt).mdioData_high data),
    (State.fld_setBit_ne _ _ _ _ _ _ _ vimKey_mdio_ne_status).trans ((s.tick dt).mdioData_low data),
    ((s.tick dt).after_mdioData data (by simp)).setBit _ _ _ (by simp)⟩

/-! ### Management ports (R107, R126, R410) -/

theorem exec_mgtLinkChange_of_ne (dt m : Nat) (up : Bool) (s : State) (hm : m < 2) (h : s.bit (vimKey R.MGT_STATUS) m ≠ up) :
    exec (.mgtLinkChange dt m up) s = .next (((s.tick dt).setBit (vimKey R.MGT_STATUS) m up).raise vimPage 6) :=
  congrArg _ (if_pos ⟨hm, h⟩)

theorem exec_mgtEnergyWake_of_lt (dt m : Nat) (s : State) (hm : m < 2) :
    exec (.mgtEnergyWake dt m) s = .next ((s.tick dt).wake 3) :=
  congrArg _ (if_pos hm)

section
variable (dt m : Nat) (frame : List Byte) (s : State) (hm : m < 2) (hen : s.bit (vimKey R.MGT_CTRL) m = true)
  (hup : s.bit (vimKey R.MGT_STATUS) m = true)
include hm hen hup

theorem exec_mgtFrameRx_of_accepted (h : s.mgtAccepts m frame = true) :
    exec (.mgtFrameRx dt m frame) s = .next ((s.tick dt).emit (.keeperFrame (512 + m) frame)) :=
  congrArg _ ((if_pos ⟨hm, hen, hup⟩).trans (if_pos h))

theorem exec_mgtFrameRx_of_refused (h : s.mgtAccepts m frame = false) :
    exec (.mgtFrameRx dt m frame) s = .next ((s.tick dt).addSat (vimKey R.MGT_DROPS) 1) :=
  congrArg _ ((if_pos ⟨hm, hen, hup⟩).trans (if_neg (h.trans_ne Bool.false_ne_true)))

theorem mgtFrameRx_counts_refused (h : s.mgtAccepts m frame = false) :
    ∃ t, exec (.mgtFrameRx dt m frame) s = .next t ∧
      t.rd (vimKey R.MGT_DROPS) = min (s.rd (vimKey R.MGT_DROPS) + 1) 0xFFFFFFFF ∧ t.bus.out = s.bus.out ∧
      (s.tick dt).After t [vimKey R.MGT_DROPS] :=
  ⟨_, exec_mgtFrameRx_of_refused dt m frame s hm hen hup h, (s.tick dt).rd_addSat _ 1, rfl, (s.tick dt).after_addSat _ 1⟩

end

/-! ### The link of a data port (R101, R102, R126, R150) -/

theorem speedCode_lt (rate : Nat) : speedCode rate < 2 ^ 3 := by
  unfold speedCode
  split <;> decide

/-- PRT_STATUS of a port whose link came up: LINK, the FEC flag and SPEED (Table 4-6). -/
def State.linkStatus (s : State) (p : Nat) : State :=
  ((s.setBit (prtKey p R.PRT_STATUS) 0 true).setBit (prtKey p R.PRT_STATUS) 1
    (decide (s.fld (prtKey p R.PRT_CTRL) 0 2 < 2) && s.bit (prtKey p R.PRT_CTRL) 2)).setFld
      (prtKey p R.PRT_STATUS) 4 3 (speedCode (s.portRate p))

theorem State.linkStatus_link (s : State) (p : Nat) : (s.linkStatus p).bit (prtKey p R.PRT_STATUS) 0 = true := by
  unfold State.linkStatus
  rw [State.bit_setFld_of_disjoint _ _ 4 3 _ 0 (by decide) (by decide), State.bit_setBit_ne _ _ 1 _ 0 (by decide) (by decide),
    State.bit_setBit _ _ 0 _ (by decide)]

theorem State.linkStatus_speed (s : State) (p : Nat) :
    (s.linkStatus p).fld (prtKey p R.PRT_STATUS) 4 3 = speedCode (s.portRate p) :=
  (State.fld_setFld _ _ 4 3 _ (by decide)).trans (Nat.mod_eq_of_lt (speedCode_lt _))

theorem State.after_linkStatus (s : State) (p : Nat) {ks : List Nat} (hk : prtKey p R.PRT_STATUS ∈ ks) : s.After (s.linkStatus p) ks :=
  (((State.After.refl _ _).setBit _ _ _ hk).setBit _ _ _ hk).setFld _ _ _ _ hk

section
variable (dt p : Nat) (s : State) (hp : p < 512)
include hp

theorem exec_linkUp_of_ready (hen : s.bit (prtKey p hdrPageStatus) 0 = true) (hact : s.bit (prtKey p R.PRT_STATUS) 3 = true)
    (hdown : s.bit (prtKey p R.PRT_STATUS) 0 = false) (hdom : s.bus.domUp (laneDom p) = true) :
    exec (.linkUp dt p) s = .next (((s.tick dt).linkStatus p).raise (prtPage p) 0) :=
  congrArg _ (if_pos ⟨hp, hen, hact, hdown, hdom⟩)

theorem linkUp_reports (hr : s.bus.Ranged) (hen : s.bit (prtKey p hdrPageStatus) 0 = true)
    (hact : s.bit (prtKey p R.PRT_STATUS) 3 = true) (hdown : s.bit (prtKey p R.PRT_STATUS) 0 = false)
    (hdom : s.bus.domUp (laneDom p) = true) :
    ∃ t, exec (.linkUp dt p) s = .next t ∧ t.bit (prtKey p R.PRT_STATUS) 0 = true ∧
      t.fld (prtKey p R.PRT_STATUS) 4 3 = speedCode (s.portRate p) ∧ t.pend (prtPage p) 0 = true ∧
      (s.tick dt).After t [prtKey p R.PRT_STATUS, pendKey (prtPage p)] := by
  have hr' : ((s.tick dt).linkStatus p).bus.Ranged := hr
  have hrd := State.rd_raisePrt hp hr' 0 (off := R.PRT_STATUS)
  refine ⟨_, exec_linkUp_of_ready dt p s hp hen hact hdown hdom, ?_, ?_, State.pend_raisePrt hp hr' 0 (by decide), ?_⟩
  · exact (congrArg (bitOf 0) hrd).trans ((s.tick dt).linkStatus_link p)
  · exact (congrArg (fieldOf 4 3) hrd).trans ((s.tick dt).linkStatus_speed p)
  · exact ((s.tick dt).after_linkStatus p (by simp)).raisePrt hp hr 0 (by simp)

theorem exec_anTrainingFail_of_active (hen : s.bit (prtKey p hdrPageStatus) 0 = true) (hact : s.bit (prtKey p R.PRT_STATUS) 3 = true) :
    exec (.anTrainingFail dt p) s = .next ((s.tick dt).raise (prtPage p) 4) :=
  congrArg _ (if_pos ⟨hp, hen, hact⟩)

theorem exec_linkDown_of_lt : exec (.linkDown dt p) s = .next ((s.tick dt).linkDown p) := congrArg _ (if_pos hp)

theorem exec_serdesFailure_of_lt :
    exec (.serdesFailure dt p) s = .next (((s.tick dt).fault 32 { page := prtPage p }).linkDown p) :=
  congrArg _ (if_pos hp)

end

theorem State.linkDown_of_down (s : State) (p : Nat) (h : s.bit (prtKey p R.PRT_STATUS) 0 = false) : s.linkDown p = s :=
  if_neg (h.trans_ne Bool.false_ne_true)

/-- PRT_STATUS of a port whose link went down, and EV161. -/
def State.linkLost (s : State) (p : Nat) : State :=
  (((s.setBit (prtKey p R.PRT_STATUS) 0 false).setBit (prtKey p R.PRT_STATUS) 1 false).setFld (prtKey p R.PRT_STATUS) 4 3 0).raise
    (prtPage p) 1

/-- The link is lost and the port holds nothing more: its wells are flushed and the copies on their way to it die (R150). -/
def State.linkCleared (s : State) (p : Nat) : State :=
  ((s.linkLost p).flushPort p).killLegs (fun c _ => decide (c.dest = .port p))

/-- A link that does not carry the PTP timebase goes down: the port is cleared and its pauses end (R150). -/
theorem State.linkDown_of_up (s : State) (p : Nat) (h : s.bit (prtKey p R.PRT_STATUS) 0 = true)
    (hptp : (s.linkCleared p).fld (timKey R.TIM_PTP_CTRL) 8 10 ≠ p) :
    s.linkDown p = (List.range 7).foldl (fun a c => a.disarm (tPfc p c)) (s.linkCleared p) := by
  have hfld := State.fld_foldl_disarm (tPfc p) (List.range 7) (s.linkCleared p) (timKey R.TIM_PTP_CTRL) 8 10
  exact (if_pos h).trans (if_neg (hfld.trans_ne hptp))

theorem exec_linkDown_of_down (dt p : Nat) (s : State) (h : s.bit (prtKey p R.PRT_STATUS) 0 = false) :
    exec (.linkDown dt p) s = .next (s.tick dt) := by
  refine congrArg Host.Outcome.next ?_
  have hdown : (s.tick dt).linkDown p = s.tick dt := State.linkDown_of_down _ p h
  rw [hdown, ite_self]

/-! ### FEC windows (R102) -/

section
variable (dt p symbols codewords : Nat) (s : State) (hp : p < 512) (hup : s.bit (prtKey p R.PRT_STATUS) 0 = true)
include hp hup

theorem exec_fecDegWindow_of_degraded (h : s.fld (prtKey p R.PRT_FEC_DEG) 0 24 < symbols) :
    exec (.fecDegWindow dt p symbols codewords) s =
      .next ((((s.tick dt).addSat (prtKey p R.PRT_FEC_CORR) codewords).setBit (prtKey p R.PRT_STATUS) 2 true).raise (prtPage p) 2) :=
  congrArg _ ((if_pos ⟨hp, hup⟩).trans (if_pos h))

theorem exec_fecDegWindow_of_good (h : symbols ≤ s.fld (prtKey p R.PRT_FEC_DEG) 0 24) :
    exec (.fecDegWindow dt p symbols codewords) s =
      .next (((s.tick dt).addSat (prtKey p R.PRT_FEC_CORR) codewords).setBit (prtKey p R.PRT_STATUS) 2 false) :=
  congrArg _ ((if_pos ⟨hp, hup⟩).trans (if_neg (not_lt.mpr h)))

theorem fecDegWindow_marks_degraded (hr : s.bus.Ranged) (h : s.fld (prtKey p R.PRT_FEC_DEG) 0 24 < symbols) :
    ∃ t, exec (.fecDegWindow dt p symbols codewords) s = .next t ∧ t.bit (prtKey p R.PRT_STATUS) 2 = true ∧
      t.rd (prtKey p R.PRT_FEC_CORR) = min (s.rd (prtKey p R.PRT_FEC_CORR) + codewords) 0xFFFFFFFF ∧ t.pend (prtPage p) 2 = true ∧
      (s.tick dt).After t [prtKey p R.PRT_STATUS, prtKey p R.PRT_FEC_CORR, pendKey (prtPage p)] := by
  have hne : prtKey p R.PRT_FEC_CORR ≠ prtKey p R.PRT_STATUS := rk_ne_off _ (by decide)
  have hr' : (((s.tick dt).addSat (prtKey p R.PRT_FEC_CORR) codewords).setBit (prtKey p R.PRT_STATUS) 2 true).bus.Ranged := hr
  refine ⟨_, exec_fecDegWindow_of_degraded dt p symbols codewords s hp hup h, ?_, ?_, State.pend_raisePrt hp hr' 2 (by decide), ?_⟩
  · exact (congrArg (bitOf 2) (State.rd_raisePrt hp hr' 2 (off := R.PRT_STATUS))).trans (State.bit_setBit _ _ 2 _ (by decide))
  · rw [State.rd_raisePrt hp hr' 2, State.rd_setBit_ne _ _ _ _ _ hne]
    exact (s.tick dt).rd_addSat _ codewords
  · exact (((State.After.refl (s.tick dt) _).addSat _ _ (by simp)).setBit _ _ _ (by simp)).raisePrt hp hr 2 (by simp)

theorem fecDegWindow_clears_degraded (h : symbols ≤ s.fld (prtKey p R.PRT_FEC_DEG) 0 24) :
    ∃ t, exec (.fecDegWindow dt p symbols codewords) s = .next t ∧ t.bit (prtKey p R.PRT_STATUS) 2 = false ∧
      (s.tick dt).After t [prtKey p R.PRT_STATUS, prtKey p R.PRT_FEC_CORR] :=
  ⟨_, exec_fecDegWindow_of_good dt p symbols codewords s hp hup h, State.bit_setBit _ _ 2 _ (by decide),
    ((State.After.refl _ _).addSat _ _ (by simp)).setBit _ _ _ (by simp)⟩

end

/-! ### Pauses (R105, R106) -/

@[simp] theorem Bus.running_disarm (b : Bus) (t : Nat) : (b.disarm t).running t = false := by
  simp [Bus.running, Bus.disarm]

theorem exec_pfcPauseExpire_of_due (dt p c : Nat) (s : State) (h : (s.tick dt).due (tPfc p c) = true) :
    exec (.pfcPauseExpire dt p c) s = .next ((s.tick dt).disarm (tPfc p c)) :=
  congrArg _ ((s.tick dt).onExpiry_due (tPfc p c) _ h)

/-- A port that is up asks for a pause of the classes requested of it that TX_EN admits, and starts the half of it (R105). -/
theorem State.sendXoff_of_up (s : State) (p : Nat) (hready : s.serviceReady = true) (hup : s.portUp p = true)
    (hmask : s.fab.pfcReq.find 0 p &&& s.fld (prtKey p R.PRT_PFC) 8 7 ≠ 0) :
    s.sendXoff p = (s.sendFrame p (pfcFrame (s.portMac p) (s.fab.pfcReq.find 0 p &&& s.fld (prtKey p R.PRT_PFC) 8 7)
      (s.fld (prtKey p R.PRT_PFC) 16 16))).arm (tXoff p) (s.quantaClk p (s.fld (prtKey p R.PRT_PFC) 16 16) / 2) := by
  refine if_neg ?_
  rw [hready, hup]
  simp [hmask]

theorem exec_pfcXoffRefresh_of_due (dt p : Nat) (s : State) (h : (s.tick dt).due (tXoff p) = true) :
    exec (.pfcXoffRefresh dt p) s = .next (((s.tick dt).disarm (tXoff p)).sendXoff p) :=
  congrArg _ ((s.tick dt).onExpiry_due (tXoff p) _ h)

/-- Settles O14: one lemma for each command and outcome; the frames of LINK_UP and of the FEC windows rest on no port page being
granted by entry. -/
theorem portsTerminateFramesLinkAndPause : Obligations.PortsTerminateFramesLinkAndPause := by
  refine ⟨mdioFrameStart_writes, mdioFrameComplete_stores, exec_mgtLinkChange_of_ne,
    exec_mgtFrameRx_of_accepted, mgtFrameRx_counts_refused, exec_mgtEnergyWake_of_lt, ?linkUp, exec_anTrainingFail_of_active,
    exec_linkDown_of_down, ?linkDown, exec_serdesFailure_of_lt, ?degraded, fecDegWindow_clears_degraded, ?pauseEnd, ?xoff⟩
  case linkUp => exact fun dt p s hr hp => linkUp_reports dt p s hp hr
  case linkDown =>
    refine fun dt p s hp hup => ⟨_, _, rfl, rfl, fun hptp => ?_⟩
    rw [exec_linkDown_of_lt dt p s hp]
    exact congrArg _ ((s.tick dt).linkDown_of_up p hup hptp)
  case degraded => exact fun dt p symbols codewords s hr hp hup => fecDegWindow_marks_degraded dt p symbols codewords s hp hup hr
  case pauseEnd => exact fun dt p c s h => ⟨_, exec_pfcPauseExpire_of_due dt p c s h, Bus.running_disarm _ _, rfl⟩
  case xoff =>
    rintro dt p _ s hdue hready hup rfl hmask
    rw [exec_pfcXoffRefresh_of_due dt p s hdue]
    exact congrArg _ (State.sendXoff_of_up ((s.tick dt).disarm (tXoff p)) p hready hup hmask)

end Sys2Proof.Machine
end

section
/-! SUPPORT. FRAME_RX by outcome, and the ingress order (R102, R103, R108, R122, Table 4-3). -/

namespace Sys2Proof.Machine

theorem exec_frameRx_of_down (dt p : Nat) (f : RxFrame) (s : State) (h : s.portUp p = false) :
    exec (.frameRx dt p f) s = .next (s.tick dt) :=
  congrArg _ (if_neg fun hc => Bool.false_ne_true (h.symm.trans hc.2))

/-! ### Discarded frames (R102, R103) -/

section
variable (dt p : Nat) (f : RxFrame) (s : State) (hp : p < 512) (hup : s.portUp p = true)
include hp hup

/-- A frame that the FEC could not correct, of which nothing was forwarded yet. -/
theorem exec_frameRx_of_uncorrectable (hfec : f.fecOk = false) (hb : f.begun = false) :
    exec (.frameRx dt p f) s = .next (((s.tick dt).addSat (prtKey p R.PRT_FEC_UNCORR) 1).raise (prtPage p) 3) := by
  have hup' : (s.tick dt).portUp p = true := hup
  show execFrameRx dt p f s = _
  simp [execFrameRx, hp, hup', hfec, hb]

section
variable (hfec : f.fecOk = true)
include hfec

theorem exec_frameRx_of_runt (hlen : frameLen f.bytes < 64) :
    exec (.frameRx dt p f) s = .next ((s.tick dt).addSat (prtKey p R.PRT_RUNT) 1) := by
  have hup' : (s.tick dt).portUp p = true := hup
  show execFrameRx dt p f s = _
  simp [execFrameRx, hp, hup', hfec, hlen]

theorem exec_frameRx_of_oversize (hlen : 64 ≤ frameLen f.bytes) (hb : f.begun = false)
    (hmtu : s.fld (prtKey p R.PRT_MTU) 0 14 < frameLen f.bytes) :
    exec (.frameRx dt p f) s = .next ((s.tick dt).addSat (prtKey p R.PRT_OVERSIZE) 1) := by
  have hup' : (s.tick dt).portUp p = true := hup
  have hmtu' : (s.tick dt).fld (prtKey p R.PRT_MTU) 0 14 < frameLen f.bytes := hmtu
  show execFrameRx dt p f s = _
  simp [execFrameRx, hp, hup', hfec, not_lt.mpr hlen, hb, hmtu']

theorem exec_frameRx_of_badFcs (hlen : 64 ≤ frameLen f.bytes) (hb : f.begun = false)
    (hmtu : frameLen f.bytes ≤ s.fld (prtKey p R.PRT_MTU) 0 14) (hfcs : f.fcsOk = false) :
    exec (.frameRx dt p f) s = .next ((s.tick dt).addSat (prtKey p R.PRT_FCS_ERR) 1) := by
  have hup' : (s.tick dt).portUp p = true := hup
  have hmtu' : ¬ (s.tick dt).fld (prtKey p R.PRT_MTU) 0 14 < frameLen f.bytes := not_lt.mpr hmtu
  show execFrameRx dt p f s = _
  simp [execFrameRx, hp, hup', hfec, not_lt.mpr hlen, hmtu', hb, hfcs]

/-- A frame that passes every check is counted and goes through the ingress order. -/
theorem exec_frameRx_of_good (hfcs : f.fcsOk = true) (hlen : 64 ≤ frameLen f.bytes)
    (hmtu : frameLen f.bytes ≤ s.fld (prtKey p R.PRT_MTU) 0 14) :
    exec (.frameRx dt p f) s = .next ((((s.tick dt).add64 (prtKey p R.PRT_RX_FRAMES_LO) 1).add64 (prtKey p R.PRT_RX_BYTES_LO)
      (frameLen f.bytes)).ingress p f.bytes) := by
  have hup' : (s.tick dt).portUp p = true := hup
  have hmtu' : ¬ (s.tick dt).fld (prtKey p R.PRT_MTU) 0 14 < frameLen f.bytes := not_lt.mpr hmtu
  show execFrameRx dt p f s = _
  simp [execFrameRx, hp, hup', hfec, not_lt.mpr hlen, hmtu', hfcs]

end

/-- An uncorrectable frame is counted, and EV163 is pending. -/
theorem frameRx_reports_uncorrectable (hr : s.bus.Ranged) (hfec : f.fecOk = false) (hb : f.begun = false) :
    ∃ t, exec (.frameRx dt p f) s = .next t ∧ t.rd (prtKey p R.PRT_FEC_UNCORR) = min (s.rd (prtKey p R.PRT_FEC_UNCORR) + 1) 0xFFFFFFFF ∧
      t.pend (prtPage p) 3 = true ∧ (s.tick dt).After t [prtKey p R.PRT_FEC_UNCORR, pendKey (prtPage p)] := by
  have hr' : ((s.tick dt).addSat (prtKey p R.PRT_FEC_UNCORR) 1).bus.Ranged := hr
  refine ⟨_, exec_frameRx_of_uncorrectable dt p f s hp hup hfec hb, ?_, State.pend_raisePrt hp hr' 3 (by decide), ?_⟩
  · exact (State.rd_raisePrt hp hr' 3).trans ((s.tick dt).rd_addSat _ 1)
  · exact ((State.After.refl (s.tick dt) _).addSat _ _ (by simp)).raisePrt hp hr 3 (by simp)

end

/-- What a discard that is only counted leaves: its counter, saturating, and nothing else. -/
theorem counted_of_exec {c : Instr} {dt : Nat} {s : State} {k : Nat} (h : exec c s = .next ((s.tick dt).addSat k 1)) :
    ∃ t, exec c s = .next t ∧ t.rd k = min (s.rd k + 1) 0xFFFFFFFF ∧ (s.tick dt).After t [k] :=
  ⟨_, h, (s.tick dt).rd_addSat k 1, (s.tick dt).after_addSat k 1⟩

/-! ### The ingress order (R108) -/

/-- Once the device is ready for service, a MAC control frame is taken at the first step (R106). -/
theorem State.classify_macControl (p : Nat) (l : List Byte) (s : State) (hready : s.serviceReady = true)
    (hdst : (parseFrame l).dst = 0x0180C2000001) (het : (parseFrame l).etype = 0x8808) : s.classify p l = .pfc := by
  simp [State.classify, hready, hdst, het]

/-- Settles O15: one lemma for each outcome of FRAME_RX; a step of the ingress order by what `State.classify` found. -/
theorem framesAreCheckedInOrder : Obligations.FramesAreCheckedInOrder := by
  refine ⟨?runt, ?oversize, ?badFcs, ?uncorrectable, exec_frameRx_of_good, exec_frameRx_of_down, State.classify_macControl,
    ?bootDrop, ?vlanDrop, ?reserved⟩
  case runt => exact fun dt p f s hp hup hfec hlen => counted_of_exec (exec_frameRx_of_runt dt p f s hp hup hfec hlen)
  case oversize =>
    exact fun dt p f s hp hup hfec hlen hb hmtu => counted_of_exec (exec_frameRx_of_oversize dt p f s hp hup hfec hlen hb hmtu)
  case badFcs =>
    exact fun dt p f s hp hup hfec hlen hb hmtu hfcs =>
      counted_of_exec (exec_frameRx_of_badFcs dt p f s hp hup hfec hlen hb hmtu hfcs)
  case uncorrectable => exact fun dt p f s hr hp hup => frameRx_reports_uncorrectable dt p f s hp hup hr
  all_goals
    intro p l s h
    simp only [State.ingress, h]

end Sys2Proof.Machine
end

section
/-! SUPPORT. Reports, queries and time on a snooping port (R117), and the silence of a leg and of a merge pair (R121). -/

namespace Sys2Proof.Machine

/-! ### Snooping (R117) -/

section
variable (dt p group g : Nat) (v6 : Bool) (src : Option Nat) (frame : List Byte) (s : State) (hp : p < 512)
  (hsnoop : s.bit (prtKey p R.PRT_CTRL) 4 = true)
include hp hsnoop

theorem exec_snoopReport_join (hg : s.snoopGroup group v6 src = some g) :
    exec (.snoopReport dt p group v6 (.join src) frame) s =
      .next ((((s.tick dt).setDyn g p true).arm (tGmi g p) (s.gmi p)).toRouters p frame) := by
  have hg' : (s.tick dt).snoopGroup group v6 src = some g := hg
  show execSnoopReport dt p group v6 (.join src) frame s = _
  simp only [execSnoopReport, hg']
  exact congrArg _ (if_pos ⟨hp, hsnoop⟩)

theorem exec_snoopReport_join_of_unknown (hg : s.snoopGroup group v6 src = none) :
    exec (.snoopReport dt p group v6 (.join src) frame) s = .next (((s.tick dt).raise (Block.str.pg 0) 3).toRouters p frame) := by
  have hg' : (s.tick dt).snoopGroup group v6 src = none := hg
  show execSnoopReport dt p group v6 (.join src) frame s = _
  simp only [execSnoopReport, hg']
  exact congrArg _ (if_pos ⟨hp, hsnoop⟩)

/-- A leave under FAST_LEAVE takes effect at once. -/
theorem exec_snoopReport_fastLeave (hfast : s.bit (prtKey p R.PRT_CTRL) 5 = true) (hg : s.snoopGroup group v6 src = some g) :
    exec (.snoopReport dt p group v6 (.leave src) frame) s =
      .next ((((s.tick dt).setDyn g p false).disarm (tGmi g p)).toRouters p frame) := by
  have hg' : (s.tick dt).snoopGroup group v6 src = some g := hg
  show execSnoopReport dt p group v6 (.leave src) frame s = _
  simp only [execSnoopReport, hg']
  exact congrArg _ ((if_pos ⟨hp, hsnoop⟩).trans (if_pos hfast))

end

theorem exec_snoopReport_of_off (dt p group : Nat) (v6 : Bool) (kind : SnoopKind) (frame : List Byte) (s : State)
    (h : s.bit (prtKey p R.PRT_CTRL) 4 = false) : exec (.snoopReport dt p group v6 kind frame) s = .next (s.tick dt) :=
  congrArg _ (if_neg fun hc => Bool.false_ne_true (h.symm.trans hc.2))

/-- Port `p` is a router port or is none. -/
def State.setRouter (s : State) (p : Nat) (v : Bool) : State :=
  { s with str := { s.str with routers := setBitOf p v s.str.routers } }

theorem exec_snoopQuery_of_on (dt p : Nat) (s : State) (hp : p < 512) (hsnoop : s.bit (prtKey p R.PRT_CTRL) 4 = true) :
    exec (.snoopQuery dt p) s = .next (((s.tick dt).setRouter p true).arm (tRouter p) (s.gmi p)) :=
  congrArg _ (if_pos ⟨hp, hsnoop⟩)

theorem exec_snoopGmiExpire_group_of_due (dt p g : Nat) (s : State) (h : (s.tick dt).due (tGmi g p) = true) :
    exec (.snoopGmiExpire dt p (some g)) s = .next (((s.tick dt).disarm (tGmi g p)).setDyn g p false) :=
  congrArg _ ((s.tick dt).onExpiry_due (tGmi g p) _ h)

theorem exec_snoopGmiExpire_router_of_due (dt p : Nat) (s : State) (h : (s.tick dt).due (tRouter p) = true) :
    exec (.snoopGmiExpire dt p none) s = .next (((s.tick dt).disarm (tRouter p)).setRouter p false) :=
  congrArg _ ((s.tick dt).onExpiry_due (tRouter p) _ h)

/-- DYNAMIC of a group after a port's bit was written. -/
theorem State.grp_setDyn_dyn (s : State) (g p : Nat) (v : Bool) : ((s.setDyn g p v).grp g).dyn = setBitOf p v (s.grp g).dyn :=
  congrArg Grp.dyn (SMap.find_put _ _ _ _)

/-! ### Merge pairs (R121) -/

section
variable (dt i k : Nat) (s : State) (p : Pair) (e : StrEntry) (he : s.str.entries.find? i = some e)
include he

/-- The lower entry's leg has been silent for its time while the other one delivered. -/
theorem exec_mergeLegSilent_of_silent (hpair : s.pairOf i = some (i, p)) (hlost : p.lostA = false)
    (hsilent : p.lastA + e.silent ≤ s.bus.now + dt) (hother : p.lastA < p.lastB) :
    exec (.mergeLegSilent dt i) s = .next (((s.tick dt).setPair i { p with lostA := true }).strEvent i 0) := by
  have hpair' : (s.tick dt).pairOf i = some (i, p) := hpair
  have he' : (s.tick dt).str.entries.find? i = some e := he
  have hnow : ¬ (s.tick dt).bus.now < p.lastA + e.silent := not_lt.mpr hsilent
  show execMergeLegSilent dt i s = _
  simp only [execMergeLegSilent, hpair', he']
  simp [hlost, hnow, not_le.mpr hother, -State.tick_bus]

theorem exec_mergePairSilent (hpair : s.pairOf i = some (k, p)) :
    exec (.mergePairSilent dt i) s =
      .next (if s.bus.now + dt < p.lastOut + e.silent then s.tick dt else (s.tick dt).setPair k { p with newest := none, seen := [] }) := by
  have hpair' : (s.tick dt).pairOf i = some (k, p) := hpair
  have he' : (s.tick dt).str.entries.find? i = some e := he
  show execMergePairSilent dt i s = _
  simp only [execMergePairSilent, hpair', he']
  rfl

end

/-- Settles O17: one lemma for each command and outcome; the DYNAMIC and router bits by the laws of a replaced bit. -/
theorem snoopingAndMergePairsFollowTraffic : Obligations.SnoopingAndMergePairsFollowTraffic := by
  refine ⟨exec_snoopReport_join, exec_snoopReport_fastLeave, exec_snoopReport_join_of_unknown, exec_snoopReport_of_off, ?query,
    ?gmiGroup, ?gmiRouter, ?legSilent, ?pairAlive, ?pairSilent⟩
  case query =>
    intro dt p s hp hsnoop
    exact ⟨_, exec_snoopQuery_of_on dt p s hp hsnoop, bitOf_setBitOf _ _ _, SMap.find?_set _ _ _, rfl⟩
  case gmiGroup =>
    intro dt p g s hdue
    have hdyn := ((s.tick dt).disarm (tGmi g p)).grp_setDyn_dyn g p false
    refine ⟨_, exec_snoopGmiExpire_group_of_due dt p g s hdue, ?_, fun q hq => ?_, rfl⟩
    · rw [hdyn, bitOf_setBitOf]
    · rw [hdyn, bitOf_setBitOf_ne _ _ _ _ hq]
      rfl
  case gmiRouter =>
    intro dt p s hdue
    exact ⟨_, exec_snoopGmiExpire_router_of_due dt p s hdue, bitOf_setBitOf _ _ _, rfl⟩
  case legSilent => exact fun dt i s p e hpair he => exec_mergeLegSilent_of_silent dt i s p e he hpair
  case pairAlive =>
    intro dt i k s p e hpair he hnow
    rw [exec_mergePairSilent dt i k s p e he hpair, if_pos hnow]
  case pairSilent =>
    intro dt i k s p e hpair he hnow
    rw [exec_mergePairSilent dt i k s p e he hpair, if_neg (not_lt.mpr hnow)]
    exact ⟨_, rfl, SMap.find?_set _ _ _, fun j hj => SMap.find?_set_ne _ _ _ _ hj, rfl⟩

end Sys2Proof.Machine
end

section
/-! SUPPORT. The matching of the crossbar (R136 to R138): one iteration of request, grant and accept keeps a matching free of conflicts. -/

namespace Sys2Proof.Machine

theorem nodup_eraseDups : ∀ l : List Nat, l.eraseDups.Nodup
  | [] => List.nodup_nil
  | a :: l => by
    rw [List.eraseDups_cons, List.nodup_cons, List.mem_eraseDups]
    exact ⟨by simp, nodup_eraseDups _⟩
termination_by l => l.length
decreasing_by exact Nat.lt_succ_of_le (List.length_filter_le _ _)

/-- The choice among requests is one of them. -/
theorem mem_of_pickReq {l : List Req} {useK : Bool} {ptr : Nat} {by' : Req → Nat} {r : Req} (h : pickReq l useK ptr by' = some r) :
    r ∈ l := by
  unfold pickReq at h
  extract_lets c d at h
  have hc : ∀ x ∈ c, x ∈ l := by
    intro x hx
    unfold c at hx
    split at hx
    · exact List.mem_of_mem_filter hx
    · split at hx
      · exact List.mem_of_mem_filter hx
      · exact hx
  refine List.foldlRecOn (motive := fun acc : Option Req => ∀ x, acc = some x → x ∈ l) c _ (by simp)
    (fun acc hacc x hx => ?_) r h
  split
  · rintro _ ⟨⟩
    exact hc x hx
  · split
    · rintro _ ⟨⟩
      exact hc x hx
    · exact hacc

/-! ### Conflicts -/

/-- A matching: requests, of which no two are for one output, and those of one input are for one and the same cell (R136 to R138). -/
structure IsMatching (reqs l : List Req) : Prop where
  requested : ∀ r ∈ l, r ∈ reqs
  outs : l.Pairwise (fun a b => a.out ≠ b.out)
  cells : ∀ a ∈ l, ∀ b ∈ l, a.inp = b.inp → a.id = b.id ∧ a.cell = b.cell

theorem IsMatching.nil (reqs : List Req) : IsMatching reqs [] := ⟨by simp, List.Pairwise.nil, by simp⟩

/-- Two matchings that share neither an input nor an output are one matching together. -/
theorem IsMatching.append {reqs l m : List Req} (hl : IsMatching reqs l) (hm : IsMatching reqs m)
    (hapart : ∀ a ∈ l, ∀ b ∈ m, a.inp ≠ b.inp ∧ a.out ≠ b.out) : IsMatching reqs (l ++ m) where
  requested r hr := (List.mem_append.mp hr).elim (hl.requested r) (hm.requested r)
  outs := List.pairwise_append.mpr ⟨hl.outs, hm.outs, fun a ha b hb => (hapart a ha b hb).2⟩
  cells a ha b hb hi := by
    rcases List.mem_append.mp ha with ha | ha <;> rcases List.mem_append.mp hb with hb | hb
    · exact hl.cells a ha b hb hi
    · exact absurd hi (hapart a ha b hb).1
    · exact absurd hi.symm (hapart b hb a ha).1
    · exact hm.cells a ha b hb hi

/-! ### Grants -/

/-- The requests whose input and output are both unmatched. -/
def unmatchedReqs (reqs done : List Req) : List Req :=
  reqs.filter (fun r => !done.any (fun m => decide (m.inp = r.inp) || decide (m.out = r.out)))

/-- The request that each open output grants. -/
def crossGrants (reqs done : List Req) (ptr : SMap Nat) : List Req :=
  (((unmatchedReqs reqs done).map (·.out)).eraseDups).filterMap
    (fun o => pickReq ((unmatchedReqs reqs done).filter (fun r => decide (r.out = o))) true (ptr.find 0 o) (·.inp))

theorem mem_unmatchedReqs {reqs done : List Req} {r : Req} :
    r ∈ unmatchedReqs reqs done ↔ r ∈ reqs ∧ ∀ m ∈ done, m.inp ≠ r.inp ∧ m.out ≠ r.out := by
  simp [unmatchedReqs]

theorem grant_of_pickReq {l : List Req} {useK : Bool} {ptr o : Nat} {r : Req}
    (h : pickReq (l.filter (fun r => decide (r.out = o))) useK ptr (·.inp) = some r) : r ∈ l ∧ r.out = o := by
  simpa using mem_of_pickReq h

theorem unmatchedReqs_of_grant {reqs done : List Req} {ptr : SMap Nat} {r : Req} (h : r ∈ crossGrants reqs done ptr) :
    r ∈ unmatchedReqs reqs done := by
  obtain ⟨o, -, ho⟩ := List.mem_filterMap.mp h
  exact (grant_of_pickReq ho).1

/-- An output grants once. -/
theorem crossGrants_outs (reqs done : List Req) (ptr : SMap Nat) : (crossGrants reqs done ptr).Pairwise (fun a b => a.out ≠ b.out) := by
  refine List.Pairwise.filterMap _ (fun o o' hne a ha b hb hab => hne ?_) (nodup_eraseDups _)
  rw [← (grant_of_pickReq ha).2, ← (grant_of_pickReq hb).2, hab]

/-- Two grants of one output are the same grant. -/
theorem grant_eq_of_out {l : List Req} (h : l.Pairwise (fun a b => a.out ≠ b.out)) {a b : Req} (ha : a ∈ l) (hb : b ∈ l)
    (ho : a.out = b.out) : a = b := by
  have : Std.Symm (fun a b : Req => a.out ≠ b.out) := ⟨fun _ _ hne => hne.symm⟩
  by_contra hab
  exact h.forall ha hb hab ho

/-! ### Accepting -/

/-- An input accepts: of the grants offered to it, those for the cell of the one it chose (R137, R138). -/
def acceptOf (grants : List Req) (first : Bool) (acc : List Req × SMap Nat × SMap Nat) (i : Nat) : List Req × SMap Nat × SMap Nat :=
  let mine := grants.filter (fun r => decide (r.inp = i))
  match pickReq mine false (acc.2.2.find 0 i) (·.out) with
  | none => acc
  | some g =>
    let taken := mine.filter (fun r => decide (r.id = g.id) && decide (r.cell = g.cell))
    if first then
      (acc.1 ++ taken, taken.foldl (fun m r => m.put 0 r.out ((i + 1) % 72)) acc.2.1, acc.2.2.put 0 i ((g.out + 1) % 72))
    else (acc.1 ++ taken, acc.2.1, acc.2.2)

/-- An iteration: every input that got a grant accepts. -/
theorem matchIter_eq (reqs : List Req) (first : Bool) (st : List Req × SMap Nat × SMap Nat) :
    matchIter reqs first st =
      (((crossGrants reqs st.1 st.2.1).map (·.inp)).eraseDups).foldl (acceptOf (crossGrants reqs st.1 st.2.1) first) st := rfl

/-- What an input accepts: some of the grants offered to it, all for one cell. -/
theorem acceptOf_takes (grants : List Req) (first : Bool) (acc : List Req × SMap Nat × SMap Nat) (i : Nat) :
    ∃ taken, (acceptOf grants first acc i).1 = acc.1 ++ taken ∧ taken.Sublist grants ∧ (∀ r ∈ taken, r.inp = i) ∧
      ∀ a ∈ taken, ∀ b ∈ taken, a.id = b.id ∧ a.cell = b.cell := by
  unfold acceptOf
  extract_lets mine
  split
  · exact ⟨[], by simp⟩
  · next g _ =>
    extract_lets taken
    have hcell : ∀ r ∈ taken, r.inp = i ∧ r.id = g.id ∧ r.cell = g.cell := by
      intro r hr
      simp only [taken, mine, List.mem_filter, Bool.and_eq_true, decide_eq_true_eq] at hr
      exact ⟨hr.1.2, hr.2⟩
    refine ⟨taken, by split <;> rfl, List.filter_sublist.trans List.filter_sublist, fun r hr => (hcell r hr).1, fun a ha b hb => ?_⟩
    obtain ⟨-, haid, hacell⟩ := hcell a ha
    obtain ⟨-, hbid, hbcell⟩ := hcell b hb
    exact ⟨haid.trans hbid.symm, hacell.trans hbcell.symm⟩

/-- A matching while the inputs `inps` have still to accept: it shares no input and no output with a grant to one of them. -/
structure Accepting (reqs grants : List Req) (inps : List Nat) (matched : List Req) : Prop where
  isMatching : IsMatching reqs matched
  apart : ∀ m ∈ matched, ∀ r ∈ grants, r.inp ∈ inps → m.inp ≠ r.inp ∧ m.out ≠ r.out

section
variable {reqs grants : List Req} (hreq : ∀ r ∈ grants, r ∈ reqs) (hout : grants.Pairwise (fun a b => a.out ≠ b.out)) (first : Bool)
include hreq hout

/-- What one input accepts is apart from what was matched before, and from the grants to the inputs that follow. -/
theorem Accepting.acceptOf {i : Nat} {inps : List Nat} {acc : List Req × SMap Nat × SMap Nat}
    (h : Accepting reqs grants (i :: inps) acc.1) (hi : i ∉ inps) :
    Accepting reqs grants inps (acceptOf grants first acc i).1 := by
  obtain ⟨taken, heq, hsub, hinp, hcell⟩ := acceptOf_takes grants first acc i
  have htaken : IsMatching reqs taken :=
    ⟨fun r hr => hreq r (hsub.subset hr), hout.sublist hsub, fun a ha b hb _ => hcell a ha b hb⟩
  rw [heq]
  refine ⟨h.isMatching.append htaken fun m hm r hr => h.apart m hm r (hsub.subset hr) (by simp [hinp r hr]), fun m hm r hr hri => ?_⟩
  rcases List.mem_append.mp hm with hm | hm
  · exact h.apart m hm r hr (List.mem_cons_of_mem i hri)
  · have hne : m.inp ≠ r.inp := fun he => hi (by rwa [← hinp m hm, he])
    exact ⟨hne, fun ho => hne (congrArg Req.inp (grant_eq_of_out hout (hsub.subset hm) hr ho))⟩

theorem Accepting.foldl (inps : List Nat) {acc : List Req × SMap Nat × SMap Nat} (h : Accepting reqs grants inps acc.1)
    (hn : inps.Nodup) : IsMatching reqs (inps.foldl (Machine.acceptOf grants first) acc).1 := by
  induction inps generalizing acc with
  | nil => exact h.isMatching
  | cons i inps ih =>
    obtain ⟨hi, hn⟩ := List.nodup_cons.mp hn
    exact ih (h.acceptOf hreq hout first hi) hn

end

/-- An iteration extends a matching: a grant shares no input and no output with it. -/
theorem IsMatching.matchIter {reqs : List Req} {st : List Req × SMap Nat × SMap Nat} (h : IsMatching reqs st.1) (first : Bool) :
    IsMatching reqs (matchIter reqs first st).1 := by
  rw [matchIter_eq]
  have hreq : ∀ r ∈ crossGrants reqs st.1 st.2.1, r ∈ reqs ∧ ∀ m ∈ st.1, m.inp ≠ r.inp ∧ m.out ≠ r.out :=
    fun r hr => mem_unmatchedReqs.mp (unmatchedReqs_of_grant hr)
  have hacc : Accepting reqs (crossGrants reqs st.1 st.2.1) (((crossGrants reqs st.1 st.2.1).map (·.inp)).eraseDups) st.1 :=
    ⟨h, fun m hm r hr _ => (hreq r hr).2 m hm⟩
  exact hacc.foldl (fun r hr => (hreq r hr).1) (crossGrants_outs _ _ _) first _ (nodup_eraseDups _)

/-- Settles O18: the three iterations extend the empty matching. -/
theorem crossbarMatchingIsConflictFree : Obligations.CrossbarMatchingIsConflictFree := by
  intro s
  obtain ⟨hreq, hout, hcell⟩ := (((IsMatching.nil s.requests).matchIter (st := ([], s.fab.grantPtr, s.fab.acceptPtr)) true).matchIter
    false).matchIter false
  exact ⟨hreq, hout, hcell⟩

end Sys2Proof.Machine
end

section
/-! SUPPORT. The commands of the switch core, by outcome: a cell time, the isolation of planes, a dequeue at a host port, the counters of a
cistern, and a move that timed out (R131, R132, R136, R140, R148, R156, R165). -/

namespace Sys2Proof.Machine

/-! ### A cell time (R136, R140) -/

/-- The matched cells cross, and the pointers move on. -/
def State.crossMatched (s : State) (cell : CellTime) : State :=
  s.matching.1.foldl (fun a r => a.crossCell r ((cell.sliceErrs.filter (fun e => decide (e.1 = r.out))).flatMap (·.2)))
    { s with fab := { s.fab with grantPtr := s.matching.2.1, acceptPtr := s.matching.2.2 } }

section
variable (dt : Nat) (cell : CellTime) (s : State)

/-- A cell time in which no plane lost its link and no free-list word failed in one copy alone. -/
theorem exec_crossbarCellTime_of_running (hrun : s.bus.domRuns 10 = true) (hlink : cell.linkLost = []) (hone : cell.freeOne = 0) :
    exec (.crossbarCellTime dt cell) s = .next (
      if cell.freeBoth then ((s.tick dt).fault 39 { page := fabPage }).on (·.haltDoms [10])
      else if cell.parityErr then (s.tick dt).fault 46 { page := fabPage }
      else (s.tick dt).crossMatched cell) := by
  refine congrArg _ ((if_pos hrun).trans ?_)
  rw [hlink, hone]
  rfl

theorem exec_crossbarCellTime_of_stopped (hrun : s.bus.domRuns 10 = false) :
    exec (.crossbarCellTime dt cell) s = .next (s.tick dt) :=
  congrArg _ (if_neg (hrun.trans_ne Bool.false_ne_true))

end

/-! ### Planes (R131, R132) -/

/-- One plane in error is rebuilt from the others, unless another plane is isolated. -/
theorem cellFate_single (iso : Option Nat) (p : Nat) (hp : p < 9) (hiso : iso ≠ some p) :
    cellFate iso [p] = if iso = none then 1 else 2 := by
  simp [cellFate, hp, hiso, List.eraseDups_cons]

theorem State.planeCondition_first (s : State) (p : Nat) (hiso : s.isoPlane = none) (hpend : s.fab.isoPend = none) :
    s.planeCondition p = { s with fab := { s.fab with isoPend := some p } } := by
  simp [State.planeCondition, hiso, hpend]

theorem State.planeCondition_second (s : State) (p q : Nat) (hiso : s.isoPlane = some q) (hne : q ≠ p) (hpend : s.fab.isoPend = none) :
    s.planeCondition p = (s.fault 43 { page := fabPage, engine := p }).on (·.haltDoms [10]) := by
  simp [State.planeCondition, hiso, hpend, hne]

/-- The owner of FAB isolates a plane by writing FAB_PLANE_FORCE. -/
theorem exec_planeForce_of_owner (dt vi value : Nat) (s : State) (ha : s.bus.pageAccess fabPage vi = 2)
    (hu : s.bus.pageUp fabPage = true) (hbit : bitOf 8 value = true) (hp : value % 16 < 9) :
    exec (.planeForce dt vi value) s = .next ((s.tick dt).planeCondition (value % 16)) :=
  congrArg _ (((s.tick dt).guardWrite_owner vi fabPage _ ha hu).trans (if_pos ⟨hbit, hp⟩))

/-- FAB_STATUS after the isolation of a plane, which is then no longer pending. -/
def State.isolate (s : State) (p : Nat) : State :=
  (((({ s with fab := { s.fab with isoPend := none } } : State).setBit (fabKey R.FAB_STATUS) p false).setBit
    (fabKey R.FAB_STATUS) 9 true).setFld (fabKey R.FAB_STATUS) 10 4 p).setBit (fabKey R.FAB_STATUS) 14 false

theorem exec_planeIsolationComplete_of_pending (dt p : Nat) (s : State) (h : s.fab.isoPend = some p) :
    exec (.planeIsolationComplete dt) s =
      .next ((((s.tick dt).isolate p).fault 40 { page := fabPage, engine := p }).raise fabPage 0) := by
  have h' : (s.tick dt).fab.isoPend = some p := h
  show execPlaneIsolationComplete dt s = _
  simp only [execPlaneIsolationComplete, h']
  rfl

/-- A bit outside a field leaves the field. -/
theorem State.fld_setBit_of_disjoint (s : State) (k i : Nat) (v : Bool) (lo w : Nat) (hi : i < 32) (hd : lo + w ≤ i ∨ i < lo) :
    (s.setBit k i v).fld k lo w = s.fld k lo w :=
  s.fld_setFld_of_disjoint k i 1 (b2n v) lo w hi hd

theorem State.isolate_isoPlane (s : State) (p : Nat) (hp : p < 9) : (s.isolate p).isoPlane = some p := by
  unfold State.isolate State.isoPlane
  rw [State.bit_setBit_ne _ _ 14 _ 9 (by decide) (by decide), State.bit_setFld_of_disjoint _ _ 10 4 _ 9 (by decide) (by decide),
    State.bit_setBit _ _ 9 _ (by decide), if_pos rfl, State.fld_setBit_of_disjoint _ _ 14 _ 10 4 (by decide) (by decide),
    State.fld_setFld _ _ 10 4 _ (by decide), Nat.mod_eq_of_lt (by omega)]

theorem State.isolate_intact (s : State) (p : Nat) (hp : p < 9) : (s.isolate p).bit (fabKey R.FAB_STATUS) p = false := by
  unfold State.isolate
  rw [State.bit_setBit_ne _ _ 14 _ p (by decide) (by omega), State.bit_setFld_of_disjoint _ _ 10 4 _ p (by decide) (by omega),
    State.bit_setBit_ne _ _ 9 _ p (by decide) (by omega), State.bit_setBit _ _ p _ (by omega)]

theorem State.after_isolate (s : State) (p : Nat) :
    ({ s with fab := { s.fab with isoPend := none } } : State).After (s.isolate p) [fabKey R.FAB_STATUS] :=
  ((((State.After.refl _ _).setBit _ _ _ (by simp)).setBit _ _ _ (by simp)).setFld _ _ _ _ (by simp)).setBit _ _ _ (by simp)

/-! ### Dequeue at a host port (R148) -/

/-- At a host port a packet that is not stale is chosen by strict priority. -/
theorem State.choose_of_pickStrict (s : State) (out k fuel : Nat) (x : Queued) (hout : 64 ≤ out) (hpick : s.pickStrict out = some x)
    (hstale : s.dequeueStale x.pkt = false) : s.choose out k (fuel + 1) = (s, some (x, Drr.init)) := by
  simp [State.choose, not_lt.mpr hout, hpick, hstale]

/-- A packet of no stream ends no move. -/
theorem State.gone_of_no_stream (s : State) (p : Pkt) (q : Nat) (h : p.stream = none) : s.gone p q = s := by
  simp [State.gone, h]

theorem State.deliver_val (s : State) (x : Queued) (h : x.copy.dest = .val) :
    s.deliver x = { s with fab := { s.fab with valIn := s.fab.valIn ++ [x.pkt] } } := by
  simp [State.deliver, h]

/-- A whole packet for the value-frame engine, chosen at a host port that sends nothing. -/
theorem exec_packetDequeue_val (dt out : Nat) (s : State) (x : Queued) (hlo : 64 ≤ out) (hhi : out < 72)
    (hrun : s.bus.domRuns 10 = true) (hidle : s.fab.sending.find? (512 + out) = none) (hpick : s.pickStrict out = some x)
    (hstale : (s.tick dt).dequeueStale x.pkt = false) (hstream : x.pkt.stream = none) (hdest : x.copy.dest = .val)
    (hcut : x.cut = false) (hwhole : cellsOf (frameLen x.pkt.bytes) ≤ x.got) :
    exec (.packetDequeue dt out 0) s = .next { (s.tick dt).takeOut x with fab := { ((s.tick dt).takeOut x).fab with
      sending := ((s.tick dt).takeOut x).fab.sending.set (512 + out)
        ⟨(s.bus.now + dt) * 2000 + (frameLen x.pkt.bytes + 20) * 80 / 8, x.copy.cls⟩
      valIn := ((s.tick dt).takeOut x).fab.valIn ++ [x.pkt] } } := by
  have hrun' : (s.tick dt).bus.domRuns 10 = true := hrun
  have hidle' : (s.tick dt).fab.sending.find? (512 + out) = none := hidle
  have hpick' : (s.tick dt).pickStrict out = some x := hpick
  have hport : ¬ out < 64 := not_lt.mpr hlo
  have hchoose := fun fuel => (s.tick dt).choose_of_pickStrict out 0 fuel x hlo hpick' hstale
  have hidx : sendIdx out 0 = 512 + out := if_neg hport
  show execPacketDequeue dt out 0 s = _
  simp only [execPacketDequeue, hidx, hidle', hrun', hchoose, hport, hcut, hwhole, State.gone_of_no_stream _ _ _ hstream,
    State.deliver_val _ _ hdest]
  simp [hlo, hhi, State.outRate, hport]

/-! ### The registers of a cistern (R156) -/

section
variable (dt vi n : Nat) (s : State) (hn : n < 72) (ha : s.bus.pageAccess (cisPage n) vi = 2) (hu : s.bus.pageUp (cisPage n) = true)
include hn ha hu

theorem exec_cisPeakClr_of_owner : exec (.cisPeakClr dt vi n) s =
    .next ((s.tick dt).wr (rk (cisPage n) R.CIS_PEAK) ((s.tick dt).rd (rk (cisPage n) R.CIS_USED))) :=
  congrArg _ ((if_pos hn).trans ((s.tick dt).guardWrite_owner vi (cisPage n) _ ha hu))

theorem cisPeakClr_restarts : ∃ t, exec (.cisPeakClr dt vi n) s = .next t ∧
    t.rd (rk (cisPage n) R.CIS_PEAK) = s.rd (rk (cisPage n) R.CIS_USED) ∧ (s.tick dt).After t [rk (cisPage n) R.CIS_PEAK] :=
  ⟨_, exec_cisPeakClr_of_owner dt vi n s hn ha hu, ((s.tick dt).rd_wr _ _).trans (Nat.mod_eq_of_lt (Bus.rd_lt _ _)),
    (State.After.refl _ _).wr _ _ (by simp)⟩

end

/-- The counters of a cistern that CIS_CNT_SEL selects among (Table 5-4). -/
def cisCounters : List Nat :=
  [R.CIS_CNT_ADMIT, R.CIS_CNT_RED_G, R.CIS_CNT_RED_Y, R.CIS_CNT_RED_R, R.CIS_CNT_TAIL, R.CIS_CNT_STALE, R.CIS_CNT_CUT, R.CIS_CNT_BAD,
    R.CIS_CNT_FLUSH]

/-- Registers are cleared one after another. -/
def State.clearAll (s : State) (k : Nat → Nat) (l : List Nat) : State := l.foldl (fun a i => a.wr (k i) 0) s

theorem State.rd_clearAll_of_zero (s : State) (k : Nat → Nat) (l : List Nat) (j : Nat) (h : s.rd j = 0) : (s.clearAll k l).rd j = 0 := by
  refine List.foldlRecOn (motive := fun a : State => a.rd j = 0) l _ h fun a hz i _ => ?_
  by_cases hj : j = k i
  · rw [hj, State.rd_wr]
    rfl
  · rw [State.rd_wr_ne _ _ _ _ hj, hz]

theorem State.rd_clearAll (s : State) (k : Nat → Nat) (l : List Nat) {i : Nat} (hi : i ∈ l) : (s.clearAll k l).rd (k i) = 0 := by
  induction l generalizing s with
  | nil => exact (List.not_mem_nil hi).elim
  | cons j l ih =>
    rcases List.mem_cons.mp hi with rfl | hi
    · exact State.rd_clearAll_of_zero _ k l (k i) (s.rd_wr (k i) 0)
    · exact ih (s.wr (k j) 0) hi

theorem State.after_clearAll (s : State) (k : Nat → Nat) (l : List Nat) : s.After (s.clearAll k l) (l.map k) :=
  List.foldlRecOn (motive := fun a => s.After a (l.map k)) l _ (State.After.refl _ _)
    fun _ ha _ hi => ha.wr _ _ (List.mem_map_of_mem hi)

theorem exec_cisCntClr_of_owner (dt vi n : Nat) (s : State) (hn : n < 72) (ha : s.bus.pageAccess (cisPage n) vi = 2)
    (hu : s.bus.pageUp (cisPage n) = true) : exec (.cisCntClr dt vi n) s =
      .next ((s.tick dt).clearAll (fun off => rkSel (cisPage n) off (s.fld (rkVi (cisPage n) R.CIS_CNT_SEL vi) 0 6)) cisCounters) :=
  congrArg _ ((if_pos hn).trans ((s.tick dt).guardWrite_owner vi (cisPage n) _ ha hu))

/-! ### Moves (R165) -/

/-- A move that timed out with no packet of its stream left in the old queue. -/
theorem exec_moveTimeout_of_drained (dt i : Nat) (s : State) (m : Move) (hdue : (s.tick dt).due (tMove i) = true)
    (hm : s.str.moves.find? i = some m) (hold : (s.queue m.old).filter (fun x => decide (x.pkt.stream = some i)) = []) :
    exec (.moveTimeout dt i) s = .next (((s.tick dt).disarm (tMove i)).endMove i 1) := by
  have hm' : ((s.tick dt).disarm (tMove i)).str.moves.find? i = some m := hm
  have hold' : (((s.tick dt).disarm (tMove i)).queue m.old).filter (fun x => decide (x.pkt.stream = some i)) = [] := hold
  refine congrArg _ (((s.tick dt).onExpiry_due (tMove i) _ hdue).trans ?_)
  simp only [hm', hold', List.foldl_nil]

/-- Settles O19: one lemma for each command and outcome; the registers by the laws of a replaced bit or field and of a list of writes. -/
theorem switchCoreMovesCellsAndIsolatesPlanes : Obligations.SwitchCoreMovesCellsAndIsolatesPlanes := by
  refine ⟨?cross, ?parity, ?freeList, exec_crossbarCellTime_of_stopped, cellFate_single, ?force, ?forceSecond, ?isolated, ?dequeue,
    fun dt vi n s => cisPeakClr_restarts dt vi n s, ?counters, exec_moveTimeout_of_drained⟩
  case cross =>
    intro dt cell s hrun hlink hone hboth hpar
    refine ⟨_, rfl, ?_⟩
    rw [exec_crossbarCellTime_of_running dt cell s hrun hlink hone, hboth, hpar]
    rfl
  case parity =>
    intro dt cell s hrun hlink hone hboth hpar
    rw [exec_crossbarCellTime_of_running dt cell s hrun hlink hone, hboth, hpar]
    rfl
  case freeList =>
    intro dt cell s hrun hlink hone hboth
    rw [exec_crossbarCellTime_of_running dt cell s hrun hlink hone, hboth]
    rfl
  case force =>
    intro dt vi value s ha hu hbit hp hiso hpend
    rw [exec_planeForce_of_owner dt vi value s ha hu hbit hp]
    exact congrArg _ ((s.tick dt).planeCondition_first _ hiso hpend)
  case forceSecond =>
    intro dt vi value q s ha hu hbit hp hiso hne hpend
    rw [exec_planeForce_of_owner dt vi value s ha hu hbit hp]
    exact congrArg _ ((s.tick dt).planeCondition_second _ q hiso hne hpend)
  case isolated =>
    intro dt p s hpend hp
    exact ⟨_, exec_planeIsolationComplete_of_pending dt p s hpend, (s.tick dt).isolate_isoPlane p hp, (s.tick dt).isolate_intact p hp,
      (s.tick dt).after_isolate p⟩
  case dequeue =>
    intro dt out s x hlo hhi hrun hidle hpick hstale hstream hdest hcut hwhole
    exact ⟨_, rfl, exec_packetDequeue_val dt out s x hlo hhi hrun hidle hpick hstale hstream hdest hcut hwhole⟩
  case counters =>
    rintro dt vi n _ s hn ha hu rfl
    exact ⟨_, exec_cisCntClr_of_owner dt vi n s hn ha hu, fun _ hoff => State.rd_clearAll _ _ _ hoff, State.after_clearAll _ _ _⟩

end Sys2Proof.Machine
end

section
/-! SUPPORT. A write by the owner of an entry (R85, R91, R92), one bit of several registers, and changes of the page network alone. -/

namespace Sys2Proof.Machine

/-- An owner's write to an entry whose page is up takes effect. -/
theorem State.guardEntry_owner (s : State) (vi : Nat) (blk : Block) (page entry : Nat) (f : State → State)
    (ha : s.bus.access blk entry vi = 2) (hu : s.bus.pageUp page = true) : s.guardEntry vi blk page entry f = f s := by
  simp [State.guardEntry, ha, hu]

/-- A change of the page network leaves everything else. -/
theorem State.on_eq_with_bus {s t : State} (h : t = { s with bus := t.bus }) (f : Bus → Bus) :
    t.on f = { s with bus := (t.on f).bus } :=
  congrArg (fun a : State => { a with bus := f t.bus }) h

/-- Bit `i` of the registers at `k p`, for each `p` of a list. -/
def State.setBits (s : State) (k : Nat → Nat) (i : Nat) (v : Bool) (l : List Nat) : State := l.foldl (fun a p => a.setBit (k p) i v) s

theorem State.after_setBits (s : State) (k : Nat → Nat) (i : Nat) (v : Bool) (l : List Nat) : s.After (s.setBits k i v l) (l.map k) :=
  List.foldlRecOn (motive := fun a => s.After a (l.map k)) l _ (State.After.refl _ _)
    fun _ ha _ hp => ha.setBit _ _ _ (List.mem_map_of_mem hp)

theorem State.rd_setBits_of_ne (s : State) (k : Nat → Nat) (i : Nat) (v : Bool) (l : List Nat) (j : Nat) (h : ∀ p ∈ l, j ≠ k p) :
    (s.setBits k i v l).rd j = s.rd j :=
  List.foldlRecOn (motive := fun a : State => a.rd j = s.rd j) l _ rfl
    fun a ha p hp => (a.rd_setBit_ne (k p) i v j (h p hp)).trans ha

/-- A bit that reads `v` still does after the same bit of any register was set to `v`. -/
theorem State.bit_setBit_same_value (s : State) (k i : Nat) (v : Bool) (j : Nat) (hi : i < 32) (h : s.bit j i = v) :
    (s.setBit k i v).bit j i = v := by
  by_cases hj : j = k
  · rw [hj, s.bit_setBit k i v hi]
  · exact (congrArg (bitOf i) (s.rd_setBit_ne k i v j hj)).trans h

theorem State.bit_setBits (s : State) (k : Nat → Nat) (i : Nat) (v : Bool) (l : List Nat) (hi : i < 32) {p : Nat} (hp : p ∈ l) :
    (s.setBits k i v l).bit (k p) i = v := by
  induction l generalizing s with
  | nil => cases hp
  | cons q l ih =>
    rcases List.mem_cons.mp hp with rfl | hp
    · exact List.foldlRecOn (motive := fun a : State => a.bit (k p) i = v) l _ (s.bit_setBit (k p) i v hi)
        fun a ha q _ => a.bit_setBit_same_value (k q) i v (k p) hi ha
    · exact ih _ hp

end Sys2Proof.Machine
end

section
/-! SUPPORT. The owner's commands to a host ring, by outcome (R167, R170, R175). -/

namespace Sys2Proof.Machine

theorem ringKey_ne (r : Nat) {o o' : Nat} (h : o ≠ o') : ringKey r o ≠ ringKey r o' := rk_ne_off _ (by omega)

/-- An enabled ring takes doorbells once the service is ready (R170). -/
theorem State.doorbell_not_refused (s : State) (r : Nat) (hready : s.serviceReady = true) (hen : s.ringEn r = true) :
    ¬ ((!s.serviceReady && decide (s.ringOwner r ≠ 0)) || !s.ringEn r) = true := by
  simp [hready, hen]

section
variable (dt vi r : Nat) (s : State) (ha : s.bus.access .hqr r vi = 2) (hu : s.bus.pageUp (ringPage r) = true)
include ha hu

/-! ### Doorbells (R170) -/

theorem exec_hqrDoorbell_of_accepted (value : Nat) (hready : s.serviceReady = true) (hen : s.ringEn r = true) (hrx : s.ringRx r = true)
    (hin : (value % 65536 + 65536 - s.pOld r) % 65536 ≤ (s.ringComp r + s.ringSize r + 65536 - s.pOld r) % 65536) :
    exec (.hqrDoorbell dt vi r value) s = .next ((s.tick dt).setFld (ringKey r R.HQR_DB) 0 16 (value % 65536)) := by
  have hrx' : ((s.tick dt).setFld (ringKey r R.HQR_DB) 0 16 (value % 65536)).ringRx r = true :=
    (congrArg (bitOf 1) (Bus.rd_setFld_ne _ _ _ _ _ _ (ringKey_ne r (by decide)))).trans hrx
  refine congrArg _ (((s.tick dt).guardEntry_owner vi .hqr _ r _ ha hu).trans ?_)
  exact (if_neg ((s.tick dt).doorbell_not_refused r hready hen)).trans ((if_pos hin).trans (if_pos hrx'))

theorem exec_hqrDoorbell_of_beyond (value : Nat) (hready : s.serviceReady = true) (hen : s.ringEn r = true)
    (hout : (s.ringComp r + s.ringSize r + 65536 - s.pOld r) % 65536 < (value % 65536 + 65536 - s.pOld r) % 65536) :
    exec (.hqrDoorbell dt vi r value) s = .next ((((s.tick dt).setBit (ringKey r R.HQR_STATUS) 3 true).setBit
      (rk (ringPage r) R.HQR_ERR_PEND) (r % 16) true).raiseEntry .hqr 1 r) := by
  refine congrArg _ (((s.tick dt).guardEntry_owner vi .hqr _ r _ ha hu).trans ?_)
  exact (if_neg ((s.tick dt).doorbell_not_refused r hready hen)).trans (if_neg (not_le.mpr hout))

theorem exec_hqrDoorbell_of_disabled (value : Nat) (hen : s.ringEn r = false) :
    exec (.hqrDoorbell dt vi r value) s = .next ((s.tick dt).raiseEntry .hqr 4 r) := by
  have hshut : ((!(s.tick dt).serviceReady && decide ((s.tick dt).ringOwner r ≠ 0)) || !(s.tick dt).ringEn r) = true := by
    simp [show (s.tick dt).ringEn r = false from hen]
  refine congrArg _ (((s.tick dt).guardEntry_owner vi .hqr _ r _ ha hu).trans ?_)
  exact if_pos hshut

end

/-! ### Enabling and disabling (R167, R175) -/

/-- The value that a write gives HQR_CTRL: its defined bits, with EN as the command has it. -/
def ringCtrl (en : Bool) (ctrl : Nat) : Nat := setBitOf 0 en (maskOf 0xF7 ctrl)

theorem ringCtrl_size (en : Bool) (ctrl : Nat) : fieldOf 4 4 (ringCtrl en ctrl) = fieldOf 4 4 ctrl := by
  have hmask : ∀ i < 4, Nat.testBit 0xF7 (4 + i) = true := by decide
  refine (fieldOf_setBitOf_of_disjoint 4 4 0 en _ (by decide)).trans (fieldOf_congr 4 4 _ _ fun i hi => ?_)
  rw [testBit_maskOf, hmask i hi, Bool.and_true]

/-- A ring's indices go to 0; it runs and is not stopped. -/
def State.ringRestart (s : State) (r : Nat) : State :=
  (((s.wr (ringKey r R.HQR_DB) 0).wr (ringKey r R.HQR_IDX) 0).setBit (ringKey r R.HQR_STATUS) 1 false).setBit
    (ringKey r R.HQR_STATUS) 0 true

/-- A ring that starts with the value `c` in HQR_CTRL. -/
def State.ringStart (s : State) (r c : Nat) : State := (s.wr (ringKey r R.HQR_CTRL) c).ringRestart r

section
variable (s : State) (r c : Nat)

theorem State.rd_ringStart_ctrl : (s.ringStart r c).rd (ringKey r R.HQR_CTRL) = (s.wr (ringKey r R.HQR_CTRL) c).rd (ringKey r R.HQR_CTRL) :=
  (State.rd_setBit_ne _ _ _ _ _ (ringKey_ne r (by decide))).trans ((State.rd_setBit_ne _ _ _ _ _ (ringKey_ne r (by decide))).trans
    ((State.rd_wr_ne _ _ _ _ (ringKey_ne r (by decide))).trans (State.rd_wr_ne _ _ _ _ (ringKey_ne r (by decide)))))

theorem State.rd_ringStart_db : (s.ringStart r c).rd (ringKey r R.HQR_DB) = 0 :=
  (State.rd_setBit_ne _ _ _ _ _ (ringKey_ne r (by decide))).trans ((State.rd_setBit_ne _ _ _ _ _ (ringKey_ne r (by decide))).trans
    ((State.rd_wr_ne _ _ _ _ (ringKey_ne r (by decide))).trans (State.rd_wr _ _ _)))

theorem State.rd_ringStart_idx : (s.ringStart r c).rd (ringKey r R.HQR_IDX) = 0 :=
  (State.rd_setBit_ne _ _ _ _ _ (ringKey_ne r (by decide))).trans ((State.rd_setBit_ne _ _ _ _ _ (ringKey_ne r (by decide))).trans
    (State.rd_wr _ _ _))

theorem State.after_ringStart : s.After (s.ringStart r c) [ringKey r R.HQR_CTRL, ringKey r R.HQR_DB, ringKey r R.HQR_IDX,
    ringKey r R.HQR_STATUS] :=
  (((((State.After.refl _ _).wr _ _ (by simp)).wr _ _ (by simp)).wr _ _ (by simp)).setBit _ _ _ (by simp)).setBit _ _ _ (by simp)

theorem State.ringStart_en (h : bitOf 0 c = true) : (s.ringStart r c).ringEn r = true :=
  (congrArg (bitOf 0) (s.rd_ringStart_ctrl r c)).trans ((State.bit_wr _ _ _ 0 (by decide)).trans h)

theorem State.ringStart_size : (s.ringStart r c).ringSize r = 2 ^ fieldOf 4 4 c :=
  congrArg (2 ^ ·) ((congrArg (fieldOf 4 4) (s.rd_ringStart_ctrl r c)).trans (State.fld_wr _ _ _ 4 4 (by decide)))

theorem State.ringStart_runs (h : bitOf 0 c = true) : (s.ringStart r c).ringRuns r = true := by
  have hrun : (s.ringStart r c).bit (ringKey r R.HQR_STATUS) 0 = true := State.bit_setBit _ _ 0 _ (by decide)
  have hstop : (s.ringStart r c).bit (ringKey r R.HQR_STATUS) 1 = false :=
    (State.bit_setBit_ne _ _ 0 _ 1 (by decide) (by decide)).trans (State.bit_setBit _ _ 1 _ (by decide))
  rw [State.ringRuns, s.ringStart_en r c h, hrun, hstop]
  rfl

theorem State.ringStart_indices : (s.ringStart r c).pOld r = 0 ∧ (s.ringStart r c).cons r = 0 ∧ (s.ringStart r c).ringComp r = 0 :=
  ⟨congrArg (fieldOf 0 16) (s.rd_ringStart_db r c), congrArg (fieldOf 0 16) (s.rd_ringStart_idx r c),
    congrArg (fieldOf 16 16) (s.rd_ringStart_idx r c)⟩

/-- A ring that stops with nothing fetched. -/
def State.ringStop : State := (s.wr (ringKey r R.HQR_CTRL) c).setBit (ringKey r R.HQR_STATUS) 0 false

theorem State.ringStop_en (h : bitOf 0 c = false) : (s.ringStop r c).ringEn r = false :=
  (congrArg (bitOf 0) (State.rd_setBit_ne _ _ _ _ _ (ringKey_ne r (by decide)))).trans ((State.bit_wr _ _ _ 0 (by decide)).trans h)

theorem State.after_ringStop : s.After (s.ringStop r c) [ringKey r R.HQR_CTRL, ringKey r R.HQR_STATUS] :=
  ((State.After.refl _ _).wr _ _ (by simp)).setBit _ _ _ (by simp)

end

section
variable (dt vi r ctrl : Nat) (s : State) (ha : s.bus.access .hqr r vi = 2) (hu : s.bus.pageUp (ringPage r) = true)
include ha hu

theorem exec_hqrEnable_of_stopped (hrun : s.bit (ringKey r R.HQR_STATUS) 0 = false)
    (hown : bitOf 2 ctrl = true ∨ (1 ≤ s.ringOwner r ∧ s.ringOwner r ≤ 256)) (hsize : 4 ≤ fieldOf 4 4 ctrl) :
    exec (.hqrEnable dt vi r ctrl) s = .next ((s.tick dt).ringStart r (ringCtrl true ctrl)) := by
  have hstopped : ¬ (s.tick dt).bit (ringKey r R.HQR_STATUS) 0 = true := ne_true_of_eq_false hrun
  have howned : ¬ (bitOf 2 ctrl = false ∧ ¬(1 ≤ (s.tick dt).ringOwner r ∧ (s.tick dt).ringOwner r ≤ 256)) := fun h =>
    hown.elim (fun hl => Bool.false_ne_true (h.1.symm.trans hl)) h.2
  have hfits : ¬ fieldOf 4 4 (ringCtrl true ctrl) < 4 := by
    rw [ringCtrl_size]
    exact not_lt.mpr hsize
  refine congrArg _ (((s.tick dt).guardEntry_owner vi .hqr _ r _ ha hu).trans ?_)
  refine (if_neg hstopped).trans ((if_neg howned).trans ?_)
  exact congrArg (State.ringRestart · r) (if_neg hfits)

theorem exec_hqrEnable_of_running (hrun : s.bit (ringKey r R.HQR_STATUS) 0 = true) :
    exec (.hqrEnable dt vi r ctrl) s = .next ((s.tick dt).cfgErrEntry .hqr r) := by
  refine congrArg _ (((s.tick dt).guardEntry_owner vi .hqr _ r _ ha hu).trans ?_)
  exact if_pos hrun

theorem exec_hqrDisable_of_none_fetched (hsize : 4 ≤ fieldOf 4 4 ctrl) :
    exec (.hqrDisable dt vi r ctrl []) s = .next ((s.tick dt).ringStop r (ringCtrl false ctrl)) := by
  have hfits : ¬ fieldOf 4 4 (ringCtrl false ctrl) < 4 := by
    rw [ringCtrl_size]
    exact not_lt.mpr hsize
  have hnone : (if (s.tick dt).ringRuns r then
      ([] : List Bool).take (((s.tick dt).pOld r + 65536 - (s.tick dt).cons r) % 65536) else []).isEmpty = true := by
    simp
  refine congrArg _ (((s.tick dt).guardEntry_owner vi .hqr _ r _ ha hu).trans ?_)
  refine (if_pos hnone).trans ?_
  exact congrArg (fun a : State => a.setBit (ringKey r R.HQR_STATUS) 0 false) (if_neg hfits)

end

theorem State.flushFetched_of_none (s : State) (r : Nat) (h : s.pumps.fetched.find? r = none) :
    s.flushFetched r = { s with pumps := { s.pumps with fetched := s.pumps.fetched.erase r } } := by
  simp [State.flushFetched, SMap.find, h]

theorem exec_hqrStopComplete_of_none_fetched (dt r : Nat) (s : State) (hr : r < 16384) (hen : s.ringEn r = false)
    (hrun : s.bit (ringKey r R.HQR_STATUS) 0 = true) (hnone : s.pumps.fetched.find? r = none) :
    exec (.hqrStopComplete dt r) s = .next (({ s.tick dt with
      pumps := { s.pumps with fetched := s.pumps.fetched.erase r } } : State).setBit (ringKey r R.HQR_STATUS) 0 false) :=
  congrArg _ ((if_pos ⟨hr, hen, hrun⟩).trans
    (congrArg (fun a : State => a.setBit (ringKey r R.HQR_STATUS) 0 false) ((s.tick dt).flushFetched_of_none r hnone)))

/-! ### The ring store (R167) -/

@[simp] theorem leBytes_length (n v : Nat) : (leBytes n v).length = n := by
  induction n generalizing v with
  | zero => rfl
  | succ n ih => exact congrArg Nat.succ (ih (v / 256))

theorem find_storePut_of_outside (m : SMap Byte) (a b : Nat) (l : List Byte) (h : b < a ∨ a + l.length ≤ b) :
    (storePut m a l).find 0 b = m.find 0 b := by
  induction l generalizing m a with
  | nil => rfl
  | cons x l ih =>
    rw [List.length_cons] at h
    exact (ih _ _ (by omega)).trans (SMap.find_put_ne _ _ _ _ _ _ (by omega))

theorem find_storePut (m : SMap Byte) (a i : Nat) (l : List Byte) (h : i < l.length) : (storePut m a l).find 0 (a + i) = l[i] := by
  induction l generalizing m a i with
  | nil => cases h
  | cons x l ih =>
    cases i with
    | zero => exact (find_storePut_of_outside _ _ _ l (by omega)).trans (SMap.find_put _ _ _ _)
    | succ i =>
      rw [← Nat.add_assoc, Nat.add_right_comm]
      exact ih _ _ i (Nat.lt_of_succ_lt_succ h)

theorem State.storeRead_storeWrite (s : State) (a : Nat) (l : List Byte) : (s.storeWrite a l).storeRead a l.length = l := by
  refine List.ext_getElem (by simp [State.storeRead]) fun i _ hi => ?_
  simp only [State.storeRead, List.getElem_map, List.getElem_range]
  exact find_storePut _ _ _ _ hi

section
variable (dt vi r : Nat) (s : State) (hr : r < 16384) (ha : s.bus.access .hqr r vi = 2) (hu : s.bus.pageUp (ringPage r) = true)
include hr ha hu

theorem exec_hqrMemDataAccess_write (v off : Nat) (hoff : off = s.fld (ringKey r R.HQR_MEM_ADDR) 2 22 * 4)
    (hin : s.inWindow r off 4 = true) :
    exec (.hqrMemDataAccess dt vi r (some v)) s =
      .next (((s.tick dt).storeWrite (s.storeAddr r off) (leBytes 4 v)).setFld (ringKey r R.HQR_MEM_ADDR) 2 22 (off / 4 + 1)) := by
  subst hoff
  have ha' : (s.tick dt).bus.access .hqr r vi = 2 := ha
  have hu' : (s.tick dt).bus.pageUp (ringPage r) = true := hu
  have hin' : (s.tick dt).inWindow r ((s.tick dt).fld (ringKey r R.HQR_MEM_ADDR) 2 22 * 4) 4 = true := hin
  show execHqrMemDataAccess dt vi r (some v) s = _
  simp only [execHqrMemDataAccess, ha', hu', hin', hr]
  rfl

theorem exec_hqrMemDataAccess_read_outside (off : Nat) (hoff : off = s.fld (ringKey r R.HQR_MEM_ADDR) 2 22 * 4)
    (hin : s.inWindow r off 4 = false) :
    exec (.hqrMemDataAccess dt vi r none) s =
      .next ((((s.tick dt).emit (.readData vi 0)).setBit (ringKey r R.HQR_STATUS) 5 true).setFld (ringKey r R.HQR_MEM_ADDR) 2 22
        (off / 4 + 1)) := by
  subst hoff
  have ha' : (s.tick dt).bus.access .hqr r vi = 2 := ha
  have hu' : (s.tick dt).bus.pageUp (ringPage r) = true := hu
  have hin' : (s.tick dt).inWindow r ((s.tick dt).fld (ringKey r R.HQR_MEM_ADDR) 2 22 * 4) 4 = false := hin
  show execHqrMemDataAccess dt vi r none s = _
  simp only [execHqrMemDataAccess, ha', hu', hin', hr]
  rfl

end

end Sys2Proof.Machine
end

section
/-! SUPPORT. The pumps' work, by outcome, and the loss and the return of the PCIe link (R168, R171 to R173, R179, R180, Table 6-5). -/

namespace Sys2Proof.Machine

/-! ### Transmission (R171, Table 6-5) -/

/-- The pump serves ring `r`, and its turn moves on (R177). -/
def State.txServing (s : State) (pump r : Nat) : State :=
  { s with pumps := { s.pumps with rr := s.pumps.rr.put 0 pump ((r + 1) % 1024) } }

/-- The pump sends until the time `t`, in ps. -/
def State.txUntil (s : State) (pump t : Nat) : State := { s with pumps := { s.pumps with txFree := s.pumps.txFree.put 0 pump t } }

theorem exec_hqrTxDescriptor_of_idle (dt pump : Nat) (mem : RingMem) (s : State) (hnext : s.nextTx pump = none) :
    exec (.hqrTxDescriptor dt pump mem) s = .next (s.tick dt) := by
  have hnext' : (s.tick dt).nextTx pump = none := hnext
  show execHqrTxDescriptor dt pump mem s = _
  simp only [execHqrTxDescriptor, hnext', ite_self]

section
variable (dt pump r : Nat) (mem : RingMem) (s : State) (w : List Nat) (hp : pump < 16) (hup : s.pumpUp pump = true)
  (hfree : s.pumps.txFree.find 0 pump < (s.bus.now + dt) * 2000 + 2000) (hnext : s.nextTx pump = some r)
  (hfetch : ((s.tick dt).txServing pump r).fetchDesc r mem = some w)
include hp hup hfree hnext hfetch

/-- A descriptor of length 0 is in error (the first test of Table 6-5). -/
theorem exec_hqrTxDescriptor_of_empty (hlen : w.getD 2 0 % 65536 = 0) : exec (.hqrTxDescriptor dt pump mem) s =
    .next ((((s.tick dt).txServing pump r).takeDesc r).completeDesc r 2 0 (bitOf 16 (w.getD 2 0)) none none true) := by
  have hwork : pump < 16 ∧ (s.tick dt).pumpUp pump = true ∧
      (s.tick dt).pumps.txFree.find 0 pump < (s.tick dt).bus.now * 2000 + 2000 := ⟨hp, hup, hfree⟩
  have hnext' : (s.tick dt).nextTx pump = some r := hnext
  unfold State.txServing at hfetch
  show execHqrTxDescriptor dt pump mem s = _
  simp only [execHqrTxDescriptor, if_pos hwork, hnext', hfetch, hlen, true_or, if_true]
  rfl

/-- A descriptor for a data port that passes every test of Table 6-5, of a ring in host memory: its frame is sent and it completes. -/
theorem exec_hqrTxDescriptor_of_sent (ph : Nat) (s1 s3 : State) (h1 : s1 = ((s.tick dt).txServing pump r).takeDesc r)
    (hlen : w.getD 2 0 % 65536 ≠ 0) (hres2 : w.getD 2 0 / 2 ^ 17 = 0) (hres3 : w.getD 3 0 / 2 ^ 23 = 0)
    (hkind : fieldOf 0 2 (w.getD 3 0) = 1) (hcls : fieldOf 2 3 (w.getD 3 0) ≠ 7)
    (hdest : s1.ownedDest (s1.ringOwner r) 1 (fieldOf 7 16 (w.getD 3 0)) = some ph) (hpath : s1.pathDown r 1 ph = false)
    (hfits : w.getD 2 0 % 65536 ≤ s1.fld (ringKey r R.HQR_BUFSZ) 0 14) (hbuf : mem.bufOk = true) (hhost : s1.ringLocal r = false)
    (h3 : s3 = ((s1.txFrame r pump 1 ph (fieldOf 2 3 (w.getD 3 0)) (fieldOf 5 2 (w.getD 3 0))
      (mem.buf.take (w.getD 2 0 % 65536))).addWrap (rk (pmpPage pump) R.PMP_TX_PKTS) 1).add64 (rk (pmpPage pump) R.PMP_TX_BYTES_LO)
        (w.getD 2 0 % 65536)) :
    exec (.hqrTxDescriptor dt pump mem) s = .next ((s3.txUntil pump (max (s.pumps.txFree.find 0 pump) ((s.bus.now + dt) * 2000) +
        pumpTime (w.getD 2 0 % 65536) (s.fld (rk (pmpPage pump) R.PMP_RATE_TX) 0 24))).completeDesc r 0
      (w.getD 2 0 % 65536) (bitOf 16 (w.getD 2 0)) none (some (s.tick dt).bus.w250) true) := by
  have hwork : pump < 16 ∧ (s.tick dt).pumpUp pump = true ∧
      (s.tick dt).pumps.txFree.find 0 pump < (s.tick dt).bus.now * 2000 + 2000 := ⟨hp, hup, hfree⟩
  have hnext' : (s.tick dt).nextTx pump = some r := hnext
  subst h1 h3
  unfold State.txServing at *
  show execHqrTxDescriptor dt pump mem s = _
  simp only [execHqrTxDescriptor, if_pos hwork, hnext', hfetch, hlen, hres2, hres3, hkind, hcls, hdest, hpath, not_lt.mpr hfits, hbuf,
    hhost]
  rfl

end

/-! ### Reception (R172, R173) -/

/-- The pump takes the next frame that waits for it. -/
def State.rxTaken (s : State) (pump : Nat) (rest : List (Nat × Queued)) : State :=
  { s with fab := { s.fab with pumpIn := s.fab.pumpIn.put [] pump rest } }

/-- The pump receives until the time `t`, in ps. -/
def State.rxUntil (s : State) (pump t : Nat) : State := { s with pumps := { s.pumps with rxFree := s.pumps.rxFree.put 0 pump t } }

section
variable (dt pump r : Nat) (mem : RingMem) (s : State) (x : Queued) (rest : List (Nat × Queued)) (hp : pump < 16)
  (hup : s.pumpUp pump = true) (hfree : s.pumps.rxFree.find 0 pump < (s.bus.now + dt) * 2000 + 2000)
  (hin : s.fab.pumpIn.find [] pump = (r, x) :: rest)
include hp hup hfree hin

/-- A frame for a ring that does not run is discarded. -/
theorem exec_hqrRxFrame_of_stopped (hrun : s.ringRuns r = false) :
    exec (.hqrRxFrame dt pump mem) s = .next ((((s.tick dt).rxTaken pump rest).noBuf r).rewatch pump) := by
  have hwork : pump < 16 ∧ (s.tick dt).pumpUp pump = true ∧
      (s.tick dt).pumps.rxFree.find 0 pump < (s.tick dt).bus.now * 2000 + 2000 := ⟨hp, hup, hfree⟩
  have hin' : (s.tick dt).fab.pumpIn.find [] pump = (r, x) :: rest := hin
  have hrun' : (s.tick dt).ringRuns r = false := hrun
  show execHqrRxFrame dt pump mem s = _
  simp only [execHqrRxFrame, if_pos hwork, hin', hrun']
  rfl

/-- A frame for a ring in host memory with a descriptor posted is written into its buffer, truncated where it is too long. -/
theorem exec_hqrRxFrame_of_posted (n : Nat) (w : List Nat) (s3 : State) (hrun : s.ringRuns r = true) (hrx : s.ringRx r = true)
    (hposted : s.pOld r ≠ s.cons r) (hhost : s.ringLocal r = false) (hlink : s.bus.pcieUp = true) (hfetch : s.fetchDesc r mem = some w)
    (hlen : w.getD 2 0 % 65536 ≠ 0) (hbuf : mem.bufOk = true)
    (hn : n = min (w.getD 2 0 % 65536) (s.fld (ringKey r R.HQR_BUFSZ) 0 14))
    (h3 : s3 = (((((s.tick dt).rxTaken pump rest).takeDesc r).ringBytes r (w.getD 0 0 + w.getD 1 0 * 2 ^ 32)
      (x.pkt.bytes.take n)).addWrap (rk (pmpPage pump) R.PMP_RX_PKTS) 1).add64 (rk (pmpPage pump) R.PMP_RX_BYTES_LO)
        (x.pkt.bytes.take n).length) :
    exec (.hqrRxFrame dt pump mem) s = .next ((s3.rxUntil pump (max (s.pumps.rxFree.find 0 pump) ((s.bus.now + dt) * 2000) +
        pumpTime (x.pkt.bytes.take n).length (s.fld (rk (pmpPage pump) R.PMP_RATE_RX) 0 24))).completeDesc r
      (if n < x.pkt.bytes.length then 1 else 0) (x.pkt.bytes.take n).length (bitOf 16 (w.getD 2 0)) (some (s.rxWord3 r x))
      (some x.pkt.ta) true) := by
  have hwork : pump < 16 ∧ (s.tick dt).pumpUp pump = true ∧
      (s.tick dt).pumps.rxFree.find 0 pump < (s.tick dt).bus.now * 2000 + 2000 := ⟨hp, hup, hfree⟩
  have hin' : (s.tick dt).fab.pumpIn.find [] pump = (r, x) :: rest := hin
  have hrun' : (s.tick dt).ringRuns r = true := hrun
  have hrx' : (s.tick dt).ringRx r = true := hrx
  have hposted' : decide ((s.tick dt).pOld r ≠ (s.tick dt).cons r) = true := decide_eq_true hposted
  have hlink' : (s.tick dt).bus.pcieUp = true := hlink
  have hhost' : (s.tick dt).ringLocal r = false := hhost
  have hfetch' : (s.tick dt).fetchDesc r mem = some w := hfetch
  subst hn h3
  show execHqrRxFrame dt pump mem s = _
  simp only [execHqrRxFrame, if_pos hwork, hin', hrun', hrx', hposted', hhost', hlink', hfetch', hlen, hbuf]
  rfl

end

/-! ### The PCIe link (R179) -/

theorem entryGranted_pmpPage : ∀ p < 16, entryGranted (pmpPage p) = false := by
  decide

theorem reportKey_pmpPage {p off : Nat} (hp : p < 16) (ho : off < 4096 := by decide) : reportKey (rk (pmpPage p) off) = false := by
  have hpage : pmpPage p = 0x1C00 + p := rfl
  exact reportKey_rk (pmpPage p) off (by omega) ho ⟨by omega, by omega, by omega⟩

/-- PMP_STATUS of a pump, whose bit 1 shows the PCIe link lost (Table 6-10). -/
def pumpStatus (p : Nat) : Nat := rk (pmpPage p) R.PMP_STATUS

/-- A pump shows the PCIe link lost and raises EV201. -/
def State.pumpLinkLost (s : State) (p : Nat) : State := (s.setBit (pumpStatus p) 1 true).raise (pmpPage p) 1

theorem State.after_pumpLinkLost (s : State) (hr : s.bus.Ranged) (p : Nat) (hp : p < 16) :
    s.After (s.pumpLinkLost p) [pumpStatus p, pendKey (pmpPage p)] :=
  ((State.After.refl _ _).setBit _ _ _ (by simp)).raise hr _ _ (entryGranted_pmpPage p hp) (by simp)

/-- A pump that lost the link shows it, and a pump that showed it before still does. -/
theorem State.bit_pumpLinkLost (s : State) (hr : s.bus.Ranged) (p q : Nat) (hp : p < 16) (hq : q < 16)
    (h : q = p ∨ s.bit (pumpStatus q) 1 = true) : (s.pumpLinkLost p).bit (pumpStatus q) 1 = true := by
  have hr' := hr.of_after ((State.After.refl s [pumpStatus p]).setBit (pumpStatus p) 1 true (by simp))
  have hset : (s.setBit (pumpStatus p) 1 true).bit (pumpStatus q) 1 = true := by
    rcases h with rfl | h
    · exact s.bit_setBit _ 1 true (by decide)
    · exact s.bit_setBit_same_value _ 1 true _ (by decide) h
  have hne : pumpStatus q ≠ pendKey (pmpPage p) := fun h =>
    absurd ((rk_inj _ R.PMP_STATUS _ hdrEvtPend (by decide) (by decide)).mp h).2 (by decide)
  exact (congrArg (bitOf 1) (State.rd_raise _ hr' _ _ _ (entryGranted_pmpPage p hp) hne (reportKey_pmpPage hq))).trans hset

theorem State.bit_foldl_pumpLinkLost (l : List Nat) (hl : ∀ p ∈ l, p < 16) (s : State) (hr : s.bus.Ranged) (q : Nat) (hq : q < 16)
    (h : q ∈ l ∨ s.bit (pumpStatus q) 1 = true) : (l.foldl State.pumpLinkLost s).bit (pumpStatus q) 1 = true := by
  induction l generalizing s with
  | nil => exact h.resolve_left List.not_mem_nil
  | cons p l ih =>
    have hp : p < 16 := hl p List.mem_cons_self
    refine ih (fun p hp => hl p (List.mem_cons_of_mem _ hp)) _ (hr.of_after (s.after_pumpLinkLost hr p hp)) ?_
    rcases h with h | h
    · exact (List.mem_cons.mp h).symm.imp_right fun h => s.bit_pumpLinkLost hr p q hp hq (.inl h)
    · exact .inr (s.bit_pumpLinkLost hr p q hp hq (.inr h))

/-- A ring stops without further completions. -/
def State.ringHalt (s : State) (r : Nat) : State :=
  (s.setBit (ringKey r R.HQR_STATUS) 1 true).setBit (ringKey r R.HQR_STATUS) 0 false

theorem State.after_foldl_ringHalt (s : State) (l : List Nat) :
    s.After (l.foldl State.ringHalt s) (l.map fun r => ringKey r R.HQR_STATUS) :=
  List.foldlRecOn (motive := fun a : State => s.After a (l.map fun r => ringKey r R.HQR_STATUS)) l _ (State.After.refl _ _)
    fun _ ha _ hm => (ha.setBit _ _ _ (List.mem_map_of_mem hm)).setBit _ _ _ (List.mem_map_of_mem hm)

theorem State.foldl_pumpLinkLost_eq_with_bus {s t : State} (h : t = { s with bus := t.bus }) (l : List Nat) :
    l.foldl State.pumpLinkLost t = { s with bus := (l.foldl State.pumpLinkLost t).bus } :=
  List.foldlRecOn (motive := fun a : State => a = { s with bus := a.bus }) l _ h
    fun _ ha p _ => State.on_eq_with_bus (State.on_eq_with_bus ha (·.setBit (pumpStatus p) 1 true)) (·.raise (pmpPage p) 1)

/-- The PCIe link, up or down. -/
def State.pcieLink (s : State) (up : Bool) : State := s.on (fun b => { b with pcieUp := up })

theorem State.rd_pcieLink (s : State) (up : Bool) (k : Nat) : (s.pcieLink up).rd k = s.rd k := rfl

/-- The link is lost: rings stop (those in host memory that run), and every pump shows it. -/
theorem exec_pcieLinkLoss (dt : Nat) (s : State) : ∃ rings : List Nat, exec (.pcieLinkLoss dt) s =
    .next (((List.range 16).foldl State.pumpLinkLost (rings.foldl State.ringHalt (s.tick dt))).pcieLink false) :=
  ⟨_, rfl⟩

theorem pcieLinkLoss_shows (dt : Nat) (s : State) (hr : s.bus.Ranged) : ∃ t, exec (.pcieLinkLoss dt) s = .next t ∧
    t.bus.pcieUp = false ∧ (∀ p, p < 16 → t.bit (rk (pmpPage p) R.PMP_STATUS) 1 = true) ∧ t = { s.tick dt with bus := t.bus } := by
  obtain ⟨rings, hexec⟩ := exec_pcieLinkLoss dt s
  have hhalt := (s.tick dt).after_foldl_ringHalt rings
  have hr' : (rings.foldl State.ringHalt (s.tick dt)).bus.Ranged := Bus.Ranged.of_after (s := s.tick dt) hr hhalt
  have hbits := fun p hp => State.bit_foldl_pumpLinkLost (List.range 16) (fun _ => List.mem_range.mp) _ hr' p hp
    (.inl (List.mem_range.mpr hp))
  exact ⟨_, hexec, rfl, fun p hp => (congrArg (bitOf 1) (State.rd_pcieLink _ _ _)).trans (hbits p hp),
    State.on_eq_with_bus (State.foldl_pumpLinkLost_eq_with_bus hhalt.1 (List.range 16)) _⟩

theorem exec_pcieLinkRetrained (dt : Nat) (s : State) : exec (.pcieLinkRetrained dt) s =
    .next (((s.tick dt).setBits pumpStatus 1 false (List.range 16)).pcieLink true) := rfl

theorem pcieLinkRetrained_shows (dt : Nat) (s : State) : ∃ t, exec (.pcieLinkRetrained dt) s = .next t ∧ t.bus.pcieUp = true ∧
    (∀ p, p < 16 → t.bit (rk (pmpPage p) R.PMP_STATUS) 1 = false) ∧
    (∀ k, (∀ p, p < 16 → k ≠ rk (pmpPage p) R.PMP_STATUS) → t.rd k = s.rd k) ∧ t = { s.tick dt with bus := t.bus } := by
  have hbits := fun p (hp : p < 16) => (s.tick dt).bit_setBits pumpStatus 1 false _ (by decide) (List.mem_range.mpr hp)
  have hrest := fun k (hk : ∀ p, p < 16 → k ≠ pumpStatus p) =>
    (s.tick dt).rd_setBits_of_ne pumpStatus 1 false (List.range 16) k fun p hp => hk p (List.mem_range.mp hp)
  exact ⟨_, exec_pcieLinkRetrained dt s, rfl, fun p hp => (congrArg (bitOf 1) (State.rd_pcieLink _ _ _)).trans (hbits p hp),
    fun k hk => (State.rd_pcieLink _ _ _).trans (hrest k hk),
    State.on_eq_with_bus ((s.tick dt).after_setBits pumpStatus 1 false (List.range 16)).1 _⟩

/-! ### A pump that hangs (R180) -/

theorem exec_pumpHang_of_posted (dt pump : Nat) (s : State) (hdue : (s.tick dt).due (tHang pump) = true)
    (hposted : s.ringsPosted pump ≠ []) (hnone : s.pumps.fetched.cells = []) : exec (.pumpHang dt pump) s =
      .next ((((s.tick dt).disarm (tHang pump)).fault 53 { page := pmpPage pump, engine := pump }).watchPump pump) := by
  have hwork : ¬ ((((s.tick dt).disarm (tHang pump)).ringsPosted pump).isEmpty = true ∧
      (((s.tick dt).disarm (tHang pump)).fab.pumpIn.find [] pump).isEmpty = true) := fun h => hposted (List.isEmpty_iff.mp h.1)
  have hnone' : (((s.tick dt).disarm (tHang pump)).fault 53 { page := pmpPage pump, engine := pump }).pumps.fetched.cells = [] := hnone
  refine congrArg _ (((s.tick dt).onExpiry_due (tHang pump) _ hdue).trans ?_)
  simp only [if_neg hwork, hnone', List.map_nil, List.filter_nil, List.foldl_nil]

/-- Settles O20: one lemma for each command and outcome; the registers of a ring by the laws of a written register. -/
theorem ringsArePostedAndPumpsComplete : Obligations.RingsArePostedAndPumpsComplete := by
  refine ⟨?doorbell, ?beyond, fun dt vi r value s _ ha hu => exec_hqrDoorbell_of_disabled dt vi r s ha hu value, ?enable,
    fun dt vi r ctrl s _ ha hu => exec_hqrEnable_of_running dt vi r ctrl s ha hu, ?disable, ?stop, ?write, ?read, ?txEmpty, ?txSent,
    exec_hqrTxDescriptor_of_idle, exec_hqrRxFrame_of_stopped, ?rxPosted, pcieLinkLoss_shows, pcieLinkRetrained_shows,
    exec_pumpHang_of_posted⟩
  case doorbell =>
    rintro dt vi r value _ s - ha hu hready hen hrx rfl hin
    refine ⟨_, exec_hqrDoorbell_of_accepted dt vi r s ha hu value hready hen hrx hin, ?_,
      (State.After.refl _ _).setFld _ _ _ _ (by simp)⟩
    exact (State.fld_setFld _ _ 0 16 _ (by decide)).trans (Nat.mod_mod _ _)
  case beyond =>
    rintro dt vi r value _ s - ha hu hready hen rfl hout
    exact exec_hqrDoorbell_of_beyond dt vi r s ha hu value hready hen hout
  case enable =>
    intro dt vi r ctrl s _ ha hu hrun hown hsize
    have hen : bitOf 0 (ringCtrl true ctrl) = true := bitOf_setBitOf 0 true _
    obtain ⟨hold, hcons, hcomp⟩ := (s.tick dt).ringStart_indices r (ringCtrl true ctrl)
    refine ⟨_, exec_hqrEnable_of_stopped dt vi r ctrl s ha hu hrun hown hsize, State.ringStart_en _ r _ hen, hold, hcons, hcomp,
      State.ringStart_runs _ r _ hen, ?_, State.after_ringStart _ r _⟩
    rw [State.ringStart_size, ringCtrl_size]
  case disable =>
    intro dt vi r ctrl s _ ha hu hsize
    exact ⟨_, exec_hqrDisable_of_none_fetched dt vi r ctrl s ha hu hsize, State.ringStop_en _ r _ (bitOf_setBitOf 0 false _),
      State.bit_setBit _ _ 0 _ (by decide), State.after_ringStop _ r _⟩
  case stop =>
    intro dt r s hr hen hrun hnone
    exact ⟨_, exec_hqrStopComplete_of_none_fetched dt r s hr hen hrun hnone, State.bit_setBit _ _ 0 _ (by decide),
      (State.After.refl _ _).setBit _ _ _ (by simp)⟩
  case write =>
    intro dt vi r v off s hr ha hu hoff hin
    refine ⟨_, exec_hqrMemDataAccess_write dt vi r s hr ha hu v off hoff hin, ?_, fun a hout => ?_,
      State.fld_setFld _ _ 2 22 _ (by decide), (State.After.refl _ _).setFld _ _ _ _ (by simp)⟩
    · exact (congrArg _ (leBytes_length 4 v).symm).trans ((s.tick dt).storeRead_storeWrite (s.storeAddr r off) (leBytes 4 v))
    · exact find_storePut_of_outside _ _ _ _ (by rwa [leBytes_length])
  case read =>
    intro dt vi r off s hr ha hu hoff hin
    refine ⟨_, exec_hqrMemDataAccess_read_outside dt vi r s hr ha hu off hoff hin, rfl, ?_, ?_⟩
    · exact (congrArg (bitOf 5) (Bus.rd_setFld_ne _ _ _ _ _ _ (ringKey_ne r (by decide)))).trans (State.bit_setBit _ _ 5 _ (by decide))
    · exact (((State.After.refl _ _).emit _).setBit _ _ _ (by simp)).setFld _ _ _ _ (by simp)
  case txEmpty =>
    rintro dt pump r _ mem s _ _ w hp hup hfree hnext rfl hfetch rfl rfl hlen
    exact exec_hqrTxDescriptor_of_empty dt pump r mem s w hp hup hfree hnext hfetch hlen
  case txSent =>
    rintro dt pump r _ ph _ _ mem s _ s1 _ s3 w hp hup hfree hnext rfl hfetch h1 rfl hlen hres2 hres3 hkind rfl hcls hdest hpath hfits
      hbuf hhost rfl h3 rfl
    exact exec_hqrTxDescriptor_of_sent dt pump r mem s w hp hup hfree hnext hfetch ph s1 s3 h1 hlen hres2 hres3 hkind hcls hdest hpath
      hfits hbuf hhost h3
  case rxPosted =>
    rintro dt pump r n _ mem s _ _ s3 x rest w hp hup hfree hin hrun hrx hposted hhost hlink hfetch hlen hbuf hn rfl rfl h3 rfl
    exact exec_hqrRxFrame_of_posted dt pump r mem s x rest hp hup hfree hin n w s3 hrun hrx hposted hhost hlink hfetch hlen hbuf hn h3

end Sys2Proof.Machine
end

section
/-! SUPPORT. The table of frame stores, the registers of a frame store's slot, and the reports of a store and of a pool (R188, R191). -/

namespace Sys2Proof.Machine

/-- What every step of a fold keeps, the fold keeps. -/
theorem State.foldl_keeps {β γ : Type} (g : State → γ) (l : List β) (f : State → β → State) (h : ∀ a, ∀ x ∈ l, g (f a x) = g a)
    (s : State) : g (l.foldl f s) = g s :=
  List.foldlRecOn (motive := fun a => g a = g s) l f rfl fun a ha x hx => (h a x hx).trans ha

/-! ### The table of stores -/

@[simp] theorem State.store_setStore (s : State) (j : Nat) (x : Store) : (s.setStore j x).store j = x :=
  SMap.find_put s.comp.stores Store.init x j

theorem State.store_setStore_ne (s : State) (j : Nat) (x : Store) (i : Nat) (h : i ≠ j) : (s.setStore j x).store i = s.store i :=
  SMap.find_put_ne s.comp.stores Store.init Store.init x j i h

/-- The stores are part of the composition. -/
theorem State.store_of_comp {s t : State} (h : t.comp = s.comp) (i : Nat) : t.store i = s.store i :=
  congrArg (fun c : Comp => c.stores.find Store.init i) h

theorem State.rd_setStore (s : State) (j : Nat) (x : Store) (k : Nat) : (s.setStore j x).rd k = s.rd k := rfl

theorem State.bit_setStore (s : State) (j : Nat) (x : Store) (k i : Nat) : (s.setStore j x).bit k i = s.bit k i := rfl

@[simp] theorem State.store_setBit (s : State) (k i : Nat) (v : Bool) (j : Nat) : (s.setBit k i v).store j = s.store j :=
  State.store_of_comp (s.setBit_comp k i v) j

/-- Whether a buffer is held depends on the canvases and on the last good frames (R191). -/
theorem State.bufHeld_congr {s t : State} (hc : t.comp.canvases = s.comp.canvases) (hg : t.comp.good = s.comp.good) (j b : Nat) :
    t.bufHeld j b = s.bufHeld j b := by
  simp only [State.bufHeld, hc, hg]

/-! ### The registers of a frame store's slot -/

theorem fsReg_ne (j : Nat) {off off' : Nat} (h : off ≠ off') : fsReg j off ≠ fsReg j off' := rk_ne_off _ (by omega)

/-- CMP_POOL_FREE stands at an offset below every frame store register. -/
theorem fsReg_ne_poolFree (j p : Nat) {off : Nat} (h1 : 0x400 ≤ off) (h2 : off < 0x480) : fsReg j off ≠ rk p R.CMP_POOL_FREE := by
  unfold fsReg rk R.CMP_POOL_FREE
  omega

/-- A bit of another register leaves the bits of a register. -/
theorem State.bit_setBit_other (s : State) (k i : Nat) (v : Bool) (j m : Nat) (h : j ≠ k) : (s.setBit k i v).bit j m = s.bit j m :=
  congrArg (bitOf m) (s.rd_setBit_ne k i v j h)

/-! ### The reports -/

@[simp] theorem State.fsReport_comp (s : State) (j : Nat) : (s.fsReport j).comp = s.comp := by
  simp only [State.fsReport, State.setFld_comp]
  refine State.foldl_keeps State.comp _ _ (fun _ _ _ => ?_) s
  rfl

@[simp] theorem State.poolReport_comp (s : State) (d : Nat) : (s.poolReport d).comp = s.comp := by
  unfold State.poolReport
  refine State.foldl_keeps State.comp _ _ (fun _ _ _ => ?_) s
  rfl

theorem State.rd_setFld_ne (s : State) (k lo w v j : Nat) (h : j ≠ k) : (s.setFld k lo w v).rd j = s.rd j :=
  s.bus.rd_setFld_ne k lo w v j h

/-- The report of a store writes its FS_STATUS alone. -/
theorem State.rd_fsReport_ne (s : State) (j k : Nat) (h : k ≠ fsReg j R.FS_STATUS) : (s.fsReport j).rd k = s.rd k := by
  simp only [State.fsReport, State.rd_setFld_ne _ _ _ _ _ _ h]
  exact State.foldl_keeps (State.rd · k) _ _ (fun a _ _ => a.rd_setFld_ne _ _ _ _ _ h) s

/-- The report of a store leaves EN_ST and the refusals of FS_STATUS. -/
theorem State.bit_fsReport (s : State) (j i : Nat) (h : i < 4) :
    (s.fsReport j).bit (fsReg j R.FS_STATUS) i = s.bit (fsReg j R.FS_STATUS) i := by
  unfold State.fsReport
  dsimp only
  rw [State.bit_setFld_of_disjoint _ _ 16 4 _ i (by decide) (by omega), State.bit_setFld_of_disjoint _ _ 4 3 _ i (by decide) (by omega)]
  refine State.foldl_keeps (State.bit · (fsReg j R.FS_STATUS) i) _ _ (fun a b hb => ?_) s
  have hb4 : b < 4 := List.mem_range.mp hb
  exact a.bit_setFld_of_disjoint _ (8 + 2 * b) 2 _ i (by omega) (by omega)

/-- The report of a pool leaves the registers of the frame stores. -/
theorem State.rd_poolReport (s : State) (d j : Nat) {off : Nat} (h1 : 0x400 ≤ off) (h2 : off < 0x480) :
    (s.poolReport d).rd (fsReg j off) = s.rd (fsReg j off) := by
  unfold State.poolReport
  exact State.foldl_keeps (State.rd · (fsReg j off)) _ _ (fun a _ _ => a.rd_wr_ne _ _ _ (fsReg_ne_poolFree j _ h1 h2)) s

/-- The report of a store after that of its pool. -/
def State.fsPoolReport (s : State) (d j : Nat) : State := (s.poolReport d).fsReport j

@[simp] theorem State.fsPoolReport_comp (s : State) (d j : Nat) : (s.fsPoolReport d j).comp = s.comp :=
  (State.fsReport_comp _ j).trans (s.poolReport_comp d)

theorem State.fsPoolReport_en (s : State) (d j : Nat) : (s.fsPoolReport d j).fsEn j = s.fsEn j :=
  congrArg (bitOf 0) ((State.rd_fsReport_ne _ j _ (fsReg_ne j (by decide))).trans (s.rd_poolReport d j (by decide) (by decide)))

theorem State.bit_fsPoolReport (s : State) (d j i : Nat) (h : i < 4) :
    (s.fsPoolReport d j).bit (fsReg j R.FS_STATUS) i = s.bit (fsReg j R.FS_STATUS) i :=
  (State.bit_fsReport _ j i h).trans (congrArg (bitOf i) (s.rd_poolReport d j (by decide) (by decide)))

end Sys2Proof.Machine
end

section
/-! SUPPORT. Enabling and disabling a frame store, by outcome (R188). -/

namespace Sys2Proof.Machine

/-! ### The value written to FS_CTRL -/

theorem bitOf_zero_fsCtrl_enable (value : Nat) : bitOf 0 (maskOf 0x0000FF7F (value / 2 * 2 + 1)) = true := by
  have h1 : Nat.testBit (value / 2 * 2 + 1) 0 = true := by
    rw [Nat.testBit_zero, decide_eq_true_eq]
    omega
  rw [bitOf_eq_testBit, testBit_maskOf, h1]
  decide

/-- A value whose bits all lie in a mask still does after its lowest bit was cleared. -/
theorem maskOf_clear_lowest (m v : Nat) (h : v &&& m = v) : maskOf m (v / 2 * 2) = v / 2 * 2 := by
  apply Nat.eq_of_testBit_eq
  intro i
  rw [testBit_maskOf]
  cases i with
  | zero => simp
  | succ i =>
    have hi : (v.testBit (i + 1) && m.testBit (i + 1)) = v.testBit (i + 1) := by rw [← Nat.testBit_and, h]
    rw [Nat.testBit_succ, Nat.mul_div_cancel _ (by decide), ← Nat.testBit_succ]
    exact hi

theorem State.fsCtrlWrite_of_enable (s : State) (j value : Nat) (hen : s.fsEn j = false) :
    s.fsCtrlWrite j (value / 2 * 2 + 1) = (s.wr (fsReg j R.FS_CTRL) (maskOf 0x0000FF7F (value / 2 * 2 + 1))).fsEnable j :=
  (if_neg (ne_true_of_eq_false hen)).trans (if_pos (bitOf_zero_fsCtrl_enable value))

theorem State.fsCtrlWrite_of_change (s : State) (j value : Nat) (hen : s.fsEn j = true)
    (hch : maskOf 0x0000FF7F value / 2 ≠ s.rd (fsReg j R.FS_CTRL) / 2) : s.fsCtrlWrite j value = s.cfgErrEntry .win j :=
  (if_pos hen).trans (if_pos hch)

theorem State.fsCtrlWrite_of_disable (s : State) (j : Nat) (hen : s.fsEn j = true)
    (hm : s.rd (fsReg j R.FS_CTRL) &&& 0x0000FF7F = s.rd (fsReg j R.FS_CTRL)) :
    s.fsCtrlWrite j (s.rd (fsReg j R.FS_CTRL) / 2 * 2) = (s.setBit (fsReg j R.FS_CTRL) 0 false).fsDisable j := by
  have hv := maskOf_clear_lowest _ _ hm
  have hsame : ¬ maskOf 0x0000FF7F (s.rd (fsReg j R.FS_CTRL) / 2 * 2) / 2 ≠ s.rd (fsReg j R.FS_CTRL) / 2 := by
    rw [hv, Nat.mul_div_cancel _ (by decide)]
    exact fun h => h rfl
  have hoff : ¬ bitOf 0 (maskOf 0x0000FF7F (s.rd (fsReg j R.FS_CTRL) / 2 * 2)) = true := by
    rw [hv]
    simp [bitOf]
  exact (if_pos hen).trans ((if_neg hsame).trans (if_neg hoff))

/-! ### Enabling -/

section
variable (s : State) (j : Nat)

/-- The pool of the store's die has too few free blocks. -/
def State.fsNoSpace : Bool := decide (s.poolFree (s.fsDie j) + (s.store j).blocks < s.fsBlocks j)

/-- A coded store finds no decode engine. -/
def State.fsNoEngine : Bool := s.fsCoded j && (s.engineFor (s.fsDie j) j).isNone

/-- The die's stores would declare more pixels than it writes. -/
def State.fsTooFast : Bool :=
  decide (64000000000000 < (s.storesOn (s.fsDie j) j).foldl (fun n i => n + s.fsLoad i) 0 + s.fsLoad j)

/-- FS_STATUS names the reasons of a refusal: NOSPACE, NOENGINE, OVERLOAD. -/
def State.fsVerdict : State :=
  ((s.setBit (fsReg j R.FS_STATUS) 1 (s.fsNoSpace j)).setBit (fsReg j R.FS_STATUS) 2 (s.fsNoEngine j)).setBit (fsReg j R.FS_STATUS) 3
    (s.fsTooFast j)

/-- An enabled store: empty, with its blocks and its engine. -/
def Store.opened (x : Store) (blocks : Nat) (engine : Option Nat) : Store :=
  { x with
    ts := none, cur := none, xs := [], ended := [], newest := none, skip := 0, blocks := blocks, closing := false, engine := engine
    bufs := x.bufs.map (fun b => { b with writing := false }) }

@[simp] theorem State.store_fsVerdict (i : Nat) : (s.fsVerdict j).store i = s.store i := by
  simp only [State.fsVerdict, State.store_setBit]

theorem State.fsEnable_eq : s.fsEnable j =
    if s.fsNoSpace j || s.fsNoEngine j || s.fsTooFast j then ((s.fsVerdict j).setBit (fsReg j R.FS_CTRL) 0 false).cfgErrEntry .win j
    else (((s.fsVerdict j).setStore j (((s.fsVerdict j).store j).opened (s.fsBlocks j)
      (if (s.fsVerdict j).fsCoded j then s.engineFor (s.fsDie j) j else none))).setBit (fsReg j R.FS_STATUS) 0 true).fsPoolReport
        (s.fsDie j) j := by
  unfold State.fsEnable State.fsVerdict State.fsNoSpace State.fsNoEngine State.fsTooFast State.fsPoolReport Store.opened
  rfl

theorem State.bit_fsVerdict_noSpace : (s.fsVerdict j).bit (fsReg j R.FS_STATUS) 1 = s.fsNoSpace j :=
  (State.bit_setBit_ne _ _ 3 _ 1 (by decide) (by decide)).trans ((State.bit_setBit_ne _ _ 2 _ 1 (by decide) (by decide)).trans
    (State.bit_setBit _ _ 1 _ (by decide)))

theorem State.bit_fsVerdict_noEngine : (s.fsVerdict j).bit (fsReg j R.FS_STATUS) 2 = s.fsNoEngine j :=
  (State.bit_setBit_ne _ _ 3 _ 2 (by decide) (by decide)).trans (State.bit_setBit _ _ 2 _ (by decide))

theorem State.bit_fsVerdict_tooFast : (s.fsVerdict j).bit (fsReg j R.FS_STATUS) 3 = s.fsTooFast j :=
  State.bit_setBit _ _ 3 _ (by decide)

theorem State.rd_fsVerdict_ctrl : (s.fsVerdict j).rd (fsReg j R.FS_CTRL) = s.rd (fsReg j R.FS_CTRL) :=
  (State.rd_setBit_ne _ _ _ _ _ (fsReg_ne j (by decide))).trans ((State.rd_setBit_ne _ _ _ _ _ (fsReg_ne j (by decide))).trans
    (State.rd_setBit_ne _ _ _ _ _ (fsReg_ne j (by decide))))

theorem State.after_fsVerdict {ks : List Nat} (h : fsReg j R.FS_STATUS ∈ ks) : s.After (s.fsVerdict j) ks :=
  (((State.After.refl _ _).setBit _ _ _ h).setBit _ _ _ h).setBit _ _ _ h

/-- A store that a test refuses stays disabled (R188). -/
theorem State.fsEnable_of_refused (h : (s.fsNoSpace j || s.fsNoEngine j || s.fsTooFast j) = true) :
    s.fsEnable j = ((s.fsVerdict j).setBit (fsReg j R.FS_CTRL) 0 false).cfgErrEntry .win j :=
  (s.fsEnable_eq j).trans (if_pos h)

/-- A store that passes every test is reserved (R188). -/
def State.fsOpen : State :=
  (((s.fsVerdict j).setStore j ((s.store j).opened (s.fsBlocks j) (if s.fsCoded j then s.engineFor (s.fsDie j) j else none))).setBit
    (fsReg j R.FS_STATUS) 0 true).fsPoolReport (s.fsDie j) j

theorem State.fsEnable_of_accepted (h1 : s.fsNoSpace j = false) (h2 : s.fsNoEngine j = false) (h3 : s.fsTooFast j = false) :
    s.fsEnable j = s.fsOpen j := by
  have hc : (s.fsVerdict j).fsCoded j = s.fsCoded j := congrArg (bitOf 2) (s.rd_fsVerdict_ctrl j)
  rw [s.fsEnable_eq j, h1, h2, h3, hc, s.store_fsVerdict j j, State.fsOpen]
  exact if_neg Bool.false_ne_true

theorem State.store_fsOpen : (s.fsOpen j).store j =
    (s.store j).opened (s.fsBlocks j) (if s.fsCoded j then s.engineFor (s.fsDie j) j else none) := by
  rw [State.fsOpen, State.store_of_comp (State.fsPoolReport_comp _ _ j), State.store_setBit, State.store_setStore]

theorem State.store_fsOpen_ne (i : Nat) (h : i ≠ j) : (s.fsOpen j).store i = s.store i := by
  rw [State.fsOpen, State.store_of_comp (State.fsPoolReport_comp _ _ j), State.store_setBit, State.store_setStore_ne _ _ _ _ h,
    State.store_fsVerdict]

theorem State.fsOpen_en : (s.fsOpen j).fsEn j = s.fsEn j := by
  refine (State.fsPoolReport_en _ _ j).trans (congrArg (bitOf 0) ?_)
  refine (State.rd_setBit_ne _ _ _ _ _ (fsReg_ne j (by decide))).trans ((State.rd_setStore _ _ _ _).trans (s.rd_fsVerdict_ctrl j))

theorem State.fsOpen_runs : (s.fsOpen j).bit (fsReg j R.FS_STATUS) 0 = true :=
  (State.bit_fsPoolReport _ _ j 0 (by decide)).trans (State.bit_setBit _ _ 0 _ (by decide))

/-- The refusals of FS_STATUS after an accepted store are those of its tests. -/
theorem State.bit_fsOpen (i : Nat) (h0 : i ≠ 0) (h4 : i < 4) :
    (s.fsOpen j).bit (fsReg j R.FS_STATUS) i = (s.fsVerdict j).bit (fsReg j R.FS_STATUS) i :=
  (State.bit_fsPoolReport _ _ j i h4).trans ((State.bit_setBit_ne _ _ 0 _ i (by decide) h0).trans
    (congrArg (bitOf i) (State.rd_setStore _ _ _ _)))

end

/-! ### Disabling -/

section
variable (s : State) (j : Nat)

/-- A disabled store: its frames are lost, and its blocks wait for the last hold to end. -/
def Store.closed (x : Store) : Store :=
  { x with
    ts := none, cur := none, xs := [], ended := [], newest := none, engine := none, closing := true
    bufs := x.bufs.map (fun b => { b with writing := false }) }

/-- A store that is disabled, before its blocks return. -/
def State.fsClose : State :=
  (((((s.setStore j (s.store j).closed).setBit (fsReg j R.FS_STATUS) 0 false).wr (fsReg j R.FS_LAST_TC0) 0).wr (fsReg j R.FS_LAST_TC1) 0).wr
    (fsReg j R.FS_LAST_TC2) 0).fsReport j

theorem State.fsClose_comp : (s.fsClose j).comp = (s.setStore j (s.store j).closed).comp := State.fsReport_comp _ j

theorem State.store_fsClose : (s.fsClose j).store j = (s.store j).closed :=
  (State.store_of_comp (s.fsClose_comp j) j).trans (s.store_setStore j _)

theorem State.store_fsClose_ne (i : Nat) (h : i ≠ j) : (s.fsClose j).store i = s.store i :=
  (State.store_of_comp (s.fsClose_comp j) i).trans (s.store_setStore_ne j _ i h)

theorem State.bufHeld_fsClose (b : Nat) : (s.fsClose j).bufHeld j b = s.bufHeld j b :=
  State.bufHeld_congr (congrArg Comp.canvases (s.fsClose_comp j)) (congrArg Comp.good (s.fsClose_comp j)) j b

theorem State.fsClose_en : (s.fsClose j).fsEn j = s.fsEn j :=
  congrArg (bitOf 0) ((State.rd_fsReport_ne _ j _ (fsReg_ne j (by decide))).trans
    ((State.rd_wr_ne _ _ _ _ (fsReg_ne j (by decide))).trans ((State.rd_wr_ne _ _ _ _ (fsReg_ne j (by decide))).trans
      ((State.rd_wr_ne _ _ _ _ (fsReg_ne j (by decide))).trans (State.rd_setBit_ne _ _ _ _ _ (fsReg_ne j (by decide)))))))

theorem State.fsClose_stopped : (s.fsClose j).bit (fsReg j R.FS_STATUS) 0 = false :=
  (State.bit_fsReport _ j 0 (by decide)).trans ((congrArg (bitOf 0)
    ((State.rd_wr_ne _ _ _ _ (fsReg_ne j (by decide))).trans ((State.rd_wr_ne _ _ _ _ (fsReg_ne j (by decide))).trans
      (State.rd_wr_ne _ _ _ _ (fsReg_ne j (by decide)))))).trans (State.bit_setBit _ _ 0 _ (by decide)))

/-- A store that closes gives back its blocks where none of its buffers is held (R188). -/
theorem State.fsReturn_of_free (hc : (s.store j).closing = true) (hf : ∀ b, b < 4 → s.bufHeld j b = false) :
    s.fsReturn j = (s.setStore j Store.init).fsPoolReport (s.fsDie j) j := by
  have hall : (List.range 4).all (fun b => !s.bufHeld j b) = true :=
    List.all_eq_true.mpr fun b hb => by rw [hf b (List.mem_range.mp hb)]; rfl
  exact if_pos ⟨hc, hall⟩

/-- A disabled store whose blocks have returned. -/
def State.fsFreed : State := ((s.fsClose j).setStore j Store.init).fsPoolReport ((s.fsClose j).fsDie j) j

theorem State.fsFreed_comp : (s.fsFreed j).comp = ((s.fsClose j).setStore j Store.init).comp := State.fsPoolReport_comp _ _ j

theorem State.store_fsFreed : (s.fsFreed j).store j = Store.init :=
  (State.store_of_comp (s.fsFreed_comp j) j).trans (State.store_setStore _ j _)

theorem State.store_fsFreed_ne (i : Nat) (h : i ≠ j) : (s.fsFreed j).store i = s.store i :=
  (State.store_of_comp (s.fsFreed_comp j) i).trans ((State.store_setStore_ne _ j _ i h).trans (s.store_fsClose_ne j i h))

theorem State.fsFreed_en : (s.fsFreed j).fsEn j = s.fsEn j :=
  (State.fsPoolReport_en _ _ j).trans ((State.bit_setStore _ j _ _ 0).trans (s.fsClose_en j))

theorem State.fsFreed_stopped : (s.fsFreed j).bit (fsReg j R.FS_STATUS) 0 = false :=
  (State.bit_fsPoolReport _ _ j 0 (by decide)).trans ((State.bit_setStore _ j _ _ 0).trans (s.fsClose_stopped j))

/-- A store is disabled while none of its buffers is held (R188). -/
theorem State.fsDisable_of_free (hf : ∀ b, b < 4 → s.bufHeld j b = false) : s.fsDisable j = s.fsFreed j :=
  State.fsReturn_of_free _ j ((congrArg Store.closing (s.store_fsClose j)).trans rfl)
    fun b hb => (s.bufHeld_fsClose j b).trans (hf b hb)

/-- A store of which a buffer is held keeps its blocks (R188). -/
theorem State.fsReturn_of_held (b : Nat) (hb : b < 4) (hh : s.bufHeld j b = true) : s.fsReturn j = s := by
  refine if_neg fun h => ?_
  have hfree := List.all_eq_true.mp h.2 b (List.mem_range.mpr hb)
  rw [hh] at hfree
  exact Bool.false_ne_true hfree

/-- A store is disabled while one of its buffers is held (R188). -/
theorem State.fsDisable_of_held (b : Nat) (hb : b < 4) (hh : s.bufHeld j b = true) : s.fsDisable j = s.fsClose j :=
  State.fsReturn_of_held _ j b hb ((s.bufHeld_fsClose j b).trans hh)

end

/-! ### The commands -/

/-- The state as FS_DISABLE finds it once EN of FS_CTRL is cleared. -/
def State.fsOff (s : State) (dt j : Nat) : State := (s.tick dt).setBit (fsReg j R.FS_CTRL) 0 false

theorem State.fsOff_comp (s : State) (dt j : Nat) : (s.fsOff dt j).comp = s.comp := State.setBit_comp _ _ _ _

theorem State.fsOff_en (s : State) (dt j : Nat) : (s.fsOff dt j).fsEn j = false := State.bit_setBit _ _ 0 _ (by decide)

theorem State.bufHeld_fsOff (s : State) (dt j b : Nat) : (s.fsOff dt j).bufHeld j b = s.bufHeld j b :=
  State.bufHeld_congr (congrArg Comp.canvases (s.fsOff_comp dt j)) (congrArg Comp.good (s.fsOff_comp dt j)) j b

section
variable (dt vi j : Nat) (s : State) (ha : s.bus.access .win j vi = 2) (hu : s.bus.pageUp (winPage j) = true)
include ha hu

theorem exec_fsEnable_of_disabled (value : Nat) (hen : s.fsEn j = false) : exec (.fsEnable dt vi j value) s =
    .next (((s.tick dt).wr (fsReg j R.FS_CTRL) (maskOf 0x0000FF7F (value / 2 * 2 + 1))).fsEnable j) :=
  congrArg _ (((s.tick dt).guardEntry_owner vi .win _ j _ ha hu).trans ((s.tick dt).fsCtrlWrite_of_enable j value hen))

theorem exec_fsEnable_of_change (value : Nat) (hen : s.fsEn j = true)
    (hch : maskOf 0x0000FF7F (value / 2 * 2 + 1) / 2 ≠ s.rd (fsReg j R.FS_CTRL) / 2) :
    exec (.fsEnable dt vi j value) s = .next ((s.tick dt).cfgErrEntry .win j) :=
  congrArg _ (((s.tick dt).guardEntry_owner vi .win _ j _ ha hu).trans ((s.tick dt).fsCtrlWrite_of_change j _ hen hch))

theorem exec_fsDisable_of_enabled (hen : s.fsEn j = true)
    (hm : s.rd (fsReg j R.FS_CTRL) &&& 0x0000FF7F = s.rd (fsReg j R.FS_CTRL)) : exec (.fsDisable dt vi j) s =
      .next ((s.fsOff dt j).fsDisable j) :=
  congrArg _ (((s.tick dt).guardEntry_owner vi .win _ j _ ha hu).trans ((s.tick dt).fsCtrlWrite_of_disable j hen hm))

end

end Sys2Proof.Machine
end

section
/-! SUPPORT. What a packet, the end of a frame and a decode do to a frame store, by outcome (R189, R192, R193). -/

namespace Sys2Proof.Machine

/-! ### Packets (R189) -/

/-- The oldest packet delivered to the store is taken. -/
def State.storeTaken (s : State) (j : Nat) (rest : List Pkt) : State :=
  { s with fab := { s.fab with storeIn := s.fab.storeIn.put [] j rest } }

/-- The payload that a frame store reads: that of the packet's datagram. -/
def Pkt.storePayload (p : Pkt) : List Byte := match udpKey p.bytes with | some u => udpPayload p.bytes u.udp | none => []

/-- The store as a packet of timestamp `ts` finds it: a packet of a later frame ends the frame being received and begins its own. -/
def State.frameTurn (s : State) (j ts : Nat) : State :=
  match (s.store j).ts with
  | some t => if ts = t then s else if (ts + 2 ^ 32 - t) % 2 ^ 32 < 2 ^ 31 then (s.frameEnd j).frameBegin j ts else s
  | none => s.frameBegin j ts

theorem State.frameTurn_of_same (s : State) (j ts : Nat) (h : (s.store j).ts = some ts) : s.frameTurn j ts = s := by
  simp only [State.frameTurn, h, if_true]

theorem State.frameTurn_of_late (s : State) (j ts t : Nat) (h : (s.store j).ts = some t) (hne : ts ≠ t)
    (hl : 2 ^ 31 ≤ (ts + 2 ^ 32 - t) % 2 ^ 32) : s.frameTurn j ts = s := by
  simp only [State.frameTurn, h, if_neg hne, if_neg (Nat.not_lt_of_le hl)]

section
variable (dt j : Nat) (s : State) (p : Pkt) (rest : List Pkt) (hin : s.fab.storeIn.find [] j = p :: rest)
include hin

/-- A packet for a store that is disabled is dropped. -/
theorem exec_fsCapturePacket_of_disabled (hen : s.fsEn j = false) :
    exec (.fsCapturePacket dt j) s = .next ((s.tick dt).storeTaken j rest) := by
  have hin' : (s.tick dt).fab.storeIn.find [] j = p :: rest := hin
  show execFsCapturePacket dt j s = _
  simp only [execFsCapturePacket, hin']
  exact congrArg _ (if_pos (.inl hen))

section
variable (hen : s.fsEn j = true) (hrun : s.bus.domRuns (19 + s.fsDie j) = true)
include hen hrun

/-- A packet at a store that runs: it is written where its frame is the one being received, and the marker ends that frame. -/
theorem exec_fsCapturePacket_of_running (t : State) (ht : t = ((s.tick dt).storeTaken j rest).frameTurn j (rtpOf p.storePayload).ts) :
    exec (.fsCapturePacket dt j) s = .next (if (t.store j).ts = some (rtpOf p.storePayload).ts then
      (if (rtpOf p.storePayload).marker then (t.frameWrite j p.storePayload p).frameEnd j else t.frameWrite j p.storePayload p).fsReport j
      else t) := by
  have hin' : (s.tick dt).fab.storeIn.find [] j = p :: rest := hin
  have hwork : ¬ (s.fsEn j = false ∨ s.bus.domRuns (19 + s.fsDie j) = false) := by
    rw [hen, hrun]
    decide
  subst ht
  show execFsCapturePacket dt j s = _
  simp only [execFsCapturePacket, hin']
  exact congrArg _ (if_neg hwork)

theorem exec_fsCapturePacket_of_same (hts : (s.store j).ts = some (rtpOf p.storePayload).ts) (s1 : State)
    (h1 : s1 = (s.tick dt).storeTaken j rest) : exec (.fsCapturePacket dt j) s =
      .next ((if (rtpOf p.storePayload).marker then (s1.frameWrite j p.storePayload p).frameEnd j
        else s1.frameWrite j p.storePayload p).fsReport j) := by
  subst h1
  have hts' : (((s.tick dt).storeTaken j rest).store j).ts = some (rtpOf p.storePayload).ts := hts
  refine (exec_fsCapturePacket_of_running dt j s p rest hin hen hrun _ (State.frameTurn_of_same _ j _ hts').symm).trans ?_
  exact congrArg _ (if_pos hts')

/-- A packet of a frame that has already ended is late, and is not written. -/
theorem exec_fsCapturePacket_of_late (ts : Nat) (hts : (s.store j).ts = some ts) (hne : (rtpOf p.storePayload).ts ≠ ts)
    (hl : 2 ^ 31 ≤ ((rtpOf p.storePayload).ts + 2 ^ 32 - ts) % 2 ^ 32) :
    exec (.fsCapturePacket dt j) s = .next ((s.tick dt).storeTaken j rest) := by
  have hts' : (((s.tick dt).storeTaken j rest).store j).ts = some ts := hts
  refine (exec_fsCapturePacket_of_running dt j s p rest hin hen hrun _ (State.frameTurn_of_late _ j _ ts hts' hne hl).symm).trans ?_
  refine congrArg _ (if_neg fun h => hne ?_)
  exact (Option.some.inj (hts'.symm.trans h)).symm

end

end

/-! ### The end of a frame (R189, R190) -/

/-- The lines of a buffer that have not been received in full. -/
def State.missingLines (s : State) (j : Nat) (b : Buf) : List Nat :=
  (List.range (s.fsH j)).filter (fun r => match b.lines.find? r with | some l => !s.lineFull j l | none => true)

/-- The store after its oldest ended frame was completed into a buffer. -/
def Store.completed (x : Store) (e : Ended) (rest : List Ended) (b : Buf) : Store :=
  { x with ended := rest, newest := some e.buf, bufs := x.bufs.set e.buf b }

/-- A frame of capture time `tc` is complete: it is counted, and counted as filled where lines were missing. -/
def State.frameKept (s : State) (j : Nat) (x : Store) (filled : Bool) (tc : Option Nat) : State :=
  ((((((s.setStore j x).ifThen filled (·.addSat (fsReg j R.FS_CNT_FILLED) 1)).wr (fsReg j R.FS_LAST_TC0) (tcWord 0 tc)).wr
    (fsReg j R.FS_LAST_TC1) (tcWord 1 tc)).wr (fsReg j R.FS_LAST_TC2) (tcWord 2 tc)).addWrap (fsReg j R.FS_CNT_FRAMES) 1).fsReport j

theorem ite_not_isEmpty {α β : Type} (l : List α) (x y : β) [Decidable (l = [])] :
    (if (!l.isEmpty) = true then x else y) = if l = [] then y else x := by
  cases l <;> simp

theorem State.frameKept_comp (s : State) (j : Nat) (x : Store) (filled : Bool) (tc : Option Nat) :
    (s.frameKept j x filled tc).comp = (s.setStore j x).comp := by
  cases filled <;> simp only [State.frameKept, State.fsReport_comp, State.addWrap_comp, State.wr_comp, State.ifThen, State.addSat_comp,
    if_true, Bool.false_eq_true, if_false]

theorem State.rd_addSat_ne (s : State) (k n j : Nat) (h : j ≠ k) : (s.addSat k n).rd j = s.rd j := s.bus.rd_addSat_ne k n j h

theorem State.rd_addWrap (s : State) (k n : Nat) : (s.addWrap k n).rd k = (s.rd k + n) % 2 ^ 32 := s.bus.rd_addWrap k n

theorem State.rd_addWrap_ne (s : State) (k n j : Nat) (h : j ≠ k) : (s.addWrap k n).rd j = s.rd j := s.bus.rd_addWrap_ne k n j h

theorem State.rd_frameKept_frames (s : State) (j : Nat) (x : Store) (filled : Bool) (tc : Option Nat) :
    (s.frameKept j x filled tc).rd (fsReg j R.FS_CNT_FRAMES) = (s.rd (fsReg j R.FS_CNT_FRAMES) + 1) % 2 ^ 32 := by
  have hfilled : fsReg j R.FS_CNT_FRAMES ≠ fsReg j R.FS_CNT_FILLED := fsReg_ne j (by decide)
  rw [State.frameKept, State.rd_fsReport_ne _ _ _ (fsReg_ne j (by decide)), State.rd_addWrap, State.rd_wr_ne _ _ _ _ (fsReg_ne j (by decide)),
    State.rd_wr_ne _ _ _ _ (fsReg_ne j (by decide)), State.rd_wr_ne _ _ _ _ (fsReg_ne j (by decide))]
  cases filled
  · exact congrArg (fun n => (n + 1) % 2 ^ 32) (State.rd_setStore _ _ _ _)
  · exact congrArg (fun n => (n + 1) % 2 ^ 32) ((State.rd_addSat_ne _ _ _ _ hfilled).trans (State.rd_setStore _ _ _ _))

theorem State.rd_frameKept_filled (s : State) (j : Nat) (x : Store) (filled : Bool) (tc : Option Nat) :
    (s.frameKept j x filled tc).rd (fsReg j R.FS_CNT_FILLED) =
      if filled then min (s.rd (fsReg j R.FS_CNT_FILLED) + 1) 0xFFFFFFFF else s.rd (fsReg j R.FS_CNT_FILLED) := by
  rw [State.frameKept, State.rd_fsReport_ne _ _ _ (fsReg_ne j (by decide)), State.rd_addWrap_ne _ _ _ _ (fsReg_ne j (by decide)),
    State.rd_wr_ne _ _ _ _ (fsReg_ne j (by decide)), State.rd_wr_ne _ _ _ _ (fsReg_ne j (by decide)),
    State.rd_wr_ne _ _ _ _ (fsReg_ne j (by decide))]
  cases filled
  · exact State.rd_setStore _ _ _ _
  · exact (State.rd_addSat _ _ _).trans (congrArg (fun n => min (n + 1) 0xFFFFFFFF) (State.rd_setStore _ _ _ _))

section
variable (dt j : Nat) (s : State) (e : Ended) (rest : List Ended) (hend : (s.store j).ended = e :: rest)
include hend

section
variable (hraw : s.fsCoded j = false)
include hraw

/-- A frame with more lines missing than FS_CTRL tolerates is discarded as broken (R189). -/
theorem exec_fsFrameComplete_of_broken (hn : s.fld (fsReg j R.FS_CTRL) 8 8 * s.fsH j <
      (s.missingLines j ((s.store j).bufs.getD e.buf Buf.init)).length * 256) : exec (.fsFrameComplete dt j) s =
    .next (((((s.tick dt).frameDrop j e.buf).addSat (fsReg j R.FS_CNT_BROKEN) 1).fsEvent j 2).fsReport j) := by
  have hend' : ((s.tick dt).store j).ended = e :: rest := hend
  have hraw' : (s.tick dt).fsCoded j = false := hraw
  show execFsFrameComplete dt j s = _
  simp only [execFsFrameComplete, hend', hraw', Bool.false_eq_true, false_and, if_false]
  exact congrArg _ (if_pos hn)

/-- A frame with fewer lines missing is completed (R189, R190). -/
theorem exec_fsFrameComplete_of_kept (hn : (s.missingLines j ((s.store j).bufs.getD e.buf Buf.init)).length * 256 ≤
      s.fld (fsReg j R.FS_CTRL) 8 8 * s.fsH j) : ∃ b, exec (.fsFrameComplete dt j) s =
    .next ((s.tick dt).frameKept j ((s.store j).completed e rest b) (!(s.missingLines j ((s.store j).bufs.getD e.buf Buf.init)).isEmpty)
      ((s.store j).bufs.getD e.buf Buf.init).tc) := by
  have hend' : ((s.tick dt).store j).ended = e :: rest := hend
  have hraw' : (s.tick dt).fsCoded j = false := hraw
  have hexec : exec (.fsFrameComplete dt j) s = execFsFrameComplete dt j s := rfl
  simp only [hexec, execFsFrameComplete, hend', hraw', Bool.false_eq_true, false_and, if_false]
  exact ⟨_, congrArg _ (if_neg (Nat.not_lt_of_le hn))⟩

end

/-! ### Decoding (R192, R193) -/

section
variable (first count : Nat) (hen : s.fsEn j = true) (hcoded : s.fsCoded j = true) (hgood : e.bad = false)
include hen hcoded hgood

theorem exec_xsDecodeComplete_of_failed : exec (.xsDecodeComplete dt j first count false) s =
    .next (((s.tick dt).xsError j e.buf).fsReport j) := by
  have hend' : ((s.tick dt).store j).ended = e :: rest := hend
  have hen' : (s.tick dt).fsEn j = true := hen
  have hcoded' : (s.tick dt).fsCoded j = true := hcoded
  show execXsDecodeComplete dt j first count false s = _
  simp only [execXsDecodeComplete, hend', hen', hcoded', hgood]
  rfl

/-- A frame that decodes is marked decoded; nothing but its store changes. -/
theorem exec_xsDecodeComplete_of_decoded (heng : (s.store j).engine.isSome) : ∃ x : Store, x.ended = { e with decoded := true } :: rest ∧
    exec (.xsDecodeComplete dt j first count true) s = .next ((s.tick dt).setStore j x) := by
  have hend' : ((s.tick dt).store j).ended = e :: rest := hend
  have hen' : (s.tick dt).fsEn j = true := hen
  have hcoded' : (s.tick dt).fsCoded j = true := hcoded
  have heng' : ((s.tick dt).store j).engine.isNone = false := Option.isNone_eq_false_iff.mpr heng
  have hexec : exec (.xsDecodeComplete dt j first count true) s = execXsDecodeComplete dt j first count true s := rfl
  simp only [hexec, execXsDecodeComplete, hend', hen', hcoded', hgood, heng']
  exact ⟨_, rfl, rfl⟩

end

end

/-- Settles O21: enabling by the tests of R188, disabling by what is held, then packets, ends of frames and decodes by outcome. -/
theorem frameStoresReserveCaptureAndDecode : Obligations.FrameStoresReserveCaptureAndDecode := by
  refine ⟨?enable, ?refuse, fun dt vi j value s _ ha hu hen hch => exec_fsEnable_of_change dt vi j s ha hu value hen hch, ?free, ?held,
    ?same, ?late, ?off, ?broken, ?kept,
    fun dt j first count s e rest hend hen hcoded hgood => exec_xsDecodeComplete_of_failed dt j s e rest hend first count hen hcoded hgood,
    ?decoded⟩
  case enable =>
    rintro dt vi j value s s1 - ha hu hen hs1 hspace heng hload
    have h1 : s1.fsNoSpace j = false := decide_eq_false (Nat.not_lt_of_le hspace)
    have h2 : s1.fsNoEngine j = false := by
      rw [State.fsNoEngine, Bool.and_eq_false_imp]
      exact fun hc => Option.isNone_eq_false_iff.mpr (heng hc)
    have h3 : s1.fsTooFast j = false := decide_eq_false (Nat.not_lt_of_le hload)
    have hon : s1.fsEn j = true := by
      subst hs1
      exact (State.bit_wr _ _ _ 0 (by decide)).trans (bitOf_zero_fsCtrl_enable value)
    have hx := s1.store_fsOpen j
    refine ⟨s1.fsOpen j, ?_, (s1.fsOpen_en j).trans hon, s1.fsOpen_runs j, ?_, ?_, ?_, ?_, ?_, ?_, ?_, ?_⟩
    · subst hs1
      exact (exec_fsEnable_of_disabled dt vi j s ha hu value hen).trans (congrArg _ (State.fsEnable_of_accepted _ j h1 h2 h3))
    · rw [s1.bit_fsOpen j 1 (by decide) (by decide), s1.bit_fsVerdict_noSpace j, h1]
    · rw [s1.bit_fsOpen j 2 (by decide) (by decide), s1.bit_fsVerdict_noEngine j, h2]
    · rw [s1.bit_fsOpen j 3 (by decide) (by decide), s1.bit_fsVerdict_tooFast j, h3]
    · rw [hx, Store.opened]
    · rw [hx, Store.opened]
    · rw [hx, Store.opened]
    · rw [hx, Store.opened]
    · intro i hi
      refine (s1.store_fsOpen_ne j i hi).trans ?_
      subst hs1
      exact State.store_of_comp (State.wr_comp _ _ _) i
  case refuse =>
    rintro dt vi j value s s1 - ha hu hen hs1 hbad
    have hrefused : (s1.fsNoSpace j || s1.fsNoEngine j || s1.fsTooFast j) = true := by
      simp only [State.fsNoSpace, State.fsNoEngine, State.fsTooFast, Bool.or_eq_true, Bool.and_eq_true, decide_eq_true_eq,
        Option.isNone_iff_eq_none, or_assoc]
      exact hbad
    refine ⟨(s1.fsVerdict j).setBit (fsReg j R.FS_CTRL) 0 false, ?_, State.bit_setBit _ _ 0 _ (by decide), ?_, ?_, ?_, ?_⟩
    · subst hs1
      exact (exec_fsEnable_of_disabled dt vi j s ha hu value hen).trans (congrArg _ (State.fsEnable_of_refused _ j hrefused))
    · have hbit := (State.bit_setBit_other _ (fsReg j R.FS_CTRL) 0 false _ 1 (fsReg_ne j (by decide))).trans (s1.bit_fsVerdict_noSpace j)
      rw [hbit, State.fsNoSpace, decide_eq_true_eq]
    · have hbit := (State.bit_setBit_other _ (fsReg j R.FS_CTRL) 0 false _ 2 (fsReg_ne j (by decide))).trans (s1.bit_fsVerdict_noEngine j)
      rw [hbit, State.fsNoEngine, Bool.and_eq_true, Option.isNone_iff_eq_none]
    · subst hs1
      simp only [State.setBit_comp, State.fsVerdict, State.wr_comp, State.tick_comp]
    · subst hs1
      exact (((State.After.refl _ _).wr _ _ (by simp)).trans (State.after_fsVerdict _ j (by simp))).setBit _ _ _ (by simp)
  case free =>
    intro dt vi j s _ ha hu hen hm hfree
    have hfree' : ∀ b, b < 4 → (s.fsOff dt j).bufHeld j b = false := fun b hb => (s.bufHeld_fsOff dt j b).trans (hfree b hb)
    exact ⟨_, (exec_fsDisable_of_enabled dt vi j s ha hu hen hm).trans (congrArg _ (State.fsDisable_of_free _ j hfree')),
      (State.fsFreed_en _ j).trans (s.fsOff_en dt j), State.fsFreed_stopped _ j, State.store_fsFreed _ j,
      fun i hi => (State.store_fsFreed_ne _ j i hi).trans (State.store_of_comp (s.fsOff_comp dt j) i)⟩
  case held =>
    intro dt vi j b s _ ha hu hen hm hb hheld
    have hheld' : (s.fsOff dt j).bufHeld j b = true := (s.bufHeld_fsOff dt j b).trans hheld
    refine ⟨_, (exec_fsDisable_of_enabled dt vi j s ha hu hen hm).trans (congrArg _ (State.fsDisable_of_held _ j b hb hheld')),
      (State.fsClose_en _ j).trans (s.fsOff_en dt j), ?_, ?_,
      fun i hi => (State.store_fsClose_ne _ j i hi).trans (State.store_of_comp (s.fsOff_comp dt j) i)⟩
    · rw [State.store_fsClose, Store.closed]
    · rw [State.store_fsClose, Store.closed, State.store_of_comp (s.fsOff_comp dt j)]
  case same =>
    rintro dt j s _ p rest _ hin hen hrun rfl hts rfl
    exact exec_fsCapturePacket_of_same dt j s p rest hin hen hrun hts _ rfl
  case late =>
    rintro dt j s p rest _ ts hin hen hrun rfl hts hne hl
    exact exec_fsCapturePacket_of_late dt j s p rest hin hen hrun ts hts hne hl
  case off =>
    exact fun dt j s p rest hin hen => exec_fsCapturePacket_of_disabled dt j s p rest hin hen
  case broken =>
    rintro dt j _ s e rest _ _ hend hraw rfl rfl rfl hn
    exact exec_fsFrameComplete_of_broken dt j s e rest hend hraw hn
  case kept =>
    rintro dt j _ s e rest _ _ hend - hraw rfl rfl rfl hn
    obtain ⟨b, hexec⟩ := exec_fsFrameComplete_of_kept dt j s e rest hend hraw hn
    have hcomp := State.frameKept_comp (s.tick dt) j ((s.store j).completed e rest b)
    refine ⟨_, hexec, ?_, ?_, State.rd_frameKept_frames _ j _ _ _, (State.rd_frameKept_filled _ j _ _ _).trans ?_,
      fun i hi => (State.store_of_comp (hcomp _ _) i).trans (State.store_setStore_ne _ j _ i hi)⟩
    · rw [State.store_of_comp (hcomp _ _), State.store_setStore, Store.completed]
    · rw [State.store_of_comp (hcomp _ _), State.store_setStore, Store.completed]
    · exact ite_not_isEmpty _ _ _
  case decoded =>
    intro dt j first count s e rest hend hen hcoded hgood heng
    obtain ⟨x, hx, hexec⟩ := exec_xsDecodeComplete_of_decoded dt j s e rest hend first count hen hcoded hgood heng
    exact ⟨_, hexec, (congrArg Store.ended (State.store_setStore _ j x)).trans hx, rfl, fun i hi => State.store_setStore_ne _ j x i hi⟩

end Sys2Proof.Machine
end

section
/-! SUPPORT. The table of canvases, the registers of a canvas page, and what a report of the lanes and a layout epoch leave (R194, R209). -/

namespace Sys2Proof.Machine

/-! ### The table of canvases -/

@[simp] theorem State.canvas_setCanvas (s : State) (c : Nat) (x : Canvas) : (s.setCanvas c x).canvas c = x :=
  SMap.find_put s.comp.canvases Canvas.init x c

theorem State.canvas_setCanvas_ne (s : State) (c : Nat) (x : Canvas) (d : Nat) (h : d ≠ c) : (s.setCanvas c x).canvas d = s.canvas d :=
  SMap.find_put_ne s.comp.canvases Canvas.init Canvas.init x c d h

/-- The canvases are part of the composition. -/
theorem State.canvas_of_comp {s t : State} (h : t.comp = s.comp) (c : Nat) : t.canvas c = s.canvas c :=
  congrArg (fun x : Comp => x.canvases.find Canvas.init c) h

theorem State.rd_setCanvas (s : State) (c : Nat) (x : Canvas) (k : Nat) : (s.setCanvas c x).rd k = s.rd k := rfl

theorem State.canvas_setEpoch (s : State) (g : Nat) (e : Option Epoch) (c : Nat) : (s.setEpoch g e).canvas c = s.canvas c := rfl

theorem State.rd_setEpoch (s : State) (g : Nat) (e : Option Epoch) (k : Nat) : (s.setEpoch g e).rd k = s.rd k := rfl

/-! ### The registers of a canvas page -/

/-- Registers of different offsets differ, whatever their canvases. -/
theorem cnvKey_ne (c d : Nat) {off off' : Nat} (h : off ≠ off') (ho : off < 4096 := by decide) (ho' : off' < 4096 := by decide) :
    cnvKey c off ≠ cnvKey d off' :=
  fun he => h ((rk_inj _ _ _ _ ho ho').mp he).2

/-- The header of a canvas page stands apart from the registers of a lane. -/
theorem cnvKey_ne_cmpKey (c n : Nat) {off off' : Nat} (h : off < 0x40) (h1 : 0x40 ≤ off') (h2 : off' < 4096) :
    cnvKey c off ≠ cmpKey n off' :=
  fun he => absurd ((rk_inj _ _ _ _ (by omega) h2).mp he).2 (by omega)

@[simp] theorem State.lanesReport_comp (s : State) : s.lanesReport.comp = s.comp := by
  unfold State.lanesReport
  refine State.foldl_keeps State.comp _ _ (fun _ _ _ => ?_) s
  rfl

/-- The report of the lanes leaves the headers of the canvas pages. -/
theorem State.rd_lanesReport (s : State) (c : Nat) {off : Nat} (h : off < 0x40) : s.lanesReport.rd (cnvKey c off) = s.rd (cnvKey c off) := by
  unfold State.lanesReport
  refine State.foldl_keeps (State.rd · (cnvKey c off)) _ _ (fun a n _ => ?_) s
  exact (State.rd_wr_ne _ _ _ _ (cnvKey_ne_cmpKey c n h (by decide) (by decide))).trans
    ((State.rd_wr_ne _ _ _ _ (cnvKey_ne_cmpKey c n h (by decide) (by decide))).trans
      (State.rd_setBit_ne _ _ _ _ _ (cnvKey_ne_cmpKey c n h (by decide) (by decide))))

/-! ### The status of a layout epoch -/

@[simp] theorem State.epochStatus_comp (s : State) (g v : Nat) : (s.epochStatus g v).comp = s.comp := by
  unfold State.epochStatus
  refine State.foldl_keeps State.comp _ _ (fun _ _ _ => ?_) s
  rfl

/-- The status of an epoch is written to CNV_EPOCH_STATUS alone. -/
theorem State.rd_epochStatus_ne (s : State) (g v c : Nat) {off : Nat} (h : off ≠ R.CNV_EPOCH_STATUS) (ho : off < 4096) :
    (s.epochStatus g v).rd (cnvKey c off) = s.rd (cnvKey c off) := by
  unfold State.epochStatus
  exact State.foldl_keeps (State.rd · (cnvKey c off)) _ _ (fun a d _ => a.rd_wr_ne _ _ _ (cnvKey_ne c d h ho)) s

/-- A register that holds `v` still does after `v` was written to any register. -/
theorem State.rd_wr_same_value (s : State) (k v j : Nat) (h : s.rd j = v % 2 ^ 32) : (s.wr k v).rd j = v % 2 ^ 32 := by
  by_cases hj : j = k
  · rw [hj, State.rd_wr]
  · exact (s.rd_wr_ne k v j hj).trans h

/-- One value is written to a register of every canvas of a list. -/
theorem State.rd_foldl_wr (k : Nat → Nat) (v : Nat) (l : List Nat) (s : State) {d : Nat} (hd : d ∈ l) :
    (l.foldl (fun a c => a.wr (k c) v) s).rd (k d) = v % 2 ^ 32 := by
  induction l generalizing s with
  | nil => cases hd
  | cons c l ih =>
    rcases List.mem_cons.mp hd with rfl | hd
    · exact List.foldlRecOn (motive := fun a : State => a.rd (k d) = v % 2 ^ 32) l _ (s.rd_wr (k d) v)
        fun a ha c _ => a.rd_wr_same_value (k c) v (k d) ha
    · exact ih _ hd

theorem State.rd_epochStatus (s : State) (g v d : Nat) (hd : d ∈ s.groupCanvases g) :
    (s.epochStatus g v).rd (cnvKey d R.CNV_EPOCH_STATUS) = v % 2 ^ 32 :=
  State.rd_foldl_wr (cnvKey · R.CNV_EPOCH_STATUS) v _ s hd

theorem State.mem_canvases (s : State) (c : Nat) : c ∈ s.canvases ↔ c < 16 ∧ s.cnvEn c = true := by
  rw [State.canvases, List.mem_filter, List.mem_range]

theorem State.mem_groupCanvases (s : State) (g c : Nat) : c ∈ s.groupCanvases g ↔ (c < 16 ∧ s.cnvEn c = true) ∧ s.cnvGroup c = g := by
  rw [State.groupCanvases, List.mem_filter, State.mem_canvases, decide_eq_true_eq]

end Sys2Proof.Machine
end

section
/-! SUPPORT. Canvas enable and layout epochs, by outcome (R194, R209, R210, Table 7-2). -/

namespace Sys2Proof.Machine

/-! ### The request of a layout epoch (R209) -/

/-- What a layout epoch of a group takes: what is PENDING now. -/
def State.epochTaken (s : State) (g : Nat) : Epoch :=
  ⟨(s.groupCanvases g).filter (fun c => s.bit (cnvKey c hdrShadowCtrl) 2),
    s.comp.wpend.filter (fun w => decide (s.cnvGroup (s.winCnvR s.bus.rdShadow w) = g)), none⟩

theorem State.mem_epochTaken_pages (s : State) (g d : Nat) :
    d ∈ (s.epochTaken g).pages ↔ d ∈ s.groupCanvases g ∧ s.bit (cnvKey d hdrShadowCtrl) 2 = true := List.mem_filter

theorem State.epochRequest_of_progress (s : State) (g : Nat) (h : (s.comp.epochs.find? g).isSome) : s.epochRequest g = s :=
  if_pos (.inl h)

theorem State.epochRequest_of_none (s : State) (g c : Nat) (h : s.comp.epochs.find? g = none) (hc : c ∈ s.groupCanvases g) :
    s.epochRequest g = (s.setEpoch g (some (s.epochTaken g))).epochStatus g 1 := by
  refine if_neg fun hn => hn.elim (fun hs => ?_) (fun he => ?_)
  · rw [h] at hs
    exact Bool.false_ne_true hs
  · rw [List.isEmpty_iff.mp he] at hc
    cases hc

/-- A request leaves the canvases. -/
theorem State.canvas_epochRequest (s : State) (g c : Nat) : (s.epochRequest g).canvas c = s.canvas c := by
  unfold State.epochRequest
  split
  · rfl
  · exact (State.canvas_of_comp (State.epochStatus_comp _ g 1) c).trans (State.canvas_setEpoch _ _ _ _)

/-- A request writes CNV_EPOCH_STATUS alone. -/
theorem State.rd_epochRequest_ne (s : State) (g c : Nat) {off : Nat} (h : off ≠ R.CNV_EPOCH_STATUS) (ho : off < 4096) :
    (s.epochRequest g).rd (cnvKey c off) = s.rd (cnvKey c off) := by
  unfold State.epochRequest
  split
  · rfl
  · exact (State.rd_epochStatus_ne _ g 1 c h ho).trans (State.rd_setEpoch _ _ _ _)

/-! ### Canvas enable (R194) -/

section
variable (s : State) (c : Nat)

/-- A canvas that starts: it runs from the first aligned instant whose binding instant is still to come. -/
def State.cnvStart : State :=
  (((s.setBit (cnvKey c hdrPageCtrl) 0 true).setFld (cnvKey c hdrPageStatus) 16 3 3).setBit (cnvKey c hdrPageStatus) 0 true).setCanvas c
    { Canvas.init with nextF := some ((s.geo c).alignedFrom (s.cnvNow (s.geo c) + 4 * (s.geo c).tline)) }

/-- A canvas that is enabled: it starts, and a layout epoch is requested for its group. -/
def State.cnvOpen : State := (s.cnvStart c).lanesReport.epochRequest (s.cnvGroup c)

theorem State.cnvEnable_of_accepted (hoff : s.cnvEn c = false) (hok : s.cnvChecks c = true) : s.cnvEnable c = s.cnvOpen c := by
  have hok' : ¬ (!s.cnvChecks c) = true := by
    rw [hok]
    exact Bool.false_ne_true
  exact (if_neg (ne_true_of_eq_false hoff)).trans (if_neg hok')

theorem State.cnvEnable_of_refused (hoff : s.cnvEn c = false) (hbad : s.cnvChecks c = false) : s.cnvEnable c = s.cfgErr (cnvPage c) := by
  have hbad' : (!s.cnvChecks c) = true := by rw [hbad, Bool.not_false]
  exact (if_neg (ne_true_of_eq_false hoff)).trans (if_pos hbad')

theorem State.rd_cnvOpen_header {off : Nat} (h : off < 0x40) : (s.cnvOpen c).rd (cnvKey c off) = (s.cnvStart c).rd (cnvKey c off) :=
  (State.rd_epochRequest_ne _ _ c (ne_of_lt (lt_trans h (by decide))) (lt_trans h (by decide))).trans (State.rd_lanesReport _ c h)

theorem State.canvas_cnvOpen (d : Nat) : (s.cnvOpen c).canvas d = (s.cnvStart c).canvas d :=
  (State.canvas_epochRequest _ _ d).trans (State.canvas_of_comp (State.lanesReport_comp _) d)

theorem State.cnvOpen_en : (s.cnvOpen c).cnvEn c = true := by
  refine (congrArg (bitOf 0) ((s.rd_cnvOpen_header c (by decide)).trans (State.rd_setCanvas _ _ _ _))).trans ?_
  refine (State.bit_setBit_other _ _ _ _ _ _ (cnvKey_ne c c (by decide))).trans ?_
  exact (congrArg (bitOf 0) (State.rd_setFld_ne _ _ _ _ _ _ (cnvKey_ne c c (by decide)))).trans (State.bit_setBit _ _ 0 _ (by decide))

theorem State.rd_cnvOpen_status : (s.cnvOpen c).rd (cnvKey c hdrPageStatus) =
    (((s.setBit (cnvKey c hdrPageCtrl) 0 true).setFld (cnvKey c hdrPageStatus) 16 3 3).setBit (cnvKey c hdrPageStatus) 0 true).rd
      (cnvKey c hdrPageStatus) :=
  (s.rd_cnvOpen_header c (by decide)).trans (State.rd_setCanvas _ _ _ _)

theorem State.cnvOpen_runs : (s.cnvOpen c).bit (cnvKey c hdrPageStatus) 0 = true :=
  (congrArg (bitOf 0) (s.rd_cnvOpen_status c)).trans (State.bit_setBit _ _ 0 _ (by decide))

theorem State.cnvOpen_aligned : (s.cnvOpen c).fld (cnvKey c hdrPageStatus) 16 3 = 3 :=
  (congrArg (fieldOf 16 3) (s.rd_cnvOpen_status c)).trans
    ((State.fld_setBit_of_disjoint _ _ 0 true 16 3 (by decide) (by decide)).trans (State.fld_setFld _ _ 16 3 3 (by decide)))

end

section
variable (dt vi c : Nat) (s : State) (ha : s.bus.pageAccess (cnvPage c) vi = 2) (hu : s.bus.pageUp (cnvPage c) = true)
include ha hu

theorem exec_canvasEnable_of_owner : exec (.canvasEnable dt vi c) s = .next ((s.tick dt).cnvEnable c) :=
  congrArg _ ((s.tick dt).guardWrite_owner vi (cnvPage c) _ ha hu)

theorem exec_layoutEpochRequest_of_enabled (hen : s.cnvEn c = true) :
    exec (.layoutEpochRequest dt vi c) s = .next ((s.tick dt).epochRequest (s.cnvGroup c)) :=
  congrArg _ (((s.tick dt).guardWrite_owner vi (cnvPage c) _ ha hu).trans (if_pos hen))

end

/-- What the checks of R194 say: a rate that exists, tiles within the 256, and no conflict with another enabled canvas. -/
theorem State.cnvChecks_spec (s : State) (c : Nat) (h : s.cnvChecks c = true) :
    s.fld (cnvKey c R.CNV_CTRL) 4 3 ≠ 7 ∧ (s.geo c).tbase + (s.geo c).cols * (s.geo c).rows ≤ 256 ∧
      ∀ d, d < 16 → d ≠ c → s.cnvEn d = true →
        ((s.geo c).tbase + (s.geo c).cols * (s.geo c).rows ≤ (s.geo d).tbase ∨
          (s.geo d).tbase + (s.geo d).cols * (s.geo d).rows ≤ (s.geo c).tbase) ∧
        (s.cnvGroup d = s.cnvGroup c →
          s.fld (cnvKey d R.CNV_CTRL) 4 3 = s.fld (cnvKey c R.CNV_CTRL) 4 3 ∧ (s.geo d).phase = (s.geo c).phase) := by
  simp only [State.cnvChecks, Bool.and_eq_true, Bool.or_eq_true, decide_eq_true_eq, List.all_eq_true, List.mem_filter, State.mem_canvases,
    bne_iff_ne] at h
  obtain ⟨⟨⟨hrate, htiles⟩, happ⟩, hgroup⟩ := h
  refine ⟨hrate, htiles, fun d hd hne hen => ⟨happ d ⟨⟨hd, hen⟩, hne⟩, fun hg => hgroup d ⟨⟨⟨hd, hen⟩, hne⟩, hg⟩⟩⟩

/-! ### The checks of a layout epoch (R210, Table 7-3) -/

section
variable (dt g : Nat) (s : State) (e : Epoch) (hep : s.comp.epochs.find? g = some e) (hst : s.epochState g = 1)
include hep hst

/-- A layout epoch that a check refuses: REASON and OBJECT, and EV225 for every canvas of the group. -/
theorem exec_layoutEpochChecked_of_refused (reason object : Nat) (hchk : (s.tick dt).epochCheck g e = some (reason, object)) (s1 : State)
    (h1 : s1 = ((s.tick dt).epochClear g e).epochStatus g (reason * 16 + object % 1024 * 65536)) :
    exec (.layoutEpochChecked dt g) s = .next ((s1.groupCanvases g).foldl (fun a c => a.raise (cnvPage c) 1) s1) := by
  have hep' : (s.tick dt).comp.epochs.find? g = some e := hep
  have hst' : ¬ (s.tick dt).epochState g ≠ 1 := fun h => h hst
  subst h1
  show execLayoutEpochChecked dt g s = _
  simp only [execLayoutEpochChecked, hep', if_neg hst', hchk]

/-- A layout epoch that passes the checks waits for the binding instant; no window without a deadline is reported. -/
theorem exec_layoutEpochChecked_of_accepted (hchk : (s.tick dt).epochCheck g e = none)
    (hdl : ∀ w ∈ e.slots, winEnR (s.staged e) w = true → fieldOf 0 16 (s.staged e (winReg w R.WIN_DEADLINE)) ≠ 0) :
    exec (.layoutEpochChecked dt g) s = .next (((s.tick dt).epochStatus g 2).epochRecord g e) := by
  have hep' : (s.tick dt).comp.epochs.find? g = some e := hep
  have hst' : ¬ (s.tick dt).epochState g ≠ 1 := fun h => h hst
  have hzero : e.slots.filter (fun w => winEnR ((s.tick dt).staged e) w &&
      decide (fieldOf 0 16 ((s.tick dt).staged e (winReg w R.WIN_DEADLINE)) = 0)) = [] := by
    refine List.filter_eq_nil_iff.mpr fun w hw hz => ?_
    rw [Bool.and_eq_true, decide_eq_true_eq] at hz
    exact hdl w hw hz.1 hz.2
  show execLayoutEpochChecked dt g s = _
  simp only [execLayoutEpochChecked, hep', if_neg hst', hchk, hzero, List.foldl_nil]

end

/-- Settles O22: enabling by `State.cnvOpen`, the checks by `State.cnvChecks_spec`, and the layout epoch by outcome. -/
theorem canvasesEnableAndEpochsAreChecked : Obligations.CanvasesEnableAndEpochsAreChecked := by
  refine ⟨?enable, ?refuse, State.cnvChecks_spec, ?request, ?progress, ?refused,
    fun dt g s e hep hst hchk hdl => exec_layoutEpochChecked_of_accepted dt g s e hep hst hchk hdl⟩
  case enable =>
    intro dt vi c s _ ha hu hoff hok
    refine ⟨(s.tick dt).cnvOpen c, (exec_canvasEnable_of_owner dt vi c s ha hu).trans ?_, State.cnvOpen_en _ c, State.cnvOpen_runs _ c,
      State.cnvOpen_aligned _ c, ?_, fun d hd => ?_⟩
    · exact congrArg _ (State.cnvEnable_of_accepted _ c hoff hok)
    · exact (State.canvas_cnvOpen _ c c).trans (State.canvas_setCanvas _ c _)
    · exact (State.canvas_cnvOpen _ c d).trans (State.canvas_setCanvas_ne _ c _ d hd)
  case refuse =>
    intro dt vi c s _ ha hu hoff hbad
    exact (exec_canvasEnable_of_owner dt vi c s ha hu).trans (congrArg _ (State.cnvEnable_of_refused _ c hoff hbad))
  case request =>
    rintro dt vi c g s hc ha hu hen rfl hnone
    have hmem : c ∈ (s.tick dt).groupCanvases (s.cnvGroup c) := (State.mem_groupCanvases _ _ c).mpr ⟨⟨hc, hen⟩, rfl⟩
    refine ⟨_, (s.tick dt).epochTaken (s.cnvGroup c), (exec_layoutEpochRequest_of_enabled dt vi c s ha hu hen).trans
      (congrArg _ (State.epochRequest_of_none _ _ c hnone hmem)), ?_, rfl, State.mem_epochTaken_pages _ _, fun d hd => ?_⟩
    · rw [State.epochStatus_comp]
      exact SMap.find?_set _ _ _
    · exact State.rd_epochStatus _ _ 1 d hd
  case progress =>
    intro dt vi c s _ ha hu hen hsome
    exact (exec_layoutEpochRequest_of_enabled dt vi c s ha hu hen).trans (congrArg _ (State.epochRequest_of_progress _ _ hsome))
  case refused =>
    intro dt g reason object s s1 e hep hst hchk h1
    exact exec_layoutEpochChecked_of_refused dt g s e hep hst reason object hchk s1 h1

end Sys2Proof.Machine
end

section
/-! SUPPORT. The binding instant, the start and the lines of a canvas frame, by outcome (R195, R203, R209). -/

namespace Sys2Proof.Machine

/-! ### The binding instant (R203) -/

/-- The binding instant of the next frame has come, on a die that runs. -/
theorem State.bindingInstant_comes (dt c nf : Nat) (s : State) (hnxt : (s.canvas c).nxt = none)
    (hdue : nf ≤ (s.tick dt).cnvNow (s.geo c) + 4 * (s.geo c).tline) (hrun : s.bus.domRuns 19 = true ∨ s.bus.domRuns 20 = true) :
    ¬ (((s.tick dt).canvas c).nxt.isSome = true ∨
      (s.tick dt).cnvNow ((s.tick dt).geo c) + 4 * ((s.tick dt).geo c).tline < nf ∨
        ((s.tick dt).bus.domRuns 19 || (s.tick dt).bus.domRuns 20) = false) := by
  rintro (h | h | h)
  · have hnxt' : ((s.tick dt).canvas c).nxt = none := hnxt
    rw [hnxt'] at h
    exact Bool.false_ne_true h
  · exact absurd h (Nat.not_lt_of_le hdue)
  · obtain ⟨h19, h20⟩ := Bool.or_eq_false_iff.mp h
    exact hrun.elim (fun hr => Bool.false_ne_true (h19.symm.trans hr)) (fun hr => Bool.false_ne_true (h20.symm.trans hr))

section
variable (dt c nf : Nat) (s : State) (hnf : (s.canvas c).nextF = some nf)
include hnf

theorem exec_bindingInstant_of_early (he : (s.tick dt).cnvNow (s.geo c) + 4 * (s.geo c).tline < nf) :
    exec (.bindingInstant dt c) s = .next (s.tick dt) := by
  have hnf' : ((s.tick dt).canvas c).nextF = some nf := hnf
  show execBindingInstant dt c s = _
  simp only [execBindingInstant, hnf']
  exact congrArg _ (if_pos (.inr (.inl he)))

section
variable (hnxt : (s.canvas c).nxt = none) (hdue : nf ≤ (s.tick dt).cnvNow (s.geo c) + 4 * (s.geo c).tline)
  (hrun : s.bus.domRuns 19 = true ∨ s.bus.domRuns 20 = true)
include hnxt hdue hrun

/-- A frame whose start has passed unbound is not sent: the canvas goes on from the next aligned start. -/
theorem exec_bindingInstant_of_missed (hpast : nf < (s.tick dt).cnvNow (s.geo c)) :
    ∃ a, exec (.bindingInstant dt c) s = .next ((s.tick dt).setCanvas c { s.canvas c with
      nextF := some ((s.geo c).alignedFrom ((s.tick dt).cnvNow (s.geo c) + 4 * (s.geo c).tline)), alignF := a }) := by
  have hnf' : ((s.tick dt).canvas c).nextF = some nf := hnf
  have hexec : exec (.bindingInstant dt c) s = execBindingInstant dt c s := rfl
  simp only [hexec, execBindingInstant, hnf', if_neg (State.bindingInstant_comes dt c nf s hnxt hdue hrun)]
  exact ⟨_, congrArg _ (if_pos hpast)⟩

/-- The frame of a canvas on which no window stands, as its binding instant makes it. -/
def State.emptyFrame (s : State) (c nf : Nat) : CFrame :=
  { start := nf, f := s.rd (cnvKey c R.CNV_CNT_FRAMES), unbound := false, taps := s.fld (cmpKey 0 R.CMP_STATUS) 8 4, binds := [], drawn := [],
    segs := [], latched := [], cut := none }

/-- The binding instant of a canvas without windows, without a layout epoch and without a frame in progress. -/
theorem exec_bindingInstant_of_empty (hahead : (s.tick dt).cnvNow (s.geo c) ≤ nf) (hep : s.comp.epochs.find? (s.cnvGroup c) = none)
    (hb : (s.tick dt).bound = true) (hw : s.canvasWins s.rd c = []) (hcur : (s.canvas c).cur = none) :
    exec (.bindingInstant dt c) s = .next (((s.tick dt).setCanvas c { s.canvas c with nxt := some ((s.tick dt).emptyFrame c nf) }).setBit
      (cnvKey c hdrPageStatus) 18 false) := by
  have hx : (s.tick dt).canvas c = s.canvas c := rfl
  have hcomes := State.bindingInstant_comes dt c nf s hnxt hdue hrun
  have hw' : (s.tick dt).canvasWins (s.tick dt).rd c = [] := hw
  have hbind : (s.tick dt).epochBind ((s.tick dt).cnvGroup c) = s.tick dt := by
    have hep' : (s.tick dt).comp.epochs.find? ((s.tick dt).cnvGroup c) = none := hep
    simp only [State.epochBind, hep']
  show execBindingInstant dt c s = _
  rw [hx] at hcomes
  simp only [execBindingInstant, hx, hnf, if_neg hcomes, hbind, hb, hw', hcur, Bool.not_true,
    Bool.false_eq_true, if_false, List.foldl_nil, List.map_nil, List.eraseDups_nil]
  exact congrArg _ (if_neg (Nat.not_lt_of_le hahead))

end

end

/-! ### The start of a frame (R195) -/

/-- A bound frame starts: the one after it is a period on, and what was sent of the frame before is forgotten. -/
def Canvas.started (f : CFrame) (next : Nat) (seqs : SMap Nat) : Canvas :=
  { nextF := some next, alignF := none, cur := some f, nxt := none, seqs := seqs, sent := SMap.empty }

/-- A canvas takes up its frame: the frame is counted, and its windows are fresh again. -/
def State.frameStarted (s : State) (c : Nat) (y : Canvas) : State :=
  let s1 := (s.setCanvas c y).addWrap (cnvKey c R.CNV_CNT_FRAMES) 1
  s1.setBits (winReg · R.WIN_STATUS) 1 false (s1.canvasWins s1.rd c)

theorem State.setBits_comp (s : State) (k : Nat → Nat) (i : Nat) (v : Bool) (l : List Nat) : (s.setBits k i v l).comp = s.comp :=
  (congrArg State.comp (s.after_setBits k i v l).1).trans rfl

theorem State.frameStarted_comp (s : State) (c : Nat) (y : Canvas) : (s.frameStarted c y).comp = (s.setCanvas c y).comp :=
  (State.setBits_comp _ _ _ _ _).trans (State.addWrap_comp _ _ _)

/-- A window's registers stand on other pages than a canvas's. -/
theorem cnvKey_ne_winReg (c w : Nat) {off off' : Nat} (hc : c < 16) (ho : off < 4096) (ho' : off' < 0x180) :
    cnvKey c off ≠ winReg w off' := by
  have hcnv : cnvPage c = 0x2100 + c := rfl
  have hwin : Block.win.pg (w / 4) = 0x2200 + w / 4 := rfl
  unfold cnvKey winReg
  rw [hcnv, hwin]
  exact fun he => absurd ((rk_inj _ _ _ _ ho (by omega)).mp he).1 (by omega)

theorem State.rd_frameStarted_frames (s : State) (c : Nat) (hc : c < 16) (y : Canvas) :
    (s.frameStarted c y).rd (cnvKey c R.CNV_CNT_FRAMES) = (s.rd (cnvKey c R.CNV_CNT_FRAMES) + 1) % 2 ^ 32 :=
  (State.rd_setBits_of_ne _ _ _ _ _ _ fun w _ => cnvKey_ne_winReg c w hc (by decide) (by decide)).trans
    ((State.rd_addWrap _ _ _).trans (congrArg (fun n => (n + 1) % 2 ^ 32) (State.rd_setCanvas _ _ _ _)))

theorem Geo.following_of_aligned (g : Geo) (f slip : Nat) : g.following f slip true = (f + g.tframe, false) := rfl

section
variable (dt c : Nat) (s : State) (f : CFrame) (hnxt : (s.canvas c).nxt = some f)
include hnxt

theorem exec_canvasFrameStart_of_early (he : (s.tick dt).cnvNow (s.geo c) < f.start) :
    exec (.canvasFrameStart dt c) s = .next (s.tick dt) := by
  have hnxt' : ((s.tick dt).canvas c).nxt = some f := hnxt
  show execCanvasFrameStart dt c s = _
  simp only [execCanvasFrameStart, hnxt']
  exact congrArg _ (if_pos he)

/-- The bound frame of an aligned canvas starts at its time; with no frame before it, no sequence numbers are passed over (R195). -/
theorem exec_canvasFrameStart_of_due (hcur : (s.canvas c).cur = none) (hdue : f.start ≤ (s.tick dt).cnvNow (s.geo c))
    (hal : s.bit (cnvKey c hdrPageStatus) 17 = true) (hna : (s.canvas c).alignF = none) :
    exec (.canvasFrameStart dt c) s =
      .next ((s.tick dt).frameStarted c (Canvas.started f (f.start + (s.geo c).tframe) (s.canvas c).seqs)) := by
  have hx : (s.tick dt).canvas c = s.canvas c := rfl
  have hg : (s.tick dt).geo c = s.geo c := rfl
  have hal' : (s.tick dt).bit (cnvKey c hdrPageStatus) 17 = true := hal
  show execCanvasFrameStart dt c s = _
  simp only [execCanvasFrameStart, hx, hg, hnxt, hcur, hna, hal', if_neg (Nat.not_lt_of_le hdue), Bool.true_or, Geo.following_of_aligned,
    reduceCtorEq, decide_false, Option.isSome_none, Bool.false_eq_true, false_and, if_false, List.foldl_fixed]
  rfl

end

/-! ### Lines (R203) -/

section
variable (dt c tile line : Nat) (s : State) (f : CFrame) (hcur : (s.canvas c).cur = some f)
  (htime : (s.tick dt).cnvNow (s.geo c) ≤ (s.geo c).packetAt f.start (line * (s.geo c).npl)) (hnew : (tile, line) ∉ f.drawn)
include hcur htime hnew

/-- LINE_DRAW of a line of the frame in progress that is not drawn and not past: it is drawn where its time has come and a lane serves
its tile. -/
theorem exec_lineDraw_of_current : exec (.lineDraw dt c tile line) s = .next
    (if (s.geo c).packetAt f.start (line * (s.geo c).npl) ≤ (s.tick dt).cnvNow (s.geo c) + 4 * (s.geo c).tline ∧ line < (s.geo c).tileH ∧
        tile ∈ s.tiles s.rd c ∧ (s.laneOf (tileLane s.rd c tile)).isSome then
      (s.tick dt).setCanvas c { s.canvas c with
        cur := some { f with drawn := (tile, line) :: f.drawn, segs := f.segs ++ (s.tick dt).posts c (s.geo c) f tile line } }
    else s.tick dt) := by
  have hx : (s.tick dt).canvas c = s.canvas c := rfl
  have hg : (s.tick dt).geo c = s.geo c := rfl
  have hok : (decide ((s.tick dt).cnvNow (s.geo c) ≤ (s.geo c).packetAt f.start (line * (s.geo c).npl)) &&
      !f.drawn.contains (tile, line)) = true := by
    rw [Bool.and_eq_true, decide_eq_true_eq, Bool.not_eq_true', List.contains_eq_mem, decide_eq_false_iff_not]
    exact ⟨htime, hnew⟩
  show execLineDraw dt c tile line s = _
  simp only [execLineDraw, hx, hg, hcur, hok, Bool.not_true, Canvas.frame, Bool.false_eq_true, if_false, Canvas.modFrame_cur _ f _ hcur,
    List.contains_iff_mem, true_and]
  rfl

end

/-- What a tile line posts is of that line, and the judge has not decided it. -/
theorem State.posts_open (s : State) (c : Nat) (g : Geo) (f : CFrame) (tile line : Nat) :
    ∀ y ∈ s.posts c g f tile line, y.tile = tile ∧ y.line = line ∧ y.verdict = none ∧ y.late = false := by
  intro y hy
  unfold State.posts at hy
  split at hy
  · cases hy
  · obtain ⟨v, -, rfl⟩ := List.mem_map.mp hy
    exact ⟨rfl, rfl, rfl, rfl⟩

/-- Settles O23: the binding instant, the start of a frame and the drawing of a line by outcome, and the posts of a line. -/
theorem canvasFramesBindStartAndDraw : Obligations.CanvasFramesBindStartAndDraw := by
  refine ⟨exec_bindingInstant_of_early, ?missed, ?bound, fun dt c s f hnxt he => exec_canvasFrameStart_of_early dt c s f hnxt he, ?start,
    ?draw, ?other, State.posts_open⟩
  case missed =>
    rintro dt c nf s _ rfl hnf hnxt hdue hrun hpast
    obtain ⟨a, hexec⟩ := exec_bindingInstant_of_missed dt c nf s hnf hnxt hdue hrun hpast
    exact ⟨_, _, hexec, congrArg Canvas.nextF (State.canvas_setCanvas _ c _), rfl, rfl, fun d hd => State.canvas_setCanvas_ne _ c _ d hd⟩
  case bound =>
    rintro dt c nf s _ - rfl hnf hnxt hdue hrun hahead hep hb hw hcur
    have hcomp := State.setBit_comp ((s.tick dt).setCanvas c { s.canvas c with nxt := some ((s.tick dt).emptyFrame c nf) })
      (cnvKey c hdrPageStatus) 18 false
    refine ⟨_, (s.tick dt).emptyFrame c nf, exec_bindingInstant_of_empty dt c nf s hnf hnxt hdue hrun hahead hep hb hw hcur, ?_, rfl, rfl,
      rfl, rfl, State.bit_setBit _ _ 18 _ (by decide), fun d hd => ?_⟩
    · rw [State.canvas_of_comp hcomp, State.canvas_setCanvas]
    · exact (State.canvas_of_comp hcomp d).trans (State.canvas_setCanvas_ne _ c _ d hd)
  case start =>
    rintro dt c s f _ hc rfl hnxt hcur hdue hal hna
    have hcanvas := State.canvas_of_comp ((s.tick dt).frameStarted_comp c (Canvas.started f (f.start + (s.geo c).tframe) (s.canvas c).seqs))
    refine ⟨_, exec_canvasFrameStart_of_due dt c s f hnxt hcur hdue hal hna, ?_, ?_, ?_, State.rd_frameStarted_frames _ c hc _,
      fun d hd => (hcanvas d).trans (State.canvas_setCanvas_ne _ c _ d hd)⟩
    · rw [hcanvas, State.canvas_setCanvas, Canvas.started]
    · rw [hcanvas, State.canvas_setCanvas, Canvas.started]
    · rw [hcanvas, State.canvas_setCanvas, Canvas.started]
  case draw =>
    rintro dt c tile line s f _ rfl hcur htime hnear hnew hline htile hlane
    exact (exec_lineDraw_of_current dt c tile line s f hcur htime hnew).trans (congrArg _ (if_pos ⟨hnear, hline, htile, hlane⟩))
  case other =>
    rintro dt c tile line s f _ rfl hcur htime hnew htile
    exact (exec_lineDraw_of_current dt c tile line s f hcur htime hnew).trans (congrArg _ (if_neg fun h => htile h.2.2.1))

end Sys2Proof.Machine
end

section
/-! SUPPORT. The VAL page (R217 to R234): the keys of its registers, registers written one after another, an access by a VI, and the
events of a slot and of the engine. -/

namespace Sys2Proof.Machine

/-! ## Keys -/

/-- Whether a register is one of the reporting is a matter of its address alone, not of the VI or the index that selects it (R501). -/
theorem reportKey_of_keyAddr {j k : Nat} (h : keyAddr j = keyAddr k) : reportKey j = reportKey k := by
  unfold reportKey keyPage keyOff
  rw [h]

theorem reportKey_valPage {off : Nat} (ho : off < 4096) : reportKey (rk valPage off) = false :=
  reportKey_rk valPage off (by decide) ho ⟨by decide, by decide, .inl (by decide)⟩

theorem reportKey_valReg (vi : Nat) {off : Nat} (ho : off < 4096 := by decide) : reportKey (valReg vi off) = false := by
  have haddr : keyAddr (valReg vi off) = keyAddr (rk valPage off) := by
    unfold keyAddr valReg rkVi rk
    omega
  rw [reportKey_of_keyAddr haddr, reportKey_valPage ho]

theorem keyAddr_slotReg (k off : Nat) : keyAddr (slotReg k off) = keyAddr (rk valPage off) := by
  unfold keyAddr slotReg rkSel rk
  omega

theorem keyOff_slotReg (k : Nat) {off : Nat} (ho : off < 4096) : keyOff (slotReg k off) = off :=
  (congrArg (· % 4096) (keyAddr_slotReg k off)).trans (keyOff_rk valPage off ho)

theorem reportKey_slotReg (k : Nat) {off : Nat} (ho : off < 4096 := by decide) : reportKey (slotReg k off) = false := by
  rw [reportKey_of_keyAddr (keyAddr_slotReg k off), reportKey_valPage ho]

theorem slotReg_ne (k : Nat) {off off' : Nat} (h : off ≠ off') : slotReg k off ≠ slotReg k off' := by
  unfold slotReg rkSel
  omega

theorem slotReg_ne_page (k off off' : Nat) (h : off' < 4096 := by decide) : slotReg k off ≠ rk valPage off' :=
  rkSel_ne_rk valPage off k h

theorem valReg_ne (vi : Nat) {off off' : Nat} (h : off ≠ off') : valReg vi off ≠ valReg vi off' := by
  unfold valReg rkVi
  omega

/-! ## Registers written one after another -/

/-- Register `k i` takes `v i`, for each `i` of a list. -/
def State.wrEach (s : State) (k v : Nat → Nat) (l : List Nat) : State := l.foldl (fun a i => a.wr (k i) (v i)) s

theorem State.after_wrEach (s : State) (k v : Nat → Nat) (l : List Nat) : s.After (s.wrEach k v l) (l.map k) :=
  List.foldlRecOn (motive := fun a => s.After a (l.map k)) l _ (State.After.refl _ _)
    fun _ ha _ hi => ha.wr _ _ (List.mem_map_of_mem hi)

theorem State.wrEach_val (s : State) (k v : Nat → Nat) (l : List Nat) : (s.wrEach k v l).val = s.val :=
  (congrArg State.val (s.after_wrEach k v l).1).trans rfl

theorem State.rd_wrEach_ne (s : State) (k v : Nat → Nat) (l : List Nat) (j : Nat) (h : ∀ i ∈ l, j ≠ k i) :
    (s.wrEach k v l).rd j = s.rd j :=
  List.foldlRecOn (motive := fun a : State => a.rd j = s.rd j) l _ rfl fun a ha i hi => (a.rd_wr_ne _ _ _ (h i hi)).trans ha

theorem State.rd_wrEach (s : State) (k v : Nat → Nat) (hk : ∀ i j, i ≠ j → k i ≠ k j) (l : List Nat) {i : Nat} (hi : i ∈ l) :
    (s.wrEach k v l).rd (k i) = v i % 2 ^ 32 := by
  induction l generalizing s with
  | nil => cases hi
  | cons j l ih =>
    by_cases hl : i ∈ l
    · exact ih (s.wr (k j) (v j)) hl
    · obtain rfl := (List.mem_cons.mp hi).resolve_right hl
      have hlast : ∀ m ∈ l, k i ≠ k m := fun m hm => hk i m fun h => hl (h ▸ hm)
      exact ((s.wr (k i) (v i)).rd_wrEach_ne k v l (k i) hlast).trans (s.rd_wr (k i) (v i))

/-! ## Accesses and events -/

/-- An access by a VI that holds an endpoint takes effect while the page is up. -/
theorem State.valGuard_up (s : State) (vi : Nat) (f : State → State) (hv : s.bus.physOf .val vi 0 ≠ none)
    (hu : s.bus.pageUp valPage = true) : s.valGuard vi f = f s := by
  have hsome : ¬ (s.bus.physOf .val vi 0).isNone = true := by rwa [Option.isNone_iff_eq_none]
  rw [State.valGuard, if_neg hsome, hu]
  rfl

/-- An event of a slot changes no register of the slots. -/
theorem State.rd_slotEvent (s : State) (hr : s.bus.Ranged) (j bit k : Nat) {off : Nat} (hne : off ≠ hdrEvtPend := by decide)
    (ho : off < 4096 := by decide) : (s.slotEvent j bit).rd (slotReg k off) = s.rd (slotReg k off) :=
  s.rd_raiseEntry hr .val bit (256 * j) _ (by rwa [keyOff_slotReg k ho]) (reportKey_slotReg k ho)

theorem State.pend_valEvent0 (s : State) (hr : s.bus.Ranged) (bit : Nat) (hb : bit < 32) :
    (s.valEvent0 bit).bit (rkVi valPage hdrEvtPend 0) bit = true :=
  Bus.raiseAt_pend s.bus hr valPage valPage bit 0 [] (by decide) none hb (reportKey_valReg 0)

theorem State.After.valEvent0 {s t : State} {ks : List Nat} (h : s.After t ks) (hr : s.bus.Ranged) (bit : Nat)
    (hk : rkVi valPage hdrEvtPend 0 ∈ ks) : s.After (t.valEvent0 bit) ks :=
  h.on (Bus.raiseAt_reported _ (hr.of_after h) valPage valPage bit 0 [] (by decide) none ks (.inl hk))

end Sys2Proof.Machine
end

section
/-! SUPPORT. Value frames (R219 to R225, R234): the queue of the engine, the tests of a frame by Table 8-3, and the source slots. -/

namespace Sys2Proof.Machine

/-! ## The queue (R225) -/

/-- One frame is rejected as OVERFLOW: it is counted, and EV247 goes to VI 0. -/
def State.frameOverflow (s : State) : State := (s.addSat (rk valPage R.VAL_CNT_OVF) 1).valEvent0 3

theorem State.after_frameOverflow (s : State) (hr : s.bus.Ranged) :
    s.After s.frameOverflow [rk valPage R.VAL_CNT_OVF, rkVi valPage hdrEvtPend 0] :=
  ((State.After.refl s _).addSat _ 1 List.mem_cons_self).valEvent0 hr 3 (by simp)

theorem State.pend_frameOverflow (s : State) (hr : s.bus.Ranged) : s.frameOverflow.bit (rkVi valPage hdrEvtPend 0) 3 = true :=
  State.pend_valEvent0 (s.addSat (rk valPage R.VAL_CNT_OVF) 1) hr 3 (by decide)

theorem State.rd_frameOverflow (s : State) (hr : s.bus.Ranged) :
    s.frameOverflow.rd (rk valPage R.VAL_CNT_OVF) = min (s.rd (rk valPage R.VAL_CNT_OVF) + 1) 0xFFFFFFFF := by
  have hevent : (s.addSat (rk valPage R.VAL_CNT_OVF) 1).After s.frameOverflow [rkVi valPage hdrEvtPend 0] :=
    State.After.valEvent0 (s := s.addSat (rk valPage R.VAL_CNT_OVF) 1) (State.After.refl _ _) hr 3 (List.mem_singleton_self _)
  exact (hevent.rd _ (by decide) (by decide)).trans (s.rd_addSat _ 1)

section
variable (dt : Nat) (s : State) (p : Pkt) (rest : List Pkt) (hin : s.fab.valIn = p :: rest)
include hin

/-- A frame that finds others waiting enters the queue; the engine's timer runs on. -/
theorem exec_valueFrameEnqueue_of_waiting (hroom : s.val.queue.length < 1024) (hwait : s.val.queue ≠ []) :
    exec (.valueFrameEnqueue dt) s = .next { s.tick dt with
      fab := { s.fab with valIn := rest }
      val := { s.val with queue := s.val.queue ++ [p] } } := by
  show execValueFrameEnqueue dt s = _
  have hempty : ¬ s.val.queue.isEmpty = true := by rwa [List.isEmpty_iff]
  simp only [execValueFrameEnqueue, State.tick_fab, hin]
  exact congrArg _ ((if_neg (Nat.not_le.mpr hroom)).trans (if_neg hempty))

/-- A frame that finds the queue full is rejected with reason 8. -/
theorem exec_valueFrameEnqueue_of_full (hfull : 1024 ≤ s.val.queue.length) : exec (.valueFrameEnqueue dt) s =
    .next ({ s.tick dt with fab := { s.fab with valIn := rest } } : State).frameOverflow := by
  show execValueFrameEnqueue dt s = _
  simp only [execValueFrameEnqueue, State.tick_fab, hin]
  exact congrArg _ (if_pos hfull)

end

theorem exec_valueFrameApply_of_waiting (dt : Nat) (s : State) (p : Pkt) (rest : List Pkt) (hq : s.val.queue = p :: rest) :
    ∃ s1 : State, s1 = ({ s.tick dt with val := { s.val with queue := rest } } : State).valFrame p ∧
      exec (.valueFrameApply dt) s = .next (if rest.isEmpty then s1.disarm tValHang else s1.arm tValHang (clkMs 1)) := by
  refine ⟨_, rfl, ?_⟩
  show execValueFrameApply dt s = _
  simp only [execValueFrameApply, State.tick_val, hq]

theorem exec_valueFrameApply_of_empty (dt : Nat) (s : State) (hq : s.val.queue = []) :
    exec (.valueFrameApply dt) s = .next (s.tick dt) := by
  show execValueFrameApply dt s = _
  simp only [execValueFrameApply, State.tick_val, hq]

/-- A hang with frames queued resets the engine: what waits is rejected as OVERFLOW (R234). -/
theorem exec_valEngineHang_of_waiting (dt : Nat) (s s1 : State) (hdue : (s.tick dt).due tValHang = true) (hq : s.val.queue ≠ [])
    (hs1 : s1 = (((s.tick dt).disarm tValHang).fault 66 { page := valPage }).addSat (rk valPage R.VAL_CNT_OVF) s.val.queue.length) :
    exec (.valEngineHang dt) s = .next (({ s1 with val := { s1.val with queue := [] } } : State).valEvent0 3) := by
  subst hs1
  have hempty : ¬ ((s.tick dt).disarm tValHang).val.queue.isEmpty = true := by rwa [List.isEmpty_iff]
  refine congrArg _ (((s.tick dt).onExpiry_due tValHang _ hdue).trans ?_)
  exact if_neg hempty

/-! ## The tests of a frame (R219, R224, Table 8-3) -/

/-- A frame of slot `k` is rejected with reason `r`: it is counted twice, and the slot's status holds the reason. -/
def State.frameRejected (s : State) (k r : Nat) : State :=
  ((s.addSat (rk valPage R.VAL_CNT_REJECT) 1).addSat (slotReg k R.VAL_SRC_CNT_REJ) 1).setFld (slotReg k R.VAL_SRC_STAT) 4 4 r

section
variable (s : State) (p : Pkt) (pl : List Byte) (u : UdpKey) (hu : udpKey p.bytes = some u) (hpl : pl = udpPayload p.bytes u.udp)
include hu hpl

/-- Tests 1 and 2: a frame that is too short, has another magic or version, or has fewer records than it says. -/
theorem State.valFrame_of_malformed
    (h : pl.length < 28 ∨ beAt pl 0 2 ≠ 0x4B56 ∨ beAt pl 2 1 ≠ 1 ∨ pl.length - 28 < beAt pl 3 1 * 6) :
    s.valFrame p = (s.addSat (rk valPage R.VAL_CNT_REJECT) 1).valEvent0 1 := by
  simp only [State.valFrame, hu, ← hpl]
  by_cases hhead : pl.length < 28 ∨ beAt pl 0 2 ≠ 0x4B56 ∨ beAt pl 2 1 ≠ 1
  · rw [if_pos hhead]
  · rw [if_neg hhead, if_pos (by tauto)]

section
variable (hlen : 28 ≤ pl.length) (hmagic : beAt pl 0 2 = 0x4B56) (hver : beAt pl 2 1 = 1) (hrecs : beAt pl 3 1 * 6 ≤ pl.length - 28)
include hlen hmagic hver hrecs

/-- Test 3: no valid slot holds the frame's device. -/
theorem State.valFrame_of_unknown (hslot : s.slotOf (beAt pl 4 4 % 2 ^ 18) = none) : s.valFrame p =
    ((s.addSat (rk valPage R.VAL_CNT_UNKNOWN) 1).wr (rk valPage R.VAL_UNKNOWN_DEV) (beAt pl 4 4 % 2 ^ 18)).valEvent0 1 := by
  have hhead : ¬ (pl.length < 28 ∨ beAt pl 0 2 ≠ 0x4B56 ∨ beAt pl 2 1 ≠ 1) := by simp [hlen, hmagic, hver]
  simp only [State.valFrame, hu, ← hpl, if_neg hhead, if_neg (Nat.not_lt.mpr hrecs), hslot]

/-- Tests 4 to 7: a frame of slot `k` that is rejected for its reason. -/
theorem State.valFrame_of_rejected (k : Nat) (hslot : s.slotOf (beAt pl 4 4 % 2 ^ 18) = some k) (hreason : s.frameReason k p pl ≠ 0) :
    s.valFrame p = (s.frameRejected k (s.frameReason k p pl)).slotEvent k 0 := by
  have hhead : ¬ (pl.length < 28 ∨ beAt pl 0 2 ≠ 0x4B56 ∨ beAt pl 2 1 ≠ 1) := by simp [hlen, hmagic, hver]
  simp only [State.valFrame, hu, ← hpl, if_neg hhead, if_neg (Nat.not_lt.mpr hrecs), hslot, if_neg hreason, State.frameRejected]

end

end

theorem State.frameReason_lt (s : State) (k : Nat) (p : Pkt) (pl : List Byte) : s.frameReason k p pl < 2 ^ 4 := by
  unfold State.frameReason
  dsimp only
  split_ifs <;> decide

theorem State.rd_frameRejected_seq (s : State) (k r : Nat) :
    (s.frameRejected k r).rd (slotReg k R.VAL_SRC_SEQ) = s.rd (slotReg k R.VAL_SRC_SEQ) := by
  rw [State.frameRejected, State.rd_setFld_ne _ _ _ _ _ _ (slotReg_ne k (by decide)), State.rd_addSat_ne _ _ _ _ (slotReg_ne k (by decide)),
    State.rd_addSat_ne _ _ _ _ (slotReg_ne_page k _ _)]

theorem State.rd_frameRejected_count (s : State) (k r : Nat) :
    (s.frameRejected k r).rd (slotReg k R.VAL_SRC_CNT_REJ) = min (s.rd (slotReg k R.VAL_SRC_CNT_REJ) + 1) 0xFFFFFFFF := by
  rw [State.frameRejected, State.rd_setFld_ne _ _ _ _ _ _ (slotReg_ne k (by decide)), State.rd_addSat,
    State.rd_addSat_ne _ _ _ _ (slotReg_ne_page k _ _)]

theorem State.fld_frameRejected (s : State) (k r : Nat) (h : r < 2 ^ 4) :
    (s.frameRejected k r).fld (slotReg k R.VAL_SRC_STAT) 4 4 = r := by
  rw [State.frameRejected, State.fld_setFld _ _ _ _ _ (by decide), Nat.mod_eq_of_lt h]

/-- How far a frame's sequence number lies past SEQ, modulo 2^32 (R222). -/
def State.seqAhead (s : State) (k : Nat) (pl : List Byte) : Nat := (beAt pl 8 4 + 2 ^ 32 - s.rd (slotReg k R.VAL_SRC_SEQ)) % 2 ^ 32

theorem State.seqAhead_eq_zero_iff (s : State) (k : Nat) (pl : List Byte) :
    s.seqAhead k pl = 0 ↔ beAt pl 8 4 % 2 ^ 32 = s.rd (slotReg k R.VAL_SRC_SEQ) := by
  have hseq : s.rd (slotReg k R.VAL_SRC_SEQ) < 2 ^ 32 := s.bus.rd_lt _
  unfold State.seqAhead
  omega

/-- On a slot that has seen a frame, with path and targets in order and no restart, the sequence number alone decides. -/
theorem State.frameReason_of_seen (s : State) (k : Nat) (p : Pkt) (pl : List Byte) (hre : s.restarts k pl = false)
    (hseen : s.bit (slotReg k R.VAL_SRC_STAT) 0 = true) (hpath : s.bit (slotReg k R.VAL_SRC_PATH) 16 = true → p.stream = s.slotPath k)
    (hown : ∀ i, i < beAt pl 3 1 → (s.recordTarget k (valRecord pl i).1).isSome) :
    s.frameReason k p pl = if s.seqAhead k pl = 0 then 6 else if 2 ^ 31 ≤ s.seqAhead k pl then 7 else 0 := by
  have hpath' : ¬ (s.bit (slotReg k R.VAL_SRC_PATH) 16 && decide (p.stream ≠ s.slotPath k)) = true := by
    rw [Bool.and_eq_true, decide_eq_true_eq]
    exact fun h => h.2 (hpath h.1)
  have hown' : ¬ ((List.range (beAt pl 3 1)).any fun i => (s.recordTarget k (valRecord pl i).1).isNone) = true := by
    rw [List.any_eq_true]
    rintro ⟨i, hi, hnone⟩
    have hsome := hown i (List.mem_range.mp hi)
    rw [Option.isNone_iff_eq_none.mp hnone] at hsome
    cases hsome
  have hfree : ¬ (s.restarts k pl || !s.bit (slotReg k R.VAL_SRC_STAT) 0) = true := by simp [hre, hseen]
  exact (if_neg hpath').trans ((if_neg hown').trans (if_neg hfree))

/-! ## Source slots (R224) -/

/-- The registers that a write of VAL_SRC_DEV clears (R224). -/
def slotCounters : List Nat :=
  [R.VAL_SRC_SEQ, R.VAL_SRC_STAT, R.VAL_SRC_CNT_OK, R.VAL_SRC_CNT_REJ, R.VAL_SRC_CNT_GAP, R.VAL_SRC_CNT_OLDREC]

/-- A write of VAL_SRC_DEV of slot `k`: the slot takes the device, and starts again with no frame seen. -/
def State.devWritten (s : State) (k value : Nat) : State :=
  ((s.disarm (tSilent k)).wr (slotReg k R.VAL_SRC_DEV) (maskOf 0xA003FFFF value)).clearAll (slotReg k) slotCounters

theorem State.disarm_clearAll (s : State) (k : Nat → Nat) (l : List Nat) (t : Nat) :
    (s.clearAll k l).disarm t = (s.disarm t).clearAll k l := by
  induction l generalizing s with
  | nil => rfl
  | cons i l ih => exact ih (s.wr (k i) 0)

theorem exec_valSrcDevWrite_of_owner (dt vi value k : Nat) (s : State) (hv : s.bus.physOf .val vi 0 ≠ none)
    (hu : s.bus.pageUp valPage = true) (hslot : s.physSlot vi (s.fld (valReg vi R.VAL_SRC_SEL) 0 10) = some k)
    (ha : s.slotAccess k vi = 2) : exec (.valSrcDevWrite dt vi value) s = .next ((s.tick dt).devWritten k value) := by
  have hslot' : (s.tick dt).physSlot vi ((s.tick dt).fld (valReg vi R.VAL_SRC_SEL) 0 10) = some k := hslot
  have ha' : ¬ (s.tick dt).slotAccess k vi < 2 := Nat.not_lt.mpr (ge_of_eq ha)
  refine congrArg _ (((s.tick dt).valGuard_up vi _ hv hu).trans ?_)
  simp only [hslot', if_neg ha']
  exact State.disarm_clearAll _ (slotReg k) slotCounters (tSilent k)

theorem State.rd_devWritten_dev (s : State) (k value : Nat) :
    (s.devWritten k value).rd (slotReg k R.VAL_SRC_DEV) = value &&& 0xA003FFFF := by
  have hlt : value &&& 0xA003FFFF < 2 ^ 32 := Nat.and_lt_two_pow _ (by decide)
  have hother : ∀ off ∈ slotCounters, R.VAL_SRC_DEV ≠ off := by decide
  have hkept := State.rd_wrEach_ne ((s.disarm (tSilent k)).wr (slotReg k R.VAL_SRC_DEV) (maskOf 0xA003FFFF value)) (slotReg k)
    (fun _ => 0) slotCounters (slotReg k R.VAL_SRC_DEV) fun off hoff => slotReg_ne k (hother off hoff)
  exact hkept.trans ((State.rd_wr _ _ _).trans (Nat.mod_eq_of_lt hlt))

theorem State.rd_devWritten_counters (s : State) (k value : Nat) :
    ∀ off ∈ slotCounters, (s.devWritten k value).rd (slotReg k off) = 0 :=
  fun _ hoff => State.rd_clearAll _ (slotReg k) slotCounters hoff

theorem State.after_devWritten (s : State) (k value : Nat) :
    (s.disarm (tSilent k)).After (s.devWritten k value) ((R.VAL_SRC_DEV :: slotCounters).map (slotReg k)) := by
  have hdev := (State.After.refl (s.disarm (tSilent k)) ((R.VAL_SRC_DEV :: slotCounters).map (slotReg k))).wr
    (slotReg k R.VAL_SRC_DEV) (maskOf 0xA003FFFF value) List.mem_cons_self
  exact hdev.trans ((State.after_clearAll _ (slotReg k) slotCounters).mono fun _ => List.mem_cons_of_mem _)

theorem State.devWritten_val (s : State) (k value : Nat) : (s.devWritten k value).val = s.val :=
  (congrArg State.val (s.after_devWritten k value).1).trans rfl

/-- Settles O25: one lemma for each command and outcome, the tests of a frame in their order, and the clearing of a slot by
`State.clearAll`. -/
theorem valueFramesQueueAreTestedAndApply : Obligations.ValueFramesQueueAreTestedAndApply := by
  refine ⟨exec_valueFrameEnqueue_of_waiting, ?full, exec_valueFrameApply_of_waiting, exec_valueFrameApply_of_empty,
    State.valFrame_of_malformed, State.valFrame_of_unknown, ?rejected, ?sequence, ?silent, ?devWrite,
    exec_valEngineHang_of_waiting⟩
  case full =>
    intro dt s p rest hr hin hfull
    exact ⟨_, exec_valueFrameEnqueue_of_full dt s p rest hin hfull, rfl, rfl, State.rd_frameOverflow _ hr, State.pend_frameOverflow _ hr,
      State.after_frameOverflow _ hr⟩
  case rejected =>
    intro s p pl u k hr hu hpl hlen hmagic hver hrecs hslot hreason
    rw [s.valFrame_of_rejected p pl u hu hpl hlen hmagic hver hrecs k hslot hreason]
    have hrej : (s.frameRejected k (s.frameReason k p pl)).bus.Ranged := hr
    have hstat := State.rd_slotEvent _ hrej k 0 k (off := R.VAL_SRC_STAT)
    refine ⟨rfl, ?_, (congrArg (fieldOf 4 4) hstat).trans (State.fld_frameRejected _ _ _ (s.frameReason_lt k p pl)), ?_⟩
    · exact (State.rd_slotEvent _ hrej k 0 k).trans (State.rd_frameRejected_seq _ _ _)
    · exact (State.rd_slotEvent _ hrej k 0 k).trans (State.rd_frameRejected_count _ _ _)
  case sequence =>
    intro s k p pl hre hseen hpath hown
    rw [s.frameReason_of_seen k p pl hre hseen hpath hown, ← s.seqAhead_eq_zero_iff k pl]
    show _ ∧ (_ ↔ 2 ^ 31 ≤ s.seqAhead k pl)
    split_ifs with hzero hhalf
    · exact ⟨iff_of_true rfl hzero, iff_of_false (by decide) (by omega)⟩
    · exact ⟨iff_of_false (by decide) hzero, iff_of_true rfl hhalf⟩
    · exact ⟨iff_of_false (by decide) hzero, iff_of_false (by decide) hhalf⟩
  case silent => exact fun dt k s hdue => congrArg _ ((s.tick dt).onExpiry_due (tSilent k) _ hdue)
  case devWrite =>
    intro dt vi value k s hv hu hslot ha
    exact ⟨_, exec_valSrcDevWrite_of_owner dt vi value k s hv hu hslot ha, State.rd_devWritten_dev _ _ _,
      State.rd_devWritten_counters _ _ _, State.devWritten_val _ _ _, State.after_devWritten _ _ _⟩

end Sys2Proof.Machine
end

section
/-! SUPPORT. Endpoint commands (R227, R448): READ, WRITE, WRITE_CLEAR and SET of an owner, and the words of an entry that they install. -/

namespace Sys2Proof.Machine

/-! ## READ and SET -/

section
variable (dt vi i : Nat) (s : State) (hv : s.bus.physOf .val vi 0 ≠ none) (hu : s.bus.pageUp valPage = true)
include hv hu

theorem exec_valEpRead_of_none (hsel : (s.tick dt).epSel vi = none) : exec (.valEpRead dt vi) s = .next ((s.tick dt).epRefuse vi 5) := by
  refine congrArg _ (((s.tick dt).valGuard_up vi _ hv hu).trans ?_)
  simp only [hsel]

theorem exec_valEpSet_of_none (hsel : (s.tick dt).epSel vi = none) : exec (.valEpSet dt vi) s = .next ((s.tick dt).epRefuse vi 5) := by
  refine congrArg _ (((s.tick dt).valGuard_up vi _ hv hu).trans ?_)
  simp only [hsel]

section
variable (hsel : (s.tick dt).epSel vi = some i)
include hsel

theorem exec_valEpRead_of_selected : exec (.valEpRead dt vi) s =
    .next (((s.tick dt).wrEach (fun n => valReg vi (R.VAL_EP_D + 4 * n)) (fun n => ((s.tick dt).epWords vi i).getD n 0)
      (List.range 8)).wr (valReg vi R.VAL_EP_STATUS) 0) := by
  refine congrArg _ (((s.tick dt).valGuard_up vi _ hv hu).trans ?_)
  simp only [hsel]
  rfl

theorem exec_valEpSet_of_reader (ha : s.bus.access .val i vi = 1) : exec (.valEpSet dt vi) s = .next ((s.tick dt).on (·.denied)) := by
  have hlt : (s.tick dt).bus.access .val i vi < 2 := ha ▸ Nat.one_lt_two
  refine congrArg _ (((s.tick dt).valGuard_up vi _ hv hu).trans ?_)
  simp only [hsel, if_pos hlt]

/-- SET is a record whose capture time is W (R227). -/
theorem exec_valEpSet_of_owner (ha : s.bus.access .val i vi = 2) : exec (.valEpSet dt vi) s =
    .next (((s.tick dt).applyRecord i (s.rd (valReg vi (R.VAL_EP_D + 12)) % 65536) (s.fld (valReg vi (R.VAL_EP_D + 12)) 16 4)
      (s.fld (valReg vi (R.VAL_EP_D + 12)) 20 4) (s.tick dt).arrival (s.fld (valReg vi (R.VAL_EP_D + 16)) 0 16) none).1.wr
        (valReg vi R.VAL_EP_STATUS) 0) := by
  have hge : ¬ (s.tick dt).bus.access .val i vi < 2 := Nat.not_lt.mpr (ge_of_eq ha)
  refine congrArg _ (((s.tick dt).valGuard_up vi _ hv hu).trans ?_)
  simp only [hsel, if_neg hge]
  rfl

end

end

theorem State.ep_wr (s : State) (k v i : Nat) : (s.wr k v).ep i = s.ep i := rfl

theorem State.arrival_of_known (s : State) (h : s.timState ≠ 0) : s.arrival = some s.bus.w250 := if_neg h

/-! ## WRITE and WRITE_CLEAR (R227, R448) -/

/-- A WRITE or WRITE_CLEAR that is done and recorded. -/
def State.epRecorded (s : State) (vi i kind : Nat) (w : List Nat) : State :=
  ((s.wr (valReg vi R.VAL_EP_STATUS) 0).epApply ⟨kind, vi, i, w⟩).jconfig (jwaitKind ⟨kind, vi, i, w⟩) (epEntries i (s.epPhys vi w))

theorem State.logRoom_wr (s : State) (k v n : Nat) : (s.wr k v).logRoom n = s.logRoom n := rfl

theorem epEntries_length (i : Nat) (w : List Nat) : (epEntries i w).length = 3 := rfl

/-- A change with room in the log is done and recorded (R448). -/
theorem State.journaled_of_room (s : State) (w : JWait) (entries : List (Nat × Nat)) (busy f : State → State)
    (hopen : s.jrn.closed = false) (hroom : s.logRoom entries.length = true) :
    s.journaled w entries busy f = (f s).jconfig (jwaitKind w) entries := by
  simp only [State.journaled, hopen, hroom, Bool.false_eq_true, if_false, if_true]

section
variable (vi i kind : Nat) (s : State) (hv : s.bus.physOf .val vi 0 ≠ none) (hu : s.bus.pageUp valPage = true)
include hv hu

theorem State.epWriteCmd_of_none (hsel : s.epSel vi = none) : s.epWriteCmd vi kind = s.epRefuse vi 5 := by
  refine (s.valGuard_up vi _ hv hu).trans ?_
  simp only [hsel]

section
variable (hsel : s.epSel vi = some i)
include hsel

theorem State.epWriteCmd_of_reader (ha : s.bus.access .val i vi = 1) : s.epWriteCmd vi kind = s.on (·.denied) := by
  have hlt : s.bus.access .val i vi < 2 := ha ▸ Nat.one_lt_two
  refine (s.valGuard_up vi _ hv hu).trans ?_
  simp only [hsel, if_pos hlt]

variable (w : List Nat) (ha : s.bus.access .val i vi = 2)
  (hw : w = (List.range 3).map (fun n => s.rd (valReg vi (R.VAL_EP_D + 4 * n))))
include ha hw

theorem State.epWriteCmd_of_refused (hr : s.epReason vi i w ≠ 0) : s.epWriteCmd vi kind = s.epRefuse vi (s.epReason vi i w) := by
  have hge : ¬ s.bus.access .val i vi < 2 := Nat.not_lt.mpr (ge_of_eq ha)
  refine (s.valGuard_up vi _ hv hu).trans ?_
  simp only [hsel, if_neg hge, ← hw, if_pos hr]

theorem State.epWriteCmd_of_accepted (hr : s.epReason vi i w = 0) (hopen : s.jrn.closed = false) (hroom : s.logRoom 3 = true) :
    s.epWriteCmd vi kind = s.epRecorded vi i kind w := by
  have hge : ¬ s.bus.access .val i vi < 2 := Nat.not_lt.mpr (ge_of_eq ha)
  refine (s.valGuard_up vi _ hv hu).trans ?_
  simp only [hsel, if_neg hge, ← hw, if_neg (not_not.mpr hr)]
  have hopen' : (s.wr (valReg vi R.VAL_EP_STATUS) 0).jrn.closed = false := by rwa [State.wr_jrn]
  rw [State.journaled_of_room _ _ _ _ _ hopen' (by rwa [State.logRoom_wr, epEntries_length]), State.epRecorded]

end

end

/-! ### A VI's numbering does not depend on the registers but for RECOVERY of DEV PAGE_STATUS -/

section
variable (b : Bus) (k v : Nat) (h : k ≠ rk 0 hdrPageStatus)
include h

theorem Bus.recovery_wr : (b.wr k v).recovery = b.recovery := congrArg (bitOf 19) (b.rd_wr_ne k v _ h.symm)

theorem Bus.sees_wr (blk : Block) (vi : Nat) : (b.wr k v).sees blk vi = b.sees blk vi := by
  unfold Bus.sees
  rw [b.recovery_wr k v h]
  rfl

theorem Bus.access_wr (blk : Block) (i vi : Nat) : (b.wr k v).access blk i vi = b.access blk i vi := by
  unfold Bus.access
  rw [b.sees_wr k v h, b.recovery_wr k v h]
  rfl

theorem State.physSlot_wr (s : State) (vi j : Nat) : (s.wr k v).physSlot vi j = s.physSlot vi j := by
  have hacc : ∀ x, (s.wr k v).slotAccess x vi = s.slotAccess x vi := fun x => s.bus.access_wr k v h .val (256 * x) vi
  simp only [State.physSlot, hacc]

theorem State.epConfig_wr (s : State) (vi : Nat) (w : List Nat) : (s.wr k v).epConfig vi w = s.epConfig vi w := by
  unfold State.epConfig
  simp only [State.wr_bus, s.bus.access_wr k v h, State.physSlot_wr k v h]
  rfl

theorem State.epPhys_wr (s : State) (vi : Nat) (w : List Nat) : (s.wr k v).epPhys vi w = s.epPhys vi w := by
  simp only [State.epPhys, State.epConfig_wr k v h]

end

/-! ### What a WRITE leaves -/

theorem valReg_ne_rk (vi off : Nat) {page off' : Nat} (h : page * 4096 + off' < 2 ^ 26 := by decide) : valReg vi off ≠ rk page off' := by
  unfold valReg rkVi rk
  omega

/-- The entry that the configuration words of a VI make of endpoint `i`, its state words kept or at their reset values (R227). -/
def State.epWritten (s : State) (vi i : Nat) (w : List Nat) (clear : Bool) : Ep :=
  { if clear then Ep.init else s.ep i with
    w0 := (s.epPhys vi w).getD 0 0
    w1 := (s.epPhys vi w).getD 1 0
    w2 := (s.epPhys vi w).getD 2 0
    unit := ((s.epConfig vi w).1.getD (0, 0)).1
    sub := ((s.epConfig vi w).1.getD (0, 0)).2
    pat := (s.epConfig vi w).2.1.getD 0
    map := (s.epConfig vi w).2.2.getD 0 }

theorem State.setEp_bus (s : State) (i : Nat) (e : Ep) : (s.setEp i e).bus = s.bus := rfl

theorem State.epWritten_wr (s : State) (k v : Nat) (h : k ≠ rk 0 hdrPageStatus) (vi i : Nat) (w : List Nat) (clear : Bool) :
    (s.wr k v).epWritten vi i w clear = s.epWritten vi i w clear := by
  simp only [State.epWritten, State.epPhys_wr k v h, State.epConfig_wr k v h]
  rfl

theorem State.ep_jconfig (s : State) (kind : Nat) (entries : List (Nat × Nat)) (i : Nat) : (s.jconfig kind entries).ep i = s.ep i := rfl

theorem State.ep_setBit (s : State) (k i : Nat) (v : Bool) (j : Nat) : (s.setBit k i v).ep j = s.ep j := rfl

/-- A journal record moves FLT_JRN_HEAD and writes no other register. -/
theorem State.rd_jconfig_ne (s : State) (kind : Nat) (entries : List (Nat × Nat)) (k : Nat) (h : k ≠ fltKey R.FLT_JRN_HEAD) :
    (s.jconfig kind entries).rd k = s.rd k :=
  s.rd_setFld_ne (fltKey R.FLT_JRN_HEAD) 0 16 s.jrn.next k h

section
variable (s : State) (vi i kind : Nat) (w : List Nat)

theorem State.epApply_eq : s.epApply ⟨kind, vi, i, w⟩ =
    (s.setEp i (s.epWritten vi i w (decide (kind = 1)))).setBit (valReg vi R.VAL_EP_STATUS) 0 false := rfl

theorem State.ep_epRecorded : (s.epRecorded vi i kind w).ep i = s.epWritten vi i w (decide (kind = 1)) := by
  rw [State.epRecorded, State.ep_jconfig, State.epApply_eq, State.ep_setBit, State.ep_setEp, State.epWritten_wr _ _ _ (valReg_ne_rk vi _)]

theorem State.ep_epRecorded_ne (j : Nat) (h : j ≠ i) : (s.epRecorded vi i kind w).ep j = s.ep j := by
  rw [State.epRecorded, State.ep_jconfig, State.epApply_eq, State.ep_setBit, State.ep_setEp_ne _ _ _ _ h, State.ep_wr]

theorem State.rd_epApply_status (h : s.rd (valReg vi R.VAL_EP_STATUS) = 0) :
    (s.epApply ⟨kind, vi, i, w⟩).rd (valReg vi R.VAL_EP_STATUS) = 0 := by
  rw [State.epApply_eq, State.rd_eq, State.setBit_bus, Bus.rd_setBit _ _ _ _ (by decide), State.setEp_bus, ← State.rd_eq, h]
  rfl

theorem State.rd_epRecorded_status : (s.epRecorded vi i kind w).rd (valReg vi R.VAL_EP_STATUS) = 0 := by
  rw [State.epRecorded, State.rd_jconfig_ne _ _ _ _ (valReg_ne_rk vi _), State.rd_epApply_status _ _ _ _ _ (State.rd_wr _ _ 0)]

end

/-- Settles O27: READ by a list of writes, WRITE and WRITE_CLEAR by the outcomes of `State.epWriteCmd`, and SET as a record whose
capture time is W. -/
theorem endpointCommandsReadWriteAndSet : Obligations.EndpointCommandsReadWriteAndSet := by
  refine ⟨?read, ?none, ?refused, ?written, ?reader, ?set⟩
  case read =>
    intro dt vi i s hv hu hsel
    have hstatus : ∀ n, valReg vi (R.VAL_EP_D + 4 * n) ≠ valReg vi R.VAL_EP_STATUS := fun n => valReg_ne vi (by
      show 0x0D0 + 4 * n ≠ 0x0C8
      omega)
    refine ⟨_, exec_valEpRead_of_selected dt vi i s hv hu hsel, State.rd_wr _ _ 0, fun n hn => ?_, ?_, ?_⟩
    · rw [State.rd_wr_ne _ _ _ _ (hstatus n)]
      exact State.rd_wrEach _ _ _ (fun m n hmn => valReg_ne vi (by omega)) _ (List.mem_range.mpr hn)
    · rw [State.wr_val, State.wrEach_val, State.tick_val]
    · exact (((s.tick dt).after_wrEach _ _ _).mono fun _ => List.mem_cons_of_mem _).wr _ _ List.mem_cons_self
  case none =>
    intro dt vi s hv hu hsel
    have hwrite := fun kind => State.epWriteCmd_of_none vi kind (s.tick dt) hv hu hsel
    exact ⟨exec_valEpRead_of_none dt vi s hv hu hsel, congrArg _ (hwrite 0), congrArg _ (hwrite 1),
      exec_valEpSet_of_none dt vi s hv hu hsel⟩
  case refused =>
    intro dt vi i s w hv hu hsel ha hw hr
    have hwrite := fun kind => State.epWriteCmd_of_refused vi i kind (s.tick dt) hv hu hsel w ha hw hr
    exact ⟨congrArg _ (hwrite 0), congrArg _ (hwrite 1)⟩
  case written =>
    intro dt vi i s w hv hu hsel ha hw hr hopen hroom
    have hwrite := fun kind => State.epWriteCmd_of_accepted vi i kind (s.tick dt) hv hu hsel w ha hw hr hopen hroom
    have hep := fun kind => (s.tick dt).ep_epRecorded vi i kind w
    refine ⟨⟨(s.tick dt).epRecorded vi i 0 w, congrArg _ (hwrite 0), ?_, ?_, ?_, ?_, ?_, (s.tick dt).ep_epRecorded_ne vi i 0 w,
        (s.tick dt).rd_epRecorded_status vi i 0 w⟩,
      ⟨(s.tick dt).epRecorded vi i 1 w, congrArg _ (hwrite 1), ?_, ?_, ?_, ?_, ?_, (s.tick dt).ep_epRecorded_ne vi i 1 w,
        (s.tick dt).rd_epRecorded_status vi i 1 w⟩⟩ <;>
    · rw [hep]
      rfl
  case reader =>
    intro dt vi i s hv hu hsel ha
    exact ⟨congrArg _ (State.epWriteCmd_of_reader vi i 0 (s.tick dt) hv hu hsel ha), exec_valEpSet_of_reader dt vi i s hv hu hsel ha⟩
  case set =>
    intro dt vi i s hv hu hsel ha htim hold
    have hrep : tcReplaces (s.tick dt).arrival ((s.tick dt).ep i).tc = true := by
      rw [(s.tick dt).arrival_of_known htim]
      exact (tcReplaces_iff _ _).mpr fun old h => ⟨_, rfl, hold old h⟩
    refine ⟨_, exec_valEpSet_of_owner dt vi i s hv hu hsel ha, ?_, fun j hj => ?_, State.rd_wr _ _ 0⟩ <;>
      rw [State.applyRecord_of_replaces _ _ _ _ _ _ _ _ hrep, State.ep_wr]
    · rw [State.ep_setEp, (s.tick dt).arrival_of_known htim]
      rfl
    · exact State.ep_setEp_ne _ _ _ _ hj

end Sys2Proof.Machine
end

section
/-! SUPPORT. The clock of the page network while events are reported (R49, R97), and the pages of the chains, matrix ports and string
stages: their events, and the hidden state of each (Table 3-4, R235 to R260). -/

namespace Sys2Proof.Machine

/-! ## No report takes time -/

theorem Bus.fireRoutes_now (b : Bus) (page evn : Nat) : (b.fireRoutes page evn).now = b.now := by
  obtain ⟨e, he⟩ := b.fireRoutes_eq page evn
  rw [he]

theorem Bus.keeperStore_now (b : Bus) (r : EvRec) : (b.keeperStore r).1.now = b.now := by
  by_cases h : b.keeperFull
  · rw [b.keeperStore_of_full r h]; rfl
  · rw [b.keeperStore_of_room r h]; rfl

theorem Bus.stepSeq_now (b : Bus) (vi : Nat) : (b.stepSeq vi).now = b.now := rfl

theorem Bus.raiseOverflow_now (b : Bus) : b.raiseOverflow.now = b.now := by
  unfold Bus.raiseOverflow
  dsimp only
  split
  · rfl
  · split
    · rw [Bus.keeperStore_now, Bus.stepSeq_now, Bus.fireRoutes_now, Bus.setBit_now]
    · rw [Bus.fireRoutes_now, Bus.setBit_now]

theorem Bus.toKeeper_now (b : Bus) (r : EvRec) : (b.toKeeper r).now = b.now := by
  by_cases h : b.keeperFull
  · rw [b.toKeeper_of_full r h, Bus.raiseOverflow_now]
    rfl
  · rw [b.toKeeper_of_room r h, Bus.keeperStore_now, Bus.stepSeq_now]

theorem Bus.hostStore_now (b : Bus) (vi : Nat) (r : EvRec) : (b.hostStore vi r).1.now = b.now := by
  by_cases h : b.hostFull vi
  · rw [b.hostStore_of_full vi r h]
    exact Bus.raiseOverflow_now _
  · rw [b.hostStore_of_room vi r h]; rfl

theorem Bus.msixFor_now (b : Bus) (vi evn : Nat) : (b.msixFor vi evn).1.now = b.now := by
  unfold Bus.msixFor
  dsimp only
  split
  · split <;> rfl
  · rfl

theorem Bus.viVectorError_now (b : Bus) (vi : Nat) : (b.viVectorError vi).now = b.now := by
  have hstore : ∀ r, (((b.setBit (rk (viPage vi) hdrPageStatus) 2 true).stepSeq vi).hostStore vi r).1.now = b.now :=
    fun r => Bus.hostStore_now _ vi r
  unfold Bus.viVectorError
  dsimp only
  split
  · rfl
  · split
    · exact (Bus.msixFor_now _ _ _).trans (hstore _)
    · exact hstore _

theorem Bus.toHost_now (b : Bus) (vi evn : Nat) (r : EvRec) : (b.toHost vi evn r).now = b.now := by
  have hstore : ((b.stepSeq vi).hostStore vi r).1.now = b.now := Bus.hostStore_now _ vi r
  have hmsix := (Bus.msixFor_now ((b.stepSeq vi).hostStore vi r).1 vi evn).trans hstore
  unfold Bus.toHost
  dsimp only
  split
  · split
    · split
      · exact (Bus.viVectorError_now _ vi).trans hmsix
      · exact hmsix
    · exact hstore
  · rfl

theorem Bus.toNet_now (b : Bus) (vi : Nat) (r : EvRec) : (b.toNet vi r).now = b.now := by
  unfold Bus.toNet
  dsimp only
  split
  · rfl
  · split
    · rfl
    · exact Bus.raiseOverflow_now _

theorem Bus.deliver_now (b : Bus) (vi page bit evn : Nat) (entry : Option Nat) : (b.deliver vi page bit evn entry).now = b.now := by
  unfold Bus.deliver
  dsimp only
  split
  · exact b.toKeeper_now _
  · split
    · exact b.toHost_now _ _ _
    · exact b.toNet_now _ _

theorem Bus.raise_now (b : Bus) (page i : Nat) (he : entryGranted page = false) : (b.raise page i).now = b.now := by
  rw [b.raise_eq page i he]
  split
  · rfl
  · split
    · exact (Bus.deliver_now _ _ _ _ _ _).trans (Bus.fireRoutes_now _ _ _)
    · exact Bus.fireRoutes_now _ _ _

theorem Bus.Ranged.wr {b : Bus} (h : b.Ranged) (k v : Nat) : (b.wr k v).Ranged :=
  h.of_reported (b.wr_reported k v [k] (.inl (List.mem_singleton_self _)))

/-! ## Pages -/

/-- The page of a chain, a matrix port or a string stage (Table 3-4). -/
def LightPage (page : Nat) : Prop := Block.lit.base ≤ page ∧ page < Block.pat.base

theorem lightPage_lit {c : Nat} (hc : c < 64) : LightPage (litPage c) := by
  simp only [LightPage, litPage, Block.pg, Block.base]
  omega

theorem lightPage_mtx {m : Nat} (hm : m < 2) : LightPage (mtxPage m) := by
  simp only [LightPage, mtxPage, Block.pg, Block.base]
  omega

theorem lightPage_stg {n : Nat} (hn : n < 12) : LightPage (stgPage n) := by
  simp only [LightPage, stgPage, Block.pg, Block.base]
  omega

/-- No block granted by entry has a page among those of the chains, matrix ports and string stages (Table 3-4). -/
theorem blockTable_entry_apart_light : ∀ r ∈ blockTable, (match r.grant with | .entry _ _ _ => true | _ => false) = true →
    r.page + r.pages ≤ Block.lit.base ∨ Block.pat.base ≤ r.page := by
  decide

section
variable {page : Nat} (hp : LightPage page)
include hp

theorem LightPage.entryGranted : entryGranted page = false := by
  obtain ⟨hlo, hhi⟩ := hp
  have haside : asidePage page = false := by
    simp only [Block.base] at hlo hhi
    have hfar : ¬ page ≤ bstAside + 48 := by
      simp only [bstAside]
      omega
    rw [asidePage, decide_eq_false hfar, Bool.and_false]
  unfold Machine.entryGranted rowOfPage
  rw [haside, if_neg Bool.false_ne_true]
  split
  · next r hr =>
    have hin := List.find?_some hr
    simp only [Bool.and_eq_true, decide_eq_true_eq] at hin
    rw [← Bool.not_eq_true]
    intro hg
    have happ := blockTable_entry_apart_light r (List.mem_of_find?_eq_some hr) hg
    omega
  · rfl

theorem LightPage.reportKey {off : Nat} (ho : off < 4096 := by decide) : reportKey (rk page off) = false := by
  simp only [LightPage, Block.base] at hp
  exact reportKey_rk page off (by omega) ho ⟨by omega, by omega, by omega⟩

theorem LightPage.raise_now (s : State) (i : Nat) : (s.raise page i).bus.now = s.bus.now :=
  s.bus.raise_now page i hp.entryGranted

section
variable {s t : State} {ks : List Nat} (hr : s.bus.Ranged)
include hr

/-- An occurrence of an event of the page keeps the frame of reporting. -/
theorem LightPage.after_raise (h : s.After t ks) (i : Nat) (hk : pendKey page ∈ ks) : s.After (t.raise page i) ks :=
  h.raise hr page i hp.entryGranted hk

theorem LightPage.pend_raise (i : Nat) (hi : i < 32) : (s.raise page i).pend page i = true :=
  s.pend_raise hr page i hi hp.entryGranted hp.reportKey

theorem LightPage.rd_raise (i : Nat) {off : Nat} (hne : off ≠ hdrEvtPend := by decide) (ho : off < 4096 := by decide) :
    (s.raise page i).rd (rk page off) = s.rd (rk page off) :=
  s.rd_raise hr page i _ hp.entryGranted (rk_ne_off _ hne) (hp.reportKey ho)

/-- An event leaves the other pending events pending. -/
theorem LightPage.pend_raise_ne (i j : Nat) (hi : i < 32) (h : j ≠ i) : (s.raise page i).pend page j = s.pend page j := by
  have hset : s.bus.Reported (s.bus.setBit (pendKey page) i true) [pendKey page] :=
    s.bus.setBit_reported _ _ _ _ (.inl (List.mem_singleton_self _))
  have hroute := Bus.fireRoutes_reported _ (hr.of_reported hset) page (eventNumber page i) []
  have hbit : ((s.bus.setBit (pendKey page) i true).fireRoutes page (eventNumber page i)).bit (pendKey page) j = s.pend page j := by
    rw [Bus.bit_eq, Bus.rd_fireRoutes]
    exact s.bit_setBit_ne (pendKey page) i true j hi h
  show (s.bus.raise page i).bit (pendKey page) j = s.pend page j
  rw [s.bus.raise_eq page i hp.entryGranted]
  split
  · rfl
  · split
    · have hdel := Bus.deliver_reported _ ((hr.of_reported hset).of_reported hroute) (s.bus.ownerOfPage page)
        (s.bus.ownerOfPage_lt hr page) page i (eventNumber page i) none []
      rw [← hbit, Bus.bit_eq, Bus.bit_eq, hdel.regs (pendKey page) List.not_mem_nil hp.reportKey]
    · exact hbit

end

end

/-! ## Hidden state -/

@[simp] theorem State.chain_setChain (s : State) (c : Nat) (x : Chain) : (s.setChain c x).chain c = x := SMap.find_put _ _ _ _

@[simp] theorem State.mtx_setMtx (s : State) (m : Nat) (x : Mtx) : (s.setMtx m x).mtx m = x := SMap.find_put _ _ _ _

@[simp] theorem State.stage_setStage' (s : State) (n : Nat) (x : Stage) : (s.setStage' n x).stage n = x := SMap.find_put _ _ _ _

theorem State.chain_of_lit {s t : State} (h : t.lit = s.lit) (c : Nat) : t.chain c = s.chain c :=
  congrArg (fun l : Light => l.chains.find Chain.init c) h

theorem State.stage_of_lit {s t : State} (h : t.lit = s.lit) (n : Nat) : t.stage n = s.stage n :=
  congrArg (fun l : Light => l.stg.find Stage.init n) h

theorem State.rd_setChain (s : State) (c : Nat) (x : Chain) (k : Nat) : (s.setChain c x).rd k = s.rd k := rfl

theorem State.rd_setStage' (s : State) (n : Nat) (x : Stage) (k : Nat) : (s.setStage' n x).rd k = s.rd k := rfl

theorem State.rd_arm (s : State) (t clks k : Nat) : (s.arm t clks).rd k = s.rd k := rfl

theorem State.find_arm (s : State) (t clks : Nat) : (s.arm t clks).bus.timers.find? t = some (s.bus.now + clks) := SMap.find?_set _ _ _

end Sys2Proof.Machine
end

section
/-! SUPPORT. Matrix ports by command and outcome (R253 to R256). -/

namespace Sys2Proof.Machine

theorem mtxKey_ne (m : Nat) {off off' : Nat} (h : off ≠ off') : mtxKey m off ≠ mtxKey m off' := rk_ne_off _ h

/-! ### Points and lines -/

/-- The valid endpoints that are points of a matrix port. -/
def State.mtxPoints (s : State) (m : Nat) : List (Nat × Ep) :=
  s.val.eps.cells.filter (fun x => x.2.valid && decide (x.2.kind = 1) && decide (x.2.unit = m))

/-- One point is read and judged for W = `w`, in the state `s` in which the read began. -/
def State.scanPoint (s : State) (w : Nat) (a : State × List (Nat × Nat)) (x : Nat × Ep) : State × List (Nat × Nat) :=
  (a.1.markStale x.1 (s.shownAs x.2 w 0), (x.2.sub, (s.present x.2 x.2.sub w (s.shownAs x.2 w 0)).c0) :: a.2)

/-- The columns of line `l` that are driven, with their on times in clocks. -/
def State.lineCols (s : State) (m l : Nat) : List (Nat × Nat) :=
  (((s.mtx m).duty.filter (fun p => decide (p.1 / 64 = l))).map (fun p =>
    (p.1 % 64, onClocks (s.fld (mtxKey m R.MTX_CTRL) 0 10) p.2))).filter (fun p => p.2 != 0)

theorem State.mem_lineCols (s : State) (m l : Nat) (p : Nat × Nat) : p ∈ s.lineCols m l ↔
    p.2 ≠ 0 ∧ ∃ q ∈ (s.mtx m).duty, q.1 / 64 = l ∧ q.1 % 64 = p.1 ∧ onClocks (s.fld (mtxKey m R.MTX_CTRL) 0 10) q.2 = p.2 := by
  obtain ⟨col, on⟩ := p
  simp only [State.lineCols, List.mem_filter, List.mem_map, bne_iff_ne, decide_eq_true_eq, Prod.mk.injEq, and_assoc]
  exact and_comm

/-- What a line slot leaves of the port: the columns driven, the precharge of the dead time, and whether the line was switched off. -/
def State.lineDriven (s : State) (m l : Nat) (oc : Bool) : State :=
  (s.setMtx m { s.mtx m with
    cols := s.lineCols m l
    pre := if s.bit (mtxKey m R.MTX_PRECHARGE) 8 then some (s.fld (mtxKey m R.MTX_PRECHARGE) 0 8) else none
    off := oc }).setFld (mtxKey m R.MTX_STATUS) 1 4 l

theorem State.mtx_lineDriven (s : State) (m l : Nat) (oc : Bool) : (s.lineDriven m l oc).mtx m = { s.mtx m with
    cols := s.lineCols m l
    pre := if s.bit (mtxKey m R.MTX_PRECHARGE) 8 then some (s.fld (mtxKey m R.MTX_PRECHARGE) 0 8) else none
    off := oc } := State.mtx_setMtx _ _ _

theorem State.after_lineDriven (s : State) (m l : Nat) (oc : Bool) {ks : List Nat} (hk : mtxKey m R.MTX_STATUS ∈ ks) :
    ({ s with lit := (s.lineDriven m l oc).lit } : State).After (s.lineDriven m l oc) ks :=
  (State.After.refl _ _).setFld _ _ _ _ hk

section
variable (dt m st : Nat) (s : State) (hst : (s.mtx m).start = some st)
include hst

/-! ### The read of a scan frame (R255) -/

theorem exec_matrixScanRead_of_early (h : s.bus.now + dt < st + 15 * s.mtxSlot m) : exec (.matrixScanRead dt m) s = .next (s.tick dt) := by
  have hst' : ((s.tick dt).mtx m).start = some st := hst
  refine congrArg Host.Outcome.next (?_ : _ = _)
  simp only [hst']
  exact if_pos (.inl h)

theorem exec_matrixScanRead_of_due (h : st + 15 * s.mtxSlot m ≤ s.bus.now + dt) (hrun : s.bus.domRuns 1 = true)
    (r : State × List (Nat × Nat))
    (hr : r = (s.mtxPoints m).foldl ((s.tick dt).scanPoint ((s.tick dt).bus.w250 + 8 * (st + 16 * s.mtxSlot m - (s.bus.now + dt))))
      (s.tick dt, [])) :
    exec (.matrixScanRead dt m) s = .next (r.1.setMtx m { s.mtx m with next := r.2 }) := by
  have hst' : ((s.tick dt).mtx m).start = some st := hst
  have hdue : ¬ ((s.tick dt).bus.now < st + 15 * (s.tick dt).mtxSlot m ∨ (s.tick dt).bus.domRuns 1 = false) :=
    fun hn => hn.elim (Nat.not_lt.mpr h) (fun hf => Bool.noConfusion (hf.symm.trans hrun))
  subst hr
  refine congrArg Host.Outcome.next (?_ : _ = _)
  simp only [hst']
  rw [if_neg hdue, ← hst]
  rfl

/-! ### The start of a scan frame (R255) -/

theorem exec_matrixScanFrameStart_of_due (h : st + 16 * s.mtxSlot m ≤ s.bus.now + dt) : exec (.matrixScanFrameStart dt m) s =
    .next ((((s.tick dt).setMtx m { s.mtx m with
      start := some (st + 16 * s.mtxSlot m)
      duty := (s.mtx m).next
      cols := []
      off := false }).addWrap (mtxKey m R.MTX_CNT_SCANS) 1).setFld (mtxKey m R.MTX_STATUS) 1 4 0) := by
  have hst' : ((s.tick dt).mtx m).start = some st := hst
  refine congrArg Host.Outcome.next (?_ : _ = _)
  simp only [hst']
  exact if_neg (Nat.not_lt.mpr h)

/-! ### A line slot (R253, R254, R256) -/

theorem exec_matrixLineSlot_of_uncut (oc : Bool) (l : Nat) (hl : l = min 15 ((s.bus.now + dt - st) / max 1 (s.mtxSlot m))) :
    exec (.matrixLineSlot dt m [] oc) s = .next (if oc then
      (((s.tick dt).lineDriven m l oc).setBit (mtxKey m R.MTX_LINE_OC) l true).raise (mtxPage m) 1
      else (s.tick dt).lineDriven m l oc) := by
  have hst' : ((s.tick dt).mtx m).start = some st := hst
  subst hl
  refine congrArg Host.Outcome.next (?_ : _ = _)
  simp only [hst', List.filter_nil, List.isEmpty_nil, if_true, List.foldl_nil]
  rw [← hst]
  rfl

end

/-- Settles O30: the read of a scan frame by its points, the start of a scan frame, and a line slot with and without overcurrent. -/
theorem matrixPortsScanAndDrive : Obligations.MatrixPortsScanAndDrive := by
  have hstatus : ∀ m, mtxKey m R.MTX_CNT_SCANS ≠ mtxKey m R.MTX_STATUS := fun m => mtxKey_ne m (by decide)
  refine ⟨?early, ?dark, ?lit, ?frame, ?line, ?overcurrent⟩
  case early => exact exec_matrixScanRead_of_early
  case dark =>
    intro dt m st s hst hdue hrun hnone
    refine exec_matrixScanRead_of_due dt m st s hst hdue hrun (s.tick dt, []) ?_
    rw [State.mtxPoints, hnone, List.foldl_nil]
  case lit =>
    intro dt m st i d w s e hst hdue hrun hone hw hd
    refine exec_matrixScanRead_of_due dt m st s hst hdue hrun ((s.tick dt).markStale i ((s.tick dt).shownAs e w 0), [(e.sub, d)]) ?_
    rw [State.mtxPoints, hone, List.foldl_cons, List.foldl_nil, ← hw, State.scanPoint, ← hd]
  case frame =>
    intro dt m st s hst hdue
    refine ⟨_, exec_matrixScanFrameStart_of_due dt m st s hst hdue, ?_, ?_, ?_, ?_, State.fld_setFld _ _ _ _ _ (by decide), ?_⟩
    · exact congrArg Mtx.duty (State.mtx_setMtx _ _ _)
    · exact congrArg Mtx.cols (State.mtx_setMtx _ _ _)
    · exact congrArg Mtx.start (State.mtx_setMtx _ _ _)
    · rw [State.rd_setFld_ne _ _ _ _ _ _ (hstatus m), State.rd_addWrap]
      rfl
    · exact ((State.After.refl _ _).addWrap _ _ (by simp)).setFld _ _ _ _ (by simp)
  case line =>
    intro dt m st l s hst hl
    have hlt : l < 2 ^ 4 := by omega
    refine ⟨_, (exec_matrixLineSlot_of_uncut dt m st s hst false l hl).trans (congrArg _ (if_neg Bool.false_ne_true)), ?_, ?_, ?_, ?_, ?_⟩
    · exact (State.fld_setFld _ _ _ _ _ (by decide)).trans (Nat.mod_eq_of_lt hlt)
    · exact congrArg Mtx.off ((s.tick dt).mtx_lineDriven m l false)
    · exact (congrArg Mtx.duty ((s.tick dt).mtx_lineDriven m l false)).trans rfl
    · intro p
      rw [State.mtx_lineDriven]
      exact (s.tick dt).mem_lineCols m l p
    · exact (s.tick dt).after_lineDriven m l false (List.mem_singleton_self _)
  case overcurrent =>
    intro dt m st l s hr hm hst hl
    have hp := lightPage_mtx hm
    have hr' : (((s.tick dt).lineDriven m l true).setBit (mtxKey m R.MTX_LINE_OC) l true).bus.Ranged := hr
    refine ⟨_, (exec_matrixLineSlot_of_uncut dt m st s hst true l hl).trans (congrArg _ (if_pos rfl)), ?_, ?_, ?_, ?_⟩
    · exact congrArg Mtx.off ((s.tick dt).mtx_lineDriven m l true)
    · exact (congrArg (bitOf l) (hp.rd_raise hr' 1)).trans
        (State.bit_setBit ((s.tick dt).lineDriven m l true) (mtxKey m R.MTX_LINE_OC) l true (by omega))
    · exact hp.pend_raise hr' 1 (by decide)
    · exact hp.after_raise (s := { s.tick dt with lit := ((s.tick dt).lineDriven m l true).lit }) hr
        (((s.tick dt).after_lineDriven m l true (by simp)).setBit _ _ _ (by simp)) 1 (by simp)

end Sys2Proof.Machine
end

section
/-! SUPPORT. Derating by temperature (R248, R260), and string stages by command and outcome (R257 to R260). -/

namespace Sys2Proof.Machine

/-! ### Derating -/

theorem derate_of_cool (t : Int) (knee slope floor : Nat) (h : t ≤ 16 * (knee : Int)) : derate (some t) knee slope floor = 256 := if_pos h

theorem derate_le (t : Option Int) (knee slope floor : Nat) (h : floor ≤ 256) : derate t knee slope floor ≤ 256 := by
  cases t with
  | none => exact h
  | some t =>
    simp only [derate]
    split
    · exact le_rfl
    · exact max_le h (Nat.sub_le _ _)

theorem le_derate (t : Option Int) (knee slope floor : Nat) (h : floor ≤ 256) : floor ≤ derate t knee slope floor := by
  cases t with
  | none => exact le_rfl
  | some t =>
    simp only [derate]
    split
    · exact h
    · exact le_max_left _ _

theorem State.stageD_le (s : State) (n : Nat) : s.stageD n ≤ 256 := by
  unfold State.stageD
  dsimp only
  split
  · exact le_rfl
  · exact derate_le _ _ _ _ (fieldOf_lt 16 8 _).le

/-! ### Registers and hidden state of a stage -/

theorem stgKey_ne (n : Nat) {off off' : Nat} (h : off ≠ off') : stgKey n off ≠ stgKey n off' := rk_ne_off _ h

section
variable (s : State) (n : Nat)

theorem State.stage_stageRefresh : (s.stageRefresh n).stage n = { s.stage n with d := s.stageD n } := by
  unfold State.stageRefresh
  dsimp only
  split <;> exact State.stage_setStage' _ _ _

theorem State.stageRefresh_now (hn : n < 12) : (s.stageRefresh n).bus.now = s.bus.now := by
  unfold State.stageRefresh
  dsimp only
  split
  · rfl
  · exact (lightPage_stg hn).raise_now _ 3

theorem State.stageReport_lit : (s.stageReport n).lit = s.lit := by
  unfold State.stageReport State.ifThen
  dsimp only
  split <;> rfl

theorem State.after_stageReport : s.After (s.stageReport n) [stgKey n R.STG_STATUS, stgKey n R.STG_IOUT] := by
  unfold State.stageReport State.ifThen
  dsimp only
  split
  · exact ((State.After.refl _ _).wr _ _ (by simp)).wr _ _ (by simp)
  · exact (State.After.refl _ _).wr _ _ (by simp)

/-- The status that follows the current is none of a stopped stage. -/
theorem State.stageReport_not_stopped (h : s.stageStopped n = false) : (s.stageReport n).stageStopped n = false := by
  have hstatus : ∀ st < 3, ∀ i, (((s.wr (stgKey n R.STG_STATUS) st).wr (stgKey n R.STG_IOUT) i).stageStopped n) = false := by
    intro st hst i
    have hrd : ((s.wr (stgKey n R.STG_STATUS) st).wr (stgKey n R.STG_IOUT) i).rd (stgKey n R.STG_STATUS) = st % 2 ^ 32 :=
      (State.rd_wr_ne _ _ _ _ (stgKey_ne n (by decide))).trans (State.rd_wr _ _ _)
    have hfld : fieldOf 0 3 (st % 2 ^ 32) < 3 := by
      simp only [fieldOf]
      omega
    refine decide_eq_false (Nat.not_le.mpr ?_)
    rw [State.fld_eq, Bus.fld_eq, ← State.rd_eq, hrd]
    exact hfld
  unfold State.stageReport
  rw [h]
  refine hstatus _ ?_ _
  split
  · decide
  · split <;> decide

theorem State.stage_stageGo : (s.stageGo n).stage n = { s.stage n with
    src := if (stageLight (s.fld (stgKey n R.STG_CTRL) 0 2) (s.stage n).eff).1 = 0 then 0 else s.stageCur n
    dst := (stageLight (s.fld (stgKey n R.STG_CTRL) 0 2) (s.stage n).eff).1
    duty := (stageLight (s.fld (stgKey n R.STG_CTRL) 0 2) (s.stage n).eff).2
    since := s.bus.now } :=
  (State.stage_of_lit (State.stageReport_lit _ n) n).trans (State.stage_setStage' _ _ _)

theorem State.stageGo_not_stopped (h : s.stageStopped n = false) : (s.stageGo n).stageStopped n = false :=
  State.stageReport_not_stopped _ n h

theorem State.stageGo_ranged (h : s.bus.Ranged) : (s.stageGo n).bus.Ranged :=
  Bus.Ranged.of_after (s := s.setStage' n _) h (State.after_stageReport _ n)

/-- An event of a stage changes none of its registers but EVT_PEND. -/
theorem State.rd_raiseStg (hr : s.bus.Ranged) (hn : n < 12) (i : Nat) {off : Nat} (hne : off ≠ hdrEvtPend := by decide)
    (ho : off < 4096 := by decide) : (s.raise (stgPage n) i).rd (stgKey n off) = s.rd (stgKey n off) :=
  (lightPage_stg hn).rd_raise hr i hne ho

end

/-! ### The read of its endpoint (R258, R260) -/

/-- The setpoint of channel 0 at `c0` is read, and takes effect in 20 µs. -/
def State.stageTaken (s : State) (n c0 vout : Nat) : State :=
  (((s.setStage' n { s.stage n with read := c0 * s.stageD n / 256 }).wr (stgKey n R.STG_SETPOINT)
    (c0 * s.stageD n / 256 + s.stageD n * 65536)).wr (stgKey n R.STG_VOUT) (vout % 4096)).arm (tStgEff n) (clkUs 20)

section
variable (s : State) (n c0 vout : Nat)

theorem State.stage_stageTaken : (s.stageTaken n c0 vout).stage n = { s.stage n with read := c0 * s.stageD n / 256 } := by
  rw [State.stageTaken, State.stage_of_lit (State.arm_lit _ _ _), State.stage_of_lit (State.wr_lit _ _ _),
    State.stage_of_lit (State.wr_lit _ _ _), State.stage_setStage']

theorem State.rd_stageTaken_setpoint : (s.stageTaken n c0 vout).rd (stgKey n R.STG_SETPOINT) =
    (c0 * s.stageD n / 256 + s.stageD n * 65536) % 2 ^ 32 := by
  rw [State.stageTaken, State.rd_arm, State.rd_wr_ne _ _ _ _ (stgKey_ne n (by decide)), State.rd_wr]

theorem State.rd_stageTaken_vout : (s.stageTaken n c0 vout).rd (stgKey n R.STG_VOUT) = vout % 4096 := by
  rw [State.stageTaken, State.rd_arm, State.rd_wr]
  exact Nat.mod_eq_of_lt (by omega)

theorem State.stageTaken_due : (s.stageTaken n c0 vout).bus.timers.find? (tStgEff n) = some (s.bus.now + clkUs 20) := by
  have hnow : ∀ x, (s.setStage' n x).bus.now = s.bus.now := fun _ => rfl
  rw [State.stageTaken, State.find_arm, State.wr_bus, Bus.wr_now, State.wr_bus, Bus.wr_now, hnow]

end

section
variable (dt n vout : Nat) (s s1 : State) (hdue : (s.tick dt).due (tStgRead n) = true) (hrun : s.bus.domRuns 1 = true)
  (hs1 : s1 = (((s.tick dt).disarm (tStgRead n)).stageRefresh n).arm (tStgRead n) (clkMs 10))
include hs1

theorem stageRead_eff : (s1.stage n).eff = (s.stage n).eff := by
  rw [hs1]
  exact (congrArg Stage.eff (((s.tick dt).disarm (tStgRead n)).stage_stageRefresh n)).trans rfl

theorem stageRead_now (hn : n < 12) : s1.bus.now = s.bus.now + dt := by
  rw [hs1]
  exact ((s.tick dt).disarm (tStgRead n)).stageRefresh_now n hn

include hdue hrun

theorem exec_stageRead_of_none (hep : s1.epFor 2 n 0 = none) : exec (.stageRead dt n vout) s = .next (s1.stageTaken n 0 vout) := by
  subst hs1
  refine congrArg Host.Outcome.next ((State.onExpiry_due _ _ _ hdue).trans ((if_pos hrun).trans ?_))
  simp only [hep]
  rfl

theorem exec_stageRead_of_some (i : Nat) (e : Ep) (hep : s1.epFor 2 n 0 = some (i, e)) (how : Shown)
    (hhow : how = s1.shownAs e (s1.bus.w250 + 8 * clkUs 20) 0) : exec (.stageRead dt n vout) s =
      .next ((s1.markStale i how).stageTaken n (s1.present e n (s1.bus.w250 + 8 * clkUs 20) how).c0 vout) := by
  subst hhow hs1
  refine congrArg Host.Outcome.next ((State.onExpiry_due _ _ _ hdue).trans ((if_pos hrun).trans ?_))
  simp only [hep]
  rfl

end

/-! ### Setpoint, trips and retry (R258, R259) -/

theorem exec_stageSetpointEffect_of_change (dt n : Nat) (s : State) (hdue : (s.tick dt).due (tStgEff n) = true)
    (hrun : s.stageStopped n = false)
    (hne : stageLight (s.fld (stgKey n R.STG_CTRL) 0 2) (s.stage n).read ≠ ((s.stage n).dst, (s.stage n).duty)) :
    exec (.stageSetpointEffect dt n) s =
      .next ((((s.tick dt).disarm (tStgEff n)).setStage' n { s.stage n with eff := (s.stage n).read }).stageGo n) := by
  have hrun' : ¬ (((s.tick dt).disarm (tStgEff n)).setStage' n { s.stage n with eff := (s.stage n).read }).stageStopped n = true :=
    Bool.not_eq_true _ ▸ hrun
  exact congrArg Host.Outcome.next ((State.onExpiry_due _ _ _ hdue).trans ((if_neg hrun').trans (if_neg hne)))

/-- A stage that trips: what STAGE_OVERVOLTAGE and STAGE_SHORT leave before their event. -/
def State.stageCut (s : State) (n st cnt : Nat) : State :=
  (((s.setStage' n { s.stage n with src := 0, dst := 0, duty := 0, since := s.bus.now }).wr (stgKey n R.STG_STATUS) st).wr
    (stgKey n R.STG_IOUT) 0).addSat (stgKey n cnt) 1

section
variable (s : State) (n st cnt bit : Nat)

theorem State.stageTrip_of_running (hen : s.pageEn (stgPage n) = true) (hrun : s.stageStopped n = false) :
    s.stageTrip n st cnt bit = ((s.stageCut n st cnt).raise (stgPage n) bit).arm (tStgRetry n) (clkS 1) := by
  rw [State.stageTrip, hen, hrun, if_neg (by simp)]
  rfl

theorem State.stage_stageCut : (s.stageCut n st cnt).stage n = { s.stage n with src := 0, dst := 0, duty := 0, since := s.bus.now } :=
  (State.stage_of_lit (State.addSat_lit _ _ _) n).trans ((State.stage_of_lit (State.wr_lit _ _ _) n).trans
    ((State.stage_of_lit (State.wr_lit _ _ _) n).trans (State.stage_setStage' _ _ _)))

section
variable (hcnt : R.STG_IOUT < cnt)
include hcnt

theorem State.rd_stageCut_status (hst : st < 2 ^ 32) : (s.stageCut n st cnt).rd (stgKey n R.STG_STATUS) = st := by
  have hlt : R.STG_STATUS < R.STG_IOUT := by decide
  rw [State.stageCut, State.rd_addSat_ne _ _ _ _ (stgKey_ne n (hlt.trans hcnt).ne), State.rd_wr_ne _ _ _ _ (stgKey_ne n hlt.ne),
    State.rd_wr]
  exact Nat.mod_eq_of_lt hst

theorem State.rd_stageCut_current : (s.stageCut n st cnt).rd (stgKey n R.STG_IOUT) = 0 := by
  rw [State.stageCut, State.rd_addSat_ne _ _ _ _ (stgKey_ne n hcnt.ne)]
  exact State.rd_wr _ _ 0

theorem State.rd_stageCut_count : (s.stageCut n st cnt).rd (stgKey n cnt) = min (s.rd (stgKey n cnt) + 1) 0xFFFFFFFF := by
  have hlt : R.STG_STATUS < R.STG_IOUT := by decide
  rw [State.stageCut, State.rd_addSat, State.rd_wr_ne _ _ _ _ (stgKey_ne n hcnt.ne'),
    State.rd_wr_ne _ _ _ _ (stgKey_ne n (hlt.trans hcnt).ne'), State.rd_setStage']

end

/-- A running stage that trips shows its status, counts, raises its event and is tried again in 1 s. -/
theorem State.stageTrip_shows (hr : s.bus.Ranged) (hn : n < 12) (hen : s.pageEn (stgPage n) = true) (hrun : s.stageStopped n = false)
    (hcnt : R.STG_IOUT < cnt) (hcnt' : cnt < 4096) (hst : st < 2 ^ 32) (hbit : bit < 32) :
    ∃ t, s.stageTrip n st cnt bit = t ∧ t.rd (stgKey n R.STG_STATUS) = st ∧ t.rd (stgKey n R.STG_IOUT) = 0 ∧
      t.rd (stgKey n cnt) = min (s.rd (stgKey n cnt) + 1) 0xFFFFFFFF ∧ t.pend (stgPage n) bit = true ∧ (t.stage n).dst = 0 ∧
      (t.stage n).duty = 0 ∧ t.bus.timers.find? (tStgRetry n) = some (s.bus.now + clkS 1) := by
  have hp := lightPage_stg hn
  have hr' : (s.stageCut n st cnt).bus.Ranged := hr
  have hpend : hdrEvtPend < R.STG_IOUT := by decide
  have hstage : (((s.stageCut n st cnt).raise (stgPage n) bit).arm (tStgRetry n) (clkS 1)).stage n = (s.stageCut n st cnt).stage n :=
    (State.stage_of_lit (State.arm_lit _ _ _) n).trans (State.stage_of_lit (State.raise_lit _ _ _) n)
  refine ⟨_, s.stageTrip_of_running n st cnt bit hen hrun, ?_, ?_, ?_, ?_, ?_, ?_, ?_⟩
  · rw [State.rd_arm, State.rd_raiseStg _ n hr' hn, State.rd_stageCut_status s n st cnt hcnt hst]
  · rw [State.rd_arm, State.rd_raiseStg _ n hr' hn, State.rd_stageCut_current s n st cnt hcnt]
  · rw [State.rd_arm, State.rd_raiseStg _ n hr' hn _ (hpend.trans hcnt).ne' hcnt', State.rd_stageCut_count s n st cnt hcnt]
  · exact hp.pend_raise hr' bit hbit
  · rw [hstage, State.stage_stageCut]
  · rw [hstage, State.stage_stageCut]
  · rw [State.find_arm, hp.raise_now]
    rfl

end

theorem exec_stageShort_of_dark (dt n : Nat) (s : State) (h : (s.stage n).eff = 0) : exec (.stageShort dt n) s = .next (s.tick dt) :=
  congrArg Host.Outcome.next (if_pos h)

theorem exec_stageShort_of_lit (dt n : Nat) (s : State) (h : (s.stage n).eff ≠ 0) :
    exec (.stageShort dt n) s = .next ((s.tick dt).stageTrip n 4 R.STG_CNT_SHORT 1) :=
  congrArg Host.Outcome.next (if_neg h)

section
variable (dt n : Nat) (s : State) (hdue : (s.tick dt).due (tStgRetry n) = true) (hstop : s.stageStopped n = true)
include hdue hstop

theorem exec_stageRetry_of_on (hretry : s.bit (stgKey n R.STG_CTRL) 2 = true) : exec (.stageRetry dt n) s =
    .next (((((s.tick dt).disarm (tStgRetry n)).wr (stgKey n R.STG_STATUS) 0).stageGo n).raise (stgPage n) 2) :=
  congrArg Host.Outcome.next ((State.onExpiry_due _ _ _ hdue).trans ((if_pos hstop).trans (if_pos hretry)))

theorem exec_stageRetry_of_off (hretry : s.bit (stgKey n R.STG_CTRL) 2 = false) : exec (.stageRetry dt n) s =
    .next (((s.tick dt).disarm (tStgRetry n)).arm (tStgRetry n) (clkS 1)) :=
  congrArg Host.Outcome.next ((State.onExpiry_due _ _ _ hdue).trans ((if_pos hstop).trans (if_neg (Bool.not_eq_true _ ▸ hretry))))

end

/-- Settles O31: one lemma for each command and outcome; both trips by one lemma. -/
theorem stringStagesFollowTheirEndpointAndTrip : Obligations.StringStagesFollowTheirEndpointAndTrip := by
  refine ⟨?dark, ?lit, ?effect, ?overvoltage, ?short, exec_stageShort_of_dark, ?retry, exec_stageRetry_of_off⟩
  case dark =>
    intro dt n vout s s1 hn hdue hrun hs1 hep
    have hzero : 0 * s1.stageD n / 256 = 0 := by rw [Nat.zero_mul, Nat.zero_div]
    refine ⟨_, exec_stageRead_of_none dt n vout s s1 hdue hrun hs1 hep, ?_, s1.rd_stageTaken_vout n 0 vout, ?_, ?_, ?_⟩
    · have hle := s1.stageD_le n
      rw [State.rd_stageTaken_setpoint, hzero, Nat.zero_add]
      exact Nat.mod_eq_of_lt (by omega)
    · exact (congrArg Stage.read (s1.stage_stageTaken n 0 vout)).trans hzero
    · exact (congrArg Stage.eff (s1.stage_stageTaken n 0 vout)).trans (stageRead_eff dt n s s1 hs1)
    · rw [State.stageTaken_due, stageRead_now dt n s s1 hs1 hn]
  case lit =>
    intro dt n vout i sp w e s s1 hn hdue hrun hs1 hep hw hsp
    subst hw
    have hD : (s1.markStale i (s1.shownAs e (s1.bus.w250 + 8 * clkUs 20) 0)).stageD n = s1.stageD n := rfl
    refine ⟨_, exec_stageRead_of_some dt n vout s s1 hdue hrun hs1 i e hep _ rfl, ?_, ?_, ?_, State.rd_stageTaken_vout _ n _ vout⟩
    · exact (congrArg Stage.read (State.stage_stageTaken _ n _ vout)).trans hsp.symm
    · exact (congrArg Stage.eff (State.stage_stageTaken _ n _ vout)).trans (stageRead_eff dt n s s1 hs1)
    · rw [State.rd_stageTaken_setpoint, hD, ← hsp]
  case effect =>
    intro dt n s hdue hrun hne
    have hgo := State.stage_stageGo (((s.tick dt).disarm (tStgEff n)).setStage' n { s.stage n with eff := (s.stage n).read }) n
    rw [State.stage_setStage'] at hgo
    exact ⟨_, exec_stageSetpointEffect_of_change dt n s hdue hrun hne, congrArg Stage.eff hgo,
      congrArg (fun x : Stage => (x.dst, x.duty)) hgo, congrArg Stage.since hgo⟩
  case overvoltage =>
    intro dt n s hr hn hen hrun
    obtain ⟨t, ht, hshows⟩ := (s.tick dt).stageTrip_shows n 3 R.STG_CNT_OPEN 0 hr hn hen hrun (by decide) (by decide) (by decide)
        (by decide)
    exact ⟨t, congrArg Host.Outcome.next ht, hshows⟩
  case short =>
    intro dt n s hr hn hen hrun heff
    obtain ⟨t, ht, hstatus, hiout, hcnt, hpend, hdst, hduty, -⟩ :=
      (s.tick dt).stageTrip_shows n 4 R.STG_CNT_SHORT 1 hr hn hen hrun (by decide) (by decide) (by decide)
        (by decide)
    exact ⟨t, (exec_stageShort_of_lit dt n s heff).trans (congrArg _ ht), hstatus, hiout, hcnt, hpend, hdst, hduty⟩
  case retry =>
    intro dt n s hr hn hdue hstop hretry
    have hp := lightPage_stg hn
    have hgo : ((((s.tick dt).disarm (tStgRetry n)).wr (stgKey n R.STG_STATUS) 0).stageGo n).bus.Ranged := State.stageGo_ranged _ n hr
    have hzero : (((s.tick dt).disarm (tStgRetry n)).wr (stgKey n R.STG_STATUS) 0).stageStopped n = false :=
      decide_eq_false (by rw [State.fld_wr _ _ _ _ _ (by decide)]; decide)
    have hctrl : (((s.tick dt).disarm (tStgRetry n)).wr (stgKey n R.STG_STATUS) 0).fld (stgKey n R.STG_CTRL) 0 2 =
        s.fld (stgKey n R.STG_CTRL) 0 2 :=
      congrArg (fieldOf 0 2) (State.rd_wr_ne _ _ _ _ (stgKey_ne n (by decide)))
    refine ⟨_, exec_stageRetry_of_on dt n s hdue hstop hretry, hp.pend_raise hgo 2 (by decide), ?_, ?_⟩
    · have hstage := State.stage_stageGo (((s.tick dt).disarm (tStgRetry n)).wr (stgKey n R.STG_STATUS) 0) n
      rw [hctrl] at hstage
      exact congrArg (fun x : Stage => (x.dst, x.duty)) hstage
    · have hrd := State.rd_raiseStg _ n hgo hn 2 (off := R.STG_STATUS)
      exact (congrArg (fun v => decide (3 ≤ fieldOf 0 3 v)) hrd).trans (State.stageGo_not_stopped _ n hzero)

end Sys2Proof.Machine
end

section
/-! SUPPORT. Temperatures of NTC inputs and zones (R248, R265), and the CAL page (R246, R247, R265). -/

namespace Sys2Proof.Machine

/-- A fold whose every step leaves the value it starts from. -/
theorem foldl_of_fixed {α β : Type} (l : List β) (f : α → β → α) (a : α) (h : ∀ x ∈ l, f a x = a) : l.foldl f a = a :=
  List.foldlRecOn (motive := fun b => b = a) l f rfl fun _ hb x hx => hb ▸ h x hx

/-! ### Keys -/

theorem litKey_ne (c : Nat) {off off' : Nat} (h : off ≠ off') : litKey c off ≠ litKey c off' := rk_ne_off _ h

/-- An event of a chain changes none of its registers but EVT_PEND. -/
theorem State.rd_raiseLit (s : State) (c : Nat) (hr : s.bus.Ranged) (hc : c < 64) (i : Nat) {off : Nat} (hne : off ≠ hdrEvtPend := by decide)
    (ho : off < 4096 := by decide) : (s.raise (litPage c) i).rd (litKey c off) = s.rd (litKey c off) :=
  (lightPage_lit hc).rd_raise hr i hne ho

theorem calReg_ne (vi : Nat) {off off' : Nat} (h : off ≠ off') : calReg vi off ≠ calReg vi off' := by
  unfold calReg rkVi
  omega

theorem calReg_ne_rk (vi off : Nat) {page off' : Nat} (h : page * 4096 + off' < 2 ^ 26 := by decide) : calReg vi off ≠ rk page off' := by
  unfold calReg rkVi rk
  omega

/-- The reading of an NTC input is no register of the reporting. -/
theorem reportKey_ntcTemp (n : Nat) : reportKey (rkSel calPage R.CAL_NTC_TEMP n) = false := by
  have haddr : keyAddr (rkSel calPage R.CAL_NTC_TEMP n) = keyAddr (rk calPage R.CAL_NTC_TEMP) := by
    unfold keyAddr rkSel rk
    omega
  rw [reportKey_of_keyAddr haddr]
  decide

theorem ntcTemp_ne_pend (n : Nat) : rkSel calPage R.CAL_NTC_TEMP n ≠ rkVi calPage hdrEvtPend 0 := by
  unfold rkSel rkVi R.CAL_NTC_TEMP hdrEvtPend
  omega

/-- The events of the CAL page are held for each VI (R80). -/
theorem evKey_calPage (who : Nat) : evKey calPage hdrEvtPend who = rkVi calPage hdrEvtPend who := if_pos (by decide)

/-! ### NTC inputs (R265) -/

theorem ofSigned_lt (w : Nat) (i : Int) : ofSigned w i < 2 ^ w := by
  have hpos : (0 : Int) < ((2 ^ w : Nat) : Int) := Int.natCast_pos.mpr (Nat.two_pow_pos w)
  have hlt := Int.emod_lt_of_pos i hpos
  have hnn := Int.emod_nonneg i hpos.ne'
  unfold ofSigned
  omega

theorem ntcReading_lt (cfg : Nat) (ohms : Option Nat) (v : Nat) (h : ntcReading cfg ohms = some v) : v < 2 ^ 16 := by
  cases ohms with
  | none => cases h
  | some r =>
    simp only [ntcReading] at h
    split at h
    · cases h
    · cases h
      exact ofSigned_lt 16 _

theorem ntcReading_of_out_of_range (cfg r : Nat) (h : r < 50 ∨ 2000000 < r) : ntcReading cfg (some r) = none := by
  refine if_pos ?_
  exact h.elim .inl (fun h => .inr (.inl h))

/-- An input takes what it measured: the valid temperatures are `m`, and CAL_NTC_TEMP reads `v`. -/
def State.ntcShown (s : State) (n : Nat) (m : SMap Nat) (v : Nat) : State :=
  ({ s with lit := { s.lit with ntc := m } } : State).wr (rkSel calPage R.CAL_NTC_TEMP n) v

/-- A string stage follows input `n` if it uses it. -/
def State.ntcStage (n : Nat) (s : State) (i : Nat) : State :=
  if s.fld (stgKey i R.STG_DERATE) 24 5 = n ∧ s.pageEn (stgPage i) then s.stageRefresh i else s

/-- The zones of a chain follow input `n` if they use it. -/
def State.ntcChain (n : Nat) (s : State) (c : Nat) : State :=
  if s.pageEn (litPage c) then
    (s.zones c).foldl (fun b (z : Nat × Nat) =>
      if b.zoneSrc c z.1 = 1 ∧ b.fld (litKey c (R.LIT_ZONE + 4 * z.1)) 15 4 = n then b.zoneRefresh c z.1 else b) s
  else s

/-- Stages and zones follow input `n`. -/
def State.ntcFollowed (s : State) (n : Nat) : State := (List.range 64).foldl (State.ntcChain n) ((List.range 12).foldl (State.ntcStage n) s)

theorem State.ntcFollowed_of_unused (s : State) (n : Nat) (hstg : ∀ i, i < 12 → s.pageEn (stgPage i) = false)
    (hlit : ∀ c, c < 64 → s.pageEn (litPage c) = false) : s.ntcFollowed n = s := by
  have hstage : ∀ i ∈ List.range 12, State.ntcStage n s i = s := fun i hi =>
    if_neg fun h => Bool.false_ne_true ((hstg i (List.mem_range.mp hi)).symm.trans h.2)
  have hchain : ∀ c ∈ List.range 64, State.ntcChain n s c = s := fun c hc =>
    if_neg fun h => Bool.false_ne_true ((hlit c (List.mem_range.mp hc)).symm.trans h)
  rw [State.ntcFollowed, foldl_of_fixed _ _ s hstage, foldl_of_fixed _ _ s hchain]

theorem State.ntcTemp_of_lit {s t : State} (h : t.lit = s.lit) (j : Nat) : t.ntcTemp j = s.ntcTemp j :=
  congrArg (fun l : Light => (l.ntc.find? j).map (signedOf 16)) h

section
variable (s : State) (n : Nat) (m : SMap Nat) (v : Nat)

theorem State.ntcTemp_ntcShown (j : Nat) : (s.ntcShown n m v).ntcTemp j = (m.find? j).map (signedOf 16) := rfl

theorem State.rd_ntcShown : (s.ntcShown n m v).rd (rkSel calPage R.CAL_NTC_TEMP n) = v % 2 ^ 32 := State.rd_wr _ _ _

/-- No register of a chain, a matrix port or a stage changes with the reading. -/
theorem State.rd_ntcShown_light {page : Nat} (hp : LightPage page) {off : Nat} (ho : off < 4096 := by decide) :
    (s.ntcShown n m v).rd (rk page off) = s.rd (rk page off) := by
  refine State.rd_wr_ne _ _ _ _ ?_
  simp only [LightPage, Block.base] at hp
  unfold rk rkSel
  omega

theorem State.ntcShown_ranged (hr : s.bus.Ranged) : (s.ntcShown n m v).bus.Ranged := hr.wr _ _

theorem State.after_ntcShown : ({ s with lit := (s.ntcShown n m v).lit } : State).After (s.ntcShown n m v)
    [rkSel calPage R.CAL_NTC_TEMP n] :=
  (State.After.refl _ _).wr _ _ (List.mem_singleton_self _)

end

/-- An input that reads invalid raises EV272 to VI 0 (R265). -/
def State.ntcInvalid (s : State) (n : Nat) : State :=
  (s.ntcShown n (s.lit.ntc.erase n) 0).on (·.raiseFor calPage 0 0 [])

theorem State.ntcTemp_ntcInvalid (s : State) (n j : Nat) : (s.ntcInvalid n).ntcTemp j = ((s.lit.ntc.erase n).find? j).map (signedOf 16) := by
  rw [State.ntcInvalid, State.ntcTemp_of_lit (State.on_lit _ _), State.ntcTemp_ntcShown]

section
variable (s : State) (n : Nat) (hr : s.bus.Ranged)
include hr

theorem State.after_ntcInvalid : (s.ntcShown n (s.lit.ntc.erase n) 0).After (s.ntcInvalid n) [rkVi calPage hdrEvtPend 0] := by
  have hr' := s.ntcShown_ranged n (s.lit.ntc.erase n) 0 hr
  have hkey : evKey calPage hdrEvtPend 0 ∈ [rkVi calPage hdrEvtPend 0] := by
    rw [evKey_calPage]
    exact List.mem_singleton_self _
  exact (State.After.refl _ _).on (Bus.raiseAt_reported _ hr' calPage calPage 0 0 [] (by decide) none _ (.inl hkey))

theorem State.ntcInvalid_pend : (s.ntcInvalid n).bit (rkVi calPage hdrEvtPend 0) 0 = true := by
  have hr' := s.ntcShown_ranged n (s.lit.ntc.erase n) 0 hr
  have hpend := Bus.raiseAt_pend _ hr' calPage calPage 0 0 [] (by decide) none (by decide) (by decide)
  rw [evKey_calPage] at hpend
  exact hpend

theorem State.rd_ntcInvalid : (s.ntcInvalid n).rd (rkSel calPage R.CAL_NTC_TEMP n) = 0 :=
  ((s.after_ntcInvalid n hr).rd _ (by simpa using ntcTemp_ne_pend n) (reportKey_ntcTemp n)).trans (s.rd_ntcShown n _ 0)

theorem State.rd_ntcInvalid_light {page : Nat} (hp : LightPage page) {off : Nat} (ho : off < 4096 := by decide) :
    (s.ntcInvalid n).rd (rk page off) = s.rd (rk page off) := by
  have hne : rk page off ∉ [rkVi calPage hdrEvtPend 0] := by
    simp only [LightPage, Block.base] at hp
    rw [List.mem_singleton]
    unfold rk rkVi
    omega
  exact ((s.after_ntcInvalid n hr).rd _ hne (hp.reportKey ho)).trans (s.rd_ntcShown_light n _ 0 hp ho)

end

/-- What an input that reads `t` leaves before the stages and zones that use it follow. -/
def State.ntcMeasured (s : State) (n : Nat) (t : Option Nat) : State :=
  let s1 := s.ntcShown n (match t with | some v => s.lit.ntc.set n v | none => s.lit.ntc.erase n)
    (match t with | some v => v + 2 ^ 16 | none => 0)
  if t.isNone then s1.on (·.raiseFor calPage 0 0 []) else s1

theorem State.ntcMeasured_some (s : State) (n v : Nat) : s.ntcMeasured n (some v) = s.ntcShown n (s.lit.ntc.set n v) (v + 2 ^ 16) := rfl

theorem State.ntcMeasured_none (s : State) (n : Nat) : s.ntcMeasured n none = s.ntcInvalid n := rfl

theorem exec_ntcMeasure (dt n : Nat) (ohms : Option Nat) (s : State) : exec (.ntcMeasure dt n ohms) s =
    .next (((s.tick dt).ntcMeasured n (ntcReading ((s.tick dt).rd (rkSel calPage R.CAL_NTC_CFG n)) ohms)).ntcFollowed n) := rfl

theorem State.rd_tick (s : State) (dt k : Nat) : (s.tick dt).rd k = s.rd k := rfl

section
variable (dt n : Nat) (s : State) (hstg : ∀ i, i < 12 → s.pageEn (stgPage i) = false) (hlit : ∀ c, c < 64 → s.pageEn (litPage c) = false)
include hstg hlit

/-- A measurement that leaves the registers of stages and chains has no follower while none of them is enabled. -/
theorem ntcFollowed_of_disabled (t : State) (h : ∀ page, LightPage page → t.rd (rk page hdrPageStatus) = s.rd (rk page hdrPageStatus)) :
    t.ntcFollowed n = t :=
  t.ntcFollowed_of_unused n (fun i hi => (congrArg (bitOf 0) (h _ (lightPage_stg hi))).trans (hstg i hi))
    (fun c hc => (congrArg (bitOf 0) (h _ (lightPage_lit hc))).trans (hlit c hc))

theorem exec_ntcMeasure_of_valid (r v : Nat) (h : ntcReading (s.rd (rkSel calPage R.CAL_NTC_CFG n)) (some r) = some v) :
    exec (.ntcMeasure dt n (some r)) s = .next ((s.tick dt).ntcShown n ((s.tick dt).lit.ntc.set n v) (v + 2 ^ 16)) := by
  rw [exec_ntcMeasure, State.rd_tick, h, State.ntcMeasured_some, ntcFollowed_of_disabled n s hstg hlit]
  intro page hp
  rw [State.rd_ntcShown_light _ _ _ _ hp, State.rd_tick]

theorem exec_ntcMeasure_of_open (hr : s.bus.Ranged) : exec (.ntcMeasure dt n none) s = .next ((s.tick dt).ntcInvalid n) := by
  have hread : ∀ cfg, ntcReading cfg none = none := fun _ => rfl
  rw [exec_ntcMeasure, hread, State.ntcMeasured_none, ntcFollowed_of_disabled n s hstg hlit]
  intro page hp
  rw [(s.tick dt).rd_ntcInvalid_light n hr hp, State.rd_tick]

end

/-! ### Zones (R248) -/

theorem exec_zoneTempTimeout_of_due (dt c z : Nat) (s : State) (h : (s.tick dt).due (tZone c z) = true) : exec (.zoneTempTimeout dt c z) s =
    .next ((((s.tick dt).disarm (tZone c z)).modChain c (fun x => { x with sense := x.sense.erase z })).zoneRefresh c z) :=
  congrArg Host.Outcome.next (State.onExpiry_due _ _ _ h)

section
variable (s : State) (c z : Nat) (hsrc : s.zoneSrc c z ≠ 0) (htemp : s.zoneTemp c z = none)
include hsrc htemp

theorem State.zoneD_of_invalid : s.zoneD c z = s.fld (litKey c R.LIT_DERATE) 16 8 := by
  rw [State.zoneD, if_neg hsrc, htemp]
  rfl

/-- A zone that becomes invalid is reported by EV259. -/
theorem State.zoneRefresh_of_invalid (hz : z ∉ (s.chain c).zinv) : s.zoneRefresh c z =
    ((s.wr (litKey c (R.LIT_ZONE_TEMP + 4 * z)) (s.zoneD c z * 2 ^ 17)).setChain c
      { s.chain c with zinv := z :: (s.chain c).zinv }).raise (litPage c) 7 := by
  have hz' : (s.chain c).zinv.contains z = false := by
    rw [List.contains_eq_mem]
    exact decide_eq_false hz
  rw [State.zoneRefresh, if_neg hsrc, htemp]
  dsimp only
  rw [hz', if_neg Bool.false_ne_true, State.modChain, State.chain_of_lit (State.wr_lit _ _ _)]

end

/-! ### The CAL page (R246, R247, R265) -/

theorem State.calGuard_up (s : State) (vi : Nat) (f : State → State) (hv : s.bus.physOf .val vi 0 ≠ none)
    (hu : s.bus.pageUp calPage = true) : s.calGuard vi f = f s := by
  have hsome : ¬ (s.bus.physOf .val vi 0).isNone = true := by rwa [Option.isNone_iff_eq_none]
  rw [State.calGuard, if_neg hsome, hu]
  rfl

theorem State.jconfig_lit (s : State) (kind : Nat) (entries : List (Nat × Nat)) : (s.jconfig kind entries).lit = s.lit := rfl

theorem State.setCal_bus (s : State) (j : Nat) (d : Nat × Nat) : (s.setCal j d).bus = s.bus := rfl

theorem State.setCal_lit (s : State) (j : Nat) (d : Nat × Nat) :
    (s.setCal j d).lit = { s.lit with cal := s.lit.cal.put calDefault j d } := rfl

theorem State.calEntry_of_lit {s t : State} (h : t.lit = s.lit) (j : Nat) : t.calEntry j = s.calEntry j :=
  congrArg (fun l : Light => l.cal.find calDefault j) h

theorem State.mtxEntry_of_lit {s t : State} (h : t.lit = s.lit) (k e : Nat) : t.mtxEntry k e = s.mtxEntry k e :=
  congrArg (fun l : Light => l.rows.find (identityEntry e) (9 * k + e)) h

theorem State.calEntry_setCal (s : State) (j : Nat) (d : Nat × Nat) : (s.setCal j d).calEntry j = d := SMap.find_put _ _ _ _

theorem State.calEntry_setCal_ne (s : State) (j : Nat) (d : Nat × Nat) (i : Nat) (h : i ≠ j) : (s.setCal j d).calEntry i = s.calEntry i :=
  SMap.find_put_ne _ _ _ _ _ _ h

theorem State.mtxEntry_setMtxEntry (s : State) (k e v : Nat) : (s.setMtxEntry k e v).mtxEntry k e = v % 65536 := SMap.find_put _ _ _ _

theorem State.mtxEntry_setMtxEntry_ne (s : State) (k e v k' e' : Nat) (he : e < 9) (he' : e' < 9) (h : (k', e') ≠ (k, e)) :
    (s.setMtxEntry k e v).mtxEntry k' e' = s.mtxEntry k' e' := by
  refine SMap.find_put_ne _ _ _ _ _ _ fun hkey => h ?_
  rw [Prod.mk.injEq]
  omega

/-- A WRITE of a calibration entry that is done and recorded. -/
def State.calRecorded (s : State) (vi j d0 d1 : Nat) : State :=
  ((s.wr (calReg vi R.CAL_STATUS) 0).calApply ⟨2, vi, j, [d0, d1]⟩).jconfig (jwaitKind ⟨2, vi, j, [d0, d1]⟩)
    [(jkey (rk calPage R.CAL_D0) j, d0), (jkey (rk calPage R.CAL_D1) j, d1)]

section
variable (s : State) (vi j d0 d1 : Nat)

theorem State.calApply_eq : s.calApply ⟨2, vi, j, [d0, d1]⟩ = (s.setCal j (d0, d1)).setBit (calReg vi R.CAL_STATUS) 0 false := rfl

theorem State.calRecorded_lit : (s.calRecorded vi j d0 d1).lit = (s.setCal j (d0, d1)).lit := by
  rw [State.calRecorded, State.jconfig_lit, State.calApply_eq, State.setBit_lit, State.setCal_lit, State.setCal_lit, State.wr_lit]

theorem State.calEntry_calRecorded : (s.calRecorded vi j d0 d1).calEntry j = (d0, d1) :=
  (State.calEntry_of_lit (s.calRecorded_lit vi j d0 d1) j).trans (State.calEntry_setCal _ _ _)

theorem State.calEntry_calRecorded_ne (i : Nat) (h : i ≠ j) : (s.calRecorded vi j d0 d1).calEntry i = s.calEntry i :=
  (State.calEntry_of_lit (s.calRecorded_lit vi j d0 d1) i).trans (State.calEntry_setCal_ne _ _ _ _ h)

theorem State.rd_calRecorded_status : (s.calRecorded vi j d0 d1).rd (calReg vi R.CAL_STATUS) = 0 := by
  rw [State.calRecorded, State.rd_jconfig_ne _ _ _ _ (calReg_ne_rk vi _), State.calApply_eq, State.rd_eq, State.setBit_bus,
    Bus.rd_setBit _ _ _ _ (by decide), State.setCal_bus, ← State.rd_eq, State.rd_wr]
  decide

end

section
variable (dt vi : Nat) (s : State) (hv : s.bus.physOf .val vi 0 ≠ none) (hu : s.bus.pageUp calPage = true)
include hv hu

section
variable (hsel : s.calSel vi = none)
include hsel

theorem exec_calRead_of_none : exec (.calRead dt vi) s = .next ((s.tick dt).calRefuse vi) := by
  have hsel' : (s.tick dt).calSel vi = none := hsel
  refine congrArg Host.Outcome.next (((s.tick dt).calGuard_up vi _ hv hu).trans ?_)
  simp only [hsel']

theorem exec_calWrite_of_none : exec (.calWrite dt vi) s = .next ((s.tick dt).calRefuse vi) := by
  have hsel' : (s.tick dt).calSel vi = none := hsel
  refine congrArg Host.Outcome.next (((s.tick dt).calGuard_up vi _ hv hu).trans ?_)
  simp only [hsel']

end

section
variable (j : Nat) (hsel : s.calSel vi = some j)
include hsel

theorem exec_calRead_of_selected : exec (.calRead dt vi) s = .next ((((s.tick dt).wr (calReg vi R.CAL_D0) (s.calEntry j).1).wr
    (calReg vi R.CAL_D1) (s.calEntry j).2).wr (calReg vi R.CAL_STATUS) 0) := by
  have hsel' : (s.tick dt).calSel vi = some j := hsel
  refine congrArg Host.Outcome.next (((s.tick dt).calGuard_up vi _ hv hu).trans ?_)
  simp only [hsel']
  rfl

theorem exec_calWrite_of_reader (ha : s.bus.access .val j vi = 1) : exec (.calWrite dt vi) s = .next ((s.tick dt).on (·.denied)) := by
  have hsel' : (s.tick dt).calSel vi = some j := hsel
  have hlt : (s.tick dt).bus.access .val j vi < 2 := ha ▸ Nat.one_lt_two
  refine congrArg Host.Outcome.next (((s.tick dt).calGuard_up vi _ hv hu).trans ?_)
  simp only [hsel', if_pos hlt]

theorem exec_calWrite_of_owner (ha : s.bus.access .val j vi = 2) (hopen : s.jrn.closed = false) (hroom : s.logRoom 2 = true) :
    exec (.calWrite dt vi) s =
      .next ((s.tick dt).calRecorded vi j (s.fld (calReg vi R.CAL_D0) 0 24) (s.fld (calReg vi R.CAL_D1) 0 20)) := by
  have hsel' : (s.tick dt).calSel vi = some j := hsel
  have hge : ¬ (s.tick dt).bus.access .val j vi < 2 := Nat.not_lt.mpr (ge_of_eq ha)
  refine congrArg Host.Outcome.next (((s.tick dt).calGuard_up vi _ hv hu).trans ?_)
  simp only [hsel', if_neg hge]
  exact State.journaled_of_room _ _ _ _ _ hopen hroom

end

theorem exec_calMtxWrite_of_beyond (value : Nat) (h : 9 ≤ s.fld (calReg vi R.CAL_MTX_SEL) 8 4) :
    exec (.calMtxWrite dt vi value) s = .next ((s.tick dt).on (·.cfgErrFor calPage vi)) :=
  congrArg Host.Outcome.next (((s.tick dt).calGuard_up vi _ hv hu).trans (if_pos h))

theorem exec_calMtxWrite_of_owner (value k e : Nat) (he : e = s.fld (calReg vi R.CAL_MTX_SEL) 8 4) (hlt : e < 9)
    (hrow : s.physRow vi (s.rd (calReg vi R.CAL_MTX_SEL) % 256) = some k) (ha : s.bus.access .val (1024 * k) vi = 2)
    (hopen : s.jrn.closed = false) (hroom : s.logRoom 1 = true) (hk : k < 256) : exec (.calMtxWrite dt vi value) s =
      .next (((s.tick dt).setMtxEntry k e (value % 65536)).jconfig 4 [(jkey (rk calPage R.CAL_MTX_DATA) (k + 256 * e), value % 65536)]) := by
  have hrow' : (s.tick dt).physRow vi ((s.tick dt).rd (calReg vi R.CAL_MTX_SEL) % 256) = some k := hrow
  have hge : ¬ (s.tick dt).bus.access .val (1024 * k) vi < 2 := Nat.not_lt.mpr (ge_of_eq ha)
  have he' : fieldOf 8 4 ((s.tick dt).rd (calReg vi R.CAL_MTX_SEL)) = e := he.symm
  have happly : (s.tick dt).mtxApply ⟨3, vi, k + 256 * e, [value % 65536]⟩ = (s.tick dt).setMtxEntry k e (value % 65536) := by
    have hindex : (k + 256 * e) % 256 = k ∧ (k + 256 * e) / 256 = e := by omega
    rw [State.mtxApply, hindex.1, hindex.2]
    rfl
  refine congrArg Host.Outcome.next (((s.tick dt).calGuard_up vi _ hv hu).trans ?_)
  simp only [he', if_neg (Nat.not_le.mpr hlt), hrow', if_neg hge]
  have hrec := (s.tick dt).journaled_of_room ⟨3, vi, k + 256 * e, [value % 65536]⟩
    [(jkey (rk calPage R.CAL_MTX_DATA) (k + 256 * e), value % 65536)] id (fun a => a.mtxApply ⟨3, vi, k + 256 * e, [value % 65536]⟩)
    hopen hroom
  rw [hrec, happly]
  rfl

end

/-- Settles O29: the bounds of the derating factor, one lemma for each outcome of a measurement, and the CAL commands by a table that is
written. -/
theorem temperaturesDerateAndCalibrationIsKept : Obligations.TemperaturesDerateAndCalibrationIsKept := by
  refine ⟨fun _ _ _ => rfl, derate_of_cool, ?bounds, exec_zoneTempTimeout_of_due, ?zone, ?opened, ?valid, ntcReading_of_out_of_range,
    ?read, ?none, ?write, ?reader, ?matrix, ?beyond⟩
  case bounds => exact fun t knee slope floor h => ⟨le_derate _ _ _ _ h, derate_le _ _ _ _ h⟩
  case zone =>
    intro c z s hr hc hz hsrc htemp hnew
    have hp := lightPage_lit hc
    have hD := s.zoneD_of_invalid c z hsrc htemp
    have hr' : ((s.wr (litKey c (R.LIT_ZONE_TEMP + 4 * z)) (s.zoneD c z * 2 ^ 17)).setChain c
      { s.chain c with zinv := z :: (s.chain c).zinv }).bus.Ranged := hr.wr _ _
    rw [s.zoneRefresh_of_invalid c z hsrc htemp hnew]
    refine ⟨hD, ?_, hp.pend_raise hr' 7 (by decide), ?_⟩
    · have hlt : s.zoneD c z < 2 ^ 8 := hD ▸ fieldOf_lt 16 8 _
      have hoff : R.LIT_ZONE_TEMP + 4 * z < 4096 ∧ hdrEvtPend < R.LIT_ZONE_TEMP + 4 * z := by
        unfold R.LIT_ZONE_TEMP hdrEvtPend
        omega
      rw [State.rd_raiseLit _ c hr' hc 7 hoff.2.ne' hoff.1, State.rd_setChain, State.rd_wr, Nat.mod_eq_of_lt]
      omega
    · exact congrArg Chain.zinv ((State.chain_of_lit (State.raise_lit _ _ _) c).trans (State.chain_setChain _ _ _))
  case opened =>
    intro dt n s hn hstg hlit hr
    refine ⟨_, exec_ntcMeasure_of_open dt n s hstg hlit hr, ?_, fun m hm => ?_, State.rd_ntcInvalid _ n hr, State.ntcInvalid_pend _ n hr⟩
    · rw [State.ntcTemp_ntcInvalid, SMap.find?_erase]
      rfl
    · rw [State.ntcTemp_ntcInvalid, SMap.find?_erase_ne _ _ _ hm]
      rfl
  case valid =>
    intro dt n r v s hn hstg hlit h
    have hv := ntcReading_lt _ _ _ h
    refine ⟨_, exec_ntcMeasure_of_valid dt n s hstg hlit r v h, ?_, fun m hm => ?_, ?_, State.after_ntcShown _ _ _ _⟩
    · rw [State.ntcTemp_ntcShown, SMap.find?_set]
      rfl
    · rw [State.ntcTemp_ntcShown, SMap.find?_set_ne _ _ _ _ hm]
      rfl
    · rw [State.rd_ntcShown]
      exact Nat.mod_eq_of_lt (by omega)
  case read =>
    intro dt vi j s hv hu hsel
    have hd0 : calReg vi R.CAL_D0 ≠ calReg vi R.CAL_D1 := calReg_ne vi (by decide)
    have hs0 : calReg vi R.CAL_D0 ≠ calReg vi R.CAL_STATUS := calReg_ne vi (by decide)
    have hs1 : calReg vi R.CAL_D1 ≠ calReg vi R.CAL_STATUS := calReg_ne vi (by decide)
    refine ⟨_, exec_calRead_of_selected dt vi s hv hu j hsel, ?_, ?_, State.rd_wr _ _ 0, ?_⟩
    · rw [State.rd_wr_ne _ _ _ _ hs0, State.rd_wr_ne _ _ _ _ hd0, State.rd_wr]
    · rw [State.rd_wr_ne _ _ _ _ hs1, State.rd_wr]
    · exact (((State.After.refl _ _).wr _ _ (by simp)).wr _ _ (by simp)).wr _ _ (by simp)
  case none =>
    exact fun dt vi s hv hu hsel => ⟨exec_calRead_of_none dt vi s hv hu hsel, exec_calWrite_of_none dt vi s hv hu hsel⟩
  case write =>
    intro dt vi j s hv hu hsel ha hopen hroom
    exact ⟨_, exec_calWrite_of_owner dt vi s hv hu j hsel ha hopen hroom, State.calEntry_calRecorded _ _ _ _ _,
      fun i hi => State.calEntry_calRecorded_ne _ _ _ _ _ i hi, State.rd_calRecorded_status _ _ _ _ _⟩
  case reader => exact fun dt vi j s hv hu hsel ha => exec_calWrite_of_reader dt vi s hv hu j hsel ha
  case matrix =>
    intro dt vi value k e s hv hu he hlt hrow ha hopen hroom hk
    refine ⟨_, exec_calMtxWrite_of_owner dt vi s hv hu value k e he hlt hrow ha hopen hroom hk, ?_, fun k' e' he' hne => ?_⟩
    · rw [State.mtxEntry_of_lit (State.jconfig_lit _ _ _), State.mtxEntry_setMtxEntry, Nat.mod_mod]
    · rw [State.mtxEntry_of_lit (State.jconfig_lit _ _ _), State.mtxEntry_setMtxEntry_ne _ k e _ k' e' hlt he' hne]
      rfl
  case beyond => exact fun dt vi value s hv hu h => exec_calMtxWrite_of_beyond dt vi s hv hu value h

end Sys2Proof.Machine
end

section
/-! SUPPORT. Software commands on a chain, by outcome (R238, R239, R241, Table 9-2). -/

namespace Sys2Proof.Machine

theorem State.chain_tick (s : State) (dt c : Nat) : (s.tick dt).chain c = s.chain c := rfl

theorem State.fld_tick (s : State) (dt k lo w : Nat) : (s.tick dt).fld k lo w = s.fld k lo w := rfl

/-! ### A write of LIT_CMD (R241) -/

section
variable (s : State) (vi c op hop : Nat) (b : Bool) (ha : s.bus.pageAccess (litPage c) vi = 2) (hu : s.bus.pageUp (litPage c) = true)
include ha hu

theorem State.litCmd_of_refused (h : s.bit (litKey c R.LIT_CMD_STATUS) 0 = true ∨ s.pageEn (litPage c) = false) :
    s.litCmd vi c op hop b = s.cfgErr (litPage c) :=
  (s.guardWrite_owner vi _ _ ha hu).trans (if_pos h)

section
variable (hidle : s.bit (litKey c R.LIT_CMD_STATUS) 0 = false) (hen : s.pageEn (litPage c) = true)
include hidle hen

theorem State.litCmd_of_idle (hop' : op ≠ 1) : s.litCmd vi c op hop b = (s.setBit (litKey c R.LIT_CMD_STATUS) 0 true).setChain c
    { s.chain c with
      cmd := some ⟨op, hop, b, s.fld (litKey c R.LIT_CMD_DATA) 0 16⟩
      waits := 0 } := by
  have hok : ¬ (s.bit (litKey c R.LIT_CMD_STATUS) 0 = true ∨ s.pageEn (litPage c) = false) := by simp [hidle, hen]
  refine (s.guardWrite_owner vi _ _ ha hu).trans ((if_neg hok).trans ?_)
  dsimp only
  rw [if_neg hop', State.modChain, State.chain_of_lit (State.setBit_lit _ _ _ _)]

theorem State.litCmd_enum_of_idle : s.litCmd vi c 1 hop b = (s.setBit (litKey c R.LIT_CMD_STATUS) 0 true).setChain c
    { s.chain c with
      enumReq := true
      enumCmd := true } := by
  have hok : ¬ (s.bit (litKey c R.LIT_CMD_STATUS) 0 = true ∨ s.pageEn (litPage c) = false) := by simp [hidle, hen]
  refine (s.guardWrite_owner vi _ _ ha hu).trans ((if_neg hok).trans ?_)
  dsimp only
  rw [if_pos rfl, State.modChain, State.chain_of_lit (State.setBit_lit _ _ _ _)]

end

end

/-! ### A command frame (R238) -/

theorem State.nextCmd_of_cmd (s : State) (c : Nat) (m : LitCmd) (h : (s.chain c).cmd = some m) : s.nextCmd c = some (.software m) := by
  simp only [State.nextCmd, h]

section
variable (dt c st : Nat) (s : State) (m : LitCmd) (hst : (s.chain c).start = some st) (hcmd : (s.chain c).cmd = some m)
include hst hcmd

theorem exec_chainCommandFrame_of_room (n : Nat) (hn : n = (s.tick dt).cmdTime c (replyCount (s.litLen c) m))
    (hflight : (s.chain c).flight = none) (hrun : (s.chain c).enumRun = false) (hreq : (s.chain c).enumReq = false)
    (hfree : (s.chain c).lineFree ≤ s.bus.now + dt) (hend : s.bus.now + dt + n + clkUs 4 ≤ st)
    (hlatched : s.bit (litKey c R.LIT_STATUS) 0 = true) : exec (.chainCommandFrame dt c) s = .next ((s.tick dt).setChain c
      { s.chain c with
        flight := some (.software m)
        lineFree := s.bus.now + dt + n
        cmd := none }) := by
  have hst' : ((s.tick dt).chain c).start = some st := hst
  have hnext := (s.tick dt).nextCmd_of_cmd c m hcmd
  have htail : decide (Flight.software m = Flight.tail) = false := decide_eq_false Flight.noConfusion
  have hnone : ((s.tick dt).chain c).flight.isNone = true := by rw [State.chain_tick, hflight]; rfl
  subst hn
  refine congrArg Host.Outcome.next (?_ : _ = _)
  simp only [hst', hnext]
  rw [if_pos ⟨hnone, hrun, hreq, hfree, hend, hlatched⟩, htail, Bool.or_false, ← hst]
  rfl

theorem exec_chainCommandFrame_of_late (hlate : st < s.bus.now + dt + (s.tick dt).cmdTime c (replyCount (s.litLen c) m) + clkUs 4) :
    exec (.chainCommandFrame dt c) s = .next (s.tick dt) := by
  have hst' : ((s.tick dt).chain c).start = some st := hst
  have hnext := (s.tick dt).nextCmd_of_cmd c m hcmd
  refine congrArg Host.Outcome.next (?_ : _ = _)
  simp only [hst', hnext]
  refine if_neg ?_
  rintro ⟨-, -, -, -, hend, -⟩
  exact absurd (Nat.lt_of_lt_of_le hlate hend) (lt_irrefl st)

end

/-! ### What returns (R241, Table 9-2) -/

theorem cmdResult_of_bad_word (m : LitCmd) (want w : Nat) (l : List Nat) (h : crc8Ok w = false) : cmdResult m want ⟨some w, l⟩ = 2 := by
  simp [cmdResult, h]

theorem cmdResult_of_unreached (m : LitCmd) (want w : Nat) (l : List Nat) (h : crc8Ok w = true) (hb : m.bcast = false)
    (hw : bitOf 26 w = false) : cmdResult m want ⟨some w, l⟩ = 3 := by
  simp [cmdResult, h, hb, hw]

/-- A good word that reached its device, with good replies, succeeds or misses a reply. -/
theorem cmdResult_of_reached (m : LitCmd) (want w : Nat) (l : List Nat) (h : crc8Ok w = true) (hw : m.bcast = true ∨ bitOf 26 w = true)
    (hl : ∀ r ∈ l.take want, crc8Ok r = true) : cmdResult m want ⟨some w, l⟩ = if l.length < want then 1 else 0 := by
  have hgood : ((l.take want).any fun r => !crc8Ok r) = false := by
    rw [List.any_eq_false]
    intro r hr
    simp [hl r hr]
  have hreached : (!m.bcast && !bitOf 26 w) = false := by
    rcases hw with hw | hw <;> simp [hw]
  simp [cmdResult, h, hreached, hgood]

theorem replyCount_of_read (len : Nat) (m : LitCmd) (hop : m.op = 0x10 ∨ m.op = 0x11) (hb : m.bcast = false) : replyCount len m = 1 := by
  rw [replyCount, if_pos hop, hb]
  rfl

theorem exec_chainCommandComplete_of_software (dt c : Nat) (s : State) (m : LitCmd) (ret : CmdReturn) (r : Nat)
    (hflight : (s.chain c).flight = some (.software m)) (hr : r = cmdResult m (replyCount (s.litLen c) m) ret) :
    exec (.chainCommandComplete dt c ret) s = .next ((if r = 0 then
        ((s.tick dt).setChain c { s.chain c with flight := none }).takeReply c (replyCount (s.litLen c) m) ret
      else (s.tick dt).setChain c { s.chain c with flight := none }).cmdDone c r) := by
  have hflight' : ((s.tick dt).chain c).flight = some (.software m) := hflight
  subst hr
  refine congrArg Host.Outcome.next (?_ : _ = _)
  simp only [hflight']
  rfl

/-- A software command that ends with a result, before its event. -/
def State.cmdEnded (s : State) (c res : Nat) : State :=
  ((s.setChain c { s.chain c with cmd := none, waits := 0, enumCmd := false }).setBit (litKey c R.LIT_CMD_STATUS) 0 false).setFld
    (litKey c R.LIT_CMD_STATUS) 1 3 res

/-- The reply of an addressed device. -/
def State.replyTaken (s : State) (c r : Nat) : State :=
  (s.setFld (litKey c R.LIT_CMD_STATUS) 16 16 (replyData r)).wr (litKey c R.LIT_CMD_REPLY) (replyStatus r)

section
variable (s : State) (c : Nat)

theorem State.cmdDone_ok : s.cmdDone c 0 = (s.cmdEnded c 0).raise (litPage c) 5 := rfl

theorem State.takeReply_one (ret : CmdReturn) (r : Nat) (rest : List Nat) (h : ret.replies = r :: rest) :
    s.takeReply c 1 ret = s.replyTaken c r := by
  simp only [State.takeReply, h]
  rfl

theorem State.chain_cmdEnded (res : Nat) : (s.cmdEnded c res).chain c = { s.chain c with cmd := none, waits := 0, enumCmd := false } := by
  rw [State.cmdEnded, State.chain_of_lit (State.setFld_lit _ _ _ _ _), State.chain_of_lit (State.setBit_lit _ _ _ _), State.chain_setChain]

theorem State.rd_cmdEnded_ne (res : Nat) {off : Nat} (h : off ≠ R.LIT_CMD_STATUS) :
    (s.cmdEnded c res).rd (litKey c off) = s.rd (litKey c off) := by
  rw [State.cmdEnded, State.rd_setFld_ne _ _ _ _ _ _ (litKey_ne c h), State.rd_setBit_ne _ _ _ _ _ (litKey_ne c h), State.rd_setChain]

theorem State.cmdEnded_result (res : Nat) : (s.cmdEnded c res).fld (litKey c R.LIT_CMD_STATUS) 1 3 = res % 2 ^ 3 :=
  State.fld_setFld _ _ _ _ _ (by decide)

theorem State.cmdEnded_idle (res : Nat) : (s.cmdEnded c res).bit (litKey c R.LIT_CMD_STATUS) 0 = false := by
  rw [State.cmdEnded, State.bit_setFld_of_disjoint _ _ _ _ _ _ (by decide) (by decide), State.bit_setBit _ _ _ _ (by decide)]

theorem State.cmdEnded_data (res : Nat) :
    (s.cmdEnded c res).fld (litKey c R.LIT_CMD_STATUS) 16 16 = s.fld (litKey c R.LIT_CMD_STATUS) 16 16 := by
  rw [State.cmdEnded, State.fld_setFld_of_disjoint _ _ _ _ _ _ _ (by decide) (by decide),
    State.fld_setBit_of_disjoint _ _ _ _ _ _ (by decide) (by decide)]
  exact congrArg (fieldOf 16 16) (State.rd_setChain _ _ _ _)

theorem State.cmdEnded_ranged (res : Nat) (hr : s.bus.Ranged) : (s.cmdEnded c res).bus.Ranged := (hr.wr _ _).wr _ _

theorem State.replyTaken_data (r : Nat) : (s.replyTaken c r).fld (litKey c R.LIT_CMD_STATUS) 16 16 = replyData r := by
  have hne : litKey c R.LIT_CMD_STATUS ≠ litKey c R.LIT_CMD_REPLY := litKey_ne c (by decide)
  rw [State.fld_eq, Bus.fld_eq, ← State.rd_eq, State.replyTaken, State.rd_wr_ne _ _ _ _ hne, State.rd_eq, ← Bus.fld_eq, ← State.fld_eq,
    State.fld_setFld _ _ _ _ _ (by decide)]
  exact Nat.mod_eq_of_lt (fieldOf_lt 24 16 r)

theorem State.replyTaken_status (r : Nat) : (s.replyTaken c r).rd (litKey c R.LIT_CMD_REPLY) = replyStatus r := by
  rw [State.replyTaken, State.rd_wr]
  exact Nat.mod_eq_of_lt ((fieldOf_lt 8 16 r).trans (by decide))

theorem State.replyTaken_lit (r : Nat) : (s.replyTaken c r).lit = s.lit := by
  rw [State.replyTaken, State.wr_lit, State.setFld_lit]

theorem State.replyTaken_ranged (r : Nat) (hr : s.bus.Ranged) : (s.replyTaken c r).bus.Ranged := (hr.wr _ _).wr _ _

/-- A command that ends well with the reply of its device (R241). -/
theorem State.cmdReplied_shows (r : Nat) (hr : s.bus.Ranged) (hc : c < 64) (t : State) (ht : t = (s.replyTaken c r).cmdDone c 0) :
    t.fld (litKey c R.LIT_CMD_STATUS) 1 3 = 0 ∧ t.bit (litKey c R.LIT_CMD_STATUS) 0 = false ∧
      t.fld (litKey c R.LIT_CMD_STATUS) 16 16 = replyData r ∧ t.rd (litKey c R.LIT_CMD_REPLY) = replyStatus r ∧
      t.pend (litPage c) 5 = true ∧ t.chain c = { s.chain c with cmd := none, waits := 0, enumCmd := false } := by
  have hr' := (s.replyTaken c r).cmdEnded_ranged c 0 (s.replyTaken_ranged c r hr)
  have hrd := State.rd_raiseLit ((s.replyTaken c r).cmdEnded c 0) c hr' hc 5 (off := R.LIT_CMD_STATUS)
  rw [State.cmdDone_ok] at ht
  subst ht
  refine ⟨?_, ?_, ?_, ?_, (lightPage_lit hc).pend_raise hr' 5 (by decide), ?_⟩
  · exact (congrArg (fieldOf 1 3) hrd).trans (State.cmdEnded_result _ c 0)
  · exact (congrArg (bitOf 0) hrd).trans (State.cmdEnded_idle _ c 0)
  · exact (congrArg (fieldOf 16 16) hrd).trans ((State.cmdEnded_data _ c 0).trans (s.replyTaken_data c r))
  · rw [State.rd_raiseLit _ c hr' hc, State.rd_cmdEnded_ne _ c 0 (by decide), s.replyTaken_status]
  · rw [State.chain_of_lit (State.raise_lit _ _ _), State.chain_cmdEnded, State.chain_of_lit (s.replyTaken_lit c r)]

end

end Sys2Proof.Machine
end

section
/-! SUPPORT. Data frames of a chain and their latch, by outcome (R236 to R238, R244, R245). -/

namespace Sys2Proof.Machine

/-! ### What the read of a frame leaves -/

/-- A zone that is shown anew writes its LIT_ZONE_TEMP, and may mark the zone and raise EV259 (R248). -/
theorem State.zoneRefresh_cases (s : State) (c z : Nat) : ∃ v zs, s.zoneRefresh c z = s.wr (litKey c (R.LIT_ZONE_TEMP + 4 * z)) v ∨
    s.zoneRefresh c z = (s.wr (litKey c (R.LIT_ZONE_TEMP + 4 * z)) v).setChain c { s.chain c with zinv := zs } ∨
    s.zoneRefresh c z = ((s.wr (litKey c (R.LIT_ZONE_TEMP + 4 * z)) v).setChain c { s.chain c with zinv := zs }).raise (litPage c) 7 := by
  have hmod : ∀ k v f, (s.wr k v).modChain c f = (s.wr k v).setChain c (f (s.chain c)) := fun k v f => by
    rw [State.modChain, State.chain_of_lit (State.wr_lit _ _ _)]
  unfold State.zoneRefresh
  split
  · exact ⟨_, _, .inr (.inl (hmod _ _ _))⟩
  · split
    · exact ⟨_, _, .inr (.inl (hmod _ _ _))⟩
    · dsimp only
      split
      · exact ⟨_, (s.chain c).zinv, .inl rfl⟩
      · rw [hmod]
        exact ⟨_, _, .inr (.inr rfl)⟩

/-- `t` is `s` but for what the zones of chain `c` show: its time, LIT_PROP and the chain's state beside the invalid zones are those
of `s`. -/
structure State.ZonesShown (s : State) (c : Nat) (t : State) : Prop where
  ranged : t.bus.Ranged
  now : t.bus.now = s.bus.now
  prop : t.rd (litKey c R.LIT_PROP) = s.rd (litKey c R.LIT_PROP)
  chain : ∃ zs, t.chain c = { s.chain c with zinv := zs }

theorem State.ZonesShown.zoneRefresh {s t : State} {c : Nat} (hc : c < 64) (h : s.ZonesShown c t) (z : Nat) :
    s.ZonesShown c (t.zoneRefresh c z) := by
  obtain ⟨hr, hnow, hprop, zs', hchain⟩ := h
  have hp := lightPage_lit hc
  obtain ⟨v, zs, ht⟩ := t.zoneRefresh_cases c z
  have hrd : (t.wr (litKey c (R.LIT_ZONE_TEMP + 4 * z)) v).rd (litKey c R.LIT_PROP) = s.rd (litKey c R.LIT_PROP) := by
    have hne : R.LIT_PROP ≠ R.LIT_ZONE_TEMP + 4 * z := by
      unfold R.LIT_PROP R.LIT_ZONE_TEMP
      omega
    rw [State.rd_wr_ne _ _ _ _ (litKey_ne c hne), hprop]
  have hset : s.ZonesShown c ((t.wr (litKey c (R.LIT_ZONE_TEMP + 4 * z)) v).setChain c { t.chain c with zinv := zs }) :=
    ⟨hr.wr _ _, hnow, hrd, zs, by rw [State.chain_setChain, hchain]⟩
  obtain ht | ht | ht := ht <;> rw [ht]
  · exact ⟨hr.wr _ _, hnow, hrd, zs', by rw [State.chain_of_lit (State.wr_lit _ _ _), hchain]⟩
  · exact hset
  · refine ⟨hset.ranged.of_after (hp.after_raise hset.ranged (State.After.refl _ _) 7 (List.mem_singleton_self _)), ?_, ?_, zs, ?_⟩
    · rw [hp.raise_now, hset.now]
    · rw [State.rd_raiseLit _ c hset.ranged hc, hset.prop]
    · rw [State.chain_of_lit (State.raise_lit _ _ _), State.chain_setChain, hchain]

theorem State.zonesRefresh_shown (s : State) (c : Nat) (hc : c < 64) (hr : s.bus.Ranged) : s.ZonesShown c (s.zonesRefresh c) :=
  List.foldlRecOn (motive := s.ZonesShown c) (s.zones c) _ ⟨hr, rfl, rfl, (s.chain c).zinv, rfl⟩ fun _ h z _ => h.zoneRefresh hc z.1

/-- The read of the endpoints of a frame marks them, and changes nothing of light output. -/
theorem State.readChain_lit (s : State) (c len w : Nat) : (s.readChain c len w).1.lit = s.lit :=
  List.foldlRecOn (motive := fun a : State × List (Nat × Nat) => a.1.lit = s.lit) _ _ rfl fun _ h _ _ => h

/-! ### The start of a data frame (R236 to R238) -/

/-- A chain whose frame of `len` devices starts at `now`, with no change of its length and period to come. -/
def Chain.framed (x : Chain) (now pin tm : Nat) (frame : List (Nat × Nat)) : Chain :=
  { x with
    per := x.nPer
    frame := frame
    pinAt := some pin
    latchAt := some tm
    lineFree := pin
    start := some (now + frameInterval x.nLen x.nPer)
    tailSent := false
    waits := 0 }

theorem nextStart_of_same (now pin len per : Nat) : nextStart now pin len len per = now + frameInterval len per := if_neg (lt_irrefl len)

section
variable (dt c st : Nat) (s : State) (hst : (s.chain c).start = some st)
include hst

theorem exec_chainDataFrameStart_of_early (h : s.bus.now + dt < st) : exec (.chainDataFrameStart dt c) s = .next (s.tick dt) := by
  have hst' : ((s.tick dt).chain c).start = some st := hst
  refine congrArg Host.Outcome.next (?_ : _ = _)
  simp only [hst']
  exact if_pos (.inl h)

/-- The start of a frame with no change to bind and no command that waits. -/
theorem exec_chainDataFrameStart_of_due (h : st ≤ s.bus.now + dt) (henum : (s.chain c).enumRun = false) (hrun : s.bus.domRuns 1 = true)
    (s1 : State) (hs1 : s1 = ((s.tick dt).wr (litKey c R.LIT_LEN) (s.chain c).nLen).zonesRefresh c)
    (hlen : (s1.chain c).pendLen = none) (hper : (s1.chain c).pendPer = none) (hcmd : (s1.chain c).cmd = none)
    (hnl : (s1.chain c).nLen = (s.chain c).nLen) (hnp : (s1.chain c).nPer = (s.chain c).nPer) (pin tm : Nat)
    (hpin : pin = s1.bus.now + clkUs (3 * (s.chain c).nLen + 8)) (htm : tm = pin + s1.litProp c) (r : State × List (Nat × Nat))
    (hr : r = s1.readChain c (s.chain c).nLen (s1.bus.w250 + 8 * (tm - s1.bus.now))) :
    exec (.chainDataFrameStart dt c) s = .next (r.1.setChain c ((s1.chain c).framed s1.bus.now pin tm r.2)) := by
  have hst' : ((s.tick dt).chain c).start = some st := hst
  have hdue : ¬ ((s.tick dt).bus.now < st ∨ ((s.tick dt).chain c).enumRun = true ∨ (s.tick dt).bus.domRuns 1 = false) := by
    rintro (hlt | hen | hoff)
    · exact Nat.not_lt.mpr h hlt
    · exact Bool.false_ne_true (henum.symm.trans hen)
    · exact Bool.false_ne_true (hoff.symm.trans hrun)
  have hy : r.1.chain c = s1.chain c := State.chain_of_lit (hr ▸ s1.readChain_lit _ _ _) c
  refine congrArg Host.Outcome.next (?_ : _ = _)
  simp only [hst']
  rw [if_neg hdue, State.chain_tick, ← hs1, ← hpin, ← htm, ← hr]
  simp only [hy, hlen, hper, hcmd, Option.isSome_none, Option.getD_none, Bool.false_eq_true, false_and, if_false, nextStart_of_same]
  rw [Chain.framed, hnl, hnp, hlen, hper, hcmd]

end

/-! ### The latch (R237, R245) -/

section
variable (dt c n at' : Nat) (b : Bool) (s : State) (hlatch : (s.chain c).latchAt = some at')
include hlatch

theorem exec_chainLatch_of_early (h : s.bus.now + dt < at') : exec (.chainLatch dt c n b) s = .next (s.tick dt) := by
  have hlatch' : ((s.tick dt).chain c).latchAt = some at' := hlatch
  refine congrArg Host.Outcome.next (?_ : _ = _)
  simp only [hlatch']
  exact if_pos h

/-- A latch on a chain without return check, where no enumeration is asked for. -/
theorem exec_chainLatch_of_due (h : at' ≤ s.bus.now + dt) (hret : s.bit (litKey c R.LIT_CTRL) 3 = false)
    (hreq : (s.chain c).enumReq = false) : exec (.chainLatch dt c n b) s = .next
      ((((s.tick dt).setChain c { s.chain c with shown := (s.chain c).frame, latchAt := none }).setBit (litKey c R.LIT_STATUS) 0 true).addWrap
        (litKey c R.LIT_CNT_FRAMES) 1) := by
  have hlatch' : ((s.tick dt).chain c).latchAt = some at' := hlatch
  have hdue : ¬ (s.tick dt).bus.now < at' := Nat.not_lt.mpr h
  have hrd : ∀ x, ((((s.tick dt).setChain c x).setBit (litKey c R.LIT_STATUS) 0 true).addWrap (litKey c R.LIT_CNT_FRAMES) 1).rd
      (litKey c R.LIT_CTRL) = s.rd (litKey c R.LIT_CTRL) := fun x => by
    rw [State.rd_addWrap_ne _ _ _ _ (litKey_ne c (by decide)), State.rd_setBit_ne _ _ _ _ _ (litKey_ne c (by decide)), State.rd_setChain,
      State.rd_tick]
  have hcheck : ∀ x, ((((s.tick dt).setChain c x).setBit (litKey c R.LIT_STATUS) 0 true).addWrap (litKey c R.LIT_CNT_FRAMES) 1).returnCheck
      c n b = (((s.tick dt).setChain c x).setBit (litKey c R.LIT_STATUS) 0 true).addWrap (litKey c R.LIT_CNT_FRAMES) 1 := fun x =>
    if_neg (Bool.not_eq_true _ ▸ (congrArg (bitOf 3) (hrd x)).trans hret)
  refine congrArg Host.Outcome.next (?_ : _ = _)
  simp only [hlatch']
  rw [if_neg hdue, hcheck, State.chain_of_lit (State.addWrap_lit _ _ _), State.chain_of_lit (State.setBit_lit _ _ _ _),
    State.chain_setChain, State.chain_tick, hreq, if_neg Bool.false_ne_true]

end

end Sys2Proof.Machine
end

section
/-! SUPPORT. The passes and the end of an enumeration (R242 to R244), and changes of a chain's length and period (R238, R244). -/

namespace Sys2Proof.Machine

/-! ### A pass (R242, R243) -/

section
variable (dt c : Nat) (s : State) (hrun : (s.chain c).enumRun = true)
include hrun

/-- The first pass of an enumeration whose packet comes back. -/
theorem exec_enumPassEnd_of_first (t2 n prop : Nat) (hpasses : (s.chain c).passes = []) (ht : t2 ≤ 34000000)
    (hres : passResult (s.fld (litKey c R.LIT_ENUM_CAL) 0 16) t2 = (n, prop)) : exec (.enumPassEnd dt c (some t2)) s = .next
      ((((s.tick dt).wr (litKey c R.LIT_ENUM_LAST) (min 8191 n)).setChain c
        { s.chain c with passes := [(some n, prop)] }).enumPass c) := by
  refine congrArg Host.Outcome.next (?_ : _ = _)
  simp only [State.chain_tick, State.fld_tick, if_pos ht, hrun, hpasses, hres]
  simp

/-- A pass that comes back with the count of the pass before it. -/
theorem exec_enumPassEnd_of_agreed (t2 n prop p : Nat) (rest : List (Option Nat × Nat)) (hpasses : (s.chain c).passes = (some n, p) :: rest)
    (ht : t2 ≤ 34000000) (hres : passResult (s.fld (litKey c R.LIT_ENUM_CAL) 0 16) t2 = (n, prop)) :
    exec (.enumPassEnd dt c (some t2)) s = .next
      (((s.tick dt).wr (litKey c R.LIT_ENUM_LAST) (min 8191 n)).enumEnd c ((some n, prop) :: (some n, p) :: rest) true) := by
  refine congrArg Host.Outcome.next (?_ : _ = _)
  simp only [State.chain_tick, State.fld_tick, if_pos ht, hrun, hpasses, hres]
  simp

/-- A pass whose packet is lost, after one that was lost. -/
theorem exec_enumPassEnd_of_lost (p : Nat) (rest : List (Option Nat × Nat)) (hpasses : (s.chain c).passes = (none, p) :: rest)
    (hdue : (s.tick dt).due (tEnumPass c) = true) : exec (.enumPassEnd dt c none) s = .next
      (((s.tick dt).wr (litKey c R.LIT_ENUM_LAST) (2 ^ 13)).enumEnd c ((none, 0) :: (none, p) :: rest) true) := by
  refine congrArg Host.Outcome.next (?_ : _ = _)
  simp only [State.chain_tick, hrun, hpasses, hdue]
  simp

end

/-! ### The end of an enumeration (R243, R244) -/

/-- LIT_STATUS of a chain whose enumeration ends after `n` passes: neither running nor failed in any way. -/
def State.enumStatus (s : State) (c n : Nat) : State :=
  ((((s.setBit (litKey c R.LIT_STATUS) 1 false).setBit (litKey c R.LIT_STATUS) 2 false).setBit (litKey c R.LIT_STATUS) 3 false).setBit
    (litKey c R.LIT_STATUS) 5 false).setFld (litKey c R.LIT_STATUS) 8 4 n

/-- A chain that has left an enumeration for data frames, 4 µs after `now`. -/
def Chain.resumed (x : Chain) (now len per : Nat) : Chain :=
  { x with
    enumRun := false
    passes := []
    devPend := none
    start := some (now + clkUs 4)
    per := per
    nPer := per
    nLen := len
    pendPer := none
    pendLen := none
    missed := 0
    tailBad := 0 }

/-- An enumeration that no command asked for ends: the chain resumes, and the software hears of it. -/
def State.enumBack (s : State) (c now per : Nat) : State :=
  (((s.setChain c ((s.chain c).resumed now (s.litLen c) per)).raise (litPage c) 0).setBit (litKey c R.LIT_CMD_STATUS) 0 false).disarm
    (tEnumPass c)

section
variable (s : State) (c : Nat)

section
variable (hdev : (s.chain c).devPend = none) (hcmd : (s.chain c).enumCmd = false)
include hdev hcmd

/-- Two passes with one count, within what a chain may hold: it is the length. -/
theorem State.enumEnd_of_count (n prop : Nat) (l : List (Option Nat × Nat)) (hn : n ≤ 4096) :
    s.enumEnd c ((some n, prop) :: l) true =
      ((((s.enumStatus c (l.length + 1)).wr (litKey c R.LIT_LEN) n).wr (litKey c R.LIT_PROP) (min 65535 prop)).setBit (litKey c R.LIT_STATUS) 6
        (decide (n ≠ s.fld (litKey c R.LIT_DEV_COUNT) 0 13))).enumBack c s.bus.now (s.fld (litKey c R.LIT_PERIOD) 0 14) := by
  simp only [State.enumEnd, hdev, hcmd, Bool.not_true, Bool.false_eq_true, if_false, List.headD_cons, if_pos hn]
  rfl

/-- Two lost passes: the loop is open. -/
theorem State.enumEnd_of_lost (l : List (Option Nat × Nat)) : s.enumEnd c ((none, 0) :: l) true =
    (((s.enumStatus c (l.length + 1)).setBit (litKey c R.LIT_STATUS) 3 true).raise (litPage c) 2).enumBack c s.bus.now
      (s.fld (litKey c R.LIT_PERIOD) 0 14) := by
  simp only [State.enumEnd, hdev, hcmd, Bool.not_true, Bool.false_eq_true, if_false, List.headD_cons]
  rfl

end

theorem State.rd_enumStatus_ne (n : Nat) {off : Nat} (h : off ≠ R.LIT_STATUS) :
    (s.enumStatus c n).rd (litKey c off) = s.rd (litKey c off) := by
  have hk := litKey_ne c h
  rw [State.enumStatus, State.rd_setFld_ne _ _ _ _ _ _ hk, State.rd_setBit_ne _ _ _ _ _ hk, State.rd_setBit_ne _ _ _ _ _ hk,
    State.rd_setBit_ne _ _ _ _ _ hk, State.rd_setBit_ne _ _ _ _ _ hk]

theorem State.enumStatus_idle (n : Nat) :
    (s.enumStatus c n).bit (litKey c R.LIT_STATUS) 1 = false ∧ (s.enumStatus c n).bit (litKey c R.LIT_STATUS) 2 = false := by
  constructor
  · rw [State.enumStatus, State.bit_setFld_of_disjoint _ _ _ _ _ _ (by decide) (by decide),
      State.bit_setBit_ne _ _ _ _ _ (by decide) (by decide), State.bit_setBit_ne _ _ _ _ _ (by decide) (by decide),
      State.bit_setBit_ne _ _ _ _ _ (by decide) (by decide),
      State.bit_setBit _ _ _ _ (by decide)]
  · rw [State.enumStatus, State.bit_setFld_of_disjoint _ _ _ _ _ _ (by decide) (by decide),
      State.bit_setBit_ne _ _ _ _ _ (by decide) (by decide), State.bit_setBit_ne _ _ _ _ _ (by decide) (by decide),
      State.bit_setBit _ _ _ _ (by decide)]

theorem State.enumStatus_ranged (n : Nat) (hr : s.bus.Ranged) : (s.enumStatus c n).bus.Ranged :=
  ((((hr.wr _ _).wr _ _).wr _ _).wr _ _).wr _ _

section
variable (now per : Nat) (hr : s.bus.Ranged) (hc : c < 64)

theorem State.chain_enumBack : (s.enumBack c now per).chain c = (s.chain c).resumed now (s.litLen c) per := by
  rw [State.enumBack, State.chain_of_lit (State.disarm_lit _ _), State.chain_of_lit (State.setBit_lit _ _ _ _),
    State.chain_of_lit (State.raise_lit _ _ _), State.chain_setChain]

include hr hc

theorem State.rd_enumBack {off : Nat} (h : off ≠ R.LIT_CMD_STATUS) (hne : off ≠ hdrEvtPend := by decide) (ho : off < 4096 := by decide) :
    (s.enumBack c now per).rd (litKey c off) = s.rd (litKey c off) := by
  rw [State.enumBack, State.rd_eq, State.disarm_bus, Bus.disarm_rd, ← State.rd_eq, State.rd_setBit_ne _ _ _ _ _ (litKey_ne c h),
    State.rd_raiseLit (s.setChain c _) c hr hc 0 hne ho, State.rd_setChain]

/-- The end of an enumeration is reported as EV256 + 8·c, and leaves what was pending. -/
theorem State.pend_enumBack : (s.enumBack c now per).pend (litPage c) 0 = true ∧
    ∀ j, j ≠ 0 → (s.enumBack c now per).pend (litPage c) j = s.pend (litPage c) j := by
  have hp := lightPage_lit hc
  have hkey : pendKey (litPage c) ≠ litKey c R.LIT_CMD_STATUS := rk_ne_off (litPage c) (o := hdrEvtPend) (by decide)
  have hrd : (s.enumBack c now per).rd (pendKey (litPage c)) =
      ((s.setChain c ((s.chain c).resumed now (s.litLen c) per)).raise (litPage c) 0).rd (pendKey (litPage c)) := by
    rw [State.enumBack, State.rd_eq, State.disarm_bus, Bus.disarm_rd, ← State.rd_eq, State.rd_setBit_ne _ _ _ _ _ hkey]
  have hset : ∀ j, (s.enumBack c now per).pend (litPage c) j =
      ((s.setChain c ((s.chain c).resumed now (s.litLen c) per)).raise (litPage c) 0).pend (litPage c) j := fun j => congrArg (bitOf j) hrd
  constructor
  · rw [hset]
    exact hp.pend_raise (s := s.setChain c _) hr 0 (by decide)
  · intro j hj
    rw [hset]
    exact hp.pend_raise_ne (s := s.setChain c _) hr 0 j (by decide) hj

end

end

/-! ### Changes of length and period (R238, R244) -/

section
variable {page : Nat} (hp : LightPage page) {s : State} (hr : s.bus.Ranged)
include hp hr

theorem LightPage.cfgErr_reports : (s.cfgErr page).bit (rk page hdrPageStatus) 2 = true := by
  have hkey : evKey page hdrPageStatus (s.bus.ownerOfPage page) = rk page hdrPageStatus := evKey_page _ _ _ hp.entryGranted
  have hset : (s.bus.setBit (rk page hdrPageStatus) 2 true).Ranged := hr.wr _ _
  show (s.bus.cfgErrFor page (s.bus.ownerOfPage page)).bit (rk page hdrPageStatus) 2 = true
  unfold Bus.cfgErrFor
  dsimp only
  rw [hkey]
  split
  · assumption
  · have hdel := Bus.deliver_reported _ hset _ (s.bus.ownerOfPage_lt hr page) page 1 5 none []
    rw [Bus.bit_eq, hdel.regs _ List.not_mem_nil hp.reportKey, ← Bus.bit_eq, Bus.bit_setBit _ _ _ _ (by decide)]

theorem LightPage.rd_cfgErr {off : Nat} (hne : off ≠ hdrPageStatus := by decide) (ho : off < 4096 := by decide) :
    (s.cfgErr page).rd (rk page off) = s.rd (rk page off) :=
  ((State.After.refl s [rk page hdrPageStatus]).cfgErr hr page hp.entryGranted (List.mem_singleton_self _)).rd _
    (mt List.mem_singleton.mp (rk_ne_off _ hne)) (hp.reportKey ho)

end

section
variable (dt vi c v : Nat) (s : State) (ha : s.bus.pageAccess (litPage c) vi = 2) (hu : s.bus.pageUp (litPage c) = true)
include ha hu

/-- A device count written while the chain sends frames binds to a later one. -/
theorem exec_litDevCountWrite_of_running (hrun : (s.chain c).enumRun = false) (hst : (s.chain c).start.isSome = true) (hv : v ≤ 4096) :
    exec (.litDevCountWrite dt vi c v) s = .next (((s.tick dt).wr (litKey c R.LIT_DEV_COUNT) v).setChain c
      { s.chain c with pendLen := some (v, s.bus.now + dt) }) := by
  have hmod : v % 8192 = v := Nat.mod_eq_of_lt (by omega)
  have hchain : ((s.tick dt).wr (litKey c R.LIT_DEV_COUNT) v).chain c = s.chain c := State.chain_of_lit (State.wr_lit _ _ _) c
  refine congrArg Host.Outcome.next (?_ : _ = _)
  refine ((s.tick dt).guardWrite_owner vi _ _ ha hu).trans ?_
  rw [State.litDevCount, hmod, min_eq_right hv, decide_eq_false (Nat.not_lt.mpr hv)]
  simp only [State.ifThen_false, State.litSetLen, hchain, hrun, Bool.false_eq_true, if_false, if_pos hst]
  rfl

/-- A period written while the chain sends frames binds to a later one. -/
theorem exec_litPeriodWrite_of_running (hlo : 1000 ≤ v) (hhi : v ≤ 12500) (hst : (s.chain c).start.isSome = true) :
    exec (.litPeriodWrite dt vi c v) s = .next (((s.tick dt).wr (litKey c R.LIT_PERIOD) v).setChain c
      { s.chain c with pendPer := some (v, s.bus.now + dt) }) := by
  have hmod : v % 16384 = v := Nat.mod_eq_of_lt (by omega)
  have hchain : ((s.tick dt).wr (litKey c R.LIT_PERIOD) v).chain c = s.chain c := State.chain_of_lit (State.wr_lit _ _ _) c
  refine congrArg Host.Outcome.next (?_ : _ = _)
  refine ((s.tick dt).guardWrite_owner vi _ _ ha hu).trans ?_
  rw [State.litPeriod, hmod, min_eq_right hhi, max_eq_right hlo, decide_eq_false (not_not_intro rfl)]
  simp only [State.ifThen_false, State.litSetPer, hchain, if_pos hst]
  rfl

/-- A period that is too short is clamped and marked, and is in use at once on a chain that sends no frames. -/
theorem exec_litPeriodWrite_of_low (hlo : v < 1000) (hst : (s.chain c).start = none) :
    exec (.litPeriodWrite dt vi c v) s = .next ((((s.tick dt).wr (litKey c R.LIT_PERIOD) 1000).cfgErr (litPage c)).setChain c
      { s.chain c with per := 1000, nPer := 1000 }) := by
  have hmod : v % 16384 = v := Nat.mod_eq_of_lt (by omega)
  have hclamp : max 1000 (min 12500 v) = 1000 := by omega
  have hchain : (((s.tick dt).wr (litKey c R.LIT_PERIOD) 1000).cfgErr (litPage c)).chain c = s.chain c :=
    (State.chain_of_lit (State.cfgErr_lit _ _) c).trans (State.chain_of_lit (State.wr_lit _ _ _) c)
  have hidle : (s.chain c).start.isSome = false := by rw [hst]; rfl
  refine congrArg Host.Outcome.next (?_ : _ = _)
  refine ((s.tick dt).guardWrite_owner vi _ _ ha hu).trans ?_
  rw [State.litPeriod, hmod]
  simp only [hclamp]
  rw [decide_eq_true (Nat.ne_of_gt hlo)]
  simp only [State.ifThen_true, State.litSetPer, hchain, hidle, Bool.false_eq_true, if_false]

end

end Sys2Proof.Machine
end

section
/-! SUPPORT. What an enumeration shows when it ends (R243, R244). The statement on chains, settled (R236 to R245, Table 9-2). -/

namespace Sys2Proof.Machine

theorem State.ranged_wr (s : State) (hr : s.bus.Ranged) (k v : Nat) : (s.wr k v).bus.Ranged := hr.wr k v

section
variable (s : State) (c : Nat) (hr : s.bus.Ranged) (hc : c < 64) (hdev : (s.chain c).devPend = none) (hcmd : (s.chain c).enumCmd = false)
include hr hc hdev hcmd

/-- The chain has the counted length and the propagation of the last pass, and resumes its frames. -/
theorem State.enumEnd_count_shows (n prop : Nat) (l : List (Option Nat × Nat)) (hn : n ≤ 4096) (t : State)
    (ht : t = s.enumEnd c ((some n, prop) :: l) true) : t.rd (litKey c R.LIT_LEN) = n ∧ t.rd (litKey c R.LIT_PROP) = min 65535 prop ∧
      (t.chain c).enumRun = false ∧ (t.chain c).start = some (s.bus.now + clkUs 4) ∧ t.pend (litPage c) 0 = true ∧
      t.bit (litKey c R.LIT_STATUS) 1 = false ∧ t.bit (litKey c R.LIT_STATUS) 2 = false := by
  rw [State.enumEnd_of_count s c hdev hcmd n prop l hn] at ht
  subst ht
  obtain ⟨hrun, hfailed⟩ := s.enumStatus_idle c (l.length + 1)
  have hr2 := s.enumStatus_ranged c (l.length + 1) hr
  generalize s.enumStatus c (l.length + 1) = s2 at hrun hfailed hr2 ⊢
  generalize decide (n ≠ s.fld (litKey c R.LIT_DEV_COUNT) 0 13) = b
  have hr3 : (((s2.wr (litKey c R.LIT_LEN) n).wr (litKey c R.LIT_PROP) (min 65535 prop)).setBit (litKey c R.LIT_STATUS) 6 b).bus.Ranged :=
    ((hr2.wr _ _).wr _ _).wr _ _
  have hstatus : ∀ i, i ≠ 6 → (((s2.wr (litKey c R.LIT_LEN) n).wr (litKey c R.LIT_PROP) (min 65535 prop)).setBit (litKey c R.LIT_STATUS) 6
      b).bit (litKey c R.LIT_STATUS) i = s2.bit (litKey c R.LIT_STATUS) i := by
    intro i hi
    rw [State.bit_setBit_ne _ _ _ _ _ (by decide) hi]
    refine congrArg (bitOf i) (?_ : State.rd _ _ = State.rd _ _)
    rw [State.rd_wr_ne _ _ _ _ (litKey_ne c (by decide)), State.rd_wr_ne _ _ _ _ (litKey_ne c (by decide))]
  have hback := State.rd_enumBack _ c s.bus.now (s.fld (litKey c R.LIT_PERIOD) 0 14) hr3 hc (off := R.LIT_STATUS) (by decide)
  refine ⟨?_, ?_, ?_, ?_, ?_, ?_, ?_⟩
  · rw [State.rd_enumBack _ c _ _ hr3 hc (by decide), State.rd_setBit_ne _ _ _ _ _ (litKey_ne c (by decide)),
      State.rd_wr_ne _ _ _ _ (litKey_ne c (by decide)), State.rd_wr]
    omega
  · rw [State.rd_enumBack _ c _ _ hr3 hc (by decide), State.rd_setBit_ne _ _ _ _ _ (litKey_ne c (by decide)), State.rd_wr]
    omega
  · rw [State.chain_enumBack, Chain.resumed]
  · rw [State.chain_enumBack, Chain.resumed]
  · exact (State.pend_enumBack _ c _ _ hr3 hc).1
  · exact (congrArg (bitOf 1) hback).trans ((hstatus 1 (by decide)).trans hrun)
  · exact (congrArg (bitOf 2) hback).trans ((hstatus 2 (by decide)).trans hfailed)

/-- An open loop is shown and reported, and changes neither length nor propagation. -/
theorem State.enumEnd_lost_shows (l : List (Option Nat × Nat)) (t : State) (ht : t = s.enumEnd c ((none, 0) :: l) true) :
    t.rd (litKey c R.LIT_LEN) = s.rd (litKey c R.LIT_LEN) ∧ t.rd (litKey c R.LIT_PROP) = s.rd (litKey c R.LIT_PROP) ∧
      t.bit (litKey c R.LIT_STATUS) 3 = true ∧ t.pend (litPage c) 2 = true := by
  rw [State.enumEnd_of_lost s c hdev hcmd l] at ht
  subst ht
  have hp := lightPage_lit hc
  have hr2 : ((s.enumStatus c (l.length + 1)).setBit (litKey c R.LIT_STATUS) 3 true).bus.Ranged := (s.enumStatus_ranged c _ hr).wr _ _
  have hr3 := hr2.of_after (hp.after_raise hr2 (State.After.refl _ _) 2 (List.mem_singleton_self _))
  have hkept : ∀ {off}, off ≠ R.LIT_STATUS → off ≠ R.LIT_CMD_STATUS → off ≠ hdrEvtPend → off < 4096 →
      ((((s.enumStatus c (l.length + 1)).setBit (litKey c R.LIT_STATUS) 3 true).raise (litPage c) 2).enumBack c s.bus.now
        (s.fld (litKey c R.LIT_PERIOD) 0 14)).rd (litKey c off) = s.rd (litKey c off) := by
    intro off hstatus hcs hpend ho
    rw [State.rd_enumBack _ c _ _ hr3 hc hcs hpend ho, State.rd_raiseLit _ c hr2 hc 2 hpend ho,
      State.rd_setBit_ne _ _ _ _ _ (litKey_ne c hstatus), s.rd_enumStatus_ne c _ hstatus]
  refine ⟨hkept (by decide) (by decide) (by decide) (by decide), hkept (by decide) (by decide) (by decide) (by decide), ?_, ?_⟩
  · have hback := State.rd_enumBack _ c s.bus.now (s.fld (litKey c R.LIT_PERIOD) 0 14) hr3 hc (off := R.LIT_STATUS) (by decide)
    exact (congrArg (bitOf 3) (hback.trans (State.rd_raiseLit _ c hr2 hc 2))).trans (State.bit_setBit _ _ _ _ (by decide))
  · rw [(State.pend_enumBack _ c _ _ hr3 hc).2 2 (by decide)]
    exact hp.pend_raise hr2 2 (by decide)

end

/-- The count of a first pass is kept for the next one, and changes no length. -/
theorem exec_enumPassEnd_first_shows (dt c n t2 : Nat) (s : State) (hrun : (s.chain c).enumRun = true) (hpasses : (s.chain c).passes = [])
    (ht : t2 ≤ 34000000) (hn : n = (t2 - s.fld (litKey c R.LIT_ENUM_CAL) 0 16) / 8000) :
    ∃ t, exec (.enumPassEnd dt c (some t2)) s = .next t ∧ t.rd (litKey c R.LIT_ENUM_LAST) = min 8191 n ∧
      (t.chain c).passes = [(some n, (passResult (s.fld (litKey c R.LIT_ENUM_CAL) 0 16) t2).2)] ∧
      (t.chain c).enumRun = true ∧ t.rd (litKey c R.LIT_LEN) = s.rd (litKey c R.LIT_LEN) := by
  refine ⟨_, exec_enumPassEnd_of_first dt c s hrun t2 n (passResult (s.fld (litKey c R.LIT_ENUM_CAL) 0 16) t2).2 hpasses ht
    (by rw [hn]; rfl), ?_, ?_, ?_, ?_⟩
  · rw [State.enumPass, State.rd_arm, State.rd_setChain, State.rd_wr]
    omega
  · rw [State.enumPass, State.chain_of_lit (State.arm_lit _ _ _), State.chain_setChain]
  · rw [State.enumPass, State.chain_of_lit (State.arm_lit _ _ _), State.chain_setChain]
    exact hrun
  · rw [State.enumPass, State.rd_arm, State.rd_setChain, State.rd_wr_ne _ _ _ _ (litKey_ne c (by decide)), State.rd_tick]

/-- Two passes with one count end an enumeration with it. -/
theorem exec_enumPassEnd_agreed_shows (dt c n t2 prop p2 : Nat) (rest : List (Option Nat × Nat)) (s : State) (hr : s.bus.Ranged)
    (hc : c < 64) (hrun : (s.chain c).enumRun = true) (hpasses : (s.chain c).passes = (some n, p2) :: rest) (ht : t2 ≤ 34000000)
    (hres : passResult (s.fld (litKey c R.LIT_ENUM_CAL) 0 16) t2 = (n, prop)) (hn : n ≤ 4096) (hdev : (s.chain c).devPend = none)
    (hcmd : (s.chain c).enumCmd = false) : ∃ t, exec (.enumPassEnd dt c (some t2)) s = .next t ∧ t.rd (litKey c R.LIT_LEN) = n ∧
      t.rd (litKey c R.LIT_PROP) = min 65535 prop ∧ (t.chain c).enumRun = false ∧
      (t.chain c).start = some (s.bus.now + dt + clkUs 4) ∧ t.pend (litPage c) 0 = true ∧ t.bit (litKey c R.LIT_STATUS) 1 = false ∧
      t.bit (litKey c R.LIT_STATUS) 2 = false := by
  have hexec := exec_enumPassEnd_of_agreed dt c s hrun t2 n prop p2 rest hpasses ht hres
  have hr' : ((s.tick dt).wr (litKey c R.LIT_ENUM_LAST) (min 8191 n)).bus.Ranged := (s.tick dt).ranged_wr hr _ _
  have hnow : ((s.tick dt).wr (litKey c R.LIT_ENUM_LAST) (min 8191 n)).bus.now = s.bus.now + dt := rfl
  have hchain : ((s.tick dt).wr (litKey c R.LIT_ENUM_LAST) (min 8191 n)).chain c = s.chain c := State.chain_of_lit (State.wr_lit _ _ _) c
  rw [← hchain] at hdev hcmd
  have hshows := State.enumEnd_count_shows _ c hr' hc hdev hcmd n prop ((some n, p2) :: rest) hn _ rfl
  rw [hnow] at hshows
  exact ⟨_, hexec, hshows⟩

/-- Two lost passes end an enumeration with an open loop. -/
theorem exec_enumPassEnd_lost_shows (dt c : Nat) (rest : List (Option Nat × Nat)) (s : State) (p : Nat) (hr : s.bus.Ranged) (hc : c < 64)
    (hrun : (s.chain c).enumRun = true) (hpasses : (s.chain c).passes = (none, p) :: rest) (hdue : (s.tick dt).due (tEnumPass c) = true)
    (hdev : (s.chain c).devPend = none) (hcmd : (s.chain c).enumCmd = false) : ∃ t, exec (.enumPassEnd dt c none) s = .next t ∧
      t.rd (litKey c R.LIT_LEN) = s.rd (litKey c R.LIT_LEN) ∧ t.rd (litKey c R.LIT_PROP) = s.rd (litKey c R.LIT_PROP) ∧
      t.bit (litKey c R.LIT_STATUS) 3 = true ∧ t.pend (litPage c) 2 = true := by
  have hexec := exec_enumPassEnd_of_lost dt c s hrun p rest hpasses hdue
  have hr' : ((s.tick dt).wr (litKey c R.LIT_ENUM_LAST) (2 ^ 13)).bus.Ranged := (s.tick dt).ranged_wr hr _ _
  have hchain : ((s.tick dt).wr (litKey c R.LIT_ENUM_LAST) (2 ^ 13)).chain c = s.chain c := State.chain_of_lit (State.wr_lit _ _ _) c
  rw [← hchain] at hdev hcmd
  obtain ⟨hlen, hprop, hopen, hpend⟩ := State.enumEnd_lost_shows _ c hr' hc hdev hcmd ((none, p) :: rest) _ rfl
  rw [State.rd_wr_ne _ _ _ _ (litKey_ne c (by decide)), State.rd_tick] at hlen hprop
  exact ⟨_, hexec, hlen, hprop, hopen, hpend⟩

/-- A frame that starts on time reads the endpoints for its own latch, and leaves what the chain shows until then. -/
theorem exec_chainDataFrameStart_shows (dt c st pin tm : Nat) (s s1 : State) (hr : s.bus.Ranged) (hc : c < 64)
    (hst : (s.chain c).start = some st) (hdue : st ≤ s.bus.now + dt) (henum : (s.chain c).enumRun = false) (hrun : s.bus.domRuns 1 = true)
    (hlen : (s.chain c).pendLen = none) (hper : (s.chain c).pendPer = none) (hcmd : (s.chain c).cmd = none)
    (hs1 : s1 = ((s.tick dt).wr (litKey c R.LIT_LEN) (s.chain c).nLen).zonesRefresh c)
    (hpin : pin = s.bus.now + dt + clkUs (3 * (s.chain c).nLen + 8)) (htm : tm = pin + s.litProp c) :
    ∃ t, exec (.chainDataFrameStart dt c) s = .next t ∧
      (t.chain c).frame = (s1.readChain c (s.chain c).nLen (s1.bus.w250 + 8 * (tm - (s.bus.now + dt)))).2 ∧
      (t.chain c).pinAt = some pin ∧ (t.chain c).latchAt = some tm ∧ (t.chain c).shown = (s.chain c).shown ∧
      (t.chain c).start = some (s.bus.now + dt + max (clkUs (s.chain c).nPer) (clkUs (3 * (s.chain c).nLen + 12))) := by
  have hr' : ((s.tick dt).wr (litKey c R.LIT_LEN) (s.chain c).nLen).bus.Ranged := (s.tick dt).ranged_wr hr _ _
  obtain ⟨-, hnow, hprop, zs, hchain⟩ := State.zonesRefresh_shown _ c hc hr'
  rw [← hs1] at hnow hprop hchain
  have hnow' : s1.bus.now = s.bus.now + dt := hnow
  rw [State.rd_wr_ne _ _ _ _ (litKey_ne c (by decide)), State.rd_tick] at hprop
  have hprop' : s1.litProp c = s.litProp c := congrArg (fun w => ceilDiv (fieldOf 0 16 w) 2) hprop
  rw [State.chain_of_lit (State.wr_lit _ _ _), State.chain_tick] at hchain
  refine ⟨_, exec_chainDataFrameStart_of_due dt c st s hst hdue henum hrun s1 hs1 (by rw [hchain, hlen]) (by rw [hchain, hper])
    (by rw [hchain, hcmd]) (by rw [hchain]) (by rw [hchain]) pin tm (by rw [hnow', hpin]) (by rw [hprop', htm]) _ rfl, ?_⟩
  rw [State.chain_setChain, hchain, hnow', Chain.framed]
  exact ⟨rfl, rfl, rfl, rfl, rfl⟩

/-- A latch shows the frame, marks the chain as latched and counts the frame. -/
theorem exec_chainLatch_shows (dt c n at' : Nat) (b : Bool) (s : State) (hlatch : (s.chain c).latchAt = some at')
    (hdue : at' ≤ s.bus.now + dt) (hret : s.bit (litKey c R.LIT_CTRL) 3 = false) (hreq : (s.chain c).enumReq = false) :
    ∃ t, exec (.chainLatch dt c n b) s = .next t ∧ (t.chain c).shown = (s.chain c).frame ∧ (t.chain c).latchAt = none ∧
      t.bit (litKey c R.LIT_STATUS) 0 = true ∧ t.rd (litKey c R.LIT_CNT_FRAMES) = (s.rd (litKey c R.LIT_CNT_FRAMES) + 1) % 2 ^ 32 ∧
      ({ s.tick dt with lit := t.lit } : State).After t [litKey c R.LIT_STATUS, litKey c R.LIT_CNT_FRAMES] := by
  refine ⟨_, exec_chainLatch_of_due dt c n at' b s hlatch hdue hret hreq, ?_, ?_, ?_, ?_, ?_⟩
  · rw [State.chain_of_lit (State.addWrap_lit _ _ _), State.chain_of_lit (State.setBit_lit _ _ _ _), State.chain_setChain]
  · rw [State.chain_of_lit (State.addWrap_lit _ _ _), State.chain_of_lit (State.setBit_lit _ _ _ _), State.chain_setChain]
  · exact (congrArg (bitOf 0) (State.rd_addWrap_ne _ _ _ _ (litKey_ne c (by decide)))).trans (State.bit_setBit _ _ _ _ (by decide))
  · rw [State.rd_addWrap, State.rd_setBit_ne _ _ _ _ _ (litKey_ne c (by decide)), State.rd_setChain, State.rd_tick]
  · exact ((State.After.refl _ _).setBit _ _ _ (by simp)).addWrap _ _ (by simp)

/-- A read that one device answers well ends with its reply (R241). -/
theorem exec_chainCommandComplete_of_read (dt c r w : Nat) (s : State) (m : LitCmd) (ret : CmdReturn) (rest : List Nat) (hr : s.bus.Ranged)
    (hc : c < 64) (hflight : (s.chain c).flight = some (.software m)) (hop : m.op = 0x10 ∨ m.op = 0x11) (hb : m.bcast = false)
    (hword : ret.word = some w) (hcrc : crc8Ok w = true) (hreached : bitOf 26 w = true) (hrep : ret.replies = r :: rest)
    (hcrc' : crc8Ok r = true) : ∃ t, exec (.chainCommandComplete dt c ret) s = .next t ∧ t.fld (litKey c R.LIT_CMD_STATUS) 1 3 = 0 ∧
      t.bit (litKey c R.LIT_CMD_STATUS) 0 = false ∧ t.fld (litKey c R.LIT_CMD_STATUS) 16 16 = replyData r ∧
      t.rd (litKey c R.LIT_CMD_REPLY) = replyStatus r ∧ t.pend (litPage c) 5 = true ∧ (t.chain c).flight = none ∧
      (t.chain c).cmd = none := by
  have hcount := replyCount_of_read (s.litLen c) m hop hb
  have hgood : cmdResult m (replyCount (s.litLen c) m) ret = 0 := by
    obtain ⟨word, replies⟩ := ret
    subst hword hrep
    have hone : ∀ x ∈ (r :: rest).take 1, crc8Ok x = true := by simpa using hcrc'
    rw [hcount, cmdResult_of_reached m 1 w _ hcrc (.inr hreached) hone]
    exact if_neg (by simp)
  obtain ⟨hres, hidle, hdata, hstatus, hpend, hchain⟩ :=
    ((s.tick dt).setChain c { s.chain c with flight := none }).cmdReplied_shows c r hr hc _ rfl
  refine ⟨_, exec_chainCommandComplete_of_software dt c s m ret 0 hflight hgood.symm, ?_⟩
  rw [if_pos rfl, hcount, State.takeReply_one _ c ret r rest hrep]
  refine ⟨hres, hidle, hdata, hstatus, hpend, ?_, ?_⟩ <;> rw [hchain]
  rw [State.chain_setChain]

/-- Settles O28. A software command is one of the rows of `State.litCmd`, and ends by `cmdResult` and its
reply; a frame is `exec_chainDataFrameStart_shows` and its latch; an enumeration is its first pass, two passes that agree, or two lost
ones. -/
theorem chainsTakeCommandsLatchAndEnumerate : Obligations.ChainsTakeCommandsLatchAndEnumerate := by
  unfold Obligations.ChainsTakeCommandsLatchAndEnumerate
  refine ⟨?_, ?_, ?_, ?_, ?_, ?_, ?_, ?_, ?_, ?_, ?_, ?_, ?_, ?_, ?_, ?_, ?_, ?_, ?_, ?_⟩
  · intro dt vi c hop b s put hc ha hu hidle hen hput
    have htake : ∀ op, op ≠ 1 → (s.tick dt).litCmd vi c op hop b = put op := fun op hop' =>
      ((s.tick dt).litCmd_of_idle vi c op hop b ha hu hidle hen hop').trans (hput op).symm
    exact ⟨congrArg _ (htake 0x00 (by decide)), congrArg _ (htake 0x02 (by decide)), congrArg _ (htake 0x03 (by decide)),
      congrArg _ (htake 0x10 (by decide)), congrArg _ (htake 0x11 (by decide)),
      congrArg _ ((s.tick dt).litCmd_enum_of_idle vi c hop b ha hu hidle hen)⟩
  · intro dt vi c hop b s hc ha hu h
    have hrefuse := fun op => (s.tick dt).litCmd_of_refused vi c op hop b ha hu h
    exact ⟨congrArg _ (hrefuse 0x00), congrArg _ (hrefuse 0x01), congrArg _ (hrefuse 0x02), congrArg _ (hrefuse 0x03),
      congrArg _ (hrefuse 0x10), congrArg _ (hrefuse 0x11)⟩
  · intro dt c st n s m hst hcmd hflight hrun hreq hn hfree hend hlatched
    exact ⟨_, exec_chainCommandFrame_of_room dt c st s m hst hcmd n hn hflight hrun hreq hfree hend hlatched, rfl⟩
  · exact exec_chainCommandFrame_of_late
  · intro dt c s m ret hflight hbad
    rw [exec_chainCommandComplete_of_software dt c s m ret _ hflight rfl, if_neg hbad]
  · exact exec_chainCommandComplete_of_read
  · exact fun _ _ _ => rfl
  · exact cmdResult_of_bad_word
  · exact cmdResult_of_unreached
  · intro m want w l hcrc hreached hl
    rw [cmdResult_of_reached m want w l hcrc hreached fun r hr => hl r (List.mem_of_mem_take hr)]
    split
    · next h => simp [h]
    · next h => simp [Nat.not_lt.mp h]
  · exact exec_chainDataFrameStart_of_early
  · exact exec_chainDataFrameStart_shows
  · exact exec_chainLatch_of_early
  · exact exec_chainLatch_shows
  · exact exec_enumPassEnd_first_shows
  · exact exec_enumPassEnd_agreed_shows
  · exact exec_enumPassEnd_lost_shows
  · intro dt vi c v s hc ha hu hrun hst hv
    refine ⟨_, exec_litDevCountWrite_of_running dt vi c v s ha hu hrun hst hv, ?_, ?_, ?_, ?_⟩
    · rw [State.rd_setChain, State.rd_wr]
      omega
    · rw [State.chain_setChain]
    · rw [State.rd_setChain, State.rd_wr_ne _ _ _ _ (litKey_ne c (by decide)), State.rd_tick]
    · exact (State.After.refl _ _).wr _ _ (List.mem_singleton_self _)
  · intro dt vi c v s hc ha hu hlo hhi hst
    refine ⟨_, exec_litPeriodWrite_of_running dt vi c v s ha hu hlo hhi hst, ?_, ?_, ?_⟩
    · rw [State.rd_setChain, State.rd_wr]
      omega
    · rw [State.chain_setChain]
    · exact (State.After.refl _ _).wr _ _ (List.mem_singleton_self _)
  · intro dt vi c v s hr hc ha hu hlo hst
    have hp := lightPage_lit hc
    have hr' : ((s.tick dt).wr (litKey c R.LIT_PERIOD) 1000).bus.Ranged := (s.tick dt).ranged_wr hr _ _
    refine ⟨_, exec_litPeriodWrite_of_low dt vi c v s ha hu hlo hst, ?_, ?_, ?_, ?_⟩
    · rw [State.rd_setChain]
      exact (hp.rd_cfgErr hr').trans (State.rd_wr _ _ _)
    · exact hp.cfgErr_reports hr'
    · rw [State.chain_setChain]
    · rw [State.chain_setChain]

end Sys2Proof.Machine
end

section
/-! SUPPORT. The pages of the load channels, the switch inputs, the encoders and the coils (Table 3-4): their registers and pending events
under the report of an event, and what a fold over pages or channels does to each. -/

namespace Sys2Proof.Machine

/-! ### Registers -/

/-- Different offsets are different registers, on whatever pages. -/
theorem rk_ne_of_off {p p' o o' : Nat} (h : o ≠ o' := by decide) (ho : o < 4096 := by decide) (ho' : o' < 4096 := by decide) :
    rk p o ≠ rk p' o' :=
  fun he => h ((rk_inj p o p' o' ho ho').mp he).2

/-- What a word of a register gives is the same in two states where the register reads the same. -/
theorem State.fld_of_rd {s t : State} {k j : Nat} (h : t.rd k = s.rd j) (lo w : Nat) : t.fld k lo w = s.fld j lo w :=
  congrArg (fieldOf lo w) h

theorem State.bit_of_rd {s t : State} {k j : Nat} (h : t.rd k = s.rd j) (i : Nat) : t.bit k i = s.bit j i :=
  congrArg (bitOf i) h

theorem State.ranged_setBit (s : State) (hr : s.bus.Ranged) (k i : Nat) (v : Bool) : (s.setBit k i v).bus.Ranged := hr.wr _ _

theorem State.ranged_setFld (s : State) (hr : s.bus.Ranged) (k lo w v : Nat) : (s.setFld k lo w v).bus.Ranged := hr.wr _ _

/-! ### Occurrences of events -/

/-- A bit of a register outside the reporting that is 1 stays 1 when an event occurs. -/
theorem Bus.bit_raiseAt_of_bit (b : Bus) (hb : b.Ranged) (page phys i who : Nat) (extra : List Nat) (hw : ∀ v ∈ who :: extra, v < 1024)
    (entry : Option Nat) (hi : i < 32) {k j : Nat} (hk : reportKey k = false) (h : b.bit k j = true) :
    (b.raiseAt page phys i who extra entry).bit k j = true := by
  have hset : (b.setBit (evKey page hdrEvtPend who) i true).bit k j = true := by
    by_cases hkey : k = evKey page hdrEvtPend who
    · subst hkey
      rw [Bus.bit, b.rd_setBit _ i true hi]
      by_cases hj : j = i
      · rw [hj, bitOf_setBitOf]
      · rw [bitOf_setBitOf_ne j i true _ hj]
        exact h
    · rwa [Bus.bit, b.rd_setBit_ne _ i true k hkey]
  have hranged : (b.setBit (evKey page hdrEvtPend who) i true).Ranged := hb.wr _ _
  have hroute := Bus.fireRoutes_reported _ hranged phys (eventNumber page i) []
  have hkeep : ∀ c : Bus, (b.setBit (evKey page hdrEvtPend who) i true).Reported c [] → c.bit k j = true := by
    intro c hc
    rw [Bus.bit, hc.regs k List.not_mem_nil hk]
    exact hset
  unfold Bus.raiseAt
  dsimp only
  split
  · exact h
  · split
    · exact hkeep _ (hroute.trans (Bus.deliverAll_reported _ (hranged.of_reported hroute) _ hw _ _ _ _ []))
    · exact hkeep _ hroute

/-- A page that is not granted by entry, and whose registers are none of the reporting. -/
structure PlainPage (page : Nat) : Prop where
  entryGranted : entryGranted page = false
  reportKey : ∀ off, off < 4096 → reportKey (rk page off) = false

namespace PlainPage

section
variable {page q : Nat} (hp : PlainPage page) (hq : PlainPage q) {s : State} (hr : s.bus.Ranged)
include hp

theorem raise_now (s : State) (i : Nat) : (s.raise page i).bus.now = s.bus.now := s.bus.raise_now page i hp.entryGranted

include hr

theorem after_raise (i : Nat) : s.After (s.raise page i) [pendKey page] :=
  (State.After.refl _ _).raise hr page i hp.entryGranted (List.mem_singleton_self _)

theorem after_raiseAlso (i : Nat) (extra : List Nat) (hx : ∀ v ∈ extra, v < 1024) : s.After (s.raiseAlso page i extra) [pendKey page] :=
  (State.After.refl _ _).raiseAlso hr page i extra hx hp.entryGranted (List.mem_singleton_self _)

theorem ranged_raise (i : Nat) : (s.raise page i).bus.Ranged := hr.of_after (hp.after_raise hr i)

theorem pend_raise (i : Nat) (hi : i < 32) : (s.raise page i).pend page i = true :=
  s.pend_raise hr page i hi hp.entryGranted (hp.reportKey _ (by decide))

theorem pend_raiseAlso (i : Nat) (hi : i < 32) (extra : List Nat) (hx : ∀ v ∈ extra, v < 1024) :
    (s.raiseAlso page i extra).pend page i = true := by
  have h := Bus.raiseAt_pend s.bus hr page page i (s.bus.ownerOfPage page) extra
    (List.forall_mem_cons.mpr ⟨s.bus.ownerOfPage_lt hr page, hx⟩) none hi
    (by rw [evKey_page _ _ _ hp.entryGranted]; exact hp.reportKey _ (by decide))
  rw [evKey_page _ _ _ hp.entryGranted] at h
  exact h

include hq

/-- An event of a page changes no register of a plain page but EVT_PEND. -/
theorem rd_raise (i : Nat) {off : Nat} (hne : off ≠ hdrEvtPend := by decide) (ho : off < 4096 := by decide) :
    (s.raise page i).rd (rk q off) = s.rd (rk q off) :=
  s.rd_raise hr page i _ hp.entryGranted (rk_ne_of_off hne ho) (hq.reportKey off ho)

omit hp

/-- What is pending on a plain page stays pending when an event occurs on any page. -/
theorem pend_raiseAlso_of_pend (i : Nat) (hi : i < 32) (extra : List Nat) (hx : ∀ v ∈ extra, v < 1024) {j : Nat}
    (h : s.pend q j = true) : (s.raiseAlso page i extra).pend q j = true :=
  s.bus.bit_raiseAt_of_bit hr page page i _ extra (List.forall_mem_cons.mpr ⟨s.bus.ownerOfPage_lt hr page, hx⟩) none hi
    (hq.reportKey _ (by decide)) h

theorem pend_raise_of_pend (i : Nat) (hi : i < 32) {j : Nat} (h : s.pend q j = true) : (s.raise page i).pend q j = true :=
  hq.pend_raiseAlso_of_pend hr i hi [] (fun _ hv => absurd hv List.not_mem_nil) h

end

end PlainPage

/-! ### An event on each of several pages -/

/-- Event `i` occurs on each of the pages `page n`, with further recipients. -/
def State.raiseEach (s : State) (page : Nat → Nat) (i : Nat) (extra : List Nat) (l : List Nat) : State :=
  l.foldl (fun a n => a.raiseAlso (page n) i extra) s

section
variable {page : Nat → Nat} {i : Nat} {extra : List Nat} (hx : ∀ v ∈ extra, v < 1024) (l : List Nat)
  (hp : ∀ n ∈ l, PlainPage (page n)) {s : State} (hr : s.bus.Ranged)
include hx hp hr

theorem State.after_raiseEach : s.After (s.raiseEach page i extra l) (l.map fun n => pendKey (page n)) :=
  List.foldlRecOn (motive := fun a => s.After a (l.map fun n => pendKey (page n))) l _ (State.After.refl _ _)
    fun _ ha n hn => ha.raiseAlso hr _ i extra hx (hp n hn).entryGranted (List.mem_map_of_mem hn)

theorem State.rd_raiseEach {q off : Nat} (hq : PlainPage q) (hne : off ≠ hdrEvtPend := by decide) (ho : off < 4096 := by decide) :
    (s.raiseEach page i extra l).rd (rk q off) = s.rd (rk q off) := by
  refine (State.after_raiseEach hx l hp hr).rd _ (fun hm => ?_) (hq.reportKey off ho)
  obtain ⟨n, -, hn⟩ := List.mem_map.mp hm
  exact rk_ne_of_off hne ho (by decide) hn.symm

theorem State.pend_raiseEach (hi : i < 32) {n : Nat} (hn : n ∈ l) : (s.raiseEach page i extra l).pend (page n) i = true := by
  induction l generalizing s with
  | nil => cases hn
  | cons m l ih =>
    have hm := List.forall_mem_cons.mp hp
    have hr1 := hr.of_after (hm.1.after_raiseAlso hr i extra hx)
    by_cases hnl : n ∈ l
    · exact ih hm.2 hr1 hnl
    · obtain rfl : n = m := (List.mem_cons.mp hn).resolve_right hnl
      exact (List.foldlRecOn (motive := fun a : State => a.bus.Ranged ∧ a.pend (page n) i = true) l _
        ⟨hr1, hm.1.pend_raiseAlso hr i hi extra hx⟩ fun a ha k hk =>
          ⟨ha.1.of_after ((hm.2 k hk).after_raiseAlso ha.1 i extra hx), hm.1.pend_raiseAlso_of_pend ha.1 i hi extra hx ha.2⟩).2

end

/-! ### Folds over channels -/

section
variable {γ : Type} {l : List Nat} {f : State → Nat → State} {s : State} (hr : s.bus.Ranged)
include hr

/-- What every step of a fold keeps while every VI of the grant table is in range, the fold keeps. -/
theorem State.foldl_keeps_of_ranged (g : State → γ)
    (h : ∀ a : State, a.bus.Ranged → ∀ x ∈ l, (f a x).bus.Ranged ∧ g (f a x) = g a) :
    (l.foldl f s).bus.Ranged ∧ g (l.foldl f s) = g s :=
  List.foldlRecOn (motive := fun a : State => a.bus.Ranged ∧ g a = g s) l f ⟨hr, rfl⟩ fun a ha x hx =>
    ⟨(h a ha.1 x hx).1, (h a ha.1 x hx).2.trans ha.2⟩

/-- A fold whose step on one channel changes what that channel shows by `F`, and no other's, changes each once. -/
theorem State.foldl_shows (g : Nat → State → γ) (F : γ → γ) (hl : l.Nodup)
    (h : ∀ a : State, a.bus.Ranged → ∀ x ∈ l, (f a x).bus.Ranged ∧ g x (f a x) = F (g x a) ∧ ∀ c ∈ l, c ≠ x → g c (f a x) = g c a)
    {c : Nat} (hc : c ∈ l) : g c (l.foldl f s) = F (g c s) := by
  induction l generalizing s with
  | nil => cases hc
  | cons x l ih =>
    obtain ⟨hx, hnd⟩ := List.nodup_cons.mp hl
    obtain ⟨hr1, hat, hother⟩ := h s hr x List.mem_cons_self
    have htail : ∀ a : State, a.bus.Ranged → ∀ y ∈ l,
        (f a y).bus.Ranged ∧ g y (f a y) = F (g y a) ∧ ∀ c ∈ l, c ≠ y → g c (f a y) = g c a := fun a ha y hy =>
      have hy' := h a ha y (List.mem_cons_of_mem _ hy)
      ⟨hy'.1, hy'.2.1, fun c hc => hy'.2.2 c (List.mem_cons_of_mem _ hc)⟩
    by_cases hcx : c = x
    · subst hcx
      have hkeep : ∀ a : State, a.bus.Ranged → ∀ y ∈ l, (f a y).bus.Ranged ∧ g c (f a y) = g c a := fun a ha y hy =>
        have hy' := h a ha y (List.mem_cons_of_mem _ hy)
        ⟨hy'.1, hy'.2.2 c List.mem_cons_self (fun he => hx (he ▸ hy))⟩
      exact (State.foldl_keeps_of_ranged hr1 (g c) hkeep).2.trans hat
    · have hcl := (List.mem_cons.mp hc).resolve_left hcx
      rw [List.foldl_cons, ih hr1 hnd htail hcl, hother c hc hcx]

end

/-! ### The pages -/

/-- No block granted by entry has a page among those of the load channels, the switch inputs, the encoders and the coils (Table 3-4). -/
theorem blockTable_entry_apart_console : ∀ r ∈ blockTable, (match r.grant with | .entry _ _ _ => true | _ => false) = true →
    r.page + r.pages ≤ Block.lds.base ∨ Block.tok.base ≤ r.page := by
  decide

theorem plainPage_console {page : Nat} (hlo : Block.lds.base ≤ page) (hhi : page < Block.tok.base) : PlainPage page := by
  simp only [Block.base] at hlo hhi
  refine ⟨?_, fun off ho => reportKey_rk page off (by omega) ho ⟨by omega, by omega, by omega⟩⟩
  have hfar : ¬ page ≤ bstAside + 48 := by
    simp only [bstAside]
    omega
  unfold entryGranted rowOfPage
  rw [asidePage, decide_eq_false hfar, Bool.and_false, if_neg Bool.false_ne_true]
  split
  · next r hr =>
    have hin := List.find?_some hr
    simp only [Bool.and_eq_true, decide_eq_true_eq] at hin
    rw [← Bool.not_eq_true]
    intro hg
    have happ := blockTable_entry_apart_console r (List.mem_of_find?_eq_some hr) hg
    simp only [Block.base] at happ
    omega
  · rfl

theorem plainPage_lds {ch : Nat} (h : ch < 24) : PlainPage (ldsPage ch) := by
  refine plainPage_console ?_ ?_ <;> simp only [ldsPage, Block.pg, Block.base] <;> omega

theorem plainPage_enc {e : Nat} (h : e < 8) : PlainPage (encPage e) := by
  refine plainPage_console ?_ ?_ <;> simp only [encPage, Block.pg, Block.base] <;> omega

theorem plainPage_coi {c : Nat} (h : c < 8) : PlainPage (coiPage c) := by
  refine plainPage_console ?_ ?_ <;> simp only [coiPage, Block.pg, Block.base] <;> omega

end Sys2Proof.Machine
end

section
/-! SUPPORT. What a load channel shows under the operations of Table 10-3, and its commands by outcome (R267 to R272, R275). -/

namespace Sys2Proof.Machine

theorem Bus.Ranged.disarm {b : Bus} (h : b.Ranged) (t : Nat) : (b.disarm t).Ranged := h

theorem State.modLds_coils (s : State) (f : Loads → Loads) : (s.modLds f).coils = s.coils := rfl

theorem State.rd_modLds (s : State) (f : Loads → Loads) (k : Nat) : (s.modLds f).rd k = s.rd k := rfl

theorem ldsKey_ne (ch : Nat) {off off' : Nat} (h : off ≠ off') : ldsKey ch off ≠ ldsKey ch off' := rk_ne_off _ h

/-- The registers of two load channels differ. -/
theorem ldsKey_ne_channel {ch c : Nat} (h : ch ≠ c) (off off' : Nat) (ho : off < 4096 := by decide) (ho' : off' < 4096 := by decide) :
    ldsKey ch off ≠ ldsKey c off' :=
  rk_ne_page off off' (fun he => h (Nat.add_left_cancel he)) ho ho'

/-! ### What a channel shows -/

/-- STATE, the output and TRIES of a load channel, all in LDS_STATUS. -/
def State.ldsShows (s : State) (ch : Nat) : Nat × Bool × Nat := (s.ldsState ch, s.bit (ldsKey ch R.LDS_STATUS) 4, s.ldsTries ch)

theorem State.ldsShows_of_rd {s t : State} {ch : Nat} (h : t.rd (ldsKey ch R.LDS_STATUS) = s.rd (ldsKey ch R.LDS_STATUS)) :
    t.ldsShows ch = s.ldsShows ch := by
  rw [State.ldsShows, State.ldsShows, State.ldsState, State.ldsTries, State.fld_of_rd h, State.fld_of_rd h, State.bit_of_rd h]
  rfl

section
variable (s : State) (ch : Nat)

theorem State.ldsTries_lt : s.ldsTries ch < 16 := fieldOf_lt 8 4 _

/-- A new STATE leaves the output and TRIES. -/
theorem State.ldsShows_setState (st : Nat) (hst : st < 16) : (s.setFld (ldsKey ch R.LDS_STATUS) 0 4 st).ldsShows ch =
    (st, s.bit (ldsKey ch R.LDS_STATUS) 4, s.ldsTries ch) := by
  rw [State.ldsShows, State.ldsState, State.ldsTries, State.fld_setFld _ _ _ _ _ (by decide), Nat.mod_eq_of_lt (show st < 2 ^ 4 from hst),
    State.bit_setFld_of_disjoint _ _ 0 4 _ 4 (by decide) (by decide),
    State.fld_setFld_of_disjoint _ _ 0 4 _ 8 4 (by decide) (by decide)]
  rfl

theorem State.ldsShows_setOut (b : Bool) : (s.setBit (ldsKey ch R.LDS_STATUS) 4 b).ldsShows ch = (s.ldsState ch, b, s.ldsTries ch) := by
  rw [State.ldsShows, State.ldsState, State.ldsTries, State.bit_setBit _ _ 4 _ (by decide),
    State.fld_setBit_of_disjoint _ _ 4 _ 0 4 (by decide) (by decide), State.fld_setBit_of_disjoint _ _ 4 _ 8 4 (by decide) (by decide)]
  rfl

theorem State.ldsShows_setTries (n : Nat) (hn : n < 16) : (s.setTries ch n).ldsShows ch =
    (s.ldsState ch, s.bit (ldsKey ch R.LDS_STATUS) 4, n) := by
  rw [State.ldsShows, State.setTries, State.ldsState, State.ldsTries, State.fld_setFld _ _ _ _ _ (by decide),
    Nat.mod_eq_of_lt (show n < 2 ^ 4 from hn), State.fld_setFld_of_disjoint _ _ 8 4 _ 0 4 (by decide) (by decide),
    State.bit_setFld_of_disjoint _ _ 8 4 _ 4 (by decide) (by decide)]
  rfl

theorem State.ldsEnter_bus (st : Nat) : (s.ldsEnter ch st).bus =
    (((((s.setFld (ldsKey ch R.LDS_STATUS) 0 4 st).setBit (ldsKey ch R.LDS_STATUS) 4 false).bus.disarm (tInrush ch)).disarm
      (tPause ch)).disarm (tTries ch)).disarm (tRestore ch) := by
  simp only [State.ldsEnter, State.modLds, State.disarm_bus]

theorem State.ldsEnter_coils (st : Nat) : (s.ldsEnter ch st).coils = s.coils := by
  unfold State.ldsEnter
  dsimp only
  rw [State.modLds_coils, State.disarm_coils, State.disarm_coils, State.disarm_coils, State.disarm_coils, State.setBit_coils,
    State.setFld_coils]

theorem State.rd_ldsEnter (st k : Nat) : (s.ldsEnter ch st).rd k =
    ((s.setFld (ldsKey ch R.LDS_STATUS) 0 4 st).setBit (ldsKey ch R.LDS_STATUS) 4 false).rd k := by
  simp only [State.rd_eq, State.ldsEnter_bus, Bus.disarm_rd]

theorem State.rd_ldsEnter_ne (st k : Nat) (h : k ≠ ldsKey ch R.LDS_STATUS) : (s.ldsEnter ch st).rd k = s.rd k := by
  rw [State.rd_ldsEnter, State.rd_setBit_ne _ _ 4 _ k h, State.rd_setFld_ne _ _ 0 4 _ k h]

theorem State.ranged_ldsEnter (st : Nat) (hr : s.bus.Ranged) : (s.ldsEnter ch st).bus.Ranged := by
  rw [State.ldsEnter_bus]
  exact ((((State.ranged_wr _ (s.ranged_wr hr _ _) _ _).disarm _).disarm _).disarm _).disarm _

theorem State.ldsEnter_now (st : Nat) : (s.ldsEnter ch st).bus.now = s.bus.now := by
  rw [State.ldsEnter_bus]
  rfl

theorem State.ldsShows_ldsEnter (st : Nat) (hst : st < 16) : (s.ldsEnter ch st).ldsShows ch = (st, false, s.ldsTries ch) := by
  have hstate := s.ldsShows_setState ch st hst
  simp only [State.ldsShows, Prod.mk.injEq] at hstate
  rw [State.ldsShows_of_rd (s.rd_ldsEnter ch st _), State.ldsShows_setOut, hstate.1, hstate.2.2]

theorem State.ldsShows_ldsOff : (s.ldsOff ch).ldsShows ch = (0, false, 0) := by
  have henter := s.ldsShows_ldsEnter ch 0 (by decide)
  simp only [State.ldsShows, Prod.mk.injEq] at henter
  rw [State.ldsOff, State.ldsShows_setTries _ _ _ (by decide), henter.1, henter.2.1]

theorem State.ldsShows_ldsStart : (s.ldsStart ch).ldsShows ch = (1, true, s.ldsTries ch) := by
  have henter := s.ldsShows_ldsEnter ch 1 (by decide)
  simp only [State.ldsShows, Prod.mk.injEq] at henter
  have hrd : (s.ldsStart ch).rd (ldsKey ch R.LDS_STATUS) = ((s.ldsEnter ch 1).setBit (ldsKey ch R.LDS_STATUS) 4 true).rd
      (ldsKey ch R.LDS_STATUS) := by
    rw [State.ldsStart, State.rd_arm, State.rd_modLds]
  rw [State.ldsShows_of_rd hrd, State.ldsShows_setOut, henter.1, henter.2.2]

end

section
variable (s : State) (ch : Nat) (hr : s.bus.Ranged) (hch : ch < 24)
include hr hch

/-- An event of a channel changes none of the registers of load channels but EVT_PEND. -/
theorem State.rd_raiseLds (i c : Nat) (hc : c < 24) {off : Nat} (hne : off ≠ hdrEvtPend := by decide) (ho : off < 4096 := by decide) :
    (s.raise (ldsPage ch) i).rd (ldsKey c off) = s.rd (ldsKey c off) :=
  (plainPage_lds hch).rd_raise (plainPage_lds hc) hr i hne ho

theorem State.ldsShows_raise (i c : Nat) (hc : c < 24) : (s.raise (ldsPage ch) i).ldsShows c = s.ldsShows c :=
  State.ldsShows_of_rd (s.rd_raiseLds ch hr hch i c hc)

theorem State.ldsShows_ldsLatch : (s.ldsLatch ch).ldsShows ch = (4, false, s.ldsTries ch) :=
  (State.ldsShows_raise (s.ldsEnter ch 4) ch (s.ranged_ldsEnter ch 4 hr) hch 1 ch hch).trans (s.ldsShows_ldsEnter ch 4 (by decide))

/-- THERMAL: the output off, one more shutdown counted and reported (R270). -/
theorem State.ldsThermal_shows : (s.ldsThermal ch).ldsShows ch = (5, false, s.ldsTries ch) ∧ (s.ldsThermal ch).pend (ldsPage ch) 2 = true ∧
    (s.ldsThermal ch).rd (ldsKey ch R.LDS_CNT_THERM) = min (s.rd (ldsKey ch R.LDS_CNT_THERM) + 1) 0xFFFFFFFF := by
  have hr' : ((s.ldsEnter ch 5).addSat (ldsKey ch R.LDS_CNT_THERM) 1).bus.Ranged := (s.ranged_ldsEnter ch 5 hr).wr _ _
  refine ⟨?_, (plainPage_lds hch).pend_raise hr' 2 (by decide), ?_⟩
  · have hcount := State.rd_addSat_ne (s.ldsEnter ch 5) (ldsKey ch R.LDS_CNT_THERM) 1 _
      (ldsKey_ne ch (show R.LDS_STATUS ≠ R.LDS_CNT_THERM by decide))
    exact ((State.ldsShows_raise _ ch hr' hch 2 ch hch).trans (State.ldsShows_of_rd hcount)).trans (s.ldsShows_ldsEnter ch 5 (by decide))
  · rw [State.ldsThermal, State.rd_raiseLds _ ch hr' hch 2 ch hch, State.rd_addSat, State.rd_ldsEnter_ne _ _ _ _ (ldsKey_ne ch (by decide))]

/-! ### Trips (R269) -/

theorem State.rd_ldsTripCount {off : Nat} (h : off ≠ R.LDS_CNT_OC) (hne : off ≠ hdrEvtPend := by decide) (ho : off < 4096 := by decide) :
    (s.ldsTripCount ch).rd (ldsKey ch off) = s.rd (ldsKey ch off) :=
  (State.rd_raiseLds (s.addSat (ldsKey ch R.LDS_CNT_OC) 1) ch hr hch 0 ch hch hne ho).trans (s.rd_addSat_ne _ 1 _ (ldsKey_ne ch h))

theorem State.ldsTripCount_shows : (s.ldsTripCount ch).bus.Ranged ∧ (s.ldsTripCount ch).bus.now = s.bus.now ∧
    (s.ldsTripCount ch).pend (ldsPage ch) 0 = true ∧
    (s.ldsTripCount ch).rd (ldsKey ch R.LDS_CNT_OC) = min (s.rd (ldsKey ch R.LDS_CNT_OC) + 1) 0xFFFFFFFF := by
  have hp := plainPage_lds hch
  have hr' : (s.addSat (ldsKey ch R.LDS_CNT_OC) 1).bus.Ranged := hr
  exact ⟨hp.ranged_raise hr' 0, hp.raise_now _ 0, hp.pend_raise hr' 0 (by decide),
    (State.rd_raiseLds _ ch hr' hch 0 ch hch).trans (s.rd_addSat _ 1)⟩

/-- A trip alone: one more try, and LATCHED at LATCH_N, else a pause that its timer ends. -/
theorem State.ldsTripAlone_shows (n latch : Nat) (hn : n = min (s.ldsTries ch + 1) 15) (hlatch : latch = s.fld (ldsKey ch R.LDS_CFG) 4 4) :
    (s.ldsTripAlone ch).ldsShows ch = (if latch ≤ n then 4 else 3, false, n) ∧
      (∀ i, s.pend (ldsPage ch) i = true → (s.ldsTripAlone ch).pend (ldsPage ch) i = true) ∧
      (∀ off, off ≠ R.LDS_STATUS → off ≠ hdrEvtPend → off < 4096 → (s.ldsTripAlone ch).rd (ldsKey ch off) = s.rd (ldsKey ch off)) ∧
      (n < latch → (s.ldsTripAlone ch).bus.timers.find? (tPause ch) =
        some (s.bus.now + clkMs (s.fld (ldsKey ch R.LDS_CFG) 8 8 * 2 ^ min (n - 1) 7))) := by
  have hp := plainPage_lds hch
  have hinc : satInc 4 (s.ldsTries ch) = n := by
    have := s.ldsTries_lt ch
    rw [hn, satInc]
    split <;> omega
  have htries : (s.setTries ch n).ldsTries ch = n :=
    congrArg (fun x => x.2.2) (s.ldsShows_setTries ch n (by omega))
  have hshow : ∀ st, st < 16 → ((s.setTries ch n).ldsEnter ch st).ldsShows ch = (st, false, n) := fun st hst => by
    rw [State.ldsShows_ldsEnter _ _ _ hst, htries]
  have hkeep : ∀ st off, off ≠ R.LDS_STATUS → ((s.setTries ch n).ldsEnter ch st).rd (ldsKey ch off) = s.rd (ldsKey ch off) := fun st off h =>
    (State.rd_ldsEnter_ne _ ch st _ (ldsKey_ne ch h)).trans (s.rd_setFld_ne _ 8 4 n _ (ldsKey_ne ch h))
  unfold State.ldsTripAlone
  dsimp only
  rw [hinc, ← hlatch]
  by_cases hle : latch ≤ n
  · have hr' : ((s.setTries ch n).ldsEnter ch 4).bus.Ranged := State.ranged_ldsEnter _ ch 4 (s.ranged_wr hr _ _)
    rw [if_pos hle, if_pos hle]
    exact ⟨(State.ldsShows_raise _ ch hr' hch 1 ch hch).trans (hshow 4 (by decide)),
      fun i h => hp.pend_raise_of_pend hr' 1 (by decide) ((State.bit_of_rd (hkeep 4 hdrEvtPend (by decide)) i).trans h),
      fun off h hne ho => (State.rd_raiseLds _ ch hr' hch 1 ch hch hne ho).trans (hkeep 4 off h), fun h => absurd hle (by omega)⟩
  · rw [if_neg hle, if_neg hle]
    refine ⟨(State.ldsShows_of_rd (State.rd_arm _ _ _ _)).trans (hshow 3 (by decide)),
      fun i h => (State.bit_of_rd ((State.rd_arm _ _ _ _).trans (hkeep 3 hdrEvtPend (by decide))) i).trans h,
      fun off h _ _ => (State.rd_arm _ _ _ _).trans (hkeep 3 off h), fun _ => ?_⟩
    rw [State.find_arm, State.ldsEnter_now]
    rfl

end

/-! ### The commands of a channel -/

theorem State.rd_ldsRefresh (s : State) (ch k : Nat) : (s.ldsRefresh ch).rd k =
    ((s.setBit (ldsKey ch R.LDS_STATUS) 5 (s.ldsDemand ch).1).setFld (ldsKey ch R.LDS_STATUS) 12 2 (s.ldsDemand ch).2).rd k := by
  unfold State.ldsRefresh State.ifThen
  dsimp only
  split <;> rfl

theorem State.rd_ldsRefresh_ne (s : State) (ch k : Nat) (h : k ≠ ldsKey ch R.LDS_STATUS) : (s.ldsRefresh ch).rd k = s.rd k := by
  rw [State.rd_ldsRefresh, State.rd_setFld_ne _ _ _ _ _ _ h, State.rd_setBit_ne _ _ _ _ _ h]

theorem State.ldsState_ldsRefresh (s : State) (ch : Nat) : (s.ldsRefresh ch).ldsState ch = s.ldsState ch := by
  rw [State.ldsState, State.fld_of_rd (s.rd_ldsRefresh ch _), State.fld_setFld_of_disjoint _ _ 12 2 _ 0 4 (by decide) (by decide),
    State.fld_setBit_of_disjoint _ _ 5 _ 0 4 (by decide) (by decide)]
  rfl

theorem ldsKey_ne_jrnHead (ch off : Nat) (ho : off < 4096 := by decide) : ldsKey ch off ≠ fltKey R.FLT_JRN_HEAD := by
  refine rk_ne_page off R.FLT_JRN_HEAD ?_ ho
  simp only [ldsPage, fltPage, Block.pg, Block.base]
  omega

theorem State.ldsOutWrite_of_room (s : State) (vi ch v : Nat) (hopen : s.jrn.closed = false) (hroom : s.logRoom 1 = true) :
    s.ldsOutWrite vi ch v = ((s.setFld (ldsKey ch R.LDS_OUT) 0 1 (v % 2)).ldsRefresh ch).jconfig 3 [ldsOutEntry ch (v % 2)] :=
  s.journaled_of_room ⟨4, vi, ch, [v % 2]⟩ [ldsOutEntry ch (v % 2)] id (·.ldsOutApply ⟨4, vi, ch, [v % 2]⟩) hopen hroom

/-- An owner's demand is stored and recorded (R267, R448). -/
theorem exec_ldsOutWrite_of_owner (dt vi ch v : Nat) (s : State) (ha : s.bus.pageAccess (ldsPage ch) vi = 2)
    (hu : s.bus.pageUp (ldsPage ch) = true) (hopen : s.jrn.closed = false) (hroom : s.logRoom 1 = true) :
    exec (.ldsOutWrite dt vi ch v) s = .next ((((s.tick dt).setFld (ldsKey ch R.LDS_OUT) 0 1 (v % 2)).ldsRefresh ch).jconfig 3
      [ldsOutEntry ch (v % 2)]) :=
  congrArg _ (((s.tick dt).guardWrite_owner vi _ _ ha hu).trans ((s.tick dt).ldsOutWrite_of_room vi ch v hopen hroom))

/-- The write shows the demand in LDS_OUT of the channel, and changes no LDS_OUT of another nor a STATE. -/
theorem State.ldsOutWritten_shows (s : State) (ch v : Nat) (e : List (Nat × Nat)) (t : State)
    (ht : t = ((s.setFld (ldsKey ch R.LDS_OUT) 0 1 (v % 2)).ldsRefresh ch).jconfig 3 e) : t.fld (ldsKey ch R.LDS_OUT) 0 1 = v % 2 ∧
      (∀ c, c ≠ ch → t.rd (ldsKey c R.LDS_OUT) = s.rd (ldsKey c R.LDS_OUT)) ∧ t.ldsState ch = s.ldsState ch := by
  subst ht
  have hout : ∀ c, (((s.setFld (ldsKey ch R.LDS_OUT) 0 1 (v % 2)).ldsRefresh ch).jconfig 3 e).rd (ldsKey c R.LDS_OUT) =
      (s.setFld (ldsKey ch R.LDS_OUT) 0 1 (v % 2)).rd (ldsKey c R.LDS_OUT) := fun c => by
    rw [State.rd_jconfig_ne _ _ _ _ (ldsKey_ne_jrnHead c _)]
    exact State.rd_ldsRefresh_ne _ _ _ rk_ne_of_off
  refine ⟨?_, fun c hc => ?_, ?_⟩
  · rw [State.fld_of_rd (hout ch), State.fld_setFld _ _ 0 1 _ (by decide)]
    exact Nat.mod_mod _ _
  · rw [hout c, State.rd_setFld_ne _ _ _ _ _ _ (ldsKey_ne_channel hc _ _)]
  · rw [State.ldsState, State.fld_of_rd (State.rd_jconfig_ne _ _ _ _ (ldsKey_ne_jrnHead ch _)), ← State.ldsState,
      State.ldsState_ldsRefresh]
    exact State.fld_of_rd (s.rd_setFld_ne _ _ _ _ _ (ldsKey_ne ch (by decide))) 0 4

section
variable (s : State) (ch : Nat)

theorem State.ldsResolve_of_off (hst : s.ldsState ch = 0) (hd : (s.ldsDemand ch).1 = true) (hlow : ch ∉ s.lds.needLow) :
    s.ldsResolve ch false false false = s.ldsStart ch := by
  have hfree : s.lds.needLow.contains ch = false := by simpa using hlow
  simp only [State.ldsResolve, hst, hd, hfree]
  rfl

theorem State.ldsResolve_of_trip (hst : s.ldsState ch = 1 ∨ s.ldsState ch = 2) (hd : (s.ldsDemand ch).1 = true) :
    s.ldsResolve ch true false false = (s.ldsTripCount ch).ldsTripAlone ch := by
  rcases hst with hst | hst <;>
  · simp only [State.ldsResolve, hst, hd]
    rfl

/-- Only a channel in INRUSH or ON trips (R269). -/
theorem State.ldsState_of_ldsTrips (ma us : Nat) (h : s.ldsTrips ch ma us = true) : s.ldsState ch = 1 ∨ s.ldsState ch = 2 := by
  simp only [State.ldsTrips, Bool.and_eq_true, Bool.or_eq_true, decide_eq_true_eq] at h
  exact h.1

theorem exec_ldsTrip_of_trip (dt ma us : Nat) (s1 : State) (hs1 : s1 = (s.tick dt).wr (ldsKey ch R.LDS_IMEAS) (min ma 65535))
    (htrip : s1.ldsTrips ch ma us = true) (hd : (s1.ldsDemand ch).1 = true) (hcool : s1.ldsTj ch < 2720) :
    exec (.ldsTrip dt ch ma us) s = .next ((s1.ldsTripCount ch).ldsTripAlone ch) := by
  have hhot : decide (tjTrip ≤ s1.ldsTj ch) = false := decide_eq_false (Int.not_le.mpr hcool)
  refine congrArg Host.Outcome.next ?_
  rw [← hs1, if_pos htrip, hhot, s1.ldsResolve_of_trip ch (s1.ldsState_of_ldsTrips ch ma us htrip) hd]

/-- A trip counts, is reported, and pauses or latches the channel (R269). -/
theorem exec_ldsTrip_shows (dt ma us n : Nat) (s1 : State) (hr : s.bus.Ranged) (hch : ch < 24)
    (hs1 : s1 = (s.tick dt).wr (ldsKey ch R.LDS_IMEAS) (min ma 65535)) (htrip : s1.ldsTrips ch ma us = true)
    (hd : (s1.ldsDemand ch).1 = true) (hcool : s1.ldsTj ch < 2720) (hn : n = min (s.ldsTries ch + 1) 15) :
    ∃ t, exec (.ldsTrip dt ch ma us) s = .next t ∧ t.ldsState ch = (if s.fld (ldsKey ch R.LDS_CFG) 4 4 ≤ n then 4 else 3) ∧
      t.bit (ldsKey ch R.LDS_STATUS) 4 = false ∧ t.ldsTries ch = n ∧ t.pend (ldsPage ch) 0 = true ∧
      t.rd (ldsKey ch R.LDS_CNT_OC) = min (s.rd (ldsKey ch R.LDS_CNT_OC) + 1) 0xFFFFFFFF ∧
      (n < s.fld (ldsKey ch R.LDS_CFG) 4 4 → t.bus.timers.find? (tPause ch) =
        some (s.bus.now + dt + clkMs (s.fld (ldsKey ch R.LDS_CFG) 8 8 * 2 ^ min (n - 1) 7))) := by
  have hr1 : s1.bus.Ranged := hs1 ▸ (s.tick dt).ranged_wr hr _ _
  have hnow1 : s1.bus.now = s.bus.now + dt := hs1 ▸ rfl
  have hrd1 : ∀ off, off ≠ R.LDS_IMEAS → s1.rd (ldsKey ch off) = s.rd (ldsKey ch off) := fun off h =>
    hs1 ▸ (s.tick dt).rd_wr_ne _ _ _ (ldsKey_ne ch h)
  obtain ⟨hr2, hnow2, hpend2, hcount2⟩ := s1.ldsTripCount_shows ch hr1 hch
  have hstatus : (s1.ldsTripCount ch).rd (ldsKey ch R.LDS_STATUS) = s.rd (ldsKey ch R.LDS_STATUS) :=
    (s1.rd_ldsTripCount ch hr1 hch (by decide)).trans (hrd1 _ (by decide))
  have hcfg : (s1.ldsTripCount ch).rd (ldsKey ch R.LDS_CFG) = s.rd (ldsKey ch R.LDS_CFG) :=
    (s1.rd_ldsTripCount ch hr1 hch (by decide)).trans (hrd1 _ (by decide))
  have htries : (s1.ldsTripCount ch).ldsTries ch = s.ldsTries ch := State.fld_of_rd hstatus 8 4
  have hlatch := State.fld_of_rd hcfg 4 4
  obtain ⟨hshow, hpend, hkeep, hpause⟩ :=
    (s1.ldsTripCount ch).ldsTripAlone_shows ch hr2 hch n _ (htries ▸ hn) hlatch.symm
  rw [State.fld_of_rd hcfg 8 8, hnow2, hnow1] at hpause
  simp only [State.ldsShows, Prod.mk.injEq] at hshow
  refine ⟨_, exec_ldsTrip_of_trip s ch dt ma us s1 hs1 htrip hd hcool, hshow.1, hshow.2.1, hshow.2.2, hpend 0 hpend2, ?_, hpause⟩
  rw [hkeep _ (by decide) (by decide) (by decide), hcount2, hrd1 _ (by decide)]

/-- The inrush ends in ON, and TRIES is cleared a second later (R268, R269). -/
theorem exec_ldsInrushEnd_shows (dt : Nat) (hdue : (s.tick dt).due (tInrush ch) = true) (hst : s.ldsState ch = 1) :
    ∃ t, exec (.ldsInrushEnd dt ch) s = .next t ∧ t.ldsState ch = 2 ∧ t.lds.inrush.find? ch = none ∧
      t.bus.timers.find? (tTries ch) = some (s.bus.now + dt + clkS 1) := by
  refine ⟨_, congrArg Host.Outcome.next ((State.onExpiry_due _ _ _ hdue).trans (if_pos hst)), ?_, ?_, State.find_arm _ _ _⟩
  · rw [State.ldsState, State.fld_of_rd (State.rd_arm _ _ _ _), State.fld_of_rd (State.rd_modLds _ _ _)]
    exact State.fld_setFld _ _ 0 4 2 (by decide)
  · rw [State.arm_lds]
    exact SMap.find?_erase _ _

theorem exec_ldsTriesClear_shows (dt : Nat) (hdue : (s.tick dt).due (tTries ch) = true) :
    ∃ t, exec (.ldsTriesClear dt ch) s = .next t ∧ t.ldsTries ch = 0 ∧
      ((s.tick dt).disarm (tTries ch)).After t [ldsKey ch R.LDS_STATUS] :=
  ⟨_, congrArg Host.Outcome.next (State.onExpiry_due _ _ _ hdue), State.fld_setFld _ _ 8 4 0 (by decide),
    (State.After.refl _ _).setFld _ _ _ _ (List.mem_singleton_self _)⟩

/-- A new TJ leaves the other registers of the channel. -/
theorem State.rd_ldsTj_ne (v : Nat) {off : Nat} (h : off ≠ R.LDS_TJ := by decide) :
    (s.wr (ldsKey ch R.LDS_TJ) v).rd (ldsKey ch off) = s.rd (ldsKey ch off) :=
  s.rd_wr_ne _ _ _ (ldsKey_ne ch h)

theorem exec_ldsThermalShutdown_of_hot (dt : Nat) (tj : Int) (hhot : 2720 ≤ tj) (hlo : 1 ≤ s.ldsState ch) (hhi : s.ldsState ch ≤ 3) :
    exec (.ldsThermalShutdown dt ch tj) s = .next (((s.tick dt).wr (ldsKey ch R.LDS_TJ) (ofSignedSat 16 tj)).ldsThermal ch) := by
  have hst := State.fld_of_rd ((s.tick dt).rd_ldsTj_ne ch (ofSignedSat 16 tj) (off := R.LDS_STATUS)) 0 4
  exact congrArg _ (if_pos ⟨hhot, hlo.trans_eq hst.symm, hst.trans_le hhi⟩)

theorem exec_ldsThermalShutdown_of_cool (dt : Nat) (tj : Int) (hcool : tj < 2720) :
    exec (.ldsThermalShutdown dt ch tj) s = .next ((s.tick dt).wr (ldsKey ch R.LDS_TJ) (ofSignedSat 16 tj)) :=
  congrArg _ (if_neg fun h => absurd h.1 (Int.not_le.mpr hcool))

theorem exec_ldsThermalRecover_of_cool (dt : Nat) (tj : Int) (hst : s.ldsState ch = 5)
    (hcool : tj < 2720 - 16 * (s.fld (ldsKey ch R.LDS_CFG) 24 6 : Nat)) :
    exec (.ldsThermalRecover dt ch tj) s = .next (((s.tick dt).wr (ldsKey ch R.LDS_TJ) (ofSignedSat 16 tj)).ldsGo ch) := by
  have hst' := State.fld_of_rd ((s.tick dt).rd_ldsTj_ne ch (ofSignedSat 16 tj) (off := R.LDS_STATUS)) 0 4
  have hcfg := State.fld_of_rd ((s.tick dt).rd_ldsTj_ne ch (ofSignedSat 16 tj) (off := R.LDS_CFG)) 24 6
  refine congrArg _ (if_pos ⟨hst'.trans hst, ?_⟩)
  rw [State.tjRestart, hcfg]
  exact hcool

theorem exec_ldsOpenLoad_of_open (dt vf : Nat) (s1 : State) (hs1 : s1 = (s.tick dt).wr (ldsG R.LDS_G_VFIELD) (min vf 4095))
    (hen : s1.bit (ldsKey ch R.LDS_CFG) 3 = true) (hst : s1.ldsState ch = 2) (hvf : 900 ≤ vf)
    (hclosed : s1.bit (ldsKey ch R.LDS_STATUS) 6 = false) :
    exec (.ldsOpenLoad dt ch true vf) s = .next ((s1.setBit (ldsKey ch R.LDS_STATUS) 6 true).raise (ldsPage ch) 3) := by
  subst hs1
  exact congrArg Host.Outcome.next (if_pos ⟨hen, hst, hvf, hclosed.trans_ne Bool.false_ne_true⟩)

/-- A load that is found open is shown and reported (R271). -/
theorem exec_ldsOpenLoad_shows (dt vf : Nat) (hr : s.bus.Ranged) (hch : ch < 24) (hen : s.bit (ldsKey ch R.LDS_CFG) 3 = true)
    (hst : s.ldsState ch = 2) (hvf : 900 ≤ vf) (hclosed : s.bit (ldsKey ch R.LDS_STATUS) 6 = false) :
    ∃ t, exec (.ldsOpenLoad dt ch true vf) s = .next t ∧ t.bit (ldsKey ch R.LDS_STATUS) 6 = true ∧ t.pend (ldsPage ch) 3 = true ∧
      (s.tick dt).After t [ldsG R.LDS_G_VFIELD, ldsKey ch R.LDS_STATUS, pendKey (ldsPage ch)] := by
  have hp := plainPage_lds hch
  have hrd : ∀ off, off ≠ R.LDS_G_VFIELD → off < 4096 →
      ((s.tick dt).wr (ldsG R.LDS_G_VFIELD) (min vf 4095)).rd (ldsKey ch off) = s.rd (ldsKey ch off) := fun off h ho =>
    (s.tick dt).rd_wr_ne _ _ _ (rk_ne_of_off h ho)
  have hcfg := hrd R.LDS_CFG (by decide) (by decide)
  have hstatus := hrd R.LDS_STATUS (by decide) (by decide)
  have hr1 : ((s.tick dt).wr (ldsG R.LDS_G_VFIELD) (min vf 4095)).bus.Ranged := (s.tick dt).ranged_wr hr _ _
  have hafter : (s.tick dt).After (((s.tick dt).wr (ldsG R.LDS_G_VFIELD) (min vf 4095)).setBit (ldsKey ch R.LDS_STATUS) 6 true)
      [ldsG R.LDS_G_VFIELD, ldsKey ch R.LDS_STATUS, pendKey (ldsPage ch)] :=
    ((State.After.refl _ _).wr _ _ (by simp)).setBit _ _ _ (by simp)
  have hexec := exec_ldsOpenLoad_of_open s ch dt vf _ rfl ((State.bit_of_rd hcfg 3).trans hen) ((State.fld_of_rd hstatus 0 4).trans hst) hvf
    ((State.bit_of_rd hstatus 6).trans hclosed)
  generalize (s.tick dt).wr (ldsG R.LDS_G_VFIELD) (min vf 4095) = s1 at hr1 hafter hexec
  have hr2 : (s1.setBit (ldsKey ch R.LDS_STATUS) 6 true).bus.Ranged := s1.ranged_wr hr1 _ _
  refine ⟨_, hexec, ?_, hp.pend_raise hr2 3 (by decide), hafter.raise hr _ 3 hp.entryGranted (by simp)⟩
  rw [State.bit_of_rd (State.rd_raiseLds _ ch hr2 hch 3 ch hch), State.bit_setBit _ _ 6 _ (by decide)]

theorem exec_ldsStuckOn_of_off (dt : Nat) (h : s.bit (ldsKey ch R.LDS_STATUS) 4 = false) :
    exec (.ldsStuckOn dt ch) s = .next ((s.tick dt).fault 81 { page := ldsPage ch }) :=
  congrArg _ (if_neg (Bool.eq_false_iff.mp h))

section
variable (dt vi v : Nat) (ha : s.bus.pageAccess (ldsPage ch) vi = 2) (hu : s.bus.pageUp (ldsPage ch) = true)
include ha hu

theorem exec_ldsLatchClr_of_latched (hv : bitOf 0 v = true) (hst : s.ldsState ch = 4) : exec (.ldsLatchClr dt vi ch v) s =
    .next ((((s.tick dt).ldsOff ch).setBit (ldsKey ch R.LDS_STATUS) 7 false).ldsResolve ch false false false) :=
  congrArg _ (((s.tick dt).guardWrite_owner vi _ _ ha hu).trans ((if_pos hv).trans (if_pos hst)))

theorem exec_ldsLatchClr_of_nothing (h : bitOf 0 v = false ∨ s.ldsState ch ≠ 4) :
    exec (.ldsLatchClr dt vi ch v) s = .next (s.tick dt) := by
  refine congrArg Host.Outcome.next (((s.tick dt).guardWrite_owner vi _ _ ha hu).trans ?_)
  by_cases hv : bitOf 0 v = true
  · exact (if_pos hv).trans (if_neg (h.resolve_left (Bool.not_eq_false _ ▸ hv)))
  · exact if_neg hv

end

end

end Sys2Proof.Machine
end

section
/-! SUPPORT. Coil channels: registers and hidden state, the words of the sequencer, and the commands by outcome (R291 to R299, Tables 10-11
to 10-13). -/

namespace Sys2Proof.Machine

/-! ### Registers and hidden state -/

theorem coiKey_ne (c : Nat) {off off' : Nat} (h : off ≠ off') : coiKey c off ≠ coiKey c off' := rk_ne_off _ h

/-- The registers of two coil channels differ. -/
theorem coiKey_ne_channel {c d : Nat} (h : c ≠ d) (off off' : Nat) (ho : off < 4096 := by decide) (ho' : off' < 4096 := by decide) :
    coiKey c off ≠ coiKey d off' :=
  rk_ne_page off off' (fun he => h (Nat.add_left_cancel he)) ho ho'

@[simp] theorem State.coil_setCoil (s : State) (c : Nat) (x : Coil) : (s.setCoil c x).coil c = x := SMap.find_put _ _ _ _

theorem State.coil_setCoil_ne (s : State) {c d : Nat} (x : Coil) (h : d ≠ c) : (s.setCoil c x).coil d = s.coil d :=
  SMap.find_put_ne _ _ _ _ _ _ h

theorem State.coil_of_coils {s t : State} (h : t.coils = s.coils) (c : Nat) : t.coil c = s.coil c := congrArg (fun m => m.find Coil.init c) h

theorem coiG_ne {off off' : Nat} (h : off ≠ off') : coiG off ≠ coiG off' := rk_ne_off _ h

theorem State.After.coils {s t : State} {ks : List Nat} (h : s.After t ks) : t.coils = s.coils := by rw [h.1]

/-- A change of the coils alone leaves the frame of reporting. -/
theorem State.After.with_coils {s t : State} {ks : List Nat} (h : s.After t ks) (m : SMap Coil) :
    ({ s with coils := m } : State).After { t with coils := m } ks :=
  ⟨congrArg (fun u : State => { u with coils := m }) h.1, h.2⟩

theorem State.setCoil_bus (s : State) (c : Nat) (x : Coil) : (s.setCoil c x).bus = s.bus := rfl

theorem State.coiPhase_setCoil (s : State) (c : Nat) (x : Coil) (d : Nat) : (s.setCoil c x).coiPhase d = s.coiPhase d := rfl

theorem State.rd_setCoil (s : State) (c : Nat) (x : Coil) (k : Nat) : (s.setCoil c x).rd k = s.rd k := rfl

section
variable (s : State) (c : Nat)

theorem State.rd_coiGo (word clks k : Nat) : (s.coiGo c word clks).rd k = (s.setFld (coiKey c R.COI_STATUS) 2 6 (word % 64)).rd k := rfl

theorem State.coil_coiGo_ne (word clks : Nat) {d : Nat} (h : d ≠ c) : (s.coiGo c word clks).coil d = s.coil d :=
  State.coil_setCoil_ne _ _ h

theorem State.coil_coiGo (word clks : Nat) : (s.coiGo c word clks).coil c = { s.coil c with ready := s.bus.now + clks, wait := .none } :=
  State.coil_setCoil _ _ _

/-- The sequencer stands at the word it goes on at. -/
theorem State.coiAt_coiGo (word clks : Nat) : (s.coiGo c word clks).coiAt c = word % 64 := by
  rw [State.coiAt, State.fld_of_rd (s.rd_coiGo c word clks _), State.fld_setFld _ _ 2 6 _ (by decide)]
  exact Nat.mod_mod _ _

theorem State.rd_coiGo_ne (word clks : Nat) {off : Nat} (h : off ≠ R.COI_STATUS) :
    (s.coiGo c word clks).rd (coiKey c off) = s.rd (coiKey c off) :=
  (s.rd_coiGo c word clks _).trans (s.rd_setFld_ne _ _ _ _ _ (coiKey_ne c h))

theorem State.bit_coiGo (word clks i : Nat) (h : i < 2 ∨ 8 ≤ i) :
    (s.coiGo c word clks).bit (coiKey c R.COI_STATUS) i = s.bit (coiKey c R.COI_STATUS) i :=
  (State.bit_of_rd (s.rd_coiGo c word clks _) i).trans (s.bit_setFld_of_disjoint _ 2 6 _ i (by decide) h)

theorem State.coiMeasure_ranged (m : CoilMeas) (hr : s.bus.Ranged) : (s.coiMeasure c m).bus.Ranged :=
  State.ranged_wr _ (State.ranged_wr _ (State.ranged_wr _ (s.ranged_wr hr _ _) _ _) _ _) _ _

theorem State.coiMeasure_now (m : CoilMeas) : (s.coiMeasure c m).bus.now = s.bus.now := by
  simp only [State.coiMeasure, State.wr_bus, Bus.wr_now]

end

/-! ### The end of a sequence (R293, R294, R298) -/

/-- The phase, the bridge and sequencer, and REASON of a coil channel. -/
def State.coilShows (s : State) (c : Nat) : Nat × Coil × Nat := (s.coiPhase c, s.coil c, s.fld (coiKey c R.COI_STATUS) 11 3)

theorem State.coilShows_of_eq {s t : State} {c : Nat} (hrd : t.rd (coiKey c R.COI_STATUS) = s.rd (coiKey c R.COI_STATUS))
    (hcoil : t.coil c = s.coil c) : t.coilShows c = s.coilShows c := by
  rw [State.coilShows, State.coilShows, State.coiPhase, State.fld_of_rd hrd, State.fld_of_rd hrd, hcoil]
  rfl

section
variable (s : State) (c reason : Nat) (d : CoilDrive)

/-- The end of a sequence before its event. -/
def State.coiEnding : State :=
  (s.setFld (coiKey c R.COI_STATUS) 11 3 reason).modCoil c (fun x => { x with drive := d, wait := .ending })

theorem State.coiEnd_eq : s.coiEnd c reason d = (s.coiEnding c reason d).ifThen (decide (reason ≠ 0)) (·.raise (coiPage c) 5) := rfl

theorem State.rd_coiEnding (k : Nat) :
    (s.coiEnding c reason d).rd k = (s.setFld (coiKey c R.COI_STATUS) 11 3 reason).rd k := rfl

theorem State.ranged_coiEnding (hr : s.bus.Ranged) : (s.coiEnding c reason d).bus.Ranged := s.ranged_wr hr _ _

theorem State.coilShows_coiEnding (h : reason < 8) :
    (s.coiEnding c reason d).coilShows c = (s.coiPhase c, { s.coil c with drive := d, wait := .ending }, reason) := by
  have hfld : ∀ lo w, (s.coiEnding c reason d).fld (coiKey c R.COI_STATUS) lo w =
      (s.setFld (coiKey c R.COI_STATUS) 11 3 reason).fld (coiKey c R.COI_STATUS) lo w := fun _ _ => rfl
  have hcoil : (s.coiEnding c reason d).coil c = { s.coil c with drive := d, wait := .ending } := State.coil_setCoil _ _ _
  rw [State.coilShows, State.coiPhase, hfld, hfld, hcoil, State.fld_setFld _ _ 11 3 _ (by decide),
    State.fld_setFld_of_disjoint _ _ 11 3 _ 0 2 (by decide) (by decide), Nat.mod_eq_of_lt (show reason < 2 ^ 3 from h)]
  rfl

theorem State.coilShows_coiEnding_ne {b : Nat} (h : b ≠ c) : (s.coiEnding c reason d).coilShows b = s.coilShows b :=
  State.coilShows_of_eq (s.rd_setFld_ne _ 11 3 reason _ (coiKey_ne_channel h _ _)) (State.coil_setCoil_ne _ _ h)

variable (hr : s.bus.Ranged) (hc : c < 8)
include hr hc

theorem State.rd_raiseCoi (i b : Nat) (hb : b < 8) {off : Nat} (hne : off ≠ hdrEvtPend := by decide) (ho : off < 4096 := by decide) :
    (s.raise (coiPage c) i).rd (coiKey b off) = s.rd (coiKey b off) :=
  (plainPage_coi hc).rd_raise (plainPage_coi hb) hr i hne ho

theorem State.coilShows_raise (i b : Nat) (hb : b < 8) : (s.raise (coiPage c) i).coilShows b = s.coilShows b :=
  State.coilShows_of_eq (s.rd_raiseCoi c hr hc i b hb) (State.coil_of_coils (s.raise_coils _ _) b)

theorem State.coiEnd_ranged : (s.coiEnd c reason d).bus.Ranged := by
  have hr' := s.ranged_coiEnding c reason d hr
  rw [State.coiEnd_eq, State.ifThen]
  split
  · exact (plainPage_coi hc).ranged_raise hr' 5
  · exact hr'

theorem State.coilShows_coiEnd_of_ending {b : Nat} (hb : b < 8) : (s.coiEnd c reason d).coilShows b = (s.coiEnding c reason d).coilShows b := by
  have hr' := s.ranged_coiEnding c reason d hr
  rw [State.coiEnd_eq, State.ifThen]
  split
  · exact State.coilShows_raise _ c hr' hc 5 b hb
  · rfl

/-- REASON is recorded, and the bridge decays until the current has. -/
theorem State.coilShows_coiEnd (h : reason < 8) :
    (s.coiEnd c reason d).coilShows c = (s.coiPhase c, { s.coil c with drive := d, wait := .ending }, reason) :=
  (s.coilShows_coiEnd_of_ending c reason d hr hc hc).trans (s.coilShows_coiEnding c reason d h)

theorem State.coilShows_coiEnd_ne {b : Nat} (hb : b < 8) (h : b ≠ c) : (s.coiEnd c reason d).coilShows b = s.coilShows b :=
  (s.coilShows_coiEnd_of_ending c reason d hr hc hb).trans (s.coilShows_coiEnding_ne c reason d h)

theorem State.pend_coiEnd (h : reason ≠ 0) : (s.coiEnd c reason d).pend (coiPage c) 5 = true := by
  rw [State.coiEnd_eq, decide_eq_true h]
  exact (plainPage_coi hc).pend_raise (s.ranged_coiEnding c reason d hr) 5 (by decide)

end

/-! ### Firing and stopping (R295) -/

/-- What a fire does to the registers of a channel, before its sequencer goes to the entry. -/
def State.coiStarted (s : State) (c : Nat) : State :=
  ((((s.setFld (coiKey c R.COI_STATUS) 0 2 1).setFld (coiKey c R.COI_STATUS) 24 6 0).setBit (coiKey c R.COI_STATUS) 8 false).setBit
    (coiKey c R.COI_STATUS) 9 false).addWrap (coiKey c R.COI_CNT_FIRE) 1

/-- The channel after a fire: its sequencer at the entry, its bridge off. -/
def State.coiFired (s : State) (c entry : Nat) : State := ((s.coiStarted c).setCoil c Coil.init).coiGo c entry 0

section
variable (s : State) (c : Nat)

theorem State.rd_coiStarted_count : (s.coiStarted c).rd (coiKey c R.COI_CNT_FIRE) = (s.rd (coiKey c R.COI_CNT_FIRE) + 1) % 2 ^ 32 := by
  have hne := coiKey_ne c (show R.COI_CNT_FIRE ≠ R.COI_STATUS by decide)
  rw [State.coiStarted, State.rd_addWrap, State.rd_setBit_ne _ _ _ _ _ hne, State.rd_setBit_ne _ _ _ _ _ hne,
    State.rd_setFld_ne _ _ _ _ _ _ hne, State.rd_setFld_ne _ _ _ _ _ _ hne]

theorem State.coiPhase_coiStarted : (s.coiStarted c).coiPhase c = 1 := by
  rw [State.coiPhase, State.coiStarted, State.fld_of_rd (State.rd_addWrap_ne _ _ _ _ (coiKey_ne c (by decide))),
    State.fld_setBit_of_disjoint _ _ 9 _ 0 2 (by decide) (by decide), State.fld_setBit_of_disjoint _ _ 8 _ 0 2 (by decide) (by decide),
    State.fld_setFld_of_disjoint _ _ 24 6 _ 0 2 (by decide) (by decide)]
  exact State.fld_setFld _ _ 0 2 1 (by decide)

theorem State.after_coiStarted : s.After (s.coiStarted c) [coiKey c R.COI_STATUS, coiKey c R.COI_CNT_FIRE] :=
  ((((((State.After.refl _ _).setFld _ 0 2 1 (by simp)).setFld _ 24 6 0 (by simp)).setBit _ 8 false (by simp)).setBit _ 9 false
    (by simp)).addWrap _ 1 (by simp))

theorem State.coiStarted_now : (s.coiStarted c).bus.now = s.bus.now := (s.after_coiStarted c).2.now

theorem State.coiStarted_coils : (s.coiStarted c).coils = s.coils := (s.after_coiStarted c).coils

theorem State.coiPhase_coiGo (word clks : Nat) : (s.coiGo c word clks).coiPhase c = s.coiPhase c :=
  (State.fld_of_rd (s.rd_coiGo c word clks _) 0 2).trans (s.fld_setFld_of_disjoint _ 2 6 _ 0 2 (by decide) (by decide))

/-- Going to a word, with a new hidden state of the channel, writes COI_STATUS alone. -/
theorem State.After.coiGo {t : State} {ks : List Nat} (h : s.After t ks) (x : Coil) (word clks : Nat) (hk : coiKey c R.COI_STATUS ∈ ks) :
    ({ s with coils := ((t.setCoil c x).coiGo c word clks).coils } : State).After ((t.setCoil c x).coiGo c word clks) ks :=
  (h.setFld _ 2 6 (word % 64) hk).with_coils _

end

section
variable (s : State) (c entry : Nat)

theorem State.coiFire_of_ready (hidle : s.coiPhase c = 0) (hen : s.pageEn (coiPage c) = true) (hfree : s.relayReader 2 c = none) :
    s.coiFire c entry true = s.coiFired c entry := by
  rw [State.coiFire, hidle, hen, hfree, if_neg (by simp)]
  rfl

theorem State.coiFire_of_refused (h : s.coiPhase c ≠ 0 ∨ s.pageEn (coiPage c) = false ∨ (s.relayReader 2 c).isSome = true) :
    s.coiFire c entry true = (s.addSat (coiKey c R.COI_CNT_REFUSED) 1).raise (coiPage c) 1 := by
  rw [State.coiFire, if_pos (by simpa using h)]

end

section
variable (dt vi c v : Nat) (s : State) (ha : s.bus.pageAccess (coiPage c) vi = 2) (hu : s.bus.pageUp (coiPage c) = true)
include ha hu

theorem exec_coiFire_of_ready (hidle : s.coiPhase c = 0) (hen : s.pageEn (coiPage c) = true) (hfree : s.relayReader 2 c = none) :
    exec (.coiFire dt vi c v) s = .next ((s.tick dt).coiFired c (v % 64)) :=
  congrArg _ (((s.tick dt).guardWrite_owner vi _ _ ha hu).trans ((s.tick dt).coiFire_of_ready c (v % 64) hidle hen hfree))

/-- A channel that fires runs from the entry, with the bridge off, and counts the fire. -/
theorem exec_coiFire_shows (hidle : s.coiPhase c = 0) (hen : s.pageEn (coiPage c) = true) (hfree : s.relayReader 2 c = none) :
    ∃ t, exec (.coiFire dt vi c v) s = .next t ∧ t.coiPhase c = 1 ∧ t.coiAt c = v % 64 ∧
      t.coil c = { Coil.init with ready := s.bus.now + dt, wait := .none } ∧
      t.rd (coiKey c R.COI_CNT_FIRE) = (s.rd (coiKey c R.COI_CNT_FIRE) + 1) % 2 ^ 32 ∧ (∀ d, d ≠ c → t.coil d = s.coil d) ∧
      ({ s.tick dt with coils := t.coils } : State).After t [coiKey c R.COI_STATUS, coiKey c R.COI_CNT_FIRE] := by
  refine ⟨_, exec_coiFire_of_ready dt vi c v s ha hu hidle hen hfree, ?_, ?_, ?_, ?_, fun d hd => ?_, ?_⟩
  · rw [State.coiFired, State.coiPhase_coiGo, State.coiPhase_setCoil, State.coiPhase_coiStarted]
  · rw [State.coiFired, State.coiAt_coiGo, Nat.mod_mod]
  · rw [State.coiFired, State.coil_coiGo, State.coil_setCoil, State.setCoil_bus, State.coiStarted_now]
    rfl
  · rw [State.coiFired, State.rd_coiGo_ne _ _ _ _ (by decide), State.rd_setCoil, State.rd_coiStarted_count]
    rfl
  · rw [State.coiFired, State.coil_coiGo_ne _ _ _ _ hd, State.coil_setCoil_ne _ _ hd]
    exact State.coil_of_coils ((s.tick dt).coiStarted_coils c) d
  · exact ((s.tick dt).after_coiStarted c).coiGo _ c Coil.init _ 0 (by simp)

theorem exec_coiFire_of_refused (h : s.coiPhase c ≠ 0 ∨ s.pageEn (coiPage c) = false ∨ (s.relayReader 2 c).isSome = true) :
    exec (.coiFire dt vi c v) s = .next (((s.tick dt).addSat (coiKey c R.COI_CNT_REFUSED) 1).raise (coiPage c) 1) :=
  congrArg _ (((s.tick dt).guardWrite_owner vi _ _ ha hu).trans ((s.tick dt).coiFire_of_refused c (v % 64) h))

theorem exec_coiAbort_of_running (hv : bitOf 0 v = true) (hrun : s.coiPhase c = 1) (hwait : (s.coil c).wait ≠ .ending) :
    exec (.coiAbort dt vi c v) s = .next ((s.tick dt).coiEnd c 1 (s.coiOffDrive c)) :=
  congrArg Host.Outcome.next (((s.tick dt).guardWrite_owner vi _ _ ha hu).trans ((if_pos hv).trans (if_pos ⟨hrun, hwait⟩)))

end

/-! ### The words of the sequencer (R294) -/

/-- Only a running channel runs a word. -/
theorem State.coiRuns_of_not_running (s : State) (c : Nat) (ops : List Nat) (h : s.coiPhase c ≠ 1) : s.coiRuns c ops = false := by
  simp only [State.coiRuns, decide_eq_false h, Bool.and_false, Bool.false_and]

end Sys2Proof.Machine
end

section
/-! SUPPORT. The words of the sequencer one by one, its waits and the end of a sequence, and VBOOST (R294, R296, R297, R299). The statement
on coils, settled. -/

namespace Sys2Proof.Machine

/-! ### The words (R294, Table 10-12) -/

section
variable (dt c n : Nat) (s : State) (hn : (s.tick dt).coiWord c % 4096 = n)
include hn

section
variable (h : (s.tick dt).coiRuns c [1] = true)
include h

theorem exec_coiOpSeti_of_target (hpos : 0 < n) : exec (.coiOpSeti dt c) s =
    .next (((s.tick dt).setCoil c { s.coil c with target := 2 * n, full := false, drive := .regulate (2 * n) }).coiNext c) := by
  refine congrArg Host.Outcome.next ((if_pos h).trans ?_)
  dsimp only
  rw [hn, if_neg hpos.ne']
  rfl

theorem exec_coiOpSeti_of_zero (hzero : n = 0) : exec (.coiOpSeti dt c) s =
    .next (((s.tick dt).setCoil c { s.coil c with target := 0, full := false, drive := s.coiOffDrive c }).coiNext c) := by
  refine congrArg Host.Outcome.next ((if_pos h).trans ?_)
  dsimp only
  rw [hn, if_pos hzero, hzero]
  rfl

end

theorem exec_coiOpSrc_of_full (h : (s.tick dt).coiRuns c [2] = true) (hfull : bitOf 2 n = true) : exec (.coiOpSrc dt c) s =
    .next (((s.tick dt).setCoil c { s.coil c with vboost := bitOf 0 n, dir := bitOf 1 n, full := true, drive := .full }).coiNext c) := by
  refine congrArg Host.Outcome.next ((if_pos h).trans ?_)
  dsimp only
  rw [hn, if_pos hfull, hfull]
  rfl

section
variable (h : (s.tick dt).coiRuns c [7] = true)
include h

section
variable (hlc : (s.tick dt).fld (coiKey c R.COI_STATUS) 24 6 = 0)
include hlc

/-- A LOOP with count 0 falls through. -/
theorem exec_coiOpLoop_of_none (hcount : n / 64 = 0) : exec (.coiOpLoop dt c) s = .next ((s.tick dt).coiNext c) := by
  refine congrArg Host.Outcome.next ((if_pos h).trans ?_)
  dsimp only
  rw [hn, hlc, if_pos rfl, if_pos hcount]

/-- The first pass of a LOOP that counts loads the loop count and jumps. -/
theorem exec_coiOpLoop_of_first (hcount : 2 ≤ n / 64) : exec (.coiOpLoop dt c) s =
    .next (((s.tick dt).setFld (coiKey c R.COI_STATUS) 24 6 (n / 64 - 1)).coiJump c (n % 64)) := by
  refine congrArg Host.Outcome.next ((if_pos h).trans ?_)
  dsimp only
  rw [hn, hlc, if_pos rfl, if_neg (by omega), if_pos (Nat.sub_ne_zero_of_lt hcount)]

end

omit hn in
/-- The last pass of a LOOP ends it. -/
theorem exec_coiOpLoop_of_last (hlc : (s.tick dt).fld (coiKey c R.COI_STATUS) 24 6 = 1) : exec (.coiOpLoop dt c) s =
    .next (((s.tick dt).setFld (coiKey c R.COI_STATUS) 24 6 0).coiNext c) := by
  refine congrArg Host.Outcome.next ((if_pos h).trans ?_)
  dsimp only
  rw [hlc, if_neg one_ne_zero, if_neg one_ne_zero, if_neg (not_not.mpr rfl)]

end

end

/-- A channel that runs no word takes no step of its sequencer. -/
theorem exec_coiOp_of_not_running (dt c : Nat) (s : State) (h : s.coiPhase c ≠ 1) : exec (.coiOpEnd dt c) s = .next (s.tick dt) ∧
    exec (.coiOpLoop dt c) s = .next (s.tick dt) ∧ exec (.coiOpReserved dt c true) s = .next (s.tick dt) := by
  have hruns : ∀ ops, ¬ (s.tick dt).coiRuns c ops = true := fun ops =>
    Bool.eq_false_iff.mp ((s.tick dt).coiRuns_of_not_running c ops h)
  exact ⟨congrArg Host.Outcome.next (if_neg (hruns _)), congrArg Host.Outcome.next (if_neg (hruns _)),
    congrArg Host.Outcome.next ((if_pos rfl).trans (if_neg (hruns _)))⟩

/-! ### Waits (R294, R297) -/

/-- An event of a channel whose sequencer then goes to a word. -/
theorem State.coiGo_raise_shows (s : State) (c i word : Nat) (hr : s.bus.Ranged) (hc : c < 8) (hi : i < 32) (t : State)
    (ht : t = (s.raise (coiPage c) i).coiGo c word 0) : t.pend (coiPage c) i = true ∧ t.coiAt c = word % 64 ∧ (t.coil c).wait = .none ∧
      (∀ j, 8 ≤ j → t.bit (coiKey c R.COI_STATUS) j = s.bit (coiKey c R.COI_STATUS) j) ∧
      t.rd (coiKey c R.COI_KINK_T) = s.rd (coiKey c R.COI_KINK_T) := by
  subst ht
  have hp := plainPage_coi hc
  refine ⟨?_, State.coiAt_coiGo _ _ _ _, ?_, fun j hj => ?_, ?_⟩
  · exact (State.bit_of_rd (State.rd_coiGo_ne _ c word 0 (show hdrEvtPend ≠ R.COI_STATUS by decide)) i).trans (hp.pend_raise hr i hi)
  · rw [State.coil_coiGo]
  · rw [State.bit_coiGo _ _ _ _ _ (.inr hj), State.bit_of_rd (s.rd_raiseCoi c hr hc i c hc)]
  · rw [State.rd_coiGo_ne _ _ _ _ (by decide), s.rd_raiseCoi c hr hc i c hc]

section
variable (dt c : Nat) (m : CoilMeas) (s : State) (hrun : s.coiPhase c = 1)
include hrun

theorem exec_coiWaitExpire_of_due (hwait : (s.coil c).wait = .time) (hdue : (s.coil c).ready ≤ s.bus.now + dt) :
    exec (.coiWaitExpire dt c m) s = .next (((s.tick dt).coiMeasure c m).coiGo c (s.coiAt c + 1) 0) :=
  congrArg _ (if_pos ⟨hrun, hwait, hdue⟩)

theorem exec_coiKinkDetect_of_dip (start stop maxMv avg i : Nat) (hwait : (s.coil c).wait = .kink start stop)
    (hdrive : (s.coil c).drive = .regulate i) (hblank : start + clkUs (s.fld (coiKey c R.COI_KINK) 8 16) ≤ s.bus.now + dt)
    (hopen : s.bus.now + dt < stop) (hdip : avg + 100 * s.fld (coiKey c R.COI_KINK) 0 8 ≤ maxMv) :
    exec (.coiKinkDetect dt c maxMv avg m) s = .next ((((((s.tick dt).coiMeasure c m).setBit (coiKey c R.COI_STATUS) 8 true).wr
      (coiKey c R.COI_KINK_T) (min ((s.bus.now + dt - start) / 500) 0xFFFFFF)).raise (coiPage c) 2).coiGo c (s.coiAt c + 1) 0) := by
  have hwait' : ((s.tick dt).coil c).wait = .kink start stop := hwait
  have hdrive' : ((s.tick dt).coil c).drive = .regulate i := hdrive
  refine congrArg Host.Outcome.next ?_
  rw [hwait', hdrive']
  exact if_pos ⟨hrun, hblank, hopen, hdip⟩

theorem exec_coiWaitkTimeout_of_late (start stop : Nat) (hwait : (s.coil c).wait = .kink start stop) (hlate : stop ≤ s.bus.now + dt) :
    exec (.coiWaitkTimeout dt c m) s = .next ((((((s.tick dt).coiMeasure c m).setBit (coiKey c R.COI_STATUS) 9 true).raise
      (coiPage c) 3)).coiGo c (s.coiAt c + 1) 0) := by
  have hwait' : ((s.tick dt).coil c).wait = .kink start stop := hwait
  refine congrArg Host.Outcome.next ?_
  rw [hwait']
  exact if_pos ⟨hrun, hlate⟩

theorem exec_coiCurrentDecayed_of_decay (hwait : (s.coil c).wait = .decay) (hma : m.ma.natAbs < 20) :
    exec (.coiCurrentDecayed dt c m) s = .next (((s.tick dt).coiMeasure c m).coiNext c) := by
  have hwait' : ((s.tick dt).coil c).wait = .decay := hwait
  refine congrArg Host.Outcome.next ((if_pos ⟨hrun, hma⟩).trans ?_)
  rw [hwait']

/-- The state in which the minimum off-time of a channel begins. -/
def State.coiOffTime (s : State) (c minoff : Nat) : State :=
  ((s.setFld (coiKey c R.COI_STATUS) 0 2 2).setCoil c Coil.init).arm (tMinoff c) (clkMs (max 1 minoff))

theorem exec_coiCurrentDecayed_of_end (hwait : (s.coil c).wait = .ending) (hma : m.ma.natAbs < 20)
    (hreason : s.fld (coiKey c R.COI_STATUS) 11 3 = 0) : exec (.coiCurrentDecayed dt c m) s =
      .next ((((s.tick dt).coiMeasure c m).coiOffTime c (s.fld (coiKey c R.COI_MINOFF) 0 16)).raise (coiPage c) 0) := by
  have hwait' : ((s.tick dt).coil c).wait = .ending := hwait
  have hreason' : (s.tick dt).fld (coiKey c R.COI_STATUS) 11 3 = 0 := hreason
  refine congrArg Host.Outcome.next ((if_pos ⟨hrun, hma⟩).trans ?_)
  rw [hwait', hreason']
  rfl

variable (hr : s.bus.Ranged) (hc : c < 8)
include hr hc

/-- A closing in the window of WAITK is shown with its time and reported. -/
theorem exec_coiKinkDetect_shows (start stop maxMv avg i : Nat) (hwait : (s.coil c).wait = .kink start stop)
    (hdrive : (s.coil c).drive = .regulate i) (hblank : start + clkUs (s.fld (coiKey c R.COI_KINK) 8 16) ≤ s.bus.now + dt)
    (hopen : s.bus.now + dt < stop) (hdip : avg + 100 * s.fld (coiKey c R.COI_KINK) 0 8 ≤ maxMv) :
    ∃ t, exec (.coiKinkDetect dt c maxMv avg m) s = .next t ∧ t.bit (coiKey c R.COI_STATUS) 8 = true ∧
      t.rd (coiKey c R.COI_KINK_T) = min ((s.bus.now + dt - start) / 500) 0xFFFFFF ∧ t.pend (coiPage c) 2 = true ∧
      t.coiAt c = (s.coiAt c + 1) % 64 ∧ (t.coil c).wait = .none := by
  have hr' := (s.tick dt).coiMeasure_ranged c m hr
  obtain ⟨hpend, hat, hnone, hbit, hkink⟩ := State.coiGo_raise_shows _ c 2 (s.coiAt c + 1)
    (State.ranged_wr _ (State.ranged_setBit _ hr' (coiKey c R.COI_STATUS) 8 true) (coiKey c R.COI_KINK_T)
      (min ((s.bus.now + dt - start) / 500) 0xFFFFFF)) hc (by decide) _ rfl
  refine ⟨_, exec_coiKinkDetect_of_dip dt c m s hrun start stop maxMv avg i hwait hdrive hblank hopen hdip, ?_, ?_, hpend, hat, hnone⟩
  · rw [hbit 8 (Nat.le_refl 8), State.bit_of_rd (State.rd_wr_ne _ _ _ _ (coiKey_ne c (by decide))), State.bit_setBit _ _ 8 _ (by decide)]
  · rw [hkink, State.rd_wr]
    omega

/-- A WAITK without a closing is shown and reported. -/
theorem exec_coiWaitkTimeout_shows (start stop : Nat) (hwait : (s.coil c).wait = .kink start stop) (hlate : stop ≤ s.bus.now + dt) :
    ∃ t, exec (.coiWaitkTimeout dt c m) s = .next t ∧ t.bit (coiKey c R.COI_STATUS) 9 = true ∧ t.pend (coiPage c) 3 = true ∧
      t.coiAt c = (s.coiAt c + 1) % 64 ∧ (t.coil c).wait = .none := by
  have hr' := (s.tick dt).coiMeasure_ranged c m hr
  obtain ⟨hpend, hat, hnone, hbit, -⟩ := State.coiGo_raise_shows _ c 3 (s.coiAt c + 1)
    (State.ranged_setBit _ hr' (coiKey c R.COI_STATUS) 9 true) hc (by decide) _ rfl
  refine ⟨_, exec_coiWaitkTimeout_of_late dt c m s hrun start stop hwait hlate, ?_, hpend, hat, hnone⟩
  rw [hbit 9 (by decide), State.bit_setBit _ _ 9 _ (by decide)]

/-- A sequence that ended by END leaves its channel in the minimum off-time, and is reported (R293, R296). -/
theorem exec_coiCurrentDecayed_shows (hwait : (s.coil c).wait = .ending) (hma : m.ma.natAbs < 20)
    (hreason : s.fld (coiKey c R.COI_STATUS) 11 3 = 0) : ∃ t, exec (.coiCurrentDecayed dt c m) s = .next t ∧ t.coiPhase c = 2 ∧
      t.coil c = Coil.init ∧ t.pend (coiPage c) 0 = true ∧
      t.bus.timers.find? (tMinoff c) = some (s.bus.now + dt + clkMs (max 1 (s.fld (coiKey c R.COI_MINOFF) 0 16))) := by
  have hp := plainPage_coi hc
  have hr' := (s.tick dt).coiMeasure_ranged c m hr
  have hnow : ((s.tick dt).coiMeasure c m).bus.now = s.bus.now + dt := (s.tick dt).coiMeasure_now c m
  have hexec := exec_coiCurrentDecayed_of_end dt c m s hrun hwait hma hreason
  generalize s.fld (coiKey c R.COI_MINOFF) 0 16 = minoff at hexec ⊢
  generalize (s.tick dt).coiMeasure c m = s1 at hr' hnow hexec
  have hr2 : (s1.coiOffTime c minoff).bus.Ranged := s1.ranged_setFld hr' (coiKey c R.COI_STATUS) 0 2 2
  refine ⟨_, hexec, ?_, ?_, hp.pend_raise hr2 0 (by decide), ?_⟩
  · rw [State.coiPhase, State.fld_of_rd (State.rd_raiseCoi _ c hr2 hc 0 c hc), State.coiOffTime, State.fld_of_rd (State.rd_arm _ _ _ _),
      State.fld_of_rd (State.rd_setCoil _ _ _ _)]
    exact State.fld_setFld _ _ 0 2 2 (by decide)
  · rw [State.coil_of_coils (State.raise_coils _ _ _), State.coiOffTime, State.coil_of_coils (State.arm_coils _ _ _), State.coil_setCoil]
  · rw [(hp.after_raise hr2 0).2.timers, State.coiOffTime, State.find_arm, ← hnow]
    rfl

end

/-- The minimum off-time ends: the channel is idle (R296). -/
theorem exec_coiMinoffExpire_shows (dt c : Nat) (s : State) (hdue : (s.tick dt).due (tMinoff c) = true) :
    ∃ t, exec (.coiMinoffExpire dt c) s = .next t ∧ t.coiPhase c = 0 ∧ ((s.tick dt).disarm (tMinoff c)).After t [coiKey c R.COI_STATUS] :=
  ⟨_, congrArg Host.Outcome.next (State.onExpiry_due _ _ _ hdue), State.fld_setFld _ _ 0 2 0 (by decide),
    (State.After.refl _ _).setFld _ _ _ _ (List.mem_singleton_self _)⟩

/-! ### VBOOST (R299) -/

/-- VBOOST as measured: its voltage, whether it is near its setpoint, and whether it is full. -/
def State.vboostShown (s : State) (mv : Nat) (ready full : Bool) : State :=
  ((s.wr (coiG R.COI_G_VBOOST) (min (mv / 20) 4095)).setBit (coiG R.COI_G_STATUS) 0 ready).setBit (coiG R.COI_G_STATUS) 1 full

theorem exec_vboostLevelChange_of_ready (dt mv set : Nat) (s : State) (hset : set = 20 * s.fld (coiG R.COI_G_VBOOST_SET) 0 12)
    (hlo : mv ≤ set + 1000) (hhi : set ≤ mv + 1000) (hwas : s.bit (coiG R.COI_G_STATUS) 0 = false) : exec (.vboostLevelChange dt mv) s =
      .next (((s.tick dt).vboostShown mv true (decide (65000 ≤ mv))).raiseEach coiPage 6 [] (List.range 8)) := by
  have hset' : 20 * ((s.tick dt).wr (coiG R.COI_G_VBOOST) (min (mv / 20) 4095)).fld (coiG R.COI_G_VBOOST_SET) 0 12 = set := by
    rw [State.fld_of_rd (State.rd_wr_ne _ _ _ _ (coiG_ne (by decide))), hset]
    rfl
  have hwas' : ((s.tick dt).wr (coiG R.COI_G_VBOOST) (min (mv / 20) 4095)).bit (coiG R.COI_G_STATUS) 0 = false :=
    (State.bit_of_rd (State.rd_wr_ne _ _ _ _ (coiG_ne (by decide))) 0).trans hwas
  refine congrArg Host.Outcome.next ?_
  rw [hset', hwas', decide_eq_true hlo, decide_eq_true hhi, if_pos (.inl (by decide))]
  rfl

/-- VBOOST that comes near its setpoint is shown and reported on every coil page. -/
theorem exec_vboostLevelChange_shows (dt mv set : Nat) (s : State) (hr : s.bus.Ranged)
    (hset : set = 20 * s.fld (coiG R.COI_G_VBOOST_SET) 0 12) (hlo : mv ≤ set + 1000) (hhi : set ≤ mv + 1000)
    (hwas : s.bit (coiG R.COI_G_STATUS) 0 = false) : ∃ t, exec (.vboostLevelChange dt mv) s = .next t ∧
      t.bit (coiG R.COI_G_STATUS) 0 = true ∧ (t.bit (coiG R.COI_G_STATUS) 1 = true ↔ 65000 ≤ mv) ∧
      (∀ c, c < 8 → t.pend (coiPage c) 6 = true) := by
  have hnone : ∀ v ∈ ([] : List Nat), v < 1024 := fun v hv => absurd hv List.not_mem_nil
  have hpages : ∀ c ∈ List.range 8, PlainPage (coiPage c) := fun c hc => plainPage_coi (List.mem_range.mp hc)
  have hr' : ((s.tick dt).vboostShown mv true (decide (65000 ≤ mv))).bus.Ranged :=
    State.ranged_setBit _ (State.ranged_setBit _ ((s.tick dt).ranged_wr hr _ _) _ _ _) _ _ _
  have hstatus : (((s.tick dt).vboostShown mv true (decide (65000 ≤ mv))).raiseEach coiPage 6 [] (List.range 8)).rd (coiG R.COI_G_STATUS) =
      ((s.tick dt).vboostShown mv true (decide (65000 ≤ mv))).rd (coiG R.COI_G_STATUS) :=
    State.rd_raiseEach hnone _ hpages hr' (plainPage_coi (c := 0) (by decide)) (off := R.COI_G_STATUS)
  refine ⟨_, exec_vboostLevelChange_of_ready dt mv set s hset hlo hhi hwas, ?_, ?_,
    fun c hc => State.pend_raiseEach hnone _ hpages hr' (by decide) (List.mem_range.mpr hc)⟩
  · exact (State.bit_of_rd hstatus 0).trans ((State.bit_setBit_ne _ _ 1 _ 0 (by decide) (by decide)).trans
      (State.bit_setBit _ _ 0 _ (by decide)))
  · rw [State.bit_of_rd hstatus, State.vboostShown]
    exact (Bool.eq_iff_iff.mp (State.bit_setBit _ _ 1 _ (by decide))).trans decide_eq_true_iff

/-- Settles O35. Each word of the sequencer is a row of Table 10-12; a wait ends by its happening or its time, and a sequence once its
current has decayed. -/
theorem coilsFireRunAndEnd : Obligations.CoilsFireRunAndEnd := by
  refine ⟨?fire, ?refused, ?abort, ?ends, ?words, exec_coiOp_of_not_running, exec_coiWaitExpire_of_due, ?kink, ?timeout, ?decayed,
    exec_coiCurrentDecayed_of_decay, exec_coiMinoffExpire_shows, exec_vboostLevelChange_shows⟩
  case fire => exact fun dt vi c v s _ ha hu hidle hen hfree => exec_coiFire_shows dt vi c v s ha hu hidle hen hfree
  case refused => exact fun dt vi c v s _ ha hu h => exec_coiFire_of_refused dt vi c v s ha hu h
  case abort => exact fun dt vi c v s _ ha hu hv hrun hwait => exec_coiAbort_of_running dt vi c v s ha hu hv hrun hwait
  case ends =>
    intro s c reason d hc hr hlt hne
    have hshows := s.coilShows_coiEnd c reason d hr hc hlt
    simp only [State.coilShows, Prod.mk.injEq] at hshows
    obtain ⟨hphase, hcoil, hreason⟩ := hshows
    exact ⟨by rw [hcoil], by rw [hcoil], hreason, s.pend_coiEnd c reason d hr hc hne, hphase⟩
  case words =>
    intro dt c n s s0 hs0 hn
    subst hs0
    have hn' : (s.tick dt).coiWord c % 4096 = n := hn.symm
    subst hn
    refine ⟨?_, exec_coiOpSeti_of_target dt c _ s hn', exec_coiOpSeti_of_zero dt c _ s hn', exec_coiOpSrc_of_full dt c _ s hn', ?_, ?_, ?_, ?_,
      exec_coiOpLoop_of_none dt c _ s hn', exec_coiOpLoop_of_first dt c _ s hn', exec_coiOpLoop_of_last dt c s, ?_, ?_, ?_, ?_, ?_, ?_, ?_, ?_⟩
    all_goals exact fun h => congrArg Host.Outcome.next (if_pos h)
  case kink =>
    exact fun dt c maxMv avg start stop i m s hr hc hrun hwait hdrive hblank hopen hdip =>
      exec_coiKinkDetect_shows dt c m s hrun hr hc start stop maxMv avg i hwait hdrive hblank hopen hdip
  case timeout =>
    exact fun dt c start stop m s hr hc hrun hwait hlate => exec_coiWaitkTimeout_shows dt c m s hrun hr hc start stop hwait hlate
  case decayed =>
    exact fun dt c m s hr hc hrun hwait hma hreason => exec_coiCurrentDecayed_shows dt c m s hrun hr hc hwait hma hreason

end Sys2Proof.Machine
end

section
/-! SUPPORT. Limp-home: how it begins and ends (R276 to R278). The statement on limp-home, settled (R276 to R279). -/

namespace Sys2Proof.Machine

theorem ldsG_ne {off off' : Nat} (h : off ≠ off') : ldsG off ≠ ldsG off' := rk_ne_off _ h

/-- A global register is none of those of a channel. -/
theorem ldsKey_ne_ldsG (ch : Nat) {off off' : Nat} (h : off ≠ off' := by decide) (ho : off < 4096 := by decide)
    (ho' : off' < 4096 := by decide) : ldsKey ch off ≠ ldsG off' :=
  rk_ne_of_off h ho ho'

/-! ### The event of limp-home -/

theorem State.After.lds {s t : State} {ks : List Nat} (h : s.After t ks) : t.lds = s.lds := by rw [h.1]

section
variable (s : State)

theorem mem_zero_lt : ∀ v ∈ [0], v < 1024 := by decide

theorem plainPage_lds_of_range : ∀ ch ∈ List.range 24, PlainPage (ldsPage ch) := fun _ h => plainPage_lds (List.mem_range.mp h)

section
variable (hr : s.bus.Ranged)
include hr

theorem State.limpEvent_lds : s.limpEvent.lds = s.lds :=
  (State.after_raiseEach mem_zero_lt _ plainPage_lds_of_range hr).lds

theorem State.rd_limpEvent {off : Nat} (hne : off ≠ hdrEvtPend := by decide) (ho : off < 4096 := by decide) :
    s.limpEvent.rd (ldsG off) = s.rd (ldsG off) :=
  State.rd_raiseEach mem_zero_lt _ plainPage_lds_of_range hr (plainPage_lds (ch := 0) (by decide)) hne ho

theorem State.pend_limpEvent {ch : Nat} (hch : ch < 24) : s.limpEvent.pend (ldsPage ch) 6 = true :=
  State.pend_raiseEach mem_zero_lt _ plainPage_lds_of_range hr (by decide) (List.mem_range.mpr hch)

end

end

/-! ### Beginning and end -/

/-- The channels whose demands limp-home holds, and those whose pause it keeps (R277, Table 10-4). -/
def State.limpHeld (s : State) (l : Loads) : Loads := { l with
  hold := (List.range 24).filter (fun ch => (s.ldsDemand ch).1)
  limpPause := (List.range 24).filter (fun ch => decide (s.ldsState ch = 3)) }

section
variable (s : State)

theorem State.limpBegin_of_limp (h : s.limp = true) : s.limpBegin = s := if_pos h

theorem State.limpBegin_of_not_limp (h : s.limp = false) :
    s.limpBegin = ((s.modLds s.limpHeld).setBit (ldsG R.LDS_G_STATUS) 0 true).limpEvent :=
  if_neg (Bool.eq_false_iff.mp h)

/-- Limp-home is shown and reported on every page, and leaves the other bits of LDS_G_STATUS. -/
theorem State.limpEvent_shows (hr : s.bus.Ranged) (f : Loads → Loads) (b : Bool) (t : State)
    (ht : t = ((s.modLds f).setBit (ldsG R.LDS_G_STATUS) 0 b).limpEvent) : t.limp = b ∧ t.lds = f s.lds ∧
      (∀ i, i ≠ 0 → t.bit (ldsG R.LDS_G_STATUS) i = s.bit (ldsG R.LDS_G_STATUS) i) ∧ (∀ ch, ch < 24 → t.pend (ldsPage ch) 6 = true) := by
  subst ht
  have hr' : ((s.modLds f).setBit (ldsG R.LDS_G_STATUS) 0 b).bus.Ranged := State.ranged_setBit (s.modLds f) hr _ _ _
  have hrd := State.rd_limpEvent _ hr' (off := R.LDS_G_STATUS)
  exact ⟨(State.bit_of_rd hrd 0).trans (State.bit_setBit _ _ 0 _ (by decide)), State.limpEvent_lds _ hr',
    fun i hi => (State.bit_of_rd hrd i).trans ((s.modLds f).bit_setBit_ne _ 0 b i (by decide) hi), fun ch hch => State.pend_limpEvent _ hr' hch⟩

end

/-! ### Who may write the globals (R280) -/

/-- The pages of the load channels are of the load die, and of no console section. -/
theorem Bus.pageUp_lds (b : Bus) : b.pageUp (ldsPage 0) = b.domUp 1 := by
  have hblock : blockOfPage (ldsPage 0) = some .lds := by decide
  have hdom : pwrDomain (ldsPage 0) = 1 := by decide
  have hsec : sectionOf (ldsPage 0) = none := by decide
  rw [Bus.pageUp, hblock, hdom, hsec]
  exact Bool.and_true _

/-- VI 0 has the access of an owner to the pages of the load channels (R90). -/
theorem Bus.pageAccess_lds_keeper (b : Bus) : b.pageAccess (ldsPage 0) 0 = 2 := rfl

/-- A global register of the load channels says nothing of the power of their die. -/
theorem Bus.pageUp_lds_setBit (b : Bus) (off i : Nat) (v : Bool) (ho : off < 4096 := by decide) :
    (b.setBit (ldsG off) i v).pageUp (ldsPage 0) = b.pageUp (ldsPage 0) := by
  have hne : rk (Block.pwrD.pg 1) R.PWR_D_STATUS ≠ ldsG off := rk_ne_page _ _ (by decide) (by decide) ho
  rw [Bus.pageUp_lds, Bus.pageUp_lds, Bus.domUp, Bus.domUp, Bus.domState, Bus.domState, Bus.fld, Bus.fld, b.rd_setBit_ne _ _ _ _ hne]
  rfl

section
variable (s : State) (f : State → State) (hu : s.bus.pageUp (ldsPage 0) = true)
include hu

theorem State.ldsGlobal_of_keeper : s.ldsGlobal 0 f = f s :=
  (s.guardWrite_owner 0 _ _ s.bus.pageAccess_lds_keeper hu).trans (if_pos rfl)

theorem State.ldsGlobal_of_other (vi : Nat) (hvi : vi ≠ 0) (ha : s.bus.pageAccess (ldsPage 0) vi = 2) :
    s.ldsGlobal vi f = s.on (·.denied) :=
  (s.guardWrite_owner vi _ _ ha hu).trans (if_neg hvi)

end

/-! ### The commands -/

section
variable (dt : Nat) (s : State)

/-- The tick and the input LIMP_N leave whether limp-home is on. -/
theorem State.limp_setLimpN (v : Bool) : ((s.tick dt).setBit (ldsG R.LDS_G_STATUS) 1 v).limp = s.limp :=
  (s.tick dt).bit_setBit_ne _ 1 v 0 (by decide) (by decide)

theorem exec_limpNLow_of_limp (h : s.limp = true) : exec (.limpNLow dt) s = .next ((s.tick dt).setBit (ldsG R.LDS_G_STATUS) 1 true) :=
  congrArg _ (State.limpBegin_of_limp _ ((s.limp_setLimpN dt true).trans h))

/-- LIMP_N begins limp-home, which holds the demands and the pauses of that moment (R276, R277). -/
theorem exec_limpNLow_shows (hr : s.bus.Ranged) (h : s.limp = false) : ∃ t, exec (.limpNLow dt) s = .next t ∧ t.limp = true ∧
    t.bit (ldsG R.LDS_G_STATUS) 1 = true ∧
    (∀ ch, ch ∈ t.lds.hold ↔ ch < 24 ∧ (((s.tick dt).setBit (ldsG R.LDS_G_STATUS) 1 true).ldsDemand ch).1 = true) ∧
    (∀ ch, ch ∈ t.lds.limpPause ↔ ch < 24 ∧ s.ldsState ch = 3) ∧ (∀ ch, ch < 24 → t.pend (ldsPage ch) 6 = true) := by
  have hr' := (s.tick dt).ranged_setBit hr (ldsG R.LDS_G_STATUS) 1 true
  have hstate : ∀ ch, ((s.tick dt).setBit (ldsG R.LDS_G_STATUS) 1 true).ldsState ch = s.ldsState ch := fun ch =>
    (s.tick dt).fld_setBit_ne _ 1 true _ 0 4 (ldsKey_ne_ldsG ch)
  have hbit := (s.tick dt).bit_setBit (ldsG R.LDS_G_STATUS) 1 true (by decide)
  have hexec : exec (.limpNLow dt) s = _ := congrArg Host.Outcome.next (State.limpBegin_of_not_limp _ ((s.limp_setLimpN dt true).trans h))
  generalize (s.tick dt).setBit (ldsG R.LDS_G_STATUS) 1 true = s1 at hr' hstate hbit hexec ⊢
  obtain ⟨hlimp, hlds, hother, hpend⟩ := s1.limpEvent_shows hr' s1.limpHeld true _ rfl
  refine ⟨_, hexec, hlimp, (hother 1 (by decide)).trans hbit, fun ch => ?_, fun ch => ?_, hpend⟩ <;> rw [hlds]
  · rw [State.limpHeld, List.mem_filter, List.mem_range]
  · rw [State.limpHeld, List.mem_filter, List.mem_range, decide_eq_true_iff, hstate]

theorem exec_heartbeatWrite_of_keeper (hu : s.bus.pageUp (ldsPage 0) = true)
    (hrun : s.bit (rk (Block.pwr.pg 0) R.PWR_STATUS) 16 = false) :
    exec (.heartbeatWrite dt 0) s = .next (((s.tick dt).setBit (ldsG R.LDS_G_STATUS) 2 false).arm tHeartbeat (clkMs 100)) :=
  congrArg Host.Outcome.next (((s.tick dt).ldsGlobal_of_keeper _ hu).trans (if_neg (Bool.eq_false_iff.mp hrun)))

theorem exec_heartbeatWrite_of_other (vi : Nat) (hvi : vi ≠ 0) (ha : s.bus.pageAccess (ldsPage 0) vi = 2)
    (hu : s.bus.pageUp (ldsPage 0) = true) : exec (.heartbeatWrite dt vi) s = .next ((s.tick dt).on (·.denied)) :=
  congrArg _ ((s.tick dt).ldsGlobal_of_other _ hu vi hvi ha)

section
variable (v : Nat) (hu : s.bus.pageUp (ldsPage 0) = true) (hv : bitOf 0 v = true)
include hu hv

theorem exec_limpExit_of_low :
    exec (.limpExit dt 0 v false) s = .next (((s.tick dt).setBit (ldsG R.LDS_G_STATUS) 1 true).cfgErr (ldsPage 0)) := by
  have hu' : ((s.tick dt).setBit (ldsG R.LDS_G_STATUS) 1 true).bus.pageUp (ldsPage 0) = true :=
    ((s.tick dt).bus.pageUp_lds_setBit R.LDS_G_STATUS 1 true).trans hu
  refine congrArg Host.Outcome.next ((State.ldsGlobal_of_keeper _ _ hu').trans ?_)
  rw [hv]
  rfl

theorem exec_limpExit_of_high (hrun : s.bus.running tHeartbeat = true) (hdue : (s.tick dt).due tHeartbeat = false) (h : s.limp = true) :
    exec (.limpExit dt 0 v true) s = .next ((s.tick dt).setBit (ldsG R.LDS_G_STATUS) 1 false).limpEnd := by
  have hu' : ((s.tick dt).setBit (ldsG R.LDS_G_STATUS) 1 false).bus.pageUp (ldsPage 0) = true :=
    ((s.tick dt).bus.pageUp_lds_setBit R.LDS_G_STATUS 1 false).trans hu
  have hrun' : ((s.tick dt).setBit (ldsG R.LDS_G_STATUS) 1 false).bus.running tHeartbeat = true := hrun
  have hdue' : ((s.tick dt).setBit (ldsG R.LDS_G_STATUS) 1 false).due tHeartbeat = false := hdue
  refine congrArg Host.Outcome.next ((State.ldsGlobal_of_keeper _ _ hu').trans ?_)
  rw [hv, hrun', hdue', s.limp_setLimpN dt false, h]
  rfl

end

end

/-- Settles O33. Both signals begin limp-home by `State.limpBegin`, whose holds and reports are `State.limpEvent_shows`; the command ends it
only while LIMP_N is high and the heartbeat runs. -/
theorem limpHomeBeginsHoldsAndEnds : Obligations.LimpHomeBeginsHoldsAndEnds := by
  refine ⟨exec_limpNLow_shows, exec_limpNLow_of_limp, exec_heartbeatWrite_of_keeper, ?other, ?loss, ?latch, ?idle, ?exit, ?low⟩
  case other => exact fun dt vi s hvi ha hu => exec_heartbeatWrite_of_other dt s vi hvi ha hu
  case loss => exact fun dt s hdue => congrArg Host.Outcome.next (State.onExpiry_due _ _ _ hdue)
  case latch =>
    intro dt ch s hlimp hvalid hclass hin
    exact congrArg Host.Outcome.next (if_pos ⟨hlimp, hvalid, hclass, congrArg (!·) hin⟩)
  case idle => exact fun dt ch s h => congrArg Host.Outcome.next (if_neg fun hc => Bool.false_ne_true (h.symm.trans hc.1))
  case exit =>
    intro dt v s hr hu hv hrun hdue hlimp
    have hr' := (s.tick dt).ranged_setBit hr (ldsG R.LDS_G_STATUS) 1 false
    have hbit := (s.tick dt).bit_setBit (ldsG R.LDS_G_STATUS) 1 false (by decide)
    obtain ⟨hlimp', hlds, hother, hpend⟩ := State.limpEvent_shows _ hr' (fun l => { l with hold := [], limpPause := [] }) false _ rfl
    exact ⟨_, exec_limpExit_of_high dt s v hu hv hrun hdue hlimp, hlimp', congrArg Loads.hold hlds, (hother 1 (by decide)).trans hbit, hpend⟩
  case low => exact fun dt v s hu hv => exec_limpExit_of_low dt s v hu hv

end Sys2Proof.Machine
end

section
/-! SUPPORT. Switch inputs and encoders by command and outcome (R282 to R289, R496, Table 10-10). The statement on them, settled. -/

namespace Sys2Proof.Machine

/-! ### Switch inputs (R282 to R285, R496) -/

theorem switchLevel_supply (mv : Int) (prev : Bool) :
    switchLevel true mv prev = if 10000 < mv then true else if mv < 7000 then false else prev := rfl

theorem switchLevel_ground (mv : Int) (prev : Bool) :
    switchLevel false mv prev = if mv < 4000 then true else if 7000 < mv then false else prev := rfl

/-- A sample is closed or open outside the thresholds of its input's kind, and between them as the one before (R496). -/
theorem switchLevel_cases (prev : Bool) (mv : Int) : (10000 < mv → switchLevel true mv prev = true) ∧
    (mv < 7000 → switchLevel true mv prev = false) ∧ (7000 ≤ mv → mv ≤ 10000 → switchLevel true mv prev = prev) ∧
    (mv < 4000 → switchLevel false mv prev = true) ∧ (7000 < mv → switchLevel false mv prev = false) ∧
    (4000 ≤ mv → mv ≤ 7000 → switchLevel false mv prev = prev) := by
  simp only [switchLevel_supply, switchLevel_ground]
  refine ⟨fun h => if_pos h, fun h => ?_, fun hlo hhi => ?_, fun h => if_pos h, fun h => ?_, fun hlo hhi => ?_⟩
  · rw [if_neg (by omega), if_pos h]
  · rw [if_neg (Int.not_lt.mpr hhi), if_neg (Int.not_lt.mpr hlo)]
  · rw [if_neg (by omega), if_pos h]
  · rw [if_neg (Int.not_lt.mpr hlo), if_neg (Int.not_lt.mpr hhi)]

section
variable (dt vf : Nat) (mv : List Int) (s : State)

theorem exec_swiSample_of_on (hen : s.pageEn swiPage = true) (hu : s.bus.pageUp swiPage = true) :
    exec (.swiSample dt mv vf) s = .next ((s.tick dt).swiInputs vf (s.tick dt).bus.w250 none (mv.take 64) 0) :=
  congrArg _ (if_pos ⟨hen, hu⟩)

theorem exec_swiSample_of_off (hen : s.pageEn swiPage = false) : exec (.swiSample dt mv vf) s = .next (s.tick dt) :=
  congrArg Host.Outcome.next (if_neg fun h => Bool.false_ne_true (hen.symm.trans h.1))

theorem exec_swiWatchSample_of_off (hen : s.pageEn swiPage = false) : exec (.swiWatchSample dt mv vf) s = .next (s.tick dt) :=
  congrArg Host.Outcome.next (if_neg fun h => Bool.false_ne_true (hen.symm.trans h.1))

theorem exec_swiWatchSample_of_watch (s1 : State) (hen : s.pageEn swiPage = true) (hwatch : s.bus.inWatch 16 = true)
    (hs1 : s1 = (s.tick dt).swiInputs vf (aonStamp (s.tick dt).bus.w250) (some 2) (mv.take 64) 0) : exec (.swiWatchSample dt mv vf) s =
      .next (if s1.swiWakes then (((s1.raise swiPage 2).sectionWake 16).wake 5).localWakes else s1) := by
  subst hs1
  exact congrArg Host.Outcome.next (if_pos ⟨hen, .inl hwatch⟩)

end

section
variable (s : State) (i vf n stamp : Nat) (mv : Int) (hen : s.bit (swiCfg i) 0 = true)
include hen

theorem State.swiInput_of_invalid (h : mv < -500 ∨ (vf : Int) + 500 < mv) : s.swiInput i mv vf n stamp = s.swiInvalid i := by
  have hinv : switchInvalid mv vf = true := by simpa [switchInvalid] using h
  rw [State.swiInput, hen, hinv]
  rfl

/-- A sample that differs from the debounced level, before its last, is counted with the stamp of the first (R283). -/
theorem State.swiInput_of_counting (c st : Nat) (lv : Bool) (hlo : -500 ≤ mv) (hhi : mv ≤ (vf : Int) + 500)
    (hlv : lv = switchLevel (s.bit (swiCfg i) 1) mv (s.swi.sample.find false i)) (hne : lv ≠ s.swi.level.find false i)
    (hagree : s.swi.agree.find? i = some (c, st)) (hshort : c + 1 < n) : s.swiInput i mv vf n stamp =
      (s.setSwiBit R.SWI_FAULT_LO i false).modSwi
        (fun w => { w with sample := w.sample.put false i lv, agree := w.agree.set i (c + 1, st) }) := by
  have hvalid : switchInvalid mv vf = false := by simp [switchInvalid, hlo, hhi]
  rw [State.swiInput, hen, hvalid, ← hlv, hagree]
  exact (if_neg hne).trans (if_neg (Nat.not_le.mpr hshort))

end

section
variable (s : State) (vi page value : Nat) (f : State → State) (hu : s.bus.pageUp page = true)
include hu

theorem State.readBy_owner (ha : s.bus.pageAccess page vi = 2) : s.readBy vi page value f = f (s.emit (.readData vi value)) := by
  simp [State.readBy, ha, hu]

theorem State.readBy_reader (ha : s.bus.pageAccess page vi = 1) : s.readBy vi page value f = s.emit (.readData vi value) := by
  simp [State.readBy, ha, hu]

end

/-- The owner takes the head of the queue, and its stamp is kept (R284). -/
theorem exec_swiQueuePop_of_owner (dt vi : Nat) (s : State) (e : SwiEntry) (rest : List SwiEntry)
    (ha : s.bus.pageAccess swiPage vi = 2) (hu : s.bus.pageUp swiPage = true) (hq : s.swi.queue = e :: rest) :
    exec (.swiQueuePop dt vi) s = .next (((s.tick dt).emit (.readData vi (e.input + b2n e.level * 64 + 2 ^ 31))).modSwi
      (fun w => { w with queue := rest, snap := e.stamp })) := by
  have hq' : (s.tick dt).swi.queue = e :: rest := hq
  have hhead : (s.tick dt).swiHead = e.input + b2n e.level * 64 + 2 ^ 31 := by
    rw [State.swiHead, hq']
  refine congrArg Host.Outcome.next (((s.tick dt).readBy_owner vi swiPage _ _ hu ha).trans ?_)
  rw [hhead, State.emit_swi, hq']

theorem exec_swiQueuePop_of_reader (dt vi : Nat) (s : State) (ha : s.bus.pageAccess swiPage vi = 1) (hu : s.bus.pageUp swiPage = true) :
    exec (.swiQueuePop dt vi) s = .next ((s.tick dt).emit (.readData vi s.swiHead)) :=
  congrArg Host.Outcome.next ((s.tick dt).readBy_reader vi swiPage _ _ hu ha)

/-! ### Encoders (R287 to R289) -/

theorem encKey_ne (e : Nat) {off off' : Nat} (h : off ≠ off') : encKey e off ≠ encKey e off' := rk_ne_off _ h

theorem signedOf_ne_zero (w v : Nat) (h : v % 2 ^ w ≠ 0) : signedOf w v ≠ 0 := by
  have hlt := Nat.mod_lt v (Nat.two_pow_pos w)
  unfold signedOf
  split <;> omega

/-- A step there and back counts to nothing, on either channel. -/
theorem quadrature_antisymm (a b : Bool) : quadrature a b a b = 0 ∧ quadrature a b a (!b) = - quadrature a (!b) a b ∧
    quadrature a b (!a) b = - quadrature (!a) b a b := by
  revert a b
  decide

/-- The accepted levels of A and B are shown. -/
def State.encLevels (s : State) (e : Nat) (a b : Bool) : State := (s.setBit (encKey e R.ENC_STATUS) 3 a).setBit (encKey e R.ENC_STATUS) 4 b

section
variable (s : State) (e : Nat) (a b : Bool)

theorem State.bit_encLevels : (s.encLevels e a b).bit (encKey e R.ENC_STATUS) 3 = a ∧ (s.encLevels e a b).bit (encKey e R.ENC_STATUS) 4 = b :=
  ⟨(State.bit_setBit_ne _ _ 4 b 3 (by decide) (by decide)).trans (State.bit_setBit _ _ 3 a (by decide)), State.bit_setBit _ _ 4 b (by decide)⟩

theorem State.rd_encLevels_ne {off : Nat} (h : off ≠ R.ENC_STATUS) : (s.encLevels e a b).rd (encKey e off) = s.rd (encKey e off) :=
  (State.rd_setBit_ne _ _ 4 b _ (encKey_ne e h)).trans (s.rd_setBit_ne _ 3 a _ (encKey_ne e h))

theorem State.encLevels_ranged (hr : s.bus.Ranged) : (s.encLevels e a b).bus.Ranged :=
  State.ranged_setBit _ (s.ranged_setBit hr (encKey e R.ENC_STATUS) 3 a) (encKey e R.ENC_STATUS) 4 b

theorem State.after_encLevels (ks : List Nat) (h : encKey e R.ENC_STATUS ∈ ks) : s.After (s.encLevels e a b) ks :=
  ((State.After.refl _ _).setBit _ 3 a h).setBit _ 4 b h

end

section
variable (dt e : Nat) (a b : Bool) (s : State) (hen : s.pageEn (encPage e) = true) (hu : s.bus.pageUp (encPage e) = true)
include hen hu

theorem exec_encEdge_of_step (h : s.bit (encKey e R.ENC_STATUS) 3 = a ∨ s.bit (encKey e R.ENC_STATUS) 4 = b) (d : Int)
    (hd : d = quadrature (s.bit (encKey e R.ENC_STATUS) 3) (s.bit (encKey e R.ENC_STATUS) 4) a b) : exec (.encEdge dt e a b) s =
      .next (((s.tick dt).encLevels e a b).encCount e (if s.bit (encKey e R.ENC_CTRL) 1 then -d else d)) := by
  subst hd
  exact congrArg Host.Outcome.next ((if_pos ⟨hen, hu⟩).trans (if_neg fun hboth => h.elim (fun h => hboth.1 h.symm) (fun h => hboth.2 h.symm)))

/-- An edge on one channel moves the count (R287). -/
theorem exec_encEdge_step_shows (h : s.bit (encKey e R.ENC_STATUS) 3 = a ∨ s.bit (encKey e R.ENC_STATUS) 4 = b) (d : Int)
    (hd : d = quadrature (s.bit (encKey e R.ENC_STATUS) 3) (s.bit (encKey e R.ENC_STATUS) 4) a b) :
    ∃ t, exec (.encEdge dt e a b) s = .next t ∧
      t.rd (encKey e R.ENC_POS) = ofSigned 32 (signedOf 32 (s.rd (encKey e R.ENC_POS)) + (if s.bit (encKey e R.ENC_CTRL) 1 then -d else d)) ∧
      t.bit (encKey e R.ENC_STATUS) 3 = a ∧ t.bit (encKey e R.ENC_STATUS) 4 = b ∧
      (s.tick dt).After t [encKey e R.ENC_STATUS, encKey e R.ENC_POS] := by
  obtain ⟨ha, hb⟩ := (s.tick dt).bit_encLevels e a b
  refine ⟨_, exec_encEdge_of_step dt e a b s hen hu h d hd, ?_, ?_, ?_,
    ((s.tick dt).after_encLevels e a b _ (by simp)).wr _ _ (by simp)⟩
  · rw [State.encCount, State.rd_wr, State.rd_encLevels_ne _ _ _ _ (by decide), Nat.mod_eq_of_lt (ofSigned_lt 32 _)]
    rfl
  · exact (State.bit_of_rd (State.rd_wr_ne _ _ _ _ (encKey_ne e (by decide))) 3).trans ha
  · exact (State.bit_of_rd (State.rd_wr_ne _ _ _ _ (encKey_ne e (by decide))) 4).trans hb

/-- A step on both channels before its event: counted and flagged. -/
def State.encBoth (s : State) (e : Nat) : State := (s.addSat (encKey e R.ENC_CNT_QERR) 1).setBit (encKey e R.ENC_STATUS) 2 true

theorem exec_encEdge_of_both (ha : s.bit (encKey e R.ENC_STATUS) 3 ≠ a) (hb : s.bit (encKey e R.ENC_STATUS) 4 ≠ b) :
    exec (.encEdge dt e a b) s = .next ((((s.tick dt).encLevels e a b).encBoth e).raise (encPage e) 2) :=
  congrArg Host.Outcome.next ((if_pos ⟨hen, hu⟩).trans (if_pos ⟨ha.symm, hb.symm⟩))

/-- A step on both channels is flagged, counted and reported (R289). -/
theorem exec_encEdge_both_shows (hr : s.bus.Ranged) (he : e < 8) (ha : s.bit (encKey e R.ENC_STATUS) 3 ≠ a)
    (hb : s.bit (encKey e R.ENC_STATUS) 4 ≠ b) : ∃ t, exec (.encEdge dt e a b) s = .next t ∧
      t.bit (encKey e R.ENC_STATUS) 2 = true ∧ t.pend (encPage e) 2 = true ∧
      t.rd (encKey e R.ENC_CNT_QERR) = min (s.rd (encKey e R.ENC_CNT_QERR) + 1) 0xFFFFFFFF ∧
      (s.tick dt).After t [encKey e R.ENC_STATUS, encKey e R.ENC_CNT_QERR, pendKey (encPage e)] := by
  have hp := plainPage_enc he
  have hlevels := (s.tick dt).after_encLevels e a b [encKey e R.ENC_STATUS, encKey e R.ENC_CNT_QERR, pendKey (encPage e)] (by simp)
  have hcount : ((s.tick dt).encLevels e a b).rd (encKey e R.ENC_CNT_QERR) = s.rd (encKey e R.ENC_CNT_QERR) :=
    (s.tick dt).rd_encLevels_ne e a b (by decide)
  have hexec := exec_encEdge_of_both dt e a b s hen hu ha hb
  have hr1 := (s.tick dt).encLevels_ranged e a b hr
  generalize (s.tick dt).encLevels e a b = s1 at hlevels hcount hexec hr1
  have hr2 : (s1.encBoth e).bus.Ranged :=
    State.ranged_setBit (s1.addSat (encKey e R.ENC_CNT_QERR) 1) (hr1.wr _ _) (encKey e R.ENC_STATUS) 2 true
  have hrd : ∀ {off}, off ≠ hdrEvtPend → off < 4096 → ((s1.encBoth e).raise (encPage e) 2).rd (encKey e off) =
      (s1.encBoth e).rd (encKey e off) :=
    fun hne ho => hp.rd_raise hp hr2 2 hne ho
  refine ⟨_, hexec, ?_, hp.pend_raise hr2 2 (by decide), ?_,
    ((hlevels.addSat _ 1 (by simp)).setBit _ 2 true (by simp)).raise hr _ 2 hp.entryGranted (by simp)⟩
  · exact (State.bit_of_rd (hrd (by decide) (by decide)) 2).trans (State.bit_setBit _ _ 2 true (by decide))
  · rw [hrd (by decide) (by decide), State.encBoth, State.rd_setBit_ne _ _ _ _ _ (encKey_ne e (by decide)), State.rd_addSat, hcount]

/-- An active index is shown, counted and reported, and judged against ENC_PPR. -/
theorem exec_encIndex_of_active (hedge : s.bit (encKey e R.ENC_CTRL) 3 = true) (hany : s.bit (encKey e R.ENC_CTRL) 9 = false) (s1 : State)
    (hs1 : s1 = ((s.tick dt).setBit (encKey e R.ENC_STATUS) 5 (!s.bit (encKey e R.ENC_CTRL) 8)).addWrap (encKey e R.ENC_CNT_INDEX) 1) :
    exec (.encIndex dt e) s = .next ((s1.raise (encPage e) 0).encIndex e) := by
  subst hs1
  exact congrArg Host.Outcome.next ((if_pos ⟨hen, hu⟩).trans (if_pos ⟨hedge, .inl (congrArg (!·) hany)⟩))

end

section
variable (s : State) (e : Nat)

/-- The first index gives the reference (Table 10-10). -/
theorem State.encIndex_of_first (h : s.bit (encKey e R.ENC_STATUS) 0 = false) :
    s.encIndex e = (s.wr (encKey e R.ENC_IDX_POS) (s.rd (encKey e R.ENC_POS))).setBit (encKey e R.ENC_STATUS) 0 true := by
  rw [State.encIndex, h]
  rfl

/-- An index off its place, before the new reference is taken. -/
def State.encMissed (s : State) (e : Nat) (d : Int) : State :=
  ((s.wr (encKey e R.ENC_MISMATCH) (ofSigned 32 d)).setBit (encKey e R.ENC_STATUS) 1 true).raise (encPage e) 1

section
variable (d : Int) (hd : d = signedOf 32 (s.rd (encKey e R.ENC_POS) + 2 ^ 32 - s.rd (encKey e R.ENC_IDX_POS)))
include hd

theorem State.encIndex_of_missed (href : s.bit (encKey e R.ENC_STATUS) 0 = true) (hppr : s.fld (encKey e R.ENC_PPR) 0 24 ≠ 0) (hne : d ≠ 0)
    (hoff : d.natAbs ≠ s.fld (encKey e R.ENC_PPR) 0 24) (hkeep : s.bit (encKey e R.ENC_CTRL) 0 = false) :
    s.encIndex e = ((s.encMissed e d).addSat (encKey e R.ENC_CNT_MISMATCH) 1).encIdx e (s.rd (encKey e R.ENC_POS)) := by
  subst hd
  rw [State.encIndex, href]
  refine (if_neg Bool.false_ne_true).trans ((if_neg hne).trans ((if_neg (not_or.mpr ⟨hppr, hoff⟩)).trans ?_))
  rw [hkeep]
  rfl

end

/-- An index off its place is flagged, counted and reported, and is the new reference (R288). -/
theorem State.encIndex_missed_shows (hr : s.bus.Ranged) (he : e < 8) (href : s.bit (encKey e R.ENC_STATUS) 0 = true)
    (hppr : s.fld (encKey e R.ENC_PPR) 0 24 ≠ 0) (hmoved : s.rd (encKey e R.ENC_POS) ≠ s.rd (encKey e R.ENC_IDX_POS))
    (hoff : (signedOf 32 (s.rd (encKey e R.ENC_POS) + 2 ^ 32 - s.rd (encKey e R.ENC_IDX_POS))).natAbs ≠ s.fld (encKey e R.ENC_PPR) 0 24)
    (hkeep : s.bit (encKey e R.ENC_CTRL) 0 = false) :
    (s.encIndex e).bit (encKey e R.ENC_STATUS) 1 = true ∧ (s.encIndex e).pend (encPage e) 1 = true ∧
    (s.encIndex e).rd (encKey e R.ENC_IDX_POS) = s.rd (encKey e R.ENC_POS) ∧
    (s.encIndex e).rd (encKey e R.ENC_POS) = s.rd (encKey e R.ENC_POS) ∧
    (s.encIndex e).rd (encKey e R.ENC_CNT_MISMATCH) = min (s.rd (encKey e R.ENC_CNT_MISMATCH) + 1) 0xFFFFFFFF := by
  have hp := plainPage_enc he
  have hpos : s.rd (encKey e R.ENC_POS) < 2 ^ 32 := s.bus.rd_lt _
  have hidx : s.rd (encKey e R.ENC_IDX_POS) < 2 ^ 32 := s.bus.rd_lt _
  rw [s.encIndex_of_missed e _ rfl href hppr (signedOf_ne_zero _ _ (by omega)) hoff hkeep]
  generalize signedOf 32 (s.rd (encKey e R.ENC_POS) + 2 ^ 32 - s.rd (encKey e R.ENC_IDX_POS)) = d
  have hr1 : ((s.wr (encKey e R.ENC_MISMATCH) (ofSigned 32 d)).setBit (encKey e R.ENC_STATUS) 1 true).bus.Ranged :=
    State.ranged_setBit _ (s.ranged_wr hr (encKey e R.ENC_MISMATCH) (ofSigned 32 d)) _ _ _
  have hflag : (s.encMissed e d).bit (encKey e R.ENC_STATUS) 1 = true :=
    (State.bit_of_rd (hp.rd_raise hp hr1 1) 1).trans (State.bit_setBit _ _ 1 true (by decide))
  have hpend : (s.encMissed e d).pend (encPage e) 1 = true := hp.pend_raise hr1 1 (by decide)
  have hrd : ∀ off, off ≠ R.ENC_STATUS → off ≠ R.ENC_MISMATCH → off ≠ hdrEvtPend → off < 4096 →
      (s.encMissed e d).rd (encKey e off) = s.rd (encKey e off) := fun off h1 h2 hne ho =>
    (hp.rd_raise hp hr1 1 hne ho).trans ((State.rd_setBit_ne _ _ 1 true _ (encKey_ne e h1)).trans (s.rd_wr_ne _ _ _ (encKey_ne e h2)))
  have hrest : ∀ off, off ≠ R.ENC_IDX_POS → off ≠ R.ENC_CNT_MISMATCH →
      (((s.encMissed e d).addSat (encKey e R.ENC_CNT_MISMATCH) 1).encIdx e (s.rd (encKey e R.ENC_POS))).rd (encKey e off) =
        (s.encMissed e d).rd (encKey e off) := fun off h1 h2 =>
    (State.rd_wr_ne _ _ _ _ (encKey_ne e h1)).trans (State.rd_addSat_ne _ _ _ _ (encKey_ne e h2))
  refine ⟨(State.bit_of_rd (hrest _ (by decide) (by decide)) 1).trans hflag,
    (State.bit_of_rd (hrest hdrEvtPend (by decide) (by decide)) 1).trans hpend, ?_, ?_, ?_⟩
  · rw [State.encIdx, State.rd_wr, Nat.mod_eq_of_lt hpos]
  · rw [hrest _ (by decide) (by decide), hrd _ (by decide) (by decide) (by decide) (by decide)]
  · rw [State.encIdx, State.rd_wr_ne _ _ _ _ (encKey_ne e (by decide)), State.rd_addSat,
      hrd _ (by decide) (by decide) (by decide) (by decide)]

/-- A write of ENC_POS sets the count and clears REF (R287). -/
theorem exec_encPosWrite_shows (dt vi v : Nat) (ha : s.bus.pageAccess (encPage e) vi = 2) (hu : s.bus.pageUp (encPage e) = true) :
    ∃ t, exec (.encPosWrite dt vi e v) s = .next t ∧ t.rd (encKey e R.ENC_POS) = v % 2 ^ 32 ∧ t.bit (encKey e R.ENC_STATUS) 0 = false ∧
      (s.tick dt).After t [encKey e R.ENC_POS, encKey e R.ENC_STATUS] := by
  refine ⟨_, congrArg Host.Outcome.next ((s.tick dt).guardWrite_owner vi _ _ ha hu), ?_, State.bit_setBit _ _ 0 false (by decide),
    ((State.After.refl _ _).wr _ v (by simp)).setBit _ 0 false (by simp)⟩
  rw [State.rd_setBit_ne _ _ _ _ _ (encKey_ne e (by decide)), State.rd_wr]

end

/-- Settles O34. An input's sample is one of the branches of `State.swiInput`; an edge moves the count by `quadrature` or is an error; an
index is one of the rows of Table 10-10. -/
theorem switchesAndEncodersAreRead : Obligations.SwitchesAndEncodersAreRead := by
  refine ⟨switchLevel_cases, ?sample, ?off, ?watch, ?invalid, ?counting, ?pop, exec_swiQueuePop_of_reader, ?edge, ?both, quadrature_antisymm,
    ?index, State.encIndex_of_first, State.encIndex_missed_shows, ?write⟩
  case sample => exact fun dt vf mv s hen hu => exec_swiSample_of_on dt vf mv s hen hu
  case off => exact fun dt vf mv s hen => ⟨exec_swiSample_of_off dt vf mv s hen, exec_swiWatchSample_of_off dt vf mv s hen⟩
  case watch => exact fun dt vf mv s s1 hen hwatch hs1 => exec_swiWatchSample_of_watch dt vf mv s s1 hen hwatch hs1
  case invalid => exact fun s i vf n stamp mv hen h => s.swiInput_of_invalid i vf n stamp mv hen h
  case counting =>
    intro s i vf n stamp c st mv lv hen hlo hhi hlv hne hagree hshort
    rw [s.swiInput_of_counting i vf n stamp mv hen c st lv hlo hhi hlv hne hagree hshort]
    exact ⟨SMap.find?_set _ _ _, rfl, rfl⟩
  case pop => exact fun dt vi s e rest ha hu hq => ⟨_, exec_swiQueuePop_of_owner dt vi s e rest ha hu hq, rfl, rfl, rfl⟩
  case edge => exact fun dt e a b d s hen hu h hd => exec_encEdge_step_shows dt e a b s hen hu h d hd
  case both => exact fun dt e a b s hr he hen hu ha hb => exec_encEdge_both_shows dt e a b s hen hu hr he ha hb
  case index => exact fun dt e s s1 hen hu hedge hany hs1 => exec_encIndex_of_active dt e s hen hu hedge hany s1 hs1
  case write => exact fun dt vi e v s ha hu => exec_encPosWrite_shows s e dt vi v ha hu

end Sys2Proof.Machine
end

section
/-! SUPPORT. The field supply: the aggregate limit, undervoltage and the return of the loads (R273, R274, R298). The statement on load channels
and their supply, settled. -/

namespace Sys2Proof.Machine

/-! ### Shedding (R273) -/

/-- A channel in INRUSH or ON. -/
def State.ldsActive (s : State) (ch : Nat) : Prop := s.ldsState ch = 1 ∨ s.ldsState ch = 2

/-- PRIO of a channel. -/
def State.ldsPrio (s : State) (ch : Nat) : Nat := s.fld (ldsKey ch R.LDS_CFG) 18 4

/-- Of the channels below `n` that are active, `b` is the one to shed: the lowest PRIO, and among equals the highest number. -/
structure State.ShedFirst (s : State) (n b : Nat) : Prop where
  lt : b < n
  active : s.ldsActive b
  first : ∀ c, c < n → s.ldsActive c → s.ldsPrio b < s.ldsPrio c ∨ (s.ldsPrio b = s.ldsPrio c ∧ c ≤ b)

/-- One channel is weighed against the choice so far. -/
def State.shedWeigh (s : State) (best : Option Nat) (ch : Nat) : Option Nat :=
  if s.ldsState ch = 1 ∨ s.ldsState ch = 2 then
    match best with
    | none => some ch
    | some b => if s.ldsPrio ch ≤ s.ldsPrio b then some ch else some b
  else best

theorem State.shedChoice_eq (s : State) : s.shedChoice = (List.range 24).foldl s.shedWeigh none := rfl

/-- What the choice among the channels below `n` means. -/
def State.ShedAmong (s : State) (n : Nat) : Option Nat → Prop
  | none => ∀ c, c < n → ¬ s.ldsActive c
  | some b => s.ShedFirst n b

section
variable {s : State} {n : Nat}

theorem State.ShedFirst.of_weaker {b : Nat} (h : s.ShedFirst n b) (hact : s.ldsActive n) (hle : s.ldsPrio n ≤ s.ldsPrio b) :
    s.ShedFirst (n + 1) n := by
  refine ⟨Nat.lt_succ_self n, hact, fun c hc hcact => ?_⟩
  by_cases hcn : c = n
  · exact .inr ⟨hcn ▸ rfl, hcn.le⟩
  · have hlt := Nat.lt_of_le_of_ne (Nat.lt_succ_iff.mp hc) hcn
    have := h.first c hlt hcact
    omega

theorem State.ShedFirst.keep {b : Nat} (h : s.ShedFirst n b) (hkeep : s.ldsActive n → s.ldsPrio b < s.ldsPrio n) : s.ShedFirst (n + 1) b := by
  refine ⟨Nat.lt_succ_of_lt h.lt, h.active, fun c hc hcact => ?_⟩
  by_cases hcn : c = n
  · subst hcn
    exact .inl (hkeep hcact)
  · exact h.first c (Nat.lt_of_le_of_ne (Nat.lt_succ_iff.mp hc) hcn) hcact

theorem State.ShedAmong.weigh {best : Option Nat} (h : s.ShedAmong n best) : s.ShedAmong (n + 1) (s.shedWeigh best n) := by
  unfold State.shedWeigh
  by_cases hact : s.ldsState n = 1 ∨ s.ldsState n = 2
  · rw [if_pos hact]
    cases best with
    | none =>
      refine ⟨Nat.lt_succ_self n, hact, fun c hc hcact => ?_⟩
      by_cases hcn : c = n
      · exact .inr ⟨hcn ▸ rfl, hcn.le⟩
      · exact absurd hcact (h c (Nat.lt_of_le_of_ne (Nat.lt_succ_iff.mp hc) hcn))
    | some b =>
      dsimp only
      split
      · next hle => exact State.ShedFirst.of_weaker h hact hle
      · next hgt => exact State.ShedFirst.keep h fun _ => Nat.not_le.mp hgt
  · rw [if_neg hact]
    cases best with
    | none =>
      intro c hc
      by_cases hcn : c = n
      · exact hcn ▸ hact
      · exact h c (Nat.lt_of_le_of_ne (Nat.lt_succ_iff.mp hc) hcn)
    | some b => exact State.ShedFirst.keep h fun hn => absurd hn hact

end

theorem State.shedAmong_foldl (s : State) (n : Nat) : s.ShedAmong n ((List.range n).foldl s.shedWeigh none) := by
  induction n with
  | zero => exact fun c hc => absurd hc (Nat.not_lt_zero c)
  | succ n ih =>
    rw [List.range_succ, List.foldl_append]
    exact ih.weigh

theorem State.shedFirst_of_choice (s : State) (ch : Nat) (h : s.shedChoice = some ch) : s.ShedFirst 24 ch := by
  have hfold := s.shedAmong_foldl 24
  rw [← State.shedChoice_eq, h] at hfold
  exact hfold

/-- The choice rests on STATE and PRIO of the channels. -/
theorem State.shedChoice_congr {s t : State} (hstate : ∀ ch, t.ldsState ch = s.ldsState ch) (hprio : ∀ ch, t.ldsPrio ch = s.ldsPrio ch) :
    t.shedChoice = s.shedChoice := by
  have hweigh : t.shedWeigh = s.shedWeigh := by
    funext best ch
    simp only [State.shedWeigh, hstate, hprio]
  rw [State.shedChoice_eq, State.shedChoice_eq, hweigh]

/-! ### The aggregate limit (R273) -/

/-- The aggregate as measured, and whether it is above its limit. -/
def State.aggShown (s : State) (total : Nat) (high : Bool) : State :=
  (s.wr (ldsG R.LDS_G_ITOTAL) (min total 65535)).setBit (ldsG R.LDS_G_STATUS) 4 high

/-- A channel that the aggregate limit sheds: LATCHED, with AGG. -/
def State.ldsShed (s : State) (ch : Nat) : State := ((s.ldsLatch ch).setBit (ldsKey ch R.LDS_STATUS) 7 true).raise (ldsPage ch) 5

section
variable (s : State) (total : Nat)

/-- The aggregate writes no register of a channel. -/
theorem State.rd_aggShown (high : Bool) (ch : Nat) {off : Nat} (h1 : off ≠ R.LDS_G_ITOTAL := by decide)
    (h2 : off ≠ R.LDS_G_STATUS := by decide) (ho : off < 4096 := by decide) :
    (s.aggShown total high).rd (ldsKey ch off) = s.rd (ldsKey ch off) :=
  (State.rd_setBit_ne _ _ 4 high _ (ldsKey_ne_ldsG ch h2 ho)).trans (s.rd_wr_ne _ _ _ (ldsKey_ne_ldsG ch h1 ho))

theorem State.shedChoice_aggShown (high : Bool) : (s.aggShown total high).shedChoice = s.shedChoice :=
  State.shedChoice_congr (fun ch => State.fld_of_rd (s.rd_aggShown total high ch) 0 4)
    (fun ch => State.fld_of_rd (s.rd_aggShown total high ch) 18 4)

theorem State.aggLimit_wr : (s.wr (ldsG R.LDS_G_ITOTAL) (min total 65535)).fld (ldsG R.LDS_G_AGG) 0 12 = s.fld (ldsG R.LDS_G_AGG) 0 12 :=
  State.fld_of_rd (s.rd_wr_ne _ _ _ (ldsG_ne (by decide))) 0 12

variable (dt : Nat)

theorem exec_ldsAggregateCheck_of_low (h : total ≤ s.fld (ldsG R.LDS_G_AGG) 0 12) :
    exec (.ldsAggregateCheck dt total) s = .next ((s.tick dt).aggShown total false) := by
  have hlow : decide (((s.tick dt).wr (ldsG R.LDS_G_ITOTAL) (min total 65535)).fld (ldsG R.LDS_G_AGG) 0 12 < total) = false := by
    rw [State.aggLimit_wr]
    exact decide_eq_false (Nat.not_lt.mpr h)
  refine congrArg Host.Outcome.next ?_
  rw [hlow]
  rfl

theorem exec_ldsAggregateCheck_of_high (ch : Nat) (h : s.fld (ldsG R.LDS_G_AGG) 0 12 < total) (hch : s.shedChoice = some ch) :
    exec (.ldsAggregateCheck dt total) s = .next (((s.tick dt).aggShown total true).ldsShed ch) := by
  have hhigh : decide (((s.tick dt).wr (ldsG R.LDS_G_ITOTAL) (min total 65535)).fld (ldsG R.LDS_G_AGG) 0 12 < total) = true := by
    rw [State.aggLimit_wr]
    exact decide_eq_true h
  have hchoice : ((s.tick dt).aggShown total true).shedChoice = some ch := ((s.tick dt).shedChoice_aggShown total true).trans hch
  refine congrArg Host.Outcome.next ?_
  rw [hhigh, if_pos rfl, ← State.aggShown, hchoice]
  rfl

end

theorem exec_ldsAggregateCheck_low_shows (dt total : Nat) (s : State) (h : total ≤ s.fld (ldsG R.LDS_G_AGG) 0 12) :
    ∃ t, exec (.ldsAggregateCheck dt total) s = .next t ∧ t.rd (ldsG R.LDS_G_ITOTAL) = min total 65535 ∧
      t.bit (ldsG R.LDS_G_STATUS) 4 = false ∧ (s.tick dt).After t [ldsG R.LDS_G_ITOTAL, ldsG R.LDS_G_STATUS] := by
  refine ⟨_, exec_ldsAggregateCheck_of_low s total dt h, ?_, State.bit_setBit _ _ 4 false (by decide),
    ((State.After.refl _ _).wr _ _ (by simp)).setBit _ 4 false (by simp)⟩
  rw [State.aggShown, State.rd_setBit_ne _ _ _ _ _ (ldsG_ne (by decide)), State.rd_wr]
  omega

section
variable (s : State) (ch : Nat) (hr : s.bus.Ranged) (hch : ch < 24)
include hr hch

/-- Shedding latches the channel with AGG, reports both, and leaves the other channels. -/
theorem State.ldsShed_shows : (s.ldsShed ch).ldsState ch = 4 ∧ (s.ldsShed ch).bit (ldsKey ch R.LDS_STATUS) 7 = true ∧
    (s.ldsShed ch).bit (ldsKey ch R.LDS_STATUS) 4 = false ∧ (s.ldsShed ch).pend (ldsPage ch) 5 = true ∧
    (s.ldsShed ch).pend (ldsPage ch) 1 = true ∧ (∀ c, c < 24 → c ≠ ch → (s.ldsShed ch).ldsState c = s.ldsState c) := by
  have hp := plainPage_lds hch
  have hr1 := s.ranged_ldsEnter ch 4 hr
  have hlatch := s.ldsShows_ldsLatch ch hr hch
  have hpend : (s.ldsLatch ch).pend (ldsPage ch) 1 = true := hp.pend_raise hr1 1 (by decide)
  have hr2 : (s.ldsLatch ch).bus.Ranged := hp.ranged_raise hr1 1
  have hother : ∀ c, c < 24 → c ≠ ch → (s.ldsLatch ch).rd (ldsKey c R.LDS_STATUS) = s.rd (ldsKey c R.LDS_STATUS) := fun c hc hne =>
    (State.rd_raiseLds _ ch hr1 hch 1 c hc).trans (s.rd_ldsEnter_ne ch 4 _ (ldsKey_ne_channel hne _ _))
  simp only [State.ldsShows, Prod.mk.injEq] at hlatch
  unfold State.ldsShed
  generalize s.ldsLatch ch = s2 at hlatch hpend hr2 hother
  obtain ⟨hstate, hout, -⟩ := hlatch
  have hr3 := s2.ranged_setBit hr2 (ldsKey ch R.LDS_STATUS) 7 true
  have hrd := State.rd_raiseLds _ ch hr3 hch 5 ch hch (off := R.LDS_STATUS)
  refine ⟨?_, ?_, ?_, hp.pend_raise hr3 5 (by decide), hp.pend_raise_of_pend hr3 5 (by decide) ?_, fun c hc hne => ?_⟩
  · exact ((State.fld_of_rd hrd 0 4).trans (s2.fld_setBit_of_disjoint _ 7 true 0 4 (by decide) (by decide))).trans hstate
  · exact (State.bit_of_rd hrd 7).trans (s2.bit_setBit _ 7 true (by decide))
  · exact ((State.bit_of_rd hrd 4).trans (s2.bit_setBit_ne _ 7 true 4 (by decide) (by decide))).trans hout
  · exact (s2.bit_setBit_other _ 7 true _ 1 (ldsKey_ne ch (show hdrEvtPend ≠ R.LDS_STATUS by decide))).trans hpend
  · exact State.fld_of_rd ((State.rd_raiseLds _ ch hr3 hch 5 c hc).trans ((s2.rd_setBit_ne _ 7 true _ (ldsKey_ne_channel hne _ _)).trans
      (hother c hc hne))) 0 4

end

theorem exec_ldsAggregateCheck_high_shows (dt total ch : Nat) (s : State) (hr : s.bus.Ranged) (h : s.fld (ldsG R.LDS_G_AGG) 0 12 < total)
    (hch : s.shedChoice = some ch) : ∃ t, exec (.ldsAggregateCheck dt total) s = .next t ∧ t.ldsState ch = 4 ∧
      t.bit (ldsKey ch R.LDS_STATUS) 7 = true ∧ t.bit (ldsKey ch R.LDS_STATUS) 4 = false ∧ t.pend (ldsPage ch) 5 = true ∧
      t.pend (ldsPage ch) 1 = true ∧ (∀ c, c < 24 → c ≠ ch → t.ldsState c = s.ldsState c) := by
  have hr' : ((s.tick dt).aggShown total true).bus.Ranged :=
    State.ranged_setBit _ ((s.tick dt).ranged_wr hr (ldsG R.LDS_G_ITOTAL) (min total 65535)) (ldsG R.LDS_G_STATUS) 4 true
  obtain ⟨hstate, hagg, hout, hshed, hlatch, hother⟩ := State.ldsShed_shows _ ch hr' (s.shedFirst_of_choice ch hch).lt
  exact ⟨_, exec_ldsAggregateCheck_of_high s total dt ch h hch, hstate, hagg, hout, hshed, hlatch,
    fun c hc hne => (hother c hc hne).trans (State.fld_of_rd ((s.tick dt).rd_aggShown total true c) 0 4)⟩

/-! ### Undervoltage (R274, R298) -/

/-- What a channel shows after undervoltage, by what it showed before. -/
def uvShown (x : Nat × Bool × Nat) : Nat × Bool × Nat := if x.1 = 4 ∨ x.1 = 6 then x else (6, false, 0)

/-- What a coil shows after it was stopped by undervoltage, by what it showed before. -/
def uvCoil (x : Nat × Coil × Nat) : Nat × Coil × Nat :=
  if x.1 = 1 ∧ x.2.1.wait ≠ .ending then (x.1, { x.2.1 with drive := .diodes, wait := .ending }, 2) else x

section
variable (s : State) (ch : Nat)

/-- A channel that enters UV, before its event. -/
def State.ldsCut (s : State) (ch : Nat) : State := ((s.ldsEnter ch 6).setTries ch 0).addSat (ldsKey ch R.LDS_CNT_UV) 1

theorem State.ldsUv_eq : s.ldsUv ch = if s.ldsState ch = 4 ∨ s.ldsState ch = 6 then s else (s.ldsCut ch).raise (ldsPage ch) 4 := rfl

theorem State.ranged_ldsCut (hr : s.bus.Ranged) : (s.ldsCut ch).bus.Ranged :=
  State.ranged_wr _ (State.ranged_setFld _ (s.ranged_ldsEnter ch 6 hr) (ldsKey ch R.LDS_STATUS) 8 4 0) (ldsKey ch R.LDS_CNT_UV) _

theorem State.rd_ldsCut_ne (k : Nat) (h1 : k ≠ ldsKey ch R.LDS_STATUS) (h2 : k ≠ ldsKey ch R.LDS_CNT_UV) :
    (s.ldsCut ch).rd k = s.rd k := by
  rw [State.ldsCut, State.rd_addSat_ne _ _ _ _ h2, State.setTries, State.rd_setFld_ne _ _ _ _ _ _ h1, State.rd_ldsEnter_ne _ _ _ _ h1]

theorem State.ldsShows_ldsCut : (s.ldsCut ch).ldsShows ch = (6, false, 0) := by
  have henter := s.ldsShows_ldsEnter ch 6 (by decide)
  simp only [State.ldsShows, Prod.mk.injEq] at henter
  rw [State.ldsCut, State.ldsShows_of_rd (State.rd_addSat_ne _ _ _ _ (ldsKey_ne ch (by decide))),
    State.ldsShows_setTries _ _ _ (by decide), henter.1, henter.2.1]

variable (hr : s.bus.Ranged) (hch : ch < 24)
include hr hch

theorem State.ranged_ldsUv : (s.ldsUv ch).bus.Ranged := by
  rw [State.ldsUv_eq]
  split
  · exact hr
  · exact (plainPage_lds hch).ranged_raise (s.ranged_ldsCut ch hr) 4

/-- Undervoltage of a channel changes two of its registers beside EVT_PEND. -/
theorem State.rd_ldsUv {q off : Nat} (hq : PlainPage q) (h1 : rk q off ≠ ldsKey ch R.LDS_STATUS) (h2 : rk q off ≠ ldsKey ch R.LDS_CNT_UV)
    (hne : off ≠ hdrEvtPend := by decide) (ho : off < 4096 := by decide) : (s.ldsUv ch).rd (rk q off) = s.rd (rk q off) := by
  rw [State.ldsUv_eq]
  split
  · rfl
  · rw [(plainPage_lds hch).rd_raise hq (s.ranged_ldsCut ch hr) 4 hne ho, State.rd_ldsCut_ne _ _ _ h1 h2]

theorem State.ldsShows_ldsUv : (s.ldsUv ch).ldsShows ch = uvShown (s.ldsShows ch) := by
  rw [State.ldsUv_eq, uvShown]
  by_cases h : s.ldsState ch = 4 ∨ s.ldsState ch = 6
  · rw [if_pos h]
    exact (if_pos h).symm
  · rw [if_neg h, State.ldsShows_raise _ ch (s.ranged_ldsCut ch hr) hch 4 ch hch, State.ldsShows_ldsCut]
    exact (if_neg h).symm

end

/-- The coils are no part of a load channel. -/
theorem State.ldsUv_coils (s : State) (ch : Nat) : (s.ldsUv ch).coils = s.coils := by
  rw [State.ldsUv_eq]
  split
  · rfl
  · rw [State.raise_coils, State.ldsCut, State.addSat_coils, State.setTries, State.setFld_coils, State.ldsEnter_coils]

section
variable (s : State) (c : Nat) (hr : s.bus.Ranged) (hc : c < 8)
include hr hc

theorem State.coiStop_shows : (s.coiStop c 2 .diodes).bus.Ranged ∧ (s.coiStop c 2 .diodes).coilShows c = uvCoil (s.coilShows c) ∧
    ∀ b, b < 8 → b ≠ c → (s.coiStop c 2 .diodes).coilShows b = s.coilShows b := by
  unfold State.coiStop
  by_cases h : s.coiPhase c = 1 ∧ (s.coil c).wait ≠ .ending
  · rw [if_pos h]
    refine ⟨s.coiEnd_ranged c 2 .diodes hr hc, ?_, fun b hb hne => s.coilShows_coiEnd_ne c 2 .diodes hr hc hb hne⟩
    rw [s.coilShows_coiEnd c 2 .diodes hr hc (by decide)]
    exact (if_pos h).symm
  · rw [if_neg h]
    exact ⟨hr, (if_neg h).symm, fun _ _ _ => rfl⟩

/-- A coil that is stopped writes its COI_STATUS alone, beside EVT_PEND. -/
theorem State.rd_coiStop {q off : Nat} (hq : PlainPage q) (h : rk q off ≠ coiKey c R.COI_STATUS) (hne : off ≠ hdrEvtPend := by decide)
    (ho : off < 4096 := by decide) : (s.coiStop c 2 .diodes).rd (rk q off) = s.rd (rk q off) := by
  have hr' : (s.coiEnding c 2 .diodes).bus.Ranged := s.ranged_coiEnding c 2 .diodes hr
  unfold State.coiStop
  split
  · rw [State.coiEnd_eq, decide_eq_true (by decide), State.ifThen_true, (plainPage_coi hc).rd_raise hq hr' 5 hne ho,
      s.rd_coiEnding c 2 .diodes]
    exact s.rd_setFld_ne _ 11 3 2 _ h
  · rfl

end

/-- The registers of load channels and coils differ. -/
theorem ldsKey_ne_coiKey {ch c : Nat} (hch : ch < 24) (off off' : Nat) (ho : off < 4096 := by decide) (ho' : off' < 4096 := by decide) :
    ldsKey ch off ≠ coiKey c off' := by
  refine rk_ne_page off off' ?_ ho ho'
  simp only [ldsPage, coiPage, Block.pg, Block.base]
  omega

section
variable (s : State) (hr : s.bus.Ranged)
include hr

/-- Undervoltage meets every load channel. -/
theorem State.foldl_ldsUv_shows : ((List.range 24).foldl State.ldsUv s).bus.Ranged ∧
    (∀ ch, ch < 24 → ((List.range 24).foldl State.ldsUv s).ldsShows ch = uvShown (s.ldsShows ch)) ∧
    (∀ c, c < 8 → ((List.range 24).foldl State.ldsUv s).coilShows c = s.coilShows c) ∧
    (∀ off, off ≠ R.LDS_STATUS → off ≠ R.LDS_CNT_UV → off ≠ hdrEvtPend → off < 4096 →
      ((List.range 24).foldl State.ldsUv s).rd (ldsG off) = s.rd (ldsG off)) := by
  have hlt : ∀ {x}, x ∈ List.range 24 → x < 24 := List.mem_range.mp
  have hkeep : ∀ {γ : Type} (g : State → γ), (∀ a : State, a.bus.Ranged → ∀ x ∈ List.range 24, g (a.ldsUv x) = g a) →
      ((List.range 24).foldl State.ldsUv s).bus.Ranged ∧ g ((List.range 24).foldl State.ldsUv s) = g s := fun g hg =>
    State.foldl_keeps_of_ranged hr g fun a ha x hx => ⟨a.ranged_ldsUv x ha (hlt hx), hg a ha x hx⟩
  refine ⟨(hkeep (fun _ => ()) fun _ _ _ _ => rfl).1, fun ch hch => ?_, fun c hc => ?_, fun off h1 h2 hne ho => ?_⟩
  · refine State.foldl_shows hr (fun c a => a.ldsShows c) uvShown List.nodup_range (fun a ha x hx => ?_) (List.mem_range.mpr hch)
    exact ⟨a.ranged_ldsUv x ha (hlt hx), a.ldsShows_ldsUv x ha (hlt hx), fun c hc hne => State.ldsShows_of_rd
      (a.rd_ldsUv x ha (hlt hx) (plainPage_lds (hlt hc)) (ldsKey_ne_channel hne _ _) (ldsKey_ne_channel hne _ _))⟩
  · exact (hkeep (State.coilShows · c) fun a ha x hx => State.coilShows_of_eq (a.rd_ldsUv x ha (hlt hx) (plainPage_coi hc)
      (ldsKey_ne_coiKey (hlt hx) _ _).symm (ldsKey_ne_coiKey (hlt hx) _ _).symm) (State.coil_of_coils (a.ldsUv_coils x) c)).2
  · exact (hkeep (State.rd · (ldsG off)) fun a ha x hx =>
      a.rd_ldsUv x ha (hlt hx) (plainPage_lds (by decide)) (rk_ne_of_off h1 ho) (rk_ne_of_off h2 ho) hne ho).2

/-- Undervoltage meets every coil that runs. -/
theorem State.foldl_coiStop_shows (t : State) (ht : t = (List.range 8).foldl (fun a c => a.coiStop c 2 .diodes) s) :
    (∀ c, c < 8 → t.coilShows c = uvCoil (s.coilShows c)) ∧
    (∀ ch off, ch < 24 → off ≠ hdrEvtPend → off < 4096 → t.rd (ldsKey ch off) = s.rd (ldsKey ch off)) := by
  subst ht
  have hlt : ∀ {x}, x ∈ List.range 8 → x < 8 := List.mem_range.mp
  refine ⟨fun c hc => ?_, fun ch off hch hne ho => ?_⟩
  · refine State.foldl_shows hr (fun c a => a.coilShows c) uvCoil List.nodup_range (fun a ha x hx => ?_) (List.mem_range.mpr hc)
    obtain ⟨hr', hself, hother⟩ := a.coiStop_shows x ha (hlt hx)
    exact ⟨hr', hself, fun b hb hne => hother b (hlt hb) hne⟩
  · exact (State.foldl_keeps_of_ranged hr (State.rd · (ldsKey ch off)) fun a ha x hx => ⟨(a.coiStop_shows x ha (hlt hx)).1,
      a.rd_coiStop x ha (hlt hx) (plainPage_lds hch) (ldsKey_ne_coiKey hch off _ ho) hne ho⟩).2

end

/-- Undervoltage takes every load that is not latched, and every coil that runs (R274, R298). -/
theorem exec_vfieldUndervoltage_shows (dt vf : Nat) (s : State) (hr : s.bus.Ranged) : ∃ t, exec (.vfieldUndervoltage dt vf) s = .next t ∧
    t.bit (ldsG R.LDS_G_STATUS) 3 = true ∧ t.rd (ldsG R.LDS_G_VFIELD) = min vf 4095 ∧
    (∀ ch, ch < 24 → t.ldsState ch = (if s.ldsState ch = 4 then 4 else 6)) ∧
    (∀ ch, ch < 24 → s.ldsState ch ≠ 4 → s.ldsState ch ≠ 6 → t.bit (ldsKey ch R.LDS_STATUS) 4 = false ∧ t.ldsTries ch = 0) ∧
    (∀ c, c < 8 → s.coiPhase c = 1 → (s.coil c).wait ≠ .ending →
      (t.coil c).wait = .ending ∧ (t.coil c).drive = .diodes ∧ t.fld (coiKey c R.COI_STATUS) 11 3 = 2) := by
  have hvf : ((s.tick dt).wr (ldsG R.LDS_G_VFIELD) (min vf 4095)).rd (ldsG R.LDS_G_VFIELD) = min vf 4095 := by
    rw [State.rd_wr]
    omega
  have hexec : exec (.vfieldUndervoltage dt vf) s = .next ((List.range 8).foldl (fun a c => a.coiStop c 2 .diodes) ((List.range 24).foldl
      State.ldsUv (((s.tick dt).wr (ldsG R.LDS_G_VFIELD) (min vf 4095)).setBit (ldsG R.LDS_G_STATUS) 3 true))) := rfl
  have hr1 : (((s.tick dt).wr (ldsG R.LDS_G_VFIELD) (min vf 4095)).setBit (ldsG R.LDS_G_STATUS) 3 true).bus.Ranged :=
    State.ranged_setBit _ ((s.tick dt).ranged_wr hr (ldsG R.LDS_G_VFIELD) (min vf 4095)) (ldsG R.LDS_G_STATUS) 3 true
  have hflag1 := State.bit_setBit ((s.tick dt).wr (ldsG R.LDS_G_VFIELD) (min vf 4095)) (ldsG R.LDS_G_STATUS) 3 true (by decide)
  have hvf1 := (State.rd_setBit_ne ((s.tick dt).wr (ldsG R.LDS_G_VFIELD) (min vf 4095)) (ldsG R.LDS_G_STATUS) 3 true
    (ldsG R.LDS_G_VFIELD) (ldsG_ne (by decide))).trans hvf
  have hloads1 : ∀ ch, (((s.tick dt).wr (ldsG R.LDS_G_VFIELD) (min vf 4095)).setBit (ldsG R.LDS_G_STATUS) 3 true).ldsShows ch =
      s.ldsShows ch := fun ch => State.ldsShows_of_rd
    ((State.rd_setBit_ne _ _ 3 true _ (ldsKey_ne_ldsG ch)).trans ((s.tick dt).rd_wr_ne _ _ _ (ldsKey_ne_ldsG ch)))
  have hcoils1 : ∀ c, (((s.tick dt).wr (ldsG R.LDS_G_VFIELD) (min vf 4095)).setBit (ldsG R.LDS_G_STATUS) 3 true).coilShows c =
      s.coilShows c := fun c => State.coilShows_of_eq
    ((State.rd_setBit_ne _ _ 3 true _ rk_ne_of_off).trans ((s.tick dt).rd_wr_ne _ _ _ rk_ne_of_off)) rfl
  generalize ((s.tick dt).wr (ldsG R.LDS_G_VFIELD) (min vf 4095)).setBit (ldsG R.LDS_G_STATUS) 3 true = s1 at hexec hr1 hflag1 hvf1 hloads1 hcoils1
  obtain ⟨hr2, hloads2, hcoils2, hglobal2⟩ := s1.foldl_ldsUv_shows hr1
  generalize (List.range 24).foldl State.ldsUv s1 = s2 at hexec hr2 hloads2 hcoils2 hglobal2
  obtain ⟨hcoils, hregs⟩ := s2.foldl_coiStop_shows hr2 _ rfl
  generalize (List.range 8).foldl (fun a c => a.coiStop c 2 .diodes) s2 = t at hexec hcoils hregs
  have hglobal : ∀ off, off ≠ R.LDS_STATUS → off ≠ R.LDS_CNT_UV → off ≠ hdrEvtPend → off < 4096 →
      t.rd (ldsG off) = s1.rd (ldsG off) :=
    fun off h1 h2 hne ho => (hregs 0 off (by decide) hne ho).trans (hglobal2 off h1 h2 hne ho)
  have hloads : ∀ ch, ch < 24 → t.ldsShows ch = uvShown (s.ldsShows ch) := fun ch hch =>
    (State.ldsShows_of_rd (hregs ch _ hch (by decide) (by decide))).trans ((hloads2 ch hch).trans (congrArg uvShown (hloads1 ch)))
  refine ⟨t, hexec, (State.bit_of_rd (hglobal _ (by decide) (by decide) (by decide) (by decide)) 3).trans hflag1,
    (hglobal _ (by decide) (by decide) (by decide) (by decide)).trans hvf1, fun ch hch => ?_, fun ch hch h4 h6 => ?_,
    fun c hc hrun hwait => ?_⟩
  · refine (congrArg Prod.fst (hloads ch hch)).trans ?_
    by_cases h4 : s.ldsState ch = 4
    · rw [uvShown, if_pos (.inl h4), if_pos h4]
      exact h4
    · rw [if_neg h4, uvShown]
      split
      · next h => exact h.resolve_left h4
      · rfl
  · have hshow := hloads ch hch
    have hcut : uvShown (s.ldsShows ch) = (6, false, 0) := if_neg (not_or.mpr ⟨h4, h6⟩)
    rw [hcut] at hshow
    simp only [State.ldsShows, Prod.mk.injEq] at hshow
    exact hshow.2
  · have hshow := (hcoils c hc).trans (congrArg uvCoil ((hcoils2 c hc).trans (hcoils1 c)))
    have hstop : uvCoil (s.coilShows c) = (s.coiPhase c, { s.coil c with drive := .diodes, wait := .ending }, 2) := if_pos ⟨hrun, hwait⟩
    rw [hstop] at hshow
    simp only [State.coilShows, Prod.mk.injEq] at hshow
    exact ⟨by rw [hshow.2.1], by rw [hshow.2.1], hshow.2.2⟩

/-! ### The return of VFIELD (R274) -/

theorem State.ldsRelease_of_other (s : State) (ch : Nat) (h : s.ldsState ch ≠ 6) : s.ldsRelease ch = s := if_pos h

/-- With RESTORE 2 a channel waits for its turn. -/
theorem State.ldsRelease_of_stagger (s : State) (ch : Nat) (h : s.ldsState ch = 6) (hrestore : s.fld (ldsKey ch R.LDS_CFG) 16 2 = 2) :
    s.ldsRelease ch = ((s.ldsEnter ch 7).arm (tRestore ch) (clkMs (ch * s.fld (ldsG R.LDS_G_STAGGER) 0 8))).raise (ldsPage ch) 7 := by
  rw [State.ldsRelease, if_neg (not_not.mpr h), hrestore]
  rfl

/-- Settles O32. A channel follows Table 10-3 by `State.ldsResolve` and its timers; the supply acts on every channel by a fold, whose steps
touch one channel each (`State.foldl_shows`). -/
theorem loadChannelsAndTheirSupplyFollowDemandAndTrip : Obligations.LoadChannelsAndTheirSupplyFollowDemandAndTrip := by
  refine ⟨?out, fun _ _ _ _ _ _ _ _ _ _ h => ?evaluate, State.ldsResolve_of_off, ?start, ?trip, ?inrush, ?pause, ?tries, ?shutdown, ?cool, ?recover,
    ?thermal, ?openLoad, ?stuck, ?latched, ?nothing, exec_ldsAggregateCheck_low_shows, exec_ldsAggregateCheck_high_shows, ?choice,
    exec_vfieldUndervoltage_shows, ?restored, State.ldsRelease_of_other, fun s ch _ => s.ldsRelease_of_stagger ch, ?restoring⟩
  case out =>
    intro dt vi ch v s _ ha hu hopen hroom
    obtain ⟨hout, hother, hstate⟩ := (s.tick dt).ldsOutWritten_shows ch v [ldsOutEntry ch (v % 2)] _ rfl
    exact ⟨_, exec_ldsOutWrite_of_owner dt vi ch v s ha hu hopen hroom, hout, fun c _ hne => hother c hne, hstate⟩
  case evaluate => exact h ▸ rfl
  case start =>
    intro s ch _ _
    have hstart := s.ldsShows_ldsStart ch
    have hoff := s.ldsShows_ldsOff ch
    simp only [State.ldsShows, Prod.mk.injEq] at hstart hoff
    exact ⟨hstart.1, hstart.2.1, hoff.1, hoff.2.1, hoff.2.2⟩
  case trip =>
    exact fun dt ch ma us n s s1 hr hch hs1 htrip hd hcool hn => exec_ldsTrip_shows s ch dt ma us n s1 hr hch hs1 htrip hd hcool hn
  case inrush => exact fun dt ch s _ hdue hst => exec_ldsInrushEnd_shows s ch dt hdue hst
  case pause =>
    exact fun dt ch s hdue hst => congrArg Host.Outcome.next ((State.onExpiry_due _ _ _ hdue).trans (if_pos hst))
  case tries => exact fun dt ch s hdue => exec_ldsTriesClear_shows s ch dt hdue
  case shutdown => exact fun dt ch tj s hhot hlo hhi => exec_ldsThermalShutdown_of_hot s ch dt tj hhot hlo hhi
  case cool => exact fun dt ch tj s hcool => exec_ldsThermalShutdown_of_cool s ch dt tj hcool
  case recover => exact fun dt ch tj s hst hcool => exec_ldsThermalRecover_of_cool s ch dt tj hst hcool
  case thermal =>
    intro s ch hr hch
    obtain ⟨hshow, hpend, hcount⟩ := s.ldsThermal_shows ch hr hch
    simp only [State.ldsShows, Prod.mk.injEq] at hshow
    exact ⟨hshow.1, hshow.2.1, hpend, hcount⟩
  case openLoad =>
    exact fun dt ch vf s hr hch hen hst hvf hclosed => exec_ldsOpenLoad_shows s ch dt vf hr hch hen hst hvf hclosed
  case stuck => exact fun dt ch s h => exec_ldsStuckOn_of_off s ch dt h
  case latched => exact fun dt ch vi v s _ ha hu hv hst => exec_ldsLatchClr_of_latched s ch dt vi v ha hu hv hst
  case nothing => exact fun dt ch vi v s _ ha hu h => exec_ldsLatchClr_of_nothing s ch dt vi v ha hu h
  case choice =>
    intro s ch h
    have hfirst := s.shedFirst_of_choice ch h
    exact ⟨hfirst.lt, hfirst.active, hfirst.first⟩
  case restored => exact fun dt vf s s1 hs1 => hs1 ▸ rfl
  case restoring =>
    exact fun dt ch s hdue hst => congrArg Host.Outcome.next ((State.onExpiry_due _ _ _ hdue).trans (if_pos hst))

end Sys2Proof.Machine
end

section
-- One theorem after another: each waiting thread takes 256 MB of the memory the check allows.
set_option Elab.async false
/-! SUPPORT. The arithmetic of the Zugrim words: results and flags (R342 to R344), and the shifts and bit fields as numbers. -/

namespace Sys2Proof.Machine

/-! ### Words as numbers -/

theorem word_msb (a : Word) : a.msb = decide (2 ^ 31 ≤ a.toNat) := BitVec.msb_eq_decide a

theorem word_toInt (a : Word) : a.toInt = if a.toNat < 2 ^ 31 then (a.toNat : Int) else (a.toNat : Int) - 2 ^ 32 := by
  rw [BitVec.toInt_eq_toNat_cond]
  split <;> split <;> omega

theorem b2n_le (b : Bool) : b2n b ≤ 1 := by cases b <;> decide

theorem bitOf_eq_getLsbD (i : Nat) (a : Word) : bitOf i a.toNat = a.getLsbD i := bitOf_eq_testBit i a.toNat

theorem fieldOf_zero (w v : Nat) : fieldOf 0 w v = v % 2 ^ w := by simp [fieldOf]

/-! ### Flags (R343) -/

theorem bitOf_stZN (r : Word) (st i : Nat) : bitOf i (stZN r st) = if i = 0 then decide (r = 0) else if i = 1 then r.msb else bitOf i st := by
  unfold stZN
  by_cases h1 : i = 1
  · rw [h1, bitOf_setBitOf]
    rfl
  · rw [bitOf_setBitOf_ne i 1 _ _ h1]
    by_cases h0 : i = 0
    · rw [h0, bitOf_setBitOf]
      rfl
    · rw [bitOf_setBitOf_ne i 0 _ _ h0, if_neg h0, if_neg h1]

theorem flagsZN_stZN (r : Word) (st : Nat) : FlagsZN r st (stZN r st) :=
  ⟨bitOf_stZN r st 0, bitOf_stZN r st 1, bitOf_stZN r st 2, bitOf_stZN r st 3⟩

theorem flagsZNCV_stZNCV (r : Word) (st : Nat) {c v : Bool} {pc pv : Prop} (hc : c = true ↔ pc) (hv : v = true ↔ pv) :
    FlagsZNCV r pc pv (stZNCV r c v st) := by
  unfold stZNCV
  refine ⟨?_, ?_, ?_, ?_⟩
  · rw [bitOf_setBitOf_ne 0 3 _ _ (by decide), bitOf_setBitOf_ne 0 2 _ _ (by decide), bitOf_stZN, if_pos rfl]
  · rw [bitOf_setBitOf_ne 1 3 _ _ (by decide), bitOf_setBitOf_ne 1 2 _ _ (by decide)]
    exact bitOf_stZN r st 1
  · rw [bitOf_setBitOf_ne 2 3 _ _ (by decide), bitOf_setBitOf, hc]
  · rw [bitOf_setBitOf, hv]

theorem flagsShift_aluShift (r : Word) (n st : Nat) {out : Bool} {c : Prop} (hout : n ≠ 0 → (out = true ↔ c)) :
    FlagsShift r n c st (aluShift r n out st).st := by
  unfold aluShift
  by_cases hn : n = 0
  · obtain ⟨hz, hneg, hc, hv⟩ := flagsZN_stZN r st
    simp only [if_pos hn]
    exact ⟨hz, hneg, by rw [hc, if_pos hn], hv⟩
  · simp only [if_neg hn]
    refine ⟨?_, ?_, ?_, ?_⟩
    · exact (bitOf_setBitOf_ne 0 2 _ _ (by decide)).trans (bitOf_stZN r st 0)
    · exact (bitOf_setBitOf_ne 1 2 _ _ (by decide)).trans (bitOf_stZN r st 1)
    · rw [bitOf_setBitOf, if_neg hn, hout hn]
    · exact (bitOf_setBitOf_ne 3 2 _ _ (by decide)).trans (bitOf_stZN r st 3)

/-! ### Sums and differences -/

theorem aluAdd_value (a b : Word) (cin : Bool) (st : Nat) : (aluAdd a b cin st).value = a + b + BitVec.ofNat 32 (b2n cin) := by
  apply BitVec.eq_of_toNat_eq
  simp only [aluAdd, BitVec.toNat_ofNat, BitVec.toNat_add]
  omega

/-- A sum overflows exactly when two summands of one sign give the other sign (R343). -/
theorem aluAdd_flags (a b : Word) (cin : Bool) (st : Nat) : FlagsZNCV (a + b + BitVec.ofNat 32 (b2n cin))
    (2 ^ 32 ≤ a.toNat + b.toNat + b2n cin) ((a + b + BitVec.ofNat 32 (b2n cin)).toInt ≠ a.toInt + b.toInt + (b2n cin : Nat))
    (aluAdd a b cin st).st := by
  rw [← aluAdd_value a b cin st]
  refine flagsZNCV_stZNCV _ st decide_eq_true_iff ?_
  have ha := a.isLt
  have hb := b.isLt
  have hcin := b2n_le cin
  simp only [aluAdd, word_msb, word_toInt, BitVec.toNat_ofNat, Bool.and_eq_true, beq_iff_eq, bne_iff_ne, ne_eq, decide_eq_decide]
  split <;> split <;> split <;> omega

theorem aluSub_value (a b : Word) (borrow : Bool) (st : Nat) : (aluSub a b borrow st).value = a - b - BitVec.ofNat 32 (b2n borrow) := by
  have hb := b.isLt
  have hc := b2n_le borrow
  apply BitVec.eq_of_toNat_eq
  simp only [aluSub, BitVec.toNat_ofNat, BitVec.toNat_sub]
  omega

/-- A difference overflows exactly when the signs of the operands differ and the result has that of the subtrahend (R343). -/
theorem aluSub_flags (a b : Word) (borrow : Bool) (st : Nat) : FlagsZNCV (a - b - BitVec.ofNat 32 (b2n borrow))
    (b.toNat + b2n borrow ≤ a.toNat) ((a - b - BitVec.ofNat 32 (b2n borrow)).toInt ≠ a.toInt - b.toInt - (b2n borrow : Nat))
    (aluSub a b borrow st).st := by
  rw [← aluSub_value a b borrow st]
  refine flagsZNCV_stZNCV _ st decide_eq_true_iff ?_
  have ha := a.isLt
  have hb := b.isLt
  have hc := b2n_le borrow
  simp only [aluSub, word_msb, word_toInt, BitVec.toNat_ofNat, Bool.and_eq_true, bne_iff_ne, ne_eq, decide_eq_decide]
  split <;> split <;> split <;> omega

/-- A sum without a carry in. -/
theorem aluAdd_shows (a b : Word) (st : Nat) : (aluAdd a b false st).value = a + b ∧
    FlagsZNCV (a + b) (2 ^ 32 ≤ a.toNat + b.toNat) ((a + b).toInt ≠ a.toInt + b.toInt) (aluAdd a b false st).st := by
  have hv := aluAdd_value a b false st
  have hf := aluAdd_flags a b false st
  simp only [b2n, Bool.false_eq_true, if_false, BitVec.add_zero, Nat.cast_zero, add_zero] at hv hf
  exact ⟨hv, hf⟩

/-- A difference without a borrow in. -/
theorem aluSub_shows (a b : Word) (st : Nat) : (aluSub a b false st).value = a - b ∧
    FlagsZNCV (a - b) (b.toNat ≤ a.toNat) ((a - b).toInt ≠ a.toInt - b.toInt) (aluSub a b false st).st := by
  have hv := aluSub_value a b false st
  have hf := aluSub_flags a b false st
  simp only [b2n, Bool.false_eq_true, if_false, BitVec.sub_zero, Nat.add_zero, Nat.cast_zero, sub_zero] at hv hf
  exact ⟨hv, hf⟩

theorem aluNeg_shows (a : Word) (st : Nat) : (aluSub 0 a false st).value = -a ∧
    FlagsZNCV (-a) (a = 0) (a = 0x80000000#32) (aluSub 0 a false st).st := by
  obtain ⟨hv, hz, hn, hc, ho⟩ := aluSub_shows 0 a st
  rw [zero_sub] at hv hz hn ho
  have hlt := a.isLt
  refine ⟨hv, hz, hn, hc.trans ?_, ho.trans ?_⟩
  · rw [← BitVec.toNat_inj]
    simp
  · rw [← BitVec.toNat_inj, word_toInt, word_toInt, word_toInt, BitVec.toNat_neg]
    simp only [BitVec.ofNat_eq_ofNat, BitVec.toNat_ofNat]
    split <;> split <;> split <;> omega

theorem aluAbs_shows (a : Word) (st : Nat) : (aluAbs a st).value = BitVec.ofNat 32 a.toInt.natAbs ∧
    FlagsZNCV (aluAbs a st).value (bitOf 2 st = true) (a = 0x80000000#32) (aluAbs a st).st := by
  have hlt := a.isLt
  constructor
  · apply BitVec.eq_of_toNat_eq
    simp only [aluAbs, word_msb, word_toInt, decide_eq_true_eq]
    split
    · rw [if_neg (by omega)]
      simp only [BitVec.ofNat_eq_ofNat, BitVec.toNat_sub, BitVec.toNat_ofNat]
      omega
    · rw [if_pos (by omega)]
      simp only [BitVec.toNat_ofNat]
      omega
  · simp only [aluAbs]
    refine ⟨?_, ?_, ?_, ?_⟩
    · exact (bitOf_setBitOf_ne 0 3 _ _ (by decide)).trans (bitOf_stZN _ st 0)
    · exact (bitOf_setBitOf_ne 1 3 _ _ (by decide)).trans (bitOf_stZN _ st 1)
    · rw [bitOf_setBitOf_ne 2 3 _ _ (by decide), bitOf_stZN]
      exact Iff.rfl
    · rw [bitOf_setBitOf, beq_iff_eq]

/-! ### Shifts -/

theorem aluShl_shows (a : Word) (n st : Nat) : (aluShl a n st).value = BitVec.ofNat 32 (a.toNat * 2 ^ n) ∧
    FlagsShift (aluShl a n st).value n (a.toNat * 2 ^ n / 2 ^ 32 % 2 = 1) st (aluShl a n st).st := by
  constructor
  · apply BitVec.eq_of_toNat_eq
    by_cases hn : n < 32
    · simp only [aluShl, aluShift, if_pos hn, BitVec.toNat_shiftLeft, Nat.shiftLeft_eq, BitVec.toNat_ofNat]
    · simp only [aluShl, aluShift, if_neg hn, BitVec.ofNat_eq_ofNat, BitVec.toNat_ofNat]
      obtain ⟨m, rfl⟩ := Nat.exists_eq_add_of_le (Nat.le_of_not_lt hn)
      rw [Nat.pow_add, Nat.mul_left_comm, Nat.mul_mod_right]
  · refine flagsShift_aluShift _ n st fun _ => ?_
    rw [Bool.and_eq_true, decide_eq_true_eq, ← bitOf_eq_getLsbD, bitOf, beq_iff_eq]
    rcases Nat.lt_or_ge 32 n with h | h
    · obtain ⟨m, rfl⟩ := Nat.exists_eq_add_of_le h
      have he : a.toNat * 2 ^ (32 + 1 + m) / 2 ^ 32 = 2 * (a.toNat * 2 ^ m) := by
        rw [show a.toNat * 2 ^ (32 + 1 + m) = 2 ^ 32 * (2 * (a.toNat * 2 ^ m)) by ring, Nat.mul_div_cancel_left _ (by decide)]
      rw [he, Nat.mul_mod_right]
      exact iff_of_false (fun hle => absurd hle.1 (by omega)) (by decide)
    · have he : a.toNat * 2 ^ n / 2 ^ 32 = a.toNat / 2 ^ (32 - n) := by
        rw [show (2 : Nat) ^ 32 = 2 ^ (32 - n) * 2 ^ n by rw [← Nat.pow_add, Nat.sub_add_cancel h],
          Nat.mul_div_mul_right _ _ (Nat.two_pow_pos n)]
      rw [he, and_iff_right h]

theorem aluShr_shows (a : Word) (n st : Nat) : (aluShr a n st).value = BitVec.ofNat 32 (a.toNat / 2 ^ n) ∧
    FlagsShift (aluShr a n st).value n (a.toNat / 2 ^ (n - 1) % 2 = 1) st (aluShr a n st).st := by
  constructor
  · apply BitVec.eq_of_toNat_eq
    rw [BitVec.toNat_ofNat, Nat.mod_eq_of_lt (lt_of_le_of_lt (Nat.div_le_self _ _) a.isLt)]
    by_cases hn : n < 32
    · simp only [aluShr, aluShift, if_pos hn, BitVec.toNat_ushiftRight, Nat.shiftRight_eq_div_pow]
    · simp only [aluShr, aluShift, if_neg hn]
      exact (Nat.div_eq_of_lt (lt_of_lt_of_le a.isLt (Nat.pow_le_pow_right (by decide) (Nat.le_of_not_lt hn)))).symm
  · refine flagsShift_aluShift _ n st fun _ => ?_
    rw [← bitOf_eq_getLsbD, bitOf, beq_iff_eq]

/-- Bit `n` of a signed value, past the sign bit the sign (R343). -/
theorem toInt_div_two_pow_odd (a : Word) (n : Nat) : a.toInt / ((2 ^ n : Nat) : Int) % 2 = 1 ↔
    (if n < 32 then a.getLsbD n else a.msb) = true := by
  have hlt := a.isLt
  by_cases hn : n < 32
  · rw [if_pos hn, ← bitOf_eq_getLsbD, bitOf, beq_iff_eq, word_toInt]
    split
    · norm_cast
    · have hp : (2 : Int) ^ 32 = ((2 ^ n : Nat) : Int) * (2 * ((2 ^ (31 - n) : Nat) : Int)) := by
        push_cast
        rw [← pow_succ', ← pow_add, show n + (31 - n + 1) = 32 by omega]
        norm_num
      have hdiv : ((a.toNat : Int) - 2 ^ 32) / ((2 ^ n : Nat) : Int) = ((a.toNat / 2 ^ n : Nat) : Int) - 2 * ((2 ^ (31 - n) : Nat) : Int) := by
        rw [hp, Int.sub_mul_ediv_left _ _ (by positivity)]
        norm_cast
      rw [hdiv]
      generalize a.toNat / 2 ^ n = x
      generalize 2 ^ (31 - n) = y
      omega
  · have hbig : (2 : Nat) ^ 32 ≤ 2 ^ n := Nat.pow_le_pow_right (by decide) (Nat.le_of_not_lt hn)
    rw [if_neg hn, word_msb, decide_eq_true_eq, word_toInt]
    split
    · next h =>
      rw [Int.ediv_eq_zero_of_lt (by omega) (by omega)]
      omega
    · next h =>
      rw [show ((a.toNat : Int) - 2 ^ 32) / ((2 ^ n : Nat) : Int) = -1 from Int.ediv_eq_neg_one_of_neg_of_le (by omega) (by omega)]
      omega

theorem aluSar_shows (a : Word) (n st : Nat) : (aluSar a n st).value = BitVec.ofInt 32 (a.toInt / ((2 ^ n : Nat) : Int)) ∧
    FlagsShift (aluSar a n st).value n (a.toInt / ((2 ^ (n - 1) : Nat) : Int) % 2 = 1) st (aluSar a n st).st := by
  have hlt := a.isLt
  constructor
  · by_cases hn : n < 32
    · simp only [aluSar, aluShift, if_pos hn]
      rw [BitVec.sshiftRight, Int.shiftRight_eq_div_pow]
    · have hbig : (2 : Nat) ^ 32 ≤ 2 ^ n := Nat.pow_le_pow_right (by decide) (Nat.le_of_not_lt hn)
      simp only [aluSar, aluShift, if_neg hn, word_msb, word_toInt, decide_eq_true_eq]
      split
      · rw [if_neg (by omega), show ((a.toNat : Int) - 2 ^ 32) / ((2 ^ n : Nat) : Int) = -1 from
          Int.ediv_eq_neg_one_of_neg_of_le (by omega) (by omega)]
        rfl
      · rw [if_pos (by omega), Int.ediv_eq_zero_of_lt (by omega) (by omega)]
        rfl
  · refine flagsShift_aluShift _ n st fun hn => ?_
    rw [toInt_div_two_pow_odd]
    by_cases h : n ≤ 32
    · rw [if_pos h, if_pos (show n - 1 < 32 by omega)]
    · rw [if_neg h, if_neg (show ¬ n - 1 < 32 by omega)]

end Sys2Proof.Machine
end

section
-- One theorem after another: each waiting thread takes 256 MB of the memory the check allows.
set_option Elab.async false
/-! SUPPORT. Selections, bit fields, immediates and products of the Zugrim words (R342, R344, R346). -/

namespace Sys2Proof.Machine

/-! ### Immediates and selections -/

theorem ofNat_ofSigned (w : Nat) (i : Int) : BitVec.ofNat w (ofSigned w i) = BitVec.ofInt w i := by
  apply BitVec.eq_of_toNat_eq
  simp only [ofSigned, BitVec.toNat_ofNat, BitVec.toNat_ofInt]
  exact Nat.mod_eq_of_lt ((Int.toNat_lt (Int.emod_nonneg _ (by positivity))).mpr (Int.emod_lt_of_pos _ (by positivity)))

theorem signedOf_eq_toInt (w v : Nat) (hw : 0 < w) : signedOf w v = (BitVec.ofNat w v).toInt := by
  obtain ⟨n, rfl⟩ := Nat.exists_eq_add_of_lt hw
  rw [BitVec.toInt_eq_toNat_cond, signedOf, BitVec.toNat_ofNat]
  have hp : 2 ^ (0 + n + 1) = 2 * 2 ^ (0 + n + 1 - 1) := by rw [Nat.add_sub_cancel, pow_succ']
  generalize v % 2 ^ (0 + n + 1) = x
  split <;> split <;> omega

/-- A 16-bit immediate is sign-extended (R342). -/
theorem s16_eq (w : Nat) : s16 w = (BitVec.ofNat 16 (wImm w)).signExtend 32 := by
  rw [s16, ofNat_ofSigned, signedOf_eq_toInt 16 _ (by decide)]
  rfl

theorem toInt_minSigned (a b : Word) : (minSigned a b).toInt = min a.toInt b.toInt := by
  unfold minSigned
  split <;> omega

theorem toInt_maxSigned (a b : Word) : (maxSigned a b).toInt = max a.toInt b.toInt := by
  unfold maxSigned
  split <;> omega

/-! ### Bit fields -/

theorem movhi_value (i : Nat) (d : Word) (hi : i < 2 ^ 16) :
    BitVec.ofNat 32 (i * 65536 + d.toNat % 65536) = BitVec.ofNat 16 i ++ d.setWidth 16 := by
  apply BitVec.eq_of_toNat_eq
  rw [BitVec.toNat_append, BitVec.toNat_ofNat, BitVec.toNat_ofNat, BitVec.toNat_setWidth, Nat.mod_eq_of_lt hi,
    ← Nat.shiftLeft_add_eq_or_of_lt (Nat.mod_lt _ (by decide)), Nat.shiftLeft_eq]
  omega

theorem ext_value (lo w : Nat) (a : Word) : (BitVec.ofNat 32 (fieldOf lo w a.toNat)).toNat = a.toNat / 2 ^ lo % 2 ^ w := by
  rw [BitVec.toNat_ofNat]
  exact Nat.mod_eq_of_lt (lt_of_le_of_lt (Nat.mod_le _ _) (lt_of_le_of_lt (Nat.div_le_self _ _) a.isLt))

theorem ins_getLsbD (lo w : Nat) (a d : Word) (i : Nat) (hi : i < 32) :
    (BitVec.ofNat 32 (setFieldOf lo w a.toNat d.toNat)).getLsbD i =
      if lo ≤ i ∧ i < lo + w then a.getLsbD (i - lo) else d.getLsbD i := by
  rw [BitVec.getLsbD_ofNat, decide_eq_true hi, Bool.true_and, testBit_setFieldOf]
  rfl

theorem leadingZeros_le (n : Nat) (a : Word) : leadingZeros n a ≤ n := by
  induction n with
  | zero => exact le_rfl
  | succ n ih =>
    unfold leadingZeros
    split <;> omega

/-- Below the leading zeros stands the highest 1 bit. -/
theorem leadingZeros_bounds (n : Nat) (a : Word) (h : a.toNat < 2 ^ n) :
    a.toNat < 2 ^ (n - leadingZeros n a) ∧ (leadingZeros n a < n → 2 ^ (n - 1 - leadingZeros n a) ≤ a.toNat) := by
  induction n with
  | zero => exact ⟨h, fun hlt => absurd hlt (Nat.not_lt_zero _)⟩
  | succ n ih =>
    unfold leadingZeros
    split
    · next hbit => exact ⟨h, fun _ => Nat.ge_two_pow_of_testBit hbit⟩
    · next hbit =>
      have hlt : a.toNat < 2 ^ n := by
        refine Nat.lt_pow_two_of_testBit _ fun i hi => ?_
        rcases Nat.lt_or_ge n i with hn | hn
        · exact Nat.testBit_lt_two_pow (lt_of_lt_of_le h (Nat.pow_le_pow_right (by decide) hn))
        · rw [le_antisymm hn hi]
          exact Bool.eq_false_iff.mpr hbit
      obtain ⟨hhi, hlo⟩ := ih hlt
      rw [show n + 1 - (1 + leadingZeros n a) = n - leadingZeros n a by omega,
        show n + 1 - 1 - (1 + leadingZeros n a) = n - 1 - leadingZeros n a by omega]
      exact ⟨hhi, fun hl => hlo (by omega)⟩

theorem popCount_eq (n : Nat) (a : Word) : popCount n a.toNat = ((List.range n).filter (fun i => a.getLsbD i)).length := by
  induction n with
  | zero => rfl
  | succ n ih =>
    rw [popCount, ih, List.range_succ, List.filter_append, List.length_append, bitOf_eq_getLsbD, Nat.add_comm]
    cases hbit : a.getLsbD n <;> simp [hbit, b2n]

theorem aluZN_shows (r : Word) (st : Nat) : (aluZN r st).value = r ∧ FlagsZN r st (aluZN r st).st := ⟨rfl, flagsZN_stZN r st⟩

/-! ### Products (R344) -/

theorem product_eq (q : Bool) (a b : Word) :
    product q a b = if q then 2 * ((a.setWidth 16).toInt * (b.setWidth 16).toInt) else a.toInt * b.toInt := by
  unfold product
  split
  · ring
  · rfl

theorem narrow_false (v : Int) : narrow false v = BitVec.ofInt 32 v := ofNat_ofSigned 32 v

theorem narrow_true (v : Int) : narrow true v = BitVec.ofInt 32 (max (-2 ^ 31) (min (2 ^ 31 - 1) v)) := ofNat_ofSigned 32 _

theorem narrow_eq (sat : Bool) (v : Int) :
    narrow sat v = if sat then BitVec.ofInt 32 (max (-2 ^ 31) (min (2 ^ 31 - 1) v)) else BitVec.ofInt 32 v := by
  cases sat
  · exact narrow_false v
  · exact narrow_true v

theorem toInt_narrow_true (v : Int) : (narrow true v).toInt = max (-2 ^ 31) (min (2 ^ 31 - 1) v) := by
  rw [narrow_true, BitVec.toInt_ofInt]
  exact Int.bmod_eq_of_le (by omega) (by omega)

theorem mulhs_value (a b : Word) : (BitVec.ofNat 32 (ofSigned 64 (a.toInt * b.toInt) / 2 ^ 32)).toInt = a.toInt * b.toInt / 2 ^ 32 := by
  have ha : |a.toInt| ≤ 2 ^ 31 := abs_le.mpr ⟨by have := a.le_toInt; omega, by have := a.toInt_lt; omega⟩
  have hb : |b.toInt| ≤ 2 ^ 31 := abs_le.mpr ⟨by have := b.le_toInt; omega, by have := b.toInt_lt; omega⟩
  have hab : |a.toInt * b.toInt| ≤ 2 ^ 31 * 2 ^ 31 := by
    rw [abs_mul]
    exact mul_le_mul ha hb (abs_nonneg _) (by decide)
  obtain ⟨hlo, hhi⟩ := abs_le.mp hab
  rw [word_toInt, BitVec.toNat_ofNat, ofSigned]
  generalize a.toInt * b.toInt = p at *
  split <;> omega

theorem mulhu_value (a b : Word) : (BitVec.ofNat 32 (a.toNat * b.toNat / 2 ^ 32)).toNat = a.toNat * b.toNat / 2 ^ 32 := by
  rw [BitVec.toNat_ofNat]
  refine Nat.mod_eq_of_lt (Nat.div_lt_of_lt_mul ?_)
  exact Nat.mul_lt_mul'' a.isLt b.isLt

/-! ### Modulo addresses (R346) -/

theorem moduloStep_of_none (m a : Word) (step : Int) (h : mLen m = 0) : moduloStep m a step = a + BitVec.ofInt 32 step := by
  rw [moduloStep, if_pos h, ofNat_ofSigned, BitVec.ofInt_add]
  rw [BitVec.ofInt_natCast, BitVec.ofNat_toNat, BitVec.setWidth_eq]

/-- An address after a modulo update lies in the buffer, the step further round (R346). -/
theorem moduloStep_of_some (m a : Word) (step : Int) (h : 0 < mLen m) (hfit : mBase m + mLen m ≤ 2 ^ 32) :
    mBase m ≤ (moduloStep m a step).toNat ∧ (moduloStep m a step).toNat < mBase m + mLen m ∧
      (((moduloStep m a step).toNat : Int) - mBase m) % (mLen m : Int) = ((a.toNat : Int) - mBase m + step) % (mLen m : Int) := by
  have hlen : (0 : Int) < mLen m := Int.natCast_pos.mpr h
  have hnn := Int.emod_nonneg ((a.toNat : Int) - mBase m + step) (ne_of_gt hlen)
  have hlt := Int.emod_lt_of_pos ((a.toNat : Int) - mBase m + step) hlen
  have hto : (moduloStep m a step).toNat = mBase m + (((a.toNat : Int) - mBase m + step) % (mLen m : Int)).toNat := by
    rw [moduloStep, if_neg (by omega), BitVec.toNat_ofNat]
    exact Nat.mod_eq_of_lt (by omega)
  rw [hto]
  refine ⟨by omega, by omega, ?_⟩
  rw [Nat.cast_add, add_sub_cancel_left, Int.toNat_of_nonneg hnn, Int.emod_emod_of_dvd _ dvd_rfl]

end Sys2Proof.Machine
end

section
-- One theorem after another: each waiting thread takes 256 MB of the memory the check allows.
set_option Elab.async false
/-! SUPPORT. The data words of a Zugrim core: what a word that issues puts in flight (R335, R337). The statement on arithmetic words,
settled (R341 to R343). -/

namespace Sys2Proof.Machine

section
variable {dt c op : Nat} {s : State}

theorem State.zwData_of_runs {f : State → ZwCore → Nat → ZwEff} (h : (s.tick dt).zwRuns c op) : s.zwData dt c op f =
    .next ((s.tick dt).zwPut c (f ((s.tick dt).settle c) (((s.tick dt).settle c).zw c) ((s.tick dt).nextWord c))) := by
  obtain ⟨hi, hlong, hop⟩ := h
  simp only [State.zwData, hi, hlong, hop, Bool.not_false, Bool.and_true, decide_true, if_true]
  rfl

/-- An arithmetic word that issues puts its result and its flags in flight. -/
theorem exec_alu_of_runs (y : Res) {f : ZwCore → Nat → AluOut} {p : Word → Nat → Prop} {k : ZwCore} {w : Nat}
    (hy : y = s.zwData dt c op (fun _ k w => effAlu (wD w) (f k w))) (hk : k = ((s.tick dt).settle c).zw c)
    (hw : w = (s.tick dt).nextWord c) (h : (s.tick dt).zwRuns c op) (hp : p (f k w).value (f k w).st) :
    ∃ st r, y = .next ((s.tick dt).zwPut c (effAlu (wD w) ⟨r, st⟩)) ∧ p r st := by
  subst hk hw
  exact ⟨_, _, hy.trans (State.zwData_of_runs h), hp⟩

/-- The same where the result is known. -/
theorem exec_alu_shows (y : Res) {f : ZwCore → Nat → AluOut} {p : Nat → Prop} {k : ZwCore} {w : Nat} {v : Word}
    (hy : y = s.zwData dt c op (fun _ k w => effAlu (wD w) (f k w))) (hk : k = ((s.tick dt).settle c).zw c)
    (hw : w = (s.tick dt).nextWord c) (h : (s.tick dt).zwRuns c op) (hp : (f k w).value = v ∧ p (f k w).st) :
    ∃ st, y = .next ((s.tick dt).zwPut c (effAlu (wD w) ⟨v, st⟩)) ∧ p st := by
  obtain ⟨st, r, hexec, rfl, hst⟩ := exec_alu_of_runs (p := fun r st => r = v ∧ p st) y hy hk hw h hp
  exact ⟨st, hexec, hst⟩

/-- A comparison that issues puts its flags alone in flight. -/
theorem exec_cmp_shows (y : Res) {f : ZwCore → Nat → AluOut} {p : Nat → Prop} {k : ZwCore} {w : Nat}
    (hy : y = s.zwData dt c op (fun _ k w => effReg .st (BitVec.ofNat 32 (f k w).st)))
    (hk : k = ((s.tick dt).settle c).zw c) (hw : w = (s.tick dt).nextWord c) (h : (s.tick dt).zwRuns c op) (hp : p (f k w).st) :
    ∃ st, y = .next ((s.tick dt).zwPut c (effReg .st (BitVec.ofNat 32 st))) ∧ p st := by
  subst hk hw
  exact ⟨_, hy.trans (State.zwData_of_runs h), hp⟩

end

/-- The bounds of INS in the words of the statement: the field ends at its lowest bit plus its width less one. -/
theorem ins_shows (w : Nat) (a d : Word) (i : Nat) (hi : i < 32) :
    (BitVec.ofNat 32 (setFieldOf (fieldOf 5 5 w) (fieldOf 0 5 w + 1) a.toNat d.toNat)).getLsbD i =
      if w / 32 % 32 ≤ i ∧ i ≤ w / 32 % 32 + w % 32 then a.getLsbD (i - w / 32 % 32) else d.getLsbD i := by
  rw [ins_getLsbD _ _ a d i hi, fieldOf_zero, fieldOf]
  simp only [Nat.reducePow, ← Nat.add_assoc, Nat.lt_add_one_iff]

theorem clz_shows (a : Word) : (BitVec.ofNat 32 (leadingZeros 32 a)).toNat ≤ 32 ∧
    a.toNat < 2 ^ (32 - (BitVec.ofNat 32 (leadingZeros 32 a)).toNat) ∧
    ((BitVec.ofNat 32 (leadingZeros 32 a)).toNat < 32 → 2 ^ (31 - (BitVec.ofNat 32 (leadingZeros 32 a)).toNat) ≤ a.toNat) := by
  have hle := leadingZeros_le 32 a
  rw [BitVec.toNat_ofNat, Nat.mod_eq_of_lt (by omega)]
  exact ⟨hle, leadingZeros_bounds 32 a a.isLt⟩

theorem popc_value (a : Word) : (BitVec.ofNat 32 (popCount 32 a.toNat)).toNat = ((List.range 32).filter (fun i => a.getLsbD i)).length := by
  have hle := List.length_filter_le (fun i => a.getLsbD i) (List.range 32)
  rw [List.length_range] at hle
  rw [popCount_eq, BitVec.toNat_ofNat]
  exact Nat.mod_eq_of_lt (by omega)

/-- Settles O40: the results and flags of R342 and R343 are those of the ALU's operations, word by word. -/
theorem zwArithmeticWordsWriteResultAndFlags : Obligations.ZwArithmeticWordsWriteResultAndFlags := by
  unfold Obligations.ZwArithmeticWordsWriteResultAndFlags
  rintro dt c w s _ k A B I rfl hk hw rfl rfl hI
  obtain rfl : I = s16 w := hI.trans (s16_eq w).symm
  have hsh : fieldOf 0 6 (k.dR (wB w)).toNat = (k.dR (wB w)).toNat % 64 := fieldOf_zero 6 _
  have hshi : fieldOf 0 6 w = w % 64 := fieldOf_zero 6 w
  refine ⟨?nop, ?add, ?addi, ?sub, ?adc, ?sbc, ?and, ?andi, ?or, ?ori, ?xor, ?xori, ?shl, ?shli, ?shr, ?shri, ?sar, ?sari, ?cmp, ?cmpi,
    ?min, ?max, ?abs, ?neg, ?movi, ?movhi, ?ext, ?ins, ?clz, ?popc⟩
  case nop => exact fun h => State.zwData_of_runs (f := fun _ _ _ => {}) h
  case add => exact fun h => exec_alu_shows (execZwAdd dt c s) rfl hk hw h (aluAdd_shows _ _ _)
  case addi => exact fun h => exec_alu_shows (execZwAddi dt c s) rfl hk hw h (aluAdd_shows _ _ _)
  case sub => exact fun h => exec_alu_shows (execZwSub dt c s) rfl hk hw h (aluSub_shows _ _ _)
  case adc => exact fun h => exec_alu_shows (execZwAdc dt c s) rfl hk hw h ⟨aluAdd_value _ _ _ _, aluAdd_flags _ _ _ _⟩
  case sbc => exact fun h => exec_alu_shows (execZwSbc dt c s) rfl hk hw h ⟨aluSub_value _ _ _ _, aluSub_flags _ _ _ _⟩
  case and => exact fun h => exec_alu_shows (execZwAnd dt c s) rfl hk hw h (aluZN_shows _ _)
  case andi => exact fun h => exec_alu_shows (execZwAndi dt c s) rfl hk hw h (aluZN_shows _ _)
  case or => exact fun h => exec_alu_shows (execZwOr dt c s) rfl hk hw h (aluZN_shows _ _)
  case ori => exact fun h => exec_alu_shows (execZwOri dt c s) rfl hk hw h (aluZN_shows _ _)
  case xor => exact fun h => exec_alu_shows (execZwXor dt c s) rfl hk hw h (aluZN_shows _ _)
  case xori => exact fun h => exec_alu_shows (execZwXori dt c s) rfl hk hw h (aluZN_shows _ _)
  case shl => exact fun h => by rw [← hsh]; exact exec_alu_of_runs (execZwShl dt c s) rfl hk hw h (aluShl_shows _ _ _)
  case shli => exact fun h => by rw [← hshi]; exact exec_alu_of_runs (execZwShli dt c s) rfl hk hw h (aluShl_shows _ _ _)
  case shr => exact fun h => by rw [← hsh]; exact exec_alu_of_runs (execZwShr dt c s) rfl hk hw h (aluShr_shows _ _ _)
  case shri => exact fun h => by rw [← hshi]; exact exec_alu_of_runs (execZwShri dt c s) rfl hk hw h (aluShr_shows _ _ _)
  case sar => exact fun h => by rw [← hsh]; exact exec_alu_of_runs (execZwSar dt c s) rfl hk hw h (aluSar_shows _ _ _)
  case sari => exact fun h => by rw [← hshi]; exact exec_alu_of_runs (execZwSari dt c s) rfl hk hw h (aluSar_shows _ _ _)
  case cmp => exact fun h => exec_cmp_shows (execZwCmp dt c s) rfl hk hw h (aluSub_shows _ _ _).2
  case cmpi => exact fun h => exec_cmp_shows (execZwCmpi dt c s) rfl hk hw h (aluSub_shows _ _ _).2
  case min => exact fun h => exec_alu_of_runs (execZwMin dt c s) rfl hk hw h ⟨toInt_minSigned _ _, flagsZN_stZN _ _⟩
  case max => exact fun h => exec_alu_of_runs (execZwMax dt c s) rfl hk hw h ⟨toInt_maxSigned _ _, flagsZN_stZN _ _⟩
  case abs => exact fun h => exec_alu_of_runs (execZwAbs dt c s) rfl hk hw h (aluAbs_shows _ _)
  case neg => exact fun h => exec_alu_shows (execZwNeg dt c s) rfl hk hw h (aluNeg_shows _ _)
  case movi => exact fun h => exec_alu_shows (execZwMovi dt c s) rfl hk hw h (aluZN_shows _ _)
  case movhi => exact fun h => exec_alu_of_runs (execZwMovhi dt c s) rfl hk hw h ⟨movhi_value _ _ (fieldOf_lt 0 16 w), flagsZN_stZN _ _⟩
  case ext =>
    have hlo : fieldOf 0 5 w = w % 32 := fieldOf_zero 5 w
    exact fun h => exec_alu_of_runs (execZwExt dt c s) rfl hk hw h ⟨hlo ▸ ext_value _ _ _, flagsZN_stZN _ _⟩
  case ins => exact fun h => exec_alu_of_runs (execZwIns dt c s) rfl hk hw h ⟨fun i hi => ins_shows w _ _ i hi, flagsZN_stZN _ _⟩
  case clz =>
    intro h
    obtain ⟨hle, hhi, hlo⟩ := clz_shows (k.dR (wA w))
    exact exec_alu_of_runs (execZwClz dt c s) rfl hk hw h ⟨hle, hhi, hlo, flagsZN_stZN _ _⟩
  case popc => exact fun h => exec_alu_of_runs (execZwPopc dt c s) rfl hk hw h ⟨popc_value _, flagsZN_stZN _ _⟩

end Sys2Proof.Machine
end

section
-- One theorem after another: each waiting thread takes 256 MB of the memory the check allows.
set_option Elab.async false
/-! SUPPORT. The remaining data words of a Zugrim core: multiplications, moves, loads and stores. The statement on them, settled (R333, R339,
R344 to R348, R355). -/

namespace Sys2Proof.Machine

theorem ZwCore.settle_of_mac (k : ZwCore) (x : LateMac) (hm : k.macs = [x]) (hl : k.lands = []) (h : x.word + 2 ≤ k.n) :
    k.settle.macs = [] ∧ k.settle.lands = [⟨x.word + 3, x.word, x.slot, .d x.acc, x.value k⟩] := by
  unfold ZwCore.settle
  simp only [hl, hm, List.filter_nil, List.foldr_nil, List.foldl_nil, List.nil_append, List.filter_cons, h, decide_true, if_true,
    Bool.not_true, Bool.false_eq_true, if_false, List.map_cons, List.map_nil]
  exact ⟨trivial, rfl⟩

theorem LateMac.value_eq (x : LateMac) (k : ZwCore) : x.value k =
    if x.sat then BitVec.ofInt 32 (max (-2 ^ 31) (min (2 ^ 31 - 1) ((k.dR x.acc).toInt + (if x.sub then -x.p else x.p))))
    else BitVec.ofInt 32 ((k.dR x.acc).toInt + (if x.sub then -x.p else x.p)) := by
  rw [LateMac.value, narrow_eq]
  cases x.sub <;> rfl

/-- The address after LDP and STP, by the mode of the word (R346, Table 12-6). -/
theorem longUpdate_shows (k : ZwCore) (w : Nat) (after : Word → Prop)
    (hafter : ∀ a', after a' ↔ (w / 1024 % 4 = 0 → a' = k.aR (wA w) + BitVec.ofInt 32 (signedOf 10 (w % 1024))) ∧
      (w / 1024 % 4 = 3 → a' = k.aR (wA w) + k.dR (wB w)) ∧
      (w / 1024 % 4 = 1 → mLen (k.mR (wA w)) = 0 → a' = k.aR (wA w) + BitVec.ofInt 32 (signedOf 10 (w % 1024))) ∧
      (w / 1024 % 4 = 1 → 0 < mLen (k.mR (wA w)) → mBase (k.mR (wA w)) + mLen (k.mR (wA w)) ≤ 2 ^ 32 →
        mBase (k.mR (wA w)) ≤ a'.toNat ∧ a'.toNat < mBase (k.mR (wA w)) + mLen (k.mR (wA w)) ∧
        ((a'.toNat : Int) - mBase (k.mR (wA w))) % (mLen (k.mR (wA w)) : Int) =
          (((k.aR (wA w)).toNat : Int) - mBase (k.mR (wA w)) + signedOf 10 (w % 1024)) % (mLen (k.mR (wA w)) : Int))) :
    ∃ a', longUpdate k w = (1, .a (wA w % 8), a') ∧ after a' := by
  have hmode : fieldOf 10 2 w = w / 1024 % 4 := rfl
  have hstep : fieldOf 0 10 w = w % 1024 := fieldOf_zero 10 w
  have hlt : w / 1024 % 4 < 4 := Nat.mod_lt _ (by decide)
  simp only [longUpdate, hmode, hstep]
  generalize w / 1024 % 4 = mode at *
  refine ⟨_, rfl, (hafter _).mpr ?_⟩
  match mode, hlt with
  | 0, _ => exact ⟨fun _ => congrArg (k.aR (wA w) + ·) (ofNat_ofSigned 32 _), fun h => absurd h (by decide), fun h => absurd h (by decide), fun h => absurd h (by decide)⟩
  | 1, _ =>
    exact ⟨fun h => absurd h (by decide), fun h => absurd h (by decide), fun _ hlen => moduloStep_of_none _ _ _ hlen,
      fun _ hlen hfit => moduloStep_of_some _ _ _ hlen hfit⟩
  | 2, _ => exact ⟨fun h => absurd h (by decide), fun h => absurd h (by decide), fun h => absurd h (by decide), fun h => absurd h (by decide)⟩
  | 3, _ => exact ⟨fun h => absurd h (by decide), fun _ => rfl, fun h => absurd h (by decide), fun h => absurd h (by decide)⟩

section
variable {dt c op : Nat} {s : State}

/-- A data word that issues puts its effects in flight; `e` states them. -/
theorem exec_data_of_runs (y : Res) {f : State → ZwCore → Nat → ZwEff} {u : State} {k : ZwCore} {w : Nat} {e : ZwEff}
    (hy : y = s.zwData dt c op f) (hu : u = (s.tick dt).settle c) (hk : k = u.zw c)
    (hw : w = (s.tick dt).nextWord c) (h : (s.tick dt).zwRuns c op) (he : f u k w = e) :
    y = .next ((s.tick dt).zwPut c e) := by
  subst hu hk hw he
  exact hy.trans (State.zwData_of_runs h)

theorem exec_zwEvclr_of_runs (h : (s.tick dt).zwRuns c 0x4A) : exec (.zwEvclr dt c) s =
    .next ((((s.tick dt).settle c).clearEvt c ((((s.tick dt).settle c).zw c).dR (wA ((s.tick dt).nextWord c)))).advance c) := by
  obtain ⟨hi, hlong, hop⟩ := h
  show execZwEvclr dt c s = _
  simp only [execZwEvclr, hi, hlong, hop, Bool.not_false, Bool.and_true, decide_true, if_true]

end

/-- Settles O41: products are those of R344, and an accumulator is read when its word is two words past. -/
theorem zwMultiplicationsMovesLoadsAndStores : Obligations.ZwMultiplicationsMovesLoadsAndStores := by
  unfold Obligations.ZwMultiplicationsMovesLoadsAndStores
  refine ⟨?products, ?accumulate, ?moves⟩
  case products =>
    rintro dt c w p s _ k A B rfl hk hw rfl rfl hp
    obtain rfl : p = product (bitOf 0 w) (k.dR (wA w)) (k.dR (wB w)) := hp.trans (product_eq _ _ _).symm
    refine ⟨?mul, ?mulhs, ?mulhu, ?mac, ?msu⟩
    case mul =>
      refine fun h => ⟨_, exec_data_of_runs (execZwMul dt c s) rfl rfl hk hw h rfl, fun hsat => ?_, fun hsat => ?_⟩
      · rw [hsat, narrow_false]
      · rw [hsat, toInt_narrow_true]
    case mulhs => exact fun h => ⟨_, exec_data_of_runs (execZwMulhs dt c s) rfl rfl hk hw h rfl, mulhs_value _ _⟩
    case mulhu => exact fun h => ⟨_, exec_data_of_runs (execZwMulhu dt c s) rfl rfl hk hw h rfl, mulhu_value _ _⟩
    case mac => exact fun h => exec_data_of_runs (execZwMac dt c s) rfl rfl hk hw h rfl
    case msu => exact fun h => exec_data_of_runs (execZwMsu dt c s) rfl rfl hk hw h rfl
  case accumulate => exact fun k x hm hl h => x.value_eq k ▸ k.settle_of_mac x hm hl h
  case moves =>
    rintro dt c w s _ u k A B D I a m step after rfl hu hk hw rfl rfl rfl hI rfl rfl rfl hafter
    obtain rfl : I = s16 w := hI.trans (s16_eq w).symm
    have hsr : fieldOf 0 5 w = w % 32 := fieldOf_zero 5 w
    obtain ⟨a', hupdate, ha'⟩ := longUpdate_shows k w after hafter
    refine ⟨?movad, ?movda, ?movai, ?addai, ?adda, ?movsr, ?movrs, ?ld, ?st, ?ldx, ?stx, ?ldp, ?stp, ?lda, ?sta, ?poll, ?evclr⟩
    case movad => exact fun h => exec_data_of_runs (execZwMovad dt c s) rfl hu hk hw h rfl
    case movda => exact fun h => exec_data_of_runs (execZwMovda dt c s) rfl hu hk hw h rfl
    case movai => exact fun h => exec_data_of_runs (execZwMovai dt c s) rfl hu hk hw h rfl
    case addai => exact fun h => exec_data_of_runs (execZwAddai dt c s) rfl hu hk hw h rfl
    case adda => exact fun h => exec_data_of_runs (execZwAdda dt c s) rfl hu hk hw h rfl
    case movsr => exact fun h => exec_data_of_runs (execZwMovsr dt c s) rfl hu hk hw h (by rw [hsr])
    case movrs => exact fun h => exec_data_of_runs (execZwMovrs dt c s) rfl hu hk hw h (by rw [hsr])
    case ld => exact fun h => exec_data_of_runs (execZwLd dt c s) rfl hu hk hw h rfl
    case st => exact fun h => exec_data_of_runs (execZwSt dt c s) rfl hu hk hw h rfl
    case ldx => exact fun h => exec_data_of_runs (execZwLdx dt c s) rfl hu hk hw h rfl
    case stx => exact fun h => exec_data_of_runs (execZwStx dt c s) rfl hu hk hw h rfl
    case ldp => exact fun h => ⟨a', exec_data_of_runs (execZwLdp dt c s) rfl hu hk hw h (by rw [hupdate]), ha'⟩
    case stp => exact fun h => ⟨a', exec_data_of_runs (execZwStp dt c s) rfl hu hk hw h (by rw [hupdate]), ha'⟩
    case lda => exact fun h => exec_data_of_runs (execZwLda dt c s) rfl hu hk hw h rfl
    case sta => exact fun h => exec_data_of_runs (execZwSta dt c s) rfl hu hk hw h rfl
    case poll => exact fun h => exec_data_of_runs (execZwPoll dt c s) rfl hu hk hw h rfl
    case evclr =>
      subst hu hk hw
      exact fun h => exec_zwEvclr_of_runs h

end Sys2Proof.Machine
end

section
-- One theorem after another: each waiting thread takes 256 MB of the memory the check allows.
set_option Elab.async false
/-! SUPPORT. Results in flight: when they land, and in which order (R337, R338). The statement on them, settled. -/

namespace Sys2Proof.Machine

/-- What is due lands in order, and the rest stays in flight. -/
def ZwCore.landed (k : ZwCore) : ZwCore :=
  ((k.lands.filter (fun x => decide (x.due ≤ k.n))).foldr insertLand []).foldl ZwCore.land
    { k with lands := k.lands.filter (fun x => !decide (x.due ≤ k.n)) }

/-- The accumulators that are read now turn their multiply-accumulates into results in flight (R339). -/
def ZwCore.readMacs (k : ZwCore) : ZwCore :=
  { k with
    lands := k.lands ++ (k.macs.filter (fun x => decide (x.word + 2 ≤ k.n))).map (fun x => ⟨x.word + 3, x.word, x.slot, .d x.acc, x.value k⟩)
    macs := k.macs.filter (fun x => !decide (x.word + 2 ≤ k.n)) }

theorem ZwCore.settle_eq (k : ZwCore) : k.settle = k.landed.readMacs := rfl

/-- A landing result changes only registers that results land in. -/
theorem ZwCore.land_eq (k : ZwCore) (x : Land) : ∃ d a m lc0 lc1 st l0 l1,
    k.land x = { k with d := d, a := a, m := m, lc0 := lc0, lc1 := lc1, st := st, loop0 := l0, loop1 := l1 } := by
  unfold ZwCore.land ZwCore.setLc ZwCore.setLevel
  split
  · exact ⟨_, _, _, _, _, _, _, _, rfl⟩
  · exact ⟨_, _, _, _, _, _, _, _, rfl⟩
  · exact ⟨_, _, _, _, _, _, _, _, rfl⟩
  · split <;> split <;> exact ⟨_, _, _, _, _, _, _, _, rfl⟩
  · exact ⟨_, _, _, _, _, _, _, _, rfl⟩

theorem ZwCore.foldl_land_eq (l : List Land) (k : ZwCore) : ∃ d a m lc0 lc1 st l0 l1,
    l.foldl ZwCore.land k = { k with d := d, a := a, m := m, lc0 := lc0, lc1 := lc1, st := st, loop0 := l0, loop1 := l1 } := by
  induction l generalizing k with
  | nil => exact ⟨_, _, _, _, _, _, _, _, rfl⟩
  | cons x l ih =>
    obtain ⟨d, a, m, lc0, lc1, st, l0, l1, h⟩ := k.land_eq x
    obtain ⟨d', a', m', lc0', lc1', st', l0', l1', h'⟩ := ih (k.land x)
    exact ⟨d', a', m', lc0', lc1', st', l0', l1', by rw [List.foldl_cons, h', h]⟩

theorem ZwCore.landed_macs (k : ZwCore) : k.landed.macs = k.macs := by
  obtain ⟨d, a, m, lc0, lc1, st, l0, l1, h⟩ := ZwCore.foldl_land_eq
    ((k.lands.filter (fun x => decide (x.due ≤ k.n))).foldr insertLand []) { k with lands := k.lands.filter (fun x => !decide (x.due ≤ k.n)) }
  rw [ZwCore.landed, h]

theorem ZwCore.readMacs_of_none (k : ZwCore) (h : k.macs = []) : k.readMacs = k := by
  unfold ZwCore.readMacs
  simp only [h, List.filter_nil, List.map_nil, List.append_nil]
  rw [← h]

theorem ZwCore.settle_of_no_macs (k : ZwCore) (h : k.macs = []) : k.settle = k.landed := by
  rw [ZwCore.settle_eq, ZwCore.readMacs_of_none _ (k.landed_macs.trans h)]

/-- One result in flight lands where it is due, else nothing changes. -/
theorem ZwCore.settle_of_one (k : ZwCore) (x : Land) (hl : k.lands = [x]) (hm : k.macs = []) :
    k.settle = if x.due ≤ k.n then ({ k with lands := [] } : ZwCore).land x else k := by
  rw [k.settle_of_no_macs hm, ZwCore.landed, hl]
  by_cases h : x.due ≤ k.n
  · simp [h, insertLand]
  · simp only [List.filter_cons, h, decide_false, Bool.false_eq_true, if_false, List.filter_nil, List.foldr_nil, List.foldl_nil,
      Bool.not_false, if_true]
    rw [← hl]

/-- The order of two results: by the word to which they are visible, then by their words, then by their slots (R338). -/
def Land.lastBefore (x y : Land) : Prop :=
  x.due < y.due ∨ (x.due = y.due ∧ (x.word < y.word ∨ (x.word = y.word ∧ x.slot < y.slot)))

theorem Land.before_of_lastBefore {x y : Land} (h : x.lastBefore y) : x.before y = true ∧ y.before x = false := by
  unfold Land.lastBefore at h
  simp only [Land.before, Bool.or_eq_true, Bool.and_eq_true, decide_eq_true_eq, Bool.or_eq_false_iff, Bool.and_eq_false_iff,
    decide_eq_false_iff_not]
  omega

/-- Two results that are due land in order, whichever stands first in flight. -/
theorem ZwCore.settle_of_two (k : ZwCore) (x y : Land) (hl : k.lands = [x, y] ∨ k.lands = [y, x]) (hm : k.macs = [])
    (hx : x.due ≤ k.n) (hy : y.due ≤ k.n) (h : x.lastBefore y) : k.settle = (({ k with lands := [] } : ZwCore).land x).land y := by
  obtain ⟨hxy, hyx⟩ := Land.before_of_lastBefore h
  rw [k.settle_of_no_macs hm, ZwCore.landed]
  rcases hl with hl | hl <;> rw [hl] <;> simp [hx, hy, insertLand, hxy, hyx]

theorem ZwCore.dR_land_d (k : ZwCore) (x : Land) (i : Nat) (h : x.dst = .d i) (j : Nat) :
    (k.land x).dR j = if j = i then x.value else k.dR j := by
  simp only [ZwCore.land, h, ZwCore.dR]
  split
  · next hj => rw [hj, SMap.find_put]
  · next hj => rw [SMap.find_put_ne _ _ _ _ _ _ hj]

theorem ZwCore.aR_land_a (k : ZwCore) (x : Land) (i : Nat) (h : x.dst = .a i) : (k.land x).aR i = x.value := by
  simp only [ZwCore.land, h, ZwCore.aR, SMap.find_put]

theorem ZwCore.mR_land_m (k : ZwCore) (x : Land) (i : Nat) (h : x.dst = .m i) : (k.land x).mR i = x.value := by
  simp only [ZwCore.land, h, ZwCore.mR, SMap.find_put]

theorem ZwCore.lc_land_lc (k : ZwCore) (x : Land) (l : Nat) (h : x.dst = .lc l) : (k.land x).lc l = x.value := by
  have hlc : ∀ v, (k.setLc l v).lc l = v := by
    intro v
    unfold ZwCore.setLc ZwCore.lc
    split <;> rfl
  have hlevel : ∀ (a : ZwCore) (z : LoopLevel), (a.setLevel l z).lc l = a.lc l := by
    intro a z
    unfold ZwCore.setLevel ZwCore.lc
    split <;> rfl
  simp only [ZwCore.land, h]
  split
  · next h0 => rw [hlevel, hlc, h0]
  · exact hlc _

theorem ZwCore.st_land_st (k : ZwCore) (x : Land) (h : x.dst = .st) : (k.land x).st = x.value.toNat % 16 := by
  simp only [ZwCore.land, h]

theorem ZwCore.pc_land_d (k : ZwCore) (x : Land) (i : Nat) (h : x.dst = .d i) :
    (k.land x).lands = k.lands ∧ (k.land x).pc = k.pc ∧ (k.land x).n = k.n := by
  simp only [ZwCore.land, h, and_self]

/-- Settles O43: the last of two results in the order of R338 lands last, so it stands. -/
theorem zwResultsLandInOrder : Obligations.ZwResultsLandInOrder := by
  unfold Obligations.ZwResultsLandInOrder
  refine ⟨?one, ?two, ?latency⟩
  case one =>
    intro k x i hl hm hd
    rw [k.settle_of_one x hl hm]
    by_cases h : x.due ≤ k.n
    · obtain ⟨hlands, hpc, hn⟩ := ZwCore.pc_land_d { k with lands := [] } x i hd
      simp only [if_pos h]
      refine ⟨?_, fun j hj => ?_, hlands, hpc, hn⟩
      · rw [ZwCore.dR_land_d _ x i hd, if_pos rfl]
      · rw [ZwCore.dR_land_d _ x i hd, if_neg hj]
        rfl
    · simp [h, hl]
  case two =>
    intro k x y hl hm _ hx hy h
    rw [k.settle_of_two x y hl hm hx hy h]
    refine ⟨fun i hi => ?_, fun i _ hi => ?_, fun i _ hi => ?_, fun hi => ?_, fun hi => ?_, fun hi => ?_⟩
    · rw [ZwCore.dR_land_d _ y i hi, if_pos rfl]
    · exact ZwCore.aR_land_a _ y i hi
    · exact ZwCore.mR_land_m _ y i hi
    · exact ZwCore.lc_land_lc _ y 0 hi
    · exact ZwCore.lc_land_lc _ y 1 hi
    · exact ZwCore.st_land_st _ y hi
  case latency =>
    intro k slot lat i v hl hm _ _ n
    have hlands : (k.put slot { lands := [(lat, .d i, v)] }).lands = [⟨k.n + lat, k.n, slot, .d i, v⟩] := by
      simp only [ZwCore.put, hl, List.nil_append, List.map_cons, List.map_nil]
    have hmacs : (k.put slot { lands := [(lat, .d i, v)] }).macs = [] := by
      simp only [ZwCore.put, hm, List.map_nil, List.append_nil]
    have hsettle := ZwCore.settle_of_one { k.put slot { lands := [(lat, .d i, v)] } with n := k.n + n } _ hlands hmacs
    refine ⟨hlands, (congrArg (fun a : ZwCore => a.dR i) hsettle).trans ?_⟩
    by_cases h : lat ≤ n
    · rw [if_pos (Nat.add_le_add_left h k.n), if_pos h, ZwCore.dR_land_d _ _ i rfl, if_pos rfl]
    · rw [if_neg (fun hle => h (Nat.le_of_add_le_add_left hle)), if_neg h]
      rfl

end Sys2Proof.Machine
end

section
-- One theorem after another: each waiting thread takes 256 MB of the memory the check allows.
set_option Elab.async false
/-! SUPPORT. A Zugrim core under the operations of its words: what landing, draining and stopping leave as it was (R337, R357, R365). -/

namespace Sys2Proof.Machine

/-! ### One core of the state -/

section
variable (s : State) (c : Nat)

@[simp] theorem State.zw_setZw (k : ZwCore) : (s.setZw c k).zw c = k := SMap.find_put _ _ _ _

theorem State.zw_setZw_ne (k : ZwCore) {d : Nat} (h : d ≠ c) : (s.setZw c k).zw d = s.zw d := SMap.find_put_ne _ _ _ _ _ _ h

@[simp] theorem State.zw_modZw (f : ZwCore → ZwCore) : (s.modZw c f).zw c = f (s.zw c) := s.zw_setZw c _

theorem State.zw_modZw_ne (f : ZwCore → ZwCore) {d : Nat} (h : d ≠ c) : (s.modZw c f).zw d = s.zw d := s.zw_setZw_ne c _ h

@[simp] theorem State.zw_on (f : Bus → Bus) : (s.on f).zw c = s.zw c := rfl

@[simp] theorem State.zw_setRun (d st : Nat) : (s.setRun d st).zw c = s.zw c := by
  unfold State.setRun State.ifThen
  split <;> rfl

@[simp] theorem State.zw_clearEvt (d : Nat) (mask : Word) : (s.clearEvt d mask).zw c = s.zw c := rfl

@[simp] theorem State.setRun_evt (d st : Nat) : (s.setRun d st).bus.evt = s.bus.evt := by
  unfold State.setRun State.ifThen
  split <;> rfl

theorem State.setRun_worker (st : Nat) (h : c < 96) : s.setRun c st = s.setFld (zwkKey c R.ZWK_STATUS) 0 2 st :=
  if_pos (decide_eq_true h)

end

/-! ### What the landing of results leaves -/

/-- What no result changes: where the core stands, whether it runs, and its queue. -/
def ZwCore.control (k : ZwCore) :=
  (k.pc, k.stack, k.delay, k.running, k.stopping, k.waiting, k.started, k.queue, k.imem)

theorem ZwCore.control_settle (k : ZwCore) : k.settle.control = k.control := by
  obtain ⟨d, a, m, lc0, lc1, st, l0, l1, h⟩ := ZwCore.foldl_land_eq
    ((k.lands.filter (fun x => decide (x.due ≤ k.n))).foldr insertLand []) { k with lands := k.lands.filter (fun x => !decide (x.due ≤ k.n)) }
  rw [ZwCore.settle_eq, ZwCore.landed, h]
  rfl

/-- `t` is `s` after core `c` did something to itself: other cores and everything but the data memory of the active keeper stay, and
that too where the core is a worker. -/
structure State.CoreOnly (s t : State) (c : Nat) : Prop where
  rest : t = { s with cores := t.cores, bus := { s.bus with kdmem := t.bus.kdmem } }
  other : ∀ d, d ≠ c → t.zw d = s.zw d
  worker : c < 96 → t.bus = s.bus

namespace State.CoreOnly

variable {s t u : State} {c : Nat}

theorem refl (s : State) (c : Nat) : s.CoreOnly s c := ⟨rfl, fun _ _ => rfl, fun _ => rfl⟩

theorem trans (h1 : s.CoreOnly t c) (h2 : t.CoreOnly u c) : s.CoreOnly u c := by
  refine ⟨?_, fun d hd => (h2.other d hd).trans (h1.other d hd), fun hc => (h2.worker hc).trans (h1.worker hc)⟩
  have e := h2.rest
  rw [h1.rest] at e
  exact e

theorem setZw (h : s.CoreOnly t c) (k : ZwCore) : s.CoreOnly (t.setZw c k) c :=
  h.trans ⟨rfl, fun _ hd => t.zw_setZw_ne c k hd, fun _ => rfl⟩

theorem modZw (h : s.CoreOnly t c) (f : ZwCore → ZwCore) : s.CoreOnly (t.modZw c f) c := h.setZw _

theorem dmemWr (h : s.CoreOnly t c) (addr : Nat) (v : Word) : s.CoreOnly (t.dmemWr c addr v) c := by
  unfold State.dmemWr
  split
  · next hk => exact h.trans ⟨rfl, fun _ _ => rfl, fun hc => absurd hc (by omega)⟩
  · exact h.modZw _

theorem rd (h : s.CoreOnly t c) (k : Nat) : t.rd k = s.rd k := by
  rw [h.rest]
  rfl

theorem bit (h : s.CoreOnly t c) (k i : Nat) : t.bit k i = s.bit k i := congrArg (bitOf i) (h.rd k)

end State.CoreOnly

section
variable (s : State) (c : Nat)

theorem State.control_dmemWr (addr : Nat) (v : Word) : ((s.dmemWr c addr v).zw c).control = (s.zw c).control := by
  unfold State.dmemWr
  split
  · rfl
  · rw [State.zw_modZw]
    rfl

theorem State.coreOnly_settleStores : s.CoreOnly (s.settleStores c) c ∧ ((s.settleStores c).zw c).control = (s.zw c).control := by
  unfold State.settleStores
  refine List.foldlRecOn (motive := fun a : State => s.CoreOnly a c ∧ (a.zw c).control = (s.zw c).control) _ _
    ⟨(State.CoreOnly.refl s c).setZw _, ?_⟩ fun a ha x _ => ⟨ha.1.dmemWr _ _, (a.control_dmemWr c _ _).trans ha.2⟩
  rw [State.zw_setZw]
  rfl

theorem State.coreOnly_settle : s.CoreOnly (s.settle c) c := (s.coreOnly_settleStores c).1.modZw _

theorem State.control_settle : ((s.settle c).zw c).control = (s.zw c).control := by
  rw [State.settle, State.zw_modZw, ZwCore.control_settle]
  exact (s.coreOnly_settleStores c).2

theorem State.coreOnly_drainWords (i : Nat) : s.CoreOnly (s.drainWords c i) c ∧ ((s.drainWords c i).zw c).control = (s.zw c).control := by
  induction i generalizing s with
  | zero => exact ⟨State.CoreOnly.refl s c, rfl⟩
  | succ i ih =>
    obtain ⟨honly, hcontrol⟩ := ih ((s.settle c).modZw c (fun k => { k with n := k.n + 1 }))
    rw [State.zw_modZw] at hcontrol
    have hn : ∀ k : ZwCore, ({ k with n := k.n + 1 } : ZwCore).control = k.control := fun _ => rfl
    exact ⟨((s.coreOnly_settle c).modZw _).trans honly, (hcontrol.trans (hn _)).trans (s.control_settle c)⟩

theorem State.coreOnly_drain : s.CoreOnly (s.drain c) c := (s.coreOnly_drainWords c 5).1.trans (State.coreOnly_settle _ c)

theorem State.control_drain : ((s.drain c).zw c).control = (s.zw c).control :=
  (State.control_settle _ c).trans (s.coreOnly_drainWords c 5).2

theorem State.coreOnly_zwStop (reason : Nat) : s.CoreOnly (s.zwStop c reason) c := (s.coreOnly_drain c).modZw _

/-- A core that stops keeps its place and its queue, and runs no more (R365). -/
theorem State.zw_zwStop (reason : Nat) : ((s.zwStop c reason).zw c).running = false ∧
    ((s.zwStop c reason).zw c).stopping = some reason ∧ ((s.zwStop c reason).zw c).waiting = none ∧
    ((s.zwStop c reason).zw c).queue = (s.zw c).queue := by
  have hcontrol := s.control_drain c
  rw [State.zwStop, State.zw_modZw]
  generalize (s.drain c).zw c = k at *
  simp only [ZwCore.control, Prod.mk.injEq] at hcontrol
  obtain ⟨-, -, -, -, -, -, -, hqueue, -⟩ := hcontrol
  exact ⟨rfl, rfl, rfl, hqueue⟩

end

end Sys2Proof.Machine
end

section
-- One theorem after another: each waiting thread takes 256 MB of the memory the check allows.
set_option Elab.async false
/-! SUPPORT. Pair words, and the word that follows (R336, R341, R349, R353, R354). The statement on them, settled. -/

namespace Sys2Proof.Machine

section
variable {dt c : Nat} {s : State} (hi : (s.tick dt).issues c = true) (hpair : bitOf 31 ((s.tick dt).nextWord c) = true)
include hi hpair

/-- A pair word issues both slots where both are of Table 12-4 and its bit 0 is 0. -/
theorem exec_zwPairWord_of_known {a b : ZwEff} (h0 : bitOf 0 ((s.tick dt).nextWord c) = false)
    (ha : shortEff (((s.tick dt).settle c).zw c) (fun x => ((s.tick dt).settle c).dmemRd c x)
      (fieldOf 16 15 ((s.tick dt).nextWord c)) = some a)
    (hb : shortEff (((s.tick dt).settle c).zw c) (fun x => ((s.tick dt).settle c).dmemRd c x)
      (fieldOf 1 15 ((s.tick dt).nextWord c)) = some b) : exec (.zwPairWord dt c) s =
      .next ((((s.tick dt).settle c).setZw c (((((s.tick dt).settle c).zw c).put 0 a).put 1 b)).advance c) := by
  show execZwPairWord dt c s = _
  simp only [execZwPairWord, hi, hpair, Bool.and_true, if_true, ha, hb, h0, Bool.false_eq_true, if_false]

theorem exec_zwPairWord_of_unknown (h : shortEff (((s.tick dt).settle c).zw c) (fun x => ((s.tick dt).settle c).dmemRd c x)
      (fieldOf 16 15 ((s.tick dt).nextWord c)) = none ∨
    shortEff (((s.tick dt).settle c).zw c) (fun x => ((s.tick dt).settle c).dmemRd c x)
      (fieldOf 1 15 ((s.tick dt).nextWord c)) = none ∨ bitOf 0 ((s.tick dt).nextWord c) = true) :
    exec (.zwPairWord dt c) s = .next (((s.tick dt).settle c).zwIllegal c) := by
  show execZwPairWord dt c s = _
  simp only [execZwPairWord, hi, hpair, Bool.and_true, if_true]
  split
  · next ha hb =>
    rcases h with h | h | h
    · rw [h] at ha; cases ha
    · rw [h] at hb; cases hb
    · rw [if_pos h]
  · rfl

end

/-- An opcode above those of Table 12-4 names no short operation. -/
theorem shortEff_of_reserved (k : ZwCore) (rd : Nat → Word) (v : Nat) (h : 0x1B ≤ fieldOf 10 5 v) : shortEff k rd v = none := by
  have hlt : fieldOf 10 5 v < 32 := fieldOf_lt 10 5 v
  unfold shortEff
  generalize fieldOf 10 5 v = op at *
  interval_cases op <;> rfl

theorem fieldOf_fieldOf (lo w lo' w' v : Nat) (h : lo' + w' ≤ w) : fieldOf lo' w' (fieldOf lo w v) = fieldOf (lo + lo') w' v := by
  apply Nat.eq_of_testBit_eq
  intro i
  rw [testBit_fieldOf, testBit_fieldOf, testBit_fieldOf, Nat.add_assoc]
  by_cases hi : i < w'
  · rw [decide_eq_true hi, decide_eq_true (show lo' + i < w by omega), Bool.true_and]
  · rw [decide_eq_false hi, Bool.false_and, Bool.false_and]

/-- No word issues from a core that does not run. -/
theorem exec_zw_of_idle {dt c : Nat} {s : State} (h : (s.tick dt).issues c = false) :
    exec (.zwPairWord dt c) s = .next (s.tick dt) ∧ exec (.zwReservedLongWord dt c) s = .next (s.tick dt) ∧
    exec (.zwAdd dt c) s = .next (s.tick dt) ∧ exec (.zwBr dt c) s = .next (s.tick dt) ∧ exec (.zwPut dt c) s = .next (s.tick dt) := by
  refine ⟨?_, ?_, ?_, ?_, ?_⟩
  · show execZwPairWord dt c s = _
    simp [execZwPairWord, h]
  · show execZwReservedLongWord dt c s = _
    simp [execZwReservedLongWord, h]
  · show execZwAdd dt c s = _
    simp [execZwAdd, State.zwData, h]
  · show execZwBr dt c s = _
    simp [execZwBr, State.zwControl, h]
  · show execZwPut dt c s = _
    simp [execZwPut, State.remote, h]

theorem exec_zwReservedLongWord_of_unknown {dt c : Nat} {s : State} (hi : (s.tick dt).issues c = true)
    (hlong : bitOf 31 ((s.tick dt).nextWord c) = false) (h : longKnown (wOp ((s.tick dt).nextWord c)) = false) :
    exec (.zwReservedLongWord dt c) s = .next (((s.tick dt).settle c).zwIllegal c) := by
  show execZwReservedLongWord dt c s = _
  simp only [execZwReservedLongWord, hi, hlong, h, Bool.not_false, Bool.and_true, if_true]

/-! ### The next word (R349, R353, R354) -/

section
variable (k : ZwCore) (size : Nat)

theorem ZwCore.advance_of_no_delay (h : k.delay = none) : k.advance size = ({ k with n := k.n + 1 } : ZwCore).loopNext size := by
  unfold ZwCore.advance
  simp only [h]

variable (hd : k.delay = none)
include hd

theorem ZwCore.advance_of_order (h0 : k.loop0.active = false) (h1 : k.loop1.active = false) :
    k.advance size = { k with n := k.n + 1, pc := (k.pc + 1) % size } := by
  rw [k.advance_of_no_delay size hd]
  simp [ZwCore.loopNext, ZwCore.loopTest, ZwCore.level, h0, h1]

theorem ZwCore.advance_of_level1 (ha : k.loop1.active = true) (hs : k.loop1.stop = k.pc) (hc : 2 ≤ k.lc1.toNat) :
    k.advance size = { k with n := k.n + 1, pc := k.loop1.start, lc1 := k.lc1 - 1 } := by
  rw [k.advance_of_no_delay size hd]
  simp [ZwCore.loopNext, ZwCore.loopTest, ZwCore.level, ZwCore.lc, ZwCore.setLc, ha, hs, hc]

theorem ZwCore.advance_of_level0 (ha : k.loop1.active = true) (hs : k.loop1.stop = k.pc) (hc : k.lc1.toNat < 2)
    (ha0 : k.loop0.active = true) (hs0 : k.loop0.stop = k.pc) (hc0 : 2 ≤ k.lc0.toNat) :
    k.advance size = { k with n := k.n + 1, pc := k.loop0.start, lc1 := 0, loop1 := { k.loop1 with active := false }, lc0 := k.lc0 - 1 } := by
  rw [k.advance_of_no_delay size hd]
  simp [ZwCore.loopNext, ZwCore.loopTest, ZwCore.level, ZwCore.setLevel, ZwCore.lc, ZwCore.setLc, ha, hs, Nat.not_le.mpr hc, ha0, hs0, hc0]

theorem ZwCore.advance_of_end (h1 : k.loop1.active = false) (ha0 : k.loop0.active = true) (hs0 : k.loop0.stop = k.pc)
    (hc0 : k.lc0.toNat < 2) :
    k.advance size = { k with n := k.n + 1, pc := (k.pc + 1) % size, lc0 := 0, loop0 := { k.loop0 with active := false } } := by
  rw [k.advance_of_no_delay size hd]
  simp [ZwCore.loopNext, ZwCore.loopTest, ZwCore.level, ZwCore.setLevel, ZwCore.lc, ZwCore.setLc, h1, ha0, hs0, Nat.not_le.mpr hc0]

end

/-- The short operations that the statement names: ADD, SUB, LD and ST of Table 12-4. -/
theorem shortEff_shows (k : ZwCore) (rd : Nat → Word) (v : Nat) :
    (∀ x y, fieldOf 10 5 v = 2 → x = fieldOf 6 4 v → y = fieldOf 2 4 v → v % 4 = 0 →
      shortEff k rd v = some { lands := [(1, .d x, k.dR x + k.dR y)] }) ∧
    (∀ x y, fieldOf 10 5 v = 3 → x = fieldOf 6 4 v → y = fieldOf 2 4 v → v % 4 = 1 →
      shortEff k rd v = some { lands := [(1, .d x, k.dR x - BitVec.ofNat 32 y)] }) ∧
    (∀ x y, fieldOf 10 5 v = 0x14 → x = fieldOf 6 4 v → y = fieldOf 2 4 v → v % 4 = 1 →
      shortEff k rd v = some { lands := [(4, .d x, rd (k.aR y).toNat), (1, .a (y % 8), k.aR y + 1)] }) ∧
    (∀ x y, fieldOf 10 5 v = 0x15 → x = fieldOf 6 4 v → y = fieldOf 2 4 v → v % 4 = 0 →
      shortEff k rd v = some { stores := [((k.aR y).toNat, k.dR x)] }) := by
  have hmode : fieldOf 0 2 v = v % 4 := fieldOf_zero 2 v
  refine ⟨?_, ?_, ?_, ?_⟩ <;> rintro _ _ hop rfl rfl hm
  · simp [shortEff, hop, hmode, hm, shortAlu, effReg, (aluAdd_shows _ _ _).1]
  · simp [shortEff, hop, hmode, hm, shortAlu, effReg, (aluSub_shows _ _ _).1]
  · simp [shortEff, hop, hmode, hm, shortUpdate]
  · simp [shortEff, hop, hmode, hm, shortUpdate]

/-- Settles O42: both slots of a pair, or none; and the address of the next word by delay slots, loops and order. -/
theorem zwPairsLoopsAndDelaySlots : Obligations.ZwPairsLoopsAndDelaySlots := by
  unfold Obligations.ZwPairsLoopsAndDelaySlots
  refine ⟨?pair, ?illegal, ?reserved, ?idle, ?stopped, ?short, ?order, ?level1, ?level0, ?ends, ?slot, ?target⟩
  case pair =>
    rintro dt c w s _ _ a b rfl rfl rfl hi hpair h0 ha hb
    exact exec_zwPairWord_of_known hi hpair h0 ha hb
  case illegal =>
    rintro dt c w s _ _ rfl rfl rfl hi hpair h
    refine exec_zwPairWord_of_unknown hi hpair (h.imp (fun h => ?_) (Or.imp_left fun h => ?_))
    · exact shortEff_of_reserved _ _ _ (by rwa [fieldOf_fieldOf 16 15 10 5 _ (by decide)])
    · exact shortEff_of_reserved _ _ _ (by rwa [fieldOf_fieldOf 1 15 10 5 _ (by decide)])
  case reserved =>
    rintro dt c s _ rfl hi hlong h
    exact exec_zwReservedLongWord_of_unknown hi hlong h
  case idle => exact fun dt c s h => exec_zw_of_idle h
  case stopped =>
    intro s c
    obtain ⟨hrun, hstop, hwait, -⟩ := State.zw_zwStop (s.fault 97 { page := corePage c, addr := (s.zw c).pc, engine := c }) c 2
    exact ⟨hrun, hstop, hwait⟩
  case short => exact shortEff_shows
  case order => exact fun k size hd h0 h1 => k.advance_of_order size hd h0 h1
  case level1 => exact fun k size hd ha hs hc => k.advance_of_level1 size hd ha hs hc
  case level0 => exact fun k size hd ha hs hc ha0 hs0 hc0 => k.advance_of_level0 size hd ha hs hc ha0 hs0 hc0
  case ends => exact fun k size hd h1 ha0 hs0 hc0 => k.advance_of_end size hd h1 ha0 hs0 hc0
  case slot =>
    intro k size t h
    simp [ZwCore.advance, h]
  case target =>
    intro k size t h
    simp [ZwCore.advance, h]

end Sys2Proof.Machine
end

section
-- One theorem after another: each waiting thread takes 256 MB of the memory the check allows.
set_option Elab.async false
/-! SUPPORT. Control words of a Zugrim core, and waits (R335, R349 to R353, R357, R365). The statement on them, settled. -/

namespace Sys2Proof.Machine

section
variable {dt c op : Nat} {s : State} {f : State → ZwCore → Nat → State}

/-- A control word that issues outside delay slots and loop ends does what it says. -/
theorem State.zwControl_of_runs (h : (s.tick dt).zwRuns c op) (hd : (((s.tick dt).settle c).zw c).delay = none)
    (hl : (((s.tick dt).settle c).zw c).atLoopEnd = false) : s.zwControl dt c op f =
    .next (f ((s.tick dt).settle c) (((s.tick dt).settle c).zw c) ((s.tick dt).nextWord c)) := by
  obtain ⟨hi, hlong, hop⟩ := h
  simp only [State.zwControl, hi, hlong, hop, hd, hl, Bool.not_false, Bool.and_true, decide_true, if_true, Option.isSome_none,
    Bool.or_false, Bool.false_eq_true, if_false]

theorem State.zwControl_of_slot (h : (s.tick dt).zwRuns c op) (hs : (((s.tick dt).settle c).zw c).delay.isSome ∨
    (((s.tick dt).settle c).zw c).atLoopEnd = true) : s.zwControl dt c op f = .next (((s.tick dt).settle c).zwIllegal c) := by
  obtain ⟨hi, hlong, hop⟩ := h
  have hslot : ((((s.tick dt).settle c).zw c).delay.isSome || (((s.tick dt).settle c).zw c).atLoopEnd) = true :=
    (Bool.or_eq_true _ _).mpr hs
  simp only [State.zwControl, hi, hlong, hop, hslot, Bool.not_false, Bool.and_true, decide_true, if_true]

/-- The same, for the command of the word. -/
theorem exec_control_of_runs (y : Res) {u : State} {k : ZwCore} {w : Nat} (hy : y = s.zwControl dt c op f) (hu : u = (s.tick dt).settle c)
    (hk : k = u.zw c) (hw : w = (s.tick dt).nextWord c) (hd : k.delay = none) (hl : k.atLoopEnd = false) (h : (s.tick dt).zwRuns c op) :
    y = .next (f u k w) := by
  subst hu hk hw
  exact hy.trans (State.zwControl_of_runs h hd hl)

theorem exec_control_of_slot (y : Res) (hy : y = s.zwControl dt c op f) (hs : (((s.tick dt).settle c).zw c).delay.isSome ∨
    (((s.tick dt).settle c).zw c).atLoopEnd = true) (h : (s.tick dt).zwRuns c op) : y = .next (((s.tick dt).settle c).zwIllegal c) :=
  hy.trans (State.zwControl_of_slot h hs)

end

/-! ### Where a control word goes -/

section
variable (s : State) (c : Nat)

/-- `t` is `s` but for core `c`, which is `x`. -/
def State.GoesTo (s : State) (c : Nat) (t : State) (x : ZwCore) : Prop := t.zw c = x ∧ (∀ d, d ≠ c → t.zw d = s.zw d) ∧ t.bus = s.bus

variable {s c} in
theorem State.GoesTo.modZw {t : State} {x : ZwCore} (h : s.GoesTo c t x) (f : ZwCore → ZwCore) : s.GoesTo c (t.modZw c f) (f x) := by
  obtain ⟨hx, hother, hbus⟩ := h
  exact ⟨by rw [State.zw_modZw, hx], fun d hd => (t.zw_modZw_ne c f hd).trans (hother d hd), hbus⟩

theorem State.goesTo_refl : s.GoesTo c s (s.zw c) := ⟨rfl, fun _ _ => rfl, rfl⟩

variable {s c} in
theorem State.GoesTo.branch {t : State} {x : ZwCore} (h : s.GoesTo c t x) (target : Option Nat) : s.GoesTo c (t.branch c target)
    { x with n := x.n + 1, pc := (x.pc + 1) % imemWords c, delay := some (2, target.map (· % imemWords c)) } := by
  have hpc := h.1
  unfold State.branch State.ctlGo
  rw [hpc]
  exact (h.modZw _).modZw _

theorem State.call_of_room (target : Nat) (h : (s.zw c).stack.length < 64) : s.call c target =
    (s.modZw c (fun k => { k with stack := (k.pc + 3) % imemWords c :: k.stack })).branch c (some target) := by
  unfold State.call
  simp only [Nat.not_le.mpr h, if_false]

theorem State.call_of_full (target : Nat) (h : (s.zw c).stack.length = 64) : s.call c target = s.zwStackFault c := by
  unfold State.call
  simp only [h, le_refl, if_true]

theorem State.loopSet_of_some (l : Nat) (count : Word) (body : Nat) (h : count ≠ 0) : s.GoesTo c (s.loopSet c l count body)
    { ((s.zw c).setLc l count).setLevel l ⟨true, ((s.zw c).pc + 1) % imemWords c, ((s.zw c).pc + body) % imemWords c⟩ with
      n := (((s.zw c).setLc l count).setLevel l ⟨true, ((s.zw c).pc + 1) % imemWords c, ((s.zw c).pc + body) % imemWords c⟩).n + 1
      pc := ((s.zw c).pc + 1) % imemWords c } := by
  unfold State.loopSet State.ctlGo
  simp only [h, if_false]
  exact ((s.goesTo_refl c).modZw _).modZw _

theorem State.loopSet_of_none (l : Nat) (body : Nat) : s.GoesTo c (s.loopSet c l 0 body)
    { ((s.zw c).setLc l 0).setLevel l ⟨false, 0, 0⟩ with
      n := (((s.zw c).setLc l 0).setLevel l ⟨false, 0, 0⟩).n + 1
      pc := ((s.zw c).pc + body + 1) % imemWords c } := by
  unfold State.loopSet State.ctlGo
  simp only [if_true]
  exact ((s.goesTo_refl c).modZw _).modZw _

/-! ### Waits (R357) -/

variable (d : Nat) (mask : Word)

theorem State.waitFor_of_none (h : s.evtOf c &&& mask = 0) : s.waitFor c d mask =
    ((s.ctlGo c ((s.zw c).pc + 1)).modZw c (fun k => { k with waiting := some (mask, d) })).setRun c 2 := by
  unfold State.waitFor
  simp only [h, ne_eq, not_true_eq_false, if_false]

theorem State.waitFor_of_some (h : s.evtOf c &&& mask ≠ 0) : s.waitFor c d mask =
    ((s.ctlGo c ((s.zw c).pc + 1)).modZw c (fun k => { k with d := k.d.put 0 d (s.evtOf c &&& mask) })).clearEvt c (s.evtOf c &&& mask) := by
  unfold State.waitFor
  simp only [ne_eq, h, not_false_eq_true, if_true]

/-- Clearing the events that a mask shows leaves those outside the mask. -/
theorem State.evtOf_clearEvt : (s.clearEvt c (s.evtOf c &&& mask)).evtOf c = s.evtOf c &&& ~~~mask := by
  unfold State.evtOf State.clearEvt
  rw [State.on_bus, SMap.find_put]
  generalize s.bus.evt.find 0 c = e
  generalize (if c < 96 then 0x3FFFFFFF#32 else 0x7FFF0000#32) = m
  apply BitVec.eq_of_getLsbD_eq
  intro i hi
  simp only [BitVec.getLsbD_and, BitVec.getLsbD_not, hi, decide_true, Bool.true_and]
  cases e.getLsbD i <;> cases m.getLsbD i <;> cases mask.getLsbD i <;> rfl

theorem State.evtOf_of_bus {s t : State} (h : t.bus.evt = s.bus.evt) (c : Nat) : t.evtOf c = s.evtOf c := by
  unfold State.evtOf
  rw [h]

end

theorem exec_waitResume_of_none {dt c d : Nat} {mask : Word} {s : State} (hw : (s.zw c).waiting = some (mask, d))
    (h : s.evtOf c &&& mask = 0) : exec (.waitResume dt c) s = .next (s.tick dt) := by
  have hw' : ((s.tick dt).zw c).waiting = some (mask, d) := hw
  have h' : (s.tick dt).evtOf c &&& mask = 0 := h
  show execWaitResume dt c s = _
  simp only [execWaitResume, hw', h', if_true]

theorem exec_waitResume_of_some {dt c d : Nat} {mask : Word} {s : State} (hw : (s.zw c).waiting = some (mask, d))
    (h : s.evtOf c &&& mask ≠ 0) : exec (.waitResume dt c) s = .next ((((s.tick dt).modZw c
      (fun k => { k with d := k.d.put 0 d (s.evtOf c &&& mask), waiting := none })).clearEvt c (s.evtOf c &&& mask)).setRun c 1) := by
  have hw' : ((s.tick dt).zw c).waiting = some (mask, d) := hw
  have he : (s.tick dt).evtOf c = s.evtOf c := rfl
  show execWaitResume dt c s = _
  simp only [execWaitResume, hw', he, h, if_false]

/-! ### The control words, one by one (Table 12-5) -/

section
variable {dt c w : Nat} {s u : State} {k : ZwCore} (hu : u = (s.tick dt).settle c) (hk : k = u.zw c) (hw : w = (s.tick dt).nextWord c)
  (hd : k.delay = none) (hl : k.atLoopEnd = false)
include hu hk hw hd hl

theorem exec_zwBr_goes (h : (s.tick dt).zwRuns c 0x40) : ∃ t, exec (.zwBr dt c) s = .next t ∧ u.GoesTo c t { k with
    n := k.n + 1, pc := (k.pc + 1) % imemWords c
    delay := some (2, if condHolds (wD w) k.st then some (wImm w % imemWords c) else none) } := by
  refine ⟨_, exec_control_of_runs (execZwBr dt c s) rfl hu hk hw hd hl h, ?_⟩
  rw [show (if condHolds (wD w) k.st then some (wImm w % imemWords c) else none) =
    (if condHolds (wD w) k.st then some (wImm w) else none).map (· % imemWords c) by split <;> rfl]
  exact State.GoesTo.branch (hk ▸ u.goesTo_refl c) _

theorem exec_zwJr_goes (h : (s.tick dt).zwRuns c 0x41) : ∃ t, exec (.zwJr dt c) s = .next t ∧ u.GoesTo c t { k with
    n := k.n + 1, pc := (k.pc + 1) % imemWords c
    delay := some (2, if condHolds (wD w) k.st then some ((k.dR (wA w)).toNat % 65536 % imemWords c) else none) } := by
  refine ⟨_, exec_control_of_runs (execZwJr dt c s) rfl hu hk hw hd hl h, ?_⟩
  rw [fieldOf_zero, show (if condHolds (wD w) k.st then some ((k.dR (wA w)).toNat % 65536 % imemWords c) else none) =
    (if condHolds (wD w) k.st then some ((k.dR (wA w)).toNat % 2 ^ 16) else none).map (· % imemWords c) by split <;> rfl]
  exact State.GoesTo.branch (hk ▸ u.goesTo_refl c) _

theorem exec_zwCall_goes (h : (s.tick dt).zwRuns c 0x42) (hroom : k.stack.length < 64) : ∃ t, exec (.zwCall dt c) s = .next t ∧
    u.GoesTo c t { k with n := k.n + 1, pc := (k.pc + 1) % imemWords c, stack := (k.pc + 3) % imemWords c :: k.stack
                          delay := some (2, some (wImm w % imemWords c)) } := by
  refine ⟨_, exec_control_of_runs (execZwCall dt c s) rfl hu hk hw hd hl h, ?_⟩
  rw [State.call_of_room u c _ (hk ▸ hroom)]
  exact (State.GoesTo.modZw (hk ▸ u.goesTo_refl c) _).branch _

theorem exec_zwCallr_goes (h : (s.tick dt).zwRuns c 0x43) (hroom : k.stack.length < 64) : ∃ t, exec (.zwCallr dt c) s = .next t ∧
    u.GoesTo c t { k with n := k.n + 1, pc := (k.pc + 1) % imemWords c, stack := (k.pc + 3) % imemWords c :: k.stack
                          delay := some (2, some ((k.dR (wA w)).toNat % 65536 % imemWords c)) } := by
  refine ⟨_, exec_control_of_runs (execZwCallr dt c s) rfl hu hk hw hd hl h, ?_⟩
  rw [State.call_of_room u c _ (hk ▸ hroom), fieldOf_zero]
  exact (State.GoesTo.modZw (hk ▸ u.goesTo_refl c) _).branch _

theorem exec_zwRet_goes {top : Nat} {rest : List Nat} (h : (s.tick dt).zwRuns c 0x44) (hstack : k.stack = top :: rest) :
    ∃ t, exec (.zwRet dt c) s = .next t ∧ u.GoesTo c t { k with
      n := k.n + 1, pc := (k.pc + 1) % imemWords c, stack := rest, delay := some (2, some (top % imemWords c)) } := by
  refine ⟨_, exec_control_of_runs (execZwRet dt c s) rfl hu hk hw hd hl h, ?_⟩
  simp only [hstack]
  exact (State.GoesTo.modZw (hk ▸ u.goesTo_refl c) _).branch _

theorem exec_zwCall_full (h : (s.tick dt).zwRuns c 0x42) (hfull : k.stack.length = 64) :
    exec (.zwCall dt c) s = .next (u.zwStackFault c) := by
  refine (exec_control_of_runs (execZwCall dt c s) rfl hu hk hw hd hl h).trans ?_
  rw [State.call_of_full u c _ (hk ▸ hfull)]

theorem exec_zwRet_empty (h : (s.tick dt).zwRuns c 0x44) (hempty : k.stack = []) :
    exec (.zwRet dt c) s = .next (u.zwStackFault c) := by
  refine (exec_control_of_runs (execZwRet dt c s) rfl hu hk hw hd hl h).trans ?_
  simp only [hempty]

theorem exec_zwLoop_goes (h : (s.tick dt).zwRuns c 0x45) (hone : wD w % 2 = 1) (hcount : k.dR (wA w) ≠ 0) :
    ∃ t, exec (.zwLoop dt c) s = .next t ∧ u.GoesTo c t { k with
      n := k.n + 1, pc := (k.pc + 1) % imemWords c, lc1 := k.dR (wA w)
      loop1 := ⟨true, (k.pc + 1) % imemWords c, (k.pc + (w % 4096 + 1)) % imemWords c⟩ } := by
  refine ⟨_, exec_control_of_runs (execZwLoop dt c s) rfl hu hk hw hd hl h, ?_⟩
  rw [hone, show wExt w = w % 4096 from fieldOf_zero 12 w]
  subst hk
  exact u.loopSet_of_some c 1 _ _ hcount

theorem exec_zwLoop_none (h : (s.tick dt).zwRuns c 0x45) (hone : wD w % 2 = 1) (hcount : k.dR (wA w) = 0) :
    ∃ t, exec (.zwLoop dt c) s = .next t ∧ u.GoesTo c t { k with
      n := k.n + 1, pc := (k.pc + (w % 4096 + 1) + 1) % imemWords c, lc1 := 0, loop1 := ⟨false, 0, 0⟩ } := by
  refine ⟨_, exec_control_of_runs (execZwLoop dt c s) rfl hu hk hw hd hl h, ?_⟩
  rw [hone, show wExt w = w % 4096 from fieldOf_zero 12 w, hcount]
  subst hk
  exact u.loopSet_of_none c 1 _

theorem exec_zwLoopi_goes (h : (s.tick dt).zwRuns c 0x46) (hzero : wD w % 2 = 0) (hcount : 0 < w / 64 % 1024) :
    ∃ t, exec (.zwLoopi dt c) s = .next t ∧ u.GoesTo c t { k with
      n := k.n + 1, pc := (k.pc + 1) % imemWords c, lc0 := BitVec.ofNat 32 (w / 64 % 1024)
      loop0 := ⟨true, (k.pc + 1) % imemWords c, (k.pc + (w % 64 + 1)) % imemWords c⟩ } := by
  have hne : BitVec.ofNat 32 (w / 64 % 1024) ≠ 0 := by
    intro he
    have h0 := congrArg BitVec.toNat he
    simp only [BitVec.ofNat_eq_ofNat, BitVec.toNat_ofNat] at h0
    omega
  refine ⟨_, exec_control_of_runs (execZwLoopi dt c s) rfl hu hk hw hd hl h, ?_⟩
  rw [hzero, show fieldOf 0 6 w = w % 64 from fieldOf_zero 6 w]
  subst hk
  exact u.loopSet_of_some c 0 _ _ hne

theorem exec_zwWait_of_runs (h : (s.tick dt).zwRuns c 0x47) : exec (.zwWait dt c) s =
    .next ((u.drain c).waitFor c (wD w) (((u.drain c).zw c).dR (wA w))) :=
  exec_control_of_runs (f := fun s _ w => (s.drain c).waitFor c (wD w) (((s.drain c).zw c).dR (wA w)))
    (execZwWait dt c s) rfl hu hk hw hd hl h

theorem exec_zwWaiti_of_runs (h : (s.tick dt).zwRuns c 0x48) : exec (.zwWaiti dt c) s = .next ((u.drain c).waitFor c (wD w)
    (BitVec.ofNat 32 (if wA w % 2 = 1 then wImm w * 65536 else wImm w))) :=
  exec_control_of_runs (f := fun s _ w => (s.drain c).waitFor c (wD w)
    (BitVec.ofNat 32 (if wA w % 2 = 1 then wImm w * 65536 else wImm w))) (execZwWaiti dt c s) rfl hu hk hw hd hl h

theorem exec_zwHalt_of_runs (h : (s.tick dt).zwRuns c 0x4B) : exec (.zwHalt dt c) s = .next (u.zwStop c 1) :=
  exec_control_of_runs (f := fun s _ _ => s.zwStop c 1) (execZwHalt dt c s) rfl hu hk hw hd hl h

end

/-- Settles O44: a control word moves its core alone, and is illegal in a delay slot and at the end of a loop. -/
theorem zwControlWordsIssue : Obligations.ZwControlWordsIssue := by
  unfold Obligations.ZwControlWordsIssue
  refine ⟨?words, ?slots, ?blocks, ?continues, ?resumes, ?stays⟩
  case words =>
    rintro dt c w _ s _ u k goes rfl hu hk hw rfl hd hl hgoes
    have hbus := State.coreOnly_settle (s.tick dt) c
    have lift : ∀ {y : Res} {x : ZwCore}, (∃ t, y = .next t ∧ u.GoesTo c t x) → ∃ t, y = .next t ∧ goes t x := by
      rintro y x ⟨t, hy, hx, hother, hb⟩
      exact ⟨t, hy, (hgoes t x).mpr ⟨hx, fun d hne => (hother d hne).trans (hu ▸ hbus.other d hne), hb⟩⟩
    exact ⟨fun h => lift (exec_zwBr_goes hu hk hw hd hl h), fun h => lift (exec_zwJr_goes hu hk hw hd hl h),
      fun h hroom => lift (exec_zwCall_goes hu hk hw hd hl h hroom), fun h hroom => lift (exec_zwCallr_goes hu hk hw hd hl h hroom),
      fun _ _ h hstack => lift (exec_zwRet_goes hu hk hw hd hl h hstack), exec_zwCall_full hu hk hw hd hl,
      exec_zwRet_empty hu hk hw hd hl, fun h hone hcount => lift (exec_zwLoop_goes hu hk hw hd hl h hone hcount),
      fun h hone hcount => lift (exec_zwLoop_none hu hk hw hd hl h hone hcount),
      fun h hzero hcount => lift (exec_zwLoopi_goes hu hk hw hd hl h hzero hcount), exec_zwWait_of_runs hu hk hw hd hl,
      exec_zwWaiti_of_runs hu hk hw hd hl, exec_zwHalt_of_runs hu hk hw hd hl⟩
  case slots =>
    rintro dt c s _ rfl hs
    exact ⟨exec_control_of_slot (execZwBr dt c s) rfl hs, exec_control_of_slot (execZwRet dt c s) rfl hs,
      exec_control_of_slot (execZwLoop dt c s) rfl hs, exec_control_of_slot (execZwHalt dt c s) rfl hs⟩
  case blocks =>
    intro s c d mask h
    rw [s.waitFor_of_none c d mask h]
    refine ⟨?_, ?_, ?_⟩
    · rw [State.zw_setRun, State.zw_modZw]
    · rw [State.zw_setRun, State.zw_modZw, State.ctlGo, State.zw_modZw]
    · exact State.setRun_evt _ c 2
  case continues =>
    intro s c d mask h
    rw [s.waitFor_of_some c d mask h]
    refine ⟨?_, ?_, ?_⟩
    · rw [State.zw_clearEvt, State.zw_modZw, State.ctlGo, State.zw_modZw]
    · rw [State.zw_clearEvt, State.zw_modZw]
      exact SMap.find_put _ _ _ _
    · exact s.evtOf_clearEvt c mask
  case resumes =>
    rintro dt c d mask _ s hw rfl h
    refine ⟨_, exec_waitResume_of_some hw h, ?_, ?_, ?_⟩
    · rw [State.zw_setRun, State.zw_clearEvt, State.zw_modZw]
    · rw [State.zw_setRun, State.zw_clearEvt, State.zw_modZw]
      exact SMap.find_put _ _ _ _
    · rw [State.evtOf_of_bus (State.setRun_evt _ c 1) c]
      exact s.evtOf_clearEvt c mask
  case stays => exact fun dt c d mask s hw h => exec_waitResume_of_none hw h

end Sys2Proof.Machine
end

section
-- One theorem after another: each waiting thread takes 256 MB of the memory the check allows.
set_option Elab.async false
/-! SUPPORT. The pages of the control die, of the workers and of the field buses that no entry grants (Table 3-4), and fields and bits of a
register under writes of another. -/

namespace Sys2Proof.Machine

/-! ### Plain pages -/

/-- Where the blocks granted by entry stand (Table 3-4). -/
theorem blockTable_entry_apart : ∀ r ∈ blockTable, (match r.grant with | .entry _ _ _ => true | _ => false) = true →
    (0x1200 ≤ r.page ∧ r.page + r.pages ≤ 0x1C00) ∨ (0x2200 ≤ r.page ∧ r.page + r.pages ≤ 0x3C00) := by
  decide

theorem entryGranted_of_apart {page : Nat} (h : page < 0x1200 ∨ (0x1C00 ≤ page ∧ page < 0x2200) ∨ 0x3C00 ≤ page) :
    entryGranted page = false := by
  unfold entryGranted rowOfPage
  by_cases haside : asidePage page = true
  · rw [if_pos haside]
  · rw [if_neg haside]
    split
    · next r hr =>
      have hin := List.find?_some hr
      simp only [Bool.and_eq_true, decide_eq_true_eq] at hin
      rw [← Bool.not_eq_true]
      intro hg
      have happ := blockTable_entry_apart r (List.mem_of_find?_eq_some hr) hg
      omega
    · rfl

theorem plainPage_of_apart {page : Nat} (h : page < 0x1200 ∨ (0x1C00 ≤ page ∧ page < 0x2200) ∨ (0x3C00 ≤ page ∧ page < 0x4000))
    (hvi : page < 0x100 ∨ 0x500 ≤ page) (hkeeper : page < 0x80 ∨ 0x82 ≤ page) (hvim : page ≠ 1) : PlainPage page :=
  ⟨entryGranted_of_apart (by omega), fun off ho => reportKey_rk page off (by omega) ho ⟨hvi, hkeeper, .inl hvim⟩⟩

theorem plainPage_control {page : Nat} (h : page < 0x80 := by decide) (hvim : page ≠ 1 := by decide) : PlainPage page :=
  plainPage_of_apart (by omega) (by omega) (by omega) hvim

theorem plainPage_dky : PlainPage dkyPage := plainPage_control
theorem plainPage_idn : PlainPage idnPage := plainPage_control
theorem plainPage_rng : PlainPage rngPage := plainPage_control
theorem plainPage_upd : PlainPage updPage := plainPage_control
theorem plainPage_pwr : PlainPage pwrPage := plainPage_control
theorem plainPage_bud : PlainPage budPage := plainPage_control
theorem plainPage_flt : PlainPage fltPage := plainPage_control

theorem plainPage_zwk {w : Nat} (h : w < 96) : PlainPage (zwkPage w) := by
  refine plainPage_of_apart ?_ ?_ ?_ ?_ <;> simp only [zwkPage, Block.pg, Block.base] <;> omega

theorem plainPage_tok {n : Nat} (h : n < 8) : PlainPage (tokPage n) := by
  refine plainPage_of_apart ?_ ?_ ?_ ?_ <;> simp only [tokPage, Block.pg, Block.base] <;> omega

theorem plainPage_can {n : Nat} (h : n < 16) : PlainPage (canPage n) := by
  refine plainPage_of_apart ?_ ?_ ?_ ?_ <;> simp only [canPage, Block.pg, Block.base] <;> omega

/-! ### Fields and bits of another register -/

/-- EVT_PEND of a page is no register at another offset. -/
theorem pendKey_ne {p q off : Nat} (h : off ≠ hdrEvtPend := by decide) (ho : off < 4096 := by decide) : pendKey p ≠ rk q off :=
  rk_ne_of_off h.symm (by decide) ho

section
variable (s : State) (k j : Nat)

theorem State.fld_wr_ne (v lo w : Nat) (h : j ≠ k) : (s.wr k v).fld j lo w = s.fld j lo w := State.fld_of_rd (s.rd_wr_ne k v j h) lo w

theorem State.bit_wr_ne (v i : Nat) (h : j ≠ k) : (s.wr k v).bit j i = s.bit j i := State.bit_of_rd (s.rd_wr_ne k v j h) i

theorem State.fld_setFld_ne (lo w v lo' w' : Nat) (h : j ≠ k) : (s.setFld k lo w v).fld j lo' w' = s.fld j lo' w' :=
  State.fld_of_rd (s.rd_setFld_ne k lo w v j h) lo' w'

theorem State.bit_setFld_ne (lo w v i : Nat) (h : j ≠ k) : (s.setFld k lo w v).bit j i = s.bit j i :=
  State.bit_of_rd (s.rd_setFld_ne k lo w v j h) i

theorem State.bit_addSat_ne (n i : Nat) (h : j ≠ k) : (s.addSat k n).bit j i = s.bit j i := State.bit_of_rd (s.rd_addSat_ne k n j h) i

theorem State.fld_addWrap_ne (n lo w : Nat) (h : j ≠ k) : (s.addWrap k n).fld j lo w = s.fld j lo w :=
  State.fld_of_rd (s.rd_addWrap_ne k n j h) lo w

theorem State.bit_addWrap_ne (n i : Nat) (h : j ≠ k) : (s.addWrap k n).bit j i = s.bit j i := State.bit_of_rd (s.rd_addWrap_ne k n j h) i

theorem State.fld_emit (o : Out) (lo w : Nat) : (s.emit o).fld k lo w = s.fld k lo w := rfl

theorem State.rd_disarm (t : Nat) : (s.disarm t).rd k = s.rd k := rfl

theorem State.fld_disarm (t lo w : Nat) : (s.disarm t).fld k lo w = s.fld k lo w := rfl

theorem State.bit_disarm (t i : Nat) : (s.disarm t).bit k i = s.bit k i := rfl

end

/-! ### Fields and bits under an event of a page -/

namespace PlainPage

variable {page q : Nat} (hp : PlainPage page) (hq : PlainPage q) {s : State} (hr : s.bus.Ranged)
include hp hr hq

theorem fld_raise (i lo w : Nat) {off : Nat} (hne : off ≠ hdrEvtPend := by decide) (ho : off < 4096 := by decide) :
    (s.raise page i).fld (rk q off) lo w = s.fld (rk q off) lo w :=
  State.fld_of_rd (hp.rd_raise hq hr i hne ho) lo w

theorem bit_raise (i j : Nat) {off : Nat} (hne : off ≠ hdrEvtPend := by decide) (ho : off < 4096 := by decide) :
    (s.raise page i).bit (rk q off) j = s.bit (rk q off) j :=
  State.bit_of_rd (hp.rd_raise hq hr i hne ho) j

end PlainPage

end Sys2Proof.Machine
end

section
-- One theorem after another: each waiting thread takes 256 MB of the memory the check allows.
set_option Elab.async false
/-! SUPPORT. A worker under the accesses of its owner (R355, R358, R364 to R366). The statement on them, settled. -/

namespace Sys2Proof.Machine

/-! ### Event bits of a core (R355) -/

theorem State.evt_setEvt (s : State) (c n i : Nat) (hi : i < 32) :
    ((s.on (·.setEvt c n)).bus.evt.find 0 c).getLsbD i = ((s.bus.evt.find 0 c).getLsbD i || decide (i = n)) := by
  rw [State.on_bus, Bus.setEvt, SMap.find_put, BitVec.getLsbD_or, BitVec.getLsbD_ofNat, Nat.testBit_two_pow]
  simp only [hi, decide_true, Bool.true_and, eq_comm]

theorem State.evt_setEvt_ne (s : State) (c n : Nat) {d : Nat} (h : d ≠ c) :
    (s.on (·.setEvt c n)).bus.evt.find 0 d = s.bus.evt.find 0 d := SMap.find_put_ne _ _ _ _ _ _ h

/-- Doorbell bits set their event bits, whatever their order. -/
theorem State.evt_doorbellBits (c v : Nat) (l : List Nat) (s : State) (i : Nat) (hi : i < 32) :
    ((l.foldl (fun a j => if bitOf j v then a.on (·.setEvt c (24 + j)) else a) s).bus.evt.find 0 c).getLsbD i =
      ((s.bus.evt.find 0 c).getLsbD i || l.any (fun j => bitOf j v && decide (i = 24 + j))) := by
  induction l generalizing s with
  | nil => simp only [List.foldl_nil, List.any_nil, Bool.or_false]
  | cons j l ih =>
    rw [List.foldl_cons, ih, List.any_cons]
    split
    · next h => rw [State.evt_setEvt _ _ _ _ hi, h, Bool.true_and, Bool.or_assoc]
    · next h => rw [Bool.eq_false_of_not_eq_true h, Bool.false_and, Bool.false_or]

theorem any_doorbell (v i : Nat) : (List.range 4).any (fun j => bitOf j v && decide (i = 24 + j)) =
    (decide (24 ≤ i) && decide (i < 28) && bitOf (i - 24) v) := by
  rw [Bool.eq_iff_iff]
  simp only [List.any_eq_true, List.mem_range, Bool.and_eq_true, decide_eq_true_eq]
  constructor
  · rintro ⟨j, hj, hv, rfl⟩
    exact ⟨⟨by omega, by omega⟩, by rwa [Nat.add_sub_cancel_left]⟩
  · rintro ⟨⟨hlo, hhi⟩, hv⟩
    exact ⟨i - 24, by omega, hv, by omega⟩

/-- A doorbell sets event bits of its core, and nothing else. -/
theorem State.doorbell_rest (s : State) (c v : Nat) : s.doorbell c v = { s with bus := (s.doorbell c v).bus } ∧
    ∀ d, d ≠ c → (s.doorbell c v).bus.evt.find 0 d = s.bus.evt.find 0 d := by
  unfold State.doorbell
  refine List.foldlRecOn (motive := fun a : State => a = { s with bus := a.bus } ∧ ∀ d, d ≠ c → a.bus.evt.find 0 d = s.bus.evt.find 0 d) _ _
    ⟨rfl, fun _ _ => rfl⟩ fun a ha j _ => ?_
  obtain ⟨hrest, hother⟩ := ha
  split
  · exact ⟨by rw [hrest]; rfl, fun d hd => (a.evt_setEvt_ne c _ hd).trans (hother d hd)⟩
  · exact ⟨hrest, hother⟩

theorem zwkKey_ne (w : Nat) {off off' : Nat} (h : off ≠ off' := by decide) (ho : off < 4096 := by decide)
    (ho' : off' < 4096 := by decide) : zwkKey w off ≠ zwkKey w off' := rk_ne_of_off h ho ho'

/-! ### Memories of a worker -/

section
variable (s : State) {w : Nat} (hw : w < 96) (a : Nat) (v : Word)

theorem State.worker_ne_keeper (b : Bus) (h : w < 96) : w ≠ 96 + b.keeper := by omega

theorem State.imemRd_imemWr : (s.imemWr w a v).imemRd w a = v := by
  rw [State.imemRd, State.imemWr, State.zw_modZw]
  exact SMap.find_put _ _ _ _

include hw

theorem State.imemRd_imemWr_ne {b : Nat} (h : b % 16384 ≠ a % 16384) : (s.imemWr w a v).imemRd w b = s.imemRd w b := by
  have hsize : imemWords w = 16384 := if_pos hw
  rw [State.imemRd, State.imemWr, State.zw_modZw, hsize]
  refine (SMap.find_put_ne _ _ _ _ _ _ h).trans ?_
  rw [State.imemRd, hsize]

theorem State.dmemRd_worker : s.dmemRd w a = (s.zw w).dmem.find 0 (a % 32768) := by
  rw [State.dmemRd, if_neg (State.worker_ne_keeper s.bus hw), dmemWords, if_pos hw]

theorem State.dmemWr_worker : s.dmemWr w a v = s.modZw w (fun k => { k with dmem := k.dmem.put 0 (a % 32768) v }) := by
  rw [State.dmemWr, if_neg (State.worker_ne_keeper s.bus hw), dmemWords, if_pos hw]

theorem State.dmemRd_dmemWr : (s.dmemWr w a v).dmemRd w a = v := by
  rw [State.dmemRd_worker _ hw, State.dmemWr_worker _ hw, State.zw_modZw]
  exact SMap.find_put _ _ _ _

theorem State.dmemRd_dmemWr_ne {b : Nat} (h : b % 32768 ≠ a % 32768) : (s.dmemWr w a v).dmemRd w b = s.dmemRd w b := by
  rw [State.dmemRd_worker _ hw, State.dmemWr_worker _ hw, State.zw_modZw, State.dmemRd_worker _ hw]
  exact SMap.find_put_ne _ _ _ _ _ _ h

end

/-- Writing registers and answering leave the memories of the cores. -/
theorem State.imemRd_of_cores {s t : State} (h : t.cores = s.cores) (w a : Nat) : t.imemRd w a = s.imemRd w a := by
  rw [State.imemRd, State.zw, h]
  rfl

/-! ### Accesses of the owner -/

section
variable {dt vi w : Nat} {s : State} (ha : s.bus.pageAccess (zwkPage w) vi = 2) (hu : s.bus.pageUp (zwkPage w) = true)
include ha hu

/-- An access through an address and a data register, while the worker is stopped. -/
theorem State.memAccess_write (addr size v : Nat) (rdF : State → Nat → Word) (wrF : State → Nat → Word → State) (h : s.zwStopped w = true) :
    (s.tick dt).memAccess vi w addr rdF wrF size (some v) =
      ((wrF (s.tick dt) (s.rd (zwkKey w addr)) (BitVec.ofNat 32 v)).wr (zwkKey w addr)
        (((wrF (s.tick dt) (s.rd (zwkKey w addr)) (BitVec.ofNat 32 v)).rd (zwkKey w addr) + 1) % size)) := by
  have h' : (s.tick dt).zwStopped w = true := h
  unfold State.memAccess
  dsimp only
  rw [(s.tick dt).guardWrite_owner _ _ _ ha hu, if_pos h', State.rd_tick]

theorem State.memAccess_read (addr size : Nat) (rdF : State → Nat → Word) (wrF : State → Nat → Word → State) (h : s.zwStopped w = true) :
    (s.tick dt).memAccess vi w addr rdF wrF size none =
      ((s.tick dt).emit (.readData vi (rdF (s.tick dt) (s.rd (zwkKey w addr))).toNat)).wr (zwkKey w addr)
        ((s.rd (zwkKey w addr) + 1) % size) := by
  have hval : (if (s.tick dt).zwStopped w then (rdF (s.tick dt) (s.rd (zwkKey w addr))).toNat else 0) =
    (rdF (s.tick dt) (s.rd (zwkKey w addr))).toNat := if_pos h
  refine ((s.tick dt).readBy_owner vi (zwkPage w) _ _ hu ha).trans ((if_pos h).trans ?_)
  rw [State.rd_tick, hval]
  rfl

theorem State.memAccess_running_read (addr size : Nat) (rdF : State → Nat → Word) (wrF : State → Nat → Word → State)
    (h : s.zwStopped w = false) : (s.tick dt).memAccess vi w addr rdF wrF size none = (s.tick dt).emit (.readData vi 0) := by
  have hn : ¬ (s.tick dt).zwStopped w = true := fun he => Bool.false_ne_true (h.symm.trans he)
  refine ((s.tick dt).readBy_owner vi (zwkPage w) _ _ hu ha).trans ((if_neg hn).trans ?_)
  rw [if_neg hn]

theorem State.memAccess_running_write (addr size v : Nat) (rdF : State → Nat → Word) (wrF : State → Nat → Word → State)
    (h : s.zwStopped w = false) : (s.tick dt).memAccess vi w addr rdF wrF size (some v) = (s.tick dt).cfgErr (zwkPage w) := by
  have hn : ¬ (s.tick dt).zwStopped w = true := fun he => Bool.false_ne_true (h.symm.trans he)
  unfold State.memAccess
  dsimp only
  rw [(s.tick dt).guardWrite_owner _ _ _ ha hu, if_neg hn]

theorem exec_zwkStart_of_stopped (h : s.zwStopped w = true) : exec (.zwkStart dt vi w) s = .next
    (((s.tick dt).setBit (zwkKey w R.ZWK_CTRL) 0 true).zwStart w (s.fld (zwkKey w R.ZWK_ENTRY) 0 14)) :=
  congrArg Host.Outcome.next (((s.tick dt).guardWrite_owner vi (zwkPage w) _ ha hu).trans (if_pos h))

theorem exec_zwkStop_of_running (h : (s.zw w).running = true) : exec (.zwkStop dt vi w) s = .next
    (((s.tick dt).setBit (zwkKey w R.ZWK_CTRL) 0 false).zwStop w 0) :=
  congrArg Host.Outcome.next (((s.tick dt).guardWrite_owner vi (zwkPage w) _ ha hu).trans (if_pos h))

end

theorem exec_coreStopComplete_of_queue (dt w r : Nat) (s : State) (h : (s.zw w).stopping = some r) (hq : (s.zw w).queue ≠ []) :
    exec (.coreStopComplete dt w) s = .next (s.tick dt) := by
  have h' : ((s.tick dt).zw w).stopping = some r := h
  have hq' : ((s.tick dt).zw w).queue.isEmpty = false := by
    rw [Bool.eq_false_iff, ne_eq, List.isEmpty_iff]
    exact hq
  show execCoreStopComplete dt w s = _
  simp only [execCoreStopComplete, h', hq', Bool.false_eq_true, if_false]

theorem exec_coreStopComplete_of_empty (dt w r : Nat) (s : State) (hw : w < 96) (h : (s.zw w).stopping = some r) (hq : (s.zw w).queue = []) :
    exec (.coreStopComplete dt w) s = .next (((((s.tick dt).modZw w (fun k => { k with stopping := none })).setFld (zwkKey w R.ZWK_STATUS)
      0 2 0).setFld (zwkKey w R.ZWK_STATUS) 2 4 r).raise (zwkPage w) 0) := by
  have h' : ((s.tick dt).zw w).stopping = some r := h
  have hq' : ((s.tick dt).zw w).queue = [] := hq
  show execCoreStopComplete dt w s = _
  simp only [execCoreStopComplete, h', hq', List.isEmpty_nil, if_true, hw, State.setRun_worker _ _ _ hw]

/-- The bits of a ZWK_ROUTE register that a write keeps. -/
theorem testBit_route {v i : Nat} (h : i < 9 ∨ i = 31 ∨ (16 ≤ i ∧ i < 26)) : (maskOf 0x83FF01FF v).testBit i = v.testBit i := by
  have hm : Nat.testBit 0x83FF01FF i = true := by
    have hcases : ∀ i < 32, (i < 9 ∨ i = 31 ∨ (16 ≤ i ∧ i < 26)) → Nat.testBit 0x83FF01FF i = true := by decide
    exact hcases i (by omega) h
  rw [maskOf, Nat.testBit_and, hm]
  simp only [Bool.and_true]

/-- Settles O45. A start resets the core but for its memories (`State.zwStart`); a stop drains it (`State.zw_zwStop`). -/
theorem workersStartStopAndAreReached : Obligations.WorkersStartStopAndAreReached := by
  unfold Obligations.WorkersStartStopAndAreReached
  refine ⟨?start, ?stop, ?stopped, fun dt w r s => exec_coreStopComplete_of_queue dt w r s, ?imemWrite, ?dmemWrite, ?imemRead, ?dmemRead,
    ?readRunning, ?writeRunning, ?doorbell, ?timer, ?expire, ?route, ?routeRefused⟩
  case start =>
    intro dt vi w s hw ha hu h
    have hentry : s.fld (zwkKey w R.ZWK_ENTRY) 0 14 % imemWords w = s.fld (zwkKey w R.ZWK_ENTRY) 0 14 :=
      (congrArg _ (if_pos hw)).trans (Nat.mod_eq_of_lt (fieldOf_lt 0 14 _))
    refine ⟨_, exec_zwkStart_of_stopped ha hu h, ?_, ?_, ?_, ?_, fun d hd => ?_⟩ <;> unfold State.zwStart <;> dsimp only
    · rw [State.zw_setRun, State.zw_on, State.zw_setZw, hentry]
      rfl
    · rw [State.setRun_worker _ _ _ hw]
      exact State.fld_setFld _ _ 0 2 1 (by decide)
    · rw [State.setRun_worker _ _ _ hw, State.bit_setFld_ne _ _ (zwkKey w R.ZWK_CTRL) _ _ _ _ (zwkKey_ne w)]
      exact State.bit_setBit (s.tick dt) _ 0 true (by decide)
    · rw [State.setRun_evt]
      exact SMap.find_put _ _ _ _
    · rw [State.zw_setRun, State.zw_on, State.zw_setZw_ne _ _ _ hd]
      rfl
  case stop =>
    intro dt vi w s hw ha hu h
    have honly := ((s.tick dt).setBit (zwkKey w R.ZWK_CTRL) 0 false).coreOnly_zwStop w 0
    obtain ⟨hrun, hstop, hwait, hqueue⟩ := ((s.tick dt).setBit (zwkKey w R.ZWK_CTRL) 0 false).zw_zwStop w 0
    refine ⟨_, exec_zwkStop_of_running ha hu h, hrun, hstop, hwait, hqueue, ?_, honly.other⟩
    exact (honly.bit _ 0).trans (State.bit_setBit (s.tick dt) _ 0 false (by decide))
  case stopped =>
    intro dt w r s hr hw h hq hr16
    have hp := plainPage_zwk hw
    have hzw := ((s.tick dt).zw_modZw w (fun k => { k with stopping := none }))
    refine ⟨_, exec_coreStopComplete_of_empty dt w r s hw h hq, congrArg ZwCore.stopping hzw, ?_, ?_,
      hp.pend_raise (by exact hr) 0 (by decide), ?_⟩
    · refine (hp.fld_raise hp (by exact hr) 0 0 2).trans ((State.fld_setFld_of_disjoint _ _ _ _ _ _ _ (by decide) (by decide)).trans ?_)
      exact State.fld_setFld _ _ 0 2 0 (by decide)
    · refine (hp.fld_raise hp (by exact hr) 0 2 4).trans ((State.fld_setFld _ _ 2 4 r (by decide)).trans ?_)
      exact Nat.mod_eq_of_lt hr16
    · have hafter := State.After.refl ((s.tick dt).modZw w (fun k => { k with stopping := none })) [zwkKey w R.ZWK_STATUS, pendKey (zwkPage w)]
      exact ((hafter.setFld _ 0 2 0 List.mem_cons_self).setFld _ 2 4 r List.mem_cons_self).raise hr _ 0 hp.entryGranted
        (List.mem_cons_of_mem _ List.mem_cons_self)
  case imemWrite =>
    rintro dt vi w v a s hw ha hu h rfl
    refine ⟨_, congrArg Host.Outcome.next (State.memAccess_write ha hu R.ZWK_IMEM_ADDR 16384 v _ _ h), ?_, fun b hb => ?_, ?_, ?_⟩
    · exact (State.imemRd_of_cores rfl _ _).trans (State.imemRd_imemWr _ _ _)
    · exact (State.imemRd_of_cores rfl _ _).trans (State.imemRd_imemWr_ne _ hw _ _ hb)
    · rw [State.rd_wr]
      exact Nat.mod_eq_of_lt ((Nat.mod_lt _ (by decide)).trans (by decide))
    · exact (State.After.refl _ _).wr _ _ List.mem_cons_self
  case dmemWrite =>
    rintro dt vi w v a s hw ha hu h rfl
    refine ⟨_, congrArg Host.Outcome.next (State.memAccess_write ha hu R.ZWK_DMEM_ADDR 32768 v _ _ h), ?_, fun b hb => ?_, ?_⟩
    · exact State.dmemRd_dmemWr (s.tick dt) hw _ _
    · exact State.dmemRd_dmemWr_ne (s.tick dt) hw _ _ hb
    · rw [State.rd_wr, (State.CoreOnly.refl (s.tick dt) w |>.dmemWr _ _).rd]
      exact Nat.mod_eq_of_lt ((Nat.mod_lt _ (by decide)).trans (by decide))
  case imemRead =>
    intro dt vi w s hw ha hu h
    refine ⟨_, congrArg Host.Outcome.next (State.memAccess_read ha hu R.ZWK_IMEM_ADDR 16384 _ _ h), rfl, rfl, ?_⟩
    rw [State.rd_wr]
    exact Nat.mod_eq_of_lt ((Nat.mod_lt _ (by decide)).trans (by decide))
  case dmemRead =>
    intro dt vi w s hw ha hu h
    refine ⟨_, congrArg Host.Outcome.next (State.memAccess_read ha hu R.ZWK_DMEM_ADDR 32768 _ _ h), rfl, rfl, ?_⟩
    rw [State.rd_wr]
    exact Nat.mod_eq_of_lt ((Nat.mod_lt _ (by decide)).trans (by decide))
  case readRunning =>
    intro dt vi w s _ ha hu h
    exact ⟨congrArg Host.Outcome.next (State.memAccess_running_read ha hu _ _ _ _ h),
      congrArg Host.Outcome.next (State.memAccess_running_read ha hu _ _ _ _ h)⟩
  case writeRunning =>
    intro dt vi w v s _ ha hu h
    exact ⟨congrArg Host.Outcome.next (State.memAccess_running_write ha hu _ _ _ _ _ h),
      congrArg Host.Outcome.next (State.memAccess_running_write ha hu _ _ _ _ _ h)⟩
  case doorbell =>
    intro dt vi w v s _ ha hu
    obtain ⟨hrest, hother⟩ := (s.tick dt).doorbell_rest w v
    refine ⟨_, congrArg Host.Outcome.next ((s.tick dt).guardWrite_owner vi (zwkPage w) _ ha hu), fun i hi => ?_, hother, hrest⟩
    exact (State.evt_doorbellBits w v _ (s.tick dt) i hi).trans (congrArg _ (any_doorbell v i))
  case timer =>
    intro dt vi w v s hw ha hu hpos hlt
    have hpage : corePage w = zwkPage w := if_pos hw
    have hkey : timerKey w = zwkKey w R.ZWK_TIMER := if_pos hw
    have hus : fieldOf 0 24 v = v := (fieldOf_zero 24 v).trans (Nat.mod_eq_of_lt hlt)
    have hbit : bitOf 31 v = false := by
      rw [bitOf_eq_testBit]
      exact Nat.testBit_lt_two_pow (hlt.trans (by decide))
    rw [← hpage] at ha hu
    refine ⟨_, congrArg Host.Outcome.next ((s.tick dt).guardWrite_owner vi (corePage w) _ ha hu), ?_, ?_⟩ <;> dsimp only <;>
      rw [hus, if_neg (Nat.pos_iff_ne_zero.mp hpos), hkey, hbit]
    · rw [State.rd_arm, State.rd_wr]
      exact Nat.mod_eq_of_lt (hlt.trans (by decide))
    · exact SMap.find?_set _ _ _
  case expire =>
    intro dt w s hdue hw hbit
    have hkey : timerKey w = zwkKey w R.ZWK_TIMER := if_pos hw
    refine congrArg Host.Outcome.next ((State.onExpiry_due _ _ _ hdue).trans ?_)
    dsimp only
    rw [hkey]
    exact if_pos hbit
  case route =>
    intro dt vi w r v s _ ha hu hoff
    have hbit : bitOf 31 (maskOf 0x83FF01FF v) = false := by
      rw [bitOf_eq_testBit, testBit_route (.inr (.inl rfl)), ← bitOf_eq_testBit, hoff]
    have hlt : v &&& 0x83FF01FF < 2 ^ 32 := Nat.and_lt_two_pow _ (by decide)
    refine ⟨(s.tick dt).wr (rkSel (zwkPage w) R.ZWK_ROUTE (r % 16)) (maskOf 0x83FF01FF v), congrArg Host.Outcome.next
      (((s.tick dt).guardWrite_owner vi (zwkPage w) _ ha hu).trans ?_), ?_, (State.After.refl _ _).wr _ _ List.mem_cons_self⟩
    · dsimp only
      rw [hbit, Bool.false_and]
      exact if_neg Bool.false_ne_true
    · rw [State.rd_wr, maskOf, Nat.mod_eq_of_lt hlt]
  case routeRefused =>
    intro dt vi w r v s _ ha hu hon hpages
    have hbit : bitOf 31 (maskOf 0x83FF01FF v) = true := by
      rw [bitOf_eq_testBit, testBit_route (.inr (.inl rfl)), ← bitOf_eq_testBit, hon]
    have hevn : fieldOf 0 9 (maskOf 0x83FF01FF v) = fieldOf 0 9 v := fieldOf_congr _ _ _ _ fun i hi => testBit_route (.inl (by omega))
    have hidx : fieldOf 16 10 (maskOf 0x83FF01FF v) = fieldOf 16 10 v :=
      fieldOf_congr _ _ _ _ fun i hi => testBit_route (.inr (.inr ⟨by omega, by omega⟩))
    have hnone : (eventPages (fieldOf 0 9 v) (fieldOf 16 10 v)).any
        (fun p => decide (1 ≤ (s.tick dt).bus.pageAccess p ((s.tick dt).fld (zwkKey w R.ZWK_VI) 0 10))) = false := by
      rw [List.any_eq_false]
      intro p hp
      have h0 : (s.tick dt).bus.pageAccess p ((s.tick dt).fld (zwkKey w R.ZWK_VI) 0 10) = 0 := hpages p hp
      rw [h0]
      decide
    refine congrArg Host.Outcome.next (((s.tick dt).guardWrite_owner vi (zwkPage w) _ ha hu).trans ?_)
    dsimp only
    rw [hevn, hidx, hnone, hbit]
    exact if_pos rfl

end Sys2Proof.Machine
end

section
-- One theorem after another: each waiting thread takes 256 MB of the memory the check allows.
set_option Elab.async false
/-! SUPPORT. Remote commands: what the report of an event leaves of the EVT bits, and the completion of a command (R340, R360 to R363). The
statement on them, settled. -/

namespace Sys2Proof.Machine

/-! ### EVT bits under the report of events (R358, R359) -/

/-- Every event bit that is 1 in `b` is 1 in `c`. -/
def Bus.EvtKept (b c : Bus) : Prop := ∀ k i, (b.evt.find 0 k).getLsbD i = true → (c.evt.find 0 k).getLsbD i = true

namespace Bus.EvtKept

variable {b c d : Bus}

theorem refl (b : Bus) : b.EvtKept b := fun _ _ h => h

theorem trans (h1 : b.EvtKept c) (h2 : c.EvtKept d) : b.EvtKept d := fun k i h => h2 k i (h1 k i h)

theorem setEvt (h : b.EvtKept c) (k i : Nat) : b.EvtKept (c.setEvt k i) := by
  refine h.trans fun k' j hj => ?_
  by_cases hk : k' = k
  · rw [hk, Bus.setEvt, SMap.find_put, BitVec.getLsbD_or, ← hk, hj, Bool.true_or]
  · rwa [Bus.setEvt, SMap.find_put_ne _ _ _ _ _ _ hk]

theorem foldl {α : Type} (f : Bus → α → Bus) (hf : ∀ c x, Bus.EvtKept c (f c x)) (l : List α) (h : b.EvtKept c) : b.EvtKept (l.foldl f c) :=
  List.foldlRecOn (motive := fun a => b.EvtKept a) l f h fun a ha x _ => ha.trans (hf a x)

theorem fireRoutes (h : b.EvtKept c) (page evn : Nat) : b.EvtKept (c.fireRoutes page evn) := by
  unfold Bus.fireRoutes
  exact foldl _ (fun a _ => (refl a).setEvt _ _) _ h

/-! Writes of registers, output and the keeper's memory leave EVT. -/

section
variable (h : b.EvtKept c)
include h

theorem setBit (k i : Nat) (v : Bool) : b.EvtKept (c.setBit k i v) := h
theorem addSat (k n : Nat) : b.EvtKept (c.addSat k n) := h
theorem addWrap (k n : Nat) : b.EvtKept (c.addWrap k n) := h
theorem emit (o : Out) : b.EvtKept (c.emit o) := h
theorem stepSeq (vi : Nat) : b.EvtKept (c.stepSeq vi) := h
theorem withKdmem (m : SMap Word) : b.EvtKept { c with kdmem := m } := h
theorem withNetHold (m : SMap (List EvRec)) : b.EvtKept { c with netHold := m } := h
theorem sendMsix (vi vec : Nat) : b.EvtKept (c.sendMsix vi vec) := h

theorem keeperStore (r : EvRec) : b.EvtKept (c.keeperStore r).1 := by
  unfold Bus.keeperStore
  extract_lets p tail head a m
  clear_value p tail head a m
  split
  · exact (h.addSat _ _).setBit _ _ _
  · exact ((h.withKdmem _).addWrap _ _).setEvt _ _

theorem raiseOverflow : b.EvtKept c.raiseOverflow := by
  have hfire := (h.setBit (rk vimPage hdrEvtPend) 3 true).fireRoutes vimPage 7
  unfold Bus.raiseOverflow
  dsimp only
  split
  · exact h
  · split
    · exact (hfire.stepSeq 0).keeperStore _
    · exact hfire

theorem toKeeper (r : EvRec) : b.EvtKept (c.toKeeper r) := by
  have hstore := (h.stepSeq 0).keeperStore r
  unfold Bus.toKeeper
  dsimp only
  split
  · exact hstore.raiseOverflow
  · exact hstore

theorem hostStore (vi : Nat) (r : EvRec) : b.EvtKept (c.hostStore vi r).1 := by
  unfold Bus.hostStore
  extract_lets p tail size a
  clear_value p tail size a
  split
  · exact ((h.addSat _ _).setBit _ _ _).raiseOverflow
  · exact ((((h.emit _).emit _).emit _).emit _).addWrap _ _

theorem msixFor (vi evn : Nat) : b.EvtKept (c.msixFor vi evn).1 := by
  unfold Bus.msixFor
  dsimp only
  split
  · split
    · exact h.sendMsix _ _
    · exact h
  · exact h

theorem viVectorError (vi : Nat) : b.EvtKept (c.viVectorError vi) := by
  unfold Bus.viVectorError
  dsimp only
  split
  · exact h
  · have hstore := ((h.setBit (rk (viPage vi) hdrPageStatus) 2 true).stepSeq vi).hostStore vi
      ((c.setBit (rk (viPage vi) hdrPageStatus) 2 true).record vi (viPage vi) 1 5 none)
    split
    · exact hstore.msixFor _ _
    · exact hstore

theorem toHost (vi evn : Nat) (r : EvRec) : b.EvtKept (c.toHost vi evn r) := by
  have hstore := (h.stepSeq vi).hostStore vi r
  unfold Bus.toHost
  dsimp only
  split
  · split
    · split
      · exact (hstore.msixFor _ _).viVectorError _
      · exact hstore.msixFor _ _
    · exact hstore
  · exact h

theorem toNet (vi : Nat) (r : EvRec) : b.EvtKept (c.toNet vi r) := by
  unfold Bus.toNet
  dsimp only
  split
  · exact (h.stepSeq vi).emit _
  · split
    · exact (h.stepSeq vi).withNetHold _
    · exact (((h.stepSeq vi).addSat _ _).setBit _ _ _).raiseOverflow

theorem deliver (vi page bit evn : Nat) (entry : Option Nat) : b.EvtKept (c.deliver vi page bit evn entry) := by
  unfold Bus.deliver
  dsimp only
  split
  · exact h.toKeeper _
  · split
    · exact h.toHost _ _ _
    · exact h.toNet _ _

theorem deliverAll (vis : List Nat) (page bit evn : Nat) (entry : Option Nat) : b.EvtKept (c.deliverAll vis page bit evn entry) := by
  unfold Bus.deliverAll
  exact foldl _ (fun a v => (refl a).deliver v page bit evn entry) _ h

end

/-- An event that occurs clears no event bit of a core. -/
theorem raiseAt (h : b.EvtKept c) (page phys bit who : Nat) (extra : List Nat) (entry : Option Nat) :
    b.EvtKept (c.raiseAt page phys bit who extra entry) := by
  have hfire := (h.setBit (evKey page hdrEvtPend who) bit true).fireRoutes phys (eventNumber page bit)
  unfold Bus.raiseAt
  dsimp only
  split
  · exact h
  · split
    · exact hfire.deliverAll _ _ _ _ _
    · exact hfire

end Bus.EvtKept

theorem State.evt_raise_of_evt (s : State) (page n k i : Nat) (h : (s.bus.evt.find 0 k).getLsbD i = true) :
    ((s.raise page n).bus.evt.find 0 k).getLsbD i = true :=
  (Bus.EvtKept.refl s.bus).raiseAt page page n (s.bus.ownerOfPage page) [] none k i h

/-! ### Words that enter the queue (R340, R360) -/

section
variable {dt c op : Nat} {s : State} {f : State → ZwCore → Nat → RemoteCmd}

/-- A remote word enters the queue while it has room. -/
theorem exec_remote_of_room (y : Res) {u : State} {k : ZwCore} {w : Nat} (hy : y = s.remote dt c op f)
    (hu : u = ((s.tick dt).settle c).setRun c 1) (hk : k = u.zw c) (hw : w = (s.tick dt).nextWord c)
    (hroom : ((s.tick dt).zw c).queue.length < 16) (h : (s.tick dt).zwRuns c op) :
    y = .next ((u.setZw c { k with queue := k.queue ++ [f u k w] }).advance c) := by
  subst hu hk hw
  obtain ⟨hi, hlong, hop⟩ := h
  simp only [hy, State.remote, hi, hlong, hop, Bool.not_false, Bool.and_true, decide_true, if_true, Nat.not_le.mpr hroom, if_false]
  rfl

/-- With the queue full the core freezes. -/
theorem exec_remote_of_full (y : Res) (hy : y = s.remote dt c op f) (hfull : 16 ≤ ((s.tick dt).zw c).queue.length)
    (h : (s.tick dt).zwRuns c op) : y = .next ((s.tick dt).setRun c 3) := by
  obtain ⟨hi, hlong, hop⟩ := h
  simp only [hy, State.remote, hi, hlong, hop, Bool.not_false, Bool.and_true, decide_true, if_true, hfull]

end

/-! ### A command leaves the queue (R340, R361, R362) -/

section
variable (s : State) (c i g : Nat)

/-- What a core shows of its queue after command `i` left it, before it goes on. -/
def State.unqueued (s : State) (c i g : Nat) : State :=
  let s1 := s.modZw c (fun k => { k with queue := (s.zw c).queue.eraseIdx i })
  if ((s.zw c).queue.eraseIdx i).any (fun m => decide (m.group = g)) then s1 else s1.on (·.setEvt c (16 + g))

theorem State.remoteDone_eq : s.remoteDone c i g =
    (let s2 := s.unqueued c i g
     let s3 := if c < 96 ∧ s2.fld (zwkKey c R.ZWK_STATUS) 0 2 = 3 then s2.setRun c 1 else s2
     if c < 96 then s3.addWrap (zwkKey c R.ZWK_CNT_CMD) 1 else s3) := rfl

theorem State.zw_unqueued (d : Nat) : (s.unqueued c i g).zw d =
    (s.modZw c (fun k => { k with queue := (s.zw c).queue.eraseIdx i })).zw d := by
  unfold State.unqueued
  dsimp only
  split <;> rfl

theorem State.zw_remoteDone (d : Nat) : (s.remoteDone c i g).zw d =
    (s.modZw c (fun k => { k with queue := (s.zw c).queue.eraseIdx i })).zw d := by
  rw [State.remoteDone_eq]
  dsimp only
  split <;> split <;> first | exact (State.zw_setRun _ _ _ _).trans (s.zw_unqueued c i g d) | exact s.zw_unqueued c i g d

theorem State.queue_remoteDone : ((s.remoteDone c i g).zw c).queue = (s.zw c).queue.eraseIdx i := by
  rw [State.zw_remoteDone, State.zw_modZw]

theorem State.evt_remoteDone : (s.remoteDone c i g).bus.evt = (s.unqueued c i g).bus.evt := by
  rw [State.remoteDone_eq]
  dsimp only
  split <;> split <;> first | exact State.setRun_evt _ _ _ | rfl

theorem State.rd_unqueued (k : Nat) : (s.unqueued c i g).rd k = s.rd k := by
  unfold State.unqueued
  dsimp only
  split <;> rfl

variable (hc : c < 96)
include hc

/-- A command that leaves the queue of a worker counts in ZWK_CNT_CMD, and a frozen worker goes on. -/
theorem State.rd_remoteDone {off : Nat} (h1 : off ≠ R.ZWK_STATUS := by decide) (h2 : off ≠ R.ZWK_CNT_CMD := by decide)
    (ho : off < 4096 := by decide) : (s.remoteDone c i g).rd (zwkKey c off) = s.rd (zwkKey c off) := by
  rw [State.remoteDone_eq]
  dsimp only
  rw [if_pos hc, State.rd_addWrap_ne _ _ _ _ (zwkKey_ne c h2 ho)]
  split
  · rw [State.setRun_worker _ _ _ hc, State.rd_setFld_ne _ _ _ _ _ _ (zwkKey_ne c h1 ho), s.rd_unqueued]
  · exact s.rd_unqueued c i g _

end

/-! ### Completion (R361, R362) -/

section
variable {dt c i : Nat} {b : Bool} {s : State}

theorem exec_remoteCommandComplete_of_none (h : (s.zw c).queue[i]? = none) :
    exec (.remoteCommandComplete dt c i b) s = .next (s.tick dt) := by
  have h' : ((s.tick dt).zw c).queue[i]? = none := h
  show execRemoteCommandComplete dt c i b s = _
  simp only [execRemoteCommandComplete, h']

theorem exec_remoteCommandComplete_of_meets {m : RemoteCmd} (h : (s.zw c).queue[i]? = some m)
    (hm : ((s.zw c).queue.take i).any ((s.tick dt).meets c m) = true) : exec (.remoteCommandComplete dt c i b) s = .next (s.tick dt) := by
  have h' : ((s.tick dt).zw c).queue[i]? = some m := h
  have hm' : (((s.tick dt).zw c).queue.take i).any ((s.tick dt).meets c m) = true := hm
  show execRemoteCommandComplete dt c i b s = _
  simp only [execRemoteCommandComplete, h', hm', if_true]

/-- A PUT of one word alone in the queue writes its word, and fails with the status of that write. -/
theorem exec_remoteCommandComplete_of_put {g addr : Nat} {v : Word} (haddr : addr < 2 ^ 32)
    (h : (s.zw c).queue = [⟨false, g, addr, 0, [v], 1⟩]) : exec (.remoteCommandComplete dt c 0 b) s = .next
      ((if ((s.tick dt).remoteWrite c addr v.toNat).2 = 0 then ((s.tick dt).remoteWrite c addr v.toNat).1
        else ((s.tick dt).remoteWrite c addr v.toNat).1.remoteFailed c g ((s.tick dt).remoteWrite c addr v.toNat).2 (addr / 4 * 4)).remoteDone
          c 0 g) := by
  have h' : ((s.tick dt).zw c).queue = [⟨false, g, addr, 0, [v], 1⟩] := h
  have hwords : (s.tick dt).putWords c ⟨false, g, addr, 0, [v], 1⟩ (List.range 1) =
      if ((s.tick dt).remoteWrite c addr v.toNat).2 = 0 then (((s.tick dt).remoteWrite c addr v.toNat).1, 0, 0)
      else (((s.tick dt).remoteWrite c addr v.toNat).1, ((s.tick dt).remoteWrite c addr v.toNat).2, addr / 4 * 4) := by
    rw [List.range_one]
    simp only [State.putWords, Nat.mul_zero, Nat.add_zero, Nat.mod_eq_of_lt haddr, List.getD_cons_zero]
  show execRemoteCommandComplete dt c 0 b s = _
  simp only [execRemoteCommandComplete, h', List.getElem?_cons_zero, List.take_zero, List.any_nil, Bool.false_eq_true, if_false, hwords]
  generalize (s.tick dt).remoteWrite c addr v.toNat = r
  by_cases hr : r.2 = 0
  · simp only [hr, if_true]
  · simp only [hr, if_false]

end

theorem remoteAt_dmem {l v : Nat} (hl : l < 84) (hv : v < 32768) : remoteAt (0x20000000 + l * 0x40000 + 4 * v) = .dmem l v := by
  have ha : (0x20000000 + l * 0x40000 + 4 * v) / 4 * 4 = 0x20000000 + l * 0x40000 + 4 * v := by omega
  have hl' : (0x20000000 + l * 0x40000 + 4 * v - 0x20000000) / 0x40000 = l := by omega
  have ho : (0x20000000 + l * 0x40000 + 4 * v - 0x20000000) % 0x40000 = 4 * v := by omega
  unfold remoteAt
  dsimp only
  rw [ha, if_neg (by omega), if_neg (by omega), if_pos (by omega), hl', ho, if_pos (by omega), Nat.mul_div_cancel_left v (by decide)]

/-- VI 0 writes a data memory of a worker that is up. -/
theorem State.remoteWrite_dmem {s : State} {c l x v : Nat} {value : Nat} (hvi : s.actingVi c = 0) (hl : l < 84) (hx : s.workerOf l = some x)
    (hup : s.bus.domUp (4 + x / 16) = true) (hv : v < 32768) :
    s.remoteWrite c (0x20000000 + l * 0x40000 + 4 * v) value = (s.dmemWr x v (BitVec.ofNat 32 value), 0) := by
  simp only [State.remoteWrite, remoteAt_dmem hl hv, State.remoteStatus, hx, hvi, hup, ne_eq, not_true_eq_false, decide_false, Bool.and_false,
    Bool.not_true, Bool.false_eq_true, if_false, Option.getD_some]

theorem State.remoteWrite_nothing (s : State) (c value : Nat) : s.remoteWrite c 0x40000000 value = (s, 4) := rfl

/-- What a failed command of a worker leaves (R362). -/
theorem State.remoteFailed_shows (s : State) (c g addr : Nat) (hr : s.bus.Ranged) (hc : c < 96) (hg : g < 8) (haddr : addr < 2 ^ 32) :
    (s.remoteFailed c g 4 addr).rd (zwkKey c R.ZWK_CMD_ERR_ADDR) = addr ∧ (s.remoteFailed c g 4 addr).fld (zwkKey c R.ZWK_CMD_ERR) 0 4 = 4 ∧
    (s.remoteFailed c g 4 addr).fld (zwkKey c R.ZWK_CMD_ERR) 4 4 = g ∧ (s.remoteFailed c g 4 addr).pend (zwkPage c) 1 = true ∧
    ((s.remoteFailed c g 4 addr).bus.evt.find 0 c).getLsbD 29 = true ∧ (s.remoteFailed c g 4 addr).zw c = s.zw c := by
  have hp := plainPage_zwk hc
  unfold State.remoteFailed
  dsimp only
  rw [if_pos hc]
  refine ⟨?_, ?_, ?_, hp.pend_raise (by exact hr) 1 (by decide), ?_, rfl⟩
  · refine (hp.rd_raise hp (by exact hr) 1).trans ?_
    rw [← zwkKey, State.rd_wr, Nat.mod_eq_of_lt haddr]
  · refine (hp.fld_raise hp (by exact hr) 1 0 4).trans ?_
    rw [← zwkKey, State.fld_wr_ne _ _ _ _ _ _ (zwkKey_ne c), State.fld_wr _ _ _ _ _ (by decide), fieldOf]
    omega
  · refine (hp.fld_raise hp (by exact hr) 1 4 4).trans ?_
    rw [← zwkKey, State.fld_wr_ne _ _ _ _ _ _ (zwkKey_ne c), State.fld_wr _ _ _ _ _ (by decide), fieldOf]
    omega
  · refine State.evt_raise_of_evt _ _ _ _ _ ?_
    exact (s.evt_setEvt c 29 29 (by decide)).trans (Bool.or_true _)

/-- Settles O46. A completed command leaves the queue by `State.remoteDone`; one that fails is reported by `State.remoteFailed`. -/
theorem remoteCommandsQueueAndComplete : Obligations.RemoteCommandsQueueAndComplete := by
  unfold Obligations.RemoteCommandsQueueAndComplete
  refine ⟨?queue, fun dt c i b s => exec_remoteCommandComplete_of_none, fun dt c i b s m => exec_remoteCommandComplete_of_meets, ?put, ?fails⟩
  case queue =>
    rintro dt c w s _ u k rfl hu hk hw
    have hcount : fieldOf 0 8 w = w % 256 := fieldOf_zero 8 w
    refine ⟨fun hroom h => ?get, fun hroom h => ?words, fun hroom h => ?putr, fun hfull h => ?frozen⟩
    case get =>
      rw [← hcount]
      exact exec_remote_of_room (execZwGet dt c s) rfl hu hk hw hroom h
    case words =>
      rw [← hcount]
      exact exec_remote_of_room (execZwPut dt c s) rfl hu hk hw hroom h
    case putr => exact exec_remote_of_room (execZwPutr dt c s) rfl hu hk hw hroom h
    case frozen => exact exec_remote_of_full (execZwPutr dt c s) rfl hfull h
  case put =>
    intro dt c l x v g b s _ hvi hl hx hne hx96 hup hv hq
    have hwrite := State.remoteWrite_dmem (s := s.tick dt) (c := c) (value := BitVec.toNat (7 : Word)) hvi hl hx hup hv
    refine ⟨_, exec_remoteCommandComplete_of_put (by omega) hq, ?_, ?_⟩ <;> rw [hwrite, if_pos rfl]
    · rw [State.dmemRd_worker _ hx96, State.zw_remoteDone, State.zw_modZw_ne _ _ _ hne, ← State.dmemRd_worker _ hx96]
      exact State.dmemRd_dmemWr _ hx96 _ _
    · rw [State.queue_remoteDone, (State.CoreOnly.dmemWr (State.CoreOnly.refl (s.tick dt) x) _ _).other c hne.symm]
      exact congrArg (List.eraseIdx · 0) hq
  case fails =>
    intro dt c g b s hr hc hg hq
    obtain ⟨haddr, hstatus, hgroup, hpend, hevt, hzw⟩ := (s.tick dt).remoteFailed_shows c g 0x40000000 hr hc hg (by decide)
    have hqueue : (((s.tick dt).remoteFailed c g 4 0x40000000).zw c).queue.eraseIdx 0 = [] := by
      rw [hzw]
      exact congrArg (List.eraseIdx · 0) hq
    refine ⟨_, exec_remoteCommandComplete_of_put (by decide) hq, ?_⟩
    rw [State.remoteWrite_nothing, if_neg four_ne_zero]
    refine ⟨(State.queue_remoteDone _ c 0 g).trans hqueue, (State.rd_remoteDone _ c 0 g hc).trans haddr,
      (State.fld_of_rd (State.rd_remoteDone _ c 0 g hc) 0 4).trans hstatus, (State.fld_of_rd (State.rd_remoteDone _ c 0 g hc) 4 4).trans hgroup,
      (State.bit_of_rd (State.rd_remoteDone _ c 0 g hc) 1).trans hpend, ?_, ?_⟩ <;>
      rw [State.evt_remoteDone, State.unqueued, hqueue, List.any_nil, if_neg Bool.false_ne_true]
    · rw [State.evt_setEvt _ _ _ _ (by decide)]
      exact (congrArg (· || _) hevt).trans (Bool.true_or _)
    · rw [State.evt_setEvt _ _ _ _ (by omega), decide_eq_true rfl, Bool.or_true]

end Sys2Proof.Machine
end

section
-- One theorem after another: each waiting thread takes 256 MB of the memory the check allows.
set_option Elab.async false
/-! SUPPORT. A CAN controller under changes of its bus state, its error counters and ALONE (R310, R311), and what an attempt that ends
leaves. -/

namespace Sys2Proof.Machine

theorem canKey_ne (n : Nat) {off off' : Nat} (h : off ≠ off' := by decide) (ho : off < 4096 := by decide) (ho' : off' < 4096 := by decide) :
    canKey n off ≠ canKey n off' := rk_ne_of_off h ho ho'

@[simp] theorem State.ctl_setCtl (s : State) (n : Nat) (c : Can) : (s.setCtl n c).ctl n = c := SMap.find_put _ _ _ _

@[simp] theorem State.ctl_modCtl (s : State) (n : Nat) (f : Can → Can) : (s.modCtl n f).ctl n = f (s.ctl n) := s.ctl_setCtl n _

theorem State.ctl_of_can {s t : State} (h : t.can = s.can) (n : Nat) : t.ctl n = s.ctl n := by
  unfold State.ctl
  rw [h]

theorem State.rd_modCtl (s : State) (n : Nat) (f : Can → Can) (k : Nat) : (s.modCtl n f).rd k = s.rd k := rfl

theorem State.fld_modCtl (s : State) (n : Nat) (f : Can → Can) (k lo w : Nat) : (s.modCtl n f).fld k lo w = s.fld k lo w := rfl

theorem State.bit_modCtl (s : State) (n : Nat) (f : Can → Can) (k i : Nat) : (s.modCtl n f).bit k i = s.bit k i := rfl

theorem fieldOf_satInc16 (v : Nat) (h : v < 2 ^ 16) : satInc 16 v = min (v + 1) 65535 := by
  unfold satInc
  split <;> omega

section
variable (s : State) (n : Nat)

/-! ### The status of the transmit buffers -/

theorem State.txStat_setTxStat (b st : Nat) (hb : b < 8) (hst : st < 16) : (s.setTxStat n b st).txStat n b = st :=
  (s.fld_setFld _ (4 * b) 4 st (by omega)).trans (Nat.mod_eq_of_lt hst)

theorem State.txStat_setTxStat_ne (b c st : Nat) (hb : b < 8) (h : c ≠ b) : (s.setTxStat n b st).txStat n c = s.txStat n c :=
  s.fld_setFld_of_disjoint _ (4 * b) 4 st (4 * c) 4 (by omega) (by omega)

theorem State.txStat_of_rd {s t : State} (h : t.rd (canKey n R.CAN_TX_STAT) = s.rd (canKey n R.CAN_TX_STAT)) (b : Nat) :
    t.txStat n b = s.txStat n b := State.fld_of_rd h _ _

/-! ### The bus state -/

@[simp] theorem State.setBusState_can (st : Nat) : (s.setBusState n st).can = s.can := by
  unfold State.setBusState
  split <;> rfl

section
variable (hr : s.bus.Ranged) (hn : n < 16) (a b st : Nat)
include hr hn

theorem State.ranged_setBusState : (s.setBusState n st).bus.Ranged := by
  unfold State.setBusState
  split
  · exact hr
  · exact (plainPage_can hn).ranged_raise (by exact hr) 4

/-- A change of the bus state writes CAN_STATUS alone, beside EVT_PEND. -/
theorem State.rd_setBusState_ne {q off : Nat} (hq : PlainPage q) (h : rk q off ≠ canKey n R.CAN_STATUS) (hne : off ≠ hdrEvtPend := by decide)
    (ho : off < 4096 := by decide) : (s.setBusState n st).rd (rk q off) = s.rd (rk q off) := by
  unfold State.setBusState
  split
  · rfl
  · exact ((plainPage_can hn).rd_raise hq (by exact hr) 4 hne ho).trans (s.rd_setFld_ne _ _ _ _ _ h)

theorem State.fld_setBusState (hst : st < 4) : (s.setBusState n st).fld (canKey n R.CAN_STATUS) 0 2 = st := by
  unfold State.setBusState
  split
  · assumption
  · exact ((plainPage_can hn).fld_raise (plainPage_can hn) (by exact hr) 4 0 2).trans
      ((s.fld_setFld _ 0 2 st (by decide)).trans (Nat.mod_eq_of_lt hst))

/-! ### Bus-off -/

theorem State.ranged_busOff : (s.busOff n).bus.Ranged := by
  have h := s.ranged_setBusState n hr hn 2
  unfold State.busOff State.ifThen
  dsimp only
  split <;> exact h

omit hr hn in
theorem State.rd_busOff (k : Nat) : (s.busOff n).rd k = ((s.setBusState n 2).addSat (canKey n R.CAN_CNT_BOFF) 1).rd k := by
  unfold State.busOff State.ifThen
  dsimp only
  split <;> rfl

theorem State.rd_busOff_ne {q off : Nat} (hq : PlainPage q) (h1 : rk q off ≠ canKey n R.CAN_STATUS) (h2 : rk q off ≠ canKey n R.CAN_CNT_BOFF)
    (hne : off ≠ hdrEvtPend := by decide) (ho : off < 4096 := by decide) : (s.busOff n).rd (rk q off) = s.rd (rk q off) := by
  rw [s.rd_busOff n, State.rd_addSat_ne _ _ _ _ h2, s.rd_setBusState_ne n hr hn 2 hq h1 hne ho]

/-! ### The error counters -/

theorem State.ranged_setEcr : (s.setEcr n a b).bus.Ranged := by
  unfold State.setEcr
  dsimp only
  split
  · exact hr
  · split
    · exact State.ranged_busOff _ n (by exact hr) hn
    · exact State.ranged_setBusState _ n (by exact hr) hn _

/-- New error counters write CAN_ECR, CAN_STATUS and CAN_CNT_BOFF alone, beside EVT_PEND. -/
theorem State.rd_setEcr_ne {q off : Nat} (hq : PlainPage q) (h1 : rk q off ≠ canKey n R.CAN_ECR) (h2 : rk q off ≠ canKey n R.CAN_STATUS)
    (h3 : rk q off ≠ canKey n R.CAN_CNT_BOFF) (hne : off ≠ hdrEvtPend := by decide) (ho : off < 4096 := by decide) :
    (s.setEcr n a b).rd (rk q off) = s.rd (rk q off) := by
  have hwr : ∀ v, (s.wr (canKey n R.CAN_ECR) v).rd (rk q off) = s.rd (rk q off) := fun v => s.rd_wr_ne _ v _ h1
  unfold State.setEcr
  dsimp only
  split
  · exact hwr _
  · split
    · exact (State.rd_busOff_ne _ n (by exact hr) hn hq h2 h3 hne ho).trans (hwr _)
    · exact (State.rd_setBusState_ne _ n (by exact hr) hn _ hq h2 hne ho).trans (hwr _)

theorem State.rd_setEcr : (s.setEcr n a b).rd (canKey n R.CAN_ECR) = min a 255 + min b 255 * 256 := by
  have hwr : (s.wr (canKey n R.CAN_ECR) (min a 255 + min b 255 * 256)).rd (canKey n R.CAN_ECR) = min a 255 + min b 255 * 256 := by
    rw [State.rd_wr]
    omega
  have hp := plainPage_can hn
  unfold State.setEcr
  dsimp only
  split
  · exact hwr
  · split
    · exact (State.rd_busOff_ne _ n (by exact hr) hn hp (canKey_ne n) (canKey_ne n)).trans hwr
    · exact (State.rd_setBusState_ne _ n (by exact hr) hn _ hp (canKey_ne n)).trans hwr

theorem State.tec_setEcr : (s.setEcr n a b).tec n = min a 255 := by
  show fieldOf 0 8 ((s.setEcr n a b).rd (canKey n R.CAN_ECR)) = _
  rw [State.rd_setEcr s n hr hn, fieldOf]
  omega

theorem State.recErr_setEcr : (s.setEcr n a b).recErr n = min b 255 := by
  show fieldOf 8 8 ((s.setEcr n a b).rd (canKey n R.CAN_ECR)) = _
  rw [State.rd_setEcr s n hr hn, fieldOf]
  omega

/-! ### An error frame, and an attempt that is made again (R308, R309, R311) -/

theorem State.ranged_txFirstError : (s.txFirstError n b).bus.Ranged := by
  unfold State.txFirstError
  split
  · exact hr
  · exact (plainPage_can hn).ranged_raise (by exact hr) 7

theorem State.rd_txFirstError {q off : Nat} (hq : PlainPage q) (hne : off ≠ hdrEvtPend := by decide) (ho : off < 4096 := by decide) :
    (s.txFirstError n b).rd (rk q off) = s.rd (rk q off) := by
  unfold State.txFirstError
  split
  · rfl
  · exact (plainPage_can hn).rd_raise hq (by exact hr) 7 hne ho

theorem State.ranged_txErrorFrame (ack : Bool) : (s.txErrorFrame n ack).bus.Ranged := by
  unfold State.txErrorFrame
  dsimp only
  split
  · exact hr
  · exact State.ranged_setEcr _ n (by exact hr) hn _ _

theorem State.rd_txErrorFrame_ne (ack : Bool) {q off : Nat} (hq : PlainPage q) (h0 : rk q off ≠ canKey n R.CAN_CNT_BUSERR)
    (h1 : rk q off ≠ canKey n R.CAN_ECR) (h2 : rk q off ≠ canKey n R.CAN_STATUS) (h3 : rk q off ≠ canKey n R.CAN_CNT_BOFF)
    (hne : off ≠ hdrEvtPend := by decide) (ho : off < 4096 := by decide) : (s.txErrorFrame n ack).rd (rk q off) = s.rd (rk q off) := by
  have hcount := s.rd_addSat_ne (canKey n R.CAN_CNT_BUSERR) 1 _ h0
  unfold State.txErrorFrame
  dsimp only
  split
  · exact hcount
  · exact (State.rd_setEcr_ne _ n (by exact hr) hn _ _ hq h1 h2 h3 hne ho).trans hcount

theorem State.ranged_txAgain : (s.txAgain n b).bus.Ranged := by
  unfold State.txAgain
  dsimp only
  split
  · exact (plainPage_can hn).ranged_raise (by exact hr) 3
  · exact hr

theorem State.rd_txAgain_ne {q off : Nat} (hq : PlainPage q) (h : rk q off ≠ canKey n R.CAN_TX_STAT) (hne : off ≠ hdrEvtPend := by decide)
    (ho : off < 4096 := by decide) : (s.txAgain n b).rd (rk q off) = s.rd (rk q off) := by
  unfold State.txAgain
  dsimp only
  split
  · exact ((plainPage_can hn).rd_raise hq (by exact hr) 3 hne ho).trans (State.rd_setFld_ne _ _ _ _ _ _ h)
  · exact State.rd_setFld_ne _ _ _ _ _ _ h

/-! ### ALONE (R310) -/

theorem State.rd_setAlone_ne (on : Bool) {q off : Nat} (hq : PlainPage q) (h1 : rk q off ≠ canKey n R.CAN_CTRL)
    (h2 : rk q off ≠ canKey n R.CAN_STATUS) (hne : off ≠ hdrEvtPend := by decide) (ho : off < 4096 := by decide) :
    (s.setAlone n on).rd (rk q off) = s.rd (rk q off) := by
  unfold State.setAlone
  split
  · rfl
  · refine ((plainPage_can hn).rd_raise hq (by exact hr) 4 hne ho).trans ?_
    rw [State.rd_disarm, State.rd_setBit_ne _ _ _ _ _ h2, State.rd_setBit_ne _ _ _ _ _ h1]

theorem State.bit_setAlone (on : Bool) : (s.setAlone n on).bit (canKey n R.CAN_CTRL) 4 = on := by
  unfold State.setAlone
  split
  · assumption
  · refine ((plainPage_can hn).bit_raise (plainPage_can hn) (by exact hr) 4 4).trans ?_
    rw [← canKey, State.bit_disarm, State.bit_setBit_other _ _ _ _ _ _ (canKey_ne n), State.bit_setBit _ _ _ _ (by decide)]

/-- CAN_STATUS mirrors a change of ALONE. -/
theorem State.bit_setAlone_status (on : Bool) (h : s.bit (canKey n R.CAN_CTRL) 4 ≠ on) :
    (s.setAlone n on).bit (canKey n R.CAN_STATUS) 3 = on := by
  unfold State.setAlone
  rw [if_neg h]
  refine ((plainPage_can hn).bit_raise (plainPage_can hn) (by exact hr) 4 3).trans ?_
  rw [← canKey, State.bit_disarm, State.bit_setBit _ _ _ _ (by decide)]

theorem State.pend_setAlone_of_pend (on : Bool) {i : Nat} (h : s.pend (canPage n) i = true) : (s.setAlone n on).pend (canPage n) i = true := by
  unfold State.setAlone
  split
  · exact h
  · refine (plainPage_can hn).pend_raise_of_pend (by exact hr) 4 (by decide) ?_
    rw [State.pend, State.bit_disarm, State.bit_setBit_other _ (canKey n R.CAN_STATUS) _ _ _ _ pendKey_ne,
      State.bit_setBit_other _ (canKey n R.CAN_CTRL) _ _ _ _ pendKey_ne]
    exact h

end

end

end Sys2Proof.Machine
end

section
-- One theorem after another: each waiting thread takes 256 MB of the memory the check allows.
set_option Elab.async false
/-! SUPPORT. Requests, attempts and error confinement of a CAN controller (R305 to R312). The statement on them, settled. -/

namespace Sys2Proof.Machine

/-! ### Requests and cancels of buffer 0 (R305 to R308) -/

section
variable {dt vi n : Nat} {s : State} (ha : s.bus.pageAccess (canPage n) vi = 2) (hu : s.bus.pageUp (canPage n) = true)
include ha hu

theorem exec_canTxRequest_0 : exec (.canTxRequest dt vi n 1) s = .next ((s.tick dt).txRequest n 0) :=
  congrArg Host.Outcome.next ((s.tick dt).guardWrite_owner vi (canPage n) _ ha hu)

theorem exec_canTxCancel_0 : exec (.canTxCancel dt vi n 1) s = .next ((s.tick dt).txCancel n 0) :=
  congrArg Host.Outcome.next ((s.tick dt).guardWrite_owner vi (canPage n) _ ha hu)

end

/-- The state in which a request of a buffer is accepted, before it waits. -/
def State.txAccepted (s : State) (n b : Nat) : State :=
  (s.wr (canKey n (R.CAN_TX_TRIES + 4 * b)) 0).modCtl n (fun c => { c with failed := c.failed.filter (· != b) })

section
variable (s : State) (n b : Nat) (hst : s.txStat n b = 0)
include hst

theorem State.not_requested : ¬(s.txWaits n b = true ∨ s.txStat n b = 2) := by
  simp only [State.txWaits, hst]
  decide

variable (h4 : s.bit (txWord n b 1) 4 = false) (h5 : s.bit (txWord n b 1) 5 = false)
include h4 h5

/-- A classical frame in an idle buffer is accepted: HELD until service, then waiting (R305, R306). -/
theorem State.txRequest_of_idle : s.txRequest n b = if !s.serviceReady then (s.txAccepted n b).setTxStat n b 6
    else if (s.txAccepted n b).lateRequest n b then (s.txAccepted n b).suppress n b else (s.txAccepted n b).setTxStat n b 1 := by
  rw [State.txRequest, if_neg (s.not_requested n b hst), h4, h5]
  rfl

theorem State.txRequest_of_service (hb : b < 3) (hready : s.serviceReady = true) (htt : s.ttEn n = false) :
    s.txRequest n b = (s.txAccepted n b).setTxStat n b 1 := by
  have htt' : (s.txAccepted n b).ttEn n = false := by
    refine Eq.trans (s.bit_wr_ne _ _ 0 5 ?_) htt
    simp only [canKey, rk, R.CAN_CTRL, R.CAN_TX_TRIES]
    omega
  have hlate : ¬(s.txAccepted n b).lateRequest n b = true := by
    rw [State.lateRequest, htt', Bool.false_and]
    exact Bool.false_ne_true
  rw [s.txRequest_of_idle n b hst h4 h5, hready, if_neg hlate]
  rfl

theorem State.txRequest_of_held (hready : s.serviceReady = false) : s.txRequest n b = (s.txAccepted n b).setTxStat n b 6 := by
  rw [s.txRequest_of_idle n b hst h4 h5, hready]
  rfl

end

/-- A frame with FDF is refused where the controller may not send it (R307). -/
theorem State.txRequest_of_fdf (s : State) (n b : Nat) (hst : s.txStat n b = 0) (h4 : s.bit (txWord n b 1) 4 = true)
    (hctrl : s.bit (canKey n R.CAN_CTRL) 2 = false) : s.txRequest n b = s.cfgErr (canPage n) := by
  rw [State.txRequest, if_neg (s.not_requested n b hst), h4, hctrl]
  rfl

theorem exec_canTxRequest_shows {dt vi n : Nat} {s : State} (ha : s.bus.pageAccess (canPage n) vi = 2)
    (hu : s.bus.pageUp (canPage n) = true) (hst : s.txStat n 0 = 0) (h4 : s.bit (txWord n 0 1) 4 = false)
    (h5 : s.bit (txWord n 0 1) 5 = false) (hready : s.serviceReady = true) (htt : s.ttEn n = false) :
    ∃ t, exec (.canTxRequest dt vi n 1) s = .next t ∧ t.txStat n 0 = 1 ∧ t.rd (canKey n R.CAN_TX_TRIES) = 0 ∧ t.txStat n 1 = s.txStat n 1 ∧
      t.txStat n 2 = s.txStat n 2 ∧
      ({ s.tick dt with can := t.can } : State).After t [canKey n R.CAN_TX_STAT, canKey n R.CAN_TX_TRIES] := by
  have hrequest := (s.tick dt).txRequest_of_service n 0 hst h4 h5 (by decide) hready htt
  have hother : ∀ b, ((s.tick dt).txAccepted n 0).txStat n b = s.txStat n b := fun b => (s.tick dt).fld_wr_ne _ _ 0 _ _ (canKey_ne n)
  have htries : ((s.tick dt).txAccepted n 0).rd (canKey n R.CAN_TX_TRIES) = 0 := (State.rd_modCtl _ _ _ _).trans (State.rd_wr _ _ 0)
  refine ⟨_, exec_canTxRequest_0 ha hu, ?_⟩
  rw [hrequest]
  refine ⟨State.txStat_setTxStat _ n 0 1 (by decide) (by decide), ?_, ?_, ?_, ?_⟩
  · exact (State.rd_setFld_ne _ _ 0 4 1 _ (canKey_ne n)).trans htries
  · exact (State.txStat_setTxStat_ne _ n 0 1 1 (by decide) (by decide)).trans (hother 1)
  · exact (State.txStat_setTxStat_ne _ n 0 2 1 (by decide) (by decide)).trans (hother 2)
  · have hafter := State.After.refl ((s.tick dt).modCtl n (fun c => { c with failed := c.failed.filter (· != 0) }))
      [canKey n R.CAN_TX_STAT, canKey n R.CAN_TX_TRIES]
    exact (hafter.wr _ 0 (List.mem_cons_of_mem _ List.mem_cons_self)).setFld _ 0 4 1 List.mem_cons_self

theorem exec_canTxCancel_shows {dt vi n : Nat} {s : State} (hr : s.bus.Ranged) (hn : n < 16) (ha : s.bus.pageAccess (canPage n) vi = 2)
    (hu : s.bus.pageUp (canPage n) = true) (hw : s.txWaits n 0 = true) : ∃ t, exec (.canTxCancel dt vi n 1) s = .next t ∧
      t.txStat n 0 = 4 ∧ t.pend (canPage n) 3 = true ∧ (s.tick dt).After t [canKey n R.CAN_TX_STAT, pendKey (canPage n)] := by
  have hp := plainPage_can hn
  have hcancel : (s.tick dt).txCancel n 0 = (s.tick dt).txCancelled n 0 := if_pos hw
  refine ⟨_, exec_canTxCancel_0 ha hu, ?_⟩
  rw [hcancel, State.txCancelled]
  refine ⟨?_, hp.pend_raise (by exact hr) 3 (by decide), ?_⟩
  · refine (State.txStat_of_rd n (hp.rd_raise hp (by exact hr) 3) 0).trans ?_
    exact State.txStat_setTxStat _ n 0 4 (by decide) (by decide)
  · exact ((State.After.refl (s.tick dt) _).setFld _ 0 4 4 List.mem_cons_self).raise hr _ 3 hp.entryGranted
      (List.mem_cons_of_mem _ List.mem_cons_self)

/-! ### Attempts (R306, R309, R310) -/

theorem exec_canTxAttemptStart_of_may {dt n b : Nat} {s : State} (hm : (s.tick dt).mayAttempt n = true)
    (hb : (s.tick dt).txChoice n = some b) : exec (.canTxAttemptStart dt n) s = .next (((s.tick dt).integrate n).txStart n b) := by
  show execCanTxAttemptStart dt n s = _
  simp only [execCanTxAttemptStart, hm, if_true, hb]

theorem exec_canTxAttemptStart_of_not {dt n : Nat} {s : State} (hm : (s.tick dt).mayAttempt n = false) :
    exec (.canTxAttemptStart dt n) s = .next (s.tick dt) :=
  congrArg Host.Outcome.next (if_neg (fun h => Bool.false_ne_true (hm.symm.trans h)))

theorem State.rd_txStart (s : State) (n b k : Nat) : (s.txStart n b).rd k = ((s.setTxStat n b 2).setFld (canKey n (R.CAN_TX_TRIES + 4 * b)) 0 16
    (satInc 16 ((s.setTxStat n b 2).fld (canKey n (R.CAN_TX_TRIES + 4 * b)) 0 16))).rd k := by
  unfold State.txStart State.incTries
  dsimp only
  rw [State.rd_emit, State.rd_modCtl]

theorem State.ctl_txStart (s : State) (n b : Nat) : ((s.txStart n b).ctl n).inProg = some b := by
  unfold State.txStart
  dsimp only
  exact (congrArg Can.inProg (State.ctl_of_can (State.emit_can _ _) n)).trans (by rw [State.ctl_modCtl])

theorem State.txStart_shows (s : State) (n b : Nat) (hb : b < 3) : (s.txStart n b).txStat n b = 2 ∧
    ((s.txStart n b).ctl n).inProg = some b ∧ (s.txStart n b).bus.out = .canFrame n (s.canTxFrame n b) :: s.bus.out ∧
    (s.txStart n b).fld (canKey n (R.CAN_TX_TRIES + 4 * b)) 0 16 = min (s.fld (canKey n (R.CAN_TX_TRIES + 4 * b)) 0 16 + 1) 65535 := by
  have hne : canKey n R.CAN_TX_STAT ≠ canKey n (R.CAN_TX_TRIES + 4 * b) := by
    simp only [canKey, rk, R.CAN_TX_STAT, R.CAN_TX_TRIES]
    omega
  have htries : (s.setTxStat n b 2).fld (canKey n (R.CAN_TX_TRIES + 4 * b)) 0 16 = s.fld (canKey n (R.CAN_TX_TRIES + 4 * b)) 0 16 :=
    s.fld_setFld_ne _ _ (4 * b) 4 2 _ _ hne.symm
  refine ⟨?_, s.ctl_txStart n b, rfl, ?_⟩
  · refine (State.txStat_of_rd n ((s.rd_txStart n b _).trans (State.rd_setFld_ne _ _ _ _ _ _ hne)) b).trans ?_
    exact s.txStat_setTxStat n b 2 (by omega) (by decide)
  · refine (State.fld_of_rd (s.rd_txStart n b _) 0 16).trans ((State.fld_setFld _ _ 0 16 _ (by decide)).trans ?_)
    have hlt : s.fld (canKey n (R.CAN_TX_TRIES + 4 * b)) 0 16 < 2 ^ 16 := fieldOf_lt 0 16 _
    rw [htries, fieldOf_satInc16 _ hlt]
    omega

theorem exec_canTxAttemptEnd_of_inProg {dt n b : Nat} {how : CanEnd} {c : Bool} {s : State} (hb : (s.ctl n).inProg = some b) :
    exec (.canTxAttemptEnd dt n how c) s = .next ((s.tick dt).txEnd n b how c) := by
  have hb' : ((s.tick dt).ctl n).inProg = some b := hb
  show execCanTxAttemptEnd dt n how c s = _
  simp only [execCanTxAttemptEnd, hb']

/-! ### The end of an attempt -/

/-- The registers of an attempt that succeeded, before its events. -/
def State.txOk (s : State) (n b : Nat) : State :=
  (((s.setTxStat n b 3).addWrap (canKey n R.CAN_CNT_TX) 1).wr (canKey n R.CAN_ACKERR_RUN) 0).setEcr n (s.tec n - 1) (s.recErr n)

theorem State.txEnd_ok (s : State) (n b : Nat) (c : Bool) (hcancel : (s.ctl n).cancel = false) : s.txEnd n b .ok c =
    ((((s.txOk n b).raise (canPage n) 0).setAlone n false).disarm (tAlone n)).modCtl n
      (fun c => { c with inProg := none, cancel := false, endAt := s.bus.now }) := by
  unfold State.txEnd
  dsimp only
  rw [hcancel, State.ifThen_false]
  rfl

theorem State.txOk_shows (s : State) (n b : Nat) (hr : s.bus.Ranged) (hn : n < 16) (hb : b < 3) : (s.txOk n b).bus.Ranged ∧
    (s.txOk n b).txStat n b = 3 ∧ (s.txOk n b).rd (canKey n R.CAN_CNT_TX) = (s.rd (canKey n R.CAN_CNT_TX) + 1) % 2 ^ 32 ∧
    (s.txOk n b).rd (canKey n R.CAN_ACKERR_RUN) = 0 ∧ (s.txOk n b).tec n = s.tec n - 1 := by
  have hp := plainPage_can hn
  have hkeep : ∀ off, canKey n off ≠ canKey n R.CAN_ECR → canKey n off ≠ canKey n R.CAN_STATUS → canKey n off ≠ canKey n R.CAN_CNT_BOFF →
      off ≠ hdrEvtPend → off < 4096 → (s.txOk n b).rd (canKey n off) =
        (((s.setTxStat n b 3).addWrap (canKey n R.CAN_CNT_TX) 1).wr (canKey n R.CAN_ACKERR_RUN) 0).rd (canKey n off) :=
    fun off h1 h2 h3 hne ho => State.rd_setEcr_ne _ n (by exact hr) hn _ _ hp h1 h2 h3 hne ho
  refine ⟨State.ranged_setEcr _ n (by exact hr) hn _ _, ?_, ?_, ?_, ?_⟩
  · refine (State.txStat_of_rd n (hkeep _ (canKey_ne n) (canKey_ne n) (canKey_ne n) (by decide) (by decide)) b).trans ?_
    refine (State.txStat_of_rd n ?_ b).trans (s.txStat_setTxStat n b 3 (by omega) (by decide))
    rw [State.rd_wr_ne _ _ _ _ (canKey_ne n), State.rd_addWrap_ne _ _ _ _ (canKey_ne n)]
  · rw [hkeep _ (canKey_ne n) (canKey_ne n) (canKey_ne n) (by decide) (by decide), State.rd_wr_ne _ _ _ _ (canKey_ne n), State.rd_addWrap,
      State.setTxStat, State.rd_setFld_ne _ _ _ _ _ _ (canKey_ne n)]
  · rw [hkeep _ (canKey_ne n) (canKey_ne n) (canKey_ne n) (by decide) (by decide), State.rd_wr, Nat.zero_mod]
  · have htec : s.tec n < 2 ^ 8 := fieldOf_lt 0 8 _
    refine (State.tec_setEcr _ n (by exact hr) hn _ _).trans ?_
    omega

/-- An attempt that succeeds counts, ends ALONE and raises EV306 (R309 to R311). -/
theorem exec_canTxAttemptEnd_ok_shows {dt n b : Nat} {c : Bool} {s : State} (hr : s.bus.Ranged) (hn : n < 16) (hb : b < 3)
    (hprog : (s.ctl n).inProg = some b) (hcancel : (s.ctl n).cancel = false) : ∃ t, exec (.canTxAttemptEnd dt n .ok c) s = .next t ∧
      t.txStat n b = 3 ∧ (t.ctl n).inProg = none ∧ (t.ctl n).endAt = s.bus.now + dt ∧
      t.rd (canKey n R.CAN_CNT_TX) = (s.rd (canKey n R.CAN_CNT_TX) + 1) % 2 ^ 32 ∧ t.rd (canKey n R.CAN_ACKERR_RUN) = 0 ∧
      t.tec n = s.tec n - 1 ∧ t.bit (canKey n R.CAN_CTRL) 4 = false ∧ t.pend (canPage n) 0 = true := by
  have hp := plainPage_can hn
  obtain ⟨hok, hstat, hcount, hrun, htec⟩ := (s.tick dt).txOk_shows n b hr hn hb
  have hev := hp.ranged_raise hok 0
  have hkeep : ∀ off, canKey n off ≠ canKey n R.CAN_CTRL → canKey n off ≠ canKey n R.CAN_STATUS → off ≠ hdrEvtPend → off < 4096 →
      ((((s.tick dt).txOk n b).raise (canPage n) 0).setAlone n false).rd (canKey n off) = ((s.tick dt).txOk n b).rd (canKey n off) :=
    fun off h1 h2 hne ho => (State.rd_setAlone_ne _ n hev hn false hp h1 h2 hne ho).trans (hp.rd_raise hp hok 0 hne ho)
  refine ⟨_, exec_canTxAttemptEnd_of_inProg hprog, ?_⟩
  rw [(s.tick dt).txEnd_ok n b c hcancel]
  refine ⟨?_, by rw [State.ctl_modCtl], by rw [State.ctl_modCtl]; rfl, ?_, ?_, ?_, ?_, ?_⟩
  · exact (State.txStat_of_rd n (hkeep _ (canKey_ne n) (canKey_ne n) (by decide) (by decide)) b).trans hstat
  · exact (hkeep _ (canKey_ne n) (canKey_ne n) (by decide) (by decide)).trans hcount
  · exact (hkeep _ (canKey_ne n) (canKey_ne n) (by decide) (by decide)).trans hrun
  · exact (State.fld_of_rd (hkeep _ (canKey_ne n) (canKey_ne n) (by decide) (by decide)) 0 8).trans htec
  · exact State.bit_setAlone _ n hev hn false
  · exact State.pend_setAlone_of_pend _ n hev hn false (hp.pend_raise hok 0 (by decide))

/-- An attempt that lost arbitration waits again (R308). -/
theorem exec_canTxAttemptEnd_lost_shows {dt n b : Nat} {c : Bool} {s : State} (hb : b < 3)
    (hprog : (s.ctl n).inProg = some b) (hcancel : (s.ctl n).cancel = false) : ∃ t, exec (.canTxAttemptEnd dt n .lost c) s = .next t ∧
      t.txStat n b = 1 ∧ (t.ctl n).inProg = none ∧ t.tec n = s.tec n ∧ t.rd (canKey n R.CAN_ACKERR_RUN) = 0 := by
  have hagain : (s.tick dt).txEnd n b .lost c =
      ((((s.tick dt).wr (canKey n R.CAN_ACKERR_RUN) 0).disarm (tAlone n)).modCtl n
        (fun c => { c with inProg := none, cancel := false, endAt := s.bus.now + dt })).setTxStat n b 1 :=
    if_neg (fun h => Bool.false_ne_true (hcancel.symm.trans h))
  refine ⟨_, exec_canTxAttemptEnd_of_inProg hprog, ?_⟩
  rw [hagain]
  refine ⟨State.txStat_setTxStat _ n b 1 (by omega) (by decide), ?_, ?_, ?_⟩
  · exact (congrArg Can.inProg (State.ctl_of_can (State.setFld_can _ _ _ _ _) n)).trans (by rw [State.ctl_modCtl])
  · rw [State.tec, State.setTxStat, State.fld_setFld_ne _ _ _ _ _ _ _ _ (canKey_ne n), State.fld_modCtl, State.fld_disarm,
      State.fld_wr_ne _ _ _ _ _ _ (canKey_ne n), State.fld_tick]
    rfl
  · rw [State.setTxStat, State.rd_setFld_ne _ _ _ _ _ _ (canKey_ne n), State.rd_modCtl, State.rd_disarm, State.rd_wr, Nat.zero_mod]

/-- What the error frame and the repetition after an ACK error leave of the run and of ALONE. -/
theorem State.ackError_shows (s : State) (n b : Nat) (hr : s.bus.Ranged) (hn : n < 16) (t : State)
    (ht : t = ((s.txFirstError n b).txErrorFrame n true).txAgain n b) : t.bus.Ranged ∧
    t.rd (canKey n R.CAN_ACKERR_RUN) = s.rd (canKey n R.CAN_ACKERR_RUN) ∧ t.rd (canKey n R.CAN_CTRL) = s.rd (canKey n R.CAN_CTRL) := by
  have hp := plainPage_can hn
  have hr1 := s.ranged_txFirstError n hr hn b
  have hr2 := State.ranged_txErrorFrame _ n hr1 hn true
  have hkeep : ∀ off, canKey n off ≠ canKey n R.CAN_CNT_BUSERR → canKey n off ≠ canKey n R.CAN_ECR → canKey n off ≠ canKey n R.CAN_STATUS →
      canKey n off ≠ canKey n R.CAN_CNT_BOFF → canKey n off ≠ canKey n R.CAN_TX_STAT → off ≠ hdrEvtPend → off < 4096 →
      t.rd (canKey n off) = s.rd (canKey n off) := by
    intro off h0 h1 h2 h3 h4 hne ho
    rw [ht]
    exact (State.rd_txAgain_ne _ n hr2 hn b hp h4 hne ho).trans
      ((State.rd_txErrorFrame_ne _ n hr1 hn true hp h0 h1 h2 h3 hne ho).trans (s.rd_txFirstError n hr hn b hp hne ho))
  refine ⟨ht ▸ State.ranged_txAgain _ n hr2 hn b, ?_, ?_⟩
  · exact hkeep _ (canKey_ne n) (canKey_ne n) (canKey_ne n) (canKey_ne n) (canKey_ne n) (by decide) (by decide)
  · exact hkeep _ (canKey_ne n) (canKey_ne n) (canKey_ne n) (canKey_ne n) (canKey_ne n) (by decide) (by decide)

/-- The sixteenth ACK error in a row sets ALONE where the message manager does (R310). -/
theorem exec_canTxAttemptEnd_ack_shows {dt n b : Nat} {s : State} (hr : s.bus.Ranged) (hn : n < 16) (hprog : (s.ctl n).inProg = some b)
    (hrun : s.fld (canKey n R.CAN_ACKERR_RUN) 0 8 = 15) (halone : s.bit (canKey n R.CAN_CTRL) 4 = false) :
    ∃ t, exec (.canTxAttemptEnd dt n .ackError true) s = .next t ∧ t.fld (canKey n R.CAN_ACKERR_RUN) 0 8 = 16 ∧
      t.bit (canKey n R.CAN_CTRL) 4 = true ∧ t.bit (canKey n R.CAN_STATUS) 3 = true := by
  have hp := plainPage_can hn
  have hrun' : (s.tick dt).fld (canKey n R.CAN_ACKERR_RUN) 0 8 = 15 := hrun
  have hend : (s.tick dt).txEnd n b .ackError true =
      (let t := ((((s.tick dt).setFld (canKey n R.CAN_ACKERR_RUN) 0 8 (satInc 8 ((s.tick dt).fld (canKey n R.CAN_ACKERR_RUN) 0 8))).txFirstError n
          b).txErrorFrame n true).txAgain n b
       if t.fld (canKey n R.CAN_ACKERR_RUN) 0 8 = 16 ∧ !t.bit (canKey n R.CAN_CTRL) 4 then t.setAlone n true else t) := rfl
  rw [hrun'] at hend
  have hset := (s.tick dt).fld_setFld (canKey n R.CAN_ACKERR_RUN) 0 8 (satInc 8 15) (by decide)
  have hctrl := (s.tick dt).bit_setFld_ne (canKey n R.CAN_ACKERR_RUN) (canKey n R.CAN_CTRL) 0 8 (satInc 8 15) 4 (canKey_ne n)
  have hr0 : ((s.tick dt).setFld (canKey n R.CAN_ACKERR_RUN) 0 8 (satInc 8 15)).bus.Ranged := (s.tick dt).ranged_setFld hr _ _ _ _
  generalize (s.tick dt).setFld (canKey n R.CAN_ACKERR_RUN) 0 8 (satInc 8 15) = s0 at hend hset hctrl hr0
  obtain ⟨hr1, hrun1, hctrl1⟩ := s0.ackError_shows n b hr0 hn _ rfl
  generalize ((s0.txFirstError n b).txErrorFrame n true).txAgain n b = s1 at hend hr1 hrun1 hctrl1
  have hrun16 : s1.fld (canKey n R.CAN_ACKERR_RUN) 0 8 = 16 := (State.fld_of_rd hrun1 0 8).trans hset
  have halone1 : s1.bit (canKey n R.CAN_CTRL) 4 = false := (State.bit_of_rd hctrl1 4).trans (hctrl.trans halone)
  dsimp only at hend
  rw [hrun16, halone1, if_pos ⟨rfl, rfl⟩] at hend
  refine ⟨_, exec_canTxAttemptEnd_of_inProg hprog, ?_⟩
  rw [hend]
  refine ⟨?_, s1.bit_setAlone n hr1 hn true, s1.bit_setAlone_status n hr1 hn true (by rw [halone1]; exact Bool.false_ne_true)⟩
  exact (State.fld_of_rd (s1.rd_setAlone_ne n hr1 hn true hp (canKey_ne n) (canKey_ne n)) 0 8).trans hrun16

/-! ### Bus-off and errors (R311) -/

theorem exec_canBoffRecovered_shows {dt n : Nat} {s : State} (hr : s.bus.Ranged) (hn : n < 16) (hbus : s.fld (canKey n R.CAN_STATUS) 0 2 = 2)
    (hrec : (s.ctl n).recovering = true) : ∃ t, exec (.canBoffRecovered dt n) s = .next t ∧ t.fld (canKey n R.CAN_STATUS) 0 2 = 0 ∧
      t.tec n = 0 ∧ t.recErr n = 0 ∧ t.pend (canPage n) 4 = true ∧ (t.ctl n).recovering = false := by
  have hp := plainPage_can hn
  have hexec : exec (.canBoffRecovered dt n) s = .next ((((s.tick dt).wr (canKey n R.CAN_ECR) 0).modCtl n
      (fun c => { c with recovering := false })).setBusState n 0) := congrArg Host.Outcome.next (if_pos ⟨hbus, hrec⟩)
  have hbus' : (((s.tick dt).wr (canKey n R.CAN_ECR) 0).modCtl n (fun c => { c with recovering := false })).fld (canKey n R.CAN_STATUS) 0 2 ≠ 0 := by
    rw [State.fld_modCtl, State.fld_wr_ne _ _ _ _ _ _ (canKey_ne n), State.fld_tick, hbus]
    decide
  have hecr : (((s.tick dt).wr (canKey n R.CAN_ECR) 0).modCtl n (fun c => { c with recovering := false })).rd (canKey n R.CAN_ECR) = 0 :=
    (State.rd_modCtl _ _ _ _).trans (State.rd_wr _ _ _)
  have hctl := State.ctl_modCtl ((s.tick dt).wr (canKey n R.CAN_ECR) 0) n (fun c => { c with recovering := false })
  have hr0 : (((s.tick dt).wr (canKey n R.CAN_ECR) 0).modCtl n (fun c => { c with recovering := false })).bus.Ranged := hr
  refine ⟨_, hexec, ?_⟩
  generalize ((s.tick dt).wr (canKey n R.CAN_ECR) 0).modCtl n (fun c => { c with recovering := false }) = s0 at *
  have hecr' := (s0.rd_setBusState_ne n hr0 hn 0 hp (canKey_ne n)).trans hecr
  refine ⟨s0.fld_setBusState n hr0 hn 0 (by decide), congrArg (fieldOf 0 8) hecr', congrArg (fieldOf 8 8) hecr', ?_, ?_⟩
  · rw [State.setBusState, if_neg hbus']
    exact hp.pend_raise (by exact hr0) 4 (by decide)
  · rw [State.ctl_of_can (s0.setBusState_can n 0) n, hctl]

theorem exec_canErrorDetected_shows {dt n inc : Nat} {s : State} (hr : s.bus.Ranged) (hn : n < 16) (hup : s.canUp n = true)
    (hbus : s.fld (canKey n R.CAN_STATUS) 0 2 ≠ 2) : ∃ t, exec (.canErrorDetected dt n inc) s = .next t ∧
      t.recErr n = min (s.recErr n + inc) 255 ∧ t.tec n = s.tec n ∧
      t.rd (canKey n R.CAN_CNT_BUSERR) = min (s.rd (canKey n R.CAN_CNT_BUSERR) + 1) 0xFFFFFFFF := by
  have hexec : exec (.canErrorDetected dt n inc) s = .next (((s.tick dt).addSat (canKey n R.CAN_CNT_BUSERR) 1).setEcr n (s.tec n)
      (s.recErr n + inc)) := congrArg Host.Outcome.next (if_pos ⟨hup, hbus⟩)
  have htec : s.tec n < 2 ^ 8 := fieldOf_lt 0 8 _
  refine ⟨_, hexec, State.recErr_setEcr _ n (by exact hr) hn _ _, (State.tec_setEcr _ n (by exact hr) hn _ _).trans (by omega), ?_⟩
  exact (State.rd_setEcr_ne _ n (by exact hr) hn _ _ (plainPage_can hn) (canKey_ne n) (canKey_ne n) (canKey_ne n)).trans
    (State.rd_addSat (s.tick dt) _ 1)

/-- Settles O36. The ends of attempts go by `State.txEnd_ok` and `State.ackError_shows`; the error counters by `State.setEcr`. -/
theorem canTransmitsAndConfinesErrors : Obligations.CanTransmitsAndConfinesErrors := by
  unfold Obligations.CanTransmitsAndConfinesErrors
  refine ⟨?request, ?held, ?fdf, ?cancel, ?cancelLate, fun dt n b s => exec_canTxAttemptStart_of_may, fun dt n s => exec_canTxAttemptStart_of_not,
    ?start, ?ok, ?lost, ?ack, ?alone, ?recovery, ?recovered, ?error⟩
  case request => exact fun dt vi n s hn ha hu hst h4 h5 hready htt => exec_canTxRequest_shows ha hu hst h4 h5 hready htt
  case held =>
    intro dt vi n s hn ha hu hst h4 h5 hready
    refine ⟨_, exec_canTxRequest_0 ha hu, ?_⟩
    rw [(s.tick dt).txRequest_of_held n 0 hst h4 h5 hready]
    exact State.txStat_setTxStat _ n 0 6 (by decide) (by decide)
  case fdf =>
    intro dt vi n s hn ha hu hst h4 hctrl
    exact (exec_canTxRequest_0 ha hu).trans (congrArg Host.Outcome.next ((s.tick dt).txRequest_of_fdf n 0 hst h4 hctrl))
  case cancel => exact fun dt vi n s hr hn ha hu hw => exec_canTxCancel_shows hr hn ha hu hw
  case cancelLate =>
    intro dt vi n s ha hu hst
    have hw : ¬(s.tick dt).txWaits n 0 = true := by
      have hst' : (s.tick dt).txStat n 0 = 2 := hst
      simp only [State.txWaits, hst']
      decide
    exact (exec_canTxCancel_0 ha hu).trans (congrArg Host.Outcome.next ((if_neg hw).trans (if_pos hst)))
  case start => exact fun s n b _ hb _ => s.txStart_shows n b hb
  case ok => exact fun dt n b c s hr hn hb hprog hcancel => exec_canTxAttemptEnd_ok_shows hr hn hb hprog hcancel
  case lost => exact fun dt n b c s _ hb hprog hcancel => exec_canTxAttemptEnd_lost_shows hb hprog hcancel
  case ack => exact fun dt n b s hr hn _ hprog hrun halone => exec_canTxAttemptEnd_ack_shows hr hn hprog hrun halone
  case alone => exact fun dt n s hdue => congrArg Host.Outcome.next (State.onExpiry_due _ _ _ hdue)
  case recovery => exact fun dt n s hdue hbus => congrArg Host.Outcome.next ((State.onExpiry_due _ _ _ hdue).trans (if_pos hbus))
  case recovered => exact fun dt n s hr hn hbus hrec => exec_canBoffRecovered_shows hr hn hbus hrec
  case error => exact fun dt n inc s hr hn hup hbus => exec_canErrorDetected_shows hr hn hup hbus

end Sys2Proof.Machine
end

section
-- One theorem after another: each waiting thread takes 256 MB of the memory the check allows.
set_option Elab.async false
/-! SUPPORT. Reception of a CAN controller: filters, the FIFO, the high-priority buffers and their locks (R313 to R316). The statement on
them, settled. -/

namespace Sys2Proof.Machine

section
variable {s : State} {n ago : Nat} {f : CanFrame}

theorem exec_canRxFrame_of_down {dt : Nat} (h : s.canUp n = false) : exec (.canRxFrame dt n ago f) s = .next (s.tick dt) :=
  congrArg Host.Outcome.next (if_neg fun hc => Bool.false_ne_true (h.symm.trans hc.1))

theorem exec_canRxFrame_of_up {dt : Nat} {s2 s3 : State} (h : s.canUp n = true) (hbus : s.fld (canKey n R.CAN_STATUS) 0 2 ≠ 2)
    (h2 : s2 = (s.tick dt).integrate n) (h3 : s3 = s2.setEcr n (s2.tec n) (if 127 < s2.recErr n then 127 else s2.recErr n - 1)) :
    exec (.canRxFrame dt n ago f) s = .next ((s3.ttReference n (s3.bus.now - ago) f).canReceive n ago f) := by
  subst h2 h3
  exact congrArg Host.Outcome.next (if_pos ⟨h, hbus⟩)

theorem State.canReceive_of_none (h : ∀ i, i < 64 → s.filterMatch n i f = false) :
    s.canReceive n ago f = s.addSat (canKey n R.CAN_CNT_NOMATCH) 1 := by
  have hnone : (List.range 64).find? (fun i => s.filterMatch n i f) = none := List.find?_eq_none.mpr fun i hi he =>
    Bool.false_ne_true ((h i (List.mem_range.mp hi)).symm.trans he)
  rw [State.canReceive, hnone]

/-- Outside time-triggered operation the first filter that matches says where a frame goes. -/
theorem State.canReceive_of_first {i : Nat} (hi : i < 64) (h : s.filterMatch n i f = true)
    (hfirst : ∀ j, j < i → s.filterMatch n j f = false) (htt : s.ttEn n = false) : s.canReceive n ago f =
      (if s.bit (filterKey n i 2) 4 then s.canHp n (s.fld (filterKey n i 2) 5 3) ⟨f, i, false, false, false, s.canStamp ago⟩
      else s.canFifo n ⟨f, i, false, false, false, s.canStamp ago⟩) := by
  have hsome : (List.range 64).find? (fun i => s.filterMatch n i f) = some i :=
    List.find?_range_eq_some.mpr ⟨h, List.mem_range.mpr hi, fun j hj => by rw [hfirst j hj]; rfl⟩
  rw [State.canReceive, hsome]
  dsimp only
  rw [htt, Bool.false_and, Bool.false_and, State.ifThen_false, State.ifThen_false]

end

/-! ### The FIFO (R314) -/

section
variable (s : State) (n : Nat) (x : CanRx) (hr : s.bus.Ranged) (hn : n < 16)
include hr hn

theorem State.canFifo_of_room (h : (s.ctl n).fifo.length < 32) : ((s.canFifo n x).ctl n).fifo = (s.ctl n).fifo ++ [x] ∧
    (s.canFifo n x).rd (canKey n R.CAN_RX_FILL) = (s.ctl n).fifo.length + 1 ∧ (s.canFifo n x).pend (canPage n) 1 = true := by
  have hp := plainPage_can hn
  have hctl := s.ctl_modCtl n (fun c => { c with fifo := c.fifo ++ [x] })
  unfold State.canFifo
  dsimp only
  rw [if_pos h, hctl, List.length_append, List.length_singleton]
  refine ⟨?_, ?_, hp.pend_raise (by exact hr) 1 (by decide)⟩
  · exact congrArg Can.fifo hctl
  · refine (hp.rd_raise hp (by exact hr) 1).trans ?_
    rw [← canKey, State.rd_addWrap_ne _ _ _ _ (canKey_ne n), State.rd_wr]
    omega

/-- A full FIFO discards the frame and counts it. -/
theorem State.canFifo_of_full (h : 32 ≤ (s.ctl n).fifo.length) : (s.canFifo n x).can = s.can ∧
    (s.canFifo n x).bit (canKey n R.CAN_FLAGS) 0 = true ∧ (s.canFifo n x).pend (canPage n) 6 = true ∧
    (s.canFifo n x).rd (canKey n R.CAN_CNT_FIFO_OVF) = min (s.rd (canKey n R.CAN_CNT_FIFO_OVF) + 1) 0xFFFFFFFF := by
  have hp := plainPage_can hn
  unfold State.canFifo
  rw [if_neg (Nat.not_lt.mpr h)]
  refine ⟨rfl, ?_, hp.pend_raise (by exact hr) 6 (by decide), ?_⟩
  · exact (hp.bit_raise hp (by exact hr) 6 0).trans (State.bit_setBit _ _ 0 true (by decide))
  · refine (hp.rd_raise hp (by exact hr) 6).trans ?_
    rw [← canKey, State.rd_setBit_ne _ _ _ _ _ (canKey_ne n), State.rd_addSat]

end

/-! ### Locks (R315) -/

/-- Clearing the bits of a register that a value names. -/
theorem State.bit_clearNamed (k v : Nat) (l : List Nat) (hl : ∀ i ∈ l, i < 32) (s : State) {i : Nat} :
    (l.foldl (fun a j => if bitOf j v then a.setBit k j false else a) s).bit k i = (s.bit k i && !(l.contains i && bitOf i v)) := by
  induction l generalizing s with
  | nil => simp only [List.foldl_nil, List.contains_nil, Bool.false_and, Bool.not_false, Bool.and_true]
  | cons j l ih =>
    have hj := hl j List.mem_cons_self
    rw [List.foldl_cons, ih (fun m hm => hl m (List.mem_cons_of_mem _ hm)), List.contains_cons]
    by_cases hij : i = j
    · subst hij
      split
      · next hv => simp only [State.bit_setBit _ _ _ _ hj, hv, beq_self_eq_true, Bool.false_and, Bool.true_or, Bool.and_self, Bool.not_true, Bool.and_false]
      · next hv => rw [Bool.eq_false_of_not_eq_true hv, Bool.and_false, Bool.and_false]
    · rw [beq_false_of_ne hij, Bool.false_or]
      split
      · rw [State.bit_setBit_ne _ _ _ _ _ hj hij]
      · rfl

theorem State.after_clearNamed (s : State) (k v : Nat) (l : List Nat) :
    s.After (l.foldl (fun a j => if bitOf j v then a.setBit k j false else a) s) [k] :=
  List.foldlRecOn (motive := fun a => s.After a [k]) l _ (State.After.refl s _) fun a ha j _ => by
    split
    · exact ha.setBit k j false List.mem_cons_self
    · exact ha

section
variable {dt vi n : Nat} {s : State} (hu : s.bus.pageUp (canPage n) = true)
include hu

section
variable (ha : s.bus.pageAccess (canPage n) vi = 2)
include ha

theorem exec_canHpLockRelease_shows (v : Nat) : ∃ t, exec (.canHpLockRelease dt vi n v) s = .next t ∧
    (∀ i, i < 8 → t.bit (canKey n R.CAN_HP_LOCK) i = (s.bit (canKey n R.CAN_HP_LOCK) i && !bitOf i v)) ∧
    (s.tick dt).After t [canKey n R.CAN_HP_LOCK] := by
  refine ⟨_, congrArg Host.Outcome.next ((s.tick dt).guardWrite_owner vi (canPage n) _ ha hu), fun i hi => ?_,
    (s.tick dt).after_clearNamed _ v _⟩
  refine (State.bit_clearNamed _ v _ (fun j hj => (List.mem_range.mp hj).trans (by decide)) (s.tick dt)).trans ?_
  rw [List.contains_iff_mem.mpr (List.mem_range.mpr hi), Bool.true_and]
  rfl

theorem exec_canRxfWord0Read_of_some (h : (s.ctl n).fifo ≠ []) : exec (.canRxfWord0Read dt vi n) s =
    .next (((s.tick dt).emit (.readData vi (s.rxfWord n 0))).setCtl n { s.ctl n with headLocked := true }) := by
  refine congrArg Host.Outcome.next (((s.tick dt).readBy_owner vi (canPage n) _ _ hu ha).trans ?_)
  have hsome : (!(s.ctl n).fifo.isEmpty) = true := by
    rw [Bool.not_eq_true', Bool.eq_false_iff, ne_eq, List.isEmpty_iff]
    exact h
  exact congrArg (fun b => ((s.tick dt).emit (.readData vi (s.rxfWord n 0))).setCtl n { s.ctl n with headLocked := b }) hsome

theorem exec_canRxfWord20Read_shows {x : CanRx} {rest : List CanRx} (h : (s.ctl n).fifo = x :: rest) (hlen : rest.length < 32) :
    ∃ t, exec (.canRxfWord20Read dt vi n) s = .next t ∧ (t.ctl n).fifo = rest ∧ (t.ctl n).headLocked = false ∧
      t.rd (canKey n R.CAN_RX_FILL) = rest.length ∧ t.bus.out = .readData vi (x.word 20) :: s.bus.out := by
  have hword : (s.tick dt).rxfWord n 20 = x.word 20 := by
    have h' : ((s.tick dt).ctl n).fifo = x :: rest := h
    rw [State.rxfWord, h']
  have hctl := ((s.tick dt).emit (.readData vi ((s.tick dt).rxfWord n 20))).ctl_modCtl n
    (fun c => { c with fifo := c.fifo.drop 1, headLocked := false })
  have hfifo : ((((s.tick dt).emit (.readData vi ((s.tick dt).rxfWord n 20))).modCtl n
      (fun c => { c with fifo := c.fifo.drop 1, headLocked := false })).ctl n).fifo = rest := by
    rw [hctl]
    exact congrArg (List.drop 1) h
  refine ⟨_, congrArg Host.Outcome.next ((s.tick dt).readBy_owner vi (canPage n) _ _ hu ha), hfifo, ?_, ?_, ?_⟩
  · exact congrArg Can.headLocked hctl
  · refine (State.rd_wr _ _ _).trans ?_
    rw [hfifo]
    omega
  · exact congrArg (fun w => Out.readData vi w :: s.bus.out) hword

end

end

/-- Settles O37. -/
theorem canReceivesFiltersAndReleases : Obligations.CanReceivesFiltersAndReleases := by
  unfold Obligations.CanReceivesFiltersAndReleases
  refine ⟨fun dt n ago f s => exec_canRxFrame_of_down, fun dt n ago f s s2 s3 => exec_canRxFrame_of_up,
    fun s n ago f => State.canReceive_of_none, fun s n ago i f => State.canReceive_of_first, fun s n x hr hn => s.canFifo_of_room n x hr hn,
    fun s n x hr hn => s.canFifo_of_full n x hr hn, ?lock, ?release, ?reader, fun dt vi n v s ha hu => exec_canHpLockRelease_shows hu ha v,
    fun dt vi n s ha hu => exec_canRxfWord0Read_of_some hu ha, fun dt vi n s x rest ha hu => exec_canRxfWord20Read_shows hu ha⟩
  case lock => exact fun dt vi n i s _ ha hu => congrArg Host.Outcome.next ((s.tick dt).readBy_owner vi (canPage n) _ _ hu ha)
  case release => exact fun dt vi n i s _ ha hu => congrArg Host.Outcome.next ((s.tick dt).readBy_owner vi (canPage n) _ _ hu ha)
  case reader => exact fun dt vi n i s _ ha hu => congrArg Host.Outcome.next ((s.tick dt).readBy_reader vi (canPage n) _ _ hu ha)

end Sys2Proof.Machine
end

section
-- One theorem after another: each waiting thread takes 256 MB of the memory the check allows.
set_option Elab.async false
/-! SUPPORT. Time-triggered operation of a CAN controller (R317 to R321). The statement on it, settled. -/

namespace Sys2Proof.Machine

section
variable {dt n e : Nat} {s : State}

/-- A reference that the master sends, where the counters leave the bus state at active (R317). -/
theorem exec_canTtReferenceSend_ok {ago : Nat} (hmaster : (s.tick dt).ttMaster n = true) (hup : s.canUp n = true)
    (hready : s.serviceReady = true) (hbus : s.fld (canKey n R.CAN_STATUS) 0 2 = 0) (hx : s.xcvrNormal n = true)
    (hmode : s.fld (canKey n R.CAN_CTRL) 0 2 ≠ 1) (hcount : (s.ctl n).counted = false) (htec : s.tec n ≤ 128) (hrec : s.recErr n ≤ 127) :
    ∃ o, exec (.canTtReferenceSend dt n ago .ok) s = .next (((((s.tick dt).emit o).addWrap (canKey n R.CAN_CNT_TX) 1).wr (canKey n R.CAN_ECR)
      (min (s.tec n - 1) 255 + min (s.recErr n) 255 * 256)).ttRestart n (s.bus.now + dt - ago) 0) := by
  have hint : (s.tick dt).integrate n = s.tick dt := if_neg (by rw [State.fld_tick, hbus]; decide)
  have hnext : (s.tick dt).ttNextCount n = 0 := if_neg (fun h => Bool.false_ne_true (hcount.symm.trans h))
  have hbus2 : (s.tick dt).fld (canKey n R.CAN_STATUS) 0 2 ≠ 2 := by
    rw [State.fld_tick, hbus]
    decide
  have hcounted : (!((s.tick dt).ctl n).counted) = true := congrArg (!·) hcount
  have hexec : ∃ o, exec (.canTtReferenceSend dt n ago .ok) s = .next ((((((s.tick dt).integrate n).emit o).addWrap (canKey n R.CAN_CNT_TX)
      1).setEcr n (((s.tick dt).integrate n).tec n - 1) (((s.tick dt).integrate n).recErr n)).ttRestart n (s.bus.now + dt - ago)
        ((s.tick dt).ttNextCount n)) :=
    ⟨_, congrArg Host.Outcome.next (if_pos ⟨hmaster, hup, hready, hbus2, hx, hmode, .inl hcounted⟩)⟩
  obtain ⟨o, hexec⟩ := hexec
  rw [hint, hnext] at hexec
  refine ⟨o, hexec.trans (congrArg (fun t : State => Host.Outcome.next (t.ttRestart n (s.bus.now + dt - ago) 0)) ?_)⟩
  have hstay : ∀ v, ((((s.tick dt).emit o).addWrap (canKey n R.CAN_CNT_TX) 1).wr (canKey n R.CAN_ECR) v).fld (canKey n R.CAN_STATUS) 0 2 = 0 := by
    intro v
    rw [State.fld_wr_ne _ _ _ _ _ _ (canKey_ne n), State.fld_addWrap_ne _ _ _ _ _ _ (canKey_ne n), State.fld_emit, State.fld_tick, hbus]
  have htec' : (s.tick dt).tec n = s.tec n := rfl
  have hrec' : (s.tick dt).recErr n = s.recErr n := rfl
  unfold State.setEcr
  dsimp only
  rw [hstay, htec', hrec', if_neg (by decide), if_neg (by omega), if_neg (by omega), State.setBusState, if_pos (hstay _)]

theorem State.ttRestart_shows (s : State) (n clk count : Nat) : (s.ttRestart n clk count).fld (canKey n R.CAN_STATUS) 6 6 = count % 64 ∧
    (s.ttRestart n clk count).bit (canKey n R.CAN_STATUS) 5 = true ∧ ((s.ttRestart n clk count).ctl n).cycle0 = clk ∧
    ((s.ttRestart n clk count).ctl n).counted = true ∧ ((s.ttRestart n clk count).ctl n).windows = [] := by
  have hctl : (s.ttRestart n clk count).ctl n =
      { s.ctl n with cycle0 := clk, counted := true, windows := [], used := [], seen := [] } :=
    (State.ctl_of_can (s := s.modCtl n (fun c => { c with cycle0 := clk, counted := true, windows := [], used := [], seen := [] })) rfl n).trans
      (s.ctl_modCtl n _)
  refine ⟨?_, ?_, by rw [hctl], by rw [hctl], by rw [hctl]⟩ <;> unfold State.ttRestart
  · rw [State.fld_setBit_ne _ _ _ _ _ _ _ (canKey_ne n), State.fld_setBit_of_disjoint _ _ _ _ _ _ (by decide) (by decide),
      State.fld_setFld _ _ _ _ _ (by decide), show (2 : Nat) ^ 6 = 64 from rfl]
  · rw [State.bit_setBit_other _ _ _ _ _ _ (canKey_ne n), State.bit_setBit _ _ _ _ (by decide)]

theorem State.rd_ttRestart_ne (s : State) (n clk count : Nat) {off : Nat} (h1 : off ≠ R.CAN_STATUS := by decide)
    (h2 : off ≠ R.CAN_FLAGS := by decide) (ho : off < 4096 := by decide) : (s.ttRestart n clk count).rd (canKey n off) = s.rd (canKey n off) := by
  unfold State.ttRestart
  rw [State.rd_setBit_ne _ _ _ _ _ (canKey_ne n h2 ho), State.rd_setBit_ne _ _ _ _ _ (canKey_ne n h1 ho),
    State.rd_setFld_ne _ _ _ _ _ _ (canKey_ne n h1 ho), State.rd_modCtl]

theorem exec_canTtWindowMark_of_new (hup : s.canUp n = true) (htt : s.ttEn n = true) (hsync : s.ttSync n = true) (happ : s.ttApplies n e = true)
    (hmark : s.ttMark n e ≤ (s.tick dt).cycleTime n (s.bus.now + dt)) (hnew : e ∉ (s.ctl n).windows) : exec (.canTtWindowMark dt n e) s =
      .next ((s.tick dt).setCtl n { s.ctl n with windows := (s.ctl n).windows ++ [e] }) := by
  have hnew' : (!(s.ctl n).windows.contains e) = true := by
    rw [Bool.not_eq_true', Bool.eq_false_iff, ne_eq, List.contains_iff_mem]
    exact hnew
  exact congrArg Host.Outcome.next (if_pos ⟨hup, htt, hsync, happ, hmark, hnew'⟩)

theorem exec_canTtWindowEnd_of_closed (h : e ∉ (s.ctl n).windows) : exec (.canTtWindowEnd dt n e) s = .next (s.tick dt) :=
  congrArg Host.Outcome.next (if_neg fun hc => h (List.contains_iff_mem.mp hc.1))

section
variable (hopen : e ∈ (s.ctl n).windows) (hlast : s.ttLast n e ≤ (s.tick dt).cycleTime n (s.bus.now + dt))
include hopen hlast

/-- An exclusive window that ends with its buffer waiting and unused suppresses it (R319). -/
theorem exec_canTtWindowEnd_exclusive (hty : s.ttType n e = 1) (hw : s.txWaits n (s.ttBuf n e) = true) (hused : e ∉ (s.ctl n).used) :
    exec (.canTtWindowEnd dt n e) s = .next (((s.tick dt).setCtl n { s.ctl n with windows := (s.ctl n).windows.filter (· != e) }).suppress n
      (s.ttBuf n e)) := by
  have hty' : (s.tick dt).ttType n e = 1 := hty
  have hcond : ((s.tick dt).txWaits n ((s.tick dt).ttBuf n e) && !((s.tick dt).ctl n).used.contains e) = true := by
    rw [Bool.and_eq_true, Bool.not_eq_true', Bool.eq_false_iff, ne_eq, List.contains_iff_mem]
    exact ⟨hw, hused⟩
  refine congrArg Host.Outcome.next ((if_pos ⟨List.contains_iff_mem.mpr hopen, hlast⟩).trans ?_)
  simp only [hty', hcond, if_true]
  rfl

/-- A watching window that ends unseen counts an absence (R320). -/
theorem exec_canTtWindowEnd_watch (hty : s.ttType n e = 2) (hseen : e ∉ (s.ctl n).seen) :
    exec (.canTtWindowEnd dt n e) s = .next (((s.tick dt).setCtl n { s.ctl n with windows := (s.ctl n).windows.filter (· != e) }).addSat
      (canKey n R.CAN_TT_CNT_ABSENT) 1) := by
  have hty' : (s.tick dt).ttType n e = 2 := hty
  have hseen' : ((s.tick dt).ctl n).seen.contains e = false := by
    rw [Bool.eq_false_iff, ne_eq, List.contains_iff_mem]
    exact hseen
  refine congrArg Host.Outcome.next ((if_pos ⟨List.contains_iff_mem.mpr hopen, hlast⟩).trans ?_)
  simp only [hty', hseen', Bool.false_eq_true, if_false]
  rfl

end

/-- A reference that stays away loses synchronisation (R317, R321). -/
theorem exec_canTtRefTimeout_shows (hr : s.bus.Ranged) (hn : n < 16) (hup : s.canUp n = true) (htt : s.ttEn n = true)
    (hmaster : s.ttMaster n = false) (hflag : s.bit (canKey n R.CAN_FLAGS) 5 = false)
    (htime : s.fld (canKey n R.CAN_TT_CYCLE) 0 16 + s.fld (canKey n R.CAN_TT_BACKUP) 0 16 < (s.tick dt).cycleTime n (s.bus.now + dt)) :
    ∃ t, exec (.canTtRefTimeout dt n) s = .next t ∧ t.bit (canKey n R.CAN_FLAGS) 5 = true ∧ t.bit (canKey n R.CAN_STATUS) 5 = false ∧
      t.pend (canPage n) 5 = true ∧ (t.ctl n).acting = decide (s.fld (canKey n R.CAN_TT_CTRL) 0 2 = 2) ∧ (t.ctl n).windows = [] := by
  have hp := plainPage_can hn
  have hmaster' : (!(s.tick dt).ttMaster n) = true := congrArg (!·) hmaster
  have hflag' : (!(s.tick dt).bit (canKey n R.CAN_FLAGS) 5) = true := congrArg (!·) hflag
  refine ⟨_, congrArg Host.Outcome.next (if_pos ⟨hup, htt, hmaster', hflag', htime⟩), ?_, ?_, ?_, ?_, ?_⟩
  · refine (State.bit_modCtl _ _ _ _ _).trans ((hp.bit_raise hp (by exact hr) 5 5).trans ?_)
    rw [← canKey, State.bit_setBit_other _ _ _ _ _ _ (canKey_ne n), State.bit_setBit _ _ _ _ (by decide)]
  · refine (State.bit_modCtl _ _ _ _ _).trans ((hp.bit_raise hp (by exact hr) 5 5).trans ?_)
    exact State.bit_setBit _ _ _ _ (by decide)
  · exact (State.bit_modCtl _ _ _ _ _).trans (hp.pend_raise (by exact hr) 5 (by decide))
  · rw [State.ctl_modCtl]
    rfl
  · rw [State.ctl_modCtl]

end

/-- Settles O38. -/
theorem canTimeTriggeredWindows : Obligations.CanTimeTriggeredWindows := by
  unfold Obligations.CanTimeTriggeredWindows
  refine ⟨?send, ?slave, fun dt n e s => exec_canTtWindowMark_of_new, fun dt n e s => exec_canTtWindowEnd_of_closed,
    fun dt n e s => exec_canTtWindowEnd_exclusive, fun dt n e s => exec_canTtWindowEnd_watch, fun dt n s => exec_canTtRefTimeout_shows⟩
  case send =>
    intro dt n ago s _ _ hmaster hup hready hbus hx hmode hcount htec hrec
    obtain ⟨o, hexec⟩ := exec_canTtReferenceSend_ok (ago := ago) hmaster hup hready hbus hx hmode hcount htec hrec
    generalize hs1 : (((s.tick dt).emit o).addWrap (canKey n R.CAN_CNT_TX) 1).wr (canKey n R.CAN_ECR)
      (min (s.tec n - 1) 255 + min (s.recErr n) 255 * 256) = s1 at hexec
    obtain ⟨hcnt, hsync, hcycle, hcounted, hwin⟩ := s1.ttRestart_shows n (s.bus.now + dt - ago) 0
    refine ⟨_, hexec, hcnt, hsync, hcycle, hcounted, hwin, ?_⟩
    rw [State.rd_ttRestart_ne, ← hs1, State.rd_wr_ne _ _ _ _ (canKey_ne n), State.rd_addWrap, State.rd_emit, State.rd_tick]
  case slave => exact fun dt n ago how s h => congrArg Host.Outcome.next (if_neg fun hc => Bool.false_ne_true (h.symm.trans hc.1))

end Sys2Proof.Machine
end

section
-- One theorem after another: each waiting thread takes 256 MB of the memory the check allows.
set_option Elab.async false
/-! SUPPORT. A wake that ends an entry of the ladder (R402, R410), in a state whose list of draining domains holds a number that is none of the
22 domains. The statement on the transceivers, refuted by it. -/

namespace Sys2Proof.Machine

/-- Domain 0x3EF8 would have its page at 0x3F00, which is the page of transceiver 0: the drain of an entry lists it, and a wake of source 1
ends the entry. -/
def strayDrain : State :=
  { State.reset.setBit (pwrKey R.PWR_WAKE_EN) 1 true with ladder := { Ladder.init with phase := 1, draining := [0x3EF8] } }

theorem strayDrain_ranged : strayDrain.bus.Ranged := by
  refine ⟨fun p hp => ?_, by decide⟩
  cases hp

set_option maxRecDepth 4000 in
/-- The wake is recorded, and its record is lost as the entry ends. -/
theorem strayDrain_loses_wake : (strayDrain.wakDetect 0 1).bit (wakKey 0 R.WAK_STATUS) 2 = false := by decide

/-- Refutes O39: a wake recorded in STANDBY is lost where `State.endEntry` returns the listed "domains" to Run, because PWR_D_STATUS of
domain 0x3EF8 is WAK_STATUS of transceiver 0. The statement bounds no list of the ladder. -/
theorem not_transceiversSleepAndWake : ¬ Obligations.TransceiversSleepAndWake := by
  unfold Obligations.TransceiversSleepAndWake
  rintro ⟨-, -, -, -, -, -, -, -, hdetect, -⟩
  obtain ⟨-, hwoken, -⟩ := hdetect strayDrain 0 1 strayDrain_ranged (by decide) (by decide) (by decide) (by decide)
  exact Bool.false_ne_true (strayDrain_loses_wake.symm.trans hwoken)

end Sys2Proof.Machine
end

section
-- One theorem after another: each waiting thread takes 256 MB of the memory the check allows.
set_option Elab.async false
/-! SUPPORT. Registers of the control die (the pages below those of the keepers, Table 3-4) under events and fault detections: no grant
table need be in range for them. -/

namespace Sys2Proof.Machine

theorem rk_lt_keeper {p off : Nat} (hp : p < 0x80) (ho : off < 4096) : rk p off < rk (Block.keeper.pg 0) 0 := by
  simp only [rk, Block.pg, Block.base]
  omega

theorem plainPage_pwrD {d : Nat} (h : d < 22) : PlainPage (Block.pwrD.pg d) := by
  refine plainPage_control ?_ ?_ <;> simp only [Block.pg, Block.base] <;> omega

theorem bst_pg {b : Nat} (h : b < 49) : Block.bst.pg b = if b < 16 then 0x30 + b else 0x530 + b := by
  simp only [Block.pg, Block.base, bstAside]
  split <;> split <;> omega

theorem plainPage_bst {b : Nat} (h : b < 49) : PlainPage (Block.bst.pg b) := by
  rw [bst_pg h]
  split <;> exact plainPage_of_apart (by omega) (by omega) (by omega) (by omega)

theorem plainPage_fltSrc {p : Nat} (h : p < 12) : PlainPage (Block.fltSrc.pg p) := by
  refine plainPage_control ?_ ?_ <;> simp only [Block.pg, Block.base] <;> omega

section
variable {p off : Nat} (s : State) (hp : p < 0x80 := by decide) (hne : off ≠ hdrEvtPend := by decide) (ho : off < 4096 := by decide)
include hp hne ho

theorem Bus.rd_raiseFor_ctl (b : Bus) (page bit who : Nat) (extra : List Nat) :
    (b.raiseFor page bit who extra).rd (rk p off) = b.rd (rk p off) :=
  Bus.rd_raiseAt (rk_lt_keeper hp ho) (rk_ne_of_off hne ho) b page page bit who extra none (rk_ne_of_off hne ho)

theorem State.rd_raise_ctl (page bit : Nat) : (s.raise page bit).rd (rk p off) = s.rd (rk p off) :=
  Bus.rd_raiseFor_ctl hp hne ho s.bus page bit _ []

theorem State.fld_raise_ctl (page bit lo w : Nat) : (s.raise page bit).fld (rk p off) lo w = s.fld (rk p off) lo w :=
  State.fld_of_rd (s.rd_raise_ctl hp hne ho page bit) lo w

theorem State.bit_raise_ctl (page bit i : Nat) : (s.raise page bit).bit (rk p off) i = s.bit (rk p off) i :=
  State.bit_of_rd (s.rd_raise_ctl hp hne ho page bit) i

theorem State.rd_raiseAlso_ctl (page bit : Nat) (extra : List Nat) : (s.raiseAlso page bit extra).rd (rk p off) = s.rd (rk p off) :=
  Bus.rd_raiseFor_ctl hp hne ho s.bus page bit _ extra

end

end Sys2Proof.Machine
end

section
-- One theorem after another: each waiting thread takes 256 MB of the memory the check allows.
set_option Elab.async false
/-! SUPPORT. Consecutive registers and words drawn from the random number generator, and events recorded for a named VI. -/

namespace Sys2Proof.Machine

/-! ### Consecutive registers -/

section
variable (s : State)

theorem State.after_wrList (k : Nat) (l : List Nat) {ks : List Nat} (hks : ∀ i, i < l.length → k + 4 * i ∈ ks) :
    s.After (s.wrList k l) ks := by
  induction l generalizing s k with
  | nil => exact .refl s ks
  | cons v t ih =>
    have hhead : k ∈ ks := hks 0 (Nat.succ_pos _)
    refine ((State.After.refl s ks).wr k v hhead).trans (ih (s.wr k v) (k + 4) fun i hi => ?_)
    have h := hks (i + 1) (Nat.succ_lt_succ hi)
    rwa [show k + 4 * (i + 1) = k + 4 + 4 * i by omega] at h

theorem State.rd_wrList_ne (k j : Nat) (l : List Nat) (h : j < k ∨ k + 4 * l.length ≤ j) : (s.wrList k l).rd j = s.rd j := by
  induction l generalizing s k with
  | nil => rfl
  | cons v t ih =>
    simp only [List.length_cons] at h
    exact (ih (s.wr k v) (k + 4) (by omega)).trans (s.rd_wr_ne k v j (by omega))

theorem State.rd_wrList (k : Nat) (l : List Nat) (i : Nat) (hi : i < l.length) : (s.wrList k l).rd (k + 4 * i) = l.getD i 0 % 2 ^ 32 := by
  induction l generalizing s k i with
  | nil => cases hi
  | cons v t ih =>
    cases i with
    | zero => exact ((s.wr k v).rd_wrList_ne (k + 4) k t (by omega)).trans (s.rd_wr k v)
    | succ i =>
      have h := ih (s.wr k v) (k + 4) i (Nat.lt_of_succ_lt_succ hi)
      rwa [show k + 4 + 4 * i = k + 4 * (i + 1) by omega] at h

/-- What consecutive registers hold is what was written to them. -/
theorem State.rdList_wrList (k : Nat) (l : List Nat) (hl : ∀ v ∈ l, v < 2 ^ 32) : (s.wrList k l).rdList k l.length = l := by
  refine List.ext_getElem (by simp [State.rdList]) fun i hi hi' => ?_
  simp only [State.rdList, List.getElem_map, List.getElem_range]
  rw [s.rd_wrList k l i hi', List.getD_eq_getElem _ _ hi', Nat.mod_eq_of_lt (hl _ (List.getElem_mem hi'))]

theorem State.rdList_congr {s t : State} {k n : Nat} (h : ∀ i, i < n → t.rd (k + 4 * i) = s.rd (k + 4 * i)) :
    t.rdList k n = s.rdList k n :=
  List.map_congr_left fun i hi => h i (List.mem_range.mp hi)

theorem length_bytesWords (n : Nat) (l : List Nat) : (bytesWords n l).length = n := by
  induction n generalizing l with
  | zero => rfl
  | succ n ih => exact congrArg (· + 1) (ih _)

/-! ### Words drawn -/

/-- A draw moves the source of free values on, and nothing else. -/
theorem State.draw_fst (n : Nat) : (s.draw n).1 = s.on (fun b => { b with free := b.free + n }) := by
  induction n generalizing s with
  | zero => rfl
  | succ n ih =>
    show ((s.on Bus.nextFree).draw n).1 = _
    rw [ih]
    have hsum : (fun m => m + 1 + n) = fun m => m + (n + 1) := funext fun m => by omega
    exact congrArg (fun f : Nat → Nat => s.on (fun b => { b with free := f b.free })) hsum

theorem State.length_draw (n : Nat) : (s.draw n).2.length = n := by
  induction n generalizing s with
  | zero => rfl
  | succ n ih => exact congrArg (· + 1) (ih _)

theorem State.lt_of_mem_draw (n : Nat) : ∀ v ∈ (s.draw n).2, v < 2 ^ 32 := by
  induction n generalizing s with
  | zero => exact fun v hv => absurd hv List.not_mem_nil
  | succ n ih =>
    intro v hv
    rcases List.mem_cons.mp hv with rfl | hv
    · exact s.bus.fresh.isLt
    · exact ih _ v hv

end

/-! ### An event for a named VI -/

namespace PlainPage

variable {page : Nat} (hp : PlainPage page) {s : State} (hr : s.bus.Ranged) (i who : Nat) (extra : List Nat)
  (hw : ∀ v ∈ who :: extra, v < 1024)
include hp hr hw

theorem after_raiseFor : s.After (s.on (·.raiseFor page i who extra)) [pendKey page] :=
  (State.After.refl s _).on (Bus.raiseAt_reported s.bus hr page page i who extra hw none _
    (by rw [evKey_page _ _ _ hp.entryGranted]; exact .inl (List.mem_singleton_self _)))

theorem pend_raiseFor (hi : i < 32) : (s.on (·.raiseFor page i who extra)).pend page i = true := by
  have h := Bus.raiseAt_pend s.bus hr page page i who extra hw none hi
    (by rw [evKey_page _ _ _ hp.entryGranted]; exact hp.reportKey _ (by decide))
  rw [evKey_page _ _ _ hp.entryGranted] at h
  exact h

end PlainPage

end Sys2Proof.Machine
end

section
-- One theorem after another: each waiting thread takes 256 MB of the memory the check allows.
set_option Elab.async false
/-! SUPPORT. What registers, records and messages leave of the page network: the reporting of an event keeps the grant table, the keeper,
the time, the timers and the units in a reaction, whatever the grant table names (compare `Bus.Reported`). -/

namespace Sys2Proof.Machine

/-- What booking and reporting leave. -/
structure Bus.Held (b c : Bus) : Prop where
  grants : c.grants = b.grants
  keeper : c.keeper = b.keeper
  now : c.now = b.now
  timers : c.timers = b.timers
  units : c.units = b.units
  grantsOn : c.grantsOn = b.grantsOn
  pcieUp : c.pcieUp = b.pcieUp
  halted : c.halted = b.halted

namespace Bus.Held

variable {b c d : Bus}

theorem refl (b : Bus) : b.Held b := ⟨rfl, rfl, rfl, rfl, rfl, rfl, rfl, rfl⟩

theorem trans (h : b.Held c) (h' : c.Held d) : b.Held d :=
  ⟨h'.grants.trans h.grants, h'.keeper.trans h.keeper, h'.now.trans h.now, h'.timers.trans h.timers, h'.units.trans h.units,
    h'.grantsOn.trans h.grantsOn, h'.pcieUp.trans h.pcieUp, h'.halted.trans h.halted⟩

/-- A change of registers, records, messages and what goes with them alone. -/
theorem books (h : b.Held c) (regs : SMap Word) (kdmem : SMap Word) (evt : SMap Word) (out : List Out) (seq : SMap Nat)
    (netHold : SMap (List EvRec)) (recs : SMap FaultRec) (msix : SMap Nat) :
    b.Held { c with regs := regs, kdmem := kdmem, evt := evt, out := out, seq := seq, netHold := netHold, recs := recs, msixLast := msix } :=
  h.trans ⟨rfl, rfl, rfl, rfl, rfl, rfl, rfl, rfl⟩

theorem wr (h : b.Held c) (k v : Nat) : b.Held (c.wr k v) := h.books _ _ _ _ _ _ _ _
theorem setBit (h : b.Held c) (k i : Nat) (v : Bool) : b.Held (c.setBit k i v) := h.wr _ _
theorem setFld (h : b.Held c) (k lo w v : Nat) : b.Held (c.setFld k lo w v) := h.wr _ _
theorem addSat (h : b.Held c) (k n : Nat) : b.Held (c.addSat k n) := h.wr _ _
theorem addWrap (h : b.Held c) (k n : Nat) : b.Held (c.addWrap k n) := h.wr _ _
theorem recs (h : b.Held c) (r : SMap FaultRec) : b.Held { c with recs := r } := h.books _ _ _ _ _ _ _ _
theorem setEvt (h : b.Held c) (i j : Nat) : b.Held (c.setEvt i j) := h.books _ _ _ _ _ _ _ _
theorem stepSeq (h : b.Held c) (vi : Nat) : b.Held (c.stepSeq vi) := h.books _ _ _ _ _ _ _ _
theorem emit (h : b.Held c) (o : Out) : b.Held (c.emit o) := h.books _ _ _ _ _ _ _ _
theorem sendMsix (h : b.Held c) (vi vec : Nat) : b.Held (c.sendMsix vi vec) := h.books _ _ _ _ _ _ _ _

theorem foldl {β : Type} {f : Bus → β → Bus} (h : b.Held c) (l : List β) (hf : ∀ a : Bus, ∀ x ∈ l, a.Held (f a x)) :
    b.Held (l.foldl f c) :=
  List.foldlRecOn (motive := fun a => b.Held a) l f h fun _ ha x hx => ha.trans (hf _ x hx)

theorem ranged (h : b.Held c) (hr : b.Ranged) : c.Ranged := by
  rw [Bus.Ranged, h.grants, h.keeper]
  exact hr

theorem running (h : b.Held c) (t : Nat) : c.running t = b.running t := by rw [Bus.running, h.timers, Bus.running]

end Bus.Held

section
variable (b : Bus)

theorem Bus.held_fireRoutes (page evn : Nat) : b.Held (b.fireRoutes page evn) := (Bus.Held.refl b).foldl _ fun a _ _ => (Bus.Held.refl a).setEvt _ _

theorem Bus.held_keeperStore (r : EvRec) : b.Held (b.keeperStore r).1 := by
  unfold Bus.keeperStore
  extract_lets p tail head a m
  split
  · exact ((Bus.Held.refl b).addSat _ _).setBit _ _ _
  · exact (((Bus.Held.refl b).books _ m _ _ _ _ _ _).addWrap _ _).setEvt _ _

theorem Bus.held_raiseOverflow : b.Held b.raiseOverflow := by
  have h1 := ((Bus.Held.refl b).setBit (rk vimPage hdrEvtPend) 3 true).trans (Bus.held_fireRoutes _ vimPage 7)
  unfold Bus.raiseOverflow
  dsimp only
  split
  · exact .refl b
  · split
    · exact (h1.stepSeq 0).trans (Bus.held_keeperStore _ _)
    · exact h1

theorem Bus.held_toKeeper (r : EvRec) : b.Held (b.toKeeper r) := by
  have h1 := ((Bus.Held.refl b).stepSeq 0).trans (Bus.held_keeperStore _ r)
  unfold Bus.toKeeper
  dsimp only
  split
  · exact h1.trans (Bus.held_raiseOverflow _)
  · exact h1

theorem Bus.held_hostStore (vi : Nat) (r : EvRec) : b.Held (b.hostStore vi r).1 := by
  unfold Bus.hostStore
  dsimp only
  split
  · exact (((Bus.Held.refl b).addSat _ _).setBit _ _ _).trans (Bus.held_raiseOverflow _)
  · exact (((((Bus.Held.refl b).emit _).emit _).emit _).emit _).addWrap _ _

theorem Bus.held_msixFor (vi evn : Nat) : b.Held (b.msixFor vi evn).1 := by
  unfold Bus.msixFor
  dsimp only
  split
  · split
    · exact (Bus.Held.refl b).sendMsix _ _
    · exact .refl b
  · exact .refl b

theorem Bus.held_viVectorError (vi : Nat) : b.Held (b.viVectorError vi) := by
  unfold Bus.viVectorError
  extract_lets k b1 q
  have h1 : b.Held q.1 := (((Bus.Held.refl b).setBit _ _ _).stepSeq vi).trans (Bus.held_hostStore _ vi _)
  split
  · exact .refl b
  · split
    · exact h1.trans (Bus.held_msixFor _ vi 5)
    · exact h1

theorem Bus.held_toHost (vi evn : Nat) (r : EvRec) : b.Held (b.toHost vi evn r) := by
  unfold Bus.toHost
  extract_lets q q2
  have h1 : b.Held q.1 := ((Bus.Held.refl b).stepSeq vi).trans (Bus.held_hostStore _ vi r)
  have h2 : b.Held q2.1 := h1.trans (Bus.held_msixFor _ vi evn)
  split
  · split
    · split
      · exact h2.trans (Bus.held_viVectorError _ vi)
      · exact h2
    · exact h1
  · exact .refl b

theorem Bus.held_toNet (vi : Nat) (r : EvRec) : b.Held (b.toNet vi r) := by
  have h1 := (Bus.Held.refl b).stepSeq vi
  unfold Bus.toNet
  dsimp only
  split
  · exact h1.emit _
  · split
    · exact h1.books _ _ _ _ _ _ _ _
    · exact ((h1.addSat _ _).setBit _ _ _).trans (Bus.held_raiseOverflow _)

theorem Bus.held_deliver (vi page bit evn : Nat) (entry : Option Nat) : b.Held (b.deliver vi page bit evn entry) := by
  unfold Bus.deliver
  dsimp only
  split
  · exact b.held_toKeeper _
  · split
    · exact b.held_toHost vi evn _
    · exact b.held_toNet vi _

theorem Bus.held_raiseAt (page phys bit who : Nat) (extra : List Nat) (entry : Option Nat) :
    b.Held (b.raiseAt page phys bit who extra entry) := by
  have h1 := ((Bus.Held.refl b).setBit (evKey page hdrEvtPend who) bit true).trans (Bus.held_fireRoutes _ phys (eventNumber page bit))
  unfold Bus.raiseAt
  dsimp only
  split
  · exact .refl b
  · split
    · exact h1.foldl _ fun a vi _ => a.held_deliver vi _ _ _ _
    · exact h1

end

theorem State.held_raise (s : State) (page bit : Nat) : s.bus.Held (s.raise page bit).bus := s.bus.held_raiseAt page page bit _ [] none

end Sys2Proof.Machine
end

section
-- One theorem after another: each waiting thread takes 256 MB of the memory the check allows.
set_option Elab.async false
/-! SUPPORT. The detection of a fault (R424 to R427, R432): what it books, the event it tells, the grace it starts, and what it leaves. -/

namespace Sys2Proof.Machine

/-! ### Registers behind selectors -/

theorem reportKey_rkSel (page off sel : Nat) : reportKey (rkSel page off sel) = reportKey (rk page off) := by
  have haddr : keyAddr (rkSel page off sel) = keyAddr (rk page off) := by
    simp only [keyAddr, rkSel, rk]
    omega
  unfold reportKey keyPage keyOff
  rw [haddr]

theorem rkSel_inj_off {p o p' o' sel sel' : Nat} (h : o ≠ o' := by decide) (ho : o < 4096 := by decide) (ho' : o' < 4096 := by decide) :
    rkSel p o sel ≠ rkSel p' o' sel' := by
  simp only [rkSel]
  omega

theorem fsKey_ne_rk_of_off {fs off : Nat} (p : Nat) {off' : Nat} (h : off ≠ off' := by decide) (ho : off < 4096 := by decide)
    (ho' : off' < 4096 := by decide) : fsKey fs off ≠ rk p off' := by
  simp only [fsKey, rkSel, rk]
  omega

theorem fsKey_ne_rk (fs off : Nat) {p off' : Nat} (hp : p < 0x4000) (ho' : off' < 4096) : fsKey fs off ≠ rk p off' := by
  simp only [fsKey, rkSel, rk]
  omega

theorem fsKnown_lt {fs : Nat} (h : fsKnown fs = true) : fs < 192 := by
  simp only [fsKnown, List.any_cons, List.any_nil, Bool.or_false, Bool.or_eq_true, Bool.and_eq_true, decide_eq_true_eq] at h
  omega

theorem plainPage_fs {fs : Nat} (h : fs < 192) : PlainPage (fsPage fs) := plainPage_fltSrc (by omega)

theorem reportKey_fsKey {fs off : Nat} (h : fs < 192) (ho : off < 4096 := by decide) : reportKey (fsKey fs off) = false :=
  (reportKey_rkSel _ _ _).trans ((plainPage_fs h).reportKey off ho)

/-! ### What is booked -/

/-- A detection counted, kept for its window, shown in SRC_STATUS and recorded (R424, R425, R427). -/
def Bus.faultBooked (b : Bus) (fs : Nat) (u : FaultAt) : Bus :=
  (((b.addSat (fsKey fs R.FLT_SRC_CNT) 1).noteCorr fs).setBit (fsKey fs R.FLT_SRC_STATUS) 10 (decide (fsClass fs ≠ 0))).capture fs u

/-- A detection told to VI 0 and to the owner of the source. -/
def Bus.faultTold (b : Bus) (fs : Nat) (u : FaultAt) : Bus :=
  (b.faultBooked fs u).raiseFor (fsPage fs) (fs % 16) 0 [(b.faultBooked fs u).fsOwner fs u.page]

theorem Bus.fault_eq (b : Bus) {fs : Nat} (u : FaultAt) (h : fsKnown fs = true) :
    b.fault fs u = (b.faultTold fs u).startGrace fs u.page u.addr := if_pos h

theorem Bus.fault_unknown (b : Bus) {fs : Nat} (u : FaultAt) (h : fsKnown fs = false) : b.fault fs u = b :=
  if_neg (by rw [h]; decide)

/-- The registers in which a record is booked (R427). -/
def recordKeys (fs : Nat) (u : FaultAt) : List Nat :=
  [rk (Block.flt.pg 0) R.FLT_STATUS, rk (Block.flt.pg 0) R.FLT_REC_USED, rk (fsPage fs) hdrFaultFirst, rk u.page hdrFaultFirst]

section
variable (b : Bus) (fs : Nat) (u : FaultAt)

theorem Bus.held_capture : b.Held (b.capture fs u) := by
  unfold Bus.capture
  extract_lets held ty _r
  split
  · split
    · exact (Bus.Held.refl b).recs _
    · exact .refl b
  · split
    · exact ((Bus.Held.refl b).wr _ _).wr _ _
    · extract_lets b1 b2
      refine Bus.Held.wr (c := b2) ?_ _ _
      unfold b2
      split
      · exact (((Bus.Held.refl b).recs _).wr _ _).wr _ _
      · exact ((Bus.Held.refl b).recs _).wr _ _

theorem Bus.rd_capture_ne (k : Nat) (h : k ∉ recordKeys fs u) : (b.capture fs u).rd k = b.rd k := by
  simp only [recordKeys, List.mem_cons, List.not_mem_nil, or_false, not_or] at h
  obtain ⟨hstatus, hused, hsrc, hunit⟩ := h
  unfold Bus.capture
  extract_lets held ty r
  split
  · split
    · exact Bus.rd_of_regs rfl k
    · rfl
  · split
    · exact (Bus.rd_setFld_ne _ _ _ _ _ _ hused).trans (Bus.rd_setBit_ne _ _ _ _ _ hstatus)
    · extract_lets b1 b2
      have h1 : b1.rd k = b.rd k := (Bus.rd_wr_ne _ _ _ _ hunit).trans (Bus.rd_of_regs rfl k)
      have h2 : b2.rd k = b1.rd k := by
        unfold b2
        split
        · exact Bus.rd_wr_ne _ _ _ _ hsrc
        · rfl
      exact ((Bus.rd_setFld_ne _ _ _ _ _ _ hused).trans h2).trans h1

theorem Bus.held_noteCorr : b.Held (b.noteCorr fs) := by
  unfold Bus.noteCorr
  split
  · exact ⟨rfl, rfl, rfl, rfl, rfl, rfl, rfl, rfl⟩
  · exact .refl b

theorem Bus.held_faultBooked : b.Held (b.faultBooked fs u) :=
  ((((Bus.Held.refl b).wr _ _).trans (Bus.held_noteCorr _ fs)).wr _ _).trans (Bus.held_capture _ fs u)

theorem Bus.rd_faultBooked_ne (k : Nat) (h : k ∉ recordKeys fs u) (hcnt : k ≠ fsKey fs R.FLT_SRC_CNT) (hst : k ≠ fsKey fs R.FLT_SRC_STATUS) :
    (b.faultBooked fs u).rd k = b.rd k := by
  unfold Bus.faultBooked
  rw [Bus.rd_capture_ne _ fs u k h, Bus.rd_setBit_ne _ _ _ _ _ hst, Bus.rd_noteCorr, Bus.rd_addSat_ne _ _ _ _ hcnt]

theorem fsKey_notMem_recordKeys {off : Nat} (h : off ≠ hdrFaultFirst := by decide) (ho : off < 4096 := by decide) : fsKey fs off ∉ recordKeys fs u := by
  simp only [recordKeys, List.mem_cons, List.not_mem_nil, or_false, not_or]
  exact ⟨fsKey_ne_rk fs off (by decide) (by decide), fsKey_ne_rk fs off (by decide) (by decide), fsKey_ne_rk_of_off _ h ho,
    fsKey_ne_rk_of_off _ h ho⟩

theorem rk_notMem_recordKeys {p off : Nat} (hflt : p ≠ Block.flt.pg 0 ∨ (off ≠ R.FLT_STATUS ∧ off ≠ R.FLT_REC_USED))
    (hff : off ≠ hdrFaultFirst) (ho : off < 4096) : rk p off ∉ recordKeys fs u := by
  simp only [recordKeys, List.mem_cons, List.not_mem_nil, or_false, not_or]
  refine ⟨?_, ?_, rk_ne_of_off hff ho, rk_ne_of_off hff ho⟩
  · exact hflt.elim (fun h => rk_ne_page _ _ h ho) fun h => rk_ne_of_off h.1 ho
  · exact hflt.elim (fun h => rk_ne_page _ _ h ho) fun h => rk_ne_of_off h.2 ho

theorem Bus.rd_cnt_faultBooked : (b.faultBooked fs u).rd (fsKey fs R.FLT_SRC_CNT) = min (b.rd (fsKey fs R.FLT_SRC_CNT) + 1) 0xFFFFFFFF := by
  have hne : fsKey fs R.FLT_SRC_CNT ≠ fsKey fs R.FLT_SRC_STATUS := rkSel_inj_off
  show _ = min _ (2 ^ 32 - 1)
  unfold Bus.faultBooked
  rw [Bus.rd_capture_ne _ fs u _ (fsKey_notMem_recordKeys fs u), Bus.rd_setBit_ne _ _ _ _ _ hne, Bus.rd_noteCorr, Bus.rd_addSat]

theorem Bus.rd_status_faultBooked : (b.faultBooked fs u).rd (fsKey fs R.FLT_SRC_STATUS) =
    setBitOf 10 (decide (fsClass fs ≠ 0)) (b.rd (fsKey fs R.FLT_SRC_STATUS)) := by
  have hne : fsKey fs R.FLT_SRC_STATUS ≠ fsKey fs R.FLT_SRC_CNT := rkSel_inj_off
  unfold Bus.faultBooked
  rw [Bus.rd_capture_ne _ fs u _ (fsKey_notMem_recordKeys fs u), Bus.rd_setBit _ _ _ _ (by decide), Bus.rd_noteCorr,
    Bus.rd_addSat_ne _ _ _ _ hne]

end

/-! ### What is told -/

theorem Bus.fsOwner_lt {b : Bus} (hr : b.Ranged) (fs page : Nat) : b.fsOwner fs page < 1024 := by
  unfold Bus.fsOwner
  dsimp only
  split
  · exact b.ownerOfPage_lt hr page
  · exact fieldOf_lt 15 10 _

section
variable {b : Bus} (hr : b.Ranged) {fs : Nat} (u : FaultAt)
include hr

theorem Bus.ranged_faultBooked : (b.faultBooked fs u).Ranged := (b.held_faultBooked fs u).ranged hr

theorem Bus.fault_recipients : ∀ v ∈ 0 :: [(b.faultBooked fs u).fsOwner fs u.page], v < 1024 := by
  simp only [List.mem_cons, List.not_mem_nil, or_false, forall_eq_or_imp, forall_eq]
  exact ⟨by decide, Bus.fsOwner_lt (Bus.ranged_faultBooked hr u) fs u.page⟩

variable (hfs : fs < 192)
include hfs

theorem Bus.faultTold_reported : (b.faultBooked fs u).Reported (b.faultTold fs u) [pendKey (fsPage fs)] :=
  Bus.raiseAt_reported _ (Bus.ranged_faultBooked hr u) _ _ _ _ _ (Bus.fault_recipients hr u) _ _
    (by rw [evKey_page _ _ _ (plainPage_fs hfs).entryGranted]; exact .inl (List.mem_singleton_self _))

theorem Bus.rd_faultTold_fsKey {off : Nat} (hne : off ≠ hdrEvtPend := by decide) (ho : off < 4096 := by decide) :
    (b.faultTold fs u).rd (fsKey fs off) = (b.faultBooked fs u).rd (fsKey fs off) :=
  (Bus.faultTold_reported hr u hfs).regs _ (fun h => fsKey_ne_rk_of_off _ hne ho (by decide) (List.mem_singleton.mp h))
    (reportKey_fsKey hfs ho)

end

/-! ### The grace -/

section
variable (b : Bus) (fs page addr : Nat)

theorem Bus.startGrace_idle (h : fsClass fs = 0 ∨ b.fld (fsKey fs R.FLT_SRC_STATUS) 2 2 ≠ 0) : b.startGrace fs page addr = b := if_pos h

/-- A source whose grace starts: its unit and its timer. -/
def Bus.graceStarted (b : Bus) (fs page addr : Nat) : Bus :=
  (({ b with units := b.units.set fs (page, addr) }).setFld (fsKey fs R.FLT_SRC_STATUS) 2 2 1).arm (tGrace fs) (clkUs (10 * b.fsGrace fs))

theorem Bus.startGrace_starts (hc : fsClass fs ≠ 0) (h : b.fld (fsKey fs R.FLT_SRC_STATUS) 2 2 = 0) :
    b.startGrace fs page addr = b.graceStarted fs page addr := if_neg (not_or.mpr ⟨hc, not_not.mpr h⟩)

theorem Bus.startGrace_frame : (b.startGrace fs page addr).grants = b.grants ∧ (b.startGrace fs page addr).keeper = b.keeper ∧
    (b.startGrace fs page addr).now = b.now ∧ (b.startGrace fs page addr).grantsOn = b.grantsOn ∧
    ∀ t, t ≠ tGrace fs → (b.startGrace fs page addr).timers.find? t = b.timers.find? t := by
  unfold Bus.startGrace
  dsimp only
  split
  · exact ⟨rfl, rfl, rfl, rfl, fun _ _ => rfl⟩
  · exact ⟨rfl, rfl, rfl, rfl, fun t ht => SMap.find?_set_ne _ _ _ _ ht⟩

end

/-! ### The detection as a whole -/

section
variable (b : Bus) (fs : Nat) (u : FaultAt)

theorem Bus.held_faultTold : b.Held (b.faultTold fs u) := (b.held_faultBooked fs u).trans (Bus.held_raiseAt _ _ _ _ _ _ _)

theorem Bus.fault_frame : (b.fault fs u).grants = b.grants ∧ (b.fault fs u).keeper = b.keeper ∧ (b.fault fs u).now = b.now ∧
    (b.fault fs u).grantsOn = b.grantsOn ∧ ∀ t, t ≠ tGrace fs → (b.fault fs u).timers.find? t = b.timers.find? t := by
  by_cases h : fsKnown fs = true
  · have htold := b.held_faultTold fs u
    obtain ⟨hg, hk, hn, ho, ht⟩ := (b.faultTold fs u).startGrace_frame fs u.page u.addr
    rw [b.fault_eq u h]
    exact ⟨hg.trans htold.grants, hk.trans htold.keeper, hn.trans htold.now, ho.trans htold.grantsOn,
      fun t h => (ht t h).trans (by rw [htold.timers])⟩
  · rw [b.fault_unknown u (by simpa using h)]
    exact ⟨rfl, rfl, rfl, rfl, fun _ _ => rfl⟩

theorem Bus.ranged_fault (hr : b.Ranged) : (b.fault fs u).Ranged := by
  obtain ⟨hg, hk, -⟩ := b.fault_frame fs u
  rw [Bus.Ranged, hg, hk]
  exact hr

end

/-- A detection changes of the registers of the control die only those of its own source, EVT_PEND, and those of the record. -/
theorem Bus.rd_fault_ctl (b : Bus) (fs : Nat) (u : FaultAt) {p off : Nat} (hp : p < 0x80 := by decide)
    (hflt : p ≠ Block.flt.pg 0 ∨ (off ≠ R.FLT_STATUS ∧ off ≠ R.FLT_REC_USED) := by decide) (hff : off ≠ hdrFaultFirst := by decide)
    (hne : off ≠ hdrEvtPend := by decide) (ho : off < 4096 := by decide) : (b.fault fs u).rd (rk p off) = b.rd (rk p off) := by
  have hsrc := fun o => (fsKey_ne_rk fs o (p := p) (by omega) ho).symm
  by_cases h : fsKnown fs = true
  · rw [b.fault_eq u h, Bus.rd_startGrace _ _ _ _ _ (hsrc _), Bus.faultTold, Bus.rd_raiseFor_ctl hp hne ho,
      Bus.rd_faultBooked_ne b fs u _ (rk_notMem_recordKeys fs u hflt hff ho) (hsrc _) (hsrc _)]
  · rw [b.fault_unknown u (by simpa using h)]

section
variable {b : Bus} (hr : b.Ranged) (fs : Nat) (u : FaultAt) {p : Nat} (hp : PlainPage p) (hlt : p < 0x4000)
include hr hp hlt

/-- A detection changes of a plain page only EVT_PEND and FAULT_FIRST, and in FLT the registers of the record. -/
theorem Bus.rd_fault_plain {off : Nat} (hflt : p ≠ Block.flt.pg 0 ∨ (off ≠ R.FLT_STATUS ∧ off ≠ R.FLT_REC_USED))
    (hff : off ≠ hdrFaultFirst := by decide) (hne : off ≠ hdrEvtPend := by decide) (ho : off < 4096 := by decide) :
    (b.fault fs u).rd (rk p off) = b.rd (rk p off) := by
  have hsrc := fun o => (fsKey_ne_rk fs o (p := p) hlt ho).symm
  by_cases h : fsKnown fs = true
  · have hpend : rk p off ∉ [pendKey (fsPage fs)] := fun hm => rk_ne_of_off hne ho (by decide) (List.mem_singleton.mp hm)
    rw [b.fault_eq u h, Bus.rd_startGrace _ _ _ _ _ (hsrc _),
      (Bus.faultTold_reported hr u (fsKnown_lt h)).regs _ hpend (hp.reportKey off ho),
      Bus.rd_faultBooked_ne b fs u _ (rk_notMem_recordKeys fs u hflt hff ho) (hsrc _) (hsrc _)]
  · rw [b.fault_unknown u (by simpa using h)]

/-- A detection leaves what is pending on a plain page. -/
theorem Bus.pend_fault {i : Nat} (h : b.bit (pendKey p) i = true) : (b.fault fs u).bit (pendKey p) i = true := by
  have hsrc := fun o => (fsKey_ne_rk fs o (p := p) (off' := hdrEvtPend) hlt (by decide)).symm
  by_cases hfs : fsKnown fs = true
  · have hbook : (b.faultBooked fs u).bit (pendKey p) i = true :=
      (congrArg (bitOf i) (Bus.rd_faultBooked_ne b fs u (pendKey p)
        (rk_notMem_recordKeys fs u (.inr (by decide)) (by decide) (by decide)) (hsrc _) (hsrc _))).trans h
    rw [b.fault_eq u hfs]
    refine (congrArg (bitOf i) (Bus.rd_startGrace _ _ _ _ _ (hsrc _))).trans ?_
    exact Bus.bit_raiseAt_of_bit _ (Bus.ranged_faultBooked hr u) _ _ _ _ _ (Bus.fault_recipients hr u) _ (by omega)
      (hp.reportKey _ (by decide)) hbook
  · rw [b.fault_unknown u (by simpa using hfs)]
    exact h

end

/-! ### The detection as an operation of the state -/

section
variable (s : State) (fs : Nat) (u : FaultAt)

theorem State.ranged_fault {s : State} (hr : s.bus.Ranged) : (s.fault fs u).bus.Ranged := Bus.ranged_fault s.bus fs u hr

theorem State.rd_fault_ctl {p off : Nat} (hp : p < 0x80 := by decide)
    (hflt : p ≠ Block.flt.pg 0 ∨ (off ≠ R.FLT_STATUS ∧ off ≠ R.FLT_REC_USED) := by decide) (hff : off ≠ hdrFaultFirst := by decide)
    (hne : off ≠ hdrEvtPend := by decide) (ho : off < 4096 := by decide) : (s.fault fs u).rd (rk p off) = s.rd (rk p off) :=
  Bus.rd_fault_ctl s.bus fs u hp hflt hff hne ho

end

end Sys2Proof.Machine
end

section
-- One theorem after another: each waiting thread takes 256 MB of the memory the check allows.
set_option Elab.async false
/-! SUPPORT. Changes of registers alone: what a sequence of register writes and reports leaves as it was, whatever registers it touches. -/

namespace Sys2Proof.Machine

/-- The state `t` is `s` but for registers and for what the reporting of events changes. -/
def State.Quiet (s t : State) : Prop := ∃ ks, s.After t ks

namespace State.Quiet

variable {s t u : State}

theorem refl (s : State) : s.Quiet s := ⟨[], .refl s []⟩

theorem trans (h1 : s.Quiet t) (h2 : t.Quiet u) : s.Quiet u := by
  obtain ⟨ks, hst⟩ := h1
  obtain ⟨ls, htu⟩ := h2
  exact ⟨ks ++ ls, (hst.mono fun _ h => List.mem_append_left _ h).trans (htu.mono fun _ h => List.mem_append_right _ h)⟩

theorem ranged (h : s.Quiet t) (hr : s.bus.Ranged) : t.bus.Ranged := h.elim fun _ h => hr.of_after h

theorem eq (h : s.Quiet t) : t = { s with bus := t.bus } := h.elim fun _ h => h.1

theorem now (h : s.Quiet t) : t.bus.now = s.bus.now := h.elim fun _ h => h.2.now
theorem timers (h : s.Quiet t) : t.bus.timers = s.bus.timers := h.elim fun _ h => h.2.timers
theorem keeper (h : s.Quiet t) : t.bus.keeper = s.bus.keeper := h.elim fun _ h => h.2.keeper
theorem pcieUp (h : s.Quiet t) : t.bus.pcieUp = s.bus.pcieUp := h.elim fun _ h => h.2.pcieUp
theorem grantsOn (h : s.Quiet t) : t.bus.grantsOn = s.bus.grantsOn := h.elim fun _ h => h.2.grantsOn

theorem running (h : s.Quiet t) (i : Nat) : t.bus.running i = s.bus.running i := by rw [Bus.running, h.timers, Bus.running]

theorem ladder (h : s.Quiet t) : t.ladder = s.ladder := by rw [h.eq]
theorem power (h : s.Quiet t) : t.power = s.power := by rw [h.eq]
theorem lds (h : s.Quiet t) : t.lds = s.lds := by rw [h.eq]
theorem page (h : s.Quiet t) : t.page = s.page := by rw [h.eq]

theorem wr (h : s.Quiet t) (k v : Nat) : s.Quiet (t.wr k v) := h.trans ⟨[k], (State.After.refl t [k]).wr k v (List.mem_singleton_self k)⟩

theorem setFld (h : s.Quiet t) (k lo w v : Nat) : s.Quiet (t.setFld k lo w v) := h.wr k _

theorem setBit (h : s.Quiet t) (k i : Nat) (v : Bool) : s.Quiet (t.setBit k i v) := h.wr k _

theorem addSat (h : s.Quiet t) (k n : Nat) : s.Quiet (t.addSat k n) := h.wr k _

theorem addWrap (h : s.Quiet t) (k n : Nat) : s.Quiet (t.addWrap k n) := h.wr k _

/-- An event of any page is reported. -/
theorem raise (h : s.Quiet t) (hr : s.bus.Ranged) (page bit : Nat) : s.Quiet (t.raise page bit) :=
  h.trans ⟨_, rfl, Bus.raise_reported t.bus (h.ranged hr) page bit [_] (List.mem_singleton_self _)⟩

theorem raiseAlso (h : s.Quiet t) (hr : s.bus.Ranged) (page bit : Nat) (extra : List Nat) (hx : ∀ v ∈ extra, v < 1024) :
    s.Quiet (t.raiseAlso page bit extra) :=
  h.trans ⟨_, rfl, Bus.raiseAlso_reported t.bus (h.ranged hr) page bit extra hx [_] (List.mem_singleton_self _)⟩

theorem ite {c : Prop} [Decidable c] (ht : s.Quiet t) (hu : s.Quiet u) : s.Quiet (if c then t else u) := by
  split
  · exact ht
  · exact hu

theorem foldl {β : Type} {f : State → β → State} (h : s.Quiet t) (hr : s.bus.Ranged) (l : List β)
    (hf : ∀ a : State, a.bus.Ranged → ∀ x ∈ l, a.Quiet (f a x)) : s.Quiet (l.foldl f t) :=
  List.foldlRecOn (motive := fun a => s.Quiet a) l f h fun _ ha x hx => ha.trans (hf _ (ha.ranged hr) x hx)

end State.Quiet

end Sys2Proof.Machine
end

section
-- One theorem after another: each waiting thread takes 256 MB of the memory the check allows.
set_option Elab.async false
/-! SUPPORT. The registers of the power ladder and of the domains under its operations (R399 to R410). -/

namespace Sys2Proof.Machine

/-! ### Keys -/

theorem pwrDKey_ne {d e : Nat} (h : d ≠ e) {off off' : Nat} (ho : off < 4096 := by decide) (ho' : off' < 4096 := by decide) :
    pwrDKey d off ≠ pwrDKey e off' :=
  rk_ne_page off off' (by simp only [Block.pg]; omega) ho ho'

theorem rk_ne_pwrDKey {p : Nat} (h : p < 8) (d : Nat) {off off' : Nat} (ho : off < 4096 := by decide) (ho' : off' < 4096 := by decide) :
    rk p off ≠ pwrDKey d off' :=
  rk_ne_page off off' (by simp only [Block.pg, Block.base]; omega) ho ho'

theorem pwrDPage_lt {d : Nat} (hd : d < 22) : Block.pwrD.pg d < 0x80 := by
  simp only [Block.pg, Block.base]
  omega

theorem State.domState_of_rd {s t : State} {d : Nat} (h : t.rd (pwrDKey d R.PWR_D_STATUS) = s.rd (pwrDKey d R.PWR_D_STATUS)) :
    t.bus.domState d = s.bus.domState d :=
  congrArg (fieldOf 0 4) h

/-! ### The state of a domain -/

section
variable (s : State) (d st : Nat)

theorem State.setDom_of_eq (h : s.bus.domState d = st) : s.setDom d st = s := if_pos h

theorem State.setDom_of_ne (h : s.bus.domState d ≠ st) :
    s.setDom d st = (s.setFld (pwrDKey d R.PWR_D_STATUS) 0 4 st).raise (Block.pwrD.pg d) 2 := if_neg h

theorem State.setDom_quiet (hr : s.bus.Ranged) : s.Quiet (s.setDom d st) :=
  .ite (.refl s) (((State.Quiet.refl s).setFld _ _ _ _).raise hr _ _)

/-- A register of the control die keeps its value, but for the domain's own STATUS. -/
theorem State.rd_setDom {p off : Nat} (h : rk p off ≠ pwrDKey d R.PWR_D_STATUS) (hp : p < 0x80 := by decide)
    (hne : off ≠ hdrEvtPend := by decide) (ho : off < 4096 := by decide) : (s.setDom d st).rd (rk p off) = s.rd (rk p off) := by
  by_cases hst : s.bus.domState d = st
  · rw [s.setDom_of_eq d st hst]
  · rw [s.setDom_of_ne d st hst]
    exact (State.rd_raise_ctl _ hp hne ho _ _).trans (s.rd_setFld_ne _ _ _ _ _ h)

theorem State.domState_setDom (hd : d < 22) (hst : st < 16) : (s.setDom d st).bus.domState d = st := by
  by_cases h : s.bus.domState d = st
  · rw [s.setDom_of_eq d st h]
    exact h
  · rw [s.setDom_of_ne d st h]
    refine (State.fld_raise_ctl _ (pwrDPage_lt hd) (by decide) (by decide) _ _ 0 4).trans ?_
    exact (s.fld_setFld (pwrDKey d R.PWR_D_STATUS) 0 4 st (by decide)).trans (Nat.mod_eq_of_lt hst)

theorem State.domState_setDom_ne {e : Nat} (he : e < 22) (h : e ≠ d) : (s.setDom d st).bus.domState e = s.bus.domState e :=
  State.domState_of_rd (s.rd_setDom d st (pwrDKey_ne h) (pwrDPage_lt he))

/-- The other bits of a domain's STATUS keep their values. -/
theorem State.bit_setDom (hd : d < 22) {i : Nat} (hi : 4 ≤ i) :
    (s.setDom d st).bit (pwrDKey d R.PWR_D_STATUS) i = s.bit (pwrDKey d R.PWR_D_STATUS) i := by
  by_cases h : s.bus.domState d = st
  · rw [s.setDom_of_eq d st h]
  · rw [s.setDom_of_ne d st h]
    refine (State.bit_raise_ctl _ (pwrDPage_lt hd) (by decide) (by decide) _ _ i).trans ?_
    exact s.bit_setFld_of_disjoint (pwrDKey d R.PWR_D_STATUS) 0 4 st i (by decide) (.inr (by omega))

/-- A change of state is told. -/
theorem State.pend_setDom (hr : s.bus.Ranged) (hd : d < 22) (h : s.bus.domState d ≠ st) :
    (s.setDom d st).pend (Block.pwrD.pg d) 2 = true := by
  rw [s.setDom_of_ne d st h]
  exact (plainPage_pwrD hd).pend_raise (by exact hr.wr _ _) 2 (by decide)

end

/-! ### Several domains -/

section
variable (s : State) (l : List Nat) (st : Nat)

/-- The domains of a list go to one state. -/
def State.setDoms (s : State) (l : List Nat) (st : Nat) : State := l.foldl (fun a d => a.setDom d st) s

theorem State.setDoms_quiet (hr : s.bus.Ranged) : s.Quiet (s.setDoms l st) :=
  (State.Quiet.refl s).foldl hr l fun a ha d _ => a.setDom_quiet d st ha

theorem State.rd_setDoms {p off : Nat} (h : ∀ d ∈ l, rk p off ≠ pwrDKey d R.PWR_D_STATUS) (hp : p < 0x80 := by decide)
    (hne : off ≠ hdrEvtPend := by decide) (ho : off < 4096 := by decide) : (s.setDoms l st).rd (rk p off) = s.rd (rk p off) :=
  State.foldl_keeps (State.rd · (rk p off)) l _ (fun a d hd => a.rd_setDom d st (h d hd) hp hne ho) s

theorem State.domState_setDoms {d : Nat} (hd : d < 22) (hst : st < 16) :
    (s.setDoms l st).bus.domState d = if d ∈ l then st else s.bus.domState d := by
  induction l generalizing s with
  | nil => rfl
  | cons e l ih =>
    refine (ih (s.setDom e st)).trans ?_
    by_cases hde : d = e
    · subst hde
      rw [s.domState_setDom d st hd hst, ite_self, if_pos List.mem_cons_self]
    · rw [s.domState_setDom_ne e st hd hde]
      simp only [List.mem_cons, hde, false_or]

end

/-! ### The timers' modes, and Run reached again -/

theorem State.gptModes_quiet (s : State) (hr : s.bus.Ranged) : s.Quiet s.gptModes :=
  (State.Quiet.refl s).foldl hr _ fun a _ _ _ =>
    have hset := State.Quiet.refl a
    .ite (.ite (hset.setBit _ _ _) (hset.setBit _ _ _)) ((hset.setBit _ _ _).setBit _ _ _)

/-- LOWRES and HELD stand in GPT_STATUS. -/
theorem State.rd_gptModes (s : State) {p : Nat} (hp : p < 0x40 := by decide) {off : Nat} (ho : off < 4096 := by decide) :
    s.gptModes.rd (rk p off) = s.rd (rk p off) := by
  refine State.foldl_keeps (State.rd · (rk p off)) _ _ (fun a n _ => ?_) s
  have hne : rk p off ≠ gptKey n R.GPT_STATUS := rk_ne_page off _ (by simp only [gptPage, Block.pg, Block.base]; omega) ho
  dsimp only
  split
  · split <;> exact a.rd_setBit_ne _ _ _ _ hne
  · exact (State.rd_setBit_ne _ _ _ _ _ hne).trans (a.rd_setBit_ne _ _ _ _ hne)

theorem State.now_setBit (s : State) (k i : Nat) (v : Bool) : (s.setBit k i v).bus.now = s.bus.now := rfl

theorem State.ranged_arm {s : State} (hr : s.bus.Ranged) (t clks : Nat) : (s.arm t clks).bus.Ranged := hr

theorem State.ranged_disarm {s : State} (hr : s.bus.Ranged) (t : Nat) : (s.disarm t).bus.Ranged := hr

section
variable (s : State)

/-- The registers that Run changes as it is reached again: the block on the heartbeat, and the pumps' paths. -/
def State.pathsUp (s : State) : State :=
  (List.range 16).foldl (fun a p => a.setBit (rk (Block.pmp.pg p) R.PMP_STATUS) 2 false)
    ((s.setBit (pwrKey R.PWR_STATUS) 16 false).arm (timerId 20 0) (clkMs 100))

/-- The ladder and the demands as they stand in Run. -/
def State.atRun (s : State) : State := { s with ladder := Ladder.init, lds := { s.lds with allOff := false } }

theorem State.runAgain_eq : s.runAgain = s.pathsUp.atRun := rfl

theorem State.rd_atRun (k : Nat) : s.atRun.rd k = s.rd k := rfl
theorem State.bus_atRun : s.atRun.bus = s.bus := rfl

theorem State.pathsUp_quiet (hr : s.bus.Ranged) :
    ((s.setBit (pwrKey R.PWR_STATUS) 16 false).arm (timerId 20 0) (clkMs 100)).Quiet s.pathsUp :=
  (State.Quiet.refl _).foldl (State.ranged_arm (s.ranged_setBit hr _ 16 false) _ _) _ fun a _ _ _ => (State.Quiet.refl a).setBit _ _ _

theorem State.rd_pathsUp {p off : Nat} (hp : p < 0x80 := by decide) (ho : off < 4096 := by decide) :
    s.pathsUp.rd (rk p off) = (s.setBit (pwrKey R.PWR_STATUS) 16 false).rd (rk p off) := by
  refine (State.foldl_keeps (State.rd · (rk p off)) _ _ (fun a n _ => ?_) _).trans (State.rd_arm _ _ _ _)
  exact a.rd_setBit_ne _ _ _ _ (rk_ne_page off _ (by simp only [Block.pg, Block.base]; omega) ho)

theorem State.rd_runAgain {p off : Nat} (hp : p < 0x80 := by decide) (ho : off < 4096 := by decide) :
    s.runAgain.rd (rk p off) = (s.setBit (pwrKey R.PWR_STATUS) 16 false).rd (rk p off) := by
  rw [s.runAgain_eq, State.rd_atRun, s.rd_pathsUp hp ho]

theorem State.ranged_runAgain (hr : s.bus.Ranged) : s.runAgain.bus.Ranged := by
  rw [s.runAgain_eq, State.bus_atRun]
  exact (s.pathsUp_quiet hr).ranged (State.ranged_arm (s.ranged_setBit hr _ 16 false) _ _)

theorem State.rd_runAgain_ne {p off : Nat} (h : rk p off ≠ pwrKey R.PWR_STATUS) (hp : p < 0x80 := by decide)
    (ho : off < 4096 := by decide) : s.runAgain.rd (rk p off) = s.rd (rk p off) :=
  (s.rd_runAgain hp ho).trans (s.rd_setBit_ne _ _ _ _ h)

/-- Of PWR_STATUS Run changes the block on the heartbeat. -/
theorem State.fld_runAgain (lo w : Nat) (h : lo + w ≤ 16) : s.runAgain.fld (pwrKey R.PWR_STATUS) lo w = s.fld (pwrKey R.PWR_STATUS) lo w := by
  have hrd : s.runAgain.rd (pwrKey R.PWR_STATUS) = _ := s.rd_runAgain (p := pwrPage) (off := R.PWR_STATUS)
  exact (State.fld_of_rd hrd lo w).trans (s.fld_setBit_of_disjoint (pwrKey R.PWR_STATUS) 16 false lo w (by decide) (.inl h))

theorem State.bit_runAgain (i : Nat) (h : i < 16) : s.runAgain.bit (pwrKey R.PWR_STATUS) i = s.bit (pwrKey R.PWR_STATUS) i := by
  have hrd : s.runAgain.rd (pwrKey R.PWR_STATUS) = _ := s.rd_runAgain (p := pwrPage) (off := R.PWR_STATUS)
  exact (State.bit_of_rd hrd i).trans (s.bit_setBit_ne (pwrKey R.PWR_STATUS) 16 false i (by decide) (by omega))

/-- The heartbeat restarts with a full 100 ms (R403). -/
theorem State.heartbeat_runAgain (hr : s.bus.Ranged) : s.runAgain.bus.timers.find? tHeartbeat = some (s.bus.now + clkMs 100) := by
  rw [s.runAgain_eq, State.bus_atRun, (s.pathsUp_quiet hr).timers, tHeartbeat, State.find_arm, State.now_setBit]

theorem State.ladder_runAgain : s.runAgain.ladder = Ladder.init := rfl

end

/-! ### The exit, and an entry given up -/

section
variable (s : State)

/-- The phase of the ladder in an exit. -/
def State.exitPhase (s : State) (l : Ladder) : State := { s with ladder := { l with phase := 3, target := 0 } }

theorem State.bus_exitPhase (l : Ladder) : (s.exitPhase l).bus = s.bus := rfl
theorem State.bit_exitPhase (l : Ladder) (k i : Nat) : (s.exitPhase l).bit k i = s.bit k i := rfl
theorem State.phase_exitPhase (l : Ladder) : (s.exitPhase l).ladder.phase = 3 := rfl

theorem State.beginExit_eq (h : s.pwrState ≠ 4) : s.beginExit =
    (((s.arm tLadder (exitTime s.pwrState)).setDoms s.ladder.down 6).setBit (pwrKey R.PWR_STATUS) 3 true).exitPhase s.ladder := by
  have hl : ∀ t : State, t.ladder = s.ladder →
      (t.setBit (pwrKey R.PWR_STATUS) 3 true).exitPhase t.ladder = (t.setBit (pwrKey R.PWR_STATUS) 3 true).exitPhase s.ladder :=
    fun t ht => by rw [ht]
  unfold State.beginExit
  dsimp only
  rw [if_neg h]
  exact hl _ (State.foldl_keeps State.ladder _ _ (fun a d _ => by unfold State.setDom; split <;> rfl) _)

/-- The registers of an entry that ends: Run, settled, with its REASON. -/
def State.entryOver (s : State) (reason : Nat) : State :=
  (((s.setDoms (s.ladder.draining ++ s.ladder.down) 0).setFld (pwrKey R.PWR_STATUS) 0 3 0).setBit (pwrKey R.PWR_STATUS) 3 false).setFld
    (pwrKey R.PWR_STATUS) 4 4 reason

theorem State.rd_entryOver_ne (reason : Nat) {k : Nat} (h : k ≠ pwrKey R.PWR_STATUS) :
    (s.entryOver reason).rd k = (s.setDoms (s.ladder.draining ++ s.ladder.down) 0).rd k := by
  unfold State.entryOver
  rw [State.rd_setFld_ne _ _ _ _ _ _ h, State.rd_setBit_ne _ _ _ _ _ h, State.rd_setFld_ne _ _ _ _ _ _ h]

theorem State.endEntry_eq (reason : Nat) : s.endEntry reason = (s.entryOver reason).runAgain.raise pwrPage 1 := rfl

theorem State.entryOver_quiet (hr : s.bus.Ranged) (reason : Nat) : s.Quiet (s.entryOver reason) :=
  (((s.setDoms_quiet _ 0 hr).setFld _ _ _ _).setBit _ _ _).setFld _ _ _ _

variable {s}

theorem State.endEntry_shows {r : Nat} (hlt : r < 16) :
    (s.endEntry r).pwrState = 0 ∧ (s.endEntry r).bit (pwrKey R.PWR_STATUS) 3 = false ∧ (s.endEntry r).fld (pwrKey R.PWR_STATUS) 4 4 = r := by
  rw [s.endEntry_eq]
  refine ⟨?_, ?_, ?_⟩
  · refine (State.fld_raise_ctl (p := pwrPage) (off := R.PWR_STATUS) _ (by decide) (by decide) (by decide) pwrPage 1 0 3).trans ?_
    rw [← pwrKey, State.fld_runAgain _ 0 3 (by decide), State.entryOver, State.fld_setFld_of_disjoint _ _ 4 4 _ 0 3 (by decide) (by decide),
      State.fld_setBit_of_disjoint _ _ 3 _ 0 3 (by decide) (by decide), State.fld_setFld _ _ 0 3 _ (by decide), Nat.zero_mod]
  · refine (State.bit_raise_ctl (p := pwrPage) (off := R.PWR_STATUS) _ (by decide) (by decide) (by decide) pwrPage 1 3).trans ?_
    rw [← pwrKey, State.bit_runAgain _ 3 (by decide), State.entryOver, State.bit_setFld_of_disjoint _ _ 4 4 _ 3 (by decide) (by decide),
      State.bit_setBit _ _ 3 _ (by decide)]
  · refine (State.fld_raise_ctl (p := pwrPage) (off := R.PWR_STATUS) _ (by decide) (by decide) (by decide) pwrPage 1 4 4).trans ?_
    rw [← pwrKey, State.fld_runAgain _ 4 4 (by decide), State.entryOver, State.fld_setFld _ _ 4 4 _ (by decide)]
    exact Nat.mod_eq_of_lt hlt

theorem State.endEntry_ladder (r : Nat) : (s.endEntry r).ladder = Ladder.init := rfl

theorem State.endEntry_pend (hr : s.bus.Ranged) (r : Nat) : (s.endEntry r).pend pwrPage 1 = true :=
  plainPage_pwr.pend_raise (State.ranged_runAgain _ ((s.entryOver_quiet hr r).ranged hr)) 1 (by decide)

theorem State.endEntry_domState (r : Nat) {d : Nat} (hd : d < 22) (h : d ∈ s.ladder.draining ∨ d ∈ s.ladder.down) :
    (s.endEntry r).bus.domState d = 0 := by
  have hne : pwrDKey d R.PWR_D_STATUS ≠ pwrKey R.PWR_STATUS := (rk_ne_pwrDKey (by decide) d).symm
  have hdoms := s.domState_setDoms (s.ladder.draining ++ s.ladder.down) 0 hd (by decide)
  rw [if_pos (List.mem_append.mpr h)] at hdoms
  refine (State.domState_of_rd ?_).trans hdoms
  rw [s.endEntry_eq]
  refine (State.rd_raise_ctl _ (pwrDPage_lt hd) (by decide) (by decide) pwrPage 1).trans ?_
  exact (State.rd_runAgain_ne _ hne (pwrDPage_lt hd)).trans (s.rd_entryOver_ne r hne)

theorem State.endEntry_heartbeat (hr : s.bus.Ranged) (r : Nat) :
    (s.endEntry r).bus.timers.find? tHeartbeat = some (s.bus.now + clkMs 100) := by
  have hq := s.entryOver_quiet hr r
  have hrun := State.ranged_runAgain _ (hq.ranged hr)
  rw [s.endEntry_eq, ((State.Quiet.refl _).raise hrun pwrPage 1).timers, State.heartbeat_runAgain _ (hq.ranged hr), hq.now]

end

end Sys2Proof.Machine
end

section
-- One theorem after another: each waiting thread takes 256 MB of the memory the check allows.
set_option Elab.async false
/-! SUPPORT. Device identity (R384, R385). The statement on it, settled. -/

namespace Sys2Proof.Machine

variable {dt vi v : Nat} {s : State}

/-- The request that a VI leaves: the challenge as it stands. -/
def Idn.asked (i : Idn) (vi : Nat) (chal : List Nat) : Idn := { i with req := some (vi, chal), reader := none }

section
variable (hup : s.bus.pageUp idnPage = true) (hv : bitOf 0 v = true)
include hup hv

theorem exec_idnReportRequest (hidle : s.bit (idnKey R.IDN_STATUS) 3 = false) (hready : s.idnReady = true) :
    exec (.idnReportRequest dt vi v) s = .next (((s.tick dt).setBit (idnKey R.IDN_STATUS) 3 true).modIdn
      (·.asked vi (s.rdList (idnKey R.IDN_CHAL) 8))) := by
  refine congrArg Host.Outcome.next ((if_neg ?_).trans ((if_neg ?_).trans (if_neg ?_)))
  · rw [show (s.tick dt).bus.pageUp idnPage = true from hup]
    decide
  · rw [hv]
    decide
  · rw [show (s.tick dt).bit (idnKey R.IDN_STATUS) 3 = false from hidle, show (s.tick dt).idnReady = true from hready]
    decide

theorem exec_idnReportRequest_busy (hbusy : s.bit (idnKey R.IDN_STATUS) 3 = true) :
    exec (.idnReportRequest dt vi v) s = .next ((s.tick dt).cfgErr idnPage) := by
  refine congrArg Host.Outcome.next ((if_neg ?_).trans ((if_neg ?_).trans (if_pos ?_)))
  · rw [show (s.tick dt).bus.pageUp idnPage = true from hup]
    decide
  · rw [hv]
    decide
  · rw [show (s.tick dt).bit (idnKey R.IDN_STATUS) 3 = true from hbusy, Bool.true_or]

end

/-- A report that no request asks for is not made. -/
theorem exec_idnReportReady_of_none (h : s.idn.req = none) : exec (.idnReportReady dt) s = .next (s.tick dt) := by
  show execIdnReportReady dt s = _
  unfold execIdnReportReady
  dsimp only
  rw [show (s.tick dt).idn.req = none from h]

/-- The report that answers a request: its body signed with words drawn. -/
def State.reportMade (g : State × List Nat) (vi : Nat) (body : List Nat) : State :=
  (g.1.setBit (idnKey R.IDN_STATUS) 3 false).modIdn
    (fun i => { i with req := none, reader := some vi, report := bytesWords 83 body ++ g.2 })

theorem exec_idnReportReady {chal : List Nat} (h : s.idn.req = some (vi, chal)) : exec (.idnReportReady dt) s =
    .next ((State.reportMade ((s.tick dt).draw 24) vi ((s.tick dt).reportBody chal)).on (·.raiseFor idnPage 0 vi [])) := by
  show execIdnReportReady dt s = _
  unfold execIdnReportReady
  dsimp only
  rw [show (s.tick dt).idn.req = some (vi, chal) from h]
  rfl

theorem State.reportMade_busy (g : State × List Nat) (body : List Nat) :
    (State.reportMade g vi body).bit (idnKey R.IDN_STATUS) 3 = false :=
  State.bit_setBit g.1 _ _ _ (by decide)

theorem State.ranged_draw (hr : s.bus.Ranged) (n : Nat) : (s.draw n).1.bus.Ranged := by
  rw [s.draw_fst]
  exact hr

theorem State.ranged_reportMade (g : State × List Nat) (hr : g.1.bus.Ranged) (body : List Nat) :
    (State.reportMade g vi body).bus.Ranged :=
  State.ranged_setBit g.1 hr _ _ _

/-- The state with the identity key of words drawn, and its KEYID (R384). -/
def State.keyMade (g : State × List Nat) : State :=
  ((g.1.wrList (idnKey R.IDN_PUB) g.2).wrList (idnKey R.IDN_KEYID) (bytesWords 12 (sha384 (4 :: g.2.flatMap (octets 4))))).setBit
    (idnKey R.IDN_STATUS) 0 true

theorem State.rd_modIdn (s : State) (f : Idn → Idn) (k : Nat) : (s.modIdn f).rd k = s.rd k := rfl

theorem State.rdList_modIdn (s : State) (f : Idn → Idn) (k n : Nat) : (s.modIdn f).rdList k n = s.rdList k n := rfl

theorem State.idnReady_setBit (s : State) (f : Idn → Idn) : ((s.setBit (idnKey R.IDN_STATUS) 0 true).modIdn f).idnReady = true :=
  s.bit_setBit (idnKey R.IDN_STATUS) 0 true (by decide)

theorem exec_identityKeygen (hkeyed : s.idn.keyed = false) (hrng : s.rngReady = true) :
    exec (.identityKeygen dt) s = .next ((State.keyMade ((s.tick dt).draw 24)).modIdn fun i => { i with keyed := true }) := by
  have hgo : ¬((s.tick dt).idn.keyed || !(s.tick dt).rngReady) = true := by
    rw [show (s.tick dt).idn.keyed = false from hkeyed, show (s.tick dt).rngReady = true from hrng]
    decide
  exact congrArg Host.Outcome.next (if_neg hgo)

theorem exec_identityKeygen_idle (h : s.idn.keyed = true ∨ s.rngReady = false) : exec (.identityKeygen dt) s = .next (s.tick dt) := by
  show execIdentityKeygen dt s = _
  unfold execIdentityKeygen
  dsimp only
  have hidle : ((s.tick dt).idn.keyed || !(s.tick dt).rngReady) = true := by
    rcases h with h | h
    · rw [show (s.tick dt).idn.keyed = true from h, Bool.true_or]
    · rw [show (s.tick dt).rngReady = false from h, Bool.not_false, Bool.or_true]
  rw [if_pos hidle]

/-- The public key of the identity is the words drawn. -/
theorem State.rdList_pub_keyMade (g : State × List Nat) (hlen : g.2.length = 24) (hlt : ∀ v ∈ g.2, v < 2 ^ 32) :
    (State.keyMade g).rdList (idnKey R.IDN_PUB) 24 = g.2 := by
  have hpub := g.1.rdList_wrList (idnKey R.IDN_PUB) _ hlt
  rw [hlen] at hpub
  refine (State.rdList_congr fun i hi => ?_).trans hpub
  refine (State.rd_setBit_ne _ _ _ _ _ ?_).trans (State.rd_wrList_ne _ _ _ _ (.inr ?_))
  · simp only [idnKey, rk, R.IDN_PUB, R.IDN_STATUS]
    omega
  · rw [length_bytesWords]
    simp only [idnKey, rk, R.IDN_PUB, R.IDN_KEYID]
    omega

theorem State.rd_keyId_keyMade (g : State × List Nat) {i : Nat} (hi : i < 12) : (State.keyMade g).rd (idnKey (R.IDN_KEYID + 4 * i)) =
    (bytesWords 12 (sha384 (4 :: g.2.flatMap (octets 4)))).getD i 0 % 2 ^ 32 := by
  have hkey : idnKey (R.IDN_KEYID + 4 * i) = idnKey R.IDN_KEYID + 4 * i := by
    simp only [idnKey, rk]
    omega
  rw [hkey]
  refine (State.rd_setBit_ne _ _ _ _ _ ?_).trans (State.rd_wrList _ _ _ i (by rwa [length_bytesWords]))
  simp only [idnKey, rk, R.IDN_KEYID, R.IDN_STATUS]
  omega

/-- Settles O48: a request takes the challenge, the report is made of it and of drawn words, and the key pair is made once. -/
theorem identityIsMadeOnceAndReported : Obligations.IdentityIsMadeOnceAndReported := by
  unfold Obligations.IdentityIsMadeOnceAndReported
  refine ⟨fun dt vi v s hup hv hidle hready => ?_, fun dt vi v s hup hv hbusy => ?_, fun dt vi chal s hr hvi hreq => ?_,
    fun dt s h => exec_idnReportReady_of_none h, fun dt s hkeyed hrng => ?_, fun dt s h => exec_identityKeygen_idle h⟩
  · exact ⟨_, exec_idnReportRequest hup hv hidle hready, (s.tick dt).bit_setBit (idnKey R.IDN_STATUS) 3 true (by decide), rfl,
      fun k hk => (s.tick dt).rd_setBit_ne (idnKey R.IDN_STATUS) 3 true k hk⟩
  · exact exec_idnReportRequest_busy hup hv hbusy
  · rw [exec_idnReportReady hreq]
    have hlen := (s.tick dt).length_draw 24
    have hdraw := (s.tick dt).ranged_draw hr 24
    generalize (s.tick dt).draw 24 = g at hlen hdraw
    have hmade := State.ranged_reportMade (vi := vi) g hdraw ((s.tick dt).reportBody chal)
    have hvis : ∀ w ∈ vi :: ([] : List Nat), w < 1024 := by simpa using hvi
    refine ⟨_, rfl, ?_, rfl, rfl, List.take_left' (length_bytesWords _ _), ?_,
      plainPage_idn.pend_raiseFor hmade 0 vi [] hvis (by decide)⟩
    · exact ((plainPage_idn.after_raiseFor hmade 0 vi [] hvis).bit _ 3 (by decide) (by decide)).trans (State.reportMade_busy g _)
    · exact List.length_append.trans (by rw [length_bytesWords, hlen])
  · rw [exec_identityKeygen hkeyed hrng]
    have hlen := (s.tick dt).length_draw 24
    have hlt := (s.tick dt).lt_of_mem_draw 24
    generalize (s.tick dt).draw 24 = g at hlen hlt
    refine ⟨_, rfl, rfl, State.idnReady_setBit _ _, fun i hi => ?_⟩
    rw [State.rd_modIdn, State.rdList_modIdn, State.rdList_pub_keyMade g hlen hlt]
    exact State.rd_keyId_keyMade g hi

end Sys2Proof.Machine
end

section
-- One theorem after another: each waiting thread takes 256 MB of the memory the check allows.
set_option Elab.async false
/-! SUPPORT. Targets of the ladder, the drain of a domain, and the states reached (R401 to R403, Tables 14-2 and 14-3). The statement on
them, settled. -/

namespace Sys2Proof.Machine

/-! ### Targets -/

section
variable {s : State} {t : Nat} (ht : 1 ≤ t)
include ht

theorem State.pwrTarget_busy (h : s.ladder.phase ≠ 0) : s.pwrTarget t = s.pwrRefuse 1 :=
  (if_pos h).trans (if_neg (by omega))

variable (h : s.ladder.phase = 0)
include h

theorem State.pwrTarget_idle : s.pwrTarget t = if (List.range 8).any (fun c => decide (s.coiPhase c = 1)) then s.pwrRefuse 2
    else if s.dkyState = 4 ∨ s.fld (updKey R.UPD_STATUS) 0 3 = 5 then s.pwrRefuse 3
    else if s.pwrState ≠ 0 then s.pwrRefuse 5
    else s.ladderEnter t :=
  (if_neg (not_not.mpr h)).trans (if_neg (by omega))

theorem State.pwrTarget_coil (hc : ∃ c, c < 8 ∧ s.coiPhase c = 1) : s.pwrTarget t = s.pwrRefuse 2 := by
  rw [State.pwrTarget_idle ht h, if_pos]
  simpa only [List.any_eq_true, List.mem_range, decide_eq_true_eq] using hc

variable (hc : ∀ c, c < 8 → s.coiPhase c ≠ 1)
include hc

theorem State.pwrTarget_rest : s.pwrTarget t = if s.dkyState = 4 ∨ s.fld (updKey R.UPD_STATUS) 0 3 = 5 then s.pwrRefuse 3
    else if s.pwrState ≠ 0 then s.pwrRefuse 5
    else s.ladderEnter t := by
  rw [State.pwrTarget_idle ht h, if_neg]
  simpa only [List.any_eq_true, List.mem_range, decide_eq_true_eq, not_exists, not_and] using hc

theorem State.pwrTarget_update (hu : s.dkyState = 4 ∨ s.fld (updKey R.UPD_STATUS) 0 3 = 5) : s.pwrTarget t = s.pwrRefuse 3 :=
  (State.pwrTarget_rest ht h hc).trans (if_pos hu)

variable (hd : s.dkyState ≠ 4) (hu : s.fld (updKey R.UPD_STATUS) 0 3 ≠ 5)
include hd hu

theorem State.pwrTarget_notRun (hs : s.pwrState ≠ 0) : s.pwrTarget t = s.pwrRefuse 5 :=
  (State.pwrTarget_rest ht h hc).trans ((if_neg (not_or.mpr ⟨hd, hu⟩)).trans (if_pos hs))

theorem State.pwrTarget_enter (hs : s.pwrState = 0) : s.pwrTarget t = s.ladderEnter t :=
  (State.pwrTarget_rest ht h hc).trans ((if_neg (not_or.mpr ⟨hd, hu⟩)).trans (if_neg (not_not.mpr hs)))

end

/-- A write of the owner of the PWR page by VI 0. -/
theorem State.pwrWrite_owner (s : State) (page : Nat) (f : State → State) (ha : s.bus.pageAccess page 0 = 2)
    (hup : s.bus.pageUp page = true) : s.pwrWrite 0 page f = f s :=
  (s.guardWrite_owner 0 page _ ha hup).trans (if_pos rfl)

theorem State.pwrWrite_denied (s : State) (vi page : Nat) (f : State → State) (hvi : vi ≠ 0) (ha : s.bus.pageAccess page vi = 2)
    (hup : s.bus.pageUp page = true) : s.pwrWrite vi page f = s.on (·.denied) :=
  (s.guardWrite_owner vi page _ ha hup).trans (if_neg hvi)

section
variable (s : State) {r : Nat}

/-- A refusal shows its REASON and EV42. -/
theorem State.pwrRefuse_shows (hr : s.bus.Ranged) (hlt : r < 16) : (s.pwrRefuse r).fld (pwrKey R.PWR_STATUS) 4 4 = r ∧
    (s.pwrRefuse r).pend pwrPage 6 = true ∧ s.After (s.pwrRefuse r) [pwrKey R.PWR_STATUS, pendKey pwrPage] := by
  have hset : (s.setFld (pwrKey R.PWR_STATUS) 4 4 r).bus.Ranged := s.ranged_setFld hr _ _ _ _
  refine ⟨?_, plainPage_pwr.pend_raise hset 6 (by decide), ?_⟩
  · refine (plainPage_pwr.fld_raise plainPage_pwr hset 6 4 4).trans ?_
    exact (s.fld_setFld (pwrKey R.PWR_STATUS) 4 4 r (by decide)).trans (Nat.mod_eq_of_lt hlt)
  · exact ((State.After.refl s _).setFld _ _ _ _ (by decide)).raise hr _ 6 plainPage_pwr.entryGranted (by decide)

end

/-! ### The entry -/

section
variable (s : State)

/-- The registers as an entry to `t` begins. -/
def State.entryRegs (s : State) (t : Nat) : State :=
  ((((s.wr (pwrKey R.PWR_CTRL) t).setBit (pwrKey R.PWR_STATUS) 3 true).setFld (pwrKey R.PWR_STATUS) 4 4 0).setBit
    (pwrKey R.PWR_STATUS) 16 true).setFld (pwrKey R.PWR_STATUS) 8 4 0

theorem State.entryRegs_quiet (t : Nat) : s.Quiet (s.entryRegs t) :=
  (((((State.Quiet.refl s).wr _ _).setBit _ _ _).setFld _ _ _ _).setBit _ _ _).setFld _ _ _ _

theorem State.rd_entryRegs_ne (t : Nat) {k : Nat} (h : k ≠ pwrKey R.PWR_CTRL) (h' : k ≠ pwrKey R.PWR_STATUS) :
    (s.entryRegs t).rd k = s.rd k := by
  unfold State.entryRegs
  rw [State.rd_setFld_ne _ _ _ _ _ _ h', State.rd_setBit_ne _ _ _ _ _ h', State.rd_setFld_ne _ _ _ _ _ _ h',
    State.rd_setBit_ne _ _ _ _ _ h', State.rd_wr_ne _ _ _ _ h]

/-- The domains of the first rank that are in Run drain first. -/
def State.firstRank (s : State) : List Nat := (ranks.headD []).filter (fun d => decide (s.bus.domState d = 0))

/-- The state of an entry to `t` before the first domain drains. -/
def State.entryAt (s : State) (t : Nat) : State :=
  { (s.entryRegs t).disarm tHeartbeat with ladder := { Ladder.init with phase := 1, target := t } }

/-- A rank that holds domains in Run drains. -/
def State.rankDrains (s : State) (l : List Nat) : State := { s with ladder := { s.ladder with rank := 1, draining := l } }

theorem State.bus_entryAt (t : Nat) : (s.entryAt t).bus = (s.entryRegs t).bus.disarm tHeartbeat := rfl

theorem Bus.domState_disarm (b : Bus) (t d : Nat) : (b.disarm t).domState d = b.domState d := rfl

theorem State.domState_entryAt (t d : Nat) : (s.entryAt t).bus.domState d = s.bus.domState d := by
  rw [State.bus_entryAt, Bus.domState_disarm]
  exact State.domState_of_rd (s.rd_entryRegs_ne t (rk_ne_pwrDKey (by decide) d).symm (rk_ne_pwrDKey (by decide) d).symm)

theorem State.startRanks_first (ds : List Nat) (rest : List (List Nat)) (h : ds.filter (fun d => decide (s.bus.domState d = 0)) ≠ []) :
    s.startRanks 1 (ds :: rest) = (ds.filter (fun d => decide (s.bus.domState d = 0))).foldl State.drainDom
      (s.rankDrains (ds.filter (fun d => decide (s.bus.domState d = 0)))) := by
  have hr3 : ¬((1 : Nat) = 3 ∧ s.ladder.target = 4) := fun h => absurd h.1 (by decide)
  unfold State.startRanks
  simp only [if_neg hr3, List.isEmpty_iff, if_neg h]
  rfl

theorem State.ladderEnter_eq (t : Nat) {d0 : Nat} (hd0 : d0 ∈ ranks.headD []) (h0 : s.bus.domState d0 = 0) :
    s.ladderEnter t = s.firstRank.foldl State.drainDom ((s.entryAt t).rankDrains s.firstRank) := by
  have hfirst : (ranks.headD []).filter (fun d => decide ((s.entryAt t).bus.domState d = 0)) = s.firstRank := by
    simp only [s.domState_entryAt t]
    rfl
  have hne : s.firstRank ≠ [] := List.ne_nil_of_mem (List.mem_filter.mpr ⟨hd0, decide_eq_true h0⟩)
  have h := (s.entryAt t).startRanks_first (ranks.headD []) ranks.tail (by rwa [hfirst])
  rwa [hfirst] at h

end

/-! ### Domains that drain -/

section
variable (s : State) (d : Nat)

theorem State.ladder_setDom (st : Nat) : (s.setDom d st).ladder = s.ladder := by
  unfold State.setDom
  split <;> rfl

theorem State.bus_setDom (st : Nat) : (s.setDom d st).bus = if s.bus.domState d = st then s.bus else
    (s.bus.setFld (pwrDKey d R.PWR_D_STATUS) 0 4 st).raise (Block.pwrD.pg d) 2 :=
  apply_ite State.bus _ _ _

/-- A domain that drains, with the time it began. -/
def State.drainSince (s : State) (d : Nat) : State :=
  { s.setDom d 5 with power := { s.power with since := s.power.since.set d s.bus.now } }

theorem State.drainDom_eq (h : d ≠ 10) : s.drainDom d = s.drainSince d := if_neg h

theorem State.bus_drainDom (h : d ≠ 10) : (s.drainDom d).bus = (s.setDom d 5).bus := by
  rw [s.drainDom_eq d h]
  rfl

theorem State.ladder_drainDom (h : d ≠ 10) : (s.drainDom d).ladder = s.ladder := by
  rw [s.drainDom_eq d h]
  exact s.ladder_setDom d 5

end

/-- The registers of domains that drain are those of domains in state DRAINING. -/
theorem State.bus_drainDoms (l : List Nat) (h : ∀ d ∈ l, d ≠ 10) {s t : State} (hst : s.bus = t.bus) :
    (l.foldl State.drainDom s).bus = (t.setDoms l 5).bus := by
  induction l generalizing s t with
  | nil => exact hst
  | cons d l ih =>
    have hd := List.forall_mem_cons.mp h
    refine ih hd.2 ?_
    rw [s.bus_drainDom d hd.1, State.bus_setDom, State.bus_setDom, hst]

theorem State.ladder_drainDoms (l : List Nat) (h : ∀ d ∈ l, d ≠ 10) (s : State) : (l.foldl State.drainDom s).ladder = s.ladder :=
  State.foldl_keeps State.ladder l _ (fun a d hd => a.ladder_drainDom d (h d hd)) s

theorem firstRank_ne_ten (s : State) : ∀ d ∈ s.firstRank, d ≠ 10 := fun d hd he => by
  have hmem := (List.mem_filter.mp hd).1
  rw [he] at hmem
  exact absurd hmem (by decide)

section
variable {s : State} {t d0 : Nat} (hr : s.bus.Ranged) (hd0 : d0 ∈ ranks.headD []) (h0 : s.bus.domState d0 = 0)
include hd0 h0

theorem State.ladderEnter_ladder : (s.ladderEnter t).ladder =
    { Ladder.init with phase := 1, target := t, rank := 1, draining := s.firstRank } := by
  rw [s.ladderEnter_eq t hd0 h0, State.ladder_drainDoms _ (firstRank_ne_ten s)]
  rfl

theorem State.ladderEnter_bus : (s.ladderEnter t).bus = (((s.entryRegs t).disarm tHeartbeat).setDoms s.firstRank 5).bus := by
  rw [s.ladderEnter_eq t hd0 h0]
  exact State.bus_drainDoms _ (firstRank_ne_ten s) rfl

theorem State.ladderEnter_rd {off : Nat} (hne : off ≠ hdrEvtPend := by decide) (ho : off < 4096 := by decide) :
    (s.ladderEnter t).rd (pwrKey off) = (s.entryRegs t).rd (pwrKey off) := by
  refine (congrArg (Bus.rd · (pwrKey off)) (State.ladderEnter_bus hd0 h0)).trans ?_
  exact (State.rd_setDoms _ _ 5 (fun d _ => rk_ne_pwrDKey (by decide) d ho) (by decide) hne ho).trans (State.rd_disarm _ _ _)

theorem State.ladderEnter_domState {d : Nat} (hd : d < 22) : (s.ladderEnter t).bus.domState d =
    if d ∈ ranks.headD [] ∧ s.bus.domState d = 0 then 5 else s.bus.domState d := by
  rw [State.ladderEnter_bus hd0 h0, State.domState_setDoms _ _ 5 hd (by decide)]
  have hdom : ((s.entryRegs t).disarm tHeartbeat).bus.domState d = s.bus.domState d := s.domState_entryAt t d
  simp only [State.firstRank, List.mem_filter, decide_eq_true_eq, hdom]

include hr in
theorem State.ladderEnter_heartbeat : (s.ladderEnter t).bus.running tHeartbeat = false := by
  have hbegun : ((s.entryRegs t).disarm tHeartbeat).bus.Ranged := State.ranged_disarm ((s.entryRegs_quiet t).ranged hr) _
  rw [State.ladderEnter_bus hd0 h0, (State.setDoms_quiet _ _ 5 hbegun).running]
  exact Bus.running_disarm _ _

end

/-! ### A domain down -/

section
variable (s : State)

theorem State.rd_setMtx (m : Nat) (x : Mtx) (k : Nat) : (s.setMtx m x).rd k = s.rd k := rfl

theorem State.rd_setStage (n : Nat) (x : Stage) (k : Nat) : (s.setStage' n x).rd k = s.rd k := rfl

/-- FIELD dark touches the string stages and the matrix ports alone. -/
theorem State.rd_fieldDark {p off : Nat} (hp : p < 0x80) (ho : off < 4096) : s.fieldDark.rd (rk p off) = s.rd (rk p off) := by
  have hstg : ∀ n, rk p off ≠ stgKey n R.STG_IOUT := fun n =>
    rk_ne_page off _ (by simp only [stgPage, Block.pg, Block.base]; omega) ho
  unfold State.fieldDark
  extract_lets s1
  have h1 : s1.rd (rk p off) = s.rd (rk p off) :=
    State.foldl_keeps (State.rd · (rk p off)) _ _ (fun a n _ => (State.rd_wr_ne _ _ _ _ (hstg n)).trans (a.rd_setStage n _ _)) s
  clear_value s1
  exact (State.foldl_keeps (State.rd · (rk p off)) _ _ (fun a m _ => a.rd_setMtx m _ _) s1).trans h1

variable (d st : Nat)

/-- The pad latches of a domain engage as it goes to Deep or Off (R407). -/
def State.padsLatch (s : State) (d st : Nat) : State :=
  if latches st && decide (1 ≤ d) then (s.setBit (pwrKey R.PWR_PAD_HELD) d true).setBit (pwrDKey d R.PWR_D_STATUS) 8 true else s

/-- What leaves with the FIELD domain. -/
def State.fieldLeaves (s : State) (d : Nat) : State := if d = 1 then s.fieldDark else s

/-- A domain no longer drains or wakes. -/
def State.sinceErased (s : State) (d : Nat) : State := { s with power := { s.power with since := s.power.since.erase d } }

theorem State.rd_sinceErased (k : Nat) : (s.sinceErased d).rd k = s.rd k := rfl

theorem State.pend_sinceErased (page i : Nat) : (s.sinceErased d).pend page i = s.pend page i := rfl

theorem State.bus_sinceErased : (s.sinceErased d).bus = s.bus := rfl

theorem State.domDown_eq : s.domDown d st = (((s.setDom d st).padsLatch d st).fieldLeaves d).sinceErased d := rfl

theorem State.rd_fieldLeaves {p off : Nat} (hp : p < 0x80) (ho : off < 4096) : (s.fieldLeaves d).rd (rk p off) = s.rd (rk p off) := by
  unfold State.fieldLeaves
  split
  · exact s.rd_fieldDark hp ho
  · rfl

theorem State.rd_domDown {p off : Nat} (hp : p < 0x80) (ho : off < 4096) :
    (s.domDown d st).rd (rk p off) = ((s.setDom d st).padsLatch d st).rd (rk p off) := by
  rw [s.domDown_eq, State.rd_sinceErased, State.rd_fieldLeaves _ _ hp ho]

theorem State.padsLatch_held (hst : 3 ≤ st) (hd : 1 ≤ d) : s.padsLatch d st =
    (s.setBit (pwrKey R.PWR_PAD_HELD) d true).setBit (pwrDKey d R.PWR_D_STATUS) 8 true :=
  if_pos (by simp only [latches, Bool.and_eq_true, decide_eq_true_eq]; exact ⟨hst, hd⟩)

theorem State.rd_padsLatch_ne {k : Nat} (h : k ≠ pwrKey R.PWR_PAD_HELD) (h' : k ≠ pwrDKey d R.PWR_D_STATUS) :
    (s.padsLatch d st).rd k = s.rd k := by
  unfold State.padsLatch
  split
  · rw [State.rd_setBit_ne _ _ _ _ _ h', State.rd_setBit_ne _ _ _ _ _ h]
  · rfl

theorem State.domState_padsLatch : (s.padsLatch d st).bus.domState d = s.bus.domState d := by
  have hne : pwrDKey d R.PWR_D_STATUS ≠ pwrKey R.PWR_PAD_HELD := (rk_ne_pwrDKey (by decide) d).symm
  unfold State.padsLatch
  split
  · refine (State.fld_setBit_of_disjoint _ (pwrDKey d R.PWR_D_STATUS) 8 true 0 4 (by decide) (by decide)).trans ?_
    exact State.domState_of_rd (State.rd_setBit_ne _ _ _ _ _ hne)
  · rfl

section
variable {d st : Nat} (hd : d < 22) (hst : st < 16)
include hd

include hst in
theorem State.domDown_domState : (s.domDown d st).bus.domState d = st := by
  refine (State.domState_of_rd (s.rd_domDown d st (pwrDPage_lt hd) (by decide))).trans ?_
  exact (State.domState_padsLatch _ d st).trans (s.domState_setDom d st hd hst)

theorem State.domDown_pads (h1 : 1 ≤ d) (h3 : 3 ≤ st) :
    (s.domDown d st).bit (pwrKey R.PWR_PAD_HELD) d = true ∧ (s.domDown d st).bit (pwrDKey d R.PWR_D_STATUS) 8 = true := by
  have hne : pwrKey R.PWR_PAD_HELD ≠ pwrDKey d R.PWR_D_STATUS := rk_ne_pwrDKey (by decide) d
  constructor
  · refine (State.bit_of_rd (s.rd_domDown d st (p := pwrPage) (by decide) (by decide)) d).trans ?_
    rw [State.padsLatch_held _ d st h3 h1]
    exact (State.bit_of_rd (State.rd_setBit_ne _ _ _ _ _ hne) d).trans (State.bit_setBit _ (pwrKey R.PWR_PAD_HELD) d true (by omega))
  · refine (State.bit_of_rd (s.rd_domDown d st (pwrDPage_lt hd) (by decide)) 8).trans ?_
    rw [State.padsLatch_held _ d st h3 h1]
    exact State.bit_setBit _ (pwrDKey d R.PWR_D_STATUS) 8 true (by decide)

theorem State.domDown_pend (hr : s.bus.Ranged) (h : s.bus.domState d ≠ st) : (s.domDown d st).pend (Block.pwrD.pg d) 2 = true := by
  refine (State.bit_of_rd (s.rd_domDown d st (pwrDPage_lt hd) (by decide)) 2).trans ?_
  refine (State.bit_of_rd (State.rd_padsLatch_ne _ d st (rk_ne_of_off) (rk_ne_of_off)) 2).trans ?_
  exact s.pend_setDom d st hr hd h

end

end

/-! ### The drain of a domain ends -/

section
variable {dt d us : Nat} {s : State} (hus : (s.tick dt).domUs d = us) (h200 : us ≤ 200) (h5 : s.bus.domState d = 5)
  (hposted : s.postedIn d = false)
include hus h200 h5 hposted

/-- The state with the time that the drain took. -/
def State.drainTimed (s : State) (d us : Nat) : State :=
  s.wr (pwrDKey d R.PWR_D_DRAIN) (us + 256 * max us (s.fld (pwrDKey d R.PWR_D_DRAIN) 8 8))

theorem exec_domainDrainComplete : exec (.domainDrainComplete dt d) s = .next (
    if s.ladder.draining.contains d then
      let s2 := ((s.tick dt).drainTimed d us).domDown d s.ladder.target
      let s3 := { s2 with ladder := { s2.ladder with draining := s.ladder.draining.filter (· != d), down := d :: s2.ladder.down } }
      if (s.ladder.draining.filter (· != d)).isEmpty then s3.startRanks (s.ladder.rank + 1) (ranks.drop s.ladder.rank) else s3
    else ((s.tick dt).drainTimed d us).domDown d (s.power.target.find 0 d)) := by
  have hgo : ¬((s.tick dt).bus.domState d ≠ 5 ∨ (s.tick dt).postedIn d = true ∨ 200 < (s.tick dt).domUs d) := by
    rw [hus]
    refine not_or.mpr ⟨not_not.mpr h5, not_or.mpr ⟨?_, by omega⟩⟩
    rw [show (s.tick dt).postedIn d = false from hposted]
    decide
  refine congrArg Host.Outcome.next ((if_neg hgo).trans ?_)
  rw [hus]
  rfl

end

/-! ### The drain of a domain is given up -/

section
variable {dt d : Nat} {s : State}

/-- A drain given up: counted, FS112, EV39 of the domain. -/
def State.drainFailed (s : State) (d : Nat) : State :=
  ((((s.addSat (pwrDKey d R.PWR_D_CNT_ABORT) 1).addSat (pwrKey R.PWR_CNT_ABORT) 1).fault 112 { page := Block.pwrD.pg d }).raise
    (Block.pwrD.pg d) 3).sinceErased d

/-- A domain that returns to Run because its drain was given up. -/
def State.drainUndone (s : State) (d : Nat) : State :=
  (((s.setDom d 0).setBit (pwrDKey d R.PWR_D_STATUS) 9 false).wr (pwrDKey d R.PWR_D_CTRL) 0).setFld (pwrDKey d R.PWR_D_STATUS) 4 4 4

theorem exec_domainDrainAbort (h5 : s.bus.domState d = 5) (hlate : s.power.since.find 0 d + clkUs 200 ≤ s.bus.now + dt) :
    exec (.domainDrainAbort dt d) s = .next (if s.ladder.draining.contains d then ((s.tick dt).drainFailed d).endEntry 4
      else ((s.tick dt).drainFailed d).drainUndone d) := by
  have hgo : ¬((s.tick dt).bus.domState d ≠ 5 ∨ (s.tick dt).bus.now < (s.tick dt).power.since.find 0 d + clkUs 200) := by
    refine not_or.mpr ⟨not_not.mpr h5, ?_⟩
    show ¬(s.bus.now + dt < s.power.since.find 0 d + clkUs 200)
    omega
  exact congrArg Host.Outcome.next (if_neg hgo)

/-- The registers of a drain given up. -/
def State.drainCounted (s : State) (d : Nat) : State :=
  ((s.addSat (pwrDKey d R.PWR_D_CNT_ABORT) 1).addSat (pwrKey R.PWR_CNT_ABORT) 1).fault 112 { page := Block.pwrD.pg d }

theorem State.drainFailed_eq (s : State) (d : Nat) : s.drainFailed d = ((s.drainCounted d).raise (Block.pwrD.pg d) 3).sinceErased d := rfl

theorem State.ladder_sinceErased (s : State) (d : Nat) : (s.sinceErased d).ladder = s.ladder := rfl

theorem State.drainFailed_ladder (s : State) (d : Nat) : (s.drainFailed d).ladder = s.ladder := by
  rw [s.drainFailed_eq, State.ladder_sinceErased, State.raise_ladder, State.drainCounted, State.fault_ladder, State.addSat_ladder,
    State.addSat_ladder]

variable (hr : s.bus.Ranged)
include hr

theorem State.ranged_drainCounted : (s.drainCounted d).bus.Ranged :=
  State.ranged_fault _ _ (((State.Quiet.refl s).addSat _ _ |>.addSat _ _).ranged hr)

theorem State.ranged_drainFailed : (s.drainFailed d).bus.Ranged := by
  rw [s.drainFailed_eq, State.bus_sinceErased]
  exact ((State.Quiet.refl _).raise (State.ranged_drainCounted hr) _ _).ranged (State.ranged_drainCounted hr)

variable (hd : d < 22)
include hd

theorem State.drainFailed_pend : (s.drainFailed d).pend (Block.pwrD.pg d) 3 = true := by
  rw [s.drainFailed_eq, State.pend_sinceErased]
  exact (plainPage_pwrD hd).pend_raise (State.ranged_drainCounted hr) 3 (by decide)

omit hr in
theorem State.drainFailed_count : (s.drainFailed d).rd (pwrDKey d R.PWR_D_CNT_ABORT) =
    min (s.rd (pwrDKey d R.PWR_D_CNT_ABORT) + 1) 0xFFFFFFFF := by
  have hne : pwrDKey d R.PWR_D_CNT_ABORT ≠ pwrKey R.PWR_CNT_ABORT := (rk_ne_pwrDKey (by decide) d).symm
  have hflt : Block.pwrD.pg d ≠ Block.flt.pg 0 := by
    simp only [Block.pg, Block.base]
    omega
  rw [s.drainFailed_eq, State.rd_sinceErased, pwrDKey, State.rd_raise_ctl _ (pwrDPage_lt hd) (by decide) (by decide),
    State.drainCounted, State.rd_fault_ctl _ _ _ (pwrDPage_lt hd) (.inl hflt), ← pwrDKey, State.rd_addSat_ne _ _ _ _ hne]
  exact State.rd_addSat _ _ _

end

section
variable (s : State) {d : Nat} (hd : d < 22)
include hd

theorem State.rd_drainUndone_ne {off : Nat} (h : off ≠ R.PWR_D_STATUS) (h' : off ≠ R.PWR_D_CTRL) (hne : off ≠ hdrEvtPend := by decide)
    (ho : off < 4096 := by decide) : (s.drainUndone d).rd (pwrDKey d off) = s.rd (pwrDKey d off) := by
  have hst : pwrDKey d off ≠ pwrDKey d R.PWR_D_STATUS := rk_ne_of_off h ho
  have hctrl : pwrDKey d off ≠ pwrDKey d R.PWR_D_CTRL := rk_ne_of_off h' ho
  unfold State.drainUndone
  rw [State.rd_setFld_ne _ _ _ _ _ _ hst, State.rd_wr_ne _ _ _ _ hctrl, State.rd_setBit_ne _ _ _ _ _ hst]
  exact s.rd_setDom d 0 hst (pwrDPage_lt hd) hne ho

theorem State.drainUndone_shows : (s.drainUndone d).bus.domState d = 0 ∧ (s.drainUndone d).fld (pwrDKey d R.PWR_D_STATUS) 4 4 = 4 ∧
    (s.drainUndone d).bit (pwrDKey d R.PWR_D_STATUS) 9 = false := by
  have hne : pwrDKey d R.PWR_D_STATUS ≠ pwrDKey d R.PWR_D_CTRL := rk_ne_of_off
  refine ⟨?_, State.fld_setFld _ (pwrDKey d R.PWR_D_STATUS) 4 4 4 (by decide), ?_⟩
  · refine (State.fld_setFld_of_disjoint _ (pwrDKey d R.PWR_D_STATUS) 4 4 4 0 4 (by decide) (by decide)).trans ?_
    rw [State.fld_wr_ne _ _ _ _ _ _ hne, State.fld_setBit_of_disjoint _ _ 9 false 0 4 (by decide) (by decide)]
    exact s.domState_setDom d 0 hd (by decide)
  · refine (State.bit_setFld_of_disjoint _ (pwrDKey d R.PWR_D_STATUS) 4 4 4 9 (by decide) (by decide)).trans ?_
    rw [State.bit_wr_ne _ _ _ _ _ hne]
    exact State.bit_setBit _ (pwrDKey d R.PWR_D_STATUS) 9 false (by decide)

theorem State.pend_setDom_of_pend (hr : s.bus.Ranged) (st : Nat) {i : Nat} (h : s.pend (Block.pwrD.pg d) i = true) :
    (s.setDom d st).pend (Block.pwrD.pg d) i = true := by
  by_cases hst : s.bus.domState d = st
  · rwa [s.setDom_of_eq d st hst]
  · rw [s.setDom_of_ne d st hst]
    refine (plainPage_pwrD hd).pend_raise_of_pend (s.ranged_setFld hr _ _ _ _) 2 (by decide) ?_
    exact (State.bit_of_rd (s.rd_setFld_ne _ _ _ _ _ pendKey_ne) i).trans h

theorem State.drainUndone_pend (hr : s.bus.Ranged) {i : Nat} (h : s.pend (Block.pwrD.pg d) i = true) :
    (s.drainUndone d).pend (Block.pwrD.pg d) i = true := by
  have hset := s.pend_setDom_of_pend hd hr 0 h
  have hst : pendKey (Block.pwrD.pg d) ≠ pwrDKey d R.PWR_D_STATUS := pendKey_ne
  have hctrl : pendKey (Block.pwrD.pg d) ≠ pwrDKey d R.PWR_D_CTRL := pendKey_ne
  refine (State.bit_of_rd ?_ i).trans hset
  unfold State.drainUndone
  rw [State.rd_setFld_ne _ _ _ _ _ _ hst, State.rd_wr_ne _ _ _ _ hctrl, State.rd_setBit_ne _ _ _ _ _ hst]

end

/-! ### The exit begins -/

section
variable {s : State}

theorem State.beginExit_shows (hr : s.bus.Ranged) (h : s.pwrState ≠ 4) : s.beginExit.ladder.phase = 3 ∧
    s.beginExit.bit (pwrKey R.PWR_STATUS) 3 = true ∧ (∀ d ∈ s.ladder.down, d < 22 → s.beginExit.bus.domState d = 6) ∧
    s.beginExit.bus.timers.find? tLadder = some (s.bus.now + exitTime s.pwrState) := by
  have hq : (s.arm tLadder (exitTime s.pwrState)).Quiet _ := State.setDoms_quiet _ s.ladder.down 6 (State.ranged_arm hr _ _)
  rw [s.beginExit_eq h, State.bus_exitPhase, State.bit_exitPhase, State.phase_exitPhase]
  refine ⟨rfl, State.bit_setBit _ (pwrKey R.PWR_STATUS) 3 true (by decide), fun d hd hlt => ?_, ?_⟩
  · refine (State.domState_of_rd (State.rd_setBit_ne _ _ _ _ _ (rk_ne_pwrDKey (by decide) d).symm)).trans ?_
    rw [State.domState_setDoms _ _ 6 hlt (by decide), if_pos hd]
  · have hfind := s.find_arm tLadder (exitTime s.pwrState)
    rw [← hq.timers] at hfind
    exact hfind

end

/-! ### A state of the ladder is reached -/

section
variable (s : State)

/-- What goes down with the links from Sleep on, and with PCIe from Deep on. -/
def State.linksDown (s : State) (t : Nat) : State :=
  let s2 := if 2 ≤ t then (List.range 512).foldl State.linkDown s else s
  if 3 ≤ t then ((s2.bus.sessions.cells.map (·.1)).foldl State.closeSession s2).on (fun b => { b with pcieUp := false }) else s2

theorem State.linksDown_idle (t : Nat) (h : t < 2) : s.linksDown t = s := by
  have h3 : ¬3 ≤ t := by omega
  unfold State.linksDown
  dsimp only
  rw [if_neg h3, if_neg (by omega)]

theorem State.linksDown_pcieUp (t : Nat) (h : 3 ≤ t) : (s.linksDown t).bus.pcieUp = false := by
  unfold State.linksDown
  dsimp only
  rw [if_pos h]
  rfl

/-- PWR_STATUS as a state is reached: settled. -/
def State.settled (s : State) (t : Nat) : State := (s.setFld (pwrKey R.PWR_STATUS) 0 3 t).setBit (pwrKey R.PWR_STATUS) 3 false

/-- The ladder at rest. -/
def State.ladderIdle (s : State) : State := { s with ladder := { s.ladder with phase := 0 } }

theorem State.bus_ladderIdle : s.ladderIdle.bus = s.bus := rfl
theorem State.rd_ladderIdle (k : Nat) : s.ladderIdle.rd k = s.rd k := rfl

theorem State.ladderReached_eq (h : s.ladder.latched = false) :
    s.ladderReached = (((s.settled s.ladder.target).linksDown s.ladder.target).ladderIdle.gptModes).raise pwrPage 1 :=
  if_neg (by rw [h]; exact Bool.false_ne_true)

theorem State.settled_quiet (t : Nat) : s.Quiet (s.settled t) := ((State.Quiet.refl s).setFld _ _ _ _).setBit _ _ _

theorem State.settled_shows {t : Nat} (h : t < 8) : (s.settled t).fld (pwrKey R.PWR_STATUS) 0 3 = t ∧
    (s.settled t).bit (pwrKey R.PWR_STATUS) 3 = false := by
  refine ⟨?_, State.bit_setBit _ (pwrKey R.PWR_STATUS) 3 false (by decide)⟩
  refine (State.fld_setBit_of_disjoint _ (pwrKey R.PWR_STATUS) 3 false 0 3 (by decide) (by decide)).trans ?_
  exact (s.fld_setFld (pwrKey R.PWR_STATUS) 0 3 t (by decide)).trans (Nat.mod_eq_of_lt h)

theorem State.rd_settled_ne (t : Nat) {k : Nat} (h : k ≠ pwrKey R.PWR_STATUS) : (s.settled t).rd k = s.rd k :=
  (State.rd_setBit_ne _ _ _ _ _ h).trans (State.rd_setFld_ne _ _ _ _ _ _ h)

theorem State.ladderReached_idle (hr : s.bus.Ranged) (ht : s.ladder.target = 1) (hl : s.ladder.latched = false) :
    s.ladderReached.pwrState = 1 ∧ s.ladderReached.bit (pwrKey R.PWR_STATUS) 3 = false ∧ s.ladderReached.pend pwrPage 1 = true ∧
    s.ladderReached.ladder.phase = 0 := by
  have hset : (s.settled 1).ladderIdle.bus.Ranged := (s.settled_quiet 1).ranged hr
  have hmodes := (s.settled 1).ladderIdle.gptModes_quiet hset
  have hrd : ((s.settled 1).ladderIdle.gptModes.raise pwrPage 1).rd (pwrKey R.PWR_STATUS) = (s.settled 1).rd (pwrKey R.PWR_STATUS) :=
    (State.rd_raise_ctl (p := pwrPage) (off := R.PWR_STATUS) _ (by decide) (by decide) (by decide) pwrPage 1).trans
      ((State.rd_gptModes _ (p := pwrPage) (off := R.PWR_STATUS)).trans (State.rd_ladderIdle _ _))
  obtain ⟨hstate, hbusy⟩ := s.settled_shows (t := 1) (by decide)
  rw [s.ladderReached_eq hl, ht, State.linksDown_idle _ 1 (by decide)]
  refine ⟨(State.fld_of_rd hrd 0 3).trans hstate, (State.bit_of_rd hrd 3).trans hbusy,
    plainPage_pwr.pend_raise (hmodes.ranged hset) 1 (by decide), ?_⟩
  rw [State.raise_ladder, hmodes.ladder]
  rfl

theorem State.gptModes_pcieUp : s.gptModes.bus.pcieUp = s.bus.pcieUp := by
  refine State.foldl_keeps (fun a : State => a.bus.pcieUp) _ _ (fun a n _ => ?_) s
  dsimp only
  split
  · split <;> rfl
  · rfl

theorem State.ladderReached_pcieUp (ht : 3 ≤ s.ladder.target) (hl : s.ladder.latched = false) : s.ladderReached.bus.pcieUp = false := by
  rw [s.ladderReached_eq hl, (State.held_raise _ pwrPage 1).pcieUp, State.gptModes_pcieUp, State.bus_ladderIdle]
  exact State.linksDown_pcieUp _ _ ht

end

/-! ### Run is reached -/

section
variable (s : State)

/-- The domains down on their own go back to the states asked for. -/
def State.domsAsAsked (s : State) : State :=
  (List.range 22).foldl (fun a d =>
    if a.bit (pwrDKey d R.PWR_D_STATUS) 9 then a.setDom d (a.fld (pwrDKey d R.PWR_D_CTRL) 0 3) else a) s

theorem State.domsAsAsked_quiet (hr : s.bus.Ranged) : s.Quiet s.domsAsAsked :=
  (State.Quiet.refl s).foldl hr _ fun a ha d _ => .ite (a.setDom_quiet d _ ha) (.refl a)

theorem State.rd_domsAsAsked {off : Nat} (hne : off ≠ hdrEvtPend := by decide) (ho : off < 4096 := by decide) :
    s.domsAsAsked.rd (pwrKey off) = s.rd (pwrKey off) := by
  refine State.foldl_keeps (State.rd · (pwrKey off)) _ _ (fun a d _ => ?_) s
  split
  · exact a.rd_setDom d _ (rk_ne_pwrDKey (by decide) d ho) (by decide) hne ho
  · rfl

/-- Run before its events. -/
def State.runReached (s : State) : State := (((s.setDoms s.ladder.down 0).domsAsAsked.settled 0).runAgain.gptModes).raise pwrPage 1

theorem State.ladderRun_eq : s.ladderRun =
    if s.ladder.woken then (s.runReached.addWrap (pwrKey R.PWR_CNT_WAKE) 1).raise pwrPage 4 else s.runReached := rfl

variable {s}

theorem State.runReached_ladder (hr : s.bus.Ranged) : s.runReached.ladder = Ladder.init := by
  have hdoms := (s.setDoms_quiet s.ladder.down 0 hr).ranged hr
  have hset := ((State.domsAsAsked_quiet _ hdoms).trans (State.settled_quiet _ 0)).ranged hdoms
  rw [State.runReached, State.raise_ladder, (State.gptModes_quiet _ (State.ranged_runAgain _ hset)).ladder, State.ladder_runAgain]

theorem State.rd_runReached {off : Nat} (h : off ≠ hdrEvtPend := by decide) (ho : off < 4096 := by decide) :
    s.runReached.rd (pwrKey off) = ((s.setDoms s.ladder.down 0).domsAsAsked.settled 0).runAgain.rd (pwrKey off) :=
  (State.rd_raise_ctl (p := pwrPage) _ (by decide) h ho pwrPage 1).trans (State.rd_gptModes _ (p := pwrPage) (by decide) ho)

theorem State.runReached_shows : s.runReached.pwrState = 0 ∧ s.runReached.bit (pwrKey R.PWR_STATUS) 3 = false ∧
    s.runReached.rd (pwrKey R.PWR_CNT_WAKE) = s.rd (pwrKey R.PWR_CNT_WAKE) := by
  obtain ⟨hstate, hbusy⟩ := (s.setDoms s.ladder.down 0).domsAsAsked.settled_shows (t := 0) (by decide)
  have hne : pwrKey R.PWR_CNT_WAKE ≠ pwrKey R.PWR_STATUS := by decide
  refine ⟨?_, ?_, ?_⟩
  · rw [State.pwrState, State.fld_of_rd State.rd_runReached, State.fld_runAgain _ 0 3 (by decide), hstate]
  · rw [State.bit_of_rd State.rd_runReached, State.bit_runAgain _ 3 (by decide), hbusy]
  · rw [State.rd_runReached, pwrKey, State.rd_runAgain_ne _ hne, ← pwrKey, State.rd_settled_ne _ 0 hne, State.rd_domsAsAsked]
    exact s.rd_setDoms _ 0 (fun d _ => rk_ne_pwrDKey (by decide) d)

theorem State.ranged_runReached (hr : s.bus.Ranged) : s.runReached.bus.Ranged ∧ s.runReached.pend pwrPage 1 = true := by
  have hdoms := (s.setDoms_quiet s.ladder.down 0 hr).ranged hr
  have hset := ((State.domsAsAsked_quiet _ hdoms).trans (State.settled_quiet _ 0)).ranged hdoms
  have hrun := State.ranged_runAgain _ hset
  have hmodes := (State.gptModes_quiet _ hrun).ranged hrun
  exact ⟨((State.Quiet.refl _).raise hmodes _ _).ranged hmodes, plainPage_pwr.pend_raise hmodes 1 (by decide)⟩

/-- Run reached after a wake counts it and raises EV40. -/
theorem State.runReached_woken (hr : s.bus.Ranged) :
    ((s.runReached.addWrap (pwrKey R.PWR_CNT_WAKE) 1).raise pwrPage 4).pwrState = 0 ∧
    ((s.runReached.addWrap (pwrKey R.PWR_CNT_WAKE) 1).raise pwrPage 4).bit (pwrKey R.PWR_STATUS) 3 = false ∧
    ((s.runReached.addWrap (pwrKey R.PWR_CNT_WAKE) 1).raise pwrPage 4).pend pwrPage 1 = true ∧
    ((s.runReached.addWrap (pwrKey R.PWR_CNT_WAKE) 1).raise pwrPage 4).pend pwrPage 4 = true ∧
    ((s.runReached.addWrap (pwrKey R.PWR_CNT_WAKE) 1).raise pwrPage 4).rd (pwrKey R.PWR_CNT_WAKE) =
      (s.rd (pwrKey R.PWR_CNT_WAKE) + 1) % 2 ^ 32 := by
  obtain ⟨hr1, hpend⟩ := State.ranged_runReached hr
  obtain ⟨hstate, hbusy, hcnt⟩ := State.runReached_shows (s := s)
  generalize s.runReached = t at *
  have hadd : (t.addWrap (pwrKey R.PWR_CNT_WAKE) 1).bus.Ranged := ((State.Quiet.refl t).addWrap _ _).ranged hr1
  have hrd : ((t.addWrap (pwrKey R.PWR_CNT_WAKE) 1).raise pwrPage 4).rd (pwrKey R.PWR_STATUS) = t.rd (pwrKey R.PWR_STATUS) :=
    (State.rd_raise_ctl (p := pwrPage) (off := R.PWR_STATUS) _ (by decide) (by decide) (by decide) pwrPage 4).trans
      (State.rd_addWrap_ne _ _ _ _ (by decide))
  refine ⟨(State.fld_of_rd hrd 0 3).trans hstate, (State.bit_of_rd hrd 3).trans hbusy, ?_, plainPage_pwr.pend_raise hadd 4 (by decide), ?_⟩
  · refine plainPage_pwr.pend_raise_of_pend hadd 4 (by decide) ?_
    exact (State.bit_addWrap_ne _ _ _ 1 1 pendKey_ne).trans hpend
  · refine (State.rd_raise_ctl (p := pwrPage) (off := R.PWR_CNT_WAKE) _ (by decide) (by decide) (by decide) pwrPage 4).trans ?_
    rw [← pwrKey, State.rd_addWrap, hcnt]

theorem State.ladderRun_shows (hr : s.bus.Ranged) : s.ladderRun.pwrState = 0 ∧ s.ladderRun.bit (pwrKey R.PWR_STATUS) 3 = false ∧
    s.ladderRun.pend pwrPage 1 = true ∧ s.ladderRun.ladder = Ladder.init ∧
    (s.ladder.woken = true → s.ladderRun.pend pwrPage 4 = true ∧
      s.ladderRun.rd (pwrKey R.PWR_CNT_WAKE) = (s.rd (pwrKey R.PWR_CNT_WAKE) + 1) % 2 ^ 32) := by
  rw [s.ladderRun_eq]
  by_cases hw : s.ladder.woken = true
  · obtain ⟨hstate, hbusy, h1, h4, hcnt⟩ := State.runReached_woken hr
    rw [if_pos hw]
    refine ⟨hstate, hbusy, h1, ?_, fun _ => ⟨h4, hcnt⟩⟩
    rw [State.raise_ladder, State.addWrap_ladder, State.runReached_ladder hr]
  · obtain ⟨hstate, hbusy, -⟩ := State.runReached_shows (s := s)
    rw [if_neg hw]
    exact ⟨hstate, hbusy, (State.ranged_runReached hr).2, State.runReached_ladder hr, fun h => absurd h hw⟩

end

/-! ### The commands -/

section
variable {dt : Nat} {s : State}

theorem State.tick_phase (s : State) (dt : Nat) : (s.tick dt).ladder = s.ladder := rfl

section
variable (ha : s.bus.pageAccess pwrPage 0 = 2) (hup : s.bus.pageUp pwrPage = true)
include ha hup

/-- A target that VI 0 asks for. -/
theorem State.pwrWrite_target (t : Nat) : (s.tick dt).pwrWrite 0 pwrPage (·.pwrTarget t) = (s.tick dt).pwrTarget t :=
  State.pwrWrite_owner _ pwrPage _ ha hup

theorem exec_pwrTargetRun : exec (.pwrTargetRun dt 0) s = .next ((s.tick dt).pwrTarget 0) :=
  congrArg Host.Outcome.next (State.pwrWrite_target ha hup 0)

end

theorem State.pwrTarget_run (hp : s.ladder.phase = 0) (hs : s.pwrState = 0) : s.pwrTarget 0 = s.wr (pwrKey R.PWR_CTRL) 0 :=
  (if_neg (not_not.mpr hp)).trans ((if_pos rfl).trans (if_pos hs))

theorem State.pwrTarget_exit (hp : s.ladder.phase = 0) (hs : s.pwrState ≠ 0) (ht : s.power.tripped = false) :
    s.pwrTarget 0 = (s.wr (pwrKey R.PWR_CTRL) 0).beginExit :=
  (if_neg (not_not.mpr hp)).trans ((if_pos rfl).trans ((if_neg hs).trans (if_neg (by rw [ht]; decide))))

theorem exec_ladderStateReached_state (h : s.ladder.phase = 2) : exec (.ladderStateReached dt none) s = .next (s.tick dt).ladderReached :=
  congrArg Host.Outcome.next (if_pos h)

theorem exec_ladderStateReached_run (h : s.ladder.phase = 3) (hdue : (s.tick dt).due tLadder = true) :
    exec (.ladderStateReached dt none) s = .next ((s.tick dt).disarm tLadder).ladderRun := by
  have h2 : (s.tick dt).ladder.phase ≠ 2 := by
    rw [State.tick_phase, h]
    decide
  exact congrArg Host.Outcome.next ((if_neg h2).trans ((if_pos h).trans (State.onExpiry_due _ _ _ hdue)))

end

section
variable {dt : Nat} {s : State} (ha : s.bus.pageAccess pwrPage 0 = 2) (hup : s.bus.pageUp pwrPage = true) (hp : s.ladder.phase = 0)
  (hc : ∀ c, c < 8 → s.coiPhase c ≠ 1) (hd : s.dkyState ≠ 4) (hu : s.fld (updKey R.UPD_STATUS) 0 3 ≠ 5) (hs : s.pwrState = 0)
include ha hup hp hc hd hu hs

/-- A target is entered from Run. -/
theorem State.pwrWrite_enter {t : Nat} (ht : 1 ≤ t) : (s.tick dt).pwrWrite 0 pwrPage (·.pwrTarget t) = (s.tick dt).ladderEnter t :=
  (State.pwrWrite_target ha hup t).trans (State.pwrTarget_enter (s := s.tick dt) ht hp hc hd hu hs)

end

section
variable {dt d us : Nat} {s : State} (hus : (s.tick dt).domUs d = us) (h200 : us ≤ 200) (h5 : s.bus.domState d = 5)
  (hposted : s.postedIn d = false)
include hus h200 h5 hposted

theorem exec_domainDrainComplete_ladder (hmem : d ∈ s.ladder.draining) (hrest : s.ladder.draining.filter (· != d) ≠ []) :
    exec (.domainDrainComplete dt d) s = .next { ((s.tick dt).drainTimed d us).domDown d s.ladder.target with
      ladder := { (((s.tick dt).drainTimed d us).domDown d s.ladder.target).ladder with
        draining := s.ladder.draining.filter (· != d)
        down := d :: (((s.tick dt).drainTimed d us).domDown d s.ladder.target).ladder.down } } := by
  have hempty : ¬(s.ladder.draining.filter (· != d)).isEmpty = true := by rwa [List.isEmpty_iff]
  refine (exec_domainDrainComplete hus h200 h5 hposted).trans (congrArg Host.Outcome.next ?_)
  exact (if_pos (List.contains_iff_mem.mpr hmem)).trans (if_neg hempty)

theorem exec_domainDrainComplete_own (hmem : d ∉ s.ladder.draining) :
    exec (.domainDrainComplete dt d) s = .next (((s.tick dt).drainTimed d us).domDown d (s.power.target.find 0 d)) :=
  (exec_domainDrainComplete hus h200 h5 hposted).trans
    (congrArg Host.Outcome.next (if_neg fun h => hmem (List.contains_iff_mem.mp h)))

end

section
variable {dt d : Nat} {s : State} (hr : s.bus.Ranged) (hd : d < 22) (h5 : s.bus.domState d = 5)
  (hlate : s.power.since.find 0 d + clkUs 200 ≤ s.bus.now + dt)
include hr hd h5 hlate

theorem exec_domainDrainAbort_own (hmem : d ∉ s.ladder.draining) : ∃ t, exec (.domainDrainAbort dt d) s = .next t ∧
    t.bus.domState d = 0 ∧ t.pend (Block.pwrD.pg d) 3 = true ∧ t.fld (pwrDKey d R.PWR_D_STATUS) 4 4 = 4 ∧
    t.bit (pwrDKey d R.PWR_D_STATUS) 9 = false ∧
    t.rd (pwrDKey d R.PWR_D_CNT_ABORT) = min (s.rd (pwrDKey d R.PWR_D_CNT_ABORT) + 1) 0xFFFFFFFF := by
  have hrt : (s.tick dt).bus.Ranged := hr
  have hpend := State.drainFailed_pend hrt hd
  have hcount := State.drainFailed_count (s := s.tick dt) hd
  have hrf : ((s.tick dt).drainFailed d).bus.Ranged := State.ranged_drainFailed hrt
  refine ⟨((s.tick dt).drainFailed d).drainUndone d, ?_, ?_⟩
  · exact (exec_domainDrainAbort h5 hlate).trans (congrArg Host.Outcome.next (if_neg fun h => hmem (List.contains_iff_mem.mp h)))
  · generalize (s.tick dt).drainFailed d = t at *
    obtain ⟨hst, hreason, hreq⟩ := t.drainUndone_shows hd
    exact ⟨hst, t.drainUndone_pend hd hrf hpend, hreason, hreq, (t.rd_drainUndone_ne hd (by decide) (by decide)).trans hcount⟩

theorem exec_domainDrainAbort_ladder (hmem : d ∈ s.ladder.draining) : ∃ u : State, exec (.domainDrainAbort dt d) s = .next (u.endEntry 4) ∧
    u.ladder = s.ladder ∧ u.pend (Block.pwrD.pg d) 3 = true :=
  ⟨(s.tick dt).drainFailed d,
    (exec_domainDrainAbort h5 hlate).trans (congrArg Host.Outcome.next (if_pos (List.contains_iff_mem.mpr hmem))),
    State.drainFailed_ladder _ d, State.drainFailed_pend (s := s.tick dt) hr hd⟩

end

/-- What an entry to the ladder shows as it begins. -/
theorem State.ladderEnter_shows {s : State} {t d0 : Nat} (ht : t ≤ 4) (hd0 : d0 ∈ ranks.headD [])
    (h0 : s.bus.domState d0 = 0) : (s.ladderEnter t).rd (pwrKey R.PWR_CTRL) = t ∧ (s.ladderEnter t).bit (pwrKey R.PWR_STATUS) 3 = true ∧
    (s.ladderEnter t).bit (pwrKey R.PWR_STATUS) 16 = true := by
  have hne : pwrKey R.PWR_CTRL ≠ pwrKey R.PWR_STATUS := by decide
  refine ⟨?_, ?_, ?_⟩
  · rw [State.ladderEnter_rd hd0 h0, State.entryRegs, State.rd_setFld_ne _ _ _ _ _ _ hne, State.rd_setBit_ne _ _ _ _ _ hne,
      State.rd_setFld_ne _ _ _ _ _ _ hne, State.rd_setBit_ne _ _ _ _ _ hne, State.rd_wr, Nat.mod_eq_of_lt (by omega)]
  · rw [State.bit_of_rd (State.ladderEnter_rd hd0 h0), State.entryRegs,
      State.bit_setFld_of_disjoint _ _ 8 4 _ 3 (by decide) (by decide), State.bit_setBit_ne _ _ 16 _ 3 (by decide) (by decide),
      State.bit_setFld_of_disjoint _ _ 4 4 _ 3 (by decide) (by decide), State.bit_setBit _ _ 3 _ (by decide)]
  · rw [State.bit_of_rd (State.ladderEnter_rd hd0 h0), State.entryRegs,
      State.bit_setFld_of_disjoint _ _ 8 4 _ 16 (by decide) (by decide), State.bit_setBit _ _ 16 _ (by decide)]

/-- Settles O50: each clause is a branch of the ladder's operations, with the registers it writes followed under the drains of the domains
and the events told. -/
theorem ladderStatesAreEnteredLeftOrRefused : Obligations.LadderStatesAreEnteredLeftOrRefused := by
  refine ⟨fun dt s ha hup hp hc hd hu hs => ?_, fun s t d0 hr h1 h4 hd0 h0 => ?_, fun s t ht => ?_, fun s r hr hlt => s.pwrRefuse_shows hr hlt,
    fun dt vi s hvi ha hup => ?_, fun dt s ha hup hp hs ht => ?_, fun s hr h1 h3 => s.beginExit_shows hr (by omega),
    fun dt d us s s2 hus h200 h5 hposted hmem hrest hs2 => ?_, fun dt d us s hus h200 h5 hposted hmem => ?_,
    fun s d st hr hd hst => ⟨s.domDown_domState hd hst, fun h1 h3 => s.domDown_pads hd h1 h3, s.domDown_pend hd hr⟩,
    fun dt d s hr hd h5 hlate hmem => exec_domainDrainAbort_own hr hd h5 hlate hmem,
    fun dt d s hr hd h5 hlate hmem => exec_domainDrainAbort_ladder hr hd h5 hlate hmem, fun s r hr hlt => ?_,
    fun dt s h => exec_ladderStateReached_state h, fun s hr ht hl => s.ladderReached_idle hr ht hl,
    fun s _ ht hl => s.ladderReached_pcieUp ht hl, fun dt s h hdue => exec_ladderStateReached_run h hdue, fun s hr => State.ladderRun_shows hr⟩
  · have henter := fun t ht => State.pwrWrite_enter (dt := dt) ha hup hp hc hd hu hs (t := t) ht
    exact ⟨congrArg Host.Outcome.next (henter 1 (by decide)), congrArg Host.Outcome.next (henter 2 (by decide)),
      congrArg Host.Outcome.next (henter 3 (by decide)), congrArg Host.Outcome.next (henter 4 (by decide)),
      (exec_pwrTargetRun ha hup).trans (congrArg Host.Outcome.next (State.pwrTarget_run hp hs))⟩
  · have hl := State.ladderEnter_ladder (t := t) hd0 h0
    obtain ⟨hctrl, hbusy, hblock⟩ := State.ladderEnter_shows h4 hd0 h0
    refine ⟨?_, ?_, ?_, hctrl, hbusy, hblock, State.ladderEnter_heartbeat hr hd0 h0, fun d hd => State.ladderEnter_domState hd0 h0 hd⟩
      <;> rw [hl]
    rfl
  · exact ⟨State.pwrTarget_busy ht, State.pwrTarget_coil ht, State.pwrTarget_update ht, State.pwrTarget_notRun ht⟩
  · exact congrArg Host.Outcome.next (State.pwrWrite_denied (s.tick dt) vi pwrPage _ hvi ha hup)
  · exact (exec_pwrTargetRun ha hup).trans (congrArg Host.Outcome.next (State.pwrTarget_exit (s := s.tick dt) hp hs ht))
  · rw [hs2]
    exact exec_domainDrainComplete_ladder hus h200 h5 hposted hmem hrest
  · exact exec_domainDrainComplete_own hus h200 h5 hposted hmem
  · obtain ⟨hstate, hbusy, hreason⟩ := State.endEntry_shows (s := s) hlt
    exact ⟨hstate, hbusy, hreason, State.endEntry_pend hr r, State.endEntry_ladder r, fun d hd h => State.endEntry_domState r hd h,
      State.endEntry_heartbeat hr r⟩

end Sys2Proof.Machine
end

section
-- One theorem after another: each waiting thread takes 256 MB of the memory the check allows.
set_option Elab.async false
/-! SUPPORT. Detection, records, forced detections, acknowledgement and the window of a correctable source (R422 to R432). The statement on
them, settled. -/

namespace Sys2Proof.Machine

/-! ### What a detection shows -/

theorem satInc_eq_min {w v : Nat} (h : v < 2 ^ w) : satInc w v = min (v + 1) (2 ^ w - 1) := by
  unfold satInc
  split <;> omega

section
variable {b : Bus} (hr : b.Ranged) {fs : Nat} (u : FaultAt) (hfs : fs < 192)
include hr hfs

theorem Bus.faultTold_cnt : (b.faultTold fs u).rd (fsKey fs R.FLT_SRC_CNT) = min (b.rd (fsKey fs R.FLT_SRC_CNT) + 1) 0xFFFFFFFF :=
  (Bus.rd_faultTold_fsKey hr u hfs).trans (b.rd_cnt_faultBooked fs u)

theorem Bus.faultTold_status : (b.faultTold fs u).rd (fsKey fs R.FLT_SRC_STATUS) =
    setBitOf 10 (decide (fsClass fs ≠ 0)) (b.rd (fsKey fs R.FLT_SRC_STATUS)) :=
  (Bus.rd_faultTold_fsKey hr u hfs).trans (b.rd_status_faultBooked fs u)

theorem Bus.faultTold_held : (b.faultTold fs u).bit (fsKey fs R.FLT_SRC_STATUS) 10 = decide (fsClass fs ≠ 0) :=
  (congrArg (bitOf 10) (Bus.faultTold_status hr u hfs)).trans (bitOf_setBitOf _ _ _)

theorem Bus.faultTold_state : (b.faultTold fs u).fld (fsKey fs R.FLT_SRC_STATUS) 2 2 = b.fld (fsKey fs R.FLT_SRC_STATUS) 2 2 :=
  (congrArg (fieldOf 2 2) (Bus.faultTold_status hr u hfs)).trans (fieldOf_setBitOf_of_disjoint 2 2 10 _ _ (.inr (by decide)))

theorem Bus.faultTold_pend : (b.faultTold fs u).bit (pendKey (fsPage fs)) (fs % 16) = true := by
  have hkey := evKey_page (fsPage fs) hdrEvtPend 0 (plainPage_fs hfs).entryGranted
  have h := Bus.raiseAt_pend (b.faultBooked fs u) (Bus.ranged_faultBooked hr u) (fsPage fs) (fsPage fs) (fs % 16) 0
    [(b.faultBooked fs u).fsOwner fs u.page] (Bus.fault_recipients hr u) none (by omega) (by rw [hkey]; exact (plainPage_fs hfs).reportKey _ (by decide))
  rwa [hkey] at h

end

section
variable (b : Bus) (fs page addr : Nat)

theorem Bus.bit_startGrace (i : Nat) (h : 4 ≤ i) :
    (b.startGrace fs page addr).bit (fsKey fs R.FLT_SRC_STATUS) i = b.bit (fsKey fs R.FLT_SRC_STATUS) i := by
  by_cases hs : fsClass fs = 0 ∨ b.fld (fsKey fs R.FLT_SRC_STATUS) 2 2 ≠ 0
  · rw [b.startGrace_idle fs page addr hs]
  · obtain ⟨hc, hst⟩ := not_or.mp hs
    rw [b.startGrace_starts fs page addr hc (not_not.mp hst)]
    rw [Bus.graceStarted, Bus.bit_eq, Bus.arm_rd, Bus.rd_setFld _ _ _ _ _ (by decide),
      bitOf_setFieldOf_of_disjoint i 2 2 1 _ (.inr h)]
    rfl

theorem Bus.graceStarted_shows : (b.graceStarted fs page addr).fld (fsKey fs R.FLT_SRC_STATUS) 2 2 = 1 ∧
    (b.graceStarted fs page addr).timers.find? (tGrace fs) = some (b.now + clkUs (10 * b.fsGrace fs)) ∧
    (b.graceStarted fs page addr).units.find? fs = some (page, addr) := by
  refine ⟨?_, SMap.find?_set _ _ _, SMap.find?_set _ _ _⟩
  exact (congrArg (fieldOf 2 2) (Bus.arm_rd _ _ _ _)).trans (Bus.fld_setFld _ _ 2 2 1 (by decide))

end

/-- The grace of a source is of its configuration, which a detection leaves. -/
theorem Bus.fsGrace_faultTold {b : Bus} (hr : b.Ranged) {fs : Nat} (u : FaultAt) (hfs : fs < 192) :
    (b.faultTold fs u).fsGrace fs = b.fsGrace fs := by
  have hcfg : (b.faultTold fs u).rd (fsKey fs R.FLT_SRC_CFG) = b.rd (fsKey fs R.FLT_SRC_CFG) :=
    (Bus.rd_faultTold_fsKey hr u hfs).trans
      (b.rd_faultBooked_ne fs u _ (fsKey_notMem_recordKeys fs u) rkSel_inj_off rkSel_inj_off)
  unfold Bus.fsGrace
  rw [Bus.bit_eq, Bus.fld_eq, hcfg, ← Bus.bit_eq, ← Bus.fld_eq]

section
variable {b : Bus} (hr : b.Ranged) {fs : Nat} (u : FaultAt) (hfs : fs < 192) (hk : fsKnown fs = true)
include hr hfs hk

theorem Bus.fault_shows : (b.fault fs u).rd (fsKey fs R.FLT_SRC_CNT) = min (b.rd (fsKey fs R.FLT_SRC_CNT) + 1) 0xFFFFFFFF ∧
    (b.fault fs u).bit (fsKey fs R.FLT_SRC_STATUS) 10 = decide (fsClass fs ≠ 0) ∧
    (b.fault fs u).bit (pendKey (fsPage fs)) (fs % 16) = true := by
  have hcnt : fsKey fs R.FLT_SRC_CNT ≠ fsKey fs R.FLT_SRC_STATUS := rkSel_inj_off
  rw [b.fault_eq u hk]
  refine ⟨?_, ?_, ?_⟩
  · rw [Bus.rd_startGrace _ _ _ _ _ hcnt, Bus.faultTold_cnt hr u hfs]
  · rw [Bus.bit_startGrace _ _ _ _ 10 (by decide), Bus.faultTold_held hr u hfs]
  · exact (congrArg (bitOf _) (Bus.rd_startGrace _ _ _ _ _ (fsKey_ne_rk_of_off _).symm)).trans (Bus.faultTold_pend hr u hfs)

theorem Bus.fault_starts (hc : fsClass fs ≠ 0) (h : b.fld (fsKey fs R.FLT_SRC_STATUS) 2 2 = 0) :
    (b.fault fs u).fld (fsKey fs R.FLT_SRC_STATUS) 2 2 = 1 ∧
    (b.fault fs u).timers.find? (tGrace fs) = some (b.now + clkUs (10 * b.fsGrace fs)) ∧
    (b.fault fs u).units.find? fs = some (u.page, u.addr) := by
  have hshows := (b.faultTold fs u).graceStarted_shows fs u.page u.addr
  rw [Bus.fsGrace_faultTold hr u hfs, (b.held_faultTold fs u).now] at hshows
  rwa [b.fault_eq u hk, Bus.startGrace_starts _ _ _ _ hc ((Bus.faultTold_state hr u hfs).trans h)]

theorem Bus.fault_waits (h : fsClass fs = 0 ∨ b.fld (fsKey fs R.FLT_SRC_STATUS) 2 2 ≠ 0) :
    (b.fault fs u).fld (fsKey fs R.FLT_SRC_STATUS) 2 2 = b.fld (fsKey fs R.FLT_SRC_STATUS) 2 2 ∧
    (b.fault fs u).timers = b.timers ∧ (b.fault fs u).units = b.units := by
  have hst := Bus.faultTold_state hr u hfs
  rw [b.fault_eq u hk, Bus.startGrace_idle _ _ _ _ (by rwa [hst])]
  exact ⟨hst, (b.held_faultTold fs u).timers, (b.held_faultTold fs u).units⟩

end

/-! ### Records -/

/-- The first record number that is free. -/
theorem freeRec_eq {m : SMap FaultRec} {i : Nat} (hfree : m.find? i = none) (n k : Nat) (hk : k ≤ i) (hn : i < k + n)
    (hused : ∀ j, k ≤ j → j < i → (m.find? j).isSome = true) : freeRec m n k = some i := by
  induction n generalizing k with
  | zero => omega
  | succ n ih =>
    unfold freeRec
    by_cases hki : k = i
    · rw [hki, hfree]
      rfl
    · rw [if_pos (hused k le_rfl (by omega))]
      exact ih (k + 1) (by omega) (by omega) fun j hj => hused j (by omega)

theorem freeRec_none {m : SMap FaultRec} (n k : Nat) (hused : ∀ j, k ≤ j → j < k + n → (m.find? j).isSome = true) :
    freeRec m n k = none := by
  induction n generalizing k with
  | zero => rfl
  | succ n ih =>
    unfold freeRec
    rw [if_pos (hused k le_rfl (by omega))]
    exact ih (k + 1) fun j hj hlt => hused j (by omega) (by omega)

section
variable (b : Bus) (fs : Nat) (u : FaultAt)

/-- The record of a detection (Table 15-3). -/
def Bus.newRec (b : Bus) (fs : Nat) (u : FaultAt) : FaultRec :=
  ⟨fs + (match rowOfPage u.page with | some r => r.type | none => 0) * 65536, pageIndex u.page + u.access * 65536, u.addr,
    (match u.vi with | some v => v + 1024 | none => 0) + u.engine % 256 * 65536 + u.kind * 2 ^ 24,
    stampW0 b.w250, stampW1 b.w250, stampW2 b.w250⟩

/-- A record entered: the unit's page names it. -/
def Bus.recEntered (b : Bus) (fs : Nat) (u : FaultAt) (i : Nat) : Bus :=
  ({ b with recs := b.recs.set i (b.newRec fs u) }).wr (rk u.page hdrFaultFirst) i

/-- The page of the source names the record too, if it names none. -/
def Bus.recNamed (b : Bus) (fs i : Nat) : Bus :=
  if b.rd (rk (fsPage fs) hdrFaultFirst) = 0 then b.wr (rk (fsPage fs) hdrFaultFirst) i else b

variable {i : Nat}

theorem Bus.capture_new (h0 : b.rd (rk u.page hdrFaultFirst) = 0) (hfree : freeRec b.recs 255 1 = some i) :
    b.capture fs u = ((b.recEntered fs u i).recNamed fs i).setFld (rk (Block.flt.pg 0) R.FLT_REC_USED) 0 8
      (((b.recEntered fs u i).recNamed fs i).fld (rk (Block.flt.pg 0) R.FLT_REC_USED) 0 8 + 1) := by
  unfold Bus.capture
  dsimp only
  rw [if_neg (not_not.mpr h0), hfree]
  rfl

theorem Bus.recs_recNamed : (b.recNamed fs i).recs = b.recs := by
  unfold Bus.recNamed
  split <;> rfl

theorem Bus.rd_recNamed_unit {p : Nat} (hi : i < 2 ^ 32) (h : b.rd (rk p hdrFaultFirst) = i) :
    (b.recNamed fs i).rd (rk p hdrFaultFirst) = i := by
  unfold Bus.recNamed
  split
  · by_cases hp : rk p hdrFaultFirst = rk (fsPage fs) hdrFaultFirst
    · rw [hp, Bus.rd_wr, Nat.mod_eq_of_lt hi]
    · rw [Bus.rd_wr_ne _ _ _ _ hp, h]
  · exact h

theorem Bus.rd_recNamed_source (hi : i < 2 ^ 32) (h : b.rd (rk (fsPage fs) hdrFaultFirst) = 0 ∨ b.rd (rk (fsPage fs) hdrFaultFirst) = i) :
    (b.recNamed fs i).rd (rk (fsPage fs) hdrFaultFirst) = i := by
  unfold Bus.recNamed
  split
  · rw [Bus.rd_wr, Nat.mod_eq_of_lt hi]
  · next h0 => exact h.resolve_left h0

theorem Bus.rd_recEntered : (b.recEntered fs u i).rd (rk u.page hdrFaultFirst) = i % 2 ^ 32 := Bus.rd_wr _ _ _

theorem Bus.capture_enters (h0 : b.rd (rk u.page hdrFaultFirst) = 0) (h1 : 1 ≤ i) (h255 : i ≤ 255) (hfree : b.recs.find? i = none)
    (hused : ∀ j, 1 ≤ j → j < i → (b.recs.find? j).isSome = true) :
    (b.capture fs u).rd (rk u.page hdrFaultFirst) = i ∧
    (b.rd (rk (fsPage fs) hdrFaultFirst) = 0 → (b.capture fs u).rd (rk (fsPage fs) hdrFaultFirst) = i) ∧
    (b.capture fs u).recs = b.recs.set i (b.newRec fs u) := by
  have hlt : i < 2 ^ 32 := by omega
  have hne : ∀ p, rk p hdrFaultFirst ≠ rk (Block.flt.pg 0) R.FLT_REC_USED := fun p => rk_ne_of_off
  have hentered : (b.recEntered fs u i).rd (rk u.page hdrFaultFirst) = i := (b.rd_recEntered fs u).trans (Nat.mod_eq_of_lt hlt)
  rw [b.capture_new fs u h0 (freeRec_eq hfree 255 1 h1 (by omega) hused)]
  refine ⟨?_, fun hsrc => ?_, ?_⟩
  · rw [Bus.rd_setFld_ne _ _ _ _ _ _ (hne _)]
    exact Bus.rd_recNamed_unit _ fs hlt hentered
  · rw [Bus.rd_setFld_ne _ _ _ _ _ _ (hne _)]
    refine Bus.rd_recNamed_source _ fs hlt ?_
    by_cases hp : rk (fsPage fs) hdrFaultFirst = rk u.page hdrFaultFirst
    · exact .inr (by rw [hp, hentered])
    · exact .inl ((Bus.rd_wr_ne _ _ _ _ hp).trans hsrc)
  · exact Bus.recs_recNamed _ fs

theorem Bus.capture_repeats {r : FaultRec} (hi : b.rd (rk u.page hdrFaultFirst) = i) (h0 : i ≠ 0) (hr : b.recs.find? i = some r) :
    b.capture fs u = { b with recs := b.recs.set i { r with d1 := setFieldOf 24 8 (satInc 8 (fieldOf 24 8 r.d1)) r.d1 } } := by
  unfold Bus.capture
  dsimp only
  rw [hi, if_pos h0, hr]

theorem Bus.capture_full (h0 : b.rd (rk u.page hdrFaultFirst) = 0) (hfull : ∀ j, 1 ≤ j → j ≤ 255 → (b.recs.find? j).isSome = true) :
    b.capture fs u = (b.setBit (fltKey R.FLT_STATUS) 4 true).incFldSat (fltKey R.FLT_REC_USED) 16 16 := by
  rw [fltKey, fltKey, fltPage]
  unfold Bus.capture
  dsimp only
  rw [if_neg (not_not.mpr h0), freeRec_none 255 1 fun j h1 hlt => hfull j h1 (by omega)]

theorem Bus.recs_incFldSat (k lo w : Nat) : (b.incFldSat k lo w).recs = b.recs := rfl

theorem Bus.rd_incFldSat_ne (k lo w : Nat) {j : Nat} (h : j ≠ k) : (b.incFldSat k lo w).rd j = b.rd j := Bus.rd_setFld_ne _ _ _ _ _ _ h

theorem Bus.fld_incFldSat (k lo w : Nat) (h : lo + w ≤ 32) : (b.incFldSat k lo w).fld k lo w = min (b.fld k lo w + 1) (2 ^ w - 1) := by
  have hpos := Nat.two_pow_pos w
  rw [Bus.incFldSat, Bus.fld_setFld _ _ _ _ _ h, satInc_eq_min (v := b.fld k lo w) (fieldOf_lt lo w _), Nat.mod_eq_of_lt (by omega)]

theorem Bus.capture_full_shows (h0 : b.rd (rk u.page hdrFaultFirst) = 0)
    (hfull : ∀ j, 1 ≤ j → j ≤ 255 → (b.recs.find? j).isSome = true) : (b.capture fs u).recs = b.recs ∧
    (b.capture fs u).bit (fltKey R.FLT_STATUS) 4 = true ∧
    (b.capture fs u).fld (fltKey R.FLT_REC_USED) 16 16 = min (b.fld (fltKey R.FLT_REC_USED) 16 16 + 1) 65535 := by
  have hne : fltKey R.FLT_STATUS ≠ fltKey R.FLT_REC_USED := by decide
  rw [b.capture_full fs u h0 hfull, Bus.recs_incFldSat, Bus.bit_eq, Bus.rd_incFldSat_ne _ _ _ _ hne, ← Bus.bit_eq,
    Bus.bit_setBit _ _ _ _ (by decide), Bus.fld_incFldSat _ _ _ _ (by decide), Bus.fld_eq, Bus.rd_setBit_ne _ _ _ _ _ hne.symm]
  exact ⟨rfl, rfl, rfl⟩

end

/-! ### Detections and forced detections -/

section
variable {s : State} {fs : Nat} (u : FaultAt) (hk : fsKnown fs = true)
include hk

theorem State.detect_held : s.detect fs u true =
    if ((s.faultEffect fs u).fault fs u).srcState fs = 2 ∧ ((s.faultEffect fs u).fault fs u).bus.running (tRung fs) = true then
      ((s.faultEffect fs u).fault fs u).ladderNext fs
    else (s.faultEffect fs u).fault fs u :=
  if_neg (by rw [hk]; decide)

end

theorem blockOfPage_fltSrc : ∀ p, p < 12 → blockOfPage (Block.fltSrc.pg p) = some .fltSrc := by decide

theorem pageIndex_fltSrc : ∀ p, p < 12 → pageIndex (Block.fltSrc.pg p) = p := by decide

/-- A power of two selects one source of a page. -/
theorem bits_two_pow : ∀ i, i < 16 → (List.range 16).filter (fun j => bitOf j (2 ^ i)) = [i] := by decide

section
variable {dt p i : Nat} {s : State} (hp : p < 12) (hi : i < 16)
include hp

include hi in
theorem exec_faultForce_one (ha : s.bus.pageAccess (Block.fltSrc.pg p) 0 = 2) (hup : s.bus.pageUp (Block.fltSrc.pg p) = true) :
    exec (.faultForce dt 0 (Block.fltSrc.pg p) (2 ^ i)) s =
      .next ((s.tick dt).detect (16 * p + i) ((s.tick dt).forceUnit (16 * p + i)) false) := by
  refine congrArg Host.Outcome.next ((State.guardWrite_owner (s.tick dt) 0 _ _ ha hup).trans ((if_pos rfl).trans ?_))
  refine (if_neg (not_not.mpr (blockOfPage_fltSrc p hp))).trans ?_
  rw [pageIndex_fltSrc p hp, bits_two_pow i hi]
  rfl

omit hp in
theorem exec_faultForce_denied {vi v : Nat} (hvi : vi ≠ 0) (ha : s.bus.pageAccess (Block.fltSrc.pg p) vi = 2)
    (hup : s.bus.pageUp (Block.fltSrc.pg p) = true) :
    exec (.faultForce dt vi (Block.fltSrc.pg p) v) s = .next ((s.tick dt).on (·.denied)) :=
  congrArg Host.Outcome.next ((State.guardWrite_owner (s.tick dt) vi _ _ ha hup).trans (if_neg hvi))

/-! ### Acknowledgement -/

include hi in
theorem exec_faultAck_one (hk : fsKnown (16 * p + i) = true) (ha : s.bus.pageAccess (Block.fltSrc.pg p) 0 ≠ 0)
    (hup : s.bus.pageUp (Block.fltSrc.pg p) = true) :
    exec (.faultAck dt 0 (Block.fltSrc.pg p) (2 ^ i)) s = .next ((s.tick dt).ackSource (16 * p + i)) := by
  have hgo : ¬(blockOfPage (Block.fltSrc.pg p) ≠ some .fltSrc ∨ (s.tick dt).bus.pageAccess (Block.fltSrc.pg p) 0 = 0) :=
    not_or.mpr ⟨not_not.mpr (blockOfPage_fltSrc p hp), ha⟩
  have hrun : ¬(!(s.tick dt).bus.pageUp (Block.fltSrc.pg p)) = true := by
    rw [show (s.tick dt).bus.pageUp (Block.fltSrc.pg p) = true from hup]
    decide
  refine congrArg Host.Outcome.next ((if_neg hgo).trans ((if_neg hrun).trans ?_))
  rw [pageIndex_fltSrc p hp, bits_two_pow i hi, List.map_singleton, List.filter_singleton, hk]
  rfl

end

section
variable {s : State} {fs : Nat}

theorem State.ackSource_idle (h : s.srcState fs = 0) : s.ackSource fs = s := by
  unfold State.ackSource
  rw [h]
  rfl

theorem State.ackSource_grace (h : s.srcState fs = 1) : s.ackSource fs = (s.disarm (tGrace fs)).setSrc fs 0 := by
  unfold State.ackSource
  rw [h]
  rfl

theorem State.ackSource_rung (h : s.srcState fs = 2) (hrun : s.bus.running (tRung fs) = true) : s.ackSource fs = s.ladderEnd fs := by
  unfold State.ackSource
  rw [h]
  exact if_pos hrun

theorem State.ackSource_ladder (h : s.srcState fs = 2) (hrun : s.bus.running (tRung fs) = false) :
    s.ackSource fs = s.modEsc fs (fun e => { e with acked := true }) := by
  unfold State.ackSource
  rw [h]
  exact if_neg (by rw [hrun]; decide)

theorem State.srcState_setSrc (s : State) (fs st : Nat) (h : st < 4) : (s.setSrc fs st).srcState fs = st :=
  (s.fld_setFld (fsKey fs R.FLT_SRC_STATUS) 2 2 st (by decide)).trans (Nat.mod_eq_of_lt h)

theorem State.bus_setSrc_timers (s : State) (fs st t : Nat) : (s.setSrc fs st).bus.running t = s.bus.running t := rfl

theorem State.running_disarm_self (s : State) (t : Nat) : (s.disarm t).bus.running t = false := Bus.running_disarm _ _

theorem State.bus_modEsc (s : State) (fs : Nat) (f : Esc → Esc) : (s.modEsc fs f).bus = s.bus := rfl

theorem State.srcState_modEsc (s : State) (fs : Nat) (f : Esc → Esc) (x : Nat) : (s.modEsc fs f).srcState x = s.srcState x := rfl

theorem State.srcState_disarm (s : State) (t x : Nat) : (s.disarm t).srcState x = s.srcState x := rfl

theorem State.escOf_modEsc (s : State) (fs : Nat) (f : Esc → Esc) : (s.modEsc fs f).escOf fs = f (s.escOf fs) := SMap.find_put _ _ _ _

theorem State.ladderEnd_shows (s : State) (fs : Nat) : (s.ladderEnd fs).srcState fs = 0 ∧ (s.ladderEnd fs).bus.running (tRung fs) = false := by
  unfold State.ladderEnd
  rw [State.srcState_modEsc, State.srcState_disarm, State.bus_modEsc]
  exact ⟨s.srcState_setSrc fs 0 (by decide), State.running_disarm_self _ _⟩

/-- An acknowledged grace ends at once. -/
theorem State.ackSource_grace_shows (h : s.srcState fs = 1) : (s.ackSource fs).srcState fs = 0 ∧
    (s.ackSource fs).bus.running (tGrace fs) = false ∧
    (s.disarm (tGrace fs)).After (s.ackSource fs) [fsKey fs R.FLT_SRC_STATUS] := by
  rw [State.ackSource_grace h]
  refine ⟨State.srcState_setSrc _ fs 0 (by decide), ?_, ?_⟩
  · rw [State.bus_setSrc_timers]
    exact State.running_disarm_self _ _
  · exact (State.After.refl _ _).setFld _ _ _ _ (List.mem_singleton_self _)

end

/-! ### A record released -/

theorem regs_above_header : ∀ b : Block, ∀ d ∈ b.regs, hdrFaultFirst < d.off := by
  intro b
  cases b <;> decide

/-- FAULT_FIRST of a page names no record at reset. -/
theorem resetNat_faultFirst {k : Nat} (h : keyOff k = hdrFaultFirst) : resetNat k = 0 := by
  have hspecial : resetSpecial (keyPage k) hdrFaultFirst = none := by
    unfold resetSpecial
    split
    · rfl
    · split <;> rfl
  have hdef : regDefAt (keyPage k) hdrFaultFirst = none := by
    unfold regDefAt
    split
    · next b _ =>
      refine List.find?_eq_none.mpr fun d hd => ?_
      have hlt := regs_above_header b d hd
      simp only [RegDef.covers, Bool.and_eq_true, decide_eq_true_eq, not_and]
      omega
    · rfl
  unfold resetNat
  rw [h, hspecial, hdef]

section
variable (s : State) (i : Nat)

/-- A record released: no FAULT_FIRST names it. -/
def State.recReleased (s : State) (i : Nat) : State :=
  ((s.bus.regs.cells.filter (fun p => decide (keyOff p.1 = hdrFaultFirst) && decide (p.2.toNat = i))).map (·.1)).foldl
    (fun a k => a.wr k 0) (s.on (fun b => { b with recs := b.recs.erase i }))

/-- The registers of FLT after a release. -/
def State.recCounted (s : State) : State :=
  (s.setFld (fltKey R.FLT_REC_USED) 0 8 (s.fld (fltKey R.FLT_REC_USED) 0 8 - 1)).setBit (fltKey R.FLT_STATUS) 4 false

theorem State.recs_recReleased : (s.recReleased i).bus.recs = s.bus.recs.erase i := by
  unfold State.recReleased
  rw [State.foldl_keeps (fun a : State => a.bus.recs) _ (fun (a : State) k => a.wr k 0) (fun _ _ _ => rfl)]
  rfl

theorem State.rd_recReleased_ne {k : Nat} (h : keyOff k ≠ hdrFaultFirst) : (s.recReleased i).rd k = s.rd k := by
  refine (State.foldl_keeps (State.rd · k) _ _ (fun a j hj => ?_) _).trans (Bus.rd_of_regs rfl k)
  obtain ⟨p, hp, rfl⟩ := List.mem_map.mp hj
  have hoff := (List.mem_filter.mp hp).2
  simp only [Bool.and_eq_true, decide_eq_true_eq] at hoff
  exact a.rd_wr_ne p.1 0 k fun he => h (by rw [he]; exact hoff.1)

theorem State.rd_recReleased {k : Nat} (hoff : keyOff k = hdrFaultFirst) (h : s.rd k = i) : (s.recReleased i).rd k = 0 := by
  by_cases hk : k ∈ (s.bus.regs.cells.filter (fun p => decide (keyOff p.1 = hdrFaultFirst) && decide (p.2.toNat = i))).map (·.1)
  · exact State.rd_foldl_wr (fun j => j) 0 _ _ hk
  · have hi : i = 0 := by
      cases hf : s.bus.regs.find? k with
      | none =>
        have hreset : s.rd k = resetNat k % 2 ^ 32 := by
          rw [State.rd_eq, Bus.rd, Bus.rdW, SMap.find, hf]
          exact BitVec.toNat_ofNat _ _
        rw [← h, hreset, resetNat_faultFirst hoff, Nat.zero_mod]
      | some w =>
        have hw : w.toNat = i := by
          rw [← h, State.rd_eq, Bus.rd, Bus.rdW, SMap.find, hf]
          rfl
        refine absurd (List.mem_map.mpr ⟨(k, w), List.mem_filter.mpr ⟨SMap.mem_of_find? _ _ _ hf, ?_⟩, rfl⟩) hk
        simp only [hoff, hw, decide_true, Bool.and_self]
    refine (State.foldl_keeps (State.rd · k) _ _ (fun a j hj => a.rd_wr_ne j 0 k fun he => hk (he ▸ hj)) _).trans ?_
    exact (Bus.rd_of_regs rfl k).trans (h.trans hi)

theorem State.recCounted_shows : s.recCounted.fld (fltKey R.FLT_REC_USED) 0 8 = s.fld (fltKey R.FLT_REC_USED) 0 8 - 1 ∧
    s.recCounted.bit (fltKey R.FLT_STATUS) 4 = false := by
  have hne : fltKey R.FLT_REC_USED ≠ fltKey R.FLT_STATUS := by decide
  have hlt : s.fld (fltKey R.FLT_REC_USED) 0 8 < 2 ^ 8 := fieldOf_lt 0 8 _
  refine ⟨?_, State.bit_setBit _ (fltKey R.FLT_STATUS) 4 false (by decide)⟩
  refine (State.fld_of_rd (State.rd_setBit_ne _ _ _ _ _ hne) 0 8).trans ?_
  exact (s.fld_setFld (fltKey R.FLT_REC_USED) 0 8 _ (by decide)).trans (Nat.mod_eq_of_lt (by omega))

theorem State.rd_recCounted_ne {k : Nat} (h : k ≠ fltKey R.FLT_REC_USED) (h' : k ≠ fltKey R.FLT_STATUS) : s.recCounted.rd k = s.rd k :=
  (State.rd_setBit_ne _ _ _ _ _ h').trans (State.rd_setFld_ne _ _ _ _ _ _ h)

theorem State.recs_recCounted : s.recCounted.bus.recs = s.bus.recs := rfl

end

section
variable {dt v vi : Nat} {s : State} {r : FaultRec} (ha : s.bus.pageAccess fltPage vi ≠ 0) (hup : s.bus.pageUp fltPage = true)
  (hr : s.bus.recs.find? (v % 256) = some r)
include ha hup hr

theorem exec_faultRecordClear : exec (.faultRecordClear dt vi v) s =
    .next (if vi ≠ 0 ∧ vi ≠ s.bus.ownerOfPage r.page then (s.tick dt).on (·.denied) else ((s.tick dt).recReleased (v % 256)).recCounted) := by
  have hrun : ¬(!(s.tick dt).bus.pageUp fltPage) = true := by
    rw [show (s.tick dt).bus.pageUp fltPage = true from hup]
    decide
  refine congrArg Host.Outcome.next ((if_neg ha).trans ((if_neg hrun).trans ?_))
  rw [show (s.tick dt).bus.recs.find? (v % 256) = some r from hr]
  rfl

end

/-! ### The window of a correctable source -/

section
variable {dt fs n : Nat} {s : State} (hk : fsKnown fs = true) (hc : fsClass fs = 0)
  (hn : n = ((s.bus.corr.find [] fs).filter (fun t => decide (s.bus.now + dt ≤ t + clkS 1))).length)

/-- The next unit of a worker cluster's test is the worker. -/
def State.corrScheduled (s : State) (u : Nat) : State :=
  if blockOfPage u = some .zwk then s.setFld (rk (Block.bst.pg (27 + pageIndex u / 16)) R.BST_UNIT) 0 4 (pageIndex u % 16) else s

theorem State.rd_corrScheduled_ne (u : Nat) {k : Nat} (h : ∀ p, k ≠ rk p R.BST_UNIT) : (s.corrScheduled u).rd k = s.rd k := by
  unfold State.corrScheduled
  split
  · exact s.rd_setFld_ne _ _ _ _ _ (h _)
  · rfl

include hk hc hn

theorem exec_corrWindow_reached (hpos : 0 < s.bus.fsCorrThr fs) (hle : s.bus.fsCorrThr fs ≤ n)
    (h9 : s.bit (fsKey fs R.FLT_SRC_STATUS) 9 = false) : exec (.corrWindow dt fs) s =
      .next ((((s.tick dt).setBit (fsKey fs R.FLT_SRC_STATUS) 9 true).raise fltPage 0).corrScheduled ((s.tick dt).unitOf fs).1) := by
  have hgo : ¬(fsClass fs ≠ 0 ∨ (!fsKnown fs) = true) := not_or.mpr ⟨not_not.mpr hc, by rw [hk]; decide⟩
  have hthr : (s.tick dt).bus.fsCorrThr fs ≠ 0 ∧ (s.tick dt).bus.fsCorrThr fs ≤
      (((s.tick dt).bus.corr.find [] fs).filter (fun t => decide ((s.tick dt).bus.now ≤ t + clkS 1))).length :=
    ⟨Nat.pos_iff_ne_zero.mp hpos, hn ▸ hle⟩
  have hbit : ¬(s.tick dt).bit (fsKey fs R.FLT_SRC_STATUS) 9 = true := by
    rw [show (s.tick dt).bit (fsKey fs R.FLT_SRC_STATUS) 9 = false from h9]
    decide
  exact congrArg Host.Outcome.next ((if_neg hgo).trans ((if_pos hthr).trans (if_neg hbit)))

theorem exec_corrWindow_below (hlt : n < s.bus.fsCorrThr fs) : exec (.corrWindow dt fs) s =
    .next ((s.tick dt).setBit (fsKey fs R.FLT_SRC_STATUS) 9 false) := by
  have hgo : ¬(fsClass fs ≠ 0 ∨ (!fsKnown fs) = true) := not_or.mpr ⟨not_not.mpr hc, by rw [hk]; decide⟩
  have hthr : ¬((s.tick dt).bus.fsCorrThr fs ≠ 0 ∧ (s.tick dt).bus.fsCorrThr fs ≤
      (((s.tick dt).bus.corr.find [] fs).filter (fun t => decide ((s.tick dt).bus.now ≤ t + clkS 1))).length) :=
    fun h => absurd h.2 (Nat.not_le.mpr (hn ▸ hlt))
  exact congrArg Host.Outcome.next ((if_neg hgo).trans (if_neg hthr))

end

theorem State.corrReached_shows {s : State} (hr : s.bus.Ranged) {fs : Nat} (hfs : fs < 192) (u : Nat) :
    (((s.setBit (fsKey fs R.FLT_SRC_STATUS) 9 true).raise fltPage 0).corrScheduled u).bit (fsKey fs R.FLT_SRC_STATUS) 9 = true ∧
    (((s.setBit (fsKey fs R.FLT_SRC_STATUS) 9 true).raise fltPage 0).corrScheduled u).pend fltPage 0 = true := by
  have hset : (s.setBit (fsKey fs R.FLT_SRC_STATUS) 9 true).bus.Ranged := s.ranged_setBit hr _ _ _
  have hne : fsKey fs R.FLT_SRC_STATUS ≠ pendKey fltPage := fsKey_ne_rk_of_off _
  refine ⟨?_, ?_⟩
  · rw [State.bit_of_rd (State.rd_corrScheduled_ne u fun p => fsKey_ne_rk_of_off p),
      State.bit_of_rd ((plainPage_flt.after_raise hset 0).rd (fsKey fs R.FLT_SRC_STATUS) (fun h => hne (List.mem_singleton.mp h))
        (reportKey_fsKey hfs)),
      State.bit_setBit _ _ _ _ (by decide)]
  · refine (State.bit_of_rd (State.rd_corrScheduled_ne u fun p => pendKey_ne) 0).trans ?_
    exact plainPage_flt.pend_raise hset 0 (by decide)

/-! ### The statement -/

/-- What the record of a detection holds. -/
theorem Bus.capture_record {b : Bus} {fs i : Nat} {u : FaultAt} (h0 : b.rd (rk u.page hdrFaultFirst) = 0) (h1 : 1 ≤ i) (h255 : i ≤ 255)
    (hfree : b.recs.find? i = none) (hused : ∀ j, 1 ≤ j → j < i → (b.recs.find? j).isSome = true) :
    (∃ r, (b.capture fs u).recs.find? i = some r ∧ r.d0 % 256 = fs % 256 ∧ r.d2 = u.addr ∧
      r.d4 = stampW0 b.w250 ∧ r.d5 = stampW1 b.w250 ∧ r.d6 = stampW2 b.w250) ∧
    (∀ j, j ≠ i → (b.capture fs u).recs.find? j = b.recs.find? j) := by
  obtain ⟨-, -, hrecs⟩ := b.capture_enters fs u h0 h1 h255 hfree hused
  rw [hrecs]
  refine ⟨⟨b.newRec fs u, SMap.find?_set _ _ _, ?_, rfl, rfl, rfl, rfl⟩, fun j hj => SMap.find?_set_ne _ _ _ _ hj⟩
  show (fs + _ * 65536) % 256 = fs % 256
  omega

section
variable {dt p i : Nat} {s : State} (hp : p < 12) (hi : i < 16) (hk : fsKnown (16 * p + i) = true)
  (ha : s.bus.pageAccess (Block.fltSrc.pg p) 0 ≠ 0) (hup : s.bus.pageUp (Block.fltSrc.pg p) = true)
include hp hi hk ha hup

theorem exec_faultAck_shows :
    (s.srcState (16 * p + i) = 0 → exec (.faultAck dt 0 (Block.fltSrc.pg p) (2 ^ i)) s = .next (s.tick dt)) ∧
    (s.srcState (16 * p + i) = 1 → ∃ t, exec (.faultAck dt 0 (Block.fltSrc.pg p) (2 ^ i)) s = .next t ∧ t.srcState (16 * p + i) = 0 ∧
      t.bus.running (tGrace (16 * p + i)) = false ∧
      ((s.tick dt).disarm (tGrace (16 * p + i))).After t [fsKey (16 * p + i) R.FLT_SRC_STATUS]) ∧
    (s.srcState (16 * p + i) = 2 → s.bus.running (tRung (16 * p + i)) = true →
      ∃ t, exec (.faultAck dt 0 (Block.fltSrc.pg p) (2 ^ i)) s = .next t ∧ t.srcState (16 * p + i) = 0 ∧
        t.bus.running (tRung (16 * p + i)) = false) ∧
    (s.srcState (16 * p + i) = 2 → s.bus.running (tRung (16 * p + i)) = false →
      ∃ t, exec (.faultAck dt 0 (Block.fltSrc.pg p) (2 ^ i)) s = .next t ∧
        t.bus = (s.tick dt).bus ∧ t.escOf (16 * p + i) = { s.escOf (16 * p + i) with acked := true }) := by
  have hex := exec_faultAck_one (dt := dt) hp hi hk ha hup
  refine ⟨fun h => ?_, fun h => ⟨_, hex, State.ackSource_grace_shows (s := s.tick dt) h⟩, fun h hrun => ⟨_, hex, ?_⟩,
    fun h hrun => ⟨_, hex, ?_⟩⟩
  · rw [hex, State.ackSource_idle (s := s.tick dt) h]
  · rw [State.ackSource_rung (s := s.tick dt) h hrun]
    exact State.ladderEnd_shows _ _
  · rw [State.ackSource_ladder (s := s.tick dt) h hrun, State.escOf_modEsc, State.bus_modEsc]
    exact ⟨rfl, rfl⟩

end

section
variable {dt v : Nat} {s : State} {r : FaultRec} (h0 : s.bus.pageAccess fltPage 0 ≠ 0)
  (ho : s.bus.pageAccess fltPage (s.bus.ownerOfPage r.page) ≠ 0) (hup : s.bus.pageUp fltPage = true)
  (hr : s.bus.recs.find? (v % 256) = some r)
include h0 ho hup hr

theorem exec_faultRecordClear_shows :
    exec (.faultRecordClear dt (s.bus.ownerOfPage r.page) v) s = exec (.faultRecordClear dt 0 v) s ∧
    ∃ t, exec (.faultRecordClear dt 0 v) s = .next t ∧ t.bus.recs = s.bus.recs.erase (v % 256) ∧
      (∀ p, s.rd (rk p hdrFaultFirst) = v % 256 → t.rd (rk p hdrFaultFirst) = 0) ∧
      (∀ k, keyOff k ≠ hdrFaultFirst → k ≠ fltKey R.FLT_REC_USED → k ≠ fltKey R.FLT_STATUS → t.rd k = s.rd k) ∧
      t.fld (fltKey R.FLT_REC_USED) 0 8 = s.fld (fltKey R.FLT_REC_USED) 0 8 - 1 ∧ t.bit (fltKey R.FLT_STATUS) 4 = false := by
  have hclear := (exec_faultRecordClear (dt := dt) h0 hup hr).trans
    (congrArg Host.Outcome.next (if_neg fun h => absurd rfl h.1))
  have howner := (exec_faultRecordClear (dt := dt) ho hup hr).trans
    (congrArg Host.Outcome.next (if_neg fun h => absurd rfl h.2))
  have hused : keyOff (fltKey R.FLT_REC_USED) ≠ hdrFaultFirst := by
    rw [fltKey, keyOff_rk _ _ (by decide)]
    decide
  obtain ⟨hcount, hfull⟩ := ((s.tick dt).recReleased (v % 256)).recCounted_shows
  refine ⟨howner.trans hclear.symm, _, hclear, ?_, fun p hp => ?_, fun k hk h1 h2 => ?_, ?_, hfull⟩
  · rw [State.recs_recCounted, State.recs_recReleased]
    rfl
  · rw [State.rd_recCounted_ne _ rk_ne_of_off rk_ne_of_off]
    exact (s.tick dt).rd_recReleased (v % 256) (keyOff_rk _ _ (by decide)) hp
  · rw [State.rd_recCounted_ne _ h1 h2]
    exact (s.tick dt).rd_recReleased_ne (v % 256) hk
  · rw [hcount, State.fld_of_rd ((s.tick dt).rd_recReleased_ne (v % 256) hused)]
    rfl

end

/-- Settles O53: a detection is followed through what it books, tells and starts; a record, through the first free number; each command is
a branch of its meaning. -/
theorem faultDetectionIsCountedRecordedAndReported : Obligations.FaultDetectionIsCountedRecordedAndReported := by
  refine ⟨fun b fs u h => b.fault_unknown u h, fun b fs u hr hfs hk => ?_, fun b fs i u h0 h1 h255 hfree hused => ?_,
    fun b fs i u r hi h0 hr => ?_, fun b fs u h0 hfull => b.capture_full_shows fs u h0 hfull, fun dt fs p held s => rfl,
    fun s s1 fs u hk h1 hst => ?_, fun s s1 fs u hk h1 h2 hrun => ?_, fun dt p i s hp hi ha hup => exec_faultForce_one hp hi ha hup,
    fun dt p vi v s hvi ha hup => exec_faultForce_denied hvi ha hup, fun dt p i fs s hp hi hfs hk ha hup => ?_,
    fun dt v s r h0 ho hup hr => exec_faultRecordClear_shows h0 ho hup hr, fun dt vi v s r ha hup hr h0 ho => ?_,
    fun dt fs n s hr hfs hk hc hn => ⟨fun hpos hle h9 => ?_, fun hlt => ?_⟩⟩
  · obtain ⟨hcnt, hheld, hpend⟩ := Bus.fault_shows hr u hfs hk
    exact ⟨hcnt, hheld, hpend, Bus.fault_starts hr u hfs hk, Bus.fault_waits hr u hfs hk⟩
  · obtain ⟨hunit, hsrc, -⟩ := b.capture_enters fs u h0 h1 h255 hfree hused
    exact ⟨hunit, hsrc, Bus.capture_record h0 h1 h255 hfree hused⟩
  · rw [b.capture_repeats fs u hi h0 hr, satInc_eq_min (fieldOf_lt 24 8 r.d1)]
    exact ⟨rfl, SMap.find?_set _ _ _⟩
  · subst h1
    refine (State.detect_held u hk).trans (if_neg fun h => ?_)
    exact hst.elim (fun hne => hne h.1) fun hrun => absurd (hrun.symm.trans h.2) (by decide)
  · subst h1
    exact (State.detect_held u hk).trans (if_pos ⟨h2, hrun⟩)
  · subst hfs
    exact exec_faultAck_shows hp hi hk ha hup
  · exact (exec_faultRecordClear (dt := dt) ha hup hr).trans (congrArg Host.Outcome.next (if_pos ⟨h0, ho⟩))
  · exact ⟨_, exec_corrWindow_reached hk hc hn hpos hle h9, State.corrReached_shows (s := s.tick dt) hr hfs _⟩
  · exact ⟨_, exec_corrWindow_below hk hc hn hlt, State.bit_setBit _ (fsKey fs R.FLT_SRC_STATUS) 9 false (by decide),
      (State.After.refl _ _).setBit _ _ _ (List.mem_singleton_self _)⟩

end Sys2Proof.Machine
end

section
-- One theorem after another: each waiting thread takes 256 MB of the memory the check allows.
set_option Elab.async false
/-! SUPPORT. Runs of self-test and warm joins (R439 to R443). The statement on them, settled. -/

namespace Sys2Proof.Machine

/-! ### Pages of the groups -/

theorem blockOfPage_bst : ∀ b, b < 48 → blockOfPage (Block.bst.pg b) = some .bst := by decide

theorem pageIndex_bst : ∀ b, b < 48 → pageIndex (Block.bst.pg b) = b := by decide

theorem bst_pg_ne {b p : Nat} (hb : b < 35) (hp : p < 0x30 ∨ 0x2000 ≤ p) : Block.bst.pg b ≠ p := by
  rw [bst_pg (by omega)]
  split <;> omega

theorem bst_pg_lt {b : Nat} (hb : b < 35) : Block.bst.pg b < 0x4000 := by
  rw [bst_pg (by omega)]
  split <;> omega

theorem plainPage_group {b : Nat} (hb : b < 35) : PlainPage (Block.bst.pg b) := plainPage_bst (by omega)

theorem unitAt_lane {n k : Nat} (hn : n < 18) : unitAt (Block.bst.pg (9 + n)) k = some (.lane k) := by
  have hb : 9 + n < 48 := by omega
  unfold unitAt
  rw [pageIndex_bst _ hb, blockOfPage_bst _ hb]
  exact (if_neg (by decide)).trans ((if_neg (by omega)).trans (if_pos (by omega)))

/-! ### Starts -/

section
variable (s : State) (p : Nat)

theorem State.runFree_idle (h : s.run p = none) : s.runFree p = s.bit (fltKey R.FLT_CTRL) 0 := by
  unfold State.runFree
  rw [h]
  exact Bool.and_true _

theorem State.bstCtrl_auto (v : Nat) (h : bitOf 1 v = false ∨ s.runFree p = false) :
    s.bstCtrl p v = s.setBit (rk p R.BST_CTRL) 0 (bitOf 0 v) := by
  have hfree : (bitOf 1 v && s.runFree p) = false := by simpa only [Bool.and_eq_false_iff] using h
  unfold State.bstCtrl
  rw [hfree]
  rfl

end

section
variable {dt p : Nat} {s : State}

theorem exec_bistPeriodDue_runs (ha : s.bit (rk p R.BST_CTRL) 0 = true) (hm : s.fld (rk p R.BST_PERIOD) 0 16 ≠ 0)
    (he : s.bit (fltKey R.FLT_CTRL) 0 = true) (hr : s.run p = none) : exec (.bistPeriodDue dt p) s = .next ((s.tick dt).runBegin p) := by
  have hrun : (s.tick dt).run p = none := hr
  refine congrArg Host.Outcome.next (if_pos ?_)
  simp only [Bool.and_eq_true, decide_eq_true_eq]
  refine ⟨⟨⟨ha, hm⟩, ((s.tick dt).runFree_idle p hrun).trans he⟩, ?_⟩
  rw [hrun]
  rfl

theorem exec_bistPeriodDue_not
    (h : s.bit (rk p R.BST_CTRL) 0 = false ∨ s.fld (rk p R.BST_PERIOD) 0 16 = 0 ∨ s.bit (fltKey R.FLT_CTRL) 0 = false) :
    exec (.bistPeriodDue dt p) s = .next (s.tick dt) := by
  refine congrArg Host.Outcome.next (if_neg fun hgo => ?_)
  simp only [State.runFree, Bool.and_eq_true, decide_eq_true_eq] at hgo
  obtain ⟨⟨⟨hauto, hminutes⟩, henabled, -⟩, -⟩ := hgo
  rcases h with h | h | h
  · exact absurd (h.symm.trans hauto) (by decide)
  · exact hminutes h
  · exact absurd (h.symm.trans henabled) (by decide)

theorem exec_bistDeferredStart_runs {r : BistRun} {u : Unit'} (hr : s.run p = some r) (h5 : r.phase = 5) (hu : unitAt p (s.dueUnit p) = some u)
    (hd : (s.tick dt).deferred u = false) (he : s.bit (fltKey R.FLT_CTRL) 0 = true) :
    exec (.bistDeferredStart dt p) s = .next ((s.tick dt).runBegin p) := by
  show execBistDeferredStart dt p s = _
  unfold execBistDeferredStart
  dsimp only
  rw [show (s.tick dt).run p = some r from hr, show unitAt p ((s.tick dt).dueUnit p) = some u from hu]
  exact congrArg Host.Outcome.next (if_pos ⟨h5, hd, he⟩)

/-- Nothing runs in a group without a run. -/
theorem exec_bist_idle (h : s.run p = none) : exec (.bistDeferredStart dt p) s = .next (s.tick dt) ∧
    exec (.joinStateTaken dt p) s = .next (s.tick dt) ∧ exec (.joinTakeover dt p) s = .next (s.tick dt) ∧
    exec (.joinAbort dt p) s = .next (s.tick dt) := by
  have hrun : (s.tick dt).run p = none := h
  refine ⟨?_, ?_, ?_, ?_⟩
  · show execBistDeferredStart dt p s = _
    unfold execBistDeferredStart
    dsimp only
    rw [hrun]
  · show execJoinStateTaken dt p s = _
    unfold execJoinStateTaken
    dsimp only
    rw [hrun]
  · show execJoinTakeover dt p s = _
    unfold execJoinTakeover
    dsimp only
    rw [hrun]
  · show execJoinAbort dt p s = _
    unfold execJoinAbort
    dsimp only
    rw [hrun]

end

/-! ### A run that is deferred -/

section
variable (s : State)

/-- The registers of a group that defers its run. -/
def State.runDeferred (s : State) (page : Nat) (u : Unit') : State :=
  (s.setBistRun page ⟨5, u.num, u.num, s.bus.now, 0⟩).bstShow page 3 u.sub

theorem State.runBegin_deferred {page : Nat} {u : Unit'} (hu : unitAt page (s.dueUnit page) = some u) (hd : s.deferred u = true) :
    s.runBegin page = (s.runDeferred page u).deferReport.raise page 5 := by
  unfold State.runBegin
  rw [hu]
  exact if_pos hd

theorem State.runs_runDeferred (page : Nat) (u : Unit') :
    (s.runDeferred page u).bist.runs = s.bist.runs.set page ⟨5, u.num, u.num, s.bus.now, 0⟩ := rfl

theorem State.ranged_runDeferred (page : Nat) (u : Unit') (hr : s.bus.Ranged) : (s.runDeferred page u).bus.Ranged := hr

theorem State.deferReport_quiet : s.Quiet s.deferReport := (State.Quiet.refl s).setBit _ _ _

theorem State.rd_deferReport_ne {k : Nat} (h : k ≠ budKey R.BUD_STATUS) : s.deferReport.rd k = s.rd k := State.rd_setBit_ne _ _ _ _ _ h

theorem State.bit_deferReport : s.deferReport.bit (budKey R.BUD_STATUS) 10 = s.bist.runs.cells.any (fun p => decide (p.2.phase = 5)) :=
  State.bit_setBit _ (budKey R.BUD_STATUS) 10 _ (by decide)

theorem State.fld_bstShow (page st unit : Nat) (h : st < 8) : (s.bstShow page st unit).fld (rk page R.BST_STATUS) 0 3 = st := by
  refine (State.fld_setFld_of_disjoint _ (rk page R.BST_STATUS) 8 8 unit 0 3 (by decide) (by decide)).trans ?_
  exact (s.fld_setFld (rk page R.BST_STATUS) 0 3 st (by decide)).trans (Nat.mod_eq_of_lt h)

theorem State.rd_bstShow_ne (page st unit : Nat) {k : Nat} (h : k ≠ rk page R.BST_STATUS) : (s.bstShow page st unit).rd k = s.rd k :=
  (State.rd_setFld_ne _ _ _ _ _ _ h).trans (State.rd_setFld_ne _ _ _ _ _ _ h)

theorem State.runBegin_deferred_shows {b : Nat} {u : Unit'} (hr : s.bus.Ranged) (hb : b < 35)
    (hu : unitAt (Block.bst.pg b) (s.dueUnit (Block.bst.pg b)) = some u) (hd : s.deferred u = true) :
    (s.runBegin (Block.bst.pg b)).pend (Block.bst.pg b) 5 = true ∧
    (s.runBegin (Block.bst.pg b)).fld (rk (Block.bst.pg b) R.BST_STATUS) 0 3 = 3 ∧
    (s.runBegin (Block.bst.pg b)).bit (budKey R.BUD_STATUS) 10 = true := by
  have hp := plainPage_group hb
  have hne : rk (Block.bst.pg b) R.BST_STATUS ≠ budKey R.BUD_STATUS := rk_ne_page _ _ (bst_pg_ne hb (.inl (by decide)))
  have hset : (s.runDeferred (Block.bst.pg b) u).deferReport.bus.Ranged :=
    (State.deferReport_quiet _).ranged (s.ranged_runDeferred _ u hr)
  rw [s.runBegin_deferred hu hd]
  refine ⟨hp.pend_raise hset 5 (by decide), ?_, ?_⟩
  · rw [hp.fld_raise hp hset 5, State.fld_of_rd (State.rd_deferReport_ne _ hne)]
    exact State.fld_bstShow _ _ 3 _ (by decide)
  · refine (hp.bit_raise plainPage_bud hset 5 10 (off := R.BUD_STATUS)).trans ?_
    rw [← budKey, State.bit_deferReport, s.runs_runDeferred]
    exact List.any_eq_true.mpr ⟨_, (SMap.mem_set _ _ _ _).mpr (.inl rfl), decide_eq_true rfl⟩

end

/-! ### A lane's spare joins -/

section
variable (s : State)

theorem State.laneSpare_lt {d m : Nat} (h : s.laneSpare d = some m) : m < 18 := List.mem_range.mp (List.mem_of_find?_eq_some h)

theorem State.runBegin_lane {n m : Nat} (hn : n < 18) (hd : s.deferred (.lane n) = false) (h1 : s.laneRole n = 1)
    (hm : s.laneSpare (laneDie n) = some m) : s.runBegin (Block.bst.pg (9 + n)) =
      (((s.setBistRun (Block.bst.pg (9 + n)) ⟨1, n, m, s.bus.now, 0⟩).setRole (.lane m) 3).testShow (.lane m)).deferReport := by
  have hdue : s.dueUnit (Block.bst.pg (9 + n)) = n := by
    unfold State.dueUnit
    rw [pageIndex_bst _ (by omega)]
    exact (if_neg (by omega)).trans ((if_pos (by omega)).trans (by omega))
  have hjoin : s.joiner (.lane n) = some (.lane m) := (if_pos h1).trans (by rw [hm]; rfl)
  unfold State.runBegin
  rw [hdue, unitAt_lane hn]
  dsimp only
  rw [hd, if_neg Bool.false_ne_true, hjoin]
  rfl

theorem State.laneRole_lanesReport (m : Nat) : s.lanesReport.laneRole m = s.laneRole m := by
  refine State.foldl_keeps (State.laneRole · m) _ _ (fun a n _ => ?_) s
  have hne : ∀ off, off ≠ R.CMP_STATUS → off < 4096 → cmpKey m R.CMP_STATUS ≠ cmpKey n off := fun off h ho => rk_ne_of_off h.symm (by decide) ho
  refine (State.fld_wr_ne _ _ _ _ _ _ (hne R.CMP_LOAD_IN (by decide) (by decide))).trans ?_
  refine (State.fld_wr_ne _ _ _ _ _ _ (hne R.CMP_LOAD_OUT (by decide) (by decide))).trans ?_
  by_cases hmn : m = n
  · subst hmn
    exact State.fld_setBit_of_disjoint _ _ 7 _ 0 2 (by decide) (by decide)
  · refine State.fld_of_rd (State.rd_setBit_ne _ _ _ _ _ (rk_ne_page _ _ ?_)) 0 2
    simp only [cmpPage, Block.pg]
    omega

theorem State.bist_lanesReport : s.lanesReport.bist = s.bist := by
  unfold State.lanesReport
  refine State.foldl_keeps State.bist _ _ (fun _ _ _ => ?_) s
  rfl

/-- ROLE of a lane as it is given, before the report. -/
def State.laneGiven (s : State) (m role : Nat) : State := (s.setFld (cmpKey m R.CMP_STATUS) 0 2 role).setFld (cmpKey m R.CMP_STATUS) 2 5 31

theorem State.setRole_lane (m role : Nat) : s.setRole (.lane m) role = (s.laneGiven m role).lanesReport := rfl

theorem State.bist_laneGiven (m role : Nat) : (s.laneGiven m role).bist = s.bist := rfl

theorem State.laneRole_laneGiven (m role : Nat) (h : role < 4) : (s.laneGiven m role).laneRole m = role := by
  refine (State.fld_setFld_of_disjoint _ (cmpKey m R.CMP_STATUS) 2 5 31 0 2 (by decide) (by decide)).trans ?_
  exact (s.fld_setFld (cmpKey m R.CMP_STATUS) 0 2 role (by decide)).trans (Nat.mod_eq_of_lt h)

theorem State.laneRole_laneGiven_ne (m role : Nat) {n : Nat} (h : n ≠ m) : (s.laneGiven m role).laneRole n = s.laneRole n := by
  have hne : cmpKey n R.CMP_STATUS ≠ cmpKey m R.CMP_STATUS := rk_ne_page _ _ (by simp only [cmpPage, Block.pg]; omega)
  exact State.fld_of_rd ((State.rd_setFld_ne _ _ _ _ _ _ hne).trans (State.rd_setFld_ne _ _ _ _ _ _ hne)) 0 2

theorem cmpPage_ge (n : Nat) : 0x2000 ≤ cmpPage n := Nat.le_add_right _ _

/-- What a group shows leaves the lanes' roles and the runs. -/
theorem State.laneRole_shown {m n : Nat} (hm : m < 18) : (s.testShow (.lane m)).deferReport.laneRole n = s.laneRole n := by
  have hbud : cmpKey n R.CMP_STATUS ≠ budKey R.BUD_STATUS := rk_ne_page _ _ (by have := cmpPage_ge n; simp only [budPage, Block.pg, Block.base]; omega)
  have hbst : cmpKey n R.CMP_STATUS ≠ rk (Block.bst.pg (9 + m)) R.BST_STATUS :=
    rk_ne_page _ _ (bst_pg_ne (by omega) (.inr (cmpPage_ge n))).symm
  exact State.fld_of_rd ((State.rd_deferReport_ne _ hbud).trans (State.rd_bstShow_ne _ _ _ _ hbst)) 0 2

theorem State.bist_shown (u : Unit') : (s.testShow u).deferReport.bist = s.bist := rfl

theorem State.runBegin_lane_shows {n m : Nat} (hn : n < 18) (hd : s.deferred (.lane n) = false) (h1 : s.laneRole n = 1)
    (hm : s.laneSpare (laneDie n) = some m) (hmn : m ≠ n) : ∃ r, (s.runBegin (Block.bst.pg (9 + n))).run (Block.bst.pg (9 + n)) = some r ∧
      r.phase = 1 ∧ r.unit = n ∧ r.spare = m ∧ (s.runBegin (Block.bst.pg (9 + n))).laneRole m = 3 ∧
      (s.runBegin (Block.bst.pg (9 + n))).laneRole n = 1 := by
  have hlt := s.laneSpare_lt hm
  rw [s.runBegin_lane hn hd h1 hm, State.laneRole_shown _ hlt, State.laneRole_shown _ hlt, State.setRole_lane,
    State.laneRole_lanesReport, State.laneRole_lanesReport, State.laneRole_laneGiven _ m 3 (by decide), State.laneRole_laneGiven_ne _ m 3 hmn.symm,
    State.run, State.bist_shown, State.bist_lanesReport, State.bist_laneGiven]
  exact ⟨⟨1, n, m, s.bus.now, 0⟩, SMap.find?_set _ _ _, rfl, rfl, rfl, rfl, h1⟩

end

/-! ### The end of a test -/

/-- What a failed test brings about beyond its unit: a plane is isolated as FS40 has it. -/
def State.testFailed (s : State) (u : Unit') : State :=
  match u with
  | .plane q => s.fault 40 { page := fabPage, engine := q, access := 7, kind := 5 }
  | _ => s

section
variable {dt p unit misr : Nat} {s : State}

theorem exec_bistComplete_none (h : s.testing p unit = none) : exec (.bistComplete dt p unit misr) s = .next (s.tick dt) := by
  show execBistComplete dt p unit misr s = _
  unfold execBistComplete
  dsimp only
  rw [show (s.tick dt).testing p unit = none from h]

variable {g exp : Nat} {r : BistRun} {u : Unit'} (h : s.testing p unit = some (g, r, u)) (he : exp = s.bist.sigs.find 0 (pageIndex p * 16 + unit))
include h he

theorem exec_bistComplete_eq : exec (.bistComplete dt p unit misr) s = .next (
    if exp ≠ misr then ((((s.tick dt).testResult u exp misr).setRole u 0).runEnd g).testFailed u
    else if r.phase = 1 then (((s.tick dt).testResult u exp misr).setBistRun g { r with phase := 2 }).bstShow g 2 0
    else ((s.tick dt).testResult u exp misr).unitPassed g u) := by
  subst he
  show execBistComplete dt p unit misr s = _
  unfold execBistComplete
  dsimp only
  rw [show (s.tick dt).testing p unit = some (g, r, u) from h]
  rfl

theorem exec_bistComplete_shows :
    (exp = misr → r.phase = 1 → exec (.bistComplete dt p unit misr) s =
      .next ((((s.tick dt).testResult u exp misr).setBistRun g { r with phase := 2 }).bstShow g 2 0)) ∧
    (exp = misr → r.phase = 4 → exec (.bistComplete dt p unit misr) s = .next (((s.tick dt).testResult u exp misr).unitPassed g u)) ∧
    (exp ≠ misr → (∀ q, u ≠ .plane q) →
      exec (.bistComplete dt p unit misr) s = .next ((((s.tick dt).testResult u exp misr).setRole u 0).runEnd g)) := by
  have hex := exec_bistComplete_eq (dt := dt) (misr := misr) h he
  refine ⟨fun hok h1 => ?_, fun hok h4 => ?_, fun hbad hu => ?_⟩
  · exact hex.trans (congrArg Host.Outcome.next ((if_neg (not_not.mpr hok)).trans (if_pos h1)))
  · exact hex.trans (congrArg Host.Outcome.next ((if_neg (not_not.mpr hok)).trans (if_neg (by rw [h4]; decide))))
  · refine hex.trans (congrArg Host.Outcome.next ((if_pos hbad).trans ?_))
    cases u with
    | plane q => exact absurd rfl (hu q)
    | lane n => rfl
    | worker c => rfl
    | keeper k => rfl

end

/-! ### The result of a test -/

section
variable (s : State) (k exp misr sub : Nat)

/-- The signatures and the count of a test. -/
def State.resultKept (s : State) (p exp misr : Nat) : State :=
  ((s.wr (rk p R.BST_SIG_EXP) exp).wr (rk p R.BST_SIG_GOT) misr).addWrap (rk p R.BST_CNT_RUN) 1

/-- The verdict of a test. -/
def State.resultShown (s : State) (p sub : Nat) (ok : Bool) : State :=
  ((s.setBit (rk p R.BST_STATUS) 3 ok).setBit (rk p R.BST_UNUSABLE) sub (!ok)).setFld (rk p R.BST_STATUS) 0 3 0

/-- A failure counted and detected. -/
def State.resultFails (s : State) (p num : Nat) : State :=
  (s.addSat (rk p R.BST_CNT_FAIL) 1).fault 3 { page := p, access := 7, engine := num }

theorem State.testResult_eq (u : Unit') : s.testResult u exp misr =
    if decide (exp = misr) = true then ((s.resultKept u.page exp misr).resultShown u.page u.sub (decide (exp = misr))).raise u.page 0
    else (((s.resultKept u.page exp misr).resultShown u.page u.sub (decide (exp = misr))).resultFails u.page u.num).raise u.page 1 := rfl

theorem State.resultKept_shows {p : Nat} (he : exp < 2 ^ 32) (hm : misr < 2 ^ 32) :
    (s.resultKept p exp misr).rd (rk p R.BST_SIG_EXP) = exp ∧ (s.resultKept p exp misr).rd (rk p R.BST_SIG_GOT) = misr ∧
    (s.resultKept p exp misr).rd (rk p R.BST_CNT_RUN) = (s.rd (rk p R.BST_CNT_RUN) + 1) % 2 ^ 32 ∧
    (s.resultKept p exp misr).rd (rk p R.BST_CNT_FAIL) = s.rd (rk p R.BST_CNT_FAIL) := by
  unfold State.resultKept
  refine ⟨?_, ?_, ?_, ?_⟩
  · rw [State.rd_addWrap_ne _ _ _ _ rk_ne_of_off, State.rd_wr_ne _ _ _ _ rk_ne_of_off, State.rd_wr, Nat.mod_eq_of_lt he]
  · rw [State.rd_addWrap_ne _ _ _ _ rk_ne_of_off, State.rd_wr, Nat.mod_eq_of_lt hm]
  · rw [State.rd_addWrap, State.rd_wr_ne _ _ _ _ rk_ne_of_off, State.rd_wr_ne _ _ _ _ rk_ne_of_off]
  · rw [State.rd_addWrap_ne _ _ _ _ rk_ne_of_off, State.rd_wr_ne _ _ _ _ rk_ne_of_off, State.rd_wr_ne _ _ _ _ rk_ne_of_off]

variable (p : Nat) (ok : Bool)

theorem State.rd_resultShown_ne {off : Nat} (h : off ≠ R.BST_STATUS := by decide) (h' : off ≠ R.BST_UNUSABLE := by decide)
    (ho : off < 4096 := by decide) : (s.resultShown p sub ok).rd (rk p off) = s.rd (rk p off) := by
  unfold State.resultShown
  rw [State.rd_setFld_ne _ _ _ _ _ _ (rk_ne_of_off h ho), State.rd_setBit_ne _ _ _ _ _ (rk_ne_of_off h' ho),
    State.rd_setBit_ne _ _ _ _ _ (rk_ne_of_off h ho)]

theorem State.bit_resultShown (h : sub < 32) : (s.resultShown p sub ok).bit (rk p R.BST_UNUSABLE) sub = !ok := by
  unfold State.resultShown
  rw [State.bit_of_rd (State.rd_setFld_ne _ _ _ _ _ _ rk_ne_of_off), State.bit_setBit _ _ _ _ h]

theorem State.resultShown_quiet (exp misr : Nat) : s.Quiet ((s.resultKept p exp misr).resultShown p sub ok) :=
  ((((((State.Quiet.refl s).wr _ _).wr _ _).addWrap _ _).setBit _ _ _).setBit _ _ _).setFld _ _ _ _

end

section
variable {s : State} {b num : Nat} (hr : s.bus.Ranged) (hb : b < 35)

include hr in
theorem State.ranged_resultFails (p : Nat) : (s.resultFails p num).bus.Ranged :=
  State.ranged_fault _ _ ((State.Quiet.refl s).addSat _ _ |>.ranged hr)

include hr hb

theorem State.rd_resultFails {off : Nat} (hc : off ≠ R.BST_CNT_FAIL) (hff : off ≠ hdrFaultFirst := by decide)
    (hne : off ≠ hdrEvtPend := by decide) (ho : off < 4096 := by decide) :
    (s.resultFails (Block.bst.pg b) num).rd (rk (Block.bst.pg b) off) = s.rd (rk (Block.bst.pg b) off) := by
  have hadd : (s.addSat (rk (Block.bst.pg b) R.BST_CNT_FAIL) 1).bus.Ranged := ((State.Quiet.refl s).addSat _ _).ranged hr
  refine (Bus.rd_fault_plain hadd 3 _ (plainPage_group hb) (bst_pg_lt hb) (.inl (bst_pg_ne hb (.inl (by decide)))) hff hne ho).trans ?_
  exact s.rd_addSat_ne _ _ _ (rk_ne_of_off hc ho)

theorem State.cnt_resultFails : (s.resultFails (Block.bst.pg b) num).rd (rk (Block.bst.pg b) R.BST_CNT_FAIL) =
    min (s.rd (rk (Block.bst.pg b) R.BST_CNT_FAIL) + 1) 0xFFFFFFFF := by
  have hadd : (s.addSat (rk (Block.bst.pg b) R.BST_CNT_FAIL) 1).bus.Ranged := ((State.Quiet.refl s).addSat _ _).ranged hr
  refine (Bus.rd_fault_plain hadd 3 _ (plainPage_group hb) (bst_pg_lt hb) (.inl (bst_pg_ne hb (.inl (by decide))))).trans ?_
  exact s.rd_addSat _ _

end

theorem State.testResult_shows {s : State} {u : Unit'} {b exp misr : Nat} (hr : s.bus.Ranged) (hb : b < 35) (hu : u.page = Block.bst.pg b)
    (hs : u.sub < 32) (he : exp < 2 ^ 32) (hm : misr < 2 ^ 32) :
    (s.testResult u exp misr).rd (rk u.page R.BST_SIG_EXP) = exp ∧
    (s.testResult u exp misr).rd (rk u.page R.BST_SIG_GOT) = misr ∧
    (s.testResult u exp misr).rd (rk u.page R.BST_CNT_RUN) = (s.rd (rk u.page R.BST_CNT_RUN) + 1) % 2 ^ 32 ∧
    (s.testResult u exp misr).bit (rk u.page R.BST_UNUSABLE) u.sub = decide (exp ≠ misr) ∧
    (s.testResult u exp misr).pend u.page (if exp = misr then 0 else 1) = true ∧
    (exp ≠ misr → (s.testResult u exp misr).rd (rk u.page R.BST_CNT_FAIL) = min (s.rd (rk u.page R.BST_CNT_FAIL) + 1) 0xFFFFFFFF) := by
  have hp := plainPage_group hb
  rw [s.testResult_eq exp misr u, hu]
  obtain ⟨hexp, hgot, hrun, hfail⟩ := s.resultKept_shows exp misr (p := Block.bst.pg b) he hm
  have hshown : ((s.resultKept (Block.bst.pg b) exp misr).resultShown (Block.bst.pg b) u.sub (decide (exp = misr))).bus.Ranged :=
    (s.resultShown_quiet u.sub _ _ exp misr).ranged hr
  by_cases heq : exp = misr
  · rw [if_pos (decide_eq_true heq), if_pos heq]
    refine ⟨?_, ?_, ?_, ?_, hp.pend_raise hshown 0 (by decide), fun h => absurd heq h⟩
    · rw [hp.rd_raise hp hshown, State.rd_resultShown_ne, hexp]
    · rw [hp.rd_raise hp hshown, State.rd_resultShown_ne, hgot]
    · rw [hp.rd_raise hp hshown, State.rd_resultShown_ne, hrun]
    · rw [hp.bit_raise hp hshown, State.bit_resultShown _ _ _ _ hs, decide_not]
  · have hfs := State.ranged_resultFails (num := u.num) hshown (Block.bst.pg b)
    rw [if_neg (by simpa using heq), if_neg heq]
    refine ⟨?_, ?_, ?_, ?_, hp.pend_raise hfs 1 (by decide), fun _ => ?_⟩
    · rw [hp.rd_raise hp hfs, State.rd_resultFails hshown hb (by decide), State.rd_resultShown_ne, hexp]
    · rw [hp.rd_raise hp hfs, State.rd_resultFails hshown hb (by decide), State.rd_resultShown_ne, hgot]
    · rw [hp.rd_raise hp hfs, State.rd_resultFails hshown hb (by decide), State.rd_resultShown_ne, hrun]
    · rw [hp.bit_raise hp hfs, State.bit_of_rd (State.rd_resultFails hshown hb (by decide)), State.bit_resultShown _ _ _ _ hs, decide_not]
    · rw [hp.rd_raise hp hfs, State.cnt_resultFails hshown hb, State.rd_resultShown_ne, hfail]

/-! ### Joins -/

/-- A unit shadow-runs once the state of its carrier is taken: a worker's while it blocks. -/
def State.joinShadows (s : State) (p : Nat) (r : BistRun) : State :=
  match unitAt p r.unit with
  | some (.worker c) => if s.atWait c then s.shadowRun p r.unit r.spare false else s
  | _ => s.shadowRun p r.unit r.spare false

/-- The joining unit of a shadow-run takes over. -/
def State.joinTakes (s : State) (p : Nat) (r : BistRun) (u : Unit') : State :=
  match u with
  | .plane q => (s.planeJoin q).runEnd p
  | .lane n => (s.laneMove n r.spare (s.laneLl n) 0).testUnit p u
  | .worker c => (s.workerPass c r.spare 5 0).testUnit p u
  | .keeper k => if r.spare = k then ((s.setKpr k 2).setBit (kprKey k R.KPR_STATUS) 2 true).runEnd p else (s.keeperMove 3).testUnit p u

section
variable {dt p : Nat} {s : State} {r : BistRun} (hr : s.run p = some r)
include hr

theorem exec_joinStateTaken_eq (h2 : r.phase = 2) : exec (.joinStateTaken dt p) s = .next ((s.tick dt).joinShadows p r) := by
  show execJoinStateTaken dt p s = _
  unfold execJoinStateTaken
  dsimp only
  rw [show (s.tick dt).run p = some r from hr]
  dsimp only
  rw [if_neg (not_not.mpr h2)]
  rfl

theorem exec_joinStateTaken_shows (h2 : r.phase = 2) :
    (∀ n, unitAt p r.unit = some (.lane n) → exec (.joinStateTaken dt p) s = .next ((s.tick dt).shadowRun p r.unit r.spare false)) ∧
    (∀ c, unitAt p r.unit = some (.worker c) → s.atWait c = true →
      exec (.joinStateTaken dt p) s = .next ((s.tick dt).shadowRun p r.unit r.spare false)) ∧
    (∀ c, unitAt p r.unit = some (.worker c) → s.atWait c = false → exec (.joinStateTaken dt p) s = .next (s.tick dt)) := by
  have hex := exec_joinStateTaken_eq (dt := dt) hr h2
  refine ⟨fun n hu => ?_, fun c hu hw => ?_, fun c hu hw => ?_⟩ <;> rw [hex, State.joinShadows, hu]
  · exact congrArg Host.Outcome.next (if_pos hw)
  · exact congrArg Host.Outcome.next (if_neg fun h => absurd (hw.symm.trans h) (by decide))

theorem exec_joinTakeover_eq {u : Unit'} (hu : unitAt p r.unit = some u) : exec (.joinTakeover dt p) s = .next (
    if r.phase ≠ 3 ∨ (s.tick dt).joinReady r u = false then s.tick dt
    else ((s.tick dt).raise p 3).joinTakes p r u) := by
  show execJoinTakeover dt p s = _
  unfold execJoinTakeover
  dsimp only
  rw [show (s.tick dt).run p = some r from hr]
  dsimp only
  rw [hu]
  rfl

theorem exec_joinTakeover_waits {u : Unit'} (hu : unitAt p r.unit = some u) (h : (s.tick dt).joinReady r u = false) :
    exec (.joinTakeover dt p) s = .next (s.tick dt) :=
  (exec_joinTakeover_eq hr hu).trans (congrArg Host.Outcome.next (if_pos (.inr h)))

theorem exec_joinTakeover_acts {u : Unit'} (hu : unitAt p r.unit = some u) (h3 : r.phase = 3) (h : (s.tick dt).joinReady r u = true) :
    (∀ q, u = .plane q → exec (.joinTakeover dt p) s = .next ((((s.tick dt).raise p 3).planeJoin q).runEnd p)) ∧
    (∀ n, u = .lane n → exec (.joinTakeover dt p) s =
      .next ((((s.tick dt).raise p 3).laneMove n r.spare (((s.tick dt).raise p 3).laneLl n) 0).testUnit p u)) ∧
    (∀ c, u = .worker c → exec (.joinTakeover dt p) s = .next ((((s.tick dt).raise p 3).workerPass c r.spare 5 0).testUnit p u)) ∧
    (∀ k, u = .keeper k → r.spare ≠ k → exec (.joinTakeover dt p) s = .next ((((s.tick dt).raise p 3).keeperMove 3).testUnit p u)) := by
  have hgo : ¬(r.phase ≠ 3 ∨ (s.tick dt).joinReady r u = false) := not_or.mpr ⟨not_not.mpr h3, by rw [h]; decide⟩
  have hex := (exec_joinTakeover_eq (dt := dt) hr hu).trans (congrArg Host.Outcome.next (if_neg hgo))
  refine ⟨fun q hq => ?_, fun n hn => ?_, fun c hc => ?_, fun k hk hs => ?_⟩
  · subst hq
    exact hex
  · subst hn
    exact hex
  · subst hc
    exact hex
  · subst hk
    exact hex.trans (congrArg Host.Outcome.next (if_neg hs))

theorem exec_joinAbort_acts {j : Unit'} (h : r.phase = 2 ∨ r.phase = 3) (hj : r.joining p = some j) : exec (.joinAbort dt p) s =
    .next ((((((s.tick dt).setRole j 0).setBit (rk j.page R.BST_UNUSABLE) j.sub true).runEnd p).fault 4
      { page := j.page, access := 7, engine := j.num }).raise p 4) := by
  have hgo : ¬(r.phase ≠ 2 ∧ r.phase ≠ 3) := by omega
  show execJoinAbort dt p s = _
  unfold execJoinAbort
  dsimp only
  rw [show (s.tick dt).run p = some r from hr]
  dsimp only
  rw [if_neg hgo, hj]

end

section
variable {s : State} (unit spare : Nat)

/-- The registers of a group whose spare shadow-runs. -/
def State.shadowShown (s : State) (page unit spare : Nat) : State :=
  (s.modBist (fun b => { b with runs := b.runs.set page ⟨3, unit, spare, s.bus.now, s.rd (fltKey R.FLT_EPOCH)⟩ })).setFld
    (rk page R.BST_STATUS) 0 3 2

theorem State.shadowRun_eq (page : Nat) (epoch : Bool) :
    s.shadowRun page unit spare epoch = ((s.shadowShown page unit spare).raise page 2).ifThen epoch (·.epochAuto) := rfl

theorem State.run_ifThen_epochAuto (c : Bool) (page : Nat) : (s.ifThen c (·.epochAuto)).run page = s.run page := by cases c <;> rfl
theorem State.bus_ifThen_epochAuto (c : Bool) : (s.ifThen c (·.epochAuto)).bus = s.bus := by cases c <;> rfl
theorem State.run_raise (page bit q : Nat) : (s.raise page bit).run q = s.run q := rfl
theorem State.pend_eq_bus (page i : Nat) : s.pend page i = s.bus.bit (pendKey page) i := rfl
theorem State.fld_eq_bus (k lo w : Nat) : s.fld k lo w = s.bus.fld k lo w := rfl

theorem State.shadowRun_shows {b : Nat} (hr : s.bus.Ranged) (hb : b < 35) (epoch : Bool) :
    (s.shadowRun (Block.bst.pg b) unit spare epoch).run (Block.bst.pg b) =
      some ⟨3, unit, spare, s.bus.now, s.rd (fltKey R.FLT_EPOCH)⟩ ∧
    (s.shadowRun (Block.bst.pg b) unit spare epoch).fld (rk (Block.bst.pg b) R.BST_STATUS) 0 3 = 2 ∧
    (s.shadowRun (Block.bst.pg b) unit spare epoch).pend (Block.bst.pg b) 2 = true ∧
    (epoch = true → (s.shadowRun (Block.bst.pg b) unit spare epoch).epochs.auto = true) := by
  have hp := plainPage_group hb
  have hset : (s.shadowShown (Block.bst.pg b) unit spare).bus.Ranged := hr
  rw [State.shadowRun_eq, State.run_ifThen_epochAuto, State.run_raise, State.fld_eq_bus, State.pend_eq_bus, State.bus_ifThen_epochAuto]
  refine ⟨SMap.find?_set _ _ _, ?_, hp.pend_raise hset 2 (by decide), fun he => by rw [he]; rfl⟩
  rw [← State.fld_eq_bus, hp.fld_raise hp hset]
  exact State.fld_setFld _ (rk (Block.bst.pg b) R.BST_STATUS) 0 3 2 (by decide)

end

/-! ### The statement -/

/-- Settles O55: each clause is a branch of the group's operations; the registers of a group are followed under its events and detections. -/
theorem selfTestsRunAndUnitsJoin : Obligations.SelfTestsRunAndUnitsJoin := by
  refine ⟨fun dt b v s hb ha hup => ?_, fun dt b vi v s hvi ha hup => ?_, fun s p v h => s.bstCtrl_auto p v h,
    fun dt p s => ⟨exec_bistPeriodDue_runs, exec_bistPeriodDue_not⟩,
    fun dt p s r u hr h5 hu hd he => exec_bistDeferredStart_runs hr h5 hu hd he, fun dt p s h => exec_bist_idle h,
    fun s b u hr hb hu hd => s.runBegin_deferred_shows hr hb hu hd, fun s n m _ hn hd h1 hm hmn => s.runBegin_lane_shows hn hd h1 hm hmn,
    fun dt p unit misr s h => exec_bistComplete_none h, fun dt p unit misr g exp s s2 r u h he hs2 => ?_,
    fun s u b exp misr hr hb hu hs he hm => State.testResult_shows hr hb hu hs he hm, fun dt p s r hr h2 => exec_joinStateTaken_shows hr h2,
    fun s b unit spare epoch hr hb => State.shadowRun_shows unit spare hr hb epoch, fun dt p s s2 r u hr hu h3 hs2 => ?_,
    fun dt p s r j hr h hj => exec_joinAbort_acts hr h hj⟩
  · exact congrArg Host.Outcome.next ((State.guardWrite_owner (s.tick dt) 0 _ _ ha hup).trans
      ((if_pos rfl).trans (if_pos (blockOfPage_bst b hb))))
  · exact congrArg Host.Outcome.next ((State.guardWrite_owner (s.tick dt) vi _ _ ha hup).trans (if_neg hvi))
  · subst hs2
    exact exec_bistComplete_shows h he
  · subst hs2
    exact ⟨exec_joinTakeover_waits hr hu, exec_joinTakeover_acts hr hu h3⟩

end Sys2Proof.Machine
end

section
-- One theorem after another: each waiting thread takes 256 MB of the memory the check allows.
set_option Elab.async false
/-! SUPPORT. DKY_STATUS under the ends of a proposal and under its events (R376, Table 13-5). -/

namespace Sys2Proof.Machine

section
variable (s : State)

theorem State.dkyHolder_lt : s.dkyHolder < 1024 := fieldOf_lt 8 10 _

theorem State.dkyEvent_recipients : ∀ v ∈ 0 :: [s.dkyHolder], v < 1024 := by
  simp only [List.mem_cons, List.not_mem_nil, or_false, forall_eq_or_imp, forall_eq]
  exact ⟨by decide, s.dkyHolder_lt⟩

theorem State.after_dkyEvent (hr : s.bus.Ranged) (i : Nat) : s.After (s.dkyEvent i) [pendKey dkyPage] :=
  plainPage_dky.after_raiseFor hr i 0 _ s.dkyEvent_recipients

theorem State.pend_dkyEvent (hr : s.bus.Ranged) {i : Nat} (hi : i < 32) : (s.dkyEvent i).pend dkyPage i = true :=
  plainPage_dky.pend_raiseFor hr i 0 _ s.dkyEvent_recipients hi

/-- An event of DKY leaves the other registers of the control die. -/
theorem State.rd_dkyEvent (i : Nat) {p off : Nat} (hp : p < 0x80 := by decide) (hne : off ≠ hdrEvtPend := by decide)
    (ho : off < 4096 := by decide) : (s.dkyEvent i).rd (rk p off) = s.rd (rk p off) :=
  Bus.rd_raiseFor_ctl hp hne ho s.bus dkyPage i 0 [s.dkyHolder]

theorem State.dkyState_dkyEvent (i : Nat) : (s.dkyEvent i).dkyState = s.dkyState := State.fld_of_rd (s.rd_dkyEvent i) 0 3

theorem State.dkyEvent_fld (i lo w : Nat) : (s.dkyEvent i).fld (dkyKey R.DKY_STATUS) lo w = s.fld (dkyKey R.DKY_STATUS) lo w :=
  State.fld_of_rd (s.rd_dkyEvent i) lo w

theorem State.dkyEvent_bit (i j : Nat) : (s.dkyEvent i).bit (dkyKey R.DKY_STATUS) j = s.bit (dkyKey R.DKY_STATUS) j :=
  State.bit_of_rd (s.rd_dkyEvent i) j

/-! ### The end of a proposal -/

/-- DKY_STATUS as a proposal ends. -/
def State.dkyEnded (s : State) (result : Nat) : State := (s.setDkyState 0).setFld (dkyKey R.DKY_STATUS) 20 4 result

theorem State.dkyIdle_eq (result : Nat) : s.dkyIdle result = (s.dkyEnded result).disarm tWindow := rfl

theorem State.dkyEnded_quiet (result : Nat) : s.Quiet (s.dkyEnded result) := ((State.Quiet.refl s).setFld _ _ _ _).setFld _ _ _ _

theorem State.ranged_dkyIdle {s : State} (hr : s.bus.Ranged) (result : Nat) : (s.dkyIdle result).bus.Ranged := by
  rw [s.dkyIdle_eq]
  exact State.ranged_disarm ((s.dkyEnded_quiet result).ranged hr) _

theorem State.rd_dkyIdle_ne (result : Nat) {k : Nat} (h : k ≠ dkyKey R.DKY_STATUS) : (s.dkyIdle result).rd k = s.rd k := by
  rw [s.dkyIdle_eq, State.rd_disarm, State.dkyEnded, State.rd_setFld_ne _ _ _ _ _ _ h]
  exact State.rd_setFld_ne _ _ _ _ _ _ h

theorem State.dkyIdle_shows {result : Nat} (h : result < 16) : (s.dkyIdle result).dkyState = 0 ∧
    (s.dkyIdle result).fld (dkyKey R.DKY_STATUS) 20 4 = result := by
  rw [s.dkyIdle_eq, State.dkyState, State.fld_disarm, State.fld_disarm, State.dkyEnded]
  refine ⟨?_, ?_⟩
  · rw [State.fld_setFld_of_disjoint _ _ 20 4 _ 0 3 (by decide) (by decide), State.setDkyState, State.fld_setFld _ _ 0 3 _ (by decide),
      Nat.zero_mod]
  · rw [State.fld_setFld _ _ 20 4 _ (by decide)]
    exact Nat.mod_eq_of_lt h

end

end Sys2Proof.Machine
end

section
-- One theorem after another: each waiting thread takes 256 MB of the memory the check allows.
set_option Elab.async false
/-! SUPPORT. Global epochs and the durable journal (R444 to R451, Tables 15-12 and 15-14). The statement on them, settled. -/

namespace Sys2Proof.Machine

/-! ### FLT_STATUS under a detection -/

section
variable (b : Bus) (fs : Nat) (u : FaultAt)

/-- A detection changes of FLT_STATUS the overflow of the records alone. -/
theorem Bus.rd_fltStatus_capture : (b.capture fs u).rd (fltKey R.FLT_STATUS) = b.rd (fltKey R.FLT_STATUS) ∨
    (b.capture fs u).rd (fltKey R.FLT_STATUS) = setBitOf 4 true (b.rd (fltKey R.FLT_STATUS)) := by
  have hff : ∀ p, fltKey R.FLT_STATUS ≠ rk p hdrFaultFirst := fun p => rk_ne_of_off
  have hused : fltKey R.FLT_STATUS ≠ rk (Block.flt.pg 0) R.FLT_REC_USED := rk_ne_of_off
  unfold Bus.capture
  extract_lets held ty r
  split
  · split
    · exact .inl (Bus.rd_of_regs rfl _)
    · exact .inl rfl
  · split
    · exact .inr ((Bus.rd_setFld_ne _ _ _ _ _ _ hused).trans (Bus.rd_setBit _ _ _ _ (by decide)))
    · extract_lets b1 b2
      have h1 : b1.rd (fltKey R.FLT_STATUS) = b.rd (fltKey R.FLT_STATUS) := (Bus.rd_wr_ne _ _ _ _ (hff _)).trans (Bus.rd_of_regs rfl _)
      have h2 : b2.rd (fltKey R.FLT_STATUS) = b1.rd (fltKey R.FLT_STATUS) := by
        unfold b2
        split
        · exact Bus.rd_wr_ne _ _ _ _ (hff _)
        · rfl
      exact .inl (((Bus.rd_setFld_ne _ _ _ _ _ _ hused).trans h2).trans h1)

theorem Bus.rd_fltStatus_fault : (b.fault fs u).rd (fltKey R.FLT_STATUS) = b.rd (fltKey R.FLT_STATUS) ∨
    (b.fault fs u).rd (fltKey R.FLT_STATUS) = setBitOf 4 true (b.rd (fltKey R.FLT_STATUS)) := by
  have hsrc : ∀ o, fltKey R.FLT_STATUS ≠ fsKey fs o := fun o => (fsKey_ne_rk fs o (by decide) (by decide)).symm
  by_cases h : fsKnown fs = true
  · have hbook : (b.fault fs u).rd (fltKey R.FLT_STATUS) = (b.faultBooked fs u).rd (fltKey R.FLT_STATUS) := by
      rw [b.fault_eq u h, Bus.rd_startGrace _ _ _ _ _ (hsrc _), Bus.faultTold]
      exact Bus.rd_raiseFor_ctl (p := fltPage) (by decide) (by decide) (by decide) _ _ _ _ _
    have hpre : (((b.addSat (fsKey fs R.FLT_SRC_CNT) 1).noteCorr fs).setBit (fsKey fs R.FLT_SRC_STATUS) 10
        (decide (fsClass fs ≠ 0))).rd (fltKey R.FLT_STATUS) = b.rd (fltKey R.FLT_STATUS) := by
      rw [Bus.rd_setBit_ne _ _ _ _ _ (hsrc _), Bus.rd_noteCorr, Bus.rd_addSat_ne _ _ _ _ (hsrc _)]
    have hcap := Bus.rd_fltStatus_capture (((b.addSat (fsKey fs R.FLT_SRC_CNT) 1).noteCorr fs).setBit (fsKey fs R.FLT_SRC_STATUS) 10
      (decide (fsClass fs ≠ 0))) fs u
    rw [hpre] at hcap
    rw [hbook]
    exact hcap
  · rw [b.fault_unknown u (by simpa using h)]
    exact .inl rfl

end

section
variable (s : State) (fs : Nat) (u : FaultAt)

theorem State.bit_fltStatus_fault {i : Nat} (h : i ≠ 4) : (s.fault fs u).bit (fltKey R.FLT_STATUS) i = s.bit (fltKey R.FLT_STATUS) i := by
  rcases Bus.rd_fltStatus_fault s.bus fs u with h' | h'
  · exact congrArg (bitOf i) h'
  · exact (congrArg (bitOf i) h').trans (bitOf_setBitOf_ne i 4 true _ h)

theorem State.fld_fltStatus_fault {lo w : Nat} (h : 4 < lo ∨ lo + w ≤ 4) :
    (s.fault fs u).fld (fltKey R.FLT_STATUS) lo w = s.fld (fltKey R.FLT_STATUS) lo w := by
  rcases Bus.rd_fltStatus_fault s.bus fs u with h' | h'
  · exact congrArg (fieldOf lo w) h'
  · exact (congrArg (fieldOf lo w) h').trans (fieldOf_setBitOf_of_disjoint lo w 4 true _ h)

end

/-! ### Requests -/

section
variable {dt : Nat} {s : State}

theorem exec_epochRequest_owner (v : Nat) (ha : s.bus.pageAccess fltPage 0 = 2) (hup : s.bus.pageUp fltPage = true) :
    exec (.epochRequest dt 0 v) s =
      .next (if bitOf 0 v then { s.tick dt with epochs := { s.epochs with asked := true } } else s.tick dt) :=
  congrArg Host.Outcome.next ((State.guardWrite_owner (s.tick dt) 0 fltPage _ ha hup).trans (if_pos rfl))

theorem exec_epochRequest_denied {vi v : Nat} (hvi : vi ≠ 0) (ha : s.bus.pageAccess fltPage vi = 2) (hup : s.bus.pageUp fltPage = true) :
    exec (.epochRequest dt vi v) s = .next ((s.tick dt).on (·.denied)) :=
  congrArg Host.Outcome.next ((State.guardWrite_owner (s.tick dt) vi fltPage _ ha hup).trans (if_neg hvi))

/-! ### The start of an epoch -/

theorem exec_globalEpochStart_none (h : s.epochs.run ≠ none ∨ s.epochWanted = false) :
    exec (.globalEpochStart dt) s = .next (s.tick dt) := by
  refine congrArg Host.Outcome.next (if_pos ?_)
  rw [Bool.or_eq_true]
  exact h.imp Option.isSome_iff_ne_none.mpr fun hw => by
    rw [show (s.tick dt).epochWanted = false from hw]
    rfl

section
variable (hrun : s.epochs.run = none) (hw : s.epochWanted = true)
include hrun hw

theorem epochStart_goes : ¬((s.tick dt).epochs.run.isSome || !(s.tick dt).epochWanted) = true := by
  rw [show (s.tick dt).epochs.run = none from hrun, show (s.tick dt).epochWanted = true from hw]
  decide

theorem exec_globalEpochStart_opens (hp : s.pwrFail = false) (hroom : s.logRoom (s.epochs.log.length + s.opsStaged.length) = true) :
    exec (.globalEpochStart dt) s = .next (s.tick dt).epochOpen := by
  have hpf : ¬(s.tick dt).pwrFail = true := by
    rw [show (s.tick dt).pwrFail = false from hp]
    decide
  exact congrArg Host.Outcome.next ((if_neg (epochStart_goes hrun hw)).trans ((if_neg hpf).trans (if_pos hroom)))

theorem exec_globalEpochStart_refused (hp : s.pwrFail = true) : exec (.globalEpochStart dt) s =
    .next (((s.tick dt).modEpochs (fun e => { e with asked := false, auto := false })).setLastEpoch 3) :=
  congrArg Host.Outcome.next ((if_neg (epochStart_goes hrun hw)).trans (if_pos hp))

end

/-- The run of an epoch that opens. -/
def State.openRun (s : State) : EpochRun := ⟨s.bus.now, s.epochs.log, s.epochs.pages, s.opsStaged, s.jrn.next, false⟩

/-- An epoch that opens, with its record. -/
def State.epochWritten (s : State) : State :=
  (s.modEpochs (fun _ => ⟨[], [], false, false, some s.openRun⟩)).jwrite 1 (s.rd (fltKey R.FLT_EPOCH) + 1) 0 (s.epochs.log ++ opEntries s.opsStaged)

theorem State.epochOpen_eq (s : State) : s.epochOpen = ((s.epochWritten.setBit (fltKey R.FLT_STATUS) 3 true).setFld
    (fltKey R.FLT_EPOCH_LOG) 16 14 (s.epochs.log ++ opEntries s.opsStaged).length).disarm tEpochAuto := rfl

theorem State.epochs_epochWritten (s : State) : s.epochWritten.epochs = ⟨[], [], false, false, some s.openRun⟩ := rfl

theorem State.jrn_jwrite (s : State) (kind epoch group : Nat) (entries : List (Nat × Nat)) : (s.jwrite kind epoch group entries).jrn.log =
    s.jrn.log ++ [⟨kind, epoch, group, s.bus.w250, entries, false, 0, s.jrn.next⟩] := rfl

theorem State.epochOpen_shows (s : State) : s.epochOpen.epochs = ⟨[], [], false, false, some s.openRun⟩ ∧
    s.epochOpen.bit (fltKey R.FLT_STATUS) 3 = true ∧ s.epochOpen.bus.running tEpochAuto = false ∧
    s.epochOpen.jrn.log = s.epochWritten.jrn.log := by
  have hne : fltKey R.FLT_STATUS ≠ fltKey R.FLT_EPOCH_LOG := by decide
  rw [s.epochOpen_eq]
  refine ⟨?_, ?_, State.running_disarm_self _ _, ?_⟩
  · rw [State.disarm_epochs, State.setFld_epochs, State.setBit_epochs, s.epochs_epochWritten]
  · rw [State.bit_disarm, State.bit_setFld_ne _ _ _ _ _ _ _ hne, State.bit_setBit _ _ 3 _ (by decide)]
  · rw [State.disarm_jrn, State.setFld_jrn, State.setBit_jrn]

theorem exec_globalEpochStart_shows {es : List (Nat × Nat)} (hrun : s.epochs.run = none) (hw : s.epochWanted = true) (hp : s.pwrFail = false)
    (hroom : s.logRoom (s.epochs.log.length + s.opsStaged.length) = true) (hes : es = s.epochs.log ++ opEntries s.opsStaged) :
    ∃ t, exec (.globalEpochStart dt) s = .next t ∧
      t.epochs = ⟨[], [], false, false, some ⟨s.bus.now + dt, s.epochs.log, s.epochs.pages, s.opsStaged, s.jrn.next, false⟩⟩ ∧
      t.bit (fltKey R.FLT_STATUS) 3 = true ∧ t.bus.running tEpochAuto = false ∧
      (∃ r, t.jrn.log = s.jrn.log ++ [r] ∧ r.kind = 1 ∧ r.epoch = s.rd (fltKey R.FLT_EPOCH) + 1 ∧ r.entries = es ∧ r.durable = false ∧
        r.pos = s.jrn.next) := by
  obtain ⟨hepochs, hbit, htimer, hjrn⟩ := (s.tick dt).epochOpen_shows
  subst hes
  exact ⟨_, exec_globalEpochStart_opens hrun hw hp hroom, hepochs, hbit, htimer,
    _, hjrn.trans (State.jrn_jwrite _ _ _ _ _), rfl, rfl, rfl, rfl, rfl⟩

theorem exec_globalEpochStart_refused_shows (hrun : s.epochs.run = none) (hw : s.epochWanted = true) (hp : s.pwrFail = true) :
    ∃ t, exec (.globalEpochStart dt) s = .next t ∧ t.epochs = { s.epochs with asked := false, auto := false } ∧
      t.fld (fltKey R.FLT_STATUS) 5 3 = 3 ∧ (s.tick dt).bus.Reported t.bus [fltKey R.FLT_STATUS] :=
  ⟨_, exec_globalEpochStart_refused hrun hw hp, rfl, State.fld_setFld _ (fltKey R.FLT_STATUS) 5 3 3 (by decide),
    ((State.After.refl (s.tick dt) _).setFld _ _ _ _ (List.mem_singleton_self _)).2⟩

theorem State.epochWanted_sealed (h : s.dkyState = 3) (ha : s.epochs.asked = false) : s.epochWanted = false := by
  unfold State.epochWanted
  rw [ha, h]
  exact Bool.and_false _

end

/-! ### An epoch takes effect -/

section
variable {dt : Nat} {s : State} {r : EpochRun} (hrun : s.epochs.run = some r)
include hrun

theorem exec_globalEpochDurable_live (hl : r.live = false) (ht : s.bus.now + dt ≤ r.t0 + clkUs 60) (hp : s.pwrFail = false) :
    exec (.globalEpochDurable dt) s = .next (((if r.ops.isEmpty then s.tick dt else (s.tick dt).flushAll).epochLive r).joinsWait) := by
  have hready : (s.tick dt).epochReady = some r := by
    unfold State.epochReady
    rw [show (s.tick dt).epochs.run = some r from hrun, show (s.tick dt).pwrFail = false from hp]
    refine if_pos ?_
    simp only [hl, Bool.not_false, Bool.true_and, Bool.and_true, decide_eq_true_eq]
    exact ht
  show execGlobalEpochDurable dt s = _
  unfold execGlobalEpochDurable
  dsimp only
  rw [hready]

theorem exec_globalEpochDurable_waits (h : r.live = true ∨ r.t0 + clkUs 60 < s.bus.now + dt ∨ s.pwrFail = true) :
    exec (.globalEpochDurable dt) s = .next (s.tick dt) := by
  have hready : (s.tick dt).epochReady = none := by
    unfold State.epochReady
    rw [show (s.tick dt).epochs.run = some r from hrun]
    refine if_neg fun hgo => ?_
    simp only [Bool.and_eq_true, Bool.not_eq_true', decide_eq_true_eq] at hgo
    obtain ⟨⟨hlive, htime⟩, hfail⟩ := hgo
    have htime' : s.bus.now + dt ≤ r.t0 + clkUs 60 := htime
    rcases h with h | h | h
    · exact absurd (h.symm.trans hlive) (by decide)
    · omega
    · exact absurd (h.symm.trans hfail) (by decide)
  show execGlobalEpochDurable dt s = _
  unfold execGlobalEpochDurable
  dsimp only
  rw [hready]

end

theorem stampW0_lt (t : Nat) : stampW0 t < 2 ^ 32 := by
  unfold stampW0
  omega

section
variable (s : State)

/-- The registers of an epoch at tE. -/
def State.epochStamped (s : State) (pos : Nat) : State :=
  ((((s.logDurable pos).addWrap (fltKey R.FLT_EPOCH) 1).wr (fltKey R.FLT_EPOCH_TIME) (stampW0 s.bus.w250)).wr
    (fltKey (R.FLT_EPOCH_TIME + 4)) (stampW1 s.bus.w250)).wr (fltKey (R.FLT_EPOCH_TIME + 8)) (stampW2 s.bus.w250)

/-- A proposal that the epoch does not carry is stale. -/
def State.epochStale (s : State) : State := if s.dkyState = 4 then (s.dkyIdle 8).dkyEvent 3 else s

theorem State.rd_logDurable (pos k : Nat) : (s.logDurable pos).rd k = s.rd k := rfl

theorem State.rd_epochStamped : (s.epochStamped pos).rd (fltKey R.FLT_EPOCH) = (s.rd (fltKey R.FLT_EPOCH) + 1) % 2 ^ 32 ∧
    (s.epochStamped pos).rd (fltKey R.FLT_EPOCH_TIME) = stampW0 s.bus.w250 := by
  have h0 : fltKey R.FLT_EPOCH ≠ fltKey R.FLT_EPOCH_TIME := by decide
  have h4 : ∀ off, off = R.FLT_EPOCH ∨ off = R.FLT_EPOCH_TIME → fltKey off ≠ fltKey (R.FLT_EPOCH_TIME + 4) := by
    rintro off (rfl | rfl) <;> decide
  have h8 : ∀ off, off = R.FLT_EPOCH ∨ off = R.FLT_EPOCH_TIME → fltKey off ≠ fltKey (R.FLT_EPOCH_TIME + 8) := by
    rintro off (rfl | rfl) <;> decide
  unfold State.epochStamped
  constructor
  · rw [State.rd_wr_ne _ _ _ _ (h8 _ (.inl rfl)), State.rd_wr_ne _ _ _ _ (h4 _ (.inl rfl)), State.rd_wr_ne _ _ _ _ h0, State.rd_addWrap,
      State.rd_logDurable]
  · rw [State.rd_wr_ne _ _ _ _ (h8 _ (.inr rfl)), State.rd_wr_ne _ _ _ _ (h4 _ (.inr rfl)), State.rd_wr, Nat.mod_eq_of_lt (stampW0_lt _)]

theorem State.rd_epochStamped_ne {p off : Nat} (h : p ≠ fltPage := by decide) (ho : off < 4096 := by decide) :
    (s.epochStamped pos).rd (rk p off) = s.rd (rk p off) := by
  have hne : ∀ off', off' < 4096 → rk p off ≠ fltKey off' := fun off' ho' => rk_ne_page off off' h ho ho'
  unfold State.epochStamped
  rw [State.rd_wr_ne _ _ _ _ (hne _ (by decide)), State.rd_wr_ne _ _ _ _ (hne _ (by decide)), State.rd_wr_ne _ _ _ _ (hne _ (by decide)),
    State.rd_addWrap_ne _ _ _ _ (hne _ (by decide)), State.rd_logDurable]

/-- The registers of another page of the control die stay. -/
theorem State.rd_epochStale {p off : Nat} (h : rk p off ≠ dkyKey R.DKY_STATUS) (hp : p < 0x80 := by decide) (hne : off ≠ hdrEvtPend := by decide)
    (ho : off < 4096 := by decide) : s.epochStale.rd (rk p off) = s.rd (rk p off) := by
  unfold State.epochStale
  split
  · rw [State.rd_dkyEvent _ 3 hp hne ho, State.rd_dkyIdle_ne _ 8 h]
  · rfl

theorem State.updAuthorise_none (before : Nat) : s.updAuthorise before [] = s := if_pos rfl

theorem State.updEpoch_idle (h : s.updState ≠ 5) : s.updEpoch = s := if_pos h

/-- The run of an epoch that took effect. -/
def State.runLive (s : State) (r : EpochRun) : State := s.modEpochs (fun e => { e with run := some { r with live := true } })

theorem State.rd_runLive (r : EpochRun) (k : Nat) : (s.runLive r).rd k = s.rd k := rfl

/-- What a set-up in the epoch's operations brings about. -/
def State.epochSetup (s : State) (ops : List ProtOp) (old : SMap Grant) (wasBound : Bool) : State :=
  if ops.isEmpty then s else s.setupFollows old wasBound

/-- A proposal that an epoch of those operations does not carry. -/
def State.epochProposal (s : State) (ops : List ProtOp) : State :=
  if s.dkyState = 4 ∧ ops = [] then (s.dkyIdle 8).dkyEvent 3 else s

/-- The operations' words outside the AON domain. -/
def State.epochWords (s : State) (ops : List ProtOp) : State := s.on (fun b => (ops.filter (fun o => !aonOp o)).foldl Bus.protWrite b)

theorem State.epochLive_parts (r : EpochRun) : s.epochLive r =
    (((((((s.epochStamped r.pos).commitPages r.pages).epochWords r.ops).epochSetup r.ops s.bus.grants s.bound).epochProposal r.ops).updAuthorise
      s.ticket r.ops).updEpoch).runLive r := rfl

theorem State.commitPages_nil : s.commitPages [] = s := rfl
theorem State.epochWords_nil : s.epochWords [] = s := rfl
theorem State.epochSetup_nil (old : SMap Grant) (wasBound : Bool) : s.epochSetup [] old wasBound = s := if_pos rfl
theorem State.epochProposal_nil : s.epochProposal [] = s.epochStale := by
  unfold State.epochProposal State.epochStale
  simp only [and_true]

theorem State.updState_stale (pos : Nat) : (s.epochStamped pos).epochStale.updState = s.updState :=
  State.fld_of_rd ((State.rd_epochStale _ (rk_ne_page _ _ (by decide)) (by decide)).trans (s.rd_epochStamped_ne (by decide))) 0 3

theorem State.epochLive_eq {r : EpochRun} (ho : r.ops = []) (hp : r.pages = []) (hu : s.updState ≠ 5) :
    s.epochLive r = ((s.epochStamped r.pos).epochStale).runLive r := by
  rw [s.epochLive_parts, ho, hp, State.commitPages_nil, State.epochWords_nil, State.epochSetup_nil, State.epochProposal_nil,
    State.updAuthorise_none, State.updEpoch_idle _ (by rwa [s.updState_stale])]

end

section
variable {s : State} {r : EpochRun}

theorem State.epochStale_shows (h : s.dkyState = 4) : s.epochStale.dkyState = 0 ∧ s.epochStale.fld (dkyKey R.DKY_STATUS) 20 4 = 8 := by
  obtain ⟨hidle, hresult⟩ := s.dkyIdle_shows (result := 8) (by decide)
  rw [show s.epochStale = (s.dkyIdle 8).dkyEvent 3 from if_pos h]
  exact ⟨(State.dkyState_dkyEvent _ 3).trans hidle, (State.dkyEvent_fld _ 3 20 4).trans hresult⟩

theorem State.epochLive_shows (ho : r.ops = []) (hp : r.pages = []) (hu : s.updState ≠ 5) :
    (s.epochLive r).rd (fltKey R.FLT_EPOCH) = (s.rd (fltKey R.FLT_EPOCH) + 1) % 2 ^ 32 ∧
    (s.epochLive r).rd (fltKey R.FLT_EPOCH_TIME) = stampW0 s.bus.w250 ∧ (s.epochLive r).epochs.run = some { r with live := true } ∧
    (s.dkyState = 4 → (s.epochLive r).dkyState = 0 ∧ (s.epochLive r).fld (dkyKey R.DKY_STATUS) 20 4 = 8) := by
  obtain ⟨hepoch, htime⟩ := s.rd_epochStamped (pos := r.pos)
  have hdky : (s.epochStamped r.pos).dkyState = s.dkyState := State.fld_of_rd (s.rd_epochStamped_ne (by decide)) 0 3
  rw [s.epochLive_eq ho hp hu, State.rd_runLive, State.rd_runLive]
  refine ⟨?_, ?_, rfl, fun h4 => State.epochStale_shows (hdky.trans h4)⟩
  · exact (State.rd_epochStale _ (rk_ne_page _ _ (by decide)) (by decide)).trans hepoch
  · exact (State.rd_epochStale _ (rk_ne_page _ _ (by decide)) (by decide)).trans htime

/-! ### The last steps of an epoch -/

/-- The words of the AON domain, with the demands refreshed. -/
def State.aonWords (s : State) (ops : List ProtOp) : State :=
  if ops.any aonOp then (List.range 24).foldl State.ldsRefresh (s.on (fun b => (ops.filter aonOp).foldl Bus.protWrite b))
  else s.on (fun b => (ops.filter aonOp).foldl Bus.protWrite b)

/-- The run is over. -/
def State.runOver (s : State) : State := s.modEpochs (fun e => { e with run := none })

/-- FLT_STATUS as an epoch ends. -/
def State.epochDone (s : State) (result : Nat) : State := (s.setBit (fltKey R.FLT_STATUS) 3 false).setLastEpoch result

theorem State.epochDone_shows (s : State) {v : Nat} (h : v < 8) : (s.epochDone v).bit (fltKey R.FLT_STATUS) 3 = false ∧
    (s.epochDone v).fld (fltKey R.FLT_STATUS) 5 3 = v := by
  constructor
  · exact (State.bit_setFld_of_disjoint _ (fltKey R.FLT_STATUS) 5 3 v 3 (by decide) (by decide)).trans
      (s.bit_setBit (fltKey R.FLT_STATUS) 3 false (by decide))
  · exact (State.fld_setFld _ (fltKey R.FLT_STATUS) 5 3 v (by decide)).trans (Nat.mod_eq_of_lt h)

theorem State.rd_epochDone_ne (s : State) (v : Nat) {k : Nat} (h : k ≠ fltKey R.FLT_STATUS) : (s.epochDone v).rd k = s.rd k :=
  (State.rd_setFld_ne _ _ _ _ _ _ h).trans (State.rd_setBit_ne _ _ _ _ _ h)

theorem State.rd_runOver (s : State) (k : Nat) : s.runOver.rd k = s.rd k := rfl
theorem State.epochs_epochDone (s : State) (v : Nat) : (s.epochDone v).epochs = s.epochs := rfl
theorem State.run_runOver (s : State) : s.runOver.epochs.run = none := rfl
theorem State.aonWords_nil (s : State) : s.aonWords [] = s := if_neg (by decide)

section
variable {dt : Nat} (hrun : s.epochs.run = some r)
include hrun

theorem exec_globalEpochAonApply_live (hl : r.live = true) : exec (.globalEpochAonApply dt) s =
    .next (((((s.tick dt).aonWords r.ops).runOver.epochDone 1).raise fltPage 1).dkyApplied r.ops) := by
  show execGlobalEpochAonApply dt s = _
  unfold execGlobalEpochAonApply
  dsimp only
  rw [show (s.tick dt).epochs.run = some r from hrun]
  exact congrArg Host.Outcome.next (if_neg (by rw [hl]; decide))

theorem exec_globalEpochAonApply_not (hl : r.live = false) : exec (.globalEpochAonApply dt) s = .next (s.tick dt) := by
  show execGlobalEpochAonApply dt s = _
  unfold execGlobalEpochAonApply
  dsimp only
  rw [show (s.tick dt).epochs.run = some r from hrun]
  exact congrArg Host.Outcome.next (if_pos (by rw [hl]; rfl))

theorem exec_globalEpochAonApply_shows (hl : r.live = true) : ∃ u : State,
    exec (.globalEpochAonApply dt) s = .next ((u.raise fltPage 1).dkyApplied r.ops) ∧ u.epochs.run = none ∧
    u.bit (fltKey R.FLT_STATUS) 3 = false ∧ u.fld (fltKey R.FLT_STATUS) 5 3 = 1 ∧
    (r.ops = [] → ∀ k, k ≠ fltKey R.FLT_STATUS → u.rd k = s.rd k) := by
  obtain ⟨hbusy, hlast⟩ := ((s.tick dt).aonWords r.ops).runOver.epochDone_shows (v := 1) (by decide)
  refine ⟨_, exec_globalEpochAonApply_live hrun hl, ?_, hbusy, hlast, fun ho k hk => ?_⟩
  · rw [State.epochs_epochDone, State.run_runOver]
  · rw [State.rd_epochDone_ne _ 1 hk, State.rd_runOver, ho, State.aonWords_nil]
    rfl

end

theorem exec_globalEpochAonApply_idle {dt : Nat} (h : s.epochs.run = none) : exec (.globalEpochAonApply dt) s = .next (s.tick dt) := by
  show execGlobalEpochAonApply dt s = _
  unfold execGlobalEpochAonApply
  dsimp only
  rw [show (s.tick dt).epochs.run = none from h]

/-- Presence is used up by a bootstrap proposal. -/
def State.presenceUsed (s : State) : State := (s.setBit (dkyKey R.DKY_STATUS) 3 false).disarm tPresence

theorem State.dkyApplied_eq {ops : List ProtOp} (h : ops ≠ []) :
    s.dkyApplied ops = ((s.dkyIdle 11).dkyEvent 2).ifThen s.dkyBoot State.presenceUsed := by
  refine if_neg ?_
  rwa [List.isEmpty_iff]

theorem State.fld_presenceUsed (s : State) (lo w : Nat) (h : lo + w ≤ 3 ∨ 3 < lo) :
    s.presenceUsed.fld (dkyKey R.DKY_STATUS) lo w = s.fld (dkyKey R.DKY_STATUS) lo w := by
  rw [State.presenceUsed, State.fld_disarm, State.fld_setBit_of_disjoint _ _ 3 _ lo w (by decide) (by omega)]

theorem State.pend_presenceUsed (s : State) (i : Nat) : s.presenceUsed.pend dkyPage i = s.pend dkyPage i :=
  (State.bit_disarm _ _ _ _).trans (State.bit_of_rd (State.rd_setBit_ne _ _ _ _ _ pendKey_ne) i)

theorem State.dkyApplied_shows (hr : s.bus.Ranged) {ops : List ProtOp} (h : ops ≠ []) : (s.dkyApplied ops).dkyState = 0 ∧
    (s.dkyApplied ops).fld (dkyKey R.DKY_STATUS) 20 4 = 11 ∧ (s.dkyApplied ops).pend dkyPage 2 = true ∧
    (s.dkyBoot = true → (s.dkyApplied ops).dkyPresence = false) := by
  obtain ⟨hidle, hresult⟩ := s.dkyIdle_shows (result := 11) (by decide)
  have hpend := State.pend_dkyEvent _ (State.ranged_dkyIdle hr 11) (i := 2) (by decide)
  have h0 := (State.dkyState_dkyEvent (s.dkyIdle 11) 2).trans hidle
  have h11 := (State.dkyEvent_fld (s.dkyIdle 11) 2 20 4).trans hresult
  rw [State.dkyApplied_eq h]
  cases hb : s.dkyBoot with
  | false => exact ⟨h0, h11, hpend, fun h => absurd h (by decide)⟩
  | true =>
    refine ⟨(State.fld_presenceUsed _ 0 3 (by decide)).trans h0, (State.fld_presenceUsed _ 20 4 (by decide)).trans h11,
      (State.pend_presenceUsed _ 2).trans hpend, fun _ => ?_⟩
    exact (State.bit_disarm _ _ _ _).trans (State.bit_setBit _ (dkyKey R.DKY_STATUS) 3 false (by decide))

/-! ### An epoch given up -/

/-- What was staged is staged again, and the record is withdrawn. -/
def State.epochWithdrawn (s : State) (r : EpochRun) : State :=
  { s.modEpochs (fun e => { e with run := none, log := r.entries ++ e.log, pages := r.pages ++ e.pages }) with
    jrn := { s.jrn with log := s.jrn.log.filter (fun x => decide (x.pos ≠ r.pos)) } }

theorem State.rd_epochWithdrawn (s : State) (r : EpochRun) (k : Nat) : (s.epochWithdrawn r).rd k = s.rd k := rfl
theorem State.epochDone_quiet (s : State) (v : Nat) : s.Quiet (s.epochDone v) := ((State.Quiet.refl s).setBit _ _ _).setFld _ _ _ _
theorem State.jrn_epochDone (s : State) (v : Nat) : (s.epochDone v).jrn = s.jrn := rfl

section
variable {dt : Nat} (hrun : s.epochs.run = some r)
include hrun

theorem exec_globalEpochAbort_acts (hl : r.live = false) (ht : r.t0 + clkUs 60 ≤ s.bus.now + dt) : exec (.globalEpochAbort dt) s =
    .next ((((s.tick dt).epochWithdrawn r).epochDone 2).fault 2 { page := fltPage }) := by
  have hgo : ¬(r.live || decide ((s.tick dt).bus.now < r.t0 + clkUs 60)) = true := by
    simp only [hl, Bool.false_or, decide_eq_true_eq]
    exact Nat.not_lt.mpr ht
  show execGlobalEpochAbort dt s = _
  unfold execGlobalEpochAbort
  dsimp only
  rw [show (s.tick dt).epochs.run = some r from hrun]
  exact congrArg Host.Outcome.next (if_neg hgo)

theorem exec_globalEpochAbort_not (h : r.live = true ∨ s.bus.now + dt < r.t0 + clkUs 60) :
    exec (.globalEpochAbort dt) s = .next (s.tick dt) := by
  have hgo : (r.live || decide ((s.tick dt).bus.now < r.t0 + clkUs 60)) = true := by
    simp only [Bool.or_eq_true, decide_eq_true_eq]
    exact h
  show execGlobalEpochAbort dt s = _
  unfold execGlobalEpochAbort
  dsimp only
  rw [show (s.tick dt).epochs.run = some r from hrun]
  exact congrArg Host.Outcome.next (if_pos hgo)

theorem exec_globalEpochAbort_shows (hr : s.bus.Ranged) (hl : r.live = false) (ht : r.t0 + clkUs 60 ≤ s.bus.now + dt) :
    ∃ t, exec (.globalEpochAbort dt) s = .next t ∧
      t.epochs = { s.epochs with run := none, log := r.entries ++ s.epochs.log, pages := r.pages ++ s.epochs.pages } ∧
      t.jrn = { s.jrn with log := s.jrn.log.filter (fun x => decide (x.pos ≠ r.pos)) } ∧ t.bit (fltKey R.FLT_STATUS) 3 = false ∧
      t.fld (fltKey R.FLT_STATUS) 5 3 = 2 ∧
      t.rd (fsKey 2 R.FLT_SRC_CNT) = min (s.rd (fsKey 2 R.FLT_SRC_CNT) + 1) 0xFFFFFFFF ∧
      t.rd (fltKey R.FLT_EPOCH) = s.rd (fltKey R.FLT_EPOCH) := by
  obtain ⟨hbusy, hlast⟩ := ((s.tick dt).epochWithdrawn r).epochDone_shows (v := 2) (by decide)
  have hrd : ((s.tick dt).epochWithdrawn r).bus.Ranged := hr
  have hdone := (((s.tick dt).epochWithdrawn r).epochDone_quiet 2).ranged hrd
  have hcnt : ∀ u, (((s.tick dt).epochWithdrawn r).epochDone 2 |>.fault 2 u).rd (fsKey 2 R.FLT_SRC_CNT) = _ :=
    fun u => (Bus.fault_shows hdone u (by decide) (by decide)).1
  refine ⟨_, exec_globalEpochAbort_acts hrun hl ht, ?_, ?_, ?_, ?_, ?_, ?_⟩
  · rw [State.fault_epochs, State.epochs_epochDone]
    rfl
  · rw [State.fault_jrn, State.jrn_epochDone]
    rfl
  · rw [State.bit_fltStatus_fault _ _ _ (by decide), hbusy]
  · rw [State.fld_fltStatus_fault _ _ _ (by decide), hlast]
  · have hne : fsKey 2 R.FLT_SRC_CNT ≠ fltKey R.FLT_STATUS := fsKey_ne_rk 2 _ (by decide) (by decide)
    rw [hcnt, ← State.rd_eq, State.rd_epochDone_ne _ 2 hne, State.rd_epochWithdrawn]
    rfl
  · refine (State.rd_fault_ctl _ 2 _ (p := fltPage) (off := R.FLT_EPOCH)).trans ?_
    exact (State.rd_epochDone_ne _ 2 (by decide)).trans (State.rd_epochWithdrawn _ _ _)

end

end

/-! ### The journal's room -/

section
variable {dt n : Nat} {s : State} {r : JRec} {rest : List JRec}

/-- The oldest records leave the log. -/
def State.logDropped (s : State) (n : Nat) : State := { s with jrn := { s.jrn with log := s.jrn.log.drop n } }

theorem exec_journalLogRoom_eq {old : List JRec} (h : (s.jrn.log.takeWhile (·.durable)).take n = old) : exec (.journalLogRoom dt n) s =
    .next (((old.foldl State.absorb (s.tick dt)).logDropped old.length).serveWaits
      ((old.foldl State.absorb (s.tick dt)).logDropped old.length).jrn.waits.length) := by
  subst h
  rfl

theorem State.jrn_absorb (a : State) : (a.absorb r).jrn = { a.jrn with home := r.entries.foldl (fun m e => m.set e.1 e.2) a.jrn.home } := by
  unfold State.absorb
  dsimp only
  split <;> rfl

theorem State.rd_absorb (a : State) : (a.absorb r).rd (fltKey R.FLT_HOME_EPOCH) =
    if r.kind = 1 then r.epoch % 2 ^ 32 else a.rd (fltKey R.FLT_HOME_EPOCH) := by
  unfold State.absorb
  dsimp only
  split
  · exact State.rd_wr _ _ _
  · rfl

theorem State.jrn_logDropped (a : State) (m : Nat) : (a.logDropped m).jrn = { a.jrn with log := a.jrn.log.drop m } := rfl

theorem State.rd_logDropped (a : State) (m k : Nat) : (a.logDropped m).rd k = a.rd k := rfl

theorem exec_journalLogRoom_one (hl : s.jrn.log = r :: rest) (hd : r.durable = true) (hw : s.jrn.waits = []) :
    ∃ t, exec (.journalLogRoom dt 1) s = .next t ∧
      t.jrn = { s.jrn with log := rest, home := r.entries.foldl (fun m e => m.set e.1 e.2) s.jrn.home } ∧
      t.rd (fltKey R.FLT_HOME_EPOCH) = (if r.kind = 1 then r.epoch % 2 ^ 32 else s.rd (fltKey R.FLT_HOME_EPOCH)) := by
  have hold : (s.jrn.log.takeWhile (·.durable)).take 1 = [r] := by
    rw [hl, List.takeWhile_cons_of_pos hd]
    rfl
  have hjrn : (((s.tick dt).absorb r).logDropped 1).jrn =
      { s.jrn with log := rest, home := r.entries.foldl (fun m e => m.set e.1 e.2) s.jrn.home } := by
    rw [State.jrn_logDropped, State.jrn_absorb, State.tick_jrn, hl]
    rfl
  have hserve : (((s.tick dt).absorb r).logDropped 1).serveWaits (((s.tick dt).absorb r).logDropped 1).jrn.waits.length =
      ((s.tick dt).absorb r).logDropped 1 := by
    rw [hjrn, hw]
    rfl
  refine ⟨((s.tick dt).absorb r).logDropped 1, (exec_journalLogRoom_eq hold).trans (congrArg Host.Outcome.next hserve), hjrn, ?_⟩
  rw [State.rd_logDropped, State.rd_absorb]
  rfl

theorem exec_journalLogRoom_waits (hl : s.jrn.log = r :: rest) (hd : r.durable = false) (hw : s.jrn.waits = []) :
    exec (.journalLogRoom dt n) s = .next (s.tick dt) := by
  have hold : (s.jrn.log.takeWhile (·.durable)).take n = [] := by
    rw [hl, List.takeWhile_cons_of_neg (by rw [hd]; decide), List.take_nil]
  refine (exec_journalLogRoom_eq hold).trans (congrArg Host.Outcome.next ?_)
  have hwaits : ((s.tick dt).logDropped 0).jrn.waits = [] := hw
  show ((s.tick dt).logDropped 0).serveWaits ((s.tick dt).logDropped 0).jrn.waits.length = s.tick dt
  rw [hwaits]
  rfl

end

/-! ### Records that become durable -/

/-- A record that becomes durable now. -/
def JRec.made (now : Nat) (r : JRec) : JRec := { r with durable := true, durAt := if r.durable then r.durAt else now }

/-- The record of an epoch bears tE. -/
def JRec.stamped (w : Nat) (r : JRec) : JRec := { r with time := if r.kind = 1 then w else r.time }

theorem durableTo_append (now w : Nat) {pos : Nat} {pre post : List JRec} {r : JRec} (hpre : ∀ x ∈ pre, x.pos ≠ pos) (hr : r.pos = pos) :
    durableTo now w pos (pre ++ r :: post) = pre.map (JRec.made now) ++ ((r.made now).stamped w) :: post := by
  induction pre with
  | nil => exact if_pos hr
  | cons x pre ih =>
    obtain ⟨hx, hrest⟩ := List.forall_mem_cons.mp hpre
    exact (if_neg hx).trans (congrArg ((x.made now) :: ·) (ih hrest))

section
variable {dt pos : Nat} {s : State}

theorem exec_journalRecordDurable_none (h : ∀ x ∈ s.jrn.log, x.pos ≠ pos) : exec (.journalRecordDurable dt pos) s = .next (s.tick dt) := by
  have hfind : (s.tick dt).jrn.log.find? (fun r => decide (r.pos = pos)) = none :=
    List.find?_eq_none.mpr fun x hx => by simpa using h x hx
  show execJournalRecordDurable dt pos s = _
  unfold execJournalRecordDurable
  dsimp only
  rw [hfind]

variable {pre post : List JRec} {r : JRec} (hl : s.jrn.log = pre ++ r :: post) (hpre : ∀ x ∈ pre, x.pos ≠ pos) (hr : r.pos = pos)
include hl hpre hr

theorem exec_journalRecordDurable_eq : exec (.journalRecordDurable dt pos) s = .next (
    if r.kind = 1 ∨ pre.any (fun x => decide (x.kind = 1) && !x.durable) = true then s.tick dt else (s.tick dt).logDurable pos) := by
  have hlog : (s.tick dt).jrn.log = pre ++ r :: post := hl
  have hfind : (s.tick dt).jrn.log.find? (fun r => decide (r.pos = pos)) = some r := by
    have hnone : pre.find? (fun r => decide (r.pos = pos)) = none := List.find?_eq_none.mpr fun x hx => by simpa using hpre x hx
    rw [hlog, List.find?_append, hnone, List.find?_cons, decide_eq_true hr]
    rfl
  have hbefore : (s.tick dt).jrn.log.takeWhile (fun r => decide (r.pos ≠ pos)) = pre := by
    rw [hlog, List.takeWhile_append_of_pos fun x hx => decide_eq_true (hpre x hx), List.takeWhile_cons_of_neg (by simpa using hr),
      List.append_nil]
  show execJournalRecordDurable dt pos s = _
  unfold execJournalRecordDurable
  dsimp only
  rw [hfind, hbefore]

theorem exec_journalRecordDurable_epoch (hk : r.kind = 1) : exec (.journalRecordDurable dt pos) s = .next (s.tick dt) :=
  (exec_journalRecordDurable_eq hl hpre hr).trans (congrArg Host.Outcome.next (if_pos (.inl hk)))

theorem exec_journalRecordDurable_shows (hk : r.kind ≠ 1) (hepochs : ∀ x ∈ pre, x.kind = 1 → x.durable = true) :
    ∃ t, exec (.journalRecordDurable dt pos) s = .next t ∧
      t.bus = (s.tick dt).bus ∧ ∃ pre2 r2, t.jrn.log = pre2 ++ r2 :: post ∧ pre2.length = pre.length ∧ r2.durable = true ∧
        r2.entries = r.entries ∧ (∀ x ∈ pre2, x.durable = true) ∧ pre2.map (·.entries) = pre.map (·.entries) := by
  have hgo : ¬(r.kind = 1 ∨ pre.any (fun x => decide (x.kind = 1) && !x.durable) = true) := by
    simp only [List.any_eq_true, Bool.and_eq_true, decide_eq_true_eq, Bool.not_eq_true']
    rintro (h | ⟨x, hx, h1, hnot⟩)
    · exact hk h
    · exact absurd ((hepochs x hx h1).symm.trans hnot) (by decide)
  have hlog : ((s.tick dt).logDurable pos).jrn.log = durableTo (s.tick dt).bus.now (s.tick dt).bus.w250 pos s.jrn.log := rfl
  refine ⟨(s.tick dt).logDurable pos, (exec_journalRecordDurable_eq hl hpre hr).trans (congrArg Host.Outcome.next (if_neg hgo)), rfl,
    pre.map (JRec.made (s.tick dt).bus.now), (r.made (s.tick dt).bus.now).stamped (s.tick dt).bus.w250, ?_, List.length_map _, rfl, rfl,
    fun x hx => ?_, ?_⟩
  · rw [hlog, hl, durableTo_append _ _ hpre hr]
  · obtain ⟨y, -, rfl⟩ := List.mem_map.mp hx
    rfl
  · rw [List.map_map]
    rfl

end

/-! ### Power failure -/

section
variable {dt : Nat} {s : State}

/-- A power failure noticed: PWR_FAIL and FS6. -/
def State.failNoticed (s : State) : State := (s.setBit (fltKey R.FLT_STATUS) 1 true).fault 6 { page := fltPage }

theorem State.failNoticed_shows (s : State) : s.failNoticed.pwrFail = true ∧ s.failNoticed.updState = s.updState ∧
    s.failNoticed.upd = s.upd ∧ s.failNoticed.bist = s.bist ∧ s.failNoticed.comp = s.comp := by
  refine ⟨?_, ?_, ?_, ?_, ?_⟩
  · exact (State.bit_fltStatus_fault _ 6 _ (by decide)).trans (s.bit_setBit (fltKey R.FLT_STATUS) 1 true (by decide))
  · refine State.fld_of_rd ((State.rd_fault_ctl _ 6 _ (p := updPage) (off := R.UPD_STATUS)).trans ?_) 0 3
    exact s.rd_setBit_ne (fltKey R.FLT_STATUS) 1 true _ (by decide)
  · rw [State.failNoticed, State.fault_upd, State.setBit_upd]
  · rw [State.failNoticed, State.fault_bist, State.setBit_bist]
  · rw [State.failNoticed, State.fault_comp, State.setBit_comp]

/-- What a power failure ends: self-tests and joins. -/
def State.runsStop (s : State) : State := (s.bist.runs.cells.map (·.1)).foldl State.runStop s

/-- What a power failure ends: layout epochs in STATE 2. -/
def State.layoutsStop (s : State) : State :=
  ((s.comp.epochs.cells.map (·.1)).filter (fun g => decide (s.epochState g = 2))).foldl (fun a g => (a.setEpoch g none).epochStatus g 0) s

theorem State.runsStop_none (s : State) (h : s.bist.runs = SMap.empty) : s.runsStop = s := by
  unfold State.runsStop
  rw [h]
  rfl

theorem State.layoutsStop_none (s : State) (h : s.comp.epochs = SMap.empty) : s.layoutsStop = s := by
  unfold State.layoutsStop
  rw [h]
  rfl

theorem exec_powerFailWarning_eq : exec (.powerFailWarning dt) s = .next (
    if (s.tick dt).failNoticed.runsStop.layoutsStop.updState = 5 ∧ (s.tick dt).failNoticed.runsStop.layoutsStop.upd.step < 4 then
      (s.tick dt).failNoticed.runsStop.layoutsStop.updAbandon.keeperJoin (s.tick dt).failNoticed.runsStop.layoutsStop.otherPair
    else (s.tick dt).failNoticed.runsStop.layoutsStop) := rfl

theorem exec_powerFailWarning_idle (hb : s.bist.runs = SMap.empty) (hc : s.comp.epochs = SMap.empty) (hu : s.updState ≠ 5 ∨ 4 ≤ s.upd.step) :
    exec (.powerFailWarning dt) s = .next (s.tick dt).failNoticed := by
  obtain ⟨-, hstate, hupd, hbist, hcomp⟩ := (s.tick dt).failNoticed_shows
  have hstop : (s.tick dt).failNoticed.runsStop.layoutsStop = (s.tick dt).failNoticed := by
    rw [State.runsStop_none _ (by rw [hbist]; exact hb), State.layoutsStop_none _ (by rw [hcomp]; exact hc)]
  have hgo : ¬((s.tick dt).failNoticed.updState = 5 ∧ (s.tick dt).failNoticed.upd.step < 4) := by
    rw [hstate, hupd]
    intro h
    exact hu.elim (fun hne => hne h.1) fun hle => absurd h.2 (Nat.not_lt.mpr hle)
  refine exec_powerFailWarning_eq.trans (congrArg Host.Outcome.next ?_)
  rw [hstop]
  exact if_neg hgo

theorem exec_powerFailFlushed_not (h : s.pwrFail = false) : exec (.powerFailFlushed dt) s = .next (s.tick dt) := by
  refine congrArg Host.Outcome.next (if_pos ?_)
  rw [show (s.tick dt).pwrFail = false from h]
  rfl

/-- A record that power failure finds not durable becomes durable. -/
def JRec.flushed (now : Nat) (r : JRec) : JRec := if r.durable then r else { r with durable := true, durAt := now }

theorem JRec.durable_flushed (now : Nat) (r : JRec) : (r.flushed now).durable = true := by
  unfold JRec.flushed
  split
  · assumption
  · rfl

theorem JRec.entries_flushed (now : Nat) (r : JRec) : (r.flushed now).entries = r.entries := by
  unfold JRec.flushed
  split <;> rfl

theorem exec_powerFailFlushed_shows (h : s.pwrFail = true) (hw : s.jrn.waits = []) : ∃ t, exec (.powerFailFlushed dt) s = .next t ∧
    t.jrn.closed = true ∧ (∀ r ∈ t.jrn.log, r.durable = true) ∧
    t.jrn.log.map (·.entries) = (s.jrn.log.filter (fun r => r.durable || decide (r.kind ≠ 1))).map (·.entries) ∧
    t.bus = (s.tick dt).bus := by
  have hgo : ¬(!(s.tick dt).pwrFail) = true := by
    rw [show (s.tick dt).pwrFail = true from h]
    decide
  have hwaits : (s.tick dt).jrn.waits.foldl State.dropWait (s.tick dt) = s.tick dt := by
    rw [State.tick_jrn, hw]
    rfl
  refine ⟨{ s.tick dt with jrn := { s.jrn with
      waits := []
      closed := true
      log := (s.jrn.log.filter (fun r => r.durable || decide (r.kind ≠ 1))).map (JRec.flushed (s.tick dt).bus.now) } }, ?_, rfl,
    fun r hr => ?_, ?_, rfl⟩
  · refine congrArg Host.Outcome.next ((if_neg hgo).trans ?_)
    rw [hwaits]
    rfl
  · obtain ⟨x, -, rfl⟩ := List.mem_map.mp hr
    exact x.durable_flushed _
  · rw [List.map_map]
    exact List.map_congr_left fun x _ => x.entries_flushed _

/-- The registers as power is back. -/
def State.failReleased (s : State) : State := (s.setBit (fltKey R.FLT_STATUS) 1 false).setBit (fsKey 6 R.FLT_SRC_STATUS) 10 false

theorem State.failReleased_shows (s : State) : s.failReleased.pwrFail = false ∧ s.failReleased.bit (fsKey 6 R.FLT_SRC_STATUS) 10 = false ∧
    s.bus.Reported s.failReleased.bus [fltKey R.FLT_STATUS, fsKey 6 R.FLT_SRC_STATUS] := by
  have hne : fltKey R.FLT_STATUS ≠ fsKey 6 R.FLT_SRC_STATUS := (fsKey_ne_rk 6 _ (by decide) (by decide)).symm
  refine ⟨?_, State.bit_setBit _ (fsKey 6 R.FLT_SRC_STATUS) 10 false (by decide), ?_⟩
  · exact (State.bit_of_rd (State.rd_setBit_ne _ _ _ _ _ hne) 1).trans (s.bit_setBit (fltKey R.FLT_STATUS) 1 false (by decide))
  · exact (((State.After.refl s _).setBit _ _ _ List.mem_cons_self).setBit _ _ _ (List.mem_cons_of_mem _ List.mem_cons_self)).2

theorem exec_powerFailRelease_shows : ∃ t, exec (.powerFailRelease dt) s = .next t ∧ t.pwrFail = false ∧ t.jrn.closed = false ∧
    t.bit (fsKey 6 R.FLT_SRC_STATUS) 10 = false ∧ (s.tick dt).bus.Reported t.bus [fltKey R.FLT_STATUS, fsKey 6 R.FLT_SRC_STATUS] := by
  obtain ⟨hfail, hasserted, hrep⟩ := (s.tick dt).failReleased_shows
  exact ⟨_, rfl, hfail, rfl, hasserted, hrep⟩

theorem exec_supplyUndervoltage_shows : (s.boot.porst = true → exec (.supplyUndervoltage dt true) s = .next (s.tick dt)) ∧
    (s.boot.porst = false → exec (.supplyUndervoltage dt true) s =
      .next { (s.tick dt).deviceReset with boot := { (s.tick dt).deviceReset.boot with porst := true } }) ∧
    exec (.supplyUndervoltage dt false) s = .next { s.tick dt with boot := { s.boot with porst := false } } :=
  ⟨fun h => congrArg Host.Outcome.next (if_pos h), fun h => congrArg Host.Outcome.next (if_neg fun hp => absurd (h.symm.trans hp) (by decide)),
    rfl⟩

end

/-! ### The statement -/

/-- Settles O56: each clause is a branch of the epochs', the journal's or the supply's operations; FLT_STATUS is followed under the
detections that they make. -/
theorem epochsAndTheJournalKeepWhatIsDurable : Obligations.EpochsAndTheJournalKeepWhatIsDurable := by
  refine ⟨fun dt v s ha hup => exec_epochRequest_owner v ha hup, fun dt vi v s hvi ha hup => exec_epochRequest_denied hvi ha hup,
    fun dt s hdue => congrArg Host.Outcome.next (State.onExpiry_due _ _ _ hdue),
    fun dt es s hrun hw hp hroom hes => exec_globalEpochStart_shows hrun hw hp hroom hes, fun dt s h => exec_globalEpochStart_none h,
    fun dt s hrun hw hp => exec_globalEpochStart_refused_shows hrun hw hp, fun s h ha => State.epochWanted_sealed h ha,
    fun dt s r hrun hl ht hp ho => ?_, fun dt s r hrun hl ht hp ho => ?_, fun dt s r hrun h => exec_globalEpochDurable_waits hrun h,
    fun s r _ ho hp hu => State.epochLive_shows ho hp hu, fun dt s r _ hrun hl => exec_globalEpochAonApply_shows hrun hl,
    fun s ops hr h => State.dkyApplied_shows hr h,
    fun dt s r h => h.elim exec_globalEpochAonApply_idle fun h => exec_globalEpochAonApply_not h.1 h.2,
    fun dt s r hr hrun hl ht => exec_globalEpochAbort_shows hrun hr hl ht, fun dt s r hrun h => exec_globalEpochAbort_not hrun h,
    fun dt s r rest hl hd hw => exec_journalLogRoom_one hl hd hw, fun dt n s r rest hl hd hw => exec_journalLogRoom_waits hl hd hw,
    fun dt pos s pre post r hl hpre hr => ⟨exec_journalRecordDurable_shows hl hpre hr, exec_journalRecordDurable_epoch hl hpre hr⟩,
    fun dt pos s h => exec_journalRecordDurable_none h, fun dt s s2 hs2 hb hc hu => ?_,
    fun dt s h hw => exec_powerFailFlushed_shows h hw, fun dt s h => exec_powerFailFlushed_not h, fun dt s => exec_powerFailRelease_shows,
    fun dt s => ⟨_, rfl, rfl, rfl⟩, fun dt s => exec_supplyUndervoltage_shows⟩
  · rw [exec_globalEpochDurable_live hrun hl ht hp, if_pos (List.isEmpty_iff.mpr ho)]
  · rw [exec_globalEpochDurable_live hrun hl ht hp, if_neg (by rwa [List.isEmpty_iff])]
  · subst hs2
    exact ⟨exec_powerFailWarning_idle hb hc hu, (s.tick dt).failNoticed_shows.1⟩

end Sys2Proof.Machine
end

section
-- One theorem after another: each waiting thread takes 256 MB of the memory the check allows.
set_option Elab.async false
/-! SUPPORT. What the reporting of events leaves of a register, by its offset: of a page a report writes EVT_PEND, PAGE_STATUS, VI_STATUS and
the queue's registers, and of a keeper's KPR_STATUS the overflow bit. No grant table need be in range. -/

namespace Sys2Proof.Machine

/-- A bit of a register that no report writes. -/
def Unreported (k i : Nat) : Prop :=
  keyOff k ∉ [hdrPageStatus, hdrEvtPend, R.VI_STATUS, R.VI_EVQ_TAIL, R.VI_EVQ_LOST] ∧ (keyOff k = R.KPR_STATUS → i ≠ 4)

theorem unreported_rk {p off i : Nat} (ho : off < 4096 := by decide)
    (h : off ∉ [hdrPageStatus, hdrEvtPend, R.VI_STATUS, R.VI_EVQ_TAIL, R.VI_EVQ_LOST] := by decide)
    (h4 : off = R.KPR_STATUS → i ≠ 4 := by decide) : Unreported (rk p off) i := by
  unfold Unreported
  rw [keyOff_rk p off ho]
  exact ⟨h, h4⟩

/-- One bit of a register stays. -/
def Bus.BitKept (k i : Nat) (b c : Bus) : Prop := c.bit k i = b.bit k i

namespace Bus.BitKept

variable {k i : Nat} {b c d : Bus}

theorem refl (b : Bus) : Bus.BitKept k i b b := rfl

theorem trans (h : Bus.BitKept k i b c) (h' : Bus.BitKept k i c d) : Bus.BitKept k i b d := Eq.trans h' h

theorem regs (h : Bus.BitKept k i b c) (hr : d.regs = c.regs) : Bus.BitKept k i b d :=
  h.trans (congrArg (bitOf i) (Bus.rd_of_regs hr k))

theorem stepSeq (h : Bus.BitKept k i b c) (vi : Nat) : Bus.BitKept k i b (c.stepSeq vi) := h.regs rfl

theorem emit (h : Bus.BitKept k i b c) (o : Out) : Bus.BitKept k i b (c.emit o) := h.regs rfl

theorem wr (h : Bus.BitKept k i b c) {j : Nat} (v : Nat) (hj : k ≠ j) : Bus.BitKept k i b (c.wr j v) :=
  h.trans (congrArg (bitOf i) (c.rd_wr_ne j v k hj))

theorem setBit (h : Bus.BitKept k i b c) {j : Nat} (n : Nat) (v : Bool) (hj : k ≠ j) : Bus.BitKept k i b (c.setBit j n v) := h.wr _ hj
theorem addSat (h : Bus.BitKept k i b c) {j : Nat} (n : Nat) (hj : k ≠ j) : Bus.BitKept k i b (c.addSat j n) := h.wr _ hj
theorem addWrap (h : Bus.BitKept k i b c) {j : Nat} (n : Nat) (hj : k ≠ j) : Bus.BitKept k i b (c.addWrap j n) := h.wr _ hj

/-- The bit next to one that is set. -/
theorem setOther (h : Bus.BitKept k i b c) {j n : Nat} (v : Bool) (hn : n < 32) (hj : k = j → i ≠ n) :
    Bus.BitKept k i b (c.setBit j n v) := by
  by_cases hk : k = j
  · subst hk
    exact h.trans ((congrArg (bitOf i) (c.rd_setBit k n v hn)).trans (bitOf_setBitOf_ne i n v _ (hj rfl)))
  · exact h.setBit n v hk

theorem foldl {β : Type} {f : Bus → β → Bus} (h : Bus.BitKept k i b c) (l : List β) (hf : ∀ a : Bus, ∀ x, Bus.BitKept k i a (f a x)) :
    Bus.BitKept k i b (l.foldl f c) :=
  List.foldlRecOn (motive := fun a => Bus.BitKept k i b a) l f h fun _ ha x _ => ha.trans (hf _ x)

end Bus.BitKept

section
variable {k i : Nat} (hk : Unreported k i) (b : Bus)
include hk

theorem Unreported.ne {p off : Nat} (h : off ∈ [hdrPageStatus, hdrEvtPend, R.VI_STATUS, R.VI_EVQ_TAIL, R.VI_EVQ_LOST] := by decide)
    (ho : off < 4096 := by decide) : k ≠ rk p off := fun he => hk.1 (by rw [he, keyOff_rk p off ho]; exact h)

theorem Unreported.ne_evKey (page who : Nat) : k ≠ evKey page hdrEvtPend who := fun he =>
  hk.1 (by rw [he, keyOff_evKey page hdrEvtPend who (by decide)]; decide)

theorem Unreported.other {p : Nat} : k = rk p R.KPR_STATUS → i ≠ 4 := fun he => hk.2 (by rw [he, keyOff_rk p _ (by decide)])

theorem Bus.kept_keeperStore (r : EvRec) : Bus.BitKept k i b (b.keeperStore r).1 := by
  unfold Bus.keeperStore
  extract_lets p tail head a m
  clear_value tail head a m
  split
  · exact ((Bus.BitKept.refl b).addSat 1 hk.ne).setOther true (by decide) hk.other
  · exact (((Bus.BitKept.refl b).regs (d := { b with kdmem := m }) rfl).addWrap 1 hk.ne).regs rfl

omit hk in
theorem Bus.kept_fireRoutes (page evn : Nat) : Bus.BitKept k i b (b.fireRoutes page evn) :=
  (Bus.BitKept.refl b).foldl _ fun a _ => (Bus.BitKept.refl a).regs rfl

theorem Bus.kept_raiseOverflow : Bus.BitKept k i b b.raiseOverflow := by
  have h1 := ((Bus.BitKept.refl b).setBit 3 true (hk.ne (p := vimPage) (off := hdrEvtPend))).trans (Bus.kept_fireRoutes (k := k) (i := i) _ vimPage 7)
  unfold Bus.raiseOverflow
  dsimp only
  split
  · exact .refl b
  · split
    · exact (h1.stepSeq 0).trans (Bus.kept_keeperStore hk _ _)
    · exact h1

theorem Bus.kept_toKeeper (r : EvRec) : Bus.BitKept k i b (b.toKeeper r) := by
  have h1 : Bus.BitKept k i b ((b.stepSeq 0).keeperStore r).1 := ((Bus.BitKept.refl b).stepSeq 0).trans (Bus.kept_keeperStore hk _ r)
  unfold Bus.toKeeper
  dsimp only
  split
  · exact h1.trans (Bus.kept_raiseOverflow hk _)
  · exact h1

theorem Bus.kept_hostStore (vi : Nat) (r : EvRec) : Bus.BitKept k i b (b.hostStore vi r).1 := by
  unfold Bus.hostStore
  dsimp only
  split
  · exact (((Bus.BitKept.refl b).addSat 1 (hk.ne (off := R.VI_EVQ_LOST))).setBit 3 true (hk.ne (off := R.VI_STATUS))).trans
      (Bus.kept_raiseOverflow hk _)
  · exact (((((Bus.BitKept.refl b).emit _).emit _).emit _).emit _).addWrap 1 (hk.ne (off := R.VI_EVQ_TAIL))

omit hk in
theorem Bus.kept_msixFor (vi evn : Nat) : Bus.BitKept k i b (b.msixFor vi evn).1 := by
  unfold Bus.msixFor
  dsimp only
  split
  · split
    · exact (Bus.BitKept.refl b).regs rfl
    · exact .refl b
  · exact .refl b

theorem Bus.kept_viVectorError (vi : Nat) : Bus.BitKept k i b (b.viVectorError vi) := by
  unfold Bus.viVectorError
  extract_lets kv b1 q
  have h1 : Bus.BitKept k i b q.1 :=
    (((Bus.BitKept.refl b).setBit 2 true (hk.ne (off := hdrPageStatus))).stepSeq vi).trans (Bus.kept_hostStore hk _ vi _)
  split
  · exact .refl b
  · split
    · exact h1.trans (Bus.kept_msixFor _ vi 5)
    · exact h1

theorem Bus.kept_toHost (vi evn : Nat) (r : EvRec) : Bus.BitKept k i b (b.toHost vi evn r) := by
  unfold Bus.toHost
  extract_lets q q2
  have h1 : Bus.BitKept k i b q.1 := ((Bus.BitKept.refl b).stepSeq vi).trans (Bus.kept_hostStore hk _ vi r)
  have h2 : Bus.BitKept k i b q2.1 := h1.trans (Bus.kept_msixFor _ vi evn)
  split
  · split
    · split
      · exact h2.trans (Bus.kept_viVectorError hk _ vi)
      · exact h2
    · exact h1
  · exact .refl b

theorem Bus.kept_toNet (vi : Nat) (r : EvRec) : Bus.BitKept k i b (b.toNet vi r) := by
  have h1 : Bus.BitKept k i b (b.stepSeq vi) := (Bus.BitKept.refl b).stepSeq vi
  unfold Bus.toNet
  dsimp only
  split
  · exact h1.emit _
  · split
    · exact h1.regs rfl
    · exact ((h1.addSat 1 (hk.ne (off := R.VI_EVQ_LOST))).setBit 3 true (hk.ne (off := R.VI_STATUS))).trans (Bus.kept_raiseOverflow hk _)

theorem Bus.kept_deliver (vi page bit evn : Nat) (entry : Option Nat) : Bus.BitKept k i b (b.deliver vi page bit evn entry) := by
  unfold Bus.deliver
  dsimp only
  split
  · exact Bus.kept_toKeeper hk b _
  · split
    · exact Bus.kept_toHost hk b vi evn _
    · exact Bus.kept_toNet hk b vi _

theorem Bus.kept_raiseAt (page phys bit who : Nat) (extra : List Nat) (entry : Option Nat) :
    Bus.BitKept k i b (b.raiseAt page phys bit who extra entry) := by
  have h1 : Bus.BitKept k i b ((b.setBit (evKey page hdrEvtPend who) bit true).fireRoutes phys (eventNumber page bit)) :=
    ((Bus.BitKept.refl b).setBit bit true (hk.ne_evKey page who)).trans (Bus.kept_fireRoutes _ _ _)
  unfold Bus.raiseAt
  dsimp only
  split
  · exact .refl b
  · split
    · exact h1.foldl _ fun a vi => Bus.kept_deliver hk a vi _ _ _ _
    · exact h1

/-- A bit that no report writes stays under an event. -/
theorem State.bit_raise_kept (s : State) (page bit : Nat) : (s.raise page bit).bit k i = s.bit k i :=
  Bus.kept_raiseAt hk s.bus page page bit _ [] none

theorem State.bit_raiseFor_kept (s : State) (page bit who : Nat) (extra : List Nat) :
    (s.on (·.raiseFor page bit who extra)).bit k i = s.bit k i :=
  Bus.kept_raiseAt hk s.bus page page bit who extra none

end

theorem State.fld_raise_kept (s : State) (page bit : Nat) {k lo w : Nat} (hk : ∀ i, i < w → Unreported k (lo + i)) :
    (s.raise page bit).fld k lo w = s.fld k lo w :=
  fieldOf_congr lo w _ _ fun i hi => by
    rw [← bitOf_eq_testBit, ← bitOf_eq_testBit]
    exact s.bit_raise_kept (hk i hi) page bit

end Sys2Proof.Machine
end

section
-- One theorem after another: each waiting thread takes 256 MB of the memory the check allows.
set_option Elab.async false
/-! SUPPORT. Starts, service ready, the random number generator and the keeper's debug halt (R458 to R471). The statement on them,
settled. -/

namespace Sys2Proof.Machine

/-! ### What brings a start about -/

section
variable {dt straps : Nat} {flash : Option Flash} {failed : List (Nat × Nat)} {s : State}

theorem exec_startSequence_shows :
    (s.boot.porst = true ∨ s.begun = false → exec (.startSequence dt .porst flash straps failed) s =
      .next ((s.tick dt).start flash straps failed)) ∧
    (s.boot.porst = false → s.begun = true → exec (.startSequence dt .porst flash straps failed) s = .next (s.tick dt)) ∧
    (s.pwrState = 4 → exec (.startSequence dt .wakeFromOff flash straps failed) s =
      .next ((s.tick dt).deviceReset.start flash straps failed)) ∧
    (s.pwrState ≠ 4 → exec (.startSequence dt .wakeFromOff flash straps failed) s = .next (s.tick dt)) ∧
    (s.rung5 = true → exec (.startSequence dt .rung5 flash straps failed) s =
      .next ((s.tick dt).deviceReset.start flash straps failed)) := by
  have hbegun : (s.tick dt).begun = s.begun := rfl
  have hporst : (s.tick dt).boot.porst = s.boot.porst := rfl
  refine ⟨fun h => congrArg Host.Outcome.next (if_pos ?_), fun hp hb => congrArg Host.Outcome.next (if_neg ?_),
    fun h => congrArg Host.Outcome.next (if_pos h), fun h => congrArg Host.Outcome.next (if_neg h),
    fun h => congrArg Host.Outcome.next (if_pos h)⟩
  · rw [hbegun, hporst]
    rcases h with h | h <;> rw [h]
    · rfl
    · exact Bool.or_true _
  · rw [hbegun, hporst, hp, hb]
    decide

end

/-! ### The steps of a start -/

section
variable (s : State)

theorem State.start_none {flash : Option Flash} {straps : Nat} {failed : List (Nat × Nat)}
    (h : (((failed.filter (fun f => decide (f.1 = kprBst 0) || decide (f.1 = kprBst 1))).foldl State.bootFail
      (s.startBegin flash straps)).startPair failed) = none) : s.start flash straps failed =
      ((failed.filter (fun f => decide (f.1 = kprBst 0) || decide (f.1 = kprBst 1))).foldl State.bootFail (s.startBegin flash straps)).stopStart := by
  unfold State.start
  dsimp only
  rw [h]

theorem State.boot_limpEvent : s.limpEvent.boot = s.boot :=
  State.foldl_keeps State.boot _ _ (fun a ch _ => a.raiseAlso_boot (ldsPage ch) 6 [0]) s

theorem State.boot_limpBegin : s.limpBegin.boot = s.boot := by
  cases hl : s.limp with
  | true => rw [s.limpBegin_of_limp hl]
  | false =>
    rw [s.limpBegin_of_not_limp hl, State.boot_limpEvent, State.setBit_boot]
    rfl

theorem State.grantsOn_limpEvent : s.limpEvent.bus.grantsOn = s.bus.grantsOn :=
  State.foldl_keeps (fun a : State => a.bus.grantsOn) _ _ (fun a _ _ => (Bus.held_raiseAt a.bus _ _ _ _ _ _).grantsOn) s

theorem State.grantsOn_limpBegin : s.limpBegin.bus.grantsOn = s.bus.grantsOn := by
  cases hl : s.limp with
  | true => rw [s.limpBegin_of_limp hl]
  | false =>
    rw [s.limpBegin_of_not_limp hl, State.grantsOn_limpEvent]
    rfl

/-- The flash of a start. -/
def State.flashed (s : State) (flash : Option Flash) : State := (s.ifThen (!s.limp) (·.limpBegin)).modUpd (fun u => { u with flash := flash.getD u.flash })

theorem State.startBegin_eq (flash : Option Flash) (straps : Nat) : s.startBegin flash straps =
    { s.flashed flash with boot := { (s.flashed flash).boot with
        porst := false, straps := straps % 16, entropyAt := (s.flashed flash).bus.now + clkMs 2 } } := rfl

theorem State.boot_flashed (flash : Option Flash) : (s.flashed flash).boot = s.boot := by
  unfold State.flashed
  cases hl : s.limp
  · exact s.boot_limpBegin
  · rfl

theorem State.lastPair_startBegin (flash : Option Flash) (straps : Nat) : (s.startBegin flash straps).boot.lastPair = s.boot.lastPair := by
  rw [s.startBegin_eq, s.boot_flashed]

theorem State.grantsOn_startBegin (flash : Option Flash) (straps : Nat) : (s.startBegin flash straps).bus.grantsOn = s.bus.grantsOn := by
  show (s.flashed flash).bus.grantsOn = _
  unfold State.flashed
  cases hl : s.limp
  · exact s.grantsOn_limpBegin
  · rfl

theorem State.boot_setKpr (p role : Nat) : (s.setKpr p role).boot = s.boot := by
  unfold State.setKpr
  split <;> rfl

theorem State.grantsOn_setKpr (p role : Nat) : (s.setKpr p role).bus.grantsOn = s.bus.grantsOn := by
  unfold State.setKpr
  split
  · rfl
  · exact (State.held_raise _ _ _).grantsOn

theorem State.boot_bootMark (page sub : Nat) : (s.bootMark page sub).boot = s.boot := by
  unfold State.bootMark
  dsimp only
  rw [State.raise_boot, State.fault_boot, State.setBit_boot]

theorem State.grantsOn_bootMark (page sub : Nat) : (s.bootMark page sub).bus.grantsOn = s.bus.grantsOn := by
  unfold State.bootMark
  dsimp only
  rw [(State.held_raise _ _ _).grantsOn, State.fault_bus]
  exact (Bus.fault_frame _ _ _).2.2.2.1

theorem bootUnit_kprBst (p : Nat) (hp : p < 2) : bootUnit (kprBst p) 0 = some (.keeper p) := by
  unfold bootUnit kprBst
  rw [pageIndex_bst _ (by omega), blockOfPage_bst _ (by omega)]
  refine (if_neg (by decide)).trans ((if_neg (by omega)).trans ((if_neg (by omega)).trans ((if_neg (by omega)).trans ((if_pos (by omega)).trans ?_))))
  rw [Nat.add_sub_cancel_left]

theorem State.bootFail_kpr (p : Nat) (hp : p < 2) : s.bootFail (kprBst p, 0) = (s.bootMark (kprBst p) 0).setKpr p 0 := by
  unfold State.bootFail State.bootRole
  rw [bootUnit_kprBst p hp]

theorem State.bootFail_kpr_keeps (p : Nat) (hp : p < 2) : (s.bootFail (kprBst p, 0)).boot = s.boot ∧
    (s.bootFail (kprBst p, 0)).bus.grantsOn = s.bus.grantsOn := by
  rw [s.bootFail_kpr p hp, State.boot_setKpr, State.boot_bootMark, State.grantsOn_setKpr, State.grantsOn_bootMark]
  exact ⟨rfl, rfl⟩

/-- The failures of both keeper pairs. -/
def bothPairs : List (Nat × Nat) := [(kprBst 0, 0), (kprBst 1, 0)]

theorem bothPairs_filter : bothPairs.filter (fun f => decide (f.1 = kprBst 0) || decide (f.1 = kprBst 1)) = bothPairs := by decide

theorem bothPairs_any : ∀ p, p < 2 → bothPairs.any (fun f => decide (f.1 = kprBst p)) = true := by decide

theorem State.startPair_both (h : s.boot.lastPair < 2) : s.startPair bothPairs = none := by
  have hfailed : ∀ p, p < 2 → ¬(!bothPairs.any (fun f => decide (f.1 = kprBst p))) = true := fun p hp => by
    rw [bothPairs_any p hp]
    decide
  exact (if_neg (hfailed _ h)).trans (if_neg (hfailed _ (by omega)))

/-- Without a keeper pair the start stops. -/
theorem State.start_both (flash : Option Flash) (straps : Nat) (hl : s.boot.lastPair < 2) :
    (s.start flash straps bothPairs).bit (fltKey R.FLT_STATUS) 0 = true ∧
    (s.start flash straps bothPairs).bus.grantsOn = s.bus.grantsOn := by
  obtain ⟨hboot0, hon0⟩ := (s.startBegin flash straps).bootFail_kpr_keeps 0 (by decide)
  obtain ⟨hboot1, hon1⟩ := ((s.startBegin flash straps).bootFail (kprBst 0, 0)).bootFail_kpr_keeps 1 (by decide)
  have hstop := s.start_none (flash := flash) (straps := straps) (failed := bothPairs) (by
    rw [bothPairs_filter]
    refine State.startPair_both _ ?_
    show (((s.startBegin flash straps).bootFail (kprBst 0, 0)).bootFail (kprBst 1, 0)).boot.lastPair < 2
    rwa [hboot1, hboot0, s.lastPair_startBegin])
  rw [hstop, bothPairs_filter]
  refine ⟨State.bit_setBit _ (fltKey R.FLT_STATUS) 0 true (by decide), ?_⟩
  exact hon1.trans (hon0.trans (s.grantsOn_startBegin flash straps))

theorem State.start_noFailure {flash : Option Flash} {straps : Nat} {s3 : State}
    (h3 : s3 = ((s.startBegin flash straps).keeperRoles s.boot.lastPair).replay) :
    (s3.bankToBoot = none → s.start flash straps [] = s3.startIdentity.enterRecovery) ∧
    (∀ bank, s3.bankToBoot = some bank → s.start flash straps [] = s3.startImage bank []) := by
  have hstart : s.start flash straps [] = match s3.bankToBoot with
      | none => s3.startIdentity.enterRecovery
      | some bank => s3.startImage bank [] := by
    subst h3
    rw [← s.lastPair_startBegin flash straps]
    rfl
  exact ⟨fun h => by rw [hstart, h], fun bank h => by rw [hstart, h]⟩

theorem State.bankToBoot_shows {c : Nat} (hc : c = flashConfirmed s.upd.flash) : (s.strap 0 = true → s.bankToBoot = none) ∧
    (s.strap 0 = false → s.bankValid c = true → s.bankToBoot = some c) ∧
    (s.strap 0 = false → s.bankValid c = false → s.bankValid (1 - c) = true → s.bankToBoot = some (1 - c)) ∧
    (s.bankValid c = false → s.bankValid (1 - c) = false → s.bankToBoot = none) := by
  subst hc
  unfold State.bankToBoot
  dsimp only
  refine ⟨fun h => if_pos h, fun h h1 => ?_, fun h h1 h2 => ?_, fun h1 h2 => ?_⟩
  · rw [h, h1]
    rfl
  · rw [h, h1, h2]
    rfl
  · rw [h1, h2]
    cases s.strap 0 <;> rfl

/-! ### The journal replayed -/

/-- The durable records absorbed, and the log empty. -/
def State.logAbsorbed (s : State) : State :=
  { (s.jrn.log.filter (·.durable)).foldl State.absorb s with
    jrn := { ((s.jrn.log.filter (·.durable)).foldl State.absorb s).jrn with log := [] } }

/-- FLT after a replay, before EV63. -/
def State.replayShown (s : State) : State :=
  ((s.logAbsorbed.wr (fltKey R.FLT_JRN_REPLAY) (s.jrn.log.filter (·.durable)).length).setFld (fltKey R.FLT_JRN_HEAD) 0 16
    s.logAbsorbed.jrn.next).wr (fltKey R.FLT_EPOCH) (s.logAbsorbed.rd (fltKey R.FLT_HOME_EPOCH))

theorem State.replay_eq : s.replay = s.replayShown.raise fltPage 3 := rfl

theorem State.home_absorbAll (l : List JRec) : (l.foldl State.absorb s).jrn.home =
    l.foldl (fun m r => r.entries.foldl (fun m e => m.set e.1 e.2) m) s.jrn.home := by
  induction l generalizing s with
  | nil => rfl
  | cons r l ih => exact (ih (s.absorb r)).trans (by rw [State.jrn_absorb]; rfl)

theorem State.absorb_quiet (r : JRec) : s.bus.Ranged → (s.absorb r).bus.Ranged := fun hr => by
  unfold State.absorb
  dsimp only
  split
  · exact hr
  · exact hr

theorem State.ranged_logAbsorbed (hr : s.bus.Ranged) : s.logAbsorbed.bus.Ranged :=
  List.foldlRecOn (motive := fun a : State => a.bus.Ranged) _ State.absorb hr fun a ha r _ => a.absorb_quiet r ha

theorem State.jrn_logAbsorbed : s.logAbsorbed.jrn.log = [] ∧ s.logAbsorbed.jrn.home =
    (s.jrn.log.filter (·.durable)).foldl (fun m r => r.entries.foldl (fun m e => m.set e.1 e.2) m) s.jrn.home :=
  ⟨rfl, s.home_absorbAll _⟩

theorem State.jrn_replayShown : s.replayShown.jrn = s.logAbsorbed.jrn := rfl

theorem State.replay_shows (hr : s.bus.Ranged) : s.replay.jrn.log = [] ∧ s.replay.pend fltPage 3 = true ∧
    s.replay.rd (fltKey R.FLT_EPOCH) = s.replay.rd (fltKey R.FLT_HOME_EPOCH) ∧
    s.replay.jrn.home = (s.jrn.log.filter (·.durable)).foldl (fun m r => r.entries.foldl (fun m e => m.set e.1 e.2) m) s.jrn.home := by
  obtain ⟨hlog, hhome⟩ := s.jrn_logAbsorbed
  have hshown : s.replayShown.bus.Ranged := ((((State.Quiet.refl s.logAbsorbed).wr _ _).setFld _ _ _ _).wr _ _).ranged (s.ranged_logAbsorbed hr)
  have hkeep : s.replayShown.rd (fltKey R.FLT_HOME_EPOCH) = s.logAbsorbed.rd (fltKey R.FLT_HOME_EPOCH) := by
    rw [State.replayShown, State.rd_wr_ne _ _ _ _ (by decide), State.rd_setFld_ne _ _ _ _ _ _ (by decide), State.rd_wr_ne _ _ _ _ (by decide)]
  rw [s.replay_eq, State.raise_jrn, s.jrn_replayShown]
  refine ⟨hlog, plainPage_flt.pend_raise hshown 3 (by decide), ?_, hhome⟩
  refine (State.rd_raise_ctl _ (p := fltPage) (by decide) (by decide) (by decide) fltPage 3).trans ?_
  refine Eq.trans ?_ (State.rd_raise_ctl _ (p := fltPage) (by decide) (by decide) (by decide) fltPage 3).symm
  rw [← fltKey, ← fltKey, hkeep]
  exact (State.rd_wr _ _ _).trans (Nat.mod_eq_of_lt (Bus.rd_lt _ _))

/-- A failure of a fatal group stops the start. -/
theorem State.startImage_fatal (bank : Nat) {failed : List (Nat × Nat)} (h : fatalGroups failed = true) :
    (s.startImage bank failed).bit (fltKey R.FLT_STATUS) 0 = true := by
  unfold State.startImage
  dsimp only
  rw [if_pos h]
  exact State.bit_setBit _ (fltKey R.FLT_STATUS) 0 true (by decide)

end

/-! ### Service ready -/

section
variable (s : State)

/-- HELD requests of a controller go forward. -/
def State.heldForward (s : State) (n : Nat) : State := (List.range 3).foldl (fun a b => if a.txStat n b = 6 then a.setTxStat n b 1 else a) s

theorem State.canReady_eq (n : Nat) : s.canReady n = (s.setBit (canKey n R.CAN_STATUS) 2 false).heldForward n := rfl

theorem State.rd_heldForward_ne (n : Nat) {k : Nat} (h : k ≠ canKey n R.CAN_TX_STAT) : (s.heldForward n).rd k = s.rd k := by
  refine State.foldl_keeps (State.rd · k) _ _ (fun a b _ => ?_) s
  split
  · exact a.rd_setFld_ne _ _ _ _ _ h
  · rfl

theorem State.bus_heldForward_sessions (n : Nat) : (s.heldForward n).bus.sessions = s.bus.sessions := by
  refine State.foldl_keeps (fun a : State => a.bus.sessions) _ _ (fun a b _ => ?_) s
  split <;> rfl

theorem State.heldForward_quiet (n : Nat) (hr : s.bus.Ranged) : s.Quiet (s.heldForward n) :=
  (State.Quiet.refl s).foldl hr _ fun a _ _ _ => .ite ((State.Quiet.refl a).setFld _ _ _ _) (.refl a)

theorem State.canReady_quiet (n : Nat) (hr : s.bus.Ranged) : s.Quiet (s.canReady n) :=
  ((State.Quiet.refl s).setBit _ _ _).trans (State.heldForward_quiet _ n (s.ranged_setBit hr _ _ _))

theorem State.rd_canReady_ne (n : Nat) {p off : Nat} (hp : p < 0x80) (ho : off < 4096) : (s.canReady n).rd (rk p off) = s.rd (rk p off) := by
  have hne : ∀ off', off' < 4096 → rk p off ≠ canKey n off' := fun off' ho' =>
    rk_ne_page off off' (by simp only [canPage, Block.pg, Block.base]; omega) ho ho'
  rw [s.canReady_eq, State.rd_heldForward_ne _ n (hne _ (by decide)), State.rd_setBit_ne _ _ _ _ _ (hne _ (by decide))]

theorem State.bit_canReady (n : Nat) : (s.canReady n).bit (canKey n R.CAN_STATUS) 2 = false :=
  (State.bit_of_rd (State.rd_heldForward_ne _ n rk_ne_of_off) 2).trans (s.bit_setBit (canKey n R.CAN_STATUS) 2 false (by decide))

/-- Once clear, the bit stays clear as another controller begins. -/
theorem State.bit_canReady_keeps (m : Nat) {n : Nat} (h : s.bit (canKey n R.CAN_STATUS) 2 = false) :
    (s.canReady m).bit (canKey n R.CAN_STATUS) 2 = false := by
  by_cases hmn : n = m
  · subst hmn
    exact s.bit_canReady n
  · have hne : canKey n R.CAN_STATUS ≠ canKey m R.CAN_STATUS := rk_ne_page _ _ (by simp only [canPage, Block.pg]; omega)
    rw [s.canReady_eq]
    exact (State.bit_of_rd ((State.rd_heldForward_ne _ m rk_ne_of_off).trans (s.rd_setBit_ne _ _ _ _ hne)) 2).trans h

theorem State.bit_cansReady (l : List Nat) {n : Nat} (hn : n ∈ l) : (l.foldl State.canReady s).bit (canKey n R.CAN_STATUS) 2 = false := by
  induction l generalizing s with
  | nil => cases hn
  | cons m l ih =>
    rcases List.mem_cons.mp hn with rfl | hmem
    · exact List.foldlRecOn (motive := fun a : State => a.bit (canKey n R.CAN_STATUS) 2 = false) l _ (s.bit_canReady n)
        fun a ha m _ => a.bit_canReady_keeps m ha
    · exact ih (s.canReady m) hmem

/-- The registers at service ready. -/
def State.cansReady (s : State) : State := (List.range 16).foldl State.canReady (s.setBit (rk 0 hdrPageStatus) 16 true)

/-- The update unit leaves its start. -/
def State.updReady (s : State) : State := s.ifThen (decide (s.updState = 0)) (·.setUpd 1)

theorem State.cansReady_quiet (hr : s.bus.Ranged) : s.Quiet s.cansReady :=
  ((State.Quiet.refl s).setBit _ _ _).trans ((State.Quiet.refl _).foldl (s.ranged_setBit hr _ _ _) _ fun a ha n _ => a.canReady_quiet n ha)

theorem State.rd_cansReady {p off : Nat} (hp : p < 0x80 := by decide) (ho : off < 4096 := by decide) :
    s.cansReady.rd (rk p off) = (s.setBit (rk 0 hdrPageStatus) 16 true).rd (rk p off) :=
  State.foldl_keeps (State.rd · (rk p off)) _ _ (fun a n _ => a.rd_canReady_ne n hp ho) _

theorem State.sessions_setBit (k i : Nat) (v : Bool) : (s.setBit k i v).bus.sessions = s.bus.sessions := rfl

theorem State.sessions_canReady (n : Nat) : (s.canReady n).bus.sessions = s.bus.sessions := by
  rw [s.canReady_eq, State.bus_heldForward_sessions, State.sessions_setBit]

theorem State.sessions_cansReady : s.cansReady.bus.sessions = s.bus.sessions := by
  unfold State.cansReady
  rw [State.foldl_keeps (fun a : State => a.bus.sessions) _ State.canReady (fun a n _ => a.sessions_canReady n), State.sessions_setBit]

theorem State.updReady_quiet : s.Quiet s.updReady := by
  unfold State.updReady
  cases decide (s.updState = 0)
  · exact .refl s
  · exact (State.Quiet.refl s).setFld _ _ _ _

theorem State.sessions_updReady : s.updReady.bus.sessions = s.bus.sessions := by
  unfold State.updReady
  cases decide (s.updState = 0) <;> rfl

theorem State.rd_updReady_ne {k : Nat} (h : k ≠ updKey R.UPD_STATUS) : s.updReady.rd k = s.rd k := by
  unfold State.updReady
  cases decide (s.updState = 0)
  · rfl
  · exact s.rd_setFld_ne _ _ _ _ _ h

theorem State.updState_updReady : s.updReady.updState = if s.updState = 0 then 1 else s.updState := by
  unfold State.updReady
  by_cases h : s.updState = 0
  · rw [decide_eq_true h, if_pos h]
    exact s.fld_setFld (updKey R.UPD_STATUS) 0 3 1 (by decide)
  · rw [decide_eq_false h, if_neg h]
    rfl

theorem Bus.readyVis_lt (b : Bus) (h : ∀ p ∈ b.sessions.cells, p.1 < 1024) : ∀ v ∈ 0 :: b.readyVis, v < 1024 := by
  intro v hv
  rcases List.mem_cons.mp hv with rfl | hv
  · decide
  · rcases List.mem_append.mp hv with hv | hv
    · obtain ⟨i, hi, rfl⟩ := List.mem_map.mp (List.mem_filter.mp hv).1
      have := List.mem_range.mp hi
      omega
    · obtain ⟨p, hp, rfl⟩ := List.mem_map.mp hv
      exact h p hp

theorem State.on_congr {f g : Bus → Bus} (h : f s.bus = g s.bus) : s.on f = s.on g := by
  unfold State.on
  rw [h]

theorem State.on_readyVis : s.on (fun b => b.raiseFor 0 0 0 b.readyVis) = s.on (·.raiseFor 0 0 0 s.bus.readyVis) := s.on_congr rfl

theorem plainPage_dev : PlainPage 0 := plainPage_control

end

section
variable {dt : Nat} {s : State}

theorem exec_serviceReady_not (h : s.serviceReady = true ∨ s.bus.grantsOn = false ∨ s.bus.recovery = true ∨
    (s.rngReady = false ∧ s.rngFailed = false)) : exec (.serviceReady dt) s = .next (s.tick dt) := by
  have hgo : (s.serviceReady || !s.bus.grantsOn || s.bus.recovery || !(s.rngReady || s.rngFailed)) = true := by
    rcases h with h | h | h | ⟨h, h'⟩
    · simp only [h, Bool.true_or]
    · simp only [h, Bool.not_false, Bool.or_true, Bool.true_or]
    · simp only [h, Bool.or_true, Bool.true_or]
    · simp only [h, h', Bool.or_self, Bool.not_false, Bool.or_true]
  exact congrArg Host.Outcome.next (if_pos hgo)

theorem exec_serviceReady_goes (hsr : s.serviceReady = false) (hg : s.bus.grantsOn = true) (hrec : s.bus.recovery = false)
    (hrng : s.rngReady = true ∨ s.rngFailed = true) : exec (.serviceReady dt) s = .next
      ((s.tick dt).cansReady.updReady.on (fun b => b.raiseFor 0 0 0 b.readyVis)) := by
  have hgo : ¬(s.serviceReady || !s.bus.grantsOn || s.bus.recovery || !(s.rngReady || s.rngFailed)) = true := by
    have hor : (s.rngReady || s.rngFailed) = true := by rwa [Bool.or_eq_true]
    rw [hsr, hg, hrec, hor]
    decide
  exact congrArg Host.Outcome.next (if_neg hgo)

theorem State.serviceReady_shows (hr : s.bus.Ranged) (hs : ∀ p ∈ s.bus.sessions.cells, p.1 < 1024) :
    (s.cansReady.updReady.on (fun b => b.raiseFor 0 0 0 b.readyVis)).serviceReady = true ∧
    (∀ n, n < 16 → (s.cansReady.updReady.on (fun b => b.raiseFor 0 0 0 b.readyVis)).bit (canKey n R.CAN_STATUS) 2 = false) ∧
    (s.cansReady.updReady.on (fun b => b.raiseFor 0 0 0 b.readyVis)).updState = (if s.updState = 0 then 1 else s.updState) := by
  have hupd : s.cansReady.updState = s.updState :=
    State.fld_of_rd (s.rd_cansReady.trans (s.rd_setBit_ne _ _ _ _ (rk_ne_page _ _ (by decide)))) 0 3
  have hq := (s.cansReady_quiet hr).trans s.cansReady.updReady_quiet
  have hsess : s.cansReady.updReady.bus.sessions = s.bus.sessions := (State.sessions_updReady _).trans s.sessions_cansReady
  have hlt : ∀ v ∈ 0 :: s.cansReady.updReady.bus.readyVis, v < 1024 := Bus.readyVis_lt _ (by rwa [hsess])
  have hbit : s.cansReady.updReady.bit (rk 0 hdrPageStatus) 16 = true := by
    rw [State.bit_of_rd (State.rd_updReady_ne _ (rk_ne_page _ _ (by decide))), State.bit_of_rd s.rd_cansReady, State.bit_setBit _ _ _ _ (by decide)]
  have hstate := s.cansReady.updState_updReady
  rw [hupd] at hstate
  have hcan : ∀ n, n < 16 → s.cansReady.updReady.bit (canKey n R.CAN_STATUS) 2 = false := fun n hn =>
    (State.bit_of_rd (State.rd_updReady_ne _ (rk_ne_page _ _ (by simp only [canPage, updPage, Block.pg, Block.base]; omega))) 2).trans
      (State.bit_cansReady _ _ (List.mem_range.mpr hn))
  have hr4 := hq.ranged hr
  generalize s.cansReady.updReady = t at *
  have hafter := plainPage_dev.after_raiseFor hr4 0 0 t.bus.readyVis hlt
  rw [t.on_readyVis]
  refine ⟨(congrArg (bitOf 16) (Bus.rd_raiseFor_ctl (p := 0) (off := hdrPageStatus) (by decide) (by decide) (by decide) t.bus 0 0 0 _)).trans hbit,
    fun n hn => ?_,
    (congrArg (fieldOf 0 3) (Bus.rd_raiseFor_ctl (p := updPage) (off := R.UPD_STATUS) (by decide) (by decide) (by decide) t.bus 0 0 0 _)).trans hstate⟩
  exact (State.bit_of_rd (hafter.rd (canKey n R.CAN_STATUS) (fun h => (rk_ne_of_off : rk _ _ ≠ rk _ _) (List.mem_singleton.mp h))
    ((plainPage_can hn).reportKey _ (by decide))) 2).trans (hcan n hn)

end

/-! ### The random number generator -/

/-- The registers of a fault source stay under an event. -/
theorem PlainPage.rd_raise_fsKey {page : Nat} (hp : PlainPage page) {s : State} (hr : s.bus.Ranged) (i : Nat) {fs off : Nat} (h : fs < 192)
    (hne : off ≠ hdrEvtPend := by decide) (ho : off < 4096 := by decide) : (s.raise page i).rd (fsKey fs off) = s.rd (fsKey fs off) :=
  (hp.after_raise hr i).rd _ (fun hm => fsKey_ne_rk_of_off _ hne ho (by decide) (List.mem_singleton.mp hm)) (reportKey_fsKey h ho)

section
variable {dt : Nat} {s : State}

/-- The generator READY, before its event. -/
def State.rngStarted (s : State) : State :=
  ((s.wr (rngKey R.RNG_STATUS) 1).wr (rngKey R.RNG_READY_T) (min (2 ^ 18 - 1) ((s.bus.now - s.boot.entropyAt) / 500))).wr (rngKey R.RNG_ENT_BITS) 0

theorem exec_rngReady_not (h : s.rngReady = true ∨ s.rngFailed = true) : exec (.rngReady dt) s = .next (s.tick dt) :=
  congrArg Host.Outcome.next (if_pos h)

theorem exec_rngReady_goes (h1 : s.rngReady = false) (h2 : s.rngFailed = false) :
    exec (.rngReady dt) s = .next ((s.tick dt).rngStarted.raise rngPage 0) := by
  have hgo : ¬((s.tick dt).rngReady = true ∨ (s.tick dt).rngFailed = true) :=
    fun h => h.elim (fun h => absurd (h1.symm.trans h) (by decide)) fun h => absurd (h2.symm.trans h) (by decide)
  exact congrArg Host.Outcome.next (if_neg hgo)

theorem State.rd_rngStarted (s : State) : s.rngStarted.rd (rngKey R.RNG_STATUS) = 1 := by
  rw [State.rngStarted, State.rd_wr_ne _ _ _ _ (by decide), State.rd_wr_ne _ _ _ _ (by decide), State.rd_wr]
  rfl

theorem State.rngReady_shows (hr : s.bus.Ranged) : (s.rngStarted.raise rngPage 0).rngReady = true ∧
    (s.rngStarted.raise rngPage 0).rngFailed = false ∧ (s.rngStarted.raise rngPage 0).pend rngPage 0 = true ∧
    s.After (s.rngStarted.raise rngPage 0) [rngKey R.RNG_STATUS, rngKey R.RNG_READY_T, rngKey R.RNG_ENT_BITS, pendKey rngPage] := by
  have hafter : s.After s.rngStarted [rngKey R.RNG_STATUS, rngKey R.RNG_READY_T, rngKey R.RNG_ENT_BITS, pendKey rngPage] :=
    (((State.After.refl s _).wr _ _ (by decide)).wr _ _ (by decide)).wr _ _ (by decide)
  have hrd : (s.rngStarted.raise rngPage 0).rd (rngKey R.RNG_STATUS) = 1 :=
    (State.rd_raise_ctl _ (p := rngPage) (by decide) (by decide) (by decide) rngPage 0).trans s.rd_rngStarted
  exact ⟨congrArg (bitOf 0) hrd, congrArg (bitOf 1) hrd, plainPage_rng.pend_raise (hr.of_after hafter) 0 (by decide),
    hafter.raise hr _ 0 plainPage_rng.entryGranted (by decide)⟩

/-- A failed health test counted, before its event. -/
def State.healthFailed (s : State) (n : Nat) : State :=
  ((s.addSat (rngKey R.RNG_CNT_HEALTH) 1).wr (rngKey R.RNG_ENT_BITS) 0).setFld (rngKey R.RNG_STATUS) 2 2 n

theorem State.healthFailed_quiet (s : State) (n : Nat) : s.Quiet (s.healthFailed n) := (((State.Quiet.refl s).addSat _ _).wr _ _).setFld _ _ _ _

theorem State.rd_healthFailed_ne (s : State) (n : Nat) {k : Nat} (h1 : k ≠ rngKey R.RNG_CNT_HEALTH) (h2 : k ≠ rngKey R.RNG_ENT_BITS)
    (h3 : k ≠ rngKey R.RNG_STATUS) : (s.healthFailed n).rd k = s.rd k := by
  rw [State.healthFailed, State.rd_setFld_ne _ _ _ _ _ _ h3, State.rd_wr_ne _ _ _ _ h2, State.rd_addSat_ne _ _ _ _ h1]

theorem State.healthFailed_shows (s : State) {n : Nat} (h : n < 4) : (s.healthFailed n).fld (rngKey R.RNG_STATUS) 2 2 = n ∧
    (∀ i, i < 2 → (s.healthFailed n).bit (rngKey R.RNG_STATUS) i = s.bit (rngKey R.RNG_STATUS) i) ∧
    (s.healthFailed n).rd (rngKey R.RNG_CNT_HEALTH) = min (s.rd (rngKey R.RNG_CNT_HEALTH) + 1) 0xFFFFFFFF := by
  refine ⟨(State.fld_setFld _ (rngKey R.RNG_STATUS) 2 2 n (by decide)).trans (Nat.mod_eq_of_lt h), fun i hi => ?_, ?_⟩
  · rw [State.healthFailed, State.bit_setFld_of_disjoint _ _ 2 2 _ i (by decide) (.inl hi), State.bit_wr_ne _ _ _ _ _ (by decide),
      State.bit_addSat_ne _ _ _ _ _ (by decide)]
  · rw [State.healthFailed, State.rd_setFld_ne _ _ _ _ _ _ (by decide), State.rd_wr_ne _ _ _ _ (by decide)]
    exact State.rd_addSat _ _ _

/-- The generator FAILED, before FS105. -/
def State.rngFails (s : State) : State := ((s.setFld (rngKey R.RNG_STATUS) 0 2 2).raise rngPage 2).setBit (idnKey R.IDN_STATUS) 0 false

theorem exec_rngHealthFail_eq (h : s.rngFailed = false) : exec (.rngHealthFail dt) s = .next (
    if s.fld (rngKey R.RNG_STATUS) 2 2 + 1 < 3 then ((s.tick dt).healthFailed (s.fld (rngKey R.RNG_STATUS) 2 2 + 1)).raise rngPage 1
    else ((((s.tick dt).healthFailed (s.fld (rngKey R.RNG_STATUS) 2 2 + 1)).raise rngPage 1).rngFails).fault 105 { page := idnPage }) := by
  have hgo : ¬(s.tick dt).rngFailed = true := fun hf => absurd (h.symm.trans hf) (by decide)
  exact congrArg Host.Outcome.next (if_neg hgo)

theorem exec_rngHealthFail_counts (hr : s.bus.Ranged) (hf : s.rngFailed = false) (h : s.fld (rngKey R.RNG_STATUS) 2 2 < 2) :
    ∃ t, exec (.rngHealthFail dt) s = .next t ∧ t.rngReady = s.rngReady ∧ t.rngFailed = false ∧ t.pend rngPage 1 = true ∧
      t.fld (rngKey R.RNG_STATUS) 2 2 = s.fld (rngKey R.RNG_STATUS) 2 2 + 1 ∧
      t.rd (rngKey R.RNG_CNT_HEALTH) = min (s.rd (rngKey R.RNG_CNT_HEALTH) + 1) 0xFFFFFFFF := by
  have hlt : s.fld (rngKey R.RNG_STATUS) 2 2 + 1 < 3 := by omega
  obtain ⟨hn, hbits, hcnt⟩ := (s.tick dt).healthFailed_shows (n := s.fld (rngKey R.RNG_STATUS) 2 2 + 1) (by omega)
  have hset := ((s.tick dt).healthFailed_quiet (s.fld (rngKey R.RNG_STATUS) 2 2 + 1)).ranged hr
  refine ⟨_, (exec_rngHealthFail_eq hf).trans (congrArg Host.Outcome.next (if_pos hlt)), ?_⟩
  generalize (s.tick dt).healthFailed (s.fld (rngKey R.RNG_STATUS) 2 2 + 1) = t at *
  have hrd := plainPage_rng.rd_raise plainPage_rng hset 1 (off := R.RNG_STATUS)
  exact ⟨(congrArg (bitOf 0) hrd).trans (hbits 0 (by decide)), ((congrArg (bitOf 1) hrd).trans (hbits 1 (by decide))).trans hf,
    plainPage_rng.pend_raise hset 1 (by decide), (congrArg (fieldOf 2 2) hrd).trans hn,
    (plainPage_rng.rd_raise plainPage_rng hset 1 (off := R.RNG_CNT_HEALTH)).trans hcnt⟩

theorem State.rngFails_shows (s : State) (hr : s.bus.Ranged) : s.rngFails.bus.Ranged ∧ s.rngFails.rngReady = false ∧ s.rngFails.rngFailed = true ∧
    s.rngFails.pend rngPage 2 = true ∧ s.rngFails.idnReady = false ∧
    s.rngFails.rd (fsKey 105 R.FLT_SRC_CNT) = s.rd (fsKey 105 R.FLT_SRC_CNT) := by
  have hset : (s.setFld (rngKey R.RNG_STATUS) 0 2 2).bus.Ranged := s.ranged_setFld hr _ _ _ _
  have hne : rngKey R.RNG_STATUS ≠ idnKey R.IDN_STATUS := by decide
  have hcnt : fsKey 105 R.FLT_SRC_CNT ≠ idnKey R.IDN_STATUS ∧ fsKey 105 R.FLT_SRC_CNT ≠ rngKey R.RNG_STATUS :=
    ⟨fsKey_ne_rk 105 _ (by decide) (by decide), fsKey_ne_rk 105 _ (by decide) (by decide)⟩
  have hraise := plainPage_rng.rd_raise plainPage_rng hset 2 (off := R.RNG_STATUS)
  have hstatus : ∀ i, s.rngFails.bit (rngKey R.RNG_STATUS) i = bitOf i (setFieldOf 0 2 2 (s.rd (rngKey R.RNG_STATUS))) := fun i =>
    (State.bit_of_rd (State.rd_setBit_ne _ _ _ _ _ hne) i).trans ((congrArg (bitOf i) hraise).trans
      (congrArg (bitOf i) (Bus.rd_setFld _ _ _ _ _ (by decide))))
  have hlow : ∀ i v, i < 2 → bitOf i (setFieldOf 0 2 2 v) = (2 : Nat).testBit i := fun i v hi => by
    rw [bitOf_eq_testBit, testBit_setFieldOf, if_pos ⟨Nat.zero_le _, by omega⟩, Nat.sub_zero]
  refine ⟨State.ranged_setBit _ (((State.Quiet.refl _).raise hset _ _).ranged hset) _ _ _, ?_, ?_, ?_,
    State.bit_setBit _ (idnKey R.IDN_STATUS) 0 false (by decide), ?_⟩
  · exact (hstatus 0).trans (hlow 0 _ (by decide))
  · exact (hstatus 1).trans (hlow 1 _ (by decide))
  · exact (State.bit_of_rd (State.rd_setBit_ne _ _ _ _ _ pendKey_ne) 2).trans (plainPage_rng.pend_raise hset 2 (by decide))
  · rw [State.rngFails, State.rd_setBit_ne _ _ _ _ _ hcnt.1, plainPage_rng.rd_raise_fsKey hset 2 (by decide),
      State.rd_setFld_ne _ _ _ _ _ _ hcnt.2]

/-- A detection counts in its own source (R424). -/
theorem State.rd_cnt_fault (s : State) (hr : s.bus.Ranged) {fs : Nat} (u : FaultAt) (hfs : fsKnown fs = true) :
    (s.fault fs u).rd (fsKey fs R.FLT_SRC_CNT) = min (s.rd (fsKey fs R.FLT_SRC_CNT) + 1) 0xFFFFFFFF := by
  have hne : fsKey fs R.FLT_SRC_CNT ≠ fsKey fs R.FLT_SRC_STATUS := rkSel_inj_off
  show (s.bus.fault fs u).rd _ = _
  rw [Bus.fault_eq _ u hfs, Bus.rd_startGrace _ _ _ _ _ hne, Bus.rd_faultTold_fsKey hr u (fsKnown_lt hfs), Bus.rd_cnt_faultBooked]
  rfl

theorem exec_rngHealthFail_third (hr : s.bus.Ranged) (hf : s.rngFailed = false) (h : s.fld (rngKey R.RNG_STATUS) 2 2 = 2) :
    ∃ t, exec (.rngHealthFail dt) s = .next t ∧ t.rngReady = false ∧ t.rngFailed = true ∧ t.pend rngPage 2 = true ∧ t.idnReady = false ∧
      t.rd (fsKey 105 R.FLT_SRC_CNT) = min (s.rd (fsKey 105 R.FLT_SRC_CNT) + 1) 0xFFFFFFFF := by
  have hset := ((s.tick dt).healthFailed_quiet 3).ranged hr
  have hcnt : ((s.tick dt).healthFailed 3).rd (fsKey 105 R.FLT_SRC_CNT) = s.rd (fsKey 105 R.FLT_SRC_CNT) :=
    State.rd_healthFailed_ne _ 3 (fsKey_ne_rk 105 _ (by decide) (by decide)) (fsKey_ne_rk 105 _ (by decide) (by decide))
      (fsKey_ne_rk 105 _ (by decide) (by decide))
  refine ⟨_, (exec_rngHealthFail_eq hf).trans (congrArg Host.Outcome.next (if_neg (by omega))), ?_⟩
  rw [h]
  show State.rngReady ((((s.tick dt).healthFailed 3).raise rngPage 1).rngFails.fault 105 _) = _ ∧ _
  generalize (s.tick dt).healthFailed 3 = t at *
  have hraised : (t.raise rngPage 1).bus.Ranged := ((State.Quiet.refl _).raise hset _ _).ranged hset
  have hcnt' := (plainPage_rng.rd_raise_fsKey hset 1 (fs := 105) (off := R.FLT_SRC_CNT) (by decide)).trans hcnt
  generalize t.raise rngPage 1 = t1 at *
  obtain ⟨hfr, hready, hfailed, hpend, hidn, hsrc⟩ := t1.rngFails_shows hraised
  generalize t1.rngFails = t2 at *
  have hrng : (t2.fault 105 { page := idnPage }).rd (rngKey R.RNG_STATUS) = t2.rd (rngKey R.RNG_STATUS) :=
    State.rd_fault_ctl (p := rngPage) (off := R.RNG_STATUS) t2 105 _
  have hid : (t2.fault 105 { page := idnPage }).rd (idnKey R.IDN_STATUS) = t2.rd (idnKey R.IDN_STATUS) :=
    State.rd_fault_ctl (p := idnPage) (off := R.IDN_STATUS) t2 105 _
  refine ⟨(congrArg (bitOf 0) hrng).trans hready, (congrArg (bitOf 1) hrng).trans hfailed,
    Bus.pend_fault hfr 105 _ plainPage_rng (by decide) hpend, (congrArg (bitOf 0) hid).trans hidn, ?_⟩
  rw [t2.rd_cnt_fault hfr _ (by decide), hsrc, hcnt']

/-- The generator reseeded. -/
def State.reseeded (s : State) : State :=
  ((s.addWrap (rngKey R.RNG_CNT_RESEED) 1).setFld (rngKey R.RNG_STATUS) 2 2 0).wr (rngKey R.RNG_ENT_BITS) 0

theorem exec_rngReseed_shows (h : s.rngReady = true) : ∃ t, exec (.rngReseed dt) s = .next t ∧ t.fld (rngKey R.RNG_STATUS) 2 2 = 0 ∧
    t.rd (rngKey R.RNG_CNT_RESEED) = (s.rd (rngKey R.RNG_CNT_RESEED) + 1) % 2 ^ 32 ∧
    (s.tick dt).After t [rngKey R.RNG_STATUS, rngKey R.RNG_CNT_RESEED, rngKey R.RNG_ENT_BITS] := by
  refine ⟨(s.tick dt).reseeded, congrArg Host.Outcome.next (if_pos h), ?_, ?_,
    (((State.After.refl _ _).addWrap _ _ (by decide)).setFld _ _ _ _ (by decide)).wr _ _ (by decide)⟩
  · rw [State.reseeded, State.fld_of_rd (State.rd_wr_ne _ _ _ _ (by decide)), State.fld_setFld _ _ _ _ _ (by decide)]
    rfl
  · rw [State.reseeded, State.rd_wr_ne _ _ _ _ (by decide), State.rd_setFld_ne _ _ _ _ _ _ (by decide)]
    exact State.rd_addWrap _ _ _

theorem exec_rngReseed_not (h : s.rngReady = false) : exec (.rngReseed dt) s = .next (s.tick dt) :=
  congrArg Host.Outcome.next (if_neg fun hr => absurd (h.symm.trans hr) (by decide))

/-- Whether a read of RNG_DATA takes fresh bits. -/
theorem exec_rngDataRead_eq (vi : Nat) {g : Bool} (hg : g = ((s.tick dt).rngReady && decide ((s.tick dt).bus.pageAccess rngPage vi = 2))) :
    exec (.rngDataRead dt vi) s = .next ((s.tick dt).readBy vi rngPage (if g then (s.tick dt).bus.fresh.toNat else 0)
      (fun s => if g then s.on (·.nextFree) else s)) := by
  subst hg
  rfl

theorem exec_rngDataRead_fresh (vi : Nat) (ha : s.bus.pageAccess rngPage vi = 2) (hu : s.bus.pageUp rngPage = true) (h : s.rngReady = true) :
    exec (.rngDataRead dt vi) s = .next (((s.tick dt).on Bus.nextFree).emit (.readData vi (s.tick dt).bus.fresh.toNat)) := by
  have hg : true = ((s.tick dt).rngReady && decide ((s.tick dt).bus.pageAccess rngPage vi = 2)) := by
    rw [decide_eq_true (show (s.tick dt).bus.pageAccess rngPage vi = 2 from ha), show (s.tick dt).rngReady = true from h]
    rfl
  rw [exec_rngDataRead_eq vi hg, State.readBy_owner (s.tick dt) vi rngPage _ _ hu ha]
  rfl

theorem exec_rngDataRead_zero (vi : Nat) (hu : s.bus.pageUp rngPage = true)
    (h : s.bus.pageAccess rngPage vi = 1 ∨ (s.bus.pageAccess rngPage vi = 2 ∧ s.rngReady = false)) :
    exec (.rngDataRead dt vi) s = .next ((s.tick dt).emit (.readData vi 0)) := by
  have hg : false = ((s.tick dt).rngReady && decide ((s.tick dt).bus.pageAccess rngPage vi = 2)) := by
    rcases h with h | ⟨-, h⟩
    · rw [decide_eq_false (show ¬(s.tick dt).bus.pageAccess rngPage vi = 2 from fun h2 => absurd (h.symm.trans h2) (by decide)), Bool.and_false]
    · rw [show (s.tick dt).rngReady = false from h, Bool.false_and]
  rw [exec_rngDataRead_eq vi hg]
  rcases h with h | ⟨h, -⟩
  · rw [State.readBy_reader (s.tick dt) vi rngPage _ _ hu h]
    rfl
  · rw [State.readBy_owner (s.tick dt) vi rngPage _ _ hu h]
    rfl

end

/-! ### The keeper's debug halt and a power-up of the AON supply -/

section
variable {dt : Nat} {s : State}

theorem rd_gptModes_above (s : State) {p off : Nat} (hp : 0x80 ≤ p) (ho : off < 4096) : s.gptModes.rd (rk p off) = s.rd (rk p off) := by
  refine State.foldl_keeps (State.rd · (rk p off)) _ _ (fun a n hn => ?_) s
  have hlt := List.mem_range.mp hn
  have hne : rk p off ≠ gptKey n R.GPT_STATUS := rk_ne_page _ _ (by simp only [gptPage, Block.pg, Block.base]; omega) ho
  dsimp only
  split
  · split <;> exact a.rd_setBit_ne _ _ _ _ hne
  · rw [State.rd_setBit_ne _ _ _ _ _ hne, State.rd_setBit_ne _ _ _ _ _ hne]

theorem exec_keeperDebugHalt_goes {enter : Bool} (hs : s.strap 3 = true) (h : s.bit (rk s.bus.keeperPage R.KPR_STATUS) 3 ≠ enter) :
    exec (.keeperDebugHalt dt enter) s = .next
      ((((s.tick dt).setBit (rk s.bus.keeperPage R.KPR_STATUS) 3 enter).raise s.bus.keeperPage 1).gptModes) := by
  have hgo : ¬(!(s.tick dt).strap 3 || decide ((s.tick dt).bit (rk s.bus.keeperPage R.KPR_STATUS) 3 = enter)) = true := by
    rw [show (s.tick dt).strap 3 = true from hs, decide_eq_false (show ¬(s.tick dt).bit _ 3 = enter from h)]
    decide
  exact congrArg Host.Outcome.next (if_neg hgo)

theorem exec_keeperDebugHalt_not {enter : Bool} (hs : s.strap 3 = false) : exec (.keeperDebugHalt dt enter) s = .next (s.tick dt) := by
  have hgo : (!(s.tick dt).strap 3 || decide ((s.tick dt).bit (rk s.bus.keeperPage R.KPR_STATUS) 3 = enter)) = true := by
    rw [show (s.tick dt).strap 3 = false from hs]
    rfl
  exact congrArg Host.Outcome.next (if_pos hgo)

theorem reportKey_pendKey_keeper {p : Nat} (hp : p = 0x80 ∨ p = 0x81) : entryGranted p = false ∧ reportKey (pendKey p) = false := by
  rcases hp with rfl | rfl <;> decide

theorem exec_keeperDebugHalt_shows {enter : Bool} (hr : s.bus.Ranged) (hs : s.strap 3 = true)
    (h : s.bit (rk s.bus.keeperPage R.KPR_STATUS) 3 ≠ enter) : ∃ t, exec (.keeperDebugHalt dt enter) s = .next t ∧
      t.bit (rk s.bus.keeperPage R.KPR_STATUS) 3 = enter ∧ t.pend s.bus.keeperPage 1 = true := by
  have hpage : s.bus.keeperPage = 0x80 ∨ s.bus.keeperPage = 0x81 := by
    have hk := hr.2
    simp only [Bus.keeperPage, Block.pg, Block.base]
    omega
  obtain ⟨hentry, hrep⟩ := reportKey_pendKey_keeper hpage
  refine ⟨_, exec_keeperDebugHalt_goes hs h, ?_, ?_⟩
  · exact (congrArg (bitOf 3) (rd_gptModes_above _ (by omega) (by decide))).trans
      ((State.bit_raise_kept unreported_rk _ _ 1).trans (State.bit_setBit _ _ _ _ (by decide)))
  · exact (congrArg (bitOf 1) (rd_gptModes_above _ (by omega) (by decide))).trans
      (State.pend_raise _ ((s.tick dt).ranged_setBit hr _ _ _) _ 1 (by decide) hentry hrep)

/-- The registers that outlive a power-up of the AON supply. -/
def vaonKeeps (k : Nat) : Bool := decide (blockOfPage (keyPage k) = some .idn) || decide (keyOff k = R.FLT_HOME_EPOCH ∧ keyPage k = fltPage)

theorem Bus.rd_filtered (b c : Bus) (f : Nat → Bool) (h : c.regs = ⟨b.regs.cells.filter fun p => f p.1⟩) {k : Nat} (hk : f k = false) :
    c.rd k = Bus.init.rd k := by
  have hfind : SMap.findIn (b.regs.cells.filter fun p => f p.1) k = none := by
    rw [SMap.findIn_filter_key, hk]
    rfl
  show (c.regs.find (resetWord k) k).toNat = _
  rw [h]
  show ((SMap.findIn (b.regs.cells.filter fun p => f p.1) k).getD _).toNat = _
  rw [hfind]
  rfl

/-- A state whose AON island lost its supply. -/
def State.vaonLost (s : State) : State :=
  { s with
    bus := { s.bus with regs := ⟨s.bus.regs.cells.filter fun p => vaonKeeps p.1⟩, timers := SMap.empty }
    lds := State.reset.lds
    toks := SMap.empty
    boot := Boot.init }

theorem exec_vaonPowerUp_eq : exec (.vaonPowerUp dt) s = .next (s.tick dt).deviceReset.vaonLost := rfl

theorem State.vaonLost_shows (s : State) : s.vaonLost.bus.timers = SMap.empty ∧ s.vaonLost.boot = Boot.init ∧ s.vaonLost.toks = SMap.empty ∧
    s.vaonLost.jrn = s.jrn ∧ s.vaonLost.upd = s.upd ∧
    ∀ k, blockOfPage (keyPage k) ≠ some .idn → keyPage k ≠ fltPage ∨ keyOff k ≠ R.FLT_HOME_EPOCH → s.vaonLost.rd k = Bus.init.rd k := by
  refine ⟨rfl, rfl, rfl, rfl, rfl, fun k hidn hhome => Bus.rd_filtered s.bus _ vaonKeeps rfl ?_⟩
  unfold vaonKeeps
  rw [decide_eq_false hidn, decide_eq_false fun h => hhome.elim (absurd h.2) (absurd h.1)]
  rfl

end

/-- Settles O58: a start by the folds it is made of, each cited by what it leaves; the journal's replay by `jrn_absorb`; the generator by
what its status register shows after the counted failure; the debug halt by the bit of KPR_STATUS that no report writes. -/
theorem startsRunInOrderAndTheGeneratorServes : Obligations.StartsRunInOrderAndTheGeneratorServes := by
  unfold Obligations.StartsRunInOrderAndTheGeneratorServes
  refine ⟨fun dt straps flash failed s => exec_startSequence_shows, fun straps flash s s3 h3 => s.start_noFailure h3,
    fun straps flash s _ hl => s.start_both flash straps hl, fun s c hc => s.bankToBoot_shows hc, fun s hr => s.replay_shows hr,
    fun s bank failed h => s.startImage_fatal bank h, fun dt s hr hsess hsr hg hrec hrng => ?_, fun dt s h => exec_serviceReady_not h,
    fun dt s hr h1 h2 => ?_, fun dt s h => exec_rngReady_not h, fun dt s hr hf h => exec_rngHealthFail_counts hr hf h,
    fun dt s hr hf h => exec_rngHealthFail_third hr hf h, fun dt s h => exec_rngReseed_shows h, fun dt s h => exec_rngReseed_not h,
    fun dt vi s ha hu h => exec_rngDataRead_fresh vi ha hu h, fun dt vi s hu h => exec_rngDataRead_zero vi hu h,
    fun dt enter s hr hs h => exec_keeperDebugHalt_shows hr hs h, fun dt enter s hs => exec_keeperDebugHalt_not hs,
    fun dt s => ⟨_, exec_vaonPowerUp_eq, State.vaonLost_shows _⟩⟩
  · exact ⟨_, exec_serviceReady_goes hsr hg hrec hrng, (s.tick dt).serviceReady_shows hr hsess⟩
  · exact ⟨_, exec_rngReady_goes h1 h2, State.rngReady_shows (s := s.tick dt) hr⟩

end Sys2Proof.Machine
end

section
-- One theorem after another: each waiting thread takes 256 MB of the memory the check allows.
set_option Elab.async false
/-! SUPPORT. Firmware update from OPEN to VERIFIED (R472 to R474): the registers of UPD under its events, commands and refusals, blocks and
the verification. -/

namespace Sys2Proof.Machine

/-! ### Events, states and commands -/

section
variable (s : State)

theorem State.rd_updEvent (bit : Nat) {p off : Nat} (hp : p < 0x80 := by decide) (hne : off ≠ hdrEvtPend := by decide)
    (ho : off < 4096 := by decide) : (s.updEvent bit).rd (rk p off) = s.rd (rk p off) :=
  s.rd_raiseAlso_ctl hp hne ho updPage bit [0]

/-- UPD_STATUS under an event of UPD. -/
theorem State.status_updEvent (bit : Nat) : (s.updEvent bit).rd (updKey R.UPD_STATUS) = s.rd (updKey R.UPD_STATUS) :=
  s.rd_updEvent bit (p := updPage) (off := R.UPD_STATUS)

theorem State.updState_updEvent (bit : Nat) : (s.updEvent bit).updState = s.updState := State.fld_of_rd (s.status_updEvent bit) 0 3

theorem State.updEvent_upd (bit : Nat) : (s.updEvent bit).upd = s.upd := State.raiseAlso_upd s updPage bit [0]

theorem zero_lt_vis : ∀ v ∈ [0], v < 1024 := by decide

theorem State.pend_updEvent (hr : s.bus.Ranged) {bit : Nat} (h : bit < 32) : (s.updEvent bit).pend updPage bit = true :=
  plainPage_upd.pend_raiseAlso hr bit h [0] zero_lt_vis

theorem State.After.updEvent {s t : State} {ks : List Nat} (h : s.After t ks) (hr : s.bus.Ranged) (bit : Nat) (hk : pendKey updPage ∈ ks) :
    s.After (t.updEvent bit) ks := h.raiseAlso hr updPage bit [0] zero_lt_vis plainPage_upd.entryGranted hk

theorem State.Quiet.updEvent {s t : State} (h : s.Quiet t) (hr : s.bus.Ranged) (bit : Nat) : s.Quiet (t.updEvent bit) :=
  h.raiseAlso hr updPage bit [0] zero_lt_vis

theorem State.updState_setUpd {st : Nat} (h : st < 8) : (s.setUpd st).updState = st :=
  (s.fld_setFld (updKey R.UPD_STATUS) 0 3 st (by decide)).trans (Nat.mod_eq_of_lt h)

theorem State.updState_setLast (code : Nat) : (s.setLast code).updState = s.updState :=
  s.fld_setFld_of_disjoint (updKey R.UPD_STATUS) 8 4 code 0 3 (by decide) (by decide)

theorem State.last_setLast {code : Nat} (h : code < 16) : (s.setLast code).fld (updKey R.UPD_STATUS) 8 4 = code :=
  (s.fld_setFld (updKey R.UPD_STATUS) 8 4 code (by decide)).trans (Nat.mod_eq_of_lt h)

theorem State.ranged_setUpd (hr : s.bus.Ranged) (st : Nat) : (s.setUpd st).bus.Ranged := s.ranged_setFld hr _ _ _ _

theorem State.ranged_setLast (hr : s.bus.Ranged) (code : Nat) : (s.setLast code).bus.Ranged := s.ranged_setFld hr _ _ _ _

/-- A refusal of the update unit shows LAST, counts and tells (R473). -/
theorem State.updRefuse_shows {code : Nat} (hr : s.bus.Ranged) (hc : code < 16) : (s.updRefuse code).fld (updKey R.UPD_STATUS) 8 4 = code ∧
    (s.updRefuse code).rd (updKey R.UPD_CNT_REFUSED) = min (s.rd (updKey R.UPD_CNT_REFUSED) + 1) 0xFFFFFFFF ∧
    (s.updRefuse code).pend updPage 2 = true ∧
    s.After (s.updRefuse code) [updKey R.UPD_STATUS, updKey R.UPD_CNT_REFUSED, pendKey updPage] := by
  have hset : ((s.setLast code).addSat (updKey R.UPD_CNT_REFUSED) 1).bus.Ranged := hr
  refine ⟨?_, ?_, State.pend_updEvent _ hset (by decide),
    (((State.After.refl s _).setFld _ 8 4 code (by decide)).addSat _ 1 (by decide)).updEvent hr 2 (by decide)⟩
  · exact (State.fld_of_rd ((State.status_updEvent _ 2).trans (State.rd_addSat_ne _ _ _ _ (by decide))) 8 4).trans (s.last_setLast hc)
  · refine (State.rd_updEvent _ 2 (p := updPage) (off := R.UPD_CNT_REFUSED)).trans ((State.rd_addSat _ _ _).trans ?_)
    exact congrArg (fun v => min (v + 1) 0xFFFFFFFF) (s.rd_setFld_ne _ _ _ _ _ (by decide))

variable {vi : Nat} {ok : State → Bool} {f : State → State} (ha : s.bus.pageAccess updPage vi = 2) (hu : s.bus.pageUp updPage = true)
include ha hu

theorem State.updCmd_taken (h : ok s = true) : s.updCmd vi ok f = f s := (s.guardWrite_owner vi updPage _ ha hu).trans (if_pos h)

theorem State.updCmd_refused (h : ok s = false) : s.updCmd vi ok f = s.updRefuse 5 :=
  (s.guardWrite_owner vi updPage _ ha hu).trans (if_neg (by rw [h]; decide))

end

/-! ### A session is opened -/

section
variable (s : State)

theorem State.upd_modUpd (f : Upd → Upd) : (s.modUpd f).upd = f s.upd := rfl
theorem State.rd_modUpd (f : Upd → Upd) (k : Nat) : (s.modUpd f).rd k = s.rd k := rfl
theorem State.fld_modUpd (f : Upd → Upd) (k lo w : Nat) : (s.modUpd f).fld k lo w = s.fld k lo w := rfl
theorem State.updState_modUpd (f : Upd → Upd) : (s.modUpd f).updState = s.updState := rfl
theorem State.updTarget_modUpd (f : Upd → Upd) : (s.modUpd f).updTarget = s.updTarget := rfl
theorem State.updState_setTarget (bank : Nat) : (s.setFld (updKey R.UPD_STATUS) 4 1 bank).updState = s.updState :=
  s.fld_setFld_of_disjoint (updKey R.UPD_STATUS) 4 1 bank 0 3 (by decide) (by decide)
theorem State.upd_setFld (k lo w v : Nat) : (s.setFld k lo w v).upd = s.upd := rfl
theorem State.upd_setUpd (st : Nat) : (s.setUpd st).upd = s.upd := rfl
theorem State.upd_addWrap (k n : Nat) : (s.addWrap k n).upd = s.upd := rfl

/-- A session open for a bank (R472). -/
def State.sessionIn (s : State) (bank : Nat) : State :=
  (((s.addWrap (updKey R.UPD_SESSION) 1).setUpd 2).setFld (updKey R.UPD_STATUS) 4 1 bank).modUpd
    (fun u => { u with len := none, blocks := [], writing := none })

theorem State.sessionIn_shows {bank : Nat} (h : bank < 2) : (s.sessionIn bank).updState = 2 ∧ (s.sessionIn bank).updTarget = bank ∧
    (s.sessionIn bank).rd (updKey R.UPD_SESSION) = (s.rd (updKey R.UPD_SESSION) + 1) % 2 ^ 32 ∧
    (s.sessionIn bank).upd = { s.upd with len := none, blocks := [], writing := none } := by
  unfold State.sessionIn
  rw [State.updState_modUpd, State.updTarget_modUpd, State.rd_modUpd, State.upd_modUpd, State.updState_setTarget, State.upd_setFld,
    State.upd_setUpd, State.upd_addWrap, State.rd_setFld_ne _ _ _ _ _ _ (by decide)]
  exact ⟨State.updState_setUpd _ (by decide), (State.fld_setFld _ (updKey R.UPD_STATUS) 4 1 bank (by decide)).trans (Nat.mod_eq_of_lt h),
    (State.rd_setFld_ne _ _ _ _ _ _ (by decide)).trans (s.rd_addWrap _ _), rfl⟩

variable {s} {dt vi : Nat} (ha : s.bus.pageAccess updPage vi = 2) (hu : s.bus.pageUp updPage = true)
include ha hu

theorem exec_updOpen_shows (h : s.updState = 1 ∨ s.updState = 4) : ∃ t, exec (.updOpen dt vi) s = .next t ∧ t.updState = 2 ∧
    t.updTarget = (if s.bus.recovery then (s.tick dt).bus.fresh.toNat % 2 else 1 - s.bootBank) ∧
    t.rd (updKey R.UPD_SESSION) = (s.rd (updKey R.UPD_SESSION) + 1) % 2 ^ 32 ∧
    t.upd = { s.upd with len := none, blocks := [], writing := none } := by
  have hok : (decide ((s.tick dt).updState = 1) || decide ((s.tick dt).updState = 4)) = true := by
    rw [Bool.or_eq_true, decide_eq_true_eq, decide_eq_true_eq]
    exact h
  have hexec : exec (.updOpen dt vi) s = .next ((if s.bus.recovery then (s.tick dt).on Bus.nextFree else s.tick dt).sessionIn
      (if s.bus.recovery then (s.tick dt).bus.fresh.toNat % 2 else 1 - s.bootBank)) :=
    congrArg Host.Outcome.next ((s.tick dt).updCmd_taken ha hu hok)
  refine ⟨_, hexec, ?_⟩
  cases hrec : s.bus.recovery with
  | true => exact ((s.tick dt).on Bus.nextFree).sessionIn_shows (Nat.mod_lt _ (by decide))
  | false => exact (s.tick dt).sessionIn_shows (show 1 - s.bootBank < 2 by omega)

/-! ### Commands that the state does not allow -/

theorem exec_updOpen_refused (h1 : s.updState ≠ 1) (h4 : s.updState ≠ 4) : exec (.updOpen dt vi) s = .next ((s.tick dt).updRefuse 5) := by
  have hok : (decide ((s.tick dt).updState = 1) || decide ((s.tick dt).updState = 4)) = false := by
    rw [decide_eq_false (show ¬(s.tick dt).updState = 1 from h1), decide_eq_false (show ¬(s.tick dt).updState = 4 from h4), Bool.or_self]
  exact congrArg Host.Outcome.next ((s.tick dt).updCmd_refused ha hu hok)

theorem exec_updAbort_refused (h2 : s.updState ≠ 2) (h4 : s.updState ≠ 4) : exec (.updAbort dt vi) s = .next ((s.tick dt).updRefuse 5) := by
  have hok : (decide ((s.tick dt).updState = 2) || decide ((s.tick dt).updState = 4)) = false := by
    rw [decide_eq_false (show ¬(s.tick dt).updState = 2 from h2), decide_eq_false (show ¬(s.tick dt).updState = 4 from h4), Bool.or_self]
  exact congrArg Host.Outcome.next ((s.tick dt).updCmd_refused ha hu hok)

theorem exec_updBlock_refused (bytes : List Byte) (h2 : s.updState ≠ 2) : exec (.updBlock dt vi) s = .next ((s.tick dt).updRefuse 5) ∧
    exec (.updBlockDma dt vi bytes) s = .next ((s.tick dt).updRefuse 5) ∧ exec (.updVerify dt vi) s = .next ((s.tick dt).updRefuse 5) := by
  have hok : decide ((s.tick dt).updState = 2) = false := decide_eq_false h2
  have hdma : (decide ((s.tick dt).updState = 2) && decide (1 ≤ vi) && decide (vi ≤ 256)) = false := by
    rw [hok, Bool.false_and, Bool.false_and]
  have hverify : (decide ((s.tick dt).updState = 2) && !(s.tick dt).updBusy) = false := by rw [hok, Bool.false_and]
  exact ⟨congrArg Host.Outcome.next ((s.tick dt).updCmd_refused ha hu hok), congrArg Host.Outcome.next ((s.tick dt).updCmd_refused ha hu hdma),
    congrArg Host.Outcome.next ((s.tick dt).updCmd_refused ha hu hverify)⟩

theorem exec_updVerify_busy (hb : s.updBusy = true) : exec (.updVerify dt vi) s = .next ((s.tick dt).updRefuse 5) := by
  have hok : (decide ((s.tick dt).updState = 2) && !(s.tick dt).updBusy) = false := by
    rw [show (s.tick dt).updBusy = true from hb]
    exact Bool.and_false _
  exact congrArg Host.Outcome.next ((s.tick dt).updCmd_refused ha hu hok)

omit ha hu in
theorem verifyAllowed (h2 : s.updState = 2) (hb : s.updBusy = false) : (decide ((s.tick dt).updState = 2) && !(s.tick dt).updBusy) = true := by
  rw [decide_eq_true (show (s.tick dt).updState = 2 from h2), show (s.tick dt).updBusy = false from hb]
  rfl

theorem exec_updVerify_missing (h2 : s.updState = 2) (hb : s.updBusy = false) (h : s.updTotal = 0 ∨ s.updMissing.isSome = true) :
    exec (.updVerify dt vi) s = .next ((s.tick dt).updRefuse 3) :=
  congrArg Host.Outcome.next (((s.tick dt).updCmd_taken ha hu (verifyAllowed h2 hb)).trans (if_pos h))

theorem exec_updVerify_goes (h2 : s.updState = 2) (hb : s.updBusy = false) (ht : s.updTotal ≠ 0) (hm : s.updMissing = none) :
    ∃ t, exec (.updVerify dt vi) s = .next t ∧ t.updState = 3 ∧ (s.tick dt).After t [updKey R.UPD_STATUS] := by
  have hgo : ¬((s.tick dt).updTotal = 0 ∨ (s.tick dt).updMissing.isSome = true) := fun h => by
    rcases h with h | h
    · exact ht h
    · rw [show (s.tick dt).updMissing = none from hm] at h
      exact absurd h (by decide)
  exact ⟨_, congrArg Host.Outcome.next (((s.tick dt).updCmd_taken ha hu (verifyAllowed h2 hb)).trans (if_neg hgo)),
    State.updState_setUpd _ (by decide), (State.After.refl _ _).setFld _ _ _ _ (by decide)⟩

theorem exec_updAbort_shows (h : s.updState = 2 ∨ s.updState = 4) : ∃ t, exec (.updAbort dt vi) s = .next t ∧ t.updState = 1 ∧
    t.updBusy = false ∧ t.upd = { s.upd with writing := none } := by
  have hok : (decide ((s.tick dt).updState = 2) || decide ((s.tick dt).updState = 4)) = true := by
    rw [Bool.or_eq_true, decide_eq_true_eq, decide_eq_true_eq]
    exact h
  refine ⟨_, congrArg Host.Outcome.next ((s.tick dt).updCmd_taken ha hu hok), ?_, State.bit_setBit _ (updKey R.UPD_STATUS) 3 false (by decide), rfl⟩
  exact (State.fld_setBit_of_disjoint _ (updKey R.UPD_STATUS) 3 false 0 3 (by decide) (by decide)).trans (State.updState_setUpd _ (by decide))

/-! ### Blocks -/

theorem exec_updBlock_takes (bytes : List Byte) (h2 : s.updState = 2) :
    exec (.updBlock dt vi) s = .next ((s.tick dt).takeBlock ((List.range (min 65536 (s.updHdr 3))).map (fun i => s.upd.buf.find 0 i))) ∧
    (1 ≤ vi → vi ≤ 256 → exec (.updBlockDma dt vi bytes) s = .next ((s.tick dt).takeBlock bytes)) := by
  have hok : decide ((s.tick dt).updState = 2) = true := decide_eq_true h2
  refine ⟨congrArg Host.Outcome.next ((s.tick dt).updCmd_taken ha hu hok), fun h1 h256 => ?_⟩
  have hdma : (decide ((s.tick dt).updState = 2) && decide (1 ≤ vi) && decide (vi ≤ 256)) = true := by
    rw [hok, decide_eq_true h1, decide_eq_true h256]
    rfl
  exact congrArg Host.Outcome.next ((s.tick dt).updCmd_taken ha hu hdma)

end

section
variable (s : State)

theorem State.takeBlock_shows {bytes data : List Byte} (hd : data = (List.range (min 65536 (s.updHdr 3))).map (fun i => bytes.getD i 0)) :
    (s.blockCheck data ≠ 0 → s.takeBlock bytes = s.updRefuse (s.blockCheck data)) ∧
    (s.blockCheck data = 0 → (s.takeBlock bytes).updBusy = true ∧ (s.takeBlock bytes).upd =
      { s.upd with len := some (s.updHdr 5), writing := some (s.updHdr 2, data) } ∧
      s.After { s.takeBlock bytes with upd := s.upd } [updKey R.UPD_STATUS]) := by
  unfold State.takeBlock
  dsimp only
  rw [← hd]
  split
  case h_1 h0 =>
    exact ⟨fun h => absurd h0 h, fun _ => ⟨s.bit_setBit (updKey R.UPD_STATUS) 3 true (by decide), rfl,
      (State.After.refl s [updKey R.UPD_STATUS]).setBit _ 3 true (by decide)⟩⟩
  case h_2 hne => exact ⟨fun _ => rfl, fun h => absurd h hne⟩

/-- Whether the length of a session's image is given, and another. -/
def State.lenDiffers (s : State) (total : Nat) : Bool := match s.upd.len with | some n => decide (n ≠ total) | none => false

theorem State.lenDiffers_eq_false (total : Nat) : s.lenDiffers total = false ↔ ∀ n, s.upd.len = some n → n = total := by
  unfold State.lenDiffers
  cases s.upd.len with
  | none => exact ⟨fun _ n h => absurd h (by simp), fun _ => rfl⟩
  | some m =>
    refine ⟨fun h n hn => ?_, fun h => decide_eq_false (not_not.mpr (h m rfl))⟩
    cases hn
    exact not_not.mp (of_decide_eq_false h)

/-- The first of five conditions that holds, by its number. -/
def firstOf (a b c d e : Prop) [Decidable a] [Decidable b] [Decidable c] [Decidable d] [Decidable e] : Nat :=
  if a then 1 else if b then 2 else if c then 3 else if d then 4 else if e then 5 else 0

section
variable (a b c d e : Prop) [Decidable a] [Decidable b] [Decidable c] [Decidable d] [Decidable e]

theorem firstOf_eq_zero : firstOf a b c d e = 0 ↔ ¬a ∧ ¬b ∧ ¬c ∧ ¬d ∧ ¬e := by
  unfold firstOf
  split_ifs with ha hb hc hd he <;> simp only [*, not_true, not_false_iff, false_and, and_false, and_self]

theorem firstOf_eq_one : firstOf a b c d e = 1 ↔ a := by
  unfold firstOf
  split_ifs with ha hb hc hd he <;> simp only [*] <;> decide

end

theorem State.blockCheck_eq (data : List Byte) : s.blockCheck data = firstOf
    (s.updHdr 0 ≠ 0x4B4C5550 ∨ s.updHdr 1 ≠ 0x01000000 ∨ s.updHdr 7 ≠ 0 ∨ s.updHdr 6 ≠ s.rd (updKey R.UPD_SESSION))
    (s.updHdr 2 % 65536 ≠ 0 ∨ s.updHdr 5 < s.updHdr 2 + s.updHdr 3)
    (s.updHdr 3 = 0 ∨ 65536 < s.updHdr 3 ∨ (s.updHdr 3 < 65536 ∧ s.updHdr 2 + 65536 < s.updHdr 5) ∨ 50331648 < s.updHdr 5 ∨
      s.lenDiffers (s.updHdr 5) = true)
    (crc32 data ≠ s.updHdr 4) (s.updBusy = true) := rfl

/-- A block is taken when its header names the session and its bytes lie in the image, and none is being written (R473). -/
theorem State.blockCheck_iff (data : List Byte) :
    (s.blockCheck data = 0 ↔ s.updHdr 0 = 0x4B4C5550 ∧ s.updHdr 1 = 0x01000000 ∧ s.updHdr 7 = 0 ∧
      s.updHdr 6 = s.rd (updKey R.UPD_SESSION) ∧ s.updHdr 2 % 65536 = 0 ∧ s.updHdr 2 + s.updHdr 3 ≤ s.updHdr 5 ∧ 0 < s.updHdr 3 ∧
      s.updHdr 3 ≤ 65536 ∧ (s.updHdr 3 = 65536 ∨ s.updHdr 5 ≤ s.updHdr 2 + 65536) ∧ s.updHdr 5 ≤ 48 * 2 ^ 20 ∧
      (∀ n, s.upd.len = some n → n = s.updHdr 5) ∧ crc32 data = s.updHdr 4 ∧ s.updBusy = false) ∧
    (s.blockCheck data = 1 ↔ s.updHdr 0 ≠ 0x4B4C5550 ∨ s.updHdr 1 ≠ 0x01000000 ∨ s.updHdr 7 ≠ 0 ∨
      s.updHdr 6 ≠ s.rd (updKey R.UPD_SESSION)) := by
  rw [s.blockCheck_eq, firstOf_eq_zero, firstOf_eq_one, ← s.lenDiffers_eq_false]
  refine ⟨?_, Iff.rfl⟩
  generalize s.lenDiffers (s.updHdr 5) = differs
  cases differs <;> cases s.updBusy <;> simp only [reduceCtorEq, eq_self, or_true, not_true, not_false_iff, true_and, and_true, false_and,
    and_false, or_false]
  omega

/-- A block that stands in the target bank (R473). -/
def State.blockStands (s : State) (off : Nat) (data : List Byte) : State :=
  (s.setBit (updKey R.UPD_STATUS) 3 false).modUpd (fun u => { u with
    writing := none
    blocks := (off / 65536 :: u.blocks).eraseDups
    flash := flashWrite u.flash s.updTarget off data })

variable {s} {dt : Nat}

theorem exec_updBlockWritten_none (h : s.upd.writing = none) : exec (.updBlockWritten dt) s = .next (s.tick dt) := by
  show execUpdBlockWritten dt s = _
  unfold execUpdBlockWritten
  dsimp only
  rw [show (s.tick dt).upd.writing = none from h]

theorem exec_updBlockWritten_stands {off : Nat} {data : List Byte} (h : s.upd.writing = some (off, data)) :
    exec (.updBlockWritten dt) s = .next (((s.tick dt).blockStands off data).updEvent 0) := by
  show execUpdBlockWritten dt s = _
  unfold execUpdBlockWritten
  dsimp only
  rw [show (s.tick dt).upd.writing = some (off, data) from h]
  rfl

theorem State.blockStands_shows (off : Nat) (data : List Byte) (hr : s.bus.Ranged) : ((s.blockStands off data).updEvent 0).updBusy = false ∧
    ((s.blockStands off data).updEvent 0).upd.writing = none ∧ off / 65536 ∈ ((s.blockStands off data).updEvent 0).upd.blocks ∧
    (∀ b ∈ s.upd.blocks, b ∈ ((s.blockStands off data).updEvent 0).upd.blocks) ∧
    ((s.blockStands off data).updEvent 0).upd.flash = flashWrite s.upd.flash s.updTarget off data ∧
    ((s.blockStands off data).updEvent 0).pend updPage 0 = true := by
  have hset : (s.blockStands off data).bus.Ranged := s.ranged_setBit hr _ _ _
  rw [State.updEvent_upd]
  refine ⟨(State.bit_of_rd (State.status_updEvent _ 0) 3).trans (s.bit_setBit (updKey R.UPD_STATUS) 3 false (by decide)), rfl,
    List.mem_eraseDups.mpr List.mem_cons_self, fun b hb => List.mem_eraseDups.mpr (List.mem_cons_of_mem _ hb), rfl,
    State.pend_updEvent _ hset (by decide)⟩

/-! ### The verification -/

/-- The words of the verified image: its digest, SECVER and FORMAT (R474). -/
def State.imageShown (s : State) (l : List Byte) : State :=
  ((s.wrList (updKey R.UPD_IMG_DIGEST) (bytesWords 12 (imgDigest l))).setFld (updKey R.UPD_IMG_INFO) 0 8 (imgSecver l)).setFld
    (updKey R.UPD_IMG_INFO) 24 8 (imgFormat l)

theorem exec_updVerifyComplete_not (h : s.updState ≠ 3) : exec (.updVerifyComplete dt) s = .next (s.tick dt) :=
  congrArg Host.Outcome.next (if_pos h)

theorem exec_updVerifyComplete_eq (h3 : s.updState = 3) :
    (s.targetCheck = 0 → exec (.updVerifyComplete dt) s =
      .next ((((s.tick dt).imageShown (flashBank s.upd.flash s.updTarget)).setUpd 4).updEvent 1)) ∧
    (s.targetCheck ≠ 0 → exec (.updVerifyComplete dt) s = .next ((((s.tick dt).setUpd 2).setLast s.targetCheck).updEvent 2)) := by
  show (_ → execUpdVerifyComplete dt s = _) ∧ (_ → execUpdVerifyComplete dt s = _)
  unfold execUpdVerifyComplete
  dsimp only
  rw [if_neg (not_not.mpr (show (s.tick dt).updState = 3 from h3)), show (s.tick dt).targetCheck = s.targetCheck from rfl]
  split
  case h_1 h0 => exact ⟨fun _ => rfl, fun h => absurd h0 h⟩
  case h_2 hne => exact ⟨fun h => absurd h hne, fun _ => rfl⟩

theorem State.imageShown_quiet (s : State) (l : List Byte) : s.Quiet (s.imageShown l) :=
  (State.Quiet.trans ⟨_, s.after_wrList (updKey R.UPD_IMG_DIGEST) (bytesWords 12 (imgDigest l)) fun _ hi =>
    List.mem_map_of_mem (f := (updKey R.UPD_IMG_DIGEST + 4 * ·)) (List.mem_range.mpr hi)⟩ (.setFld (.refl _) _ _ _ _)).setFld _ _ _ _

theorem updKey_add (off i : Nat) : updKey (off + 4 * i) = updKey off + 4 * i := by
  simp only [updKey, rk]
  omega

theorem State.imageShown_shows (s : State) (l : List Byte) :
    (∀ i, i < 12 → (s.imageShown l).rd (updKey (R.UPD_IMG_DIGEST + 4 * i)) = (bytesWords 12 (imgDigest l)).getD i 0 % 2 ^ 32) ∧
    (s.imageShown l).fld (updKey R.UPD_IMG_INFO) 0 8 = imgSecver l % 256 := by
  refine ⟨fun i hi => ?_, ?_⟩
  · have hne : updKey (R.UPD_IMG_DIGEST + 4 * i) ≠ updKey R.UPD_IMG_INFO := by
      simp only [updKey, rk, R.UPD_IMG_DIGEST, R.UPD_IMG_INFO]
      omega
    rw [State.imageShown, State.rd_setFld_ne _ _ _ _ _ _ hne, State.rd_setFld_ne _ _ _ _ _ _ hne, updKey_add]
    exact s.rd_wrList _ _ i (by rw [length_bytesWords]; exact hi)
  · exact (State.fld_setFld_of_disjoint _ (updKey R.UPD_IMG_INFO) 24 8 (imgFormat l) 0 8 (by decide) (by decide)).trans
      (State.fld_setFld _ (updKey R.UPD_IMG_INFO) 0 8 (imgSecver l) (by decide))

theorem exec_updVerifyComplete_valid (hr : s.bus.Ranged) (h3 : s.updState = 3) (hc : s.targetCheck = 0) :
    ∃ t, exec (.updVerifyComplete dt) s = .next t ∧ t.updState = 4 ∧ t.pend updPage 1 = true ∧
      (∀ i, i < 12 → t.rd (updKey (R.UPD_IMG_DIGEST + 4 * i)) =
        (bytesWords 12 (imgDigest (flashBank s.upd.flash s.updTarget))).getD i 0 % 2 ^ 32) ∧
      t.fld (updKey R.UPD_IMG_INFO) 0 8 = imgSecver (flashBank s.upd.flash s.updTarget) % 256 := by
  obtain ⟨hdigest, hsecver⟩ := (s.tick dt).imageShown_shows (flashBank s.upd.flash s.updTarget)
  have hset := ((s.tick dt).imageShown_quiet (flashBank s.upd.flash s.updTarget)).ranged hr
  refine ⟨_, (exec_updVerifyComplete_eq h3).1 hc, ?_⟩
  generalize (s.tick dt).imageShown (flashBank s.upd.flash s.updTarget) = t at *
  refine ⟨(State.updState_updEvent _ 1).trans (State.updState_setUpd _ (by decide)), State.pend_updEvent _ (t.ranged_setFld hset _ _ _ _) (by decide),
    fun i hi => ?_, ?_⟩
  · have hoff : R.UPD_IMG_DIGEST + 4 * i ≠ R.UPD_STATUS ∧ R.UPD_IMG_DIGEST + 4 * i ≠ hdrEvtPend ∧ R.UPD_IMG_DIGEST + 4 * i < 4096 := by
      unfold R.UPD_IMG_DIGEST R.UPD_STATUS hdrEvtPend
      omega
    exact (State.rd_updEvent _ 1 (p := updPage) (by decide) hoff.2.1 hoff.2.2).trans
      ((t.rd_setFld_ne _ _ _ _ _ (rk_ne_of_off hoff.1 hoff.2.2)).trans (hdigest i hi))
  · exact (State.fld_of_rd ((State.rd_updEvent _ 1 (p := updPage) (off := R.UPD_IMG_INFO)).trans
      (t.rd_setFld_ne _ _ _ _ _ (by decide))) 0 8).trans hsecver

theorem exec_updVerifyComplete_fails (hr : s.bus.Ranged) (h3 : s.updState = 3) (h0 : 0 < s.targetCheck) (h16 : s.targetCheck < 16) :
    ∃ t, exec (.updVerifyComplete dt) s = .next t ∧ t.updState = 2 ∧ t.fld (updKey R.UPD_STATUS) 8 4 = s.targetCheck ∧
      t.pend updPage 2 = true := by
  have hset : (((s.tick dt).setUpd 2).setLast s.targetCheck).bus.Ranged := hr
  exact ⟨_, (exec_updVerifyComplete_eq h3).2 h0.ne',
    (State.updState_updEvent _ 2).trans ((State.updState_setLast _ _).trans (State.updState_setUpd _ (by decide))),
    (State.fld_of_rd (State.status_updEvent _ 2) 8 4).trans (State.last_setLast _ h16), State.pend_updEvent _ hset (by decide)⟩

end

end Sys2Proof.Machine
end

section
-- One theorem after another: each waiting thread takes 256 MB of the memory the check allows.
set_option Elab.async false
/-! SUPPORT. Activation, trial and the reverse handover of a firmware update (R475 to R481). The statement on updates, settled. -/

namespace Sys2Proof.Machine

/-! ### Keeper pairs under reports -/

/-- A bit that no report writes stays under an event that is told to others too. -/
theorem State.bit_raiseAlso_kept {k i : Nat} (hk : Unreported k i) (s : State) (page bit : Nat) (extra : List Nat) :
    (s.raiseAlso page bit extra).bit k i = s.bit k i :=
  Bus.kept_raiseAt hk s.bus page page bit _ extra none

theorem State.fld_raiseAlso_kept (s : State) (page bit : Nat) (extra : List Nat) {k lo w : Nat} (hk : ∀ i, i < w → Unreported k (lo + i)) :
    (s.raiseAlso page bit extra).fld k lo w = s.fld k lo w :=
  fieldOf_congr lo w _ _ fun i hi => by
    rw [← bitOf_eq_testBit, ← bitOf_eq_testBit]
    exact s.bit_raiseAlso_kept (hk i hi) page bit extra

theorem unreported_role (p i : Nat) (hi : i < 2) : Unreported (kprKey p R.KPR_STATUS) (0 + i) :=
  unreported_rk (by decide) (by decide) fun _ => by omega

section
variable (s : State)

theorem State.kprRole_raise (page bit p : Nat) : (s.raise page bit).kprRole p = s.kprRole p := s.fld_raise_kept page bit (unreported_role p)

theorem State.kprRole_updEvent (bit p : Nat) : (s.updEvent bit).kprRole p = s.kprRole p :=
  s.fld_raiseAlso_kept updPage bit [0] (unreported_role p)

theorem State.kprRole_of_rd {s t : State} {p : Nat} (h : t.rd (kprKey p R.KPR_STATUS) = s.rd (kprKey p R.KPR_STATUS)) :
    t.kprRole p = s.kprRole p := State.fld_of_rd h 0 2

/-- What a change of a keeper pair's ROLE shows and leaves (Table 12-13). -/
theorem State.kprRole_setKpr (p : Nat) {role : Nat} (h : role < 4) : (s.setKpr p role).kprRole p = role := by
  unfold State.setKpr
  split
  case isTrue hrole => exact hrole
  case isFalse =>
    rw [State.kprRole_raise]
    exact (State.fld_setFld s (kprKey p R.KPR_STATUS) 0 2 role (by decide)).trans (Nat.mod_eq_of_lt h)

theorem State.upd_setKpr (p role : Nat) : (s.setKpr p role).upd = s.upd := by
  unfold State.setKpr
  split <;> rfl

theorem State.held_setFld (k lo w v : Nat) : s.bus.Held (s.setFld k lo w v).bus := (Bus.Held.refl s.bus).setFld k lo w v

theorem State.held_setKpr (p role : Nat) : s.bus.Held (s.setKpr p role).bus := by
  unfold State.setKpr
  split
  · exact .refl _
  · exact (s.held_setFld _ _ _ _).trans (State.held_raise (s.setFld (kprKey p R.KPR_STATUS) 0 2 role) _ _)

theorem State.rd_setKpr (q role : Nat) {p off : Nat} (hp : p < 0x80 := by decide) (hne : off ≠ hdrEvtPend := by decide) (ho : off < 4096 := by decide) :
    (s.setKpr q role).rd (rk p off) = s.rd (rk p off) := by
  have hkey : rk p off ≠ kprKey q R.KPR_STATUS :=
    rk_ne_page _ _ (by simp only [kprPage, Block.pg, Block.base]; omega) ho
  unfold State.setKpr
  split
  · rfl
  · exact (State.rd_raise_ctl _ hp hne ho _ 0).trans (s.rd_setFld_ne _ _ _ _ _ hkey)

/-! ### A keeper pair joins -/

theorem State.keeperJoin_eq (p : Nat) : s.keeperJoin p = (((s.setKpr p 3).shadowShown (kprBst p) p p).raise (kprBst p) 2).epochAuto := rfl

theorem State.upd_epochAuto : s.epochAuto.upd = s.upd := rfl
theorem State.bus_epochAuto : s.epochAuto.bus = s.bus := rfl
theorem State.rd_epochAuto (k : Nat) : s.epochAuto.rd k = s.rd k := rfl
theorem State.kprRole_epochAuto (p : Nat) : s.epochAuto.kprRole p = s.kprRole p := rfl
theorem State.upd_shadowShown (page unit spare : Nat) : (s.shadowShown page unit spare).upd = s.upd := rfl
theorem State.held_shadowShown (page unit spare : Nat) : s.bus.Held (s.shadowShown page unit spare).bus := (Bus.Held.refl s.bus).setFld _ _ _ _
theorem State.rd_shadowShown_ne (page unit spare : Nat) {k : Nat} (h : k ≠ rk page R.BST_STATUS) : (s.shadowShown page unit spare).rd k = s.rd k :=
  State.rd_setFld_ne _ _ _ _ _ _ h

theorem State.upd_keeperJoin (p : Nat) : (s.keeperJoin p).upd = s.upd := by
  rw [s.keeperJoin_eq, State.upd_epochAuto, State.raise_upd, State.upd_shadowShown, State.upd_setKpr]

theorem State.held_keeperJoin (p : Nat) : s.bus.Held (s.keeperJoin p).bus := by
  rw [s.keeperJoin_eq, State.bus_epochAuto]
  exact ((s.held_setKpr p 3).trans (State.held_shadowShown _ _ _ _)).trans (State.held_raise _ _ _)

theorem State.kprRole_keeperJoin (p : Nat) : (s.keeperJoin p).kprRole p = 3 := by
  rw [s.keeperJoin_eq, State.kprRole_epochAuto, State.kprRole_raise,
    State.kprRole_of_rd (State.rd_shadowShown_ne _ _ _ _ rk_ne_of_off)]
  exact s.kprRole_setKpr p (by decide)

/-! ### VI 0 passes to the other pair -/

/-- The timer and the event queue of a pair, carried to another. -/
def State.queueCarried (s : State) (a n : Nat) : State :=
  [R.KPR_TIMER, R.KPR_EVQ_BASE, R.KPR_EVQ_TAIL, R.KPR_EVQ_HEAD, R.KPR_EVQ_LOST].foldl
    (fun x off => x.wr (kprKey n off) (s.rd (kprKey a off))) s

/-- The work of a pair, its core with it. -/
def State.workCarried (s : State) (a n : Nat) : State :=
  (((s.queueCarried a n).setBit (kprKey n R.KPR_STATUS) 4 (s.bit (kprKey a R.KPR_STATUS) 4)).setZw (96 + n) (s.zw (96 + a))).setZw (96 + a)
    ZwCore.init

/-- VI 0, its EVT bits and its timer at the other pair. -/
def Bus.passed (b : Bus) (a n : Nat) : Bus :=
  { b with
    keeper := n
    evt := (b.evt.put 0 (96 + n) (b.evt.find 0 (96 + a))).put 0 (96 + a) 0
    timers := match b.timers.find? (tCore (96 + a)) with
      | some t => (b.timers.erase (tCore (96 + a))).set (tCore (96 + n)) t
      | none => b.timers.erase (tCore (96 + n)) }

/-- The pairs' ROLEs after a handover, and the pair last active. -/
def State.handedOver (s : State) (a n role : Nat) : State :=
  { ((s.setKpr n 1).setKpr a role) with boot := { s.boot with lastPair := n } }

theorem State.keeperMove_eq (role : Nat) : s.keeperMove role =
    ((s.workCarried s.bus.keeper (1 - s.bus.keeper)).on (·.passed s.bus.keeper (1 - s.bus.keeper))).handedOver s.bus.keeper
      (1 - s.bus.keeper) role := rfl

theorem State.upd_setBit (k i : Nat) (v : Bool) : (s.setBit k i v).upd = s.upd := rfl
theorem State.upd_setZw (c : Nat) (z : ZwCore) : (s.setZw c z).upd = s.upd := rfl
theorem State.bus_setZw (c : Nat) (z : ZwCore) : (s.setZw c z).bus = s.bus := rfl

theorem State.upd_workCarried (a n : Nat) : (s.workCarried a n).upd = s.upd := by
  rw [State.workCarried, State.upd_setZw, State.upd_setZw, State.upd_setBit, State.queueCarried,
    State.foldl_keeps State.upd _ (fun x off => x.wr (kprKey n off) (s.rd (kprKey a off))) (fun _ _ _ => rfl)]

theorem State.held_workCarried (a n : Nat) : s.bus.Held (s.workCarried a n).bus := by
  have hqueue : s.bus.Held (s.queueCarried a n).bus :=
    List.foldlRecOn (motive := fun x : State => s.bus.Held x.bus) _ _ (.refl s.bus) fun x hx off _ => hx.wr _ _
  rw [State.workCarried, State.bus_setZw, State.bus_setZw]
  exact hqueue.setBit _ _ _

theorem Bus.keeper_passed (b : Bus) (a n : Nat) : (b.passed a n).keeper = n := rfl
theorem Bus.grants_passed (b : Bus) (a n : Nat) : (b.passed a n).grants = b.grants := rfl
theorem State.bus_on (f : Bus → Bus) : (s.on f).bus = f s.bus := rfl
theorem State.upd_on (f : Bus → Bus) : (s.on f).upd = s.upd := rfl
theorem State.bus_handedOver (a n role : Nat) : (s.handedOver a n role).bus = ((s.setKpr n 1).setKpr a role).bus := rfl
theorem State.upd_handedOver (a n role : Nat) : (s.handedOver a n role).upd = ((s.setKpr n 1).setKpr a role).upd := rfl
theorem State.kprRole_eq_bus (p : Nat) : s.kprRole p = s.bus.fld (kprKey p R.KPR_STATUS) 0 2 := rfl

/-- VI 0 and the ROLE of the pair it leaves (R435, Table 16-9). -/
theorem State.keeperMove_shows {role : Nat} (h : role < 4) (hr : s.bus.Ranged) : (s.keeperMove role).bus.Ranged ∧
    (s.keeperMove role).bus.keeper = s.otherPair ∧ (s.keeperMove role).upd = s.upd ∧ (s.keeperMove role).kprRole s.bus.keeper = role := by
  have hwork := s.held_workCarried s.bus.keeper (1 - s.bus.keeper)
  have hupd := s.upd_workCarried s.bus.keeper (1 - s.bus.keeper)
  rw [s.keeperMove_eq, State.kprRole_eq_bus, State.bus_handedOver, State.upd_handedOver, ← State.kprRole_eq_bus]
  generalize s.workCarried s.bus.keeper (1 - s.bus.keeper) = t at *
  have hheld := ((t.on (·.passed s.bus.keeper (1 - s.bus.keeper))).held_setKpr (1 - s.bus.keeper) 1).trans
    (State.held_setKpr _ s.bus.keeper role)
  refine ⟨hheld.ranged ⟨?_, ?_⟩, hheld.keeper, ?_, State.kprRole_setKpr _ _ h⟩
  · rw [State.bus_on, Bus.grants_passed]
    exact (hwork.ranged hr).1
  · rw [State.bus_on, Bus.keeper_passed]
    omega
  · rw [State.upd_setKpr, State.upd_setKpr, State.upd_on, hupd]

/-- The registers that show the running image. -/
def State.imageRuns (s : State) (bank : Nat) : State :=
  (s.setFld (rk 0 hdrPageStatus) 17 1 bank).setFld (updKey R.UPD_IMG_INFO) 16 8 (imgSecver (flashBank s.upd.flash bank))

/-- The running image in a state: its signatures, its items and what it measures to. -/
def State.imageSet (s : State) (items : ImageItems) (l : List Byte) : State :=
  { (s.modBist (fun b => { b with sigs := sigMap items.bist })) with
    upd := { s.upd with items := items }
    idn := { s.idn with measImage := imgDigest l, measLoad := sha384 (items.load.map (·.toNat)) } }

theorem State.bus_imageSet (items : ImageItems) (l : List Byte) : (s.imageSet items l).bus = s.bus := rfl
theorem State.upd_imageSet (items : ImageItems) (l : List Byte) : (s.imageSet items l).upd = { s.upd with items := items } := rfl

theorem State.runImage_eq (bank : Nat) (items : ImageItems) :
    s.runImage bank items = (s.imageRuns bank).imageSet items (flashBank s.upd.flash bank) := rfl

theorem State.bus_runImage (bank : Nat) (items : ImageItems) : (s.runImage bank items).bus = (s.imageRuns bank).bus := by
  rw [s.runImage_eq, State.bus_imageSet]

theorem State.upd_runImage (bank : Nat) (items : ImageItems) : (s.runImage bank items).upd = { s.upd with items := items } := by
  rw [s.runImage_eq, State.upd_imageSet, State.imageRuns, State.upd_setFld, State.upd_setFld]

theorem State.held_imageRuns (bank : Nat) : s.bus.Held (s.imageRuns bank).bus := ((Bus.Held.refl s.bus).setFld _ _ _ _).setFld _ _ _ _

theorem State.bootBank_imageRuns {bank : Nat} (h : bank < 2) : (s.imageRuns bank).bootBank = bank := by
  unfold State.imageRuns State.bootBank
  rw [State.fld_setFld_ne _ _ _ _ _ _ _ _ (by decide), State.fld_setFld _ _ _ _ _ (by decide)]
  exact Nat.mod_eq_of_lt h

theorem State.updSwitch_eq (bank role step : Nat) : s.updSwitch bank role step = ((s.keeperMove role).runImage bank s.upd.other).modUpd
    (fun u => { u with other := s.upd.items, units := List.range 108, step := step }) := rfl

theorem State.bus_modUpd (f : Upd → Upd) : (s.modUpd f).bus = s.bus := rfl
theorem State.bootBank_eq_bus : s.bootBank = s.bus.fld (rk 0 hdrPageStatus) 17 1 := rfl

/-- VI 0, the image and the units after a handover (Table 16-9 step 4, R480). -/
theorem State.updSwitch_shows {bank role : Nat} (step : Nat) (hb : bank < 2) (h : role < 4) (hr : s.bus.Ranged) :
    (s.updSwitch bank role step).bus.Ranged ∧ (s.updSwitch bank role step).bus.keeper = s.otherPair ∧
    (s.updSwitch bank role step).bootBank = bank ∧ (s.updSwitch bank role step).kprRole s.bus.keeper = role ∧
    (s.updSwitch bank role step).upd = { s.upd with items := s.upd.other, other := s.upd.items, units := List.range 108, step := step } := by
  obtain ⟨hr2, hk, hupd, hrole⟩ := s.keeperMove_shows h hr
  have hbus : (s.updSwitch bank role step).bus = ((s.keeperMove role).imageRuns bank).bus := by
    rw [s.updSwitch_eq, State.bus_modUpd, State.bus_runImage]
  have hheld := (s.keeperMove role).held_imageRuns bank
  have hkey : kprKey s.bus.keeper R.KPR_STATUS ≠ rk 0 hdrPageStatus ∧ kprKey s.bus.keeper R.KPR_STATUS ≠ updKey R.UPD_IMG_INFO :=
    ⟨rk_ne_of_off, rk_ne_of_off⟩
  rw [State.bootBank_eq_bus, State.kprRole_eq_bus, hbus, ← State.bootBank_eq_bus, ← State.kprRole_eq_bus]
  refine ⟨hheld.ranged hr2, hheld.keeper.trans hk, State.bootBank_imageRuns _ hb, ?_, ?_⟩
  · refine Eq.trans (State.kprRole_of_rd ?_) hrole
    exact (State.rd_setFld_ne _ _ _ _ _ _ hkey.2).trans (State.rd_setFld_ne _ _ _ _ _ _ hkey.1)
  · rw [s.updSwitch_eq, State.upd_modUpd, State.upd_runImage, hupd]

end

/-! ### The authorising epoch and the standby -/

section
variable {s : State}

theorem State.updAuthorise_not {before : Nat} {ops : List ProtOp} (h : s.authorises before ops = false) : s.updAuthorise before ops = s :=
  if_pos (by rw [h]; rfl)

/-- An activation that starts, before its event. -/
def State.activating (s : State) : State := ((s.setUpd 5).setKpr s.otherPair 3).modUpd (fun u => { u with step := 1, hingeDown := false })

theorem State.updAuthorise_shows {before : Nat} {ops : List ProtOp} (hr : s.bus.Ranged) (h : s.authorises before ops = true) :
    (s.ticket ≠ before → s.updState = 4 → s.authDigest = s.rdList (updKey R.UPD_IMG_DIGEST) 12 →
      (s.updAuthorise before ops).updState = 5 ∧ (s.updAuthorise before ops).upd.step = 1 ∧
      (s.updAuthorise before ops).kprRole s.otherPair = 3 ∧ (s.updAuthorise before ops).pend updPage 3 = true) ∧
    (s.ticket = before ∨ s.updState ≠ 4 ∨ s.authDigest ≠ s.rdList (updKey R.UPD_IMG_DIGEST) 12 →
      (s.updAuthorise before ops).updState = s.updState ∧ (s.updAuthorise before ops).fld (updKey R.UPD_STATUS) 8 4 = 9 ∧
      (s.updAuthorise before ops).pend updPage 2 = true) := by
  have hgo : ¬(!s.authorises before ops) = true := by rw [h]; decide
  refine ⟨fun ht h4 hd => ?_, fun hno => ?_⟩
  · have heq : s.updAuthorise before ops = s.activating.updEvent 3 := by
      rw [State.updAuthorise, if_neg hgo, if_pos ⟨ht, h4, hd⟩, State.activating]
    have hstep : s.activating.upd.step = 1 := by rw [State.activating, State.upd_modUpd]
    have hset : s.activating.bus.Ranged := ((s.setUpd 5).held_setKpr s.otherPair 3).ranged hr
    have hstate : s.activating.updState = 5 := (State.fld_of_rd ((s.setUpd 5).rd_setKpr s.otherPair 3 (p := updPage) (off := R.UPD_STATUS)) 0 3).trans
      (s.updState_setUpd (by decide))
    have hrole : s.activating.kprRole s.otherPair = 3 := (s.setUpd 5).kprRole_setKpr s.otherPair (by decide)
    rw [heq, State.updState_updEvent, State.updEvent_upd, State.kprRole_updEvent]
    exact ⟨hstate, hstep, hrole, State.pend_updEvent _ hset (by decide)⟩
  · have hnot : ¬(s.ticket ≠ before ∧ s.updState = 4 ∧ s.authDigest = s.rdList (updKey R.UPD_IMG_DIGEST) 12) := fun ⟨ht, h4, hd⟩ =>
      hno.elim ht fun h => h.elim (absurd h4) (absurd hd)
    have heq : s.updAuthorise before ops = (s.setLast 9).updEvent 2 := by rw [State.updAuthorise, if_neg hgo, if_neg hnot]
    have hset : (s.setLast 9).bus.Ranged := s.ranged_setLast hr 9
    rw [heq, State.updState_updEvent, s.updState_setLast, State.fld_of_rd (State.status_updEvent _ 2), s.last_setLast (by decide)]
    exact ⟨rfl, rfl, State.pend_updEvent _ hset (by decide)⟩

variable {dt : Nat}

theorem exec_activationStandbyReady_not (h : s.updState ≠ 5 ∨ s.upd.step ≠ 1) : exec (.activationStandbyReady dt) s = .next (s.tick dt) :=
  congrArg Host.Outcome.next (if_pos h)

theorem exec_activationStandbyReady_goes {l : List Byte} (hl : l = flashBank s.upd.flash s.updTarget) (h5 : s.updState = 5) (h1 : s.upd.step = 1) :
    (imgCheck l (custKey s.rd) s.upd.otp = 0 → exec (.activationStandbyReady dt) s =
      .next { s.tick dt with upd := { s.upd with step := 3, other := Config.imageItems l } }) ∧
    (imgCheck l (custKey s.rd) s.upd.otp ≠ 0 → exec (.activationStandbyReady dt) s =
      .next ((s.tick dt).updAbandon.keeperJoin s.otherPair)) := by
  have hgo : ¬((s.tick dt).updState ≠ 5 ∨ (s.tick dt).upd.step ≠ 1) := fun h => h.elim (absurd h5) (absurd h1)
  subst hl
  exact ⟨fun h => congrArg Host.Outcome.next ((if_neg hgo).trans (if_neg (not_not.mpr h))),
    fun h => congrArg Host.Outcome.next ((if_neg hgo).trans (if_pos h))⟩

/-! ### The epoch, and the units that follow -/

theorem State.updEpoch_switches (hr : s.bus.Ranged) (h5 : s.updState = 5) (h3 : s.upd.step = 3) : s.updEpoch.bus.keeper = s.otherPair ∧
    s.updEpoch.bootBank = s.updTarget ∧ s.updEpoch.upd.step = 4 ∧ s.updEpoch.upd.units = List.range 108 ∧
    s.updEpoch.upd.items = s.upd.other ∧ s.updEpoch.upd.other = s.upd.items ∧ s.updEpoch.pend updPage 4 = true := by
  have heq : s.updEpoch = (s.updSwitch s.updTarget 2 4).updEvent 4 := by
    unfold State.updEpoch
    rw [if_neg (not_not.mpr h5), h3]
    rfl
  have htarget : s.updTarget < 2 := fieldOf_lt 4 1 _
  obtain ⟨hset, hk, hbank, -, hupd⟩ := s.updSwitch_shows 4 htarget (role := 2) (by decide) hr
  have hquiet := (State.Quiet.refl (s.updSwitch s.updTarget 2 4)).updEvent hset 4
  rw [heq, State.updEvent_upd, hupd]
  exact ⟨hquiet.keeper.trans hk, (State.fld_of_rd (State.rd_updEvent _ 4 (p := 0) (off := hdrPageStatus)) 17 1).trans hbank, rfl, rfl, rfl, rfl,
    State.pend_updEvent _ hset (by decide)⟩

theorem exec_unitImageSwap_takes {u : Nat} {s2 : State} (hs : s.upd.step = 4 ∨ s.upd.step = 8) (ht : unitTurn s.upd.units u = true)
    (h2 : (s.tick dt).unitTake u = some s2) : exec (.unitImageSwap dt u) s = .next { s2 with upd := { s2.upd with
      units := s2.upd.units.filter (· != u)
      step := if (s2.upd.units.filter (· != u)).isEmpty ∧ s2.upd.step = 4 then 5 else s2.upd.step } } := by
  have hgo : ¬(((s.tick dt).upd.step ≠ 4 ∧ (s.tick dt).upd.step ≠ 8) ∨ unitTurn (s.tick dt).upd.units u = false) := fun h =>
    h.elim (fun h => hs.elim h.1 h.2) fun h => absurd (ht.symm.trans h) (by decide)
  show execUnitImageSwap dt u s = _
  unfold execUnitImageSwap
  dsimp only
  rw [if_neg hgo, h2]
  rfl

theorem exec_unitImageSwap_not {u : Nat} (h : (s.upd.step ≠ 4 ∧ s.upd.step ≠ 8) ∨ unitTurn s.upd.units u = false) :
    exec (.unitImageSwap dt u) s = .next (s.tick dt) := congrArg Host.Outcome.next (if_pos h)

end

/-! ### Trial, confirmation and reverse -/

section
variable {s : State} {dt : Nat}

/-- A confirmed image, durable in the flash and in the fuses (R479). -/
def State.imageConfirmed (s : State) : State :=
  ((s.setFld (updKey R.UPD_IMG_INFO) 8 8 (max s.upd.otp (imgSecver (flashBank s.upd.flash s.bootBank)))).setFld (updKey R.UPD_STATUS) 5 1
    s.bootBank).modUpd (fun u => { u with
      otp := max s.upd.otp (imgSecver (flashBank s.upd.flash s.bootBank)), flash := flashConfirm u.flash s.bootBank, step := 0, other := noItems })

theorem State.upd_setLast (s : State) (code : Nat) : (s.setLast code).upd = s.upd := rfl
theorem State.upd_disarm (s : State) (t : Nat) : (s.disarm t).upd = s.upd := rfl

/-- The trial is over: IDLE and CONFIRMED. -/
def State.trialEnds (s : State) : State := ((s.disarm tTrial).setUpd 1).setLast 11

theorem State.trialEnds_shows (s : State) (hr : s.bus.Ranged) : (s.trialEnds.updEvent 5).updState = 1 ∧
    (s.trialEnds.updEvent 5).fld (updKey R.UPD_STATUS) 8 4 = 11 ∧ (s.trialEnds.updEvent 5).pend updPage 5 = true ∧
    (s.trialEnds.updEvent 5).upd = s.upd ∧ (s.trialEnds.updEvent 5).bus.running tTrial = false ∧
    ∀ p, (s.trialEnds.updEvent 5).kprRole p = s.kprRole p := by
  have hset : s.trialEnds.bus.Ranged := State.ranged_setLast _ (State.ranged_setUpd _ (State.ranged_disarm hr tTrial) 1) 11
  have hquiet := (State.Quiet.refl s.trialEnds).updEvent hset 5
  have hstate : s.trialEnds.updState = 1 := (State.updState_setLast _ 11).trans (State.updState_setUpd _ (by decide))
  have hupd : s.trialEnds.upd = s.upd := by rw [State.trialEnds, State.upd_setLast, State.upd_setUpd, State.upd_disarm]
  have hrun : s.trialEnds.bus.running tTrial = false := (State.held_setFld _ _ _ _ _).running _ |>.trans
    ((State.held_setFld _ _ _ _ _).running _) |>.trans (s.running_disarm_self tTrial)
  have hrole : ∀ p, s.trialEnds.kprRole p = s.kprRole p := fun p => State.kprRole_of_rd
    ((State.rd_setFld_ne _ _ _ _ _ _ rk_ne_of_off).trans (State.rd_setFld_ne _ _ _ _ _ _ rk_ne_of_off))
  exact ⟨(State.updState_updEvent _ 5).trans hstate, (State.fld_of_rd (State.status_updEvent _ 5) 8 4).trans (State.last_setLast _ (by decide)),
    State.pend_updEvent _ hset (by decide), (State.updEvent_upd _ 5).trans hupd, (hquiet.running _).trans hrun,
    fun p => (State.kprRole_updEvent _ 5 p).trans (hrole p)⟩

section
variable (ha : s.bus.pageAccess updPage 0 = 2) (hu : s.bus.pageUp updPage = true)
include ha hu

theorem exec_updConfirm_eq (h6 : s.updState = 6) : exec (.updConfirm dt 0) s = .next ((if s.upd.hingeDown then (s.tick dt).imageConfirmed
    else (s.tick dt).imageConfirmed.keeperJoin s.otherPair).trialEnds.updEvent 5) :=
  congrArg Host.Outcome.next ((State.guardWrite_owner (s.tick dt) 0 updPage _ ha hu).trans ((if_neg (not_not.mpr rfl)).trans
    (if_neg (not_not.mpr h6))))

theorem exec_updConfirm_refused (h : s.updState ≠ 6) : exec (.updConfirm dt 0) s = .next ((s.tick dt).updRefuse 5) :=
  congrArg Host.Outcome.next ((State.guardWrite_owner (s.tick dt) 0 updPage _ ha hu).trans ((if_neg (not_not.mpr rfl)).trans (if_pos h)))

theorem exec_updReverse_goes (h : s.updState = 6 ∨ (s.updState = 5 ∧ 4 ≤ s.upd.step)) :
    exec (.updReverse dt 0) s = .next (s.tick dt).updReverse :=
  congrArg Host.Outcome.next ((State.guardWrite_owner (s.tick dt) 0 updPage _ ha hu).trans ((if_neg (not_not.mpr rfl)).trans (if_pos h)))

theorem exec_updReverse_refused (h6 : s.updState ≠ 6) (h5 : s.updState ≠ 5 ∨ s.upd.step < 4) :
    exec (.updReverse dt 0) s = .next ((s.tick dt).updRefuse 5) := by
  have hno : ¬((s.tick dt).updState = 6 ∨ ((s.tick dt).updState = 5 ∧ 4 ≤ (s.tick dt).upd.step)) := fun h =>
    h.elim h6 fun h => h5.elim (fun h5 => h5 h.1) fun h5 => absurd h.2 (Nat.not_le.mpr h5)
  exact congrArg Host.Outcome.next ((State.guardWrite_owner (s.tick dt) 0 updPage _ ha hu).trans ((if_neg (not_not.mpr rfl)).trans (if_neg hno)))

theorem exec_updConfirm_shows (hr : s.bus.Ranged) (h6 : s.updState = 6) : ∃ t, exec (.updConfirm dt 0) s = .next t ∧ t.updState = 1 ∧
    t.fld (updKey R.UPD_STATUS) 8 4 = 11 ∧ t.pend updPage 5 = true ∧
    t.upd.otp = max s.upd.otp (imgSecver (flashBank s.upd.flash s.bootBank)) ∧ t.upd.flash = flashConfirm s.upd.flash s.bootBank ∧
    t.bus.running tTrial = false ∧ (s.upd.hingeDown = false → t.kprRole s.otherPair = 3) := by
  have hset : (s.tick dt).imageConfirmed.bus.Ranged := hr
  have hupd : (s.tick dt).imageConfirmed.upd.otp = max s.upd.otp (imgSecver (flashBank s.upd.flash s.bootBank)) ∧
      (s.tick dt).imageConfirmed.upd.flash = flashConfirm s.upd.flash s.bootBank := ⟨rfl, rfl⟩
  refine ⟨_, exec_updConfirm_eq ha hu h6, ?_⟩
  generalize (s.tick dt).imageConfirmed = t at *
  cases hh : s.upd.hingeDown with
  | true =>
    obtain ⟨hstate, hlast, hpend, hu', hrun, -⟩ := t.trialEnds_shows hset
    rw [if_pos rfl, hu']
    exact ⟨hstate, hlast, hpend, hupd.1, hupd.2, hrun, fun h => absurd h (by decide)⟩
  | false =>
    obtain ⟨hstate, hlast, hpend, hu', hrun, hrole⟩ := (t.keeperJoin s.otherPair).trialEnds_shows ((t.held_keeperJoin _).ranged hset)
    rw [if_neg (by decide), hu', t.upd_keeperJoin]
    exact ⟨hstate, hlast, hpend, hupd.1, hupd.2, hrun, fun _ => (hrole _).trans (t.kprRole_keeperJoin _)⟩

end

theorem exec_updConfirm_denied {vi : Nat} (hvi : vi ≠ 0) (ha : s.bus.pageAccess updPage vi = 2) (hu : s.bus.pageUp updPage = true) :
    exec (.updConfirm dt vi) s = .next ((s.tick dt).on (·.denied)) ∧ exec (.updReverse dt vi) s = .next ((s.tick dt).on (·.denied)) :=
  ⟨congrArg Host.Outcome.next ((State.guardWrite_owner (s.tick dt) vi updPage _ ha hu).trans (if_pos hvi)),
    congrArg Host.Outcome.next ((State.guardWrite_owner (s.tick dt) vi updPage _ ha hu).trans (if_pos hvi))⟩

theorem State.updReverse_shows (s : State) : (s.upd.hingeDown = false → s.updReverse.updState = 7 ∧ s.updReverse.upd.step = 7 ∧
    s.updReverse.bus.running tTrial = false) ∧ (s.upd.hingeDown = true → s.updReverse = s.deviceReset) := by
  refine ⟨fun h => ?_, fun h => if_pos h⟩
  have heq : s.updReverse = ((s.disarm tTrial).setUpd 7).modUpd (fun u => { u with step := 7, units := [] }) := if_neg (by rw [h]; decide)
  rw [heq, State.updState_modUpd, State.upd_modUpd, State.bus_modUpd]
  exact ⟨State.updState_setUpd _ (by decide), rfl, s.running_disarm_self tTrial⟩

theorem Bus.left_of_find {b : Bus} {t at' : Nat} (h : b.timers.find? t = some at') : b.left t = at' - b.now := by
  rw [Bus.left, h]

theorem exec_trialWarn_goes (h6 : s.updState = 6) (hrun : (s.tick dt).bus.running tTrial = true) (hleft : (s.tick dt).bus.left tTrial ≤ clkS 60) :
    exec (.trialWarn dt) s = .next ((s.tick dt).updEvent 7) := congrArg Host.Outcome.next (if_pos ⟨h6, hrun, hleft⟩)

theorem exec_trialWarn_shows {at' : Nat} (hr : s.bus.Ranged) (h6 : s.updState = 6) (ht : s.bus.timers.find? tTrial = some at')
    (hleft : at' ≤ s.bus.now + dt + clkS 60) : ∃ t, exec (.trialWarn dt) s = .next t ∧ t.pend updPage 7 = true ∧
      (s.tick dt).After t [pendKey updPage] := by
  have ht' : (s.tick dt).bus.timers.find? tTrial = some at' := ht
  have hrun : (s.tick dt).bus.running tTrial = true := by
    rw [Bus.running, ht']
    rfl
  have hsixty : (s.tick dt).bus.left tTrial ≤ clkS 60 := by
    rw [Bus.left_of_find ht', show (s.tick dt).bus.now = s.bus.now + dt from rfl]
    generalize clkS 60 = c at *
    omega
  have hset : (s.tick dt).bus.Ranged := hr
  exact ⟨_, exec_trialWarn_goes h6 hrun hsixty, State.pend_updEvent (s.tick dt) hset (bit := 7) (by decide),
    (State.After.refl (s.tick dt) _).updEvent hset 7 (List.mem_singleton_self _)⟩

theorem exec_trialWarn_not (h : s.updState ≠ 6) : exec (.trialWarn dt) s = .next (s.tick dt) :=
  congrArg Host.Outcome.next (if_neg fun hc => h hc.1)

theorem exec_trialTimeout_reverses (hd : (s.tick dt).due tTrial = true) (h6 : s.updState = 6) :
    exec (.trialTimeout dt) s = .next ((s.tick dt).disarm tTrial).updReverse :=
  congrArg Host.Outcome.next ((State.onExpiry_due _ _ _ hd).trans (if_pos h6))

/-! ### The reverse handover -/

theorem exec_reverseHandover_eq (h7 : s.updState = 7) (hs : s.upd.step = 7) : exec (.reverseHandover dt) s =
    .next (((s.tick dt).updSwitch (1 - s.bootBank) 3 8).keeperJoin ((s.tick dt).updSwitch (1 - s.bootBank) 3 8).otherPair) :=
  congrArg Host.Outcome.next (if_neg fun h => h.elim (absurd h7) (absurd hs))

theorem State.bootBank_keeperJoin (s : State) (p : Nat) : (s.keeperJoin p).bootBank = s.bootBank := by
  have hne : rk 0 hdrPageStatus ≠ rk (kprBst p) R.BST_STATUS := rk_ne_of_off
  have hset := s.rd_setKpr p 3 (p := 0) (off := hdrPageStatus)
  refine State.fld_of_rd ?_ 17 1
  rw [s.keeperJoin_eq, State.rd_epochAuto, State.rd_raise_ctl _ (p := 0) (off := hdrPageStatus) (by decide) (by decide) (by decide),
    State.rd_shadowShown_ne _ _ _ _ hne, hset]

theorem exec_reverseHandover_shows (hr : s.bus.Ranged) (h7 : s.updState = 7) (hs : s.upd.step = 7) :
    ∃ t, exec (.reverseHandover dt) s = .next t ∧ t.bus.keeper = s.otherPair ∧ t.bootBank = 1 - s.bootBank ∧ t.upd.step = 8 ∧
      t.upd.units = List.range 108 ∧ t.upd.items = s.upd.other ∧ t.kprRole s.bus.keeper = 3 := by
  have hbank : 1 - s.bootBank < 2 := by omega
  obtain ⟨-, hk, hb, -, hupd⟩ := (s.tick dt).updSwitch_shows 8 hbank (role := 3) (by decide) hr
  refine ⟨_, exec_reverseHandover_eq h7 hs, ?_⟩
  generalize (s.tick dt).updSwitch (1 - s.bootBank) 3 8 = t at *
  have hback : t.otherPair = s.bus.keeper := by
    have hlt := hr.2
    show 1 - t.bus.keeper = _
    rw [hk]
    show 1 - (1 - s.bus.keeper) = s.bus.keeper
    omega
  rw [hback, t.upd_keeperJoin, hupd, t.bootBank_keeperJoin]
  exact ⟨(t.held_keeperJoin _).keeper.trans hk, hb, rfl, rfl, rfl, t.kprRole_keeperJoin _⟩

theorem exec_reverse_not (h : s.updState ≠ 7) : exec (.reverseHandover dt) s = .next (s.tick dt) ∧
    exec (.reverseComplete dt) s = .next (s.tick dt) :=
  ⟨congrArg Host.Outcome.next (if_pos (.inl h)), congrArg Host.Outcome.next (if_pos (.inl h))⟩

/-- A reverse handover complete, before its event. -/
def State.reversed (s : State) : State := ((s.loadTables.setUpd 1).setLast 12).modUpd (fun u => { u with step := 0, other := noItems })

theorem State.loadTables_quiet (s : State) (hr : s.bus.Ranged) : s.Quiet s.loadTables := by
  unfold State.loadTables
  dsimp only
  have h1 := (State.Quiet.refl s).foldl (f := fun a t => a.wr (tableKey t.1 t.2.1) t.2.2) hr s.upd.items.tables fun a _ t _ =>
    (State.Quiet.refl a).wr _ _
  exact h1.trans ((State.Quiet.refl _).foldl (h1.ranged hr) _ fun a _ e _ => (State.Quiet.refl a).wr _ _)

theorem exec_reverseComplete_shows (hr : s.bus.Ranged) (h7 : s.updState = 7) (h8 : s.upd.step = 8) (hn : s.upd.units = []) :
    ∃ t, exec (.reverseComplete dt) s = .next t ∧ t.updState = 1 ∧ t.fld (updKey R.UPD_STATUS) 8 4 = 12 ∧ t.upd.step = 0 ∧
      t.pend updPage 6 = true := by
  have hexec : exec (.reverseComplete dt) s = .next ((s.tick dt).reversed.updEvent 6) :=
    congrArg Host.Outcome.next (if_neg fun h => h.elim (absurd h7) fun h => h.elim (absurd h8) (absurd hn))
  have htables := ((s.tick dt).loadTables_quiet hr).ranged hr
  have hset : (s.tick dt).reversed.bus.Ranged := State.ranged_setLast _ (State.ranged_setUpd _ htables 1) 12
  have hstep : (s.tick dt).reversed.upd.step = 0 := by rw [State.reversed, State.upd_modUpd]
  have hlast : (s.tick dt).reversed.fld (updKey R.UPD_STATUS) 8 4 = 12 := (State.fld_modUpd _ _ _ 8 4).trans (State.last_setLast _ (by decide))
  have hstate : (s.tick dt).reversed.updState = 1 :=
    (State.updState_modUpd _ _).trans ((State.updState_setLast _ 12).trans (State.updState_setUpd _ (by decide)))
  refine ⟨_, hexec, ?_⟩
  rw [State.updState_updEvent, State.fld_of_rd (State.status_updEvent _ 6), State.updEvent_upd]
  exact ⟨hstate, hlast, hstep, State.pend_updEvent _ hset (by decide)⟩

/-! ### Recovery -/

theorem exec_updRecover_goes (ha : s.bus.pageAccess updPage 1 = 2) (hu : s.bus.pageUp updPage = true) (hrec : s.bus.recovery = true)
    (h4 : s.updState = 4) : exec (.updRecover dt 1) s =
      .next (State.deviceReset { s.tick dt with upd := { s.upd with flash := flashConfirm s.upd.flash s.updTarget } }) := by
  have hgo : ¬((!(s.tick dt).bus.recovery) = true ∨ (s.tick dt).updState ≠ 4) := fun h => h.elim
    (fun h => absurd ((congrArg not hrec).symm.trans h) (by decide)) (absurd h4)
  exact congrArg Host.Outcome.next ((State.guardWrite_owner (s.tick dt) 1 updPage _ ha hu).trans ((if_neg (not_not.mpr rfl)).trans (if_neg hgo)))

theorem exec_updRecover_refused (ha : s.bus.pageAccess updPage 1 = 2) (hu : s.bus.pageUp updPage = true)
    (h : s.bus.recovery = false ∨ s.updState ≠ 4) : exec (.updRecover dt 1) s = .next ((s.tick dt).updRefuse 5) := by
  have hno : (!(s.tick dt).bus.recovery) = true ∨ (s.tick dt).updState ≠ 4 := h.imp (fun h => congrArg not h) id
  exact congrArg Host.Outcome.next ((State.guardWrite_owner (s.tick dt) 1 updPage _ ha hu).trans ((if_neg (not_not.mpr rfl)).trans (if_pos hno)))

end

/-- Settles O57: the transfer by the states that allow each command and by `firstOf` of the block's conditions; the handovers by
`updSwitch_shows`, with the keeper pairs' ROLEs as the registers that no report writes. -/
theorem updatesAreVerifiedTriedConfirmedOrReversed : Obligations.UpdatesAreVerifiedTriedConfirmedOrReversed := by
  unfold Obligations.UpdatesAreVerifiedTriedConfirmedOrReversed
  refine ⟨fun dt vi s ha hu h => exec_updOpen_shows ha hu h,
    fun dt vi bytes s ha hu => ⟨exec_updOpen_refused ha hu, exec_updBlock_refused ha hu bytes, exec_updAbort_refused ha hu,
      fun _ hb => exec_updVerify_busy ha hu hb, exec_updVerify_missing ha hu⟩,
    fun s code hr hc => s.updRefuse_shows hr hc, fun dt vi bytes s ha hu h2 => exec_updBlock_takes ha hu bytes h2,
    fun s bytes data hd => s.takeBlock_shows hd, fun s data => s.blockCheck_iff data,
    fun dt off data s hr h => ⟨_, exec_updBlockWritten_stands h, State.blockStands_shows (s := s.tick dt) off data hr⟩,
    fun dt s h => exec_updBlockWritten_none h, fun dt vi s ha hu h2 hb ht hm => exec_updVerify_goes ha hu h2 hb ht hm,
    fun dt code s hr h3 hc => ?_, fun dt s h => exec_updVerifyComplete_not h, fun dt vi s ha hu h => exec_updAbort_shows ha hu h,
    fun dt s ha hu hrec h4 => ⟨_, rfl, exec_updRecover_goes ha hu hrec h4⟩, fun dt s ha hu h => exec_updRecover_refused ha hu h,
    fun s before ops h => State.updAuthorise_not h, fun s before ops hr h => State.updAuthorise_shows hr h,
    fun dt l s hl h5 h1 => exec_activationStandbyReady_goes hl h5 h1, fun dt s h => exec_activationStandbyReady_not h,
    fun s hr h5 h3 => State.updEpoch_switches hr h5 h3, fun dt u s s2 hs ht h2 => exec_unitImageSwap_takes hs ht h2,
    fun dt u s h => exec_unitImageSwap_not h, fun dt s hr ha hu h6 => exec_updConfirm_shows ha hu hr h6,
    fun dt s ha hu => ⟨exec_updConfirm_refused ha hu, exec_updReverse_goes ha hu, exec_updReverse_refused ha hu⟩,
    fun dt vi s hvi ha hu => exec_updConfirm_denied hvi ha hu, fun s => s.updReverse_shows,
    fun dt at' s hr h6 ht hl => exec_trialWarn_shows hr h6 ht hl, fun dt s h => exec_trialWarn_not h,
    fun dt s hd h6 => exec_trialTimeout_reverses hd h6, fun dt s hr h7 hs => exec_reverseHandover_shows hr h7 hs,
    fun dt s h => exec_reverse_not h, fun dt s hr h7 h8 hn => exec_reverseComplete_shows hr h7 h8 hn⟩
  subst hc
  exact ⟨fun h0 => exec_updVerifyComplete_valid hr h3 h0, fun h0 h16 => exec_updVerifyComplete_fails hr h3 h0 h16⟩

end Sys2Proof.Machine
end

section
-- One theorem after another: each waiting thread takes 256 MB of the memory the check allows.
set_option Elab.async false
/-! SUPPORT. Domains on their own, the sections of Watch, and wake sources (R400, R407 to R410). The statement on them, settled. -/

namespace Sys2Proof.Machine

/-! ### A request on a domain -/

/-- The domains that may leave on their own. -/
theorem ownStates_domain {d req : Nat} (h : req ∈ ownStates d) : d ≠ 10 ∧ req < 8 := by
  unfold ownStates at h
  split_ifs at h with h1 h2
  · simp only [List.mem_cons, List.not_mem_nil, or_false] at h
    omega
  · simp only [List.mem_cons, List.not_mem_nil, or_false] at h
    omega
  · exact absurd h List.not_mem_nil

section
variable (s : State) (d : Nat)

/-- The registers of a request that is taken. -/
def State.domAsked (s : State) (d req : Nat) : State :=
  ((s.wr (pwrDKey d R.PWR_D_CTRL) req).setFld (pwrDKey d R.PWR_D_STATUS) 4 4 0).setBit (pwrDKey d R.PWR_D_STATUS) 9 true

/-- The state a domain goes to, or returns from. -/
def State.withTarget (s : State) (d st : Nat) : State := { s with power := { s.power with target := s.power.target.set d st } }

/-- A domain that wakes, with the state it comes from and the time it began. -/
def State.wakesFromAt (s : State) (d st now : Nat) : State :=
  { s with power := { s.power with target := s.power.target.set d st, since := s.power.since.set d now } }

theorem State.domRequest_busy (req : Nat) (h : s.ladder.phase ≠ 0) : s.domRequest d req = s.setFld (pwrDKey d R.PWR_D_STATUS) 4 4 1 := if_pos h

theorem State.domRequest_leaves {req : Nat} (h : s.ladder.phase = 0) (h0 : req ≠ 0) (hown : req ∈ ownStates d) (hrun : s.bus.domState d = 0)
    (hpwr : s.pwrState = 0) (hmay : s.mayLeave d req = true) :
    s.domRequest d req = ((s.domAsked d req).drainDom d).withTarget d req := by
  have hgo : ¬(!(ownStates d).contains req || decide (s.bus.domState d ≠ 0) || decide (s.pwrState ≠ 0) || !s.mayLeave d req) = true := by
    rw [List.contains_iff_mem.mpr hown, hrun, hpwr, hmay]
    decide
  exact (if_neg (not_not.mpr h)).trans ((if_neg h0).trans (if_neg hgo))

theorem State.domRequest_refused {req : Nat} (h : s.ladder.phase = 0) (h0 : req ≠ 0)
    (hno : req ∉ ownStates d ∨ s.bus.domState d ≠ 0 ∨ s.pwrState ≠ 0 ∨ s.mayLeave d req = false) : s.domRequest d req = s.domRefuse d 5 := by
  have hgo : (!(ownStates d).contains req || decide (s.bus.domState d ≠ 0) || decide (s.pwrState ≠ 0) || !s.mayLeave d req) = true := by
    simp only [Bool.or_eq_true, Bool.not_eq_true', decide_eq_true_eq, List.contains_eq_mem, decide_eq_false_iff_not]
    rcases hno with hreq | hdom | hpwr | hmay
    · exact .inl (.inl (.inl hreq))
    · exact .inl (.inl (.inr hdom))
    · exact .inl (.inr hpwr)
    · exact .inr hmay
  exact (if_neg (not_not.mpr h)).trans ((if_neg h0).trans (if_pos hgo))

theorem State.domRequest_wakes (h : s.ladder.phase = 0) (h9 : s.bit (pwrDKey d R.PWR_D_STATUS) 9 = true) (h5 : s.bus.domState d ≠ 5)
    (h6 : s.bus.domState d ≠ 6) :
    s.domRequest d 0 = ((s.wr (pwrDKey d R.PWR_D_CTRL) 0).setDom d 6).wakesFromAt d (s.bus.domState d) s.bus.now := by
  unfold State.domRequest
  rw [if_neg (not_not.mpr h), if_pos rfl, if_pos ⟨h9, h5, h6⟩]
  rfl

theorem State.domAsked_quiet (req : Nat) : s.Quiet (s.domAsked d req) := (((State.Quiet.refl s).wr _ _).setFld _ _ _ _).setBit _ _ _

theorem State.domState_eq_fld : s.bus.domState d = s.fld (pwrDKey d R.PWR_D_STATUS) 0 4 := rfl

theorem State.domState_domAsked (req : Nat) : (s.domAsked d req).bus.domState d = s.bus.domState d := by
  have hne : pwrDKey d R.PWR_D_STATUS ≠ pwrDKey d R.PWR_D_CTRL := rk_ne_of_off
  rw [State.domState_eq_fld, State.domAsked, State.fld_setBit_of_disjoint _ _ 9 _ 0 4 (by decide) (by decide),
    State.fld_setFld_of_disjoint _ _ 4 4 _ 0 4 (by decide) (by decide), State.fld_wr_ne _ _ _ _ _ _ hne, ← State.domState_eq_fld]

variable {d} (hd : d < 22)
include hd

theorem State.fld_setDom (st : Nat) {lo w : Nat} (hlo : 4 ≤ lo) :
    (s.setDom d st).fld (pwrDKey d R.PWR_D_STATUS) lo w = s.fld (pwrDKey d R.PWR_D_STATUS) lo w :=
  fieldOf_congr lo w _ _ fun i _ => by
    rw [← bitOf_eq_testBit, ← bitOf_eq_testBit]
    exact s.bit_setDom d st hd (by omega)

/-- What a request that is taken shows: the domain drains. -/
theorem State.domAsked_drains {req : Nat} (hr : s.bus.Ranged) (hreq : req < 8) (hrun : s.bus.domState d = 0) :
    ((s.domAsked d req).setDom d 5).bus.domState d = 5 ∧ ((s.domAsked d req).setDom d 5).rd (pwrDKey d R.PWR_D_CTRL) = req ∧
    ((s.domAsked d req).setDom d 5).fld (pwrDKey d R.PWR_D_STATUS) 4 4 = 0 ∧
    ((s.domAsked d req).setDom d 5).bit (pwrDKey d R.PWR_D_STATUS) 9 = true ∧
    ((s.domAsked d req).setDom d 5).pend (Block.pwrD.pg d) 2 = true := by
  have hne : pwrDKey d R.PWR_D_CTRL ≠ pwrDKey d R.PWR_D_STATUS := rk_ne_of_off
  have hset : (s.domAsked d req).bus.Ranged := (s.domAsked_quiet d req).ranged hr
  have hstate : (s.domAsked d req).bus.domState d ≠ 5 := by
    rw [s.domState_domAsked, hrun]
    decide
  refine ⟨State.domState_setDom _ d 5 hd (by decide), ?_, ?_, ?_, State.pend_setDom _ d 5 hset hd hstate⟩
  · rw [pwrDKey, State.rd_setDom _ d 5 hne (pwrDPage_lt hd), ← pwrDKey, State.domAsked, State.rd_setBit_ne _ _ _ _ _ hne,
      State.rd_setFld_ne _ _ _ _ _ _ hne, State.rd_wr]
    exact Nat.mod_eq_of_lt (by omega)
  · rw [State.fld_setDom _ hd 5 (by decide), State.domAsked, State.fld_setBit_of_disjoint _ _ 9 _ 4 4 (by decide) (by decide),
      State.fld_setFld _ _ 4 4 _ (by decide)]
    rfl
  · rw [State.bit_setDom _ d 5 hd (by decide), State.domAsked, State.bit_setBit _ _ 9 _ (by decide)]

theorem State.domRefuse_shows {r : Nat} (hr : s.bus.Ranged) (hlt : r < 16) : (s.domRefuse d r).fld (pwrDKey d R.PWR_D_STATUS) 4 4 = r ∧
    (s.domRefuse d r).pend (Block.pwrD.pg d) 6 = true ∧ (s.domRefuse d r).bus.domState d = s.bus.domState d := by
  have hp := plainPage_pwrD hd
  have hset : (s.setFld (pwrDKey d R.PWR_D_STATUS) 4 4 r).bus.Ranged := s.ranged_setFld hr _ _ _ _
  have hafter : (s.setFld (pwrDKey d R.PWR_D_STATUS) 4 4 r).After ((s.setFld (pwrDKey d R.PWR_D_STATUS) 4 4 r).cfgErr (Block.pwrD.pg d))
      [rk (Block.pwrD.pg d) hdrPageStatus] := (State.After.refl _ _).cfgErr hset _ hp.entryGranted (List.mem_singleton_self _)
  have herr : ((s.setFld (pwrDKey d R.PWR_D_STATUS) 4 4 r).cfgErr (Block.pwrD.pg d)).bus.Ranged := hset.of_after hafter
  have hrd : (s.domRefuse d r).rd (pwrDKey d R.PWR_D_STATUS) = (s.setFld (pwrDKey d R.PWR_D_STATUS) 4 4 r).rd (pwrDKey d R.PWR_D_STATUS) :=
    (State.rd_raise_ctl _ (pwrDPage_lt hd) (by decide) (by decide) (Block.pwrD.pg d) 6).trans
      (hafter.rd _ (fun h => (rk_ne_of_off : rk _ R.PWR_D_STATUS ≠ rk _ hdrPageStatus) (List.mem_singleton.mp h)) (hp.reportKey _ (by decide)))
  refine ⟨(State.fld_of_rd hrd 4 4).trans ?_, hp.pend_raise herr 6 (by decide), (State.domState_of_rd hrd).trans ?_⟩
  · exact (s.fld_setFld (pwrDKey d R.PWR_D_STATUS) 4 4 r (by decide)).trans (Nat.mod_eq_of_lt hlt)
  · exact s.fld_setFld_of_disjoint (pwrDKey d R.PWR_D_STATUS) 4 4 r 0 4 (by decide) (by decide)

end

section
variable (s : State) (d : Nat)

theorem State.bus_withTarget (st : Nat) : (s.withTarget d st).bus = s.bus := rfl
theorem State.power_withTarget (st : Nat) : (s.withTarget d st).power = { s.power with target := s.power.target.set d st } := rfl
theorem State.bus_drainSince : (s.drainSince d).bus = (s.setDom d 5).bus := rfl
theorem State.power_drainSince : (s.drainSince d).power = { s.power with since := s.power.since.set d s.bus.now } := rfl
theorem State.bus_wakesFromAt (st now : Nat) : (s.wakesFromAt d st now).bus = s.bus := rfl
theorem State.power_wakesFromAt (st now : Nat) : (s.wakesFromAt d st now).power =
    { s.power with target := s.power.target.set d st, since := s.power.since.set d now } := rfl
theorem State.now_domAsked (req : Nat) : (s.domAsked d req).bus.now = s.bus.now := (s.domAsked_quiet d req).now
theorem State.rd_eq_bus (k : Nat) : s.rd k = s.bus.rd k := rfl
theorem State.bit_eq_bus (k i : Nat) : s.bit k i = s.bus.bit k i := rfl

end

section
variable {s : State} {dt d : Nat} (ha : s.bus.pageAccess (Block.pwrD.pg d) 0 = 2) (hup : s.bus.pageUp (Block.pwrD.pg d) = true)
include ha hup

theorem exec_pwrDRequest (v : Nat) : exec (.pwrDRequest dt 0 d v) s = .next ((s.tick dt).domRequest d (v % 8)) :=
  congrArg Host.Outcome.next (State.pwrWrite_owner (s.tick dt) (Block.pwrD.pg d) _ ha hup)

theorem exec_pwrDRequest_leaves {req v : Nat} (hr : s.bus.Ranged) (hd : d < 22) (h : s.ladder.phase = 0) (hv : v % 8 = req) (h0 : req ≠ 0)
    (hown : req ∈ ownStates d) (hrun : s.bus.domState d = 0) (hpwr : s.pwrState = 0) (hmay : s.mayLeave d req = true) :
    ∃ t, exec (.pwrDRequest dt 0 d v) s = .next t ∧ t.bus.domState d = 5 ∧ t.rd (pwrDKey d R.PWR_D_CTRL) = req ∧
      t.fld (pwrDKey d R.PWR_D_STATUS) 4 4 = 0 ∧ t.bit (pwrDKey d R.PWR_D_STATUS) 9 = true ∧ t.power.target.find 0 d = req ∧
      t.power.since.find 0 d = s.bus.now + dt ∧ t.pend (Block.pwrD.pg d) 2 = true := by
  obtain ⟨h10, hlt⟩ := ownStates_domain hown
  obtain ⟨hstate, hctrl, hreason, hown9, hpend⟩ := (s.tick dt).domAsked_drains hd hr hlt hrun
  refine ⟨_, (exec_pwrDRequest ha hup v).trans (congrArg Host.Outcome.next ((congrArg ((s.tick dt).domRequest d) hv).trans
    ((s.tick dt).domRequest_leaves d h h0 hown hrun hpwr hmay))), ?_⟩
  rw [State.drainDom_eq _ d h10, State.rd_eq_bus, State.fld_eq_bus, State.bit_eq_bus, State.pend_eq_bus, State.bus_withTarget,
    State.bus_drainSince, State.power_withTarget, State.power_drainSince, State.now_domAsked]
  exact ⟨hstate, hctrl, hreason, hown9, SMap.find_set _ _ _ _, SMap.find_set _ _ _ _, hpend⟩

theorem exec_pwrDRequest_wakes {v : Nat} (hd : d < 22) (h : s.ladder.phase = 0) (hv : v % 8 = 0)
    (h9 : s.bit (pwrDKey d R.PWR_D_STATUS) 9 = true) (h5 : s.bus.domState d ≠ 5) (h6 : s.bus.domState d ≠ 6) :
    ∃ t, exec (.pwrDRequest dt 0 d v) s = .next t ∧ t.bus.domState d = 6 ∧ t.power.target.find 0 d = s.bus.domState d ∧
      t.power.since.find 0 d = s.bus.now + dt := by
  refine ⟨_, (exec_pwrDRequest ha hup v).trans (congrArg Host.Outcome.next ((congrArg ((s.tick dt).domRequest d) hv).trans
    ((s.tick dt).domRequest_wakes d h h9 h5 h6))), ?_⟩
  rw [State.bus_wakesFromAt, State.power_wakesFromAt]
  exact ⟨State.domState_setDom _ d 6 hd (by decide), SMap.find_set _ _ _ _, SMap.find_set _ _ _ _⟩

end

/-! ### A domain back in Run, or down for good -/

section
variable {s : State} {dt d : Nat}

/-- The registers of a domain that reaches Run on its own. -/
def State.domBack (s : State) (d : Nat) : State :=
  ((s.setDom d 0).setBit (pwrDKey d R.PWR_D_STATUS) 9 false).setFld (pwrDKey d R.PWR_D_STATUS) 4 4 0

/-- A domain that neither waits nor returns. -/
def State.domSettled (s : State) (d : Nat) : State :=
  { s with power := { s.power with since := s.power.since.erase d, target := s.power.target.erase d } }

theorem State.bus_domSettled (s : State) (d : Nat) : (s.domSettled d).bus = s.bus := rfl

theorem State.domRun_eq (s : State) {st : Nat} (ht : s.power.target.find 0 d = st) (h4 : st ≠ 4) : s.domRun d = (s.domBack d).domSettled d := by
  have hnot : ¬s.power.target.find 0 d = 4 := by rwa [ht]
  unfold State.domRun
  dsimp only
  rw [if_neg hnot]
  rfl

theorem State.domBack_shows (s : State) (hd : d < 22) (hr : s.bus.Ranged) (h6 : s.bus.domState d = 6) : (s.domBack d).bus.domState d = 0 ∧
    (s.domBack d).bit (pwrDKey d R.PWR_D_STATUS) 9 = false ∧ (s.domBack d).pend (Block.pwrD.pg d) 2 = true ∧
    s.After (s.domBack d) [pwrDKey d R.PWR_D_STATUS, pendKey (Block.pwrD.pg d)] := by
  have hne : pendKey (Block.pwrD.pg d) ≠ pwrDKey d R.PWR_D_STATUS := pendKey_ne
  have hset : (s.setFld (pwrDKey d R.PWR_D_STATUS) 0 4 0).bus.Ranged := s.ranged_setFld hr _ _ _ _
  have hdom : s.setDom d 0 = (s.setFld (pwrDKey d R.PWR_D_STATUS) 0 4 0).raise (Block.pwrD.pg d) 2 :=
    s.setDom_of_ne d 0 (by rw [h6]; decide)
  refine ⟨?_, ?_, ?_, ?_⟩
  · refine (State.fld_setFld_of_disjoint _ (pwrDKey d R.PWR_D_STATUS) 4 4 0 0 4 (by decide) (by decide)).trans ?_
    refine (State.fld_setBit_of_disjoint _ (pwrDKey d R.PWR_D_STATUS) 9 false 0 4 (by decide) (by decide)).trans ?_
    exact s.domState_setDom d 0 hd (by decide)
  · exact (State.bit_setFld_of_disjoint _ (pwrDKey d R.PWR_D_STATUS) 4 4 0 9 (by decide) (by decide)).trans
      (State.bit_setBit _ (pwrDKey d R.PWR_D_STATUS) 9 false (by decide))
  · exact (State.bit_of_rd ((State.rd_setFld_ne _ _ _ _ _ _ hne).trans (State.rd_setBit_ne _ _ _ _ _ hne)) 2).trans
      (s.pend_setDom d 0 hr hd (by rw [h6]; decide))
  · unfold State.domBack
    rw [hdom]
    exact ((((State.After.refl s _).setFld _ _ _ _ (by simp)).raise hr _ 2 (plainPage_pwrD hd).entryGranted (by simp)).setBit _ _ _
      (by simp)).setFld _ _ _ _ (by simp)

theorem exec_ladderStateReached_some (h6 : s.bus.domState d = 6) (h9 : s.bit (pwrDKey d R.PWR_D_STATUS) 9 = true)
    (ht : s.power.since.find 0 d + exitTime (s.power.target.find 0 d) ≤ s.bus.now + dt) :
    exec (.ladderStateReached dt (some d)) s = .next ((s.tick dt).domRun d) := congrArg Host.Outcome.next (if_pos ⟨h6, h9, ht⟩)

theorem exec_domainReached_shows {st : Nat} (hr : s.bus.Ranged) (hd : d < 22) (ht : s.power.target.find 0 d = st) (h4 : st ≠ 4)
    (h6 : s.bus.domState d = 6) (h9 : s.bit (pwrDKey d R.PWR_D_STATUS) 9 = true)
    (htime : s.power.since.find 0 d + exitTime st ≤ s.bus.now + dt) : ∃ t, exec (.ladderStateReached dt (some d)) s = .next t ∧
      t.bus.domState d = 0 ∧ t.bit (pwrDKey d R.PWR_D_STATUS) 9 = false ∧ t.pend (Block.pwrD.pg d) 2 = true ∧
      (s.tick dt).bus.Reported t.bus [pwrDKey d R.PWR_D_STATUS, pendKey (Block.pwrD.pg d)] := by
  obtain ⟨hstate, hown, hpend, hafter⟩ := (s.tick dt).domBack_shows hd hr h6
  refine ⟨_, (exec_ladderStateReached_some h6 h9 (by rwa [ht])).trans (congrArg Host.Outcome.next ((s.tick dt).domRun_eq ht h4)), ?_⟩
  rw [State.bit_eq_bus, State.pend_eq_bus, State.bus_domSettled]
  exact ⟨hstate, hown, hpend, hafter.2⟩

theorem exec_domainWakeTimeout_fails {st : Nat} (ht : s.power.target.find 0 d = st) (h6 : s.bus.domState d = 6)
    (h9 : s.bit (pwrDKey d R.PWR_D_STATUS) 9 = true) (htime : s.power.since.find 0 d + 2 * exitTime st ≤ s.bus.now + dt) :
    exec (.domainWakeTimeout dt d) s = .next ((((s.tick dt).setDom d st).fault 113 { page := Block.pwrD.pg d }).sinceErased d) := by
  subst ht
  exact congrArg Host.Outcome.next (if_pos ⟨h6, h9, htime⟩)

theorem exec_domainWakeTimeout_not (h6 : s.bus.domState d ≠ 6) : exec (.domainWakeTimeout dt d) s = .next (s.tick dt) :=
  congrArg Host.Outcome.next (if_neg fun h => h6 h.1)

/-! ### Pad latches -/

/-- One bit of PWR_PAD_RELEASE. -/
def State.padBit (value : Nat) (a : State) (d : Nat) : State :=
  if d = 0 ∨ !bitOf d value then a
  else if a.bus.domState d ≠ 0 then a.cfgErr pwrPage
  else
    let b := if a.power.blank.contains d then a.reapply d else a
    ({ b with power := { b.power with blank := b.power.blank.filter (· != d) } }.setBit (pwrKey R.PWR_PAD_HELD) d false).setBit
      (pwrDKey d R.PWR_D_STATUS) 8 false

theorem State.padRelease_eq (s : State) (value : Nat) : s.padRelease value = (List.range 22).foldl (State.padBit value) s := rfl

theorem State.padBit_other (a : State) {d i : Nat} (h : i ≠ d) : State.padBit (2 ^ d) a i = a := by
  refine if_pos (.inr ?_)
  rw [bitOf_eq_testBit, Nat.testBit_two_pow, decide_eq_false (Ne.symm h)]
  rfl

/-- A single bit written acts for its domain alone. -/
theorem State.foldl_padBit (s : State) {d n : Nat} (hd : d < n) : (List.range n).foldl (State.padBit (2 ^ d)) s = State.padBit (2 ^ d) s d := by
  induction n generalizing s with
  | zero => omega
  | succ n ih =>
    rw [List.range_succ, List.foldl_append, List.foldl_cons, List.foldl_nil]
    by_cases h : d = n
    · subst h
      have hkeep : (List.range d).foldl (State.padBit (2 ^ d)) s = s :=
        State.foldl_keeps (fun a => a) (List.range d) (State.padBit (2 ^ d)) (fun a i hi => a.padBit_other (List.mem_range.mp hi).ne) s
      rw [hkeep]
    · rw [ih s (by omega), State.padBit_other _ (by omega)]

theorem exec_padRelease_bit (ha : s.bus.pageAccess pwrPage 0 = 2) (hup : s.bus.pageUp pwrPage = true) (hd : d < 22) :
    exec (.padRelease dt 0 (2 ^ d)) s = .next (State.padBit (2 ^ d) (s.tick dt) d) :=
  congrArg Host.Outcome.next ((State.pwrWrite_owner (s.tick dt) pwrPage _ ha hup).trans
    (((s.tick dt).padRelease_eq _).trans ((s.tick dt).foldl_padBit hd)))

theorem bit_two_pow_self (h1 : 1 ≤ d) : ¬(d = 0 ∨ (!bitOf d (2 ^ d)) = true) := by
  rw [bitOf_eq_testBit, Nat.testBit_two_pow_self]
  simp only [Bool.not_true, Bool.false_eq_true, or_false]
  omega

theorem State.padBit_notRun (a : State) (h1 : 1 ≤ d) (h : a.bus.domState d ≠ 0) : State.padBit (2 ^ d) a d = a.cfgErr pwrPage :=
  (if_neg (bit_two_pow_self h1)).trans (if_pos h)

/-- The latches of a domain released. -/
def State.padsFree (s : State) (d : Nat) : State :=
  (s.setBit (pwrKey R.PWR_PAD_HELD) d false).setBit (pwrDKey d R.PWR_D_STATUS) 8 false

/-- A domain whose configuration stands again. -/
def State.notBlank (s : State) (d : Nat) : State := { s with power := { s.power with blank := s.power.blank.filter (· != d) } }

theorem State.padBit_run (a : State) (h1 : 1 ≤ d) (h : a.bus.domState d = 0) (hb : d ∉ a.power.blank) :
    State.padBit (2 ^ d) a d = (a.notBlank d).padsFree d := by
  have hblank : ¬a.power.blank.contains d = true := by rwa [List.contains_iff_mem]
  unfold State.padBit
  rw [if_neg (bit_two_pow_self h1), if_neg (not_not.mpr h), if_neg hblank]
  rfl

theorem State.padsFree_shows (s : State) (hd : d < 22) : (s.padsFree d).bit (pwrKey R.PWR_PAD_HELD) d = false ∧
    (s.padsFree d).bit (pwrDKey d R.PWR_D_STATUS) 8 = false ∧
    (∀ i, i < 32 → i ≠ d → (s.padsFree d).bit (pwrKey R.PWR_PAD_HELD) i = s.bit (pwrKey R.PWR_PAD_HELD) i) ∧
    s.After (s.padsFree d) [pwrKey R.PWR_PAD_HELD, pwrDKey d R.PWR_D_STATUS] := by
  have hne : pwrKey R.PWR_PAD_HELD ≠ pwrDKey d R.PWR_D_STATUS := rk_ne_pwrDKey (by decide) d
  have hheld : ∀ i, (s.padsFree d).bit (pwrKey R.PWR_PAD_HELD) i = (s.setBit (pwrKey R.PWR_PAD_HELD) d false).bit (pwrKey R.PWR_PAD_HELD) i :=
    State.bit_of_rd (State.rd_setBit_ne _ _ _ _ _ hne)
  refine ⟨(hheld d).trans (s.bit_setBit (pwrKey R.PWR_PAD_HELD) d false (by omega)), State.bit_setBit _ (pwrDKey d R.PWR_D_STATUS) 8 false (by decide),
    fun i _ hi => (hheld i).trans (s.bit_setBit_ne (pwrKey R.PWR_PAD_HELD) d false i (by omega) hi),
    ((State.After.refl s _).setBit _ _ _ (by simp)).setBit _ _ _ (by simp)⟩

end

/-! ### Watch -/

section
variable {s : State} {dt : Nat}

/-- A section on its way back. -/
def State.sectionBack (a : State) (i : Nat) : State :=
  if a.bus.inWatch i && !a.watch.leaving.contains i then { a with watch := { a.watch with leaving := i :: a.watch.leaving } } else a

/-- The sections that a write of PWR_WATCH_REQ brings back. -/
def State.watchBack (s : State) (value : Nat) : List Nat :=
  (List.range 26).filter (fun i => bitOf i (s.rd (pwrKey R.PWR_WATCH_REQ)) && !bitOf i value)

theorem State.watchRequest_eq (s : State) (value : Nat) :
    s.watchRequest value = (s.watchBack value).foldl State.sectionBack (s.wr (pwrKey R.PWR_WATCH_REQ) (value % 2 ^ 26)) := rfl

theorem State.bus_sectionBack (a : State) (i : Nat) : (a.sectionBack i).bus = a.bus := by
  unfold State.sectionBack
  split <;> rfl

theorem State.bus_sectionsBack (l : List Nat) (s : State) : (l.foldl State.sectionBack s).bus = s.bus :=
  State.foldl_keeps State.bus l _ (fun a i _ => a.bus_sectionBack i) s

theorem State.mem_leaving_sectionBack (a : State) (i j : Nat) : j ∈ (a.sectionBack i).watch.leaving ↔
    j ∈ a.watch.leaving ∨ (j = i ∧ a.bus.inWatch i = true) := by
  unfold State.sectionBack
  split
  case isTrue h =>
    have hw := (Bool.and_eq_true _ _ ▸ h).1
    show j ∈ i :: a.watch.leaving ↔ _
    rw [List.mem_cons, hw]
    tauto
  case isFalse h =>
    refine ⟨.inl, fun hj => hj.elim id fun ⟨hji, hw⟩ => ?_⟩
    rw [hw, Bool.true_and, Bool.not_eq_true', Bool.not_eq_false, List.contains_iff_mem] at h
    rwa [hji]

theorem State.mem_leaving_sectionsBack (l : List Nat) (s : State) (j : Nat) : j ∈ (l.foldl State.sectionBack s).watch.leaving ↔
    j ∈ s.watch.leaving ∨ (j ∈ l ∧ s.bus.inWatch j = true) := by
  induction l generalizing s with
  | nil => simp
  | cons i l ih =>
    rw [List.foldl_cons, ih, s.mem_leaving_sectionBack, s.bus_sectionBack, List.mem_cons]
    constructor
    · rintro ((h | ⟨rfl, h⟩) | ⟨h, h'⟩)
      · exact .inl h
      · exact .inr ⟨.inl rfl, h⟩
      · exact .inr ⟨.inr h, h'⟩
    · rintro (h | ⟨rfl | h, h'⟩)
      · exact .inl (.inl h)
      · exact .inl (.inr ⟨rfl, h'⟩)
      · exact .inr ⟨h, h'⟩

theorem State.mem_watchBack (s : State) (v i : Nat) (hi : i < 26) :
    i ∈ s.watchBack v ↔ s.bit (pwrKey R.PWR_WATCH_REQ) i = true ∧ bitOf i v = false := by
  unfold State.watchBack
  rw [List.mem_filter, List.mem_range, Bool.and_eq_true, Bool.not_eq_true']
  exact and_iff_right hi

theorem inWatch_of_rd {s t : State} (h : t.rd (pwrKey R.PWR_WATCH_STATE) = s.rd (pwrKey R.PWR_WATCH_STATE)) (i : Nat) :
    t.bus.inWatch i = s.bus.inWatch i := congrArg (bitOf i) h

theorem State.watchRequest_shows (s : State) (v : Nat) : (s.watchRequest v).rd (pwrKey R.PWR_WATCH_REQ) = v % 2 ^ 26 ∧
    (s.watchRequest v).bus = (s.wr (pwrKey R.PWR_WATCH_REQ) (v % 2 ^ 26)).bus ∧
    (∀ i, i < 26 → (i ∈ (s.watchRequest v).watch.leaving ↔ i ∈ s.watch.leaving ∨
      (s.bit (pwrKey R.PWR_WATCH_REQ) i = true ∧ bitOf i v = false ∧ s.bus.inWatch i = true))) := by
  have hstate := inWatch_of_rd (s.rd_wr_ne (pwrKey R.PWR_WATCH_REQ) (v % 2 ^ 26) (pwrKey R.PWR_WATCH_STATE) (by decide))
  rw [s.watchRequest_eq, State.rd_eq_bus, State.bus_sectionsBack, ← State.rd_eq_bus, State.rd_wr]
  refine ⟨Nat.mod_eq_of_lt (lt_of_lt_of_le (Nat.mod_lt _ (by decide)) (by decide)), rfl, fun i hi => ?_⟩
  rw [State.mem_leaving_sectionsBack, s.mem_watchBack v i hi, hstate i, and_assoc]
  rfl

theorem exec_watchEntry_goes {sec : Nat} (hsec : sec < 26) (hreq : s.bit (pwrKey R.PWR_WATCH_REQ) sec = true) (hw : s.bus.inWatch sec = false)
    (hl : sec ∉ s.watch.leaving) (hidle : s.sectionIdle sec = true) (hpost : s.sectionPosted sec = false) (hup : s.bus.domUp 1 = true) :
    exec (.watchEntry dt sec) s = .next (((s.tick dt).setBit (pwrKey R.PWR_WATCH_STATE) sec true).raise pwrPage 5) := by
  have hleaving : s.watch.leaving.contains sec = false := by rw [← Bool.not_eq_true, List.contains_iff_mem]; exact hl
  exact congrArg Host.Outcome.next (if_pos ⟨hsec, hreq, hw, hleaving, hidle, hpost, hup⟩)

theorem exec_watchEntry_shows {sec : Nat} (hr : s.bus.Ranged) (hsec : sec < 26) (hreq : s.bit (pwrKey R.PWR_WATCH_REQ) sec = true)
    (hw : s.bus.inWatch sec = false) (hl : sec ∉ s.watch.leaving) (hidle : s.sectionIdle sec = true) (hpost : s.sectionPosted sec = false)
    (hup : s.bus.domUp 1 = true) : ∃ t, exec (.watchEntry dt sec) s = .next t ∧ t.bit (pwrKey R.PWR_WATCH_STATE) sec = true ∧
      t.pend pwrPage 5 = true ∧ (s.tick dt).After t [pwrKey R.PWR_WATCH_STATE, pendKey pwrPage] := by
  have hset : ((s.tick dt).setBit (pwrKey R.PWR_WATCH_STATE) sec true).bus.Ranged := State.ranged_setBit (s.tick dt) hr _ _ _
  have hbegin : (s.tick dt).bus.Ranged := hr
  refine ⟨_, exec_watchEntry_goes hsec hreq hw hl hidle hpost hup, ?_, plainPage_pwr.pend_raise hset 5 (by decide),
    ((State.After.refl (s.tick dt) _).setBit _ _ _ (by decide)).raise hbegin pwrPage 5 plainPage_pwr.entryGranted (by decide)⟩
  exact (State.bit_raise_ctl (p := pwrPage) (off := R.PWR_WATCH_STATE) _ (by decide) (by decide) (by decide) pwrPage 5 sec).trans
    (State.bit_setBit _ (pwrKey R.PWR_WATCH_STATE) sec true (by omega))

theorem exec_watchEntry_not {sec : Nat} (h : s.sectionIdle sec = false ∨ s.sectionPosted sec = true ∨ s.bit (pwrKey R.PWR_WATCH_REQ) sec = false) :
    exec (.watchEntry dt sec) s = .next (s.tick dt) := by
  refine congrArg Host.Outcome.next (if_neg fun ⟨_, hreq, _, _, hidle, hpost, _⟩ => ?_)
  rcases h with h | h | h
  · exact absurd (h.symm.trans hidle) (by decide)
  · exact absurd (h.symm.trans hpost) (by decide)
  · exact absurd (h.symm.trans hreq) (by decide)

theorem exec_watchWake_leaves {sec : Nat} (hsec : sec < 26) (hw : s.bus.inWatch sec = true) (hl : sec ∉ s.watch.leaving) :
    exec (.watchWake dt sec) s = .next { s.tick dt with watch := { s.watch with leaving := sec :: s.watch.leaving } } := by
  have hgo : ((s.bus.inWatch sec || s.bit (pwrKey R.PWR_WATCH_REQ) sec) && !s.watch.leaving.contains sec) = true := by
    rw [hw, Bool.true_or, Bool.true_and, Bool.not_eq_true', ← Bool.not_eq_true, List.contains_iff_mem]
    exact hl
  exact congrArg Host.Outcome.next ((if_pos hsec).trans (if_pos hgo))

theorem exec_watchWake_not {sec : Nat} (hw : s.bus.inWatch sec = false) (hreq : s.bit (pwrKey R.PWR_WATCH_REQ) sec = false) :
    exec (.watchWake dt sec) s = .next (s.tick dt) := by
  have hno : ¬((s.bus.inWatch sec || s.bit (pwrKey R.PWR_WATCH_REQ) sec) && !s.watch.leaving.contains sec) = true := by
    rw [hw, hreq]
    exact Bool.false_ne_true
  have hwake : (s.tick dt).sectionWake sec = s.tick dt := if_neg hno
  exact congrArg Host.Outcome.next ((congrArg (fun t => if sec < 26 then t else s.tick dt) hwake).trans (ite_self _))

/-- The registers of a section that is back. -/
def State.sectionRuns (s : State) (sec : Nat) : State :=
  (s.setBit (pwrKey R.PWR_WATCH_REQ) sec false).setBit (pwrKey R.PWR_WATCH_STATE) sec false

/-- A section that no longer leaves Watch. -/
def State.leftWatch (s : State) (sec : Nat) : State :=
  { s with watch := { s.watch with leaving := s.watch.leaving.filter (· != sec) } }

/-- Its held poll goes on. -/
def State.pollsOn (s : State) (sec : Nat) : State :=
  { s with watch := { s.watch with polls := s.watch.polls.filter (fun n => decide (n + 17 ≠ sec)) } }

theorem State.bus_pollsOn (s : State) (sec : Nat) : (s.pollsOn sec).bus = s.bus := rfl
theorem State.leaving_pollsOn (s : State) (sec : Nat) : (s.pollsOn sec).watch.leaving = s.watch.leaving := rfl
theorem State.leaving_leftWatch (s : State) (sec : Nat) : (s.leftWatch sec).watch.leaving = s.watch.leaving.filter (· != sec) := rfl

theorem exec_watchRunReached_not {sec : Nat} (h : sec ∉ s.watch.leaving) : exec (.watchRunReached dt sec) s = .next (s.tick dt) := by
  have hno : (!s.watch.leaving.contains sec) = true := by
    rw [Bool.not_eq_true', ← Bool.not_eq_true, List.contains_iff_mem]
    exact h
  exact congrArg Host.Outcome.next (if_pos hno)

theorem exec_watchRunReached_goes {sec : Nat} (hsec : sec < 25) (h : sec ∈ s.watch.leaving) (hw : s.bus.inWatch sec = true) :
    exec (.watchRunReached dt sec) s = .next (((((s.tick dt).sectionRuns sec).leftWatch sec).raise pwrPage 5).pollsOn sec) := by
  have hgo : ¬(!(s.tick dt).watch.leaving.contains sec) = true := by
    rw [List.contains_iff_mem.mpr (show sec ∈ (s.tick dt).watch.leaving from h)]
    decide
  have h25 : ¬sec = 25 := by omega
  show execWatchRunReached dt sec s = _
  unfold execWatchRunReached
  dsimp only
  rw [if_neg hgo, show (s.tick dt).bus.inWatch sec = true from hw, if_pos rfl, if_neg h25]
  rfl

theorem exec_watchRunReached_shows {sec : Nat} (hr : s.bus.Ranged) (hsec : sec < 25) (h : sec ∈ s.watch.leaving)
    (hw : s.bus.inWatch sec = true) : ∃ t, exec (.watchRunReached dt sec) s = .next t ∧ t.bit (pwrKey R.PWR_WATCH_REQ) sec = false ∧
      t.bus.inWatch sec = false ∧ sec ∉ t.watch.leaving ∧ t.pend pwrPage 5 = true ∧
      (s.tick dt).bus.Reported t.bus [pwrKey R.PWR_WATCH_REQ, pwrKey R.PWR_WATCH_STATE, pendKey pwrPage] := by
  have hset : (((s.tick dt).sectionRuns sec).leftWatch sec).bus.Ranged :=
    State.ranged_setBit _ (State.ranged_setBit (s.tick dt) hr (pwrKey R.PWR_WATCH_REQ) sec false) (pwrKey R.PWR_WATCH_STATE) sec false
  have hafter : (s.tick dt).After ((s.tick dt).sectionRuns sec) [pwrKey R.PWR_WATCH_REQ, pwrKey R.PWR_WATCH_STATE, pendKey pwrPage] :=
    ((State.After.refl _ _).setBit _ _ _ (by decide)).setBit _ _ _ (by decide)
  have hreq : ((s.tick dt).sectionRuns sec).bit (pwrKey R.PWR_WATCH_REQ) sec = false :=
    (State.bit_setBit_other _ _ _ _ _ _ (by decide)).trans (State.bit_setBit _ (pwrKey R.PWR_WATCH_REQ) sec false (by omega))
  have hstate : ((s.tick dt).sectionRuns sec).bit (pwrKey R.PWR_WATCH_STATE) sec = false :=
    State.bit_setBit _ (pwrKey R.PWR_WATCH_STATE) sec false (by omega)
  have hleaving : sec ∉ (((s.tick dt).sectionRuns sec).leftWatch sec).watch.leaving := by
    rw [State.leaving_leftWatch, List.mem_filter]
    simp
  have hbus : ((s.tick dt).sectionRuns sec).bus.Reported ((((s.tick dt).sectionRuns sec).leftWatch sec).raise pwrPage 5).bus
      [pwrKey R.PWR_WATCH_REQ, pwrKey R.PWR_WATCH_STATE, pendKey pwrPage] :=
    ((State.After.refl (((s.tick dt).sectionRuns sec).leftWatch sec) _).raise hset pwrPage 5 plainPage_pwr.entryGranted (by decide)).2
  refine ⟨_, exec_watchRunReached_goes hsec h hw, ?_⟩
  rw [State.bit_eq_bus, State.pend_eq_bus, State.bus_pollsOn, State.leaving_pollsOn, State.raise_watch, ← State.bit_eq_bus, ← State.pend_eq_bus]
  refine ⟨?_, ?_, hleaving, plainPage_pwr.pend_raise hset 5 (by decide), hafter.2.trans hbus⟩
  · exact (State.bit_raise_ctl (p := pwrPage) (off := R.PWR_WATCH_REQ) _ (by decide) (by decide) (by decide) pwrPage 5 sec).trans hreq
  · exact (State.bit_raise_ctl (p := pwrPage) (off := R.PWR_WATCH_STATE) _ (by decide) (by decide) (by decide) pwrPage 5 sec).trans hstate

end

/-! ### Wake sources -/

section
variable (s : State) (i : Nat)

/-- The first source detected is kept. -/
def State.firstWake (s : State) (i : Nat) : State :=
  { s.setFld (pwrKey R.PWR_STATUS) 8 4 i with ladder := { s.ladder with woken := true } }

/-- A source recorded (R410). -/
def State.wakeNoted (s : State) (i : Nat) : State :=
  if s.ladder.woken then s.setBit (pwrKey R.PWR_WAKE_SRC) i true else (s.setBit (pwrKey R.PWR_WAKE_SRC) i true).firstWake i

/-- Whether a source acts: it is enabled, and wakes from the state. -/
def State.wakeActs (s : State) (i : Nat) : Bool :=
  (s.bit (pwrKey R.PWR_WAKE_EN) i || (decide (i = 0) && decide (s.pwrState = 4)))
    && wakesFrom i (if s.ladder.phase = 0 then s.pwrState else 0)

/-- What a source does, by the phase of the ladder (Table 14-3). -/
def State.wakeDone (s : State) : State :=
  match s.ladder.phase with
  | 1 => s.endEntry 0
  | 2 => { s with ladder := { s.ladder with latched := true } }
  | 3 => s
  | _ => if s.power.tripped then s.setFld (pwrKey R.PWR_STATUS) 4 4 6 else s.beginExit

theorem State.wake_settled (h : s.ladder.phase = 0) (h' : s.pwrState = 0) : s.wake i = s := if_pos ⟨h, h'⟩

theorem State.wake_eq (h : s.ladder.phase ≠ 0 ∨ s.pwrState ≠ 0) :
    s.wake i = if (s.wakeNoted i).wakeActs i then (s.wakeNoted i).wakeDone else s.wakeNoted i := by
  unfold State.wake
  rw [if_neg fun hc => h.elim (absurd hc.1) (absurd hc.2)]
  rfl

theorem State.wakeDone_entry (h : s.ladder.phase = 1) : s.wakeDone = s.endEntry 0 := by
  unfold State.wakeDone
  rw [h]
  rfl

theorem State.wakeDone_committed (h : s.ladder.phase = 2) : s.wakeDone = { s with ladder := { s.ladder with latched := true } } := by
  unfold State.wakeDone
  rw [h]
  rfl

theorem State.wakeDone_exit (h : s.ladder.phase = 3) : s.wakeDone = s := by
  unfold State.wakeDone
  rw [h]
  rfl

theorem State.wakeDone_settled (h : s.ladder.phase ∉ [1, 2, 3]) :
    s.wakeDone = if s.power.tripped then s.setFld (pwrKey R.PWR_STATUS) 4 4 6 else s.beginExit := by
  unfold State.wakeDone
  split
  case h_1 h1 => exact absurd (h1 ▸ List.mem_cons_self) h
  case h_2 h2 => exact absurd (by rw [h2]; decide) h
  case h_3 h3 => exact absurd (by rw [h3]; decide) h
  case h_4 => rfl

theorem State.bus_firstWake : (s.firstWake i).bus = (s.setFld (pwrKey R.PWR_STATUS) 8 4 i).bus := rfl
theorem State.ladder_firstWake : (s.firstWake i).ladder = { s.ladder with woken := true } := rfl
theorem State.phase_firstWake : (s.firstWake i).ladder.phase = s.ladder.phase := rfl
theorem State.power_firstWake : (s.firstWake i).power = s.power := rfl

theorem State.wakeNoted_ladder : (s.wakeNoted i).ladder.phase = s.ladder.phase ∧ (s.wakeNoted i).power = s.power := by
  unfold State.wakeNoted
  split
  · exact ⟨congrArg Ladder.phase (State.setBit_ladder _ _ _ _), State.setBit_power _ _ _ _⟩
  · rw [State.phase_firstWake, State.power_firstWake]
    exact ⟨congrArg Ladder.phase (State.setBit_ladder _ _ _ _), State.setBit_power _ _ _ _⟩

theorem State.wakeNoted_quiet : s.bus.Held (s.wakeNoted i).bus := by
  unfold State.wakeNoted
  split
  · exact (Bus.Held.refl s.bus).setBit _ _ _
  · rw [State.bus_firstWake]
    exact ((Bus.Held.refl s.bus).setBit _ _ _).setFld _ _ _ _

theorem State.rd_wakeNoted_ne {k : Nat} (h : k ≠ pwrKey R.PWR_WAKE_SRC) (h' : k ≠ pwrKey R.PWR_STATUS) : (s.wakeNoted i).rd k = s.rd k := by
  unfold State.wakeNoted
  split
  · exact s.rd_setBit_ne _ _ _ _ h
  · rw [State.rd_eq_bus, State.bus_firstWake, ← State.rd_eq_bus, State.rd_setFld_ne _ _ _ _ _ _ h', State.rd_setBit_ne _ _ _ _ _ h]

theorem State.bit_wakeNoted (hi : i < 32) : (s.wakeNoted i).bit (pwrKey R.PWR_WAKE_SRC) i = true := by
  unfold State.wakeNoted
  split
  · exact s.bit_setBit (pwrKey R.PWR_WAKE_SRC) i true hi
  · rw [State.bit_eq_bus, State.bus_firstWake, ← State.bit_eq_bus, State.bit_setFld_ne _ _ _ _ _ _ _ (by decide)]
    exact s.bit_setBit (pwrKey R.PWR_WAKE_SRC) i true hi

theorem State.pwrState_wakeNoted : (s.wakeNoted i).pwrState = s.pwrState := by
  unfold State.wakeNoted State.pwrState
  split
  · exact s.fld_setBit_ne _ _ _ _ _ _ (by decide)
  · rw [State.fld_eq_bus, State.bus_firstWake, ← State.fld_eq_bus,
      State.fld_setFld_of_disjoint _ (pwrKey R.PWR_STATUS) 8 4 i 0 3 (by decide) (by decide)]
    exact s.fld_setBit_ne _ _ _ _ _ _ (by decide)

theorem State.wakeActs_wakeNoted : (s.wakeNoted i).wakeActs i = s.wakeActs i := by
  unfold State.wakeActs
  rw [(s.wakeNoted_ladder i).1, s.pwrState_wakeNoted, State.bit_of_rd (s.rd_wakeNoted_ne i (by decide) (by decide))]

variable {s i}

theorem State.wakeActs_moving (h : s.ladder.phase ≠ 0) (he : s.bit (pwrKey R.PWR_WAKE_EN) i = true) : s.wakeActs i = true := by
  unfold State.wakeActs
  rw [he, if_neg h]
  rfl

theorem wakesFrom_of_ne {st : Nat} (h4 : st ≠ 4) (h : st ≠ 3 ∨ i ≠ 7) : wakesFrom i st = true := by
  unfold wakesFrom
  split
  · rfl
  · exact absurd rfl h4
  · exact decide_eq_true (h.resolve_left (by simp))
  · rfl

theorem State.wakeActs_settled (h : s.ladder.phase = 0) (he : s.bit (pwrKey R.PWR_WAKE_EN) i = true) (h4 : s.pwrState ≠ 4)
    (h7 : s.pwrState ≠ 3 ∨ i ≠ 7) : s.wakeActs i = true := by
  unfold State.wakeActs
  rw [he, if_pos h, wakesFrom_of_ne h4 h7]
  rfl

theorem State.wake_acts (h : s.ladder.phase ≠ 0 ∨ s.pwrState ≠ 0) (ha : s.wakeActs i = true) : s.wake i = (s.wakeNoted i).wakeDone := by
  rw [s.wake_eq i h, s.wakeActs_wakeNoted i, if_pos ha]

theorem State.wakeSrc_beginExit (t : State) : t.beginExit.rd (pwrKey R.PWR_WAKE_SRC) = t.rd (pwrKey R.PWR_WAKE_SRC) := by
  have hne : pwrKey R.PWR_WAKE_SRC ≠ pwrKey R.PWR_STATUS := by decide
  unfold State.beginExit
  extract_lets st s1
  have h1 : s1.rd (pwrKey R.PWR_WAKE_SRC) = t.rd (pwrKey R.PWR_WAKE_SRC) := by
    unfold s1
    split
    · rfl
    · exact (State.rd_setDoms _ t.ladder.down 6 (fun d _ => rk_ne_pwrDKey (p := pwrPage) (by decide) d)).trans (State.rd_arm _ _ _ _)
  clear_value s1
  exact (s1.rd_setBit_ne (pwrKey R.PWR_STATUS) 3 true _ hne).trans h1

theorem State.wakeSrc_wakeDone (t : State) (h : t.ladder.phase ≠ 1) : t.wakeDone.rd (pwrKey R.PWR_WAKE_SRC) = t.rd (pwrKey R.PWR_WAKE_SRC) := by
  by_cases h2 : t.ladder.phase = 2
  · rw [t.wakeDone_committed h2]
    rfl
  · by_cases h3 : t.ladder.phase = 3
    · rw [t.wakeDone_exit h3]
    · rw [t.wakeDone_settled (by simp [h, h2, h3])]
      split
      · exact t.rd_setFld_ne _ _ _ _ _ (by decide)
      · exact t.wakeSrc_beginExit

/-- A source detected while the ladder is not in an entry stands in PWR_WAKE_SRC. -/
theorem State.bit_wakeSrc_wake (h : s.ladder.phase ≠ 0 ∨ s.pwrState ≠ 0) (h1 : s.ladder.phase ≠ 1) (hi : i < 32) :
    (s.wake i).bit (pwrKey R.PWR_WAKE_SRC) i = true := by
  rw [s.wake_eq i h]
  split
  · exact (State.bit_of_rd (State.wakeSrc_wakeDone _ (by rwa [(s.wakeNoted_ladder i).1])) i).trans (s.bit_wakeNoted i hi)
  · exact s.bit_wakeNoted i hi

theorem State.wake_committed (h2 : s.ladder.phase = 2) (he : s.bit (pwrKey R.PWR_WAKE_EN) i = true) :
    (s.wake i).ladder.latched = true ∧ (s.wake i).ladder.phase = 2 := by
  have hphase := (s.wakeNoted_ladder i).1.trans h2
  rw [State.wake_acts (.inl (by rw [h2]; decide)) (State.wakeActs_moving (by rw [h2]; decide) he), State.wakeDone_committed _ hphase]
  exact ⟨rfl, hphase⟩

theorem State.wake_entry (h1 : s.ladder.phase = 1) (he : s.bit (pwrKey R.PWR_WAKE_EN) i = true) (hr : s.bus.Ranged) :
    (s.wake i).ladder = Ladder.init ∧ (s.wake i).pwrState = 0 ∧ (s.wake i).pend pwrPage 1 = true := by
  have hset := (s.wakeNoted_quiet i).ranged hr
  rw [State.wake_acts (.inl (by rw [h1]; decide)) (State.wakeActs_moving (by rw [h1]; decide) he),
    State.wakeDone_entry _ ((s.wakeNoted_ladder i).1.trans h1)]
  exact ⟨State.endEntry_ladder 0, (State.endEntry_shows (by decide)).1, State.endEntry_pend hset 0⟩

theorem State.wake_tripped (h0 : s.ladder.phase = 0) (hlo : 1 ≤ s.pwrState) (hhi : s.pwrState ≤ 3) (h7 : i ≠ 7)
    (he : s.bit (pwrKey R.PWR_WAKE_EN) i = true) (ht : s.power.tripped = true) :
    (s.wake i).fld (pwrKey R.PWR_STATUS) 4 4 = 6 ∧ (s.wake i).ladder.phase = 0 := by
  obtain ⟨hphase, hpower⟩ := s.wakeNoted_ladder i
  rw [State.wake_acts (.inr (by omega)) (State.wakeActs_settled h0 he (by omega) (.inr h7)),
    State.wakeDone_settled _ (by rw [hphase, h0]; decide), if_pos (by rw [hpower]; exact ht)]
  exact ⟨State.fld_setFld _ (pwrKey R.PWR_STATUS) 4 4 6 (by decide), (congrArg Ladder.phase (State.setFld_ladder _ _ _ _ _)).trans (hphase.trans h0)⟩

variable {dt : Nat}

theorem exec_pcieL1Exit_wakes (hlo : 1 ≤ s.pwrState) (hhi : s.pwrState ≤ 2) (h0 : s.ladder.phase = 0)
    (he : s.bit (pwrKey R.PWR_WAKE_EN) 7 = true) (ht : s.power.tripped = false) (hw : s.ladder.woken = false) :
    ∃ u : State, exec (.pcieL1Exit dt) s = .next u.beginExit ∧ u.bit (pwrKey R.PWR_WAKE_SRC) 7 = true ∧
      u.fld (pwrKey R.PWR_STATUS) 8 4 = 7 ∧ u.ladder.woken = true ∧ u.pwrState = s.pwrState := by
  obtain ⟨hphase, hpower⟩ := (s.tick dt).wakeNoted_ladder 7
  have hacts : (s.tick dt).wakeActs 7 = true :=
    State.wakeActs_settled (s := s.tick dt) h0 he (show s.pwrState ≠ 4 by omega) (.inl (show s.pwrState ≠ 3 by omega))
  have hdone : (s.tick dt).wake 7 = ((s.tick dt).wakeNoted 7).beginExit := by
    rw [State.wake_acts (s := s.tick dt) (.inr (show s.pwrState ≠ 0 by omega)) hacts,
      State.wakeDone_settled _ (by rw [hphase, show (s.tick dt).ladder.phase = 0 from h0]; decide),
      if_neg (by rw [hpower, show (s.tick dt).power.tripped = false from ht]; decide)]
  have hfirst : (s.tick dt).wakeNoted 7 = ((s.tick dt).setBit (pwrKey R.PWR_WAKE_SRC) 7 true).firstWake 7 :=
    if_neg (by rw [show (s.tick dt).ladder.woken = false from hw]; decide)
  have hle : (s.tick dt).pwrState ≤ 2 := hhi
  refine ⟨_, congrArg Host.Outcome.next ((if_pos hle).trans hdone), (s.tick dt).bit_wakeNoted 7 (by decide), ?_, ?_,
    (s.tick dt).pwrState_wakeNoted 7⟩
  · rw [hfirst, State.fld_eq_bus, State.bus_firstWake, ← State.fld_eq_bus, State.fld_setFld _ _ 8 4 _ (by decide)]
    rfl
  · rw [hfirst, State.ladder_firstWake]

theorem exec_pcieL1Exit_not (h : 3 ≤ s.pwrState) : exec (.pcieL1Exit dt) s = .next (s.tick dt) :=
  congrArg Host.Outcome.next (if_neg (show ¬s.pwrState ≤ 2 by omega))

theorem exec_wake_settled (h0 : s.ladder.phase = 0) (hp : s.pwrState = 0) : exec (.wakeNAssert dt) s = .next (s.tick dt) ∧
    exec (.pcieL1Exit dt) s = .next (s.tick dt) :=
  ⟨congrArg Host.Outcome.next ((s.tick dt).wake_settled 0 h0 hp),
    congrArg Host.Outcome.next ((if_pos (show s.pwrState ≤ 2 by omega)).trans ((s.tick dt).wake_settled 7 h0 hp))⟩

theorem exec_wakeNAssert_recorded (h : s.ladder.phase ≠ 0 ∨ s.pwrState ≠ 0) (h1 : s.ladder.phase ≠ 1) :
    ∃ t, exec (.wakeNAssert dt) s = .next t ∧ t.bit (pwrKey R.PWR_WAKE_SRC) 0 = true :=
  ⟨_, rfl, State.bit_wakeSrc_wake (s := s.tick dt) h h1 (by decide)⟩

end

/-- Settles O51: a domain by the registers of its request and of its state; Watch by the sections a write brings back; a wake source by what
is recorded and by what the phase of the ladder makes of it. -/
theorem domainsAndSectionsLeaveAndReturn : Obligations.DomainsAndSectionsLeaveAndReturn := by
  unfold Obligations.DomainsAndSectionsLeaveAndReturn
  refine ⟨fun dt d req v s hr hd ha hup h hv h0 hown hrun hpwr hmay => exec_pwrDRequest_leaves ha hup hr hd h hv h0 hown hrun hpwr hmay,
    fun dt d v s ha hup h h0 hno => (exec_pwrDRequest ha hup v).trans (congrArg Host.Outcome.next ((s.tick dt).domRequest_refused d h h0 hno)),
    fun s d r hr hd hlt => s.domRefuse_shows hd hr hlt,
    fun dt d v s ha hup h => (exec_pwrDRequest ha hup v).trans (congrArg Host.Outcome.next ((s.tick dt).domRequest_busy d (v % 8) h)),
    fun dt d v s _ hd ha hup h hv h9 h5 h6 => exec_pwrDRequest_wakes ha hup hd h hv h9 h5 h6,
    fun dt d st s hr hd ht h4 h6 h9 htime => exec_domainReached_shows hr hd ht h4 h6 h9 htime,
    fun dt d st s ht h6 h9 htime => ⟨_, rfl, exec_domainWakeTimeout_fails ht h6 h9 htime⟩,
    fun dt d s h6 => exec_domainWakeTimeout_not h6, fun dt d s ha hup h1 hd hrun hb => ?_,
    fun dt d s ha hup h1 hd h => (exec_padRelease_bit ha hup hd).trans (congrArg Host.Outcome.next ((s.tick dt).padBit_notRun h1 h)),
    fun dt v s ha hup => ⟨_, congrArg Host.Outcome.next (State.pwrWrite_owner (s.tick dt) pwrPage _ ha hup), (s.tick dt).watchRequest_shows v⟩,
    fun dt sec s hr hsec hreq hw hl hidle hpost hup => exec_watchEntry_shows hr hsec hreq hw hl hidle hpost hup,
    fun dt sec s h => exec_watchEntry_not h, fun dt sec s hsec hw hl => exec_watchWake_leaves hsec hw hl,
    fun dt sec s hw hreq => exec_watchWake_not hw hreq, fun dt sec s hr hsec h hw => exec_watchRunReached_shows hr hsec h hw,
    fun dt sec s h => exec_watchRunReached_not h, fun dt s h0 hp => exec_wake_settled h0 hp, fun dt s h h1 => exec_wakeNAssert_recorded h h1,
    fun dt s hlo hhi h0 he ht hw => exec_pcieL1Exit_wakes hlo hhi h0 he ht hw, fun dt s h => exec_pcieL1Exit_not h,
    fun s i h2 _ he => State.wake_committed h2 he, fun s i h1 _ he hr => State.wake_entry h1 he hr,
    fun s i h0 hlo hhi _ h7 he ht => State.wake_tripped h0 hlo hhi h7 he ht⟩
  obtain ⟨hheld, hlatch, hothers, hafter⟩ := ((s.tick dt).notBlank d).padsFree_shows hd
  exact ⟨_, (exec_padRelease_bit ha hup hd).trans (congrArg Host.Outcome.next ((s.tick dt).padBit_run h1 hrun hb)), hheld, hlatch, hothers,
    hafter.2⟩

end Sys2Proof.Machine
end

section
-- One theorem after another: each waiting thread takes 256 MB of the memory the check allows.
set_option Elab.async false
/-! SUPPORT. The budget scheduler (R411 to R417, Tables 14-6 and 14-7). The statement on it, settled. -/

namespace Sys2Proof.Machine

/-! ### Registers behind selectors under a detection -/

section
variable {b : Bus} (hr : b.Ranged) (fs : Nat) (u : FaultAt)
include hr

/-- A detection leaves a register that is neither its source's, nor the record's, nor one of the reporting. -/
theorem Bus.rd_fault_apart {k : Nat} (hrec : k ∉ recordKeys fs u) (hcnt : k ≠ fsKey fs R.FLT_SRC_CNT) (hst : k ≠ fsKey fs R.FLT_SRC_STATUS)
    (hpend : k ≠ pendKey (fsPage fs)) (hrep : reportKey k = false) : (b.fault fs u).rd k = b.rd k := by
  by_cases h : fsKnown fs = true
  · rw [b.fault_eq u h, Bus.rd_startGrace _ _ _ _ _ hst,
      (Bus.faultTold_reported hr u (fsKnown_lt h)).regs _ (fun hm => hpend (List.mem_singleton.mp hm)) hrep,
      Bus.rd_faultBooked_ne b fs u _ hrec hcnt hst]
  · rw [b.fault_unknown u (by simpa using h)]

end

theorem plainPage_bud_sel (off sel : Nat) (ho : off < 4096) : reportKey (rkSel budPage off sel) = false :=
  (reportKey_rkSel _ _ _).trans (plainPage_bud.reportKey off ho)

theorem rkSel_ne_rk_page {p q off off' sel : Nat} (hq : q < 0x4000) (ho' : off' < 4096) : rkSel p off sel ≠ rk q off' := by
  simp only [rkSel, rk]
  omega

/-- The sensors and the rails stand behind selectors of the BUD page. -/
theorem budSel_apart {fs : Nat} (addr sel : Nat) {off : Nat} (ho : off < 4096) (hfs : fs < 192) :
    rkSel budPage off sel ∉ recordKeys fs { page := budPage, addr := addr } ∧ rkSel budPage off sel ≠ fsKey fs R.FLT_SRC_CNT ∧
    rkSel budPage off sel ≠ fsKey fs R.FLT_SRC_STATUS ∧ rkSel budPage off sel ≠ pendKey (fsPage fs) := by
  have hpage : fsPage fs < 0x4000 ∧ budPage < fsPage fs ∧ budPage < 0x4000 := by
    simp only [fsPage, budPage, Block.pg, Block.base]
    omega
  have hsrc : ∀ off', off' < 4096 → rkSel budPage off sel ≠ fsKey fs off' := fun off' ho' => by
    simp only [fsKey, rkSel]
    omega
  refine ⟨?_, hsrc _ (by decide), hsrc _ (by decide), rkSel_ne_rk_page hpage.1 (by decide)⟩
  simp only [recordKeys, List.mem_cons, List.not_mem_nil, or_false, not_or]
  exact ⟨rkSel_ne_rk_page (by decide) (by decide), rkSel_ne_rk_page (by decide) (by decide), rkSel_ne_rk_page hpage.1 (by decide),
    rkSel_ne_rk_page hpage.2.2 (by decide)⟩

section
variable {s : State} (hr : s.bus.Ranged)
include hr

theorem State.rd_fault_budSel {fs : Nat} (addr sel : Nat) {off : Nat} (ho : off < 4096 := by decide) (hfs : fs < 192 := by decide) :
    (s.fault fs { page := budPage, addr := addr }).rd (rkSel budPage off sel) = s.rd (rkSel budPage off sel) :=
  have ⟨hrec, hcnt, hst, hpend⟩ := budSel_apart addr sel ho hfs
  Bus.rd_fault_apart hr fs _ hrec hcnt hst hpend (plainPage_bud_sel off sel ho)

theorem State.rd_raise_budSel (bit sel : Nat) {off : Nat} (ho : off < 4096 := by decide) :
    (s.raise budPage bit).rd (rkSel budPage off sel) = s.rd (rkSel budPage off sel) :=
  (plainPage_bud.after_raise hr bit).rd _ (fun h => rkSel_ne_rk_page (q := budPage) (by decide) (by decide) (List.mem_singleton.mp h))
    (plainPage_bud_sel off sel ho)

end

/-! ### The sensors -/

section
variable (s : State) (temps : List (Option Int))

/-- The registers of the sensors. -/
def State.sensWritten (s : State) (temps : List (Option Int)) : State :=
  s.wrEach (fun i => rkSel budPage R.BUD_SENS_DATA i)
    (fun i => ofSigned 16 ((s.sensors temps).getD i 0) + 65536 * b2n (temps.getD i none).isSome) (List.range 128)

/-- The sensors above their targets, and those without a reading. -/
def State.hotNow (s : State) (temps : List (Option Int)) : List Nat :=
  (List.range 128).filter (fun i => decide (16 * s.senTarget i < (s.sensors temps).getD i 0))

def badNow (temps : List (Option Int)) : List Nat := (List.range 128).filter (fun i => (temps.getD i none).isNone)

/-- The hottest sensor. -/
def State.hottest (s : State) (temps : List (Option Int)) : Nat :=
  (List.range 128).foldl (fun (m : Nat) i => if (s.sensors temps).getD m 0 < (s.sensors temps).getD i 0 then i else m) 0

/-- BUD_TJ_MAX, and the free value taken where no sensor reads. -/
def State.maxShown (s : State) (temps : List (Option Int)) : State :=
  ((s.sensWritten temps).wr (budKey R.BUD_TJ_MAX) (ofSigned 16 ((s.sensors temps).getD (s.hottest temps) 0) + s.hottest temps * 65536)).on
    (fun b => if (badNow temps).length = 128 then b.nextFree else b)

/-- FS115 for each sensor that has become invalid, EV54 for each that has risen above its target. -/
def State.sensTold (s : State) (temps : List (Option Int)) : State :=
  ((s.hotNow temps).filter (fun i => !s.power.hot.contains i)).foldl (fun a _ => a.raise budPage 2)
    (((badNow temps).filter (fun i => !s.power.badSens.contains i)).foldl (fun a i => a.fault 115 { page := budPage, addr := i })
      (s.maxShown temps))

/-- The sensors that are hot and those that are bad, as kept. -/
def State.sensKept (s : State) (hot bad : List Nat) : State :=
  { s.setBit (budKey R.BUD_STATUS) 7 (!hot.isEmpty) with power := { s.power with hot := hot, badSens := bad } }

theorem State.budSense_eq : s.budSense temps = (s.sensTold temps).sensKept (s.hotNow temps) (badNow temps) := rfl

theorem State.bus_sensKept (hot bad : List Nat) : (s.sensKept hot bad).bus = (s.setBit (budKey R.BUD_STATUS) 7 (!hot.isEmpty)).bus := rfl
theorem State.hot_sensKept (hot bad : List Nat) : (s.sensKept hot bad).power.hot = hot := rfl

theorem Bus.free_kept (b : Bus) (c : Prop) [Decidable c] : (if c then b.nextFree else b).regs = b.regs ∧
    (b.Ranged → (if c then b.nextFree else b).Ranged) := by
  split
  · exact ⟨rfl, fun h => h⟩
  · exact ⟨rfl, fun h => h⟩

theorem State.rd_maxShown (sel : Nat) : (s.maxShown temps).rd (rkSel budPage R.BUD_SENS_DATA sel) =
    (s.sensWritten temps).rd (rkSel budPage R.BUD_SENS_DATA sel) :=
  (Bus.rd_of_regs (Bus.free_kept _ _).1 _).trans (State.rd_wr_ne _ _ _ _ (rkSel_ne_rk_page (by decide) (by decide)))

theorem State.ranged_maxShown (hr : s.bus.Ranged) : (s.maxShown temps).bus.Ranged :=
  (Bus.free_kept _ _).2 (((State.Quiet.trans ⟨_, s.after_wrEach _ _ _⟩ (.wr (.refl _) _ _))).ranged hr)

theorem State.rd_sensTold (hr : s.bus.Ranged) (sel : Nat) : (s.sensTold temps).rd (rkSel budPage R.BUD_SENS_DATA sel) =
    (s.sensWritten temps).rd (rkSel budPage R.BUD_SENS_DATA sel) := by
  obtain ⟨hranged, hfaults⟩ := State.foldl_keeps_of_ranged (l := (badNow temps).filter (fun i => !s.power.badSens.contains i))
    (f := fun a i => a.fault 115 { page := budPage, addr := i }) (s.ranged_maxShown temps hr) (fun a : State => a.rd (rkSel budPage R.BUD_SENS_DATA sel))
    (fun a ha i _ => ⟨State.ranged_fault _ _ ha, State.rd_fault_budSel ha i sel⟩)
  obtain ⟨-, hevents⟩ := State.foldl_keeps_of_ranged (l := (s.hotNow temps).filter (fun i => !s.power.hot.contains i))
    (f := fun a _ => a.raise budPage 2) hranged (fun a : State => a.rd (rkSel budPage R.BUD_SENS_DATA sel))
    (fun a ha _ _ => ⟨plainPage_bud.ranged_raise ha 2, State.rd_raise_budSel ha 2 sel⟩)
  exact hevents.trans (hfaults.trans (s.rd_maxShown temps sel))

/-- A reading that a sensor gives. -/
theorem State.sensors_getD {i : Nat} {v : Int} (hi : i < 128) (hv : temps.getD i none = some v) : (s.sensors temps).getD i 0 = v := by
  unfold State.sensors
  dsimp only
  rw [List.getD_eq_getElem _ _ (by simpa using hi), List.getElem_map, List.getElem_map, List.getElem_range, hv]

theorem State.rd_sensWritten {i : Nat} {v : Int} (hi : i < 128) (hv : temps.getD i none = some v) :
    (s.sensWritten temps).rd (rkSel budPage R.BUD_SENS_DATA i) = ofSigned 16 v + 65536 := by
  have hinj : ∀ a b, a ≠ b → rkSel budPage R.BUD_SENS_DATA a ≠ rkSel budPage R.BUD_SENS_DATA b := fun a b h => by
    simp only [rkSel]
    omega
  have hlt := ofSigned_lt 16 v
  unfold State.sensWritten
  rw [s.rd_wrEach _ _ hinj _ (List.mem_range.mpr hi), s.sensors_getD temps hi hv, hv]
  show (ofSigned 16 v + 65536 * 1) % 2 ^ 32 = _
  omega

theorem State.budSense_shows {i : Nat} {v : Int} (hr : s.bus.Ranged) (hi : i < 128) (hv : temps.getD i none = some v) :
    (s.budSense temps).fld (rkSel budPage R.BUD_SENS_DATA i) 0 16 = ofSigned 16 v ∧
    (s.budSense temps).bit (rkSel budPage R.BUD_SENS_DATA i) 16 = true ∧
    (i ∈ (s.budSense temps).power.hot ↔ 16 * s.senTarget i < v) := by
  have hlt := ofSigned_lt 16 v
  have hne : rkSel budPage R.BUD_SENS_DATA i ≠ budKey R.BUD_STATUS := rkSel_ne_rk_page (by decide) (by decide)
  have hrd : (s.budSense temps).rd (rkSel budPage R.BUD_SENS_DATA i) = ofSigned 16 v + 65536 := by
    rw [s.budSense_eq, State.rd_eq_bus, State.bus_sensKept, ← State.rd_eq_bus, State.rd_setBit_ne _ _ _ _ _ hne,
      s.rd_sensTold temps hr i, s.rd_sensWritten temps hi hv]
  refine ⟨(congrArg (fieldOf 0 16) hrd).trans ?_, (congrArg (bitOf 16) hrd).trans ?_, ?_⟩
  · show (ofSigned 16 v + 65536) / 2 ^ 0 % 2 ^ 16 = _
    omega
  · have hbit : (ofSigned 16 v + 65536) / 2 ^ 16 % 2 = 1 := by omega
    show decide ((ofSigned 16 v + 65536) / 2 ^ 16 % 2 = 1) = true
    exact decide_eq_true hbit
  · rw [s.budSense_eq, State.hot_sensKept]
    unfold State.hotNow
    rw [List.mem_filter, List.mem_range, decide_eq_true_eq, s.sensors_getD temps hi hv]
    exact and_iff_right hi

end

/-! ### The tick -/

section
variable {dt act : Nat} {temps : List (Option Int)} {s : State}

/-- What a tick does with the estimate (R411, R415). -/
def State.budAct (s2 s3 : State) (p : Nat) (v : List Int) : State :=
  if s3.bus.domUp 2 then
    (if s3.bit (budKey R.BUD_CTRL) 0 then s3.budDecide p v
     else if (s3.setBit (budKey R.BUD_STATUS) 8 false).budLevel = 0 then s3.setBit (budKey R.BUD_STATUS) 8 false
     else (s3.setBit (budKey R.BUD_STATUS) 8 false).budOff)
  else s2

/-- The end of a trip, once every sensor is cool (R417). -/
def State.tripOver (s : State) (v : List Int) : State :=
  if s.power.tripped && s.coolEnough v then { s with power := { s.power with tripped := false } } else s

/-- BUD_P_EST. -/
def State.estShown (s : State) (act : Nat) : State := s.wr (budKey R.BUD_P_EST) (min 65535 (s.powerEst act))

theorem exec_budgetTick : exec (.budgetTick dt temps act) s = .next (State.budAct (((s.tick dt).budSense temps).tripOver ((s.tick dt).sensors temps))
    ((((s.tick dt).budSense temps).tripOver ((s.tick dt).sensors temps)).estShown act)
    ((((s.tick dt).budSense temps).tripOver ((s.tick dt).sensors temps)).powerEst act) ((s.tick dt).sensors temps)) := rfl

theorem exec_budgetTick_untripped {s1 : State} (h1 : s1 = (s.tick dt).budSense temps) (ht : s1.power.tripped = false) :
    exec (.budgetTick dt temps act) s = .next (State.budAct s1 (s1.estShown act) (s1.powerEst act) ((s.tick dt).sensors temps)) := by
  have hover : s1.tripOver ((s.tick dt).sensors temps) = s1 := if_neg (by rw [ht, Bool.false_and]; decide)
  rw [exec_budgetTick, ← h1, hover]

theorem exec_budgetTick_shows {p : Nat} {s1 s3 : State} (h1 : s1 = (s.tick dt).budSense temps) (ht : s1.power.tripped = false)
    (hp : s1.powerEst act = p) (h3 : s3 = s1.wr (budKey R.BUD_P_EST) (min 65535 p)) (hup : s3.bus.domUp 2 = true) :
    (s3.bit (budKey R.BUD_CTRL) 0 = true → exec (.budgetTick dt temps act) s = .next (s3.budDecide p ((s.tick dt).sensors temps))) ∧
    (s3.bit (budKey R.BUD_CTRL) 0 = false → s3.budLevel = 0 →
      exec (.budgetTick dt temps act) s = .next (s3.setBit (budKey R.BUD_STATUS) 8 false)) := by
  have hest : s1.estShown act = s3 := by rw [h3, State.estShown, hp]
  have hlevel : (s3.setBit (budKey R.BUD_STATUS) 8 false).budLevel = s3.budLevel :=
    s3.fld_setBit_of_disjoint (budKey R.BUD_STATUS) 8 false 0 6 (by decide) (by decide)
  rw [exec_budgetTick_untripped h1 ht, hest, hp, State.budAct, if_pos hup]
  exact ⟨fun he => by rw [if_pos he], fun he h0 => by rw [if_neg (by rw [he]; decide), if_pos (hlevel.trans h0)]⟩

/-- The trip ended. -/
def State.untripped (s : State) : State := { s with power := { s.power with tripped := false } }

theorem State.bus_untripped (s : State) : s.untripped.bus = s.bus := rfl

theorem Bus.domUp_wr (b : Bus) (k v d : Nat) (h : pwrDKey d R.PWR_D_STATUS ≠ k) : (b.wr k v).domUp d = b.domUp d := by
  unfold Bus.domUp
  rw [show (b.wr k v).domState d = b.domState d from congrArg (fieldOf 0 4) (b.rd_wr_ne k v _ h)]
  rfl

theorem exec_budgetTick_cool {s1 : State} (h1 : s1 = (s.tick dt).budSense temps) (ht : s1.power.tripped = true)
    (hc : s1.coolEnough ((s.tick dt).sensors temps) = true) (hup : s1.bus.domUp 2 = false) :
    exec (.budgetTick dt temps act) s = .next s1.untripped := by
  have hover : s1.tripOver ((s.tick dt).sensors temps) = s1.untripped := if_pos (by rw [ht, hc]; rfl)
  have hne : pwrDKey 2 R.PWR_D_STATUS ≠ budKey R.BUD_P_EST := (rk_ne_pwrDKey (p := budPage) (by decide) 2).symm
  have hdown : ¬(s1.untripped.estShown act).bus.domUp 2 = true := by
    show ¬(s1.untripped.bus.wr _ _).domUp 2 = true
    rw [Bus.domUp_wr _ _ _ _ hne, State.bus_untripped, hup]
    decide
  rw [exec_budgetTick, ← h1, hover, State.budAct, if_neg hdown]

end

/-! ### The decision -/

section
variable (s : State) (p : Nat) (v : List Int)

/-- The sum of the power in 10 mW that the cap allows. -/
def State.budCap (s : State) : Nat := 100 * s.fld (budKey R.BUD_CAP) 0 10

def State.budTop (s : State) : Nat := s.fld (budKey R.BUD_MAX_LEVEL) 0 6

/-- Whether a step is due: the gap since the last one has passed. -/
def State.budGap (s : State) : Prop := s.power.changed + clkUs (10 * s.fld (budKey R.BUD_SHED_GAP) 0 14) ≤ s.bus.now

/-- Whether the scheduler sheds. -/
def State.budShed (s : State) (p : Nat) : Bool :=
  (decide (s.budCap < p) || !s.power.hot.isEmpty) && decide (s.power.changed + clkUs (10 * s.fld (budKey R.BUD_SHED_GAP) 0 14) ≤ s.bus.now)

/-- Since when power and heat are low. -/
def State.budGood (s : State) (p : Nat) (v : List Int) : Option Nat :=
  if decide (p + 100 * s.fld (budKey R.BUD_HYST) 0 7 ≤ s.budCap) && s.coolEnough v then some (s.power.good.getD s.bus.now) else none

/-- OVER_CAP and the time of low power shown. -/
def State.budNoted (s : State) (p : Nat) (v : List Int) : State :=
  { s.setBit (budKey R.BUD_STATUS) 6 (decide (s.budCap < p)) with power := { s.power with good := s.budGood p v } }

/-- The state in which a step is decided: AT_MAX falls where nothing is shed. -/
def State.budReady (s : State) (p : Nat) (v : List Int) : State :=
  if s.budShed p then s.budNoted p v else (s.budNoted p v).setBit (budKey R.BUD_STATUS) 8 false

/-- A step back, once power and heat have been low for RESTORE_HOLD. -/
def State.budRestore (s : State) (hold now : Nat) : State :=
  match s.power.good with
  | some t => if 0 < s.budLevel ∧ t + clkMs hold ≤ now then s.budStep false else s
  | none => s

/-- A step forward, or AT_MAX with EV55 and FS116. -/
def State.budMore (s : State) (top : Nat) : State :=
  if s.budLevel < top then s.budStep true
  else if s.bit (budKey R.BUD_STATUS) 8 then s
  else ((s.setBit (budKey R.BUD_STATUS) 8 true).raise budPage 3).fault 116 { page := budPage }

theorem State.budDecide_eq : s.budDecide p v =
    if s.budTop < (s.budReady p v).budLevel then (s.budReady p v).budStep false
    else if s.budShed p then (s.budReady p v).budMore s.budTop
    else (s.budReady p v).budRestore (s.fld (budKey R.BUD_RESTORE_HOLD) 0 16) s.bus.now := rfl

theorem State.rd_budNoted_eq (k : Nat) : (s.budNoted p v).rd k = (s.setBit (budKey R.BUD_STATUS) 6 (decide (s.budCap < p))).rd k := rfl
theorem State.good_budNoted : (s.budNoted p v).power.good = s.budGood p v := rfl
theorem State.power_setBit' (k i : Nat) (b : Bool) : (s.setBit k i b).power = s.power := rfl

theorem State.budLevel_of_rd {s t : State} (h : t.rd (budKey R.BUD_STATUS) = s.rd (budKey R.BUD_STATUS)) : t.budLevel = s.budLevel :=
  State.fld_of_rd h 0 6

theorem State.budNoted_shows : (s.budNoted p v).budLevel = s.budLevel ∧ (s.budNoted p v).bit (budKey R.BUD_STATUS) 6 = decide (s.budCap < p) ∧
    (s.budNoted p v).bit (budKey R.BUD_STATUS) 8 = s.bit (budKey R.BUD_STATUS) 8 := by
  have hrd := s.rd_budNoted_eq p v (budKey R.BUD_STATUS)
  exact ⟨(State.budLevel_of_rd hrd).trans (s.fld_setBit_of_disjoint (budKey R.BUD_STATUS) 6 _ 0 6 (by decide) (by decide)),
    (State.bit_of_rd hrd 6).trans (s.bit_setBit (budKey R.BUD_STATUS) 6 _ (by decide)),
    (State.bit_of_rd hrd 8).trans (s.bit_setBit_ne (budKey R.BUD_STATUS) 6 _ 8 (by decide) (by decide))⟩

theorem State.budLevel_budReady : (s.budReady p v).budLevel = s.budLevel := by
  unfold State.budReady
  split
  · exact (s.budNoted_shows p v).1
  · exact (State.fld_setBit_of_disjoint _ (budKey R.BUD_STATUS) 8 false 0 6 (by decide) (by decide)).trans (s.budNoted_shows p v).1

theorem State.budReady_idle (h : s.budShed p = false) : (s.budReady p v).bit (budKey R.BUD_STATUS) 8 = false ∧
    (s.budReady p v).power.good = s.budGood p v := by
  rw [State.budReady, if_neg (by rw [h]; decide)]
  exact ⟨State.bit_setBit _ (budKey R.BUD_STATUS) 8 false (by decide), (congrArg Power.good (State.power_setBit' _ _ _ _)).trans (s.good_budNoted p v)⟩

variable {s p v}

theorem State.budShed_true (hcap : s.budCap < p ∨ s.power.hot ≠ []) (hgap : s.budGap) : s.budShed p = true := by
  have hor : (decide (s.budCap < p) || !s.power.hot.isEmpty) = true := by
    rw [Bool.or_eq_true, decide_eq_true_eq, Bool.not_eq_true', List.isEmpty_eq_false_iff]
    exact hcap
  rw [State.budShed, hor]
  exact decide_eq_true hgap

theorem State.budShed_false (h : (p ≤ s.budCap ∧ s.power.hot = []) ∨ ¬s.budGap) : s.budShed p = false := by
  unfold State.budShed
  rcases h with ⟨hp, hh⟩ | hgap
  · rw [decide_eq_false (Nat.not_lt.mpr hp), hh]
    rfl
  · rw [show decide (s.power.changed + clkUs (10 * s.fld (budKey R.BUD_SHED_GAP) 0 14) ≤ s.bus.now) = false from decide_eq_false hgap,
      Bool.and_false]

theorem State.budDecide_sheds (hcap : s.budCap < p) (hl : s.budLevel < s.budTop) (hgap : s.budGap) :
    s.budDecide p v = (s.budNoted p v).budStep true := by
  have hshed := State.budShed_true (.inl hcap) hgap
  have hready : s.budReady p v = s.budNoted p v := if_pos hshed
  have hlevel := (s.budNoted_shows p v).1
  rw [s.budDecide_eq, hready, hlevel, if_neg (Nat.not_lt.mpr hl.le), if_pos hshed, State.budMore, hlevel, if_pos hl]

theorem State.budDecide_atMax (hcap : s.budCap < p ∨ s.power.hot ≠ []) (hl : s.budLevel = s.budTop) (hgap : s.budGap)
    (h8 : s.bit (budKey R.BUD_STATUS) 8 = false) : s.budDecide p v =
      (((s.budNoted p v).setBit (budKey R.BUD_STATUS) 8 true).raise budPage 3).fault 116 { page := budPage } := by
  have hshed := State.budShed_true hcap hgap
  have hready : s.budReady p v = s.budNoted p v := if_pos hshed
  obtain ⟨hlevel, -, hmax⟩ := s.budNoted_shows p v
  rw [s.budDecide_eq, hready, hlevel, if_neg (by omega), if_pos hshed, State.budMore, hlevel, if_neg (by omega), if_neg (by rw [hmax, h8]; decide)]

theorem State.budDecide_lowered (h : s.budTop < s.budLevel) : s.budDecide p v = (s.budReady p v).budStep false := by
  rw [s.budDecide_eq, s.budLevel_budReady, if_pos h]

theorem State.budRestore_due {t hold now : Nat} (s : State) (hg : s.power.good = some t) (hl : 0 < s.budLevel) (ht : t + clkMs hold ≤ now) :
    s.budRestore hold now = s.budStep false := by
  unfold State.budRestore
  rw [hg]
  exact if_pos ⟨hl, ht⟩

theorem State.budDecide_restores {t : Nat} (hp : p + 100 * s.fld (budKey R.BUD_HYST) 0 7 ≤ s.budCap) (hc : s.coolEnough v = true)
    (hh : s.power.hot = []) (hg : s.power.good = some t) (hl : 0 < s.budLevel) (htop : s.budLevel ≤ s.budTop)
    (ht : t + clkMs (s.fld (budKey R.BUD_RESTORE_HOLD) 0 16) ≤ s.bus.now) : s.budDecide p v = (s.budReady p v).budStep false := by
  have hshed := State.budShed_false (s := s) (.inl ⟨(Nat.le_add_right _ _).trans hp, hh⟩)
  have hgood : (s.budReady p v).power.good = some t := by
    rw [(s.budReady_idle p v hshed).2, State.budGood, decide_eq_true hp, hc, hg]
    rfl
  have hlevel := s.budLevel_budReady p v
  rw [s.budDecide_eq, if_neg (by rw [hlevel]; omega), if_neg (by rw [hshed]; decide),
    State.budRestore_due _ hgood (by rw [hlevel]; exact hl) ht]

end

/-! ### A step, and the actions of its level -/

section
variable (b : Bus) (blk : Block) (bit entry : Nat)

theorem Bus.rd_raiseEntry_bud {off : Nat} (ho : off < 4096) (hne : off ≠ hdrEvtPend) :
    (b.raiseEntry blk bit entry).rd (budKey off) = b.rd (budKey off) := by
  unfold Bus.raiseEntry
  exact Bus.rd_raiseAt (rk_lt_keeper (p := budPage) (by decide) ho) (rk_ne_of_off hne ho) b _ _ _ _ _ _ (rk_ne_of_off hne ho)

theorem Bus.held_raiseEntry : b.Held (b.raiseEntry blk bit entry) := by
  unfold Bus.raiseEntry
  exact b.held_raiseAt _ _ _ _ _ _

end

/-- What the actions of a level leave: the registers of the BUD page, the scheduler's own state and the grants. -/
structure State.BudKept (s t : State) : Prop where
  regs : ∀ off, off < 4096 → off ≠ hdrEvtPend → t.rd (budKey off) = s.rd (budKey off)
  power : t.power = s.power
  grants : t.bus.grants = s.bus.grants
  keeper : t.bus.keeper = s.bus.keeper

namespace State.BudKept

variable {s t u : State}

theorem refl (s : State) : s.BudKept s := ⟨fun _ _ _ => rfl, rfl, rfl, rfl⟩

theorem trans (h : s.BudKept t) (h' : t.BudKept u) : s.BudKept u :=
  ⟨fun off ho hne => (h'.regs off ho hne).trans (h.regs off ho hne), h'.power.trans h.power, h'.grants.trans h.grants, h'.keeper.trans h.keeper⟩

theorem ranged (h : s.BudKept t) (hr : s.bus.Ranged) : t.bus.Ranged := by
  rw [Bus.Ranged, h.grants, h.keeper]
  exact hr

theorem wr (h : s.BudKept t) {k : Nat} (v : Nat) (hk : 8 * 4096 ≤ k) : s.BudKept (t.wr k v) := by
  refine h.trans ⟨fun off ho _ => t.rd_wr_ne k v _ ?_, rfl, rfl, rfl⟩
  simp only [budKey, budPage, rk, Block.pg, Block.base]
  omega

theorem setBit (h : s.BudKept t) {k : Nat} (i : Nat) (v : Bool) (hk : 8 * 4096 ≤ k) : s.BudKept (t.setBit k i v) := h.wr _ hk
theorem setFld (h : s.BudKept t) {k : Nat} (lo w v : Nat) (hk : 8 * 4096 ≤ k) : s.BudKept (t.setFld k lo w v) := h.wr _ hk

theorem raise (h : s.BudKept t) (page bit : Nat) : s.BudKept (t.raise page bit) :=
  have hheld := t.held_raise page bit
  h.trans ⟨fun _ ho hne => State.rd_raise_ctl t (p := budPage) (by decide) hne ho page bit, rfl, hheld.grants, hheld.keeper⟩

theorem raiseEntry (h : s.BudKept t) (blk : Block) (bit entry : Nat) : s.BudKept (t.raiseEntry blk bit entry) :=
  have hheld := t.bus.held_raiseEntry blk bit entry
  h.trans ⟨fun _ ho hne => t.bus.rd_raiseEntry_bud blk bit entry ho hne, rfl, hheld.grants, hheld.keeper⟩

theorem armed (t : State) (i clks : Nat) : t.BudKept (t.arm i clks) := ⟨fun _ _ _ => State.rd_arm _ _ _ _, rfl, rfl, rfl⟩
theorem disarmed (t : State) (i : Nat) : t.BudKept (t.disarm i) := ⟨fun _ _ _ => State.rd_disarm _ _ _, rfl, rfl, rfl⟩
theorem emitted (t : State) (o : Out) : t.BudKept (t.emit o) := ⟨fun _ _ _ => rfl, rfl, rfl, rfl⟩
theorem withLit (t : State) (x : Light) : t.BudKept { t with lit := x } := ⟨fun _ _ _ => rfl, rfl, rfl, rfl⟩
theorem withFab (t : State) (x : Fab) : t.BudKept { t with fab := x } := ⟨fun _ _ _ => rfl, rfl, rfl, rfl⟩

theorem arm (h : s.BudKept t) (i clks : Nat) : s.BudKept (t.arm i clks) := h.trans (armed t i clks)
theorem disarm (h : s.BudKept t) (i : Nat) : s.BudKept (t.disarm i) := h.trans (disarmed t i)
theorem emit (h : s.BudKept t) (o : Out) : s.BudKept (t.emit o) := h.trans (emitted t o)
theorem lit (h : s.BudKept t) (x : Light) : s.BudKept { t with lit := x } := h.trans (withLit t x)
theorem fab (h : s.BudKept t) (x : Fab) : s.BudKept { t with fab := x } := h.trans (withFab t x)

theorem ite {c : Prop} [Decidable c] (ht : s.BudKept t) (hu : s.BudKept u) : s.BudKept (if c then t else u) := by
  split
  · exact ht
  · exact hu

theorem foldl {β : Type} {f : State → β → State} (h : s.BudKept t) (l : List β) (hf : ∀ a : State, ∀ x ∈ l, a.BudKept (f a x)) :
    s.BudKept (l.foldl f t) :=
  List.foldlRecOn (motive := fun a => s.BudKept a) l f h fun _ ha x hx => ha.trans (hf _ x hx)

theorem add64 (h : s.BudKept t) {k : Nat} (n : Nat) (hk : 8 * 4096 ≤ k) : s.BudKept (t.add64 k n) := (h.wr _ hk).wr _ (by omega)

theorem sendFrame (h : s.BudKept t) (p : Nat) (l : List Byte) : s.BudKept (t.sendFrame p l) :=
  have hk : ∀ off, 8 * 4096 ≤ prtKey p off := fun off => by
    simp only [prtKey, prtPage, rk, Block.pg, Block.base]
    omega
  ((h.emit _).add64 _ (hk _)).add64 _ (hk _)

theorem sendXoff (h : s.BudKept t) (p : Nat) : s.BudKept (t.sendXoff p) := .ite h ((h.sendFrame p _).arm _ _)

theorem setPfcReq (h : s.BudKept t) (p req : Nat) : s.BudKept (t.setPfcReq p req) := by
  have hset : s.BudKept { t with fab := { t.fab with pfcReq := t.fab.pfcReq.put 0 p (req % 128) } } := h.fab _
  unfold State.setPfcReq
  dsimp only
  exact .ite (.disarm (.ite hset (hset.sendFrame p _)) _) (.ite (.ite hset (hset.sendFrame p _)) (.sendXoff (.ite hset (hset.sendFrame p _)) p))

theorem patHold (h : s.BudKept t) (p : Nat) (held : Bool) : s.BudKept (t.patHold p held) := by
  have hk : 8 * 4096 ≤ patKey p R.PAT_STATUS := by
    simp only [patKey, patPage, rk, Block.pg, Block.base]
    omega
  exact .ite h (((h.lit _).setBit _ _ hk).raise _ _)

end State.BudKept

section
variable (s : State)

theorem State.budKept_budActions (level : Nat) : s.BudKept (s.budActions level) := by
  have hcmp : ∀ n, 8 * 4096 ≤ cmpKey n R.CMP_STATUS := fun n => by
    simp only [cmpKey, cmpPage, rk, Block.pg, Block.base]
    omega
  have hwin : ∀ w, 8 * 4096 ≤ winReg w R.WIN_STATUS := fun w => by
    simp only [winReg, rk, Block.pg, Block.base]
    omega
  have hegq : ∀ p, 8 * 4096 ≤ egqPort p R.EGQ_PBUD := fun p => by
    simp only [egqPort, rkSel, Block.pg, Block.base]
    omega
  unfold State.budActions
  extract_lets s1 s2 s3
  have h1 : s.BudKept s1 := (State.BudKept.refl s).foldl _ fun a p _ => (State.BudKept.refl a).patHold p _
  have h2 : s.BudKept s2 := h1.foldl _ fun a n _ => (State.BudKept.refl a).setFld _ _ _ (hcmp n)
  have h3 : s.BudKept s3 := h2.foldl _ fun a w _ => .ite ((State.BudKept.refl a).setFld _ _ _ (hwin w)) (.refl a)
  refine h3.foldl _ fun a p _ => ?_
  exact (State.BudKept.ite (((State.BudKept.refl a).setFld _ _ _ (hegq p)).raiseEntry _ _ _) (.refl a)).setPfcReq p _

/-- The scheduler's own state after a step. -/
def State.changedAt (s : State) (now : Nat) : State := { s with power := { s.power with changed := now, good := none } }

theorem State.rd_changedAt (now k : Nat) : (s.changedAt now).rd k = s.rd k := rfl
theorem State.bus_changedAt (now : Nat) : (s.changedAt now).bus = s.bus := rfl
theorem State.power_changedAt (now : Nat) : (s.changedAt now).power = { s.power with changed := now, good := none } := rfl

/-- The registers and the time of a step. -/
def State.stepped (s : State) (l : Nat) : State := ((s.setFld (budKey R.BUD_STATUS) 0 6 l).budActions l).changedAt s.bus.now

theorem State.budStep_true : s.budStep true = ((s.stepped (s.budLevel + 1)).addWrap (budKey R.BUD_CNT_SHED) 1).raise budPage 0 := by
  unfold State.budStep State.stepped State.changedAt
  simp only [if_true]

theorem State.budStep_false : s.budStep false = ((s.stepped (s.budLevel - 1)).addWrap (budKey R.BUD_CNT_RESTORE) 1).raise budPage 1 := by
  unfold State.budStep State.stepped State.changedAt
  simp only [Bool.false_eq_true, if_false]

theorem State.rd_stepped (l off : Nat) (ho : off < 4096 := by decide) (hne : off ≠ hdrEvtPend := by decide) :
    (s.stepped l).rd (budKey off) = (s.setFld (budKey R.BUD_STATUS) 0 6 l).rd (budKey off) :=
  (State.rd_changedAt _ _ _).trans (((s.setFld (budKey R.BUD_STATUS) 0 6 l).budKept_budActions l).regs off ho hne)

theorem State.power_stepped (l : Nat) : (s.stepped l).power = { s.power with changed := s.bus.now, good := none } := by
  rw [State.stepped, State.power_changedAt, ((s.setFld (budKey R.BUD_STATUS) 0 6 l).budKept_budActions l).power, State.setFld_power]

theorem State.ranged_stepped (hr : s.bus.Ranged) (l : Nat) : (s.stepped l).bus.Ranged := by
  rw [State.stepped, State.bus_changedAt]
  exact ((s.setFld (budKey R.BUD_STATUS) 0 6 l).budKept_budActions l).ranged (s.ranged_setFld hr _ _ _ _)

/-- The registers of the BUD page after the step's count and its event. -/
theorem State.rd_counted (t : State) (cnt bit off : Nat) (h : budKey off ≠ budKey cnt) (ho : off < 4096 := by decide)
    (hne : off ≠ hdrEvtPend := by decide) : ((t.addWrap (budKey cnt) 1).raise budPage bit).rd (budKey off) = t.rd (budKey off) :=
  (State.rd_raise_ctl _ (p := budPage) (by decide) hne ho budPage bit).trans (t.rd_addWrap_ne _ _ _ h)

theorem State.rd_count (t : State) (cnt bit : Nat) (ho : cnt < 4096 := by decide) (hne : cnt ≠ hdrEvtPend := by decide) :
    ((t.addWrap (budKey cnt) 1).raise budPage bit).rd (budKey cnt) = (t.rd (budKey cnt) + 1) % 2 ^ 32 :=
  (State.rd_raise_ctl _ (p := budPage) (by decide) hne ho budPage bit).trans (t.rd_addWrap _ _)

theorem State.budLevel_stepped {l : Nat} (h : l < 64) : (s.stepped l).budLevel = l :=
  (State.budLevel_of_rd (s.rd_stepped l R.BUD_STATUS)).trans
    ((s.fld_setFld (budKey R.BUD_STATUS) 0 6 l (by decide)).trans (Nat.mod_eq_of_lt h))

theorem State.ranged_addWrap (k n : Nat) (hr : s.bus.Ranged) : (s.addWrap k n).bus.Ranged := hr.wr _ _

theorem State.budStep_true_shows (hr : s.bus.Ranged) (h : s.budLevel < 63) : (s.budStep true).budLevel = s.budLevel + 1 ∧
    (s.budStep true).rd (budKey R.BUD_CNT_SHED) = (s.rd (budKey R.BUD_CNT_SHED) + 1) % 2 ^ 32 ∧ (s.budStep true).pend budPage 0 = true ∧
    (s.budStep true).power = { s.power with changed := s.bus.now, good := none } := by
  have hcnt := (s.rd_stepped (s.budLevel + 1) R.BUD_CNT_SHED).trans (s.rd_setFld_ne _ _ _ _ _ (by decide))
  have hlevel := s.budLevel_stepped (l := s.budLevel + 1) (by omega)
  have hpower := s.power_stepped (s.budLevel + 1)
  have hset := s.ranged_stepped hr (s.budLevel + 1)
  rw [s.budStep_true]
  generalize s.stepped (s.budLevel + 1) = t at *
  refine ⟨(State.budLevel_of_rd (t.rd_counted R.BUD_CNT_SHED 0 R.BUD_STATUS (by decide))).trans hlevel, ?_,
    plainPage_bud.pend_raise (t.ranged_addWrap _ _ hset) 0 (by decide), ?_⟩
  · rw [t.rd_count R.BUD_CNT_SHED 0, hcnt]
  · rw [State.raise_power]
    exact hpower

theorem State.budStep_false_shows (hr : s.bus.Ranged) (h : 0 < s.budLevel) : (s.budStep false).budLevel = s.budLevel - 1 ∧
    (s.budStep false).rd (budKey R.BUD_CNT_RESTORE) = (s.rd (budKey R.BUD_CNT_RESTORE) + 1) % 2 ^ 32 ∧
    (s.budStep false).pend budPage 1 = true := by
  have hlt : s.budLevel < 2 ^ 6 := fieldOf_lt 0 6 _
  have hcnt := (s.rd_stepped (s.budLevel - 1) R.BUD_CNT_RESTORE).trans (s.rd_setFld_ne _ _ _ _ _ (by decide))
  have hlevel := s.budLevel_stepped (l := s.budLevel - 1) (by omega)
  have hset := s.ranged_stepped hr (s.budLevel - 1)
  rw [s.budStep_false]
  generalize s.stepped (s.budLevel - 1) = t at *
  refine ⟨(State.budLevel_of_rd (t.rd_counted R.BUD_CNT_RESTORE 1 R.BUD_STATUS (by decide))).trans hlevel, ?_,
    plainPage_bud.pend_raise (t.ranged_addWrap _ _ hset) 1 (by decide)⟩
  rw [t.rd_count R.BUD_CNT_RESTORE 1, hcnt]

/-- AT_MAX stays as a step back is taken. -/
theorem State.atMax_budStep_false : (s.budStep false).bit (budKey R.BUD_STATUS) 8 = s.bit (budKey R.BUD_STATUS) 8 := by
  rw [s.budStep_false]
  exact (State.bit_of_rd ((State.rd_counted _ R.BUD_CNT_RESTORE 1 R.BUD_STATUS (by decide)).trans (s.rd_stepped _ R.BUD_STATUS)) 8).trans
    (s.bit_setFld_of_disjoint (budKey R.BUD_STATUS) 0 6 _ 8 (by decide) (by decide))

theorem State.atMax_budRestore (hold now : Nat) : (s.budRestore hold now).bit (budKey R.BUD_STATUS) 8 = s.bit (budKey R.BUD_STATUS) 8 := by
  unfold State.budRestore
  split
  · split
    · exact s.atMax_budStep_false
    · rfl
  · rfl

theorem State.budDecide_notMax (p : Nat) (v : List Int) (h : (p ≤ s.budCap ∧ s.power.hot = []) ∨ ¬s.budGap) :
    (s.budDecide p v).bit (budKey R.BUD_STATUS) 8 = false := by
  have hshed := State.budShed_false h
  have h8 := (s.budReady_idle p v hshed).1
  rw [s.budDecide_eq, hshed]
  split
  · exact (State.atMax_budStep_false _).trans h8
  · exact (State.atMax_budRestore _ _ _).trans h8

end

/-! ### Rails -/

section
variable {s : State} {dt r : Nat}

/-- A rail's reading shown. -/
def State.railShown (s : State) (r p : Nat) : State :=
  (s.setBit (railKey r R.BUD_RAIL_DATA) 16 true).setFld (railKey r R.BUD_RAIL_DATA) 0 16 (min 65535 p)

/-- The estimate at the time of a rail's reading. -/
def State.railRead (s : State) (r act now : Nat) : State :=
  { s with power := { s.power with act := s.power.act.set r act, readAt := s.power.readAt.set r now } }

theorem State.bus_railRead (s : State) (r act now : Nat) : (s.railRead r act now).bus = s.bus := rfl
theorem State.rd_railRead (s : State) (r act now k : Nat) : (s.railRead r act now).rd k = s.rd k := rfl
theorem State.power_railRead (s : State) (r act now : Nat) : (s.railRead r act now).power =
    { s.power with act := s.power.act.set r act, readAt := s.power.readAt.set r now } := rfl
theorem State.power_railShown (s : State) (r p : Nat) : (s.railShown r p).power = s.power :=
  (State.setFld_power _ _ _ _ _).trans (State.setBit_power _ _ _ _)

theorem exec_pmbusPoll_goes {p act : Nat} (hr : r < 16) (he : s.railEn r = true) (hc : s.bit (budKey R.BUD_PMBUS_CTRL) 0 = true)
    (hb : r ∉ s.power.badRails) : exec (.pmbusPoll dt r p act) s = .next (((s.tick dt).railShown r p).railRead r act (s.bus.now + dt)) := by
  have hgood : ¬(s.tick dt).power.badRails.contains r = true := by rwa [List.contains_iff_mem]
  show execPmbusPoll dt r p act s = _
  unfold execPmbusPoll
  dsimp only
  rw [if_pos ⟨hr, he, hc⟩, if_neg hgood]
  rfl

theorem exec_pmbusPoll_shows {p act : Nat} (hr : r < 16) (he : s.railEn r = true) (hc : s.bit (budKey R.BUD_PMBUS_CTRL) 0 = true)
    (hb : r ∉ s.power.badRails) : ∃ t, exec (.pmbusPoll dt r p act) s = .next t ∧ t.fld (railKey r R.BUD_RAIL_DATA) 0 16 = min 65535 p ∧
      t.bit (railKey r R.BUD_RAIL_DATA) 16 = true ∧ t.power =
        { s.power with act := s.power.act.set r act, readAt := s.power.readAt.set r (s.bus.now + dt) } ∧
      (s.tick dt).bus.Reported t.bus [railKey r R.BUD_RAIL_DATA] := by
  have hafter : (s.tick dt).After ((s.tick dt).railShown r p) [railKey r R.BUD_RAIL_DATA] :=
    ((State.After.refl _ _).setBit _ _ _ (List.mem_singleton_self _)).setFld _ _ _ _ (List.mem_singleton_self _)
  have hbit : ((s.tick dt).railShown r p).bit (railKey r R.BUD_RAIL_DATA) 16 = true :=
    (State.bit_setFld_of_disjoint _ (railKey r R.BUD_RAIL_DATA) 0 16 _ 16 (by decide) (by decide)).trans
      (State.bit_setBit _ (railKey r R.BUD_RAIL_DATA) 16 true (by decide))
  have hfld : ((s.tick dt).railShown r p).fld (railKey r R.BUD_RAIL_DATA) 0 16 = min 65535 p :=
    (State.fld_setFld _ (railKey r R.BUD_RAIL_DATA) 0 16 _ (by decide)).trans (Nat.mod_eq_of_lt (by omega))
  have hpower : ((s.tick dt).railShown r p).power = s.power := (s.tick dt).power_railShown r p
  refine ⟨_, exec_pmbusPoll_goes hr he hc hb, ?_⟩
  generalize (s.tick dt).railShown r p = t at *
  rw [State.power_railRead, State.bus_railRead, hpower]
  have hrd := t.rd_railRead r act (s.bus.now + dt) (railKey r R.BUD_RAIL_DATA)
  exact ⟨(State.fld_of_rd hrd 0 16).trans hfld, (State.bit_of_rd hrd 16).trans hbit, rfl, hafter.2⟩

theorem exec_rail_not (he : s.railEn r = false) (p act : Nat) : exec (.pmbusPoll dt r p act) s = .next (s.tick dt) ∧
    ∀ valid, exec (.railInvalid dt r valid) s = .next (s.tick dt) :=
  ⟨congrArg Host.Outcome.next (if_neg fun h => absurd (he.symm.trans h.2.1) (by decide)),
    fun _ => congrArg Host.Outcome.next (if_neg fun h => absurd (he.symm.trans h.2) (by decide))⟩

/-- A rail out of the list of those that answer. -/
def State.railBad (s : State) (r : Nat) : State := { s with power := { s.power with badRails := r :: s.power.badRails } }

/-- The registers of a rail that has failed. -/
def State.railLost (s : State) (r : Nat) : State :=
  ((s.railBad r).setBit (railKey r R.BUD_RAIL_DATA) 16 false).setBit (budKey R.BUD_STATUS) 9 true

theorem State.railValid_lost (s : State) (h : r ∉ s.power.badRails) :
    s.railValid r false = ((s.railLost r).fault 114 { page := budPage, addr := r }).raise budPage 4 := by
  have hno : s.power.badRails.contains r = false := by rwa [← Bool.not_eq_true, List.contains_iff_mem]
  unfold State.railValid
  dsimp only
  rw [hno]
  rfl

theorem exec_railInvalid_goes (hr : r < 16) (he : s.railEn r = true) (hb : r ∉ s.power.badRails) : exec (.railInvalid dt r false) s =
    .next ((((s.tick dt).railLost r).fault 114 { page := budPage, addr := r }).raise budPage 4) :=
  congrArg Host.Outcome.next ((if_pos ⟨hr, he⟩).trans ((s.tick dt).railValid_lost hb))

theorem State.power_railLost (s : State) (r : Nat) : (s.railLost r).power = { s.power with badRails := r :: s.power.badRails } := rfl
theorem State.rd_railBad (s : State) (r k : Nat) : (s.railBad r).rd k = s.rd k := rfl
theorem State.ranged_railBad (s : State) (r : Nat) (hr : s.bus.Ranged) : (s.railBad r).bus.Ranged := hr

/-- A rail without a reading counts with what its registers give. -/
theorem State.railPower_unread {s : State} (h : s.bit (railKey r R.BUD_RAIL_DATA) 16 = false) :
    s.railPower r = 10 * s.fld (railKey r R.BUD_RAIL_CFG) 16 16 := by
  unfold State.railPower
  exact if_neg (by rw [h]; decide)

theorem exec_railInvalid_shows (hrg : s.bus.Ranged) (hr : r < 16) (he : s.railEn r = true) (hb : r ∉ s.power.badRails) :
    ∃ t, exec (.railInvalid dt r false) s = .next t ∧ t.bit (railKey r R.BUD_RAIL_DATA) 16 = false ∧
      t.bit (budKey R.BUD_STATUS) 9 = true ∧ t.pend budPage 4 = true ∧ t.power = { s.power with badRails := r :: s.power.badRails } ∧
      t.railPower r = 10 * s.fld (railKey r R.BUD_RAIL_CFG) 16 16 := by
  have hset : ((s.tick dt).railLost r).bus.Ranged :=
    State.ranged_setBit _ (State.ranged_setBit _ ((s.tick dt).ranged_railBad r hrg) _ _ _) _ _ _
  have hdata : ((s.tick dt).railLost r).bit (railKey r R.BUD_RAIL_DATA) 16 = false :=
    (State.bit_setBit_other _ _ _ _ _ _ (rkSel_ne_rk_page (q := budPage) (by decide) (by decide))).trans
      (State.bit_setBit _ (railKey r R.BUD_RAIL_DATA) 16 false (by decide))
  have hstatus : ((s.tick dt).railLost r).bit (budKey R.BUD_STATUS) 9 = true := State.bit_setBit _ (budKey R.BUD_STATUS) 9 true (by decide)
  have hcfg : ((s.tick dt).railLost r).rd (railKey r R.BUD_RAIL_CFG) = s.rd (railKey r R.BUD_RAIL_CFG) :=
    (State.rd_setBit_ne _ _ _ _ _ (rkSel_ne_rk_page (q := budPage) (by decide) (by decide))).trans
      ((State.rd_setBit_ne _ _ _ _ _ (rkSel_inj_off)).trans ((s.tick dt).rd_railBad r _))
  have hpower := (s.tick dt).power_railLost r
  refine ⟨_, exec_railInvalid_goes hr he hb, ?_⟩
  generalize (s.tick dt).railLost r = t at *
  have hfault : (t.fault 114 { page := budPage, addr := r }).bus.Ranged := State.ranged_fault _ _ hset
  have hsel : ∀ off, off < 4096 → ((t.fault 114 { page := budPage, addr := r }).raise budPage 4).rd (railKey r off) = t.rd (railKey r off) :=
    fun off ho => (State.rd_raise_budSel hfault 4 r ho).trans (State.rd_fault_budSel hset r r ho)
  have hbit := (State.bit_of_rd (hsel R.BUD_RAIL_DATA (by decide)) 16).trans hdata
  refine ⟨hbit, ?_, plainPage_bud.pend_raise hfault 4 (by decide), ?_, ?_⟩
  · refine (State.bit_of_rd ((State.rd_raise_ctl _ (p := budPage) (off := R.BUD_STATUS) (by decide) (by decide) (by decide) budPage 4).trans ?_) 9).trans hstatus
    exact State.rd_fault_ctl (p := budPage) (off := R.BUD_STATUS) t 114 _
  · rw [State.raise_power, State.fault_power]
    exact hpower
  · refine (State.railPower_unread hbit).trans ?_
    exact congrArg (fun x => 10 * fieldOf 16 16 x) ((hsel R.BUD_RAIL_CFG (by decide)).trans hcfg)

end

/-! ### The thermal trip -/

section
variable {s : State} {dt : Nat}

/-- A domain that is not yet in Deep or Off goes to Deep. -/
def State.deepDown (a : State) (d : Nat) : State := if a.bus.domState d < 3 ∨ 5 ≤ a.bus.domState d then a.domDown d 3 else a

theorem State.lds_setStage' (s : State) (n : Nat) (x : Stage) : (s.setStage' n x).lds = s.lds := rfl
theorem State.lds_setMtx (s : State) (m : Nat) (x : Mtx) : (s.setMtx m x).lds = s.lds := rfl

theorem State.lds_fieldDark (s : State) : s.fieldDark.lds = s.lds := by
  unfold State.fieldDark
  extract_lets s1
  have h1 : s1.lds = s.lds := State.foldl_keeps State.lds _ _ (fun a n _ => (State.wr_lds _ _ _).trans (a.lds_setStage' n _)) s
  clear_value s1
  exact (State.foldl_keeps State.lds _ _ (fun a m _ => a.lds_setMtx m _) s1).trans h1

theorem State.lds_setDom (s : State) (d st : Nat) : (s.setDom d st).lds = s.lds := by
  unfold State.setDom
  split <;> rfl

theorem State.lds_padsLatch (s : State) (d st : Nat) : (s.padsLatch d st).lds = s.lds := by
  unfold State.padsLatch
  split <;> rfl

theorem State.lds_fieldLeaves (s : State) (d : Nat) : (s.fieldLeaves d).lds = s.lds := by
  unfold State.fieldLeaves
  split
  · exact s.lds_fieldDark
  · rfl

theorem State.lds_sinceErased (s : State) (d : Nat) : (s.sinceErased d).lds = s.lds := rfl

theorem State.lds_deepDown (a : State) (d : Nat) : (a.deepDown d).lds = a.lds := by
  unfold State.deepDown
  split
  · rw [a.domDown_eq, State.lds_sinceErased, State.lds_fieldLeaves, State.lds_padsLatch, State.lds_setDom]
  · rfl

theorem State.domState_domDown_ne (a : State) {d e st : Nat} (he : e < 22) (h : e ≠ d) : (a.domDown d st).bus.domState e = a.bus.domState e := by
  refine (State.domState_of_rd (a.rd_domDown d st (pwrDPage_lt he) (by decide))).trans ?_
  refine (State.domState_of_rd (State.rd_padsLatch_ne _ d st (rk_ne_pwrDKey (by decide) e).symm (pwrDKey_ne h))).trans ?_
  exact a.domState_setDom_ne d st he h

/-- The domains after those of a list went to Deep. -/
theorem State.domState_deepDowns (l : List Nat) (hl : ∀ d ∈ l, d < 22) {e : Nat} (he : e < 22) (s : State) :
    (l.foldl State.deepDown s).bus.domState e =
      if e ∈ l ∧ ¬(s.bus.domState e = 3 ∨ s.bus.domState e = 4) then 3 else s.bus.domState e := by
  induction l generalizing s with
  | nil => rfl
  | cons d l ih =>
    obtain ⟨hd, hrest⟩ := List.forall_mem_cons.mp hl
    have hstep : (s.deepDown d).bus.domState e = if e = d ∧ ¬(s.bus.domState e = 3 ∨ s.bus.domState e = 4) then 3 else s.bus.domState e := by
      unfold State.deepDown
      by_cases hed : e = d
      · subst hed
        have hiff : (s.bus.domState e < 3 ∨ 5 ≤ s.bus.domState e) ↔ ¬(s.bus.domState e = 3 ∨ s.bus.domState e = 4) := by omega
        by_cases hc : s.bus.domState e < 3 ∨ 5 ≤ s.bus.domState e
        · rw [if_pos hc, if_pos ⟨rfl, hiff.mp hc⟩]
          exact s.domDown_domState hd (by decide)
        · rw [if_neg hc, if_neg fun h => hc (hiff.mpr h.2)]
      · rw [if_neg fun h : e = d ∧ _ => hed h.1]
        split
        · exact s.domState_domDown_ne he hed
        · rfl
    rw [List.foldl_cons, ih hrest, hstep]
    generalize s.bus.domState e = x
    by_cases hed : e = d <;> by_cases hel : e ∈ l <;> by_cases hx : x = 3 ∨ x = 4 <;> simp [hed, hel, hx, List.mem_cons]

/-- A trip: every domain but AON to Deep, and the work dropped. -/
def State.tripDown (s : State) (sensor : Nat) : State :=
  ((List.range 21).map (· + 1)).foldl State.deepDown (s.fault 117 { page := budPage, addr := sensor })

/-- The registers of a trip. -/
def State.tripShown (s : State) : State := (s.setBit (pwrKey R.PWR_STATUS) 16 true).disarm tHeartbeat

/-- The ladder of a trip. -/
def State.tripDeep (s : State) : State :=
  { { s.dropWork with power := { s.power with tripped := true } } with
    ladder := { Ladder.init with phase := 2, target := 3, down := (List.range 21).map (· + 1) } }

theorem exec_thermalTrip_cool {i : Nat} {temp : Int} (h : temp < 16 * 115) : exec (.thermalTrip dt i temp) s = .next (s.tick dt) :=
  congrArg Host.Outcome.next (if_pos (.inl h))

theorem foldl_map_succ (l : List Nat) (s : State) : (l.map (· + 1)).foldl State.deepDown s =
    l.foldl (fun a i => if a.bus.domState (i + 1) < 3 ∨ 5 ≤ a.bus.domState (i + 1) then a.domDown (i + 1) 3 else a) s :=
  List.foldl_map

theorem exec_thermalTrip_goes {i : Nat} {temp : Int} (ht : 16 * 115 ≤ temp) (hi : i < 128) (hp : s.pwrState < 3) :
    exec (.thermalTrip dt i temp) s = .next ((s.tick dt).tripDown i).tripShown.tripDeep.ladderReached := by
  have hgo : ¬(temp < 16 * 115 ∨ 128 ≤ i ∨ 3 ≤ (s.tick dt).pwrState) := fun h => h.elim (not_lt.mpr ht) fun h =>
    h.elim (Nat.not_le.mpr hi) (Nat.not_le.mpr hp)
  have hdown := congrArg (fun a : State => a.tripShown.tripDeep.ladderReached)
    (foldl_map_succ (List.range 21) ((s.tick dt).fault 117 { page := budPage, addr := i })).symm
  exact congrArg Host.Outcome.next ((if_neg hgo).trans hdown)

theorem State.bus_tripDeep (s : State) : s.tripDeep.bus = s.bus := rfl
theorem State.rd_tripDeep (s : State) (k : Nat) : s.tripDeep.rd k = s.rd k := rfl
theorem State.ladder_tripDeep (s : State) : s.tripDeep.ladder =
    { Ladder.init with phase := 2, target := 3, down := (List.range 21).map (· + 1) } := rfl
theorem State.tripped_tripDeep (s : State) : s.tripDeep.power.tripped = true := rfl
theorem State.page_tripDeep (s : State) : s.tripDeep.page = PageState.init := rfl
theorem State.lds_tripDeep (s : State) : s.tripDeep.lds = s.lds := rfl
theorem State.lds_tripShown (s : State) : s.tripShown.lds = s.lds := (State.disarm_lds _ _).trans (State.setBit_lds _ _ _ _)
theorem State.rd_tripShown_eq (s : State) (k : Nat) : s.tripShown.rd k = (s.setBit (pwrKey R.PWR_STATUS) 16 true).rd k :=
  State.rd_disarm _ _ _

theorem State.lds_tripDown (s : State) (i : Nat) : (s.tripDown i).lds = s.lds := by
  unfold State.tripDown
  rw [State.foldl_keeps State.lds _ State.deepDown (fun a d _ => a.lds_deepDown d), State.fault_lds]

theorem State.domState_tripDown (s : State) (i : Nat) {d : Nat} (h1 : 1 ≤ d) (hd : d < 22) : (s.tripDown i).bus.domState d =
    if s.bus.domState d = 3 ∨ s.bus.domState d = 4 then s.bus.domState d else 3 := by
  have hfault : (s.fault 117 { page := budPage, addr := i }).bus.domState d = s.bus.domState d :=
    State.domState_of_rd (State.rd_fault_ctl (off := R.PWR_D_STATUS) s 117 _ (pwrDPage_lt hd)
      (.inl (by simp only [Block.pg, Block.base]; omega)) (by decide) (by decide) (by decide))
  have hmem : d ∈ (List.range 21).map (· + 1) := List.mem_map.mpr ⟨d - 1, List.mem_range.mpr (by omega), by omega⟩
  have hl : ∀ e ∈ (List.range 21).map (· + 1), e < 22 := fun e he => by
    obtain ⟨x, hx, rfl⟩ := List.mem_map.mp he
    have := List.mem_range.mp hx
    omega
  unfold State.tripDown
  rw [State.domState_deepDowns _ hl hd, hfault]
  by_cases hx : s.bus.domState d = 3 ∨ s.bus.domState d = 4
  · rw [if_neg fun h => h.2 hx, if_pos hx]
  · rw [if_pos ⟨hmem, hx⟩, if_neg hx]

theorem exec_thermalTrip_shows {i : Nat} {temp : Int} (ht : 16 * 115 ≤ temp) (hi : i < 128) (hp : s.pwrState < 3) : ∃ u : State,
    exec (.thermalTrip dt i temp) s = .next u.ladderReached ∧ u.ladder.phase = 2 ∧ u.ladder.target = 3 ∧ u.power.tripped = true ∧
    u.bit (pwrKey R.PWR_STATUS) 16 = true ∧ u.page = PageState.init ∧ u.lds = s.lds ∧
    ∀ d, 1 ≤ d → d < 22 → u.bus.domState d = if s.bus.domState d = 3 ∨ s.bus.domState d = 4 then s.bus.domState d else 3 := by
  have hlds := (s.tick dt).lds_tripDown i
  have hdoms : ∀ d, 1 ≤ d → d < 22 → _ := fun d h1 hd => (s.tick dt).domState_tripDown i h1 hd
  refine ⟨_, exec_thermalTrip_goes ht hi hp, ?_⟩
  generalize (s.tick dt).tripDown i = t at *
  rw [State.ladder_tripDeep, State.tripped_tripDeep, State.page_tripDeep, State.lds_tripDeep, State.lds_tripShown, State.bus_tripDeep, hlds]
  refine ⟨rfl, rfl, rfl, ?_, rfl, rfl, fun d h1 hd => ?_⟩
  · exact (State.bit_of_rd ((State.rd_tripDeep _ _).trans (t.rd_tripShown_eq _)) 16).trans (t.bit_setBit (pwrKey R.PWR_STATUS) 16 true (by decide))
  · refine (State.domState_of_rd ((t.rd_tripShown_eq _).trans (t.rd_setBit_ne _ _ _ _ ?_))).trans (hdoms d h1 hd)
    exact (rk_ne_pwrDKey (p := pwrPage) (by decide) d).symm

end

/-- Settles O52: the tick by the estimate and the decision taken in `budReady`; a step by the frame `BudKept` of its actions; the trip by
the fold that takes each domain to Deep. -/
theorem budgetShedsRestoresAndTrips : Obligations.BudgetShedsRestoresAndTrips := by
  unfold Obligations.BudgetShedsRestoresAndTrips
  refine ⟨fun dt act p temps s s1 s3 h1 ht hp h3 hup => exec_budgetTick_shows h1 ht hp h3 hup,
    fun dt act temps s s1 h1 ht hc hup => exec_budgetTick_cool h1 ht hc hup, fun s temps i v hr hi hv => s.budSense_shows temps hr hi hv,
    fun s p v hcap hl hgap => ?_, fun s p v hcap hl hgap h8 => ?_, fun s p v _ h => s.budDecide_notMax p v (h.imp id Nat.not_le.mpr),
    fun s p v h => ⟨_, State.budDecide_lowered h, s.budLevel_budReady p v⟩,
    fun s p t v hp hc hh hg hl htop ht => ⟨_, State.budDecide_restores hp hc hh hg hl htop ht, s.budLevel_budReady p v⟩,
    fun s hr h => s.budStep_true_shows hr h, fun s hr h => s.budStep_false_shows hr h,
    fun dt r p act s hr he hc hb => exec_pmbusPoll_shows hr he hc hb, fun dt r p act s he => exec_rail_not he p act,
    fun dt r s hrg hr he hb => exec_railInvalid_shows hrg hr he hb, fun dt i temp s h => exec_thermalTrip_cool h,
    fun dt i temp s _ ht hi hp => exec_thermalTrip_shows ht hi hp⟩
  · obtain ⟨hlevel, hover, hmax⟩ := s.budNoted_shows p v
    exact ⟨_, State.budDecide_sheds hcap hl hgap, hover.trans (decide_eq_true hcap), hmax, hlevel⟩
  · refine ⟨_, State.budDecide_atMax hcap hl hgap h8, State.bit_setBit _ (budKey R.BUD_STATUS) 8 true (by decide), ?_⟩
    exact (State.fld_setBit_of_disjoint _ (budKey R.BUD_STATUS) 8 true 0 6 (by decide) (by decide)).trans (s.budNoted_shows p v).1

end Sys2Proof.Machine
end

section
-- One theorem after another: each waiting thread takes 256 MB of the memory the check allows.
set_option Elab.async false
/-! SUPPORT. The escalation ladder, its spares and its resets (R430 to R437, Table 15-4). The statement on them, settled. -/

namespace Sys2Proof.Machine

/-! ### The ladder of a source -/

section
variable {s : State} {fs : Nat}

theorem State.srcState_of_rd {s t : State} (h : t.rd (fsKey fs R.FLT_SRC_STATUS) = s.rd (fsKey fs R.FLT_SRC_STATUS)) :
    t.srcState fs = s.srcState fs ∧ t.srcRung fs = s.srcRung fs := ⟨State.fld_of_rd h 2 2, State.fld_of_rd h 4 3⟩

/-- Whether the source is held asserted is apart from its STATE and RUNG. -/
theorem State.src_setHeld (s : State) (fs : Nat) (held : Bool) : (s.setBit (fsKey fs R.FLT_SRC_STATUS) 10 held).srcState fs = s.srcState fs ∧
    (s.setBit (fsKey fs R.FLT_SRC_STATUS) 10 held).srcRung fs = s.srcRung fs :=
  ⟨s.fld_setBit_of_disjoint _ 10 held 2 2 (by decide) (by decide), s.fld_setBit_of_disjoint _ 10 held 4 3 (by decide) (by decide)⟩

theorem State.ladderStart_some {n : Nat} {l : List Nat} (h : s.rungs fs = n :: l) : s.ladderStart fs = s.takeRung fs n := by
  unfold State.ladderStart
  rw [h]

theorem State.ladderStart_none (h : s.rungs fs = []) : s.ladderStart fs = s.ladderEnd fs := by
  unfold State.ladderStart
  rw [h]

theorem State.ladderNext_some {n : Nat} (h : Machine.after (s.rungs fs) (s.srcRung fs) = some n) : s.ladderNext fs = s.takeRung fs n := by
  unfold State.ladderNext
  rw [h]

theorem State.ladderNext_none (h : Machine.after (s.rungs fs) (s.srcRung fs) = none) : s.ladderNext fs = s.ladderEnd fs := by
  unfold State.ladderNext
  rw [h]

theorem State.escOf_ladderEnd (s : State) (fs : Nat) : (s.ladderEnd fs).escOf fs = Esc.init := by
  unfold State.ladderEnd
  exact State.escOf_modEsc _ fs _

/-- Whether the grace of a source is over, shown. -/
theorem exec_faultGraceExpire_due {dt : Nat} {held : Bool} (hdue : (s.tick dt).due (tGrace fs) = true) (h : s.srcState fs = 1) :
    exec (.faultGraceExpire dt fs held) s =
      .next ((((s.tick dt).disarm (tGrace fs)).setBit (fsKey fs R.FLT_SRC_STATUS) 10 held).ladderStart fs) := by
  have hstate := (((s.tick dt).disarm (tGrace fs)).src_setHeld fs held).1.trans h
  exact congrArg Host.Outcome.next ((if_pos hdue).trans (if_pos hstate))

/-- The registers of a rung taken. -/
def State.rungShown (s : State) (fs n : Nat) : State :=
  ((s.addSat (fltKey R.FLT_CNT_ESC) 1).setFld (fsKey fs R.FLT_SRC_STATUS) 4 3 n).setSrc fs 2

/-- What a source remembers of a rung taken. -/
def State.escTaken (s : State) (fs n : Nat) : Esc := ⟨s.srcCount fs, s.outranked fs n || decide (n = 1) || decide (n = 3), false⟩

/-- A rung taken, before it acts. -/
def State.rungTaken (s : State) (fs n : Nat) : State :=
  (((s.rungShown fs n).disarm (tRung fs)).modEsc fs (fun _ => s.escTaken fs n)).raise fltPage 0

/-- What a rung does at once. -/
def State.rungActs (s : State) (fs n : Nat) (low : Bool) (u : Nat × Nat) : State :=
  if low then s
  else match n with
    | 1 => s.isolateUnit u
    | 3 => (unitDoms fs u).foldl State.failsafe s
    | _ => s

theorem State.takeRung_eq (s : State) (fs n : Nat) : s.takeRung fs n =
    (s.rungTaken fs n).rungActs fs n (s.outranked fs n) (s.unitOf fs) := rfl

theorem State.rungActs_waits (s : State) (fs : Nat) (low : Bool) (u : Nat × Nat) {n : Nat} (h : n = 2 ∨ n = 4 ∨ n = 5) :
    s.rungActs fs n low u = s := by
  unfold State.rungActs
  rcases h with rfl | rfl | rfl <;> exact ite_self _

theorem State.escTaken_waits (s : State) (fs : Nat) {n : Nat} (h : n = 2 ∨ n = 4 ∨ n = 5) :
    s.escTaken fs n = ⟨s.srcCount fs, s.outranked fs n, false⟩ := by
  unfold State.escTaken
  rw [decide_eq_false (p := n = 1) (by omega), decide_eq_false (p := n = 3) (by omega), Bool.or_false, Bool.or_false]

theorem State.escTaken_acts (s : State) (fs : Nat) {n : Nat} (h : n = 1 ∨ n = 3) : s.escTaken fs n = ⟨s.srcCount fs, true, false⟩ := by
  unfold State.escTaken
  rcases h with rfl | rfl
  · rw [decide_eq_true rfl, Bool.or_true, Bool.true_or]
  · rw [decide_eq_true (p := 3 = 3) rfl, Bool.or_true]

theorem State.rungShown_shows (s : State) {fs n : Nat} (hn : n < 8) : (s.rungShown fs n).srcState fs = 2 ∧ (s.rungShown fs n).srcRung fs = n ∧
    (s.rungShown fs n).rd (fltKey R.FLT_CNT_ESC) = min (s.rd (fltKey R.FLT_CNT_ESC) + 1) 0xFFFFFFFF := by
  have hne : fltKey R.FLT_CNT_ESC ≠ fsKey fs R.FLT_SRC_STATUS := (fsKey_ne_rk_of_off _).symm
  refine ⟨State.srcState_setSrc _ fs 2 (by decide), ?_, ?_⟩
  · exact (State.fld_setFld_of_disjoint _ (fsKey fs R.FLT_SRC_STATUS) 2 2 2 4 3 (by decide) (by decide)).trans
      ((State.fld_setFld _ (fsKey fs R.FLT_SRC_STATUS) 4 3 n (by decide)).trans (Nat.mod_eq_of_lt hn))
  · exact (State.rd_setFld_ne _ _ _ _ _ _ hne).trans ((State.rd_setFld_ne _ _ _ _ _ _ hne).trans (s.rd_addSat _ _))

theorem State.ranged_rungShown (hr : s.bus.Ranged) (fs n : Nat) : (s.rungShown fs n).bus.Ranged := (hr.wr _ _).wr _ _ |>.wr _ _

theorem State.rd_waiting (t : State) (i fs k : Nat) (f : Esc → Esc) : ((t.disarm i).modEsc fs f).rd k = t.rd k := rfl

theorem State.running_waiting (t : State) (i fs : Nat) (f : Esc → Esc) : ((t.disarm i).modEsc fs f).bus.running i = false :=
  State.running_disarm_self _ _

theorem State.ranged_waiting (t : State) (i fs : Nat) (f : Esc → Esc) (hr : t.bus.Ranged) : ((t.disarm i).modEsc fs f).bus.Ranged := hr

theorem State.escOf_raise (t : State) (page bit fs : Nat) : (t.raise page bit).escOf fs = t.escOf fs := rfl

/-- A rung taken: counted, shown and told (R430). -/
theorem State.rungTaken_shows (hr : s.bus.Ranged) (hfs : fs < 192) {n : Nat} (hn : n < 8) : (s.rungTaken fs n).srcState fs = 2 ∧
    (s.rungTaken fs n).srcRung fs = n ∧ (s.rungTaken fs n).pend fltPage 0 = true ∧
    (s.rungTaken fs n).rd (fltKey R.FLT_CNT_ESC) = min (s.rd (fltKey R.FLT_CNT_ESC) + 1) 0xFFFFFFFF ∧
    (s.rungTaken fs n).bus.running (tRung fs) = false ∧ (s.rungTaken fs n).escOf fs = s.escTaken fs n := by
  obtain ⟨hstate, hrung, hcnt⟩ := s.rungShown_shows (fs := fs) hn
  have hset := State.ranged_rungShown hr fs n
  unfold State.rungTaken
  generalize s.rungShown fs n = t at *
  have hwait := t.ranged_waiting (tRung fs) fs (fun _ => s.escTaken fs n) hset
  have hrun := t.running_waiting (tRung fs) fs (fun _ => s.escTaken fs n)
  have hesc := State.escOf_modEsc (t.disarm (tRung fs)) fs (fun _ => s.escTaken fs n)
  have hrd := t.rd_waiting (tRung fs) fs (fsKey fs R.FLT_SRC_STATUS) (fun _ => s.escTaken fs n)
  have hrdc := t.rd_waiting (tRung fs) fs (fltKey R.FLT_CNT_ESC) (fun _ => s.escTaken fs n)
  generalize (t.disarm (tRung fs)).modEsc fs (fun _ => s.escTaken fs n) = w at *
  have hne : fsKey fs R.FLT_SRC_STATUS ≠ pendKey fltPage := fsKey_ne_rk_of_off _
  have hsrc : (w.raise fltPage 0).rd (fsKey fs R.FLT_SRC_STATUS) = t.rd (fsKey fs R.FLT_SRC_STATUS) :=
    ((plainPage_flt.after_raise hwait 0).rd _ (fun h => hne (List.mem_singleton.mp h)) (reportKey_fsKey hfs)).trans hrd
  obtain ⟨hst, hru⟩ := State.srcState_of_rd hsrc
  refine ⟨hst.trans hstate, hru.trans hrung, plainPage_flt.pend_raise hwait 0 (by decide), ?_, ?_, ?_⟩
  · exact (State.rd_raise_ctl w (p := fltPage) (by decide) (by decide) (by decide) fltPage 0).trans (hrdc.trans hcnt)
  · rw [(w.held_raise fltPage 0).running]
    exact hrun
  · rw [State.escOf_raise]
    exact hesc

theorem State.takeRung_waits {n : Nat} (h : n = 2 ∨ n = 4 ∨ n = 5) : s.takeRung fs n = s.rungTaken fs n := by
  rw [s.takeRung_eq, State.rungActs_waits _ _ _ _ h]

theorem State.takeRung_isolates (h : s.outranked fs 1 = false) : s.takeRung fs 1 = (s.rungTaken fs 1).isolateUnit (s.unitOf fs) := by
  rw [s.takeRung_eq, h]
  exact if_neg Bool.false_ne_true

theorem State.takeRung_failsafe (h : s.outranked fs 3 = false) :
    s.takeRung fs 3 = (unitDoms fs (s.unitOf fs)).foldl State.failsafe (s.rungTaken fs 3) := by
  rw [s.takeRung_eq, h]
  exact if_neg Bool.false_ne_true

theorem State.takeRung_waits_shows (hr : s.bus.Ranged) (hfs : fs < 192) {n : Nat} (h : n = 2 ∨ n = 4 ∨ n = 5) :
    (s.takeRung fs n).srcState fs = 2 ∧ (s.takeRung fs n).srcRung fs = n ∧ (s.takeRung fs n).pend fltPage 0 = true ∧
    (s.takeRung fs n).rd (fltKey R.FLT_CNT_ESC) = min (s.rd (fltKey R.FLT_CNT_ESC) + 1) 0xFFFFFFFF ∧
    (s.takeRung fs n).bus.running (tRung fs) = false ∧ (s.takeRung fs n).escOf fs = ⟨s.srcCount fs, s.outranked fs n, false⟩ := by
  rw [State.takeRung_waits h, ← s.escTaken_waits fs h]
  exact State.rungTaken_shows hr hfs (by omega)

/-- What the rungs that act at once start from. -/
theorem State.rungTaken_acts_shows (hr : s.bus.Ranged) (hfs : fs < 192) {n : Nat} (h : n = 1 ∨ n = 3) : (s.rungTaken fs n).srcRung fs = n ∧
    (s.rungTaken fs n).srcState fs = 2 ∧ (s.rungTaken fs n).pend fltPage 0 = true ∧
    (s.rungTaken fs n).escOf fs = ⟨s.srcCount fs, true, false⟩ := by
  obtain ⟨hstate, hrung, hpend, -, -, hesc⟩ := State.rungTaken_shows hr hfs (n := n) (by omega)
  exact ⟨hrung, hstate, hpend, hesc.trans (s.escTaken_acts fs h)⟩

end

/-! ### A rung completes -/

section
variable {s s2 : State} {dt fs : Nat} {held : Bool}

theorem exec_escalationRungComplete_off (h : s.srcState fs ≠ 2 ∨ (s.escOf fs).complete = false) :
    exec (.escalationRungComplete dt fs held) s = .next (s.tick dt) :=
  congrArg Host.Outcome.next (if_pos (h.imp id fun hc => by
    rw [show ((s.tick dt).escOf fs).complete = false from hc]
    rfl))

/-- What follows a rung whose action is done. -/
def State.rungDone (s : State) (fs : Nat) (e : Esc) (held : Bool) : State :=
  if e.acked then s.ladderEnd fs
  else if held || decide (s.srcCount fs ≠ e.seen) then s.ladderNext fs
  else if (Machine.after (s.rungs fs) (s.srcRung fs)).isNone then s.ladderEnd fs
  else if s.bus.running (tRung fs) then s else s.arm (tRung fs) (clkMs 1)

theorem exec_escalationRungComplete_done (h : s.srcState fs = 2) (hc : (s.escOf fs).complete = true)
    (h2 : s2 = (s.tick dt).setBit (fsKey fs R.FLT_SRC_STATUS) 10 held) :
    exec (.escalationRungComplete dt fs held) s = .next (s2.rungDone fs (s.escOf fs) held) := by
  have hgo : ¬((s.tick dt).srcState fs ≠ 2 ∨ (!((s.tick dt).escOf fs).complete) = true) :=
    not_or.mpr ⟨not_not.mpr h, by rw [show ((s.tick dt).escOf fs).complete = true from hc]; decide⟩
  rw [h2]
  exact congrArg Host.Outcome.next (if_neg hgo)

theorem State.rungDone_acked {e : Esc} (h : e.acked = true) : s.rungDone fs e held = s.ladderEnd fs := if_pos h

theorem State.rungDone_again {e : Esc} (ha : e.acked = false) (h : held = true ∨ s.srcCount fs ≠ e.seen) :
    s.rungDone fs e held = s.ladderNext fs := by
  have hon : (held || decide (s.srcCount fs ≠ e.seen)) = true := by
    rw [Bool.or_eq_true, decide_eq_true_eq]
    exact h
  exact (if_neg (by rw [ha]; decide)).trans (if_pos hon)

theorem State.rungDone_waits {e : Esc} (ha : e.acked = false) (h : s.srcCount fs = e.seen)
    (hrun : s.bus.running (tRung fs) = false) {n : Nat} (hn : Machine.after (s.rungs fs) (s.srcRung fs) = some n) :
    s.rungDone fs e false = s.arm (tRung fs) (clkMs 1) := by
  have hoff : ¬(false || decide (s.srcCount fs ≠ e.seen)) = true := by
    rw [Bool.false_or, decide_eq_true_eq]
    exact not_not.mpr h
  unfold State.rungDone
  rw [if_neg (by rw [ha]; decide), if_neg hoff, hn, if_neg (by rw [Option.isNone_some]; decide), if_neg (by rw [hrun]; decide)]

theorem exec_ladderEndTimeout_due (hdue : (s.tick dt).due (tRung fs) = true) (h : s.srcState fs = 2) :
    (s.srcCount fs = (s.escOf fs).seen → exec (.ladderEndTimeout dt fs) s = .next (((s.tick dt).disarm (tRung fs)).ladderEnd fs)) ∧
    (s.srcCount fs ≠ (s.escOf fs).seen → exec (.ladderEndTimeout dt fs) s = .next (((s.tick dt).disarm (tRung fs)).ladderNext fs)) := by
  have hgo : ¬((s.tick dt).disarm (tRung fs)).srcState fs ≠ 2 := not_not.mpr h
  exact ⟨fun hc => congrArg Host.Outcome.next ((if_pos hdue).trans ((if_neg hgo).trans (if_neg (not_not.mpr hc)))),
    fun hc => congrArg Host.Outcome.next ((if_pos hdue).trans ((if_neg hgo).trans (if_pos hc)))⟩

end

/-! ### Spares -/

theorem blockOfPage_zwk : ∀ c, c < 96 → blockOfPage (zwkPage c) = some .zwk ∧ pageIndex (zwkPage c) = c := by decide
theorem blockOfPage_kpr : ∀ p, p < 2 → blockOfPage (kprPage p) = some .keeper ∧ pageIndex (kprPage p) = p := by decide
theorem blockOfPage_cmp : ∀ c, c < 18 → blockOfPage (cmpPage c) = some .cmp := by decide

/-- A spare takes the place of a unit. -/
def State.spareActs (s : State) (page : Nat) : State :=
  match blockOfPage page with
  | some .zwk => s.spareWorker (pageIndex page)
  | some .keeper => s.spareKeeper (pageIndex page)
  | _ => s.spareTaken

theorem State.spareActs_worker (s : State) {c : Nat} (h : c < 96) : s.spareActs (zwkPage c) = s.spareWorker c := by
  obtain ⟨hb, hi⟩ := blockOfPage_zwk c h
  unfold State.spareActs
  rw [hb, hi]

theorem State.spareActs_keeper (s : State) {p : Nat} (h : p < 2) : s.spareActs (kprPage p) = s.spareKeeper p := by
  obtain ⟨hb, hi⟩ := blockOfPage_kpr p h
  unfold State.spareActs
  rw [hb, hi]

theorem State.spareActs_plane (s : State) : s.spareActs fabPage = s.spareTaken := rfl

theorem State.spareActs_lane (s : State) {c : Nat} (h : c < 18) : s.spareActs (cmpPage c) = s.spareTaken := by
  unfold State.spareActs
  rw [blockOfPage_cmp c h]

theorem exec_spareTakeover_goes {s s2 : State} {dt fs : Nat} (h : s.srcState fs = 2) (hn : s.srcRung fs = 2) (hc : (s.escOf fs).complete = false)
    (h2 : s2 = (s.tick dt).modEsc fs (fun e => { e with complete := true })) :
    exec (.spareTakeover dt fs) s = .next (s2.spareActs (s.unitOf fs).1) := by
  have hgo : ¬((s.tick dt).srcState fs ≠ 2 ∨ (s.tick dt).srcRung fs ≠ 2 ∨ ((s.tick dt).escOf fs).complete = true) :=
    not_or.mpr ⟨not_not.mpr h, not_or.mpr ⟨not_not.mpr hn, by rw [show ((s.tick dt).escOf fs).complete = false from hc]; decide⟩⟩
  rw [h2]
  exact congrArg Host.Outcome.next (if_neg hgo)

/-! ### The spare of a worker -/

section
variable (s : State)

theorem State.lworker_some {c l : Nat} (h : s.lworker c = some l) : s.workerRole c = 1 ∧ s.fld (zwkKey c R.ZWK_STATUS) 8 8 = l ∧ l ≠ 255 := by
  unfold State.lworker at h
  dsimp only at h
  split at h
  · next hc =>
    obtain ⟨hrole, hl⟩ := hc
    obtain rfl := Option.some.inj h
    exact ⟨hrole, rfl, hl⟩
  · cases h

theorem State.lworker_serves {c l : Nat} (h : s.fld (zwkKey c R.ZWK_STATUS) 6 2 = 1) (hl : s.fld (zwkKey c R.ZWK_STATUS) 8 8 = l) (h255 : l ≠ 255) :
    s.lworker c = some l := by
  unfold State.lworker
  dsimp only
  rw [hl]
  exact if_pos ⟨h, h255⟩

theorem State.lworker_idle {c : Nat} (h : s.fld (zwkKey c R.ZWK_STATUS) 6 2 ≠ 1) : s.lworker c = none := if_neg fun hc => h hc.1

/-- A spare is another worker of the cluster. -/
theorem State.workerSpare_some {c n : Nat} (hc : c < 96) (h : s.workerSpare c = some n) : n < 96 ∧ s.workerRole n = 2 := by
  obtain ⟨i, hi, hn⟩ := List.exists_of_findSome?_eq_some h
  have hlt := List.mem_range.mp hi
  dsimp only at hn
  split at hn
  · next hrole =>
    obtain rfl := Option.some.inj hn
    exact ⟨by omega, hrole⟩
  · cases hn

theorem zwkKey_ne_worker {c n : Nat} (h : c ≠ n) {off off' : Nat} (ho : off < 4096 := by decide) (ho' : off' < 4096 := by decide) :
    zwkKey c off ≠ zwkKey n off' := by
  simp only [zwkKey, zwkPage, rk, Block.pg, Block.base]
  omega

theorem zwkKey_ne_off (c n : Nat) {off off' : Nat} (h : off ≠ off' := by decide) (ho : off < 4096 := by decide) (ho' : off' < 4096 := by decide) :
    zwkKey c off ≠ zwkKey n off' := rk_ne_of_off h ho ho'

/-- A register passes from one worker to another. -/
def State.regPassed (s a : State) (p : Nat × Nat) : State := (a.wr p.2 (s.rd p.1)).wr p.1 0

theorem State.rd_regPassed_ne (a : State) (p : Nat × Nat) {k : Nat} (h1 : k ≠ p.1) (h2 : k ≠ p.2) : (s.regPassed a p).rd k = a.rd k :=
  (State.rd_wr_ne _ _ _ _ h1).trans (a.rd_wr_ne _ _ _ h2)

theorem State.rd_regPassed (a : State) (p : Nat × Nat) (h : p.2 ≠ p.1) : (s.regPassed a p).rd p.2 = s.rd p.1 :=
  (State.rd_wr_ne _ _ _ _ h).trans ((a.rd_wr _ _).trans (Nat.mod_eq_of_lt (s.bus.rd_lt p.1)))

/-- RUN and the routes of two workers. -/
def routeKeys (c n : Nat) : List (Nat × Nat) :=
  (zwkKey c R.ZWK_CTRL, zwkKey n R.ZWK_CTRL) :: (List.range 16).map (fun i => (rkSel (zwkPage c) R.ZWK_ROUTE i, rkSel (zwkPage n) R.ZWK_ROUTE i))

theorem State.workerRegs_eq (c n : Nat) : s.workerRegs c n =
    (routeKeys c n).foldl s.regPassed ((s.regPassed (s.regPassed s (zwkKey c R.ZWK_VI, zwkKey n R.ZWK_VI))) (zwkKey c R.ZWK_ENTRY, zwkKey n R.ZWK_ENTRY)) := by
  unfold State.workerRegs routeKeys State.regPassed
  simp only [List.cons_append, List.nil_append, List.foldl_cons]

theorem zwkPage_lt {c : Nat} (h : c < 96) : zwkPage c < 0x4000 := by
  simp only [zwkPage, Block.pg, Block.base]
  omega

theorem State.rd_routesPassed (a : State) {c n m off : Nat} (hm : m < 96) (h : off ≠ R.ZWK_CTRL) (ho : off < 4096) :
    ((routeKeys c n).foldl s.regPassed a).rd (zwkKey m off) = a.rd (zwkKey m off) := by
  refine State.foldl_keeps (State.rd · (zwkKey m off)) _ _ (fun b p hp => ?_) a
  rcases List.mem_cons.mp hp with rfl | hp
  · exact s.rd_regPassed_ne b _ (zwkKey_ne_off m c h ho) (zwkKey_ne_off m n h ho)
  · obtain ⟨i, -, rfl⟩ := List.mem_map.mp hp
    exact s.rd_regPassed_ne b _ (rkSel_ne_rk_page (zwkPage_lt hm) ho).symm (rkSel_ne_rk_page (zwkPage_lt hm) ho).symm

/-- ZWK_VI and ZWK_ENTRY pass to the other worker (R434). -/
theorem State.workerRegs_shows {c n : Nat} (hn : n < 96) (hcn : c ≠ n) :
    (s.workerRegs c n).rd (zwkKey n R.ZWK_VI) = s.rd (zwkKey c R.ZWK_VI) ∧
    (s.workerRegs c n).rd (zwkKey n R.ZWK_ENTRY) = s.rd (zwkKey c R.ZWK_ENTRY) := by
  rw [s.workerRegs_eq, s.rd_routesPassed _ hn (by decide) (by decide), s.rd_routesPassed _ hn (by decide) (by decide)]
  refine ⟨?_, ?_⟩
  · exact (s.rd_regPassed_ne _ _ (zwkKey_ne_off n c) (zwkKey_ne_off n n)).trans (s.rd_regPassed s _ (zwkKey_ne_worker hcn.symm))
  · exact s.rd_regPassed _ (zwkKey c R.ZWK_ENTRY, zwkKey n R.ZWK_ENTRY) (zwkKey_ne_worker hcn.symm)

theorem State.held_workerRegs (c n : Nat) : s.bus.Held (s.workerRegs c n).bus :=
  List.foldlRecOn (motive := fun x : State => s.bus.Held x.bus) _ _ (.refl s.bus) fun _ hx _ _ => (hx.wr _ _).wr _ _

theorem State.held_setWorker (c role l : Nat) : s.bus.Held (s.setWorker c role l).bus := ((Bus.Held.refl s.bus).setFld _ _ _ _).setFld _ _ _ _

theorem State.rd_setWorker_ne {c role l k : Nat} (h : k ≠ zwkKey c R.ZWK_STATUS) : (s.setWorker c role l).rd k = s.rd k :=
  (State.rd_setFld_ne _ _ _ _ _ _ h).trans (s.rd_setFld_ne _ _ _ _ _ h)

theorem State.setWorker_shows {c role l : Nat} (hrole : role < 4) (hl : l < 256) : (s.setWorker c role l).fld (zwkKey c R.ZWK_STATUS) 6 2 = role ∧
    (s.setWorker c role l).fld (zwkKey c R.ZWK_STATUS) 8 8 = l :=
  ⟨(State.fld_setFld_of_disjoint _ (zwkKey c R.ZWK_STATUS) 8 8 l 6 2 (by decide) (by decide)).trans
      ((s.fld_setFld (zwkKey c R.ZWK_STATUS) 6 2 role (by decide)).trans (Nat.mod_eq_of_lt hrole)),
    (State.fld_setFld _ (zwkKey c R.ZWK_STATUS) 8 8 l (by decide)).trans (Nat.mod_eq_of_lt hl)⟩

theorem State.bus_workerLoad (c l : Nat) : (s.workerLoad c l).bus = s.bus := by
  unfold State.workerLoad
  split <;> rfl

/-- A core at its first word. -/
def ZwCore.atEntry (k : ZwCore) (entry now : Nat) : ZwCore :=
  { ZwCore.init with imem := k.imem, dmem := k.dmem, pc := entry, running := true, started := now }

/-- A core as it starts, before its registers show it. -/
def State.coreStarted (s : State) (c : Nat) (k : ZwCore) : State := (s.setZw c k).on (fun b => { b with evt := b.evt.put 0 c 0 })

theorem State.zwStart_eq (c entry : Nat) : s.zwStart c entry =
    (s.coreStarted c ((s.zw c).atEntry (entry % imemWords c) s.bus.now)).setRun c 1 := rfl

theorem State.rd_coreStarted (c k : Nat) (z : ZwCore) : (s.coreStarted c z).rd k = s.rd k := rfl
theorem State.held_coreStarted (c : Nat) (z : ZwCore) : s.bus.Held (s.coreStarted c z).bus := ⟨rfl, rfl, rfl, rfl, rfl, rfl, rfl, rfl⟩

theorem State.rd_zwStart_ne {c entry k : Nat} (hc : c < 96) (h : k ≠ zwkKey c R.ZWK_STATUS) : (s.zwStart c entry).rd k = s.rd k := by
  rw [s.zwStart_eq, State.setRun_worker _ _ _ hc, State.rd_setFld_ne _ _ _ _ _ _ h, State.rd_coreStarted]

theorem State.fld_zwStart {c entry lo w : Nat} (hc : c < 96) (h : 2 ≤ lo) :
    (s.zwStart c entry).fld (zwkKey c R.ZWK_STATUS) lo w = s.fld (zwkKey c R.ZWK_STATUS) lo w := by
  rw [s.zwStart_eq, State.setRun_worker _ _ _ hc]
  exact (State.fld_setFld_of_disjoint _ (zwkKey c R.ZWK_STATUS) 0 2 1 lo w (by omega) (.inr h)).trans (State.fld_of_rd (s.rd_coreStarted _ _ _) lo w)

theorem State.held_zwStart {c entry : Nat} (hc : c < 96) : s.bus.Held (s.zwStart c entry).bus := by
  rw [s.zwStart_eq, State.setRun_worker _ _ _ hc]
  exact (s.held_coreStarted c _).setFld _ _ _ _

/-- A worker's work at another, which is yet to start. -/
def State.workPassed (s : State) (c n l role : Nat) : State := (((s.workerRegs c n).setWorker c role 255).setWorker n 1 l).workerLoad n l

/-- A worker that stops if it runs. -/
def State.stopped (s : State) (c reason : Nat) : State := if (s.zw c).running then s.zwStop c reason else s

theorem State.bus_stopped {c : Nat} (hc : c < 96) (reason : Nat) : (s.stopped c reason).bus = s.bus := by
  unfold State.stopped
  split
  · exact (s.coreOnly_zwStop c reason).worker hc
  · rfl

theorem State.workerMove_eq (c n l reason role : Nat) : s.workerMove c n l reason role =
    if s.bit (zwkKey c R.ZWK_CTRL) 0 then ((s.stopped c reason).workPassed c n l role).zwStart n
      (((s.stopped c reason).workPassed c n l role).fld (zwkKey n R.ZWK_ENTRY) 0 14) else (s.stopped c reason).workPassed c n l role := rfl

/-- What a worker's work at another shows, whatever runs. -/
structure State.PassedTo (s t : State) (c n l role : Nat) : Prop where
  vi : t.rd (zwkKey n R.ZWK_VI) = s.rd (zwkKey c R.ZWK_VI)
  entry : t.rd (zwkKey n R.ZWK_ENTRY) = s.rd (zwkKey c R.ZWK_ENTRY)
  serves : t.fld (zwkKey n R.ZWK_STATUS) 6 2 = 1 ∧ t.fld (zwkKey n R.ZWK_STATUS) 8 8 = l
  left : t.fld (zwkKey c R.ZWK_STATUS) 6 2 = role
  held : s.bus.Held t.bus

theorem State.workPassed_shows {c n l role : Nat} (hn : n < 96) (hcn : c ≠ n) (hl : l < 256) (hrole : role < 4) :
    s.PassedTo (s.workPassed c n l role) c n l role := by
  obtain ⟨hvi, hentry⟩ := s.workerRegs_shows hn hcn
  have hheld := s.held_workerRegs c n
  unfold State.workPassed
  generalize s.workerRegs c n = a at *
  have hrd : ∀ k, (((a.setWorker c role 255).setWorker n 1 l).workerLoad n l).rd k = ((a.setWorker c role 255).setWorker n 1 l).rd k := fun k => by
    rw [State.rd_eq_bus, State.bus_workerLoad, ← State.rd_eq_bus]
  have hother : ∀ k, k ≠ zwkKey c R.ZWK_STATUS → k ≠ zwkKey n R.ZWK_STATUS → ((a.setWorker c role 255).setWorker n 1 l).rd k = a.rd k :=
    fun k h h' => (State.rd_setWorker_ne _ h').trans (a.rd_setWorker_ne h)
  refine ⟨?_, ?_, ?_, ?_, ?_⟩
  · exact (hrd _).trans ((hother _ (zwkKey_ne_off n c) (zwkKey_ne_off n n)).trans hvi)
  · exact (hrd _).trans ((hother _ (zwkKey_ne_off n c) (zwkKey_ne_off n n)).trans hentry)
  · obtain ⟨h6, h8⟩ := (a.setWorker c role 255).setWorker_shows (c := n) (role := 1) (by decide) hl
    exact ⟨(State.fld_of_rd (hrd _) 6 2).trans h6, (State.fld_of_rd (hrd _) 8 8).trans h8⟩
  · exact (State.fld_of_rd ((hrd _).trans (State.rd_setWorker_ne _ (zwkKey_ne_worker hcn))) 6 2).trans
      (a.setWorker_shows (c := c) (l := 255) hrole (by decide)).1
  · rw [State.bus_workerLoad]
    exact (hheld.trans (a.held_setWorker c role 255)).trans (State.held_setWorker _ n 1 l)

theorem State.PassedTo.start {s t : State} {c n l role : Nat} (h : s.PassedTo t c n l role) (hn : n < 96) (hcn : c ≠ n) (entry : Nat) :
    s.PassedTo (t.zwStart n entry) c n l role where
  vi := (t.rd_zwStart_ne hn (zwkKey_ne_off n n)).trans h.vi
  entry := (t.rd_zwStart_ne hn (zwkKey_ne_off n n)).trans h.entry
  serves := ⟨(t.fld_zwStart hn (by decide)).trans h.serves.1, (t.fld_zwStart hn (by decide)).trans h.serves.2⟩
  left := (State.fld_of_rd (t.rd_zwStart_ne hn (zwkKey_ne_worker hcn)) 6 2).trans h.left
  held := h.held.trans (t.held_zwStart hn)

theorem State.PassedTo.of_bus {s s' t : State} {c n l role : Nat} (h : s.PassedTo t c n l role) (hb : s.bus = s'.bus) : s'.PassedTo t c n l role :=
  ⟨h.vi.trans (Bus.rd_of_regs (congrArg Bus.regs hb) _), h.entry.trans (Bus.rd_of_regs (congrArg Bus.regs hb) _), h.serves, h.left, hb ▸ h.held⟩

theorem State.workerMove_shows {c n l : Nat} (reason : Nat) {role : Nat} (hc : c < 96) (hn : n < 96) (hcn : c ≠ n) (hl : l < 256) (hrole : role < 4) :
    s.PassedTo (s.workerMove c n l reason role) c n l role := by
  have h := ((s.stopped c reason).workPassed_shows hn hcn hl hrole).of_bus (s.bus_stopped hc reason)
  rw [s.workerMove_eq]
  split
  · exact h.start hn hcn _
  · exact h

/-- The images of a unit's side. -/
def State.imagesAt (s : State) (l : Nat) : ImageItems := if s.upd.units.contains l then s.upd.other else s.upd.items

/-- A worker's work at its spare, with the images of its side. -/
def State.spareMoved (s : State) (c n l : Nat) : State :=
  (((s.modUpd (fun u => { u with items := s.imagesAt l })).workerMove c n l 5 0).modUpd (fun u => { u with items := s.upd.items })).setFld
    (zwkKey c R.ZWK_STATUS) 2 4 5

theorem State.spareWorker_goes {c l n : Nat} (hl : s.lworker c = some l) (hn : s.workerSpare c = some n) :
    s.spareWorker c = (s.spareMoved c n l).spareTaken := by
  unfold State.spareWorker
  rw [hl, hn]
  rfl

theorem State.spareWorker_none {c l : Nat} (hl : s.lworker c = some l) (hn : s.workerSpare c = none) (hc : c < 96) :
    s.spareWorker c = s.fault 5 { page := zwkPage c } := by
  have hblk : blockOfPage (zwkPage c) ≠ some .keeper := by
    rw [(blockOfPage_zwk c hc).1]
    decide
  unfold State.spareWorker
  rw [hl, hn]
  exact if_neg hblk

theorem State.spareMoved_shows {c n l : Nat} (hc : c < 96) (hn : n < 96) (hcn : c ≠ n) (hl : l < 256) :
    s.PassedTo (s.spareMoved c n l) c n l 0 ∧ (s.spareMoved c n l).fld (zwkKey c R.ZWK_STATUS) 2 4 = 5 := by
  have h := ((s.modUpd (fun u => { u with items := s.imagesAt l })).workerMove_shows 5 hc hn hcn hl (role := 0) (by decide)).of_bus (s.bus_modUpd _)
  unfold State.spareMoved
  generalize (s.modUpd (fun u => { u with items := s.imagesAt l })).workerMove c n l 5 0 = t at *
  have hrd := t.rd_modUpd (fun u => { u with items := s.upd.items })
  have hbus := t.bus_modUpd (fun u => { u with items := s.upd.items })
  generalize t.modUpd (fun u => { u with items := s.upd.items }) = v at *
  have hne : ∀ k, k ≠ zwkKey c R.ZWK_STATUS → (v.setFld (zwkKey c R.ZWK_STATUS) 2 4 5).rd k = t.rd k := fun k hk =>
    (v.rd_setFld_ne _ _ _ _ _ hk).trans (hrd k)
  have hstatus := hne _ (zwkKey_ne_worker (c := n) (n := c) (off := R.ZWK_STATUS) (off' := R.ZWK_STATUS) hcn.symm)
  refine ⟨⟨(hne _ (zwkKey_ne_off n c)).trans h.vi, (hne _ (zwkKey_ne_off n c)).trans h.entry,
    ⟨(State.fld_of_rd hstatus 6 2).trans h.serves.1, (State.fld_of_rd hstatus 8 8).trans h.serves.2⟩, ?_, ?_⟩,
    v.fld_setFld (zwkKey c R.ZWK_STATUS) 2 4 5 (by decide)⟩
  · exact (v.fld_setFld_of_disjoint (zwkKey c R.ZWK_STATUS) 2 4 5 6 2 (by decide) (by decide)).trans ((State.fld_of_rd (hrd _) 6 2).trans h.left)
  · refine h.held.trans ?_
    rw [← hbus]
    exact (Bus.Held.refl v.bus).setFld _ _ _ _

theorem State.rd_spareTaken_zwk {c off : Nat} (hr : s.bus.Ranged) (hc : c < 96) (ho : off < 4096 := by decide)
    (h1 : off ≠ R.FLT_CNT_SPARE := by decide) (h2 : off ≠ hdrEvtPend := by decide) : s.spareTaken.rd (zwkKey c off) = s.rd (zwkKey c off) := by
  have hne : zwkKey c off ≠ pendKey fltPage := rk_ne_of_off h2 ho
  have hset : (s.addSat (fltKey R.FLT_CNT_SPARE) 1).bus.Ranged := hr.wr _ _
  exact ((plainPage_flt.after_raise hset 2).rd _ (fun h => hne (List.mem_singleton.mp h)) ((plainPage_zwk hc).reportKey off ho)).trans
    (s.rd_addSat_ne _ _ _ (rk_ne_of_off h1 ho))

theorem State.pend_spareTaken (hr : s.bus.Ranged) : s.spareTaken.pend fltPage 2 = true := by
  have hset : (s.addSat (fltKey R.FLT_CNT_SPARE) 1).bus.Ranged := hr.wr _ _
  exact plainPage_flt.pend_raise hset 2 (by decide)

theorem State.spareWorker_shows {c l n : Nat} (hr : s.bus.Ranged) (hc : c < 96) (hl : s.lworker c = some l) (hn : s.workerSpare c = some n) :
    (s.spareWorker c).lworker n = some l ∧ (s.spareWorker c).lworker c = none ∧ (s.spareWorker c).fld (zwkKey c R.ZWK_STATUS) 2 4 = 5 ∧
    (s.spareWorker c).rd (zwkKey n R.ZWK_VI) = s.rd (zwkKey c R.ZWK_VI) ∧
    (s.spareWorker c).rd (zwkKey n R.ZWK_ENTRY) = s.rd (zwkKey c R.ZWK_ENTRY) ∧ (s.spareWorker c).pend fltPage 2 = true := by
  obtain ⟨hrole, hlog, h255⟩ := s.lworker_some hl
  obtain ⟨hn96, hspare⟩ := s.workerSpare_some hc hn
  have hcn : c ≠ n := by
    rintro rfl
    omega
  have hl256 : l < 2 ^ 8 := hlog ▸ fieldOf_lt 8 8 _
  obtain ⟨h, hreason⟩ := s.spareMoved_shows hc hn96 hcn hl256
  rw [s.spareWorker_goes hl hn]
  generalize s.spareMoved c n l = t at *
  have hset := h.held.ranged hr
  have hsc := t.rd_spareTaken_zwk (off := R.ZWK_STATUS) hset hc
  have hsn := t.rd_spareTaken_zwk (off := R.ZWK_STATUS) hset hn96
  refine ⟨State.lworker_serves _ ((State.fld_of_rd hsn 6 2).trans h.serves.1) ((State.fld_of_rd hsn 8 8).trans h.serves.2) h255, ?_,
    (State.fld_of_rd hsc 2 4).trans hreason, (t.rd_spareTaken_zwk hset hn96).trans h.vi, (t.rd_spareTaken_zwk hset hn96).trans h.entry,
    t.pend_spareTaken hset⟩
  refine State.lworker_idle _ ?_
  rw [(State.fld_of_rd hsc 6 2).trans h.left]
  decide

/-! ### The spare of a keeper pair -/

theorem State.spareKeeper_moves {p : Nat} (hspare : s.kprRole (1 - p) = 2) (hp : p = s.bus.keeper) (h5 : s.updState ≠ 5)
    (h6 : s.updState ≠ 6) : s.spareKeeper p = (s.keeperMove 0).spareTaken := by
  have hinge : ¬(4 ≤ s.upd.step ∧ (s.updState = 5 ∨ s.updState = 6)) := fun h => h.2.elim h5 h6
  unfold State.spareKeeper
  dsimp only
  rw [if_neg (not_not.mpr hp), if_neg hinge, if_pos hspare]

theorem State.kprRole_setKpr_ne {p q : Nat} (role : Nat) (h : kprKey q R.KPR_STATUS ≠ kprKey p R.KPR_STATUS) :
    (s.setKpr p role).kprRole q = s.kprRole q := by
  unfold State.setKpr
  split
  · rfl
  · rw [State.kprRole_raise]
    exact State.kprRole_of_rd (s.rd_setFld_ne _ _ _ _ _ h)

theorem State.boot_handedOver (a n role : Nat) : (s.handedOver a n role).boot.lastPair = n := rfl

/-- VI 0 is the other pair's, and the pairs' ROLEs show it (R435). -/
theorem State.keeperMove_roles {r : Nat} (h : r < 4) (hr : s.bus.Ranged) : (s.keeperMove r).bus.keeper = 1 - s.bus.keeper ∧
    (s.keeperMove r).kprRole (1 - s.bus.keeper) = 1 ∧ (s.keeperMove r).kprRole s.bus.keeper = r ∧
    (s.keeperMove r).boot.lastPair = 1 - s.bus.keeper := by
  obtain ⟨-, hkeeper, -, hold⟩ := s.keeperMove_shows h hr
  have hlt := hr.2
  have hne : kprKey (1 - s.bus.keeper) R.KPR_STATUS ≠ kprKey s.bus.keeper R.KPR_STATUS := by
    simp only [kprKey, kprPage, rk, Block.pg, Block.base]
    omega
  refine ⟨hkeeper, ?_, hold, ?_⟩
  · rw [s.keeperMove_eq, State.kprRole_eq_bus, State.bus_handedOver, ← State.kprRole_eq_bus, State.kprRole_setKpr_ne _ _ hne]
    exact State.kprRole_setKpr _ _ (by decide)
  · rw [s.keeperMove_eq, State.boot_handedOver]

end

/-! ### A domain's reset -/

section
variable {s : State} {dt d : Nat}

/-- The sources whose rung 4 a domain's reset completes. -/
def State.rung4Done (s a : State) (d : Nat) : State :=
  (s.domSources d).foldl (fun a fs =>
    if (unitDoms fs (s.unitOf fs)).all (fun e => decide (e = d) || !a.bus.halted.contains e) then
      a.modEsc fs (fun e => { e with complete := true }) else a) a

theorem State.sameComp (s : State) : { s with comp := { s.comp with laneReady := s.comp.laneReady } } = s := rfl

theorem exec_domainResetReapply_off (h : s.domSources d = [] ∨ s.epochs.run ≠ none) :
    exec (.domainResetReapply dt d) s = .next (s.tick dt) := by
  have hgo : ((s.domSources d).isEmpty || s.epochs.run.isSome) = true := by
    rw [Bool.or_eq_true, List.isEmpty_iff, Option.isSome_iff_ne_none]
    exact h
  exact congrArg Host.Outcome.next (if_pos hgo)

theorem exec_domainResetReapply_goes (h : s.domSources d ≠ []) (hrun : s.epochs.run = none) (h19 : d ≠ 19) (h20 : d ≠ 20) :
    exec (.domainResetReapply dt d) s = .next (s.rung4Done ((s.tick dt).domReset d) d) := by
  have hgo : ¬((s.domSources d).isEmpty || s.epochs.run.isSome) = true := by
    rw [Bool.or_eq_true, List.isEmpty_iff, Option.isSome_iff_ne_none]
    exact not_or.mpr ⟨h, not_not.mpr hrun⟩
  have hdie : ¬(d = 19 ∨ d = 20) := fun hd => hd.elim h19 h20
  refine congrArg Host.Outcome.next ((if_neg hgo).trans ?_)
  rw [if_neg hdie]
  exact congrArg (fun a : State => s.rung4Done (a.domReset d) d) (s.tick dt).sameComp

end

/-- A register at reset. -/
theorem Bus.rd_init (k : Nat) : Bus.init.rd k = resetNat k % 2 ^ 32 := State.rd_reset k

theorem keptValue_none (k v : Nat) : keptValue k v 0 = resetNat k % 2 ^ 32 := by
  unfold keptValue maskOf
  rw [Nat.and_zero, Nat.zero_add]
  exact Nat.and_two_pow_sub_one_eq_mod (resetNat k) 32

/-- Registers written with their reset values, one after another. -/
theorem Bus.rd_foldl_kept (l : List (Nat × Word)) (b : Bus) (k : Nat) : (l.foldl (fun a p => a.wr p.1 (keptValue p.1 p.2.toNat 0)) b).rd k =
    if k ∈ l.map (·.1) then Bus.init.rd k else b.rd k := by
  induction l generalizing b with
  | nil => rfl
  | cons p l ih =>
    rw [List.foldl_cons, ih, List.map_cons]
    by_cases hl : k ∈ l.map (·.1)
    · rw [if_pos hl, if_pos (List.mem_cons_of_mem _ hl)]
    · rw [if_neg hl]
      by_cases hp : k = p.1
      · rw [if_pos (List.mem_cons.mpr (.inl hp)), hp, Bus.rd_wr, keptValue_none, Bus.rd_init, Nat.mod_mod]
      · rw [if_neg (List.not_mem_cons_of_ne_of_not_mem hp hl), Bus.rd_wr_ne _ _ _ _ hp]

theorem Bus.rd_unlisted (b : Bus) (k : Nat) (h : k ∉ b.regs.cells.map (·.1)) : b.rd k = Bus.init.rd k := by
  cases hf : b.regs.find? k with
  | none =>
    rw [Bus.rd, Bus.rdW, SMap.find, hf]
    rfl
  | some w => exact absurd (List.mem_map.mpr ⟨(k, w), SMap.mem_of_find? _ _ _ hf, rfl⟩) h

/-- A domain without its configuration: its registers are at reset (R400, R437). -/
theorem Bus.rd_regsReset (b : Bus) (d k : Nat) :
    (b.regsReset d (fun _ _ => 0)).rd k = if b.inDomain d (keyPage k) then Bus.init.rd k else b.rd k := by
  refine (Bus.rd_of_regs rfl k).trans ((Bus.rd_foldl_kept (b.regs.cells.filter (fun p => b.inDomain d (keyPage p.1))) b k).trans ?_)
  by_cases hd : b.inDomain d (keyPage k) = true
  · rw [if_pos hd]
    split
    · rfl
    · next hk =>
      refine b.rd_unlisted k fun hm => hk ?_
      obtain ⟨p, hp, rfl⟩ := List.mem_map.mp hm
      exact List.mem_map.mpr ⟨p, List.mem_filter.mpr ⟨hp, hd⟩, rfl⟩
  · have hk : k ∉ (b.regs.cells.filter (fun p => b.inDomain d (keyPage p.1))).map (·.1) := fun hm => by
      obtain ⟨p, hp, rfl⟩ := List.mem_map.mp hm
      exact hd (List.mem_filter.mp hp).2
    rw [if_neg hd, if_neg hk]

/-! ### The device's reset -/

section
variable (s : State)

theorem exec_deviceReset (dt : Nat) : (s.rung5 = true → exec (.deviceReset dt) s = .next (s.tick dt).deviceReset) ∧
    (s.rung5 = false → exec (.deviceReset dt) s = .next (s.tick dt)) :=
  ⟨fun h => congrArg Host.Outcome.next (if_pos h), fun h => congrArg Host.Outcome.next (if_neg fun h' => absurd (h'.symm.trans h) (by decide))⟩

/-- What limp-home leaves. -/
theorem State.limpBegin_keeps {γ : Type} (g : State → γ) (hraise : ∀ (a : State) page bit extra, g (a.raiseAlso page bit extra) = g a)
    (hset : ∀ (f : Loads → Loads) k i v, g ((s.modLds f).setBit k i v) = g s) : g s.limpBegin = g s := by
  cases hl : s.limp with
  | true => rw [s.limpBegin_of_limp hl]
  | false =>
    rw [s.limpBegin_of_not_limp hl]
    exact (State.foldl_keeps g _ _ (fun a ch _ => hraise a (ldsPage ch) 6 [0]) _).trans (hset _ _ _ _)

theorem State.padsShown_keeps {γ : Type} (g : State → γ) (hset : ∀ (a : State) k i v, g (a.setBit k i v) = g a) : g s.padsShown = g s := by
  refine State.foldl_keeps g _ _ (fun a d _ => ?_) s
  split
  · exact hset _ _ _ _
  · rfl

theorem State.rd_padsShown {k : Nat} (h : ∀ d, d < 22 → k ≠ pwrDKey d R.PWR_D_STATUS) : s.padsShown.rd k = s.rd k := by
  refine State.foldl_keeps (State.rd · k) _ _ (fun a d hd => ?_) s
  split
  · exact a.rd_setBit_ne _ _ _ _ (h d (List.mem_range.mp hd))
  · rfl

/-- The records of the journal that outlive a reset. -/
def Journal.durableLog (j : Journal) : Journal :=
  { Journal.init with
    log := j.log.takeWhile (·.durable)
    home := j.home
    next := match (j.log.takeWhile (·.durable)).getLast? with | some r => (r.pos + r.len) % logWords | none => j.next }

theorem Journal.durableLog_keeps (j : Journal) : j.durableLog.home = j.home ∧ j.durableLog.log = j.log.takeWhile (·.durable) := ⟨rfl, rfl⟩

/-- The page network after a device reset. -/
def Bus.aonKept (b : Bus) : Bus :=
  { Bus.init with
    now := b.now, out := b.out, free := b.free
    regs := ⟨b.regs.cells.filter (fun p => survivesReset p.1)⟩
    timers := ⟨b.timers.cells.filter (fun p => timerSurvives p.1)⟩ }

theorem Bus.now_aonKept (b : Bus) : b.aonKept.now = b.now := rfl

theorem Bus.rd_aonKept (b : Bus) {k : Nat} (h : survivesReset k = false) : b.aonKept.rd k = Bus.init.rd k :=
  Bus.rd_filtered b b.aonKept survivesReset rfl h

/-- A device reset, before the pad latches show. -/
def State.aonKept (s : State) : State :=
  { State.reset with
    pending := s.pending
    bus := s.bus.aonKept
    jrn := s.jrn.durableLog
    lds := { s.lds with allOff := false }
    toks := ⟨s.toks.cells.map (fun (p : Nat × Tok) => (p.1, { Tok.init with answered := p.2.answered }))⟩
    idn := { Idn.init with cert := s.idn.cert, keyed := s.idn.keyed }
    upd := { Upd.init with flash := s.upd.flash, otp := s.upd.otp }
    boot := { s.boot with badPairs := [], entropyAt := 0 } }

theorem State.deviceReset_eq : s.deviceReset = s.limpBegin.aonKept.padsShown := rfl

theorem State.bus_aonKept : s.aonKept.bus = s.bus.aonKept := rfl
theorem State.jrn_aonKept : s.aonKept.jrn = s.jrn.durableLog := rfl
theorem State.flash_aonKept : s.aonKept.upd.flash = s.upd.flash := rfl
theorem State.pending_aonKept : s.aonKept.pending = s.pending := rfl
theorem State.setBit_modLds (f : Loads → Loads) (k i : Nat) (v : Bool) : ((s.modLds f).setBit k i v).upd = s.upd ∧
    ((s.modLds f).setBit k i v).jrn = s.jrn ∧ ((s.modLds f).setBit k i v).pending = s.pending ∧
    ((s.modLds f).setBit k i v).bus.now = s.bus.now := ⟨rfl, rfl, rfl, rfl⟩

theorem State.now_raiseAlso (page bit : Nat) (extra : List Nat) : (s.raiseAlso page bit extra).bus.now = s.bus.now :=
  (s.bus.held_raiseAt page page bit _ extra none).now

/-- What a device reset sets to reset, and what it leaves (R430, R458). -/
theorem State.deviceReset_shows :
    (∀ k, survivesReset k = false → (∀ d, d < 22 → k ≠ pwrDKey d R.PWR_D_STATUS) → s.deviceReset.rd k = Bus.init.rd k) ∧
    s.deviceReset.upd.flash = s.upd.flash ∧ s.deviceReset.jrn.home = s.jrn.home ∧ s.deviceReset.pending = s.pending ∧
    s.deviceReset.jrn.log = s.jrn.log.takeWhile (·.durable) ∧ s.deviceReset.bus.now = s.bus.now := by
  have hupd : s.limpBegin.upd = s.upd := s.limpBegin_keeps State.upd (fun a _ _ _ => a.raiseAlso_upd _ _ _) fun f k i v => (s.setBit_modLds f k i v).1
  have hjrn : s.limpBegin.jrn = s.jrn := s.limpBegin_keeps State.jrn (fun a _ _ _ => a.raiseAlso_jrn _ _ _) fun f k i v => (s.setBit_modLds f k i v).2.1
  have hpending : s.limpBegin.pending = s.pending :=
    s.limpBegin_keeps State.pending (fun a _ _ _ => a.raiseAlso_pending _ _ _) fun f k i v => (s.setBit_modLds f k i v).2.2.1
  have hnow : s.limpBegin.bus.now = s.bus.now :=
    s.limpBegin_keeps (fun a : State => a.bus.now) (fun a _ _ _ => a.now_raiseAlso _ _ _) fun f k i v => (s.setBit_modLds f k i v).2.2.2
  rw [s.deviceReset_eq]
  generalize s.limpBegin = a at *
  obtain ⟨hhome, hlog⟩ := a.jrn.durableLog_keeps
  have hkept := a.aonKept.padsShown_keeps State.jrn (fun b _ _ _ => b.setBit_jrn _ _ _)
  refine ⟨fun k hk hd => ?_, ?_, ?_, ?_, ?_, ?_⟩
  · rw [a.aonKept.rd_padsShown hd, State.rd_eq_bus, a.bus_aonKept]
    exact a.bus.rd_aonKept hk
  · rw [a.aonKept.padsShown_keeps State.upd (fun b _ _ _ => b.setBit_upd _ _ _), a.flash_aonKept, hupd]
  · rw [hkept, a.jrn_aonKept, hhome, hjrn]
  · rw [a.aonKept.padsShown_keeps State.pending (fun b _ _ _ => b.setBit_pending _ _ _), a.pending_aonKept, hpending]
  · rw [hkept, a.jrn_aonKept, hlog, hjrn]
  · rw [a.aonKept.padsShown_keeps (fun b : State => b.bus.now) (fun b _ _ _ => b.now_setBit _ _ _), a.bus_aonKept, Bus.now_aonKept, hnow]

end

/-- Settles O54: a rung by `State.takeRung_eq`, which parts what it shows from what it does; a spare worker by `State.PassedTo`; the resets
by the registers that they filter. -/
theorem theLadderTakesItsRungs : Obligations.TheLadderTakesItsRungs := by
  unfold Obligations.TheLadderTakesItsRungs
  refine ⟨fun dt fs n held l s s1 hdue h1 h => ?_, fun s fs n hr hfs h => State.takeRung_waits_shows hr hfs h,
    fun s fs hr hfs h => ⟨_, State.takeRung_isolates h, State.rungTaken_acts_shows hr hfs (.inl rfl)⟩,
    fun s fs hr hfs h => ⟨_, State.takeRung_failsafe h, State.rungTaken_acts_shows hr hfs (.inr rfl)⟩,
    fun s fs _ => ⟨(s.ladderEnd_shows fs).1, (s.ladderEnd_shows fs).2, s.escOf_ladderEnd fs⟩, fun dt fs held s s2 h hc h2 => ?_,
    fun dt fs held s h => exec_escalationRungComplete_off h, fun s fs n => ⟨State.ladderNext_some, State.ladderNext_none⟩,
    fun dt fs s s1 h1 hdue h => ?_, fun dt fs c s s2 h hn hc h2 => ?_, fun s c l n hr hc hl hn => s.spareWorker_shows hr hc hl hn,
    fun s c l hl hn hc => s.spareWorker_none hl hn hc, fun s p _ hspare hp h5 h6 => s.spareKeeper_moves hspare hp h5 h6,
    fun s r hr h => s.keeperMove_roles h hr, fun dt d s h hrun h19 h20 => exec_domainResetReapply_goes h hrun h19 h20,
    fun dt d s h => exec_domainResetReapply_off h, fun b d k => b.rd_regsReset d k, fun dt s => exec_deviceReset s dt,
    fun s => s.deviceReset_shows⟩
  · rw [exec_faultGraceExpire_due hdue h, ← h1]
    exact ⟨fun hr => congrArg Host.Outcome.next (State.ladderStart_some hr), fun hr => congrArg Host.Outcome.next (State.ladderStart_none hr)⟩
  · rw [exec_escalationRungComplete_done h hc h2]
    refine ⟨fun ha => congrArg Host.Outcome.next (State.rungDone_acked ha), fun ha hh => congrArg Host.Outcome.next (State.rungDone_again ha hh),
      fun ha hh hcnt hrun n hn => ?_⟩
    rw [hh]
    exact congrArg Host.Outcome.next (State.rungDone_waits ha hcnt hrun hn)
  · rw [h1]
    exact exec_ladderEndTimeout_due hdue h
  · rw [exec_spareTakeover_goes h hn hc h2]
    refine ⟨fun hc' hu => ?_, fun hc' hu => ?_, fun hu => ?_, fun hc' hu => ?_⟩ <;> rw [hu]
    · rw [s2.spareActs_worker hc']
    · rw [s2.spareActs_keeper hc']
    · rw [s2.spareActs_plane]
    · rw [s2.spareActs_lane hc']

end Sys2Proof.Machine
end

section
-- One theorem after another: each waiting thread takes 256 MB of the memory the check allows.
set_option Elab.async false
/-! SUPPORT. The double-key engine (R374 to R381, Tables 13-5, 13-6 and 13-11). The statement on it, settled. -/

namespace Sys2Proof.Machine

/-! ### The state of a proposal -/

section
variable (s : State)

theorem State.rd_modDky (f : Dky → Dky) (k : Nat) : (s.modDky f).rd k = s.rd k := rfl
theorem State.bus_modDky (f : Dky → Dky) : (s.modDky f).bus = s.bus := rfl
theorem State.dky_modDky (f : Dky → Dky) : (s.modDky f).dky = f s.dky := rfl
theorem State.dky_dkyEvent (i : Nat) : (s.dkyEvent i).dky = s.dky := rfl
theorem State.epochs_dkyEvent (i : Nat) : (s.dkyEvent i).epochs = s.epochs := rfl
theorem State.dky_dkyIdle (r : Nat) : (s.dkyIdle r).dky = s.dky := by
  rw [s.dkyIdle_eq, State.disarm_dky, State.dkyEnded, State.setFld_dky, State.setDkyState, State.setFld_dky]

theorem State.epochs_dkyIdle (r : Nat) : (s.dkyIdle r).epochs = s.epochs := by
  rw [s.dkyIdle_eq, State.disarm_epochs, State.dkyEnded, State.setFld_epochs, State.setDkyState, State.setFld_epochs]

theorem State.timers_dkyEvent (i : Nat) : (s.dkyEvent i).bus.timers = s.bus.timers :=
  (s.bus.held_raiseAt dkyPage dkyPage i 0 [s.dkyHolder] none).timers

theorem State.dkyState_of_rd {s t : State} (h : t.rd (dkyKey R.DKY_STATUS) = s.rd (dkyKey R.DKY_STATUS)) : t.dkyState = s.dkyState :=
  State.fld_of_rd h 0 3

theorem State.dkyState_setDkyState {st : Nat} (h : st < 8) : (s.setDkyState st).dkyState = st :=
  (s.fld_setFld (dkyKey R.DKY_STATUS) 0 3 st (by decide)).trans (Nat.mod_eq_of_lt h)

theorem State.after_setDkyState (st : Nat) {ks : List Nat} (h : dkyKey R.DKY_STATUS ∈ ks) : s.After (s.setDkyState st) ks :=
  (State.After.refl s ks).setFld _ _ _ _ h

theorem State.setFld_disarm (k lo w v t : Nat) : (s.setFld k lo w v).disarm t = (s.disarm t).setFld k lo w v := rfl

/-- The end of a proposal, its window ended first. -/
theorem State.dkyIdle_eq_ended (r : Nat) : s.dkyIdle r = (s.disarm tWindow).dkyEnded r := by
  rw [s.dkyIdle_eq, State.dkyEnded, State.setDkyState, State.setFld_disarm, State.setFld_disarm, State.dkyEnded, State.setDkyState]

theorem State.after_dkyIdle (r : Nat) {ks : List Nat} (h : dkyKey R.DKY_STATUS ∈ ks) : (s.disarm tWindow).After (s.dkyIdle r) ks := by
  rw [s.dkyIdle_eq_ended, State.dkyEnded]
  exact ((s.disarm tWindow).after_setDkyState 0 h).setFld _ _ _ _ h

theorem State.window_dkyIdle (r : Nat) : (s.dkyIdle r).bus.running tWindow = false := by
  rw [s.dkyIdle_eq]
  exact State.running_disarm_self _ _

/-- A proposal that ends with a result and an event. -/
theorem State.dkyEnds_shows {s : State} (hr : s.bus.Ranged) {r i : Nat} (h : r < 16) (hi : i < 32) : ((s.dkyIdle r).dkyEvent i).dkyState = 0 ∧
    ((s.dkyIdle r).dkyEvent i).fld (dkyKey R.DKY_STATUS) 20 4 = r ∧ ((s.dkyIdle r).dkyEvent i).pend dkyPage i = true ∧
    (s.disarm tWindow).After ((s.dkyIdle r).dkyEvent i) [dkyKey R.DKY_STATUS, pendKey dkyPage] := by
  obtain ⟨hstate, hresult⟩ := s.dkyIdle_shows h
  have hset := State.ranged_dkyIdle hr r
  refine ⟨(State.dkyState_dkyEvent _ i).trans hstate, (State.dkyEvent_fld _ i 20 4).trans hresult, State.pend_dkyEvent _ hset hi, ?_⟩
  exact (s.after_dkyIdle r (List.mem_cons_self ..)).trans (((s.dkyIdle r).after_dkyEvent hset i).mono fun k hk => List.mem_cons_of_mem _ hk)

/-! ### A proposal applies -/

theorem State.dkyApply_stale (h : s.rd (fltKey R.FLT_EPOCH) ≠ s.rd (dkyKey R.DKY_SEAL_EPOCH)) : s.dkyApply = (s.dkyIdle 8).dkyEvent 3 := if_pos h

theorem State.dkyApply_goes (h : s.rd (fltKey R.FLT_EPOCH) = s.rd (dkyKey R.DKY_SEAL_EPOCH)) :
    s.dkyApply = ((s.setDkyState 4).disarm tWindow).epochAsk := if_neg (not_not.mpr h)

theorem State.asked_epochAsk : s.epochAsk.epochs.asked = true := rfl
theorem State.bus_epochAsk : s.epochAsk.bus = s.bus := rfl
theorem State.dky_epochAsk : s.epochAsk.dky = s.dky := rfl
theorem State.dky_setDkyState (st : Nat) : (s.setDkyState st).dky = s.dky := s.setFld_dky _ _ _ _
theorem State.dky_disarm (t : Nat) : (s.disarm t).dky = s.dky := rfl
theorem State.dkyState_disarm (t : Nat) : (s.disarm t).dkyState = s.dkyState := rfl
theorem State.dkyState_epochAsk : s.epochAsk.dkyState = s.dkyState := rfl

theorem State.dkyApply_goes_shows (h : s.rd (fltKey R.FLT_EPOCH) = s.rd (dkyKey R.DKY_SEAL_EPOCH)) : s.dkyApply.dkyState = 4 ∧
    s.dkyApply.epochs.asked = true ∧ s.dkyApply.bus.running tWindow = false ∧ s.dkyApply.dky = s.dky := by
  rw [s.dkyApply_goes h, State.dkyState_epochAsk, State.dkyState_disarm, State.asked_epochAsk, State.bus_epochAsk, State.dky_epochAsk,
    State.dky_disarm, State.dky_setDkyState]
  exact ⟨s.dkyState_setDkyState (by decide), rfl, State.running_disarm_self _ _, rfl⟩

theorem State.dky_dkyApply : s.dkyApply.dky = s.dky := by
  by_cases h : s.rd (fltKey R.FLT_EPOCH) = s.rd (dkyKey R.DKY_SEAL_EPOCH)
  · exact (s.dkyApply_goes_shows h).2.2.2
  · rw [s.dkyApply_stale h, State.dky_dkyEvent, State.dky_dkyIdle]

end

/-! ### Commands on a proposal -/

section
variable {s : State} {dt vi v : Nat} (hup : s.bus.pageUp dkyPage = true)
include hup

theorem exec_dkyOpen_busy (h : s.dkyState ≠ 0) : exec (.dkyOpen dt vi) s = .next ((s.tick dt).cfgErr dkyPage) :=
  congrArg Host.Outcome.next ((if_pos hup).trans (if_pos h))

theorem exec_dkySeal_holder (h : s.dkyState = 1) (hvi : s.dkyHolder = vi) : exec (.dkySeal dt vi) s = .next ((s.tick dt).setDkyState 2) :=
  congrArg Host.Outcome.next ((if_pos hup).trans (if_pos ⟨h, hvi⟩))

theorem exec_dkySeal_other (h : s.dkyState ≠ 1 ∨ s.dkyHolder ≠ vi) : exec (.dkySeal dt vi) s = .next ((s.tick dt).cfgErr dkyPage) :=
  congrArg Host.Outcome.next ((if_pos hup).trans (if_neg fun hc => h.elim (absurd hc.1) (absurd hc.2)))

theorem exec_dkyAbort_holder (h : s.dkyState = 1 ∨ s.dkyState = 3) (hvi : s.dkyHolder = vi ∨ vi = 0) :
    exec (.dkyAbort dt vi) s = .next ((s.tick dt).dkyIdle 10) :=
  congrArg Host.Outcome.next ((if_pos hup).trans (if_pos ⟨h, hvi⟩))

theorem exec_dkyAbort_other (h : (s.dkyState ≠ 1 ∧ s.dkyState ≠ 3) ∨ (s.dkyHolder ≠ vi ∧ vi ≠ 0)) :
    exec (.dkyAbort dt vi) s = .next ((s.tick dt).cfgErr dkyPage) :=
  congrArg Host.Outcome.next ((if_pos hup).trans (if_neg fun hc => h.elim (fun h => hc.1.elim h.1 h.2) (fun h => hc.2.elim h.1 h.2)))

/-- What a signature bears as it is submitted. -/
def State.sigOf (s : State) : DkySig :=
  ⟨s.fld (dkyKey R.DKY_SIG_PRIN) 0 6, wordsNat (s.rdList (dkyKey R.DKY_SIG_R) 12), wordsNat (s.rdList (dkyKey R.DKY_SIG_S) 12),
    s.bus.prinWords (s.fld (dkyKey R.DKY_SIG_PRIN) 0 6), if s.dkyState = 3 ∧ !s.dky.expiring then some s.dky.prop else none⟩

/-- A signature under verification. -/
def State.sigHeld (s : State) (g : DkySig) : State := (s.modDky (fun d => { d with sig := some g })).setBit (dkyKey R.DKY_SIG_STATUS) 0 true

theorem exec_dkySigSubmit_goes (hv : bitOf 0 v = true) (h : s.bit (dkyKey R.DKY_SIG_STATUS) 0 = false) :
    exec (.dkySigSubmit dt vi v) s = .next ((s.tick dt).sigHeld (s.tick dt).sigOf) :=
  congrArg Host.Outcome.next ((if_pos hup).trans ((if_neg (by rw [hv]; decide)).trans (if_neg (by
    rw [show (s.tick dt).bit (dkyKey R.DKY_SIG_STATUS) 0 = false from h]
    decide))))

theorem exec_dkySigSubmit_busy (hv : bitOf 0 v = true) (h : s.bit (dkyKey R.DKY_SIG_STATUS) 0 = true) :
    exec (.dkySigSubmit dt vi v) s = .next ((s.tick dt).cfgErr dkyPage) :=
  congrArg Host.Outcome.next ((if_pos hup).trans ((if_neg (by rw [hv]; decide)).trans (if_pos h)))

theorem exec_dkySigSubmit_not (hv : bitOf 0 v = false) : exec (.dkySigSubmit dt vi v) s = .next (s.tick dt) :=
  congrArg Host.Outcome.next ((if_pos hup).trans (if_pos (by rw [hv]; decide)))

end

/-! ### A proposal opens -/

section
variable (s : State) (vi : Nat)

/-- Whether a register is one of a proposal's staging words. -/
def isStageKey (k : Nat) : Bool :=
  decide (keyPage k = dkyPage) && decide (R.DKY_STAGE_HDR ≤ keyOff k) && decide (keyOff k ≤ R.DKY_STAGE_VALUE)

/-- DKY_STATUS of a new proposal. -/
def State.dkyTaken (s : State) (vi : Nat) : State := s.wr (dkyKey R.DKY_STATUS) (1 + 8 * b2n s.dkyPresence + 256 * (vi % 1024))

/-- The staging words empty. -/
def State.unstaged (s : State) : State := s.on (fun b => { b with regs := ⟨b.regs.cells.filter (fun p => !isStageKey p.1)⟩ })

def Dky.opened (d : Dky) : Dky := { d with prop := d.prop + 1, psig := none, csig := none, expiring := false, ops := [] }

variable {s vi} in
theorem exec_dkyOpen_goes {dt : Nat} (hup : s.bus.pageUp dkyPage = true) (h : s.dkyState = 0) :
    exec (.dkyOpen dt vi) s = .next ((((s.tick dt).dkyTaken vi).unstaged).modDky Dky.opened) :=
  congrArg Host.Outcome.next ((if_pos hup).trans (if_neg (not_not.mpr h)))

theorem State.rd_unstaged (k : Nat) : s.unstaged.rd k = if isStageKey k then resetNat k % 2 ^ 32 else s.rd k := by
  show ((SMap.findIn (s.bus.regs.cells.filter fun p => !isStageKey p.1) k).getD (resetWord k)).toNat = _
  rw [SMap.findIn_filter_key (fun j => !isStageKey j)]
  cases isStageKey k
  · rfl
  · exact BitVec.toNat_ofNat _ _

theorem State.dkyTaken_shows (h : vi < 1024) : (s.dkyTaken vi).dkyState = 1 ∧ (s.dkyTaken vi).dkyHolder = vi := by
  have hp : b2n s.dkyPresence ≤ 1 := by
    cases s.dkyPresence <;> decide
  have hrd : (s.dkyTaken vi).rd (dkyKey R.DKY_STATUS) = 1 + 8 * b2n s.dkyPresence + 256 * vi := by
    refine (s.rd_wr _ _).trans ?_
    rw [Nat.mod_eq_of_lt h, Nat.mod_eq_of_lt (by omega)]
  refine ⟨(congrArg (fieldOf 0 3) hrd).trans ?_, (congrArg (fieldOf 8 10) hrd).trans ?_⟩
  · show (1 + 8 * b2n s.dkyPresence + 256 * vi) / 2 ^ 0 % 2 ^ 3 = 1
    omega
  · show (1 + 8 * b2n s.dkyPresence + 256 * vi) / 2 ^ 8 % 2 ^ 10 = vi
    omega

theorem keyPage_stage (off sel : Nat) (ho : off < 4096) : keyPage (rkSel dkyPage off sel) = dkyPage ∧ keyOff (rkSel dkyPage off sel) = off := by
  simp only [keyPage, keyOff, keyAddr, rkSel, dkyPage, Block.pg, Block.base]
  omega

/-- A staging word reads 0 at reset. -/
theorem resetNat_stage {k : Nat} (hp : keyPage k = dkyPage) (ho : keyOff k = R.DKY_STAGE_HDR ∨ keyOff k = R.DKY_STAGE_ADDR ∨
    keyOff k = R.DKY_STAGE_SELV ∨ keyOff k = R.DKY_STAGE_VALUE) : resetNat k = 0 ∧ isStageKey k = true := by
  unfold resetNat isStageKey
  rw [hp]
  rcases ho with h | h | h | h <;> rw [h] <;> decide

theorem State.rd_staging_unstaged {k : Nat} (hp : keyPage k = dkyPage) (ho : keyOff k = R.DKY_STAGE_HDR ∨ keyOff k = R.DKY_STAGE_ADDR ∨
    keyOff k = R.DKY_STAGE_SELV ∨ keyOff k = R.DKY_STAGE_VALUE) : s.unstaged.rd k = 0 := by
  obtain ⟨hreset, hstage⟩ := resetNat_stage hp ho
  rw [s.rd_unstaged, if_pos hstage, hreset, Nat.zero_mod]

theorem State.rd_unstaged_apart {k : Nat} (h : keyPage k ≠ dkyPage ∨ keyOff k < R.DKY_STAGE_HDR ∨ R.DKY_STAGE_VALUE < keyOff k) :
    s.unstaged.rd k = s.rd k := by
  have hk : ¬isStageKey k = true := by
    unfold isStageKey
    rw [Bool.and_eq_true, Bool.and_eq_true, decide_eq_true_eq, decide_eq_true_eq, decide_eq_true_eq]
    omega
  rw [s.rd_unstaged, if_neg hk]

/-- A proposal opens with its staging words empty (R376). -/
theorem State.dkyOpened_shows (h : vi < 1024) :
    ((s.dkyTaken vi).unstaged.modDky Dky.opened).dkyState = 1 ∧ ((s.dkyTaken vi).unstaged.modDky Dky.opened).dkyHolder = vi ∧
    ((s.dkyTaken vi).unstaged.modDky Dky.opened).rd (dkyKey R.DKY_STAGE_HDR) = 0 ∧
    ((s.dkyTaken vi).unstaged.modDky Dky.opened).dky.psig = none ∧ ((s.dkyTaken vi).unstaged.modDky Dky.opened).dky.csig = none ∧
    (∀ i, i < 512 → ((s.dkyTaken vi).unstaged.modDky Dky.opened).rd (rkSel dkyPage R.DKY_STAGE_ADDR i) = 0 ∧
      ((s.dkyTaken vi).unstaged.modDky Dky.opened).rd (rkSel dkyPage R.DKY_STAGE_SELV i) = 0 ∧
      ((s.dkyTaken vi).unstaged.modDky Dky.opened).rd (rkSel dkyPage R.DKY_STAGE_VALUE i) = 0) ∧
    (∀ k, k ≠ dkyKey R.DKY_STATUS → keyPage k ≠ dkyPage ∨ keyOff k < R.DKY_STAGE_HDR ∨ R.DKY_STAGE_VALUE < keyOff k →
      ((s.dkyTaken vi).unstaged.modDky Dky.opened).rd k = s.rd k) := by
  obtain ⟨hstate, hholder⟩ := s.dkyTaken_shows vi h
  have hother : ∀ k, k ≠ dkyKey R.DKY_STATUS → (s.dkyTaken vi).rd k = s.rd k := fun k hk => s.rd_wr_ne _ _ _ hk
  generalize s.dkyTaken vi = t at *
  have hstatus := t.rd_unstaged_apart (k := dkyKey R.DKY_STATUS) (.inr (.inl (by decide)))
  have hzero := fun k => t.rd_staging_unstaged (k := k)
  have hapart := fun k => t.rd_unstaged_apart (k := k)
  generalize t.unstaged = u at *
  have hrd := u.rd_modDky Dky.opened
  refine ⟨(State.dkyState_of_rd ((hrd _).trans hstatus)).trans hstate, (State.fld_of_rd ((hrd _).trans hstatus) 8 10).trans hholder,
    (hrd _).trans (hzero _ (by decide) (.inl (by decide))), rfl, rfl, fun i _ => ?_, fun k hk ha => (hrd k).trans ((hapart k ha).trans (hother k hk))⟩
  have hsel : ∀ off, off < 4096 → off = R.DKY_STAGE_HDR ∨ off = R.DKY_STAGE_ADDR ∨ off = R.DKY_STAGE_SELV ∨ off = R.DKY_STAGE_VALUE →
      (u.modDky Dky.opened).rd (rkSel dkyPage off i) = 0 := fun off ho hoff => by
    obtain ⟨hp, hk⟩ := keyPage_stage off i ho
    exact (hrd _).trans (hzero _ hp (by rw [hk]; exact hoff))
  exact ⟨hsel _ (by decide) (.inr (.inl rfl)), hsel _ (by decide) (.inr (.inr (.inl rfl))), hsel _ (by decide) (.inr (.inr (.inr rfl)))⟩

end

/-! ### The seal -/

section
variable (s : State)

/-- D of a proposal sealed at an epoch with a nonce (R374). -/
def State.sealDigest (s : State) (nonce : List Nat) : List Nat :=
  sha384 (proposalBytes s.dkyProposer s.dkyBoot s.dkyStaged ++ octets 4 (s.rd (fltKey R.FLT_EPOCH)) ++ nonce.flatMap (octets 4))

/-- EPOCH, NONCE and D published. -/
def State.sealShown (s : State) (g : State × List Nat) : State :=
  ((g.1.wr (dkyKey R.DKY_SEAL_EPOCH) (s.rd (fltKey R.FLT_EPOCH))).wrList (dkyKey R.DKY_NONCE) g.2).wrList (dkyKey R.DKY_DIGEST)
    (bytesWords 12 (s.sealDigest g.2))

/-- A proposal sealed, before it is told. -/
def State.sealGranted (s : State) (g : State × List Nat) : State :=
  (((s.sealShown g).setDkyState 3).modDky (fun d => { d with ops := s.dkyStaged })).arm tWindow (clkS 300)

theorem State.dkySealed_waits (h : s.dkyBoot = false ∨ s.dkyPresence = false) : s.dkySealed = (s.sealGranted (s.draw 8)).dkyEvent 0 := by
  have hno : ¬(s.dkyBoot && s.dkyPresence) = true := by
    rcases h with h | h <;> rw [h]
    · exact Bool.false_ne_true
    · rw [Bool.and_false]
      exact Bool.false_ne_true
  exact if_neg hno

theorem exec_dkySealComplete_refused {s : State} {dt r : Nat} (h : s.dkyState = 2)
    (hr : (s.tick dt).bus.sealCheck s.dkyProposer s.dkyBoot s.dkyCount s.dkyStaged s.rngReady = r) (hpos : 0 < r) :
    exec (.dkySealComplete dt) s = .next (((s.tick dt).dkyIdle r).dkyEvent 3) := by
  have hne : (s.tick dt).bus.sealCheck s.dkyProposer s.dkyBoot s.dkyCount s.dkyStaged s.rngReady ≠ 0 := hr ▸ Nat.pos_iff_ne_zero.mp hpos
  rw [← hr]
  exact congrArg Host.Outcome.next ((if_neg (not_not.mpr h)).trans (if_pos hne))

theorem exec_dkySealComplete_granted {s : State} {dt : Nat} (h : s.dkyState = 2)
    (hr : (s.tick dt).bus.sealCheck s.dkyProposer s.dkyBoot s.dkyCount s.dkyStaged s.rngReady = 0) :
    exec (.dkySealComplete dt) s = .next (s.tick dt).dkySealed :=
  congrArg Host.Outcome.next ((if_neg (not_not.mpr h)).trans (if_neg (not_not.mpr hr)))

theorem State.rd_arm_sealed (t : State) (f : Dky → Dky) (i clks k : Nat) : ((t.modDky f).arm i clks).rd k = t.rd k := rfl
theorem State.now_sealed (t : State) (f : Dky → Dky) (st : Nat) : ((t.setDkyState st).modDky f).bus.now = t.bus.now := rfl
theorem State.ranged_sealed (t : State) (f : Dky → Dky) (i clks : Nat) (hr : t.bus.Ranged) : ((t.modDky f).arm i clks).bus.Ranged := hr
theorem State.dky_sealed (t : State) (f : Dky → Dky) (i clks : Nat) : ((t.modDky f).arm i clks).dky = f t.dky := rfl

theorem State.held_wrList (k : Nat) (l : List Nat) : s.bus.Held (s.wrList k l).bus := by
  induction l generalizing s k with
  | nil => exact .refl _
  | cons v l ih => exact ((Bus.Held.refl s.bus).wr k v).trans (ih (s.wr k v) (k + 4))

theorem State.held_sealShown (g : State × List Nat) : g.1.bus.Held (s.sealShown g).bus :=
  have hepoch : g.1.bus.Held (g.1.wr (dkyKey R.DKY_SEAL_EPOCH) (s.rd (fltKey R.FLT_EPOCH))).bus := (Bus.Held.refl g.1.bus).wr _ _
  (hepoch.trans (State.held_wrList _ _ _)).trans (State.held_wrList _ _ _)

/-- What a seal publishes. -/
theorem State.sealShown_shows (g : State × List Nat) (hlen : g.2.length = 8) (hlt : ∀ v ∈ g.2, v < 2 ^ 32) :
    (s.sealShown g).rd (dkyKey R.DKY_SEAL_EPOCH) = s.rd (fltKey R.FLT_EPOCH) ∧ (s.sealShown g).rdList (dkyKey R.DKY_NONCE) 8 = g.2 ∧
    ∀ i, i < 12 → (s.sealShown g).rd (dkyKey (R.DKY_DIGEST + 4 * i)) = (bytesWords 12 (s.sealDigest g.2)).getD i 0 % 2 ^ 32 := by
  have h12 := length_bytesWords 12 (s.sealDigest g.2)
  refine ⟨?_, ?_, fun i hi => ?_⟩
  · refine (State.rd_wrList_ne _ _ _ _ (.inl (by decide))).trans ((State.rd_wrList_ne _ _ _ _ (.inl (by decide))).trans ?_)
    exact (State.rd_wr _ _ _).trans (Nat.mod_eq_of_lt (s.bus.rd_lt _))
  · have hnonce := (g.1.wr (dkyKey R.DKY_SEAL_EPOCH) (s.rd (fltKey R.FLT_EPOCH))).rdList_wrList (dkyKey R.DKY_NONCE) _ hlt
    rw [hlen] at hnonce
    refine (State.rdList_congr fun i hi => State.rd_wrList_ne _ _ _ _ (.inr ?_)).trans hnonce
    rw [h12]
    simp only [dkyKey, rk, R.DKY_NONCE, R.DKY_DIGEST]
    omega
  · have hkey : dkyKey (R.DKY_DIGEST + 4 * i) = dkyKey R.DKY_DIGEST + 4 * i := by
      simp only [dkyKey, rk]
      omega
    rw [hkey]
    exact State.rd_wrList _ _ _ i (by rwa [h12])

/-- A proposal sealed (R374, Table 13-5). -/
theorem State.dkySealed_shows (hr : s.bus.Ranged) (h : s.dkyBoot = false ∨ s.dkyPresence = false) : s.dkySealed.dkyState = 3 ∧
    s.dkySealed.rd (dkyKey R.DKY_SEAL_EPOCH) = s.rd (fltKey R.FLT_EPOCH) ∧ s.dkySealed.dky.ops = s.dkyStaged ∧
    s.dkySealed.pend dkyPage 0 = true ∧ s.dkySealed.bus.timers.find? tWindow = some (s.bus.now + clkS 300) ∧
    (∀ i, i < 12 → s.dkySealed.rd (dkyKey (R.DKY_DIGEST + 4 * i)) =
      (bytesWords 12 (s.sealDigest (s.dkySealed.rdList (dkyKey R.DKY_NONCE) 8))).getD i 0 % 2 ^ 32) := by
  obtain ⟨hepoch, hnonce, hdigest⟩ := s.sealShown_shows (s.draw 8) (s.length_draw 8) (s.lt_of_mem_draw 8)
  have hnow : (s.sealShown (s.draw 8)).bus.now = s.bus.now := (s.held_sealShown _).now.trans (by rw [s.draw_fst]; rfl)
  have hset : (s.sealShown (s.draw 8)).bus.Ranged := (s.held_sealShown _).ranged (by rw [s.draw_fst]; exact hr)
  rw [s.dkySealed_waits h, State.sealGranted]
  generalize s.sealShown (s.draw 8) = t at *
  have hother : ∀ k, k ≠ dkyKey R.DKY_STATUS → (t.setDkyState 3).rd k = t.rd k := fun k hk => t.rd_setFld_ne _ _ _ _ _ hk
  have hstate := t.dkyState_setDkyState (st := 3) (by decide)
  have hranged : (t.setDkyState 3).bus.Ranged := t.ranged_setFld hset _ _ _ _
  have htimer := ((t.setDkyState 3).modDky (fun d => { d with ops := s.dkyStaged })).find_arm tWindow (clkS 300)
  have hat := t.now_sealed (fun d => { d with ops := s.dkyStaged }) 3
  generalize t.setDkyState 3 = u at *
  have hrd := u.rd_arm_sealed (fun d => { d with ops := s.dkyStaged }) tWindow (clkS 300)
  have hwait := u.ranged_sealed (fun d => { d with ops := s.dkyStaged }) tWindow (clkS 300) hranged
  have hdky := u.dky_sealed (fun d => { d with ops := s.dkyStaged }) tWindow (clkS 300)
  generalize (u.modDky (fun d => { d with ops := s.dkyStaged })).arm tWindow (clkS 300) = w at *
  have hread : ∀ off, off < 4096 → off ≠ hdrEvtPend → off ≠ R.DKY_STATUS → (w.dkyEvent 0).rd (dkyKey off) = t.rd (dkyKey off) :=
    fun off ho he hs => (w.rd_dkyEvent 0 (p := dkyPage) (by decide) he ho).trans ((hrd _).trans (hother _ (rk_ne_of_off hs ho)))
  have hlist : (w.dkyEvent 0).rdList (dkyKey R.DKY_NONCE) 8 = t.rdList (dkyKey R.DKY_NONCE) 8 := State.rdList_congr fun i hi => by
    have hkey : dkyKey R.DKY_NONCE + 4 * i = dkyKey (R.DKY_NONCE + 4 * i) := by
      simp only [dkyKey, rk]
      omega
    rw [hkey]
    exact hread _ (by simp only [R.DKY_NONCE]; omega) (by simp only [R.DKY_NONCE, hdrEvtPend]; omega)
      (by simp only [R.DKY_NONCE, R.DKY_STATUS]; omega)
  refine ⟨?_, ?_, ?_, State.pend_dkyEvent _ hwait (by decide), ?_, fun i hi => ?_⟩
  · exact (State.dkyState_dkyEvent _ 0).trans ((State.dkyState_of_rd (hrd _)).trans hstate)
  · exact (hread _ (by decide) (by decide) (by decide)).trans hepoch
  · rw [State.dky_dkyEvent, hdky]
  · rw [State.timers_dkyEvent, htimer, hat, hnow]
  · rw [hlist, hnonce]
    exact (hread _ (by simp only [R.DKY_DIGEST]; omega) (by simp only [R.DKY_DIGEST, hdrEvtPend]; omega)
      (by simp only [R.DKY_DIGEST, R.DKY_STATUS]; omega)).trans (hdigest i hi)

theorem exec_dkyWindowExpire_unsigned {s : State} {dt : Nat} (hdue : (s.tick dt).due tWindow = true) (h : s.dkyState = 3) (hsig : s.dky.sig = none) :
    exec (.dkyWindowExpire dt) s = .next ((((s.tick dt).disarm tWindow).dkyIdle 9).dkyEvent 4) := by
  have hstate : ((s.tick dt).disarm tWindow).dkyState = 3 := h
  have hno : ((s.tick dt).disarm tWindow).dky.sig = none := hsig
  refine congrArg Host.Outcome.next ((if_pos hdue).trans ((if_neg (not_not.mpr hstate)).trans ?_))
  rw [hno]
  rfl

end

/-! ### Signatures -/

section
variable {s : State}

theorem exec_dkySigVerified_none {dt : Nat} {check : Bool} (h : s.dky.sig = none) : exec (.dkySigVerified dt check) s = .next (s.tick dt) := by
  show execDkySigVerified dt check s = _
  unfold execDkySigVerified
  dsimp only
  rw [show (s.tick dt).dky.sig = none from h]

/-- The refusals of a signature, in the order of their trial (log 45). -/
theorem State.judgeSig_eq_zero (s : State) (p : Nat) (w : List Nat) (prop : Option Nat) (good : Bool) :
    s.judgeSig p w prop good = 0 ↔ s.dkyState = 3 ∧ prop = some s.dky.prop ∧ prinValid w = true ∧ good = true ∧
      (if p = s.dkyProposer then s.dky.psig else s.dky.csig) = none ∧
      ∀ q, (if p = s.dkyProposer then s.dky.csig else s.dky.psig) = some q → prinRole (s.bus.prinWords q) ≠ prinRole w := by
  unfold State.judgeSig
  generalize (if p = s.dkyProposer then s.dky.psig else s.dky.csig) = mine
  generalize (if p = s.dkyProposer then s.dky.csig else s.dky.psig) = other
  dsimp only
  by_cases hopen : s.dkyState ≠ 3 ∨ prop ≠ some s.dky.prop
  · rw [if_pos hopen]
    exact ⟨fun h => absurd h (by decide), fun h => hopen.elim (absurd h.1) (absurd h.2.1)⟩
  rw [if_neg hopen]
  obtain ⟨hstate, hprop⟩ := not_or.mp hopen
  cases hv : prinValid w with
  | false =>
    rw [if_pos (by decide)]
    exact ⟨fun h => absurd h (by decide), fun h => absurd h.2.2.1 Bool.false_ne_true⟩
  | true =>
    rw [if_neg (by decide)]
    cases good with
    | false =>
      rw [if_pos (by decide)]
      exact ⟨fun h => absurd h (by decide), fun h => absurd h.2.2.2.1 Bool.false_ne_true⟩
    | true =>
      rw [if_neg (by decide)]
      cases mine with
      | some m =>
        rw [if_pos Option.isSome_some]
        exact ⟨fun h => absurd h (by decide), fun h => absurd h.2.2.2.2.1 (Option.some_ne_none m)⟩
      | none =>
        rw [if_neg (by decide)]
        cases other with
        | none =>
          exact ⟨fun _ => ⟨not_not.mp hstate, not_not.mp hprop, rfl, rfl, rfl, fun q h => absurd h.symm (Option.some_ne_none q)⟩, fun _ => rfl⟩
        | some q =>
          dsimp only
          by_cases hq : prinRole (s.bus.prinWords q) = prinRole w
          · rw [if_pos hq]
            exact ⟨fun h => absurd h (by decide), fun h => absurd hq (h.2.2.2.2.2 q rfl)⟩
          · rw [if_neg hq]
            exact ⟨fun _ => ⟨not_not.mp hstate, not_not.mp hprop, rfl, rfl, rfl, fun _ h => Option.some.inj h ▸ hq⟩, fun _ => rfl⟩

/-- The result of a signature shown. -/
def State.sigShown (s : State) (result : Nat) : State := s.setFld (dkyKey R.DKY_SIG_STATUS) 1 3 result

def State.sigTakenOwn (s : State) (p : Nat) : State :=
  ((s.modDky (fun d => { d with psig := some p })).setBit (dkyKey R.DKY_STATUS) 6 true).setFld (dkyKey R.DKY_SIG_STATUS) 8 6 p

def State.sigTakenOther (s : State) (p : Nat) : State :=
  ((s.modDky (fun d => { d with csig := some p })).setBit (dkyKey R.DKY_STATUS) 7 true).setFld (dkyKey R.DKY_SIG_STATUS) 16 6 p

/-- Two signatures that hold apply the proposal. -/
def State.sigsHold (s : State) : State := if s.dky.psig.isSome && s.dky.csig.isSome then s.dkyApply else s

theorem State.takeSig_refused (p : Nat) {r : Nat} (h : 0 < r) : s.takeSig p r = (s.sigShown r).dkyEvent 7 := if_pos (Nat.pos_iff_ne_zero.mp h)

theorem State.takeSig_own {p : Nat} (h : p = s.dkyProposer) : s.takeSig p 0 = (((s.sigShown 0).sigTakenOwn p).dkyEvent 1).sigsHold := by
  unfold State.takeSig
  dsimp only
  rw [if_neg (not_not.mpr rfl), decide_eq_true h]
  rfl

theorem State.takeSig_other {p : Nat} (h : p ≠ s.dkyProposer) : s.takeSig p 0 = (((s.sigShown 0).sigTakenOther p).dkyEvent 1).sigsHold := by
  unfold State.takeSig
  dsimp only
  rw [if_neg (not_not.mpr rfl), decide_eq_false h]
  rfl

theorem State.dky_sigShown (r : Nat) : (s.sigShown r).dky = s.dky := s.setFld_dky _ _ _ _

theorem State.takeSig_refused_shows (hr : s.bus.Ranged) (p : Nat) {r : Nat} (h : 0 < r) (h8 : r < 8) :
    (s.takeSig p r).fld (dkyKey R.DKY_SIG_STATUS) 1 3 = r ∧ (s.takeSig p r).pend dkyPage 7 = true ∧ (s.takeSig p r).dky = s.dky ∧
    s.After (s.takeSig p r) [dkyKey R.DKY_SIG_STATUS, pendKey dkyPage] := by
  have hset : (s.sigShown r).bus.Ranged := s.ranged_setFld hr _ _ _ _
  have hafter : s.After (s.sigShown r) [dkyKey R.DKY_SIG_STATUS, pendKey dkyPage] := (State.After.refl s _).setFld _ _ _ _ (List.mem_cons_self ..)
  rw [State.takeSig_refused p h]
  refine ⟨?_, State.pend_dkyEvent _ hset (by decide), ?_, hafter.trans (((s.sigShown r).after_dkyEvent hset 7).mono fun k hk => List.mem_cons_of_mem _ hk)⟩
  · exact (State.fld_of_rd ((s.sigShown r).rd_dkyEvent 7) 1 3).trans
      ((s.fld_setFld (dkyKey R.DKY_SIG_STATUS) 1 3 r (by decide)).trans (Nat.mod_eq_of_lt h8))
  · rw [State.dky_dkyEvent, State.dky_sigShown]

/-! What an accepted signature leaves of the state, and what it shows. -/

theorem State.dky_sigTakenOwn (s : State) (p : Nat) : (s.sigTakenOwn p).dky = { s.dky with psig := some p } := by
  rw [State.sigTakenOwn, State.setFld_dky, State.setBit_dky, State.dky_modDky]

theorem State.dky_sigTakenOther (s : State) (p : Nat) : (s.sigTakenOther p).dky = { s.dky with csig := some p } := by
  rw [State.sigTakenOther, State.setFld_dky, State.setBit_dky, State.dky_modDky]

theorem State.expiring_sigsHold (s : State) : s.sigsHold.dky.expiring = s.dky.expiring := by
  unfold State.sigsHold
  split
  · rw [State.dky_dkyApply]
  · rfl

theorem State.expiring_takeSig (s : State) (p r : Nat) : (s.takeSig p r).dky.expiring = s.dky.expiring := by
  rcases Nat.eq_zero_or_pos r with rfl | h
  · by_cases hp : p = s.dkyProposer
    · rw [State.takeSig_own hp, State.expiring_sigsHold, State.dky_dkyEvent, State.dky_sigTakenOwn, State.dky_sigShown]
    · rw [State.takeSig_other hp, State.expiring_sigsHold, State.dky_dkyEvent, State.dky_sigTakenOther, State.dky_sigShown]
  · rw [State.takeSig_refused p h, State.dky_dkyEvent, State.dky_sigShown]

theorem State.dky_modDky_setBit (s : State) (f : Dky → Dky) (k i : Nat) (v : Bool) : ((s.modDky f).setBit k i v).dky = f s.dky := rfl

/-- The verifier is free again. -/
def State.sigFree (s : State) : State := (s.modDky (fun d => { d with sig := none })).setBit (dkyKey R.DKY_SIG_STATUS) 0 false

/-- A window that ended during the verification ends now. -/
def State.windowKept (s : State) : State :=
  if s.dky.expiring && decide (s.dkyState = 3) then (s.modDky (fun d => { d with expiring := false })).dkyExpire else s

theorem State.windowKept_open (h : s.dky.expiring = false) : s.windowKept = s := if_neg (by rw [h, Bool.false_and]; decide)

theorem exec_dkySigVerified_some {dt : Nat} {g : DkySig} (h : s.dky.sig = some g) : exec (.dkySigVerified dt true) s =
    .next ((s.tick dt).sigFree.takeSig g.prin ((s.tick dt).sigFree.judgeSig g.prin g.words g.prop ((s.tick dt).sigFree.sigGood g))).windowKept := by
  show execDkySigVerified dt true s = _
  unfold execDkySigVerified
  dsimp only
  rw [show (s.tick dt).dky.sig = some g from h]
  rfl

theorem exec_dkySigVerified_judges {dt : Nat} {g : DkySig} {s2 : State} (h : s.dky.sig = some g) (he : s.dky.expiring = false)
    (h2 : s2 = (s.tick dt).sigFree) :
    exec (.dkySigVerified dt true) s = .next (s2.takeSig g.prin (s2.judgeSig g.prin g.words g.prop (s2.sigGood g))) := by
  have hfree : s2.dky.expiring = false := by
    rw [h2]
    exact (congrArg Dky.expiring ((s.tick dt).dky_modDky_setBit _ _ _ _)).trans he
  rw [exec_dkySigVerified_some h, ← h2, State.windowKept_open ((s2.expiring_takeSig _ _).trans hfree)]

/-- What the proposer's own signature shows. -/
theorem State.sigTakenOwn_shows (s : State) {p : Nat} (h : p < 64) : ((s.sigShown 0).sigTakenOwn p).bit (dkyKey R.DKY_STATUS) 6 = true ∧
    ((s.sigShown 0).sigTakenOwn p).fld (dkyKey R.DKY_SIG_STATUS) 8 6 = p ∧ ((s.sigShown 0).sigTakenOwn p).dkyState = s.dkyState := by
  have hne : dkyKey R.DKY_STATUS ≠ dkyKey R.DKY_SIG_STATUS := by decide
  have hshown : (s.sigShown 0).dkyState = s.dkyState := State.dkyState_of_rd (s.rd_setFld_ne _ _ _ _ _ hne)
  unfold State.sigTakenOwn
  generalize s.sigShown 0 = t at *
  have hrd := t.rd_modDky (fun d => { d with psig := some p })
  generalize t.modDky (fun d => { d with psig := some p }) = u at *
  have hstatus := (u.setBit (dkyKey R.DKY_STATUS) 6 true).rd_setFld_ne (dkyKey R.DKY_SIG_STATUS) 8 6 p (dkyKey R.DKY_STATUS) hne
  refine ⟨?_, ?_, ?_⟩
  · exact (State.bit_of_rd hstatus 6).trans (u.bit_setBit (dkyKey R.DKY_STATUS) 6 true (by decide))
  · exact (State.fld_setFld _ (dkyKey R.DKY_SIG_STATUS) 8 6 p (by decide)).trans (Nat.mod_eq_of_lt h)
  · exact (State.dkyState_of_rd hstatus).trans ((u.fld_setBit_of_disjoint (dkyKey R.DKY_STATUS) 6 true 0 3 (by decide) (by decide)).trans
      ((State.dkyState_of_rd (hrd _)).trans hshown))

/-- What a second principal's signature shows. -/
theorem State.sigTakenOther_shows (s : State) {p : Nat} (h : p < 64) : ((s.sigShown 0).sigTakenOther p).bit (dkyKey R.DKY_STATUS) 7 = true ∧
    ((s.sigShown 0).sigTakenOther p).fld (dkyKey R.DKY_SIG_STATUS) 16 6 = p := by
  have hne : dkyKey R.DKY_STATUS ≠ dkyKey R.DKY_SIG_STATUS := by decide
  unfold State.sigTakenOther
  generalize (s.sigShown 0).modDky (fun d => { d with csig := some p }) = u
  refine ⟨?_, ?_⟩
  · exact (State.bit_of_rd (State.rd_setFld_ne _ _ _ _ _ _ hne) 7).trans (u.bit_setBit (dkyKey R.DKY_STATUS) 7 true (by decide))
  · exact (State.fld_setFld _ (dkyKey R.DKY_SIG_STATUS) 16 6 p (by decide)).trans (Nat.mod_eq_of_lt h)

theorem State.ranged_sigTakenOwn (s : State) (p : Nat) (hr : s.bus.Ranged) : ((s.sigShown 0).sigTakenOwn p).bus.Ranged := by
  have h := (s.sigShown 0).bus_modDky (fun d => { d with psig := some p })
  have hset : (s.sigShown 0).bus.Ranged := s.ranged_setFld hr _ _ _ _
  rw [← h] at hset
  exact State.ranged_setFld _ (State.ranged_setBit _ hset _ _ _) _ _ _ _

theorem State.ranged_sigTakenOther (s : State) (p : Nat) (hr : s.bus.Ranged) : ((s.sigShown 0).sigTakenOther p).bus.Ranged := by
  have h := (s.sigShown 0).bus_modDky (fun d => { d with csig := some p })
  have hset : (s.sigShown 0).bus.Ranged := s.ranged_setFld hr _ _ _ _
  rw [← h] at hset
  exact State.ranged_setFld _ (State.ranged_setBit _ hset _ _ _) _ _ _ _

/-- The proposer's own signature, the first (R377). -/
theorem State.takeSig_own_shows (hr : s.bus.Ranged) {p : Nat} (h : p < 64) (hp : p = s.dkyProposer) (hc : s.dky.csig = none) :
    (s.takeSig p 0).dky = { s.dky with psig := some p } ∧ (s.takeSig p 0).bit (dkyKey R.DKY_STATUS) 6 = true ∧
    (s.takeSig p 0).fld (dkyKey R.DKY_SIG_STATUS) 8 6 = p ∧ (s.takeSig p 0).pend dkyPage 1 = true ∧ (s.takeSig p 0).dkyState = s.dkyState := by
  obtain ⟨h6, hprin, hstate⟩ := s.sigTakenOwn_shows h
  have hdky : ((s.sigShown 0).sigTakenOwn p).dky = { s.dky with psig := some p } := by rw [State.dky_sigTakenOwn, State.dky_sigShown]
  have hset := s.ranged_sigTakenOwn p hr
  rw [State.takeSig_own hp]
  generalize (s.sigShown 0).sigTakenOwn p = t at *
  have hone : ¬((t.dkyEvent 1).dky.psig.isSome && (t.dkyEvent 1).dky.csig.isSome) = true := by
    rw [State.dky_dkyEvent, hdky]
    dsimp only
    rw [hc, Option.isSome_none, Bool.and_false]
    decide
  rw [State.sigsHold, if_neg hone]
  exact ⟨(t.dky_dkyEvent 1).trans hdky, (t.dkyEvent_bit 1 6).trans h6, (State.fld_of_rd (t.rd_dkyEvent 1) 8 6).trans hprin,
    t.pend_dkyEvent hset (by decide), (t.dkyState_dkyEvent 1).trans hstate⟩

/-- A second principal's signature, the proposer's own being held (R377). -/
theorem State.takeSig_other_shows (hr : s.bus.Ranged) {p : Nat} (h : p < 64) (hp : p ≠ s.dkyProposer) (hc : s.dky.psig ≠ none) :
    ∃ u : State, s.takeSig p 0 = u.dkyApply ∧ u.dky = { s.dky with csig := some p } ∧ u.bit (dkyKey R.DKY_STATUS) 7 = true ∧
      u.fld (dkyKey R.DKY_SIG_STATUS) 16 6 = p ∧ u.pend dkyPage 1 = true := by
  obtain ⟨h7, hprin⟩ := s.sigTakenOther_shows h
  have hdky : ((s.sigShown 0).sigTakenOther p).dky = { s.dky with csig := some p } := by rw [State.dky_sigTakenOther, State.dky_sigShown]
  have hset := s.ranged_sigTakenOther p hr
  rw [State.takeSig_other hp]
  generalize (s.sigShown 0).sigTakenOther p = t at *
  have hboth : ((t.dkyEvent 1).dky.psig.isSome && (t.dkyEvent 1).dky.csig.isSome) = true := by
    rw [State.dky_dkyEvent, hdky]
    dsimp only
    rw [Option.isSome_iff_ne_none.mpr hc, Option.isSome_some]
    rfl
  exact ⟨_, if_pos hboth, (t.dky_dkyEvent 1).trans hdky, (t.dkyEvent_bit 1 7).trans h7, (State.fld_of_rd (t.rd_dkyEvent 1) 16 6).trans hprin,
    t.pend_dkyEvent hset (by decide)⟩

/-! ### Presence -/

/-- Presence shown and told. -/
def State.presenceTold (s : State) : State := ((s.setBit (dkyKey R.DKY_STATUS) 3 true).dkyEvent 5).arm tPresence (clkS 300)

theorem State.showPresence_eq (s : State) : s.showPresence =
    if s.presenceTold.dkyState = 3 ∧ s.presenceTold.dkyBoot then s.presenceTold.dkyApply else s.presenceTold := rfl

theorem State.rd_presenceTold (s : State) {p off : Nat} (hp : p < 0x80 := by decide) (hne : off ≠ hdrEvtPend := by decide)
    (ho : off < 4096 := by decide) : s.presenceTold.rd (rk p off) = (s.setBit (dkyKey R.DKY_STATUS) 3 true).rd (rk p off) :=
  (State.rd_arm _ _ _ _).trans (State.rd_dkyEvent _ 5 hp hne ho)

theorem State.rd_presenceTold_ne (s : State) {p off : Nat} (h : rk p off ≠ dkyKey R.DKY_STATUS) (hp : p < 0x80 := by decide)
    (hne : off ≠ hdrEvtPend := by decide) (ho : off < 4096 := by decide) : s.presenceTold.rd (rk p off) = s.rd (rk p off) :=
  (s.rd_presenceTold hp hne ho).trans (s.rd_setBit_ne _ _ _ _ h)

theorem State.dkyState_presenceTold (s : State) : s.presenceTold.dkyState = s.dkyState :=
  (State.dkyState_of_rd s.rd_presenceTold).trans (s.fld_setBit_of_disjoint (dkyKey R.DKY_STATUS) 3 true 0 3 (by decide) (by decide))

theorem State.dkyBoot_presenceTold (s : State) : s.presenceTold.dkyBoot = s.dkyBoot :=
  State.bit_of_rd (s.rd_presenceTold_ne (p := dkyPage) (off := R.DKY_STAGE_HDR) (by decide)) 8

theorem State.pend_arm (s : State) (t clks page bit : Nat) : (s.arm t clks).pend page bit = s.pend page bit := rfl

theorem State.showPresence_waits (hr : s.bus.Ranged) (h : s.dkyState ≠ 3 ∨ s.dkyBoot = false) : s.showPresence.dkyPresence = true ∧
    s.showPresence.pend dkyPage 5 = true ∧ s.showPresence.bus.timers.find? tPresence = some (s.bus.now + clkS 300) ∧
    s.showPresence.dkyState = s.dkyState := by
  have hno : ¬(s.presenceTold.dkyState = 3 ∧ s.presenceTold.dkyBoot = true) := by
    rw [s.dkyState_presenceTold, s.dkyBoot_presenceTold]
    exact fun hc => h.elim (absurd hc.1) fun hb => absurd (hb.symm.trans hc.2) (by decide)
  have hset : (s.setBit (dkyKey R.DKY_STATUS) 3 true).bus.Ranged := s.ranged_setBit hr _ _ _
  rw [s.showPresence_eq, if_neg hno]
  refine ⟨?_, ?_, ?_, s.dkyState_presenceTold⟩
  · exact (State.bit_of_rd s.rd_presenceTold 3).trans (s.bit_setBit (dkyKey R.DKY_STATUS) 3 true (by decide))
  · exact (State.pend_arm _ _ _ _ _).trans (State.pend_dkyEvent _ hset (by decide))
  · have hnow : ((s.setBit (dkyKey R.DKY_STATUS) 3 true).dkyEvent 5).bus.now = s.bus.now :=
      ((s.setBit (dkyKey R.DKY_STATUS) 3 true).bus.held_raiseAt dkyPage dkyPage 5 0 [(s.setBit (dkyKey R.DKY_STATUS) 3 true).dkyHolder] none).now.trans
        (s.now_setBit _ _ _)
    rw [State.presenceTold, State.find_arm, hnow]

theorem State.showPresence_applies (h : s.dkyState = 3) (hb : s.dkyBoot = true)
    (he : s.rd (fltKey R.FLT_EPOCH) = s.rd (dkyKey R.DKY_SEAL_EPOCH)) : s.showPresence.dkyState = 4 ∧ s.showPresence.epochs.asked = true := by
  have hgo : s.presenceTold.dkyState = 3 ∧ s.presenceTold.dkyBoot = true := by
    rw [s.dkyState_presenceTold, s.dkyBoot_presenceTold]
    exact ⟨h, hb⟩
  have hepoch : s.presenceTold.rd (fltKey R.FLT_EPOCH) = s.presenceTold.rd (dkyKey R.DKY_SEAL_EPOCH) :=
    (s.rd_presenceTold_ne (p := fltPage) (off := R.FLT_EPOCH) (by decide)).trans
      (he.trans (s.rd_presenceTold_ne (p := dkyPage) (off := R.DKY_SEAL_EPOCH) (by decide)).symm)
  obtain ⟨hstate, hasked, -, -⟩ := s.presenceTold.dkyApply_goes_shows hepoch
  rw [s.showPresence_eq, if_pos hgo]
  exact ⟨hstate, hasked⟩

theorem State.disarm_disarm (s : State) (t : Nat) : (s.disarm t).disarm t = s.disarm t := by
  have hfilter : (s.bus.timers.erase t).erase t = s.bus.timers.erase t := by
    unfold SMap.erase
    rw [List.filter_filter]
    simp only [Bool.and_self]
  show s.on (fun b => { b with timers := (s.bus.timers.erase t).erase t }) = s.on (fun b => { b with timers := s.bus.timers.erase t })
  rw [hfilter]

/-- The window of a proposal ends (R376). -/
theorem State.dkyExpired_shows (s : State) (hr : s.bus.Ranged) :
    (((s.disarm tWindow).dkyIdle 9).dkyEvent 4).dkyState = 0 ∧ (((s.disarm tWindow).dkyIdle 9).dkyEvent 4).fld (dkyKey R.DKY_STATUS) 20 4 = 9 ∧
    (((s.disarm tWindow).dkyIdle 9).dkyEvent 4).pend dkyPage 4 = true ∧
    (s.disarm tWindow).After (((s.disarm tWindow).dkyIdle 9).dkyEvent 4) [dkyKey R.DKY_STATUS, pendKey dkyPage] := by
  have h := State.dkyEnds_shows (s := s.disarm tWindow) (State.ranged_disarm hr _) (r := 9) (i := 4) (by decide) (by decide)
  rwa [s.disarm_disarm] at h

end

/-- Settles O47: the ends of a proposal by `State.dkyIdle`, a seal by what it publishes, a signature by `State.judgeSig_eq_zero` and by what it
leaves of the state. -/
theorem proposalsAreSealedSignedAndApplied : Obligations.ProposalsAreSealedSignedAndApplied := by
  unfold Obligations.ProposalsAreSealedSignedAndApplied
  refine ⟨fun dt vi s hvi hup h => ⟨_, exec_dkyOpen_goes hup h, (s.tick dt).dkyOpened_shows vi hvi⟩, fun dt vi s hup h => exec_dkyOpen_busy hup h,
    fun dt vi s hup h hvi => ⟨_, exec_dkySeal_holder hup h hvi, (s.tick dt).dkyState_setDkyState (by decide),
      (s.tick dt).after_setDkyState 2 (List.mem_singleton_self _)⟩,
    fun dt vi s hup h => exec_dkySeal_other hup h, fun dt vi s hup h hvi => ⟨_, exec_dkyAbort_holder hup h hvi, ?_⟩,
    fun dt vi s hup h => exec_dkyAbort_other hup h,
    fun dt r s hr h hcheck hpos h8 => ⟨_, exec_dkySealComplete_refused h hcheck hpos, ?_⟩,
    fun dt s hr h hb hcheck => ⟨_, exec_dkySealComplete_granted h hcheck, ?_⟩,
    fun dt s hr hdue h hsig => ⟨_, exec_dkyWindowExpire_unsigned hdue h hsig, (s.tick dt).dkyExpired_shows hr⟩,
    fun s hr h => ?_, fun s h => s.dkyApply_goes_shows h, fun dt vi v p s hup hv hidle hp h he => ?_,
    fun dt vi v s hup hv h => exec_dkySigSubmit_busy hup hv h, fun dt vi v s hup hv => exec_dkySigSubmit_not hup hv,
    fun dt s s2 g h he h2 => exec_dkySigVerified_judges h he h2, fun dt check s h => exec_dkySigVerified_none h,
    fun s p w prop good => s.judgeSig_eq_zero p w prop good, fun s p r hr h h8 => State.takeSig_refused_shows hr p h h8,
    fun s p hr h hp hc => State.takeSig_own_shows hr h hp hc, fun s p hr h hp hc => State.takeSig_other_shows hr h hp hc,
    fun dt low s => rfl, fun s hr h => State.showPresence_waits hr h, fun s h hb he _ => State.showPresence_applies h hb he,
    fun dt s hdue => ⟨_, congrArg Host.Outcome.next (if_pos hdue), ?_⟩⟩
  · obtain ⟨hstate, hresult⟩ := (s.tick dt).dkyIdle_shows (result := 10) (by decide)
    exact ⟨hstate, hresult, (s.tick dt).window_dkyIdle 10, (s.tick dt).after_dkyIdle 10 (List.mem_singleton_self _)⟩
  · exact State.dkyEnds_shows (s := s.tick dt) hr (by omega) (by decide)
  · exact (s.tick dt).dkySealed_shows hr hb
  · obtain ⟨hstate, hresult, hpend, -⟩ := State.dkyEnds_shows hr (r := 8) (i := 3) (by decide) (by decide)
    rw [s.dkyApply_stale h]
    exact ⟨hstate, hresult, hpend, (State.epochs_dkyEvent _ _).trans (s.epochs_dkyIdle 8)⟩
  · refine ⟨_, exec_dkySigSubmit_goes hup hv hidle, State.bit_setBit _ (dkyKey R.DKY_SIG_STATUS) 0 true (by decide), ?_,
      fun k hk => State.rd_setBit_ne _ _ _ _ _ hk⟩
    have hprop : (if s.dkyState = 3 ∧ (!s.dky.expiring) = true then some s.dky.prop else none) = some s.dky.prop :=
      if_pos ⟨h, by rw [he]; rfl⟩
    rw [← hp, ← hprop]
    rfl
  · exact ⟨State.bit_setBit _ (dkyKey R.DKY_STATUS) 3 false (by decide), (State.After.refl _ _).setBit _ _ _ (List.mem_singleton_self _)⟩

end Sys2Proof.Machine
end

section
-- One theorem after another: each waiting thread takes 256 MB of the memory the check allows.
set_option Elab.async false
/-! SUPPORT. Key tokens and reader ports (R387 to R394, Tables 13-8 to 13-10). The statement on them, settled. -/

namespace Sys2Proof.Machine

/-! ### Keys of a port -/

section
variable {n m : Nat} {off off' : Nat}

theorem tokKey_ne_off (n m : Nat) (h : off ≠ off' := by decide) (ho : off < 4096 := by decide) (ho' : off' < 4096 := by decide) :
    tokKey n off ≠ tokKey m off' := rk_ne_of_off h ho ho'

theorem tokKey_ne_lds (n : Nat) {ch : Nat} (hc : ch < 32) (ho : off < 4096) (ho' : off' < 4096 := by decide) : tokKey n off ≠ ldsKey ch off' := by
  simp only [tokKey, tokPage, ldsKey, ldsPage, rk, Block.pg, Block.base]
  omega

theorem rk_ne_tokKey {p : Nat} (hp : p < 0x3C00) (ho : off < 4096) (n : Nat) : rk p off ≠ tokKey n off' := by
  simp only [tokKey, tokPage, rk, Block.pg, Block.base]
  omega

theorem rkSel_ne_tokKey {p : Nat} (sel : Nat) (n : Nat) (hn : n < 8) (ho' : off' < 4096 := by decide) : rkSel p off sel ≠ tokKey n off' :=
  rkSel_ne_rk_page (by simp only [tokPage, Block.pg, Block.base]; omega) ho'

end

theorem dkyKey_ne_tokKey (n : Nat) {i off : Nat} (hi : i < 4) : dkyKey R.DKY_TOKKEY + 4 * i ≠ tokKey n off := by
  have h : dkyKey R.DKY_TOKKEY < 0x3000 := by decide
  simp only [tokKey, tokPage, rk, Block.pg, Block.base]
  omega

/-! ### The exchange of a port -/

section
variable (s : State) (n : Nat)

theorem State.tok_modTok (f : Tok → Tok) : (s.modTok n f).tok n = f (s.tok n) := SMap.find_put _ _ _ _
theorem State.tokState_modTok (f : Tok → Tok) : (s.modTok n f).tokState n = s.tokState n := rfl
theorem State.tok_arm (i clks : Nat) : (s.arm i clks).tok n = s.tok n := rfl
theorem State.tok_emit (o : Out) : (s.emit o).tok n = s.tok n := rfl
theorem State.tim_modTok (f : Tok → Tok) : (s.modTok n f).tim = s.tim := rfl
theorem State.rd_modTok (f : Tok → Tok) (k : Nat) : (s.modTok n f).rd k = s.rd k := rfl
theorem State.bus_modTok (f : Tok → Tok) : (s.modTok n f).bus = s.bus := rfl

theorem State.tokState_of_rd {s t : State} {n : Nat} (h : t.rd (tokKey n R.TOK_STATUS) = s.rd (tokKey n R.TOK_STATUS)) :
    t.tokState n = s.tokState n := State.fld_of_rd h 0 3

/-- The registers of a state of a port. -/
def State.tokShown (s : State) (n st : Nat) : State :=
  (s.setFld (tokKey n R.TOK_STATUS) 0 3 st).setBit (tokKey n R.TOK_UID_HI) 31 (decide (st = 2 ∨ st = 3))

/-- A port in a state with no exchange in progress. -/
def State.tokEntered (s : State) (n st : Nat) : State :=
  ((((s.tokShown n st).modTok n (fun t => { t with awaits := 0 })).disarm (tReply n)).disarm (tPing n)).disarm (tPingRetry n)

theorem State.tokEnter_eq (st : Nat) : s.tokEnter n st = (s.tokEntered n st).ifThen (decide (st = 0 ∨ st = 4 ∨ st = 5)) (·.relayOff n) := rfl

theorem State.tokEnter_stays {st : Nat} (h : st = 1 ∨ st = 2 ∨ st = 3) : s.tokEnter n st = s.tokEntered n st := by
  rw [s.tokEnter_eq]
  exact if_neg (by rw [decide_eq_true_eq]; omega)

theorem State.tokEnter_ends {st : Nat} (h : st = 0 ∨ st = 4 ∨ st = 5) : s.tokEnter n st = (s.tokEntered n st).relayOff n := by
  rw [s.tokEnter_eq]
  exact if_pos (decide_eq_true h)

theorem State.rd_disarms (t : State) (a b c k : Nat) (f : Tok → Tok) : ((((t.modTok n f).disarm a).disarm b).disarm c).rd k = t.rd k := rfl
theorem State.tok_disarms (t : State) (a b c : Nat) : (((t.disarm a).disarm b).disarm c).tok n = t.tok n := rfl
theorem State.out_disarms (t : State) (a b c : Nat) (f : Tok → Tok) : ((((t.modTok n f).disarm a).disarm b).disarm c).bus.out = t.bus.out := rfl
theorem State.out_shown (a b c d k i : Nat) (v : Bool) : ((s.setFld a b c d).setBit k i v).bus.out = s.bus.out := rfl
theorem State.tok_shown (a b c d k i : Nat) (v : Bool) : ((s.setFld a b c d).setBit k i v).tok n = s.tok n := rfl
theorem State.now_disarms (t : State) (a b c : Nat) (f : Tok → Tok) : ((((t.modTok n f).disarm a).disarm b).disarm c).bus.now = t.bus.now := rfl
theorem State.now_shown (a b c d k i : Nat) (v : Bool) : ((s.setFld a b c d).setBit k i v).bus.now = s.bus.now := rfl

theorem State.rd_tokEntered (st k : Nat) : (s.tokEntered n st).rd k = (s.tokShown n st).rd k := State.rd_disarms n _ _ _ _ _ _

theorem State.rd_tokEntered_ne (st : Nat) {k : Nat} (h1 : k ≠ tokKey n R.TOK_STATUS) (h2 : k ≠ tokKey n R.TOK_UID_HI) :
    (s.tokEntered n st).rd k = s.rd k :=
  (s.rd_tokEntered n st k).trans ((State.rd_setBit_ne _ _ _ _ _ h2).trans (s.rd_setFld_ne _ _ _ _ _ h1))

theorem State.rd_status_tokEntered (st : Nat) : (s.tokEntered n st).rd (tokKey n R.TOK_STATUS) =
    (s.setFld (tokKey n R.TOK_STATUS) 0 3 st).rd (tokKey n R.TOK_STATUS) :=
  (s.rd_tokEntered n st _).trans (State.rd_setBit_ne _ _ _ _ _ (tokKey_ne_off n n))

theorem State.tokState_tokEntered {st : Nat} (h : st < 8) : (s.tokEntered n st).tokState n = st :=
  (State.fld_of_rd (s.rd_status_tokEntered n st) 0 3).trans
    ((s.fld_setFld (tokKey n R.TOK_STATUS) 0 3 st (by decide)).trans (Nat.mod_eq_of_lt h))

theorem State.bit_tokEntered (st : Nat) {i : Nat} (h : 3 ≤ i) : (s.tokEntered n st).bit (tokKey n R.TOK_STATUS) i = s.bit (tokKey n R.TOK_STATUS) i :=
  (State.bit_of_rd (s.rd_status_tokEntered n st) i).trans (s.bit_setFld_of_disjoint (tokKey n R.TOK_STATUS) 0 3 st i (by decide) (.inr h))

theorem State.tok_tokEntered (st : Nat) : (s.tokEntered n st).tok n = { s.tok n with awaits := 0 } := by
  rw [State.tokEntered, State.tok_disarms, State.tok_modTok, State.tokShown, State.tok_shown]

theorem State.out_tokEntered (st : Nat) : (s.tokEntered n st).bus.out = s.bus.out := by
  rw [State.tokEntered, State.out_disarms, State.tokShown, State.out_shown]

theorem State.now_tokEntered (st : Nat) : (s.tokEntered n st).bus.now = s.bus.now := by
  rw [State.tokEntered, State.now_disarms, State.tokShown, State.now_shown]

theorem State.ranged_tokEntered (st : Nat) (hr : s.bus.Ranged) : (s.tokEntered n st).bus.Ranged := by
  have hset : (s.tokShown n st).bus.Ranged := State.ranged_setBit _ (s.ranged_setFld hr _ _ _ _) _ _ _
  rw [← (s.tokShown n st).bus_modTok n (fun t => { t with awaits := 0 })] at hset
  exact State.ranged_disarm (State.ranged_disarm (State.ranged_disarm hset _) _) _

/-! A frame to the token, and its reply. -/

theorem State.tokSend_shows (awaits : Nat) (bytes : List Nat) : (s.tokSend n awaits bytes).tok n = { s.tok n with awaits := awaits } ∧
    (s.tokSend n awaits bytes).bus.out = .tokFrame n bytes :: s.bus.out ∧
    (s.tokSend n awaits bytes).bus.timers.find? (tReply n) = some (s.bus.now + clkMs 10) ∧
    (s.tokSend n awaits bytes).tokState n = s.tokState n := by
  refine ⟨?_, rfl, State.find_arm _ _ _, rfl⟩
  rw [State.tokSend, State.tok_arm, State.tok_modTok, State.tok_emit]

theorem State.tokReply_awaited {s : State} {n awaits : Nat} (f : State → State) (h : s.tokState n = 2) (ha : (s.tok n).awaits = awaits) :
    s.tokReply n awaits f = f (s.disarm (tReply n)) := if_pos ⟨h, ha⟩

end

section
variable {s : State} {dt n : Nat} {bytes : List Nat}

/-- The key of a record's session (R388). -/
def Tok.sessionKey (t : Tok) : List Nat := aesEncrypt t.k (t.ra.take 4 ++ t.rb.take 4 ++ t.ra.drop 4 ++ t.rb.drop 4)

/-- The second frame of an authentication. -/
def State.auth2 (s : State) (n : Nat) (rb : List Nat) : State :=
  (s.modTok n (fun t => { t with rb := rb })).tokSend n 2 (0xA2 :: aesEncrypt (s.tok n).k (rb ++ (s.tok n).ra))

/-- The request for the record. -/
def State.readAsked (s : State) (n : Nat) : State := (s.modTok n (fun t => { t with ks := (s.tok n).sessionKey })).tokSend n 3 [0xB0]

theorem exec_tokAuth1Reply_accepted (h : s.tokState n = 2) (ha : (s.tok n).awaits = 1) (hl : bytes.length = 17) (hb : bytes.headD 0 = 0xA1)
    (hra : (aesDecrypt (s.tok n).k (bytes.drop 1)).take 8 = (s.tok n).ra) : exec (.tokAuth1Reply dt n bytes) s =
      .next (((s.tick dt).disarm (tReply n)).auth2 n ((aesDecrypt (s.tok n).k (bytes.drop 1)).drop 8)) :=
  congrArg Host.Outcome.next ((State.tokReply_awaited (s := s.tick dt) _ h ha).trans (if_pos ⟨hl, hb, hra⟩))

theorem exec_tokAuth1Reply_refused (h : s.tokState n = 2) (ha : (s.tok n).awaits = 1)
    (hno : bytes.length ≠ 17 ∨ (aesDecrypt (s.tok n).k (bytes.drop 1)).take 8 ≠ (s.tok n).ra) :
    exec (.tokAuth1Reply dt n bytes) s = .next (((s.tick dt).disarm (tReply n)).tokFail n) :=
  congrArg Host.Outcome.next ((State.tokReply_awaited (s := s.tick dt) _ h ha).trans
    (if_neg fun hc => hno.elim (absurd hc.1) (absurd hc.2.2)))

theorem exec_tokAuth2Reply_accepted (h : s.tokState n = 2) (ha : (s.tok n).awaits = 2) :
    exec (.tokAuth2Reply dt n [0xA2, 0x00]) s = .next (((s.tick dt).disarm (tReply n)).readAsked n) :=
  congrArg Host.Outcome.next ((State.tokReply_awaited (s := s.tick dt) _ h ha).trans (if_pos rfl))

theorem exec_tokAuth2Reply_refused (h : s.tokState n = 2) (ha : (s.tok n).awaits = 2) (hno : bytes ≠ [0xA2, 0x00]) :
    exec (.tokAuth2Reply dt n bytes) s = .next (((s.tick dt).disarm (tReply n)).tokFail n) :=
  congrArg Host.Outcome.next ((State.tokReply_awaited (s := s.tick dt) _ h ha).trans (if_neg hno))

theorem exec_tokReadReply_accepted {c : List Nat} (h : s.tokState n = 2) (ha : (s.tok n).awaits = 3) (hc : c.length = 16)
    (hm : (mac8 (s.tok n).ks c).length = 8) : exec (.tokReadReply dt n (0xB0 :: c ++ mac8 (s.tok n).ks c)) s =
      .next (((s.tick dt).disarm (tReply n)).tokSucceed n (aesDecrypt (s.tok n).ks c)) := by
  have htake : ((0xB0 :: c ++ mac8 (s.tok n).ks c).drop 1).take 16 = c := List.take_left' hc
  have hdrop : (0xB0 :: c ++ mac8 (s.tok n).ks c).drop 17 = mac8 (s.tok n).ks c := List.drop_left' (l₁ := 0xB0 :: c) (by rw [List.length_cons, hc])
  have hlen : (0xB0 :: c ++ mac8 (s.tok n).ks c).length = 25 := by rw [List.length_append, List.length_cons, hc, hm]
  refine congrArg Host.Outcome.next ((State.tokReply_awaited (s := s.tick dt) _ h ha).trans ?_)
  dsimp only
  rw [htake]
  exact if_pos ⟨hlen, rfl, hdrop⟩

theorem exec_tokReadReply_refused (h : s.tokState n = 2) (ha : (s.tok n).awaits = 3)
    (hno : bytes.drop 17 ≠ mac8 (s.tok n).ks ((bytes.drop 1).take 16)) :
    exec (.tokReadReply dt n bytes) s = .next (((s.tick dt).disarm (tReply n)).tokFail n) :=
  congrArg Host.Outcome.next ((State.tokReply_awaited (s := s.tick dt) _ h ha).trans (if_neg fun hc => hno hc.2.2))

theorem exec_tokReplyTimeout_uncounted (hdue : (s.tick dt).due (tReply n) = true) (h : s.tokState n = 2) (ha : (s.tok n).awaits = 1) :
    exec (.tokReplyTimeout dt n) s = .next (((s.tick dt).disarm (tReply n)).tokEntered n 1) := by
  have hstate : ¬((s.tick dt).disarm (tReply n)).tokState n ≠ 2 := not_not.mpr h
  rw [← State.tokEnter_stays _ n (.inl rfl)]
  exact congrArg Host.Outcome.next ((if_pos hdue).trans ((if_neg hstate).trans (if_pos ha)))

theorem exec_tokReplyTimeout_fails (hdue : (s.tick dt).due (tReply n) = true) (h : s.tokState n = 2) (ha : (s.tok n).awaits ≠ 1) :
    exec (.tokReplyTimeout dt n) s = .next (((s.tick dt).disarm (tReply n)).tokFail n) := by
  have hstate : ¬((s.tick dt).disarm (tReply n)).tokState n ≠ 2 := not_not.mpr h
  exact congrArg Host.Outcome.next ((if_pos hdue).trans ((if_neg hstate).trans (if_neg ha)))

/-- What AUTH2 shows. -/
theorem State.auth2_shows (s : State) (n : Nat) (rb : List Nat) : (s.auth2 n rb).tok n = { s.tok n with rb := rb, awaits := 2 } ∧
    (s.auth2 n rb).bus.out = .tokFrame n (0xA2 :: aesEncrypt (s.tok n).k (rb ++ (s.tok n).ra)) :: s.bus.out ∧
    (s.auth2 n rb).bus.timers.find? (tReply n) = some (s.bus.now + clkMs 10) ∧ (s.auth2 n rb).tokState n = s.tokState n := by
  unfold State.auth2
  generalize aesEncrypt (s.tok n).k (rb ++ (s.tok n).ra) = frame
  obtain ⟨htok, hout, htimer, hstate⟩ := (s.modTok n (fun t => { t with rb := rb })).tokSend_shows n 2 (0xA2 :: frame)
  rw [htok, hout, htimer, hstate, State.tok_modTok, State.bus_modTok, State.tokState_modTok]
  exact ⟨rfl, rfl, rfl, rfl⟩

theorem State.readAsked_shows (s : State) (n : Nat) : (s.readAsked n).tok n = { s.tok n with ks := (s.tok n).sessionKey, awaits := 3 } ∧
    (s.readAsked n).bus.out = .tokFrame n [0xB0] :: s.bus.out ∧ (s.readAsked n).tokState n = s.tokState n := by
  unfold State.readAsked
  generalize (s.tok n).sessionKey = key
  obtain ⟨htok, hout, -, hstate⟩ := (s.modTok n (fun t => { t with ks := key })).tokSend_shows n 3 [0xB0]
  rw [htok, hout, hstate, State.tok_modTok, State.bus_modTok, State.tokState_modTok]
  exact ⟨rfl, rfl, rfl⟩

end

/-! ### A selection -/

theorem length_octets (n v : Nat) : (octets n v).length = n := by
  induction n generalizing v with
  | zero => rfl
  | succ n ih => rw [octets, List.length_append, ih, List.length_singleton]

theorem length_flatMap_octets (k : Nat) (l : List Nat) : (l.flatMap (octets k)).length = k * l.length := by
  induction l with
  | nil => rfl
  | cons v l ih => rw [List.flatMap_cons, List.length_append, length_octets, ih, List.length_cons, Nat.mul_succ, Nat.add_comm]

section
variable (s : State) (n : Nat)

theorem State.drawRa_length : s.drawRa.2.length = 8 := by
  show ((s.draw 2).2.flatMap (octets 4)).length = 8
  rw [length_flatMap_octets, s.length_draw]

theorem State.drawRa_fst : s.drawRa.1 = s.on (fun b => { b with free := b.free + 2 }) := s.draw_fst 2

/-- The UID of a selected token shown. -/
def State.uidShown (s : State) (n : Nat) (uid : List Nat) : State :=
  (s.wr (tokKey n R.TOK_UID_LO) (natOf uid % 2 ^ 32)).wr (tokKey n R.TOK_UID_HI) (natOf uid / 2 ^ 32 % 2 ^ 24)

/-- A token answers a selection. -/
def State.tokAnswers (s : State) (n : Nat) : State := s.modTok n (fun t => { t with answered := s.bus.now })

/-- The first frame of an authentication. -/
def auth1Sent (n : Nat) (uid : List Nat) (g : State × List Nat) : State :=
  (((g.1.uidShown n uid).tokEnter n 2).modTok n (fun t => { t with uid := uid, ra := g.2, k := (g.1.uidShown n uid).tokenKey uid })).tokSend n 1
    ([0xA1, 0x01] ++ g.2)

/-- A selection at another port, or with WAKE_N released, shows no presence. -/
theorem State.presence_skipped (s : State) {n : Nat} (h : n ≠ 0 ∨ s.dky.wakeHeld = false) :
    s.ifThen (decide (n = 0) && s.dky.wakeHeld && decide (s.tokState 0 ≠ 4)) State.showPresence = s := by
  refine if_neg ?_
  rcases h with h | h
  · rw [decide_eq_false h, Bool.false_and, Bool.false_and]
    decide
  · rw [h, Bool.and_false, Bool.false_and]
    decide

variable {s n} in
theorem exec_tokSelect_goes {dt : Nat} {uid : List Nat} (hup : s.bus.pageUp (tokPage n) = true) (hp : n ≠ 0 ∨ s.dky.wakeHeld = false)
    (h : s.tokState n = 1) (hl : uid.length = 7) (hrng : s.rngReady = true) :
    exec (.tokSelect dt n uid) s = .next (auth1Sent n uid ((s.tick dt).tokAnswers n).drawRa) := by
  have hshow := (s.tick dt).presence_skipped (n := n) hp
  have hgo : ¬(uid.length ≠ 7 ∨ (!((s.tick dt).tokAnswers n).rngReady) = true) :=
    not_or.mpr ⟨not_not.mpr hl, by rw [show ((s.tick dt).tokAnswers n).rngReady = true from hrng]; decide⟩
  refine congrArg Host.Outcome.next ((if_neg (by rw [show (s.tick dt).bus.pageUp (tokPage n) = true from hup]; decide)).trans ?_)
  rw [hshow]
  exact (if_neg (not_not.mpr h)).trans (if_neg hgo)

variable {s n} in
theorem exec_tokSelect_short {dt : Nat} {uid : List Nat} (hup : s.bus.pageUp (tokPage n) = true) (hp : n ≠ 0 ∨ s.dky.wakeHeld = false)
    (h : s.tokState n = 1) (hl : uid.length ≠ 7) : exec (.tokSelect dt n uid) s = .next ((s.tick dt).tokAnswers n) := by
  have hshow := (s.tick dt).presence_skipped (n := n) hp
  refine congrArg Host.Outcome.next ((if_neg (by rw [show (s.tick dt).bus.pageUp (tokPage n) = true from hup]; decide)).trans ?_)
  rw [hshow]
  exact (if_neg (not_not.mpr h)).trans (if_pos (.inl hl))

theorem State.tokenKey_of_rd {s t : State} (h : ∀ i, i < 4 → t.rd (dkyKey R.DKY_TOKKEY + 4 * i) = s.rd (dkyKey R.DKY_TOKKEY + 4 * i)) (uid : List Nat) :
    t.tokenKey uid = s.tokenKey uid := by
  unfold State.tokenKey State.siteKey
  rw [State.rdList_congr h]

theorem State.rd_uidShown_ne (uid : List Nat) {k : Nat} (h : k ≠ tokKey n R.TOK_UID_LO) (h' : k ≠ tokKey n R.TOK_UID_HI) :
    (s.uidShown n uid).rd k = s.rd k := (State.rd_wr_ne _ _ _ _ h').trans (s.rd_wr_ne _ _ _ h)

theorem State.tok_uidShown (uid : List Nat) : (s.uidShown n uid).tok n = s.tok n := rfl
theorem State.out_uidShown (uid : List Nat) : (s.uidShown n uid).bus.out = s.bus.out := rfl
theorem State.now_uidShown (uid : List Nat) : (s.uidShown n uid).bus.now = s.bus.now := rfl

theorem State.tokenKey_uidShown (uid : List Nat) : (s.uidShown n uid).tokenKey uid = s.tokenKey uid :=
  State.tokenKey_of_rd (fun _ hi => s.rd_uidShown_ne n uid (dkyKey_ne_tokKey n hi)
    (dkyKey_ne_tokKey n hi)) uid

theorem State.tokAnswers_shows : (s.tokAnswers n).tok n = { s.tok n with answered := s.bus.now } ∧ (∀ k, (s.tokAnswers n).rd k = s.rd k) ∧
    (s.tokAnswers n).bus = s.bus := ⟨s.tok_modTok n _, fun _ => rfl, rfl⟩

/-- What a draw of words leaves of the state. -/
theorem State.moved_shows (f : Nat → Nat) : (s.on (fun b => { b with free := f b.free })).bus.now = s.bus.now ∧
    (s.on (fun b => { b with free := f b.free })).tim = s.tim ∧ (s.on (fun b => { b with free := f b.free })).bus.wall = s.bus.wall ∧
    (s.bus.Ranged → (s.on (fun b => { b with free := f b.free })).bus.Ranged) ∧
    ∀ k, (s.on (fun b => { b with free := f b.free })).rd k = s.rd k := ⟨rfl, rfl, rfl, fun hr => hr, fun _ => rfl⟩

theorem State.moved_leaves (f : Nat → Nat) : (s.on (fun b => { b with free := f b.free })).bus.out = s.bus.out ∧
    (s.on (fun b => { b with free := f b.free })).tok n = s.tok n := ⟨rfl, rfl⟩

/-- The first frame of an authentication: the challenge, and the token's key (R388). -/
theorem auth1Sent_shows (uid : List Nat) (g : State × List Nat) : (auth1Sent n uid g).tokState n = 2 ∧
    (auth1Sent n uid g).tok n = { g.1.tok n with uid := uid, ra := g.2, k := g.1.tokenKey uid, awaits := 1 } ∧
    (auth1Sent n uid g).bus.out = .tokFrame n ([0xA1, 0x01] ++ g.2) :: g.1.bus.out ∧
    (auth1Sent n uid g).bus.timers.find? (tReply n) = some (g.1.bus.now + clkMs 10) := by
  have hkey := g.1.tokenKey_uidShown n uid
  unfold auth1Sent
  rw [hkey, State.tokEnter_stays _ n (.inr (.inl rfl))]
  have hstate := (g.1.uidShown n uid).tokState_tokEntered n (st := 2) (by decide)
  have htok := (g.1.uidShown n uid).tok_tokEntered n 2
  have hout := (g.1.uidShown n uid).out_tokEntered n 2
  have hnow := (g.1.uidShown n uid).now_tokEntered n 2
  rw [State.tok_uidShown] at htok
  rw [State.out_uidShown] at hout
  rw [State.now_uidShown] at hnow
  generalize (g.1.uidShown n uid).tokEntered n 2 = t at *
  generalize g.1.tokenKey uid = key
  obtain ⟨htok', hout', htimer, hstate'⟩ := (t.modTok n (fun x => { x with uid := uid, ra := g.2, k := key })).tokSend_shows n 1 ([0xA1, 0x01] ++ g.2)
  rw [htok', hout', htimer, hstate', State.tok_modTok, State.bus_modTok, State.tokState_modTok, htok, hout, hnow]
  exact ⟨hstate, rfl, rfl, rfl⟩

end

/-! ### What the operations of a port leave of it -/

theorem State.fld_of_bits {s t : State} {k lo w : Nat} (h : ∀ i, i < w → t.bit k (lo + i) = s.bit k (lo + i)) : t.fld k lo w = s.fld k lo w :=
  fieldOf_congr lo w _ _ fun i hi => by
    rw [← bitOf_eq_testBit, ← bitOf_eq_testBit]
    exact h i hi

/-- A port stays as it is but for some bits of TOK_STATUS and for its relay's time. -/
structure State.TokKept (s t : State) (n : Nat) (bs : List Nat) : Prop where
  regs : ∀ off, off < 4096 → off ≠ R.TOK_STATUS → off ≠ hdrEvtPend → t.rd (tokKey n off) = s.rd (tokKey n off)
  bits : ∀ i, i ∉ bs → t.bit (tokKey n R.TOK_STATUS) i = s.bit (tokKey n R.TOK_STATUS) i
  pend : ∀ i, s.pend (tokPage n) i = true → t.pend (tokPage n) i = true
  timers : ∀ i, i ≠ tRelay n → t.bus.timers.find? i = s.bus.timers.find? i
  now : t.bus.now = s.bus.now
  ranged : s.bus.Ranged → t.bus.Ranged

namespace State.TokKept

variable {s t u : State} {n : Nat} {bs : List Nat}

theorem refl (s : State) (n : Nat) (bs : List Nat) : s.TokKept s n bs := ⟨fun _ _ _ _ => rfl, fun _ _ => rfl, fun _ h => h, fun _ _ => rfl, rfl, fun h => h⟩

theorem trans (h : s.TokKept t n bs) (h' : t.TokKept u n bs) : s.TokKept u n bs :=
  ⟨fun off ho h1 h2 => (h'.regs off ho h1 h2).trans (h.regs off ho h1 h2), fun i hi => (h'.bits i hi).trans (h.bits i hi),
    fun i hi => h'.pend i (h.pend i hi), fun i hi => (h'.timers i hi).trans (h.timers i hi), h'.now.trans h.now, fun hr => h'.ranged (h.ranged hr)⟩

theorem mono {cs : List Nat} (h : s.TokKept t n bs) (hs : ∀ i ∈ bs, i ∈ cs) : s.TokKept t n cs :=
  ⟨h.regs, fun i hi => h.bits i fun hm => hi (hs i hm), h.pend, h.timers, h.now, h.ranged⟩

theorem ite {c : Prop} [Decidable c] (ht : s.TokKept t n bs) (hu : s.TokKept u n bs) : s.TokKept (if c then t else u) n bs := by
  split
  · exact ht
  · exact hu

/-- STATE stays where none of its bits is among those that change. -/
theorem tokState (h : s.TokKept t n bs) (hbs : ∀ i, i < 3 → i ∉ bs) : t.tokState n = s.tokState n :=
  State.fld_of_bits fun i hi => by
    rw [Nat.zero_add]
    exact h.bits i (hbs i hi)

theorem tokValid (h : s.TokKept t n bs) (h4 : 4 ∉ bs) (h5 : 5 ∉ bs) : t.tokValid n = s.tokValid n := by
  unfold State.tokValid
  rw [h.bits 4 h4, h.bits 5 h5]

theorem fld (h : s.TokKept t n bs) {off : Nat} (lo w : Nat) (ho : off < 4096 := by decide) (h1 : off ≠ R.TOK_STATUS := by decide)
    (h2 : off ≠ hdrEvtPend := by decide) : t.fld (tokKey n off) lo w = s.fld (tokKey n off) lo w := State.fld_of_rd (h.regs off ho h1 h2) lo w

theorem setStatus (h : s.TokKept t n bs) {i : Nat} (v : Bool) (hi : i ∈ bs) (h32 : i < 32) : s.TokKept (t.setBit (tokKey n R.TOK_STATUS) i v) n bs :=
  h.trans ⟨fun _ ho h1 _ => t.rd_setBit_ne _ _ _ _ (rk_ne_of_off h1 ho),
    fun j hj => t.bit_setBit_ne (tokKey n R.TOK_STATUS) i v j h32 fun he => hj (he ▸ hi),
    fun _ hp => (State.bit_of_rd (t.rd_setBit_ne _ _ _ _ pendKey_ne) _).trans hp, fun _ _ => rfl, rfl, fun hr => t.ranged_setBit hr _ _ _⟩

theorem disarmRelay (h : s.TokKept t n bs) : s.TokKept (t.disarm (tRelay n)) n bs :=
  h.trans ⟨fun _ _ _ _ => t.rd_disarm _ _, fun _ _ => rfl, fun _ hp => hp, fun _ hi => SMap.find?_erase_ne _ _ _ hi, rfl, fun hr => State.ranged_disarm hr _⟩

theorem armRelay (h : s.TokKept t n bs) (clks : Nat) : s.TokKept (t.arm (tRelay n) clks) n bs :=
  h.trans ⟨fun _ _ _ _ => t.rd_arm _ _ _, fun _ _ => rfl, fun _ hp => hp, fun _ hi => SMap.find?_set_ne _ _ _ _ hi, rfl, fun hr => hr⟩

theorem raise (h : s.TokKept t n bs) (hr : s.bus.Ranged) (hn : n < 8) (i : Nat) (hi : i < 32) : s.TokKept (t.raise (tokPage n) i) n bs := by
  have hp := plainPage_tok hn
  have ht := h.ranged hr
  have hheld := t.held_raise (tokPage n) i
  exact h.trans ⟨fun off ho _ h2 => hp.rd_raise hp ht i h2 ho, fun j _ => State.bit_of_rd (hp.rd_raise hp ht i (off := R.TOK_STATUS)) j,
    fun _ hj => hp.pend_raise_of_pend ht i hi hj, fun j _ => congrArg (SMap.find? · j) hheld.timers, hheld.now, fun hr' => hp.ranged_raise hr' i⟩

end State.TokKept

section
variable {s : State} {n : Nat}

theorem State.bus_ldsRefresh (s : State) (ch : Nat) : (s.ldsRefresh ch).bus =
    ((s.setBit (ldsKey ch R.LDS_STATUS) 5 (s.ldsDemand ch).1).setFld (ldsKey ch R.LDS_STATUS) 12 2 (s.ldsDemand ch).2).bus := by
  unfold State.ldsRefresh State.ifThen
  dsimp only
  split <;> rfl

theorem State.held_ldsRefresh (s : State) (ch : Nat) : s.bus.Held (s.ldsRefresh ch).bus := by
  rw [s.bus_ldsRefresh ch]
  exact ((Bus.Held.refl s.bus).setBit _ _ _).setFld _ _ _ _

theorem State.TokKept.refresh {t : State} {bs : List Nat} (h : s.TokKept t n bs) {ch : Nat} (hc : ch < 32) : s.TokKept (t.ldsRefresh ch) n bs := by
  have hheld := t.held_ldsRefresh ch
  have hrd : ∀ off, off < 4096 → (t.ldsRefresh ch).rd (tokKey n off) = t.rd (tokKey n off) := fun off ho =>
    t.rd_ldsRefresh_ne ch _ (tokKey_ne_lds n hc ho)
  exact h.trans ⟨fun off ho _ _ => hrd off ho, fun i _ => State.bit_of_rd (hrd _ (by decide)) i,
    fun i hi => (State.bit_of_rd (hrd hdrEvtPend (by decide)) i).trans hi, fun i _ => congrArg (SMap.find? · i) hheld.timers, hheld.now,
    fun hr => hheld.ranged hr⟩

theorem State.tokChannel_lt (s : State) (n : Nat) : s.tokChannel n < 32 := fieldOf_lt 2 5 _

/-- A relay demand as it changes, before it is told. -/
def State.relaySet (s : State) (n : Nat) (on : Bool) : State := (s.setBit (tokKey n R.TOK_STATUS) 3 on).ldsRefresh (s.tokChannel n)

theorem State.setRelay_same {on : Bool} (h : s.tokRelayOn n = on) : s.setRelay n on = s := if_pos h
theorem State.setRelay_changes {on : Bool} (h : s.tokRelayOn n ≠ on) : s.setRelay n on = (s.relaySet n on).raise (tokPage n) 5 := if_neg h

theorem State.tokKept_relaySet (s : State) (n : Nat) (on : Bool) : s.TokKept (s.relaySet n on) n [3] :=
  ((State.TokKept.refl s n [3]).setStatus on (List.mem_singleton_self 3) (by decide)).refresh (s.tokChannel_lt n)

theorem State.tokRelayOn_relaySet (s : State) (n : Nat) (on : Bool) : (s.relaySet n on).tokRelayOn n = on :=
  (State.bit_of_rd (State.rd_ldsRefresh_ne _ _ _ (tokKey_ne_lds n (s.tokChannel_lt n) (by decide))) 3).trans
    (s.bit_setBit (tokKey n R.TOK_STATUS) 3 on (by decide))

variable (hr : s.bus.Ranged) (hn : n < 8)
include hr hn

theorem State.tokKept_setRelay (on : Bool) : s.TokKept (s.setRelay n on) n [3] :=
  .ite (.refl s n [3]) ((s.tokKept_relaySet n on).raise hr hn 5 (by decide))

/-- A relay demand as it is set, EV303 where it changes (R392). -/
theorem State.setRelay_shows (on : Bool) : (s.setRelay n on).tokRelayOn n = on ∧ (s.tokRelayOn n = on → s.setRelay n on = s) ∧
    (s.tokRelayOn n ≠ on → (s.setRelay n on).pend (tokPage n) 5 = true) := by
  have hp := plainPage_tok hn
  have hset := (s.tokKept_relaySet n on).ranged hr
  refine ⟨?_, State.setRelay_same, fun h => ?_⟩
  · by_cases h : s.tokRelayOn n = on
    · rw [State.setRelay_same h]
      exact h
    · rw [State.setRelay_changes h]
      exact (State.bit_of_rd (hp.rd_raise hp hset 5 (off := R.TOK_STATUS)) 3).trans (s.tokRelayOn_relaySet n on)
  · rw [State.setRelay_changes h]
    exact hp.pend_raise hset 5 (by decide)

theorem State.relayOff_shows : s.TokKept (s.relayOff n) n [3] ∧ (s.relayOff n).tokRelayOn n = false := by
  have hkept := (State.TokKept.refl s n [3]).disarmRelay
  have hset := hkept.ranged hr
  exact ⟨hkept.trans (State.tokKept_setRelay hset hn false), (State.setRelay_shows hset hn false).1⟩

/-- A success releases a load's relay, for good or for its time (R392). -/
theorem State.tokRelease_load_shows (h : s.tokKind n = 1) : (s.tokRelease n).tokRelayOn n = true ∧
    (s.tokRelease n).bus.timers.find? (tRelay n) = if s.tokPulse n then some (s.bus.now + s.tokTime n) else none := by
  have hkept := State.tokKept_setRelay hr hn true
  have hon := (State.setRelay_shows hr hn true).1
  have htime : (s.setRelay n true).tokTime n = s.tokTime n := congrArg clkMs (hkept.fld 16 16)
  have hrel : s.tokRelease n = if s.tokPulse n then (s.setRelay n true).arm (tRelay n) ((s.setRelay n true).tokTime n)
      else (s.setRelay n true).disarm (tRelay n) := by
    rw [htime]
    unfold State.tokRelease
    rw [h]
    rfl
  rw [hrel, htime]
  generalize s.setRelay n true = t at *
  cases s.tokPulse n with
  | true =>
    rw [if_pos rfl, if_pos rfl, State.find_arm, hkept.now]
    exact ⟨hon, rfl⟩
  | false =>
    rw [if_neg Bool.false_ne_true, if_neg Bool.false_ne_true]
    exact ⟨hon, SMap.find?_erase _ _⟩

end

theorem State.tokRelease_coil {s : State} {n : Nat} (h : s.tokKind n = 2) (hw : s.bus.inWatch 25 = false) :
    s.tokRelease n = s.coiFire (s.tokChannel n) (s.fld (tokKey n R.TOK_RELAY) 8 6) false := by
  unfold State.tokRelease
  rw [h]
  exact if_neg (by rw [hw]; decide)

theorem tRelay_ne (n : Nat) : tPing n ≠ tRelay n ∧ tLockout n ≠ tRelay n := by
  simp only [tPing, tLockout, tRelay, timerId]
  omega

theorem State.now_setFld (s : State) (k lo w v : Nat) : (s.setFld k lo w v).bus.now = s.bus.now := rfl

theorem State.timers_addSat (s : State) (k n : Nat) : (s.addSat k n).bus.timers = s.bus.timers := rfl
theorem State.now_addSat (s : State) (k n : Nat) : (s.addSat k n).bus.now = s.bus.now := rfl
theorem State.ranged_addSat (s : State) (k n : Nat) (hr : s.bus.Ranged) : (s.addSat k n).bus.Ranged := hr

/-! ### A failure -/

section
variable {s : State} {n : Nat}

/-- A failure counted and told. -/
def State.failTold (s : State) (n f : Nat) : State :=
  ((s.setFld (tokKey n R.TOK_FAILS) 0 4 f).addSat (tokKey n R.TOK_CNT_FAIL) 1).raise (tokPage n) 1

/-- A port locked out for a time. -/
def State.lockedOut (s : State) (n clks : Nat) : State :=
  (((s.tokEnter n 4).arm (tLockout n) clks).addSat (tokKey n R.TOK_CNT_LOCKOUT) 1).raise (tokPage n) 2

theorem State.tokFail_eq (s : State) (n : Nat) : s.tokFail n =
    if satInc 4 (s.fld (tokKey n R.TOK_FAILS) 0 4) < s.fld (tokKey n R.TOK_CFG) 0 4 then (s.failTold n (satInc 4 (s.fld (tokKey n R.TOK_FAILS) 0 4))).tokEnter n 1
    else (s.failTold n (satInc 4 (s.fld (tokKey n R.TOK_FAILS) 0 4))).lockedOut n (clkS (60 * s.fld (tokKey n R.TOK_CFG) 4 6)) := rfl

theorem satInc_four (v : Nat) (h : v < 16) : satInc 4 v = min (v + 1) 15 := by
  unfold satInc
  split <;> omega

variable (hr : s.bus.Ranged) (hn : n < 8)
include hr hn

theorem State.failTold_shows {f : Nat} (hf : f < 16) : (s.failTold n f).fld (tokKey n R.TOK_FAILS) 0 4 = f ∧
    (s.failTold n f).rd (tokKey n R.TOK_CNT_FAIL) = min (s.rd (tokKey n R.TOK_CNT_FAIL) + 1) 0xFFFFFFFF ∧
    (s.failTold n f).pend (tokPage n) 1 = true ∧ (s.failTold n f).bus.Ranged ∧ (s.failTold n f).bus.now = s.bus.now := by
  have hp := plainPage_tok hn
  have hfld := (s.fld_setFld (tokKey n R.TOK_FAILS) 0 4 f (by decide)).trans (Nat.mod_eq_of_lt hf)
  have hset : (s.setFld (tokKey n R.TOK_FAILS) 0 4 f).bus.Ranged := s.ranged_setFld hr _ _ _ _
  have hcnt := s.rd_setFld_ne (tokKey n R.TOK_FAILS) 0 4 f (tokKey n R.TOK_CNT_FAIL) (tokKey_ne_off n n)
  have hnow := s.now_setFld (tokKey n R.TOK_FAILS) 0 4 f
  unfold State.failTold
  generalize s.setFld (tokKey n R.TOK_FAILS) 0 4 f = t at *
  have hsat : (t.addSat (tokKey n R.TOK_CNT_FAIL) 1).bus.Ranged := t.ranged_addSat _ _ hset
  refine ⟨?_, ?_, hp.pend_raise hsat 1 (by decide), hp.ranged_raise hsat 1, (hp.raise_now _ 1).trans ((t.now_addSat _ _).trans hnow)⟩
  · exact (State.fld_of_rd ((hp.rd_raise hp hsat 1 (off := R.TOK_FAILS)).trans (t.rd_addSat_ne _ _ _ (tokKey_ne_off n n))) 0 4).trans hfld
  · exact (hp.rd_raise hp hsat 1 (off := R.TOK_CNT_FAIL)).trans ((t.rd_addSat _ _).trans (by rw [hcnt]))

/-- A port locked out (R390). -/
theorem State.lockedOut_shows (clks : Nat) : (s.lockedOut n clks).tokState n = 4 ∧ (s.lockedOut n clks).pend (tokPage n) 2 = true ∧
    (s.lockedOut n clks).bus.timers.find? (tLockout n) = some (s.bus.now + clks) ∧
    (s.pend (tokPage n) 1 = true → (s.lockedOut n clks).pend (tokPage n) 1 = true) ∧
    (s.lockedOut n clks).fld (tokKey n R.TOK_FAILS) 0 4 = s.fld (tokKey n R.TOK_FAILS) 0 4 ∧
    (s.lockedOut n clks).rd (tokKey n R.TOK_CNT_FAIL) = s.rd (tokKey n R.TOK_CNT_FAIL) := by
  have hp := plainPage_tok hn
  have hstate := s.tokState_tokEntered n (st := 4) (by decide)
  have hentered := fun k => s.rd_tokEntered_ne n 4 (k := k)
  have hnow := s.now_tokEntered n 4
  have hset := s.ranged_tokEntered n 4 hr
  unfold State.lockedOut
  rw [s.tokEnter_ends n (.inr (.inl rfl))]
  generalize s.tokEntered n 4 = a at *
  obtain ⟨hkept, -⟩ := State.relayOff_shows hset hn
  generalize a.relayOff n = b at *
  have hb := hkept.ranged hset
  have hsat : ((b.arm (tLockout n) clks).addSat (tokKey n R.TOK_CNT_LOCKOUT) 1).bus.Ranged := State.ranged_addSat _ _ _ (State.ranged_arm hb _ _)
  have hrd : ∀ off, off < 4096 → off ≠ R.TOK_CNT_LOCKOUT → off ≠ hdrEvtPend →
      (((b.arm (tLockout n) clks).addSat (tokKey n R.TOK_CNT_LOCKOUT) 1).raise (tokPage n) 2).rd (tokKey n off) = b.rd (tokKey n off) :=
    fun off ho h1 h2 => (hp.rd_raise hp hsat 2 h2 ho).trans ((State.rd_addSat_ne _ _ _ _ (rk_ne_of_off h1 ho)).trans (b.rd_arm _ _ _))
  have hreg : ∀ off, off < 4096 → off ≠ R.TOK_CNT_LOCKOUT → off ≠ hdrEvtPend → off ≠ R.TOK_STATUS → off ≠ R.TOK_UID_HI →
      (((b.arm (tLockout n) clks).addSat (tokKey n R.TOK_CNT_LOCKOUT) 1).raise (tokPage n) 2).rd (tokKey n off) = s.rd (tokKey n off) :=
    fun off ho h1 h2 h3 h4 => (hrd off ho h1 h2).trans ((hkept.regs off ho h3 h2).trans (hentered _ (rk_ne_of_off h3 ho) (rk_ne_of_off h4 ho)))
  refine ⟨?_, hp.pend_raise hsat 2 (by decide), ?_, fun h => ?_, State.fld_of_rd (hreg _ (by decide) (by decide) (by decide) (by decide) (by decide)) 0 4,
    hreg _ (by decide) (by decide) (by decide) (by decide) (by decide)⟩
  · exact (State.tokState_of_rd (hrd _ (by decide) (by decide) (by decide))).trans ((hkept.tokState (by decide)).trans hstate)
  · rw [(State.held_raise _ (tokPage n) 2).timers, State.timers_addSat, State.find_arm, hkept.now, hnow]
  · have ha : a.pend (tokPage n) 1 = true := (State.bit_of_rd (hentered _ pendKey_ne pendKey_ne) 1).trans h
    refine hp.pend_raise_of_pend hsat 2 (by decide) ((State.bit_of_rd ?_ 1).trans (hkept.pend 1 ha))
    exact (State.rd_addSat_ne _ _ _ _ pendKey_ne).trans (b.rd_arm _ _ _)

/-- A failure is counted, and after so many the port is locked out (R389, R390). -/
theorem State.tokFail_shows {f : Nat} (hf : f = min (s.fld (tokKey n R.TOK_FAILS) 0 4 + 1) 15) :
    (s.tokFail n).fld (tokKey n R.TOK_FAILS) 0 4 = f ∧ (s.tokFail n).pend (tokPage n) 1 = true ∧
    (s.tokFail n).rd (tokKey n R.TOK_CNT_FAIL) = min (s.rd (tokKey n R.TOK_CNT_FAIL) + 1) 0xFFFFFFFF ∧
    (f < s.fld (tokKey n R.TOK_CFG) 0 4 → (s.tokFail n).tokState n = 1) ∧
    (s.fld (tokKey n R.TOK_CFG) 0 4 ≤ f → (s.tokFail n).tokState n = 4 ∧ (s.tokFail n).pend (tokPage n) 2 = true ∧
      (s.tokFail n).bus.timers.find? (tLockout n) = some (s.bus.now + clkS (60 * s.fld (tokKey n R.TOK_CFG) 4 6))) := by
  have hfails : s.fld (tokKey n R.TOK_FAILS) 0 4 < 2 ^ 4 := fieldOf_lt 0 4 _
  obtain ⟨hfld, hcnt, hpend, hset, hnow⟩ := State.failTold_shows hr hn (f := f) (by omega)
  rw [s.tokFail_eq, satInc_four _ hfails, ← hf]
  generalize s.failTold n f = t at *
  by_cases hlt : f < s.fld (tokKey n R.TOK_CFG) 0 4
  · have hrd := fun k => t.rd_tokEntered_ne n 1 (k := k)
    have hstate := t.tokState_tokEntered n (st := 1) (by decide)
    rw [if_pos hlt, t.tokEnter_stays n (.inl rfl)]
    exact ⟨(State.fld_of_rd (hrd _ (tokKey_ne_off n n) (tokKey_ne_off n n)) 0 4).trans hfld,
      (State.bit_of_rd (hrd _ pendKey_ne pendKey_ne) 1).trans hpend, (hrd _ (tokKey_ne_off n n) (tokKey_ne_off n n)).trans hcnt,
      fun _ => hstate, fun h => absurd hlt (Nat.not_lt.mpr h)⟩
  · obtain ⟨hstate, hlock, htimer, hfail, hkeptF, hkeptC⟩ := State.lockedOut_shows hset hn (clkS (60 * s.fld (tokKey n R.TOK_CFG) 4 6))
    rw [if_neg hlt]
    rw [hnow] at htimer
    exact ⟨hkeptF.trans hfld, hfail hpend, hkeptC.trans hcnt, fun h => absurd h hlt, fun _ => ⟨hstate, hlock, htimer⟩⟩

end

/-! ### A token judged -/

section
variable {s : State} {n : Nat}

theorem State.revoked_of_rd {s t : State} (h : ∀ i, t.rd (rkSel dkyPage R.DKY_REVOKE i) = s.rd (rkSel dkyPage R.DKY_REVOKE i)) (no : Nat) :
    t.revoked no = s.revoked no := by
  unfold State.revoked
  simp only [h]

/-- Whether a token has expired depends on the timebase alone. -/
theorem State.expired_of_tim {s t : State} (htim : t.tim = s.tim) (hwall : t.bus.wall = s.bus.wall)
    (hrd : ∀ off, off < 4096 → t.rd (timKey off) = s.rd (timKey off)) (w : Nat) : t.expired w = s.expired w := by
  have hstate : t.timState = s.timState := State.fld_of_rd (hrd _ (by decide)) 0 2
  have hteb : t.teb = s.teb := by
    unfold State.teb State.tebAt State.emeas250 Bus.w250
    rw [hstate, htim, hwall, hrd R.TIM_HOLD_STAB (by decide), hrd R.TIM_REF_UNC (by decide)]
  unfold State.expired Bus.w250
  rw [hteb, hwall]

/-- REVOKED and EXPIRED as they are set. -/
def State.judged (s : State) (n : Nat) : State :=
  (s.setBit (tokKey n R.TOK_STATUS) 4 (s.expired (s.tok n).notAfter)).setBit (tokKey n R.TOK_STATUS) 5 (s.revoked (s.fld (tokKey n R.TOK_HOLDER) 0 24))

theorem State.tokJudge_eq (s : State) (n : Nat) : s.tokJudge n =
    (s.judged n).ifThen (s.revoked (s.fld (tokKey n R.TOK_HOLDER) 0 24) && !s.bit (tokKey n R.TOK_STATUS) 5) (·.raise (tokPage n) 7) := rfl

theorem State.tokKept_judged (s : State) (n : Nat) : s.TokKept (s.judged n) n [4, 5] :=
  ((State.TokKept.refl s n [4, 5]).setStatus _ (by decide) (by decide)).setStatus _ (by decide) (by decide)

theorem State.judged_bits (s : State) (n : Nat) : (s.judged n).bit (tokKey n R.TOK_STATUS) 4 = s.expired (s.tok n).notAfter ∧
    (s.judged n).bit (tokKey n R.TOK_STATUS) 5 = s.revoked (s.fld (tokKey n R.TOK_HOLDER) 0 24) :=
  ⟨(State.bit_setBit_ne _ (tokKey n R.TOK_STATUS) 5 _ 4 (by decide) (by decide)).trans (s.bit_setBit (tokKey n R.TOK_STATUS) 4 _ (by decide)),
    State.bit_setBit _ (tokKey n R.TOK_STATUS) 5 _ (by decide)⟩

variable (hr : s.bus.Ranged) (hn : n < 8)
include hr hn

/-- A token judged by the tables and the time (R389). -/
theorem State.tokJudge_shows : s.TokKept (s.tokJudge n) n [4, 5] ∧ (s.tokJudge n).bit (tokKey n R.TOK_STATUS) 4 = s.expired (s.tok n).notAfter ∧
    (s.tokJudge n).bit (tokKey n R.TOK_STATUS) 5 = s.revoked (s.fld (tokKey n R.TOK_HOLDER) 0 24) := by
  have hkept := s.tokKept_judged n
  obtain ⟨h4, h5⟩ := s.judged_bits n
  rw [s.tokJudge_eq]
  generalize s.judged n = t at *
  have hp := plainPage_tok hn
  have hset := hkept.ranged hr
  have hbit : ∀ i, (t.raise (tokPage n) 7).bit (tokKey n R.TOK_STATUS) i = t.bit (tokKey n R.TOK_STATUS) i := fun i =>
    State.bit_of_rd (hp.rd_raise hp hset 7 (off := R.TOK_STATUS)) i
  cases (s.revoked (s.fld (tokKey n R.TOK_HOLDER) 0 24) && !s.bit (tokKey n R.TOK_STATUS) 5) with
  | false => exact ⟨hkept, h4, h5⟩
  | true => exact ⟨hkept.raise hr hn 7 (by decide), (hbit 4).trans h4, (hbit 5).trans h5⟩

end

/-! ### A success -/

section

theorem foldl_octets_lt (l : List Nat) (a : Nat) : l.foldl (fun a b => a * 256 + b % 256) a < (a + 1) * 256 ^ l.length := by
  induction l generalizing a with
  | nil => rw [List.foldl_nil, List.length_nil, pow_zero, Nat.mul_one]; exact Nat.lt_succ_self a
  | cons b l ih =>
    rw [List.foldl_cons, List.length_cons, pow_succ, Nat.mul_comm (256 ^ l.length), ← Nat.mul_assoc]
    refine (ih _).trans_le (Nat.mul_le_mul_right _ ?_)
    have := Nat.mod_lt b (show 0 < 256 by decide)
    omega

theorem natOf_take_lt (l : List Nat) (k : Nat) : natOf (l.take k) < 256 ^ k := by
  have h := foldl_octets_lt (l.take k) 0
  rw [Nat.zero_add, Nat.one_mul] at h
  exact h.trans_le (Nat.pow_le_pow_right (by decide) (List.length_take_le k l))

variable (s : State) (n : Nat) (r : List Nat)

/-- The record of a token stored. -/
def State.recordShown (s : State) (n : Nat) (r : List Nat) : State :=
  ((s.setFld (tokKey n R.TOK_FAILS) 0 4 0).wr (tokKey n R.TOK_HOLDER) (natOf (r.take 3) + (r.getD 3 0) % 16 * 2 ^ 24)).wr
    (tokKey n R.TOK_GROUPS) (natOf ((r.drop 4).take 2))

/-- A token that has answered, with the count of its PINGs. -/
def State.tokPresent (s : State) (n : Nat) (notAfter counter : Nat) : State :=
  (s.tokEntered n 3).modTok n (fun t => { t with notAfter := notAfter, counter := counter })

/-- A success counted. -/
def State.okCounted (s : State) (n : Nat) : State := (s.addWrap (tokKey n R.TOK_CNT_OK) 1).setBit (tokKey n R.TOK_STATUS) 5 false

/-- A success told, and the next PING due. -/
def State.okTold (s : State) (n : Nat) : State := ((s.raise (tokPage n) 0).raise (tokPage n) 3).arm (tPing n) (clkMs 250)

/-- A success, before the relay is released. -/
def succeeded (n : Nat) (r : List Nat) (g : State × List Nat) : State :=
  (((g.1.tokPresent n (natOf ((r.drop 6).take 6)) (g.2.headD 0)).okCounted n).tokJudge n).okTold n

theorem State.tokSucceed_eq : s.tokSucceed n r =
    (((succeeded n r ((s.recordShown n r).draw 1)).ifThen ((succeeded n r ((s.recordShown n r).draw 1)).tokReleases n) (·.tokRelease n)).tokSign n) := by
  unfold State.tokSucceed succeeded State.tokPresent State.okCounted State.okTold State.recordShown
  rw [← State.tokEnter_stays _ n (.inr (.inr rfl))]

theorem State.rd_recordShown_ne {k : Nat} (h1 : k ≠ tokKey n R.TOK_FAILS) (h2 : k ≠ tokKey n R.TOK_HOLDER) (h3 : k ≠ tokKey n R.TOK_GROUPS) :
    (s.recordShown n r).rd k = s.rd k :=
  (State.rd_wr_ne _ _ _ _ h3).trans ((State.rd_wr_ne _ _ _ _ h2).trans (s.rd_setFld_ne _ _ _ _ _ h1))

theorem State.recordShown_shows : (s.recordShown n r).fld (tokKey n R.TOK_FAILS) 0 4 = 0 ∧
    (s.recordShown n r).fld (tokKey n R.TOK_HOLDER) 0 24 = natOf (r.take 3) ∧
    (s.recordShown n r).fld (tokKey n R.TOK_HOLDER) 24 4 = r.getD 3 0 % 16 ∧
    (s.recordShown n r).rd (tokKey n R.TOK_GROUPS) = natOf ((r.drop 4).take 2) := by
  have h3 := natOf_take_lt r 3
  have h2 := natOf_take_lt (r.drop 4) 2
  have hholder : (s.recordShown n r).rd (tokKey n R.TOK_HOLDER) = natOf (r.take 3) + r.getD 3 0 % 16 * 2 ^ 24 :=
    (State.rd_wr_ne _ _ _ _ (tokKey_ne_off n n)).trans ((State.rd_wr _ _ _).trans (Nat.mod_eq_of_lt (by omega)))
  have hfails : (s.recordShown n r).rd (tokKey n R.TOK_FAILS) = (s.setFld (tokKey n R.TOK_FAILS) 0 4 0).rd (tokKey n R.TOK_FAILS) :=
    (State.rd_wr_ne _ _ _ _ (tokKey_ne_off n n)).trans (State.rd_wr_ne _ _ _ _ (tokKey_ne_off n n))
  refine ⟨(State.fld_of_rd hfails 0 4).trans (s.fld_setFld (tokKey n R.TOK_FAILS) 0 4 0 (by decide)), (congrArg (fieldOf 0 24) hholder).trans ?_,
    (congrArg (fieldOf 24 4) hholder).trans ?_, (State.rd_wr _ _ _).trans (Nat.mod_eq_of_lt (by omega))⟩
  · show (natOf (r.take 3) + r.getD 3 0 % 16 * 2 ^ 24) / 2 ^ 0 % 2 ^ 24 = _
    omega
  · show (natOf (r.take 3) + r.getD 3 0 % 16 * 2 ^ 24) / 2 ^ 24 % 2 ^ 4 = _
    omega

theorem State.ranged_recordShown (hr : s.bus.Ranged) : (s.recordShown n r).bus.Ranged := Bus.Ranged.wr (Bus.Ranged.wr (s.ranged_setFld hr _ _ _ _) _ _) _ _

theorem State.recordShown_rest : (s.recordShown n r).tim = s.tim ∧ (s.recordShown n r).bus.wall = s.bus.wall ∧
    (s.recordShown n r).bus.now = s.bus.now := by
  have hwr : ∀ (a : State) (k v : Nat), (a.wr k v).tim = a.tim ∧ (a.wr k v).bus.wall = a.bus.wall ∧ (a.wr k v).bus.now = a.bus.now :=
    fun _ _ _ => ⟨rfl, rfl, rfl⟩
  have hfld : ∀ (a : State) (k lo w v : Nat), (a.setFld k lo w v).tim = a.tim ∧ (a.setFld k lo w v).bus.wall = a.bus.wall ∧
      (a.setFld k lo w v).bus.now = a.bus.now := fun _ _ _ _ _ => ⟨rfl, rfl, rfl⟩
  unfold State.recordShown
  simp only [hwr, hfld, and_self]

theorem State.rest_tokEntered (st : Nat) : (s.tokEntered n st).tim = s.tim ∧ (s.tokEntered n st).bus.wall = s.bus.wall := by
  have hdisarm : ∀ (a : State) (i : Nat), (a.disarm i).tim = a.tim ∧ (a.disarm i).bus.wall = a.bus.wall := fun _ _ => ⟨rfl, rfl⟩
  have htok : ∀ (a : State) (f : Tok → Tok), (a.modTok n f).tim = a.tim ∧ (a.modTok n f).bus.wall = a.bus.wall := fun _ _ => ⟨rfl, rfl⟩
  have hset : ∀ (a : State) (k lo w v k' i : Nat) (b : Bool), ((a.setFld k lo w v).setBit k' i b).tim = a.tim ∧
      ((a.setFld k lo w v).setBit k' i b).bus.wall = a.bus.wall := fun _ _ _ _ _ _ _ _ => ⟨rfl, rfl⟩
  unfold State.tokEntered State.tokShown
  simp only [hdisarm, htok, hset, and_self]

theorem State.rd_tokPresent (notAfter counter k : Nat) : (s.tokPresent n notAfter counter).rd k = (s.tokEntered n 3).rd k := State.rd_modTok _ _ _ _

/-- What a token that has answered shows. -/
theorem State.tokPresent_shows (notAfter counter : Nat) : (s.tokPresent n notAfter counter).tokState n = 3 ∧
    ((s.tokPresent n notAfter counter).tok n).notAfter = notAfter ∧ (s.tokPresent n notAfter counter).bus.now = s.bus.now ∧
    (s.tokPresent n notAfter counter).tim = s.tim ∧ (s.tokPresent n notAfter counter).bus.wall = s.bus.wall ∧
    (s.bus.Ranged → (s.tokPresent n notAfter counter).bus.Ranged) ∧
    ∀ k, k ≠ tokKey n R.TOK_STATUS → k ≠ tokKey n R.TOK_UID_HI → (s.tokPresent n notAfter counter).rd k = s.rd k := by
  obtain ⟨htim, hwall⟩ := s.rest_tokEntered n 3
  have htok := (s.tokEntered n 3).tok_modTok n (fun t => { t with notAfter := notAfter, counter := counter })
  have hbus := (s.tokEntered n 3).bus_modTok n (fun t => { t with notAfter := notAfter, counter := counter })
  refine ⟨(State.tokState_of_rd (s.rd_tokPresent n _ _ _)).trans (s.tokState_tokEntered n (by decide)), congrArg Tok.notAfter htok,
    (congrArg Bus.now hbus).trans (s.now_tokEntered n 3), (State.tim_modTok _ n _).trans htim, (congrArg Bus.wall hbus).trans hwall, fun hr => ?_,
    fun k h1 h2 => (s.rd_tokPresent n _ _ k).trans (s.rd_tokEntered_ne n 3 h1 h2)⟩
  rw [State.tokPresent, hbus]
  exact s.ranged_tokEntered n 3 hr

theorem State.counted_rest (k i j : Nat) (b : Bool) : ((s.addWrap k 1).setBit i j b).tok n = s.tok n ∧
    ((s.addWrap k 1).setBit i j b).tim = s.tim ∧ ((s.addWrap k 1).setBit i j b).bus.wall = s.bus.wall ∧
    ((s.addWrap k 1).setBit i j b).bus.now = s.bus.now ∧ (s.bus.Ranged → ((s.addWrap k 1).setBit i j b).bus.Ranged) :=
  ⟨rfl, rfl, rfl, rfl, fun hr => hr⟩

theorem State.okCounted_rest : (s.okCounted n).tok n = s.tok n ∧ (s.okCounted n).tim = s.tim ∧ (s.okCounted n).bus.wall = s.bus.wall ∧
    (s.okCounted n).bus.now = s.bus.now ∧ (s.bus.Ranged → (s.okCounted n).bus.Ranged) := by
  unfold State.okCounted
  exact s.counted_rest n _ _ _ _

theorem State.okCounted_shows : (s.okCounted n).tokState n = s.tokState n ∧
    (s.okCounted n).rd (tokKey n R.TOK_CNT_OK) = (s.rd (tokKey n R.TOK_CNT_OK) + 1) % 2 ^ 32 ∧
    ∀ k, k ≠ tokKey n R.TOK_STATUS → k ≠ tokKey n R.TOK_CNT_OK → (s.okCounted n).rd k = s.rd k := by
  refine ⟨?_, ?_, fun k h1 h2 => (State.rd_setBit_ne _ _ _ _ _ h1).trans (s.rd_addWrap_ne _ _ _ h2)⟩
  · exact (State.fld_setBit_of_disjoint _ (tokKey n R.TOK_STATUS) 5 false 0 3 (by decide) (by decide)).trans
      (State.fld_of_rd (s.rd_addWrap_ne _ _ _ (tokKey_ne_off n n)) 0 3)
  · exact (State.rd_setBit_ne _ _ _ _ _ (tokKey_ne_off n n)).trans (s.rd_addWrap _ _)

theorem State.okTold_shows (hr : s.bus.Ranged) (hn : n < 8) : (s.okTold n).tokState n = s.tokState n ∧
    (∀ off, off < 4096 → off ≠ hdrEvtPend → (s.okTold n).rd (tokKey n off) = s.rd (tokKey n off)) ∧ (s.okTold n).pend (tokPage n) 0 = true ∧
    (s.okTold n).pend (tokPage n) 3 = true ∧ (s.okTold n).bus.timers.find? (tPing n) = some (s.bus.now + clkMs 250) := by
  have hp := plainPage_tok hn
  have h0 := hp.ranged_raise hr 0
  have hrd : ∀ off, off < 4096 → off ≠ hdrEvtPend → (s.okTold n).rd (tokKey n off) = s.rd (tokKey n off) := fun off ho hne =>
    (State.rd_arm _ _ _ _).trans ((hp.rd_raise hp h0 3 hne ho).trans (hp.rd_raise hp hr 0 hne ho))
  refine ⟨State.tokState_of_rd (hrd _ (by decide) (by decide)), hrd, ?_, ?_, ?_⟩
  · exact (State.pend_arm _ _ _ _ _).trans (hp.pend_raise_of_pend h0 3 (by decide) (hp.pend_raise hr 0 (by decide)))
  · exact (State.pend_arm _ _ _ _ _).trans (hp.pend_raise h0 3 (by decide))
  · rw [State.okTold, State.find_arm, hp.raise_now, hp.raise_now]

/-- What a success shows before the relay is released (R389). -/
theorem State.succeeded_shows (hr : s.bus.Ranged) (hn : n < 8) {u : State} (hu : u = succeeded n r ((s.recordShown n r).draw 1)) : u.tokState n = 3 ∧
    u.fld (tokKey n R.TOK_FAILS) 0 4 = 0 ∧ u.fld (tokKey n R.TOK_HOLDER) 0 24 = natOf (r.take 3) ∧
    u.fld (tokKey n R.TOK_HOLDER) 24 4 = r.getD 3 0 % 16 ∧ u.rd (tokKey n R.TOK_GROUPS) = natOf ((r.drop 4).take 2) ∧
    u.bit (tokKey n R.TOK_STATUS) 5 = s.revoked (natOf (r.take 3)) ∧ u.bit (tokKey n R.TOK_STATUS) 4 = s.expired (natOf ((r.drop 6).take 6)) ∧
    u.pend (tokPage n) 0 = true ∧ u.pend (tokPage n) 3 = true ∧ u.bus.timers.find? (tPing n) = some (s.bus.now + clkMs 250) ∧
    u.rd (tokKey n R.TOK_CNT_OK) = (s.rd (tokKey n R.TOK_CNT_OK) + 1) % 2 ^ 32 := by
  have hrecord := s.recordShown_shows n r
  have hrecordOther := fun k => s.rd_recordShown_ne n r (k := k)
  obtain ⟨htim, hwall, hnow⟩ := s.recordShown_rest n r
  have hset := s.ranged_recordShown n r hr
  rw [hu, succeeded, State.draw_fst]
  generalize ((s.recordShown n r).draw 1).2.headD 0 = counter
  generalize s.recordShown n r = a at *
  obtain ⟨hstate, hafter, hpnow, hptim, hpwall, hpset, hprd⟩ := (a.on (fun b => { b with free := b.free + 1 })).tokPresent_shows n
    (natOf ((r.drop 6).take 6)) counter
  obtain ⟨hdnow, hdtim, hdwall, hdset, hdrd⟩ := a.moved_shows (· + 1)
  have hpset := hpset (hdset hset)
  have hpnow' := (hpnow.trans hdnow).trans hnow
  have hptim' := (hptim.trans hdtim).trans htim
  have hpwall' := (hpwall.trans hdwall).trans hwall
  have hprd' := fun k h1 h2 => (hprd k h1 h2).trans (hdrd k)
  generalize (a.on (fun b => { b with free := b.free + 1 })).tokPresent n (natOf ((r.drop 6).take 6)) counter = p at *
  obtain ⟨hostate, hcnt, hord⟩ := p.okCounted_shows n
  obtain ⟨hotok, hotim, howall, honow, hoset⟩ := p.okCounted_rest n
  have hoset := hoset hpset
  generalize p.okCounted n = o at *
  have hother : ∀ k, k ≠ tokKey n R.TOK_STATUS → k ≠ tokKey n R.TOK_UID_HI → k ≠ tokKey n R.TOK_CNT_OK → o.rd k = a.rd k :=
    fun k h1 h2 h3 => (hord k h1 h3).trans (hprd' k h1 h2)
  have hfar : ∀ k, (∀ off, off < 4096 → k ≠ tokKey n off) → o.rd k = s.rd k := fun k h =>
    (hother k (h _ (by decide)) (h _ (by decide)) (h _ (by decide))).trans (hrecordOther k (h _ (by decide)) (h _ (by decide)) (h _ (by decide)))
  obtain ⟨hkept, h4, h5⟩ := State.tokJudge_shows hoset hn
  have hjset := hkept.ranged hoset
  generalize o.tokJudge n = j at *
  obtain ⟨hustate, hurd, hp0, hp3, hping⟩ := j.okTold_shows n hjset hn
  have hreg : ∀ off, off < 4096 → off ≠ hdrEvtPend → off ≠ R.TOK_STATUS → (j.okTold n).rd (tokKey n off) = o.rd (tokKey n off) :=
    fun off ho h1 h2 => (hurd off ho h1).trans (hkept.regs off ho h2 h1)
  have hshow : ∀ off, off < 4096 → off ≠ hdrEvtPend → off ≠ R.TOK_STATUS → off ≠ R.TOK_UID_HI → off ≠ R.TOK_CNT_OK →
      (j.okTold n).rd (tokKey n off) = a.rd (tokKey n off) := fun off ho h1 h2 h3 h4 =>
    (hreg off ho h1 h2).trans (hother _ (rk_ne_of_off h2 ho) (rk_ne_of_off h3 ho) (rk_ne_of_off h4 ho))
  obtain ⟨hfails, hno, hrole, hgroups⟩ := hrecord
  have hholder : o.fld (tokKey n R.TOK_HOLDER) 0 24 = natOf (r.take 3) :=
    (State.fld_of_rd (hother _ (tokKey_ne_off n n) (tokKey_ne_off n n) (tokKey_ne_off n n)) 0 24).trans hno
  refine ⟨hustate.trans ((hkept.tokState (by decide)).trans (hostate.trans hstate)),
    (State.fld_of_rd (hshow _ (by decide) (by decide) (by decide) (by decide) (by decide)) 0 4).trans hfails,
    (State.fld_of_rd (hshow _ (by decide) (by decide) (by decide) (by decide) (by decide)) 0 24).trans hno,
    (State.fld_of_rd (hshow _ (by decide) (by decide) (by decide) (by decide) (by decide)) 24 4).trans hrole,
    (hshow _ (by decide) (by decide) (by decide) (by decide) (by decide)).trans hgroups, ?_, ?_, hp0, hp3, ?_, ?_⟩
  · rw [State.bit_of_rd (hurd R.TOK_STATUS (by decide) (by decide)) 5, h5, hholder]
    exact State.revoked_of_rd (fun i => hfar _ fun off ho => rkSel_ne_tokKey i n hn ho) _
  · rw [State.bit_of_rd (hurd R.TOK_STATUS (by decide) (by decide)) 4, h4, hotok, hafter]
    exact State.expired_of_tim (hotim.trans hptim') (howall.trans hpwall')
      (fun off ho => hfar _ fun off' _ => rk_ne_tokKey (p := timPage) (by decide) ho n) _
  · rw [hping, hkept.now, honow, hpnow']
  · rw [hreg R.TOK_CNT_OK (by decide) (by decide) (by decide), hcnt, hprd' _ (tokKey_ne_off n n) (tokKey_ne_off n n),
      hrecordOther _ (tokKey_ne_off n n) (tokKey_ne_off n n) (tokKey_ne_off n n)]

end

/-! ### What the commands show -/

section
variable {s : State} {dt n : Nat}

/-- A token selected by its UID (R387, R388). -/
theorem exec_tokSelect_shows {uid : List Nat} (hup : s.bus.pageUp (tokPage n) = true) (hp : n ≠ 0 ∨ s.dky.wakeHeld = false)
    (h : s.tokState n = 1) (hl : uid.length = 7) (hrng : s.rngReady = true) : ∃ t, exec (.tokSelect dt n uid) s = .next t ∧ t.tokState n = 2 ∧
      (t.tok n).uid = uid ∧ (t.tok n).awaits = 1 ∧ (t.tok n).k = s.tokenKey uid ∧ (t.tok n).ra.length = 8 ∧
      t.bus.out = .tokFrame n ([0xA1, 0x01] ++ (t.tok n).ra) :: s.bus.out ∧
      t.bus.timers.find? (tReply n) = some (s.bus.now + dt + clkMs 10) ∧ (t.tok n).answered = s.bus.now + dt := by
  obtain ⟨htok, hrd, hbus⟩ := (s.tick dt).tokAnswers_shows n
  have hgo := exec_tokSelect_goes (dt := dt) hup hp h hl hrng
  generalize (s.tick dt).tokAnswers n = a at *
  obtain ⟨hnow, -, -, -, hmrd⟩ := a.moved_shows (· + 2)
  obtain ⟨hout, hmtok⟩ := a.moved_leaves n (· + 2)
  obtain ⟨hstate, hauth, hframe, htimer⟩ := auth1Sent_shows n uid a.drawRa
  rw [a.drawRa_fst] at hauth hframe htimer
  have hkey : (a.on (fun b => { b with free := b.free + 2 })).tokenKey uid = s.tokenKey uid :=
    State.tokenKey_of_rd (fun i _ => (hmrd _).trans (hrd _)) uid
  rw [hout, hbus] at hframe
  rw [hnow, hbus] at htimer
  rw [hmtok, htok, hkey] at hauth
  have hlen := a.drawRa_length
  generalize s.tokenKey uid = key at *
  generalize auth1Sent n uid a.drawRa = t at *
  generalize a.drawRa.2 = ra at *
  refine ⟨t, hgo, hstate, ?_⟩
  rw [hauth]
  exact ⟨rfl, rfl, rfl, hlen, hframe, htimer, rfl⟩

theorem exec_tokSelect_short_shows {uid : List Nat} (hup : s.bus.pageUp (tokPage n) = true) (hp : n ≠ 0 ∨ s.dky.wakeHeld = false)
    (h : s.tokState n = 1) (hl : uid.length ≠ 7) :
    ∃ t, exec (.tokSelect dt n uid) s = .next t ∧ t.tokState n = 1 ∧ t.bus = (s.tick dt).bus := by
  obtain ⟨-, hrd, hbus⟩ := (s.tick dt).tokAnswers_shows n
  exact ⟨_, exec_tokSelect_short hup hp h hl, (State.tokState_of_rd (hrd _)).trans h, hbus⟩

/-- Presence shown leaves the ports. -/
theorem State.tokState_presenceTold (s : State) (n : Nat) : s.presenceTold.tokState n = s.tokState n := by
  have hset : (s.setBit (dkyKey R.DKY_STATUS) 3 true).tokState n = s.tokState n :=
    State.tokState_of_rd (s.rd_setBit_ne _ _ _ _ (rk_ne_tokKey (p := dkyPage) (by decide) (by decide) n).symm)
  have hevent : ∀ a : State, (a.dkyEvent 5).tokState n = a.tokState n := fun a => State.fld_of_bits fun i _ =>
    a.bit_raiseFor_kept (unreported_rk (by decide) (by decide) fun h => absurd h (by decide)) dkyPage 5 0 [a.dkyHolder]
  have harm : ∀ (a : State) (i clks : Nat), (a.arm i clks).tokState n = a.tokState n := fun _ _ _ => rfl
  rw [State.presenceTold, harm, hevent, hset]

theorem exec_tokSelect_presence {uid : List Nat} (hup : s.bus.pageUp (tokPage 0) = true) (hheld : s.dky.wakeHeld = true) (h : s.tokState 0 = 0)
    (hd : s.dkyState ≠ 3) : exec (.tokSelect dt 0 uid) s = .next (s.tick dt).showPresence := by
  have hcond : (decide (0 = 0) && (s.tick dt).dky.wakeHeld && decide ((s.tick dt).tokState 0 ≠ 4)) = true := by
    rw [show (s.tick dt).dky.wakeHeld = true from hheld, show (s.tick dt).tokState 0 = 0 from h]
    rfl
  have hshow : (s.tick dt).ifThen (decide (0 = 0) && (s.tick dt).dky.wakeHeld && decide ((s.tick dt).tokState 0 ≠ 4)) State.showPresence =
      (s.tick dt).showPresence := if_pos hcond
  have hd' : (s.tick dt).dkyState ≠ 3 := hd
  have hno : ¬((s.tick dt).presenceTold.dkyState = 3 ∧ (s.tick dt).presenceTold.dkyBoot = true) := fun hc =>
    hd' ((s.tick dt).dkyState_presenceTold.symm.trans hc.1)
  have htold : (s.tick dt).showPresence.tokState 0 ≠ 1 := by
    rw [State.showPresence_eq, if_neg hno, State.tokState_presenceTold, show (s.tick dt).tokState 0 = 0 from h]
    decide
  refine congrArg Host.Outcome.next ((if_neg (by rw [show (s.tick dt).bus.pageUp (tokPage 0) = true from hup]; decide)).trans ?_)
  rw [hshow]
  exact if_pos htold

/-! Replies. -/

theorem State.replied (s : State) (dt i n : Nat) : ((s.tick dt).disarm i).tok n = s.tok n ∧ ((s.tick dt).disarm i).bus.out = s.bus.out ∧
    ((s.tick dt).disarm i).bus.now = s.bus.now + dt ∧ ((s.tick dt).disarm i).tokState n = s.tokState n := ⟨rfl, rfl, rfl, rfl⟩

theorem exec_tokAuth1Reply_shows {bytes : List Nat} (h : s.tokState n = 2) (ha : (s.tok n).awaits = 1) (hl : bytes.length = 17)
    (hb : bytes.headD 0 = 0xA1) (hra : (aesDecrypt (s.tok n).k (bytes.drop 1)).take 8 = (s.tok n).ra) :
    ∃ t, exec (.tokAuth1Reply dt n bytes) s = .next t ∧ t.tokState n = 2 ∧
      (t.tok n).rb = (aesDecrypt (s.tok n).k (bytes.drop 1)).drop 8 ∧ (t.tok n).awaits = 2 ∧
      t.bus.out = .tokFrame n (0xA2 :: aesEncrypt (s.tok n).k ((t.tok n).rb ++ (s.tok n).ra)) :: s.bus.out ∧
      t.bus.timers.find? (tReply n) = some (s.bus.now + dt + clkMs 10) := by
  have hgo := exec_tokAuth1Reply_accepted (dt := dt) h ha hl hb hra
  generalize (aesDecrypt (s.tok n).k (bytes.drop 1)).drop 8 = rb at *
  obtain ⟨htok, hout, hnow, hstate⟩ := s.replied dt (tReply n) n
  obtain ⟨hauth, hframe, htimer, hkept⟩ := ((s.tick dt).disarm (tReply n)).auth2_shows n rb
  rw [htok] at hauth hframe
  rw [hout] at hframe
  rw [hnow] at htimer
  refine ⟨_, hgo, hkept.trans (hstate.trans h), ?_⟩
  rw [hauth]
  exact ⟨rfl, rfl, hframe, htimer⟩

theorem exec_tokAuth2Reply_shows (h : s.tokState n = 2) (ha : (s.tok n).awaits = 2) : ∃ t, exec (.tokAuth2Reply dt n [0xA2, 0x00]) s = .next t ∧
    t.tokState n = 2 ∧ (t.tok n).awaits = 3 ∧ t.bus.out = .tokFrame n [0xB0] :: s.bus.out ∧ (t.tok n).ks = (s.tok n).sessionKey := by
  obtain ⟨htok, hout, -, hstate⟩ := s.replied dt (tReply n) n
  obtain ⟨hasked, hframe, hkept⟩ := ((s.tick dt).disarm (tReply n)).readAsked_shows n
  rw [htok] at hasked
  rw [hout] at hframe
  have hgo := exec_tokAuth2Reply_accepted (dt := dt) h ha
  generalize ((s.tick dt).disarm (tReply n)).readAsked n = t at *
  generalize (s.tok n).sessionKey = key at *
  refine ⟨t, hgo, hkept.trans (hstate.trans h), ?_⟩
  rw [hasked]
  exact ⟨rfl, hframe, rfl⟩

theorem exec_tokReplyTimeout_shows (hdue : (s.tick dt).due (tReply n) = true) (h : s.tokState n = 2) (ha : (s.tok n).awaits = 1) :
    ∃ t, exec (.tokReplyTimeout dt n) s = .next t ∧ t.tokState n = 1 ∧ t.rd (tokKey n R.TOK_FAILS) = s.rd (tokKey n R.TOK_FAILS) :=
  ⟨_, exec_tokReplyTimeout_uncounted hdue h ha, State.tokState_tokEntered _ n (by decide),
    State.rd_tokEntered_ne _ n 1 (tokKey_ne_off n n) (tokKey_ne_off n n)⟩

/-! The end of a lock-out. -/

/-- A port that polls again, its idle time restarted where it would stop at once. -/
def State.unlocked (s : State) (n now : Nat) : State :=
  (s.tokEntered n 1).ifThen (s.tokIdle n) (·.modTok n (fun t => { t with answered := now }))

theorem State.rd_unlocked (s : State) (n now k : Nat) : (s.unlocked n now).rd k = (s.tokEntered n 1).rd k := by
  unfold State.unlocked State.ifThen
  split
  · exact State.rd_modTok _ _ _ _
  · rfl

theorem exec_tokLockoutExpire_shows (hdue : (s.tick dt).due (tLockout n) = true) (h : s.tokState n = 4) :
    ∃ t, exec (.tokLockoutExpire dt n) s = .next t ∧ t.tokState n = 1 ∧ t.fld (tokKey n R.TOK_FAILS) 0 4 = 0 := by
  have hstate : (((s.tick dt).disarm (tLockout n)).setFld (tokKey n R.TOK_FAILS) 0 4 0).tokState n = 4 :=
    (State.tokState_of_rd (State.rd_setFld_ne _ _ _ _ _ _ (tokKey_ne_off n n))).trans h
  have hfails := ((s.tick dt).disarm (tLockout n)).fld_setFld (tokKey n R.TOK_FAILS) 0 4 0 (by decide)
  have hgo : exec (.tokLockoutExpire dt n) s =
      .next ((((s.tick dt).disarm (tLockout n)).setFld (tokKey n R.TOK_FAILS) 0 4 0).unlocked n ((s.tick dt).disarm (tLockout n)).bus.now) := by
    unfold State.unlocked
    rw [← State.tokEnter_stays _ n (.inl rfl)]
    exact congrArg Host.Outcome.next ((if_pos hdue).trans (if_neg (not_not.mpr hstate)))
  refine ⟨_, hgo, ?_⟩
  generalize ((s.tick dt).disarm (tLockout n)).setFld (tokKey n R.TOK_FAILS) 0 4 0 = a at *
  have hrd := a.rd_unlocked n ((s.tick dt).disarm (tLockout n)).bus.now
  exact ⟨(State.tokState_of_rd (hrd _)).trans (a.tokState_tokEntered n (by decide)),
    (State.fld_of_rd ((hrd _).trans (a.rd_tokEntered_ne n 1 (tokKey_ne_off n n) (tokKey_ne_off n n))) 0 4).trans hfails⟩

/-! PING. -/

theorem exec_tokPing_due {s1 : State} (h1 : s1 = ((s.tick dt).disarm (tPing n)).emit (.tokFrame n (s.tok n).ping))
    (hdue : (s.tick dt).due (tPing n) = true) (h : s.tokState n = 3) :
    exec (.tokPing dt n (s.tok n).pong) s = .next (s1.tokStays n (clkMs 250)) ∧
    (∀ reply, reply ≠ (s.tok n).pong → exec (.tokPing dt n reply) s = .next (s1.arm (tPingRetry n) (clkMs 5))) := by
  have hstate : ¬((s.tick dt).disarm (tPing n)).tokState n ≠ 3 := not_not.mpr h
  rw [h1]
  exact ⟨congrArg Host.Outcome.next ((if_pos hdue).trans ((if_neg hstate).trans (if_pos rfl))),
    fun reply hr => congrArg Host.Outcome.next ((if_pos hdue).trans ((if_neg hstate).trans (if_neg hr)))⟩

theorem exec_tokPingRetry_due {s1 : State} (h1 : s1 = ((s.tick dt).disarm (tPingRetry n)).emit (.tokFrame n (s.tok n).ping))
    (hdue : (s.tick dt).due (tPingRetry n) = true) (h : s.tokState n = 3) :
    exec (.tokPingRetry dt n (s.tok n).pong) s = .next (s1.tokStays n (clkMs 245)) ∧
    (∀ reply, reply ≠ (s.tok n).pong → exec (.tokPingRetry dt n reply) s = .next (s1.tokLeaves n)) := by
  have hstate : ¬((s.tick dt).disarm (tPingRetry n)).tokState n ≠ 3 := not_not.mpr h
  rw [h1]
  exact ⟨congrArg Host.Outcome.next ((if_pos hdue).trans ((if_neg hstate).trans (if_pos rfl))),
    fun reply hr => congrArg Host.Outcome.next ((if_pos hdue).trans ((if_neg hstate).trans (if_neg hr)))⟩

/-- The count of PINGs goes on, and the next is due. -/
def State.pinged (s : State) (n clks : Nat) : State := (s.modTok n (fun t => { t with counter := (t.counter + 1) % 2 ^ 32 })).arm (tPing n) clks

theorem State.pinged_shows (s : State) (n clks : Nat) : (s.pinged n clks).tokState n = s.tokState n ∧
    (s.pinged n clks).bus.timers.find? (tPing n) = some (s.bus.now + clks) ∧ (s.bus.Ranged → (s.pinged n clks).bus.Ranged) :=
  ⟨rfl, State.find_arm _ _ _, fun hr => hr⟩

theorem State.tokStays_eq (s : State) (n clks : Nat) : s.tokStays n clks =
    ((s.pinged n clks).tokJudge n).ifThen (!((s.pinged n clks).tokJudge n).tokValid n) (·.relayOff n) := rfl

/-- A token that stays: a revocation or expiry takes the relay demand off (R394). -/
theorem State.tokStays_shows (hr : s.bus.Ranged) (hn : n < 8) (h : s.tokState n = 3) (clks : Nat) : (s.tokStays n clks).tokState n = 3 ∧
    (s.tokStays n clks).bus.timers.find? (tPing n) = some (s.bus.now + clks) ∧
    ((s.tokStays n clks).tokValid n = false → (s.tokStays n clks).tokRelayOn n = false) := by
  obtain ⟨hstate, htimer, hset⟩ := s.pinged_shows n clks
  have hset := hset hr
  rw [s.tokStays_eq]
  generalize s.pinged n clks = p at *
  obtain ⟨hkept, -, -⟩ := State.tokJudge_shows hset hn
  have hjset := hkept.ranged hset
  generalize p.tokJudge n = j at *
  have hjstate : j.tokState n = 3 := (hkept.tokState (by decide)).trans (hstate.trans h)
  have hjtimer := (hkept.timers _ (tRelay_ne n).1).trans htimer
  cases hv : j.tokValid n with
  | true => exact ⟨hjstate, hjtimer, fun hf => absurd (hf.symm.trans hv) (by decide)⟩
  | false =>
    obtain ⟨hoff, hrelay⟩ := State.relayOff_shows hjset hn
    exact ⟨(hoff.tokState (by decide)).trans hjstate, (hoff.timers _ (tRelay_ne n).1).trans hjtimer, fun _ => hrelay⟩

/-- A token that has left, told. -/
def State.leftTold (s : State) (n : Nat) : State := (s.tokEntered n 1).raise (tokPage n) 4

theorem State.tokLeaves_eq (s : State) (n : Nat) : s.tokLeaves n =
    if (s.leftTold n).tokRelayOn n && !(s.leftTold n).tokPulse n then
      (if (s.leftTold n).tokTime n = 0 then (s.leftTold n).relayOff n else (s.leftTold n).arm (tRelay n) ((s.leftTold n).tokTime n))
    else s.leftTold n := by
  unfold State.tokLeaves State.leftTold
  rw [← State.tokEnter_stays s n (.inl rfl)]

theorem State.leftTold_shows (hr : s.bus.Ranged) (hn : n < 8) : (s.leftTold n).tokState n = 1 ∧ (s.leftTold n).pend (tokPage n) 4 = true ∧
    (s.leftTold n).tokRelayOn n = s.tokRelayOn n ∧ (s.leftTold n).tokPulse n = s.tokPulse n ∧ (s.leftTold n).tokTime n = s.tokTime n ∧
    (s.leftTold n).bus.now = s.bus.now ∧ (s.leftTold n).bus.Ranged := by
  have hp := plainPage_tok hn
  have hset := s.ranged_tokEntered n 1 hr
  have hstatus := hp.rd_raise hp hset 4 (off := R.TOK_STATUS)
  have hrelay : (s.leftTold n).rd (tokKey n R.TOK_RELAY) = s.rd (tokKey n R.TOK_RELAY) :=
    (hp.rd_raise hp hset 4 (off := R.TOK_RELAY)).trans (s.rd_tokEntered_ne n 1 (tokKey_ne_off n n) (tokKey_ne_off n n))
  refine ⟨(State.tokState_of_rd hstatus).trans (s.tokState_tokEntered n (by decide)), hp.pend_raise hset 4 (by decide), ?_,
    State.bit_of_rd hrelay 7, congrArg clkMs (State.fld_of_rd hrelay 16 16), (hp.raise_now _ 4).trans (s.now_tokEntered n 1), hp.ranged_raise hset 4⟩
  exact (State.bit_of_rd hstatus 3).trans (s.bit_tokEntered n 1 (by decide))

/-- A token that leaves: a held relay stays for its time (R391, R392). -/
theorem State.tokLeaves_shows (hr : s.bus.Ranged) (hn : n < 8) : (s.tokLeaves n).tokState n = 1 ∧ (s.tokLeaves n).pend (tokPage n) 4 = true ∧
    (s.tokRelayOn n = true → s.tokPulse n = false → 0 < s.tokTime n → (s.tokLeaves n).tokRelayOn n = true ∧
      (s.tokLeaves n).bus.timers.find? (tRelay n) = some (s.bus.now + s.tokTime n)) := by
  obtain ⟨hstate, hpend, hon, hpulse, htime, hnow, hset⟩ := State.leftTold_shows hr hn
  have hoff := (State.relayOff_shows hset hn).1
  have harm := (State.TokKept.refl (s.leftTold n) n []).armRelay (s.tokTime n)
  rw [s.tokLeaves_eq, hon, hpulse, htime]
  generalize s.leftTold n = t at *
  by_cases hheld : (s.tokRelayOn n && !s.tokPulse n) = true
  · rw [if_pos hheld]
    by_cases h0 : s.tokTime n = 0
    · rw [if_pos h0]
      exact ⟨(hoff.tokState (by decide)).trans hstate, hoff.pend 4 hpend, fun _ _ hpos => absurd h0 (Nat.pos_iff_ne_zero.mp hpos)⟩
    · rw [if_neg h0]
      refine ⟨(harm.tokState (by decide)).trans hstate, harm.pend 4 hpend, fun h1 _ _ => ⟨(harm.bits 3 List.not_mem_nil).trans (hon.trans h1), ?_⟩⟩
      rw [State.find_arm, hnow]
  · rw [if_neg hheld]
    exact ⟨hstate, hpend, fun h1 h2 _ => absurd (by rw [h1, h2]; rfl) hheld⟩

/-! Polling stops, and goes on. -/

theorem exec_tokIdleStop_off (h : s.tokState n ≠ 1 ∨ (s.tick dt).tokIdle n = false) : exec (.tokIdleStop dt n) s = .next (s.tick dt) :=
  congrArg Host.Outcome.next (if_neg fun hc => h.elim (absurd hc.1) fun hf => absurd (hf.symm.trans hc.2) (by decide))

theorem exec_tokIdleStop_shows (hr : s.bus.Ranged) (hn : n < 8) (h : s.tokState n = 1) (hidle : (s.tick dt).tokIdle n = true) :
    ∃ t, exec (.tokIdleStop dt n) s = .next t ∧ t.tokState n = 5 ∧ t.pend (tokPage n) 6 = true := by
  have hp := plainPage_tok hn
  have hset := (s.tick dt).ranged_tokEntered n 5 hr
  have hkept := (State.relayOff_shows hset hn).1
  have hstate := (s.tick dt).tokState_tokEntered n (st := 5) (by decide)
  have hrset := hkept.ranged hset
  have hgo : exec (.tokIdleStop dt n) s = .next ((((s.tick dt).tokEntered n 5).relayOff n).raise (tokPage n) 6) := by
    rw [← State.tokEnter_ends _ n (.inr (.inr rfl))]
    exact congrArg Host.Outcome.next (if_pos ⟨h, hidle⟩)
  exact ⟨_, hgo, (State.tokState_of_rd (hp.rd_raise hp hrset 6 (off := R.TOK_STATUS))).trans ((hkept.tokState (by decide)).trans hstate),
    hp.pend_raise hrset 6 (by decide)⟩

/-- TOK_CTRL as it is written. -/
def State.ctrlSet (s : State) (n v : Nat) : State := s.wr (tokKey n R.TOK_CTRL) (v % 2)

/-- What follows a write of POLL_EN. -/
def State.pollSet (s : State) (n : Nat) (on : Bool) : State :=
  if on then s
  else if s.tokState n = 0 then (if s.pageEn (tokPage n) then s.tokOn n else s)
  else s.tokResume n

theorem exec_tokPollEnable_goes {vi v : Nat} (ha : s.bus.pageAccess (tokPage n) vi = 2) (hup : s.bus.pageUp (tokPage n) = true) :
    exec (.tokPollEnable dt vi n v) s = .next (((s.tick dt).ctrlSet n v).pollSet n (s.bit (tokKey n R.TOK_CTRL) 0 || !bitOf 0 v)) :=
  congrArg Host.Outcome.next (State.guardWrite_owner (s.tick dt) vi _ _ ha hup)

theorem State.ctrlSet_shows (s : State) (n v : Nat) : (s.ctrlSet n v).bit (tokKey n R.TOK_CTRL) 0 = bitOf 0 v ∧
    (∀ k, k ≠ tokKey n R.TOK_CTRL → (s.ctrlSet n v).rd k = s.rd k) ∧ (s.ctrlSet n v).bus.now = s.bus.now ∧
    (∀ i, (s.ctrlSet n v).bus.running i = s.bus.running i) ∧ (s.bus.Ranged → (s.ctrlSet n v).bus.Ranged) := by
  refine ⟨(congrArg (bitOf 0) (s.rd_wr _ _)).trans ?_, fun k hk => s.rd_wr_ne _ _ _ hk, rfl, fun _ => rfl, fun hr => hr.wr _ _⟩
  show decide (v % 2 % 2 ^ 32 / 2 ^ 0 % 2 = 1) = decide (v / 2 ^ 0 % 2 = 1)
  congr 1
  rw [pow_zero, Nat.div_one, Nat.div_one]
  exact congrArg (· = 1) (by omega)

theorem State.tokOn_polls (h : s.bus.running (tLockout n) = false) (hc : s.bit (tokKey n R.TOK_CTRL) 0 = true) : s.tokOn n = s.tokEntered n 1 := by
  rw [← State.tokEnter_stays s n (.inl rfl)]
  exact (if_neg (by rw [h]; decide)).trans (if_pos hc)

/-- A port back from STOPPED, before it is told. -/
def State.resumed (s : State) (n : Nat) : State := (s.tokEntered n 1).modTok n (fun t => { t with answered := s.bus.now })

theorem State.tokResume_goes (h : s.tokState n = 5) : s.tokResume n = (s.resumed n).raise (tokPage n) 6 := by
  unfold State.resumed
  rw [← State.tokEnter_stays s n (.inl rfl)]
  exact if_neg (not_not.mpr h)

theorem State.tok_raise (s : State) (page i n : Nat) : (s.raise page i).tok n = s.tok n := rfl

theorem State.tokResume_shows (hr : s.bus.Ranged) (hn : n < 8) (h : s.tokState n = 5) : (s.tokResume n).tokState n = 1 ∧
    (s.tokResume n).pend (tokPage n) 6 = true ∧ (s.tokResume n).rd (tokKey n R.TOK_CTRL) = s.rd (tokKey n R.TOK_CTRL) ∧
    ((s.tokResume n).tok n).answered = s.bus.now := by
  have hp := plainPage_tok hn
  have hset := s.ranged_tokEntered n 1 hr
  have hstate := s.tokState_tokEntered n (st := 1) (by decide)
  have hctrl := s.rd_tokEntered_ne n 1 (k := tokKey n R.TOK_CTRL) (tokKey_ne_off n n) (tokKey_ne_off n n)
  rw [State.tokResume_goes h, State.tok_raise, State.resumed, State.tok_modTok]
  generalize s.tokEntered n 1 = t at *
  have hrd := t.rd_modTok n (fun x => { x with answered := s.bus.now })
  rw [← t.bus_modTok n (fun x => { x with answered := s.bus.now })] at hset
  generalize t.modTok n (fun x => { x with answered := s.bus.now }) = w at *
  exact ⟨(State.tokState_of_rd ((hp.rd_raise hp hset 6 (off := R.TOK_STATUS)).trans (hrd _))).trans hstate, hp.pend_raise hset 6 (by decide),
    (hp.rd_raise hp hset 6 (off := R.TOK_CTRL)).trans ((hrd _).trans hctrl), rfl⟩

theorem exec_tokPollEnable_resumes {vi v : Nat} (hr : s.bus.Ranged) (hn : n < 8) (ha : s.bus.pageAccess (tokPage n) vi = 2)
    (hup : s.bus.pageUp (tokPage n) = true) (hc : s.bit (tokKey n R.TOK_CTRL) 0 = false) (hv : bitOf 0 v = true) (h : s.tokState n = 5) :
    ∃ t, exec (.tokPollEnable dt vi n v) s = .next t ∧ t.tokState n = 1 ∧ t.pend (tokPage n) 6 = true ∧
      t.bit (tokKey n R.TOK_CTRL) 0 = true ∧ (t.tok n).answered = s.bus.now + dt := by
  obtain ⟨hbit, hrd, hnow, -, hset⟩ := (s.tick dt).ctrlSet_shows n v
  have hset := hset hr
  rw [exec_tokPollEnable_goes ha hup, hc, hv]
  generalize (s.tick dt).ctrlSet n v = t at *
  have hstate : t.tokState n = 5 := (State.tokState_of_rd (hrd _ (tokKey_ne_off n n))).trans h
  have hgo : t.pollSet n (false || !true) = t.tokResume n := (if_neg (by decide)).trans (if_neg (by rw [hstate]; decide))
  obtain ⟨h1, h6, hctrl, hans⟩ := State.tokResume_shows hset hn hstate
  rw [hgo]
  exact ⟨_, rfl, h1, h6, (State.bit_of_rd hctrl 0).trans (hbit.trans hv), hans.trans hnow⟩

theorem exec_tokPollEnable_off {vi v : Nat} (ha : s.bus.pageAccess (tokPage n) vi = 2) (hup : s.bus.pageUp (tokPage n) = true)
    (hv : bitOf 0 v = false) : ∃ t, exec (.tokPollEnable dt vi n v) s = .next t ∧ t.bit (tokKey n R.TOK_CTRL) 0 = false ∧
      (s.tick dt).After t [tokKey n R.TOK_CTRL] := by
  have hgo : ((s.tick dt).ctrlSet n v).pollSet n (s.bit (tokKey n R.TOK_CTRL) 0 || !bitOf 0 v) = (s.tick dt).ctrlSet n v :=
    if_pos (by rw [hv, Bool.not_false, Bool.or_true])
  rw [exec_tokPollEnable_goes ha hup, hgo]
  exact ⟨_, rfl, ((s.tick dt).ctrlSet_shows n v).1.trans hv, (State.After.refl _ _).wr _ _ (List.mem_singleton_self _)⟩

theorem exec_tokPollEnable_polls {vi v : Nat} (ha : s.bus.pageAccess (tokPage n) vi = 2) (hup : s.bus.pageUp (tokPage n) = true)
    (hc : s.bit (tokKey n R.TOK_CTRL) 0 = false) (hv : bitOf 0 v = true) (h : s.tokState n = 0) (hen : s.pageEn (tokPage n) = true)
    (hlock : s.bus.running (tLockout n) = false) : ∃ t, exec (.tokPollEnable dt vi n v) s = .next t ∧ t.tokState n = 1 := by
  obtain ⟨hbit, hrd, -, hrun, -⟩ := (s.tick dt).ctrlSet_shows n v
  rw [exec_tokPollEnable_goes ha hup, hc, hv]
  generalize (s.tick dt).ctrlSet n v = t at *
  have hstate : t.tokState n = 0 := (State.tokState_of_rd (hrd _ (tokKey_ne_off n n))).trans h
  have hpage : t.pageEn (tokPage n) = true := (State.bit_of_rd (hrd _ (rk_ne_of_off (o := hdrPageStatus) (o' := R.TOK_CTRL))) 0).trans hen
  have hgo : t.pollSet n (false || !true) = t.tokEntered n 1 :=
    (if_neg (by decide)).trans ((if_pos hstate).trans ((if_pos hpage).trans (State.tokOn_polls ((hrun _).trans hlock) (hbit.trans hv))))
  rw [hgo]
  exact ⟨_, rfl, t.tokState_tokEntered n (by decide)⟩

/-! The signature. -/

theorem State.tokSign_unsealed (h : s.dkyState ≠ 3) : s.tokSign n = s := if_pos (.inl h)

/-- Whether a principal is the token's at a port. -/
def State.tokFits (s : State) (n i : Nat) : Bool :=
  prinValid (s.bus.prinWords i) && decide (prinKind (s.bus.prinWords i) = 2) &&
    decide (prinToken (s.bus.prinWords i) = s.fld (tokKey n R.TOK_HOLDER) 0 24) && bitOf n (prinPorts (s.bus.prinWords i))

/-- Whether a token may sign now. -/
def State.signReady (s : State) (n : Nat) : Prop := ¬(s.dkyState ≠ 3 ∨ s.dky.expiring = true ∨ (!s.tokValid n) = true ∨
  (!bitOf 30 (s.rd (tokKey n R.TOK_CFG))) = true ∨
  (!s.bit (rk (Block.swi.pg 0) (R.SWI_STATE_LO + 4 * (fieldOf 24 6 (s.rd (tokKey n R.TOK_CFG)) / 32))) (fieldOf 24 6 (s.rd (tokKey n R.TOK_CFG)) % 32)) = true)

theorem State.tokSign_goes {i : Nat} (h : s.signReady n) (hf : (List.range 64).find? (s.tokFits n) = some i) :
    s.tokSign n = s.takeSig i (s.judgeSig i (s.bus.prinWords i) (some s.dky.prop) true) := by
  refine (if_neg h).trans ?_
  show (match (List.range 64).find? (s.tokFits n) with
    | some i => s.takeSig i (s.judgeSig i (s.bus.prinWords i) (some s.dky.prop) true)
    | none => s) = _
  rw [hf]

theorem find_range_eq {p : Nat → Bool} {k i : Nat} (hi : i < k) (hp : p i = true) (hno : ∀ j, j < i → p j = false) :
    (List.range k).find? p = some i :=
  List.find?_range_eq_some.mpr ⟨hp, List.mem_range.mpr hi, fun j hj => by rw [hno j hj]; rfl⟩

/-- The first principal that is the token's signs the sealed proposal, with the confirm input set (R393). -/
theorem State.tokSign_first {i : Nat} (hd : s.dkyState = 3) (he : s.dky.expiring = false) (hv : s.tokValid n = true)
    (hc : s.bit (tokKey n R.TOK_CFG) 30 = true) (hi : i < 64) (hprin : prinValid (s.bus.prinWords i) = true) (hkind : prinKind (s.bus.prinWords i) = 2)
    (hno : prinToken (s.bus.prinWords i) = s.fld (tokKey n R.TOK_HOLDER) 0 24) (hport : bitOf n (prinPorts (s.bus.prinWords i)) = true)
    (hfirst : ∀ j, j < i → prinToken (s.bus.prinWords j) ≠ s.fld (tokKey n R.TOK_HOLDER) 0 24)
    (hlevel : s.bit (rk (Block.swi.pg 0) (R.SWI_STATE_LO + 4 * (s.fld (tokKey n R.TOK_CFG) 24 6 / 32))) (s.fld (tokKey n R.TOK_CFG) 24 6 % 32) = true) :
    s.tokSign n = s.takeSig i (s.judgeSig i (s.bus.prinWords i) (some s.dky.prop) true) := by
  have hcfg : bitOf 30 (s.rd (tokKey n R.TOK_CFG)) = true := hc
  have hin : s.bit (rk (Block.swi.pg 0) (R.SWI_STATE_LO + 4 * (fieldOf 24 6 (s.rd (tokKey n R.TOK_CFG)) / 32)))
      (fieldOf 24 6 (s.rd (tokKey n R.TOK_CFG)) % 32) = true := hlevel
  have hready : s.signReady n := by
    rw [State.signReady, hd, he, hv, hcfg, hin]
    decide
  refine State.tokSign_goes hready (find_range_eq hi ?_ fun j hj => ?_)
  · rw [State.tokFits, hprin, hport, decide_eq_true hkind, decide_eq_true hno]
    rfl
  · rw [State.tokFits, decide_eq_false (hfirst j hj), Bool.and_false, Bool.false_and]

end

/-! ### A card in the field -/

section
variable {s : State} {dt n : Nat}

theorem exec_tokPoll_card (h : s.tokState n = 1) (hw : s.bus.inWatch (17 + n) = false) : exec (.tokPoll dt n true) s = .next ((s.tick dt).wake 4) := by
  have hwatch : ¬(s.tick dt).bus.inWatch (17 + n) = true := fun hc => absurd (hc.symm.trans hw) (by decide)
  exact congrArg Host.Outcome.next ((if_pos ⟨h, rfl⟩).trans (congrArg (State.wake · 4) (if_neg hwatch)))

theorem exec_tokPoll_off {card : Bool} (h : s.tokState n ≠ 1 ∨ card = false) : exec (.tokPoll dt n card) s = .next (s.tick dt) :=
  congrArg Host.Outcome.next (if_neg fun hc => h.elim (absurd hc.1) fun hf => absurd (hf.symm.trans hc.2) (by decide))

end

/-- Settles O49: what an exchange shows follows from the port as it is entered (`State.tokEntered`), what a success shows from the token as it is
judged (`State.tokJudge_shows`), and the signature from the first principal that fits (`State.tokSign_first`). -/
theorem tokensAuthenticateStayReleaseAndSign : Obligations.TokensAuthenticateStayReleaseAndSign := by
  unfold Obligations.TokensAuthenticateStayReleaseAndSign
  refine ⟨fun dt n s h hw => exec_tokPoll_card h hw, fun dt n card s h => exec_tokPoll_off h,
    fun dt n uid s _ hup hp h hl hrng => exec_tokSelect_shows hup hp h hl hrng, fun dt n uid s hup hp h hl => exec_tokSelect_short_shows hup hp h hl,
    fun dt uid s hup hheld h hd => exec_tokSelect_presence hup hheld h hd, fun dt n bytes s h ha hl hb hra => exec_tokAuth1Reply_shows h ha hl hb hra,
    fun dt n bytes s h ha hno => exec_tokAuth1Reply_refused h ha hno, fun dt n s h ha => exec_tokAuth2Reply_shows h ha,
    fun dt n bytes s h ha hno => exec_tokAuth2Reply_refused h ha hno, fun dt n c s h ha hc hm => exec_tokReadReply_accepted h ha hc hm,
    fun dt n bytes s h ha hno => exec_tokReadReply_refused h ha hno, fun dt n s hdue h ha => exec_tokReplyTimeout_shows hdue h ha,
    fun dt n s hdue h ha => exec_tokReplyTimeout_fails hdue h ha, fun s n f hr hn hf => State.tokFail_shows hr hn hf,
    fun s n r hr hn _ => ⟨_, s.tokSucceed_eq n r, State.succeeded_shows s n r hr hn rfl⟩,
    fun dt n s _ _ hdue h => exec_tokLockoutExpire_shows hdue h, fun dt n s s1 h1 hdue h => exec_tokPing_due h1 hdue h,
    fun dt n s s1 h1 hdue h => exec_tokPingRetry_due h1 hdue h, fun s n clks hr hn h => State.tokStays_shows hr hn h clks,
    fun s n hr hn => State.tokLeaves_shows hr hn, fun dt n s hr hn h hidle _ => exec_tokIdleStop_shows hr hn h hidle,
    fun dt n s h => exec_tokIdleStop_off h, fun dt vi n v s hr hn ha hup hc hv h => exec_tokPollEnable_resumes hr hn ha hup hc hv h,
    fun dt vi n v s _ ha hup hv => exec_tokPollEnable_off ha hup hv,
    fun dt vi n v s _ ha hup hc hv h hen hlock => exec_tokPollEnable_polls ha hup hc hv h hen hlock,
    fun dt n s hdue => congrArg Host.Outcome.next (if_pos hdue), fun s n on hr hn => State.setRelay_shows hr hn on,
    fun s n hr hn h => State.tokRelease_load_shows hr hn h, fun s n h hw => State.tokRelease_coil h hw, fun s n i w hd he hv hc hi hw => ?_,
    fun s n h => State.tokSign_unsealed h, fun dt n s => rfl⟩
  subst hw
  exact State.tokSign_first hd he hv hc hi

end Sys2Proof.Machine
end
